-- ==== Sys2Proof/Word.lean ====
section
/-! DEFINITION. The word types of the module and their plainest reading: registers are 32 bits, Paddock locations
64 bits, memory bytes 8 bits, Canter data registers 16 bits and accumulators 40 bits. -/

namespace Sys2Proof

abbrev Word := BitVec 32
abbrev DWord := BitVec 64
abbrev Byte := BitVec 8
abbrev Half := BitVec 16
abbrev Acc := BitVec 40

/-- The word that holds the low 32 bits of a number. -/
abbrev W (n : Nat) : Word := BitVec.ofNat 32 n

/-- The word that holds an integer in two's complement. -/
abbrev Wi (z : Int) : Word := BitVec.ofInt 32 z

end Sys2Proof
end

