-- ==== Sys2Proof/Syntax.lean ====
section
/-! DEFINITION. The commands of the module: one constructor per row of spec/opcode_table.json, with the operands
the row's rule gives it. A measured or outside quantity a step needs is an operand (log 4). -/

namespace Sys2Proof


/-- A command: an operation, a register access, a pin event or a time-driven event of the module. -/
inductive Instr where
  /-- REGISTER_WRITE (R17): A core write to a register or field that has no row of its own acts as its access code, the field's range checks and any refusal rule state, or raises an access fault under R53. -/
  | registerWrite (core a : Nat) (v : Word)
  /-- RC_COUNTER_READ (R17): A core read of an RC register returns the field and then clears it. -/
  | rcCounterRead (core : Nat) (a : Nat × Nat)
  /-- DTB_LO_READ (R34): A read of DTB_LO returns DTB bits [31:0] and latches bits [63:32] in DTB_HI for the reading core. -/
  | dtbLoRead (core : Nat)
  /-- SYSTEM_BOUNDARY_1MS (R29): DTB reaches an integer multiple of 400,000, which is a 1 ms system boundary. -/
  | systemBoundary1ms
  /-- MODE_ENTRY_RECHECK (R46): At the 1 ms boundary after an admitted SET_MODE the mode machine checks the entry conditions again and enters LEAVING or writes the current mode back to S.0.0011. -/
  | modeEntryRecheck
  /-- MODE_LEAVING_DONE (R47): All running stages that the target mode does not allow have stopped, and the mode machine enters ENTERING. -/
  | modeLeavingDone
  /-- MODE_ENTERING_DONE (R47): The required domains are on and the stages released, and the mode machine writes the target to S.0.0010 and returns to STABLE. -/
  | modeEnteringDone
  /-- PADDOCK_CORE_WRITE (R69): A core store to a Paddock value word or value location is checked for ownership and size and written with its meta word, or refused with an access fault. -/
  | paddockCoreWrite (core a size : Nat) (v : DWord)
  /-- DESCRIPTOR_WRITE (R63): A Team S 64-bit store to a descriptor in groups D-F is checked and either sets the descriptor and clears the signal's words or is refused. -/
  | descriptorWrite (core a size : Nat) (v : DWord)
  /-- PADDOCK_BANK_ACCESS (R77): A Paddock bank performs a pending access of a converter entry, law, bus object, core, recorder or sweep once it wins bank arbitration. -/
  | paddockBankAccess (b : Nat)
  /-- GENERATOR_PERIOD_START (R180): A generator counter reaches count 0, giving a period start with its load point and events. -/
  | generatorPeriodStart (g : Nat)
  /-- GENERATOR_CENTRE (R180): An up-down generator counter reaches per, giving the centre event and load point. -/
  | generatorCentre (g : Nat)
  /-- COMPARE_A_MATCH (R187): The up-count reaches the coarse part of compare A and the generator raises its compare A match event. -/
  | compareAMatch (g : Nat)
  /-- REFERENCE_EDGE (R188): The reference level r changes at a compare edge time, turning one switch off and scheduling the other's turn-on after dead time. -/
  | referenceEdge (g : Nat)
  /-- DEAD_TIME_END (R188): Dead time since the complement's turn-off elapses and the scheduled switch turns on. -/
  | deadTimeEnd (g : Nat)
  /-- STRETCH_TURN_OFF (R192): A stretched pulse reaches turn-on plus MINP, the switch turns off and the complement's turn-on is scheduled. -/
  | stretchTurnOff (g : Nat)
  /-- PWM_ENABLE (R201): A write of PWM_CTRL.en = 1 is checked and either starts or arms the generator or is refused with cfg_err. -/
  | pwmEnable (core : Nat) (g : Nat) (v : Word)
  /-- PWM_DISABLE (R204): A write of PWM_CTRL.en = 0 stops the counter and events and turns both switches off, unless the generator is tripped in a pattern other than OFF. -/
  | pwmDisable (core : Nat) (g : Nat)
  /-- PWM_GSTART (R202): A write to PWM_GSTART starts every named waiting generator together in the next cycle and clears PWM_GSTART_HI. -/
  | pwmGstart (core : Nat) (v : Word)
  /-- PWM_CMP_WRITE (R199): A core write to PWM_CMPA or PWM_CMPB sets the shadow, or is ignored and counted while an enabled law owns the generator. -/
  | pwmCmpWrite (core : Nat) (g : Nat) (b : Nat) (v : Word)
  /-- PWM_PER_WRITE (R200): A write to PWM_PER sets the period shadow or is refused when below 8 or breaking the period condition. -/
  | pwmPerWrite (core : Nat) (g : Nat) (v : Word)
  /-- PWM_TRIP_CLEAR (R217): A write of 1 to PWM_STAT.trip clears the trip and sets RESUMING, or is refused while a line of PWM_TRIPM is active. -/
  | pwmTripClear (core : Nat) (g : Nat)
  /-- COT_START_EVENT (R205): A COT start event arrives and starts a one-shot, or is held when it falls in the on-time or minimum off-time. -/
  | cotStartEvent (g : Nat)
  /-- COT_MIN_OFF_END (R206): The minimum off-time ends and a held start event starts the one-shot. -/
  | cotMinOffEnd (g : Nat)
  /-- COT_FORCED_START (R206): A COT generator without a start for per cycles starts itself and increments PWM_CNT_FORCE. -/
  | cotForcedStart (g : Nat)
  /-- YARROW_MEASUREMENT_DONE (R210): A Yarrow measurement ends and makes a new mapping available, or sets fault and reports to Martingale when N is out of range. -/
  | yarrowMeasurementDone (n : Nat)
  /-- TRIP_IN_PIN_CHANGE (R212): A TRIP_IN pin changes level and the line's filter starts counting. -/
  | tripInPinChange (i : Nat) (level : Bool)
  /-- TRIP_IN_FILTER_EXPIRY (R212): A TRIP_IN pin has held its level for fn cycles and the external trip line changes state. -/
  | tripInFilterExpiry (i : Nat)
  /-- LAW_LATE_MISS (R131): No trigger has arrived by the end of WDUE and the law misses late. -/
  | lawLateMiss (e : Nat) (l : Nat)
  /-- LAW_OUTPUT_WRITE (R134): At T + L the engine writes all outputs staged by a completed execution into the generators' shadow compares. -/
  | lawOutputWrite (e : Nat) (l : Nat)
  /-- LAW_FALLBACK_WRITE (R175): At the fallback cycle of a miss the engine writes the HOLD or CLAMP fallback outputs. -/
  | lawFallbackWrite (e : Nat) (l : Nat)
  /-- LAW_ENABLE (R142): A write of LAW_CTRL.en = 1 starts the static check and sets busy. -/
  | lawEnable (core : Nat) (e : Nat) (l : Nat) (v : Word)
  /-- STATIC_CHECK_DONE (R142): The static check ends and either enables the law from the next frame or leaves it disabled with an error code. -/
  | staticCheckDone (e : Nat) (l : Nat)
  /-- LAW_DISABLE (R147): A write of LAW_CTRL.en = 0 ends any running section, writes nothing staged and releases the law's generators. -/
  | lawDisable (core : Nat) (e : Nat) (l : Nat)
  /-- CE_DISABLE (R147): Clearing CE_CTRL.en disables all four laws of the engine. -/
  | ceDisable (core : Nat) (e : Nat)
  /-- CE_ECC_DOUBLE_ERROR (R149): A double-bit error in law or coefficient memory disables every law of the engine and reports a Stage fault. -/
  | ceEccDoubleError (e : Nat × Bool)
  /-- COEF_MEM_WRITE (R119): A core write to coefficient memory is taken and held until no window of the engine is open. -/
  | coefMemWrite (core : Nat) (e : Nat) (i : Nat) (v : Word)
  /-- COEF_MEM_WRITE_PERFORMED (R119): A held coefficient-memory write is performed in the first cycle with no open window or protected interval. -/
  | coefMemWritePerformed (e : Nat)
  /-- LOOKAHEAD_START (R152): At frame cycle lopen the lookahead section starts, filling banks A and B from the committed registers. -/
  | lookaheadStart (e : Nat) (l : Nat)
  /-- NOP (R126): Canter instruction that does nothing. -/
  | canNop (e : Nat) (l : Nat)
  /-- END (R140): Canter instruction that ends its section, snapshotting tags or validating a lookahead. -/
  | canEnd (e : Nat) (l : Nat)
  /-- SKIP (R125): Canter instruction that passes over the next n instructions when its condition holds. -/
  | canSkip (e : Nat) (l : Nat) (cond : Nat) (r : Nat) (n : Nat)
  /-- CMP (R126): Canter instruction that sets N and Z from x − y. -/
  | canCmp (e : Nat) (l : Nat) (x : Nat) (y : Nat)
  /-- TST (R126): Canter instruction that sets N and Z from x. -/
  | canTst (e : Nat) (l : Nat) (x : Nat)
  /-- LDI (R126): Canter instruction that loads an immediate into a data register. -/
  | canLdi (e : Nat) (l : Nat) (d : Nat) (imm : Nat)
  /-- MOV (R126): Canter instruction that copies a register and its tag. -/
  | canMov (e : Nat) (l : Nat) (d : Nat) (x : Nat)
  /-- ADD (R126): Canter instruction that adds two registers with saturation. -/
  | canAdd (e : Nat) (l : Nat) (d : Nat) (x : Nat) (y : Nat)
  /-- SUB (R126): Canter instruction that subtracts two registers with saturation. -/
  | canSub (e : Nat) (l : Nat) (d : Nat) (x : Nat) (y : Nat)
  /-- NEG (R126): Canter instruction that negates a register with saturation. -/
  | canNeg (e : Nat) (l : Nat) (d : Nat) (x : Nat)
  /-- ABS (R126): Canter instruction that takes the magnitude of a register with saturation. -/
  | canAbs (e : Nat) (l : Nat) (d : Nat) (x : Nat)
  /-- MIN (R126): Canter instruction that writes the smaller of two registers. -/
  | canMin (e : Nat) (l : Nat) (d : Nat) (x : Nat) (y : Nat)
  /-- MAX (R126): Canter instruction that writes the larger of two registers. -/
  | canMax (e : Nat) (l : Nat) (d : Nat) (x : Nat) (y : Nat)
  /-- LIM (R126): Canter instruction that limits a register between two bounds and tags a change. -/
  | canLim (e : Nat) (l : Nat) (d : Nat) (x : Nat) (lo : Nat) (hi : Nat)
  /-- SHF (R605): Canter instruction that scales a register by a power of two with rounding and saturation. -/
  | canShf (e : Nat) (l : Nat) (d : Nat) (x : Nat) (k : Nat)
  /-- ADDW (R126): Canter instruction that adds two registers modulo 2^16. -/
  | canAddw (e : Nat) (l : Nat) (d : Nat) (x : Nat) (y : Nat)
  /-- MUL (R126): Canter instruction that sets an accumulator to a product. -/
  | canMul (e : Nat) (l : Nat) (a : Nat) (x : Nat) (y : Nat)
  /-- MAC (R126): Canter instruction that adds a product to an accumulator. -/
  | canMac (e : Nat) (l : Nat) (a : Nat) (x : Nat) (y : Nat)
  /-- MSU (R126): Canter instruction that subtracts a product from an accumulator. -/
  | canMsu (e : Nat) (l : Nat) (a : Nat) (x : Nat) (y : Nat)
  /-- MULC (R126): Canter instruction that sets an accumulator to a register times a coefficient. -/
  | canMulc (e : Nat) (l : Nat) (a : Nat) (x : Nat) (k : Nat)
  /-- MACC (R126): Canter instruction that adds a register times a coefficient to an accumulator. -/
  | canMacc (e : Nat) (l : Nat) (a : Nat) (x : Nat) (k : Nat)
  /-- DMAC (R126): Canter instruction that accumulates two products into two accumulators. -/
  | canDmac (e : Nat) (l : Nat) (a : Nat) (x : Nat) (y : Nat)
  /-- DOT (R126): Canter instruction that accumulates the sum of two products. -/
  | canDot (e : Nat) (l : Nat) (a : Nat) (x : Nat) (y : Nat)
  /-- LDA (R126): Canter instruction that loads a register into an accumulator. -/
  | canLda (e : Nat) (l : Nat) (a : Nat) (x : Nat)
  /-- ADDA (R126): Canter instruction that adds one accumulator to another. -/
  | canAdda (e : Nat) (l : Nat) (a : Nat) (b : Nat)
  /-- SUBA (R126): Canter instruction that subtracts one accumulator from another. -/
  | canSuba (e : Nat) (l : Nat) (a : Nat) (b : Nat)
  /-- SHA (R126): Canter instruction that shifts an accumulator with saturation. -/
  | canSha (e : Nat) (l : Nat) (a : Nat) (k : Nat)
  /-- ST (R115): Canter instruction that rounds and saturates an accumulator into a data register. -/
  | canSt (e : Nat) (l : Nat) (d : Nat) (a : Nat)
  /-- SINCOS (R605): Canter instruction that writes the cosine and sine of an angle. -/
  | canSincos (e : Nat) (l : Nat) (d : Nat) (x : Nat)
  /-- PARK (R605): Canter instruction that rotates a vector by an angle. -/
  | canPark (e : Nat) (l : Nat) (d : Nat) (x : Nat) (y : Nat) (th : Nat)
  /-- IPARK (R605): Canter instruction that rotates a vector back by an angle. -/
  | canIpark (e : Nat) (l : Nat) (d : Nat) (x : Nat) (y : Nat) (th : Nat)
  /-- CLARKE (R605): Canter instruction that forms alpha and beta from two phase values. -/
  | canClarke (e : Nat) (l : Nat) (d : Nat) (x : Nat) (y : Nat)
  /-- SVM (R605): Canter instruction that forms three space-vector duties. -/
  | canSvm (e : Nat) (l : Nat) (d : Nat) (x : Nat) (y : Nat)
  /-- DIV (R605): Canter instruction that divides two registers using the divide unit. -/
  | canDiv (e : Nat) (l : Nat) (d : Nat) (x : Nat) (y : Nat)
  /-- SQRT (R605): Canter instruction that takes a square root using the divide unit. -/
  | canSqrt (e : Nat) (l : Nat) (d : Nat) (x : Nat)
  /-- TLU (R121): Canter instruction that interpolates a local 1-D table and sets SEG. -/
  | canTlu (e : Nat) (l : Nat) (d : Nat) (x : Nat) (t : Nat)
  /-- TLT (R122): Canter instruction that interpolates a Paddock 2-D pair table bilinearly. -/
  | canTlt (e : Nat) (l : Nat) (d : Nat) (x : Nat) (y : Nat) (t : Nat)
  /-- LDK (R120): Canter instruction that loads a coefficient into a register. -/
  | canLdk (e : Nat) (l : Nat) (d : Nat) (k : Nat)
  /-- LDS (R137): Canter instruction that reads a Paddock signal through the Paddock port. -/
  | canLds (e : Nat) (l : Nat) (d : Nat) (sg : Nat)
  /-- STS (R137): Canter instruction that posts a write to an owned signal, or holds it in a settle section. -/
  | canSts (e : Nat) (l : Nat) (d : Nat) (sg : Nat)
  /-- LDC (R136): Canter instruction that reads a capture or its snapshot. -/
  | canLdc (e : Nat) (l : Nat) (d : Nat) (k : Nat)
  /-- LDU (R138): Canter instruction that reads a capture after urgent-done, or makes the law miss. -/
  | canLdu (e : Nat) (l : Nat) (d : Nat) (k : Nat)
  /-- URG (R138): Canter instruction that issues an urgent conversion request. -/
  | canUrg (e : Nat) (l : Nat) (u : Nat) (k : Nat)
  /-- INT (R139): Canter instruction that steps a 32-bit integrator unless its link tag was set. -/
  | canInt (e : Nat) (l : Nat) (n : Nat) (x : Nat) (g : Nat) (k : Nat)
  /-- OUTD (R132): Canter instruction that stages a duty as a compare word on an output or into the fallback set. -/
  | canOutd (e : Nat) (l : Nat) (k : Nat) (x : Nat)
  /-- OUTC (R133): Canter instruction that stages a raw compare word on an output. -/
  | canOutc (e : Nat) (l : Nat) (k : Nat) (a : Nat)
  /-- PRD (R160): Canter instruction that reads a capture's prediction. -/
  | canPrd (e : Nat) (l : Nat) (d : Nat) (k : Nat)
  /-- BND (R164): Canter instruction that records a capture bound for branch A or B. -/
  | canBnd (e : Nat) (l : Nat) (b : Nat) (k : Nat) (lo : Nat) (hi : Nat)
  /-- SEL (R168): Canter instruction that decides hit A, hit B or a miss from the snapshot and the bounds. -/
  | canSel (e : Nat) (l : Nat)
  /-- CORR (R171): Canter instruction that corrects a value by a gain times the capture's deviation from its prediction. -/
  | canCorr (e : Nat) (l : Nat) (d : Nat) (x : Nat) (g : Nat) (k : Nat)
  /-- ADC_TRIGGER_DELAY_END (R89): A slot's trigger delay expires and the slot becomes pending. -/
  | adcTriggerDelayEnd (u : Nat) (t : Nat)
  /-- ADC_SLOT_START (R90): A pending slot starts its first entry's sampling at a free CLK_ADC edge. -/
  | adcSlotStart (u : Nat)
  /-- ADC_SAMPLING_END (R83): An entry's sampling phase ends and its conversion phase starts. -/
  | adcSamplingEnd (u : Nat)
  /-- ADC_CONVERSION_END (R84): An entry's conversion phase ends, its result goes to the Paddock and the next entry or waiting work starts. -/
  | adcConversionEnd (u : Nat) (code : Nat) (beyond : Bool)
  /-- ADC_URG_WRITE (R95): A core write to ADC_URG issues an urgent request as requester 13 or 14. -/
  | adcUrgWrite (core : Nat) (u : Nat) (entry : Nat)
  /-- URGENT_REQUEST_EFFECT (R95): An urgent request takes effect at the first CLK_ADC edge after reaching the unit, aborting a sequenced entry, waiting or being refused. -/
  | urgentRequestEffect (u : Nat)
  /-- ADC_SWTRG_WRITE (R89): A write to ADC_SWTRG gives a trigger event to each named slot with skind 5. -/
  | adcSwtrgWrite (core : Nat) (u : Nat) (slots : Nat)
  /-- ADC_CAL_START (R109): A write of ADC_CAL.start while disabled starts offset calibration. -/
  | adcCalStart (core : Nat) (u : Nat)
  /-- ADC_CAL_DONE (R109): Calibration ends, writes ADC_OFS0-3 and clears cal_busy. -/
  | adcCalDone (u : Nat) (m0 : Int) (m1 : Int) (m2 : Int) (m3 : Int)
  /-- ADC_DISABLE (R108): Clearing ADC_CTRL.en aborts running conversions and clears pending slots and the waiting urgent request. -/
  | adcDisable (core : Nat) (u : Nat)
  /-- TRIGGER_TIMER_FIRE (R111): A trigger timer reaches its period and fires. -/
  | triggerTimerFire (n : Nat)
  /-- GATE_COMMAND_ARRIVAL (R225): A changed generator command reaches its channel 18 ns later and the channel begins the edge. -/
  | gateCommandArrival (ch : Nat)
  /-- STRONG_PHASE_END (R229): The strong phase of a gait edge ends after t_pre and the slope phase starts. -/
  | strongPhaseEnd (n : Nat)
  /-- PLATEAU_EXIT (R230): The gate sense leaves the Miller plateau and the channel ends phase 2 and measures the edge. -/
  | plateauExit (n : Nat) (tIn : Nat) (tPl : Nat)
  /-- SLOPE_TIMEOUT (R230): A gait edge reaches 1 µs without plateau exit, ends phase 2 and counts in GCH_CNT_NOPL. -/
  | slopeTimeout (n : Nat)
  /-- GATE_SENSE_MIDPOINT (R234): A plain edge's gate sense crosses the midpoint and the edge qualifies. -/
  | gateSenseMidpoint (n : Nat)
  /-- QUALIFICATION_TIMEOUT (R234): A plain edge misses the midpoint within 300 ns and the qualification count is reset. -/
  | qualificationTimeout (n : Nat)
  /-- LINK_LOSS (R226): An HV channel sees no valid frame for 200 ns, turns its gate off, latches LINK and is reported. -/
  | linkLoss (n : Nat)
  /-- BIAS_UNDERVOLTAGE (R223): An HV channel's bias falls below its threshold, the gate is held off and TL5 becomes active. -/
  | biasUndervoltage (n : Nat)
  /-- BIAS_RECOVERY (R223): An HV channel's bias recovers and a channel in BIASUV enters PLAIN. -/
  | biasRecovery (n : Nat)
  /-- LV_OVERCURRENT (R224): An LV channel output above 6 A for 200 ns turns off, latches an over-current fault and reports it. -/
  | lvOvercurrent (m : Nat)
  /-- LV_BOOTSTRAP_UV (R224): An LV channel's bootstrap rail falls below its threshold and its output is held low. -/
  | lvBootstrapUv (m : Nat)
  /-- LV_BOOTSTRAP_RECOVERY (R224): An LV channel's bootstrap rail recovers and the output follows its generator again. -/
  | lvBootstrapRecovery (m : Nat)
  /-- SENSE_CELL_CROSSING (R244): Gnn_SC crosses V_th outside blanking and the 40 ns detection filter starts. -/
  | senseCellCrossing (n : Nat × Bool)
  /-- SENSE_CELL_DETECTION (R245): The sense-cell input stays above V_th for 40 ns, the channel starts soft turn-off, latches SC and activates its trip line. -/
  | senseCellDetection (n : Nat)
  /-- SOFT_TURN_OFF_END (R245): The 500 ns plateau ends, the gate is sunk to the off-level and the channel enters FAULT. -/
  | softTurnOffEnd (n : Nat)
  /-- PROBE_GATE_LOOP_DONE (R247): The 200 µs gate-loop measurement of a bridge ends and GCH_GLOOP is written. -/
  | probeGateLoopDone (rs : List Nat × Nat)
  /-- PROBE_INJECTION_END (R247): A probe injection window ends and the phase nodes and rails are measured. -/
  | probeInjectionEnd (v0 : List Int) (v1 : List Int) (hi : Int) (lo : Int)
  /-- PROBE_BRIDGE_DONE (R249): A bridge's probe ends, its legs are classified and pass or faults are recorded. -/
  | probeBridgeDone
  /-- GDC_PROBE_START (R250): A write of GDC_PRB.start = 1 in RUN probes the masked bridges again, or is refused. -/
  | gdcProbeStart (core : Nat) (v : Word)
  /-- DRV_EN_PIN_CHANGE (R251): DRV_EN changes level and its 200 ns filter starts. -/
  | drvEnPinChange (level : Bool)
  /-- DRV_EN_FILTERED_LOW (R251): A filtered DRV_EN low turns every HV channel in PLAIN or GAIT off and moves the start sequence. -/
  | drvEnFilteredLow
  /-- DRV_EN_FILTERED_RISE (R251): A filtered DRV_EN rise sets the clear flag after a long low and makes the start sequence pending. -/
  | drvEnFilteredRise
  /-- START_SEQUENCE_PROBE (R253): With every HV channel off for 20 µs and DRV_EN high, the start sequence clears flagged faults and starts the probe. -/
  | startSequenceProbe
  /-- EN_REQ_PULSE (R252): A write of GDC_ENR.pulse = 1 drives EN_REQ low. -/
  | enReqPulse (core : Nat)
  /-- EN_REQ_PULSE_END (R252): After 20 µs the EN_REQ pulse ends and EN_REQ is restored. -/
  | enReqPulseEnd
  /-- DCL_MEAS_SAMPLE (R255): Every 1 µs the module measures the HV DC link and the charger link into DCL_MEAS and CHL_MEAS. -/
  | dclMeasSample (dcl chl : Nat)
  /-- CHOPPER_ON (R256): The link has stayed at or above DCL_CHON for 200 ns and the chopper comparator turns on. -/
  | chopperOn
  /-- CHOPPER_OFF (R256): The link has stayed at or below DCL_CHOFF for 200 ns and the chopper comparator turns off. -/
  | chopperOff
  /-- HARD_OVERVOLTAGE (R256): The link has stayed at or above DCL_OV for 500 ns and TL4 becomes active. -/
  | hardOvervoltage
  /-- HARD_OVERVOLTAGE_RELEASE (R256): The link has stayed below DCL_OV minus hysteresis for 500 ns and TL4 becomes inactive. -/
  | hardOvervoltageRelease
  /-- FORCED_DISCHARGE_REQUEST (R258): A write of DSC_CTRL.req = 1 starts a forced discharge or is refused while a HV stage runs untripped. -/
  | forcedDischargeRequest (core : Nat)
  /-- FORCED_DISCHARGE_DONE (R258): The link has stayed at or below vdone for 1 ms and the forced discharge ends with done set. -/
  | forcedDischargeDone
  /-- FORCED_DISCHARGE_TIMEOUT (R258): The forced discharge reaches tmax and ends with timeout set and a 10 s hold-off. -/
  | forcedDischargeTimeout
  /-- DISCHARGE_HOLDOFF_END (R258): The 10 s hold-off after a discharge timeout ends. -/
  | dischargeHoldoffEnd
  /-- PATH2_TURN_ON (R409): 3 µs after path 2 acts, a switch that its pattern turns on turns on. -/
  | path2TurnOn (n : Nat)
  /-- DRIVE_START (R263): The drive sequencer checks the start conditions and loads and enables the laws and group-starts the generators, or refuses with CONFIG. -/
  | driveStart (d : Nat)
  /-- DRIVE_START_COMPLETE (R289): A valid position and 1 ms of low current release the torque and the drive enters RUN. -/
  | driveStartComplete (d : Nat) (held : Nat)
  /-- DRIVE_START_TIMEOUT (R289): A position fault or 20 ms without the start condition disables the laws and returns the drive to OFF. -/
  | driveStartTimeout (d : Nat)
  /-- DRIVE_DWELL_ENTRY (R284): In DECEL the speed falls below the zero-speed threshold and the drive enters DWELL. -/
  | driveDwellEntry (d : Nat)
  /-- DRIVE_DWELL_END (R284): The dwell time elapses and the drive accepts the new direction and returns to RUN. -/
  | driveDwellEnd (d : Nat)
  /-- DRIVE_STOP (R289): Control mode 0 or a stage stop by the mode machine ramps the torque to zero and enters STOPPING. -/
  | driveStop (d : Nat)
  /-- DRIVE_STOPPED (R289): Torque 0 and speed below n_ss − n_hys disable the laws and generators and the drive enters OFF. -/
  | driveStopped (d : Nat)
  /-- DRIVE_STOP_TIMEOUT (R289): 50 ms after a mode-machine stop with speed still high the sequencer trips the drive through MG_GTRIP and enters SAFE. -/
  | driveStopTimeout (d : Nat)
  /-- DRIVE_SAFE_ENTRY (R289): A trip, a Stage fault or a drive fault disables the laws and the drive enters SAFE. -/
  | driveSafeEntry (d : Nat)
  /-- DRIVE_OVERSPEED (R283): Speed above 1.05 times the maximum for 1 ms raises a Stage fault. -/
  | driveOverspeed (d : Nat) (held : Nat)
  /-- BATTERY_SIDE_LOST (R287): Battery side lost makes each running drive request a generator trip within 200 µs and enter SAFE. -/
  | batterySideLost
  /-- ENCODER_EDGE (R271): A quadrature edge moves the encoder count or sets ENC_STAT.err. -/
  | encoderEdge (d : Nat) (a : Bool) (b : Bool)
  /-- ENCODER_INDEX (R271): A rising index edge with zen = 1 sets the count to 0 and zseen. -/
  | encoderIndex (d : Nat)
  /-- RESOLVER_EXCITATION_FAULT (R265): The excitation current leaves its limits and exc_oc or exc_open is set. -/
  | resolverExcitationFault (d : Nat) (ua : Nat)
  /-- PILOT_PERIOD_CAPTURE (R301): At each pilot falling edge the front end stores the period and high time of the last complete period. -/
  | pilotPeriodCapture (per high glitches : Nat)
  /-- PILOT_STATE_DECODE (R300): A pilot level held for two periods or 2 ms sets the pilot state and allowance. -/
  | pilotStateDecode (pos neg : Int) (held : Nat)
  /-- INLET_CABLE_DETECTED (R302): PP reads a cable and the inlet enters DETECT. -/
  | inletCableDetected (ohm : Nat)
  /-- INLET_SOURCE_QUALIFIED (R304): A source held for 3 s is classified and the inlet enters READY. -/
  | inletSourceQualified (ms : Nat)
  /-- INLET_READY_LOST (R307): In READY the pilot leaves B and C or the allowance is 0 for 1 s and the inlet returns to DETECT. -/
  | inletReadyLost (ms : Nat)
  /-- INLET_ENERGIZE (R299): The charge machine requests power in CHARGE, S2 closes and the inlet enters ENERGIZE. -/
  | inletEnergize
  /-- INLET_PHASES_VALID (R303): A valid phase configuration for 100 ms starts the PFC and the inlet enters RUN. -/
  | inletPhasesValid (v1 v2 v3 f : Nat) (a2 a3 : Int) (ms : Nat)
  /-- INLET_ENERGIZE_TIMEOUT (R307): 5 s without a valid phase configuration, or INVALID, opens S2 and enters SRC_FAULT. -/
  | inletEnergizeTimeout (invalid : Bool)
  /-- INLET_SOURCE_LOSS (R307): A source loss in RUN opens S2, stops the PFC, counts a bounce and starts a hand-over. -/
  | inletSourceLoss (ms : Bool × Nat)
  /-- HANDOVER_END (R308): The charger link has held V_chl for 1 ms and the hand-over ends in DETECT, NOCABLE or LOCKOUT. -/
  | handoverEnd (us : Nat)
  /-- HANDOVER_TIMEOUT (R308): At 4 ms with the link out of band the HV charge machine faults with HANDOVER and the isolation stage stops. -/
  | handoverTimeout
  /-- LOCKOUT_END (R309): 300 s elapse or the lock-out clear is written and the inlet leaves LOCKOUT. -/
  | lockoutEnd
  /-- INLET_CABLE_REMOVED (R302): The cable is removed or the latch pressed, S2 opens and the inlet enters NOCABLE. -/
  | inletCableRemoved (ohm : Nat)
  /-- INLET_MODE_LEFT (R307): The mode leaves CHARGE in RUN, S2 opens, PFC and isolation stop and the inlet returns to READY. -/
  | inletModeLeft
  /-- SRC_FAULT_RECOVER (R307): Pilot state A or cable removal moves the inlet from SRC_FAULT to DETECT or NOCABLE. -/
  | srcFaultRecover
  /-- WEAK_SOURCE (R306): A voltage droop or frequency swing in RUN classes the source weak and limits the current rise. -/
  | weakSource (v0 v : Int) (i : Int) (df : Nat)
  /-- CHARGE_REQUEST (R311): The charge conditions hold and the charge machine requests power and enters QUALIFY. -/
  | chargeRequest (m : Nat)
  /-- CHARGE_QUALIFIED (R311): The source runs and the battery voltage is in range, and the output current ramps in CC. -/
  | chargeQualified (m : Nat) (v : Int)
  /-- CHARGE_QUALIFY_TIMEOUT (R311): QUALIFY does not succeed in its time and the charge machine enters FAULT. -/
  | chargeQualifyTimeout (m : Nat) (v : Int)
  /-- CHARGE_CV_REACHED (R311): The output voltage reaches V_cv and the machine enters CV. -/
  | chargeCvReached (m : Nat) (v : Int)
  /-- CHARGE_TERMINATION_START (R311): In CV the current falls below I_term and the 30 s termination timer starts. -/
  | chargeTerminationStart (m : Nat) (i : Int)
  /-- CHARGE_TERMINATION (R311): The 30 s termination timer expires and the machine enters TOPOFF. -/
  | chargeTermination (m : Nat)
  /-- CHARGE_TOPOFF_END (R311): t_top elapses, output current goes to 0 and the machine enters DONE. -/
  | chargeTopoffEnd (m : Nat)
  /-- CHARGE_RECHARGE (R311): The battery voltage below V_recharge for 10 s returns the machine to QUALIFY. -/
  | chargeRecharge (m : Nat) (v : Int) (ms : Nat)
  /-- CHARGE_SOURCE_LOST (R311): The source leaves RUN or the buck stops and the machine enters WAIT with zero output. -/
  | chargeSourceLost (m : Nat)
  /-- CHARGE_SOURCE_HOLD (R311): A supervisor detection, TL4 trip or battery disconnect puts the HV machine in SOURCE_HOLD and stops the isolation stage. -/
  | chargeSourceHold
  /-- CHARGE_SOURCE_HOLD_END (R311): The battery is reported connected with charge allowed and no trip line active, and the machine returns to QUALIFY. -/
  | chargeSourceHoldEnd
  /-- PRESENCE_TEST_START (R313): The LV charge machine raises the buck reference by 0.3 V for a battery presence test. -/
  | presenceTestStart (i : Int)
  /-- PRESENCE_TEST_END (R313): After 1 s the presence test finds the battery present or absent. -/
  | presenceTestEnd (i : Int) (collapse : Bool)
  /-- CHARGE_STOP (R311): Mode change, cable removal or charge allowance 0 sets output current 0 and returns the machine to IDLE. -/
  | chargeStop
  /-- CHARGE_FAULT_CLEAR (R311): A mode cycle, cable removal or buck restart clears a charge FAULT to IDLE. -/
  | chargeFaultClear (m : Nat)
  /-- SUPPLY_ENERGIZE (R315): 100 ms after entry into SUPPLY in a load kind the output is energised. -/
  | supplyEnergize
  /-- SUPPLY_FAULT (R314): Output below half voltage for 200 ms or discharge allowance 0 stops the supply output and sets FAULT. -/
  | supplyFault (ms : Nat)
  /-- SUPPLY_CABLE_REMOVED (R315): Cable removal de-energises the supply output within 10 ms. -/
  | supplyCableRemoved (ohm : Nat)
  /-- STATION_STATE_REACTION (R317): The station reads the other vehicle's pilot state and energises, de-energises or faults the output. -/
  | stationStateReaction (pos neg : Int) (periods : Nat) (ms : Nat)
  /-- STATION_PROBE_SEEN (R316): The probe reads state B for 100 ms and another vehicle counts as seen on CP. -/
  | stationProbeSeen (ms : Nat)
  /-- SOLAR_START (R318): The string voltage held at the start level for 10 s starts the solar machine. -/
  | solarStart (ms : Nat)
  /-- SOLAR_STOP (R318): Low string power for 60 s or string voltage below 10 V stops the solar machine. -/
  | solarStop (ms : Nat)
  /-- SOLAR_OPEN_CIRCUIT_MEASURE (R318): After a 20 ms boost stop before a start or scan the open-circuit voltage is measured. -/
  | solarOpenCircuitMeasure
  /-- MPPT_STEP (R319): Every 10 ms in TRACK the reference moves by the step in the direction that raised power. -/
  | mpptStep
  /-- SOLAR_SCAN_START (R320): 600 s after the last scan a scan starts. -/
  | solarScanStart
  /-- SOLAR_SCAN_STEP (R320): Every 10 ms of a scan the reference moves one step and the power is recorded, ending in TRACK at the best step. -/
  | solarScanStep
  /-- REVERSE_TRANSFER_START (R321): IB above its reverse level for 100 ms starts solar transfer to the HV battery. -/
  | reverseTransferStart (ms : Nat)
  /-- REVERSE_TRANSFER_STOP (R321): Transferred power below 20 W for 10 s ends solar transfer. -/
  | reverseTransferStop (ms : Nat)
  /-- SOLAR_CURTAIL (R321): IB reaches the curtail level or transfer is not allowed and the solar machine enters CURTAIL. -/
  | solarCurtail
  /-- LV_SEQUENCER_START (R338): A run request with the stages allowed starts the DCX forward or goes straight to CHECK. -/
  | lvSequencerStart
  /-- DCX_IB_GOOD (R326): IB-good holds after a DCX forward start, PG22 is started and the sequencer enters CHECK. -/
  | dcxIbGood
  /-- DCX_START_TIMEOUT (R338): 12 ms without IB-good stops the DCX and counts a hiccup. -/
  | dcxStartTimeout
  /-- DCX_OVERCURRENT (R328): The DCX primary current stays above its limit for 1 µs and a generator trip is requested on the DCX generators. -/
  | dcxOvercurrent (ma : Nat) (held : Nat)
  /-- DCX_WAIT_END (R338): 100 ms of hiccup wait elapse and the DCX starts forward again. -/
  | dcxWaitEnd
  /-- OFF_TIME_COMPARATOR (R330): Output plus emulated ripple falls to the reference and a start event goes to the next buck phase. -/
  | offTimeComparator
  /-- SYNC_EDGE (R332): A rising SYNC edge is measured and may lock the buck frequency to SYNC. -/
  | syncEdge
  /-- SYNC_LOST (R332): No SYNC edge for three periods clears sync_lock and counts a loss. -/
  | syncLost
  /-- LV_CHECK_DONE (R336): The CHECK state ends, passing to soft start or faulting with HS_SHORT. -/
  | lvCheckDone (nodes : List Nat)
  /-- LV_POWER_GOOD (R337): The output reaches power-good and the sequencer enters RUN. -/
  | lvPowerGood
  /-- LV_SOFTSTART_FAIL (R337): No power-good within t_ss plus 5 ms stops the buck and counts a retry. -/
  | lvSoftstartFail
  /-- LV_RETRY_WAIT_END (R338): 200 ms of retry wait elapse and the sequencer returns to CHECK. -/
  | lvRetryWaitEnd
  /-- LV_FEED_LOST (R338): The feed leaves range, a TL4 trip hits the DCX or IB stays below 45 V for 1 ms, and the converter returns to OFF. -/
  | lvFeedLost (held : Nat)
  /-- LV_OVERVOLTAGE (R341): The output stays above V_ov for 1 µs, TL7 latches and the buck enters OVLATCH. -/
  | lvOvervoltage (mv : Nat) (held : Nat)
  /-- LV_SUPERVISOR_FIRE (R340): Power-good absent for 1,500 ms raises a Stage fault of the LV buck and the sequencer enters FAULT. -/
  | lvSupervisorFire
  /-- HICCUP_COUNT_RESET (R338): After 1 s in RUN the hiccup count returns to 0. -/
  | hiccupCountReset
  /-- LV_STOP (R338): A run request of 0 or a mode-machine stop disables the buck then the DCX. -/
  | lvStop
  /-- LV_FAULT_CLEAR (R338): A DRV_EN clear or a fault-clear write returns the sequencer from FAULT to OFF. -/
  | lvFaultClear
  /-- SHIP_MODE_ARM (R345): A write of KPR_SHIP.arm = 1 in PARKED with no stage running arms ship mode. -/
  | shipModeArm (core : Nat)
  /-- SHIP_MODE_BSW_OPEN (R345): 10 ms after the last domain goes OFF the keeper opens BSW. -/
  | shipModeBswOpen
  /-- BTN_PRESS (R346): BTN goes active and the keeper starts timing the press. -/
  | btnPress
  /-- BTN_RELEASE (R346): BTN is released. -/
  | btnRelease
  /-- LONG_PRESS (R346): A press held for 12 s at low vehicle speed requests a Module reaction. -/
  | longPress
  /-- LONG_PRESS_BSW_OPEN (R346): At 12 s plus 50 ms the keeper opens BSW. -/
  | longPressBswOpen
  /-- LONG_PRESS_BSW_CLOSE (R346): At 12 s plus 550 ms the keeper closes BSW and the module cold-starts. -/
  | longPressBswClose
  /-- SHIFT_START (R353): A new fork target outside the band starts the shift generators and the test pulses. -/
  | shiftStart
  /-- SHIFT_TEST_PULSE_END (R353): A test vector ends after ton frames, its peak current is recorded and the rest starts. -/
  | shiftTestPulseEnd
  /-- SHIFT_REST_END (R353): A rest ends once the current has decayed and the next vector starts, or is extended. -/
  | shiftRestEnd
  /-- SHIFT_DECAY_FAIL (R353): The current has not decayed within 80 frames and the start fails with DECAY. -/
  | shiftDecayFail
  /-- SHIFT_SECTOR_DECISION (R354): After the sixth pulse the law decides the rotor sector or fails the start. -/
  | shiftSectorDecision
  /-- BACK_EMF_CROSSING (R356): The floating phase crosses half V_act and the next commutation is scheduled. -/
  | backEmfCrossing (m : Nat)
  /-- COMMUTATION (R356): The delay after a crossing expires and the motor commutates to the next step. -/
  | commutation (m : Nat)
  /-- FORCED_COMMUTATION (R356): No crossing within 40 frames forces a commutation, and three in a row repeat the start. -/
  | forcedCommutation (m : Nat)
  /-- SHIFT_IN_BAND (R357): The fork reaches the band, the motor brakes, the generators stop and the shift enters HOLD. -/
  | shiftInBand
  /-- SHIFT_STALL (R357): Fork movement below 1 % in 50 ms at high current stops the shift in FAULT. -/
  | shiftStall (moved : Nat)
  /-- SHIFT_SENSOR_FAULT (R357): A fork signal out of range or INVALID stops the shift in FAULT. -/
  | shiftSensorFault
  /-- SHIFT_RETRY_WAIT_END (R357): The 10 ms at L after a start failure ends and the start is repeated. -/
  | shiftRetryWaitEnd
  /-- SHIFT_FAULT_CLEAR (R357): A SERVICE write of the shift cause to 0 returns the shift to OFF. -/
  | shiftFaultClear (n : Nat)
  /-- PARK_DRIVE_START (R359): A park request drives the park bridge toward the target or is refused at speed. -/
  | parkDriveStart
  /-- PARK_POSITION_REACHED (R359): The target end position reads and the bridge brakes. -/
  | parkPositionReached
  /-- PARK_TIMEOUT (R359): The motion timeout elapses, the bridge brakes and the park lock enters FAULT with TIMEOUT. -/
  | parkTimeout
  /-- PARK_BRAKE_END (R359): The 20 ms brake ends and the bridge stops or reverses. -/
  | parkBrakeEnd
  /-- PARK_DISCREPANCY (R358): A discrepancy on a park end-position input puts the park lock in FAULT. -/
  | parkDiscrepancy
  /-- CLUTCH_PULL_END (R360): The pull time ends and the clutch reference drops to the hold current. -/
  | clutchPullEnd
  /-- CLUTCH_OPEN_DETECT (R360): Current below 10 % at high duty for 20 ms sets cl_open and puts the clutch in FAULT. -/
  | clutchOpenDetect (ms : Nat)
  /-- PUMP_EVALUATION (R361): Every 10 ms the pump sequencer evaluates its input and curve and starts, stops or sets the speed reference. -/
  | pumpEvaluation
  /-- PUMP_ALIGN_END (R363): The 200 ms alignment ends and the open-loop ramp starts. -/
  | pumpAlignEnd
  /-- PUMP_RAMP_END (R363): The 500 ms ramp ends and hands over after six crossings or the start fails. -/
  | pumpRampEnd
  /-- PUMP_RETRY_WAIT_END (R363): The 2 s wait after a failed pump start ends and the start is retried. -/
  | pumpRetryWaitEnd
  /-- PUMP_SPEED_FAULT (R363): Measured speed below half the reference for 1 s puts the pump in FAULT. -/
  | pumpSpeedFault (ms : Nat)
  /-- PUMP_FAULT_CLEAR (R363): A SERVICE write of the pump cause to 0 clears the pump fault. -/
  | pumpFaultClear (n : Nat)
  /-- TROIKA_MISMATCH (R376): A TROIKA mismatch with a majority holds the odd core and continues as a compared pair. -/
  | troikaMismatch (t odd kind : Nat)
  /-- NO_MAJORITY_MISMATCH (R380): A TANDEM mismatch or a fault with no majority stops the compared group and triggers the team's reaction. -/
  | noMajorityMismatch (t kind odd : Nat)
  /-- REJOIN_REQUEST (R377): A write of HARN_RJN.now = 1 in PAIR starts the rejoin barrier. -/
  | rejoinRequest (core : Nat) (v : Word)
  /-- FORCED_BARRIER (R377): 36 µs after a TROIKA mismatch the pair is forced into the rejoin barrier. -/
  | forcedBarrier (t : Nat)
  /-- REJOIN_DONE (R377): The barrier completes, copies core 0 to the odd core and resumes all three in TROIKA. -/
  | rejoinDone (t stall : Nat)
  /-- REHARNESS_FENCE (R382): A FENCE with mharn armed either refuses the re-harness or starts the drain. -/
  | reharnessFence (core req : Nat)
  /-- REHARNESS_DONE (R383): The drain and state copy end and the team changes mode at a barrier. -/
  | reharnessDone (t stall : Nat)
  /-- WFI (R537): A core executes WFI, which may complete the evaluation of a pending power request or a rejoin barrier. -/
  | wfi (core : Nat)
  /-- TEAM_A_RELEASE (R386): A write of HARN_CTRL.arel = 1 starts Team A in its mode from HARN_ARST, or is refused while PD1 is not ON. -/
  | teamARelease (core : Nat) (v : Word)
  /-- MACHINE_TIMER_INTERRUPT (R368): DTB reaches a core's MTIMECMP and its machine timer interrupt becomes pending. -/
  | machineTimerInterrupt (core : Nat)
  /-- IRQ_CLAIM (R389): A read of IRQ_CLAIMn returns the highest pending source and clears its pending state. -/
  | irqClaim (core : Nat)
  /-- IRQ_COMPLETE (R389): A write of a source number to IRQ_CLAIMn completes that source. -/
  | irqComplete (core : Nat) (v : Word)
  /-- SOFTWARE_INTERRUPT (R389): A write to IRQ_SWI sets or clears software interrupt sources 112-127. -/
  | softwareInterrupt (core : Nat) (clear : Bool) (v : Word)
  /-- WATCHDOG_SERVICE (R391): A write to WDG_SVCn services the watchdog, or counts as early and sets exp. -/
  | watchdogService (core n : Nat) (v : Word)
  /-- WATCHDOG_WARNING (R391): The watchdog reaches 7/8 of tmo and raises its warning interrupt. -/
  | watchdogWarning (t n : Nat)
  /-- WATCHDOG_EXPIRY (R392): No service within tmo sets exp and triggers the team's reaction and reset. -/
  | watchdogExpiry (t n : Nat)
  /-- SAFETY_LOCK (R397): Two consecutive MG_LOCK key writes apply the safety lock, or refuse it with lock_err. -/
  | safetyLock (core : Nat) (v : Word)
  /-- CLOCK_SUPERVISOR_TRIP (R396): 1 µs without a CLK_CTL edge drives EN_REQ low, applies path 2, requests discharge and raises Martingale fatal. -/
  | clockSupervisorTrip
  /-- MARTINGALE_TICK (R399): Every 100 µs Martingale measures speed and position of each drive and checks SLS, SDI, SLP and the SS1 envelope. -/
  | martingaleTick
  /-- SPEED_INVALID (R401): Three invalid ticks make a drive's speed INVALID. -/
  | speedInvalid (d : Nat)
  /-- SPEED_VALID (R401): Four valid ticks make a drive's speed VALID again. -/
  | speedValid (d : Nat)
  /-- SPEED_CROSSCHECK_FAULT (R402): Ten ticks of disagreement with the drive's own speed raise a SPEED fault. -/
  | speedCrosscheckFault (d : Nat)
  /-- SS1_RAMP_END (R403): The SS1 time elapses and STO is applied. -/
  | ss1RampEnd (d : Nat)
  /-- FAULT_REPORT (R412): Martingale receives a fault report and applies the reaction of its source class, preempting Bridle packets. -/
  | faultReport (cls : Nat) (scope : Nat) (rx : Nat)
  /-- MARTINGALE_FATAL_RESET (R560): 5 ms after a FATAL reaction the reset source Martingale fatal is raised. -/
  | martingaleFatalReset
  /-- MG_REPS (R414): A Team S write to MG_REPS reports a scope and reaction to Martingale. -/
  | mgReps (core : Nat) (v : Word)
  /-- MG_REPA (R414): A Team A write to MG_REPA reports a permitted reaction or is refused. -/
  | mgRepa (core : Nat) (v : Word)
  /-- MG_GTRIP (R414): A write of 1 to an MG_GTRIP bit activates TL6 of that generator as a SAFE reaction. -/
  | mgGtrip (core : Nat) (hi : Bool) (v : Word)
  /-- MG_CLR (R415): A write of a scope to MG_CLR releases its TL6 levels and STO when its conditions hold, or is refused. -/
  | mgClr (core : Nat) (v : Word)
  /-- MG_SEL_WRITE (R427): A write to MG_SEL selects the SLS, SDI and SLP functions, ignoring deactivations while not in RUN. -/
  | mgSelWrite (core : Nat) (v : Word)
  /-- SLP_REFERENCE_SET (R406): A write of MG_SEL.ref = 1 sets the position to 0 when the speed is valid and low, or sets cfg_err. -/
  | slpReferenceSet (core : Nat) (v : Word)
  /-- MODULE_DISCHARGE_REQUEST (R416): Under a MODULE reaction with dsc = 1, once the battery is off and the speeds are low, Martingale requests a forced discharge. -/
  | moduleDischargeRequest
  /-- TEST_PULSE_START (R417): A TP output begins its 400 µs off-pulse. -/
  | testPulseStart (n : Nat)
  /-- TEST_PULSE_END (R417): A TP off-pulse ends. -/
  | testPulseEnd (n : Nat)
  /-- SAFETY_INPUT_SAMPLE (R418): Every 50 µs Martingale samples every contact and detects shorts and cross-connections. -/
  | safetyInputSample (a : Nat) (b : Nat)
  /-- CONTACT_FILTER_EXPIRY (R419): A contact holds its level through the 1 ms filter and the input state changes. -/
  | contactFilterExpiry (i : Nat) (isB : Bool)
  /-- INPUT_DISCREPANCY_TIMEOUT (R419): The discrepancy time passes and the input enters FAULT. -/
  | inputDiscrepancyTimeout (i : Nat)
  /-- INPUT_FAULT_RECOVERY (R419): Both contacts open for 100 ms return an input from FAULT to OPEN. -/
  | inputFaultRecovery (i : Nat)
  /-- SAFETY_OUTPUT_TEST (R422): Every 20 ms a high safety output is switched off for its test pulse. -/
  | safetyOutputTest (n : Nat)
  /-- SAFETY_OUTPUT_TEST_END (R422): The output test pulse ends and the read-back may latch a fault. -/
  | safetyOutputTestEnd (n : Nat) (stayedHigh : Bool) (low : Bool)
  /-- SAFETY_OUTPUT_FAULT_CLEAR (R422): A write of MG_SOSTAT.flt clears a latched output fault when its source does not permit the output. -/
  | safetyOutputFaultClear (core : Nat) (v : Word)
  /-- SELF_TEST_START (R423): A write of MG_CTRL.st = 1 starts the Martingale self-test, or is ignored. -/
  | selfTestStart (core : Nat) (v : Word)
  /-- SELF_TEST_DONE (R423): After 4 ms the self-test sets st_pass or st_fail. -/
  | selfTestDone (passed : Bool)
  /-- ZONE_EVALUATION (R430): At its period the thermal block evaluates a zone's temperature, state and derate. -/
  | zoneEvaluation (z : Nat)
  /-- EVENT_RECORD_COPY (R434): A keeper event record is copied to data NVM. -/
  | eventRecordCopy
  /-- THERMAL_REENABLE_REQUEST (R435): A Team S write of TH_REEN requests re-enable of zones, taken at their next evaluation. -/
  | thermalReenableRequest (core : Nat) (v : Word)
  /-- BUS_ENABLE (R441): A write of BUS_CTRL.en = 1 checks the bit timing and starts bus integration, or is refused. -/
  | busEnable (core p : Nat) (v : Word)
  /-- BUS_INTEGRATION_DONE (R444): 11 recessive bits end bus integration and the port takes part in frames. -/
  | busIntegrationDone (p : Nat)
  /-- FRAME_RECEIVED (R445): A valid frame is received, matched to a receive object and unpacked into signals, or dropped. -/
  | frameReceived (p fmt : Nat) (ide : Bool) (id : Nat) (data : List Byte) (sdt vcid af : Nat)
  /-- RX_OBJECT_CONSUME (R448): A core write of 1 to RXO_STATk.new clears the object's new flag. -/
  | rxObjectConsume (core p k : Nat)
  /-- TRANSMIT_OBJECT_DUE (R453): A periodic transmit object becomes due at its 1 ms boundary and packs its frame. -/
  | transmitObjectDue (p j : Nat)
  /-- TRANSMIT_SEND (R453): A write of TXO_STATj.send = 1 packs the frame and makes the object pending. -/
  | transmitSend (core p j : Nat)
  /-- FRAME_TRANSMITTED (R454): A pending frame or Bridle reply is sent successfully on the bus. -/
  | frameTransmitted (p obj start : Nat)
  /-- FRAME_TX_FAILURE (R455): A frame loses arbitration or meets an error and is retried or abandoned by its deadline. -/
  | frameTxFailure (p obj start err : Nat)
  /-- FRAME_ABANDON (R455): A frame reaches its deadline less 100 µs and is withdrawn. -/
  | frameAbandon (p obj : Nat) (running : Bool)
  /-- BUS_RECOVERY_REQUEST (R456): A write of BUS_CTRL.rec = 1 starts bus-off recovery counting. -/
  | busRecoveryRequest (core p : Nat)
  /-- BUS_OFF_RECOVERY (R456): 128 sequences of 11 recessive bits end bus-off. -/
  | busOffRecovery (p : Nat)
  /-- BUS_SUPERVISOR_TIMEOUT (R457): A supervised object takes no frame for tmo ms and a Network fault is reported. -/
  | busSupervisorTimeout (p i : Nat)
  /-- BUS_SLEEP (R458): A write of slp = 1 puts the port to sleep after any frame in progress. -/
  | busSleep (core p : Nat) (inProgress : Bool)
  /-- BUS_WAKE (R458): A port wakes on slp = 0 or a dominant phase of 5 µs and starts bus integration. -/
  | busWake (core p cycles : Nat) (write : Bool)
  /-- BUS0_WAKE_FRAME (R459): The keeper's BUS0 detector decodes a wake frame, a dominant phase or an error overflow and wakes the module. -/
  | bus0WakeFrame (kind cycles : Nat) (ide : Bool) (id dlc : Nat) (data : List Byte)
  /-- PING (R467): Bridle opcode 0x0001 that answers ST_DONE. -/
  | ping (p n seq : Nat) (conf xl : Bool) (params mac : List Byte)
  /-- SET_MODE (R472): Bridle opcode 0x0010 that admits a mode change and commits the target at a 1 ms boundary. -/
  | setMode (p n seq : Nat) (conf xl : Bool) (params mac : List Byte)
  /-- CAP_READ (R470): Bridle opcode 0x0020 that returns bytes of the capability list. -/
  | capRead (p n seq : Nat) (conf xl : Bool) (params mac : List Byte)
  /-- SW_RESET (R560): Bridle opcode 0x0030 that requests a software reset in PARKED or STANDBY. -/
  | swReset (p n seq : Nat) (conf xl : Bool) (params mac : List Byte) (ans : Option (Nat × Nat))
  /-- SIG_READ (R470): Bridle opcode 0x1010 that returns value and meta words of signals. -/
  | sigRead (p n seq : Nat) (conf xl : Bool) (params mac : List Byte)
  /-- SIG_WRITE (R71): Bridle opcode 0x1011 that writes Bridle-owned signals at their commit boundary. -/
  | sigWrite (p n seq : Nat) (conf xl : Bool) (params mac : List Byte)
  /-- SIG_SUBSCRIBE (R471): Bridle opcode 0x1012 that starts periodic notifications of signals. -/
  | sigSubscribe (p n seq : Nat) (conf xl : Bool) (params mac : List Byte)
  /-- SIG_UNSUBSCRIBE (R471): Bridle opcode 0x1013 that ends a subscription. -/
  | sigUnsubscribe (p n seq : Nat) (conf xl : Bool) (params mac : List Byte)
  /-- SET_TORQUE (R469): Bridle opcode 0x2010 that writes a drive's torque command. -/
  | setTorque (p n seq : Nat) (conf xl : Bool) (params mac : List Byte)
  /-- SET_SPEED (R469): Bridle opcode 0x2011 that writes a drive's speed command. -/
  | setSpeed (p n seq : Nat) (conf xl : Bool) (params mac : List Byte)
  /-- SET_CTRL_MODE (R467): Bridle opcode 0x2012 that writes a drive's control mode. -/
  | setCtrlMode (p n seq : Nat) (conf xl : Bool) (params mac : List Byte)
  /-- SET_DIRECTION (R467): Bridle opcode 0x2013 that writes a drive's direction. -/
  | setDirection (p n seq : Nat) (conf xl : Bool) (params mac : List Byte)
  /-- SET_TORQUE_LIMITS (R467): Bridle opcode 0x2014 that writes a drive's motoring and regenerating limits. -/
  | setTorqueLimits (p n seq : Nat) (conf xl : Bool) (params mac : List Byte)
  /-- SET_CHARGE_LIMITS (R467): Bridle opcode 0x3010 that writes the battery charge limits and allowance. -/
  | setChargeLimits (p n seq : Nat) (conf xl : Bool) (params mac : List Byte) (ans : Option (Nat × Nat))
  /-- SET_INPUT_LIMIT (R305): Bridle opcode 0x3011 that writes the configured and communication input limits. -/
  | setInputLimit (p n seq : Nat) (conf xl : Bool) (params mac : List Byte) (ans : Option (Nat × Nat))
  /-- SET_SUPPLY (R314): Bridle opcode 0x3020 that writes the supply kind and power limit. -/
  | setSupply (p n seq : Nat) (conf xl : Bool) (params mac : List Byte) (ans : Option (Nat × Nat))
  /-- CLEAR_LOCKOUT (R309): Bridle opcode 0x3030 that writes the lock-out clear. -/
  | clearLockout (p n seq : Nat) (conf xl : Bool) (params mac : List Byte) (ans : Option (Nat × Nat))
  /-- SET_NET_VOLTAGE (R342): Bridle opcode 0x4010 that writes the 14 V net set-point. -/
  | setNetVoltage (p n seq : Nat) (conf xl : Bool) (params mac : List Byte)
  /-- SET_LV_RUN (R338): Bridle opcode 0x4011 that writes the LV run request. -/
  | setLvRun (p n seq : Nat) (conf xl : Bool) (params mac : List Byte)
  /-- LV_CLEAR (R338): Bridle opcode 0x4012 that writes the LV fault clear. -/
  | lvClear (p n seq : Nat) (conf xl : Bool) (params mac : List Byte)
  /-- SHIFT_TO (R357): Bridle opcode 0x5010 that writes the fork target. -/
  | shiftTo (p n seq : Nat) (conf xl : Bool) (params mac : List Byte) (ans : Option (Nat × Nat))
  /-- PARK_REQ (R359): Bridle opcode 0x5020 that writes the park request. -/
  | parkReq (p n seq : Nat) (conf xl : Bool) (params mac : List Byte) (ans : Option (Nat × Nat))
  /-- CLUTCH_REQ (R360): Bridle opcode 0x5030 that writes the clutch request. -/
  | clutchReq (p n seq : Nat) (conf xl : Bool) (params mac : List Byte) (ans : Option (Nat × Nat))
  /-- PUMP_DEMAND (R361): Bridle opcode 0x5040 that writes the pump demand. -/
  | pumpDemand (p n seq : Nat) (conf xl : Bool) (params mac : List Byte) (ans : Option (Nat × Nat))
  /-- SAFETY_CFG (R467): Bridle opcode 0x6010 that applies a countersigned safety configuration block before the lock. -/
  | safetyCfg (p n seq : Nat) (conf xl : Bool) (params mac : List Byte) (ans : Option (Nat × Nat)) (cfg : Option (List (Nat × Word)))
  /-- SAFETY_CLEAR (R415): Bridle opcode 0x6020 that writes a scope to MG_CLR. -/
  | safetyClear (p n seq : Nat) (conf xl : Bool) (params mac : List Byte) (ans : Option (Nat × Nat))
  /-- NVM_READ (R467): Bridle opcode 0x7010 that returns bytes of NVM. -/
  | nvmRead (p n seq : Nat) (conf xl : Bool) (params mac : List Byte) (ans : Option (Nat × Nat))
  /-- NVM_WRITE (R492): Bridle opcode 0x7011 that programs data NVM by its commit. -/
  | nvmWrite (p n seq : Nat) (conf xl : Bool) (params mac : List Byte) (ans : Option (Nat × Nat))
  /-- FW_BLOCK (R504): Bridle opcode 0x7020 that programs a block of the inactive code bank. -/
  | fwBlock (p n seq : Nat) (conf xl : Bool) (params mac : List Byte) (ans : Option (Nat × Nat))
  /-- FW_ACTIVATE (R505): Bridle opcode 0x7021 that verifies a bank and makes it the trial boot bank. -/
  | fwActivate (p n seq : Nat) (conf xl : Bool) (params mac : List Byte) (ans : Option (Nat × Nat)) (offs : List Nat)
  /-- SESSION_OPEN (R474): Bridle opcode 0x8010 that allocates a session and returns its ID and device nonce. -/
  | sessionOpen (p n seq : Nat) (conf xl : Bool) (params mac : List Byte)
  /-- SESSION_PROOF (R475): Bridle opcode 0x8011 that checks the host proof, derives the session keys and returns the device proof. -/
  | sessionProof (p n seq : Nat) (conf xl : Bool) (params mac : List Byte)
  /-- SESSION_CLOSE (R480): Bridle opcode 0x8012 that frees the session, ending its subscriptions. -/
  | sessionClose (p n seq : Nat) (conf xl : Bool) (params mac : List Byte)
  /-- ATTEST (R508): Bridle opcode 0x8020 that returns a page of the signed attestation report. -/
  | attest (p n seq : Nat) (conf xl : Bool) (params mac : List Byte) (ans : Option (Nat × Nat))
  /-- KEY_WRITE (R509): Bridle opcode 0x8030 that writes a level key or revokes an image-key slot. -/
  | keyWrite (p n seq : Nat) (conf xl : Bool) (params mac : List Byte) (ans : Option (Nat × Nat))
  /-- COUNTER_READ (R467): Bridle opcode 0x9010 that returns a counter. -/
  | counterRead (p n seq : Nat) (conf xl : Bool) (params mac : List Byte) (ans : Option (Nat × Nat))
  /-- PROBE_START (R250): Bridle opcode 0x9020 that starts the probe of the named bridges. -/
  | probeStart (p n seq : Nat) (conf xl : Bool) (params mac : List Byte) (ans : Option (Nat × Nat))
  /-- TRACE_CFG (R467): Bridle opcode 0xA010 that configures the period recorder. -/
  | traceCfg (p n seq : Nat) (conf xl : Bool) (params mac : List Byte) (ans : Option (Nat × Nat))
  /-- TRACE_READ (R467): Bridle opcode 0xA011 that returns bytes of the recorder ring. -/
  | traceRead (p n seq : Nat) (conf xl : Bool) (params mac : List Byte) (ans : Option (Nat × Nat))
  /-- BRIDLE_COMMIT (R488): At a commit boundary the engine commits every packet due there and sends ST_DONE under CONF. -/
  | bridleCommit
  /-- SUBSCRIPTION_NOTIFY (R471): At its period's 1 ms boundary a subscription sends a notification. -/
  | subscriptionNotify (i : Nat)
  /-- SESSION_IDLE_TIMEOUT (R473): An open session idle for BRD_CTRL.idle goes FREE. -/
  | sessionIdleTimeout (n : Nat)
  /-- SESSION_OPEN_TIMEOUT (R473): An OPENING session without a proof for 1 s goes FREE. -/
  | sessionOpenTimeout (n : Nat)
  /-- AUTH_LOCK_END (R479): The lock of an access level ends on the RTC. -/
  | authLockEnd (l : Nat)
  /-- BRD_FWQ_READ (R489): A read of BRD_FWQ_A or BRD_FWQ_S returns and removes the oldest queued slot. -/
  | brdFwqRead (core : Nat) (safety : Bool)
  /-- FIRMWARE_PENDING_WRITE (R490): A write of BRD_FWPW_VAL appends a pending signal write to a slot, or is ignored. -/
  | firmwarePendingWrite (core : Nat) (v : Word)
  /-- FIRMWARE_ANSWER (R490): A write of BRD_FWRES gives the firmware's reply or requests admission for the slot. -/
  | firmwareAnswer (core : Nat) (v : Word)
  /-- FIRMWARE_ANSWER_TIMEOUT (R491): No BRD_FWRES within tmo gives ST_INTERNAL and reins back the slot. -/
  | firmwareAnswerTimeout (i : Nat)
  /-- FIRMWARE_WORK_DONE (R492): A write of BRD_FWCMT reports the outside work of a slot complete. -/
  | firmwareWorkDone (core : Nat) (v : Word)
  /-- BRIDLE_DISABLE (R473): A write of BRD_CTRL.en = 0 closes every session and reins back every packet. -/
  | bridleDisable (core : Nat)
  /-- BOOT_CONFIRM (R503): A Team S write of SEC_CONFIRM.go = 1 ends the trial and raises the rollback counters. -/
  | bootConfirm (core : Nat)
  /-- IMAGE_VERIFY (R498): A write of SEC_VCMD.go starts verification of an image header. -/
  | imageVerify (core : Nat) (v : Word)
  /-- IMAGE_VERIFY_DONE (R498): Image verification ends and SEC_VST gives the result. -/
  | imageVerifyDone
  /-- MEASUREMENT_EXTEND (R506): A write of SEC_MEXT extends a measurement register with SEC_MBUF, or is ignored. -/
  | measurementExtend (core n : Nat)
  /-- DEBUG_CHALLENGE_READ (R510): A read of SEC_DBGCH draws a debug challenge valid for 60 s. -/
  | debugChallengeRead
  /-- DEBUG_UNLOCK (R510): A write of SEC_DBGCTL.go = 1 starts verification of the challenge signature. -/
  | debugUnlock
  /-- DEBUG_UNLOCK_DONE (R510): Verification ends and opens the debug port at its level or counts a failure. -/
  | debugUnlockDone
  /-- DEBUG_CHALLENGE_EXPIRY (R510): A debug challenge expires 60 s after its read. -/
  | debugChallengeExpiry
  /-- DEBUG_RESET (R560): A debug-port reset request after a level-2 unlock resets the core blocks and PD1-PD7. -/
  | debugReset
  /-- BOSC_TRIM_MEASURE (R520): Every 10 ms of the keeper clock the BOSC count is measured and the trim moved. -/
  | boscTrimMeasure (cnt : Nat)
  /-- REFERENCE_LOSS (R526): The reference monitor declares a loss, holds the PLL and starts the ramp-down sequence. -/
  | referenceLoss (unlocked : Bool)
  /-- CLOCK_RAMP_STEP (R526): 256 cycles at a scale elapse and the clock sequence moves to its next scale. -/
  | clockRampStep
  /-- PLL_LOCK (R526): The PLL locks in RELOCK and the ramp-up starts. -/
  | pllLock
  /-- RELOCK_TIMEOUT (R526): 400 µs without lock in RELOCK report class 14. -/
  | relockTimeout
  /-- REFERENCE_OK (R529): The monitor sees no loss condition for 1 ms and sets refok. -/
  | referenceOk
  /-- REFERENCE_RETURN (R529): A write of CLK_CTRL.ret = 1 returns the PLL to the selected reference, or is refused. -/
  | referenceReturn (core : Nat) (v : Word)
  /-- CLOCK_DIVIDER_WRITE (R523): A write to CLK_DIV0 or CLK_DIV1 starts a divider change, or is refused. -/
  | clockDividerWrite (core : Nat) (second : Bool) (v : Word)
  /-- DIVIDER_RAMP_STEP (R524): A divider takes its next integer step after 256 output cycles. -/
  | dividerRampStep (i : Nat)
  /-- CLOCK_GATE_WRITE (R531): A write to CLK_GATEk sets its enables, or is refused while the consumer holds its domain. -/
  | clockGateWrite (core k : Nat) (v : Word)
  /-- POWER_REQUEST (R536): A write to PWR_REQ raises domains at once and leaves lowering pending, or is refused as invalid. -/
  | powerRequest (core : Nat) (v : Word)
  /-- DOMAIN_TRANSITION_DONE (R542): A domain completes its state transition and the next step of the entry or raise proceeds. -/
  | domainTransitionDone (d : Nat)
  /-- DOMAIN_REINIT_DONE (R549): A domain completes its re-initialisation after OFF to ON and releases its isolation. -/
  | domainReinitDone (d : Nat)
  /-- WAKE_PIN_RISE (R345): A rising edge on WAKE wakes the keeper. -/
  | wakePinRise
  /-- PLUG_DETECTION (R578): CP above 6 V for 10 ms or PP below 4,000 Ω in its test wakes the module. -/
  | plugDetection
  /-- RTC_ALARM (R545): The RTC alarm wakes the module. -/
  | rtcAlarm
  /-- VSUP_QUALIFIED (R551): VSUP stays at or above 8 V for 1 ms and the power sequencer starts. -/
  | vsupQualified
  /-- STARTUP_DOMAINS_UP (R552): After 200 µs the PLL is locked and PD7, PD0 and PD6 are ON and STRAP begins. -/
  | startupDomainsUp
  /-- STRAP_END (R554): STRAP ends, the straps are latched and the boot ROM starts. -/
  | strapEnd (sync wake tp0 : Bool)
  /-- STAGE1_ENTRY (R500): The boot ROM has verified a stage-1 image and enters it, or halts when no bank verifies. -/
  | stage1Entry (us : Nat) (descs : List (Nat × DWord))
  /-- BOOT_FAILURE (R557): A failed image or memory check sets FAILED and triggers a software reset or a halt. -/
  | bootFailure (kind : Nat)
  /-- SOFTWARE_RESET (R562): A keyed write of RST_SWR starts a software reset after any NVM word program, or sets cfg_err. -/
  | softwareReset (core : Nat) (v : Word)
  /-- WARM_RESET (R560): A warm reset holds PD0-PD7 in reset for 20 µs and restarts at STRAP. -/
  | warmReset
  /-- POWER_FAIL_WARNING (R564): VSUP below 7.0 V for 10 µs sets pwf, requests a MODULE reaction and interrupts Team S. -/
  | powerFailWarning
  /-- BROWN_OUT (R564): VSUP still below 7.0 V 6 ms after the warning gives a brown-out. -/
  | brownOut (low : Bool)
  /-- VBATK_APPLIED (R561): VBATK is applied to the keeper, which sets every keeper register, lock count and lock time to its reset value. -/
  | vbatkApplied
  /-- BTN_PRESS_WAKE (R345): A BTN press held for 200 ms is a keeper wake source that ends ship mode or wakes lowered domains. -/
  | btnPressWake
  /-- PROTOCOL_EXCEPTION (R440): A port receives a frame switching to the PWM-coded XL mode, or an FD or XL frame while fd or xl is 0, sets pex and enters bus integration or sends an error frame. -/
  | protocolException (p kind : Nat)
  /-- RECEIVE_ERROR (R456): A port detects an error while receiving, raises its receive error counter and may become error passive. -/
  | receiveError (p : Nat) (big : Bool)
  /-- VALLEY_LIMIT_RELEASE (R335): A buck phase current falls below the valley limit I_lim / 4 and its held start event acts. -/
  | valleyLimitRelease (k : Nat)
  /-- PHASE_CURRENT_ZERO (R337): Before power-good a buck phase current reaches zero and that phase's low side turns off. -/
  | phaseCurrentZero (k : Nat)
  /-- NVM_PROGRAM_DONE (R562): An NVM word program or programming operation completes, releasing the PD7 holder and starting a software reset that waited for it. -/
  | nvmProgramDone
  /-- DOUBLE_BIT_L1_ERROR (R375): A double-bit ECC error in the L1 of a free core or a core in SPLIT raises a load or instruction access fault and increments HARN_CNT_MIS. -/
  | doubleBitL1Error (core : Nat)
  deriving DecidableEq, Repr

end Sys2Proof
end

