-- ==== Sys2Proof/Decode.lean ====
section
/-! DEFINITION. Words of the command table. No row of spec/opcode_table.json gives bits: the module's commands are events,
register accesses and protocol operations, and a Bridle request is a packet whose bytes FRAME_RECEIVED parses. -/

namespace Sys2Proof

/-- The command a word spells by the table's bits: the table gives no row any bits, so no word spells one. -/
def decodeTableWord (_nbits _w : Nat) : Option Instr := none

end Sys2Proof
end

