-- ==== Sys2Proof/Config.lean ====
section
/-! DEFINITION. What an implementation fixes and the values the spec leaves open. Each free value is an opaque constant
without a body: nothing can be proved about which value it is. -/

namespace Sys2Proof.Config

/-- Free words drawn in order by a counter of the state (log 9). -/
opaque freeWord : Nat → Word

/-- Free bytes drawn in order by a counter of the state (log 9). -/
opaque freeByte : Nat → Byte

/-- Codes of the ENUM signals whose values the spec names without a number: the signal's identifier and the model's own
index of the name (log 27). -/
opaque enumCode : Nat → Nat → Word

/-- Silicon revision in the capability list, and the read-only bytes after the list's end, by offset (log 38). -/
opaque siliconRev : Byte
opaque capBeyond : Nat → Byte

/-- Contents of the boot ROM, and of the identification area outside the items of R507, by offset (log 120). -/
opaque romByte : Nat → Byte
opaque identityBeyond : Nat → Byte

/-- Word `k` of the read window of a port, from the fields that R449 names and the data of the stored frame (log 120). -/
opaque readWindow : List Nat → List Byte → Nat → Word

/-- The module's fault frame on a port: a classical frame's identifier, whether it is extended, and its data (log 115). -/
opaque faultFrame : Nat → (Nat × Bool) × List Byte

/-- Code that an input tied to analogue ground gives, by unit, gain and polarity (log 93). -/
opaque groundCode : Nat → Nat → Bool → Nat

/-- Cycles from the turn-off of an HV channel's gate to the off-level of its gate sense, and from a detection to the start of
its soft turn-off, by channel and cycle (log 109). -/
opaque gateFall : Nat → Nat → Nat
opaque softLag : Nat → Nat → Nat

/-- Gains, distances and limits that commissioning or Basore builds into a production law, by engine, slot and index
(log 111). -/
opaque lawCoef : Nat → Nat → Nat → Int

/-- Output current that an input current limit allows the charger, and the output current of SUPPLY that a battery discharge
limit allows, over the isolation stage (R312, R314; log 111). -/
opaque outputAllowed : Int → Int
opaque supplyAllowed : Int → Int

/-- CLK_CTL cycles per 1 ms system boundary (R29). -/
def msCycles : Nat := 400000

/-- CLK_CTL cycles per microsecond (R26). -/
def usCycles : Nat := 400

end Sys2Proof.Config
end

