-- ==== Sys2Proof/Machine/Sparse.lean ====
section
/-! DEFINITION. Sparse maps: lists of (key, value) pairs in one canonical form, keys strictly rising and no entry
equal to what an unlisted key reads as. Registers, Paddock words, descriptors and memories are held so, so that equal
contents are equal data. -/

namespace Sys2Proof

/-- What key `k` reads as in map `m`, where an unlisted key reads as `d k`. -/
def sparseGet {α : Type} (d : Nat → α) : List (Nat × α) → Nat → α
  | [], k => d k
  | (k', v) :: m, k => if k' = k then v else if k < k' then d k else sparseGet d m k

/-- The map with key `k` taken out, if it is listed. -/
def sparseErase {α : Type} : List (Nat × α) → Nat → List (Nat × α)
  | [], _ => []
  | (k', v) :: m, k => if k' = k then m else if k < k' then (k', v) :: m else (k', v) :: sparseErase m k

/-- The map with key `k` listed with value `v`. -/
def sparseInsert {α : Type} : List (Nat × α) → Nat → α → List (Nat × α)
  | [], k, v => [(k, v)]
  | (k', v') :: m, k, v =>
    if k' = k then (k, v) :: m else if k < k' then (k, v) :: (k', v') :: m else (k', v') :: sparseInsert m k v

/-- Write `v` at key `k`; writing what an unlisted key reads as removes the entry. -/
def sparseSet {α : Type} [DecidableEq α] (d : Nat → α) (m : List (Nat × α)) (k : Nat) (v : α) : List (Nat × α) :=
  if v = d k then sparseErase m k else sparseInsert m k v

/-- Canonical form, with every key above `lo` if a bound is given. -/
def sparseWfFrom {α : Type} [DecidableEq α] (d : Nat → α) : Option Nat → List (Nat × α) → Bool
  | _, [] => true
  | lo, (k, v) :: m => (match lo with | none => true | some l => decide (l < k)) && decide (v ≠ d k) &&
      sparseWfFrom d (some k) m

/-- The canonical form of a sparse map. -/
def sparseWf {α : Type} [DecidableEq α] (d : Nat → α) (m : List (Nat × α)) : Bool := sparseWfFrom d none m

end Sys2Proof
end

