-- ==== Sys2Proof/Machine/Regs.lean ====
section
/-! DEFINITION. The register map: the physical address of every register, its fields, and for every register its
access masks, its range checks and its reset value, as the register tables of the spec's chapters give them. -/

namespace Sys2Proof

/-- A field of a 32-bit register: its lowest bit and its width. -/
structure Field where
  lo : Nat
  len : Nat
  deriving DecidableEq, Repr

/-! Addresses. `u` is the unit (generator, channel, engine, port ...), `i` and `j` the register index. -/

/-! DTB: 01_architecture.md R33. -/
def Reg.DTB_LO : Nat := 0x70030000
def Reg.DTB_HI : Nat := 0x70030004
def Reg.DTB_MS : Nat := 0x70030008
/-! PRC: 02_paddock.md R81. -/
def Reg.PRC_CTRL : Nat := 0x70680000
def Reg.PRC_BASE : Nat := 0x70680004
def Reg.PRC_SIZE : Nat := 0x70680008
def Reg.PRC_WRPTR : Nat := 0x7068000C
def Reg.PRC_STATUS : Nat := 0x70680010
def Reg.PRC_SEQ : Nat := 0x70680014
def Reg.PDK_REFUSE_CNT : Nat := 0x70680100
def Reg.PDK_REFUSE_ID : Nat := 0x70680104
def Reg.PDK_REFUSE_SRC : Nat := 0x70680108
def Reg.PDK_DROP_CNT : Nat := 0x7068010C
def Reg.PDK_DROP_ID : Nat := 0x70680110
def Reg.PRC_LIST (i : Nat) : Nat := 0x70681000 + 4 * i
/-! TT: 03_sampling.md R111. -/
def Reg.TT_CTL (u : Nat) : Nat := 0x70110800 + 0x10 * u
def Reg.TT_PER (u : Nat) : Nat := 0x70110804 + 0x10 * u
/-! ADC: 03_sampling.md R111. -/
def Reg.ADC_CTRL (u : Nat) : Nat := 0x70200000 + 0x1000 * u
def Reg.ADC_STATUS (u : Nat) : Nat := 0x70200004 + 0x1000 * u
def Reg.ADC_CSL (u : Nat) : Nat := 0x70200008 + 0x1000 * u
def Reg.ADC_TRG (u : Nat) (i : Nat) : Nat := 0x70200010 + 0x1000 * u + 4 * i
def Reg.ADC_TDLY (u : Nat) (i : Nat) : Nat := 0x70200020 + 0x1000 * u + 4 * i
def Reg.ADC_SWTRG (u : Nat) : Nat := 0x70200030 + 0x1000 * u
def Reg.ADC_URG (u : Nat) : Nat := 0x70200034 + 0x1000 * u
def Reg.ADC_OFS (u : Nat) (i : Nat) : Nat := 0x70200040 + 0x1000 * u + 4 * i
def Reg.ADC_CAL (u : Nat) : Nat := 0x70200050 + 0x1000 * u
def Reg.ADC_CNT_COLL (u : Nat) : Nat := 0x70200060 + 0x1000 * u
def Reg.ADC_CNT_OVRUN (u : Nat) : Nat := 0x70200064 + 0x1000 * u
def Reg.ADC_CNT_UREF (u : Nat) : Nat := 0x70200068 + 0x1000 * u
def Reg.ADC_CNT_ABORT (u : Nat) : Nat := 0x7020006C + 0x1000 * u
def Reg.ADC_ECFG (u : Nat) (i : Nat) : Nat := 0x70200100 + 0x1000 * u + 8 * i
def Reg.ADC_EDST (u : Nat) (i : Nat) : Nat := 0x70200104 + 0x1000 * u + 8 * i
/-! CE: 04_canter_engines.md R150. -/
def Reg.CE_CTRL (u : Nat) : Nat := 0x70300000 + 0x10000 * u
def Reg.CE_STATUS (u : Nat) : Nat := 0x70300004 + 0x10000 * u
def Reg.CE_FCNT (u : Nat) : Nat := 0x70300008 + 0x10000 * u
def Reg.CE_CNT_FRAME (u : Nat) : Nat := 0x70300010 + 0x10000 * u
def Reg.CE_CNT_ECC (u : Nat) : Nat := 0x70300014 + 0x10000 * u
def Reg.CE_TBL (u : Nat) (i : Nat) : Nat := 0x70300040 + 0x10000 * u + 4 * i
def Reg.LAW_MEM (u : Nat) (i : Nat) : Nat := 0x70301000 + 0x10000 * u + 4 * i
def Reg.COEF_MEM (u : Nat) (i : Nat) : Nat := 0x70302000 + 0x10000 * u + 4 * i
def Reg.DREG (u : Nat) (i : Nat) : Nat := 0x70304000 + 0x10000 * u + 4 * i
/-! LAW: 04_canter_engines.md R150. -/
def Reg.LAW_CTRL (u : Nat) (s : Nat) : Nat := 0x70300100 + 0x10000 * u + 0x100 * s
def Reg.LAW_TIME (u : Nat) (s : Nat) : Nat := 0x70300104 + 0x10000 * u + 0x100 * s
def Reg.LAW_WOPEN (u : Nat) (s : Nat) : Nat := 0x70300108 + 0x10000 * u + 0x100 * s
def Reg.LAW_WDUE (u : Nat) (s : Nat) : Nat := 0x7030010C + 0x10000 * u + 0x100 * s
def Reg.LAW_CODE (u : Nat) (s : Nat) : Nat := 0x70300110 + 0x10000 * u + 0x100 * s
def Reg.LAW_LAH (u : Nat) (s : Nat) : Nat := 0x70300114 + 0x10000 * u + 0x100 * s
def Reg.LAW_CYC (u : Nat) (s : Nat) : Nat := 0x70300118 + 0x10000 * u + 0x100 * s
def Reg.LAW_DREG (u : Nat) (s : Nat) : Nat := 0x7030011C + 0x10000 * u + 0x100 * s
def Reg.LAW_TRIPM (u : Nat) (s : Nat) : Nat := 0x70300120 + 0x10000 * u + 0x100 * s
def Reg.LAW_STAT (u : Nat) (s : Nat) : Nat := 0x70300124 + 0x10000 * u + 0x100 * s
def Reg.LAW_CNT_RUN (u : Nat) (s : Nat) : Nat := 0x70300130 + 0x10000 * u + 0x100 * s
def Reg.LAW_CNT_MISS (u : Nat) (s : Nat) : Nat := 0x70300134 + 0x10000 * u + 0x100 * s
def Reg.LAW_CNT_LATE (u : Nat) (s : Nat) : Nat := 0x70300138 + 0x10000 * u + 0x100 * s
def Reg.LAW_CNT_STRAY (u : Nat) (s : Nat) : Nat := 0x7030013C + 0x10000 * u + 0x100 * s
def Reg.LAW_CNT_SAT (u : Nat) (s : Nat) : Nat := 0x70300140 + 0x10000 * u + 0x100 * s
def Reg.LAW_OMAP (u : Nat) (s : Nat) (i : Nat) : Nat := 0x70300180 + 0x10000 * u + 0x100 * s + 4 * i
def Reg.LAW_CAP (u : Nat) (s : Nat) (i : Nat) : Nat := 0x703001A0 + 0x10000 * u + 0x100 * s + 4 * i
def Reg.LAW_LOPEN (u : Nat) (s : Nat) : Nat := 0x70300128 + 0x10000 * u + 0x100 * s
def Reg.LAW_RSTAT (u : Nat) (s : Nat) : Nat := 0x7030012C + 0x10000 * u + 0x100 * s
def Reg.LAW_CNT_HITA (u : Nat) (s : Nat) : Nat := 0x70300144 + 0x10000 * u + 0x100 * s
def Reg.LAW_CNT_HITB (u : Nat) (s : Nat) : Nat := 0x70300148 + 0x10000 * u + 0x100 * s
def Reg.LAW_CNT_NOFIT (u : Nat) (s : Nat) : Nat := 0x7030014C + 0x10000 * u + 0x100 * s
def Reg.LAW_CNT_LSMP (u : Nat) (s : Nat) : Nat := 0x70300150 + 0x10000 * u + 0x100 * s
def Reg.LAW_CNT_VOID (u : Nat) (s : Nat) : Nat := 0x70300154 + 0x10000 * u + 0x100 * s
def Reg.LAW_PRD (u : Nat) (s : Nat) (i : Nat) : Nat := 0x703001C0 + 0x10000 * u + 0x100 * s + 4 * i
/-! PWM: 06_pulse_generators.md R219. -/
def Reg.PWM_CTRL (u : Nat) : Nat := 0x70100000 + 0x400 * u
def Reg.PWM_STAT (u : Nat) : Nat := 0x70100004 + 0x400 * u
def Reg.PWM_PER (u : Nat) : Nat := 0x70100008 + 0x400 * u
def Reg.PWM_CMPA (u : Nat) : Nat := 0x7010000C + 0x400 * u
def Reg.PWM_CMPB (u : Nat) : Nat := 0x70100010 + 0x400 * u
def Reg.PWM_DT (u : Nat) : Nat := 0x70100014 + 0x400 * u
def Reg.PWM_MINP (u : Nat) : Nat := 0x70100018 + 0x400 * u
def Reg.PWM_PHS (u : Nat) : Nat := 0x7010001C + 0x400 * u
def Reg.PWM_SYNC (u : Nat) : Nat := 0x70100020 + 0x400 * u
def Reg.PWM_TRIPM (u : Nat) : Nat := 0x70100024 + 0x400 * u
def Reg.PWM_SAFE (u : Nat) : Nat := 0x70100028 + 0x400 * u
def Reg.PWM_COT (u : Nat) : Nat := 0x7010002C + 0x400 * u
def Reg.PWM_CNTR (u : Nat) : Nat := 0x70100030 + 0x400 * u
def Reg.PWM_ACTA (u : Nat) : Nat := 0x70100034 + 0x400 * u
def Reg.PWM_ACTB (u : Nat) : Nat := 0x70100038 + 0x400 * u
def Reg.PWM_CNT_DROP (u : Nat) : Nat := 0x70100040 + 0x400 * u
def Reg.PWM_CNT_STRETCH (u : Nat) : Nat := 0x70100044 + 0x400 * u
def Reg.PWM_CNT_WREF (u : Nat) : Nat := 0x70100048 + 0x400 * u
def Reg.PWM_CNT_TRIP (u : Nat) : Nat := 0x7010004C + 0x400 * u
def Reg.PWM_CNT_SYNC (u : Nat) : Nat := 0x70100050 + 0x400 * u
def Reg.PWM_CNT_FORCE (u : Nat) : Nat := 0x70100054 + 0x400 * u
/-! TRP: 06_pulse_generators.md R220. -/
def Reg.TRP_LVL : Nat := 0x70110000
def Reg.TRP_LATCH : Nat := 0x70110004
def Reg.TRP_POL : Nat := 0x70110008
def Reg.TRP_FILT : Nat := 0x7011000C
def Reg.PWM_GSTART : Nat := 0x70110010
def Reg.PWM_GSTART_HI : Nat := 0x70110014
def Reg.TRP_CNT (i : Nat) : Nat := 0x70110040 + 4 * i
def Reg.TRP_TIME (i : Nat) : Nat := 0x70110080 + 4 * i
def Reg.YRW_CTRL : Nat := 0x70110100
def Reg.YRW_STAT : Nat := 0x70110104
def Reg.YRW_CNT : Nat := 0x70110108
/-! GDC: 07_gate_drive.md R259. -/
def Reg.GDC_CTRL : Nat := 0x70400000
def Reg.GDC_STAT : Nat := 0x70400004
def Reg.GDC_ENR : Nat := 0x70400008
def Reg.GDC_PRB : Nat := 0x7040000C
def Reg.GDC_PRB_RES : Nat := 0x70400010
def Reg.GDC_FLT_LO : Nat := 0x70400014
def Reg.GDC_FLT_HI : Nat := 0x70400018
def Reg.GDC_LFLT : Nat := 0x7040001C
def Reg.GDC_CNT_CLEAR : Nat := 0x70400020
def Reg.GDC_CNT_ENSHORT : Nat := 0x70400024
def Reg.GDC_CNT_PEND : Nat := 0x70400028
def Reg.DCL_MEAS : Nat := 0x70400080
def Reg.DCL_CHON : Nat := 0x70400084
def Reg.DCL_CHOFF : Nat := 0x70400088
def Reg.DCL_OV : Nat := 0x7040008C
def Reg.DCL_OVHYS : Nat := 0x70400090
def Reg.BRK_CTRL : Nat := 0x70400094
def Reg.BRK_CNT : Nat := 0x70400098
def Reg.CHL_MEAS : Nat := 0x7040009C
def Reg.DSC_CTRL : Nat := 0x704000A0
def Reg.DSC_CFG : Nat := 0x704000A4
def Reg.DSC_STAT : Nat := 0x704000A8
def Reg.GDC_PLEG (i : Nat) : Nat := 0x70400100 + 4 * i
/-! GCH: 07_gate_drive.md R259. -/
def Reg.GCH_CFG (u : Nat) : Nat := 0x70401000 + 0x80 * u
def Reg.GCH_STAT (u : Nat) : Nat := 0x70401004 + 0x80 * u
def Reg.GCH_LRN (u : Nat) : Nat := 0x70401008 + 0x80 * u
def Reg.GCH_LBND (u : Nat) : Nat := 0x7040100C + 0x80 * u
def Reg.GCH_DTGT (u : Nat) : Nat := 0x70401010 + 0x80 * u
def Reg.GCH_TOFF (u : Nat) : Nat := 0x70401014 + 0x80 * u
def Reg.GCH_TOFF_MAX (u : Nat) : Nat := 0x70401018 + 0x80 * u
def Reg.GCH_SEED (u : Nat) : Nat := 0x7040101C + 0x80 * u
def Reg.GCH_IBIN0 (u : Nat) : Nat := 0x70401020 + 0x80 * u
def Reg.GCH_IBIN1 (u : Nat) : Nat := 0x70401024 + 0x80 * u
def Reg.GCH_IBIN2 (u : Nat) : Nat := 0x70401028 + 0x80 * u
def Reg.GCH_BIN (u : Nat) (i : Nat) : Nat := 0x70401040 + 0x80 * u + 4 * i
def Reg.GCH_MEAS (u : Nat) : Nat := 0x70401060 + 0x80 * u
def Reg.GCH_GLOOP (u : Nat) : Nat := 0x70401064 + 0x80 * u
def Reg.GCH_GLW (u : Nat) : Nat := 0x70401068 + 0x80 * u
def Reg.GCH_SKEW (u : Nat) : Nat := 0x7040106C + 0x80 * u
def Reg.GCH_CNT_SC (u : Nat) : Nat := 0x70401070 + 0x80 * u
def Reg.GCH_CNT_STEP (u : Nat) : Nat := 0x70401074 + 0x80 * u
def Reg.GCH_CNT_NOPL (u : Nat) : Nat := 0x70401078 + 0x80 * u
def Reg.GCH_CNT_LFLT (u : Nat) : Nat := 0x7040107C + 0x80 * u
/-! LCH: 07_gate_drive.md R260. -/
def Reg.LCH_CFG (u : Nat) : Nat := 0x70403000 + 0x40 * u
def Reg.LCH_STAT (u : Nat) : Nat := 0x70403004 + 0x40 * u
def Reg.LCH_CNT_OVC (u : Nat) : Nat := 0x70403008 + 0x40 * u
/-! FE: 08_traction_drives.md R292. -/
def Reg.RES_CTRL (u : Nat) : Nat := 0x70210000 + 0x100 * u
def Reg.RES_STAT (u : Nat) : Nat := 0x70210004 + 0x100 * u
def Reg.ENC_CTRL (u : Nat) : Nat := 0x70210010 + 0x100 * u
def Reg.ENC_STAT (u : Nat) : Nat := 0x70210014 + 0x100 * u
def Reg.ENC_CNT (u : Nat) : Nat := 0x70210018 + 0x100 * u
def Reg.ENC_ZOFS (u : Nat) : Nat := 0x7021001C + 0x100 * u
/-! INL: 09_charger.md R303. -/
def Reg.INL_CTRL : Nat := 0x70210200
def Reg.INL_STAT : Nat := 0x70210204
def Reg.INL_CPPER : Nat := 0x70210208
def Reg.INL_CPHIGH : Nat := 0x7021020C
def Reg.INL_CNT_GLITCH : Nat := 0x70210210
/-! CHS: 09_charger.md R310. -/
def Reg.CHS_CTRL : Nat := 0x70110C00
def Reg.CHS_STAT : Nat := 0x70110C04
def Reg.CHS_VMAX : Nat := 0x70110C08
def Reg.CHS_DV : Nat := 0x70110C0C
def Reg.CHS_ISIG : Nat := 0x70110C10
def Reg.CHS_IMIN : Nat := 0x70110C14
def Reg.CHS_CNT : Nat := 0x70110C18
/-! LVC: 10_lv_converter.md R348. -/
def Reg.LVC_CFG : Nat := 0x70110D00
def Reg.LVC_STAT : Nat := 0x70110D04
def Reg.LVC_OVTH : Nat := 0x70110D08
def Reg.LVC_SYNC : Nat := 0x70110D0C
def Reg.LVC_DCXLIM : Nat := 0x70110D10
def Reg.LVC_CNT_HICCUP : Nat := 0x70110D20
def Reg.LVC_CNT_RETRY : Nat := 0x70110D24
def Reg.LVC_CNT_SYNCLOSS : Nat := 0x70110D28
def Reg.LVC_CNT_OV : Nat := 0x70110D2C
/-! KPR: 10_lv_converter.md R348. -/
def Reg.KPR_SHIP : Nat := 0x70800100
def Reg.KPR_LPCFG : Nat := 0x70800104
def Reg.KPR_BSTAT : Nat := 0x70800108
def Reg.KPR_CNT_LP : Nat := 0x7080010C
def Reg.KPR_CNT_LPIGN : Nat := 0x70800110
/-! ACT: 11_actuators.md R366. -/
def Reg.ACT_SHTP : Nat := 0x70110E00
def Reg.ACT_PKCFG : Nat := 0x70110E04
def Reg.ACT_STAT : Nat := 0x70110E08
def Reg.ACT_FLOAT : Nat := 0x70110E0C
def Reg.ACT_CNT_SHSTART : Nat := 0x70110E10
def Reg.ACT_CNT_SHFAIL : Nat := 0x70110E14
def Reg.ACT_CNT_PKTO : Nat := 0x70110E18
def Reg.ACT_CNT_PMPRETRY : Nat := 0x70110E1C
/-! HARN: 12_processor_teams.md R393. -/
def Reg.HARN_CTRL (u : Nat) : Nat := 0x70050000 + 0x10000 * u
def Reg.HARN_STAT (u : Nat) : Nat := 0x70050004 + 0x10000 * u
def Reg.HARN_RJN (u : Nat) : Nat := 0x70050008 + 0x10000 * u
def Reg.HARN_ARST (u : Nat) : Nat := 0x7005000C + 0x10000 * u
def Reg.HARN_PC1 (u : Nat) : Nat := 0x70050010 + 0x10000 * u
def Reg.HARN_PC2 (u : Nat) : Nat := 0x70050014 + 0x10000 * u
def Reg.HARN_MIS (u : Nat) : Nat := 0x70050020 + 0x10000 * u
def Reg.HARN_MIST (u : Nat) : Nat := 0x70050024 + 0x10000 * u
def Reg.HARN_CNT_MIS (u : Nat) : Nat := 0x70050030 + 0x10000 * u
def Reg.HARN_CNT_RESYNC (u : Nat) : Nat := 0x70050034 + 0x10000 * u
def Reg.HARN_CNT_REH (u : Nat) : Nat := 0x70050038 + 0x10000 * u
def Reg.HARN_CNT_REHREF (u : Nat) : Nat := 0x7005003C + 0x10000 * u
def Reg.HARN_MAXSTALL (u : Nat) : Nat := 0x70050040 + 0x10000 * u
def Reg.WDG_CTRL (u : Nat) (i : Nat) : Nat := 0x70050100 + 0x10000 * u + 0x10 * i
def Reg.WDG_SVC (u : Nat) (i : Nat) : Nat := 0x70050104 + 0x10000 * u + 0x10 * i
def Reg.WDG_STAT (u : Nat) (i : Nat) : Nat := 0x70050108 + 0x10000 * u + 0x10 * i
def Reg.MTIMECMP (u : Nat) (i : Nat) (j : Nat) : Nat := 0x70050200 + 0x10000 * u + 8 * i + 4 * j
def Reg.IRQ_CFG (u : Nat) (i : Nat) : Nat := 0x70050400 + 0x10000 * u + 4 * i
def Reg.IRQ_THR (u : Nat) (i : Nat) : Nat := 0x70050800 + 0x10000 * u + 0x10 * i
def Reg.IRQ_CLAIM (u : Nat) (i : Nat) : Nat := 0x70050804 + 0x10000 * u + 0x10 * i
def Reg.IRQ_SWI (u : Nat) : Nat := 0x70050880 + 0x10000 * u
/-! MG: 13_safety.md R426. -/
def Reg.MG_CTRL : Nat := 0x70080000
def Reg.MG_STAT : Nat := 0x70080004
def Reg.MG_LOCK : Nat := 0x70080008
def Reg.MG_CRC : Nat := 0x7008000C
def Reg.MG_GTRIP : Nat := 0x70080010
def Reg.MG_GTRIP_HI : Nat := 0x70080014
def Reg.MG_TL6 : Nat := 0x70080018
def Reg.MG_TL6_HI : Nat := 0x7008001C
def Reg.MG_REPS : Nat := 0x70080020
def Reg.MG_REPA : Nat := 0x70080024
def Reg.MG_CLR : Nat := 0x70080028
def Reg.MG_FLT : Nat := 0x70080030
def Reg.MG_FLTT : Nat := 0x70080034
def Reg.MG_CNT_FLT : Nat := 0x70080038
def Reg.MG_CNT_REPREF : Nat := 0x7008003C
def Reg.MG_RX (i : Nat) : Nat := 0x70080040 + 4 * i
def Reg.MG_DCFG (i : Nat) : Nat := 0x70080100 + 0x40 * i
def Reg.MG_DAMP (i : Nat) : Nat := 0x70080104 + 0x40 * i
def Reg.MG_NSS (i : Nat) : Nat := 0x70080108 + 0x40 * i
def Reg.MG_SPD (i : Nat) : Nat := 0x7008010C + 0x40 * i
def Reg.MG_POS (i : Nat) : Nat := 0x70080110 + 0x40 * i
def Reg.MG_XCHK (i : Nat) : Nat := 0x70080114 + 0x40 * i
def Reg.MG_SS1 (i : Nat) : Nat := 0x70080118 + 0x40 * i
def Reg.MG_SS1N (i : Nat) : Nat := 0x7008011C + 0x40 * i
def Reg.MG_SLS01 (i : Nat) : Nat := 0x70080120 + 0x40 * i
def Reg.MG_SLS23 (i : Nat) : Nat := 0x70080124 + 0x40 * i
def Reg.MG_SDI (i : Nat) : Nat := 0x70080128 + 0x40 * i
def Reg.MG_SLP_LO (i : Nat) : Nat := 0x7008012C + 0x40 * i
def Reg.MG_SLP_HI (i : Nat) : Nat := 0x70080130 + 0x40 * i
def Reg.MG_DSTAT (i : Nat) : Nat := 0x70080134 + 0x40 * i
def Reg.MG_CNT_SS1 (i : Nat) : Nat := 0x70080138 + 0x40 * i
def Reg.MG_CNT_STO (i : Nat) : Nat := 0x7008013C + 0x40 * i
def Reg.MG_SEL : Nat := 0x700801C0
def Reg.MG_SI (i : Nat) : Nat := 0x70080200 + 4 * i
def Reg.MG_SISTAT : Nat := 0x70080220
def Reg.MG_SIFLT : Nat := 0x70080224
def Reg.MG_CNT_SI : Nat := 0x70080228
def Reg.MG_SO (i : Nat) : Nat := 0x70080240 + 4 * i
def Reg.MG_SOREQ : Nat := 0x70080250
def Reg.MG_SOSTAT : Nat := 0x70080254
def Reg.MG_TP : Nat := 0x70080260
/-! TH: 14_thermal.md R437. -/
def Reg.TH_CTRL : Nat := 0x70600000
def Reg.TH_STAT : Nat := 0x70600004
def Reg.TH_REEN : Nat := 0x70600008
def Reg.TH_RECPTR : Nat := 0x7060000C
def Reg.TH_CNT_SD : Nat := 0x70600010
def Reg.TH_CNT_REENREF : Nat := 0x70600014
def Reg.TH_CNT_RECDROP : Nat := 0x70600018
def Reg.TH_ZWRN (i : Nat) : Nat := 0x70600100 + 0x20 * i
def Reg.TH_ZTHR (i : Nat) : Nat := 0x70600104 + 0x20 * i
def Reg.TH_ZSD (i : Nat) : Nat := 0x70600108 + 0x20 * i
def Reg.TH_ZSEN (i : Nat) : Nat := 0x7060010C + 0x20 * i
def Reg.TH_ZSTAT (i : Nat) : Nat := 0x70600110 + 0x20 * i
def Reg.TH_ZDER (i : Nat) : Nat := 0x70600114 + 0x20 * i
def Reg.TH_SEN (i : Nat) : Nat := 0x70600400 + 4 * i
def Reg.TH_CRV (i : Nat) (j : Nat) : Nat := 0x70600800 + 0x80 * i + 4 * j
/-! BUS: 15_message_buses.md R460. -/
def Reg.BUS_CTRL (u : Nat) : Nat := 0x70500000 + 0x10000 * u
def Reg.BUS_STAT (u : Nat) : Nat := 0x70500004 + 0x10000 * u
def Reg.BUS_NBT (u : Nat) : Nat := 0x70500008 + 0x10000 * u
def Reg.BUS_DBT (u : Nat) : Nat := 0x7050000C + 0x10000 * u
def Reg.BUS_TDC (u : Nat) : Nat := 0x70500010 + 0x10000 * u
def Reg.BUS_ERR (u : Nat) : Nat := 0x70500014 + 0x10000 * u
def Reg.BUS_BRQ (u : Nat) : Nat := 0x70500018 + 0x10000 * u
def Reg.BUS_BRP (u : Nat) : Nat := 0x7050001C + 0x10000 * u
def Reg.RXO_RDSEL (u : Nat) : Nat := 0x70500020 + 0x10000 * u
def Reg.BUS_CNT_NOMATCH (u : Nat) : Nat := 0x70500040 + 0x10000 * u
def Reg.BUS_CNT_TOOLONG (u : Nat) : Nat := 0x70500044 + 0x10000 * u
def Reg.BUS_CNT_LOST (u : Nat) : Nat := 0x70500048 + 0x10000 * u
def Reg.BUS_CNT_SHORT (u : Nat) : Nat := 0x7050004C + 0x10000 * u
def Reg.BUS_CNT_PACKSAT (u : Nat) : Nat := 0x70500050 + 0x10000 * u
def Reg.BUS_CNT_LATE (u : Nat) : Nat := 0x70500054 + 0x10000 * u
def Reg.BUS_CNT_ABANDON (u : Nat) : Nat := 0x70500058 + 0x10000 * u
def Reg.BUS_CNT_BOFF (u : Nat) : Nat := 0x7050005C + 0x10000 * u
def Reg.BUS_CNT_PEX (u : Nat) : Nat := 0x70500060 + 0x10000 * u
def Reg.BUS_CNT_RX (u : Nat) : Nat := 0x70500064 + 0x10000 * u
def Reg.BUS_SUP (u : Nat) (i : Nat) : Nat := 0x70500080 + 0x10000 * u + 4 * i
def Reg.RXO_CFG (u : Nat) (i : Nat) : Nat := 0x70501000 + 0x10000 * u + 8 * i
def Reg.RXO_ID (u : Nat) (i : Nat) : Nat := 0x70501004 + 0x10000 * u + 8 * i
def Reg.RXO_STAT (u : Nat) (i : Nat) : Nat := 0x70503000 + 0x10000 * u + 4 * i
def Reg.TXO_CFG (u : Nat) (i : Nat) : Nat := 0x70504000 + 0x10000 * u + 0x10 * i
def Reg.TXO_ID (u : Nat) (i : Nat) : Nat := 0x70504004 + 0x10000 * u + 0x10 * i
def Reg.TXO_TIM (u : Nat) (i : Nat) : Nat := 0x70504008 + 0x10000 * u + 0x10 * i
def Reg.TXO_STAT (u : Nat) (i : Nat) : Nat := 0x7050400C + 0x10000 * u + 0x10 * i
def Reg.RXO_RD (u : Nat) (i : Nat) : Nat := 0x70505000 + 0x10000 * u + 4 * i
def Reg.TXO_DATA (u : Nat) (i : Nat) (j : Nat) : Nat := 0x70506000 + 0x10000 * u + 0x40 * i + 4 * j
def Reg.MAP (u : Nat) (i : Nat) (j : Nat) : Nat := 0x70508000 + 0x10000 * u + 8 * i + 4 * j
/-! KPR: 15_message_buses.md R460. -/
def Reg.KPR_BWAKE : Nat := 0x70800200
def Reg.KPR_BWID : Nat := 0x70800204
def Reg.KPR_BWDATA (i : Nat) : Nat := 0x70800208 + 4 * i
def Reg.KPR_BWSTAT : Nat := 0x70800210
/-! BRD: 16_bridle_protocol.md R493. -/
def Reg.BRD_CTRL : Nat := 0x70540000
def Reg.BRD_STAT : Nat := 0x70540004
def Reg.BRD_FWCFG : Nat := 0x70540008
def Reg.BRD_FWQ_A : Nat := 0x70540010
def Reg.BRD_FWQ_S : Nat := 0x70540014
def Reg.BRD_FWRES : Nat := 0x70540018
def Reg.BRD_FWPW_ID : Nat := 0x7054001C
def Reg.BRD_FWPW_VAL : Nat := 0x70540020
def Reg.BRD_FWRLEN : Nat := 0x70540024
def Reg.BRD_FWCMT : Nat := 0x70540028
def Reg.BRD_CNT_MAC : Nat := 0x70540040
def Reg.BRD_CNT_MALF : Nat := 0x70540044
def Reg.BRD_CNT_NOSESS : Nat := 0x70540048
def Reg.BRD_CNT_REPLAY : Nat := 0x7054004C
def Reg.BRD_CNT_DUP : Nat := 0x70540050
def Reg.BRD_CNT_BUSY : Nat := 0x70540054
def Reg.BRD_CNT_LATE : Nat := 0x70540058
def Reg.BRD_CNT_PREEMPT : Nat := 0x7054005C
def Reg.BRD_CNT_AUTH : Nat := 0x70540060
def Reg.BRD_CNT_FWLATE : Nat := 0x70540064
def Reg.BRD_SESS (i : Nat) : Nat := 0x70540080 + 8 * i
def Reg.BRD_SEQ (i : Nat) : Nat := 0x70540084 + 8 * i
def Reg.BRD_LOCK (i : Nat) : Nat := 0x705400C0 + 4 * i
def Reg.BRD_SLOT (i : Nat) (j : Nat) : Nat := 0x70541000 + 0x200 * i + 4 * j
def Reg.BRD_RSLT (i : Nat) (j : Nat) : Nat := 0x70545000 + 0x200 * i + 4 * j
/-! SEC: 17_security.md R511. -/
def Reg.SEC_BOOTST : Nat := 0x70700000
def Reg.SEC_CONFIRM : Nat := 0x70700004
def Reg.SEC_RBCNT : Nat := 0x70700008
def Reg.SEC_SLOTST : Nat := 0x7070000C
def Reg.SEC_VCMD : Nat := 0x70700010
def Reg.SEC_VST : Nat := 0x70700014
def Reg.SEC_MEXT : Nat := 0x70700020
def Reg.SEC_MBUF (i : Nat) : Nat := 0x70700040 + 4 * i
def Reg.SEC_MEAS (i : Nat) (j : Nat) : Nat := 0x70700100 + 0x40 * i + 4 * j
def Reg.SEC_DBGCH (i : Nat) : Nat := 0x70700400 + 4 * i
def Reg.SEC_DBGSIG (i : Nat) : Nat := 0x70700440 + 4 * i
def Reg.SEC_DBGCTL : Nat := 0x707004A0
def Reg.SEC_DBGST : Nat := 0x707004A4
/-! CLK: 19_clocks.md R533. -/
def Reg.CLK_CTRL : Nat := 0x70000000
def Reg.CLK_STAT : Nat := 0x70000004
def Reg.CLK_DIV0 : Nat := 0x70000008
def Reg.CLK_DIV1 : Nat := 0x7000000C
def Reg.BOSC_TRIM : Nat := 0x70000010
def Reg.BOSC_MEAS : Nat := 0x70000014
def Reg.CLK_CNT_LOSS : Nat := 0x70000020
def Reg.CLK_CNT_RELOCK : Nat := 0x70000024
def Reg.CLK_LOSST : Nat := 0x70000028
def Reg.CLK_GATE (i : Nat) : Nat := 0x70000100 + 4 * i
/-! PWR: 20_power_domains.md R550. -/
def Reg.PWR_REQ : Nat := 0x70010000
def Reg.PWR_STAT : Nat := 0x70010004
def Reg.PWR_MMREQ : Nat := 0x70010008
def Reg.PWR_HOLD : Nat := 0x7001000C
def Reg.PWR_REFUSE_ID : Nat := 0x70010010
def Reg.PWR_EVT : Nat := 0x70010014
def Reg.PWR_CNT_REF (i : Nat) : Nat := 0x70010040 + 4 * i
def Reg.PWR_CNT_ABT (i : Nat) : Nat := 0x70010060 + 4 * i
/-! RST: 21_startup_reset.md R565. -/
def Reg.RST_CAUSE : Nat := 0x70020000
def Reg.RST_STAT : Nat := 0x70020004
def Reg.RST_STRAP : Nat := 0x70020008
def Reg.RST_BOOT : Nat := 0x7002000C
def Reg.RST_SWR : Nat := 0x70020010
def Reg.RST_DTB : Nat := 0x70020014
def Reg.RST_CNT_POR : Nat := 0x70020040
def Reg.RST_CNT_BOR : Nat := 0x70020044
def Reg.RST_CNT_WDGS : Nat := 0x70020048
def Reg.RST_CNT_WDGA : Nat := 0x7002004C
def Reg.RST_CNT_MGF : Nat := 0x70020050
def Reg.RST_CNT_SW : Nat := 0x70020054
def Reg.RST_CNT_DBG : Nat := 0x70020058
def Reg.RST_CNT_LP : Nat := 0x7002005C
/-! KPR: 22_module_interface.md R580. -/
def Reg.KPR_WOUT : Nat := 0x70800300

/-! Fields. -/

def Fld.DTB_LO_count_lo : Field := ⟨0, 32⟩
def Fld.DTB_HI_count_hi : Field := ⟨0, 32⟩
def Fld.DTB_MS_ms : Field := ⟨0, 32⟩
def Fld.PRC_CTRL_en : Field := ⟨0, 1⟩
def Fld.PRC_CTRL_stage : Field := ⟨1, 4⟩
def Fld.PRC_CTRL_decim : Field := ⟨5, 8⟩
def Fld.PRC_CTRL_count : Field := ⟨16, 13⟩
def Fld.PRC_BASE_base : Field := ⟨6, 17⟩
def Fld.PRC_SIZE_size : Field := ⟨0, 3⟩
def Fld.PRC_WRPTR_ptr : Field := ⟨0, 23⟩
def Fld.PRC_STATUS_late : Field := ⟨0, 1⟩
def Fld.PRC_STATUS_late_cnt : Field := ⟨16, 16⟩
def Fld.PRC_SEQ_seq : Field := ⟨0, 32⟩
def Fld.PDK_REFUSE_CNT_cnt : Field := ⟨0, 32⟩
def Fld.PDK_REFUSE_ID_id : Field := ⟨0, 20⟩
def Fld.PDK_REFUSE_SRC_core : Field := ⟨0, 3⟩
def Fld.PDK_DROP_CNT_cnt : Field := ⟨0, 32⟩
def Fld.PDK_DROP_ID_id : Field := ⟨0, 20⟩
def Fld.PRC_LIST_id : Field := ⟨0, 20⟩
def Fld.TT_CTL_en : Field := ⟨0, 1⟩
def Fld.TT_CTL_skind : Field := ⟨4, 4⟩
def Fld.TT_CTL_sidx : Field := ⟨8, 6⟩
def Fld.TT_PER_per : Field := ⟨0, 32⟩
def Fld.ADC_CTRL_en : Field := ⟨0, 1⟩
def Fld.ADC_STATUS_run : Field := ⟨0, 1⟩
def Fld.ADC_STATUS_urg_run : Field := ⟨1, 1⟩
def Fld.ADC_STATUS_urg_wait : Field := ⟨2, 1⟩
def Fld.ADC_STATUS_pend : Field := ⟨4, 4⟩
def Fld.ADC_STATUS_entry : Field := ⟨8, 4⟩
def Fld.ADC_STATUS_cfg_err : Field := ⟨16, 1⟩
def Fld.ADC_STATUS_ovr : Field := ⟨17, 1⟩
def Fld.ADC_STATUS_cal_busy : Field := ⟨18, 1⟩
def Fld.ADC_STATUS_fault : Field := ⟨19, 1⟩
def Fld.ADC_CSL_sel8 : Field := ⟨0, 3⟩
def Fld.ADC_CSL_sel9 : Field := ⟨4, 3⟩
def Fld.ADC_CSL_sel10 : Field := ⟨8, 3⟩
def Fld.ADC_CSL_sel11 : Field := ⟨12, 3⟩
def Fld.ADC_CSL_csl_en : Field := ⟨15, 1⟩
def Fld.ADC_TRG_skind : Field := ⟨0, 4⟩
def Fld.ADC_TRG_sidx : Field := ⟨4, 6⟩
def Fld.ADC_TRG_first : Field := ⟨16, 4⟩
def Fld.ADC_TRG_last : Field := ⟨20, 4⟩
def Fld.ADC_TRG_jen : Field := ⟨24, 1⟩
def Fld.ADC_TRG_jsel : Field := ⟨25, 3⟩
def Fld.ADC_TDLY_dly : Field := ⟨0, 16⟩
def Fld.ADC_SWTRG_slot : Field := ⟨0, 4⟩
def Fld.ADC_URG_entry : Field := ⟨0, 4⟩
def Fld.ADC_OFS_ofs : Field := ⟨0, 16⟩
def Fld.ADC_CAL_start : Field := ⟨0, 1⟩
def Fld.ADC_CNT_COLL_cnt : Field := ⟨0, 32⟩
def Fld.ADC_CNT_OVRUN_cnt : Field := ⟨0, 32⟩
def Fld.ADC_CNT_UREF_cnt : Field := ⟨0, 32⟩
def Fld.ADC_CNT_ABORT_cnt : Field := ⟨0, 32⟩
def Fld.ADC_ECFG_chan : Field := ⟨0, 4⟩
def Fld.ADC_ECFG_gain : Field := ⟨4, 2⟩
def Fld.ADC_ECFG_pol : Field := ⟨6, 1⟩
def Fld.ADC_ECFG_smp : Field := ⟨16, 10⟩
def Fld.ADC_EDST_sig : Field := ⟨0, 20⟩
def Fld.CE_CTRL_en : Field := ⟨0, 1⟩
def Fld.CE_CTRL_fkind : Field := ⟨1, 3⟩
def Fld.CE_CTRL_fidx : Field := ⟨4, 6⟩
def Fld.CE_STATUS_run : Field := ⟨0, 4⟩
def Fld.CE_STATUS_lrun : Field := ⟨4, 4⟩
def Fld.CE_STATUS_frame_err : Field := ⟨8, 1⟩
def Fld.CE_STATUS_ecc_fatal : Field := ⟨9, 1⟩
def Fld.CE_FCNT_f : Field := ⟨0, 32⟩
def Fld.CE_CNT_FRAME_cnt : Field := ⟨0, 32⟩
def Fld.CE_CNT_ECC_cnt : Field := ⟨0, 32⟩
def Fld.CE_TBL_kind : Field := ⟨30, 2⟩
def Fld.CE_TBL_base : Field := ⟨0, 12⟩
def Fld.CE_TBL_n : Field := ⟨12, 4⟩
def Fld.CE_TBL_sig : Field := ⟨0, 20⟩
def Fld.CE_TBL_nx : Field := ⟨20, 3⟩
def Fld.CE_TBL_ny : Field := ⟨23, 3⟩
def Fld.LAW_CTRL_en : Field := ⟨0, 1⟩
def Fld.LAW_CTRL_busy : Field := ⟨1, 1⟩
def Fld.LAW_CTRL_tkind : Field := ⟨2, 3⟩
def Fld.LAW_CTRL_tidx : Field := ⟨6, 6⟩
def Fld.LAW_CTRL_fb : Field := ⟨12, 2⟩
def Fld.LAW_CTRL_dec : Field := ⟨16, 6⟩
def Fld.LAW_CTRL_phase : Field := ⟨24, 6⟩
def Fld.LAW_TIME_L : Field := ⟨0, 8⟩
def Fld.LAW_WOPEN_wopen : Field := ⟨0, 20⟩
def Fld.LAW_WDUE_wdue : Field := ⟨0, 20⟩
def Fld.LAW_CODE_entry : Field := ⟨0, 10⟩
def Fld.LAW_CODE_end : Field := ⟨16, 10⟩
def Fld.LAW_LAH_lentry : Field := ⟨0, 10⟩
def Fld.LAW_LAH_lend : Field := ⟨16, 10⟩
def Fld.LAW_LAH_len : Field := ⟨31, 1⟩
def Fld.LAW_CYC_cyc : Field := ⟨0, 10⟩
def Fld.LAW_CYC_lcyc : Field := ⟨16, 10⟩
def Fld.LAW_DREG_dbase : Field := ⟨0, 6⟩
def Fld.LAW_DREG_dcnt : Field := ⟨8, 6⟩
def Fld.LAW_TRIPM_tl : Field := ⟨0, 12⟩
def Fld.LAW_STAT_err : Field := ⟨0, 4⟩
def Fld.LAW_STAT_sat : Field := ⟨4, 1⟩
def Fld.LAW_STAT_miss : Field := ⟨5, 1⟩
def Fld.LAW_STAT_trip : Field := ⟨6, 1⟩
def Fld.LAW_STAT_maxc : Field := ⟨16, 10⟩
def Fld.LAW_OMAP_gen : Field := ⟨0, 6⟩
def Fld.LAW_OMAP_cmp : Field := ⟨8, 1⟩
def Fld.LAW_OMAP_en : Field := ⟨15, 1⟩
def Fld.LAW_CAP_sig : Field := ⟨0, 20⟩
def Fld.LAW_CAP_en : Field := ⟨31, 1⟩
def Fld.LAW_LOPEN_lopen : Field := ⟨0, 20⟩
def Fld.LAW_RSTAT_last : Field := ⟨0, 4⟩
def Fld.LAW_RSTAT_lah_valid : Field := ⟨4, 1⟩
def Fld.LAW_RSTAT_lah_run : Field := ⟨5, 1⟩
def Fld.LAW_CNT_HITA_cnt : Field := ⟨0, 32⟩
def Fld.LAW_CNT_HITB_cnt : Field := ⟨0, 32⟩
def Fld.LAW_CNT_NOFIT_cnt : Field := ⟨0, 32⟩
def Fld.LAW_CNT_LSMP_cnt : Field := ⟨0, 32⟩
def Fld.LAW_CNT_VOID_cnt : Field := ⟨0, 32⟩
def Fld.LAW_PRD_kind : Field := ⟨0, 2⟩
def Fld.LAW_PRD_req : Field := ⟨4, 1⟩
def Fld.LAW_PRD_m : Field := ⟨8, 6⟩
def Fld.PWM_CTRL_en : Field := ⟨0, 1⟩
def Fld.PWM_CTRL_gs : Field := ⟨1, 1⟩
def Fld.PWM_CTRL_mode : Field := ⟨2, 2⟩
def Fld.PWM_CTRL_pre : Field := ⟨4, 2⟩
def Fld.PWM_CTRL_ld : Field := ⟨6, 2⟩
def Fld.PWM_CTRL_asym : Field := ⟨8, 1⟩
def Fld.PWM_CTRL_single : Field := ⟨9, 1⟩
def Fld.PWM_CTRL_mpol : Field := ⟨10, 1⟩
def Fld.PWM_STAT_tstate : Field := ⟨0, 2⟩
def Fld.PWM_STAT_trip : Field := ⟨2, 1⟩
def Fld.PWM_STAT_cfg_err : Field := ⟨3, 1⟩
def Fld.PWM_STAT_run : Field := ⟨4, 1⟩
def Fld.PWM_STAT_wait : Field := ⟨5, 1⟩
def Fld.PWM_STAT_lawown : Field := ⟨6, 1⟩
def Fld.PWM_STAT_tsrc : Field := ⟨8, 12⟩
def Fld.PWM_PER_per : Field := ⟨0, 16⟩
def Fld.PWM_CMPA_cmp : Field := ⟨0, 22⟩
def Fld.PWM_CMPB_cmp : Field := ⟨0, 22⟩
def Fld.PWM_DT_coarse : Field := ⟨6, 10⟩
def Fld.PWM_DT_fine : Field := ⟨0, 6⟩
def Fld.PWM_MINP_coarse : Field := ⟨6, 10⟩
def Fld.PWM_MINP_fine : Field := ⟨0, 6⟩
def Fld.PWM_PHS_phs : Field := ⟨0, 16⟩
def Fld.PWM_PHS_dir : Field := ⟨16, 1⟩
def Fld.PWM_SYNC_gen : Field := ⟨0, 6⟩
def Fld.PWM_SYNC_en : Field := ⟨8, 1⟩
def Fld.PWM_TRIPM_tl : Field := ⟨0, 12⟩
def Fld.PWM_SAFE_pat : Field := ⟨0, 2⟩
def Fld.PWM_SAFE_msel : Field := ⟨4, 1⟩
def Fld.PWM_COT_src : Field := ⟨0, 1⟩
def Fld.PWM_COT_gen : Field := ⟨8, 6⟩
def Fld.PWM_CNTR_cnt : Field := ⟨0, 16⟩
def Fld.PWM_CNTR_down : Field := ⟨16, 1⟩
def Fld.PWM_ACTA_cmp : Field := ⟨0, 22⟩
def Fld.PWM_ACTB_cmp : Field := ⟨0, 22⟩
def Fld.PWM_CNT_DROP_cnt : Field := ⟨0, 32⟩
def Fld.PWM_CNT_STRETCH_cnt : Field := ⟨0, 32⟩
def Fld.PWM_CNT_WREF_cnt : Field := ⟨0, 32⟩
def Fld.PWM_CNT_TRIP_cnt : Field := ⟨0, 32⟩
def Fld.PWM_CNT_SYNC_cnt : Field := ⟨0, 32⟩
def Fld.PWM_CNT_FORCE_cnt : Field := ⟨0, 32⟩
def Fld.TRP_LVL_tl : Field := ⟨0, 12⟩
def Fld.TRP_LATCH_tl : Field := ⟨0, 12⟩
def Fld.TRP_POL_pol : Field := ⟨0, 4⟩
def Fld.PWM_GSTART_start : Field := ⟨0, 32⟩
def Fld.PWM_GSTART_HI_start_hi : Field := ⟨0, 8⟩
def Fld.YRW_CTRL_en : Field := ⟨0, 1⟩
def Fld.YRW_STAT_n : Field := ⟨0, 8⟩
def Fld.YRW_STAT_fault : Field := ⟨8, 1⟩
def Fld.YRW_STAT_flt_seen : Field := ⟨9, 1⟩
def Fld.GDC_CTRL_learn : Field := ⟨0, 1⟩
def Fld.GDC_CTRL_leglock : Field := ⟨1, 1⟩
def Fld.GDC_STAT_drv_en : Field := ⟨0, 1⟩
def Fld.GDC_STAT_seq : Field := ⟨1, 2⟩
def Fld.GDC_STAT_clr : Field := ⟨3, 1⟩
def Fld.GDC_STAT_cfg_err : Field := ⟨8, 1⟩
def Fld.GDC_ENR_req : Field := ⟨0, 1⟩
def Fld.GDC_ENR_pulse : Field := ⟨1, 1⟩
def Fld.GDC_PRB_mask : Field := ⟨0, 9⟩
def Fld.GDC_PRB_start : Field := ⟨16, 1⟩
def Fld.GDC_PRB_RES_pass : Field := ⟨0, 9⟩
def Fld.GDC_PRB_RES_done : Field := ⟨16, 1⟩
def Fld.GDC_PRB_RES_busy : Field := ⟨17, 1⟩
def Fld.GDC_FLT_LO_flt : Field := ⟨0, 32⟩
def Fld.GDC_FLT_HI_flt : Field := ⟨0, 32⟩
def Fld.GDC_LFLT_flt : Field := ⟨0, 32⟩
def Fld.GDC_CNT_CLEAR_cnt : Field := ⟨0, 32⟩
def Fld.GDC_CNT_ENSHORT_cnt : Field := ⟨0, 32⟩
def Fld.GDC_CNT_PEND_cnt : Field := ⟨0, 32⟩
def Fld.DCL_MEAS_v : Field := ⟨0, 11⟩
def Fld.DCL_CHON_v : Field := ⟨0, 11⟩
def Fld.DCL_CHOFF_v : Field := ⟨0, 11⟩
def Fld.DCL_OV_v : Field := ⟨0, 11⟩
def Fld.DCL_OVHYS_v : Field := ⟨0, 11⟩
def Fld.BRK_CTRL_mode : Field := ⟨0, 2⟩
def Fld.BRK_CNT_cnt : Field := ⟨0, 32⟩
def Fld.CHL_MEAS_v : Field := ⟨0, 11⟩
def Fld.DSC_CTRL_req : Field := ⟨0, 1⟩
def Fld.DSC_CFG_vdone : Field := ⟨0, 11⟩
def Fld.DSC_CFG_tmax : Field := ⟨16, 12⟩
def Fld.DSC_STAT_active : Field := ⟨0, 1⟩
def Fld.DSC_STAT_done : Field := ⟨1, 1⟩
def Fld.DSC_STAT_timeout : Field := ⟨2, 1⟩
def Fld.DSC_STAT_refused : Field := ⟨3, 1⟩
def Fld.GDC_PLEG_res : Field := ⟨0, 3⟩
def Fld.GDC_PLEG_open : Field := ⟨16, 4⟩
def Fld.GCH_CFG_sc_en : Field := ⟨0, 1⟩
def Fld.GCH_CFG_scth : Field := ⟨4, 4⟩
def Fld.GCH_CFG_blank : Field := ⟨8, 3⟩
def Fld.GCH_STAT_state : Field := ⟨0, 3⟩
def Fld.GCH_STAT_qual : Field := ⟨4, 5⟩
def Fld.GCH_STAT_fault : Field := ⟨12, 3⟩
def Fld.GCH_STAT_bias_uv : Field := ⟨16, 1⟩
def Fld.GCH_STAT_lfault : Field := ⟨17, 1⟩
def Fld.GCH_LRN_dvdt : Field := ⟨0, 8⟩
def Fld.GCH_LRN_db : Field := ⟨8, 8⟩
def Fld.GCH_LRN_lfrz : Field := ⟨16, 1⟩
def Fld.GCH_LRN_vsrc : Field := ⟨17, 1⟩
def Fld.GCH_LBND_pre_min : Field := ⟨0, 7⟩
def Fld.GCH_LBND_pre_max : Field := ⟨8, 7⟩
def Fld.GCH_LBND_sl_min : Field := ⟨16, 4⟩
def Fld.GCH_LBND_sl_max : Field := ⟨20, 4⟩
def Fld.GCH_DTGT_on : Field := ⟨0, 12⟩
def Fld.GCH_DTGT_off : Field := ⟨16, 12⟩
def Fld.GCH_TOFF_lim : Field := ⟨0, 12⟩
def Fld.GCH_TOFF_MAX_max : Field := ⟨0, 12⟩
def Fld.GCH_SEED_pre : Field := ⟨0, 7⟩
def Fld.GCH_SEED_sl : Field := ⟨8, 4⟩
def Fld.GCH_IBIN0_sig : Field := ⟨0, 20⟩
def Fld.GCH_IBIN0_en : Field := ⟨31, 1⟩
def Fld.GCH_IBIN1_th1 : Field := ⟨0, 15⟩
def Fld.GCH_IBIN1_th2 : Field := ⟨16, 15⟩
def Fld.GCH_IBIN2_th3 : Field := ⟨0, 15⟩
def Fld.GCH_BIN_pre : Field := ⟨0, 7⟩
def Fld.GCH_BIN_sl : Field := ⟨8, 4⟩
def Fld.GCH_MEAS_t_in : Field := ⟨0, 12⟩
def Fld.GCH_MEAS_t_pl : Field := ⟨16, 12⟩
def Fld.GCH_MEAS_bin : Field := ⟨28, 3⟩
def Fld.GCH_MEAS_valid : Field := ⟨31, 1⟩
def Fld.GCH_GLOOP_r : Field := ⟨0, 16⟩
def Fld.GCH_GLOOP_res : Field := ⟨16, 2⟩
def Fld.GCH_GLW_rmin : Field := ⟨0, 16⟩
def Fld.GCH_GLW_rmax : Field := ⟨16, 16⟩
def Fld.GCH_SKEW_trim : Field := ⟨0, 8⟩
def Fld.GCH_CNT_SC_cnt : Field := ⟨0, 32⟩
def Fld.GCH_CNT_STEP_cnt : Field := ⟨0, 32⟩
def Fld.GCH_CNT_NOPL_cnt : Field := ⟨0, 32⟩
def Fld.GCH_CNT_LFLT_cnt : Field := ⟨0, 32⟩
def Fld.LCH_CFG_str : Field := ⟨0, 2⟩
def Fld.LCH_STAT_state : Field := ⟨0, 2⟩
def Fld.LCH_STAT_bs_uv : Field := ⟨4, 1⟩
def Fld.LCH_STAT_ovc : Field := ⟨8, 1⟩
def Fld.LCH_CNT_OVC_cnt : Field := ⟨0, 32⟩
def Fld.RES_CTRL_en : Field := ⟨0, 1⟩
def Fld.RES_CTRL_freq : Field := ⟨1, 2⟩
def Fld.RES_CTRL_gen : Field := ⟨4, 6⟩
def Fld.RES_CTRL_amp : Field := ⟨12, 8⟩
def Fld.RES_STAT_lock : Field := ⟨0, 1⟩
def Fld.RES_STAT_exc_oc : Field := ⟨1, 1⟩
def Fld.RES_STAT_exc_open : Field := ⟨2, 1⟩
def Fld.RES_STAT_cfg_err : Field := ⟨3, 1⟩
def Fld.ENC_CTRL_en : Field := ⟨0, 1⟩
def Fld.ENC_CTRL_dir : Field := ⟨1, 1⟩
def Fld.ENC_CTRL_zen : Field := ⟨2, 1⟩
def Fld.ENC_CTRL_pp : Field := ⟨4, 4⟩
def Fld.ENC_CTRL_cpr : Field := ⟨16, 16⟩
def Fld.ENC_STAT_zseen : Field := ⟨0, 1⟩
def Fld.ENC_STAT_err : Field := ⟨1, 1⟩
def Fld.ENC_CNT_cnt : Field := ⟨0, 16⟩
def Fld.ENC_ZOFS_ofs : Field := ⟨0, 16⟩
def Fld.INL_CTRL_en : Field := ⟨0, 1⟩
def Fld.INL_CTRL_role : Field := ⟨1, 2⟩
def Fld.INL_CTRL_s2 : Field := ⟨3, 1⟩
def Fld.INL_CTRL_ppstd : Field := ⟨4, 1⟩
def Fld.INL_CTRL_probe : Field := ⟨5, 1⟩
def Fld.INL_STAT_osc : Field := ⟨0, 1⟩
def Fld.INL_STAT_s2_on : Field := ⟨1, 1⟩
def Fld.INL_STAT_cfg_err : Field := ⟨8, 1⟩
def Fld.INL_CPPER_cnt : Field := ⟨0, 20⟩
def Fld.INL_CPHIGH_cnt : Field := ⟨0, 20⟩
def Fld.INL_CNT_GLITCH_cnt : Field := ⟨0, 32⟩
def Fld.CHS_CTRL_en : Field := ⟨0, 1⟩
def Fld.CHS_STAT_det : Field := ⟨0, 1⟩
def Fld.CHS_STAT_cause : Field := ⟨1, 2⟩
def Fld.CHS_VMAX_v : Field := ⟨0, 11⟩
def Fld.CHS_DV_dv : Field := ⟨0, 8⟩
def Fld.CHS_ISIG_sig : Field := ⟨0, 20⟩
def Fld.CHS_IMIN_imin : Field := ⟨0, 15⟩
def Fld.CHS_CNT_cnt : Field := ⟨0, 32⟩
def Fld.LVC_CFG_compat640 : Field := ⟨0, 1⟩
def Fld.LVC_CFG_sync_en : Field := ⟨1, 1⟩
def Fld.LVC_CFG_ripl : Field := ⟨4, 4⟩
def Fld.LVC_CFG_toff_min : Field := ⟨8, 8⟩
def Fld.LVC_CFG_fsw : Field := ⟨16, 9⟩
def Fld.LVC_STAT_pg : Field := ⟨0, 1⟩
def Fld.LVC_STAT_sync_lock : Field := ⟨1, 1⟩
def Fld.LVC_STAT_ov : Field := ⟨2, 1⟩
def Fld.LVC_STAT_hs_short : Field := ⟨3, 1⟩
def Fld.LVC_STAT_dcx_oc : Field := ⟨4, 1⟩
def Fld.LVC_STAT_dcx_flt : Field := ⟨5, 1⟩
def Fld.LVC_OVTH_mv : Field := ⟨0, 16⟩
def Fld.LVC_SYNC_per : Field := ⟨0, 16⟩
def Fld.LVC_DCXLIM_a : Field := ⟨0, 6⟩
def Fld.LVC_CNT_HICCUP_cnt : Field := ⟨0, 32⟩
def Fld.LVC_CNT_RETRY_cnt : Field := ⟨0, 32⟩
def Fld.LVC_CNT_SYNCLOSS_cnt : Field := ⟨0, 32⟩
def Fld.LVC_CNT_OV_cnt : Field := ⟨0, 32⟩
def Fld.KPR_SHIP_arm : Field := ⟨0, 1⟩
def Fld.KPR_LPCFG_ratio : Field := ⟨0, 16⟩
def Fld.KPR_BSTAT_closed : Field := ⟨0, 1⟩
def Fld.KPR_BSTAT_ship : Field := ⟨1, 1⟩
def Fld.KPR_CNT_LP_cnt : Field := ⟨0, 32⟩
def Fld.KPR_CNT_LPIGN_cnt : Field := ⟨0, 32⟩
def Fld.ACT_SHTP_ton : Field := ⟨0, 4⟩
def Fld.ACT_SHTP_rest : Field := ⟨8, 8⟩
def Fld.ACT_SHTP_cmin : Field := ⟨16, 8⟩
def Fld.ACT_SHTP_imin : Field := ⟨24, 8⟩
def Fld.ACT_PKCFG_sie : Field := ⟨0, 3⟩
def Fld.ACT_PKCFG_sir : Field := ⟨4, 3⟩
def Fld.ACT_STAT_sh_busy : Field := ⟨0, 1⟩
def Fld.ACT_STAT_ambig : Field := ⟨1, 1⟩
def Fld.ACT_STAT_open : Field := ⟨2, 1⟩
def Fld.ACT_STAT_stall : Field := ⟨3, 1⟩
def Fld.ACT_STAT_pk_to : Field := ⟨4, 1⟩
def Fld.ACT_STAT_pk_disc : Field := ⟨5, 1⟩
def Fld.ACT_STAT_cl_open : Field := ⟨6, 1⟩
def Fld.ACT_STAT_pmp_fail : Field := ⟨7, 1⟩
def Fld.ACT_STAT_cfg_err : Field := ⟨8, 1⟩
def Fld.ACT_FLOAT_sh : Field := ⟨0, 3⟩
def Fld.ACT_FLOAT_op : Field := ⟨4, 3⟩
def Fld.ACT_CNT_SHSTART_cnt : Field := ⟨0, 32⟩
def Fld.ACT_CNT_SHFAIL_cnt : Field := ⟨0, 32⟩
def Fld.ACT_CNT_PKTO_cnt : Field := ⟨0, 32⟩
def Fld.ACT_CNT_PMPRETRY_cnt : Field := ⟨0, 32⟩
def Fld.HARN_CTRL_arel : Field := ⟨0, 1⟩
def Fld.HARN_CTRL_amode : Field := ⟨2, 2⟩
def Fld.HARN_CTRL_split_ok : Field := ⟨4, 1⟩
def Fld.HARN_STAT_mode : Field := ⟨0, 2⟩
def Fld.HARN_STAT_state : Field := ⟨2, 2⟩
def Fld.HARN_STAT_live : Field := ⟨4, 3⟩
def Fld.HARN_STAT_odd : Field := ⟨8, 2⟩
def Fld.HARN_STAT_cfg_err : Field := ⟨12, 1⟩
def Fld.HARN_RJN_now : Field := ⟨0, 1⟩
def Fld.HARN_ARST_addr : Field := ⟨0, 32⟩
def Fld.HARN_PC1_addr : Field := ⟨0, 32⟩
def Fld.HARN_PC2_addr : Field := ⟨0, 32⟩
def Fld.HARN_MIS_kind : Field := ⟨0, 4⟩
def Fld.HARN_MIS_core : Field := ⟨4, 2⟩
def Fld.HARN_MIS_nomaj : Field := ⟨6, 1⟩
def Fld.HARN_CNT_MIS_cnt : Field := ⟨0, 32⟩
def Fld.HARN_CNT_RESYNC_cnt : Field := ⟨0, 32⟩
def Fld.HARN_CNT_REH_cnt : Field := ⟨0, 32⟩
def Fld.HARN_CNT_REHREF_cnt : Field := ⟨0, 32⟩
def Fld.HARN_MAXSTALL_cyc : Field := ⟨0, 16⟩
def Fld.WDG_CTRL_en : Field := ⟨0, 1⟩
def Fld.WDG_CTRL_win : Field := ⟨1, 7⟩
def Fld.WDG_CTRL_tmo : Field := ⟨8, 24⟩
def Fld.WDG_STAT_exp : Field := ⟨0, 1⟩
def Fld.WDG_STAT_warn : Field := ⟨1, 1⟩
def Fld.IRQ_CFG_prio : Field := ⟨0, 4⟩
def Fld.IRQ_CFG_core : Field := ⟨4, 2⟩
def Fld.IRQ_CFG_team : Field := ⟨8, 1⟩
def Fld.IRQ_THR_thr : Field := ⟨0, 4⟩
def Fld.IRQ_CLAIM_src : Field := ⟨0, 7⟩
def Fld.IRQ_CLAIM_none : Field := ⟨7, 1⟩
def Fld.IRQ_SWI_swi : Field := ⟨0, 16⟩
def Fld.MG_CTRL_st : Field := ⟨0, 1⟩
def Fld.MG_CTRL_dsc : Field := ⟨1, 1⟩
def Fld.MG_CTRL_couple : Field := ⟨2, 1⟩
def Fld.MG_STAT_locked : Field := ⟨0, 1⟩
def Fld.MG_STAT_lock_err : Field := ⟨1, 3⟩
def Fld.MG_STAT_st_busy : Field := ⟨4, 1⟩
def Fld.MG_STAT_st_pass : Field := ⟨5, 1⟩
def Fld.MG_STAT_st_fail : Field := ⟨6, 1⟩
def Fld.MG_STAT_sto : Field := ⟨7, 1⟩
def Fld.MG_STAT_cfg_err : Field := ⟨8, 1⟩
def Fld.MG_LOCK_key : Field := ⟨0, 32⟩
def Fld.MG_CRC_crc : Field := ⟨0, 32⟩
def Fld.MG_GTRIP_gen : Field := ⟨0, 32⟩
def Fld.MG_GTRIP_HI_gen : Field := ⟨0, 8⟩
def Fld.MG_TL6_gen : Field := ⟨0, 32⟩
def Fld.MG_TL6_HI_gen : Field := ⟨0, 8⟩
def Fld.MG_REPS_scope : Field := ⟨0, 16⟩
def Fld.MG_REPS_rx : Field := ⟨16, 3⟩
def Fld.MG_REPA_scope : Field := ⟨0, 16⟩
def Fld.MG_REPA_rx : Field := ⟨16, 3⟩
def Fld.MG_CLR_scope : Field := ⟨0, 16⟩
def Fld.MG_FLT_scope : Field := ⟨0, 16⟩
def Fld.MG_FLT_cls : Field := ⟨16, 4⟩
def Fld.MG_FLT_rx : Field := ⟨20, 3⟩
def Fld.MG_CNT_FLT_cnt : Field := ⟨0, 32⟩
def Fld.MG_CNT_REPREF_cnt : Field := ⟨0, 32⟩
def Fld.MG_RX_rx : Field := ⟨0, 3⟩
def Fld.MG_RX_lvl : Field := ⟨4, 3⟩
def Fld.MG_DCFG_src : Field := ⟨0, 1⟩
def Fld.MG_DCFG_pp : Field := ⟨4, 4⟩
def Fld.MG_DCFG_cpr : Field := ⟨16, 16⟩
def Fld.MG_DAMP_amin : Field := ⟨0, 16⟩
def Fld.MG_DAMP_amax : Field := ⟨16, 16⟩
def Fld.MG_NSS_nss : Field := ⟨0, 16⟩
def Fld.MG_NSS_nhys : Field := ⟨16, 16⟩
def Fld.MG_SPD_n : Field := ⟨0, 24⟩
def Fld.MG_SPD_valid : Field := ⟨24, 1⟩
def Fld.MG_POS_pos : Field := ⟨0, 32⟩
def Fld.MG_XCHK_tol : Field := ⟨0, 16⟩
def Fld.MG_SS1_t : Field := ⟨0, 11⟩
def Fld.MG_SS1_tol : Field := ⟨16, 16⟩
def Fld.MG_SS1N_nz : Field := ⟨0, 16⟩
def Fld.MG_SLS01_lim : Field := ⟨0, 16⟩
def Fld.MG_SLS23_lim : Field := ⟨0, 16⟩
def Fld.MG_SDI_tol : Field := ⟨0, 24⟩
def Fld.MG_SLP_LO_pos : Field := ⟨0, 32⟩
def Fld.MG_SLP_HI_pos : Field := ⟨0, 32⟩
def Fld.MG_DSTAT_fstate : Field := ⟨0, 2⟩
def Fld.MG_DSTAT_cause : Field := ⟨4, 4⟩
def Fld.MG_CNT_SS1_cnt : Field := ⟨0, 32⟩
def Fld.MG_CNT_STO_cnt : Field := ⟨0, 32⟩
def Fld.MG_SEL_sls_en : Field := ⟨0, 1⟩
def Fld.MG_SEL_sls_sel : Field := ⟨1, 2⟩
def Fld.MG_SEL_sdi_en : Field := ⟨3, 1⟩
def Fld.MG_SEL_dir : Field := ⟨4, 1⟩
def Fld.MG_SEL_slp_en : Field := ⟨5, 1⟩
def Fld.MG_SEL_ref : Field := ⟨6, 1⟩
def Fld.MG_SEL_drv : Field := ⟨8, 2⟩
def Fld.MG_SI_fn : Field := ⟨0, 3⟩
def Fld.MG_SI_sel : Field := ⟨4, 2⟩
def Fld.MG_SI_drv : Field := ⟨6, 2⟩
def Fld.MG_SI_tpa : Field := ⟨8, 3⟩
def Fld.MG_SI_tpb : Field := ⟨12, 3⟩
def Fld.MG_SI_anti : Field := ⟨15, 1⟩
def Fld.MG_SI_disc : Field := ⟨16, 8⟩
def Fld.MG_CNT_SI_cnt : Field := ⟨0, 32⟩
def Fld.MG_SO_src : Field := ⟨0, 3⟩
def Fld.MG_SO_pw : Field := ⟨4, 12⟩
def Fld.MG_SOREQ_req : Field := ⟨0, 4⟩
def Fld.MG_SOSTAT_on : Field := ⟨0, 4⟩
def Fld.MG_SOSTAT_flt : Field := ⟨8, 4⟩
def Fld.MG_TP_en : Field := ⟨0, 4⟩
def Fld.TH_CTRL_en : Field := ⟨0, 1⟩
def Fld.TH_STAT_sd : Field := ⟨0, 8⟩
def Fld.TH_STAT_reen_ref : Field := ⟨8, 1⟩
def Fld.TH_STAT_nvm_pend : Field := ⟨9, 1⟩
def Fld.TH_STAT_cfg_err : Field := ⟨10, 1⟩
def Fld.TH_REEN_zone : Field := ⟨0, 8⟩
def Fld.TH_RECPTR_n : Field := ⟨0, 6⟩
def Fld.TH_CNT_SD_cnt : Field := ⟨0, 32⟩
def Fld.TH_CNT_REENREF_cnt : Field := ⟨0, 32⟩
def Fld.TH_CNT_RECDROP_cnt : Field := ⟨0, 32⟩
def Fld.TH_ZWRN_lvl : Field := ⟨0, 16⟩
def Fld.TH_ZWRN_hys : Field := ⟨16, 8⟩
def Fld.TH_ZTHR_lvl : Field := ⟨0, 16⟩
def Fld.TH_ZTHR_hys : Field := ⟨16, 8⟩
def Fld.TH_ZSD_lvl : Field := ⟨0, 16⟩
def Fld.TH_ZSD_hys : Field := ⟨16, 8⟩
def Fld.TH_ZSEN_sen : Field := ⟨0, 32⟩
def Fld.TH_ZSTAT_state : Field := ⟨0, 3⟩
def Fld.TH_ZSTAT_cool : Field := ⟨3, 1⟩
def Fld.TH_ZSTAT_sen : Field := ⟨8, 5⟩
def Fld.TH_ZSTAT_t : Field := ⟨16, 16⟩
def Fld.TH_ZDER_d : Field := ⟨0, 15⟩
def Fld.TH_SEN_sig : Field := ⟨0, 20⟩
def Fld.TH_SEN_crv : Field := ⟨20, 2⟩
def Fld.TH_SEN_en : Field := ⟨31, 1⟩
def Fld.TH_CRV_t : Field := ⟨0, 16⟩
def Fld.BUS_CTRL_en : Field := ⟨0, 1⟩
def Fld.BUS_CTRL_mode : Field := ⟨1, 2⟩
def Fld.BUS_CTRL_fd : Field := ⟨3, 1⟩
def Fld.BUS_CTRL_xl : Field := ⟨4, 1⟩
def Fld.BUS_CTRL_pxhd : Field := ⟨5, 1⟩
def Fld.BUS_CTRL_abo : Field := ⟨6, 1⟩
def Fld.BUS_CTRL_rec : Field := ⟨7, 1⟩
def Fld.BUS_CTRL_slp : Field := ⟨8, 1⟩
def Fld.BUS_STAT_awake : Field := ⟨0, 1⟩
def Fld.BUS_STAT_boff : Field := ⟨1, 1⟩
def Fld.BUS_STAT_epass : Field := ⟨2, 1⟩
def Fld.BUS_STAT_tsmp_off : Field := ⟨3, 1⟩
def Fld.BUS_STAT_integ : Field := ⟨4, 1⟩
def Fld.BUS_STAT_cfg_err : Field := ⟨8, 1⟩
def Fld.BUS_STAT_pex : Field := ⟨9, 1⟩
def Fld.BUS_NBT_brp : Field := ⟨0, 8⟩
def Fld.BUS_NBT_tseg1 : Field := ⟨8, 8⟩
def Fld.BUS_NBT_tseg2 : Field := ⟨16, 7⟩
def Fld.BUS_NBT_sjw : Field := ⟨23, 7⟩
def Fld.BUS_NBT_tsmp : Field := ⟨31, 1⟩
def Fld.BUS_DBT_brp : Field := ⟨0, 5⟩
def Fld.BUS_DBT_tseg1 : Field := ⟨8, 5⟩
def Fld.BUS_DBT_tseg2 : Field := ⟨16, 4⟩
def Fld.BUS_DBT_sjw : Field := ⟨20, 4⟩
def Fld.BUS_TDC_ofs : Field := ⟨0, 7⟩
def Fld.BUS_TDC_en : Field := ⟨8, 1⟩
def Fld.BUS_ERR_tec : Field := ⟨0, 9⟩
def Fld.BUS_ERR_rec : Field := ⟨16, 8⟩
def Fld.BUS_BRQ_id : Field := ⟨0, 29⟩
def Fld.BUS_BRQ_ide : Field := ⟨29, 1⟩
def Fld.BUS_BRQ_en : Field := ⟨31, 1⟩
def Fld.BUS_BRP_id : Field := ⟨0, 29⟩
def Fld.BUS_BRP_ide : Field := ⟨29, 1⟩
def Fld.BUS_BRP_xl : Field := ⟨30, 1⟩
def Fld.RXO_RDSEL_obj : Field := ⟨0, 10⟩
def Fld.BUS_CNT_NOMATCH_cnt : Field := ⟨0, 32⟩
def Fld.BUS_CNT_TOOLONG_cnt : Field := ⟨0, 32⟩
def Fld.BUS_CNT_LOST_cnt : Field := ⟨0, 32⟩
def Fld.BUS_CNT_SHORT_cnt : Field := ⟨0, 32⟩
def Fld.BUS_CNT_PACKSAT_cnt : Field := ⟨0, 32⟩
def Fld.BUS_CNT_LATE_cnt : Field := ⟨0, 32⟩
def Fld.BUS_CNT_ABANDON_cnt : Field := ⟨0, 32⟩
def Fld.BUS_CNT_BOFF_cnt : Field := ⟨0, 32⟩
def Fld.BUS_CNT_PEX_cnt : Field := ⟨0, 32⟩
def Fld.BUS_CNT_RX_cnt : Field := ⟨0, 32⟩
def Fld.BUS_SUP_obj : Field := ⟨0, 10⟩
def Fld.BUS_SUP_tmo : Field := ⟨16, 10⟩
def Fld.BUS_SUP_en : Field := ⟨31, 1⟩
def Fld.RXO_CFG_en : Field := ⟨0, 1⟩
def Fld.RXO_CFG_fmt : Field := ⟨1, 2⟩
def Fld.RXO_CFG_ide : Field := ⟨3, 1⟩
def Fld.RXO_CFG_cons : Field := ⟨4, 1⟩
def Fld.RXO_CFG_xlen : Field := ⟨5, 3⟩
def Fld.RXO_CFG_cnt : Field := ⟨8, 7⟩
def Fld.RXO_CFG_first : Field := ⟨16, 11⟩
def Fld.RXO_ID_id : Field := ⟨0, 29⟩
def Fld.RXO_STAT_new : Field := ⟨0, 1⟩
def Fld.RXO_STAT_lost : Field := ⟨1, 1⟩
def Fld.RXO_STAT_short : Field := ⟨2, 1⟩
def Fld.TXO_CFG_en : Field := ⟨0, 1⟩
def Fld.TXO_CFG_fmt : Field := ⟨1, 2⟩
def Fld.TXO_CFG_ide : Field := ⟨3, 1⟩
def Fld.TXO_CFG_trig : Field := ⟨4, 1⟩
def Fld.TXO_CFG_cnt : Field := ⟨8, 7⟩
def Fld.TXO_CFG_first : Field := ⟨16, 11⟩
def Fld.TXO_CFG_dlc : Field := ⟨28, 4⟩
def Fld.TXO_ID_id : Field := ⟨0, 29⟩
def Fld.TXO_TIM_per : Field := ⟨0, 12⟩
def Fld.TXO_TIM_ph : Field := ⟨12, 12⟩
def Fld.TXO_TIM_tmax : Field := ⟨24, 8⟩
def Fld.TXO_STAT_send : Field := ⟨0, 1⟩
def Fld.TXO_STAT_pend : Field := ⟨1, 1⟩
def Fld.TXO_STAT_late : Field := ⟨2, 1⟩
def Fld.TXO_STAT_abandoned : Field := ⟨3, 1⟩
def Fld.MAP_sig : Field := ⟨0, 20⟩
def Fld.MAP_pos : Field := ⟨20, 12⟩
def Fld.MAP1_len : Field := ⟨0, 5⟩
def Fld.MAP1_order : Field := ⟨8, 1⟩
def Fld.MAP1_sgn : Field := ⟨9, 1⟩
def Fld.MAP1_inv : Field := ⟨10, 1⟩
def Fld.MAP1_shl : Field := ⟨16, 5⟩
def Fld.KPR_BWAKE_mode : Field := ⟨0, 2⟩
def Fld.KPR_BWAKE_rate : Field := ⟨4, 2⟩
def Fld.KPR_BWAKE_wdlc : Field := ⟨8, 4⟩
def Fld.KPR_BWAKE_ide : Field := ⟨12, 1⟩
def Fld.KPR_BWID_wid : Field := ⟨0, 29⟩
def Fld.KPR_BWDATA_dmask : Field := ⟨0, 32⟩
def Fld.KPR_BWSTAT_cause : Field := ⟨0, 2⟩
def Fld.KPR_BWSTAT_fec : Field := ⟨8, 6⟩
def Fld.KPR_BWSTAT_wmask : Field := ⟨16, 13⟩
def Fld.BRD_CTRL_en : Field := ⟨0, 1⟩
def Fld.BRD_CTRL_rdl : Field := ⟨8, 8⟩
def Fld.BRD_CTRL_idle : Field := ⟨16, 16⟩
def Fld.BRD_STAT_inflight : Field := ⟨0, 6⟩
def Fld.BRD_STAT_fwq_a : Field := ⟨8, 6⟩
def Fld.BRD_STAT_fwq_s : Field := ⟨16, 6⟩
def Fld.BRD_STAT_cfg_err : Field := ⟨24, 1⟩
def Fld.BRD_FWCFG_tmo : Field := ⟨0, 16⟩
def Fld.BRD_FWQ_A_slot : Field := ⟨0, 8⟩
def Fld.BRD_FWQ_S_slot : Field := ⟨0, 8⟩
def Fld.BRD_FWRES_slot : Field := ⟨0, 5⟩
def Fld.BRD_FWRES_status : Field := ⟨8, 8⟩
def Fld.BRD_FWRES_target : Field := ⟨16, 4⟩
def Fld.BRD_FWRES_lat : Field := ⟨20, 12⟩
def Fld.BRD_FWPW_ID_sig : Field := ⟨0, 20⟩
def Fld.BRD_FWPW_ID_slot : Field := ⟨24, 5⟩
def Fld.BRD_FWPW_VAL_value : Field := ⟨0, 32⟩
def Fld.BRD_FWRLEN_slot : Field := ⟨0, 5⟩
def Fld.BRD_FWRLEN_len : Field := ⟨16, 9⟩
def Fld.BRD_FWCMT_slot : Field := ⟨0, 5⟩
def Fld.BRD_CNT_MAC_cnt : Field := ⟨0, 32⟩
def Fld.BRD_CNT_MALF_cnt : Field := ⟨0, 32⟩
def Fld.BRD_CNT_NOSESS_cnt : Field := ⟨0, 32⟩
def Fld.BRD_CNT_REPLAY_cnt : Field := ⟨0, 32⟩
def Fld.BRD_CNT_DUP_cnt : Field := ⟨0, 32⟩
def Fld.BRD_CNT_BUSY_cnt : Field := ⟨0, 32⟩
def Fld.BRD_CNT_LATE_cnt : Field := ⟨0, 32⟩
def Fld.BRD_CNT_PREEMPT_cnt : Field := ⟨0, 32⟩
def Fld.BRD_CNT_AUTH_cnt : Field := ⟨0, 32⟩
def Fld.BRD_CNT_FWLATE_cnt : Field := ⟨0, 32⟩
def Fld.BRD_SESS_state : Field := ⟨0, 2⟩
def Fld.BRD_SESS_level : Field := ⟨4, 3⟩
def Fld.BRD_SESS_port : Field := ⟨8, 2⟩
def Fld.BRD_SESS_svc : Field := ⟨12, 1⟩
def Fld.BRD_SEQ_smax : Field := ⟨0, 32⟩
def Fld.BRD_LOCK_fails : Field := ⟨0, 8⟩
def Fld.BRD_LOCK_rem : Field := ⟨12, 20⟩
def Fld.SEC_BOOTST_bank : Field := ⟨0, 1⟩
def Fld.SEC_BOOTST_trial : Field := ⟨1, 1⟩
def Fld.SEC_BOOTST_slot : Field := ⟨2, 2⟩
def Fld.SEC_BOOTST_fallback : Field := ⟨4, 1⟩
def Fld.SEC_BOOTST_fail : Field := ⟨8, 3⟩
def Fld.SEC_CONFIRM_go : Field := ⟨0, 1⟩
def Fld.SEC_SLOTST_prov : Field := ⟨0, 4⟩
def Fld.SEC_SLOTST_rev : Field := ⟨4, 4⟩
def Fld.SEC_VCMD_off : Field := ⟨0, 25⟩
def Fld.SEC_VCMD_go : Field := ⟨31, 1⟩
def Fld.SEC_VST_busy : Field := ⟨0, 1⟩
def Fld.SEC_VST_res : Field := ⟨1, 3⟩
def Fld.SEC_VST_kind : Field := ⟨4, 4⟩
def Fld.SEC_VST_svn : Field := ⟨8, 7⟩
def Fld.SEC_VST_err : Field := ⟨16, 1⟩
def Fld.SEC_MEXT_idx : Field := ⟨0, 3⟩
def Fld.SEC_DBGCTL_level : Field := ⟨0, 2⟩
def Fld.SEC_DBGCTL_go : Field := ⟨4, 1⟩
def Fld.SEC_DBGST_open : Field := ⟨0, 2⟩
def Fld.SEC_DBGST_busy : Field := ⟨2, 1⟩
def Fld.SEC_DBGST_fails : Field := ⟨4, 2⟩
def Fld.SEC_DBGST_locked : Field := ⟨6, 1⟩
def Fld.CLK_CTRL_refsel : Field := ⟨0, 1⟩
def Fld.CLK_CTRL_ret : Field := ⟨4, 1⟩
def Fld.CLK_STAT_src : Field := ⟨0, 1⟩
def Fld.CLK_STAT_lock : Field := ⟨1, 1⟩
def Fld.CLK_STAT_scale : Field := ⟨2, 2⟩
def Fld.CLK_STAT_seq : Field := ⟨4, 3⟩
def Fld.CLK_STAT_refloss : Field := ⟨8, 1⟩
def Fld.CLK_STAT_loss_seen : Field := ⟨9, 1⟩
def Fld.CLK_STAT_bosc_err : Field := ⟨10, 1⟩
def Fld.CLK_STAT_cfg_err : Field := ⟨11, 1⟩
def Fld.CLK_STAT_refok : Field := ⟨12, 1⟩
def Fld.CLK_DIV0_cpu : Field := ⟨0, 5⟩
def Fld.CLK_DIV0_sys : Field := ⟨8, 6⟩
def Fld.CLK_DIV0_ctl : Field := ⟨16, 6⟩
def Fld.CLK_DIV1_per : Field := ⟨0, 7⟩
def Fld.CLK_DIV1_adc : Field := ⟨8, 7⟩
def Fld.CLK_DIV1_bus : Field := ⟨16, 8⟩
def Fld.BOSC_TRIM_trim : Field := ⟨0, 8⟩
def Fld.BOSC_MEAS_cnt : Field := ⟨0, 24⟩
def Fld.CLK_CNT_LOSS_cnt : Field := ⟨0, 32⟩
def Fld.CLK_CNT_RELOCK_cnt : Field := ⟨0, 32⟩
def Fld.CLK_LOSST_dtb : Field := ⟨0, 32⟩
def Fld.CLK_GATE_run : Field := ⟨0, 1⟩
def Fld.CLK_GATE_sleep : Field := ⟨1, 1⟩
def Fld.CLK_GATE_deep : Field := ⟨2, 1⟩
def Fld.CLK_GATE_team : Field := ⟨4, 1⟩
def Fld.PWR_STAT_busy : Field := ⟨16, 1⟩
def Fld.PWR_STAT_res : Field := ⟨17, 3⟩
def Fld.PWR_STAT_cfg_err : Field := ⟨20, 1⟩
def Fld.PWR_MMREQ_req : Field := ⟨0, 8⟩
def Fld.PWR_HOLD_hold : Field := ⟨0, 8⟩
def Fld.PWR_REFUSE_ID_unit : Field := ⟨0, 16⟩
def Fld.PWR_REFUSE_ID_dom : Field := ⟨16, 3⟩
def Fld.PWR_REFUSE_ID_kind : Field := ⟨20, 2⟩
def Fld.PWR_EVT_dtb : Field := ⟨0, 32⟩
def Fld.PWR_CNT_REF_cnt : Field := ⟨0, 32⟩
def Fld.PWR_CNT_ABT_cnt : Field := ⟨0, 32⟩
def Fld.RST_CAUSE_por : Field := ⟨0, 1⟩
def Fld.RST_CAUSE_bor : Field := ⟨1, 1⟩
def Fld.RST_CAUSE_wdg_s : Field := ⟨2, 1⟩
def Fld.RST_CAUSE_wdg_a : Field := ⟨3, 1⟩
def Fld.RST_CAUSE_mgf : Field := ⟨4, 1⟩
def Fld.RST_CAUSE_sw : Field := ⟨5, 1⟩
def Fld.RST_CAUSE_dbg : Field := ⟨6, 1⟩
def Fld.RST_CAUSE_lp : Field := ⟨7, 1⟩
def Fld.RST_CAUSE_pwf : Field := ⟨8, 1⟩
def Fld.RST_CAUSE_wake : Field := ⟨9, 1⟩
def Fld.RST_STAT_last : Field := ⟨0, 4⟩
def Fld.RST_STAT_cfg_err : Field := ⟨8, 1⟩
def Fld.RST_STRAP_pos : Field := ⟨0, 2⟩
def Fld.RST_STRAP_port : Field := ⟨4, 1⟩
def Fld.RST_BOOT_phase : Field := ⟨0, 3⟩
def Fld.RST_BOOT_fail : Field := ⟨4, 3⟩
def Fld.RST_BOOT_t_s1 : Field := ⟨16, 16⟩
def Fld.RST_SWR_key : Field := ⟨0, 16⟩
def Fld.RST_DTB_dtb : Field := ⟨0, 32⟩
def Fld.RST_CNT_POR_cnt : Field := ⟨0, 16⟩
def Fld.RST_CNT_BOR_cnt : Field := ⟨0, 16⟩
def Fld.RST_CNT_WDGS_cnt : Field := ⟨0, 16⟩
def Fld.RST_CNT_WDGA_cnt : Field := ⟨0, 16⟩
def Fld.RST_CNT_MGF_cnt : Field := ⟨0, 16⟩
def Fld.RST_CNT_SW_cnt : Field := ⟨0, 16⟩
def Fld.RST_CNT_DBG_cnt : Field := ⟨0, 16⟩
def Fld.RST_CNT_LP_cnt : Field := ⟨0, 16⟩
def Fld.KPR_WOUT_drive : Field := ⟨0, 1⟩
def Fld.KPR_WOUT_level : Field := ⟨1, 1⟩
def Fld.KPR_WOUT_ilim : Field := ⟨2, 1⟩

/-- One row of the register tables. `dims` lists (count, stride) of the unit and index dimensions, outermost first;
`reset` the reset value, by linear index where the table gives one value per index (a list of one value holds for
all). The masks say which bits have which access code of R17; a bit in none of them is RO, WO or reserved and keeps
its value on a write. `chk` lists fields a write leaves unchanged unless the value lies in one of the ranges. -/
structure RegRow where
  start : Nat
  dims  : List (Nat × Nat)
  reset : List Nat
  rw    : Nat := 0
  rwl   : Nat := 0
  w1c   : Nat := 0
  w1s   : Nat := 0
  rc    : Nat := 0
  wo    : Nat := 0
  chk   : List (Field × List (Nat × Nat)) := []
  deriving DecidableEq, Repr

/-- Linear index of offset `d` in the dimensions `dims`, if `d` is the offset of a register of the row. -/
def dimIndex : List (Nat × Nat) → Nat → Nat → Option Nat
  | [], d, k => if d = 0 then some k else none
  | (n, st) :: ds, d, k => if d / st < n then dimIndex ds (d % st) (k * n + d / st) else none

/-- Linear index of address `a` in row `r`, if the row holds that address. -/
def RegRow.index (r : RegRow) (a : Nat) : Option Nat :=
  if r.start ≤ a then dimIndex r.dims (a - r.start) 0 else none

/-- Registers of the DTB block, 01_architecture.md. -/
def Regs.DTB : List RegRow := [
  { start := 0x70030000, dims := [], reset := [0] },
  { start := 0x70030004, dims := [], reset := [0] },
  { start := 0x70030008, dims := [], reset := [0] }]

/-- Registers of the PRC block, 02_paddock.md. -/
def Regs.PRC : List RegRow := [
  { start := 0x70680000, dims := [], reset := [0], rw := 0x1FFF1FFF, chk := [(⟨1, 4⟩, [(0, 0xD), (15, 0xF)]), (⟨16, 13⟩, [(1, 0x1000)])] },
  { start := 0x70680004, dims := [], reset := [0], rw := 0x7FFFC0 },
  { start := 0x70680008, dims := [], reset := [0], rw := 7, chk := [(⟨0, 3⟩, [(0, 6)])] },
  { start := 0x7068000C, dims := [], reset := [0] },
  { start := 0x70680010, dims := [], reset := [0], w1c := 1 },
  { start := 0x70680014, dims := [], reset := [0] },
  { start := 0x70680100, dims := [], reset := [0], rc := 0xFFFFFFFF },
  { start := 0x70680104, dims := [], reset := [0] },
  { start := 0x70680108, dims := [], reset := [0] },
  { start := 0x7068010C, dims := [], reset := [0], rc := 0xFFFFFFFF },
  { start := 0x70680110, dims := [], reset := [0] },
  { start := 0x70681000, dims := [(4096, 4)], reset := [0], rw := 0xFFFFF }]

/-- Registers of the TT block, 03_sampling.md. -/
def Regs.TT : List RegRow := [
  { start := 0x70110800, dims := [(8, 0x10)], reset := [0], rw := 0x3FF1, chk := [(⟨4, 4⟩, [(0, 3)]), (⟨8, 6⟩, [(0, 0x27)])] },
  { start := 0x70110804, dims := [(8, 0x10)], reset := [0], rw := 0xFFFFFFFF, chk := [(⟨0, 32⟩, [(80, 0xFFFFFFFF)])] }]

/-- Registers of the ADC block, 03_sampling.md. -/
def Regs.ADC : List RegRow := [
  { start := 0x70200000, dims := [(16, 0x1000)], reset := [0], rw := 1 },
  { start := 0x70200004, dims := [(16, 0x1000)], reset := [0], w1c := 0x30000 },
  { start := 0x70200008, dims := [(16, 0x1000)], reset := [0], rw := 0xF777 },
  { start := 0x70200010, dims := [(16, 0x1000), (4, 4)], reset := [0], rw := 0xFFF03FF },
  { start := 0x70200020, dims := [(16, 0x1000), (4, 4)], reset := [0], rw := 0xFFFF },
  { start := 0x70200030, dims := [(16, 0x1000)], reset := [0], wo := 0xF },
  { start := 0x70200034, dims := [(16, 0x1000)], reset := [0], wo := 0xF },
  { start := 0x70200040, dims := [(16, 0x1000), (4, 4)], reset := [0], rw := 0xFFFF },
  { start := 0x70200050, dims := [(16, 0x1000)], reset := [0], wo := 1 },
  { start := 0x70200060, dims := [(16, 0x1000)], reset := [0], rc := 0xFFFFFFFF },
  { start := 0x70200064, dims := [(16, 0x1000)], reset := [0], rc := 0xFFFFFFFF },
  { start := 0x70200068, dims := [(16, 0x1000)], reset := [0], rc := 0xFFFFFFFF },
  { start := 0x7020006C, dims := [(16, 0x1000)], reset := [0], rc := 0xFFFFFFFF },
  { start := 0x70200100, dims := [(16, 0x1000), (16, 8)], reset := [0], rw := 0x3FF007F },
  { start := 0x70200104, dims := [(16, 0x1000), (16, 8)], reset := [0], rw := 0xFFFFF }]

/-- Registers of the CE block, 04_canter_engines.md. -/
def Regs.CE : List RegRow := [
  { start := 0x70300000, dims := [(12, 0x10000)], reset := [0], rw := 0x3FF, chk := [(⟨1, 3⟩, [(0, 2)])] },
  { start := 0x70300004, dims := [(12, 0x10000)], reset := [0], w1c := 0x100 },
  { start := 0x70300008, dims := [(12, 0x10000)], reset := [0] },
  { start := 0x70300010, dims := [(12, 0x10000)], reset := [0], rc := 0xFFFFFFFF },
  { start := 0x70300014, dims := [(12, 0x10000)], reset := [0], rc := 0xFFFFFFFF },
  { start := 0x70300040, dims := [(12, 0x10000), (16, 4)], reset := [0], rw := 0xC3FFFFFF, chk := [(⟨30, 2⟩, [(0, 2)])] },
  { start := 0x70301000, dims := [(12, 0x10000), (1024, 4)], reset := [0], rw := 0xFFFFFFFF },
  { start := 0x70302000, dims := [(12, 0x10000), (2048, 4)], reset := [0], rw := 0xFFFFFFFF },
  { start := 0x70304000, dims := [(12, 0x10000), (32, 4)], reset := [0] }]

/-- Registers of the LAW block, 04_canter_engines.md. -/
def Regs.LAW : List RegRow := [
  { start := 0x70300100, dims := [(12, 0x10000), (4, 0x100)], reset := [0], rw := 0x3F3F3FDD, chk := [(⟨2, 3⟩, [(0, 3)]), (⟨12, 2⟩, [(0, 1)])] },
  { start := 0x70300104, dims := [(12, 0x10000), (4, 0x100)], reset := [0], rw := 0xFF },
  { start := 0x70300108, dims := [(12, 0x10000), (4, 0x100)], reset := [0], rw := 0xFFFFF },
  { start := 0x7030010C, dims := [(12, 0x10000), (4, 0x100)], reset := [0], rw := 0xFFFFF },
  { start := 0x70300110, dims := [(12, 0x10000), (4, 0x100)], reset := [0], rw := 0x3FF03FF },
  { start := 0x70300114, dims := [(12, 0x10000), (4, 0x100)], reset := [0], rw := 0x83FF03FF },
  { start := 0x70300118, dims := [(12, 0x10000), (4, 0x100)], reset := [0], rw := 0x3FF03FF },
  { start := 0x7030011C, dims := [(12, 0x10000), (4, 0x100)], reset := [0], rw := 0x3F3F },
  { start := 0x70300120, dims := [(12, 0x10000), (4, 0x100)], reset := [0], rw := 0xFFF },
  { start := 0x70300124, dims := [(12, 0x10000), (4, 0x100)], reset := [0], w1c := 0x70 },
  { start := 0x70300130, dims := [(12, 0x10000), (4, 0x100)], reset := [0], rc := 0xFFFFFFFF },
  { start := 0x70300134, dims := [(12, 0x10000), (4, 0x100)], reset := [0], rc := 0xFFFFFFFF },
  { start := 0x70300138, dims := [(12, 0x10000), (4, 0x100)], reset := [0], rc := 0xFFFFFFFF },
  { start := 0x7030013C, dims := [(12, 0x10000), (4, 0x100)], reset := [0], rc := 0xFFFFFFFF },
  { start := 0x70300140, dims := [(12, 0x10000), (4, 0x100)], reset := [0], rc := 0xFFFFFFFF },
  { start := 0x70300180, dims := [(12, 0x10000), (4, 0x100), (8, 4)], reset := [0], rw := 0x813F, chk := [(⟨0, 6⟩, [(0, 0x27)])] },
  { start := 0x703001A0, dims := [(12, 0x10000), (4, 0x100), (8, 4)], reset := [0], rw := 0x800FFFFF },
  { start := 0x70300128, dims := [(12, 0x10000), (4, 0x100)], reset := [0], rw := 0xFFFFF },
  { start := 0x7030012C, dims := [(12, 0x10000), (4, 0x100)], reset := [0] },
  { start := 0x70300144, dims := [(12, 0x10000), (4, 0x100)], reset := [0], rc := 0xFFFFFFFF },
  { start := 0x70300148, dims := [(12, 0x10000), (4, 0x100)], reset := [0], rc := 0xFFFFFFFF },
  { start := 0x7030014C, dims := [(12, 0x10000), (4, 0x100)], reset := [0], rc := 0xFFFFFFFF },
  { start := 0x70300150, dims := [(12, 0x10000), (4, 0x100)], reset := [0], rc := 0xFFFFFFFF },
  { start := 0x70300154, dims := [(12, 0x10000), (4, 0x100)], reset := [0], rc := 0xFFFFFFFF },
  { start := 0x703001C0, dims := [(12, 0x10000), (4, 0x100), (8, 4)], reset := [0], rw := 0x3F13 }]

/-- Registers of the PWM block, 06_pulse_generators.md. -/
def Regs.PWM : List RegRow := [
  { start := 0x70100000, dims := [(40, 0x400)], reset := [0x40, 0x40, 0x40, 0x40, 0x40, 0x40, 0x40, 0x40, 0x40, 0x40, 0x40, 0x40, 0x40, 0x40, 0x40, 0x40, 0x240, 0x240, 0x48, 0x48, 0x48, 0x48, 0x40, 0x40, 0x40, 0x40, 0x40, 0x40, 0x40, 0x40, 0x40, 0x40, 0x240, 0x240, 0x240, 0x240, 0x240, 0x240, 0x240, 0x240], rw := 0x5FF, chk := [(⟨2, 2⟩, [(0, 2)]), (⟨6, 2⟩, [(1, 3)])] },
  { start := 0x70100004, dims := [(40, 0x400)], reset := [0], w1c := 0xC },
  { start := 0x70100008, dims := [(40, 0x400)], reset := [8], rw := 0xFFFF },
  { start := 0x7010000C, dims := [(40, 0x400)], reset := [0], rw := 0x3FFFFF },
  { start := 0x70100010, dims := [(40, 0x400)], reset := [0], rw := 0x3FFFFF },
  { start := 0x70100014, dims := [(40, 0x400)], reset := [0], rwl := 0xFFFF },
  { start := 0x70100018, dims := [(40, 0x400)], reset := [0], rw := 0xFFFF },
  { start := 0x7010001C, dims := [(40, 0x400)], reset := [0], rw := 0x1FFFF },
  { start := 0x70100020, dims := [(40, 0x400)], reset := [0], rw := 0x13F, chk := [(⟨0, 6⟩, [(0, 0x27)])] },
  { start := 0x70100024, dims := [(40, 0x400)], reset := [0x73, 0x73, 0x73, 0x75, 0x75, 0x75, 0x68, 0x68, 0x68, 0x68, 0x78, 0x78, 0x78, 0x78, 0x78, 0x78, 0x68, 0x28, 0x80, 0x80, 0x80, 0x80, 0x78, 0x40, 0x40, 0x40, 0x40, 0x40, 0x40, 0x40, 0x40, 0x40, 0x40, 0x40, 0, 0, 0, 0, 0, 0], rwl := 0xFFF },
  { start := 0x70100028, dims := [(40, 0x400)], reset := [0x10, 0x10, 0x10, 0x10, 0x10, 0x10, 0, 0, 0, 0, 0, 0, 0, 0, 0, 0, 0, 0, 1, 1, 1, 1, 0, 0, 0, 0, 0, 0, 0, 0, 0, 0, 0, 0, 0, 0, 0, 0, 0, 0], rwl := 0x13, chk := [(⟨0, 2⟩, [(0, 2)])] },
  { start := 0x7010002C, dims := [(40, 0x400)], reset := [0], rw := 0x3F01 },
  { start := 0x70100030, dims := [(40, 0x400)], reset := [0] },
  { start := 0x70100034, dims := [(40, 0x400)], reset := [0] },
  { start := 0x70100038, dims := [(40, 0x400)], reset := [0] },
  { start := 0x70100040, dims := [(40, 0x400)], reset := [0], rc := 0xFFFFFFFF },
  { start := 0x70100044, dims := [(40, 0x400)], reset := [0], rc := 0xFFFFFFFF },
  { start := 0x70100048, dims := [(40, 0x400)], reset := [0], rc := 0xFFFFFFFF },
  { start := 0x7010004C, dims := [(40, 0x400)], reset := [0], rc := 0xFFFFFFFF },
  { start := 0x70100050, dims := [(40, 0x400)], reset := [0], rc := 0xFFFFFFFF },
  { start := 0x70100054, dims := [(40, 0x400)], reset := [0], rc := 0xFFFFFFFF }]

/-- Registers of the TRP block, 06_pulse_generators.md. -/
def Regs.TRP : List RegRow := [
  { start := 0x70110000, dims := [], reset := [0] },
  { start := 0x70110004, dims := [], reset := [0], w1c := 0xFFF },
  { start := 0x70110008, dims := [], reset := [0], rwl := 0xF },
  { start := 0x7011000C, dims := [], reset := [0x10101010], rwl := 0xFFFFFFFF },
  { start := 0x70110010, dims := [], reset := [0], wo := 0xFFFFFFFF },
  { start := 0x70110014, dims := [], reset := [0], rw := 0xFF },
  { start := 0x70110040, dims := [(12, 4)], reset := [0], rc := 0xFFFFFFFF },
  { start := 0x70110080, dims := [(12, 4)], reset := [0] },
  { start := 0x70110100, dims := [], reset := [1], rw := 1 },
  { start := 0x70110104, dims := [], reset := [0x40], w1c := 0x200 },
  { start := 0x70110108, dims := [], reset := [0], rc := 0xFFFFFFFF }]

/-- Registers of the GDC block, 07_gate_drive.md. -/
def Regs.GDC : List RegRow := [
  { start := 0x70400000, dims := [], reset := [3], rw := 1, rwl := 2 },
  { start := 0x70400004, dims := [], reset := [0], w1c := 0x100 },
  { start := 0x70400008, dims := [], reset := [0], rw := 1, wo := 2 },
  { start := 0x7040000C, dims := [], reset := [0x1BF], rw := 0x1BF, wo := 0x10000 },
  { start := 0x70400010, dims := [], reset := [0] },
  { start := 0x70400014, dims := [], reset := [0] },
  { start := 0x70400018, dims := [], reset := [0] },
  { start := 0x7040001C, dims := [], reset := [0] },
  { start := 0x70400020, dims := [], reset := [0], rc := 0xFFFFFFFF },
  { start := 0x70400024, dims := [], reset := [0], rc := 0xFFFFFFFF },
  { start := 0x70400028, dims := [], reset := [0], rc := 0xFFFFFFFF },
  { start := 0x70400080, dims := [], reset := [0] },
  { start := 0x70400084, dims := [], reset := [0x406], rwl := 0x7FF },
  { start := 0x70400088, dims := [], reset := [0x3F2], rwl := 0x7FF },
  { start := 0x7040008C, dims := [], reset := [0x438], rwl := 0x7FF },
  { start := 0x70400090, dims := [], reset := [0x1E], rwl := 0x7FF },
  { start := 0x70400094, dims := [], reset := [2], rwl := 3, chk := [(⟨0, 2⟩, [(0, 2)])] },
  { start := 0x70400098, dims := [], reset := [0], rc := 0xFFFFFFFF },
  { start := 0x7040009C, dims := [], reset := [0] },
  { start := 0x704000A0, dims := [], reset := [0], rw := 1 },
  { start := 0x704000A4, dims := [], reset := [0x7D0003C], rwl := 0xFFF07FF, chk := [(⟨16, 12⟩, [(1, 0xFFF)])] },
  { start := 0x704000A8, dims := [], reset := [0], w1c := 0xE },
  { start := 0x70400100, dims := [(18, 4)], reset := [0] }]

/-- Registers of the GCH block, 07_gate_drive.md. -/
def Regs.GCH : List RegRow := [
  { start := 0x70401000, dims := [(34, 0x80)], reset := [0x3A1], rwl := 0x7F1 },
  { start := 0x70401004, dims := [(34, 0x80)], reset := [0], w1c := 0x20000 },
  { start := 0x70401008, dims := [(34, 0x80)], reset := [0x814], rw := 0x3FFFF, chk := [(⟨0, 8⟩, [(1, 0xFF)])] },
  { start := 0x7040100C, dims := [(34, 0x80)], reset := [0xF05000], rwl := 0xFF7F7F },
  { start := 0x70401010, dims := [(34, 0x80)], reset := [0x600040], rw := 0xFFF0FFF },
  { start := 0x70401014, dims := [(34, 0x80)], reset := [0x140], rwl := 0xFFF },
  { start := 0x70401018, dims := [(34, 0x80)], reset := [0], rc := 0xFFF },
  { start := 0x7040101C, dims := [(34, 0x80)], reset := [0x708], rw := 0xF7F, chk := [(⟨0, 7⟩, [(0, 0x50)])] },
  { start := 0x70401020, dims := [(34, 0x80)], reset := [0], rw := 0x800FFFFF },
  { start := 0x70401024, dims := [(34, 0x80)], reset := [0], rw := 0x7FFF7FFF },
  { start := 0x70401028, dims := [(34, 0x80)], reset := [0], rw := 0x7FFF },
  { start := 0x70401040, dims := [(34, 0x80), (8, 4)], reset := [0x708], rw := 0xF7F, chk := [(⟨0, 7⟩, [(0, 0x50)])] },
  { start := 0x70401060, dims := [(34, 0x80)], reset := [0] },
  { start := 0x70401064, dims := [(34, 0x80)], reset := [0] },
  { start := 0x70401068, dims := [(34, 0x80)], reset := [0x4E2003E8], rwl := 0xFFFFFFFF },
  { start := 0x7040106C, dims := [(34, 0x80)], reset := [0] },
  { start := 0x70401070, dims := [(34, 0x80)], reset := [0], rc := 0xFFFFFFFF },
  { start := 0x70401074, dims := [(34, 0x80)], reset := [0], rc := 0xFFFFFFFF },
  { start := 0x70401078, dims := [(34, 0x80)], reset := [0], rc := 0xFFFFFFFF },
  { start := 0x7040107C, dims := [(34, 0x80)], reset := [0], rc := 0xFFFFFFFF }]

/-- Registers of the LCH block, 07_gate_drive.md. -/
def Regs.LCH : List RegRow := [
  { start := 0x70403000, dims := [(29, 0x40)], reset := [2], rw := 3, chk := [(⟨0, 2⟩, [(0, 2)])] },
  { start := 0x70403004, dims := [(29, 0x40)], reset := [0] },
  { start := 0x70403008, dims := [(29, 0x40)], reset := [0], rc := 0xFFFFFFFF }]

/-- Registers of the FE block, 08_traction_drives.md. -/
def Regs.FE : List RegRow := [
  { start := 0x70210000, dims := [(2, 0x100)], reset := [0x14A22, 0x14A32], rw := 0xFF3F7, chk := [(⟨1, 2⟩, [(0, 2)]), (⟨4, 6⟩, [(0, 0x27)]), (⟨12, 8⟩, [(1, 0x28)])] },
  { start := 0x70210004, dims := [(2, 0x100)], reset := [0], w1c := 8 },
  { start := 0x70210010, dims := [(2, 0x100)], reset := [0x4000014], rw := 0xFFFF00F7, chk := [(⟨4, 4⟩, [(1, 8)]), (⟨16, 16⟩, [(16, 0xFFFF)])] },
  { start := 0x70210014, dims := [(2, 0x100)], reset := [0], w1c := 2 },
  { start := 0x70210018, dims := [(2, 0x100)], reset := [0] },
  { start := 0x7021001C, dims := [(2, 0x100)], reset := [0], rw := 0xFFFF }]

/-- Registers of the INL block, 09_charger.md. -/
def Regs.INL : List RegRow := [
  { start := 0x70210200, dims := [], reset := [0], rw := 0x3F, chk := [(⟨1, 2⟩, [(0, 1)])] },
  { start := 0x70210204, dims := [], reset := [0], w1c := 0x100 },
  { start := 0x70210208, dims := [], reset := [0] },
  { start := 0x7021020C, dims := [], reset := [0] },
  { start := 0x70210210, dims := [], reset := [0], rc := 0xFFFFFFFF }]

/-- Registers of the CHS block, 09_charger.md. -/
def Regs.CHS : List RegRow := [
  { start := 0x70110C00, dims := [], reset := [0], rw := 1 },
  { start := 0x70110C04, dims := [], reset := [0], w1c := 1 },
  { start := 0x70110C08, dims := [], reset := [0], rw := 0x7FF },
  { start := 0x70110C0C, dims := [], reset := [0x14], rw := 0xFF, chk := [(⟨0, 8⟩, [(1, 0xFF)])] },
  { start := 0x70110C10, dims := [], reset := [0], rw := 0xFFFFF },
  { start := 0x70110C14, dims := [], reset := [0], rw := 0x7FFF },
  { start := 0x70110C18, dims := [], reset := [0], rc := 0xFFFFFFFF }]

/-- Registers of the LVC block, 10_lv_converter.md. -/
def Regs.LVC : List RegRow := [
  { start := 0x70110D00, dims := [], reset := [0x1903C82], rw := 0x1FFFFF3, chk := [(⟨8, 8⟩, [(40, 0xC8)]), (⟨16, 9⟩, [(300, 0x1F4)])] },
  { start := 0x70110D04, dims := [], reset := [0], w1c := 0x3C },
  { start := 0x70110D08, dims := [], reset := [0] },
  { start := 0x70110D0C, dims := [], reset := [0] },
  { start := 0x70110D10, dims := [], reset := [0xC], rwl := 0x3F, chk := [(⟨0, 6⟩, [(1, 0x3F)])] },
  { start := 0x70110D20, dims := [], reset := [0], rc := 0xFFFFFFFF },
  { start := 0x70110D24, dims := [], reset := [0], rc := 0xFFFFFFFF },
  { start := 0x70110D28, dims := [], reset := [0], rc := 0xFFFFFFFF },
  { start := 0x70110D2C, dims := [], reset := [0], rc := 0xFFFFFFFF }]

/-- Registers of the KPR block, 10_lv_converter.md. -/
def Regs.KPR : List RegRow := [
  { start := 0x70800100, dims := [], reset := [0], rw := 1 },
  { start := 0x70800104, dims := [], reset := [0x64], rwl := 0xFFFF, chk := [(⟨0, 16⟩, [(1, 0xFFFF)])] },
  { start := 0x70800108, dims := [], reset := [1] },
  { start := 0x7080010C, dims := [], reset := [0], rc := 0xFFFFFFFF },
  { start := 0x70800110, dims := [], reset := [0], rc := 0xFFFFFFFF },
  { start := 0x70800200, dims := [], reset := [1], rw := 0x1F33, chk := [(⟨0, 2⟩, [(0, 2)])] },
  { start := 0x70800204, dims := [], reset := [0], rw := 0x1FFFFFFF },
  { start := 0x70800208, dims := [(2, 4)], reset := [0], rw := 0xFFFFFFFF },
  { start := 0x70800210, dims := [], reset := [0], rw := 0x1FFF0000, w1c := 3 },
  { start := 0x70800300, dims := [], reset := [0], rw := 1, w1c := 4 }]

/-- Registers of the ACT block, 11_actuators.md. -/
def Regs.ACT : List RegRow := [
  { start := 0x70110E00, dims := [], reset := [0x80D1002], rw := 0xFFFFFF0F, chk := [(⟨0, 4⟩, [(1, 8)]), (⟨8, 8⟩, [(4, 0xFF)])] },
  { start := 0x70110E04, dims := [], reset := [0x76], rwl := 0x77 },
  { start := 0x70110E08, dims := [], reset := [0], w1c := 0x1FE },
  { start := 0x70110E0C, dims := [], reset := [0] },
  { start := 0x70110E10, dims := [], reset := [0], rc := 0xFFFFFFFF },
  { start := 0x70110E14, dims := [], reset := [0], rc := 0xFFFFFFFF },
  { start := 0x70110E18, dims := [], reset := [0], rc := 0xFFFFFFFF },
  { start := 0x70110E1C, dims := [], reset := [0], rc := 0xFFFFFFFF }]

/-- Registers of the HARN block, 12_processor_teams.md. -/
def Regs.HARN : List RegRow := [
  { start := 0x70050000, dims := [(2, 0x10000)], reset := [0x14, 0x10], rw := 0xC, rwl := 0x10, w1s := 1, chk := [(⟨2, 2⟩, [(1, 3)])] },
  { start := 0x70050004, dims := [(2, 0x10000)], reset := [0x71, 0], w1c := 0x1000 },
  { start := 0x70050008, dims := [(2, 0x10000)], reset := [0], wo := 1 },
  { start := 0x7005000C, dims := [(2, 0x10000)], reset := [0], rw := 0xFFFFFFFF },
  { start := 0x70050010, dims := [(2, 0x10000)], reset := [0], rw := 0xFFFFFFFF },
  { start := 0x70050014, dims := [(2, 0x10000)], reset := [0], rw := 0xFFFFFFFF },
  { start := 0x70050020, dims := [(2, 0x10000)], reset := [0] },
  { start := 0x70050024, dims := [(2, 0x10000)], reset := [0] },
  { start := 0x70050030, dims := [(2, 0x10000)], reset := [0], rc := 0xFFFFFFFF },
  { start := 0x70050034, dims := [(2, 0x10000)], reset := [0], rc := 0xFFFFFFFF },
  { start := 0x70050038, dims := [(2, 0x10000)], reset := [0], rc := 0xFFFFFFFF },
  { start := 0x7005003C, dims := [(2, 0x10000)], reset := [0], rc := 0xFFFFFFFF },
  { start := 0x70050040, dims := [(2, 0x10000)], reset := [0], rc := 0xFFFF },
  { start := 0x70050100, dims := [(2, 0x10000), (3, 0x10)], reset := [0], rw := 0xFFFFFFFE, w1s := 1, chk := [(⟨8, 24⟩, [(10, 0xFFFFFF)])] },
  { start := 0x70050104, dims := [(2, 0x10000), (3, 0x10)], reset := [0], wo := 0xFFFFFFFF },
  { start := 0x70050108, dims := [(2, 0x10000), (3, 0x10)], reset := [0], w1c := 3 },
  { start := 0x70050200, dims := [(2, 0x10000), (3, 8), (2, 4)], reset := [0xFFFFFFFF, 0xFFFFFFFF, 0xFFFFFFFF, 0xFFFFFFFF, 0xFFFFFFFF, 0xFFFFFFFF], rw := 0xFFFFFFFFFFFFFFFF },
  { start := 0x70050400, dims := [(2, 0x10000), (16, 4)], reset := [0], rwl := 0x13F, chk := [(⟨4, 2⟩, [(0, 2)])] },
  { start := 0x70050440, dims := [(2, 0x10000), (112, 4)], reset := [0], rw := 0x13F, chk := [(⟨4, 2⟩, [(0, 2)])] },
  { start := 0x70050800, dims := [(2, 0x10000), (3, 0x10)], reset := [0], rw := 0xF },
  { start := 0x70050804, dims := [(2, 0x10000), (3, 0x10)], reset := [0x80], rc := 0x80 },
  { start := 0x70050880, dims := [(2, 0x10000)], reset := [0] }]

/-- Registers of the MG block, 13_safety.md. -/
def Regs.MG : List RegRow := [
  { start := 0x70080000, dims := [], reset := [2], rw := 4, rwl := 2, wo := 1 },
  { start := 0x70080004, dims := [], reset := [0], w1c := 0x140 },
  { start := 0x70080008, dims := [], reset := [0], wo := 0xFFFFFFFF },
  { start := 0x7008000C, dims := [], reset := [0] },
  { start := 0x70080010, dims := [], reset := [0], w1s := 0xFFFFFFFF },
  { start := 0x70080014, dims := [], reset := [0], w1s := 0xFF },
  { start := 0x70080018, dims := [], reset := [0] },
  { start := 0x7008001C, dims := [], reset := [0] },
  { start := 0x70080020, dims := [], reset := [0], wo := 0x7FFFF },
  { start := 0x70080024, dims := [], reset := [0], wo := 0x7FFFF },
  { start := 0x70080028, dims := [], reset := [0], wo := 0xFFFF },
  { start := 0x70080030, dims := [], reset := [0] },
  { start := 0x70080034, dims := [], reset := [0] },
  { start := 0x70080038, dims := [], reset := [0], rc := 0xFFFFFFFF },
  { start := 0x7008003C, dims := [], reset := [0], rc := 0xFFFFFFFF },
  { start := 0x70080040, dims := [(16, 4)], reset := [0x10, 0x11, 0x10, 0x41, 0x60, 0x51, 0x41, 0x41, 0x41, 0x64, 0x63, 0x73, 0x10, 0x60, 0x64, 0x41], rwl := 0x77 },
  { start := 0x70080100, dims := [(2, 0x40)], reset := [0x4000040], rwl := 0xFFFF00F1, chk := [(⟨4, 4⟩, [(1, 8)])] },
  { start := 0x70080104, dims := [(2, 0x40)], reset := [0x40001000], rwl := 0xFFFFFFFF },
  { start := 0x70080108, dims := [(2, 0x40)], reset := [0] },
  { start := 0x7008010C, dims := [(2, 0x40)], reset := [0] },
  { start := 0x70080110, dims := [(2, 0x40)], reset := [0] },
  { start := 0x70080114, dims := [(2, 0x40)], reset := [0x64], rwl := 0xFFFF },
  { start := 0x70080118, dims := [(2, 0x40)], reset := [0x6401F4], rwl := 0xFFFF07FF },
  { start := 0x7008011C, dims := [(2, 0x40)], reset := [0x1E], rwl := 0xFFFF },
  { start := 0x70080120, dims := [(2, 0x40)], reset := [0], rwl := 0xFFFFFFFF },
  { start := 0x70080124, dims := [(2, 0x40)], reset := [0], rwl := 0xFFFFFFFF },
  { start := 0x70080128, dims := [(2, 0x40)], reset := [0x100], rwl := 0xFFFFFF },
  { start := 0x7008012C, dims := [(2, 0x40)], reset := [0], rwl := 0xFFFFFFFF },
  { start := 0x70080130, dims := [(2, 0x40)], reset := [0], rwl := 0xFFFFFFFF },
  { start := 0x70080134, dims := [(2, 0x40)], reset := [0] }] ++ [
  { start := 0x70080138, dims := [(2, 0x40)], reset := [0], rc := 0xFFFFFFFF },
  { start := 0x7008013C, dims := [(2, 0x40)], reset := [0], rc := 0xFFFFFFFF },
  { start := 0x700801C0, dims := [], reset := [0x300], rw := 0x33F, wo := 0x40 },
  { start := 0x70080200, dims := [(8, 4)], reset := [0x140020], rwl := 0xFFF7F7, chk := [(⟨0, 3⟩, [(0, 5)]), (⟨16, 8⟩, [(1, 0xC8)])] },
  { start := 0x70080220, dims := [], reset := [0] },
  { start := 0x70080224, dims := [], reset := [0], w1c := 0xFFFFFF },
  { start := 0x70080228, dims := [], reset := [0], rc := 0xFFFFFFFF },
  { start := 0x70080240, dims := [(4, 4)], reset := [0x12C0], rwl := 0xFFF7 },
  { start := 0x70080250, dims := [], reset := [0], rw := 0xF },
  { start := 0x70080254, dims := [], reset := [0], w1c := 0xF00 },
  { start := 0x70080260, dims := [], reset := [0xF], rwl := 0xF }]

/-- Registers of the TH block, 14_thermal.md. -/
def Regs.TH : List RegRow := [
  { start := 0x70600000, dims := [], reset := [0], rw := 1 },
  { start := 0x70600004, dims := [], reset := [0], w1c := 0x500 },
  { start := 0x70600008, dims := [], reset := [0], wo := 0xFF },
  { start := 0x7060000C, dims := [], reset := [0] },
  { start := 0x70600010, dims := [], reset := [0], rc := 0xFFFFFFFF },
  { start := 0x70600014, dims := [], reset := [0], rc := 0xFFFFFFFF },
  { start := 0x70600018, dims := [], reset := [0], rc := 0xFFFFFFFF },
  { start := 0x70600100, dims := [(8, 0x20)], reset := [0x50069, 0x5008C, 0x5008C, 0x500A0, 0x500A0, 0x5005F, 0x50064, 0x50078], rwl := 0xFFFFFF },
  { start := 0x70600104, dims := [(8, 0x20)], reset := [0x50073, 0x50096, 0x50096, 0x500AA, 0x500AA, 0x50069, 0x5006E, 0x50082], rwl := 0xFFFFFF },
  { start := 0x70600108, dims := [(8, 0x20)], reset := [0x5007D, 0x500A5, 0x500A5, 0x500B4, 0x500B4, 0x50073, 0x50078, 0x5008C], rwl := 0xFFFFFF },
  { start := 0x7060010C, dims := [(8, 0x20)], reset := [0], rwl := 0xFFFFFFFF },
  { start := 0x70600110, dims := [(8, 0x20)], reset := [0] },
  { start := 0x70600114, dims := [(8, 0x20)], reset := [0x7FFF] },
  { start := 0x70600400, dims := [(32, 4)], reset := [0], rwl := 0x803FFFFF },
  { start := 0x70600800, dims := [(4, 0x80), (17, 4)], reset := [0], rwl := 0xFFFFFFFF }]

/-- Registers of the BUS block, 15_message_buses.md. -/
def Regs.BUS : List RegRow := [
  { start := 0x70500000, dims := [(4, 0x10000)], reset := [0x48], rw := 0x17F, w1s := 0x80 },
  { start := 0x70500004, dims := [(4, 0x10000)], reset := [1], w1c := 0x300 },
  { start := 0x70500008, dims := [(4, 0x10000)], reset := [0], rw := 0xBFFFFFFF },
  { start := 0x7050000C, dims := [(4, 0x10000)], reset := [0], rw := 0xFF1F1F },
  { start := 0x70500010, dims := [(4, 0x10000)], reset := [0], rw := 0x17F },
  { start := 0x70500014, dims := [(4, 0x10000)], reset := [0] },
  { start := 0x70500018, dims := [(4, 0x10000)], reset := [0], rw := 0xBFFFFFFF },
  { start := 0x7050001C, dims := [(4, 0x10000)], reset := [0], rw := 0x7FFFFFFF },
  { start := 0x70500020, dims := [(4, 0x10000)], reset := [0], rw := 0x3FF },
  { start := 0x70500040, dims := [(4, 0x10000)], reset := [0], rc := 0xFFFFFFFF },
  { start := 0x70500044, dims := [(4, 0x10000)], reset := [0], rc := 0xFFFFFFFF },
  { start := 0x70500048, dims := [(4, 0x10000)], reset := [0], rc := 0xFFFFFFFF },
  { start := 0x7050004C, dims := [(4, 0x10000)], reset := [0], rc := 0xFFFFFFFF },
  { start := 0x70500050, dims := [(4, 0x10000)], reset := [0], rc := 0xFFFFFFFF },
  { start := 0x70500054, dims := [(4, 0x10000)], reset := [0], rc := 0xFFFFFFFF },
  { start := 0x70500058, dims := [(4, 0x10000)], reset := [0], rc := 0xFFFFFFFF },
  { start := 0x7050005C, dims := [(4, 0x10000)], reset := [0], rc := 0xFFFFFFFF },
  { start := 0x70500060, dims := [(4, 0x10000)], reset := [0], rc := 0xFFFFFFFF },
  { start := 0x70500064, dims := [(4, 0x10000)], reset := [0], rc := 0xFFFFFFFF },
  { start := 0x70500080, dims := [(4, 0x10000), (16, 4)], reset := [0], rw := 0x83FF03FF, chk := [(⟨16, 10⟩, [(1, 0x3FF)])] },
  { start := 0x70501000, dims := [(4, 0x10000), (1024, 8)], reset := [0], rw := 0x7FF7FFF },
  { start := 0x70501004, dims := [(4, 0x10000), (1024, 8)], reset := [0], rw := 0x1FFFFFFF },
  { start := 0x70503000, dims := [(4, 0x10000), (1024, 4)], reset := [0], w1c := 7 },
  { start := 0x70504000, dims := [(4, 0x10000), (64, 0x10)], reset := [0], rw := 0xF7FF7F1F, chk := [(⟨1, 2⟩, [(0, 2)])] },
  { start := 0x70504004, dims := [(4, 0x10000), (64, 0x10)], reset := [0], rw := 0x1FFFFFFF },
  { start := 0x70504008, dims := [(4, 0x10000), (64, 0x10)], reset := [0], rw := 0xFFFFFFFF },
  { start := 0x7050400C, dims := [(4, 0x10000), (64, 0x10)], reset := [0], w1c := 0xC, w1s := 1 },
  { start := 0x70505000, dims := [(4, 0x10000), (132, 4)], reset := [0] },
  { start := 0x70506000, dims := [(4, 0x10000), (64, 0x40), (16, 4)], reset := [0], rw := 0xFFFFFFFF },
  { start := 0x70508000, dims := [(4, 0x10000), (2048, 8)], reset := [0], rw := 0xFFFFFFFF }] ++ [
  { start := 0x70508004, dims := [(4, 0x10000), (2048, 8)], reset := [0], rw := 0x1F071F }]

/-- Registers of the BRD block, 16_bridle_protocol.md. -/
def Regs.BRD : List RegRow := [
  { start := 0x70540000, dims := [], reset := [0x1F40500], rw := 0xFFFFFF01, chk := [(⟨8, 8⟩, [(1, 0xFF)]), (⟨16, 16⟩, [(10, 0x1770)])] },
  { start := 0x70540004, dims := [], reset := [0], w1c := 0x1000000 },
  { start := 0x70540008, dims := [], reset := [0x1F4], rw := 0xFFFF, chk := [(⟨0, 16⟩, [(50, 0x2710)])] },
  { start := 0x70540010, dims := [], reset := [0xFF], rc := 0xFF },
  { start := 0x70540014, dims := [], reset := [0xFF], rc := 0xFF },
  { start := 0x70540018, dims := [], reset := [0], wo := 0xFFFFFF1F },
  { start := 0x7054001C, dims := [], reset := [0], wo := 0x1F0FFFFF },
  { start := 0x70540020, dims := [], reset := [0], wo := 0xFFFFFFFF },
  { start := 0x70540024, dims := [], reset := [0], wo := 0x1FF001F },
  { start := 0x70540028, dims := [], reset := [0], wo := 0x1F },
  { start := 0x70540040, dims := [], reset := [0], rc := 0xFFFFFFFF },
  { start := 0x70540044, dims := [], reset := [0], rc := 0xFFFFFFFF },
  { start := 0x70540048, dims := [], reset := [0], rc := 0xFFFFFFFF },
  { start := 0x7054004C, dims := [], reset := [0], rc := 0xFFFFFFFF },
  { start := 0x70540050, dims := [], reset := [0], rc := 0xFFFFFFFF },
  { start := 0x70540054, dims := [], reset := [0], rc := 0xFFFFFFFF },
  { start := 0x70540058, dims := [], reset := [0], rc := 0xFFFFFFFF },
  { start := 0x7054005C, dims := [], reset := [0], rc := 0xFFFFFFFF },
  { start := 0x70540060, dims := [], reset := [0], rc := 0xFFFFFFFF },
  { start := 0x70540064, dims := [], reset := [0], rc := 0xFFFFFFFF },
  { start := 0x70540080, dims := [(8, 8)], reset := [0] },
  { start := 0x70540084, dims := [(8, 8)], reset := [0] },
  { start := 0x705400C0, dims := [(4, 4)], reset := [0] },
  { start := 0x70541000, dims := [(32, 0x200), (128, 4)], reset := [0] },
  { start := 0x70545000, dims := [(32, 0x200), (128, 4)], reset := [0], rw := 0xFFFFFFFF }]

/-- Registers of the SEC block, 17_security.md. -/
def Regs.SEC : List RegRow := [
  { start := 0x70700000, dims := [], reset := [0] },
  { start := 0x70700004, dims := [], reset := [0], wo := 1 },
  { start := 0x70700008, dims := [], reset := [0] },
  { start := 0x7070000C, dims := [], reset := [0] },
  { start := 0x70700010, dims := [], reset := [0], wo := 0x81FFFFFF },
  { start := 0x70700014, dims := [], reset := [0], w1c := 0x10000 },
  { start := 0x70700020, dims := [], reset := [0], wo := 7 },
  { start := 0x70700040, dims := [(12, 4)], reset := [0], wo := 0xFFFFFFFF },
  { start := 0x70700100, dims := [(8, 0x40), (12, 4)], reset := [0] },
  { start := 0x70700400, dims := [(8, 4)], reset := [0] },
  { start := 0x70700440, dims := [(24, 4)], reset := [0], wo := 0xFFFFFFFF },
  { start := 0x707004A0, dims := [], reset := [0], wo := 0x13 },
  { start := 0x707004A4, dims := [], reset := [0] }]

/-- Registers of the CLK block, 19_clocks.md. -/
def Regs.CLK : List RegRow := [
  { start := 0x70000000, dims := [], reset := [0], rw := 1, w1s := 0x10 },
  { start := 0x70000004, dims := [], reset := [2], w1c := 0xA00 },
  { start := 0x70000008, dims := [], reset := [0x40402], rw := 0x3F3F1F, chk := [(⟨0, 5⟩, [(2, 0x10)]), (⟨8, 6⟩, [(4, 0x20)]), (⟨16, 6⟩, [(4, 0x20)])] },
  { start := 0x7000000C, dims := [], reset := [0x140A08], rw := 0xFF7F7F, chk := [(⟨0, 7⟩, [(8, 0x40)]), (⟨8, 7⟩, [(10, 0x50)]), (⟨16, 8⟩, [(20, 0xA0)])] },
  { start := 0x70000010, dims := [], reset := [0] },
  { start := 0x70000014, dims := [], reset := [0] },
  { start := 0x70000020, dims := [], reset := [0], rc := 0xFFFFFFFF },
  { start := 0x70000024, dims := [], reset := [0], rc := 0xFFFFFFFF },
  { start := 0x70000028, dims := [], reset := [0] },
  { start := 0x70000100, dims := [], reset := [1] },
  { start := 0x70000104, dims := [], reset := [1] },
  { start := 0x70000108, dims := [], reset := [3] },
  { start := 0x7000010C, dims := [], reset := [3], rw := 0x10 },
  { start := 0x70000110, dims := [], reset := [3], rw := 0x10 },
  { start := 0x70000114, dims := [], reset := [3], rw := 0x10 },
  { start := 0x70000118, dims := [], reset := [3], rw := 0x10 },
  { start := 0x7000011C, dims := [], reset := [3], rw := 0x17 },
  { start := 0x70000120, dims := [], reset := [3], rw := 0x13 },
  { start := 0x70000124, dims := [], reset := [3], rw := 0x10 },
  { start := 0x70000128, dims := [], reset := [1], rw := 0x13 },
  { start := 0x7000012C, dims := [], reset := [0], rw := 3 }]

/-- Registers of the PWR block, 20_power_domains.md. -/
def Regs.PWR : List RegRow := [
  { start := 0x70010000, dims := [], reset := [0], rw := 0xFFFF },
  { start := 0x70010004, dims := [], reset := [0], w1c := 0x100000 },
  { start := 0x70010008, dims := [], reset := [0xFF], rw := 0xFF },
  { start := 0x7001000C, dims := [], reset := [0] },
  { start := 0x70010010, dims := [], reset := [0] },
  { start := 0x70010014, dims := [], reset := [0] },
  { start := 0x70010040, dims := [(8, 4)], reset := [0], rc := 0xFFFFFFFF },
  { start := 0x70010060, dims := [(8, 4)], reset := [0], rc := 0xFFFFFFFF }]

/-- Registers of the RST block, 21_startup_reset.md. -/
def Regs.RST : List RegRow := [
  { start := 0x70020000, dims := [], reset := [0], w1c := 0x3FF },
  { start := 0x70020004, dims := [], reset := [0], w1c := 0x100 },
  { start := 0x70020008, dims := [], reset := [0] },
  { start := 0x7002000C, dims := [], reset := [0] },
  { start := 0x70020010, dims := [], reset := [0], wo := 0xFFFF },
  { start := 0x70020014, dims := [], reset := [0] },
  { start := 0x70020040, dims := [], reset := [0], rc := 0xFFFF },
  { start := 0x70020044, dims := [], reset := [0], rc := 0xFFFF },
  { start := 0x70020048, dims := [], reset := [0], rc := 0xFFFF },
  { start := 0x7002004C, dims := [], reset := [0], rc := 0xFFFF },
  { start := 0x70020050, dims := [], reset := [0], rc := 0xFFFF },
  { start := 0x70020054, dims := [], reset := [0], rc := 0xFFFF },
  { start := 0x70020058, dims := [], reset := [0], rc := 0xFFFF },
  { start := 0x7002005C, dims := [], reset := [0], rc := 0xFFFF }]

/-- The rows of the block whose window holds address `a` (R51, R54): a window is 64 KiB, and the 0x7011 and 0x7021
windows hold several blocks. -/
def regRowsAt (a : Nat) : List RegRow :=
  let w := a / 0x10000
  if w = 0x7000 then Regs.CLK
  else if w = 0x7001 then Regs.PWR
  else if w = 0x7002 then Regs.RST
  else if w = 0x7003 then Regs.DTB
  else if w = 0x7005 ∨ w = 0x7006 then Regs.HARN
  else if w = 0x7008 then Regs.MG
  else if w = 0x7010 then Regs.PWM
  else if w = 0x7011 then Regs.TRP ++ Regs.TT ++ Regs.CHS ++ Regs.LVC ++ Regs.ACT
  else if w = 0x7020 then Regs.ADC
  else if w = 0x7021 then Regs.FE ++ Regs.INL
  else if 0x7030 ≤ w ∧ w ≤ 0x703B then Regs.CE ++ Regs.LAW
  else if w = 0x7040 then Regs.GDC ++ Regs.GCH ++ Regs.LCH
  else if 0x7050 ≤ w ∧ w ≤ 0x7053 then Regs.BUS
  else if w = 0x7054 then Regs.BRD
  else if w = 0x7060 then Regs.TH
  else if w = 0x7068 then Regs.PRC
  else if w = 0x7070 then Regs.SEC
  else if w = 0x7080 then Regs.KPR
  else []

/-- The row and linear index of the register at address `a`. -/
def regRow : List RegRow → Nat → Option (RegRow × Nat)
  | [], _ => none
  | r :: rs, a => match r.index a with
    | some k => some (r, k)
    | none => regRow rs a

def regAt (a : Nat) : Option (RegRow × Nat) := regRow (regRowsAt a) a

/-- The reset word of the register at address `a`; an offset no chapter defines reads as 0 (R54). -/
def resetWord (a : Nat) : Word :=
  match regAt a with
  | some (r, k) => BitVec.ofNat 32 (r.reset.getD k (r.reset.headD 0))
  | none => 0

end Sys2Proof
end

