-- ==== Sys2Proof/Machine/State.lean ====
section
/-! DEFINITION. The state of the module as plain data, and the state after reset. Every 32-bit register is one word of
`State.regs`, keyed by its physical address; every Paddock signal one entry of `State.sigs`; the structures below hold
what the rules give a block beside its registers and signals. -/

namespace Sys2Proof.Machine

/-! ## Paddock -/

/-- The 64-bit location of a signal: value word and meta word (R57). -/
structure Sig where
  value : Word := 0
  mword : Word := 0
  deriving DecidableEq, Repr, Inhabited

/-- The register file an instruction uses: the committed one, bank A, bank B, or both banks (R163). -/
inductive BankSel where
  | committed | a | b | both
  deriving DecidableEq, Repr, Inhabited

/-- Who asked for an urgent conversion: the requester's number and, for an engine, the law slot and the reference cycle of
the section that issued it. -/
structure Asker where
  requester : Nat
  law : Nat := 0
  start : Nat := 0
  deriving DecidableEq, Repr, Inhabited

/-- Who asked a Paddock bank for an access (R75), with what the access carries. -/
inductive Access where
  /-- A converter result: unit, entry, value, quality, OVR, end of sampling, whether it ends its slot's run, and the
  urgent requester it serves. -/
  | conv (unit entry : Nat) (val : Int) (quality : Nat) (ovr : Bool) (tsUs : Nat) (lastOf : Option Nat) (urgentOf : Option Asker)
  /-- LDS into register `d` of the section that started at `start`, ready at `due` at the earliest. -/
  | lawRead (engine slot d : Nat) (sel : BankSel) (start due : Nat)
  /-- One of the four entries of the TLT whose first entry was presented in cycle `tab`. -/
  | lawTable (engine slot tab corner : Nat)
  /-- A signal write posted by the section that started at `start`, with its quality. -/
  | lawWrite (engine slot : Nat) (val : Word) (start quality : Nat)
  /-- A bus object's unpacked value. -/
  | bus (port obj : Nat) (val : Word) (quality : Nat) (lost : Bool)
  /-- The recorder's copy of list entry `k`. -/
  | record (k : Nat)
  /-- A core's load of `size` bytes at an address of the value or the descriptor range. -/
  | coreRead (core addr size : Nat)
  /-- A core's store of `size` bytes at an address of the value range. -/
  | coreWrite (core addr size : Nat) (val : DWord)
  /-- A core's store of a descriptor. -/
  | descWrite (core : Nat) (val : DWord)
  /-- A visit of the stale sweep. -/
  | sweep
  deriving DecidableEq, Repr

/-- A waiting access: the signal, the cycle it enters arbitration, and the requester. -/
structure PendAccess where
  sig : Nat
  req : Nat
  kind : Access
  deriving DecidableEq, Repr

/-- The period recorder (R79-R81): the record being copied, its start offset in the ring, entries copied, and the
boundaries still to skip. -/
structure RecorderSt where
  active : Bool := false
  start : Nat := 0
  copied : Nat := 0
  skip : Nat := 0
  deriving DecidableEq, Repr, Inhabited

structure PaddockSt where
  waiting : List PendAccess := []
  /-- The engine served last by each bank, for the round robin of R75; at reset CE0 is the first (log 101, DESIGN CHOICE). -/
  lastEngine : List Nat := List.replicate 8 11
  /-- The cycle in which each bank is next free. -/
  free : List Nat := List.replicate 8 0
  recorder : RecorderSt := {}
  /-- Signals that the sweep of R62 has still to visit. -/
  sweepLeft : List Nat := []
  /-- Locations written in cycle `seenAt`, with what they held before (R73). -/
  seen : List (Nat × Sig) := []
  seenAt : Nat := 0
  deriving DecidableEq, Repr, Inhabited

/-! ## Converter units -/

/-- What an input of a converter unit is connected to (R573-R575, input table of spec/03). Drives, lines and sensors are
numbered from 0. -/
inductive Sense where
  /-- Analogue ground. -/
  | agnd
  /-- Inputs 12, 13, 14 of every unit. -/
  | die | midScale | coreSupply
  /-- Phase currents and phase nodes of a drive, its DC link, and its resolver. -/
  | phaseCurrent (d k : Nat) | phaseNode (d k : Nat) | driveLink (d : Nat) | excitation (d : Nat) | resSin (d : Nat) | resCos (d : Nat)
  /-- IS_P1-IS_P3 and IS_PN, the grid voltages, IS_D1 and IS_D2, and the two link dividers of AU11. -/
  | pfcCurrent (k : Nat) | grid (k : Nat) | isoCurrent (k : Nat) | chargerLink | hvLink
  | ib | lvOut | buckCurrent (k : Nat) | dcxCurrent | batCurrent
  /-- Shift, pump, park and clutch currents, and the phase nodes of the shift and the pump legs. -/
  | shCurrent (k : Nat) | shNode (k : Nat) | opNode (k : Nat) | fork | opCurrent | parkCurrent | clutchCurrent
  | cpPos | cpNeg | pp | motorTemp (d : Nat) | oilTemp | ntc (k : Nat) | fieldNtc (k : Nat)
  | vact | vbatk | solVoltage | solCurrent | vsup
  deriving DecidableEq, Repr, Inhabited

/-- The conversion that occupies a unit. Edges are counted in half CLK_CTL cycles, a CLK_ADC edge every 5. -/
structure Conversion where
  entry : Nat
  /-- What the entry's input is connected to from the start of its sampling phase. -/
  src : Sense
  /-- The slot of a sequenced conversion. -/
  slot : Option Nat
  /-- The requester of an urgent conversion. With neither it is the boot flow's test conversion (R110). -/
  by_ : Option Asker
  sampling : Bool
  /-- The end of the present phase, in half cycles. -/
  tEnd : Nat
  /-- ts of the result, set at the end of the sampling phase. -/
  tsUs : Nat
  /-- Encoder angle latched in place of a conversion (R272). -/
  enc : Option Int := none
  deriving DecidableEq, Repr

structure UrgentReq where
  asker : Asker
  entry : Nat
  /-- The DTB value at which the request reaches the unit. -/
  arrive : Nat
  deriving DecidableEq, Repr

structure AuSt where
  act : Option Conversion := none
  /-- The edge, in half cycles, at which the unit last became free. -/
  freeAt : Nat := 0
  /-- The entry whose sampling phase started last. -/
  lastEntry : Nat := 0
  /-- The cycle in which each pending slot's delay ended. -/
  pendAt : List Nat := List.replicate 4 0
  /-- The boot flow's calibration: input 13 is tested after it (R110). -/
  bootTest : Bool := false
  wait : Option UrgentReq := none
  incoming : List UrgentReq := []
  /-- End of the running trigger delay of each slot. -/
  delay : List (Option Nat) := List.replicate 4 none
  /-- Slots whose run is on, and the entry that run converts next. -/
  running : Option (Nat × Nat) := none
  /-- The slots that have counted a collision in their present wait. -/
  collided : List Bool := List.replicate 4 false
  /-- Slots whose last result waits for its bank. -/
  finishing : List Bool := List.replicate 4 false
  calDue : Option Nat := none
  deriving DecidableEq, Repr, Inhabited

/-! ## Canter engines -/

/-- A latched capture (R136): value, quality, OVR, and whether a write came since the last accepted trigger (R161). -/
structure Capture where
  v : Half := 0
  q : Nat := 0
  ovr : Bool := false
  fresh : Bool := false
  deriving DecidableEq, Repr, Inhabited

/-- A bound of a branch (R164). -/
structure Bound where
  branch : Nat
  cap : Nat
  lo : Int
  hi : Int
  deriving DecidableEq, Repr

/-- A TLT whose four Paddock entries are being fetched (R122): the cycle in which the first is presented, destination pair
and register file, the start of its section, the cycle from which its result is ready at the earliest, the two fractions, and
the words that have arrived. -/
structure TablePend where
  tab : Nat
  d : Nat
  sel : BankSel
  start : Nat
  due : Nat
  fx : Int
  fy : Int
  got : List (Nat × Word)
  deriving DecidableEq, Repr

/-- A data register file with its saturation tags. -/
structure Bank where
  d : List Half := List.replicate 64 0
  tag : List Bool := List.replicate 64 false
  deriving DecidableEq, Repr, Inhabited

/-- The state of the urgent request of one execution. -/
inductive UrgSt where
  | none | issued | done | refused
  deriving DecidableEq, Repr, Inhabited

/-- The issue state of R124: the cycle of the last issue, the cycle from which each register is ready (none while a
Paddock read is outstanding), the flags, the divide unit, and, for the static check, the completion of each access that
holds a place of the Paddock port. -/
structure Sched where
  last : Nat
  rdyD : List (Option Nat) := List.replicate 64 (some 0)
  rdyA : List Nat := List.replicate 4 0
  rdyF : Nat := 0
  divFree : Nat := 0
  port : List (Option Nat) := []
  deriving DecidableEq, Repr, Inhabited

/-- A running section: its kind, its next instruction, its reference cycle T or lopen, its issue state, the register
file it uses, and the state of its urgent request. -/
structure Section where
  look : Bool
  pc : Nat
  t : Nat
  sched : Sched
  sel : BankSel := .committed
  urg : UrgSt := .none
  deriving DecidableEq, Repr

/-- What an END has replaced in its cycle `at_`: the law's registers, previous tags and last outputs, whether the execution
before had missed, and words of the law's counters. A disable of that cycle wins (R179). -/
structure EndUndo where
  at_ : Nat
  bank : Bank
  prevTag : List Bool
  lastOut : List (Option Word)
  prevMissed : Bool
  words : List Word
  deriving DecidableEq, Repr

/-- What a production law keeps from one execution to the next (spec/08 to spec/10): angle step, observer angle, amplitudes
outside their limits in a row, position fault; limited torque, integrator, a limit acts; controllers of the current law's axes
with their clamps; phase shift and current amplitude of the charger; base on-time of the LV law and whether it has left the
internal frequency; trims; phase currents of the last ten frames; samples of the DC link with their cycles. -/
structure ProdMem where
  w : Int := 0
  ref : Int := 0
  ampBad : Nat := 0
  fault : Bool := false
  torque : Int := 0
  integ : Int := 0
  limited : Bool := false
  axes : List (Int × Bool) := List.replicate 4 (0, false)
  phi : Int := 0
  amp : Int := 0
  tBase : Nat := 0
  away : Bool := false
  trims : List Int := List.replicate 4 0
  cur : List (List Int) := []
  link : List (Nat × Int) := []
  /-- The first of the executions without a position fault (R289). -/
  clean : Option Nat := none
  /-- Current limit in force of the charger, and the lowering of the LV target in CC (R305, R314, R343). -/
  lim : Int := 0
  drop : Int := 0
  deriving DecidableEq, Repr, Inhabited

/-- One law slot. -/
structure LawSt where
  /-- The frame start whose window the law has (R130). -/
  frame : Option Nat := none
  /-- An accepted trigger or a late miss has used the frame. -/
  used : Bool := false
  /-- The cycle of the last accepted trigger. -/
  trig : Option Nat := none
  sec : Option Section := none
  caps : List Capture := List.replicate 8 {}
  snap : List Capture := List.replicate 8 {}
  /-- Predictor history x[n], x[n-1] per capture (R159). -/
  hist : List (Half × Half) := List.replicate 8 (0, 0)
  pred : List Half := List.replicate 8 0
  bankA : Bank := {}
  bankB : Bank := {}
  bounds : List Bound := []
  /-- Fallback set of the branch A part (R165). -/
  fbSet : List (Option Word) := List.replicate 8 none
  staged : List (Option Word) := List.replicate 8 none
  lastOut : List (Option Word) := List.replicate 8 none
  held : List (Nat × Word) := []
  /-- Outputs to be written, and when (R134, R145, R175). -/
  outDue : Option (Nat × List (Option Word)) := none
  fbDue : Option (Nat × List (Option Word)) := none
  prevMissed : Bool := false
  seg : Nat := 0
  anyTag : Bool := false
  /-- The lookahead of this frame has started. -/
  lookDone : Bool := false
  /-- Table reads under way. -/
  tables : List TablePend := []
  /-- Cycles of the last write of outputs and of the last END of a lookahead, and what the last END replaced (R179). -/
  wroteAt : Option Nat := none
  aheadEnd : Option Nat := none
  undo : Option EndUndo := none
  /-- The slot holds a production law (R262, R287, R288). -/
  prod : Option ProdMem := none
  deriving DecidableEq, Repr, Inhabited

structure CeSt where
  bank : Bank := {}
  prevTag : List Bool := List.replicate 64 false
  acc : List Acc := List.replicate 4 0
  n : Bool := false
  z : Bool := false
  /-- The latest frame start, if the engine has had one since its enable. -/
  frame : Option Nat := none
  laws : List LawSt := List.replicate 4 {}
  /-- The Paddock port (R124): the completion of each access that holds a place, none while its bank has not performed it,
  and the next cycle in which it can present one. -/
  port : List (Option Nat) := []
  portNext : Nat := 0
  /-- Coefficient writes held under R119: word address and value. -/
  coefQ : List (Nat × Word) := []
  deriving DecidableEq, Repr, Inhabited

/-! ## Pulse generators and trip lines. Edge times are in taps of 1/64 CLK_CTL cycle. -/

structure PgSt where
  /-- DTB value of the next period start while the counter runs in mode Up or Up-down. -/
  next : Nat := 0
  /-- Period value in force. -/
  per : Nat := 8
  centreDone : Bool := false
  matchDone : Bool := false
  /-- Reference level r (R184). -/
  r : Bool := false
  hi : Bool := false
  lo : Bool := false
  pendHi : Option Nat := none
  pendLo : Option Nat := none
  /-- Times of the last turn-off and turn-on commands, in taps. -/
  offHi : Nat := 0
  offLo : Nat := 0
  onAt : Nat := 0
  /-- Changes of the high and of the low command that are on the link to their channel, oldest first: cycle and level
  (R225). -/
  hiLink : List (Nat × Bool) := []
  loLink : List (Nat × Bool) := []
  /-- End of a stretched pulse (R192, R193). -/
  stretch : Option Nat := none
  /-- Edges of r up to this time have been handled or removed. -/
  doneTo : Nat := 0
  /-- COT: end of the on-time, end of the minimum off-time, a held start, the last start. -/
  cotFall : Option Nat := none
  cotReady : Nat := 0
  cotHeld : Bool := false
  cotLast : Nat := 0
  /-- COT: the first cycle, at phs = 0, is a period start (R202). -/
  cotFirst : Bool := false
  /-- Taps per cycle of the adopted mapping (R209), and the taps of the delay line that it gave the last change of the high
  and of the low command (R208). -/
  mapN : Nat := 64
  hiTap : Nat := 0
  loTap : Nat := 0
  /-- Last write of each shadow (compare A, compare B, period): its cycle and the value the shadow held before it, for
  the load point of the same cycle (R198). -/
  late : List (Option (Nat × Word)) := [none, none, none]
  deriving DecidableEq, Repr, Inhabited

/-- An external trip input: pin level and the cycle its filter counts from (R212). -/
structure TripIn where
  pin : Bool := true
  since : Option Nat := none
  /-- The line changes no earlier than this cycle, the one after a write of its filter. -/
  notBefore : Nat := 0
  deriving DecidableEq, Repr, Inhabited

structure YarrowSt where
  due : Option Nat := none
  /-- Newest mapping and the cycle from which it may be adopted. -/
  n : Nat := 64
  at_ : Nat := 0
  deriving DecidableEq, Repr, Inhabited

/-! ## Architecture -/

/-- Ordering code (R5). -/
inductive Variant where
  | f | d
  deriving DecidableEq, Repr, Inhabited

/-- The mode machine beside its signals (R41-R50). -/
structure ModeSt where
  /-- An admitted SET_MODE waits for the check of the next 1 ms boundary. -/
  recheck : Option Nat := none
  leaveBy : Nat := 0
  enterBy : Nat := 0
  deriving DecidableEq, Repr, Inhabited

/-- What a core holds that this block's commands write: the word its last read returned, access faults raised in it,
and the DTB_HI latch (R34). -/
structure CorePort where
  read : DWord := 0
  faults : Nat := 0
  dtbHi : Word := 0
  /-- Architectural state that a rejoin or a re-harness copies or starts (R377, R383): integer and floating-point
  registers, pc, CSRs with the PMP among them by number, and whether the core is in WFI or held. -/
  x : List DWord := List.replicate 32 0
  f : List DWord := List.replicate 32 0
  pc : Nat := 0
  csr : List (Nat × DWord) := []
  wfi : Bool := false
  held : Bool := false
  deriving DecidableEq, Repr, Inhabited

/-! ## Gate-drive channels -/

/-- An edge in flight at an HV channel (R229-R237). -/
structure Edge where
  /-- Turn-on or turn-off. -/
  rise : Bool
  /-- Arrival of the command. -/
  t0 : Nat
  gait : Bool
  bin : Nat
  /-- The bin allows a learning step (R236). -/
  learn : Bool
  /-- Phase of a gait edge: 1 strong, 2 slope, 3 hold. -/
  phase : Nat
  /-- End of the strong phase. -/
  preEnd : Nat
  /-- The edge may be measured (R231). -/
  meas : Bool := true
  /-- GCH_LRN and GCH_DTGT as they stood when the edge began (R260). -/
  lrn : Word := 0
  dtgt : Word := 0
  deriving DecidableEq, Repr, Inhabited

structure HvSt where
  /-- The generator's command that has arrived, the command in force, and what the gate is driven to. -/
  gen : Bool := false
  cmd : Bool := false
  gate : Bool := false
  edge : Option Edge := none
  /-- First cycle from which the channel counts as off (R253). -/
  offSince : Option Nat := some 0
  blankEnd : Nat := 0
  /-- Since when Gnn_SC stands above V_th (R244). -/
  crossed : Option Nat := none
  softEnd : Option Nat := none
  /-- Consecutive edges of each bin without plateau exit (R241). -/
  nopl : List Nat := List.replicate 8 0
  /-- Current signal latched for the bin. -/
  cap : Capture := {}
  /-- Path 2 of STO holds the channel to this command (R409), and a turn-on it waits for. -/
  p2 : Option Bool := none
  p2Due : Option Nat := none
  deriving DecidableEq, Repr, Inhabited

structure LvSt where
  out : Bool := false
  cmd : Bool := false
  /-- Since when the channel counts as off (R253, R540). -/
  offSince : Option Nat := some 0
  deriving DecidableEq, Repr, Inhabited

/-- Measurement of one probe injection (R247): node voltages of the bridge's legs at its start and its end, and the rails
at its end, in mV. -/
structure Injection where
  v0 : List Int
  v1 : List Int
  hi : Int
  lo : Int
  deriving DecidableEq, Repr, Inhabited

/-- Probe of a bridge under way (R247): the bridge, the bridges still to probe, the start cycle,
 whether step 2 is made, the gate-loop step and the injections done. -/
structure ProbeSt where
  bridge : Option Nat := none
  left : List Nat := []
  start : Nat := 0
  linked : Bool := false
  gloopDone : Bool := false
  inj : List Injection := []
  deriving DecidableEq, Repr, Inhabited

structure GateSt where
  hv : List HvSt := List.replicate 34 {}
  lv : List LvSt := List.replicate 29 {}
  probe : ProbeSt := {}
  /-- DRV_EN pin, the cycle its filter counts from, and the start of the present filtered low. -/
  drvEn : Bool := false
  drvSince : Option Nat := none
  lowSince : Nat := 0
  /-- End of the EN_REQ pulse. -/
  enPulse : Option Nat := none
  chopper : Bool := false
  /-- Newest float-leg codes of the shift and pump stages with the cycle of their writes (R352). -/
  floatSh : Option (Nat × Nat) := none
  floatOp : Option (Nat × Nat) := none
  /-- Forced discharge (R258): its start and the end of the hold-off after a timeout. -/
  dscStart : Option Nat := none
  dscHold : Option Nat := none
  deriving DecidableEq, Repr, Inhabited

/-! ## Martingale -/

/-- One drive as Martingale sees it (R399-R407). -/
structure MgDrive where
  theta : Option Nat := none
  count : Option Nat := none
  /-- Last four steps, newest first. -/
  steps : List Int := [0, 0, 0, 0]
  /-- Sine, cosine, sign sample of the resolver entries and whether each was written since the last tick. -/
  res4 : Int := 0
  res5 : Int := 0
  res6 : Int := 0
  fresh5 : Bool := false
  fresh6 : Bool := false
  ovr4 : Bool := false
  ovr5 : Bool := false
  ovr6 : Bool := false
  bad : Nat := 0
  good : Nat := 0
  /-- Fraction of MG_POS in units of 1/65,536 of 1/4,096 revolution. -/
  frac : Nat := 0
  /-- Extreme position of SDI, with the function active since. -/
  extreme : Int := 0
  sdiOn : Bool := false
  n0 : Nat := 0
  ss1At : Nat := 0
  xcheck : Nat := 0
  deriving DecidableEq, Repr, Inhabited

/-- One contact of a dual-contact input: raw level, filtered reading, start of its 1 ms filter. -/
structure Contact where
  raw : Bool := false
  read : Bool := false
  since : Option Nat := none
  /-- The test-pulse output in whose off-pulse alone the contact read low (R418). -/
  cross : Option Nat := none
  deriving DecidableEq, Repr, Inhabited

structure SafetyIn where
  a : Contact := {}
  b : Contact := {}
  /-- Start of the discrepancy time, and of both contacts reading open in FAULT. -/
  disc : Option Nat := none
  openSince : Option Nat := none
  deriving DecidableEq, Repr, Inhabited

/-- A fault source that holds a reaction (R415): class, scope. -/
structure Source where
  cls : Nat
  scope : Nat
  deriving DecidableEq, Repr

/-- A fault report on its way to Martingale: class, scope, reaction kind (class 12 carries its own). -/
structure Report where
  cls : Nat
  scope : Nat
  rx : Nat := 0
  deriving DecidableEq, Repr, Inhabited

structure MgSt where
  /-- Reports sent and not yet received (R412, log 14). -/
  reports : List Report := []
  /-- The first key of the lock sequence was the last write to the block (R397). -/
  keyed : Bool := false
  drives : List MgDrive := [{}, {}]
  inputs : List SafetyIn := List.replicate 8 {}
  sources : List Source := []
  /-- SERVICE forcing (R410). -/
  forcing : Bool := false
  testDue : Option Nat := none
  fatalDue : Option Nat := none
  /-- A MODULE reaction waits to request the forced discharge (R416). -/
  dscWant : Bool := false
  /-- Consecutive Yarrow reports (class 4). -/
  yarrowRuns : Nat := 0
  /-- Test pulse outputs in their off-pulse, and the start of each safety output's test. -/
  tpOff : List Bool := List.replicate 4 false
  soOff : List (Option Nat) := List.replicate 4 none
  /-- Times of the last measurement tick and of the last input sample. -/
  tickAt : Option Nat := none
  sampleAt : Option Nat := none
  /-- The self-test has completed since the reset of PD2 (R397). -/
  tested : Bool := false
  /-- The self-test has found a mid-scale code of AU3 or AU7 off (R423). -/
  midBad : Bool := false
  /-- The clock supervisor holds EN_REQ low (R396). -/
  supervisor : Bool := false
  /-- Times and scopes of the latest reactions (R426). -/
  reacted : List (Nat × Nat) := []
  deriving DecidableEq, Repr, Inhabited

/-! ## Message-bus ports -/

/-- A frame on a bus: format 0 classical, 1 FD, 2 XL; for XL the service type, the network number and the acceptance
field. -/
structure Frame where
  fmt : Nat
  ide : Bool
  id : Nat
  data : List Byte
  sdt : Nat := 0
  vcid : Nat := 0
  af : Nat := 0
  deriving DecidableEq, Repr, Inhabited

/-- The store of a receive object (R449): the frame, its DTB and its sequence count since enable. -/
structure RxStore where
  frame : Frame
  dtb : Nat
  seq : Nat
  deriving DecidableEq, Repr

/-- A pending transmit object: its packed data, the time it became pending, the time of its last packing, and its
deadline (R455). -/
structure TxPend where
  obj : Nat
  data : List Byte
  since : Nat
  packed : Nat
  deadline : Option Nat
  deriving DecidableEq, Repr

/-- A pending Bridle reply, its deadline (R466, R471) and the time it became pending. -/
structure ReplyPend where
  data : List Byte
  xl : Bool
  deadline : Nat
  since : Nat
  deriving DecidableEq, Repr

structure BusSt where
  rx : List (Nat × RxStore) := []
  /-- Frames each object has taken since its enable. -/
  count : List (Nat × Nat) := []
  tx : List TxPend := []
  /-- Next due boundary of each periodic transmit object, in ms (R453). -/
  due : List (Nat × Nat) := []
  replies : List ReplyPend := []
  /-- Times from which the module's fault frames wait (R40). -/
  faults : List Nat := []
  /-- Bus-off recovery is counting. -/
  counting : Bool := false
  /-- Sleep waits for the end of the frame in progress. -/
  sleepWait : Bool := false
  /-- Start of the silence each supervisor measures; none after its report. -/
  watch : List (Option Nat) := List.replicate 16 (some 0)
  deriving DecidableEq, Repr, Inhabited

/-! ## Bridle -/

/-- Where an accepted packet stands: queued for firmware, taken by it, or waiting for its commit. -/
inductive SlotStage where
  | queued | taken | waiting
  deriving DecidableEq, Repr

/-- A shadow slot (R485). -/
structure Slot where
  port : Nat
  xl : Bool
  session : Nat
  seq : Nat
  opcode : Nat
  conf : Bool
  params : List Byte
  tEnd : Nat
  stage : SlotStage
  entered : Nat := 0
  writes : List (Nat × Word) := []
  rlen : Nat := 0
  target : Nat := 15
  commit : Nat := 0
  order : Nat := 0
  /-- The firmware's outside work: expected, and reported done (R492). -/
  outside : Bool := false
  done : Bool := false
  /-- K_rep of the session, for a reply after the session has closed. -/
  krep : List Byte := []
  /-- Register writes of a safety configuration block, made at the commit (log 33). -/
  cfg : List (Nat × Word) := []
  deriving DecidableEq, Repr

/-- A session beside BRD_SESS and BRD_SEQ: nonces, keys, last activity, and the latest reply to each of the last 16
sequences, newest first (R478). -/
structure Sess where
  hn : List Byte := []
  dn : List Byte := []
  kreq : List Byte := []
  krep : List Byte := []
  last : Nat := 0
  cache : List (Nat × List Byte) := []
  deriving DecidableEq, Repr, Inhabited

/-- A subscription (R471). -/
structure Sub where
  session : Nat
  seq : Nat
  port : Nat
  period : Nat
  ids : List Nat
  /-- The boundary, in ms, of the next notification. -/
  next : Nat
  deriving DecidableEq, Repr

structure BridleSt where
  slots : List (Option Slot) := List.replicate 32 none
  sess : List Sess := List.replicate 8 {}
  subs : List Sub := []
  fwqA : List Nat := []
  fwqS : List Nat := []
  /-- Admissions made so far. -/
  order : Nat := 0
  /-- Time of the last ST_NOSESSION reply of each port (R476). -/
  nosess : List (Option Nat) := List.replicate 4 none
  /-- Last write of BRD_FWPW_ID. -/
  pwId : Word := 0
  /-- The attestation report kept for a session: session, nonce, report (R508). -/
  reports : List (Nat × List Byte × List Byte) := []
  deriving DecidableEq, Repr, Inhabited

/-! ## Keys, identity and one-time-programmable memory -/

/-- What the key store and the one-time-programmable memory hold. Their contents at manufacture are log 7's choice. -/
structure SecSt where
  serial : List Byte := List.replicate 8 0
  /-- Bridle level keys 1-4; none while not provisioned. -/
  levelKey : List (Option (List Byte)) := List.replicate 4 none
  /-- RTC time at which the lock of each level ends (R479). -/
  lockEnd : List Nat := List.replicate 4 0
  /-- SHA-384 of the public key of each image-key slot. -/
  slotHash : List (List Byte) := List.replicate 4 (List.replicate 48 0)
  debugKey : List Byte := List.replicate 96 0
  identityKey : Nat := 1
  certificate : List Byte := []
  /-- Image whose verification runs: header offset and bank, and the images verified in this boot: kind, svn. -/
  verify : Option Nat := none
  verified : List (Nat × Nat) := []
  /-- Debug challenge: its bytes, the time of its read. -/
  challenge : Option (List Byte × Nat) := none
  debugLevel : Nat := 0
  /-- An attempt is being verified against this challenge. -/
  attempt : Option (List Byte) := none
  /-- An unlock since the last reset of PD0, and the level of its signature check. -/
  unlocked : Bool := false
  deriving DecidableEq, Repr, Inhabited

/-! ## Drives -/

/-- The drive sequencer of one drive beside its signals (R289), and the encoder pins of its front end. -/
structure DriveSt where
  startAt : Nat := 0
  dwellAt : Nat := 0
  /-- End of the 50 ms after a stage stop by the mode machine. -/
  stopBy : Option Nat := none
  /-- LAW_CNT_MISS at the last 1 ms boundary (R277). -/
  miss : Nat := 0
  /-- Direction in force. -/
  dir : Nat := 0
  encA : Bool := false
  encB : Bool := false
  /-- Time of the last encoder transition. -/
  encAt : Option Nat := none
  deriving DecidableEq, Repr, Inhabited

/-! ## Charging (spec/09) -/

/-- The AC inlet beside its signals: the last pilot edge, whether the source is classified (R304), the times of entry into
ENERGIZE, HANDOVER and LOCKOUT, of the last opening of S2 by the module, of each bounce (R309), and whether another
vehicle's pilot is seen on CP (R316). -/
structure InletSt where
  edgeAt : Option Nat := none
  classed : Bool := false
  enAt : Nat := 0
  handAt : Nat := 0
  lockAt : Nat := 0
  openAt : Option Nat := none
  bounces : List Nat := []
  seen : Bool := false
  deriving DecidableEq, Repr, Inhabited

/-- A charge machine beside its state signal (R311-R313). -/
structure ChargeSt where
  /-- Entry into the present state. -/
  since : Nat := 0
  /-- End of the termination timer and of TOPOFF. -/
  termAt : Option Nat := none
  topAt : Nat := 0
  /-- Start of a presence test and the current before it, the last test's outcome in this CV, and the next test of
  NO_BATTERY. -/
  testAt : Option Nat := none
  testI : Int := 0
  tested : Bool := false
  testNext : Nat := 0
  /-- Output current set-point, 1/2,560 A, ramped at each 1 ms boundary toward a cap; none caps at I_cc. -/
  iset : Nat := 0
  cap : Option Nat := some 0
  /-- The battery profile that runs (LV). -/
  profile : Nat := 2
  /-- A fault is cleared by: 1 STANDBY entered since it, 2 CHARGE entered again or the buck restarted. -/
  cycled : Nat := 0
  deriving DecidableEq, Repr, Inhabited

/-- The supply machine: entry into SUPPLY, whether the output is energised, and whether the pilot shows the advertised
current. -/
structure SupplySt where
  since : Nat := 0
  live : Bool := false
  adv : Bool := false
  deriving DecidableEq, Repr, Inhabited

/-- The solar machine beside its signals. Voltages are in tenths of an LSB of S.5.0202. -/
structure SolarSt where
  /-- Start of the boost stop before a V_oc measurement. -/
  stopAt : Option Nat := none
  voc : Int := 0
  ref : Int := 0
  step : Int := 2560
  up : Bool := true
  run : Nat := 0
  power : Int := 0
  stepAt : Nat := 0
  /-- End of the last scan. -/
  scanEnd : Nat := 0
  scanK : Nat := 0
  bestP : Int := 0
  bestRef : Int := 0
  /-- Reverse transfer by the DCX (R321). -/
  transfer : Bool := false
  deriving DecidableEq, Repr, Inhabited

/-- The charger output supervisor (R310): the last two DCL_MEAS samples, newest first, the last current sample, and the
time of the last link sample. -/
structure SupervisorSt where
  dcl : List Nat := []
  cur : Option Int := none
  sampleAt : Option Nat := none
  /-- A detection that the charge machine has not taken (R311). -/
  hit : Bool := false
  deriving DecidableEq, Repr, Inhabited

/-! ## Low-voltage converter and keeper (spec/10) -/

/-- The LV sequencer and the constant on-time control beside their signals. `st`: 0 OFF, 1 DCX_START, 2 DCX_WAIT, 3 CHECK,
4 SOFTSTART, 5 RETRY_WAIT, 6 OVLATCH, 7 FAULT, 8 RUN. -/
structure LvSeqSt where
  st : Nat := 0
  /-- Entry into the present state. -/
  since : Nat := 0
  hiccups : Nat := 0
  retries : Nat := 0
  /-- Power-good has been absent since, while the run request stood. -/
  pgLost : Option Nat := none
  /-- The LV supervisor has fired for this absence. -/
  fired : Bool := false
  /-- Present reference in 1/65,536 V. -/
  ref : Int := 0
  /-- Next phase of the rotation and start events held by the valley limit. -/
  phase : Nat := 0
  held : List Bool := [false, false, false, false]
  lastEdge : Option Nat := none
  goodEdges : Nat := 0
  dcxReverse : Bool := false
  /-- Trip flags of the DCX to be cleared once TL4 is inactive (R338). -/
  tl4Clear : Bool := false
  /-- Start of the DCX, and of its hiccup wait inside OVLATCH. -/
  dcxAt : Nat := 0
  ovWait : Option Nat := none
  /-- The start sequence has used its clear flag while the sequencer was in FAULT or OVLATCH (R251). -/
  cleared : Bool := false
  deriving DecidableEq, Repr, Inhabited

/-- The keeper beside its registers (R345, R346). Its times are RTC times. -/
structure KeeperSt where
  btnAt : Option Nat := none
  /-- The press has been carried out or ignored. -/
  lpDone : Bool := false
  lpAt : Option Nat := none
  /-- The last domain went OFF with ship mode armed. -/
  offAt : Option Nat := none
  /-- BSW was opened by a long press and the module is unsupplied. -/
  lpOpen : Bool := false
  /-- The unit that woke PD0 from OFF. -/
  waker : Nat := 0
  /-- DTB and the RTC count when PD0 last left ON (R28, R547). -/
  dtbKept : Nat := 0
  rtcKept : Nat := 0
  deriving DecidableEq, Repr, Inhabited

/-! ## Actuators (spec/11) -/

/-- A motor run by back-EMF commutation (R356): the step, the last commutation, the next one when a crossing has set it,
forced commutations in a row, and consecutive crossings. -/
structure MotorSt where
  step : Nat := 0
  lastAt : Nat := 0
  /-- Time between the last two commutations. -/
  gap : Nat := 0
  nextAt : Option Nat := none
  forced : Nat := 0
  crossings : Nat := 0
  deriving DecidableEq, Repr, Inhabited

/-- The shift sequencer beside its signals (R353-R357). -/
structure ShiftSt where
  /-- Pulses made, whether the legs rest after one, the start of the pulse or rest, and frames of extension. -/
  pulses : Nat := 0
  resting : Bool := false
  phaseAt : Nat := 0
  extended : Nat := 0
  fails : Nat := 0
  /-- Start of the 10 ms at L after a failure. -/
  waitAt : Option Nat := none
  target : Option Word := none
  deriving DecidableEq, Repr, Inhabited

/-- The park sequencer (R359). `st`: 0 UNKNOWN, 1 ENGAGED, 2 RELEASED, 3 MOVING, 4 FAULT; direction of the drive, its
start, the start of the brake, and the direction that follows it. -/
structure ParkSt where
  st : Nat := 0
  drive : Option Bool := none
  since : Nat := 0
  brakeAt : Option Nat := none
  next : Option Bool := none
  deriving DecidableEq, Repr, Inhabited

/-- The clutch (R360). `st`: 0 OFF, 1 PULL, 2 HOLD, 3 FAULT. -/
structure ClutchSt where
  st : Nat := 0
  since : Nat := 0
  deriving DecidableEq, Repr, Inhabited

/-- The pump sequencer (R361-R363). `st`: 0 OFF, 1 ALIGN, 2 RAMP, 3 RUN, 4 WAIT, 5 FAULT; entry into the state, failures,
the next evaluation, and the last curve taken. -/
structure PumpSt where
  st : Nat := 0
  since : Nat := 0
  fails : Nat := 0
  evalAt : Option Nat := none
  curve : List (Int × Int) := []
  deriving DecidableEq, Repr, Inhabited

/-! ## Teams (spec/12) -/

/-- A team's harness beside its registers: the mharn request, the mharnst result and deg, the detection of a TROIKA
mismatch, the start of a barrier with whether WFI reached it, the re-harness under way, and the last service of each
watchdog. -/
structure HarnSt where
  req : Nat := 0
  arm : Bool := false
  res : Nat := 0
  deg : Bool := false
  pairAt : Option Nat := none
  barrier : Option Nat := none
  byWfi : Bool := false
  target : Option Nat := none
  /-- The FENCE result after the next rejoin reads ABANDONED. -/
  abandoned : Bool := false
  served : List Nat := [0, 0, 0]
  deriving DecidableEq, Repr, Inhabited

/-! ## Thermal (spec/14) -/

/-- A zone: its next evaluation, and consecutive evaluations without and with a valid sensor. -/
structure ZoneSt where
  nextAt : Option Nat := none
  bad : Nat := 0
  good : Nat := 0
  deriving DecidableEq, Repr, Inhabited

structure ThermalSt where
  zones : List ZoneSt := List.replicate 8 {}
  /-- Re-enable requests not yet taken, one bit per zone (R435). -/
  reen : Nat := 0
  /-- Records of the keeper buffer that are not yet copied, oldest first (R434). -/
  records : List (List Byte) := []
  /-- Sequence number of the last record (R436). -/
  seq : Nat := 0
  deriving DecidableEq, Repr, Inhabited

/-! ## Clocks, power and start-up (spec/19, spec/20, spec/21) -/

structure ClockSt where
  /-- End of the present step of the sequence of R526, and whether it is a return under R529. -/
  due : Option Nat := none
  back : Bool := false
  /-- Dividers in force: cpu, sys, ctl, per, adc, bus, and the end of the present step of a ramp (R524). -/
  div : List Nat := [2, 4, 4, 8, 10, 20]
  ramp : List (Option Nat) := List.replicate 6 none
  /-- Time of the last BOSC measurement. -/
  trimAt : Option Nat := none
  deriving DecidableEq, Repr, Inhabited

/-- A domain on its way to another state, and whether it comes from OFF. -/
structure Trans where
  dom : Nat
  to_ : Nat
  due : Nat
  off : Bool := false
  deriving DecidableEq, Repr

structure PowerSt where
  /-- Lowering requests of Team S and Team A that wait for WFI: domain and target. -/
  want : List (List (Nat × Nat)) := [[], []]
  /-- Transitions under way, and the steps of an entry that follow them (R542, R543). -/
  trans : List Trans := []
  later : List (List (Nat × Nat)) := []
  /-- Domains that re-initialise, and when each ends (R549). -/
  reinit : List (Nat × Nat) := []
  /-- The team whose entry runs, and the domains of its request: domain, target, state before. -/
  entry : Option (Nat × List (Nat × Nat × Nat)) := none
  deriving DecidableEq, Repr, Inhabited

/-- NVM programming under way (R562): code or data NVM, address, bytes, whether the bank is erased first, whether it is a
boot record. -/
structure NvmJob where
  code : Bool
  at_ : Nat
  data : List Byte
  erase : Bool := false
  record : Bool := false
  deriving DecidableEq, Repr

/-- Start-up (R552): 0 no supply or only the keeper, 1 sequencer, 2 STRAP, 3 boot ROM, 4 stage 1, 5 runtime, 6 halted. -/
structure BootSt where
  stage : Nat := 2
  /-- Start of the power sequencer or of the warm reset, and the end of the present timed step. -/
  start : Nat := 0
  due : Nat := 40000
  /-- A warm reset holds the domains. -/
  warm : Bool := false
  /-- A software reset waits for an NVM word program (R562). -/
  swWait : Bool := false
  /-- The next qualified VSUP is a power-on reset, or a wake. -/
  porNext : Bool := false
  wakeNext : Bool := false
  /-- Power-fail warning. -/
  pwfAt : Option Nat := none
  /-- NVM programming under way, the first one at work. -/
  nvmJobs : List NvmJob := []
  deriving DecidableEq, Repr, Inhabited

/-- Why a step stops with a fault. -/
inductive Fault where
  /-- Raised by a command whose operand names a unit the module does not have. Safe: no such command exists. -/
  | noSuchUnit
  deriving DecidableEq, Repr

/-- Why a step is refused. -/
inductive Refusal where
  /-- Raised by exec's arm of a command without a meaning. Safe. -/
  | notModelled (mnemonic : String)
  deriving DecidableEq, Repr

/-- The state of the module. -/
structure State where
  /-- The device timebase (R26), a 64-bit count of CLK_CTL cycles. -/
  dtb : Nat
  variant : Variant
  regs : List (Nat × Word)
  sigs : List (Nat × Sig)
  descs : List (Nat × DWord)
  sram : List Host.Cell
  nvm : List Host.Cell
  codeNvm : List Host.Cell
  /-- Counter of free values drawn (the model's own field, log 9). -/
  draws : Nat
  cores : List CorePort
  paddock : PaddockSt
  au : List AuSt
  /-- Units that have delivered since the last firing of each join (R106). -/
  joins : List (List Nat)
  tt : List (Option Nat)
  ce : List CeSt
  pg : List PgSt
  tripIn : List TripIn
  yarrow : YarrowSt
  mode : ModeSt
  /-- Pending interrupt sources of each team's router (R389). -/
  irqPend : List (List Nat)
  gate : GateSt
  mg : MgSt
  bus : List BusSt
  bridle : BridleSt
  sec : SecSt
  /-- RTC time in eighths of 2.5 ns less what DTB counts at the present cycle time: the RTC runs through every reset and every
  change of CLK_CTL. -/
  rtcBase : Int
  /-- The length of a CLK_CTL cycle that `rtcBase` counts with, in eighths of 2.5 ns. -/
  cycle : Nat
  drives : List DriveSt
  inlet : InletSt
  /-- HV and LV charge machines. -/
  charge : List ChargeSt
  supply : SupplySt
  solar : SolarSt
  chs : SupervisorSt
  lv : LvSeqSt
  keeper : KeeperSt
  /-- Shift and pump motors. -/
  motors : List MotorSt
  shift : ShiftSt
  park : ParkSt
  clutch : ClutchSt
  pump : PumpSt
  harn : List HarnSt
  thermal : ThermalSt
  clk : ClockSt
  power : PowerSt
  boot : BootSt
  /-- The commands that wait, first in first out. -/
  pending : List Instr
  deriving DecidableEq, Repr

/-- What a reset of PD2 leaves in registers beside their reset values (R559): TL0 and every TL6 level active, STO, and the
trip of every generator whose PWM_TRIPM holds TL6. -/
def martingaleStart : List (Nat × Word) :=
  [(Reg.MG_STAT, 0x80), (Reg.MG_TL6, 0xFFFFFFFF), (Reg.MG_TL6_HI, 0xFF)] ++
  (List.range 40).filterMap (fun g =>
    let m := (resetWord (Reg.PWM_TRIPM g)).toNat &&& 0x41
    if m / 64 % 2 = 1 then some (Reg.PWM_STAT g, W (6 + m * 256)) else none) ++
  [(Reg.TRP_LVL, 0x41), (Reg.TRP_LATCH, 0x41)]

/-- Gate channels after a reset of PD2: path 2 holds the drive channels off (R559). -/
def gateStart : GateSt :=
  { hv := List.replicate 12 { p2 := some false } ++ List.replicate 22 {} }

/-- Registers whose value right after reset is not the one of their table: those of Martingale, and the LV channels, which
are in RUN whenever PD4 is ON (R224). -/
def startRegs : List (Nat × Word) := martingaleStart ++ (List.range 29).map (fun m => (Reg.LCH_STAT m, 1))

/-- The module right after reset: every domain ON with its registers at their reset values, STRAP under way, Team S in the
boot ROM and Team A held (R385, R552, R559). -/
def State.reset : State where
  dtb := 0
  variant := .f
  regs := startRegs
  sigs := []
  descs := []
  sram := []
  nvm := []
  codeNvm := []
  draws := 0
  cores := List.replicate 3 {} ++ List.replicate 3 { held := true }
  paddock := {}
  au := List.replicate 16 {}
  joins := List.replicate 8 []
  tt := List.replicate 8 none
  ce := List.replicate 12 {}
  pg := List.replicate 40 {}
  tripIn := List.replicate 4 {}
  yarrow := {}
  mode := {}
  irqPend := [[], []]
  gate := gateStart
  mg := {}
  bus := List.replicate 4 {}
  bridle := {}
  sec := {}
  rtcBase := 0
  cycle := 8
  drives := [{}, {}]
  inlet := {}
  charge := [{}, {}]
  supply := {}
  solar := {}
  chs := {}
  lv := {}
  keeper := {}
  motors := [{}, {}]
  shift := {}
  park := {}
  clutch := {}
  pump := {}
  harn := [{}, {}]
  thermal := {}
  clk := {}
  power := {}
  boot := {}
  pending := []

end Sys2Proof.Machine
end

