-- ==== Sys2Proof/Machine/Ops.lean ====
section
/-! DEFINITION. Named operations over the state: registers and their fields, counters, time, Paddock words, memories,
interrupts, and the hierarchy of units (R35-R39). -/

namespace Sys2Proof.Machine

abbrev Outcome := Host.Outcome State Fault Refusal

/-- The outcome of a command that names a unit: the next state if the module has the unit. -/
def ofUnit (ok : Bool) (t : State) : Outcome := if ok then .next t else .fault .noSuchUnit

/-! ## Bit fields -/

def Word.get (w : Word) (f : Field) : Nat := (w.toNat / 2 ^ f.lo) % 2 ^ f.len

/-- The word with field `f` replaced by the low bits of `v`. -/
def Word.put (w : Word) (f : Field) (v : Nat) : Word :=
  W (w.toNat - Word.get w f * 2 ^ f.lo + (v % 2 ^ f.len) * 2 ^ f.lo)

/-- The low `n` bits of `v` as a two's complement integer. -/
def sx (n v : Nat) : Int :=
  let u := v % 2 ^ n
  if u < 2 ^ (n - 1) then (u : Int) else (u : Int) - (2 ^ n : Nat)

/-- The low `n` bits of an integer's two's complement form. -/
def ux (n : Nat) (z : Int) : Nat := (z % (2 ^ n : Nat)).toNat

def sat (lo hi z : Int) : Int := if z < lo then lo else if hi < z then hi else z

/-- Saturation to 16 bits. -/
def sat16 (z : Int) : Int := sat (-32768) 32767 z

/-- The bit `i` of a number. -/
def bit (v i : Nat) : Bool := (v / 2 ^ i) % 2 = 1

/-! ## Registers -/

/-- The stored word of the register at address `a`. -/
def State.rd (s : State) (a : Nat) : Word := sparseGet resetWord s.regs a

def State.wr (s : State) (a : Nat) (v : Word) : State := { s with regs := sparseSet resetWord s.regs a v }

/-- Field `f` of the register at `a`. -/
def State.fld (s : State) (a : Nat) (f : Field) : Nat := Word.get (s.rd a) f

def State.on (s : State) (a : Nat) (f : Field) : Bool := s.fld a f ≠ 0

/-- Field `f` as a signed number. -/
def State.sfld (s : State) (a : Nat) (f : Field) : Int := sx f.len (s.fld a f)

def State.setf (s : State) (a : Nat) (f : Field) (v : Nat) : State := s.wr a (Word.put (s.rd a) f v)

def State.setb (s : State) (a : Nat) (f : Field) (b : Bool) : State := s.setf a f (if b then 1 else 0)

/-- A counter register advances by `n`, saturating at its 32 bits. -/
def State.incBy (s : State) (a n : Nat) : State := s.wr a (W (min ((s.rd a).toNat + n) 0xFFFFFFFF))

def State.inc (s : State) (a : Nat) : State := s.incBy a 1

/-- The safety lock of R397 is applied. -/
def State.locked (s : State) : Bool := s.on Reg.MG_STAT Fld.MG_STAT_locked

/-- The bits of a write mask whose range checks fail for word `v`. -/
def blockedBits (v : Word) : List (Field × List (Nat × Nat)) → Nat
  | [] => 0
  | (f, rs) :: cs =>
    let x := Word.get v f
    (if rs.any (fun r => r.1 ≤ x && x ≤ r.2) then 0 else (2 ^ f.len - 1) * 2 ^ f.lo) ||| blockedBits v cs

/-- The word a register holds after a write of `v` by its access codes and range checks (R17, R19, R20). -/
def writeWord (r : RegRow) (locked : Bool) (old v : Word) : Word :=
  let bad := blockedBits v r.chk
  let mask := W ((r.rw ||| (if locked then 0 else r.rwl)) &&& (0xFFFFFFFF ^^^ bad))
  let w1 := (old &&& ~~~mask) ||| (v &&& mask)
  (w1 &&& ~~~(v &&& W r.w1c)) ||| (v &&& W r.w1s)

/-- A write by access codes alone. An offset no chapter defines ignores it (R54). -/
def State.wrReg (s : State) (a : Nat) (v : Word) : State :=
  match regAt a with
  | some (r, _) => s.wr a (writeWord r s.locked (s.rd a) v)
  | none => s

/-- Write only the bits of mask `m`, by access codes and range checks. -/
def State.wrMasked (s : State) (a m : Nat) (v : Word) : State :=
  match regAt a with
  | some (r, _) =>
    let k := fun x => x &&& m
    s.wr a (writeWord { r with rw := k r.rw, rwl := k r.rwl, w1c := k r.w1c, w1s := k r.w1s } s.locked (s.rd a) v)
  | none => s

def fieldMask (f : Field) : Nat := (2 ^ f.len - 1) * 2 ^ f.lo

/-- A write of every field but those of `fs`. -/
def State.wrExcept (s : State) (a : Nat) (fs : List Field) (v : Word) : State :=
  s.wrMasked a (0xFFFFFFFF ^^^ (fs.foldl (fun m f => m ||| fieldMask f) 0)) v

/-- A write of the fields of `fs` alone. -/
def State.wrOnly (s : State) (a : Nat) (fs : List Field) (v : Word) : State :=
  s.wrMasked a (fs.foldl (fun m f => m ||| fieldMask f) 0) v

/-! ## Domain states (spec/20) -/

/-- Domain states: 0 ON, 1 RETENTION, 2 OFF, 3 changing. -/
def State.domain (s : State) (d : Nat) : Nat := s.fld Reg.PWR_STAT ⟨2 * d, 2⟩
def State.domainOn (s : State) (d : Nat) : Bool := s.domain d = 0

/-! ## Time -/

/-- A time-driven event takes place at its due time, never before the present (log 2). -/
def State.reach (s : State) (t : Nat) : State := { s with dtb := max s.dtb t }

/-- 1 µs units of DTB, 24 bits: the ts of a write visible now (R57). -/
def State.us (s : State) : Nat := s.dtb / Config.usCycles % 2 ^ 24

/-- ts of a write that is visible from the next cycle (R58, R73). -/
def State.usNext (s : State) : Nat := (s.dtb + 1) / Config.usCycles % 2 ^ 24

/-- 1 ms system boundaries passed (R33). -/
def State.ms (s : State) : Nat := s.dtb / Config.msCycles

/-- The next 1 ms system boundary after the present. -/
def State.nextMs (s : State) : Nat := (s.ms + 1) * Config.msCycles

def State.dtbLow (s : State) : Word := W (s.dtb % 2 ^ 32)

/-- Divider in force of clock `i`: 0 CPU, 1 SYS, 2 CTL, 3 PER, 4 ADC, 5 BUS (R521). -/
def State.divNow (s : State) (i : Nat) : Nat := s.clk.div.getD i 1

/-- Real time that one CLK_CTL cycle takes by the clocks in force, in eighths of 2.5 ns: its divider by the scale of R526 (R523,
R527). -/
def State.ctlCycle (s : State) : Nat := s.divNow 2 * (2 + s.fld Reg.CLK_STAT Fld.CLK_STAT_scale)

/-- RTC time in eighths of 2.5 ns, and in units of 2.5 ns. -/
def State.rtcFine (s : State) : Int := s.rtcBase + s.cycle * s.dtb
def State.rtc (s : State) : Nat := (s.rtcFine / 8).toNat

/-- A change of the state that leaves the RTC as it is: a jump of DTB, another length of the CLK_CTL cycle, a reset. -/
def State.keepRtc (s : State) (f : State → State) : State :=
  let t := f s
  { t with cycle := t.ctlCycle, rtcBase := s.rtcFine - t.ctlCycle * t.dtb }

def State.setDtb (s : State) (t : Nat) : State := s.keepRtc (fun s => { s with dtb := t })

/-- Time goes on to RTC time `r`. -/
def State.reachRtc (s : State) (r : Nat) : State :=
  let c := max 1 s.cycle
  { s with dtb := max s.dtb (((8 * r : Nat) - s.rtcBase + (c - 1 : Nat)) / (c : Int)).toNat }

/-- CLK_CTL cycles of a real time given in units of 2.5 ns. -/
def State.realTime (s : State) (t : Nat) : Nat := t * 8 / max 1 s.cycle

/-! ## Ratios of the clocks (R522) -/

def State.cpuRatioOk (s : State) : Bool := [1, 2, 4].any (fun k => s.divNow 1 = k * s.divNow 0)
def State.perRatioOk (s : State) : Bool := [1, 2].any (fun k => s.divNow 3 = k * s.divNow 1)
def State.ctlRatioOk (s : State) : Bool := s.divNow 2 = s.divNow 1
def State.adcRatioOk (s : State) : Bool := 2 * s.divNow 4 = 5 * s.divNow 2

/-! ## Free values -/

/-- The next free word, and the state that has drawn it. -/
def State.drawWord (s : State) : Word × State := (Config.freeWord s.draws, { s with draws := s.draws + 1 })

/-- `n` free bytes. -/
def drawBytes : Nat → Nat → List Byte
  | _, 0 => []
  | k, n + 1 => Config.freeByte k :: drawBytes (k + 1) n

def State.drawBytes (s : State) (n : Nat) : List Byte × State :=
  (Machine.drawBytes s.draws n, { s with draws := s.draws + n })

/-! ## Memories -/

/-- Unlisted bytes of main SRAM and NVM read as 0 and 0xFF (log 5). -/
def sramByte (_ : Nat) : Byte := 0
def nvmByte (_ : Nat) : Byte := 0xFF

def State.sramGet (s : State) (a : Nat) : Byte := sparseGet sramByte s.sram a
def State.sramSet (s : State) (a : Nat) (v : Byte) : State := { s with sram := sparseSet sramByte s.sram a v }
def State.nvmGet (s : State) (a : Nat) : Byte := sparseGet nvmByte s.nvm a
def State.nvmSet (s : State) (a : Nat) (v : Byte) : State := { s with nvm := sparseSet nvmByte s.nvm a v }
def State.codeGet (s : State) (a : Nat) : Byte := sparseGet nvmByte s.codeNvm a
def State.codeSet (s : State) (a : Nat) (v : Byte) : State := { s with codeNvm := sparseSet nvmByte s.codeNvm a v }

/-- Write bytes at rising addresses given by `at`. -/
def State.sramWrite (s : State) (at_ : Nat → Nat) : Nat → List Byte → State
  | _, [] => s
  | k, b :: bs => (s.sramSet (at_ k) b).sramWrite at_ (k + 1) bs

/-- The `n` bytes of a number, least significant first. -/
def leBytes : Nat → Nat → List Byte
  | 0, _ => []
  | n + 1, v => BitVec.ofNat 8 v :: leBytes n (v / 256)

/-- The number that bytes spell, least significant first. -/
def leNat : List Byte → Nat
  | [] => 0
  | b :: bs => b.toNat + 256 * leNat bs

/-! ## Paddock words -/

def sigDefault (_ : Nat) : Sig := {}
def descDefault (_ : Nat) : DWord := 0

def State.sig (s : State) (id : Nat) : Sig := sparseGet sigDefault s.sigs id
def State.setSig (s : State) (id : Nat) (v : Sig) : State := { s with sigs := sparseSet sigDefault s.sigs id v }
def State.desc (s : State) (id : Nat) : DWord := sparseGet descDefault s.descs id
def State.setDesc (s : State) (id : Nat) (v : DWord) : State := { s with descs := sparseSet descDefault s.descs id v }

/-- A write that the Paddock performs in the present cycle: reads of this cycle see what the location held before (R73). -/
def State.putSig (s : State) (id : Nat) (v : Sig) : State :=
  let old := (id, s.sig id)
  let seen := if s.paddock.seenAt = s.dtb then s.paddock.seen else []
  { s.setSig id v with paddock := { s.paddock with
      seenAt := s.dtb, seen := if seen.any (fun x => x.1 = id) then seen else old :: seen } }

/-- What a read of the present cycle returns (R73). -/
def State.sigSeen (s : State) (id : Nat) : Sig :=
  if s.paddock.seenAt = s.dtb then ((s.paddock.seen.find? (fun x => x.1 = id)).map (·.2)).getD (s.sig id) else s.sig id

/-- Identifier of S.g.iiii (R16). -/
def sid (g i : Nat) : Nat := g * 65536 + i

/-- Value word of a signal as a number, and as a signed Q15 or S32 number. -/
def State.val (s : State) (id : Nat) : Nat := (s.sig id).value.toNat
def State.q15 (s : State) (id : Nat) : Int := sx 16 (s.val id)
def State.s32 (s : State) (id : Nat) : Int := sx 32 (s.val id)

/-- Fields of the meta word (R57). -/
def metaTs (m : Word) : Nat := m.toNat % 2 ^ 24
def metaQuality (m : Word) : Nat := (m.toNat / 2 ^ 24) % 16
def metaOvr (m : Word) : Bool := bit m.toNat 28
def metaStale (m : Word) : Bool := bit m.toNat 29
def metaSubst (m : Word) : Bool := bit m.toNat 31

/-- A meta word; every write clears STALE (R59). -/
def mkMeta (ts quality : Nat) (ovr lost subst : Bool) : Word :=
  W (ts % 2 ^ 24 + quality % 16 * 2 ^ 24 + (if ovr then 2 ^ 28 else 0) + (if lost then 2 ^ 30 else 0) +
    (if subst then 2 ^ 31 else 0))

def qInit : Nat := 0
def qValid : Nat := 1
def qReduced : Nat := 2
def qInvalid : Nat := 3

/-- Descriptor fields (R61). -/
def dField (d : DWord) (lo len : Nat) : Nat := d.toNat / 2 ^ lo % 2 ^ len
def dKind (d : DWord) : Nat := dField d 0 2
def dType (d : DWord) : Nat := dField d 2 3
def dSclass (d : DWord) : Nat := dField d 5 3
def dOclass (d : DWord) : Nat := dField d 16 4
def dOindex (d : DWord) : Nat := dField d 20 12
def dRlevel (d : DWord) : Nat := dField d 32 3
def dWlevel (d : DWord) : Nat := dField d 36 3
def dCstage (d : DWord) : Nat := dField d 40 4
def dStale (d : DWord) : Nat := dField d 44 4

/-- Descriptor bits that exist; the others are reserved (R19, R61). -/
def descMask : DWord := 0xFF00FF77FFFFFFFF

/-- Kind BUILTIN or USER. -/
def dDefined (d : DWord) : Bool := dKind d = 1 || dKind d = 2

/-- The value word as the Paddock holds it: Q15 sign-extended, BOOL 0 or 1 (R60). -/
def typedValue (d : DWord) (v : Word) : Word :=
  if dType d = 0 then Wi (sx 16 v.toNat) else if dType d = 5 then (if v = 0 then 0 else 1) else v


/-- The present word of a signal with another quality. -/
def State.putQuality (s : State) (id quality : Nat) : State :=
  let g := s.sig id
  s.setSig id { g with mword := mkMeta (metaTs g.mword) quality (metaOvr g.mword) false (metaSubst g.mword) }

/-- A signal that carries a usable value. -/
def State.valid (s : State) (id : Nat) : Bool :=
  let m := (s.sig id).mword
  (metaQuality m = qValid || metaQuality m = qReduced) && !metaStale m

/-! ## Lists of like units -/

def State.auAt (s : State) (u : Nat) : AuSt := s.au.getD u {}
def State.modAu (s : State) (u : Nat) (f : AuSt → AuSt) : State := { s with au := s.au.modify u f }
def State.ceAt (s : State) (e : Nat) : CeSt := s.ce.getD e {}
def State.modCe (s : State) (e : Nat) (f : CeSt → CeSt) : State := { s with ce := s.ce.modify e f }
def State.lawAt (s : State) (e l : Nat) : LawSt := (s.ceAt e).laws.getD l {}
def State.modLaw (s : State) (e l : Nat) (f : LawSt → LawSt) : State :=
  s.modCe e (fun c => { c with laws := c.laws.modify l f })
def State.pgAt (s : State) (g : Nat) : PgSt := s.pg.getD g {}
def State.modPg (s : State) (g : Nat) (f : PgSt → PgSt) : State := { s with pg := s.pg.modify g f }
def State.coreAt (s : State) (c : Nat) : CorePort := s.cores.getD c {}
def State.modCore (s : State) (c : Nat) (f : CorePort → CorePort) : State := { s with cores := s.cores.modify c f }

/-! ## The Paddock write path -/

/-- The capture of a law that register entry `r` enables on signal `id`: engine, slot, capture. A register that is not
listed has its reset value, which enables none. -/
def captureOf (id : Nat) (r : Nat × Word) : Option (Nat × Nat × Nat) :=
  let o := r.1 % 0x10000
  if 0x70300000 ≤ r.1 && r.1 < 0x703C0000 && 0x100 ≤ o && o < 0x500 && 0xA0 ≤ o % 0x100 && o % 0x100 < 0xC0 &&
      Word.get r.2 Fld.LAW_CAP_en = 1 && Word.get r.2 Fld.LAW_CAP_sig = id then
    some ((r.1 - 0x70300000) / 0x10000, o / 0x100 - 1, (o % 0x100 - 0xA0) / 4)
  else none

/-- The gate channel whose current bin register entry `r` takes from signal `id`. -/
def binOf (id : Nat) (r : Nat × Word) : Option Nat :=
  if Reg.GCH_IBIN0 0 ≤ r.1 && r.1 ≤ Reg.GCH_IBIN0 33 && (r.1 - Reg.GCH_IBIN0 0) % 0x80 = 0 &&
      Word.get r.2 Fld.GCH_IBIN0_en = 1 && Word.get r.2 Fld.GCH_IBIN0_sig = id then
    some ((r.1 - Reg.GCH_IBIN0 0) / 0x80)
  else none

/-- A capture of a law latches a write. In the cycle of an accepted trigger the write belongs to that trigger, even when it
is performed after it: it is part of the snapshot, the history and its freshness (R161, R167, R179). -/
def State.latchCapture (s : State) (e l k : Nat) (c : Capture) : State :=
  s.modLaw e l (fun w =>
    if w.trig = some s.dtb then { w with
      caps := w.caps.set k { c with fresh := false }, snap := w.snap.set k c
      hist := w.hist.modify k (fun h => (c.v, h.2)) }
    else { w with caps := w.caps.set k c })

/-- A performed write of a signal is latched by every enabled capture of a law (R136) and by every gate channel that takes
its current bin from it (R236). -/
def State.latchWrite (s : State) (id : Nat) (v : Word) (quality : Nat) (ovr : Bool) : State :=
  let c : Capture := { v := BitVec.ofNat 16 v.toNat, q := quality, ovr := ovr, fresh := true }
  let s := (s.regs.filterMap (captureOf id)).foldl (fun (s : State) x => s.latchCapture x.1 x.2.1 x.2.2 c) s
  (s.regs.filterMap (binOf id)).foldl
    (fun (s : State) n => { s with gate := { s.gate with hv := s.gate.hv.modify n (fun h => { h with cap := c }) } }) s

/-- A write to `id` reaches its location: PD6 is ON and the descriptor is set (R53, R67, R69). -/
def State.writable (s : State) (id : Nat) : Bool := s.domainOn 6 && dDefined (s.desc id)

/-- A write of a machine of the module to a signal that the built-in table gives it (R60, R63, R67). -/
def State.putVal (s : State) (id : Nat) (v : Word) (quality : Nat := 1) (subst : Bool := false) : State :=
  if s.writable id then
    let v := typedValue (s.desc id) v
    (s.putSig id { value := v, mword := mkMeta s.usNext quality false false subst }).latchWrite id v quality false
  else s

/-- A write of a commit, which every reader sees from its boundary on (R32). -/
def State.putNow (s : State) (id : Nat) (v : Word) : State :=
  if s.writable id then
    let v := typedValue (s.desc id) v
    let s := s.setSig id { value := v, mword := mkMeta s.us qValid false false false }
    let s : State := { s with paddock := { s.paddock with seen := s.paddock.seen.filter (fun x => x.1 ≠ id) } }
    s.latchWrite id v qValid false
  else s

def State.putNat (s : State) (id v : Nat) : State := s.putVal id (W v)
def State.putInt (s : State) (id : Nat) (z : Int) : State := s.putVal id (Wi z)

/-- An access fault raised in core `c` (R53). -/
def State.accessFault (s : State) (c : Nat) : State := s.modCore c (fun k => { k with faults := k.faults + 1 })

/-- The word a core's read returned. -/
def State.returns (s : State) (c : Nat) (v : Word) : State := s.modCore c (fun k => { k with read := BitVec.ofNat 64 v.toNat })

/-- The team of core `c`: 0 Team S, 1 Team A. -/
def teamOf (c : Nat) : Nat := c / 3

/-- Run `f` over the numbers `k`, `k + 1`, …, `k + n - 1`. -/
def overFrom (f : State → Nat → State) (s : State) (k : Nat) : Nat → State
  | 0 => s
  | n + 1 => overFrom f (f s k) (k + 1) n

def State.forN (s : State) (n : Nat) (f : State → Nat → State) : State := overFrom f s 0 n

def State.each {α : Type} (s : State) (l : List α) (f : State → α → State) : State := l.foldl f s

/-! ## Hierarchy (R35-R37) -/

/-- Stage of a generator. -/
def stageOfGen (g : Nat) : Option Nat :=
  if g < 3 then some 0 else if g < 6 then some 1 else if g < 10 then some 4 else if g < 14 then some 5
  else if g < 16 then some 6 else if g = 16 then some 2 else if g = 17 then some 3 else if g < 22 then some 7
  else if g = 22 then some 6 else if g = 23 then some 8 else if g < 27 then some 9 else if g < 30 then some 10
  else if g < 32 then some 11 else if g = 32 then some 12 else if g = 33 then some 13 else none

/-- Bridge of a generator. -/
def bridgeOfGen (g : Nat) : Option Nat :=
  if g < 3 then some 0 else if g < 6 then some 1 else if g < 10 then some 2 else if g < 12 then some 3
  else if g < 14 then some 4 else if g < 16 then some 5 else if g = 16 then some 7 else if g = 17 then some 8
  else if g < 22 then some 9 else if g = 22 then some 6 else if g = 23 then some 10 else if g < 27 then some 11
  else if g < 30 then some 12 else if g < 32 then some 13 else if g = 32 then some 14 else none

/-- Plane of a stage: 0 Drive, 1 Charge, 2 Auxiliary. -/
def planeOfStage (st : Nat) : Nat :=
  if st < 4 then 0 else if st = 4 ∨ st = 5 ∨ st = 13 then 1 else 2

/-- Stage of a bridge. -/
def stageOfBridge (b : Nat) : Nat :=
  [0, 1, 4, 5, 5, 6, 6, 2, 3, 7, 8, 9, 10, 11, 12].getD b 0

/-- Generator of an HV channel G00-G33 (R219). -/
def genOfHv (n : Nat) : Nat := if n < 32 then n / 2 else n - 16

/-- Generator of an LV channel L00-L28 (R219). -/
def genOfLv (m : Nat) : Nat :=
  if m < 8 then 18 + m / 2 else if m < 10 then 22 else if m < 12 then 23 else if m < 28 then 24 + (m - 12) / 2 else 32

/-- The channel is the high one of its generator. -/
def hvIsHigh (n : Nat) : Bool := 32 ≤ n || n % 2 = 0
def lvIsHigh (m : Nat) : Bool := m % 2 = 0

/-- HV channels of a generator. -/
def hvOfGen (g : Nat) : List Nat := (List.range 34).filter (fun n => genOfHv n = g)

/-- Generators of a stage, in order; the first is the lead generator (R24). -/
def gensOfStage (st : Nat) : List Nat := (List.range 40).filter (fun g => stageOfGen g = some st)
def gensOfBridge (b : Nat) : List Nat := (List.range 40).filter (fun g => bridgeOfGen g = some b)
def gensOfPlane (p : Nat) : List Nat := (List.range 40).filter (fun g => (stageOfGen g).any (fun st => planeOfStage st = p))
def leadGen (st : Nat) : Nat := (gensOfStage st).headD 0

/-- Converter units of a stage (R36). -/
def unitsOfStage (st : Nat) : List Nat :=
  [[0, 1, 2, 3], [4, 5, 6, 7], [11], [11], [8, 9, 10, 11], [11], [12], [12], [12], [13], [13], [13], [13], [14]].getD st []

/-- Levels of a scope code (R35). -/
def lvChannel : Nat := 1
def lvLeg : Nat := 2
def lvBridge : Nat := 3
def lvStage : Nat := 4
def lvPlane : Nat := 5
def lvModule : Nat := 6
def lvNetwork : Nat := 7

def scopeOf (level index : Nat) : Nat := level * 8192 + index
def scopeLevel (sc : Nat) : Nat := sc / 8192 % 8
def scopeIndex (sc : Nat) : Nat := sc % 8192

/-- A scope code whose level and index the tables define. -/
def scopeValid (sc : Nat) : Bool :=
  let i := scopeIndex sc
  match scopeLevel sc with
  | 1 => i < 34 || (64 ≤ i && i ≤ 92)
  | 2 => i < 33
  | 3 => i < 15
  | 4 => i < 14
  | 5 => i < 3
  | 6 => i = 0
  | 7 => i = 0
  | _ => false

/-- Generator of the channel, leg: the parent leg of a Channel or Leg scope. -/
def scopeLeg (sc : Nat) : Nat :=
  if scopeLevel sc = 1 then (if scopeIndex sc < 64 then genOfHv (scopeIndex sc) else genOfLv (scopeIndex sc - 64))
  else scopeIndex sc

/-- The stage a scope lies in, if it is of Stage level or below. -/
def scopeStage (sc : Nat) : Option Nat :=
  match scopeLevel sc with
  | 1 => stageOfGen (scopeLeg sc)
  | 2 => stageOfGen (scopeLeg sc)
  | 3 => some (stageOfBridge (scopeIndex sc))
  | 4 => some (scopeIndex sc)
  | _ => none

/-- Every generator under a scope. -/
def scopeGens (sc : Nat) : List Nat :=
  match scopeLevel sc with
  | 1 => [scopeLeg sc]
  | 2 => [scopeLeg sc]
  | 3 => gensOfBridge (scopeIndex sc)
  | 4 => gensOfStage (scopeIndex sc)
  | 5 => gensOfPlane (scopeIndex sc)
  | 6 => List.range 40
  | 7 => List.range 40
  | _ => []

/-- The ancestor of a scope at level `lv`, or the scope itself when it is already as high. -/
def scopeAt (sc lv : Nat) : Nat :=
  if lv ≤ scopeLevel sc then sc
  else match lv with
  | 2 => scopeOf 2 (scopeLeg sc)
  | 3 => if scopeLevel sc ≤ 2 then scopeOf 3 ((bridgeOfGen (scopeLeg sc)).getD 0) else sc
  | 4 => (scopeStage sc).elim sc (scopeOf 4 ·)
  | 5 => (scopeStage sc).elim sc (fun st => scopeOf 5 (planeOfStage st))
  | 6 => scopeOf 6 0
  | 7 => scopeOf 7 0
  | _ => sc

/-- The unit of scope `b` lies under scope `a`, or is `a` itself. -/
def scopeUnder (a b : Nat) : Bool := scopeLevel b ≤ scopeLevel a && scopeAt b (scopeLevel a) = a

/-! ## Power domains (spec/20) -/

/-- RTC counts of 32,768 Hz. -/
def State.rtcCount (s : State) : Nat := s.rtc * 32 / 390625

/-- The state of a domain. When PD0 leaves ON the keeper stores DTB and the RTC count (R28, R547). -/
def State.setDomain (s : State) (d v : Nat) : State :=
  let s : State := if d = 0 && v ≠ 0 && s.domainOn 0 then
      { s with keeper := { s.keeper with dtbKept := s.dtb, rtcKept := s.rtcCount } } else s
  s.setf Reg.PWR_STAT ⟨2 * d, 2⟩ v

/-- DTB with which PD0 returns to ON: the stored value plus the elapsed RTC time, rounded up to a 1 ms system boundary
(R28, R547). -/
def State.dtbResumed (s : State) : Nat :=
  let k := s.keeper
  let cycles := k.dtbKept * 32 + (s.rtcCount - k.rtcKept) * 390625
  (cycles + 32 * Config.msCycles - 1) / (32 * Config.msCycles) * Config.msCycles

/-- DTB is set to 0 (R27), and the latches of DTB_HI with it (R34). -/
def State.dtbZero (s : State) : State := { s.setDtb 0 with cores := s.cores.map (fun c => { c with dtbHi := 0 }) }
def State.modPower (s : State) (f : PowerSt → PowerSt) : State := { s with power := f s.power }

/-- The state a domain is in or is changing to. -/
def State.domainNow (s : State) (d : Nat) : Nat :=
  match s.power.trans.find? (fun t => t.dom = d) with
  | some t => t.to_
  | none => if s.domain d = 3 then 0 else s.domain d

/-- Time of a transition `a` to `b` in units of 2.5 ns (R542 table). -/
def transTime (a b : Nat) : Nat :=
  match a, b with
  | 0, 1 => 3200
  | 1, 0 => 8000
  | 0, 2 => 4000
  | 1, 2 => 800
  | 2, 0 => 80000
  | _, _ => 0

/-- Time of the re-initialisation after OFF to ON (R549 table). -/
def reinitTime (d : Nat) : Nat :=
  match d with
  | 1 => 131200
  | 2 => 1600
  | 4 => 600000
  | 5 => 32800
  | _ => 0

/-- PWR_REQ reads the requests pending, or the states in force (R539); busy while a request is pending or an entry runs. -/
def State.powerMirror (s : State) : State :=
  let wants := s.power.want.flatten
  let s := s.forN 8 (fun s d =>
    s.setf Reg.PWR_REQ ⟨2 * d, 2⟩ (match wants.find? (fun w => w.1 = d) with
      | some w => w.2
      | none => match s.power.later.flatten.find? (fun w => w.1 = d) with
        | some w => w.2
        | none => s.domainNow d))
  s.setb Reg.PWR_STAT Fld.PWR_STAT_busy (!wants.isEmpty || s.power.entry.isSome)

/-- A domain starts on its way to `b`. -/
def State.startTrans (s : State) (d b due : Nat) (off : Bool) : State :=
  s.modPower (fun p => { p with trans := p.trans.filter (fun t => t.dom ≠ d) ++ [{ dom := d, to_ := b, due := due, off := off }] })

/-- Domains `ds` of one step are raised from time `t0`; the time at which the last of them is ON. -/
def State.raiseStep (s : State) (ds : List Nat) (t0 : Nat) : State × Nat :=
  ds.foldl (fun (p : State × Nat) d =>
    let a := p.1.domainNow d
    let due := t0 + s.realTime (transTime a 0)
    (p.1.startTrans d 0 due (a = 2), max p.2 (due + s.realTime (if a = 2 then reinitTime d else 0)))) (s, t0)

/-- Raise of domains in the order of R543: PD0, PD1, then the others together. Those of the first step change now; an entry
that lowers one of them goes on without it. -/
def State.raise (s : State) (ds : List Nat) : State :=
  let ds := ds.filter (fun d => s.domainNow d ≠ 0)
  let left := fun (l : List (Nat × Nat × Nat)) => l.filter (fun r => !ds.contains r.1)
  let s := s.modPower (fun p => { p with
    entry := (p.entry.map (fun e => (e.1, left e.2))).filter (fun e => !e.2.isEmpty)
    later := (p.later.map (fun l => l.filter (fun r => !ds.contains r.1))).filter (fun l => !l.isEmpty) })
  let steps := [ds.filter (· = 0), ds.filter (· = 1), ds.filter (1 < ·)].filter (fun l => !l.isEmpty)
  let s := s.each (steps.headD []) (fun s d => s.setDomain d 3)
  (steps.foldl (fun (p : State × Nat) l => p.1.raiseStep l p.2) (s, s.dtb)).1.powerMirror

/-- Cores of a team leave WFI. -/
def State.leaveWfi (s : State) (t : Nat) : State := s.forN 3 (fun s n => s.modCore (3 * t + n) (fun c => { c with wfi := false }))

/-- A wake event in PARKED asks the mode machine for STANDBY (R44, log 43). -/
def State.modeWake (s : State) : State :=
  if s.val (sid 0 0x10) = 0 && s.val (sid 0 0x12) = 0 then
    { s.putNat (sid 0 0x11) 1 with mode := { s.mode with recheck := some s.nextMs } }
  else s

/-- PWR_REFUSE_ID and PWR_EVT of a refusal (1), an abort (2) or a wake (3); the last two record a wake event. -/
def State.powerRecord (s : State) (unit dom kind : Nat) : State :=
  let s := (s.wr Reg.PWR_REFUSE_ID (W (unit + dom * 2 ^ 16 + kind * 2 ^ 20))).wr Reg.PWR_EVT s.dtbLow
  if kind = 1 then s else s.modeWake

/-- A wake aborts the entry of team `t` (R545). -/
def State.abortEntry (s : State) (unit t : Nat) (req : List (Nat × Nat × Nat)) : State :=
  let back := (req.filter (fun r => r.2.2 = 0 && s.domain r.1 ≠ 0)).map (·.1)
  let s := s.modPower (fun p => { p with entry := none, later := [] })
  let s := s.each back (fun s d => if s.power.trans.all (fun x => x.dom ≠ d) then s.setDomain d 0 else s)
  let s := s.raise back
  let s := s.each req (fun s r => s.inc (Reg.PWR_CNT_ABT r.1))
  let s := (s.setf Reg.PWR_STAT Fld.PWR_STAT_res 2).powerRecord unit ((req.map (·.1)).foldl min 7) 2
  let s := if back.any (· < 2) then s else s.leaveWfi t
  s.powerMirror

/-- A wake by `unit` for a team's domain (R545, R546): it aborts an entry, which raises the domain too where the entry does not
lower it (log 118); else it raises PD0, and PD1 for Team A. PD0 returns from OFF by the boot flow only. -/
def State.wakeTeam (s : State) (unit t : Nat) : State :=
  match s.power.entry with
  | some (et, req) =>
    if req.any (fun r => r.1 = t) then s.abortEntry unit et req
    else if s.domainNow t ≠ 0 then (s.abortEntry unit et req).raise [t]
    else s
  | none =>
    let ds := ([0] ++ (if t = 1 then [1] else [])).filter (fun d => s.domainNow d ≠ 0)
    if ds.isEmpty || s.domainNow 0 = 2 then s
    else (s.raise ds).powerRecord unit (ds.headD 0) 3

/-- A transfer that is dropped, passed or duplicated: a free choice (R522, log 117). -/
def State.freeTimes (s : State) (f : State → State) : State :=
  let (w, s) := s.drawWord
  match w.toNat % 3 with
  | 0 => s
  | 1 => f s
  | _ => f (f s)

/-- A transfer through the bridge between the cores and the interconnect, which a ratio of CLK_CPU to CLK_SYS outside its limit
may drop or duplicate (R522). -/
def State.overBridge (s : State) (f : State → State) : State := if s.cpuRatioOk then f s else s.freeTimes f

/-- A core's access to a block: an access fault unless the block answers (R53, R531). -/
def State.access (s : State) (core : Nat) (answers : Bool) (f : State → State) : State :=
  if answers then s.overBridge f else s.accessFault core

/-- A core's access to a block of domain `d`: an access fault where the domain is not ON (R53). -/
def State.byCore (s : State) (core d : Nat) (f : State → State) : State := s.access core (s.domainOn d) f

/-- A team executes: the boot flow has reached the runtime, its domain is ON and it is not held (R385, R552). -/
def State.teamRuns (s : State) (t : Nat) : Bool :=
  s.boot.stage = 5 && s.domainOn t && s.fld (Reg.HARN_STAT t) Fld.HARN_STAT_live ≠ 0

/-- A step of a machine that runs on team `t`: a team that does not execute makes none. -/
def State.onTeam (s : State) (t : Nat) (u : State) : State := if s.teamRuns t then u else s

/-! ## Interrupts -/

/-- Cores, numbered in their team, that run together with core `n` of team `t`. -/
def State.groupOf (s : State) (t n : Nat) : List Nat :=
  match s.fld (Reg.HARN_STAT t) Fld.HARN_STAT_mode with
  | 1 => [0, 1, 2]
  | 2 => if n < 2 then [0, 1] else [2]
  | 3 => [n]
  | _ => []

/-- Source `src` is routed to core `n` of team `t` with a priority (R389). -/
def State.irqRouted (s : State) (t src : Nat) : Option (Nat × Nat) :=
  let a := Reg.IRQ_CFG t src
  let prio := s.fld a Fld.IRQ_CFG_prio
  if prio = 0 || s.fld a Fld.IRQ_CFG_team ≠ t then none else some (s.fld a Fld.IRQ_CFG_core, prio)

/-- A pending source `src` is deliverable to team `t`. -/
def State.irqDeliverable (s : State) (t src : Nat) : Bool :=
  (s.irqPend.getD t []).contains src &&
    (s.irqRouted t src).any (fun r =>
      s.fld (Reg.IRQ_THR t r.1) Fld.IRQ_THR_thr < r.2 &&
        (s.groupOf t r.1).any (fun n => !(s.coreAt (3 * t + n)).held))

/-- Unit of an interrupt source, as a waker (R546); 0 for a block without a unit identifier. -/
def unitOfSource (src : Nat) : Nat :=
  if src < 12 then 0 else if src < 16 then 0x7A else if src < 56 then 0x30 + (src - 16) else if src < 68 then 0x20 + (src - 56)
  else if src < 84 then 0x60 + (src - 68) else if src < 88 then 0x70 + (src - 84) else if src < 92 then 0x78
  else if src = 96 then 0x7C else if src = 99 then 0x79 else if src = 103 then 0x7B else 0

/-- Delivery of source `src` to team `t`: the cores leave WFI, and a lowered domain wakes. -/
def State.irqDeliver (s : State) (t src unit : Nat) : State :=
  if !s.irqDeliverable t src then s
  else
    let lowering := s.power.entry.any (fun e => e.2.any (fun r => r.1 = t))
    if !s.domainOn t || lowering then s.wakeTeam unit t
    else match s.irqRouted t src with
      | some r => s.each (s.groupOf t r.1) (fun s n => s.modCore (3 * t + n) (fun c => { c with wfi := false }))
      | none => s

/-- A source becomes pending in both routers (R389). -/
def State.irqBy (s : State) (src unit : Nat) : State :=
  let s : State := { s with irqPend := s.irqPend.map (fun (l : List Nat) => if l.contains src then l else l ++ [src]) }
  (s.irqDeliver 0 src unit).irqDeliver 1 src unit

def State.irq (s : State) (src : Nat) : State := s.irqBy src (unitOfSource src)

/-! ## Fault reports -/

/-- A block sends a fault report to Martingale, which receives it in a step of its own (log 14). -/
def State.report (s : State) (cls scope : Nat) (rx : Nat := 0) : State :=
  { s with mg := { s.mg with reports := s.mg.reports ++ [{ cls := cls, scope := scope, rx := rx }] } }

/-- A condition that holds a reaction begins or ends (R415). -/
def State.sourceOn (s : State) (cls scope : Nat) : State :=
  let x : Source := { cls := cls, scope := scope }
  if s.mg.sources.contains x then s else { s with mg := { s.mg with sources := s.mg.sources ++ [x] } }

def State.sourceOff (s : State) (cls scope : Nat) : State :=
  { s with mg := { s.mg with sources := s.mg.sources.erase { cls := cls, scope := scope } } }

end Sys2Proof.Machine
end

