-- ==== Sys2Proof/Machine/CanterIsa.lean ====
section
/-! DEFINITION. The Canter instruction set: encodings (R123, R126), what each word reads and writes, the issue rule
(R124), and the arithmetic of the instructions (R113-R116, R121, R122, R126, R605, R132). -/

namespace Sys2Proof.Machine

/-! ## Encodings -/

/-- Operand fields at their places (R126). -/
def fD : Field := ⟨20, 6⟩
def fX : Field := ⟨14, 6⟩
def fY : Field := ⟨8, 6⟩
def fZ : Field := ⟨2, 6⟩
def fImm : Field := ⟨0, 16⟩
def fA : Field := ⟨24, 2⟩
def fAx : Field := ⟨18, 6⟩
def fAy : Field := ⟨12, 6⟩
def fC : Field := ⟨0, 12⟩
def fB : Field := ⟨22, 2⟩
def fS6 : Field := ⟨0, 6⟩
def fSa : Field := ⟨0, 2⟩
def fCond : Field := ⟨22, 4⟩
def fR : Field := ⟨16, 6⟩
def fN : Field := ⟨0, 8⟩
def fT : Field := ⟨0, 4⟩
def fSig : Field := ⟨0, 20⟩
def fK : Field := ⟨0, 3⟩
def fU : Field := ⟨20, 4⟩
def fE : Field := ⟨16, 4⟩
def fKo : Field := ⟨23, 3⟩
def fAo : Field := ⟨20, 2⟩
def fBb : Field := ⟨25, 1⟩
def fKb : Field := ⟨20, 3⟩

/-- The word of an instruction: opcode in bits [31:26] and its operand fields. -/
def canWord (op : Nat) (fs : List (Field × Nat)) : Word :=
  W (op * 2 ^ 26 + fs.foldl (fun acc f => acc + f.2 % 2 ^ f.1.len * 2 ^ f.1.lo) 0)

/-- Operand fields of each opcode the table lists. -/
def canFields (op : Nat) : Option (List Field) :=
  match op with
  | 0x00 => some []
  | 0x01 => some []
  | 0x02 => some [fCond, fR, fN]
  | 0x03 => some [fX, fY]
  | 0x04 => some [fX]
  | 0x08 => some [fD, fImm]
  | 0x09 => some [fD, fX]
  | 0x0A => some [fD, fX, fY]
  | 0x0B => some [fD, fX, fY]
  | 0x0C => some [fD, fX]
  | 0x0D => some [fD, fX]
  | 0x0E => some [fD, fX, fY]
  | 0x0F => some [fD, fX, fY]
  | 0x10 => some [fD, fX, fY, fZ]
  | 0x11 => some [fD, fX, fY]
  | 0x12 => some [fD, fX, fY]
  | 0x14 => some [fA, fAx, fAy]
  | 0x15 => some [fA, fAx, fAy]
  | 0x16 => some [fA, fAx, fAy]
  | 0x17 => some [fA, fAx, fC]
  | 0x18 => some [fA, fAx, fC]
  | 0x19 => some [fA, fAx, fAy]
  | 0x1A => some [fA, fAx, fAy]
  | 0x1B => some [fA, fAx]
  | 0x1C => some [fA, fB]
  | 0x1D => some [fA, fB]
  | 0x1E => some [fA, fS6]
  | 0x1F => some [fD, fSa]
  | 0x20 => some [fD, fX]
  | 0x21 => some [fD, fX, fY, fZ]
  | 0x22 => some [fD, fX, fY, fZ]
  | 0x23 => some [fD, fX, fY]
  | 0x24 => some [fD, fX, fY]
  | 0x25 => some [fD, fX, fY]
  | 0x26 => some [fD, fX]
  | 0x28 => some [fD, fX, fT]
  | 0x29 => some [fD, fX, fY, fT]
  | 0x2A => some [fD, fC]
  | 0x2C => some [fD, fSig]
  | 0x2D => some [fD, fSig]
  | 0x2E => some [fD, fK]
  | 0x2F => some [fD, fK]
  | 0x30 => some [fU, fE]
  | 0x31 => some [fD, fX, fY, fZ]
  | 0x34 => some [fKo, fX]
  | 0x35 => some [fKo, fAo]
  | 0x38 => some [fD, fK]
  | 0x39 => some [fBb, fKb, fY, fZ]
  | 0x3A => some []
  | 0x3B => some [fD, fX, fY, fK]
  | _ => none

def canOp (w : Word) : Nat := w.toNat / 2 ^ 26

/-- The word has a listed opcode and 0 in every operand bit the table does not name (R123). -/
def canLegal (w : Word) : Bool :=
  match canFields (canOp w) with
  | none => false
  | some fs => w = canWord (canOp w) (fs.map (fun f => (f, Word.get w f)))

/-- What an instruction reads, writes and holds, for the issue rule and the static check. -/
structure CanUse where
  /-- Data registers whose readiness the issue waits for. -/
  src : List Nat := []
  /-- Data registers written. -/
  dst : List Nat := []
  /-- Data registers named beside these, for the range check (R139). -/
  also : List Nat := []
  asrc : List Nat := []
  adst : List Nat := []
  readsFlags : Bool := false
  writesFlags : Bool := false
  lat : Nat := 1
  div : Bool := false
  /-- Places of the Paddock port it takes, and whether it takes them for reads. -/
  places : Nat := 0

/-- What instruction word `w` reads, writes and holds (R124, R126). MAC, MSU, MACC, DMAC and DOT do not wait for their
accumulator; ADDA, SUBA, SHA, ST and OUTC do; PRD and CORR do not wait for the register of a REG predictor (DEDUCED, log
103). -/
def canUse (w : Word) : CanUse :=
  let d := Word.get w fD
  let x := Word.get w fX
  let y := Word.get w fY
  let z := Word.get w fZ
  let a := Word.get w fA
  let ax := Word.get w fAx
  let ay := Word.get w fAy
  match canOp w with
  | 0x02 => let c := Word.get w fCond
            { src := if c = 7 then [Word.get w fR] else [], also := if c = 8 then [Word.get w fR] else []
              readsFlags := 1 ≤ c && c ≤ 6 }
  | 0x03 => { src := [x, y], writesFlags := true }
  | 0x04 => { src := [x], writesFlags := true }
  | 0x08 => { dst := [d] }
  | 0x09 => { src := [x], dst := [d] }
  | 0x0A => { src := [x, y], dst := [d] }
  | 0x0B => { src := [x, y], dst := [d] }
  | 0x0C => { src := [x], dst := [d] }
  | 0x0D => { src := [x], dst := [d] }
  | 0x0E => { src := [x, y], dst := [d] }
  | 0x0F => { src := [x, y], dst := [d] }
  | 0x10 => { src := [x, y, z], dst := [d] }
  | 0x11 => { src := [x], dst := [d] }
  | 0x12 => { src := [x, y], dst := [d] }
  | 0x14 => { src := [ax, ay], adst := [a], lat := 2 }
  | 0x15 => { src := [ax, ay], adst := [a], lat := 2 }
  | 0x16 => { src := [ax, ay], adst := [a], lat := 2 }
  | 0x17 => { src := [ax], adst := [a], lat := 3 }
  | 0x18 => { src := [ax], adst := [a], lat := 3 }
  | 0x19 => { src := [ax, ay, ax + 1, ay + 1], adst := [a, a + 1], lat := 2 }
  | 0x1A => { src := [ax, ay, ax + 1, ay + 1], adst := [a], lat := 2 }
  | 0x1B => { src := [ax], adst := [a] }
  | 0x1C => { asrc := [a, Word.get w fB], adst := [a] }
  | 0x1D => { asrc := [a, Word.get w fB], adst := [a] }
  | 0x1E => { asrc := [a], adst := [a] }
  | 0x1F => { asrc := [Word.get w fSa], dst := [d] }
  | 0x20 => { src := [x], dst := [d, d + 1], lat := 8 }
  | 0x21 => { src := [x, y, z], dst := [d, d + 1], lat := 8 }
  | 0x22 => { src := [x, y, z], dst := [d, d + 1], lat := 8 }
  | 0x23 => { src := [x, y], dst := [d, d + 1], lat := 2 }
  | 0x24 => { src := [x, y], dst := [d, d + 1, d + 2], lat := 4 }
  | 0x25 => { src := [x, y], dst := [d], lat := 12, div := true }
  | 0x26 => { src := [x], dst := [d], lat := 12, div := true }
  | 0x28 => { src := [x], dst := [d], lat := 4 }
  | 0x29 => { src := [x, y], dst := [d, d + 1], lat := 42, places := 4 }
  | 0x2A => { dst := [d], lat := 2 }
  | 0x2C => { dst := [d], lat := 36, places := 1 }
  | 0x2D => { src := [d], places := 1 }
  | 0x2E => { dst := [d] }
  | 0x2F => { dst := [d] }
  | 0x31 => { src := [x, y, d, d + 1], dst := [d, d + 1], also := [z], lat := 2 }
  | 0x34 => { src := [x] }
  | 0x35 => { asrc := [Word.get w fAo] }
  | 0x38 => { dst := [d] }
  | 0x39 => { src := [y, z] }
  | 0x3B => { src := [x, y], dst := [d], lat := 3 }
  | _ => {}

/-! ## Issue rule -/

/-- The accesses that still hold a place in cycle `t`. -/
def portHeld (p : List (Option Nat)) (t : Nat) : Nat := (p.filter (fun c => c.all (fun e => t < e))).length

/-- The first cycle from `t` with `need` free places of the port, if known. -/
def portCycle (p : List (Option Nat)) (need : Nat) : Nat → Nat → Option Nat
  | _, 0 => none
  | t, n + 1 => if portHeld p t + need ≤ 8 then some t else portCycle p need (t + 1) n

def maxReady : List (Option Nat) → Nat → Option Nat
  | [], t => some t
  | none :: _, _ => none
  | some r :: rs, t => maxReady rs (max r t)

/-- The cycle in which an instruction issues (R124); none while a source waits for the Paddock. -/
def issueCycle (c : Sched) (u : CanUse) : Option Nat :=
  (maxReady (u.src.map (fun k => c.rdyD.getD k (some 0))) (c.last + 1)).bind fun t0 =>
    let t1 := (u.asrc.map (fun k => c.rdyA.getD k 0)).foldl max t0
    let t2 := if u.readsFlags then max t1 c.rdyF else t1
    let t3 := if u.div then max t2 c.divFree else t2
    if u.places = 0 then some t3 else portCycle c.port u.places t3 128

/-- Issue state after an instruction issued in cycle `t`, with its results ready after its latency. -/
def afterIssue (c : Sched) (u : CanUse) (t : Nat) : Sched :=
  { c with
    last := t
    rdyD := u.dst.foldl (fun l k => l.set k (some (t + u.lat))) c.rdyD
    rdyA := u.adst.foldl (fun l k => l.set k (t + u.lat)) c.rdyA
    rdyF := if u.writesFlags then t + u.lat else c.rdyF
    divFree := if u.div then t + 12 else c.divFree
    port := c.port.filter (fun p => p.all (fun e => t < e)) }

/-- Issue state of the static check: Paddock accesses complete at the worst case of R77, 35 cycles after their request
cycles. -/
def afterWorst (c : Sched) (u : CanUse) (t : Nat) : Sched :=
  let c' := afterIssue c u t
  { c' with port := c'.port ++ (List.range u.places).map (fun k => some (t + 36 + k)) }

/-! ## Arithmetic -/

/-- floor((z + 2^(n-1)) / 2^n), the rounding of R115. -/
def rnd (n : Nat) (z : Int) : Int := (z + 2 ^ (n - 1)) / 2 ^ n

def isqrtBits (n : Nat) : Nat → Nat → Nat
  | 0, r => r
  | b + 1, r => let r' := r + 2 ^ b; isqrtBits n b (if r' * r' ≤ n then r' else r)

/-- floor of the square root of a number below 2^80. -/
def isqrt (n : Nat) : Nat := isqrtBits n 40 0

/-- π × 2^64, rounded. -/
def pi64 : Int := 57952155664616982739

/-- Taylor sum of the cosine at `x2` = x^2 in 2^64 units, from term `k`. -/
def cosSum (x2 : Int) : Nat → Int → Int → Int
  | 0, _, acc => acc
  | n + 1, term, acc =>
    let k : Int := 13 - (n + 1 : Nat)
    let t := -(term * x2 / 2 ^ 64) / ((2 * k - 1) * (2 * k))
    cosSum x2 n t (acc + t)

/-- round(32,768 cos(π t / 32,768)) for 0 ≤ t ≤ 16,384, not limited. -/
def cosQuarter (t : Int) : Int :=
  let x := pi64 * t / 32768
  rnd 49 (cosSum (x * x / 2 ^ 64) 12 (2 ^ 64) (2 ^ 64))

/-- round(32,768 cos(π θ / 32,768)) for any θ. -/
def cosRaw (th : Int) : Int :=
  let u := sx 16 (ux 16 th)
  let t := if u < 0 then -u else u
  if t ≤ 16384 then cosQuarter t else -cosQuarter (32768 - t)

/-- Cosine and sine of R605, limited to 0x7FFF. -/
def cosQ (th : Int) : Int := min 32767 (cosRaw th)
def sinQ (th : Int) : Int := cosQ (th - 16384)

/-- floor(z × √3) for an integer z. -/
def floorSqrt3 (z : Int) : Int :=
  if 0 ≤ z then (isqrt (3 * (z * z)).toNat : Int) else if z = 0 then 0 else -(isqrt (3 * (z * z)).toNat : Int) - 1

/-- round(v / √3); no tie occurs. -/
def divSqrt3 (v : Int) : Int :=
  let m := ((isqrt (4 * (v * v) / 3).toNat : Int) + 1) / 2
  if 0 ≤ v then m else -m

/-- a + b √3 ≤ c + d √3. -/
def leSqrt3 (a b c d : Int) : Bool := floorSqrt3 (b - d) < c - a || (b = d && a ≤ c)

/-- The three duties of SVM: 0.5 + v_k + m from exact reals, in units of 1/4 as a + b √3, rounded once and limited. -/
def svmDuty (x y : Int) (k : Nat) : Int × Bool :=
  let ph : List (Int × Int) := [(4 * x, 0), (-2 * x, 2 * y), (-2 * x, -2 * y)]
  let mx := ph.foldl (fun p q => if leSqrt3 p.1 p.2 q.1 q.2 then q else p) (ph.headD (0, 0))
  let mn := ph.foldl (fun p q => if leSqrt3 q.1 q.2 p.1 p.2 then q else p) (ph.headD (0, 0))
  let v := ph.getD k (0, 0)
  -- in units of 1/8: 2 v - (max + min) + 8 × 16,384
  let a := 2 * v.1 - (mx.1 + mn.1) + 8 * 16384
  let b := 2 * v.2 - (mx.2 + mn.2)
  let r := (a + 4 + floorSqrt3 b) / 8
  (sat 0 0x7FFF r, sat 0 0x7FFF r ≠ r)

/-- x / y in Q15, rounded once (R605); the tag says whether it saturated. -/
def divQ (x y : Int) : Int × Bool :=
  if y = 0 then (if 0 ≤ x then 0x7FFF else -32768, true)
  else
    let (n, d) := if y < 0 then (-x, -y) else (x, y)
    let q := (2 * n * 32768 + d) / (2 * d)
    (sat16 q, sat16 q ≠ q)

/-- √x in Q15, rounded once. -/
def sqrtQ (x : Int) : Int × Bool :=
  if x < 0 then (0, true)
  else
    let q : Int := ((isqrt (4 * (x * 32768)).toNat : Int) + 1) / 2
    (sat16 q, sat16 q ≠ q)

/-- x × 2^s (R605). -/
def shfQ (x s : Int) : Int × Bool :=
  let z := if 0 ≤ s then x * 2 ^ s.toNat else rnd (-s).toNat x
  (sat16 z, sat16 z ≠ z)

/-- Rotation of R605: x cos θ ± y sin θ and the like, rounded once. -/
def rot (p q : Int) : Int × Bool := let z := rnd 15 (p + q); (sat16 z, sat16 z ≠ z)

/-- Segment and fraction of a table index with 2^n points (R121). -/
def tableIdx (x : Int) (n : Nat) : Nat × Int :=
  let u := if x < 0 then 0 else x.toNat
  (u / 2 ^ (15 - n), ((u % 2 ^ (15 - n)) * 2 ^ n : Nat))

/-- Linear interpolation of R121. -/
def lerp (a b f : Int) : Int := rnd 15 (a * 32768 + f * (b - a))

/-- Bilinear interpolation of R122, rounded once. -/
def bilerp (t00 t10 t01 t11 fx fy : Int) : Int :=
  rnd 30 ((t00 * (32768 - fx) + t10 * fx) * (32768 - fy) + (t01 * (32768 - fx) + t11 * fx) * fy)

/-- Compare word of a duty for period value `p` (R132). -/
def dutyWord (x : Int) (p : Nat) : Word :=
  if x ≤ 0 then 0
  else if x = 0x7FFF then 0x3FFFFF
  else
    let q := rnd 15 (x * p * 64)
    if 64 * (p : Int) ≤ q then 0x3FFFFF else W q.toNat

/-- Saturation to the 40 bits of an accumulator (R114). -/
def satAcc (z : Int) : Int × Bool :=
  let v := sat (-(2 ^ 39)) (2 ^ 39 - 1) z
  (v, v ≠ z)

end Sys2Proof.Machine
end

