-- ==== Sys2Proof/Machine/LawOps.lean ====
section
/-! DEFINITION. Canter engines: frames, windows, triggers, misses, rein-back and the release of a law, shared by every
event that touches a law (spec/04, spec/05). -/

namespace Sys2Proof.Machine

/-- The field of one bit. -/
def bitF (i : Nat) : Field := ⟨i, 1⟩

def State.lawOn (s : State) (e l : Nat) : Bool := s.on (Reg.LAW_CTRL e l) Fld.LAW_CTRL_en
def State.lawBusy (s : State) (e l : Nat) : Bool := s.on (Reg.LAW_CTRL e l) Fld.LAW_CTRL_busy
/-- The law has a lookahead section (R151). -/
def State.lawAhead (s : State) (e l : Nat) : Bool := s.on (Reg.LAW_LAH e l) Fld.LAW_LAH_len
def State.lawL (s : State) (e l : Nat) : Nat := s.fld (Reg.LAW_TIME e l) Fld.LAW_TIME_L
def State.lawOpen (s : State) (e l : Nat) : Nat := s.fld (Reg.LAW_WOPEN e l) Fld.LAW_WOPEN_wopen
def State.lawDue (s : State) (e l : Nat) : Nat := s.fld (Reg.LAW_WDUE e l) Fld.LAW_WDUE_wdue

/-- Register k lies in the law's range (R118). -/
def State.inRange (s : State) (e l k : Nat) : Bool :=
  let b := s.fld (Reg.LAW_DREG e l) Fld.LAW_DREG_dbase
  let n := s.fld (Reg.LAW_DREG e l) Fld.LAW_DREG_dcnt
  b ≤ k && k < b + (if n = 0 then 64 else n)

/-- Output k of a law: its generator and compare, if mapped. -/
def State.omap (s : State) (e l k : Nat) : Option (Nat × Nat) :=
  let a := Reg.LAW_OMAP e l k
  if s.on a Fld.LAW_OMAP_en then some (s.fld a Fld.LAW_OMAP_gen, s.fld a Fld.LAW_OMAP_cmp) else none

/-- Generators a law names. -/
def State.lawGens (s : State) (e l : Nat) : List Nat := (List.range 8).filterMap (fun k => (s.omap e l k).map (·.1))

/-- TL6 level of generator g (R211). -/
def State.tl6 (s : State) (g : Nat) : Bool :=
  if g < 32 then bit (s.rd Reg.MG_TL6).toNat g else bit (s.rd Reg.MG_TL6_HI).toNat (g - 32)

/-- Active lines as generator g sees them: TL6 is a level of its own for each generator. -/
def State.linesFor (s : State) (g : Nat) : Nat :=
  let v := (s.rd Reg.TRP_LVL).toNat % 4096
  v - v / 64 % 2 * 64 + (if s.tl6 g then 64 else 0)

/-- A line named in LAW_TRIPM is active; TL6 counts when it is active for a generator the law names (log 12). -/
def State.lawTripped (s : State) (e l : Nat) : Bool :=
  let m := s.fld (Reg.LAW_TRIPM e l) Fld.LAW_TRIPM_tl
  let v := (s.rd Reg.TRP_LVL).toNat % 4096
  (m &&& (v - v / 64 % 2 * 64)) ≠ 0 || (bit m 6 && (s.lawGens e l).any s.tl6)

/-- The window of the law in its present frame: first and last cycle. -/
def State.window (s : State) (e l : Nat) : Option (Nat × Nat) :=
  (s.lawAt e l).frame.map (fun f => (f + s.lawOpen e l, f + s.lawDue e l + s.lawL e l))

def State.windowOpen (s : State) (e l t : Nat) : Bool := (s.window e l).any (fun w => w.1 ≤ t && t ≤ w.2)

def setAt (l : List (Option Word)) (k : Nat) (w : Word) : List (Option Word) := l.set k (some w)

def noOutputs : List (Option Word) := List.replicate 8 none

/-- Each output of `a`, or that of `b` where `a` has none. -/
def orElseOuts (a b : List (Option Word)) : List (Option Word) :=
  (List.range 8).map (fun k => match a.getD k none with | some w => some w | none => b.getD k none)

/-! ## Data registers -/

def CeSt.file (c : CeSt) (l : Nat) : BankSel → Bank
  | .committed => c.bank
  | .a => (c.laws.getD l {}).bankA
  | .b => (c.laws.getD l {}).bankB
  | .both => (c.laws.getD l {}).bankA

def Bank.write (b : Bank) (k : Nat) (v : Half) (t : Bool) : Bank := { d := b.d.set k v, tag := b.tag.set k t }

def CeSt.modFile (c : CeSt) (l : Nat) (sel : BankSel) (f : Bank → Bank) : CeSt :=
  match sel with
  | .committed => { c with bank := f c.bank }
  | .a => { c with laws := c.laws.modify l (fun w => { w with bankA := f w.bankA }) }
  | .b => { c with laws := c.laws.modify l (fun w => { w with bankB := f w.bankB }) }
  | .both => { c with laws := c.laws.modify l (fun w => { w with bankA := f w.bankA, bankB := f w.bankB }) }

/-- Data register k as a law's section reads it. -/
def State.dGet (s : State) (e l : Nat) (sel : BankSel) (k : Nat) : Int := (((s.ceAt e).file l sel).d.getD k 0).toInt
def State.dTag (s : State) (e l : Nat) (sel : BankSel) (k : Nat) : Bool := ((s.ceAt e).file l sel).tag.getD k false

/-- A register write with its saturation tag; a tag that is set sets LAW_STAT.sat (R116). -/
def State.dSet (s : State) (e l : Nat) (sel : BankSel) (k : Nat) (v : Int) (tag : Bool := false) : State :=
  let s := s.modCe e (fun c => c.modFile l sel (fun b => b.write k (BitVec.ofInt 16 v) tag))
  if tag then (s.setb (Reg.LAW_STAT e l) Fld.LAW_STAT_sat true).modLaw e l (fun w => { w with anyTag := true }) else s

/-- Coefficient c of an engine: halfword c of the coefficient memory. -/
def State.coef (s : State) (e c : Nat) : Int := sx 16 ((s.rd (Reg.COEF_MEM e (c / 2))).toNat / 2 ^ (16 * (c % 2)))

/-! ## End of sections, rein-back, misses -/

/-- The section of a law stops; CE_STATUS and LAW_RSTAT follow. -/
def State.endSection (s : State) (e l : Nat) : State :=
  ((((s.modLaw e l (fun w => { w with sec := none })).setf (Reg.CE_STATUS e) (bitF l) 0).setf (Reg.CE_STATUS e) (bitF (4 + l)) 0).setf
    (Reg.LAW_RSTAT e l) Fld.LAW_RSTAT_lah_run 0)

/-- Rein-back (R176, R177): banks, bounds, fallback set, staged outputs, held writes and the lookahead are discarded. -/
def State.reinBack (s : State) (e l : Nat) : State :=
  (s.modLaw e l (fun w => { w with bankA := {}, bankB := {}, bounds := [], fbSet := noOutputs, staged := noOutputs, held := [], pred := List.replicate 8 0 })).setf
    (Reg.LAW_RSTAT e l) Fld.LAW_RSTAT_lah_valid 0

def State.setLast (s : State) (e l code : Nat) : State := s.setf (Reg.LAW_RSTAT e l) Fld.LAW_RSTAT_last code

/-- The fallback of a miss (R145, R175): HOLD writes the outputs of the last complete execution again, CLAMP the fallback
set of the consumed lookahead, with HOLD for the outputs it does not stage. -/
def State.fallback (s : State) (e l : Nat) (hold : Bool) : List (Option Word) :=
  let w := s.lawAt e l
  if hold || s.fld (Reg.LAW_CTRL e l) Fld.LAW_CTRL_fb = 0 || !s.lawAhead e l then w.lastOut else orElseOuts w.fbSet w.lastOut

/-- A miss (R145, R174): counted and recorded with its cause; the fallback is due at `t` plus L unless a trip line holds
it back (R146); a law with a lookahead then reins back. -/
def State.miss (s : State) (e l cause t : Nat) (hold : Bool) : State :=
  let outs := s.fallback e l hold
  let due := if s.lawTripped e l then none else some (t + s.lawL e l, outs)
  let sat := (s.lawAt e l).anyTag
  let s := s.endSection e l
  let s := s.modLaw e l (fun w => { w with used := true, prevMissed := true, fbDue := due, staged := noOutputs, anyTag := false })
  let s := if sat then s.inc (Reg.LAW_CNT_SAT e l) else s
  let s := ((s.inc (Reg.LAW_CNT_MISS e l)).setf (Reg.LAW_STAT e l) Fld.LAW_STAT_miss 1).setLast e l cause
  if s.lawAhead e l then s.reinBack e l else s

/-- Outputs that the law has written in the present cycle are taken back: the trip wins (R179). -/
def State.undoOutputs (s : State) (e l : Nat) : State :=
  if (s.lawAt e l).wroteAt = some s.dtb then
    s.forN 8 (fun s k =>
      match s.omap e l k with
      | none => s
      | some (g, b) =>
        match (s.pgAt g).late.getD b none with
        | none => s
        | some (t, v) => if t = s.dtb then s.wr (if b = 0 then Reg.PWM_CMPA g else Reg.PWM_CMPB g) v else s)
  else s

/-- A trip line of LAW_TRIPM becomes active (R146, R157, R177-R179): a running section ends, nothing is written, and a law
with a lookahead reins back. A trip in an open window, or one that ends a section, is recorded; an execution that a trip ends
has not missed. -/
def State.lawTripStop (s : State) (e l : Nat) : State :=
  let w := s.lawAt e l
  let s := s.undoOutputs e l
  let s := if s.windowOpen e l s.dtb then s.setf (Reg.LAW_STAT e l) Fld.LAW_STAT_trip 1 else s
  let s := if s.windowOpen e l s.dtb || w.sec.isSome then s.setLast e l 8 else s
  let s := s.modLaw e l (fun w => { w with outDue := none, fbDue := none, staged := noOutputs })
  let s := if w.sec.any (fun c => !c.look) then s.modLaw e l (fun w => { w with prevMissed := false }) else s
  let s := if w.sec.isSome then s.endSection e l else s
  if s.lawAhead e l then s.reinBack e l else s

/-- Generators named by an enabled law show PWM_STAT.lawown (R135). -/
def State.setOwned (s : State) (e l : Nat) (b : Bool) : State :=
  s.each (s.lawGens e l) (fun s g => s.setb (Reg.PWM_STAT g) Fld.PWM_STAT_lawown b)

/-- Some enabled law names the generator (R199). -/
def State.lawOwned (s : State) (g : Nat) : Bool := s.on (Reg.PWM_STAT g) Fld.PWM_STAT_lawown

/-- The registers of a law that a complete execution writes (R140, R173). -/
def endRegs (e l : Nat) : List Nat :=
  [Reg.LAW_CNT_HITA e l, Reg.LAW_CNT_HITB e l, Reg.LAW_CNT_RUN e l, Reg.LAW_CNT_SAT e l, Reg.LAW_STAT e l]

/-- An END of the present cycle is undone: the disable wins (R179). The law's registers, tags, last outputs and counters are
as before it, and its held writes are not posted. -/
def State.undoEnd (s : State) (e l : Nat) : State :=
  match (s.lawAt e l).undo with
  | none => s
  | some u =>
    if u.at_ ≠ s.dtb then s
    else
      let s := s.modCe e (fun c => { c with
        bank := {
          d := (List.range 64).map (fun k => if s.inRange e l k then u.bank.d.getD k 0 else c.bank.d.getD k 0)
          tag := (List.range 64).map (fun k => if s.inRange e l k then u.bank.tag.getD k false else c.bank.tag.getD k false) }
        prevTag := (List.range 64).map (fun k => if s.inRange e l k then u.prevTag.getD k false else c.prevTag.getD k false) })
      let s := s.modLaw e l (fun w => { w with lastOut := u.lastOut, prevMissed := u.prevMissed })
      let posted := fun (a : PendAccess) => s.lawAhead e l && (match a.kind with
        | .lawWrite e' l' .. => e' = e && l' = l && s.dtb < a.req
        | _ => false)
      let gone := (s.paddock.waiting.filter posted).length
      let s : State := { s with paddock := { s.paddock with waiting := s.paddock.waiting.filter (fun a => !posted a) } }
      let s := s.modCe e (fun c => { c with port := c.port.take (c.port.length - gone) })
      s.each ((endRegs e l).zip u.words) (fun s w => s.wr w.1 w.2)

/-- A law is disabled (R147): its section ends, nothing staged is written, its generators are released, and it reins
back. -/
def State.lawDisable (s : State) (e l : Nat) : State :=
  let s := if s.lawOn e l then (s.undoEnd e l).setOwned e l false else s
  if s.lawOn e l || s.lawBusy e l then
    let s := s.endSection e l
    let s := s.modLaw e l (fun w => { w with frame := none, used := false, outDue := none, fbDue := none, staged := noOutputs, lookDone := false })
    let s := (s.setf (Reg.LAW_CTRL e l) Fld.LAW_CTRL_en 0).setf (Reg.LAW_CTRL e l) Fld.LAW_CTRL_busy 0
    (s.setLast e l 9).reinBack e l
  else s

/-- All four laws of an engine are disabled. -/
def State.engineStop (s : State) (e : Nat) : State := s.forN 4 (fun s l => s.lawDisable e l)

/-! ## Frames -/

/-- An engine is enabled: its frames count from here (R129, R150). -/
def State.engineStart (s : State) (e : Nat) : State :=
  if s.on (Reg.CE_CTRL e) Fld.CE_CTRL_en then s
  else ((s.setf (Reg.CE_CTRL e) Fld.CE_CTRL_en 1).wr (Reg.CE_FCNT e) 0).modCe e (fun c => { c with frame := none })

/-- The law runs in the frame of number `f` (R130). -/
def State.runsIn (s : State) (e l f : Nat) : Bool :=
  let a := Reg.LAW_CTRL e l
  f % (s.fld a Fld.LAW_CTRL_dec + 1) = s.fld a Fld.LAW_CTRL_phase

/-- A lookahead of the law runs, or its END issued in the present cycle (R177, R179). -/
def State.lookingAhead (s : State) (e l : Nat) : Bool :=
  (s.lawAt e l).sec.any (·.look) || (s.lawAt e l).aheadEnd = some s.dtb

/-- A window or a lookahead of the law is open at a frame start (R148, R177). -/
def State.overruns (s : State) (e l : Nat) : Bool := s.lawOn e l && (s.windowOpen e l s.dtb || s.lookingAhead e l)

/-- At a frame start a running lookahead reins back (R177), and the law gets the new frame's window if it runs in it. -/
def State.lawFrame (s : State) (e f l : Nat) : State :=
  if s.lawOn e l then
    let s := if s.lookingAhead e l then
        let s := if (s.lawAt e l).sec.any (·.look) then s.endSection e l else s
        s.reinBack e l
      else s
    s.modLaw e l (fun w => { w with frame := if s.runsIn e l f then some s.dtb else none, used := false, lookDone := false })
  else s

/-- The engine has a frame (R129). -/
def State.hasFrame (s : State) (e : Nat) : Bool :=
  let i := s.fld (Reg.CE_CTRL e) Fld.CE_CTRL_fidx
  match s.fld (Reg.CE_CTRL e) Fld.CE_CTRL_fkind with
  | 1 => s.fld (Reg.PWM_CTRL i) Fld.PWM_CTRL_mode ≠ 2
  | 2 => s.rd (Reg.TT_PER i) ≠ 0
  | _ => false

/-- A frame of the engine starts (R129): the frame number counts from 0 at the first frame since the enable (log 13). -/
def State.frameStart (s : State) (e : Nat) : State :=
  if s.on (Reg.CE_CTRL e) Fld.CE_CTRL_en && s.hasFrame e then
    let f := (s.rd (Reg.CE_FCNT e)).toNat
    let late := (List.range 4).any (fun l => s.overruns e l)
    let s := if late then (s.inc (Reg.CE_CNT_FRAME e)).setf (Reg.CE_STATUS e) Fld.CE_STATUS_frame_err 1 else s
    let s := s.forN 4 (fun s l => s.lawFrame e f l)
    (s.wr (Reg.CE_FCNT e) (W (f + 1))).modCe e (fun c => { c with frame := some s.dtb })
  else s

/-- Frame start of every engine whose frame is of kind `kind` and index `idx`: 1 generator, 2 timer. -/
def State.frames (s : State) (kind idx : Nat) : State :=
  s.forN 12 (fun s e =>
    if s.fld (Reg.CE_CTRL e) Fld.CE_CTRL_fkind = kind && s.fld (Reg.CE_CTRL e) Fld.CE_CTRL_fidx = idx then s.frameStart e else s)

/-! ## Triggers -/

/-- A section starts: accumulators and flags cleared (R117), first issue two cycles after `t` (R128, R152). -/
def State.startSection (s : State) (e l : Nat) (look : Bool) (pc t : Nat) (sel : BankSel) : State :=
  let s := s.modCe e (fun c => { c with acc := List.replicate 4 0, n := false, z := false })
  let s := s.modLaw e l (fun w => { w with
    sec := some { look := look, pc := pc, t := t, sched := { last := t + 1 }, sel := sel }, anyTag := false
    staged := if look then w.staged else noOutputs, held := [] })
  if look then (s.setf (Reg.CE_STATUS e) (bitF (4 + l)) 1).setf (Reg.LAW_RSTAT e l) Fld.LAW_RSTAT_lah_run 1
  else s.setf (Reg.CE_STATUS e) (bitF l) 1

/-- An accepted trigger: snapshot of the captures (R167) and predictor history (R159). -/
def State.acceptTrigger (s : State) (e l : Nat) : State :=
  s.modLaw e l (fun w => { w with
    used := true, trig := some s.dtb, snap := w.caps
    hist := (List.range 8).map (fun k => ((w.caps.getD k {}).v, (w.hist.getD k (0, 0)).1))
    caps := w.caps.map (fun c => { c with fresh := false }) })

/-- A trigger reaches an enabled law (R131, R146, R166, R174). -/
def State.lawTrigger (s : State) (e l : Nat) : State :=
  if s.lawOn e l then
    let w := s.lawAt e l
    let t := s.dtb
    let inTime := w.frame.any (fun f => f + s.lawOpen e l ≤ t && t ≤ f + s.lawDue e l) && !w.used
    if s.lawTripped e l && s.windowOpen e l t then
      (s.modLaw e l (fun w => { w with used := w.used || inTime })).setf (Reg.LAW_STAT e l) Fld.LAW_STAT_trip 1
    else if !inTime then s.inc (Reg.LAW_CNT_STRAY e l)
    else
      let s := s.acceptTrigger e l
      let entry := s.fld (Reg.LAW_CODE e l) Fld.LAW_CODE_entry
      if s.lawAhead e l then
        if s.on (Reg.LAW_RSTAT e l) Fld.LAW_RSTAT_lah_valid then
          (s.setf (Reg.LAW_RSTAT e l) Fld.LAW_RSTAT_lah_valid 0).startSection e l false entry t .committed
        else (s.miss e l 7 t true).inc (Reg.LAW_CNT_VOID e l)
      else s.startSection e l false entry t .committed
  else s

/-- A trigger source fires: kind 1 converter slot, 2 join, 3 timer. -/
def State.lawSource (s : State) (kind idx : Nat) : State :=
  s.forN 12 (fun s e => s.forN 4 (fun s l =>
    let a := Reg.LAW_CTRL e l
    if s.fld a Fld.LAW_CTRL_tkind = kind && s.fld a Fld.LAW_CTRL_tidx = idx then s.lawTrigger e l else s))

/-- The law's mask holds line `n`; TL6 when it concerns one of the generators `gs`. -/
def State.lawHasLine (s : State) (e l n : Nat) (gs : List Nat) : Bool :=
  bit (s.fld (Reg.LAW_TRIPM e l) Fld.LAW_TRIPM_tl) n && (n ≠ 6 || (s.lawGens e l).any (fun g => gs.contains g))

/-- Laws whose trip mask holds a line that has just become active (R146, R157). -/
def State.lawsOnLine (s : State) (n : Nat) (gs : List Nat) : State :=
  s.forN 12 (fun s e => s.forN 4 (fun s l => if s.lawOn e l && s.lawHasLine e l n gs then s.lawTripStop e l else s))

end Sys2Proof.Machine
end

