-- ==== Sys2Proof/Machine/GenOps.lean ====
section
/-! DEFINITION. Pulse generators and trip lines: switch commands, safe patterns, trips and the stop of a generator, shared
by every event that acts on a generator (spec/06). -/

namespace Sys2Proof.Machine

/-- Dead time and minimum pulse in taps (R188, R190). -/
def State.dt (s : State) (g : Nat) : Nat := (s.rd (Reg.PWM_DT g)).toNat % 65536
def State.minp (s : State) (g : Nat) : Nat := (s.rd (Reg.PWM_MINP g)).toNat % 65536
/-- CLK_CTL cycles per count (R180). -/
def State.presc (s : State) (g : Nat) : Nat := 2 ^ s.fld (Reg.PWM_CTRL g) Fld.PWM_CTRL_pre
def State.gmode (s : State) (g : Nat) : Nat := s.fld (Reg.PWM_CTRL g) Fld.PWM_CTRL_mode
def State.single (s : State) (g : Nat) : Bool := s.on (Reg.PWM_CTRL g) Fld.PWM_CTRL_single
def State.running (s : State) (g : Nat) : Bool := s.on (Reg.PWM_STAT g) Fld.PWM_STAT_run
def State.tripFlag (s : State) (g : Nat) : Bool := s.on (Reg.PWM_STAT g) Fld.PWM_STAT_trip
def State.tstate (s : State) (g : Nat) : Nat := s.fld (Reg.PWM_STAT g) Fld.PWM_STAT_tstate
def State.pat (s : State) (g : Nat) : Nat := s.fld (Reg.PWM_SAFE g) Fld.PWM_SAFE_pat
/-- The commands hold the safe pattern: tripped, or cleared and waiting for the period start (R215, R217). -/
def State.safeHeld (s : State) (g : Nat) : Bool := s.tripFlag g || s.tstate g = 3
/-- The two drives run as one machine (R288). -/
def State.coupled (s : State) : Bool := s.val (sid 3 0x40) = 1

/-- Lines that trip a generator: its PWM_TRIPM; TL1 and TL2 together for the six generators of a coupled machine (R288). -/
def State.tripMask (s : State) (g : Nat) : Nat :=
  let m := s.fld (Reg.PWM_TRIPM g) Fld.PWM_TRIPM_tl
  if g < 6 && m / 2 % 4 ≠ 0 && s.coupled then m ||| 6 else m

/-- Lines of its mask that are active. -/
def State.tripLines (s : State) (g : Nat) : Nat := s.linesFor g &&& s.tripMask g
/-- Running and not tripped. -/
def State.active (s : State) (g : Nat) : Bool := s.running g && !s.tripFlag g

/-- Present time in taps. -/
def State.taps (s : State) : Nat := s.dtb * 64

/-! ## Commands -/

/-- Tap of the delay line for the fine part of time `t` under a mapping of `n` taps per cycle: round(f × n / 64) (R208). -/
def tapOf (n t : Nat) : Nat := (2 * (t % 64) * n + 64) / 128

/-- The high and the low command of a generator change at time `t` and go out on the link of their channel, where there is
one (R219, R225). -/
def PgSt.sendHi (p : PgSt) (g t : Nat) (on : Bool) : PgSt :=
  { p with hi := on, hiTap := tapOf p.mapN t, pendHi := none, hiLink := if g < 33 then p.hiLink ++ [(t / 64, on)] else [] }
def PgSt.sendLo (p : PgSt) (g t : Nat) (on : Bool) : PgSt :=
  { p with lo := on, loTap := tapOf p.mapN t, pendLo := none
           loLink := if g < 32 && g ≠ 16 && g ≠ 17 then p.loLink ++ [(t / 64, on)] else [] }

def State.hiOff (s : State) (g t : Nat) : State :=
  s.modPg g (fun p => if p.hi then { p.sendHi g t false with offHi := t } else { p with pendHi := none })
def State.loOff (s : State) (g t : Nat) : State :=
  s.modPg g (fun p => if p.lo then { p.sendLo g t false with offLo := t } else { p with pendLo := none })
def State.hiOn (s : State) (g t : Nat) : State :=
  s.modPg g (fun p => if p.hi then p else { p.sendHi g t true with onAt := t })
def State.loOn (s : State) (g t : Nat) : State :=
  s.modPg g (fun p => if p.lo then p else { p.sendLo g t true with onAt := t })

/-- Both switches off in this cycle. -/
def State.bothOff (s : State) (g : Nat) : State :=
  ((s.hiOff g s.taps).loOff g s.taps).modPg g (fun p => { p with stretch := none })

/-- The safe pattern acts at time `t` (R214): turn-offs at once, pending turn-ons cancelled, turn-ons once DT has passed since
the complement's last turn-off. -/
def State.applyPattern (s : State) (g t : Nat) : State :=
  let s := s.modPg g (fun p => { p with pendHi := none, pendLo := none, stretch := none })
  match s.pat g with
  | 1 => let s := s.hiOff g t
         if s.single g || (s.pgAt g).lo then s
         else s.modPg g (fun p => { p with pendLo := some (max t (p.offHi + s.dt g)) })
  | 2 => let s := s.loOff g t
         if (s.pgAt g).hi then s
         else if s.single g then s.hiOn g t
         else s.modPg g (fun p => { p with pendHi := some (max t (p.offLo + s.dt g)) })
  | _ => (s.hiOff g t).loOff g t

/-- A forced discharge ends; a trip of PG17 or a fault of G33 ends it (R258). -/
def State.dischargeEnd (s : State) : State :=
  { s.setf Reg.DSC_STAT Fld.DSC_STAT_active 0 with gate := { s.gate with dscStart := none } }

/-- A generator trips at time `t` on the active lines of its mask (R213); a trip that is set already only reads active
again. -/
def State.genTripAt (s : State) (g t : Nat) : State :=
  let a := Reg.PWM_STAT g
  if s.tripFlag g then s.setf a Fld.PWM_STAT_tstate 2
  else
    let s := ((s.setf a Fld.PWM_STAT_trip 1).setf a Fld.PWM_STAT_tstate 2).setf a Fld.PWM_STAT_tsrc (s.tripLines g)
    let s := ((s.inc (Reg.PWM_CNT_TRIP g)).applyPattern g t).irq (16 + g)
    if g = 17 then s.dischargeEnd else s

/-- A generator trips in the present cycle. -/
def State.genTrip (s : State) (g : Nat) : State := s.genTripAt g s.taps

/-- Generators whose mask holds line `n` among `gs` trip, `d` cycles from now. -/
def State.tripGens (s : State) (n : Nat) (gs : List Nat) (d : Nat := 0) : State :=
  s.each gs (fun s g => if bit (s.tripMask g) n then s.genTripAt g (s.taps + 64 * d) else s)

/-- Line `n` becomes active for the generators `gs` (R213); TL6 is a level per generator, every other line one level. -/
def State.lineUp (s : State) (n : Nat) (gs : List Nat) (d : Nat := 0) : State :=
  let s := (s.setf Reg.TRP_LVL (bitF n) 1).setf Reg.TRP_LATCH (bitF n) 1
  let s := ((s.inc (Reg.TRP_CNT n)).wr (Reg.TRP_TIME n) s.dtbLow).irq n
  (s.tripGens n gs d).lawsOnLine n gs

/-- A line that is not TL6 becomes active; nothing happens if it is active already. -/
def State.lineActive (s : State) (n : Nat) : State :=
  if bit (s.rd Reg.TRP_LVL).toNat n then s else s.lineUp n (List.range 40)

/-- A tripped generator with no active line of its mask reads TRIPPED. -/
def State.refreshTstate (s : State) (g : Nat) : State :=
  if s.tripFlag g then s.setf (Reg.PWM_STAT g) Fld.PWM_STAT_tstate (if s.tripLines g = 0 then 1 else 2) else s

/-- A line that is not TL6 becomes inactive. -/
def State.lineInactive (s : State) (n : Nat) : State :=
  (s.setf Reg.TRP_LVL (bitF n) 0).forN 40 (fun s g => s.refreshTstate g)

/-- PWM_CNTR of a running generator: its counter and direction (R180). In COT mode the counter counts from each start. -/
def State.counterWord (s : State) (g : Nat) : Word :=
  let p := s.pgAt g
  let n := p.per * s.presc g
  if s.gmode g = 2 then W (min 0xFFFF (s.dtb - p.cotLast))
  else if s.gmode g = 1 then
    let k := (s.dtb + 2 * n - p.next) % max 1 (2 * n) / s.presc g
    if k < p.per then W k else W (2 * p.per - k + 0x10000)
  else W ((s.dtb + n - p.next) % max 1 n / s.presc g)

/-- The excitation that is locked to a generator loses its lock when the generator stops (R265). -/
def State.resolverFree (s : State) (g : Nat) : State :=
  s.forN 2 (fun s d => if s.fld (Reg.RES_CTRL d) Fld.RES_CTRL_gen = g then s.setf (Reg.RES_STAT d) Fld.RES_STAT_lock 0 else s)

/-- A write of en = 0 (R204): ignored while tripped with a safe pattern other than OFF; otherwise counter and events stop
and both switches turn off, and RESUMING becomes NONE (R217). -/
def State.genStop (s : State) (g : Nat) : State :=
  if s.tripFlag g && s.pat g ≠ 0 then s
  else
    let a := Reg.PWM_STAT g
    let res := s.tstate g = 3
    let count := if s.running g then s.counterWord g else s.rd (Reg.PWM_CNTR g)
    let s := ((s.setf (Reg.PWM_CTRL g) Fld.PWM_CTRL_en 0).setf a Fld.PWM_STAT_run 0).setf a Fld.PWM_STAT_wait 0
    let s := if res then s.setf a Fld.PWM_STAT_tstate 0 else s
    let s := s.wr (Reg.PWM_CNTR g) count
    ((s.bothOff g).modPg g (fun p => { p with r := false, cotFall := none, cotHeld := false })).resolverFree g

/-- Martingale writes the safe pattern of a generator (R216); a change during a trip acts under R214. -/
def State.setPat (s : State) (g v : Nat) : State :=
  if s.pat g = v then s
  else
    let s := s.setf (Reg.PWM_SAFE g) Fld.PWM_SAFE_pat v
    if s.safeHeld g then s.applyPattern g s.taps else s

end Sys2Proof.Machine
end

