-- ==== Sys2Proof/Machine/GateOps.lean ====
section
/-! DEFINITION. Gate-drive channels: what commands a channel, how an edge begins, and the second switch-off path of STO,
shared by every event that acts on a channel (spec/07, R409). -/

namespace Sys2Proof.Machine

/-! ## Modes and stages -/

/-- Signals of the mode machine (R41). -/
def sigMode : Nat := sid 0 0x10
def sigTarget : Nat := sid 0 0x11
def sigPhase : Nat := sid 0 0x12
def sigReason : Nat := sid 0 0x13

def State.modeNow (s : State) : Nat := s.val sigMode

/-- Stages each mode allows (R42). -/
def modeStages (m : Nat) : List Nat :=
  match m with
  | 0 => [6, 7, 8]
  | 1 => [6, 7, 9, 10, 11, 12]
  | 2 => [0, 1, 2, 3, 6, 7, 9, 10, 11, 12]
  | 3 => [4, 5, 6, 7, 10, 13]
  | 4 => [4, 5, 6, 7, 13]
  | 5 => List.range 14
  | _ => []

/-- The mode allows the generator's stage; a generator of no stage is allowed in every mode (R219). -/
def modeAllows (m g : Nat) : Bool := (stageOfGen g).all (fun st => (modeStages m).contains st)

/-! ## Channel registers -/

def State.hvAt (s : State) (n : Nat) : HvSt := s.gate.hv.getD n {}
def State.modGate (s : State) (f : GateSt → GateSt) : State := { s with gate := f s.gate }
def State.modHv (s : State) (n : Nat) (f : HvSt → HvSt) : State := s.modGate (fun g => { g with hv := g.hv.modify n f })
def State.lvAt (s : State) (m : Nat) : LvSt := s.gate.lv.getD m {}
def State.modLv (s : State) (m : Nat) (f : LvSt → LvSt) : State := s.modGate (fun g => { g with lv := g.lv.modify m f })

def chOff : Nat := 0
def chProbe : Nat := 1
def chPlain : Nat := 2
def chGait : Nat := 3
def chSoftoff : Nat := 4
def chFault : Nat := 5
def chBiasuv : Nat := 6

def State.hvState (s : State) (n : Nat) : Nat := s.fld (Reg.GCH_STAT n) Fld.GCH_STAT_state
def State.setHvState (s : State) (n v : Nat) : State := s.setf (Reg.GCH_STAT n) Fld.GCH_STAT_state v
def State.hvFault (s : State) (n : Nat) : Nat := s.fld (Reg.GCH_STAT n) Fld.GCH_STAT_fault
def State.setQual (s : State) (n v : Nat) : State := s.setf (Reg.GCH_STAT n) Fld.GCH_STAT_qual v
/-- PLAIN or GAIT: the channel follows commands (R227). -/
def State.hvFollows (s : State) (n : Nat) : Bool := s.hvState n = chPlain || s.hvState n = chGait

/-- The other channel of a leg of two switches. -/
def hvMate (n : Nat) : Option Nat := if n < 32 then some (if n % 2 = 0 then n + 1 else n - 1) else none

/-- The leg lock of R228 holds the channel off: the other channel is in SOFTOFF or FAULT after a detection. -/
def State.legLocked (s : State) (n : Nat) : Bool :=
  s.on Reg.GDC_CTRL Fld.GDC_CTRL_leglock &&
    (hvMate n).any (fun m => (s.hvState m = chSoftoff || s.hvState m = chFault) && s.hvFault m = 1)

/-- Latched faults of the block: GDC_FLT_LO and GDC_FLT_HI follow GCH_STAT.fault. -/
def State.setFltBit (s : State) (n : Nat) (b : Bool) : State :=
  if n < 32 then s.setb Reg.GDC_FLT_LO (bitF n) b else s.setb Reg.GDC_FLT_HI (bitF (n - 32)) b

/-- The first fault since the last clear stays (R226). -/
def State.latchFault (s : State) (n code : Nat) : State :=
  let s := if n = 33 then s.dischargeEnd else s
  if s.hvFault n = 0 then (s.setf (Reg.GCH_STAT n) Fld.GCH_STAT_fault code).setFltBit n true else s

/-! ## Commands -/

/-- The comparator term of G32 acts (R257). -/
def State.chopperActs (s : State) : Bool :=
  s.gate.chopper && (modeStages s.modeNow).contains 2 && !s.tripFlag 16

/-- The command of an HV channel from its generator, the chopper comparator and the forced discharge (R219, R257, R258),
before path 2. -/
def State.hvCommanded (s : State) (n : Nat) : Bool :=
  let base := (s.hvAt n).gen
  if n = 32 then
    if s.tripFlag 16 then base
    else match s.fld Reg.BRK_CTRL Fld.BRK_CTRL_mode with
      | 0 => base
      | 1 => s.chopperActs
      | _ => base || s.chopperActs
  else if n = 33 then base || s.on Reg.DSC_STAT Fld.DSC_STAT_active
  else base

/-- The command in force at the channel: path 2 goes before the generator's (R409). -/
def State.hvWanted (s : State) (n : Nat) : Bool := ((s.hvAt n).p2).getD (s.hvCommanded n)

/-- A channel whose gate turns off in this cycle counts as off once its gate sense reads the off-level, after a free time
(R253, log 109). -/
def State.offFrom (s : State) (n : Nat) : Nat := s.dtb + Config.gateFall n s.dtb

/-- The gate is held off at once, as after a fault, a filtered DRV_EN low or a lost bias. -/
def State.hvForceOff (s : State) (n : Nat) : State :=
  s.modHv n (fun h => { h with gate := false, edge := none, offSince := some (h.offSince.getD (s.offFrom n)) })

/-- Under-voltage of the bias (R223). -/
def State.biasUv (s : State) (n : Nat) : Bool := s.on (Reg.GCH_STAT n) Fld.GCH_STAT_bias_uv

/-- Current bin of R236 and whether it allows a learning step. -/
def State.curBin (s : State) (n : Nat) : Nat × Bool :=
  let c := (s.hvAt n).cap
  if !s.on (Reg.GCH_IBIN0 n) Fld.GCH_IBIN0_en || !(c.q = qValid || c.q = qReduced) then (0, false)
  else
    let i := c.v.toInt.natAbs
    let b := if i < s.fld (Reg.GCH_IBIN1 n) Fld.GCH_IBIN1_th1 then 0
      else if i < s.fld (Reg.GCH_IBIN1 n) Fld.GCH_IBIN1_th2 then 1
      else if i < s.fld (Reg.GCH_IBIN2 n) Fld.GCH_IBIN2_th3 then 2 else 3
    (b, true)

def clampNat (lo hi v : Nat) : Nat := max lo (min hi v)

/-- A bin value outside the bounds takes the nearest bound at the next edge of that bin (R240). -/
def State.clampBin (s : State) (n k : Nat) : State :=
  let a := Reg.GCH_BIN n k
  let b := Reg.GCH_LBND n
  let pre := clampNat (s.fld b Fld.GCH_LBND_pre_min) (s.fld b Fld.GCH_LBND_pre_max) (s.fld a Fld.GCH_BIN_pre)
  let sl := clampNat (s.fld b Fld.GCH_LBND_sl_min) (s.fld b Fld.GCH_LBND_sl_max) (s.fld a Fld.GCH_BIN_sl)
  (s.setf a Fld.GCH_BIN_pre pre).setf a Fld.GCH_BIN_sl sl

/-- An edge begins at a channel that follows commands (R229, R231, R232, R244). -/
def State.beginEdge (s : State) (n : Nat) (rise : Bool) : State :=
  let h := s.hvAt n
  let gait := s.hvState n = chGait
  let (ib, learn) := s.curBin n
  let k := (if rise then 0 else 4) + ib
  let cut := h.edge.isSome
  let s := if cut && !gait then s.setQual n 0 else s
  let s := if gait then s.clampBin n k else s
  let pre := s.fld (Reg.GCH_BIN n k) Fld.GCH_BIN_pre
  let e : Edge := { rise := rise, t0 := s.dtb, gait := gait, bin := k, learn := learn, phase := 1, preEnd := s.dtb + pre, meas := !(gait && cut)
                    lrn := s.rd (Reg.GCH_LRN n), dtgt := s.rd (Reg.GCH_DTGT n) }
  let bl := s.dtb + 32 * (s.fld (Reg.GCH_CFG n) Fld.GCH_CFG_blank + 1)
  s.modHv n (fun h => { h with
    gate := rise, edge := some e, offSince := none, blankEnd := if rise then bl else h.blankEnd })

/-- Channels held off on the -D variant (R11). -/
def State.hvAbsent (s : State) (n : Nat) : Bool := s.variant = .d && 12 ≤ n && n < 28
def State.lvAbsent (s : State) (m : Nat) : Bool := s.variant = .d && (m = 10 || m = 11)

/-- End of the 40 ns filter of R244 for an input that stands above V_th, in a channel that detects. -/
def State.detectAt (s : State) (n : Nat) : Option Nat :=
  let h := s.hvAt n
  if s.on (Reg.GCH_CFG n) Fld.GCH_CFG_sc_en && s.hvFollows n then h.crossed.map (fun t => max t h.blankEnd + 16) else none

/-- A command reaches a channel. A channel that does not follow commands, is in under-voltage, or is held by the leg lock
keeps its gate off (R223, R227, R228); a detection of the same cycle wins over a turn-on (R259). -/
def State.hvCommand (s : State) (n : Nat) (on : Bool) : State :=
  let was := (s.hvAt n).cmd
  let s := s.modHv n (fun h => { h with cmd := on })
  if !s.domainOn 4 || !s.hvFollows n || s.hvAbsent n || s.biasUv n || (on && (s.detectAt n).any (· ≤ s.dtb)) then s
  else if s.legLocked n then (if (s.hvAt n).gate then s.hvForceOff n else s)
  else if was = on && (s.hvAt n).gate = on then s
  else if on = false && (s.hvAt n).gate = false then s
  else s.beginEdge n on

/-- A channel enters PLAIN with its qualification count at 0 (R223, R227); one in under-voltage goes on to BIASUV. -/
def State.enterPlain (s : State) (n : Nat) : State :=
  let s := s.setQual n 0
  if s.biasUv n then s.setHvState n chBiasuv else (s.setHvState n chPlain).hvCommand n (s.hvWanted n)

/-! ## LV channels -/

/-- The float gate of R352 holds the leg of the channel off. -/
def State.lvFloated (s : State) (m : Nat) : Bool :=
  let sh := s.fld Reg.ACT_FLOAT Fld.ACT_FLOAT_sh
  let op := s.fld Reg.ACT_FLOAT Fld.ACT_FLOAT_op
  if 12 ≤ m && m < 18 then bit sh ((m - 12) / 2) else if 18 ≤ m && m < 24 then bit op ((m - 18) / 2) else false

/-- Output of an LV channel (R224). -/
def State.lvUpdate (s : State) (m : Nat) : State :=
  let a := Reg.LCH_STAT m
  let ok := s.domainOn 4 && s.fld a Fld.LCH_STAT_state = 1 && !s.on a Fld.LCH_STAT_bs_uv && !s.lvAbsent m && (!s.lvFloated m || s.safeHeld (genOfLv m))
  s.modLv m (fun l =>
    let o := l.cmd && ok
    { l with out := o, offSince := if o then none else some (l.offSince.getD s.dtb) })

/-- Every LV channel without a latched fault is in RUN, but for those that the -D variant holds off (R11, R224). -/
def State.lvChannelsRun (s : State) : State :=
  s.forN 29 (fun s m =>
    if s.lvAbsent m || s.on (Reg.LCH_STAT m) Fld.LCH_STAT_ovc then s
    else (s.setf (Reg.LCH_STAT m) Fld.LCH_STAT_state 1).lvUpdate m)

/-- While PD4 is not ON every gate output is held at its off-level (R548); back from RETENTION it takes its command again. -/
def State.gatesOff (s : State) : State :=
  (s.forN 34 (fun s n => s.hvForceOff n)).forN 29 (fun s m =>
    s.modLv m (fun l => { l with out := false, offSince := some (l.offSince.getD s.dtb) }))
def State.gatesOn (s : State) : State := (s.forN 34 (fun s n => s.hvCommand n (s.hvWanted n))).forN 29 (fun s m => s.lvUpdate m)

/-! ## Path 2 of STO (R409) -/

/-- The safe pattern of generator g turns the channel on. -/
def State.patternOn (s : State) (n : Nat) : Bool :=
  let p := s.pat (genOfHv n)
  (p = 1 && !hvIsHigh n) || (p = 2 && hvIsHigh n)

/-- Path 2 acts on one channel. -/
def State.path2Channel (s : State) (n : Nat) : State :=
  let h := s.hvAt n
  if s.patternOn n then
    if h.gate then s.modHv n (fun h => { h with p2 := some true, p2Due := none })
    else if h.p2 = some true then s
    else s.modHv n (fun h => { h with p2 := some false, p2Due := some (h.p2Due.getD (s.dtb + 1200)) })
  else (s.modHv n (fun h => { h with p2 := some false, p2Due := none })).hvCommand n false

/-- HV channels of drive bridge `d`. -/
def driveChannels (d : Nat) : List Nat := (List.range 6).map (fun k => 6 * d + k)

def State.path2 (s : State) (d : Nat) : State := s.each (driveChannels d) (fun s n => s.path2Channel n)

/-- Path 2 of a bridge is released; its channels follow their generators again. -/
def State.path2Release (s : State) (d : Nat) : State :=
  s.each (driveChannels d) (fun s n =>
    let s := s.modHv n (fun h => { h with p2 := none, p2Due := none })
    s.hvCommand n (s.hvCommanded n))

/-- Path 2 acts on drive bridge `d`. -/
def State.path2On (s : State) (d : Nat) : Bool := (driveChannels d).any (fun n => (s.hvAt n).p2.isSome)

end Sys2Proof.Machine
end

