-- ==== Sys2Proof/Machine/Inputs.lean ====
section
/-! DEFINITION. What each input of a converter unit is connected to (spec/03, spec/22). -/

namespace Sys2Proof.Machine

/-- Dedicated inputs 0-7 of unit `u` (R573); an input without a source is tied to AGND. -/
def dedicatedInputs (u : Nat) : List Sense :=
  let drive := fun d => [.phaseNode d 0, .phaseNode d 1, .phaseNode d 2, .driveLink d, .excitation d, .resSin d, .resCos d]
  match u with
  | 0 => [.phaseCurrent 0 0]
  | 1 => [.phaseCurrent 0 1]
  | 2 => [.phaseCurrent 0 2]
  | 3 => drive 0
  | 4 => [.phaseCurrent 1 0]
  | 5 => [.phaseCurrent 1 1]
  | 6 => [.phaseCurrent 1 2]
  | 7 => drive 1
  | 8 => [.pfcCurrent 0, .grid 0]
  | 9 => [.pfcCurrent 1, .grid 1]
  | 10 => [.pfcCurrent 2, .grid 2, .pfcCurrent 3]
  | 11 => [.isoCurrent 0, .isoCurrent 1, .chargerLink, .hvLink]
  | 12 => [.ib, .lvOut, .buckCurrent 0, .buckCurrent 1, .buckCurrent 2, .buckCurrent 3, .dcxCurrent, .batCurrent]
  | 13 => [.shCurrent 0, .shCurrent 1, .shCurrent 2, .shNode 0, .shNode 1, .shNode 2, .fork, .opCurrent]
  | 14 => [.cpPos, .cpNeg, .pp, .motorTemp 0, .motorTemp 1, .oilTemp, .ntc 0, .ntc 1]
  | 15 => [.ntc 2, .ntc 3, .ntc 4, .ntc 5, .fieldNtc 0, .fieldNtc 1, .fieldNtc 2, .fieldNtc 3]
  | _ => []

/-- Source of common sense line `l` (R575). -/
def cslSource (l : Nat) : Sense :=
  [.vact, .parkCurrent, .clutchCurrent, .vbatk, .solVoltage, .solCurrent, .vsup, .agnd].getD l .agnd

/-- The line that ADC_CSL chooses for input `8 + i` of unit `u`; none while csl_en = 0 (R85). -/
def State.lineOf (s : State) (u i : Nat) : Option Nat :=
  if s.on (Reg.ADC_CSL u) Fld.ADC_CSL_csl_en then
    some (s.fld (Reg.ADC_CSL u) ([Fld.ADC_CSL_sel8, Fld.ADC_CSL_sel9, Fld.ADC_CSL_sel10, Fld.ADC_CSL_sel11].getD i Fld.ADC_CSL_sel8))
  else none

/-- Selector `j` of AU13, from 0: the phase node of its pump leg during its own entry, of its shift leg in every other
(R574). -/
def selectorNode (j entry : Nat) : Sense := if entry = j + 7 then .opNode j else .shNode j

/-- What input `chan` of unit `u` is connected to while entry `k` is converted. -/
def State.inputOf (s : State) (u k chan : Nat) : Sense :=
  if chan < 8 then
    if u = 13 && 3 ≤ chan && chan ≤ 5 then selectorNode (chan - 3) k else (dedicatedInputs u).getD chan .agnd
  else if chan < 12 then (s.lineOf u (chan - 8)).elim .agnd cslSource
  else if chan = 12 then .die
  else if chan = 13 then .midScale
  else if chan = 14 then .coreSupply
  else .agnd

/-- What entry `k` of unit `u` samples. -/
def State.senseOf (s : State) (u k : Nat) : Sense := s.inputOf u k (s.fld (Reg.ADC_ECFG u k) Fld.ADC_ECFG_chan)

/-- CP and PP, which the -D variant does not sample (R12). -/
def Sense.pilot : Sense → Bool
  | .cpPos => true
  | .cpNeg => true
  | .pp => true
  | _ => false

end Sys2Proof.Machine
end

