-- ==== Sys2Proof/Machine/AdcOps.lean ====
section
/-! DEFINITION. Converter units: trigger events, slots, conversions, urgent requests, joins and trigger timers, shared by
every event that acts on a unit (spec/03). CLK_ADC edges are counted in half CLK_CTL cycles, one edge every 5 (R84). -/

namespace Sys2Proof.Machine

/-- Half cycles of one CLK_ADC cycle, and of the conversion phase of 16 CLK_ADC cycles (R83). -/
def adcCycle : Nat := 5
def adcConv : Nat := 16 * adcCycle

/-- First CLK_ADC edge at or after a DTB value, in half cycles. -/
def adcEdge (t : Nat) : Nat := (2 * t + 4) / 5 * 5

/-- First CLK_CTL cycle at or after a time in half cycles. -/
def ceilHalf (h : Nat) : Nat := (h + 1) / 2

/-- The edge at which work due at edge `e` starts: that edge, or the present one where it has passed (log 2). -/
def State.adcAt (s : State) (e : Nat) : Nat := if s.dtb ≤ ceilHalf e then e else adcEdge s.dtb

/-- The unit is enabled: en = 1 and PD3 ON (R108). -/
def State.adcOn (s : State) (u : Nat) : Bool := s.on (Reg.ADC_CTRL u) Fld.ADC_CTRL_en && s.domainOn 3

def State.slotPending (s : State) (u t : Nat) : Bool := bit (s.fld (Reg.ADC_STATUS u) Fld.ADC_STATUS_pend) t
def State.setPending (s : State) (u t : Nat) (b : Bool) : State := s.setb (Reg.ADC_STATUS u) (bitF (4 + t)) b

/-- The slot's delay counts, or it is pending or running (R92). A run whose last result still waits for its bank is running:
its sequence-complete event is not yet raised (log 94, DESIGN CHOICE). -/
def State.slotBusy (s : State) (u t : Nat) : Bool :=
  let a := s.auAt u
  (a.delay.getD t none).isSome || s.slotPending u t || a.running.any (·.1 = t) || a.finishing.getD t false

/-- With CLK_ADC not at 2/5 of CLK_CTL a delay ends off its edge by a free number of cycles (R522, log 117). -/
def State.adcSkew (s : State) : Nat × State :=
  if s.adcRatioOk then (0, s) else let (w, s) := s.drawWord; (w.toNat % 16, s)

/-- A trigger event reaches slot `t` of unit `u` (R89, R92). -/
def State.slotTrigger (s : State) (u t : Nat) : State :=
  if !s.adcOn u then s
  else if s.slotBusy u t then s.inc (Reg.ADC_CNT_OVRUN u)
  else
    let (skew, s) := s.adcSkew
    let d := s.dtb + s.fld (Reg.ADC_TDLY u t) Fld.ADC_TDLY_dly + skew
    s.modAu u (fun a => { a with delay := a.delay.set t (some d), collided := a.collided.set t false })

/-- A source event of kind `kind` and index `idx` reaches every slot that names it. -/
def State.adcEvent (s : State) (kind idx : Nat) : State :=
  s.forN 16 (fun s u => s.forN 4 (fun s t =>
    let a := Reg.ADC_TRG u t
    if s.fld a Fld.ADC_TRG_skind = kind && s.fld a Fld.ADC_TRG_sidx = idx then s.slotTrigger u t else s))

/-- Entry `k` is valid (R604). On the -D variant an entry that names CP or PP is not: they are not sampled (R12, log 95). -/
def State.entryValid (s : State) (u k : Nat) : Bool :=
  s.fld (Reg.ADC_ECFG u k) Fld.ADC_ECFG_smp ≠ 0 && !(s.variant = .d && (s.senseOf u k).pilot)

/-- The first valid entry from `k` to `last`, in increasing order. -/
def State.nextEntry (s : State) (u k last : Nat) : Option Nat :=
  ((List.range 16).filter (fun j => k ≤ j && j ≤ last && s.entryValid u j)).head?

/-- Mirror what the unit does in ADC_STATUS. -/
def State.adcMirror (s : State) (u : Nat) : State :=
  let a := s.auAt u
  let r := Reg.ADC_STATUS u
  let s := s.setb r Fld.ADC_STATUS_run (a.act.any (·.slot.isSome))
  let s := s.setb r Fld.ADC_STATUS_urg_run (a.act.any (·.by_.isSome))
  let s := s.setb r Fld.ADC_STATUS_urg_wait a.wait.isSome
  s.setf r Fld.ADC_STATUS_entry ((a.act.map (·.entry)).getD 0)

/-- A sampling phase of `smp` CLK_ADC cycles starts at edge `e`. -/
def State.startSampling (s : State) (u smp e : Nat) (c : Conversion) : State :=
  (s.modAu u (fun a => { a with
    lastEntry := c.entry, act := some { c with sampling := true, tEnd := e + smp * adcCycle, tsUs := 0 } })).adcMirror u

/-- An entry's sampling phase starts at edge `e`, for slot `slot` or for the requester `by_`; a selector changes here (R574). -/
def State.startEntry (s : State) (u k : Nat) (slot : Option Nat) (by_ : Option Asker) (e : Nat) : State :=
  s.startSampling u (s.fld (Reg.ADC_ECFG u k) Fld.ADC_ECFG_smp) e
    { entry := k, src := s.senseOf u k, slot := slot, by_ := by_, sampling := true, tEnd := e, tsUs := 0 }

/-- Slots pending at edge `e` that another conversion keeps waiting count their collision once (R93). -/
def State.countWaiting (s : State) (u e : Nat) : State :=
  s.forN 4 (fun s t =>
    let a := s.auAt u
    if s.slotPending u t && adcEdge (a.pendAt.getD t 0) ≤ e && !a.collided.getD t false then
      (s.inc (Reg.ADC_CNT_COLL u)).modAu u (fun a => { a with collided := a.collided.set t true })
    else s)

/-- JNk: the members of its group (R106). -/
def State.joinMember (s : State) (k u : Nat) : Bool :=
  (List.range 4).any (fun t => s.on (Reg.ADC_TRG u t) Fld.ADC_TRG_jen && s.fld (Reg.ADC_TRG u t) Fld.ADC_TRG_jsel = k)

/-- A tagged slot of unit `u` completes for join `k` (R106, R107). -/
def State.joinDeliver (s : State) (k u : Nat) : State :=
  let got := s.joins.getD k []
  if got.contains u then s.inc (Reg.ADC_CNT_OVRUN u)
  else
    let got := u :: got
    if (List.range 16).all (fun v => !s.joinMember k v || got.contains v) then
      ({ s with joins := s.joins.set k [] }).lawSource 2 k
    else { s with joins := s.joins.set k got }

/-- A slot's sequence-complete event (R105, R106). -/
def State.sequenceComplete (s : State) (u t : Nat) : State :=
  let s := s.modAu u (fun a => { a with finishing := a.finishing.set t false })
  let s := s.lawSource 1 (4 * u + t)
  if s.on (Reg.ADC_TRG u t) Fld.ADC_TRG_jen then s.joinDeliver (s.fld (Reg.ADC_TRG u t) Fld.ADC_TRG_jsel) u else s

/-- An urgent entry starts at edge `e`; slots pending there wait (R93, R95). -/
def State.startUrgent (s : State) (u : Nat) (q : UrgentReq) (e : Nat) : State :=
  (s.startEntry u q.entry none (some q.asker) e).countWaiting u e

/-- The unit is free at edge `e`: the waiting urgent request starts first (R96), unless another reaches the unit at this
edge (R99); else the run's next entry. -/
def State.adcContinue (s : State) (u e : Nat) : State :=
  let s := s.modAu u (fun a => { a with freeAt := e })
  let a := s.auAt u
  match a.wait with
  | some w => (s.modAu u (fun a => { a with wait := none })).startUrgent u w e
  | none =>
    if a.incoming.any (fun r => adcEdge r.arrive ≤ e) then s.adcMirror u
    else match a.running with
    | some (t, k) => s.startEntry u k (some t) none e
    | none => s.adcMirror u

/-- A requester learns what became of its urgent request: an engine's, the section that issued it (R96, R100, R101). -/
def State.urgentAnswer (s : State) (q : Asker) (ok : Bool) : State :=
  if 1 ≤ q.requester && q.requester ≤ 12 then
    s.modLaw (q.requester - 1) q.law (fun w => { w with sec := w.sec.map (fun x =>
      if x.urg = .issued && x.t = q.start then { x with urg := if ok then .done else .refused } else x) })
  else s

/-- An urgent request issued by `q` reaches unit `u` at `t` (R95). -/
def State.urgentIssue (s : State) (q : Asker) (u k t : Nat) : State :=
  s.modAu u (fun a => { a with incoming := a.incoming ++ [{ asker := q, entry := k, arrive := t }] })

/-- An urgent request is refused (R96, R604). -/
def State.urgentRefuse (s : State) (u : Nat) (q : Asker) : State := (s.inc (Reg.ADC_CNT_UREF u)).urgentAnswer q false

/-- The request that takes effect next: the earliest edge, then the lowest requester (R97). -/
def nextUrgent : List UrgentReq → Option UrgentReq
  | [] => none
  | r :: rs =>
    match nextUrgent rs with
    | none => some r
    | some q =>
      if adcEdge r.arrive < adcEdge q.arrive ||
          (adcEdge r.arrive = adcEdge q.arrive && r.asker.requester ≤ q.asker.requester) then some r else some q

/-- An urgent request takes effect at edge `e` (R95-R97, R99, R604): one for an entry that is not valid aborts nothing, and
the run goes on where it was about to. -/
def State.urgentEffect (s : State) (u : Nat) (q : UrgentReq) (e : Nat) : State :=
  let s := s.modAu u (fun a => { a with incoming := a.incoming.erase q })
  if !s.adcOn u then s
  else if !s.entryValid u q.entry then
    let s := (s.urgentRefuse u q.asker).setf (Reg.ADC_STATUS u) Fld.ADC_STATUS_cfg_err 1
    if (s.auAt u).act.isNone then s.adcContinue u e else s
  else match (s.auAt u).act with
  | none => s.startUrgent u q e
  | some c =>
    if c.slot.isNone then
      if (s.auAt u).wait.isNone then
        ((s.modAu u (fun a => { a with wait := some q })).inc (Reg.ADC_CNT_COLL u)).adcMirror u
      else s.urgentRefuse u q.asker
    else (s.inc (Reg.ADC_CNT_ABORT u)).startUrgent u q e

/-- The edge at which a conversion ends. -/
def Conversion.ends (c : Conversion) : Nat := if c.sampling then c.tEnd + adcConv else c.tEnd

/-- The unit is occupied at edge `e`: a conversion lasts beyond it, or other work starts at it. -/
def State.adcOccupied (s : State) (u e : Nat) : Bool :=
  let a := s.auAt u
  let more := a.wait.isSome || a.incoming.any (fun r => adcEdge r.arrive ≤ e)
  match a.act with
  | none => more || a.running.isSome
  | some c =>
    e < c.ends || more || (match c.slot with
      | none => a.running.isSome
      | some t => (s.nextEntry u (c.entry + 1) (s.fld (Reg.ADC_TRG u t) Fld.ADC_TRG_last)).isSome)

/-- Conversions, pending slots, delays and the waiting urgent request of a unit end without a write (R108). A request that
has not reached the unit is on its way still. Delays that count are cancelled with the pending slots (log 96, DESIGN
CHOICE). -/
def State.adcStop (s : State) (u : Nat) : State :=
  ((s.modAu u (fun a => { a with
    act := none, wait := none, incoming := a.incoming.filter (fun r => s.dtb < r.arrive), delay := List.replicate 4 none
    running := none, collided := List.replicate 4 false })).setf (Reg.ADC_STATUS u) Fld.ADC_STATUS_pend 0).adcMirror u

/-! ## Calibration and test (R109, R110) -/

/-- ADC_CAL on unit `u`: 8,192 CLK_ADC cycles. -/
def State.startCal (s : State) (u : Nat) (boot : Bool) : State :=
  (s.setf (Reg.ADC_STATUS u) Fld.ADC_STATUS_cal_busy 1).modAu u (fun a => { a with calDue := some (s.dtb + 20480), bootTest := boot })

/-- The boot flow's conversion of input 13, bipolar at gain 1 with the sample time of a calibration (R110, log 97). -/
def State.startTest (s : State) (u : Nat) : State :=
  if (s.auAt u).act.isSome then s
  else s.startSampling u 16 (adcEdge s.dtb)
    { entry := 0, src := .midScale, slot := none, by_ := none, sampling := true, tEnd := 0, tsUs := 0 }

/-- A mid-scale code that the calibrated offset `o` leaves more than 16 steps off (R110). -/
def offMid (code : Nat) (o : Int) : Bool := 16 < ((code : Int) - 8192 - o).natAbs

/-- Q15 value of a code (R102). -/
def adcValue (uni : Bool) (c : Nat) (o : Int) : Int :=
  if uni then sat16 (((c : Int) - o) * 2) else sat16 (((c : Int) - 8192 - o) * 4)

/-- Quality of a result (R104). -/
def State.adcQuality (s : State) (u : Nat) : Nat :=
  if s.on (Reg.ADC_STATUS u) Fld.ADC_STATUS_fault then qInvalid
  else if s.on Reg.CLK_STAT Fld.CLK_STAT_refloss then qReduced else qValid

/-! ## Results that other blocks give or take -/

/-- The drive whose sensor unit `u` converts. -/
def sensorDrive (u : Nat) : Option Nat := if u = 3 then some 0 else if u = 7 then some 1 else none

/-- Electrical angle of the encoder (R271). -/
def State.encoderAngle (s : State) (d : Nat) : Int :=
  let a := Reg.ENC_CTRL d
  let n := s.fld (Reg.ENC_CNT d) Fld.ENC_CNT_cnt * s.fld a Fld.ENC_CTRL_pp * 65536 / s.fld a Fld.ENC_CTRL_cpr
  sx 16 (n + s.fld (Reg.ENC_ZOFS d) Fld.ENC_ZOFS_ofs)

/-- What an entry with chan = 15 and pol = 1 of a sensor unit latches while the encoder is enabled (R272). -/
def State.encoderSample (s : State) (u k : Nat) : Option Int :=
  let cfg := Reg.ADC_ECFG u k
  match sensorDrive u with
  | some d =>
    if s.fld cfg Fld.ADC_ECFG_chan = 15 && s.on cfg Fld.ADC_ECFG_pol && s.on (Reg.ENC_CTRL d) Fld.ENC_CTRL_en then
      some (s.encoderAngle d)
    else none
  | none => none

/-- Martingale takes the results of entries 4, 5 and 6 of the sensor units, whatever their destination (R399). -/
def State.resolverSample (s : State) (u k : Nat) (v : Int) (ovr : Bool) : State :=
  match sensorDrive u with
  | some d =>
    { s with mg := { s.mg with drives := s.mg.drives.modify d (fun m =>
        if k = 4 then { m with res4 := v, ovr4 := ovr }
        else if k = 5 then { m with res5 := v, ovr5 := ovr, fresh5 := true }
        else if k = 6 then { m with res6 := v, ovr6 := ovr, fresh6 := true }
        else m) } }
  | none => s

/-! ## Trigger timers (R111) -/

/-- A sync event of kind `kind` from generator `g` restarts the timers that name it; a firing due in this cycle stays. -/
def State.ttSync (s : State) (kind g : Nat) : State :=
  s.forN 8 (fun s n =>
    let a := Reg.TT_CTL n
    if s.on a Fld.TT_CTL_en && s.fld a Fld.TT_CTL_skind = kind && s.fld a Fld.TT_CTL_sidx = g &&
        (s.tt.getD n none).any (· ≠ s.dtb) then
      { s with tt := s.tt.set n (some (s.dtb + s.fld (Reg.TT_PER n) Fld.TT_PER_per)) }
    else s)

/-- A timer starts counting at its enable or at the first accepted period (R111). -/
def State.ttStart (s : State) (n : Nat) : State :=
  let per := s.fld (Reg.TT_PER n) Fld.TT_PER_per
  if s.on (Reg.TT_CTL n) Fld.TT_CTL_en && per ≠ 0 && (s.tt.getD n none).isNone then
    { s with tt := s.tt.set n (some (s.dtb + per)) }
  else s

end Sys2Proof.Machine
end

