-- ==== Sys2Proof/Machine/PaddockOps.lean ====
section
/-! DEFINITION. The period recorder and the stale sweep (R62, R79-R82). -/

namespace Sys2Proof.Machine

def State.modPaddock (s : State) (f : PaddockSt → PaddockSt) : State := { s with paddock := f s.paddock }

/-- Rank of a requester and its number within the rank (R75). -/
def Access.rank : Access → Nat × Nat
  | .conv u .. => (1, u)
  | .lawRead e .. => (2, e)
  | .lawTable e .. => (2, e)
  | .lawWrite e .. => (2, e)
  | .bus p .. => (3, p)
  | .coreRead .. => (4, 0)
  | .coreWrite .. => (4, 0)
  | .descWrite .. => (4, 0)
  | .record _ => (5, 0)
  | .sweep => (6, 0)

/-- An access enters arbitration in cycle `t`. With CLK_CTL not at CLK_SYS those of converter entries, laws and the recorder
may be lost or duplicated: a free choice (R522, log 117). -/
def State.bankAsk (s : State) (sig t : Nat) (k : Access) : State :=
  let ask := fun (s : State) => s.modPaddock (fun p => { p with waiting := p.waiting ++ [{ sig := sig, req := t, kind := k }] })
  if s.ctlRatioOk || k.rank.1 = 3 || k.rank.1 = 4 || k.rank.1 = 6 then ask s else s.freeTimes ask

/-! ## Recorder -/

def mainSram : Nat := 8 * 1024 * 1024

/-- Ring size and the SRAM offset of ring byte `k` (R82: a ring beyond the SRAM wraps within it). -/
def State.ringSize (s : State) : Nat := 65536 * 2 ^ s.fld Reg.PRC_SIZE Fld.PRC_SIZE_size
def State.ringByte (s : State) (k : Nat) : Nat := (s.fld Reg.PRC_BASE Fld.PRC_BASE_base * 64 + k % s.ringSize) % mainSram

/-- Bytes of the record under way, written at offset `k` of the record. -/
def State.recordWrite (s : State) (k : Nat) (bs : List Byte) : State :=
  let at_ := fun j => s.ringByte (s.paddock.recorder.start + j)
  s.sramWrite at_ k bs

/-- The record ends (R80): number of entries written and flags, and the place of the next record. -/
def State.recordEnd (s : State) (late : Bool) : State :=
  let r := s.paddock.recorder
  let s := s.recordWrite 12 (leBytes 2 r.copied ++ leBytes 2 (if late then 1 else 0))
  let s := s.setf Reg.PRC_WRPTR Fld.PRC_WRPTR_ptr ((r.start + 16 + 8 * r.copied) % s.ringSize)
  let s := s.modPaddock (fun p => { p with
    recorder := { p.recorder with active := false }
    waiting := p.waiting.filter (fun a => match a.kind with | .record _ => false | _ => true) })
  if late then
    let a := Reg.PRC_STATUS
    (s.setf a Fld.PRC_STATUS_late 1).setf a Fld.PRC_STATUS_late_cnt (min 0xFFFF (s.fld a Fld.PRC_STATUS_late_cnt + 1))
  else s

/-- The recorder asks for list entry `k`. -/
def State.recordAsk (s : State) (k : Nat) : State :=
  s.bankAsk (s.fld (Reg.PRC_LIST k) Fld.PRC_LIST_id) s.dtb (.record k)

/-- A record starts (R79). Its multi-byte fields lie little-endian, and a count of 0 makes a record of no entries (log 102). -/
def State.recordStart (s : State) : State :=
  let seq := (s.rd Reg.PRC_SEQ).toNat + 1
  let s := s.modPaddock (fun p => { p with recorder := {
    active := true, start := s.fld Reg.PRC_WRPTR Fld.PRC_WRPTR_ptr, copied := 0, skip := s.fld Reg.PRC_CTRL Fld.PRC_CTRL_decim } })
  let s := s.wr Reg.PRC_SEQ (W seq)
  let s := s.recordWrite 0 (leBytes 8 s.dtb ++ leBytes 4 seq ++ leBytes 4 0)
  if s.fld Reg.PRC_CTRL Fld.PRC_CTRL_count = 0 then s.recordEnd false else s.recordAsk 0

/-- The recorder stops: the record under way is left as it stands. -/
def State.recordStop (s : State) : State :=
  s.modPaddock (fun p => { p with
    recorder := { p.recorder with active := false, skip := 0 }
    waiting := p.waiting.filter (fun a => match a.kind with | .record _ => false | _ => true) })

/-- A write of PRC_CTRL: while en = 1 the other fields ignore it (R79). -/
def State.recordControl (s : State) (v : Word) : State :=
  let a := Reg.PRC_CTRL
  if !s.on a Fld.PRC_CTRL_en then s.wrReg a v
  else if Word.get v Fld.PRC_CTRL_en = 1 then s
  else (s.setf a Fld.PRC_CTRL_en 0).recordStop

/-- A boundary of the recorder's stage (R79, R80): an incomplete record ends LATE and the next one starts here. The first boundary
after enabling takes a record, whatever decim is (log 102). -/
def State.recordBoundary (s : State) : State :=
  if s.on Reg.PRC_CTRL Fld.PRC_CTRL_en then
    if s.paddock.recorder.active then (s.recordEnd true).recordStart
    else if s.paddock.recorder.skip = 0 then s.recordStart
    else s.modPaddock (fun p => { p with recorder := { p.recorder with skip := p.recorder.skip - 1 } })
  else s

/-- The commit boundaries of a stage are the load points of its lead generator (R30): it has a lead generator that runs
with a fixed period. -/
def State.stagePeriodic (s : State) (st : Nat) : Bool :=
  st < 14 && !(gensOfStage st).isEmpty && s.running (leadGen st) && s.gmode (leadGen st) ≠ 2

/-- A load point of generator `g` as a boundary of the recorder. -/
def State.recordAtLoad (s : State) (g : Nat) : State :=
  let st := s.fld Reg.PRC_CTRL Fld.PRC_CTRL_stage
  if st < 14 && s.stagePeriodic st && leadGen st = g then s.recordBoundary else s

/-- A 1 ms system boundary as a boundary of the recorder. -/
def State.recordAtMs (s : State) : State :=
  let st := s.fld Reg.PRC_CTRL Fld.PRC_CTRL_stage
  if st = 15 || !s.stagePeriodic st then s.recordBoundary else s

/-- Entry `k` is copied (R79, R81). -/
def State.recordCopy (s : State) (k id : Nat) : State :=
  let g : Sig := if dDefined (s.desc id) then s.sigSeen id else {}
  let s := s.recordWrite (16 + 8 * k) (leBytes 4 g.value.toNat ++ leBytes 4 g.mword.toNat)
  let s := s.modPaddock (fun p => { p with recorder := { p.recorder with copied := k + 1 } })
  if k + 1 < s.fld Reg.PRC_CTRL Fld.PRC_CTRL_count then s.recordAsk (k + 1) else s.recordEnd false

/-! ## Stale sweep -/

/-- Refresh limit in microseconds (R61 table); none for the codes without a limit. -/
def staleLimit (code : Nat) : Option Nat :=
  [none, some 1000, some 2000, some 5000, some 10000, some 20000, some 50000, some 100000, some 200000, some 500000,
    some 1000000, some 2000000, some 5000000].getD code none

/-- The sweep's visit of one signal (R62). -/
def State.sweepSignal (s : State) (id : Nat) : State :=
  let g := s.sig id
  match staleLimit (dStale (s.desc id)) with
  | none => s
  | some lim =>
    let age := (s.us + 2 ^ 24 - metaTs g.mword) % 2 ^ 24
    if lim < age then s.setSig id { g with mword := g.mword ||| 0x20000000 } else s

/-- Signals with a refresh limit. -/
def State.staleSignals (s : State) : List Nat := (s.descs.filter (fun d => dStale d.2 ≠ 0)).map (·.1)

/-- The sweep asks bank `b` for the next signal that it has still to visit there. -/
def State.sweepNext (s : State) (b t : Nat) : State :=
  match s.paddock.sweepLeft.find? (fun id => id % 8 = b) with
  | none => s
  | some id => (s.modPaddock (fun p => { p with sweepLeft := p.sweepLeft.erase id })).bankAsk id t .sweep

/-- The sweep of a 1 ms boundary visits every signal with a refresh limit; it has at most one request at each bank
(R62, R75, R76, log 16). -/
def State.staleSweep (s : State) : State :=
  let busy := fun b => s.paddock.waiting.any (fun a => a.kind = .sweep && a.sig % 8 = b)
  (s.modPaddock (fun p => { p with sweepLeft := s.staleSignals })).each ((List.range 8).filter (fun b => !busy b))
    (fun s b => s.sweepNext b s.dtb)

end Sys2Proof.Machine
end

