-- ==== Sys2Proof/Machine/PwmOps.lean ====
section
/-! DEFINITION. The counter, reference level, edges, load points and period starts of a generator (R180-R210). Times are
in taps of 1/64 CLK_CTL cycle unless a name says cycles. -/

namespace Sys2Proof.Machine

/-! ## The reference level -/

/-- What fixes r over one generator period: mode, asym, cycles per count, period value, compare words. -/
structure Shape where
  updown : Bool
  asym : Bool
  p : Nat
  per : Nat
  a : Nat
  b : Nat
  deriving DecidableEq, Repr

/-- Generator period and half period in taps (R180). -/
def Shape.half (h : Shape) : Nat := h.per * h.p * 64
def Shape.len (h : Shape) : Nat := if h.updown then 2 * h.half else h.half

/-- Edge time of a compare word (R183, R185): a coarse part of per or more acts as the time P. -/
def Shape.edge (h : Shape) (w : Nat) : Nat :=
  if h.per ≤ w / 64 then h.half else if h.p = 1 then w else w / 64 * h.p * 64

/-- r at time `t` from the period start (R184, R185). -/
def Shape.level (h : Shape) (t : Nat) : Bool :=
  let a := h.edge h.a
  let b := h.edge h.b
  if h.a = 0 then false
  else if h.per ≤ h.a / 64 then true
  else if h.updown then t < a || 2 * h.half - (if h.asym then b else a) ≤ t
  else if !h.asym then t < a
  else if b ≤ a then b ≤ t && t < a
  else t < a || b ≤ t

/-- Times at which r may change within a period. -/
def Shape.edges (h : Shape) : List Nat :=
  let a := h.edge h.a
  let b := h.edge h.b
  if h.updown then [a, 2 * h.half - a, 2 * h.half - b] else [a, b]

def minOf : List Nat → Option Nat
  | [] => none
  | x :: xs => some (xs.foldl min x)

/-- The first time in [from, to) at which r differs from `lvl`. -/
def Shape.flip (h : Shape) (lvl : Bool) (lo hi : Nat) : Option Nat :=
  minOf ((lo :: h.edges).filter (fun t => lo ≤ t && t < hi && h.level t ≠ lvl))

def State.updown (s : State) (g : Nat) : Bool := s.gmode g = 1

/-- The shape in force, and the one that the shadows give. -/
def State.shapeNow (s : State) (g : Nat) : Shape :=
  { updown := s.updown g, asym := s.on (Reg.PWM_CTRL g) Fld.PWM_CTRL_asym, p := s.presc g, per := (s.pgAt g).per
    a := (s.rd (Reg.PWM_ACTA g)).toNat, b := (s.rd (Reg.PWM_ACTB g)).toNat }
def State.shapeNext (s : State) (g : Nat) : Shape :=
  { s.shapeNow g with a := (s.rd (Reg.PWM_CMPA g)).toNat, b := (s.rd (Reg.PWM_CMPB g)).toNat }

/-- Load points selected by ld: at period starts, at centres (R197). -/
def State.loadsStart (s : State) (g : Nat) : Bool := bit (s.fld (Reg.PWM_CTRL g) Fld.PWM_CTRL_ld) 0
def State.loadsCentre (s : State) (g : Nat) : Bool := bit (s.fld (Reg.PWM_CTRL g) Fld.PWM_CTRL_ld) 1 && s.updown g

/-- Generator period in cycles with the period value in force. -/
def State.genCycles (s : State) (g : Nat) : Nat := (s.shapeNow g).len / 64

/-- Time of the present period start, as the distance of a time from it. -/
def State.fromStart (s : State) (g t : Nat) : Nat := t + (s.shapeNow g).len - 64 * (s.pgAt g).next

/-- Position of the counter: the cycle count from the period start at DTB. -/
def State.position (s : State) (g : Nat) : Nat :=
  (s.dtb + s.genCycles g - (s.pgAt g).next) % max 1 (s.genCycles g)

/-- The end of the part of the period before the next load point or period start. -/
def State.segEnd (s : State) (g : Nat) : Nat :=
  if s.updown g && !(s.pgAt g).centreDone then (s.shapeNow g).half else (s.shapeNow g).len

/-- Absolute time of a distance from the present period start. -/
def State.absolute (s : State) (g d : Nat) : Nat := 64 * (s.pgAt g).next + d - (s.shapeNow g).len

/-- The next change of r in the present part of the period (REFERENCE_EDGE). -/
def State.nextEdge (s : State) (g : Nat) : Option Nat :=
  let p := s.pgAt g
  if s.gmode g = 2 then (if p.r then p.cotFall else none)
  else ((s.shapeNow g).flip p.r (s.fromStart g p.doneTo) (s.segEnd g)).map (s.absolute g)

/-- The scheduled end of a pulse of level `lvl` that begins at absolute time `t` (R191): the compares in force until the
next load point, the shadows after it. None when no end is scheduled within one further period. -/
def State.pulseEnd (s : State) (g : Nat) (lvl : Bool) (t : Nat) : Option Nat :=
  let now := s.shapeNow g
  let nxt := s.shapeNext g
  let centre := s.updown g && !(s.pgAt g).centreDone
  let mid := if s.loadsCentre g then nxt else now
  let per' := (s.rd (Reg.PWM_PER g)).toNat
  let up : Shape := { (if s.loadsStart g || (centre && s.loadsCentre g) then nxt else now) with per := per' }
  let down : Shape := if s.loadsCentre g then { nxt with per := per' } else up
  let split := if up.updown then up.half else up.len
  match now.flip lvl (s.fromStart g t) (s.segEnd g) with
  | some d => some (s.absolute g d)
  | none =>
    match (if centre then mid.flip lvl now.half now.len else none) with
    | some d => some (s.absolute g d)
    | none =>
      (match up.flip lvl 0 split with
       | some d => some d
       | none => down.flip lvl split down.len).map (fun d => 64 * (s.pgAt g).next + d)

/-! ## Edges -/

/-- The switch that level `lvl` turns on is on, or about to turn on, since this time. -/
def State.onSince (s : State) (g : Nat) (lvl : Bool) : Option Nat :=
  let p := s.pgAt g
  if lvl then (if p.hi then some p.onAt else p.pendHi) else if s.single g then none else (if p.lo then some p.onAt else p.pendLo)

/-- Dead time of the generator; none in a single-switch leg (R189). -/
def State.dead (s : State) (g : Nat) : Nat := if s.single g then 0 else s.dt g

/-- r takes level `lvl` at `t`: one switch turns off, the other turns on after dead time (R188, R189). -/
def State.commandEdge (s : State) (g : Nat) (lvl : Bool) (t : Nat) : State :=
  if s.safeHeld g then s
  else if s.single g then (if lvl then s.hiOn g t else s.hiOff g t)
  else if lvl then (s.loOff g t).modPg g (fun p => if p.hi then p else { p with pendHi := some (t + s.dt g) })
  else (s.hiOff g t).modPg g (fun p => if p.lo then p else { p with pendLo := some (t + s.dt g) })

def State.setR (s : State) (g : Nat) (lvl : Bool) (t : Nat) : State := s.modPg g (fun p => { p with r := lvl, doneTo := t })

/-- The r edge to level `lvl` at time `t`, with its judgement (R191-R193). The pulse that the edge begins is judged when a
switch turns on with it. -/
def State.refEdge (s : State) (g : Nat) (lvl : Bool) (t : Nat) (endT : Option Nat) : State :=
  if s.safeHeld g then s.setR g lvl t
  else
    let mp := s.minp g
    let judged := !s.single g || lvl
    let short := judged && endT.any (fun e => e < t + s.dead g + mp || e ≤ t + s.dead g)
    let stretch := s.on (Reg.PWM_CTRL g) Fld.PWM_CTRL_mpol && mp ≠ 0
    if short && !stretch then
      (s.modPg g (fun p => { p with doneTo := endT.getD t })).inc (Reg.PWM_CNT_DROP g)
    else if short then
      let e := t + s.dead g + mp
      (((s.commandEdge g lvl t).setR g lvl t).modPg g (fun p => { p with stretch := some e, doneTo := e })).inc (Reg.PWM_CNT_STRETCH g)
    else (s.commandEdge g lvl t).setR g lvl t

/-- An edge reached in the counter's course: a switch that has not been on for MINP stays on until turn-on plus MINP
(R193). -/
def State.courseEdge (s : State) (g t : Nat) : State :=
  let cur := (s.pgAt g).r
  let keep := (s.onSince g cur).map (fun o => o + s.minp g)
  if !s.safeHeld g && keep.any (fun k => t < k) then
    (s.modPg g (fun p => { p with stretch := keep, doneTo := keep.getD t })).inc (Reg.PWM_CNT_STRETCH g)
  else s.refEdge g (!cur) t (if s.gmode g = 2 then none else s.pulseEnd g (!cur) t)

/-! ## Shadows and load points -/

/-- Write shadow `k` (0 compare A, 1 compare B, 2 period), remembering what it held before this cycle (R198). -/
def State.setShadow (s : State) (g k : Nat) (v : Word) : State :=
  let a := if k = 0 then Reg.PWM_CMPA g else if k = 1 then Reg.PWM_CMPB g else Reg.PWM_PER g
  let old := (s.pgAt g).late.getD k none
  let keep := if old.any (fun o => o.1 = s.dtb) then old else some (s.dtb, s.rd a)
  (s.modPg g (fun p => { p with late := p.late.set k keep })).wr a v

/-- What a load point of this cycle takes from shadow `k`. -/
def State.shadow (s : State) (g k : Nat) : Word :=
  match (s.pgAt g).late.getD k none with
  | some (t, v) => if t = s.dtb then v else s.rd (if k = 0 then Reg.PWM_CMPA g else if k = 1 then Reg.PWM_CMPB g else Reg.PWM_PER g)
  | none => s.rd (if k = 0 then Reg.PWM_CMPA g else if k = 1 then Reg.PWM_CMPB g else Reg.PWM_PER g)

def State.loadCompares (s : State) (g : Nat) : State :=
  (s.wr (Reg.PWM_ACTA g) (s.shadow g 0)).wr (Reg.PWM_ACTB g) (s.shadow g 1)

/-- The newest float-leg write `w` of the stage whose first generator is `base`, made before this cycle, takes effect on
generator `g` if it names it or releases it (R352). -/
def State.floatTake (s : State) (g base : Nat) (w : Option (Nat × Nat)) (f : Field) : State × Bool :=
  match w with
  | none => (s, false)
  | some (c, t) =>
    let i := g - base
    if t = s.dtb then (s, false)
    else if c = i + 1 then (s.setf Reg.ACT_FLOAT f (2 ^ i), true)
    else if c = 0 && bit (s.fld Reg.ACT_FLOAT f) i then (s.setf Reg.ACT_FLOAT f 0, true)
    else (s, false)

/-- The float gate of R352 at a load point of generator `g`. -/
def State.floatApply (s : State) (g : Nat) : State :=
  if 24 ≤ g && g < 27 then
    let (s, done) := s.floatTake g 24 s.gate.floatSh Fld.ACT_FLOAT_sh
    let s := if done then s.modGate (fun q => { q with floatSh := none }) else s
    s.forN 6 (fun s k => s.lvUpdate (12 + k))
  else if 27 ≤ g && g < 30 then
    let (s, done) := s.floatTake g 27 s.gate.floatOp Fld.ACT_FLOAT_op
    let s := if done then s.modGate (fun q => { q with floatOp := none }) else s
    s.forN 6 (fun s k => s.lvUpdate (18 + k))
  else s

/-- A load point (R197): compares, the frame of every engine that names the generator (R129), the recorder (R79), the
float gate (R352). -/
def State.loadPoint (s : State) (g : Nat) : State :=
  (((s.loadCompares g).frames 1 g).recordAtLoad g).floatApply g

/-- The hand-over of a leg to GAIT (R235): every channel has 16 qualified edges, and those in PLAIN have no edge under way
and no detection in this cycle (R259). -/
def State.gaitHandover (s : State) (g : Nat) : State :=
  let chs := hvOfGen g
  let ready := fun n => s.fld (Reg.GCH_STAT n) Fld.GCH_STAT_qual = 16 &&
    (s.hvState n = chGait || (s.hvState n = chPlain && (s.hvAt n).edge.isNone && !(s.detectAt n).any (· ≤ s.dtb)))
  if !chs.isEmpty && chs.all ready then s.each chs (fun s n => s.setHvState n chGait) else s

/-- The excitation of resolver front end `d` is locked when its generator runs with a 100 µs period (R265). -/
def State.resolverLock (s : State) (g : Nat) : State :=
  s.forN 2 (fun s d =>
    if s.on (Reg.RES_CTRL d) Fld.RES_CTRL_en && s.fld (Reg.RES_CTRL d) Fld.RES_CTRL_gen = g then
      s.setb (Reg.RES_STAT d) Fld.RES_STAT_lock (s.running g && s.genCycles g = 40000)
    else s)

/-- A cleared trip ends at a period start (R217): the commands follow r, with dead time on every resulting edge. -/
def State.tripResume (s : State) (g : Nat) : State :=
  if s.tstate g = 3 then
    let s := s.setf (Reg.PWM_STAT g) Fld.PWM_STAT_tstate 0
    let r := (s.pgAt g).r
    if s.single g then (if r then s.hiOn g s.taps else s.hiOff g s.taps)
    else if r then (s.loOff g s.taps).modPg g (fun p => if p.hi then p else { p with pendLo := none, pendHi := some (s.taps + s.dt g) })
    else (s.hiOff g s.taps).modPg g (fun p => if p.lo then p else { p with pendHi := none, pendLo := some (s.taps + s.dt g) })
  else s

/-- The newest mapping is adopted at a period start strictly after the cycle in which it became available (R209). -/
def State.adoptMapping (s : State) (g : Nat) : State :=
  if s.yarrow.at_ < s.dtb then s.modPg g (fun p => { p with mapN := s.yarrow.n }) else s

/-- The minimum off-time of R205 counts from the fall of r at `t` taps. -/
def State.cotFell (s : State) (g t : Nat) : State :=
  if s.gmode g = 2 then s.modPg g (fun p => { p with cotReady := (t + 63) / 64 + (s.rd (Reg.PWM_ACTB g)).toNat / 64 }) else s

/-- A COT one-shot starts (R205-R207): r rises for the edge time of compare A. Compare A = 0
gives no pulse and ends a constant 1 with an edge (R186). -/
def State.cotRise (s : State) (g : Nat) : State :=
  let a := (s.rd (Reg.PWM_ACTA g)).toNat
  let s := s.modPg g (fun p => { p with cotLast := s.dtb, cotHeld := false, cotFall := none, matchDone := false })
  let r := (s.pgAt g).r
  if a = 0 then (if r then (s.refEdge g false s.taps none).cotFell g s.taps else s)
  else if (s.pgAt g).per ≤ a / 64 then (if r then s else s.refEdge g true s.taps none)
  else
    let e := s.taps + a
    if r then s.modPg g (fun p => { p with cotFall := some e })
    else
    let s' := (s.modPg g (fun p => { p with cotFall := some e })).refEdge g true s.taps (some e)
    if (s'.pgAt g).r then
      s'.modPg g (fun p => { p with cotFall := some (p.stretch.getD e) })
    else s'.modPg g (fun p => { p with cotFall := none })

/-- A period start of one generator, apart from the generators synced to it. -/
def State.periodStartOne (s : State) (g : Nat) : State :=
  let cot := s.gmode g = 2
  let per := (s.shadow g 2).toNat
  let s := s.modPg g (fun p => { p with per := per, centreDone := false, matchDone := false })
  let s := s.modPg g (fun p => { p with next := if cot then p.next else s.dtb + s.genCycles g, doneTo := max p.doneTo s.taps })
  let s := if cot || s.loadsStart g then s.loadPoint g else s
  let s := (s.tripResume g).adoptMapping g
  let s := if cot then s.cotRise g else s
  (((s.gaitHandover g).resolverLock g).adcEvent 1 g).ttSync 1 g

/-- Start position of R202 and R203: the cycles from the period start to position phs in direction dir, and whether the
centre has passed. -/
def State.phasePos (s : State) (g : Nat) : Nat × Bool :=
  let phs := s.fld (Reg.PWM_PHS g) Fld.PWM_PHS_phs
  let per := (s.pgAt g).per
  let down := s.updown g && 0 < phs && (phs = per || s.on (Reg.PWM_PHS g) Fld.PWM_PHS_dir)
  let cyc := (if down then 2 * per - phs else phs) * s.presc g
  (cyc, down)

/-- Generators synced to `g` that run (R203). -/
def State.synced (s : State) (g : Nat) : List Nat :=
  (List.range 40).filter (fun k => k ≠ g && s.running k && s.gmode k ≠ 2 &&
    s.on (Reg.PWM_SYNC k) Fld.PWM_SYNC_en && s.fld (Reg.PWM_SYNC k) Fld.PWM_SYNC_gen = g)

/-- A sync moves the counter of `k` when its count or direction differs; true when the new position is a period start of its
own. At count per the cycle is a centre (R218). r follows the new position from here, unless a pulse is held for MINP. -/
def State.syncMove (s : State) (k : Nat) : State × Bool :=
  let (cyc, down) := s.phasePos k
  let len := s.genCycles k
  if s.position k / s.presc k = cyc % max 1 len / s.presc k then (s, false)
  else
    let s := s.inc (Reg.PWM_CNT_SYNC k)
    let s := s.modPg k (fun p => { p with
      next := s.dtb + len - cyc, centreDone := down && len / 2 < cyc, doneTo := if p.stretch.isSome then p.doneTo else s.taps
      matchDone := down || (s.rd (Reg.PWM_ACTA k)).toNat / 64 * s.presc k < cyc })
    (s, cyc = 0)

/-- A period start (R180) with the syncs that follow from it, along chains of at most `n` masters. -/
def State.periodStart (s : State) : Nat → Nat → State
  | 0, g => s.periodStartOne g
  | n + 1, g =>
    let s := s.periodStartOne g
    s.each (s.synced g) (fun s k =>
      let (s, start) := s.syncMove k
      if start then State.periodStart s n k else s)

/-! ## Start and COT -/

/-- The counter starts in cycle `t` (R202): active registers loaded, position phs; a period start exactly at phs = 0. -/
def State.genStart (s : State) (g t : Nat) : State :=
  let s := (s.setf (Reg.PWM_STAT g) Fld.PWM_STAT_run 1).setf (Reg.PWM_STAT g) Fld.PWM_STAT_wait 0
  let s := (s.wr (Reg.PWM_ACTA g) (s.rd (Reg.PWM_CMPA g))).wr (Reg.PWM_ACTB g) (s.rd (Reg.PWM_CMPB g))
  let s := s.modPg g (fun p => { p with per := (s.rd (Reg.PWM_PER g)).toNat })
  let (cyc, down) := s.phasePos g
  s.modPg g (fun p => { p with
    next := if cyc = 0 then t else t + s.genCycles g - cyc
    centreDone := cyc = 0 || down, doneTo := 64 * t, r := false, stretch := none
    matchDone := cyc = 0 || down || (s.rd (Reg.PWM_ACTA g)).toNat / 64 * s.presc g < cyc
    cotFall := none, cotReady := 0, cotHeld := false, cotLast := t, cotFirst := cyc = 0 })

/-- A COT start event at the present cycle (R205, R206): it starts a one-shot, is held, or is counted. -/
def State.cotStart (s : State) (g : Nat) : State :=
  if s.running g && s.gmode g = 2 then
    let p := s.pgAt g
    if !p.r && p.cotReady ≤ s.dtb && !p.cotHeld && p.stretch.isNone then s.periodStart 40 g
    else if p.cotHeld then s.inc (Reg.PWM_CNT_SYNC g)
    else s.modPg g (fun p => { p with cotHeld := true })
  else s

/-- Start events that a compare A match of generator `g` gives (R205). -/
def State.cotFrom (s : State) (g : Nat) : State :=
  s.forN 40 (fun s k =>
    if s.gmode k = 2 && s.on (Reg.PWM_COT k) Fld.PWM_COT_src && s.fld (Reg.PWM_COT k) Fld.PWM_COT_gen = g then s.cotStart k else s)

/-- Generator period in cycles for the checks of R190 and R200; in COT mode it is taken as per cycles. -/
def State.checkPeriod (s : State) (g per : Nat) : Nat :=
  if s.gmode g = 2 then per else per * s.presc g * (if s.updown g then 2 else 1)

/-- The period condition of R190 holds. -/
def State.periodFits (s : State) (g per : Nat) : Bool := 2 * (s.dt g + s.minp g) + 16 * 64 ≤ 64 * s.checkPeriod g per

def State.pwmErr (s : State) (g : Nat) : State := s.setf (Reg.PWM_STAT g) Fld.PWM_STAT_cfg_err 1

end Sys2Proof.Machine
end

