-- ==== Sys2Proof/Machine/CanterCheck.lean ====
section
/-! DEFINITION. The static check of a law (R142, R143, R155, R156). -/

namespace Sys2Proof.Machine

/-- Words of a section, from its first instruction to its END. -/
def State.section (s : State) (e a b : Nat) : List Word := (List.range (b + 1 - a)).map (fun k => s.rd (Reg.LAW_MEM e (a + k)))

def State.mainSection (s : State) (e l : Nat) : List Word :=
  s.section e (s.fld (Reg.LAW_CODE e l) Fld.LAW_CODE_entry) (s.fld (Reg.LAW_CODE e l) Fld.LAW_CODE_end)
def State.aheadSection (s : State) (e l : Nat) : List Word :=
  if s.lawAhead e l then s.section e (s.fld (Reg.LAW_LAH e l) Fld.LAW_LAH_lentry) (s.fld (Reg.LAW_LAH e l) Fld.LAW_LAH_lend) else []

/-- What an instruction of the law reads and writes; SEL produces every register of the law's range (R170). An STS of a
law with a lookahead section is held and posts nothing at issue, so it takes no place of the Paddock port (R124, R172,
DEDUCED, log 90). -/
def State.useOf (s : State) (e l : Nat) (w : Word) : CanUse :=
  if canOp w = 0x3A then { dst := (List.range 64).filter (fun k => s.inRange e l k), lat := 2 }
  else if canOp w = 0x2D && s.lawAhead e l then { canUse w with places := 0 }
  else canUse w

/-- The issue cycle of the last instruction of a section, from reference cycle 0 (R128). -/
def State.lastIssue (s : State) (e l : Nat) : List Word → Sched → Nat
  | [], c => c.last
  | w :: ws, c =>
    let u := s.useOf e l w
    match issueCycle c u with
    | none => c.last
    | some t => s.lastIssue e l ws (afterWorst c u t)

/-- The cycle count of a section (R128). -/
def State.sectionCount (s : State) (e l : Nat) (ws : List Word) : Nat := s.lastIssue e l ws { last := 1 } + 1

/-- Control period of a generator in cycles from its shadow settings (R24, R129, R182). -/
def State.controlPeriod (s : State) (g : Nat) : Nat :=
  let n := (s.rd (Reg.PWM_PER g)).toNat * s.presc g
  if s.updown g && s.fld (Reg.PWM_CTRL g) Fld.PWM_CTRL_ld ≠ 3 then 2 * n else n

def State.framePeriod (s : State) (e : Nat) : Nat :=
  let i := s.fld (Reg.CE_CTRL e) Fld.CE_CTRL_fidx
  if s.fld (Reg.CE_CTRL e) Fld.CE_CTRL_fkind = 1 then s.controlPeriod i else (s.rd (Reg.TT_PER i)).toNat

/-- The other enabled laws of the engine. -/
def State.othersOn (s : State) (e l : Nat) : List Nat := (List.range 4).filter (fun k => k ≠ l && s.lawOn e k)

/-- Window of a law in its frame: WOPEN to WDUE + L. -/
def State.windowOf (s : State) (e l : Nat) : Nat × Nat := (s.lawOpen e l, s.lawDue e l + s.lawL e l)

def meets (a b : Nat × Nat) : Bool := a.1 ≤ b.2 && b.1 ≤ a.2

/-- Span of a law's lookahead (R152), from its declared count. -/
def State.spanOf (s : State) (e l : Nat) : Nat × Nat :=
  let o := s.fld (Reg.LAW_LOPEN e l) Fld.LAW_LOPEN_lopen
  (o, o + s.fld (Reg.LAW_CYC e l) Fld.LAW_CYC_lcyc - 1)

/-- Windows and protected intervals of a law within a frame of `p` cycles (R154). -/
def State.closedOf (s : State) (e l p : Nat) : List (Nat × Nat) :=
  let w := s.windowOf e l
  let o := (s.spanOf e l).1
  if !s.lawAhead e l then [w] else if w.2 < o then [w, (o, p), (0, w.2)] else [w, (o, w.2)]

/-- Some cycle of the frame lies outside every window and protected interval. -/
def freeCycle (cl : List (Nat × Nat)) (p : Nat) : Bool :=
  (0 :: cl.map (fun c => c.2 + 1)).any (fun t => t < p && cl.all (fun c => t < c.1 || c.2 < t))

def isEnd (w : Word) : Bool := w = canWord 0x01 []

/-- A directory entry is a local table, or a Paddock table, of valid size. -/
def State.localTable (s : State) (e t : Nat) : Bool :=
  let a := Reg.CE_TBL e t
  let n := s.fld a Fld.CE_TBL_n
  s.fld a Fld.CE_TBL_kind = 1 && 1 ≤ n && n ≤ 10 && s.fld a Fld.CE_TBL_base + 2 ^ n ≤ 4096
def State.pairTable (s : State) (e t : Nat) : Bool :=
  let a := Reg.CE_TBL e t
  let nx := s.fld a Fld.CE_TBL_nx
  let ny := s.fld a Fld.CE_TBL_ny
  s.fld a Fld.CE_TBL_kind = 2 && 1 ≤ nx && nx ≤ 7 && 1 ≤ ny && ny ≤ 7 && nx + ny ≤ 12

/-- Type Q15, BOOL or ENUM of a defined signal. -/
def State.lawType (s : State) (id : Nat) : Bool :=
  let d := s.desc id
  dDefined d && (dType d = 0 || dType d = 5 || dType d = 6)
def State.lawOwns (s : State) (e l id : Nat) : Bool := dOclass (s.desc id) = 1 && dOindex (s.desc id) = 4 * e + l

/-! ## The checks, each true when the law passes -/

def State.chkFrame (s : State) (e : Nat) : Bool := s.on (Reg.CE_CTRL e) Fld.CE_CTRL_en && s.hasFrame e

def endsOnly (ws : List Word) : Bool := ws.getLast?.any isEnd && ws.dropLast.all (fun w => !isEnd w)

def State.chkRange (s : State) (e l : Nat) : Bool :=
  let a := Reg.LAW_CTRL e l
  let n := s.fld (Reg.LAW_DREG e l) Fld.LAW_DREG_dcnt
  let k := s.fld a Fld.LAW_CTRL_tkind
  24 ≤ s.lawL e l && s.fld (Reg.LAW_CODE e l) Fld.LAW_CODE_entry ≤ s.fld (Reg.LAW_CODE e l) Fld.LAW_CODE_end &&
    endsOnly (s.mainSection e l) &&
    (!s.lawAhead e l || (s.fld (Reg.LAW_LAH e l) Fld.LAW_LAH_lentry ≤ s.fld (Reg.LAW_LAH e l) Fld.LAW_LAH_lend && endsOnly (s.aheadSection e l))) &&
    s.fld a Fld.LAW_CTRL_phase ≤ s.fld a Fld.LAW_CTRL_dec &&
    s.fld (Reg.LAW_DREG e l) Fld.LAW_DREG_dbase + (if n = 0 then 64 else n) ≤ 64 &&
    !((k = 2 || k = 3) && 7 < s.fld a Fld.LAW_CTRL_tidx)

def runAhead (op : Nat) : Bool := 0x38 ≤ op && op ≤ 0x3B

def State.chkOpcode (s : State) (e l : Nat) : Bool :=
  (s.mainSection e l ++ s.aheadSection e l).all (fun w =>
    canLegal w && !(canOp w = 0x02 && 12 ≤ Word.get w fCond) &&
      !(canOp w = 0x11 && (sx 6 (Word.get w fY) < -16 || 15 < sx 6 (Word.get w fY))) &&
      (s.lawAhead e l || !runAhead (canOp w)))

def skipsOk (ws : List Word) : Bool :=
  (List.range ws.length).all (fun i =>
    let w := ws.getD i 0
    canOp w ≠ 0x02 || (Word.get w fN ≠ 0 && i + 1 + Word.get w fN < ws.length))

def State.chkSkip (s : State) (e l : Nat) : Bool := skipsOk (s.mainSection e l) && skipsOk (s.aheadSection e l)

def State.chkReg (s : State) (e l : Nat) : Bool :=
  (s.mainSection e l ++ s.aheadSection e l).all (fun w =>
    let u := canUse w
    (u.src ++ u.dst ++ u.also).all (fun k => s.inRange e l k) && u.adst.all (· < 4) && !(canOp w = 0x19 && Word.get w fA % 2 = 1)) &&
  (!s.lawAhead e l || (List.range 8).all (fun k =>
    !(s.on (Reg.LAW_CAP e l k) Fld.LAW_CAP_en && s.fld (Reg.LAW_PRD e l k) Fld.LAW_PRD_kind = 3) ||
      s.inRange e l (s.fld (Reg.LAW_PRD e l k) Fld.LAW_PRD_m)))

def State.chkOwner (s : State) (e l : Nat) : Bool :=
  (s.mainSection e l ++ s.aheadSection e l).all (fun w =>
    let id := Word.get w fSig
    (canOp w ≠ 0x2C || s.lawType id) && (canOp w ≠ 0x2D || (s.lawType id && s.lawOwns e l id)))

def State.chkTable (s : State) (e l : Nat) : Bool :=
  (s.mainSection e l ++ s.aheadSection e l).all (fun w =>
    (canOp w ≠ 0x28 || s.localTable e (Word.get w fT)) && (canOp w ≠ 0x29 || s.pairTable e (Word.get w fT)))

/-- Generators named by other enabled laws of the device (R135). -/
def State.namedElsewhere (s : State) (e l g : Nat) : Bool :=
  (List.range 12).any (fun e' => (List.range 4).any (fun l' => !(e' = e && l' = l) && s.lawOn e' l' && (s.lawGens e' l').contains g))

def State.chkOut (s : State) (e l : Nat) : Bool :=
  (s.mainSection e l ++ s.aheadSection e l).all (fun w =>
    !(canOp w = 0x34 || canOp w = 0x35) || (s.omap e l (Word.get w fKo)).isSome) &&
  (s.lawGens e l).all (fun g => !s.namedElsewhere e l g)

/-- Capture named by a word, if it names one. -/
def capOf (w : Word) : Option Nat :=
  match canOp w with
  | 0x2E => some (Word.get w fK)
  | 0x2F => some (Word.get w fK)
  | 0x38 => some (Word.get w fK)
  | 0x39 => some (Word.get w fKb)
  | 0x3B => some (Word.get w fK)
  | 0x02 => if Word.get w fCond = 9 || Word.get w fCond = 10 then some (Word.get w fR % 8) else none
  | _ => none

def State.chkCapture (s : State) (e l : Nat) : Bool :=
  (s.mainSection e l ++ s.aheadSection e l).all (fun w => (capOf w).all (fun k =>
    s.on (Reg.LAW_CAP e l k) Fld.LAW_CAP_en && dDefined (s.desc (s.fld (Reg.LAW_CAP e l k) Fld.LAW_CAP_sig))))

/-- No word of opcode `b` stands after one of opcode `a`. -/
def notAfter (a b : Nat) : List Word → Bool
  | [] => true
  | w :: ws => (canOp w ≠ a || ws.all (fun v => canOp v ≠ b)) && notAfter a b ws

def orderOk (ws : List Word) : Bool :=
  (ws.filter (fun w => canOp w = 0x30)).length ≤ 1 && notAfter 0x2F 0x30 ws && notAfter 0x31 0x2F ws

def State.chkOrder (s : State) (e l : Nat) : Bool := orderOk (s.mainSection e l) && orderOk (s.aheadSection e l)

def State.chkCycles (s : State) (e l : Nat) : Bool :=
  let c := s.sectionCount e l (s.mainSection e l)
  c = s.fld (Reg.LAW_CYC e l) Fld.LAW_CYC_cyc && c + 2 ≤ s.lawL e l

def State.chkWindow (s : State) (e l : Nat) : Bool :=
  let w := s.windowOf e l
  s.lawOpen e l ≤ s.lawDue e l && w.2 < s.framePeriod e && (s.othersOn e l).all (fun k => !meets w (s.windowOf e k))

def State.chkDreg (s : State) (e l : Nat) : Bool :=
  (s.othersOn e l).all (fun k => (List.range 64).all (fun r => !(s.inRange e l r && s.inRange e k r)))

/-- Words from the first BND of branch `b` on. -/
def fromBnd (b : Nat) (ws : List Word) : List Word := ws.dropWhile (fun w => !(canOp w = 0x39 && Word.get w fBb = b))

/-- Words of the branch A part. -/
def partA (ws : List Word) : List Word := (fromBnd 0 ws).takeWhile (fun w => !(canOp w = 0x39 && Word.get w fBb = 1))

def isOut (w : Word) : Bool := canOp w = 0x34 || canOp w = 0x35

/-- Distinct captures bounded for branch `b`. -/
def boundCaps (b : Nat) (ws : List Word) : Nat :=
  ((ws.filter (fun w => canOp w = 0x39 && Word.get w fBb = b)).map (fun w => Word.get w fKb)).eraseDups.length

def aheadPlacement (ws : List Word) : Bool :=
  ws.all (fun w => !([0x3A, 0x3B, 0x31, 0x2D, 0x30, 0x2F].contains (canOp w))) &&
    (ws.filter isOut).length = ((partA ws).filter isOut).length

def settlePlacement (ws : List Word) : Bool :=
  ws.all (fun w => canOp w ≠ 0x38 && canOp w ≠ 0x39) && ws.head?.any (fun w => canOp w = 0x3A) &&
    (ws.filter (fun w => canOp w = 0x3A)).length = 1 && (ws.filter (fun w => canOp w = 0x2D)).length ≤ 8

def State.chkLah (s : State) (e l : Nat) : Bool :=
  if !s.lawAhead e l then true
  else
    let ws := s.aheadSection e l
    let c := s.sectionCount e l ws
    let o := s.fld (Reg.LAW_LOPEN e l) Fld.LAW_LOPEN_lopen
    let p := s.framePeriod e
    let sp := (o, o + c - 1)
    let others := s.othersOn e l
    c = s.fld (Reg.LAW_CYC e l) Fld.LAW_CYC_lcyc && ((s.windowOf e l).2 < o || o + c < s.lawOpen e l) && o + c < p &&
      (l :: others).all (fun k => !meets sp (s.windowOf e k)) &&
      others.all (fun k => !s.lawAhead e k || !meets sp (s.spanOf e k)) &&
      freeCycle ((l :: others).flatMap (fun k => s.closedOf e k p)) p &&
      aheadPlacement ws && settlePlacement (s.mainSection e l) &&
      ws.any (fun w => canOp w = 0x39 && Word.get w fBb = 0) &&
      (fromBnd 1 ws).all (fun w => !(canOp w = 0x39 && Word.get w fBb = 0)) && boundCaps 0 ws ≤ 4 && boundCaps 1 ws ≤ 4

/-- The code of the first failed check, 0 when every check passes (R142). -/
def State.staticCheck (s : State) (e l : Nat) : Nat :=
  if !s.chkFrame e then 1 else if !s.chkRange e l then 2 else if !s.chkOpcode e l then 3 else if !s.chkSkip e l then 4
  else if !s.chkReg e l then 5 else if !s.chkOwner e l then 6 else if !s.chkTable e l then 7 else if !s.chkOut e l then 8
  else if !s.chkCapture e l then 9 else if !s.chkOrder e l then 10 else if !s.chkCycles e l then 11
  else if !s.chkWindow e l then 12 else if !s.chkDreg e l then 13 else if !s.chkLah e l then 14 else 0

/-- The law is enabled by a check that passed (R139, R142, R153, R159): previous tags clear, histories from the captures. Its
lookahead may still start in the present frame when it prepares the next one. -/
def State.lawStart (s : State) (e l : Nat) : State :=
  let s := ((s.setf (Reg.LAW_CTRL e l) Fld.LAW_CTRL_en 1).setf (Reg.LAW_CTRL e l) Fld.LAW_CTRL_busy 0).setOwned e l true
  let s := s.modCe e (fun c => { c with prevTag := (List.range 64).map (fun k => if s.inRange e l k then false else c.prevTag.getD k false) })
  let o := s.fld (Reg.LAW_LOPEN e l) Fld.LAW_LOPEN_lopen
  s.modLaw e l (fun w => { w with
    frame := none, used := false, trig := none, sec := none, outDue := none, fbDue := none, lastOut := noOutputs, staged := noOutputs
    prevMissed := false, lookDone := (s.ceAt e).frame.all (fun f => f + o < s.dtb), undo := none, wroteAt := none, aheadEnd := none
    hist := w.caps.map (fun c => (c.v, c.v)), caps := w.caps.map (fun c => { c with fresh := false }) })

/-- The law segment register of a table lookup. -/
def State.setSeg (s : State) (e l i : Nat) : State := s.modLaw e l (fun w => { w with seg := i })

end Sys2Proof.Machine
end

