-- ==== Sys2Proof/Machine/CanterOps.lean ====
section
/-! DEFINITION. How an instruction of a running section issues, what it reads, and how sections end (spec/04, spec/05). -/

namespace Sys2Proof.Machine

/-- The bank of the part of the lookahead in which address `pc` lies (R163). -/
def State.partOf (s : State) (e l pc : Nat) : BankSel :=
  let ws := (s.aheadSection e l).take (pc + 1 - s.fld (Reg.LAW_LAH e l) Fld.LAW_LAH_lentry)
  if !(fromBnd 1 ws).isEmpty then .b else if !(fromBnd 0 ws).isEmpty then .a else .both

/-- The instruction word `w` issues in law slot `l` of engine `e` if the slot has a section running whose next word is
`w` and its sources are ready (R123, R124); `f` is its effect, given the section after the issue and the issue cycle. -/
def State.canIssue (s : State) (e l : Nat) (w : Word) (f : State → Section → Nat → State) : State :=
  match (s.lawAt e l).sec with
  | none => s
  | some c =>
    if (s.lawAt e l).prod.isSome || s.rd (Reg.LAW_MEM e c.pc) ≠ w then s
    else
      let u := s.useOf e l w
      let q := { c.sched with port := (s.ceAt e).port }
      match issueCycle q u with
      | none => s
      | some t =>
        let q := afterIssue q u t
        let c := { c with pc := c.pc + 1, sched := { q with port := [] }, sel := if c.look then s.partOf e l c.pc else c.sel }
        f (((s.reach t).modCe e (fun k => { k with port := q.port })).modLaw e l (fun k => { k with sec := some c })) c t

/-- Command outcome of the Canter instruction with opcode `op` and operand fields `fs`; an operand beyond its field is no
instruction. -/
def canRun (e l op : Nat) (fs : List (Field × Nat)) (s : State) (f : State → Section → Nat → State) : Outcome :=
  ofUnit (e < 12 && l < 4 && fs.all (fun f => f.2 < 2 ^ f.1.len)) (s.canIssue e l (canWord op fs) f)

def State.modSec (s : State) (e l : Nat) (f : Section → Section) : State := s.modLaw e l (fun w => { w with sec := w.sec.map f })

/-! ## Values -/

/-- Operand register, tag and accumulator as the section reads them. -/
def State.dx (s : State) (e l : Nat) (c : Section) (k : Nat) : Int := s.dGet e l c.sel k

/-- A saturating result with its tag (R116). -/
def State.putSat (s : State) (e l : Nat) (c : Section) (d : Nat) (z : Int) : State := s.dSet e l c.sel d (sat16 z) (sat16 z ≠ z)

def State.acc (s : State) (e a : Nat) : Int := ((s.ceAt e).acc.getD a 0).toInt

/-- An accumulator write; a saturated one sets LAW_STAT.sat (R114). -/
def State.putAcc (s : State) (e l a : Nat) (z : Int) : State :=
  let v := satAcc z
  let s := s.modCe e (fun c => { c with acc := c.acc.set a (BitVec.ofInt 40 v.1) })
  if v.2 then s.setb (Reg.LAW_STAT e l) Fld.LAW_STAT_sat true else s

def State.setNZ (s : State) (e : Nat) (z : Int) : State := s.modCe e (fun c => { c with n := z < 0, z := z = 0 })

/-- Capture k as an instruction of the section reads it: the snapshot in a settle section, else as latched (R136, R156,
R167). -/
def State.capture (s : State) (e l : Nat) (c : Section) (k : Nat) : Capture :=
  let w := s.lawAt e l
  if s.lawAhead e l && !c.look then w.snap.getD k {} else w.caps.getD k {}

/-- A bound holds (R169). -/
def State.boundHolds (s : State) (e l : Nat) (b : Bound) : Bool :=
  let c := (s.lawAt e l).snap.getD b.cap {}
  let v := c.v.toInt
  (c.q = qValid || c.q = qReduced) && !c.ovr &&
    (if s.fld (Reg.LAW_PRD e l b.cap) Fld.LAW_PRD_kind = 2 then ux 16 (v - b.lo) ≤ ux 16 (b.hi - b.lo) else b.lo ≤ v && v ≤ b.hi)

/-- Prediction of capture k for a section that reads file `sel` (R158, R160). -/
def State.prediction (s : State) (e l k : Nat) (sel : BankSel) : Int :=
  if s.fld (Reg.LAW_PRD e l k) Fld.LAW_PRD_kind = 3 then s.dGet e l sel (s.fld (Reg.LAW_PRD e l k) Fld.LAW_PRD_m)
  else ((s.lawAt e l).pred.getD k 0).toInt

/-- The predictions of kinds HOLD, LIN and ANGLE in cycle lopen (R158, R160). -/
def State.predictAll (s : State) (e l : Nat) : State :=
  s.modLaw e l (fun w => { w with pred := (List.range 8).map (fun k =>
    let h := w.hist.getD k (0, 0)
    match s.fld (Reg.LAW_PRD e l k) Fld.LAW_PRD_kind with
    | 1 => BitVec.ofInt 16 (sat16 (2 * h.1.toInt - h.2.toInt))
    | 2 => BitVec.ofInt 16 (2 * h.1.toInt - h.2.toInt)
    | _ => h.1) })

/-- Period value P of the generator that output k names (R132): the value in force, or the shadow of a stopped one. -/
def State.outPeriod (s : State) (e l k : Nat) : Nat :=
  match s.omap e l k with
  | none => 0
  | some (g, _) => if s.running g then (s.pgAt g).per else (s.rd (Reg.PWM_PER g)).toNat

/-- Stage output k: into the fallback set in a lookahead, into the outputs otherwise (R133, R165). -/
def State.stage (s : State) (e l : Nat) (c : Section) (k : Nat) (v : Word) : State :=
  s.modLaw e l (fun w => if c.look then { w with fbSet := setAt w.fbSet k v } else { w with staged := setAt w.staged k v })

/-- The engine's port presents an access that issued in cycle `t`: one access in a cycle, and not before the next cycle; it
holds a place until it completes (R77, R124). -/
def State.present (s : State) (e sig t : Nat) (k : Nat → Access) : State :=
  let p := max (t + 1) (s.ceAt e).portNext
  (s.modCe e (fun c => { c with portNext := p + 1, port := c.port ++ [none] })).bankAsk sig p (k p)

/-- The first outstanding place of a section completes at `t`. -/
def freePlace : List (Option Nat) → Nat → List (Option Nat)
  | [], _ => []
  | none :: p, t => some t :: p
  | some x :: p, t => some x :: freePlace p t

/-- Registers `ds` wait for a Paddock read. -/
def State.awaitRegs (s : State) (e l : Nat) (ds : List Nat) : State :=
  s.modSec e l (fun c => { c with sched := { c.sched with rdyD := ds.foldl (fun r d => r.set d none) c.sched.rdyD } })

/-- An access of the engine has completed at `t`: its place is free. -/
def State.placeFree (s : State) (e t : Nat) : State := s.modCe e (fun c => { c with port := freePlace c.port t })

/-- Registers `ds` of the section that started at `start` are ready from cycle `t`. -/
def State.regsReady (s : State) (e l start t : Nat) (ds : List Nat) : State :=
  s.modSec e l (fun c => if c.t = start then
    { c with sched := { c.sched with rdyD := ds.foldl (fun r d => r.set d (some t)) c.sched.rdyD } } else c)

/-! ## End of a section -/

/-- The tags of the law's range become the previous tags (R140). -/
def State.snapTags (s : State) (e l : Nat) : State :=
  s.modCe e (fun c => { c with prevTag := (List.range 64).map (fun k =>
    if s.inRange e l k then c.bank.tag.getD k false else c.prevTag.getD k false) })

/-- The selected bank becomes the committed register file of the law's range (R173). -/
def State.commitBank (s : State) (e l : Nat) (sel : BankSel) : State :=
  s.modCe e (fun c =>
    let b := c.file l sel
    { c with bank := {
      d := (List.range 64).map (fun k => if s.inRange e l k then b.d.getD k 0 else c.bank.d.getD k 0)
      tag := (List.range 64).map (fun k => if s.inRange e l k then b.tag.getD k false else c.bank.tag.getD k false) } })

/-- A complete execution (R134, R140, R173): counters, tag snapshot, outputs due at T + L, held writes posted. -/
def State.completeRun (s : State) (e l : Nat) (c : Section) (t : Nat) : State :=
  let w := s.lawAt e l
  let undo : EndUndo := {
    at_ := t, bank := (s.ceAt e).bank, prevTag := (s.ceAt e).prevTag, lastOut := w.lastOut, prevMissed := w.prevMissed, words := (endRegs e l).map s.rd }
  let s := if s.lawAhead e l then (s.commitBank e l c.sel).inc (if c.sel = .b then Reg.LAW_CNT_HITB e l else Reg.LAW_CNT_HITA e l) else s
  let s := (s.snapTags e l).inc (Reg.LAW_CNT_RUN e l)
  let s := if w.anyTag then s.inc (Reg.LAW_CNT_SAT e l) else s
  let n := t + 1 - c.t
  let s := if s.fld (Reg.LAW_STAT e l) Fld.LAW_STAT_maxc < n then s.setf (Reg.LAW_STAT e l) Fld.LAW_STAT_maxc n else s
  let s := s.setLast e l (if s.lawAhead e l && c.sel = .b then 2 else 1)
  let s := s.modLaw e l (fun w => { w with
    outDue := some (c.t + s.lawL e l, w.staged), lastOut := w.staged, prevMissed := false, anyTag := false
    bounds := [], fbSet := noOutputs, bankA := {}, bankB := {}, held := [], undo := some undo })
  (s.each w.held (fun s h => s.present e h.1 (t + 1) (fun _ => .lawWrite e l h.2 c.t qValid))).endSection e l

/-- END (R140, R166, R172, R173). -/
def State.endOf (s : State) (e l : Nat) (c : Section) (t : Nat) : State :=
  if c.look then ((s.endSection e l).modLaw e l (fun w => { w with aheadEnd := some t })).setf (Reg.LAW_RSTAT e l) Fld.LAW_RSTAT_lah_valid 1
  else s.completeRun e l c t

/-- Outputs that are due are written into the shadows their map selects (R134, R175), unless a line of LAW_TRIPM is
active (R146); a trip of this cycle takes the write back (R179). -/
def State.writeOutputs (s : State) (e l : Nat) (outs : List (Option Word)) : State :=
  if s.lawTripped e l then s
  else (s.modLaw e l (fun w => { w with wroteAt := some s.dtb })).forN 8 (fun s k =>
    match s.omap e l k, outs.getD k none with
    | some (g, b), some v => s.setShadow g b v
    | _, _ => s)

/-- A window or a protected interval of the engine is open (R119, R154). -/
def State.coefBlocked (s : State) (e : Nat) : Bool :=
  (List.range 4).any (fun l => s.lawOn e l && (s.windowOpen e l s.dtb || (s.lawAt e l).sec.isSome ||
    s.on (Reg.LAW_RSTAT e l) Fld.LAW_RSTAT_lah_valid))

/-- Write halfword i of the coefficient memory. -/
def State.setCoef (s : State) (e i : Nat) (v : Word) : State := s.setf (Reg.COEF_MEM e (i / 2)) ⟨16 * (i % 2), 16⟩ v.toNat

/-- Stages whose generators the engine's enabled laws name (R149). -/
def State.engineStages (s : State) (e : Nat) : List Nat :=
  (((List.range 4).filter (fun l => s.lawOn e l)).flatMap (fun l => (s.lawGens e l).filterMap stageOfGen)).eraseDups

end Sys2Proof.Machine
end

