-- ==== Sys2Proof/Machine/Production.lean ====
section
/-! DEFINITION. The production laws that Basore builds and the sequencers load: their settings, and what one execution computes
from its captures and signals (spec/08 to spec/11). Each step rounds and saturates as the Canter instructions do (R115, R116,
R605); gains, distances and limits that commissioning or Basore fixes are the free coefficients of Config.lawCoef (log 111). -/

namespace Sys2Proof.Machine

/-! ## Arithmetic -/

/-- Product of two Q15 numbers. -/
def qmul (a b : Int) : Int := sat16 (rnd 15 (a * b))

/-- Product with a Q15 fraction scaled by 2^e (R268). -/
def qscale (a k : Int) (e : Nat) : Int := sat16 (rnd 15 (a * k * 2 ^ e))

/-- n / d to the nearest integer, limited to 16 bits; a zero divisor saturates as in DIV. -/
def qdiv (n d : Int) : Int :=
  if d = 0 then (if 0 ≤ n then 0x7FFF else -32768)
  else
    let (a, b) := if d < 0 then (-n, -d) else (n, d)
    sat16 ((2 * a + b) / (2 * b))

/-- A number modulo 2^16, as an angle. -/
def wrap16 (z : Int) : Int := sx 16 (ux 16 z)

/-- The root of a non-negative number, to the nearest integer. -/
def nearRoot (z : Int) : Int := ((isqrt (4 * z).toNat : Int) + 1) / 2

/-- A PI controller whose integrator holds while `hold` (R139): the integrator and the output. -/
def piStep (kp ki err integ : Int) (hold : Bool) : Int × Int :=
  let i := if hold then integ else sat16 (integ + qmul ki err)
  (i, sat16 (qmul kp err + i))

/-! ## Signals with stated defaults -/

/-- A signal that nothing has written yet. -/
def State.unset (s : State) (id : Nat) : Bool := metaQuality (s.sig id).mword = qInit

/-- A Q15 signal with the default that the spec states for it until it is written. -/
def State.qty (s : State) (id : Nat) (dflt : Int) : Int := if s.unset id then dflt else s.q15 id
def State.num (s : State) (id dflt : Nat) : Nat := if s.unset id then dflt else s.val id

/-- Derate factor of a zone in 1/32,768; the register's greatest value stands for 1 (R432). -/
def State.derate (s : State) (z : Nat) : Int :=
  let d := s.fld (Reg.TH_ZDER z) Fld.TH_ZDER_d
  if d = 0x7FFF then 32768 else d

/-! ## Settings -/

/-- Settings of a production law that the chapters state: trigger, decimation and phase, L, outputs and captures. -/
structure LawSet where
  trigger : Option (Nat × Nat) := none
  dec : Option (Nat × Nat) := none
  latency : Option Nat := none
  outs : List (Nat × Nat) := []
  caps : List Nat := []
  ahead : Bool := false

/-- Signal of a drive. -/
def dsig (d i : Nat) : Nat := sid (d + 1) i
/-- Signals of the charge plane, of the solar port, of the LV converter and of the actuators. -/
def csig (i : Nat) : Nat := sid 4 i
def solsig (i : Nat) : Nat := sid 5 i
def lsig (i : Nat) : Nat := sid 6 i
def asig (i : Nat) : Nat := sid 7 i

/-- Frames of a drive per execution of its position and speed law (R24, R262). -/
def State.speedFrames (s : State) (d : Nat) : Nat := 40000 / max 1 (s.controlPeriod (3 * d))

/-- What a law slot of the module is built for. -/
inductive LawJob where
  | current (d : Nat)
  | coupledCurrent
  | angle (d : Nat)
  | position (d : Nat)
  | linkLoss
  | pfc
  | linkVoltage
  | isolation
  | dcx
  | onTime
  | trim
  | motor (m : Nat)
  | park
  | clutch
  | solar
  deriving DecidableEq, Repr

/-- The production law of slot `l` of engine `e` (R262, R287, R288, and the stage tables of spec/09 to spec/11). -/
def lawJob (e l : Nat) : Option LawJob :=
  match e, l with
  | 0, 0 => some (.current 0)
  | 1, 0 => some (.angle 0)
  | 1, 1 => some (.position 0)
  | 2, 0 => some (.current 1)
  | 3, 0 => some (.angle 1)
  | 3, 1 => some (.position 1)
  | 4, 0 => some .pfc
  | 5, 0 => some .linkVoltage
  | 5, 1 => some .isolation
  | 6, 0 => some .dcx
  | 6, 1 => some .onTime
  | 6, 2 => some .trim
  | 7, 0 => some (.motor 0)
  | 7, 1 => some .park
  | 8, 0 => some (.motor 1)
  | 8, 1 => some .clutch
  | 8, 2 => some .solar
  | 9, 1 => some .linkLoss
  | 10, 0 => some .coupledCurrent
  | 11, 0 => some (.angle 0)
  | 11, 1 => some (.position 0)
  | _, _ => none

/-- Compare A of `n` generators from `g`. -/
def comparesA (g n : Nat) : List (Nat × Nat) := (List.range n).map (fun k => (g + k, 0))

/-- The settings of a production law. -/
def State.lawSet (s : State) (e : Nat) : LawJob → LawSet
  | .current d => { trigger := some (2, d), dec := some (0, 0), latency := some 40, outs := comparesA (3 * d) 3, ahead := true
                    caps := [0x100, 0x101, 0x200, 0x210, 0x211, 0x220].map (dsig d) }
  | .coupledCurrent => { trigger := some (2, 0), dec := some (0, 0), latency := some 48, outs := comparesA 0 6
                         caps := [dsig 0 0x100, dsig 0 0x101, dsig 1 0x100, dsig 1 0x101] ++ [0x200, 0x210, 0x211, 0x220].map (dsig 0) }
  | .angle d => { trigger := some (2, d), dec := some (0, 0), latency := some 48, caps := [dsig d 0x113] }
  | .position d =>
    let k := s.speedFrames d
    { trigger := some (1, 4 * (3 + 4 * d) + 1), dec := some (k - 1, s.fld (Reg.LAW_CTRL e 1) Fld.LAW_CTRL_phase), latency := some 240
      caps := [0x114, 0x115, 0x117, 0x116].map (dsig d) }
  | .linkLoss => { caps := [sid 3 0x10] }
  | .pfc => { outs := comparesA 6 4 }
  | .linkVoltage => {}
  | .isolation => { outs := [(12, 0), (12, 1), (13, 0), (13, 1)] }
  | .dcx => { outs := if s.lv.dcxReverse then [(22, 0)] else [(14, 0), (15, 0)] }
  | .onTime => { trigger := some (1, 48), outs := comparesA 18 4 }
  | .trim => {}
  | .motor m => if m = 0 then { trigger := some (2, 3), outs := comparesA 24 3 } else { trigger := some (1, 53), outs := comparesA 27 3 }
  | .park => { trigger := some (1, 53), outs := comparesA 30 2 }
  | .clutch => { trigger := some (1, 53), outs := comparesA 32 1 }
  | .solar => { outs := comparesA 23 1 }

/-- The frame that a rule gives a production engine: 1 generator or 2 timer, and its index (R262, R288, R331, R350). -/
def engineFrame (e : Nat) : Option (Nat × Nat) :=
  if e < 2 || e = 10 || e = 11 then some (1, 0)
  else if e < 4 then some (1, 3)
  else if e = 6 then some (2, 3)
  else if e = 7 then some (1, 24)
  else if e = 8 then some (2, 4)
  else none

/-- Trigger timer `n` runs with the period `per`, restarted at the period starts of generator `sync` if one is given (R111). -/
def State.timerRun (s : State) (n per : Nat) (sync : Option Nat) : State :=
  let a := Reg.TT_CTL n
  let s := ((s.wr (Reg.TT_PER n) (W per)).setf a Fld.TT_CTL_skind (if sync.isSome then 1 else 0)).setf a Fld.TT_CTL_sidx (sync.getD 0)
  (s.setf a Fld.TT_CTL_en 1).ttStart n

/-- An engine that is not enabled takes its frame: TT3 of CE6 counts 4,000 cycles, TT4 of CE8 20,000 from the period start of
PG24 (R331, R350). -/
def State.loadFrame (s : State) (e : Nat) : State :=
  if s.on (Reg.CE_CTRL e) Fld.CE_CTRL_en then s
  else
    match engineFrame e with
    | none => s
    | some (k, i) =>
      let s := (s.setf (Reg.CE_CTRL e) Fld.CE_CTRL_fkind k).setf (Reg.CE_CTRL e) Fld.CE_CTRL_fidx i
      if e = 6 then s.timerRun 3 4000 none else if e = 8 then s.timerRun 4 20000 (some 24) else s

/-- A sequencer loads a production law: the settings above into its slot, its own memory empty (R262, R266, R267, R275). The
settings that no rule states, such as its window and the phase of the speed law, stand as the slot's registers hold them
(log 111). -/
def State.loadLaw (s : State) (e l : Nat) : State :=
  match lawJob e l with
  | none => s
  | some j =>
    if s.lawOn e l || s.lawBusy e l then s
    else
      let p := s.lawSet e j
      let a := Reg.LAW_CTRL e l
      let s := match p.trigger with
        | some (k, i) => (s.setf a Fld.LAW_CTRL_tkind k).setf a Fld.LAW_CTRL_tidx i
        | none => s
      let s := match p.dec with
        | some (d, f) => (s.setf a Fld.LAW_CTRL_dec d).setf a Fld.LAW_CTRL_phase f
        | none => s
      let s := match p.latency with
        | some n => s.setf (Reg.LAW_TIME e l) Fld.LAW_TIME_L n
        | none => s
      let s := s.forN 8 (fun s k => s.wr (Reg.LAW_OMAP e l k) (match p.outs[k]? with
        | some (g, c) => W (g + 256 * c + 0x8000)
        | none => 0))
      let s := s.forN 8 (fun s k => s.wr (Reg.LAW_CAP e l k) (match p.caps[k]? with
        | some id => W (id + 0x80000000)
        | none => 0))
      let s := if p.ahead then
          let s := (s.setf a Fld.LAW_CTRL_fb 1).setf (Reg.LAW_LAH e l) Fld.LAW_LAH_len 1
          s.forN 6 (fun s k => s.wr (Reg.LAW_PRD e l k) (if k < 2 then 0x11 else 0))
        else s.setf (Reg.LAW_LAH e l) Fld.LAW_LAH_len 0
      s.modLaw e l (fun w => { w with prod := some {} })

/-- The slot no longer holds a production law. -/
def State.unloadLaw (s : State) (e l : Nat) : State :=
  if s.lawOn e l || s.lawBusy e l then s else s.modLaw e l (fun w => { w with prod := none })

/-! ## What an execution gives -/

/-- What an execution computes: its memory, its outputs, and its signal writes with their quality. -/
structure LawRun where
  mem : ProdMem
  outs : List (Option Word) := noOutputs
  writes : List (Nat × Int × Nat) := []
  /-- Active limit of S.1.0321, for the position and speed law. -/
  limit : Option (Nat × Nat) := none

def State.snapAt (s : State) (e l k : Nat) : Capture := (s.lawAt e l).snap.getD k {}
def State.prodMem (s : State) (e l : Nat) : ProdMem := ((s.lawAt e l).prod).getD {}
def outputs (ws : List Word) : List (Option Word) := (List.range 8).map (fun k => ws[k]?)

/-! ## Position and speed (R268, R270, R272) -/

/-- A fault of the sensor in one execution (R270, R272): `bad` amplitudes in a row outside their limits. -/
def State.sensorFault (s : State) (e d bad : Nat) : Bool :=
  if s.on (Reg.ENC_CTRL d) Fld.ENC_CTRL_en then
    !s.on (Reg.ENC_STAT d) Fld.ENC_STAT_zseen || s.on (Reg.ENC_STAT d) Fld.ENC_STAT_err
  else
    3 ≤ bad || [0, 1, 2].any (fun k => (s.snapAt e 1 k).ovr || (s.snapAt e 1 k).q = qInvalid) ||
      !s.on (Reg.RES_STAT d) Fld.RES_STAT_lock || s.on (Reg.RES_STAT d) Fld.RES_STAT_exc_oc || s.on (Reg.RES_STAT d) Fld.RES_STAT_exc_open

/-- The tracking observer (R268, R272). Coefficients: k_r, e_k, ki_obs, kp_obs, k_ref, commissioned amplitude. -/
def State.observer (s : State) (e d : Nat) (m : ProdMem) : ProdMem × Int :=
  let k := Config.lawCoef e 1
  let x := fun i => (s.snapAt e 1 i).v.toInt
  let sn := if x 2 < 0 then -x 0 else x 0
  let cs := if x 2 < 0 then -x 1 else x 1
  let amp := sat16 (nearRoot (sn * sn + cs * cs))
  let enc := s.on (Reg.ENC_CTRL d) Fld.ENC_CTRL_en
  let track := wrap16 (s.q15 (dsig d 0x200) + qscale m.w (k 0) (k 1).toNat)
  let theta := if enc then x 3 else track
  let err := if enc then wrap16 (x 3 - track) else (rot (sn * cosQ track) (-(cs * sinQ track))).1
  let w := sat16 (m.w + qmul (k 2) err)
  let bad := if 2 * amp < k 5 || 3 * k 5 < 2 * amp then m.ampBad + 1 else 0
  ({ m with
      w := w, ref := wrap16 (theta + qmul (k 3) err + qscale w (k 4) (k 1).toNat), ampBad := bad
      fault := m.fault || s.sensorFault e d bad }, amp)

/-- Electrical frequency and mechanical speed of an angle step per frame, as words of S.1.0201 and S.1.0203 (R268). -/
def State.freqWord (s : State) (d : Nat) (w : Int) : Int := qdiv (w * 1600000000) (s.controlPeriod (3 * d) * 65536)
def State.speedWord (s : State) (d : Nat) (w : Int) : Int := qdiv (w * 12000000000) (s.val (dsig d 0x315) * s.controlPeriod (3 * d) * 65536)

/-! ## Torque (R278, R280-R282) -/

/-- DC-link factor as a Q15 number (R282). -/
def State.linkFactor (s : State) : Int :=
  max 0 (divQ (s.q15 (sid 3 0x20) + s.q15 (sid 3 0x21) - s.q15 (sid 3 0x10)) (s.q15 (sid 3 0x21))).1

/-- The least of the limits, with its code. -/
def tightest : List (Int × Nat) → Int × Nat
  | [] => (0x7FFF, 0)
  | x :: xs => let y := tightest xs; if y.1 < x.1 then y else x

/-- A limit of the magnitude of a torque, and the code of the limit when it acts. -/
def limitTorque (acts : Bool) (lim : Int × Nat) (t : Int × Nat) : Int × Nat :=
  let v := sat (-lim.1) lim.1 t.1
  if acts && v ≠ t.1 then (v, lim.2) else t

/-- Torque demand in the control mode (R280), and the speed controller's integrator. -/
def State.torqueDemand (s : State) (e d : Nat) (m : ProdMem) (speed : Int) : Int × Int :=
  match s.val (dsig d 0x302) with
  | 1 => (s.q15 (dsig d 0x300), m.integ)
  | 2 =>
    let p := piStep (Config.lawCoef e 1 6) (Config.lawCoef e 1 7) (sat16 (s.q15 (dsig d 0x301) - speed)) m.integ m.limited
    (p.2, p.1)
  | _ => (0, m.integ)

/-- The limits of R281 in their order: rate, motoring, regenerating, overspeed; the code names the last that acts. Torque is
released in RUN, and in DECEL only against the motion; in STOPPING it ramps to 0, elsewhere it is 0 (R284, R289). -/
def State.limitedTorque (s : State) (d : Nat) (m : ProdMem) (demand fe speed : Int) : Int × Nat :=
  let st := s.val (dsig d 0x320)
  let td := if st = 2 || (st = 3 && demand * fe ≤ 0) then demand else 0
  let rate := qdiv (s.q15 (dsig d 0x314)) 10
  let t1 := if st = 2 || st = 3 || st = 5 then sat (m.torque - rate) (m.torque + rate) td else td
  let t1 := (t1, if t1 = td then 0 else 2)
  let der : List (Int × Nat) := [d + 1, d + 3].map (fun z => ((s.fld (Reg.TH_ZDER z) Fld.TH_ZDER_d : Int), 6))
  let service : List (Int × Nat) := if s.val (sid 0 0x10) = 5 then [(s.q15 (dsig d 0x317), 8)] else []
  let mot := tightest ((s.q15 (dsig d 0x303), 3) :: der ++ service)
  let gen := tightest ((s.q15 (dsig d 0x304), 4) :: der ++ service ++ [(qmul s.linkFactor (s.q15 (dsig d 0x304)), 5)])
  let t2 := limitTorque (0 < t1.1 * fe) mot t1
  let t3 := limitTorque (t2.1 * fe < 0) gen t2
  limitTorque (0 < t3.1 * fe && s.q15 (dsig d 0x312) < (speed.natAbs : Int)) (0, 7) t3

/-- The interpolated pair (i_d, i_q) of a 64 × 64 table whose first signal is `base` (R122, R278). -/
def State.tablePair (s : State) (base : Nat) (x y : Int) : Int × Int :=
  let (i, fx) := tableIdx x 6
  let (j, fy) := tableIdx y 6
  let at_ := fun i j => (if dDefined (s.desc (base + 64 * j + i)) then s.val (base + 64 * j + i) else 0)
  let i' := min 63 (i + 1)
  let j' := min 63 (j + 1)
  let half := fun h => bilerp (sx 16 (at_ i j / 2 ^ h)) (sx 16 (at_ i' j / 2 ^ h)) (sx 16 (at_ i j' / 2 ^ h)) (sx 16 (at_ i' j' / 2 ^ h)) fx fy
  (half 0, half 16)

/-- Current references of a limited torque (R278): the pair with the lower i_d. -/
def State.references (s : State) (d : Nat) (t fe : Int) : Int × Int :=
  let x : Int := t.natAbs
  let a := s.tablePair (dsig d 0x1000) x (s.q15 (dsig d 0x118))
  let b := s.tablePair (dsig d 0x2000) x (min 0x7FFF (qmul fe.natAbs (s.q15 (dsig d 0x220))))
  let p := if b.1 < a.1 then b else a
  (p.1, if t < 0 then -p.2 else p.2)

/-- The position and speed law (R268, R270, R278, R280-R282); its speeds are REDUCED during a reference loss (R527). -/
def State.positionRun (s : State) (e d : Nat) (m : ProdMem) : LawRun :=
  let (m, amp) := s.observer e d m
  let fe := s.freqWord d m.w
  let speed := s.speedWord d m.w
  let (dem, integ) := s.torqueDemand e d m speed
  let (t, code) := s.limitedTorque d m dem fe speed
  let (id, iq) := s.references d t fe
  let q := if m.fault then qInvalid else if s.on Reg.CLK_STAT Fld.CLK_STAT_refloss then qReduced else qValid
  let clean := if m.fault then none else some (m.clean.getD s.dtb)
  { mem := { m with torque := t, integ := integ, limited := code ≠ 0, clean := clean }
    writes := [(0x201, fe, q), (0x202, m.ref, q), (0x203, speed, q), (0x204, m.w, qValid), (0x205, amp, qValid),
      (0x206, if m.fault then 1 else 0, qValid), (0x210, id, qValid), (0x211, iq, qValid), (0x216, t, qValid)].map (fun w => (dsig d w.1, w.2))
    limit := some (d, code) }

/-- The angle law (R269): the angle of the next frame's current sample and the modulation gain. -/
def State.angleRun (s : State) (e d : Nat) (m : ProdMem) : LawRun :=
  let o := s.prodMem e 1
  let f : Int := (s.rd (Reg.CE_FCNT e)).toNat - 1
  let p : Int := s.fld (Reg.LAW_CTRL e 1) Fld.LAW_CTRL_phase
  let theta := wrap16 (o.ref + o.w * ((f - p - 1) % (max 1 (s.speedFrames d) : Nat)))
  { mem := m
    writes := [(dsig d 0x200, theta, if o.fault then qInvalid else qValid),
      (dsig d 0x220, (divQ (Config.lawCoef e 0 0) (s.snapAt e 0 0).v.toInt).1, qValid)] }

/-! ## Current control (R274-R276, R288) -/

/-- α and β of two phase currents, rotated by an angle into d and q. -/
def toDq (i1 i2 th : Int) : Int × Int :=
  let b := sat16 (divSqrt3 (i1 + 2 * i2))
  ((rot (i1 * cosQ th) (b * sinQ th)).1, (rot (-(i1 * sinQ th)) (b * cosQ th)).1)

/-- The phase-advance table T at a frequency (R276): local table 0 of the engine. -/
def State.phaseAdvance (s : State) (e : Nat) (fe : Int) : Int :=
  let n := s.fld (Reg.CE_TBL e 0) Fld.CE_TBL_n
  let b := s.fld (Reg.CE_TBL e 0) Fld.CE_TBL_base
  let (i, f) := tableIdx fe.natAbs n
  let hi := if i + 1 = 2 ^ n then i else i + 1
  lerp (s.coef e (b + i)) (s.coef e (b + hi)) f

/-- One controlled plane: its currents, references, angle step and controllers; the limited voltages (R274). Coefficients:
kp, ki, decoupling inductance and flux, v_max. -/
structure Plane where
  vd : Int
  vq : Int
  axes : List (Int × Bool)
  clamped : Bool

def controlPlane (k : Nat → Int) (i r : Int × Int) (fe : Int) (ax : List (Int × Bool)) : Plane :=
  let a := fun n => ax.getD n (0, false)
  let d := piStep (k 0) (k 1) (sat16 (r.1 - i.1)) (a 0).1 (a 0).2
  let q := piStep (k 0) (k 1) (sat16 (r.2 - i.2)) (a 1).1 (a 1).2
  let vd := sat16 (d.2 - qmul fe (qmul (k 2) i.2))
  let vq := sat16 (q.2 + qmul fe (sat16 (qmul (k 2) i.1 + k 3)))
  let vmax := k 4
  let vd' := sat (-vmax) vmax vd
  let top := nearRoot (max 0 (vmax * vmax - vd' * vd'))
  let vq' := sat (-top) top vq
  { vd := vd', vq := vq', axes := [(d.1, vd' ≠ vd), (q.1, vq' ≠ vq)], clamped := vd' ≠ vd || vq' ≠ vq }

/-- Duties of one bridge: rotated back with phase advance, scaled, modulated. -/
def dutiesOf (vd vq th gain : Int) : List Int :=
  let x := (rot (vd * cosQ th) (-(vq * sinQ th))).1
  let y := (rot (vd * sinQ th) (vq * cosQ th)).1
  (List.range 3).map (fun k => (svmDuty (qmul x gain) (qmul y gain) k).1)

/-- Which duty is the greatest and which the least: the modulation sector. -/
def sectorOf (ds : List Int) : Nat × Nat :=
  let top := ds.foldl max (-32768)
  let low := ds.foldl min 32767
  (ds.findIdx (· = top), ds.findIdx (· = low))

/-- An execution of the current law of drive `d`, or of the coupled machine on both bridges, from its captures `x`: the run,
and the state that selects its branch (R275): circle limiter, sectors, segment of the phase advance. -/
def State.currentRun (s : State) (e d : Nat) (pair : Bool) (m : ProdMem) (x : Nat → Int) : LawRun × Bool × (List (Nat × Nat)) × Nat :=
  let k := Config.lawCoef e 0
  let n := if pair then 4 else 2
  let th := x n
  let fe := s.q15 (dsig d 0x201)
  let off := s.q15 (sid 3 0x41)
  let a := toDq (x 0) (x 1) th
  let b := if pair then toDq (x 2) (x 3) (wrap16 (th - off)) else a
  let i := (rnd 1 (a.1 + b.1), rnd 1 (a.2 + b.2))
  let h := (rnd 1 (a.1 - b.1), rnd 1 (a.2 - b.2))
  let v := controlPlane k i (x (n + 1), x (n + 2)) fe (m.axes.take 2)
  let z := if pair then controlPlane (fun j => k (5 + j)) h (0, 0) 0 (m.axes.drop 2) else { vd := 0, vq := 0, axes := m.axes.drop 2, clamped := false }
  let adv := if 0 < fe then s.phaseAdvance e fe else if fe < 0 then -s.phaseAdvance e fe else 0
  let pwm := wrap16 (th + adv)
  let da := dutiesOf (sat16 (v.vd + z.vd)) (sat16 (v.vq + z.vq)) pwm (x (n + 3))
  let ds := if pair then da ++ dutiesOf (sat16 (v.vd - z.vd)) (sat16 (v.vq - z.vq)) (wrap16 (pwm - off)) (x (n + 3)) else da
  ({ mem := { m with axes := v.axes ++ z.axes }
     outs := (List.range 8).map (fun j => if j < ds.length then some (dutyWord (ds.getD j 0) (s.outPeriod e 0 j)) else none)
     writes := [(0x212, i.1), (0x213, i.2), (0x214, v.vd), (0x215, v.vq)].map (fun w => (dsig d w.1, w.2, qValid)) },
    v.clamped || z.clamped, if pair then [sectorOf da, sectorOf (ds.drop 3)] else [sectorOf da], (tableIdx fe.natAbs (s.fld (Reg.CE_TBL e 0) Fld.CE_TBL_n)).1)

/-! ## DC-link supervision (R287) -/

/-- The power of a drive is negative. -/
def State.regenerates (s : State) (d : Nat) : Bool := s.q15 (dsig d 0x216) * s.q15 (dsig d 0x201) < 0

/-- The DC-link supervision law: battery side lost. The rise is taken against the newest sample at least 100 µs old. -/
def State.linkLossRun (s : State) (m : ProdMem) : LawRun :=
  let v := (s.snapAt 9 1 0).v.toInt
  let old := m.link.find? (fun p => p.1 + 40000 ≤ s.dtb)
  let rises := old.any (fun p => s.q15 (sid 3 0x22) < 10 * (v - p.2))
  let lost := s.val (sid 3 0x30) = 0 || (rises && (s.regenerates 0 || s.regenerates 1))
  { mem := { m with link := ((s.dtb, v) :: m.link).take 16 }, writes := [(sid 3 0x31, if lost then 1 else 0, qValid)] }

/-! ## Charge plane (R296-R298) -/

/-- The charger link set-point in 1/16 V (R297). -/
def State.linkTarget (s : State) : Int :=
  let q := s.sig (csig 0x303)
  let set : Int := if metaQuality q.mword = qInit then 750 * 16 else s.q15 (csig 0x303)
  min (max set (16 * (s.fld Reg.DCL_MEAS Fld.DCL_MEAS_v + 30))) (950 * 16)

/-- The charger link in 1/16 V. -/
def State.linkNow (s : State) : Int := 16 * s.fld Reg.CHL_MEAS Fld.CHL_MEAS_v

/-- Compare word of a number of counts in a period of 4,000 (R296). -/
def phaseWord (z : Int) : Word := W (64 * (z % 4000).toNat)

/-- The isolation law (R296, R298): a phase shift within its limit. With the link below V_chl − 40 V it carries no power out of
it, and at V_cv or with an output set-point of 0 no power into the battery; its regulation between these is free. -/
def State.isolationRun (s : State) (m : ProdMem) (free : Int) : LawRun :=
  let phi := sat (-1000) 1000 free
  let supply := s.val (sid 0 0x10) = 4
  let phi := if !supply && (s.charge.getD 0 {}).iset = 0 then min phi 0 else phi
  let phi := if s.linkNow < s.linkTarget - 40 * 16 then min phi 0 else phi
  let phi := if !supply && s.q15 (csig 0x210) ≤ 16 * (s.fld Reg.DCL_MEAS Fld.DCL_MEAS_v : Int) then min phi 0 else phi
  let a := phaseWord (phi + 2000)
  let b := phaseWord phi
  { mem := { m with phi := phi }, outs := outputs [a, b, a, b] }

/-- The link-voltage law (R298, R305, R306), at 10 kHz: the amplitude of the input current that holds the link, within √2
times the limit in force, in 1/2,560,000 A. A limit below 6 A holds the current at 0; a fall acts at once, a rise by 1 A per
10 ms, or by 1 A per s for a weak source. -/
def State.linkVoltageRun (s : State) (m : ProdMem) : LawRun :=
  let k := Config.lawCoef 5 0
  let want := if s.q15 (csig 0x108) < 6 * 256 then 0 else s.q15 (csig 0x108) * 10000
  let lim := min want (m.lim + if s.val (csig 0x105) = 3 then 256 else 25600)
  let top : Int := (isqrt (2 * ((lim / 10000) * (lim / 10000)).toNat) : Nat)
  let p := piStep (k 0) (k 1) (sat16 (s.linkTarget - s.linkNow)) m.integ m.limited
  let amp := sat 0 top p.2
  { mem := { m with integ := p.1, limited := amp ≠ p.2, amp := amp, lim := lim } }

/-- Output current limit of SUPPLY in 1/256 A (R314): the kind's limit, with its derate, the cable rating, the power limit over
the phase voltage, and the battery's discharge limit converted over the isolation stage. -/
def State.supplyLimit (s : State) : Int :=
  let kind := s.val (csig 0x400)
  let top : Int := if kind = 3 || kind = 5 then 16 * 256 else 32 * 256
  let top := if kind = 4 || kind = 5 then min top (s.q15 (csig 0x403)) else top
  let millivolts : Int := if kind = 2 then 120000 else if kind = 3 || kind = 5 then 230940 else 230000
  let power := qdiv (s.q15 (csig 0x401) * 128000) millivolts
  ([s.q15 (csig 0x104), power, rnd 15 (top * s.derate 5), Config.supplyAllowed (s.q15 (csig 0x214))]).foldl min top

/-- The PFC current law (R298, R314): the duties that give its sines, or its voltages within the limit of SUPPLY, are free; PG09
serves the neutral. -/
def State.pfcRun (s : State) (m : ProdMem) (free : Nat → Word) : LawRun :=
  { mem := { m with lim := s.supplyLimit }, outs := outputs ((List.range 4).map (fun k => dutyWord ((free k).toNat % 32768 : Nat) (s.outPeriod 4 0 k))) }

/-! ## LV converter (R326, R327, R331-R333, R335, R343) -/

/-- The DCX law: the ramp of a forward start over 2 ms (R326); in reverse the duty of PG22 between 40 and 400 (R327). -/
def State.dcxRun (s : State) (m : ProdMem) (free : Word) : LawRun :=
  if s.lv.dcxReverse then { mem := m, outs := outputs [W (64 * (40 + free.toNat % 361))] }
  else
    let c := W (64 * min 400 (40 + 360 * (s.dtb - s.lv.dcxAt) / 800000))
    { mem := m, outs := outputs [c, c] }

/-- Output voltage in 1/65,536 V. -/
def State.vOut (s : State) : Int := s.q15 (lsig 0x101) * 64

/-- V_cv of a profile in 1/1,024 V. -/
def profileVcv (p : Nat) : Int := if p = 0 then 14541 else 14746

/-- The target in 1/65,536 V. A presence test raises it by 0.3 V (R313); in CC the on-time law lowers it by up to 2.0 V
(R343). -/
def State.lvTarget (s : State) : Int :=
  let p := s.num (lsig 0x301) 2
  let st := s.val (lsig 0x200)
  let base := s.qty (lsig 0x300) 13926
  if s.domainOn 1 && p < 2 && (st = 1 || st = 2 || st = 3 || st = 4 || st = 8) then
    profileVcv p * 64 + (if (s.charge.getD 1 {}).testAt.isSome then 19661 else 0) - (if st = 2 then (s.prodMem 6 1).drop else 0)
  else base * 64

/-- Base on-time in 1/65,536 cycle from the reference, IB and the switching period (R331): `per` in cycles as a fraction. -/
def onTime (ref ib : Int) (num den : Nat) : Nat :=
  if ib ≤ 0 then 0 else ((2 * 256 * ref.toNat * num + ib.toNat * den) / (2 * ib.toNat * den) : Nat)

/-- I_lim / 4 in 1/256 A (R335) at an output of `v` against a target of `t`, for S.6.0304 = `imax` in 1/64 A. -/
def valleyLimit (v t imax : Int) : Int :=
  if 7 * t ≤ 10 * v then imax
  else if 10 * v ≤ 2 * t then rnd 2 imax
  else qdiv (imax * (5 * t + 30 * v - 6 * t)) (20 * t)

/-- The on-time law (R331, R332, R335, R343): base on-time, compare words with the trims of slot 2, the valley limit with the
derate of Z6, and the lowering of the target in CC. While
SYNC is locked its correction is free within 20 %; after a loss the on-time moves by at most 1 % per frame. -/
def State.onTimeRun (s : State) (m : ProdMem) (free : Word) : LawRun :=
  let ib := s.q15 (lsig 0x100)
  let internal := onTime s.lv.ref ib 400000 (s.fld Reg.LVC_CFG Fld.LVC_CFG_fsw)
  let locked := s.on Reg.LVC_STAT Fld.LVC_STAT_sync_lock
  let synced := onTime s.lv.ref ib (s.fld Reg.LVC_SYNC Fld.LVC_SYNC_per) 1
  let step := m.tBase / 100
  let back := if internal < m.tBase then max internal (m.tBase - step) else min internal (m.tBase + step)
  let tb := if locked then synced * (800 + free.toNat % 401) / 1000 else if m.away then back else internal
  let trims := (s.prodMem 6 2).trims
  let word := fun k => W ((2 * tb * (256 + trims.getD k 0).toNat + 262144) / 524288)
  let cur := (List.range 4).map (fun k => s.q15 (lsig (0x102 + k)))
  let imax := rnd 15 (min (260 * 64) (s.q15 (lsig 0x304)) * s.derate 6)
  let excess := 4 * s.q15 (lsig 0x113) - s.qty (lsig 0x305) (40 * 256)
  let drop := if s.val (lsig 0x200) = 2 then sat 0 131072 (m.drop + Config.lawCoef 6 1 0 * excess) else 0
  { mem := { m with tBase := tb, away := locked || (m.away && tb ≠ internal), drop := drop, cur := (cur :: m.cur).take 10 }
    outs := outputs ((List.range 4).map word)
    writes := [(lsig 0x120, qdiv (tb * 2 ^ 18) 400000000, qValid),
      (lsig 0x121, valleyLimit s.vOut s.lvTarget imax, qValid)] }

/-- A phase of the buck that its channel's fault has stopped (R333). -/
def State.phaseStopped (s : State) (k : Nat) : Bool :=
  s.on (Reg.LCH_STAT (2 * k)) Fld.LCH_STAT_ovc || s.on (Reg.LCH_STAT (2 * k + 1)) Fld.LCH_STAT_ovc

/-- The trim law (R333): each phase current over ten frames against the mean of the phases that run, integrated and limited. -/
def State.trimRun (s : State) (m : ProdMem) : LawRun :=
  let cur := (s.prodMem 6 1).cur
  let avg := fun k => qdiv (cur.foldl (fun a c => a + c.getD k 0) 0) cur.length
  let run := (List.range 4).filter (fun k => !s.phaseStopped k)
  let mean := qdiv (run.foldl (fun a k => a + avg k) 0) run.length
  let trims := (List.range 4).map (fun k =>
    let t := m.trims.getD k 0
    if s.phaseStopped k then t else sat (-32) 32 (t + qmul (Config.lawCoef 6 2 0) (mean - avg k)))
  { mem := { m with trims := trims }, writes := (List.range 4).map (fun k => (lsig (0x122 + k), trims.getD k 0, qValid)) }

/-! ## Solar boost and actuators (R318, R319, R352, R356-R360) -/

/-- PWM phase, low phase and floating leg (1-3) of a commutation step (R355). -/
def stepLegs (k : Nat) : Nat × Nat × Nat :=
  [(1, 3, 2), (2, 3, 1), (2, 1, 3), (3, 1, 2), (3, 2, 1), (1, 2, 3)].getD k (1, 3, 2)

/-- Commutation runs, or the pump aligns its rotor. -/
def State.motorTurns (s : State) (m : Nat) : Bool := if m = 0 then s.val (asig 0x200) = 2 else s.pump.st = 2 || s.pump.st = 3
def State.motorAligns (s : State) (m : Nat) : Bool := m = 1 && s.pump.st = 1

/-- A duty that a current controller sets: its regulation is not stated and it is free (log 111). -/
def State.freeDuty (s : State) (e l k : Nat) (free : Word) : Word := dutyWord (free.toNat % 32768 : Nat) (s.outPeriod e l k)

/-- The law of a commutated motor (R356, R357, R363): the duty of the PWM phase, the low phase at L; the pump's measured speed
from the time between its last commutations. -/
def State.motorRun (s : State) (e l m : Nat) (mem : ProdMem) (free : Word) : LawRun :=
  let duty := fun k => s.freeDuty e l k free
  let x := s.motors.getD m {}
  let (pwm, low, _) := stepLegs x.step
  let outs : List (Option Word) :=
    if s.motorTurns m then (List.range 8).map (fun k => if k + 1 = pwm then some (duty k) else if k + 1 = low then some 0 else none)
    else if s.motorAligns m then outputs [duty 0, 0, 0]
    else noOutputs
  let speed := if s.motorTurns m && x.gap ≠ 0 then qdiv (Config.lawCoef e l 0) x.gap else 0
  { mem := mem, outs := outs, writes := if m = 1 then [(asig 0x504, speed, qValid)] else [] }

/-- The park law (R359): the duty of S.7.0405 in the direction of the request, or both low sides. -/
def State.parkRun (s : State) (mem : ProdMem) : LawRun :=
  let w := dutyWord (s.q15 (asig 0x405)) (s.outPeriod 7 1 0)
  { mem := mem
    outs := match s.park.drive with
      | some engage => outputs (if engage then [w, 0] else [0, w])
      | none => if s.park.brakeAt.isSome then outputs [0, 0] else noOutputs }

/-- The solar law (R318, R319): the boost's duty, and the string power from its voltage and current. -/
def State.solarRun (s : State) (mem : ProdMem) (free : Word) : LawRun :=
  { mem := mem, outs := outputs [s.freeDuty 8 2 0 free]
    writes := [(solsig 0x201, sat16 (rnd 14 (s.q15 (solsig 0x100) * s.q15 (solsig 0x101))), qValid)] }

/-! ## Execution -/

/-- What the production law of a slot computes, with captures `x` for the current law, and whether it fits the branches that
its lookahead prepared (R275). -/
def State.lawRun (s : State) (e l : Nat) (free : Nat → Word) : LawRun × Bool :=
  let m := s.prodMem e l
  let x := fun k => (s.snapAt e l k).v.toInt
  match lawJob e l with
  | some (.current d) =>
    let a := s.currentRun e d false m x
    let p := s.currentRun e d false m (fun k => ((s.lawAt e l).pred.getD k 0).toInt)
    (a.1, a.2.2 = p.2.2)
  | some .coupledCurrent => ((s.currentRun e 0 true m x).1, true)
  | some (.angle d) => (s.angleRun e d m, true)
  | some (.position d) => (s.positionRun e d m, true)
  | some .linkLoss => (s.linkLossRun m, true)
  | some .pfc => (s.pfcRun m free, true)
  | some .linkVoltage => (s.linkVoltageRun m, true)
  | some .isolation => (s.isolationRun m (free 0).toInt, true)
  | some .dcx => (s.dcxRun m (free 0), true)
  | some .onTime => (s.onTimeRun m (free 0), true)
  | some .trim => (s.trimRun m, true)
  | some (.motor k) => (s.motorRun e l k m (free 0), true)
  | some .park => (s.parkRun m, true)
  | some .clutch => ({ mem := m, outs := outputs [s.freeDuty e l 0 (free 0)] }, true)
  | some .solar => (s.solarRun m (free 0), true)
  | none => ({ mem := m }, true)

/-- The lookahead of the current law (R152, R165, R275): predictions, and the fallback set of branch A. -/
def State.prodAhead (s : State) (e l : Nat) : State :=
  let s := s.predictAll e l
  let x := fun k => ((s.lawAt e l).pred.getD k 0).toInt
  match lawJob e l with
  | some (.current d) =>
    let r := (s.currentRun e d false (s.prodMem e l) x).1
    (s.modLaw e l (fun w => { w with fbSet := r.outs })).setf (Reg.LAW_RSTAT e l) Fld.LAW_RSTAT_lah_valid 1
  | _ => s

/-- A required capture was not fresh at the trigger (R161, R168). -/
def State.lateSample (s : State) (e l : Nat) : Bool :=
  (List.range 8).any (fun k => s.on (Reg.LAW_CAP e l k) Fld.LAW_CAP_en && s.on (Reg.LAW_PRD e l k) Fld.LAW_PRD_req && !(s.snapAt e l k).fresh)

/-- The execution of a production law ends at T + L: its signal writes are posted and its outputs written, or it has missed
(R134, R137, R168, R174). Free words 0 to 3 are drawn for what its regulation leaves open. -/
def State.prodEnd (s : State) (e l : Nat) (c : Section) : State :=
  let n := s.draws
  let (r, fits) := s.lawRun e l (fun k => Config.freeWord (n + k))
  let s : State := { s with draws := s.draws + 4 }
  if s.lawAhead e l && s.lateSample e l then (s.miss e l 4 c.t false).inc (Reg.LAW_CNT_LSMP e l)
  else if s.lawAhead e l && !fits then (s.miss e l 3 c.t false).inc (Reg.LAW_CNT_NOFIT e l)
  else
    let s := s.modLaw e l (fun w => { w with prod := some r.mem, staged := r.outs })
    let s := s.each r.writes (fun s w => s.present e w.1 (s.dtb - 1) (fun _ => .lawWrite e l (Wi w.2.1) c.t w.2.2))
    let s := match r.limit with
      | some (d, code) => s.putNat (dsig d 0x321) code
      | none => s
    let s := ((s.endSection e l).inc (Reg.LAW_CNT_RUN e l)).setLast e l 1
    let s := if s.lawAhead e l then s.inc (Reg.LAW_CNT_HITA e l) else s
    let s := s.modLaw e l (fun w => { w with lastOut := w.staged, prevMissed := false })
    s.writeOutputs e l r.outs

end Sys2Proof.Machine
end

