-- ==== Sys2Proof/Machine/Laws.lean ====
section
/-! DEFINITION. Meanings of the commands that enable, disable, time and configure laws (spec/04, spec/05). -/

namespace Sys2Proof.Machine

/-- LAW_LATE_MISS (R131, R145, R174): no trigger by the end of WDUE. -/
def execLawLateMiss (e l : Nat) (s : State) : Outcome :=
  ofUnit (e < 12 && l < 4) <|
    let w := s.lawAt e l
    match w.frame with
    | none => s
    | some f =>
      if s.lawOn e l && !w.used then
        let t := f + s.lawDue e l
        let hold := s.lawAhead e l && !s.on (Reg.LAW_RSTAT e l) Fld.LAW_RSTAT_lah_valid
        ((s.reach t).inc (Reg.LAW_CNT_LATE e l)).miss e l 5 t hold
      else s

/-- The settle or only section of a production law runs in the slot. -/
def State.prodSection (s : State) (e l : Nat) : Option Section :=
  if (s.lawAt e l).prod.isSome then (s.lawAt e l).sec else none

/-- LAW_OUTPUT_WRITE (R134, R146). A production law ends its execution with this write, at T + L (log 111). -/
def execLawOutputWrite (e l : Nat) (s : State) : Outcome :=
  ofUnit (e < 12 && l < 4) <|
    match s.prodSection e l, (s.lawAt e l).outDue with
    | some c, _ => (s.reach (c.t + s.lawL e l)).prodEnd e l c
    | none, none => s
    | none, some (t, outs) => ((s.reach t).modLaw e l (fun w => { w with outDue := none })).writeOutputs e l outs

/-- LAW_FALLBACK_WRITE (R145, R175). -/
def execLawFallbackWrite (e l : Nat) (s : State) : Outcome :=
  ofUnit (e < 12 && l < 4) <|
    match (s.lawAt e l).fbDue with
    | none => s
    | some (t, outs) => ((s.reach t).modLaw e l (fun w => { w with fbDue := none })).writeOutputs e l outs

/-- A write of LAW_CTRL with en = 1 (R142, R144). -/
def State.lawEnable (s : State) (e l : Nat) (v : Word) : State :=
  if s.lawOn e l || s.lawBusy e l then s
  else
    let a := Reg.LAW_CTRL e l
    (s.wrMasked a 0xFFFFFFFE v).setf a Fld.LAW_CTRL_busy 1

/-- LAW_ENABLE (R142): a core enables the law that its own writes have put into the slot. -/
def execLawEnable (core e l : Nat) (v : Word) (s : State) : Outcome :=
  ofUnit (core < 6 && e < 12 && l < 4) (s.byCore core 2 (fun s => (s.unloadLaw e l).lawEnable e l v))

/-- STATIC_CHECK_DONE (R142): the law is enabled from the next frame, or err holds the first failed check. -/
def execStaticCheckDone (e l : Nat) (s : State) : Outcome :=
  ofUnit (e < 12 && l < 4) <|
    if s.lawBusy e l then
      let c := if (s.lawAt e l).prod.isSome then 0 else s.staticCheck e l
      let s := s.setf (Reg.LAW_STAT e l) Fld.LAW_STAT_err c
      if c = 0 then s.lawStart e l else s.setf (Reg.LAW_CTRL e l) Fld.LAW_CTRL_busy 0
    else s

/-- LAW_DISABLE (R147). -/
def execLawDisable (core e l : Nat) (s : State) : Outcome :=
  ofUnit (core < 6 && e < 12 && l < 4) (s.byCore core 2 (fun s => s.lawDisable e l))

/-- CE_DISABLE (R147): en cleared, all four laws disabled. -/
def execCeDisable (core e : Nat) (s : State) : Outcome :=
  ofUnit (core < 6 && e < 12) (s.byCore core 2 (fun s => (s.engineStop e).setf (Reg.CE_CTRL e) Fld.CE_CTRL_en 0))

/-- CE_ECC_DOUBLE_ERROR (R149): an error of law or coefficient memory of engine `e.1`. A
single-bit error is corrected and counted; a double-bit one (`e.2`) disables the laws of the engine. -/
def execCeEccDoubleError (e : Nat × Bool) (s : State) : Outcome :=
  ofUnit (e.1 < 12) <|
    if !e.2 then s.inc (Reg.CE_CNT_ECC e.1)
    else
      let sts := s.engineStages e.1
      let s := (s.engineStop e.1).setf (Reg.CE_STATUS e.1) Fld.CE_STATUS_ecc_fatal 1
      s.each sts (fun s st => s.report 3 (scopeOf lvStage st))

/-- COEF_MEM_WRITE (R119): halfword i; held until no window of the engine is open. -/
def execCoefMemWrite (core e i : Nat) (v : Word) (s : State) : Outcome :=
  ofUnit (core < 6 && e < 12 && i < 4096) <|
    s.byCore core 2 (fun s => s.modCe e (fun c => { c with coefQ := c.coefQ ++ [(i, v &&& 0xFFFF)] }))

/-- COEF_MEM_WRITE_PERFORMED (R119, R154): the oldest held write, with no window or protected interval open. -/
def execCoefMemWritePerformed (e : Nat) (s : State) : Outcome :=
  ofUnit (e < 12) <|
    match (s.ceAt e).coefQ with
    | [] => s
    | (i, v) :: q => if s.coefBlocked e then s else (s.modCe e (fun c => { c with coefQ := q })).setCoef e i v

/-- LOOKAHEAD_START (R152, R153, R157, R160, R162): at frame cycle lopen. -/
def execLookaheadStart (e l : Nat) (s : State) : Outcome :=
  ofUnit (e < 12 && l < 4) <|
    match (s.ceAt e).frame with
    | none => s
    | some f =>
      let o := s.fld (Reg.LAW_LOPEN e l) Fld.LAW_LOPEN_lopen
      let n := (s.rd (Reg.CE_FCNT e)).toNat - 1
      let next := if (s.windowOf e l).2 < o then n + 1 else n
      let prepares := s.runsIn e l next && (next ≠ n || (s.lawAt e l).frame = some f)
      if s.lawOn e l && s.lawAhead e l && !(s.lawAt e l).lookDone && (s.lawAt e l).sec.isNone && prepares then
        let s := (s.reach (f + o)).modLaw e l (fun w => { w with lookDone := true })
        if s.lawTripped e l then s
        else if (s.lawAt e l).prod.isSome then s.prodAhead e l
        else
          let s := (s.predictAll e l).modCe e (fun c => { c with laws := c.laws.modify l (fun w => { w with
            bankA := c.bank, bankB := c.bank, bounds := [], fbSet := noOutputs }) })
          (s.setf (Reg.LAW_RSTAT e l) Fld.LAW_RSTAT_lah_valid 0).startSection e l true (s.fld (Reg.LAW_LAH e l) Fld.LAW_LAH_lentry) (f + o) .both
      else s

end Sys2Proof.Machine
end

