-- ==== Sys2Proof/Machine/Crypto.lean ====
section
/-! DEFINITION. The published functions the spec names: CRC-32 (IEEE 802.3), AES-128 with its CMAC, SHA-384 with HMAC and
HKDF, and ECDSA on brainpoolP384r1. The spec names them; what they compute is taken from the standards (PRESUMED, log 10). -/

namespace Sys2Proof.Crypto

/-- Number that bytes spell, most significant first. -/
def beNat (l : List Byte) : Nat := l.foldl (fun a b => a * 256 + b.toNat) 0

/-- The `n` bytes of a number, most significant first. -/
def beBytes : Nat → Nat → List Byte
  | 0, _ => []
  | n + 1, v => beBytes n (v / 256) ++ [BitVec.ofNat 8 v]

/-- The bytes of two lists combined place by place by exclusive or. -/
def xorBytes (a b : List Byte) : List Byte := List.zipWith (· ^^^ ·) a b

/-! ## CRC-32 -/

def crcBits : Nat → Word → Word
  | 0, c => c
  | n + 1, c => crcBits n (if c &&& 1 = 1 then (c >>> 1) ^^^ 0xEDB88320 else c >>> 1)

def crc32 (l : List Byte) : Word :=
  ~~~(l.foldl (fun c b => crcBits 8 (c ^^^ W b.toNat)) 0xFFFFFFFF)

/-! ## AES-128 -/

/-- The substitution box, a row for each upper digit of the byte. -/
def sboxRows : List (List Byte) :=
  [[0x63, 0x7C, 0x77, 0x7B, 0xF2, 0x6B, 0x6F, 0xC5, 0x30, 0x01, 0x67, 0x2B, 0xFE, 0xD7, 0xAB, 0x76],
   [0xCA, 0x82, 0xC9, 0x7D, 0xFA, 0x59, 0x47, 0xF0, 0xAD, 0xD4, 0xA2, 0xAF, 0x9C, 0xA4, 0x72, 0xC0],
   [0xB7, 0xFD, 0x93, 0x26, 0x36, 0x3F, 0xF7, 0xCC, 0x34, 0xA5, 0xE5, 0xF1, 0x71, 0xD8, 0x31, 0x15],
   [0x04, 0xC7, 0x23, 0xC3, 0x18, 0x96, 0x05, 0x9A, 0x07, 0x12, 0x80, 0xE2, 0xEB, 0x27, 0xB2, 0x75]] ++
  [[0x09, 0x83, 0x2C, 0x1A, 0x1B, 0x6E, 0x5A, 0xA0, 0x52, 0x3B, 0xD6, 0xB3, 0x29, 0xE3, 0x2F, 0x84],
   [0x53, 0xD1, 0x00, 0xED, 0x20, 0xFC, 0xB1, 0x5B, 0x6A, 0xCB, 0xBE, 0x39, 0x4A, 0x4C, 0x58, 0xCF],
   [0xD0, 0xEF, 0xAA, 0xFB, 0x43, 0x4D, 0x33, 0x85, 0x45, 0xF9, 0x02, 0x7F, 0x50, 0x3C, 0x9F, 0xA8],
   [0x51, 0xA3, 0x40, 0x8F, 0x92, 0x9D, 0x38, 0xF5, 0xBC, 0xB6, 0xDA, 0x21, 0x10, 0xFF, 0xF3, 0xD2]] ++
  [[0xCD, 0x0C, 0x13, 0xEC, 0x5F, 0x97, 0x44, 0x17, 0xC4, 0xA7, 0x7E, 0x3D, 0x64, 0x5D, 0x19, 0x73],
   [0x60, 0x81, 0x4F, 0xDC, 0x22, 0x2A, 0x90, 0x88, 0x46, 0xEE, 0xB8, 0x14, 0xDE, 0x5E, 0x0B, 0xDB],
   [0xE0, 0x32, 0x3A, 0x0A, 0x49, 0x06, 0x24, 0x5C, 0xC2, 0xD3, 0xAC, 0x62, 0x91, 0x95, 0xE4, 0x79],
   [0xE7, 0xC8, 0x37, 0x6D, 0x8D, 0xD5, 0x4E, 0xA9, 0x6C, 0x56, 0xF4, 0xEA, 0x65, 0x7A, 0xAE, 0x08]] ++
  [[0xBA, 0x78, 0x25, 0x2E, 0x1C, 0xA6, 0xB4, 0xC6, 0xE8, 0xDD, 0x74, 0x1F, 0x4B, 0xBD, 0x8B, 0x8A],
   [0x70, 0x3E, 0xB5, 0x66, 0x48, 0x03, 0xF6, 0x0E, 0x61, 0x35, 0x57, 0xB9, 0x86, 0xC1, 0x1D, 0x9E],
   [0xE1, 0xF8, 0x98, 0x11, 0x69, 0xD9, 0x8E, 0x94, 0x9B, 0x1E, 0x87, 0xE9, 0xCE, 0x55, 0x28, 0xDF],
   [0x8C, 0xA1, 0x89, 0x0D, 0xBF, 0xE6, 0x42, 0x68, 0x41, 0x99, 0x2D, 0x0F, 0xB0, 0x54, 0xBB, 0x16]]

def sbox (b : Byte) : Byte := (sboxRows.getD (b.toNat / 16) []).getD (b.toNat % 16) 0
def invSbox (b : Byte) : Byte := BitVec.ofNat 8 (sboxRows.flatten.findIdx (· = b))

def xtime (b : Byte) : Byte := if b &&& 0x80 = 0 then b <<< 1 else (b <<< 1) ^^^ 0x1B

/-- Product in the field of AES, bit by bit of the second factor. -/
def gmul : Nat → Byte → Nat → Byte
  | 0, _, _ => 0
  | n + 1, a, k => (if k % 2 = 1 then a else 0) ^^^ gmul n (xtime a) (k / 2)

/-- One step of the key schedule: the four words of the next round key. -/
def nextKey (k : List Byte) (rc : Byte) : List Byte :=
  match k with
  | [a0, a1, a2, a3, a4, a5, a6, a7, a8, a9, a10, a11, a12, a13, a14, a15] =>
    let w0 := xorBytes [a0, a1, a2, a3] [sbox a13 ^^^ rc, sbox a14, sbox a15, sbox a12]
    let w1 := xorBytes [a4, a5, a6, a7] w0
    let w2 := xorBytes [a8, a9, a10, a11] w1
    w0 ++ w1 ++ w2 ++ xorBytes [a12, a13, a14, a15] w2
  | _ => k

def roundKeysFrom : Nat → List Byte → Byte → List (List Byte)
  | 0, k, _ => [k]
  | n + 1, k, rc => k :: roundKeysFrom n (nextKey k rc) (xtime rc)

def roundKeys (k : List Byte) : List (List Byte) := roundKeysFrom 10 k 1

def shiftRows : List Byte → List Byte
  | [a0, a1, a2, a3, a4, a5, a6, a7, a8, a9, a10, a11, a12, a13, a14, a15] =>
    [a0, a5, a10, a15, a4, a9, a14, a3, a8, a13, a2, a7, a12, a1, a6, a11]
  | l => l

def invShiftRows : List Byte → List Byte
  | [a0, a1, a2, a3, a4, a5, a6, a7, a8, a9, a10, a11, a12, a13, a14, a15] =>
    [a0, a13, a10, a7, a4, a1, a14, a11, a8, a5, a2, a15, a12, a9, a6, a3]
  | l => l

/-- Every column times the matrix whose first row is `m0` to `m3`. -/
def mixWith (m0 m1 m2 m3 : Nat) : List Byte → List Byte
  | a :: b :: c :: d :: l =>
    [gmul 4 a m0 ^^^ gmul 4 b m1 ^^^ gmul 4 c m2 ^^^ gmul 4 d m3, gmul 4 a m3 ^^^ gmul 4 b m0 ^^^ gmul 4 c m1 ^^^ gmul 4 d m2,
     gmul 4 a m2 ^^^ gmul 4 b m3 ^^^ gmul 4 c m0 ^^^ gmul 4 d m1, gmul 4 a m1 ^^^ gmul 4 b m2 ^^^ gmul 4 c m3 ^^^ gmul 4 d m0] ++
    mixWith m0 m1 m2 m3 l
  | _ => []

def mixColumns (l : List Byte) : List Byte := mixWith 2 3 1 1 l
def invMixColumns (l : List Byte) : List Byte := mixWith 14 11 13 9 l

def encRounds : List Byte → List (List Byte) → List Byte
  | x, [] => x
  | x, [k] => xorBytes (shiftRows (x.map sbox)) k
  | x, k :: ks => encRounds (xorBytes (mixColumns (shiftRows (x.map sbox))) k) ks

def aesEnc (key block : List Byte) : List Byte :=
  match roundKeys key with
  | [] => block
  | k :: ks => encRounds (xorBytes block k) ks

def decRounds : List Byte → List (List Byte) → List Byte
  | x, [] => x
  | x, [k] => xorBytes ((invShiftRows x).map invSbox) k
  | x, k :: ks => decRounds (invMixColumns (xorBytes ((invShiftRows x).map invSbox) k)) ks

def aesDec (key block : List Byte) : List Byte :=
  match (roundKeys key).reverse with
  | [] => block
  | k :: ks => decRounds (xorBytes block k) ks

/-- A 16-byte block shifted left by one bit, with the reduction of CMAC. -/
def cmacDouble (l : List Byte) : List Byte :=
  let v := beNat l * 2
  beBytes 16 (if v < 2 ^ 128 then v else (v - 2 ^ 128) ^^^ 0x87)

/-- CMAC over message `m`, at most `n` whole blocks before the last. -/
def cmacFrom (key k1 k2 : List Byte) : Nat → List Byte → List Byte → List Byte
  | 0, x, _ => x
  | n + 1, x, m =>
    if 16 < m.length then cmacFrom key k1 k2 n (aesEnc key (xorBytes x (m.take 16))) (m.drop 16)
    else
      let last := if m.length = 16 then xorBytes m k1
        else xorBytes (m ++ [(0x80 : Byte)] ++ List.replicate (15 - m.length) 0) k2
      aesEnc key (xorBytes x last)

def cmac (key m : List Byte) : List Byte :=
  let k1 := cmacDouble (aesEnc key (List.replicate 16 0))
  cmacFrom key k1 (cmacDouble k1) (m.length / 16 + 1) (List.replicate 16 0) m

/-! ## SHA-384 -/

def shaK : List DWord :=
  [0x428A2F98D728AE22, 0x7137449123EF65CD, 0xB5C0FBCFEC4D3B2F, 0xE9B5DBA58189DBBC,
   0x3956C25BF348B538, 0x59F111F1B605D019, 0x923F82A4AF194F9B, 0xAB1C5ED5DA6D8118,
   0xD807AA98A3030242, 0x12835B0145706FBE, 0x243185BE4EE4B28C, 0x550C7DC3D5FFB4E2,
   0x72BE5D74F27B896F, 0x80DEB1FE3B1696B1, 0x9BDC06A725C71235, 0xC19BF174CF692694] ++
  [0xE49B69C19EF14AD2, 0xEFBE4786384F25E3, 0x0FC19DC68B8CD5B5, 0x240CA1CC77AC9C65,
   0x2DE92C6F592B0275, 0x4A7484AA6EA6E483, 0x5CB0A9DCBD41FBD4, 0x76F988DA831153B5,
   0x983E5152EE66DFAB, 0xA831C66D2DB43210, 0xB00327C898FB213F, 0xBF597FC7BEEF0EE4,
   0xC6E00BF33DA88FC2, 0xD5A79147930AA725, 0x06CA6351E003826F, 0x142929670A0E6E70] ++
  [0x27B70A8546D22FFC, 0x2E1B21385C26C926, 0x4D2C6DFC5AC42AED, 0x53380D139D95B3DF,
   0x650A73548BAF63DE, 0x766A0ABB3C77B2A8, 0x81C2C92E47EDAEE6, 0x92722C851482353B,
   0xA2BFE8A14CF10364, 0xA81A664BBC423001, 0xC24B8B70D0F89791, 0xC76C51A30654BE30,
   0xD192E819D6EF5218, 0xD69906245565A910, 0xF40E35855771202A, 0x106AA07032BBD1B8] ++
  [0x19A4C116B8D2D0C8, 0x1E376C085141AB53, 0x2748774CDF8EEB99, 0x34B0BCB5E19B48A8,
   0x391C0CB3C5C95A63, 0x4ED8AA4AE3418ACB, 0x5B9CCA4F7763E373, 0x682E6FF3D6B2B8A3,
   0x748F82EE5DEFB2FC, 0x78A5636F43172F60, 0x84C87814A1F0AB72, 0x8CC702081A6439EC,
   0x90BEFFFA23631E28, 0xA4506CEBDE82BDE9, 0xBEF9A3F7B2C67915, 0xC67178F2E372532B] ++
  [0xCA273ECEEA26619C, 0xD186B8C721C0C207, 0xEADA7DD6CDE0EB1E, 0xF57D4F7FEE6ED178,
   0x06F067AA72176FBA, 0x0A637DC5A2C898A6, 0x113F9804BEF90DAE, 0x1B710B35131C471B,
   0x28DB77F523047D84, 0x32CAAB7B40C72493, 0x3C9EBE0A15C9BEBC, 0x431D67C49C100D4C,
   0x4CC5D4BECB3E42B6, 0x597F299CFC657E2A, 0x5FCB6FAB3AD6FAEC, 0x6C44198C4A475817]

def shaIv : List DWord :=
  [0xCBBB9D5DC1059ED8, 0x629A292A367CD507, 0x9159015A3070DD17, 0x152FECD8F70E5939,
   0x67332667FFC00B31, 0x8EB44A8768581511, 0xDB0C2E0D64F98FA7, 0x47B5481DBEFA4FA4]

def rotr (x : DWord) (n : Nat) : DWord := (x >>> n) ||| (x <<< (64 - n))

/-- The message schedule, newest word first. -/
def schedule : Nat → List DWord → List DWord
  | 0, w => w
  | n + 1, w =>
    let a := w.getD 14 0
    let b := w.getD 1 0
    let s0 := rotr a 1 ^^^ rotr a 8 ^^^ (a >>> 7)
    let s1 := rotr b 19 ^^^ rotr b 61 ^^^ (b >>> 6)
    schedule n ((w.getD 15 0 + s0 + w.getD 6 0 + s1) :: w)

def shaRound (h : List DWord) (kw : DWord × DWord) : List DWord :=
  match h with
  | [a, b, c, d, e, f, g, hh] =>
    let t1 := hh + (rotr e 14 ^^^ rotr e 18 ^^^ rotr e 41) + ((e &&& f) ^^^ (~~~e &&& g)) + kw.1 + kw.2
    let t2 := (rotr a 28 ^^^ rotr a 34 ^^^ rotr a 39) + ((a &&& b) ^^^ (a &&& c) ^^^ (b &&& c))
    [t1 + t2, a, b, c, d + t1, e, f, g]
  | _ => h

def wordsOf : Nat → List Byte → List DWord
  | 0, _ => []
  | n + 1, l => BitVec.ofNat 64 (beNat (l.take 8)) :: wordsOf n (l.drop 8)

def shaBlock (h : List DWord) (b : List Byte) : List DWord :=
  let w := (schedule 64 (wordsOf 16 b).reverse).reverse
  List.zipWith (· + ·) h ((List.zip shaK w).foldl shaRound h)

def shaBlocks : Nat → List DWord → List Byte → List DWord
  | 0, h, _ => h
  | n + 1, h, m => shaBlocks n (shaBlock h (m.take 128)) (m.drop 128)

def sha384 (m : List Byte) : List Byte :=
  let p := m ++ [(0x80 : Byte)] ++ List.replicate ((239 - m.length % 128) % 128) 0 ++ beBytes 16 (8 * m.length)
  ((shaBlocks (p.length / 128) shaIv p).take 6).flatMap (fun w => beBytes 8 w.toNat)

def hmac (key m : List Byte) : List Byte :=
  let k0 := if 128 < key.length then sha384 key else key
  let k := k0 ++ List.replicate (128 - k0.length) 0
  sha384 (k.map (· ^^^ 0x5C) ++ sha384 (k.map (· ^^^ 0x36) ++ m))

/-- HKDF of at most 48 bytes: extract, then one block of expand. -/
def hkdf (salt ikm info : List Byte) (n : Nat) : List Byte := (hmac (hmac salt ikm) (info ++ [(1 : Byte)])).take n

/-! ## ECDSA on brainpoolP384r1 -/

def pP : Nat := 0x8cb91e82a3386d280f5d6f7e50e641df152f7109ed5456b412b1da197fb71123acd3a729901d1a71874700133107ec53
def pN : Nat := 0x8cb91e82a3386d280f5d6f7e50e641df152f7109ed5456b31f166e6cac0425a7cf3ab6af6b7fc3103b883202e9046565
def pA : Nat := 0x7bc382c63d8c150c3c72080ace05afa0c2bea28e4fb22787139165efba91f90f8aa5814a503ad4eb04a8c7dd22ce2826
def pB : Nat := 0x04a8c7dd22ce28268b39b55416f0447c2fb77de107dcd2a62e880ea53eeb62d57cb4390295dbc9943ab78696fa504c11
def pG : Nat × Nat :=
  (0x1d1c64f068cf45ffa2a63a81b7c13f6b8847a3e77ef14fe3db7fcafe0cbd10e8e826e03436d646aaef87b2e247d4af1e,
   0x8abe1d7520f9c2a45cb1eb8e95cfd55262b70b29feec5864e19c054ff99129280e4646217791811142820341263c5315)

def powMod (m : Nat) : Nat → Nat → Nat → Nat
  | 0, _, _ => 1
  | n + 1, b, e => (if e % 2 = 1 then b else 1) * powMod m n (b * b % m) (e / 2) % m

def invMod (m a : Nat) : Nat := powMod m 384 a (m - 2)

/-- Sum of two points; none is the point at infinity. -/
def pointAdd : Option (Nat × Nat) → Option (Nat × Nat) → Option (Nat × Nat)
  | none, q => q
  | p, none => p
  | some (x1, y1), some (x2, y2) =>
    if x1 = x2 && (y1 + y2) % pP = 0 then none
    else
      let l := if x1 = x2 then (3 * x1 * x1 + pA) * invMod pP (2 * y1 % pP) % pP
        else (y2 + pP - y1) * invMod pP ((x2 + pP - x1) % pP) % pP
      let x3 := (l * l + 2 * pP - x1 - x2) % pP
      some (x3, (l * (x1 + pP - x3) + pP - y1) % pP)

def pointMul : Nat → Nat → Option (Nat × Nat) → Option (Nat × Nat)
  | 0, _, _ => none
  | n + 1, k, p => pointAdd (if k % 2 = 1 then p else none) (pointMul n (k / 2) (pointAdd p p))

def onCurve (x y : Nat) : Bool := x < pP && y < pP && (y * y) % pP = (x * x * x + pA * x + pB) % pP

/-- Signature `sig` (r, s: 48 bytes each) under the public key `pub` (x, y: 48 bytes each) over the SHA-384 of `m`. -/
def ecdsaVerify (pub sig m : List Byte) : Bool :=
  let qx := beNat (pub.take 48)
  let qy := beNat (pub.drop 48)
  let r := beNat (sig.take 48)
  let s := beNat (sig.drop 48)
  if pub.length ≠ 96 || sig.length ≠ 96 || !onCurve qx qy || r = 0 || pN ≤ r || s = 0 || pN ≤ s then false
  else
    let w := invMod pN s
    match pointAdd (pointMul 384 (beNat (sha384 m) * w % pN) (some pG)) (pointMul 384 (r * w % pN) (some (qx, qy))) with
    | none => false
    | some (x, _) => x % pN = r

/-- Signature of `m` with private key `d` and secret number `k`. -/
def ecdsaSign (d k : Nat) (m : List Byte) : List Byte :=
  let r := ((pointMul 384 k (some pG)).getD (0, 0)).1 % pN
  beBytes 48 r ++ beBytes 48 (invMod pN k * ((beNat (sha384 m) + r * d) % pN) % pN)

/-- Public key of private key `d`, x then y. -/
def ecdsaPublic (d : Nat) : List Byte :=
  let q := (pointMul 384 d (some pG)).getD (0, 0)
  beBytes 48 q.1 ++ beBytes 48 q.2

end Sys2Proof.Crypto
end

