-- ==== Sys2Proof/Machine/BridleOps.lean ====
section
/-! DEFINITION. The Bridle engine: replies, sessions, shadow slots, admission and rein-back, shared by every request and by
every event that ends one (spec/16). -/

namespace Sys2Proof.Machine

open Sys2Proof.Crypto (beBytes beNat cmac)

/-! ## Status codes -/

def stDone : Nat := 0x00
def stAccepted : Nat := 0x01
def stBusy : Nat := 0x10
def stLate : Nat := 0x11
def stAuth : Nat := 0x20
def stReplay : Nat := 0x21
def stNosession : Nat := 0x22
def stLocked : Nat := 0x23
def stOpcode : Nat := 0x30
def stParam : Nat := 0x31
def stMode : Nat := 0x32
def stAccess : Nat := 0x33
def stNoSignal : Nat := 0x34
def stOwner : Nat := 0x35
def stFault : Nat := 0x40
def stTrip : Nat := 0x41
def stThermal : Nat := 0x42
def stPreempted : Nat := 0x50
def stInternal : Nat := 0xFF

/-- The statuses of the table. -/
def listedStatus : List Nat :=
  [stDone, stAccepted, stBusy, stLate, stAuth, stReplay, stNosession, stLocked, stOpcode, stParam, stMode, stAccess,
   stNoSignal, stOwner, stFault, stTrip, stThermal, stPreempted, stInternal]

/-! ## Parts of the state -/

def State.modBridle (s : State) (f : BridleSt → BridleSt) : State := { s with bridle := f s.bridle }
def State.modBus (s : State) (p : Nat) (f : BusSt → BusSt) : State := { s with bus := s.bus.modify p f }
def State.busAt (s : State) (p : Nat) : BusSt := s.bus.getD p {}
/-- Session `n`, 1-8. -/
def State.sess (s : State) (n : Nat) : Sess := s.bridle.sess.getD (n - 1) {}
def State.modSess (s : State) (n : Nat) (f : Sess → Sess) : State :=
  s.modBridle (fun b => { b with sess := b.sess.modify (n - 1) f })
def State.sessState (s : State) (n : Nat) : Nat := s.fld (Reg.BRD_SESS (n - 1)) Fld.BRD_SESS_state
def State.sessLevel (s : State) (n : Nat) : Nat := if n = 0 then 0 else s.fld (Reg.BRD_SESS (n - 1)) Fld.BRD_SESS_level
def State.sessPort (s : State) (n : Nat) : Nat := s.fld (Reg.BRD_SESS (n - 1)) Fld.BRD_SESS_port
def State.smax (s : State) (n : Nat) : Nat := (s.rd (Reg.BRD_SEQ (n - 1))).toNat

/-! ## Slots -/

def State.slot (s : State) (k : Nat) : Option Slot := s.bridle.slots.getD k none
/-- BRD_STAT counts the slots in use and the queue entries. -/
def State.bridleMirror (s : State) : State :=
  let b := s.bridle
  let s := s.setf Reg.BRD_STAT Fld.BRD_STAT_inflight (b.slots.countP (·.isSome))
  (s.setf Reg.BRD_STAT Fld.BRD_STAT_fwq_a b.fwqA.length).setf Reg.BRD_STAT Fld.BRD_STAT_fwq_s b.fwqS.length
def State.setSlot (s : State) (k : Nat) (x : Option Slot) : State :=
  (s.modBridle (fun b => { b with slots := b.slots.set k x })).bridleMirror
def State.modSlot (s : State) (k : Nat) (f : Slot → Slot) : State :=
  s.modBridle (fun b => { b with slots := b.slots.modify k (·.map f) })

/-- A slot reins back or is done with: its packet, its reservation and its place in a queue go (R486). -/
def State.freeSlot (s : State) (k : Nat) : State :=
  (s.modBridle (fun b => { b with
    slots := b.slots.set k none, fwqA := b.fwqA.erase k, fwqS := b.fwqS.erase k })).bridleMirror

def State.slotFree (s : State) : Option Nat := (List.range 32).find? (fun k => (s.slot k).isNone)

/-- Words of a slot's packet window, four bytes each, the first byte lowest. -/
def packWords (l : List Byte) (n : Nat) : List Word := (List.range n).map (fun i => W (leNat ((l.drop (4 * i)).take 4)))

/-- The packet of slot `k` is readable in BRD_SLOT (R489). -/
def State.showPacket (s : State) (k : Nat) (bytes : List Byte) : State :=
  (List.range 128).foldl (fun s i => s.wr (Reg.BRD_SLOT k i) ((packWords bytes 128).getD i 0)) s

/-- The first `n` bytes of the result of slot `k`. -/
def State.resultBytes (s : State) (k n : Nat) : List Byte :=
  ((List.range 128).flatMap (fun i => leBytes 4 (s.rd (Reg.BRD_RSLT k i)).toNat)).take n

/-! ## Replies -/

/-- Data lengths of FD frames. -/
def fdLengths : List Nat := [0, 1, 2, 3, 4, 5, 6, 7, 8, 12, 16, 20, 24, 32, 48, 64]

def padFd (l : List Byte) : List Byte :=
  match fdLengths.find? (l.length ≤ ·) with
  | some n => l ++ List.replicate (n - l.length) 0
  | none => l

/-- Replies of a port leave as XL frames. -/
def State.replyXl (s : State) (p : Nat) : Bool := s.on (Reg.BUS_BRP p) Fld.BUS_BRP_xl

/-- Result bytes that fit a reply of the port in a session or in session 0 (R464). -/
def State.resultRoom (s : State) (p n : Nat) : Nat := (if s.replyXl p then 492 else 44) - (if n = 0 then 0 else 8)

/-- The bytes of a reply (R464). -/
def replyBytes (krep : List Byte) (notify : Bool) (n seq opcode status time : Nat) (result : List Byte) : List Byte :=
  let body := [BitVec.ofNat 8 (if notify then 0xC1 else 0x81), BitVec.ofNat 8 n] ++ beBytes 2 opcode ++ beBytes 4 seq ++
    [BitVec.ofNat 8 status, 0] ++ beBytes 2 result.length ++ beBytes 8 time ++ result
  if n = 0 then body else body ++ (cmac krep body).take 8

/-- A reply joins the port's pending replies; at most 32 are pending per port (R454, log 22). -/
def State.postReply (s : State) (p : Nat) (bytes : List Byte) (deadline : Nat) : State :=
  let xl := s.replyXl p
  let r : ReplyPend := { data := if xl then bytes else padFd bytes, xl := xl, deadline := deadline, since := s.dtb }
  s.modBus p (fun b => if b.replies.length < 32 then { b with replies := b.replies ++ [r] } else b)

def State.rdl (s : State) : Nat := s.fld Reg.BRD_CTRL Fld.BRD_CTRL_rdl * Config.msCycles

/-- The session's subscriptions end and its reply cache clears (R474); the mode machine proceeds with target STANDBY
when the session holds SERVICE (R480). -/
def State.closeSession (s : State) (n : Nat) : State :=
  let a := Reg.BRD_SESS (n - 1)
  let svc := s.on a Fld.BRD_SESS_svc && (s.val sigMode = 5 || s.val sigTarget = 5)
  let s := (s.wr a 0).wr (Reg.BRD_SEQ (n - 1)) 0
  let s := s.modSess n (fun _ => {})
  let s := s.modBridle (fun b => { b with
    subs := b.subs.filter (fun x => x.session ≠ n), reports := b.reports.filter (fun x => x.1 ≠ n) })
  if svc then
    let s := s.putNat sigTarget 1
    let recheck := if s.val sigPhase = 0 then some s.nextMs else s.mode.recheck
    { s with mode := { s.mode with recheck := recheck } }.irq 90
  else s.irq 90

/-- A reply of a session: kept in the reply cache unless it is ST_BUSY (R478). ST_REPLAY is not kept either, since R477
gives every such packet ST_REPLAY (log 34). -/
def State.cacheReply (s : State) (n seq status : Nat) (bytes : List Byte) : State :=
  if n = 0 || status = stBusy || status = stReplay then s
  else s.modSess n (fun x => { x with cache := ((seq, bytes) :: x.cache.filter (·.1 ≠ seq)).take 16 })

/-- The session is still the one the packet came in. -/
def State.sessionLives (s : State) (n : Nat) : Bool := n = 0 || s.sessState n = 2

/-- First reply of a request: its deadline counts from the end of the request frame (R466); any status but ST_BUSY moves
s_max (R477), and sequence FFFF_FFFF closes the session (R474). -/
def State.firstReply (s : State) (p n seq opcode status time : Nat) (result : List Byte) (tEnd : Nat) : State :=
  let bytes := replyBytes (s.sess n).krep false n seq opcode status time result
  let s := (s.postReply p bytes (tEnd + s.rdl)).cacheReply n seq status bytes
  if n = 0 || status = stBusy || status = stReplay || !s.sessionLives n then s
  else
    let s := s.wr (Reg.BRD_SEQ (n - 1)) (W (max (s.smax n) seq))
    if seq = 0xFFFFFFFF then s.closeSession n else s

/-- Second reply of a packet that was accepted (R465). -/
def State.secondReply (s : State) (x : Slot) (status time : Nat) : State :=
  let bytes := replyBytes x.krep false x.session x.seq x.opcode status time []
  let s := s.postReply x.port bytes (s.dtb + s.rdl)
  if s.sessionLives x.session then s.cacheReply x.session x.seq status bytes else s

/-! ## Admission (R483) -/

/-- Promise of a class in CLK_CTL cycles. -/
def promise (cls : Nat) : Nat :=
  match cls with
  | 0 => 100000
  | 1 => 400000
  | 2 => 4000000
  | 3 => 40000000
  | _ => 2000000000

/-- Pipeline latency of the hardware path. -/
def bridleLat : Nat := 2400

/-- First time at or after `t` of the series `b`, `b + p`, `b + 2p`, … -/
def seriesAt (b p t : Nat) : Nat := if t ≤ b || p = 0 then b else b + (t - b + p - 1) / p * p

/-- First commit boundary of a target at or after `t` (R30): the predicted load points of the lead generator, or the
1 ms boundaries. -/
def State.boundaryFrom (s : State) (target t : Nat) : Nat :=
  let msB := (t + Config.msCycles - 1) / Config.msCycles * Config.msCycles
  if target < 14 then
    let g := leadGen target
    let per := s.genCycles g
    if (gensOfStage target).isEmpty || !s.running g || s.gmode g = 2 || per = 0 then msB
    else
      let st := (s.pgAt g).next
      let ce := if (s.pgAt g).centreDone then st + per / 2 else st - per / 2
      match s.loadsStart g, s.loadsCentre g with
      | true, true => min (seriesAt st per t) (seriesAt ce per t)
      | true, false => seriesAt st per t
      | false, true => seriesAt ce per t
      | false, false => msB
  else msB

/-- Accepted, uncommitted packets with their commit at `b` for the target. -/
def State.reserved (s : State) (target b : Nat) : Nat :=
  s.bridle.slots.countP (fun x => x.any (fun x => x.stage = .waiting && x.target = target && x.commit = b))

/-- The first boundary with room; 32 slots fill at most four. -/
def State.roomFrom (s : State) (target deadline : Nat) : Nat → Nat → Nat
  | 0, b => b
  | n + 1, b => if s.reserved target b < 8 || deadline < b then b else s.roomFrom target deadline n (s.boundaryFrom target (b + 1))

/-- The commit time that admission finds, or the earliest possible one when it is past the promise. -/
def State.admitAt (s : State) (target tReady lat tEnd cls : Nat) : Nat × Bool :=
  let deadline := tEnd + promise cls
  let b := s.roomFrom target deadline 6 (s.boundaryFrom target (tReady + lat))
  (b, b ≤ deadline)

/-- Slot `k` waits for its commit at `b`. -/
def State.reserve (s : State) (k target b : Nat) : State :=
  (s.modSlot k (fun x => { x with stage := .waiting, target := target, commit := b, order := s.bridle.order })).modBridle
    (fun br => { br with order := br.order + 1 })

/-! ## Preemption (R487) -/

/-- Scope of a packet: the Stage scope of its target, or the Module. -/
def targetScope (target : Nat) : Nat := if target < 14 then scopeOf lvStage target else scopeOf lvModule 0

/-- A reaction on scope `sc` covers the packet. -/
def preempts (sc target : Nat) : Bool :=
  let sc := if scopeLevel sc = 7 then scopeOf lvModule 0 else sc
  scopeUnder sc (targetScope target)

/-- A Martingale reaction of SAFE or above on `sc` preempts every accepted, uncommitted packet at or under it. -/
def State.preempt (s : State) (sc : Nat) : State :=
  s.forN 32 (fun s k =>
    match s.slot k with
    | some x =>
      if x.stage = .waiting && preempts sc x.target then
        ((s.freeSlot k).secondReply x stPreempted s.dtb).inc Reg.BRD_CNT_PREEMPT
      else s
    | none => s)

end Sys2Proof.Machine
end

