-- ==== Sys2Proof/Machine/Gates.lean ====
section
/-! DEFINITION. Meanings of the gate-drive channel commands: edges, faults, probe, DRV_EN and the start sequence, chopper and
forced discharge (spec/07). -/

namespace Sys2Proof.Machine

def chanScope (n : Nat) : Nat := scopeOf lvChannel n

/-! ## Commands and edges -/

/-- The oldest change on the link of a generator's high or low command arrives: the state after it and the level, none when
the link carries none. The 18 ns of the link are taken as 8 cycles (log 21). -/
def State.linkArrival (s : State) (g : Nat) (high : Bool) : Option (State × Bool) :=
  match (if high then (s.pgAt g).hiLink else (s.pgAt g).loLink) with
  | [] => none
  | (t, on) :: rest =>
    let s := (s.reach (t + 8)).modPg g (fun p => if high then { p with hiLink := rest } else { p with loLink := rest })
    some (s, on)

/-- GATE_COMMAND_ARRIVAL (R225, R219, R257, R258, R409): channel `ch` 0-33 is HV, 64-92 LV. With nothing on the link, what
the comparator, the forced discharge or path 2 has changed reaches the channel. -/
def execGateCommandArrival (ch : Nat) (s : State) : Outcome :=
  ofUnit (ch < 34 || (64 ≤ ch && ch ≤ 92)) <|
    if ch < 34 then
      match s.linkArrival (genOfHv ch) (hvIsHigh ch) with
      | some (s, on) =>
        let s := s.modHv ch (fun h => { h with gen := on })
        s.hvCommand ch (s.hvWanted ch)
      | none => if s.hvWanted ch = (s.hvAt ch).cmd then s else s.hvCommand ch (s.hvWanted ch)
    else
      let m := ch - 64
      match s.linkArrival (genOfLv m) (lvIsHigh m) with
      | some (s, on) => (s.modLv m (fun l => { l with cmd := on })).lvUpdate m
      | none => s

/-- STRONG_PHASE_END (R229). -/
def execStrongPhaseEnd (n : Nat) (s : State) : Outcome :=
  ofUnit (n < 34) <|
    match (s.hvAt n).edge with
    | none => s
    | some e =>
      if e.gait && e.phase = 1 then (s.reach e.preEnd).modHv n (fun h => { h with edge := some { e with phase := 2 } }) else s

/-- The edge is over; after a turn-off the channel counts as off from the off-level of its gate sense (R253). -/
def State.edgeOver (s : State) (n : Nat) (rise : Bool) : State :=
  s.modHv n (fun h => { h with edge := none, offSince := if rise then none else some (s.offFrom n) })

/-- Voltage that the step rule uses for an edge (R238, R260). -/
def State.linkVolts (s : State) (e : Edge) : Nat :=
  if Word.get e.lrn Fld.GCH_LRN_vsrc = 1 then s.fld Reg.CHL_MEAS Fld.CHL_MEAS_v else s.fld Reg.DCL_MEAS Fld.DCL_MEAS_v

/-- Learning is frozen for the edge, apart from the validity of its measurement (R236, R239). -/
def State.frozen (s : State) (n : Nat) (e : Edge) : Bool :=
  let bad := fun m => s.biasUv m || s.hvFault m ≠ 0
  !s.on Reg.GDC_CTRL Fld.GDC_CTRL_learn || Word.get e.lrn Fld.GCH_LRN_lfrz = 1 || bad n || (hvMate n).any bad ||
    s.tripLines (genOfHv n) ≠ 0 || s.linkVolts e < 100 || !e.learn

/-- One quantity moves by at most one step toward its target (R238). -/
def stepToward (v lo hi : Nat) (m tgt db : Int) : Nat :=
  if tgt + db < m && v < hi then v + 1 else if m < tgt - db && lo < v then v - 1 else v

/-- The step rule (R238). -/
def State.learnStep (s : State) (n : Nat) (e : Edge) (tIn tPl : Nat) : State :=
  let a := Reg.GCH_BIN n e.bin
  let b := Reg.GCH_LBND n
  let dvdt := Word.get e.lrn Fld.GCH_LRN_dvdt
  let db : Int := Word.get e.lrn Fld.GCH_LRN_db
  let ttgt : Int := ((64 * s.linkVolts e + 10 * dvdt) / (20 * dvdt) : Nat)
  let dtgt : Int := Word.get e.dtgt (if e.rise then Fld.GCH_DTGT_on else Fld.GCH_DTGT_off)
  let sl := s.fld a Fld.GCH_BIN_sl
  let pre := s.fld a Fld.GCH_BIN_pre
  let sl' := stepToward sl (s.fld b Fld.GCH_LBND_sl_min) (s.fld b Fld.GCH_LBND_sl_max) tPl ttgt db
  let pre' := stepToward pre (s.fld b Fld.GCH_LBND_pre_min) (s.fld b Fld.GCH_LBND_pre_max) tIn dtgt db
  let k := (if sl = sl' then 0 else 1) + (if pre = pre' then 0 else 1)
  ((s.setf a Fld.GCH_BIN_sl sl').setf a Fld.GCH_BIN_pre pre').incBy (Reg.GCH_CNT_STEP n) k

/-- A learning fault on a bin (R241). -/
def State.learnFault (s : State) (n k : Nat) : State :=
  let s := s.wr (Reg.GCH_BIN n k) (s.rd (Reg.GCH_SEED n))
  let s := (s.setHvState n chPlain).setQual n 0
  let s := (s.setf (Reg.GCH_STAT n) Fld.GCH_STAT_lfault 1).inc (Reg.GCH_CNT_LFLT n)
  (s.modHv n (fun h => { h with nopl := h.nopl.set k 0 })).report 2 (chanScope n)

/-- A measured edge (R237, R238, R241). -/
def State.measureEdge (s : State) (n : Nat) (e : Edge) (tIn tPl : Nat) (valid : Bool) : State :=
  let a := Reg.GCH_MEAS n
  let s := (s.setf a Fld.GCH_MEAS_t_in (min tIn 4095)).setf a Fld.GCH_MEAS_t_pl (min tPl 4095)
  let s := (s.setf a Fld.GCH_MEAS_bin e.bin).setb a Fld.GCH_MEAS_valid valid
  if !valid then s
  else
    let t := tIn + tPl
    let s := if e.rise then s else s.setf (Reg.GCH_TOFF_MAX n) Fld.GCH_TOFF_MAX_max (max (s.fld (Reg.GCH_TOFF_MAX n) Fld.GCH_TOFF_MAX_max) (min t 4095))
    if !e.rise && s.fld (Reg.GCH_TOFF n) Fld.GCH_TOFF_lim < t then s.learnFault n e.bin
    else if s.frozen n e then s else s.learnStep n e tIn tPl

/-- PLATEAU_EXIT (R230, R237, R238, R241): times in units of 0.3125 ns from the command's arrival. -/
def execPlateauExit (n tIn tPl : Nat) (s : State) : Outcome :=
  ofUnit (n < 34) <|
    match (s.hvAt n).edge with
    | none => s
    | some e =>
      if e.gait && e.phase < 3 && tIn + tPl ≤ 3200 then
        let s := (s.reach (e.t0 + (tIn + tPl + 7) / 8)).edgeOver n e.rise
        let s := s.modHv n (fun h => { h with nopl := h.nopl.set e.bin 0 })
        if e.meas then s.measureEdge n e tIn tPl true else s
      else s

/-- SLOPE_TIMEOUT (R230, R241): 1 µs without plateau exit; the times that were not seen are free. -/
def execSlopeTimeout (n : Nat) (s : State) : Outcome :=
  ofUnit (n < 34) <|
    match (s.hvAt n).edge with
    | none => s
    | some e =>
      if e.gait && e.phase < 3 then
        let s := ((s.reach (e.t0 + 400)).edgeOver n e.rise).inc (Reg.GCH_CNT_NOPL n)
        let s := if e.meas then
            let (a, s) := s.drawWord
            let (b, s) := s.drawWord
            s.measureEdge n e (a.toNat % 4096) (b.toNat % 4096) false
          else s
        let k := (s.hvAt n).nopl.getD e.bin 0 + 1
        let s := s.modHv n (fun h => { h with nopl := h.nopl.set e.bin k })
        if 8 ≤ k && e.bin % 4 ≠ 0 then s.learnFault n e.bin else s
      else s

/-- GATE_SENSE_MIDPOINT (R234): the edge qualifies within 300 ns of its command without a fault of the leg. -/
def execGateSenseMidpoint (n : Nat) (s : State) : Outcome :=
  ofUnit (n < 34) <|
    match (s.hvAt n).edge with
    | none => s
    | some e =>
      if e.gait then s
      else
        let clean := s.hvFault n = 0 && (hvMate n).all (fun m => s.hvFault m = 0)
        let s' := s.edgeOver n e.rise
        if e.meas && s.dtb ≤ e.t0 + 120 && clean then s'.setQual n (min 16 (s.fld (Reg.GCH_STAT n) Fld.GCH_STAT_qual + 1))
        else s'.setQual n 0

/-- QUALIFICATION_TIMEOUT (R234): 300 ns without the midpoint. -/
def execQualificationTimeout (n : Nat) (s : State) : Outcome :=
  ofUnit (n < 34) <|
    match (s.hvAt n).edge with
    | none => s
    | some e =>
      if e.gait || !e.meas then s
      else ((s.reach (e.t0 + 120)).modHv n (fun h => { h with edge := some { e with meas := false } })).setQual n 0

/-! ## Faults -/

/-- LINK_LOSS (R226). The channels that the -D variant holds off stay in OFF (R11). -/
def execLinkLoss (n : Nat) (s : State) : Outcome :=
  ofUnit (n < 34) <| if s.hvAbsent n then s else
    let s := (s.report 1 (chanScope n)).sourceOn 1 (chanScope n)
    if s.hvState n = chSoftoff || s.hvState n = chFault then s
    else ((s.hvForceOff n).latchFault n 2).setHvState n chFault

/-- BIAS_UNDERVOLTAGE (R223): TL5 is active while any HV channel is in under-voltage. -/
def execBiasUndervoltage (n : Nat) (s : State) : Outcome :=
  ofUnit (n < 34) <|
    if s.biasUv n then s
    else
      let s := s.setf (Reg.GCH_STAT n) Fld.GCH_STAT_bias_uv 1
      let s := if s.hvState n = chSoftoff then s else s.hvForceOff n
      let s := if s.hvFollows n then s.setHvState n chBiasuv else s
      s.lineActive 5

/-- BIAS_RECOVERY (R223). -/
def execBiasRecovery (n : Nat) (s : State) : Outcome :=
  ofUnit (n < 34) <|
    if s.biasUv n then
      let s := s.setf (Reg.GCH_STAT n) Fld.GCH_STAT_bias_uv 0
      let s := if s.hvState n = chBiasuv then s.enterPlain n else s
      if (List.range 34).any (fun m => s.biasUv m) then s else s.lineInactive 5
    else s

/-- An LV channel's over-current (R224); L10 and L11 of the -D variant stay in OFF (R11). -/
def State.lvOverCurrent (s : State) (m : Nat) : State :=
  let a := Reg.LCH_STAT m
  if s.on a Fld.LCH_STAT_ovc || s.lvAbsent m then s
  else
    let s := ((s.setf a Fld.LCH_STAT_ovc 1).setf a Fld.LCH_STAT_state 2).inc (Reg.LCH_CNT_OVC m)
    (((s.setf Reg.GDC_LFLT (bitF m) 1).lvUpdate m).report 1 (chanScope (64 + m))).sourceOn 1 (chanScope (64 + m))

/-- LV_BOOTSTRAP_UV (R224). -/
def execLvBootstrapUv (m : Nat) (s : State) : Outcome :=
  ofUnit (m < 29) ((s.setf (Reg.LCH_STAT m) Fld.LCH_STAT_bs_uv 1).lvUpdate m)

/-- LV_BOOTSTRAP_RECOVERY (R224). -/
def execLvBootstrapRecovery (m : Nat) (s : State) : Outcome :=
  ofUnit (m < 29) ((s.setf (Reg.LCH_STAT m) Fld.LCH_STAT_bs_uv 0).lvUpdate m)

/-- SENSE_CELL_CROSSING (R244): Gnn_SC of channel `n.1` rises above V_th (`n.2`), or falls back below it. -/
def execSenseCellCrossing (n : Nat × Bool) (s : State) : Outcome :=
  ofUnit (n.1 < 34) (s.modHv n.1 (fun h => { h with crossed := if n.2 then some (h.crossed.getD s.dtb) else none }))

/-- The leg lock takes the other channel of `n`'s leg off (R228). -/
def State.lockLeg (s : State) (n : Nat) : State :=
  match hvMate n with
  | none => s
  | some m => if s.legLocked m && (s.hvAt m).gate then s.hvForceOff m else s

/-- Trip line of a channel's sense-cell group (R211, R246). -/
def scLine (n : Nat) : Nat := if n < 6 then 1 else if n < 12 then 2 else 3

/-- SENSE_CELL_DETECTION (R244-R246, R228): SC latched, the group's line active, reported. The soft turn-off starts a free
time after the detection, at most 350 ns after the crossing, and holds the plateau for 500 ns (log 109). -/
def execSenseCellDetection (n : Nat) (s : State) : Outcome :=
  ofUnit (n < 34) <|
    match s.detectAt n with
    | none => s
    | some t =>
      let s := s.reach t
      let soft := s.dtb + Config.softLag n s.dtb % 125
      let s := s.modHv n (fun h => { h with gate := false, edge := none, offSince := none, softEnd := some (soft + 200) })
      let s := ((s.setHvState n chSoftoff).latchFault n 1).inc (Reg.GCH_CNT_SC n)
      ((s.lockLeg n).lineActive (scLine n) |>.report 0 (chanScope n)).sourceOn 0 (chanScope n)

/-- SOFT_TURN_OFF_END (R245). -/
def execSoftTurnOffEnd (n : Nat) (s : State) : Outcome :=
  ofUnit (n < 34) <|
    match (s.hvAt n).softEnd with
    | none => s
    | some t =>
      if s.hvState n = chSoftoff then
        let s := s.reach t
        (s.modHv n (fun h => { h with softEnd := none, offSince := some s.dtb })).setHvState n chFault
      else s

/-! ## Probe -/

/-- Duration of a bridge's probe in cycles (R247). -/
def probeCycles (b : Nat) : Nat :=
  let legs := (gensOfBridge b).length
  if b = 7 || b = 8 then 200 * 400 else (200 + 600 * legs) * 400

/-- Link of bridges 2-5 for the probe, in volts (R247); the rails of bridges 0 and 1 are operands of the probe's first
step. -/
def State.probeLink (s : State) (b : Nat) : Nat :=
  let d := s.fld Reg.DCL_MEAS Fld.DCL_MEAS_v
  let c := s.fld Reg.CHL_MEAS Fld.CHL_MEAS_v
  if b = 2 || b = 3 then c else if b = 5 && s.variant = .f then max d c else d

def State.modProbe (s : State) (f : ProbeSt → ProbeSt) : State := s.modGate (fun g => { g with probe := f g.probe })

/-- HV channels of a bridge. -/
def hvOfBridge (b : Nat) : List Nat := (List.range 34).filter (fun n => bridgeOfGen (genOfHv n) = some b)

/-- The probe of bridge `b` begins; its link is sampled once (R247). -/
def State.probeBridge (s : State) (b : Nat) : State :=
  s.modProbe (fun p => { p with bridge := some b, start := s.dtb, linked := 2 ≤ b && b < 7 && 50 ≤ s.probeLink b, gloopDone := false, inj := [] })

/-- Bridges of a mask, in index order; bit 6 is reserved and bits 2-4 do not exist on the -D variant (R254). -/
def State.probeMask (s : State) (m : Nat) : List Nat :=
  [0, 1, 2, 3, 4, 5, 7, 8].filter (fun b => bit m b && !(s.variant = .d && 2 ≤ b && b ≤ 4))

/-- The probe ends, and every channel in OFF enters PLAIN (R227): the start sequence is in RUN, which a probe asked for in
RUN does not leave (log 20). -/
def State.seqRun (s : State) : State :=
  let s := (s.setf Reg.GDC_STAT Fld.GDC_STAT_seq 3).setf Reg.GDC_PRB_RES Fld.GDC_PRB_RES_busy 0
  let s := s.setf Reg.GDC_PRB_RES Fld.GDC_PRB_RES_done 1
  s.forN 34 (fun s n => if s.hvState n = chOff && !s.hvAbsent n then s.enterPlain n else s)

/-- A probe of the bridges `bs` begins: their channels in OFF, PLAIN or GAIT enter PROBE (R227, R247). -/
def State.probeStart (s : State) (bs : List Nat) : State :=
  let s := s.each bs (fun s b => s.each (hvOfBridge b) (fun s n =>
    if s.hvState n = chOff || s.hvFollows n then (s.hvForceOff n).setHvState n chProbe else s))
  let s := s.each bs (fun s b => (s.setf Reg.GDC_PRB_RES (bitF b) 0).each (gensOfBridge b) (fun s g => s.wr (Reg.GDC_PLEG g) 0))
  let s := (s.setf Reg.GDC_PRB_RES Fld.GDC_PRB_RES_done 0).setf Reg.GDC_PRB_RES Fld.GDC_PRB_RES_busy 1
  let s := s.modProbe (fun p => { p with left := bs.drop 1 })
  match bs with
  | [] => s.seqRun
  | b :: _ => s.probeBridge b

/-- PROBE_GATE_LOOP_DONE (R247, R248): `rs.1` holds R of each channel of the bridge in ohms, 0xFFFF over range; `rs.2` is the
voltage between the rails of a drive bridge at the start of its probe. -/
def execProbeGateLoopDone (rs : List Nat × Nat) (s : State) : Outcome :=
  .next <|
    match s.gate.probe.bridge with
    | none => s
    | some b =>
      if s.gate.probe.gloopDone then s
      else
        let s := (s.reach (s.gate.probe.start + 200 * 400)).modProbe (fun p => { p with
          gloopDone := true, linked := if b < 2 then 50 ≤ rs.2 else p.linked })
        let chs := hvOfBridge b
        (List.range chs.length).foldl (fun s i =>
          let n := chs.getD i 0
          let r := min 0xFFFF (rs.1.getD i 0xFFFF)
          let a := Reg.GCH_GLOOP n
          let w := Reg.GCH_GLW n
          (s.setf a Fld.GCH_GLOOP_r r).setf a Fld.GCH_GLOOP_res
            (if r < s.fld w Fld.GCH_GLW_rmin then 2 else if s.fld w Fld.GCH_GLW_rmax < r || r = 0xFFFF then 3 else 1)) s

/-- PROBE_INJECTION_END (R247): node voltages of the legs at the start and end of the injection, and the rails, in mV. -/
def execProbeInjectionEnd (v0 v1 : List Int) (hi lo : Int) (s : State) : Outcome :=
  .next <|
    let p := s.gate.probe
    match p.bridge with
    | none => s
    | some b =>
      let i := p.inj.length
      if p.linked && p.gloopDone && i < 2 * (gensOfBridge b).length then
        let t := p.start + (200 + 600 * (i / 2) + (if i % 2 = 0 then 250 else 550)) * 400
        (s.reach t).modProbe (fun p => { p with inj := p.inj ++ [{ v0 := v0, v1 := v1, hi := hi, lo := lo }] })
      else s

/-- Movement of leg `x` in an injection, in mV. -/
def Injection.move (j : Injection) (x : Nat) : Int := j.v1.getD x 0 - j.v0.getD x 0

/-- Legs that do not follow leg `x` in one of its injections: they move by less than half its change in the same direction
(log 19). -/
def openLegs (js : List Injection) (x legs : Nat) : List Nat :=
  (List.range legs).filter (fun y => y ≠ x && js.any (fun j =>
    let m := j.move x
    let k := if m < 0 then -j.move y else j.move y
    m ≠ 0 && 2 * k < (m.natAbs : Int)))

/-- Classification of leg `x` of bridge `b` from its two injections (R247, R248): result and the legs marked open. -/
def classifyLeg (b x legs : Nat) (linked : Bool) (inj : List Injection) : Nat × Nat :=
  if !linked then (if b < 2 then 6 else 7, 0)
  else
    let js := (inj.drop (2 * x)).take 2
    let near := fun (r : Injection → Int) => js.all (fun j => (j.v1.getD x 0 - r j).natAbs ≤ 5000)
    let op := if b < 2 then openLegs js x legs else []
    if near (·.hi) then (2, 0) else if near (·.lo) then (3, 0)
    else if !op.isEmpty then (4, op.foldl (fun m y => m + 2 ^ y) 0)
    else if js.all (fun j => (j.move x).natAbs < 10000) then (5, 0) else (1, 0)

/-- A probe fault latched in a channel (R249); a channel in PROBE enters FAULT. -/
def State.probeFault (s : State) (n code : Nat) : State :=
  let s := s.latchFault n code
  if s.hvState n = chProbe then s.setHvState n chFault else s

/-- Results of one leg (R249). -/
def State.legResult (s : State) (b x : Nat) : State :=
  let gs := gensOfBridge b
  let g := gs.getD x 0
  let p := s.gate.probe
  let (res, op) := classifyLeg b x gs.length p.linked p.inj
  let s := (s.setf (Reg.GDC_PLEG g) Fld.GDC_PLEG_res res).setf (Reg.GDC_PLEG g) Fld.GDC_PLEG_open op
  if res = 2 || res = 3 || res = 5 then
    ((s.each (hvOfGen g) (fun s n => s.probeFault n 3)).report 2 (scopeOf lvLeg g)).sourceOn 2 (scopeOf lvLeg g)
  else if res = 4 then
    ((s.each (hvOfGen g) (fun s n => s.probeFault n 3)).report 2 (scopeOf lvBridge b)).sourceOn 2 (scopeOf lvBridge b)
  else s

/-- Gate-loop faults of a bridge (R249). -/
def State.loopFaults (s : State) (b : Nat) : State :=
  s.each (hvOfBridge b) (fun s n =>
    if s.fld (Reg.GCH_GLOOP n) Fld.GCH_GLOOP_res = 1 then s
    else ((s.probeFault n 4).report 2 (chanScope n)).sourceOn 2 (chanScope n))

/-- The bridge passes (R249). -/
def State.bridgePasses (s : State) (b : Nat) : Bool :=
  (gensOfBridge b).all (fun g => let r := s.fld (Reg.GDC_PLEG g) Fld.GDC_PLEG_res; r = 1 || r = 7) &&
    (hvOfBridge b).all (fun n => s.fld (Reg.GCH_GLOOP n) Fld.GCH_GLOOP_res = 1)

/-- PROBE_BRIDGE_DONE (R248, R249, R253): the legs are classified; the next bridge, or RUN, follows. A channel without a
fault of its own is OFF again, of a bridge that does not pass as well (log 20, DEDUCED). -/
def execProbeBridgeDone (s : State) : Outcome :=
  .next <|
    let p := s.gate.probe
    match p.bridge with
    | none => s
    | some b =>
      let legs := (gensOfBridge b).length
      if p.gloopDone && (!p.linked || p.inj.length = 2 * legs) then
        let s := s.reach (p.start + probeCycles b)
        let s := (s.forN legs (fun s x => s.legResult b x)).loopFaults b
        let s := s.each (hvOfBridge b) (fun s n => if s.hvState n = chProbe then s.setHvState n chOff else s)
        let s := s.setb Reg.GDC_PRB_RES (bitF b) (s.bridgePasses b)
        match p.left with
        | b' :: rest => (s.modProbe (fun p => { p with left := rest })).probeBridge b'
        | [] =>
          let s := s.modProbe (fun p => { p with bridge := none })
          s.seqRun
      else s

def State.gdcErr (s : State) : State := s.setf Reg.GDC_STAT Fld.GDC_STAT_cfg_err 1

/-- A probe asked for in RUN (R250); outside RUN or during a probe it is refused (log 20). -/
def State.probeRequest (s : State) : State :=
  let bs := s.probeMask (s.fld Reg.GDC_PRB Fld.GDC_PRB_mask)
  if s.fld Reg.GDC_STAT Fld.GDC_STAT_seq ≠ 3 || s.gate.probe.bridge.isSome ||
      bs.any (fun b => (gensOfBridge b).any (fun g => s.on (Reg.PWM_CTRL g) Fld.PWM_CTRL_en)) then s.gdcErr
  else s.probeStart bs

/-- GDC_PROBE_START (R250, R254): a write of GDC_PRB with start = 1; on the -D variant bits 2-4 of the mask are ignored. -/
def execGdcProbeStart (core : Nat) (v : Word) (s : State) : Outcome :=
  ofUnit (core < 6) <| s.byCore core 4 (fun s =>
    (s.setf Reg.GDC_PRB Fld.GDC_PRB_mask (v.toNat &&& (if s.variant = .d then 0x1A3 else 0x1BF))).probeRequest)

/-! ## DRV_EN, EN_REQ and the start sequence -/

/-- DRV_EN_PIN_CHANGE (R251). -/
def execDrvEnPinChange (level : Bool) (s : State) : Outcome :=
  .next (s.modGate (fun g => { g with
    drvEn := level
    drvSince := if level = s.on Reg.GDC_STAT Fld.GDC_STAT_drv_en then none else some s.dtb }))

/-- A filtered low aborts a probe of the start sequence (R227, R253). -/
def State.probeAbort (s : State) : State :=
  match s.gate.probe.bridge with
  | none => s
  | some b =>
    let s := s.each (b :: s.gate.probe.left) (fun s b =>
      (s.each (gensOfBridge b) (fun s g => s.wr (Reg.GDC_PLEG g) 0)).each (hvOfBridge b) (fun s n => s.wr (Reg.GCH_GLOOP n) 0))
    let s := s.forN 34 (fun s n => if s.hvState n = chProbe then s.setHvState n chOff else s)
    (s.modProbe (fun p => { p with bridge := none, left := [] })).setf Reg.GDC_PRB_RES Fld.GDC_PRB_RES_busy 0

/-- DRV_EN_FILTERED_LOW (R251, R253). -/
def execDrvEnFilteredLow (s : State) : Outcome :=
  .next <|
    match s.gate.drvSince with
    | none => s
    | some t =>
      if s.gate.drvEn then s
      else
        let s := (s.reach (t + 80)).modGate (fun g => { g with drvSince := none, lowSince := t })
        let s := (s.setf Reg.GDC_STAT Fld.GDC_STAT_drv_en 0).probeAbort
        let s := s.forN 34 (fun s n =>
          if s.hvFollows n || s.hvState n = chBiasuv then (s.hvForceOff n).setHvState n chOff else s)
        if s.fld Reg.GDC_STAT Fld.GDC_STAT_seq = 1 then s else s.setf Reg.GDC_STAT Fld.GDC_STAT_seq 0

/-- DRV_EN_FILTERED_RISE (R251, R253): the clear flag after a low of at least 10 µs. -/
def execDrvEnFilteredRise (s : State) : Outcome :=
  .next <|
    match s.gate.drvSince with
    | none => s
    | some t =>
      if !s.gate.drvEn then s
      else
        let long := s.gate.lowSince + 4000 ≤ t
        let s := (s.reach (t + 80)).modGate (fun g => { g with drvSince := none })
        let s := s.setf Reg.GDC_STAT Fld.GDC_STAT_drv_en 1
        let s := if long then s.setf Reg.GDC_STAT Fld.GDC_STAT_clr 1 else s.inc Reg.GDC_CNT_ENSHORT
        if s.fld Reg.GDC_STAT Fld.GDC_STAT_seq = 1 then s.inc Reg.GDC_CNT_PEND else s.setf Reg.GDC_STAT Fld.GDC_STAT_seq 1

/-- Clearing of every latched fault of every HV and LV channel, and of the LV converter's over-voltage latch, at a start
sequence with its clear flag (R242, R246, R251, R341). -/
def State.clearChannels (s : State) : State :=
  let s := s.forN 34 (fun s n =>
    let sc := s.hvFault n = 1
    let s := (s.setf (Reg.GCH_STAT n) Fld.GCH_STAT_fault 0).setFltBit n false
    let s := if s.hvState n = chFault then s.setHvState n chOff else s
    let s := if sc then s.forN 8 (fun s k => s.wr (Reg.GCH_BIN n k) (s.rd (Reg.GCH_SEED n))) else s
    (((s.sourceOff 0 (chanScope n)).sourceOff 1 (chanScope n)).sourceOff 2 (chanScope n)).sourceOff 2 (scopeOf lvLeg (genOfHv n)))
  let s := s.forN 15 (fun s b => s.sourceOff 2 (scopeOf lvBridge b))
  let s := s.forN 29 (fun s m =>
    let a := Reg.LCH_STAT m
    let s := if s.on a Fld.LCH_STAT_ovc then (s.setf a Fld.LCH_STAT_ovc 0).setf a Fld.LCH_STAT_state 1 else s
    (s.setf Reg.GDC_LFLT (bitF m) 0).sourceOff 1 (chanScope (64 + m)))
  let s := ((s.lineInactive 1).lineInactive 2).lineInactive 3
  let s := s.forN 29 (fun s m => s.lvUpdate m)
  s.lineInactive 7

/-- EN_REQ pin (R252, R548). -/
def State.enReq (s : State) : Bool :=
  s.domainOn 2 && s.domainOn 4 && s.on Reg.GDC_ENR Fld.GDC_ENR_req && !s.on Reg.MG_STAT Fld.MG_STAT_sto && !s.mg.supervisor && s.gate.enPulse.isNone

/-- EN_REQ_PULSE (R252): EN_REQ is low for 20 µs. -/
def execEnReqPulse (core : Nat) (s : State) : Outcome :=
  ofUnit (core < 6) (s.byCore core 4 (fun s => s.modGate (fun g => { g with enPulse := some (s.dtb + 8000) })))

/-- EN_REQ_PULSE_END (R252). -/
def execEnReqPulseEnd (s : State) : Outcome :=
  .next <| match s.gate.enPulse with
    | none => s
    | some t => (s.reach t).modGate (fun g => { g with enPulse := none })

/-! ## Link comparators and forced discharge -/

/-- A command of G32 or G33 that does not come from a generator reaches its channel. -/
def State.hvRefresh (s : State) (n : Nat) : State := s.hvCommand n (s.hvWanted n)

/-- CHOPPER_ON (R256, R257). -/
def execChopperOn (s : State) : Outcome :=
  .next (if s.gate.chopper then s else ((s.modGate (fun g => { g with chopper := true })).inc Reg.BRK_CNT).hvRefresh 32)

/-- CHOPPER_OFF (R256). -/
def execChopperOff (s : State) : Outcome :=
  .next (if s.gate.chopper then (s.modGate (fun g => { g with chopper := false })).hvRefresh 32 else s)

/-- HARD_OVERVOLTAGE (R256): TL4. -/
def execHardOvervoltage (s : State) : Outcome := .next (s.lineActive 4)

/-- HARD_OVERVOLTAGE_RELEASE (R256). -/
def execHardOvervoltageRelease (s : State) : Outcome :=
  .next (if bit (s.rd Reg.TRP_LVL).toNat 4 then s.lineInactive 4 else s)

/-- A forced discharge starts, unless one runs, the hold-off after a timeout lasts, or a trip of PG17 or a fault of G33
would end it (R258). -/
def State.dischargeStart (s : State) : State :=
  if s.on Reg.DSC_STAT Fld.DSC_STAT_active || s.gate.dscHold.any (s.dtb < ·) || s.tripFlag 17 || s.hvFault 33 ≠ 0 then s
  else ((s.setf Reg.DSC_STAT Fld.DSC_STAT_active 1).modGate (fun g => { g with dscStart := some s.dtb })).hvRefresh 33

/-- A generator of Drive A, Drive B, PFC, Isolation stage or DCX runs untripped (R258). -/
def State.hvBusy (s : State) : Bool := [0, 1, 4, 5, 6].any (fun st => (gensOfStage st).any s.active)

/-- FORCED_DISCHARGE_REQUEST (R258): a write of DSC_CTRL.req = 1. -/
def execForcedDischargeRequest (core : Nat) (s : State) : Outcome :=
  ofUnit (core < 6) <| s.byCore core 4 (fun s =>
    if s.hvBusy then s.setf Reg.DSC_STAT Fld.DSC_STAT_refused 1 else (s.setf Reg.DSC_CTRL Fld.DSC_CTRL_req 1).dischargeStart)

/-- FORCED_DISCHARGE_DONE (R258). -/
def execForcedDischargeDone (s : State) : Outcome :=
  .next (if s.on Reg.DSC_STAT Fld.DSC_STAT_active then (s.dischargeEnd.setf Reg.DSC_STAT Fld.DSC_STAT_done 1).hvRefresh 33 else s)

/-- FORCED_DISCHARGE_TIMEOUT (R258): after tmax ms; no forced discharge starts for 10 s. -/
def execForcedDischargeTimeout (s : State) : Outcome :=
  .next <| match s.gate.dscStart with
    | none => s
    | some t =>
      let s := s.reach (t + s.fld Reg.DSC_CFG Fld.DSC_CFG_tmax * Config.msCycles)
      let s := (s.dischargeEnd.setf Reg.DSC_STAT Fld.DSC_STAT_timeout 1).hvRefresh 33
      s.modGate (fun g => { g with dscHold := some (s.dtb + 10000 * Config.msCycles) })

/-- DISCHARGE_HOLDOFF_END (R258). -/
def execDischargeHoldoffEnd (s : State) : Outcome :=
  .next <| match s.gate.dscHold with
    | none => s
    | some t => (s.reach t).modGate (fun g => { g with dscHold := none })

/-- PATH2_TURN_ON (R409): 3 µs after path 2 acted, a switch that its pattern turns on turns on. -/
def execPath2TurnOn (n : Nat) (s : State) : Outcome :=
  ofUnit (n < 12) <|
    match (s.hvAt n).p2Due with
    | none => s
    | some t => ((s.reach t).modHv n (fun h => { h with p2 := some true, p2Due := none })).hvCommand n true

end Sys2Proof.Machine
end

