-- ==== Sys2Proof/Machine/ReactOps.lean ====
section
/-! DEFINITION. Martingale's reactions: generator trips by TL6, STO and SS1 of the drives, the effect of each reaction kind
on its scope, and the safety outputs (spec/13). -/

namespace Sys2Proof.Machine

def State.modMg (s : State) (f : MgSt → MgSt) : State := { s with mg := f s.mg }
def State.mgDrive (s : State) (d : Nat) : MgDrive := s.mg.drives.getD d {}
def State.modMgDrive (s : State) (d : Nat) (f : MgDrive → MgDrive) : State :=
  s.modMg (fun m => { m with drives := m.drives.modify d f })

/-- Function state of a drive (R403): 0 RUN, 1 SS1, 2 STO. -/
def State.fstate (s : State) (d : Nat) : Nat := s.fld (Reg.MG_DSTAT d) Fld.MG_DSTAT_fstate
/-- Speed and position as Martingale measures them. -/
def State.mgSpeed (s : State) (d : Nat) : Int := s.sfld (Reg.MG_SPD d) Fld.MG_SPD_n
def State.mgValid (s : State) (d : Nat) : Bool := s.on (Reg.MG_SPD d) Fld.MG_SPD_valid
def State.mgPos (s : State) (d : Nat) : Int := s.sfld (Reg.MG_POS d) Fld.MG_POS_pos
/-- n_ss and n_hys in force. -/
def State.nss (s : State) (d : Nat) : Int := s.fld (Reg.MG_NSS d) Fld.MG_NSS_nss
def State.nhys (s : State) (d : Nat) : Int := s.fld (Reg.MG_NSS d) Fld.MG_NSS_nhys

/-- Generators of a drive. -/
def driveGens (d : Nat) : List Nat := [3 * d, 3 * d + 1, 3 * d + 2]

/-- Drives that move together with drive `d` (R411). -/
def State.coupledWith (s : State) (d : Nat) : List Nat := if s.on Reg.MG_CTRL Fld.MG_CTRL_couple then [0, 1] else [d]

/-! ## Safety outputs (R421) -/

def siState (s : State) (i : Nat) : Nat := s.fld Reg.MG_SISTAT ⟨2 * i, 2⟩
def siOpen : Nat := 0
def siClosed : Nat := 1
def siDisc : Nat := 2
def siFault : Nat := 3

def State.outPermitted (s : State) (n : Nat) : Bool :=
  match s.fld (Reg.MG_SO n) Fld.MG_SO_src with
  | 1 => bit (s.fld Reg.MG_SOREQ Fld.MG_SOREQ_req) n
  | 2 => !s.on Reg.MG_STAT Fld.MG_STAT_sto
  | 3 => s.fstate 0 ≠ 2 && s.fstate 1 ≠ 2
  | 4 => (List.range 8).all (fun i => siState s i ≠ siFault)
  | _ => false

/-- Every output follows its source and its latched fault; one in its test pulse is off (R421, R422). -/
def State.outputs (s : State) : State :=
  s.forN 4 (fun s n =>
    s.setb Reg.MG_SOSTAT (bitF n)
      (s.outPermitted n && !bit (s.fld Reg.MG_SOSTAT Fld.MG_SOSTAT_flt) n && (s.mg.soOff.getD n none).isNone))

/-! ## TL6 -/

def State.setTl6 (s : State) (g : Nat) (b : Bool) : State :=
  if g < 32 then s.setb Reg.MG_TL6 (bitF g) b else s.setb Reg.MG_TL6_HI (bitF (g - 32)) b

/-- TL6 becomes active for those of `gs` whose level is not; the trip acts `d` cycles from now. -/
def State.tl6On (s : State) (gs : List Nat) (d : Nat := 0) : State :=
  let new := gs.filter (fun g => !s.tl6 g)
  if new = [] then s else (s.each new (fun s g => s.setTl6 g true)).lineUp 6 new d

/-- The TL6 levels of `gs` are released with the requests that raised them (log 23); a trip flag stays set (R415). -/
def State.tl6Off (s : State) (gs : List Nat) : State :=
  let s := s.each gs (fun s g =>
    let s := s.setTl6 g false
    let s := if g < 32 then s.setf Reg.MG_GTRIP (bitF g) 0 else s.setf Reg.MG_GTRIP_HI (bitF (g - 32)) 0
    s.refreshTstate g)
  if (List.range 40).any s.tl6 then s else s.setf Reg.TRP_LVL (bitF 6) 0

/-- SAFE on generators: TL6, and a stop for each whose PWM_TRIPM does not hold TL6 (R413). -/
def State.safeGens (s : State) (gs : List Nat) (d : Nat := 0) : State :=
  (s.tl6On gs d).each gs (fun s g => if bit (s.fld (Reg.PWM_TRIPM g) Fld.PWM_TRIPM_tl) 6 then s else s.genStop g)

/-! ## Drive functions (R403) -/

def State.setFstate (s : State) (d st cause : Nat) : State :=
  (s.setf (Reg.MG_DSTAT d) Fld.MG_DSTAT_fstate st).setf (Reg.MG_DSTAT d) Fld.MG_DSTAT_cause cause

/-- STO of one drive: path 1 and path 2 act (R409). -/
def State.stoOne (s : State) (cause d : Nat) : State :=
  let s := if s.fstate d = 2 then s else (s.setFstate d 2 cause).inc (Reg.MG_CNT_STO d)
  (s.safeGens (driveGens d)).path2 d

/-- STO request of a drive, and of the other one while they are coupled. -/
def State.enterSto (s : State) (d cause : Nat) : State := ((s.each (s.coupledWith d) (fun s k => s.stoOne cause k)).irq 12).outputs

/-- SS1 request: from RUN only (R403, R407). -/
def State.ss1One (s : State) (cause d : Nat) : State :=
  if s.fstate d = 0 then
    ((s.setFstate d 1 cause).inc (Reg.MG_CNT_SS1 d)).modMgDrive d (fun m => { m with n0 := (s.mgSpeed d).natAbs, ss1At := s.dtb })
  else s

def State.enterSs1 (s : State) (d cause : Nat) : State := (s.each (s.coupledWith d) (fun s k => s.ss1One cause k)).irq 12

/-! ## Mode machine (R49) -/

def modeParked : Nat := 0
def modeStandby : Nat := 1
def phaseLeaving : Nat := 1
def phaseEntering : Nat := 2

def State.modMode (s : State) (f : ModeSt → ModeSt) : State := { s with mode := f s.mode }

/-- The mode machine enters LEAVING toward `target`; 50 ms remain for the stages to stop (R47). -/
def State.modeLeave (s : State) (target : Nat) : State :=
  ((s.putNat sigTarget target).putNat sigPhase phaseLeaving).modMode
    (fun m => { m with recheck := none, leaveBy := s.dtb + 50 * Config.msCycles })

/-- A reaction on the Module scope or above: LEAVING toward STANDBY, except in PARKED. -/
def State.modeReaction (s : State) : State := if s.modeNow = modeParked then s else s.modeLeave modeStandby

/-! ## Reaction kinds (R412, R413) -/

def rxReport : Nat := 0
def rxSafe : Nat := 1
def rxSs1 : Nat := 2
def rxModule : Nat := 3
def rxFatal : Nat := 4

/-- Drives whose Stage scope lies under a scope of Stage level or above. -/
def drivesUnder (sc : Nat) : List Nat :=
  if scopeLevel sc < lvStage then [] else [0, 1].filter (fun d => scopeUnder sc (scopeOf lvStage d))

/-- SAFE on a scope. -/
def State.reactSafe (s : State) (sc cause : Nat) : State :=
  let s := s.each (drivesUnder sc) (fun s d => s.enterSto d cause)
  let s := s.safeGens (scopeGens sc)
  if scopeLevel sc < lvModule then s else s.modeReaction

/-- Martingale notes the scope on which it reacts in this cycle (R426). -/
def State.reactNote (s : State) (sc : Nat) : State :=
  s.modMg (fun m => { m with reacted := m.reacted.filter (fun x => x.1 = s.dtb) ++ [(s.dtb, sc)] })

/-- MODULE: the packets of every scope are preempted (R487); TL0, TL6 on every generator, path 2 on both drives, EN_REQ low
through MG_STAT.sto, and the mode machine; st_pass is cleared (R423) and a forced discharge is wanted (R416). -/
def State.reactModule (s : State) (cause : Nat) : State :=
  let s := s.reactNote (scopeOf lvModule 0)
  let s := ((s.preempt (scopeOf lvModule 0)).lineActive 0).setf Reg.MG_STAT Fld.MG_STAT_sto 1
  let s := (s.enterSto 0 cause).enterSto 1 cause
  let s := (s.safeGens (List.range 40)).setf Reg.MG_STAT Fld.MG_STAT_st_pass 0
  (s.modeReaction.modMg (fun m => { m with dscWant := m.dscWant || s.on Reg.MG_CTRL Fld.MG_CTRL_dsc })).outputs

/-- FATAL: MODULE, and the reset source Martingale fatal 5 ms later. -/
def State.reactFatal (s : State) (cause : Nat) : State :=
  (s.reactModule cause).modMg (fun m => { m with fatalDue := some (m.fatalDue.getD (s.dtb + 5 * Config.msCycles)) })

/-- SS1 of the drives concerned; any scope but a drive Stage or the Drive Plane is treated as SAFE. -/
def State.reactSs1 (s : State) (sc cause : Nat) : State :=
  if (scopeLevel sc = lvStage || scopeLevel sc = lvPlane) && !(drivesUnder sc).isEmpty then
    s.each (drivesUnder sc) (fun s d => s.enterSs1 d cause)
  else s.reactSafe sc cause

/-- A fault frame of the module waits at every enabled port (R40); its identifier and data are free (log 115). -/
def State.sendFaultFrames (s : State) : State :=
  s.forN 4 (fun s p =>
    if s.domainOn 5 && s.on (Reg.BUS_CTRL p) Fld.BUS_CTRL_en then s.modBus p (fun b => { b with faults := b.faults ++ [s.dtb] }) else s)

/-- The effect of a reaction of kind `rx` on scope `sc`. A Network scope acts on the Module and sends the fault frames
(R40). A reaction of SAFE or above preempts Bridle packets in the same cycle (R487). -/
def State.react (s : State) (sc rx cause : Nat) : State :=
  let net := scopeLevel sc = lvNetwork
  let s := if rx = rxReport || rxModule ≤ rx then s else s.preempt sc
  let s := if net && rx ≠ rxReport then s.sendFaultFrames else s
  let sc := if net then scopeOf lvModule 0 else sc
  match rx with
  | 1 => s.reactSafe sc cause
  | 2 => s.reactSs1 sc cause
  | 3 => s.reactModule cause
  | 4 => s.reactFatal cause
  | _ => s

/-- Martingale receives a report and applies its reaction (R412). Class 4 rises to SAFE at Module scope after 10
consecutive measurements; class 12 carries its own reaction; every other takes MG_RX. -/
def State.receive (s : State) (r : Report) : State :=
  let a := Reg.MG_RX r.cls
  let runs := s.mg.yarrowRuns
  let (rx, sc) :=
    if r.cls = 12 then (r.rx, r.scope)
    else if r.cls = 4 && 10 ≤ runs then (max rxSafe (s.fld a Fld.MG_RX_rx), scopeOf lvModule 0)
    else (s.fld a Fld.MG_RX_rx, scopeAt r.scope (s.fld a Fld.MG_RX_lvl))
  let s := s.wr Reg.MG_FLT (W (r.scope + r.cls * 2 ^ 16 + rx * 2 ^ 20))
  let s := (((s.wr Reg.MG_FLTT s.dtbLow).inc Reg.MG_CNT_FLT).irq 12)
  ((s.reactNote r.scope).react sc rx (if r.cls = 12 then 5 else 6)).outputs

end Sys2Proof.Machine
end

