-- ==== Sys2Proof/Machine/MartingaleOps.lean ====
section
/-! DEFINITION. Martingale's measurement tick, its limit functions, its inputs, and the release of its reactions
(spec/13). -/

namespace Sys2Proof.Machine

/-- The next time at a multiple of `p`, the present one included unless it has been taken. -/
def State.nextAt (s : State) (p : Nat) (last : Option Nat) : Nat :=
  if s.dtb % p = 0 && last ≠ some s.dtb then s.dtb else (s.dtb / p + 1) * p

/-- A quotient that the spec rounds without saying which way: its floor or the next number, a free choice (log 18). -/
def State.freeFloor (s : State) (n d : Int) : Int × State :=
  if d = 0 || n % d = 0 then (n / d, s)
  else
    let (w, s) := s.drawWord
    (n / d + (w.toNat % 2 : Nat), s)

/-- A quotient rounded to nearest; a tie is a free choice (log 18). -/
def State.freeNearest (s : State) (n d : Int) : Int × State :=
  if d = 0 then (0, s)
  else if 2 * (n % d) = d then s.freeFloor n d
  else ((2 * n + d) / (2 * d), s)

/-! ## Angle of the resolver (R399) -/

/-- Cosine of an angle of the first quarter, 16,384 steps, in units of 2^64. -/
def cos64 (t : Nat) : Int :=
  let x := pi64 * t / 32768
  cosSum (x * x / 2 ^ 64) 12 (2 ^ 64) (2 ^ 64)

/-- The greatest step k at which y cos k is not below x sin k, for x, y not negative. -/
def quarterAngle (y x : Int) : Nat → Nat → Nat
  | 0, k => k
  | n + 1, k =>
    let k' := k + 2 ^ n
    quarterAngle y x n (if k' ≤ 16384 && x * cos64 (16384 - k') ≤ y * cos64 k' then k' else k)

/-- Four-quadrant arctangent of y over x in 1/65,536 turn: the step at or below it, and whether it falls on that step. -/
def angleOf (y x : Int) : Nat × Bool :=
  let q := fun (b a : Int) => quarterAngle b a 15 0
  let k := if 0 ≤ x && 0 ≤ y then q y x else if x < 0 && 0 ≤ y then 16384 + q (-x) y
    else if x < 0 then 32768 + q (-y) (-x) else 49152 + q x (-y)
  (k % 65536, x = 0 || y = 0 || x.natAbs = y.natAbs)

/-- Angle of a sample: with no amplitude it is free, and between two steps either (log 18). -/
def State.resolverAngle (s : State) (d : Nat) : Nat × State :=
  let m := s.mgDrive d
  let (y, x) := if m.res4 < 0 then (-m.res5, -m.res6) else (m.res5, m.res6)
  if x = 0 && y = 0 then
    let (w, s) := s.drawWord
    (w.toNat % 65536, s)
  else
    let (k, exact) := angleOf y x
    if exact then (k, s)
    else
      let (w, s) := s.drawWord
      ((k + w.toNat % 2) % 65536, s)

/-! ## The measurement of one drive (R399-R401) -/

/-- The drive whose sensor measures drive `d` (R411). -/
def State.sensorOf (s : State) (d : Nat) : Nat := if s.on Reg.MG_CTRL Fld.MG_CTRL_couple then 0 else d
def State.encoderMode (s : State) (d : Nat) : Bool := s.on (Reg.MG_DCFG d) Fld.MG_DCFG_src
def State.mgPp (s : State) (d : Nat) : Int := s.fld (Reg.MG_DCFG d) Fld.MG_DCFG_pp
def State.mgCpr (s : State) (d : Nat) : Int := s.fld (Reg.MG_DCFG d) Fld.MG_DCFG_cpr

/-- A count step taken into −cpr/2 to cpr/2. -/
def foldStep (z cpr : Int) : Int :=
  let m := z % cpr
  if cpr < 2 * m then m - cpr else m

/-- The sample of this tick is valid (R401). -/
def State.sampleValid (s : State) (k : Nat) : Bool :=
  let m := s.mgDrive k
  if s.encoderMode k then true
  else
    let a := m.res5 * m.res5 + m.res6 * m.res6
    let lo : Int := s.fld (Reg.MG_DAMP k) Fld.MG_DAMP_amin
    let hi : Int := s.fld (Reg.MG_DAMP k) Fld.MG_DAMP_amax
    m.fresh5 && m.fresh6 && !m.ovr4 && !m.ovr5 && !m.ovr6 && lo * lo ≤ a && a ≤ hi * hi

/-- The step since the previous tick, and the drive with the new angle or count. -/
def State.stepOf (s : State) (k : Nat) : Int × Option Nat × Option Nat × State :=
  let m := s.mgDrive k
  if s.encoderMode k then
    let c := s.fld (Reg.ENC_CNT k) Fld.ENC_CNT_cnt
    let z : Int := match m.count with
      | some p => foldStep ((c : Int) - p) (s.mgCpr k)
      | none => 0
    (z, m.theta, some c, s)
  else
    let (th, s) := s.resolverAngle k
    let z : Int := match m.theta with
      | some p => sx 16 (ux 16 ((th : Int) - p))
      | none => 0
    (z, some th, m.count, s)

/-- Speed in rpm from four steps, and a step in 1/65,536 of 1/4,096 revolution (R400). -/
def State.speedFrac (s : State) (k : Nat) (sum : Int) : Int × Int :=
  if s.encoderMode k then (600000 * sum, 4 * s.mgCpr k) else (600000 * sum, 4 * 65536 * s.mgPp k)
def State.posFrac (s : State) (k : Nat) (z : Int) : Int × Int :=
  if s.encoderMode k then (4096 * 65536 * z, s.mgCpr k) else (4096 * z, s.mgPp k)

/-- Drive `d` is measured. -/
def State.measure (s : State) (d : Nat) (step : Int) (valid : Bool) (theta count : Option Nat) : State :=
  let k := s.sensorOf d
  let m := s.mgDrive d
  let steps := step :: m.steps.take 3
  let (nn, nd) := s.speedFrac k (steps.foldl (· + ·) 0)
  let (n, s) := s.freeNearest nn nd
  let (pn, pd) := s.posFrac k step
  let (dp, s) := s.freeFloor pn pd
  let p := s.mgPos d * 65536 + m.frac + dp
  let s := s.wr (Reg.MG_POS d) (Wi (p / 65536))
  let s := s.setf (Reg.MG_SPD d) Fld.MG_SPD_n (ux 24 n)
  s.modMgDrive d (fun m => { m with
    theta := theta, count := count, steps := steps, frac := (p % 65536).toNat
    bad := if valid then 0 else m.bad + 1
    good := if valid then m.good + 1 else 0 })

/-! ## Limit functions (R404-R407) -/

def State.selDrive (s : State) (d : Nat) : Bool := bit (s.fld Reg.MG_SEL Fld.MG_SEL_drv) d

/-- Inputs of function `fn` that act on drive `d` now: every state but CLOSED counts as OPEN (R419, R420). -/
def State.actingInputs (s : State) (fn d : Nat) : List Nat :=
  (List.range 8).filter (fun i =>
    s.fld (Reg.MG_SI i) Fld.MG_SI_fn = fn && bit (s.fld (Reg.MG_SI i) Fld.MG_SI_drv) d && siState s i ≠ siClosed)

/-- Limit of a set in rpm. -/
def State.slsLimit (s : State) (d set : Nat) : Int :=
  Word.get (s.rd (if set < 2 then Reg.MG_SLS01 d else Reg.MG_SLS23 d)) ⟨16 * (set % 2), 16⟩

/-- Active SLS sets of a drive (R404, R410): those of its inputs, or else of MG_SEL, and with them set 3 under SERVICE
forcing; each one limits (log 114). -/
def State.slsSets (s : State) (d : Nat) : List Nat :=
  let ins := (s.actingInputs 3 d).map (fun i => s.fld (Reg.MG_SI i) Fld.MG_SI_sel)
  let sel := if !ins.isEmpty then ins
    else if s.on Reg.MG_SEL Fld.MG_SEL_sls_en && s.selDrive d then [s.fld Reg.MG_SEL Fld.MG_SEL_sls_sel] else []
  sel ++ (if s.mg.forcing then [3] else [])

def State.sdiActive (s : State) (d : Nat) : Bool := s.on Reg.MG_SEL Fld.MG_SEL_sdi_en && s.selDrive d
def State.slpActive (s : State) (d : Nat) : Bool :=
  (s.on Reg.MG_SEL Fld.MG_SEL_slp_en && s.selDrive d) || s.mg.forcing || !(s.actingInputs 4 d).isEmpty

def State.slsOk (s : State) (d : Nat) : Bool :=
  (s.slsSets d).all (fun k => (s.mgSpeed d).natAbs ≤ s.slsLimit d k)
def State.slpOk (s : State) (d : Nat) : Bool :=
  !s.slpActive d || ((s.rd (Reg.MG_SLP_LO d)).toInt ≤ s.mgPos d && s.mgPos d ≤ (s.rd (Reg.MG_SLP_HI d)).toInt)

/-- The extreme position reached in the permitted direction (R405). -/
def State.sdiTrack (s : State) (d : Nat) : State :=
  let p := s.mgPos d
  let rev := s.on Reg.MG_SEL Fld.MG_SEL_dir
  s.modMgDrive d (fun m =>
    if !s.sdiActive d then { m with sdiOn := false }
    else if !m.sdiOn then { m with sdiOn := true, extreme := p }
    else { m with extreme := if rev then min m.extreme p else max m.extreme p })
def State.sdiOk (s : State) (d : Nat) : Bool :=
  let m := s.mgDrive d
  let tol : Int := s.fld (Reg.MG_SDI d) Fld.MG_SDI_tol
  let back := if s.on Reg.MG_SEL Fld.MG_SEL_dir then s.mgPos d - m.extreme else m.extreme - s.mgPos d
  !s.sdiActive d || back ≤ tol

/-- Cause of a violated function: 1 SLS, 2 SDI, 3 SLP; with an INVALID speed every active one is violated (R401). -/
def State.violation (s : State) (d : Nat) : Option Nat :=
  let bad := !s.mgValid d
  if !s.slsOk d || (bad && !(s.slsSets d).isEmpty) then some 1
  else if !s.sdiOk d || (bad && s.sdiActive d) then some 2
  else if !s.slpOk d || (bad && s.slpActive d) then some 3
  else none

/-- Duration of the SS1 ramp in cycles. -/
def State.ss1Time (s : State) (d : Nat) : Nat := s.fld (Reg.MG_SS1 d) Fld.MG_SS1_t * Config.msCycles

/-- The speed lies inside the envelope of R407 at `t` cycles from the entry. -/
def State.envelopeOk (s : State) (d t : Nat) : Bool :=
  let tt := s.ss1Time d
  (s.mgSpeed d).natAbs * tt ≤ (s.mgDrive d).n0 * (tt - t) + s.fld (Reg.MG_SS1 d) Fld.MG_SS1_tol * tt

/-- A new pattern of a generator whose bridge path 2 holds acts on path 2 as well (R426). -/
def State.path2Pattern (s : State) (g : Nat) : State :=
  if g < 6 && s.path2On (g / 3) then s.each (hvOfGen g) (fun s n => s.path2Channel n) else s

/-- Safe pattern by speed (R285); LOW_ON while the speed is INVALID (R401). -/
def State.speedPattern (s : State) (d : Nat) : State :=
  let n : Int := (s.mgSpeed d).natAbs
  let move := fun (s : State) (g v : Nat) => if s.pat g = v then s else (s.setPat g v).path2Pattern g
  s.each (driveGens d) (fun s g =>
    if !s.on (Reg.PWM_SAFE g) Fld.PWM_SAFE_msel then s
    else if !s.mgValid d || s.nss d < n then move s g 1
    else if n < s.nss d - s.nhys d then move s g 0
    else s)

/-- Stage scope of a drive. -/
def driveScope (d : Nat) : Nat := scopeOf lvStage d

/-- A generator of the drive runs untripped. -/
def State.driveActive (s : State) (d : Nat) : Bool := (driveGens d).any s.active

/-- Fault class SPEED at the drive's Stage scope, reported once while its condition lasts. -/
def State.speedFault (s : State) (d : Nat) : State :=
  if s.mg.sources.contains { cls := 6, scope := driveScope d } then s
  else (s.sourceOn 6 (driveScope d)).report 6 (driveScope d)

/-- The source of class SPEED ends once the speed is VALID and agrees with the drive's own (R415). -/
def State.speedSource (s : State) (d : Nat) : State :=
  if s.mgValid d && (s.mgDrive d).xcheck < 10 then s.sourceOff 6 (driveScope d) else s

/-- Cross-check against the drive's own speed (R402). -/
def State.crosscheck (s : State) (d : Nat) : State :=
  let own := 2 * s.q15 (sid (d + 1) 0x203)
  let off := (driveGens d).any s.running && s.fld (Reg.MG_XCHK d) Fld.MG_XCHK_tol < (s.mgSpeed d - own).natAbs
  s.modMgDrive d (fun m => { m with xcheck := if off then m.xcheck + 1 else 0 })

/-- What one drive does at a tick after its measurement. -/
def State.driveTick (s : State) (d : Nat) : State :=
  let s := (s.sdiTrack d).speedPattern d
  let s := (s.crosscheck d).speedSource d
  let s := if !s.mgValid d && s.driveActive d then s.speedFault d else s
  match s.fstate d with
  | 0 => match s.violation d with
    | some c => s.enterSs1 d c
    | none => s
  | 1 =>
    let t := s.dtb - (s.mgDrive d).ss1At
    if !s.envelopeOk d t then s.enterSto d 7
    else if (s.mgSpeed d).natAbs < s.fld (Reg.MG_SS1N d) Fld.MG_SS1N_nz || s.ss1Time d ≤ t then s.enterSto d 8
    else s
  | _ => s

/-! ## Inputs (R418-R420) -/

/-- The function of an input acts while it is not CLOSED. -/
def State.inputActs (s : State) (i : Nat) : State :=
  if siState s i = siClosed then s
  else
    let ds := [0, 1].filter (fun d => bit (s.fld (Reg.MG_SI i) Fld.MG_SI_drv) d)
    match s.fld (Reg.MG_SI i) Fld.MG_SI_fn with
    | 1 => s.each ds (fun s d => if s.fstate d = 2 then s else s.enterSto d 4)
    | 2 => s.each ds (fun s d => if s.fstate d = 0 then s.enterSs1 d 4 else s)
    | _ => s

def State.safetyIn (s : State) (i : Nat) : SafetyIn := s.mg.inputs.getD i {}
def State.modInput (s : State) (i : Nat) (f : SafetyIn → SafetyIn) : State :=
  s.modMg (fun m => { m with inputs := m.inputs.modify i f })
def State.setSi (s : State) (i st : Nat) : State := s.setf Reg.MG_SISTAT ⟨2 * i, 2⟩ st

/-- A fault of an input (R419): counted, reported as class 12 at the Module scope, kind REPORT. `bitAt` is its flag in
MG_SIFLT. -/
def State.inputFault (s : State) (i bitAt : Nat) : State :=
  let s := ((s.setSi i siFault).setf Reg.MG_SIFLT (bitF (bitAt + i)) 1).inc Reg.MG_CNT_SI
  let s := s.modInput i (fun x => { x with disc := none, openSince := if !x.a.read && !x.b.read then some s.dtb else none })
  (((s.report 12 (scopeOf lvModule 0) rxReport).inputActs i).outputs)

/-- Discrepancy time of an input in cycles. -/
def State.discTime (s : State) (i : Nat) : Nat := s.fld (Reg.MG_SI i) Fld.MG_SI_disc * 5 * Config.msCycles

/-- A contact of input `i` reads `now` after its filter (R419); leaving DISC as the discrepancy time ends is a fault
(R426). -/
def State.contactMoves (s : State) (i : Nat) (now : Bool) : State :=
  let x := s.safetyIn i
  let st := siState s i
  let closed := (if x.a.read then 1 else 0) + (if x.b.read then 1 else 0)
  let s := if st = siOpen then
      if now then (s.setSi i siDisc).modInput i (fun x => { x with disc := some s.dtb })
      else if closed = 0 then s.modInput i (fun x => { x with disc := none }) else s
    else if st = siDisc then
      if x.disc.any (fun t => t + s.discTime i ≤ s.dtb) then s.inputFault i 16
      else if now then (s.setSi i siClosed).modInput i (fun x => { x with disc := none })
      else (s.setSi i siOpen).modInput i (fun x => { x with disc := none })
    else if st = siClosed then
      if now then s else (s.setSi i siOpen).modInput i (fun x => { x with disc := some s.dtb })
    else s.modInput i (fun x => { x with openSince := if closed = 0 then some s.dtb else none })
  (s.inputActs i).outputs

/-- Off-pulse of a test-pulse output at time `t`: begins 2.5 ms × n after each 10 ms boundary and lasts 400 µs (R417). -/
def State.inPulse (s : State) (n : Nat) (extra : Nat) : Bool :=
  n < 4 && bit (s.fld Reg.MG_TP Fld.MG_TP_en) n && 1000000 * n ≤ s.dtb && (s.dtb - 1000000 * n) % 4000000 < 160000 + extra

/-- Samples of one contact (R418): its reading, and its faults. -/
def State.sampleContact (s : State) (i : Nat) (isB : Bool) (level : Bool) : State :=
  let own := s.fld (Reg.MG_SI i) (if isB then Fld.MG_SI_tpb else Fld.MG_SI_tpa)
  let setC := fun (s : State) (f : Contact → Contact) =>
    s.modInput i (fun x => if isB then { x with b := f x.b } else { x with a := f x.a })
  let c := let x := s.safetyIn i; if isB then x.b else x.a
  let now := if isB && s.on (Reg.MG_SI i) Fld.MG_SI_anti then !level else level
  if s.inPulse own 0 then (if level && siState s i ≠ siFault then s.inputFault i 0 else s)
  else if s.inPulse own 40000 then s
  else
    let other := (List.range 4).find? (fun n => n ≠ own && s.inPulse n 0)
    let crossed := level && c.cross.any (fun n => !s.inPulse n 0)
    let mark := if level then (if crossed then none else c.cross)
      else match other with
        | some n => if c.raw || c.cross = some n then some n else none
        | none => none
    let s := setC s (fun c => { c with
      raw := level, cross := mark, since := if now = c.read then none else some (c.since.getD s.dtb) })
    if crossed && siState s i ≠ siFault then s.inputFault i 8 else s

/-! ## Release (R408, R415) -/

/-- A fault source at or below a scope is still active, or a report of it is on its way. -/
def State.sourceUnder (s : State) (sc : Nat) : Bool :=
  let acts := fun (r : Report) => if r.cls = 12 then r.rx ≠ rxReport else s.fld (Reg.MG_RX r.cls) Fld.MG_RX_rx ≠ rxReport
  s.mg.sources.any (fun x => scopeUnder sc x.scope) || s.mg.reports.any (fun r => acts r && scopeUnder sc r.scope)

/-- R408 for a drive. -/
def State.stoReleasable (s : State) (d : Nat) : Bool :=
  s.mgValid d && s.slsOk d && s.slpOk d && (s.actingInputs 1 d).isEmpty && (s.actingInputs 2 d).isEmpty &&
    !s.sourceUnder (driveScope d)

/-- A reaction of this very cycle wins over a clear of its scope, and a MODULE reaction over any drive's (R426). -/
def State.reactedNow (s : State) (sc : Nat) : Bool :=
  s.mg.reacted.any (fun x => x.1 = s.dtb && (scopeUnder sc x.2 || lvModule ≤ scopeLevel x.2))

/-- STO of a drive is released with the TL6 levels of its generators (R403). -/
def State.stoRelease (s : State) (d : Nat) : State :=
  ((s.tl6Off (driveGens d)).setFstate d 0 (s.fld (Reg.MG_DSTAT d) Fld.MG_DSTAT_cause)).path2Release d

/-- MG_CLR of a scope (R415): TL6 levels, STO and, for the Module, TL0 are released, or the write is refused. A drive in STO
needs R408 for any of its generators; with MG_CTRL.couple both drives go together (R411). -/
def State.mgClear (s : State) (sc : Nat) : State :=
  let gs := scopeGens sc
  let ds := (List.range 2).filter (fun d => (drivesUnder sc).any (fun k => (s.coupledWith k).contains d))
  let touched := (List.range 2).filter (fun d => ds.contains d || (driveGens d).any gs.contains)
  let ok := scopeValid sc && !s.sourceUnder sc && !s.reactedNow sc &&
    touched.all (fun d => s.fstate d ≠ 2 || s.stoReleasable d) && (scopeLevel sc < lvModule || s.modeNow = modeStandby)
  if !ok then s.inc Reg.MG_CNT_REPREF
  else
    let s := s.tl6Off gs
    let s := s.each (ds.filter (fun d => s.fstate d = 2)) (fun s d => s.stoRelease d)
    let s := if scopeLevel sc < lvModule then s
      else ((s.lineInactive 0).setf Reg.MG_STAT Fld.MG_STAT_sto 0).modMg (fun m => { m with dscWant := false })
    s.outputs

/-! ## Function selection (R405, R406, R427) -/

/-- Deactivations of a function of a drive whose state is not RUN are ignored. -/
def State.selKept (s : State) (v : Word) : Word :=
  let old := s.rd Reg.MG_SEL
  let held := [0, 1].filter (fun d => s.fstate d ≠ 0 && s.selDrive d)
  if held.isEmpty then v
  else
    let keep := [Fld.MG_SEL_sls_en, Fld.MG_SEL_sdi_en, Fld.MG_SEL_slp_en]
    let v := keep.foldl (fun v f => if Word.get old f = 1 then Word.put v f 1 else v) v
    if keep.any (fun f => Word.get old f = 1) then
      held.foldl (fun v d => Word.put v (bitF (8 + d)) 1) v
    else v

/-- MG_SEL.ref = 1 (R406), for the drives of the write. -/
def State.slpReference (s : State) (v : Word) : State :=
  s.each ([0, 1].filter (fun d => bit (Word.get v Fld.MG_SEL_drv) d)) (fun s d =>
    if s.mgValid d && (s.mgSpeed d).natAbs < s.fld (Reg.MG_SS1N d) Fld.MG_SS1N_nz then
      (s.wr (Reg.MG_POS d) 0).modMgDrive d (fun m => { m with frac := 0 })
    else s.setf Reg.MG_STAT Fld.MG_STAT_cfg_err 1)

/-- A write of MG_SEL. Writing dir restarts the SDI tracking from the present position. -/
def State.writeSel (s : State) (v : Word) : State :=
  let s := s.wrReg Reg.MG_SEL (s.selKept v)
  let s := if Word.get v Fld.MG_SEL_ref = 1 then s.slpReference v else s
  s.forN 2 (fun s d => s.modMgDrive d (fun m => { m with extreme := s.mgPos d }))

/-- A write to the Martingale block from core `c`: an access fault while PD2 is not ON (R53); any write but the second
key ends the lock sequence (R397). -/
def State.mgWrite (s : State) (c : Nat) (f : State → State) : State :=
  s.byCore c 2 (fun s => f (s.modMg (fun m => { m with keyed := false })))

/-- Stages whose machine runs on Team A (R380). -/
def teamAStages : List Nat := [4, 5, 13, 8, 9, 11, 12, 10]

end Sys2Proof.Machine
end

