-- ==== Sys2Proof/Machine/Pwm.lean ====
section
/-! DEFINITION. Meanings of the pulse-generator, trip-line and calibrator commands (spec/06). -/

namespace Sys2Proof.Machine

/-! ## Counter events -/

/-- GENERATOR_PERIOD_START (R180, R197, R203, R209, R217, R129, R89, R111, R235, R352). -/
def execGeneratorPeriodStart (g : Nat) (s : State) : Outcome :=
  ofUnit (g < 40) <|
    if s.running g && s.gmode g ≠ 2 then (s.reach (s.pgAt g).next).periodStart 40 g
    else if s.running g && (s.pgAt g).cotFirst then
      ((s.reach (s.pgAt g).cotLast).modPg g (fun p => { p with cotFirst := false })).periodStart 40 g
    else s

/-- GENERATOR_CENTRE (R180): load point, converter and timer events of the centre. -/
def execGeneratorCentre (g : Nat) (s : State) : Outcome :=
  ofUnit (g < 40) <|
    if s.running g && s.updown g && !(s.pgAt g).centreDone then
      let s := s.reach ((s.pgAt g).next - s.genCycles g / 2)
      let s := s.modPg g (fun p => { p with centreDone := true, doneTo := max p.doneTo s.taps })
      let s := if s.loadsCentre g then s.loadPoint g else s
      (s.adcEvent 2 g).ttSync 2 g
    else s

/-- COMPARE_A_MATCH (R187): on the up-count at the coarse part, or at the end of a COT on-time. -/
def execCompareAMatch (g : Nat) (s : State) : Outcome :=
  ofUnit (g < 40) <|
    let p := s.pgAt g
    if !s.running g || p.matchDone then s
    else if s.gmode g = 2 then
      match p.cotFall with
      | none => s
      | some t =>
        let s := (s.reach (t / 64)).modPg g (fun p => { p with matchDone := true })
        ((s.adcEvent 3 g).ttSync 3 g).cotFrom g
    else
      let c := (s.rd (Reg.PWM_ACTA g)).toNat / 64
      if p.per ≤ c || (s.updown g && p.centreDone) then s
      else
        let s := (s.reach (p.next + c * s.presc g - s.genCycles g)).modPg g (fun p => { p with matchDone := true })
        ((s.adcEvent 3 g).ttSync 3 g).cotFrom g

/-- REFERENCE_EDGE (R188, R192, R193): the next change of r. -/
def execReferenceEdge (g : Nat) (s : State) : Outcome :=
  ofUnit (g < 40) <|
    if !s.running g || (s.pgAt g).stretch.isSome then s
    else match s.nextEdge g with
    | none => s
    | some t =>
      let s' := (s.reach (t / 64)).courseEdge g t
      if (s'.pgAt g).r || (s'.pgAt g).stretch.isSome then s' else s'.cotFell g t

/-- DEAD_TIME_END (R188): the scheduled switch turns on. -/
def execDeadTimeEnd (g : Nat) (s : State) : Outcome :=
  ofUnit (g < 40) <|
    let p := s.pgAt g
    match p.pendHi, p.pendLo with
    | some t, _ => if p.lo then s else (s.reach (t / 64)).hiOn g t
    | none, some t => if p.hi then s else (s.reach (t / 64)).loOn g t
    | none, none => s

/-- STRETCH_TURN_OFF (R192, R193): the stretched pulse ends; the complement's pulse is judged at this edge. -/
def execStretchTurnOff (g : Nat) (s : State) : Outcome :=
  ofUnit (g < 40) <|
    match (s.pgAt g).stretch with
    | none => s
    | some t =>
      let s := (s.reach (t / 64)).modPg g (fun p => { p with stretch := none })
      let cur := (s.pgAt g).r
      let s := s.refEdge g (!cur) t (if s.gmode g = 2 then none else s.pulseEnd g (!cur) t)
      if cur then s.cotFell g t else s

/-! ## Enable, start, shadows -/

/-- Fields of PWM_CTRL other than en take a write; ld 2 or 3 in up mode is refused (R182). -/
def State.ctrlFields (s : State) (g : Nat) (v : Word) : State × Bool :=
  match regAt (Reg.PWM_CTRL g) with
  | none => (s, false)
  | some (r, _) =>
    let old := s.rd (Reg.PWM_CTRL g)
    let w := writeWord { r with rw := r.rw / 2 * 2 } s.locked old v
    if Word.get w Fld.PWM_CTRL_mode = 0 && 2 ≤ Word.get w Fld.PWM_CTRL_ld then (s.pwmErr g, false)
    else (s.wr (Reg.PWM_CTRL g) w, true)

/-- The -D variant refuses the enable of PG06-PG13, PG23 and PG33 (R10). -/
def absentOnD (g : Nat) : Bool := (6 ≤ g && g < 14) || g = 23 || g = 33

/-- The checks of R201; a stage that uses a faulty converter unit is refused (R556). -/
def State.enableOk (s : State) (g : Nat) : Bool :=
  let per := (s.rd (Reg.PWM_PER g)).toNat
  let phs := s.fld (Reg.PWM_PHS g) Fld.PWM_PHS_phs
  modeAllows s.modeNow g && (stageOfGen g).all (fun st => (unitsOfStage st).all (fun u => !s.on (Reg.ADC_STATUS u) Fld.ADC_STATUS_fault)) &&
    !(s.variant = .d && absentOnD g) && (s.single g || 8 * 64 ≤ s.dt g) && s.periodFits g per &&
    (s.gmode g ≠ 0 || phs < per) && (s.gmode g ≠ 1 || phs ≤ per) && !(s.gmode g = 2 && s.presc g ≠ 1)

/-- An enable that has been accepted or refused (R201, R202). -/
def State.genEnable (s : State) (g : Nat) (v : Word) : State :=
  if s.on (Reg.PWM_CTRL g) Fld.PWM_CTRL_en then s
  else
    let (s, ok) := s.ctrlFields g v
    if !ok then s
    else if !s.enableOk g then s.pwmErr g
    else
      let s := s.setf (Reg.PWM_CTRL g) Fld.PWM_CTRL_en 1
      if s.on (Reg.PWM_CTRL g) Fld.PWM_CTRL_gs then s.setf (Reg.PWM_STAT g) Fld.PWM_STAT_wait 1
      else s.genStart g (s.dtb + 1)

/-- PWM_ENABLE (R201, R202): a write of PWM_CTRL with en = 1; while enabled the write is ignored (R220). -/
def execPwmEnable (core g : Nat) (v : Word) (s : State) : Outcome :=
  ofUnit (core < 6 && g < 40) (s.byCore core 2 (fun s => s.genEnable g v))

/-- PWM_DISABLE (R204). -/
def execPwmDisable (core g : Nat) (s : State) : Outcome :=
  ofUnit (core < 6 && g < 40) <|
    s.byCore core 2 (fun s => if s.on (Reg.PWM_CTRL g) Fld.PWM_CTRL_en then s.genStop g else s)

/-- Generators that a write of PWM_GSTART names. -/
def State.gstartMask (s : State) (v : Word) : Nat :=
  v.toNat + 2 ^ 32 * s.fld Reg.PWM_GSTART_HI Fld.PWM_GSTART_HI_start_hi

/-- A write to PWM_GSTART (R202): every waiting generator it names starts in the next cycle. -/
def State.gstart (s : State) (v : Word) : State :=
  let m := s.gstartMask v
  let s := s.wr Reg.PWM_GSTART_HI 0
  s.forN 40 (fun s g => if bit m g && s.on (Reg.PWM_STAT g) Fld.PWM_STAT_wait then s.genStart g (s.dtb + 1) else s)

/-- PWM_GSTART (R202). -/
def execPwmGstart (core : Nat) (v : Word) (s : State) : Outcome := ofUnit (core < 6) (s.byCore core 2 (fun s => s.gstart v))

/-- A core's write of a compare shadow (R197, R199). -/
def State.cmpWrite (s : State) (g b : Nat) (v : Word) : State :=
  if s.lawOwned g then s.inc (Reg.PWM_CNT_WREF g) else s.setShadow g b (v &&& 0x3FFFFF)

/-- PWM_CMP_WRITE (R199): compare A (b = 0) or B (b = 1). -/
def execPwmCmpWrite (core g b : Nat) (v : Word) (s : State) : Outcome :=
  ofUnit (core < 6 && g < 40 && b < 2) (s.byCore core 2 (fun s => s.cmpWrite g b v))

/-- A write of the period shadow (R200). -/
def State.perWrite (s : State) (g : Nat) (v : Word) : State :=
  let per := v.toNat % 65536
  if per < 8 || !s.periodFits g per then s.pwmErr g else s.setShadow g 2 (W per)

/-- PWM_PER_WRITE (R200). -/
def execPwmPerWrite (core g : Nat) (v : Word) (s : State) : Outcome :=
  ofUnit (core < 6 && g < 40) (s.byCore core 2 (fun s => s.perWrite g v))

/-- A write of 1 to PWM_STAT.trip (R217). A generator with en = 0 leaves its safe pattern in the next cycle. -/
def State.tripClear (s : State) (g : Nat) : State :=
  if !s.tripFlag g then s
  else if s.tripLines g ≠ 0 then s.setf (Reg.PWM_STAT g) Fld.PWM_STAT_tstate 2
  else
    let s := s.setf (Reg.PWM_STAT g) Fld.PWM_STAT_trip 0
    if s.on (Reg.PWM_CTRL g) Fld.PWM_CTRL_en then s.setf (Reg.PWM_STAT g) Fld.PWM_STAT_tstate 3
    else
      let t := 64 * (s.dtb + 1)
      (((s.setf (Reg.PWM_STAT g) Fld.PWM_STAT_tstate 0).hiOff g t).loOff g t).modPg g (fun p => { p with stretch := none })

/-- PWM_TRIP_CLEAR (R217). -/
def execPwmTripClear (core g : Nat) (s : State) : Outcome :=
  ofUnit (core < 6 && g < 40) (s.byCore core 2 (fun s => s.tripClear g))

/-! ## Constant on-time -/

/-- COT_START_EVENT (R205, R206): a start event of the generator's source arrives. -/
def execCotStartEvent (g : Nat) (s : State) : Outcome :=
  ofUnit (g < 40) (if s.on (Reg.PWM_COT g) Fld.PWM_COT_src || (18 ≤ g && g < 22) then s.cotStart g else s)

/-- COT_MIN_OFF_END (R206): a held start event acts when the minimum off-time ends. -/
def execCotMinOffEnd (g : Nat) (s : State) : Outcome :=
  ofUnit (g < 40) <|
    let p := s.pgAt g
    if s.running g && s.gmode g = 2 && p.cotHeld && !p.r && p.stretch.isNone then (s.reach p.cotReady).periodStart 40 g else s

/-- COT_FORCED_START (R205, R206): per cycles without a start. In the on-time or the minimum off-time the start is held like
any other, unless one is held already (log 106). -/
def execCotForcedStart (g : Nat) (s : State) : Outcome :=
  ofUnit (g < 40) <|
    if s.running g && s.gmode g = 2 && !(s.pgAt g).cotHeld then
      let s := (s.reach ((s.pgAt g).cotLast + (s.pgAt g).per)).inc (Reg.PWM_CNT_FORCE g)
      let p := s.pgAt g
      if p.cotFall.isSome && p.r || p.stretch.isSome || (!p.r && s.dtb < p.cotReady) then s.modPg g (fun p => { p with cotHeld := true })
      else s.periodStart 40 g
    else s

/-! ## Yarrow -/

/-- A measurement starts at a 1 ms boundary (R208). -/
def State.yarrowStart (s : State) : State :=
  if s.on Reg.YRW_CTRL Fld.YRW_CTRL_en then { s with yarrow := { s.yarrow with due := some (s.dtb + 256) } } else s

/-- The result of a measurement (R209, R210); class 4 of Martingale after ten in a row out of range. -/
def State.yarrowResult (s : State) (n : Nat) : State :=
  let s := (s.setf Reg.YRW_STAT Fld.YRW_STAT_n n).inc Reg.YRW_CNT
  if 40 ≤ n && n ≤ 120 then
    let s := (s.setf Reg.YRW_STAT Fld.YRW_STAT_fault 0).sourceOff 4 (scopeOf lvModule 0)
    let s := { s with yarrow := { s.yarrow with n := n, at_ := s.dtb }, mg := { s.mg with yarrowRuns := 0 } }
    s.forN 40 (fun s g => if s.running g then s else s.modPg g (fun p => { p with mapN := n }))
  else
    let s := (s.setf Reg.YRW_STAT Fld.YRW_STAT_fault 1).setf Reg.YRW_STAT Fld.YRW_STAT_flt_seen 1
    let s := { s with mg := { s.mg with yarrowRuns := s.mg.yarrowRuns + 1 } }
    (s.sourceOn 4 (scopeOf lvModule 0)).report 4 (scopeOf lvModule 0)

/-- YARROW_MEASUREMENT_DONE (R208-R210): `n` is the number of taps measured. -/
def execYarrowMeasurementDone (n : Nat) (s : State) : Outcome :=
  ofUnit (n < 256) <|
    match s.yarrow.due with
    | none => s
    | some d => ({ s.reach d with yarrow := { s.yarrow with due := none } }).yarrowResult n

/-! ## External trip inputs -/

def State.modTripIn (s : State) (i : Nat) (f : TripIn → TripIn) : State := { s with tripIn := s.tripIn.modify i f }

/-- The pin reads active after its polarity (R212). -/
def State.tripInActive (s : State) (i : Nat) : Bool :=
  (s.tripIn.getD i {}).pin = bit (s.rd Reg.TRP_POL).toNat i

def State.tripFilter (s : State) (i : Nat) : Nat := (s.rd Reg.TRP_FILT).toNat / 2 ^ (8 * i) % 256

/-- The filter counts while the pin and the line disagree (R212). -/
def State.tripInCount (s : State) (i : Nat) : State :=
  let differs := s.tripInActive i ≠ bit (s.rd Reg.TRP_LVL).toNat (8 + i)
  s.modTripIn i (fun t => { t with since := if differs then some (t.since.getD s.dtb) else none })

/-- TRIP_IN_PIN_CHANGE (R212). -/
def execTripInPinChange (i : Nat) (level : Bool) (s : State) : Outcome :=
  ofUnit (i < 4) ((s.modTripIn i (fun t => { t with pin := level })).tripInCount i)

/-- TRIP_IN_FILTER_EXPIRY (R212, R213): fn consecutive cycles have passed. -/
def execTripInFilterExpiry (i : Nat) (s : State) : Outcome :=
  ofUnit (i < 4) <|
    match (s.tripIn.getD i {}).since with
    | none => s
    | some t =>
      let s := (s.reach (max (t + s.tripFilter i) (s.tripIn.getD i {}).notBefore)).modTripIn i (fun t => { t with since := none })
      if s.tripInActive i then s.lineActive (8 + i) else s.lineInactive (8 + i)

end Sys2Proof.Machine
end

