-- ==== Sys2Proof/Machine/DriveOps.lean ====
section
/-! DEFINITION. What the sequencers of the module do to laws and generators, and the drive sequencer of Team S: starts,
stops, safe entry, reversal and fault clear (spec/08). -/

namespace Sys2Proof.Machine

/-! ## Laws and generators of a sequencer -/

/-- Enable law slots: the engine's frame and en, then LAW_CTRL.en with the settings it holds. -/
def State.lawsOn (s : State) (ls : List (Nat × Nat)) : State :=
  s.each ls (fun s p => (((s.loadFrame p.1).engineStart p.1).loadLaw p.1 p.2).lawEnable p.1 p.2 (Word.put (s.rd (Reg.LAW_CTRL p.1 p.2)) Fld.LAW_CTRL_en 1))

def State.lawsOff (s : State) (ls : List (Nat × Nat)) : State := s.each ls (fun s p => s.lawDisable p.1 p.2)

/-- One PWM_GSTART over generators, each enabled with its own settings and gs = 1 (R202). -/
def State.groupStart (s : State) (gs : List Nat) : State :=
  let s := s.each gs (fun s g => s.genEnable g (Word.put (Word.put (s.rd (Reg.PWM_CTRL g)) Fld.PWM_CTRL_gs 1) Fld.PWM_CTRL_en 1))
  let mask := gs.foldl (fun a g => a + 2 ^ g) 0
  (s.wr Reg.PWM_GSTART_HI (W (mask / 2 ^ 32))).gstart (W mask)

def State.stopGens (s : State) (gs : List Nat) : State := s.each gs (fun s g => if s.on (Reg.PWM_CTRL g) Fld.PWM_CTRL_en then s.genStop g else s)

/-- The mode machine is stopping stage `st` (R47). -/
def State.modeStops (s : State) (st : Nat) : Bool :=
  s.val sigPhase = phaseLeaving && !(modeStages (s.val sigTarget)).contains st

/-! ## The drive sequencer -/

def drvOff : Nat := 0
def drvStart : Nat := 1
def drvRun : Nat := 2
def drvDecel : Nat := 3
def drvDwell : Nat := 4
def drvStopping : Nat := 5
def drvSafe : Nat := 6
def drvCoupled : Nat := 7

def State.drvState (s : State) (d : Nat) : Nat := s.val (dsig d 0x320)
def State.setDrv (s : State) (d v : Nat) : State := s.putNat (dsig d 0x320) v
def State.drv (s : State) (d : Nat) : DriveSt := s.drives.getD d {}
def State.modDrv (s : State) (d : Nat) (f : DriveSt → DriveSt) : State := { s with drives := s.drives.modify d f }

/-- Generators that a drive starts and stops: its bridge's and its sensor's. -/
def State.drvGens (s : State) (d : Nat) : List Nat := if s.coupled then [0, 1, 2, 3, 4, 5] else driveGens d
def sensorGen (d : Nat) : Nat := 34 + d

/-- Law slots of a drive (R262, R288). -/
def State.drvLaws (s : State) (d : Nat) : List (Nat × Nat) :=
  if s.coupled then [(10, 0), (11, 0), (11, 1)] else [(2 * d, 0), (2 * d + 1, 0), (2 * d + 1, 1)]

/-- The drive is one of START to STOPPING. -/
def State.drvLive (s : State) (d : Nat) : Bool := drvStart ≤ s.drvState d && s.drvState d ≤ drvStopping

/-- Magnitude of the drive's mechanical speed, and the speed below which it counts as stopped, in Q15. -/
def State.drvSpeed (s : State) (d : Nat) : Int := (s.q15 (dsig d 0x203)).natAbs
def State.drvSlow (s : State) (d : Nat) : Bool := s.drvSpeed d < s.q15 (dsig d 0x310) - s.q15 (dsig d 0x311)

/-- Start conditions of R263 for the generators of one drive, and of R288 for the offset angle. -/
def State.drvConfigOk (s : State) (d : Nat) : Bool :=
  let lead := s.drvGens d
  let per := fun g => (s.rd (Reg.PWM_PER g)).toNat
  let g0 := 3 * d
  let ld := s.fld (Reg.PWM_CTRL g0) Fld.PWM_CTRL_ld
  let pc := if ld = 3 then per g0 else 2 * per g0
  let sg := sensorGen d
  let pp := s.val (dsig d 0x315)
  lead.all (fun g => s.gmode g = 1 && s.presc g = 1 && 2000 ≤ per g && per g ≤ 50000 && per g = per g0 &&
    s.fld (Reg.PWM_CTRL g) Fld.PWM_CTRL_ld = ld) &&
  (ld = 1 || ld = 3) && pc ≠ 0 && 40000 % pc = 0 &&
  s.gmode sg = 0 && per sg * s.presc sg = 40000 &&
  1 ≤ pp && pp ≤ 8 && 2 * s.q15 (dsig d 0x312) * pp ≤ 4800 * 60 &&
  (!s.coupled || s.val (sid 3 0x41) % 65536 = 0 || s.val (sid 3 0x41) % 65536 = 0x1555)

/-- Entry `k` of sensor unit `u` as the production configuration sets it (R266, R272). -/
def State.sensorEntry (s : State) (u k chan pol dest : Nat) : State :=
  let a := Reg.ADC_ECFG u k
  let s := (((s.setf a Fld.ADC_ECFG_chan chan).setf a Fld.ADC_ECFG_gain 0).setf a Fld.ADC_ECFG_pol pol).setf a Fld.ADC_ECFG_smp 32
  s.setf (Reg.ADC_EDST u k) Fld.ADC_EDST_sig dest

/-- Slot 1 of a drive's sensor unit: triggered by the period start of the reference generator, with the entries of the
resolver or of the encoder (R266, R272; log 111). -/
def State.sensorSlot (s : State) (d : Nat) : State :=
  let u := 3 + 4 * d
  let a := Reg.ADC_TRG u 1
  let enc := s.on (Reg.ENC_CTRL d) Fld.ENC_CTRL_en
  let s := (s.setf a Fld.ADC_TRG_skind 1).setf a Fld.ADC_TRG_sidx (sensorGen d)
  let s := (s.setf a Fld.ADC_TRG_first (if enc then 15 else 4)).setf a Fld.ADC_TRG_last (if enc then 15 else 6)
  if enc then s.sensorEntry u 15 15 1 (dsig d 0x116)
  else ((s.sensorEntry u 4 4 0 (dsig d 0x117)).sensorEntry u 5 5 0 (dsig d 0x114)).sensorEntry u 6 6 0 (dsig d 0x115)

/-- AU4 to AU6 are tagged JN0 for a coupled machine and JN1 for Drive B alone (R288, spec/03, default assignment). -/
def State.currentJoins (s : State) (d : Nat) : State :=
  if s.coupled || d = 1 then
    s.forN 6 (fun s k =>
      let a := Reg.ADC_TRG (4 + k / 2) (k % 2)
      (s.setf a Fld.ADC_TRG_jen 1).setf a Fld.ADC_TRG_jsel (if s.coupled then 0 else 1))
  else s

/-- The laws and the sensor of a drive are loaded and enabled, and its references and position fault start at 0 (R262, R270,
R288, R289). The supervision law of the DC link runs with the drives (R287; log 111). -/
def State.drvLoad (s : State) (d : Nat) : State :=
  let s := if s.coupled then s.forN 4 (fun s e => s.engineStop e) else s
  let s := (((s.sensorSlot d).currentJoins d).lawsOn (s.drvLaws d)).lawsOn (if s.lawOn 9 1 then [] else [(9, 1)])
  s.each [0x206, 0x210, 0x211] (fun s i => s.putNat (dsig d i) 0)

/-- Laws disabled under R147 and the drive in SAFE; its generators stay enabled and hold their safe pattern. -/
def State.drvSafeEntry (s : State) (d : Nat) : State :=
  ((s.lawsOff (s.drvLaws d)).setDrv d drvSafe).modDrv d (fun x => { x with stopBy := none })

/-- Laws disabled, generators stopped, drive OFF. -/
def State.drvToOff (s : State) (d : Nat) : State :=
  let s := (s.lawsOff (s.drvLaws d)).stopGens (s.drvGens d ++ [sensorGen d])
  let s := (s.setDrv d drvOff).modDrv d (fun x => { x with stopBy := none })
  if s.coupled then s.setDrv 1 drvOff else s

/-- A fault that the drive sequencer raises at the drive's Stage scope, the Drive Plane when coupled: a software report
with reaction SAFE, and the drive in SAFE. -/
def State.drvFault (s : State) (d : Nat) : State :=
  (s.report 12 (if s.coupled then scopeOf lvPlane 0 else driveScope d) rxSafe).drvSafeEntry d

/-- A generator trip requested through MG_GTRIP or in hardware (R414); it acts `d` cycles from now (R310, R328). -/
def State.gtrip (s : State) (gs : List Nat) (d : Nat := 0) : State :=
  let s := s.each gs (fun s g =>
    (if g < 32 then s.setf Reg.MG_GTRIP (bitF g) 1 else s.setf Reg.MG_GTRIP_HI (bitF (g - 32)) 1).preempt (scopeOf lvLeg g))
  s.safeGens gs d

/-- A committed change of the direction command (R284). -/
def State.drvDirection (s : State) (d : Nat) : State :=
  let want := s.val (dsig d 0x305)
  let st := s.drvState d
  if st = drvRun && want ≠ (s.drv d).dir then s.setDrv d drvDecel
  else if (st = drvDecel || st = drvDwell) && want = (s.drv d).dir then s.setDrv d drvRun
  else s

/-- A latched gate fault of the drive's bridge. -/
def State.bridgeLatched (s : State) (d : Nat) : Bool := (driveChannels d).any (fun n => s.hvFault n ≠ 0)

/-- A committed drive fault clear (R290): it acts only in SAFE, with no line of PWM_TRIPM active and no latched fault. -/
def State.drvClear (s : State) (d : Nat) : State :=
  let ds := if s.coupled then [0, 1] else [d]
  if s.drvState d = drvSafe && (s.drvGens d).all (fun g => s.tripLines g = 0) && ds.all (fun k => !s.bridgeLatched k) then
    (s.each (s.drvGens d) (fun s g => s.tripClear g)).drvToOff d
  else s

/-- What the drive sequencer does on Bridle writes committed now: `ids` are the signals written. -/
def State.drvCommit (s : State) (ids : List Nat) : State :=
  let ds := if s.coupled then [0] else [0, 1]
  s.each ds (fun s d =>
    let s := if ids.contains (dsig d 0x305) then s.drvDirection d else s
    if ids.contains (dsig d 0x322) && s.val (dsig d 0x322) = 1 then s.drvClear d else s)

/-- The miss limit of R277, 20 until Team S writes it. -/
def State.missLimit (s : State) (d : Nat) : Nat :=
  if metaQuality (s.sig (dsig d 0x316)).mword = qInit then 20 else s.val (dsig d 0x316)

/-- At a 1 ms boundary: misses of the current law over the last interval (R277). -/
def State.drvMissCheck (s : State) (d : Nat) : State :=
  let e := if s.coupled then 10 else 2 * d
  let now := (s.rd (Reg.LAW_CNT_MISS e 0)).toNat
  let was := (s.drv d).miss
  let s := s.modDrv d (fun x => { x with miss := now })
  if s.drvLive d && s.missLimit d < now - was then s.drvFault d else s

end Sys2Proof.Machine
end

