-- ==== Sys2Proof/Machine/SeqOps.lean ====
section
/-! DEFINITION. What the sequencers of the charge and auxiliary planes share: quantities with stated defaults, checks and
writes of generator settings, and times (spec/09 to spec/11). -/

namespace Sys2Proof.Machine

/-- The first 1 ms boundary at or after `t`. -/
def msCeil (t : Nat) : Nat := (t + Config.msCycles - 1) / Config.msCycles * Config.msCycles

/-- Time that has passed since `t`. -/
def State.since (s : State) (t : Nat) : Nat := s.dtb - t

/-- `n` milliseconds in CLK_CTL cycles. -/
def cyclesMs (n : Nat) : Nat := n * Config.msCycles

/-- The end of a timer of `n` ms that starts at `t` and counts 1 ms system boundaries (R294, R349). -/
def msEnd (t n : Nat) : Nat := (t / Config.msCycles + n) * Config.msCycles

/-! ## Generator settings -/

def State.genPer (s : State) (g : Nat) : Nat := (s.rd (Reg.PWM_PER g)).toNat
def State.genPhs (s : State) (g : Nat) : Nat := s.fld (Reg.PWM_PHS g) Fld.PWM_PHS_phs
def State.genLd (s : State) (g : Nat) : Nat := s.fld (Reg.PWM_CTRL g) Fld.PWM_CTRL_ld

/-- Mode, cycles per count and period value of a generator. -/
def State.genIs (s : State) (g mode p per : Nat) : Bool := s.gmode g = mode && s.presc g = p && s.genPer g = per

/-- The generator is synced to `m` with phase `phs`. -/
def State.genSynced (s : State) (g m phs : Nat) : Bool :=
  s.on (Reg.PWM_SYNC g) Fld.PWM_SYNC_en && s.fld (Reg.PWM_SYNC g) Fld.PWM_SYNC_gen = m && s.genPhs g = phs

/-- A compare word of `n` whole counts. -/
def counts (n : Nat) : Word := W (64 * n)

/-- Settings that a sequencer writes to a stopped generator: mode, p = 1, period value, sync and phase. -/
def State.genSet (s : State) (g mode per : Nat) (sync : Option (Nat × Nat)) : State :=
  let c := s.rd (Reg.PWM_CTRL g)
  let s := s.wr (Reg.PWM_CTRL g) (Word.put (Word.put c Fld.PWM_CTRL_mode mode) Fld.PWM_CTRL_pre 0)
  let s := s.wr (Reg.PWM_PER g) (W per)
  match sync with
  | none => s.setf (Reg.PWM_SYNC g) Fld.PWM_SYNC_en 0
  | some (m, phs) =>
    let s := (s.setf (Reg.PWM_SYNC g) Fld.PWM_SYNC_gen m).setf (Reg.PWM_SYNC g) Fld.PWM_SYNC_en 1
    s.setf (Reg.PWM_PHS g) Fld.PWM_PHS_phs phs

/-- Every generator of a list runs untripped. -/
def State.allActive (s : State) (gs : List Nat) : Bool := gs.all s.active

/-- A generator's trip is due to line `n` (R214). -/
def State.trippedBy (s : State) (g n : Nat) : Bool := s.tripFlag g && bit (s.fld (Reg.PWM_STAT g) Fld.PWM_STAT_tsrc) n

/-- Trip flags are cleared as far as R217 lets them. -/
def State.clearTrips (s : State) (gs : List Nat) : State := s.each gs (fun s g => s.tripClear g)

/-- Stages of a list are allowed in the present mode (R42). -/
def State.stagesAllowed (s : State) (sts : List Nat) : Bool := sts.all (fun st => (modeStages s.modeNow).contains st)

/-- A stage has a running generator. -/
def State.stageRuns (s : State) (st : Nat) : Bool := (gensOfStage st).any s.running

/-! ## Vehicle speed and thermal derate -/

/-- Vehicle speed as R346 takes it, in rpm of the faster motor; it is below `v` km/h when this is below ratio × v. -/
def State.vehicleRpm (s : State) : Nat := if s.domainOn 2 then max (s.mgSpeed 0).natAbs (s.mgSpeed 1).natAbs else 0
def State.vehicleBelow (s : State) (kmh : Nat) : Bool := s.vehicleRpm < s.fld Reg.KPR_LPCFG Fld.KPR_LPCFG_ratio * kmh

end Sys2Proof.Machine
end

