-- ==== Sys2Proof/Machine/LvOps.lean ====
section
/-! DEFINITION. The LV sequencer of Team S: states, the DCX and the buck, references and limits (spec/10). -/

namespace Sys2Proof.Machine

def lvOff : Nat := 0
def lvDcxStart : Nat := 1
def lvDcxWait : Nat := 2
def lvCheck : Nat := 3
def lvSoft : Nat := 4
def lvRetry : Nat := 5
def lvOvlatch : Nat := 6
def lvFault : Nat := 7
def lvRun : Nat := 8

def State.modLvSeq (s : State) (f : LvSeqSt → LvSeqSt) : State := { s with lv := f s.lv }

/-- The code that S.6.0210 shows; the table gives RUN no number (log 27). -/
def lvCode (st : Nat) : Word := if st = lvRun then Config.enumCode (lsig 0x210) lvRun else W st

def State.setLv (s : State) (st : Nat) : State :=
  (s.modLvSeq (fun l => { l with st := st, since := s.dtb })).putVal (lsig 0x210) (lvCode st)

def dcxGens : List Nat := [14, 15, 22]
def buckGens : List Nat := [18, 19, 20, 21]

/-! ## Measured quantities -/

/-- DCX feed V_f in volts (R324). -/
def State.vFeed (s : State) : Nat :=
  let d := s.fld Reg.DCL_MEAS Fld.DCL_MEAS_v
  if s.variant = .f then max d (s.fld Reg.CHL_MEAS Fld.CHL_MEAS_v) else d
def State.feedOk (s : State) : Bool := 600 ≤ s.vFeed && s.vFeed ≤ 1000

/-- IB in 1/256 V. -/
def State.ib (s : State) : Int := s.q15 (lsig 0x100)

/-- IB ≥ 50 V and IB ≥ 0.95 V_f / 12 (R326). -/
def State.ibGood (s : State) : Bool := 50 * 256 ≤ s.ib && 95 * 256 * (s.vFeed : Int) ≤ 1200 * s.ib

def State.lvRunRequest (s : State) : Bool := s.num (lsig 0x307) 1 = 1
/-- t_ss in ms. -/
def State.tss (s : State) : Nat := max 1 (s.val (lsig 0x303))

/-! ## Reference target (R342, R343) -/

/-- Power-good (R337). -/
def State.pgNow (s : State) : Bool :=
  let t := s.lvTarget
  s.lv.ref = t && ((s.vOut - t).natAbs : Int) * 20 ≤ t && (s.lv.st = lvSoft || s.lv.st = lvRun)

/-- Over-voltage threshold in mV (R341). -/
def State.refreshOvth (s : State) : State :=
  let (v, s) := s.freeFloor (1160 * s.lvTarget) 65536
  s.setf Reg.LVC_OVTH Fld.LVC_OVTH_mv (min 17500 v.toNat)

/-- An output voltage in mV above V_ov. -/
def State.aboveOv (s : State) (mv : Nat) : Bool := 17500 < mv || 1160 * s.lvTarget < 65536 * (mv : Int)

/-- LVC_STAT.pg, and the time since which power-good is absent while the converter is to run (R340). -/
def State.refreshPg (s : State) : State :=
  let b := s.pgNow
  (s.setb Reg.LVC_STAT Fld.LVC_STAT_pg b).modLvSeq (fun l =>
    { l with pgLost := if b || !s.lvRunRequest then none else some (l.pgLost.getD s.dtb), fired := !b && l.fired })

/-- After a loss of the feed the trip flags of the DCX are cleared once TL4 is inactive (R338). -/
def State.feedClear (s : State) : State :=
  if s.lv.tl4Clear && !bit (s.rd Reg.TRP_LVL).toNat 4 then (s.clearTrips dcxGens).modLvSeq (fun l => { l with tl4Clear := false }) else s

/-- A committed write of 1 to S.6.0306 counts in FAULT only (R338, R347). -/
def State.lvCommit (s : State) (ids : List Nat) : State :=
  if ids.contains (lsig 0x306) && s.val (lsig 0x306) = 1 && s.lv.st = lvFault then s.modLvSeq (fun l => { l with cleared := true }) else s

/-- The reference moves toward the target by at most `d`. -/
def slew (ref target d : Int) : Int := if ref < target then min target (ref + d) else max target (ref - d)

/-- One millisecond of the reference (R337, R342). -/
def State.refStep (s : State) : State :=
  let t := s.lvTarget
  if s.lv.st = lvSoft then
    let (d, s) := s.freeFloor t s.tss
    s.modLvSeq (fun l => { l with ref := slew l.ref t d })
  else s.modLvSeq (fun l => { l with ref := slew l.ref t (s.qty (lsig 0x302) 4096 * 16) })

/-- What a 1 ms boundary does in the LV converter. -/
def State.lvBoundary (s : State) : State := if s.domainOn 2 then s.refStep.refreshOvth.refreshPg.feedClear else s

/-! ## Stages -/

def State.buckOff (s : State) : State :=
  ((s.lawsOff [(6, 1), (6, 2)]).stopGens buckGens).modLvSeq (fun l => { l with held := [false, false, false, false] })
def State.dcxOff (s : State) : State := (s.lawsOff [(6, 0)]).stopGens dcxGens

/-- Forward start of the DCX with the settings of R325, after the trip flags that R217 lets it clear. -/
def State.dcxForward (s : State) : State :=
  let s := (s.dcxOff.clearTrips dcxGens).modLvSeq (fun l => { l with dcxReverse := false, dcxAt := s.dtb })
  let s := ((s.genSet 14 0 800 none).genSet 15 0 800 (some (14, 400))).genSet 22 0 800 (some (14, 0))
  let s := ((s.setShadow 14 0 (counts 40)).setShadow 15 0 (counts 40)).setShadow 22 0 (counts 400)
  (s.lawsOn [(6, 0)]).groupStart [14, 15]

/-- Reverse start for solar transfer (R325, R327). -/
def State.dcxBackward (s : State) : State :=
  let s := (s.dcxOff.clearTrips dcxGens).modLvSeq (fun l => { l with dcxReverse := true, dcxAt := s.dtb })
  let s := ((s.genSet 22 0 800 none).genSet 14 0 800 (some (22, 0))).genSet 15 0 800 (some (22, 400))
  let s := ((s.setShadow 14 0 (counts 400)).setShadow 15 0 (counts 400)).setShadow 22 0 (counts 40)
  (s.lawsOn [(6, 0)]).groupStart [22, 14, 15]

/-- The rectifiers start once IB is good (R325, R326). -/
def State.rectifierOn (s : State) : State := s.genEnable 22 (Word.put (Word.put (s.rd (Reg.PWM_CTRL 22)) Fld.PWM_CTRL_gs 0) Fld.PWM_CTRL_en 1)

/-- Buck and DCX stopped, and the sequencer in FAULT with its cause. -/
def State.lvToFault (s : State) (cause : Nat) : State := ((s.buckOff.dcxOff).setLv lvFault).putNat (lsig 0x211) cause

/-- Buck and DCX stopped, and the sequencer OFF. -/
def State.lvToOff (s : State) : State := (s.buckOff.dcxOff).setLv lvOff

/-- A DCX hiccup outside OVLATCH (R338): the DCX stops; the fifth gives FAULT. -/
def State.hiccup (s : State) : State :=
  let s := s.dcxOff.modLvSeq (fun l => { l with hiccups := l.hiccups + 1 })
  if 5 ≤ s.lv.hiccups then (s.buckOff.setLv lvFault).putNat (lsig 0x211) 4 else s.setLv lvDcxWait

/-- A DCX hiccup inside OVLATCH: the state holds; the fifth leaves the DCX stopped. -/
def State.ovHiccup (s : State) : State :=
  let s := s.dcxOff.modLvSeq (fun l => { l with hiccups := l.hiccups + 1 })
  if 5 ≤ s.lv.hiccups then (s.setf Reg.LVC_STAT Fld.LVC_STAT_dcx_flt 1).modLvSeq (fun l => { l with ovWait := none })
  else s.modLvSeq (fun l => { l with ovWait := some (s.dtb + cyclesMs 100) })

/-- Settings of the buck generators (R329). -/
def State.buckConfigOk (s : State) : Bool :=
  let toff := s.fld Reg.LVC_CFG Fld.LVC_CFG_toff_min
  buckGens.all (fun g => s.genIs g 2 1 4000 && !s.on (Reg.PWM_COT g) Fld.PWM_COT_src &&
    (s.rd (Reg.PWM_CMPB g)).toNat / 64 = toff)

/-- Soft start (R337): the reference starts at the measured output. -/
def State.softStart (s : State) : State :=
  if !s.buckConfigOk then s.lvToFault 1
  else
    let s := (s.lawsOn [(6, 1), (6, 2)]).groupStart buckGens
    (s.modLvSeq (fun l => { l with ref := s.vOut, phase := 0 })).setLv lvSoft

/-! ## Hooks -/

/-- A Martingale reaction that trips a DCX generator or stops a buck generator (R338): `was` is the state before it. In
OVLATCH the latch holds and the DCX stays stopped. -/
def State.lvReaction (s was : State) : State :=
  let hit := dcxGens.any (fun g => !was.tl6 g && s.tl6 g) ||
    buckGens.any (fun g => was.on (Reg.PWM_CTRL g) Fld.PWM_CTRL_en && !s.on (Reg.PWM_CTRL g) Fld.PWM_CTRL_en)
  if !hit || s.lv.st = lvFault then s
  else if s.lv.st = lvOvlatch then s.dcxOff.modLvSeq (fun l => { l with ovWait := none })
  else s.lvToFault 7

/-- Over-current of an LV channel of the DCX or the buck (R338). -/
def State.lvChannelFault (s : State) (m : Nat) : State :=
  if m < 10 && (s.lv.st = lvSoft || s.lv.st = lvRun) then s.lvToFault 5 else s

/-- The start sequence has used its clear flag (R251, R338): OVLATCH ends, and a FAULT may be left. -/
def State.lvCleared (s : State) : State :=
  if s.lv.st = lvOvlatch && !bit (s.rd Reg.TRP_LVL).toNat 7 then
    ((s.clearTrips buckGens).buckOff.modLvSeq (fun l => { l with ovWait := none })).setLv lvOff
  else if s.lv.st = lvFault then s.modLvSeq (fun l => { l with cleared := true })
  else s

/-- Sequencer OFF within the stop of its stages by the mode machine or a run request of 0. -/
def State.lvStopWanted (s : State) : Bool := !s.lvRunRequest || s.modeStops 6 || s.modeStops 7

/-! ## Valley limit (R335) -/

/-- Phase `k` current at or above the limit that the LV block has taken. -/
def State.valleyHolds (s : State) (k : Nat) : Bool :=
  !s.unset (lsig 0x121) && s.q15 (lsig 0x121) ≤ s.q15 (lsig (0x102 + k))

end Sys2Proof.Machine
end

