-- ==== Sys2Proof/Machine/ActOps.lean ====
section
/-! DEFINITION. The shift, park, clutch and pump sequencers of Team A: starts, stops, commutation and faults (spec/11). -/

namespace Sys2Proof.Machine

def State.modShift (s : State) (f : ShiftSt → ShiftSt) : State := { s with shift := f s.shift }
def State.modPark (s : State) (f : ParkSt → ParkSt) : State := { s with park := f s.park }
def State.modClutch (s : State) (f : ClutchSt → ClutchSt) : State := { s with clutch := f s.clutch }
def State.modPump (s : State) (f : PumpSt → PumpSt) : State := { s with pump := f s.pump }
def State.motor (s : State) (m : Nat) : MotorSt := s.motors.getD m {}
def State.modMotor (s : State) (m : Nat) (f : MotorSt → MotorSt) : State := { s with motors := s.motors.modify m f }

def stShift : Nat := 9
def stPump : Nat := 10
def stPark : Nat := 11
def stClutch : Nat := 12

/-! ## Commutated motors: 0 shift, 1 pump (R355, R356) -/

/-- First generator of a motor, its law, and a frame of its law in cycles (R350). -/
def motorGen (m : Nat) : Nat := if m = 0 then 24 else 27
def motorGens (m : Nat) : List Nat := [motorGen m, motorGen m + 1, motorGen m + 2]
def motorLaw (m : Nat) : List (Nat × Nat) := if m = 0 then [(7, 0)] else [(8, 0)]
def motorFrame (m : Nat) : Nat := if m = 0 then 10000 else 20000

/-- Levels of the three legs under a test vector: true is H (R353). -/
def vectorLegs (k : Nat) : List Bool :=
  [[true, false, false], [true, true, false], [false, true, false], [false, true, true], [false, false, true],
    [true, false, true]].getD k [false, false, false]

/-- Compare words of H and L. -/
def levelWord (h : Bool) : Word := if h then 0x3FFFFF else 0

/-- The law's levels on the legs of a motor. -/
def State.legs (s : State) (m : Nat) (l : List Bool) : State :=
  s.forN 3 (fun s i => s.setShadow (motorGen m + i) 0 (levelWord (l.getD i false)))

def allLow : List Bool := [false, false, false]

/-- A float-leg write of the law: 0 none, 1-3 a leg (R352). -/
def State.floatLeg (s : State) (m leg : Nat) : State :=
  let s := s.putNat (asig (if m = 0 then 0x202 else 0x502)) leg
  s.modGate (fun g => if m = 0 then { g with floatSh := some (leg, s.dtb) } else { g with floatOp := some (leg, s.dtb) })

/-- Inputs of AU13 entries 0-13 (R573-R575). -/
def actuatorInputs : List Nat := [0, 1, 2, 3, 4, 5, 6, 3, 4, 5, 7, 8, 9, 10]

/-- Entry `k` of AU13: gain ×1, 16 CLK_ADC cycles, the currents of entries 0-2, 10 and 11 bipolar, written to S.7.0100 + k
(R351). -/
def State.actuatorEntry (s : State) (k : Nat) : State :=
  let a := Reg.ADC_ECFG 13 k
  let s := (s.setf a Fld.ADC_ECFG_chan (actuatorInputs.getD k 0)).setf a Fld.ADC_ECFG_gain 0
  let s := (s.setf a Fld.ADC_ECFG_pol (if [0, 1, 2, 10, 11].contains k then 0 else 1)).setf a Fld.ADC_ECFG_smp 16
  s.setf (Reg.ADC_EDST 13 k) Fld.ADC_EDST_sig (asig (0x100 + k))

/-- Trigger slot `t` of AU13: source, delay, entries, and the join JN3 if `join` (log 119). -/
def State.actuatorSlot (s : State) (t kind idx delay first last : Nat) (join : Bool) : State :=
  let a := Reg.ADC_TRG 13 t
  let s := (s.setf a Fld.ADC_TRG_skind kind).setf a Fld.ADC_TRG_sidx idx
  let s := (s.setf a Fld.ADC_TRG_first first).setf a Fld.ADC_TRG_last last
  let s := (s.setb a Fld.ADC_TRG_jen join).setf a Fld.ADC_TRG_jsel (if join then 3 else 0)
  s.setf (Reg.ADC_TDLY 13 t) Fld.ADC_TDLY_dly delay

/-- The production sequences of AU13 (R351), which the sequencers load with their laws. -/
def State.actuatorSampling (s : State) : State :=
  let s := s.forN 14 (fun s k => s.actuatorEntry k)
  ((s.actuatorSlot 0 1 24 20 0 6 true).actuatorSlot 2 2 24 20 0 6 true).actuatorSlot 1 4 4 2000 7 13 false

def State.actLawsOn (s : State) (ls : List (Nat × Nat)) : State := s.actuatorSampling.lawsOn ls

/-- Commutation to step `k`. The duty of the PWM phase is the current law's: free. -/
def State.commutate (s : State) (m k : Nat) : State :=
  let (pwm, low, fl) := stepLegs k
  let (w, s) := s.drawWord
  let s := s.setShadow (motorGen m + pwm - 1) 0 (w &&& 0x3FFFFF)
  let s := (s.setShadow (motorGen m + low - 1) 0 0).floatLeg m fl
  s.modMotor m (fun x => { x with step := k, gap := s.dtb - x.lastAt, lastAt := s.dtb, nextAt := none })

/-- The floating leg is released, the law disabled and the generators stopped. -/
def State.motorOff (s : State) (m : Nat) : State :=
  ((s.floatLeg m 0).lawsOff (motorLaw m)).stopGens (motorGens m)

/-! ## Shift (R353-R357) -/

def shOff : Nat := 0
def shStart : Nat := 1
def shMove : Nat := 2
def shHold : Nat := 3
def shFault : Nat := 4

def State.shState (s : State) : Nat := s.val (asig 0x200)
def State.setSh (s : State) (st : Nat) : State := s.putNat (asig 0x200) st
def State.shBusy (s : State) (b : Bool) : State := s.setb Reg.ACT_STAT Fld.ACT_STAT_sh_busy b

def State.forkPos (s : State) : Int := s.q15 (asig 0x106)
def State.forkTarget (s : State) : Int := s.q15 (asig 0x220)
def State.inBand (s : State) : Bool := ((s.forkPos - s.forkTarget).natAbs : Int) ≤ s.q15 (asig 0x222)

/-- Largest magnitude of the shift phase currents. -/
def State.shCurrent (s : State) : Nat :=
  max (s.q15 (asig 0x100)).natAbs (max (s.q15 (asig 0x101)).natAbs (s.q15 (asig 0x102)).natAbs)

def State.shiftConfigOk (s : State) : Bool :=
  [24, 25, 26].all (fun g => s.genIs g 1 1 10000 && s.genLd g = 3) && s.genSynced 25 24 0 && s.genSynced 26 24 0

/-- Vector of the n-th test pulse. -/
def pulseVector (n : Nat) : Nat := [0, 3, 1, 4, 2, 5].getD n 0

/-- The start applies its first vector. -/
def State.pulsesBegin (s : State) : State :=
  let s := (s.floatLeg 0 0).legs 0 (vectorLegs 0)
  (s.shBusy true).modShift (fun x => { x with pulses := 0, resting := false, phaseAt := s.dtb, extended := 0, waitAt := none })

def State.shToFault (s : State) (cause : Nat) : State :=
  (((s.motorOff 0).shBusy false).setSh shFault).putNat (asig 0x201) cause

/-- A start fails, or is repeated under R356: 10 ms at L, or FAULT at the third failure in a row. -/
def State.shFail (s : State) (cause : Nat) : State :=
  let s := (s.modShift (fun x => { x with fails := x.fails + 1 })).inc Reg.ACT_CNT_SHFAIL
  if 3 ≤ s.shift.fails then s.shToFault cause
  else
    let s := ((((s.floatLeg 0 0).legs 0 allLow).shBusy false).setSh shStart).putNat (asig 0x201) cause
    s.modShift (fun x => { x with waitAt := some s.dtb, resting := false })

/-- Frames that a rest lasts. -/
def State.restFrames (s : State) : Nat := s.fld Reg.ACT_SHTP Fld.ACT_SHTP_rest + s.shift.extended

/-- Currents below 5 % of the last peak. -/
def State.decayed (s : State) : Bool :=
  let last := s.val (asig (0x210 + pulseVector (s.shift.pulses - 1)))
  s.shCurrent * 20 < last

def State.peak (s : State) (k : Nat) : Int := s.q15 (asig (0x210 + k % 6))

/-- Index of the largest peak, the lowest winning a tie. -/
def State.peakIndex (s : State) : Nat :=
  (List.range 6).foldl (fun m k => if s.peak m < s.peak k then k else m) 0

/-- Sector of the rotor (R354): the failure cause, or j. -/
def State.sector (s : State) : Except Nat Nat :=
  let m := s.peakIndex
  let imin : Int := s.fld Reg.ACT_SHTP Fld.ACT_SHTP_imin * 128
  let cmin : Int := s.fld Reg.ACT_SHTP Fld.ACT_SHTP_cmin
  if (List.range 6).any (fun k => s.peak k < imin) then .error 3
  else if (s.peak m - s.peak (m + 3)) * 256 < cmin * s.peak m then .error 4
  else .ok (if s.peak (m + 5) ≤ s.peak (m + 1) then 2 * m else (2 * m + 11) % 12)

/-- Forward is toward a higher fork position (log 28). -/
def State.forward (s : State) : Bool := s.forkPos < s.forkTarget

/-! ## Park lock (R358, R359) -/

def pkUnknown : Nat := 0
def pkEngaged : Nat := 1
def pkReleased : Nat := 2
def pkMoving : Nat := 3
def pkFault : Nat := 4

/-- Causes of S.7.0402, in the model's own order (log 27): 0 none, 1 CONFIG, 2 SPEED, 3 DISCREPANCY, 4 TIMEOUT, 5 CHANNEL. -/
def State.parkCause (s : State) (k : Nat) : State := s.putVal (asig 0x402) (Config.enumCode (asig 0x402) k)

def State.sie (s : State) : Nat := s.fld Reg.ACT_PKCFG Fld.ACT_PKCFG_sie
def State.sir (s : State) : Nat := s.fld Reg.ACT_PKCFG Fld.ACT_PKCFG_sir
def State.parkReads (s : State) (engaged : Bool) : Bool :=
  let e := siState s s.sie = siClosed
  let r := siState s s.sir = siClosed
  if engaged then e && !r else r && !e

/-- What the end positions read while the bridge does not drive. -/
def State.parkRest (s : State) : Nat := if s.parkReads true then pkEngaged else if s.parkReads false then pkReleased else pkUnknown

/-- The state of the stage; S.7.0401 shows what the end positions read unless the bridge drives (R358). -/
def State.setPark (s : State) (st : Nat) : State :=
  (s.modPark (fun p => { p with st := st })).putVal (asig 0x401) (Config.enumCode (asig 0x401) (if st = pkMoving then pkMoving else s.parkRest))

/-- S.7.0401 follows the inputs while the bridge does not drive. -/
def State.parkRefresh (s : State) : State :=
  if s.park.drive.isSome || (s.sig (asig 0x401)).value = Config.enumCode (asig 0x401) s.parkRest then s
  else s.setPark (if s.park.st = pkFault then pkFault else s.parkRest)

def parkGens : List Nat := [30, 31]
def State.parkConfigOk (s : State) : Bool :=
  parkGens.all (fun g => s.genIs g 0 1 20000 && s.genLd g = 1 && s.genSynced g 24 0)

def State.parkOff (s : State) : State :=
  ((s.lawsOff [(7, 1)]).stopGens parkGens).modPark (fun p => { p with drive := none, brakeAt := none, next := none })

/-- The bridge drives toward engaged or released with the duty of S.7.0405. -/
def State.parkDrive (s : State) (engage : Bool) : State :=
  if !s.parkConfigOk then (s.parkOff.setPark pkFault).parkCause 1
  else
    let word := dutyWord (s.q15 (asig 0x405)) 20000
    let s := (s.setShadow 30 0 (if engage then word else 0)).setShadow 31 0 (if engage then 0 else word)
    let s := if s.allActive parkGens then s else (s.actLawsOn [(7, 1)]).groupStart parkGens
    ((s.modPark (fun p => { p with drive := some engage, since := s.dtb, brakeAt := none, next := none })).setPark pkMoving).parkCause 0

/-- The bridge brakes on both low sides for 20 ms. -/
def State.parkBrake (s : State) (next : Option Bool) : State :=
  let s := (s.setShadow 30 0 0).setShadow 31 0 0
  (s.modPark (fun p => { p with drive := none, brakeAt := some s.dtb, next := next })).parkRefresh

/-! ## Clutch (R360) -/

def clOff : Nat := 0
def clPull : Nat := 1
def clHold : Nat := 2
def clFault : Nat := 3

def State.setClutch (s : State) (st : Nat) : State :=
  (s.modClutch (fun c => { c with st := st, since := s.dtb })).putVal (asig 0x601) (Config.enumCode (asig 0x601) st)

def State.clutchConfigOk (s : State) : Bool := s.genIs 32 0 1 20000 && s.genLd 32 = 1 && s.single 32 && s.genSynced 32 24 0
def State.clutchStop (s : State) : State := (s.lawsOff [(8, 1)]).stopGens [32]

/-- Reference of the solenoid current in Q15 of 8 A. -/
def State.clutchRef (s : State) : Int :=
  if s.clutch.st = clPull then s.q15 (asig 0x603) else if s.clutch.st = clHold then s.q15 (asig 0x605) else 0

/-- The clutch request at a 1 ms boundary. -/
def State.clutchFollow (s : State) : State :=
  let want := s.val (asig 0x600) = 1
  if want && s.clutch.st = clOff && s.stagesAllowed [stClutch] && !s.modeStops stClutch then
    if s.clutchConfigOk then ((s.actLawsOn [(8, 1)]).groupStart [32]).setClutch clPull else s.setClutch clFault
  else if !want && (s.clutch.st = clPull || s.clutch.st = clHold) then s.clutchStop.setClutch clOff
  else s

/-! ## Oil pump (R361-R363) -/

def pmOff : Nat := 0
def pmAlign : Nat := 1
def pmRamp : Nat := 2
def pmRun : Nat := 3
def pmWait : Nat := 4
def pmFault : Nat := 5

/-- Causes of S.7.0501, in the model's own order (log 27): 0 none, 1 CONFIG, 2 CURVE, 3 START, 4 SPEED, 5 CHANNEL. -/
def State.pumpCause (s : State) (k : Nat) : State := s.putVal (asig 0x501) (if k = 0 then 0 else Config.enumCode (asig 0x501) k)

def State.setPump (s : State) (st : Nat) : State :=
  (s.modPump (fun p => { p with st := st, since := s.dtb })).putVal (asig 0x500) (Config.enumCode (asig 0x500) st)

def pumpGens : List Nat := [27, 28, 29]
def State.pumpConfigOk (s : State) : Bool := pumpGens.all (fun g => s.genIs g 1 1 10000 && s.genLd g = 1 && s.genSynced g 24 0)

/-- The input X in 1/128 of its unit (R361). -/
def State.pumpInput (s : State) : Int := if s.val (asig 0x505) = 0 then 2 * s.q15 (sid 9 0x170) else s.q15 (asig 0x506)

/-- The curve as its signals hold it. -/
def State.curveNow (s : State) : List (Int × Int) := (List.range 16).map (fun i => (s.q15 (asig (0x510 + i)), s.q15 (asig (0x520 + i))))

def rises : List (Int × Int) → Bool
  | a :: b :: l => decide (a.1 < b.1) && rises (b :: l)
  | _ => true

/-- Speed of a curve at `x`: the segment's numerator over its denominator. -/
def curveSpeed (x : Int) : List (Int × Int) → Int × Int
  | [] => (0, 1)
  | [a] => (a.2, 1)
  | a :: b :: l =>
    if x ≤ a.1 then (a.2, 1)
    else if x < b.1 then (a.2 * (b.1 - a.1) + (b.2 - a.2) * (x - a.1), b.1 - a.1)
    else curveSpeed x (b :: l)

/-- A start: the rotor is aligned with V0 at 2 A (R363). -/
def State.pumpStart (s : State) : State :=
  if !s.pumpConfigOk then (s.setPump pmFault).pumpCause 1
  else
    let s := (s.actLawsOn (motorLaw 1)).groupStart pumpGens
    let s := (s.floatLeg 1 0).legs 1 (vectorLegs 0)
    let (w, s) := s.drawWord
    let s := s.setShadow 27 0 (w &&& 0x3FFFFF)
    (s.modMotor 1 (fun _ => {})).setPump pmAlign

def State.pumpOff (s : State) : State := ((s.motorOff 1).putInt (asig 0x503) 0).setPump pmOff

def State.pumpToFault (s : State) (cause : Nat) : State :=
  (((s.motorOff 1).setPump pmFault).pumpCause cause).setf Reg.ACT_STAT Fld.ACT_STAT_pmp_fail 1

/-- A start without six crossings. -/
def State.pumpFail (s : State) : State :=
  let s := s.modPump (fun p => { p with fails := p.fails + 1 })
  if 3 ≤ s.pump.fails then s.pumpToFault 3 else (s.motorOff 1).setPump pmWait

/-! ## What a 1 ms boundary does, and hooks -/

/-- A stage stop by the mode machine brings each actuator to OFF (R349). -/
def State.actStops (s : State) : State :=
  let s := if s.modeStops stShift && s.shState ≠ shFault && s.shState ≠ shOff then ((s.motorOff 0).shBusy false).setSh shOff else s
  let s := if s.modeStops stPark && (s.park.drive.isSome || s.park.brakeAt.isSome) then s.parkOff else s
  let s := if s.modeStops stClutch && s.clutch.st ≠ clOff then s.clutchStop.setClutch clOff else s
  if s.modeStops stPump && s.pump.st ≠ pmFault && s.pump.st ≠ pmOff then s.pumpOff else s

def State.actBoundary (s : State) : State := s.actStops.clutchFollow.parkRefresh

/-- Over-current of a channel of an actuator (R364). -/
def State.actChannelFault (s : State) (m : Nat) : State :=
  if 12 ≤ m && m < 18 then s.shToFault 7
  else if 18 ≤ m && m < 24 then ((s.motorOff 1).setPump pmFault).pumpCause 5
  else if 24 ≤ m && m < 28 then (s.parkOff.setPark pkFault).parkCause 5
  else if m = 28 then s.clutchStop.setClutch clFault
  else s

/-- The start sequence has cleared the channel faults (R251): FAULTs that they caused end. -/
def State.actCleared (s was : State) : State :=
  let had := fun (lo hi : Nat) => (List.range 29).any (fun m => lo ≤ m && m < hi && was.on (Reg.LCH_STAT m) Fld.LCH_STAT_ovc)
  let s := if had 12 18 && s.shState = shFault then ((s.modShift (fun x => { x with fails := 0 })).setSh shOff).putNat (asig 0x201) 0 else s
  let s := if had 18 24 && s.pump.st = pmFault then ((s.modPump (fun p => { p with fails := 0 })).setPump pmOff).pumpCause 0 else s
  let s := if had 24 28 && s.park.st = pkFault then (s.setPark s.parkRest).parkCause 0 else s
  if had 28 29 && s.clutch.st = clFault then s.setClutch clOff else s

end Sys2Proof.Machine
end

