-- ==== Sys2Proof/Machine/Actuators.lean ====
section
/-! DEFINITION. Meanings of the commands of the actuators, and of the two gate commands that reach the sequencers: the
over-current of an LV channel and the start of the probe (spec/11, R224, R251). -/

namespace Sys2Proof.Machine

/-! ## Gate commands with effects on sequencers -/

/-- LV_OVERCURRENT (R224, R338, R364). -/
def execLvOvercurrent (m : Nat) (s : State) : Outcome :=
  ofUnit (m < 29) (((s.lvOverCurrent m).lvChannelFault m).actChannelFault m)

/-- START_SEQUENCE_PROBE (R251, R253, R254): every HV channel off for 20 µs and DRV_EN high; with the clear flag the latched
faults of the channels and of the sequencers' channels are cleared. -/
def execStartSequenceProbe (s : State) : Outcome :=
  .next <|
    let offs := (List.range 34).map (fun n => (s.hvAt n).offSince)
    if s.fld Reg.GDC_STAT Fld.GDC_STAT_seq = 1 && s.on Reg.GDC_STAT Fld.GDC_STAT_drv_en && offs.all (·.isSome) then
      let s := s.reach (offs.foldl (fun m o => max m (o.getD 0)) 0 + 8000)
      let s := if s.on Reg.GDC_STAT Fld.GDC_STAT_clr then
          let t := (s.clearChannels.setf Reg.GDC_STAT Fld.GDC_STAT_clr 0).inc Reg.GDC_CNT_CLEAR
          t.lvCleared.actCleared s
        else s
      let bs := s.probeMask (s.fld Reg.GDC_PRB Fld.GDC_PRB_mask)
      let s := s.setf Reg.GDC_STAT Fld.GDC_STAT_seq 2
      s.probeStart bs
    else s

/-! ## Shift motor -/

/-- SHIFT_START (R353, R357): a new target outside the band. -/
def execShiftStart (s : State) : Outcome :=
  .next <| s.onTeam 1 <|
    let t := (s.sig (asig 0x220)).value
    if (s.shState = shOff || s.shState = shHold) && !s.unset (asig 0x220) && s.shift.target ≠ some t && !s.inBand &&
        s.stagesAllowed [stShift] && !s.modeStops stShift then
      let s := s.modShift (fun x => { x with target := some t, fails := 0 })
      if !s.shiftConfigOk then s.shToFault 1
      else
        let s := ((s.actLawsOn (motorLaw 0)).groupStart [24, 25, 26]).inc Reg.ACT_CNT_SHSTART
        s.pulsesBegin.setSh shStart
    else s

/-- SHIFT_TEST_PULSE_END (R353): after ton frames; the peak is recorded and the legs go to L. -/
def execShiftTestPulseEnd (s : State) : Outcome :=
  .next <| s.onTeam 1 <|
    let x := s.shift
    if s.shState = shStart && !x.resting && x.waitAt.isNone && x.pulses < 6 then
      let s := s.reach (x.phaseAt + s.fld Reg.ACT_SHTP Fld.ACT_SHTP_ton * motorFrame 0)
      let s := (s.putNat (asig (0x210 + pulseVector x.pulses)) (min s.shCurrent 32767)).legs 0 allLow
      let s := if x.pulses = 5 then s.shBusy false else s
      s.modShift (fun x => { x with pulses := x.pulses + 1, resting := true, phaseAt := s.dtb, extended := 0 })
    else s

/-- SHIFT_REST_END (R353): the next vector, or one more frame of rest. -/
def execShiftRestEnd (s : State) : Outcome :=
  .next <| s.onTeam 1 <|
    let x := s.shift
    if s.shState = shStart && x.resting && x.pulses < 6 then
      let s := s.reach (x.phaseAt + s.restFrames * motorFrame 0)
      if s.decayed then
        (s.legs 0 (vectorLegs (pulseVector x.pulses))).modShift (fun x => { x with resting := false, phaseAt := s.dtb })
      else if s.restFrames < 80 then s.modShift (fun x => { x with extended := x.extended + 1 })
      else s
    else s

/-- SHIFT_DECAY_FAIL (R353): the current has not decayed within 80 frames. -/
def execShiftDecayFail (s : State) : Outcome :=
  .next <| s.onTeam 1 <|
    let x := s.shift
    if s.shState = shStart && x.resting && x.pulses < 6 && 80 ≤ s.restFrames then
      let s := s.reach (x.phaseAt + s.restFrames * motorFrame 0)
      if s.decayed then s else s.shFail 2
    else s

/-- SHIFT_SECTOR_DECISION (R354, R355): after the sixth pulse. -/
def execShiftSectorDecision (s : State) : Outcome :=
  .next <| s.onTeam 1 <|
    if s.shState = shStart && s.shift.resting && s.shift.pulses = 6 then
      match s.sector with
      | .error c => (s.setf Reg.ACT_STAT (if c = 3 then Fld.ACT_STAT_open else Fld.ACT_STAT_ambig) 1).shFail c
      | .ok j =>
        let k := ((j + 1) / 2 + if s.forward then 1 else 4) % 6
        let s := (s.putNat (asig 0x203) j).modShift (fun x => { x with fails := 0, resting := false })
        ((s.modMotor 0 (fun x => { x with forced := 0, crossings := 0 })).commutate 0 k).setSh shMove
    else s

/-- The motor commutates by back-EMF. -/
def State.motorRuns (s : State) (m : Nat) : Bool := if m = 0 then s.shState = shMove else s.pump.st = pmRun || s.pump.st = pmRamp

/-- BACK_EMF_CROSSING (R356, R363): the next commutation follows after the time from the last one, in whole frames. In the
open-loop ramp of the pump it only counts. -/
def execBackEmfCrossing (m : Nat) (s : State) : Outcome :=
  ofUnit (m < 2) <|
    if s.motorRuns m && (s.motor m).nextAt.isNone then
      let f := motorFrame m
      let n := (s.dtb - (s.motor m).lastAt) / f
      let next := if m = 1 && s.pump.st = pmRamp then s.dtb else s.dtb + n * f
      s.modMotor m (fun x => { x with nextAt := some next, forced := 0, crossings := x.crossings + 1 })
    else s

/-- The step after the present one in the direction of motion; the pump turns forward. -/
def State.nextStep (s : State) (m : Nat) : Nat := ((s.motor m).step + if m = 1 || s.forward then 1 else 5) % 6

/-- COMMUTATION (R356). In the open-loop ramp of the pump the steps come at times of their own (R363); one without a crossing
ends the row of crossings. -/
def execCommutation (m : Nat) (s : State) : Outcome :=
  ofUnit (m < 2) <|
    if m = 1 && s.pump.st = pmRamp then
      let s := if (s.motor 1).nextAt.isNone then s.modMotor 1 (fun x => { x with crossings := 0 }) else s
      s.commutate 1 (s.nextStep 1)
    else match (s.motor m).nextAt with
    | none => s
    | some t => if s.motorRuns m then (s.reach t).commutate m (s.nextStep m) else s

/-- FORCED_COMMUTATION (R356): 40 frames without a crossing; the third in a row repeats the start. -/
def execForcedCommutation (m : Nat) (s : State) : Outcome :=
  ofUnit (m < 2) <|
    if s.motorRuns m && (m = 0 || s.pump.st = pmRun) && (s.motor m).nextAt.isNone then
      let s := (s.reach ((s.motor m).lastAt + 40 * motorFrame m)).commutate m (s.nextStep m)
      let s := s.modMotor m (fun x => { x with forced := x.forced + 1, crossings := 0 })
      if 3 ≤ (s.motor m).forced then (if m = 0 then s.shFail 0 else s.pumpFail) else s
    else s

/-- SHIFT_IN_BAND (R357). -/
def execShiftInBand (s : State) : Outcome :=
  .next (s.onTeam 1 (if s.shState = shMove && s.inBand then (((s.floatLeg 0 0).legs 0 allLow).motorOff 0).setSh shHold else s))

/-- SHIFT_STALL (R357): fork movement within 50 ms in units of Q15 travel. -/
def execShiftStall (moved : Nat) (s : State) : Outcome :=
  .next <| s.onTeam 1 <|
    if s.shState = shMove && moved * 100 < 32768 && 4 * s.q15 (asig 0x221) < 5 * s.shCurrent then
      (s.setf Reg.ACT_STAT Fld.ACT_STAT_stall 1).shToFault 5
    else s

/-- SHIFT_SENSOR_FAULT (R357). -/
def execShiftSensorFault (s : State) : Outcome :=
  .next <| s.onTeam 1 <|
    let p := s.forkPos
    if s.shState = shMove && (p * 100 < 5 * 32768 || 95 * 32768 < p * 100 || metaQuality (s.sig (asig 0x106)).mword = qInvalid) then
      s.shToFault 6
    else s

/-- SHIFT_RETRY_WAIT_END (R357): after 10 ms at L the start is repeated. -/
def execShiftRetryWaitEnd (s : State) : Outcome :=
  .next <| s.onTeam 1 <|
    match s.shift.waitAt with
    | none => s
    | some t => if s.shState = shStart then (s.reach (msEnd t 10)).pulsesBegin else s

/-- A session of SERVICE level or above is open. -/
def State.serviceSession (s : State) (n : Nat) : Bool := 1 ≤ n && n ≤ 8 && s.sessState n = 2 && 2 ≤ s.sessLevel n

/-- SHIFT_FAULT_CLEAR (R357): session `n` writes the cause to 0. -/
def execShiftFaultClear (n : Nat) (s : State) : Outcome :=
  .next <| s.onTeam 1 <|
    if s.shState = shFault && s.serviceSession n then
      ((s.putNat (asig 0x201) 0).modShift (fun x => { x with fails := 0 })).setSh shOff
    else s

/-! ## Park lock -/

/-- PARK_DRIVE_START (R359): the request drives the bridge, reverses it after a brake, or is refused at speed. -/
def execParkDriveStart (s : State) : Outcome :=
  .next <| s.onTeam 1 <|
    let engage := s.val (asig 0x400) = 1
    if s.unset (asig 0x400) || !s.stagesAllowed [stPark] || s.modeStops stPark || siState s s.sie ≥ siDisc || siState s s.sir ≥ siDisc then s
    else if engage && !s.vehicleBelow (s.num (asig 0x404) 3) then s.parkCause 2
    else match s.park.drive, s.park.brakeAt with
      | some d, _ => if d = engage then s else s.parkBrake (some engage)
      | none, some _ => s.modPark (fun p => { p with next := if s.parkReads engage then none else some engage })
      | none, none => if s.parkReads engage then s else s.parkDrive engage

/-- PARK_POSITION_REACHED (R359, R365): the position wins over the timeout. -/
def execParkPositionReached (s : State) : Outcome :=
  .next <| s.onTeam 1 <| match s.park.drive with
    | none => s
    | some d => if s.parkReads d then s.parkBrake none else s

/-- PARK_TIMEOUT (R359). -/
def execParkTimeout (s : State) : Outcome :=
  .next <| s.onTeam 1 <| match s.park.drive with
    | none => s
    | some d =>
      if s.parkReads d then s
      else
        let s := (s.reach (msEnd s.park.since (s.num (asig 0x403) 600))).parkBrake none
        (((s.setf Reg.ACT_STAT Fld.ACT_STAT_pk_to 1).inc Reg.ACT_CNT_PKTO).setPark pkFault).parkCause 4

/-- PARK_BRAKE_END (R359): after 20 ms the bridge stops or reverses. -/
def execParkBrakeEnd (s : State) : Outcome :=
  .next <| s.onTeam 1 <| match s.park.brakeAt with
    | none => s
    | some t =>
      let s := s.reach (msEnd t 20)
      match s.park.next with
      | some d => s.parkDrive d
      | none => s.parkOff.parkRefresh

/-- PARK_DISCREPANCY (R358). -/
def execParkDiscrepancy (s : State) : Outcome :=
  .next <| s.onTeam 1 <|
    if siState s s.sie ≥ siDisc || siState s s.sir ≥ siDisc then
      ((s.parkOff.setf Reg.ACT_STAT Fld.ACT_STAT_pk_disc 1).setPark pkFault).parkCause 3
    else s

/-! ## Clutch -/

/-- CLUTCH_PULL_END (R360). -/
def execClutchPullEnd (s : State) : Outcome :=
  .next (s.onTeam 1 (if s.clutch.st = clPull then (s.reach (msEnd s.clutch.since (s.val (asig 0x604)))).setClutch clHold else s))

/-- CLUTCH_OPEN_DETECT (R360): the condition has held for `ms` boundaries. -/
def execClutchOpenDetect (ms : Nat) (s : State) : Outcome :=
  .next <| s.onTeam 1 <|
    let duty := 10 * (s.rd (Reg.PWM_ACTA 32)).toNat > 9 * 64 * 20000
    if (s.clutch.st = clPull || s.clutch.st = clHold) && 10 * s.q15 (asig 0x10C) < s.clutchRef && duty && 20 ≤ ms then
      (s.clutchStop.setf Reg.ACT_STAT Fld.ACT_STAT_cl_open 1).setClutch clFault
    else s

/-! ## Oil pump -/

/-- The curve that the evaluation uses: a new one only if its X rise strictly (R361). -/
def State.takeCurve (s : State) : State :=
  let c := s.curveNow
  if rises c then s.modPump (fun p => { p with curve := c }) else s.pumpCause 2

/-- The speed reference follows the curve, at least 300 rpm, by at most 20 rpm in 10 ms (R362). -/
def State.pumpSpeed (s : State) : State :=
  let (n, d) := curveSpeed s.pumpInput s.pump.curve
  let (v, s) := s.freeFloor n d
  s.putInt (asig 0x503) (slew (s.q15 (asig 0x503)) (max 600 v) 40)

/-- PUMP_EVALUATION (R361, R362): every 10 ms. -/
def execPumpEvaluation (s : State) : Outcome :=
  .next <| s.onTeam 1 <|
    let s := s.reach (s.nextAt (cyclesMs 10) s.pump.evalAt)
    let s := (s.modPump (fun p => { p with evalAt := some s.dtb })).takeCurve
    let x := s.pumpInput
    let on := s.q15 (asig 0x507)
    let st := s.pump.st
    if st = pmOff then
      if on ≤ x && s.stagesAllowed [stPump] && !s.modeStops stPump then s.pumpStart else s
    else if st = pmFault then s
    else if x ≤ on - s.q15 (asig 0x508) then s.pumpOff
    else if st = pmRun then s.pumpSpeed
    else s

/-- PUMP_ALIGN_END (R363). -/
def execPumpAlignEnd (s : State) : Outcome :=
  .next <| s.onTeam 1 <|
    if s.pump.st = pmAlign then
      let s := s.reach (msEnd s.pump.since 200)
      ((s.modMotor 1 (fun _ => { lastAt := s.dtb })).commutate 1 0).setPump pmRamp
    else s

/-- PUMP_RAMP_END (R363): six consecutive crossings hand over. -/
def execPumpRampEnd (s : State) : Outcome :=
  .next <| s.onTeam 1 <|
    if s.pump.st = pmRamp then
      let s := s.reach (msEnd s.pump.since 500)
      if 6 ≤ (s.motor 1).crossings then (s.setPump pmRun).modPump (fun p => { p with fails := 0 }) else s.pumpFail
    else s

/-- PUMP_RETRY_WAIT_END (R363). -/
def execPumpRetryWaitEnd (s : State) : Outcome :=
  .next <| s.onTeam 1 <|
    if s.pump.st = pmWait then ((s.reach (msEnd s.pump.since 2000)).inc Reg.ACT_CNT_PMPRETRY).pumpStart else s

/-- PUMP_SPEED_FAULT (R363): below half the reference for `ms` boundaries. -/
def execPumpSpeedFault (ms : Nat) (s : State) : Outcome :=
  .next <| s.onTeam 1 <|
    if s.pump.st = pmRun && 2 * s.q15 (asig 0x504) < s.q15 (asig 0x503) && 1000 ≤ ms then s.pumpToFault 4 else s

/-- PUMP_FAULT_CLEAR (R363): session `n` writes the cause to 0. -/
def execPumpFaultClear (n : Nat) (s : State) : Outcome :=
  .next <| s.onTeam 1 <|
    if s.pump.st = pmFault && s.serviceSession n then
      ((s.pumpCause 0).modPump (fun p => { p with fails := 0 })).setPump pmOff
    else s

end Sys2Proof.Machine
end

