-- ==== Sys2Proof/Machine/Adc.lean ====
section
/-! DEFINITION. Meanings of the converter-unit and trigger-timer commands (spec/03). -/

namespace Sys2Proof.Machine

/-- ADC_TRIGGER_DELAY_END (R89, R93): the slot becomes pending; it counts a collision when the unit is occupied at its edge. -/
def execAdcTriggerDelayEnd (u t : Nat) (s : State) : Outcome :=
  ofUnit (u < 16 && t < 4) <|
    match (s.auAt u).delay.getD t none with
    | none => s
    | some d =>
      let s := s.reach d
      let s := s.modAu u (fun a => { a with delay := a.delay.set t none, pendAt := a.pendAt.set t s.dtb })
      let s := s.setPending u t true
      if s.adcOccupied u (adcEdge s.dtb) then s.countWaiting u (adcEdge s.dtb) else s

/-- The edge at which a free unit starts its next pending slot: the first at or after the end of a delay, and not before the
unit became free (R84, R90). -/
def State.slotEdge (s : State) (u : Nat) : Option Nat :=
  let a := s.auAt u
  let due := ((List.range 4).filter (fun t => s.slotPending u t)).map (fun t => adcEdge (a.pendAt.getD t 0))
  match due with
  | [] => none
  | d :: ds => some (s.adcAt (max (ds.foldl min d) a.freeAt))

/-- Slot `t` of a free unit starts at edge `e`: its first valid entry, or its sequence-complete event when it has none, in
the first CLK_CTL cycle at or after the edge (R91, R93, R105, R604, log 98). -/
def State.startSlot (s : State) (u t e : Nat) : State :=
  let a := s.auAt u
  let s := (s.reach (ceilHalf e)).setPending u t false
  let s := if adcEdge (a.pendAt.getD t 0) < a.freeAt && !a.collided.getD t false then s.inc (Reg.ADC_CNT_COLL u) else s
  let first := s.fld (Reg.ADC_TRG u t) Fld.ADC_TRG_first
  match s.nextEntry u first (s.fld (Reg.ADC_TRG u t) Fld.ADC_TRG_last) with
  | some k =>
    let s := if k = first then s else s.setf (Reg.ADC_STATUS u) Fld.ADC_STATUS_cfg_err 1
    ((s.modAu u (fun a => { a with running := some (t, k) })).startEntry u k (some t) none e).countWaiting u e
  | none => (s.setf (Reg.ADC_STATUS u) Fld.ADC_STATUS_cfg_err 1).sequenceComplete u t

/-- ADC_SLOT_START (R90, R91, R93, R604): the lowest slot pending at the edge starts in a free unit. -/
def execAdcSlotStart (u : Nat) (s : State) : Outcome :=
  ofUnit (u < 16) <|
    let a := s.auAt u
    match s.slotEdge u with
    | none => s
    | some e =>
      if a.act.isSome || a.running.isSome || a.wait.isSome || a.incoming.any (fun r => adcEdge r.arrive ≤ e) then s
      else match (List.range 4).find? (fun t => s.slotPending u t && adcEdge (a.pendAt.getD t 0) ≤ e) with
        | none => s
        | some t => s.startSlot u t e

/-- ADC_SAMPLING_END (R58, R83, R272): the conversion phase starts; ts of the result is the end of the sampling phase, and an
entry that reads the encoder latches its angle. -/
def execAdcSamplingEnd (u : Nat) (s : State) : Outcome :=
  ofUnit (u < 16) <|
    match (s.auAt u).act with
    | none => s
    | some c =>
      if c.sampling then
        let s := s.reach (ceilHalf c.tEnd)
        s.modAu u (fun a => { a with act := some { c with
          sampling := false, tEnd := c.tEnd + adcConv, tsUs := c.tEnd / 2 / Config.usCycles % 2 ^ 24, enc := s.encoderSample u c.entry } })
      else s

/-- The code of a conversion: that of its source; an input tied to analogue ground gives the ground code, and an input beyond
the linear range clamps it (R85, R103). -/
def Conversion.code (c : Conversion) (u gain : Nat) (uni : Bool) (code : Nat) (beyond : Bool) : Nat :=
  if c.src = .agnd then min 16383 (Config.groundCode u gain uni)
  else if beyond then (if code < 8192 then 0 else 16383)
  else code

/-- The boot flow's test conversion ends: more than 16 steps off sets fault (R110). -/
def State.testEnd (s : State) (u code : Nat) : State :=
  if offMid code (s.sfld (Reg.ADC_OFS u 0) Fld.ADC_OFS_ofs) then s.setf (Reg.ADC_STATUS u) Fld.ADC_STATUS_fault 1 else s

/-- Martingale takes the mid-scale code that it asked for in its self-test (R423). -/
def State.midScaleSample (s : State) (c : Conversion) (code : Nat) (o : Int) : State :=
  if c.by_.any (·.requester = 0) && c.src = .midScale && offMid code o then { s with mg := { s.mg with midBad := true } } else s

/-- A sequenced or urgent conversion ends with `code`: the result goes to its bank and to Martingale. -/
def State.entryEnd (s : State) (u : Nat) (c : Conversion) (code : Nat) (beyond : Bool) : State :=
  let cfg := Reg.ADC_ECFG u c.entry
  let uni := s.on cfg Fld.ADC_ECFG_pol
  let gain := s.fld cfg Fld.ADC_ECFG_gain
  let ofs := s.sfld (Reg.ADC_OFS u gain) Fld.ADC_OFS_ofs
  let beyond := beyond && c.enc.isNone && c.src ≠ .agnd
  let code := c.code u gain uni code beyond
  let v := c.enc.getD (adcValue uni code ofs)
  let q := if c.enc.isSome then qValid else s.adcQuality u
  let s := if beyond then s.setf (Reg.ADC_STATUS u) Fld.ADC_STATUS_ovr 1 else s
  let nxt := c.slot.bind (fun t => s.nextEntry u (c.entry + 1) (s.fld (Reg.ADC_TRG u t) Fld.ADC_TRG_last))
  let skipped := c.slot.any (fun t => nxt.getD (s.fld (Reg.ADC_TRG u t) Fld.ADC_TRG_last + 1) ≠ c.entry + 1)
  let s := if skipped then s.setf (Reg.ADC_STATUS u) Fld.ADC_STATUS_cfg_err 1 else s
  let s := (s.resolverSample u c.entry v beyond).midScaleSample c code ofs
  let ends := if nxt.isNone then c.slot else none
  let acc : PendAccess := {
    sig := s.fld (Reg.ADC_EDST u c.entry) Fld.ADC_EDST_sig, req := s.dtb
    kind := .conv u c.entry v q beyond c.tsUs ends c.by_ }
  let s := { s with paddock := { s.paddock with waiting := s.paddock.waiting ++ [acc] } }
  s.modAu u (fun a => { a with
    running := match c.slot with
      | none => a.running
      | some t => nxt.map (fun k => (t, k))
    finishing := match ends with
      | none => a.finishing
      | some t => a.finishing.set t true })

/-- ADC_CONVERSION_END (R84, R91, R98, R102-R104, R110, R272, R399): the conversion ends and the next work starts at that
edge. `code` is the converted code of the source, `beyond` says that the input left the linear range by half an LSB. -/
def execAdcConversionEnd (u code : Nat) (beyond : Bool) (s : State) : Outcome :=
  ofUnit (u < 16 && code < 16384) <|
    match (s.auAt u).act with
    | none => s
    | some c =>
      if c.sampling then s
      else
        let s := (s.reach (ceilHalf c.tEnd)).modAu u (fun a => { a with act := none })
        let s := if c.slot.isNone && c.by_.isNone then s.testEnd u code else s.entryEnd u c code beyond
        s.adcContinue u c.tEnd

/-- ADC_URG_WRITE (R95): requester 13 for Team S, 14 for Team A. The interconnect takes a free number of cycles (log 15). -/
def execAdcUrgWrite (core u entry : Nat) (s : State) : Outcome :=
  ofUnit (core < 6 && u < 16 && entry < 16) (s.byCore core 3 (fun s =>
    let (w, s) := s.drawWord
    s.urgentIssue { requester := 13 + teamOf core } u entry (s.dtb + w.toNat)))

/-- URGENT_REQUEST_EFFECT (R95-R99): the next request takes effect at its CLK_ADC edge. A conversion phase that ends at
that edge ends first (R99). -/
def execUrgentRequestEffect (u : Nat) (s : State) : Outcome :=
  ofUnit (u < 16) <|
    match nextUrgent (s.auAt u).incoming with
    | none => s
    | some q =>
      let e := s.adcAt (adcEdge q.arrive)
      if (s.auAt u).act.any (fun c => c.ends ≤ e) then s
      else (s.reach (ceilHalf e)).urgentEffect u q e

/-- ADC_SWTRG_WRITE (R89): a trigger event to each named slot with skind 5. -/
def execAdcSwtrgWrite (core u slots : Nat) (s : State) : Outcome :=
  ofUnit (core < 6 && u < 16 && slots < 16) <| s.byCore core 3 (fun s =>
    s.forN 4 (fun s t => if bit slots t && s.fld (Reg.ADC_TRG u t) Fld.ADC_TRG_skind = 5 then s.slotTrigger u t else s))

/-- ADC_CAL_START (R109): ignored while enabled or calibrating; it ends 8,192 CLK_ADC cycles later. -/
def execAdcCalStart (core u : Nat) (s : State) : Outcome :=
  ofUnit (core < 6 && u < 16) <| s.byCore core 3 (fun s =>
    if s.on (Reg.ADC_CTRL u) Fld.ADC_CTRL_en || s.on (Reg.ADC_STATUS u) Fld.ADC_STATUS_cal_busy then s
    else s.startCal u false)

/-- ADC_CAL_DONE (R109, R110): offsets written. `m0` to `m3` are the mean codes minus the ideal zero code of each gain. The
boot flow converts input 13 next. -/
def execAdcCalDone (u : Nat) (m0 m1 m2 m3 : Int) (s : State) : Outcome :=
  ofUnit (u < 16) <|
    match (s.auAt u).calDue with
    | none => s
    | some d =>
      let boot := (s.auAt u).bootTest
      let s := (s.reach d).modAu u (fun a => { a with calDue := none, bootTest := false })
      let s := s.setf (Reg.ADC_STATUS u) Fld.ADC_STATUS_cal_busy 0
      let w := fun (s : State) (g : Nat) (m : Int) => s.setf (Reg.ADC_OFS u g) Fld.ADC_OFS_ofs (ux 16 m)
      let s := w (w (w (w s 0 m0) 1 m1) 2 m2) 3 m3
      if boot then s.startTest u else s

/-- ADC_DISABLE (R108). -/
def execAdcDisable (core u : Nat) (s : State) : Outcome :=
  ofUnit (core < 6 && u < 16) <| s.byCore core 3 (fun s =>
    if s.on (Reg.ADC_CTRL u) Fld.ADC_CTRL_en then (s.setf (Reg.ADC_CTRL u) Fld.ADC_CTRL_en 0).adcStop u else s)

/-- TRIGGER_TIMER_FIRE (R111): frames, converter triggers and law triggers of the timer; the next firing follows. -/
def execTriggerTimerFire (n : Nat) (s : State) : Outcome :=
  ofUnit (n < 8) <|
    match s.tt.getD n none with
    | none => s
    | some d =>
      let s := s.reach d
      let s := { s with tt := s.tt.set n (some (d + s.fld (Reg.TT_PER n) Fld.TT_PER_per)) }
      ((s.frames 2 n).adcEvent 4 n).lawSource 3 n

end Sys2Proof.Machine
end

