-- ==== Sys2Proof/Machine/ThermalOps.lean ====
section
/-! DEFINITION. The thermal block: zone temperature, zone states, derate, shutdown, event records (spec/14). -/

namespace Sys2Proof.Machine

open Sys2Proof.Crypto (crc32)

/-- Zone-state codes. -/
def znNormal : Nat := 0
def znWarning : Nat := 1
def znThrottle : Nat := 2
def znShutdown : Nat := 3
def znSensor : Nat := 4

def State.modThermal (s : State) (f : ThermalSt → ThermalSt) : State := { s with thermal := f s.thermal }
def State.zone (s : State) (z : Nat) : ZoneSt := s.thermal.zones.getD z {}
def State.modZone (s : State) (z : Nat) (f : ZoneSt → ZoneSt) : State :=
  s.modThermal (fun t => { t with zones := t.zones.modify z f })

def State.znState (s : State) (z : Nat) : Nat := s.fld (Reg.TH_ZSTAT z) Fld.TH_ZSTAT_state
/-- Temperature of a zone in 1/16 °C, and its levels and hystereses in the same unit. -/
def State.znTemp (s : State) (z : Nat) : Int := s.sfld (Reg.TH_ZSTAT z) Fld.TH_ZSTAT_t
def State.znWarn (s : State) (z : Nat) : Int := 16 * s.sfld (Reg.TH_ZWRN z) Fld.TH_ZWRN_lvl
def State.znThr (s : State) (z : Nat) : Int := 16 * s.sfld (Reg.TH_ZTHR z) Fld.TH_ZTHR_lvl
def State.znSd (s : State) (z : Nat) : Int := 16 * s.sfld (Reg.TH_ZSD z) Fld.TH_ZSD_lvl
def State.znHys (s : State) (a : Nat) : Int := 16 * (s.fld a Fld.TH_ZWRN_hys : Nat)

/-- Scopes that a zone stops (zone table). -/
def zoneScopes (z : Nat) : List Nat :=
  [[0xA000, 0xA001, 0xA002], [0x8000], [0x8001], [0x8000], [0x8001], [0xA001], [0x8006, 0x8007], [0xA000]].getD z []

/-- Point `j` of curve `c`, in 1/16 °C: two points a word, the even one low. -/
def State.curvePoint (s : State) (c j : Nat) : Int := sx 16 ((s.rd (Reg.TH_CRV c (j / 2))).toNat / 2 ^ (16 * (j % 2)))

/-- Conversion by curve `c` (R428). The way of rounding is a free choice (log 18), and so is the result beyond the last
point. -/
def State.curveValue (s : State) (c : Nat) (v : Int) : Int × State :=
  let n := v.toNat
  if 32768 < n then
    let (w, s) := s.drawWord
    (sx 16 w.toNat, s)
  else if n = 32768 then (s.curvePoint c 32, s)
  else
    let j := n / 1024
    let p := s.curvePoint c j
    let (q, s) := s.freeFloor ((s.curvePoint c (j + 1) - p) * (n % 1024 : Nat)) 1024
    (p + q, s)

/-- Value of a sensor signal as a number of its type. An F32 signal has none that R428 converts: it counts as beyond the
curve, whose result is free. -/
def State.sensorValue (s : State) (id : Nat) : Int :=
  match dType (s.desc id) with
  | 0 => s.q15 id
  | 1 => s.s32 id
  | 3 => s.s32 id
  | 4 => 32769
  | _ => (s.val id : Int)

/-- Sensor `k` is valid (R429). -/
def State.sensorValid (s : State) (k : Nat) : Bool :=
  let id := s.fld (Reg.TH_SEN k) Fld.TH_SEN_sig
  s.on (Reg.TH_SEN k) Fld.TH_SEN_en && s.valid id && !metaOvr (s.sig id).mword

/-- The hottest valid sensor of a zone and its temperature, the lower number first on a tie (R429). -/
def State.hottest (s : State) (z : Nat) : List Nat → Option (Nat × Int) → Option (Nat × Int) × State
  | [], best => (best, s)
  | k :: ks, best =>
    if bit (s.rd (Reg.TH_ZSEN z)).toNat k && s.sensorValid k then
      let (t, s) := s.curveValue (s.fld (Reg.TH_SEN k) Fld.TH_SEN_crv) (s.sensorValue (s.fld (Reg.TH_SEN k) Fld.TH_SEN_sig))
      s.hottest z ks (match best with
        | some (b, tb) => if tb < t then some (k, t) else some (b, tb)
        | none => some (k, t))
    else s.hottest z ks best

/-- Period of the next evaluation (R430, R431). -/
def State.zonePeriod (s : State) (z : Nat) : Nat :=
  let t := s.znTemp z
  if s.znState z = znSensor then 400000
  else if s.znSd z - 80 ≤ t then 40000
  else if s.znThr z - 160 ≤ t then 400000
  else 4000000

/-- The next multiple of `p` after the present. -/
def State.nextMultiple (s : State) (p : Nat) : Nat := (s.dtb / p + 1) * p

/-- Upward through every row that T meets (R431). -/
def State.zoneUp (s : State) (z : Nat) (t : Int) (st : Nat) : Nat :=
  let st := if st = znNormal && s.znWarn z ≤ t then znWarning else st
  let st := if st = znWarning && s.znThr z ≤ t then znThrottle else st
  if st = znThrottle && s.znSd z ≤ t then znShutdown else st

/-- The state after an evaluation that found T. -/
def State.zoneNext (s : State) (z : Nat) (t : Int) (good : Nat) : Nat :=
  let st := s.znState z
  if st = znSensor then (if 3 ≤ good then s.zoneUp z t znNormal else znSensor)
  else if st = znShutdown then st
  else
    let up := s.zoneUp z t st
    if up ≠ st then up
    else if st = znWarning && t < s.znWarn z - s.znHys (Reg.TH_ZWRN z) then znNormal
    else if st = znThrottle && t < s.znThr z - s.znHys (Reg.TH_ZTHR z) then znWarning
    else st

/-- Derate of a zone in 1/32,768, at most 0x7FFF (R432); the way of rounding is a free choice (log 18). -/
def State.zoneDerate (s : State) (z st : Nat) (t : Int) : Nat × State :=
  if st = znShutdown then (0, s)
  else if st = znSensor then (0x4000, s)
  else if st = znThrottle then
    let (q, s) := s.freeFloor ((s.znSd z - t) * 32768) (s.znSd z - s.znThr z)
    ((sat 0 0x7FFF q).toNat, s)
  else (0x7FFF, s)

/-- The event record of an evaluation (R436), without its CRC; number `n`. -/
def State.eventRecord (s : State) (z st sensor n : Nat) (t : Int) (d : Nat) (before : List Nat) : List Byte :=
  leBytes 8 s.dtb ++ [BitVec.ofNat 8 z, BitVec.ofNat 8 (if st = znSensor then 0xFF else sensor)] ++
    leBytes 2 (ux 16 t) ++ [BitVec.ofNat 8 s.modeNow, BitVec.ofNat 8 st] ++ leBytes 2 d ++ leBytes 4 n ++
    before.map (BitVec.ofNat 8 ·)

/-- A record enters the keeper buffer, which holds 8; a further one is dropped (R434). -/
def State.recordEvent (s : State) (z st sensor : Nat) (t : Int) (d : Nat) (before : List Nat) : State :=
  if s.thermal.records.length < 8 then
    let n := s.thermal.seq + 1
    let r := s.eventRecord z st sensor n t d before
    (s.modThermal (fun x => { x with records := x.records ++ [r ++ leBytes 4 (crc32 r).toNat], seq := n })).setf
      Reg.TH_STAT Fld.TH_STAT_nvm_pend 1
  else s.inc Reg.TH_CNT_RECDROP

/-- A zone enters SHUTDOWN: class 15 on each of its scopes (R434). -/
def State.zoneShutdown (s : State) (z : Nat) : State :=
  let s := s.each (zoneScopes z) (fun s sc => (s.report 15 sc).sourceOn 15 sc)
  (s.setf Reg.TH_STAT (bitF z) 1).inc Reg.TH_CNT_SD

/-- A zone leaves SHUTDOWN: its source ends on every scope that no other zone in SHUTDOWN holds. -/
def State.zoneRelease (s : State) (z : Nat) : State :=
  let s := s.setf Reg.TH_STAT (bitF z) 0
  let held := ((List.range 8).filter (fun k => bit (s.fld Reg.TH_STAT Fld.TH_STAT_sd) k)).flatMap zoneScopes
  s.each ((zoneScopes z).filter (fun sc => !held.contains sc)) (fun s sc => s.sourceOff 15 sc)

/-- The zone signals (R433). -/
def State.publishZone (s : State) (z : Nat) : State :=
  let a := Reg.TH_ZSTAT z
  let b := sid 9 (0x100 + 0x10 * z)
  (((s.putInt b (sat16 (4 * s.znTemp z))).putNat (b + 1) (s.fld a Fld.TH_ZSTAT_sen)).putNat
    (b + 2) (s.fld (Reg.TH_ZDER z) Fld.TH_ZDER_d)).putNat (b + 3) (s.znState z)

/-- A zone takes state, hottest sensor, temperature and derate of an evaluation; interrupt 96 marks a change. -/
def State.setZone (s : State) (z st sensor : Nat) (t : Int) (d : Nat) : State :=
  let a := Reg.TH_ZSTAT z
  let old := (s.rd a, s.rd (Reg.TH_ZDER z))
  let cool := st = znShutdown && (s.on a Fld.TH_ZSTAT_cool || t < s.znSd z - s.znHys (Reg.TH_ZSD z))
  let s := ((((s.setf a Fld.TH_ZSTAT_state st).setb a Fld.TH_ZSTAT_cool cool).setf a Fld.TH_ZSTAT_sen sensor).setf
    a Fld.TH_ZSTAT_t (ux 16 t)).setf (Reg.TH_ZDER z) Fld.TH_ZDER_d d
  let s := if old = (s.rd a, s.rd (Reg.TH_ZDER z)) then s else s.irq 96
  s.publishZone z

/-- A pending re-enable of a zone is taken (R435). -/
def State.takeReenable (s : State) (z : Nat) (t : Option Int) : State :=
  if !bit s.thermal.reen z then s
  else
    let s := s.modThermal (fun x => { x with reen := x.reen - 2 ^ z })
    if s.znState z = znShutdown && t.any (fun t => t < s.znWarn z) then
      (s.zoneRelease z).setf (Reg.TH_ZSTAT z) Fld.TH_ZSTAT_state znNormal
    else (s.setf Reg.TH_STAT Fld.TH_STAT_reen_ref 1).inc Reg.TH_CNT_REENREF

/-- An evaluation of zone `z` now. -/
def State.evaluateZone (s : State) (z : Nat) : State :=
  let before := (List.range 8).map s.znState
  let (found, s) := s.hottest z (List.range 32) none
  let s := s.takeReenable z (found.map (·.2))
  let st0 := s.znState z
  let (sensor, t) := found.getD (s.fld (Reg.TH_ZSTAT z) Fld.TH_ZSTAT_sen, s.znTemp z)
  let s := s.modZone z (fun x => match found with
    | some _ => { x with bad := 0, good := x.good + 1 }
    | none => { x with bad := x.bad + 1, good := 0 })
  let st := match found with
    | some _ => s.zoneNext z t (s.zone z).good
    | none => if st0 < 3 && 3 ≤ (s.zone z).bad then (if s.znSd z ≤ t then znShutdown else znSensor) else st0
  let dOld := s.fld (Reg.TH_ZDER z) Fld.TH_ZDER_d
  let (d, s) := s.zoneDerate z st t
  let s := s.setZone z st sensor t d
  let s := if st = znShutdown && st0 ≠ znShutdown then s.zoneShutdown z else s
  let s := if st ≠ st0 && (st = znShutdown || st = znSensor) then s.recordEvent z st sensor t dOld before else s
  s.modZone z (fun x => { x with nextAt := some (s.nextMultiple (s.zonePeriod z)) })

/-- A write of TH_CTRL: the first evaluations fall at the next 100 µs multiple (R430). -/
def State.thermalEnable (s : State) (v : Word) : State :=
  let was := s.on Reg.TH_CTRL Fld.TH_CTRL_en
  let s := s.wrReg Reg.TH_CTRL v
  let now := s.on Reg.TH_CTRL Fld.TH_CTRL_en
  if now && !was then s.forN 8 (fun s z => s.modZone z (fun x => { x with nextAt := some (s.nextMultiple 40000) }))
  else if now then s
  else s.forN 8 (fun s z => s.modZone z (fun x => { x with nextAt := none }))

/-- A write of a level keeps T_warn < T_thr < T_sd and hys in 1-20, or is refused (R438). -/
def State.thermalLevel (s : State) (z a : Nat) (v : Word) : State :=
  if s.locked then s
  else
    let lvl := fun b => if b = a then sx 16 v.toNat else s.sfld b Fld.TH_ZWRN_lvl
    let hys := Word.get v Fld.TH_ZWRN_hys
    if lvl (Reg.TH_ZWRN z) < lvl (Reg.TH_ZTHR z) && lvl (Reg.TH_ZTHR z) < lvl (Reg.TH_ZSD z) && 1 ≤ hys && hys ≤ 20 then s.wrReg a v
    else s.setf Reg.TH_STAT Fld.TH_STAT_cfg_err 1

/-! ## Data NVM -/

/-- Bytes programmed into data NVM from physical address `a`. -/
def State.nvmWrite (s : State) : Nat → List Byte → State
  | _, [] => s
  | a, b :: bs => (s.nvmSet a b).nvmWrite (a + 1) bs

def State.nvmRead (s : State) (a n : Nat) : List Byte := (List.range n).map (fun k => s.nvmGet (a + k))
def State.codeRead (s : State) (a n : Nat) : List Byte := (List.range n).map (fun k => s.codeGet (a + k))

/-- The oldest keeper record is copied into the ring (R434, R436). -/
def State.copyRecord (s : State) : State :=
  match s.thermal.records with
  | [] => s
  | r :: rs =>
    if !s.domainOn 7 then s
    else
      let n := s.fld Reg.TH_RECPTR Fld.TH_RECPTR_n
      let s := (s.nvmWrite (0x483FF800 + 32 * n) r).setf Reg.TH_RECPTR Fld.TH_RECPTR_n ((n + 1) % 64)
      let s := s.modThermal (fun x => { x with records := rs })
      if rs.isEmpty then s.setf Reg.TH_STAT Fld.TH_STAT_nvm_pend 0 else s

end Sys2Proof.Machine
end

