-- ==== Sys2Proof/Machine/ResetOps.lean ====
section
/-! DEFINITION. What a reset of each power domain leaves, the reset sources, and NVM programming (spec/17, spec/20,
spec/21). -/

namespace Sys2Proof.Machine

/-! ## Registers of a domain -/

/-- The domain of the block at address `a` (R51); 8 for the keeper and for an address outside every block. -/
def domainAt (a : Nat) : Nat :=
  let w := a / 0x10000
  if w ≤ 0x6FFF then 8
  else if w ≤ 0x7005 then 0
  else if w = 0x7006 then 1
  else if w = 0x7008 || w = 0x7010 || w = 0x7011 || (0x7030 ≤ w && w ≤ 0x703B) then 2
  else if w = 0x7020 || w = 0x7021 || w = 0x7060 then 3
  else if w = 0x7040 then 4
  else if 0x7050 ≤ w && w ≤ 0x7054 then 5
  else if w = 0x7068 then 6
  else if w = 0x7070 || w = 0x7071 then 7
  else 8

/-- Registers that a reset of their domain leaves: what the keeper and the one-time-programmable memory hold, the straps,
the states of the domains, and the debug lock, which ends with PD0 alone (R479, R496, R497, R510, R554, R561). -/
def keptRegister (a : Nat) : Bool :=
  a = Reg.RST_CAUSE || a = Reg.RST_STRAP || (Reg.RST_CNT_POR ≤ a && a ≤ Reg.RST_CNT_LP) ||
    (Reg.BRD_LOCK 0 ≤ a && a ≤ Reg.BRD_LOCK 3) || a = Reg.SEC_RBCNT || a = Reg.SEC_SLOTST || a = Reg.SEC_DBGST

/-- The registers of a domain take their reset values; GDC_PRB has its own on the -D variant (R18, R254). -/
def State.resetRegs (s : State) (d : Nat) : State :=
  let s : State := { s with regs := s.regs.filter (fun r => !(domainAt r.1 = d && !keptRegister r.1)) }
  if d = 4 && s.variant = .d then s.wr Reg.GDC_PRB 0x1A3 else s

/-! ## Blocks of a domain -/

/-- Team S and what runs on it. The latch of DTB_HI stays (R27, R34). -/
def State.resetTeamS (s : State) : State :=
  { s with
    cores := (s.cores.take 3).map (fun c => { dtbHi := c.dtbHi }) ++ s.cores.drop 3
    irqPend := s.irqPend.set 0 []
    harn := s.harn.set 0 {}
    clk := {}
    power := {}
    mode := {}
    lv := {}
    drives := s.drives.map (fun d => { d with startAt := 0, dwellAt := 0, stopBy := none, dir := 0 }) }

/-- Team A, held (R385) with arel clear (R388), and the machines that run on it. -/
def State.resetTeamA (s : State) : State :=
  { s.setf (Reg.HARN_CTRL 0) Fld.HARN_CTRL_arel 0 with
    cores := s.cores.take 3 ++ (s.cores.drop 3).map (fun c => { held := true, dtbHi := c.dtbHi })
    irqPend := s.irqPend.set 1 []
    harn := s.harn.set 1 {}
    inlet := {}
    charge := [{}, {}]
    supply := {}
    solar := {}
    motors := [{}, {}]
    shift := {}
    park := {}
    clutch := {}
    pump := {} }

/-- PD2: Martingale starts as under a MODULE reaction (R559); sources of other domains stay (R415). With `off` the engines'
data registers are undefined (R150): free values. -/
def State.resetCtrl (s : State) (off : Bool) : State :=
  let (engines, s) : List CeSt × State := (List.range 12).foldl (fun (p : List CeSt × State) _ =>
    if off then
      let ws := (List.range 64).map (fun k => (Config.freeWord (p.2.draws + k)).setWidth 16)
      (p.1 ++ [{ bank := { d := ws } }], { p.2 with draws := p.2.draws + 64 })
    else (p.1 ++ [{}], p.2)) ([], s)
  let s : State := { s with
    ce := engines
    pg := s.pg.map (fun p => {
      hiLink := if p.hi then p.hiLink ++ [(s.dtb, false)] else p.hiLink
      loLink := if p.lo then p.loLink ++ [(s.dtb, false)] else p.loLink })
    tripIn := s.tripIn.map (fun t => { t with since := none })
    yarrow := {}
    tt := List.replicate 8 none
    joins := List.replicate 8 []
    mg := { sources := s.mg.sources.filter (fun x => [0, 1, 2, 5, 11, 15].contains x.cls) }
    lv := {}
    chs := {} }
  ((s.each martingaleStart (fun s r => s.wr r.1 r.2)).path2 0).path2 1

/-- PD3. The records of the keeper stay. -/
def State.resetSense (s : State) : State :=
  let s : State := { s with
    au := List.replicate 16 {}
    thermal := { s.thermal with zones := List.replicate 8 {}, reen := 0 }
    inlet := { s.inlet with edgeAt := none }
    drives := s.drives.map (fun d => { d with encAt := none })
    mg := { s.mg with sources := s.mg.sources.filter (fun x => x.cls ≠ 15) } }
  s.setb Reg.TH_STAT Fld.TH_STAT_nvm_pend (!s.thermal.records.isEmpty)

/-- PD4: every channel off without fault; path 2 holds the channels of each drive that Martingale keeps in STO. The links
carry the present commands. With `off` its supply was off, and the LV channels wait for the end of the re-initialisation
(R224). -/
def State.resetDrive (s : State) (off : Bool) : State :=
  let sto := fun d => s.on Reg.MG_STAT Fld.MG_STAT_sto || s.fstate d = 2
  let hv := (List.range 34).map (fun n =>
    let p := s.pgAt (genOfHv n)
    ({ gen := if hvIsHigh n then p.hi else p.lo
       p2 := if n < 12 && sto (n / 6) then some false else none, offSince := some s.dtb } : HvSt))
  let lv := (List.range 29).map (fun m =>
    let p := s.pgAt (genOfLv m)
    ({ cmd := if lvIsHigh m then p.hi else p.lo, offSince := some s.dtb } : LvSt))
  let s : State := { s with
    pg := s.pg.map (fun p => { p with hiLink := [], loLink := [] })
    gate := { hv := hv, lv := lv, drvEn := s.gate.drvEn, lowSince := if s.gate.drvEn then s.dtb else s.gate.lowSince
              drvSince := if s.gate.drvEn then some s.dtb else none }
    mg := { s.mg with sources := s.mg.sources.filter (fun x => 2 < x.cls) } }
  let s := s.each [1, 2, 3, 5] (fun s n => s.lineInactive n)
  if off then s else s.lvChannelsRun

/-- PD5: every session goes FREE (R473). -/
def State.leaveComm (s : State) : State :=
  s.forN 8 (fun s k => if s.sessState (k + 1) = 0 then s else s.closeSession (k + 1))

def State.resetComm (s : State) : State :=
  let s : State := { s with
    bus := List.replicate 4 {}
    bridle := {}
    mg := { s.mg with sources := s.mg.sources.filter (fun x => x.cls ≠ 11) } }
  s

/-- PD6: every word and every descriptor of the Paddock (log 5). -/
def State.resetPaddock (s : State) : State := { s with sigs := [], descs := [], paddock := {} }

/-! ## NVM programming -/

def State.modBoot (s : State) (f : BootSt → BootSt) : State := { s with boot := f s.boot }
def State.modSecure (s : State) (f : SecSt → SecSt) : State := { s with sec := f s.sec }

def State.nvmBusy (s : State) : Bool := !s.boot.nvmJobs.isEmpty

/-- Bytes programmed into code NVM from physical address `a`. -/
def State.codeWrite (s : State) : Nat → List Byte → State
  | _, [] => s
  | a, b :: bs => (s.codeSet a b).codeWrite (a + 1) bs

/-- A whole code bank is erased: its bytes read as unlisted ones. -/
def State.eraseBank (s : State) (b : Nat) : State :=
  let lo := 0x40000000 + b * 0x1000000
  { s with codeNvm := s.codeNvm.filter (fun c => !(lo ≤ c.1 && c.1 < lo + 0x1000000)) }

def codeBank (a : Nat) : Nat := a / 0x1000000 % 2

/-- Programming begins unless the power-fail warning stands (R564). -/
def State.program (s : State) (j : NvmJob) : State :=
  if s.boot.pwfAt.isSome then s else s.modBoot (fun b => { b with nvmJobs := b.nvmJobs ++ [j] })

/-- A reset cuts programming short: a boot-record copy being written is not valid (R499), and the bytes of any other are
free. -/
def State.nvmCut (s : State) : State :=
  match s.boot.nvmJobs with
  | [] => s
  | j :: _ =>
    let s := s.modBoot (fun b => { b with nvmJobs := [] })
    if j.record then s
    else
      let (bs, s) := s.drawBytes j.data.length
      if j.code then (if j.erase then s.eraseBank (codeBank j.at_) else s).codeWrite j.at_ bs else s.nvmWrite j.at_ bs

/-- PD7: verifications end, measurements become 0 (R506). -/
def State.resetSecure (s : State) : State :=
  s.nvmCut.modSecure (fun x => { x with verify := none, verified := [], challenge := none, attempt := none })

/-! ## Resets -/

/-- A reset of domain `d`; with `off` its supply was off. -/
def State.resetDomain (s : State) (d : Nat) (off : Bool := false) : State :=
  if d = 0 then s.keepRtc (fun s => (s.resetRegs 0).resetTeamS)
  else
  let s := s.resetRegs d
  match d with
  | 1 => s.resetTeamA
  | 2 => s.resetCtrl off
  | 3 => s.resetSense
  | 4 => s.resetDrive off
  | 5 => s.resetComm
  | 6 => s.resetPaddock
  | 7 => s.resetSecure
  | _ => s

/-- A reset of PD0 ends every debug unlock and lock (R510). -/
def State.debugEnd (s : State) : State :=
  (s.wr Reg.SEC_DBGST 0).modSecure (fun x => { x with debugLevel := 0, unlocked := false, challenge := none, attempt := none })

/-- Every domain is reset, in the order in which a later one reads what an earlier one leaves. -/
def State.resetAll (s : State) (off : Bool) : State :=
  ([5, 6, 7, 0, 1, 2, 3, 4].foldl (fun s d => s.resetDomain d off) s).debugEnd

/-- A cause is recorded in the keeper with its counter (R560); `k` is its bit. -/
def State.resetCause (s : State) (k : Nat) : State :=
  let s := s.setf Reg.RST_CAUSE (bitF k) 1
  if k < 8 then
    let a := Reg.RST_CNT_POR + 4 * k
    s.wr a (W (min 0xFFFF ((s.rd a).toNat + 1)))
  else s

/-- The STRAP phase of R554 runs; a wake has none (R576). -/
def State.inStrap (s : State) : Bool := s.boot.stage = 2 && !s.boot.warm && !s.boot.wakeNext

/-- The saddle pins are in RUN (R576): PD0 is ON and no reset or STRAP runs. -/
def State.inRunPhase (s : State) : Bool := s.domainOn 0 && 2 ≤ s.boot.stage && !s.boot.warm && !s.inStrap

/-- The WAKE output is released (R580). -/
def State.releaseWake (s : State) : State := s.setf Reg.KPR_WOUT Fld.KPR_WOUT_drive 0

/-- A warm reset with cause `k` begins: PD0-PD7 are held in reset for 20 µs (R560). -/
def State.warmReset (s : State) (k : Nat) : State :=
  let s := ((s.resetCause k).resetAll false).releaseWake
  let s := s.modBoot (fun b => { stage := 2, start := s.rtc, due := s.dtb + 8000, warm := true, pwfAt := b.pwfAt })
  s.setf Reg.RST_STAT Fld.RST_STAT_last k

/-- The supply is lost: every domain is OFF, and only the keeper runs. -/
def State.supplyLost (s : State) : State :=
  let s := ((s.resetAll true).releaseWake).forN 8 (fun s d => s.setDomain d 2)
  (s.modBoot (fun _ => { stage := 0 })).powerMirror

/-- The power sequencer starts (R552 step 2). -/
def State.sequencerStart (s : State) (por wake : Bool) : State :=
  s.modBoot (fun _ => { stage := 1, start := s.rtc, porNext := por, wakeNext := wake })

/-! ## Boot record (R499) -/

def recordAt (k : Nat) : Nat := 0x48000000 + 0x40 * k

/-- Copy `k`, if its CRC matches: seq, active bank, trial, tries. The byte order is the model's (log 31). -/
def State.bootCopy (s : State) (k : Nat) : Option (Nat × Nat × Nat × Nat) :=
  let b := s.nvmRead (recordAt k) 64
  if Crypto.beNat (b.drop 60) = (Crypto.crc32 (b.take 60)).toNat then
    some (Crypto.beNat (b.take 4), (b.getD 4 0).toNat % 2, (b.getD 5 0).toNat, (b.getD 6 0).toNat)
  else none

/-- The copy in force: the valid one with the higher seq. -/
def State.bootInForce (s : State) : Option (Nat × Nat × Nat × Nat × Nat) :=
  match s.bootCopy 0, s.bootCopy 1 with
  | some a, some b => if a.1 < b.1 then some (1, b) else some (0, a)
  | some a, none => some (0, a)
  | none, some b => some (1, b)
  | none, none => none

/-- Record in force: active, trial, tries. -/
def State.bootRecord (s : State) : Nat × Nat × Nat :=
  match s.bootInForce with
  | some (_, _, r) => r
  | none => (0, 0, 0)

/-- The older copy is written with seq + 1. -/
def State.writeRecord (s : State) (active trial tries : Nat) : State :=
  let (k, seq) := match s.bootInForce with
    | some (k, seq, _) => (1 - k, seq + 1)
    | none => (0, 1)
  let b := Crypto.beBytes 4 seq ++ [BitVec.ofNat 8 active, BitVec.ofNat 8 trial, BitVec.ofNat 8 tries] ++ List.replicate 53 0
  s.nvmWrite (recordAt k) (b ++ Crypto.beBytes 4 (Crypto.crc32 b).toNat)

/-- Programming of a boot record: the active bank (none keeps it), with tries 0. -/
def State.programRecord (s : State) (active : Option Nat) (trial : Nat) : State :=
  let d : List Byte := [BitVec.ofNat 8 (active.getD 255), BitVec.ofNat 8 trial, 0]
  s.program { code := false, at_ := recordAt 0, record := true, data := d }

/-- Programming whose transfers are corrupted: free data (R522, log 117). -/
def State.corrupted (s : State) (j : NvmJob) : NvmJob × State :=
  if s.perRatioOk then (j, s)
  else
    let (bs, s) := s.drawBytes j.data.length
    ({ j with data := bs }, s)

/-- The first programming operation completes. -/
def State.nvmDone (s : State) : State :=
  match s.boot.nvmJobs with
  | [] => s
  | j :: js =>
    let s := s.modBoot (fun b => { b with nvmJobs := js })
    let (j, s) := s.corrupted j
    let s :=
      if j.record then
        let a := (j.data.getD 0 0).toNat
        s.writeRecord (if a = 255 then s.bootRecord.1 else a) (j.data.getD 1 0).toNat (j.data.getD 2 0).toNat
      else if j.code then (if j.erase then s.eraseBank (codeBank j.at_) else s).codeWrite j.at_ j.data
      else s.nvmWrite j.at_ j.data
    s.irq 99

/-! ## Images (R495, R498) -/

/-- What a verification finds: fail code, kind, security version, key slot. -/
structure ImageCheck where
  code : Nat
  kind : Nat
  svn : Nat
  slot : Nat
  deriving DecidableEq, Repr, Inhabited

/-- Rollback counter of image kind `k`, 1-4, and the state of a key slot. -/
def State.rollback (s : State) (k : Nat) : Nat := s.fld Reg.SEC_RBCNT ⟨8 * (k - 1), 7⟩
def State.slotUsable (s : State) (k : Nat) : Bool :=
  k < 4 && bit (s.rd Reg.SEC_SLOTST).toNat k && !bit (s.rd Reg.SEC_SLOTST).toNat (4 + k)

/-- The checks of R498 on the header at offset `off` of bank `b`, in order. With the ratio of CLK_SYS to CLK_PER outside its
limit the signature check fails (R522). -/
def State.verifyImage (s : State) (b off : Nat) : ImageCheck :=
  let base := 0x40000000 + b * 0x1000000
  let h := s.codeRead (base + off) 512
  let part := fun i n => (h.drop i).take n
  let kind := (h.getD 6 0).toNat
  let slot := (h.getD 7 0).toNat
  let svn := Crypto.beNat (part 8 4)
  let plen := Crypto.beNat (part 12 4)
  let poff := Crypto.beNat (part 16 4)
  let code :=
    if !(Crypto.beNat (part 0 4) = 0x434A5849 && Crypto.beNat (part 4 2) = 1 && 1 ≤ kind && kind ≤ 4) then 1
    else if !s.slotUsable slot then 2
    else if Crypto.sha384 (part 32 96) ≠ s.sec.slotHash.getD slot [] then 3
    else if !s.perRatioOk || !Crypto.ecdsaVerify (part 32 96) (part 176 96) (part 0 176) then 4
    else if svn < s.rollback kind || 64 < svn then 5
    else if 0x1000000 < poff + plen || Crypto.sha384 (s.codeRead (base + poff) plen) ≠ part 128 48 then 6
    else 0
  { code := code, kind := kind, svn := svn, slot := slot }

/-- SHA-384 of header bytes 0-175. -/
def State.headerHash (s : State) (b off : Nat) : List Byte :=
  Crypto.sha384 (s.codeRead (0x40000000 + b * 0x1000000 + off) 176)

/-! ## Measurements (R506) -/

/-- The 48 bytes of M`n`, the first byte lowest in the first word. -/
def State.measurement (s : State) (n : Nat) : List Byte :=
  (List.range 12).flatMap (fun j => leBytes 4 (s.rd (Reg.SEC_MEAS n j)).toNat)

def State.extend (s : State) (n : Nat) (h : List Byte) : State :=
  let m := Crypto.sha384 (s.measurement n ++ h)
  s.forN 12 (fun s j => s.wr (Reg.SEC_MEAS n j) (W (leNat ((m.drop (4 * j)).take 4))))

/-! ## Teams -/

/-- Every core of a team is in WFI or held (R537). -/
def State.teamInWfi (s : State) (t : Nat) : Bool :=
  [0, 1, 2].all (fun n => (s.coreAt (3 * t + n)).wfi || (s.coreAt (3 * t + n)).held)

/-- The team executes. -/
def State.teamLive (s : State) (t : Nat) : Bool := s.domainOn t && s.fld (Reg.HARN_STAT t) Fld.HARN_STAT_live ≠ 0

/-- Team S halts until a reset (R501). -/
def State.haltTeamS (s : State) : State :=
  let s := (s.setf (Reg.HARN_STAT 0) Fld.HARN_STAT_live 0).forN 3 (fun s n => s.modCore n (fun c => { c with held := true }))
  s.modBoot (fun b => { b with stage := 6 })

/-- Team A is reset and held (R380, R388), with a SAFE report on each stage whose machine runs on it. -/
def State.teamALost (s : State) : State :=
  let s := s.each teamAStages (fun s st => s.report 8 (scopeOf lvStage st))
  let s := (s.resetTeamA.setf (Reg.HARN_STAT 1) Fld.HARN_STAT_mode 0).setf (Reg.HARN_STAT 1) Fld.HARN_STAT_state 0
  (s.setf (Reg.HARN_STAT 1) Fld.HARN_STAT_live 0).irq 104

end Sys2Proof.Machine
end

