-- ==== Sys2Proof/Machine/BootOps.lean ====
section
/-! DEFINITION. What stage 1 of the boot flow loads and tests in the converter units (spec/03, spec/21, spec/22). -/

namespace Sys2Proof.Machine

/-- Start-up phase (R553), which RST_BOOT mirrors. -/
def State.setPhase (s : State) (v : Nat) : State := (s.putNat (sid 0 0x15) v).setf Reg.RST_BOOT Fld.RST_BOOT_phase v

/-- Default triggers of the converter units (spec/03, Default assignment): unit, slot, source kind and index, join. The slots of
AU11 to AU15 are the model's (log 119). The -D variant has none for the charger's generators (R15). -/
def State.defaultTriggers (s : State) : List (Nat × Nat × Nat × Nat × Option Nat) :=
  let drive := fun d => [0, 1, 2].flatMap (fun k => [(4 * d + k, 0, 1, 3 * d, some d), (4 * d + k, 1, 2, 3 * d, some d)]) ++
    [(4 * d + 3, 0, 1, 3 * d, none), (4 * d + 3, 1, 4, d, none)]
  let charger := [(8, 0, 1, 6, some 2), (9, 0, 1, 6, some 2), (10, 0, 1, 6, some 2), (11, 0, 1, 10, none)]
  drive 0 ++ drive 1 ++ (if s.variant = .f then charger else []) ++
    [(11, 1, 4, 2, none), (12, 0, 4, 3, none), (13, 0, 1, 24, none), (13, 1, 4, 4, none), (14, 0, 4, 7, none), (15, 0, 4, 7, none)]

/-- Default routing of the common sense lines (R575): unit, and the lines of its inputs 8, 9 and 10. -/
def defaultRouting : List (Nat × Nat × Nat × Nat) := [(12, 3, 4, 5), (13, 1, 2, 0)]

/-- The default converter assignment, and TT7 at 100 µs (R555). -/
def State.converterDefaults (s : State) : State :=
  let s := s.each s.defaultTriggers (fun s (u, t, kind, idx, join) =>
    let a := Reg.ADC_TRG u t
    let s := (s.setf a Fld.ADC_TRG_skind kind).setf a Fld.ADC_TRG_sidx idx
    match join with
    | some j => (s.setf a Fld.ADC_TRG_jsel j).setf a Fld.ADC_TRG_jen 1
    | none => s)
  let s := s.each defaultRouting (fun s (u, l8, l9, l10) =>
    let a := Reg.ADC_CSL u
    (((s.setf a Fld.ADC_CSL_sel8 l8).setf a Fld.ADC_CSL_sel9 l9).setf a Fld.ADC_CSL_sel10 l10).setf a Fld.ADC_CSL_csl_en 1)
  ((s.wr (Reg.TT_PER 7) 40000).setf (Reg.TT_CTL 7) Fld.TT_CTL_en 1).ttStart 7

/-- The converter part of stage 1 and of the self-tests: the default assignment, ADC_CAL on every unit with the test of input
13 to follow, and the clock check (R110, R555, R556). -/
def State.converterBoot (s : State) : State :=
  let s := s.converterDefaults.setPhase 1
  let s := if s.on Reg.CLK_STAT Fld.CLK_STAT_bosc_err || !s.on Reg.CLK_STAT Fld.CLK_STAT_lock then
      s.report 14 (scopeOf lvModule 0) else s
  s.forN 16 (fun s u => s.startCal u true)

/-- In stage 1 it runs once PD2 and PD3 are ON (log 119). -/
def State.bootAt (s : State) (d : Nat) : State :=
  if s.boot.stage = 4 && (d = 2 || d = 3) && s.domainOn 2 && s.domainOn 3 then s.converterBoot else s

end Sys2Proof.Machine
end

