-- ==== Sys2Proof/Machine/PowerOps.lean ====
section
/-! DEFINITION. Power domains: holders, requests, entries, refusals and wakes (spec/20). -/

namespace Sys2Proof.Machine

/-! ## Domains (R42, R43, R541) -/

/-- No stage is running. -/
def State.noStage (s : State) : Bool := (List.range 14).all (fun st => !s.stageRuns st)

/-- Domains that a mode requires ON. -/
def State.requiredDomains (s : State) (m : Nat) : List Nat :=
  match m with
  | 0 => if s.noStage then [] else [0, 2, 3, 4, 6] ++ (if s.stageRuns 8 then [1] else [])
  | 1 => [0, 1, 2, 3, 5, 6, 7] ++ (if s.noStage then [] else [4])
  | _ => List.range 8

/-- The mode machine keeps PWR_MMREQ at the domains of its mode. -/
def State.refreshMmreq (s : State) : State :=
  s.setf Reg.PWR_MMREQ Fld.PWR_MMREQ_req ((s.requiredDomains s.modeNow).foldl (fun a d => a + 2 ^ d) 0)

/-! ## Holders (R540) -/

/-- The channel has been off for 20 µs. -/
def State.offLong (s : State) (o : Option Nat) : Bool := o.any (fun t => t + 8000 ≤ s.dtb)

/-- An enabled receive object on an awake port. -/
def State.portReceives (s : State) (p : Nat) : Bool :=
  s.on (Reg.BUS_STAT p) Fld.BUS_STAT_awake && (List.range 1024).any (fun k => s.on (Reg.RXO_CFG p k) Fld.RXO_CFG_en)

/-- A signature check runs. -/
def State.verifying (s : State) : Bool := s.on Reg.SEC_VST Fld.SEC_VST_busy || s.on Reg.SEC_DBGST Fld.SEC_DBGST_busy

/-- Martingale is in STO. -/
def State.inSto (s : State) : Bool := s.on Reg.MG_STAT Fld.MG_STAT_sto || (s.fstate 0 = 2 && s.fstate 1 = 2)

/-- Units that refuse domain `d` now. -/
def State.holders (s : State) (d : Nat) : List Nat :=
  let when := fun (b : Bool) (u : Nat) => if b then [u] else []
  let laws := (List.range 12).flatMap (fun e => when ((List.range 4).any (fun l => s.lawOn e l)) (0x20 + e))
  let units := (List.range 16).flatMap (fun u => when (s.on (Reg.ADC_CTRL u) Fld.ADC_CTRL_en) (0x60 + u))
  when (bit (s.fld Reg.PWR_MMREQ Fld.PWR_MMREQ_req) d) 1 ++
  match d with
  | 0 => when (s.domainNow 1 = 0) 0x13
  | 1 => when (!s.bridle.fwqA.isEmpty) 0x78
  | 2 => (List.range 40).flatMap (fun g => when (s.on (Reg.PWM_CTRL g) Fld.PWM_CTRL_en) (0x30 + g)) ++ laws
  | 3 => units ++ (List.range 16).flatMap (fun u => when (s.auAt u).calDue.isSome (0x60 + u)) ++
      when (s.on (Reg.RES_CTRL 0) Fld.RES_CTRL_en || s.on (Reg.ENC_CTRL 0) Fld.ENC_CTRL_en) 0x63 ++
      when (s.on (Reg.RES_CTRL 1) Fld.RES_CTRL_en || s.on (Reg.ENC_CTRL 1) Fld.ENC_CTRL_en) 0x67 ++
      when (s.on Reg.TH_CTRL Fld.TH_CTRL_en) 0x7C
  | 4 => (List.range 34).flatMap (fun n => when (!s.offLong (s.hvAt n).offSince) (0x80 + n)) ++
      (List.range 29).flatMap (fun m => when (!s.offLong (s.lvAt m).offSince) (0xC0 + m)) ++ when (!s.inSto) 0x7A
  | 5 => when (s.bridle.slots.any (·.isSome)) 0x78 ++
      (List.range 4).flatMap (fun p => when (s.on (Reg.BUS_STAT p) Fld.BUS_STAT_awake) (0x70 + p))
  | 6 => laws ++ units ++ (List.range 4).flatMap (fun p => when (s.portReceives p) (0x70 + p)) ++
      when (s.on Reg.PRC_CTRL Fld.PRC_CTRL_en) 0x7B ++ when (s.bridle.slots.any (fun x => x.any (fun x => !x.writes.isEmpty))) 0x78
  | 7 => when (s.nvmBusy || s.verifying) 0x79 ++ when (s.on Reg.TH_STAT Fld.TH_STAT_nvm_pend) 0x7C
  | _ => []

/-- PWR_HOLD: domains with a holder active now. -/
def State.holdMask (s : State) : Nat :=
  (List.range 8).foldl (fun m d => if (s.holders d).isEmpty then m else m + 2 ^ d) 0

/-! ## Entry (R542) -/

/-- What leaving ON does (R473, R548, R580): the WAKE output ends with PD0, every generator command and every gate goes off
with PD2 and PD4, and the sessions close with PD5. -/
def State.leaveDomain (s : State) (d : Nat) : State :=
  match d with
  | 0 => s.releaseWake
  | 2 => s.forN 40 (fun s g => s.bothOff g)
  | 4 => s.gatesOff
  | 5 => s.leaveComm
  | _ => s

/-- What the return to ON gives back: the safe patterns of tripped generators, and the commands of the channels. -/
def State.enterDomain (s : State) (d : Nat) : State :=
  match d with
  | 2 => s.forN 40 (fun s g => if s.safeHeld g then s.applyPattern g s.taps else s)
  | 4 => s.gatesOn
  | _ => s

/-- One step of an entry starts. -/
def State.entryStep (s : State) (l : List (Nat × Nat)) : State :=
  s.each l (fun s r =>
    let a := s.domainNow r.1
    (s.startTrans r.1 r.2 (s.dtb + s.realTime (transTime a r.2)) false).setDomain r.1 3)

/-- The next step of an entry once the step before it is complete; after the last one the entry is complete. -/
def State.entryAdvance (s : State) : State :=
  if s.power.entry.isNone || s.power.trans.any (fun x => x.to_ ≠ 0) then s
  else
    match s.power.later with
    | l :: ls => (s.modPower (fun p => { p with later := ls })).entryStep l
    | [] =>
      let s := (s.modPower (fun p => { p with entry := none })).setf Reg.PWR_STAT Fld.PWR_STAT_res 0
      let s := s.powerMirror
      if s.domain 0 ≠ 2 then s
      else
        let off := (List.range 8).all (fun d => s.domain d = 2) && s.on Reg.KPR_SHIP Fld.KPR_SHIP_arm
        { s.modBoot (fun b => { b with stage := 0, wakeNext := true }) with
          keeper := { s.keeper with offAt := if off then some s.rtc else none } }

/-- A request of team `t` is refused as a whole (R544). -/
def State.entryRefuse (s : State) (t : Nat) (refs : List (Nat × List Nat)) : State :=
  let s := (s.modPower (fun p => { p with want := p.want.set t [] })).leaveWfi t
  let s := s.each refs (fun s r => s.inc (Reg.PWR_CNT_REF r.1))
  let s := s.setf Reg.PWR_STAT Fld.PWR_STAT_res 1
  let low := (refs.map (·.1)).foldl min 7
  let us := (refs.filter (fun r => r.1 = low)).flatMap (·.2)
  (s.powerRecord (us.foldl min 0xFFFF) low 1).powerMirror

/-- The evaluation of a request of team `t` (R540-R544). -/
def State.tryEntry (s : State) (t : Nat) (req : List (Nat × Nat)) : State :=
  let s := if s.teamRuns 0 then s.refreshMmreq else s
  let req := req.filter (fun r => s.domainNow r.1 ≠ r.2)
  let refs := (req.map (fun r => (r.1, s.holders r.1))).filter (fun r => !r.2.isEmpty)
  if !refs.isEmpty then s.entryRefuse t refs
  else
    let s := s.modPower (fun p => { p with want := p.want.set t [] })
    let before := req.map (fun r => (r.1, r.2, s.domainNow r.1))
    let s := s.each before (fun s r => if r.2.2 = 0 then (s.leaveDomain r.1).setDomain r.1 3 else s)
    let steps := [req.filter (fun r => 1 < r.1), req.filter (fun r => r.1 = 1), req.filter (fun r => r.1 = 0)].filter
      (fun l => !l.isEmpty)
    (s.modPower (fun p => { p with entry := some (t, before), later := p.later ++ steps })).entryAdvance.powerMirror

/-- The evaluation at the WFI of a team's last core (R537). -/
def State.powerEvaluate (s : State) (t : Nat) : State :=
  let req := s.power.want.getD t []
  if req.isEmpty || !s.teamInWfi t then s else s.tryEntry t req

/-! ## Requests (R536-R539) -/

/-- Fields that a team may write. -/
def State.mayRequest (s : State) (t : Nat) (r : Nat × Nat) : Bool :=
  if t = 0 then r.1 ≠ 1 || (r.2 = 0 && s.domainNow 1 ≠ 0) || (r.2 = 2 && s.fld (Reg.HARN_STAT 1) Fld.HARN_STAT_mode = 0)
  else r.1 = 1 && r.2 ≠ 0

/-- R538 for the states that the team's request and the present states of the other domains give. -/
def State.requestInvalid (s : State) (next : Nat → Nat) (ok : List (Nat × Nat)) : Bool :=
  (next 1 = 0 && next 0 ≠ 0) || (next 0 ≠ 0 && [1, 2, 3, 4, 5, 6, 7].any (fun d => next d = 0)) ||
    ((next 6 = 2 || next 7 = 2) && next 0 ≠ 2) || ok.any (fun r => r.2 = 1 && s.domainNow r.1 = 2)

def State.powerRequest (s : State) (t : Nat) (v : Word) : State :=
  let cur := fun d => s.fld Reg.PWR_REQ ⟨2 * d, 2⟩
  let asked := (List.range 8).filterMap (fun d =>
    let f := Word.get v ⟨2 * d, 2⟩
    if f = 3 || f = cur d then none else some (d, f))
  let ok := asked.filter (s.mayRequest t)
  let s := if ok.length = asked.length then s else s.setf Reg.PWR_STAT Fld.PWR_STAT_cfg_err 1
  let mine := s.power.want.getD t []
  let next := fun d => (((ok ++ mine).find? (fun r => r.1 = d)).map (·.2)).getD (s.domainNow d)
  if ok.isEmpty then s
  else if s.requestInvalid next ok then
    (s.setf Reg.PWR_STAT Fld.PWR_STAT_cfg_err 1).setf Reg.PWR_STAT Fld.PWR_STAT_res 3
  else
    let kept := ((s.power.want.getD t []).filter (fun w => ok.all (fun r => r.1 ≠ w.1)))
    let low := ok.filter (fun r => r.2 ≠ 0 && r.2 ≠ s.domainNow r.1 && !(t = 0 && r.1 = 1))
    let s := s.modPower (fun p => { p with want := p.want.set t (kept ++ low) })
    let s := s.raise ((ok.filter (fun r => r.2 = 0)).map (·.1))
    let s := if t = 0 && ok.contains (1, 2) then
        let w := s.power.want.getD 0 []
        (s.tryEntry 0 [(1, 2)]).modPower (fun p => { p with want := p.want.set 0 w })
      else s
    s.powerMirror

/-! ## Completions (R542, R543, R547, R549) -/

/-- A domain is ON: DTB resumes at a 1 ms boundary with PD0 (R547), a team leaves WFI, and the raises that waited for it
begin. -/
def State.domainUp (s : State) (d : Nat) : State :=
  let s := s.setDomain d 0
  let s := if d = 0 then
      let t := s.dtbResumed
      let δ : Int := (t : Int) - s.dtb
      (s.setDtb t).modPower (fun p => { p with trans := p.trans.map (fun x => { x with due := (x.due + δ).toNat }) })
    else s
  let s := if d < 2 then s.leaveWfi d else s
  let s := s.each (s.power.trans.filter (fun x => x.to_ = 0)) (fun s x => s.setDomain x.dom 3)
  (s.powerMirror.enterDomain d).bootAt d

def State.transitionDone (s : State) (x : Trans) : State :=
  let s := (s.reach x.due).modPower (fun p => { p with trans := p.trans.filter (fun y => y.dom ≠ x.dom) })
  if x.to_ ≠ 0 then ((s.setDomain x.dom x.to_).powerMirror).entryAdvance
  else if x.off then s.modPower (fun p => { p with reinit := p.reinit ++ [(x.dom, s.dtb + s.realTime (reinitTime x.dom))] })
  else s.domainUp x.dom

/-- PD4 DRIVE has come from OFF to ON: the LV channels are in RUN (R224), and with DRV_EN high the start sequence acts as on
a rising edge with its clear flag set (R253). -/
def State.driveUp (s : State) : State :=
  let s := s.lvChannelsRun
  if s.gate.drvEn then
    let s := s.modGate (fun g => { g with drvSince := none })
    ((s.setf Reg.GDC_STAT Fld.GDC_STAT_drv_en 1).setf Reg.GDC_STAT Fld.GDC_STAT_seq 1).setf Reg.GDC_STAT Fld.GDC_STAT_clr 1
  else s

def State.reinitDone (s : State) (d t : Nat) : State :=
  let s := (s.reach t).modPower (fun p => { p with reinit := p.reinit.filter (fun r => r.1 ≠ d) })
  let s := s.resetDomain d true
  (if d = 4 then s.driveUp else s).domainUp d

/-! ## Wakes (R545, R546) -/

/-- A keeper wake source: it aborts an entry, raises PD0, or starts the module again when PD0 is OFF. -/
def State.keeperWake (s : State) (unit : Nat) : State :=
  match s.power.entry with
  | some (t, req) => (s.abortEntry unit t req).setf Reg.KPR_SHIP Fld.KPR_SHIP_arm 0
  | none =>
    if s.boot.stage = 0 then
      if !s.boot.wakeNext then s
      else
        let open_ := !s.on Reg.KPR_BSTAT Fld.KPR_BSTAT_closed
        let s := s.setf Reg.KPR_SHIP Fld.KPR_SHIP_arm 0
        let s : State := { s with keeper := { s.keeper with offAt := none, waker := unit } }
        if open_ then (s.setf Reg.KPR_BSTAT Fld.KPR_BSTAT_closed 1).setf Reg.KPR_BSTAT Fld.KPR_BSTAT_ship 0
        else s.sequencerStart false true
    else if s.domainNow 0 = 0 then s
    else (s.raise [0]).powerRecord unit 0 3

/-- A wake by port `p` through its dominant phase: PD5 alone (R532, R546). -/
def State.portWake (s : State) (p : Nat) : State :=
  match s.power.entry with
  | some (t, req) => s.abortEntry (0x70 + p) t req
  | none => if s.domainNow 5 = 0 then s else (s.raise [5]).powerRecord (0x70 + p) 5 3

end Sys2Proof.Machine
end

