-- ==== Sys2Proof/Machine/ClockOps.lean ====
section
/-! DEFINITION. The clock-control block: the reference-loss sequence, divider ramps, gating (spec/19). -/

namespace Sys2Proof.Machine

def State.modClk (s : State) (f : ClockSt → ClockSt) : State := { s with clk := f s.clk }
def State.clkSeq (s : State) : Nat := s.fld Reg.CLK_STAT Fld.CLK_STAT_seq
def State.clkScale (s : State) : Nat := s.fld Reg.CLK_STAT Fld.CLK_STAT_scale
def State.setClkSeq (s : State) (v : Nat) : State := s.setf Reg.CLK_STAT Fld.CLK_STAT_seq v
def State.setScale (s : State) (v : Nat) : State := s.keepRtc (fun s => s.setf Reg.CLK_STAT Fld.CLK_STAT_scale v)
def State.clkErr (s : State) : State := s.setf Reg.CLK_STAT Fld.CLK_STAT_cfg_err 1

/-- Codes of CLK_STAT.seq. -/
def sqIdle : Nat := 0
def sqDown : Nat := 1
def sqRelock : Nat := 2
def sqUp : Nat := 3

/-- Field that asks for the divider of clock `i`. -/
def divField (i : Nat) : Nat × Field :=
  match i with
  | 0 => (Reg.CLK_DIV0, Fld.CLK_DIV0_cpu)
  | 1 => (Reg.CLK_DIV0, Fld.CLK_DIV0_sys)
  | 2 => (Reg.CLK_DIV0, Fld.CLK_DIV0_ctl)
  | 3 => (Reg.CLK_DIV1, Fld.CLK_DIV1_per)
  | 4 => (Reg.CLK_DIV1, Fld.CLK_DIV1_adc)
  | _ => (Reg.CLK_DIV1, Fld.CLK_DIV1_bus)

def State.divWanted (s : State) (i : Nat) : Nat := s.fld (divField i).1 (divField i).2

/-- 256 output cycles of clock `i` in CLK_CTL cycles. -/
def State.rampStep (s : State) (i : Nat) : Nat :=
  let c := s.divNow 2
  (256 * s.divNow i + c - 1) / c

/-- The sequence of R526 goes down: s = 1.5, and the ramps of R524 stop (R533). -/
def State.rampDown (s : State) (back : Bool) : State :=
  ((s.setClkSeq sqDown).setScale 1).modClk (fun c => { c with
    due := some (s.dtb + 256), back := back, ramp := List.replicate 6 none })

/-- A reference loss while the PLL runs on the reference (R526, R527). -/
def State.referenceLost (s : State) : State :=
  let a := Reg.CLK_STAT
  let s := ((s.setf a Fld.CLK_STAT_refloss 1).setf a Fld.CLK_STAT_loss_seen 1).inc Reg.CLK_CNT_LOSS
  let s := (s.wr Reg.CLK_LOSST s.dtbLow).rampDown false
  (s.report 5 0xA001).sourceOn 5 0xA001

/-- A port performs bus integration (R444). -/
def State.integrate (s : State) (p : Nat) : State := s.setf (Reg.BUS_STAT p) Fld.BUS_STAT_integ 1

/-- An enabled, awake port. -/
def State.portOn (s : State) (p : Nat) : Bool :=
  s.on (Reg.BUS_CTRL p) Fld.BUS_CTRL_en && s.on (Reg.BUS_STAT p) Fld.BUS_STAT_awake && s.domainOn 5

/-- The sequence ends at s = 1: each port performs bus integration; a return ends the loss (R527, R529). -/
def State.rampEnd (s : State) : State :=
  let back := s.clk.back
  let s := ((s.setClkSeq sqIdle).setScale 0).modClk (fun c => { c with due := none })
  let s := s.setf Reg.CLK_STAT Fld.CLK_STAT_src (if back then 0 else 1)
  let s := if back then (s.setf Reg.CLK_STAT Fld.CLK_STAT_refloss 0).sourceOff 5 0xA001 else s
  s.forN 4 (fun s p => if s.portOn p then s.integrate p else s)

/-- The end of 256 cycles at a scale. RELOCK lasts at most 400 µs at s = 2. -/
def State.scaleStep (s : State) : State :=
  let next := fun (s : State) => s.modClk (fun c => { c with due := some (s.dtb + 256) })
  if s.clkSeq = sqDown then
    if s.clkScale = 1 then next (s.setScale 2)
    else ((s.setClkSeq sqRelock).setf Reg.CLK_STAT Fld.CLK_STAT_lock 0).modClk (fun c => { c with
      due := some (s.dtb + 320000 / max 1 (s.divNow 2)) })
  else if s.clkSeq = sqUp then (if s.clkScale = 2 then next (s.setScale 1) else s.rampEnd)
  else s

/-- A change that R523 refuses. -/
def State.dividerRefused (s : State) (second : Bool) (v : Word) : Bool :=
  let a := if second then Reg.CLK_DIV1 else Reg.CLK_DIV0
  let new := match regAt a with
    | some (r, _) => writeWord r s.locked (s.rd a) v
    | none => s.rd a
  let moves := fun i => (divField i).1 = a && Word.get new (divField i).2 ≠ s.divWanted i
  s.clkSeq ≠ sqIdle ||
    ([1, 2, 4].any moves && (List.range 40).any (fun g => s.on (Reg.PWM_CTRL g) Fld.PWM_CTRL_en)) ||
    (moves 5 && (List.range 4).any (fun p => s.on (Reg.BUS_CTRL p) Fld.BUS_CTRL_en)) ||
    (moves 3 && (s.nvmBusy || s.verifying))

/-- Ramps begin for the clocks whose divider in force is not the one asked for and that do not ramp yet. -/
def State.startRamps (s : State) : State :=
  s.forN 6 (fun s i =>
    if s.divNow i = s.divWanted i || (s.clk.ramp.getD i none).isSome then s
    else s.modClk (fun c => { c with ramp := c.ramp.set i (some (s.dtb + s.rampStep i)) }))

/-- Consumer `k` has its clock (spec/19 Gating); a held team counts as in WFI. -/
def State.clocked (s : State) (k : Nat) : Bool :=
  let a := Reg.CLK_GATE k
  let t := s.fld a Fld.CLK_GATE_team
  if s.teamInWfi t then s.on a Fld.CLK_GATE_sleep else s.on a Fld.CLK_GATE_run

/-- Crypto, key store and NVM controller work: PD7 is ON and has its clock (R530, R548). -/
def State.secRuns (s : State) : Bool := s.domainOn 7 && s.clocked 10

/-- A consumer that holds its domain (R531). -/
def State.gateHeld (s : State) (k : Nat) : Bool :=
  match k with
  | 7 => (List.range 4).any (fun p => s.on (Reg.BUS_STAT p) Fld.BUS_STAT_awake)
  | 8 => s.bridle.slots.any (·.isSome)
  | 10 => s.nvmBusy || s.verifying
  | _ => false

end Sys2Proof.Machine
end

