-- ==== Sys2Proof/Machine/BusOps.lean ====
section
/-! DEFINITION. Message-bus ports: bit timing, receive objects and frame maps, transmit objects, error states, supervisors
and sleep (spec/15). -/

namespace Sys2Proof.Machine

/-! ## Ports -/

def State.busErr (s : State) (p : Nat) : State := s.setf (Reg.BUS_STAT p) Fld.BUS_STAT_cfg_err 1
def State.busMode (s : State) (p : Nat) : Nat := s.fld (Reg.BUS_CTRL p) Fld.BUS_CTRL_mode

/-- The port takes part in frames: enabled, awake, clocked, integrated, not bus-off and its clock not scaled (R444, R456,
R458, R527). -/
def State.portLive (s : State) (p : Nat) : Bool :=
  s.portOn p && s.clocked 7 && !s.on (Reg.BUS_STAT p) Fld.BUS_STAT_integ && !s.on (Reg.BUS_STAT p) Fld.BUS_STAT_boff &&
    s.clkScale = 0

/-- A core reaches the port's registers (R53, R531). -/
def State.portAccess (s : State) (core : Nat) (f : State → State) : State :=
  s.access core (s.domainOn 5 && s.clocked 7) f

/-- CLK_BUS cycles of a nominal and of a data-phase bit (R441). -/
def State.nomBit (s : State) (p : Nat) : Nat :=
  let a := Reg.BUS_NBT p
  s.fld a Fld.BUS_NBT_brp * (1 + s.fld a Fld.BUS_NBT_tseg1 + s.fld a Fld.BUS_NBT_tseg2)
def State.dataBit (s : State) (p : Nat) : Nat :=
  let a := Reg.BUS_DBT p
  s.fld a Fld.BUS_DBT_brp * (1 + s.fld a Fld.BUS_DBT_tseg1 + s.fld a Fld.BUS_DBT_tseg2)

/-- The rates and the rules of R441 and R443. The data phase counts while the port accepts FD or XL frames (log 35). -/
def State.timingOk (s : State) (p : Nat) : Bool :=
  let n := Reg.BUS_NBT p
  let d := Reg.BUS_DBT p
  let fd := s.on (Reg.BUS_CTRL p) Fld.BUS_CTRL_fd
  let xl := s.on (Reg.BUS_CTRL p) Fld.BUS_CTRL_xl
  let nb := s.nomBit p
  let db := s.dataBit p
  let tdc := s.on (Reg.BUS_TDC p) Fld.BUS_TDC_en
  80 ≤ nb && nb ≤ 640 && 2 ≤ s.fld n Fld.BUS_NBT_tseg1 && 1 ≤ s.fld n Fld.BUS_NBT_tseg2 &&
    1 ≤ s.fld n Fld.BUS_NBT_sjw && s.fld n Fld.BUS_NBT_sjw ≤ s.fld n Fld.BUS_NBT_tseg2 &&
    (!(fd || xl) ||
      (1 ≤ db && 8 ≤ 1 + s.fld d Fld.BUS_DBT_tseg1 + s.fld d Fld.BUS_DBT_tseg2 && 1 ≤ s.fld d Fld.BUS_DBT_tseg1 &&
        1 ≤ s.fld d Fld.BUS_DBT_tseg2 && 1 ≤ s.fld d Fld.BUS_DBT_sjw &&
        s.fld d Fld.BUS_DBT_sjw ≤ s.fld d Fld.BUS_DBT_tseg2)) &&
    (!fd || (10 ≤ db && (80 ≤ db || tdc))) && (!xl || (8 ≤ db && tdc && p < 2))

/-- Supervisors of the port measure from now, but for those that have reported a loss (R457). -/
def State.watchFrom (s : State) (p : Nat) : State :=
  s.modBus p (fun b => { b with watch := b.watch.map (fun (w : Option Nat) => w.map (fun _ => s.dtb)) })

/-- A write of BUS_CTRL with en = 1 to a port that is not enabled (R441-R444), judged with the fields of the word; one that is
refused changes nothing else. -/
def State.busEnable (s : State) (p : Nat) (v : Word) : State :=
  let a := Reg.BUS_CTRL p
  let t := s.wrReg a (Word.put v Fld.BUS_CTRL_en 0)
  if !t.timingOk p then s.busErr p
  else
    let s := t.setf a Fld.BUS_CTRL_en 1
    let s := s.setb (Reg.BUS_STAT p) Fld.BUS_STAT_tsmp_off (s.on (Reg.BUS_NBT p) Fld.BUS_NBT_tsmp && s.nomBit p < 320)
    (s.integrate p).watchFrom p

/-! ## Error states (R456, ISO 11898-1) -/

def State.busTec (s : State) (p : Nat) : Nat := s.fld (Reg.BUS_ERR p) Fld.BUS_ERR_tec
def State.busRec (s : State) (p : Nat) : Nat := s.fld (Reg.BUS_ERR p) Fld.BUS_ERR_rec

def State.setErrors (s : State) (p tec rc : Nat) : State :=
  let s := (s.setf (Reg.BUS_ERR p) Fld.BUS_ERR_tec tec).setf (Reg.BUS_ERR p) Fld.BUS_ERR_rec rc
  s.setb (Reg.BUS_STAT p) Fld.BUS_STAT_epass (128 ≤ tec || 128 ≤ rc)

/-- Bus-off; with abo = 1 the recovery counts at once. -/
def State.busOff (s : State) (p : Nat) : State :=
  let s := (s.setf (Reg.BUS_STAT p) Fld.BUS_STAT_boff 1).inc (Reg.BUS_CNT_BOFF p)
  s.modBus p (fun b => { b with counting := s.on (Reg.BUS_CTRL p) Fld.BUS_CTRL_abo })

/-- An error while the port transmits. -/
def State.txError (s : State) (p : Nat) : State :=
  let tec := s.busTec p + 8
  let s := s.setErrors p (min tec 511) (s.busRec p)
  if 255 < tec then s.busOff p else s

/-- An error while the port receives. -/
def State.rxError (s : State) (p n : Nat) : State := s.setErrors p (s.busTec p) (min 255 (s.busRec p + n))

/-- A frame was received without error: a counter above 127 takes a value from 119 to 127. -/
def State.rxGood (s : State) (p : Nat) : State :=
  let n := s.busRec p
  if n = 0 then s
  else if n ≤ 127 then s.setErrors p (s.busTec p) (n - 1)
  else
    let (w, s) := s.drawWord
    s.setErrors p (s.busTec p) (119 + w.toNat % 9)

/-! ## Sleep (R458) -/

def State.busSleepNow (s : State) (p : Nat) : State :=
  (s.setf (Reg.BUS_STAT p) Fld.BUS_STAT_awake 0).modBus p (fun b => { b with sleepWait := false })

/-- A frame on the bus has ended: a port whose sleep waited for it sleeps. -/
def State.frameEnd (s : State) (p : Nat) : State := if (s.busAt p).sleepWait then s.busSleepNow p else s

/-- A port wakes. -/
def State.busWake (s : State) (p : Nat) : State :=
  if s.on (Reg.BUS_STAT p) Fld.BUS_STAT_awake then s.modBus p (fun b => { b with sleepWait := false })
  else
    let s := s.setf (Reg.BUS_STAT p) Fld.BUS_STAT_awake 1
    let s := if s.on (Reg.BUS_CTRL p) Fld.BUS_CTRL_en then s.integrate p else s
    ((s.modBus p (fun b => { b with sleepWait := false })).watchFrom p).irq (84 + p)

/-- A frame that the port treats as a protocol exception (R440). -/
def State.protocolException (s : State) (p : Nat) : State :=
  let s := s.setf (Reg.BUS_STAT p) Fld.BUS_STAT_pex 1
  let s := if s.on (Reg.BUS_CTRL p) Fld.BUS_CTRL_pxhd then s.rxError p 1 else (s.integrate p).inc (Reg.BUS_CNT_PEX p)
  s.frameEnd p

/-! ## Frame maps (R450-R453) -/

/-- Places of a field's bits from its least significant one; a big-endian field may run beyond byte 0. -/
def fieldPlaces (big : Bool) : Option Nat → Nat → List (Option Nat)
  | _, 0 => []
  | none, n + 1 => none :: fieldPlaces big none n
  | some i, n + 1 =>
    let next := if !big || i % 8 ≠ 7 then some (i + 1) else if i / 8 = 0 then none else some ((i / 8 - 1) * 8)
    some i :: fieldPlaces big next n

/-- Bit `i` of a data field. -/
def dataBitAt (data : List Byte) (i : Nat) : Bool := bit (data.getD (i / 8) 0).toNat (i % 8)

/-- The field of a frame; a bit outside the frame has the value of the same bit of `free`. -/
def rawField (data : List Byte) (free : Word) : Nat → List (Option Nat) → Nat
  | _, [] => 0
  | k, o :: os =>
    (if (match o with | some i => dataBitAt data i | none => bit free.toNat k) then 2 ^ k else 0) + rawField data free (k + 1) os

def setDataBit (data : List Byte) (i : Nat) (b : Bool) : List Byte :=
  data.modify (i / 8) (fun x => BitVec.ofNat 8 (x.toNat - (if bit x.toNat (i % 8) then 2 ^ (i % 8) else 0) + (if b then 2 ^ (i % 8) else 0)))

/-- A field laid into a frame. -/
def layField (data : List Byte) (v : Nat) : Nat → List (Option Nat) → List Byte
  | _, [] => data
  | k, o :: os => layField (match o with | some i => setDataBit data i (bit v k) | none => data) v (k + 1) os

def State.mapSig (s : State) (p e : Nat) : Nat := s.fld (Reg.MAP p e 0) Fld.MAP_sig
def State.mapPos (s : State) (p e : Nat) : Nat := s.fld (Reg.MAP p e 0) Fld.MAP_pos
def State.mapLen (s : State) (p e : Nat) : Nat := s.fld (Reg.MAP p e 1) Fld.MAP1_len + 1
def State.mapOn (s : State) (p e : Nat) (f : Field) : Bool := s.on (Reg.MAP p e 1) f
def State.mapShl (s : State) (p e : Nat) : Nat := s.fld (Reg.MAP p e 1) Fld.MAP1_shl
def State.mapPlaces (s : State) (p e : Nat) : List (Option Nat) :=
  fieldPlaces (s.mapOn p e Fld.MAP1_order) (some (s.mapPos p e)) (s.mapLen p e)

/-- Value of an unpacked field for a signal with descriptor `d` (R450). -/
def unpackValue (d : DWord) (len shl : Nat) (sgn : Bool) (raw : Nat) : Word :=
  let x : Int := (if sgn then sx len raw else (raw : Int)) * (2 ^ shl : Nat)
  if dType d = 0 then Wi (sat16 x) else if dType d = 5 then (if raw ≠ 0 then 1 else 0) else Wi x

/-- One entry of an object's map: a Paddock write as a bus object, or a frame too short for it (R450, R451). -/
def State.unpackEntry (s : State) (p k e : Nat) (data : List Byte) (lost : Bool) : State :=
  let len := s.mapLen p e
  if 8 * data.length < s.mapPos p e + len then
    (s.setf (Reg.RXO_STAT p k) Fld.RXO_STAT_short 1).inc (Reg.BUS_CNT_SHORT p)
  else
    let places := s.mapPlaces p e
    let (w, s) := if places.contains none then s.drawWord else (0, s)
    let raw := rawField data w 0 places
    let q := if s.mapOn p e Fld.MAP1_inv && raw = 2 ^ len - 1 then qInvalid else qValid
    let v := unpackValue (s.desc (s.mapSig p e)) len (s.mapShl p e) (s.mapOn p e Fld.MAP1_sgn) raw
    s.bankAsk (s.mapSig p e) s.dtb (.bus p k v q lost)

/-- Accesses of an object's unpacking that wait for their banks. -/
def State.unpacking (s : State) (p k : Nat) : Bool :=
  s.paddock.waiting.any (fun a => match a.kind with
    | .bus p' k' _ _ _ => p' = p && k' = k
    | _ => false)

/-- The map of object `k` has been unpacked: with cons = 0 its flag clears (R448). -/
def State.unpacked (s : State) (p k : Nat) : State :=
  if s.unpacking p k || s.on (Reg.RXO_CFG p k) Fld.RXO_CFG_cons then s else s.setf (Reg.RXO_STAT p k) Fld.RXO_STAT_new 0

/-! ## Receive objects (R445-R449, R457) -/

/-- Enabled receive objects of a port: a register that is not listed has its reset value, which enables none. -/
def State.rxObjects (s : State) (p : Nat) : List Nat :=
  let lo := Reg.RXO_CFG p 0
  (s.regs.filter (fun r => lo ≤ r.1 && r.1 < lo + 0x2000 && (r.1 - lo) % 8 = 0 && Word.get r.2 Fld.RXO_CFG_en = 1)).map
    (fun r => (r.1 - lo) / 8)

/-- Object `k` matches a frame; an XL object by its priority identifier alone. -/
def State.rxMatches (s : State) (p k : Nat) (f : Frame) : Bool :=
  let a := Reg.RXO_CFG p k
  let fmt := s.fld a Fld.RXO_CFG_fmt
  (fmt = f.fmt || (fmt = 3 && f.fmt < 2)) && (f.fmt = 2 || s.on a Fld.RXO_CFG_ide = f.ide) &&
    s.fld (Reg.RXO_ID p k) Fld.RXO_ID_id = f.id

/-- Bytes that object `k` stores. -/
def State.rxStore (s : State) (p k : Nat) : Nat :=
  let a := Reg.RXO_CFG p k
  if s.fld a Fld.RXO_CFG_fmt = 2 then 64 * (s.fld a Fld.RXO_CFG_xlen + 1) else 64

/-- A supervisor of any port holds its source. -/
def State.anyLoss (s : State) : Bool := s.bus.any (fun b => b.watch.any (fun w => w.isNone))

/-- Object `k` has taken a frame: its supervisors start over, and the source ends with the last loss. -/
def State.watchTaken (s : State) (p k : Nat) : State :=
  let was := s.anyLoss
  let s := s.forN 16 (fun s i =>
    if s.fld (Reg.BUS_SUP p i) Fld.BUS_SUP_obj = k then s.modBus p (fun b => { b with watch := b.watch.set i (some s.dtb) }) else s)
  if was && !s.anyLoss then s.sourceOff 11 (scopeOf lvNetwork 0) else s

/-- Object `k` takes a frame and unpacks it entry by entry. -/
def State.takeFrame (s : State) (p k : Nat) (f : Frame) : State :=
  let a := Reg.RXO_STAT p k
  let lost := s.on a Fld.RXO_STAT_new
  let n := sparseGet (fun _ => 0) (s.busAt p).count k + 1
  let s := s.modBus p (fun b => { b with
    rx := sparseInsert b.rx k { frame := f, dtb := s.dtb, seq := n }, count := sparseSet (fun _ => 0) b.count k n })
  let s := (s.setf a Fld.RXO_STAT_new 1).watchTaken p k
  let s := if lost then (s.setf a Fld.RXO_STAT_lost 1).inc (Reg.BUS_CNT_LOST p) else s
  let c := Reg.RXO_CFG p k
  let es := (List.range (s.fld c Fld.RXO_CFG_cnt)).map (· + s.fld c Fld.RXO_CFG_first)
  (s.each es (fun s e => s.unpackEntry p k e f.data lost)).unpacked p k

/-- The identifier is the port's Bridle request identifier. Requests come in FD or XL frames (R463). -/
def State.bridleRequest (s : State) (p : Nat) (f : Frame) : Bool :=
  let a := Reg.BUS_BRQ p
  s.on a Fld.BUS_BRQ_en && f.fmt ≠ 0 && s.fld a Fld.BUS_BRQ_id = f.id && (f.fmt = 2 || s.on a Fld.BUS_BRQ_ide = f.ide)

/-- The frame reaches a receive object, or is dropped and counted. -/
def State.receiveObject (s : State) (p : Nat) (f : Frame) : State :=
  match (s.rxObjects p).find? (fun k => s.rxMatches p k f) with
  | some k => if f.fmt = 2 && s.rxStore p k < f.data.length then s.inc (Reg.BUS_CNT_TOOLONG p) else s.takeFrame p k f
  | none => s.inc (Reg.BUS_CNT_NOMATCH p)

/-- Data lengths of a format: classical up to 8 bytes, FD by its length codes, XL 1 to 2,048 bytes. -/
def frameLengthOk (f : Frame) : Bool :=
  match f.fmt with
  | 0 => f.data.length ≤ 8
  | 1 => fdLengths.contains f.data.length
  | 2 => 1 ≤ f.data.length && f.data.length ≤ 2048
  | _ => false

/-- The port accepts the frame's format. -/
def State.formatOn (s : State) (p : Nat) (f : Frame) : Bool :=
  match f.fmt with
  | 0 => true
  | 1 => s.on (Reg.BUS_CTRL p) Fld.BUS_CTRL_fd
  | _ => s.on (Reg.BUS_CTRL p) Fld.BUS_CTRL_xl

/-! ### Enable checks (R446, R447, R452) -/

/-- Bits of the largest data field of an object. -/
def State.rxBits (s : State) (p k : Nat) : Nat :=
  let a := Reg.RXO_CFG p k
  match s.fld a Fld.RXO_CFG_fmt with
  | 0 => 64
  | 2 => 512 * (s.fld a Fld.RXO_CFG_xlen + 1)
  | _ => 512

def State.rxMapOk (s : State) (p k : Nat) : Bool :=
  let c := Reg.RXO_CFG p k
  let n := s.fld c Fld.RXO_CFG_cnt
  let first := s.fld c Fld.RXO_CFG_first
  n ≤ 64 && first + n ≤ 2048 && ((List.range n).map (· + first)).all (fun e =>
    let d := s.desc (s.mapSig p e)
    dDefined d && dOclass d = 3 && dOindex d = 1024 * p + k && s.mapPos p e + s.mapLen p e ≤ s.rxBits p k)

/-- Format class of an object: classical and FD form one. -/
def State.rxClass (s : State) (p k : Nat) : Bool := s.fld (Reg.RXO_CFG p k) Fld.RXO_CFG_fmt = 2

/-- Objects whose buffers object `k` takes. -/
def State.rxTakes (s : State) (p k : Nat) : List Nat :=
  if s.rxClass p k then (List.range (s.fld (Reg.RXO_CFG p k) Fld.RXO_CFG_xlen)).map (· + k + 1) else []

/-- Object `k` may be enabled with the settings its registers hold. -/
def State.rxEnableOk (s : State) (p k : Nat) : Bool :=
  let c := Reg.RXO_CFG p k
  let others := (s.rxObjects p).filter (· ≠ k)
  let id := s.fld (Reg.RXO_ID p k) Fld.RXO_ID_id
  let ide := s.on c Fld.RXO_CFG_ide
  let brq := Reg.BUS_BRQ p
  others.all (fun j => !(s.rxClass p j = s.rxClass p k && s.on (Reg.RXO_CFG p j) Fld.RXO_CFG_ide = ide &&
      s.fld (Reg.RXO_ID p j) Fld.RXO_ID_id = id)) &&
    !(s.on brq Fld.BUS_BRQ_en && s.fld brq Fld.BUS_BRQ_id = id && s.on brq Fld.BUS_BRQ_ide = ide) && s.rxMapOk p k &&
    (s.rxTakes p k).all (fun j => j < 1024 && !others.contains j) && others.all (fun j => !(s.rxTakes p j).contains k)

/-- A write of RXO_CFG: an enable is checked with the fields of the word and, refused, leaves the object as it was (R68); an
enabled object takes en = 0 alone. -/
def State.rxCfgWrite (s : State) (p k : Nat) (v : Word) : State :=
  let a := Reg.RXO_CFG p k
  let en := Word.get v Fld.RXO_CFG_en = 1
  if s.on a Fld.RXO_CFG_en then (if en then s else s.setf a Fld.RXO_CFG_en 0)
  else
    let t := s.wrReg a (Word.put v Fld.RXO_CFG_en 0)
    if !en then t
    else if t.rxEnableOk p k then
      (t.setf a Fld.RXO_CFG_en 1).modBus p (fun b => { b with count := sparseErase b.count k })
    else s.busErr p

/-- A map entry is used by an enabled object (R452). -/
def State.mapUsed (s : State) (p e : Nat) : Bool :=
  let uses := fun (a : Nat) => s.on a Fld.RXO_CFG_en && s.fld a Fld.RXO_CFG_first ≤ e &&
    e < s.fld a Fld.RXO_CFG_first + s.fld a Fld.RXO_CFG_cnt
  (s.rxObjects p).any (fun k => uses (Reg.RXO_CFG p k)) || (List.range 64).any (fun j => uses (Reg.TXO_CFG p j))

/-! ## Transmit objects (R453-R455) -/

/-- Data bytes of a transmit object. -/
def State.txLength (s : State) (p j : Nat) : Nat :=
  let n := fdLengths.getD (s.fld (Reg.TXO_CFG p j) Fld.TXO_CFG_dlc) 64
  if s.fld (Reg.TXO_CFG p j) Fld.TXO_CFG_fmt = 0 then min n 8 else n

/-- A signal's value as a number of its type. -/
def State.typedNumber (s : State) (id : Nat) : Int :=
  let t := dType (s.desc id)
  if t = 0 then s.q15 id else if t = 1 || t = 3 then s.s32 id else (s.val id : Int)

/-- One entry packed into a frame (R453). -/
def State.packEntry (s : State) (p e : Nat) (data : List Byte) : State × List Byte :=
  let id := s.mapSig p e
  let len := s.mapLen p e
  let q := metaQuality (s.sig id).mword
  let places := s.mapPlaces p e
  if s.mapOn p e Fld.MAP1_inv && (q = qInit || q = qInvalid) then (s, layField data (2 ^ len - 1) 0 places)
  else
    let x := s.typedNumber id / (2 ^ s.mapShl p e : Nat)
    let sgn := s.mapOn p e Fld.MAP1_sgn
    let lo : Int := if sgn then -(2 ^ (len - 1) : Nat) else 0
    let hi : Int := if sgn then (2 ^ (len - 1) : Nat) - 1 else (2 ^ len : Nat) - 1
    let s := if x < lo || hi < x then s.inc (Reg.BUS_CNT_PACKSAT p) else s
    (s, layField data (ux len (sat lo hi x)) 0 places)

/-- The frame of transmit object `j` as it stands now. -/
def State.packFrame (s : State) (p j : Nat) : State × List Byte :=
  let c := Reg.TXO_CFG p j
  let n := s.txLength p j
  let cnt := s.fld c Fld.TXO_CFG_cnt
  if cnt = 0 then (s, ((List.range 16).flatMap (fun i => leBytes 4 (s.rd (Reg.TXO_DATA p j i)).toNat)).take n)
  else
    ((List.range cnt).map (· + s.fld c Fld.TXO_CFG_first)).foldl (fun (x : State × List Byte) e => x.1.packEntry p e x.2)
      (s, List.replicate n 0)

/-- Transmit object `j` becomes pending, or is repacked in place; a packing of this cycle serves both causes (R453, R460). -/
def State.txPend (s : State) (p j : Nat) : State :=
  match (s.busAt p).tx.find? (fun (x : TxPend) => x.obj = j) with
  | some x =>
    if x.packed = s.dtb then s
    else
      let (s, d) := s.packFrame p j
      let s := s.modBus p (fun b => { b with
        tx := b.tx.map (fun (y : TxPend) => if y.obj = j then { y with data := d, packed := s.dtb } else y) })
      (s.setf (Reg.TXO_STAT p j) Fld.TXO_STAT_late 1).inc (Reg.BUS_CNT_LATE p)
  | none =>
    let (s, d) := s.packFrame p j
    let tmax := s.fld (Reg.TXO_TIM p j) Fld.TXO_TIM_tmax
    let dl := if tmax = 0 then none else some (s.dtb + tmax * Config.msCycles)
    let s := s.modBus p (fun b => { b with
      tx := b.tx ++ [{ obj := j, data := d, since := s.dtb, packed := s.dtb, deadline := dl }] })
    s.setf (Reg.TXO_STAT p j) Fld.TXO_STAT_pend 1

/-- The next boundary, in ms after `m`, of a periodic object with the timing its register holds. -/
def State.txNextDue (s : State) (p j m : Nat) : Option Nat :=
  let per := s.fld (Reg.TXO_TIM p j) Fld.TXO_TIM_per
  let ph := s.fld (Reg.TXO_TIM p j) Fld.TXO_TIM_ph
  if per = 0 || per ≤ ph then none else some (m + 1 + (ph + per - (m + 1) % per) % per)

def State.txSchedule (s : State) (p j : Nat) : State :=
  let rest := (s.busAt p).due.filter (fun (x : Nat × Nat) => x.1 ≠ j)
  let new := if s.on (Reg.TXO_CFG p j) Fld.TXO_CFG_en && s.on (Reg.TXO_CFG p j) Fld.TXO_CFG_trig then
      (s.txNextDue p j s.ms).toList.map (fun m => (j, m)) else []
  s.modBus p (fun b => { b with due := rest ++ new })

/-- A write of TXO_TIM applies from the next period (R453); an object that had no period is due by the new one. -/
def State.txTiming (s : State) (p j : Nat) (v : Word) : State :=
  let s := s.wrReg (Reg.TXO_TIM p j) v
  if (s.busAt p).due.any (fun (x : Nat × Nat) => x.1 = j) then s else s.txSchedule p j

/-- The places of fault frames among the pending frames of a port begin here, after the objects and the replies (R40). -/
def faultObj : Nat := 1024

/-- Identifier and kind of a transmit object, of a fault frame, or of the Bridle replies (64 and up). -/
def State.txIdentifier (s : State) (p obj : Nat) : Nat × Bool :=
  if faultObj ≤ obj then (Config.faultFrame p).1
  else if obj < 64 then (s.fld (Reg.TXO_ID p obj) Fld.TXO_ID_id, s.on (Reg.TXO_CFG p obj) Fld.TXO_CFG_ide)
  else (s.fld (Reg.BUS_BRP p) Fld.BUS_BRP_id, s.on (Reg.BUS_BRP p) Fld.BUS_BRP_ide)

/-- ISO 11898-1 order of identifiers: the lower one wins, a base identifier before an extended one with the same first 11
bits. -/
def arbitration (x : Nat × Bool) : Nat := if x.2 then x.1 / 2 ^ 18 * 2 ^ 19 + 2 ^ 18 + x.1 % 2 ^ 18 else x.1 % 2 ^ 11 * 2 ^ 19

/-- Pending frames of a port: object, 64 and up for a reply, or a fault frame; since, deadline; in the order of offering. -/
def State.pendingFrames (s : State) (p : Nat) : List (Nat × Nat × Option Nat) :=
  (s.busAt p).tx.map (fun (x : TxPend) => (x.obj, x.since, x.deadline)) ++
    (s.busAt p).replies.zipIdx.map (fun (r : ReplyPend × Nat) => (64 + r.2, r.1.since, some r.1.deadline)) ++
    (s.busAt p).faults.zipIdx.map (fun (r : Nat × Nat) => (faultObj + r.2, r.1, none))

/-- The frame that the port offers when an attempt starts at `t` (R454, R455): the lowest identifier of the frames pending
then whose deadline less 100 µs lies ahead; the oldest of its replies. -/
def State.offered (s : State) (p t : Nat) : Option Nat :=
  let l := (s.pendingFrames p).filter (fun x => x.2.1 ≤ t && x.2.2.all (fun d => t + 40000 < d))
  (l.foldl (fun (b : Option Nat) x =>
    match b with
    | none => some x.1
    | some o => if arbitration (s.txIdentifier p x.1) < arbitration (s.txIdentifier p o) then some x.1 else b) none)

/-- The port sends frames: in normal operation and in loopback (log 36). -/
def State.portSends (s : State) (p : Nat) : Bool := s.portLive p && (s.busMode p = 0 || s.busMode p = 3)

/-- An attempt of frame `obj` that began at `start` ends now. -/
def State.attemptOf (s : State) (p obj start : Nat) : Bool :=
  s.portSends p && start ≤ s.dtb && s.offered p start = some obj

/-- A frame is no longer pending. -/
def State.txRemove (s : State) (p obj : Nat) : State :=
  if obj < 64 then
    (s.modBus p (fun b => { b with tx := b.tx.filter (fun (x : TxPend) => x.obj ≠ obj) })).setf (Reg.TXO_STAT p obj) Fld.TXO_STAT_pend 0
  else if obj < faultObj then s.modBus p (fun b => { b with replies := b.replies.eraseIdx (obj - 64) })
  else s.modBus p (fun b => { b with faults := b.faults.eraseIdx (obj - faultObj) })

/-- A pending frame is abandoned (R455). -/
def State.txAbandon (s : State) (p obj : Nat) : State :=
  let s := (s.txRemove p obj).inc (Reg.BUS_CNT_ABANDON p)
  if obj < 64 then s.setf (Reg.TXO_STAT p obj) Fld.TXO_STAT_abandoned 1 else s

/-- The frame of a pending object or reply as it stands on the bus. -/
def State.txFrame (s : State) (p obj : Nat) : Frame :=
  let (id, ide) := s.txIdentifier p obj
  if faultObj ≤ obj then { fmt := 0, ide := ide, id := id, data := (Config.faultFrame p).2 }
  else if obj < 64 then
    { fmt := if s.fld (Reg.TXO_CFG p obj) Fld.TXO_CFG_fmt = 0 then 0 else 1, ide := ide, id := id
      data := (((s.busAt p).tx.find? (fun (x : TxPend) => x.obj = obj)).map (·.data)).getD [] }
  else
    let r := (s.busAt p).replies[obj - 64]?
    { fmt := if r.any (·.xl) then 2 else 1, ide := ide, id := id, data := (r.map (·.data)).getD [] }

/-- The 100 µs before a frame's deadline have begun. -/
def State.txExpired (s : State) (p obj : Nat) : Bool :=
  match (s.pendingFrames p).find? (fun x => x.1 = obj) with
  | some (_, _, some d) => d ≤ s.dtb + 40000
  | _ => false

/-- A write of TXO_CFG (R454). -/
def State.txCfgWrite (s : State) (p j : Nat) (v : Word) : State :=
  let a := Reg.TXO_CFG p j
  let en := Word.get v Fld.TXO_CFG_en = 1
  if s.on a Fld.TXO_CFG_en then (if en then s else (s.setf a Fld.TXO_CFG_en 0).txSchedule p j)
  else
    let t := s.wrReg a (Word.put v Fld.TXO_CFG_en 0)
    let same := fun o => arbitration (t.txIdentifier p o) = arbitration (t.txIdentifier p j)
    if !en then t
    else if (List.range 64).any (fun o => o ≠ j && t.on (Reg.TXO_CFG p o) Fld.TXO_CFG_en && same o) || same 64 then s.busErr p
    else (t.setf a Fld.TXO_CFG_en 1).txSchedule p j

/-! ## The BUS0 wake detector of the keeper (R459) -/

/-- A decoded classical frame is the wake frame. -/
def State.wakeFrame (s : State) (ide : Bool) (id dlc : Nat) (data : List Byte) : Bool :=
  let m := s.fld Reg.KPR_BWSTAT Fld.KPR_BWSTAT_wmask + 0x1FFFE000
  let dm := leBytes 4 (s.rd (Reg.KPR_BWDATA 0)).toNat ++ leBytes 4 (s.rd (Reg.KPR_BWDATA 1)).toNat
  s.on Reg.KPR_BWAKE Fld.KPR_BWAKE_ide = ide && (id ^^^ s.fld Reg.KPR_BWID Fld.KPR_BWID_wid) &&& m = 0 &&
    dlc = s.fld Reg.KPR_BWAKE Fld.KPR_BWAKE_wdlc &&
    (dm.all (· = 0) || (data.zip dm).any (fun x => x.1 &&& x.2 ≠ 0))

/-- The detector wakes the module. -/
def State.detectorWake (s : State) (cause : Nat) : State :=
  (s.setf Reg.KPR_BWSTAT Fld.KPR_BWSTAT_cause cause).keeperWake 0xE1

/-- A dominant phase of `cycles` wakes: from 5 µs surely, below 0.5 µs never, between them it may (log 37). -/
def State.dominantWakes (s : State) (cycles : Nat) : Bool × State :=
  if 2000 ≤ cycles then (true, s)
  else if cycles < 200 then (false, s)
  else
    let (w, s) := s.drawWord
    (w ≠ 0, s)

end Sys2Proof.Machine
end

