-- ==== Sys2Proof/Machine/CapList.lean ====
section
/-! DEFINITION. The capability list and its unit-name table (spec/18). -/

namespace Sys2Proof.Machine

/-- A record: header and payload (R512); `next` is 0 in the last one. -/
def capRecord (id ver crit next : Nat) (len : Nat) (payload : List Byte) : List Byte :=
  leBytes 2 id ++ [BitVec.ofNat 8 ver, BitVec.ofNat 8 len] ++ leBytes 2 next ++ leBytes 2 crit ++ payload

/-- A record of payload words that another record follows. -/
def capWords (id crit : Nat) (ws : List Nat) : List Byte :=
  capRecord id 0x10 crit (8 + 4 * ws.length) ws.length (ws.flatMap (leBytes 4))

def ascii (t : String) : List Byte := t.toList.map (fun c => BitVec.ofNat 8 c.toNat)
/-- A number in decimal without and with a leading zero. -/
def dec1 (n : Nat) : List Byte := (if n < 10 then [] else [BitVec.ofNat 8 (48 + n / 10)]) ++ [BitVec.ofNat 8 (48 + n % 10)]
def dec2 (n : Nat) : List Byte := [BitVec.ofNat 8 (48 + n / 10), BitVec.ofNat 8 (48 + n % 10)]

/-- Units in increasing identifier order (R517). -/
def unitNames : List (Nat × List Byte) :=
  let row := fun (base n : Nat) (name : String) (num : Nat → List Byte) =>
    (List.range n).map (fun k => (base + k, ascii name ++ num k))
  [(0, ascii "NONE"), (1, ascii "MODE_MACHINE")] ++ row 0x10 6 "CORE_C" dec1 ++ row 0x20 12 "CANTER_CE" dec1 ++
    row 0x30 40 "PULSE_PG" dec2 ++ row 0x60 16 "ADC_AU" dec1 ++ row 0x70 4 "BUS_PORT" dec1 ++
    [(0x78, ascii "BRIDLE"), (0x79, ascii "NVM_CTRL"), (0x7A, ascii "MARTINGALE"), (0x7B, ascii "PERIOD_REC"),
     (0x7C, ascii "THERMAL")] ++ row 0x80 34 "GATE_G" dec2 ++ row 0xC0 29 "GATE_L" dec2 ++
    [(0xE0, ascii "KEEPER_WAKE"), (0xE1, ascii "BUS0_WAKE"), (0xE2, ascii "KEEPER_RTC")]

/-- An entry: identifier, two zero bytes, the name padded to 16 bytes. -/
def unitEntry (u : Nat × List Byte) : List Byte :=
  leBytes 2 u.1 ++ [0, 0] ++ u.2 ++ List.replicate (16 - u.2.length) 0

/-- Ordering code as in R507. -/
def orderingCode (v : Variant) : Nat := match v with | .f => 0 | .d => 1

/-- The list in the order of R515. -/
def capList (v : Variant) : List Byte :=
  capWords 0x0001 1 [0x0880 + Config.siliconRev.toNat * 2 ^ 16 + orderingCode v * 2 ^ 24, 0] ++ capWords 0x0010 1 [2] ++
    capWords 0x0011 0 [] ++
    (match v with
     | .f => capWords 0x0020 0 [32] ++ capWords 0x0021 0 [0x1F] ++ capWords 0x0022 0 [600]
     | .d => []) ++
    capWords 0x0030 1 [3600] ++ capWords 0x0040 0 [3] ++
    capRecord 0x00F0 0x10 1 0 0 (leBytes 4 unitNames.length ++ unitNames.flatMap unitEntry)

/-- `n` bytes from offset `off` of the list's space. -/
def capBytes (v : Variant) (off n : Nat) : List Byte :=
  (List.range n).map (fun k => ((capList v)[off + k]?).getD (Config.capBeyond (off + k)))

end Sys2Proof.Machine
end

