-- ==== Sys2Proof/Machine/ChargerOps.lean ====
section
/-! DEFINITION. The inlet, charge, supply and solar machines of Team A: decoding of pilot and proximity, the input limit,
and the stages they start and stop (spec/09). -/

namespace Sys2Proof.Machine

def State.modInlet (s : State) (f : InletSt → InletSt) : State := { s with inlet := f s.inlet }
def State.modSupply (s : State) (f : SupplySt → SupplySt) : State := { s with supply := f s.supply }
def State.modSolar (s : State) (f : SolarSt → SolarSt) : State := { s with solar := f s.solar }

/-- The charge plane's blocks exist on -F only (R5). -/
def State.hasCharger (s : State) : Bool := s.variant = .f

/-! ## Inlet -/

def inNocable : Nat := 0
def inDetect : Nat := 1
def inReady : Nat := 2
def inEnergize : Nat := 3
def inRun : Nat := 4
def inHandover : Nat := 5
def inLockout : Nat := 6
def inSrcFault : Nat := 7

def State.inletState (s : State) : Nat := s.val (csig 0x107)
def State.setInlet (s : State) (st : Nat) : State :=
  let s := s.putNat (csig 0x107) st
  if st = inNocable then s.modInlet (fun i => { i with classed := false }) else s

def modeCharge : Nat := 3
def modeSupply : Nat := 4

/-- S2 opens (R299). -/
def State.s2Open (s : State) : State :=
  let s := if s.on Reg.INL_STAT Fld.INL_STAT_s2_on then s.modInlet (fun i => { i with openAt := some s.dtb }) else s
  (s.setf Reg.INL_CTRL Fld.INL_CTRL_s2 0).setf Reg.INL_STAT Fld.INL_STAT_s2_on 0

/-- The pilot front end has lost oscillation once no edge has come for 2 ms (R300, R301). -/
def State.oscRefresh (s : State) : State :=
  if s.inlet.edgeAt.any (fun t => s.dtb < t + 2 * Config.msCycles) then s
  else ((s.setf Reg.INL_STAT Fld.INL_STAT_osc 0).wr Reg.INL_CPPER 0).wr Reg.INL_CPHIGH 0

def State.osc (s : State) : Bool := s.on Reg.INL_STAT Fld.INL_STAT_osc

def pilotA : Nat := 0
def pilotB : Nat := 1
def pilotC : Nat := 2
def pilotD : Nat := 3
def pilotE : Nat := 4
def pilotF : Nat := 5
def pilotInvalid : Nat := 6

/-- Positive band of a level in mV. -/
def posBand (pos : Int) : Nat :=
  if 11000 ≤ pos && pos ≤ 13000 then pilotA else if 8000 ≤ pos && pos ≤ 10000 then pilotB
  else if 5000 ≤ pos && pos ≤ 7000 then pilotC else if 2000 ≤ pos && pos ≤ 4000 then pilotD
  else if pos ≤ 1000 then pilotE else pilotInvalid

/-- Pilot state from the levels in mV (R300). -/
def pilotOf (osc : Bool) (pos neg : Int) : Nat :=
  let lowNeg := -13000 ≤ neg && neg ≤ -11000
  let b := posBand pos
  if b = pilotE then
    if lowNeg then pilotF
    else if -1000 ≤ pos && -1000 ≤ neg && neg ≤ 1000 then pilotE else pilotInvalid
  else if (b = pilotB || b = pilotC || b = pilotD) && osc && !lowNeg then pilotInvalid
  else b

/-- The positive level matches no band. -/
def noBand (pos : Int) : Bool := posBand pos = pilotInvalid

/-- Pilot allowance in 1/256 A and whether the duty counts as INVALID (R301). -/
def State.allowance (s : State) : (Int × Bool) × State :=
  let per : Int := s.fld Reg.INL_CPPER Fld.INL_CPPER_cnt
  let high : Int := s.fld Reg.INL_CPHIGH Fld.INL_CPHIGH_cnt
  -- high / per against a percentage
  let lt := fun (pc : Int) => 100 * high < pc * per
  let le := fun (pc : Int) => 100 * high ≤ pc * per
  if !s.osc || !(980 * per * 5 ≤ 1000000000 && 1000000000 ≤ 1020 * per * 5) then ((0, false), s)
  else if lt 3 then ((0, true), s)
  else if lt 7 then
    ((if metaQuality (s.sig (csig 0x301)).mword = qValid && !metaStale (s.sig (csig 0x301)).mword then s.q15 (csig 0x301) else 0, false), s)
  else if lt 8 then ((0, false), s)
  else if lt 10 then ((6 * 256, false), s)
  else if le 85 then
    let (v, s) := s.freeFloor (15360 * high) per
    ((v, false), s)
  else if le 96 then
    let (v, s) := s.freeFloor (640 * (100 * high - 64 * per)) per
    ((v, false), s)
  else if le 97 then ((80 * 256, false), s)
  else ((0, true), s)

/-- Cable rating in 1/256 A of a PP resistance; none without a cable (R302). -/
def cableOf (std : Nat) (ohm : Nat) : Option Int :=
  if std = 0 then
    if 4000 < ohm then none
    else if 1000 ≤ ohm && ohm ≤ 2500 then some (13 * 256)
    else if 400 ≤ ohm && ohm ≤ 999 then some (20 * 256)
    else if 160 ≤ ohm && ohm ≤ 399 then some (32 * 256)
    else if 60 ≤ ohm && ohm ≤ 159 then some (63 * 256)
    else some 0
  else if 100 ≤ ohm && ohm ≤ 250 then some (80 * 256) else none

/-- PP reads neither a cable nor its absence (SAE coding outside its rows). -/
def cableUnknown (std ohm : Nat) : Bool := std ≠ 0 && !(100 ≤ ohm && ohm ≤ 250) && !(300 ≤ ohm && ohm ≤ 700) && ohm ≤ 4000

def State.ppStd (s : State) : Nat := s.fld Reg.INL_CTRL Fld.INL_CTRL_ppstd

/-- PP has read a cable (R302); a resistance that nothing has measured is none. -/
def State.cable (s : State) : Bool := !s.unset (csig 0x103) && (cableOf s.ppStd (s.val (csig 0x103))).isSome

/-- Source cap in 1/256 A (R304). -/
def State.sourceCap (s : State) : Option Int :=
  match s.val (csig 0x105) with
  | 1 => some (s.qty (csig 0x304) (16 * 256))
  | 2 => some (10 * 256)
  | 3 => some (s.qty (csig 0x305) (10 * 256))
  | _ => none

/-- The input current limit (R305). -/
def State.refreshLimit (s : State) : State :=
  let (z, s) := s.freeFloor (32 * 256 * s.derate 5) 32768
  let l := [s.q15 (csig 0x102), s.q15 (csig 0x104), s.q15 (csig 0x300), z] ++ s.sourceCap.toList
  s.putInt (csig 0x108) (l.foldl min (80 * 256))

/-- New PP resistance: its signals, and the limit. -/
def State.putPp (s : State) (ohm : Nat) : State :=
  let s := s.putNat (csig 0x103) ohm
  (s.putInt (csig 0x104) ((cableOf s.ppStd ohm).getD 0)).refreshLimit

/-! ## Grid phases (R303) -/

/-- RMS voltages of L1-L3 in mV, grid frequency in mHz, angles of L2 and L3 behind L1 in tenths of a degree. -/
structure Grid where
  v1 : Nat
  v2 : Nat
  v3 : Nat
  f : Nat
  a2 : Int
  a3 : Int
  deriving DecidableEq, Repr

/-- The distance of two angles in tenths of a degree. -/
def angleGap (a b : Int) : Int := let d := (a - b) % 3600; min d (3600 - d)

/-- Phase configuration: 1 SINGLE, 2 BRIDGED, 3 THREE, 4 INVALID. -/
def phaseConfig (g : Grid) : Nat :=
  let ok := fun v => 100000 ≤ v && v ≤ 264000 && 45000 ≤ g.f && g.f ≤ 65000
  let near := fun (x y want : Int) => ((angleGap x y) - want).natAbs ≤ 100
  if ok g.v1 && g.v2 < 50000 && g.v3 < 50000 then 1
  else if ok g.v1 && ok g.v2 && ok g.v3 then
    if near 0 g.a2 0 && near g.a2 g.a3 0 && near 0 g.a3 0 then 2
    else if near 0 g.a2 1200 && near g.a2 g.a3 1200 && near 0 g.a3 1200 then 3 else 4
  else 4

/-- Grid voltages in mV and frequency in mHz as the current law publishes them, with the AC present (R303, R323). -/
def State.putGrid (s : State) (v1 v2 v3 f : Nat) : State :=
  let rms := fun (v : Nat) => qdiv (v * 64) 1000
  let s := ((s.putInt (csig 0x110) (rms v1)).putInt (csig 0x111) (rms v2)).putInt (csig 0x112) (rms v3)
  (s.putInt (csig 0x113) (qdiv (f * 256) 1000)).putNat (csig 0x114) 0

/-! ## Stages of the charge plane -/

def pfcGens : List Nat := [6, 7, 8, 9]
def isoGens : List Nat := [10, 11, 12, 13]

/-- Settings of R294's table. -/
def State.pfcConfigOk (s : State) : Bool := pfcGens.all (fun g => s.genIs g 1 1 4000 && s.genLd g = 3)
def State.isoConfigOk (s : State) : Bool :=
  let up := fun g => s.genIs g 0 1 4000
  let asym := fun g => s.on (Reg.PWM_CTRL g) Fld.PWM_CTRL_asym
  let half := fun g => (s.rd (Reg.PWM_CMPA g)).toNat / 64 = 2000
  isoGens.all up && half 10 && half 11 && asym 12 && asym 13 &&
    s.genSynced 11 10 2000 && s.genSynced 12 10 0 && s.genSynced 13 10 2000
def State.solarConfigOk (s : State) : Bool := s.genIs 23 0 1 4000
def State.pilotConfigOk (s : State) : Bool := s.genIs 33 0 8 50000

def State.pfcOn (s : State) : State := (s.lawsOn [(4, 0), (5, 0)]).groupStart pfcGens
def State.pfcOff (s : State) : State := (s.lawsOff [(4, 0), (5, 0)]).stopGens pfcGens
def State.isoOn (s : State) : State := if s.allActive isoGens then s else (s.lawsOn [(5, 1)]).groupStart isoGens
def State.isoOff (s : State) : State := (s.lawsOff [(5, 1)]).stopGens isoGens

/-! ## Charge machines: 0 HV, 1 LV -/

def chIdle : Nat := 0
def chQualify : Nat := 1
def chCc : Nat := 2
def chCv : Nat := 3
def chTopoff : Nat := 4
def chDone : Nat := 5
def chWait : Nat := 6
def chSourceHold : Nat := 7
def chNoBattery : Nat := 8
def chFaultSt : Nat := 9

def chargeSig (m : Nat) : Nat := if m = 0 then csig 0x200 else lsig 0x200
def State.ch (s : State) (m : Nat) : ChargeSt := s.charge.getD m {}
def State.modCh (s : State) (m : Nat) (f : ChargeSt → ChargeSt) : State := { s with charge := s.charge.modify m f }
def State.chState (s : State) (m : Nat) : Nat := s.val (chargeSig m)

/-- QUALIFY to TOPOFF: the machine delivers or is about to. -/
def State.chLive (s : State) (m : Nat) : Bool := chQualify ≤ s.chState m && s.chState m ≤ chTopoff

/-- The supervisor is armed in QUALIFY to TOPOFF (R310), with V_max = V_cv + 20 V. -/
def State.armSupervisor (s : State) : State :=
  let s := s.setb Reg.CHS_CTRL Fld.CHS_CTRL_en (s.chLive 0)
  if s.chLive 0 then s.setf Reg.CHS_VMAX Fld.CHS_VMAX_v ((s.q15 (csig 0x210) / 16).toNat + 20) else s

/-- Enter a charge state; a presence test ends with the state that made it. -/
def State.setCh (s : State) (m st : Nat) : State :=
  let s := s.putNat (chargeSig m) st
  let s := s.modCh m (fun c => { c with since := s.dtb, termAt := none, testAt := none })
  if m = 0 then s.armSupervisor else s

/-- Output current 0. -/
def State.chZero (s : State) (m : Nat) : State := s.modCh m (fun c => { c with iset := 0, cap := some 0 })

/-- FAULT with its cause; the HV machine stops its isolation stage. -/
def State.chToFault (s : State) (m cause : Nat) : State :=
  let s := (s.chZero m).setCh m chFaultSt
  let s := s.modCh m (fun c => { c with cycled := 0 })
  if m = 0 then s.isoOff.putNat (csig 0x201) cause else s

/-! Battery parameters, in the machine's own units: HV volts e = 11 (1/16 V), amperes e = 7 (1/256 A); LV volts e = 5
(1/1,024 V), amperes 1/256 A (R312, R343). -/

def State.lvProfile (s : State) : Nat := (s.ch 1).profile
def State.vCv (s : State) (m : Nat) : Int := if m = 0 then s.q15 (csig 0x210) else profileVcv s.lvProfile
/-- The current that the divisor of I_term divides: the set-point (R312, R343). -/
def State.termBase (s : State) (m : Nat) : Int := if m = 0 then s.q15 (csig 0x211) else s.qty (lsig 0x305) (40 * 256)
/-- I_cc: the set-point, for the HV machine within what the input limit allows (R312). -/
def State.iCc (s : State) (m : Nat) : Int := if m = 0 then min (s.termBase 0) (Config.outputAllowed (s.q15 (csig 0x108))) else s.termBase 1
def State.vMin (s : State) (m : Nat) : Int := if m = 0 then 400 * 16 else if s.lvProfile = 0 then 10240 else 10752
/-- The divisor that gives I_term. -/
def State.termDiv (s : State) (m : Nat) : Int :=
  if m = 0 then 2 ^ (3 + s.val (csig 0x203) % 4) else if s.lvProfile = 0 then 16 else 32
def State.vRecharge (s : State) (m : Nat) : Int := if m = 0 then s.q15 (csig 0x205) else if s.lvProfile = 0 then 13619 else 12902
/-- t_top in minutes. -/
def State.tTop (s : State) (m : Nat) : Nat := if m = 0 then s.val (csig 0x204) else if s.lvProfile = 0 then 0 else 60

/-- The source of the machine runs: the inlet in RUN, or the LV buck in regulation. -/
def State.chSource (s : State) (m : Nat) : Bool :=
  if m = 0 then s.inletState = inRun else s.lv.st = lvRun && s.on Reg.LVC_STAT Fld.LVC_STAT_pg

/-- The source has been lost for a machine that needs it: an inlet that still qualifies is no loss in QUALIFY. -/
def State.chSourceGone (s : State) (m : Nat) : Bool :=
  if m = 0 then
    let i := s.inletState
    if s.chState 0 = chQualify then !(i = inReady || i = inEnergize || i = inRun) else i ≠ inRun
  else s.lv.st ≠ lvRun

/-- Conditions under which the HV machine may ask for power (R311). -/
def State.hvMayCharge (s : State) : Bool :=
  s.hasCharger && s.modeNow = modeCharge && s.inletState = inReady && s.val (sid 3 0x30) = 1 && s.val (csig 0x212) = 1

/-- One millisecond of the ramp of the output current: 1 A per ms, or 1 A per 10 ms (R311). -/
def State.chRamp (s : State) (m : Nat) : State :=
  let top := (s.iCc m).toNat * 10
  s.modCh m (fun c =>
    let lim := match c.cap with | none => top | some v => v
    { c with iset := min lim (c.iset + if m = 0 then 2560 else 256) })

/-! ## Hand-over and source loss (R307, R308) -/

/-- A source loss in RUN. -/
def State.sourceLoss (s : State) : State :=
  let s := s.s2Open.pfcOff.setInlet inHandover
  s.modInlet (fun i => { i with handAt := s.dtb, bounces := (s.dtb :: i.bounces).take 5 })

/-- The hand-over ends: lock-out at five bounces inside 60 s, else qualification anew (R309). -/
def State.handoverEnd (s : State) : State :=
  let n := (s.inlet.bounces.filter (fun t => s.dtb ≤ t + 60000 * Config.msCycles)).length
  if 5 ≤ n then
    let s := (s.setInlet inLockout).modInlet (fun i => { i with lockAt := s.dtb })
    (s.putNat (csig 0x109) (s.val (csig 0x109) + 1)).putNat (csig 0x10A) (s.dtb / Config.msCycles)
  else s.setInlet (if s.cable then inDetect else inNocable)

/-! ## Supply -/

def State.supplyState (s : State) : Nat := s.val (csig 0x402)
def supOff : Nat := 0
def supRun : Nat := 1
def supFault : Nat := 2
def State.supplyKind (s : State) : Nat := s.val (csig 0x400)

/-- The output is energised from the battery: the isolation stage holds the link and the PFC is a voltage source. -/
def State.supplyOn (s : State) : State :=
  if !s.pfcConfigOk || !s.isoConfigOk then s.chToFault 0 1
  else ((s.isoOn.pfcOn).putNat (csig 0x402) supRun).modSupply (fun x => { x with live := true })

def State.supplyOff (s : State) (st : Nat) : State :=
  ((s.pfcOff.isoOff).putNat (csig 0x402) st).modSupply (fun x => { x with live := false })

/-- Compare A of the station's pilot for an advertised current (R316). -/
def State.advWord (s : State) : Word × State :=
  let (v, s) := s.freeNearest (50000 * s.q15 (csig 0x403)) (60 * 256)
  (counts v.toNat, s)

/-- The station's pilot shows the advertised current (R316). -/
def State.advertise (s : State) : State :=
  let (w, s) := s.advWord
  (s.cmpWrite 33 0 w).modSupply (fun x => { x with adv := true })

/-- PG33 drives the pilot from the entry into SUPPLY in a station kind (R294, R295, R316). -/
def State.stationStart (s : State) : State :=
  if !(s.supplyKind = 4 || s.supplyKind = 5) then s
  else if !s.pilotConfigOk then s.chToFault 0 1
  else s.advertise.groupStart [33]

/-- A new advertised current reaches the pilot (R316). -/
def State.stationFollow (s : State) : State := if s.supply.adv && s.modeNow = modeSupply && s.running 33 then s.advertise else s

/-- What a 1 ms boundary does in the charge machines: ramps, a new battery profile (R343), the supervisor's limit, and the
station's pilot. -/
def State.chargeBoundary (s : State) : State :=
  let s := ((s.chRamp 0).chRamp 1).stationFollow
  let p := s.num (lsig 0x301) 2
  let s := if p = s.lvProfile then s
    else
      let s := s.modCh 1 (fun c => { c with profile := p })
      if s.chState 1 = chIdle then s else (s.chZero 1).setCh 1 chIdle
  if s.chLive 0 then s.armSupervisor.refreshLimit else if s.hasCharger && s.domainOn 3 then s.oscRefresh else s

/-! ## Charger output supervisor (R310) -/

def State.supervises (s : State) : Bool := s.on Reg.CHS_CTRL Fld.CHS_CTRL_en && s.allActive isoGens

/-- A detection with its cause; its trip acts in the next cycle. -/
def State.chsDetect (s : State) (cause : Nat) : State :=
  let s := ((s.setf Reg.CHS_STAT Fld.CHS_STAT_det 1).setf Reg.CHS_STAT Fld.CHS_STAT_cause cause).inc Reg.CHS_CNT
  let s : State := { s with chs := { s.chs with hit := true } }
  (s.gtrip isoGens 1).report 7 (scopeOf lvStage 5)

/-- The check of each DCL_MEAS sample. -/
def State.chsLink (s : State) : State :=
  let v := s.fld Reg.DCL_MEAS Fld.DCL_MEAS_v
  let old := s.chs.dcl
  let s := { s with chs := { s.chs with dcl := (v :: old).take 2 } }
  if !s.supervises then s
  else
    let vmax := s.fld Reg.CHS_VMAX Fld.CHS_VMAX_v
    if vmax ≠ 0 && vmax ≤ v then s.chsDetect 1
    else match old with
      | [_, o] => if o + s.fld Reg.CHS_DV Fld.CHS_DV_dv ≤ v then s.chsDetect 2 else s
      | _ => s

/-- The check of each Paddock write of the current signal `id`. -/
def State.chsCurrent (s : State) (id : Nat) (v : Int) : State :=
  if id ≠ s.fld Reg.CHS_ISIG Fld.CHS_ISIG_sig || !dDefined (s.desc id) then s
  else
    let old := s.chs.cur
    let s := { s with chs := { s.chs with cur := some v } }
    match old with
    | none => s
    | some o =>
      if s.supervises && (s.fld Reg.CHS_IMIN Fld.CHS_IMIN_imin : Int) < o.natAbs && 8 * (v.natAbs : Int) < o.natAbs then s.chsDetect 3 else s

/-! ## Solar -/

def solOff : Nat := 0
def solStart : Nat := 1
def solTrack : Nat := 2
def solScan : Nat := 3
def solCurtail : Nat := 4

def State.solState (s : State) : Nat := s.val (solsig 0x200)
def State.setSol (s : State) (st : Nat) : State := s.putNat (solsig 0x200) st
def State.boostOff (s : State) : State := (s.lawsOff [(8, 2)]).stopGens [23]
def State.boostOn (s : State) : State := (s.lawsOn [(8, 2)]).groupStart [23]

/-- Reference and step as CE8 writes them; a fraction of an LSB rounds freely (log 18). -/
def State.solPublish (s : State) : State :=
  let (r, s) := s.freeFloor s.solar.ref 10
  let (d, s) := s.freeFloor s.solar.step 10
  (s.putInt (solsig 0x202) r).putInt (solsig 0x203) d

/-- V in tenths of an LSB of 1/512 V. -/
def volts10 (v : Int) : Int := 5120 * v

/-- String voltage now, in tenths. -/
def State.stringV (s : State) : Int := 10 * s.q15 (solsig 0x100)

/-- The DCX may carry solar power to the HV battery (R321). -/
def State.transferAllowed (s : State) : Bool := s.val (solsig 0x302) = 1 && s.val (sid 3 0x30) = 1

end Sys2Proof.Machine
end

