-- ==== Sys2Proof/Machine/TeamOps.lean ====
section
/-! DEFINITION. Processor teams: harness modes, mismatches, barriers, re-harness, interrupts and watchdogs (spec/12). -/

namespace Sys2Proof.Machine

/-! ## Harness -/

/-- Harness modes and states. -/
def hmHeld : Nat := 0
def hmTroika : Nat := 1
def hmTandem : Nat := 2
def hmSplit : Nat := 3
def hsRun : Nat := 0
def hsPair : Nat := 1
def hsBarrier : Nat := 2
def hsDrain : Nat := 3

/-- Results of a re-harness request (R370). -/
def resDone : Nat := 0
def resNotAllowed : Nat := 1
def resNotIdle : Nat := 2
def resLocked : Nat := 3
def resNotLead : Nat := 4
def resDegraded : Nat := 5
def resAbandoned : Nat := 6

def State.harnMode (s : State) (t : Nat) : Nat := s.fld (Reg.HARN_STAT t) Fld.HARN_STAT_mode
def State.harnState (s : State) (t : Nat) : Nat := s.fld (Reg.HARN_STAT t) Fld.HARN_STAT_state
def State.setHarnState (s : State) (t v : Nat) : State := s.setf (Reg.HARN_STAT t) Fld.HARN_STAT_state v
def State.harnOdd (s : State) (t : Nat) : Nat := s.fld (Reg.HARN_STAT t) Fld.HARN_STAT_odd
def State.harn_ (s : State) (t : Nat) : HarnSt := s.harn.getD t {}
def State.modHarn (s : State) (t : Nat) (f : HarnSt → HarnSt) : State := { s with harn := s.harn.modify t f }
def State.teamCore (s : State) (t n : Nat) : CorePort := s.coreAt (3 * t + n)
def State.modTeamCore (s : State) (t n : Nat) (f : CorePort → CorePort) : State := s.modCore (3 * t + n) f

/-- HARN_STAT.live: one bit per core that is not held. -/
def State.harnLive (s : State) (t : Nat) : State :=
  s.setf (Reg.HARN_STAT t) Fld.HARN_STAT_live
    ([0, 1, 2].foldl (fun m n => if (s.teamCore t n).held then m else m + 2 ^ n) 0)

/-- The compared group of a team, the odd core left out. -/
def State.compared (s : State) (t : Nat) : List Nat :=
  (match s.harnMode t with
   | 1 => [0, 1, 2]
   | 2 => [0, 1]
   | _ => []).filter (fun n => !(s.teamCore t n).held)

/-- HARN_MIS, HARN_MIST and the count of a mismatch. -/
def State.recordMismatch (s : State) (t kind core : Nat) (nomaj : Bool) : State :=
  let w := kind % 16 + core % 4 * 16 + (if nomaj then 64 else 0)
  ((s.wr (Reg.HARN_MIS t) (W w)).wr (Reg.HARN_MIST t) s.dtbLow).inc (Reg.HARN_CNT_MIS t)

/-- A mismatch with no majority (R380): the compared group stops; Team S reports class 9 and Martingale fatal follows,
Team A is reset and held. -/
def State.noMajority (s : State) (t kind core : Nat) : State :=
  let s := ((s.recordMismatch t kind core true).modHarn t (fun h => { h with target := none, barrier := none })).irq 105
  if t = 0 then
    let s := (s.each (s.compared 0) (fun s n => s.modTeamCore 0 n (fun c => { c with held := true }))).harnLive 0
    let s := s.report 9 (scopeOf lvModule 0)
    s.modMg (fun m => { m with fatalDue := some (m.fatalDue.getD (s.dtb + 5 * Config.msCycles)) })
  else s.teamALost

/-- A TROIKA mismatch with a majority (R376); in a drain it abandons the re-harness (R384). -/
def State.troikaMismatch (s : State) (t odd kind : Nat) : State :=
  let drain := s.harnState t = hsDrain
  let s := (s.recordMismatch t kind odd false).modTeamCore t odd (fun c => { c with held := true })
  let s := (s.setHarnState t hsPair).setf (Reg.HARN_STAT t) Fld.HARN_STAT_odd odd
  let s := s.modHarn t (fun h => { h with
    deg := true, pairAt := some s.dtb, target := none, barrier := none, abandoned := h.abandoned || drain })
  (s.harnLive t).irq 105

/-- The rejoin barrier begins (R377). -/
def State.startBarrier (s : State) (t : Nat) (byWfi : Bool) : State :=
  (s.setHarnState t hsBarrier).modHarn t (fun h => { h with barrier := some s.dtb, byWfi := byWfi })

/-- The longest stall of a barrier, in CLK_CPU cycles (R378). -/
def State.recordStall (s : State) (t stall : Nat) : State :=
  let a := Reg.HARN_MAXSTALL t
  s.setf a Fld.HARN_MAXSTALL_cyc (min 0xFFFF (max stall (s.fld a Fld.HARN_MAXSTALL_cyc)))

/-- Time of a stall of `c` CLK_CPU cycles in CLK_CTL cycles at the dividers in force. -/
def State.stallTime (s : State) (c : Nat) : Nat :=
  (c * s.clk.div.getD 0 1 + s.clk.div.getD 2 1 - 1) / max 1 (s.clk.div.getD 2 1)

/-- State copied from core 0 to core `n` (R377, R383). -/
def State.copyCore (s : State) (t n : Nat) : State :=
  let z := s.teamCore t 0
  s.modTeamCore t n (fun c => { c with x := z.x, f := z.f, pc := z.pc, csr := z.csr, wfi := z.wfi, held := false })

/-- A core starts free (R383): its registers at 0, its CSRs at their reset values, at the byte address of `w`. -/
def State.startCore (s : State) (t n : Nat) (w : Word) : State :=
  s.modTeamCore t n (fun c => { c with
    x := List.replicate 32 0, f := List.replicate 32 0, pc := w.toNat * 256, csr := [], wfi := false, held := false })

/-- A rejoin completes. -/
def State.rejoin (s : State) (t stall : Nat) : State :=
  let h := s.harn_ t
  let n := s.harnOdd t
  let lead := if n = 0 then 1 else 0
  let z := s.teamCore t lead
  let s := s.modTeamCore t n (fun c => { c with x := z.x, f := z.f, pc := z.pc, csr := z.csr, wfi := z.wfi, held := false })
  let s := s.forN 3 (fun s k => s.modTeamCore t k (fun c => { c with wfi := h.byWfi }))
  let s := ((s.setHarnState t hsRun).harnLive t).inc (Reg.HARN_CNT_RESYNC t)
  let s := (s.recordStall t stall).modHarn t (fun h => { h with
    deg := false, pairAt := none, barrier := none, byWfi := false,
    res := if h.abandoned then resAbandoned else h.res, abandoned := false })
  let s := s.irq 106
  if h.byWfi then s.powerEvaluate t else s

/-- The allowed transitions and their conditions (R381). -/
def harnAllowed (a b : Nat) : Bool := 1 ≤ a && 1 ≤ b && b ≤ 3 && a ≠ b

/-- Cores that must be in WFI. -/
def harnIdle (a b : Nat) : List Nat :=
  match a, b with
  | 2, 1 => [2]
  | 3, 2 => [1]
  | 3, 1 => [1, 2]
  | _, _ => []

/-- A FENCE of core `n` with mharn armed for mode `b` (R381, R382). One in the cycle of a TROIKA mismatch is abandoned (R393). The
order in which the reasons of a refusal are tested is the model's (log 113). -/
def State.reharnessFence (s : State) (t n b : Nat) : State :=
  let a := s.harnMode t
  let refuse := fun (r : Nat) => (s.modHarn t (fun h => { h with req := b, arm := false, res := r })).inc (Reg.HARN_CNT_REHREF t)
  if s.harnState t = hsPair && (s.harn_ t).pairAt = some s.dtb then
    s.modHarn t (fun h => { h with req := b, arm := false, abandoned := true })
  else if (a = hmSplit && n ≠ 0) || (a = hmTandem && n = 2) then s.modHarn t (fun h => { h with res := resNotLead })
  else if !harnAllowed a b then refuse resNotAllowed
  else if (harnIdle a b).any (fun k => !(s.teamCore t k).wfi) then refuse resNotIdle
  else if b = hmSplit && !s.on (Reg.HARN_CTRL t) Fld.HARN_CTRL_split_ok then refuse resLocked
  else if s.harnState t ≠ hsRun then refuse resDegraded
  else (s.setHarnState t hsDrain).modHarn t (fun h => { h with req := b, arm := true, target := some b, barrier := some s.dtb })

/-- What each core does when the mode changes (R381 table). -/
def State.reharnessCores (s : State) (t a b : Nat) : State :=
  let pc := fun (n : Nat) => s.rd (if n = 1 then Reg.HARN_PC1 t else Reg.HARN_PC2 t)
  match a, b with
  | 1, 2 => s.startCore t 2 (pc 2)
  | 1, 3 => (s.startCore t 1 (pc 1)).startCore t 2 (pc 2)
  | 2, 1 => s.copyCore t 2
  | 2, 3 => s.startCore t 1 (pc 1)
  | 3, 2 => s.copyCore t 1
  | 3, 1 => (s.copyCore t 1).copyCore t 2
  | _, _ => s

/-- Cores that become free, whose watchdogs count from then on (log 113). -/
def harnFreed (a b : Nat) : List Nat :=
  match a, b with
  | 1, 2 => [2]
  | 1, 3 => [1, 2]
  | 2, 3 => [1]
  | _, _ => []

/-- A re-harness ends (R383). -/
def State.reharness (s : State) (t b stall : Nat) : State :=
  let freed := (harnFreed (s.harnMode t) b)
  let s := s.reharnessCores t (s.harnMode t) b
  let s := ((s.setf (Reg.HARN_STAT t) Fld.HARN_STAT_mode b).setHarnState t hsRun).harnLive t
  let s := (s.inc (Reg.HARN_CNT_REH t)).recordStall t stall
  s.modHarn t (fun h => { h with
    res := resDone, arm := false, target := none, barrier := none, served := freed.foldl (fun l n => l.set n s.dtb) h.served })

/-! ## CSRs (R368-R370) -/

/-- mhartid (R369): the core's own number, or that of core 0 of its compared group. -/
def State.mhartid (s : State) (core : Nat) : Nat :=
  let t := teamOf core
  match s.harnMode t with
  | 1 => 3 * t
  | 2 => if core % 3 < 2 then 3 * t else core
  | _ => core

/-- mharn and mharnst. -/
def State.mharn (s : State) (t : Nat) : Nat := (s.harn_ t).req + (if (s.harn_ t).arm then 4 else 0)
def State.mharnst (s : State) (t : Nat) : Nat := s.harnMode t + 4 * (s.harn_ t).res + (if (s.harn_ t).deg then 32 else 0)

/-- What a CSR of a core reads: mhartid, time and the harness CSRs are computed, and the others are the core's own state. -/
def State.csrRead (s : State) (core a : Nat) : DWord :=
  if a = 0xF14 then BitVec.ofNat 64 (s.mhartid core)
  else if a = 0xC01 then BitVec.ofNat 64 s.dtb
  else if a = 0x7C0 then BitVec.ofNat 64 (s.mharn (teamOf core))
  else if a = 0xFC0 then BitVec.ofNat 64 (s.mharnst (teamOf core))
  else (((s.coreAt core).csr.find? (fun c => c.1 = a)).map (·.2)).getD 0

/-- MTIMECMP of core `n`. -/
def State.mtimecmp (s : State) (t n : Nat) : Nat :=
  (s.rd (Reg.MTIMECMP t n 0)).toNat + (s.rd (Reg.MTIMECMP t n 1)).toNat * 2 ^ 32

/-- The machine timer interrupt of a core is pending (R368). -/
def State.timerPending (s : State) (core : Nat) : Bool := s.mtimecmp (teamOf core) (core % 3) ≤ s.dtb

/-! ## Team A -/

/-- The machines of Team A start from their first states and publish them (log 30); the -D variant has no charger. -/
def State.teamAMachines (s : State) : State :=
  let charger := [sid 4 0x107, sid 4 0x200, sid 4 0x402, sid 5 0x200]
  let s := s.each ((if s.hasCharger then charger else []) ++ [sid 6 0x200, sid 7 0x200]) (fun s id => s.putNat id 0)
  (((s.setPark 0).setClutch 0).setPump 0).parkRefresh

/-- Team A starts in the mode and from the address that Team S names (R386). -/
def State.teamAStart (s : State) : State :=
  let s := s.setf (Reg.HARN_STAT 1) Fld.HARN_STAT_mode (s.fld (Reg.HARN_CTRL 0) Fld.HARN_CTRL_amode)
  let s := s.forN 3 (fun s n => s.startCore 1 n (s.rd (Reg.HARN_ARST 0)))
  (((s.setHarnState 1 hsRun).harnLive 1).modHarn 1 (fun _ => { served := List.replicate 3 s.dtb })).teamAMachines

/-- A write of HARN_CTRL with arel = 1 in the Team S block. The first release of a start-up is its step 6: the mode machine
is entered and reads STANDBY (R552). -/
def State.releaseTeamA (s : State) (v : Word) : State :=
  let s := s.wrExcept (Reg.HARN_CTRL 0) [Fld.HARN_CTRL_arel] v
  if !s.domainOn 1 then s.setf (Reg.HARN_STAT 0) Fld.HARN_STAT_cfg_err 1
  else if s.harnMode 1 ≠ hmHeld then s
  else
    let s := s.teamAStart.setf (Reg.HARN_CTRL 0) Fld.HARN_CTRL_arel 1
    if s.boot.stage = 4 then
      let s := (((s.putNat sigMode 1).putNat sigTarget 1).putNat sigPhase 0).putNat sigReason 0
      (s.setPhase 2).modBoot (fun b => { b with stage := 5 })
    else s

/-! ## Interrupts (R389) -/

/-- Highest-priority pending source of core `n`, the lower number first. -/
def State.claimSource (s : State) (t n : Nat) : Option Nat :=
  let mine := (s.irqPend.getD t []).filterMap (fun k =>
    match s.irqRouted t k with
    | some (c, p) => if (s.groupOf t c).contains n then some (p, k) else none
    | none => none)
  mine.foldl (fun best x =>
    match best with
    | none => some x
    | some b => if b.1 < x.1 || (b.1 = x.1 && x.2 < b.2) then some x else some b) none |>.map (·.2)

/-- A core's read of its IRQ_CLAIM: the source, or the none flag. -/
def State.irqClaim (s : State) (core : Nat) : State :=
  match s.claimSource (teamOf core) (core % 3) with
  | some k =>
    (({ s with irqPend := s.irqPend.modify (teamOf core) (fun (l : List Nat) => l.erase k) } : State)).returns core (W k)
  | none => s.returns core 0x80

/-! ## Watchdogs (R391, R392) -/

/-- Watchdog `n` counts: WDG0 for a compared group, WDG2 for the free core of TANDEM, all in SPLIT. -/
def State.wdgActive (s : State) (t n : Nat) : Bool :=
  s.on (Reg.WDG_CTRL t n) Fld.WDG_CTRL_en && s.domainOn t &&
    (match s.harnMode t with
     | 1 => n = 0
     | 2 => n = 0 || n = 2
     | 3 => n < 3
     | _ => false)

def State.wdgTmo (s : State) (t n : Nat) : Nat := s.fld (Reg.WDG_CTRL t n) Fld.WDG_CTRL_tmo
def State.wdgServed (s : State) (t n : Nat) : Nat := (s.harn_ t).served.getD n 0

/-- Early service or expiry: Team S reacts at Module scope and the team-watchdog reset follows; Team A is reset and held
(R392, R560). -/
def State.wdgReact (s : State) (t n : Nat) : State :=
  let s := s.setf (Reg.WDG_STAT t n) Fld.WDG_STAT_exp 1
  if t = 0 then (s.receive { cls := 9, scope := scopeOf lvModule 0 }).warmReset 2
  else
    let s := s.resetCause 3
    let s := (s.teamALost.resetDomain 1).setf Reg.RST_STAT Fld.RST_STAT_last 3
    s

end Sys2Proof.Machine
end

