-- ==== Sys2Proof/Machine/ModeOps.lean ====
section
/-! DEFINITION. The mode machine of Team S: entry conditions, required domains, and what entering a mode does (spec/01). -/

namespace Sys2Proof.Machine

/-! ## Entry conditions (R44) -/

/-- Transitions of the table. -/
def modeRow (a b : Nat) : Bool :=
  [(0, 1), (1, 0), (1, 2), (2, 1), (1, 3), (3, 1), (1, 4), (4, 1), (1, 5), (2, 5), (5, 1), (5, 2)].contains (a, b)

/-- A speed below a limit in both drives; an INVALID speed does not count as below (log 44). -/
def State.bothBelow (s : State) (lim : Nat → Int) : Bool :=
  [0, 1].all (fun d => s.mgValid d && ((s.mgSpeed d).natAbs : Int) < lim d)

def State.zoneOff (s : State) (z : Nat) : Bool := bit (s.fld Reg.TH_STAT Fld.TH_STAT_sd) z
def State.contactorsClosed (s : State) : Bool := s.val (sid 3 0x30) = 1
def State.drivesStopped (s : State) : Bool := (List.range 6).all (fun g => !s.running g)

/-- A session above OPERATE is open until it is FREE (R480). -/
def State.sessionAbove (s : State) : Bool := (List.range 8).any (fun k => s.sessState (k + 1) ≠ 0 && 2 ≤ s.sessLevel (k + 1))

/-- HV channels of the Drive plane. -/
def driveHv : List Nat := (List.range 34).filter (fun n => (stageOfGen (genOfHv n)).any (fun st => planeOfStage st = 0))

/-- The conditions of DRIVE but those on DRV_EN and the probe, each with its code. The park lock counts as in the actuator
table of R364. -/
def State.driveConditions (s : State) : List (Nat × Bool) :=
  let v := s.fld Reg.DCL_MEAS Fld.DCL_MEAS_v
  [(6, s.on Reg.MG_STAT Fld.MG_STAT_st_pass), (8, 400 ≤ v && v ≤ 1000), (9, s.contactorsClosed),
   (10, driveHv.all (fun n => s.hvFault n = 0)), (11, [1, 2, 3, 4].all (fun z => !s.zoneOff z)), (12, !s.cable),
   (13, s.park.st ≠ pkFault || s.parkReads false)]

/-- Bridges 0 and 1 have passed the probe of the start sequence that DRV_EN began. -/
def State.probesPassed (s : State) : Bool :=
  s.fld Reg.GDC_STAT Fld.GDC_STAT_seq = 3 && [0, 1].all (fun b => bit (s.fld Reg.GDC_PRB_RES Fld.GDC_PRB_RES_pass) b)

/-- Entry conditions of a transition, each with the code of its condition, in the order of the table. -/
def State.modeConditions (s : State) (a b : Nat) : List (Nat × Bool) :=
  match a, b with
  | 1, 0 => [(2, (List.range 14).all (fun st => st = 6 || st = 7 || st = 8 || !s.stageRuns st)), (3, !s.sessionAbove),
      (4, s.bothBelow s.nss)]
  | 1, 2 => (5, s.on Reg.GDC_STAT Fld.GDC_STAT_drv_en) :: s.driveConditions.take 1 ++ (7, s.probesPassed) :: s.driveConditions.drop 1
  | 2, 1 => [(14, s.val (sid 1 0x300) = 0 && s.val (sid 2 0x300) = 0), (4, s.bothBelow s.nss)]
  | 1, 3 => [(15, s.variant = .f), (16, s.cable), (17, s.val (sid 4 0x100) = pilotB || s.val (sid 4 0x100) = pilotC),
      (9, s.contactorsClosed), (18, s.val (sid 4 0x212) = 1), (19, !s.zoneOff 5), (20, s.drivesStopped)]
  | 1, 4 => [(21, s.variant = .f), (16, s.cable), (22, (1 ≤ s.supplyKind && s.supplyKind ≤ 3) || s.inlet.seen),
      (9, s.contactorsClosed), (20, s.drivesStopped)]
  | 2, 5 => [(23, s.bothBelow (fun d => s.slsLimit d 3))]
  | 5, 2 => s.driveConditions
  | _, _ => []

def State.mayEnter (s : State) (a b : Nat) : Bool := modeRow a b && (s.modeConditions a b).all (·.2)

/-- S.0.0013 holds the code of the first condition that fails (log 27). -/
def State.refuseMode (s : State) (m : Nat) : State :=
  match (s.modeConditions s.modeNow m).find? (fun c => !c.2) with
  | some c => s.putVal sigReason (Config.enumCode sigReason c.1)
  | none => s

/-- S.0.0014: the modes whose entry conditions hold (R472). -/
def State.publishConditions (s : State) : State :=
  s.putNat (sid 0 0x14) ((List.range 6).foldl (fun a m => if s.mayEnter s.modeNow m then a + 2 ^ m else a) 0)

/-- Module-side conditions of DRIVE (R558, log 41). -/
def State.driveReady (s : State) : Bool :=
  s.probesPassed && (s.driveConditions.filter (fun c => [6, 10, 11, 13].contains c.1)).all (·.2)

/-- S.0.0015 between STANDBY_READY and DRIVE_READY (R553). -/
def State.refreshPhase (s : State) : State :=
  let v := s.val (sid 0 0x15)
  if v = 2 && s.driveReady then s.setPhase 3 else if v = 3 && !s.driveReady then s.setPhase 2 else s

/-! ## Watched signals -/

/-- SERVICE forcing follows writes of S.0.0010 on the Paddock write path (R410). -/
def State.serviceForcing (s : State) (v : Word) : State :=
  if v ≠ 5 then s.modMg (fun m => { m with forcing := false })
  else if s.mg.forcing then s
  else
    (s.forN 2 (fun s d => (s.wr (Reg.MG_POS d) 0).modMgDrive d (fun m => { m with frac := 0 }))).modMg
      (fun m => { m with forcing := true })

/-- n_ss and n_hys before the lock, in rpm of the Q15 signals with e = 16 (R398). -/
def State.takeNss (s : State) (d i : Nat) (v : Word) : State :=
  if s.locked then s
  else s.setf (Reg.MG_NSS d) (if i = 0x310 then Fld.MG_NSS_nss else Fld.MG_NSS_nhys) (max 0 (2 * sx 16 v.toNat)).toNat

/-- Blocks of the module that watch a signal on the Paddock write path: the charger output supervisor (R310), Martingale
(R398, R410) and the gate-channel links (R352). -/
def State.watchWrite (s : State) (id : Nat) (v : Word) : State :=
  let s := s.chsCurrent id (sx 16 v.toNat)
  if id = sigMode then s.serviceForcing v
  else if id = sid 1 0x310 || id = sid 1 0x311 then s.takeNss 0 (id % 65536) v
  else if id = sid 2 0x310 || id = sid 2 0x311 then s.takeNss 1 (id % 65536) v
  else if id = asig 0x202 then s.modGate (fun g => { g with floatSh := some (v.toNat, s.dtb) })
  else if id = asig 0x502 then s.modGate (fun g => { g with floatOp := some (v.toNat, s.dtb) })
  else s

/-! ## Transitions (R46-R50) -/

/-- Stages that the target mode does not allow and that still run untripped. -/
def State.stagesToStop (s : State) : List Nat :=
  (List.range 14).filter (fun st => !(modeStages (s.val sigTarget)).contains st && (gensOfStage st).any s.active)

/-- The committed action of SET_MODE (R46). In a transition only STANDBY replaces the target; an ENTERING that it finds with
a stage running that STANDBY does not allow goes back to LEAVING (R47, R48, log 42). -/
def State.commitMode (s : State) (m : Nat) : State :=
  if s.val sigPhase = 0 then (s.putNow sigTarget (W m)).modMode (fun x => { x with recheck := some s.nextMs })
  else if m = modeStandby then
    let s := s.putNow sigTarget (W m)
    if s.val sigPhase = phaseEntering && !s.stagesToStop.isEmpty then s.modeLeave m else s
  else s

/-- ENTERING: the required domains are asked for (R43), and the phase ends within its time. -/
def State.modeEntering (s : State) : State :=
  let t := s.val sigTarget
  let ms := if s.modeNow = modeStandby && t = 2 then 20 else 2
  let s := (s.putNat sigPhase phaseEntering).modMode (fun m => { m with enterBy := s.dtb + ms * Config.msCycles })
  s.raise (s.requiredDomains t)

/-- The required domains of the target are ON and re-initialised. -/
def State.targetPowered (s : State) : Bool :=
  (s.requiredDomains (s.val sigTarget)).all (fun d => s.domainOn d && !s.power.reinit.any (fun r => r.1 = d))

/-- What the machines of other chapters take from a change of mode: the supply state and its time (R314, R315), the pilot
seen (R316), the cleared charge faults (R312). -/
def State.modeHooks (s : State) (old new : Nat) : State :=
  let s := if new = modeSupply then ((s.putNat (csig 0x402) supOff).modSupply (fun x => { x with since := s.dtb })).stationStart else s
  let s := if old = modeSupply && new ≠ modeSupply then s.modInlet (fun x => { x with seen := false }) else s
  s.modCh 0 (fun c => { c with
    cycled := if new = modeStandby && c.cycled = 0 then 1 else if new = modeCharge && c.cycled = 1 then 2 else c.cycled })

/-- The last step of a transition: the target becomes the mode. -/
def State.modeEntered (s : State) : State :=
  let old := s.modeNow
  let t := s.val sigTarget
  let s := ((s.putNat sigMode t).watchWrite sigMode (W t)).putNat sigPhase 0
  (s.modeHooks old t).refreshMmreq

/-- The end of LEAVING: every running stage that the target does not allow is stopped, in rising order (R47, log 92). -/
def State.modeLeft (s : State) : State := (s.stopGens (s.stagesToStop.flatMap gensOfStage)).modeEntering

/-- The end of ENTERING. A target that has changed to STANDBY with a stage running that STANDBY does not allow goes back to
LEAVING (log 42). -/
def State.modeArrived (s : State) : State := if s.stagesToStop.isEmpty then s.modeEntered else s.modeLeave (s.val sigTarget)

/-- LEAVING and ENTERING end within their times (R47): a 1 ms boundary at the end of the time makes the last step. -/
def State.modeDeadline (s : State) : State :=
  if s.val sigPhase = phaseLeaving && s.mode.leaveBy ≤ s.dtb then s.modeLeft
  else if s.val sigPhase = phaseEntering && s.mode.enterBy ≤ s.dtb && s.targetPowered then s.modeArrived
  else s

end Sys2Proof.Machine
end

