-- ==== Sys2Proof/Machine/BridlePath.lean ====
section
/-! DEFINITION. The path of a Bridle request: parsing, the checks of R481 in order, the opcodes that the engine runs, and
the queues of the others (spec/16). -/

namespace Sys2Proof.Machine

open Sys2Proof.Crypto (beBytes beNat cmac hmac hkdf)

/-! ## Requests (R461-R463) -/

/-- A parsed request. -/
structure Request where
  port : Nat
  xl : Bool
  n : Nat
  seq : Nat
  opcode : Nat
  conf : Bool
  params : List Byte
  /-- The bytes that the MAC covers, and the MAC. -/
  body : List Byte
  mac : List Byte
  tEnd : Nat
  deriving DecidableEq, Repr

/-- Bytes `i` to `i + n - 1` as a big-endian number. -/
def beAt (l : List Byte) (i n : Nat) : Nat := beNat ((l.drop i).take n)

/-- The request in a data field; none where R462 discards it. -/
def parseRequest (port : Nat) (xl : Bool) (tEnd : Nat) (d : List Byte) : Option Request :=
  let fl := beAt d 0 1
  let n := beAt d 1 1
  let plen := beAt d 8 2
  let len := 10 + plen + (if n = 0 then 0 else 8)
  if d.length < 10 || fl % 16 ≠ 1 || bit fl 7 || bit fl 6 || bit fl 4 || 8 < n || d.length < len then none
  else some {
    port := port, xl := xl, n := n, seq := beAt d 4 4, opcode := beAt d 2 2, conf := bit fl 5
    params := (d.drop 10).take plen, body := d.take (10 + plen), mac := (d.drop (10 + plen)).take (if n = 0 then 0 else 8)
    tEnd := tEnd }

/-- The bytes of a request. -/
def requestBytes (n seq opcode : Nat) (conf : Bool) (params mac : List Byte) : List Byte :=
  [BitVec.ofNat 8 (if conf then 0x21 else 0x01), BitVec.ofNat 8 n] ++ beBytes 2 opcode ++ beBytes 4 seq ++
    beBytes 2 params.length ++ params ++ (if n = 0 then [] else mac)

/-! ## Opcodes (R467) -/

/-- Path of an opcode. -/
inductive OpPath where
  | hw | fwA | fwS
  deriving DecidableEq, Repr

/-- A row of the opcode table: path, lowest session level and promise class. -/
structure OpRow where
  path : OpPath
  level : Nat
  cls : Nat
  deriving DecidableEq, Repr

def opRow (opcode : Nat) : Option OpRow :=
  match opcode with
  | 0x0001 => some ⟨.hw, 0, 1⟩
  | 0x0010 => some ⟨.hw, 1, 1⟩
  | 0x0020 => some ⟨.hw, 0, 1⟩
  | 0x0030 => some ⟨.fwS, 2, 2⟩
  | 0x1010 => some ⟨.hw, 0, 0⟩
  | 0x1011 => some ⟨.hw, 0, 0⟩
  | 0x1012 => some ⟨.hw, 1, 2⟩
  | 0x1013 => some ⟨.hw, 1, 2⟩
  | 0x2010 => some ⟨.hw, 1, 0⟩
  | 0x2011 => some ⟨.hw, 1, 0⟩
  | 0x2012 => some ⟨.hw, 1, 1⟩
  | 0x2013 => some ⟨.hw, 1, 1⟩
  | 0x2014 => some ⟨.hw, 1, 0⟩
  | 0x3010 => some ⟨.fwA, 1, 1⟩
  | 0x3011 => some ⟨.fwA, 1, 1⟩
  | 0x3020 => some ⟨.fwA, 1, 2⟩
  | 0x3030 => some ⟨.fwA, 2, 1⟩
  | 0x4010 => some ⟨.hw, 1, 1⟩
  | 0x4011 => some ⟨.hw, 1, 1⟩
  | 0x4012 => some ⟨.hw, 2, 1⟩
  | 0x5010 => some ⟨.fwA, 1, 1⟩
  | 0x5020 => some ⟨.fwA, 1, 1⟩
  | 0x5030 => some ⟨.fwA, 1, 1⟩
  | 0x5040 => some ⟨.fwA, 1, 1⟩
  | 0x6010 => some ⟨.fwS, 3, 3⟩
  | 0x6020 => some ⟨.fwS, 2, 2⟩
  | 0x7010 => some ⟨.fwA, 2, 2⟩
  | 0x7011 => some ⟨.fwA, 3, 4⟩
  | 0x7020 => some ⟨.fwA, 4, 4⟩
  | 0x7021 => some ⟨.fwA, 4, 4⟩
  | 0x8010 => some ⟨.hw, 0, 1⟩
  | 0x8011 => some ⟨.hw, 0, 1⟩
  | 0x8012 => some ⟨.hw, 1, 1⟩
  | 0x8020 => some ⟨.fwA, 0, 3⟩
  | 0x8030 => some ⟨.fwA, 4, 3⟩
  | 0x9010 => some ⟨.fwA, 1, 1⟩
  | 0x9020 => some ⟨.fwS, 2, 2⟩
  | 0xA010 => some ⟨.fwA, 2, 2⟩
  | 0xA011 => some ⟨.fwA, 2, 1⟩
  | _ => none

/-- The opcode is listed and present (R8). -/
def State.opPresent (s : State) (opcode : Nat) : Option OpRow :=
  if s.variant = .d && opcode / 0x1000 = 3 then none else opRow opcode

/-- Opcodes that session 0 admits (R473). -/
def session0 (opcode : Nat) : Bool := [0x0001, 0x0020, 0x1010, 0x8010, 0x8011, 0x8020].contains opcode

/-- What becomes of a request: `status` ST_DONE executes and answers, ST_ACCEPTED asks for admission, any other refuses. -/
structure Ask where
  status : Nat := stDone
  result : List Byte := []
  writes : List (Nat × Word) := []
  target : Nat := 15
  deriving DecidableEq, Repr, Inhabited

def refuse (st : Nat) : Ask := { status := st }

/-! ## Checks of signals and targets -/

/-- R71 for one signal. -/
def State.sigStatus (s : State) (level id : Nat) (write : Option Word) : Nat :=
  let d := s.desc id
  if !dDefined d then stNoSignal
  else
    match write with
    | none => if level < dRlevel d then stAccess else stDone
    | some v =>
      if level < dWlevel d then stAccess
      else if dOclass d ≠ 5 then stOwner
      else if dType d = 5 && 1 < v.toNat then stParam
      else stDone

/-- First status other than ST_DONE. -/
def firstBad : List Nat → Nat
  | [] => stDone
  | x :: xs => if x = stDone then firstBad xs else x

/-- S.6.0300 takes 13.0 V to 15.0 V (R348). -/
def rangeOk (w : Nat × Word) : Bool :=
  w.1 ≠ sid 6 0x300 || (let v := sx 16 w.2.toNat; 13312 ≤ v && v ≤ 15360)

def State.writesStatus (s : State) (level : Nat) (ws : List (Nat × Word)) : Nat :=
  let st := firstBad (ws.map (fun w => s.sigStatus level w.1 (some w.2)))
  if st ≠ stDone then st else if ws.all rangeOk then stDone else stParam

/-- Scopes of the zones in SHUTDOWN hold a stage of the list (R434). -/
def State.thermalHeld (s : State) (stages : List Nat) : Bool :=
  (List.range 8).any (fun z => bit (s.fld Reg.TH_STAT Fld.TH_STAT_sd) z &&
    (zoneScopes z).any (fun sc => stages.any (fun st => scopeUnder sc (scopeOf lvStage st))))

/-- The machine of a stage is in FAULT. -/
def State.stageFault (s : State) (st : Nat) : Bool :=
  match st with
  | 4 => s.chState 0 = chFaultSt || s.supplyState = supFault
  | 5 => s.chState 0 = chFaultSt || s.supplyState = supFault
  | 6 => s.lv.st = lvFault
  | 7 => s.lv.st = lvFault
  | 9 => s.shState = shFault
  | 10 => s.pump.st = pmFault
  | 11 => s.park.st = pkFault
  | 12 => s.clutch.st = clFault
  | _ => false

/-- Check 9 for a target and the stages that the opcode addresses. -/
def State.targetStatus (s : State) (target : Nat) (stages : List Nat) : Nat :=
  if s.thermalHeld stages then stThermal
  else if target < 2 && s.drvState target = drvSafe then stTrip
  else if target < 14 && (gensOfStage target).any s.tripFlag then stTrip
  else if target < 14 && s.stageFault target then stFault
  else stDone

/-- Writes that pass check 7 and their target pass check 9, or refuse. -/
def State.askWrites (s : State) (level : Nat) (ws : List (Nat × Word)) (stages : List Nat) : Ask :=
  let st := s.writesStatus level ws
  if st ≠ stDone then refuse st
  else
    let cs := (ws.map (fun w => dCstage (s.desc w.1))).headD 15
    if ws.any (fun w => dCstage (s.desc w.1) ≠ cs) then refuse stParam
    else
      let st := s.targetStatus cs stages
      if st ≠ stDone then refuse st else { status := stAccepted, writes := ws, target := cs }

/-- A parameter field of `n` bytes as the value word of its signal: 2 bytes hold a Q15 value. -/
def fieldWord (n v : Nat) : Word := if n = 2 then Wi (sx 16 v) else W v

/-- The fields of `params` in order for the signals of the list. -/
def fieldsAt : List Byte → Nat → List (Nat × Nat) → List (Nat × Word)
  | _, _, [] => []
  | p, i, (id, n) :: fs => (id, fieldWord n (beAt p i n)) :: fieldsAt p (i + n) fs

def fieldsLen (fs : List (Nat × Nat)) : Nat := (fs.map (·.2)).sum

/-- Signals of the drive opcodes with the bytes of each field (R469). -/
def driveFields (opcode d : Nat) : List (Nat × Nat) :=
  let g := fun i => sid (1 + d) i
  match opcode with
  | 0x2010 => [(g 0x300, 2)]
  | 0x2011 => [(g 0x301, 2)]
  | 0x2012 => [(g 0x302, 1)]
  | 0x2013 => [(g 0x305, 1)]
  | _ => [(g 0x303, 2), (g 0x304, 2)]

/-- Greatest value of a drive mode or direction. -/
def driveRange (opcode v : Nat) : Bool := if opcode = 0x2012 then v ≤ 2 else if opcode = 0x2013 then v ≤ 1 else true

/-- A drive opcode (R468, R469). -/
def State.askDrive (s : State) (level : Nat) (k : Request) : Ask :=
  let d := beAt k.params 0 1
  let fs := driveFields k.opcode d
  if k.params.length ≠ 1 + fieldsLen fs || 1 < d || (d = 1 && s.val (sid 3 0x40) = 1) || !driveRange k.opcode (beAt k.params 1 1) then
    refuse stParam
  else s.askWrites level (fieldsAt k.params 1 fs) [d]

/-- An opcode of group 4. -/
def State.askLv (s : State) (level : Nat) (k : Request) : Ask :=
  let p := k.params
  match k.opcode with
  | 0x4010 => if p.length = 2 then s.askWrites level (fieldsAt p 0 [(sid 6 0x300, 2)]) [6, 7] else refuse stParam
  | 0x4011 => if p.length = 1 then s.askWrites level (fieldsAt p 0 [(sid 6 0x307, 1)]) [6, 7] else refuse stParam
  | _ => if p.length = 0 then s.askWrites level [(sid 6 0x306, 1)] [6, 7] else refuse stParam

/-! ## Signals -/

/-- Identifiers of a list of 3 bytes each; none if one has bits [23:20] set. -/
def idsOf (p : List Byte) (i step n : Nat) : Option (List Nat) :=
  let l := (List.range n).map (fun j => beAt p (i + step * j) 3)
  if l.all (· < 2 ^ 20) then some l else none

/-- Value and meta words of signals as they stand in this cycle (R73, R470). -/
def State.sigResult (s : State) (ids : List Nat) : List Byte :=
  ids.flatMap (fun id => beBytes 4 (s.sigSeen id).value.toNat ++ beBytes 4 (s.sigSeen id).mword.toNat)

def State.askSigRead (s : State) (level : Nat) (k : Request) : Ask :=
  let n := beAt k.params 0 1
  if n = 0 || s.resultRoom k.port k.n < 8 * n || k.params.length ≠ 1 + 3 * n then refuse stParam
  else match idsOf k.params 1 3 n with
  | none => refuse stParam
  | some ids =>
    let st := firstBad (ids.map (fun id => s.sigStatus level id none))
    if st = stDone then { result := s.sigResult ids } else refuse st

def State.askSigWrite (s : State) (level : Nat) (k : Request) : Ask :=
  let n := beAt k.params 0 1
  if n = 0 || 32 < n || k.params.length ≠ 1 + 7 * n then refuse stParam
  else match idsOf k.params 1 7 n with
  | none => refuse stParam
  | some ids => s.askWrites level (ids.zipIdx.map (fun (x : Nat × Nat) => (x.1, W (beAt k.params (4 + 7 * x.2) 4)))) []

/-- SIG_SUBSCRIBE (R471). The first notification falls one period after the boundary before now (log 39). -/
def State.askSubscribe (s : State) (level : Nat) (k : Request) : State × Ask :=
  let per := beAt k.params 0 2
  let n := beAt k.params 2 1
  if per = 0 || 1000 < per || n = 0 || s.resultRoom k.port k.n < 8 * n || k.params.length ≠ 3 + 3 * n then (s, refuse stParam)
  else match idsOf k.params 3 3 n with
  | none => (s, refuse stParam)
  | some ids =>
    let st := firstBad (ids.map (fun id => s.sigStatus level id none))
    if st ≠ stDone then (s, refuse st)
    else if 16 ≤ s.bridle.subs.length then (s, refuse stBusy)
    else
      let x : Sub := { session := k.n, seq := k.seq, port := k.port, period := per, ids := ids, next := s.ms + per }
      (s.modBridle (fun b => { b with subs := b.subs ++ [x] }), {})

/-- SIG_UNSUBSCRIBE (R471); a sequence that names no subscription of the session is a wrong parameter (log 40). -/
def State.askUnsubscribe (s : State) (k : Request) : State × Ask :=
  let q := beAt k.params 0 4
  let mine := fun (x : Sub) => x.session = k.n && x.seq = q
  if k.params.length ≠ 4 || !s.bridle.subs.any mine then (s, refuse stParam)
  else (s.modBridle (fun b => { b with subs := b.subs.filter (fun x => !mine x) }), {})

/-! ## Modes (R44-R48, R472) -/

/-- Check 8 of SET_MODE. -/
def State.modeStatus (s : State) (n m : Nat) : Nat :=
  let holder := n ≠ 0 && s.on (Reg.BRD_SESS (n - 1)) Fld.BRD_SESS_svc
  if s.val sigPhase ≠ 0 then (if m = modeStandby then stDone else stMode)
  else if !modeRow s.modeNow m then stMode
  else if s.modeNow = 5 && m = 2 && !holder then stAccess
  else if !bit (s.val (sid 0 0x14)) m then stMode
  else stDone

/-- SET_MODE; a refusal records the first condition that fails (R45). A session whose request for SERVICE passes is recorded as its holder. -/
def State.askMode (s : State) (level : Nat) (k : Request) : State × Ask :=
  let m := beAt k.params 0 1
  if k.params.length = 1 && m = 5 && level < 2 then (s, refuse stAccess)
  else if k.params.length ≠ 1 || 5 < m then (s, refuse stParam)
  else
    let st := s.modeStatus k.n m
    if st = stDone then (s, { status := stAccepted, writes := [(sigTarget, W m)] })
    else (if st = stMode && s.val sigPhase = 0 && modeRow s.modeNow m then s.refuseMode m else s, refuse st)

/-! ## Sessions (R473-R475, R479) -/

def State.freeSession (s : State) : Option Nat := ((List.range 8).map (· + 1)).find? (fun n => s.sessState n = 0)

/-- Remaining time of a level's lock in seconds, rounded up. -/
def State.lockLeft (s : State) (l : Nat) : Nat :=
  let e := s.sec.lockEnd.getD (l - 1) 0
  (e - s.rtc + 1000 * Config.msCycles - 1) / (1000 * Config.msCycles)

def State.levelKey (s : State) (l : Nat) : Option (List Byte) := s.sec.levelKey.getD (l - 1) none

/-- SESSION_OPEN (R474). -/
def State.askOpen (s : State) (k : Request) : State × Ask :=
  let l := beAt k.params 0 1
  let hn := k.params.drop 1
  if k.params.length ≠ 17 || l = 0 || 4 < l then (s, refuse stParam)
  else match ((List.range 8).map (· + 1)).find? (fun n => s.sessState n = 1 && (s.sess n).hn = hn) with
  | some n => (s, { result := BitVec.ofNat 8 n :: (s.sess n).dn })
  | none =>
    match s.freeSession with
    | none => (s, refuse stBusy)
    | some n =>
      if (s.levelKey l).isNone then (s, refuse stAccess)
      else if 0 < s.lockLeft l then (s, { status := stLocked, result := beBytes 4 (s.lockLeft l) })
      else
        let (dn, s) := s.drawBytes 16
        let s := s.wr (Reg.BRD_SESS (n - 1)) (W (1 + l * 16 + k.port * 256))
        let s := s.modSess n (fun _ => { hn := hn, dn := dn, last := s.dtb })
        (s.irq 90, { result := BitVec.ofNat 8 n :: dn })

/-- A wrong proof (R479): from the third failure on the level is locked. -/
def State.proofFailed (s : State) (n l : Nat) : State :=
  let a := Reg.BRD_LOCK (l - 1)
  let f := min 255 (s.fld a Fld.BRD_LOCK_fails + 1)
  let s := (s.setf a Fld.BRD_LOCK_fails f).inc Reg.BRD_CNT_AUTH
  let secs := min (10 * 2 ^ (f - 3)) 3600
  let s := if f < 3 then s
    else (s.setf a Fld.BRD_LOCK_rem secs).modSecure (fun x => { x with
      lockEnd := x.lockEnd.set (l - 1) (s.rtc + secs * 1000 * Config.msCycles) })
  s.closeSession n

/-- SESSION_PROOF (R475). -/
def State.askProof (s : State) (k : Request) : State × Ask :=
  let n := beAt k.params 0 1
  if k.params.length ≠ 33 || n = 0 || 8 < n then (s, refuse stParam)
  else if s.sessState n ≠ 1 || s.sessPort n ≠ k.port then (s, refuse stNosession)
  else
    let l := s.sessLevel n
    let x := s.sess n
    let key := (s.levelKey l).getD []
    let lb : List Byte := [BitVec.ofNat 8 l]
    if (hmac key (lb ++ x.hn ++ x.dn ++ s.sec.serial)).take 32 ≠ k.params.drop 1 then (s.proofFailed n l, refuse stAuth)
    else
      let info := ascii "BRIDLE1" ++ s.sec.serial ++ lb ++ [BitVec.ofNat 8 n]
      let ks := hkdf (x.hn ++ x.dn) key info 32
      let proof := (hmac key ([BitVec.ofNat 8 (0x80 + l)] ++ x.dn ++ x.hn ++ s.sec.serial)).take 32
      let s := (s.setf (Reg.BRD_SESS (n - 1)) Fld.BRD_SESS_state 2).wr (Reg.BRD_SEQ (n - 1)) 0
      let s := s.modSess n (fun x => { x with kreq := ks.take 16, krep := ks.drop 16, last := s.dtb })
      ((s.setf (Reg.BRD_LOCK (l - 1)) Fld.BRD_LOCK_fails 0).irq 90, { result := proof })

/-! ## The engine's opcodes -/

def State.askCap (s : State) (k : Request) : Ask :=
  let off := beAt k.params 0 2
  let len := beAt k.params 2 1
  if k.params.length ≠ 3 || s.resultRoom k.port k.n < len || 0xF000 < off + len then refuse stParam
  else if !s.domainOn 7 then refuse stMode
  else { result := capBytes s.variant off len }

/-- Checks 6 to 9 and, for an opcode that does not commit, its execution. -/
def State.hwAsk (s : State) (row : OpRow) (k : Request) : State × Ask :=
  let level := s.sessLevel k.n
  if k.n = 0 && !session0 k.opcode then (s, refuse stNosession)
  else if level < row.level then (s, refuse stAccess)
  else
    match k.opcode with
    | 0x0001 => (s, if k.params = [] then {} else refuse stParam)
    | 0x0010 => s.askMode level k
    | 0x0020 => (s, s.askCap k)
    | 0x1010 => (s, s.askSigRead level k)
    | 0x1011 => (s, s.askSigWrite level k)
    | 0x1012 => s.askSubscribe level k
    | 0x1013 => s.askUnsubscribe k
    | 0x8010 => s.askOpen k
    | 0x8011 => s.askProof k
    | 0x8012 => (s, if k.params = [] then {} else refuse stParam)
    | _ => (s, if k.opcode / 0x1000 = 2 then s.askDrive level k else s.askLv level k)

/-! ## Admission and replies -/

/-- A shadow slot for a request. -/
def State.newSlot (s : State) (k : Request) (stage : SlotStage) (ws : List (Nat × Word)) : Slot :=
  { port := k.port, xl := k.xl, session := k.n, seq := k.seq, opcode := k.opcode, conf := k.conf, params := k.params
    tEnd := k.tEnd, stage := stage, entered := s.dtb, writes := ws, krep := (s.sess k.n).krep }

/-- Admission of slot `i` (R483): its first reply, and its reservation or its rein-back. -/
def State.takeIn (s : State) (i target tReady lat cls : Nat) : State :=
  match s.slot i with
  | none => s
  | some x =>
    let (b, ok) := s.admitAt target tReady lat x.tEnd cls
    if ok then (s.reserve i target b).firstReply x.port x.session x.seq x.opcode stAccepted b [] x.tEnd
    else ((s.freeSlot i).inc Reg.BRD_CNT_LATE).firstReply x.port x.session x.seq x.opcode stLate b [] x.tEnd

/-- The session of an admitted SET_MODE to SERVICE holds SERVICE (R472), unless its first reply has closed it (R474). -/
def State.recordHolder (s : State) (i : Nat) (k : Request) : State :=
  if k.opcode = 0x0010 && beAt k.params 0 1 = 5 && s.val sigPhase = 0 && (s.slot i).isSome && s.sessState k.n = 2 then
    let s := s.forN 8 (fun s n => s.setf (Reg.BRD_SESS n) Fld.BRD_SESS_svc 0)
    s.setf (Reg.BRD_SESS (k.n - 1)) Fld.BRD_SESS_svc 1
  else s

/-- The first reply of a request, and its slot if it is admitted. -/
def State.answerAsk (s : State) (i : Nat) (row : OpRow) (k : Request) (a : Ask) : State :=
  if a.status = stAccepted then
    ((s.setSlot i (some (s.newSlot k .waiting a.writes))).takeIn i a.target k.tEnd bridleLat row.cls).recordHolder i k
  else
    let time := if a.status = stDone then s.dtb else 0
    let s := s.firstReply k.port k.n k.seq k.opcode a.status time a.result k.tEnd
    if k.opcode = 0x8012 && a.status = stDone then s.closeSession k.n else s

/-! ## Queues of the firmware (R489) -/

/-- The packet as BRD_SLOT shows it. -/
def Request.bytes (k : Request) : List Byte := k.body ++ k.mac

def State.enqueue (s : State) (i : Nat) (row : OpRow) (k : Request) : State :=
  let answer := fun st => s.firstReply k.port k.n k.seq k.opcode st 0 [] k.tEnd
  let full := if row.path = .fwA then 32 ≤ s.bridle.fwqA.length else 32 ≤ s.bridle.fwqS.length
  if row.path = .fwA && s.harnMode 1 = hmHeld then answer stInternal
  else if full then answer stBusy
  else
    let s := (s.setSlot i (some (s.newSlot k .queued []))).showPacket i k.bytes
    let s := s.modBridle (fun b =>
      if row.path = .fwA then { b with fwqA := b.fwqA ++ [i] } else { b with fwqS := b.fwqS ++ [i] })
    s.bridleMirror.irq 88

/-! ## The checks in order (R481) -/

/-- ST_NOSESSION without MAC, at most once per port in 10 ms (R476, R482). -/
def State.noSession (s : State) (k : Request) : State :=
  let s := s.inc Reg.BRD_CNT_NOSESS
  if (s.bridle.nosess.getD k.port none).any (fun t => s.dtb < t + 10 * Config.msCycles) then s
  else
    let bytes := [(0x81 : Byte), BitVec.ofNat 8 k.n] ++ beBytes 2 k.opcode ++ beBytes 4 k.seq ++
      [BitVec.ofNat 8 stNosession, 0] ++ beBytes 2 0 ++ beBytes 8 0
    (s.modBridle (fun b => { b with nosess := b.nosess.set k.port (some s.dtb) })).postReply k.port bytes (k.tEnd + s.rdl)

/-- The session's packet with this sequence has had no first reply yet. -/
def State.inPipeline (s : State) (n seq : Nat) : Bool :=
  s.bridle.slots.any (fun o => o.any (fun x => x.session = n && x.seq = seq && x.stage ≠ .waiting))

/-- Check 5 and what follows, with slot `i` free. -/
def State.runRequest (s : State) (i : Nat) (k : Request) : State :=
  match s.opPresent k.opcode with
  | none => s.firstReply k.port k.n k.seq k.opcode stOpcode 0 [] k.tEnd
  | some row =>
    if row.path = .hw then
      let (s, a) := s.hwAsk row k
      s.answerAsk i row k a
    else s.enqueue i row k

/-- Check 4 (R477). -/
def State.sequenced (s : State) (i : Nat) (k : Request) : State :=
  if k.n = 0 then s.runRequest i k
  else if s.inPipeline k.n k.seq then s.inc Reg.BRD_CNT_DUP
  else if s.smax k.n < k.seq then s.runRequest i k
  else match (s.sess k.n).cache.find? (fun (c : Nat × List Byte) => c.1 = k.seq) with
  | some c => (s.postReply k.port c.2 (k.tEnd + s.rdl)).inc Reg.BRD_CNT_DUP
  | none => (s.firstReply k.port k.n k.seq k.opcode stReplay 0 [] k.tEnd).inc Reg.BRD_CNT_REPLAY

/-- Checks 1 to 3. -/
def State.checkRequest (s : State) (k : Request) : State :=
  if k.n ≠ 0 && (s.sessState k.n ≠ 2 || s.sessPort k.n ≠ k.port) then s.noSession k
  else if k.n ≠ 0 && (cmac (s.sess k.n).kreq k.body).take 8 ≠ k.mac then s.inc Reg.BRD_CNT_MAC
  else
    let s := if k.n = 0 then s else s.modSess k.n (fun x => { x with last := s.dtb })
    match s.slotFree with
    | none => (s.firstReply k.port k.n k.seq k.opcode stBusy 0 [] k.tEnd).inc Reg.BRD_CNT_BUSY
    | some i => s.sequenced i k

/-- The engine runs: enabled, its domain ON and its clock present. -/
def State.bridleOn (s : State) : Bool := s.on Reg.BRD_CTRL Fld.BRD_CTRL_en && s.domainOn 5 && s.clocked 8

/-- A frame with the port's request identifier reaches the engine. -/
def State.bridlePacket (s : State) (port : Nat) (xl : Bool) (data : List Byte) : State :=
  if !s.bridleOn then s
  else match parseRequest port xl s.dtb data with
  | none => s.inc Reg.BRD_CNT_MALF
  | some k => s.checkRequest k

/-! ## Frames -/

/-- A valid frame ends on the bus of port `p` (R445, R456, R463). -/
def State.receiveFrame (s : State) (p : Nat) (f : Frame) : State :=
  let s := (s.inc (Reg.BUS_CNT_RX p)).rxGood p
  let s :=
    if s.bridleRequest p f then
      (if f.fmt = 2 && 512 < f.data.length then s.inc (Reg.BUS_CNT_TOOLONG p) else s.bridlePacket p (f.fmt = 2) f.data)
    else s.receiveObject p f
  s.frameEnd p

/-- A request as a frame of the port's request identifier. -/
def State.requestFrame (s : State) (p : Nat) (xl : Bool) (bytes : List Byte) : Frame :=
  { fmt := if xl then 2 else 1, ide := s.on (Reg.BUS_BRQ p) Fld.BUS_BRQ_ide, id := s.fld (Reg.BUS_BRQ p) Fld.BUS_BRQ_id
    data := if xl then bytes else padFd bytes }

/-- A host sends a request to port `p`. -/
def State.request (s : State) (p : Nat) (xl : Bool) (n seq opcode : Nat) (conf : Bool) (params mac : List Byte) : State :=
  let f := s.requestFrame p xl (requestBytes n seq opcode conf params mac)
  if s.portLive p && s.busMode p ≠ 3 && s.on (Reg.BUS_BRQ p) Fld.BUS_BRQ_en && s.formatOn p f && frameLengthOk f then
    s.receiveFrame p f
  else s

end Sys2Proof.Machine
end

