-- ==== Sys2Proof/Machine/Builtin.lean ====
section
/-! DEFINITION. The built-in signals that the manual's signal tables name: type, unit, scale, owner and the levels that the
tables state. Stage 1 loads their descriptors from here; what a table leaves open comes from the board configuration
(R55, R63, R292, R603). -/

namespace Sys2Proof.Machine

/-- Signals `first`, `first + step`, …: what the tables state of their descriptors. The owner is class and index, the index
rising by `ostep`; none where the board configuration names it (R323). A scale that the board configuration sets is none. -/
structure BuiltinRow where
  first : Nat
  count : Nat := 1
  step : Nat := 1
  type : Nat
  unit : Nat := 0
  scale : Option Int := none
  owner : Option (Nat × Nat) := none
  ostep : Nat := 0
  sclass : Option Nat := none
  rlevel : Option Nat := none
  wlevel : Option Nat := none
  cstage : Option Nat := none
  deriving DecidableEq, Repr

/-- Group 0: Module. -/
def builtinModule : List BuiltinRow := [
  { first := 0x00010, type := 6, owner := some (4, 0) },
  { first := 0x00011, type := 6, owner := some (4, 0) },
  { first := 0x00012, type := 6, owner := some (4, 0) },
  { first := 0x00013, type := 6, owner := some (4, 0) },
  { first := 0x00014, type := 2, owner := some (4, 0) },
  { first := 0x00015, type := 6, owner := some (4, 0), rlevel := some 0 }]

/-- Group 1: Drive A. -/
def builtinDriveA : List BuiltinRow := [
  { first := 0x10100, count := 3, type := 0, unit := 2, owner := some (2, 0), ostep := 16 },
  { first := 0x10110, count := 3, type := 0, unit := 1, scale := some 11, owner := some (2, 48), ostep := 1 },
  { first := 0x10113, type := 0, unit := 1, scale := some 11, owner := some (2, 51) },
  { first := 0x10114, type := 0, unit := 1, owner := some (2, 53) },
  { first := 0x10115, type := 0, unit := 1, owner := some (2, 54) },
  { first := 0x10116, type := 0, unit := 18, scale := some (-1), owner := some (2, 63) },
  { first := 0x10117, type := 0, unit := 1, owner := some (2, 52) },
  { first := 0x10118, type := 0, owner := some (4, 0) },
  { first := 0x10200, type := 0, unit := 18, scale := some (-1), owner := some (1, 4) },
  { first := 0x10201, type := 0, unit := 11, scale := some 13, owner := some (1, 5) },
  { first := 0x10202, type := 0, unit := 18, scale := some (-1), owner := some (1, 5) },
  { first := 0x10203, type := 0, unit := 8, scale := some 16, owner := some (1, 5) },
  { first := 0x10204, type := 0, owner := some (1, 5) },
  { first := 0x10205, type := 0, owner := some (1, 5) },
  { first := 0x10206, type := 5, owner := some (1, 5) },
  { first := 0x10210, type := 0, unit := 2, owner := some (1, 5) },
  { first := 0x10211, type := 0, unit := 2, owner := some (1, 5) },
  { first := 0x10212, type := 0, unit := 2, owner := some (1, 0) },
  { first := 0x10213, type := 0, unit := 2, owner := some (1, 0) },
  { first := 0x10214, type := 0, unit := 1, scale := some 11, owner := some (1, 0) },
  { first := 0x10215, type := 0, unit := 1, scale := some 11, owner := some (1, 0) },
  { first := 0x10216, type := 0, unit := 9, scale := some 11, owner := some (1, 5) },
  { first := 0x10220, type := 0, owner := some (1, 4) },
  { first := 0x10300, type := 0, unit := 9, scale := some 11, owner := some (5, 0), cstage := some 0 },
  { first := 0x10301, type := 0, unit := 8, scale := some 16, owner := some (5, 0), cstage := some 0 },
  { first := 0x10302, type := 6, owner := some (5, 0), cstage := some 15 },
  { first := 0x10303, type := 0, unit := 9, scale := some 11, owner := some (5, 0), cstage := some 0 },
  { first := 0x10304, type := 0, unit := 9, scale := some 11, owner := some (5, 0), cstage := some 0 },
  { first := 0x10305, type := 6, owner := some (5, 0), cstage := some 15 },
  { first := 0x10310, type := 0, unit := 8, scale := some 16, owner := some (4, 0), sclass := some 2 },
  { first := 0x10311, type := 0, unit := 8, scale := some 16, owner := some (4, 0), sclass := some 2 },
  { first := 0x10312, type := 0, unit := 8, scale := some 16, owner := some (4, 0) },
  { first := 0x10313, type := 2, unit := 13, owner := some (4, 0) },
  { first := 0x10314, type := 0, unit := 16, scale := some 11, owner := some (4, 0) },
  { first := 0x10315, type := 6, owner := some (4, 0) },
  { first := 0x10316, type := 2, owner := some (4, 0) },
  { first := 0x10317, type := 0, unit := 9, scale := some 11, owner := some (4, 0) },
  { first := 0x10318, type := 0, unit := 8, scale := some 16, owner := some (4, 0) },
  { first := 0x10320, type := 6, owner := some (4, 0) },
  { first := 0x10321, type := 6, owner := some (4, 0) }] ++ [
  { first := 0x10322, type := 5, owner := some (5, 0), wlevel := some 2, cstage := some 15 },
  { first := 0x11000, count := 0x2000, type := 2, unit := 2, owner := some (5, 0), wlevel := some 3 }]

/-- Group 2: Drive B. -/
def builtinDriveB : List BuiltinRow := [
  { first := 0x20100, count := 3, type := 0, unit := 2, owner := some (2, 64), ostep := 16 },
  { first := 0x20110, count := 3, type := 0, unit := 1, scale := some 11, owner := some (2, 112), ostep := 1 },
  { first := 0x20113, type := 0, unit := 1, scale := some 11, owner := some (2, 115) },
  { first := 0x20114, type := 0, unit := 1, owner := some (2, 117) },
  { first := 0x20115, type := 0, unit := 1, owner := some (2, 118) },
  { first := 0x20116, type := 0, unit := 18, scale := some (-1), owner := some (2, 127) },
  { first := 0x20117, type := 0, unit := 1, owner := some (2, 116) },
  { first := 0x20118, type := 0, owner := some (4, 0) },
  { first := 0x20200, type := 0, unit := 18, scale := some (-1), owner := some (1, 12) },
  { first := 0x20201, type := 0, unit := 11, scale := some 13, owner := some (1, 13) },
  { first := 0x20202, type := 0, unit := 18, scale := some (-1), owner := some (1, 13) },
  { first := 0x20203, type := 0, unit := 8, scale := some 16, owner := some (1, 13) },
  { first := 0x20204, type := 0, owner := some (1, 13) },
  { first := 0x20205, type := 0, owner := some (1, 13) },
  { first := 0x20206, type := 5, owner := some (1, 13) },
  { first := 0x20210, type := 0, unit := 2, owner := some (1, 13) },
  { first := 0x20211, type := 0, unit := 2, owner := some (1, 13) },
  { first := 0x20212, type := 0, unit := 2, owner := some (1, 8) },
  { first := 0x20213, type := 0, unit := 2, owner := some (1, 8) },
  { first := 0x20214, type := 0, unit := 1, scale := some 11, owner := some (1, 8) },
  { first := 0x20215, type := 0, unit := 1, scale := some 11, owner := some (1, 8) },
  { first := 0x20216, type := 0, unit := 9, scale := some 11, owner := some (1, 13) },
  { first := 0x20220, type := 0, owner := some (1, 12) },
  { first := 0x20300, type := 0, unit := 9, scale := some 11, owner := some (5, 0), cstage := some 1 },
  { first := 0x20301, type := 0, unit := 8, scale := some 16, owner := some (5, 0), cstage := some 1 },
  { first := 0x20302, type := 6, owner := some (5, 0), cstage := some 15 },
  { first := 0x20303, type := 0, unit := 9, scale := some 11, owner := some (5, 0), cstage := some 1 },
  { first := 0x20304, type := 0, unit := 9, scale := some 11, owner := some (5, 0), cstage := some 1 },
  { first := 0x20305, type := 6, owner := some (5, 0), cstage := some 15 },
  { first := 0x20310, type := 0, unit := 8, scale := some 16, owner := some (4, 0), sclass := some 2 },
  { first := 0x20311, type := 0, unit := 8, scale := some 16, owner := some (4, 0), sclass := some 2 },
  { first := 0x20312, type := 0, unit := 8, scale := some 16, owner := some (4, 0) },
  { first := 0x20313, type := 2, unit := 13, owner := some (4, 0) },
  { first := 0x20314, type := 0, unit := 16, scale := some 11, owner := some (4, 0) },
  { first := 0x20315, type := 6, owner := some (4, 0) },
  { first := 0x20316, type := 2, owner := some (4, 0) },
  { first := 0x20317, type := 0, unit := 9, scale := some 11, owner := some (4, 0) },
  { first := 0x20318, type := 0, unit := 8, scale := some 16, owner := some (4, 0) },
  { first := 0x20320, type := 6, owner := some (4, 0) },
  { first := 0x20321, type := 6, owner := some (4, 0) }] ++ [
  { first := 0x20322, type := 5, owner := some (5, 0), wlevel := some 2, cstage := some 15 },
  { first := 0x21000, count := 0x2000, type := 2, unit := 2, owner := some (5, 0), wlevel := some 3 }]

/-- Group 3: Drive shared. -/
def builtinDriveShared : List BuiltinRow := [
  { first := 0x30010, type := 0, unit := 1, scale := some 11, owner := some (2, 179) },
  { first := 0x30020, type := 0, unit := 1, scale := some 11, owner := some (4, 0) },
  { first := 0x30021, type := 0, unit := 1, scale := some 11, owner := some (4, 0) },
  { first := 0x30022, type := 0, unit := 17, scale := some 11, owner := some (4, 0) },
  { first := 0x30030, type := 5, owner := some (4, 0) },
  { first := 0x30031, type := 5, owner := some (1, 37) },
  { first := 0x30040, type := 5, owner := some (4, 0) },
  { first := 0x30041, type := 0, unit := 18, scale := some (-1), owner := some (4, 0) }]

/-- Group 4: Charger. -/
def builtinCharger : List BuiltinRow := [
  { first := 0x40100, type := 6, owner := some (4, 1) },
  { first := 0x40101, type := 0, owner := some (4, 1) },
  { first := 0x40102, type := 0, unit := 2, scale := some 7, owner := some (4, 1) },
  { first := 0x40103, type := 2, unit := 10, owner := some (4, 1) },
  { first := 0x40104, type := 0, unit := 2, scale := some 7, owner := some (4, 1) },
  { first := 0x40105, type := 6, owner := some (4, 1) },
  { first := 0x40106, type := 6, owner := some (4, 1) },
  { first := 0x40107, type := 6, owner := some (4, 1) },
  { first := 0x40108, type := 0, unit := 2, scale := some 7, owner := some (4, 1) },
  { first := 0x40109, type := 2, owner := some (4, 1) },
  { first := 0x4010A, type := 2, unit := 13, owner := some (4, 1) },
  { first := 0x40110, count := 3, type := 0, unit := 1, scale := some 9, owner := some (1, 16) },
  { first := 0x40113, type := 0, unit := 11, scale := some 7, owner := some (1, 16) },
  { first := 0x40114, type := 5, owner := some (1, 16) },
  { first := 0x40200, type := 6, owner := some (4, 1) },
  { first := 0x40201, type := 6, owner := some (4, 1) },
  { first := 0x40202, type := 0, unit := 2, scale := some 7, owner := some (2, 177) },
  { first := 0x40203, type := 6, owner := some (5, 0), wlevel := some 2, cstage := some 15, rlevel := some 1 },
  { first := 0x40204, type := 2, unit := 14, owner := some (5, 0), wlevel := some 2, cstage := some 15, rlevel := some 1 },
  { first := 0x40205, type := 0, unit := 1, scale := some 11, owner := some (5, 0), wlevel := some 2, cstage := some 15, rlevel := some 1 },
  { first := 0x40210, type := 0, unit := 1, scale := some 11, cstage := some 15, wlevel := some 1, rlevel := some 1 },
  { first := 0x40211, type := 0, unit := 2, scale := some 7, cstage := some 15, wlevel := some 1, rlevel := some 1 },
  { first := 0x40212, type := 5, cstage := some 15, wlevel := some 1, rlevel := some 1 },
  { first := 0x40213, type := 5, cstage := some 15, wlevel := some 1, rlevel := some 1 },
  { first := 0x40214, type := 0, unit := 2, scale := some 7, cstage := some 15, wlevel := some 1, rlevel := some 1 },
  { first := 0x40300, type := 0, unit := 2, scale := some 7, owner := some (5, 0), cstage := some 15, wlevel := some 1, rlevel := some 1 },
  { first := 0x40301, type := 0, unit := 2, scale := some 7, owner := some (5, 0), cstage := some 15, wlevel := some 1, rlevel := some 1 },
  { first := 0x40302, type := 5, owner := some (5, 0), wlevel := some 2, cstage := some 15, rlevel := some 1 },
  { first := 0x40303, type := 0, unit := 1, scale := some 11, owner := some (4, 1) },
  { first := 0x40304, type := 0, unit := 2, scale := some 7, owner := some (4, 1) },
  { first := 0x40305, type := 0, unit := 2, scale := some 7, owner := some (4, 1) },
  { first := 0x40306, type := 5, owner := some (4, 1) },
  { first := 0x40307, type := 0, unit := 12, scale := some 7, owner := some (4, 1) },
  { first := 0x40400, type := 6, owner := some (5, 0), cstage := some 15, wlevel := some 1, rlevel := some 1 },
  { first := 0x40401, type := 0, unit := 3, scale := some 14, owner := some (5, 0), cstage := some 15, wlevel := some 1, rlevel := some 1 },
  { first := 0x40402, type := 6, owner := some (4, 1) },
  { first := 0x40403, type := 0, unit := 2, scale := some 7, owner := some (4, 1) },
  { first := 0x40404, type := 5, owner := some (5, 0), wlevel := some 2, cstage := some 15, rlevel := some 1 }]

/-- Group 5: Solar. -/
def builtinSolar : List BuiltinRow := [
  { first := 0x50100, type := 0, unit := 1, scale := some 6, owner := some (2, 201) },
  { first := 0x50101, type := 0, unit := 2, scale := some 5, owner := some (2, 202) },
  { first := 0x50200, type := 6, owner := some (4, 1) },
  { first := 0x50201, type := 0, unit := 3, scale := some 10, owner := some (1, 34) },
  { first := 0x50202, type := 0, unit := 1, scale := some 6, owner := some (1, 34) },
  { first := 0x50203, type := 0, unit := 1, scale := some 6, owner := some (1, 34) },
  { first := 0x50300, type := 0, unit := 3, scale := some 10, owner := some (4, 1) },
  { first := 0x50301, type := 0, unit := 1, scale := some 6, owner := some (4, 1) },
  { first := 0x50302, type := 5, owner := some (5, 0), cstage := some 15, wlevel := some 1, rlevel := some 1 },
  { first := 0x50303, type := 0, unit := 1, scale := some 7, owner := some (4, 1) },
  { first := 0x50304, type := 0, unit := 1, scale := some 7, owner := some (4, 1) }]

/-- Group 6: LV converter. -/
def builtinLvConverter : List BuiltinRow := [
  { first := 0x60100, type := 0, unit := 1, scale := some 7, owner := some (2, 192) },
  { first := 0x60101, type := 0, unit := 1, scale := some 5, owner := some (2, 193) },
  { first := 0x60102, count := 4, type := 0, unit := 2, scale := some 7, owner := some (2, 194), ostep := 1 },
  { first := 0x60106, type := 0, unit := 2, scale := some 5, owner := some (2, 198) },
  { first := 0x60113, type := 0, unit := 2, scale := some 9, owner := some (2, 199) },
  { first := 0x60114, type := 0, unit := 1, scale := some 5, owner := some (2, 200) },
  { first := 0x60120, type := 0, unit := 5, scale := some (-19), owner := some (1, 25) },
  { first := 0x60121, type := 0, unit := 2, scale := some 7, owner := some (1, 25) },
  { first := 0x60122, count := 4, type := 0, owner := some (1, 26) },
  { first := 0x60200, type := 6, owner := some (4, 1) },
  { first := 0x60210, type := 6, owner := some (4, 0) },
  { first := 0x60211, type := 6, owner := some (4, 0) },
  { first := 0x60300, type := 0, unit := 1, scale := some 5, owner := some (5, 0), cstage := some 15, wlevel := some 1, rlevel := some 1 },
  { first := 0x60301, type := 6, owner := some (5, 0), wlevel := some 2, cstage := some 15, rlevel := some 1 },
  { first := 0x60302, type := 0, unit := 17, scale := some 3, owner := some (5, 0), wlevel := some 2, cstage := some 15, rlevel := some 1 },
  { first := 0x60303, type := 2, unit := 13, owner := some (5, 0), wlevel := some 2, cstage := some 15, rlevel := some 1 },
  { first := 0x60304, type := 0, unit := 2, scale := some 9, owner := some (5, 0), wlevel := some 3, cstage := some 15, rlevel := some 1 },
  { first := 0x60305, type := 0, unit := 2, scale := some 7, owner := some (5, 0), cstage := some 15, wlevel := some 1, rlevel := some 1 },
  { first := 0x60306, type := 5, owner := some (5, 0), wlevel := some 2, cstage := some 15, rlevel := some 1 },
  { first := 0x60307, type := 5, owner := some (5, 0), cstage := some 15, wlevel := some 1, rlevel := some 1 }]

/-- Group 7: Actuators. -/
def builtinActuators : List BuiltinRow := [
  { first := 0x70100, count := 3, type := 0, unit := 2, scale := some 5, owner := some (2, 208), ostep := 1 },
  { first := 0x70103, count := 3, type := 0, unit := 1, scale := some 5, owner := some (2, 211), ostep := 1 },
  { first := 0x70106, type := 0, owner := some (2, 214) },
  { first := 0x70107, count := 3, type := 0, unit := 1, scale := some 5, owner := some (2, 215), ostep := 1 },
  { first := 0x7010A, type := 0, unit := 2, scale := some 5, owner := some (2, 218) },
  { first := 0x7010B, type := 0, unit := 2, scale := some 5, owner := some (2, 219) },
  { first := 0x7010C, type := 0, unit := 2, scale := some 3, owner := some (2, 220) },
  { first := 0x7010D, type := 0, unit := 1, scale := some 5, owner := some (2, 221) },
  { first := 0x70200, type := 6, owner := some (4, 1) },
  { first := 0x70201, type := 6, owner := some (4, 1) },
  { first := 0x70202, type := 6, owner := some (1, 28) },
  { first := 0x70203, type := 6, owner := some (1, 28) },
  { first := 0x70210, count := 6, type := 0, unit := 2, scale := some 5, owner := some (1, 28) },
  { first := 0x70220, type := 0, owner := some (5, 0), cstage := some 15, wlevel := some 1, rlevel := some 1 },
  { first := 0x70221, type := 0, unit := 2, scale := some 5, owner := some (4, 1) },
  { first := 0x70222, type := 0, owner := some (4, 1) },
  { first := 0x70400, type := 6, owner := some (5, 0), cstage := some 15, wlevel := some 1, rlevel := some 1 },
  { first := 0x70401, type := 6, owner := some (4, 1) },
  { first := 0x70402, type := 6, owner := some (4, 1) },
  { first := 0x70403, type := 2, unit := 13, owner := some (4, 1) },
  { first := 0x70404, type := 2, unit := 15, owner := some (4, 1) },
  { first := 0x70405, type := 0, owner := some (4, 1) },
  { first := 0x70500, type := 6, owner := some (4, 1) },
  { first := 0x70501, type := 6, owner := some (4, 1) },
  { first := 0x70502, type := 6, owner := some (1, 32) },
  { first := 0x70503, type := 0, unit := 8, scale := some 14, owner := some (4, 1) },
  { first := 0x70504, type := 0, unit := 8, scale := some 14, owner := some (1, 32) },
  { first := 0x70505, type := 6, owner := some (5, 0), wlevel := some 2, cstage := some 15, rlevel := some 1 },
  { first := 0x70506, type := 0, unit := 12, scale := some 8, owner := some (5, 0), cstage := some 15, wlevel := some 1, rlevel := some 1 },
  { first := 0x70507, type := 0, scale := some 8, owner := some (5, 0), wlevel := some 3, cstage := some 15, rlevel := some 1 },
  { first := 0x70508, type := 0, scale := some 8, owner := some (5, 0), wlevel := some 3, cstage := some 15, rlevel := some 1 },
  { first := 0x70510, count := 16, type := 0, scale := some 8, owner := some (5, 0), wlevel := some 3, cstage := some 15, rlevel := some 1 },
  { first := 0x70520, count := 16, type := 0, unit := 8, scale := some 14, owner := some (5, 0), wlevel := some 3, cstage := some 15, rlevel := some 1 },
  { first := 0x70600, type := 5, owner := some (5, 0), cstage := some 15, wlevel := some 1, rlevel := some 1 },
  { first := 0x70601, type := 6, owner := some (4, 1) },
  { first := 0x70603, count := 3, type := 0, unit := 2, scale := some 3, owner := some (4, 1) }]

/-- Group 9: Thermal. -/
def builtinThermal : List BuiltinRow := [
  { first := 0x90001, type := 2, owner := some (5, 0), wlevel := some 1, cstage := some 15 },
  { first := 0x90100, count := 8, step := 16, type := 0, unit := 4, scale := some 9, owner := some (4, 0) },
  { first := 0x90101, count := 8, step := 16, type := 6, owner := some (4, 0) },
  { first := 0x90102, count := 8, step := 16, type := 0, owner := some (4, 0) },
  { first := 0x90103, count := 8, step := 16, type := 6, owner := some (4, 0) }]

/-- Every row of the signal tables (R41, R292, R323, R348, R366, R433, R472, R553). -/
def builtinRows : List BuiltinRow :=
  builtinModule ++ builtinDriveA ++ builtinDriveB ++ builtinDriveShared ++ builtinCharger ++ builtinSolar ++ builtinLvConverter ++ builtinActuators ++ builtinThermal

/-- The place of signal `id` in a row. -/
def BuiltinRow.index (r : BuiltinRow) (id : Nat) : Option Nat :=
  if r.first ≤ id && (id - r.first) % r.step = 0 && (id - r.first) / r.step < r.count then some ((id - r.first) / r.step) else none

/-- The row of signal `id` and its place there. -/
def builtinRow (id : Nat) : Option (BuiltinRow × Nat) := builtinRows.findSome? (fun r => (r.index id).map (fun k => (r, k)))

/-- A descriptor with `len` bits from bit `lo` on replaced. -/
def dPut (d : DWord) (lo len v : Nat) : DWord :=
  BitVec.ofNat 64 (d.toNat - dField d lo len * 2 ^ lo + v % 2 ^ len * 2 ^ lo)

def dPutOpt (d : DWord) (lo len : Nat) (v : Option Nat) : DWord := v.elim d (dPut d lo len)

/-- Descriptor `d` of place `k` with what the tables state (R61). -/
def BuiltinRow.apply (r : BuiltinRow) (k : Nat) (d : DWord) : DWord :=
  let d := dPut (dPut d 2 3 r.type) 8 8 r.unit
  let d := dPutOpt d 56 8 (r.scale.map (ux 8))
  let d := match r.owner with
    | some (c, i) => dPut (dPut d 16 4 c) 20 12 (i + k * r.ostep)
    | none => d
  dPutOpt (dPutOpt (dPutOpt (dPutOpt d 5 3 r.sclass) 32 3 r.rlevel) 36 3 r.wlevel) 40 4 r.cstage

/-- The descriptor that stage 1 loads for signal `id` of groups 0-C from word `d` of the board configuration: kind BUILTIN
(R55), with the fields of the signal tables. -/
def builtinDesc (id : Nat) (d : DWord) : DWord :=
  let d := dPut d 0 2 1
  match builtinRow id with
  | some (r, k) => r.apply k d
  | none => d

/-- Signals of the rows, but for the large tables, which the board configuration lists. -/
def builtinIds : List Nat :=
  (builtinRows.filter (fun r => r.count ≤ 64)).flatMap (fun r => (List.range r.count).map (fun k => r.first + k * r.step))

end Sys2Proof.Machine
end

