-- ==== Sys2Proof/Machine/Startup.lean ====
section
/-! DEFINITION. Meanings of the commands of start-up, reset and shutdown, and of boot failures (spec/17, spec/21). -/

namespace Sys2Proof.Machine

/-- Registers of the keeper and those it holds for other blocks take their reset values (R561, R479). -/
def State.keeperReset (s : State) : State :=
  let held := fun a => a / 0x10000 = 0x7080 || (keptRegister a && a ≠ Reg.SEC_RBCNT && a ≠ Reg.SEC_SLOTST)
  let s : State := { s with
    regs := s.regs.filter (fun r => !held r.1)
    keeper := {}
    thermal := { s.thermal with records := [] } }
  s.modSecure (fun x => { x with lockEnd := List.replicate 4 0 })

/-- Strap phase of R554 from now: step 3 of R552. -/
def State.strapPhase (s : State) : State :=
  (s.modBoot (fun b => { b with stage := 2, warm := false, due := s.dtb + 40000 })).wr Reg.RST_DTB s.dtbLow

/-- The sequencer has raised PD7, PD0 and PD6 (R552). DTB starts at 0, or resumes after a wake (R27, R28, R547). -/
def State.domainsUp (s : State) : State :=
  let b := s.boot
  let old := (List.range 8).map s.domain
  let s := ([6, 7, 0].foldl (fun s d => s.resetDomain d true) s).debugEnd
  let s := s.forN 8 (fun s d => s.setDomain d (if d = 0 || d = 6 || d = 7 then 0 else old.getD d 2))
  let s := if b.wakeNext then s.setDtb s.dtbResumed else s.dtbZero
  let last := if b.wakeNext then 15 else if !b.porNext then 1 else if s.keeper.lpOpen then 7 else 0
  let s := s.setf Reg.RST_STAT Fld.RST_STAT_last last
  let s := if b.wakeNext then (s.resetCause 9).powerRecord s.keeper.waker 0 3 else s
  let s : State := { s with keeper := { s.keeper with lpOpen := false, offAt := none } }
  (s.modBoot (fun x => { x with porNext := false })).strapPhase.powerMirror

/-- The boot ROM tries a bank (R500). -/
def State.tryBank (s : State) (active b : Nat) : Option State × State :=
  let c := s.verifyImage b 0
  let code := if c.code = 0 && c.kind ≠ 1 then 1 else c.code
  if code ≠ 0 then (none, s.setf Reg.SEC_BOOTST Fld.SEC_BOOTST_fail code)
  else
    let (act, trial, tries) := s.bootRecord
    let s := if b = active && trial = 1 then s.writeRecord act 1 (min 255 (tries + 1)) else s
    let a := Reg.SEC_BOOTST
    let s := (((s.setf a Fld.SEC_BOOTST_bank b).setf a Fld.SEC_BOOTST_trial (if trial = 1 then 1 else 0)).setf
      a Fld.SEC_BOOTST_slot c.slot).setb a Fld.SEC_BOOTST_fallback (b ≠ active)
    let s := s.extend 0 (s.headerHash b 0)
    (some (s.modSecure (fun x => { x with verified := x.verified ++ [(1, c.svn)] })), s)

/-- The descriptor that stage 1 loads for `id`: what the signal tables state, over the word of the board configuration
(R55, R603). -/
def stage1Desc (descs : List (Nat × DWord)) (id : Nat) : DWord :=
  builtinDesc id (((descs.find? (fun d => d.1 = id)).map (·.2)).getD 0 &&& descMask)

/-- Stage 1 is entered (R552 step 5, R553): the descriptors of groups 0-C are loaded, those of groups 4 and 5 only on the -F
variant (R55, R56, R63), and PD1, PD2, PD3 and PD5 are raised; where they are ON already the converter part follows. -/
def State.enterStage1 (s : State) (descs : List (Nat × DWord)) : State :=
  let ok := fun id => id / 65536 ≤ 0xC && (s.variant = .f || (id / 65536 ≠ 4 && id / 65536 ≠ 5))
  let s := s.each ((builtinIds ++ descs.map (·.1)).filter ok) (fun s id => s.setDesc id (stage1Desc descs id))
  let s := (s.modBoot (fun b => { b with stage := 4 })).setPhase 0
  let s := s.setf Reg.RST_BOOT Fld.RST_BOOT_t_s1 (min 0xFFFF ((s.rtc - s.boot.start) / 4000))
  (s.raise ([1, 2, 3, 5].filter (fun d => s.domain d ≠ 0))).bootAt 3

/-- The boot ROM's choice of a bank (R500, R501). -/
def State.bootRom (s : State) (descs : List (Nat × DWord)) : State :=
  let (act, trial, tries) := s.bootRecord
  let s := if trial = 1 && 3 ≤ tries then s.writeRecord (1 - act) 0 0 else s
  let active := s.bootRecord.1
  match s.tryBank active active with
  | (some t, _) => t.enterStage1 descs
  | (none, s) =>
    match s.tryBank active (1 - active) with
    | (some t, _) => t.enterStage1 descs
    | (none, s) => s.haltTeamS

/-- A software reset: a MODULE reaction, then the reset once no NVM word program runs (R560, R562). -/
def State.softwareReset (s : State) : State :=
  let s := s.reactModule 6
  if s.nvmBusy then s.modBoot (fun b => { b with swWait := true }) else s.warmReset 5

/-! ## Meanings -/

/-- VSUP_QUALIFIED (R551, R552): VSUP has stayed at or above 8 V for 1 ms while the module does not run. -/
def execVsupQualified (s : State) : Outcome :=
  .next <|
    if s.boot.stage ≠ 0 || !s.on Reg.KPR_BSTAT Fld.KPR_BSTAT_closed then s
    else
      let por := s.boot.porNext
      let s := if por then s.resetCause 0 else s
      s.sequencerStart por (s.boot.wakeNext && !por)

/-- STARTUP_DOMAINS_UP (R552): 200 µs after the sequencer's start. -/
def execStartupDomainsUp (s : State) : Outcome :=
  .next (if s.boot.stage = 1 then (s.reachRtc (s.boot.start + 80000)).domainsUp else s)

/-- STRAP_END (R554): levels of SYNC, WAKE and TP0; a wake keeps the straps. The boot ROM then initialises the main SRAM
(log 5). -/
def execStrapEnd (sync wake tp0 : Bool) (s : State) : Outcome :=
  .next <|
    if s.boot.stage ≠ 2 || s.boot.warm then s
    else
      let s := s.reach s.boot.due
      let s := if s.boot.wakeNext then s
        else (s.setf Reg.RST_STRAP Fld.RST_STRAP_pos ((if sync then 2 else 0) + (if wake then 1 else 0))).setb
          Reg.RST_STRAP Fld.RST_STRAP_port tp0
      { s.modBoot (fun b => { b with stage := 3, wakeNext := false }) with sram := [] }

/-- STAGE1_ENTRY (R500, R501, R552): the boot ROM has taken until `us` µs after the sequencer's start; `descs` are the
descriptors of the board configuration, whose image layout the spec does not give (log 32). -/
def execStage1Entry (us : Nat) (descs : List (Nat × DWord)) (s : State) : Outcome :=
  .next (if s.boot.stage = 3 then (s.reachRtc (s.boot.start + us * Config.usCycles)).bootRom descs else s)

/-- BOOT_FAILURE (R557): an image of kind 2, 3 or 4 or, with 7, a memory check fails in stage 1. -/
def execBootFailure (kind : Nat) (s : State) : Outcome :=
  .next <|
    if s.boot.stage = 4 && [2, 3, 4, 7].contains kind then
      let s := (s.setf Reg.RST_BOOT Fld.RST_BOOT_fail kind).setPhase 4
      if s.bootRecord.2.1 = 1 then s.softwareReset else s.haltTeamS
    else s

/-- SOFTWARE_RESET (R562): a write of RST_SWR. -/
def execSoftwareReset (core : Nat) (v : Word) (s : State) : Outcome :=
  ofUnit (core < 6) <|
    s.access core (s.domainOn 0) (fun s =>
      if Word.get v Fld.RST_SWR_key = 0xC3A5 && teamOf core = 0 && s.modeNow ≤ 1 then s.softwareReset
      else s.setf Reg.RST_STAT Fld.RST_STAT_cfg_err 1)

/-- WARM_RESET (R560, R561): after 20 µs the strap phase begins. -/
def execWarmReset (s : State) : Outcome :=
  .next (if s.boot.warm then (s.reach s.boot.due).strapPhase else s)

/-- NVM_PROGRAM_DONE (R562): a programming operation completes; a software reset that waited for it starts. -/
def execNvmProgramDone (s : State) : Outcome :=
  .next <|
    if !s.nvmBusy || !s.secRuns then s
    else
      let s := s.nvmDone
      if s.boot.swWait && !s.nvmBusy then s.warmReset 5 else s

/-- POWER_FAIL_WARNING (R564): VSUP below 7.0 V for 10 µs. -/
def execPowerFailWarning (s : State) : Outcome :=
  .next <|
    if s.boot.stage = 0 || s.boot.pwfAt.isSome then s
    else
      let s := (s.resetCause 8).modBoot (fun b => { b with pwfAt := some s.dtb })
      (s.report 10 (scopeOf lvModule 0)).irq 97

/-- BROWN_OUT (R564): 6 ms after the warning; whether VSUP is still below 7.0 V. -/
def execBrownOut (low : Bool) (s : State) : Outcome :=
  .next <| match s.boot.pwfAt with
    | none => s
    | some t =>
      let s := s.reach (t + 6 * Config.msCycles)
      if low then ((s.resetCause 1).supplyLost).dtbZero
      else s.modBoot (fun b => { b with pwfAt := none })

/-- VBATK_APPLIED (R551, R561). -/
def execVbatkApplied (s : State) : Outcome :=
  let s := s.supplyLost.keeperReset
  .next { s.modBoot (fun b => { b with porNext := true }) with dtb := 0, rtcBase := 0 }

end Sys2Proof.Machine
end

