-- ==== Sys2Proof/Machine/RegOps.lean ====
section
/-! DEFINITION. Writes to the registers of each block: what the block does beside its registers' access codes and range
checks. A field whose write is a command of its own is left out here (log 45). -/

namespace Sys2Proof.Machine

/-! ## Where an access goes (R51, R53, R531) -/

/-- Domain of the block at address `a`, the debug port included. -/
def blockDomain (a : Nat) : Nat := if a / 0x10000 = 0x7F00 then 0 else domainAt a

/-- A block of registers lies at address `a` (R51). -/
def blockMapped (a : Nat) : Bool :=
  let w := a / 0x10000
  (0x7000 ≤ w && w ≤ 0x7006) || w = 0x7008 || w = 0x7010 || w = 0x7011 || w = 0x7020 || w = 0x7021 ||
    (0x7030 ≤ w && w ≤ 0x703B) || w = 0x7040 || (0x7050 ≤ w && w ≤ 0x7054) || w = 0x7060 || w = 0x7068 ||
    w = 0x7070 || w = 0x7071 || w = 0x7080 || w = 0x7F00

/-- The clock consumer whose gate stops the block at address `a` (R530). -/
def blockClock (a : Nat) : Option Nat :=
  let w := a / 0x10000
  if 0x7050 ≤ w && w ≤ 0x7053 then some 7 else if w = 0x7054 then some 8
  else if w = 0x7070 || w = 0x7071 then some 10 else if w = 0x7F00 then some 11 else none

/-- A core's access to the block at `a` raises no access fault. -/
def State.reachable (s : State) (a : Nat) : Bool :=
  blockMapped a && (8 ≤ blockDomain a || s.domainOn (blockDomain a)) && (blockClock a).all (fun k => s.clocked k)

/-! ## Clocks, power, reset, harness -/

def State.clkWrite (s : State) (a : Nat) (v : Word) : State :=
  if a = Reg.CLK_CTRL then s.wrExcept a [Fld.CLK_CTRL_ret] v
  else if a = Reg.CLK_DIV0 || a = Reg.CLK_DIV1 || 0x70000100 ≤ a then s
  else s.wrReg a v

/-- PWR_MMREQ takes writes of Team S only (R541). -/
def State.pwrWrite (s : State) (core a : Nat) (v : Word) : State :=
  if a = Reg.PWR_REQ then s
  else if a = Reg.PWR_MMREQ && teamOf core ≠ 0 then s.accessFault core
  else s.wrReg a v

/-- WDG_CTRL: win and tmo are ignored after en, which a write only sets (R391); the first window opens at the enable. -/
def State.watchdogWrite (s : State) (t n : Nat) (v : Word) : State :=
  let a := Reg.WDG_CTRL t n
  if s.on a Fld.WDG_CTRL_en then s
  else
    let s := s.wrReg a v
    if s.on a Fld.WDG_CTRL_en then { s with harn := s.harn.modify t (fun h => { h with served := h.served.set n s.dtb }) } else s

/-- Pending sources of a team's router that a new routing or threshold makes deliverable (R389). -/
def State.redeliver (s : State) (t : Nat) : State :=
  s.each (s.irqPend.getD t []) (fun s k => s.irqDeliver t k (unitOfSource k))

/-- The harness block of team `t`. Sources 0-15 are routed by Team S alone (R390). -/
def State.harnWrite (s : State) (core t a : Nat) (v : Word) : State :=
  let o := a % 0x10000
  if a = Reg.HARN_CTRL t then
    if t = 0 then s.wrExcept a [Fld.HARN_CTRL_arel] v else s.wrOnly a [Fld.HARN_CTRL_split_ok] v
  else if a = Reg.HARN_RJN t || o = 0x880 || o = 0x884 then s
  else if a = Reg.HARN_ARST t && t = 1 then s
  else if o = 0x100 || o = 0x110 || o = 0x120 then s.watchdogWrite t ((o - 0x100) / 0x10) v
  else if o = 0x104 || o = 0x114 || o = 0x124 || o = 0x804 || o = 0x814 || o = 0x824 then s
  else if 0x400 ≤ o && o < 0x440 && teamOf core ≠ 0 then s.accessFault core
  else if 0x400 ≤ o then (s.wrReg a v).redeliver t
  else s.wrReg a v

/-! ## Martingale -/

/-- MG_RXk: a write that lowers rx below its reset value or narrows the scope is refused (R412). -/
def State.mgRxWrite (s : State) (a : Nat) (v : Word) : State :=
  let r := resetWord a
  if s.locked then s
  else if Word.get v Fld.MG_RX_rx < Word.get r Fld.MG_RX_rx || Word.get v Fld.MG_RX_lvl < Word.get r Fld.MG_RX_lvl then
    s.setf Reg.MG_STAT Fld.MG_STAT_cfg_err 1
  else s.wrReg a v

/-- A write to the Martingale block; safety outputs follow their sources (R421). -/
def State.mgBlockWrite (s : State) (a : Nat) (v : Word) : State :=
  if a = Reg.MG_LOCK || a = Reg.MG_REPS || a = Reg.MG_REPA || a = Reg.MG_CLR || a = Reg.MG_GTRIP || a = Reg.MG_GTRIP_HI ||
      a = Reg.MG_SEL then s
  else
    let s := s.modMg (fun m => { m with keyed := false })
    if a = Reg.MG_CTRL then
      if (List.range 6).any s.running then s.wrExcept a [Fld.MG_CTRL_st, Fld.MG_CTRL_couple] v else s.wrExcept a [Fld.MG_CTRL_st] v
    else if a = Reg.MG_SOSTAT then s.wrExcept a [Fld.MG_SOSTAT_flt] v
    else if Reg.MG_RX 0 ≤ a && a ≤ Reg.MG_RX 15 then s.mgRxWrite a v
    else (s.wrReg a v).outputs

/-! ## Generators and trip lines -/

/-- PWM_TRIPM: the new mask acts in the next cycle (R220). -/
def State.tripMaskWrite (s : State) (g : Nat) (v : Word) : State :=
  let s := s.wrReg (Reg.PWM_TRIPM g) v
  if s.tripLines g ≠ 0 then s.genTripAt g (64 * (s.dtb + 1)) else s.refreshTstate g

/-- PWM_SAFE: with msel = 1 Martingale alone writes pat (R216); a change during a trip acts in the next cycle (R215, R220).
The generators that the -D variant lacks stay in OFF (R10). -/
def State.safeWrite (s : State) (g : Nat) (v : Word) : State :=
  let a := Reg.PWM_SAFE g
  let was := s.pat g
  let held := s.on a Fld.PWM_SAFE_msel || (s.variant = .d && absentOnD g)
  let s := if held then s.wrExcept a [Fld.PWM_SAFE_pat] v else s.wrReg a v
  let s := if s.pat g ≠ was && s.safeHeld g then s.applyPattern g (64 * (s.dtb + 1)) else s
  let s := if s.pat g ≠ was then s.path2Pattern g else s
  if g < 6 && !held && s.on a Fld.PWM_SAFE_msel then s.speedPattern (g / 3) else s

/-- Registers of generator `g` (R182, R203, R216, R220). -/
def State.genWrite (s : State) (g a : Nat) (v : Word) : State :=
  let o := a % 0x400
  let en := s.on (Reg.PWM_CTRL g) Fld.PWM_CTRL_en
  if o = 0 then (if en then s else (s.ctrlFields g v).1)
  else if o = 4 then s.wrExcept a [Fld.PWM_STAT_trip] v
  else if o = 8 || o = 0xC || o = 0x10 then s
  else if o = 0x20 && Word.get v Fld.PWM_SYNC_gen = g then (if en then s else s.pwmErr g)
  else if o = 0x14 || o = 0x18 || o = 0x1C || o = 0x20 || o = 0x2C then (if en then s else s.wrReg a v)
  else if o = 0x24 then s.tripMaskWrite g v
  else if o = 0x28 then s.safeWrite g v
  else s.wrReg a v

/-- Trigger timer `n` (R111). -/
def State.timerWrite (s : State) (n a : Nat) (v : Word) : State :=
  if a = Reg.TT_PER n then (if v.toNat < 80 then s else (s.wrReg a v).ttStart n)
  else
    let s := s.wrReg a v
    if s.on (Reg.TT_CTL n) Fld.TT_CTL_en then s.ttStart n else { s with tt := s.tt.set n none }

/-- LVC_CFG: only sync_en while a generator of the LV stages is enabled (R348). -/
def State.lvcWrite (s : State) (a : Nat) (v : Word) : State :=
  if a = Reg.LVC_CFG && [14, 15, 18, 19, 20, 21, 22].any (fun g => s.on (Reg.PWM_CTRL g) Fld.PWM_CTRL_en) then
    s.wrOnly a [Fld.LVC_CFG_sync_en] v
  else s.wrReg a v

/-- ACT_SHTP is ignored while the shift generators run; sir may not equal sie (R366). -/
def State.actWrite (s : State) (a : Nat) (v : Word) : State :=
  if a = Reg.ACT_SHTP && [24, 25, 26].any s.running then s
  else if a = Reg.ACT_PKCFG && Word.get v Fld.ACT_PKCFG_sir = Word.get v Fld.ACT_PKCFG_sie then
    (if s.locked then s else s.setf Reg.ACT_STAT Fld.ACT_STAT_cfg_err 1)
  else s.wrReg a v

def State.trpWrite (s : State) (a : Nat) (v : Word) : State :=
  let o := a % 0x10000
  if a = Reg.PWM_GSTART then s
  else if a = Reg.TRP_POL then (s.wrReg a v).forN 4 (fun s i => s.tripInCount i)
  else if a = Reg.TRP_FILT then
    ((s.wrReg a v).forN 4 (fun s i => s.tripInCount i)).forN 4 (fun s i => s.modTripIn i (fun t => { t with notBefore := s.dtb + 1 }))
  else if a = Reg.YRW_CTRL then
    let s := s.wrReg a v
    if s.on a Fld.YRW_CTRL_en then s else { s with yarrow := { s.yarrow with due := none } }
  else if 0x800 ≤ o && o < 0x880 then s.timerWrite ((o - 0x800) / 0x10) a v
  else if 0xD00 ≤ o && o < 0xE00 then s.lvcWrite a v
  else if 0xE00 ≤ o && o < 0xF00 then s.actWrite a v
  else s.wrReg a v

/-! ## Converter units and front ends -/

def State.adcErr (s : State) (u : Nat) : State := s.setf (Reg.ADC_STATUS u) Fld.ADC_STATUS_cfg_err 1

/-- Common sense lines that word `w` of ADC_CSL routes. -/
def cslLines (w : Word) : List Nat :=
  if Word.get w Fld.ADC_CSL_csl_en = 1 then
    [Word.get w Fld.ADC_CSL_sel8, Word.get w Fld.ADC_CSL_sel9, Word.get w Fld.ADC_CSL_sel10, Word.get w Fld.ADC_CSL_sel11]
  else []

/-- A line that unit `u` would be the third unit to route (R85). -/
def State.cslRefused (s : State) (u : Nat) (v : Word) : Bool :=
  (cslLines v).any (fun l =>
    2 ≤ ((List.range 16).filter (fun k => k ≠ u && (cslLines (s.rd (Reg.ADC_CSL k))).contains l)).length)

/-- Entries that R86 refuses. -/
def ecfgRefused (v : Word) : Bool :=
  let smp := Word.get v Fld.ADC_ECFG_smp
  smp < 4 || (Word.get v Fld.ADC_ECFG_gain = 3 && smp < 16)

/-- Triggers that R94 refuses: a reserved source, an index the source does not have, or a run that ends before it starts. -/
def trgRefused (v : Word) : Bool :=
  let k := Word.get v Fld.ADC_TRG_skind
  let i := Word.get v Fld.ADC_TRG_sidx
  6 < k || (1 ≤ k && k ≤ 3 && 39 < i) || ((k = 4 || k = 6) && 7 < i) || Word.get v Fld.ADC_TRG_last < Word.get v Fld.ADC_TRG_first

/-- Destination signals of entry `k` (R87). -/
def State.edstOk (s : State) (u k : Nat) (v : Word) : Bool :=
  let d := s.desc (Word.get v Fld.ADC_EDST_sig)
  dDefined d && dType d = 0 && dOclass d = 2 && dOindex d = 16 * u + k

/-- Registers of converter unit `u` (R85-R88, R94, R109); en may be set during a calibration (log 100). -/
def State.adcWrite (s : State) (u a : Nat) (v : Word) : State :=
  let o := a % 0x1000
  let en := s.on (Reg.ADC_CTRL u) Fld.ADC_CTRL_en
  let set := fun (bad : Bool) => if en then s else if bad then s.adcErr u else s.wrReg a v
  if o = 0 then (if Word.get v Fld.ADC_CTRL_en = 1 then s.setf a Fld.ADC_CTRL_en 1 else s)
  else if o = 8 then set (s.cslRefused u v)
  else if 0x10 ≤ o && o < 0x20 then set (trgRefused v)
  else if o = 0x30 || o = 0x34 || o = 0x50 then s
  else if 0x40 ≤ o && o < 0x50 then
    let x := sx 16 v.toNat
    if -2048 ≤ x && x ≤ 2047 then s.wrReg a v else s.adcErr u
  else if 0x100 ≤ o && o < 0x180 then
    if o % 8 = 0 then set (ecfgRefused v) else set (!s.edstOk u ((o - 0x100) / 8) v)
  else s.wrReg a v

/-- The excitation of drive `d` after a write of RES_CTRL that found en = `was`: without it nothing is locked, and its faults
end when it is enabled again (R265). -/
def State.frontEnable (s : State) (d : Nat) (was : Bool) : State :=
  let a := Reg.RES_STAT d
  let now := s.on (Reg.RES_CTRL d) Fld.RES_CTRL_en
  if now && !was then (s.setf a Fld.RES_STAT_exc_oc 0).setf a Fld.RES_STAT_exc_open 0
  else if was && !now then s.setf a Fld.RES_STAT_lock 0
  else s

/-- RES_CTRL and ENC_CTRL of a drive: `own` and `other` (R273, R293). -/
def State.frontWrite (s : State) (d own other : Nat) (v : Word) : State :=
  let f : Field := ⟨0, 1⟩
  if Word.get v f = 1 && s.on other f && !s.on own f then s.setf (Reg.RES_STAT d) Fld.RES_STAT_cfg_err 1
  else if s.on own f then s.setf own f (Word.get v f)
  else s.wrReg own v

/-- INL_CTRL (R299, R304): role is ignored while en = 1; s2 closes only in CHARGE with role 0, in ENERGIZE or RUN. The -D
variant ignores every write. -/
def State.inletWrite (s : State) (v : Word) : State :=
  let a := Reg.INL_CTRL
  if s.variant = .d then s
  else
    let keep := if s.on a Fld.INL_CTRL_en then [Fld.INL_CTRL_role, Fld.INL_CTRL_s2] else [Fld.INL_CTRL_s2]
    let s := s.wrExcept a keep v
    if Word.get v Fld.INL_CTRL_s2 = 0 then s.s2Open
    else if s.modeNow = modeCharge && s.fld a Fld.INL_CTRL_role = 0 && (s.inletState = inEnergize || s.inletState = inRun) then
      (s.setf a Fld.INL_CTRL_s2 1).setf Reg.INL_STAT Fld.INL_STAT_s2_on 1
    else s.setf Reg.INL_STAT Fld.INL_STAT_cfg_err 1

def State.feWrite (s : State) (a : Nat) (v : Word) : State :=
  let d := a % 0x10000 / 0x100
  if a = Reg.INL_CTRL then s.inletWrite v
  else if a = Reg.RES_CTRL d && d < 2 then (s.frontWrite d a (Reg.ENC_CTRL d) v).frontEnable d (s.on a Fld.RES_CTRL_en)
  else if a = Reg.ENC_CTRL d && d < 2 then s.frontWrite d a (Reg.RES_CTRL d) v
  else s.wrReg a v

/-! ## Canter engines -/

/-- Law-memory word `i` lies inside a section of an enabled or busy law (R119). -/
def State.lawWordHeld (s : State) (e i : Nat) : Bool :=
  (List.range 4).any (fun l =>
    let c := Reg.LAW_CODE e l
    let h := Reg.LAW_LAH e l
    (s.lawOn e l || s.lawBusy e l) &&
      ((s.fld c Fld.LAW_CODE_entry ≤ i && i ≤ s.fld c Fld.LAW_CODE_end) ||
        (s.lawAhead e l && s.fld h Fld.LAW_LAH_lentry ≤ i && i ≤ s.fld h Fld.LAW_LAH_lend)))

/-- An enabled law names table `t` (R150). -/
def State.tableHeld (s : State) (e t : Nat) : Bool :=
  (List.range 4).any (fun l => s.lawOn e l &&
    (s.mainSection e l ++ s.aheadSection e l).any (fun w => (canOp w = 0x28 || canOp w = 0x29) && Word.get w fT = t))

/-- CE_CTRL: en = 1 enables; fkind and fidx are ignored while a law is enabled, and fidx has the range of its kind (R144). -/
def State.engineWrite (s : State) (e : Nat) (v : Word) : State :=
  let a := Reg.CE_CTRL e
  let s := if (List.range 4).any (s.lawOn e) then s
    else
      let s := s.wrOnly a [Fld.CE_CTRL_fkind] v
      if s.fld a Fld.CE_CTRL_fkind = 2 && 7 < Word.get v Fld.CE_CTRL_fidx then s else s.wrOnly a [Fld.CE_CTRL_fidx] v
  if Word.get v Fld.CE_CTRL_en = 1 then s.engineStart e else s

/-- Registers of engine `e` (R119, R144, R150). -/
def State.ceWrite (s : State) (e a : Nat) (v : Word) : State :=
  let o := a % 0x10000
  let l := o / 0x100 - 1
  if o = 0 then s.engineWrite e v
  else if 0x40 ≤ o && o < 0x80 then
    if Word.get v Fld.CE_TBL_kind = 3 || s.tableHeld e ((o - 0x40) / 4) then s else s.wrReg a v
  else if 0x100 ≤ o && o < 0x500 then
    if a = Reg.LAW_STAT e l then s.wrReg a v
    else if s.lawOn e l || s.lawBusy e l then s
    else if a = Reg.LAW_CTRL e l then s.wrExcept a [Fld.LAW_CTRL_en] v
    else s.wrReg a v
  else if 0x1000 ≤ o && o < 0x2000 then (if s.lawWordHeld e ((o - 0x1000) / 4) then s else s.wrReg a v)
  else if 0x2000 ≤ o && o < 0x4000 then s
  else s.wrReg a v

/-! ## Gate-channel links -/

/-- DCL_CHON, DCL_CHOFF, DCL_OV and DCL_OVHYS keep four conditions (R256). -/
def State.linkLevel (s : State) (a : Nat) (v : Word) : State :=
  let x := fun b => if b = a then v.toNat % 2048 else s.fld b Fld.DCL_CHON_v
  if s.locked then s
  else if x Reg.DCL_CHOFF < x Reg.DCL_CHON && x Reg.DCL_CHON < x Reg.DCL_OV && x Reg.DCL_OV ≤ 1150 && 5 ≤ x Reg.DCL_OVHYS then
    s.wrReg a v
  else s.gdcErr

/-- Registers of HV channel `n` (R240, R260). -/
def State.gchWrite (s : State) (n a : Nat) (v : Word) : State :=
  let o := a % 0x80
  if o = 0xC then
    if s.locked then s
    else if 80 < Word.get v Fld.GCH_LBND_pre_max || Word.get v Fld.GCH_LBND_pre_max < Word.get v Fld.GCH_LBND_pre_min ||
        Word.get v Fld.GCH_LBND_sl_max < Word.get v Fld.GCH_LBND_sl_min then s.gdcErr
    else s.wrReg a v
  else if 0x40 ≤ o && o < 0x60 && s.hvFollows n then s
  else s.wrReg a v

def State.gdcWrite (s : State) (a : Nat) (v : Word) : State :=
  let o := a % 0x10000
  if a = Reg.GDC_CTRL then (s.wrReg a v).forN 34 (fun s n => if s.hvFault n = 1 then s.lockLeg n else s)
  else if a = Reg.GDC_ENR then s.wrExcept a [Fld.GDC_ENR_pulse] v
  else if a = Reg.GDC_PRB then
    if s.variant = .d then s.wrMasked a 0x1A3 v else s.wrExcept a [⟨16, 1⟩] v
  else if a = Reg.DCL_CHON || a = Reg.DCL_CHOFF || a = Reg.DCL_OV || a = Reg.DCL_OVHYS then s.linkLevel a v
  else if a = Reg.BRK_CTRL then (s.wrReg a v).hvRefresh 32
  else if a = Reg.DSC_CTRL then (if Word.get v Fld.DSC_CTRL_req = 0 then s.wrReg a v else s)
  else if 0x1000 ≤ o && o < 0x2100 then s.gchWrite ((o - 0x1000) / 0x80) a v
  else s.wrReg a v

/-! ## Message buses -/

/-- Sessions of a port that is disabled close (R473). -/
def State.portClosed (s : State) (p : Nat) : State :=
  s.forN 8 (fun s k => if s.sessState (k + 1) = 2 && s.sessPort (k + 1) = p then s.closeSession (k + 1) else s)

/-- BUS_CTRL without the writes of en = 1, rec and slp, which are commands (R444). -/
def State.busCtrlWrite (s : State) (p : Nat) (v : Word) : State :=
  let a := Reg.BUS_CTRL p
  let rest := [Fld.BUS_CTRL_en, Fld.BUS_CTRL_rec, Fld.BUS_CTRL_slp]
  if s.on a Fld.BUS_CTRL_en then
    let s := s.wrExcept a (rest ++ [Fld.BUS_CTRL_mode, Fld.BUS_CTRL_fd, Fld.BUS_CTRL_xl, Fld.BUS_CTRL_pxhd]) v
    if Word.get v Fld.BUS_CTRL_en = 0 then (s.setf a Fld.BUS_CTRL_en 0).portClosed p else s
  else if Word.get v Fld.BUS_CTRL_en = 1 then s
  else s.wrExcept a rest v

/-- BUS_SUPi: the silence that the supervisor measures starts over (R457). -/
def State.supervisorWrite (s : State) (p i : Nat) (v : Word) : State :=
  let was := s.anyLoss
  let s := (s.wrReg (Reg.BUS_SUP p i) v).modBus p (fun b => { b with watch := b.watch.set i (some s.dtb) })
  if was && !s.anyLoss then s.sourceOff 11 (scopeOf lvNetwork 0) else s

/-- Registers of port `p` (R444, R446, R452-R454, R457). -/
def State.portWrite (s : State) (p a : Nat) (v : Word) : State :=
  let o := a % 0x10000
  let en := s.on (Reg.BUS_CTRL p) Fld.BUS_CTRL_en
  if o = 0 then s.busCtrlWrite p v
  else if o = 8 || o = 0xC || o = 0x10 || o = 0x18 || o = 0x1C then (if en then s else s.wrReg a v)
  else if 0x80 ≤ o && o < 0xC0 then s.supervisorWrite p ((o - 0x80) / 4) v
  else if 0x1000 ≤ o && o < 0x3000 then
    let k := (o - 0x1000) / 8
    if o % 8 = 0 then s.rxCfgWrite p k v else if s.on (Reg.RXO_CFG p k) Fld.RXO_CFG_en then s else s.wrReg a v
  else if 0x3000 ≤ o && o < 0x4000 then s.wrExcept a [Fld.RXO_STAT_new] v
  else if 0x4000 ≤ o && o < 0x4400 then
    let j := (o - 0x4000) / 0x10
    if o % 0x10 = 0 then s.txCfgWrite p j v
    else if o % 0x10 = 4 && s.on (Reg.TXO_CFG p j) Fld.TXO_CFG_en then s
    else if o % 0x10 = 8 then s.txTiming p j v
    else if o % 0x10 = 0xC then s.wrExcept a [Fld.TXO_STAT_send] v
    else s.wrReg a v
  else if 0x8000 ≤ o && o < 0xC000 then (if s.mapUsed p ((o - 0x8000) / 8) then s else s.wrReg a v)
  else s.wrReg a v

/-! ## Thermal, recorder, security, keeper -/

def State.thWrite (s : State) (a : Nat) (v : Word) : State :=
  let o := a % 0x10000
  if a = Reg.TH_CTRL then s.thermalEnable v
  else if a = Reg.TH_REEN then s
  else if 0x100 ≤ o && o < 0x200 && o % 0x20 < 0xC then s.thermalLevel ((o - 0x100) / 0x20) a v
  else s.wrReg a v

def State.prcWrite (s : State) (a : Nat) (v : Word) : State :=
  if a = Reg.PRC_CTRL then s.recordControl v else s.wrReg a v

/-- The crypto block: words written for a measurement or a debug signature are held as written (R499, R510). -/
def State.secWrite (s : State) (a : Nat) (v : Word) : State :=
  if a = Reg.SEC_CONFIRM || a = Reg.SEC_VCMD || a = Reg.SEC_MEXT then s
  else if (Reg.SEC_MBUF 0 ≤ a && a ≤ Reg.SEC_MBUF 11 && a % 4 = 0) || (Reg.SEC_DBGSIG 0 ≤ a && a ≤ Reg.SEC_DBGSIG 23 && a % 4 = 0) then s.wr a v
  else if a = Reg.SEC_DBGCTL then
    let l := Word.get v Fld.SEC_DBGCTL_level
    if l = 0 || l = 3 then s else s.setf a Fld.SEC_DBGCTL_level l
  else s.wrReg a v


/-- Keeper registers: WAKE is driven only in RUN (R580). -/
def State.kprWrite (s : State) (a : Nat) (v : Word) : State :=
  if a = Reg.KPR_SHIP then s.wrExcept a [Fld.KPR_SHIP_arm] v
  else if a = Reg.KPR_WOUT && Word.get v Fld.KPR_WOUT_drive = 1 && !s.inRunPhase then s.wrExcept a [Fld.KPR_WOUT_drive] v
  else s.wrReg a v

/-! ## Every block -/

/-- A write by core `core` that reaches the block at address `a`, but for the Bridle engine. -/
def State.blockWrite (s : State) (core a : Nat) (v : Word) : State :=
  let w := a / 0x10000
  let o := a % 0x10000
  if w = 0x7000 then s.clkWrite a v
  else if w = 0x7001 then s.pwrWrite core a v
  else if w = 0x7002 then (if a = Reg.RST_SWR then s else s.wrReg a v)
  else if w = 0x7005 || w = 0x7006 then s.harnWrite core (w - 0x7005) a v
  else if w = 0x7008 then s.mgBlockWrite a v
  else if w = 0x7010 then (if o / 0x400 < 40 then s.genWrite (o / 0x400) a v else s)
  else if w = 0x7011 then s.trpWrite a v
  else if w = 0x7020 then s.adcWrite (o / 0x1000) a v
  else if w = 0x7021 then s.feWrite a v
  else if 0x7030 ≤ w && w ≤ 0x703B then s.ceWrite (w - 0x7030) a v
  else if w = 0x7040 then s.gdcWrite a v
  else if 0x7050 ≤ w && w ≤ 0x7053 then s.portWrite (w - 0x7050) a v
  else if w = 0x7060 then s.thWrite a v
  else if w = 0x7068 then s.prcWrite a v
  else if w = 0x7070 then s.secWrite a v
  else if w = 0x7080 then s.kprWrite a v
  else s

end Sys2Proof.Machine
end

