-- ==== Sys2Proof/Machine/FirmwareOps.lean ====
section
/-! DEFINITION. The firmware path of Bridle: the queues and answers of R489-R492, and what the rules give each firmware opcode
(spec/16, spec/17). -/

namespace Sys2Proof.Machine

open Sys2Proof.Crypto (beBytes beNat aesDec ecdsaSign)

def State.brdErr (s : State) : State := s.setf Reg.BRD_STAT Fld.BRD_STAT_cfg_err 1

/-- Team of a firmware opcode's queue. -/
def fwTeam (opcode : Nat) : Nat := if (opRow opcode).any (fun r => r.path = .fwS) then 0 else 1

/-! ## Answers -/

/-- Result bytes of slot `i` that its reply carries. -/
def State.slotResult (s : State) (i : Nat) (x : Slot) : List Byte :=
  s.resultBytes i (min x.rlen (s.resultRoom x.port x.session))

/-- A first reply that ends slot `i`. -/
def State.endSlot (s : State) (i : Nat) (x : Slot) (status time : Nat) (result : List Byte) : State :=
  (s.freeSlot i).firstReply x.port x.session x.seq x.opcode status time result x.tEnd

/-- The firmware's answer for slot `i` (R490, R491). -/
def State.fwAnswer (s : State) (i : Nat) (x : Slot) (status target lat : Nat) : State :=
  if status = stAccepted then
    if target = 14 then s.endSlot i x stInternal 0 []
    else
      let cls := ((opRow x.opcode).map (·.cls)).getD 0
      (s.modSlot i (fun y => { y with outside := 0 < lat })).takeIn i target s.dtb (lat * Config.msCycles + 2400) cls
  else if status = stDone then s.endSlot i x stDone s.dtb (s.slotResult i x)
  else if listedStatus.contains status then s.endSlot i x status 0 (s.slotResult i x)
  else s.brdErr

/-- No answer came in time (R491). -/
def State.fwTimeout (s : State) (i : Nat) (x : Slot) : State := (s.endSlot i x stInternal 0 []).inc Reg.BRD_CNT_FWLATE

/-- Firmware answer time in CLK_CTL cycles. -/
def State.fwTmo (s : State) : Nat := s.fld Reg.BRD_FWCFG Fld.BRD_FWCFG_tmo * Config.usCycles

/-- The firmware takes slot `i`, and with it every slot queued before it. -/
def State.fwTake (s : State) (i : Nat) : State :=
  let taken := fun (q : List Nat) => if q.contains i then q.take (q.idxOf i + 1) else []
  let all := taken s.bridle.fwqA ++ taken s.bridle.fwqS
  let s := s.each all (fun s j => s.modSlot j (fun y => { y with stage := .taken }))
  (s.modBridle (fun b => { b with
    fwqA := b.fwqA.filter (fun j => !all.contains j), fwqS := b.fwqS.filter (fun j => !all.contains j) })).bridleMirror

/-! ## What the firmware does with each opcode (R490, checks 5-9) -/

/-- The outcome of the firmware's checks, with what the commit does beside the signal writes. -/
structure FwAsk where
  ask : Ask
  cfg : List (Nat × Word) := []
  params : Option (List Byte) := none
  job : Option NvmJob := none
  deriving DecidableEq, Repr

def fwAsk (a : Ask) : FwAsk := { ask := a }
def fwRefuse (st : Nat) : FwAsk := { ask := refuse st }
/-- A committing opcode without signal writes. -/
def fwModule (job : Option NvmJob := none) : FwAsk := { ask := { status := stAccepted }, job := job }

/-- Signals of the opcodes of groups 3 and 5 with the bytes of each field (R467). -/
def fwFields (opcode : Nat) : List (Nat × Nat) :=
  match opcode with
  | 0x3010 => [(csig 0x210, 2), (csig 0x211, 2), (csig 0x212, 1)]
  | 0x3011 => [(csig 0x300, 2), (csig 0x301, 2)]
  | 0x3020 => [(csig 0x400, 1), (csig 0x401, 2)]
  | 0x5010 => [(asig 0x220, 2)]
  | 0x5020 => [(asig 0x400, 1)]
  | 0x5030 => [(asig 0x600, 1)]
  | _ => [(asig 0x506, 2)]

/-- Greatest value of the field of one byte. -/
def fwRange (opcode v : Nat) : Bool :=
  match opcode with
  | 0x3020 => v ≤ 5
  | 0x5020 => v ≤ 1
  | 0x5030 => v ≤ 1
  | _ => true

/-- Stages that the opcodes of groups 3 and 5 address. -/
def fwStages (opcode : Nat) : List Nat :=
  match opcode with
  | 0x5010 => [9]
  | 0x5020 => [11]
  | 0x5030 => [12]
  | 0x5040 => [10]
  | _ => [4, 5, 13]

/-- An opcode of group 3 or 5. -/
def State.fwSignals (s : State) (level : Nat) (k : Request) : FwAsk :=
  if k.opcode = 0x3030 then
    (if k.params = [] then fwAsk (s.askWrites level [(csig 0x302, 1)] (fwStages k.opcode)) else fwRefuse stParam)
  else
    let fs := fwFields k.opcode
    if k.params.length ≠ fieldsLen fs || !fwRange k.opcode (beAt k.params 0 1) then fwRefuse stParam
    else fwAsk (s.askWrites level (fieldsAt k.params 0 fs) (fwStages k.opcode))

/-- Bytes of code or data NVM from physical address `a`. -/
def State.nvmBytes (s : State) (a n : Nat) : Option (List Byte) :=
  if 0x40000000 ≤ a && a + n ≤ 0x42000000 then some (s.codeRead a n)
  else if 0x48000000 ≤ a && a + n ≤ 0x48400000 then some (s.nvmRead a n)
  else none

def State.fwNvmRead (s : State) (k : Request) : FwAsk :=
  let n := beAt k.params 4 1
  if k.params.length ≠ 5 || s.resultRoom k.port k.n < n then fwRefuse stParam
  else if !s.domainOn 7 then fwRefuse stMode
  else match s.nvmBytes (beAt k.params 0 4) n with
  | some l => fwAsk { result := l }
  | none => fwRefuse stParam

def State.fwNvmWrite (s : State) (k : Request) : FwAsk :=
  let a := beAt k.params 0 4
  let d := k.params.drop 4
  if k.params.length < 4 || a < 0x48000000 || 0x48400000 < a + d.length then fwRefuse stParam
  else if !s.domainOn 7 then fwRefuse stMode
  else fwModule (some { code := false, at_ := a, data := d })

/-- FW_BLOCK (R504). -/
def State.fwBlock (s : State) (k : Request) : FwAsk :=
  let b := beAt k.params 0 1
  let off := beAt k.params 1 4
  let d := k.params.drop 5
  if k.params.length < 5 || 1 < b || b = s.fld Reg.SEC_BOOTST Fld.SEC_BOOTST_bank || off % 16 ≠ 0 || d.length % 16 ≠ 0 ||
      0x1000000 < off + d.length then fwRefuse stParam
  else if !s.domainOn 7 then fwRefuse stMode
  else fwModule (some { code := true, at_ := 0x40000000 + b * 0x1000000 + off, data := d, erase := off = 0 })

/-- FW_ACTIVATE (R505) with the image headers at offset 0 and the offsets `offs` (log 32). -/
def State.fwActivate (s : State) (k : Request) (offs : List Nat) : FwAsk :=
  let b := beAt k.params 0 1
  if k.params.length ≠ 1 || 1 < b then fwRefuse stParam
  else if 1 < s.modeNow || !s.domainOn 7 then fwRefuse stMode
  else match ((0 :: offs).map (s.verifyImage b)).find? (fun c => c.code ≠ 0) with
  | some c => fwAsk { status := stParam, result := beBytes 1 c.kind ++ beBytes 1 c.code }
  | none => fwModule

/-- The signed part of the attestation report (R508). -/
def State.reportBody (s : State) (nonce : List Byte) : List Byte :=
  let a := Reg.SEC_BOOTST
  let flag := fun (b : Bool) (n : Nat) => if b then n else 0
  let flags := flag s.locked 1 + flag (s.on a Fld.SEC_BOOTST_trial) 2 + flag s.sec.unlocked 4 +
    flag (s.on a Fld.SEC_BOOTST_fallback) 8
  beBytes 4 0x434A5841 ++ beBytes 2 1 ++ beBytes 2 536 ++ s.sec.serial ++ nonce ++ beBytes 8 s.dtb ++
    beBytes 1 (if s.variant = .f then 0 else 1) ++ beBytes 1 (s.fld a Fld.SEC_BOOTST_bank) ++ beBytes 1 flags ++
    beBytes 1 (s.fld a Fld.SEC_BOOTST_slot) ++ beBytes 4 (s.rd Reg.MG_CRC).toNat ++
    [1, 2, 3, 4].flatMap (fun j => beBytes 1 (s.rollback j)) ++ beBytes 4 0 ++ (List.range 8).flatMap s.measurement

/-- The report of session `n` for a nonce: the kept one, or one signed now. -/
def State.attestReport (s : State) (n : Nat) (nonce : List Byte) : State × List Byte :=
  match s.bridle.reports.find? (fun (r : Nat × List Byte × List Byte) => r.1 = n && r.2.1 = nonce) with
  | some r => (s, r.2.2)
  | none =>
    let (rnd, s) := s.drawBytes 48
    let body := s.reportBody nonce
    let rep := body ++ ecdsaSign s.sec.identityKey (beNat rnd) body
    (s.modBridle (fun b => { b with reports := b.reports.filter (fun r => r.1 ≠ n) ++ [(n, nonce, rep)] }), rep)

def State.fwAttest (s : State) (k : Request) : State × FwAsk :=
  let p := beAt k.params 16 1
  let size := if s.replyXl k.port then 480 else 32
  if k.params.length ≠ 17 || 536 ≤ p * size then (s, fwRefuse stParam)
  else if !s.domainOn 7 then (s, fwRefuse stMode)
  else
    let (s, rep) := s.attestReport k.n (k.params.take 16)
    (s, fwAsk { result := (rep.drop (p * size)).take size })

/-- A revocation of image-key slot `j` leaves a slot that is provisioned and not revoked (R496). -/
def State.revocable (s : State) (j : Nat) : Bool := [0, 1, 2, 3].any (fun k => k ≠ j && s.slotUsable k)

/-- KEY_WRITE (R509): the slot keeps the unwrapped key until its commit. -/
def State.fwKeyWrite (s : State) (k : Request) : FwAsk :=
  let id := beAt k.params 0 1
  if !s.domainOn 7 then fwRefuse stMode
  else if 1 ≤ id && id ≤ 4 && k.params.length = 17 then
    { ask := { status := stAccepted }, params := some (k.params.take 1 ++ aesDec (s.sess k.n).kreq (k.params.drop 1)) }
  else if 0x81 ≤ id && id ≤ 0x84 && k.params.length = 1 && s.revocable (id - 0x81) then fwModule
  else fwRefuse stParam

/-- A core's read of a register whose fields are read-clear (R17). -/
def State.readClear (s : State) (a : Nat) : Option (Word × State) :=
  match regAt a with
  | some (r, _) =>
    if r.rc = 0 || a = Reg.BRD_FWQ_A || a = Reg.BRD_FWQ_S then none
    else some (s.rd a, s.wr a (s.rd a &&& ~~~(W r.rc)))
  | none => none

def State.fwCounterRead (s : State) (k : Request) : State × FwAsk :=
  let a := beAt k.params 0 4
  if k.params.length ≠ 4 then (s, fwRefuse stParam)
  else match s.readClear a with
  | none => (s, fwRefuse stParam)
  | some (v, t) =>
    if 8 ≤ domainAt a || s.domainOn (domainAt a) then (t, fwAsk { result := beBytes 4 v.toNat }) else (s, fwRefuse stMode)

/-- TRACE_CFG: the PRC_CTRL word and a list of as many identifiers as its count. -/
def State.fwTraceCfg (_s : State) (k : Request) : FwAsk :=
  let v := W (beAt k.params 0 4)
  let n := (k.params.length - 4) / 3
  let stage := Word.get v Fld.PRC_CTRL_stage
  if k.params.length ≠ 4 + 3 * n || n = 0 || Word.get v Fld.PRC_CTRL_count ≠ n || stage = 14 ||
      (idsOf k.params 4 3 n).isNone then fwRefuse stParam
  else fwModule

def State.fwTraceRead (s : State) (k : Request) : FwAsk :=
  let off := beAt k.params 0 4
  let n := beAt k.params 4 2
  if k.params.length ≠ 6 || s.resultRoom k.port k.n < n || s.ringSize < off + n then fwRefuse stParam
  else fwAsk { result := (List.range n).map (fun j => s.sramGet (s.ringByte (off + j))) }

/-- Checks 6 to 9 of a firmware opcode and its shadow execution. `cfg` is the content of a countersigned block (log 33). -/
def State.fwChecks (s : State) (row : OpRow) (k : Request) (cfg : Option (List (Nat × Word))) (offs : List Nat) :
    State × FwAsk :=
  let level := s.sessLevel k.n
  if k.n = 0 && !session0 k.opcode then (s, fwRefuse stNosession)
  else if level < row.level then (s, fwRefuse stAccess)
  else
    match k.opcode with
    | 0x0030 => (s, if k.params ≠ [] then fwRefuse stParam else if 1 < s.modeNow then fwRefuse stMode else fwModule)
    | 0x6010 => (s, match cfg with
      | none => fwRefuse stParam
      | some ws => if s.locked then fwRefuse stLocked else { fwModule with cfg := ws })
    | 0x6020 =>
      if k.params.length ≠ 2 || !scopeValid (beAt k.params 0 2) then (s, fwRefuse stParam)
      else (s.mgClear (beAt k.params 0 2), fwAsk {})
    | 0x7010 => (s, s.fwNvmRead k)
    | 0x7011 => (s, s.fwNvmWrite k)
    | 0x7020 => (s, s.fwBlock k)
    | 0x7021 => (s, s.fwActivate k offs)
    | 0x8020 => s.fwAttest k
    | 0x8030 => (s, s.fwKeyWrite k)
    | 0x9010 => s.fwCounterRead k
    | 0x9020 =>
      if k.params.length ≠ 2 then (s, fwRefuse stParam)
      else
        let m := beAt k.params 0 2 &&& (if s.variant = .d then 0x1A3 else 0x1BF)
        ((s.setf Reg.GDC_PRB Fld.GDC_PRB_mask m).probeRequest, fwAsk {})
    | 0xA010 => (s, s.fwTraceCfg k)
    | 0xA011 => (s, s.fwTraceRead k)
    | _ => (s, s.fwSignals level k)

/-! ## A firmware opcode served in full -/

/-- The packet of a slot as a request. -/
def Slot.request (x : Slot) : Request :=
  { port := x.port, xl := x.xl, n := x.session, seq := x.seq, opcode := x.opcode, conf := x.conf, params := x.params
    body := [], mac := [], tEnd := x.tEnd }

/-- The firmware puts a result into the window of slot `i`. -/
def State.putResult (s : State) (i : Nat) (l : List Byte) : State :=
  (s.forN ((l.length + 3) / 4) (fun s j => s.wr (Reg.BRD_RSLT i j) ((packWords l 128).getD j 0))).modSlot i
    (fun y => { y with rlen := l.length })

/-- The firmware serves slot `i`: it answers `t` cycles after the packet entered the queue, or too late, with outside work of
`lat` ms (log 32, log 33). -/
def State.fwServe (s : State) (i : Nat) (cfg : Option (List (Nat × Word))) (offs : List Nat) (t lat : Nat) : State :=
  match s.slot i, (s.slot i).bind (fun x => opRow x.opcode) with
  | some x, some row =>
    if !s.teamLive (fwTeam x.opcode) then s
    else if s.fwTmo < t then (s.reach (x.entered + s.fwTmo)).fwTimeout i x
    else
      let (s, a) := ((s.reach (x.entered + t)).fwTake i).fwChecks row x.request cfg offs
      let s := s.modSlot i (fun y => { y with writes := a.ask.writes, cfg := a.cfg, params := a.params.getD y.params })
      let s := s.putResult i a.ask.result
      match s.slot i with
      | none => s
      | some x =>
        let s := s.fwAnswer i x a.ask.status a.ask.target lat
        match a.job with
        | some j => if (s.slot i).any (fun y => y.stage = .waiting) then s.program j else s
        | none => s
  | _, _ => s

/-- A host sends a firmware opcode; with `ans` the firmware serves it as above. -/
def State.fwRequest (s : State) (p : Nat) (xl : Bool) (n seq opcode : Nat) (conf : Bool) (params mac : List Byte)
    (ans : Option (Nat × Nat)) (cfg : Option (List (Nat × Word)) := none) (offs : List Nat := []) : State :=
  let free := s.slotFree
  let s := s.request p xl n seq opcode conf params mac
  match free, ans with
  | some i, some (t, lat) =>
    if (s.slot i).any (fun x => x.stage = .queued && x.seq = seq && x.opcode = opcode) then s.fwServe i cfg offs t lat else s
  | _, _ => s

/-! ## Commits (R484, R488, R492) -/

/-- Waiting slots whose commit is the earliest, and that commit. -/
def State.nextCommit (s : State) : Option Nat :=
  minOf (s.bridle.slots.filterMap (fun o => o.bind (fun x => if x.stage = .waiting then some x.commit else none)))

/-- Insertion by a rising key, and the sort it makes; equal keys keep their order. -/
def insertBy (key : Nat × Slot → Nat) (x : Nat × Slot) : List (Nat × Slot) → List (Nat × Slot)
  | [] => [x]
  | y :: ys => if key x ≤ key y then x :: y :: ys else y :: insertBy key x ys

def sortBy (key : Nat × Slot → Nat) (l : List (Nat × Slot)) : List (Nat × Slot) := l.foldr (insertBy key) []

/-- Slots due at `b` in the order of admission. -/
def State.dueAt (s : State) (b : Nat) : List (Nat × Slot) :=
  let l := s.bridle.slots.zipIdx.filterMap (fun (o : Option Slot × Nat) =>
    o.1.bind (fun x => if x.stage = .waiting && x.commit = b then some (o.2, x) else none))
  sortBy (fun x => x.2.order) l

/-- The packets of each session in its places, by sequence (R488). -/
def bySequence (l : List (Nat × Slot)) : List (Nat × Slot) :=
  let mine := fun (n : Nat) => sortBy (fun x => x.2.seq) (l.filter (fun x => x.2.session = n))
  l.zipIdx.map (fun (x : (Nat × Slot) × Nat) =>
    (mine x.1.2.session).getD ((l.take x.2).countP (fun y => y.2.session = x.1.2.session)) x.1)

/-- What a committed opcode does beside its signal writes. -/
def State.commitEffect (s : State) (x : Slot) : State :=
  match x.opcode with
  | 0x0010 => s.commitMode (beAt x.params 0 1)
  | 0x6010 => s.each x.cfg (fun s w => s.blockWrite 0 w.1 w.2)
  | 0x7021 => s.programRecord (some (beAt x.params 0 1)) 1
  | 0x8030 =>
    let id := beAt x.params 0 1
    if id < 0x81 then s.modSecure (fun c => { c with levelKey := c.levelKey.set (id - 1) (some (x.params.drop 1)) })
    else if s.revocable (id - 0x81) then s.setf Reg.SEC_SLOTST (bitF (4 + (id - 0x81))) 1
    else s
  | 0xA010 =>
    let v := W (beAt x.params 0 4)
    let ids := (idsOf x.params 4 3 ((x.params.length - 4) / 3)).getD []
    let s := s.recordControl 0
    let s := s.each ids.zipIdx (fun s (e : Nat × Nat) => s.wr (Reg.PRC_LIST e.2) (W e.1))
    s.recordControl v
  | _ => s

/-- One committed signal write, while Bridle owns the signal (R67); the blocks that watch signals take it. -/
def State.commitWrite (s : State) (w : Nat × Word) : State :=
  if s.writable w.1 && dOclass (s.desc w.1) = 5 then
    (s.putNow w.1 w.2).watchWrite w.1 (typedValue (s.desc w.1) w.2)
  else s

/-- Slot `i` commits now, at `b`; a miss of the firmware reins it back (R492). -/
def State.commitSlot (s : State) (b i : Nat) (x : Slot) : State :=
  let s := s.freeSlot i
  if x.outside && !x.done then (s.secondReply x stInternal 0).inc Reg.BRD_CNT_FWLATE
  else
    let ws := if x.opcode = 0x0010 then [] else x.writes
    let s := (s.each ws (fun s w => s.commitWrite w)).commitEffect x
    if x.conf then s.secondReply x stDone b else s

/-- Re-enable requests of a commit (R435): the bits of a write of S.9.0001. -/
def State.commitReenable (s : State) (ws : List (Nat × Word)) : State :=
  match (ws.filter (fun w => w.1 = sid 9 1)).getLast? with
  | some w => { s with thermal := { s.thermal with reen := s.thermal.reen ||| w.2.toNat % 256 } }
  | none => s

/-- The engine commits at boundary `b` every packet due there; a software reset comes last. -/
def State.commitAt (s : State) (b : Nat) : State :=
  let l := bySequence (s.dueAt b)
  let ws := l.flatMap (fun x => if x.2.outside && !x.2.done then [] else x.2.writes)
  let s := s.each l (fun s x => s.commitSlot b x.1 x.2)
  let s := (((s.drvCommit (ws.map (·.1))).lvCommit (ws.map (·.1))).commitReenable ws).irq 89
  if l.any (fun x => x.2.opcode = 0x0030 && (!x.2.outside || x.2.done)) then s.softwareReset else s

end Sys2Proof.Machine
end

