-- ==== Sys2Proof/Machine/Bridle.lean ====
section
/-! DEFINITION. Meanings of the Bridle commands: the opcodes, the events of the engine and the firmware's register accesses
(spec/16). An opcode's command is the whole request: port `p`, session `n`, sequence, CONF, whether it comes in an XL frame, its
parameter bytes and its MAC. -/

namespace Sys2Proof.Machine

/-! ## Opcodes of the engine -/

/-- PING (0x0001, R467): answers ST_DONE. -/
def execPing (p n seq : Nat) (conf xl : Bool) (params mac : List Byte) (s : State) : Outcome :=
  ofUnit (p < 4) (s.request p xl n seq 0x0001 conf params mac)

/-- SET_MODE (0x0010, R44, R45, R472): asks for a mode. -/
def execSetMode (p n seq : Nat) (conf xl : Bool) (params mac : List Byte) (s : State) : Outcome :=
  ofUnit (p < 4) (s.request p xl n seq 0x0010 conf params mac)

/-- CAP_READ (0x0020, R470): reads the capability list. -/
def execCapRead (p n seq : Nat) (conf xl : Bool) (params mac : List Byte) (s : State) : Outcome :=
  ofUnit (p < 4) (s.request p xl n seq 0x0020 conf params mac)

/-- SIG_READ (0x1010, R470): reads signals. -/
def execSigRead (p n seq : Nat) (conf xl : Bool) (params mac : List Byte) (s : State) : Outcome :=
  ofUnit (p < 4) (s.request p xl n seq 0x1010 conf params mac)

/-- SIG_WRITE (0x1011, R71, R468): writes signals that Bridle owns. -/
def execSigWrite (p n seq : Nat) (conf xl : Bool) (params mac : List Byte) (s : State) : Outcome :=
  ofUnit (p < 4) (s.request p xl n seq 0x1011 conf params mac)

/-- SIG_SUBSCRIBE (0x1012, R471): starts notifications. -/
def execSigSubscribe (p n seq : Nat) (conf xl : Bool) (params mac : List Byte) (s : State) : Outcome :=
  ofUnit (p < 4) (s.request p xl n seq 0x1012 conf params mac)

/-- SIG_UNSUBSCRIBE (0x1013, R471): ends a subscription. -/
def execSigUnsubscribe (p n seq : Nat) (conf xl : Bool) (params mac : List Byte) (s : State) : Outcome :=
  ofUnit (p < 4) (s.request p xl n seq 0x1013 conf params mac)

/-- SET_TORQUE (0x2010, R469): writes S.1.0300 or S.2.0300. -/
def execSetTorque (p n seq : Nat) (conf xl : Bool) (params mac : List Byte) (s : State) : Outcome :=
  ofUnit (p < 4) (s.request p xl n seq 0x2010 conf params mac)

/-- SET_SPEED (0x2011, R469): writes S.1.0301 or S.2.0301. -/
def execSetSpeed (p n seq : Nat) (conf xl : Bool) (params mac : List Byte) (s : State) : Outcome :=
  ofUnit (p < 4) (s.request p xl n seq 0x2011 conf params mac)

/-- SET_CTRL_MODE (0x2012, R467): writes S.1.0302 or S.2.0302. -/
def execSetCtrlMode (p n seq : Nat) (conf xl : Bool) (params mac : List Byte) (s : State) : Outcome :=
  ofUnit (p < 4) (s.request p xl n seq 0x2012 conf params mac)

/-- SET_DIRECTION (0x2013, R467): writes S.1.0305 or S.2.0305. -/
def execSetDirection (p n seq : Nat) (conf xl : Bool) (params mac : List Byte) (s : State) : Outcome :=
  ofUnit (p < 4) (s.request p xl n seq 0x2013 conf params mac)

/-- SET_TORQUE_LIMITS (0x2014, R467): writes the motoring and regenerating limits of a drive. -/
def execSetTorqueLimits (p n seq : Nat) (conf xl : Bool) (params mac : List Byte) (s : State) : Outcome :=
  ofUnit (p < 4) (s.request p xl n seq 0x2014 conf params mac)

/-- SET_NET_VOLTAGE (0x4010, R342, R348): writes S.6.0300. -/
def execSetNetVoltage (p n seq : Nat) (conf xl : Bool) (params mac : List Byte) (s : State) : Outcome :=
  ofUnit (p < 4) (s.request p xl n seq 0x4010 conf params mac)

/-- SET_LV_RUN (0x4011, R338): writes S.6.0307. -/
def execSetLvRun (p n seq : Nat) (conf xl : Bool) (params mac : List Byte) (s : State) : Outcome :=
  ofUnit (p < 4) (s.request p xl n seq 0x4011 conf params mac)

/-- LV_CLEAR (0x4012, R338): writes S.6.0306. -/
def execLvClear (p n seq : Nat) (conf xl : Bool) (params mac : List Byte) (s : State) : Outcome :=
  ofUnit (p < 4) (s.request p xl n seq 0x4012 conf params mac)

/-- SESSION_OPEN (0x8010, R474): allocates a session. -/
def execSessionOpen (p n seq : Nat) (conf xl : Bool) (params mac : List Byte) (s : State) : Outcome :=
  ofUnit (p < 4) (s.request p xl n seq 0x8010 conf params mac)

/-- SESSION_PROOF (0x8011, R475, R479): checks the host's proof. -/
def execSessionProof (p n seq : Nat) (conf xl : Bool) (params mac : List Byte) (s : State) : Outcome :=
  ofUnit (p < 4) (s.request p xl n seq 0x8011 conf params mac)

/-- SESSION_CLOSE (0x8012, R480): frees the session. -/
def execSessionClose (p n seq : Nat) (conf xl : Bool) (params mac : List Byte) (s : State) : Outcome :=
  ofUnit (p < 4) (s.request p xl n seq 0x8012 conf params mac)

/-! ## Opcodes of the firmware

`ans` is the firmware's answer: its time in CLK_CTL cycles after the packet entered the queue, and the time of its outside work in
ms. With none the packet waits in its queue. -/

/-- SW_RESET (0x0030, R467, R560): requests a software reset. -/
def execSwReset (p n seq : Nat) (conf xl : Bool) (params mac : List Byte) (ans : Option (Nat × Nat)) (s : State) :
    Outcome :=
  ofUnit (p < 4) (s.fwRequest p xl n seq 0x0030 conf params mac ans)

/-- SET_CHARGE_LIMITS (0x3010, R467): writes S.4.0210, S.4.0211 and S.4.0212. -/
def execSetChargeLimits (p n seq : Nat) (conf xl : Bool) (params mac : List Byte) (ans : Option (Nat × Nat)) (s : State) :
    Outcome :=
  ofUnit (p < 4) (s.fwRequest p xl n seq 0x3010 conf params mac ans)

/-- SET_INPUT_LIMIT (0x3011, R305): writes S.4.0300 and S.4.0301. -/
def execSetInputLimit (p n seq : Nat) (conf xl : Bool) (params mac : List Byte) (ans : Option (Nat × Nat)) (s : State) :
    Outcome :=
  ofUnit (p < 4) (s.fwRequest p xl n seq 0x3011 conf params mac ans)

/-- SET_SUPPLY (0x3020, R314): writes S.4.0400 and S.4.0401. -/
def execSetSupply (p n seq : Nat) (conf xl : Bool) (params mac : List Byte) (ans : Option (Nat × Nat)) (s : State) :
    Outcome :=
  ofUnit (p < 4) (s.fwRequest p xl n seq 0x3020 conf params mac ans)

/-- CLEAR_LOCKOUT (0x3030, R309): writes S.4.0302. -/
def execClearLockout (p n seq : Nat) (conf xl : Bool) (params mac : List Byte) (ans : Option (Nat × Nat)) (s : State) :
    Outcome :=
  ofUnit (p < 4) (s.fwRequest p xl n seq 0x3030 conf params mac ans)

/-- SHIFT_TO (0x5010, R357): writes S.7.0220. -/
def execShiftTo (p n seq : Nat) (conf xl : Bool) (params mac : List Byte) (ans : Option (Nat × Nat)) (s : State) :
    Outcome :=
  ofUnit (p < 4) (s.fwRequest p xl n seq 0x5010 conf params mac ans)

/-- PARK_REQ (0x5020, R359): writes S.7.0400. -/
def execParkReq (p n seq : Nat) (conf xl : Bool) (params mac : List Byte) (ans : Option (Nat × Nat)) (s : State) :
    Outcome :=
  ofUnit (p < 4) (s.fwRequest p xl n seq 0x5020 conf params mac ans)

/-- CLUTCH_REQ (0x5030, R360): writes S.7.0600. -/
def execClutchReq (p n seq : Nat) (conf xl : Bool) (params mac : List Byte) (ans : Option (Nat × Nat)) (s : State) :
    Outcome :=
  ofUnit (p < 4) (s.fwRequest p xl n seq 0x5030 conf params mac ans)

/-- PUMP_DEMAND (0x5040, R361): writes S.7.0506. -/
def execPumpDemand (p n seq : Nat) (conf xl : Bool) (params mac : List Byte) (ans : Option (Nat × Nat)) (s : State) :
    Outcome :=
  ofUnit (p < 4) (s.fwRequest p xl n seq 0x5040 conf params mac ans)

/-- SAFETY_CFG (0x6010, R467): applies a safety configuration block before the lock; `cfg` is what the block holds if it is countersigned (log 33). -/
def execSafetyCfg (p n seq : Nat) (conf xl : Bool) (params mac : List Byte) (ans : Option (Nat × Nat)) (cfg : Option (List (Nat × Word))) (s : State) :
    Outcome :=
  ofUnit (p < 4) (s.fwRequest p xl n seq 0x6010 conf params mac ans (cfg := cfg))

/-- SAFETY_CLEAR (0x6020, R415): writes a scope to MG_CLR. -/
def execSafetyClear (p n seq : Nat) (conf xl : Bool) (params mac : List Byte) (ans : Option (Nat × Nat)) (s : State) :
    Outcome :=
  ofUnit (p < 4) (s.fwRequest p xl n seq 0x6020 conf params mac ans)

/-- NVM_READ (0x7010, R467): returns bytes of NVM. -/
def execNvmRead (p n seq : Nat) (conf xl : Bool) (params mac : List Byte) (ans : Option (Nat × Nat)) (s : State) :
    Outcome :=
  ofUnit (p < 4) (s.fwRequest p xl n seq 0x7010 conf params mac ans)

/-- NVM_WRITE (0x7011, R492): programs data NVM. -/
def execNvmWrite (p n seq : Nat) (conf xl : Bool) (params mac : List Byte) (ans : Option (Nat × Nat)) (s : State) :
    Outcome :=
  ofUnit (p < 4) (s.fwRequest p xl n seq 0x7011 conf params mac ans)

/-- FW_BLOCK (0x7020, R504): programs a block of the inactive code bank. -/
def execFwBlock (p n seq : Nat) (conf xl : Bool) (params mac : List Byte) (ans : Option (Nat × Nat)) (s : State) :
    Outcome :=
  ofUnit (p < 4) (s.fwRequest p xl n seq 0x7020 conf params mac ans)

/-- FW_ACTIVATE (0x7021, R505): verifies a bank, with further image headers at `offs` (log 32), and makes it the trial bank. -/
def execFwActivate (p n seq : Nat) (conf xl : Bool) (params mac : List Byte) (ans : Option (Nat × Nat)) (offs : List Nat) (s : State) :
    Outcome :=
  ofUnit (p < 4) (s.fwRequest p xl n seq 0x7021 conf params mac ans (offs := offs))

/-- ATTEST (0x8020, R508): returns a page of the attestation report. -/
def execAttest (p n seq : Nat) (conf xl : Bool) (params mac : List Byte) (ans : Option (Nat × Nat)) (s : State) :
    Outcome :=
  ofUnit (p < 4) (s.fwRequest p xl n seq 0x8020 conf params mac ans)

/-- KEY_WRITE (0x8030, R509): writes a level key or revokes an image-key slot. -/
def execKeyWrite (p n seq : Nat) (conf xl : Bool) (params mac : List Byte) (ans : Option (Nat × Nat)) (s : State) :
    Outcome :=
  ofUnit (p < 4) (s.fwRequest p xl n seq 0x8030 conf params mac ans)

/-- COUNTER_READ (0x9010, R467): returns a counter. -/
def execCounterRead (p n seq : Nat) (conf xl : Bool) (params mac : List Byte) (ans : Option (Nat × Nat)) (s : State) :
    Outcome :=
  ofUnit (p < 4) (s.fwRequest p xl n seq 0x9010 conf params mac ans)

/-- PROBE_START (0x9020, R250): starts the probe of bridges. -/
def execProbeStart (p n seq : Nat) (conf xl : Bool) (params mac : List Byte) (ans : Option (Nat × Nat)) (s : State) :
    Outcome :=
  ofUnit (p < 4) (s.fwRequest p xl n seq 0x9020 conf params mac ans)

/-- TRACE_CFG (0xA010, R467): configures the period recorder. -/
def execTraceCfg (p n seq : Nat) (conf xl : Bool) (params mac : List Byte) (ans : Option (Nat × Nat)) (s : State) :
    Outcome :=
  ofUnit (p < 4) (s.fwRequest p xl n seq 0xA010 conf params mac ans)

/-- TRACE_READ (0xA011, R467): returns bytes of the recorder ring. -/
def execTraceRead (p n seq : Nat) (conf xl : Bool) (params mac : List Byte) (ans : Option (Nat × Nat)) (s : State) :
    Outcome :=
  ofUnit (p < 4) (s.fwRequest p xl n seq 0xA011 conf params mac ans)

/-! ## Events of the engine -/

/-- BRIDLE_COMMIT (R484, R488): the next commit boundary of a waiting packet. -/
def execBridleCommit (s : State) : Outcome :=
  .next <|
    match s.nextCommit with
    | some b => if s.domainOn 5 then (s.reach b).commitAt b else s
    | none => s

/-- SUBSCRIPTION_NOTIFY (R471): subscription `i` at the 1 ms boundary of its period. -/
def execSubscriptionNotify (i : Nat) (s : State) : Outcome :=
  .next <|
    match s.bridle.subs[i]? with
    | none => s
    | some x =>
      if !s.bridleOn then s
      else
        let b := x.next * Config.msCycles
        let s := s.reach b
        if x.ids.any (fun id => s.sessLevel x.session < dRlevel (s.desc id)) then
          s.modBridle (fun y => { y with subs := y.subs.eraseIdx i })
        else
          let bytes := replyBytes (s.sess x.session).krep true x.session x.seq 0x1012 stDone b (s.sigResult x.ids)
          let s := s.modBridle (fun y => { y with subs := y.subs.set i { x with next := x.next + x.period } })
          s.postReply x.port bytes (min ((x.next + x.period) * Config.msCycles) (s.dtb + s.rdl))

/-- SESSION_IDLE_TIMEOUT (R473, R480): session `n` has been idle for BRD_CTRL.idle. -/
def execSessionIdleTimeout (n : Nat) (s : State) : Outcome :=
  ofUnit (1 ≤ n && n ≤ 8) <|
    if s.sessState n = 2 then
      (s.reach ((s.sess n).last + s.fld Reg.BRD_CTRL Fld.BRD_CTRL_idle * 10 * Config.msCycles)).closeSession n
    else s

/-- SESSION_OPEN_TIMEOUT (R473): session `n` has been OPENING for 1 s. -/
def execSessionOpenTimeout (n : Nat) (s : State) : Outcome :=
  ofUnit (1 ≤ n && n ≤ 8) <|
    if s.sessState n = 1 then (s.reach ((s.sess n).last + 1000 * Config.msCycles)).closeSession n else s

/-- AUTH_LOCK_END (R479): the lock of level `l` ends on the RTC. -/
def execAuthLockEnd (l : Nat) (s : State) : Outcome :=
  ofUnit (1 ≤ l && l ≤ 4) <|
    if s.on (Reg.BRD_LOCK (l - 1)) Fld.BRD_LOCK_rem then
      (s.reachRtc (s.sec.lockEnd.getD (l - 1) 0)).setf (Reg.BRD_LOCK (l - 1)) Fld.BRD_LOCK_rem 0
    else s

/-- BRIDLE_DISABLE (R473): a write of BRD_CTRL.en = 0 closes every session and reins back every packet. -/
def execBridleDisable (core : Nat) (s : State) : Outcome :=
  ofUnit (core < 6) <|
    s.access core (s.domainOn 5 && s.clocked 8) (fun s =>
      let s := s.setf Reg.BRD_CTRL Fld.BRD_CTRL_en 0
      let s := s.forN 8 (fun s k => if s.sessState (k + 1) = 0 then s else s.closeSession (k + 1))
      s.forN 32 (fun s k => s.freeSlot k))

/-! ## Register accesses of the firmware -/

/-- The slot that a write of core `core` names: accepted from the team of its queue while it waits for that write (R494). -/
def State.fwSlot (s : State) (core i : Nat) (ok : Slot → Bool) : Option Slot :=
  (s.slot i).filter (fun x => ok x && teamOf core = fwTeam x.opcode && (opRow x.opcode).any (fun r => r.path ≠ .hw))

/-- A read of the queue of Team S or of Team A by core `core` of that team (R489). -/
def State.fwqRead (s : State) (core : Nat) (safety : Bool) : State :=
  if teamOf core ≠ (if safety then 0 else 1) then s.accessFault core
  else match (if safety then s.bridle.fwqS else s.bridle.fwqA) with
    | [] => s.returns core 0xFF
    | i :: _ => (s.fwTake i).returns core (W i)

/-- BRD_FWQ_READ (R489): a read of BRD_FWQ_A, or with `safety` of BRD_FWQ_S. -/
def execBrdFwqRead (core : Nat) (safety : Bool) (s : State) : Outcome :=
  ofUnit (core < 6) (s.access core (s.domainOn 5 && s.clocked 8) (fun s => s.fwqRead core safety))

/-- FIRMWARE_PENDING_WRITE (R490, R494): a write of BRD_FWPW_VAL. -/
def execFirmwarePendingWrite (core : Nat) (v : Word) (s : State) : Outcome :=
  ofUnit (core < 6) <|
    s.access core (s.domainOn 5 && s.clocked 8) (fun s =>
      let i := Word.get s.bridle.pwId Fld.BRD_FWPW_ID_slot
      let id := Word.get s.bridle.pwId Fld.BRD_FWPW_ID_sig
      match s.fwSlot core i (fun x => x.stage = .taken) with
      | some x =>
        if x.writes.length < 32 && dDefined (s.desc id) && dOclass (s.desc id) = 5 then
          s.modSlot i (fun y => { y with writes := y.writes ++ [(id, v)] })
        else s.brdErr
      | none => s.brdErr)

/-- FIRMWARE_ANSWER (R490, R491, R494): a write of BRD_FWRES. -/
def execFirmwareAnswer (core : Nat) (v : Word) (s : State) : Outcome :=
  ofUnit (core < 6) <|
    s.access core (s.domainOn 5 && s.clocked 8) (fun s =>
      let i := Word.get v Fld.BRD_FWRES_slot
      match s.fwSlot core i (fun x => x.stage = .taken) with
      | some x => s.fwAnswer i x (Word.get v Fld.BRD_FWRES_status) (Word.get v Fld.BRD_FWRES_target) (Word.get v Fld.BRD_FWRES_lat)
      | none => s.brdErr)

/-- FIRMWARE_ANSWER_TIMEOUT (R491): slot `i` has had no answer for tmo. -/
def execFirmwareAnswerTimeout (i : Nat) (s : State) : Outcome :=
  ofUnit (i < 32) <|
    match s.slot i with
    | some x => if x.stage = .waiting then s else (s.reach (x.entered + s.fwTmo)).fwTimeout i x
    | none => s

/-- FIRMWARE_WORK_DONE (R492, R494): a write of BRD_FWCMT. -/
def execFirmwareWorkDone (core : Nat) (v : Word) (s : State) : Outcome :=
  ofUnit (core < 6) <|
    s.access core (s.domainOn 5 && s.clocked 8) (fun s =>
      let i := Word.get v Fld.BRD_FWCMT_slot
      match s.fwSlot core i (fun x => x.stage = .waiting && x.outside) with
      | some _ => s.modSlot i (fun y => { y with done := true })
      | none => s.brdErr)

end Sys2Proof.Machine
end

