-- ==== Sys2Proof/Machine/Buses.lean ====
section
/-! DEFINITION. Meanings of the commands of the message-bus ports (spec/15). -/

namespace Sys2Proof.Machine

/-! ## Enable and reception -/

/-- BUS_ENABLE (R441-R444): a write of BUS_CTRL with en = 1 to a port that is not enabled. -/
def execBusEnable (core p : Nat) (v : Word) (s : State) : Outcome :=
  ofUnit (core < 6 && p < 4) <|
    s.portAccess core (fun s =>
      if s.on (Reg.BUS_CTRL p) Fld.BUS_CTRL_en || Word.get v Fld.BUS_CTRL_en = 0 then s
      else
        let s := s.busEnable p v
        if s.on (Reg.BUS_CTRL p) Fld.BUS_CTRL_en && Word.get v Fld.BUS_CTRL_slp = 1 then s.busSleepNow p else s)

/-- BUS_INTEGRATION_DONE (R444): 11 consecutive recessive bits. -/
def execBusIntegrationDone (p : Nat) (s : State) : Outcome :=
  ofUnit (p < 4) <|
    if s.portOn p && s.clocked 7 && s.clkScale = 0 then s.setf (Reg.BUS_STAT p) Fld.BUS_STAT_integ 0 else s

/-- FRAME_RECEIVED (R445): a valid frame from another node ends on the bus; one of a format that the port does not accept is a
protocol exception (R440). -/
def execFrameReceived (p fmt : Nat) (ide : Bool) (id : Nat) (data : List Byte) (sdt vcid af : Nat) (s : State) : Outcome :=
  ofUnit (p < 4) <|
    let f : Frame := { fmt := fmt, ide := ide, id := id, data := data, sdt := sdt, vcid := vcid, af := af }
    if s.portLive p && s.busMode p ≠ 3 && frameLengthOk f then
      (if s.formatOn p f then s.receiveFrame p f else s.protocolException p)
    else s

/-- RX_OBJECT_CONSUME (R448): a core writes 1 to RXO_STAT.new. -/
def execRxObjectConsume (core p k : Nat) (s : State) : Outcome :=
  ofUnit (core < 6 && p < 4 && k < 1024) <|
    s.portAccess core (fun s => s.setf (Reg.RXO_STAT p k) Fld.RXO_STAT_new 0)

/-! ## Transmission -/

/-- TRANSMIT_OBJECT_DUE (R453): the 1 ms boundary of a period. -/
def execTransmitObjectDue (p j : Nat) (s : State) : Outcome :=
  ofUnit (p < 4 && j < 64) <|
    match (s.busAt p).due.find? (fun (x : Nat × Nat) => x.1 = j) with
    | some x =>
      if s.domainOn 5 && s.clocked 7 then ((s.reach (x.2 * Config.msCycles)).txPend p j).txSchedule p j else s
    | none => s

/-- TRANSMIT_SEND (R453): a core writes 1 to TXO_STAT.send. -/
def execTransmitSend (core p j : Nat) (s : State) : Outcome :=
  ofUnit (core < 6 && p < 4 && j < 64) <|
    s.portAccess core (fun s => if s.on (Reg.TXO_CFG p j) Fld.TXO_CFG_en then s.txPend p j else s)

/-- FRAME_TRANSMITTED (R454): the attempt that began at `start` with frame `obj` succeeds now. In loopback the port receives
its own frame (log 36). -/
def execFrameTransmitted (p obj start : Nat) (s : State) : Outcome :=
  ofUnit (p < 4) <|
    if !s.attemptOf p obj start then s
    else
      let f := s.txFrame p obj
      let s := s.txRemove p obj
      let s := s.setErrors p (s.busTec p - 1) (s.busRec p)
      if s.busMode p = 3 then s.receiveFrame p f else s.frameEnd p

/-- FRAME_TX_FAILURE (R455, R456): the attempt loses arbitration (0), meets an error that counts (1), or one that ISO 11898-1
does not count (2). -/
def execFrameTxFailure (p obj start err : Nat) (s : State) : Outcome :=
  ofUnit (p < 4 && err < 3) <|
    if !s.attemptOf p obj start then s
    else
      let gone := s.txExpired p obj
      let s := if err = 1 then s.txError p else s
      (if gone then s.txAbandon p obj else s).frameEnd p

/-- FRAME_ABANDON (R455): the deadline less 100 µs; an attempt that runs completes. -/
def execFrameAbandon (p obj : Nat) (running : Bool) (s : State) : Outcome :=
  ofUnit (p < 4) <|
    if running || !(s.domainOn 5 && s.clocked 7) then s
    else match (s.pendingFrames p).find? (fun x => x.1 = obj) with
    | some (_, _, some d) => (s.reach (d - 40000)).txAbandon p obj
    | _ => s

/-! ## Errors -/

/-- BUS_RECOVERY_REQUEST (R456): a core writes 1 to BUS_CTRL.rec. -/
def execBusRecoveryRequest (core p : Nat) (s : State) : Outcome :=
  ofUnit (core < 6 && p < 4) <|
    s.portAccess core (fun s =>
      if s.on (Reg.BUS_STAT p) Fld.BUS_STAT_boff then s.modBus p (fun b => { b with counting := true }) else s)

/-- BUS_OFF_RECOVERY (R456): 128 sequences of 11 recessive bits. -/
def execBusOffRecovery (p : Nat) (s : State) : Outcome :=
  ofUnit (p < 4) <|
    if s.portOn p && s.clocked 7 && s.on (Reg.BUS_STAT p) Fld.BUS_STAT_boff && (s.busAt p).counting then
      ((s.setf (Reg.BUS_STAT p) Fld.BUS_STAT_boff 0).setErrors p 0 0).modBus p (fun b => { b with counting := false })
    else s

/-- BUS_SUPERVISOR_TIMEOUT (R457): no frame for tmo ms; each loss reports once. -/
def execBusSupervisorTimeout (p i : Nat) (s : State) : Outcome :=
  ofUnit (p < 4 && i < 16) <|
    let a := Reg.BUS_SUP p i
    match (s.busAt p).watch.getD i none with
    | some t =>
      if s.on a Fld.BUS_SUP_en && s.on a Fld.BUS_SUP_tmo && s.portOn p && s.clocked 7 then
        let s := s.reach (t + s.fld a Fld.BUS_SUP_tmo * Config.msCycles)
        let s := s.modBus p (fun b => { b with watch := b.watch.set i none })
        (s.report 11 (scopeOf lvNetwork 0)).sourceOn 11 (scopeOf lvNetwork 0)
      else s
    | none => s

/-- RECEIVE_ERROR (R456): the receive counter rises by 1, or by 8 where ISO 11898-1 says so. -/
def execReceiveError (p : Nat) (big : Bool) (s : State) : Outcome :=
  ofUnit (p < 4) <|
    if s.portLive p then (s.rxError p (if big then 8 else 1)).frameEnd p else s

/-- PROTOCOL_EXCEPTION (R440): a frame that switches to the PWM-coded XL mode (0), an FD frame while fd = 0 (1), or an XL frame
while xl = 0 (2). -/
def execProtocolException (p kind : Nat) (s : State) : Outcome :=
  ofUnit (p < 4 && kind < 3) <|
    let a := Reg.BUS_CTRL p
    if !s.portLive p || (kind = 1 && s.on a Fld.BUS_CTRL_fd) || (kind = 2 && s.on a Fld.BUS_CTRL_xl) then s
    else s.protocolException p

/-! ## Sleep and wake -/

/-- BUS_SLEEP (R458): a core writes BUS_CTRL.slp = 1; a frame in progress ends first. -/
def execBusSleep (core p : Nat) (inProgress : Bool) (s : State) : Outcome :=
  ofUnit (core < 6 && p < 4) <|
    s.portAccess core (fun s =>
      let s := s.setf (Reg.BUS_CTRL p) Fld.BUS_CTRL_slp 1
      if !s.on (Reg.BUS_STAT p) Fld.BUS_STAT_awake then s
      else if inProgress && s.portLive p then s.modBus p (fun b => { b with sleepWait := true })
      else s.busSleepNow p)

/-- BUS_WAKE (R458, R460): a core writes slp = 0, or the transceiver sees a dominant phase of `cycles`. A port whose domain is in
RETENTION raises it where CLK_GATE7.deep lets it see the bus. -/
def execBusWake (core p cycles : Nat) (write : Bool) (s : State) : Outcome :=
  ofUnit (core < 6 && p < 4) <|
    if write then s.portAccess core (fun s => (s.setf (Reg.BUS_CTRL p) Fld.BUS_CTRL_slp 0).busWake p)
    else if s.domainOn 5 then
      if !s.on (Reg.BUS_STAT p) Fld.BUS_STAT_awake || (s.busAt p).sleepWait then
        let (w, s) := s.dominantWakes cycles
        if w && !(s.busAt p).sleepWait then s.busWake p else s
      else s
    else if s.domain 5 = 1 && s.on (Reg.CLK_GATE 7) Fld.CLK_GATE_deep then
      let (w, s) := s.dominantWakes cycles
      if w then s.portWake p else s
    else s

/-- BUS0_WAKE_FRAME (R459): the keeper's detector sees a dominant phase (0), decodes a frame (1) or a frame with an error (2). -/
def execBus0WakeFrame (kind cycles : Nat) (ide : Bool) (id dlc : Nat) (data : List Byte) (s : State) : Outcome :=
  ofUnit (kind < 3) <|
    let mode := s.fld Reg.KPR_BWAKE Fld.KPR_BWAKE_mode
    let fec := s.fld Reg.KPR_BWSTAT Fld.KPR_BWSTAT_fec
    if s.domainOn 5 || !s.on Reg.KPR_BSTAT Fld.KPR_BSTAT_closed then s
    else if mode = 1 then
      if kind = 0 then
        let (w, s) := s.dominantWakes cycles
        if w then s.detectorWake 1 else s
      else s
    else if mode = 2 then
      if kind = 1 then
        let s := s.setf Reg.KPR_BWSTAT Fld.KPR_BWSTAT_fec (fec - 1)
        if s.wakeFrame ide id dlc data then s.detectorWake 2 else s
      else if kind = 2 then
        let n := min 32 (fec + 1)
        let s := s.setf Reg.KPR_BWSTAT Fld.KPR_BWSTAT_fec n
        if n = 32 then s.detectorWake 3 else s
      else s
    else s

end Sys2Proof.Machine
end

