-- ==== Sys2Proof/Machine/Canter.lean ====
section
/-! DEFINITION. Meanings of the Canter instructions (R126, R605 and the rules they cite). Each names the engine `e` and the
law slot `l` of the section that runs it, and its operand fields. -/

namespace Sys2Proof.Machine

/-- Effect of an instruction that writes one register of the section with value and tag. -/
def writes (e l d : Nat) (v : State → Section → Int × Bool) : State → Section → Nat → State :=
  fun s c _ => let r := v s c; s.dSet e l c.sel d r.1 r.2

/-- The saturated value and its tag. -/
def satTag (z : Int) : Int × Bool := (sat16 z, sat16 z ≠ z)

/-! ## Control -/

/-- NOP. -/
def execCanNop (e l : Nat) (s : State) : Outcome := canRun e l 0x00 [] s (fun s _ _ => s)

/-- END (R140, R166, R172, R173). -/
def execCanEnd (e l : Nat) (s : State) : Outcome := canRun e l 0x01 [] s (fun s c t => s.endOf e l c t)

/-- The condition of a SKIP (R125). -/
def State.skipTaken (s : State) (e l : Nat) (c : Section) (cond r : Nat) : Bool :=
  let x := s.ceAt e
  let k := s.capture e l c (r % 8)
  match cond with
  | 0 => true
  | 1 => x.z
  | 2 => !x.z
  | 3 => x.n
  | 4 => !x.n
  | 5 => !x.n && !x.z
  | 6 => x.n || x.z
  | 7 => s.dTag e l c.sel r
  | 8 => x.prevTag.getD r false
  | 9 => k.ovr
  | 10 => k.q = qInit || k.q = qInvalid
  | 11 => (s.lawAt e l).prevMissed
  | _ => false

/-- SKIP cond, r, n (R125). -/
def execCanSkip (e l cond r n : Nat) (s : State) : Outcome :=
  canRun e l 0x02 [(fCond, cond), (fR, r), (fN, n)] s (fun s c _ =>
    if s.skipTaken e l c cond r then s.modSec e l (fun c => { c with pc := c.pc + n }) else s)

/-- CMP Dx, Dy: N and Z from x − y in 17 bits. -/
def execCanCmp (e l x y : Nat) (s : State) : Outcome :=
  canRun e l 0x03 [(fX, x), (fY, y)] s (fun s c _ => s.setNZ e (s.dx e l c x - s.dx e l c y))

/-- TST Dx. -/
def execCanTst (e l x : Nat) (s : State) : Outcome :=
  canRun e l 0x04 [(fX, x)] s (fun s c _ => s.setNZ e (s.dx e l c x))

/-! ## Data registers -/

/-- LDI Dd, imm. -/
def execCanLdi (e l d imm : Nat) (s : State) : Outcome :=
  canRun e l 0x08 [(fD, d), (fImm, imm)] s (writes e l d (fun _ _ => (sx 16 imm, false)))

/-- MOV Dd, Dx: the tag is copied. -/
def execCanMov (e l d x : Nat) (s : State) : Outcome :=
  canRun e l 0x09 [(fD, d), (fX, x)] s (writes e l d (fun s c => (s.dx e l c x, s.dTag e l c.sel x)))

/-- ADD Dd, Dx, Dy. -/
def execCanAdd (e l d x y : Nat) (s : State) : Outcome :=
  canRun e l 0x0A [(fD, d), (fX, x), (fY, y)] s (writes e l d (fun s c => satTag (s.dx e l c x + s.dx e l c y)))

/-- SUB Dd, Dx, Dy. -/
def execCanSub (e l d x y : Nat) (s : State) : Outcome :=
  canRun e l 0x0B [(fD, d), (fX, x), (fY, y)] s (writes e l d (fun s c => satTag (s.dx e l c x - s.dx e l c y)))

/-- NEG Dd, Dx. -/
def execCanNeg (e l d x : Nat) (s : State) : Outcome :=
  canRun e l 0x0C [(fD, d), (fX, x)] s (writes e l d (fun s c => satTag (-s.dx e l c x)))

/-- ABS Dd, Dx. -/
def execCanAbs (e l d x : Nat) (s : State) : Outcome :=
  canRun e l 0x0D [(fD, d), (fX, x)] s (writes e l d (fun s c => satTag ((s.dx e l c x).natAbs : Int)))

/-- MIN Dd, Dx, Dy. -/
def execCanMin (e l d x y : Nat) (s : State) : Outcome :=
  canRun e l 0x0E [(fD, d), (fX, x), (fY, y)] s (writes e l d (fun s c => (min (s.dx e l c x) (s.dx e l c y), false)))

/-- MAX Dd, Dx, Dy. -/
def execCanMax (e l d x y : Nat) (s : State) : Outcome :=
  canRun e l 0x0F [(fD, d), (fX, x), (fY, y)] s (writes e l d (fun s c => (max (s.dx e l c x) (s.dx e l c y), false)))

/-- LIM Dd, Dx, Dlo, Dhi: tag if the result differs from x. -/
def execCanLim (e l d x lo hi : Nat) (s : State) : Outcome :=
  canRun e l 0x10 [(fD, d), (fX, x), (fY, lo), (fZ, hi)] s (writes e l d (fun s c =>
    let r := min (max (s.dx e l c x) (s.dx e l c lo)) (s.dx e l c hi)
    (r, r ≠ s.dx e l c x)))

/-- SHF Dd, Dx, s (R605). -/
def execCanShf (e l d x k : Nat) (s : State) : Outcome :=
  canRun e l 0x11 [(fD, d), (fX, x), (fY, k)] s (writes e l d (fun s c => shfQ (s.dx e l c x) (sx 6 k)))

/-- ADDW Dd, Dx, Dy: modulo 2^16. -/
def execCanAddw (e l d x y : Nat) (s : State) : Outcome :=
  canRun e l 0x12 [(fD, d), (fX, x), (fY, y)] s (writes e l d (fun s c => (sx 16 (ux 16 (s.dx e l c x + s.dx e l c y)), false)))

/-! ## Accumulators -/

/-- Operand fields of an accumulator instruction with two data operands, or with one and a coefficient. -/
def accWord (a x y : Nat) : List (Field × Nat) := [(fA, a), (fAx, x), (fAy, y)]
def accCoef (a x k : Nat) : List (Field × Nat) := [(fA, a), (fAx, x), (fC, k)]

/-- MUL Aa, Dx, Dy. -/
def execCanMul (e l a x y : Nat) (s : State) : Outcome :=
  canRun e l 0x14 (accWord a x y) s (fun s c _ => s.putAcc e l a (s.dx e l c x * s.dx e l c y))

/-- MAC Aa, Dx, Dy. -/
def execCanMac (e l a x y : Nat) (s : State) : Outcome :=
  canRun e l 0x15 (accWord a x y) s (fun s c _ => s.putAcc e l a (s.acc e a + s.dx e l c x * s.dx e l c y))

/-- MSU Aa, Dx, Dy. -/
def execCanMsu (e l a x y : Nat) (s : State) : Outcome :=
  canRun e l 0x16 (accWord a x y) s (fun s c _ => s.putAcc e l a (s.acc e a - s.dx e l c x * s.dx e l c y))

/-- MULC Aa, Dx, c. -/
def execCanMulc (e l a x k : Nat) (s : State) : Outcome :=
  canRun e l 0x17 (accCoef a x k) s (fun s c _ => s.putAcc e l a (s.dx e l c x * s.coef e k))

/-- MACC Aa, Dx, c. -/
def execCanMacc (e l a x k : Nat) (s : State) : Outcome :=
  canRun e l 0x18 (accCoef a x k) s (fun s c _ => s.putAcc e l a (s.acc e a + s.dx e l c x * s.coef e k))

/-- DMAC Aa, Dx, Dy: both MAC units. -/
def execCanDmac (e l a x y : Nat) (s : State) : Outcome :=
  canRun e l 0x19 (accWord a x y) s (fun s c _ =>
    (s.putAcc e l a (s.acc e a + s.dx e l c x * s.dx e l c y)).putAcc e l (a + 1)
      (s.acc e (a + 1) + s.dx e l c (x + 1) * s.dx e l c (y + 1)))

/-- DOT Aa, Dx, Dy: both MAC units. -/
def execCanDot (e l a x y : Nat) (s : State) : Outcome :=
  canRun e l 0x1A (accWord a x y) s (fun s c _ =>
    s.putAcc e l a (s.acc e a + s.dx e l c x * s.dx e l c y + s.dx e l c (x + 1) * s.dx e l c (y + 1)))

/-- LDA Aa, Dx. -/
def execCanLda (e l a x : Nat) (s : State) : Outcome :=
  canRun e l 0x1B [(fA, a), (fAx, x)] s (fun s c _ => s.putAcc e l a (s.dx e l c x * 2 ^ 15))

/-- ADDA Aa, Ab. -/
def execCanAdda (e l a b : Nat) (s : State) : Outcome :=
  canRun e l 0x1C [(fA, a), (fB, b)] s (fun s _ _ => s.putAcc e l a (s.acc e a + s.acc e b))

/-- SUBA Aa, Ab. -/
def execCanSuba (e l a b : Nat) (s : State) : Outcome :=
  canRun e l 0x1D [(fA, a), (fB, b)] s (fun s _ _ => s.putAcc e l a (s.acc e a - s.acc e b))

/-- SHA Aa, s: the spec does not say how an inexact right shift rounds, so it takes either neighbour by a free value
(log 18). -/
def execCanSha (e l a k : Nat) (s : State) : Outcome :=
  canRun e l 0x1E [(fA, a), (fS6, k)] s (fun s _ _ =>
    let n := sx 6 k
    let z := s.acc e a
    if 0 ≤ n then s.putAcc e l a (z * 2 ^ n.toNat)
    else
      let m : Int := 2 ^ (-n).toNat
      if z % m = 0 then s.putAcc e l a (z / m)
      else
        let (w, s) := s.drawWord
        s.putAcc e l a (z / m + (w.toNat % 2 : Nat)))

/-- ST Dd, Aa (R115). -/
def execCanSt (e l d a : Nat) (s : State) : Outcome :=
  canRun e l 0x1F [(fD, d), (fSa, a)] s (fun s c _ => s.putSat e l c d (rnd 15 (s.acc e a)))

/-! ## Rotator, divide, tables -/

/-- Effect of an instruction that writes a register pair. -/
def writesPair (e l d : Nat) (v : State → Section → (Int × Bool) × (Int × Bool)) : State → Section → Nat → State :=
  fun s c _ => let r := v s c; (s.dSet e l c.sel d r.1.1 r.1.2).dSet e l c.sel (d + 1) r.2.1 r.2.2

/-- SINCOS Dd, Dθ (R605). -/
def execCanSincos (e l d x : Nat) (s : State) : Outcome :=
  canRun e l 0x20 [(fD, d), (fX, x)] s (writesPair e l d (fun s c =>
    ((cosQ (s.dx e l c x), false), (sinQ (s.dx e l c x), false))))

/-- PARK Dd, Dx, Dy, Dθ (R605). -/
def execCanPark (e l d x y th : Nat) (s : State) : Outcome :=
  canRun e l 0x21 [(fD, d), (fX, x), (fY, y), (fZ, th)] s (writesPair e l d (fun s c =>
    let co := cosQ (s.dx e l c th)
    let si := sinQ (s.dx e l c th)
    let p := s.dx e l c x
    let q := s.dx e l c y
    (rot (p * co) (q * si), rot (-p * si) (q * co))))

/-- IPARK Dd, Dx, Dy, Dθ (R605). -/
def execCanIpark (e l d x y th : Nat) (s : State) : Outcome :=
  canRun e l 0x22 [(fD, d), (fX, x), (fY, y), (fZ, th)] s (writesPair e l d (fun s c =>
    let co := cosQ (s.dx e l c th)
    let si := sinQ (s.dx e l c th)
    let p := s.dx e l c x
    let q := s.dx e l c y
    (rot (p * co) (-q * si), rot (p * si) (q * co))))

/-- CLARKE Dd, Dx, Dy (R605). -/
def execCanClarke (e l d x y : Nat) (s : State) : Outcome :=
  canRun e l 0x23 [(fD, d), (fX, x), (fY, y)] s (writesPair e l d (fun s c =>
    ((s.dx e l c x, false), satTag (divSqrt3 (s.dx e l c x + 2 * s.dx e l c y)))))

/-- SVM Dd, Dx, Dy (R605): a clamped duty sets its tag. -/
def execCanSvm (e l d x y : Nat) (s : State) : Outcome :=
  canRun e l 0x24 [(fD, d), (fX, x), (fY, y)] s (fun s c _ =>
    let v := fun k => svmDuty (s.dx e l c x) (s.dx e l c y) k
    ((s.dSet e l c.sel d (v 0).1 (v 0).2).dSet e l c.sel (d + 1) (v 1).1 (v 1).2).dSet e l c.sel (d + 2) (v 2).1 (v 2).2)

/-- DIV Dd, Dx, Dy (R605). -/
def execCanDiv (e l d x y : Nat) (s : State) : Outcome :=
  canRun e l 0x25 [(fD, d), (fX, x), (fY, y)] s (writes e l d (fun s c => divQ (s.dx e l c x) (s.dx e l c y)))

/-- SQRT Dd, Dx (R605). -/
def execCanSqrt (e l d x : Nat) (s : State) : Outcome :=
  canRun e l 0x26 [(fD, d), (fX, x)] s (writes e l d (fun s c => sqrtQ (s.dx e l c x)))

/-- TLU Dd, Dx, t (R121). -/
def execCanTlu (e l d x t : Nat) (s : State) : Outcome :=
  canRun e l 0x28 [(fD, d), (fX, x), (fT, t)] s (fun s c _ =>
    let n := s.fld (Reg.CE_TBL e t) Fld.CE_TBL_n
    let b := s.fld (Reg.CE_TBL e t) Fld.CE_TBL_base
    let (i, f) := tableIdx (s.dx e l c x) n
    let hi := if i + 1 = 2 ^ n then i else i + 1
    (s.setSeg e l i).dSet e l c.sel d (lerp (s.coef e (b + i)) (s.coef e (b + hi)) f))

/-- TLT Dd, Dx, Dy, t (R122): four Paddock reads, presented in consecutive cycles; the pair is written when the last of
them has completed. -/
def execCanTlt (e l d x y t : Nat) (s : State) : Outcome :=
  canRun e l 0x29 [(fD, d), (fX, x), (fY, y), (fT, t)] s (fun s c tt =>
    let a := Reg.CE_TBL e t
    let nx := s.fld a Fld.CE_TBL_nx
    let ny := s.fld a Fld.CE_TBL_ny
    let sg := s.fld a Fld.CE_TBL_sig
    let (i, fx) := tableIdx (s.dx e l c x) nx
    let (j, fy) := tableIdx (s.dx e l c y) ny
    let i' := if i + 1 = 2 ^ nx then i else i + 1
    let j' := if j + 1 = 2 ^ ny then j else j + 1
    let tab := max (tt + 1) (s.ceAt e).portNext
    let ask := fun (s : State) (k : Nat) (cr : Nat × Nat) => s.present e (sg + 2 ^ nx * cr.2 + cr.1) tt (fun _ => .lawTable e l tab k)
    let s := ask (ask (ask (ask s 0 (i, j)) 1 (i', j)) 2 (i, j')) 3 (i', j')
    let s := s.modLaw e l (fun w => { w with tables := w.tables ++ [{
      tab := tab, d := d, sel := c.sel, start := c.t, due := tt + 42, fx := fx, fy := fy, got := [] }] })
    (s.setSeg e l i).awaitRegs e l [d, d + 1])

/-- LDK Dd, c (R120). -/
def execCanLdk (e l d k : Nat) (s : State) : Outcome :=
  canRun e l 0x2A [(fD, d), (fC, k)] s (writes e l d (fun s _ => (s.coef e k, false)))

/-! ## Paddock, captures, urgent requests -/

/-- LDS Dd, sig (R137): the register is ready after the latency of 36 cycles, by when the read has completed (R77, R124). -/
def execCanLds (e l d sg : Nat) (s : State) : Outcome :=
  canRun e l 0x2C [(fD, d), (fSig, sg)] s (fun s c t =>
    (s.present e sg t (fun _ => .lawRead e l d c.sel c.t (t + 36))).awaitRegs e l [d])

/-- STS Ds, sig (R137, R172): posted, or held until END in a settle section. -/
def execCanSts (e l d sg : Nat) (s : State) : Outcome :=
  canRun e l 0x2D [(fD, d), (fSig, sg)] s (fun s c t =>
    let v := Wi (s.dx e l c d)
    if s.lawAhead e l then s.modLaw e l (fun w => { w with held := w.held ++ [(sg, v)] })
    else s.present e sg t (fun _ => .lawWrite e l v c.t qValid))

/-- LDC Dd, k (R136, R156). -/
def execCanLdc (e l d k : Nat) (s : State) : Outcome :=
  canRun e l 0x2E [(fD, d), (fK, k)] s (writes e l d (fun s c => ((s.capture e l c k).v.toInt, false)))

/-- LDU Dd, k (R101, R138): capture k as latched, if urgent-done has arrived; else the law misses in that cycle. -/
def execCanLdu (e l d k : Nat) (s : State) : Outcome :=
  canRun e l 0x2F [(fD, d), (fK, k)] s (fun s c _ =>
    if c.urg = .done then s.dSet e l c.sel d (((s.lawAt e l).caps.getD k {}).v.toInt) false
    else s.miss e l 6 c.t false)

/-- URG u, e (R95, R138): requester 1 + engine number; it reaches the unit 2 cycles after issue. -/
def execCanUrg (e l u k : Nat) (s : State) : Outcome :=
  canRun e l 0x30 [(fU, u), (fE, k)] s (fun s c t =>
    (s.modSec e l (fun c => { c with urg := .issued })).urgentIssue { requester := 1 + e, law := l, start := c.t } u k (t + 2))

/-- INT Dn, Dx, Dg, Dl (R139): a 32-bit Q31 integrator stopped by the previous tag of its link register. -/
def execCanInt (e l n x g k : Nat) (s : State) : Outcome :=
  canRun e l 0x31 [(fD, n), (fX, x), (fY, g), (fZ, k)] s (fun s c _ =>
    if (s.ceAt e).prevTag.getD k false then s
    else
      let old := s.dx e l c n * 65536 + (ux 16 (s.dx e l c (n + 1)) : Int)
      let z := old + 2 * (s.dx e l c x * s.dx e l c g)
      let v := sat (-(2 ^ 31)) (2 ^ 31 - 1) z
      let t := decide (v ≠ z)
      (s.dSet e l c.sel n (v / 65536) t).dSet e l c.sel (n + 1) (sx 16 (ux 16 v)) t)

/-! ## Outputs -/

/-- OUTD k, Dx (R132, R165). -/
def execCanOutd (e l k x : Nat) (s : State) : Outcome :=
  canRun e l 0x34 [(fKo, k), (fX, x)] s (fun s c _ => s.stage e l c k (dutyWord (s.dx e l c x) (s.outPeriod e l k)))

/-- OUTC k, Aa (R133, R165). -/
def execCanOutc (e l k a : Nat) (s : State) : Outcome :=
  canRun e l 0x35 [(fKo, k), (fAo, a)] s (fun s c _ => s.stage e l c k (Wi (sat 0 0x3FFFFF (s.acc e a))))

/-! ## Run-ahead -/

/-- PRD Dd, k (R158, R160). -/
def execCanPrd (e l d k : Nat) (s : State) : Outcome :=
  canRun e l 0x38 [(fD, d), (fK, k)] s (writes e l d (fun s c => (s.prediction e l k c.sel, false)))

/-- BND b, k, Dlo, Dhi (R163, R164): it reads the bank of the part that it opens or continues. -/
def execCanBnd (e l b k lo hi : Nat) (s : State) : Outcome :=
  canRun e l 0x39 [(fBb, b), (fKb, k), (fY, lo), (fZ, hi)] s (fun s c _ =>
    let x : Bound := { branch := b, cap := k, lo := s.dGet e l c.sel lo, hi := s.dGet e l c.sel hi }
    s.modLaw e l (fun w => { w with bounds := w.bounds.filter (fun y => !(y.branch = b && y.cap = k)) ++ [x] }))

/-- The outcome of SEL (R168): 1 hit A, 2 hit B, 3 no fit, 4 late sample. -/
def State.selOutcome (s : State) (e l : Nat) (trigFresh : List Bool) : Nat :=
  let w := s.lawAt e l
  let late := (List.range 8).any (fun k => s.on (Reg.LAW_CAP e l k) Fld.LAW_CAP_en && s.on (Reg.LAW_PRD e l k) Fld.LAW_PRD_req &&
    !trigFresh.getD k false)
  let ba := w.bounds.filter (fun b => b.branch = 0)
  let bb := w.bounds.filter (fun b => b.branch = 1)
  if late then 4 else if ba.all (s.boundHolds e l) then 1
  else if !bb.isEmpty && bb.all (s.boundHolds e l) then 2 else 3

/-- The instruction behind a SEL that misses still issues at T + 3 when it waits for no register: a URG reaches its unit and
an LDS its bank; what any other writes is discarded at T + 4 (R124, R170). -/
def State.selTail (s : State) (e l : Nat) (c : Section) (t : Nat) : State :=
  let w := s.rd (Reg.LAW_MEM e c.pc)
  if canOp w = 0x30 then
    s.urgentIssue { requester := 1 + e, law := l, start := c.t } (Word.get w fU) (Word.get w fK) (t + 3)
  else if canOp w = 0x2C then s.present e (Word.get w fSig) (t + 1) (fun _ => .lawRead e l (Word.get w fD) .a c.t (t + 37))
  else s

/-- SEL (R168, R170, R174): the settle section goes on in the selected bank, or ends in a miss at T + 4. -/
def execCanSel (e l : Nat) (s : State) : Outcome :=
  canRun e l 0x3A [] s (fun s c t =>
    match s.selOutcome e l ((s.lawAt e l).snap.map (·.fresh)) with
    | 1 => s.modSec e l (fun c => { c with sel := .a })
    | 2 => s.modSec e l (fun c => { c with sel := .b })
    | 4 => (((s.selTail e l c t).reach (t + 2)).miss e l 4 c.t false).inc (Reg.LAW_CNT_LSMP e l)
    | _ => (((s.selTail e l c t).reach (t + 2)).miss e l 3 c.t false).inc (Reg.LAW_CNT_NOFIT e l))

/-- CORR Dd, Dx, Dg, k (R171). -/
def execCanCorr (e l d x g k : Nat) (s : State) : Outcome :=
  canRun e l 0x3B [(fD, d), (fX, x), (fY, g), (fK, k)] s (fun s c _ =>
    let df := (s.capture e l c k).v.toInt - s.prediction e l k c.sel
    let df := if s.fld (Reg.LAW_PRD e l k) Fld.LAW_PRD_kind = 2 then sx 16 (ux 16 df) else df
    s.putSat e l c d (rnd 15 (s.dx e l c x * 32768 + s.dx e l c g * df)))

end Sys2Proof.Machine
end

