-- ==== Sys2Proof/Machine/Charger.lean ====
section
/-! DEFINITION. Meanings of the commands of the inlet, the charge machines, SUPPLY and the solar port (spec/09). On the -D
variant none of these blocks exists and the commands change nothing (R5). -/

namespace Sys2Proof.Machine

/-- A step of the front end or of a machine of the charge plane. The machines run on Team A (R294). -/
def onPlane (s : State) (t : State) : Outcome := .next (if s.hasCharger then t else s)
def onCharger (s : State) (t : State) : Outcome := onPlane s (s.onTeam 1 t)

/-! ## Inlet front end -/

/-- PILOT_PERIOD_CAPTURE (R301): the last period and high time in CLK_PER counts, and crossings that the filter removed. -/
def execPilotPeriodCapture (per high glitches : Nat) (s : State) : Outcome :=
  onPlane s <|
    if s.on Reg.INL_CTRL Fld.INL_CTRL_en && s.domainOn 3 then
      let s := ((s.setf Reg.INL_CPPER Fld.INL_CPPER_cnt per).setf Reg.INL_CPHIGH Fld.INL_CPHIGH_cnt high).incBy Reg.INL_CNT_GLITCH glitches
      (s.setf Reg.INL_STAT Fld.INL_STAT_osc 1).modInlet (fun i => { i with edgeAt := some s.dtb })
    else s

/-- PILOT_STATE_DECODE (R300, R301): positive and negative level in mV, held for `held` cycles. -/
def execPilotStateDecode (pos neg : Int) (held : Nat) (s : State) : Outcome :=
  onCharger s <|
    if !(s.on Reg.INL_CTRL Fld.INL_CTRL_en && s.domainOn 3) then s
    else
      let s := s.oscRefresh
      let per := s.fld Reg.INL_CPPER Fld.INL_CPPER_cnt
      let enough := if noBand pos then 100 * Config.msCycles ≤ held
        else if s.osc then 4 * per ≤ held else 2 * Config.msCycles ≤ held
      if !enough then s
      else
        let ((a, bad), s) := s.allowance
        let (duty, s) := if s.osc && per ≠ 0 then s.freeFloor (32768 * s.fld Reg.INL_CPHIGH Fld.INL_CPHIGH_cnt) per else (0, s)
        let s := s.putNat (csig 0x100) (if bad then pilotInvalid else pilotOf s.osc pos neg)
        ((s.putInt (csig 0x101) (sat 0 32767 duty)).putInt (csig 0x102) a).refreshLimit

/-- INLET_CABLE_DETECTED (R302): PP resistance in Ω. -/
def execInletCableDetected (ohm : Nat) (s : State) : Outcome :=
  onCharger s <|
    if (cableOf s.ppStd ohm).isSome && s.domainOn 3 then
      let s := s.putPp ohm
      if s.inletState = inNocable then s.setInlet inDetect else s
    else s

/-- INLET_CABLE_REMOVED (R302, R307): in RUN it is a source loss; a lock-out holds (R322). -/
def execInletCableRemoved (ohm : Nat) (s : State) : Outcome :=
  onCharger s <|
    if (cableOf s.ppStd ohm).isSome || cableUnknown s.ppStd ohm || !s.domainOn 3 then s
    else
      let s := s.putPp ohm
      let st := s.inletState
      if st = inRun then s.sourceLoss
      else if st = inDetect || st = inReady || st = inEnergize || st = inSrcFault then s.s2Open.setInlet inNocable
      else s

/-! ## Inlet machine (R307) -/

/-- A source under R304 that can be qualified. -/
def State.sourceSeen (s : State) : Bool :=
  let p := s.val (csig 0x100)
  ((p = pilotB || p = pilotC) && 0 < s.q15 (csig 0x102)) ||
    (!s.osc && p = pilotE && s.cable && 0 < s.q15 (csig 0x104) && s.val (csig 0x306) = 1)

/-- Class of a source (R304). -/
def State.sourceClass (s : State) : Nat :=
  if !s.osc then 2
  else if s.val (csig 0x106) = 1 && s.q15 (csig 0x102) ≤ 16 * 256 then 1 else 0

/-- INLET_SOURCE_QUALIFIED (R304, R307): held for `ms` boundaries. The class stays until NOCABLE. -/
def execInletSourceQualified (ms : Nat) (s : State) : Outcome :=
  onCharger s <|
    if s.inletState = inDetect && s.sourceSeen && 3000 ≤ ms then
      let s := if s.inlet.classed then s
        else (s.putNat (csig 0x105) s.sourceClass).modInlet (fun i => { i with classed := true })
      s.refreshLimit.setInlet inReady
    else s

/-- INLET_READY_LOST (R307). -/
def execInletReadyLost (ms : Nat) (s : State) : Outcome :=
  onCharger s <|
    let p := s.val (csig 0x100)
    if s.inletState = inReady && (!(p = pilotB || p = pilotC) || s.q15 (csig 0x102) = 0) && 1000 ≤ ms then s.setInlet inDetect else s

/-- INLET_ENERGIZE (R299, R307): the charge machine is in QUALIFY and asks for power. -/
def execInletEnergize (s : State) : Outcome :=
  onCharger s <|
    if s.inletState = inReady && s.modeNow = modeCharge && s.fld Reg.INL_CTRL Fld.INL_CTRL_role = 0 && s.chState 0 = chQualify then
      let s := (s.setf Reg.INL_CTRL Fld.INL_CTRL_s2 1).setf Reg.INL_STAT Fld.INL_STAT_s2_on 1
      (s.setInlet inEnergize).modInlet (fun i => { i with enAt := s.dtb })
    else s

/-- INLET_PHASES_VALID (R303, R295, R307): the grid as measured for `ms` boundaries. -/
def execInletPhasesValid (v1 v2 v3 f : Nat) (a2 a3 : Int) (ms : Nat) (s : State) : Outcome :=
  onCharger s <|
    let k := phaseConfig { v1 := v1, v2 := v2, v3 := v3, f := f, a2 := a2, a3 := a3 }
    if s.inletState = inEnergize && k ≠ 4 && 100 ≤ ms then
      let s := (s.putNat (csig 0x106) k).putGrid v1 v2 v3 f
      if !s.pfcConfigOk then s.chToFault 0 1 else s.refreshLimit.pfcOn.setInlet inRun
    else s

/-- INLET_ENERGIZE_TIMEOUT (R307): the configuration is INVALID, or 5 s have passed. -/
def execInletEnergizeTimeout (invalid : Bool) (s : State) : Outcome :=
  onCharger s <|
    if s.inletState = inEnergize then
      let s := if invalid then s.putNat (csig 0x106) 4 else s.reach (msEnd s.inlet.enAt 5000)
      s.s2Open.setInlet inSrcFault
    else s

/-- INLET_SOURCE_LOSS (R307, R308): `ms.1` is a fall of every present phase below 60 V for 2 ms, which the current law signals in
S.4.0114, or the pilot has been outside C for `ms.2` boundaries; a cable removal has its own command. A collapse within 3 s after
the module opened S2 is none. -/
def execInletSourceLoss (ms : Bool × Nat) (s : State) : Outcome :=
  onCharger s <|
    let s := if ms.1 && s.lawOn 4 0 then s.putNat (csig 0x114) 1 else s
    let loss := s.val (csig 0x114) = 1 && !s.inlet.openAt.any (fun t => s.dtb < t + 3000 * Config.msCycles)
    let pilot := s.val (csig 0x100) ≠ pilotC && 100 ≤ ms.2
    if s.inletState = inRun && (loss || pilot) then s.sourceLoss else s

/-- HANDOVER_END (R308, R309): the link has been in band for `us` µs; without the HV battery or after a supervisor detection
the hand-over ends at once. -/
def execHandoverEnd (us : Nat) (s : State) : Outcome :=
  onCharger s <|
    if s.inletState = inHandover && (1000 ≤ us || s.val (sid 3 0x30) ≠ 1 || s.chState 0 = chSourceHold) &&
        s.dtb ≤ msEnd s.inlet.handAt 4 then s.handoverEnd
    else s

/-- HANDOVER_TIMEOUT (R308): out of band at 4 ms. -/
def execHandoverTimeout (s : State) : Outcome :=
  onCharger s <|
    if s.inletState = inHandover then ((s.reach (msEnd s.inlet.handAt 4)).chToFault 0 3).handoverEnd else s

/-- LOCKOUT_END (R309): S.4.0302, consumed, at a 1 ms boundary after the entry, or 300 s. -/
def execLockoutEnd (s : State) : Outcome :=
  onCharger s <|
    if s.inletState = inLockout then
      let s := if s.val (csig 0x302) = 1 then
          (s.reach (msCeil (max s.dtb (s.inlet.lockAt + 1)))).putNat (csig 0x302) 0
        else s.reach (msEnd s.inlet.lockAt 300000)
      s.setInlet (if s.cable then inDetect else inNocable)
    else s

/-- INLET_MODE_LEFT (R307); S2 closes only in CHARGE (R299), so it opens in ENERGIZE too. -/
def execInletModeLeft (s : State) : Outcome :=
  onCharger s <|
    if s.modeNow = modeCharge then s
    else if s.inletState = inRun then s.s2Open.pfcOff.isoOff.setInlet inReady
    else if s.inletState = inEnergize then s.s2Open
    else s

/-- SRC_FAULT_RECOVER (R307). -/
def execSrcFaultRecover (s : State) : Outcome :=
  onCharger s <|
    if s.inletState = inSrcFault then
      if !s.cable then s.s2Open.setInlet inNocable else if s.val (csig 0x100) = pilotA then s.setInlet inDetect else s
    else s

/-- WEAK_SOURCE (R306): a phase's voltage at zero input current and now, in mV, the input current in 1/256 A, and the
swing of the grid frequency within 1 s, in mHz. -/
def execWeakSource (v0 v : Int) (i : Int) (df : Nat) (s : State) : Outcome :=
  onCharger s <|
    let droop := 100 * 256 * (v0 - v) > s.qty (csig 0x307) (8 * 256) * v0 && 2 * i ≤ s.q15 (csig 0x108)
    if s.inletState = inRun && (droop || 500 < df) then (s.putNat (csig 0x105) 3).refreshLimit else s

/-! ## Charge machines (R311-R313): m = 0 HV, 1 LV -/

/-- CHARGE_REQUEST (R311). -/
def execChargeRequest (m : Nat) (s : State) : Outcome :=
  ofUnit (m < 2) <| s.onTeam 1 <|
    let st := s.chState m
    if m = 0 then (if (st = chIdle || st = chWait) && s.hvMayCharge then s.setCh 0 chQualify else s)
    else if (st = chIdle && s.lv.st = lvRun && s.lvProfile < 2) || (st = chWait && s.chSource 1) then s.setCh 1 chQualify
    else s

/-- CHARGE_QUALIFIED (R311, R295): battery voltage in the machine's units. -/
def execChargeQualified (m : Nat) (v : Int) (s : State) : Outcome :=
  ofUnit (m < 2) <| s.onTeam 1 <|
    if s.chState m = chQualify && s.chSource m && s.vMin m ≤ v && v ≤ s.vCv m then
      if m = 0 && !s.isoConfigOk then s.chToFault 0 1
      else
        let s := if m = 0 then s.isoOn else s
        (s.modCh m (fun c => { c with cap := none })).setCh m chCc
    else s

/-- CHARGE_QUALIFY_TIMEOUT (R311): 10 s (HV), or V_pre not reached in the profile time (LV). -/
def execChargeQualifyTimeout (m : Nat) (v : Int) (s : State) : Outcome :=
  ofUnit (m < 2) <| s.onTeam 1 <|
    if s.chState m = chQualify then
      if m = 0 then (s.reach (msEnd (s.ch 0).since 10000)).chToFault 0 2
      else if v < 12288 then
        let t := if s.lvProfile = 0 then 600000 else 1800000
        (s.reach (msEnd (s.ch 1).since t)).chToFault 1 2
      else s
    else s

/-- CHARGE_CV_REACHED (R311): output voltage in the machine's units. -/
def execChargeCvReached (m : Nat) (v : Int) (s : State) : Outcome :=
  ofUnit (m < 2) <| s.onTeam 1 <|
    if s.chState m = chCc && s.vCv m ≤ v then (s.modCh m (fun c => { c with tested := false })).setCh m chCv else s

/-- The current lies below I_term. -/
def State.belowTerm (s : State) (m : Nat) (i : Int) : Bool := i * s.termDiv m < s.termBase m

/-- CHARGE_TERMINATION_START (R311): the output current in 1/256 A falls below I_term (LV: after a presence test); a rise
above it restarts a running timer. -/
def execChargeTerminationStart (m : Nat) (i : Int) (s : State) : Outcome :=
  ofUnit (m < 2) <| s.onTeam 1 <|
    if s.chState m = chCv then
      let t := some (msEnd s.dtb 30000)
      if s.belowTerm m i then
        if (s.ch m).termAt.isNone && (m = 0 || (s.ch 1).tested) then s.modCh m (fun c => { c with termAt := t }) else s
      else if s.termBase m < i * s.termDiv m then s.modCh m (fun c => { c with termAt := if c.termAt.isSome then t else none, tested := false })
      else s
    else s

/-- CHARGE_TERMINATION (R311): the timer expires; the current is capped at I_term. -/
def execChargeTermination (m : Nat) (s : State) : Outcome :=
  ofUnit (m < 2) <| s.onTeam 1 <|
    match (s.ch m).termAt with
    | none => s
    | some t =>
      let s := (s.reach t).setCh m chTopoff
      let (top, s) := s.freeFloor (10 * s.termBase m) (s.termDiv m)
      s.modCh m (fun c => { c with cap := some top.toNat, topAt := msEnd s.dtb (s.tTop m * 60000) })

/-- CHARGE_TOPOFF_END (R311). -/
def execChargeTopoffEnd (m : Nat) (s : State) : Outcome :=
  ofUnit (m < 2) (s.onTeam 1 (if s.chState m = chTopoff then ((s.reach (s.ch m).topAt).chZero m).setCh m chDone else s))

/-- CHARGE_RECHARGE (R311): battery voltage, below V_recharge for `ms` boundaries. -/
def execChargeRecharge (m : Nat) (v : Int) (ms : Nat) (s : State) : Outcome :=
  ofUnit (m < 2) <| s.onTeam 1 <|
    if s.chState m = chDone && v < s.vRecharge m && 10000 ≤ ms && s.chSource m then s.setCh m chQualify else s

/-- CHARGE_SOURCE_LOST (R311). -/
def execChargeSourceLost (m : Nat) (s : State) : Outcome :=
  ofUnit (m < 2) (s.onTeam 1 (if s.chLive m && s.chSourceGone m then (s.chZero m).setCh m chWait else s))

/-- CHARGE_SOURCE_HOLD (R311): the HV machine only. -/
def execChargeSourceHold (s : State) : Outcome :=
  onCharger s <|
    if s.chLive 0 && (s.chs.hit || isoGens.any (fun g => s.trippedBy g 4) || s.val (sid 3 0x30) = 0) then
      let s : State := { s with chs := { s.chs with hit := false } }
      (((s.chZero 0).isoOff.clearTrips isoGens).isoOff).setCh 0 chSourceHold
    else s

/-- CHARGE_SOURCE_HOLD_END (R311). -/
def execChargeSourceHoldEnd (s : State) : Outcome :=
  onCharger s <|
    if s.chState 0 = chSourceHold && s.val (sid 3 0x30) = 1 && s.val (csig 0x212) = 1 && isoGens.all (fun g => s.tripLines g = 0) then
      (s.clearTrips isoGens).isoOff.setCh 0 chQualify
    else s

/-- PRESENCE_TEST_START (R313): buck output current in 1/256 A. -/
def execPresenceTestStart (i : Int) (s : State) : Outcome :=
  .next <| s.onTeam 1 <|
    let c := s.ch 1
    if c.testAt.isSome then s
    else if s.chState 1 = chCv && !c.tested && s.belowTerm 1 i then
      s.modCh 1 (fun c => { c with testAt := some s.dtb, testI := i })
    else if s.chState 1 = chNoBattery then
      let s := s.reach c.testNext
      s.modCh 1 (fun c => { c with testAt := some s.dtb, testI := i })
    else s

/-- PRESENCE_TEST_END (R313): after 1 s; or, in CC, the collapse of the current below 10 % of I_cc within 10 ms outside the
current limit, which finds the battery absent without a test. -/
def execPresenceTestEnd (i : Int) (collapse : Bool) (s : State) : Outcome :=
  .next <| s.onTeam 1 <|
    let c := s.ch 1
    let absent := fun (s : State) =>
      let s := s.setCh 1 chNoBattery
      s.modCh 1 (fun c => { c with testAt := none, testNext := msEnd s.dtb 10000 })
    match c.testAt with
    | none => if s.chState 1 = chCc && collapse && 10 * i < s.iCc 1 then absent s else s
    | some t =>
      let s := s.reach (msEnd t 1000)
      if max 2560 c.testI ≤ 10 * (i - c.testI) then
        let s := s.modCh 1 (fun c => { c with testAt := none, tested := true })
        if s.chState 1 = chNoBattery then s.setCh 1 chQualify else s
      else absent s

/-- CHARGE_STOP (R311): the HV machine only. -/
def execChargeStop (s : State) : Outcome :=
  onCharger s <|
    let st := s.chState 0
    if st ≠ chIdle && st ≠ chFaultSt && (s.modeNow ≠ modeCharge || !s.cable || s.val (csig 0x212) = 0) then
      (s.chZero 0).setCh 0 chIdle
    else s

/-- CHARGE_FAULT_CLEAR (R311). -/
def execChargeFaultClear (m : Nat) (s : State) : Outcome :=
  ofUnit (m < 2) <| s.onTeam 1 <|
    if s.chState m = chFaultSt && ((s.ch m).cycled = 2 || (m = 0 && !s.cable)) then
      let s := (s.chZero m).setCh m chIdle
      if m = 0 then s.putNat (csig 0x201) 0 else s
    else s

/-! ## SUPPLY (R314-R317) -/

/-- SUPPLY_ENERGIZE (R315): 100 ms after entry in a load kind. -/
def execSupplyEnergize (s : State) : Outcome :=
  onCharger s <|
    let k := s.supplyKind
    if s.modeNow = modeSupply && 1 ≤ k && k ≤ 3 && s.supplyState = supOff && s.val (csig 0x213) = 1 && s.cable then
      (s.reach (msEnd s.supply.since 100)).supplyOn
    else s

/-- SUPPLY_FAULT (R314): the output below half its nominal voltage for `ms` boundaries, or no discharge allowance. -/
def execSupplyFault (ms : Nat) (s : State) : Outcome :=
  onCharger s <|
    if s.modeNow = modeSupply && s.supplyState = supRun && (200 ≤ ms || s.val (csig 0x213) = 0) then s.supplyOff supFault else s

/-- SUPPLY_CABLE_REMOVED (R315). -/
def execSupplyCableRemoved (ohm : Nat) (s : State) : Outcome :=
  onCharger s <|
    if (cableOf s.ppStd ohm).isSome || cableUnknown s.ppStd ohm then s
    else
      let s := s.putPp ohm
      if s.modeNow = modeSupply && s.supplyState = supRun && s.supplyKind ≤ 3 then s.supplyOff supOff else s

/-- STATION_STATE_REACTION (R317): the other vehicle's levels in mV, held for `periods` pilot periods, and the time in C in
milliseconds. -/
def execStationStateReaction (pos neg : Int) (periods : Nat) (ms : Nat) (s : State) : Outcome :=
  onCharger s <|
    let k := s.supplyKind
    if !(s.modeNow = modeSupply && (k = 4 || k = 5) && 2 ≤ periods && s.supplyState ≠ supFault) then s
    else
      let p := pilotOf true pos neg
      let s := s.putNat (csig 0x100) p
      let off := fun (s : State) => if s.supply.live then s.supplyOff supOff else s
      let fixed := fun (s : State) w => (s.cmpWrite 33 0 w).modSupply (fun x => { x with adv := false })
      let adv := fun (s : State) => s.advertise
      if p = pilotA then fixed (off s) 0x3FFFFF
      else if p = pilotC || (p = pilotD && s.val (csig 0x404) = 1) then
        let s := adv s
        if 100 ≤ ms && !s.supply.live && s.val (csig 0x213) = 1 then s.supplyOn else s
      else if p = pilotB || p = pilotD then adv (off s)
      else fixed (s.supplyOff supFault) 0

/-- STATION_PROBE_SEEN (R316): state B on the probe for `ms` milliseconds. -/
def execStationProbeSeen (ms : Nat) (s : State) : Outcome :=
  onCharger s <|
    if s.modeNow = modeStandby && s.fld Reg.INL_CTRL Fld.INL_CTRL_role = 1 && s.on Reg.INL_CTRL Fld.INL_CTRL_probe &&
        !s.running 33 && s.val (csig 0x100) = pilotB && 100 ≤ ms then
      s.modInlet (fun i => { i with seen := true })
    else s

/-! ## Solar (R318-R321) -/

/-- SOLAR_START (R318): the string at the start level for `ms` boundaries with the boost stopped. -/
def execSolarStart (ms : Nat) (s : State) : Outcome :=
  onCharger s <|
    if s.solState = solOff && s.qty (solsig 0x301) (30 * 512) ≤ s.q15 (solsig 0x100) && 10000 ≤ ms && !s.running 23 &&
        s.stagesAllowed [8] then
      (s.setSol solStart).modSolar (fun x => { x with stopAt := some s.dtb, scanEnd := s.dtb })
    else s

/-- SOLAR_STOP (R318): the power below 2 W for `ms` boundaries, or the string below 10 V. -/
def execSolarStop (ms : Nat) (s : State) : Outcome :=
  onCharger s <|
    if s.solState ≠ solOff && ((s.q15 (solsig 0x201) < 64 && 60000 ≤ ms) || s.q15 (solsig 0x100) < 10 * 512) then
      (s.boostOff.setSol solOff).modSolar (fun x => { x with stopAt := none })
    else s

/-- SOLAR_OPEN_CIRCUIT_MEASURE (R318, R320): 20 ms after the boost stopped. The reference after a start is not stated:
it is free. -/
def execSolarOpenCircuitMeasure (s : State) : Outcome :=
  onCharger s <|
    match s.solar.stopAt with
    | none => s
    | some t =>
      let s := s.reach (msEnd t 20)
      let v := s.stringV
      let s := s.modSolar (fun x => { x with stopAt := none, voc := v, stepAt := s.dtb, step := 2560, run := 0 })
      if !s.solarConfigOk then (s.setSol solOff).chToFault 0 1
      else if s.solState = solScan then
        (s.modSolar (fun x => { x with ref := 95 * v / 100, scanK := 0, bestP := -1, bestRef := 95 * v / 100 })).boostOn.solPublish
      else
        let (w, s) := s.drawWord
        ((s.modSolar (fun x => { x with ref := 10 * (w.toNat % 32768 : Nat) })).boostOn.setSol solTrack).solPublish

/-- MPPT_STEP (R319): every 10 ms; in CURTAIL the reference moves toward V_oc until IB falls below the level (R321). -/
def execMpptStep (s : State) : Outcome :=
  onCharger s <|
    let st := s.solState
    if (st = solTrack || st = solCurtail) && s.solar.stopAt.isNone then
      let s := s.reach (msEnd s.solar.stepAt 10)
      let x := s.solar
      let p := s.q15 (solsig 0x201)
      if st = solCurtail then
        let s := s.modSolar (fun x => { x with ref := slew x.ref x.voc x.step, stepAt := s.dtb, power := p })
        (if s.ib < s.qty (solsig 0x303) (80 * 256) then s.setSol solTrack else s).solPublish
      else
        let keep := x.power < p
        let run := if keep then x.run + 1 else 1
        let step := if !keep then max 256 (x.step / 2) else if run = 4 then min 5120 (2 * x.step) else x.step
        let up := x.up = keep
        (s.modSolar (fun x => { x with
          up := up, run := if run = 4 then 0 else run, step := step, power := p, stepAt := s.dtb
          ref := if up then x.ref + step else x.ref - step })).solPublish
    else s

/-- SOLAR_SCAN_START (R320): 600 s after the end of the last scan; the boost stops for the measurement of V_oc. -/
def execSolarScanStart (s : State) : Outcome :=
  onCharger s <|
    if s.solState = solTrack && s.solar.stopAt.isNone then
      let s := (s.reach (msEnd s.solar.scanEnd 600000)).boostOff.setSol solScan
      s.modSolar (fun x => { x with stopAt := some s.dtb })
    else s

/-- SOLAR_SCAN_STEP (R320): 64 equal steps of 10 ms from 0.95 V_oc down. -/
def execSolarScanStep (s : State) : Outcome :=
  onCharger s <|
    if s.solState = solScan && s.solar.stopAt.isNone then
      let s := s.reach (msEnd s.solar.stepAt 10)
      let x := s.solar
      let p := s.q15 (solsig 0x201)
      let (bp, br) := if x.bestP < p then (p, x.ref) else (x.bestP, x.bestRef)
      let k := x.scanK + 1
      let top := 95 * x.voc / 100
      let bottom := max (40 * x.voc / 100) (volts10 10)
      if k ≤ 64 then
        (s.modSolar (fun x => { x with scanK := k, bestP := bp, bestRef := br, stepAt := s.dtb, ref := top - (top - bottom) * k / 64 })).solPublish
      else
        ((s.modSolar (fun x => { x with ref := br, step := 2560, run := 0, power := bp, stepAt := s.dtb, scanEnd := s.dtb })).setSol solTrack).solPublish
    else s

/-- REVERSE_TRANSFER_START (R321, R327): IB above the reverse level for `ms` boundaries. -/
def execReverseTransferStart (ms : Nat) (s : State) : Outcome :=
  onCharger s <|
    if s.solState ≠ solOff && s.transferAllowed && s.qty (solsig 0x304) (78 * 256) < s.ib && 100 ≤ ms && !s.solar.transfer then
      (s.dcxBackward).modSolar (fun x => { x with transfer := true })
    else s

/-- REVERSE_TRANSFER_STOP (R321): below 20 W for `ms` boundaries. -/
def execReverseTransferStop (ms : Nat) (s : State) : Outcome :=
  onCharger s (if s.solar.transfer && 10000 ≤ ms then s.dcxOff.modSolar (fun x => { x with transfer := false }) else s)

/-- SOLAR_CURTAIL (R321): IB at the curtail level, or at the reverse level without permission for transfer. -/
def execSolarCurtail (s : State) : Outcome :=
  onCharger s <|
    let st := s.solState
    if (st = solTrack || st = solScan) && s.solar.stopAt.isNone &&
        (s.qty (solsig 0x303) (80 * 256) ≤ s.ib || (!s.transferAllowed && s.qty (solsig 0x304) (78 * 256) < s.ib)) then
      s.setSol solCurtail
    else s

/-! ## Link measurement -/

/-- DCL_MEAS_SAMPLE (R255, R310): every 1 µs; the two links in volts, up to the 1,250 V of their dividers (R593). The -D
variant has no charger link (R13). -/
def execDclMeasSample (dcl chl : Nat) (s : State) : Outcome :=
  let p := Config.usCycles
  let s := s.reach (s.nextAt p s.chs.sampleAt)
  let s := { s with chs := { s.chs with sampleAt := some s.dtb } }
  .next (if s.domainOn 3 && s.domainOn 4 then
      let s := s.setf Reg.DCL_MEAS Fld.DCL_MEAS_v (min dcl 1250)
      (if s.variant = .d then s else s.setf Reg.CHL_MEAS Fld.CHL_MEAS_v (min chl 1250)).chsLink
    else s)

end Sys2Proof.Machine
end

