-- ==== Sys2Proof/Machine/Clocks.lean ====
section
/-! DEFINITION. Meanings of the commands of the clocks (spec/19). -/

namespace Sys2Proof.Machine

/-- BOSC_TRIM_MEASURE (R520): every 10 ms, with the count over 328 keeper cycles. -/
def execBoscTrimMeasure (cnt : Nat) (s : State) : Outcome :=
  .next <|
    if !s.domainOn 0 then s
    else
      let s := match s.clk.trimAt with
        | some t => s.reachRtc (t + 10 * Config.msCycles)
        | none => s
      let s := (s.modClk (fun c => { c with trimAt := some s.rtc })).setf Reg.BOSC_MEAS Fld.BOSC_MEAS_cnt cnt
      let dev := (cnt : Int) - 1000976
      let trim := s.sfld Reg.BOSC_TRIM Fld.BOSC_TRIM_trim
      let to_ := if 2000 * dev.natAbs ≤ 1000976 then trim else if 0 < dev then trim - 1 else trim + 1
      let s := s.setf Reg.BOSC_TRIM Fld.BOSC_TRIM_trim (ux 8 (sat (-128) 127 to_))
      if 1000976 < 20 * dev.natAbs then (s.setf Reg.CLK_STAT Fld.CLK_STAT_bosc_err 1).report 14 (scopeOf lvModule 0) else s

/-- REFERENCE_LOSS (R525-R528): the monitor declares a loss, or the PLL loses its lock. -/
def execReferenceLoss (unlocked : Bool) (s : State) : Outcome :=
  .next <|
    if !s.domainOn 0 then s
    else
      let onBosc := s.on Reg.CLK_STAT Fld.CLK_STAT_src
      let s := if unlocked && onBosc then s else s.setf Reg.CLK_STAT Fld.CLK_STAT_refok 0
      if s.clkSeq ≠ sqIdle then (s.inc Reg.CLK_CNT_LOSS).setf Reg.CLK_STAT Fld.CLK_STAT_loss_seen 1
      else if !onBosc then s.referenceLost
      else if unlocked then (s.setf Reg.CLK_STAT Fld.CLK_STAT_lock 0).report 14 (scopeOf lvModule 0)
      else s

/-- CLOCK_RAMP_STEP (R526): 256 CLK_CTL cycles at a scale have passed. -/
def execClockRampStep (s : State) : Outcome :=
  .next <|
    match s.clk.due with
    | some t => if s.clkSeq = sqDown || s.clkSeq = sqUp then (s.reach t).scaleStep else s
    | none => s

/-- PLL_LOCK (R526): the PLL locks in RELOCK. -/
def execPllLock (s : State) : Outcome :=
  .next <|
    if s.clkSeq = sqRelock then
      let s := ((s.setf Reg.CLK_STAT Fld.CLK_STAT_lock 1).inc Reg.CLK_CNT_RELOCK).setClkSeq sqUp
      s.modClk (fun c => { c with due := some (s.dtb + 256) })
    else if s.domainOn 0 then s.setf Reg.CLK_STAT Fld.CLK_STAT_lock 1
    else s

/-- RELOCK_TIMEOUT (R526): 400 µs without lock. -/
def execRelockTimeout (s : State) : Outcome :=
  .next <|
    match s.clk.due with
    | some t =>
      if s.clkSeq = sqRelock then ((s.reach t).modClk (fun c => { c with due := none })).report 14 (scopeOf lvModule 0) else s
    | none => s

/-- REFERENCE_OK (R529): no loss condition for 1 ms. -/
def execReferenceOk (s : State) : Outcome :=
  .next (if s.domainOn 0 then s.setf Reg.CLK_STAT Fld.CLK_STAT_refok 1 else s)

/-- REFERENCE_RETURN (R529, R533): a write of CLK_CTRL with ret = 1. -/
def execReferenceReturn (core : Nat) (v : Word) (s : State) : Outcome :=
  ofUnit (core < 6) <|
    s.byCore core 0 (fun s =>
      if s.on Reg.CLK_STAT Fld.CLK_STAT_src && s.clkSeq = sqIdle && s.on Reg.CLK_STAT Fld.CLK_STAT_refok then
        (s.setf Reg.CLK_CTRL Fld.CLK_CTRL_refsel (Word.get v Fld.CLK_CTRL_refsel)).rampDown true
      else s.clkErr)

/-- CLOCK_DIVIDER_WRITE (R523, R524): a write of CLK_DIV0, or of CLK_DIV1. -/
def execClockDividerWrite (core : Nat) (second : Bool) (v : Word) (s : State) : Outcome :=
  ofUnit (core < 6) <|
    s.byCore core 0 (fun s =>
      if s.dividerRefused second v then s.clkErr
      else (s.wrReg (if second then Reg.CLK_DIV1 else Reg.CLK_DIV0) v).startRamps)

/-- DIVIDER_RAMP_STEP (R524): clock `i` takes its next integer step. -/
def execDividerRampStep (i : Nat) (s : State) : Outcome :=
  ofUnit (i < 6) <|
    match s.clk.ramp.getD i none with
    | none => s
    | some t =>
      let s := s.reach t
      let d := s.divNow i
      let w := s.divWanted i
      let s := s.keepRtc (fun s => s.modClk (fun c => { c with
        div := c.div.set i (if d < w then d + 1 else if w < d then d - 1 else d), ramp := c.ramp.set i none }))
      if s.divNow i = w then s
      else s.modClk (fun c => { c with ramp := c.ramp.set i (some (s.dtb + s.rampStep i)) })

/-- CLOCK_GATE_WRITE (R530, R531). -/
def execClockGateWrite (core k : Nat) (v : Word) (s : State) : Outcome :=
  ofUnit (core < 6 && k < 12) <|
    let a := Reg.CLK_GATE k
    let drops := fun f => s.on a f && Word.get v f = 0
    s.byCore core 0 (fun s =>
      if s.gateHeld k && (drops Fld.CLK_GATE_run || drops Fld.CLK_GATE_sleep) then s.clkErr
      else s.wrReg a v)

end Sys2Proof.Machine
end

