-- ==== Sys2Proof/Machine/Drives.lean ====
section
/-! DEFINITION. Meanings of the commands of the drive sequencer and of the sensor front ends (spec/08). -/

namespace Sys2Proof.Machine

/-! ## The drive sequence (R289) -/

/-- DRIVE_START (R263, R264, R288, R289). In a coupled machine group 1 carries the commands. -/
def execDriveStart (d : Nat) (s : State) : Outcome :=
  ofUnit (d < 2) <| s.onTeam 0 <|
    if s.drvState d = drvOff && s.val (dsig d 0x302) ≠ 0 && (s.modeNow = 2 || s.modeNow = 5) &&
        s.fld Reg.GDC_STAT Fld.GDC_STAT_seq = 3 && (d = 0 || !s.coupled) then
      if !s.drvConfigOk d then s.putNat (dsig d 0x321) 1
      else
        let s := (s.drvLoad d).groupStart (s.drvGens d ++ [sensorGen d])
        let s := s.modDrv d (fun x => { x with startAt := s.dtb, dir := s.val (dsig d 0x305), stopBy := none })
        let s := s.setDrv d drvStart
        if s.coupled then s.setDrv 1 drvCoupled else s
    else s

/-- The position and speed law of a drive has executed without a fault for `held` cycles (R289). -/
def State.sensorClean (s : State) (d held : Nat) : Bool :=
  (s.prodMem (if s.coupled then 11 else 2 * d + 1) 1).clean.any (fun t => t + held ≤ s.dtb)

/-- DRIVE_START_COMPLETE (R289): the condition has held for `held` cycles. -/
def execDriveStartComplete (d : Nat) (held : Nat) (s : State) : Outcome :=
  ofUnit (d < 2) <| s.onTeam 0 <|
    let low := fun i => (s.q15 (dsig d i)).natAbs * 20 < 32768
    if s.drvState d = drvStart && s.sensorClean d held && low 0x212 && low 0x213 && Config.msCycles ≤ held then s.setDrv d drvRun
    else s

/-- DRIVE_START_TIMEOUT (R289): a position fault, or 20 ms without the start condition. -/
def execDriveStartTimeout (d : Nat) (s : State) : Outcome :=
  ofUnit (d < 2) <| s.onTeam 0 <|
    if s.drvState d = drvStart then
      if s.val (dsig d 0x206) = 1 then s.drvToOff d
      else (s.reach ((s.drv d).startAt + 20 * Config.msCycles)).drvToOff d
    else s

/-- DRIVE_DWELL_ENTRY (R284): in DECEL the speed falls below the threshold; in DWELL a new fall restarts the dwell. -/
def execDriveDwellEntry (d : Nat) (s : State) : Outcome :=
  ofUnit (d < 2) <| s.onTeam 0 <|
    if (s.drvState d = drvDecel || s.drvState d = drvDwell) && s.drvSpeed d < s.q15 (dsig d 0x318) then
      (s.setDrv d drvDwell).modDrv d (fun x => { x with dwellAt := s.dtb })
    else s

/-- DRIVE_DWELL_END (R284). -/
def execDriveDwellEnd (d : Nat) (s : State) : Outcome :=
  ofUnit (d < 2) <| s.onTeam 0 <|
    if s.drvState d = drvDwell && s.drvSpeed d < s.q15 (dsig d 0x318) then
      let s := s.reach ((s.drv d).dwellAt + s.val (dsig d 0x313) * Config.msCycles)
      (s.setDrv d drvRun).modDrv d (fun x => { x with dir := s.val (dsig d 0x305) })
    else s

/-- DRIVE_STOP (R289): control mode 0, or a stage stop by the mode machine, which leaves 50 ms. -/
def execDriveStop (d : Nat) (s : State) : Outcome :=
  ofUnit (d < 2) <| s.onTeam 0 <|
    let st := s.drvState d
    let byMode := s.modeStops d
    if (st = drvRun || st = drvDecel || st = drvDwell) && (s.val (dsig d 0x302) = 0 || byMode) then
      (s.setDrv d drvStopping).modDrv d (fun x => { x with stopBy := if byMode then some (s.dtb + 50 * Config.msCycles) else none })
    else if st = drvStopping && byMode && (s.drv d).stopBy.isNone then
      s.modDrv d (fun x => { x with stopBy := some (s.dtb + 50 * Config.msCycles) })
    else s

/-- DRIVE_STOPPED (R289): torque 0 and the speed below n_ss − n_hys. -/
def execDriveStopped (d : Nat) (s : State) : Outcome :=
  ofUnit (d < 2) (s.onTeam 0 (if s.drvState d = drvStopping && s.q15 (dsig d 0x216) = 0 && s.drvSlow d then s.drvToOff d else s))

/-- DRIVE_STOP_TIMEOUT (R289): 50 ms after a stage stop with the speed still high. -/
def execDriveStopTimeout (d : Nat) (s : State) : Outcome :=
  ofUnit (d < 2) <| s.onTeam 0 <|
    match (s.drv d).stopBy with
    | none => s
    | some t => if s.drvState d = drvStopping && !s.drvSlow d then ((s.reach t).gtrip (s.drvGens d)).drvSafeEntry d else s

/-- DRIVE_SAFE_ENTRY (R289): a trip of its generators, or a position fault in RUN. -/
def execDriveSafeEntry (d : Nat) (s : State) : Outcome :=
  ofUnit (d < 2) <| s.onTeam 0 <|
    if s.drvLive d && ((s.drvGens d).any s.tripFlag || (s.drvState d = drvRun && s.val (dsig d 0x206) = 1)) then s.drvSafeEntry d
    else s

/-- DRIVE_OVERSPEED (R283): above 1.05 times the maximum for `held` cycles. -/
def execDriveOverspeed (d : Nat) (held : Nat) (s : State) : Outcome :=
  ofUnit (d < 2) <| s.onTeam 0 <|
    if s.drvLive d && 105 * s.q15 (dsig d 0x312) < 100 * s.drvSpeed d && Config.msCycles ≤ held then s.drvFault d else s

/-- BATTERY_SIDE_LOST (R287): each running drive requests a generator trip and enters SAFE. -/
def execBatterySideLost (s : State) : Outcome :=
  .next <| s.onTeam 0 <|
    if s.val (sid 3 0x31) = 1 then
      s.each [0, 1] (fun s d => if s.drvLive d then (s.gtrip (s.drvGens d)).drvSafeEntry d else s)
    else s

/-! ## Sensor front ends -/

/-- Place of an encoder state in the order 00, 10, 11, 01 that counts up (log 25). -/
def quadrature (a b : Bool) : Nat := if a then (if b then 2 else 1) else (if b then 3 else 0)

/-- ENCODER_EDGE (R271): the new levels of A and B. -/
def execEncoderEdge (d : Nat) (a : Bool) (b : Bool) (s : State) : Outcome :=
  ofUnit (d < 2) <|
    let x := s.drv d
    let step := (quadrature a b + 4 - quadrature x.encA x.encB) % 4
    if step = 0 then s
    else
      let near := x.encAt.any (fun t => s.dtb < t + 20)
      let s := s.modDrv d (fun x => { x with encA := a, encB := b, encAt := some s.dtb })
      if !s.on (Reg.ENC_CTRL d) Fld.ENC_CTRL_en then s
      else if near || step = 2 then s.setf (Reg.ENC_STAT d) Fld.ENC_STAT_err 1
      else
        let cpr := s.fld (Reg.ENC_CTRL d) Fld.ENC_CTRL_cpr
        let up := (step = 1) ≠ s.on (Reg.ENC_CTRL d) Fld.ENC_CTRL_dir
        let c := s.fld (Reg.ENC_CNT d) Fld.ENC_CNT_cnt
        s.setf (Reg.ENC_CNT d) Fld.ENC_CNT_cnt ((if up then c + 1 else c + cpr - 1) % cpr)

/-- ENCODER_INDEX (R271): a rising edge of Z. -/
def execEncoderIndex (d : Nat) (s : State) : Outcome :=
  ofUnit (d < 2) <|
    if s.on (Reg.ENC_CTRL d) Fld.ENC_CTRL_en then
      let s := s.setf (Reg.ENC_STAT d) Fld.ENC_STAT_zseen 1
      if s.on (Reg.ENC_CTRL d) Fld.ENC_CTRL_zen then s.setf (Reg.ENC_CNT d) Fld.ENC_CNT_cnt 0 else s
    else s

/-- RESOLVER_EXCITATION_FAULT (R265): the excitation current at its peak, in µA. Above 150 mA the excitation stops until en
is written 0 and then 1; below 5 mA reads exc_open. -/
def execResolverExcitationFault (d : Nat) (ua : Nat) (s : State) : Outcome :=
  ofUnit (d < 2) <|
    if !s.on (Reg.RES_CTRL d) Fld.RES_CTRL_en || s.on (Reg.RES_STAT d) Fld.RES_STAT_exc_oc then s
    else if 150000 < ua then s.setf (Reg.RES_STAT d) Fld.RES_STAT_exc_oc 1
    else s.setb (Reg.RES_STAT d) Fld.RES_STAT_exc_open (ua < 5000)

end Sys2Proof.Machine
end

