-- ==== Sys2Proof/Machine/Keeper.lean ====
section
/-! DEFINITION. Meanings of the commands of the keeper: ship mode, the button and the long press (spec/10). -/

namespace Sys2Proof.Machine

def State.modKeeper (s : State) (f : KeeperSt → KeeperSt) : State := { s with keeper := f s.keeper }

/-- BTN has been active for 12 s. -/
def pressTime : Nat := 12000 * Config.msCycles

/-- No stage runs: every generator of a stage is stopped. -/
def State.noStageRuns (s : State) : Bool := (List.range 14).all (fun st => !s.stageRuns st)

/-- SHIP_MODE_ARM (R345): a write of KPR_SHIP with arm = 1; any other situation leaves arm at 0. -/
def execShipModeArm (core : Nat) (s : State) : Outcome :=
  ofUnit (core < 6) <| s.overBridge (fun s =>
    s.setb Reg.KPR_SHIP Fld.KPR_SHIP_arm (teamOf core = 0 && s.modeNow = modeParked && s.noStageRuns))

/-- SHIP_MODE_BSW_OPEN (R345): 10 ms after the last domain is OFF. -/
def execShipModeBswOpen (s : State) : Outcome :=
  .next <| match s.keeper.offAt with
    | some t =>
      let s := (s.reachRtc (t + 10 * Config.msCycles)).modKeeper (fun k => { k with offAt := none })
      (s.setf Reg.KPR_BSTAT Fld.KPR_BSTAT_closed 0).setf Reg.KPR_BSTAT Fld.KPR_BSTAT_ship 1
    | none => s

/-- BTN_PRESS (R346): the keeper times the press from now. -/
def execBtnPress (s : State) : Outcome :=
  .next (s.modKeeper (fun k => if k.btnAt.isSome then k else { k with btnAt := some s.rtc, lpDone := false }))

/-- BTN_RELEASE (R346). -/
def execBtnRelease (s : State) : Outcome := .next (s.modKeeper (fun k => { k with btnAt := none, lpDone := false }))

/-- BTN_PRESS_WAKE (R345): a press of 200 ms. -/
def execBtnPressWake (s : State) : Outcome :=
  .next <| match s.keeper.btnAt with
    | some t => (s.reachRtc (t + 200 * Config.msCycles)).keeperWake 0xE0
    | none => s

/-- LONG_PRESS (R346): at 12 s the keeper asks for a MODULE reaction and the LV block stops PG18-PG21, below 5 km/h. -/
def execLongPress (s : State) : Outcome :=
  .next <| match s.keeper.btnAt with
    | some t =>
      if s.keeper.lpDone then s
      else
        let s := (s.reachRtc (t + pressTime)).modKeeper (fun k => { k with lpDone := true })
        if s.vehicleBelow 5 then
          let s := (s.report 10 (scopeOf lvModule 0)).stopGens [18, 19, 20, 21]
          s.modKeeper (fun k => { k with lpAt := some (t + pressTime) })
        else s.inc Reg.KPR_CNT_LPIGN
    | none => s

/-- LONG_PRESS_BSW_OPEN (R346): 50 ms later BSW opens and the supply is lost. -/
def execLongPressBswOpen (s : State) : Outcome :=
  .next <| match s.keeper.lpAt with
    | some t =>
      let s := (s.reachRtc (t + 50 * Config.msCycles)).supplyLost
      (s.setf Reg.KPR_BSTAT Fld.KPR_BSTAT_closed 0).modKeeper (fun k => { k with lpOpen := true })
    | none => s

/-- LONG_PRESS_BSW_CLOSE (R346, R27, R560): at 550 ms BSW closes; the next qualified VSUP is a power-on reset. -/
def execLongPressBswClose (s : State) : Outcome :=
  .next <| match s.keeper.lpAt with
    | some t =>
      if s.keeper.lpOpen then
        let s := (s.reachRtc (t + 550 * Config.msCycles)).setf Reg.KPR_BSTAT Fld.KPR_BSTAT_closed 1
        let s := ((s.inc Reg.KPR_CNT_LP).resetCause 7).modKeeper (fun k => { k with lpAt := none })
        s.dtbZero.modBoot (fun b => { b with porNext := true })
      else s
    | none => s

end Sys2Proof.Machine
end

