-- ==== Sys2Proof/Machine/Lv.lean ====
section
/-! DEFINITION. Meanings of the commands of the LV converter (spec/10). -/

namespace Sys2Proof.Machine

/-- LV_SEQUENCER_START (R338, R324, R14). -/
def execLvSequencerStart (s : State) : Outcome :=
  .next <| s.onTeam 0 <|
    if s.lv.st = lvOff && s.lvRunRequest && s.stagesAllowed [6, 7] then
      if 50 * 256 ≤ s.ib then (if s.ib ≤ 83 * 256 then s.setLv lvCheck else s)
      else if s.feedOk then (s.dcxForward).setLv lvDcxStart
      else s
    else s

/-- DCX_IB_GOOD (R326, R338). -/
def execDcxIbGood (s : State) : Outcome :=
  .next <| s.onTeam 0 <|
    if !s.ibGood then s
    else if s.lv.st = lvDcxStart && s.dtb ≤ s.lv.since + cyclesMs 12 then s.rectifierOn.setLv lvCheck
    else if s.lv.st = lvOvlatch && s.allActive [14, 15] && !s.lv.dcxReverse then s.rectifierOn
    else s

/-- DCX_START_TIMEOUT (R338): 12 ms without IB-good. -/
def execDcxStartTimeout (s : State) : Outcome :=
  .next <| s.onTeam 0 <|
    if s.lv.st = lvDcxStart then (s.reach (s.lv.since + cyclesMs 12)).hiccup
    else if s.lv.st = lvOvlatch && s.allActive [14, 15] && !s.running 22 && s.lv.ovWait.isNone then
      (s.reach (s.lv.dcxAt + cyclesMs 12)).ovHiccup
    else s

/-- DCX_OVERCURRENT (R328, R338): the primary current, in mA, above the limit for `held` cycles. -/
def execDcxOvercurrent (ma : Nat) (held : Nat) (s : State) : Outcome :=
  .next <|
    if dcxGens.any s.active && s.fld Reg.LVC_DCXLIM Fld.LVC_DCXLIM_a * 1000 < ma && Config.usCycles ≤ held then
      let s := (s.setf Reg.LVC_STAT Fld.LVC_STAT_dcx_oc 1).inc Reg.LVC_CNT_HICCUP
      let s := (s.gtrip dcxGens 1).report 7 (scopeOf lvStage 6)
      if s.lv.st = lvDcxStart then s.hiccup
      else if s.lv.st = lvSoft || s.lv.st = lvRun then s.buckOff.hiccup
      else if s.lv.st = lvOvlatch then s.ovHiccup
      else s
    else s

/-- Release of the hiccup's trip: TL6 of the DCX stage, and its trip flags (R415, R217). -/
def State.dcxRelease (s : State) : State := (s.mgClear (scopeOf lvStage 6)).clearTrips dcxGens

/-- DCX_WAIT_END (R338). -/
def execDcxWaitEnd (s : State) : Outcome :=
  .next <| s.onTeam 0 <|
    if s.lv.st = lvDcxWait then ((s.reach (s.lv.since + cyclesMs 100)).dcxRelease.dcxForward).setLv lvDcxStart
    else if s.lv.st = lvOvlatch then
      match s.lv.ovWait with
      | none => s
      | some t => (s.reach t).dcxRelease.dcxForward.modLvSeq (fun l => { l with ovWait := none })
    else s

/-- A start event of the off-time comparator for buck phase `k`, which takes it with PWM_COT.src = 0 (R205). -/
def State.buckStart (s : State) (k : Nat) : State :=
  if s.on (Reg.PWM_COT (18 + k)) Fld.PWM_COT_src then s else s.cotStart (18 + k)

/-- OFF_TIME_COMPARATOR (R330, R335): a start event for the next phase of the rotation. -/
def execOffTimeComparator (s : State) : Outcome :=
  .next <|
    if buckGens.any s.active then
      let k := s.lv.phase
      let s := s.modLvSeq (fun l => { l with phase := (k + 1) % 4 })
      if s.valleyHolds k then s.modLvSeq (fun l => { l with held := l.held.set k true }) else s.buckStart k
    else s

/-- VALLEY_LIMIT_RELEASE (R335): the held start event of a phase acts. -/
def execValleyLimitRelease (k : Nat) (s : State) : Outcome :=
  ofUnit (k < 4) <|
    if s.lv.held.getD k false && !s.valleyHolds k then
      (s.modLvSeq (fun l => { l with held := l.held.set k false })).buckStart k
    else s

/-- PHASE_CURRENT_ZERO (R337): before power-good the phase's low side turns off; a safe pattern stays (R215). -/
def execPhaseCurrentZero (k : Nat) (s : State) : Outcome :=
  ofUnit (k < 4) <|
    if s.lv.st = lvSoft && !s.on Reg.LVC_STAT Fld.LVC_STAT_pg && !s.safeHeld (18 + k) then s.loOff (18 + k) s.taps else s

/-- SYNC_EDGE (R332). -/
def execSyncEdge (s : State) : Outcome :=
  .next <|
    match s.lv.lastEdge with
    | none => s.modLvSeq (fun l => { l with lastEdge := some s.dtb })
    | some t =>
      let per := s.dtb - t
      let w := per * s.fld Reg.LVC_CFG Fld.LVC_CFG_fsw
      let good := 320000 ≤ w && w ≤ 480000 && s.on Reg.LVC_CFG Fld.LVC_CFG_sync_en
      let s := s.modLvSeq (fun l => { l with lastEdge := some s.dtb, goodEdges := if good then l.goodEdges + 1 else 0 })
      let s := s.setf Reg.LVC_SYNC Fld.LVC_SYNC_per (min per 0xFFFF)
      if 8 ≤ s.lv.goodEdges then s.setf Reg.LVC_STAT Fld.LVC_STAT_sync_lock 1 else s

/-- SYNC_LOST (R332): no edge for three of the last measured periods. -/
def execSyncLost (s : State) : Outcome :=
  .next <|
    match s.lv.lastEdge with
    | none => s
    | some t =>
      let per := s.fld Reg.LVC_SYNC Fld.LVC_SYNC_per
      if per = 0 then s
      else
        let s := (s.reach (t + 3 * per)).modLvSeq (fun l => { l with lastEdge := none, goodEdges := 0 })
        let s := s.setf Reg.LVC_SYNC Fld.LVC_SYNC_per 0
        if s.on Reg.LVC_STAT Fld.LVC_STAT_sync_lock then
          (s.setf Reg.LVC_STAT Fld.LVC_STAT_sync_lock 0).inc Reg.LVC_CNT_SYNCLOSS
        else s

/-- LV_CHECK_DONE (R336, R338): phase-node voltages in mV, compared against IB / 2 with compat640 = 1. -/
def execLvCheckDone (nodes : List Nat) (s : State) : Outcome :=
  .next <| s.onTeam 0 <|
    if s.lv.st ≠ lvCheck then s
    else if s.on Reg.LVC_CFG Fld.LVC_CFG_compat640 then
      let s := s.reach (s.lv.since + 100 * Config.usCycles)
      if nodes.any (fun v => s.ib * 1000 < 512 * (v : Int)) then (s.setf Reg.LVC_STAT Fld.LVC_STAT_hs_short 1).lvToFault 2
      else s.softStart
    else s.softStart

/-- LV_POWER_GOOD (R337, R338). -/
def execLvPowerGood (s : State) : Outcome :=
  .next <| s.onTeam 0 <|
    if s.lv.st = lvSoft && s.pgNow then
      let s := ((s.setLv lvRun).modLvSeq (fun l => { l with retries := 0 })).refreshPg
      { s with charge := s.charge.modify 1 (fun c => { c with cycled := 2 }) }
    else s

/-- LV_SOFTSTART_FAIL (R337, R338): power-good at the deadline wins. -/
def execLvSoftstartFail (s : State) : Outcome :=
  .next <| s.onTeam 0 <|
    if s.lv.st = lvSoft && !s.pgNow then
      let s := (s.reach (s.lv.since + cyclesMs (s.tss + 5))).buckOff
      let s := (s.modLvSeq (fun l => { l with retries := l.retries + 1 })).inc Reg.LVC_CNT_RETRY
      if 4 ≤ s.lv.retries then s.lvToFault 3 else s.setLv lvRetry
    else s

/-- LV_RETRY_WAIT_END (R338). -/
def execLvRetryWaitEnd (s : State) : Outcome :=
  .next (s.onTeam 0 (if s.lv.st = lvRetry then (s.reach (s.lv.since + cyclesMs 200)).setLv lvCheck else s))

/-- LV_FEED_LOST (R338): IB below 45 V has lasted `held` cycles. -/
def execLvFeedLost (held : Nat) (s : State) : Outcome :=
  .next <| s.onTeam 0 <|
    let feeds := s.allActive [14, 15] && !s.lv.dcxReverse
    let lost := (feeds && !s.feedOk) || dcxGens.any (fun g => s.trippedBy g 4) || (s.ib < 45 * 256 && Config.msCycles ≤ held)
    if (s.lv.st = lvSoft || s.lv.st = lvRun) && lost then s.lvToOff.modLvSeq (fun l => { l with tl4Clear := true }) |>.feedClear else s

/-- LV_OVERVOLTAGE (R341, R338): the output, in mV, above V_ov for `held` cycles. -/
def execLvOvervoltage (mv : Nat) (held : Nat) (s : State) : Outcome :=
  .next <|
    if s.domainOn 2 && s.aboveOv mv && Config.usCycles ≤ held && !bit (s.rd Reg.TRP_LVL).toNat 7 then
      let s := ((s.lineActive 7).inc Reg.LVC_CNT_OV).setf Reg.LVC_STAT Fld.LVC_STAT_ov 1
      if s.lv.st = lvFault then s else s.setLv lvOvlatch
    else s

/-- LV_SUPERVISOR_FIRE (R340): 1,500 ms without power-good; a software report at the Stage scope of the LV buck. -/
def execLvSupervisorFire (s : State) : Outcome :=
  .next <| s.onTeam 0 <|
    match s.lv.pgLost with
    | none => s
    | some t =>
      if s.lvRunRequest && !s.lv.fired then
        let s := (s.reach (t + cyclesMs 1500)).report 12 (scopeOf lvStage 7) rxSafe
        (s.lvToFault 6).modLvSeq (fun l => { l with fired := true })
      else s

/-- HICCUP_COUNT_RESET (R338). -/
def execHiccupCountReset (s : State) : Outcome :=
  .next (s.onTeam 0 (if s.lv.st = lvRun then (s.reach (s.lv.since + cyclesMs 1000)).modLvSeq (fun l => { l with hiccups := 0 }) else s))

/-- LV_STOP (R338). -/
def execLvStop (s : State) : Outcome :=
  .next (s.onTeam 0 (if s.lv.st ≠ lvOvlatch && s.lv.st ≠ lvFault && s.lvStopWanted then s.lvToOff else s))

/-- LV_FAULT_CLEAR (R338): the clear flag of R251 has been used, or S.6.0306 written 1. -/
def execLvFaultClear (s : State) : Outcome :=
  .next <| s.onTeam 0 <|
    if s.lv.st = lvFault && s.lv.cleared then
      (s.modLvSeq (fun l => { l with hiccups := 0, retries := 0, cleared := false })).setLv lvOff
    else s

end Sys2Proof.Machine
end

