-- ==== Sys2Proof/Machine/Martingale.lean ====
section
/-! DEFINITION. Meanings of the commands of the safety monitor (spec/13). -/

namespace Sys2Proof.Machine

/-! ## The safety lock -/

/-- First case of R397 that refuses the lock, 0 if none does. -/
def State.lockCase (s : State) : Nat :=
  let split := s.on (Reg.HARN_CTRL 0) Fld.HARN_CTRL_split_ok &&
    s.descs.any (fun d => dDefined d.2 && (dSclass d.2 = 1 || dSclass d.2 = 2) && dOclass d.2 = 4 && dOindex d.2 = 0)
  let badDrive := fun d =>
    (List.range 4).any (fun k => 36000 < s.slsLimit d k) ||
    (s.rd (Reg.MG_SLP_HI d)).toInt ≤ (s.rd (Reg.MG_SLP_LO d)).toInt ||
    s.nss d - s.nhys d ≤ s.fld (Reg.MG_SS1N d) Fld.MG_SS1N_nz ||
    s.fld (Reg.MG_SS1 d) Fld.MG_SS1_t < 50 || 2000 < s.fld (Reg.MG_SS1 d) Fld.MG_SS1_t
  let badInput := fun i =>
    let fn := s.fld (Reg.MG_SI i) Fld.MG_SI_fn
    let a := s.fld (Reg.MG_SI i) Fld.MG_SI_tpa
    let b := s.fld (Reg.MG_SI i) Fld.MG_SI_tpb
    1 ≤ fn && fn ≤ 4 && (4 ≤ a || 4 ≤ b || a = b)
  if split then 1 else if badDrive 0 || badDrive 1 then 2
  else if (List.range 8).any badInput then 3
  else if !s.mg.tested then 4 else 0

/-- SAFETY_LOCK (R397, R398): a write of a key to MG_LOCK. Which registers MG_CRC covers in which order is not stated, so
its value is free (log 24). -/
def execSafetyLock (core : Nat) (v : Word) (s : State) : Outcome :=
  ofUnit (core < 6) <|
    s.access core (s.domainOn 2) (fun s =>
      if v = 0x4D47 then s.modMg (fun m => { m with keyed := teamOf core = 0 })
      else if v = 0xB2B8 && s.mg.keyed && teamOf core = 0 && !s.locked then
        let s := s.modMg (fun m => { m with keyed := false })
        let k := s.lockCase
        let s := s.setf Reg.MG_STAT Fld.MG_STAT_lock_err k
        if k ≠ 0 then s
        else
          let (w, s) := s.drawWord
          (s.setf Reg.MG_STAT Fld.MG_STAT_locked 1).wr Reg.MG_CRC w
      else s.modMg (fun m => { m with keyed := false }))

/-- CLOCK_SUPERVISOR_TRIP (R396): 1 µs without a CLK_CTL edge. -/
def execClockSupervisorTrip (s : State) : Outcome :=
  let s := s.modMg (fun m => { m with supervisor := true, fatalDue := some s.dtb })
  .next (((s.path2 0).path2 1).dischargeStart)

/-! ## The measurement tick -/

/-- MARTINGALE_TICK (R399-R407, R285): the next DTB multiple of 40,000. -/
def execMartingaleTick (s : State) : Outcome :=
  let s := s.reach (s.nextAt 40000 s.mg.tickAt)
  let s := s.modMg (fun m => { m with tickAt := some s.dtb })
  if !s.domainOn 2 then .next s
  else
    let k0 := s.sensorOf 0
    let k1 := s.sensorOf 1
    let v0 := s.sampleValid k0
    let v1 := s.sampleValid k1
    let (z0, t0, c0, s) := s.stepOf k0
    let (z1, t1, c1, s) := if k1 = k0 then (z0, t0, c0, s) else s.stepOf k1
    let s := (s.measure 0 z0 v0 t0 c0).measure 1 z1 v1 t1 c1
    let s := s.forN 2 (fun s d => s.modMgDrive d (fun m => { m with fresh5 := false, fresh6 := false }))
    .next ((s.driveTick 0).driveTick 1)

/-- SPEED_INVALID (R401): after 3 consecutive ticks that are not valid. -/
def execSpeedInvalid (d : Nat) (s : State) : Outcome :=
  ofUnit (d < 2) <|
    if s.mgValid d && 3 ≤ (s.mgDrive d).bad then
      let s := (s.setf (Reg.MG_SPD d) Fld.MG_SPD_valid 0).speedPattern d
      let s := if s.driveActive d then s.speedFault d else s
      if s.fstate d = 0 then
        match s.violation d with
        | some c => s.enterSs1 d c
        | none => s
      else s
    else s

/-- SPEED_VALID (R401): after 4 consecutive valid ticks. -/
def execSpeedValid (d : Nat) (s : State) : Outcome :=
  ofUnit (d < 2) <|
    if !s.mgValid d && 4 ≤ (s.mgDrive d).good then
      let s := (s.setf (Reg.MG_SPD d) Fld.MG_SPD_valid 1).speedPattern d
      s.speedSource d
    else s

/-- SPEED_CROSSCHECK_FAULT (R402): ten ticks of disagreement. -/
def execSpeedCrosscheckFault (d : Nat) (s : State) : Outcome :=
  ofUnit (d < 2) (if 10 ≤ (s.mgDrive d).xcheck then s.speedFault d else s)

/-- SS1_RAMP_END (R403, R426): the SS1 time elapses; an envelope failure of the same tick names the cause. -/
def execSs1RampEnd (d : Nat) (s : State) : Outcome :=
  ofUnit (d < 2) <|
    if s.fstate d = 1 then
      let s := s.reach ((s.mgDrive d).ss1At + s.ss1Time d)
      s.enterSto d (if s.envelopeOk d (s.ss1Time d) then 8 else 7)
    else s

/-! ## Reports and releases -/

/-- FAULT_REPORT (R412): Martingale receives a report that a source has sent, or one of its own self-check (log 14). -/
def execFaultReport (cls : Nat) (scope : Nat) (rx : Nat) (s : State) : Outcome :=
  let r : Report := { cls := cls, scope := scope, rx := rx }
  ofUnit (cls < 16) <|
    if s.mg.reports.contains r then
      let t := (s.modMg (fun m => { m with reports := m.reports.erase r })).receive r
      if cls = 7 then t else t.lvReaction s
    else if cls = 14 && scope = scopeOf lvModule 0 then s.receive { r with rx := 0 }
    else s

/-- MG_REPS (R414): a Team S report; reaction kinds 5-7 and invalid scopes are refused. -/
def execMgReps (core : Nat) (v : Word) (s : State) : Outcome :=
  ofUnit (core < 6) <| s.mgWrite core (fun s =>
    let sc := Word.get v Fld.MG_REPS_scope
    let rx := Word.get v Fld.MG_REPS_rx
    if teamOf core ≠ 0 then s
    else if rx ≤ 4 && scopeValid sc then s.report 12 sc rx
    else s.inc Reg.MG_CNT_REPREF)

/-- MG_REPA (R414): a Team A report: REPORT, or SAFE on the Stage scope of a stage whose machine runs on Team A. -/
def execMgRepa (core : Nat) (v : Word) (s : State) : Outcome :=
  ofUnit (core < 6) <| s.mgWrite core (fun s =>
    let sc := Word.get v Fld.MG_REPA_scope
    let rx := Word.get v Fld.MG_REPA_rx
    if teamOf core = 1 && ((rx = rxReport && scopeValid sc) ||
        (rx = rxSafe && scopeLevel sc = lvStage && teamAStages.contains (scopeIndex sc))) then s.report 12 sc rx
    else s.inc Reg.MG_CNT_REPREF)

/-- MG_GTRIP (R414): a SAFE reaction at the Leg scope of each generator whose bit is written 1; word 0 holds PG00-PG31. -/
def execMgGtrip (core : Nat) (hi : Bool) (v : Word) (s : State) : Outcome :=
  ofUnit (core < 6) <| s.mgWrite core (fun s =>
    if teamOf core ≠ 0 then s
    else
      let gs := if hi then ((List.range 8).filter (fun i => bit v.toNat i)).map (· + 32)
        else (List.range 32).filter (fun i => bit v.toNat i)
      let s := s.each (gs.filter (· < 33)) (fun s g => s.preempt (scopeOf lvLeg g))
      ((s.wrReg (if hi then Reg.MG_GTRIP_HI else Reg.MG_GTRIP) v).safeGens gs).lvReaction s)

/-- MG_CLR (R415, R408). -/
def execMgClr (core : Nat) (v : Word) (s : State) : Outcome :=
  ofUnit (core < 6) <| s.mgWrite core (fun s => if teamOf core = 0 then s.mgClear (Word.get v Fld.MG_CLR_scope) else s)

/-- MG_SEL_WRITE (R427, R405). -/
def execMgSelWrite (core : Nat) (v : Word) (s : State) : Outcome :=
  ofUnit (core < 6) (s.mgWrite core (fun s => s.writeSel v))

/-- SLP_REFERENCE_SET (R406): a write of MG_SEL with ref = 1. -/
def execSlpReferenceSet (core : Nat) (v : Word) (s : State) : Outcome :=
  ofUnit (core < 6) (s.mgWrite core (fun s => s.writeSel (Word.put v Fld.MG_SEL_ref 1)))

/-- MODULE_DISCHARGE_REQUEST (R416): once the battery is off and both speeds are low. -/
def execModuleDischargeRequest (s : State) : Outcome :=
  .next <|
    if s.mg.dscWant && s.val (sid 3 0x30) = 0 &&
        [0, 1].all (fun d => ((s.mgSpeed d).natAbs : Int) < s.nss d - s.nhys d) && !s.gate.dscHold.any (s.dtb < ·) then
      s.dischargeStart.modMg (fun m => { m with dscWant := false })
    else s

/-! ## Test pulses and inputs -/

/-- TEST_PULSE_START (R417): TPn begins its off-pulse 2.5 ms × n after a 10 ms boundary. -/
def execTestPulseStart (n : Nat) (s : State) : Outcome :=
  ofUnit (n < 4) <|
    if s.domainOn 2 && bit (s.fld Reg.MG_TP Fld.MG_TP_en) n && !(s.mg.tpOff.getD n false) then
      let o := 1000000 * n
      let t := if s.dtb ≤ o then o else o + (s.dtb - o + 3999999) / 4000000 * 4000000
      (s.reach t).modMg (fun m => { m with tpOff := m.tpOff.set n true })
    else s

/-- TEST_PULSE_END (R417): after 400 µs. -/
def execTestPulseEnd (n : Nat) (s : State) : Outcome :=
  ofUnit (n < 4) <|
    if s.mg.tpOff.getD n false then
      let o := 1000000 * n
      let t := o + (s.dtb - o) / 4000000 * 4000000 + 160000
      (s.reach t).modMg (fun m => { m with tpOff := m.tpOff.set n false })
    else s

/-- SAFETY_INPUT_SAMPLE (R418): every 50 µs; the raw levels of the A and B contacts, one bit per input. -/
def execSafetyInputSample (a : Nat) (b : Nat) (s : State) : Outcome :=
  let s := s.reach (s.nextAt 20000 s.mg.sampleAt)
  let s := s.modMg (fun m => { m with sampleAt := some s.dtb })
  .next (if s.domainOn 2 then s.forN 8 (fun s i => (s.sampleContact i false (bit a i)).sampleContact i true (bit b i)) else s)

/-- CONTACT_FILTER_EXPIRY (R418, R419): a contact has held its level for 1 ms. -/
def execContactFilterExpiry (i : Nat) (isB : Bool) (s : State) : Outcome :=
  ofUnit (i < 8) <|
    let x := s.safetyIn i
    let c := if isB then x.b else x.a
    match c.since with
    | none => s
    | some t =>
      let s := s.reach (t + Config.msCycles)
      let now := !c.read
      let c' := { c with read := now, since := none }
      (s.modInput i (fun x => if isB then { x with b := c' } else { x with a := c' })).contactMoves i now

/-- INPUT_DISCREPANCY_TIMEOUT (R419). -/
def execInputDiscrepancyTimeout (i : Nat) (s : State) : Outcome :=
  ofUnit (i < 8) <|
    let x := s.safetyIn i
    match x.disc with
    | none => s
    | some t =>
      let s := s.reach (t + s.discTime i)
      if siState s i = siDisc || (siState s i = siOpen && (x.a.read || x.b.read)) then s.inputFault i 16
      else s.modInput i (fun x => { x with disc := none })

/-- INPUT_FAULT_RECOVERY (R419): both contacts read open for 100 ms. -/
def execInputFaultRecovery (i : Nat) (s : State) : Outcome :=
  ofUnit (i < 8) <|
    match (s.safetyIn i).openSince with
    | none => s
    | some t =>
      if siState s i = siFault then
        let s := (s.reach (t + 100 * Config.msCycles)).setSi i siOpen
        (s.modInput i (fun x => { x with openSince := none, disc := none })).outputs
      else s

/-! ## Safety outputs -/

/-- SAFETY_OUTPUT_TEST (R422): at a DTB multiple of 8,000,000 plus 5 ms × n. -/
def execSafetyOutputTest (n : Nat) (s : State) : Outcome :=
  ofUnit (n < 4) <|
    let o := 2000000 * n
    let t := if s.dtb ≤ o then o else o + (s.dtb - o + 7999999) / 8000000 * 8000000
    let s := s.reach t
    if bit (s.fld Reg.MG_SOSTAT Fld.MG_SOSTAT_on) n && (s.mg.soOff.getD n none).isNone then
      (s.modMg (fun m => { m with soOff := m.soOff.set n (some s.dtb) })).outputs
    else s

/-- SAFETY_OUTPUT_TEST_END (R422): the read-back stayed high during the pulse, or reads low while the output is high. -/
def execSafetyOutputTestEnd (n : Nat) (stayedHigh : Bool) (low : Bool) (s : State) : Outcome :=
  ofUnit (n < 4) <|
    match s.mg.soOff.getD n none with
    | none => s
    | some t =>
      let s := s.reach (t + s.fld (Reg.MG_SO n) Fld.MG_SO_pw * Config.usCycles)
      let s := s.modMg (fun m => { m with soOff := m.soOff.set n none })
      if stayedHigh || low then
        ((s.setf Reg.MG_SOSTAT (bitF (8 + n)) 1).report 13 (scopeOf lvModule 0)).outputs
      else s.outputs

/-- SAFETY_OUTPUT_FAULT_CLEAR (R422): a write of MG_SOSTAT; a fault whose source permits the output stays. -/
def execSafetyOutputFaultClear (core : Nat) (v : Word) (s : State) : Outcome :=
  ofUnit (core < 6) <| s.mgWrite core (fun s =>
    (s.forN 4 (fun s n => if bit v.toNat (8 + n) && !s.outPermitted n then s.setf Reg.MG_SOSTAT (bitF (8 + n)) 0 else s)).outputs)

/-! ## Self-test -/

/-- The self-test asks AU3 and AU7 as requester 0 for their first entry that names input 13; the requests reach the units 2
cycles later (R95, R423, log 99). -/
def State.askMidScale (s : State) : State :=
  s.each [3, 7] (fun s u =>
    match (List.range 16).find? (fun k => s.entryValid u k && s.senseOf u k = .midScale) with
    | none => s
    | some k => s.urgentIssue { requester := 0 } u k (s.dtb + 2))

/-- SELF_TEST_START (R423): a write of MG_CTRL with st = 1. A start that is ignored changes no field; one while the
self-test runs is ignored too (log 114). -/
def execSelfTestStart (core : Nat) (v : Word) (s : State) : Outcome :=
  ofUnit (core < 6) <| s.mgWrite core (fun s =>
    if s.domainOn 4 && (List.range 6).all (fun g => !s.on (Reg.PWM_CTRL g) Fld.PWM_CTRL_en) && s.mg.testDue.isNone then
      let s := if (List.range 6).any s.running then s.wrMasked Reg.MG_CTRL 2 v else s.wrReg Reg.MG_CTRL v
      let s := (s.setf Reg.MG_STAT Fld.MG_STAT_st_busy 1).modMg (fun m => { m with testDue := some (s.dtb + 1600000), midBad := false })
      (s.adcEvent 6 3).askMidScale
    else s.setf Reg.MG_STAT Fld.MG_STAT_cfg_err 1)

/-- SELF_TEST_DONE (R423): after 4.0 ms; whether every other check passed is the environment's. -/
def execSelfTestDone (passed : Bool) (s : State) : Outcome :=
  .next <| match s.mg.testDue with
    | none => s
    | some t =>
      let ok := passed && !s.mg.midBad
      let s := (s.reach t).modMg (fun m => { m with testDue := none, tested := true })
      let s := s.setf Reg.MG_STAT Fld.MG_STAT_st_busy 0
      if ok then s.setf Reg.MG_STAT Fld.MG_STAT_st_pass 1
      else (s.setf Reg.MG_STAT Fld.MG_STAT_st_fail 1).report 14 (scopeOf lvModule 0)

end Sys2Proof.Machine
end

