-- ==== Sys2Proof/Machine/Mode.lean ====
section
/-! DEFINITION. Meanings of the 1 ms system boundary and of the commands of the mode machine (spec/01). -/

namespace Sys2Proof.Machine

/-- What the hardware does at a 1 ms boundary. -/
def State.boundaryBlocks (s : State) : State :=
  let s := if s.domainOn 6 then s.staleSweep.recordAtMs else s
  if s.domainOn 2 then s.yarrowStart else s

/-- What the machines of the teams do at a 1 ms boundary. -/
def State.boundaryTeams (s : State) : State :=
  let s := if s.teamRuns 0 then
      ((((s.drvMissCheck 0).drvMissCheck 1).lvBoundary.refreshPhase).modeDeadline).publishConditions.refreshMmreq
    else s
  if s.teamRuns 1 then s.chargeBoundary.actBoundary else s

/-- SYSTEM_BOUNDARY_1MS (R29, R62, R79, R80, R208, R277, R472): DTB reaches its next multiple of 400,000. -/
def execSystemBoundary1ms (s : State) : Outcome :=
  .next (if s.domainOn 0 then (s.reach s.nextMs).boundaryBlocks.boundaryTeams else s)

/-- MODE_ENTRY_RECHECK (R46): the entry conditions are checked again at the boundary after the commit. -/
def execModeEntryRecheck (s : State) : Outcome :=
  .next <|
    match s.mode.recheck with
    | none => s
    | some t =>
      if !s.teamRuns 0 then s
      else
        let s := (s.reach t).modMode (fun m => { m with recheck := none })
        let target := s.val sigTarget
        if s.val sigPhase ≠ 0 then s
        else if s.mayEnter s.modeNow target then s.modeLeave target
        else (s.putNat sigTarget s.modeNow).refuseMode target

/-- MODE_LEAVING_DONE (R47): the drives that the target mode does not allow have stopped; the mode machine has stopped every other
such stage (log 92). -/
def execModeLeavingDone (s : State) : Outcome :=
  .next <|
    if s.val sigPhase ≠ phaseLeaving || !s.teamRuns 0 then s
    else if s.stagesToStop.any (· < 2) then s
    else s.modeLeft

/-- MODE_ENTERING_DONE (R43, R47): the required domains are ON. -/
def execModeEnteringDone (s : State) : Outcome :=
  .next <|
    if s.val sigPhase ≠ phaseEntering || !s.teamRuns 0 then s
    else if s.targetPowered then s.modeArrived
    else s

end Sys2Proof.Machine
end

