-- ==== Sys2Proof/Machine/Paddock.lean ====
section
/-! DEFINITION. Meanings of core writes to the Paddock and of the accesses its banks perform (spec/02). -/

namespace Sys2Proof.Machine

/-! ## Core writes -/

/-- Signal that a value or descriptor address names (R52). -/
def paddockId (a : Nat) : Nat := a % 0x800000 / 8

/-- A performed write replaces both words of the location (R57); captures and watching blocks take it (R136). -/
def State.pathWrite (s : State) (id : Nat) (v : Word) (ts quality : Nat) (ovr lost subst : Bool) : State :=
  let v := typedValue (s.desc id) v
  let s := s.putSig id { value := v, mword := mkMeta ts quality ovr lost subst }
  (s.latchWrite id v quality ovr).watchWrite id v

/-- A refused core write (R69). -/
def State.paddockRefuse (s : State) (core id : Nat) : State :=
  (((s.inc Reg.PDK_REFUSE_CNT).wr Reg.PDK_REFUSE_ID (W id)).wr Reg.PDK_REFUSE_SRC (W core)).accessFault core

/-- The size and place of a core access to the Paddock (R602). -/
def accessAligned (a size : Nat) : Bool := (size = 4 || size = 8) && a % size = 0

/-- Core `core` owns the signal (R67, R69). -/
def State.coreOwns (s : State) (core id : Nat) : Bool :=
  let d := s.desc id
  dDefined d && dOclass d = 4 && dOindex d = teamOf core

/-- The access of a core leaves for its bank, which it reaches 6 cycles later at the earliest; the interconnect adds a free
number of cycles (R77, log 15). -/
def State.coreAsk (s : State) (a : Nat) (k : Access) : State :=
  let (w, s) := s.drawWord
  s.bankAsk (paddockId a) (s.dtb + 6 + w.toNat) k

/-- The bank performs a core's store at address `a` of the value range (R69, R70). -/
def State.coreWriteDone (s : State) (core a size : Nat) (v : DWord) : State :=
  let id := paddockId a
  let hi := W (v.toNat / 2 ^ 32)
  if (size = 4 && a % 8 = 4) || !s.coreOwns core id then s.paddockRefuse core id
  else if size = 4 then s.pathWrite id (W v.toNat) s.usNext qValid false false false
  else s.pathWrite id (W v.toNat) s.usNext (metaQuality hi) false false (metaSubst hi)

/-- What a core's load at address `a` returns: the words of a signal, 0 for an undefined one, or a descriptor, whole or
one half (R57, R70, R602). -/
def State.coreReadWord (s : State) (a size : Nat) : DWord :=
  let id := paddockId a
  let g : Sig := if dDefined (s.desc id) then s.sigSeen id else {}
  let w : DWord := if a < 0x20800000 then BitVec.ofNat 64 (g.value.toNat + g.mword.toNat * 2 ^ 32) else s.desc id
  if size = 8 then w else BitVec.ofNat 64 (w.toNat / 2 ^ (8 * (a % 8)) % 2 ^ 32)

/-- A core's access to the Paddock (R53, R602): queued for its bank, or an access fault. A 32-bit store to a descriptor
faults. -/
def State.coreAccess (s : State) (core a size : Nat) (store : Option DWord) : State :=
  s.access core (s.domainOn 6 && accessAligned a size) (fun s =>
    match store with
    | none => s.coreAsk a (.coreRead core a size)
    | some v =>
      if a < 0x20800000 then s.coreAsk a (.coreWrite core a size v)
      else if size = 8 then s.coreAsk a (.descWrite core v)
      else s.accessFault core)

/-- PADDOCK_CORE_WRITE (R69, R70, R77, R602): a store of `size` bytes at address `a` of the value range. -/
def execPaddockCoreWrite (core a size : Nat) (v : DWord) (s : State) : Outcome :=
  ofUnit (core < 6 && 0x20000000 ≤ a && a < 0x20800000) (s.coreAccess core a size (some v))

/-- An encoding marked reserved, or an owner index outside the range of its class (R61, R64). -/
def descReserved (d : DWord) : Bool :=
  let top := [0, 47, 255, 4095, 1, 0].getD (dOclass d) 0
  dKind d = 3 || dType d = 7 || 2 < dSclass d || 0x12 < dField d 8 8 || 5 < dOclass d || top < dOindex d ||
    4 < dRlevel d || (4 < dWlevel d && dWlevel d ≠ 7) || dCstage d = 14 || 12 < dStale d

/-- Safety class B or D. -/
def safetyClass (d : DWord) : Bool := dSclass d = 1 || dSclass d = 2

/-- Owners that a signal of class D may have (R65). -/
def classDOwner (d : DWord) : Bool := dOclass d = 1 || dOclass d = 2 || (dOclass d = 4 && dOindex d = 0)

/-- A descriptor write that R62, R63, R64 or R65 refuses. -/
def State.descRefused (s : State) (id : Nat) (d : DWord) : Bool :=
  let old := s.desc id
  id < 0xD0000 || dKind d = 1 || descReserved d || (s.locked && (safetyClass old || safetyClass d)) ||
    (dSclass d = 2 && !classDOwner d) ||
    (dStale d ≠ 0 && dStale old = 0 && 16384 ≤ s.staleSignals.length)

/-- The bank performs a core's descriptor store, or refuses it (R62-R66). -/
def State.descWriteDone (s : State) (core id : Nat) (v : DWord) : State :=
  let d := v &&& descMask
  if teamOf core ≠ 0 || s.descRefused id d then s.accessFault core
  else (s.setDesc id d).putSig id {}

/-- DESCRIPTOR_WRITE (R62-R66, R77, R602): a store of `size` bytes at address `a` of the descriptor range. -/
def execDescriptorWrite (core a size : Nat) (v : DWord) (s : State) : Outcome :=
  ofUnit (core < 6 && 0x20800000 ≤ a && a < 0x21000000) (s.coreAccess core a size (some v))

/-! ## Banks (R75-R78) -/

/-- Order in which bank `b` serves a request in cycle `c`: the lowest first; a request of rank 3-6 that has waited 32 cycles
goes ahead of rank 2; core requests go in the order of their arrival (R75, R76). -/
def State.serveKey (s : State) (b c : Nat) (a : PendAccess) : Nat :=
  let (r, n) := a.kind.rank
  let within := if r = 2 then (n + 11 - s.paddock.lastEngine.getD b 11) % 12 else if r = 4 then a.req else n
  (if r = 1 then 0 else if r = 2 then 20 else if a.req + 32 ≤ c then 10 + r else 30 + r) * 2 ^ 64 + within

/-- The first of the requests with the lowest key. -/
def bestOf (key : PendAccess → Nat) : List PendAccess → Option PendAccess
  | [] => none
  | a :: l =>
    match bestOf key l with
    | some b => if key b < key a then some b else some a
    | none => some a

/-- The next access of bank `b`: the cycle and the request that wins it. -/
def State.bankTurn (s : State) (b : Nat) : Option (Nat × PendAccess) :=
  let l := s.paddock.waiting.filter (fun a => a.sig % 8 = b)
  match l with
  | [] => none
  | x :: xs =>
    let c := max s.dtb (max (s.paddock.free.getD b 0) (xs.foldl (fun m a => min m a.req) x.req))
    (bestOf (s.serveKey b c) (l.filter (fun a => a.req ≤ c))).map (fun a => (c, a))

/-- The descriptor in force names class and index as the owner (R601). -/
def State.pathOwns (s : State) (id cls idx : Nat) : Bool :=
  let d := s.desc id
  dDefined d && dOclass d = cls && dOindex d = idx

/-- A dropped path write (R601). -/
def State.paddockDrop (s : State) (id : Nat) : State := (s.inc Reg.PDK_DROP_CNT).wr Reg.PDK_DROP_ID (W id)

/-- The section of a law that started at `start` still runs. -/
def State.sectionRuns (s : State) (e l start : Nat) : Bool := (s.lawAt e l).sec.any (fun c => c.t = start)

/-- A value read for a section goes to register `d` of its file; the committed registers take it even when the section has
ended (R137, log 74). -/
def State.readInto (s : State) (e l d : Nat) (sel : BankSel) (start : Nat) (v : Int) : State :=
  if sel = .committed || s.sectionRuns e l start then s.dSet e l sel d v else s

/-- What an undefined signal reads as (R70, R81). -/
def State.paddockRead (s : State) (id : Nat) : Word := if dDefined (s.desc id) then (s.sigSeen id).value else 0

/-- LDS: it completes four cycles after the bank access (R77, R137), and its register is ready then, or after its latency
(R124). -/
def State.lawReadDone (s : State) (sig e l d : Nat) (sel : BankSel) (start due : Nat) : State :=
  let v := (BitVec.ofNat 16 (s.paddockRead sig).toNat).toInt
  ((s.readInto e l d sel start v).placeFree e (s.dtb + 4)).regsReady e l start (max due (s.dtb + 4)) [d]

/-- The pair of a TLT whose four entries have arrived: corners (0,0), (1,0), (0,1), (1,1) (R122). -/
def State.tableResult (s : State) (e l : Nat) (t : TablePend) : State :=
  let corner := fun k => ((t.got.find? (fun g => g.1 = k)).map (fun g => g.2.toNat)).getD 0
  let half := fun h => bilerp (sx 16 (corner 0 / 2 ^ h)) (sx 16 (corner 1 / 2 ^ h)) (sx 16 (corner 2 / 2 ^ h)) (sx 16 (corner 3 / 2 ^ h)) t.fx t.fy
  ((s.readInto e l t.d t.sel t.start (half 0)).readInto e l (t.d + 1) t.sel t.start (half 16)).regsReady e l t.start
    (max t.due (s.dtb + 4)) [t.d, t.d + 1]

/-- One entry of a TLT arrives (R122); the fourth completes it. -/
def State.lawTableDone (s : State) (sig e l tab corner : Nat) : State :=
  let s := s.placeFree e (s.dtb + 4)
  match (s.lawAt e l).tables.find? (fun t => t.tab = tab) with
  | none => s
  | some t =>
    let t' := { t with got := (corner, s.paddockRead sig) :: t.got }
    let s := s.modLaw e l (fun w => { w with tables := w.tables.erase t ++ (if t'.got.length < 4 then [t'] else []) })
    if t'.got.length < 4 then s else s.tableResult e l t'

/-- The bank performs access `a` in the present cycle (R58, R59, R77, R78, R136, R601). -/
def State.bankPerform (s : State) (a : PendAccess) : State :=
  match a.kind with
  | .conv u k val quality ovr ts lastOf urgentOf =>
    let s := if s.pathOwns a.sig 2 (16 * u + k) then s.pathWrite a.sig (Wi val) ts quality ovr false false else s.paddockDrop a.sig
    let s := match lastOf with
      | some t => s.sequenceComplete u t
      | none => s
    match urgentOf with
    | some r => s.urgentAnswer r true
    | none => s
  | .lawRead e l d sel start due => s.lawReadDone a.sig e l d sel start due
  | .lawTable e l tab corner => s.lawTableDone a.sig e l tab corner
  | .lawWrite e l val _ q =>
    let s := if s.pathOwns a.sig 1 (4 * e + l) then s.pathWrite a.sig val s.usNext q false false false else s.paddockDrop a.sig
    s.placeFree e (s.dtb + 4)
  | .bus p k val quality lost =>
    let s := if s.pathOwns a.sig 3 (1024 * p + k) then s.pathWrite a.sig val s.usNext quality false lost false else s.paddockDrop a.sig
    s.unpacked p k
  | .record k => s.recordCopy k a.sig
  | .coreRead core addr size => s.modCore core (fun c => { c with read := s.coreReadWord addr size })
  | .coreWrite core addr size v => s.coreWriteDone core addr size v
  | .descWrite core v => s.descWriteDone core a.sig v
  | .sweep => (s.sweepSignal a.sig).sweepNext (a.sig % 8) (s.dtb + 1)

/-- PADDOCK_BANK_ACCESS (R75-R78, R601): bank `b` performs the access that wins its next cycle. -/
def execPaddockBankAccess (b : Nat) (s : State) : Outcome :=
  ofUnit (b < 8) <|
    if !s.domainOn 6 then s
    else match s.bankTurn b with
    | none => s
    | some (c, a) =>
      let last := fun (l : List Nat) => match a.kind.rank with
        | (2, e) => l.set b e
        | _ => l
      ((s.reach c).modPaddock (fun p => { p with
        waiting := p.waiting.erase a, free := p.free.set b (c + 1), lastEngine := last p.lastEngine })).bankPerform a

end Sys2Proof.Machine
end

