-- ==== Sys2Proof/Machine/Power.lean ====
section
/-! DEFINITION. Meanings of the commands of the power domains (spec/20). -/

namespace Sys2Proof.Machine

/-- POWER_REQUEST (R536-R539): a write of PWR_REQ. -/
def execPowerRequest (core : Nat) (v : Word) (s : State) : Outcome :=
  ofUnit (core < 6) (s.byCore core 0 (fun s => s.powerRequest (teamOf core) v))

/-- DOMAIN_TRANSITION_DONE (R542, R543, R547). -/
def execDomainTransitionDone (d : Nat) (s : State) : Outcome :=
  ofUnit (d < 8) <|
    match s.power.trans.find? (fun x => x.dom = d) with
    | some x => s.transitionDone x
    | none => s

/-- DOMAIN_REINIT_DONE (R549). -/
def execDomainReinitDone (d : Nat) (s : State) : Outcome :=
  ofUnit (d < 8) <|
    match s.power.reinit.find? (fun r => r.1 = d) with
    | some r => s.reinitDone d r.2
    | none => s

/-- WAKE_PIN_RISE (R345, R545): not a wake while the module drives the pin (R577). -/
def execWakePinRise (s : State) : Outcome :=
  .next (if s.on Reg.KPR_WOUT Fld.KPR_WOUT_drive then s else s.keeperWake 0xE0)

/-- PLUG_DETECTION (R578, R12): on the -F variant, while PD3 is not ON. -/
def execPlugDetection (s : State) : Outcome :=
  .next (if s.variant = .f && !s.domainOn 3 then s.keeperWake 0xE0 else s)

/-- RTC_ALARM (R545): no wake source of ship mode (R345). -/
def execRtcAlarm (s : State) : Outcome :=
  .next (if s.on Reg.KPR_BSTAT Fld.KPR_BSTAT_ship then s else s.keeperWake 0xE2)

end Sys2Proof.Machine
end

