-- ==== Sys2Proof/Machine/ReadOps.lean ====
section
/-! DEFINITION. What a core's load returns: registers by their access codes and as views of the state, and the memories of the
address map (R17, R51-R54). -/

namespace Sys2Proof.Machine

/-! ## Registers whose word is a view of other state -/

/-- Words of an engine's data registers, two of 16 bits in each (spec/04). -/
def State.dataWords (s : State) (e k : Nat) : Word :=
  let d := (s.ceAt e).bank.d
  W ((d.getD (2 * k) 0).toNat + (d.getD (2 * k + 1) 0).toNat * 65536)

/-- Word `k` of the read window of port `p`: the frame of the selected object, in a layout that the spec does not give
(R449, log 120). -/
def State.readWindow (s : State) (p k : Nat) : Word :=
  match (s.busAt p).rx.find? (fun x => x.1 = s.fld (Reg.RXO_RDSEL p) Fld.RXO_RDSEL_obj) with
  | some (_, r) => Config.readWindow [r.frame.data.length, r.frame.fmt, r.dtb, r.seq, r.frame.sdt, r.frame.vcid, r.frame.af] r.frame.data k
  | none => Config.readWindow [] [] k

/-- The word that a core reads at the register address `a`, before its write-only bits. -/
def State.liveWord (s : State) (core a : Nat) : Word :=
  let o := a % 0x10000
  if a = Reg.DTB_LO then s.dtbLow
  else if a = Reg.DTB_HI then (s.coreAt core).dtbHi
  else if a = Reg.DTB_MS then W (s.ms % 2 ^ 32)
  else if a = Reg.PWR_HOLD then W s.holdMask
  else if Reg.BRD_LOCK 0 ≤ a && a ≤ Reg.BRD_LOCK 3 then
    Word.put (s.rd a) Fld.BRD_LOCK_rem (s.lockLeft ((a - Reg.BRD_LOCK 0) / 4 + 1))
  else if a / 0x10000 = 0x7010 && a = Reg.PWM_CNTR (o / 0x400) && s.running (o / 0x400) then s.counterWord (o / 0x400)
  else if 0x7030 ≤ a / 0x10000 && a / 0x10000 ≤ 0x703B && 0x4000 ≤ o && o < 0x4080 then
    s.dataWords (a / 0x10000 - 0x7030) ((o - 0x4000) / 4)
  else if 0x7050 ≤ a / 0x10000 && a / 0x10000 ≤ 0x7053 && 0x5000 ≤ o && o < 0x5210 then
    s.readWindow (a / 0x10000 - 0x7050) ((o - 0x5000) / 4)
  else s.rd a

/-- A read of a register that has no effect but on its read-clear bits: write-only bits read as 0, read-clear bits are
cleared, an offset that no chapter defines reads as 0 (R17, R54). -/
def State.plainRead (s : State) (core a : Nat) : Word × State :=
  match regAt a with
  | some (r, _) => (s.liveWord core a &&& ~~~(W r.wo), if r.rc = 0 then s else s.wr a (s.rd a &&& ~~~(W r.rc)))
  | none => (0, s)

/-- A read of DTB_LO latches DTB[63:32] for the reading core (R34). -/
def State.dtbRead (s : State) (core : Nat) : State :=
  (s.returns core s.dtbLow).modCore core (fun c => { c with dtbHi := W (s.dtb / 2 ^ 32 % 2 ^ 32) })

/-- A core reads the register at address `a`. KPR_WOUT.level is the level of the pin, which is free while another source may
drive it (log 120). -/
def State.registerRead (s : State) (core a : Nat) : State :=
  if a = Reg.DTB_LO then s.dtbRead core
  else if a = Reg.BRD_FWQ_A || a = Reg.BRD_FWQ_S then s.fwqRead core (a = Reg.BRD_FWQ_S)
  else if a = Reg.IRQ_CLAIM (a / 0x10000 - 0x7005) (core % 3) then
    (if a / 0x10000 - 0x7005 = teamOf core then s.irqClaim core else s.returns core 0x80)
  else if a = Reg.KPR_WOUT then
    let (w, s) := s.drawWord
    let level := if s.on a Fld.KPR_WOUT_drive then 1 else w.toNat % 2
    s.returns core (Word.put (s.rd a) Fld.KPR_WOUT_level level)
  else
    let (v, t) := s.plainRead core a
    t.returns core v

/-! ## Memories (R51, R507) -/

/-- The identification area; what lies outside its items is free (R507, log 120). -/
def State.identityByte (s : State) (k : Nat) : Byte :=
  let cert := s.sec.certificate
  if k < 8 then s.sec.serial.getD k 0
  else if k = 8 then BitVec.ofNat 8 (orderingCode s.variant)
  else if k < 0x40 then 0
  else if k < 0xA0 then (Crypto.ecdsaPublic s.sec.identityKey).getD (k - 0x40) 0
  else if 0x100 ≤ k && k < 0x102 + cert.length then (leBytes 2 cert.length ++ cert).getD (k - 0x100) 0
  else Config.identityBeyond k

/-- The byte of a memory at address `a`, with the domain of the memory; none outside every memory. -/
def State.memoryByte (s : State) (a : Nat) : Option (Nat × Byte) :=
  if a < 0x10000 then some (0, Config.romByte a)
  else if 0x10000000 ≤ a && a < 0x10800000 then some (0, s.sramGet (a % 0x10000000))
  else if 0x40000000 ≤ a && a < 0x42000000 then some (7, s.codeGet a)
  else if 0x48000000 ≤ a && a < 0x48400000 then some (7, s.nvmGet a)
  else if 0x60000000 ≤ a && a < 0x60001000 then some (7, s.identityByte (a - 0x60000000))
  else if 0x60001000 ≤ a && a < 0x60010000 then some (7, (capBytes s.variant (a - 0x60001000) 1).headD 0)
  else none

/-- Every byte of the load lies in a memory whose domain answers. -/
def State.memoryAnswers (s : State) (a size : Nat) : Bool :=
  (List.range size).all (fun k => match s.memoryByte (a + k) with
    | some (0, _) => s.domainOn 0
    | some _ => s.secRuns
    | none => false)

/-- What a load of `size` bytes from memory returns, its lowest byte first (log 46). -/
def State.memoryLoad (s : State) (a size : Nat) : DWord :=
  BitVec.ofNat 64 (leNat ((List.range size).map (fun k => ((s.memoryByte (a + k)).map (·.2)).getD 0)))

/-! ## Loads -/

/-- A register load that is not a word: a half word of coefficient memory is that half (spec/04), any other is free and
clears nothing (log 120). -/
def State.narrowRead (s : State) (core a size : Nat) : State :=
  let w := a / 0x10000
  let o := a % 0x10000
  if size = 2 && 0x7030 ≤ w && w ≤ 0x703B && 0x2000 ≤ o && o < 0x4000 && a % 2 = 0 then
    s.returns core (W ((s.rd (a / 4 * 4)).toNat / 2 ^ (8 * (a % 4)) % 65536))
  else
    let (v, s) := s.drawWord
    s.returns core v

/-- A load of core `core` (R51-R54): from the Paddock, from a block of registers, or from a memory; elsewhere, or where its
domain or its clock keeps the range silent, an access fault. -/
def State.coreLoad (s : State) (core a size : Nat) : State :=
  if 0x20000000 ≤ a && a < 0x21000000 then s.coreAccess core a size none
  else if blockMapped a then
    s.access core (s.reachable a) (fun s => if size = 4 then s.registerRead core a else s.narrowRead core a size)
  else s.access core (s.memoryAnswers a size) (fun s => s.modCore core (fun c => { c with read := s.memoryLoad a size }))

end Sys2Proof.Machine
end

