-- ==== Sys2Proof/Machine/Registers.lean ====
section
/-! DEFINITION. Meanings of core accesses to registers that have no row of their own: writes, read-clear reads, and the read
of DTB_LO (spec/01). -/

namespace Sys2Proof.Machine

/-! ## The Bridle engine's registers (R493, R494) -/

/-- Slot of a firmware register write, accepted while the slot waits for its answer. -/
def State.fwTaken (s : State) (core i : Nat) (f : State → State) : State :=
  match s.fwSlot core i (fun x => x.stage = .taken) with
  | some _ => f s
  | none => s.brdErr

/-- Writes to the Bridle engine. BRD_CTRL.en = 0, BRD_FWPW_VAL, BRD_FWRES and BRD_FWCMT are commands. -/
def State.brdWrite (s : State) (core a : Nat) (v : Word) : State :=
  let o := a % 0x10000
  if a = Reg.BRD_CTRL then
    let s := s.wrExcept a [Fld.BRD_CTRL_en] v
    if Word.get v Fld.BRD_CTRL_en = 1 then s.setf a Fld.BRD_CTRL_en 1 else s
  else if a = Reg.BRD_FWPW_ID then
    s.fwTaken core (Word.get v Fld.BRD_FWPW_ID_slot) (fun s => s.modBridle (fun b => { b with pwId := v }))
  else if a = Reg.BRD_FWRLEN then
    let i := Word.get v Fld.BRD_FWRLEN_slot
    s.fwTaken core i (fun s => s.modSlot i (fun x => { x with rlen := Word.get v Fld.BRD_FWRLEN_len }))
  else if 0x5000 ≤ o && o < 0x9000 then s.fwTaken core ((o - 0x5000) / 0x200) (fun s => s.wrReg a v)
  else if a = Reg.BRD_FWPW_VAL || a = Reg.BRD_FWRES || a = Reg.BRD_FWCMT then s
  else s.wrReg a v

/-! ## Commands -/

/-- Main SRAM: a store of a word, its lowest byte at the lowest address (log 46). -/
def State.sramStore (s : State) (a : Nat) (v : Word) : State := s.sramWrite (fun k => a % 0x10000000 + k) 0 (leBytes 4 v.toNat)

/-- A word that lies in main SRAM (R51). -/
def inSram (a : Nat) : Bool := 0x10000000 ≤ a && a + 4 ≤ 0x10800000

/-- REGISTER_WRITE (R17, R53, R54): a core stores a word at address `a`. A store to no range, to a read-only range or to one
that its domain or its clock keeps silent raises an access fault. -/
def execRegisterWrite (core a : Nat) (v : Word) (s : State) : Outcome :=
  ofUnit (core < 6) <|
    if inSram a then s.byCore core 0 (fun s => s.sramStore a v)
    else if 0x20000000 ≤ a && a < 0x21000000 then s.coreAccess core a 4 (some (v.setWidth 64))
    else s.access core (s.reachable a) (fun s => if a / 0x10000 = 0x7054 then s.brdWrite core a v else s.blockWrite core a v)

/-- RC_COUNTER_READ (R17, R53, R54, R602): a core's load of `a.2` bytes at `a.1`; of a register, it returns the fields and clears those that are
read-clear. -/
def execRcCounterRead (core : Nat) (a : Nat × Nat) (s : State) : Outcome :=
  ofUnit (core < 6 && [1, 2, 4, 8].contains a.2) (s.coreLoad core a.1 a.2)

/-- DTB_LO_READ (R34): bits [31:0]; bits [63:32] are latched in DTB_HI of the reading core. -/
def execDtbLoRead (core : Nat) (s : State) : Outcome := ofUnit (core < 6) (s.byCore core 0 (fun s => s.dtbRead core))

end Sys2Proof.Machine
end

