-- ==== Sys2Proof/Machine/Security.lean ====
section
/-! DEFINITION. Meanings of the commands of the crypto block, the key store and the debug port (spec/17, spec/21). -/

namespace Sys2Proof.Machine

open Sys2Proof.Crypto (ecdsaVerify)

def State.secErr (s : State) : State := s.setf Reg.SEC_VST Fld.SEC_VST_err 1

/-- A core's access to a register of PD7 SEC (R53, R531). -/
def State.secAccess (s : State) (core : Nat) (f : State → State) : State :=
  s.access core s.secRuns f

/-- Bytes of `n` words of registers, the lowest byte first. -/
def State.wordBytes (s : State) (a : Nat → Nat) (n : Nat) : List Byte :=
  (List.range n).flatMap (fun j => leBytes 4 (s.rd (a j)).toNat)

/-! ## Images -/

/-- Each rollback counter rises to the security version of the image of its kind verified in this boot (R497, R503). -/
def State.raiseCounters (s : State) : State :=
  s.each s.sec.verified (fun s v =>
    if 1 ≤ v.1 && v.1 ≤ 4 then s.setf Reg.SEC_RBCNT ⟨8 * (v.1 - 1), 7⟩ (max (s.rollback v.1) (min 64 v.2)) else s)

/-- BOOT_CONFIRM (R503): a write of SEC_CONFIRM with go = 1. -/
def execBootConfirm (core : Nat) (s : State) : Outcome :=
  ofUnit (core < 6) <|
    s.secAccess core (fun s =>
      if teamOf core = 0 then (s.programRecord none 0).raiseCounters else s.accessFault core)

/-- IMAGE_VERIFY (R498): a write of SEC_VCMD; with go = 1 a verification starts. -/
def execImageVerify (core : Nat) (v : Word) (s : State) : Outcome :=
  ofUnit (core < 6) <|
    s.secAccess core (fun s =>
      if s.on Reg.SEC_VST Fld.SEC_VST_busy then s.secErr
      else if Word.get v Fld.SEC_VCMD_go = 1 then
        (s.setf Reg.SEC_VST Fld.SEC_VST_busy 1).modSecure (fun x => { x with verify := some (Word.get v Fld.SEC_VCMD_off) })
      else s)

/-- IMAGE_VERIFY_DONE (R498): the verification ends. -/
def execImageVerifyDone (s : State) : Outcome :=
  .next <|
    match s.sec.verify.filter (fun _ => s.secRuns) with
    | none => s
    | some off =>
      let b := off / 0x1000000
      let c := s.verifyImage b (off % 0x1000000)
      let a := Reg.SEC_VST
      let s := (((s.setf a Fld.SEC_VST_busy 0).setf a Fld.SEC_VST_res c.code).setf a Fld.SEC_VST_kind c.kind).setf
        a Fld.SEC_VST_svn c.svn
      let mine := c.code = 0 && b = s.fld Reg.SEC_BOOTST Fld.SEC_BOOTST_bank
      (s.modSecure (fun x => { x with
        verify := none, verified := if mine then x.verified ++ [(c.kind, c.svn)] else x.verified })).irq 100

/-- MEASUREMENT_EXTEND (R506): a write of `n` to SEC_MEXT. -/
def execMeasurementExtend (core n : Nat) (s : State) : Outcome :=
  ofUnit (core < 6 && n < 8) <|
    s.secAccess core (fun s =>
      if 4 ≤ n || (1 ≤ n && teamOf core = 0) then s.extend n (s.wordBytes Reg.SEC_MBUF 12) else s.secErr)

/-! ## Debug unlock (R510) -/

/-- Life of a challenge. -/
def challengeTime : Nat := 60000 * Config.msCycles

/-- DEBUG_CHALLENGE_READ: a read of SEC_DBGCH by the debugger draws a challenge. -/
def execDebugChallengeRead (s : State) : Outcome :=
  .next <|
    if !s.domainOn 7 then s
    else
      let (rnd, s) := s.drawBytes 16
      let ch := rnd ++ s.sec.serial ++ [BitVec.ofNat 8 (s.fld Reg.SEC_DBGCTL Fld.SEC_DBGCTL_level)] ++ List.replicate 7 0
      let s := s.forN 8 (fun s j => s.wr (Reg.SEC_DBGCH j) (W (leNat ((ch.drop (4 * j)).take 4))))
      s.modSecure (fun x => { x with challenge := some (ch, s.dtb) })

/-- DEBUG_UNLOCK: a write of SEC_DBGCTL with go = 1; the challenge serves this attempt alone. -/
def execDebugUnlock (s : State) : Outcome :=
  .next <|
    if !s.domainOn 7 || s.on Reg.SEC_DBGST Fld.SEC_DBGST_busy || s.on Reg.SEC_DBGST Fld.SEC_DBGST_locked then s
    else
      let live := (s.sec.challenge.filter (fun c => s.dtb < c.2 + challengeTime)).map (·.1)
      (s.setf Reg.SEC_DBGST Fld.SEC_DBGST_busy 1).modSecure (fun x => { x with attempt := live, challenge := none })

/-- The debug port opens at a level; before level 2 Martingale applies a MODULE reaction. -/
def State.debugOpen (s : State) (level : Nat) : State :=
  let s := if level = 2 then s.receive { cls := 12, scope := scopeOf lvModule 0, rx := rxModule } else s
  (s.setf Reg.SEC_DBGST Fld.SEC_DBGST_open level).modSecure (fun x => { x with debugLevel := level, unlocked := true })

/-- A failed attempt; the third locks the port. -/
def State.debugFailed (s : State) : State :=
  let n := min 3 (s.fld Reg.SEC_DBGST Fld.SEC_DBGST_fails + 1)
  (s.setf Reg.SEC_DBGST Fld.SEC_DBGST_fails n).setb Reg.SEC_DBGST Fld.SEC_DBGST_locked (n = 3)

/-- DEBUG_UNLOCK_DONE: the verification of the signature ends. -/
def execDebugUnlockDone (s : State) : Outcome :=
  .next <|
    if !s.on Reg.SEC_DBGST Fld.SEC_DBGST_busy || !s.secRuns then s
    else
      let level := (s.sec.attempt.map (fun c => (c.getD 24 0).toNat)).getD 0
      let ok := s.perRatioOk && s.sec.attempt.any (fun c => ecdsaVerify s.sec.debugKey (s.wordBytes Reg.SEC_DBGSIG 24) c)
      let s := (s.setf Reg.SEC_DBGST Fld.SEC_DBGST_busy 0).modSecure (fun x => { x with attempt := none })
      (if ok && (level = 1 || level = 2) then s.debugOpen level else s.debugFailed).irq 102

/-- DEBUG_CHALLENGE_EXPIRY: 60 s after its read a challenge ends. -/
def execDebugChallengeExpiry (s : State) : Outcome :=
  .next <|
    match s.sec.challenge with
    | some c => (s.reach (c.2 + challengeTime)).modSecure (fun x => { x with challenge := none })
    | none => s

/-- Cores, caches, harness and interrupt blocks of PD0 (R560). -/
def State.resetCores (s : State) : State :=
  { s with
    regs := s.regs.filter (fun r => r.1 / 0x10000 ≠ 0x7005)
    cores := (s.cores.take 3).map (fun c => { dtbHi := c.dtbHi }) ++ s.cores.drop 3
    irqPend := s.irqPend.set 0 []
    harn := s.harn.set 0 {}
    mode := {}
    lv := {}
    drives := s.drives.map (fun d => { d with startAt := 0, dwellAt := 0, stopBy := none, dir := 0 }) }

/-- DEBUG_RESET (R560, R510): a request of the debug port after a level-2 unlock. Team S starts again in the boot ROM. -/
def execDebugReset (s : State) : Outcome :=
  .next <|
    if s.sec.debugLevel ≠ 2 then s
    else
      let s := s.receive { cls := 12, scope := scopeOf lvModule 0, rx := rxModule }
      let s := (s.resetCause 6).setf Reg.RST_STAT Fld.RST_STAT_last 6
      let s := ([5, 6, 7, 1, 2, 3, 4].foldl (fun s d => s.resetDomain d) s).resetCores
      (s.modBoot (fun b => { stage := 3, start := s.rtc, pwfAt := b.pwfAt })).wr Reg.RST_DTB s.dtbLow

end Sys2Proof.Machine
end

