-- ==== Sys2Proof/Machine/Teams.lean ====
section
/-! DEFINITION. Meanings of the commands of the processor teams (spec/12). -/

namespace Sys2Proof.Machine

/-- TROIKA_MISMATCH (R376, R379, R384): `odd` differs, `kind` is HARN_MIS.kind. A second mismatch in PAIR or a barrier has no
majority. -/
def execTroikaMismatch (t odd kind : Nat) (s : State) : Outcome :=
  ofUnit (t < 2 && odd < 3) <|
    if !s.domainOn t || s.harnMode t ≠ hmTroika then s
    else if s.harnState t = hsRun || s.harnState t = hsDrain then s.troikaMismatch t odd kind
    else s.noMajority t kind odd

/-- NO_MAJORITY_MISMATCH (R374, R379, R380): a compared group, or a double-bit error of the team's L2 (kind 7). -/
def execNoMajorityMismatch (t kind odd : Nat) (s : State) : Outcome :=
  ofUnit (t < 2 && odd < 3) <|
    if !s.domainOn t || s.harnMode t = hmHeld || ((s.compared t).isEmpty && kind ≠ 7) then s else s.noMajority t kind odd

/-- REJOIN_REQUEST (R377): a write of HARN_RJN.now = 1 by the pair; ignored outside PAIR. -/
def execRejoinRequest (core : Nat) (v : Word) (s : State) : Outcome :=
  ofUnit (core < 6) <|
    let t := teamOf core
    s.access core (s.domainOn t) (fun s =>
      if s.harnState t = hsPair && Word.get v Fld.HARN_RJN_now = 1 then s.startBarrier t false
      else s)

/-- FORCED_BARRIER (R377): 36 µs after the detection. -/
def execForcedBarrier (t : Nat) (s : State) : Outcome :=
  ofUnit (t < 2) <|
    match (s.harn_ t).pairAt with
    | some t0 => if s.harnState t = hsPair then (s.reach (t0 + 14400)).startBarrier t false else s
    | none => s

/-- REJOIN_DONE (R377, R378): the barrier has stalled the pair for `stall` CLK_CPU cycles, at most 3,200. -/
def execRejoinDone (t stall : Nat) (s : State) : Outcome :=
  ofUnit (t < 2) <|
    match (s.harn_ t).barrier with
    | some t0 =>
      if s.harnState t = hsBarrier && stall ≤ 3200 then (s.reach (t0 + s.stallTime stall)).rejoin t stall else s
    | none => s

/-- REHARNESS_FENCE (R381, R382): core `core` executes FENCE with mharn armed for mode `req`. -/
def execReharnessFence (core req : Nat) (s : State) : Outcome :=
  ofUnit (core < 6) <|
    let t := teamOf core
    if !s.domainOn t || s.harnMode t = hmHeld || (s.coreAt core).held then s else s.reharnessFence t (core % 3) (req % 4)

/-- REHARNESS_DONE (R383): the drain has stalled the team for `stall` CLK_CPU cycles, at most 4,800. -/
def execReharnessDone (t stall : Nat) (s : State) : Outcome :=
  ofUnit (t < 2) <|
    match (s.harn_ t).target, (s.harn_ t).barrier with
    | some b, some t0 =>
      if s.harnState t = hsDrain && stall ≤ 4800 then (s.reach (t0 + s.stallTime stall)).reharness t b stall else s
    | _, _ => s

/-- WFI (R537, R377, R393): the core, with its compared group, enters WFI unless an interrupt is deliverable. A barrier
of the same cycle is one with the WFI. -/
def execWfi (core : Nat) (s : State) : Outcome :=
  ofUnit (core < 6) <|
    let t := teamOf core
    if !s.domainOn t || (s.coreAt core).held then s
    else if (List.range 128).any (s.irqDeliverable t) || s.timerPending core then s
    else
      let s := s.each (s.groupOf t (core % 3)) (fun s n =>
        if (s.teamCore t n).held then s else s.modTeamCore t n (fun c => { c with wfi := true }))
      if s.harnState t = hsPair then s.startBarrier t true
      else if s.harnState t = hsBarrier && (s.harn_ t).barrier = some s.dtb then s.modHarn t (fun h => { h with byWfi := true })
      else if s.harnState t = hsRun then s.powerEvaluate t
      else s

/-- TEAM_A_RELEASE (R386): a write of HARN_CTRL with arel = 1 in the Team S block. -/
def execTeamARelease (core : Nat) (v : Word) (s : State) : Outcome :=
  ofUnit (core < 6) <|
    s.access core (s.domainOn 0) (fun s =>
      if teamOf core = 0 then s.releaseTeamA v
      else s)

/-- MACHINE_TIMER_INTERRUPT (R368, R546): DTB reaches the core's MTIMECMP. -/
def execMachineTimerInterrupt (core : Nat) (s : State) : Outcome :=
  ofUnit (core < 6) <|
    let t := teamOf core
    let cmp := s.mtimecmp t (core % 3)
    if cmp = 2 ^ 64 - 1 || s.domain 0 = 1 || s.domain 0 = 2 || (s.coreAt core).held then s
    else
      let s := s.reach cmp
      let lowering := s.power.entry.any (fun e => e.2.any (fun r => r.1 = t))
      if !s.domainOn t || lowering then s.wakeTeam (0x10 + core) t
      else s.each (s.groupOf t (core % 3)) (fun s n => s.modTeamCore t n (fun c => { c with wfi := false }))

/-- IRQ_CLAIM (R389): a read of the core's IRQ_CLAIM. -/
def execIrqClaim (core : Nat) (s : State) : Outcome := ofUnit (core < 6) (s.byCore core (teamOf core) (fun s => s.irqClaim core))

/-- IRQ_COMPLETE (R389): a write of a source number; completion has no other effect. -/
def execIrqComplete (core : Nat) (_v : Word) (s : State) : Outcome :=
  ofUnit (core < 6) (s.byCore core (teamOf core) (fun s => s))

/-- SOFTWARE_INTERRUPT (R389): a write to IRQ_SWI of the core's team at 0x880 sets sources 112-127, at 0x884 clears them. -/
def execSoftwareInterrupt (core : Nat) (clear : Bool) (v : Word) (s : State) : Outcome :=
  ofUnit (core < 6) <|
    let t := teamOf core
    let ks := (List.range 16).filter (fun i => bit v.toNat i)
    s.access core (s.domainOn t) (fun s =>
      if clear then
        s.each ks (fun s i =>
          let s := s.setf (Reg.IRQ_SWI t) (bitF i) 0
          { s with irqPend := s.irqPend.map (fun (l : List Nat) => l.erase (112 + i)) })
      else s.each ks (fun s i => (s.setf (Reg.IRQ_SWI t) (bitF i) 1).irqBy (112 + i) (0x10 + core)))

/-- WATCHDOG_SERVICE (R391, R392): a write to WDG_SVC of watchdog `n` of the core's team. -/
def execWatchdogService (core n : Nat) (v : Word) (s : State) : Outcome :=
  ofUnit (core < 6 && n < 3) <|
    let t := teamOf core
    s.access core (s.domainOn t) (fun s =>
      if !s.wdgActive t n then s
      else
        let us := (s.dtb - s.wdgServed t n) / Config.usCycles
        let early := us * 256 < s.fld (Reg.WDG_CTRL t n) Fld.WDG_CTRL_win * s.wdgTmo t n
        if v ≠ 0xA5C3 || early then s.wdgReact t n
        else s.modHarn t (fun h => { h with served := h.served.set n s.dtb }))

/-- WATCHDOG_WARNING (R391): 7/8 of tmo. -/
def execWatchdogWarning (t n : Nat) (s : State) : Outcome :=
  ofUnit (t < 2 && n < 3) <|
    if s.wdgActive t n then
      let s := s.reach (s.wdgServed t n + (s.wdgTmo t n * 7 * Config.usCycles + 7) / 8)
      (s.setf (Reg.WDG_STAT t n) Fld.WDG_STAT_warn 1).irq 107
    else s

/-- WATCHDOG_EXPIRY (R391, R392): no service within tmo. -/
def execWatchdogExpiry (t n : Nat) (s : State) : Outcome :=
  ofUnit (t < 2 && n < 3) <|
    if s.wdgActive t n then (s.reach (s.wdgServed t n + s.wdgTmo t n * Config.usCycles)).wdgReact t n else s

/-- MARTINGALE_FATAL_RESET (R560): 5 ms after a FATAL reaction. -/
def execMartingaleFatalReset (s : State) : Outcome :=
  .next <| match s.mg.fatalDue with
    | some t => (s.reach t).warmReset 4
    | none => s

/-- DOUBLE_BIT_L1_ERROR (R375): in a core that is not compared. -/
def execDoubleBitL1Error (core : Nat) (s : State) : Outcome :=
  ofUnit (core < 6) <|
    let t := teamOf core
    if !s.domainOn t || s.harnMode t = hmHeld || (s.compared t).contains (core % 3) then s
    else (s.accessFault core).inc (Reg.HARN_CNT_MIS t)

end Sys2Proof.Machine
end

