-- ==== Sys2Proof/Machine/Thermal.lean ====
section
/-! DEFINITION. Meanings of the commands of thermal supervision (spec/14). -/

namespace Sys2Proof.Machine

/-- ZONE_EVALUATION (R428-R437). -/
def execZoneEvaluation (z : Nat) (s : State) : Outcome :=
  ofUnit (z < 8) <|
    match (s.zone z).nextAt with
    | some t => if s.domainOn 3 && s.on Reg.TH_CTRL Fld.TH_CTRL_en then (s.reach t).evaluateZone z else s
    | none => s

/-- EVENT_RECORD_COPY (R434, R436). -/
def execEventRecordCopy (s : State) : Outcome := .next s.copyRecord

/-- THERMAL_REENABLE_REQUEST (R435): a Team S write of TH_REEN; the zones take it at their next evaluations. -/
def execThermalReenableRequest (core : Nat) (v : Word) (s : State) : Outcome :=
  ofUnit (core < 6) <|
    s.access core (s.domainOn 3) (fun s =>
      if teamOf core = 0 then s.modThermal (fun x => { x with reen := x.reen ||| Word.get v Fld.TH_REEN_zone })
      else s)

end Sys2Proof.Machine
end

