-- ==== Sys2Proof/Machine/Dispatch.lean ====
section
/-! DEFINITION. The dispatch: one arm per command, each one direct call of its meaning. -/

namespace Sys2Proof.Machine

def exec (i : Instr) (s : State) : Host.Outcome State Fault Refusal :=
  match i with
  | .registerWrite core a v => Sys2Proof.Machine.execRegisterWrite core a v s
  | .rcCounterRead core a => Sys2Proof.Machine.execRcCounterRead core a s
  | .dtbLoRead core => Sys2Proof.Machine.execDtbLoRead core s
  | .systemBoundary1ms => Sys2Proof.Machine.execSystemBoundary1ms s
  | .modeEntryRecheck => Sys2Proof.Machine.execModeEntryRecheck s
  | .modeLeavingDone => Sys2Proof.Machine.execModeLeavingDone s
  | .modeEnteringDone => Sys2Proof.Machine.execModeEnteringDone s
  | .paddockCoreWrite core a size v => Sys2Proof.Machine.execPaddockCoreWrite core a size v s
  | .descriptorWrite core a size v => Sys2Proof.Machine.execDescriptorWrite core a size v s
  | .paddockBankAccess b => Sys2Proof.Machine.execPaddockBankAccess b s
  | .generatorPeriodStart g => Sys2Proof.Machine.execGeneratorPeriodStart g s
  | .generatorCentre g => Sys2Proof.Machine.execGeneratorCentre g s
  | .compareAMatch g => Sys2Proof.Machine.execCompareAMatch g s
  | .referenceEdge g => Sys2Proof.Machine.execReferenceEdge g s
  | .deadTimeEnd g => Sys2Proof.Machine.execDeadTimeEnd g s
  | .stretchTurnOff g => Sys2Proof.Machine.execStretchTurnOff g s
  | .pwmEnable core g v => Sys2Proof.Machine.execPwmEnable core g v s
  | .pwmDisable core g => Sys2Proof.Machine.execPwmDisable core g s
  | .pwmGstart core v => Sys2Proof.Machine.execPwmGstart core v s
  | .pwmCmpWrite core g b v => Sys2Proof.Machine.execPwmCmpWrite core g b v s
  | .pwmPerWrite core g v => Sys2Proof.Machine.execPwmPerWrite core g v s
  | .pwmTripClear core g => Sys2Proof.Machine.execPwmTripClear core g s
  | .cotStartEvent g => Sys2Proof.Machine.execCotStartEvent g s
  | .cotMinOffEnd g => Sys2Proof.Machine.execCotMinOffEnd g s
  | .cotForcedStart g => Sys2Proof.Machine.execCotForcedStart g s
  | .yarrowMeasurementDone n => Sys2Proof.Machine.execYarrowMeasurementDone n s
  | .tripInPinChange idx level => Sys2Proof.Machine.execTripInPinChange idx level s
  | .tripInFilterExpiry idx => Sys2Proof.Machine.execTripInFilterExpiry idx s
  | .lawLateMiss e l => Sys2Proof.Machine.execLawLateMiss e l s
  | .lawOutputWrite e l => Sys2Proof.Machine.execLawOutputWrite e l s
  | .lawFallbackWrite e l => Sys2Proof.Machine.execLawFallbackWrite e l s
  | .lawEnable core e l v => Sys2Proof.Machine.execLawEnable core e l v s
  | .staticCheckDone e l => Sys2Proof.Machine.execStaticCheckDone e l s
  | .lawDisable core e l => Sys2Proof.Machine.execLawDisable core e l s
  | .ceDisable core e => Sys2Proof.Machine.execCeDisable core e s
  | .ceEccDoubleError e => Sys2Proof.Machine.execCeEccDoubleError e s
  | .coefMemWrite core e idx v => Sys2Proof.Machine.execCoefMemWrite core e idx v s
  | .coefMemWritePerformed e => Sys2Proof.Machine.execCoefMemWritePerformed e s
  | .lookaheadStart e l => Sys2Proof.Machine.execLookaheadStart e l s
  | .canNop e l => Sys2Proof.Machine.execCanNop e l s
  | .canEnd e l => Sys2Proof.Machine.execCanEnd e l s
  | .canSkip e l cond r n => Sys2Proof.Machine.execCanSkip e l cond r n s
  | .canCmp e l x y => Sys2Proof.Machine.execCanCmp e l x y s
  | .canTst e l x => Sys2Proof.Machine.execCanTst e l x s
  | .canLdi e l d imm => Sys2Proof.Machine.execCanLdi e l d imm s
  | .canMov e l d x => Sys2Proof.Machine.execCanMov e l d x s
  | .canAdd e l d x y => Sys2Proof.Machine.execCanAdd e l d x y s
  | .canSub e l d x y => Sys2Proof.Machine.execCanSub e l d x y s
  | .canNeg e l d x => Sys2Proof.Machine.execCanNeg e l d x s
  | .canAbs e l d x => Sys2Proof.Machine.execCanAbs e l d x s
  | .canMin e l d x y => Sys2Proof.Machine.execCanMin e l d x y s
  | .canMax e l d x y => Sys2Proof.Machine.execCanMax e l d x y s
  | .canLim e l d x lo hi => Sys2Proof.Machine.execCanLim e l d x lo hi s
  | .canShf e l d x k => Sys2Proof.Machine.execCanShf e l d x k s
  | .canAddw e l d x y => Sys2Proof.Machine.execCanAddw e l d x y s
  | .canMul e l a x y => Sys2Proof.Machine.execCanMul e l a x y s
  | .canMac e l a x y => Sys2Proof.Machine.execCanMac e l a x y s
  | .canMsu e l a x y => Sys2Proof.Machine.execCanMsu e l a x y s
  | .canMulc e l a x k => Sys2Proof.Machine.execCanMulc e l a x k s
  | .canMacc e l a x k => Sys2Proof.Machine.execCanMacc e l a x k s
  | .canDmac e l a x y => Sys2Proof.Machine.execCanDmac e l a x y s
  | .canDot e l a x y => Sys2Proof.Machine.execCanDot e l a x y s
  | .canLda e l a x => Sys2Proof.Machine.execCanLda e l a x s
  | .canAdda e l a b => Sys2Proof.Machine.execCanAdda e l a b s
  | .canSuba e l a b => Sys2Proof.Machine.execCanSuba e l a b s
  | .canSha e l a k => Sys2Proof.Machine.execCanSha e l a k s
  | .canSt e l d a => Sys2Proof.Machine.execCanSt e l d a s
  | .canSincos e l d x => Sys2Proof.Machine.execCanSincos e l d x s
  | .canPark e l d x y th => Sys2Proof.Machine.execCanPark e l d x y th s
  | .canIpark e l d x y th => Sys2Proof.Machine.execCanIpark e l d x y th s
  | .canClarke e l d x y => Sys2Proof.Machine.execCanClarke e l d x y s
  | .canSvm e l d x y => Sys2Proof.Machine.execCanSvm e l d x y s
  | .canDiv e l d x y => Sys2Proof.Machine.execCanDiv e l d x y s
  | .canSqrt e l d x => Sys2Proof.Machine.execCanSqrt e l d x s
  | .canTlu e l d x t => Sys2Proof.Machine.execCanTlu e l d x t s
  | .canTlt e l d x y t => Sys2Proof.Machine.execCanTlt e l d x y t s
  | .canLdk e l d k => Sys2Proof.Machine.execCanLdk e l d k s
  | .canLds e l d sg => Sys2Proof.Machine.execCanLds e l d sg s
  | .canSts e l d sg => Sys2Proof.Machine.execCanSts e l d sg s
  | .canLdc e l d k => Sys2Proof.Machine.execCanLdc e l d k s
  | .canLdu e l d k => Sys2Proof.Machine.execCanLdu e l d k s
  | .canUrg e l u k => Sys2Proof.Machine.execCanUrg e l u k s
  | .canInt e l n x g k => Sys2Proof.Machine.execCanInt e l n x g k s
  | .canOutd e l k x => Sys2Proof.Machine.execCanOutd e l k x s
  | .canOutc e l k a => Sys2Proof.Machine.execCanOutc e l k a s
  | .canPrd e l d k => Sys2Proof.Machine.execCanPrd e l d k s
  | .canBnd e l b k lo hi => Sys2Proof.Machine.execCanBnd e l b k lo hi s
  | .canSel e l => Sys2Proof.Machine.execCanSel e l s
  | .canCorr e l d x g k => Sys2Proof.Machine.execCanCorr e l d x g k s
  | .adcTriggerDelayEnd u t => Sys2Proof.Machine.execAdcTriggerDelayEnd u t s
  | .adcSlotStart u => Sys2Proof.Machine.execAdcSlotStart u s
  | .adcSamplingEnd u => Sys2Proof.Machine.execAdcSamplingEnd u s
  | .adcConversionEnd u code beyond => Sys2Proof.Machine.execAdcConversionEnd u code beyond s
  | .adcUrgWrite core u entry => Sys2Proof.Machine.execAdcUrgWrite core u entry s
  | .urgentRequestEffect u => Sys2Proof.Machine.execUrgentRequestEffect u s
  | .adcSwtrgWrite core u slots => Sys2Proof.Machine.execAdcSwtrgWrite core u slots s
  | .adcCalStart core u => Sys2Proof.Machine.execAdcCalStart core u s
  | .adcCalDone u m0 m1 m2 m3 => Sys2Proof.Machine.execAdcCalDone u m0 m1 m2 m3 s
  | .adcDisable core u => Sys2Proof.Machine.execAdcDisable core u s
  | .triggerTimerFire n => Sys2Proof.Machine.execTriggerTimerFire n s
  | .gateCommandArrival ch => Sys2Proof.Machine.execGateCommandArrival ch s
  | .strongPhaseEnd n => Sys2Proof.Machine.execStrongPhaseEnd n s
  | .plateauExit n tIn tPl => Sys2Proof.Machine.execPlateauExit n tIn tPl s
  | .slopeTimeout n => Sys2Proof.Machine.execSlopeTimeout n s
  | .gateSenseMidpoint n => Sys2Proof.Machine.execGateSenseMidpoint n s
  | .qualificationTimeout n => Sys2Proof.Machine.execQualificationTimeout n s
  | .linkLoss n => Sys2Proof.Machine.execLinkLoss n s
  | .biasUndervoltage n => Sys2Proof.Machine.execBiasUndervoltage n s
  | .biasRecovery n => Sys2Proof.Machine.execBiasRecovery n s
  | .lvOvercurrent m => Sys2Proof.Machine.execLvOvercurrent m s
  | .lvBootstrapUv m => Sys2Proof.Machine.execLvBootstrapUv m s
  | .lvBootstrapRecovery m => Sys2Proof.Machine.execLvBootstrapRecovery m s
  | .senseCellCrossing n => Sys2Proof.Machine.execSenseCellCrossing n s
  | .senseCellDetection n => Sys2Proof.Machine.execSenseCellDetection n s
  | .softTurnOffEnd n => Sys2Proof.Machine.execSoftTurnOffEnd n s
  | .probeGateLoopDone rs => Sys2Proof.Machine.execProbeGateLoopDone rs s
  | .probeInjectionEnd v0 v1 hi lo => Sys2Proof.Machine.execProbeInjectionEnd v0 v1 hi lo s
  | .probeBridgeDone => Sys2Proof.Machine.execProbeBridgeDone s
  | .gdcProbeStart core v => Sys2Proof.Machine.execGdcProbeStart core v s
  | .drvEnPinChange level => Sys2Proof.Machine.execDrvEnPinChange level s
  | .drvEnFilteredLow => Sys2Proof.Machine.execDrvEnFilteredLow s
  | .drvEnFilteredRise => Sys2Proof.Machine.execDrvEnFilteredRise s
  | .startSequenceProbe => Sys2Proof.Machine.execStartSequenceProbe s
  | .enReqPulse core => Sys2Proof.Machine.execEnReqPulse core s
  | .enReqPulseEnd => Sys2Proof.Machine.execEnReqPulseEnd s
  | .dclMeasSample dcl chl => Sys2Proof.Machine.execDclMeasSample dcl chl s
  | .chopperOn => Sys2Proof.Machine.execChopperOn s
  | .chopperOff => Sys2Proof.Machine.execChopperOff s
  | .hardOvervoltage => Sys2Proof.Machine.execHardOvervoltage s
  | .hardOvervoltageRelease => Sys2Proof.Machine.execHardOvervoltageRelease s
  | .forcedDischargeRequest core => Sys2Proof.Machine.execForcedDischargeRequest core s
  | .forcedDischargeDone => Sys2Proof.Machine.execForcedDischargeDone s
  | .forcedDischargeTimeout => Sys2Proof.Machine.execForcedDischargeTimeout s
  | .dischargeHoldoffEnd => Sys2Proof.Machine.execDischargeHoldoffEnd s
  | .path2TurnOn n => Sys2Proof.Machine.execPath2TurnOn n s
  | .driveStart d => Sys2Proof.Machine.execDriveStart d s
  | .driveStartComplete d held => Sys2Proof.Machine.execDriveStartComplete d held s
  | .driveStartTimeout d => Sys2Proof.Machine.execDriveStartTimeout d s
  | .driveDwellEntry d => Sys2Proof.Machine.execDriveDwellEntry d s
  | .driveDwellEnd d => Sys2Proof.Machine.execDriveDwellEnd d s
  | .driveStop d => Sys2Proof.Machine.execDriveStop d s
  | .driveStopped d => Sys2Proof.Machine.execDriveStopped d s
  | .driveStopTimeout d => Sys2Proof.Machine.execDriveStopTimeout d s
  | .driveSafeEntry d => Sys2Proof.Machine.execDriveSafeEntry d s
  | .driveOverspeed d held => Sys2Proof.Machine.execDriveOverspeed d held s
  | .batterySideLost => Sys2Proof.Machine.execBatterySideLost s
  | .encoderEdge d a b => Sys2Proof.Machine.execEncoderEdge d a b s
  | .encoderIndex d => Sys2Proof.Machine.execEncoderIndex d s
  | .resolverExcitationFault d ua => Sys2Proof.Machine.execResolverExcitationFault d ua s
  | .pilotPeriodCapture per high glitches => Sys2Proof.Machine.execPilotPeriodCapture per high glitches s
  | .pilotStateDecode pos neg held => Sys2Proof.Machine.execPilotStateDecode pos neg held s
  | .inletCableDetected ohm => Sys2Proof.Machine.execInletCableDetected ohm s
  | .inletSourceQualified ms => Sys2Proof.Machine.execInletSourceQualified ms s
  | .inletReadyLost ms => Sys2Proof.Machine.execInletReadyLost ms s
  | .inletEnergize => Sys2Proof.Machine.execInletEnergize s
  | .inletPhasesValid v1 v2 v3 f a2 a3 ms => Sys2Proof.Machine.execInletPhasesValid v1 v2 v3 f a2 a3 ms s
  | .inletEnergizeTimeout invalid => Sys2Proof.Machine.execInletEnergizeTimeout invalid s
  | .inletSourceLoss ms => Sys2Proof.Machine.execInletSourceLoss ms s
  | .handoverEnd us => Sys2Proof.Machine.execHandoverEnd us s
  | .handoverTimeout => Sys2Proof.Machine.execHandoverTimeout s
  | .lockoutEnd => Sys2Proof.Machine.execLockoutEnd s
  | .inletCableRemoved ohm => Sys2Proof.Machine.execInletCableRemoved ohm s
  | .inletModeLeft => Sys2Proof.Machine.execInletModeLeft s
  | .srcFaultRecover => Sys2Proof.Machine.execSrcFaultRecover s
  | .weakSource v0 v idx df => Sys2Proof.Machine.execWeakSource v0 v idx df s
  | .chargeRequest m => Sys2Proof.Machine.execChargeRequest m s
  | .chargeQualified m v => Sys2Proof.Machine.execChargeQualified m v s
  | .chargeQualifyTimeout m v => Sys2Proof.Machine.execChargeQualifyTimeout m v s
  | .chargeCvReached m v => Sys2Proof.Machine.execChargeCvReached m v s
  | .chargeTerminationStart m idx => Sys2Proof.Machine.execChargeTerminationStart m idx s
  | .chargeTermination m => Sys2Proof.Machine.execChargeTermination m s
  | .chargeTopoffEnd m => Sys2Proof.Machine.execChargeTopoffEnd m s
  | .chargeRecharge m v ms => Sys2Proof.Machine.execChargeRecharge m v ms s
  | .chargeSourceLost m => Sys2Proof.Machine.execChargeSourceLost m s
  | .chargeSourceHold => Sys2Proof.Machine.execChargeSourceHold s
  | .chargeSourceHoldEnd => Sys2Proof.Machine.execChargeSourceHoldEnd s
  | .presenceTestStart idx => Sys2Proof.Machine.execPresenceTestStart idx s
  | .presenceTestEnd idx collapse => Sys2Proof.Machine.execPresenceTestEnd idx collapse s
  | .chargeStop => Sys2Proof.Machine.execChargeStop s
  | .chargeFaultClear m => Sys2Proof.Machine.execChargeFaultClear m s
  | .supplyEnergize => Sys2Proof.Machine.execSupplyEnergize s
  | .supplyFault ms => Sys2Proof.Machine.execSupplyFault ms s
  | .supplyCableRemoved ohm => Sys2Proof.Machine.execSupplyCableRemoved ohm s
  | .stationStateReaction pos neg periods ms => Sys2Proof.Machine.execStationStateReaction pos neg periods ms s
  | .stationProbeSeen ms => Sys2Proof.Machine.execStationProbeSeen ms s
  | .solarStart ms => Sys2Proof.Machine.execSolarStart ms s
  | .solarStop ms => Sys2Proof.Machine.execSolarStop ms s
  | .solarOpenCircuitMeasure => Sys2Proof.Machine.execSolarOpenCircuitMeasure s
  | .mpptStep => Sys2Proof.Machine.execMpptStep s
  | .solarScanStart => Sys2Proof.Machine.execSolarScanStart s
  | .solarScanStep => Sys2Proof.Machine.execSolarScanStep s
  | .reverseTransferStart ms => Sys2Proof.Machine.execReverseTransferStart ms s
  | .reverseTransferStop ms => Sys2Proof.Machine.execReverseTransferStop ms s
  | .solarCurtail => Sys2Proof.Machine.execSolarCurtail s
  | .lvSequencerStart => Sys2Proof.Machine.execLvSequencerStart s
  | .dcxIbGood => Sys2Proof.Machine.execDcxIbGood s
  | .dcxStartTimeout => Sys2Proof.Machine.execDcxStartTimeout s
  | .dcxOvercurrent ma held => Sys2Proof.Machine.execDcxOvercurrent ma held s
  | .dcxWaitEnd => Sys2Proof.Machine.execDcxWaitEnd s
  | .offTimeComparator => Sys2Proof.Machine.execOffTimeComparator s
  | .syncEdge => Sys2Proof.Machine.execSyncEdge s
  | .syncLost => Sys2Proof.Machine.execSyncLost s
  | .lvCheckDone nodes => Sys2Proof.Machine.execLvCheckDone nodes s
  | .lvPowerGood => Sys2Proof.Machine.execLvPowerGood s
  | .lvSoftstartFail => Sys2Proof.Machine.execLvSoftstartFail s
  | .lvRetryWaitEnd => Sys2Proof.Machine.execLvRetryWaitEnd s
  | .lvFeedLost held => Sys2Proof.Machine.execLvFeedLost held s
  | .lvOvervoltage mv held => Sys2Proof.Machine.execLvOvervoltage mv held s
  | .lvSupervisorFire => Sys2Proof.Machine.execLvSupervisorFire s
  | .hiccupCountReset => Sys2Proof.Machine.execHiccupCountReset s
  | .lvStop => Sys2Proof.Machine.execLvStop s
  | .lvFaultClear => Sys2Proof.Machine.execLvFaultClear s
  | .shipModeArm core => Sys2Proof.Machine.execShipModeArm core s
  | .shipModeBswOpen => Sys2Proof.Machine.execShipModeBswOpen s
  | .btnPress => Sys2Proof.Machine.execBtnPress s
  | .btnRelease => Sys2Proof.Machine.execBtnRelease s
  | .longPress => Sys2Proof.Machine.execLongPress s
  | .longPressBswOpen => Sys2Proof.Machine.execLongPressBswOpen s
  | .longPressBswClose => Sys2Proof.Machine.execLongPressBswClose s
  | .shiftStart => Sys2Proof.Machine.execShiftStart s
  | .shiftTestPulseEnd => Sys2Proof.Machine.execShiftTestPulseEnd s
  | .shiftRestEnd => Sys2Proof.Machine.execShiftRestEnd s
  | .shiftDecayFail => Sys2Proof.Machine.execShiftDecayFail s
  | .shiftSectorDecision => Sys2Proof.Machine.execShiftSectorDecision s
  | .backEmfCrossing m => Sys2Proof.Machine.execBackEmfCrossing m s
  | .commutation m => Sys2Proof.Machine.execCommutation m s
  | .forcedCommutation m => Sys2Proof.Machine.execForcedCommutation m s
  | .shiftInBand => Sys2Proof.Machine.execShiftInBand s
  | .shiftStall moved => Sys2Proof.Machine.execShiftStall moved s
  | .shiftSensorFault => Sys2Proof.Machine.execShiftSensorFault s
  | .shiftRetryWaitEnd => Sys2Proof.Machine.execShiftRetryWaitEnd s
  | .shiftFaultClear n => Sys2Proof.Machine.execShiftFaultClear n s
  | .parkDriveStart => Sys2Proof.Machine.execParkDriveStart s
  | .parkPositionReached => Sys2Proof.Machine.execParkPositionReached s
  | .parkTimeout => Sys2Proof.Machine.execParkTimeout s
  | .parkBrakeEnd => Sys2Proof.Machine.execParkBrakeEnd s
  | .parkDiscrepancy => Sys2Proof.Machine.execParkDiscrepancy s
  | .clutchPullEnd => Sys2Proof.Machine.execClutchPullEnd s
  | .clutchOpenDetect ms => Sys2Proof.Machine.execClutchOpenDetect ms s
  | .pumpEvaluation => Sys2Proof.Machine.execPumpEvaluation s
  | .pumpAlignEnd => Sys2Proof.Machine.execPumpAlignEnd s
  | .pumpRampEnd => Sys2Proof.Machine.execPumpRampEnd s
  | .pumpRetryWaitEnd => Sys2Proof.Machine.execPumpRetryWaitEnd s
  | .pumpSpeedFault ms => Sys2Proof.Machine.execPumpSpeedFault ms s
  | .pumpFaultClear n => Sys2Proof.Machine.execPumpFaultClear n s
  | .troikaMismatch t odd kind => Sys2Proof.Machine.execTroikaMismatch t odd kind s
  | .noMajorityMismatch t kind odd => Sys2Proof.Machine.execNoMajorityMismatch t kind odd s
  | .rejoinRequest core v => Sys2Proof.Machine.execRejoinRequest core v s
  | .forcedBarrier t => Sys2Proof.Machine.execForcedBarrier t s
  | .rejoinDone t stall => Sys2Proof.Machine.execRejoinDone t stall s
  | .reharnessFence core req => Sys2Proof.Machine.execReharnessFence core req s
  | .reharnessDone t stall => Sys2Proof.Machine.execReharnessDone t stall s
  | .wfi core => Sys2Proof.Machine.execWfi core s
  | .teamARelease core v => Sys2Proof.Machine.execTeamARelease core v s
  | .machineTimerInterrupt core => Sys2Proof.Machine.execMachineTimerInterrupt core s
  | .irqClaim core => Sys2Proof.Machine.execIrqClaim core s
  | .irqComplete core v => Sys2Proof.Machine.execIrqComplete core v s
  | .softwareInterrupt core clear v => Sys2Proof.Machine.execSoftwareInterrupt core clear v s
  | .watchdogService core n v => Sys2Proof.Machine.execWatchdogService core n v s
  | .watchdogWarning t n => Sys2Proof.Machine.execWatchdogWarning t n s
  | .watchdogExpiry t n => Sys2Proof.Machine.execWatchdogExpiry t n s
  | .safetyLock core v => Sys2Proof.Machine.execSafetyLock core v s
  | .clockSupervisorTrip => Sys2Proof.Machine.execClockSupervisorTrip s
  | .martingaleTick => Sys2Proof.Machine.execMartingaleTick s
  | .speedInvalid d => Sys2Proof.Machine.execSpeedInvalid d s
  | .speedValid d => Sys2Proof.Machine.execSpeedValid d s
  | .speedCrosscheckFault d => Sys2Proof.Machine.execSpeedCrosscheckFault d s
  | .ss1RampEnd d => Sys2Proof.Machine.execSs1RampEnd d s
  | .faultReport cls scope rx => Sys2Proof.Machine.execFaultReport cls scope rx s
  | .martingaleFatalReset => Sys2Proof.Machine.execMartingaleFatalReset s
  | .mgReps core v => Sys2Proof.Machine.execMgReps core v s
  | .mgRepa core v => Sys2Proof.Machine.execMgRepa core v s
  | .mgGtrip core hi v => Sys2Proof.Machine.execMgGtrip core hi v s
  | .mgClr core v => Sys2Proof.Machine.execMgClr core v s
  | .mgSelWrite core v => Sys2Proof.Machine.execMgSelWrite core v s
  | .slpReferenceSet core v => Sys2Proof.Machine.execSlpReferenceSet core v s
  | .moduleDischargeRequest => Sys2Proof.Machine.execModuleDischargeRequest s
  | .testPulseStart n => Sys2Proof.Machine.execTestPulseStart n s
  | .testPulseEnd n => Sys2Proof.Machine.execTestPulseEnd n s
  | .safetyInputSample a b => Sys2Proof.Machine.execSafetyInputSample a b s
  | .contactFilterExpiry idx isB => Sys2Proof.Machine.execContactFilterExpiry idx isB s
  | .inputDiscrepancyTimeout idx => Sys2Proof.Machine.execInputDiscrepancyTimeout idx s
  | .inputFaultRecovery idx => Sys2Proof.Machine.execInputFaultRecovery idx s
  | .safetyOutputTest n => Sys2Proof.Machine.execSafetyOutputTest n s
  | .safetyOutputTestEnd n stayedHigh low => Sys2Proof.Machine.execSafetyOutputTestEnd n stayedHigh low s
  | .safetyOutputFaultClear core v => Sys2Proof.Machine.execSafetyOutputFaultClear core v s
  | .selfTestStart core v => Sys2Proof.Machine.execSelfTestStart core v s
  | .selfTestDone passed => Sys2Proof.Machine.execSelfTestDone passed s
  | .zoneEvaluation z => Sys2Proof.Machine.execZoneEvaluation z s
  | .eventRecordCopy => Sys2Proof.Machine.execEventRecordCopy s
  | .thermalReenableRequest core v => Sys2Proof.Machine.execThermalReenableRequest core v s
  | .busEnable core p v => Sys2Proof.Machine.execBusEnable core p v s
  | .busIntegrationDone p => Sys2Proof.Machine.execBusIntegrationDone p s
  | .frameReceived p fmt ide id data sdt vcid af => Sys2Proof.Machine.execFrameReceived p fmt ide id data sdt vcid af s
  | .rxObjectConsume core p k => Sys2Proof.Machine.execRxObjectConsume core p k s
  | .transmitObjectDue p j => Sys2Proof.Machine.execTransmitObjectDue p j s
  | .transmitSend core p j => Sys2Proof.Machine.execTransmitSend core p j s
  | .frameTransmitted p obj start => Sys2Proof.Machine.execFrameTransmitted p obj start s
  | .frameTxFailure p obj start err => Sys2Proof.Machine.execFrameTxFailure p obj start err s
  | .frameAbandon p obj running => Sys2Proof.Machine.execFrameAbandon p obj running s
  | .busRecoveryRequest core p => Sys2Proof.Machine.execBusRecoveryRequest core p s
  | .busOffRecovery p => Sys2Proof.Machine.execBusOffRecovery p s
  | .busSupervisorTimeout p idx => Sys2Proof.Machine.execBusSupervisorTimeout p idx s
  | .busSleep core p inProgress => Sys2Proof.Machine.execBusSleep core p inProgress s
  | .busWake core p cycles write => Sys2Proof.Machine.execBusWake core p cycles write s
  | .bus0WakeFrame kind cycles ide id dlc data => Sys2Proof.Machine.execBus0WakeFrame kind cycles ide id dlc data s
  | .ping p n seq conf xl params mac => Sys2Proof.Machine.execPing p n seq conf xl params mac s
  | .setMode p n seq conf xl params mac => Sys2Proof.Machine.execSetMode p n seq conf xl params mac s
  | .capRead p n seq conf xl params mac => Sys2Proof.Machine.execCapRead p n seq conf xl params mac s
  | .swReset p n seq conf xl params mac ans => Sys2Proof.Machine.execSwReset p n seq conf xl params mac ans s
  | .sigRead p n seq conf xl params mac => Sys2Proof.Machine.execSigRead p n seq conf xl params mac s
  | .sigWrite p n seq conf xl params mac => Sys2Proof.Machine.execSigWrite p n seq conf xl params mac s
  | .sigSubscribe p n seq conf xl params mac => Sys2Proof.Machine.execSigSubscribe p n seq conf xl params mac s
  | .sigUnsubscribe p n seq conf xl params mac => Sys2Proof.Machine.execSigUnsubscribe p n seq conf xl params mac s
  | .setTorque p n seq conf xl params mac => Sys2Proof.Machine.execSetTorque p n seq conf xl params mac s
  | .setSpeed p n seq conf xl params mac => Sys2Proof.Machine.execSetSpeed p n seq conf xl params mac s
  | .setCtrlMode p n seq conf xl params mac => Sys2Proof.Machine.execSetCtrlMode p n seq conf xl params mac s
  | .setDirection p n seq conf xl params mac => Sys2Proof.Machine.execSetDirection p n seq conf xl params mac s
  | .setTorqueLimits p n seq conf xl params mac => Sys2Proof.Machine.execSetTorqueLimits p n seq conf xl params mac s
  | .setChargeLimits p n seq conf xl params mac ans => Sys2Proof.Machine.execSetChargeLimits p n seq conf xl params mac ans s
  | .setInputLimit p n seq conf xl params mac ans => Sys2Proof.Machine.execSetInputLimit p n seq conf xl params mac ans s
  | .setSupply p n seq conf xl params mac ans => Sys2Proof.Machine.execSetSupply p n seq conf xl params mac ans s
  | .clearLockout p n seq conf xl params mac ans => Sys2Proof.Machine.execClearLockout p n seq conf xl params mac ans s
  | .setNetVoltage p n seq conf xl params mac => Sys2Proof.Machine.execSetNetVoltage p n seq conf xl params mac s
  | .setLvRun p n seq conf xl params mac => Sys2Proof.Machine.execSetLvRun p n seq conf xl params mac s
  | .lvClear p n seq conf xl params mac => Sys2Proof.Machine.execLvClear p n seq conf xl params mac s
  | .shiftTo p n seq conf xl params mac ans => Sys2Proof.Machine.execShiftTo p n seq conf xl params mac ans s
  | .parkReq p n seq conf xl params mac ans => Sys2Proof.Machine.execParkReq p n seq conf xl params mac ans s
  | .clutchReq p n seq conf xl params mac ans => Sys2Proof.Machine.execClutchReq p n seq conf xl params mac ans s
  | .pumpDemand p n seq conf xl params mac ans => Sys2Proof.Machine.execPumpDemand p n seq conf xl params mac ans s
  | .safetyCfg p n seq conf xl params mac ans cfg => Sys2Proof.Machine.execSafetyCfg p n seq conf xl params mac ans cfg s
  | .safetyClear p n seq conf xl params mac ans => Sys2Proof.Machine.execSafetyClear p n seq conf xl params mac ans s
  | .nvmRead p n seq conf xl params mac ans => Sys2Proof.Machine.execNvmRead p n seq conf xl params mac ans s
  | .nvmWrite p n seq conf xl params mac ans => Sys2Proof.Machine.execNvmWrite p n seq conf xl params mac ans s
  | .fwBlock p n seq conf xl params mac ans => Sys2Proof.Machine.execFwBlock p n seq conf xl params mac ans s
  | .fwActivate p n seq conf xl params mac ans offs => Sys2Proof.Machine.execFwActivate p n seq conf xl params mac ans offs s
  | .sessionOpen p n seq conf xl params mac => Sys2Proof.Machine.execSessionOpen p n seq conf xl params mac s
  | .sessionProof p n seq conf xl params mac => Sys2Proof.Machine.execSessionProof p n seq conf xl params mac s
  | .sessionClose p n seq conf xl params mac => Sys2Proof.Machine.execSessionClose p n seq conf xl params mac s
  | .attest p n seq conf xl params mac ans => Sys2Proof.Machine.execAttest p n seq conf xl params mac ans s
  | .keyWrite p n seq conf xl params mac ans => Sys2Proof.Machine.execKeyWrite p n seq conf xl params mac ans s
  | .counterRead p n seq conf xl params mac ans => Sys2Proof.Machine.execCounterRead p n seq conf xl params mac ans s
  | .probeStart p n seq conf xl params mac ans => Sys2Proof.Machine.execProbeStart p n seq conf xl params mac ans s
  | .traceCfg p n seq conf xl params mac ans => Sys2Proof.Machine.execTraceCfg p n seq conf xl params mac ans s
  | .traceRead p n seq conf xl params mac ans => Sys2Proof.Machine.execTraceRead p n seq conf xl params mac ans s
  | .bridleCommit => Sys2Proof.Machine.execBridleCommit s
  | .subscriptionNotify idx => Sys2Proof.Machine.execSubscriptionNotify idx s
  | .sessionIdleTimeout n => Sys2Proof.Machine.execSessionIdleTimeout n s
  | .sessionOpenTimeout n => Sys2Proof.Machine.execSessionOpenTimeout n s
  | .authLockEnd l => Sys2Proof.Machine.execAuthLockEnd l s
  | .brdFwqRead core safety => Sys2Proof.Machine.execBrdFwqRead core safety s
  | .firmwarePendingWrite core v => Sys2Proof.Machine.execFirmwarePendingWrite core v s
  | .firmwareAnswer core v => Sys2Proof.Machine.execFirmwareAnswer core v s
  | .firmwareAnswerTimeout idx => Sys2Proof.Machine.execFirmwareAnswerTimeout idx s
  | .firmwareWorkDone core v => Sys2Proof.Machine.execFirmwareWorkDone core v s
  | .bridleDisable core => Sys2Proof.Machine.execBridleDisable core s
  | .bootConfirm core => Sys2Proof.Machine.execBootConfirm core s
  | .imageVerify core v => Sys2Proof.Machine.execImageVerify core v s
  | .imageVerifyDone => Sys2Proof.Machine.execImageVerifyDone s
  | .measurementExtend core n => Sys2Proof.Machine.execMeasurementExtend core n s
  | .debugChallengeRead => Sys2Proof.Machine.execDebugChallengeRead s
  | .debugUnlock => Sys2Proof.Machine.execDebugUnlock s
  | .debugUnlockDone => Sys2Proof.Machine.execDebugUnlockDone s
  | .debugChallengeExpiry => Sys2Proof.Machine.execDebugChallengeExpiry s
  | .debugReset => Sys2Proof.Machine.execDebugReset s
  | .boscTrimMeasure cnt => Sys2Proof.Machine.execBoscTrimMeasure cnt s
  | .referenceLoss unlocked => Sys2Proof.Machine.execReferenceLoss unlocked s
  | .clockRampStep => Sys2Proof.Machine.execClockRampStep s
  | .pllLock => Sys2Proof.Machine.execPllLock s
  | .relockTimeout => Sys2Proof.Machine.execRelockTimeout s
  | .referenceOk => Sys2Proof.Machine.execReferenceOk s
  | .referenceReturn core v => Sys2Proof.Machine.execReferenceReturn core v s
  | .clockDividerWrite core second v => Sys2Proof.Machine.execClockDividerWrite core second v s
  | .dividerRampStep idx => Sys2Proof.Machine.execDividerRampStep idx s
  | .clockGateWrite core k v => Sys2Proof.Machine.execClockGateWrite core k v s
  | .powerRequest core v => Sys2Proof.Machine.execPowerRequest core v s
  | .domainTransitionDone d => Sys2Proof.Machine.execDomainTransitionDone d s
  | .domainReinitDone d => Sys2Proof.Machine.execDomainReinitDone d s
  | .wakePinRise => Sys2Proof.Machine.execWakePinRise s
  | .plugDetection => Sys2Proof.Machine.execPlugDetection s
  | .rtcAlarm => Sys2Proof.Machine.execRtcAlarm s
  | .vsupQualified => Sys2Proof.Machine.execVsupQualified s
  | .startupDomainsUp => Sys2Proof.Machine.execStartupDomainsUp s
  | .strapEnd sync wake tp0 => Sys2Proof.Machine.execStrapEnd sync wake tp0 s
  | .stage1Entry us descs => Sys2Proof.Machine.execStage1Entry us descs s
  | .bootFailure kind => Sys2Proof.Machine.execBootFailure kind s
  | .softwareReset core v => Sys2Proof.Machine.execSoftwareReset core v s
  | .warmReset => Sys2Proof.Machine.execWarmReset s
  | .powerFailWarning => Sys2Proof.Machine.execPowerFailWarning s
  | .brownOut low => Sys2Proof.Machine.execBrownOut low s
  | .vbatkApplied => Sys2Proof.Machine.execVbatkApplied s
  | .btnPressWake => Sys2Proof.Machine.execBtnPressWake s
  | .protocolException p kind => Sys2Proof.Machine.execProtocolException p kind s
  | .receiveError p big => Sys2Proof.Machine.execReceiveError p big s
  | .valleyLimitRelease k => Sys2Proof.Machine.execValleyLimitRelease k s
  | .phaseCurrentZero k => Sys2Proof.Machine.execPhaseCurrentZero k s
  | .nvmProgramDone => Sys2Proof.Machine.execNvmProgramDone s
  | .doubleBitL1Error core => Sys2Proof.Machine.execDoubleBitL1Error core s

end Sys2Proof.Machine
end

