-- ==== Sys2Proof/WellFormed.lean ====
section
/-! DEFINITION. Well-formed commands: every operand that numbers a unit, a core, a port, a slot or a register index names one
that the module has, by the counts the chapters give (16 converter units, 12 engines of 4 laws, 40 generators, 34 HV and 29
LV channels, 4 ports, 8 power domains, 6 cores), and every operand of a Canter instruction fits its field (R126). A command
that is not well-formed does not exist on the module. -/

namespace Sys2Proof

/-- The command names units that exist. -/
def Instr.wf : Instr → Bool
  | .registerWrite core _ _ => core < 6
  | .rcCounterRead core a => core < 6 && [1, 2, 4, 8].contains a.2
  | .dtbLoRead core => core < 6
  | .systemBoundary1ms => true
  | .modeEntryRecheck => true
  | .modeLeavingDone => true
  | .modeEnteringDone => true
  | .paddockCoreWrite core a _ _ => core < 6 && 0x20000000 ≤ a && a < 0x20800000
  | .descriptorWrite core a _ _ => core < 6 && 0x20800000 ≤ a && a < 0x21000000
  | .paddockBankAccess b => b < 8
  | .generatorPeriodStart g => g < 40
  | .generatorCentre g => g < 40
  | .compareAMatch g => g < 40
  | .referenceEdge g => g < 40
  | .deadTimeEnd g => g < 40
  | .stretchTurnOff g => g < 40
  | .pwmEnable core g _ => core < 6 && g < 40
  | .pwmDisable core g => core < 6 && g < 40
  | .pwmGstart core _ => core < 6
  | .pwmCmpWrite core g b _ => core < 6 && g < 40 && b < 2
  | .pwmPerWrite core g _ => core < 6 && g < 40
  | .pwmTripClear core g => core < 6 && g < 40
  | .cotStartEvent g => g < 40
  | .cotMinOffEnd g => g < 40
  | .cotForcedStart g => g < 40
  | .yarrowMeasurementDone n => n < 256
  | .tripInPinChange i _ => i < 4
  | .tripInFilterExpiry i => i < 4
  | .lawLateMiss e l => e < 12 && l < 4
  | .lawOutputWrite e l => e < 12 && l < 4
  | .lawFallbackWrite e l => e < 12 && l < 4
  | .lawEnable core e l _ => core < 6 && e < 12 && l < 4
  | .staticCheckDone e l => e < 12 && l < 4
  | .lawDisable core e l => core < 6 && e < 12 && l < 4
  | .ceDisable core e => core < 6 && e < 12
  | .ceEccDoubleError e => e.1 < 12
  | .coefMemWrite core e i _ => core < 6 && e < 12 && i < 4096
  | .coefMemWritePerformed e => e < 12
  | .lookaheadStart e l => e < 12 && l < 4
  | .canNop e l => e < 12 && l < 4
  | .canEnd e l => e < 12 && l < 4
  | .canSkip e l cond r n => e < 12 && l < 4 && cond < 16 && r < 64 && n < 256
  | .canCmp e l x y => e < 12 && l < 4 && x < 64 && y < 64
  | .canTst e l x => e < 12 && l < 4 && x < 64
  | .canLdi e l d imm => e < 12 && l < 4 && d < 64 && imm < 65536
  | .canMov e l d x => e < 12 && l < 4 && d < 64 && x < 64
  | .canAdd e l d x y => e < 12 && l < 4 && d < 64 && x < 64 && y < 64
  | .canSub e l d x y => e < 12 && l < 4 && d < 64 && x < 64 && y < 64
  | .canNeg e l d x => e < 12 && l < 4 && d < 64 && x < 64
  | .canAbs e l d x => e < 12 && l < 4 && d < 64 && x < 64
  | .canMin e l d x y => e < 12 && l < 4 && d < 64 && x < 64 && y < 64
  | .canMax e l d x y => e < 12 && l < 4 && d < 64 && x < 64 && y < 64
  | .canLim e l d x lo hi => e < 12 && l < 4 && d < 64 && x < 64 && lo < 64 && hi < 64
  | .canShf e l d x k => e < 12 && l < 4 && d < 64 && x < 64 && k < 64
  | .canAddw e l d x y => e < 12 && l < 4 && d < 64 && x < 64 && y < 64
  | .canMul e l a x y => e < 12 && l < 4 && a < 4 && x < 64 && y < 64
  | .canMac e l a x y => e < 12 && l < 4 && a < 4 && x < 64 && y < 64
  | .canMsu e l a x y => e < 12 && l < 4 && a < 4 && x < 64 && y < 64
  | .canMulc e l a x k => e < 12 && l < 4 && a < 4 && x < 64 && k < 4096
  | .canMacc e l a x k => e < 12 && l < 4 && a < 4 && x < 64 && k < 4096
  | .canDmac e l a x y => e < 12 && l < 4 && a < 4 && x < 64 && y < 64
  | .canDot e l a x y => e < 12 && l < 4 && a < 4 && x < 64 && y < 64
  | .canLda e l a x => e < 12 && l < 4 && a < 4 && x < 64
  | .canAdda e l a b => e < 12 && l < 4 && a < 4 && b < 4
  | .canSuba e l a b => e < 12 && l < 4 && a < 4 && b < 4
  | .canSha e l a k => e < 12 && l < 4 && a < 4 && k < 64
  | .canSt e l d a => e < 12 && l < 4 && d < 64 && a < 4
  | .canSincos e l d x => e < 12 && l < 4 && d < 64 && x < 64
  | .canPark e l d x y th => e < 12 && l < 4 && d < 64 && x < 64 && y < 64 && th < 64
  | .canIpark e l d x y th => e < 12 && l < 4 && d < 64 && x < 64 && y < 64 && th < 64
  | .canClarke e l d x y => e < 12 && l < 4 && d < 64 && x < 64 && y < 64
  | .canSvm e l d x y => e < 12 && l < 4 && d < 64 && x < 64 && y < 64
  | .canDiv e l d x y => e < 12 && l < 4 && d < 64 && x < 64 && y < 64
  | .canSqrt e l d x => e < 12 && l < 4 && d < 64 && x < 64
  | .canTlu e l d x t => e < 12 && l < 4 && d < 64 && x < 64 && t < 16
  | .canTlt e l d x y t => e < 12 && l < 4 && d < 64 && x < 64 && y < 64 && t < 16
  | .canLdk e l d k => e < 12 && l < 4 && d < 64 && k < 4096
  | .canLds e l d sg => e < 12 && l < 4 && d < 64 && sg < 1048576
  | .canSts e l d sg => e < 12 && l < 4 && d < 64 && sg < 1048576
  | .canLdc e l d k => e < 12 && l < 4 && d < 64 && k < 8
  | .canLdu e l d k => e < 12 && l < 4 && d < 64 && k < 8
  | .canUrg e l u k => e < 12 && l < 4 && u < 16 && k < 16
  | .canInt e l n x g k => e < 12 && l < 4 && n < 64 && x < 64 && g < 64 && k < 64
  | .canOutd e l k x => e < 12 && l < 4 && k < 8 && x < 64
  | .canOutc e l k a => e < 12 && l < 4 && k < 8 && a < 4
  | .canPrd e l d k => e < 12 && l < 4 && d < 64 && k < 8
  | .canBnd e l b k lo hi => e < 12 && l < 4 && b < 2 && k < 8 && lo < 64 && hi < 64
  | .canSel e l => e < 12 && l < 4
  | .canCorr e l d x g k => e < 12 && l < 4 && d < 64 && x < 64 && g < 64 && k < 8
  | .adcTriggerDelayEnd u t => u < 16 && t < 4
  | .adcSlotStart u => u < 16
  | .adcSamplingEnd u => u < 16
  | .adcConversionEnd u code _ => u < 16 && code < 16384
  | .adcUrgWrite core u entry => core < 6 && u < 16 && entry < 16
  | .urgentRequestEffect u => u < 16
  | .adcSwtrgWrite core u slots => core < 6 && u < 16 && slots < 16
  | .adcCalStart core u => core < 6 && u < 16
  | .adcCalDone u _ _ _ _ => u < 16
  | .adcDisable core u => core < 6 && u < 16
  | .triggerTimerFire n => n < 8
  | .gateCommandArrival ch => ch < 34 || (64 ≤ ch && ch ≤ 92)
  | .strongPhaseEnd n => n < 34
  | .plateauExit n _ _ => n < 34
  | .slopeTimeout n => n < 34
  | .gateSenseMidpoint n => n < 34
  | .qualificationTimeout n => n < 34
  | .linkLoss n => n < 34
  | .biasUndervoltage n => n < 34
  | .biasRecovery n => n < 34
  | .lvOvercurrent m => m < 29
  | .lvBootstrapUv m => m < 29
  | .lvBootstrapRecovery m => m < 29
  | .senseCellCrossing n => n.1 < 34
  | .senseCellDetection n => n < 34
  | .softTurnOffEnd n => n < 34
  | .probeGateLoopDone _ => true
  | .probeInjectionEnd _ _ _ _ => true
  | .probeBridgeDone => true
  | .gdcProbeStart core _ => core < 6
  | .drvEnPinChange _ => true
  | .drvEnFilteredLow => true
  | .drvEnFilteredRise => true
  | .startSequenceProbe => true
  | .enReqPulse core => core < 6
  | .enReqPulseEnd => true
  | .dclMeasSample _ _ => true
  | .chopperOn => true
  | .chopperOff => true
  | .hardOvervoltage => true
  | .hardOvervoltageRelease => true
  | .forcedDischargeRequest core => core < 6
  | .forcedDischargeDone => true
  | .forcedDischargeTimeout => true
  | .dischargeHoldoffEnd => true
  | .path2TurnOn n => n < 12
  | .driveStart d => d < 2
  | .driveStartComplete d _ => d < 2
  | .driveStartTimeout d => d < 2
  | .driveDwellEntry d => d < 2
  | .driveDwellEnd d => d < 2
  | .driveStop d => d < 2
  | .driveStopped d => d < 2
  | .driveStopTimeout d => d < 2
  | .driveSafeEntry d => d < 2
  | .driveOverspeed d _ => d < 2
  | .batterySideLost => true
  | .encoderEdge d _ _ => d < 2
  | .encoderIndex d => d < 2
  | .resolverExcitationFault d _ => d < 2
  | .pilotPeriodCapture _ _ _ => true
  | .pilotStateDecode _ _ _ => true
  | .inletCableDetected _ => true
  | .inletSourceQualified _ => true
  | .inletReadyLost _ => true
  | .inletEnergize => true
  | .inletPhasesValid _ _ _ _ _ _ _ => true
  | .inletEnergizeTimeout _ => true
  | .inletSourceLoss _ => true
  | .handoverEnd _ => true
  | .handoverTimeout => true
  | .lockoutEnd => true
  | .inletCableRemoved _ => true
  | .inletModeLeft => true
  | .srcFaultRecover => true
  | .weakSource _ _ _ _ => true
  | .chargeRequest m => m < 2
  | .chargeQualified m _ => m < 2
  | .chargeQualifyTimeout m _ => m < 2
  | .chargeCvReached m _ => m < 2
  | .chargeTerminationStart m _ => m < 2
  | .chargeTermination m => m < 2
  | .chargeTopoffEnd m => m < 2
  | .chargeRecharge m _ _ => m < 2
  | .chargeSourceLost m => m < 2
  | .chargeSourceHold => true
  | .chargeSourceHoldEnd => true
  | .presenceTestStart _ => true
  | .presenceTestEnd _ _ => true
  | .chargeStop => true
  | .chargeFaultClear m => m < 2
  | .supplyEnergize => true
  | .supplyFault _ => true
  | .supplyCableRemoved _ => true
  | .stationStateReaction _ _ _ _ => true
  | .stationProbeSeen _ => true
  | .solarStart _ => true
  | .solarStop _ => true
  | .solarOpenCircuitMeasure => true
  | .mpptStep => true
  | .solarScanStart => true
  | .solarScanStep => true
  | .reverseTransferStart _ => true
  | .reverseTransferStop _ => true
  | .solarCurtail => true
  | .lvSequencerStart => true
  | .dcxIbGood => true
  | .dcxStartTimeout => true
  | .dcxOvercurrent _ _ => true
  | .dcxWaitEnd => true
  | .offTimeComparator => true
  | .syncEdge => true
  | .syncLost => true
  | .lvCheckDone _ => true
  | .lvPowerGood => true
  | .lvSoftstartFail => true
  | .lvRetryWaitEnd => true
  | .lvFeedLost _ => true
  | .lvOvervoltage _ _ => true
  | .lvSupervisorFire => true
  | .hiccupCountReset => true
  | .lvStop => true
  | .lvFaultClear => true
  | .shipModeArm core => core < 6
  | .shipModeBswOpen => true
  | .btnPress => true
  | .btnRelease => true
  | .longPress => true
  | .longPressBswOpen => true
  | .longPressBswClose => true
  | .shiftStart => true
  | .shiftTestPulseEnd => true
  | .shiftRestEnd => true
  | .shiftDecayFail => true
  | .shiftSectorDecision => true
  | .backEmfCrossing m => m < 2
  | .commutation m => m < 2
  | .forcedCommutation m => m < 2
  | .shiftInBand => true
  | .shiftStall _ => true
  | .shiftSensorFault => true
  | .shiftRetryWaitEnd => true
  | .shiftFaultClear _ => true
  | .parkDriveStart => true
  | .parkPositionReached => true
  | .parkTimeout => true
  | .parkBrakeEnd => true
  | .parkDiscrepancy => true
  | .clutchPullEnd => true
  | .clutchOpenDetect _ => true
  | .pumpEvaluation => true
  | .pumpAlignEnd => true
  | .pumpRampEnd => true
  | .pumpRetryWaitEnd => true
  | .pumpSpeedFault _ => true
  | .pumpFaultClear _ => true
  | .troikaMismatch t odd _ => t < 2 && odd < 3
  | .noMajorityMismatch t _ odd => t < 2 && odd < 3
  | .rejoinRequest core _ => core < 6
  | .forcedBarrier t => t < 2
  | .rejoinDone t _ => t < 2
  | .reharnessFence core _ => core < 6
  | .reharnessDone t _ => t < 2
  | .wfi core => core < 6
  | .teamARelease core _ => core < 6
  | .machineTimerInterrupt core => core < 6
  | .irqClaim core => core < 6
  | .irqComplete core _ => core < 6
  | .softwareInterrupt core _ _ => core < 6
  | .watchdogService core n _ => core < 6 && n < 3
  | .watchdogWarning t n => t < 2 && n < 3
  | .watchdogExpiry t n => t < 2 && n < 3
  | .safetyLock core _ => core < 6
  | .clockSupervisorTrip => true
  | .martingaleTick => true
  | .speedInvalid d => d < 2
  | .speedValid d => d < 2
  | .speedCrosscheckFault d => d < 2
  | .ss1RampEnd d => d < 2
  | .faultReport cls _ _ => cls < 16
  | .martingaleFatalReset => true
  | .mgReps core _ => core < 6
  | .mgRepa core _ => core < 6
  | .mgGtrip core _ _ => core < 6
  | .mgClr core _ => core < 6
  | .mgSelWrite core _ => core < 6
  | .slpReferenceSet core _ => core < 6
  | .moduleDischargeRequest => true
  | .testPulseStart n => n < 4
  | .testPulseEnd n => n < 4
  | .safetyInputSample _ _ => true
  | .contactFilterExpiry i _ => i < 8
  | .inputDiscrepancyTimeout i => i < 8
  | .inputFaultRecovery i => i < 8
  | .safetyOutputTest n => n < 4
  | .safetyOutputTestEnd n _ _ => n < 4
  | .safetyOutputFaultClear core _ => core < 6
  | .selfTestStart core _ => core < 6
  | .selfTestDone _ => true
  | .zoneEvaluation z => z < 8
  | .eventRecordCopy => true
  | .thermalReenableRequest core _ => core < 6
  | .busEnable core p _ => core < 6 && p < 4
  | .busIntegrationDone p => p < 4
  | .frameReceived p _ _ _ _ _ _ _ => p < 4
  | .rxObjectConsume core p k => core < 6 && p < 4 && k < 1024
  | .transmitObjectDue p j => p < 4 && j < 64
  | .transmitSend core p j => core < 6 && p < 4 && j < 64
  | .frameTransmitted p _ _ => p < 4
  | .frameTxFailure p _ _ err => p < 4 && err < 3
  | .frameAbandon p _ _ => p < 4
  | .busRecoveryRequest core p => core < 6 && p < 4
  | .busOffRecovery p => p < 4
  | .busSupervisorTimeout p i => p < 4 && i < 16
  | .busSleep core p _ => core < 6 && p < 4
  | .busWake core p _ _ => core < 6 && p < 4
  | .bus0WakeFrame kind _ _ _ _ _ => kind < 3
  | .ping p _ _ _ _ _ _ => p < 4
  | .setMode p _ _ _ _ _ _ => p < 4
  | .capRead p _ _ _ _ _ _ => p < 4
  | .swReset p _ _ _ _ _ _ _ => p < 4
  | .sigRead p _ _ _ _ _ _ => p < 4
  | .sigWrite p _ _ _ _ _ _ => p < 4
  | .sigSubscribe p _ _ _ _ _ _ => p < 4
  | .sigUnsubscribe p _ _ _ _ _ _ => p < 4
  | .setTorque p _ _ _ _ _ _ => p < 4
  | .setSpeed p _ _ _ _ _ _ => p < 4
  | .setCtrlMode p _ _ _ _ _ _ => p < 4
  | .setDirection p _ _ _ _ _ _ => p < 4
  | .setTorqueLimits p _ _ _ _ _ _ => p < 4
  | .setChargeLimits p _ _ _ _ _ _ _ => p < 4
  | .setInputLimit p _ _ _ _ _ _ _ => p < 4
  | .setSupply p _ _ _ _ _ _ _ => p < 4
  | .clearLockout p _ _ _ _ _ _ _ => p < 4
  | .setNetVoltage p _ _ _ _ _ _ => p < 4
  | .setLvRun p _ _ _ _ _ _ => p < 4
  | .lvClear p _ _ _ _ _ _ => p < 4
  | .shiftTo p _ _ _ _ _ _ _ => p < 4
  | .parkReq p _ _ _ _ _ _ _ => p < 4
  | .clutchReq p _ _ _ _ _ _ _ => p < 4
  | .pumpDemand p _ _ _ _ _ _ _ => p < 4
  | .safetyCfg p _ _ _ _ _ _ _ _ => p < 4
  | .safetyClear p _ _ _ _ _ _ _ => p < 4
  | .nvmRead p _ _ _ _ _ _ _ => p < 4
  | .nvmWrite p _ _ _ _ _ _ _ => p < 4
  | .fwBlock p _ _ _ _ _ _ _ => p < 4
  | .fwActivate p _ _ _ _ _ _ _ _ => p < 4
  | .sessionOpen p _ _ _ _ _ _ => p < 4
  | .sessionProof p _ _ _ _ _ _ => p < 4
  | .sessionClose p _ _ _ _ _ _ => p < 4
  | .attest p _ _ _ _ _ _ _ => p < 4
  | .keyWrite p _ _ _ _ _ _ _ => p < 4
  | .counterRead p _ _ _ _ _ _ _ => p < 4
  | .probeStart p _ _ _ _ _ _ _ => p < 4
  | .traceCfg p _ _ _ _ _ _ _ => p < 4
  | .traceRead p _ _ _ _ _ _ _ => p < 4
  | .bridleCommit => true
  | .subscriptionNotify _ => true
  | .sessionIdleTimeout n => 1 ≤ n && n ≤ 8
  | .sessionOpenTimeout n => 1 ≤ n && n ≤ 8
  | .authLockEnd l => 1 ≤ l && l ≤ 4
  | .brdFwqRead core _ => core < 6
  | .firmwarePendingWrite core _ => core < 6
  | .firmwareAnswer core _ => core < 6
  | .firmwareAnswerTimeout i => i < 32
  | .firmwareWorkDone core _ => core < 6
  | .bridleDisable core => core < 6
  | .bootConfirm core => core < 6
  | .imageVerify core _ => core < 6
  | .imageVerifyDone => true
  | .measurementExtend core n => core < 6 && n < 8
  | .debugChallengeRead => true
  | .debugUnlock => true
  | .debugUnlockDone => true
  | .debugChallengeExpiry => true
  | .debugReset => true
  | .boscTrimMeasure _ => true
  | .referenceLoss _ => true
  | .clockRampStep => true
  | .pllLock => true
  | .relockTimeout => true
  | .referenceOk => true
  | .referenceReturn core _ => core < 6
  | .clockDividerWrite core _ _ => core < 6
  | .dividerRampStep i => i < 6
  | .clockGateWrite core k _ => core < 6 && k < 12
  | .powerRequest core _ => core < 6
  | .domainTransitionDone d => d < 8
  | .domainReinitDone d => d < 8
  | .wakePinRise => true
  | .plugDetection => true
  | .rtcAlarm => true
  | .vsupQualified => true
  | .startupDomainsUp => true
  | .strapEnd _ _ _ => true
  | .stage1Entry _ _ => true
  | .bootFailure _ => true
  | .softwareReset core _ => core < 6
  | .warmReset => true
  | .powerFailWarning => true
  | .brownOut _ => true
  | .vbatkApplied => true
  | .btnPressWake => true
  | .protocolException p kind => p < 4 && kind < 3
  | .receiveError p _ => p < 4
  | .valleyLimitRelease k => k < 4
  | .phaseCurrentZero k => k < 4
  | .nvmProgramDone => true
  | .doubleBitL1Error core => core < 6

end Sys2Proof
end

