-- ==== Sys2Proof/Safety.lean ====
section
/-! DEFINITION. The terms claims are stated in: what a sound state is, and what it means that a command runs. -/

namespace Sys2Proof.Machine

/-- Canonical form of a byte memory whose unlisted bytes read as `d`: addresses strictly rising, no listed byte equal to
what an unlisted address reads as. -/
abbrev Memory.wf (d : Nat → Byte) (m : List Host.Cell) : Prop := sparseWf d m = true

/-- A sound state: every sparse map is in its canonical form, and every list of like units holds as many as the chapters
give the module. States outside it are reached by no run. -/
structure State.Inv (s : State) : Prop where
  regs : sparseWf resetWord s.regs = true
  sigs : sparseWf sigDefault s.sigs = true
  descs : sparseWf descDefault s.descs = true
  sram : Memory.wf sramByte s.sram
  nvm : Memory.wf nvmByte s.nvm
  codeNvm : Memory.wf nvmByte s.codeNvm
  /-- Six cores (spec/12). -/
  cores : s.cores.length = 6
  /-- Sixteen converter units (spec/03). -/
  au : s.au.length = 16
  /-- Eight joins and eight trigger timers (R106, R111). -/
  joins : s.joins.length = 8
  tt : s.tt.length = 8
  /-- Twelve engines of four laws (R112). -/
  ce : s.ce.length = 12 ∧ ∀ c ∈ s.ce, c.laws.length = 4
  /-- Forty generators (spec/06) and four trip inputs (R212). -/
  pg : s.pg.length = 40
  tripIn : s.tripIn.length = 4
  /-- Two interrupt routers (R389). -/
  irqPend : s.irqPend.length = 2
  /-- Gate channels G00-G33 and L00-L28 (R219). -/
  gate : s.gate.hv.length = 34 ∧ s.gate.lv.length = 29
  /-- Two drives and eight dual-contact inputs (spec/13). -/
  mg : s.mg.drives.length = 2 ∧ s.mg.inputs.length = 8
  /-- Four ports (spec/15). -/
  bus : s.bus.length = 4
  /-- 32 shadow slots and 8 sessions (spec/16). -/
  bridle : s.bridle.slots.length = 32 ∧ s.bridle.sess.length = 8
  drives : s.drives.length = 2
  charge : s.charge.length = 2
  motors : s.motors.length = 2
  /-- Two teams (spec/12). -/
  harn : s.harn.length = 2
  /-- Eight thermal zones (spec/14). -/
  thermal : s.thermal.zones.length = 8

/-- The command runs in `s`: it answers a next state, of which `P` holds. -/
def Runs (c : Instr) (s : State) (P : State → Prop) : Prop := ∃ t, exec c s = .next t ∧ P t

/-- The module writes the signal as a whole word: PD6 is ON, and its descriptor defines it with a type that is neither Q15 nor
BOOL (R60, R63). -/
abbrev State.Publishes (s : State) (id : Nat) : Prop := s.writable id = true ∧ dType (s.desc id) ≠ 0 ∧ dType (s.desc id) ≠ 5

/-! ## Canter instructions -/

/-- The section as it issues its next instruction: the engine's port (R77) and the bank of the part it is in (R163). -/
def State.inPart (s : State) (e l : Nat) (c : Section) : Section :=
  { c with
    sched := { c.sched with port := (s.ceAt e).port }
    sel := if c.look then s.partOf e l c.pc else c.sel }

/-- The instruction with opcode `op` and operand fields `fs` is the next of the section `c` that runs in slot `l` of engine `e`, and
issues in cycle `t` (R123, R124); the slot holds no production law; the section's register file and the accumulators have
their sizes. -/
structure Issues (s : State) (e l op : Nat) (fs : List (Field × Nat)) (c : Section) (t : Nat) : Prop where
  slot : e < 12 ∧ l < 4
  fits : ∀ f ∈ fs, f.2 < 2 ^ f.1.len
  running : (s.lawAt e l).sec.map (s.inPart e l) = some c ∧ (s.lawAt e l).prod = none
  word : s.rd (Reg.LAW_MEM e c.pc) = canWord op fs
  ready : issueCycle c.sched (s.useOf e l (canWord op fs)) = some t
  file : ((s.ceAt e).file l c.sel).d.length = 64 ∧ ((s.ceAt e).file l c.sel).tag.length = 64
  accs : (s.ceAt e).acc.length = 4

/-- The section has issued the instruction in cycle `t` and goes on with the next one. -/
def Issued (s : State) (e l : Nat) (c : Section) (t : Nat) (u : State) : Prop :=
  u.dtb = max s.dtb t ∧ (u.lawAt e l).sec.map (fun k => k.pc) = some (c.pc + 1)

/-- Register `d` of register file `sel` holds the 16-bit value `v` and the tag `tag`. -/
def Holds (u : State) (e l : Nat) (sel : BankSel) (d : Nat) (v : Int) (tag : Bool) : Prop :=
  ((u.ceAt e).file l sel).d.getD d 0 = BitVec.ofInt 16 v ∧ u.dTag e l sel d = tag

/-- Register `d` holds `z` saturated to 16 bits, and its tag says whether it saturated (R116). -/
def HoldsSat (u : State) (e l : Nat) (sel : BankSel) (d : Nat) (z : Int) : Prop := Holds u e l sel d (sat16 z) (sat16 z ≠ z)

/-- Accumulator `a` holds `z` saturated to 40 bits, and a saturation has set LAW_STAT.sat of the law (R114). -/
def Accumulates (u : State) (e l a : Nat) (z : Int) : Prop :=
  (u.ceAt e).acc.getD a 0 = BitVec.ofInt 40 (sat (-(2 ^ 39)) (2 ^ 39 - 1) z) ∧
  (z < -(2 ^ 39) ∨ 2 ^ 39 ≤ z → u.on (Reg.LAW_STAT e l) Fld.LAW_STAT_sat = true)

/-! ## Bridle requests -/

/-- What a host sends: the port, the session, the sequence, CONF, the format, the parameter bytes and the MAC. -/
structure Packet where
  p : Nat
  n : Nat
  seq : Nat
  conf : Bool
  xl : Bool
  params : List Byte
  mac : List Byte

/-- The bytes of the request with an opcode, up to its MAC. -/
def Packet.body (q : Packet) (opcode : Nat) : List Byte := requestBytes q.n q.seq opcode q.conf q.params []

/-- The request reaches the engine as a frame of the port. -/
structure Packet.Reaches (q : Packet) (opcode : Nat) (s : State) : Prop where
  port : q.p < 4 ∧ s.portLive q.p = true ∧ s.busMode q.p ≠ 3 ∧ s.on (Reg.BUS_BRQ q.p) Fld.BUS_BRQ_en = true
  format : s.on (Reg.BUS_CTRL q.p) (if q.xl then Fld.BUS_CTRL_xl else Fld.BUS_CTRL_fd) = true
  size : (requestBytes q.n q.seq opcode q.conf q.params q.mac).length ≤ if q.xl then 512 else 64
  fields : q.seq < 2 ^ 32 ∧ q.n ≤ 8 ∧ (q.n = 0 ∨ q.mac.length = 8)
  engine : s.bridleOn = true
  /-- The port's queue of replies has room (log 22). -/
  room : (s.busAt q.p).replies.length < 32

/-- The session of the request is OPEN on its port, or it is session 0 (check 1). -/
def Packet.InSession (q : Packet) (s : State) : Prop := q.n = 0 ∨ (s.sessState q.n = 2 ∧ s.sessPort q.n = q.p)

/-- The MAC is right (check 2). -/
def Packet.Authentic (q : Packet) (opcode : Nat) (s : State) : Prop :=
  q.n = 0 ∨ q.mac = (Crypto.cmac (s.sess q.n).kreq (q.body opcode)).take 8

/-- The sequence is new in its session (check 4). -/
def Packet.New (q : Packet) (s : State) : Prop := q.n = 0 ∨ (s.smax q.n < q.seq ∧ s.inPipeline q.n q.seq = false)

/-- The request passes checks 1 to 4 of R481, with shadow slot `i` the first free one. -/
structure Packet.Arrives (q : Packet) (opcode i : Nat) (s : State) : Prop where
  reaches : q.Reaches opcode s
  session : q.InSession s
  authentic : q.Authentic opcode s
  slot : s.slotFree = some i
  new : q.New s

/-- The first reply of the request joins the replies of its port (R464): sent at `now`, due by BRD_CTRL.rdl after the end of
the request (R466). -/
def Packet.Replied (q : Packet) (opcode status time : Nat) (result : List Byte) (now : Nat) (s t : State) : Prop :=
  (t.busAt q.p).replies = (s.busAt q.p).replies ++
    [{ data := (if s.replyXl q.p then id else padFd) (replyBytes (s.sess q.n).krep false q.n q.seq opcode status time result)
       xl := s.replyXl q.p, deadline := s.dtb + s.rdl, since := now }]

/-- The request executed at its end and answered ST_DONE. -/
def Packet.Done (q : Packet) (opcode : Nat) (result : List Byte) (s t : State) : Prop :=
  q.Replied opcode stDone s.dtb result s.dtb s t

/-- The request was refused with `status`. -/
def Packet.Refused (q : Packet) (opcode status : Nat) (s t : State) : Prop := q.Replied opcode status 0 [] s.dtb s t

/-- The request waits in slot `i` for its commit at `b` with the signal writes `ws` for `target`, and its first reply accepted it. -/
def Packet.Waits (q : Packet) (opcode i target b : Nat) (ws : List (Nat × Word)) (now : Nat) (s t : State) : Prop :=
  (t.slot i).map (fun x => (x.opcode, x.stage, x.target, x.commit, x.writes)) = some (opcode, .waiting, target, b, ws) ∧
  q.Replied opcode stAccepted b [] now s t

/-- In `u` the level of the request's session is at least `level`; its signal writes `ws` pass checks 6 to 9 and belong to `target`. -/
structure Packet.Passes (q : Packet) (level : Nat) (ws : List (Nat × Word)) (target : Nat) (stages : List Nat) (u : State) : Prop where
  session : q.n ≠ 0 ∧ level ≤ u.sessLevel q.n
  writes : u.writesStatus (u.sessLevel q.n) ws = stDone
  stage : ws ≠ [] ∧ ∀ w ∈ ws, dCstage (u.desc w.1) = target
  free : u.targetStatus target stages = stDone

/-- Admission finds the commit boundary `b` within the promise of class `cls` (R483). -/
def State.admits (u : State) (target lat tEnd cls b : Nat) : Prop := u.admitAt target u.dtb lat tEnd cls = (b, true)

/-- The state in which the firmware that took slot `i` runs its checks, `t` cycles after the request entered its queue. -/
def Packet.atFirmware (q : Packet) (opcode i t : Nat) (s : State) : State :=
  ((s.request q.p q.xl q.n q.seq opcode q.conf q.params q.mac).reach (s.dtb + t)).fwTake i

/-- The request arrives, enters the queue of its team, and the firmware answers `t` cycles later, in time (R489, R491). -/
structure Packet.Served (q : Packet) (opcode i t : Nat) (s : State) : Prop where
  arrives : q.Arrives opcode i s
  present : s.variant = .f ∨ opcode / 0x1000 ≠ 3
  team : s.teamLive (fwTeam opcode) = true
  held : fwTeam opcode = 1 → s.harnMode 1 ≠ hmHeld
  room : (if fwTeam opcode = 1 then s.bridle.fwqA else s.bridle.fwqS).length < 32
  time : t ≤ s.fwTmo

/-- Command `c` is the request of `q` with an opcode that the engine executes (R467). -/
def Packet.EngineCommand (q : Packet) (opcode : Nat) (c : Instr) : Prop :=
  (opcode, c) ∈ ([(0x0001, .ping q.p q.n q.seq q.conf q.xl q.params q.mac),
   (0x0010, .setMode q.p q.n q.seq q.conf q.xl q.params q.mac),
   (0x0020, .capRead q.p q.n q.seq q.conf q.xl q.params q.mac),
   (0x1010, .sigRead q.p q.n q.seq q.conf q.xl q.params q.mac),
   (0x1011, .sigWrite q.p q.n q.seq q.conf q.xl q.params q.mac),
   (0x1012, .sigSubscribe q.p q.n q.seq q.conf q.xl q.params q.mac),
   (0x1013, .sigUnsubscribe q.p q.n q.seq q.conf q.xl q.params q.mac),
   (0x2010, .setTorque q.p q.n q.seq q.conf q.xl q.params q.mac),
   (0x2011, .setSpeed q.p q.n q.seq q.conf q.xl q.params q.mac),
   (0x2012, .setCtrlMode q.p q.n q.seq q.conf q.xl q.params q.mac),
   (0x2013, .setDirection q.p q.n q.seq q.conf q.xl q.params q.mac),
   (0x2014, .setTorqueLimits q.p q.n q.seq q.conf q.xl q.params q.mac),
   (0x4010, .setNetVoltage q.p q.n q.seq q.conf q.xl q.params q.mac),
   (0x4011, .setLvRun q.p q.n q.seq q.conf q.xl q.params q.mac),
   (0x4012, .lvClear q.p q.n q.seq q.conf q.xl q.params q.mac),
   (0x8010, .sessionOpen q.p q.n q.seq q.conf q.xl q.params q.mac),
   (0x8011, .sessionProof q.p q.n q.seq q.conf q.xl q.params q.mac),
   (0x8012, .sessionClose q.p q.n q.seq q.conf q.xl q.params q.mac)] : List (Nat × Instr))

/-- Command `c` is the request of `q` with an opcode that the firmware executes, not answered yet (R489). -/
def Packet.FirmwareCommand (q : Packet) (opcode : Nat) (c : Instr) : Prop :=
  (opcode, c) ∈ ([(0x0030, .swReset q.p q.n q.seq q.conf q.xl q.params q.mac none),
   (0x3010, .setChargeLimits q.p q.n q.seq q.conf q.xl q.params q.mac none),
   (0x3011, .setInputLimit q.p q.n q.seq q.conf q.xl q.params q.mac none),
   (0x3020, .setSupply q.p q.n q.seq q.conf q.xl q.params q.mac none),
   (0x3030, .clearLockout q.p q.n q.seq q.conf q.xl q.params q.mac none),
   (0x5010, .shiftTo q.p q.n q.seq q.conf q.xl q.params q.mac none),
   (0x5020, .parkReq q.p q.n q.seq q.conf q.xl q.params q.mac none),
   (0x5030, .clutchReq q.p q.n q.seq q.conf q.xl q.params q.mac none),
   (0x5040, .pumpDemand q.p q.n q.seq q.conf q.xl q.params q.mac none),
   (0x6010, .safetyCfg q.p q.n q.seq q.conf q.xl q.params q.mac none none),
   (0x6020, .safetyClear q.p q.n q.seq q.conf q.xl q.params q.mac none),
   (0x7010, .nvmRead q.p q.n q.seq q.conf q.xl q.params q.mac none),
   (0x7011, .nvmWrite q.p q.n q.seq q.conf q.xl q.params q.mac none),
   (0x7020, .fwBlock q.p q.n q.seq q.conf q.xl q.params q.mac none),
   (0x7021, .fwActivate q.p q.n q.seq q.conf q.xl q.params q.mac none []),
   (0x8020, .attest q.p q.n q.seq q.conf q.xl q.params q.mac none),
   (0x8030, .keyWrite q.p q.n q.seq q.conf q.xl q.params q.mac none),
   (0x9010, .counterRead q.p q.n q.seq q.conf q.xl q.params q.mac none),
   (0x9020, .probeStart q.p q.n q.seq q.conf q.xl q.params q.mac none),
   (0xA010, .traceCfg q.p q.n q.seq q.conf q.xl q.params q.mac none),
   (0xA011, .traceRead q.p q.n q.seq q.conf q.xl q.params q.mac none)] : List (Nat × Instr))

end Sys2Proof.Machine
end

