-- ==== Sys2Proof/Frame.lean ====
section
/-! DEFINITION. What each command may change: the parts of the state, the registers, and for a Canter instruction its word.
Statements about frames are stated in these terms. -/

namespace Sys2Proof

open Machine

/-! ## Parts of the state -/

/-- The parts of the state that commands change; no command changes the variant or the queue. -/
inductive Part where
  | dtb | regs | sigs | descs | sram | nvm | codeNvm | draws | cores | paddock | au | joins | tt | ce | pg | tripIn |
  yarrow | mode | irqPend | gate | mg | bus | bridle | sec | rtcBase | drives | inlet | charge | supply | solar | chs
  | lv | keeper | motors | shift | park | clutch | pump | harn | thermal | clk | power | boot | cycle
  deriving DecidableEq, Repr

/-- The part is the same in two states. -/
def Part.same (s t : State) : Part → Prop
  | .dtb => t.dtb = s.dtb
  | .regs => t.regs = s.regs
  | .sigs => t.sigs = s.sigs
  | .descs => t.descs = s.descs
  | .sram => t.sram = s.sram
  | .nvm => t.nvm = s.nvm
  | .codeNvm => t.codeNvm = s.codeNvm
  | .draws => t.draws = s.draws
  | .cores => t.cores = s.cores
  | .paddock => t.paddock = s.paddock
  | .au => t.au = s.au
  | .joins => t.joins = s.joins
  | .tt => t.tt = s.tt
  | .ce => t.ce = s.ce
  | .pg => t.pg = s.pg
  | .tripIn => t.tripIn = s.tripIn
  | .yarrow => t.yarrow = s.yarrow
  | .mode => t.mode = s.mode
  | .irqPend => t.irqPend = s.irqPend
  | .gate => t.gate = s.gate
  | .mg => t.mg = s.mg
  | .bus => t.bus = s.bus
  | .bridle => t.bridle = s.bridle
  | .sec => t.sec = s.sec
  | .rtcBase => t.rtcBase = s.rtcBase
  | .drives => t.drives = s.drives
  | .inlet => t.inlet = s.inlet
  | .charge => t.charge = s.charge
  | .supply => t.supply = s.supply
  | .solar => t.solar = s.solar
  | .chs => t.chs = s.chs
  | .lv => t.lv = s.lv
  | .keeper => t.keeper = s.keeper
  | .motors => t.motors = s.motors
  | .shift => t.shift = s.shift
  | .park => t.park = s.park
  | .clutch => t.clutch = s.clutch
  | .pump => t.pump = s.pump
  | .harn => t.harn = s.harn
  | .thermal => t.thermal = s.thermal
  | .clk => t.clk = s.clk
  | .power => t.power = s.power
  | .boot => t.boot = s.boot
  | .cycle => t.cycle = s.cycle

/-- The parts that a command may change. -/
def Instr.parts : Instr → List Part
  | .chargeTerminationStart .. => [.charge]
  | .senseCellCrossing .. | .drvEnPinChange .. => [.gate]
  | .stationProbeSeen .. => [.inlet]
  | .btnPress .. | .btnRelease .. => [.keeper]
  | .speedCrosscheckFault .. => [.mg]
  | .backEmfCrossing .. => [.motors]
  | .phaseCurrentZero .. => [.pg]
  | .hardOvervoltageRelease .. | .encoderIndex .. | .resolverExcitationFault .. | .busIntegrationDone .. | .referenceOk
    .. => [.regs]
  | .tripInPinChange .. => [.tripIn]
  | .dtbLoRead .. | .irqComplete .. => [.draws, .cores]
  | .adcSamplingEnd .. => [.dtb, .au]
  | .canNop .. | .canSkip .. | .canCmp .. | .canTst .. | .canOutd .. | .canOutc .. | .canBnd .. => [.dtb, .ce]
  | .presenceTestStart .. => [.dtb, .charge]
  | .strongPhaseEnd .. | .probeInjectionEnd .. | .enReqPulseEnd .. | .dischargeHoldoffEnd .. => [.dtb, .gate]
  | .hiccupCountReset .. => [.dtb, .lv]
  | .testPulseStart .. | .testPulseEnd .. => [.dtb, .mg]
  | .deadTimeEnd .. => [.dtb, .pg]
  | .authLockEnd .. => [.dtb, .regs]
  | .debugChallengeExpiry .. => [.dtb, .sec]
  | .vsupQualified .. => [.regs, .boot]
  | .frameTxFailure .. | .busOffRecovery .. | .protocolException .. | .receiveError .. => [.regs, .bus]
  | .staticCheckDone .. | .coefMemWritePerformed .. => [.regs, .ce]
  | .pllLock .. => [.regs, .clk]
  | .doubleBitL1Error .. => [.regs, .cores]
  | .shipModeArm .. => [.regs, .draws]
  | .encoderEdge .. => [.regs, .drives]
  | .gateSenseMidpoint .. | .biasRecovery .. | .lvBootstrapUv .. | .lvBootstrapRecovery .. | .chopperOn .. | .chopperOff
    .. | .forcedDischargeDone .. => [.regs, .gate]
  | .reharnessFence .. => [.regs, .harn]
  | .pilotPeriodCapture .. => [.regs, .inlet]
  | .syncEdge .. => [.regs, .lv]
  | .debugUnlock .. => [.regs, .sec]
  | .adcUrgWrite .. => [.draws, .cores, .au]
  | .busRecoveryRequest .. => [.draws, .cores, .bus]
  | .coefMemWrite .. => [.draws, .cores, .ce]
  | .enReqPulse .. => [.draws, .cores, .gate]
  | .irqClaim .. => [.draws, .cores, .irqPend]
  | .paddockCoreWrite .. | .descriptorWrite .. => [.draws, .cores, .paddock]
  | .thermalReenableRequest .. => [.draws, .cores, .thermal]
  | .canUrg .. => [.dtb, .au, .ce]
  | .subscriptionNotify .. => [.dtb, .bus, .bridle]
  | .busSupervisorTimeout .. => [.dtb, .mg, .bus]
  | .relockTimeout .. => [.dtb, .mg, .clk]
  | .adcTriggerDelayEnd .. | .adcCalDone .. => [.dtb, .regs, .au]
  | .warmReset .. => [.dtb, .regs, .boot]
  | .transmitObjectDue .. | .frameAbandon .. => [.dtb, .regs, .bus]
  | .lawLateMiss .. | .lookaheadStart .. | .canLdi .. | .canMov .. | .canAdd .. | .canSub .. | .canNeg .. | .canAbs .. |
    .canMin .. | .canMax .. | .canLim .. | .canShf .. | .canAddw .. | .canMul .. | .canMac .. | .canMsu .. | .canMulc
    .. | .canMacc .. | .canDmac .. | .canDot .. | .canLda .. | .canAdda .. | .canSuba .. | .canSt .. | .canSincos .. |
    .canPark .. | .canIpark .. | .canClarke .. | .canSvm .. | .canDiv .. | .canSqrt .. | .canTlu .. | .canLdk .. |
    .canLdc .. | .canLdu .. | .canInt .. | .canPrd .. | .canCorr .. => [.dtb, .regs, .ce]
  | .qualificationTimeout .. | .softTurnOffEnd .. | .probeGateLoopDone .. | .drvEnFilteredLow .. | .drvEnFilteredRise ..
    | .forcedDischargeTimeout .. | .path2TurnOn .. => [.dtb, .regs, .gate]
  | .forcedBarrier .. => [.dtb, .regs, .harn]
  | .shipModeBswOpen .. => [.dtb, .regs, .keeper]
  | .syncLost .. => [.dtb, .regs, .lv]
  | .inputFaultRecovery .. | .safetyOutputTest .. | .safetyOutputTestEnd .. | .selfTestDone .. => [.dtb, .regs, .mg]
  | .referenceEdge .. | .stretchTurnOff .. => [.dtb, .regs, .pg]
  | .rxObjectConsume .. | .measurementExtend .. | .clockGateWrite .. => [.regs, .draws, .cores]
  | .debugChallengeRead .. => [.regs, .draws, .sec]
  | .linkLoss .. | .clockSupervisorTrip .. | .moduleDischargeRequest .. => [.regs, .gate, .mg]
  | .eventRecordCopy .. => [.regs, .nvm, .thermal]
  | .canTlt .. | .canLds .. | .canSts .. => [.dtb, .draws, .paddock, .ce]
  | .urgentRequestEffect .. => [.dtb, .regs, .au, .ce]
  | .lawFallbackWrite .. => [.dtb, .regs, .ce, .pg]
  | .reharnessDone .. => [.dtb, .regs, .cores, .harn]
  | .canSha .. => [.dtb, .regs, .draws, .ce]
  | .plateauExit .. | .probeBridgeDone .. => [.dtb, .regs, .gate, .mg]
  | .boscTrimMeasure .. => [.dtb, .regs, .mg, .clk]
  | .gateCommandArrival .. => [.dtb, .regs, .pg, .gate]
  | .shiftRestEnd .. => [.dtb, .regs, .pg, .shift]
  | .strapEnd .. => [.dtb, .regs, .sram, .boot]
  | .dividerRampStep .. => [.dtb, .rtcBase, .clk, .cycle]
  | .adcSwtrgWrite .. | .adcCalStart .. | .adcDisable .. => [.regs, .draws, .cores, .au]
  | .bootConfirm .. => [.regs, .draws, .cores, .boot]
  | .brdFwqRead .. | .firmwarePendingWrite .. | .firmwareWorkDone .. => [.regs, .draws, .cores, .bridle]
  | .busEnable .. | .transmitSend .. | .busSleep .. => [.regs, .draws, .cores, .bus]
  | .lawEnable .. => [.regs, .draws, .cores, .ce]
  | .clockDividerWrite .. => [.regs, .draws, .cores, .clk]
  | .gdcProbeStart .. | .forcedDischargeRequest .. => [.regs, .draws, .cores, .gate]
  | .rejoinRequest .. => [.regs, .draws, .cores, .harn]
  | .safetyLock .. | .mgReps .. | .mgRepa .. | .mgSelWrite .. | .slpReferenceSet .. | .safetyOutputFaultClear .. =>
    [.regs, .draws, .cores, .mg]
  | .pwmEnable .. | .pwmDisable .. | .pwmGstart .. | .pwmCmpWrite .. | .pwmPerWrite .. | .pwmTripClear .. => [.regs,
    .draws, .cores, .pg]
  | .imageVerify .. => [.regs, .draws, .cores, .sec]
  | .ceEccDoubleError .. => [.regs, .paddock, .ce, .mg]
  | .speedValid .. => [.regs, .pg, .gate, .mg]
  | .driveStartComplete .. | .solarCurtail .. => [.sigs, .paddock, .ce, .gate]
  | .adcSlotStart .. => [.dtb, .regs, .au, .joins, .ce]
  | .slopeTimeout .. => [.dtb, .regs, .draws, .gate, .mg]
  | .canEnd .. => [.dtb, .regs, .draws, .paddock, .ce]
  | .adcConversionEnd .. => [.dtb, .regs, .paddock, .au, .mg]
  | .longPress .. => [.dtb, .regs, .pg, .mg, .keeper]
  | .yarrowMeasurementDone .. => [.dtb, .regs, .pg, .yarrow, .mg]
  | .selfTestStart .. => [.regs, .draws, .cores, .au, .mg]
  | .mgClr .. => [.regs, .draws, .cores, .gate, .mg]
  | .lawDisable .. | .ceDisable .. => [.regs, .draws, .cores, .paddock, .ce]
  | .referenceLoss .. => [.regs, .mg, .rtcBase, .clk, .cycle]
  | .reverseTransferStop .. => [.regs, .paddock, .ce, .pg, .solar]
  | .weakSource .. => [.sigs, .draws, .paddock, .ce, .gate]
  | .driveDwellEntry .. | .driveStop .. => [.sigs, .paddock, .ce, .gate, .drives]
  | .inletReadyLost .. | .handoverEnd .. => [.sigs, .paddock, .ce, .gate, .inlet]
  | .lvFaultClear .. => [.sigs, .paddock, .ce, .gate, .lv]
  | .pumpFaultClear .. => [.sigs, .paddock, .ce, .gate, .pump]
  | .shiftFaultClear .. => [.sigs, .paddock, .ce, .gate, .shift]
  | .solarStart .. => [.sigs, .paddock, .ce, .gate, .solar]
  | .triggerTimerFire .. => [.dtb, .regs, .draws, .au, .tt, .ce]
  | .canSel .. => [.dtb, .regs, .draws, .paddock, .au, .ce]
  | .clockRampStep .. => [.dtb, .regs, .mg, .rtcBase, .clk, .cycle]
  | .clutchPullEnd .. => [.dtb, .sigs, .paddock, .ce, .gate, .clutch]
  | .driveDwellEnd .. => [.dtb, .sigs, .paddock, .ce, .gate, .drives]
  | .lockoutEnd .. => [.dtb, .sigs, .paddock, .ce, .gate, .inlet]
  | .lvRetryWaitEnd .. => [.dtb, .sigs, .paddock, .ce, .gate, .lv]
  | .modeEntryRecheck .. => [.dtb, .sigs, .paddock, .ce, .mode, .gate]
  | .rcCounterRead .. => [.regs, .draws, .cores, .paddock, .irqPend, .bridle]
  | .referenceReturn .. => [.regs, .draws, .cores, .rtcBase, .clk, .cycle]
  | .pilotStateDecode .. => [.regs, .sigs, .draws, .paddock, .ce, .gate]
  | .chargeRequest .. | .chargeCvReached .. | .chargeRecharge .. | .chargeSourceLost .. | .chargeStop .. |
    .chargeFaultClear .. => [.regs, .sigs, .paddock, .ce, .gate, .charge]
  | .driveSafeEntry .. => [.regs, .sigs, .paddock, .ce, .gate, .drives]
  | .inletEnergize .. | .srcFaultRecover .. => [.regs, .sigs, .paddock, .ce, .gate, .inlet]
  | .shiftInBand .. | .shiftStall .. | .shiftSensorFault .. => [.regs, .sigs, .paddock, .ce, .pg, .gate]
  | .inletCableDetected .. | .inletSourceQualified .. => [.sigs, .draws, .paddock, .ce, .gate, .inlet]
  | .longPressBswClose .. => [.dtb, .regs, .cores, .rtcBase, .keeper, .boot, .cycle]
  | .chargeTopoffEnd .. | .presenceTestEnd .. => [.dtb, .regs, .sigs, .paddock, .ce, .gate, .charge]
  | .inletEnergizeTimeout .. => [.dtb, .regs, .sigs, .paddock, .ce, .gate, .inlet]
  | .mpptStep .. | .solarScanStep .. => [.dtb, .sigs, .draws, .paddock, .ce, .gate, .solar]
  | .reverseTransferStart .. => [.regs, .paddock, .tt, .ce, .pg, .solar, .lv]
  | .lvPowerGood .. => [.regs, .sigs, .paddock, .ce, .gate, .charge, .lv]
  | .driveOverspeed .. => [.regs, .sigs, .paddock, .ce, .gate, .mg, .drives]
  | .chargeSourceHoldEnd .. => [.regs, .sigs, .paddock, .ce, .pg, .gate, .charge]
  | .clutchOpenDetect .. => [.regs, .sigs, .paddock, .ce, .pg, .gate, .clutch]
  | .driveStopped .. => [.regs, .sigs, .paddock, .ce, .pg, .gate, .drives]
  | .inletSourceLoss .. | .inletModeLeft .. => [.regs, .sigs, .paddock, .ce, .pg, .gate, .inlet]
  | .dcxIbGood .. | .lvFeedLost .. | .lvStop .. => [.regs, .sigs, .paddock, .ce, .pg, .gate, .lv]
  | .parkPositionReached .. | .parkDiscrepancy .. => [.regs, .sigs, .paddock, .ce, .pg, .gate, .park]
  | .pumpSpeedFault .. => [.regs, .sigs, .paddock, .ce, .pg, .gate, .pump]
  | .solarStop .. => [.regs, .sigs, .paddock, .ce, .pg, .gate, .solar]
  | .supplyFault .. => [.regs, .sigs, .paddock, .ce, .pg, .gate, .supply]
  | .chargeTermination .. => [.dtb, .regs, .sigs, .draws, .paddock, .ce, .gate, .charge]
  | .lawOutputWrite .. => [.dtb, .regs, .sigs, .draws, .paddock, .ce, .pg, .gate]
  | .chargeQualifyTimeout .. => [.dtb, .regs, .sigs, .paddock, .ce, .pg, .gate, .charge]
  | .driveStartTimeout .. => [.dtb, .regs, .sigs, .paddock, .ce, .pg, .gate, .drives]
  | .dcxStartTimeout .. | .lvSoftstartFail .. => [.dtb, .regs, .sigs, .paddock, .ce, .pg, .gate, .lv]
  | .parkTimeout .. => [.dtb, .regs, .sigs, .paddock, .ce, .pg, .gate, .park]
  | .pumpRampEnd .. => [.dtb, .regs, .sigs, .paddock, .ce, .pg, .gate, .pump]
  | .shiftTestPulseEnd .. | .shiftDecayFail .. | .shiftRetryWaitEnd .. => [.dtb, .regs, .sigs, .paddock, .ce, .pg,
    .gate, .shift]
  | .solarScanStart .. => [.dtb, .regs, .sigs, .paddock, .ce, .pg, .gate, .solar]
  | .inletCableRemoved .. => [.regs, .sigs, .draws, .paddock, .ce, .pg, .gate, .inlet]
  | .supplyCableRemoved .. => [.regs, .sigs, .draws, .paddock, .ce, .pg, .gate, .supply]
  | .chargeSourceHold .. => [.regs, .sigs, .paddock, .ce, .pg, .gate, .charge, .chs]
  | .chargeQualified .. => [.regs, .sigs, .paddock, .tt, .ce, .pg, .gate, .charge]
  | .driveStart .. => [.regs, .sigs, .paddock, .tt, .ce, .pg, .gate, .drives]
  | .lvSequencerStart .. => [.regs, .sigs, .paddock, .tt, .ce, .pg, .gate, .lv]
  | .parkDriveStart .. => [.regs, .sigs, .paddock, .tt, .ce, .pg, .gate, .park]
  | .shiftStart .. => [.regs, .sigs, .paddock, .tt, .ce, .pg, .gate, .shift]
  | .commutation .. => [.dtb, .regs, .sigs, .draws, .paddock, .ce, .pg, .gate, .motors]
  | .handoverTimeout .. => [.dtb, .regs, .sigs, .paddock, .ce, .pg, .gate, .inlet, .charge]
  | .lvSupervisorFire .. => [.dtb, .regs, .sigs, .paddock, .ce, .pg, .gate, .mg, .lv]
  | .lvCheckDone .. => [.dtb, .regs, .sigs, .paddock, .tt, .ce, .pg, .gate, .lv]
  | .parkBrakeEnd .. => [.dtb, .regs, .sigs, .paddock, .tt, .ce, .pg, .gate, .park]
  | .shiftSectorDecision .. => [.regs, .sigs, .draws, .paddock, .ce, .pg, .gate, .motors, .shift]
  | .modeLeavingDone .. => [.regs, .sigs, .paddock, .ce, .pg, .mode, .gate, .keeper, .power]
  | .cotStartEvent .. => [.regs, .sram, .draws, .paddock, .au, .tt, .ce, .pg, .gate]
  | .machineTimerInterrupt .. => [.dtb, .regs, .sigs, .cores, .paddock, .ce, .mode, .gate, .keeper, .power]
  | .pumpAlignEnd .. => [.dtb, .regs, .sigs, .draws, .paddock, .ce, .pg, .gate, .motors, .pump]
  | .supplyEnergize .. => [.dtb, .regs, .sigs, .paddock, .tt, .ce, .pg, .gate, .charge, .supply]
  | .dcxWaitEnd .. => [.dtb, .regs, .sigs, .paddock, .tt, .ce, .pg, .gate, .mg, .lv]
  | .generatorPeriodStart .. | .generatorCentre .. | .compareAMatch .. | .cotMinOffEnd .. | .cotForcedStart .. => [.dtb,
    .regs, .sram, .draws, .paddock, .au, .tt, .ce, .pg, .gate]
  | .wakePinRise .. | .plugDetection .. | .rtcAlarm .. => [.regs, .sigs, .cores, .paddock, .ce, .mode, .gate, .keeper,
    .power, .boot]
  | .stationStateReaction .. => [.regs, .sigs, .draws, .paddock, .tt, .ce, .pg, .gate, .charge, .supply]
  | .inletPhasesValid .. => [.regs, .sigs, .draws, .paddock, .tt, .ce, .pg, .gate, .inlet, .charge]
  | .offTimeComparator .. | .valleyLimitRelease .. => [.regs, .sram, .draws, .paddock, .au, .tt, .ce, .pg, .gate, .lv]
  | .btnPressWake .. => [.dtb, .regs, .sigs, .cores, .paddock, .ce, .mode, .gate, .keeper, .power, .boot]
  | .watchdogWarning .. => [.dtb, .regs, .sigs, .cores, .paddock, .ce, .mode, .irqPend, .gate, .keeper, .power]
  | .forcedCommutation .. => [.dtb, .regs, .sigs, .draws, .paddock, .ce, .pg, .gate, .motors, .shift, .pump]
  | .solarOpenCircuitMeasure .. => [.dtb, .regs, .sigs, .draws, .paddock, .tt, .ce, .pg, .gate, .charge, .solar]
  | .pumpEvaluation .. | .pumpRetryWaitEnd .. => [.dtb, .regs, .sigs, .draws, .paddock, .tt, .ce, .pg, .gate, .motors,
    .pump]
  | .imageVerifyDone .. => [.regs, .sigs, .cores, .paddock, .ce, .mode, .irqPend, .gate, .sec, .keeper, .power]
  | .biasUndervoltage .. | .hardOvervoltage .. => [.regs, .sigs, .cores, .paddock, .ce, .pg, .mode, .irqPend, .gate,
    .keeper, .power]
  | .bus0WakeFrame .. => [.regs, .sigs, .draws, .cores, .paddock, .ce, .mode, .gate, .keeper, .power, .boot]
  | .softwareInterrupt .. => [.regs, .sigs, .draws, .cores, .paddock, .ce, .mode, .irqPend, .gate, .keeper, .power]
  | .lvOvercurrent .. => [.regs, .sigs, .paddock, .ce, .pg, .gate, .mg, .lv, .park, .clutch, .pump]
  | .sessionIdleTimeout .. | .sessionOpenTimeout .. => [.dtb, .regs, .sigs, .cores, .paddock, .ce, .mode, .irqPend,
    .gate, .bridle, .keeper, .power]
  | .ss1RampEnd .. => [.dtb, .regs, .sigs, .cores, .paddock, .ce, .pg, .mode, .irqPend, .gate, .keeper, .power]
  | .powerFailWarning .. => [.regs, .sigs, .cores, .paddock, .ce, .mode, .irqPend, .gate, .mg, .keeper, .power, .boot]
  | .lvOvervoltage .. => [.regs, .sigs, .cores, .paddock, .ce, .pg, .mode, .irqPend, .gate, .lv, .keeper, .power]
  | .speedInvalid .. => [.regs, .sigs, .cores, .paddock, .ce, .pg, .mode, .irqPend, .gate, .mg, .keeper, .power]
  | .teamARelease .. => [.regs, .sigs, .draws, .cores, .paddock, .ce, .gate, .park, .clutch, .pump, .harn, .boot]
  | .bridleDisable .. => [.regs, .sigs, .draws, .cores, .paddock, .ce, .mode, .irqPend, .gate, .bridle, .keeper, .power]
  | .busWake .. => [.regs, .sigs, .draws, .cores, .paddock, .ce, .mode, .irqPend, .gate, .bus, .keeper, .power]
  | .firmwareAnswerTimeout .. => [.dtb, .regs, .sigs, .cores, .paddock, .ce, .mode, .irqPend, .gate, .bus, .bridle,
    .keeper, .power]
  | .senseCellDetection .. | .safetyInputSample .. | .contactFilterExpiry .. | .inputDiscrepancyTimeout .. => [.dtb,
    .regs, .sigs, .cores, .paddock, .ce, .pg, .mode, .irqPend, .gate, .mg, .keeper, .power]
  | .tripInFilterExpiry .. => [.dtb, .regs, .sigs, .cores, .paddock, .ce, .pg, .tripIn, .mode, .irqPend, .gate, .keeper,
    .power]
  | .startSequenceProbe .. => [.dtb, .regs, .sigs, .paddock, .ce, .pg, .gate, .mg, .lv, .shift, .park, .clutch, .pump]
  | .firmwareAnswer .. => [.regs, .sigs, .draws, .cores, .paddock, .ce, .mode, .irqPend, .gate, .bus, .bridle, .keeper,
    .power]
  | .zoneEvaluation .. => [.dtb, .regs, .sigs, .draws, .cores, .paddock, .ce, .mode, .irqPend, .gate, .mg, .keeper,
    .thermal, .power]
  | .martingaleTick .. => [.dtb, .regs, .sigs, .draws, .cores, .paddock, .ce, .pg, .mode, .irqPend, .gate, .mg, .keeper,
    .power]
  | .wfi .. => [.regs, .sigs, .cores, .paddock, .ce, .pg, .mode, .irqPend, .gate, .bridle, .keeper, .harn, .power,
    .boot]
  | .batterySideLost .. => [.regs, .sigs, .cores, .paddock, .ce, .pg, .mode, .irqPend, .gate, .bus, .bridle, .drives,
    .keeper, .power]
  | .powerRequest .. => [.regs, .sigs, .draws, .cores, .paddock, .ce, .pg, .mode, .irqPend, .gate, .bridle, .keeper,
    .power, .boot]
  | .rejoinDone .. => [.dtb, .regs, .sigs, .cores, .paddock, .ce, .pg, .mode, .irqPend, .gate, .bridle, .keeper, .harn,
    .power, .boot]
  | .driveStopTimeout .. => [.dtb, .regs, .sigs, .cores, .paddock, .ce, .pg, .mode, .irqPend, .gate, .bus, .bridle,
    .drives, .keeper, .power]
  | .dcxOvercurrent .. | .faultReport .. => [.regs, .sigs, .cores, .paddock, .ce, .pg, .mode, .irqPend, .gate, .mg,
    .bus, .bridle, .lv, .keeper, .power]
  | .debugUnlockDone .. => [.regs, .sigs, .cores, .paddock, .ce, .pg, .mode, .irqPend, .gate, .mg, .bus, .bridle, .sec,
    .keeper, .power]
  | .frameReceived .. | .frameTransmitted .. | .ping .. | .setMode .. | .capRead .. | .sigRead .. | .sigWrite .. |
    .sigSubscribe .. | .sigUnsubscribe .. | .setTorque .. | .setSpeed .. | .setCtrlMode .. | .setDirection .. |
    .setTorqueLimits .. | .setNetVoltage .. | .setLvRun .. | .lvClear .. | .sessionOpen .. | .sessionProof .. |
    .sessionClose .. => [.regs, .sigs, .draws, .cores, .paddock, .ce, .mode, .irqPend, .gate, .mg, .bus, .bridle,
    .sec, .keeper, .power]
  | .domainTransitionDone .. => [.dtb, .regs, .sigs, .cores, .paddock, .au, .tt, .ce, .pg, .gate, .mg, .rtcBase,
    .keeper, .power, .boot, .cycle]
  | .dclMeasSample .. => [.dtb, .regs, .sigs, .cores, .paddock, .ce, .pg, .mode, .irqPend, .gate, .mg, .bus, .bridle,
    .chs, .keeper, .power]
  | .stage1Entry .. => [.dtb, .regs, .sigs, .descs, .nvm, .cores, .paddock, .au, .tt, .ce, .gate, .mg, .sec, .keeper,
    .power, .boot]
  | .mgGtrip .. => [.regs, .sigs, .draws, .cores, .paddock, .ce, .pg, .mode, .irqPend, .gate, .mg, .bus, .bridle, .lv,
    .keeper, .power]
  | .swReset .. | .setChargeLimits .. | .setInputLimit .. | .setSupply .. | .clearLockout .. | .shiftTo .. | .parkReq ..
    | .clutchReq .. | .pumpDemand .. | .safetyCfg .. | .safetyClear .. | .nvmRead .. | .nvmWrite .. | .fwBlock .. |
    .fwActivate .. | .attest .. | .keyWrite .. | .counterRead .. | .probeStart .. | .traceCfg .. | .traceRead .. =>
    [.dtb, .regs, .sigs, .draws, .cores, .paddock, .ce, .mode, .irqPend, .gate, .mg, .bus, .bridle, .sec, .keeper,
    .power, .boot]
  | .modeEnteringDone .. => [.regs, .sigs, .draws, .cores, .paddock, .ce, .pg, .mode, .irqPend, .gate, .mg, .bus,
    .bridle, .inlet, .charge, .supply, .chs, .keeper, .power]
  | .paddockBankAccess .. => [.dtb, .regs, .sigs, .descs, .sram, .draws, .cores, .paddock, .au, .joins, .ce, .pg, .mode,
    .irqPend, .gate, .mg, .bus, .bridle, .chs, .keeper, .power]
  | .troikaMismatch .. | .noMajorityMismatch .. => [.regs, .sigs, .cores, .paddock, .ce, .mode, .irqPend, .gate, .mg,
    .inlet, .charge, .supply, .solar, .keeper, .motors, .shift, .park, .clutch, .pump, .harn, .power]
  | .registerWrite .. => [.regs, .sigs, .sram, .draws, .cores, .paddock, .tt, .ce, .pg, .tripIn, .yarrow, .mode,
    .irqPend, .gate, .mg, .bus, .bridle, .inlet, .keeper, .harn, .thermal, .power]
  | .systemBoundary1ms .. => [.dtb, .regs, .sigs, .sram, .draws, .cores, .paddock, .tt, .ce, .pg, .yarrow, .mode,
    .irqPend, .gate, .mg, .bus, .bridle, .drives, .inlet, .charge, .supply, .chs, .lv, .keeper, .park, .clutch, .pump,
    .power]
  | .martingaleFatalReset .. => [.dtb, .regs, .sigs, .descs, .nvm, .codeNvm, .draws, .cores, .paddock, .au, .joins, .tt,
    .ce, .pg, .tripIn, .yarrow, .mode, .irqPend, .gate, .mg, .bus, .bridle, .sec, .rtcBase, .drives, .inlet, .charge,
    .supply, .solar, .chs, .lv, .motors, .shift, .park, .clutch, .pump, .harn, .thermal, .clk, .power, .boot, .cycle]
  | .watchdogService .. | .debugReset .. | .bootFailure .. | .softwareReset .. | .nvmProgramDone .. => [.regs, .sigs,
    .descs, .nvm, .codeNvm, .draws, .cores, .paddock, .au, .joins, .tt, .ce, .pg, .tripIn, .yarrow, .mode, .irqPend,
    .gate, .mg, .bus, .bridle, .sec, .rtcBase, .drives, .inlet, .charge, .supply, .solar, .chs, .lv, .keeper, .motors,
    .shift, .park, .clutch, .pump, .harn, .thermal, .clk, .power, .boot, .cycle]
  | .longPressBswOpen .. | .watchdogExpiry .. | .bridleCommit .. | .domainReinitDone .. | .startupDomainsUp .. |
    .brownOut .. | .vbatkApplied .. => [.dtb, .regs, .sigs, .descs, .nvm, .codeNvm, .draws, .cores, .paddock, .au,
    .joins, .tt, .ce, .pg, .tripIn, .yarrow, .mode, .irqPend, .gate, .mg, .bus, .bridle, .sec, .rtcBase, .drives,
    .inlet, .charge, .supply, .solar, .chs, .lv, .keeper, .motors, .shift, .park, .clutch, .pump, .harn, .thermal,
    .clk, .power, .boot, .cycle]

/-! ## Registers -/

/-- One register, and the registers of one name for every index. -/
def r0 (r a : Nat) : Prop := a = r
def r1 (f : Nat → Nat) (a : Nat) : Prop := ∃ i, a = f i
def r2 (f : Nat → Nat → Nat) (a : Nat) : Prop := ∃ i j, a = f i j
def r3 (f : Nat → Nat → Nat → Nat) (a : Nat) : Prop := ∃ i j k, a = f i j k

/-- The counters of the reset causes. -/
def causeCounters (a : Nat) : Prop := ∃ k, a = Reg.RST_CNT_POR + 4 * k

/-- The registers that an opcode of the firmware may write; `a` is the counter that COUNTER_READ names. -/
def firmwareRegisters (a : Nat) : Option (List (Nat → Prop)) :=
some [r0 a, r0 Reg.BRD_CNT_AUTH, r0 Reg.BRD_CNT_BUSY, r0 Reg.BRD_CNT_DUP, r0 Reg.BRD_CNT_FWLATE, r0 Reg.BRD_CNT_LATE,
    r0 Reg.BRD_CNT_MAC, r0 Reg.BRD_CNT_MALF, r0 Reg.BRD_CNT_NOSESS, r0 Reg.BRD_CNT_REPLAY, r1 Reg.BRD_LOCK, r2
    Reg.BRD_RSLT, r1 Reg.BRD_SEQ, r1 Reg.BRD_SESS, r2 Reg.BRD_SLOT, r0 Reg.BRD_STAT, r1 Reg.BUS_CNT_LOST, r1
    Reg.BUS_CNT_NOMATCH, r1 Reg.BUS_CNT_RX, r1 Reg.BUS_CNT_SHORT, r1 Reg.BUS_CNT_TOOLONG, r1 Reg.BUS_ERR, r1
    Reg.BUS_STAT, r2 Reg.GCH_BIN, r1 Reg.GCH_STAT, r1 Reg.GDC_PLEG, r0 Reg.GDC_PRB, r0 Reg.GDC_PRB_RES, r0
    Reg.GDC_STAT, r0 Reg.MG_CNT_REPREF, r1 Reg.MG_DSTAT, r0 Reg.MG_GTRIP, r0 Reg.MG_GTRIP_HI, r0 Reg.MG_SOSTAT, r0
    Reg.MG_STAT, r0 Reg.MG_TL6, r0 Reg.MG_TL6_HI, r1 Reg.PWM_STAT, r1 Reg.PWR_CNT_ABT, r0 Reg.PWR_EVT, r0
    Reg.PWR_REFUSE_ID, r0 Reg.PWR_REQ, r0 Reg.PWR_STAT, r2 Reg.RXO_STAT, r0 Reg.TRP_LVL]

/-- The registers that a command may write; none where it resets a domain or commits a configuration block, which may write any. -/
def Instr.registers : Instr → Option (List (Nat → Prop))
  | .longPressBswOpen .. | .watchdogService .. | .watchdogExpiry .. | .martingaleFatalReset .. | .bridleCommit .. |
    .debugReset .. | .domainReinitDone .. | .startupDomainsUp .. | .bootFailure .. | .softwareReset .. | .brownOut ..
    | .vbatkApplied .. | .nvmProgramDone .. => none
  | .dtbLoRead .. | .modeEntryRecheck .. | .paddockCoreWrite .. | .descriptorWrite .. | .deadTimeEnd .. |
    .tripInPinChange .. | .coefMemWrite .. | .canNop .. | .canSkip .. | .canCmp .. | .canTst .. | .canTlt .. | .canLds
    .. | .canSts .. | .canUrg .. | .canOutd .. | .canOutc .. | .canBnd .. | .adcSamplingEnd .. | .adcUrgWrite .. |
    .strongPhaseEnd .. | .senseCellCrossing .. | .probeInjectionEnd .. | .drvEnPinChange .. | .enReqPulse .. |
    .enReqPulseEnd .. | .dischargeHoldoffEnd .. | .driveStartComplete .. | .driveDwellEntry .. | .driveDwellEnd .. |
    .driveStop .. | .inletCableDetected .. | .inletSourceQualified .. | .inletReadyLost .. | .handoverEnd .. |
    .lockoutEnd .. | .weakSource .. | .chargeTerminationStart .. | .presenceTestStart .. | .stationProbeSeen .. |
    .solarStart .. | .mpptStep .. | .solarScanStep .. | .solarCurtail .. | .lvRetryWaitEnd .. | .hiccupCountReset .. |
    .lvFaultClear .. | .btnPress .. | .btnRelease .. | .backEmfCrossing .. | .shiftFaultClear .. | .clutchPullEnd .. |
    .pumpFaultClear .. | .irqClaim .. | .irqComplete .. | .speedCrosscheckFault .. | .testPulseStart .. |
    .testPulseEnd .. | .thermalReenableRequest .. | .busRecoveryRequest .. | .busSupervisorTimeout .. |
    .subscriptionNotify .. | .debugChallengeExpiry .. | .relockTimeout .. | .dividerRampStep .. | .phaseCurrentZero ..
    => some []
  | .brdFwqRead .. | .firmwarePendingWrite .. | .firmwareWorkDone .. => some [r0 Reg.BRD_STAT]
  | .referenceOk .. => some [r0 Reg.CLK_STAT]
  | .shipModeBswOpen .. => some [r0 Reg.KPR_BSTAT]
  | .shipModeArm .. => some [r0 Reg.KPR_SHIP]
  | .lvPowerGood .. => some [r0 Reg.LVC_STAT]
  | .mgReps .. | .mgRepa .. => some [r0 Reg.MG_CNT_REPREF]
  | .safetyOutputTest .. | .safetyOutputTestEnd .. | .safetyOutputFaultClear .. => some [r0 Reg.MG_SOSTAT]
  | .selfTestDone .. => some [r0 Reg.MG_STAT]
  | .warmReset .. => some [r0 Reg.RST_DTB]
  | .strapEnd .. => some [r0 Reg.RST_STRAP]
  | .debugUnlock .. => some [r0 Reg.SEC_DBGST]
  | .bootConfirm .. => some [r0 Reg.SEC_RBCNT]
  | .imageVerify .. => some [r0 Reg.SEC_VST]
  | .adcSwtrgWrite .. => some [r1 Reg.ADC_CNT_OVRUN]
  | .adcCalStart .. => some [r1 Reg.ADC_STATUS]
  | .authLockEnd .. => some [r1 Reg.BRD_LOCK]
  | .busIntegrationDone .. => some [r1 Reg.BUS_STAT]
  | .probeGateLoopDone .. => some [r1 Reg.GCH_GLOOP]
  | .gateSenseMidpoint .. | .qualificationTimeout .. | .softTurnOffEnd .. => some [r1 Reg.GCH_STAT]
  | .doubleBitL1Error .. => some [r1 Reg.HARN_CNT_MIS]
  | .rejoinRequest .. | .forcedBarrier .. => some [r1 Reg.HARN_STAT]
  | .lvBootstrapUv .. | .lvBootstrapRecovery .. => some [r1 Reg.LCH_STAT]
  | .pwmTripClear .. => some [r1 Reg.PWM_STAT]
  | .resolverExcitationFault .. => some [r1 Reg.RES_STAT]
  | .debugChallengeRead .. => some [r1 Reg.SEC_DBGCH]
  | .coefMemWritePerformed .. => some [r2 Reg.COEF_MEM]
  | .lawEnable .. => some [r2 Reg.LAW_CTRL]
  | .rxObjectConsume .. => some [r2 Reg.RXO_STAT]
  | .canLdi e l _ _ | .canMov e l _ _ | .canAdd e l _ _ _ | .canSub e l _ _ _ | .canNeg e l _ _ | .canAbs e l _ _ |
    .canMin e l _ _ _ | .canMax e l _ _ _ | .canLim e l _ _ _ _ | .canShf e l _ _ _ | .canAddw e l _ _ _ | .canMul e l
    _ _ _ | .canMac e l _ _ _ | .canMsu e l _ _ _ | .canMulc e l _ _ _ | .canMacc e l _ _ _ | .canDmac e l _ _ _ |
    .canDot e l _ _ _ | .canLda e l _ _ | .canAdda e l _ _ | .canSuba e l _ _ | .canSha e l _ _ | .canSt e l _ _ |
    .canSincos e l _ _ | .canPark e l _ _ _ _ | .canIpark e l _ _ _ _ | .canClarke e l _ _ _ | .canSvm e l _ _ _ |
    .canDiv e l _ _ _ | .canSqrt e l _ _ | .canTlu e l _ _ _ | .canLdk e l _ _ | .canLdc e l _ _ | .canInt e l _ _ _ _
    | .canPrd e l _ _ | .canCorr e l _ _ _ _ => some [r0 (Reg.LAW_STAT e l)]
  | .chargeRequest .. | .chargeCvReached .. | .chargeTermination .. | .chargeTopoffEnd .. | .chargeRecharge .. |
    .chargeSourceLost .. | .presenceTestEnd .. | .chargeStop .. | .chargeFaultClear .. => some [r0 Reg.CHS_CTRL, r0
    Reg.CHS_VMAX]
  | .pllLock .. => some [r0 Reg.CLK_CNT_RELOCK, r0 Reg.CLK_STAT]
  | .referenceReturn .. => some [r0 Reg.CLK_CTRL, r0 Reg.CLK_STAT]
  | .inletEnergize .. | .inletEnergizeTimeout .. | .srcFaultRecover .. => some [r0 Reg.INL_CTRL, r0 Reg.INL_STAT]
  | .syncEdge .. => some [r0 Reg.LVC_STAT, r0 Reg.LVC_SYNC]
  | .safetyLock .. => some [r0 Reg.MG_CRC, r0 Reg.MG_STAT]
  | .inputFaultRecovery .. => some [r0 Reg.MG_SISTAT, r0 Reg.MG_SOSTAT]
  | .eventRecordCopy .. => some [r0 Reg.TH_RECPTR, r0 Reg.TH_STAT]
  | .yarrowMeasurementDone .. => some [r0 Reg.YRW_CNT, r0 Reg.YRW_STAT]
  | .adcTriggerDelayEnd .. | .adcConversionEnd .. => some [r1 Reg.ADC_CNT_COLL, r1 Reg.ADC_STATUS]
  | .adcDisable .. => some [r1 Reg.ADC_CTRL, r1 Reg.ADC_STATUS]
  | .frameAbandon .. => some [r1 Reg.BUS_CNT_ABANDON, r2 Reg.TXO_STAT]
  | .busEnable .. | .busSleep .. => some [r1 Reg.BUS_CTRL, r1 Reg.BUS_STAT]
  | .busOffRecovery .. | .receiveError .. => some [r1 Reg.BUS_ERR, r1 Reg.BUS_STAT]
  | .clockRampStep .. => some [r1 Reg.BUS_STAT, r0 Reg.CLK_STAT]
  | .lookaheadStart .. => some [r1 Reg.CE_STATUS, r2 Reg.LAW_RSTAT]
  | .clockGateWrite .. => some [r1 Reg.CLK_GATE, r0 Reg.CLK_STAT]
  | .encoderEdge .. | .encoderIndex .. => some [r1 Reg.ENC_CNT, r1 Reg.ENC_STAT]
  | .reharnessFence .. => some [r1 Reg.HARN_CNT_REHREF, r1 Reg.HARN_STAT]
  | .referenceEdge .. | .stretchTurnOff .. => some [r1 Reg.PWM_CNT_DROP, r1 Reg.PWM_CNT_STRETCH]
  | .hardOvervoltageRelease .. => some [r1 Reg.PWM_STAT, r0 Reg.TRP_LVL]
  | .adcCalDone .. => some [r2 Reg.ADC_OFS, r1 Reg.ADC_STATUS]
  | .gateCommandArrival .. | .chopperOff .. | .path2TurnOn .. => some [r2 Reg.GCH_BIN, r1 Reg.GCH_STAT]
  | .measurementExtend .. => some [r2 Reg.SEC_MEAS, r0 Reg.SEC_VST]
  | .vsupQualified .. => some [causeCounters, r0 Reg.RST_CAUSE, r0 Reg.RST_CNT_POR]
  | .boscTrimMeasure .. => some [r0 Reg.BOSC_MEAS, r0 Reg.BOSC_TRIM, r0 Reg.CLK_STAT]
  | .chopperOn .. => some [r0 Reg.BRK_CNT, r2 Reg.GCH_BIN, r1 Reg.GCH_STAT]
  | .referenceLoss .. => some [r0 Reg.CLK_CNT_LOSS, r0 Reg.CLK_LOSST, r0 Reg.CLK_STAT]
  | .clockDividerWrite .. => some [r0 Reg.CLK_DIV0, r0 Reg.CLK_DIV1, r0 Reg.CLK_STAT]
  | .forcedDischargeDone .. | .forcedDischargeTimeout .. | .clockSupervisorTrip .. | .moduleDischargeRequest .. => some
    [r0 Reg.DSC_STAT, r2 Reg.GCH_BIN, r1 Reg.GCH_STAT]
  | .drvEnFilteredRise .. => some [r0 Reg.GDC_CNT_ENSHORT, r0 Reg.GDC_CNT_PEND, r0 Reg.GDC_STAT]
  | .pilotStateDecode .. => some [r0 Reg.INL_CPHIGH, r0 Reg.INL_CPPER, r0 Reg.INL_STAT]
  | .syncLost .. => some [r0 Reg.LVC_CNT_SYNCLOSS, r0 Reg.LVC_STAT, r0 Reg.LVC_SYNC]
  | .selfTestStart .. => some [r1 Reg.ADC_CNT_OVRUN, r0 Reg.MG_CTRL, r0 Reg.MG_STAT]
  | .transmitObjectDue .. | .transmitSend .. => some [r1 Reg.BUS_CNT_LATE, r1 Reg.BUS_CNT_PACKSAT, r2 Reg.TXO_STAT]
  | .protocolException .. => some [r1 Reg.BUS_CNT_PEX, r1 Reg.BUS_ERR, r1 Reg.BUS_STAT]
  | .reharnessDone .. => some [r1 Reg.HARN_CNT_REH, r1 Reg.HARN_MAXSTALL, r1 Reg.HARN_STAT]
  | .teamARelease .. => some [r1 Reg.HARN_CTRL, r1 Reg.HARN_STAT, r0 Reg.RST_BOOT]
  | .mgSelWrite .. | .slpReferenceSet .. => some [r1 Reg.MG_POS, r0 Reg.MG_SEL, r0 Reg.MG_STAT]
  | .lawFallbackWrite .. | .shiftRestEnd .. | .commutation .. | .parkPositionReached .. | .pumpAlignEnd .. => some [r1
    Reg.PWM_CMPA, r1 Reg.PWM_CMPB, r1 Reg.PWM_PER]
  | .staticCheckDone .. => some [r2 Reg.LAW_CTRL, r2 Reg.LAW_STAT, r1 Reg.PWM_STAT]
  | .shiftTestPulseEnd .. | .shiftRetryWaitEnd .. => some [r0 Reg.ACT_STAT, r1 Reg.PWM_CMPA, r1 Reg.PWM_CMPB, r1
    Reg.PWM_PER]
  | .forcedDischargeRequest .. => some [r0 Reg.DSC_CTRL, r0 Reg.DSC_STAT, r2 Reg.GCH_BIN, r1 Reg.GCH_STAT]
  | .linkLoss .. => some [r0 Reg.DSC_STAT, r1 Reg.GCH_STAT, r0 Reg.GDC_FLT_HI, r0 Reg.GDC_FLT_LO]
  | .pilotPeriodCapture .. => some [r0 Reg.INL_CNT_GLITCH, r0 Reg.INL_CPHIGH, r0 Reg.INL_CPPER, r0 Reg.INL_STAT]
  | .urgentRequestEffect .. => some [r1 Reg.ADC_CNT_ABORT, r1 Reg.ADC_CNT_COLL, r1 Reg.ADC_CNT_UREF, r1 Reg.ADC_STATUS]
  | .pwmGstart .. => some [r1 Reg.PWM_ACTA, r1 Reg.PWM_ACTB, r0 Reg.PWM_GSTART_HI, r1 Reg.PWM_STAT]
  | .pwmEnable .. | .dcxIbGood .. => some [r1 Reg.PWM_ACTA, r1 Reg.PWM_ACTB, r1 Reg.PWM_CTRL, r1 Reg.PWM_STAT]
  | .pwmCmpWrite .. => some [r1 Reg.PWM_CMPA, r1 Reg.PWM_CMPB, r1 Reg.PWM_CNT_WREF, r1 Reg.PWM_PER]
  | .pwmPerWrite .. => some [r1 Reg.PWM_CMPA, r1 Reg.PWM_CMPB, r1 Reg.PWM_PER, r1 Reg.PWM_STAT]
  | .pwmDisable .. => some [r1 Reg.PWM_CNTR, r1 Reg.PWM_CTRL, r1 Reg.PWM_STAT, r1 Reg.RES_STAT]
  | .speedValid .. => some [r2 Reg.GCH_BIN, r1 Reg.GCH_STAT, r1 Reg.MG_SPD, r1 Reg.PWM_SAFE]
  | .biasRecovery .. => some [r2 Reg.GCH_BIN, r1 Reg.GCH_STAT, r1 Reg.PWM_STAT, r0 Reg.TRP_LVL]
  | .longPressBswClose .. => some [causeCounters, r0 Reg.KPR_BSTAT, r0 Reg.KPR_CNT_LP, r0 Reg.RST_CAUSE, r0
    Reg.RST_CNT_POR]
  | .parkTimeout .. => some [r0 Reg.ACT_CNT_PKTO, r0 Reg.ACT_STAT, r1 Reg.PWM_CMPA, r1 Reg.PWM_CMPB, r1 Reg.PWM_PER]
  | .longPress .. => some [r0 Reg.KPR_CNT_LPIGN, r1 Reg.PWM_CNTR, r1 Reg.PWM_CTRL, r1 Reg.PWM_STAT, r1 Reg.RES_STAT]
  | .frameTxFailure .. => some [r1 Reg.BUS_CNT_ABANDON, r1 Reg.BUS_CNT_BOFF, r1 Reg.BUS_ERR, r1 Reg.BUS_STAT, r2
    Reg.TXO_STAT]
  | .drvEnFilteredLow .. => some [r1 Reg.GCH_GLOOP, r1 Reg.GCH_STAT, r1 Reg.GDC_PLEG, r0 Reg.GDC_PRB_RES, r0
    Reg.GDC_STAT]
  | .machineTimerInterrupt .. => some [r1 Reg.PWR_CNT_ABT, r0 Reg.PWR_EVT, r0 Reg.PWR_REFUSE_ID, r0 Reg.PWR_REQ, r0
    Reg.PWR_STAT]
  | .canLdu e l _ _ => some [r0 (Reg.CE_STATUS e), r0 (Reg.LAW_CNT_MISS e l), r0 (Reg.LAW_CNT_SAT e l), r0
    (Reg.LAW_RSTAT e l), r0 (Reg.LAW_STAT e l)]
  | .lawLateMiss .. => some [r1 Reg.CE_STATUS, r2 Reg.LAW_CNT_LATE, r2 Reg.LAW_CNT_MISS, r2 Reg.LAW_CNT_SAT, r2
    Reg.LAW_RSTAT, r2 Reg.LAW_STAT]
  | .softwareInterrupt .. => some [r1 Reg.IRQ_SWI, r1 Reg.PWR_CNT_ABT, r0 Reg.PWR_EVT, r0 Reg.PWR_REFUSE_ID, r0
    Reg.PWR_REQ, r0 Reg.PWR_STAT]
  | .modeLeavingDone .. => some [r1 Reg.PWM_CNTR, r1 Reg.PWM_CTRL, r1 Reg.PWM_STAT, r0 Reg.PWR_REQ, r0 Reg.PWR_STAT, r1
    Reg.RES_STAT]
  | .imageVerifyDone .. => some [r1 Reg.PWR_CNT_ABT, r0 Reg.PWR_EVT, r0 Reg.PWR_REFUSE_ID, r0 Reg.PWR_REQ, r0
    Reg.PWR_STAT, r0 Reg.SEC_VST]
  | .watchdogWarning .. => some [r1 Reg.PWR_CNT_ABT, r0 Reg.PWR_EVT, r0 Reg.PWR_REFUSE_ID, r0 Reg.PWR_REQ, r0
    Reg.PWR_STAT, r2 Reg.WDG_STAT]
  | .plateauExit .. => some [r2 Reg.GCH_BIN, r1 Reg.GCH_CNT_LFLT, r1 Reg.GCH_CNT_STEP, r1 Reg.GCH_MEAS, r1 Reg.GCH_STAT,
    r1 Reg.GCH_TOFF_MAX]
  | .gdcProbeStart .. => some [r2 Reg.GCH_BIN, r1 Reg.GCH_STAT, r1 Reg.GDC_PLEG, r0 Reg.GDC_PRB, r0 Reg.GDC_PRB_RES, r0
    Reg.GDC_STAT]
  | .wakePinRise .. | .plugDetection .. | .rtcAlarm .. | .btnPressWake .. => some [r0 Reg.KPR_BSTAT, r0 Reg.KPR_SHIP, r1
    Reg.PWR_CNT_ABT, r0 Reg.PWR_EVT, r0 Reg.PWR_REFUSE_ID, r0 Reg.PWR_REQ, r0 Reg.PWR_STAT]
  | .sessionIdleTimeout .. | .sessionOpenTimeout .. => some [r1 Reg.BRD_SEQ, r1 Reg.BRD_SESS, r1 Reg.PWR_CNT_ABT, r0
    Reg.PWR_EVT, r0 Reg.PWR_REFUSE_ID, r0 Reg.PWR_REQ, r0 Reg.PWR_STAT]
  | .busWake .. => some [r1 Reg.BUS_CTRL, r1 Reg.BUS_STAT, r1 Reg.PWR_CNT_ABT, r0 Reg.PWR_EVT, r0 Reg.PWR_REFUSE_ID, r0
    Reg.PWR_REQ, r0 Reg.PWR_STAT]
  | .slopeTimeout .. => some [r2 Reg.GCH_BIN, r1 Reg.GCH_CNT_LFLT, r1 Reg.GCH_CNT_NOPL, r1 Reg.GCH_CNT_STEP, r1
    Reg.GCH_MEAS, r1 Reg.GCH_STAT, r1 Reg.GCH_TOFF_MAX]
  | .canEnd e l => some [r0 (Reg.CE_STATUS e), r0 (Reg.LAW_CNT_HITA e l), r0 (Reg.LAW_CNT_HITB e l), r0 (Reg.LAW_CNT_RUN
    e l), r0 (Reg.LAW_CNT_SAT e l), r0 (Reg.LAW_RSTAT e l), r0 (Reg.LAW_STAT e l)]
  | .canSel e l => some [r0 (Reg.CE_STATUS e), r0 (Reg.LAW_CNT_LSMP e l), r0 (Reg.LAW_CNT_MISS e l), r0
    (Reg.LAW_CNT_NOFIT e l), r0 (Reg.LAW_CNT_SAT e l), r0 (Reg.LAW_RSTAT e l), r0 (Reg.LAW_STAT e l)]
  | .powerFailWarning .. => some [causeCounters, r1 Reg.PWR_CNT_ABT, r0 Reg.PWR_EVT, r0 Reg.PWR_REFUSE_ID, r0
    Reg.PWR_REQ, r0 Reg.PWR_STAT, r0 Reg.RST_CAUSE, r0 Reg.RST_CNT_POR]
  | .probeBridgeDone .. => some [r0 Reg.DSC_STAT, r2 Reg.GCH_BIN, r1 Reg.GCH_STAT, r0 Reg.GDC_FLT_HI, r0 Reg.GDC_FLT_LO,
    r1 Reg.GDC_PLEG, r0 Reg.GDC_PRB_RES, r0 Reg.GDC_STAT]
  | .bus0WakeFrame .. => some [r0 Reg.KPR_BSTAT, r0 Reg.KPR_BWSTAT, r0 Reg.KPR_SHIP, r1 Reg.PWR_CNT_ABT, r0 Reg.PWR_EVT,
    r0 Reg.PWR_REFUSE_ID, r0 Reg.PWR_REQ, r0 Reg.PWR_STAT]
  | .firmwareAnswerTimeout .. => some [r0 Reg.BRD_CNT_FWLATE, r1 Reg.BRD_SEQ, r1 Reg.BRD_SESS, r0 Reg.BRD_STAT, r1
    Reg.PWR_CNT_ABT, r0 Reg.PWR_EVT, r0 Reg.PWR_REFUSE_ID, r0 Reg.PWR_REQ, r0 Reg.PWR_STAT]
  | .firmwareAnswer .. => some [r0 Reg.BRD_CNT_LATE, r1 Reg.BRD_SEQ, r1 Reg.BRD_SESS, r0 Reg.BRD_STAT, r1
    Reg.PWR_CNT_ABT, r0 Reg.PWR_EVT, r0 Reg.PWR_REFUSE_ID, r0 Reg.PWR_REQ, r0 Reg.PWR_STAT]
  | .bridleDisable .. => some [r0 Reg.BRD_CTRL, r1 Reg.BRD_SEQ, r1 Reg.BRD_SESS, r0 Reg.BRD_STAT, r1 Reg.PWR_CNT_ABT, r0
    Reg.PWR_EVT, r0 Reg.PWR_REFUSE_ID, r0 Reg.PWR_REQ, r0 Reg.PWR_STAT]
  | .lawDisable .. | .driveSafeEntry .. | .driveOverspeed .. => some [r1 Reg.CE_STATUS, r2 Reg.LAW_CNT_HITA, r2
    Reg.LAW_CNT_HITB, r2 Reg.LAW_CNT_RUN, r2 Reg.LAW_CNT_SAT, r2 Reg.LAW_CTRL, r2 Reg.LAW_RSTAT, r2 Reg.LAW_STAT, r1
    Reg.PWM_STAT]
  | .adcSlotStart .. => some [r1 Reg.ADC_CNT_COLL, r1 Reg.ADC_CNT_OVRUN, r1 Reg.ADC_STATUS, r1 Reg.CE_STATUS, r2
    Reg.LAW_CNT_MISS, r2 Reg.LAW_CNT_SAT, r2 Reg.LAW_CNT_STRAY, r2 Reg.LAW_CNT_VOID, r2 Reg.LAW_RSTAT, r2
    Reg.LAW_STAT]
  | .triggerTimerFire .. => some [r1 Reg.ADC_CNT_OVRUN, r1 Reg.CE_CNT_FRAME, r1 Reg.CE_FCNT, r1 Reg.CE_STATUS, r2
    Reg.LAW_CNT_MISS, r2 Reg.LAW_CNT_SAT, r2 Reg.LAW_CNT_STRAY, r2 Reg.LAW_CNT_VOID, r2 Reg.LAW_RSTAT, r2
    Reg.LAW_STAT]
  | .domainTransitionDone .. => some [r1 Reg.ADC_CSL, r1 Reg.ADC_STATUS, r2 Reg.ADC_TRG, r2 Reg.GCH_BIN, r1
    Reg.GCH_STAT, r0 Reg.PWR_REQ, r0 Reg.PWR_STAT, r0 Reg.RST_BOOT, r1 Reg.TT_CTL, r1 Reg.TT_PER]
  | .powerRequest .. => some [r1 Reg.BRD_SEQ, r1 Reg.BRD_SESS, r0 Reg.KPR_WOUT, r1 Reg.PWR_CNT_ABT, r1 Reg.PWR_CNT_REF,
    r0 Reg.PWR_EVT, r0 Reg.PWR_MMREQ, r0 Reg.PWR_REFUSE_ID, r0 Reg.PWR_REQ, r0 Reg.PWR_STAT]
  | .ceEccDoubleError .. => some [r1 Reg.CE_CNT_ECC, r1 Reg.CE_STATUS, r2 Reg.LAW_CNT_HITA, r2 Reg.LAW_CNT_HITB, r2
    Reg.LAW_CNT_RUN, r2 Reg.LAW_CNT_SAT, r2 Reg.LAW_CTRL, r2 Reg.LAW_RSTAT, r2 Reg.LAW_STAT, r1 Reg.PWM_STAT]
  | .ceDisable .. => some [r1 Reg.CE_CTRL, r1 Reg.CE_STATUS, r2 Reg.LAW_CNT_HITA, r2 Reg.LAW_CNT_HITB, r2
    Reg.LAW_CNT_RUN, r2 Reg.LAW_CNT_SAT, r2 Reg.LAW_CTRL, r2 Reg.LAW_RSTAT, r2 Reg.LAW_STAT, r1 Reg.PWM_STAT]
  | .troikaMismatch .. | .noMajorityMismatch .. => some [r1 Reg.HARN_CNT_MIS, r1 Reg.HARN_CTRL, r1 Reg.HARN_MIS, r1
    Reg.HARN_MIST, r1 Reg.HARN_STAT, r1 Reg.PWR_CNT_ABT, r0 Reg.PWR_EVT, r0 Reg.PWR_REFUSE_ID, r0 Reg.PWR_REQ, r0
    Reg.PWR_STAT]
  | .generatorCentre .. => some [r0 Reg.ACT_FLOAT, r1 Reg.ADC_CNT_OVRUN, r1 Reg.CE_CNT_FRAME, r1 Reg.CE_FCNT, r1
    Reg.CE_STATUS, r2 Reg.LAW_RSTAT, r0 Reg.PRC_SEQ, r0 Reg.PRC_STATUS, r0 Reg.PRC_WRPTR, r1 Reg.PWM_ACTA, r1
    Reg.PWM_ACTB]
  | .stage1Entry .. => some [r1 Reg.ADC_CSL, r1 Reg.ADC_STATUS, r2 Reg.ADC_TRG, r1 Reg.HARN_STAT, r0 Reg.PWR_REQ, r0
    Reg.PWR_STAT, r0 Reg.RST_BOOT, r0 Reg.SEC_BOOTST, r2 Reg.SEC_MEAS, r1 Reg.TT_CTL, r1 Reg.TT_PER]
  | .wfi .. => some [r1 Reg.BRD_SEQ, r1 Reg.BRD_SESS, r1 Reg.HARN_STAT, r0 Reg.KPR_WOUT, r1 Reg.PWR_CNT_ABT, r1
    Reg.PWR_CNT_REF, r0 Reg.PWR_EVT, r0 Reg.PWR_MMREQ, r0 Reg.PWR_REFUSE_ID, r0 Reg.PWR_REQ, r0 Reg.PWR_STAT]
  | .zoneEvaluation .. => some [r1 Reg.PWR_CNT_ABT, r0 Reg.PWR_EVT, r0 Reg.PWR_REFUSE_ID, r0 Reg.PWR_REQ, r0
    Reg.PWR_STAT, r0 Reg.TH_CNT_RECDROP, r0 Reg.TH_CNT_REENREF, r0 Reg.TH_CNT_SD, r0 Reg.TH_STAT, r1 Reg.TH_ZDER, r1
    Reg.TH_ZSTAT]
  | .speedInvalid .. => some [r2 Reg.GCH_BIN, r1 Reg.GCH_STAT, r1 Reg.MG_CNT_SS1, r1 Reg.MG_DSTAT, r1 Reg.MG_SPD, r1
    Reg.PWM_SAFE, r1 Reg.PWR_CNT_ABT, r0 Reg.PWR_EVT, r0 Reg.PWR_REFUSE_ID, r0 Reg.PWR_REQ, r0 Reg.PWR_STAT]
  | .driveStartTimeout .. | .driveStopped .. | .supplyFault .. | .supplyCableRemoved .. | .solarStop .. |
    .solarScanStart .. | .reverseTransferStop .. | .lvFeedLost .. | .lvSupervisorFire .. | .lvStop .. => some [r1
    Reg.CE_STATUS, r2 Reg.LAW_CNT_HITA, r2 Reg.LAW_CNT_HITB, r2 Reg.LAW_CNT_RUN, r2 Reg.LAW_CNT_SAT, r2 Reg.LAW_CTRL,
    r2 Reg.LAW_RSTAT, r2 Reg.LAW_STAT, r1 Reg.PWM_CNTR, r1 Reg.PWM_CTRL, r1 Reg.PWM_STAT, r1 Reg.RES_STAT]
  | .lawOutputWrite .. => some [r1 Reg.CE_STATUS, r2 Reg.LAW_CNT_HITA, r2 Reg.LAW_CNT_LSMP, r2 Reg.LAW_CNT_MISS, r2
    Reg.LAW_CNT_NOFIT, r2 Reg.LAW_CNT_RUN, r2 Reg.LAW_CNT_SAT, r2 Reg.LAW_RSTAT, r2 Reg.LAW_STAT, r1 Reg.PWM_CMPA, r1
    Reg.PWM_CMPB, r1 Reg.PWM_PER]
  | .mgClr .. => some [r2 Reg.GCH_BIN, r1 Reg.GCH_STAT, r0 Reg.MG_CNT_REPREF, r1 Reg.MG_DSTAT, r0 Reg.MG_GTRIP, r0
    Reg.MG_GTRIP_HI, r0 Reg.MG_SOSTAT, r0 Reg.MG_STAT, r0 Reg.MG_TL6, r0 Reg.MG_TL6_HI, r1 Reg.PWM_STAT, r0
    Reg.TRP_LVL]
  | .shiftStall .. | .shiftSensorFault .. | .parkDiscrepancy .. | .clutchOpenDetect .. | .pumpRampEnd .. |
    .pumpSpeedFault .. => some [r0 Reg.ACT_STAT, r1 Reg.CE_STATUS, r2 Reg.LAW_CNT_HITA, r2 Reg.LAW_CNT_HITB, r2
    Reg.LAW_CNT_RUN, r2 Reg.LAW_CNT_SAT, r2 Reg.LAW_CTRL, r2 Reg.LAW_RSTAT, r2 Reg.LAW_STAT, r1 Reg.PWM_CNTR, r1
    Reg.PWM_CTRL, r1 Reg.PWM_STAT, r1 Reg.RES_STAT]
  | .rejoinDone .. => some [r1 Reg.BRD_SEQ, r1 Reg.BRD_SESS, r1 Reg.HARN_CNT_RESYNC, r1 Reg.HARN_MAXSTALL, r1
    Reg.HARN_STAT, r0 Reg.KPR_WOUT, r1 Reg.PWR_CNT_ABT, r1 Reg.PWR_CNT_REF, r0 Reg.PWR_EVT, r0 Reg.PWR_MMREQ, r0
    Reg.PWR_REFUSE_ID, r0 Reg.PWR_REQ, r0 Reg.PWR_STAT]
  | .lvSoftstartFail .. => some [r1 Reg.CE_STATUS, r2 Reg.LAW_CNT_HITA, r2 Reg.LAW_CNT_HITB, r2 Reg.LAW_CNT_RUN, r2
    Reg.LAW_CNT_SAT, r2 Reg.LAW_CTRL, r2 Reg.LAW_RSTAT, r2 Reg.LAW_STAT, r0 Reg.LVC_CNT_RETRY, r1 Reg.PWM_CNTR, r1
    Reg.PWM_CTRL, r1 Reg.PWM_STAT, r1 Reg.RES_STAT]
  | .dcxStartTimeout .. => some [r1 Reg.CE_STATUS, r2 Reg.LAW_CNT_HITA, r2 Reg.LAW_CNT_HITB, r2 Reg.LAW_CNT_RUN, r2
    Reg.LAW_CNT_SAT, r2 Reg.LAW_CTRL, r2 Reg.LAW_RSTAT, r2 Reg.LAW_STAT, r0 Reg.LVC_STAT, r1 Reg.PWM_CNTR, r1
    Reg.PWM_CTRL, r1 Reg.PWM_STAT, r1 Reg.RES_STAT]
  | .handoverTimeout .. | .chargeQualifyTimeout .. | .chargeSourceHold .. | .chargeSourceHoldEnd .. => some [r1
    Reg.CE_STATUS, r0 Reg.CHS_CTRL, r0 Reg.CHS_VMAX, r2 Reg.LAW_CNT_HITA, r2 Reg.LAW_CNT_HITB, r2 Reg.LAW_CNT_RUN, r2
    Reg.LAW_CNT_SAT, r2 Reg.LAW_CTRL, r2 Reg.LAW_RSTAT, r2 Reg.LAW_STAT, r1 Reg.PWM_CNTR, r1 Reg.PWM_CTRL, r1
    Reg.PWM_STAT, r1 Reg.RES_STAT]
  | .inletSourceLoss .. | .inletCableRemoved .. | .inletModeLeft .. => some [r1 Reg.CE_STATUS, r0 Reg.INL_CTRL, r0
    Reg.INL_STAT, r2 Reg.LAW_CNT_HITA, r2 Reg.LAW_CNT_HITB, r2 Reg.LAW_CNT_RUN, r2 Reg.LAW_CNT_SAT, r2 Reg.LAW_CTRL,
    r2 Reg.LAW_RSTAT, r2 Reg.LAW_STAT, r1 Reg.PWM_CNTR, r1 Reg.PWM_CTRL, r1 Reg.PWM_STAT, r1 Reg.RES_STAT]
  | .shiftInBand .. => some [r1 Reg.CE_STATUS, r2 Reg.LAW_CNT_HITA, r2 Reg.LAW_CNT_HITB, r2 Reg.LAW_CNT_RUN, r2
    Reg.LAW_CNT_SAT, r2 Reg.LAW_CTRL, r2 Reg.LAW_RSTAT, r2 Reg.LAW_STAT, r1 Reg.PWM_CMPA, r1 Reg.PWM_CMPB, r1
    Reg.PWM_CNTR, r1 Reg.PWM_CTRL, r1 Reg.PWM_PER, r1 Reg.PWM_STAT, r1 Reg.RES_STAT]
  | .lvOvercurrent .. => some [r0 Reg.ACT_STAT, r1 Reg.CE_STATUS, r0 Reg.GDC_LFLT, r2 Reg.LAW_CNT_HITA, r2
    Reg.LAW_CNT_HITB, r2 Reg.LAW_CNT_RUN, r2 Reg.LAW_CNT_SAT, r2 Reg.LAW_CTRL, r2 Reg.LAW_RSTAT, r2 Reg.LAW_STAT, r1
    Reg.LCH_CNT_OVC, r1 Reg.LCH_STAT, r1 Reg.PWM_CNTR, r1 Reg.PWM_CTRL, r1 Reg.PWM_STAT, r1 Reg.RES_STAT]
  | .shiftDecayFail .. | .shiftSectorDecision .. | .forcedCommutation .. => some [r0 Reg.ACT_CNT_SHFAIL, r0
    Reg.ACT_STAT, r1 Reg.CE_STATUS, r2 Reg.LAW_CNT_HITA, r2 Reg.LAW_CNT_HITB, r2 Reg.LAW_CNT_RUN, r2 Reg.LAW_CNT_SAT,
    r2 Reg.LAW_CTRL, r2 Reg.LAW_RSTAT, r2 Reg.LAW_STAT, r1 Reg.PWM_CMPA, r1 Reg.PWM_CMPB, r1 Reg.PWM_CNTR, r1
    Reg.PWM_CTRL, r1 Reg.PWM_PER, r1 Reg.PWM_STAT, r1 Reg.RES_STAT]
  | .generatorPeriodStart .. | .compareAMatch .. | .cotStartEvent .. | .cotMinOffEnd .. | .offTimeComparator .. |
    .valleyLimitRelease .. => some [r0 Reg.ACT_FLOAT, r1 Reg.ADC_CNT_OVRUN, r1 Reg.CE_CNT_FRAME, r1 Reg.CE_FCNT, r1
    Reg.CE_STATUS, r1 Reg.GCH_STAT, r2 Reg.LAW_RSTAT, r0 Reg.PRC_SEQ, r0 Reg.PRC_STATUS, r0 Reg.PRC_WRPTR, r1
    Reg.PWM_ACTA, r1 Reg.PWM_ACTB, r1 Reg.PWM_CNT_DROP, r1 Reg.PWM_CNT_STRETCH, r1 Reg.PWM_CNT_SYNC, r1 Reg.PWM_STAT,
    r1 Reg.RES_STAT]
  | .tripInFilterExpiry .. | .hardOvervoltage .. => some [r1 Reg.CE_STATUS, r0 Reg.DSC_STAT, r2 Reg.LAW_RSTAT, r2
    Reg.LAW_STAT, r1 Reg.PWM_CMPA, r1 Reg.PWM_CMPB, r1 Reg.PWM_CNT_TRIP, r1 Reg.PWM_STAT, r1 Reg.PWR_CNT_ABT, r0
    Reg.PWR_EVT, r0 Reg.PWR_REFUSE_ID, r0 Reg.PWR_REQ, r0 Reg.PWR_STAT, r1 Reg.TRP_CNT, r0 Reg.TRP_LATCH, r0
    Reg.TRP_LVL, r1 Reg.TRP_TIME]
  | .cotForcedStart .. => some [r0 Reg.ACT_FLOAT, r1 Reg.ADC_CNT_OVRUN, r1 Reg.CE_CNT_FRAME, r1 Reg.CE_FCNT, r1
    Reg.CE_STATUS, r1 Reg.GCH_STAT, r2 Reg.LAW_RSTAT, r0 Reg.PRC_SEQ, r0 Reg.PRC_STATUS, r0 Reg.PRC_WRPTR, r1
    Reg.PWM_ACTA, r1 Reg.PWM_ACTB, r1 Reg.PWM_CNT_DROP, r1 Reg.PWM_CNT_FORCE, r1 Reg.PWM_CNT_STRETCH, r1
    Reg.PWM_CNT_SYNC, r1 Reg.PWM_STAT, r1 Reg.RES_STAT]
  | .biasUndervoltage .. => some [r1 Reg.CE_STATUS, r0 Reg.DSC_STAT, r1 Reg.GCH_STAT, r2 Reg.LAW_RSTAT, r2 Reg.LAW_STAT,
    r1 Reg.PWM_CMPA, r1 Reg.PWM_CMPB, r1 Reg.PWM_CNT_TRIP, r1 Reg.PWM_STAT, r1 Reg.PWR_CNT_ABT, r0 Reg.PWR_EVT, r0
    Reg.PWR_REFUSE_ID, r0 Reg.PWR_REQ, r0 Reg.PWR_STAT, r1 Reg.TRP_CNT, r0 Reg.TRP_LATCH, r0 Reg.TRP_LVL, r1
    Reg.TRP_TIME]
  | .lvOvervoltage .. => some [r1 Reg.CE_STATUS, r0 Reg.DSC_STAT, r2 Reg.LAW_RSTAT, r2 Reg.LAW_STAT, r0 Reg.LVC_CNT_OV,
    r0 Reg.LVC_STAT, r1 Reg.PWM_CMPA, r1 Reg.PWM_CMPB, r1 Reg.PWM_CNT_TRIP, r1 Reg.PWM_STAT, r1 Reg.PWR_CNT_ABT, r0
    Reg.PWR_EVT, r0 Reg.PWR_REFUSE_ID, r0 Reg.PWR_REQ, r0 Reg.PWR_STAT, r1 Reg.TRP_CNT, r0 Reg.TRP_LATCH, r0
    Reg.TRP_LVL, r1 Reg.TRP_TIME]
  | .senseCellDetection .. => some [r1 Reg.CE_STATUS, r0 Reg.DSC_STAT, r1 Reg.GCH_CNT_SC, r1 Reg.GCH_STAT, r0
    Reg.GDC_FLT_HI, r0 Reg.GDC_FLT_LO, r2 Reg.LAW_RSTAT, r2 Reg.LAW_STAT, r1 Reg.PWM_CMPA, r1 Reg.PWM_CMPB, r1
    Reg.PWM_CNT_TRIP, r1 Reg.PWM_STAT, r1 Reg.PWR_CNT_ABT, r0 Reg.PWR_EVT, r0 Reg.PWR_REFUSE_ID, r0 Reg.PWR_REQ, r0
    Reg.PWR_STAT, r1 Reg.TRP_CNT, r0 Reg.TRP_LATCH, r0 Reg.TRP_LVL, r1 Reg.TRP_TIME]
  | .pumpRetryWaitEnd .. => some [r0 Reg.ACT_CNT_PMPRETRY, r2 Reg.ADC_ECFG, r2 Reg.ADC_EDST, r2 Reg.ADC_TDLY, r2
    Reg.ADC_TRG, r1 Reg.CE_CTRL, r1 Reg.CE_FCNT, r3 Reg.LAW_CAP, r2 Reg.LAW_CTRL, r2 Reg.LAW_LAH, r3 Reg.LAW_OMAP, r3
    Reg.LAW_PRD, r2 Reg.LAW_TIME, r1 Reg.PWM_ACTA, r1 Reg.PWM_ACTB, r1 Reg.PWM_CMPA, r1 Reg.PWM_CMPB, r1 Reg.PWM_CTRL,
    r0 Reg.PWM_GSTART_HI, r1 Reg.PWM_PER, r1 Reg.PWM_STAT, r1 Reg.TT_CTL, r1 Reg.TT_PER]
  | .startSequenceProbe .. => some [r1 Reg.CE_STATUS, r2 Reg.GCH_BIN, r1 Reg.GCH_STAT, r0 Reg.GDC_CNT_CLEAR, r0
    Reg.GDC_FLT_HI, r0 Reg.GDC_FLT_LO, r0 Reg.GDC_LFLT, r1 Reg.GDC_PLEG, r0 Reg.GDC_PRB_RES, r0 Reg.GDC_STAT, r2
    Reg.LAW_CNT_HITA, r2 Reg.LAW_CNT_HITB, r2 Reg.LAW_CNT_RUN, r2 Reg.LAW_CNT_SAT, r2 Reg.LAW_CTRL, r2 Reg.LAW_RSTAT,
    r2 Reg.LAW_STAT, r1 Reg.LCH_STAT, r1 Reg.PWM_CNTR, r1 Reg.PWM_CTRL, r1 Reg.PWM_STAT, r1 Reg.RES_STAT, r0
    Reg.TRP_LVL]
  | .lvCheckDone .. => some [r1 Reg.CE_CTRL, r1 Reg.CE_FCNT, r1 Reg.CE_STATUS, r3 Reg.LAW_CAP, r2 Reg.LAW_CNT_HITA, r2
    Reg.LAW_CNT_HITB, r2 Reg.LAW_CNT_RUN, r2 Reg.LAW_CNT_SAT, r2 Reg.LAW_CTRL, r2 Reg.LAW_LAH, r3 Reg.LAW_OMAP, r3
    Reg.LAW_PRD, r2 Reg.LAW_RSTAT, r2 Reg.LAW_STAT, r2 Reg.LAW_TIME, r0 Reg.LVC_STAT, r1 Reg.PWM_ACTA, r1
    Reg.PWM_ACTB, r1 Reg.PWM_CNTR, r1 Reg.PWM_CTRL, r0 Reg.PWM_GSTART_HI, r1 Reg.PWM_STAT, r1 Reg.RES_STAT, r1
    Reg.TT_CTL, r1 Reg.TT_PER]
  | .driveStart .. => some [r2 Reg.ADC_ECFG, r2 Reg.ADC_EDST, r2 Reg.ADC_TRG, r1 Reg.CE_CTRL, r1 Reg.CE_FCNT, r1
    Reg.CE_STATUS, r3 Reg.LAW_CAP, r2 Reg.LAW_CNT_HITA, r2 Reg.LAW_CNT_HITB, r2 Reg.LAW_CNT_RUN, r2 Reg.LAW_CNT_SAT,
    r2 Reg.LAW_CTRL, r2 Reg.LAW_LAH, r3 Reg.LAW_OMAP, r3 Reg.LAW_PRD, r2 Reg.LAW_RSTAT, r2 Reg.LAW_STAT, r2
    Reg.LAW_TIME, r1 Reg.PWM_ACTA, r1 Reg.PWM_ACTB, r1 Reg.PWM_CTRL, r0 Reg.PWM_GSTART_HI, r1 Reg.PWM_STAT, r1
    Reg.TT_CTL, r1 Reg.TT_PER]
  | .ping .. | .setMode .. | .capRead .. | .sigRead .. | .sigWrite .. | .sigSubscribe .. | .sigUnsubscribe .. |
    .setTorque .. | .setSpeed .. | .setCtrlMode .. | .setDirection .. | .setTorqueLimits .. | .setNetVoltage .. |
    .setLvRun .. | .lvClear .. | .sessionOpen .. | .sessionProof .. | .sessionClose .. => some [r0 Reg.BRD_CNT_AUTH,
    r0 Reg.BRD_CNT_BUSY, r0 Reg.BRD_CNT_DUP, r0 Reg.BRD_CNT_LATE, r0 Reg.BRD_CNT_MAC, r0 Reg.BRD_CNT_MALF, r0
    Reg.BRD_CNT_NOSESS, r0 Reg.BRD_CNT_REPLAY, r1 Reg.BRD_LOCK, r1 Reg.BRD_SEQ, r1 Reg.BRD_SESS, r2 Reg.BRD_SLOT, r0
    Reg.BRD_STAT, r1 Reg.BUS_CNT_LOST, r1 Reg.BUS_CNT_NOMATCH, r1 Reg.BUS_CNT_RX, r1 Reg.BUS_CNT_SHORT, r1
    Reg.BUS_CNT_TOOLONG, r1 Reg.BUS_ERR, r1 Reg.BUS_STAT, r1 Reg.PWR_CNT_ABT, r0 Reg.PWR_EVT, r0 Reg.PWR_REFUSE_ID, r0
    Reg.PWR_REQ, r0 Reg.PWR_STAT, r2 Reg.RXO_STAT]
  | .inletPhasesValid .. | .chargeQualified .. | .supplyEnergize .. | .solarOpenCircuitMeasure .. => some [r1
    Reg.CE_CTRL, r1 Reg.CE_FCNT, r1 Reg.CE_STATUS, r0 Reg.CHS_CTRL, r0 Reg.CHS_VMAX, r3 Reg.LAW_CAP, r2
    Reg.LAW_CNT_HITA, r2 Reg.LAW_CNT_HITB, r2 Reg.LAW_CNT_RUN, r2 Reg.LAW_CNT_SAT, r2 Reg.LAW_CTRL, r2 Reg.LAW_LAH, r3
    Reg.LAW_OMAP, r3 Reg.LAW_PRD, r2 Reg.LAW_RSTAT, r2 Reg.LAW_STAT, r2 Reg.LAW_TIME, r1 Reg.PWM_ACTA, r1
    Reg.PWM_ACTB, r1 Reg.PWM_CNTR, r1 Reg.PWM_CTRL, r0 Reg.PWM_GSTART_HI, r1 Reg.PWM_STAT, r1 Reg.RES_STAT, r1
    Reg.TT_CTL, r1 Reg.TT_PER]
  | .frameReceived .. => some [r0 Reg.BRD_CNT_AUTH, r0 Reg.BRD_CNT_BUSY, r0 Reg.BRD_CNT_DUP, r0 Reg.BRD_CNT_LATE, r0
    Reg.BRD_CNT_MAC, r0 Reg.BRD_CNT_MALF, r0 Reg.BRD_CNT_NOSESS, r0 Reg.BRD_CNT_REPLAY, r1 Reg.BRD_LOCK, r1
    Reg.BRD_SEQ, r1 Reg.BRD_SESS, r2 Reg.BRD_SLOT, r0 Reg.BRD_STAT, r1 Reg.BUS_CNT_LOST, r1 Reg.BUS_CNT_NOMATCH, r1
    Reg.BUS_CNT_PEX, r1 Reg.BUS_CNT_RX, r1 Reg.BUS_CNT_SHORT, r1 Reg.BUS_CNT_TOOLONG, r1 Reg.BUS_ERR, r1 Reg.BUS_STAT,
    r1 Reg.PWR_CNT_ABT, r0 Reg.PWR_EVT, r0 Reg.PWR_REFUSE_ID, r0 Reg.PWR_REQ, r0 Reg.PWR_STAT, r2 Reg.RXO_STAT]
  | .frameTransmitted .. => some [r0 Reg.BRD_CNT_AUTH, r0 Reg.BRD_CNT_BUSY, r0 Reg.BRD_CNT_DUP, r0 Reg.BRD_CNT_LATE, r0
    Reg.BRD_CNT_MAC, r0 Reg.BRD_CNT_MALF, r0 Reg.BRD_CNT_NOSESS, r0 Reg.BRD_CNT_REPLAY, r1 Reg.BRD_LOCK, r1
    Reg.BRD_SEQ, r1 Reg.BRD_SESS, r2 Reg.BRD_SLOT, r0 Reg.BRD_STAT, r1 Reg.BUS_CNT_LOST, r1 Reg.BUS_CNT_NOMATCH, r1
    Reg.BUS_CNT_RX, r1 Reg.BUS_CNT_SHORT, r1 Reg.BUS_CNT_TOOLONG, r1 Reg.BUS_ERR, r1 Reg.BUS_STAT, r1 Reg.PWR_CNT_ABT,
    r0 Reg.PWR_EVT, r0 Reg.PWR_REFUSE_ID, r0 Reg.PWR_REQ, r0 Reg.PWR_STAT, r2 Reg.RXO_STAT, r2 Reg.TXO_STAT]
  | .ss1RampEnd .. => some [r1 Reg.CE_STATUS, r0 Reg.DSC_STAT, r2 Reg.GCH_BIN, r1 Reg.GCH_STAT, r2 Reg.LAW_RSTAT, r2
    Reg.LAW_STAT, r1 Reg.MG_CNT_STO, r1 Reg.MG_DSTAT, r0 Reg.MG_SOSTAT, r0 Reg.MG_TL6, r0 Reg.MG_TL6_HI, r1
    Reg.PWM_CMPA, r1 Reg.PWM_CMPB, r1 Reg.PWM_CNTR, r1 Reg.PWM_CNT_TRIP, r1 Reg.PWM_CTRL, r1 Reg.PWM_STAT, r1
    Reg.PWR_CNT_ABT, r0 Reg.PWR_EVT, r0 Reg.PWR_REFUSE_ID, r0 Reg.PWR_REQ, r0 Reg.PWR_STAT, r1 Reg.RES_STAT, r1
    Reg.TRP_CNT, r0 Reg.TRP_LATCH, r0 Reg.TRP_LVL, r1 Reg.TRP_TIME]
  | .reverseTransferStart .. | .lvSequencerStart .. => some [r1 Reg.CE_CTRL, r1 Reg.CE_FCNT, r1 Reg.CE_STATUS, r3
    Reg.LAW_CAP, r2 Reg.LAW_CNT_HITA, r2 Reg.LAW_CNT_HITB, r2 Reg.LAW_CNT_RUN, r2 Reg.LAW_CNT_SAT, r2 Reg.LAW_CTRL, r2
    Reg.LAW_LAH, r3 Reg.LAW_OMAP, r3 Reg.LAW_PRD, r2 Reg.LAW_RSTAT, r2 Reg.LAW_STAT, r2 Reg.LAW_TIME, r1 Reg.PWM_ACTA,
    r1 Reg.PWM_ACTB, r1 Reg.PWM_CMPA, r1 Reg.PWM_CMPB, r1 Reg.PWM_CNTR, r1 Reg.PWM_CTRL, r0 Reg.PWM_GSTART_HI, r1
    Reg.PWM_PER, r1 Reg.PWM_PHS, r1 Reg.PWM_STAT, r1 Reg.PWM_SYNC, r1 Reg.RES_STAT, r1 Reg.TT_CTL, r1 Reg.TT_PER]
  | .dclMeasSample .. => some [r0 Reg.BRD_CNT_PREEMPT, r0 Reg.BRD_STAT, r1 Reg.CE_STATUS, r0 Reg.CHL_MEAS, r0
    Reg.CHS_CNT, r0 Reg.CHS_STAT, r0 Reg.DCL_MEAS, r0 Reg.DSC_STAT, r2 Reg.LAW_RSTAT, r2 Reg.LAW_STAT, r0
    Reg.MG_GTRIP, r0 Reg.MG_GTRIP_HI, r0 Reg.MG_TL6, r0 Reg.MG_TL6_HI, r1 Reg.PWM_CMPA, r1 Reg.PWM_CMPB, r1
    Reg.PWM_CNTR, r1 Reg.PWM_CNT_TRIP, r1 Reg.PWM_CTRL, r1 Reg.PWM_STAT, r1 Reg.PWR_CNT_ABT, r0 Reg.PWR_EVT, r0
    Reg.PWR_REFUSE_ID, r0 Reg.PWR_REQ, r0 Reg.PWR_STAT, r1 Reg.RES_STAT, r1 Reg.TRP_CNT, r0 Reg.TRP_LATCH, r0
    Reg.TRP_LVL, r1 Reg.TRP_TIME]
  | .stationStateReaction .. => some [r1 Reg.CE_CTRL, r1 Reg.CE_FCNT, r1 Reg.CE_STATUS, r0 Reg.CHS_CTRL, r0
    Reg.CHS_VMAX, r3 Reg.LAW_CAP, r2 Reg.LAW_CNT_HITA, r2 Reg.LAW_CNT_HITB, r2 Reg.LAW_CNT_RUN, r2 Reg.LAW_CNT_SAT, r2
    Reg.LAW_CTRL, r2 Reg.LAW_LAH, r3 Reg.LAW_OMAP, r3 Reg.LAW_PRD, r2 Reg.LAW_RSTAT, r2 Reg.LAW_STAT, r2 Reg.LAW_TIME,
    r1 Reg.PWM_ACTA, r1 Reg.PWM_ACTB, r1 Reg.PWM_CMPA, r1 Reg.PWM_CMPB, r1 Reg.PWM_CNTR, r1 Reg.PWM_CNT_WREF, r1
    Reg.PWM_CTRL, r0 Reg.PWM_GSTART_HI, r1 Reg.PWM_PER, r1 Reg.PWM_STAT, r1 Reg.RES_STAT, r1 Reg.TT_CTL, r1
    Reg.TT_PER]
  | .driveStopTimeout .. | .batterySideLost .. | .mgGtrip .. => some [r0 Reg.BRD_CNT_PREEMPT, r0 Reg.BRD_STAT, r1
    Reg.CE_STATUS, r0 Reg.DSC_STAT, r2 Reg.LAW_CNT_HITA, r2 Reg.LAW_CNT_HITB, r2 Reg.LAW_CNT_RUN, r2 Reg.LAW_CNT_SAT,
    r2 Reg.LAW_CTRL, r2 Reg.LAW_RSTAT, r2 Reg.LAW_STAT, r0 Reg.MG_GTRIP, r0 Reg.MG_GTRIP_HI, r0 Reg.MG_TL6, r0
    Reg.MG_TL6_HI, r1 Reg.PWM_CMPA, r1 Reg.PWM_CMPB, r1 Reg.PWM_CNTR, r1 Reg.PWM_CNT_TRIP, r1 Reg.PWM_CTRL, r1
    Reg.PWM_STAT, r1 Reg.PWR_CNT_ABT, r0 Reg.PWR_EVT, r0 Reg.PWR_REFUSE_ID, r0 Reg.PWR_REQ, r0 Reg.PWR_STAT, r1
    Reg.RES_STAT, r1 Reg.TRP_CNT, r0 Reg.TRP_LATCH, r0 Reg.TRP_LVL, r1 Reg.TRP_TIME]
  | .safetyInputSample .. | .contactFilterExpiry .. | .inputDiscrepancyTimeout .. => some [r1 Reg.CE_STATUS, r0
    Reg.DSC_STAT, r2 Reg.GCH_BIN, r1 Reg.GCH_STAT, r2 Reg.LAW_RSTAT, r2 Reg.LAW_STAT, r0 Reg.MG_CNT_SI, r1
    Reg.MG_CNT_SS1, r1 Reg.MG_CNT_STO, r1 Reg.MG_DSTAT, r0 Reg.MG_SIFLT, r0 Reg.MG_SISTAT, r0 Reg.MG_SOSTAT, r0
    Reg.MG_TL6, r0 Reg.MG_TL6_HI, r1 Reg.PWM_CMPA, r1 Reg.PWM_CMPB, r1 Reg.PWM_CNTR, r1 Reg.PWM_CNT_TRIP, r1
    Reg.PWM_CTRL, r1 Reg.PWM_STAT, r1 Reg.PWR_CNT_ABT, r0 Reg.PWR_EVT, r0 Reg.PWR_REFUSE_ID, r0 Reg.PWR_REQ, r0
    Reg.PWR_STAT, r1 Reg.RES_STAT, r1 Reg.TRP_CNT, r0 Reg.TRP_LATCH, r0 Reg.TRP_LVL, r1 Reg.TRP_TIME]
  | .martingaleTick .. => some [r1 Reg.CE_STATUS, r0 Reg.DSC_STAT, r2 Reg.GCH_BIN, r1 Reg.GCH_STAT, r2 Reg.LAW_RSTAT, r2
    Reg.LAW_STAT, r1 Reg.MG_CNT_SS1, r1 Reg.MG_CNT_STO, r1 Reg.MG_DSTAT, r1 Reg.MG_POS, r0 Reg.MG_SOSTAT, r1
    Reg.MG_SPD, r0 Reg.MG_TL6, r0 Reg.MG_TL6_HI, r1 Reg.PWM_CMPA, r1 Reg.PWM_CMPB, r1 Reg.PWM_CNTR, r1
    Reg.PWM_CNT_TRIP, r1 Reg.PWM_CTRL, r1 Reg.PWM_SAFE, r1 Reg.PWM_STAT, r1 Reg.PWR_CNT_ABT, r0 Reg.PWR_EVT, r0
    Reg.PWR_REFUSE_ID, r0 Reg.PWR_REQ, r0 Reg.PWR_STAT, r1 Reg.RES_STAT, r1 Reg.TRP_CNT, r0 Reg.TRP_LATCH, r0
    Reg.TRP_LVL, r1 Reg.TRP_TIME]
  | .parkDriveStart .. | .parkBrakeEnd .. | .pumpEvaluation .. => some [r2 Reg.ADC_ECFG, r2 Reg.ADC_EDST, r2
    Reg.ADC_TDLY, r2 Reg.ADC_TRG, r1 Reg.CE_CTRL, r1 Reg.CE_FCNT, r1 Reg.CE_STATUS, r3 Reg.LAW_CAP, r2
    Reg.LAW_CNT_HITA, r2 Reg.LAW_CNT_HITB, r2 Reg.LAW_CNT_RUN, r2 Reg.LAW_CNT_SAT, r2 Reg.LAW_CTRL, r2 Reg.LAW_LAH, r3
    Reg.LAW_OMAP, r3 Reg.LAW_PRD, r2 Reg.LAW_RSTAT, r2 Reg.LAW_STAT, r2 Reg.LAW_TIME, r1 Reg.PWM_ACTA, r1
    Reg.PWM_ACTB, r1 Reg.PWM_CMPA, r1 Reg.PWM_CMPB, r1 Reg.PWM_CNTR, r1 Reg.PWM_CTRL, r0 Reg.PWM_GSTART_HI, r1
    Reg.PWM_PER, r1 Reg.PWM_STAT, r1 Reg.RES_STAT, r1 Reg.TT_CTL, r1 Reg.TT_PER]
  | .shiftStart .. => some [r0 Reg.ACT_CNT_SHSTART, r0 Reg.ACT_STAT, r2 Reg.ADC_ECFG, r2 Reg.ADC_EDST, r2 Reg.ADC_TDLY,
    r2 Reg.ADC_TRG, r1 Reg.CE_CTRL, r1 Reg.CE_FCNT, r1 Reg.CE_STATUS, r3 Reg.LAW_CAP, r2 Reg.LAW_CNT_HITA, r2
    Reg.LAW_CNT_HITB, r2 Reg.LAW_CNT_RUN, r2 Reg.LAW_CNT_SAT, r2 Reg.LAW_CTRL, r2 Reg.LAW_LAH, r3 Reg.LAW_OMAP, r3
    Reg.LAW_PRD, r2 Reg.LAW_RSTAT, r2 Reg.LAW_STAT, r2 Reg.LAW_TIME, r1 Reg.PWM_ACTA, r1 Reg.PWM_ACTB, r1
    Reg.PWM_CMPA, r1 Reg.PWM_CMPB, r1 Reg.PWM_CNTR, r1 Reg.PWM_CTRL, r0 Reg.PWM_GSTART_HI, r1 Reg.PWM_PER, r1
    Reg.PWM_STAT, r1 Reg.RES_STAT, r1 Reg.TT_CTL, r1 Reg.TT_PER]
  | .dcxOvercurrent .. => some [r0 Reg.BRD_CNT_PREEMPT, r0 Reg.BRD_STAT, r1 Reg.CE_STATUS, r0 Reg.DSC_STAT, r2
    Reg.LAW_CNT_HITA, r2 Reg.LAW_CNT_HITB, r2 Reg.LAW_CNT_RUN, r2 Reg.LAW_CNT_SAT, r2 Reg.LAW_CTRL, r2 Reg.LAW_RSTAT,
    r2 Reg.LAW_STAT, r0 Reg.LVC_CNT_HICCUP, r0 Reg.LVC_STAT, r0 Reg.MG_GTRIP, r0 Reg.MG_GTRIP_HI, r0 Reg.MG_TL6, r0
    Reg.MG_TL6_HI, r1 Reg.PWM_CMPA, r1 Reg.PWM_CMPB, r1 Reg.PWM_CNTR, r1 Reg.PWM_CNT_TRIP, r1 Reg.PWM_CTRL, r1
    Reg.PWM_STAT, r1 Reg.PWR_CNT_ABT, r0 Reg.PWR_EVT, r0 Reg.PWR_REFUSE_ID, r0 Reg.PWR_REQ, r0 Reg.PWR_STAT, r1
    Reg.RES_STAT, r1 Reg.TRP_CNT, r0 Reg.TRP_LATCH, r0 Reg.TRP_LVL, r1 Reg.TRP_TIME]
  | .debugUnlockDone .. => some [r0 Reg.BRD_CNT_PREEMPT, r0 Reg.BRD_STAT, r1 Reg.CE_STATUS, r0 Reg.DSC_STAT, r2
    Reg.GCH_BIN, r1 Reg.GCH_STAT, r2 Reg.LAW_RSTAT, r2 Reg.LAW_STAT, r0 Reg.MG_CNT_FLT, r1 Reg.MG_CNT_SS1, r1
    Reg.MG_CNT_STO, r1 Reg.MG_DSTAT, r0 Reg.MG_FLT, r0 Reg.MG_FLTT, r0 Reg.MG_SOSTAT, r0 Reg.MG_STAT, r0 Reg.MG_TL6,
    r0 Reg.MG_TL6_HI, r1 Reg.PWM_CMPA, r1 Reg.PWM_CMPB, r1 Reg.PWM_CNTR, r1 Reg.PWM_CNT_TRIP, r1 Reg.PWM_CTRL, r1
    Reg.PWM_STAT, r1 Reg.PWR_CNT_ABT, r0 Reg.PWR_EVT, r0 Reg.PWR_REFUSE_ID, r0 Reg.PWR_REQ, r0 Reg.PWR_STAT, r1
    Reg.RES_STAT, r0 Reg.SEC_DBGST, r1 Reg.TRP_CNT, r0 Reg.TRP_LATCH, r0 Reg.TRP_LVL, r1 Reg.TRP_TIME]
  | .faultReport .. => some [r0 Reg.BRD_CNT_PREEMPT, r0 Reg.BRD_STAT, r1 Reg.CE_STATUS, r0 Reg.DSC_STAT, r2 Reg.GCH_BIN,
    r1 Reg.GCH_STAT, r2 Reg.LAW_CNT_HITA, r2 Reg.LAW_CNT_HITB, r2 Reg.LAW_CNT_RUN, r2 Reg.LAW_CNT_SAT, r2
    Reg.LAW_CTRL, r2 Reg.LAW_RSTAT, r2 Reg.LAW_STAT, r0 Reg.MG_CNT_FLT, r1 Reg.MG_CNT_SS1, r1 Reg.MG_CNT_STO, r1
    Reg.MG_DSTAT, r0 Reg.MG_FLT, r0 Reg.MG_FLTT, r0 Reg.MG_SOSTAT, r0 Reg.MG_STAT, r0 Reg.MG_TL6, r0 Reg.MG_TL6_HI, r1
    Reg.PWM_CMPA, r1 Reg.PWM_CMPB, r1 Reg.PWM_CNTR, r1 Reg.PWM_CNT_TRIP, r1 Reg.PWM_CTRL, r1 Reg.PWM_STAT, r1
    Reg.PWR_CNT_ABT, r0 Reg.PWR_EVT, r0 Reg.PWR_REFUSE_ID, r0 Reg.PWR_REQ, r0 Reg.PWR_STAT, r1 Reg.RES_STAT, r1
    Reg.TRP_CNT, r0 Reg.TRP_LATCH, r0 Reg.TRP_LVL, r1 Reg.TRP_TIME]
  | .dcxWaitEnd .. => some [r1 Reg.CE_CTRL, r1 Reg.CE_FCNT, r1 Reg.CE_STATUS, r2 Reg.GCH_BIN, r1 Reg.GCH_STAT, r3
    Reg.LAW_CAP, r2 Reg.LAW_CNT_HITA, r2 Reg.LAW_CNT_HITB, r2 Reg.LAW_CNT_RUN, r2 Reg.LAW_CNT_SAT, r2 Reg.LAW_CTRL, r2
    Reg.LAW_LAH, r3 Reg.LAW_OMAP, r3 Reg.LAW_PRD, r2 Reg.LAW_RSTAT, r2 Reg.LAW_STAT, r2 Reg.LAW_TIME, r0
    Reg.MG_CNT_REPREF, r1 Reg.MG_DSTAT, r0 Reg.MG_GTRIP, r0 Reg.MG_GTRIP_HI, r0 Reg.MG_SOSTAT, r0 Reg.MG_STAT, r0
    Reg.MG_TL6, r0 Reg.MG_TL6_HI, r1 Reg.PWM_ACTA, r1 Reg.PWM_ACTB, r1 Reg.PWM_CMPA, r1 Reg.PWM_CMPB, r1 Reg.PWM_CNTR,
    r1 Reg.PWM_CTRL, r0 Reg.PWM_GSTART_HI, r1 Reg.PWM_PER, r1 Reg.PWM_PHS, r1 Reg.PWM_STAT, r1 Reg.PWM_SYNC, r1
    Reg.RES_STAT, r0 Reg.TRP_LVL, r1 Reg.TT_CTL, r1 Reg.TT_PER]
  | .modeEnteringDone .. => some [r0 Reg.BRD_CNT_PREEMPT, r0 Reg.BRD_STAT, r1 Reg.CE_STATUS, r0 Reg.CHS_CNT, r0
    Reg.CHS_CTRL, r0 Reg.CHS_STAT, r0 Reg.CHS_VMAX, r0 Reg.DSC_STAT, r2 Reg.LAW_CNT_HITA, r2 Reg.LAW_CNT_HITB, r2
    Reg.LAW_CNT_RUN, r2 Reg.LAW_CNT_SAT, r2 Reg.LAW_CTRL, r2 Reg.LAW_RSTAT, r2 Reg.LAW_STAT, r0 Reg.MG_GTRIP, r0
    Reg.MG_GTRIP_HI, r1 Reg.MG_NSS, r1 Reg.MG_POS, r0 Reg.MG_TL6, r0 Reg.MG_TL6_HI, r1 Reg.PWM_ACTA, r1 Reg.PWM_ACTB,
    r1 Reg.PWM_CMPA, r1 Reg.PWM_CMPB, r1 Reg.PWM_CNTR, r1 Reg.PWM_CNT_TRIP, r1 Reg.PWM_CNT_WREF, r1 Reg.PWM_CTRL, r0
    Reg.PWM_GSTART_HI, r1 Reg.PWM_PER, r1 Reg.PWM_STAT, r1 Reg.PWR_CNT_ABT, r0 Reg.PWR_EVT, r0 Reg.PWR_MMREQ, r0
    Reg.PWR_REFUSE_ID, r0 Reg.PWR_REQ, r0 Reg.PWR_STAT, r1 Reg.RES_STAT, r1 Reg.TRP_CNT, r0 Reg.TRP_LATCH, r0
    Reg.TRP_LVL, r1 Reg.TRP_TIME]
  | .paddockBankAccess .. => some [r1 Reg.ADC_CNT_OVRUN, r0 Reg.BRD_CNT_PREEMPT, r0 Reg.BRD_STAT, r1 Reg.CE_STATUS, r0
    Reg.CHS_CNT, r0 Reg.CHS_STAT, r0 Reg.DSC_STAT, r2 Reg.LAW_CNT_MISS, r2 Reg.LAW_CNT_SAT, r2 Reg.LAW_CNT_STRAY, r2
    Reg.LAW_CNT_VOID, r2 Reg.LAW_RSTAT, r2 Reg.LAW_STAT, r0 Reg.MG_GTRIP, r0 Reg.MG_GTRIP_HI, r1 Reg.MG_NSS, r1
    Reg.MG_POS, r0 Reg.MG_TL6, r0 Reg.MG_TL6_HI, r0 Reg.PDK_DROP_CNT, r0 Reg.PDK_DROP_ID, r0 Reg.PDK_REFUSE_CNT, r0
    Reg.PDK_REFUSE_ID, r0 Reg.PDK_REFUSE_SRC, r0 Reg.PRC_STATUS, r0 Reg.PRC_WRPTR, r1 Reg.PWM_CMPA, r1 Reg.PWM_CMPB,
    r1 Reg.PWM_CNTR, r1 Reg.PWM_CNT_TRIP, r1 Reg.PWM_CTRL, r1 Reg.PWM_STAT, r1 Reg.PWR_CNT_ABT, r0 Reg.PWR_EVT, r0
    Reg.PWR_REFUSE_ID, r0 Reg.PWR_REQ, r0 Reg.PWR_STAT, r1 Reg.RES_STAT, r2 Reg.RXO_STAT, r1 Reg.TRP_CNT, r0
    Reg.TRP_LATCH, r0 Reg.TRP_LVL, r1 Reg.TRP_TIME]
  | .swReset _ _ _ _ _ params _ _ => firmwareRegisters (beAt params 0 4)
  | .setChargeLimits _ _ _ _ _ params _ _ => firmwareRegisters (beAt params 0 4)
  | .setInputLimit _ _ _ _ _ params _ _ => firmwareRegisters (beAt params 0 4)
  | .setSupply _ _ _ _ _ params _ _ => firmwareRegisters (beAt params 0 4)
  | .clearLockout _ _ _ _ _ params _ _ => firmwareRegisters (beAt params 0 4)
  | .shiftTo _ _ _ _ _ params _ _ => firmwareRegisters (beAt params 0 4)
  | .parkReq _ _ _ _ _ params _ _ => firmwareRegisters (beAt params 0 4)
  | .clutchReq _ _ _ _ _ params _ _ => firmwareRegisters (beAt params 0 4)
  | .pumpDemand _ _ _ _ _ params _ _ => firmwareRegisters (beAt params 0 4)
  | .safetyCfg _ _ _ _ _ params _ _ _ => firmwareRegisters (beAt params 0 4)
  | .safetyClear _ _ _ _ _ params _ _ => firmwareRegisters (beAt params 0 4)
  | .nvmRead _ _ _ _ _ params _ _ => firmwareRegisters (beAt params 0 4)
  | .nvmWrite _ _ _ _ _ params _ _ => firmwareRegisters (beAt params 0 4)
  | .fwBlock _ _ _ _ _ params _ _ => firmwareRegisters (beAt params 0 4)
  | .fwActivate _ _ _ _ _ params _ _ _ => firmwareRegisters (beAt params 0 4)
  | .attest _ _ _ _ _ params _ _ => firmwareRegisters (beAt params 0 4)
  | .keyWrite _ _ _ _ _ params _ _ => firmwareRegisters (beAt params 0 4)
  | .counterRead _ _ _ _ _ params _ _ => firmwareRegisters (beAt params 0 4)
  | .probeStart _ _ _ _ _ params _ _ => firmwareRegisters (beAt params 0 4)
  | .traceCfg _ _ _ _ _ params _ _ => firmwareRegisters (beAt params 0 4)
  | .traceRead _ _ _ _ _ params _ _ => firmwareRegisters (beAt params 0 4)
  | .systemBoundary1ms .. => some [r0 Reg.ACT_STAT, r2 Reg.ADC_ECFG, r2 Reg.ADC_EDST, r2 Reg.ADC_TDLY, r2 Reg.ADC_TRG,
    r0 Reg.BRD_CNT_PREEMPT, r0 Reg.BRD_STAT, r1 Reg.CE_CTRL, r1 Reg.CE_FCNT, r1 Reg.CE_STATUS, r0 Reg.CHS_CNT, r0
    Reg.CHS_CTRL, r0 Reg.CHS_STAT, r0 Reg.CHS_VMAX, r0 Reg.DSC_STAT, r0 Reg.INL_CPHIGH, r0 Reg.INL_CPPER, r0
    Reg.INL_STAT, r3 Reg.LAW_CAP, r2 Reg.LAW_CNT_HITA, r2 Reg.LAW_CNT_HITB, r2 Reg.LAW_CNT_RUN, r2 Reg.LAW_CNT_SAT, r2
    Reg.LAW_CTRL, r2 Reg.LAW_LAH, r3 Reg.LAW_OMAP, r3 Reg.LAW_PRD, r2 Reg.LAW_RSTAT, r2 Reg.LAW_STAT, r2 Reg.LAW_TIME,
    r0 Reg.LVC_OVTH, r0 Reg.LVC_STAT, r0 Reg.MG_GTRIP, r0 Reg.MG_GTRIP_HI, r1 Reg.MG_NSS, r1 Reg.MG_POS, r0
    Reg.MG_TL6, r0 Reg.MG_TL6_HI, r0 Reg.PRC_SEQ, r0 Reg.PRC_STATUS, r0 Reg.PRC_WRPTR, r1 Reg.PWM_ACTA, r1
    Reg.PWM_ACTB, r1 Reg.PWM_CMPA, r1 Reg.PWM_CMPB, r1 Reg.PWM_CNTR, r1 Reg.PWM_CNT_TRIP, r1 Reg.PWM_CNT_WREF, r1
    Reg.PWM_CTRL, r0 Reg.PWM_GSTART_HI, r1 Reg.PWM_PER, r1 Reg.PWM_STAT, r1 Reg.PWR_CNT_ABT, r0 Reg.PWR_EVT, r0
    Reg.PWR_MMREQ, r0 Reg.PWR_REFUSE_ID, r0 Reg.PWR_REQ, r0 Reg.PWR_STAT, r1 Reg.RES_STAT, r0 Reg.RST_BOOT, r1
    Reg.TRP_CNT, r0 Reg.TRP_LATCH, r0 Reg.TRP_LVL, r1 Reg.TRP_TIME, r1 Reg.TT_CTL, r1 Reg.TT_PER]
  | .registerWrite _ a _ => some [r0 a, r0 Reg.ACT_STAT, r1 Reg.ADC_STATUS, r1 Reg.BRD_SEQ, r1 Reg.BRD_SESS, r0
    Reg.BRD_STAT, r1 Reg.BUS_CTRL, r1 Reg.BUS_STAT, r2 Reg.BUS_SUP, r1 Reg.CE_CTRL, r1 Reg.CE_FCNT, r0 Reg.DSC_STAT,
    r2 Reg.GCH_BIN, r1 Reg.GCH_STAT, r0 Reg.GDC_STAT, r0 Reg.INL_CTRL, r0 Reg.INL_STAT, r0 Reg.MG_SOSTAT, r0
    Reg.MG_STAT, r0 Reg.PRC_CTRL, r1 Reg.PWM_CNT_TRIP, r1 Reg.PWM_CTRL, r1 Reg.PWM_SAFE, r1 Reg.PWM_STAT, r1
    Reg.PWM_TRIPM, r1 Reg.PWR_CNT_ABT, r0 Reg.PWR_EVT, r0 Reg.PWR_REFUSE_ID, r0 Reg.PWR_REQ, r0 Reg.PWR_STAT, r1
    Reg.RES_STAT, r2 Reg.RXO_CFG, r0 Reg.TH_CTRL, r0 Reg.TH_STAT, r2 Reg.TXO_CFG, r2 Reg.TXO_TIM, r2 Reg.WDG_CTRL]
  | .rcCounterRead _ a => some [r0 a.1, r0 Reg.BRD_STAT]

/-! ## Canter instructions -/

/-- Engine, law slot, opcode and operand fields of a Canter instruction. -/
def Instr.canter : Instr → Option (Nat × Nat × Nat × List (Field × Nat))
  | .canNop e l => some (e, l, 0x00, [])
  | .canEnd e l => some (e, l, 0x01, [])
  | .canSkip e l cond r n => some (e, l, 0x02, [(fCond, cond), (fR, r), (fN, n)])
  | .canCmp e l x y => some (e, l, 0x03, [(fX, x), (fY, y)])
  | .canTst e l x => some (e, l, 0x04, [(fX, x)])
  | .canLdi e l d imm => some (e, l, 0x08, [(fD, d), (fImm, imm)])
  | .canMov e l d x => some (e, l, 0x09, [(fD, d), (fX, x)])
  | .canAdd e l d x y => some (e, l, 0x0A, [(fD, d), (fX, x), (fY, y)])
  | .canSub e l d x y => some (e, l, 0x0B, [(fD, d), (fX, x), (fY, y)])
  | .canNeg e l d x => some (e, l, 0x0C, [(fD, d), (fX, x)])
  | .canAbs e l d x => some (e, l, 0x0D, [(fD, d), (fX, x)])
  | .canMin e l d x y => some (e, l, 0x0E, [(fD, d), (fX, x), (fY, y)])
  | .canMax e l d x y => some (e, l, 0x0F, [(fD, d), (fX, x), (fY, y)])
  | .canLim e l d x lo hi => some (e, l, 0x10, [(fD, d), (fX, x), (fY, lo), (fZ, hi)])
  | .canShf e l d x k => some (e, l, 0x11, [(fD, d), (fX, x), (fY, k)])
  | .canAddw e l d x y => some (e, l, 0x12, [(fD, d), (fX, x), (fY, y)])
  | .canMul e l a x y => some (e, l, 0x14, accWord a x y)
  | .canMac e l a x y => some (e, l, 0x15, accWord a x y)
  | .canMsu e l a x y => some (e, l, 0x16, accWord a x y)
  | .canMulc e l a x k => some (e, l, 0x17, accCoef a x k)
  | .canMacc e l a x k => some (e, l, 0x18, accCoef a x k)
  | .canDmac e l a x y => some (e, l, 0x19, accWord a x y)
  | .canDot e l a x y => some (e, l, 0x1A, accWord a x y)
  | .canLda e l a x => some (e, l, 0x1B, [(fA, a), (fAx, x)])
  | .canAdda e l a b => some (e, l, 0x1C, [(fA, a), (fB, b)])
  | .canSuba e l a b => some (e, l, 0x1D, [(fA, a), (fB, b)])
  | .canSha e l a k => some (e, l, 0x1E, [(fA, a), (fS6, k)])
  | .canSt e l d a => some (e, l, 0x1F, [(fD, d), (fSa, a)])
  | .canSincos e l d x => some (e, l, 0x20, [(fD, d), (fX, x)])
  | .canPark e l d x y th => some (e, l, 0x21, [(fD, d), (fX, x), (fY, y), (fZ, th)])
  | .canIpark e l d x y th => some (e, l, 0x22, [(fD, d), (fX, x), (fY, y), (fZ, th)])
  | .canClarke e l d x y => some (e, l, 0x23, [(fD, d), (fX, x), (fY, y)])
  | .canSvm e l d x y => some (e, l, 0x24, [(fD, d), (fX, x), (fY, y)])
  | .canDiv e l d x y => some (e, l, 0x25, [(fD, d), (fX, x), (fY, y)])
  | .canSqrt e l d x => some (e, l, 0x26, [(fD, d), (fX, x)])
  | .canTlu e l d x t => some (e, l, 0x28, [(fD, d), (fX, x), (fT, t)])
  | .canTlt e l d x y t => some (e, l, 0x29, [(fD, d), (fX, x), (fY, y), (fT, t)])
  | .canLdk e l d k => some (e, l, 0x2A, [(fD, d), (fC, k)])
  | .canLds e l d sg => some (e, l, 0x2C, [(fD, d), (fSig, sg)])
  | .canSts e l d sg => some (e, l, 0x2D, [(fD, d), (fSig, sg)])
  | .canLdc e l d k => some (e, l, 0x2E, [(fD, d), (fK, k)])
  | .canLdu e l d k => some (e, l, 0x2F, [(fD, d), (fK, k)])
  | .canUrg e l u k => some (e, l, 0x30, [(fU, u), (fE, k)])
  | .canInt e l n x g k => some (e, l, 0x31, [(fD, n), (fX, x), (fY, g), (fZ, k)])
  | .canOutd e l k x => some (e, l, 0x34, [(fKo, k), (fX, x)])
  | .canOutc e l k a => some (e, l, 0x35, [(fKo, k), (fAo, a)])
  | .canPrd e l d k => some (e, l, 0x38, [(fD, d), (fK, k)])
  | .canBnd e l b k lo hi => some (e, l, 0x39, [(fBb, b), (fKb, k), (fY, lo), (fZ, hi)])
  | .canSel e l => some (e, l, 0x3A, [])
  | .canCorr e l d x g k => some (e, l, 0x3B, [(fD, d), (fX, x), (fY, g), (fK, k)])
  | _ => none

end Sys2Proof
end

