-- ==== Sys2Proof/Certificates/Slice0/Obligations.lean ====
section
/-! DEFINITION. The statements for the provers: what reset leaves, what every command does and leaves alone, and what every
step keeps. -/

open Sys2Proof Sys2Proof.Machine

/-- A step takes the command at the front of the queue and runs it on the state with the queue's rest. On an empty queue it passes one
CLK_CTL cycle and changes nothing else: the model's choice (log 1). -/
def Obligations.StepRunsFrontCommand : Prop :=
  (∀ (s : State) (c : Instr) (cs : List Instr), step { s with pending := c :: cs } = exec c { s with pending := cs }) ∧
  ∀ s : State, s.pending = [] → step s = .next { s with dtb := s.dtb + 1 }

/-- What the reset state holds (R58, R385, R559): no signal is defined, Team A is held, and Martingale stands as under a MODULE reaction.
It rests on the model's choices of logs 11, 26. -/
def Obligations.ResetState : Prop :=
  State.reset.Inv ∧ State.reset.pending = [] ∧
  -- Paddock: no signal defined, quality INIT
  (∀ i, State.reset.desc i = 0 ∧ State.reset.sig i = {}) ∧
  -- the cores of Team A are held
  (∀ k, 3 ≤ k → k < 6 → (State.reset.coreAt k).held = true) ∧
  -- TL0 and every TL6 level active, path 2 applied to every drive channel, EN_REQ low
  bit (State.reset.rd Reg.TRP_LVL).toNat 0 = true ∧ (∀ g, g < 40 → State.reset.tl6 g = true) ∧
  (∀ n, n < 12 → (State.reset.hvAt n).p2 = some false) ∧ State.reset.enReq = false

/-- Every step from a sound state reaches a sound state: canonical memories and register maps, and lists of units of their sizes. -/
def Obligations.StepKeepsInvariant : Prop :=
  ∀ s t : State, s.Inv → step s = .next t → t.Inv

/-- A command whose operands name units that the module has answers a next state from every state; any other command is stopped as naming
no unit. It rests on the model's choices of logs 3, 29. -/
def Obligations.WellFormedCompletes : Prop :=
  ∀ (s : State) (c : Instr), (c.wf = true → ∃ t, exec c s = .next t) ∧ (c.wf = false → exec c s = .fault .noSuchUnit)

/-- A command changes no part of the state but those that `Instr.parts` lists for it; none changes the queue or the variant. -/
def Obligations.CommandParts : Prop :=
  ∀ (s t : State) (c : Instr), exec c s = .next t →
    t.pending = s.pending ∧ t.variant = s.variant ∧ ∀ p, p ∉ c.parts → Part.same s t p

/-- A command leaves every register unchanged but those that `Instr.registers` lists for it. The resets are not listed: they set whole
domains. -/
def Obligations.CommandRegisters : Prop :=
  ∀ (s t : State) (c : Instr) (ws : List (Nat → Prop)), s.Inv → exec c s = .next t → c.registers = some ws →
    ∀ a, (∀ r ∈ ws, ¬ r a) → t.rd a = s.rd a

/-- Bytes of main SRAM and of the NVM that a command leaves unchanged (R80, R82, R434, R496, R499). It rests on the model's choices of
logs 5, 46, 55, 102, 117. -/
def Obligations.MemoryBytes : Prop :=
  ∀ (s t : State) (c : Instr), s.Inv → exec c s = .next t →
    -- main SRAM: a REGISTER_WRITE stores the word at its address
    (∀ core a v x, c = .registerWrite core a v → ¬ (inSram a = true ∧ a % 0x10000000 ≤ x ∧ x < a % 0x10000000 + 4) →
      t.sramGet x = s.sramGet x) ∧
    -- STRAP_END begins the initialisation of the whole memory; the recorder writes within its ring; nothing else writes
    ((∀ core a v, c ≠ .registerWrite core a v) → (∀ a b d, c ≠ .strapEnd a b d) →
      ∀ x, (∀ k, k < s.ringSize → s.ringByte k ≠ x) → t.sramGet x = s.sramGet x) ∧
    -- code NVM: the bytes of the program operation under way, and the bank that it erases
    (c ≠ .bridleCommit → ∀ x, (∀ j, s.boot.nvmJobs.head? = some j → j.code = true →
        ¬ (j.erase = true ∧ codeBank x = codeBank j.at_) ∧ (x < j.at_ ∨ j.at_ + j.data.length ≤ x)) → t.codeGet x = s.codeGet x) ∧
    -- data NVM: those bytes, the boot record copies, and an event record's place in its ring
    (c ≠ .bridleCommit → ∀ x, (∀ j, s.boot.nvmJobs.head? = some j → j.code = false → x < j.at_ ∨ j.at_ + j.data.length ≤ x) →
      (x < 0x48000000 ∨ 0x48000080 ≤ x) →
      (c = .eventRecordCopy → ∀ r ∈ s.thermal.records.head?, x < 0x483FF800 + 32 * s.fld Reg.TH_RECPTR Fld.TH_RECPTR_n ∨
        0x483FF800 + 32 * s.fld Reg.TH_RECPTR Fld.TH_RECPTR_n + r.length ≤ x) → t.nvmGet x = s.nvmGet x)

/-- No command but VBATK_APPLIED, before which there was no supply, turns the RTC back (R28, R547). It rests on the model's choices of
logs 2, 67, 121. -/
def Obligations.TimeGoesOn : Prop :=
  ∀ (s t : State) (c : Instr), exec c s = .next t → c ≠ .vbatkApplied → s.rtcFine ≤ t.rtcFine

/-- Core accesses to the register map and to main SRAM (R17, R34, R51, R53, R54, R602), with CLK_CPU and CLK_SYS in a ratio that the
bridge supports (R522). It rests on the model's choices of logs 45, 46. -/
def Obligations.RegisterAccess : Prop :=
  ∀ s : State, s.Inv → s.cpuRatioOk = true →
    -- REGISTER_WRITE to a word of main SRAM: those four bytes and no other byte or register
    (∀ core a v, core < 6 → inSram a = true → s.domainOn 0 = true → Runs (.registerWrite core a v) s fun t =>
      (∀ k, k < 4 → t.sramGet (a % 0x10000000 + k) = BitVec.ofNat 8 (v.toNat / 256 ^ k)) ∧
      (∀ x, x < a % 0x10000000 ∨ a % 0x10000000 + 4 ≤ x → t.sramGet x = s.sramGet x) ∧ t.regs = s.regs) ∧
    -- REGISTER_WRITE to a register of the reset block or of the keeper without a row of its own (R17): by its access codes
    (∀ core a v r k, core < 6 → inSram a = false → s.reachable a = true → regAt a = some (r, k) →
      ((a / 0x10000 = 0x7002 ∧ a ≠ Reg.RST_SWR) ∨ (a / 0x10000 = 0x7080 ∧ a ≠ Reg.KPR_SHIP ∧ a ≠ Reg.KPR_WOUT)) →
      Runs (.registerWrite core a v) s fun t =>
        t.rd a = writeWord r s.locked (s.rd a) v ∧ (∀ b, b ≠ a → t.rd b = s.rd b) ∧ t.sram = s.sram) ∧
    -- REGISTER_WRITE where no block answers, or a silent one (R53): an access fault of the core, and nothing else
    (∀ core a v, core < 6 → inSram a = false → (a < 0x20000000 ∨ 0x21000000 ≤ a) → s.reachable a = false →
      exec (.registerWrite core a v) s = .next (s.accessFault core)) ∧
    -- RC_COUNTER_READ (R17): the read returns the word without its write-only bits and clears its RC fields; a register without
    -- such a field stays
    (∀ core a r k, core < 6 → blockMapped a = true → s.reachable a = true → regAt a = some (r, k) → a ≠ Reg.DTB_LO → a ≠ Reg.BRD_FWQ_A →
      a ≠ Reg.BRD_FWQ_S → a ≠ Reg.IRQ_CLAIM (a / 0x10000 - 0x7005) (core % 3) → a ≠ Reg.KPR_WOUT →
      Runs (.rcCounterRead core (a, 4)) s fun t =>
        (t.coreAt core).read = BitVec.ofNat 64 (s.liveWord core a &&& ~~~(W r.wo)).toNat ∧ t.rd a = s.rd a &&& ~~~(W r.rc) ∧
        (∀ b, b ≠ a → t.rd b = s.rd b)) ∧
    -- a load at an offset that no chapter defines returns 0 (R54)
    (∀ core a, core < 6 → blockMapped a = true → s.reachable a = true → regAt a = none → a ≠ Reg.DTB_LO → a ≠ Reg.BRD_FWQ_A →
      a ≠ Reg.BRD_FWQ_S → a ≠ Reg.IRQ_CLAIM (a / 0x10000 - 0x7005) (core % 3) → a ≠ Reg.KPR_WOUT →
      exec (.rcCounterRead core (a, 4)) s = .next (s.returns core 0)) ∧
    -- a load from main SRAM returns its bytes, the lowest address first, and changes nothing else
    (∀ core a, core < 6 → inSram a = true → s.domainOn 0 = true → Runs (.rcCounterRead core (a, 4)) s fun t =>
      (t.coreAt core).read = BitVec.ofNat 64 ((s.sramGet (a % 0x10000000)).toNat + (s.sramGet (a % 0x10000000 + 1)).toNat * 256 +
        (s.sramGet (a % 0x10000000 + 2)).toNat * 256 ^ 2 + (s.sramGet (a % 0x10000000 + 3)).toNat * 256 ^ 3) ∧
      (∀ c, c ≠ core → t.coreAt c = s.coreAt c) ∧ t.regs = s.regs ∧ t.sram = s.sram) ∧
    -- a load outside every range of R51, or from one that is silent: an access fault (R53)
    (∀ core a, core < 6 → (a < 0x20000000 ∨ 0x21000000 ≤ a) → (blockMapped a = true → s.reachable a = false) →
      (blockMapped a = false → s.memoryAnswers a 4 = false) → exec (.rcCounterRead core (a, 4)) s = .next (s.accessFault core)) ∧
    -- DTB_LO_READ (R34): bits [31:0] are returned and bits [63:32] latched for the reading core alone
    (∀ core, core < 6 → s.domainOn 0 = true → Runs (.dtbLoRead core) s fun t =>
      (t.coreAt core).read = BitVec.ofNat 64 (s.dtb % 2 ^ 32) ∧ (t.coreAt core).dtbHi = W (s.dtb / 2 ^ 32 % 2 ^ 32) ∧
      (∀ c, c ≠ core → t.coreAt c = s.coreAt c) ∧ t.regs = s.regs ∧ t.dtb = s.dtb)

/-- Core accesses to the Paddock and what a bank performs (R57, R58, R60, R62-R70, R75-R78, R601, R602), in a module whose PD6 is ON and
whose core and interconnect clocks keep a ratio that the bridge supports (R522). It rests on the model's choices of logs 15, 73, 79. -/
def Obligations.PaddockAccess : Prop :=
  ∀ s : State, s.Inv → s.domainOn 6 = true → s.cpuRatioOk = true →
    -- PADDOCK_CORE_WRITE (R77, R602): an aligned store of 4 or 8 bytes enters arbitration at its bank, 6 cycles later or more;
    -- any other store is an access fault
    (∀ core a size v, core < 6 → 0x20000000 ≤ a → a < 0x20800000 → accessAligned a size = true →
      Runs (.paddockCoreWrite core a size v) s fun t => t.sigs = s.sigs ∧ t.regs = s.regs ∧ t.cores = s.cores ∧
        ∃ n, t.paddock.waiting = s.paddock.waiting ++ [{ sig := paddockId a, req := s.dtb + 6 + n, kind := .coreWrite core a size v }]) ∧
    (∀ core a size v, core < 6 → 0x20000000 ≤ a → a < 0x20800000 → accessAligned a size = false →
      exec (.paddockCoreWrite core a size v) s = .next (s.accessFault core)) ∧
    -- DESCRIPTOR_WRITE (R602): a store of 8 aligned bytes goes to its bank, any other is an access fault
    (∀ core a v, core < 6 → 0x20800000 ≤ a → a < 0x21000000 → a % 8 = 0 →
      Runs (.descriptorWrite core a 8 v) s fun t => t.descs = s.descs ∧ t.regs = s.regs ∧ t.cores = s.cores ∧
        ∃ n, t.paddock.waiting = s.paddock.waiting ++ [{ sig := paddockId a, req := s.dtb + 6 + n, kind := .descWrite core v }]) ∧
    (∀ core a size v, core < 6 → 0x20800000 ≤ a → a < 0x21000000 → (size ≠ 8 ∨ a % 8 ≠ 0) →
      exec (.descriptorWrite core a size v) s = .next (s.accessFault core)) ∧
    -- a load of 4 or 8 aligned bytes goes to its bank as well (R77, R602)
    (∀ core a size, core < 6 → 0x20000000 ≤ a → a < 0x21000000 → accessAligned a size = true →
      Runs (.rcCounterRead core (a, size)) s fun t => t.sigs = s.sigs ∧ t.descs = s.descs ∧
        ∃ n, t.paddock.waiting = s.paddock.waiting ++ [{ sig := paddockId a, req := s.dtb + 6 + n, kind := .coreRead core a size }]) ∧
    -- PADDOCK_BANK_ACCESS: the winner of the bank's next cycle is performed in it. A converter result whose entry owns the signal
    (∀ b c a u k val quality ovr ts, b < 8 → s.bankTurn b = some (c, a) → a.kind = .conv u k val quality ovr ts none none →
      s.pathOwns a.sig 2 (16 * u + k) = true → a.sig ≠ s.fld Reg.CHS_ISIG Fld.CHS_ISIG_sig →
      Runs (.paddockBankAccess b) s fun t =>
        t.dtb = max s.dtb c ∧ t.paddock.waiting = s.paddock.waiting.erase a ∧ t.paddock.free = s.paddock.free.set b (c + 1) ∧
        t.sig a.sig = { value := typedValue (s.desc a.sig) (Wi val), mword := mkMeta ts quality ovr false false } ∧
        ∀ j, j ≠ a.sig → t.sig j = s.sig j) ∧
    -- a law's write, dropped and counted when its law does not own the signal (R601)
    (∀ b c a e l val start quality, b < 8 → s.bankTurn b = some (c, a) → a.kind = .lawWrite e l val start quality →
      a.sig ≠ s.fld Reg.CHS_ISIG Fld.CHS_ISIG_sig → Runs (.paddockBankAccess b) s fun t =>
        (s.pathOwns a.sig 1 (4 * e + l) = true → (t.sig a.sig).value = typedValue (s.desc a.sig) val) ∧
        (s.pathOwns a.sig 1 (4 * e + l) = false → t.sigs = s.sigs ∧ t.rd Reg.PDK_DROP_ID = W a.sig ∧
          t.rd Reg.PDK_DROP_CNT = W (min ((s.rd Reg.PDK_DROP_CNT).toNat + 1) 0xFFFFFFFF)) ∧
        ∀ j, j ≠ a.sig → t.sig j = s.sig j) ∧
    -- a core's store by the owner: 4 bytes write the value as VALID, 8 bytes carry the quality and the SUBST flag (R70)
    (∀ b c a core addr v, b < 8 → s.bankTurn b = some (c, a) → a.kind = .coreWrite core addr 4 v → addr % 8 = 0 →
      s.coreOwns core (paddockId addr) = true → paddockId addr ≠ s.fld Reg.CHS_ISIG Fld.CHS_ISIG_sig →
      Runs (.paddockBankAccess b) s fun t =>
        t.sig (paddockId addr) = {
          value := typedValue (s.desc (paddockId addr)) (W v.toNat), mword := mkMeta ((max s.dtb c + 1) / Config.usCycles % 2 ^ 24) qValid false false false } ∧
        (∀ j, j ≠ paddockId addr → t.sig j = s.sig j) ∧ t.descs = s.descs ∧ t.sram = s.sram) ∧
    (∀ b c a core addr v, b < 8 → s.bankTurn b = some (c, a) → a.kind = .coreWrite core addr 8 v →
      s.coreOwns core (paddockId addr) = true → paddockId addr ≠ s.fld Reg.CHS_ISIG Fld.CHS_ISIG_sig →
      Runs (.paddockBankAccess b) s fun t =>
        t.sig (paddockId addr) = {
          value := typedValue (s.desc (paddockId addr)) (W v.toNat), mword := mkMeta ((max s.dtb c + 1) / Config.usCycles % 2 ^ 24) (metaQuality (W (v.toNat / 2 ^ 32)))
            false false (metaSubst (W (v.toNat / 2 ^ 32))) } ∧
        ∀ j, j ≠ paddockId addr → t.sig j = s.sig j) ∧
    -- a refused store: no signal changes, the refusal is counted and recorded, and the core faults (R69)
    (∀ b c a core addr size v, b < 8 → core < 6 → s.bankTurn b = some (c, a) → a.kind = .coreWrite core addr size v →
      s.coreOwns core (paddockId addr) = false → Runs (.paddockBankAccess b) s fun t =>
        t.sigs = s.sigs ∧ t.rd Reg.PDK_REFUSE_ID = W (paddockId addr) ∧ t.rd Reg.PDK_REFUSE_SRC = W core ∧
        t.rd Reg.PDK_REFUSE_CNT = W (min ((s.rd Reg.PDK_REFUSE_CNT).toNat + 1) 0xFFFFFFFF) ∧
        (t.coreAt core).faults = (s.coreAt core).faults + 1) ∧
    -- a load returns the value word and the meta word of the signal, and 0 of an undefined one (R57, R70)
    (∀ b c a core addr, b < 8 → core < 6 → s.bankTurn b = some (c, a) → a.kind = .coreRead core addr 8 → addr < 0x20800000 → addr % 8 = 0 →
      s.paddock.seenAt < s.dtb → Runs (.paddockBankAccess b) s fun t => t.sigs = s.sigs ∧
        (dDefined (s.desc (paddockId addr)) = true →
          (t.coreAt core).read = BitVec.ofNat 64 ((s.sig (paddockId addr)).value.toNat + (s.sig (paddockId addr)).mword.toNat * 2 ^ 32)) ∧
        (dDefined (s.desc (paddockId addr)) = false → (t.coreAt core).read = 0)) ∧
    -- a descriptor store by Team S: the descriptor is set and both words of the signal cleared, or the core faults; Team A faults
    (∀ b c a core v, b < 8 → core < 6 → s.bankTurn b = some (c, a) → a.kind = .descWrite core v → Runs (.paddockBankAccess b) s fun t =>
      if teamOf core ≠ 0 ∨ s.descRefused a.sig (v &&& descMask) = true then
        t.descs = s.descs ∧ t.sigs = s.sigs ∧ (t.coreAt core).faults = (s.coreAt core).faults + 1
      else t.desc a.sig = v &&& descMask ∧ t.sig a.sig = {} ∧
        ∀ j, j ≠ a.sig → t.desc j = s.desc j ∧ t.sig j = s.sig j)

/-- The converter units and the trigger timers (R83-R111). It rests on the model's choices of logs 2, 3, 4, 15, 93, 94, 96, 98, 117. -/
def Obligations.AdcCommands : Prop :=
  ∀ (s : State) (u : Nat), s.Inv → u < 16 →
    -- ADC_TRIGGER_DELAY_END (R89, R93): the slot is pending; no collision on a free unit
    (∀ i d, i < 4 → (s.auAt u).delay.getD i none = some d → (s.auAt u).act = none → (s.auAt u).running = none →
      (s.auAt u).wait = none → (s.auAt u).incoming = [] →
      Runs (.adcTriggerDelayEnd u i) s fun t => t.dtb = max s.dtb d ∧ t.slotPending u i = true ∧
        (t.auAt u).delay.getD i none = none ∧ t.rd (Reg.ADC_CNT_COLL u) = s.rd (Reg.ADC_CNT_COLL u)) ∧
    -- ADC_SLOT_START (R84, R90, R91): the lowest slot pending at the edge starts its first valid entry in a free unit
    (∀ i k e, i < 4 → s.slotEdge u = some e → (s.auAt u).act = none → (s.auAt u).running = none → (s.auAt u).wait = none →
      (s.auAt u).incoming = [] → s.slotPending u i = true → adcEdge ((s.auAt u).pendAt.getD i 0) ≤ e →
      (∀ j, j < i → s.slotPending u j = true → e < adcEdge ((s.auAt u).pendAt.getD j 0)) →
      s.nextEntry u (s.fld (Reg.ADC_TRG u i) Fld.ADC_TRG_first) (s.fld (Reg.ADC_TRG u i) Fld.ADC_TRG_last) = some k →
      Runs (.adcSlotStart u) s fun t => t.dtb = max s.dtb (ceilHalf e) ∧ (t.auAt u).running = some (i, k) ∧
        (t.auAt u).act = some { entry := k, src := s.senseOf u k, slot := some i, by_ := none, sampling := true, tEnd := e + s.fld (Reg.ADC_ECFG u k) Fld.ADC_ECFG_smp * adcCycle, tsUs := 0 } ∧
        t.slotPending u i = false) ∧
    -- ADC_SAMPLING_END (R58, R83): 16 CLK_ADC cycles of conversion follow, ts is the end of the sampling phase
    (∀ c, (s.auAt u).act = some c → c.sampling = true → Runs (.adcSamplingEnd u) s fun t =>
      t.dtb = max s.dtb (ceilHalf c.tEnd) ∧
      (t.auAt u).act = some { c with sampling := false, tEnd := c.tEnd + 80, tsUs := c.tEnd / 2 / Config.usCycles % 2 ^ 24, enc := s.encoderSample u c.entry }) ∧
    -- ADC_CONVERSION_END (R84, R102-R105): the result of R102 goes to the bank of its destination; an input beyond the linear
    -- range gives the code at its end and OVR
    (∀ code beyond c q, code < 16384 → (s.auAt u).act = some c → c.sampling = false → c.enc = none → c.slot = none → c.by_ = some q → c.src ≠ .agnd →
      Runs (.adcConversionEnd u code beyond) s fun t => t.dtb = max s.dtb (ceilHalf c.tEnd) ∧
        t.paddock.waiting = s.paddock.waiting ++ [{ sig := s.fld (Reg.ADC_EDST u c.entry) Fld.ADC_EDST_sig, req := max s.dtb (ceilHalf c.tEnd), kind := .conv u c.entry (adcValue (s.on (Reg.ADC_ECFG u c.entry) Fld.ADC_ECFG_pol) (if beyond then (if code < 8192 then 0 else 16383) else code) (s.sfld (Reg.ADC_OFS u (s.fld (Reg.ADC_ECFG u c.entry) Fld.ADC_ECFG_gain)) Fld.ADC_OFS_ofs)) (s.adcQuality u) beyond c.tsUs none (some q) }]) ∧
    -- ADC_URG_WRITE (R95): requester 13 for Team S, 14 for Team A; the interconnect takes its time (log 15)
    (∀ core k, core < 6 → k < 16 → s.domainOn 3 = true → s.cpuRatioOk = true →
      Runs (.adcUrgWrite core u k) s fun t => ∃ n,
        (t.auAt u).incoming = (s.auAt u).incoming ++ [{ asker := { requester := if core < 3 then 13 else 14 }, entry := k, arrive := s.dtb + n }]) ∧
    -- URGENT_REQUEST_EFFECT (R95, R97): in a free enabled unit the entry starts at the edge of the request
    (∀ q, nextUrgent (s.auAt u).incoming = some q → (s.auAt u).act = none → s.adcOn u = true → s.entryValid u q.entry = true →
      Runs (.urgentRequestEffect u) s fun t => (t.auAt u).incoming = (s.auAt u).incoming.erase q ∧
        (t.auAt u).act = some { entry := q.entry, src := s.senseOf u q.entry, slot := none, by_ := some q.asker, sampling := true, tEnd := s.adcAt (adcEdge q.arrive) + s.fld (Reg.ADC_ECFG u q.entry) Fld.ADC_ECFG_smp * adcCycle, tsUs := 0 }) ∧
    -- in the middle of a sequenced conversion it aborts it (R95); in the middle of an urgent one it waits, or is refused (R96)
    (∀ q c, nextUrgent (s.auAt u).incoming = some q → (s.auAt u).act = some c → s.adcAt (adcEdge q.arrive) < c.ends → s.adcOn u = true →
      s.entryValid u q.entry = true → Runs (.urgentRequestEffect u) s fun t =>
        (c.slot ≠ none → (t.auAt u).act = some { entry := q.entry, src := s.senseOf u q.entry, slot := none, by_ := some q.asker, sampling := true, tEnd := s.adcAt (adcEdge q.arrive) + s.fld (Reg.ADC_ECFG u q.entry) Fld.ADC_ECFG_smp * adcCycle, tsUs := 0 } ∧
          t.rd (Reg.ADC_CNT_ABORT u) = W (min ((s.rd (Reg.ADC_CNT_ABORT u)).toNat + 1) 0xFFFFFFFF)) ∧
        (c.slot = none → (s.auAt u).wait = none → (t.auAt u).act = some c ∧ (t.auAt u).wait = some q) ∧
        (c.slot = none → (s.auAt u).wait ≠ none → (t.auAt u).act = some c ∧ (t.auAt u).wait = (s.auAt u).wait ∧
          t.rd (Reg.ADC_CNT_UREF u) = W (min ((s.rd (Reg.ADC_CNT_UREF u)).toNat + 1) 0xFFFFFFFF))) ∧
    -- ADC_SWTRG_WRITE (R89): a named slot with software as its source starts its delay
    (∀ core slots i, core < 6 → slots < 16 → i < 4 → s.domainOn 3 = true → s.on (Reg.ADC_CTRL u) Fld.ADC_CTRL_en = true →
      s.cpuRatioOk = true → s.adcRatioOk = true → bit slots i = true → s.fld (Reg.ADC_TRG u i) Fld.ADC_TRG_skind = 5 → s.slotBusy u i = false →
      (s.auAt u).delay.length = 4 → Runs (.adcSwtrgWrite core u slots) s fun t =>
        (t.auAt u).delay.getD i none = some (s.dtb + s.fld (Reg.ADC_TDLY u i) Fld.ADC_TDLY_dly)) ∧
    -- ADC_CAL_START, ADC_CAL_DONE (R109): 8,192 CLK_ADC cycles, then one offset for each gain
    (∀ core, core < 6 → s.domainOn 3 = true → s.cpuRatioOk = true → s.on (Reg.ADC_CTRL u) Fld.ADC_CTRL_en = false →
      s.on (Reg.ADC_STATUS u) Fld.ADC_STATUS_cal_busy = false → Runs (.adcCalStart core u) s fun t =>
        t.fld (Reg.ADC_STATUS u) Fld.ADC_STATUS_cal_busy = 1 ∧ (t.auAt u).calDue = some (s.dtb + 20480)) ∧
    (∀ d m0 m1 m2 m3, (s.auAt u).calDue = some d → Runs (.adcCalDone u m0 m1 m2 m3) s fun t =>
      t.dtb = max s.dtb d ∧ t.fld (Reg.ADC_STATUS u) Fld.ADC_STATUS_cal_busy = 0 ∧ (t.auAt u).calDue = none ∧
      t.fld (Reg.ADC_OFS u 0) Fld.ADC_OFS_ofs = ux 16 m0 ∧
      t.fld (Reg.ADC_OFS u 1) Fld.ADC_OFS_ofs = ux 16 m1 ∧
      t.fld (Reg.ADC_OFS u 2) Fld.ADC_OFS_ofs = ux 16 m2 ∧
      t.fld (Reg.ADC_OFS u 3) Fld.ADC_OFS_ofs = ux 16 m3) ∧
    -- ADC_DISABLE (R108): conversions, pending slots, delays and urgent requests end
    (∀ core, core < 6 → s.domainOn 3 = true → s.cpuRatioOk = true → s.on (Reg.ADC_CTRL u) Fld.ADC_CTRL_en = true →
      Runs (.adcDisable core u) s fun t => t.fld (Reg.ADC_CTRL u) Fld.ADC_CTRL_en = 0 ∧
        t.fld (Reg.ADC_STATUS u) Fld.ADC_STATUS_pend = 0 ∧ (t.auAt u).act = none ∧ (t.auAt u).wait = none ∧
        (t.auAt u).incoming = (s.auAt u).incoming.filter (fun r => s.dtb < r.arrive) ∧ (t.auAt u).running = none ∧ (t.auAt u).delay = List.replicate 4 none) ∧
    -- TRIGGER_TIMER_FIRE (R111): the next firing follows one period later
    (∀ n d, n < 8 → s.tt.getD n none = some d → Runs (.triggerTimerFire n) s fun t => t.dtb = max s.dtb d ∧
      t.tt.getD n none = some (d + s.fld (Reg.TT_PER n) Fld.TT_PER_per))

/-- The word of every Canter instruction whose operands fit their fields is a legal word with its opcode, every field reads back, and
no two instructions have one word (R123, R126). -/
def Obligations.CanterWords : Prop :=
  (∀ (c : Instr) (e l op : Nat) (fs : List (Field × Nat)), c.canter = some (e, l, op, fs) → (∀ f ∈ fs, f.2 < 2 ^ f.1.len) →
    canLegal (canWord op fs) = true ∧ canOp (canWord op fs) = op ∧ ∀ f ∈ fs, Word.get (canWord op fs) f.1 = f.2) ∧
  ∀ (c d : Instr) (e l m n : Nat) (fs gs : List (Field × Nat)), c.canter = some (e, l, m, fs) → d.canter = some (e, l, n, gs) →
    (∀ f ∈ fs, f.2 < 2 ^ f.1.len) → (∀ g ∈ gs, g.2 < 2 ^ g.1.len) → canWord m fs = canWord n gs → c = d

/-- A Canter instruction changes its own engine and law slot only, and there no register, tag, accumulator or flag that its word does not
write (R113, R114, R117, R123). -/
def Obligations.CanterFrame : Prop :=
  ∀ (s t : State) (c : Instr) (e l op : Nat) (fs : List (Field × Nat)), s.Inv → c.canter = some (e, l, op, fs) → exec c s = .next t →
    (∀ e', e' ≠ e → t.ceAt e' = s.ceAt e') ∧ (∀ l', l' ≠ l → t.lawAt e l' = s.lawAt e l') ∧
    -- the committed register file, and the banks of a law with a lookahead
    (op ≠ 0x01 → (t.ceAt e).prevTag = (s.ceAt e).prevTag) ∧
    (∀ k, op ≠ 0x01 → k ∉ (canUse (canWord op fs)).dst →
      (t.ceAt e).bank.d.getD k 0 = (s.ceAt e).bank.d.getD k 0 ∧ (t.ceAt e).bank.tag.getD k false = (s.ceAt e).bank.tag.getD k false) ∧
    (∀ k sel, op ∉ [0x01, 0x2F, 0x3A] → k ∉ (canUse (canWord op fs)).dst → s.dGet e l sel k = t.dGet e l sel k ∧ s.dTag e l sel k = t.dTag e l sel k) ∧
    -- END commits registers of the law's own range only
    (∀ k, k < 64 → op = 0x01 → s.inRange e l k = false → (s.ceAt e).bank.d.length = 64 → (s.ceAt e).bank.tag.length = 64 →
      (t.ceAt e).bank.d.getD k 0 = (s.ceAt e).bank.d.getD k 0 ∧ (t.ceAt e).bank.tag.getD k false = (s.ceAt e).bank.tag.getD k false) ∧
    -- accumulators and flags
    (∀ a, a ∉ (canUse (canWord op fs)).adst → (t.ceAt e).acc.getD a 0 = (s.ceAt e).acc.getD a 0) ∧
    ((canUse (canWord op fs)).writesFlags = false → (t.ceAt e).n = (s.ceAt e).n ∧ (t.ceAt e).z = (s.ceAt e).z)

/-- Canter instructions on data registers: value, saturation and tag (R113, R116, R120, R126, R605). -/
def Obligations.CanterData : Prop :=
  ∀ (s : State) (e l : Nat) (c : Section) (tt : Nat), s.Inv →
    -- LDI, MOV (R116, R126)
    (∀ d imm, d < 64 → Issues s e l 0x08 [(fD, d), (fImm, imm)] c tt → Runs (.canLdi e l d imm) s fun t => Issued s e l c tt t ∧ Holds t e l c.sel d (sx 16 imm) false) ∧
    -- MOV copies the tag
    (∀ d x, d < 64 → Issues s e l 0x09 [(fD, d), (fX, x)] c tt → Runs (.canMov e l d x) s fun t => Issued s e l c tt t ∧ Holds t e l c.sel d (s.dx e l c x) (s.dTag e l c.sel x)) ∧
    -- ADD, SUB, NEG, ABS saturate
    (∀ d x y, d < 64 → Issues s e l 0x0A [(fD, d), (fX, x), (fY, y)] c tt → Runs (.canAdd e l d x y) s fun t => Issued s e l c tt t ∧ HoldsSat t e l c.sel d (s.dx e l c x + s.dx e l c y)) ∧
    -- SUB
    (∀ d x y, d < 64 → Issues s e l 0x0B [(fD, d), (fX, x), (fY, y)] c tt → Runs (.canSub e l d x y) s fun t => Issued s e l c tt t ∧ HoldsSat t e l c.sel d (s.dx e l c x - s.dx e l c y)) ∧
    -- NEG
    (∀ d x, d < 64 → Issues s e l 0x0C [(fD, d), (fX, x)] c tt → Runs (.canNeg e l d x) s fun t => Issued s e l c tt t ∧ HoldsSat t e l c.sel d (-s.dx e l c x)) ∧
    -- ABS
    (∀ d x, d < 64 → Issues s e l 0x0D [(fD, d), (fX, x)] c tt → Runs (.canAbs e l d x) s fun t => Issued s e l c tt t ∧ HoldsSat t e l c.sel d (if s.dx e l c x < 0 then -s.dx e l c x else s.dx e l c x)) ∧
    -- MIN, MAX
    (∀ d x y, d < 64 → Issues s e l 0x0E [(fD, d), (fX, x), (fY, y)] c tt → Runs (.canMin e l d x y) s fun t => Issued s e l c tt t ∧ Holds t e l c.sel d (if s.dx e l c x ≤ s.dx e l c y then s.dx e l c x else s.dx e l c y) false) ∧
    -- MAX
    (∀ d x y, d < 64 → Issues s e l 0x0F [(fD, d), (fX, x), (fY, y)] c tt → Runs (.canMax e l d x y) s fun t => Issued s e l c tt t ∧ Holds t e l c.sel d (if s.dx e l c x ≤ s.dx e l c y then s.dx e l c y else s.dx e l c x) false) ∧
    -- LIM: min(max(x, lo), hi), with a tag if the result differs from x
    (∀ d x lo hi, d < 64 → Issues s e l 0x10 [(fD, d), (fX, x), (fY, lo), (fZ, hi)] c tt → Runs (.canLim e l d x lo hi) s fun t => Issued s e l c tt t ∧ Holds t e l c.sel d (min (max (s.dx e l c x) (s.dx e l c lo)) (s.dx e l c hi)) (min (max (s.dx e l c x) (s.dx e l c lo)) (s.dx e l c hi) ≠ s.dx e l c x)) ∧
    -- SHF (R605): x × 2^s, a right shift rounded as in R115
    (∀ d x k, d < 64 → k < 64 → Issues s e l 0x11 [(fD, d), (fX, x), (fY, k)] c tt → Runs (.canShf e l d x k) s fun t => Issued s e l c tt t ∧ HoldsSat t e l c.sel d (if 0 ≤ sx 6 k then s.dx e l c x * 2 ^ (sx 6 k).toNat else (s.dx e l c x + 2 ^ ((-sx 6 k).toNat - 1)) / 2 ^ (-sx 6 k).toNat)) ∧
    -- ADDW: modulo 2^16
    (∀ d x y, d < 64 → Issues s e l 0x12 [(fD, d), (fX, x), (fY, y)] c tt → Runs (.canAddw e l d x y) s fun t => Issued s e l c tt t ∧ Holds t e l c.sel d (s.dx e l c x + s.dx e l c y) false) ∧
    -- LDK (R120)
    (∀ d k, d < 64 → k < 4096 → Issues s e l 0x2A [(fD, d), (fC, k)] c tt → Runs (.canLdk e l d k) s fun t => Issued s e l c tt t ∧ Holds t e l c.sel d (s.coef e k) false)

/-- Canter instructions on accumulators (R114, R126): the exact sum, saturated at 40 bits. It rests on the model's choices of log 18. -/
def Obligations.CanterAccumulators : Prop :=
  ∀ (s : State) (e l : Nat) (c : Section) (tt : Nat), s.Inv →
    -- MUL, MAC, MSU (R114): exact products in Q30
    (∀ a x y, a < 4 → Issues s e l 0x14 [(fA, a), (fAx, x), (fAy, y)] c tt → Runs (.canMul e l a x y) s fun t => Issued s e l c tt t ∧ Accumulates t e l a (s.dx e l c x * s.dx e l c y)) ∧
    -- MAC
    (∀ a x y, a < 4 → Issues s e l 0x15 [(fA, a), (fAx, x), (fAy, y)] c tt → Runs (.canMac e l a x y) s fun t => Issued s e l c tt t ∧ Accumulates t e l a (s.acc e a + s.dx e l c x * s.dx e l c y)) ∧
    -- MSU
    (∀ a x y, a < 4 → Issues s e l 0x16 [(fA, a), (fAx, x), (fAy, y)] c tt → Runs (.canMsu e l a x y) s fun t => Issued s e l c tt t ∧ Accumulates t e l a (s.acc e a - s.dx e l c x * s.dx e l c y)) ∧
    -- MULC, MACC: with coefficient k
    (∀ a x k, a < 4 → k < 4096 → Issues s e l 0x17 [(fA, a), (fAx, x), (fC, k)] c tt → Runs (.canMulc e l a x k) s fun t => Issued s e l c tt t ∧ Accumulates t e l a (s.dx e l c x * s.coef e k)) ∧
    -- MACC
    (∀ a x k, a < 4 → k < 4096 → Issues s e l 0x18 [(fA, a), (fAx, x), (fC, k)] c tt → Runs (.canMacc e l a x k) s fun t => Issued s e l c tt t ∧ Accumulates t e l a (s.acc e a + s.dx e l c x * s.coef e k)) ∧
    -- DMAC: two accumulators, a even
    (∀ a x y, a < 4 → a % 2 = 0 → Issues s e l 0x19 [(fA, a), (fAx, x), (fAy, y)] c tt → Runs (.canDmac e l a x y) s fun t => Issued s e l c tt t ∧ Accumulates t e l a (s.acc e a + s.dx e l c x * s.dx e l c y) ∧
      Accumulates t e l (a + 1) (s.acc e (a + 1) + s.dx e l c (x + 1) * s.dx e l c (y + 1))) ∧
    -- DOT: two products into one accumulator
    (∀ a x y, a < 4 → Issues s e l 0x1A [(fA, a), (fAx, x), (fAy, y)] c tt → Runs (.canDot e l a x y) s fun t => Issued s e l c tt t ∧ Accumulates t e l a (s.acc e a + s.dx e l c x * s.dx e l c y + s.dx e l c (x + 1) * s.dx e l c (y + 1))) ∧
    -- LDA, ADDA, SUBA
    (∀ a x, a < 4 → Issues s e l 0x1B [(fA, a), (fAx, x)] c tt → Runs (.canLda e l a x) s fun t => Issued s e l c tt t ∧ Accumulates t e l a (s.dx e l c x * 2 ^ 15)) ∧
    -- ADDA
    (∀ a b, a < 4 → b < 4 → Issues s e l 0x1C [(fA, a), (fB, b)] c tt → Runs (.canAdda e l a b) s fun t => Issued s e l c tt t ∧ Accumulates t e l a (s.acc e a + s.acc e b)) ∧
    -- SUBA
    (∀ a b, a < 4 → b < 4 → Issues s e l 0x1D [(fA, a), (fB, b)] c tt → Runs (.canSuba e l a b) s fun t => Issued s e l c tt t ∧ Accumulates t e l a (s.acc e a - s.acc e b)) ∧
    -- SHA: exact where the shift is exact, either neighbour where it is not (log 18)
    (∀ a k, a < 4 → k < 64 → Issues s e l 0x1E [(fA, a), (fS6, k)] c tt → Runs (.canSha e l a k) s fun t => Issued s e l c tt t ∧ (0 ≤ sx 6 k → Accumulates t e l a (s.acc e a * 2 ^ (sx 6 k).toNat)) ∧
      (sx 6 k < 0 → s.acc e a % 2 ^ (-sx 6 k).toNat = 0 → Accumulates t e l a (s.acc e a / 2 ^ (-sx 6 k).toNat)) ∧
      (sx 6 k < 0 → Accumulates t e l a (s.acc e a / 2 ^ (-sx 6 k).toNat) ∨ Accumulates t e l a (s.acc e a / 2 ^ (-sx 6 k).toNat + 1)))

/-- The rotator and the divide unit of the Canter engines (R605). -/
def Obligations.CanterVectors : Prop :=
  ∀ (s : State) (e l : Nat) (c : Section) (tt : Nat), s.Inv →
    -- SINCOS (R605): no tag
    (∀ d x, d < 63 → Issues s e l 0x20 [(fD, d), (fX, x)] c tt → Runs (.canSincos e l d x) s fun t => Issued s e l c tt t ∧ Holds t e l c.sel d (cosQ (s.dx e l c x)) false ∧ Holds t e l c.sel (d + 1) (sinQ (s.dx e l c x)) false) ∧
    -- PARK, IPARK (R605): one rounding of the exact sum of two products
    (∀ d x y th, d < 63 → Issues s e l 0x21 [(fD, d), (fX, x), (fY, y), (fZ, th)] c tt → Runs (.canPark e l d x y th) s fun t => Issued s e l c tt t ∧ HoldsSat t e l c.sel d ((s.dx e l c x * cosQ (s.dx e l c th) + s.dx e l c y * sinQ (s.dx e l c th) + 2 ^ 14) / 2 ^ 15) ∧
      HoldsSat t e l c.sel (d + 1) ((-(s.dx e l c x * sinQ (s.dx e l c th)) + s.dx e l c y * cosQ (s.dx e l c th) + 2 ^ 14) / 2 ^ 15)) ∧
    -- IPARK
    (∀ d x y th, d < 63 → Issues s e l 0x22 [(fD, d), (fX, x), (fY, y), (fZ, th)] c tt → Runs (.canIpark e l d x y th) s fun t => Issued s e l c tt t ∧ HoldsSat t e l c.sel d ((s.dx e l c x * cosQ (s.dx e l c th) - s.dx e l c y * sinQ (s.dx e l c th) + 2 ^ 14) / 2 ^ 15) ∧
      HoldsSat t e l c.sel (d + 1) ((s.dx e l c x * sinQ (s.dx e l c th) + s.dx e l c y * cosQ (s.dx e l c th) + 2 ^ 14) / 2 ^ 15)) ∧
    -- CLARKE (R605)
    (∀ d x y, d < 63 → Issues s e l 0x23 [(fD, d), (fX, x), (fY, y)] c tt → Runs (.canClarke e l d x y) s fun t => Issued s e l c tt t ∧ Holds t e l c.sel d (s.dx e l c x) false ∧ HoldsSat t e l c.sel (d + 1) (divSqrt3 (s.dx e l c x + 2 * s.dx e l c y))) ∧
    -- SVM (R605): three duties
    (∀ d x y, d < 62 → Issues s e l 0x24 [(fD, d), (fX, x), (fY, y)] c tt → Runs (.canSvm e l d x y) s fun t => Issued s e l c tt t ∧ ∀ k, k < 3 → Holds t e l c.sel (d + k) (svmDuty (s.dx e l c x) (s.dx e l c y) k).1 (svmDuty (s.dx e l c x) (s.dx e l c y) k).2) ∧
    -- DIV (R605): the exact quotient rounded once; y = 0 gives the limit with its tag
    (∀ d x y, d < 64 → Issues s e l 0x25 [(fD, d), (fX, x), (fY, y)] c tt → Runs (.canDiv e l d x y) s fun t => Issued s e l c tt t ∧ (s.dx e l c y = 0 → Holds t e l c.sel d (if 0 ≤ s.dx e l c x then 32767 else -32768) true) ∧
      (0 < s.dx e l c y → HoldsSat t e l c.sel d ((2 * (s.dx e l c x * 32768) + s.dx e l c y) / (2 * s.dx e l c y))) ∧
      (s.dx e l c y < 0 → HoldsSat t e l c.sel d ((2 * (-(s.dx e l c x) * 32768) + -(s.dx e l c y)) / (2 * -(s.dx e l c y))))) ∧
    -- SQRT (R605): the nearest to the exact root; a negative operand gives 0 with its tag
    (∀ d x, d < 64 → Issues s e l 0x26 [(fD, d), (fX, x)] c tt → Runs (.canSqrt e l d x) s fun t => Issued s e l c tt t ∧ (s.dx e l c x < 0 → Holds t e l c.sel d 0 true) ∧
      (∀ q : Int, 0 ≤ s.dx e l c x → 0 ≤ q → q ≤ 32767 → (2 * q - 1) * (2 * q - 1) ≤ 4 * (s.dx e l c x * 32768) ∨ q = 0 → 4 * (s.dx e l c x * 32768) < (2 * q + 1) * (2 * q + 1) → Holds t e l c.sel d q false))

/-- Paddock accesses, outputs and the run-ahead instructions of the Canter engines (R122, R132, R137, R158-R174). It rests on the model's
choices of logs 17, 74. -/
def Obligations.CanterPaths : Prop :=
  ∀ (s : State) (e l : Nat) (c : Section) (tt : Nat), s.Inv →
    -- LDS (R77, R137): the read waits for its bank, and the register for the read
    (∀ d sg, d < 64 → sg < 2 ^ 20 → d < c.sched.rdyD.length → Issues s e l 0x2C [(fD, d), (fSig, sg)] c tt → Runs (.canLds e l d sg) s fun t => Issued s e l c tt t ∧ (∀ p, p = max (tt + 1) (s.ceAt e).portNext → (t.ceAt e).portNext = p + 1 ∧
        (s.ctlRatioOk = true → t.paddock.waiting = s.paddock.waiting ++ [{ sig := sg, req := p, kind := .lawRead e l d c.sel c.t (tt + 36) }])) ∧
      (t.ceAt e).port.getLast? = some none ∧ (t.lawAt e l).sec.map (fun r => r.sched.rdyD.getD d (some 0)) = some none) ∧
    -- STS (R137, R172): posted, or held until END in a settle section
    (∀ d sg, d < 64 → sg < 2 ^ 20 → Issues s e l 0x2D [(fD, d), (fSig, sg)] c tt → Runs (.canSts e l d sg) s fun t => Issued s e l c tt t ∧ (s.lawAhead e l = false → ∀ p, p = max (tt + 1) (s.ceAt e).portNext → (t.ceAt e).port.getLast? = some none ∧ (t.ceAt e).portNext = p + 1 ∧
        (s.ctlRatioOk = true → t.paddock.waiting = s.paddock.waiting ++ [{ sig := sg, req := p, kind := .lawWrite e l (Wi (s.dx e l c d)) c.t qValid }])) ∧
      (s.lawAhead e l = true → (t.lawAt e l).held = (s.lawAt e l).held ++ [(sg, Wi (s.dx e l c d))])) ∧
    -- TLT (R122, R124): the four neighbouring entries, in consecutive cycles
    (∀ d x y t0, d < 63 → t0 < 16 → Issues s e l 0x29 [(fD, d), (fX, x), (fY, y), (fT, t0)] c tt → Runs (.canTlt e l d x y t0) s fun t => Issued s e l c tt t ∧ ∀ nx ny sg i j i' j' p, nx = s.fld (Reg.CE_TBL e t0) Fld.CE_TBL_nx → nx ≤ 7 → ny = s.fld (Reg.CE_TBL e t0) Fld.CE_TBL_ny → ny ≤ 7 →
      sg = s.fld (Reg.CE_TBL e t0) Fld.CE_TBL_sig → i = (max (s.dx e l c x) 0).toNat / 2 ^ (15 - nx) → j = (max (s.dx e l c y) 0).toNat / 2 ^ (15 - ny) →
      i' = (if i + 1 = 2 ^ nx then i else i + 1) → j' = (if j + 1 = 2 ^ ny then j else j + 1) →
      p = max (tt + 1) (s.ceAt e).portNext → (t.lawAt e l).seg = i ∧ (t.ceAt e).portNext = p + 4 ∧
        (s.ctlRatioOk = true → t.paddock.waiting = s.paddock.waiting ++ [
          { sig := sg + 2 ^ nx * j + i, req := p, kind := .lawTable e l p 0 }, { sig := sg + 2 ^ nx * j + i', req := p + 1, kind := .lawTable e l p 1 },
          { sig := sg + 2 ^ nx * j' + i, req := p + 2, kind := .lawTable e l p 2 }, { sig := sg + 2 ^ nx * j' + i', req := p + 3, kind := .lawTable e l p 3 }])) ∧
    -- OUTD (R132, R165): the compare word of a duty for period value P, staged; P of a stopped generator is its shadow (log 17)
    (∀ k x, k < 8 → Issues s e l 0x34 [(fKo, k), (fX, x)] c tt → Runs (.canOutd e l k x) s fun t => Issued s e l c tt t ∧
      (c.look = false → (t.lawAt e l).staged = (s.lawAt e l).staged.set k (some (dutyWord (s.dx e l c x) (s.outPeriod e l k)))) ∧
      (c.look = true → (t.lawAt e l).fbSet = (s.lawAt e l).fbSet.set k (some (dutyWord (s.dx e l c x) (s.outPeriod e l k))))) ∧
    -- PRD (R158, R160): the prediction of capture k
    (∀ d k, d < 64 → k < 8 → Issues s e l 0x38 [(fD, d), (fK, k)] c tt → Runs (.canPrd e l d k) s fun t => Issued s e l c tt t ∧ Holds t e l c.sel d (s.prediction e l k c.sel) false) ∧
    -- BND (R163, R164): one bound per branch and capture, read from the bank of the part it opens or continues
    (∀ b k lo hi, b < 2 → k < 8 → Issues s e l 0x39 [(fBb, b), (fKb, k), (fY, lo), (fZ, hi)] c tt → Runs (.canBnd e l b k lo hi) s fun t => Issued s e l c tt t ∧
      (t.lawAt e l).sec.map (fun r => r.sel) = some (if c.look then s.partOf e l c.pc else c.sel) ∧
      (t.lawAt e l).bounds = (s.lawAt e l).bounds.filter (fun y => !(y.branch = b && y.cap = k)) ++ [{ branch := b, cap := k, lo := s.dGet e l c.sel lo, hi := s.dGet e l c.sel hi }]) ∧
    -- SEL (R168, R170, R174): the bank whose bounds all hold, or a miss two cycles later
    (Issues s e l 0x3A [] c tt → Runs (.canSel e l) s fun t => (s.selOutcome e l ((s.lawAt e l).snap.map (·.fresh)) = 1 → (t.lawAt e l).sec.map (fun r => r.sel) = some .a) ∧
      (s.selOutcome e l ((s.lawAt e l).snap.map (·.fresh)) = 2 → (t.lawAt e l).sec.map (fun r => r.sel) = some .b) ∧
      (s.selOutcome e l ((s.lawAt e l).snap.map (·.fresh)) = 3 → (t.lawAt e l).sec = none ∧ (t.lawAt e l).prevMissed = true ∧ t.dtb = max s.dtb (tt + 2) ∧
        t.fld (Reg.LAW_RSTAT e l) Fld.LAW_RSTAT_last = 3) ∧
      (s.selOutcome e l ((s.lawAt e l).snap.map (·.fresh)) = 4 → (t.lawAt e l).sec = none ∧ (t.lawAt e l).prevMissed = true ∧ t.dtb = max s.dtb (tt + 2) ∧
        t.fld (Reg.LAW_RSTAT e l) Fld.LAW_RSTAT_last = 4)) ∧
    -- CORR (R171): the result corrected by g times the prediction error
    (∀ d x g k, d < 64 → k < 8 → Issues s e l 0x3B [(fD, d), (fX, x), (fY, g), (fK, k)] c tt → Runs (.canCorr e l d x g k) s fun t => Issued s e l c tt t ∧ ∀ df, df = (s.capture e l c k).v.toInt - s.prediction e l k c.sel →
      (s.fld (Reg.LAW_PRD e l k) Fld.LAW_PRD_kind ≠ 2 → HoldsSat t e l c.sel d ((s.dx e l c x * 32768 + s.dx e l c g * df + 2 ^ 14) / 2 ^ 15)) ∧
      (s.fld (Reg.LAW_PRD e l k) Fld.LAW_PRD_kind = 2 → HoldsSat t e l c.sel d ((s.dx e l c x * 32768 + s.dx e l c g * sx 16 (ux 16 df) + 2 ^ 14) / 2 ^ 15)))

/-- Control, captures, urgent requests and the integrator of the Canter engines (R101, R117, R125, R134, R136-R140). It rests on the
model's choices of log 15. -/
def Obligations.CanterControl : Prop :=
  ∀ (s : State) (e l : Nat) (c : Section) (tt : Nat), s.Inv →
    -- NOP, CMP, TST (R117, R126)
    (Issues s e l 0x00 [] c tt → Runs (.canNop e l) s fun t => Issued s e l c tt t ∧ (t.ceAt e).n = (s.ceAt e).n ∧ (t.ceAt e).z = (s.ceAt e).z) ∧
    -- CMP: N and Z of the exact difference
    (∀ x y, Issues s e l 0x03 [(fX, x), (fY, y)] c tt → Runs (.canCmp e l x y) s fun t => Issued s e l c tt t ∧ (t.ceAt e).n = decide (s.dx e l c x < s.dx e l c y) ∧ (t.ceAt e).z = decide (s.dx e l c x = s.dx e l c y)) ∧
    -- TST
    (∀ x, Issues s e l 0x04 [(fX, x)] c tt → Runs (.canTst e l x) s fun t => Issued s e l c tt t ∧ (t.ceAt e).n = decide (s.dx e l c x < 0) ∧ (t.ceAt e).z = decide (s.dx e l c x = 0)) ∧
    -- SKIP (R125): the conditions 0 to 11
    (∀ cond r n, cond < 12 → r < 64 → n < 256 → Issues s e l 0x02 [(fCond, cond), (fR, r), (fN, n)] c tt → Runs (.canSkip e l cond r n) s fun t => t.dtb = max s.dtb tt ∧ (t.lawAt e l).sec.map (fun k => k.pc) = some (c.pc + 1 + if
        [true, (s.ceAt e).z, !(s.ceAt e).z, (s.ceAt e).n, !(s.ceAt e).n, !(s.ceAt e).n && !(s.ceAt e).z, (s.ceAt e).n || (s.ceAt e).z, s.dTag e l c.sel r,
          (s.ceAt e).prevTag.getD r false, (s.capture e l c (r % 8)).ovr, (s.capture e l c (r % 8)).q = qInit || (s.capture e l c (r % 8)).q = qInvalid,
          (s.lawAt e l).prevMissed].getD cond false then n else 0)) ∧
    -- END (R134, R140): of a plain law: counted, outputs due L cycles after the trigger
    (s.lawAhead e l = false → c.look = false → Issues s e l 0x01 [] c tt → Runs (.canEnd e l) s fun t => t.dtb = max s.dtb tt ∧ (t.lawAt e l).sec = none ∧
      (t.lawAt e l).outDue = some (c.t + s.lawL e l, (s.lawAt e l).staged) ∧ t.rd (Reg.LAW_CNT_RUN e l) = W (min ((s.rd (Reg.LAW_CNT_RUN e l)).toNat + 1) 0xFFFFFFFF)) ∧
    -- END of a lookahead section (R166)
    (c.look = true → Issues s e l 0x01 [] c tt → Runs (.canEnd e l) s fun t => (t.lawAt e l).sec = none ∧ t.on (Reg.LAW_RSTAT e l) Fld.LAW_RSTAT_lah_valid = true ∧ (t.lawAt e l).outDue = (s.lawAt e l).outDue) ∧
    -- LDC (R136): capture k as latched
    (∀ d k, d < 64 → k < 8 → Issues s e l 0x2E [(fD, d), (fK, k)] c tt → Runs (.canLdc e l d k) s fun t => Issued s e l c tt t ∧ Holds t e l c.sel d (s.capture e l c k).v.toInt false) ∧
    -- LDU (R101, R138): after urgent-done, else the law misses
    (∀ d k, d < 64 → k < 8 → c.urg = .done → Issues s e l 0x2F [(fD, d), (fK, k)] c tt → Runs (.canLdu e l d k) s fun t => Issued s e l c tt t ∧ Holds t e l c.sel d (((s.lawAt e l).caps.getD k {}).v.toInt) false) ∧
    -- the miss
    (∀ d k, d < 64 → k < 8 → c.urg ≠ .done → Issues s e l 0x2F [(fD, d), (fK, k)] c tt → Runs (.canLdu e l d k) s fun t => (t.lawAt e l).sec = none ∧ (t.lawAt e l).prevMissed = true ∧ t.fld (Reg.LAW_RSTAT e l) Fld.LAW_RSTAT_last = 6) ∧
    -- URG (R95, R138): requester 1 + e, two cycles after the issue
    (∀ u k, u < 16 → k < 16 → Issues s e l 0x30 [(fU, u), (fE, k)] c tt → Runs (.canUrg e l u k) s fun t => Issued s e l c tt t ∧ (t.lawAt e l).sec.map (fun r => r.urg) = some .issued ∧
      (t.auAt u).incoming = (s.auAt u).incoming ++ [{
        asker := { requester := 1 + e, law := l, start := c.t }, entry := k, arrive := tt + 2 }]) ∧
    -- INT (R139): the 32-bit integrator; stopped by the previous tag of its link register
    (∀ n x g k, n < 63 → k < 64 → Issues s e l 0x31 [(fD, n), (fX, x), (fY, g), (fZ, k)] c tt → Runs (.canInt e l n x g k) s fun t => Issued s e l c tt t ∧ ((s.ceAt e).prevTag.getD k false = true → (t.ceAt e).bank = (s.ceAt e).bank) ∧
      ((s.ceAt e).prevTag.getD k false = false → ∀ z, z = s.dx e l c n * 65536 + (ux 16 (s.dx e l c (n + 1)) : Int) + 2 * (s.dx e l c x * s.dx e l c g) →
        Holds t e l c.sel n (sat (-(2 ^ 31)) (2 ^ 31 - 1) z / 65536) (sat (-(2 ^ 31)) (2 ^ 31 - 1) z ≠ z) ∧
        Holds t e l c.sel (n + 1) (sat (-(2 ^ 31)) (2 ^ 31 - 1) z) (sat (-(2 ^ 31)) (2 ^ 31 - 1) z ≠ z)))

/-- ST (R115): sat16(floor((Aa + 2^14) / 2^15)), with the tag of Dd and LAW_STAT.sat. -/
def Obligations.StoreRounds : Prop :=
  ∀ (s : State) (e l : Nat) (c : Section) (tt d a : Nat), s.Inv → d < 64 → a < 4 → Issues s e l 0x1F [(fD, d), (fSa, a)] c tt →
    Runs (.canSt e l d a) s fun t => Issued s e l c tt t ∧ ∀ z, z = (s.acc e a + 2 ^ 14) / 2 ^ 15 →
      Holds t e l c.sel d (min (max z (-32768)) 32767) (decide (min (max z (-32768)) 32767 ≠ z)) ∧
      (min (max z (-32768)) 32767 ≠ z → t.on (Reg.LAW_STAT e l) Fld.LAW_STAT_sat = true)

/-- TLU (R121): the segment and the linear interpolation of a local table. -/
def Obligations.TableInterpolates : Prop :=
  ∀ (s : State) (e l : Nat) (c : Section) (tt d x t0 : Nat), s.Inv → d < 64 → t0 < 16 → Issues s e l 0x28 [(fD, d), (fX, x), (fT, t0)] c tt →
    Runs (.canTlu e l d x t0) s fun t => Issued s e l c tt t ∧ ∀ u i f n b, n = s.fld (Reg.CE_TBL e t0) Fld.CE_TBL_n →
      b = s.fld (Reg.CE_TBL e t0) Fld.CE_TBL_base → u = max (s.dx e l c x) 0 → i = u.toNat / 2 ^ (15 - n) → f = u.toNat % 2 ^ (15 - n) * 2 ^ n →
      (t.lawAt e l).seg = i ∧
      Holds t e l c.sel d ((s.coef e (b + i) * 32768 + f * (s.coef e (b + (if i + 1 = 2 ^ n then i else i + 1)) - s.coef e (b + i)) + 2 ^ 14) / 2 ^ 15) false

/-- OUTD (R132) stages the compare word of a duty for the period value P of the running generator of its output. It rests on the model's
choices of log 17. -/
def Obligations.DutyOutputs : Prop :=
  ∀ (s : State) (e l : Nat) (c : Section) (tt k x g b : Nat) (P : Int), s.Inv →
    k < 8 → Issues s e l 0x34 [(fKo, k), (fX, x)] c tt → s.omap e l k = some (g, b) → s.running g = true → P = ((s.pgAt g).per : Int) →
      Runs (.canOutd e l k x) s fun t => Issued s e l c tt t ∧ ∀ w, w = (if s.dx e l c x ≤ 0 then 0 else if s.dx e l c x = 32767 then 0x3FFFFF else
        if 64 * P ≤ (s.dx e l c x * P * 64 + 2 ^ 14) / 2 ^ 15 then 0x3FFFFF else W ((s.dx e l c x * P * 64 + 2 ^ 14) / 2 ^ 15).toNat) →
      (c.look = false → (t.lawAt e l).staged = (s.lawAt e l).staged.set k (some w)) ∧ (c.look = true → (t.lawAt e l).fbSet = (s.lawAt e l).fbSet.set k (some w))

/-- OUTC (R133) stages the accumulator, limited to 0...0x3FFFFF, in place of any value staged for the output. -/
def Obligations.CompareOutputs : Prop :=
  ∀ (s : State) (e l : Nat) (c : Section) (tt k a : Nat), s.Inv →
    k < 8 → a < 4 → Issues s e l 0x35 [(fKo, k), (fAo, a)] c tt → Runs (.canOutc e l k a) s fun t => Issued s e l c tt t ∧
      ∀ w, w = Wi (min (max (s.acc e a) 0) 0x3FFFFF) →
      (c.look = false → (t.lawAt e l).staged = (s.lawAt e l).staged.set k (some w)) ∧ (c.look = true → (t.lawAt e l).fbSet = (s.lawAt e l).fbSet.set k (some w))

/-- The results of CLARKE and SVM come from the exact real values, rounded once as in R115 (R605): division by √3, and the duty
0.5 + v_k + m limited to 0...0x7FFF. -/
def Obligations.RealArithmetic : Prop :=
  (∀ v : Int, |v| < 2 ^ 20 → divSqrt3 v = ⌊(v : ℝ) / Real.sqrt 3 + 1 / 2⌋) ∧
  ∀ (x y : Int) (v : Nat → ℝ) (r : Int) (k : Nat), |x| ≤ 2 ^ 15 → |y| ≤ 2 ^ 15 → k < 3 →
    v 0 = x → v 1 = -(x : ℝ) / 2 + Real.sqrt 3 / 2 * y → v 2 = -(x : ℝ) / 2 - Real.sqrt 3 / 2 * y →
    r = ⌊16384 + v k - (max (v 0) (max (v 1) (v 2)) + min (v 0) (min (v 1) (v 2))) / 2 + 1 / 2⌋ →
    svmDuty x y k = (min (max r 0) 32767, decide (min (max r 0) 32767 ≠ r))

/-- The cosine and sine of SINCOS, PARK and IPARK are the real ones, rounded as in R115 and limited to 0x7FFF (R605). -/
def Obligations.TrigonometryIsExact : Prop :=
  ∀ th : Int, -32768 ≤ th → th < 32768 →
    cosQ th = min 32767 ⌊32768 * Real.cos (Real.pi * th / 32768) + 1 / 2⌋ ∧
    sinQ th = min 32767 ⌊32768 * Real.sin (Real.pi * th / 32768) + 1 / 2⌋

/-- Laws and their engines: the checks, the outputs, the misses and the coefficient memory (R119, R131-R149, R152-R175). It rests on the
model's choices of logs 12, 13, 105. -/
def Obligations.LawCommands : Prop :=
  ∀ (s : State) (e l : Nat), s.Inv → e < 12 → l < 4 →
    -- LAW_ENABLE (R142, R144): the check starts; while enabled or busy the write is ignored
    (∀ core v, core < 6 → s.domainOn 2 = true → s.cpuRatioOk = true → s.lawOn e l = false → s.lawBusy e l = false →
      Runs (.lawEnable core e l v) s fun t => t.fld (Reg.LAW_CTRL e l) Fld.LAW_CTRL_busy = 1 ∧
        t.fld (Reg.LAW_CTRL e l) Fld.LAW_CTRL_en = 0) ∧
    (∀ core v, core < 6 → s.domainOn 2 = true → s.cpuRatioOk = true → s.lawOn e l = true → Runs (.lawEnable core e l v) s fun t => t = s) ∧
    -- STATIC_CHECK_DONE (R142): err holds the first failed check; the law is enabled when every check passes
    (s.lawBusy e l = true → (s.lawAt e l).prod = none → Runs (.staticCheckDone e l) s fun t =>
      t.fld (Reg.LAW_STAT e l) Fld.LAW_STAT_err = s.staticCheck e l ∧ t.fld (Reg.LAW_CTRL e l) Fld.LAW_CTRL_busy = 0 ∧
      t.fld (Reg.LAW_CTRL e l) Fld.LAW_CTRL_en = if s.staticCheck e l = 0 then 1 else s.fld (Reg.LAW_CTRL e l) Fld.LAW_CTRL_en) ∧
    -- LAW_DISABLE (R147): the section ends, nothing staged is written, last result 9
    (∀ core, core < 6 → s.domainOn 2 = true → s.cpuRatioOk = true → s.lawOn e l = true → Runs (.lawDisable core e l) s fun t =>
      t.lawOn e l = false ∧ (t.lawAt e l).sec = none ∧ (t.lawAt e l).outDue = none ∧ (t.lawAt e l).fbDue = none ∧
      t.fld (Reg.LAW_RSTAT e l) Fld.LAW_RSTAT_last = 9) ∧
    -- CE_DISABLE, CE_ECC_DOUBLE_ERROR (R147, R149): all four laws are disabled
    (∀ core, core < 6 → s.domainOn 2 = true → s.cpuRatioOk = true → Runs (.ceDisable core e) s fun t =>
      t.fld (Reg.CE_CTRL e) Fld.CE_CTRL_en = 0 ∧ t.lawOn e l = false) ∧
    (Runs (.ceEccDoubleError (e, true)) s fun t => t.fld (Reg.CE_STATUS e) Fld.CE_STATUS_ecc_fatal = 1 ∧ t.lawOn e l = false ∧
      t.mg.reports = s.mg.reports ++ (s.engineStages e).map (fun st => { cls := 3, scope := scopeOf lvStage st })) ∧
    -- COEF_MEM_WRITE, COEF_MEM_WRITE_PERFORMED (R119): held, in order, until no window of the engine is open
    (∀ core i v, core < 6 → i < 4096 → s.domainOn 2 = true → s.cpuRatioOk = true → Runs (.coefMemWrite core e i v) s fun t =>
      (t.ceAt e).coefQ = (s.ceAt e).coefQ ++ [(i, v &&& 0xFFFF)]) ∧
    (∀ i v q, (s.ceAt e).coefQ = (i, v) :: q → s.coefBlocked e = false →
      Runs (.coefMemWritePerformed e) s fun t => (t.ceAt e).coefQ = q ∧ t.coef e i = sx 16 v.toNat) ∧
    -- LAW_OUTPUT_WRITE, LAW_FALLBACK_WRITE (R134, R145, R146): an output that is due reaches the shadow its map names
    (∀ d outs k g v, (s.lawAt e l).prod = none → (s.lawAt e l).outDue = some (d, outs) → s.lawTripped e l = false → k < 8 →
      s.omap e l k = some (g, 0) → outs.getD k none = some v → (∀ j, j < 8 → j ≠ k → s.omap e l j ≠ some (g, 0)) → g < 40 →
      Runs (.lawOutputWrite e l) s fun t => t.dtb = max s.dtb d ∧ t.rd (Reg.PWM_CMPA g) = v ∧ (t.lawAt e l).outDue = none) ∧
    (∀ d outs k g v, (s.lawAt e l).fbDue = some (d, outs) → s.lawTripped e l = false → k < 8 →
      s.omap e l k = some (g, 0) → outs.getD k none = some v → (∀ j, j < 8 → j ≠ k → s.omap e l j ≠ some (g, 0)) → g < 40 →
      Runs (.lawFallbackWrite e l) s fun t => t.dtb = max s.dtb d ∧ t.rd (Reg.PWM_CMPA g) = v ∧ (t.lawAt e l).fbDue = none) ∧
    -- LAW_LATE_MISS (R131, R145): no trigger by the end of WDUE; the fallback is due L cycles later
    (∀ f, (s.lawAt e l).frame = some f → s.lawOn e l = true → (s.lawAt e l).used = false → s.lawTripped e l = false →
      Runs (.lawLateMiss e l) s fun t => t.dtb = max s.dtb (f + s.lawDue e l) ∧ (t.lawAt e l).used = true ∧
        (t.lawAt e l).prevMissed = true ∧ ((t.lawAt e l).fbDue.map (·.1)) = some (f + s.lawDue e l + s.lawL e l) ∧
        t.fld (Reg.LAW_RSTAT e l) Fld.LAW_RSTAT_last = 5) ∧
    -- LOOKAHEAD_START (R152, R157): the lookahead section starts at frame cycle lopen on both banks
    (∀ f, (s.ceAt e).frame = some f → s.lawOn e l = true → s.lawAhead e l = true → (s.lawAt e l).prod = none → (s.lawAt e l).lookDone = false →
      (s.lawAt e l).sec = none → s.lawTripped e l = false →
      s.runsIn e l ((if (s.windowOf e l).2 < s.fld (Reg.LAW_LOPEN e l) Fld.LAW_LOPEN_lopen then 1 else 0) + ((s.rd (Reg.CE_FCNT e)).toNat - 1)) = true →
      ((s.windowOf e l).2 < s.fld (Reg.LAW_LOPEN e l) Fld.LAW_LOPEN_lopen ∨ (s.lawAt e l).frame = some f) →
      Runs (.lookaheadStart e l) s fun t => t.dtb = max s.dtb (f + s.fld (Reg.LAW_LOPEN e l) Fld.LAW_LOPEN_lopen) ∧
        (t.lawAt e l).lookDone = true ∧ (t.lawAt e l).bankA = (s.ceAt e).bank ∧ (t.lawAt e l).bankB = (s.ceAt e).bank ∧
        ((t.lawAt e l).sec.map (fun c => (c.look, c.pc, c.sel))) = some (true, s.fld (Reg.LAW_LAH e l) Fld.LAW_LAH_lentry, BankSel.both) ∧
        t.fld (Reg.LAW_RSTAT e l) Fld.LAW_RSTAT_lah_run = 1) ∧
    -- a corrected single-bit error is counted (R149)
    (Runs (.ceEccDoubleError (e, false)) s fun t => t.rd (Reg.CE_CNT_ECC e) = W (min ((s.rd (Reg.CE_CNT_ECC e)).toNat + 1) 0xFFFFFFFF) ∧
      t.lawOn e l = s.lawOn e l) ∧
    -- a production law passes its check, and its execution ends with its outputs at T + L (log 111)
    (s.lawBusy e l = true → (s.lawAt e l).prod.isSome = true → Runs (.staticCheckDone e l) s fun t =>
      t.fld (Reg.LAW_STAT e l) Fld.LAW_STAT_err = 0 ∧ t.lawBusy e l = false ∧ t.lawOn e l = true) ∧
    (∀ c, (s.lawAt e l).sec = some c → (s.lawAt e l).prod.isSome = true → Runs (.lawOutputWrite e l) s fun t =>
      t.dtb = max s.dtb (c.t + s.lawL e l) ∧ (t.lawAt e l).sec = none ∧ (t.lawAt e l).prod.isSome = true)

/-- The counter, the edges and the one-shots of a running generator `g` (R180-R193, R205-R206). It rests on the model's choices of logs 2,
106, 107. -/
def Obligations.PwmCounters : Prop :=
  ∀ (s : State) (g : Nat), s.Inv → g < 40 → s.running g = true →
    -- GENERATOR_PERIOD_START (R180, R197): the period value and, where ld asks for it, the compares are loaded
    (s.gmode g ≠ 2 → s.on (Reg.PWM_SYNC g) Fld.PWM_SYNC_en = false → Runs (.generatorPeriodStart g) s fun t =>
      t.dtb = max s.dtb (s.pgAt g).next ∧ (t.pgAt g).per = ((s.reach (s.pgAt g).next).shadow g 2).toNat ∧
      (t.pgAt g).next = t.dtb + (if s.updown g then 2 else 1) * ((t.pgAt g).per * s.presc g) ∧
      (0 < (t.pgAt g).per → t.counterWord g = 0) ∧
      (s.loadsStart g = true → t.rd (Reg.PWM_ACTA g) = (s.reach (s.pgAt g).next).shadow g 0 ∧
        t.rd (Reg.PWM_ACTB g) = (s.reach (s.pgAt g).next).shadow g 1)) ∧
    -- GENERATOR_CENTRE (R180)
    (s.updown g = true → (s.pgAt g).centreDone = false → Runs (.generatorCentre g) s fun t =>
      t.dtb = max s.dtb ((s.pgAt g).next - s.genCycles g / 2) ∧ (t.pgAt g).centreDone = true ∧
      (0 < (s.pgAt g).per → s.dtb ≤ (s.pgAt g).next - s.genCycles g / 2 → s.genCycles g / 2 ≤ (s.pgAt g).next →
        t.counterWord g = W ((s.pgAt g).per + 0x10000))) ∧
    -- COMPARE_A_MATCH (R187): at the coarse part on the up-count, or at the end of a COT on-time
    (s.gmode g ≠ 2 → (s.pgAt g).matchDone = false → (s.rd (Reg.PWM_ACTA g)).toNat / 64 < (s.pgAt g).per →
      s.on (Reg.PWM_SYNC g) Fld.PWM_SYNC_en = false → (s.updown g = true → (s.pgAt g).centreDone = false) → Runs (.compareAMatch g) s fun t =>
        t.dtb = max s.dtb ((s.pgAt g).next + (s.rd (Reg.PWM_ACTA g)).toNat / 64 * s.presc g - s.genCycles g) ∧
        (t.pgAt g).matchDone = true) ∧
    (∀ c, s.gmode g = 2 → (s.pgAt g).matchDone = false → (s.pgAt g).cotFall = some c → Runs (.compareAMatch g) s fun t =>
      t.dtb = max s.dtb (c / 64) ∧
      ((s.on (Reg.PWM_COT g) Fld.PWM_COT_src = true → s.fld (Reg.PWM_COT g) Fld.PWM_COT_gen ≠ g) → (t.pgAt g).matchDone = true)) ∧
    -- REFERENCE_EDGE (R188): one switch off at the edge, the other on after dead time
    (∀ c, (s.pgAt g).stretch = none → s.nextEdge g = some c → s.safeHeld g = false → s.single g = false →
      (s.gmode g = 2 ∨ s.pulseEnd g (!(s.pgAt g).r) c = none) →
      (∀ o, s.onSince g (s.pgAt g).r = some o → o + s.minp g ≤ c) →
      Runs (.referenceEdge g) s fun t => t.dtb = max s.dtb (c / 64) ∧ (t.pgAt g).r = !(s.pgAt g).r ∧
        (if (s.pgAt g).r then (t.pgAt g).hi = false ∧ ((s.pgAt g).lo = false → (t.pgAt g).pendLo = some (c + s.dt g))
         else (t.pgAt g).lo = false ∧ ((s.pgAt g).hi = false → (t.pgAt g).pendHi = some (c + s.dt g)))) ∧
    -- a held safe pattern keeps the switches (R215)
    (∀ c, (s.pgAt g).stretch = none → s.nextEdge g = some c → s.safeHeld g = true → Runs (.referenceEdge g) s fun t =>
      (t.pgAt g).hi = (s.pgAt g).hi ∧ (t.pgAt g).lo = (s.pgAt g).lo ∧ (t.pgAt g).r = !(s.pgAt g).r) ∧
    -- DEAD_TIME_END (R188)
    (∀ c, (s.pgAt g).pendHi = some c → (s.pgAt g).lo = false → Runs (.deadTimeEnd g) s fun t =>
      t.dtb = max s.dtb (c / 64) ∧ (t.pgAt g).hi = true ∧ (t.pgAt g).lo = false) ∧
    (∀ c, (s.pgAt g).pendHi = none → (s.pgAt g).pendLo = some c → (s.pgAt g).hi = false → Runs (.deadTimeEnd g) s fun t =>
      t.dtb = max s.dtb (c / 64) ∧ (t.pgAt g).lo = true ∧ (t.pgAt g).hi = false) ∧
    -- STRETCH_TURN_OFF (R192, R193)
    (∀ c, (s.pgAt g).stretch = some c → (s.gmode g = 2 ∨ s.pulseEnd g (!(s.pgAt g).r) c = none) →
      Runs (.stretchTurnOff g) s fun t => t.dtb = max s.dtb (c / 64) ∧ (t.pgAt g).r = !(s.pgAt g).r ∧
        (t.pgAt g).stretch = none) ∧
    -- COT_START_EVENT (R205, R206): a start, a held start, or a counted one
    (s.gmode g = 2 → (s.on (Reg.PWM_COT g) Fld.PWM_COT_src = true ∨ (18 ≤ g ∧ g < 22)) → (s.pgAt g).r = false → (s.pgAt g).cotReady ≤ s.dtb → (s.pgAt g).cotHeld = false →
      (s.pgAt g).stretch = none → Runs (.cotStartEvent g) s fun t =>
        (t.pgAt g).cotLast = s.dtb ∧ (t.pgAt g).per = (s.shadow g 2).toNat) ∧
    (s.gmode g = 2 → (s.on (Reg.PWM_COT g) Fld.PWM_COT_src = true ∨ (18 ≤ g ∧ g < 22)) → (s.pgAt g).r = true → (s.pgAt g).cotHeld = false → Runs (.cotStartEvent g) s fun t =>
      (t.pgAt g).cotHeld = true ∧ t.regs = s.regs) ∧
    (s.gmode g = 2 → (s.on (Reg.PWM_COT g) Fld.PWM_COT_src = true ∨ (18 ≤ g ∧ g < 22)) → (s.pgAt g).cotHeld = true → Runs (.cotStartEvent g) s fun t => t = s.inc (Reg.PWM_CNT_SYNC g)) ∧
    -- COT_MIN_OFF_END, COT_FORCED_START (R206): a forced start in the on-time or the minimum off-time is held
    (s.gmode g = 2 → (s.pgAt g).cotHeld = true → (s.pgAt g).r = false → (s.pgAt g).stretch = none →
      Runs (.cotMinOffEnd g) s fun t => t.dtb = max s.dtb (s.pgAt g).cotReady ∧ (t.pgAt g).cotLast = t.dtb ∧
        (t.pgAt g).cotHeld = false) ∧
    (∀ d, s.gmode g = 2 → (s.pgAt g).cotHeld = false → d = max s.dtb ((s.pgAt g).cotLast + (s.pgAt g).per) →
      Runs (.cotForcedStart g) s fun t => t.dtb = d ∧
        t.rd (Reg.PWM_CNT_FORCE g) = W (min ((s.rd (Reg.PWM_CNT_FORCE g)).toNat + 1) 0xFFFFFFFF) ∧
        (if ((s.pgAt g).cotFall.isSome && (s.pgAt g).r) || (s.pgAt g).stretch.isSome || (!(s.pgAt g).r && decide (d < (s.pgAt g).cotReady))
         then (t.pgAt g).cotHeld = true ∧ (t.pgAt g).cotLast = (s.pgAt g).cotLast
         else (t.pgAt g).cotHeld = false ∧ (t.pgAt g).cotLast = d)) ∧
    -- the first start of a COT generator whose phase is 0 (R202)
    (s.gmode g = 2 → (s.pgAt g).cotFirst = true → Runs (.generatorPeriodStart g) s fun t =>
      t.dtb = max s.dtb (s.pgAt g).cotLast ∧ (t.pgAt g).per = ((s.reach (s.pgAt g).cotLast).shadow g 2).toNat ∧
      (t.pgAt g).cotFirst = false ∧ (t.pgAt g).cotLast = t.dtb)

/-- Generator registers, the calibrator and the external trip inputs (R182, R199-R217). It rests on the model's choices of logs 2, 75. -/
def Obligations.PwmRegisters : Prop :=
  ∀ s : State, s.Inv → s.domainOn 2 = true → s.cpuRatioOk = true →
    -- PWM_ENABLE (R201, R202): an enable that passes the checks starts or waits; one that fails them sets cfg_err
    (∀ core g v, core < 6 → g < 40 → s.on (Reg.PWM_CTRL g) Fld.PWM_CTRL_en = false → (s.ctrlFields g v).2 = true →
      Runs (.pwmEnable core g v) s fun t =>
        if (s.ctrlFields g v).1.enableOk g then
          t.fld (Reg.PWM_CTRL g) Fld.PWM_CTRL_en = 1 ∧
          (if (s.ctrlFields g v).1.on (Reg.PWM_CTRL g) Fld.PWM_CTRL_gs then t.fld (Reg.PWM_STAT g) Fld.PWM_STAT_wait = 1
           else t.running g = true)
        else t.fld (Reg.PWM_STAT g) Fld.PWM_STAT_cfg_err = 1 ∧ t.pg = s.pg) ∧
    (∀ core g v, core < 6 → g < 40 → s.on (Reg.PWM_CTRL g) Fld.PWM_CTRL_en = true →
      Runs (.pwmEnable core g v) s fun t => t = s) ∧
    -- PWM_DISABLE (R204): ignored while tripped with a safe pattern other than OFF
    (∀ core g, core < 6 → g < 40 → s.on (Reg.PWM_CTRL g) Fld.PWM_CTRL_en = true → Runs (.pwmDisable core g) s fun t =>
      if s.tripFlag g && s.pat g ≠ 0 then t = s
      else t.fld (Reg.PWM_CTRL g) Fld.PWM_CTRL_en = 0 ∧ t.running g = false ∧ (t.pgAt g).hi = false ∧ (t.pgAt g).lo = false) ∧
    -- PWM_GSTART (R202)
    (∀ core v g, core < 6 → g < 40 → bit (s.gstartMask v) g = true → s.on (Reg.PWM_STAT g) Fld.PWM_STAT_wait = true →
      Runs (.pwmGstart core v) s fun t => t.running g = true ∧ t.fld (Reg.PWM_STAT g) Fld.PWM_STAT_wait = 0) ∧
    -- PWM_CMP_WRITE (R199): a core's write of a shadow that an enabled law owns is counted and discarded
    (∀ core g b v, core < 6 → g < 40 → b < 2 → Runs (.pwmCmpWrite core g b v) s fun t =>
      if s.lawOwned g then t = s.inc (Reg.PWM_CNT_WREF g)
      else t.rd (if b = 0 then Reg.PWM_CMPA g else Reg.PWM_CMPB g) = v &&& 0x3FFFFF) ∧
    -- PWM_PER_WRITE (R200)
    (∀ core g v, core < 6 → g < 40 → Runs (.pwmPerWrite core g v) s fun t =>
      if v.toNat % 65536 < 8 || !s.periodFits g (v.toNat % 65536) then t = s.pwmErr g
      else t.rd (Reg.PWM_PER g) = W (v.toNat % 65536)) ∧
    -- PWM_TRIP_CLEAR (R217): an active line keeps the trip; otherwise an enabled generator resumes at its period start
    (∀ core g, core < 6 → g < 40 → s.tripFlag g = true → Runs (.pwmTripClear core g) s fun t =>
      if s.tripLines g ≠ 0 then t.tripFlag g = true ∧ t.tstate g = 2
      else t.tripFlag g = false ∧ t.tstate g = if s.on (Reg.PWM_CTRL g) Fld.PWM_CTRL_en then 3 else 0) ∧
    -- YARROW_MEASUREMENT_DONE (R208-R210): a result from 40 to 120 taps is the newest mapping, another is a fault of class 4
    (∀ n d, n < 256 → s.yarrow.due = some d → Runs (.yarrowMeasurementDone n) s fun t =>
      t.dtb = max s.dtb d ∧ t.yarrow.due = none ∧ t.fld Reg.YRW_STAT Fld.YRW_STAT_n = n ∧
      (if 40 ≤ n ∧ n ≤ 120 then t.yarrow.n = n ∧ t.yarrow.at_ = t.dtb ∧ t.fld Reg.YRW_STAT Fld.YRW_STAT_fault = 0 ∧
          t.mg.reports = s.mg.reports
       else t.yarrow.n = s.yarrow.n ∧ t.fld Reg.YRW_STAT Fld.YRW_STAT_fault = 1 ∧
          t.mg.reports = s.mg.reports ++ [{ cls := 4, scope := scopeOf lvModule 0 }])) ∧
    -- TRIP_IN_PIN_CHANGE (R212): the filter counts while pin and line disagree
    (∀ i level, i < 4 → Runs (.tripInPinChange i level) s fun t => (t.tripIn.getD i {}).pin = level ∧
      ((t.tripIn.getD i {}).since = none ↔
        (decide (level = bit (s.rd Reg.TRP_POL).toNat i)) = bit (s.rd Reg.TRP_LVL).toNat (8 + i))) ∧
    -- TRIP_IN_FILTER_EXPIRY (R212, R213): the line follows the pin, and every generator that names it trips
    (∀ i c, i < 4 → (s.tripIn.getD i {}).since = some c →
      Runs (.tripInFilterExpiry i) s fun t => t.dtb = max s.dtb (max (c + s.tripFilter i) (s.tripIn.getD i {}).notBefore) ∧
        bit (t.rd Reg.TRP_LVL).toNat (8 + i) = s.tripInActive i ∧
        (∀ g, g < 40 → s.tripInActive i = true → bit (s.rd Reg.TRP_LVL).toNat (8 + i) = false →
          bit (s.fld (Reg.PWM_TRIPM g) Fld.PWM_TRIPM_tl) (8 + i) = true → t.tripFlag g = true))

/-- The gate-drive channels (R219-R246, R409). It rests on the model's choices of logs 21, 109, 110. -/
def Obligations.GateChannels : Prop :=
  ∀ s : State, s.Inv →
    -- GATE_COMMAND_ARRIVAL (R219, R223-R228, R257-R259): the oldest change on the channel's link arrives; a channel that follows
    -- commands drives its gate to the command in force
    (∀ n c on rest w, n < 34 → (if hvIsHigh n then (s.pgAt (genOfHv n)).hiLink else (s.pgAt (genOfHv n)).loLink) = (c, on) :: rest →
      w = (s.modHv n (fun h => { h with gen := on })).hvWanted n → Runs (.gateCommandArrival n) s fun t =>
        t.dtb = max s.dtb (c + 8) ∧ (t.hvAt n).gen = on ∧ (t.hvAt n).cmd = w ∧
        (s.domainOn 4 = true → s.hvFollows n = true → s.hvAbsent n = false → s.biasUv n = false → s.legLocked n = false →
          (w = true → (s.detectAt n).all (fun d => decide (max s.dtb (c + 8) < d)) = true) → (t.hvAt n).gate = w) ∧
        (s.hvFollows n = false ∨ s.hvAbsent n = true ∨ s.biasUv n = true → (t.hvAt n).gate = (s.hvAt n).gate)) ∧
    (∀ n, n < 34 → (if hvIsHigh n then (s.pgAt (genOfHv n)).hiLink else (s.pgAt (genOfHv n)).loLink) = [] →
      Runs (.gateCommandArrival n) s fun t => t.dtb = s.dtb ∧ (t.hvAt n).cmd = s.hvWanted n) ∧
    (∀ m c on rest, m < 29 → (if lvIsHigh m then (s.pgAt (genOfLv m)).hiLink else (s.pgAt (genOfLv m)).loLink) = (c, on) :: rest →
      Runs (.gateCommandArrival (64 + m)) s fun t => t.dtb = max s.dtb (c + 8) ∧ (t.lvAt m).cmd = on ∧
        (t.lvAt m).out = (on && s.domainOn 4 && decide (s.fld (Reg.LCH_STAT m) Fld.LCH_STAT_state = 1) &&
          !s.on (Reg.LCH_STAT m) Fld.LCH_STAT_bs_uv && !s.lvAbsent m && (!s.lvFloated m || s.safeHeld (genOfLv m)))) ∧
    -- STRONG_PHASE_END (R229), PLATEAU_EXIT (R230, R237), SLOPE_TIMEOUT (R230, R241)
    (∀ n e, n < 34 → (s.hvAt n).edge = some e → e.gait = true → e.phase = 1 → Runs (.strongPhaseEnd n) s fun t =>
      t.dtb = max s.dtb e.preEnd ∧ (t.hvAt n).edge = some { e with phase := 2 }) ∧
    (∀ n e a b, n < 34 → (s.hvAt n).edge = some e → e.gait = true → e.phase < 3 → a + b ≤ 3200 →
      Runs (.plateauExit n a b) s fun t => t.dtb = max s.dtb (e.t0 + (a + b + 7) / 8) ∧ (t.hvAt n).edge = none ∧
        (e.meas = true → t.fld (Reg.GCH_MEAS n) Fld.GCH_MEAS_t_in = a ∧ t.fld (Reg.GCH_MEAS n) Fld.GCH_MEAS_t_pl = b ∧
          t.fld (Reg.GCH_MEAS n) Fld.GCH_MEAS_valid = 1)) ∧
    (∀ n e, n < 34 → (s.hvAt n).edge = some e → e.gait = true → e.phase < 3 → Runs (.slopeTimeout n) s fun t =>
      t.dtb = max s.dtb (e.t0 + 400) ∧ (t.hvAt n).edge = none ∧
      t.rd (Reg.GCH_CNT_NOPL n) = W (min ((s.rd (Reg.GCH_CNT_NOPL n)).toNat + 1) 0xFFFFFFFF) ∧
      (e.meas = true → t.fld (Reg.GCH_MEAS n) Fld.GCH_MEAS_valid = 0)) ∧
    -- GATE_SENSE_MIDPOINT, QUALIFICATION_TIMEOUT (R234)
    (∀ n e, n < 34 → (s.hvAt n).edge = some e → e.gait = false → Runs (.gateSenseMidpoint n) s fun t =>
      (t.hvAt n).edge = none ∧ t.fld (Reg.GCH_STAT n) Fld.GCH_STAT_qual =
        (if e.meas && decide (s.dtb ≤ e.t0 + 120) && decide (s.hvFault n = 0) && (hvMate n).all (fun m => s.hvFault m = 0)
         then min 16 (s.fld (Reg.GCH_STAT n) Fld.GCH_STAT_qual + 1) else 0)) ∧
    (∀ n e, n < 34 → (s.hvAt n).edge = some e → e.gait = false → e.meas = true → Runs (.qualificationTimeout n) s fun t =>
      t.dtb = max s.dtb (e.t0 + 120) ∧ t.fld (Reg.GCH_STAT n) Fld.GCH_STAT_qual = 0 ∧
      (t.hvAt n).edge = some { e with meas := false }) ∧
    -- LINK_LOSS (R226), BIAS_UNDERVOLTAGE, BIAS_RECOVERY (R223)
    (∀ n, n < 34 → s.hvAbsent n = false → s.hvState n ≠ 4 → s.hvState n ≠ 5 → Runs (.linkLoss n) s fun t => t.hvState n = 5 ∧
      (t.hvAt n).gate = false ∧ t.hvFault n = (if s.hvFault n = 0 then 2 else s.hvFault n) ∧
      t.mg.reports = s.mg.reports ++ [{ cls := 1, scope := chanScope n }]) ∧
    (∀ n, n < 34 → s.on (Reg.GCH_STAT n) Fld.GCH_STAT_bias_uv = false → Runs (.biasUndervoltage n) s fun t =>
      t.fld (Reg.GCH_STAT n) Fld.GCH_STAT_bias_uv = 1 ∧ bit (t.rd Reg.TRP_LVL).toNat 5 = true ∧
      (s.hvFollows n = true → t.hvState n = 6 ∧ (t.hvAt n).gate = false)) ∧
    (∀ n, n < 34 → s.on (Reg.GCH_STAT n) Fld.GCH_STAT_bias_uv = true → Runs (.biasRecovery n) s fun t =>
      t.fld (Reg.GCH_STAT n) Fld.GCH_STAT_bias_uv = 0 ∧ (s.hvState n = 6 → t.hvState n = 2) ∧
      ((∀ m, m < 34 → m ≠ n → s.on (Reg.GCH_STAT m) Fld.GCH_STAT_bias_uv = false) → bit (t.rd Reg.TRP_LVL).toNat 5 = false)) ∧
    -- LV_OVERCURRENT, LV_BOOTSTRAP_UV, LV_BOOTSTRAP_RECOVERY (R224)
    (∀ m, m < 29 → s.lvAbsent m = false → s.on (Reg.LCH_STAT m) Fld.LCH_STAT_ovc = false → Runs (.lvOvercurrent m) s fun t =>
      t.fld (Reg.LCH_STAT m) Fld.LCH_STAT_ovc = 1 ∧ t.fld (Reg.LCH_STAT m) Fld.LCH_STAT_state = 2 ∧
      t.rd (Reg.LCH_CNT_OVC m) = W (min ((s.rd (Reg.LCH_CNT_OVC m)).toNat + 1) 0xFFFFFFFF)) ∧
    (∀ m, m < 29 → Runs (.lvBootstrapUv m) s fun t => t.fld (Reg.LCH_STAT m) Fld.LCH_STAT_bs_uv = 1 ∧ (t.lvAt m).out = false) ∧
    (∀ m, m < 29 → Runs (.lvBootstrapRecovery m) s fun t => t.fld (Reg.LCH_STAT m) Fld.LCH_STAT_bs_uv = 0) ∧
    -- SENSE_CELL_CROSSING, SENSE_CELL_DETECTION, SOFT_TURN_OFF_END (R244-R246)
    (∀ n above, n < 34 → Runs (.senseCellCrossing (n, above)) s fun t =>
      (t.hvAt n).crossed = if above then some ((s.hvAt n).crossed.getD s.dtb) else none) ∧
    (∀ n c, n < 34 → s.detectAt n = some c → Runs (.senseCellDetection n) s fun t => t.dtb = max s.dtb c ∧
      t.hvState n = 4 ∧ (t.hvAt n).gate = false ∧ (t.hvAt n).softEnd = some (t.dtb + Config.softLag n t.dtb % 125 + 200) ∧
      t.hvFault n = (if s.hvFault n = 0 then 1 else s.hvFault n) ∧
      bit (t.rd Reg.TRP_LVL).toNat (scLine n) = true ∧ t.mg.reports = s.mg.reports ++ [{ cls := 0, scope := chanScope n }]) ∧
    (∀ n c, n < 34 → (s.hvAt n).softEnd = some c → s.hvState n = 4 → Runs (.softTurnOffEnd n) s fun t =>
      t.dtb = max s.dtb c ∧ t.hvState n = 5 ∧ (t.hvAt n).softEnd = none ∧ (t.hvAt n).offSince = some t.dtb) ∧
    -- PATH2_TURN_ON (R409)
    (∀ n c, n < 12 → (s.hvAt n).p2Due = some c → Runs (.path2TurnOn n) s fun t => t.dtb = max s.dtb c ∧
      (t.hvAt n).p2 = some true ∧ (t.hvAt n).p2Due = none ∧ (t.hvAt n).cmd = true) ∧
    -- the filter of R244: an input above V_th for 40 ns, after the blanking
    (∀ n c, n < 34 → s.on (Reg.GCH_CFG n) Fld.GCH_CFG_sc_en = true → s.hvFollows n = true → (s.hvAt n).crossed = some c →
      s.detectAt n = some (max c (s.hvAt n).blankEnd + 16)) ∧
    -- channels that the -D variant holds off (R11)
    (∀ n, n < 34 → s.hvAbsent n = true → Runs (.linkLoss n) s fun t => t = s) ∧
    (∀ m, m < 29 → s.lvAbsent m = true → Runs (.lvOvercurrent m) s fun t => t = s)

/-- The probe, DRV_EN and EN_REQ, the link comparators and the forced discharge (R247-R258). It rests on the model's choices of logs 4,
19, 20. -/
def Obligations.GateBlock : Prop :=
  ∀ s : State, s.Inv →
    -- PROBE_GATE_LOOP_DONE (R247): the loop resistance of each channel of the bridge
    (∀ rs rail b i n, s.gate.probe.bridge = some b → s.gate.probe.gloopDone = false → (hvOfBridge b)[i]? = some n →
      Runs (.probeGateLoopDone (rs, rail)) s fun t => t.dtb = max s.dtb (s.gate.probe.start + 80000) ∧ t.gate.probe.gloopDone = true ∧
        t.fld (Reg.GCH_GLOOP n) Fld.GCH_GLOOP_r = min 0xFFFF (rs.getD i 0xFFFF) ∧
        (b < 2 → t.gate.probe.linked = decide (50 ≤ rail))) ∧
    -- PROBE_INJECTION_END (R247)
    (∀ v0 v1 hi lo b, s.gate.probe.bridge = some b → s.gate.probe.linked = true → s.gate.probe.gloopDone = true →
      s.gate.probe.inj.length < 2 * (gensOfBridge b).length → Runs (.probeInjectionEnd v0 v1 hi lo) s fun t =>
        t.gate.probe.inj = s.gate.probe.inj ++ [{ v0 := v0, v1 := v1, hi := hi, lo := lo }]) ∧
    -- PROBE_BRIDGE_DONE (R249, R250): the next bridge, or the end of the probe
    (∀ b, s.gate.probe.bridge = some b → s.gate.probe.gloopDone = true →
      (s.gate.probe.linked = false ∨ s.gate.probe.inj.length = 2 * (gensOfBridge b).length) → Runs .probeBridgeDone s fun t =>
        t.dtb = max s.dtb (s.gate.probe.start + probeCycles b) ∧
        (match s.gate.probe.left with
         | b' :: rest => t.gate.probe.bridge = some b' ∧ t.gate.probe.left = rest ∧ t.gate.probe.start = t.dtb
         | [] => t.gate.probe.bridge = none ∧ t.fld Reg.GDC_PRB_RES Fld.GDC_PRB_RES_busy = 0 ∧
            t.fld Reg.GDC_PRB_RES Fld.GDC_PRB_RES_done = 1 ∧
            t.fld Reg.GDC_STAT Fld.GDC_STAT_seq = 3)) ∧
    -- GDC_PROBE_START (R250): outside RUN it is refused
    (∀ core v, core < 6 → s.domainOn 4 = true → s.cpuRatioOk = true → s.fld Reg.GDC_STAT Fld.GDC_STAT_seq ≠ 3 → Runs (.gdcProbeStart core v) s fun t =>
      t.fld Reg.GDC_STAT Fld.GDC_STAT_cfg_err = 1 ∧ t.gate = s.gate) ∧
    (∀ core v b rest, core < 6 → s.domainOn 4 = true → s.cpuRatioOk = true → s.fld Reg.GDC_STAT Fld.GDC_STAT_seq = 3 → s.gate.probe.bridge = none →
      s.probeMask ((v.toNat &&& (if s.variant = .d then 0x1A3 else 0x1BF)) % 512) = b :: rest →
      (∀ b' g, b' ∈ b :: rest → g ∈ gensOfBridge b' → s.on (Reg.PWM_CTRL g) Fld.PWM_CTRL_en = false) →
      Runs (.gdcProbeStart core v) s fun t => t.gate.probe.bridge = some b ∧ t.gate.probe.left = rest ∧
        t.fld Reg.GDC_PRB_RES Fld.GDC_PRB_RES_busy = 1) ∧
    -- DRV_EN_PIN_CHANGE, DRV_EN_FILTERED_LOW, DRV_EN_FILTERED_RISE (R251, R253): a filter of 200 ns
    (∀ level, Runs (.drvEnPinChange level) s fun t => t.gate.drvEn = level ∧
      t.gate.drvSince = if level = s.on Reg.GDC_STAT Fld.GDC_STAT_drv_en then none else some s.dtb) ∧
    (∀ c n, s.gate.drvSince = some c → s.gate.drvEn = false → n < 34 → s.hvFollows n = true →
      Runs .drvEnFilteredLow s fun t => t.dtb = max s.dtb (c + 80) ∧ t.fld Reg.GDC_STAT Fld.GDC_STAT_drv_en = 0 ∧
        t.hvState n = 0 ∧ (t.hvAt n).gate = false ∧
        t.fld Reg.GDC_STAT Fld.GDC_STAT_seq = if s.fld Reg.GDC_STAT Fld.GDC_STAT_seq = 1 then 1 else 0) ∧
    (∀ c, s.gate.drvSince = some c → s.gate.drvEn = true → Runs .drvEnFilteredRise s fun t => t.dtb = max s.dtb (c + 80) ∧
      t.fld Reg.GDC_STAT Fld.GDC_STAT_drv_en = 1 ∧ t.fld Reg.GDC_STAT Fld.GDC_STAT_seq = 1 ∧
      (s.gate.lowSince + 4000 ≤ c → t.fld Reg.GDC_STAT Fld.GDC_STAT_clr = 1)) ∧
    -- START_SEQUENCE_PROBE (R251, R253): every channel off for 20 microseconds; the clear flag is used up
    (∀ b rest, s.fld Reg.GDC_STAT Fld.GDC_STAT_seq = 1 → s.on Reg.GDC_STAT Fld.GDC_STAT_drv_en = true →
      (∀ n, n < 34 → (s.hvAt n).offSince.isSome = true) → s.probeMask (s.fld Reg.GDC_PRB Fld.GDC_PRB_mask) = b :: rest →
      Runs .startSequenceProbe s fun t => t.fld Reg.GDC_STAT Fld.GDC_STAT_seq = 2 ∧
        t.fld Reg.GDC_STAT Fld.GDC_STAT_clr = 0 ∧ t.gate.probe.bridge = some b ∧
        (∀ n, n < 34 → (s.hvAt n).offSince.getD 0 + 8000 ≤ t.dtb)) ∧
    -- EN_REQ_PULSE, EN_REQ_PULSE_END (R252): 20 microseconds low
    (∀ core, core < 6 → s.domainOn 4 = true → s.cpuRatioOk = true → Runs (.enReqPulse core) s fun t => t.gate.enPulse = some (s.dtb + 8000) ∧ t.enReq = false) ∧
    (∀ c, s.gate.enPulse = some c → Runs .enReqPulseEnd s fun t => t.dtb = max s.dtb c ∧ t.gate.enPulse = none) ∧
    -- DCL_MEAS_SAMPLE (R255, R593): every microsecond; the -D variant has no charger link (R13)
    (∀ dcl chl, Runs (.dclMeasSample dcl chl) s fun t => t.dtb % 400 = 0 ∧ s.dtb ≤ t.dtb ∧
      (s.domainOn 3 = true → s.domainOn 4 = true → t.fld Reg.DCL_MEAS Fld.DCL_MEAS_v = min dcl 1250 ∧
        t.fld Reg.CHL_MEAS Fld.CHL_MEAS_v = if s.variant = .d then s.fld Reg.CHL_MEAS Fld.CHL_MEAS_v else min chl 1250) ∧
      (s.domainOn 3 = false ∨ s.domainOn 4 = false → t.rd Reg.DCL_MEAS = s.rd Reg.DCL_MEAS ∧ t.rd Reg.CHL_MEAS = s.rd Reg.CHL_MEAS)) ∧
    -- CHOPPER_ON, CHOPPER_OFF, HARD_OVERVOLTAGE, HARD_OVERVOLTAGE_RELEASE (R256, R257)
    (s.gate.chopper = false → Runs .chopperOn s fun t => t.gate.chopper = true ∧
      t.rd Reg.BRK_CNT = W (min ((s.rd Reg.BRK_CNT).toNat + 1) 0xFFFFFFFF)) ∧
    (s.gate.chopper = true → Runs .chopperOff s fun t => t.gate.chopper = false ∧ t.rd Reg.BRK_CNT = s.rd Reg.BRK_CNT) ∧
    (Runs .hardOvervoltage s fun t => bit (t.rd Reg.TRP_LVL).toNat 4 = true) ∧
    (Runs .hardOvervoltageRelease s fun t => bit (t.rd Reg.TRP_LVL).toNat 4 = false) ∧
    -- FORCED_DISCHARGE_REQUEST, FORCED_DISCHARGE_DONE, FORCED_DISCHARGE_TIMEOUT, DISCHARGE_HOLDOFF_END (R258)
    (∀ core, core < 6 → s.domainOn 4 = true → s.cpuRatioOk = true → s.gate.dscHold = none → s.on Reg.DSC_STAT Fld.DSC_STAT_active = false → s.tripFlag 17 = false → s.hvFault 33 = 0 →
      Runs (.forcedDischargeRequest core) s fun t =>
        if s.hvBusy then t.fld Reg.DSC_STAT Fld.DSC_STAT_refused = 1 ∧ t.gate = s.gate
        else t.fld Reg.DSC_STAT Fld.DSC_STAT_active = 1 ∧ t.gate.dscStart = some s.dtb) ∧
    (s.on Reg.DSC_STAT Fld.DSC_STAT_active = true → Runs .forcedDischargeDone s fun t =>
      t.fld Reg.DSC_STAT Fld.DSC_STAT_active = 0 ∧ t.fld Reg.DSC_STAT Fld.DSC_STAT_done = 1 ∧ t.gate.dscStart = none) ∧
    (∀ c, s.gate.dscStart = some c → Runs .forcedDischargeTimeout s fun t =>
      t.dtb = max s.dtb (c + s.fld Reg.DSC_CFG Fld.DSC_CFG_tmax * 400000) ∧ t.fld Reg.DSC_STAT Fld.DSC_STAT_active = 0 ∧
      t.fld Reg.DSC_STAT Fld.DSC_STAT_timeout = 1 ∧ t.gate.dscHold = some (t.dtb + 4000000000)) ∧
    (∀ c, s.gate.dscHold = some c → Runs .dischargeHoldoffEnd s fun t => t.dtb = max s.dtb c ∧ t.gate.dscHold = none)

/-- The drive sequencer of Team S (R263, R264, R277, R283, R284, R287-R289), for drive `d` while Team S runs and the built-in table gives
it its signals. It rests on the model's choices of logs 2, 4, 111. -/
def Obligations.DriveSequence : Prop :=
  ∀ (s : State) (d : Nat), s.Inv → d < 2 → s.teamRuns 0 = true → (∀ k, k < 2 → s.Publishes (dsig k 0x320) ∧ s.Publishes (dsig k 0x321)) →
    -- DRIVE_START in DRIVE or SERVICE after the start sequence of the gate channels: START with the settings of R263, and an error otherwise
    ((d = 0 ∨ s.coupled = false) → s.drvState d = drvOff → s.val (dsig d 0x302) ≠ 0 → (s.modeNow = 2 ∨ s.modeNow = 5) → s.fld Reg.GDC_STAT Fld.GDC_STAT_seq = 3 →
      Runs (.driveStart d) s fun t =>
        if s.drvConfigOk d then t.drvState d = drvStart ∧ (t.drv d).startAt = s.dtb ∧ (t.drv d).dir = s.val (dsig d 0x305) ∧
          (s.coupled = true → t.drvState 1 = drvCoupled)
        else t.drvState d = drvOff ∧ t.val (dsig d 0x321) = 1) ∧
    -- DRIVE_START_COMPLETE: the sensor law executed without a fault and both currents below 5 % for 1 ms
    (∀ held, s.drvState d = drvStart → s.sensorClean d held = true →
      (s.q15 (dsig d 0x212)).natAbs * 20 < 32768 → (s.q15 (dsig d 0x213)).natAbs * 20 < 32768 → 400000 ≤ held →
      Runs (.driveStartComplete d held) s fun t => t.drvState d = drvRun) ∧
    -- DRIVE_START_TIMEOUT after 20 ms
    (s.drvState d = drvStart → s.val (dsig d 0x206) ≠ 1 → Runs (.driveStartTimeout d) s fun t =>
      t.drvState d = drvOff ∧ t.dtb = max s.dtb ((s.drv d).startAt + 8000000)) ∧
    -- DRIVE_DWELL_ENTRY, DRIVE_DWELL_END (R284): a reversal waits in DWELL, and takes the new direction at its end
    (s.drvState d = drvDecel → s.drvSpeed d < s.q15 (dsig d 0x318) → Runs (.driveDwellEntry d) s fun t =>
      t.drvState d = drvDwell ∧ (t.drv d).dwellAt = s.dtb) ∧
    (s.drvState d = drvDwell → s.drvSpeed d < s.q15 (dsig d 0x318) → Runs (.driveDwellEnd d) s fun t =>
      t.drvState d = drvRun ∧ (t.drv d).dir = s.val (dsig d 0x305) ∧
      t.dtb = max s.dtb ((s.drv d).dwellAt + s.val (dsig d 0x313) * 400000)) ∧
    -- DRIVE_STOP at control mode 0, DRIVE_STOPPED at torque 0 and low speed
    (s.drvState d = drvRun → s.val (dsig d 0x302) = 0 → Runs (.driveStop d) s fun t => t.drvState d = drvStopping) ∧
    (s.drvState d = drvStopping → s.q15 (dsig d 0x216) = 0 → s.drvSlow d = true → Runs (.driveStopped d) s fun t =>
      t.drvState d = drvOff ∧ (t.drv d).stopBy = none) ∧
    -- DRIVE_STOP_TIMEOUT: 50 ms after a stage stop the generators trip and the drive is in SAFE
    (∀ due, s.drvState d = drvStopping → s.drvSlow d = false → (s.drv d).stopBy = some due → Runs (.driveStopTimeout d) s fun t =>
      t.drvState d = drvSafe ∧ (t.drv d).stopBy = none ∧ t.dtb = max s.dtb due) ∧
    -- DRIVE_SAFE_ENTRY by a trip of its generators or a position fault in RUN
    (s.drvLive d = true → (s.drvGens d).any s.tripFlag = true → Runs (.driveSafeEntry d) s fun t => t.drvState d = drvSafe) ∧
    -- DRIVE_OVERSPEED (R283): SAFE at the drive's Stage scope by a software report
    (∀ held, s.drvLive d = true → 105 * s.q15 (dsig d 0x312) < 100 * s.drvSpeed d → 400000 ≤ held →
      Runs (.driveOverspeed d held) s fun t => t.drvState d = drvSafe ∧
        t.mg.reports = s.mg.reports ++ [{ cls := 12, scope := if s.coupled then scopeOf lvPlane 0 else driveScope d, rx := rxSafe }]) ∧
    -- BATTERY_SIDE_LOST (R287): the running drives are in SAFE
    (s.val (sid 3 0x31) = 1 → s.drvLive d = true → Runs .batterySideLost s fun t => t.drvState d = drvSafe) ∧
    -- a position fault ends START at once
    (s.drvState d = drvStart → s.val (dsig d 0x206) = 1 → Runs (.driveStartTimeout d) s fun t => t.drvState d = drvOff ∧ t.dtb = s.dtb)

/-- Encoder and resolver front ends of drive `d` (R265, R271). It rests on the model's choices of log 25. -/
def Obligations.SensorFrontEnds : Prop :=
  ∀ (s : State) (d : Nat), s.Inv → d < 2 →
    -- ENCODER_EDGE: one step up or down, modulo the counts of a revolution; both levels changing at once is an error
    (∀ a b, s.on (Reg.ENC_CTRL d) Fld.ENC_CTRL_en = true → (∀ z ∈ (s.drv d).encAt, z + 20 ≤ s.dtb) →
      Runs (.encoderEdge d a b) s fun t =>
        (t.drv d).encA = a ∧ (t.drv d).encB = b ∧
        let step := (quadrature a b + 4 - quadrature (s.drv d).encA (s.drv d).encB) % 4
        let cpr := s.fld (Reg.ENC_CTRL d) Fld.ENC_CTRL_cpr
        let c := s.fld (Reg.ENC_CNT d) Fld.ENC_CNT_cnt
        (step = 0 → t.regs = s.regs) ∧
        (step = 1 → t.fld (Reg.ENC_CNT d) Fld.ENC_CNT_cnt = (if s.on (Reg.ENC_CTRL d) Fld.ENC_CTRL_dir then c + cpr - 1 else c + 1) % cpr % 2 ^ Fld.ENC_CNT_cnt.len) ∧
        (step = 3 → t.fld (Reg.ENC_CNT d) Fld.ENC_CNT_cnt = (if s.on (Reg.ENC_CTRL d) Fld.ENC_CTRL_dir then c + 1 else c + cpr - 1) % cpr % 2 ^ Fld.ENC_CNT_cnt.len) ∧
        (step = 2 → t.fld (Reg.ENC_STAT d) Fld.ENC_STAT_err = 1 ∧ t.fld (Reg.ENC_CNT d) Fld.ENC_CNT_cnt = c)) ∧
    -- ENCODER_INDEX: zseen, and with zen the counter at 0
    (s.on (Reg.ENC_CTRL d) Fld.ENC_CTRL_en = true → Runs (.encoderIndex d) s fun t =>
      t.fld (Reg.ENC_STAT d) Fld.ENC_STAT_zseen = 1 ∧
      t.fld (Reg.ENC_CNT d) Fld.ENC_CNT_cnt =
        if s.on (Reg.ENC_CTRL d) Fld.ENC_CTRL_zen then 0 else s.fld (Reg.ENC_CNT d) Fld.ENC_CNT_cnt) ∧
    -- RESOLVER_EXCITATION_FAULT: above 150 mA over-current, below 5 mA open
    (∀ ua, s.on (Reg.RES_CTRL d) Fld.RES_CTRL_en = true → s.on (Reg.RES_STAT d) Fld.RES_STAT_exc_oc = false →
      Runs (.resolverExcitationFault d ua) s fun t =>
        (150000 < ua → t.fld (Reg.RES_STAT d) Fld.RES_STAT_exc_oc = 1) ∧
        (ua < 5000 → t.fld (Reg.RES_STAT d) Fld.RES_STAT_exc_open = 1) ∧ (5000 ≤ ua → ua ≤ 150000 → t.fld (Reg.RES_STAT d) Fld.RES_STAT_exc_open = 0 ∧ t.fld (Reg.RES_STAT d) Fld.RES_STAT_exc_oc = 0)) ∧
    -- two edges closer than 50 ns are an error
    (∀ a b z, s.on (Reg.ENC_CTRL d) Fld.ENC_CTRL_en = true → (s.drv d).encAt = some z → s.dtb < z + 20 →
      (quadrature a b + 4 - quadrature (s.drv d).encA (s.drv d).encB) % 4 ≠ 0 → Runs (.encoderEdge d a b) s fun t =>
        t.fld (Reg.ENC_STAT d) Fld.ENC_STAT_err = 1 ∧ t.fld (Reg.ENC_CNT d) Fld.ENC_CNT_cnt = s.fld (Reg.ENC_CNT d) Fld.ENC_CNT_cnt)

/-- The charge inlet (R299-R309), on the -F variant while Team A runs and the built-in table gives its signals. It rests on the model's
choices of logs 4, 18. -/
def Obligations.InletMachine : Prop :=
  ∀ s : State, s.Inv → s.hasCharger = true → s.teamRuns 1 = true →
    (∀ i, i ∈ [0x100, 0x103, 0x105, 0x106, 0x107, 0x200, 0x201] → s.Publishes (csig i)) → s.writable (csig 0x302) = true →
    -- PILOT_PERIOD_CAPTURE (R301), PILOT_STATE_DECODE (R300, R301)
    (∀ per high glitches, s.domainOn 3 = true → s.on Reg.INL_CTRL Fld.INL_CTRL_en = true → Runs (.pilotPeriodCapture per high glitches) s fun t =>
      t.fld Reg.INL_CPPER Fld.INL_CPPER_cnt = per % 2 ^ Fld.INL_CPPER_cnt.len ∧
      t.fld Reg.INL_CPHIGH Fld.INL_CPHIGH_cnt = high % 2 ^ Fld.INL_CPHIGH_cnt.len ∧ t.osc = true ∧
      t.inlet.edgeAt = some s.dtb) ∧
    (∀ pos neg held, s.domainOn 3 = true → s.on Reg.INL_CTRL Fld.INL_CTRL_en = true →
      (if noBand pos then 40000000 else if s.oscRefresh.osc then 4 * s.oscRefresh.fld Reg.INL_CPPER Fld.INL_CPPER_cnt else 800000) ≤ held → Runs (.pilotStateDecode pos neg held) s fun t =>
        t.val (csig 0x100) = if s.oscRefresh.allowance.1.2 then pilotInvalid else pilotOf s.oscRefresh.osc pos neg) ∧
    -- INLET_CABLE_DETECTED, INLET_CABLE_REMOVED (R302, R307)
    (∀ ohm, s.domainOn 3 = true → (cableOf s.ppStd ohm).isSome = true → Runs (.inletCableDetected ohm) s fun t =>
      t.val (csig 0x103) = ohm % 2 ^ 32 ∧ t.inletState = if s.inletState = inNocable then inDetect else s.inletState) ∧
    (∀ ohm, s.domainOn 3 = true → (cableOf s.ppStd ohm).isSome = false → cableUnknown s.ppStd ohm = false → Runs (.inletCableRemoved ohm) s fun t =>
      t.val (csig 0x103) = ohm % 2 ^ 32 ∧ (s.inletState = inRun → t.inletState = inHandover ∧ t.inlet.handAt = s.dtb) ∧
      (s.inletState = inDetect ∨ s.inletState = inReady ∨ s.inletState = inEnergize ∨ s.inletState = inSrcFault →
        t.inletState = inNocable ∧ t.fld Reg.INL_STAT Fld.INL_STAT_s2_on = 0) ∧
      (s.inletState = inLockout → t.inletState = inLockout)) ∧
    -- INLET_SOURCE_QUALIFIED (R304, R307), INLET_READY_LOST, INLET_ENERGIZE (R299, R307)
    (∀ ms, s.inletState = inDetect → s.sourceSeen = true → 3000 ≤ ms → Runs (.inletSourceQualified ms) s fun t =>
      t.inletState = inReady ∧ (s.inlet.classed = false → t.val (csig 0x105) = s.sourceClass ∧ t.inlet.classed = true)) ∧
    (∀ ms, s.inletState = inReady → s.q15 (csig 0x102) = 0 → 1000 ≤ ms → Runs (.inletReadyLost ms) s fun t =>
      t.inletState = inDetect) ∧
    (s.inletState = inReady → s.modeNow = modeCharge → s.fld Reg.INL_CTRL Fld.INL_CTRL_role = 0 → s.chState 0 = chQualify →
      Runs .inletEnergize s fun t => t.inletState = inEnergize ∧ t.fld Reg.INL_STAT Fld.INL_STAT_s2_on = 1 ∧
        t.inlet.enAt = s.dtb) ∧
    -- INLET_PHASES_VALID (R303, R295), INLET_ENERGIZE_TIMEOUT (R307)
    (∀ v1 v2 v3 f a2 a3 ms, s.inletState = inEnergize → 100 ≤ ms →
      phaseConfig { v1 := v1, v2 := v2, v3 := v3, f := f, a2 := a2, a3 := a3 } ≠ 4 →
      Runs (.inletPhasesValid v1 v2 v3 f a2 a3 ms) s fun t =>
        t.val (csig 0x106) = phaseConfig { v1 := v1, v2 := v2, v3 := v3, f := f, a2 := a2, a3 := a3 } ∧
        (if s.pfcConfigOk then t.inletState = inRun else t.inletState = inEnergize ∧ t.chState 0 = chFaultSt)) ∧
    (∀ invalid, s.inletState = inEnergize → Runs (.inletEnergizeTimeout invalid) s fun t => t.inletState = inSrcFault ∧
      t.fld Reg.INL_STAT Fld.INL_STAT_s2_on = 0 ∧
      t.dtb = if invalid then s.dtb else max s.dtb (msEnd s.inlet.enAt 5000)) ∧
    -- INLET_SOURCE_LOSS (R307, R308), HANDOVER_END, HANDOVER_TIMEOUT (R308, R309)
    (∀ ac ms, s.inletState = inRun → ((s.val (csig 0x100) ≠ pilotC ∧ 100 ≤ ms) ∨
        (ac = true ∧ s.lawOn 4 0 = true ∧ s.writable (csig 0x114) = true ∧ ∀ x ∈ s.inlet.openAt, x + 1200000000 ≤ s.dtb)) →
      Runs (.inletSourceLoss (ac, ms)) s fun t =>
        t.inletState = inHandover ∧ t.inlet.handAt = s.dtb ∧ t.inlet.bounces = (s.dtb :: s.inlet.bounces).take 5) ∧
    (∀ us, s.inletState = inHandover → (1000 ≤ us ∨ s.val (sid 3 0x30) ≠ 1 ∨ s.chState 0 = chSourceHold) → s.dtb ≤ msEnd s.inlet.handAt 4 → Runs (.handoverEnd us) s fun t =>
      if 5 ≤ (s.inlet.bounces.filter (fun x => s.dtb ≤ x + 24000000000)).length then
        t.inletState = inLockout ∧ t.inlet.lockAt = s.dtb
      else t.inletState = if s.cable then inDetect else inNocable) ∧
    (s.inletState = inHandover → Runs .handoverTimeout s fun t => t.dtb = max s.dtb (msEnd s.inlet.handAt 4) ∧
      t.chState 0 = chFaultSt ∧ t.val (csig 0x201) = 3) ∧
    -- LOCKOUT_END (R309), INLET_MODE_LEFT, SRC_FAULT_RECOVER (R307), WEAK_SOURCE (R306)
    (s.inletState = inLockout → Runs .lockoutEnd s fun t =>
      t.inletState = (if s.cable then inDetect else inNocable) ∧
      (s.val (csig 0x302) = 1 → t.val (csig 0x302) = 0 ∧ t.dtb = max s.dtb (msCeil (max s.dtb (s.inlet.lockAt + 1)))) ∧
      (s.val (csig 0x302) ≠ 1 → t.dtb = max s.dtb (msEnd s.inlet.lockAt 300000))) ∧
    (s.modeNow ≠ modeCharge → s.inletState = inRun → Runs .inletModeLeft s fun t => t.inletState = inReady ∧
      t.fld Reg.INL_STAT Fld.INL_STAT_s2_on = 0) ∧
    (s.inletState = inSrcFault → (s.cable = false ∨ s.val (csig 0x100) = pilotA) → Runs .srcFaultRecover s fun t =>
      t.inletState = if s.cable then inDetect else inNocable) ∧
    (∀ v0 v i df, s.inletState = inRun → 500 < df → Runs (.weakSource v0 v i df) s fun t => t.val (csig 0x105) = 3) ∧
    -- S2 opens too when the mode is left in ENERGIZE
    (s.modeNow ≠ modeCharge → s.inletState = inEnergize → Runs .inletModeLeft s fun t => t.inletState = inEnergize ∧
      t.fld Reg.INL_STAT Fld.INL_STAT_s2_on = 0)

/-- The two charge machines, 0 the HV and 1 the LV machine (R310-R313, R343), while Team A runs and the built-in table gives their
signals. It rests on the model's choices of logs 4, 60. -/
def Obligations.ChargeMachines : Prop :=
  ∀ s : State, s.Inv → s.teamRuns 1 = true → (∀ i, i ∈ [csig 0x200, csig 0x201, lsig 0x200] → s.Publishes i) →
    -- CHARGE_REQUEST (R311): the HV machine arms its supervisor (R310)
    (s.chState 0 = chIdle ∨ s.chState 0 = chWait → s.hvMayCharge = true → Runs (.chargeRequest 0) s fun t =>
      t.chState 0 = chQualify ∧ (t.ch 0).since = s.dtb ∧ t.fld Reg.CHS_CTRL Fld.CHS_CTRL_en = 1) ∧
    ((s.chState 1 = chIdle ∧ s.lv.st = lvRun ∧ s.lvProfile < 2) ∨ (s.chState 1 = chWait ∧ s.chSource 1 = true) → Runs (.chargeRequest 1) s fun t =>
      t.chState 1 = chQualify ∧ (t.ch 1).since = s.dtb) ∧
    -- CHARGE_QUALIFIED, CHARGE_QUALIFY_TIMEOUT, CHARGE_CV_REACHED (R311)
    (∀ m v, m < 2 → s.chState m = chQualify → s.chSource m = true → s.vMin m ≤ v → v ≤ s.vCv m → Runs (.chargeQualified m v) s fun t =>
      if m = 0 ∧ s.isoConfigOk = false then t.chState m = chFaultSt else t.chState m = chCc ∧ (t.ch m).cap = none) ∧
    (∀ m v, m < 2 → s.chState m = chQualify → (m = 0 ∨ v < 12288) → Runs (.chargeQualifyTimeout m v) s fun t =>
      t.chState m = chFaultSt ∧ t.dtb = max s.dtb (msEnd (s.ch m).since
        (if m = 0 then 10000 else if s.lvProfile = 0 then 600000 else 1800000))) ∧
    (∀ m v, m < 2 → s.chState m = chCc → s.vCv m ≤ v → Runs (.chargeCvReached m v) s fun t =>
      t.chState m = chCv ∧ (t.ch m).tested = false) ∧
    -- CHARGE_TERMINATION_START, CHARGE_TERMINATION, CHARGE_TOPOFF_END (R311): 30 s below the termination current
    (∀ m i, m < 2 → s.chState m = chCv → s.belowTerm m i = true → (s.ch m).termAt = none → (m = 0 ∨ (s.ch 1).tested = true) →
      Runs (.chargeTerminationStart m i) s fun t => (t.ch m).termAt = some (msEnd s.dtb 30000)) ∧
    (∀ m n, m < 2 → (s.ch m).termAt = some n → Runs (.chargeTermination m) s fun t => t.dtb = max s.dtb n ∧
      t.chState m = chTopoff ∧ (t.ch m).topAt = msEnd t.dtb (s.tTop m * 60000)) ∧
    (∀ m, m < 2 → s.chState m = chTopoff → Runs (.chargeTopoffEnd m) s fun t => t.dtb = max s.dtb (s.ch m).topAt ∧
      t.chState m = chDone ∧ (t.ch m).iset = 0 ∧ (t.ch m).cap = some 0) ∧
    -- CHARGE_RECHARGE, CHARGE_SOURCE_LOST (R311)
    (∀ m v ms, m < 2 → s.chState m = chDone → v < s.vRecharge m → 10000 ≤ ms → s.chSource m = true →
      Runs (.chargeRecharge m v ms) s fun t => t.chState m = chQualify) ∧
    (∀ m, m < 2 → s.chLive m = true → s.chSourceGone m = true → Runs (.chargeSourceLost m) s fun t =>
      t.chState m = chWait ∧ (t.ch m).iset = 0) ∧
    -- CHARGE_SOURCE_HOLD, CHARGE_SOURCE_HOLD_END (R311)
    (s.hasCharger = true → s.chLive 0 = true → (s.chs.hit || isoGens.any (fun g => s.trippedBy g 4) || decide (s.val (sid 3 0x30) = 0)) = true → Runs .chargeSourceHold s fun t =>
      t.chState 0 = chSourceHold ∧ (t.ch 0).iset = 0 ∧ t.fld Reg.CHS_CTRL Fld.CHS_CTRL_en = 0) ∧
    (s.hasCharger = true → s.chState 0 = chSourceHold → s.val (sid 3 0x30) = 1 → s.val (csig 0x212) = 1 → (∀ g, g ∈ isoGens → s.tripLines g = 0) →
      Runs .chargeSourceHoldEnd s fun t => t.chState 0 = chQualify) ∧
    -- PRESENCE_TEST_START, PRESENCE_TEST_END (R313)
    (∀ i, s.chState 1 = chCv → (s.ch 1).testAt = none → (s.ch 1).tested = false → s.belowTerm 1 i = true →
      Runs (.presenceTestStart i) s fun t => (t.ch 1).testAt = some s.dtb ∧ (t.ch 1).testI = i) ∧
    (∀ i collapse n, (s.ch 1).testAt = some n → Runs (.presenceTestEnd i collapse) s fun t =>
      t.dtb = max s.dtb (msEnd n 1000) ∧ (t.ch 1).testAt = none ∧
      (if max 2560 (s.ch 1).testI ≤ 10 * (i - (s.ch 1).testI) then (t.ch 1).tested = true ∧ t.chState 1 = if s.chState 1 = chNoBattery then chQualify else s.chState 1
       else t.chState 1 = chNoBattery ∧ (t.ch 1).testNext = msEnd t.dtb 10000)) ∧
    -- CHARGE_STOP, CHARGE_FAULT_CLEAR (R311)
    (s.hasCharger = true → s.chState 0 ≠ chIdle → s.chState 0 ≠ chFaultSt → (s.modeNow ≠ modeCharge ∨ s.cable = false ∨ s.val (csig 0x212) = 0) → Runs .chargeStop s fun t =>
      t.chState 0 = chIdle ∧ (t.ch 0).iset = 0) ∧
    (∀ m, m < 2 → s.chState m = chFaultSt → ((s.ch m).cycled = 2 ∨ (m = 0 ∧ s.cable = false)) → Runs (.chargeFaultClear m) s fun t => t.chState m = chIdle ∧
      (m = 0 → t.val (csig 0x201) = 0)) ∧
    -- the test repeats every 10 s in NO_BATTERY, and a collapse of the current in CC finds the battery absent (R313)
    (∀ i, s.chState 1 = chNoBattery → (s.ch 1).testAt = none → Runs (.presenceTestStart i) s fun t =>
      t.dtb = max s.dtb (s.ch 1).testNext ∧ (t.ch 1).testAt = some t.dtb ∧ (t.ch 1).testI = i) ∧
    (∀ i, s.chState 1 = chCc → (s.ch 1).testAt = none → 10 * i < s.iCc 1 → Runs (.presenceTestEnd i true) s fun t =>
      t.chState 1 = chNoBattery ∧ t.dtb = s.dtb)

/-- SUPPLY and the solar port (R314-R321), on the -F variant while Team A runs and the built-in table gives their signals. It rests on the
model's choices of logs 4, 18, 61. -/
def Obligations.SupplyAndSolar : Prop :=
  ∀ s : State, s.Inv → s.hasCharger = true → s.teamRuns 1 = true →
    (∀ i, i ∈ [csig 0x100, csig 0x103, csig 0x200, csig 0x402, solsig 0x200] → s.Publishes i) →
    -- SUPPLY_ENERGIZE (R315), SUPPLY_FAULT (R314), SUPPLY_CABLE_REMOVED (R315)
    (s.modeNow = modeSupply → 1 ≤ s.supplyKind → s.supplyKind ≤ 3 → s.supplyState = supOff → s.val (csig 0x213) = 1 →
      s.cable = true → Runs .supplyEnergize s fun t => t.dtb = max s.dtb (msEnd s.supply.since 100) ∧
        (if s.pfcConfigOk && s.isoConfigOk then t.supplyState = supRun ∧ t.supply.live = true
         else t.supplyState = supOff ∧ t.chState 0 = chFaultSt)) ∧
    (∀ ms, s.modeNow = modeSupply → s.supplyState = supRun → (200 ≤ ms ∨ s.val (csig 0x213) = 0) → Runs (.supplyFault ms) s fun t =>
      t.supplyState = supFault ∧ t.supply.live = false) ∧
    (∀ ohm, (cableOf s.ppStd ohm).isSome = false → cableUnknown s.ppStd ohm = false → Runs (.supplyCableRemoved ohm) s fun t =>
      t.val (csig 0x103) = ohm % 2 ^ 32 ∧
      (s.modeNow = modeSupply → s.supplyState = supRun → s.supplyKind ≤ 3 → t.supplyState = supOff)) ∧
    -- STATION_STATE_REACTION (R317): A takes the output away and the pilot to its high level; E, F and INVALID are a fault
    (∀ pos neg periods ms, s.modeNow = modeSupply → s.supplyKind = 4 ∨ s.supplyKind = 5 → 2 ≤ periods →
      s.supplyState ≠ supFault → s.lawOwned 33 = false → Runs (.stationStateReaction pos neg periods ms) s fun t =>
        t.val (csig 0x100) = pilotOf true pos neg ∧
        (pilotOf true pos neg = pilotA → t.rd (Reg.PWM_CMPA 33) = 0x3FFFFF ∧ (s.supply.live = true → t.supplyState = supOff)) ∧
        (pilotOf true pos neg = pilotB → s.supply.live = true → t.supplyState = supOff) ∧
        (pilotOf true pos neg = pilotC → 100 ≤ ms → s.supply.live = false → s.val (csig 0x213) = 1 → s.pfcConfigOk = true →
          s.isoConfigOk = true → t.supplyState = supRun ∧ t.supply.live = true) ∧
        (pilotE ≤ pilotOf true pos neg → t.supplyState = supFault ∧ t.rd (Reg.PWM_CMPA 33) = 0)) ∧
    -- STATION_PROBE_SEEN (R316)
    (∀ ms, s.modeNow = modeStandby → s.fld Reg.INL_CTRL Fld.INL_CTRL_role = 1 → s.on Reg.INL_CTRL Fld.INL_CTRL_probe = true →
      s.running 33 = false → s.val (csig 0x100) = pilotB → 100 ≤ ms → Runs (.stationProbeSeen ms) s fun t =>
        t.inlet.seen = true) ∧
    -- SOLAR_START, SOLAR_STOP, SOLAR_OPEN_CIRCUIT_MEASURE (R318, R320)
    (∀ ms, s.solState = solOff → s.qty (solsig 0x301) 15360 ≤ s.q15 (solsig 0x100) → 10000 ≤ ms → s.running 23 = false →
      s.stagesAllowed [8] = true → Runs (.solarStart ms) s fun t => t.solState = solStart ∧ t.solar.stopAt = some s.dtb) ∧
    (∀ ms, s.solState ≠ solOff → s.q15 (solsig 0x100) < 5120 → Runs (.solarStop ms) s fun t =>
      t.solState = solOff ∧ t.solar.stopAt = none) ∧
    (∀ n, s.solar.stopAt = some n → Runs .solarOpenCircuitMeasure s fun t => t.dtb = max s.dtb (msEnd n 20) ∧
      t.solar.voc = s.stringV ∧ t.solar.stopAt = none ∧
      (if s.solarConfigOk = false then t.solState = solOff
       else if s.solState = solScan then t.solState = solScan ∧ t.solar.ref = 95 * s.stringV / 100
       else t.solState = solTrack)) ∧
    -- MPPT_STEP (R319): the direction stays while the power rises
    (s.solState = solTrack → s.solar.stopAt = none → Runs .mpptStep s fun t =>
      t.dtb = max s.dtb (msEnd s.solar.stepAt 10) ∧ t.solar.stepAt = t.dtb ∧ t.solar.power = s.q15 (solsig 0x201) ∧
      t.solar.up = decide (s.solar.up = decide (s.solar.power < s.q15 (solsig 0x201))) ∧
      t.solar.ref = if t.solar.up then s.solar.ref + t.solar.step else s.solar.ref - t.solar.step) ∧
    (s.solState = solCurtail → s.solar.stopAt = none → s.ib < s.qty (solsig 0x303) 20480 → Runs .mpptStep s fun t =>
      t.solState = solTrack ∧ t.solar.ref = slew s.solar.ref s.solar.voc s.solar.step) ∧
    -- SOLAR_SCAN_START, SOLAR_SCAN_STEP (R320): 600 s after the last scan, 64 steps of 10 ms
    (s.solState = solTrack → s.solar.stopAt = none → Runs .solarScanStart s fun t => t.solState = solScan ∧
      t.dtb = max s.dtb (msEnd s.solar.scanEnd 600000) ∧ t.solar.stopAt = some t.dtb) ∧
    (s.solState = solScan → s.solar.stopAt = none → Runs .solarScanStep s fun t =>
      t.dtb = max s.dtb (msEnd s.solar.stepAt 10) ∧
      (if s.solar.scanK < 64 then t.solState = solScan ∧ t.solar.scanK = s.solar.scanK + 1
       else t.solState = solTrack ∧ t.solar.scanEnd = t.dtb ∧
         t.solar.ref = if s.solar.bestP < s.q15 (solsig 0x201) then s.solar.ref else s.solar.bestRef)) ∧
    -- REVERSE_TRANSFER_START, REVERSE_TRANSFER_STOP, SOLAR_CURTAIL (R321)
    (∀ ms, s.solState ≠ solOff → s.transferAllowed = true → s.qty (solsig 0x304) 19968 < s.ib → 100 ≤ ms →
      s.solar.transfer = false → Runs (.reverseTransferStart ms) s fun t => t.solar.transfer = true) ∧
    (∀ ms, s.solar.transfer = true → 10000 ≤ ms → Runs (.reverseTransferStop ms) s fun t => t.solar.transfer = false) ∧
    (s.solState = solTrack ∨ s.solState = solScan → s.solar.stopAt = none → s.qty (solsig 0x303) 20480 ≤ s.ib →
      Runs .solarCurtail s fun t => t.solState = solCurtail)

/-- The LV sequencer of Team S (R338), while Team S runs and the built-in table gives it its signals: states of `LvSeqSt.st` and what each
command moves it to. It rests on the model's choices of logs 4, 27, 59. -/
def Obligations.LvStates : Prop :=
  ∀ s : State, s.Inv → s.teamRuns 0 = true → s.Publishes (lsig 0x210) → s.Publishes (lsig 0x211) →
    -- LV_SEQUENCER_START with the bus at 50 V to 83 V: straight to CHECK
    (s.lv.st = lvOff → s.lvRunRequest = true → s.stagesAllowed [6, 7] = true → 50 * 256 ≤ s.ib → s.ib ≤ 83 * 256 →
      Runs .lvSequencerStart s fun t => t.lv.st = lvCheck ∧ t.lv.since = s.dtb ∧ (t.sig (lsig 0x210)).value = W lvCheck) ∧
    -- LV_SEQUENCER_START with a lower bus and the feed good: the DCX starts
    (s.lv.st = lvOff → s.lvRunRequest = true → s.stagesAllowed [6, 7] = true → s.ib < 50 * 256 → s.feedOk = true →
      Runs .lvSequencerStart s fun t => t.lv.st = lvDcxStart ∧ t.lv.dcxReverse = false ∧ t.lv.dcxAt = s.dtb) ∧
    -- DCX_IB_GOOD within 12 ms: CHECK
    (s.lv.st = lvDcxStart → s.ibGood = true → s.dtb ≤ s.lv.since + cyclesMs 12 → Runs .dcxIbGood s fun t =>
      t.lv.st = lvCheck ∧ t.lv.since = s.dtb) ∧
    -- DCX_START_TIMEOUT: a hiccup; the fifth gives FAULT
    (s.lv.st = lvDcxStart → Runs .dcxStartTimeout s fun t =>
      t.lv.hiccups = s.lv.hiccups + 1 ∧ t.dtb = max s.dtb (s.lv.since + cyclesMs 12) ∧
      t.lv.st = if 4 ≤ s.lv.hiccups then lvFault else lvDcxWait) ∧
    -- DCX_WAIT_END: 100 ms later the DCX starts again
    (s.lv.st = lvDcxWait → Runs .dcxWaitEnd s fun t => t.lv.st = lvDcxStart ∧ t.dtb = max s.dtb (s.lv.since + cyclesMs 100)) ∧
    -- LV_CHECK_DONE without compat640 and with the buck configured: soft start from the measured output
    (s.lv.st = lvCheck → s.on Reg.LVC_CFG Fld.LVC_CFG_compat640 = false → s.buckConfigOk = true → Runs (.lvCheckDone []) s fun t =>
      t.lv.st = lvSoft ∧ t.lv.ref = s.vOut ∧ t.lv.phase = 0) ∧
    -- LV_CHECK_DONE that finds a shorted high side (R336): FAULT
    (∀ mv : Nat, s.lv.st = lvCheck → s.on Reg.LVC_CFG Fld.LVC_CFG_compat640 = true → s.ib * 1000 < 512 * (mv : Int) →
      Runs (.lvCheckDone [mv]) s fun t => t.lv.st = lvFault ∧ (t.sig (lsig 0x211)).value = W 2) ∧
    -- LV_POWER_GOOD in soft start: RUN
    (s.lv.st = lvSoft → s.pgNow = true → Runs .lvPowerGood s fun t => t.lv.st = lvRun ∧ t.lv.retries = 0 ∧ t.lv.since = s.dtb) ∧
    -- LV_SOFTSTART_FAIL: a retry; the fourth gives FAULT
    (s.lv.st = lvSoft → s.pgNow = false → Runs .lvSoftstartFail s fun t =>
      t.lv.retries = s.lv.retries + 1 ∧ t.lv.st = if 3 ≤ s.lv.retries then lvFault else lvRetry) ∧
    -- LV_RETRY_WAIT_END: CHECK after 200 ms
    (s.lv.st = lvRetry → Runs .lvRetryWaitEnd s fun t => t.lv.st = lvCheck ∧ t.dtb = max s.dtb (s.lv.since + cyclesMs 200)) ∧
    -- LV_FEED_LOST: the bus below 45 V for 1 ms stops buck and DCX
    (∀ held, s.lv.st = lvRun → s.ib < 45 * 256 → 400000 ≤ held → Runs (.lvFeedLost held) s fun t => t.lv.st = lvOff) ∧
    -- LV_SUPERVISOR_FIRE: 1,500 ms without power-good give FAULT and a software report with SAFE
    (∀ lost, s.lv.pgLost = some lost → s.lvRunRequest = true → s.lv.fired = false → Runs .lvSupervisorFire s fun t =>
      t.lv.st = lvFault ∧ t.lv.fired = true ∧ t.dtb = max s.dtb (lost + cyclesMs 1500) ∧
      t.mg.reports = s.mg.reports ++ [{ cls := 12, scope := scopeOf lvStage 7, rx := rxSafe }]) ∧
    -- HICCUP_COUNT_RESET, LV_STOP, LV_FAULT_CLEAR
    (s.lv.st = lvRun → Runs .hiccupCountReset s fun t => t.lv.hiccups = 0 ∧ t.lv.st = lvRun) ∧
    (s.lv.st = lvRun → s.lvStopWanted = true → Runs .lvStop s fun t => t.lv.st = lvOff) ∧
    (s.lv.st = lvFault → s.lv.cleared = true → Runs .lvFaultClear s fun t =>
      t.lv.st = lvOff ∧ t.lv.hiccups = 0 ∧ t.lv.retries = 0 ∧ t.lv.cleared = false) ∧
    -- the feed is lost at once when it leaves its limits while the DCX runs forward
    (s.lv.st = lvRun → s.allActive [14, 15] = true → s.lv.dcxReverse = false → s.feedOk = false → Runs (.lvFeedLost 0) s fun t =>
      t.lv.st = lvOff ∧ t.dtb = s.dtb) ∧
    -- in OVLATCH a start that fails is a hiccup of the DCX, and the state holds
    (s.lv.st = lvOvlatch → s.allActive [14, 15] = true → s.running 22 = false → s.lv.ovWait = none → Runs .dcxStartTimeout s fun t =>
      t.lv.st = lvOvlatch ∧ t.lv.hiccups = s.lv.hiccups + 1 ∧ t.dtb = max s.dtb (s.lv.dcxAt + cyclesMs 12))

/-- The LV converter beside its sequencer (R328, R330, R332, R335, R337, R341). It rests on the model's choices of logs 2, 4. -/
def Obligations.LvConverter : Prop :=
  ∀ s : State, s.Inv →
    -- DCX_OVERCURRENT (R328): above the limit for 1 us the DCX trips, class 7 is reported and the hiccup counted
    (∀ ma held, dcxGens.any s.active = true → s.fld Reg.LVC_DCXLIM Fld.LVC_DCXLIM_a * 1000 < ma → 400 ≤ held → s.lv.st = lvDcxStart →
      Runs (.dcxOvercurrent ma held) s fun t =>
        t.mg.reports = s.mg.reports ++ [{ cls := 7, scope := scopeOf lvStage 6 }] ∧ t.lv.hiccups = s.lv.hiccups + 1 ∧
        t.lv.st = if 4 ≤ s.lv.hiccups then lvFault else lvDcxWait) ∧
    -- OFF_TIME_COMPARATOR (R330, R335): the rotation moves to the next phase; the valley limit holds the start event
    (buckGens.any s.active = true → Runs .offTimeComparator s fun t =>
      t.lv.phase = (s.lv.phase + 1) % 4 ∧
      (s.valleyHolds s.lv.phase = true → t.lv.held = s.lv.held.set s.lv.phase true ∧ t.pg = s.pg)) ∧
    -- VALLEY_LIMIT_RELEASE (R335): the held start event of phase k acts
    (∀ k, k < 4 → s.lv.held.getD k false = true → s.valleyHolds k = false → Runs (.valleyLimitRelease k) s fun t =>
      t.lv.held = s.lv.held.set k false) ∧
    -- PHASE_CURRENT_ZERO (R337): in soft start before power-good the low side of the phase turns off
    (∀ k, k < 4 → s.lv.st = lvSoft → s.on Reg.LVC_STAT Fld.LVC_STAT_pg = false → Runs (.phaseCurrentZero k) s fun t =>
      (t.pgAt (18 + k)).lo = false ∧ (t.pgAt (18 + k)).pendLo = none) ∧
    -- SYNC_EDGE (R332): the period is measured from edge to edge
    (s.lv.lastEdge = none → Runs .syncEdge s fun t => t.lv.lastEdge = some s.dtb ∧ t.regs = s.regs) ∧
    (∀ last, s.lv.lastEdge = some last → Runs .syncEdge s fun t =>
      t.lv.lastEdge = some s.dtb ∧ t.fld Reg.LVC_SYNC Fld.LVC_SYNC_per = min (s.dtb - last) 0xFFFF) ∧
    -- SYNC_LOST (R332): three periods without an edge unlock
    (∀ last, s.lv.lastEdge = some last → s.fld Reg.LVC_SYNC Fld.LVC_SYNC_per ≠ 0 → Runs .syncLost s fun t =>
      t.lv.lastEdge = none ∧ t.lv.goodEdges = 0 ∧ t.fld Reg.LVC_STAT Fld.LVC_STAT_sync_lock = 0 ∧
      t.fld Reg.LVC_SYNC Fld.LVC_SYNC_per = 0 ∧ t.dtb = max s.dtb (last + 3 * s.fld Reg.LVC_SYNC Fld.LVC_SYNC_per)) ∧
    -- LV_OVERVOLTAGE (R341): trip line 7 acts and the sequencer latches, but for FAULT
    (∀ mv held, s.domainOn 2 = true → s.aboveOv mv = true → 400 ≤ held → bit (s.rd Reg.TRP_LVL).toNat 7 = false →
      Runs (.lvOvervoltage mv held) s fun t =>
        t.fld Reg.LVC_STAT Fld.LVC_STAT_ov = 1 ∧ t.lv.st = if s.lv.st = lvFault then lvFault else lvOvlatch)

/-- Ship mode, the button and the long press (R345, R346). It rests on the model's choices of logs 2, 54. -/
def Obligations.KeeperCommands : Prop :=
  ∀ s : State, s.Inv →
    -- SHIP_MODE_ARM: Team S in PARKED with no stage running arms; any other situation leaves arm at 0
    (∀ core, core < 6 → s.cpuRatioOk = true → Runs (.shipModeArm core) s fun t =>
      t.fld Reg.KPR_SHIP Fld.KPR_SHIP_arm = (if teamOf core = 0 && s.modeNow = modeParked && s.noStageRuns then 1 else 0) ∧
      ∀ a, a ≠ Reg.KPR_SHIP → t.rd a = s.rd a) ∧
    -- SHIP_MODE_BSW_OPEN: BSW opens 10 ms after the last domain went OFF
    (∀ off, s.keeper.offAt = some off → Runs .shipModeBswOpen s fun t =>
      t.fld Reg.KPR_BSTAT Fld.KPR_BSTAT_closed = 0 ∧ t.fld Reg.KPR_BSTAT Fld.KPR_BSTAT_ship = 1 ∧ t.keeper.offAt = none ∧
      s.dtb ≤ t.dtb ∧ (0 < s.cycle → 8 * ((off + 4000000 : Nat) : Int) ≤ t.rtcFine) ∧
      (0 < s.cycle → t.dtb = s.dtb ∨ t.rtcFine < 8 * ((off + 4000000 : Nat) : Int) + s.cycle)) ∧
    -- BTN_PRESS, BTN_RELEASE: the press is timed from its start and forgotten at its end
    (s.keeper.btnAt = none → Runs .btnPress s fun t => t.keeper.btnAt = some s.rtc ∧ t.keeper.lpDone = false ∧ t.regs = s.regs) ∧
    Runs .btnRelease s (fun t => t.keeper.btnAt = none ∧ t.keeper.lpDone = false ∧ t.regs = s.regs) ∧
    -- BTN_PRESS_WAKE: 200 ms into the press the keeper wakes a module whose PD0 is lowered, with record kind 3
    (∀ p, s.keeper.btnAt = some p → s.power.entry = none → s.boot.stage ≠ 0 → s.domainNow 0 ≠ 0 →
      Runs .btnPressWake s fun t => t.rd Reg.PWR_REFUSE_ID = W (0xE0 + 3 * 2 ^ 20)) ∧
    -- in ship mode BSW is open, and the wake closes it
    (∀ p, s.keeper.btnAt = some p → s.power.entry = none → s.boot.stage = 0 → s.boot.wakeNext = true →
      s.fld Reg.KPR_BSTAT Fld.KPR_BSTAT_closed = 0 → Runs .btnPressWake s fun t =>
      t.fld Reg.KPR_BSTAT Fld.KPR_BSTAT_closed = 1 ∧ t.fld Reg.KPR_BSTAT Fld.KPR_BSTAT_ship = 0 ∧
      t.fld Reg.KPR_SHIP Fld.KPR_SHIP_arm = 0) ∧
    -- LONG_PRESS: at 12 s below 5 km/h class 10 is reported and BSW will open; above, the press is ignored and counted
    (∀ p, s.keeper.btnAt = some p → s.keeper.lpDone = false → Runs .longPress s fun t =>
      t.keeper.lpDone = true ∧
      if s.vehicleBelow 5 then
        t.mg.reports = s.mg.reports ++ [{ cls := 10, scope := scopeOf lvModule 0 }] ∧ t.keeper.lpAt = some (p + 12000 * 400000)
      else t.mg = s.mg ∧ t.rd Reg.KPR_CNT_LPIGN = W (min ((s.rd Reg.KPR_CNT_LPIGN).toNat + 1) 0xFFFFFFFF)) ∧
    -- LONG_PRESS_BSW_OPEN: 50 ms later BSW opens and the supply is lost
    (∀ p, s.keeper.lpAt = some p → Runs .longPressBswOpen s fun t =>
      t.fld Reg.KPR_BSTAT Fld.KPR_BSTAT_closed = 0 ∧ t.keeper.lpOpen = true ∧ t.boot.stage = 0) ∧
    -- LONG_PRESS_BSW_CLOSE: at 550 ms BSW closes, and the next qualified VSUP is a power-on reset with DTB from 0
    (∀ p, s.keeper.lpAt = some p → s.keeper.lpOpen = true → Runs .longPressBswClose s fun t =>
      t.fld Reg.KPR_BSTAT Fld.KPR_BSTAT_closed = 1 ∧ t.dtb = 0 ∧ t.boot.porNext = true ∧ t.keeper.lpAt = none ∧
      t.fld Reg.RST_CAUSE ⟨7, 1⟩ = 1)

/-- The shift actuator and the commutation of both motors (R353-R357, R363), while Team A runs. It rests on the model's choices of logs
28, 58, 112. -/
def Obligations.ShiftActuator : Prop :=
  ∀ s : State, s.Inv → s.teamRuns 1 = true →
    -- SHIFT_START (R353, R357): a new target outside the band starts with the test pulses, or faults with CONFIG
    (s.shState = shOff ∨ s.shState = shHold → s.unset (asig 0x220) = false → s.shift.target ≠ some (s.sig (asig 0x220)).value →
      s.inBand = false → s.stagesAllowed [9] = true → s.modeStops 9 = false →
      s.Publishes (asig 0x200) → s.Publishes (asig 0x201) → Runs .shiftStart s fun t =>
        t.shift.target = some (s.sig (asig 0x220)).value ∧ t.shift.fails = 0 ∧
        (if s.shiftConfigOk then t.shState = shStart ∧ t.shift.pulses = 0 ∧ t.shift.resting = false
         else t.shState = shFault ∧ t.val (asig 0x201) = 1)) ∧
    -- SHIFT_TEST_PULSE_END (R353): the peak of the vector is recorded
    (s.shState = shStart → s.shift.resting = false → s.shift.waitAt = none → s.shift.pulses < 6 →
      s.writable (asig (0x210 + pulseVector s.shift.pulses)) = true → dType (s.desc (asig (0x210 + pulseVector s.shift.pulses))) ≠ 5 →
      Runs .shiftTestPulseEnd s fun t => t.dtb = max s.dtb (s.shift.phaseAt + s.fld Reg.ACT_SHTP Fld.ACT_SHTP_ton * 10000) ∧
        t.val (asig (0x210 + pulseVector s.shift.pulses)) = min s.shCurrent 32767 ∧ t.shift.pulses = s.shift.pulses + 1 ∧
        t.shift.resting = true ∧ t.shift.phaseAt = t.dtb) ∧
    -- SHIFT_REST_END (R353): the next vector, or one more frame of rest
    (s.shState = shStart → s.shift.resting = true → s.shift.pulses < 6 → s.decayed = true → Runs .shiftRestEnd s fun t =>
      t.dtb = max s.dtb (s.shift.phaseAt + s.restFrames * 10000) ∧ t.shift.resting = false ∧ t.shift.phaseAt = t.dtb) ∧
    (s.shState = shStart → s.shift.resting = true → s.shift.pulses < 6 → s.decayed = false → s.restFrames < 80 →
      Runs .shiftRestEnd s fun t => t.shift.extended = s.shift.extended + 1 ∧ t.shift.resting = true) ∧
    -- SHIFT_DECAY_FAIL (R353, R357): the start fails; the third failure in a row is a fault
    (s.shState = shStart → s.shift.resting = true → s.shift.pulses < 6 → 80 ≤ s.restFrames → s.decayed = false →
      s.Publishes (asig 0x200) → s.Publishes (asig 0x201) →
      Runs .shiftDecayFail s fun t => t.shift.fails = s.shift.fails + 1 ∧ t.val (asig 0x201) = 2 ∧
        (if s.shift.fails < 2 then t.shState = shStart ∧ t.shift.waitAt = some t.dtb else t.shState = shFault)) ∧
    -- SHIFT_SECTOR_DECISION (R354, R355)
    (∀ j, s.shState = shStart → s.shift.resting = true → s.shift.pulses = 6 → s.sector = .ok j →
      s.Publishes (asig 0x200) → s.Publishes (asig 0x203) →
      Runs .shiftSectorDecision s fun t => t.shState = shMove ∧ t.shift.fails = 0 ∧ t.val (asig 0x203) = j % 2 ^ 32 ∧
        (t.motor 0).step = ((j + 1) / 2 + if s.forward then 1 else 4) % 6) ∧
    (∀ c, s.shState = shStart → s.shift.resting = true → s.shift.pulses = 6 → s.sector = .error c →
      Runs .shiftSectorDecision s fun t => t.shift.fails = s.shift.fails + 1 ∧
        t.fld Reg.ACT_STAT (if c = 3 then Fld.ACT_STAT_open else Fld.ACT_STAT_ambig) = 1) ∧
    -- BACK_EMF_CROSSING, COMMUTATION, FORCED_COMMUTATION (R356)
    (∀ m, m < 2 → s.motorRuns m = true → (s.motor m).nextAt = none → Runs (.backEmfCrossing m) s fun t =>
      (t.motor m).nextAt = some (if m = 1 ∧ s.pump.st = pmRamp then s.dtb
        else s.dtb + (s.dtb - (s.motor m).lastAt) / motorFrame m * motorFrame m) ∧
      (t.motor m).forced = 0 ∧ (t.motor m).crossings = (s.motor m).crossings + 1) ∧
    (∀ m n, m < 2 → s.motorRuns m = true → (s.motor m).nextAt = some n → Runs (.commutation m) s fun t =>
      t.dtb = (if m = 1 ∧ s.pump.st = pmRamp then s.dtb else max s.dtb n) ∧ (t.motor m).crossings = (s.motor m).crossings ∧ (t.motor m).step = s.nextStep m ∧ (t.motor m).lastAt = t.dtb ∧ (t.motor m).nextAt = none) ∧
    (s.pump.st = pmRamp → (s.motor 1).nextAt = none → Runs (.commutation 1) s fun t =>
      t.dtb = s.dtb ∧ (t.motor 1).step = s.nextStep 1 ∧ (t.motor 1).lastAt = s.dtb ∧ (t.motor 1).crossings = 0) ∧
    (∀ m, m < 2 → s.motorRuns m = true → (m = 0 ∨ s.pump.st = pmRun) → (s.motor m).nextAt = none → (s.motor m).forced < 2 →
      Runs (.forcedCommutation m) s fun t => t.dtb = max s.dtb ((s.motor m).lastAt + 40 * motorFrame m) ∧
        (t.motor m).step = s.nextStep m ∧ (t.motor m).forced = (s.motor m).forced + 1 ∧ (t.motor m).crossings = 0) ∧
    -- SHIFT_IN_BAND, SHIFT_STALL, SHIFT_SENSOR_FAULT, SHIFT_RETRY_WAIT_END, SHIFT_FAULT_CLEAR (R357)
    (s.shState = shMove → s.inBand = true → s.Publishes (asig 0x200) → Runs .shiftInBand s fun t => t.shState = shHold) ∧
    (∀ moved, s.shState = shMove → moved * 100 < 32768 → 4 * s.q15 (asig 0x221) < 5 * s.shCurrent →
      s.Publishes (asig 0x200) → s.Publishes (asig 0x201) →
      Runs (.shiftStall moved) s fun t => t.shState = shFault ∧ t.val (asig 0x201) = 5 ∧
        t.fld Reg.ACT_STAT Fld.ACT_STAT_stall = 1) ∧
    (s.shState = shMove → (s.forkPos * 100 < 163840 ∨ 3112960 < s.forkPos * 100 ∨
        metaQuality (s.sig (asig 0x106)).mword = qInvalid) → s.Publishes (asig 0x200) → s.Publishes (asig 0x201) → Runs .shiftSensorFault s fun t =>
      t.shState = shFault ∧ t.val (asig 0x201) = 6) ∧
    (∀ n, s.shState = shStart → s.shift.waitAt = some n → Runs .shiftRetryWaitEnd s fun t => t.dtb = max s.dtb (msEnd n 10) ∧
      t.shift.pulses = 0 ∧ t.shift.resting = false ∧ t.shift.waitAt = none ∧ t.shift.phaseAt = t.dtb) ∧
    (∀ n, s.shState = shFault → s.serviceSession n = true → s.Publishes (asig 0x200) → s.Publishes (asig 0x201) →
      Runs (.shiftFaultClear n) s fun t =>
      t.shState = shOff ∧ t.val (asig 0x201) = 0 ∧ t.shift.fails = 0)

/-- The park lock, the clutch and the oil pump (R358-R363), while Team A runs. It rests on the model's choices of logs 18, 27, 58, 112. -/
def Obligations.ParkClutchPump : Prop :=
  ∀ s : State, s.Inv → s.teamRuns 1 = true →
    -- PARK_DRIVE_START (R359): the request drives the bridge; an engagement at speed is refused
    (∀ engage, decide (s.val (asig 0x400) = 1) = engage → s.unset (asig 0x400) = false → s.stagesAllowed [11] = true →
      s.modeStops 11 = false → siState s s.sie < 2 → siState s s.sir < 2 →
      (engage = false ∨ s.vehicleBelow (s.num (asig 0x404) 3) = true) → s.park.drive = none → s.park.brakeAt = none →
      s.parkReads engage = false → s.parkConfigOk = true → Runs .parkDriveStart s fun t =>
        t.park.drive = some engage ∧ t.park.since = s.dtb ∧ t.park.st = pkMoving) ∧
    (s.val (asig 0x400) = 1 → s.vehicleBelow (s.num (asig 0x404) 3) = false → Runs .parkDriveStart s fun t =>
      t.park = s.park ∧ t.pg = s.pg) ∧
    -- PARK_POSITION_REACHED, PARK_TIMEOUT (R359)
    (∀ d, s.park.drive = some d → s.parkReads d = true → Runs .parkPositionReached s fun t =>
      t.park.drive = none ∧ t.park.brakeAt = some s.dtb ∧ t.park.next = none) ∧
    (∀ d, s.park.drive = some d → s.parkReads d = false → Runs .parkTimeout s fun t =>
      t.dtb = max s.dtb (msEnd s.park.since (s.num (asig 0x403) 600)) ∧ t.park.st = pkFault ∧
      t.fld Reg.ACT_STAT Fld.ACT_STAT_pk_to = 1 ∧
      t.rd Reg.ACT_CNT_PKTO = W (min ((s.rd Reg.ACT_CNT_PKTO).toNat + 1) 0xFFFFFFFF)) ∧
    -- PARK_BRAKE_END (R359): after 20 ms; the state follows the end positions
    (∀ n, s.park.brakeAt = some n → s.park.next = none → s.park.st ≠ pkFault → Runs .parkBrakeEnd s fun t =>
      t.dtb = max s.dtb (msEnd n 20) ∧ t.park.brakeAt = none ∧ t.park.drive = none ∧
      ((s.sig (asig 0x401)).value ≠ Config.enumCode (asig 0x401) s.parkRest → t.park.st = s.parkRest)) ∧
    -- PARK_DISCREPANCY (R358)
    (2 ≤ siState s s.sie ∨ 2 ≤ siState s s.sir → Runs .parkDiscrepancy s fun t => t.park.st = pkFault ∧
      t.park.drive = none ∧ t.fld Reg.ACT_STAT Fld.ACT_STAT_pk_disc = 1) ∧
    -- CLUTCH_PULL_END, CLUTCH_OPEN_DETECT (R360)
    (s.clutch.st = clPull → Runs .clutchPullEnd s fun t => t.clutch.st = clHold ∧
      t.dtb = max s.dtb (msEnd s.clutch.since (s.val (asig 0x604)))) ∧
    (∀ ms, s.clutch.st = clPull ∨ s.clutch.st = clHold → 10 * s.q15 (asig 0x10C) < s.clutchRef →
      9 * 64 * 20000 < 10 * (s.rd (Reg.PWM_ACTA 32)).toNat → 20 ≤ ms → Runs (.clutchOpenDetect ms) s fun t =>
        t.clutch.st = clFault ∧ t.fld Reg.ACT_STAT Fld.ACT_STAT_cl_open = 1) ∧
    -- PUMP_EVALUATION (R361, R362): every 10 ms; an input above the on threshold starts the pump
    (Runs .pumpEvaluation s fun t => t.dtb % 4000000 = 0 ∧ s.dtb ≤ t.dtb ∧ t.pump.evalAt = some t.dtb ∧
      (s.pump.st = pmOff → s.q15 (asig 0x507) ≤ s.pumpInput → s.stagesAllowed [10] = true → s.modeStops 10 = false →
        t.pump.st = if s.pumpConfigOk then pmAlign else pmFault)) ∧
    -- PUMP_ALIGN_END, PUMP_RAMP_END, PUMP_RETRY_WAIT_END, PUMP_SPEED_FAULT, PUMP_FAULT_CLEAR (R363)
    (s.pump.st = pmAlign → Runs .pumpAlignEnd s fun t => t.dtb = max s.dtb (msEnd s.pump.since 200) ∧ t.pump.st = pmRamp ∧
      (t.motor 1).step = 0 ∧ (t.motor 1).crossings = 0) ∧
    (s.pump.st = pmRamp → Runs .pumpRampEnd s fun t => t.dtb = max s.dtb (msEnd s.pump.since 500) ∧
      (if 6 ≤ (s.motor 1).crossings then t.pump.st = pmRun ∧ t.pump.fails = 0
       else t.pump.fails = s.pump.fails + 1 ∧ t.pump.st = if s.pump.fails < 2 then pmWait else pmFault)) ∧
    (s.pump.st = pmWait → s.pumpConfigOk = true → Runs .pumpRetryWaitEnd s fun t =>
      t.dtb = max s.dtb (msEnd s.pump.since 2000) ∧ t.pump.st = pmAlign ∧
      t.rd Reg.ACT_CNT_PMPRETRY = W (min ((s.rd Reg.ACT_CNT_PMPRETRY).toNat + 1) 0xFFFFFFFF)) ∧
    (∀ ms, s.pump.st = pmRun → 2 * s.q15 (asig 0x504) < s.q15 (asig 0x503) → 1000 ≤ ms → Runs (.pumpSpeedFault ms) s fun t =>
      t.pump.st = pmFault ∧ t.fld Reg.ACT_STAT Fld.ACT_STAT_pmp_fail = 1) ∧
    (∀ n, s.pump.st = pmFault → s.serviceSession n = true → Runs (.pumpFaultClear n) s fun t =>
      t.pump.st = pmOff ∧ t.pump.fails = 0)

/-- WFI, interrupts and watchdogs of the teams, and the release of Team A (R368, R375, R386, R389-R393, R537). It rests on the model's
choices of logs 49, 50. -/
def Obligations.TeamInterrupts : Prop :=
  ∀ s : State, s.Inv →
    -- WFI without a deliverable source or a timer that is due: the core waits
    (∀ core, core < 3 → s.domainOn 0 = true → (s.coreAt core).held = false → (List.range 128).any (s.irqDeliverable 0) = false →
      s.dtb < s.mtimecmp 0 core → s.harnMode 0 = hmSplit → s.harnState 0 = hsRun → s.power.want.getD 0 [] = [] →
      Runs (.wfi core) s fun t => (t.coreAt core).wfi = true ∧ ∀ k, k ≠ core → t.coreAt k = s.coreAt k) ∧
    -- TEAM_A_RELEASE by Team S (R386): Team A starts from RUN in the mode named and leaves HELD; nothing happens without PD1
    (∀ core v, core < 3 → s.domainOn 0 = true → s.cpuRatioOk = true →
      (s.domainOn 1 = false → Runs (.teamARelease core v) s fun t =>
        t.fld (Reg.HARN_STAT 0) Fld.HARN_STAT_cfg_err = 1 ∧ t.cores = s.cores) ∧
      (s.domainOn 1 = true → s.harnMode 1 = hmHeld → Runs (.teamARelease core v) s fun t =>
        (t.harn_ 1).served = List.replicate 3 s.dtb ∧ ∀ n, n < 3 → (t.coreAt (3 + n)).held = false)) ∧
    -- MACHINE_TIMER_INTERRUPT (R368): at MTIMECMP the core leaves WFI
    (∀ core, core < 6 → s.mtimecmp (teamOf core) (core % 3) ≠ 2 ^ 64 - 1 → s.domainOn 0 = true → s.domainOn (teamOf core) = true →
      (s.coreAt core).held = false → s.harnMode (teamOf core) = hmSplit →
      s.power.entry.any (fun e => e.2.any (fun r => r.1 = teamOf core)) = false →
      Runs (.machineTimerInterrupt core) s fun t =>
        t.dtb = max s.dtb (s.mtimecmp (teamOf core) (core % 3)) ∧ (t.coreAt core).wfi = false) ∧
    -- IRQ_CLAIM (R389): the source is returned and no longer pending in that router; 0x80 where none waits
    (∀ core, core < 6 → s.domainOn (teamOf core) = true → s.cpuRatioOk = true → Runs (.irqClaim core) s fun t =>
      match s.claimSource (teamOf core) (core % 3) with
      | some k => (t.coreAt core).read = BitVec.ofNat 64 (W k).toNat ∧
          t.irqPend = s.irqPend.modify (teamOf core) (fun l => l.erase k)
      | none => (t.coreAt core).read = 0x80 ∧ t.irqPend = s.irqPend) ∧
    -- IRQ_COMPLETE (R389) has no other effect
    (∀ core v, core < 6 → s.domainOn (teamOf core) = true → s.cpuRatioOk = true →
      exec (.irqComplete core v) s = .next s) ∧
    -- SOFTWARE_INTERRUPT (R389): bit i of the set register makes source 112 + i pending in both routers; of the clear register, not pending
    (∀ core i, core < 6 → i < 16 → s.domainOn (teamOf core) = true → s.cpuRatioOk = true →
      Runs (.softwareInterrupt core false (W (2 ^ i))) s (fun t => ∀ l ∈ t.irqPend, 112 + i ∈ l) ∧
      Runs (.softwareInterrupt core true (W (2 ^ i))) s (fun t => t.irqPend = s.irqPend.map (fun l => l.erase (112 + i)))) ∧
    -- WATCHDOG_SERVICE (R391): the right word in the open window restarts the watchdog
    (∀ core n, core < 6 → n < 3 → s.domainOn (teamOf core) = true → s.cpuRatioOk = true → s.wdgActive (teamOf core) n = true →
      s.fld (Reg.WDG_CTRL (teamOf core) n) Fld.WDG_CTRL_win * s.wdgTmo (teamOf core) n ≤
        (s.dtb - s.wdgServed (teamOf core) n) / 400 * 256 →
      (s.harn_ (teamOf core)).served.length = 3 → Runs (.watchdogService core n 0xA5C3) s fun t =>
        t.wdgServed (teamOf core) n = s.dtb ∧ t.regs = s.regs) ∧
    -- WATCHDOG_WARNING (R391) at 7/8 of the time-out, with interrupt 107
    (∀ t n, t < 2 → n < 3 → s.wdgActive t n = true → Runs (.watchdogWarning t n) s fun u =>
      u.fld (Reg.WDG_STAT t n) Fld.WDG_STAT_warn = 1 ∧ (∀ l ∈ u.irqPend, 107 ∈ l) ∧
      u.dtb = max s.dtb (s.wdgServed t n + (s.wdgTmo t n * 7 * 400 + 7) / 8)) ∧
    -- WATCHDOG_EXPIRY (R392, R560) in Team S: the team-watchdog reset, cause 2
    (∀ n, n < 3 → s.wdgActive 0 n = true → Runs (.watchdogExpiry 0 n) s fun u =>
      u.boot.warm = true ∧ u.fld Reg.RST_STAT Fld.RST_STAT_last = 2 ∧ u.dtb = max s.dtb (s.wdgServed 0 n + s.wdgTmo 0 n * 400)) ∧
    -- MARTINGALE_FATAL_RESET (R560) 5 ms after the fatal reaction, cause 4
    (∀ due, s.mg.fatalDue = some due → Runs .martingaleFatalReset s fun u =>
      u.boot.warm = true ∧ u.fld Reg.RST_STAT Fld.RST_STAT_last = 4 ∧ u.dtb = max s.dtb due) ∧
    -- DOUBLE_BIT_L1_ERROR (R375) in a core that is not compared: an access fault and a count
    (∀ core, core < 6 → s.domainOn (teamOf core) = true → s.harnMode (teamOf core) = hmSplit → Runs (.doubleBitL1Error core) s fun u =>
      (u.coreAt core).faults = (s.coreAt core).faults + 1 ∧
      u.rd (Reg.HARN_CNT_MIS (teamOf core)) = W (min ((s.rd (Reg.HARN_CNT_MIS (teamOf core))).toNat + 1) 0xFFFFFFFF))

/-- Mismatches, rejoin and re-harness of a team whose domain is ON (R374-R384). It rests on the model's choices of logs 50, 56, 113. -/
def Obligations.TeamHarness : Prop :=
  ∀ (s : State) (t : Nat), s.Inv → t < 2 → s.domainOn t = true →
    -- TROIKA_MISMATCH (R376) in RUN: PAIR without the odd core, which is held; recorded and counted
    (∀ odd kind, odd < 3 → s.harnMode t = hmTroika → s.harnState t = hsRun → Runs (.troikaMismatch t odd kind) s fun u =>
      (u.teamCore t odd).held = true ∧ (u.harn_ t).deg = true ∧ (u.harn_ t).pairAt = some s.dtb ∧
      u.harnState t = hsPair ∧ u.harnOdd t = odd ∧ u.rd (Reg.HARN_MIST t) = s.dtbLow ∧
      ∀ l ∈ u.irqPend, 105 ∈ l) ∧
    -- NO_MAJORITY_MISMATCH (R380) in Team S: the compared group stops, class 9 is reported, and a fatal reset is due in 5 ms
    (∀ kind odd, t = 0 → odd < 3 → s.harnMode 0 = hmTroika → (s.compared 0).isEmpty = false → s.mg.fatalDue = none →
      Runs (.noMajorityMismatch 0 kind odd) s fun u =>
        u.mg.reports = s.mg.reports ++ [{ cls := 9, scope := scopeOf lvModule 0 }] ∧ u.mg.fatalDue = some (s.dtb + 2000000) ∧
        ∀ l ∈ u.irqPend, 105 ∈ l) ∧
    -- REJOIN_REQUEST (R377) in PAIR, FORCED_BARRIER 36 us after the detection: the barrier begins
    (∀ core v, core < 6 → teamOf core = t → s.cpuRatioOk = true → s.harnState t = hsPair → Word.get v Fld.HARN_RJN_now = 1 →
      Runs (.rejoinRequest core v) s fun u => u.harnState t = hsBarrier ∧ (u.harn_ t).barrier = some s.dtb) ∧
    (∀ t0, s.harnState t = hsPair → (s.harn_ t).pairAt = some t0 → Runs (.forcedBarrier t) s fun u =>
      u.harnState t = hsBarrier ∧ u.dtb = max s.dtb (t0 + 14400) ∧ (u.harn_ t).barrier = some u.dtb) ∧
    -- REJOIN_DONE (R377, R378): the odd core takes the registers of the pair, and TROIKA is whole again
    (∀ t0 stall, s.harnState t = hsBarrier → (s.harn_ t).barrier = some t0 → (s.harn_ t).byWfi = false → stall ≤ 3200 →
      s.harnOdd t < 3 → Runs (.rejoinDone t stall) s fun u =>
        (u.harn_ t).deg = false ∧ (u.harn_ t).barrier = none ∧ (u.teamCore t (s.harnOdd t)).held = false ∧
        (u.teamCore t (s.harnOdd t)).x = (s.teamCore t (if s.harnOdd t = 0 then 1 else 0)).x ∧
        (u.teamCore t (s.harnOdd t)).pc = (s.teamCore t (if s.harnOdd t = 0 then 1 else 0)).pc ∧ ∀ l ∈ u.irqPend, 106 ∈ l) ∧
    -- REHARNESS_FENCE (R381, R382): TROIKA to TANDEM drains
    (∀ core, core < 6 → teamOf core = t → (s.coreAt core).held = false → s.harnMode t = hmTroika → s.harnState t = hsRun →
      Runs (.reharnessFence core hmTandem) s fun u =>
        u.harnState t = hsDrain ∧ (u.harn_ t).target = some hmTandem ∧ (u.harn_ t).barrier = some s.dtb ∧ (u.harn_ t).arm = true) ∧
    -- REHARNESS_DONE (R383): the mode changes and the request reads DONE; core 2 starts free at its own address
    (∀ t0 stall, s.harnState t = hsDrain → s.harnMode t = hmTroika → (s.harn_ t).target = some hmTandem →
      (s.harn_ t).barrier = some t0 → stall ≤ 4800 → Runs (.reharnessDone t stall) s fun u =>
        u.harnMode t = hmTandem ∧ u.harnState t = hsRun ∧ (u.harn_ t).res = resDone ∧ (u.harn_ t).target = none ∧
        (u.teamCore t 2).pc = (s.rd (Reg.HARN_PC2 t)).toNat * 256 ∧ (u.teamCore t 2).held = false)

/-- The safety lock, the fault reports and their release (R396-R398, R405, R406, R412-R416, R427) of a Martingale that is supplied. It
rests on the model's choices of logs 14, 23, 24, 114. -/
def Obligations.MartingaleReports : Prop :=
  ∀ s : State, s.Inv → s.domainOn 2 = true →
    -- SAFETY_LOCK (R397): two keys of Team S in a row; the first failed case is named, and none locks
    (∀ core, core < 6 → s.cpuRatioOk = true → Runs (.safetyLock core 0x4D47) s fun t => t.mg.keyed = decide (core < 3)) ∧
    (∀ core, core < 3 → s.cpuRatioOk = true → s.mg.keyed = true → s.locked = false → Runs (.safetyLock core 0xB2B8) s fun t =>
      t.fld Reg.MG_STAT Fld.MG_STAT_lock_err = s.lockCase ∧ (t.locked = true ↔ s.lockCase = 0) ∧ t.mg.keyed = false) ∧
    -- CLOCK_SUPERVISOR_TRIP (R396)
    (Runs .clockSupervisorTrip s fun t => t.mg.supervisor = true ∧ t.mg.fatalDue = some s.dtb) ∧
    -- MG_REPS, MG_REPA (R414): a report of class 12, or a refusal that is counted
    (∀ core v, core < 3 → s.cpuRatioOk = true → Runs (.mgReps core v) s fun t =>
      if Word.get v Fld.MG_REPS_rx ≤ 4 ∧ scopeValid (Word.get v Fld.MG_REPS_scope) = true then
        t.mg.reports = s.mg.reports ++ [{ cls := 12, scope := Word.get v Fld.MG_REPS_scope, rx := Word.get v Fld.MG_REPS_rx }]
      else t.mg.reports = s.mg.reports ∧ t.regs = (s.inc Reg.MG_CNT_REPREF).regs) ∧
    (∀ core v, 3 ≤ core → core < 6 → s.cpuRatioOk = true → Runs (.mgRepa core v) s fun t =>
      if (Word.get v Fld.MG_REPA_rx = 0 ∧ scopeValid (Word.get v Fld.MG_REPA_scope) = true) ∨
          (Word.get v Fld.MG_REPA_rx = 1 ∧ scopeLevel (Word.get v Fld.MG_REPA_scope) = 4 ∧
            scopeIndex (Word.get v Fld.MG_REPA_scope) ∈ [4, 5, 13, 8, 9, 11, 12, 10]) then
        t.mg.reports = s.mg.reports ++ [{ cls := 12, scope := Word.get v Fld.MG_REPA_scope, rx := Word.get v Fld.MG_REPA_rx }]
      else t.mg.reports = s.mg.reports ∧ t.regs = (s.inc Reg.MG_CNT_REPREF).regs) ∧
    -- FAULT_REPORT (R412): a report of kind REPORT is recorded and counted, and no more
    (∀ cls scope rx, cls < 16 → cls ≠ 12 → cls ≠ 4 → { cls := cls, scope := scope, rx := rx } ∈ s.mg.reports →
      s.fld (Reg.MG_RX cls) Fld.MG_RX_rx = 0 → Runs (.faultReport cls scope rx) s fun t =>
        t.rd Reg.MG_FLT = W (scope + cls * 2 ^ 16) ∧ t.rd Reg.MG_FLTT = s.dtbLow ∧
        t.rd Reg.MG_CNT_FLT = W (min ((s.rd Reg.MG_CNT_FLT).toNat + 1) 0xFFFFFFFF) ∧
        t.mg.reports = s.mg.reports.erase { cls := cls, scope := scope, rx := rx }) ∧
    -- a SAFE reaction at a drive's Stage scope requests STO of the drive (R413)
    (∀ d, d < 2 → { cls := 12, scope := driveScope d, rx := rxSafe } ∈ s.mg.reports →
      Runs (.faultReport 12 (driveScope d) rxSafe) s fun t => t.fstate d = 2) ∧
    -- MG_GTRIP (R414): TL6 of each generator named
    (∀ core hi v i, core < 3 → s.cpuRatioOk = true → bit v.toNat i = true → i < (if hi then 8 else 32) → Runs (.mgGtrip core hi v) s fun t =>
      t.tl6 (if hi then i + 32 else i) = true) ∧
    -- MG_CLR (R415): a source under the scope refuses the release
    (∀ core v, core < 3 → s.cpuRatioOk = true → s.sourceUnder (Word.get v Fld.MG_CLR_scope) = true → Runs (.mgClr core v) s fun t =>
      t.rd Reg.MG_CNT_REPREF = W (min ((s.rd Reg.MG_CNT_REPREF).toNat + 1) 0xFFFFFFFF) ∧ t.rd Reg.MG_TL6 = s.rd Reg.MG_TL6) ∧
    (∀ core v g, core < 3 → s.cpuRatioOk = true → s.reactedNow (Word.get v Fld.MG_CLR_scope) = false → scopeValid (Word.get v Fld.MG_CLR_scope) = true → scopeLevel (Word.get v Fld.MG_CLR_scope) < 6 →
      s.sourceUnder (Word.get v Fld.MG_CLR_scope) = false → s.fstate 0 = 0 → s.fstate 1 = 0 →
      g ∈ scopeGens (Word.get v Fld.MG_CLR_scope) → Runs (.mgClr core v) s fun t => t.tl6 g = false) ∧
    -- MG_SEL_WRITE (R405): the selection, with the tracking from the present position; SLP_REFERENCE_SET (R406)
    (∀ core v d, core < 6 → d < 2 → s.cpuRatioOk = true → s.fstate 0 = 0 → s.fstate 1 = 0 → Word.get v Fld.MG_SEL_ref = 0 →
      Runs (.mgSelWrite core v) s fun t => t.rd Reg.MG_SEL = (s.wrReg Reg.MG_SEL v).rd Reg.MG_SEL ∧
        (t.mgDrive d).extreme = s.mgPos d) ∧
    (∀ core v d, core < 6 → d < 2 → s.cpuRatioOk = true → bit (Word.get v Fld.MG_SEL_drv) d = true → s.mgValid d = true →
      (s.mgSpeed d).natAbs < s.fld (Reg.MG_SS1N d) Fld.MG_SS1N_nz → Runs (.slpReferenceSet core v) s fun t =>
        t.rd (Reg.MG_POS d) = 0 ∧ (t.mgDrive d).frac = 0 ∧ (t.mgDrive d).extreme = 0) ∧
    -- MODULE_DISCHARGE_REQUEST (R416)
    (s.mg.dscWant = true → s.val (sid 3 0x30) = 0 →
      (∀ d, d < 2 → ((s.mgSpeed d).natAbs : Int) < s.nss d - s.nhys d) → s.gate.dscHold.any (s.dtb < ·) = false →
      Runs .moduleDischargeRequest s fun t => t.fld Reg.DSC_STAT Fld.DSC_STAT_active = 1 ∧ t.mg.dscWant = false)

/-- Test pulses, dual-contact inputs, safety outputs and the self-test (R417-R423). It rests on the model's choices of logs 2, 14, 99,
114. -/
def Obligations.MartingaleInputs : Prop :=
  ∀ s : State, s.Inv → s.domainOn 2 = true →
    -- TEST_PULSE_START, TEST_PULSE_END (R417): 2.5 ms x n after a 10 ms boundary, for 400 microseconds
    (∀ n, n < 4 → bit (s.fld Reg.MG_TP Fld.MG_TP_en) n = true → s.mg.tpOff.length = 4 → s.mg.tpOff.getD n false = false →
      Runs (.testPulseStart n) s fun t => t.mg.tpOff.getD n false = true ∧ s.dtb ≤ t.dtb ∧ 1000000 * n ≤ t.dtb ∧
        (t.dtb - 1000000 * n) % 4000000 = 0) ∧
    (∀ n, n < 4 → s.mg.tpOff.getD n false = true → Runs (.testPulseEnd n) s fun t => t.mg.tpOff.getD n false = false ∧
      t.dtb = max s.dtb (1000000 * n + (s.dtb - 1000000 * n) / 4000000 * 4000000 + 160000)) ∧
    -- SAFETY_INPUT_SAMPLE (R418): every 50 microseconds; without test pulses the contacts take the raw levels
    (∀ a b i, i < 8 → s.fld Reg.MG_TP Fld.MG_TP_en = 0 → Runs (.safetyInputSample a b) s fun t =>
      t.dtb % 20000 = 0 ∧ s.dtb ≤ t.dtb ∧ t.mg.sampleAt = some t.dtb ∧
      (t.safetyIn i).a.raw = bit a i ∧ (t.safetyIn i).b.raw = bit b i) ∧
    -- CONTACT_FILTER_EXPIRY (R418): a contact that has held its level for 1 ms reads it
    (∀ i n, i < 8 → (s.safetyIn i).a.since = some n → Runs (.contactFilterExpiry i false) s fun t =>
      t.dtb = max s.dtb (n + 400000) ∧ (t.safetyIn i).a.read = !(s.safetyIn i).a.read ∧ (t.safetyIn i).a.since = none) ∧
    (∀ i n, i < 8 → (s.safetyIn i).b.since = some n → Runs (.contactFilterExpiry i true) s fun t =>
      t.dtb = max s.dtb (n + 400000) ∧ (t.safetyIn i).b.read = !(s.safetyIn i).b.read ∧ (t.safetyIn i).b.since = none) ∧
    -- INPUT_DISCREPANCY_TIMEOUT (R419): FAULT, counted and reported as class 12 of kind REPORT
    (∀ i n, i < 8 → (s.safetyIn i).disc = some n → siState s i = 2 → Runs (.inputDiscrepancyTimeout i) s fun t =>
      t.dtb = max s.dtb (n + s.discTime i) ∧ siState t i = 3 ∧
      t.rd Reg.MG_CNT_SI = W (min ((s.rd Reg.MG_CNT_SI).toNat + 1) 0xFFFFFFFF) ∧
      t.mg.reports = s.mg.reports ++ [{ cls := 12, scope := scopeOf lvModule 0, rx := 0 }]) ∧
    -- INPUT_FAULT_RECOVERY (R419): 100 ms with both contacts open
    (∀ i n, i < 8 → (s.safetyIn i).openSince = some n → siState s i = 3 → Runs (.inputFaultRecovery i) s fun t =>
      t.dtb = max s.dtb (n + 40000000) ∧ siState t i = 0) ∧
    -- SAFETY_OUTPUT_TEST, SAFETY_OUTPUT_TEST_END (R422)
    (∀ n, n < 4 → bit (s.fld Reg.MG_SOSTAT Fld.MG_SOSTAT_on) n = true → s.mg.soOff.length = 4 →
      s.mg.soOff.getD n none = none → Runs (.safetyOutputTest n) s fun t => t.mg.soOff = s.mg.soOff.set n (some t.dtb) ∧
        s.dtb ≤ t.dtb ∧ bit (t.fld Reg.MG_SOSTAT Fld.MG_SOSTAT_on) n = false) ∧
    (∀ n at_ high low, n < 4 → s.mg.soOff.getD n none = some at_ → Runs (.safetyOutputTestEnd n high low) s fun t =>
      t.dtb = max s.dtb (at_ + s.fld (Reg.MG_SO n) Fld.MG_SO_pw * 400) ∧ t.mg.soOff.getD n none = none ∧
      (if high || low then bit (t.fld Reg.MG_SOSTAT Fld.MG_SOSTAT_flt) n = true ∧
          bit (t.fld Reg.MG_SOSTAT Fld.MG_SOSTAT_on) n = false ∧
          t.mg.reports = s.mg.reports ++ [{ cls := 13, scope := scopeOf lvModule 0 }]
       else t.mg.reports = s.mg.reports)) ∧
    -- SAFETY_OUTPUT_FAULT_CLEAR (R422): a fault whose source permits the output stays
    (∀ core v n, core < 6 → s.cpuRatioOk = true → n < 4 → bit v.toNat (8 + n) = true → Runs (.safetyOutputFaultClear core v) s fun t =>
      bit (t.fld Reg.MG_SOSTAT Fld.MG_SOSTAT_flt) n =
        (s.outPermitted n && bit (s.fld Reg.MG_SOSTAT Fld.MG_SOSTAT_flt) n)) ∧
    -- SELF_TEST_START, SELF_TEST_DONE (R423): 4.0 ms
    (∀ core v, core < 6 → s.cpuRatioOk = true → s.domainOn 4 = true → (∀ g, g < 6 → s.on (Reg.PWM_CTRL g) Fld.PWM_CTRL_en = false) →
      s.mg.testDue = none → Runs (.selfTestStart core v) s fun t =>
        t.fld Reg.MG_STAT Fld.MG_STAT_st_busy = 1 ∧ t.mg.testDue = some (s.dtb + 1600000)) ∧
    (∀ passed n, s.mg.testDue = some n → Runs (.selfTestDone passed) s fun t => t.dtb = max s.dtb n ∧ t.mg.tested = true ∧
      t.mg.testDue = none ∧ t.fld Reg.MG_STAT Fld.MG_STAT_st_busy = 0 ∧
      (if passed && !s.mg.midBad then t.fld Reg.MG_STAT Fld.MG_STAT_st_pass = 1 ∧ t.mg.reports = s.mg.reports
       else t.fld Reg.MG_STAT Fld.MG_STAT_st_fail = 1 ∧ t.mg.reports = s.mg.reports ++ [{ cls := 14, scope := scopeOf lvModule 0 }]))

/-- The measurement of a drive's speed, its validity and the end of SS1 (R399-R403, R426). It rests on the model's choices of logs 14, 18,
114. -/
def Obligations.MartingaleDrives : Prop :=
  ∀ (s : State) (d : Nat), s.Inv → d < 2 →
    -- MARTINGALE_TICK (R399, R401): at a multiple of 40,000 the samples are taken and judged
    (s.domainOn 2 = true → Runs .martingaleTick s fun t => t.dtb % 40000 = 0 ∧ s.dtb ≤ t.dtb ∧ t.mg.tickAt = some t.dtb ∧
      (t.mgDrive d).fresh5 = false ∧ (t.mgDrive d).fresh6 = false ∧
      (t.mgDrive d).bad = (if s.sampleValid (s.sensorOf d) then 0 else (s.mgDrive d).bad + 1) ∧
      (t.mgDrive d).good = (if s.sampleValid (s.sensorOf d) then (s.mgDrive d).good + 1 else 0) ∧
      (s.encoderMode (s.sensorOf d) = true →
        (t.mgDrive d).count = some (s.fld (Reg.ENC_CNT (s.sensorOf d)) Fld.ENC_CNT_cnt))) ∧
    -- SPEED_INVALID, SPEED_VALID (R401): 3 bad ticks, 4 good ticks
    (s.mgValid d = true → 3 ≤ (s.mgDrive d).bad → Runs (.speedInvalid d) s fun t => t.mgValid d = false) ∧
    (s.mgValid d = false → 4 ≤ (s.mgDrive d).good → Runs (.speedValid d) s fun t => t.mgValid d = true) ∧
    -- SPEED_CROSSCHECK_FAULT (R402): ten ticks; the fault is reported once while its condition lasts
    (10 ≤ (s.mgDrive d).xcheck → Runs (.speedCrosscheckFault d) s fun t =>
      if { cls := 6, scope := driveScope d } ∈ s.mg.sources then t = s
      else t.mg.reports = s.mg.reports ++ [{ cls := 6, scope := driveScope d }] ∧
        { cls := 6, scope := driveScope d } ∈ t.mg.sources) ∧
    -- SS1_RAMP_END (R403, R426): STO at the end of the ramp, with cause 8, or 7 outside the envelope
    (s.fstate d = 1 → Runs (.ss1RampEnd d) s fun t => t.dtb = max s.dtb ((s.mgDrive d).ss1At + s.ss1Time d) ∧
      t.fstate d = 2 ∧ t.fld (Reg.MG_DSTAT d) Fld.MG_DSTAT_cause = if s.envelopeOk d (s.ss1Time d) then 8 else 7)

/-- The thermal block (R428-R436). It rests on the model's choices of logs 18, 47, 48. -/
def Obligations.ThermalCommands : Prop :=
  ∀ s : State, s.Inv →
    -- ZONE_EVALUATION takes place at its due time and sets the next one after it; a zone without an enabled sensor counts the
    -- evaluation as one without a valid sensor
    (∀ z due, z < 8 → s.domainOn 3 = true → s.on Reg.TH_CTRL Fld.TH_CTRL_en = true → (s.zone z).nextAt = some due →
      Runs (.zoneEvaluation z) s fun t =>
        t.dtb = max s.dtb due ∧ (∃ next, (t.zone z).nextAt = some next ∧ t.dtb < next) ∧
        (s.rd (Reg.TH_ZSEN z) = 0 → (t.zone z).bad = (s.zone z).bad + 1 ∧ (t.zone z).good = 0)) ∧
    -- EVENT_RECORD_COPY: the oldest record goes to its slot of the ring in data NVM, and the slot number advances
    (∀ r rest, s.thermal.records = r :: rest → s.domainOn 7 = true → r.length = 32 → Runs .eventRecordCopy s fun t =>
      t.thermal.records = rest ∧
      (∀ k, k < 32 → t.nvmGet (0x483FF800 + 32 * s.fld Reg.TH_RECPTR Fld.TH_RECPTR_n + k) = r.getD k 0) ∧
      (∀ x, x < 0x483FF800 + 32 * s.fld Reg.TH_RECPTR Fld.TH_RECPTR_n ∨
        0x483FF800 + 32 * s.fld Reg.TH_RECPTR Fld.TH_RECPTR_n + 32 ≤ x → t.nvmGet x = s.nvmGet x) ∧
      t.fld Reg.TH_RECPTR Fld.TH_RECPTR_n = (s.fld Reg.TH_RECPTR Fld.TH_RECPTR_n + 1) % 64) ∧
    -- THERMAL_REENABLE_REQUEST by Team S: the request waits for the zones' next evaluations
    (∀ core v, core < 3 → s.cpuRatioOk = true → s.domainOn 3 = true → Runs (.thermalReenableRequest core v) s fun t =>
      t.thermal.reen = s.thermal.reen ||| Word.get v Fld.TH_REEN_zone ∧ t.thermal.zones = s.thermal.zones ∧ t.regs = s.regs)

/-- The message-bus ports (R440-R460), for port `p` while PD5 is ON and the bus clock runs. It rests on the model's choices of logs 35,
36, 66, 72. -/
def Obligations.BusPorts : Prop :=
  ∀ (s : State) (p : Nat), s.Inv → p < 4 → s.domainOn 5 = true → s.clocked 7 = true →
    -- BUS_ENABLE (R441-R444): the timing rules pass and the port integrates, or cfg_err is set
    (∀ core v, core < 6 → s.cpuRatioOk = true → s.on (Reg.BUS_CTRL p) Fld.BUS_CTRL_en = false → Word.get v Fld.BUS_CTRL_en = 1 →
      Word.get v Fld.BUS_CTRL_slp = 0 → Runs (.busEnable core p v) s fun t =>
        if (s.wrReg (Reg.BUS_CTRL p) (Word.put v Fld.BUS_CTRL_en 0)).timingOk p then
          t.fld (Reg.BUS_CTRL p) Fld.BUS_CTRL_en = 1 ∧ t.fld (Reg.BUS_STAT p) Fld.BUS_STAT_integ = 1
        else t.fld (Reg.BUS_STAT p) Fld.BUS_STAT_cfg_err = 1 ∧ t.bus = s.bus) ∧
    -- BUS_INTEGRATION_DONE (R444)
    (s.portOn p = true → s.clkScale = 0 → Runs (.busIntegrationDone p) s fun t =>
      t.fld (Reg.BUS_STAT p) Fld.BUS_STAT_integ = 0) ∧
    -- RX_OBJECT_CONSUME (R448), TRANSMIT_SEND and TRANSMIT_OBJECT_DUE (R453)
    (∀ core k, core < 6 → s.cpuRatioOk = true → k < 1024 → Runs (.rxObjectConsume core p k) s fun t =>
      t.fld (Reg.RXO_STAT p k) Fld.RXO_STAT_new = 0) ∧
    (∀ core j, core < 6 → s.cpuRatioOk = true → j < 64 → s.on (Reg.TXO_CFG p j) Fld.TXO_CFG_en = true →
      (s.busAt p).tx.find? (fun x => x.obj = j) = none → Runs (.transmitSend core p j) s fun t =>
        t.fld (Reg.TXO_STAT p j) Fld.TXO_STAT_pend = 1 ∧ (t.busAt p).tx.map (·.obj) = (s.busAt p).tx.map (·.obj) ++ [j]) ∧
    (∀ j x, j < 64 → (s.busAt p).due.find? (fun x => x.1 = j) = some x →
      (s.busAt p).tx.find? (fun x => x.obj = j) = none → Runs (.transmitObjectDue p j) s fun t =>
        t.dtb = max s.dtb (x.2 * 400000) ∧ t.fld (Reg.TXO_STAT p j) Fld.TXO_STAT_pend = 1 ∧
        (t.busAt p).tx.map (·.obj) = (s.busAt p).tx.map (·.obj) ++ [j]) ∧
    -- FRAME_TRANSMITTED (R454, R456): the frame is no longer pending, and tec falls by 1
    (∀ obj start, obj < 64 → s.attemptOf p obj start = true → s.busMode p ≠ 3 → Runs (.frameTransmitted p obj start) s fun t =>
      (t.busAt p).tx = (s.busAt p).tx.filter (fun x => x.obj ≠ obj) ∧ t.fld (Reg.TXO_STAT p obj) Fld.TXO_STAT_pend = 0 ∧
      t.busTec p = s.busTec p - 1) ∧
    -- FRAME_TX_FAILURE (R456): an error that counts raises tec by 8, beyond 255 to bus-off
    (∀ obj start err, err < 3 → s.attemptOf p obj start = true → Runs (.frameTxFailure p obj start err) s fun t =>
      t.busTec p = (if err = 1 then min (s.busTec p + 8) 511 else s.busTec p) ∧
      (err = 1 → 255 < s.busTec p + 8 → t.fld (Reg.BUS_STAT p) Fld.BUS_STAT_boff = 1)) ∧
    -- FRAME_ABANDON (R455): 100 microseconds before the deadline
    (∀ obj n d, obj < 64 → (s.pendingFrames p).find? (fun x => x.1 = obj) = some (obj, n, some d) →
      Runs (.frameAbandon p obj false) s fun t => t.dtb = max s.dtb (d - 40000) ∧
        t.fld (Reg.TXO_STAT p obj) Fld.TXO_STAT_abandoned = 1 ∧ t.fld (Reg.TXO_STAT p obj) Fld.TXO_STAT_pend = 0 ∧
        t.rd (Reg.BUS_CNT_ABANDON p) = W (min ((s.rd (Reg.BUS_CNT_ABANDON p)).toNat + 1) 0xFFFFFFFF)) ∧
    -- RECEIVE_ERROR (R456), PROTOCOL_EXCEPTION (R440)
    (∀ big, s.portLive p = true → Runs (.receiveError p big) s fun t =>
      t.busRec p = min 255 (s.busRec p + if big then 8 else 1) ∧ t.busTec p = s.busTec p) ∧
    (s.portLive p = true → Runs (.protocolException p 0) s fun t => t.fld (Reg.BUS_STAT p) Fld.BUS_STAT_pex = 1 ∧
      (if s.on (Reg.BUS_CTRL p) Fld.BUS_CTRL_pxhd then t.busRec p = min 255 (s.busRec p + 1)
       else t.fld (Reg.BUS_STAT p) Fld.BUS_STAT_integ = 1)) ∧
    -- BUS_RECOVERY_REQUEST, BUS_OFF_RECOVERY (R456)
    (∀ core, core < 6 → s.cpuRatioOk = true → s.on (Reg.BUS_STAT p) Fld.BUS_STAT_boff = true → Runs (.busRecoveryRequest core p) s fun t =>
      (t.busAt p).counting = true) ∧
    (s.portOn p = true → s.on (Reg.BUS_STAT p) Fld.BUS_STAT_boff = true → (s.busAt p).counting = true →
      Runs (.busOffRecovery p) s fun t => t.fld (Reg.BUS_STAT p) Fld.BUS_STAT_boff = 0 ∧ t.busTec p = 0 ∧ t.busRec p = 0 ∧
        (t.busAt p).counting = false)

/-- Reception, supervision, sleep and wake of the ports (R445-R449, R457-R459). It rests on the model's choices of logs 36, 37, 65. -/
def Obligations.BusFramesAndSleep : Prop :=
  ∀ s : State, s.Inv →
    -- FRAME_RECEIVED (R445, R448): the matching object takes the frame, with the time and its count
    (∀ p fmt ide id data sdt vcid af k, p < 4 → s.portLive p = true → s.busMode p ≠ 3 →
      s.formatOn p { fmt := fmt, ide := ide, id := id, data := data, sdt := sdt, vcid := vcid, af := af } = true →
      frameLengthOk { fmt := fmt, ide := ide, id := id, data := data, sdt := sdt, vcid := vcid, af := af } = true → fmt < 2 →
      s.bridleRequest p { fmt := fmt, ide := ide, id := id, data := data, sdt := sdt, vcid := vcid, af := af } = false →
      (((s.inc (Reg.BUS_CNT_RX p)).rxGood p).rxObjects p).find? (fun k => s.rxMatches p k { fmt := fmt, ide := ide, id := id, data := data, sdt := sdt, vcid := vcid, af := af }) = some k →
      k < 1024 → Runs (.frameReceived p fmt ide id data sdt vcid af) s fun t =>
        t.rd (Reg.BUS_CNT_RX p) = W (min ((s.rd (Reg.BUS_CNT_RX p)).toNat + 1) 0xFFFFFFFF) ∧
        (k, { frame := { fmt := fmt, ide := ide, id := id, data := data, sdt := sdt, vcid := vcid, af := af }, dtb := s.dtb, seq := sparseGet (fun _ => 0) (s.busAt p).count k + 1 }) ∈ (t.busAt p).rx ∧
        (s.on (Reg.RXO_CFG p k) Fld.RXO_CFG_cons = true → t.fld (Reg.RXO_STAT p k) Fld.RXO_STAT_new = 1)) ∧
    -- BUS_SUPERVISOR_TIMEOUT (R457): tmo milliseconds without a frame, reported once as class 11
    (∀ p i n, p < 4 → i < 16 → (s.busAt p).watch.getD i none = some n → s.on (Reg.BUS_SUP p i) Fld.BUS_SUP_en = true →
      s.on (Reg.BUS_SUP p i) Fld.BUS_SUP_tmo = true → s.portOn p = true → s.clocked 7 = true →
      Runs (.busSupervisorTimeout p i) s fun t =>
        t.dtb = max s.dtb (n + s.fld (Reg.BUS_SUP p i) Fld.BUS_SUP_tmo * 400000) ∧ (t.busAt p).watch.getD i none = none ∧
        t.mg.reports = s.mg.reports ++ [{ cls := 11, scope := scopeOf lvNetwork 0 }]) ∧
    -- BUS_SLEEP (R458): at once, or after the frame in progress
    (∀ core p, core < 6 → p < 4 → s.cpuRatioOk = true → s.domainOn 5 = true → s.clocked 7 = true → s.on (Reg.BUS_STAT p) Fld.BUS_STAT_awake = true →
      Runs (.busSleep core p false) s fun t => t.fld (Reg.BUS_CTRL p) Fld.BUS_CTRL_slp = 1 ∧
        t.fld (Reg.BUS_STAT p) Fld.BUS_STAT_awake = 0) ∧
    (∀ core p, core < 6 → p < 4 → s.cpuRatioOk = true → s.domainOn 5 = true → s.clocked 7 = true → s.portLive p = true →
      Runs (.busSleep core p true) s fun t => t.fld (Reg.BUS_STAT p) Fld.BUS_STAT_awake = 1 ∧ (t.busAt p).sleepWait = true) ∧
    -- BUS_WAKE (R458): by a write, or by a dominant phase of 5 microseconds; a phase below 0.5 microseconds never wakes
    (∀ core p cycles, core < 6 → p < 4 → s.cpuRatioOk = true → s.domainOn 5 = true → s.clocked 7 = true →
      Runs (.busWake core p cycles true) s fun t => t.fld (Reg.BUS_CTRL p) Fld.BUS_CTRL_slp = 0 ∧
        t.fld (Reg.BUS_STAT p) Fld.BUS_STAT_awake = 1) ∧
    (∀ core p cycles, core < 6 → p < 4 → s.domainOn 5 = true → 2000 ≤ cycles →
      s.on (Reg.BUS_STAT p) Fld.BUS_STAT_awake = false → (s.busAt p).sleepWait = false →
      Runs (.busWake core p cycles false) s fun t => t.fld (Reg.BUS_STAT p) Fld.BUS_STAT_awake = 1) ∧
    (∀ core p cycles, core < 6 → p < 4 → cycles < 200 → Runs (.busWake core p cycles false) s fun t => t = s) ∧
    -- BUS0_WAKE_FRAME (R459): the detector's cause, and its error counter
    (∀ cycles ide id dlc data, s.domainOn 5 = false → s.on Reg.KPR_BSTAT Fld.KPR_BSTAT_closed = true →
      s.fld Reg.KPR_BWAKE Fld.KPR_BWAKE_mode = 1 → 2000 ≤ cycles → s.boot.stage ≠ 0 →
      Runs (.bus0WakeFrame 0 cycles ide id dlc data) s fun t => t.fld Reg.KPR_BWSTAT Fld.KPR_BWSTAT_cause = 1) ∧
    (∀ cycles ide id dlc data, s.domainOn 5 = false → s.on Reg.KPR_BSTAT Fld.KPR_BSTAT_closed = true →
      s.fld Reg.KPR_BWAKE Fld.KPR_BWAKE_mode = 2 → s.fld Reg.KPR_BWSTAT Fld.KPR_BWSTAT_fec < 31 →
      Runs (.bus0WakeFrame 2 cycles ide id dlc data) s fun t =>
        t.fld Reg.KPR_BWSTAT Fld.KPR_BWSTAT_fec = s.fld Reg.KPR_BWSTAT Fld.KPR_BWSTAT_fec + 1)

/-- The bytes of a request, with any padding behind them, parse to that request (R460-R463). -/
def Obligations.RequestParses : Prop :=
  ∀ (p n seq opcode tEnd : Nat) (conf xl : Bool) (params mac pad : List Byte),
    n ≤ 8 → seq < 2 ^ 32 → opcode < 2 ^ 16 → params.length ≤ 502 → (n ≠ 0 → mac.length = 8) →
    parseRequest p xl tEnd (requestBytes n seq opcode conf params mac ++ pad) = some
      { port := p, xl := xl, n := n, seq := seq, opcode := opcode, conf := conf, params := params
        body := requestBytes n seq opcode conf params [], mac := if n = 0 then [] else mac, tEnd := tEnd }

/-- The checks of a Bridle request in their order, for every opcode (R462, R473, R476-R478, R481, R482). It rests on the model's choices
of log 34. -/
def Obligations.BridleChecks : Prop :=
  ∀ (s : State) (q : Packet) (op : Nat) (c : Instr), s.Inv → (q.EngineCommand op c ∨ q.FirmwareCommand op c) → q.Reaches op s →
    -- check 1: no open session; counted, and answered without a MAC at most once per port in 10 ms
    (¬q.InSession s → Runs c s fun t =>
      t.rd Reg.BRD_CNT_NOSESS = W (min ((s.rd Reg.BRD_CNT_NOSESS).toNat + 1) 0xFFFFFFFF) ∧ t.bridle.slots = s.bridle.slots ∧
      (t.busAt q.p).replies = if (s.bridle.nosess.getD q.p none).any (fun n => s.dtb < n + 4000000) then (s.busAt q.p).replies
        else (s.busAt q.p).replies ++ [{
          data := (if s.replyXl q.p then id else padFd) ([0x81, BitVec.ofNat 8 q.n] ++ Crypto.beBytes 2 op ++ Crypto.beBytes 4 q.seq ++ [0x22, 0, 0, 0] ++ Crypto.beBytes 8 0)
          xl := s.replyXl q.p, deadline := s.dtb + s.rdl, since := s.dtb }]) ∧
    -- check 2: a wrong MAC is counted and gets no reply; nothing else of the engine changes
    (q.InSession s → ¬q.Authentic op s → Runs c s fun t =>
      t.rd Reg.BRD_CNT_MAC = W (min ((s.rd Reg.BRD_CNT_MAC).toNat + 1) 0xFFFFFFFF) ∧ (t.busAt q.p).replies = (s.busAt q.p).replies ∧
      t.bridle = s.bridle) ∧
    -- check 3: no free shadow slot
    (q.InSession s → q.Authentic op s → s.slotFree = none → Runs c s fun t => q.Refused op stBusy s t ∧
      t.rd Reg.BRD_CNT_BUSY = W (min ((s.rd Reg.BRD_CNT_BUSY).toNat + 1) 0xFFFFFFFF)) ∧
    -- check 4: a sequence in the pipeline is dropped, one in the cache answered again, an older one replayed
    (∀ i, q.InSession s → q.Authentic op s → s.slotFree = some i → q.n ≠ 0 →
      (s.inPipeline q.n q.seq = true → Runs c s fun t => (t.busAt q.p).replies = (s.busAt q.p).replies ∧ t.bridle.slots = s.bridle.slots ∧
        t.rd Reg.BRD_CNT_DUP = W (min ((s.rd Reg.BRD_CNT_DUP).toNat + 1) 0xFFFFFFFF)) ∧
      (∀ old, s.inPipeline q.n q.seq = false → q.seq ≤ s.smax q.n → (s.sess q.n).cache.find? (fun r => r.1 = q.seq) = some old →
        Runs c s fun t => t.rd Reg.BRD_CNT_DUP = W (min ((s.rd Reg.BRD_CNT_DUP).toNat + 1) 0xFFFFFFFF) ∧
          (t.busAt q.p).replies = (s.busAt q.p).replies ++ [{ data := (if s.replyXl q.p then id else padFd) old.2, xl := s.replyXl q.p, deadline := s.dtb + s.rdl, since := s.dtb }]) ∧
      (s.inPipeline q.n q.seq = false → q.seq ≤ s.smax q.n → (s.sess q.n).cache.find? (fun r => r.1 = q.seq) = none →
        Runs c s fun t => q.Refused op stReplay s t ∧ t.rd Reg.BRD_CNT_REPLAY = W (min ((s.rd Reg.BRD_CNT_REPLAY).toNat + 1) 0xFFFFFFFF))) ∧
    -- check 5: an opcode that the variant does not have (R8)
    (∀ i, q.Arrives op i s → s.variant = .d → op / 0x1000 = 3 → Runs c s fun t => q.Refused op stOpcode s t ∧ t.slot i = none) ∧
    -- check 6: an opcode of the engine that session 0 does not allow, or of a level above the session's
    (∀ i r, q.Arrives op i s → q.EngineCommand op c → q.n = 0 → session0 op = false → opRow op = some r →
      Runs c s fun t => q.Refused op stNosession s t ∧ t.slot i = none) ∧
    (∀ i r, q.Arrives op i s → q.EngineCommand op c → q.n ≠ 0 → opRow op = some r → s.sessLevel q.n < r.level →
      Runs c s fun t => q.Refused op stAccess s t ∧ t.slot i = none) ∧
    -- a sequence that gets its first reply is the session's greatest (R477); FFFF_FFFF closes the session (R474)
    (∀ i r, q.Arrives op i s → q.EngineCommand op c → q.n ≠ 0 → opRow op = some r → s.sessLevel q.n < r.level →
      Runs c s fun t => (q.seq < 0xFFFFFFFF → t.smax q.n = q.seq) ∧ (q.seq = 0xFFFFFFFF → t.sessState q.n = 0)) ∧
    -- an opcode of the firmware enters the queue of its team and waits for the firmware (R489)
    (∀ i, q.FirmwareCommand op c → q.Served op i 0 s → Runs c s fun t =>
      (t.slot i).map (fun x => (x.opcode, x.stage, x.seq, x.params)) = some (op, .queued, q.seq, q.params) ∧
      (t.busAt q.p).replies = (s.busAt q.p).replies ∧
      (if fwTeam op = 1 then t.bridle.fwqA = s.bridle.fwqA ++ [i] else t.bridle.fwqS = s.bridle.fwqS ++ [i]))

/-- Requests of the hardware path that commit: each waits in a slot with its signal writes, for the boundary that admission
found (R44, R45, R467-R469, R472, R483). -/
def Obligations.BridleCommands : Prop :=
  ∀ (s : State) (q : Packet) (i : Nat), s.Inv →
    -- SIG_WRITE (R71, R468)
    (∀ ws b cs, q.Arrives 0x1011 i s → ws.length ≤ 32 → (∀ w ∈ ws, w.1 < 2 ^ 20) →
      q.params = Crypto.beBytes 1 ws.length ++ ws.flatMap (fun w => Crypto.beBytes 3 w.1 ++ Crypto.beBytes 4 w.2.toNat) →
      q.Passes 0 ws cs [] s → s.admits cs bridleLat s.dtb 0 b →
      Runs (.sigWrite q.p q.n q.seq q.conf q.xl q.params q.mac) s fun t => q.Waits 0x1011 i cs b ws s.dtb s t) ∧
    -- the same packet with no boundary within its promise is late: it reins back (R483)
    (∀ ws b cs, q.Arrives 0x1011 i s → ws.length ≤ 32 → (∀ w ∈ ws, w.1 < 2 ^ 20) →
      q.params = Crypto.beBytes 1 ws.length ++ ws.flatMap (fun w => Crypto.beBytes 3 w.1 ++ Crypto.beBytes 4 w.2.toNat) →
      q.Passes 0 ws cs [] s → s.admitAt cs s.dtb bridleLat s.dtb 0 = (b, false) →
      Runs (.sigWrite q.p q.n q.seq q.conf q.xl q.params q.mac) s fun t => t.slot i = none ∧ q.Replied 0x1011 stLate b [] s.dtb s t ∧
        t.rd Reg.BRD_CNT_LATE = W (min ((s.rd Reg.BRD_CNT_LATE).toNat + 1) 0xFFFFFFFF)) ∧
    -- SET_TORQUE, SET_SPEED (R469): a Q15 value for drive 1 or 2; a coupled machine has only drive 1
    (∀ d v b cs, q.Arrives 0x2010 i s → d < 2 → v < 2 ^ 16 → ¬(d = 1 ∧ s.val (sid 3 0x40) = 1) → q.params = Crypto.beBytes 1 d ++ Crypto.beBytes 2 v →
      q.Passes 1 [(sid (1 + d) 0x300, Wi (sx 16 v))] cs [d] s → s.admits cs bridleLat s.dtb 0 b →
      Runs (.setTorque q.p q.n q.seq q.conf q.xl q.params q.mac) s fun t => q.Waits 0x2010 i cs b [(sid (1 + d) 0x300, Wi (sx 16 v))] s.dtb s t) ∧
    -- SET_SPEED
    (∀ d v b cs, q.Arrives 0x2011 i s → d < 2 → v < 2 ^ 16 → ¬(d = 1 ∧ s.val (sid 3 0x40) = 1) → q.params = Crypto.beBytes 1 d ++ Crypto.beBytes 2 v →
      q.Passes 1 [(sid (1 + d) 0x301, Wi (sx 16 v))] cs [d] s → s.admits cs bridleLat s.dtb 0 b →
      Runs (.setSpeed q.p q.n q.seq q.conf q.xl q.params q.mac) s fun t => q.Waits 0x2011 i cs b [(sid (1 + d) 0x301, Wi (sx 16 v))] s.dtb s t) ∧
    -- SET_CTRL_MODE, SET_DIRECTION (R467)
    (∀ d v b cs, q.Arrives 0x2012 i s → d < 2 → v ≤ 2 → ¬(d = 1 ∧ s.val (sid 3 0x40) = 1) → q.params = Crypto.beBytes 1 d ++ Crypto.beBytes 1 v →
      q.Passes 1 [(sid (1 + d) 0x302, W v)] cs [d] s → s.admits cs bridleLat s.dtb 1 b →
      Runs (.setCtrlMode q.p q.n q.seq q.conf q.xl q.params q.mac) s fun t => q.Waits 0x2012 i cs b [(sid (1 + d) 0x302, W v)] s.dtb s t) ∧
    -- SET_DIRECTION
    (∀ d v b cs, q.Arrives 0x2013 i s → d < 2 → v ≤ 1 → ¬(d = 1 ∧ s.val (sid 3 0x40) = 1) → q.params = Crypto.beBytes 1 d ++ Crypto.beBytes 1 v →
      q.Passes 1 [(sid (1 + d) 0x305, W v)] cs [d] s → s.admits cs bridleLat s.dtb 1 b →
      Runs (.setDirection q.p q.n q.seq q.conf q.xl q.params q.mac) s fun t => q.Waits 0x2013 i cs b [(sid (1 + d) 0x305, W v)] s.dtb s t) ∧
    -- SET_TORQUE_LIMITS (R467)
    (∀ d u v b cs, q.Arrives 0x2014 i s → d < 2 → u < 2 ^ 16 → v < 2 ^ 16 → ¬(d = 1 ∧ s.val (sid 3 0x40) = 1) →
      q.params = Crypto.beBytes 1 d ++ Crypto.beBytes 2 u ++ Crypto.beBytes 2 v →
      q.Passes 1 [(sid (1 + d) 0x303, Wi (sx 16 u)), (sid (1 + d) 0x304, Wi (sx 16 v))] cs [d] s → s.admits cs bridleLat s.dtb 0 b →
      Runs (.setTorqueLimits q.p q.n q.seq q.conf q.xl q.params q.mac) s fun t =>
        q.Waits 0x2014 i cs b [(sid (1 + d) 0x303, Wi (sx 16 u)), (sid (1 + d) 0x304, Wi (sx 16 v))] s.dtb s t) ∧
    -- SET_NET_VOLTAGE, SET_LV_RUN, LV_CLEAR (R338, R348)
    (∀ v b cs, q.Arrives 0x4010 i s → v < 2 ^ 16 → q.params = Crypto.beBytes 2 v → q.Passes 1 [(sid 6 0x300, Wi (sx 16 v))] cs [6, 7] s →
      s.admits cs bridleLat s.dtb 1 b → Runs (.setNetVoltage q.p q.n q.seq q.conf q.xl q.params q.mac) s fun t => q.Waits 0x4010 i cs b [(sid 6 0x300, Wi (sx 16 v))] s.dtb s t) ∧
    (∀ v b cs, q.Arrives 0x4011 i s → v < 256 → q.params = Crypto.beBytes 1 v → q.Passes 1 [(sid 6 0x307, W v)] cs [6, 7] s →
      s.admits cs bridleLat s.dtb 1 b → Runs (.setLvRun q.p q.n q.seq q.conf q.xl q.params q.mac) s fun t => q.Waits 0x4011 i cs b [(sid 6 0x307, W v)] s.dtb s t) ∧
    (∀ b cs, q.Arrives 0x4012 i s → q.params = [] → q.Passes 2 [(sid 6 0x306, 1)] cs [6, 7] s →
      s.admits cs bridleLat s.dtb 1 b → Runs (.lvClear q.p q.n q.seq q.conf q.xl q.params q.mac) s fun t => q.Waits 0x4012 i cs b [(sid 6 0x306, 1)] s.dtb s t) ∧
    -- SET_MODE (R44, R45, R472): the request for a mode that the mode table and the permissions allow
    (∀ m b, q.Arrives 0x0010 i s → q.n ≠ 0 → 1 ≤ s.sessLevel q.n → m ≤ 5 → (m = 5 → 2 ≤ s.sessLevel q.n) → q.params = Crypto.beBytes 1 m →
      s.val sigPhase = 0 → modeRow s.modeNow m = true → bit (s.val (sid 0 0x14)) m = true → (s.modeNow = 5 → m ≠ 2) →
      s.admits 15 bridleLat s.dtb 1 b → Runs (.setMode q.p q.n q.seq q.conf q.xl q.params q.mac) s fun t =>
        q.Waits 0x0010 i 15 b [(sigTarget, W m)] s.dtb s t ∧ (m = 5 → q.seq < 0xFFFFFFFF → ∀ k, 1 ≤ k → k ≤ 8 → t.on (Reg.BRD_SESS (k - 1)) Fld.BRD_SESS_svc = decide (k = q.n))) ∧
    -- a mode that the permissions do not allow is refused
    (∀ m, q.Arrives 0x0010 i s → q.n ≠ 0 → 1 ≤ s.sessLevel q.n → m ≤ 4 → q.params = Crypto.beBytes 1 m →
      s.val sigPhase = 0 → modeRow s.modeNow m = true → bit (s.val (sid 0 0x14)) m = false → (s.modeNow = 5 → m ≠ 2) →
      Runs (.setMode q.p q.n q.seq q.conf q.xl q.params q.mac) s fun t => q.Refused 0x0010 stMode s t ∧ t.slot i = none) ∧
    -- BRIDLE_COMMIT (R484, R488): every packet due at the next boundary leaves its slot; what its opcode does then happens
    (∀ b, s.nextCommit = some b → s.domainOn 5 = true →
      ((∀ k x, s.slot k = some x → x.stage = .waiting → x.commit = b → x.opcode ≠ 0x0030) → Runs .bridleCommit s fun t =>
        t.dtb = max s.dtb b ∧ ∀ k x, s.slot k = some x → x.stage = .waiting → x.commit = b → t.slot k = none) ∧
      (∀ k x v d, s.dueAt b = [(k, x)] → x.opcode = 0x2010 → x.outside = false → d < 2 → x.writes = [(sid (1 + d) 0x300, v)] →
        s.fld Reg.CHS_ISIG Fld.CHS_ISIG_sig ≠ sid (1 + d) 0x300 →
        s.writable (sid (1 + d) 0x300) = true → dOclass (s.desc (sid (1 + d) 0x300)) = 5 → Runs .bridleCommit s fun t =>
          (t.sig (sid (1 + d) 0x300)).value = typedValue (s.desc (sid (1 + d) 0x300)) v ∧ t.slot k = none ∧
          (x.conf = true → x.port < 4 → (s.busAt x.port).replies.length < 32 → (t.busAt x.port).replies.map (fun r => r.data) =
            (s.busAt x.port).replies.map (fun r => r.data) ++ [(if s.replyXl x.port then id else padFd) (replyBytes x.krep false x.session x.seq x.opcode stDone b [])])) ∧
      (∀ k x m, s.dueAt b = [(k, x)] → x.opcode = 0x0010 → x.outside = false → x.params = Crypto.beBytes 1 m → x.writes = [(sigTarget, W m)] → m ≤ 5 → s.val sigPhase = 0 →
        s.Publishes sigTarget → Runs .bridleCommit s fun t => t.val sigTarget = m ∧ t.mode.recheck = some (((max s.dtb b) / 400000 + 1) * 400000)) ∧
      (∀ k x, s.dueAt b = [(k, x)] → x.opcode = 0x0030 → x.outside = false → x.writes = [] → s.nvmBusy = false →
        Runs .bridleCommit s fun t => t.boot.warm = true ∧ t.boot.due = max s.dtb b + 8000 ∧ t.fld Reg.RST_STAT Fld.RST_STAT_last = 5))

/-- Requests that execute at their end, sessions and subscriptions (R467, R470, R471, R473-R475, R479, R480). It rests on the model's
choices of logs 10, 39, 40, 84. -/
def Obligations.BridleSessions : Prop :=
  ∀ (s : State) (q : Packet) (i : Nat), s.Inv →
    -- PING (R467)
    (q.Arrives 0x0001 i s → q.params = [] → Runs (.ping q.p q.n q.seq q.conf q.xl q.params q.mac) s fun t => q.Done 0x0001 [] s t) ∧
    -- CAP_READ (R470): bytes of the capability list of the variant
    (∀ off len, q.Arrives 0x0020 i s → q.params = Crypto.beBytes 2 off ++ Crypto.beBytes 1 len → off < 2 ^ 16 → len < 256 →
      len ≤ s.resultRoom q.p q.n → off + len ≤ 0xF000 → s.domainOn 7 = true →
      Runs (.capRead q.p q.n q.seq q.conf q.xl q.params q.mac) s fun t => q.Done 0x0020 (capBytes s.variant off len) s t) ∧
    -- SIG_READ (R470): value and meta word of each signal that the session's level may read
    (∀ ids, q.Arrives 0x1010 i s → q.params = Crypto.beBytes 1 ids.length ++ ids.flatMap (Crypto.beBytes 3) → ids ≠ [] → ids.length < 256 →
      (∀ x ∈ ids, x < 2 ^ 20 ∧ dDefined (s.desc x) = true ∧ dRlevel (s.desc x) ≤ s.sessLevel q.n) → 8 * ids.length ≤ s.resultRoom q.p q.n →
      Runs (.sigRead q.p q.n q.seq q.conf q.xl q.params q.mac) s fun t => q.Done 0x1010 (ids.flatMap (fun x => Crypto.beBytes 4 (s.val x) ++ Crypto.beBytes 4 (s.sig x).mword.toNat)) s t) ∧
    -- SIG_SUBSCRIBE, SIG_UNSUBSCRIBE (R471)
    (∀ per ids, q.Arrives 0x1012 i s → q.n ≠ 0 → 1 ≤ s.sessLevel q.n → q.seq < 0xFFFFFFFF → 1 ≤ per → per ≤ 1000 →
      q.params = Crypto.beBytes 2 per ++ Crypto.beBytes 1 ids.length ++ ids.flatMap (Crypto.beBytes 3) → ids ≠ [] → ids.length < 256 →
      (∀ x ∈ ids, x < 2 ^ 20 ∧ dDefined (s.desc x) = true ∧ dRlevel (s.desc x) ≤ s.sessLevel q.n) → 8 * ids.length ≤ s.resultRoom q.p q.n →
      s.bridle.subs.length < 16 → Runs (.sigSubscribe q.p q.n q.seq q.conf q.xl q.params q.mac) s fun t => q.Done 0x1012 [] s t ∧
        t.bridle.subs = s.bridle.subs ++ [{ session := q.n, seq := q.seq, port := q.p, period := per, ids := ids, next := s.ms + per }]) ∧
    (∀ k, q.Arrives 0x1013 i s → q.n ≠ 0 → 1 ≤ s.sessLevel q.n → q.seq < 0xFFFFFFFF → q.params = Crypto.beBytes 4 k → k < 2 ^ 32 →
      s.bridle.subs.any (fun x => x.session = q.n && x.seq = k) = true → Runs (.sigUnsubscribe q.p q.n q.seq q.conf q.xl q.params q.mac) s fun t =>
        q.Done 0x1013 [] s t ∧ t.bridle.subs = s.bridle.subs.filter (fun x => !(x.session = q.n && x.seq = k))) ∧
    -- SESSION_OPEN (R474): the first free session goes to OPENING with the nonces of host and module
    (∀ l hn m, q.Arrives 0x8010 i s → 1 ≤ l → l ≤ 4 → hn.length = 16 → q.params = BitVec.ofNat 8 l :: hn →
      (∀ k, 1 ≤ k → k ≤ 8 → ¬(s.sessState k = 1 ∧ (s.sess k).hn = hn)) → s.freeSession = some m → s.levelKey l ≠ none → s.lockLeft l = 0 →
      Runs (.sessionOpen q.p q.n q.seq q.conf q.xl q.params q.mac) s fun t => t.sessState m = 1 ∧ t.sessLevel m = l ∧ t.sessPort m = q.p ∧ (t.sess m).hn = hn ∧
        (t.sess m).last = s.dtb ∧ (t.sess m).dn.length = 16 ∧ q.Done 0x8010 (BitVec.ofNat 8 m :: (t.sess m).dn) s t) ∧
    -- SESSION_PROOF (R475, R479): a right proof opens the session; a wrong one frees it, and the third in a row locks the level
    (∀ m proof, q.Arrives 0x8011 i s → 1 ≤ m → m ≤ 8 → proof.length = 32 → q.params = BitVec.ofNat 8 m :: proof → s.sessState m = 1 →
      s.sessPort m = q.p → 1 ≤ s.sessLevel m → s.sessLevel m ≤ 4 →
      (proof = (Crypto.hmac ((s.levelKey (s.sessLevel m)).getD []) (BitVec.ofNat 8 (s.sessLevel m) :: (s.sess m).hn ++ (s.sess m).dn ++ s.sec.serial)).take 32 →
        Runs (.sessionProof q.p q.n q.seq q.conf q.xl q.params q.mac) s fun t => t.sessState m = 2 ∧ t.smax m = 0 ∧ t.fld (Reg.BRD_LOCK (s.sessLevel m - 1)) Fld.BRD_LOCK_fails = 0 ∧
          q.Done 0x8011 ((Crypto.hmac ((s.levelKey (s.sessLevel m)).getD []) (BitVec.ofNat 8 (0x80 + s.sessLevel m) :: (s.sess m).dn ++ (s.sess m).hn ++ s.sec.serial)).take 32) s t) ∧
      (proof ≠ (Crypto.hmac ((s.levelKey (s.sessLevel m)).getD []) (BitVec.ofNat 8 (s.sessLevel m) :: (s.sess m).hn ++ (s.sess m).dn ++ s.sec.serial)).take 32 →
        s.sec.lockEnd.length = 4 → Runs (.sessionProof q.p q.n q.seq q.conf q.xl q.params q.mac) s fun t => t.sessState m = 0 ∧ q.Refused 0x8011 stAuth s t ∧
          t.fld (Reg.BRD_LOCK (s.sessLevel m - 1)) Fld.BRD_LOCK_fails = min 255 (s.fld (Reg.BRD_LOCK (s.sessLevel m - 1)) Fld.BRD_LOCK_fails + 1) ∧
          t.rd Reg.BRD_CNT_AUTH = W (min ((s.rd Reg.BRD_CNT_AUTH).toNat + 1) 0xFFFFFFFF) ∧
          (2 ≤ s.fld (Reg.BRD_LOCK (s.sessLevel m - 1)) Fld.BRD_LOCK_fails → t.sec.lockEnd.getD (s.sessLevel m - 1) 0 =
            s.rtc + min (10 * 2 ^ (s.fld (Reg.BRD_LOCK (s.sessLevel m - 1)) Fld.BRD_LOCK_fails - 2)) 3600 * 400000000))) ∧
    -- SESSION_CLOSE (R480): the session is free, and its subscriptions end
    (q.Arrives 0x8012 i s → q.n ≠ 0 → 1 ≤ s.sessLevel q.n → q.params = [] → Runs (.sessionClose q.p q.n q.seq q.conf q.xl q.params q.mac) s fun t =>
      q.Done 0x8012 [] s t ∧ t.sessState q.n = 0 ∧ t.smax q.n = 0 ∧ t.sess q.n = {} ∧ ∀ x ∈ t.bridle.subs, x.session ≠ q.n) ∧
    -- SUBSCRIPTION_NOTIFY (R471): the values at the boundary, or the end of a subscription whose session lost the right to read
    (∀ k x, s.bridleOn = true → s.bridle.subs[k]? = some x →
      ((∀ y ∈ x.ids, dRlevel (s.desc y) ≤ s.sessLevel x.session) → x.port < 4 → (s.busAt x.port).replies.length < 32 →
        Runs (.subscriptionNotify k) s fun t => t.dtb = max s.dtb (x.next * 400000) ∧
          t.bridle.subs[k]? = some { x with next := x.next + x.period } ∧
          (t.busAt x.port).replies.map (fun r => r.data) = (s.busAt x.port).replies.map (fun r => r.data) ++ [(if s.replyXl x.port then id else padFd)
            (replyBytes (s.sess x.session).krep true x.session x.seq 0x1012 stDone (x.next * 400000) (s.sigResult x.ids))]) ∧
      (∀ y ∈ x.ids, s.sessLevel x.session < dRlevel (s.desc y) → Runs (.subscriptionNotify k) s fun t => t.bridle.subs = s.bridle.subs.eraseIdx k)) ∧
    -- SESSION_IDLE_TIMEOUT, SESSION_OPEN_TIMEOUT (R473): the session is free at its time
    (∀ n, 1 ≤ n → n ≤ 8 → s.sessState n = 2 → Runs (.sessionIdleTimeout n) s fun t => t.sessState n = 0 ∧
      t.dtb = max s.dtb ((s.sess n).last + s.fld Reg.BRD_CTRL Fld.BRD_CTRL_idle * 4000000)) ∧
    (∀ n, 1 ≤ n → n ≤ 8 → s.sessState n = 1 → Runs (.sessionOpenTimeout n) s fun t => t.sessState n = 0 ∧
      t.dtb = max s.dtb ((s.sess n).last + 400000000)) ∧
    -- AUTH_LOCK_END (R479): on the RTC
    (∀ l, 1 ≤ l → l ≤ 4 → s.on (Reg.BRD_LOCK (l - 1)) Fld.BRD_LOCK_rem = true → Runs (.authLockEnd l) s fun t =>
      t.fld (Reg.BRD_LOCK (l - 1)) Fld.BRD_LOCK_rem = 0 ∧ (0 < s.cycle → 8 * (s.sec.lockEnd.getD (l - 1) 0 : Int) ≤ t.rtcFine)) ∧
    -- BRIDLE_DISABLE (R473): every session is free and every packet reins back
    (∀ core, core < 6 → s.cpuRatioOk = true → s.domainOn 5 = true → s.clocked 8 = true → Runs (.bridleDisable core) s fun t =>
      t.on Reg.BRD_CTRL Fld.BRD_CTRL_en = false ∧ (∀ n, 1 ≤ n → n ≤ 8 → t.sessState n = 0) ∧ ∀ k, t.slot k = none)

/-- Requests of the firmware path that write signals: the firmware's answer `ct` cycles after the packet entered its queue, with `lat` ms
of outside work, is admitted (R467, R489-R492). It rests on the model's choices of log 63. -/
def Obligations.FirmwareCommands : Prop :=
  ∀ (s : State) (q : Packet) (i ct lat : Nat), s.Inv →
    -- SET_CHARGE_LIMITS (R467)
    (∀ u v w b cs, q.Served 0x3010 i ct s → u < 2 ^ 16 → v < 2 ^ 16 → w < 256 → q.params = Crypto.beBytes 2 u ++ Crypto.beBytes 2 v ++ Crypto.beBytes 1 w → cs ≠ 14 →
      q.Passes 1 [(csig 0x210, Wi (sx 16 u)), (csig 0x211, Wi (sx 16 v)), (csig 0x212, W w)] cs [4, 5, 13] (q.atFirmware 0x3010 i ct s) →
      (q.atFirmware 0x3010 i ct s).admits cs (lat * 400000 + 2400) s.dtb 1 b →
      Runs (.setChargeLimits q.p q.n q.seq q.conf q.xl q.params q.mac (some (ct, lat))) s fun t =>
        q.Waits 0x3010 i cs b [(csig 0x210, Wi (sx 16 u)), (csig 0x211, Wi (sx 16 v)), (csig 0x212, W w)] (s.dtb + ct) s t ∧ (t.slot i).any (fun x => x.outside = decide (0 < lat))) ∧
    -- SET_INPUT_LIMIT (R305)
    (∀ u v b cs, q.Served 0x3011 i ct s → u < 2 ^ 16 → v < 2 ^ 16 → q.params = Crypto.beBytes 2 u ++ Crypto.beBytes 2 v → cs ≠ 14 →
      q.Passes 1 [(csig 0x300, Wi (sx 16 u)), (csig 0x301, Wi (sx 16 v))] cs [4, 5, 13] (q.atFirmware 0x3011 i ct s) →
      (q.atFirmware 0x3011 i ct s).admits cs (lat * 400000 + 2400) s.dtb 1 b →
      Runs (.setInputLimit q.p q.n q.seq q.conf q.xl q.params q.mac (some (ct, lat))) s fun t =>
        q.Waits 0x3011 i cs b [(csig 0x300, Wi (sx 16 u)), (csig 0x301, Wi (sx 16 v))] (s.dtb + ct) s t ∧ (t.slot i).any (fun x => x.outside = decide (0 < lat))) ∧
    -- SET_SUPPLY (R314)
    (∀ u v b cs, q.Served 0x3020 i ct s → u ≤ 5 → v < 2 ^ 16 → q.params = Crypto.beBytes 1 u ++ Crypto.beBytes 2 v → cs ≠ 14 →
      q.Passes 1 [(csig 0x400, W u), (csig 0x401, Wi (sx 16 v))] cs [4, 5, 13] (q.atFirmware 0x3020 i ct s) →
      (q.atFirmware 0x3020 i ct s).admits cs (lat * 400000 + 2400) s.dtb 2 b →
      Runs (.setSupply q.p q.n q.seq q.conf q.xl q.params q.mac (some (ct, lat))) s fun t =>
        q.Waits 0x3020 i cs b [(csig 0x400, W u), (csig 0x401, Wi (sx 16 v))] (s.dtb + ct) s t ∧ (t.slot i).any (fun x => x.outside = decide (0 < lat))) ∧
    -- CLEAR_LOCKOUT (R309)
    (∀ b cs, q.Served 0x3030 i ct s → q.params = [] → cs ≠ 14 →
      q.Passes 2 [(csig 0x302, 1)] cs [4, 5, 13] (q.atFirmware 0x3030 i ct s) →
      (q.atFirmware 0x3030 i ct s).admits cs (lat * 400000 + 2400) s.dtb 1 b →
      Runs (.clearLockout q.p q.n q.seq q.conf q.xl q.params q.mac (some (ct, lat))) s fun t =>
        q.Waits 0x3030 i cs b [(csig 0x302, 1)] (s.dtb + ct) s t ∧ (t.slot i).any (fun x => x.outside = decide (0 < lat))) ∧
    -- SHIFT_TO (R357)
    (∀ v b cs, q.Served 0x5010 i ct s → v < 2 ^ 16 → q.params = Crypto.beBytes 2 v → cs ≠ 14 →
      q.Passes 1 [(asig 0x220, Wi (sx 16 v))] cs [9] (q.atFirmware 0x5010 i ct s) →
      (q.atFirmware 0x5010 i ct s).admits cs (lat * 400000 + 2400) s.dtb 1 b →
      Runs (.shiftTo q.p q.n q.seq q.conf q.xl q.params q.mac (some (ct, lat))) s fun t =>
        q.Waits 0x5010 i cs b [(asig 0x220, Wi (sx 16 v))] (s.dtb + ct) s t ∧ (t.slot i).any (fun x => x.outside = decide (0 < lat))) ∧
    -- PARK_REQ (R359)
    (∀ v b cs, q.Served 0x5020 i ct s → v ≤ 1 → q.params = Crypto.beBytes 1 v → cs ≠ 14 →
      q.Passes 1 [(asig 0x400, W v)] cs [11] (q.atFirmware 0x5020 i ct s) →
      (q.atFirmware 0x5020 i ct s).admits cs (lat * 400000 + 2400) s.dtb 1 b →
      Runs (.parkReq q.p q.n q.seq q.conf q.xl q.params q.mac (some (ct, lat))) s fun t =>
        q.Waits 0x5020 i cs b [(asig 0x400, W v)] (s.dtb + ct) s t ∧ (t.slot i).any (fun x => x.outside = decide (0 < lat))) ∧
    -- CLUTCH_REQ (R360)
    (∀ v b cs, q.Served 0x5030 i ct s → v ≤ 1 → q.params = Crypto.beBytes 1 v → cs ≠ 14 →
      q.Passes 1 [(asig 0x600, W v)] cs [12] (q.atFirmware 0x5030 i ct s) →
      (q.atFirmware 0x5030 i ct s).admits cs (lat * 400000 + 2400) s.dtb 1 b →
      Runs (.clutchReq q.p q.n q.seq q.conf q.xl q.params q.mac (some (ct, lat))) s fun t =>
        q.Waits 0x5030 i cs b [(asig 0x600, W v)] (s.dtb + ct) s t ∧ (t.slot i).any (fun x => x.outside = decide (0 < lat))) ∧
    -- PUMP_DEMAND (R361)
    (∀ v b cs, q.Served 0x5040 i ct s → v < 2 ^ 16 → q.params = Crypto.beBytes 2 v → cs ≠ 14 →
      q.Passes 1 [(asig 0x506, Wi (sx 16 v))] cs [10] (q.atFirmware 0x5040 i ct s) →
      (q.atFirmware 0x5040 i ct s).admits cs (lat * 400000 + 2400) s.dtb 1 b →
      Runs (.pumpDemand q.p q.n q.seq q.conf q.xl q.params q.mac (some (ct, lat))) s fun t =>
        q.Waits 0x5040 i cs b [(asig 0x506, Wi (sx 16 v))] (s.dtb + ct) s t ∧ (t.slot i).any (fun x => x.outside = decide (0 < lat)))

/-- Requests of the firmware path that the Module scope commits: resets, configuration, NVM, images, keys, traces (R467, R489-R492, R504,
R505, R509, R560). It rests on the model's choices of logs 32, 33, 63, 83. -/
def Obligations.FirmwareConfigures : Prop :=
  ∀ (s : State) (q : Packet) (i ct lat : Nat), s.Inv →
    -- SW_RESET (R560): in PARKED or STANDBY
    (∀ b u, q.Served 0x0030 i ct s → u = q.atFirmware 0x0030 i ct s → q.n ≠ 0 → 2 ≤ u.sessLevel q.n → q.params = [] → u.modeNow ≤ 1 →
      u.admits 15 (lat * 400000 + 2400) s.dtb 2 b → Runs (.swReset q.p q.n q.seq q.conf q.xl q.params q.mac (some (ct, lat))) s fun t =>
        q.Waits 0x0030 i 15 b [] (s.dtb + ct) s t) ∧
    -- SAFETY_CFG (R467): a countersigned block before the lock (log 33)
    (∀ ws b u, q.Served 0x6010 i ct s → u = q.atFirmware 0x6010 i ct s → q.n ≠ 0 → 3 ≤ u.sessLevel q.n → u.locked = false →
      u.admits 15 (lat * 400000 + 2400) s.dtb 3 b → Runs (.safetyCfg q.p q.n q.seq q.conf q.xl q.params q.mac (some (ct, lat)) (some ws)) s fun t =>
        q.Waits 0x6010 i 15 b [] (s.dtb + ct) s t ∧ (t.slot i).map (fun x => x.cfg) = some ws) ∧
    -- NVM_WRITE (R492): the outside work programs data NVM
    (∀ a d b u, q.Served 0x7011 i ct s → u = q.atFirmware 0x7011 i ct s → q.n ≠ 0 → 3 ≤ u.sessLevel q.n → a < 2 ^ 32 → q.params = Crypto.beBytes 4 a ++ d → 0x48000000 ≤ a → a + d.length ≤ 0x48400000 → u.domainOn 7 = true → s.boot.pwfAt = none →
      u.admits 15 (lat * 400000 + 2400) s.dtb 4 b → Runs (.nvmWrite q.p q.n q.seq q.conf q.xl q.params q.mac (some (ct, lat))) s fun t =>
        q.Waits 0x7011 i 15 b [] (s.dtb + ct) s t ∧ t.boot.nvmJobs = s.boot.nvmJobs ++ [{ code := false, at_ := a, data := d }]) ∧
    -- FW_BLOCK (R504): whole rows of the bank that did not boot; offset 0 erases it first
    (∀ k off d b u, q.Served 0x7020 i ct s → u = q.atFirmware 0x7020 i ct s → q.n ≠ 0 → 4 ≤ u.sessLevel q.n → q.params = Crypto.beBytes 1 k ++ Crypto.beBytes 4 off ++ d → k ≤ 1 → k ≠ u.fld Reg.SEC_BOOTST Fld.SEC_BOOTST_bank → off % 16 = 0 → d.length % 16 = 0 → off + d.length ≤ 0x1000000 → u.domainOn 7 = true → s.boot.pwfAt = none →
      u.admits 15 (lat * 400000 + 2400) s.dtb 4 b → Runs (.fwBlock q.p q.n q.seq q.conf q.xl q.params q.mac (some (ct, lat))) s fun t =>
        q.Waits 0x7020 i 15 b [] (s.dtb + ct) s t ∧ t.boot.nvmJobs = s.boot.nvmJobs ++ [{ code := true, at_ := 0x40000000 + k * 0x1000000 + off, data := d, erase := decide (off = 0) }]) ∧
    -- FW_ACTIVATE (R505): the activation waits for its commit, or the first image that does not verify is answered (log 32)
    (∀ k offs b u, q.Served 0x7021 i ct s → u = q.atFirmware 0x7021 i ct s → q.n ≠ 0 → 4 ≤ u.sessLevel q.n → q.params = Crypto.beBytes 1 k → k ≤ 1 → u.modeNow ≤ 1 → u.domainOn 7 = true →
      u.admits 15 (lat * 400000 + 2400) s.dtb 4 b → Runs (.fwActivate q.p q.n q.seq q.conf q.xl q.params q.mac (some (ct, lat)) offs) s fun t =>
        match ((0 :: offs).map (u.verifyImage k)).find? (fun c => c.code ≠ 0) with
        | none => q.Waits 0x7021 i 15 b [] (s.dtb + ct) s t
        | some c => t.slot i = none ∧ q.Replied 0x7021 stParam 0 (Crypto.beBytes 1 c.kind ++ Crypto.beBytes 1 c.code) (s.dtb + ct) s t) ∧
    -- KEY_WRITE (R509): the slot keeps the unwrapped level key; or the revocation of an image-key slot that leaves one usable
    (∀ k w b u, q.Served 0x8030 i ct s → u = q.atFirmware 0x8030 i ct s → q.n ≠ 0 → 4 ≤ u.sessLevel q.n → q.params = Crypto.beBytes 1 k ++ w → w.length = 16 → 1 ≤ k → k ≤ 4 → u.domainOn 7 = true →
      u.admits 15 (lat * 400000 + 2400) s.dtb 3 b → Runs (.keyWrite q.p q.n q.seq q.conf q.xl q.params q.mac (some (ct, lat))) s fun t =>
        q.Waits 0x8030 i 15 b [] (s.dtb + ct) s t ∧ (t.slot i).map (fun x => x.params) = some (Crypto.beBytes 1 k ++ Crypto.aesDec (s.sess q.n).kreq w)) ∧
    -- the revocation
    (∀ k b u, q.Served 0x8030 i ct s → u = q.atFirmware 0x8030 i ct s → q.n ≠ 0 → 4 ≤ u.sessLevel q.n → q.params = Crypto.beBytes 1 k → 0x81 ≤ k → k ≤ 0x84 → u.revocable (k - 0x81) = true → u.domainOn 7 = true →
      u.admits 15 (lat * 400000 + 2400) s.dtb 3 b → Runs (.keyWrite q.p q.n q.seq q.conf q.xl q.params q.mac (some (ct, lat))) s fun t =>
        q.Waits 0x8030 i 15 b [] (s.dtb + ct) s t) ∧
    -- TRACE_CFG (R467)
    (∀ v ids b u, q.Served 0xA010 i ct s → u = q.atFirmware 0xA010 i ct s → q.n ≠ 0 → 2 ≤ u.sessLevel q.n → q.params = Crypto.beBytes 4 v ++ ids.flatMap (Crypto.beBytes 3) → v < 2 ^ 32 → ids ≠ [] → (∀ x ∈ ids, x < 2 ^ 20) → Word.get (W v) Fld.PRC_CTRL_count = ids.length → Word.get (W v) Fld.PRC_CTRL_stage ≠ 14 →
      u.admits 15 (lat * 400000 + 2400) s.dtb 2 b → Runs (.traceCfg q.p q.n q.seq q.conf q.xl q.params q.mac (some (ct, lat))) s fun t =>
        q.Waits 0xA010 i 15 b [] (s.dtb + ct) s t)

/-- Requests of the firmware path that execute in the firmware's answer, and the registers through which firmware answers (R467,
R489-R494, R508). It rests on the model's choices of logs 63, 64, 82, 86. -/
def Obligations.FirmwareAnswers : Prop :=
  ∀ (s : State) (q : Packet) (i ct lat : Nat), s.Inv →
    -- SAFETY_CLEAR (R415): the firmware writes the scope to MG_CLR
    (∀ sc u, q.Served 0x6020 i ct s → u = q.atFirmware 0x6020 i ct s → q.n ≠ 0 → 2 ≤ u.sessLevel q.n → q.params = Crypto.beBytes 2 sc → sc < 2 ^ 16 → scopeValid sc = true →
      Runs (.safetyClear q.p q.n q.seq q.conf q.xl q.params q.mac (some (ct, lat))) s fun t => t.slot i = none ∧ q.Replied 0x6020 stDone (s.dtb + ct) [] (s.dtb + ct) s t ∧ t.mg = (u.mgClear sc).mg) ∧
    -- NVM_READ (R467)
    (∀ a n l u, q.Served 0x7010 i ct s → u = q.atFirmware 0x7010 i ct s → q.n ≠ 0 → 2 ≤ u.sessLevel q.n → q.params = Crypto.beBytes 4 a ++ Crypto.beBytes 1 n → a < 2 ^ 32 → n ≤ u.resultRoom q.p q.n → n < 256 → u.domainOn 7 = true → u.nvmBytes a n = some l →
      Runs (.nvmRead q.p q.n q.seq q.conf q.xl q.params q.mac (some (ct, lat))) s fun t => t.slot i = none ∧ q.Replied 0x7010 stDone (s.dtb + ct) l (s.dtb + ct) s t) ∧
    -- ATTEST (R508): page k of the report for the nonce, in any session
    (∀ nonce k u, q.Served 0x8020 i ct s → u = q.atFirmware 0x8020 i ct s → q.params = nonce ++ Crypto.beBytes 1 k → nonce.length = 16 → k < 256 → k * (if s.replyXl q.p then 480 else 32) < 536 → u.domainOn 7 = true →
      Runs (.attest q.p q.n q.seq q.conf q.xl q.params q.mac (some (ct, lat))) s fun t => t.slot i = none ∧ q.Replied 0x8020 stDone (s.dtb + ct) (((u.attestReport q.n nonce).2.drop (k * (if s.replyXl q.p then 480 else 32))).take (if s.replyXl q.p then 480 else 32)) (s.dtb + ct) s t) ∧
    -- COUNTER_READ (R467): the counter, which the read clears
    (∀ a v w u, q.Served 0x9010 i ct s → u = q.atFirmware 0x9010 i ct s → q.n ≠ 0 → 1 ≤ u.sessLevel q.n → q.params = Crypto.beBytes 4 a → a < 2 ^ 32 → u.readClear a = some (v, w) → 8 ≤ domainAt a ∨ u.domainOn (domainAt a) = true → q.seq < 0xFFFFFFFF → a ≠ Reg.BRD_STAT → (∀ k, a ≠ Reg.BRD_SEQ k) → (∀ k j, a ≠ Reg.BRD_RSLT k j) →
      Runs (.counterRead q.p q.n q.seq q.conf q.xl q.params q.mac (some (ct, lat))) s fun t => t.slot i = none ∧ q.Replied 0x9010 stDone (s.dtb + ct) (Crypto.beBytes 4 v.toNat) (s.dtb + ct) s t ∧ t.rd a = w.rd a) ∧
    -- PROBE_START (R250)
    (∀ m u, q.Served 0x9020 i ct s → u = q.atFirmware 0x9020 i ct s → q.n ≠ 0 → 2 ≤ u.sessLevel q.n → q.params = Crypto.beBytes 2 m → m < 2 ^ 16 → q.seq < 0xFFFFFFFF →
      Runs (.probeStart q.p q.n q.seq q.conf q.xl q.params q.mac (some (ct, lat))) s fun t => t.slot i = none ∧ q.Replied 0x9020 stDone (s.dtb + ct) [] (s.dtb + ct) s t ∧
        t.gate = ((u.setf Reg.GDC_PRB Fld.GDC_PRB_mask (m &&& (if s.variant = .d then 0x1A3 else 0x1BF))).probeRequest).gate) ∧
    -- TRACE_READ (R467): bytes of the recorder ring
    (∀ off n u, q.Served 0xA011 i ct s → u = q.atFirmware 0xA011 i ct s → q.n ≠ 0 → 2 ≤ u.sessLevel q.n → q.params = Crypto.beBytes 4 off ++ Crypto.beBytes 2 n → off < 2 ^ 32 → n ≤ u.resultRoom q.p q.n → off + n ≤ u.ringSize →
      Runs (.traceRead q.p q.n q.seq q.conf q.xl q.params q.mac (some (ct, lat))) s fun t => t.slot i = none ∧ q.Replied 0xA011 stDone (s.dtb + ct) ((List.range n).map (fun j => s.sramGet (u.ringByte (off + j)))) (s.dtb + ct) s t) ∧
    -- an answer after BRD_FWCFG.tmo comes too late (R491)
    (q.Served 0x5010 i 0 s → s.fwTmo < ct →
      Runs (.shiftTo q.p q.n q.seq q.conf q.xl q.params q.mac (some (ct, lat))) s fun t => t.slot i = none ∧
        q.Replied 0x5010 stInternal 0 [] (s.dtb + s.fwTmo) s t ∧
        t.rd Reg.BRD_CNT_FWLATE = W (min ((s.rd Reg.BRD_CNT_FWLATE).toNat + 1) 0xFFFFFFFF)) ∧
    -- BRD_FWQ_READ (R489): the first slot of the team's queue leaves it, and 0xFF reads from an empty one
    (∀ core safety, core < 6 → s.cpuRatioOk = true → s.domainOn 5 = true → s.clocked 8 = true → teamOf core = (if safety then 0 else 1) →
      ((if safety then s.bridle.fwqS else s.bridle.fwqA) = [] → Runs (.brdFwqRead core safety) s fun t =>
        (t.coreAt core).read = 0xFF ∧ t.bridle = s.bridle) ∧
      (∀ k r x, (if safety then s.bridle.fwqS else s.bridle.fwqA) = k :: r → s.slot k = some x → k < 32 → Runs (.brdFwqRead core safety) s fun t =>
        (t.coreAt core).read = BitVec.ofNat 64 k ∧ (t.slot k).map (fun x => x.stage) = some SlotStage.taken ∧
        k ∉ t.bridle.fwqA ∧ k ∉ t.bridle.fwqS)) ∧
    -- FIRMWARE_PENDING_WRITE (R490, R494): a signal write joins the packet's
    (∀ core v x, core < 6 → s.cpuRatioOk = true → s.domainOn 5 = true → s.clocked 8 = true →
      s.fwSlot core (Word.get s.bridle.pwId Fld.BRD_FWPW_ID_slot) (fun x => x.stage = .taken) = some x → x.writes.length < 32 →
      dDefined (s.desc (Word.get s.bridle.pwId Fld.BRD_FWPW_ID_sig)) = true → dOclass (s.desc (Word.get s.bridle.pwId Fld.BRD_FWPW_ID_sig)) = 5 →
      Runs (.firmwarePendingWrite core v) s fun t =>
        t.slot (Word.get s.bridle.pwId Fld.BRD_FWPW_ID_slot) = some { x with writes := x.writes ++ [(Word.get s.bridle.pwId Fld.BRD_FWPW_ID_sig, v)] }) ∧
    -- FIRMWARE_ANSWER (R490): ST_DONE ends the packet with its result; any access to a slot not taken sets cfg_err (R494)
    (∀ core v x, core < 6 → s.cpuRatioOk = true → s.domainOn 5 = true → s.clocked 8 = true →
      s.fwSlot core (Word.get v Fld.BRD_FWRES_slot) (fun x => x.stage = .taken) = some x → Word.get v Fld.BRD_FWRES_status = stDone →
      x.port < 4 → (s.busAt x.port).replies.length < 32 → Runs (.firmwareAnswer core v) s fun t =>
        t.slot (Word.get v Fld.BRD_FWRES_slot) = none ∧ (t.busAt x.port).replies.map (fun r => r.data) = (s.busAt x.port).replies.map (fun r => r.data) ++
          [(if s.replyXl x.port then id else padFd) (replyBytes (s.sess x.session).krep false x.session x.seq x.opcode stDone s.dtb
            (s.resultBytes (Word.get v Fld.BRD_FWRES_slot) (min x.rlen (s.resultRoom x.port x.session))))]) ∧
    (∀ core v, core < 6 → s.cpuRatioOk = true → s.domainOn 5 = true → s.clocked 8 = true → s.fwSlot core (Word.get v Fld.BRD_FWRES_slot) (fun x => x.stage = .taken) = none →
      exec (.firmwareAnswer core v) s = .next (s.setf Reg.BRD_STAT Fld.BRD_STAT_cfg_err 1)) ∧
    -- FIRMWARE_ANSWER_TIMEOUT (R491)
    (∀ k x, k < 32 → s.slot k = some x → x.stage ≠ .waiting → Runs (.firmwareAnswerTimeout k) s fun t =>
      t.dtb = max s.dtb (x.entered + s.fwTmo) ∧ t.slot k = none ∧
      t.rd Reg.BRD_CNT_FWLATE = W (min ((s.rd Reg.BRD_CNT_FWLATE).toNat + 1) 0xFFFFFFFF)) ∧
    -- FIRMWARE_WORK_DONE (R492, R494)
    (∀ core v x, core < 6 → s.cpuRatioOk = true → s.domainOn 5 = true → s.clocked 8 = true →
      s.fwSlot core (Word.get v Fld.BRD_FWCMT_slot) (fun x => x.stage = .waiting && x.outside) = some x →
      Runs (.firmwareWorkDone core v) s fun t => t.slot (Word.get v Fld.BRD_FWCMT_slot) = some { x with done := true })

/-- The crypto block and the debug port (R497, R498, R503, R506, R510, R560). It rests on the model's choices of logs 10, 50, 53, 69. -/
def Obligations.SecurityCommands : Prop :=
  ∀ s : State, s.Inv → s.domainOn 7 = true →
    (∀ core, core < 3 → s.clocked 10 = true → s.cpuRatioOk = true →
      -- BOOT_CONFIRM: a boot record without trial is programmed
      (s.boot.pwfAt = none → Runs (.bootConfirm core) s fun t => ∃ j, t.boot.nvmJobs = s.boot.nvmJobs ++ [j] ∧ j.record = true) ∧
      -- IMAGE_VERIFY starts a verification of the image at the offset
      (∀ v, s.on Reg.SEC_VST Fld.SEC_VST_busy = false → Word.get v Fld.SEC_VCMD_go = 1 → Runs (.imageVerify core v) s fun t =>
        t.fld Reg.SEC_VST Fld.SEC_VST_busy = 1 ∧ t.sec.verify = some (Word.get v Fld.SEC_VCMD_off)) ∧
      -- MEASUREMENT_EXTEND of M1-M7 by Team S: SHA-384 of the old measurement and the buffer; M0 is refused
      (∀ n, 1 ≤ n → n < 8 → Runs (.measurementExtend core n) s fun t => t = s.extend n (s.wordBytes Reg.SEC_MBUF 12)) ∧
      Runs (.measurementExtend core 0) s (fun t => t.fld Reg.SEC_VST Fld.SEC_VST_err = 1)) ∧
    -- IMAGE_VERIFY_DONE: the result of the checks, with interrupt 100
    (∀ off, s.sec.verify = some off → s.clocked 10 = true → Runs .imageVerifyDone s fun t =>
      t.sec.verify = none ∧ t.fld Reg.SEC_VST Fld.SEC_VST_busy = 0 ∧
      t.fld Reg.SEC_VST Fld.SEC_VST_res = (s.verifyImage (off / 0x1000000) (off % 0x1000000)).code % 2 ^ Fld.SEC_VST_res.len ∧
      ∀ l ∈ t.irqPend, 100 ∈ l) ∧
    -- DEBUG_CHALLENGE_READ draws a challenge that lives from now
    Runs .debugChallengeRead s (fun t => ∃ ch, t.sec.challenge = some (ch, s.dtb)) ∧
    -- DEBUG_UNLOCK uses the challenge up and verifies against it
    (s.on Reg.SEC_DBGST Fld.SEC_DBGST_busy = false → s.on Reg.SEC_DBGST Fld.SEC_DBGST_locked = false → Runs .debugUnlock s fun t =>
      t.sec.challenge = none ∧ t.fld Reg.SEC_DBGST Fld.SEC_DBGST_busy = 1 ∧
      ∀ ch at_, s.sec.challenge = some (ch, at_) → t.sec.attempt = if s.dtb < at_ + 24000000000 then some ch else none) ∧
    -- DEBUG_UNLOCK_DONE without a live challenge fails; the third failure locks the port
    (s.on Reg.SEC_DBGST Fld.SEC_DBGST_busy = true → s.sec.attempt = none → s.clocked 10 = true → Runs .debugUnlockDone s fun t =>
      t.fld Reg.SEC_DBGST Fld.SEC_DBGST_busy = 0 ∧
      t.fld Reg.SEC_DBGST Fld.SEC_DBGST_fails = min 3 (s.fld Reg.SEC_DBGST Fld.SEC_DBGST_fails + 1) ∧
      t.fld Reg.SEC_DBGST Fld.SEC_DBGST_locked = (if 2 ≤ s.fld Reg.SEC_DBGST Fld.SEC_DBGST_fails then 1 else 0) ∧
      t.sec.debugLevel = s.sec.debugLevel ∧ ∀ l ∈ t.irqPend, 102 ∈ l) ∧
    -- DEBUG_CHALLENGE_EXPIRY: 60 s after its read
    (∀ ch at_, s.sec.challenge = some (ch, at_) → Runs .debugChallengeExpiry s fun t =>
      t.sec.challenge = none ∧ t.dtb = max s.dtb (at_ + 24000000000)) ∧
    -- DEBUG_RESET after a level-2 unlock: cause 6, and Team S starts again in the boot ROM
    (s.sec.debugLevel = 2 → Runs .debugReset s fun t => t.boot.stage = 3 ∧ t.boot.warm = false ∧ t.rd Reg.RST_DTB = t.dtbLow)

/-- The rollback counters of the image kinds (R497): no command lowers one or takes one above 64. -/
def Obligations.CountersRise : Prop :=
  ∀ (s t : State) (c : Instr) (k : Nat), s.Inv → exec c s = .next t → 1 ≤ k → k ≤ 4 → s.rollback k ≤ 64 →
    s.rollback k ≤ t.rollback k ∧ t.rollback k ≤ 64

/-- The clocks (R520, R523-R531), in a module whose PD0 is ON. It rests on the model's choices of log 52. -/
def Obligations.ClockCommands : Prop :=
  ∀ s : State, s.Inv → s.domainOn 0 = true →
    -- BOSC_TRIM_MEASURE (R520): the trim moves one step against a deviation beyond 0.05 %, and stays otherwise
    (∀ cnt, Runs (.boscTrimMeasure cnt) s fun t =>
      t.fld Reg.BOSC_MEAS Fld.BOSC_MEAS_cnt = cnt % 2 ^ Fld.BOSC_MEAS_cnt.len ∧
      t.sfld Reg.BOSC_TRIM Fld.BOSC_TRIM_trim =
        (let was := s.sfld Reg.BOSC_TRIM Fld.BOSC_TRIM_trim
         if 2000 * ((cnt : Int) - 1000976).natAbs ≤ 1000976 then was
         else if 1000976 < cnt then max (-128) (was - 1) else min 127 (was + 1))) ∧
    -- REFERENCE_LOSS (R525-R527): the PLL runs on the reference and no sequence runs
    (∀ u, s.on Reg.CLK_STAT Fld.CLK_STAT_src = false → s.clkSeq = sqIdle → Runs (.referenceLoss u) s fun t =>
      t.clkSeq = sqDown ∧ t.clkScale = 1 ∧ t.fld Reg.CLK_STAT Fld.CLK_STAT_refok = 0 ∧
      t.fld Reg.CLK_STAT Fld.CLK_STAT_refloss = 1 ∧ t.fld Reg.CLK_STAT Fld.CLK_STAT_loss_seen = 1 ∧
      t.rd Reg.CLK_LOSST = s.dtbLow ∧ t.mg.reports = s.mg.reports ++ [{ cls := 5, scope := 0xA001 }]) ∧
    -- CLOCK_RAMP_STEP (R526): 256 cycles at s = 1.5 have passed on the way down
    (∀ due, s.clk.due = some due → s.clkSeq = sqDown → s.clkScale = 1 → Runs .clockRampStep s fun t =>
      t.dtb = max s.dtb due ∧ t.clkScale = 2 ∧ t.clk.due = some (max s.dtb due + 256)) ∧
    -- PLL_LOCK (R526): in RELOCK the sequence goes on to RAMP_UP
    (s.clkSeq = sqRelock → Runs .pllLock s fun t =>
      t.clkSeq = sqUp ∧ t.fld Reg.CLK_STAT Fld.CLK_STAT_lock = 1 ∧ t.clk.due = some (s.dtb + 256)) ∧
    -- RELOCK_TIMEOUT (R526): no lock within 400 microseconds is reported as class 14
    (∀ due, s.clk.due = some due → s.clkSeq = sqRelock → Runs .relockTimeout s fun t =>
      t.dtb = max s.dtb due ∧ t.clkSeq = sqRelock ∧
      t.mg.reports = s.mg.reports ++ [{ cls := 14, scope := scopeOf lvModule 0 }]) ∧
    -- REFERENCE_OK (R529)
    Runs .referenceOk s (fun t => t.fld Reg.CLK_STAT Fld.CLK_STAT_refok = 1) ∧
    -- REFERENCE_RETURN (R529): on the PLL of BOSC with the reference good, the sequence goes back
    (∀ core v, core < 6 → s.cpuRatioOk = true → s.on Reg.CLK_STAT Fld.CLK_STAT_src = true → s.clkSeq = sqIdle →
      s.on Reg.CLK_STAT Fld.CLK_STAT_refok = true → Runs (.referenceReturn core v) s fun t =>
        t.clkSeq = sqDown ∧ t.clkScale = 1 ∧ t.clk.back = true ∧
        t.fld Reg.CLK_CTRL Fld.CLK_CTRL_refsel = Word.get v Fld.CLK_CTRL_refsel % 2 ^ Fld.CLK_CTRL_refsel.len) ∧
    -- CLOCK_DIVIDER_WRITE (R523): a refused change sets cfg_err and nothing else
    (∀ core second v, core < 6 → s.cpuRatioOk = true → Runs (.clockDividerWrite core second v) s fun t =>
      if s.dividerRefused second v then t.regs = s.clkErr.regs ∧ t.clk = s.clk
      else t.rd (if second then Reg.CLK_DIV1 else Reg.CLK_DIV0) =
        (s.wrReg (if second then Reg.CLK_DIV1 else Reg.CLK_DIV0) v).rd (if second then Reg.CLK_DIV1 else Reg.CLK_DIV0)) ∧
    -- DIVIDER_RAMP_STEP (R524): one integer step toward the divider asked for
    (∀ i due, i < 6 → i < s.clk.div.length → s.clk.ramp.getD i none = some due → Runs (.dividerRampStep i) s fun t =>
      t.dtb = max s.dtb due ∧
      t.divNow i = (if s.divNow i < s.divWanted i then s.divNow i + 1
        else if s.divWanted i < s.divNow i then s.divNow i - 1 else s.divNow i)) ∧
    -- CLOCK_GATE_WRITE (R530, R531)
    (∀ core k v, core < 6 → k < 12 → s.cpuRatioOk = true → s.gateHeld k = false → Runs (.clockGateWrite core k v) s fun t =>
      t = s.wrReg (Reg.CLK_GATE k) v)

/-- Power domains: requests, completions and wake sources (R345, R536-R549). It rests on the model's choices of logs 50, 51, 118. -/
def Obligations.PowerCommands : Prop :=
  ∀ s : State, s.Inv →
    -- POWER_REQUEST by Team S to lower one ON domain of PD2-PD5 to RETENTION: the request waits for the team's WFI
    (∀ core v d, core < 3 → s.domainOn 0 = true → s.cpuRatioOk = true → 2 ≤ d → d < 6 → s.power.want.length = 2 →
      (∀ k, k < 8 → Word.get v ⟨2 * k, 2⟩ = if k = d then 1 else 3) → s.fld Reg.PWR_REQ ⟨2 * d, 2⟩ ≠ 1 →
      s.fld Reg.PWR_REQ ⟨0, 2⟩ = 0 → s.fld Reg.PWR_REQ ⟨12, 2⟩ ≠ 2 → s.fld Reg.PWR_REQ ⟨14, 2⟩ ≠ 2 → s.domainNow d = 0 →
      Runs (.powerRequest core v) s fun t => (d, 1) ∈ t.power.want.getD 0 [] ∧ t.power.trans = s.power.trans) ∧
    -- POWER_REQUEST that breaks R538 is refused with res = 3
    (∀ core v, core < 3 → s.domainOn 0 = true → s.cpuRatioOk = true → (∀ k, k < 8 → Word.get v ⟨2 * k, 2⟩ = if k = 0 then 1 else 3) →
      s.fld Reg.PWR_REQ ⟨0, 2⟩ = 0 → s.fld Reg.PWR_REQ ⟨4, 2⟩ = 0 →
      Runs (.powerRequest core v) s fun t =>
        t.fld Reg.PWR_STAT Fld.PWR_STAT_cfg_err = 1 ∧ t.fld Reg.PWR_STAT Fld.PWR_STAT_res = 3 ∧ t.power = s.power) ∧
    -- DOMAIN_TRANSITION_DONE: a domain that went down alone reads its new state; one that comes from OFF re-initialises first
    (∀ d x, d < 8 → s.power.trans.find? (fun y => y.dom = d) = some x →
      Runs (.domainTransitionDone d) s fun t =>
        (d ≠ 0 → t.dtb = max s.dtb x.due) ∧
        (x.to_ ≠ 0 → s.power.entry = none → t.domain d = x.to_ % 4) ∧
        (x.to_ = 0 → x.off = true →
          t.power.reinit = s.power.reinit ++ [(d, max s.dtb x.due + s.realTime (reinitTime d))] ∧ ∀ y ∈ t.power.trans, y.dom ≠ d)) ∧
    -- DOMAIN_REINIT_DONE: the domain is ON, and its re-initialisation is over
    (∀ d r, 0 < d → d < 8 → s.power.reinit.find? (fun x => x.1 = d) = some r → (∀ x ∈ s.power.trans, x.dom < 8 ∧ x.dom ≠ d) →
      Runs (.domainReinitDone d) s fun t => t.domainOn d = true ∧ (∀ x ∈ t.power.reinit, x.1 ≠ d) ∧ t.dtb = max s.dtb r.2) ∧
    -- WAKE_PIN_RISE, PLUG_DETECTION, RTC_ALARM: a keeper wake of a lowered PD0 is recorded with its unit and kind 3
    (s.power.entry = none → s.boot.stage ≠ 0 → s.domainNow 0 ≠ 0 →
      (s.on Reg.KPR_WOUT Fld.KPR_WOUT_drive = false → Runs .wakePinRise s fun t => t.rd Reg.PWR_REFUSE_ID = W (0xE0 + 3 * 2 ^ 20)) ∧
      (s.variant = .f → s.domainOn 3 = false → Runs .plugDetection s fun t => t.rd Reg.PWR_REFUSE_ID = W (0xE0 + 3 * 2 ^ 20)) ∧
      (s.on Reg.KPR_BSTAT Fld.KPR_BSTAT_ship = false → Runs .rtcAlarm s fun t => t.rd Reg.PWR_REFUSE_ID = W (0xE2 + 3 * 2 ^ 20))) ∧
    -- a keeper wake during an entry aborts it: res = 2, with a record of kind 2
    (∀ e, s.power.entry = some e → s.on Reg.KPR_WOUT Fld.KPR_WOUT_drive = false → Runs .wakePinRise s fun t =>
      t.power.entry = none ∧ t.power.later = [] ∧ t.fld Reg.PWR_STAT Fld.PWR_STAT_res = 2 ∧
      t.rd Reg.PWR_REFUSE_ID = W (0xE0 + (e.2.map (·.1)).foldl min 7 * 2 ^ 16 + 2 * 2 ^ 20))

/-- Start-up, reset and shutdown (R499-R501, R551-R564). It rests on the model's choices of logs 31, 32, 54, 67, 119. -/
def Obligations.StartupCommands : Prop :=
  ∀ s : State, s.Inv →
    -- VSUP_QUALIFIED: with the module not running and BSW closed, the power sequencer starts
    (s.boot.stage = 0 → s.on Reg.KPR_BSTAT Fld.KPR_BSTAT_closed = true → Runs .vsupQualified s fun t =>
      t.boot.stage = 1 ∧ t.boot.start = s.rtc ∧ t.boot.porNext = s.boot.porNext) ∧
    -- STARTUP_DOMAINS_UP: the strap phase begins; DTB starts at 0 unless the start is a wake
    (s.boot.stage = 1 → Runs .startupDomainsUp s fun t =>
      t.boot.stage = 2 ∧ t.boot.warm = false ∧ t.boot.due = t.dtb + 40000 ∧ (s.boot.wakeNext = false → t.dtb = 0)) ∧
    -- STRAP_END: the straps are latched unless the start is a wake, and the boot ROM runs
    (∀ sync wake tp0, s.boot.stage = 2 → s.boot.warm = false → Runs (.strapEnd sync wake tp0) s fun t =>
      t.boot.stage = 3 ∧ t.dtb = max s.dtb s.boot.due ∧
      (s.boot.wakeNext = false → t.fld Reg.RST_STRAP Fld.RST_STRAP_pos = (if sync then 2 else 0) + (if wake then 1 else 0) ∧
        t.fld Reg.RST_STRAP Fld.RST_STRAP_port = if tp0 then 1 else 0)) ∧
    -- STAGE1_ENTRY: stage 1 runs, or Team S halts for want of a valid image
    (∀ us descs, s.boot.stage = 3 → Runs (.stage1Entry us descs) s fun t => t.boot.stage = 4 ∨ t.boot.stage = 6) ∧
    -- BOOT_FAILURE: the failure is recorded; without a trial boot Team S halts
    (∀ kind, kind ∈ [2, 3, 4, 7] → s.boot.stage = 4 → s.bootRecord.2.1 ≠ 1 → Runs (.bootFailure kind) s fun t =>
      t.fld Reg.RST_BOOT Fld.RST_BOOT_fail = kind ∧ t.boot.stage = 6 ∧ t.fld (Reg.HARN_STAT 0) Fld.HARN_STAT_live = 0) ∧
    -- SOFTWARE_RESET by Team S in PARKED or STANDBY with the key: a warm reset with cause 5; otherwise cfg_err
    (∀ core v, core < 6 → s.domainOn 0 = true → s.cpuRatioOk = true →
      (Word.get v Fld.RST_SWR_key = 0xC3A5 → teamOf core = 0 → s.modeNow ≤ 1 → s.nvmBusy = false →
        Runs (.softwareReset core v) s fun t => t.boot.warm = true ∧ t.boot.due = s.dtb + 8000 ∧ t.fld Reg.RST_STAT Fld.RST_STAT_last = 5) ∧
      (Word.get v Fld.RST_SWR_key ≠ 0xC3A5 ∨ teamOf core ≠ 0 ∨ 1 < s.modeNow →
        exec (.softwareReset core v) s = .next (s.setf Reg.RST_STAT Fld.RST_STAT_cfg_err 1))) ∧
    -- WARM_RESET: after the hold the strap phase begins
    (s.boot.warm = true → Runs .warmReset s fun t =>
      t.dtb = max s.dtb s.boot.due ∧ t.boot.stage = 2 ∧ t.boot.warm = false ∧ t.boot.due = t.dtb + 40000 ∧ t.rd Reg.RST_DTB = t.dtbLow) ∧
    -- NVM_PROGRAM_DONE: the first operation completes with its bytes in data NVM, and interrupt 99 is raised
    (∀ j js, s.boot.nvmJobs = j :: js → j.record = false → j.code = false → (s.boot.swWait = false ∨ js ≠ []) →
      s.domainOn 7 = true → s.clocked 10 = true → Runs .nvmProgramDone s fun t =>
        t.boot.nvmJobs = js ∧ (∀ l ∈ t.irqPend, 99 ∈ l) ∧
        (s.perRatioOk = true → ∀ k, k < j.data.length → t.nvmGet (j.at_ + k) = j.data.getD k 0)) ∧
    -- POWER_FAIL_WARNING: class 10 on the module and interrupt 97
    (s.boot.stage ≠ 0 → s.boot.pwfAt = none → Runs .powerFailWarning s fun t =>
      t.boot.pwfAt = some s.dtb ∧ t.mg.reports = s.mg.reports ++ [{ cls := 10, scope := scopeOf lvModule 0 }] ∧ ∀ l ∈ t.irqPend, 97 ∈ l) ∧
    -- BROWN_OUT: 6 ms after the warning the supply is lost, or the warning ends
    (∀ w, s.boot.pwfAt = some w →
      Runs (.brownOut false) s (fun t => t.boot.pwfAt = none ∧ t.regs = s.regs ∧ t.dtb = max s.dtb (w + 2400000)) ∧
      Runs (.brownOut true) s (fun t => t.boot.stage = 0 ∧ t.dtb = 0)) ∧
    -- VBATK_APPLIED: the keeper starts from reset, with the RTC and DTB at 0
    Runs .vbatkApplied s (fun t =>
      t.dtb = 0 ∧ t.rtcBase = 0 ∧ t.boot.stage = 0 ∧ t.boot.porNext = true ∧ t.keeper = {} ∧ t.thermal.records = [])

/-- The 1 ms boundary and the mode machine of Team S (R29, R43, R46, R47). It rests on the model's choices of logs 41, 42, 44, 92. -/
def Obligations.ModeMachine : Prop :=
  ∀ s : State, s.Inv →
    -- SYSTEM_BOUNDARY_1MS: DTB reaches the next multiple of 400,000
    (s.domainOn 0 = true → Runs .systemBoundary1ms s fun t => t.dtb % 400000 = 0 ∧ s.dtb < t.dtb ∧ t.dtb ≤ s.dtb + 400000) ∧
    -- MODE_ENTRY_RECHECK: with the conditions met the machine enters LEAVING; otherwise the target goes back to the mode
    (∀ b, s.mode.recheck = some b → s.teamRuns 0 = true → s.val sigPhase = 0 → s.Publishes sigPhase →
      s.Publishes sigTarget → Runs .modeEntryRecheck s fun t =>
      t.mode.recheck = none ∧
      if s.mayEnter s.modeNow (s.val sigTarget) then t.val sigPhase = phaseLeaving ∧ t.val sigTarget = s.val sigTarget
      else t.val sigPhase = 0 ∧ t.val sigTarget = s.modeNow) ∧
    -- MODE_LEAVING_DONE: no drive is left to stop, and the machine enters ENTERING
    (s.val sigPhase = phaseLeaving → s.teamRuns 0 = true → s.stagesToStop.any (· < 2) = false →
      s.Publishes sigPhase → Runs .modeLeavingDone s fun t =>
      t.val sigPhase = phaseEntering ∧ t.val sigTarget = s.val sigTarget) ∧
    -- MODE_ENTERING_DONE: the required domains are ON; the target becomes the mode
    (s.val sigPhase = phaseEntering → s.teamRuns 0 = true →
      (∀ d ∈ s.requiredDomains (s.val sigTarget), s.domainOn d = true ∧ ∀ r ∈ s.power.reinit, r.1 ≠ d) →
      s.stagesToStop.isEmpty = true → s.Publishes sigPhase → s.Publishes sigMode → Runs .modeEnteringDone s fun t =>
        t.val sigPhase = 0 ∧ t.modeNow = s.val sigTarget) ∧
    -- with a stage that the target does not allow still running it goes back to LEAVING (the model's choice, log 42)
    (s.val sigPhase = phaseEntering → s.teamRuns 0 = true → s.stagesToStop.isEmpty = false →
      (∀ d ∈ s.requiredDomains (s.val sigTarget), s.domainOn d = true ∧ ∀ r ∈ s.power.reinit, r.1 ≠ d) →
      s.Publishes sigPhase → Runs .modeEnteringDone s fun t =>
        t.val sigPhase = phaseLeaving ∧ t.modeNow = s.modeNow ∧ t.mode.leaveBy = s.dtb + 20000000)
end

