-- ==== Sys2Proof/Laws/Dispatch.lean ====
section
/-! SUPPORT. The meaning that exec gives each command, as a rewriting rule. -/

namespace Sys2Proof.Machine

variable (s : State)

@[simp] theorem exec_registerWrite {core a v} : exec (.registerWrite core a v) s = execRegisterWrite core a v s := rfl
@[simp] theorem exec_rcCounterRead {core a} : exec (.rcCounterRead core a) s = execRcCounterRead core a s := rfl
@[simp] theorem exec_dtbLoRead {core} : exec (.dtbLoRead core) s = execDtbLoRead core s := rfl
@[simp] theorem exec_systemBoundary1ms : exec (.systemBoundary1ms) s = execSystemBoundary1ms s := rfl
@[simp] theorem exec_modeEntryRecheck : exec (.modeEntryRecheck) s = execModeEntryRecheck s := rfl
@[simp] theorem exec_modeLeavingDone : exec (.modeLeavingDone) s = execModeLeavingDone s := rfl
@[simp] theorem exec_modeEnteringDone : exec (.modeEnteringDone) s = execModeEnteringDone s := rfl
@[simp] theorem exec_paddockCoreWrite {core a size v} : exec (.paddockCoreWrite core a size v) s = execPaddockCoreWrite core a size v s := rfl
@[simp] theorem exec_descriptorWrite {core a size v} : exec (.descriptorWrite core a size v) s = execDescriptorWrite core a size v s := rfl
@[simp] theorem exec_paddockBankAccess {b} : exec (.paddockBankAccess b) s = execPaddockBankAccess b s := rfl
@[simp] theorem exec_generatorPeriodStart {g} : exec (.generatorPeriodStart g) s = execGeneratorPeriodStart g s := rfl
@[simp] theorem exec_generatorCentre {g} : exec (.generatorCentre g) s = execGeneratorCentre g s := rfl
@[simp] theorem exec_compareAMatch {g} : exec (.compareAMatch g) s = execCompareAMatch g s := rfl
@[simp] theorem exec_referenceEdge {g} : exec (.referenceEdge g) s = execReferenceEdge g s := rfl
@[simp] theorem exec_deadTimeEnd {g} : exec (.deadTimeEnd g) s = execDeadTimeEnd g s := rfl
@[simp] theorem exec_stretchTurnOff {g} : exec (.stretchTurnOff g) s = execStretchTurnOff g s := rfl
@[simp] theorem exec_pwmEnable {core g v} : exec (.pwmEnable core g v) s = execPwmEnable core g v s := rfl
@[simp] theorem exec_pwmDisable {core g} : exec (.pwmDisable core g) s = execPwmDisable core g s := rfl
@[simp] theorem exec_pwmGstart {core v} : exec (.pwmGstart core v) s = execPwmGstart core v s := rfl
@[simp] theorem exec_pwmCmpWrite {core g b v} : exec (.pwmCmpWrite core g b v) s = execPwmCmpWrite core g b v s := rfl
@[simp] theorem exec_pwmPerWrite {core g v} : exec (.pwmPerWrite core g v) s = execPwmPerWrite core g v s := rfl
@[simp] theorem exec_pwmTripClear {core g} : exec (.pwmTripClear core g) s = execPwmTripClear core g s := rfl
@[simp] theorem exec_cotStartEvent {g} : exec (.cotStartEvent g) s = execCotStartEvent g s := rfl
@[simp] theorem exec_cotMinOffEnd {g} : exec (.cotMinOffEnd g) s = execCotMinOffEnd g s := rfl
@[simp] theorem exec_cotForcedStart {g} : exec (.cotForcedStart g) s = execCotForcedStart g s := rfl
@[simp] theorem exec_yarrowMeasurementDone {n} : exec (.yarrowMeasurementDone n) s = execYarrowMeasurementDone n s := rfl
@[simp] theorem exec_tripInPinChange {idx level} : exec (.tripInPinChange idx level) s = execTripInPinChange idx level s := rfl
@[simp] theorem exec_tripInFilterExpiry {idx} : exec (.tripInFilterExpiry idx) s = execTripInFilterExpiry idx s := rfl
@[simp] theorem exec_lawLateMiss {e l} : exec (.lawLateMiss e l) s = execLawLateMiss e l s := rfl
@[simp] theorem exec_lawOutputWrite {e l} : exec (.lawOutputWrite e l) s = execLawOutputWrite e l s := rfl
@[simp] theorem exec_lawFallbackWrite {e l} : exec (.lawFallbackWrite e l) s = execLawFallbackWrite e l s := rfl
@[simp] theorem exec_lawEnable {core e l v} : exec (.lawEnable core e l v) s = execLawEnable core e l v s := rfl
@[simp] theorem exec_staticCheckDone {e l} : exec (.staticCheckDone e l) s = execStaticCheckDone e l s := rfl
@[simp] theorem exec_lawDisable {core e l} : exec (.lawDisable core e l) s = execLawDisable core e l s := rfl
@[simp] theorem exec_ceDisable {core e} : exec (.ceDisable core e) s = execCeDisable core e s := rfl
@[simp] theorem exec_ceEccDoubleError {e} : exec (.ceEccDoubleError e) s = execCeEccDoubleError e s := rfl
@[simp] theorem exec_coefMemWrite {core e idx v} : exec (.coefMemWrite core e idx v) s = execCoefMemWrite core e idx v s := rfl
@[simp] theorem exec_coefMemWritePerformed {e} : exec (.coefMemWritePerformed e) s = execCoefMemWritePerformed e s := rfl
@[simp] theorem exec_lookaheadStart {e l} : exec (.lookaheadStart e l) s = execLookaheadStart e l s := rfl
@[simp] theorem exec_canNop {e l} : exec (.canNop e l) s = execCanNop e l s := rfl
@[simp] theorem exec_canEnd {e l} : exec (.canEnd e l) s = execCanEnd e l s := rfl
@[simp] theorem exec_canSkip {e l cond r n} : exec (.canSkip e l cond r n) s = execCanSkip e l cond r n s := rfl
@[simp] theorem exec_canCmp {e l x y} : exec (.canCmp e l x y) s = execCanCmp e l x y s := rfl
@[simp] theorem exec_canTst {e l x} : exec (.canTst e l x) s = execCanTst e l x s := rfl
@[simp] theorem exec_canLdi {e l d imm} : exec (.canLdi e l d imm) s = execCanLdi e l d imm s := rfl
@[simp] theorem exec_canMov {e l d x} : exec (.canMov e l d x) s = execCanMov e l d x s := rfl
@[simp] theorem exec_canAdd {e l d x y} : exec (.canAdd e l d x y) s = execCanAdd e l d x y s := rfl
@[simp] theorem exec_canSub {e l d x y} : exec (.canSub e l d x y) s = execCanSub e l d x y s := rfl
@[simp] theorem exec_canNeg {e l d x} : exec (.canNeg e l d x) s = execCanNeg e l d x s := rfl
@[simp] theorem exec_canAbs {e l d x} : exec (.canAbs e l d x) s = execCanAbs e l d x s := rfl
@[simp] theorem exec_canMin {e l d x y} : exec (.canMin e l d x y) s = execCanMin e l d x y s := rfl
@[simp] theorem exec_canMax {e l d x y} : exec (.canMax e l d x y) s = execCanMax e l d x y s := rfl
@[simp] theorem exec_canLim {e l d x lo hi} : exec (.canLim e l d x lo hi) s = execCanLim e l d x lo hi s := rfl
@[simp] theorem exec_canShf {e l d x k} : exec (.canShf e l d x k) s = execCanShf e l d x k s := rfl
@[simp] theorem exec_canAddw {e l d x y} : exec (.canAddw e l d x y) s = execCanAddw e l d x y s := rfl
@[simp] theorem exec_canMul {e l a x y} : exec (.canMul e l a x y) s = execCanMul e l a x y s := rfl
@[simp] theorem exec_canMac {e l a x y} : exec (.canMac e l a x y) s = execCanMac e l a x y s := rfl
@[simp] theorem exec_canMsu {e l a x y} : exec (.canMsu e l a x y) s = execCanMsu e l a x y s := rfl
@[simp] theorem exec_canMulc {e l a x k} : exec (.canMulc e l a x k) s = execCanMulc e l a x k s := rfl
@[simp] theorem exec_canMacc {e l a x k} : exec (.canMacc e l a x k) s = execCanMacc e l a x k s := rfl
@[simp] theorem exec_canDmac {e l a x y} : exec (.canDmac e l a x y) s = execCanDmac e l a x y s := rfl
@[simp] theorem exec_canDot {e l a x y} : exec (.canDot e l a x y) s = execCanDot e l a x y s := rfl
@[simp] theorem exec_canLda {e l a x} : exec (.canLda e l a x) s = execCanLda e l a x s := rfl
@[simp] theorem exec_canAdda {e l a b} : exec (.canAdda e l a b) s = execCanAdda e l a b s := rfl
@[simp] theorem exec_canSuba {e l a b} : exec (.canSuba e l a b) s = execCanSuba e l a b s := rfl
@[simp] theorem exec_canSha {e l a k} : exec (.canSha e l a k) s = execCanSha e l a k s := rfl
@[simp] theorem exec_canSt {e l d a} : exec (.canSt e l d a) s = execCanSt e l d a s := rfl
@[simp] theorem exec_canSincos {e l d x} : exec (.canSincos e l d x) s = execCanSincos e l d x s := rfl
@[simp] theorem exec_canPark {e l d x y th} : exec (.canPark e l d x y th) s = execCanPark e l d x y th s := rfl
@[simp] theorem exec_canIpark {e l d x y th} : exec (.canIpark e l d x y th) s = execCanIpark e l d x y th s := rfl
@[simp] theorem exec_canClarke {e l d x y} : exec (.canClarke e l d x y) s = execCanClarke e l d x y s := rfl
@[simp] theorem exec_canSvm {e l d x y} : exec (.canSvm e l d x y) s = execCanSvm e l d x y s := rfl
@[simp] theorem exec_canDiv {e l d x y} : exec (.canDiv e l d x y) s = execCanDiv e l d x y s := rfl
@[simp] theorem exec_canSqrt {e l d x} : exec (.canSqrt e l d x) s = execCanSqrt e l d x s := rfl
@[simp] theorem exec_canTlu {e l d x t} : exec (.canTlu e l d x t) s = execCanTlu e l d x t s := rfl
@[simp] theorem exec_canTlt {e l d x y t} : exec (.canTlt e l d x y t) s = execCanTlt e l d x y t s := rfl
@[simp] theorem exec_canLdk {e l d k} : exec (.canLdk e l d k) s = execCanLdk e l d k s := rfl
@[simp] theorem exec_canLds {e l d sg} : exec (.canLds e l d sg) s = execCanLds e l d sg s := rfl
@[simp] theorem exec_canSts {e l d sg} : exec (.canSts e l d sg) s = execCanSts e l d sg s := rfl
@[simp] theorem exec_canLdc {e l d k} : exec (.canLdc e l d k) s = execCanLdc e l d k s := rfl
@[simp] theorem exec_canLdu {e l d k} : exec (.canLdu e l d k) s = execCanLdu e l d k s := rfl
@[simp] theorem exec_canUrg {e l u k} : exec (.canUrg e l u k) s = execCanUrg e l u k s := rfl
@[simp] theorem exec_canInt {e l n x g k} : exec (.canInt e l n x g k) s = execCanInt e l n x g k s := rfl
@[simp] theorem exec_canOutd {e l k x} : exec (.canOutd e l k x) s = execCanOutd e l k x s := rfl
@[simp] theorem exec_canOutc {e l k a} : exec (.canOutc e l k a) s = execCanOutc e l k a s := rfl
@[simp] theorem exec_canPrd {e l d k} : exec (.canPrd e l d k) s = execCanPrd e l d k s := rfl
@[simp] theorem exec_canBnd {e l b k lo hi} : exec (.canBnd e l b k lo hi) s = execCanBnd e l b k lo hi s := rfl
@[simp] theorem exec_canSel {e l} : exec (.canSel e l) s = execCanSel e l s := rfl
@[simp] theorem exec_canCorr {e l d x g k} : exec (.canCorr e l d x g k) s = execCanCorr e l d x g k s := rfl
@[simp] theorem exec_adcTriggerDelayEnd {u t} : exec (.adcTriggerDelayEnd u t) s = execAdcTriggerDelayEnd u t s := rfl
@[simp] theorem exec_adcSlotStart {u} : exec (.adcSlotStart u) s = execAdcSlotStart u s := rfl
@[simp] theorem exec_adcSamplingEnd {u} : exec (.adcSamplingEnd u) s = execAdcSamplingEnd u s := rfl
@[simp] theorem exec_adcConversionEnd {u code beyond} : exec (.adcConversionEnd u code beyond) s = execAdcConversionEnd u code beyond s := rfl
@[simp] theorem exec_adcUrgWrite {core u entry} : exec (.adcUrgWrite core u entry) s = execAdcUrgWrite core u entry s := rfl
@[simp] theorem exec_urgentRequestEffect {u} : exec (.urgentRequestEffect u) s = execUrgentRequestEffect u s := rfl
@[simp] theorem exec_adcSwtrgWrite {core u slots} : exec (.adcSwtrgWrite core u slots) s = execAdcSwtrgWrite core u slots s := rfl
@[simp] theorem exec_adcCalStart {core u} : exec (.adcCalStart core u) s = execAdcCalStart core u s := rfl
@[simp] theorem exec_adcCalDone {u m0 m1 m2 m3} : exec (.adcCalDone u m0 m1 m2 m3) s = execAdcCalDone u m0 m1 m2 m3 s := rfl
@[simp] theorem exec_adcDisable {core u} : exec (.adcDisable core u) s = execAdcDisable core u s := rfl
@[simp] theorem exec_triggerTimerFire {n} : exec (.triggerTimerFire n) s = execTriggerTimerFire n s := rfl
@[simp] theorem exec_gateCommandArrival {ch} : exec (.gateCommandArrival ch) s = execGateCommandArrival ch s := rfl
@[simp] theorem exec_strongPhaseEnd {n} : exec (.strongPhaseEnd n) s = execStrongPhaseEnd n s := rfl
@[simp] theorem exec_plateauExit {n tIn tPl} : exec (.plateauExit n tIn tPl) s = execPlateauExit n tIn tPl s := rfl
@[simp] theorem exec_slopeTimeout {n} : exec (.slopeTimeout n) s = execSlopeTimeout n s := rfl
@[simp] theorem exec_gateSenseMidpoint {n} : exec (.gateSenseMidpoint n) s = execGateSenseMidpoint n s := rfl
@[simp] theorem exec_qualificationTimeout {n} : exec (.qualificationTimeout n) s = execQualificationTimeout n s := rfl
@[simp] theorem exec_linkLoss {n} : exec (.linkLoss n) s = execLinkLoss n s := rfl
@[simp] theorem exec_biasUndervoltage {n} : exec (.biasUndervoltage n) s = execBiasUndervoltage n s := rfl
@[simp] theorem exec_biasRecovery {n} : exec (.biasRecovery n) s = execBiasRecovery n s := rfl
@[simp] theorem exec_lvOvercurrent {m} : exec (.lvOvercurrent m) s = execLvOvercurrent m s := rfl
@[simp] theorem exec_lvBootstrapUv {m} : exec (.lvBootstrapUv m) s = execLvBootstrapUv m s := rfl
@[simp] theorem exec_lvBootstrapRecovery {m} : exec (.lvBootstrapRecovery m) s = execLvBootstrapRecovery m s := rfl
@[simp] theorem exec_senseCellCrossing {n} : exec (.senseCellCrossing n) s = execSenseCellCrossing n s := rfl
@[simp] theorem exec_senseCellDetection {n} : exec (.senseCellDetection n) s = execSenseCellDetection n s := rfl
@[simp] theorem exec_softTurnOffEnd {n} : exec (.softTurnOffEnd n) s = execSoftTurnOffEnd n s := rfl
@[simp] theorem exec_probeGateLoopDone {rs} : exec (.probeGateLoopDone rs) s = execProbeGateLoopDone rs s := rfl
@[simp] theorem exec_probeInjectionEnd {v0 v1 hi lo} : exec (.probeInjectionEnd v0 v1 hi lo) s = execProbeInjectionEnd v0 v1 hi lo s := rfl
@[simp] theorem exec_probeBridgeDone : exec (.probeBridgeDone) s = execProbeBridgeDone s := rfl
@[simp] theorem exec_gdcProbeStart {core v} : exec (.gdcProbeStart core v) s = execGdcProbeStart core v s := rfl
@[simp] theorem exec_drvEnPinChange {level} : exec (.drvEnPinChange level) s = execDrvEnPinChange level s := rfl
@[simp] theorem exec_drvEnFilteredLow : exec (.drvEnFilteredLow) s = execDrvEnFilteredLow s := rfl
@[simp] theorem exec_drvEnFilteredRise : exec (.drvEnFilteredRise) s = execDrvEnFilteredRise s := rfl
@[simp] theorem exec_startSequenceProbe : exec (.startSequenceProbe) s = execStartSequenceProbe s := rfl
@[simp] theorem exec_enReqPulse {core} : exec (.enReqPulse core) s = execEnReqPulse core s := rfl
@[simp] theorem exec_enReqPulseEnd : exec (.enReqPulseEnd) s = execEnReqPulseEnd s := rfl
@[simp] theorem exec_dclMeasSample {dcl chl} : exec (.dclMeasSample dcl chl) s = execDclMeasSample dcl chl s := rfl
@[simp] theorem exec_chopperOn : exec (.chopperOn) s = execChopperOn s := rfl
@[simp] theorem exec_chopperOff : exec (.chopperOff) s = execChopperOff s := rfl
@[simp] theorem exec_hardOvervoltage : exec (.hardOvervoltage) s = execHardOvervoltage s := rfl
@[simp] theorem exec_hardOvervoltageRelease : exec (.hardOvervoltageRelease) s = execHardOvervoltageRelease s := rfl
@[simp] theorem exec_forcedDischargeRequest {core} : exec (.forcedDischargeRequest core) s = execForcedDischargeRequest core s := rfl
@[simp] theorem exec_forcedDischargeDone : exec (.forcedDischargeDone) s = execForcedDischargeDone s := rfl
@[simp] theorem exec_forcedDischargeTimeout : exec (.forcedDischargeTimeout) s = execForcedDischargeTimeout s := rfl
@[simp] theorem exec_dischargeHoldoffEnd : exec (.dischargeHoldoffEnd) s = execDischargeHoldoffEnd s := rfl
@[simp] theorem exec_path2TurnOn {n} : exec (.path2TurnOn n) s = execPath2TurnOn n s := rfl
@[simp] theorem exec_driveStart {d} : exec (.driveStart d) s = execDriveStart d s := rfl
@[simp] theorem exec_driveStartComplete {d held} : exec (.driveStartComplete d held) s = execDriveStartComplete d held s := rfl
@[simp] theorem exec_driveStartTimeout {d} : exec (.driveStartTimeout d) s = execDriveStartTimeout d s := rfl
@[simp] theorem exec_driveDwellEntry {d} : exec (.driveDwellEntry d) s = execDriveDwellEntry d s := rfl
@[simp] theorem exec_driveDwellEnd {d} : exec (.driveDwellEnd d) s = execDriveDwellEnd d s := rfl
@[simp] theorem exec_driveStop {d} : exec (.driveStop d) s = execDriveStop d s := rfl
@[simp] theorem exec_driveStopped {d} : exec (.driveStopped d) s = execDriveStopped d s := rfl
@[simp] theorem exec_driveStopTimeout {d} : exec (.driveStopTimeout d) s = execDriveStopTimeout d s := rfl
@[simp] theorem exec_driveSafeEntry {d} : exec (.driveSafeEntry d) s = execDriveSafeEntry d s := rfl
@[simp] theorem exec_driveOverspeed {d held} : exec (.driveOverspeed d held) s = execDriveOverspeed d held s := rfl
@[simp] theorem exec_batterySideLost : exec (.batterySideLost) s = execBatterySideLost s := rfl
@[simp] theorem exec_encoderEdge {d a b} : exec (.encoderEdge d a b) s = execEncoderEdge d a b s := rfl
@[simp] theorem exec_encoderIndex {d} : exec (.encoderIndex d) s = execEncoderIndex d s := rfl
@[simp] theorem exec_resolverExcitationFault {d ua} : exec (.resolverExcitationFault d ua) s = execResolverExcitationFault d ua s := rfl
@[simp] theorem exec_pilotPeriodCapture {per high glitches} : exec (.pilotPeriodCapture per high glitches) s = execPilotPeriodCapture per high glitches s := rfl
@[simp] theorem exec_pilotStateDecode {pos neg held} : exec (.pilotStateDecode pos neg held) s = execPilotStateDecode pos neg held s := rfl
@[simp] theorem exec_inletCableDetected {ohm} : exec (.inletCableDetected ohm) s = execInletCableDetected ohm s := rfl
@[simp] theorem exec_inletSourceQualified {ms} : exec (.inletSourceQualified ms) s = execInletSourceQualified ms s := rfl
@[simp] theorem exec_inletReadyLost {ms} : exec (.inletReadyLost ms) s = execInletReadyLost ms s := rfl
@[simp] theorem exec_inletEnergize : exec (.inletEnergize) s = execInletEnergize s := rfl
@[simp] theorem exec_inletPhasesValid {v1 v2 v3 f a2 a3 ms} : exec (.inletPhasesValid v1 v2 v3 f a2 a3 ms) s = execInletPhasesValid v1 v2 v3 f a2 a3 ms s := rfl
@[simp] theorem exec_inletEnergizeTimeout {invalid} : exec (.inletEnergizeTimeout invalid) s = execInletEnergizeTimeout invalid s := rfl
@[simp] theorem exec_inletSourceLoss {ms} : exec (.inletSourceLoss ms) s = execInletSourceLoss ms s := rfl
@[simp] theorem exec_handoverEnd {us} : exec (.handoverEnd us) s = execHandoverEnd us s := rfl
@[simp] theorem exec_handoverTimeout : exec (.handoverTimeout) s = execHandoverTimeout s := rfl
@[simp] theorem exec_lockoutEnd : exec (.lockoutEnd) s = execLockoutEnd s := rfl
@[simp] theorem exec_inletCableRemoved {ohm} : exec (.inletCableRemoved ohm) s = execInletCableRemoved ohm s := rfl
@[simp] theorem exec_inletModeLeft : exec (.inletModeLeft) s = execInletModeLeft s := rfl
@[simp] theorem exec_srcFaultRecover : exec (.srcFaultRecover) s = execSrcFaultRecover s := rfl
@[simp] theorem exec_weakSource {v0 v idx df} : exec (.weakSource v0 v idx df) s = execWeakSource v0 v idx df s := rfl
@[simp] theorem exec_chargeRequest {m} : exec (.chargeRequest m) s = execChargeRequest m s := rfl
@[simp] theorem exec_chargeQualified {m v} : exec (.chargeQualified m v) s = execChargeQualified m v s := rfl
@[simp] theorem exec_chargeQualifyTimeout {m v} : exec (.chargeQualifyTimeout m v) s = execChargeQualifyTimeout m v s := rfl
@[simp] theorem exec_chargeCvReached {m v} : exec (.chargeCvReached m v) s = execChargeCvReached m v s := rfl
@[simp] theorem exec_chargeTerminationStart {m idx} : exec (.chargeTerminationStart m idx) s = execChargeTerminationStart m idx s := rfl
@[simp] theorem exec_chargeTermination {m} : exec (.chargeTermination m) s = execChargeTermination m s := rfl
@[simp] theorem exec_chargeTopoffEnd {m} : exec (.chargeTopoffEnd m) s = execChargeTopoffEnd m s := rfl
@[simp] theorem exec_chargeRecharge {m v ms} : exec (.chargeRecharge m v ms) s = execChargeRecharge m v ms s := rfl
@[simp] theorem exec_chargeSourceLost {m} : exec (.chargeSourceLost m) s = execChargeSourceLost m s := rfl
@[simp] theorem exec_chargeSourceHold : exec (.chargeSourceHold) s = execChargeSourceHold s := rfl
@[simp] theorem exec_chargeSourceHoldEnd : exec (.chargeSourceHoldEnd) s = execChargeSourceHoldEnd s := rfl
@[simp] theorem exec_presenceTestStart {idx} : exec (.presenceTestStart idx) s = execPresenceTestStart idx s := rfl
@[simp] theorem exec_presenceTestEnd {idx collapse} : exec (.presenceTestEnd idx collapse) s = execPresenceTestEnd idx collapse s := rfl
@[simp] theorem exec_chargeStop : exec (.chargeStop) s = execChargeStop s := rfl
@[simp] theorem exec_chargeFaultClear {m} : exec (.chargeFaultClear m) s = execChargeFaultClear m s := rfl
@[simp] theorem exec_supplyEnergize : exec (.supplyEnergize) s = execSupplyEnergize s := rfl
@[simp] theorem exec_supplyFault {ms} : exec (.supplyFault ms) s = execSupplyFault ms s := rfl
@[simp] theorem exec_supplyCableRemoved {ohm} : exec (.supplyCableRemoved ohm) s = execSupplyCableRemoved ohm s := rfl
@[simp] theorem exec_stationStateReaction {pos neg periods ms} : exec (.stationStateReaction pos neg periods ms) s = execStationStateReaction pos neg periods ms s := rfl
@[simp] theorem exec_stationProbeSeen {ms} : exec (.stationProbeSeen ms) s = execStationProbeSeen ms s := rfl
@[simp] theorem exec_solarStart {ms} : exec (.solarStart ms) s = execSolarStart ms s := rfl
@[simp] theorem exec_solarStop {ms} : exec (.solarStop ms) s = execSolarStop ms s := rfl
@[simp] theorem exec_solarOpenCircuitMeasure : exec (.solarOpenCircuitMeasure) s = execSolarOpenCircuitMeasure s := rfl
@[simp] theorem exec_mpptStep : exec (.mpptStep) s = execMpptStep s := rfl
@[simp] theorem exec_solarScanStart : exec (.solarScanStart) s = execSolarScanStart s := rfl
@[simp] theorem exec_solarScanStep : exec (.solarScanStep) s = execSolarScanStep s := rfl
@[simp] theorem exec_reverseTransferStart {ms} : exec (.reverseTransferStart ms) s = execReverseTransferStart ms s := rfl
@[simp] theorem exec_reverseTransferStop {ms} : exec (.reverseTransferStop ms) s = execReverseTransferStop ms s := rfl
@[simp] theorem exec_solarCurtail : exec (.solarCurtail) s = execSolarCurtail s := rfl
@[simp] theorem exec_lvSequencerStart : exec (.lvSequencerStart) s = execLvSequencerStart s := rfl
@[simp] theorem exec_dcxIbGood : exec (.dcxIbGood) s = execDcxIbGood s := rfl
@[simp] theorem exec_dcxStartTimeout : exec (.dcxStartTimeout) s = execDcxStartTimeout s := rfl
@[simp] theorem exec_dcxOvercurrent {ma held} : exec (.dcxOvercurrent ma held) s = execDcxOvercurrent ma held s := rfl
@[simp] theorem exec_dcxWaitEnd : exec (.dcxWaitEnd) s = execDcxWaitEnd s := rfl
@[simp] theorem exec_offTimeComparator : exec (.offTimeComparator) s = execOffTimeComparator s := rfl
@[simp] theorem exec_syncEdge : exec (.syncEdge) s = execSyncEdge s := rfl
@[simp] theorem exec_syncLost : exec (.syncLost) s = execSyncLost s := rfl
@[simp] theorem exec_lvCheckDone {nodes} : exec (.lvCheckDone nodes) s = execLvCheckDone nodes s := rfl
@[simp] theorem exec_lvPowerGood : exec (.lvPowerGood) s = execLvPowerGood s := rfl
@[simp] theorem exec_lvSoftstartFail : exec (.lvSoftstartFail) s = execLvSoftstartFail s := rfl
@[simp] theorem exec_lvRetryWaitEnd : exec (.lvRetryWaitEnd) s = execLvRetryWaitEnd s := rfl
@[simp] theorem exec_lvFeedLost {held} : exec (.lvFeedLost held) s = execLvFeedLost held s := rfl
@[simp] theorem exec_lvOvervoltage {mv held} : exec (.lvOvervoltage mv held) s = execLvOvervoltage mv held s := rfl
@[simp] theorem exec_lvSupervisorFire : exec (.lvSupervisorFire) s = execLvSupervisorFire s := rfl
@[simp] theorem exec_hiccupCountReset : exec (.hiccupCountReset) s = execHiccupCountReset s := rfl
@[simp] theorem exec_lvStop : exec (.lvStop) s = execLvStop s := rfl
@[simp] theorem exec_lvFaultClear : exec (.lvFaultClear) s = execLvFaultClear s := rfl
@[simp] theorem exec_shipModeArm {core} : exec (.shipModeArm core) s = execShipModeArm core s := rfl
@[simp] theorem exec_shipModeBswOpen : exec (.shipModeBswOpen) s = execShipModeBswOpen s := rfl
@[simp] theorem exec_btnPress : exec (.btnPress) s = execBtnPress s := rfl
@[simp] theorem exec_btnRelease : exec (.btnRelease) s = execBtnRelease s := rfl
@[simp] theorem exec_longPress : exec (.longPress) s = execLongPress s := rfl
@[simp] theorem exec_longPressBswOpen : exec (.longPressBswOpen) s = execLongPressBswOpen s := rfl
@[simp] theorem exec_longPressBswClose : exec (.longPressBswClose) s = execLongPressBswClose s := rfl
@[simp] theorem exec_shiftStart : exec (.shiftStart) s = execShiftStart s := rfl
@[simp] theorem exec_shiftTestPulseEnd : exec (.shiftTestPulseEnd) s = execShiftTestPulseEnd s := rfl
@[simp] theorem exec_shiftRestEnd : exec (.shiftRestEnd) s = execShiftRestEnd s := rfl
@[simp] theorem exec_shiftDecayFail : exec (.shiftDecayFail) s = execShiftDecayFail s := rfl
@[simp] theorem exec_shiftSectorDecision : exec (.shiftSectorDecision) s = execShiftSectorDecision s := rfl
@[simp] theorem exec_backEmfCrossing {m} : exec (.backEmfCrossing m) s = execBackEmfCrossing m s := rfl
@[simp] theorem exec_commutation {m} : exec (.commutation m) s = execCommutation m s := rfl
@[simp] theorem exec_forcedCommutation {m} : exec (.forcedCommutation m) s = execForcedCommutation m s := rfl
@[simp] theorem exec_shiftInBand : exec (.shiftInBand) s = execShiftInBand s := rfl
@[simp] theorem exec_shiftStall {moved} : exec (.shiftStall moved) s = execShiftStall moved s := rfl
@[simp] theorem exec_shiftSensorFault : exec (.shiftSensorFault) s = execShiftSensorFault s := rfl
@[simp] theorem exec_shiftRetryWaitEnd : exec (.shiftRetryWaitEnd) s = execShiftRetryWaitEnd s := rfl
@[simp] theorem exec_shiftFaultClear {n} : exec (.shiftFaultClear n) s = execShiftFaultClear n s := rfl
@[simp] theorem exec_parkDriveStart : exec (.parkDriveStart) s = execParkDriveStart s := rfl
@[simp] theorem exec_parkPositionReached : exec (.parkPositionReached) s = execParkPositionReached s := rfl
@[simp] theorem exec_parkTimeout : exec (.parkTimeout) s = execParkTimeout s := rfl
@[simp] theorem exec_parkBrakeEnd : exec (.parkBrakeEnd) s = execParkBrakeEnd s := rfl
@[simp] theorem exec_parkDiscrepancy : exec (.parkDiscrepancy) s = execParkDiscrepancy s := rfl
@[simp] theorem exec_clutchPullEnd : exec (.clutchPullEnd) s = execClutchPullEnd s := rfl
@[simp] theorem exec_clutchOpenDetect {ms} : exec (.clutchOpenDetect ms) s = execClutchOpenDetect ms s := rfl
@[simp] theorem exec_pumpEvaluation : exec (.pumpEvaluation) s = execPumpEvaluation s := rfl
@[simp] theorem exec_pumpAlignEnd : exec (.pumpAlignEnd) s = execPumpAlignEnd s := rfl
@[simp] theorem exec_pumpRampEnd : exec (.pumpRampEnd) s = execPumpRampEnd s := rfl
@[simp] theorem exec_pumpRetryWaitEnd : exec (.pumpRetryWaitEnd) s = execPumpRetryWaitEnd s := rfl
@[simp] theorem exec_pumpSpeedFault {ms} : exec (.pumpSpeedFault ms) s = execPumpSpeedFault ms s := rfl
@[simp] theorem exec_pumpFaultClear {n} : exec (.pumpFaultClear n) s = execPumpFaultClear n s := rfl
@[simp] theorem exec_troikaMismatch {t odd kind} : exec (.troikaMismatch t odd kind) s = execTroikaMismatch t odd kind s := rfl
@[simp] theorem exec_noMajorityMismatch {t kind odd} : exec (.noMajorityMismatch t kind odd) s = execNoMajorityMismatch t kind odd s := rfl
@[simp] theorem exec_rejoinRequest {core v} : exec (.rejoinRequest core v) s = execRejoinRequest core v s := rfl
@[simp] theorem exec_forcedBarrier {t} : exec (.forcedBarrier t) s = execForcedBarrier t s := rfl
@[simp] theorem exec_rejoinDone {t stall} : exec (.rejoinDone t stall) s = execRejoinDone t stall s := rfl
@[simp] theorem exec_reharnessFence {core req} : exec (.reharnessFence core req) s = execReharnessFence core req s := rfl
@[simp] theorem exec_reharnessDone {t stall} : exec (.reharnessDone t stall) s = execReharnessDone t stall s := rfl
@[simp] theorem exec_wfi {core} : exec (.wfi core) s = execWfi core s := rfl
@[simp] theorem exec_teamARelease {core v} : exec (.teamARelease core v) s = execTeamARelease core v s := rfl
@[simp] theorem exec_machineTimerInterrupt {core} : exec (.machineTimerInterrupt core) s = execMachineTimerInterrupt core s := rfl
@[simp] theorem exec_irqClaim {core} : exec (.irqClaim core) s = execIrqClaim core s := rfl
@[simp] theorem exec_irqComplete {core v} : exec (.irqComplete core v) s = execIrqComplete core v s := rfl
@[simp] theorem exec_softwareInterrupt {core clear v} : exec (.softwareInterrupt core clear v) s = execSoftwareInterrupt core clear v s := rfl
@[simp] theorem exec_watchdogService {core n v} : exec (.watchdogService core n v) s = execWatchdogService core n v s := rfl
@[simp] theorem exec_watchdogWarning {t n} : exec (.watchdogWarning t n) s = execWatchdogWarning t n s := rfl
@[simp] theorem exec_watchdogExpiry {t n} : exec (.watchdogExpiry t n) s = execWatchdogExpiry t n s := rfl
@[simp] theorem exec_safetyLock {core v} : exec (.safetyLock core v) s = execSafetyLock core v s := rfl
@[simp] theorem exec_clockSupervisorTrip : exec (.clockSupervisorTrip) s = execClockSupervisorTrip s := rfl
@[simp] theorem exec_martingaleTick : exec (.martingaleTick) s = execMartingaleTick s := rfl
@[simp] theorem exec_speedInvalid {d} : exec (.speedInvalid d) s = execSpeedInvalid d s := rfl
@[simp] theorem exec_speedValid {d} : exec (.speedValid d) s = execSpeedValid d s := rfl
@[simp] theorem exec_speedCrosscheckFault {d} : exec (.speedCrosscheckFault d) s = execSpeedCrosscheckFault d s := rfl
@[simp] theorem exec_ss1RampEnd {d} : exec (.ss1RampEnd d) s = execSs1RampEnd d s := rfl
@[simp] theorem exec_faultReport {cls scope rx} : exec (.faultReport cls scope rx) s = execFaultReport cls scope rx s := rfl
@[simp] theorem exec_martingaleFatalReset : exec (.martingaleFatalReset) s = execMartingaleFatalReset s := rfl
@[simp] theorem exec_mgReps {core v} : exec (.mgReps core v) s = execMgReps core v s := rfl
@[simp] theorem exec_mgRepa {core v} : exec (.mgRepa core v) s = execMgRepa core v s := rfl
@[simp] theorem exec_mgGtrip {core hi v} : exec (.mgGtrip core hi v) s = execMgGtrip core hi v s := rfl
@[simp] theorem exec_mgClr {core v} : exec (.mgClr core v) s = execMgClr core v s := rfl
@[simp] theorem exec_mgSelWrite {core v} : exec (.mgSelWrite core v) s = execMgSelWrite core v s := rfl
@[simp] theorem exec_slpReferenceSet {core v} : exec (.slpReferenceSet core v) s = execSlpReferenceSet core v s := rfl
@[simp] theorem exec_moduleDischargeRequest : exec (.moduleDischargeRequest) s = execModuleDischargeRequest s := rfl
@[simp] theorem exec_testPulseStart {n} : exec (.testPulseStart n) s = execTestPulseStart n s := rfl
@[simp] theorem exec_testPulseEnd {n} : exec (.testPulseEnd n) s = execTestPulseEnd n s := rfl
@[simp] theorem exec_safetyInputSample {a b} : exec (.safetyInputSample a b) s = execSafetyInputSample a b s := rfl
@[simp] theorem exec_contactFilterExpiry {idx isB} : exec (.contactFilterExpiry idx isB) s = execContactFilterExpiry idx isB s := rfl
@[simp] theorem exec_inputDiscrepancyTimeout {idx} : exec (.inputDiscrepancyTimeout idx) s = execInputDiscrepancyTimeout idx s := rfl
@[simp] theorem exec_inputFaultRecovery {idx} : exec (.inputFaultRecovery idx) s = execInputFaultRecovery idx s := rfl
@[simp] theorem exec_safetyOutputTest {n} : exec (.safetyOutputTest n) s = execSafetyOutputTest n s := rfl
@[simp] theorem exec_safetyOutputTestEnd {n stayedHigh low} : exec (.safetyOutputTestEnd n stayedHigh low) s = execSafetyOutputTestEnd n stayedHigh low s := rfl
@[simp] theorem exec_safetyOutputFaultClear {core v} : exec (.safetyOutputFaultClear core v) s = execSafetyOutputFaultClear core v s := rfl
@[simp] theorem exec_selfTestStart {core v} : exec (.selfTestStart core v) s = execSelfTestStart core v s := rfl
@[simp] theorem exec_selfTestDone {passed} : exec (.selfTestDone passed) s = execSelfTestDone passed s := rfl
@[simp] theorem exec_zoneEvaluation {z} : exec (.zoneEvaluation z) s = execZoneEvaluation z s := rfl
@[simp] theorem exec_eventRecordCopy : exec (.eventRecordCopy) s = execEventRecordCopy s := rfl
@[simp] theorem exec_thermalReenableRequest {core v} : exec (.thermalReenableRequest core v) s = execThermalReenableRequest core v s := rfl
@[simp] theorem exec_busEnable {core p v} : exec (.busEnable core p v) s = execBusEnable core p v s := rfl
@[simp] theorem exec_busIntegrationDone {p} : exec (.busIntegrationDone p) s = execBusIntegrationDone p s := rfl
@[simp] theorem exec_frameReceived {p fmt ide id data sdt vcid af} : exec (.frameReceived p fmt ide id data sdt vcid af) s = execFrameReceived p fmt ide id data sdt vcid af s := rfl
@[simp] theorem exec_rxObjectConsume {core p k} : exec (.rxObjectConsume core p k) s = execRxObjectConsume core p k s := rfl
@[simp] theorem exec_transmitObjectDue {p j} : exec (.transmitObjectDue p j) s = execTransmitObjectDue p j s := rfl
@[simp] theorem exec_transmitSend {core p j} : exec (.transmitSend core p j) s = execTransmitSend core p j s := rfl
@[simp] theorem exec_frameTransmitted {p obj start} : exec (.frameTransmitted p obj start) s = execFrameTransmitted p obj start s := rfl
@[simp] theorem exec_frameTxFailure {p obj start err} : exec (.frameTxFailure p obj start err) s = execFrameTxFailure p obj start err s := rfl
@[simp] theorem exec_frameAbandon {p obj running} : exec (.frameAbandon p obj running) s = execFrameAbandon p obj running s := rfl
@[simp] theorem exec_busRecoveryRequest {core p} : exec (.busRecoveryRequest core p) s = execBusRecoveryRequest core p s := rfl
@[simp] theorem exec_busOffRecovery {p} : exec (.busOffRecovery p) s = execBusOffRecovery p s := rfl
@[simp] theorem exec_busSupervisorTimeout {p idx} : exec (.busSupervisorTimeout p idx) s = execBusSupervisorTimeout p idx s := rfl
@[simp] theorem exec_busSleep {core p inProgress} : exec (.busSleep core p inProgress) s = execBusSleep core p inProgress s := rfl
@[simp] theorem exec_busWake {core p cycles write} : exec (.busWake core p cycles write) s = execBusWake core p cycles write s := rfl
@[simp] theorem exec_bus0WakeFrame {kind cycles ide id dlc data} : exec (.bus0WakeFrame kind cycles ide id dlc data) s = execBus0WakeFrame kind cycles ide id dlc data s := rfl
@[simp] theorem exec_ping {p n seq conf xl params mac} : exec (.ping p n seq conf xl params mac) s = execPing p n seq conf xl params mac s := rfl
@[simp] theorem exec_setMode {p n seq conf xl params mac} : exec (.setMode p n seq conf xl params mac) s = execSetMode p n seq conf xl params mac s := rfl
@[simp] theorem exec_capRead {p n seq conf xl params mac} : exec (.capRead p n seq conf xl params mac) s = execCapRead p n seq conf xl params mac s := rfl
@[simp] theorem exec_swReset {p n seq conf xl params mac ans} : exec (.swReset p n seq conf xl params mac ans) s = execSwReset p n seq conf xl params mac ans s := rfl
@[simp] theorem exec_sigRead {p n seq conf xl params mac} : exec (.sigRead p n seq conf xl params mac) s = execSigRead p n seq conf xl params mac s := rfl
@[simp] theorem exec_sigWrite {p n seq conf xl params mac} : exec (.sigWrite p n seq conf xl params mac) s = execSigWrite p n seq conf xl params mac s := rfl
@[simp] theorem exec_sigSubscribe {p n seq conf xl params mac} : exec (.sigSubscribe p n seq conf xl params mac) s = execSigSubscribe p n seq conf xl params mac s := rfl
@[simp] theorem exec_sigUnsubscribe {p n seq conf xl params mac} : exec (.sigUnsubscribe p n seq conf xl params mac) s = execSigUnsubscribe p n seq conf xl params mac s := rfl
@[simp] theorem exec_setTorque {p n seq conf xl params mac} : exec (.setTorque p n seq conf xl params mac) s = execSetTorque p n seq conf xl params mac s := rfl
@[simp] theorem exec_setSpeed {p n seq conf xl params mac} : exec (.setSpeed p n seq conf xl params mac) s = execSetSpeed p n seq conf xl params mac s := rfl
@[simp] theorem exec_setCtrlMode {p n seq conf xl params mac} : exec (.setCtrlMode p n seq conf xl params mac) s = execSetCtrlMode p n seq conf xl params mac s := rfl
@[simp] theorem exec_setDirection {p n seq conf xl params mac} : exec (.setDirection p n seq conf xl params mac) s = execSetDirection p n seq conf xl params mac s := rfl
@[simp] theorem exec_setTorqueLimits {p n seq conf xl params mac} : exec (.setTorqueLimits p n seq conf xl params mac) s = execSetTorqueLimits p n seq conf xl params mac s := rfl
@[simp] theorem exec_setChargeLimits {p n seq conf xl params mac ans} : exec (.setChargeLimits p n seq conf xl params mac ans) s = execSetChargeLimits p n seq conf xl params mac ans s := rfl
@[simp] theorem exec_setInputLimit {p n seq conf xl params mac ans} : exec (.setInputLimit p n seq conf xl params mac ans) s = execSetInputLimit p n seq conf xl params mac ans s := rfl
@[simp] theorem exec_setSupply {p n seq conf xl params mac ans} : exec (.setSupply p n seq conf xl params mac ans) s = execSetSupply p n seq conf xl params mac ans s := rfl
@[simp] theorem exec_clearLockout {p n seq conf xl params mac ans} : exec (.clearLockout p n seq conf xl params mac ans) s = execClearLockout p n seq conf xl params mac ans s := rfl
@[simp] theorem exec_setNetVoltage {p n seq conf xl params mac} : exec (.setNetVoltage p n seq conf xl params mac) s = execSetNetVoltage p n seq conf xl params mac s := rfl
@[simp] theorem exec_setLvRun {p n seq conf xl params mac} : exec (.setLvRun p n seq conf xl params mac) s = execSetLvRun p n seq conf xl params mac s := rfl
@[simp] theorem exec_lvClear {p n seq conf xl params mac} : exec (.lvClear p n seq conf xl params mac) s = execLvClear p n seq conf xl params mac s := rfl
@[simp] theorem exec_shiftTo {p n seq conf xl params mac ans} : exec (.shiftTo p n seq conf xl params mac ans) s = execShiftTo p n seq conf xl params mac ans s := rfl
@[simp] theorem exec_parkReq {p n seq conf xl params mac ans} : exec (.parkReq p n seq conf xl params mac ans) s = execParkReq p n seq conf xl params mac ans s := rfl
@[simp] theorem exec_clutchReq {p n seq conf xl params mac ans} : exec (.clutchReq p n seq conf xl params mac ans) s = execClutchReq p n seq conf xl params mac ans s := rfl
@[simp] theorem exec_pumpDemand {p n seq conf xl params mac ans} : exec (.pumpDemand p n seq conf xl params mac ans) s = execPumpDemand p n seq conf xl params mac ans s := rfl
@[simp] theorem exec_safetyCfg {p n seq conf xl params mac ans cfg} : exec (.safetyCfg p n seq conf xl params mac ans cfg) s = execSafetyCfg p n seq conf xl params mac ans cfg s := rfl
@[simp] theorem exec_safetyClear {p n seq conf xl params mac ans} : exec (.safetyClear p n seq conf xl params mac ans) s = execSafetyClear p n seq conf xl params mac ans s := rfl
@[simp] theorem exec_nvmRead {p n seq conf xl params mac ans} : exec (.nvmRead p n seq conf xl params mac ans) s = execNvmRead p n seq conf xl params mac ans s := rfl
@[simp] theorem exec_nvmWrite {p n seq conf xl params mac ans} : exec (.nvmWrite p n seq conf xl params mac ans) s = execNvmWrite p n seq conf xl params mac ans s := rfl
@[simp] theorem exec_fwBlock {p n seq conf xl params mac ans} : exec (.fwBlock p n seq conf xl params mac ans) s = execFwBlock p n seq conf xl params mac ans s := rfl
@[simp] theorem exec_fwActivate {p n seq conf xl params mac ans offs} : exec (.fwActivate p n seq conf xl params mac ans offs) s = execFwActivate p n seq conf xl params mac ans offs s := rfl
@[simp] theorem exec_sessionOpen {p n seq conf xl params mac} : exec (.sessionOpen p n seq conf xl params mac) s = execSessionOpen p n seq conf xl params mac s := rfl
@[simp] theorem exec_sessionProof {p n seq conf xl params mac} : exec (.sessionProof p n seq conf xl params mac) s = execSessionProof p n seq conf xl params mac s := rfl
@[simp] theorem exec_sessionClose {p n seq conf xl params mac} : exec (.sessionClose p n seq conf xl params mac) s = execSessionClose p n seq conf xl params mac s := rfl
@[simp] theorem exec_attest {p n seq conf xl params mac ans} : exec (.attest p n seq conf xl params mac ans) s = execAttest p n seq conf xl params mac ans s := rfl
@[simp] theorem exec_keyWrite {p n seq conf xl params mac ans} : exec (.keyWrite p n seq conf xl params mac ans) s = execKeyWrite p n seq conf xl params mac ans s := rfl
@[simp] theorem exec_counterRead {p n seq conf xl params mac ans} : exec (.counterRead p n seq conf xl params mac ans) s = execCounterRead p n seq conf xl params mac ans s := rfl
@[simp] theorem exec_probeStart {p n seq conf xl params mac ans} : exec (.probeStart p n seq conf xl params mac ans) s = execProbeStart p n seq conf xl params mac ans s := rfl
@[simp] theorem exec_traceCfg {p n seq conf xl params mac ans} : exec (.traceCfg p n seq conf xl params mac ans) s = execTraceCfg p n seq conf xl params mac ans s := rfl
@[simp] theorem exec_traceRead {p n seq conf xl params mac ans} : exec (.traceRead p n seq conf xl params mac ans) s = execTraceRead p n seq conf xl params mac ans s := rfl
@[simp] theorem exec_bridleCommit : exec (.bridleCommit) s = execBridleCommit s := rfl
@[simp] theorem exec_subscriptionNotify {idx} : exec (.subscriptionNotify idx) s = execSubscriptionNotify idx s := rfl
@[simp] theorem exec_sessionIdleTimeout {n} : exec (.sessionIdleTimeout n) s = execSessionIdleTimeout n s := rfl
@[simp] theorem exec_sessionOpenTimeout {n} : exec (.sessionOpenTimeout n) s = execSessionOpenTimeout n s := rfl
@[simp] theorem exec_authLockEnd {l} : exec (.authLockEnd l) s = execAuthLockEnd l s := rfl
@[simp] theorem exec_brdFwqRead {core safety} : exec (.brdFwqRead core safety) s = execBrdFwqRead core safety s := rfl
@[simp] theorem exec_firmwarePendingWrite {core v} : exec (.firmwarePendingWrite core v) s = execFirmwarePendingWrite core v s := rfl
@[simp] theorem exec_firmwareAnswer {core v} : exec (.firmwareAnswer core v) s = execFirmwareAnswer core v s := rfl
@[simp] theorem exec_firmwareAnswerTimeout {idx} : exec (.firmwareAnswerTimeout idx) s = execFirmwareAnswerTimeout idx s := rfl
@[simp] theorem exec_firmwareWorkDone {core v} : exec (.firmwareWorkDone core v) s = execFirmwareWorkDone core v s := rfl
@[simp] theorem exec_bridleDisable {core} : exec (.bridleDisable core) s = execBridleDisable core s := rfl
@[simp] theorem exec_bootConfirm {core} : exec (.bootConfirm core) s = execBootConfirm core s := rfl
@[simp] theorem exec_imageVerify {core v} : exec (.imageVerify core v) s = execImageVerify core v s := rfl
@[simp] theorem exec_imageVerifyDone : exec (.imageVerifyDone) s = execImageVerifyDone s := rfl
@[simp] theorem exec_measurementExtend {core n} : exec (.measurementExtend core n) s = execMeasurementExtend core n s := rfl
@[simp] theorem exec_debugChallengeRead : exec (.debugChallengeRead) s = execDebugChallengeRead s := rfl
@[simp] theorem exec_debugUnlock : exec (.debugUnlock) s = execDebugUnlock s := rfl
@[simp] theorem exec_debugUnlockDone : exec (.debugUnlockDone) s = execDebugUnlockDone s := rfl
@[simp] theorem exec_debugChallengeExpiry : exec (.debugChallengeExpiry) s = execDebugChallengeExpiry s := rfl
@[simp] theorem exec_debugReset : exec (.debugReset) s = execDebugReset s := rfl
@[simp] theorem exec_boscTrimMeasure {cnt} : exec (.boscTrimMeasure cnt) s = execBoscTrimMeasure cnt s := rfl
@[simp] theorem exec_referenceLoss {unlocked} : exec (.referenceLoss unlocked) s = execReferenceLoss unlocked s := rfl
@[simp] theorem exec_clockRampStep : exec (.clockRampStep) s = execClockRampStep s := rfl
@[simp] theorem exec_pllLock : exec (.pllLock) s = execPllLock s := rfl
@[simp] theorem exec_relockTimeout : exec (.relockTimeout) s = execRelockTimeout s := rfl
@[simp] theorem exec_referenceOk : exec (.referenceOk) s = execReferenceOk s := rfl
@[simp] theorem exec_referenceReturn {core v} : exec (.referenceReturn core v) s = execReferenceReturn core v s := rfl
@[simp] theorem exec_clockDividerWrite {core second v} : exec (.clockDividerWrite core second v) s = execClockDividerWrite core second v s := rfl
@[simp] theorem exec_dividerRampStep {idx} : exec (.dividerRampStep idx) s = execDividerRampStep idx s := rfl
@[simp] theorem exec_clockGateWrite {core k v} : exec (.clockGateWrite core k v) s = execClockGateWrite core k v s := rfl
@[simp] theorem exec_powerRequest {core v} : exec (.powerRequest core v) s = execPowerRequest core v s := rfl
@[simp] theorem exec_domainTransitionDone {d} : exec (.domainTransitionDone d) s = execDomainTransitionDone d s := rfl
@[simp] theorem exec_domainReinitDone {d} : exec (.domainReinitDone d) s = execDomainReinitDone d s := rfl
@[simp] theorem exec_wakePinRise : exec (.wakePinRise) s = execWakePinRise s := rfl
@[simp] theorem exec_plugDetection : exec (.plugDetection) s = execPlugDetection s := rfl
@[simp] theorem exec_rtcAlarm : exec (.rtcAlarm) s = execRtcAlarm s := rfl
@[simp] theorem exec_vsupQualified : exec (.vsupQualified) s = execVsupQualified s := rfl
@[simp] theorem exec_startupDomainsUp : exec (.startupDomainsUp) s = execStartupDomainsUp s := rfl
@[simp] theorem exec_strapEnd {sync wake tp0} : exec (.strapEnd sync wake tp0) s = execStrapEnd sync wake tp0 s := rfl
@[simp] theorem exec_stage1Entry {us descs} : exec (.stage1Entry us descs) s = execStage1Entry us descs s := rfl
@[simp] theorem exec_bootFailure {kind} : exec (.bootFailure kind) s = execBootFailure kind s := rfl
@[simp] theorem exec_softwareReset {core v} : exec (.softwareReset core v) s = execSoftwareReset core v s := rfl
@[simp] theorem exec_warmReset : exec (.warmReset) s = execWarmReset s := rfl
@[simp] theorem exec_powerFailWarning : exec (.powerFailWarning) s = execPowerFailWarning s := rfl
@[simp] theorem exec_brownOut {low} : exec (.brownOut low) s = execBrownOut low s := rfl
@[simp] theorem exec_vbatkApplied : exec (.vbatkApplied) s = execVbatkApplied s := rfl
@[simp] theorem exec_btnPressWake : exec (.btnPressWake) s = execBtnPressWake s := rfl
@[simp] theorem exec_protocolException {p kind} : exec (.protocolException p kind) s = execProtocolException p kind s := rfl
@[simp] theorem exec_receiveError {p big} : exec (.receiveError p big) s = execReceiveError p big s := rfl
@[simp] theorem exec_valleyLimitRelease {k} : exec (.valleyLimitRelease k) s = execValleyLimitRelease k s := rfl
@[simp] theorem exec_phaseCurrentZero {k} : exec (.phaseCurrentZero k) s = execPhaseCurrentZero k s := rfl
@[simp] theorem exec_nvmProgramDone : exec (.nvmProgramDone) s = execNvmProgramDone s := rfl
@[simp] theorem exec_doubleBitL1Error {core} : exec (.doubleBitL1Error core) s = execDoubleBitL1Error core s := rfl

end Sys2Proof.Machine
end

