-- ==== Sys2Proof/Laws/Sparse.lean ====
section
/-! SUPPORT. The laws of a sparse map: what a key reads as after a write, and that a write keeps the canonical form. -/

namespace Sys2Proof

variable {α : Type} [DecidableEq α] {d : Nat → α}

/-- Every key of the map is above `lo`, keys rise, and no entry is a default: the canonical form as a proposition. -/
def SparseOk (d : Nat → α) (m : List (Nat × α)) : Prop :=
  m.Pairwise (fun p q => p.1 < q.1) ∧ ∀ p ∈ m, p.2 ≠ d p.1

theorem sparseWfFrom_iff (m : List (Nat × α)) : ∀ lo : Option Nat,
    sparseWfFrom d lo m = true ↔ (∀ p ∈ m, ∀ l ∈ lo, l < p.1) ∧ SparseOk d m := by
  induction m with
  | nil => intro lo; simp [sparseWfFrom, SparseOk]
  | cons x m ih =>
    intro lo
    obtain ⟨k, v⟩ := x
    simp only [sparseWfFrom, Bool.and_eq_true, decide_eq_true_eq, ih, SparseOk, List.pairwise_cons, List.mem_cons,
      forall_eq_or_imp, Option.mem_def, Option.some.injEq, forall_eq']
    cases lo with
    | none => simp; tauto
    | some l =>
      simp only [decide_eq_true_eq, Option.some.injEq, forall_eq']
      constructor
      · rintro ⟨⟨h1, h2⟩, h3, h4, h5⟩
        exact ⟨⟨h1, fun p hp => h1.trans (h3 p hp)⟩, ⟨h3, h4⟩, h2, h5⟩
      · rintro ⟨⟨h1, -⟩, ⟨h3, h4⟩, h2, h5⟩
        exact ⟨⟨h1, h2⟩, h3, h4, h5⟩

theorem sparseWf_iff (m : List (Nat × α)) : sparseWf d m = true ↔ SparseOk d m := by
  simp [sparseWf, sparseWfFrom_iff]

omit [DecidableEq α] in
/-- A key below every listed key reads as the default. -/
theorem sparseGet_below (m : List (Nat × α)) (k : Nat) (h : ∀ p ∈ m, k < p.1) : sparseGet d m k = d k := by
  cases m with
  | nil => rfl
  | cons x m =>
    have := h x (by simp)
    simp [sparseGet, this, Nat.ne_of_gt this]

omit [DecidableEq α] in
theorem sparseGet_insert_same (m : List (Nat × α)) (k : Nat) (v : α) : sparseGet d (sparseInsert m k v) k = v := by
  induction m with
  | nil => simp [sparseInsert, sparseGet]
  | cons x m ih =>
    obtain ⟨k', v'⟩ := x
    simp only [sparseInsert]
    split
    · simp [sparseGet]
    · split
      · simp [sparseGet]
      · rename_i h1 h2; simp [sparseGet, h1, h2, ih]

omit [DecidableEq α] in
theorem sparseGet_insert_other (m : List (Nat × α)) (k j : Nat) (v : α) (h : j ≠ k) :
    sparseGet d (sparseInsert m k v) j = sparseGet d m j := by
  induction m with
  | nil => simp [sparseInsert, sparseGet, Ne.symm h]
  | cons x m ih =>
    obtain ⟨k', v'⟩ := x
    simp only [sparseInsert]
    split
    · rename_i h1; subst h1; simp [sparseGet, Ne.symm h]
    · split
      · rename_i h1 h2
        simp only [sparseGet, Ne.symm h, if_false]
        split
        · rename_i h3
          have : ¬ k' = j := by omega
          have h4 : j < k' := by omega
          simp [this, h4]
        · rfl
      · simp [sparseGet, ih]

omit [DecidableEq α] in
theorem sparseGet_erase_same (m : List (Nat × α)) (k : Nat) (h : SparseOk d m) :
    sparseGet d (sparseErase m k) k = d k := by
  induction m with
  | nil => rfl
  | cons x m ih =>
    obtain ⟨k', v'⟩ := x
    obtain ⟨hp, hd⟩ := h
    rw [List.pairwise_cons] at hp
    simp only [sparseErase]
    split
    · rename_i h1; subst h1; exact sparseGet_below m _ (fun p hp' => hp.1 p hp')
    · rename_i h1
      split
      · rename_i h2; simp [sparseGet, h1, h2]
      · rename_i h2
        simp [sparseGet, h1, h2, ih ⟨hp.2, fun p hp' => hd p (by simp [hp'])⟩]

omit [DecidableEq α] in
theorem sparseGet_erase_other (m : List (Nat × α)) (k j : Nat) (h : SparseOk d m) (hj : j ≠ k) :
    sparseGet d (sparseErase m k) j = sparseGet d m j := by
  induction m with
  | nil => rfl
  | cons x m ih =>
    obtain ⟨k', v'⟩ := x
    obtain ⟨hp, hd⟩ := h
    rw [List.pairwise_cons] at hp
    simp only [sparseErase]
    split
    · rename_i h1; subst h1
      simp only [sparseGet, Ne.symm hj, if_false]
      split
      · rename_i h2; exact sparseGet_below m j (fun p hp' => h2.trans (hp.1 p hp'))
      · rfl
    · split
      · rfl
      · simp [sparseGet, ih ⟨hp.2, fun p hp' => hd p (by simp [hp'])⟩]

/-- A key reads as what was written to it last. -/
theorem sparseGet_set_same (m : List (Nat × α)) (k : Nat) (v : α) (h : SparseOk d m) :
    sparseGet d (sparseSet d m k v) k = v := by
  unfold sparseSet
  split
  · rename_i hv; rw [sparseGet_erase_same m k h, hv]
  · exact sparseGet_insert_same m k v

/-- A write leaves every other key as it was. -/
theorem sparseGet_set_other (m : List (Nat × α)) (k j : Nat) (v : α) (h : SparseOk d m) (hj : j ≠ k) :
    sparseGet d (sparseSet d m k v) j = sparseGet d m j := by
  unfold sparseSet
  split
  · exact sparseGet_erase_other m k j h hj
  · exact sparseGet_insert_other m k j v hj

omit [DecidableEq α] in
theorem mem_sparseErase (m : List (Nat × α)) (k : Nat) : ∀ p ∈ sparseErase m k, p ∈ m := by
  induction m with
  | nil => simp [sparseErase]
  | cons x m ih =>
    obtain ⟨k', v'⟩ := x
    intro p hp
    simp only [sparseErase] at hp
    split at hp
    · simp [hp]
    · split at hp
      · exact hp
      · simp only [List.mem_cons] at hp ⊢
        exact hp.imp id (ih p)

omit [DecidableEq α] in
theorem mem_sparseInsert (m : List (Nat × α)) (k : Nat) (v : α) : ∀ p ∈ sparseInsert m k v, p = (k, v) ∨ p ∈ m := by
  induction m with
  | nil => simp [sparseInsert]
  | cons x m ih =>
    obtain ⟨k', v'⟩ := x
    intro p hp
    simp only [sparseInsert] at hp
    split at hp
    · simp only [List.mem_cons] at hp ⊢; tauto
    · split at hp
      · simpa using hp
      · simp only [List.mem_cons] at hp ⊢
        rcases hp with hp | hp
        · exact .inr (.inl hp)
        · exact (ih p hp).imp id .inr

/-- A write keeps the canonical form. -/
theorem SparseOk.set {m : List (Nat × α)} (h : SparseOk d m) (k : Nat) (v : α) : SparseOk d (sparseSet d m k v) := by
  obtain ⟨hp, hd⟩ := h
  unfold sparseSet
  split
  · refine ⟨?_, fun p hp' => hd p (mem_sparseErase m k p hp')⟩
    clear hd
    induction m with
    | nil => simp [sparseErase]
    | cons x m ih =>
      obtain ⟨k', v'⟩ := x
      rw [List.pairwise_cons] at hp
      simp only [sparseErase]
      split
      · exact hp.2
      · split
        · exact List.pairwise_cons.mpr hp
        · exact List.pairwise_cons.mpr ⟨fun p hp' => hp.1 p (mem_sparseErase m k p hp'), ih hp.2⟩
  · rename_i hv
    refine ⟨?_, fun p hp' => ?_⟩
    · clear hd
      induction m with
      | nil => simp [sparseInsert]
      | cons x m ih =>
        obtain ⟨k', v'⟩ := x
        rw [List.pairwise_cons] at hp
        simp only [sparseInsert]
        split
        · rename_i h1; subst h1; exact List.pairwise_cons.mpr hp
        · rename_i h1
          split
          · rename_i h2
            refine List.pairwise_cons.mpr ⟨fun p hp' => ?_, List.pairwise_cons.mpr hp⟩
            rcases List.mem_cons.mp hp' with rfl | h3
            · exact h2
            · exact h2.trans (hp.1 p h3)
          · refine List.pairwise_cons.mpr ⟨fun p hp' => ?_, ih hp.2⟩
            rcases mem_sparseInsert m k v p hp' with rfl | h3
            · exact Nat.lt_of_le_of_ne (Nat.le_of_not_lt ‹_›) h1
            · exact hp.1 p h3
    · rcases mem_sparseInsert m k v p hp' with rfl | h3
      · exact hv
      · exact hd p h3

theorem sparseWf_set {m : List (Nat × α)} (h : sparseWf d m = true) (k : Nat) (v : α) :
    sparseWf d (sparseSet d m k v) = true := (sparseWf_iff _).mpr (((sparseWf_iff m).mp h).set k v)

theorem sparseWf_filter {m : List (Nat × α)} (h : sparseWf d m = true) (p : Nat × α → Bool) :
    sparseWf d (m.filter p) = true := by
  obtain ⟨hp, hd⟩ := (sparseWf_iff m).mp h
  exact (sparseWf_iff _).mpr ⟨hp.filter p, fun x hx => hd x (List.mem_filter.mp hx).1⟩

end Sys2Proof
end

