-- ==== Sys2Proof/Laws/Keeps.lean ====
section
/-! SUPPORT. What an operation keeps. `Keeps K s t`: from `s` to `t` only the parts of the state in the mask `K` may differ; the
variant and the queue never do, a sound state stays sound, and RTC time does not go back. One lemma for each field of State. -/

namespace Sys2Proof.Machine

structure Keeps (K : Nat) (s t : State) : Prop where
  variant : t.variant = s.variant
  pending : t.pending = s.pending
  inv : s.Inv → t.Inv
  rtc : s.rtcFine ≤ t.rtcFine
  dtb : K.testBit 0 = false → t.dtb = s.dtb
  regs : K.testBit 1 = false → t.regs = s.regs
  sigs : K.testBit 2 = false → t.sigs = s.sigs
  descs : K.testBit 3 = false → t.descs = s.descs
  sram : K.testBit 4 = false → t.sram = s.sram
  nvm : K.testBit 5 = false → t.nvm = s.nvm
  codeNvm : K.testBit 6 = false → t.codeNvm = s.codeNvm
  draws : K.testBit 7 = false → t.draws = s.draws
  cores : K.testBit 8 = false → t.cores = s.cores
  paddock : K.testBit 9 = false → t.paddock = s.paddock
  au : K.testBit 10 = false → t.au = s.au
  joins : K.testBit 11 = false → t.joins = s.joins
  tt : K.testBit 12 = false → t.tt = s.tt
  ce : K.testBit 13 = false → t.ce = s.ce
  pg : K.testBit 14 = false → t.pg = s.pg
  tripIn : K.testBit 15 = false → t.tripIn = s.tripIn
  yarrow : K.testBit 16 = false → t.yarrow = s.yarrow
  mode : K.testBit 17 = false → t.mode = s.mode
  irqPend : K.testBit 18 = false → t.irqPend = s.irqPend
  gate : K.testBit 19 = false → t.gate = s.gate
  mg : K.testBit 20 = false → t.mg = s.mg
  bus : K.testBit 21 = false → t.bus = s.bus
  bridle : K.testBit 22 = false → t.bridle = s.bridle
  sec : K.testBit 23 = false → t.sec = s.sec
  rtcBase : K.testBit 24 = false → t.rtcBase = s.rtcBase
  drives : K.testBit 25 = false → t.drives = s.drives
  inlet : K.testBit 26 = false → t.inlet = s.inlet
  charge : K.testBit 27 = false → t.charge = s.charge
  supply : K.testBit 28 = false → t.supply = s.supply
  solar : K.testBit 29 = false → t.solar = s.solar
  chs : K.testBit 30 = false → t.chs = s.chs
  lv : K.testBit 31 = false → t.lv = s.lv
  keeper : K.testBit 32 = false → t.keeper = s.keeper
  motors : K.testBit 33 = false → t.motors = s.motors
  shift : K.testBit 34 = false → t.shift = s.shift
  park : K.testBit 35 = false → t.park = s.park
  clutch : K.testBit 36 = false → t.clutch = s.clutch
  pump : K.testBit 37 = false → t.pump = s.pump
  harn : K.testBit 38 = false → t.harn = s.harn
  thermal : K.testBit 39 = false → t.thermal = s.thermal
  clk : K.testBit 40 = false → t.clk = s.clk
  power : K.testBit 41 = false → t.power = s.power
  boot : K.testBit 42 = false → t.boot = s.boot
  cycle : K.testBit 43 = false → t.cycle = s.cycle

theorem Keeps.refl (K : Nat) (s : State) : Keeps K s s := by
  constructor <;> intros <;> first | rfl | exact le_refl _ | assumption

/-- A mask inside a mask inside `K`. -/
theorem sub_of {G F K : Nat} (h : G ||| F = F) (hK : F ||| K = K) : G ||| K = K := by
  rw [← hK, ← Nat.or_assoc, h]

theorem testBit_of_sub {i K : Nat} (h : 2 ^ i ||| K = K) : K.testBit i = true := by
  rw [← h]; simp [Nat.testBit_or, Nat.testBit_two_pow_self]

theorem Keeps.mono {F K : Nat} {s t : State} (hK : F ||| K = K) (h : Keeps F s t) : Keeps K s t := by
  have hb : ∀ i, K.testBit i = false → F.testBit i = false := by
    intro i hi
    rw [← hK, Nat.testBit_or, Bool.or_eq_false_iff] at hi; exact hi.1
  constructor
  case variant => exact h.variant
  case pending => exact h.pending
  case inv => exact h.inv
  case rtc => exact h.rtc
  case dtb => exact fun k => h.dtb (hb _ k)
  case regs => exact fun k => h.regs (hb _ k)
  case sigs => exact fun k => h.sigs (hb _ k)
  case descs => exact fun k => h.descs (hb _ k)
  case sram => exact fun k => h.sram (hb _ k)
  case nvm => exact fun k => h.nvm (hb _ k)
  case codeNvm => exact fun k => h.codeNvm (hb _ k)
  case draws => exact fun k => h.draws (hb _ k)
  case cores => exact fun k => h.cores (hb _ k)
  case paddock => exact fun k => h.paddock (hb _ k)
  case au => exact fun k => h.au (hb _ k)
  case joins => exact fun k => h.joins (hb _ k)
  case tt => exact fun k => h.tt (hb _ k)
  case ce => exact fun k => h.ce (hb _ k)
  case pg => exact fun k => h.pg (hb _ k)
  case tripIn => exact fun k => h.tripIn (hb _ k)
  case yarrow => exact fun k => h.yarrow (hb _ k)
  case mode => exact fun k => h.mode (hb _ k)
  case irqPend => exact fun k => h.irqPend (hb _ k)
  case gate => exact fun k => h.gate (hb _ k)
  case mg => exact fun k => h.mg (hb _ k)
  case bus => exact fun k => h.bus (hb _ k)
  case bridle => exact fun k => h.bridle (hb _ k)
  case sec => exact fun k => h.sec (hb _ k)
  case rtcBase => exact fun k => h.rtcBase (hb _ k)
  case drives => exact fun k => h.drives (hb _ k)
  case inlet => exact fun k => h.inlet (hb _ k)
  case charge => exact fun k => h.charge (hb _ k)
  case supply => exact fun k => h.supply (hb _ k)
  case solar => exact fun k => h.solar (hb _ k)
  case chs => exact fun k => h.chs (hb _ k)
  case lv => exact fun k => h.lv (hb _ k)
  case keeper => exact fun k => h.keeper (hb _ k)
  case motors => exact fun k => h.motors (hb _ k)
  case shift => exact fun k => h.shift (hb _ k)
  case park => exact fun k => h.park (hb _ k)
  case clutch => exact fun k => h.clutch (hb _ k)
  case pump => exact fun k => h.pump (hb _ k)
  case harn => exact fun k => h.harn (hb _ k)
  case thermal => exact fun k => h.thermal (hb _ k)
  case clk => exact fun k => h.clk (hb _ k)
  case power => exact fun k => h.power (hb _ k)
  case boot => exact fun k => h.boot (hb _ k)
  case cycle => exact fun k => h.cycle (hb _ k)

theorem Keeps.trans {K : Nat} {s t u : State} (h : Keeps K s t) (g : Keeps K t u) : Keeps K s u where
  variant := g.variant.trans h.variant
  pending := g.pending.trans h.pending
  inv := fun i => g.inv (h.inv i)
  rtc := h.rtc.trans g.rtc
  dtb := fun k => (g.dtb k).trans (h.dtb k)
  regs := fun k => (g.regs k).trans (h.regs k)
  sigs := fun k => (g.sigs k).trans (h.sigs k)
  descs := fun k => (g.descs k).trans (h.descs k)
  sram := fun k => (g.sram k).trans (h.sram k)
  nvm := fun k => (g.nvm k).trans (h.nvm k)
  codeNvm := fun k => (g.codeNvm k).trans (h.codeNvm k)
  draws := fun k => (g.draws k).trans (h.draws k)
  cores := fun k => (g.cores k).trans (h.cores k)
  paddock := fun k => (g.paddock k).trans (h.paddock k)
  au := fun k => (g.au k).trans (h.au k)
  joins := fun k => (g.joins k).trans (h.joins k)
  tt := fun k => (g.tt k).trans (h.tt k)
  ce := fun k => (g.ce k).trans (h.ce k)
  pg := fun k => (g.pg k).trans (h.pg k)
  tripIn := fun k => (g.tripIn k).trans (h.tripIn k)
  yarrow := fun k => (g.yarrow k).trans (h.yarrow k)
  mode := fun k => (g.mode k).trans (h.mode k)
  irqPend := fun k => (g.irqPend k).trans (h.irqPend k)
  gate := fun k => (g.gate k).trans (h.gate k)
  mg := fun k => (g.mg k).trans (h.mg k)
  bus := fun k => (g.bus k).trans (h.bus k)
  bridle := fun k => (g.bridle k).trans (h.bridle k)
  sec := fun k => (g.sec k).trans (h.sec k)
  rtcBase := fun k => (g.rtcBase k).trans (h.rtcBase k)
  drives := fun k => (g.drives k).trans (h.drives k)
  inlet := fun k => (g.inlet k).trans (h.inlet k)
  charge := fun k => (g.charge k).trans (h.charge k)
  supply := fun k => (g.supply k).trans (h.supply k)
  solar := fun k => (g.solar k).trans (h.solar k)
  chs := fun k => (g.chs k).trans (h.chs k)
  lv := fun k => (g.lv k).trans (h.lv k)
  keeper := fun k => (g.keeper k).trans (h.keeper k)
  motors := fun k => (g.motors k).trans (h.motors k)
  shift := fun k => (g.shift k).trans (h.shift k)
  park := fun k => (g.park k).trans (h.park k)
  clutch := fun k => (g.clutch k).trans (h.clutch k)
  pump := fun k => (g.pump k).trans (h.pump k)
  harn := fun k => (g.harn k).trans (h.harn k)
  thermal := fun k => (g.thermal k).trans (h.thermal k)
  clk := fun k => (g.clk k).trans (h.clk k)
  power := fun k => (g.power k).trans (h.power k)
  boot := fun k => (g.boot k).trans (h.boot k)
  cycle := fun k => (g.cycle k).trans (h.cycle k)

theorem Keeps.set_regs {K : Nat} {s0 s : State} {v0} (hK : 2 ||| K = K) (h : Keeps K s0 s)
    (h0 : (sparseWf resetWord s.regs = true) → sparseWf resetWord v0 = true) :
    Keeps K s0 { s with regs := v0 } :=
  { h with
    inv := fun i => { h.inv i with regs := h0 (h.inv i).regs }
    rtc := h.rtc
    regs := fun k => absurd k (by rw [testBit_of_sub (i := 1) (sub_of (by decide) hK)]; decide) }

theorem Keeps.set_sigs {K : Nat} {s0 s : State} {v0} (hK : 4 ||| K = K) (h : Keeps K s0 s)
    (h0 : (sparseWf sigDefault s.sigs = true) → sparseWf sigDefault v0 = true) :
    Keeps K s0 { s with sigs := v0 } :=
  { h with
    inv := fun i => { h.inv i with sigs := h0 (h.inv i).sigs }
    rtc := h.rtc
    sigs := fun k => absurd k (by rw [testBit_of_sub (i := 2) (sub_of (by decide) hK)]; decide) }

theorem Keeps.set_descs {K : Nat} {s0 s : State} {v0} (hK : 8 ||| K = K) (h : Keeps K s0 s)
    (h0 : (sparseWf descDefault s.descs = true) → sparseWf descDefault v0 = true) :
    Keeps K s0 { s with descs := v0 } :=
  { h with
    inv := fun i => { h.inv i with descs := h0 (h.inv i).descs }
    rtc := h.rtc
    descs := fun k => absurd k (by rw [testBit_of_sub (i := 3) (sub_of (by decide) hK)]; decide) }

theorem Keeps.set_sram {K : Nat} {s0 s : State} {v0} (hK : 16 ||| K = K) (h : Keeps K s0 s)
    (h0 : (Memory.wf sramByte s.sram) → Memory.wf sramByte v0) :
    Keeps K s0 { s with sram := v0 } :=
  { h with
    inv := fun i => { h.inv i with sram := h0 (h.inv i).sram }
    rtc := h.rtc
    sram := fun k => absurd k (by rw [testBit_of_sub (i := 4) (sub_of (by decide) hK)]; decide) }

theorem Keeps.set_nvm {K : Nat} {s0 s : State} {v0} (hK : 32 ||| K = K) (h : Keeps K s0 s)
    (h0 : (Memory.wf nvmByte s.nvm) → Memory.wf nvmByte v0) :
    Keeps K s0 { s with nvm := v0 } :=
  { h with
    inv := fun i => { h.inv i with nvm := h0 (h.inv i).nvm }
    rtc := h.rtc
    nvm := fun k => absurd k (by rw [testBit_of_sub (i := 5) (sub_of (by decide) hK)]; decide) }

theorem Keeps.set_codeNvm {K : Nat} {s0 s : State} {v0} (hK : 64 ||| K = K) (h : Keeps K s0 s)
    (h0 : (Memory.wf nvmByte s.codeNvm) → Memory.wf nvmByte v0) :
    Keeps K s0 { s with codeNvm := v0 } :=
  { h with
    inv := fun i => { h.inv i with codeNvm := h0 (h.inv i).codeNvm }
    rtc := h.rtc
    codeNvm := fun k => absurd k (by rw [testBit_of_sub (i := 6) (sub_of (by decide) hK)]; decide) }

theorem Keeps.set_draws {K : Nat} {s0 s : State} {v0} (hK : 128 ||| K = K) (h : Keeps K s0 s) :
    Keeps K s0 { s with draws := v0 } :=
  { h with
    inv := fun i => { h.inv i with }
    rtc := h.rtc
    draws := fun k => absurd k (by rw [testBit_of_sub (i := 7) (sub_of (by decide) hK)]; decide) }

theorem Keeps.set_cores {K : Nat} {s0 s : State} {v0} (hK : 256 ||| K = K) (h : Keeps K s0 s)
    (h0 : (s.cores.length = 6) → v0.length = 6) :
    Keeps K s0 { s with cores := v0 } :=
  { h with
    inv := fun i => { h.inv i with cores := h0 (h.inv i).cores }
    rtc := h.rtc
    cores := fun k => absurd k (by rw [testBit_of_sub (i := 8) (sub_of (by decide) hK)]; decide) }

theorem Keeps.set_paddock {K : Nat} {s0 s : State} {v0} (hK : 512 ||| K = K) (h : Keeps K s0 s) :
    Keeps K s0 { s with paddock := v0 } :=
  { h with
    inv := fun i => { h.inv i with }
    rtc := h.rtc
    paddock := fun k => absurd k (by rw [testBit_of_sub (i := 9) (sub_of (by decide) hK)]; decide) }

theorem Keeps.set_au {K : Nat} {s0 s : State} {v0} (hK : 1024 ||| K = K) (h : Keeps K s0 s)
    (h0 : (s.au.length = 16) → v0.length = 16) :
    Keeps K s0 { s with au := v0 } :=
  { h with
    inv := fun i => { h.inv i with au := h0 (h.inv i).au }
    rtc := h.rtc
    au := fun k => absurd k (by rw [testBit_of_sub (i := 10) (sub_of (by decide) hK)]; decide) }

theorem Keeps.set_joins {K : Nat} {s0 s : State} {v0} (hK : 2048 ||| K = K) (h : Keeps K s0 s)
    (h0 : (s.joins.length = 8) → v0.length = 8) :
    Keeps K s0 { s with joins := v0 } :=
  { h with
    inv := fun i => { h.inv i with joins := h0 (h.inv i).joins }
    rtc := h.rtc
    joins := fun k => absurd k (by rw [testBit_of_sub (i := 11) (sub_of (by decide) hK)]; decide) }

theorem Keeps.set_tt {K : Nat} {s0 s : State} {v0} (hK : 4096 ||| K = K) (h : Keeps K s0 s)
    (h0 : (s.tt.length = 8) → v0.length = 8) :
    Keeps K s0 { s with tt := v0 } :=
  { h with
    inv := fun i => { h.inv i with tt := h0 (h.inv i).tt }
    rtc := h.rtc
    tt := fun k => absurd k (by rw [testBit_of_sub (i := 12) (sub_of (by decide) hK)]; decide) }

theorem Keeps.set_ce {K : Nat} {s0 s : State} {v0} (hK : 8192 ||| K = K) (h : Keeps K s0 s)
    (h0 : (s.ce.length = 12 ∧ ∀ c ∈ s.ce, c.laws.length = 4) → v0.length = 12 ∧ ∀ c ∈ v0, c.laws.length = 4) :
    Keeps K s0 { s with ce := v0 } :=
  { h with
    inv := fun i => { h.inv i with ce := h0 (h.inv i).ce }
    rtc := h.rtc
    ce := fun k => absurd k (by rw [testBit_of_sub (i := 13) (sub_of (by decide) hK)]; decide) }

theorem Keeps.set_pg {K : Nat} {s0 s : State} {v0} (hK : 16384 ||| K = K) (h : Keeps K s0 s)
    (h0 : (s.pg.length = 40) → v0.length = 40) :
    Keeps K s0 { s with pg := v0 } :=
  { h with
    inv := fun i => { h.inv i with pg := h0 (h.inv i).pg }
    rtc := h.rtc
    pg := fun k => absurd k (by rw [testBit_of_sub (i := 14) (sub_of (by decide) hK)]; decide) }

theorem Keeps.set_tripIn {K : Nat} {s0 s : State} {v0} (hK : 32768 ||| K = K) (h : Keeps K s0 s)
    (h0 : (s.tripIn.length = 4) → v0.length = 4) :
    Keeps K s0 { s with tripIn := v0 } :=
  { h with
    inv := fun i => { h.inv i with tripIn := h0 (h.inv i).tripIn }
    rtc := h.rtc
    tripIn := fun k => absurd k (by rw [testBit_of_sub (i := 15) (sub_of (by decide) hK)]; decide) }

theorem Keeps.set_yarrow {K : Nat} {s0 s : State} {v0} (hK : 65536 ||| K = K) (h : Keeps K s0 s) :
    Keeps K s0 { s with yarrow := v0 } :=
  { h with
    inv := fun i => { h.inv i with }
    rtc := h.rtc
    yarrow := fun k => absurd k (by rw [testBit_of_sub (i := 16) (sub_of (by decide) hK)]; decide) }

theorem Keeps.set_mode {K : Nat} {s0 s : State} {v0} (hK : 131072 ||| K = K) (h : Keeps K s0 s) :
    Keeps K s0 { s with mode := v0 } :=
  { h with
    inv := fun i => { h.inv i with }
    rtc := h.rtc
    mode := fun k => absurd k (by rw [testBit_of_sub (i := 17) (sub_of (by decide) hK)]; decide) }

theorem Keeps.set_irqPend {K : Nat} {s0 s : State} {v0} (hK : 262144 ||| K = K) (h : Keeps K s0 s)
    (h0 : (s.irqPend.length = 2) → v0.length = 2) :
    Keeps K s0 { s with irqPend := v0 } :=
  { h with
    inv := fun i => { h.inv i with irqPend := h0 (h.inv i).irqPend }
    rtc := h.rtc
    irqPend := fun k => absurd k (by rw [testBit_of_sub (i := 18) (sub_of (by decide) hK)]; decide) }

theorem Keeps.set_gate {K : Nat} {s0 s : State} {v0} (hK : 524288 ||| K = K) (h : Keeps K s0 s)
    (h0 : (s.gate.hv.length = 34 ∧ s.gate.lv.length = 29) → v0.hv.length = 34 ∧ v0.lv.length = 29) :
    Keeps K s0 { s with gate := v0 } :=
  { h with
    inv := fun i => { h.inv i with gate := h0 (h.inv i).gate }
    rtc := h.rtc
    gate := fun k => absurd k (by rw [testBit_of_sub (i := 19) (sub_of (by decide) hK)]; decide) }

theorem Keeps.set_mg {K : Nat} {s0 s : State} {v0} (hK : 1048576 ||| K = K) (h : Keeps K s0 s)
    (h0 : (s.mg.drives.length = 2 ∧ s.mg.inputs.length = 8) → v0.drives.length = 2 ∧ v0.inputs.length = 8) :
    Keeps K s0 { s with mg := v0 } :=
  { h with
    inv := fun i => { h.inv i with mg := h0 (h.inv i).mg }
    rtc := h.rtc
    mg := fun k => absurd k (by rw [testBit_of_sub (i := 20) (sub_of (by decide) hK)]; decide) }

theorem Keeps.set_bus {K : Nat} {s0 s : State} {v0} (hK : 2097152 ||| K = K) (h : Keeps K s0 s)
    (h0 : (s.bus.length = 4) → v0.length = 4) :
    Keeps K s0 { s with bus := v0 } :=
  { h with
    inv := fun i => { h.inv i with bus := h0 (h.inv i).bus }
    rtc := h.rtc
    bus := fun k => absurd k (by rw [testBit_of_sub (i := 21) (sub_of (by decide) hK)]; decide) }

theorem Keeps.set_bridle {K : Nat} {s0 s : State} {v0} (hK : 4194304 ||| K = K) (h : Keeps K s0 s)
    (h0 : (s.bridle.slots.length = 32 ∧ s.bridle.sess.length = 8) → v0.slots.length = 32 ∧ v0.sess.length = 8) :
    Keeps K s0 { s with bridle := v0 } :=
  { h with
    inv := fun i => { h.inv i with bridle := h0 (h.inv i).bridle }
    rtc := h.rtc
    bridle := fun k => absurd k (by rw [testBit_of_sub (i := 22) (sub_of (by decide) hK)]; decide) }

theorem Keeps.set_sec {K : Nat} {s0 s : State} {v0} (hK : 8388608 ||| K = K) (h : Keeps K s0 s) :
    Keeps K s0 { s with sec := v0 } :=
  { h with
    inv := fun i => { h.inv i with }
    rtc := h.rtc
    sec := fun k => absurd k (by rw [testBit_of_sub (i := 23) (sub_of (by decide) hK)]; decide) }

theorem Keeps.set_drives {K : Nat} {s0 s : State} {v0} (hK : 33554432 ||| K = K) (h : Keeps K s0 s)
    (h0 : (s.drives.length = 2) → v0.length = 2) :
    Keeps K s0 { s with drives := v0 } :=
  { h with
    inv := fun i => { h.inv i with drives := h0 (h.inv i).drives }
    rtc := h.rtc
    drives := fun k => absurd k (by rw [testBit_of_sub (i := 25) (sub_of (by decide) hK)]; decide) }

theorem Keeps.set_inlet {K : Nat} {s0 s : State} {v0} (hK : 67108864 ||| K = K) (h : Keeps K s0 s) :
    Keeps K s0 { s with inlet := v0 } :=
  { h with
    inv := fun i => { h.inv i with }
    rtc := h.rtc
    inlet := fun k => absurd k (by rw [testBit_of_sub (i := 26) (sub_of (by decide) hK)]; decide) }

theorem Keeps.set_charge {K : Nat} {s0 s : State} {v0} (hK : 134217728 ||| K = K) (h : Keeps K s0 s)
    (h0 : (s.charge.length = 2) → v0.length = 2) :
    Keeps K s0 { s with charge := v0 } :=
  { h with
    inv := fun i => { h.inv i with charge := h0 (h.inv i).charge }
    rtc := h.rtc
    charge := fun k => absurd k (by rw [testBit_of_sub (i := 27) (sub_of (by decide) hK)]; decide) }

theorem Keeps.set_supply {K : Nat} {s0 s : State} {v0} (hK : 268435456 ||| K = K) (h : Keeps K s0 s) :
    Keeps K s0 { s with supply := v0 } :=
  { h with
    inv := fun i => { h.inv i with }
    rtc := h.rtc
    supply := fun k => absurd k (by rw [testBit_of_sub (i := 28) (sub_of (by decide) hK)]; decide) }

theorem Keeps.set_solar {K : Nat} {s0 s : State} {v0} (hK : 536870912 ||| K = K) (h : Keeps K s0 s) :
    Keeps K s0 { s with solar := v0 } :=
  { h with
    inv := fun i => { h.inv i with }
    rtc := h.rtc
    solar := fun k => absurd k (by rw [testBit_of_sub (i := 29) (sub_of (by decide) hK)]; decide) }

theorem Keeps.set_chs {K : Nat} {s0 s : State} {v0} (hK : 1073741824 ||| K = K) (h : Keeps K s0 s) :
    Keeps K s0 { s with chs := v0 } :=
  { h with
    inv := fun i => { h.inv i with }
    rtc := h.rtc
    chs := fun k => absurd k (by rw [testBit_of_sub (i := 30) (sub_of (by decide) hK)]; decide) }

theorem Keeps.set_lv {K : Nat} {s0 s : State} {v0} (hK : 2147483648 ||| K = K) (h : Keeps K s0 s) :
    Keeps K s0 { s with lv := v0 } :=
  { h with
    inv := fun i => { h.inv i with }
    rtc := h.rtc
    lv := fun k => absurd k (by rw [testBit_of_sub (i := 31) (sub_of (by decide) hK)]; decide) }

theorem Keeps.set_keeper {K : Nat} {s0 s : State} {v0} (hK : 4294967296 ||| K = K) (h : Keeps K s0 s) :
    Keeps K s0 { s with keeper := v0 } :=
  { h with
    inv := fun i => { h.inv i with }
    rtc := h.rtc
    keeper := fun k => absurd k (by rw [testBit_of_sub (i := 32) (sub_of (by decide) hK)]; decide) }

theorem Keeps.set_motors {K : Nat} {s0 s : State} {v0} (hK : 8589934592 ||| K = K) (h : Keeps K s0 s)
    (h0 : (s.motors.length = 2) → v0.length = 2) :
    Keeps K s0 { s with motors := v0 } :=
  { h with
    inv := fun i => { h.inv i with motors := h0 (h.inv i).motors }
    rtc := h.rtc
    motors := fun k => absurd k (by rw [testBit_of_sub (i := 33) (sub_of (by decide) hK)]; decide) }

theorem Keeps.set_shift {K : Nat} {s0 s : State} {v0} (hK : 17179869184 ||| K = K) (h : Keeps K s0 s) :
    Keeps K s0 { s with shift := v0 } :=
  { h with
    inv := fun i => { h.inv i with }
    rtc := h.rtc
    shift := fun k => absurd k (by rw [testBit_of_sub (i := 34) (sub_of (by decide) hK)]; decide) }

theorem Keeps.set_park {K : Nat} {s0 s : State} {v0} (hK : 34359738368 ||| K = K) (h : Keeps K s0 s) :
    Keeps K s0 { s with park := v0 } :=
  { h with
    inv := fun i => { h.inv i with }
    rtc := h.rtc
    park := fun k => absurd k (by rw [testBit_of_sub (i := 35) (sub_of (by decide) hK)]; decide) }

theorem Keeps.set_clutch {K : Nat} {s0 s : State} {v0} (hK : 68719476736 ||| K = K) (h : Keeps K s0 s) :
    Keeps K s0 { s with clutch := v0 } :=
  { h with
    inv := fun i => { h.inv i with }
    rtc := h.rtc
    clutch := fun k => absurd k (by rw [testBit_of_sub (i := 36) (sub_of (by decide) hK)]; decide) }

theorem Keeps.set_pump {K : Nat} {s0 s : State} {v0} (hK : 137438953472 ||| K = K) (h : Keeps K s0 s) :
    Keeps K s0 { s with pump := v0 } :=
  { h with
    inv := fun i => { h.inv i with }
    rtc := h.rtc
    pump := fun k => absurd k (by rw [testBit_of_sub (i := 37) (sub_of (by decide) hK)]; decide) }

theorem Keeps.set_harn {K : Nat} {s0 s : State} {v0} (hK : 274877906944 ||| K = K) (h : Keeps K s0 s)
    (h0 : (s.harn.length = 2) → v0.length = 2) :
    Keeps K s0 { s with harn := v0 } :=
  { h with
    inv := fun i => { h.inv i with harn := h0 (h.inv i).harn }
    rtc := h.rtc
    harn := fun k => absurd k (by rw [testBit_of_sub (i := 38) (sub_of (by decide) hK)]; decide) }

theorem Keeps.set_thermal {K : Nat} {s0 s : State} {v0} (hK : 549755813888 ||| K = K) (h : Keeps K s0 s)
    (h0 : (s.thermal.zones.length = 8) → v0.zones.length = 8) :
    Keeps K s0 { s with thermal := v0 } :=
  { h with
    inv := fun i => { h.inv i with thermal := h0 (h.inv i).thermal }
    rtc := h.rtc
    thermal := fun k => absurd k (by rw [testBit_of_sub (i := 39) (sub_of (by decide) hK)]; decide) }

theorem Keeps.set_clk {K : Nat} {s0 s : State} {v0} (hK : 1099511627776 ||| K = K) (h : Keeps K s0 s) :
    Keeps K s0 { s with clk := v0 } :=
  { h with
    inv := fun i => { h.inv i with }
    rtc := h.rtc
    clk := fun k => absurd k (by rw [testBit_of_sub (i := 40) (sub_of (by decide) hK)]; decide) }

theorem Keeps.set_power {K : Nat} {s0 s : State} {v0} (hK : 2199023255552 ||| K = K) (h : Keeps K s0 s) :
    Keeps K s0 { s with power := v0 } :=
  { h with
    inv := fun i => { h.inv i with }
    rtc := h.rtc
    power := fun k => absurd k (by rw [testBit_of_sub (i := 41) (sub_of (by decide) hK)]; decide) }

theorem Keeps.set_boot {K : Nat} {s0 s : State} {v0} (hK : 4398046511104 ||| K = K) (h : Keeps K s0 s) :
    Keeps K s0 { s with boot := v0 } :=
  { h with
    inv := fun i => { h.inv i with }
    rtc := h.rtc
    boot := fun k => absurd k (by rw [testBit_of_sub (i := 42) (sub_of (by decide) hK)]; decide) }

theorem Keeps.set_yarrow_mg {K : Nat} {s0 s : State} {v0 v1} (hK : 1114112 ||| K = K) (h : Keeps K s0 s)
    (h1 : (s.mg.drives.length = 2 ∧ s.mg.inputs.length = 8) → v1.drives.length = 2 ∧ v1.inputs.length = 8) :
    Keeps K s0 { s with yarrow := v0, mg := v1 } :=
  { h with
    inv := fun i => { h.inv i with mg := h1 (h.inv i).mg }
    rtc := h.rtc
    yarrow := fun k => absurd k (by rw [testBit_of_sub (i := 16) (sub_of (by decide) hK)]; decide)
    mg := fun k => absurd k (by rw [testBit_of_sub (i := 20) (sub_of (by decide) hK)]; decide) }

theorem Keeps.set_regs_keeper_thermal {K : Nat} {s0 s : State} {v0 v1 v2} (hK : 554050781186 ||| K = K) (h : Keeps K s0 s)
    (h0 : (sparseWf resetWord s.regs = true) → sparseWf resetWord v0 = true)
    (h2 : (s.thermal.zones.length = 8) → v2.zones.length = 8) :
    Keeps K s0 { s with regs := v0, keeper := v1, thermal := v2 } :=
  { h with
    inv := fun i => { h.inv i with regs := h0 (h.inv i).regs, thermal := h2 (h.inv i).thermal }
    rtc := h.rtc
    regs := fun k => absurd k (by rw [testBit_of_sub (i := 1) (sub_of (by decide) hK)]; decide)
    keeper := fun k => absurd k (by rw [testBit_of_sub (i := 32) (sub_of (by decide) hK)]; decide)
    thermal := fun k => absurd k (by rw [testBit_of_sub (i := 39) (sub_of (by decide) hK)]; decide) }

theorem Keeps.set_sigs_descs_paddock {K : Nat} {s0 s : State} {v0 v1 v2} (hK : 524 ||| K = K) (h : Keeps K s0 s)
    (h0 : (sparseWf sigDefault s.sigs = true) → sparseWf sigDefault v0 = true)
    (h1 : (sparseWf descDefault s.descs = true) → sparseWf descDefault v1 = true) :
    Keeps K s0 { s with sigs := v0, descs := v1, paddock := v2 } :=
  { h with
    inv := fun i => { h.inv i with sigs := h0 (h.inv i).sigs, descs := h1 (h.inv i).descs }
    rtc := h.rtc
    sigs := fun k => absurd k (by rw [testBit_of_sub (i := 2) (sub_of (by decide) hK)]; decide)
    descs := fun k => absurd k (by rw [testBit_of_sub (i := 3) (sub_of (by decide) hK)]; decide)
    paddock := fun k => absurd k (by rw [testBit_of_sub (i := 9) (sub_of (by decide) hK)]; decide) }

theorem Keeps.set_pg_gate_mg {K : Nat} {s0 s : State} {v0 v1 v2} (hK : 1589248 ||| K = K) (h : Keeps K s0 s)
    (h0 : (s.pg.length = 40) → v0.length = 40)
    (h1 : (s.gate.hv.length = 34 ∧ s.gate.lv.length = 29) → v1.hv.length = 34 ∧ v1.lv.length = 29)
    (h2 : (s.mg.drives.length = 2 ∧ s.mg.inputs.length = 8) → v2.drives.length = 2 ∧ v2.inputs.length = 8) :
    Keeps K s0 { s with pg := v0, gate := v1, mg := v2 } :=
  { h with
    inv := fun i => { h.inv i with pg := h0 (h.inv i).pg, gate := h1 (h.inv i).gate, mg := h2 (h.inv i).mg }
    rtc := h.rtc
    pg := fun k => absurd k (by rw [testBit_of_sub (i := 14) (sub_of (by decide) hK)]; decide)
    gate := fun k => absurd k (by rw [testBit_of_sub (i := 19) (sub_of (by decide) hK)]; decide)
    mg := fun k => absurd k (by rw [testBit_of_sub (i := 20) (sub_of (by decide) hK)]; decide) }

theorem Keeps.set_mg_bus_bridle {K : Nat} {s0 s : State} {v0 v1 v2} (hK : 7340032 ||| K = K) (h : Keeps K s0 s)
    (h0 : (s.mg.drives.length = 2 ∧ s.mg.inputs.length = 8) → v0.drives.length = 2 ∧ v0.inputs.length = 8)
    (h1 : (s.bus.length = 4) → v1.length = 4)
    (h2 : (s.bridle.slots.length = 32 ∧ s.bridle.sess.length = 8) → v2.slots.length = 32 ∧ v2.sess.length = 8) :
    Keeps K s0 { s with mg := v0, bus := v1, bridle := v2 } :=
  { h with
    inv := fun i => { h.inv i with mg := h0 (h.inv i).mg, bus := h1 (h.inv i).bus, bridle := h2 (h.inv i).bridle }
    rtc := h.rtc
    mg := fun k => absurd k (by rw [testBit_of_sub (i := 20) (sub_of (by decide) hK)]; decide)
    bus := fun k => absurd k (by rw [testBit_of_sub (i := 21) (sub_of (by decide) hK)]; decide)
    bridle := fun k => absurd k (by rw [testBit_of_sub (i := 22) (sub_of (by decide) hK)]; decide) }

theorem Keeps.set_au_mg_drives_inlet_thermal {K : Nat} {s0 s : State} {v0 v1 v2 v3 v4} (hK : 549857526784 ||| K = K) (h : Keeps K
    s0 s)
    (h0 : (s.au.length = 16) → v0.length = 16)
    (h1 : (s.mg.drives.length = 2 ∧ s.mg.inputs.length = 8) → v1.drives.length = 2 ∧ v1.inputs.length = 8)
    (h2 : (s.drives.length = 2) → v2.length = 2)
    (h4 : (s.thermal.zones.length = 8) → v4.zones.length = 8) :
    Keeps K s0 { s with au := v0, mg := v1, drives := v2, inlet := v3, thermal := v4 } :=
  { h with
    inv := fun i => { h.inv i with au := h0 (h.inv i).au, mg := h1 (h.inv i).mg, drives := h2 (h.inv i).drives, thermal := h4 (h.inv i).thermal }
    rtc := h.rtc
    au := fun k => absurd k (by rw [testBit_of_sub (i := 10) (sub_of (by decide) hK)]; decide)
    mg := fun k => absurd k (by rw [testBit_of_sub (i := 20) (sub_of (by decide) hK)]; decide)
    drives := fun k => absurd k (by rw [testBit_of_sub (i := 25) (sub_of (by decide) hK)]; decide)
    inlet := fun k => absurd k (by rw [testBit_of_sub (i := 26) (sub_of (by decide) hK)]; decide)
    thermal := fun k => absurd k (by rw [testBit_of_sub (i := 39) (sub_of (by decide) hK)]; decide) }

theorem Keeps.set_regs_cores_mode_irqPend_drives_lv_harn {K : Nat} {s0 s : State} {v0 v1 v2 v3 v4 v5 v6} (hK : 277059338498 ||| K
    = K) (h : Keeps K s0 s)
    (h0 : (sparseWf resetWord s.regs = true) → sparseWf resetWord v0 = true)
    (h1 : (s.cores.length = 6) → v1.length = 6)
    (h3 : (s.irqPend.length = 2) → v3.length = 2)
    (h4 : (s.drives.length = 2) → v4.length = 2)
    (h6 : (s.harn.length = 2) → v6.length = 2) :
    Keeps K s0 { s with regs := v0, cores := v1, mode := v2, irqPend := v3, drives := v4, lv := v5, harn := v6 } :=
  { h with
    inv := fun i => { h.inv i with regs := h0 (h.inv i).regs, cores := h1 (h.inv i).cores, irqPend := h3 (h.inv i).irqPend, drives := h4 (h.inv i).drives, harn := h6 (h.inv i).harn }
    rtc := h.rtc
    regs := fun k => absurd k (by rw [testBit_of_sub (i := 1) (sub_of (by decide) hK)]; decide)
    cores := fun k => absurd k (by rw [testBit_of_sub (i := 8) (sub_of (by decide) hK)]; decide)
    mode := fun k => absurd k (by rw [testBit_of_sub (i := 17) (sub_of (by decide) hK)]; decide)
    irqPend := fun k => absurd k (by rw [testBit_of_sub (i := 18) (sub_of (by decide) hK)]; decide)
    drives := fun k => absurd k (by rw [testBit_of_sub (i := 25) (sub_of (by decide) hK)]; decide)
    lv := fun k => absurd k (by rw [testBit_of_sub (i := 31) (sub_of (by decide) hK)]; decide)
    harn := fun k => absurd k (by rw [testBit_of_sub (i := 38) (sub_of (by decide) hK)]; decide) }

theorem Keeps.set_cores_mode_irqPend_drives_lv_harn_clk_power {K : Nat} {s0 s : State} {v0 v1 v2 v3 v4 v5 v6 v7} (hK :
    3575594221824 ||| K = K) (h : Keeps K s0 s)
    (h0 : (s.cores.length = 6) → v0.length = 6)
    (h2 : (s.irqPend.length = 2) → v2.length = 2)
    (h3 : (s.drives.length = 2) → v3.length = 2)
    (h5 : (s.harn.length = 2) → v5.length = 2) :
    Keeps K s0 { s with cores := v0, mode := v1, irqPend := v2, drives := v3, lv := v4, harn := v5, clk := v6, power := v7 } :=
  { h with
    inv := fun i => { h.inv i with cores := h0 (h.inv i).cores, irqPend := h2 (h.inv i).irqPend, drives := h3 (h.inv i).drives, harn := h5 (h.inv i).harn }
    rtc := h.rtc
    cores := fun k => absurd k (by rw [testBit_of_sub (i := 8) (sub_of (by decide) hK)]; decide)
    mode := fun k => absurd k (by rw [testBit_of_sub (i := 17) (sub_of (by decide) hK)]; decide)
    irqPend := fun k => absurd k (by rw [testBit_of_sub (i := 18) (sub_of (by decide) hK)]; decide)
    drives := fun k => absurd k (by rw [testBit_of_sub (i := 25) (sub_of (by decide) hK)]; decide)
    lv := fun k => absurd k (by rw [testBit_of_sub (i := 31) (sub_of (by decide) hK)]; decide)
    harn := fun k => absurd k (by rw [testBit_of_sub (i := 38) (sub_of (by decide) hK)]; decide)
    clk := fun k => absurd k (by rw [testBit_of_sub (i := 40) (sub_of (by decide) hK)]; decide)
    power := fun k => absurd k (by rw [testBit_of_sub (i := 41) (sub_of (by decide) hK)]; decide) }

theorem Keeps.set_joins_tt_ce_pg_tripIn_yarrow_mg_chs_lv {K : Nat} {s0 s : State} {v0 v1 v2 v3 v4 v5 v6 v7 v8} (hK : 3222403072
    ||| K = K) (h : Keeps K s0 s)
    (h0 : (s.joins.length = 8) → v0.length = 8)
    (h1 : (s.tt.length = 8) → v1.length = 8)
    (h2 : (s.ce.length = 12 ∧ ∀ c ∈ s.ce, c.laws.length = 4) → v2.length = 12 ∧ ∀ c ∈ v2, c.laws.length = 4)
    (h3 : (s.pg.length = 40) → v3.length = 40)
    (h4 : (s.tripIn.length = 4) → v4.length = 4)
    (h6 : (s.mg.drives.length = 2 ∧ s.mg.inputs.length = 8) → v6.drives.length = 2 ∧ v6.inputs.length = 8) :
    Keeps K s0 { s with joins := v0, tt := v1, ce := v2, pg := v3, tripIn := v4, yarrow := v5, mg := v6, chs := v7, lv := v8 } :=
  { h with
    inv := fun i => { h.inv i with joins := h0 (h.inv i).joins, tt := h1 (h.inv i).tt, ce := h2 (h.inv i).ce, pg := h3 (h.inv i).pg, tripIn := h4 (h.inv i).tripIn, mg := h6 (h.inv i).mg }
    rtc := h.rtc
    joins := fun k => absurd k (by rw [testBit_of_sub (i := 11) (sub_of (by decide) hK)]; decide)
    tt := fun k => absurd k (by rw [testBit_of_sub (i := 12) (sub_of (by decide) hK)]; decide)
    ce := fun k => absurd k (by rw [testBit_of_sub (i := 13) (sub_of (by decide) hK)]; decide)
    pg := fun k => absurd k (by rw [testBit_of_sub (i := 14) (sub_of (by decide) hK)]; decide)
    tripIn := fun k => absurd k (by rw [testBit_of_sub (i := 15) (sub_of (by decide) hK)]; decide)
    yarrow := fun k => absurd k (by rw [testBit_of_sub (i := 16) (sub_of (by decide) hK)]; decide)
    mg := fun k => absurd k (by rw [testBit_of_sub (i := 20) (sub_of (by decide) hK)]; decide)
    chs := fun k => absurd k (by rw [testBit_of_sub (i := 30) (sub_of (by decide) hK)]; decide)
    lv := fun k => absurd k (by rw [testBit_of_sub (i := 31) (sub_of (by decide) hK)]; decide) }

theorem Keeps.set_cores_irqPend_inlet_charge_supply_solar_motors_shift_park_clutch_pump_harn {K : Nat} {s0 s : State} {v0 v1 v2 v3
    v4 v5 v6 v7 v8 v9 v10 v11} (hK : 542172774656 ||| K = K) (h : Keeps K s0 s)
    (h0 : (s.cores.length = 6) → v0.length = 6)
    (h1 : (s.irqPend.length = 2) → v1.length = 2)
    (h3 : (s.charge.length = 2) → v3.length = 2)
    (h6 : (s.motors.length = 2) → v6.length = 2)
    (h11 : (s.harn.length = 2) → v11.length = 2) :
    Keeps K s0 { s with cores := v0, irqPend := v1, inlet := v2, charge := v3, supply := v4, solar := v5, motors := v6, shift := v7, park := v8, clutch := v9, pump := v10, harn := v11 } :=
  { h with
    inv := fun i => { h.inv i with cores := h0 (h.inv i).cores, irqPend := h1 (h.inv i).irqPend, charge := h3 (h.inv i).charge, motors := h6 (h.inv i).motors, harn := h11 (h.inv i).harn }
    rtc := h.rtc
    cores := fun k => absurd k (by rw [testBit_of_sub (i := 8) (sub_of (by decide) hK)]; decide)
    irqPend := fun k => absurd k (by rw [testBit_of_sub (i := 18) (sub_of (by decide) hK)]; decide)
    inlet := fun k => absurd k (by rw [testBit_of_sub (i := 26) (sub_of (by decide) hK)]; decide)
    charge := fun k => absurd k (by rw [testBit_of_sub (i := 27) (sub_of (by decide) hK)]; decide)
    supply := fun k => absurd k (by rw [testBit_of_sub (i := 28) (sub_of (by decide) hK)]; decide)
    solar := fun k => absurd k (by rw [testBit_of_sub (i := 29) (sub_of (by decide) hK)]; decide)
    motors := fun k => absurd k (by rw [testBit_of_sub (i := 33) (sub_of (by decide) hK)]; decide)
    shift := fun k => absurd k (by rw [testBit_of_sub (i := 34) (sub_of (by decide) hK)]; decide)
    park := fun k => absurd k (by rw [testBit_of_sub (i := 35) (sub_of (by decide) hK)]; decide)
    clutch := fun k => absurd k (by rw [testBit_of_sub (i := 36) (sub_of (by decide) hK)]; decide)
    pump := fun k => absurd k (by rw [testBit_of_sub (i := 37) (sub_of (by decide) hK)]; decide)
    harn := fun k => absurd k (by rw [testBit_of_sub (i := 38) (sub_of (by decide) hK)]; decide) }

/-- Time goes on. -/
theorem Keeps.set_dtb {K : Nat} {s0 s : State} {v} (hK : 1 ||| K = K) (h : Keeps K s0 s) (hv : s.dtb ≤ v) :
    Keeps K s0 { s with dtb := v } :=
  { h with
    inv := fun i => { h.inv i with }
    rtc := h.rtc.trans (by
      have := Int.mul_le_mul_of_nonneg_left (Int.ofNat_le.mpr hv) (Int.natCast_nonneg s.cycle)
      simp only [State.rtcFine]; exact Int.add_le_add_left this _)
    dtb := fun k => absurd k (by rw [testBit_of_sub (i := 0) (sub_of (by decide) hK)]; decide) }

/-- What changes the length of the CLK_CTL cycle leaves RTC time as it is. -/
theorem State.keepRtc_keeps {K : Nat} {s0 s : State} {f : State → State} (hK : 8796109799424 ||| K = K) (h : Keeps K s0 s)
    (hf : ∀ t, Keeps K s0 t → Keeps K s0 (f t)) : Keeps K s0 (s.keepRtc f) :=
  { hf s h with
    inv := fun i => { (hf s h).inv i with }
    rtc := h.rtc.trans (by simp only [State.rtcFine, State.keepRtc]; omega)
    rtcBase := fun k => absurd k (by rw [testBit_of_sub (i := 24) (sub_of (by decide) hK)]; decide)
    cycle := fun k => absurd k (by rw [testBit_of_sub (i := 43) (sub_of (by decide) hK)]; decide) }

/-- DTB jumps, with the RTC running on. -/
theorem State.setDtb_keeps {K : Nat} {s0 s : State} {t} (hK : 8796109799425 ||| K = K) (h : Keeps K s0 s) : Keeps K s0 (s.setDtb t) :=
  { h with
    inv := fun i => { h.inv i with }
    rtc := h.rtc.trans (by simp only [State.rtcFine, State.setDtb, State.keepRtc]; omega)
    dtb := fun k => absurd k (by rw [testBit_of_sub (i := 0) (sub_of (by decide) hK)]; decide)
    rtcBase := fun k => absurd k (by rw [testBit_of_sub (i := 24) (sub_of (by decide) hK)]; decide)
    cycle := fun k => absurd k (by rw [testBit_of_sub (i := 43) (sub_of (by decide) hK)]; decide) }

theorem State.reach_keeps {K : Nat} {s0 s : State} {t} (hK : 1 ||| K = K) (h : Keeps K s0 s) : Keeps K s0 (s.reach t) :=
  Keeps.set_dtb hK h (Nat.le_max_left _ _)

theorem State.reachRtc_keeps {K : Nat} {s0 s : State} {r} (hK : 1 ||| K = K) (h : Keeps K s0 s) : Keeps K s0 (s.reachRtc r) :=
  Keeps.set_dtb hK h (Nat.le_max_left _ _)

/-! Folds. -/

theorem Keeps.foldl {α : Type} {K : Nat} {s0 : State} {f : State → α → State} (hf : ∀ s x, Keeps K s0 s → Keeps K s0 (f s x)) :
    ∀ (l : List α) {s : State}, Keeps K s0 s → Keeps K s0 (l.foldl f s)
  | [], _, h => h
  | x :: l, s, h => Keeps.foldl hf l (hf s x h)

theorem State.each_keeps {α : Type} {K : Nat} {s0 s : State} {l : List α} {f : State → α → State} (h : Keeps K s0 s)
    (hf : ∀ s x, Keeps K s0 s → Keeps K s0 (f s x)) : Keeps K s0 (s.each l f) := Keeps.foldl hf l h

theorem overFrom_keeps {K : Nat} {s0 : State} {f : State → Nat → State} (hf : ∀ s x, Keeps K s0 s → Keeps K s0 (f s x)) :
    ∀ (n k : Nat) {s : State}, Keeps K s0 s → Keeps K s0 (overFrom f s k n)
  | 0, _, _, h => h
  | n + 1, k, s, h => overFrom_keeps hf n (k + 1) (hf s k h)

theorem State.forN_keeps {K : Nat} {s0 s : State} {n : Nat} {f : State → Nat → State} (h : Keeps K s0 s)
    (hf : ∀ s x, Keeps K s0 s → Keeps K s0 (f s x)) : Keeps K s0 (s.forN n f) := overFrom_keeps hf n 0 h

/-- A fold that carries a value beside the state. -/
theorem Keeps.foldlPair {α β : Type} {K : Nat} {s0 : State} {f : State × β → α → State × β}
    (hf : ∀ p x, Keeps K s0 p.1 → Keeps K s0 (f p x).1) :
    ∀ (l : List α) {p : State × β}, Keeps K s0 p.1 → Keeps K s0 (l.foldl f p).1
  | [], _, h => h
  | x :: l, p, h => Keeps.foldlPair hf l (hf p x h)

/-- What an `if` answers. -/
theorem Keeps.ite {K : Nat} {s0 a b : State} {c : Prop} [Decidable c] (ha : Keeps K s0 a) (hb : Keeps K s0 b) :
    Keeps K s0 (if c then a else b) := by split <;> assumption

theorem Keeps.onFst {α : Type} {K : Nat} {s0 : State} {p : State × α} {g : State → α → State} :
    Keeps K s0 p.1 → (∀ s a, Keeps K s0 s → Keeps K s0 (g s a)) → Keeps K s0 (match p with | (s, a) => g s a) :=
  fun hp hg => hg p.1 p.2 hp

theorem Keeps.onSnd {α : Type} {K : Nat} {s0 : State} {p : α × State} {g : α → State → State} :
    Keeps K s0 p.2 → (∀ a s, Keeps K s0 s → Keeps K s0 (g a s)) → Keeps K s0 (match p with | (a, s) => g a s) :=
  fun hp hg => hg p.1 p.2 hp

/-! Outcomes. -/

/-- A next state that the outcome answers differs from `s` in the parts of `K` alone. -/
def Answers (K : Nat) (s : State) (o : Outcome) : Prop := ∀ t, o = .next t → Keeps K s t

theorem Answers.next {K : Nat} {s t : State} (h : Keeps K s t) : Answers K s (.next t) := by
  intro u hu; cases hu; exact h

theorem Answers.ofUnit {K : Nat} {s t : State} {ok : Bool} (h : Keeps K s t) : Answers K s (ofUnit ok t) := by
  intro u hu
  unfold Machine.ofUnit at hu
  split at hu
  · cases hu; exact h
  · cases hu

theorem Answers.ite {K : Nat} {s : State} {a b : Outcome} {c : Prop} [Decidable c] (ha : Answers K s a) (hb : Answers K s b) :
    Answers K s (if c then a else b) := by split <;> assumption

end Sys2Proof.Machine
end

