-- ==== Sys2Proof/Laws/KeepsGenOps.lean ====
section
/-! SUPPORT. What each operation and each command of Machine/Ops.lean, Machine/LawOps.lean, Machine/GenOps.lean keeps. -/

set_option linter.unusedVariables false
set_option linter.unusedTactic false
set_option linter.unreachableTactic false

namespace Sys2Proof.Machine

/-! ## Ops -/

theorem State.modCe_keeps {K : Nat} {s0 s : State} {e f} (hK : 8192 ||| K = K) (h : Keeps K s0 s)
    (hf : ∀ c : CeSt, c.laws.length = 4 → (f c).laws.length = 4) : Keeps K s0 (State.modCe s e f) := by
  refine Keeps.set_ce hK h (fun i => ⟨by simpa using i.1, fun c hc => ?_⟩)
  rw [List.mem_iff_getElem] at hc
  obtain ⟨k, hk, rfl⟩ := hc
  rw [List.getElem_modify]
  have hk' : k < s.ce.length := by simpa using hk
  split
  · exact hf _ (i.2 _ (List.getElem_mem hk'))
  · exact i.2 _ (List.getElem_mem hk')

theorem State.modLaw_keeps {K : Nat} {s0 s : State} {e l f} (hK : 8192 ||| K = K) (h : Keeps K s0 s) :
    Keeps K s0 (State.modLaw s e l f) := by
  unfold State.modLaw
  refine State.modCe_keeps (sub_of rfl hK) ?_ (by intro c hc; first | exact hc | simpa using hc | (split <;> simpa using hc))
  exact h

theorem State.latchCapture_keeps {K : Nat} {s0 s : State} {e l k c} (hK : 8192 ||| K = K) (h : Keeps K s0 s) :
    Keeps K s0 (State.latchCapture s e l k c) := by
  unfold State.latchCapture
  refine State.modLaw_keeps (sub_of rfl hK) ?_
  exact h

theorem State.latchWrite_keeps {K : Nat} {s0 s : State} {id v quality ovr} (hK : 532480 ||| K = K) (h : Keeps K s0 s) :
    Keeps K s0 (State.latchWrite s id v quality ovr) := by
  unfold State.latchWrite
  refine Keeps.foldl ?_ _ ?_
  · intro s3 _ h4
    refine Keeps.set_gate (sub_of rfl hK) ?_ (fun i => by first | exact i | rfl | simpa using i | (split <;> simpa using i))
    exact h4
  · refine Keeps.foldl ?_ _ ?_
    · intro s1 _ h2
      refine State.latchCapture_keeps (sub_of rfl hK) ?_
      exact h2
    · exact h

theorem State.setSig_keeps {K : Nat} {s0 s : State} {id v} (hK : 4 ||| K = K) (h : Keeps K s0 s) :
    Keeps K s0 (State.setSig s id v) := by
  unfold State.setSig
  refine Keeps.set_sigs (sub_of rfl hK) ?_ (fun i => by first | exact sparseWf_set i _ _ | exact sparseWf_filter i _ | rfl | exact i)
  exact h

theorem State.putSig_keeps {K : Nat} {s0 s : State} {id v} (hK : 516 ||| K = K) (h : Keeps K s0 s) :
    Keeps K s0 (State.putSig s id v) := by
  unfold State.putSig
  refine Keeps.set_paddock (sub_of rfl hK) ?_
  refine State.setSig_keeps (sub_of rfl hK) ?_
  exact h

theorem State.putVal_keeps {K : Nat} {s0 s : State} {id v quality subst} (hK : 532996 ||| K = K) (h : Keeps K s0 s) :
    Keeps K s0 (State.putVal s id v quality subst) := by
  unfold State.putVal
  refine Keeps.ite ?_ ?_
  · refine State.latchWrite_keeps (sub_of rfl hK) ?_
    refine State.putSig_keeps (sub_of rfl hK) ?_
    exact h
  · exact h

theorem State.wr_keeps {K : Nat} {s0 s : State} {a v} (hK : 2 ||| K = K) (h : Keeps K s0 s) :
    Keeps K s0 (State.wr s a v) := by
  unfold State.wr
  refine Keeps.set_regs (sub_of rfl hK) ?_ (fun i => by first | exact sparseWf_set i _ _ | exact sparseWf_filter i _ | rfl | exact i)
  exact h

theorem State.setf_keeps {K : Nat} {s0 s : State} {a f v} (hK : 2 ||| K = K) (h : Keeps K s0 s) :
    Keeps K s0 (State.setf s a f v) := by
  unfold State.setf
  refine State.wr_keeps (sub_of rfl hK) ?_
  exact h

theorem State.setb_keeps {K : Nat} {s0 s : State} {a f b} (hK : 2 ||| K = K) (h : Keeps K s0 s) :
    Keeps K s0 (State.setb s a f b) := by
  unfold State.setb
  refine State.setf_keeps (sub_of rfl hK) ?_
  exact h

theorem State.setDomain_keeps {K : Nat} {s0 s : State} {d v} (hK : 4294967298 ||| K = K) (h : Keeps K s0 s) :
    Keeps K s0 (State.setDomain s d v) := by
  unfold State.setDomain
  refine State.setf_keeps (sub_of rfl hK) ?_
  refine Keeps.ite ?_ ?_
  · refine Keeps.set_keeper (sub_of rfl hK) ?_
    exact h
  · exact h

theorem State.modPower_keeps {K : Nat} {s0 s : State} {f} (hK : 2199023255552 ||| K = K) (h : Keeps K s0 s) :
    Keeps K s0 (State.modPower s f) := by
  unfold State.modPower
  refine Keeps.set_power (sub_of rfl hK) ?_
  exact h

theorem State.startTrans_keeps {K : Nat} {s0 s : State} {d b due off} (hK : 2199023255552 ||| K = K) (h : Keeps K s0 s) :
    Keeps K s0 (State.startTrans s d b due off) := by
  unfold State.startTrans
  refine State.modPower_keeps (sub_of rfl hK) ?_
  exact h

theorem State.putNat_keeps {K : Nat} {s0 s : State} {id v} (hK : 532996 ||| K = K) (h : Keeps K s0 s) :
    Keeps K s0 (State.putNat s id v) := by
  unfold State.putNat
  refine State.putVal_keeps (sub_of rfl hK) ?_
  exact h

theorem State.powerMirror_keeps {K : Nat} {s0 s : State} (hK : 2 ||| K = K) (h : Keeps K s0 s) :
    Keeps K s0 (State.powerMirror s) := by
  unfold State.powerMirror
  refine State.setb_keeps (sub_of rfl hK) ?_
  refine State.forN_keeps ?_ ?_
  · exact h
  · intro s1 _ h2
    refine State.setf_keeps (sub_of rfl hK) ?_
    exact h2

theorem State.raiseStep_keeps {K : Nat} {s0 s : State} {ds t0} (hK : 2199023255552 ||| K = K) (h : Keeps K s0 s) :
    Keeps K s0 (State.raiseStep s ds t0).1 := by
  refine Keeps.foldlPair (fun p d hp => ?_) ds h
  exact State.startTrans_keeps (sub_of rfl hK) hp

theorem State.raise_keeps {K : Nat} {s0 s : State} {ds} (hK : 2203318222850 ||| K = K) (h : Keeps K s0 s) :
    Keeps K s0 (State.raise s ds) := by
  unfold State.raise
  refine State.powerMirror_keeps (sub_of rfl hK) (Keeps.foldlPair (fun p l hp => State.raiseStep_keeps (sub_of rfl hK) hp) _ ?_)
  exact State.each_keeps (State.modPower_keeps (sub_of rfl hK) h) (fun s1 d h1 => State.setDomain_keeps (sub_of rfl hK) h1)

theorem State.incBy_keeps {K : Nat} {s0 s : State} {a n} (hK : 2 ||| K = K) (h : Keeps K s0 s) :
    Keeps K s0 (State.incBy s a n) := by
  unfold State.incBy
  refine State.wr_keeps (sub_of rfl hK) ?_
  exact h

theorem State.inc_keeps {K : Nat} {s0 s : State} {a} (hK : 2 ||| K = K) (h : Keeps K s0 s) :
    Keeps K s0 (State.inc s a) := by
  unfold State.inc
  refine State.incBy_keeps (sub_of rfl hK) ?_
  exact h

theorem State.modeWake_keeps {K : Nat} {s0 s : State} (hK : 664068 ||| K = K) (h : Keeps K s0 s) :
    Keeps K s0 (State.modeWake s) := by
  unfold State.modeWake
  refine Keeps.ite ?_ ?_
  · refine Keeps.set_mode (sub_of rfl hK) ?_
    refine State.putNat_keeps (sub_of rfl hK) ?_
    exact h
  · exact h

theorem State.powerRecord_keeps {K : Nat} {s0 s : State} {unit dom kind} (hK : 664070 ||| K = K) (h : Keeps K s0 s) :
    Keeps K s0 (State.powerRecord s unit dom kind) := by
  unfold State.powerRecord
  refine Keeps.ite ?_ ?_
  · refine State.wr_keeps (sub_of rfl hK) ?_
    refine State.wr_keeps (sub_of rfl hK) ?_
    exact h
  · refine State.modeWake_keeps (sub_of rfl hK) ?_
    refine State.wr_keeps (sub_of rfl hK) ?_
    refine State.wr_keeps (sub_of rfl hK) ?_
    exact h

theorem State.modCore_keeps {K : Nat} {s0 s : State} {c f} (hK : 256 ||| K = K) (h : Keeps K s0 s) :
    Keeps K s0 (State.modCore s c f) := by
  unfold State.modCore
  refine Keeps.set_cores (sub_of rfl hK) ?_ (fun i => by first | exact i | rfl | simpa using i | (split <;> simpa using i))
  exact h

theorem State.leaveWfi_keeps {K : Nat} {s0 s : State} {t} (hK : 256 ||| K = K) (h : Keeps K s0 s) :
    Keeps K s0 (State.leaveWfi s t) := by
  unfold State.leaveWfi
  refine State.forN_keeps ?_ ?_
  · exact h
  · intro s1 _ h2
    refine State.modCore_keeps (sub_of rfl hK) ?_
    exact h2

theorem State.abortEntry_keeps {K : Nat} {s0 s : State} {unit t req} (hK : 2203318887174 ||| K = K) (h : Keeps K s0 s) :
    Keeps K s0 (State.abortEntry s unit t req) := by
  unfold State.abortEntry
  refine State.powerMirror_keeps (sub_of rfl hK) ?_
  refine Keeps.ite ?_ ?_
  · refine State.powerRecord_keeps (sub_of rfl hK) ?_
    refine State.setf_keeps (sub_of rfl hK) ?_
    refine State.each_keeps ?_ ?_
    · refine State.raise_keeps (sub_of rfl hK) ?_
      refine State.each_keeps ?_ ?_
      · refine State.modPower_keeps (sub_of rfl hK) ?_
        exact h
      · intro s1 _ h2
        refine Keeps.ite ?_ ?_
        · refine State.setDomain_keeps (sub_of rfl hK) ?_
          exact h2
        · exact h2
    · intro s3 _ h4
      refine State.inc_keeps (sub_of rfl hK) ?_
      exact h4
  · refine State.leaveWfi_keeps (sub_of rfl hK) ?_
    refine State.powerRecord_keeps (sub_of rfl hK) ?_
    refine State.setf_keeps (sub_of rfl hK) ?_
    refine State.each_keeps ?_ ?_
    · refine State.raise_keeps (sub_of rfl hK) ?_
      refine State.each_keeps ?_ ?_
      · refine State.modPower_keeps (sub_of rfl hK) ?_
        exact h
      · intro s5 _ h6
        refine Keeps.ite ?_ ?_
        · refine State.setDomain_keeps (sub_of rfl hK) ?_
          exact h6
        · exact h6
    · intro s7 _ h8
      refine State.inc_keeps (sub_of rfl hK) ?_
      exact h8

theorem State.wakeTeam_keeps {K : Nat} {s0 s : State} {unit t} (hK : 2203318887174 ||| K = K) (h : Keeps K s0 s) :
    Keeps K s0 (State.wakeTeam s unit t) := by
  unfold State.wakeTeam
  split
  · refine Keeps.ite ?_ ?_
    · refine State.abortEntry_keeps (sub_of rfl hK) ?_
      exact h
    · refine Keeps.ite ?_ ?_
      · refine State.raise_keeps (sub_of rfl hK) ?_
        refine State.abortEntry_keeps (sub_of rfl hK) ?_
        exact h
      · exact h
  · refine Keeps.ite ?_ ?_
    · exact h
    · refine State.powerRecord_keeps (sub_of rfl hK) ?_
      refine State.raise_keeps (sub_of rfl hK) ?_
      exact h

theorem State.irqDeliver_keeps {K : Nat} {s0 s : State} {t src unit} (hK : 2203318887174 ||| K = K) (h : Keeps K s0 s) :
    Keeps K s0 (State.irqDeliver s t src unit) := by
  unfold State.irqDeliver
  refine Keeps.ite ?_ ?_
  · exact h
  · refine Keeps.ite ?_ ?_
    · refine State.wakeTeam_keeps (sub_of rfl hK) ?_
      exact h
    · split
      · refine State.each_keeps ?_ ?_
        · exact h
        · intro s1 _ h2
          refine State.modCore_keeps (sub_of rfl hK) ?_
          exact h2
      · exact h

theorem State.irqBy_keeps {K : Nat} {s0 s : State} {src unit} (hK : 2203319149318 ||| K = K) (h : Keeps K s0 s) :
    Keeps K s0 (State.irqBy s src unit) := by
  unfold State.irqBy
  refine State.irqDeliver_keeps (sub_of rfl hK) ?_
  refine State.irqDeliver_keeps (sub_of rfl hK) ?_
  refine Keeps.set_irqPend (sub_of rfl hK) ?_ (fun i => by first | exact i | rfl | simpa using i | (split <;> simpa using i))
  exact h

theorem State.irq_keeps {K : Nat} {s0 s : State} {src} (hK : 2203319149318 ||| K = K) (h : Keeps K s0 s) :
    Keeps K s0 (State.irq s src) := by
  unfold State.irq
  refine State.irqBy_keeps (sub_of rfl hK) ?_
  exact h

theorem State.drawWord_keeps {K : Nat} {s0 s : State} (hK : 128 ||| K = K) (h : Keeps K s0 s) :
    Keeps K s0 (State.drawWord s).2 := by
  unfold State.drawWord
  refine Keeps.set_draws (sub_of rfl hK) ?_
  exact h

theorem State.freeTimes_keeps {K : Nat} {s0 s : State} {f} (hK : 128 ||| K = K) (h : Keeps K s0 s)
    (hf : ∀ t, Keeps K s0 t → Keeps K s0 (f t)) :
    Keeps K s0 (State.freeTimes s f) := by
  unfold State.freeTimes
  have h1 : Keeps K s0 s.drawWord.2 := State.drawWord_keeps (sub_of rfl hK) h
  dsimp only
  split
  · exact h1
  · exact hf _ h1
  · exact hf _ (hf _ h1)

theorem State.wrReg_keeps {K : Nat} {s0 s : State} {a v} (hK : 2 ||| K = K) (h : Keeps K s0 s) :
    Keeps K s0 (State.wrReg s a v) := by
  unfold State.wrReg
  split
  · refine State.wr_keeps (sub_of rfl hK) ?_
    exact h
  · exact h

theorem State.modPg_keeps {K : Nat} {s0 s : State} {g f} (hK : 16384 ||| K = K) (h : Keeps K s0 s) :
    Keeps K s0 (State.modPg s g f) := by
  unfold State.modPg
  refine Keeps.set_pg (sub_of rfl hK) ?_ (fun i => by first | exact i | rfl | simpa using i | (split <;> simpa using i))
  exact h

theorem State.wrMasked_keeps {K : Nat} {s0 s : State} {a m v} (hK : 2 ||| K = K) (h : Keeps K s0 s) :
    Keeps K s0 (State.wrMasked s a m v) := by
  unfold State.wrMasked
  split
  · refine State.wr_keeps (sub_of rfl hK) ?_
    exact h
  · exact h

theorem State.overBridge_keeps {K : Nat} {s0 s : State} {f} (hK : 128 ||| K = K) (h : Keeps K s0 s)
    (hf : ∀ t, Keeps K s0 t → Keeps K s0 (f t)) :
    Keeps K s0 (State.overBridge s f) := by
  exact Keeps.ite (hf s h) (State.freeTimes_keeps (sub_of rfl hK) h hf)

theorem State.codeSet_keeps {K : Nat} {s0 s : State} {a v} (hK : 64 ||| K = K) (h : Keeps K s0 s) :
    Keeps K s0 (State.codeSet s a v) := by
  unfold State.codeSet
  refine Keeps.set_codeNvm (sub_of rfl hK) ?_ (fun i => by first | exact sparseWf_set i _ _ | exact sparseWf_filter i _ | rfl | exact i)
  exact h

theorem State.sramSet_keeps {K : Nat} {s0 s : State} {a v} (hK : 16 ||| K = K) (h : Keeps K s0 s) :
    Keeps K s0 (State.sramSet s a v) := by
  unfold State.sramSet
  refine Keeps.set_sram (sub_of rfl hK) ?_ (fun i => by first | exact sparseWf_set i _ _ | exact sparseWf_filter i _ | rfl | exact i)
  exact h

theorem State.sramWrite_keeps {K : Nat} {s0 s : State} {at_} {k bs} (hK : 16 ||| K = K) (h : Keeps K s0 s) :
    Keeps K s0 (State.sramWrite s at_ k bs) := by
  induction bs generalizing s k with
  | nil => exact h
  | cons b bs ih => exact ih (State.sramSet_keeps (sub_of rfl hK) h)

theorem State.onTeam_keeps {K : Nat} {s0 s u : State} {t} (h : Keeps K s0 s) (hu : Keeps K s0 u) : Keeps K s0 (s.onTeam t u) :=
  Keeps.ite hu h

theorem State.accessFault_keeps {K : Nat} {s0 s : State} {c} (hK : 256 ||| K = K) (h : Keeps K s0 s) :
    Keeps K s0 (State.accessFault s c) := by
  unfold State.accessFault
  refine State.modCore_keeps (sub_of rfl hK) ?_
  exact h

theorem State.wrOnly_keeps {K : Nat} {s0 s : State} {a fs v} (hK : 2 ||| K = K) (h : Keeps K s0 s) :
    Keeps K s0 (State.wrOnly s a fs v) := by
  unfold State.wrOnly
  refine State.wrMasked_keeps (sub_of rfl hK) ?_
  exact h

theorem State.wrExcept_keeps {K : Nat} {s0 s : State} {a fs v} (hK : 2 ||| K = K) (h : Keeps K s0 s) :
    Keeps K s0 (State.wrExcept s a fs v) := by
  unfold State.wrExcept
  refine State.wrMasked_keeps (sub_of rfl hK) ?_
  exact h

theorem State.putInt_keeps {K : Nat} {s0 s : State} {id z} (hK : 532996 ||| K = K) (h : Keeps K s0 s) :
    Keeps K s0 (State.putInt s id z) := by
  unfold State.putInt
  refine State.putVal_keeps (sub_of rfl hK) ?_
  exact h

theorem State.drawBytes_keeps {K : Nat} {s0 s : State} {n} (hK : 128 ||| K = K) (h : Keeps K s0 s) :
    Keeps K s0 (State.drawBytes s n).2 := by
  unfold State.drawBytes
  refine Keeps.set_draws (sub_of rfl hK) ?_
  exact h

theorem State.nvmSet_keeps {K : Nat} {s0 s : State} {a v} (hK : 32 ||| K = K) (h : Keeps K s0 s) :
    Keeps K s0 (State.nvmSet s a v) := by
  unfold State.nvmSet
  refine Keeps.set_nvm (sub_of rfl hK) ?_ (fun i => by first | exact sparseWf_set i _ _ | exact sparseWf_filter i _ | rfl | exact i)
  exact h

theorem State.sourceOff_keeps {K : Nat} {s0 s : State} {cls scope} (hK : 1048576 ||| K = K) (h : Keeps K s0 s) :
    Keeps K s0 (State.sourceOff s cls scope) := by
  unfold State.sourceOff
  refine Keeps.set_mg (sub_of rfl hK) ?_ (fun i => by first | exact i | rfl | simpa using i | (split <;> simpa using i))
  exact h

theorem State.access_keeps {K : Nat} {s0 s : State} {core answers f} (hK : 384 ||| K = K) (h : Keeps K s0 s)
    (hf : ∀ t, Keeps K s0 t → Keeps K s0 (f t)) :
    Keeps K s0 (State.access s core answers f) := by
  exact Keeps.ite (State.overBridge_keeps (sub_of rfl hK) h hf) (State.accessFault_keeps (sub_of rfl hK) h)

theorem State.returns_keeps {K : Nat} {s0 s : State} {c v} (hK : 256 ||| K = K) (h : Keeps K s0 s) :
    Keeps K s0 (State.returns s c v) := by
  unfold State.returns
  refine State.modCore_keeps (sub_of rfl hK) ?_
  exact h

theorem State.setDesc_keeps {K : Nat} {s0 s : State} {id v} (hK : 8 ||| K = K) (h : Keeps K s0 s) :
    Keeps K s0 (State.setDesc s id v) := by
  unfold State.setDesc
  refine Keeps.set_descs (sub_of rfl hK) ?_ (fun i => by first | exact sparseWf_set i _ _ | exact sparseWf_filter i _ | rfl | exact i)
  exact h

theorem State.report_keeps {K : Nat} {s0 s : State} {cls scope rx} (hK : 1048576 ||| K = K) (h : Keeps K s0 s) :
    Keeps K s0 (State.report s cls scope rx) := by
  unfold State.report
  refine Keeps.set_mg (sub_of rfl hK) ?_ (fun i => by first | exact i | rfl | simpa using i | (split <;> simpa using i))
  exact h

theorem State.modAu_keeps {K : Nat} {s0 s : State} {u f} (hK : 1024 ||| K = K) (h : Keeps K s0 s) :
    Keeps K s0 (State.modAu s u f) := by
  unfold State.modAu
  refine Keeps.set_au (sub_of rfl hK) ?_ (fun i => by first | exact i | rfl | simpa using i | (split <;> simpa using i))
  exact h

theorem State.sourceOn_keeps {K : Nat} {s0 s : State} {cls scope} (hK : 1048576 ||| K = K) (h : Keeps K s0 s) :
    Keeps K s0 (State.sourceOn s cls scope) := by
  unfold State.sourceOn
  refine Keeps.ite ?_ ?_
  · exact h
  · refine Keeps.set_mg (sub_of rfl hK) ?_ (fun i => by first | exact i | rfl | simpa using i | (split <;> simpa using i))
    exact h

theorem State.putNow_keeps {K : Nat} {s0 s : State} {id v} (hK : 532996 ||| K = K) (h : Keeps K s0 s) :
    Keeps K s0 (State.putNow s id v) := by
  unfold State.putNow
  refine Keeps.ite ?_ ?_
  · refine State.latchWrite_keeps (sub_of rfl hK) ?_
    refine Keeps.set_paddock (sub_of rfl hK) ?_
    refine State.setSig_keeps (sub_of rfl hK) ?_
    exact h
  · exact h

theorem State.putQuality_keeps {K : Nat} {s0 s : State} {id quality} (hK : 4 ||| K = K) (h : Keeps K s0 s) :
    Keeps K s0 (State.putQuality s id quality) := by
  unfold State.putQuality
  refine State.setSig_keeps (sub_of rfl hK) ?_
  exact h

theorem State.byCore_keeps {K : Nat} {s0 s : State} {core d f} (hK : 384 ||| K = K) (h : Keeps K s0 s)
    (hf : ∀ t, Keeps K s0 t → Keeps K s0 (f t)) :
    Keeps K s0 (State.byCore s core d f) := by
  exact State.access_keeps (sub_of rfl hK) h hf

theorem State.dtbZero_keeps {K : Nat} {s0 s : State} (hK : 8796109799681 ||| K = K) (h : Keeps K s0 s) :
    Keeps K s0 (State.dtbZero s) := by
  exact Keeps.set_cores (sub_of rfl hK) (State.setDtb_keeps (sub_of rfl hK) h) (fun i => (List.length_map ..).trans i)

/-! ## LawOps -/

theorem State.setOwned_keeps {K : Nat} {s0 s : State} {e l b} (hK : 2 ||| K = K) (h : Keeps K s0 s) :
    Keeps K s0 (State.setOwned s e l b) := by
  unfold State.setOwned
  refine State.each_keeps ?_ ?_
  · exact h
  · intro s1 _ h2
    refine State.setb_keeps (sub_of rfl hK) ?_
    exact h2

theorem State.undoEnd_keeps {K : Nat} {s0 s : State} {e l} (hK : 8706 ||| K = K) (h : Keeps K s0 s) :
    Keeps K s0 (State.undoEnd s e l) := by
  unfold State.undoEnd
  split
  · exact h
  · refine Keeps.ite ?_ ?_
    · exact h
    · refine State.each_keeps ?_ ?_
      · refine State.modCe_keeps (sub_of rfl hK) ?_ (by intro c hc; first | exact hc | simpa using hc | (split <;> simpa using hc))
        refine Keeps.set_paddock (sub_of rfl hK) ?_
        refine State.modLaw_keeps (sub_of rfl hK) ?_
        refine State.modCe_keeps (sub_of rfl hK) ?_ (by intro c hc; first | exact hc | simpa using hc | (split <;> simpa using hc))
        exact h
      · intro s1 _ h2
        refine State.wr_keeps (sub_of rfl hK) ?_
        exact h2

theorem State.endSection_keeps {K : Nat} {s0 s : State} {e l} (hK : 8194 ||| K = K) (h : Keeps K s0 s) :
    Keeps K s0 (State.endSection s e l) := by
  unfold State.endSection
  refine State.setf_keeps (sub_of rfl hK) ?_
  refine State.setf_keeps (sub_of rfl hK) ?_
  refine State.setf_keeps (sub_of rfl hK) ?_
  refine State.modLaw_keeps (sub_of rfl hK) ?_
  exact h

theorem State.reinBack_keeps {K : Nat} {s0 s : State} {e l} (hK : 8194 ||| K = K) (h : Keeps K s0 s) :
    Keeps K s0 (State.reinBack s e l) := by
  unfold State.reinBack
  refine State.setf_keeps (sub_of rfl hK) ?_
  refine State.modLaw_keeps (sub_of rfl hK) ?_
  exact h

theorem State.setLast_keeps {K : Nat} {s0 s : State} {e l code} (hK : 2 ||| K = K) (h : Keeps K s0 s) :
    Keeps K s0 (State.setLast s e l code) := by
  unfold State.setLast
  refine State.setf_keeps (sub_of rfl hK) ?_
  exact h

theorem State.lawDisable_keeps {K : Nat} {s0 s : State} {e l} (hK : 8706 ||| K = K) (h : Keeps K s0 s) :
    Keeps K s0 (State.lawDisable s e l) := by
  unfold State.lawDisable
  refine Keeps.ite ?_ ?_
  · refine State.reinBack_keeps (sub_of rfl hK) ?_
    refine State.setLast_keeps (sub_of rfl hK) ?_
    refine State.setf_keeps (sub_of rfl hK) ?_
    refine State.setf_keeps (sub_of rfl hK) ?_
    refine State.modLaw_keeps (sub_of rfl hK) ?_
    refine State.endSection_keeps (sub_of rfl hK) ?_
    refine Keeps.ite ?_ ?_
    · refine State.setOwned_keeps (sub_of rfl hK) ?_
      refine State.undoEnd_keeps (sub_of rfl hK) ?_
      exact h
    · exact h
  · refine Keeps.ite ?_ ?_
    · refine State.setOwned_keeps (sub_of rfl hK) ?_
      refine State.undoEnd_keeps (sub_of rfl hK) ?_
      exact h
    · exact h

theorem State.engineStart_keeps {K : Nat} {s0 s : State} {e} (hK : 8194 ||| K = K) (h : Keeps K s0 s) :
    Keeps K s0 (State.engineStart s e) := by
  unfold State.engineStart
  refine Keeps.ite ?_ ?_
  · exact h
  · refine State.modCe_keeps (sub_of rfl hK) ?_ (by intro c hc; first | exact hc | simpa using hc | (split <;> simpa using hc))
    refine State.wr_keeps (sub_of rfl hK) ?_
    refine State.setf_keeps (sub_of rfl hK) ?_
    exact h

theorem State.miss_keeps {K : Nat} {s0 s : State} {e l cause t hold} (hK : 8194 ||| K = K) (h : Keeps K s0 s) :
    Keeps K s0 (State.miss s e l cause t hold) := by
  unfold State.miss
  refine Keeps.ite ?_ ?_
  · refine State.reinBack_keeps (sub_of rfl hK) ?_
    refine State.setLast_keeps (sub_of rfl hK) ?_
    refine State.setf_keeps (sub_of rfl hK) ?_
    refine State.inc_keeps (sub_of rfl hK) ?_
    refine Keeps.ite ?_ ?_
    · refine State.inc_keeps (sub_of rfl hK) ?_
      refine State.modLaw_keeps (sub_of rfl hK) ?_
      refine State.endSection_keeps (sub_of rfl hK) ?_
      exact h
    · refine State.modLaw_keeps (sub_of rfl hK) ?_
      refine State.endSection_keeps (sub_of rfl hK) ?_
      exact h
  · refine State.setLast_keeps (sub_of rfl hK) ?_
    refine State.setf_keeps (sub_of rfl hK) ?_
    refine State.inc_keeps (sub_of rfl hK) ?_
    refine Keeps.ite ?_ ?_
    · refine State.inc_keeps (sub_of rfl hK) ?_
      refine State.modLaw_keeps (sub_of rfl hK) ?_
      refine State.endSection_keeps (sub_of rfl hK) ?_
      exact h
    · refine State.modLaw_keeps (sub_of rfl hK) ?_
      refine State.endSection_keeps (sub_of rfl hK) ?_
      exact h

theorem State.lawFrame_keeps {K : Nat} {s0 s : State} {e f l} (hK : 8194 ||| K = K) (h : Keeps K s0 s) :
    Keeps K s0 (State.lawFrame s e f l) := by
  unfold State.lawFrame
  refine Keeps.ite ?_ ?_
  · refine State.modLaw_keeps (sub_of rfl hK) ?_
    refine Keeps.ite ?_ ?_
    · refine State.reinBack_keeps (sub_of rfl hK) ?_
      refine Keeps.ite ?_ ?_
      · refine State.endSection_keeps (sub_of rfl hK) ?_
        exact h
      · exact h
    · exact h
  · exact h

theorem State.frameStart_keeps {K : Nat} {s0 s : State} {e} (hK : 8194 ||| K = K) (h : Keeps K s0 s) :
    Keeps K s0 (State.frameStart s e) := by
  unfold State.frameStart
  refine Keeps.ite ?_ ?_
  · refine State.modCe_keeps (sub_of rfl hK) ?_ (by intro c hc; first | exact hc | simpa using hc | (split <;> simpa using hc))
    refine State.wr_keeps (sub_of rfl hK) ?_
    refine State.forN_keeps ?_ ?_
    · refine Keeps.ite ?_ ?_
      · refine State.setf_keeps (sub_of rfl hK) ?_
        refine State.inc_keeps (sub_of rfl hK) ?_
        exact h
      · exact h
    · intro s1 _ h2
      refine State.lawFrame_keeps (sub_of rfl hK) ?_
      exact h2
  · exact h

theorem State.frames_keeps {K : Nat} {s0 s : State} {kind idx} (hK : 8194 ||| K = K) (h : Keeps K s0 s) :
    Keeps K s0 (State.frames s kind idx) := by
  unfold State.frames
  refine State.forN_keeps ?_ ?_
  · exact h
  · intro s1 _ h2
    refine Keeps.ite ?_ ?_
    · refine State.frameStart_keeps (sub_of rfl hK) ?_
      exact h2
    · exact h2

theorem State.undoOutputs_keeps {K : Nat} {s0 s : State} {e l} (hK : 2 ||| K = K) (h : Keeps K s0 s) :
    Keeps K s0 (State.undoOutputs s e l) := by
  unfold State.undoOutputs
  refine Keeps.ite ?_ ?_
  · refine State.forN_keeps ?_ ?_
    · exact h
    · intro s1 _ h2
      split
      · exact h2
      · split
        · exact h2
        · refine Keeps.ite ?_ ?_
          · refine State.wr_keeps (sub_of rfl hK) ?_
            exact h2
          · exact h2
  · exact h

theorem State.lawTripStop_keeps {K : Nat} {s0 s : State} {e l} (hK : 8194 ||| K = K) (h : Keeps K s0 s) :
    Keeps K s0 (State.lawTripStop s e l) := by
  unfold State.lawTripStop
  refine Keeps.ite ?_ ?_
  · refine State.reinBack_keeps (sub_of rfl hK) ?_
    refine Keeps.ite ?_ ?_
    · refine State.endSection_keeps (sub_of rfl hK) ?_
      refine Keeps.ite ?_ ?_
      · refine State.modLaw_keeps (sub_of rfl hK) ?_
        refine State.modLaw_keeps (sub_of rfl hK) ?_
        refine Keeps.ite ?_ ?_
        · refine State.setLast_keeps (sub_of rfl hK) ?_
          refine Keeps.ite ?_ ?_
          · refine State.setf_keeps (sub_of rfl hK) ?_
            refine State.undoOutputs_keeps (sub_of rfl hK) ?_
            exact h
          · refine State.undoOutputs_keeps (sub_of rfl hK) ?_
            exact h
        · refine Keeps.ite ?_ ?_
          · refine State.setf_keeps (sub_of rfl hK) ?_
            refine State.undoOutputs_keeps (sub_of rfl hK) ?_
            exact h
          · refine State.undoOutputs_keeps (sub_of rfl hK) ?_
            exact h
      · refine State.modLaw_keeps (sub_of rfl hK) ?_
        refine Keeps.ite ?_ ?_
        · refine State.setLast_keeps (sub_of rfl hK) ?_
          refine Keeps.ite ?_ ?_
          · refine State.setf_keeps (sub_of rfl hK) ?_
            refine State.undoOutputs_keeps (sub_of rfl hK) ?_
            exact h
          · refine State.undoOutputs_keeps (sub_of rfl hK) ?_
            exact h
        · refine Keeps.ite ?_ ?_
          · refine State.setf_keeps (sub_of rfl hK) ?_
            refine State.undoOutputs_keeps (sub_of rfl hK) ?_
            exact h
          · refine State.undoOutputs_keeps (sub_of rfl hK) ?_
            exact h
    · refine Keeps.ite ?_ ?_
      · refine State.modLaw_keeps (sub_of rfl hK) ?_
        refine State.modLaw_keeps (sub_of rfl hK) ?_
        refine Keeps.ite ?_ ?_
        · refine State.setLast_keeps (sub_of rfl hK) ?_
          refine Keeps.ite ?_ ?_
          · refine State.setf_keeps (sub_of rfl hK) ?_
            refine State.undoOutputs_keeps (sub_of rfl hK) ?_
            exact h
          · refine State.undoOutputs_keeps (sub_of rfl hK) ?_
            exact h
        · refine Keeps.ite ?_ ?_
          · refine State.setf_keeps (sub_of rfl hK) ?_
            refine State.undoOutputs_keeps (sub_of rfl hK) ?_
            exact h
          · refine State.undoOutputs_keeps (sub_of rfl hK) ?_
            exact h
      · refine State.modLaw_keeps (sub_of rfl hK) ?_
        refine Keeps.ite ?_ ?_
        · refine State.setLast_keeps (sub_of rfl hK) ?_
          refine Keeps.ite ?_ ?_
          · refine State.setf_keeps (sub_of rfl hK) ?_
            refine State.undoOutputs_keeps (sub_of rfl hK) ?_
            exact h
          · refine State.undoOutputs_keeps (sub_of rfl hK) ?_
            exact h
        · refine Keeps.ite ?_ ?_
          · refine State.setf_keeps (sub_of rfl hK) ?_
            refine State.undoOutputs_keeps (sub_of rfl hK) ?_
            exact h
          · refine State.undoOutputs_keeps (sub_of rfl hK) ?_
            exact h
  · refine Keeps.ite ?_ ?_
    · refine State.endSection_keeps (sub_of rfl hK) ?_
      refine Keeps.ite ?_ ?_
      · refine State.modLaw_keeps (sub_of rfl hK) ?_
        refine State.modLaw_keeps (sub_of rfl hK) ?_
        refine Keeps.ite ?_ ?_
        · refine State.setLast_keeps (sub_of rfl hK) ?_
          refine Keeps.ite ?_ ?_
          · refine State.setf_keeps (sub_of rfl hK) ?_
            refine State.undoOutputs_keeps (sub_of rfl hK) ?_
            exact h
          · refine State.undoOutputs_keeps (sub_of rfl hK) ?_
            exact h
        · refine Keeps.ite ?_ ?_
          · refine State.setf_keeps (sub_of rfl hK) ?_
            refine State.undoOutputs_keeps (sub_of rfl hK) ?_
            exact h
          · refine State.undoOutputs_keeps (sub_of rfl hK) ?_
            exact h
      · refine State.modLaw_keeps (sub_of rfl hK) ?_
        refine Keeps.ite ?_ ?_
        · refine State.setLast_keeps (sub_of rfl hK) ?_
          refine Keeps.ite ?_ ?_
          · refine State.setf_keeps (sub_of rfl hK) ?_
            refine State.undoOutputs_keeps (sub_of rfl hK) ?_
            exact h
          · refine State.undoOutputs_keeps (sub_of rfl hK) ?_
            exact h
        · refine Keeps.ite ?_ ?_
          · refine State.setf_keeps (sub_of rfl hK) ?_
            refine State.undoOutputs_keeps (sub_of rfl hK) ?_
            exact h
          · refine State.undoOutputs_keeps (sub_of rfl hK) ?_
            exact h
    · refine Keeps.ite ?_ ?_
      · refine State.modLaw_keeps (sub_of rfl hK) ?_
        refine State.modLaw_keeps (sub_of rfl hK) ?_
        refine Keeps.ite ?_ ?_
        · refine State.setLast_keeps (sub_of rfl hK) ?_
          refine Keeps.ite ?_ ?_
          · refine State.setf_keeps (sub_of rfl hK) ?_
            refine State.undoOutputs_keeps (sub_of rfl hK) ?_
            exact h
          · refine State.undoOutputs_keeps (sub_of rfl hK) ?_
            exact h
        · refine Keeps.ite ?_ ?_
          · refine State.setf_keeps (sub_of rfl hK) ?_
            refine State.undoOutputs_keeps (sub_of rfl hK) ?_
            exact h
          · refine State.undoOutputs_keeps (sub_of rfl hK) ?_
            exact h
      · refine State.modLaw_keeps (sub_of rfl hK) ?_
        refine Keeps.ite ?_ ?_
        · refine State.setLast_keeps (sub_of rfl hK) ?_
          refine Keeps.ite ?_ ?_
          · refine State.setf_keeps (sub_of rfl hK) ?_
            refine State.undoOutputs_keeps (sub_of rfl hK) ?_
            exact h
          · refine State.undoOutputs_keeps (sub_of rfl hK) ?_
            exact h
        · refine Keeps.ite ?_ ?_
          · refine State.setf_keeps (sub_of rfl hK) ?_
            refine State.undoOutputs_keeps (sub_of rfl hK) ?_
            exact h
          · refine State.undoOutputs_keeps (sub_of rfl hK) ?_
            exact h

theorem State.lawsOnLine_keeps {K : Nat} {s0 s : State} {n gs} (hK : 8194 ||| K = K) (h : Keeps K s0 s) :
    Keeps K s0 (State.lawsOnLine s n gs) := by
  unfold State.lawsOnLine
  refine State.forN_keeps ?_ ?_
  · exact h
  · intro s1 _ h2
    refine State.forN_keeps ?_ ?_
    · exact h2
    · intro s3 _ h4
      refine Keeps.ite ?_ ?_
      · refine State.lawTripStop_keeps (sub_of rfl hK) ?_
        exact h4
      · exact h4

theorem State.acceptTrigger_keeps {K : Nat} {s0 s : State} {e l} (hK : 8192 ||| K = K) (h : Keeps K s0 s) :
    Keeps K s0 (State.acceptTrigger s e l) := by
  unfold State.acceptTrigger
  refine State.modLaw_keeps (sub_of rfl hK) ?_
  exact h

theorem State.startSection_keeps {K : Nat} {s0 s : State} {e l look pc t sel} (hK : 8194 ||| K = K) (h : Keeps K s0 s) :
    Keeps K s0 (State.startSection s e l look pc t sel) := by
  unfold State.startSection
  refine Keeps.ite ?_ ?_
  · refine State.setf_keeps (sub_of rfl hK) ?_
    refine State.setf_keeps (sub_of rfl hK) ?_
    refine State.modLaw_keeps (sub_of rfl hK) ?_
    refine State.modCe_keeps (sub_of rfl hK) ?_ (by intro c hc; first | exact hc | simpa using hc | (split <;> simpa using hc))
    exact h
  · refine State.setf_keeps (sub_of rfl hK) ?_
    refine State.modLaw_keeps (sub_of rfl hK) ?_
    refine State.modCe_keeps (sub_of rfl hK) ?_ (by intro c hc; first | exact hc | simpa using hc | (split <;> simpa using hc))
    exact h

theorem State.lawTrigger_keeps {K : Nat} {s0 s : State} {e l} (hK : 8194 ||| K = K) (h : Keeps K s0 s) :
    Keeps K s0 (State.lawTrigger s e l) := by
  unfold State.lawTrigger
  refine Keeps.ite ?_ ?_
  · refine Keeps.ite ?_ ?_
    · refine State.setf_keeps (sub_of rfl hK) ?_
      refine State.modLaw_keeps (sub_of rfl hK) ?_
      exact h
    · refine Keeps.ite ?_ ?_
      · refine State.inc_keeps (sub_of rfl hK) ?_
        exact h
      · refine Keeps.ite ?_ ?_
        · refine Keeps.ite ?_ ?_
          · refine State.startSection_keeps (sub_of rfl hK) ?_
            refine State.setf_keeps (sub_of rfl hK) ?_
            refine State.acceptTrigger_keeps (sub_of rfl hK) ?_
            exact h
          · refine State.inc_keeps (sub_of rfl hK) ?_
            refine State.miss_keeps (sub_of rfl hK) ?_
            refine State.acceptTrigger_keeps (sub_of rfl hK) ?_
            exact h
        · refine State.startSection_keeps (sub_of rfl hK) ?_
          refine State.acceptTrigger_keeps (sub_of rfl hK) ?_
          exact h
  · exact h

theorem State.lawSource_keeps {K : Nat} {s0 s : State} {kind idx} (hK : 8194 ||| K = K) (h : Keeps K s0 s) :
    Keeps K s0 (State.lawSource s kind idx) := by
  unfold State.lawSource
  refine State.forN_keeps ?_ ?_
  · exact h
  · intro s1 _ h2
    refine State.forN_keeps ?_ ?_
    · exact h2
    · intro s3 _ h4
      refine Keeps.ite ?_ ?_
      · refine State.lawTrigger_keeps (sub_of rfl hK) ?_
        exact h4
      · exact h4

theorem State.dSet_keeps {K : Nat} {s0 s : State} {e l sel k v tag} (hK : 8194 ||| K = K) (h : Keeps K s0 s) :
    Keeps K s0 (State.dSet s e l sel k v tag) := by
  unfold State.dSet
  have hc : ∀ c : CeSt, c.laws.length = 4 → (c.modFile l sel (fun b => b.write k (BitVec.ofInt 16 v) tag)).laws.length = 4 := by
    intro c hc
    cases sel <;> simpa [CeSt.modFile] using hc
  exact Keeps.ite (State.modLaw_keeps (sub_of rfl hK) (State.setb_keeps (sub_of rfl hK) (State.modCe_keeps (sub_of rfl hK) h hc))) (State.modCe_keeps (sub_of rfl hK) h hc)

theorem State.engineStop_keeps {K : Nat} {s0 s : State} {e} (hK : 8706 ||| K = K) (h : Keeps K s0 s) :
    Keeps K s0 (State.engineStop s e) := by
  unfold State.engineStop
  refine State.forN_keeps ?_ ?_
  · exact h
  · intro s1 _ h2
    refine State.lawDisable_keeps (sub_of rfl hK) ?_
    exact h2

/-! ## GenOps -/

theorem State.dischargeEnd_keeps {K : Nat} {s0 s : State} (hK : 524290 ||| K = K) (h : Keeps K s0 s) :
    Keeps K s0 (State.dischargeEnd s) := by
  unfold State.dischargeEnd
  refine Keeps.set_gate (sub_of rfl hK) ?_ (fun i => by first | exact i | rfl | simpa using i | (split <;> simpa using i))
  refine State.setf_keeps (sub_of rfl hK) ?_
  exact h

theorem State.loOff_keeps {K : Nat} {s0 s : State} {g t} (hK : 16384 ||| K = K) (h : Keeps K s0 s) :
    Keeps K s0 (State.loOff s g t) := by
  unfold State.loOff
  refine State.modPg_keeps (sub_of rfl hK) ?_
  exact h

theorem State.hiOff_keeps {K : Nat} {s0 s : State} {g t} (hK : 16384 ||| K = K) (h : Keeps K s0 s) :
    Keeps K s0 (State.hiOff s g t) := by
  unfold State.hiOff
  refine State.modPg_keeps (sub_of rfl hK) ?_
  exact h

theorem State.refreshTstate_keeps {K : Nat} {s0 s : State} {g} (hK : 2 ||| K = K) (h : Keeps K s0 s) :
    Keeps K s0 (State.refreshTstate s g) := by
  unfold State.refreshTstate
  refine Keeps.ite ?_ ?_
  · refine State.setf_keeps (sub_of rfl hK) ?_
    exact h
  · exact h

theorem State.lineInactive_keeps {K : Nat} {s0 s : State} {n} (hK : 2 ||| K = K) (h : Keeps K s0 s) :
    Keeps K s0 (State.lineInactive s n) := by
  unfold State.lineInactive
  refine State.forN_keeps ?_ ?_
  · refine State.setf_keeps (sub_of rfl hK) ?_
    exact h
  · intro s1 _ h2
    refine State.refreshTstate_keeps (sub_of rfl hK) ?_
    exact h2

theorem State.resolverFree_keeps {K : Nat} {s0 s : State} {g} (hK : 2 ||| K = K) (h : Keeps K s0 s) :
    Keeps K s0 (State.resolverFree s g) := by
  unfold State.resolverFree
  refine State.forN_keeps ?_ ?_
  · exact h
  · intro s1 _ h2
    refine Keeps.ite ?_ ?_
    · refine State.setf_keeps (sub_of rfl hK) ?_
      exact h2
    · exact h2

theorem State.bothOff_keeps {K : Nat} {s0 s : State} {g} (hK : 16384 ||| K = K) (h : Keeps K s0 s) :
    Keeps K s0 (State.bothOff s g) := by
  unfold State.bothOff
  refine State.modPg_keeps (sub_of rfl hK) ?_
  refine State.loOff_keeps (sub_of rfl hK) ?_
  refine State.hiOff_keeps (sub_of rfl hK) ?_
  exact h

theorem State.genStop_keeps {K : Nat} {s0 s : State} {g} (hK : 16386 ||| K = K) (h : Keeps K s0 s) :
    Keeps K s0 (State.genStop s g) := by
  unfold State.genStop
  refine Keeps.ite ?_ ?_
  · exact h
  · refine State.resolverFree_keeps (sub_of rfl hK) ?_
    refine State.modPg_keeps (sub_of rfl hK) ?_
    refine State.bothOff_keeps (sub_of rfl hK) ?_
    refine State.wr_keeps (sub_of rfl hK) ?_
    refine Keeps.ite ?_ ?_
    · refine State.setf_keeps (sub_of rfl hK) ?_
      refine State.setf_keeps (sub_of rfl hK) ?_
      refine State.setf_keeps (sub_of rfl hK) ?_
      refine State.setf_keeps (sub_of rfl hK) ?_
      exact h
    · refine State.setf_keeps (sub_of rfl hK) ?_
      refine State.setf_keeps (sub_of rfl hK) ?_
      refine State.setf_keeps (sub_of rfl hK) ?_
      exact h

theorem State.hiOn_keeps {K : Nat} {s0 s : State} {g t} (hK : 16384 ||| K = K) (h : Keeps K s0 s) :
    Keeps K s0 (State.hiOn s g t) := by
  unfold State.hiOn
  refine State.modPg_keeps (sub_of rfl hK) ?_
  exact h

theorem State.loOn_keeps {K : Nat} {s0 s : State} {g t} (hK : 16384 ||| K = K) (h : Keeps K s0 s) :
    Keeps K s0 (State.loOn s g t) := by
  unfold State.loOn
  refine State.modPg_keeps (sub_of rfl hK) ?_
  exact h

theorem State.applyPattern_keeps {K : Nat} {s0 s : State} {g t} (hK : 16384 ||| K = K) (h : Keeps K s0 s) :
    Keeps K s0 (State.applyPattern s g t) := by
  unfold State.applyPattern
  try dsimp only
  try dsimp only
  split
  · refine Keeps.ite ?_ ?_
    · refine State.hiOff_keeps (sub_of rfl hK) ?_
      refine State.modPg_keeps (sub_of rfl hK) ?_
      exact h
    · refine State.modPg_keeps (sub_of rfl hK) ?_
      refine State.hiOff_keeps (sub_of rfl hK) ?_
      refine State.modPg_keeps (sub_of rfl hK) ?_
      exact h
  · refine Keeps.ite ?_ ?_
    · refine State.loOff_keeps (sub_of rfl hK) ?_
      refine State.modPg_keeps (sub_of rfl hK) ?_
      exact h
    · refine Keeps.ite ?_ ?_
      · refine State.hiOn_keeps (sub_of rfl hK) ?_
        refine State.loOff_keeps (sub_of rfl hK) ?_
        refine State.modPg_keeps (sub_of rfl hK) ?_
        exact h
      · refine State.modPg_keeps (sub_of rfl hK) ?_
        refine State.loOff_keeps (sub_of rfl hK) ?_
        refine State.modPg_keeps (sub_of rfl hK) ?_
        exact h
  · refine State.loOff_keeps (sub_of rfl hK) ?_
    refine State.hiOff_keeps (sub_of rfl hK) ?_
    refine State.modPg_keeps (sub_of rfl hK) ?_
    exact h

theorem State.genTripAt_keeps {K : Nat} {s0 s : State} {g t} (hK : 2203319165702 ||| K = K) (h : Keeps K s0 s) :
    Keeps K s0 (State.genTripAt s g t) := by
  unfold State.genTripAt
  refine Keeps.ite ?_ ?_
  · refine State.setf_keeps (sub_of rfl hK) ?_
    exact h
  · refine Keeps.ite ?_ ?_
    · refine State.dischargeEnd_keeps (sub_of rfl hK) ?_
      refine State.irq_keeps (sub_of rfl hK) ?_
      refine State.applyPattern_keeps (sub_of rfl hK) ?_
      refine State.inc_keeps (sub_of rfl hK) ?_
      refine State.setf_keeps (sub_of rfl hK) ?_
      refine State.setf_keeps (sub_of rfl hK) ?_
      refine State.setf_keeps (sub_of rfl hK) ?_
      exact h
    · refine State.irq_keeps (sub_of rfl hK) ?_
      refine State.applyPattern_keeps (sub_of rfl hK) ?_
      refine State.inc_keeps (sub_of rfl hK) ?_
      refine State.setf_keeps (sub_of rfl hK) ?_
      refine State.setf_keeps (sub_of rfl hK) ?_
      refine State.setf_keeps (sub_of rfl hK) ?_
      exact h

theorem State.tripGens_keeps {K : Nat} {s0 s : State} {n gs d} (hK : 2203319165702 ||| K = K) (h : Keeps K s0 s) :
    Keeps K s0 (State.tripGens s n gs d) := by
  unfold State.tripGens
  refine State.each_keeps ?_ ?_
  · exact h
  · intro s1 _ h2
    refine Keeps.ite ?_ ?_
    · refine State.genTripAt_keeps (sub_of rfl hK) ?_
      exact h2
    · exact h2

theorem State.lineUp_keeps {K : Nat} {s0 s : State} {n gs d} (hK : 2203319165702 ||| K = K) (h : Keeps K s0 s) :
    Keeps K s0 (State.lineUp s n gs d) := by
  unfold State.lineUp
  refine State.lawsOnLine_keeps (sub_of rfl hK) ?_
  refine State.tripGens_keeps (sub_of rfl hK) ?_
  refine State.irq_keeps (sub_of rfl hK) ?_
  refine State.wr_keeps (sub_of rfl hK) ?_
  refine State.inc_keeps (sub_of rfl hK) ?_
  refine State.setf_keeps (sub_of rfl hK) ?_
  refine State.setf_keeps (sub_of rfl hK) ?_
  exact h

theorem State.lineActive_keeps {K : Nat} {s0 s : State} {n} (hK : 2203319165702 ||| K = K) (h : Keeps K s0 s) :
    Keeps K s0 (State.lineActive s n) := by
  unfold State.lineActive
  refine Keeps.ite ?_ ?_
  · exact h
  · refine State.lineUp_keeps (sub_of rfl hK) ?_
    exact h

theorem State.setPat_keeps {K : Nat} {s0 s : State} {g v} (hK : 16386 ||| K = K) (h : Keeps K s0 s) :
    Keeps K s0 (State.setPat s g v) := by
  unfold State.setPat
  refine Keeps.ite ?_ ?_
  · exact h
  · refine Keeps.ite ?_ ?_
    · refine State.applyPattern_keeps (sub_of rfl hK) ?_
      refine State.setf_keeps (sub_of rfl hK) ?_
      exact h
    · refine State.setf_keeps (sub_of rfl hK) ?_
      exact h

theorem State.genTrip_keeps {K : Nat} {s0 s : State} {g} (hK : 2203319165702 ||| K = K) (h : Keeps K s0 s) :
    Keeps K s0 (State.genTrip s g) := by
  unfold State.genTrip
  refine State.genTripAt_keeps (sub_of rfl hK) ?_
  exact h

end Sys2Proof.Machine
end

