-- ==== Sys2Proof/Laws/State.lean ====
section
/-! SUPPORT. One lemma per field per update of State: what each named update leaves as it was, and what it
writes. -/

namespace Sys2Proof.Machine

/-! `wr` -/
@[simp] theorem State.wr_dtb (s : State) {a v} : (s.wr a v).dtb = s.dtb := rfl
@[simp] theorem State.wr_variant (s : State) {a v} : (s.wr a v).variant = s.variant := rfl
@[simp] theorem State.wr_sigs (s : State) {a v} : (s.wr a v).sigs = s.sigs := rfl
@[simp] theorem State.wr_descs (s : State) {a v} : (s.wr a v).descs = s.descs := rfl
@[simp] theorem State.wr_sram (s : State) {a v} : (s.wr a v).sram = s.sram := rfl
@[simp] theorem State.wr_nvm (s : State) {a v} : (s.wr a v).nvm = s.nvm := rfl
@[simp] theorem State.wr_codeNvm (s : State) {a v} : (s.wr a v).codeNvm = s.codeNvm := rfl
@[simp] theorem State.wr_draws (s : State) {a v} : (s.wr a v).draws = s.draws := rfl
@[simp] theorem State.wr_cores (s : State) {a v} : (s.wr a v).cores = s.cores := rfl
@[simp] theorem State.wr_paddock (s : State) {a v} : (s.wr a v).paddock = s.paddock := rfl
@[simp] theorem State.wr_au (s : State) {a v} : (s.wr a v).au = s.au := rfl
@[simp] theorem State.wr_joins (s : State) {a v} : (s.wr a v).joins = s.joins := rfl
@[simp] theorem State.wr_tt (s : State) {a v} : (s.wr a v).tt = s.tt := rfl
@[simp] theorem State.wr_ce (s : State) {a v} : (s.wr a v).ce = s.ce := rfl
@[simp] theorem State.wr_pg (s : State) {a v} : (s.wr a v).pg = s.pg := rfl
@[simp] theorem State.wr_tripIn (s : State) {a v} : (s.wr a v).tripIn = s.tripIn := rfl
@[simp] theorem State.wr_yarrow (s : State) {a v} : (s.wr a v).yarrow = s.yarrow := rfl
@[simp] theorem State.wr_mode (s : State) {a v} : (s.wr a v).mode = s.mode := rfl
@[simp] theorem State.wr_irqPend (s : State) {a v} : (s.wr a v).irqPend = s.irqPend := rfl
@[simp] theorem State.wr_gate (s : State) {a v} : (s.wr a v).gate = s.gate := rfl
@[simp] theorem State.wr_mg (s : State) {a v} : (s.wr a v).mg = s.mg := rfl
@[simp] theorem State.wr_bus (s : State) {a v} : (s.wr a v).bus = s.bus := rfl
@[simp] theorem State.wr_bridle (s : State) {a v} : (s.wr a v).bridle = s.bridle := rfl
@[simp] theorem State.wr_sec (s : State) {a v} : (s.wr a v).sec = s.sec := rfl
@[simp] theorem State.wr_rtcBase (s : State) {a v} : (s.wr a v).rtcBase = s.rtcBase := rfl
@[simp] theorem State.wr_cycle (s : State) {a v} : (s.wr a v).cycle = s.cycle := rfl
@[simp] theorem State.wr_drives (s : State) {a v} : (s.wr a v).drives = s.drives := rfl
@[simp] theorem State.wr_inlet (s : State) {a v} : (s.wr a v).inlet = s.inlet := rfl
@[simp] theorem State.wr_charge (s : State) {a v} : (s.wr a v).charge = s.charge := rfl
@[simp] theorem State.wr_supply (s : State) {a v} : (s.wr a v).supply = s.supply := rfl
@[simp] theorem State.wr_solar (s : State) {a v} : (s.wr a v).solar = s.solar := rfl
@[simp] theorem State.wr_chs (s : State) {a v} : (s.wr a v).chs = s.chs := rfl
@[simp] theorem State.wr_lv (s : State) {a v} : (s.wr a v).lv = s.lv := rfl
@[simp] theorem State.wr_keeper (s : State) {a v} : (s.wr a v).keeper = s.keeper := rfl
@[simp] theorem State.wr_motors (s : State) {a v} : (s.wr a v).motors = s.motors := rfl
@[simp] theorem State.wr_shift (s : State) {a v} : (s.wr a v).shift = s.shift := rfl
@[simp] theorem State.wr_park (s : State) {a v} : (s.wr a v).park = s.park := rfl
@[simp] theorem State.wr_clutch (s : State) {a v} : (s.wr a v).clutch = s.clutch := rfl
@[simp] theorem State.wr_pump (s : State) {a v} : (s.wr a v).pump = s.pump := rfl
@[simp] theorem State.wr_harn (s : State) {a v} : (s.wr a v).harn = s.harn := rfl
@[simp] theorem State.wr_thermal (s : State) {a v} : (s.wr a v).thermal = s.thermal := rfl
@[simp] theorem State.wr_clk (s : State) {a v} : (s.wr a v).clk = s.clk := rfl
@[simp] theorem State.wr_power (s : State) {a v} : (s.wr a v).power = s.power := rfl
@[simp] theorem State.wr_boot (s : State) {a v} : (s.wr a v).boot = s.boot := rfl
@[simp] theorem State.wr_pending (s : State) {a v} : (s.wr a v).pending = s.pending := rfl
@[simp] theorem State.wr_sig (s : State) {a v} (x : Nat) : (s.wr a v).sig x = s.sig x := rfl
@[simp] theorem State.wr_desc (s : State) {a v} (x : Nat) : (s.wr a v).desc x = s.desc x := rfl
@[simp] theorem State.wr_sramGet (s : State) {a v} (x : Nat) : (s.wr a v).sramGet x = s.sramGet x := rfl
@[simp] theorem State.wr_nvmGet (s : State) {a v} (x : Nat) : (s.wr a v).nvmGet x = s.nvmGet x := rfl
@[simp] theorem State.wr_codeGet (s : State) {a v} (x : Nat) : (s.wr a v).codeGet x = s.codeGet x := rfl
@[simp] theorem State.wr_pgAt (s : State) {a v} (x : Nat) : (s.wr a v).pgAt x = s.pgAt x := rfl
@[simp] theorem State.wr_auAt (s : State) {a v} (x : Nat) : (s.wr a v).auAt x = s.auAt x := rfl
@[simp] theorem State.wr_ceAt (s : State) {a v} (x : Nat) : (s.wr a v).ceAt x = s.ceAt x := rfl
@[simp] theorem State.wr_coreAt (s : State) {a v} (x : Nat) : (s.wr a v).coreAt x = s.coreAt x := rfl

/-! `setf` -/
@[simp] theorem State.setf_dtb (s : State) {a f v} : (s.setf a f v).dtb = s.dtb := rfl
@[simp] theorem State.setf_variant (s : State) {a f v} : (s.setf a f v).variant = s.variant := rfl
@[simp] theorem State.setf_sigs (s : State) {a f v} : (s.setf a f v).sigs = s.sigs := rfl
@[simp] theorem State.setf_descs (s : State) {a f v} : (s.setf a f v).descs = s.descs := rfl
@[simp] theorem State.setf_sram (s : State) {a f v} : (s.setf a f v).sram = s.sram := rfl
@[simp] theorem State.setf_nvm (s : State) {a f v} : (s.setf a f v).nvm = s.nvm := rfl
@[simp] theorem State.setf_codeNvm (s : State) {a f v} : (s.setf a f v).codeNvm = s.codeNvm := rfl
@[simp] theorem State.setf_draws (s : State) {a f v} : (s.setf a f v).draws = s.draws := rfl
@[simp] theorem State.setf_cores (s : State) {a f v} : (s.setf a f v).cores = s.cores := rfl
@[simp] theorem State.setf_paddock (s : State) {a f v} : (s.setf a f v).paddock = s.paddock := rfl
@[simp] theorem State.setf_au (s : State) {a f v} : (s.setf a f v).au = s.au := rfl
@[simp] theorem State.setf_joins (s : State) {a f v} : (s.setf a f v).joins = s.joins := rfl
@[simp] theorem State.setf_tt (s : State) {a f v} : (s.setf a f v).tt = s.tt := rfl
@[simp] theorem State.setf_ce (s : State) {a f v} : (s.setf a f v).ce = s.ce := rfl
@[simp] theorem State.setf_pg (s : State) {a f v} : (s.setf a f v).pg = s.pg := rfl
@[simp] theorem State.setf_tripIn (s : State) {a f v} : (s.setf a f v).tripIn = s.tripIn := rfl
@[simp] theorem State.setf_yarrow (s : State) {a f v} : (s.setf a f v).yarrow = s.yarrow := rfl
@[simp] theorem State.setf_mode (s : State) {a f v} : (s.setf a f v).mode = s.mode := rfl
@[simp] theorem State.setf_irqPend (s : State) {a f v} : (s.setf a f v).irqPend = s.irqPend := rfl
@[simp] theorem State.setf_gate (s : State) {a f v} : (s.setf a f v).gate = s.gate := rfl
@[simp] theorem State.setf_mg (s : State) {a f v} : (s.setf a f v).mg = s.mg := rfl
@[simp] theorem State.setf_bus (s : State) {a f v} : (s.setf a f v).bus = s.bus := rfl
@[simp] theorem State.setf_bridle (s : State) {a f v} : (s.setf a f v).bridle = s.bridle := rfl
@[simp] theorem State.setf_sec (s : State) {a f v} : (s.setf a f v).sec = s.sec := rfl
@[simp] theorem State.setf_rtcBase (s : State) {a f v} : (s.setf a f v).rtcBase = s.rtcBase := rfl
@[simp] theorem State.setf_cycle (s : State) {a f v} : (s.setf a f v).cycle = s.cycle := rfl
@[simp] theorem State.setf_drives (s : State) {a f v} : (s.setf a f v).drives = s.drives := rfl
@[simp] theorem State.setf_inlet (s : State) {a f v} : (s.setf a f v).inlet = s.inlet := rfl
@[simp] theorem State.setf_charge (s : State) {a f v} : (s.setf a f v).charge = s.charge := rfl
@[simp] theorem State.setf_supply (s : State) {a f v} : (s.setf a f v).supply = s.supply := rfl
@[simp] theorem State.setf_solar (s : State) {a f v} : (s.setf a f v).solar = s.solar := rfl
@[simp] theorem State.setf_chs (s : State) {a f v} : (s.setf a f v).chs = s.chs := rfl
@[simp] theorem State.setf_lv (s : State) {a f v} : (s.setf a f v).lv = s.lv := rfl
@[simp] theorem State.setf_keeper (s : State) {a f v} : (s.setf a f v).keeper = s.keeper := rfl
@[simp] theorem State.setf_motors (s : State) {a f v} : (s.setf a f v).motors = s.motors := rfl
@[simp] theorem State.setf_shift (s : State) {a f v} : (s.setf a f v).shift = s.shift := rfl
@[simp] theorem State.setf_park (s : State) {a f v} : (s.setf a f v).park = s.park := rfl
@[simp] theorem State.setf_clutch (s : State) {a f v} : (s.setf a f v).clutch = s.clutch := rfl
@[simp] theorem State.setf_pump (s : State) {a f v} : (s.setf a f v).pump = s.pump := rfl
@[simp] theorem State.setf_harn (s : State) {a f v} : (s.setf a f v).harn = s.harn := rfl
@[simp] theorem State.setf_thermal (s : State) {a f v} : (s.setf a f v).thermal = s.thermal := rfl
@[simp] theorem State.setf_clk (s : State) {a f v} : (s.setf a f v).clk = s.clk := rfl
@[simp] theorem State.setf_power (s : State) {a f v} : (s.setf a f v).power = s.power := rfl
@[simp] theorem State.setf_boot (s : State) {a f v} : (s.setf a f v).boot = s.boot := rfl
@[simp] theorem State.setf_pending (s : State) {a f v} : (s.setf a f v).pending = s.pending := rfl
@[simp] theorem State.setf_sig (s : State) {a f v} (x : Nat) : (s.setf a f v).sig x = s.sig x := rfl
@[simp] theorem State.setf_desc (s : State) {a f v} (x : Nat) : (s.setf a f v).desc x = s.desc x := rfl
@[simp] theorem State.setf_sramGet (s : State) {a f v} (x : Nat) : (s.setf a f v).sramGet x = s.sramGet x := rfl
@[simp] theorem State.setf_nvmGet (s : State) {a f v} (x : Nat) : (s.setf a f v).nvmGet x = s.nvmGet x := rfl
@[simp] theorem State.setf_codeGet (s : State) {a f v} (x : Nat) : (s.setf a f v).codeGet x = s.codeGet x := rfl
@[simp] theorem State.setf_pgAt (s : State) {a f v} (x : Nat) : (s.setf a f v).pgAt x = s.pgAt x := rfl
@[simp] theorem State.setf_auAt (s : State) {a f v} (x : Nat) : (s.setf a f v).auAt x = s.auAt x := rfl
@[simp] theorem State.setf_ceAt (s : State) {a f v} (x : Nat) : (s.setf a f v).ceAt x = s.ceAt x := rfl
@[simp] theorem State.setf_coreAt (s : State) {a f v} (x : Nat) : (s.setf a f v).coreAt x = s.coreAt x := rfl

/-! `setb` -/
@[simp] theorem State.setb_dtb (s : State) {a f b} : (s.setb a f b).dtb = s.dtb := rfl
@[simp] theorem State.setb_variant (s : State) {a f b} : (s.setb a f b).variant = s.variant := rfl
@[simp] theorem State.setb_sigs (s : State) {a f b} : (s.setb a f b).sigs = s.sigs := rfl
@[simp] theorem State.setb_descs (s : State) {a f b} : (s.setb a f b).descs = s.descs := rfl
@[simp] theorem State.setb_sram (s : State) {a f b} : (s.setb a f b).sram = s.sram := rfl
@[simp] theorem State.setb_nvm (s : State) {a f b} : (s.setb a f b).nvm = s.nvm := rfl
@[simp] theorem State.setb_codeNvm (s : State) {a f b} : (s.setb a f b).codeNvm = s.codeNvm := rfl
@[simp] theorem State.setb_draws (s : State) {a f b} : (s.setb a f b).draws = s.draws := rfl
@[simp] theorem State.setb_cores (s : State) {a f b} : (s.setb a f b).cores = s.cores := rfl
@[simp] theorem State.setb_paddock (s : State) {a f b} : (s.setb a f b).paddock = s.paddock := rfl
@[simp] theorem State.setb_au (s : State) {a f b} : (s.setb a f b).au = s.au := rfl
@[simp] theorem State.setb_joins (s : State) {a f b} : (s.setb a f b).joins = s.joins := rfl
@[simp] theorem State.setb_tt (s : State) {a f b} : (s.setb a f b).tt = s.tt := rfl
@[simp] theorem State.setb_ce (s : State) {a f b} : (s.setb a f b).ce = s.ce := rfl
@[simp] theorem State.setb_pg (s : State) {a f b} : (s.setb a f b).pg = s.pg := rfl
@[simp] theorem State.setb_tripIn (s : State) {a f b} : (s.setb a f b).tripIn = s.tripIn := rfl
@[simp] theorem State.setb_yarrow (s : State) {a f b} : (s.setb a f b).yarrow = s.yarrow := rfl
@[simp] theorem State.setb_mode (s : State) {a f b} : (s.setb a f b).mode = s.mode := rfl
@[simp] theorem State.setb_irqPend (s : State) {a f b} : (s.setb a f b).irqPend = s.irqPend := rfl
@[simp] theorem State.setb_gate (s : State) {a f b} : (s.setb a f b).gate = s.gate := rfl
@[simp] theorem State.setb_mg (s : State) {a f b} : (s.setb a f b).mg = s.mg := rfl
@[simp] theorem State.setb_bus (s : State) {a f b} : (s.setb a f b).bus = s.bus := rfl
@[simp] theorem State.setb_bridle (s : State) {a f b} : (s.setb a f b).bridle = s.bridle := rfl
@[simp] theorem State.setb_sec (s : State) {a f b} : (s.setb a f b).sec = s.sec := rfl
@[simp] theorem State.setb_rtcBase (s : State) {a f b} : (s.setb a f b).rtcBase = s.rtcBase := rfl
@[simp] theorem State.setb_cycle (s : State) {a f b} : (s.setb a f b).cycle = s.cycle := rfl
@[simp] theorem State.setb_drives (s : State) {a f b} : (s.setb a f b).drives = s.drives := rfl
@[simp] theorem State.setb_inlet (s : State) {a f b} : (s.setb a f b).inlet = s.inlet := rfl
@[simp] theorem State.setb_charge (s : State) {a f b} : (s.setb a f b).charge = s.charge := rfl
@[simp] theorem State.setb_supply (s : State) {a f b} : (s.setb a f b).supply = s.supply := rfl
@[simp] theorem State.setb_solar (s : State) {a f b} : (s.setb a f b).solar = s.solar := rfl
@[simp] theorem State.setb_chs (s : State) {a f b} : (s.setb a f b).chs = s.chs := rfl
@[simp] theorem State.setb_lv (s : State) {a f b} : (s.setb a f b).lv = s.lv := rfl
@[simp] theorem State.setb_keeper (s : State) {a f b} : (s.setb a f b).keeper = s.keeper := rfl
@[simp] theorem State.setb_motors (s : State) {a f b} : (s.setb a f b).motors = s.motors := rfl
@[simp] theorem State.setb_shift (s : State) {a f b} : (s.setb a f b).shift = s.shift := rfl
@[simp] theorem State.setb_park (s : State) {a f b} : (s.setb a f b).park = s.park := rfl
@[simp] theorem State.setb_clutch (s : State) {a f b} : (s.setb a f b).clutch = s.clutch := rfl
@[simp] theorem State.setb_pump (s : State) {a f b} : (s.setb a f b).pump = s.pump := rfl
@[simp] theorem State.setb_harn (s : State) {a f b} : (s.setb a f b).harn = s.harn := rfl
@[simp] theorem State.setb_thermal (s : State) {a f b} : (s.setb a f b).thermal = s.thermal := rfl
@[simp] theorem State.setb_clk (s : State) {a f b} : (s.setb a f b).clk = s.clk := rfl
@[simp] theorem State.setb_power (s : State) {a f b} : (s.setb a f b).power = s.power := rfl
@[simp] theorem State.setb_boot (s : State) {a f b} : (s.setb a f b).boot = s.boot := rfl
@[simp] theorem State.setb_pending (s : State) {a f b} : (s.setb a f b).pending = s.pending := rfl
@[simp] theorem State.setb_sig (s : State) {a f b} (x : Nat) : (s.setb a f b).sig x = s.sig x := rfl
@[simp] theorem State.setb_desc (s : State) {a f b} (x : Nat) : (s.setb a f b).desc x = s.desc x := rfl
@[simp] theorem State.setb_sramGet (s : State) {a f b} (x : Nat) : (s.setb a f b).sramGet x = s.sramGet x := rfl
@[simp] theorem State.setb_nvmGet (s : State) {a f b} (x : Nat) : (s.setb a f b).nvmGet x = s.nvmGet x := rfl
@[simp] theorem State.setb_codeGet (s : State) {a f b} (x : Nat) : (s.setb a f b).codeGet x = s.codeGet x := rfl
@[simp] theorem State.setb_pgAt (s : State) {a f b} (x : Nat) : (s.setb a f b).pgAt x = s.pgAt x := rfl
@[simp] theorem State.setb_auAt (s : State) {a f b} (x : Nat) : (s.setb a f b).auAt x = s.auAt x := rfl
@[simp] theorem State.setb_ceAt (s : State) {a f b} (x : Nat) : (s.setb a f b).ceAt x = s.ceAt x := rfl
@[simp] theorem State.setb_coreAt (s : State) {a f b} (x : Nat) : (s.setb a f b).coreAt x = s.coreAt x := rfl

/-! `incBy` -/
@[simp] theorem State.incBy_dtb (s : State) {a n} : (s.incBy a n).dtb = s.dtb := rfl
@[simp] theorem State.incBy_variant (s : State) {a n} : (s.incBy a n).variant = s.variant := rfl
@[simp] theorem State.incBy_sigs (s : State) {a n} : (s.incBy a n).sigs = s.sigs := rfl
@[simp] theorem State.incBy_descs (s : State) {a n} : (s.incBy a n).descs = s.descs := rfl
@[simp] theorem State.incBy_sram (s : State) {a n} : (s.incBy a n).sram = s.sram := rfl
@[simp] theorem State.incBy_nvm (s : State) {a n} : (s.incBy a n).nvm = s.nvm := rfl
@[simp] theorem State.incBy_codeNvm (s : State) {a n} : (s.incBy a n).codeNvm = s.codeNvm := rfl
@[simp] theorem State.incBy_draws (s : State) {a n} : (s.incBy a n).draws = s.draws := rfl
@[simp] theorem State.incBy_cores (s : State) {a n} : (s.incBy a n).cores = s.cores := rfl
@[simp] theorem State.incBy_paddock (s : State) {a n} : (s.incBy a n).paddock = s.paddock := rfl
@[simp] theorem State.incBy_au (s : State) {a n} : (s.incBy a n).au = s.au := rfl
@[simp] theorem State.incBy_joins (s : State) {a n} : (s.incBy a n).joins = s.joins := rfl
@[simp] theorem State.incBy_tt (s : State) {a n} : (s.incBy a n).tt = s.tt := rfl
@[simp] theorem State.incBy_ce (s : State) {a n} : (s.incBy a n).ce = s.ce := rfl
@[simp] theorem State.incBy_pg (s : State) {a n} : (s.incBy a n).pg = s.pg := rfl
@[simp] theorem State.incBy_tripIn (s : State) {a n} : (s.incBy a n).tripIn = s.tripIn := rfl
@[simp] theorem State.incBy_yarrow (s : State) {a n} : (s.incBy a n).yarrow = s.yarrow := rfl
@[simp] theorem State.incBy_mode (s : State) {a n} : (s.incBy a n).mode = s.mode := rfl
@[simp] theorem State.incBy_irqPend (s : State) {a n} : (s.incBy a n).irqPend = s.irqPend := rfl
@[simp] theorem State.incBy_gate (s : State) {a n} : (s.incBy a n).gate = s.gate := rfl
@[simp] theorem State.incBy_mg (s : State) {a n} : (s.incBy a n).mg = s.mg := rfl
@[simp] theorem State.incBy_bus (s : State) {a n} : (s.incBy a n).bus = s.bus := rfl
@[simp] theorem State.incBy_bridle (s : State) {a n} : (s.incBy a n).bridle = s.bridle := rfl
@[simp] theorem State.incBy_sec (s : State) {a n} : (s.incBy a n).sec = s.sec := rfl
@[simp] theorem State.incBy_rtcBase (s : State) {a n} : (s.incBy a n).rtcBase = s.rtcBase := rfl
@[simp] theorem State.incBy_cycle (s : State) {a n} : (s.incBy a n).cycle = s.cycle := rfl
@[simp] theorem State.incBy_drives (s : State) {a n} : (s.incBy a n).drives = s.drives := rfl
@[simp] theorem State.incBy_inlet (s : State) {a n} : (s.incBy a n).inlet = s.inlet := rfl
@[simp] theorem State.incBy_charge (s : State) {a n} : (s.incBy a n).charge = s.charge := rfl
@[simp] theorem State.incBy_supply (s : State) {a n} : (s.incBy a n).supply = s.supply := rfl
@[simp] theorem State.incBy_solar (s : State) {a n} : (s.incBy a n).solar = s.solar := rfl
@[simp] theorem State.incBy_chs (s : State) {a n} : (s.incBy a n).chs = s.chs := rfl
@[simp] theorem State.incBy_lv (s : State) {a n} : (s.incBy a n).lv = s.lv := rfl
@[simp] theorem State.incBy_keeper (s : State) {a n} : (s.incBy a n).keeper = s.keeper := rfl
@[simp] theorem State.incBy_motors (s : State) {a n} : (s.incBy a n).motors = s.motors := rfl
@[simp] theorem State.incBy_shift (s : State) {a n} : (s.incBy a n).shift = s.shift := rfl
@[simp] theorem State.incBy_park (s : State) {a n} : (s.incBy a n).park = s.park := rfl
@[simp] theorem State.incBy_clutch (s : State) {a n} : (s.incBy a n).clutch = s.clutch := rfl
@[simp] theorem State.incBy_pump (s : State) {a n} : (s.incBy a n).pump = s.pump := rfl
@[simp] theorem State.incBy_harn (s : State) {a n} : (s.incBy a n).harn = s.harn := rfl
@[simp] theorem State.incBy_thermal (s : State) {a n} : (s.incBy a n).thermal = s.thermal := rfl
@[simp] theorem State.incBy_clk (s : State) {a n} : (s.incBy a n).clk = s.clk := rfl
@[simp] theorem State.incBy_power (s : State) {a n} : (s.incBy a n).power = s.power := rfl
@[simp] theorem State.incBy_boot (s : State) {a n} : (s.incBy a n).boot = s.boot := rfl
@[simp] theorem State.incBy_pending (s : State) {a n} : (s.incBy a n).pending = s.pending := rfl
@[simp] theorem State.incBy_sig (s : State) {a n} (x : Nat) : (s.incBy a n).sig x = s.sig x := rfl
@[simp] theorem State.incBy_desc (s : State) {a n} (x : Nat) : (s.incBy a n).desc x = s.desc x := rfl
@[simp] theorem State.incBy_sramGet (s : State) {a n} (x : Nat) : (s.incBy a n).sramGet x = s.sramGet x := rfl
@[simp] theorem State.incBy_nvmGet (s : State) {a n} (x : Nat) : (s.incBy a n).nvmGet x = s.nvmGet x := rfl
@[simp] theorem State.incBy_codeGet (s : State) {a n} (x : Nat) : (s.incBy a n).codeGet x = s.codeGet x := rfl
@[simp] theorem State.incBy_pgAt (s : State) {a n} (x : Nat) : (s.incBy a n).pgAt x = s.pgAt x := rfl
@[simp] theorem State.incBy_auAt (s : State) {a n} (x : Nat) : (s.incBy a n).auAt x = s.auAt x := rfl
@[simp] theorem State.incBy_ceAt (s : State) {a n} (x : Nat) : (s.incBy a n).ceAt x = s.ceAt x := rfl
@[simp] theorem State.incBy_coreAt (s : State) {a n} (x : Nat) : (s.incBy a n).coreAt x = s.coreAt x := rfl

/-! `inc` -/
@[simp] theorem State.inc_dtb (s : State) {a} : (s.inc a).dtb = s.dtb := rfl
@[simp] theorem State.inc_variant (s : State) {a} : (s.inc a).variant = s.variant := rfl
@[simp] theorem State.inc_sigs (s : State) {a} : (s.inc a).sigs = s.sigs := rfl
@[simp] theorem State.inc_descs (s : State) {a} : (s.inc a).descs = s.descs := rfl
@[simp] theorem State.inc_sram (s : State) {a} : (s.inc a).sram = s.sram := rfl
@[simp] theorem State.inc_nvm (s : State) {a} : (s.inc a).nvm = s.nvm := rfl
@[simp] theorem State.inc_codeNvm (s : State) {a} : (s.inc a).codeNvm = s.codeNvm := rfl
@[simp] theorem State.inc_draws (s : State) {a} : (s.inc a).draws = s.draws := rfl
@[simp] theorem State.inc_cores (s : State) {a} : (s.inc a).cores = s.cores := rfl
@[simp] theorem State.inc_paddock (s : State) {a} : (s.inc a).paddock = s.paddock := rfl
@[simp] theorem State.inc_au (s : State) {a} : (s.inc a).au = s.au := rfl
@[simp] theorem State.inc_joins (s : State) {a} : (s.inc a).joins = s.joins := rfl
@[simp] theorem State.inc_tt (s : State) {a} : (s.inc a).tt = s.tt := rfl
@[simp] theorem State.inc_ce (s : State) {a} : (s.inc a).ce = s.ce := rfl
@[simp] theorem State.inc_pg (s : State) {a} : (s.inc a).pg = s.pg := rfl
@[simp] theorem State.inc_tripIn (s : State) {a} : (s.inc a).tripIn = s.tripIn := rfl
@[simp] theorem State.inc_yarrow (s : State) {a} : (s.inc a).yarrow = s.yarrow := rfl
@[simp] theorem State.inc_mode (s : State) {a} : (s.inc a).mode = s.mode := rfl
@[simp] theorem State.inc_irqPend (s : State) {a} : (s.inc a).irqPend = s.irqPend := rfl
@[simp] theorem State.inc_gate (s : State) {a} : (s.inc a).gate = s.gate := rfl
@[simp] theorem State.inc_mg (s : State) {a} : (s.inc a).mg = s.mg := rfl
@[simp] theorem State.inc_bus (s : State) {a} : (s.inc a).bus = s.bus := rfl
@[simp] theorem State.inc_bridle (s : State) {a} : (s.inc a).bridle = s.bridle := rfl
@[simp] theorem State.inc_sec (s : State) {a} : (s.inc a).sec = s.sec := rfl
@[simp] theorem State.inc_rtcBase (s : State) {a} : (s.inc a).rtcBase = s.rtcBase := rfl
@[simp] theorem State.inc_cycle (s : State) {a} : (s.inc a).cycle = s.cycle := rfl
@[simp] theorem State.inc_drives (s : State) {a} : (s.inc a).drives = s.drives := rfl
@[simp] theorem State.inc_inlet (s : State) {a} : (s.inc a).inlet = s.inlet := rfl
@[simp] theorem State.inc_charge (s : State) {a} : (s.inc a).charge = s.charge := rfl
@[simp] theorem State.inc_supply (s : State) {a} : (s.inc a).supply = s.supply := rfl
@[simp] theorem State.inc_solar (s : State) {a} : (s.inc a).solar = s.solar := rfl
@[simp] theorem State.inc_chs (s : State) {a} : (s.inc a).chs = s.chs := rfl
@[simp] theorem State.inc_lv (s : State) {a} : (s.inc a).lv = s.lv := rfl
@[simp] theorem State.inc_keeper (s : State) {a} : (s.inc a).keeper = s.keeper := rfl
@[simp] theorem State.inc_motors (s : State) {a} : (s.inc a).motors = s.motors := rfl
@[simp] theorem State.inc_shift (s : State) {a} : (s.inc a).shift = s.shift := rfl
@[simp] theorem State.inc_park (s : State) {a} : (s.inc a).park = s.park := rfl
@[simp] theorem State.inc_clutch (s : State) {a} : (s.inc a).clutch = s.clutch := rfl
@[simp] theorem State.inc_pump (s : State) {a} : (s.inc a).pump = s.pump := rfl
@[simp] theorem State.inc_harn (s : State) {a} : (s.inc a).harn = s.harn := rfl
@[simp] theorem State.inc_thermal (s : State) {a} : (s.inc a).thermal = s.thermal := rfl
@[simp] theorem State.inc_clk (s : State) {a} : (s.inc a).clk = s.clk := rfl
@[simp] theorem State.inc_power (s : State) {a} : (s.inc a).power = s.power := rfl
@[simp] theorem State.inc_boot (s : State) {a} : (s.inc a).boot = s.boot := rfl
@[simp] theorem State.inc_pending (s : State) {a} : (s.inc a).pending = s.pending := rfl
@[simp] theorem State.inc_sig (s : State) {a} (x : Nat) : (s.inc a).sig x = s.sig x := rfl
@[simp] theorem State.inc_desc (s : State) {a} (x : Nat) : (s.inc a).desc x = s.desc x := rfl
@[simp] theorem State.inc_sramGet (s : State) {a} (x : Nat) : (s.inc a).sramGet x = s.sramGet x := rfl
@[simp] theorem State.inc_nvmGet (s : State) {a} (x : Nat) : (s.inc a).nvmGet x = s.nvmGet x := rfl
@[simp] theorem State.inc_codeGet (s : State) {a} (x : Nat) : (s.inc a).codeGet x = s.codeGet x := rfl
@[simp] theorem State.inc_pgAt (s : State) {a} (x : Nat) : (s.inc a).pgAt x = s.pgAt x := rfl
@[simp] theorem State.inc_auAt (s : State) {a} (x : Nat) : (s.inc a).auAt x = s.auAt x := rfl
@[simp] theorem State.inc_ceAt (s : State) {a} (x : Nat) : (s.inc a).ceAt x = s.ceAt x := rfl
@[simp] theorem State.inc_coreAt (s : State) {a} (x : Nat) : (s.inc a).coreAt x = s.coreAt x := rfl

/-! `setSig` -/
@[simp] theorem State.setSig_dtb (s : State) {id v} : (s.setSig id v).dtb = s.dtb := rfl
@[simp] theorem State.setSig_variant (s : State) {id v} : (s.setSig id v).variant = s.variant := rfl
@[simp] theorem State.setSig_regs (s : State) {id v} : (s.setSig id v).regs = s.regs := rfl
@[simp] theorem State.setSig_descs (s : State) {id v} : (s.setSig id v).descs = s.descs := rfl
@[simp] theorem State.setSig_sram (s : State) {id v} : (s.setSig id v).sram = s.sram := rfl
@[simp] theorem State.setSig_nvm (s : State) {id v} : (s.setSig id v).nvm = s.nvm := rfl
@[simp] theorem State.setSig_codeNvm (s : State) {id v} : (s.setSig id v).codeNvm = s.codeNvm := rfl
@[simp] theorem State.setSig_draws (s : State) {id v} : (s.setSig id v).draws = s.draws := rfl
@[simp] theorem State.setSig_cores (s : State) {id v} : (s.setSig id v).cores = s.cores := rfl
@[simp] theorem State.setSig_paddock (s : State) {id v} : (s.setSig id v).paddock = s.paddock := rfl
@[simp] theorem State.setSig_au (s : State) {id v} : (s.setSig id v).au = s.au := rfl
@[simp] theorem State.setSig_joins (s : State) {id v} : (s.setSig id v).joins = s.joins := rfl
@[simp] theorem State.setSig_tt (s : State) {id v} : (s.setSig id v).tt = s.tt := rfl
@[simp] theorem State.setSig_ce (s : State) {id v} : (s.setSig id v).ce = s.ce := rfl
@[simp] theorem State.setSig_pg (s : State) {id v} : (s.setSig id v).pg = s.pg := rfl
@[simp] theorem State.setSig_tripIn (s : State) {id v} : (s.setSig id v).tripIn = s.tripIn := rfl
@[simp] theorem State.setSig_yarrow (s : State) {id v} : (s.setSig id v).yarrow = s.yarrow := rfl
@[simp] theorem State.setSig_mode (s : State) {id v} : (s.setSig id v).mode = s.mode := rfl
@[simp] theorem State.setSig_irqPend (s : State) {id v} : (s.setSig id v).irqPend = s.irqPend := rfl
@[simp] theorem State.setSig_gate (s : State) {id v} : (s.setSig id v).gate = s.gate := rfl
@[simp] theorem State.setSig_mg (s : State) {id v} : (s.setSig id v).mg = s.mg := rfl
@[simp] theorem State.setSig_bus (s : State) {id v} : (s.setSig id v).bus = s.bus := rfl
@[simp] theorem State.setSig_bridle (s : State) {id v} : (s.setSig id v).bridle = s.bridle := rfl
@[simp] theorem State.setSig_sec (s : State) {id v} : (s.setSig id v).sec = s.sec := rfl
@[simp] theorem State.setSig_rtcBase (s : State) {id v} : (s.setSig id v).rtcBase = s.rtcBase := rfl
@[simp] theorem State.setSig_cycle (s : State) {id v} : (s.setSig id v).cycle = s.cycle := rfl
@[simp] theorem State.setSig_drives (s : State) {id v} : (s.setSig id v).drives = s.drives := rfl
@[simp] theorem State.setSig_inlet (s : State) {id v} : (s.setSig id v).inlet = s.inlet := rfl
@[simp] theorem State.setSig_charge (s : State) {id v} : (s.setSig id v).charge = s.charge := rfl
@[simp] theorem State.setSig_supply (s : State) {id v} : (s.setSig id v).supply = s.supply := rfl
@[simp] theorem State.setSig_solar (s : State) {id v} : (s.setSig id v).solar = s.solar := rfl
@[simp] theorem State.setSig_chs (s : State) {id v} : (s.setSig id v).chs = s.chs := rfl
@[simp] theorem State.setSig_lv (s : State) {id v} : (s.setSig id v).lv = s.lv := rfl
@[simp] theorem State.setSig_keeper (s : State) {id v} : (s.setSig id v).keeper = s.keeper := rfl
@[simp] theorem State.setSig_motors (s : State) {id v} : (s.setSig id v).motors = s.motors := rfl
@[simp] theorem State.setSig_shift (s : State) {id v} : (s.setSig id v).shift = s.shift := rfl
@[simp] theorem State.setSig_park (s : State) {id v} : (s.setSig id v).park = s.park := rfl
@[simp] theorem State.setSig_clutch (s : State) {id v} : (s.setSig id v).clutch = s.clutch := rfl
@[simp] theorem State.setSig_pump (s : State) {id v} : (s.setSig id v).pump = s.pump := rfl
@[simp] theorem State.setSig_harn (s : State) {id v} : (s.setSig id v).harn = s.harn := rfl
@[simp] theorem State.setSig_thermal (s : State) {id v} : (s.setSig id v).thermal = s.thermal := rfl
@[simp] theorem State.setSig_clk (s : State) {id v} : (s.setSig id v).clk = s.clk := rfl
@[simp] theorem State.setSig_power (s : State) {id v} : (s.setSig id v).power = s.power := rfl
@[simp] theorem State.setSig_boot (s : State) {id v} : (s.setSig id v).boot = s.boot := rfl
@[simp] theorem State.setSig_pending (s : State) {id v} : (s.setSig id v).pending = s.pending := rfl
@[simp] theorem State.setSig_rd (s : State) {id v} (x : Nat) : (s.setSig id v).rd x = s.rd x := rfl
@[simp] theorem State.setSig_desc (s : State) {id v} (x : Nat) : (s.setSig id v).desc x = s.desc x := rfl
@[simp] theorem State.setSig_sramGet (s : State) {id v} (x : Nat) : (s.setSig id v).sramGet x = s.sramGet x := rfl
@[simp] theorem State.setSig_nvmGet (s : State) {id v} (x : Nat) : (s.setSig id v).nvmGet x = s.nvmGet x := rfl
@[simp] theorem State.setSig_codeGet (s : State) {id v} (x : Nat) : (s.setSig id v).codeGet x = s.codeGet x := rfl
@[simp] theorem State.setSig_pgAt (s : State) {id v} (x : Nat) : (s.setSig id v).pgAt x = s.pgAt x := rfl
@[simp] theorem State.setSig_auAt (s : State) {id v} (x : Nat) : (s.setSig id v).auAt x = s.auAt x := rfl
@[simp] theorem State.setSig_ceAt (s : State) {id v} (x : Nat) : (s.setSig id v).ceAt x = s.ceAt x := rfl
@[simp] theorem State.setSig_coreAt (s : State) {id v} (x : Nat) : (s.setSig id v).coreAt x = s.coreAt x := rfl

/-! `setDesc` -/
@[simp] theorem State.setDesc_dtb (s : State) {id v} : (s.setDesc id v).dtb = s.dtb := rfl
@[simp] theorem State.setDesc_variant (s : State) {id v} : (s.setDesc id v).variant = s.variant := rfl
@[simp] theorem State.setDesc_regs (s : State) {id v} : (s.setDesc id v).regs = s.regs := rfl
@[simp] theorem State.setDesc_sigs (s : State) {id v} : (s.setDesc id v).sigs = s.sigs := rfl
@[simp] theorem State.setDesc_sram (s : State) {id v} : (s.setDesc id v).sram = s.sram := rfl
@[simp] theorem State.setDesc_nvm (s : State) {id v} : (s.setDesc id v).nvm = s.nvm := rfl
@[simp] theorem State.setDesc_codeNvm (s : State) {id v} : (s.setDesc id v).codeNvm = s.codeNvm := rfl
@[simp] theorem State.setDesc_draws (s : State) {id v} : (s.setDesc id v).draws = s.draws := rfl
@[simp] theorem State.setDesc_cores (s : State) {id v} : (s.setDesc id v).cores = s.cores := rfl
@[simp] theorem State.setDesc_paddock (s : State) {id v} : (s.setDesc id v).paddock = s.paddock := rfl
@[simp] theorem State.setDesc_au (s : State) {id v} : (s.setDesc id v).au = s.au := rfl
@[simp] theorem State.setDesc_joins (s : State) {id v} : (s.setDesc id v).joins = s.joins := rfl
@[simp] theorem State.setDesc_tt (s : State) {id v} : (s.setDesc id v).tt = s.tt := rfl
@[simp] theorem State.setDesc_ce (s : State) {id v} : (s.setDesc id v).ce = s.ce := rfl
@[simp] theorem State.setDesc_pg (s : State) {id v} : (s.setDesc id v).pg = s.pg := rfl
@[simp] theorem State.setDesc_tripIn (s : State) {id v} : (s.setDesc id v).tripIn = s.tripIn := rfl
@[simp] theorem State.setDesc_yarrow (s : State) {id v} : (s.setDesc id v).yarrow = s.yarrow := rfl
@[simp] theorem State.setDesc_mode (s : State) {id v} : (s.setDesc id v).mode = s.mode := rfl
@[simp] theorem State.setDesc_irqPend (s : State) {id v} : (s.setDesc id v).irqPend = s.irqPend := rfl
@[simp] theorem State.setDesc_gate (s : State) {id v} : (s.setDesc id v).gate = s.gate := rfl
@[simp] theorem State.setDesc_mg (s : State) {id v} : (s.setDesc id v).mg = s.mg := rfl
@[simp] theorem State.setDesc_bus (s : State) {id v} : (s.setDesc id v).bus = s.bus := rfl
@[simp] theorem State.setDesc_bridle (s : State) {id v} : (s.setDesc id v).bridle = s.bridle := rfl
@[simp] theorem State.setDesc_sec (s : State) {id v} : (s.setDesc id v).sec = s.sec := rfl
@[simp] theorem State.setDesc_rtcBase (s : State) {id v} : (s.setDesc id v).rtcBase = s.rtcBase := rfl
@[simp] theorem State.setDesc_cycle (s : State) {id v} : (s.setDesc id v).cycle = s.cycle := rfl
@[simp] theorem State.setDesc_drives (s : State) {id v} : (s.setDesc id v).drives = s.drives := rfl
@[simp] theorem State.setDesc_inlet (s : State) {id v} : (s.setDesc id v).inlet = s.inlet := rfl
@[simp] theorem State.setDesc_charge (s : State) {id v} : (s.setDesc id v).charge = s.charge := rfl
@[simp] theorem State.setDesc_supply (s : State) {id v} : (s.setDesc id v).supply = s.supply := rfl
@[simp] theorem State.setDesc_solar (s : State) {id v} : (s.setDesc id v).solar = s.solar := rfl
@[simp] theorem State.setDesc_chs (s : State) {id v} : (s.setDesc id v).chs = s.chs := rfl
@[simp] theorem State.setDesc_lv (s : State) {id v} : (s.setDesc id v).lv = s.lv := rfl
@[simp] theorem State.setDesc_keeper (s : State) {id v} : (s.setDesc id v).keeper = s.keeper := rfl
@[simp] theorem State.setDesc_motors (s : State) {id v} : (s.setDesc id v).motors = s.motors := rfl
@[simp] theorem State.setDesc_shift (s : State) {id v} : (s.setDesc id v).shift = s.shift := rfl
@[simp] theorem State.setDesc_park (s : State) {id v} : (s.setDesc id v).park = s.park := rfl
@[simp] theorem State.setDesc_clutch (s : State) {id v} : (s.setDesc id v).clutch = s.clutch := rfl
@[simp] theorem State.setDesc_pump (s : State) {id v} : (s.setDesc id v).pump = s.pump := rfl
@[simp] theorem State.setDesc_harn (s : State) {id v} : (s.setDesc id v).harn = s.harn := rfl
@[simp] theorem State.setDesc_thermal (s : State) {id v} : (s.setDesc id v).thermal = s.thermal := rfl
@[simp] theorem State.setDesc_clk (s : State) {id v} : (s.setDesc id v).clk = s.clk := rfl
@[simp] theorem State.setDesc_power (s : State) {id v} : (s.setDesc id v).power = s.power := rfl
@[simp] theorem State.setDesc_boot (s : State) {id v} : (s.setDesc id v).boot = s.boot := rfl
@[simp] theorem State.setDesc_pending (s : State) {id v} : (s.setDesc id v).pending = s.pending := rfl
@[simp] theorem State.setDesc_rd (s : State) {id v} (x : Nat) : (s.setDesc id v).rd x = s.rd x := rfl
@[simp] theorem State.setDesc_sig (s : State) {id v} (x : Nat) : (s.setDesc id v).sig x = s.sig x := rfl
@[simp] theorem State.setDesc_sramGet (s : State) {id v} (x : Nat) : (s.setDesc id v).sramGet x = s.sramGet x := rfl
@[simp] theorem State.setDesc_nvmGet (s : State) {id v} (x : Nat) : (s.setDesc id v).nvmGet x = s.nvmGet x := rfl
@[simp] theorem State.setDesc_codeGet (s : State) {id v} (x : Nat) : (s.setDesc id v).codeGet x = s.codeGet x := rfl
@[simp] theorem State.setDesc_pgAt (s : State) {id v} (x : Nat) : (s.setDesc id v).pgAt x = s.pgAt x := rfl
@[simp] theorem State.setDesc_auAt (s : State) {id v} (x : Nat) : (s.setDesc id v).auAt x = s.auAt x := rfl
@[simp] theorem State.setDesc_ceAt (s : State) {id v} (x : Nat) : (s.setDesc id v).ceAt x = s.ceAt x := rfl
@[simp] theorem State.setDesc_coreAt (s : State) {id v} (x : Nat) : (s.setDesc id v).coreAt x = s.coreAt x := rfl

/-! `sramSet` -/
@[simp] theorem State.sramSet_dtb (s : State) {a v} : (s.sramSet a v).dtb = s.dtb := rfl
@[simp] theorem State.sramSet_variant (s : State) {a v} : (s.sramSet a v).variant = s.variant := rfl
@[simp] theorem State.sramSet_regs (s : State) {a v} : (s.sramSet a v).regs = s.regs := rfl
@[simp] theorem State.sramSet_sigs (s : State) {a v} : (s.sramSet a v).sigs = s.sigs := rfl
@[simp] theorem State.sramSet_descs (s : State) {a v} : (s.sramSet a v).descs = s.descs := rfl
@[simp] theorem State.sramSet_nvm (s : State) {a v} : (s.sramSet a v).nvm = s.nvm := rfl
@[simp] theorem State.sramSet_codeNvm (s : State) {a v} : (s.sramSet a v).codeNvm = s.codeNvm := rfl
@[simp] theorem State.sramSet_draws (s : State) {a v} : (s.sramSet a v).draws = s.draws := rfl
@[simp] theorem State.sramSet_cores (s : State) {a v} : (s.sramSet a v).cores = s.cores := rfl
@[simp] theorem State.sramSet_paddock (s : State) {a v} : (s.sramSet a v).paddock = s.paddock := rfl
@[simp] theorem State.sramSet_au (s : State) {a v} : (s.sramSet a v).au = s.au := rfl
@[simp] theorem State.sramSet_joins (s : State) {a v} : (s.sramSet a v).joins = s.joins := rfl
@[simp] theorem State.sramSet_tt (s : State) {a v} : (s.sramSet a v).tt = s.tt := rfl
@[simp] theorem State.sramSet_ce (s : State) {a v} : (s.sramSet a v).ce = s.ce := rfl
@[simp] theorem State.sramSet_pg (s : State) {a v} : (s.sramSet a v).pg = s.pg := rfl
@[simp] theorem State.sramSet_tripIn (s : State) {a v} : (s.sramSet a v).tripIn = s.tripIn := rfl
@[simp] theorem State.sramSet_yarrow (s : State) {a v} : (s.sramSet a v).yarrow = s.yarrow := rfl
@[simp] theorem State.sramSet_mode (s : State) {a v} : (s.sramSet a v).mode = s.mode := rfl
@[simp] theorem State.sramSet_irqPend (s : State) {a v} : (s.sramSet a v).irqPend = s.irqPend := rfl
@[simp] theorem State.sramSet_gate (s : State) {a v} : (s.sramSet a v).gate = s.gate := rfl
@[simp] theorem State.sramSet_mg (s : State) {a v} : (s.sramSet a v).mg = s.mg := rfl
@[simp] theorem State.sramSet_bus (s : State) {a v} : (s.sramSet a v).bus = s.bus := rfl
@[simp] theorem State.sramSet_bridle (s : State) {a v} : (s.sramSet a v).bridle = s.bridle := rfl
@[simp] theorem State.sramSet_sec (s : State) {a v} : (s.sramSet a v).sec = s.sec := rfl
@[simp] theorem State.sramSet_rtcBase (s : State) {a v} : (s.sramSet a v).rtcBase = s.rtcBase := rfl
@[simp] theorem State.sramSet_cycle (s : State) {a v} : (s.sramSet a v).cycle = s.cycle := rfl
@[simp] theorem State.sramSet_drives (s : State) {a v} : (s.sramSet a v).drives = s.drives := rfl
@[simp] theorem State.sramSet_inlet (s : State) {a v} : (s.sramSet a v).inlet = s.inlet := rfl
@[simp] theorem State.sramSet_charge (s : State) {a v} : (s.sramSet a v).charge = s.charge := rfl
@[simp] theorem State.sramSet_supply (s : State) {a v} : (s.sramSet a v).supply = s.supply := rfl
@[simp] theorem State.sramSet_solar (s : State) {a v} : (s.sramSet a v).solar = s.solar := rfl
@[simp] theorem State.sramSet_chs (s : State) {a v} : (s.sramSet a v).chs = s.chs := rfl
@[simp] theorem State.sramSet_lv (s : State) {a v} : (s.sramSet a v).lv = s.lv := rfl
@[simp] theorem State.sramSet_keeper (s : State) {a v} : (s.sramSet a v).keeper = s.keeper := rfl
@[simp] theorem State.sramSet_motors (s : State) {a v} : (s.sramSet a v).motors = s.motors := rfl
@[simp] theorem State.sramSet_shift (s : State) {a v} : (s.sramSet a v).shift = s.shift := rfl
@[simp] theorem State.sramSet_park (s : State) {a v} : (s.sramSet a v).park = s.park := rfl
@[simp] theorem State.sramSet_clutch (s : State) {a v} : (s.sramSet a v).clutch = s.clutch := rfl
@[simp] theorem State.sramSet_pump (s : State) {a v} : (s.sramSet a v).pump = s.pump := rfl
@[simp] theorem State.sramSet_harn (s : State) {a v} : (s.sramSet a v).harn = s.harn := rfl
@[simp] theorem State.sramSet_thermal (s : State) {a v} : (s.sramSet a v).thermal = s.thermal := rfl
@[simp] theorem State.sramSet_clk (s : State) {a v} : (s.sramSet a v).clk = s.clk := rfl
@[simp] theorem State.sramSet_power (s : State) {a v} : (s.sramSet a v).power = s.power := rfl
@[simp] theorem State.sramSet_boot (s : State) {a v} : (s.sramSet a v).boot = s.boot := rfl
@[simp] theorem State.sramSet_pending (s : State) {a v} : (s.sramSet a v).pending = s.pending := rfl
@[simp] theorem State.sramSet_rd (s : State) {a v} (x : Nat) : (s.sramSet a v).rd x = s.rd x := rfl
@[simp] theorem State.sramSet_sig (s : State) {a v} (x : Nat) : (s.sramSet a v).sig x = s.sig x := rfl
@[simp] theorem State.sramSet_desc (s : State) {a v} (x : Nat) : (s.sramSet a v).desc x = s.desc x := rfl
@[simp] theorem State.sramSet_nvmGet (s : State) {a v} (x : Nat) : (s.sramSet a v).nvmGet x = s.nvmGet x := rfl
@[simp] theorem State.sramSet_codeGet (s : State) {a v} (x : Nat) : (s.sramSet a v).codeGet x = s.codeGet x := rfl
@[simp] theorem State.sramSet_pgAt (s : State) {a v} (x : Nat) : (s.sramSet a v).pgAt x = s.pgAt x := rfl
@[simp] theorem State.sramSet_auAt (s : State) {a v} (x : Nat) : (s.sramSet a v).auAt x = s.auAt x := rfl
@[simp] theorem State.sramSet_ceAt (s : State) {a v} (x : Nat) : (s.sramSet a v).ceAt x = s.ceAt x := rfl
@[simp] theorem State.sramSet_coreAt (s : State) {a v} (x : Nat) : (s.sramSet a v).coreAt x = s.coreAt x := rfl

/-! `nvmSet` -/
@[simp] theorem State.nvmSet_dtb (s : State) {a v} : (s.nvmSet a v).dtb = s.dtb := rfl
@[simp] theorem State.nvmSet_variant (s : State) {a v} : (s.nvmSet a v).variant = s.variant := rfl
@[simp] theorem State.nvmSet_regs (s : State) {a v} : (s.nvmSet a v).regs = s.regs := rfl
@[simp] theorem State.nvmSet_sigs (s : State) {a v} : (s.nvmSet a v).sigs = s.sigs := rfl
@[simp] theorem State.nvmSet_descs (s : State) {a v} : (s.nvmSet a v).descs = s.descs := rfl
@[simp] theorem State.nvmSet_sram (s : State) {a v} : (s.nvmSet a v).sram = s.sram := rfl
@[simp] theorem State.nvmSet_codeNvm (s : State) {a v} : (s.nvmSet a v).codeNvm = s.codeNvm := rfl
@[simp] theorem State.nvmSet_draws (s : State) {a v} : (s.nvmSet a v).draws = s.draws := rfl
@[simp] theorem State.nvmSet_cores (s : State) {a v} : (s.nvmSet a v).cores = s.cores := rfl
@[simp] theorem State.nvmSet_paddock (s : State) {a v} : (s.nvmSet a v).paddock = s.paddock := rfl
@[simp] theorem State.nvmSet_au (s : State) {a v} : (s.nvmSet a v).au = s.au := rfl
@[simp] theorem State.nvmSet_joins (s : State) {a v} : (s.nvmSet a v).joins = s.joins := rfl
@[simp] theorem State.nvmSet_tt (s : State) {a v} : (s.nvmSet a v).tt = s.tt := rfl
@[simp] theorem State.nvmSet_ce (s : State) {a v} : (s.nvmSet a v).ce = s.ce := rfl
@[simp] theorem State.nvmSet_pg (s : State) {a v} : (s.nvmSet a v).pg = s.pg := rfl
@[simp] theorem State.nvmSet_tripIn (s : State) {a v} : (s.nvmSet a v).tripIn = s.tripIn := rfl
@[simp] theorem State.nvmSet_yarrow (s : State) {a v} : (s.nvmSet a v).yarrow = s.yarrow := rfl
@[simp] theorem State.nvmSet_mode (s : State) {a v} : (s.nvmSet a v).mode = s.mode := rfl
@[simp] theorem State.nvmSet_irqPend (s : State) {a v} : (s.nvmSet a v).irqPend = s.irqPend := rfl
@[simp] theorem State.nvmSet_gate (s : State) {a v} : (s.nvmSet a v).gate = s.gate := rfl
@[simp] theorem State.nvmSet_mg (s : State) {a v} : (s.nvmSet a v).mg = s.mg := rfl
@[simp] theorem State.nvmSet_bus (s : State) {a v} : (s.nvmSet a v).bus = s.bus := rfl
@[simp] theorem State.nvmSet_bridle (s : State) {a v} : (s.nvmSet a v).bridle = s.bridle := rfl
@[simp] theorem State.nvmSet_sec (s : State) {a v} : (s.nvmSet a v).sec = s.sec := rfl
@[simp] theorem State.nvmSet_rtcBase (s : State) {a v} : (s.nvmSet a v).rtcBase = s.rtcBase := rfl
@[simp] theorem State.nvmSet_cycle (s : State) {a v} : (s.nvmSet a v).cycle = s.cycle := rfl
@[simp] theorem State.nvmSet_drives (s : State) {a v} : (s.nvmSet a v).drives = s.drives := rfl
@[simp] theorem State.nvmSet_inlet (s : State) {a v} : (s.nvmSet a v).inlet = s.inlet := rfl
@[simp] theorem State.nvmSet_charge (s : State) {a v} : (s.nvmSet a v).charge = s.charge := rfl
@[simp] theorem State.nvmSet_supply (s : State) {a v} : (s.nvmSet a v).supply = s.supply := rfl
@[simp] theorem State.nvmSet_solar (s : State) {a v} : (s.nvmSet a v).solar = s.solar := rfl
@[simp] theorem State.nvmSet_chs (s : State) {a v} : (s.nvmSet a v).chs = s.chs := rfl
@[simp] theorem State.nvmSet_lv (s : State) {a v} : (s.nvmSet a v).lv = s.lv := rfl
@[simp] theorem State.nvmSet_keeper (s : State) {a v} : (s.nvmSet a v).keeper = s.keeper := rfl
@[simp] theorem State.nvmSet_motors (s : State) {a v} : (s.nvmSet a v).motors = s.motors := rfl
@[simp] theorem State.nvmSet_shift (s : State) {a v} : (s.nvmSet a v).shift = s.shift := rfl
@[simp] theorem State.nvmSet_park (s : State) {a v} : (s.nvmSet a v).park = s.park := rfl
@[simp] theorem State.nvmSet_clutch (s : State) {a v} : (s.nvmSet a v).clutch = s.clutch := rfl
@[simp] theorem State.nvmSet_pump (s : State) {a v} : (s.nvmSet a v).pump = s.pump := rfl
@[simp] theorem State.nvmSet_harn (s : State) {a v} : (s.nvmSet a v).harn = s.harn := rfl
@[simp] theorem State.nvmSet_thermal (s : State) {a v} : (s.nvmSet a v).thermal = s.thermal := rfl
@[simp] theorem State.nvmSet_clk (s : State) {a v} : (s.nvmSet a v).clk = s.clk := rfl
@[simp] theorem State.nvmSet_power (s : State) {a v} : (s.nvmSet a v).power = s.power := rfl
@[simp] theorem State.nvmSet_boot (s : State) {a v} : (s.nvmSet a v).boot = s.boot := rfl
@[simp] theorem State.nvmSet_pending (s : State) {a v} : (s.nvmSet a v).pending = s.pending := rfl
@[simp] theorem State.nvmSet_rd (s : State) {a v} (x : Nat) : (s.nvmSet a v).rd x = s.rd x := rfl
@[simp] theorem State.nvmSet_sig (s : State) {a v} (x : Nat) : (s.nvmSet a v).sig x = s.sig x := rfl
@[simp] theorem State.nvmSet_desc (s : State) {a v} (x : Nat) : (s.nvmSet a v).desc x = s.desc x := rfl
@[simp] theorem State.nvmSet_sramGet (s : State) {a v} (x : Nat) : (s.nvmSet a v).sramGet x = s.sramGet x := rfl
@[simp] theorem State.nvmSet_codeGet (s : State) {a v} (x : Nat) : (s.nvmSet a v).codeGet x = s.codeGet x := rfl
@[simp] theorem State.nvmSet_pgAt (s : State) {a v} (x : Nat) : (s.nvmSet a v).pgAt x = s.pgAt x := rfl
@[simp] theorem State.nvmSet_auAt (s : State) {a v} (x : Nat) : (s.nvmSet a v).auAt x = s.auAt x := rfl
@[simp] theorem State.nvmSet_ceAt (s : State) {a v} (x : Nat) : (s.nvmSet a v).ceAt x = s.ceAt x := rfl
@[simp] theorem State.nvmSet_coreAt (s : State) {a v} (x : Nat) : (s.nvmSet a v).coreAt x = s.coreAt x := rfl

/-! `codeSet` -/
@[simp] theorem State.codeSet_dtb (s : State) {a v} : (s.codeSet a v).dtb = s.dtb := rfl
@[simp] theorem State.codeSet_variant (s : State) {a v} : (s.codeSet a v).variant = s.variant := rfl
@[simp] theorem State.codeSet_regs (s : State) {a v} : (s.codeSet a v).regs = s.regs := rfl
@[simp] theorem State.codeSet_sigs (s : State) {a v} : (s.codeSet a v).sigs = s.sigs := rfl
@[simp] theorem State.codeSet_descs (s : State) {a v} : (s.codeSet a v).descs = s.descs := rfl
@[simp] theorem State.codeSet_sram (s : State) {a v} : (s.codeSet a v).sram = s.sram := rfl
@[simp] theorem State.codeSet_nvm (s : State) {a v} : (s.codeSet a v).nvm = s.nvm := rfl
@[simp] theorem State.codeSet_draws (s : State) {a v} : (s.codeSet a v).draws = s.draws := rfl
@[simp] theorem State.codeSet_cores (s : State) {a v} : (s.codeSet a v).cores = s.cores := rfl
@[simp] theorem State.codeSet_paddock (s : State) {a v} : (s.codeSet a v).paddock = s.paddock := rfl
@[simp] theorem State.codeSet_au (s : State) {a v} : (s.codeSet a v).au = s.au := rfl
@[simp] theorem State.codeSet_joins (s : State) {a v} : (s.codeSet a v).joins = s.joins := rfl
@[simp] theorem State.codeSet_tt (s : State) {a v} : (s.codeSet a v).tt = s.tt := rfl
@[simp] theorem State.codeSet_ce (s : State) {a v} : (s.codeSet a v).ce = s.ce := rfl
@[simp] theorem State.codeSet_pg (s : State) {a v} : (s.codeSet a v).pg = s.pg := rfl
@[simp] theorem State.codeSet_tripIn (s : State) {a v} : (s.codeSet a v).tripIn = s.tripIn := rfl
@[simp] theorem State.codeSet_yarrow (s : State) {a v} : (s.codeSet a v).yarrow = s.yarrow := rfl
@[simp] theorem State.codeSet_mode (s : State) {a v} : (s.codeSet a v).mode = s.mode := rfl
@[simp] theorem State.codeSet_irqPend (s : State) {a v} : (s.codeSet a v).irqPend = s.irqPend := rfl
@[simp] theorem State.codeSet_gate (s : State) {a v} : (s.codeSet a v).gate = s.gate := rfl
@[simp] theorem State.codeSet_mg (s : State) {a v} : (s.codeSet a v).mg = s.mg := rfl
@[simp] theorem State.codeSet_bus (s : State) {a v} : (s.codeSet a v).bus = s.bus := rfl
@[simp] theorem State.codeSet_bridle (s : State) {a v} : (s.codeSet a v).bridle = s.bridle := rfl
@[simp] theorem State.codeSet_sec (s : State) {a v} : (s.codeSet a v).sec = s.sec := rfl
@[simp] theorem State.codeSet_rtcBase (s : State) {a v} : (s.codeSet a v).rtcBase = s.rtcBase := rfl
@[simp] theorem State.codeSet_cycle (s : State) {a v} : (s.codeSet a v).cycle = s.cycle := rfl
@[simp] theorem State.codeSet_drives (s : State) {a v} : (s.codeSet a v).drives = s.drives := rfl
@[simp] theorem State.codeSet_inlet (s : State) {a v} : (s.codeSet a v).inlet = s.inlet := rfl
@[simp] theorem State.codeSet_charge (s : State) {a v} : (s.codeSet a v).charge = s.charge := rfl
@[simp] theorem State.codeSet_supply (s : State) {a v} : (s.codeSet a v).supply = s.supply := rfl
@[simp] theorem State.codeSet_solar (s : State) {a v} : (s.codeSet a v).solar = s.solar := rfl
@[simp] theorem State.codeSet_chs (s : State) {a v} : (s.codeSet a v).chs = s.chs := rfl
@[simp] theorem State.codeSet_lv (s : State) {a v} : (s.codeSet a v).lv = s.lv := rfl
@[simp] theorem State.codeSet_keeper (s : State) {a v} : (s.codeSet a v).keeper = s.keeper := rfl
@[simp] theorem State.codeSet_motors (s : State) {a v} : (s.codeSet a v).motors = s.motors := rfl
@[simp] theorem State.codeSet_shift (s : State) {a v} : (s.codeSet a v).shift = s.shift := rfl
@[simp] theorem State.codeSet_park (s : State) {a v} : (s.codeSet a v).park = s.park := rfl
@[simp] theorem State.codeSet_clutch (s : State) {a v} : (s.codeSet a v).clutch = s.clutch := rfl
@[simp] theorem State.codeSet_pump (s : State) {a v} : (s.codeSet a v).pump = s.pump := rfl
@[simp] theorem State.codeSet_harn (s : State) {a v} : (s.codeSet a v).harn = s.harn := rfl
@[simp] theorem State.codeSet_thermal (s : State) {a v} : (s.codeSet a v).thermal = s.thermal := rfl
@[simp] theorem State.codeSet_clk (s : State) {a v} : (s.codeSet a v).clk = s.clk := rfl
@[simp] theorem State.codeSet_power (s : State) {a v} : (s.codeSet a v).power = s.power := rfl
@[simp] theorem State.codeSet_boot (s : State) {a v} : (s.codeSet a v).boot = s.boot := rfl
@[simp] theorem State.codeSet_pending (s : State) {a v} : (s.codeSet a v).pending = s.pending := rfl
@[simp] theorem State.codeSet_rd (s : State) {a v} (x : Nat) : (s.codeSet a v).rd x = s.rd x := rfl
@[simp] theorem State.codeSet_sig (s : State) {a v} (x : Nat) : (s.codeSet a v).sig x = s.sig x := rfl
@[simp] theorem State.codeSet_desc (s : State) {a v} (x : Nat) : (s.codeSet a v).desc x = s.desc x := rfl
@[simp] theorem State.codeSet_sramGet (s : State) {a v} (x : Nat) : (s.codeSet a v).sramGet x = s.sramGet x := rfl
@[simp] theorem State.codeSet_nvmGet (s : State) {a v} (x : Nat) : (s.codeSet a v).nvmGet x = s.nvmGet x := rfl
@[simp] theorem State.codeSet_pgAt (s : State) {a v} (x : Nat) : (s.codeSet a v).pgAt x = s.pgAt x := rfl
@[simp] theorem State.codeSet_auAt (s : State) {a v} (x : Nat) : (s.codeSet a v).auAt x = s.auAt x := rfl
@[simp] theorem State.codeSet_ceAt (s : State) {a v} (x : Nat) : (s.codeSet a v).ceAt x = s.ceAt x := rfl
@[simp] theorem State.codeSet_coreAt (s : State) {a v} (x : Nat) : (s.codeSet a v).coreAt x = s.coreAt x := rfl

/-! `reach` -/
@[simp] theorem State.reach_variant (s : State) {t} : (s.reach t).variant = s.variant := rfl
@[simp] theorem State.reach_regs (s : State) {t} : (s.reach t).regs = s.regs := rfl
@[simp] theorem State.reach_sigs (s : State) {t} : (s.reach t).sigs = s.sigs := rfl
@[simp] theorem State.reach_descs (s : State) {t} : (s.reach t).descs = s.descs := rfl
@[simp] theorem State.reach_sram (s : State) {t} : (s.reach t).sram = s.sram := rfl
@[simp] theorem State.reach_nvm (s : State) {t} : (s.reach t).nvm = s.nvm := rfl
@[simp] theorem State.reach_codeNvm (s : State) {t} : (s.reach t).codeNvm = s.codeNvm := rfl
@[simp] theorem State.reach_draws (s : State) {t} : (s.reach t).draws = s.draws := rfl
@[simp] theorem State.reach_cores (s : State) {t} : (s.reach t).cores = s.cores := rfl
@[simp] theorem State.reach_paddock (s : State) {t} : (s.reach t).paddock = s.paddock := rfl
@[simp] theorem State.reach_au (s : State) {t} : (s.reach t).au = s.au := rfl
@[simp] theorem State.reach_joins (s : State) {t} : (s.reach t).joins = s.joins := rfl
@[simp] theorem State.reach_tt (s : State) {t} : (s.reach t).tt = s.tt := rfl
@[simp] theorem State.reach_ce (s : State) {t} : (s.reach t).ce = s.ce := rfl
@[simp] theorem State.reach_pg (s : State) {t} : (s.reach t).pg = s.pg := rfl
@[simp] theorem State.reach_tripIn (s : State) {t} : (s.reach t).tripIn = s.tripIn := rfl
@[simp] theorem State.reach_yarrow (s : State) {t} : (s.reach t).yarrow = s.yarrow := rfl
@[simp] theorem State.reach_mode (s : State) {t} : (s.reach t).mode = s.mode := rfl
@[simp] theorem State.reach_irqPend (s : State) {t} : (s.reach t).irqPend = s.irqPend := rfl
@[simp] theorem State.reach_gate (s : State) {t} : (s.reach t).gate = s.gate := rfl
@[simp] theorem State.reach_mg (s : State) {t} : (s.reach t).mg = s.mg := rfl
@[simp] theorem State.reach_bus (s : State) {t} : (s.reach t).bus = s.bus := rfl
@[simp] theorem State.reach_bridle (s : State) {t} : (s.reach t).bridle = s.bridle := rfl
@[simp] theorem State.reach_sec (s : State) {t} : (s.reach t).sec = s.sec := rfl
@[simp] theorem State.reach_rtcBase (s : State) {t} : (s.reach t).rtcBase = s.rtcBase := rfl
@[simp] theorem State.reach_cycle (s : State) {t} : (s.reach t).cycle = s.cycle := rfl
@[simp] theorem State.reach_drives (s : State) {t} : (s.reach t).drives = s.drives := rfl
@[simp] theorem State.reach_inlet (s : State) {t} : (s.reach t).inlet = s.inlet := rfl
@[simp] theorem State.reach_charge (s : State) {t} : (s.reach t).charge = s.charge := rfl
@[simp] theorem State.reach_supply (s : State) {t} : (s.reach t).supply = s.supply := rfl
@[simp] theorem State.reach_solar (s : State) {t} : (s.reach t).solar = s.solar := rfl
@[simp] theorem State.reach_chs (s : State) {t} : (s.reach t).chs = s.chs := rfl
@[simp] theorem State.reach_lv (s : State) {t} : (s.reach t).lv = s.lv := rfl
@[simp] theorem State.reach_keeper (s : State) {t} : (s.reach t).keeper = s.keeper := rfl
@[simp] theorem State.reach_motors (s : State) {t} : (s.reach t).motors = s.motors := rfl
@[simp] theorem State.reach_shift (s : State) {t} : (s.reach t).shift = s.shift := rfl
@[simp] theorem State.reach_park (s : State) {t} : (s.reach t).park = s.park := rfl
@[simp] theorem State.reach_clutch (s : State) {t} : (s.reach t).clutch = s.clutch := rfl
@[simp] theorem State.reach_pump (s : State) {t} : (s.reach t).pump = s.pump := rfl
@[simp] theorem State.reach_harn (s : State) {t} : (s.reach t).harn = s.harn := rfl
@[simp] theorem State.reach_thermal (s : State) {t} : (s.reach t).thermal = s.thermal := rfl
@[simp] theorem State.reach_clk (s : State) {t} : (s.reach t).clk = s.clk := rfl
@[simp] theorem State.reach_power (s : State) {t} : (s.reach t).power = s.power := rfl
@[simp] theorem State.reach_boot (s : State) {t} : (s.reach t).boot = s.boot := rfl
@[simp] theorem State.reach_pending (s : State) {t} : (s.reach t).pending = s.pending := rfl
@[simp] theorem State.reach_rd (s : State) {t} (x : Nat) : (s.reach t).rd x = s.rd x := rfl
@[simp] theorem State.reach_sig (s : State) {t} (x : Nat) : (s.reach t).sig x = s.sig x := rfl
@[simp] theorem State.reach_desc (s : State) {t} (x : Nat) : (s.reach t).desc x = s.desc x := rfl
@[simp] theorem State.reach_sramGet (s : State) {t} (x : Nat) : (s.reach t).sramGet x = s.sramGet x := rfl
@[simp] theorem State.reach_nvmGet (s : State) {t} (x : Nat) : (s.reach t).nvmGet x = s.nvmGet x := rfl
@[simp] theorem State.reach_codeGet (s : State) {t} (x : Nat) : (s.reach t).codeGet x = s.codeGet x := rfl
@[simp] theorem State.reach_pgAt (s : State) {t} (x : Nat) : (s.reach t).pgAt x = s.pgAt x := rfl
@[simp] theorem State.reach_auAt (s : State) {t} (x : Nat) : (s.reach t).auAt x = s.auAt x := rfl
@[simp] theorem State.reach_ceAt (s : State) {t} (x : Nat) : (s.reach t).ceAt x = s.ceAt x := rfl
@[simp] theorem State.reach_coreAt (s : State) {t} (x : Nat) : (s.reach t).coreAt x = s.coreAt x := rfl
@[simp] theorem State.reach_own (s : State) {t} : (s.reach t).dtb = max s.dtb t := rfl

/-! `reachRtc` -/
@[simp] theorem State.reachRtc_variant (s : State) {r} : (s.reachRtc r).variant = s.variant := rfl
@[simp] theorem State.reachRtc_regs (s : State) {r} : (s.reachRtc r).regs = s.regs := rfl
@[simp] theorem State.reachRtc_sigs (s : State) {r} : (s.reachRtc r).sigs = s.sigs := rfl
@[simp] theorem State.reachRtc_descs (s : State) {r} : (s.reachRtc r).descs = s.descs := rfl
@[simp] theorem State.reachRtc_sram (s : State) {r} : (s.reachRtc r).sram = s.sram := rfl
@[simp] theorem State.reachRtc_nvm (s : State) {r} : (s.reachRtc r).nvm = s.nvm := rfl
@[simp] theorem State.reachRtc_codeNvm (s : State) {r} : (s.reachRtc r).codeNvm = s.codeNvm := rfl
@[simp] theorem State.reachRtc_draws (s : State) {r} : (s.reachRtc r).draws = s.draws := rfl
@[simp] theorem State.reachRtc_cores (s : State) {r} : (s.reachRtc r).cores = s.cores := rfl
@[simp] theorem State.reachRtc_paddock (s : State) {r} : (s.reachRtc r).paddock = s.paddock := rfl
@[simp] theorem State.reachRtc_au (s : State) {r} : (s.reachRtc r).au = s.au := rfl
@[simp] theorem State.reachRtc_joins (s : State) {r} : (s.reachRtc r).joins = s.joins := rfl
@[simp] theorem State.reachRtc_tt (s : State) {r} : (s.reachRtc r).tt = s.tt := rfl
@[simp] theorem State.reachRtc_ce (s : State) {r} : (s.reachRtc r).ce = s.ce := rfl
@[simp] theorem State.reachRtc_pg (s : State) {r} : (s.reachRtc r).pg = s.pg := rfl
@[simp] theorem State.reachRtc_tripIn (s : State) {r} : (s.reachRtc r).tripIn = s.tripIn := rfl
@[simp] theorem State.reachRtc_yarrow (s : State) {r} : (s.reachRtc r).yarrow = s.yarrow := rfl
@[simp] theorem State.reachRtc_mode (s : State) {r} : (s.reachRtc r).mode = s.mode := rfl
@[simp] theorem State.reachRtc_irqPend (s : State) {r} : (s.reachRtc r).irqPend = s.irqPend := rfl
@[simp] theorem State.reachRtc_gate (s : State) {r} : (s.reachRtc r).gate = s.gate := rfl
@[simp] theorem State.reachRtc_mg (s : State) {r} : (s.reachRtc r).mg = s.mg := rfl
@[simp] theorem State.reachRtc_bus (s : State) {r} : (s.reachRtc r).bus = s.bus := rfl
@[simp] theorem State.reachRtc_bridle (s : State) {r} : (s.reachRtc r).bridle = s.bridle := rfl
@[simp] theorem State.reachRtc_sec (s : State) {r} : (s.reachRtc r).sec = s.sec := rfl
@[simp] theorem State.reachRtc_rtcBase (s : State) {r} : (s.reachRtc r).rtcBase = s.rtcBase := rfl
@[simp] theorem State.reachRtc_cycle (s : State) {r} : (s.reachRtc r).cycle = s.cycle := rfl
@[simp] theorem State.reachRtc_drives (s : State) {r} : (s.reachRtc r).drives = s.drives := rfl
@[simp] theorem State.reachRtc_inlet (s : State) {r} : (s.reachRtc r).inlet = s.inlet := rfl
@[simp] theorem State.reachRtc_charge (s : State) {r} : (s.reachRtc r).charge = s.charge := rfl
@[simp] theorem State.reachRtc_supply (s : State) {r} : (s.reachRtc r).supply = s.supply := rfl
@[simp] theorem State.reachRtc_solar (s : State) {r} : (s.reachRtc r).solar = s.solar := rfl
@[simp] theorem State.reachRtc_chs (s : State) {r} : (s.reachRtc r).chs = s.chs := rfl
@[simp] theorem State.reachRtc_lv (s : State) {r} : (s.reachRtc r).lv = s.lv := rfl
@[simp] theorem State.reachRtc_keeper (s : State) {r} : (s.reachRtc r).keeper = s.keeper := rfl
@[simp] theorem State.reachRtc_motors (s : State) {r} : (s.reachRtc r).motors = s.motors := rfl
@[simp] theorem State.reachRtc_shift (s : State) {r} : (s.reachRtc r).shift = s.shift := rfl
@[simp] theorem State.reachRtc_park (s : State) {r} : (s.reachRtc r).park = s.park := rfl
@[simp] theorem State.reachRtc_clutch (s : State) {r} : (s.reachRtc r).clutch = s.clutch := rfl
@[simp] theorem State.reachRtc_pump (s : State) {r} : (s.reachRtc r).pump = s.pump := rfl
@[simp] theorem State.reachRtc_harn (s : State) {r} : (s.reachRtc r).harn = s.harn := rfl
@[simp] theorem State.reachRtc_thermal (s : State) {r} : (s.reachRtc r).thermal = s.thermal := rfl
@[simp] theorem State.reachRtc_clk (s : State) {r} : (s.reachRtc r).clk = s.clk := rfl
@[simp] theorem State.reachRtc_power (s : State) {r} : (s.reachRtc r).power = s.power := rfl
@[simp] theorem State.reachRtc_boot (s : State) {r} : (s.reachRtc r).boot = s.boot := rfl
@[simp] theorem State.reachRtc_pending (s : State) {r} : (s.reachRtc r).pending = s.pending := rfl
@[simp] theorem State.reachRtc_rd (s : State) {r} (x : Nat) : (s.reachRtc r).rd x = s.rd x := rfl
@[simp] theorem State.reachRtc_sig (s : State) {r} (x : Nat) : (s.reachRtc r).sig x = s.sig x := rfl
@[simp] theorem State.reachRtc_desc (s : State) {r} (x : Nat) : (s.reachRtc r).desc x = s.desc x := rfl
@[simp] theorem State.reachRtc_sramGet (s : State) {r} (x : Nat) : (s.reachRtc r).sramGet x = s.sramGet x := rfl
@[simp] theorem State.reachRtc_nvmGet (s : State) {r} (x : Nat) : (s.reachRtc r).nvmGet x = s.nvmGet x := rfl
@[simp] theorem State.reachRtc_codeGet (s : State) {r} (x : Nat) : (s.reachRtc r).codeGet x = s.codeGet x := rfl
@[simp] theorem State.reachRtc_pgAt (s : State) {r} (x : Nat) : (s.reachRtc r).pgAt x = s.pgAt x := rfl
@[simp] theorem State.reachRtc_auAt (s : State) {r} (x : Nat) : (s.reachRtc r).auAt x = s.auAt x := rfl
@[simp] theorem State.reachRtc_ceAt (s : State) {r} (x : Nat) : (s.reachRtc r).ceAt x = s.ceAt x := rfl
@[simp] theorem State.reachRtc_coreAt (s : State) {r} (x : Nat) : (s.reachRtc r).coreAt x = s.coreAt x := rfl
@[simp] theorem State.reachRtc_own (s : State) {r} : (s.reachRtc r).dtb = max s.dtb (((8 * r : Nat) - s.rtcBase + (max 1 s.cycle - 1 : Nat)) / (max 1 s.cycle : Nat) : Int).toNat := rfl

/-! `modAu` -/
@[simp] theorem State.modAu_dtb (s : State) {u f} : (s.modAu u f).dtb = s.dtb := rfl
@[simp] theorem State.modAu_variant (s : State) {u f} : (s.modAu u f).variant = s.variant := rfl
@[simp] theorem State.modAu_regs (s : State) {u f} : (s.modAu u f).regs = s.regs := rfl
@[simp] theorem State.modAu_sigs (s : State) {u f} : (s.modAu u f).sigs = s.sigs := rfl
@[simp] theorem State.modAu_descs (s : State) {u f} : (s.modAu u f).descs = s.descs := rfl
@[simp] theorem State.modAu_sram (s : State) {u f} : (s.modAu u f).sram = s.sram := rfl
@[simp] theorem State.modAu_nvm (s : State) {u f} : (s.modAu u f).nvm = s.nvm := rfl
@[simp] theorem State.modAu_codeNvm (s : State) {u f} : (s.modAu u f).codeNvm = s.codeNvm := rfl
@[simp] theorem State.modAu_draws (s : State) {u f} : (s.modAu u f).draws = s.draws := rfl
@[simp] theorem State.modAu_cores (s : State) {u f} : (s.modAu u f).cores = s.cores := rfl
@[simp] theorem State.modAu_paddock (s : State) {u f} : (s.modAu u f).paddock = s.paddock := rfl
@[simp] theorem State.modAu_joins (s : State) {u f} : (s.modAu u f).joins = s.joins := rfl
@[simp] theorem State.modAu_tt (s : State) {u f} : (s.modAu u f).tt = s.tt := rfl
@[simp] theorem State.modAu_ce (s : State) {u f} : (s.modAu u f).ce = s.ce := rfl
@[simp] theorem State.modAu_pg (s : State) {u f} : (s.modAu u f).pg = s.pg := rfl
@[simp] theorem State.modAu_tripIn (s : State) {u f} : (s.modAu u f).tripIn = s.tripIn := rfl
@[simp] theorem State.modAu_yarrow (s : State) {u f} : (s.modAu u f).yarrow = s.yarrow := rfl
@[simp] theorem State.modAu_mode (s : State) {u f} : (s.modAu u f).mode = s.mode := rfl
@[simp] theorem State.modAu_irqPend (s : State) {u f} : (s.modAu u f).irqPend = s.irqPend := rfl
@[simp] theorem State.modAu_gate (s : State) {u f} : (s.modAu u f).gate = s.gate := rfl
@[simp] theorem State.modAu_mg (s : State) {u f} : (s.modAu u f).mg = s.mg := rfl
@[simp] theorem State.modAu_bus (s : State) {u f} : (s.modAu u f).bus = s.bus := rfl
@[simp] theorem State.modAu_bridle (s : State) {u f} : (s.modAu u f).bridle = s.bridle := rfl
@[simp] theorem State.modAu_sec (s : State) {u f} : (s.modAu u f).sec = s.sec := rfl
@[simp] theorem State.modAu_rtcBase (s : State) {u f} : (s.modAu u f).rtcBase = s.rtcBase := rfl
@[simp] theorem State.modAu_cycle (s : State) {u f} : (s.modAu u f).cycle = s.cycle := rfl
@[simp] theorem State.modAu_drives (s : State) {u f} : (s.modAu u f).drives = s.drives := rfl
@[simp] theorem State.modAu_inlet (s : State) {u f} : (s.modAu u f).inlet = s.inlet := rfl
@[simp] theorem State.modAu_charge (s : State) {u f} : (s.modAu u f).charge = s.charge := rfl
@[simp] theorem State.modAu_supply (s : State) {u f} : (s.modAu u f).supply = s.supply := rfl
@[simp] theorem State.modAu_solar (s : State) {u f} : (s.modAu u f).solar = s.solar := rfl
@[simp] theorem State.modAu_chs (s : State) {u f} : (s.modAu u f).chs = s.chs := rfl
@[simp] theorem State.modAu_lv (s : State) {u f} : (s.modAu u f).lv = s.lv := rfl
@[simp] theorem State.modAu_keeper (s : State) {u f} : (s.modAu u f).keeper = s.keeper := rfl
@[simp] theorem State.modAu_motors (s : State) {u f} : (s.modAu u f).motors = s.motors := rfl
@[simp] theorem State.modAu_shift (s : State) {u f} : (s.modAu u f).shift = s.shift := rfl
@[simp] theorem State.modAu_park (s : State) {u f} : (s.modAu u f).park = s.park := rfl
@[simp] theorem State.modAu_clutch (s : State) {u f} : (s.modAu u f).clutch = s.clutch := rfl
@[simp] theorem State.modAu_pump (s : State) {u f} : (s.modAu u f).pump = s.pump := rfl
@[simp] theorem State.modAu_harn (s : State) {u f} : (s.modAu u f).harn = s.harn := rfl
@[simp] theorem State.modAu_thermal (s : State) {u f} : (s.modAu u f).thermal = s.thermal := rfl
@[simp] theorem State.modAu_clk (s : State) {u f} : (s.modAu u f).clk = s.clk := rfl
@[simp] theorem State.modAu_power (s : State) {u f} : (s.modAu u f).power = s.power := rfl
@[simp] theorem State.modAu_boot (s : State) {u f} : (s.modAu u f).boot = s.boot := rfl
@[simp] theorem State.modAu_pending (s : State) {u f} : (s.modAu u f).pending = s.pending := rfl
@[simp] theorem State.modAu_rd (s : State) {u f} (x : Nat) : (s.modAu u f).rd x = s.rd x := rfl
@[simp] theorem State.modAu_sig (s : State) {u f} (x : Nat) : (s.modAu u f).sig x = s.sig x := rfl
@[simp] theorem State.modAu_desc (s : State) {u f} (x : Nat) : (s.modAu u f).desc x = s.desc x := rfl
@[simp] theorem State.modAu_sramGet (s : State) {u f} (x : Nat) : (s.modAu u f).sramGet x = s.sramGet x := rfl
@[simp] theorem State.modAu_nvmGet (s : State) {u f} (x : Nat) : (s.modAu u f).nvmGet x = s.nvmGet x := rfl
@[simp] theorem State.modAu_codeGet (s : State) {u f} (x : Nat) : (s.modAu u f).codeGet x = s.codeGet x := rfl
@[simp] theorem State.modAu_pgAt (s : State) {u f} (x : Nat) : (s.modAu u f).pgAt x = s.pgAt x := rfl
@[simp] theorem State.modAu_ceAt (s : State) {u f} (x : Nat) : (s.modAu u f).ceAt x = s.ceAt x := rfl
@[simp] theorem State.modAu_coreAt (s : State) {u f} (x : Nat) : (s.modAu u f).coreAt x = s.coreAt x := rfl
@[simp] theorem State.modAu_own (s : State) {u f} : (s.modAu u f).au = s.au.modify u f := rfl

/-! `modCe` -/
@[simp] theorem State.modCe_dtb (s : State) {e f} : (s.modCe e f).dtb = s.dtb := rfl
@[simp] theorem State.modCe_variant (s : State) {e f} : (s.modCe e f).variant = s.variant := rfl
@[simp] theorem State.modCe_regs (s : State) {e f} : (s.modCe e f).regs = s.regs := rfl
@[simp] theorem State.modCe_sigs (s : State) {e f} : (s.modCe e f).sigs = s.sigs := rfl
@[simp] theorem State.modCe_descs (s : State) {e f} : (s.modCe e f).descs = s.descs := rfl
@[simp] theorem State.modCe_sram (s : State) {e f} : (s.modCe e f).sram = s.sram := rfl
@[simp] theorem State.modCe_nvm (s : State) {e f} : (s.modCe e f).nvm = s.nvm := rfl
@[simp] theorem State.modCe_codeNvm (s : State) {e f} : (s.modCe e f).codeNvm = s.codeNvm := rfl
@[simp] theorem State.modCe_draws (s : State) {e f} : (s.modCe e f).draws = s.draws := rfl
@[simp] theorem State.modCe_cores (s : State) {e f} : (s.modCe e f).cores = s.cores := rfl
@[simp] theorem State.modCe_paddock (s : State) {e f} : (s.modCe e f).paddock = s.paddock := rfl
@[simp] theorem State.modCe_au (s : State) {e f} : (s.modCe e f).au = s.au := rfl
@[simp] theorem State.modCe_joins (s : State) {e f} : (s.modCe e f).joins = s.joins := rfl
@[simp] theorem State.modCe_tt (s : State) {e f} : (s.modCe e f).tt = s.tt := rfl
@[simp] theorem State.modCe_pg (s : State) {e f} : (s.modCe e f).pg = s.pg := rfl
@[simp] theorem State.modCe_tripIn (s : State) {e f} : (s.modCe e f).tripIn = s.tripIn := rfl
@[simp] theorem State.modCe_yarrow (s : State) {e f} : (s.modCe e f).yarrow = s.yarrow := rfl
@[simp] theorem State.modCe_mode (s : State) {e f} : (s.modCe e f).mode = s.mode := rfl
@[simp] theorem State.modCe_irqPend (s : State) {e f} : (s.modCe e f).irqPend = s.irqPend := rfl
@[simp] theorem State.modCe_gate (s : State) {e f} : (s.modCe e f).gate = s.gate := rfl
@[simp] theorem State.modCe_mg (s : State) {e f} : (s.modCe e f).mg = s.mg := rfl
@[simp] theorem State.modCe_bus (s : State) {e f} : (s.modCe e f).bus = s.bus := rfl
@[simp] theorem State.modCe_bridle (s : State) {e f} : (s.modCe e f).bridle = s.bridle := rfl
@[simp] theorem State.modCe_sec (s : State) {e f} : (s.modCe e f).sec = s.sec := rfl
@[simp] theorem State.modCe_rtcBase (s : State) {e f} : (s.modCe e f).rtcBase = s.rtcBase := rfl
@[simp] theorem State.modCe_cycle (s : State) {e f} : (s.modCe e f).cycle = s.cycle := rfl
@[simp] theorem State.modCe_drives (s : State) {e f} : (s.modCe e f).drives = s.drives := rfl
@[simp] theorem State.modCe_inlet (s : State) {e f} : (s.modCe e f).inlet = s.inlet := rfl
@[simp] theorem State.modCe_charge (s : State) {e f} : (s.modCe e f).charge = s.charge := rfl
@[simp] theorem State.modCe_supply (s : State) {e f} : (s.modCe e f).supply = s.supply := rfl
@[simp] theorem State.modCe_solar (s : State) {e f} : (s.modCe e f).solar = s.solar := rfl
@[simp] theorem State.modCe_chs (s : State) {e f} : (s.modCe e f).chs = s.chs := rfl
@[simp] theorem State.modCe_lv (s : State) {e f} : (s.modCe e f).lv = s.lv := rfl
@[simp] theorem State.modCe_keeper (s : State) {e f} : (s.modCe e f).keeper = s.keeper := rfl
@[simp] theorem State.modCe_motors (s : State) {e f} : (s.modCe e f).motors = s.motors := rfl
@[simp] theorem State.modCe_shift (s : State) {e f} : (s.modCe e f).shift = s.shift := rfl
@[simp] theorem State.modCe_park (s : State) {e f} : (s.modCe e f).park = s.park := rfl
@[simp] theorem State.modCe_clutch (s : State) {e f} : (s.modCe e f).clutch = s.clutch := rfl
@[simp] theorem State.modCe_pump (s : State) {e f} : (s.modCe e f).pump = s.pump := rfl
@[simp] theorem State.modCe_harn (s : State) {e f} : (s.modCe e f).harn = s.harn := rfl
@[simp] theorem State.modCe_thermal (s : State) {e f} : (s.modCe e f).thermal = s.thermal := rfl
@[simp] theorem State.modCe_clk (s : State) {e f} : (s.modCe e f).clk = s.clk := rfl
@[simp] theorem State.modCe_power (s : State) {e f} : (s.modCe e f).power = s.power := rfl
@[simp] theorem State.modCe_boot (s : State) {e f} : (s.modCe e f).boot = s.boot := rfl
@[simp] theorem State.modCe_pending (s : State) {e f} : (s.modCe e f).pending = s.pending := rfl
@[simp] theorem State.modCe_rd (s : State) {e f} (x : Nat) : (s.modCe e f).rd x = s.rd x := rfl
@[simp] theorem State.modCe_sig (s : State) {e f} (x : Nat) : (s.modCe e f).sig x = s.sig x := rfl
@[simp] theorem State.modCe_desc (s : State) {e f} (x : Nat) : (s.modCe e f).desc x = s.desc x := rfl
@[simp] theorem State.modCe_sramGet (s : State) {e f} (x : Nat) : (s.modCe e f).sramGet x = s.sramGet x := rfl
@[simp] theorem State.modCe_nvmGet (s : State) {e f} (x : Nat) : (s.modCe e f).nvmGet x = s.nvmGet x := rfl
@[simp] theorem State.modCe_codeGet (s : State) {e f} (x : Nat) : (s.modCe e f).codeGet x = s.codeGet x := rfl
@[simp] theorem State.modCe_pgAt (s : State) {e f} (x : Nat) : (s.modCe e f).pgAt x = s.pgAt x := rfl
@[simp] theorem State.modCe_auAt (s : State) {e f} (x : Nat) : (s.modCe e f).auAt x = s.auAt x := rfl
@[simp] theorem State.modCe_coreAt (s : State) {e f} (x : Nat) : (s.modCe e f).coreAt x = s.coreAt x := rfl
@[simp] theorem State.modCe_own (s : State) {e f} : (s.modCe e f).ce = s.ce.modify e f := rfl

/-! `modLaw` -/
@[simp] theorem State.modLaw_dtb (s : State) {e l f} : (s.modLaw e l f).dtb = s.dtb := rfl
@[simp] theorem State.modLaw_variant (s : State) {e l f} : (s.modLaw e l f).variant = s.variant := rfl
@[simp] theorem State.modLaw_regs (s : State) {e l f} : (s.modLaw e l f).regs = s.regs := rfl
@[simp] theorem State.modLaw_sigs (s : State) {e l f} : (s.modLaw e l f).sigs = s.sigs := rfl
@[simp] theorem State.modLaw_descs (s : State) {e l f} : (s.modLaw e l f).descs = s.descs := rfl
@[simp] theorem State.modLaw_sram (s : State) {e l f} : (s.modLaw e l f).sram = s.sram := rfl
@[simp] theorem State.modLaw_nvm (s : State) {e l f} : (s.modLaw e l f).nvm = s.nvm := rfl
@[simp] theorem State.modLaw_codeNvm (s : State) {e l f} : (s.modLaw e l f).codeNvm = s.codeNvm := rfl
@[simp] theorem State.modLaw_draws (s : State) {e l f} : (s.modLaw e l f).draws = s.draws := rfl
@[simp] theorem State.modLaw_cores (s : State) {e l f} : (s.modLaw e l f).cores = s.cores := rfl
@[simp] theorem State.modLaw_paddock (s : State) {e l f} : (s.modLaw e l f).paddock = s.paddock := rfl
@[simp] theorem State.modLaw_au (s : State) {e l f} : (s.modLaw e l f).au = s.au := rfl
@[simp] theorem State.modLaw_joins (s : State) {e l f} : (s.modLaw e l f).joins = s.joins := rfl
@[simp] theorem State.modLaw_tt (s : State) {e l f} : (s.modLaw e l f).tt = s.tt := rfl
@[simp] theorem State.modLaw_pg (s : State) {e l f} : (s.modLaw e l f).pg = s.pg := rfl
@[simp] theorem State.modLaw_tripIn (s : State) {e l f} : (s.modLaw e l f).tripIn = s.tripIn := rfl
@[simp] theorem State.modLaw_yarrow (s : State) {e l f} : (s.modLaw e l f).yarrow = s.yarrow := rfl
@[simp] theorem State.modLaw_mode (s : State) {e l f} : (s.modLaw e l f).mode = s.mode := rfl
@[simp] theorem State.modLaw_irqPend (s : State) {e l f} : (s.modLaw e l f).irqPend = s.irqPend := rfl
@[simp] theorem State.modLaw_gate (s : State) {e l f} : (s.modLaw e l f).gate = s.gate := rfl
@[simp] theorem State.modLaw_mg (s : State) {e l f} : (s.modLaw e l f).mg = s.mg := rfl
@[simp] theorem State.modLaw_bus (s : State) {e l f} : (s.modLaw e l f).bus = s.bus := rfl
@[simp] theorem State.modLaw_bridle (s : State) {e l f} : (s.modLaw e l f).bridle = s.bridle := rfl
@[simp] theorem State.modLaw_sec (s : State) {e l f} : (s.modLaw e l f).sec = s.sec := rfl
@[simp] theorem State.modLaw_rtcBase (s : State) {e l f} : (s.modLaw e l f).rtcBase = s.rtcBase := rfl
@[simp] theorem State.modLaw_cycle (s : State) {e l f} : (s.modLaw e l f).cycle = s.cycle := rfl
@[simp] theorem State.modLaw_drives (s : State) {e l f} : (s.modLaw e l f).drives = s.drives := rfl
@[simp] theorem State.modLaw_inlet (s : State) {e l f} : (s.modLaw e l f).inlet = s.inlet := rfl
@[simp] theorem State.modLaw_charge (s : State) {e l f} : (s.modLaw e l f).charge = s.charge := rfl
@[simp] theorem State.modLaw_supply (s : State) {e l f} : (s.modLaw e l f).supply = s.supply := rfl
@[simp] theorem State.modLaw_solar (s : State) {e l f} : (s.modLaw e l f).solar = s.solar := rfl
@[simp] theorem State.modLaw_chs (s : State) {e l f} : (s.modLaw e l f).chs = s.chs := rfl
@[simp] theorem State.modLaw_lv (s : State) {e l f} : (s.modLaw e l f).lv = s.lv := rfl
@[simp] theorem State.modLaw_keeper (s : State) {e l f} : (s.modLaw e l f).keeper = s.keeper := rfl
@[simp] theorem State.modLaw_motors (s : State) {e l f} : (s.modLaw e l f).motors = s.motors := rfl
@[simp] theorem State.modLaw_shift (s : State) {e l f} : (s.modLaw e l f).shift = s.shift := rfl
@[simp] theorem State.modLaw_park (s : State) {e l f} : (s.modLaw e l f).park = s.park := rfl
@[simp] theorem State.modLaw_clutch (s : State) {e l f} : (s.modLaw e l f).clutch = s.clutch := rfl
@[simp] theorem State.modLaw_pump (s : State) {e l f} : (s.modLaw e l f).pump = s.pump := rfl
@[simp] theorem State.modLaw_harn (s : State) {e l f} : (s.modLaw e l f).harn = s.harn := rfl
@[simp] theorem State.modLaw_thermal (s : State) {e l f} : (s.modLaw e l f).thermal = s.thermal := rfl
@[simp] theorem State.modLaw_clk (s : State) {e l f} : (s.modLaw e l f).clk = s.clk := rfl
@[simp] theorem State.modLaw_power (s : State) {e l f} : (s.modLaw e l f).power = s.power := rfl
@[simp] theorem State.modLaw_boot (s : State) {e l f} : (s.modLaw e l f).boot = s.boot := rfl
@[simp] theorem State.modLaw_pending (s : State) {e l f} : (s.modLaw e l f).pending = s.pending := rfl
@[simp] theorem State.modLaw_rd (s : State) {e l f} (x : Nat) : (s.modLaw e l f).rd x = s.rd x := rfl
@[simp] theorem State.modLaw_sig (s : State) {e l f} (x : Nat) : (s.modLaw e l f).sig x = s.sig x := rfl
@[simp] theorem State.modLaw_desc (s : State) {e l f} (x : Nat) : (s.modLaw e l f).desc x = s.desc x := rfl
@[simp] theorem State.modLaw_sramGet (s : State) {e l f} (x : Nat) : (s.modLaw e l f).sramGet x = s.sramGet x := rfl
@[simp] theorem State.modLaw_nvmGet (s : State) {e l f} (x : Nat) : (s.modLaw e l f).nvmGet x = s.nvmGet x := rfl
@[simp] theorem State.modLaw_codeGet (s : State) {e l f} (x : Nat) : (s.modLaw e l f).codeGet x = s.codeGet x := rfl
@[simp] theorem State.modLaw_pgAt (s : State) {e l f} (x : Nat) : (s.modLaw e l f).pgAt x = s.pgAt x := rfl
@[simp] theorem State.modLaw_auAt (s : State) {e l f} (x : Nat) : (s.modLaw e l f).auAt x = s.auAt x := rfl
@[simp] theorem State.modLaw_coreAt (s : State) {e l f} (x : Nat) : (s.modLaw e l f).coreAt x = s.coreAt x := rfl

/-! `modPg` -/
@[simp] theorem State.modPg_dtb (s : State) {g f} : (s.modPg g f).dtb = s.dtb := rfl
@[simp] theorem State.modPg_variant (s : State) {g f} : (s.modPg g f).variant = s.variant := rfl
@[simp] theorem State.modPg_regs (s : State) {g f} : (s.modPg g f).regs = s.regs := rfl
@[simp] theorem State.modPg_sigs (s : State) {g f} : (s.modPg g f).sigs = s.sigs := rfl
@[simp] theorem State.modPg_descs (s : State) {g f} : (s.modPg g f).descs = s.descs := rfl
@[simp] theorem State.modPg_sram (s : State) {g f} : (s.modPg g f).sram = s.sram := rfl
@[simp] theorem State.modPg_nvm (s : State) {g f} : (s.modPg g f).nvm = s.nvm := rfl
@[simp] theorem State.modPg_codeNvm (s : State) {g f} : (s.modPg g f).codeNvm = s.codeNvm := rfl
@[simp] theorem State.modPg_draws (s : State) {g f} : (s.modPg g f).draws = s.draws := rfl
@[simp] theorem State.modPg_cores (s : State) {g f} : (s.modPg g f).cores = s.cores := rfl
@[simp] theorem State.modPg_paddock (s : State) {g f} : (s.modPg g f).paddock = s.paddock := rfl
@[simp] theorem State.modPg_au (s : State) {g f} : (s.modPg g f).au = s.au := rfl
@[simp] theorem State.modPg_joins (s : State) {g f} : (s.modPg g f).joins = s.joins := rfl
@[simp] theorem State.modPg_tt (s : State) {g f} : (s.modPg g f).tt = s.tt := rfl
@[simp] theorem State.modPg_ce (s : State) {g f} : (s.modPg g f).ce = s.ce := rfl
@[simp] theorem State.modPg_tripIn (s : State) {g f} : (s.modPg g f).tripIn = s.tripIn := rfl
@[simp] theorem State.modPg_yarrow (s : State) {g f} : (s.modPg g f).yarrow = s.yarrow := rfl
@[simp] theorem State.modPg_mode (s : State) {g f} : (s.modPg g f).mode = s.mode := rfl
@[simp] theorem State.modPg_irqPend (s : State) {g f} : (s.modPg g f).irqPend = s.irqPend := rfl
@[simp] theorem State.modPg_gate (s : State) {g f} : (s.modPg g f).gate = s.gate := rfl
@[simp] theorem State.modPg_mg (s : State) {g f} : (s.modPg g f).mg = s.mg := rfl
@[simp] theorem State.modPg_bus (s : State) {g f} : (s.modPg g f).bus = s.bus := rfl
@[simp] theorem State.modPg_bridle (s : State) {g f} : (s.modPg g f).bridle = s.bridle := rfl
@[simp] theorem State.modPg_sec (s : State) {g f} : (s.modPg g f).sec = s.sec := rfl
@[simp] theorem State.modPg_rtcBase (s : State) {g f} : (s.modPg g f).rtcBase = s.rtcBase := rfl
@[simp] theorem State.modPg_cycle (s : State) {g f} : (s.modPg g f).cycle = s.cycle := rfl
@[simp] theorem State.modPg_drives (s : State) {g f} : (s.modPg g f).drives = s.drives := rfl
@[simp] theorem State.modPg_inlet (s : State) {g f} : (s.modPg g f).inlet = s.inlet := rfl
@[simp] theorem State.modPg_charge (s : State) {g f} : (s.modPg g f).charge = s.charge := rfl
@[simp] theorem State.modPg_supply (s : State) {g f} : (s.modPg g f).supply = s.supply := rfl
@[simp] theorem State.modPg_solar (s : State) {g f} : (s.modPg g f).solar = s.solar := rfl
@[simp] theorem State.modPg_chs (s : State) {g f} : (s.modPg g f).chs = s.chs := rfl
@[simp] theorem State.modPg_lv (s : State) {g f} : (s.modPg g f).lv = s.lv := rfl
@[simp] theorem State.modPg_keeper (s : State) {g f} : (s.modPg g f).keeper = s.keeper := rfl
@[simp] theorem State.modPg_motors (s : State) {g f} : (s.modPg g f).motors = s.motors := rfl
@[simp] theorem State.modPg_shift (s : State) {g f} : (s.modPg g f).shift = s.shift := rfl
@[simp] theorem State.modPg_park (s : State) {g f} : (s.modPg g f).park = s.park := rfl
@[simp] theorem State.modPg_clutch (s : State) {g f} : (s.modPg g f).clutch = s.clutch := rfl
@[simp] theorem State.modPg_pump (s : State) {g f} : (s.modPg g f).pump = s.pump := rfl
@[simp] theorem State.modPg_harn (s : State) {g f} : (s.modPg g f).harn = s.harn := rfl
@[simp] theorem State.modPg_thermal (s : State) {g f} : (s.modPg g f).thermal = s.thermal := rfl
@[simp] theorem State.modPg_clk (s : State) {g f} : (s.modPg g f).clk = s.clk := rfl
@[simp] theorem State.modPg_power (s : State) {g f} : (s.modPg g f).power = s.power := rfl
@[simp] theorem State.modPg_boot (s : State) {g f} : (s.modPg g f).boot = s.boot := rfl
@[simp] theorem State.modPg_pending (s : State) {g f} : (s.modPg g f).pending = s.pending := rfl
@[simp] theorem State.modPg_rd (s : State) {g f} (x : Nat) : (s.modPg g f).rd x = s.rd x := rfl
@[simp] theorem State.modPg_sig (s : State) {g f} (x : Nat) : (s.modPg g f).sig x = s.sig x := rfl
@[simp] theorem State.modPg_desc (s : State) {g f} (x : Nat) : (s.modPg g f).desc x = s.desc x := rfl
@[simp] theorem State.modPg_sramGet (s : State) {g f} (x : Nat) : (s.modPg g f).sramGet x = s.sramGet x := rfl
@[simp] theorem State.modPg_nvmGet (s : State) {g f} (x : Nat) : (s.modPg g f).nvmGet x = s.nvmGet x := rfl
@[simp] theorem State.modPg_codeGet (s : State) {g f} (x : Nat) : (s.modPg g f).codeGet x = s.codeGet x := rfl
@[simp] theorem State.modPg_auAt (s : State) {g f} (x : Nat) : (s.modPg g f).auAt x = s.auAt x := rfl
@[simp] theorem State.modPg_ceAt (s : State) {g f} (x : Nat) : (s.modPg g f).ceAt x = s.ceAt x := rfl
@[simp] theorem State.modPg_coreAt (s : State) {g f} (x : Nat) : (s.modPg g f).coreAt x = s.coreAt x := rfl
@[simp] theorem State.modPg_own (s : State) {g f} : (s.modPg g f).pg = s.pg.modify g f := rfl

/-! `modCore` -/
@[simp] theorem State.modCore_dtb (s : State) {c f} : (s.modCore c f).dtb = s.dtb := rfl
@[simp] theorem State.modCore_variant (s : State) {c f} : (s.modCore c f).variant = s.variant := rfl
@[simp] theorem State.modCore_regs (s : State) {c f} : (s.modCore c f).regs = s.regs := rfl
@[simp] theorem State.modCore_sigs (s : State) {c f} : (s.modCore c f).sigs = s.sigs := rfl
@[simp] theorem State.modCore_descs (s : State) {c f} : (s.modCore c f).descs = s.descs := rfl
@[simp] theorem State.modCore_sram (s : State) {c f} : (s.modCore c f).sram = s.sram := rfl
@[simp] theorem State.modCore_nvm (s : State) {c f} : (s.modCore c f).nvm = s.nvm := rfl
@[simp] theorem State.modCore_codeNvm (s : State) {c f} : (s.modCore c f).codeNvm = s.codeNvm := rfl
@[simp] theorem State.modCore_draws (s : State) {c f} : (s.modCore c f).draws = s.draws := rfl
@[simp] theorem State.modCore_paddock (s : State) {c f} : (s.modCore c f).paddock = s.paddock := rfl
@[simp] theorem State.modCore_au (s : State) {c f} : (s.modCore c f).au = s.au := rfl
@[simp] theorem State.modCore_joins (s : State) {c f} : (s.modCore c f).joins = s.joins := rfl
@[simp] theorem State.modCore_tt (s : State) {c f} : (s.modCore c f).tt = s.tt := rfl
@[simp] theorem State.modCore_ce (s : State) {c f} : (s.modCore c f).ce = s.ce := rfl
@[simp] theorem State.modCore_pg (s : State) {c f} : (s.modCore c f).pg = s.pg := rfl
@[simp] theorem State.modCore_tripIn (s : State) {c f} : (s.modCore c f).tripIn = s.tripIn := rfl
@[simp] theorem State.modCore_yarrow (s : State) {c f} : (s.modCore c f).yarrow = s.yarrow := rfl
@[simp] theorem State.modCore_mode (s : State) {c f} : (s.modCore c f).mode = s.mode := rfl
@[simp] theorem State.modCore_irqPend (s : State) {c f} : (s.modCore c f).irqPend = s.irqPend := rfl
@[simp] theorem State.modCore_gate (s : State) {c f} : (s.modCore c f).gate = s.gate := rfl
@[simp] theorem State.modCore_mg (s : State) {c f} : (s.modCore c f).mg = s.mg := rfl
@[simp] theorem State.modCore_bus (s : State) {c f} : (s.modCore c f).bus = s.bus := rfl
@[simp] theorem State.modCore_bridle (s : State) {c f} : (s.modCore c f).bridle = s.bridle := rfl
@[simp] theorem State.modCore_sec (s : State) {c f} : (s.modCore c f).sec = s.sec := rfl
@[simp] theorem State.modCore_rtcBase (s : State) {c f} : (s.modCore c f).rtcBase = s.rtcBase := rfl
@[simp] theorem State.modCore_cycle (s : State) {c f} : (s.modCore c f).cycle = s.cycle := rfl
@[simp] theorem State.modCore_drives (s : State) {c f} : (s.modCore c f).drives = s.drives := rfl
@[simp] theorem State.modCore_inlet (s : State) {c f} : (s.modCore c f).inlet = s.inlet := rfl
@[simp] theorem State.modCore_charge (s : State) {c f} : (s.modCore c f).charge = s.charge := rfl
@[simp] theorem State.modCore_supply (s : State) {c f} : (s.modCore c f).supply = s.supply := rfl
@[simp] theorem State.modCore_solar (s : State) {c f} : (s.modCore c f).solar = s.solar := rfl
@[simp] theorem State.modCore_chs (s : State) {c f} : (s.modCore c f).chs = s.chs := rfl
@[simp] theorem State.modCore_lv (s : State) {c f} : (s.modCore c f).lv = s.lv := rfl
@[simp] theorem State.modCore_keeper (s : State) {c f} : (s.modCore c f).keeper = s.keeper := rfl
@[simp] theorem State.modCore_motors (s : State) {c f} : (s.modCore c f).motors = s.motors := rfl
@[simp] theorem State.modCore_shift (s : State) {c f} : (s.modCore c f).shift = s.shift := rfl
@[simp] theorem State.modCore_park (s : State) {c f} : (s.modCore c f).park = s.park := rfl
@[simp] theorem State.modCore_clutch (s : State) {c f} : (s.modCore c f).clutch = s.clutch := rfl
@[simp] theorem State.modCore_pump (s : State) {c f} : (s.modCore c f).pump = s.pump := rfl
@[simp] theorem State.modCore_harn (s : State) {c f} : (s.modCore c f).harn = s.harn := rfl
@[simp] theorem State.modCore_thermal (s : State) {c f} : (s.modCore c f).thermal = s.thermal := rfl
@[simp] theorem State.modCore_clk (s : State) {c f} : (s.modCore c f).clk = s.clk := rfl
@[simp] theorem State.modCore_power (s : State) {c f} : (s.modCore c f).power = s.power := rfl
@[simp] theorem State.modCore_boot (s : State) {c f} : (s.modCore c f).boot = s.boot := rfl
@[simp] theorem State.modCore_pending (s : State) {c f} : (s.modCore c f).pending = s.pending := rfl
@[simp] theorem State.modCore_rd (s : State) {c f} (x : Nat) : (s.modCore c f).rd x = s.rd x := rfl
@[simp] theorem State.modCore_sig (s : State) {c f} (x : Nat) : (s.modCore c f).sig x = s.sig x := rfl
@[simp] theorem State.modCore_desc (s : State) {c f} (x : Nat) : (s.modCore c f).desc x = s.desc x := rfl
@[simp] theorem State.modCore_sramGet (s : State) {c f} (x : Nat) : (s.modCore c f).sramGet x = s.sramGet x := rfl
@[simp] theorem State.modCore_nvmGet (s : State) {c f} (x : Nat) : (s.modCore c f).nvmGet x = s.nvmGet x := rfl
@[simp] theorem State.modCore_codeGet (s : State) {c f} (x : Nat) : (s.modCore c f).codeGet x = s.codeGet x := rfl
@[simp] theorem State.modCore_pgAt (s : State) {c f} (x : Nat) : (s.modCore c f).pgAt x = s.pgAt x := rfl
@[simp] theorem State.modCore_auAt (s : State) {c f} (x : Nat) : (s.modCore c f).auAt x = s.auAt x := rfl
@[simp] theorem State.modCore_ceAt (s : State) {c f} (x : Nat) : (s.modCore c f).ceAt x = s.ceAt x := rfl
@[simp] theorem State.modCore_own (s : State) {c f} : (s.modCore c f).cores = s.cores.modify c f := rfl

/-! `accessFault` -/
@[simp] theorem State.accessFault_dtb (s : State) {c} : (s.accessFault c).dtb = s.dtb := rfl
@[simp] theorem State.accessFault_variant (s : State) {c} : (s.accessFault c).variant = s.variant := rfl
@[simp] theorem State.accessFault_regs (s : State) {c} : (s.accessFault c).regs = s.regs := rfl
@[simp] theorem State.accessFault_sigs (s : State) {c} : (s.accessFault c).sigs = s.sigs := rfl
@[simp] theorem State.accessFault_descs (s : State) {c} : (s.accessFault c).descs = s.descs := rfl
@[simp] theorem State.accessFault_sram (s : State) {c} : (s.accessFault c).sram = s.sram := rfl
@[simp] theorem State.accessFault_nvm (s : State) {c} : (s.accessFault c).nvm = s.nvm := rfl
@[simp] theorem State.accessFault_codeNvm (s : State) {c} : (s.accessFault c).codeNvm = s.codeNvm := rfl
@[simp] theorem State.accessFault_draws (s : State) {c} : (s.accessFault c).draws = s.draws := rfl
@[simp] theorem State.accessFault_paddock (s : State) {c} : (s.accessFault c).paddock = s.paddock := rfl
@[simp] theorem State.accessFault_au (s : State) {c} : (s.accessFault c).au = s.au := rfl
@[simp] theorem State.accessFault_joins (s : State) {c} : (s.accessFault c).joins = s.joins := rfl
@[simp] theorem State.accessFault_tt (s : State) {c} : (s.accessFault c).tt = s.tt := rfl
@[simp] theorem State.accessFault_ce (s : State) {c} : (s.accessFault c).ce = s.ce := rfl
@[simp] theorem State.accessFault_pg (s : State) {c} : (s.accessFault c).pg = s.pg := rfl
@[simp] theorem State.accessFault_tripIn (s : State) {c} : (s.accessFault c).tripIn = s.tripIn := rfl
@[simp] theorem State.accessFault_yarrow (s : State) {c} : (s.accessFault c).yarrow = s.yarrow := rfl
@[simp] theorem State.accessFault_mode (s : State) {c} : (s.accessFault c).mode = s.mode := rfl
@[simp] theorem State.accessFault_irqPend (s : State) {c} : (s.accessFault c).irqPend = s.irqPend := rfl
@[simp] theorem State.accessFault_gate (s : State) {c} : (s.accessFault c).gate = s.gate := rfl
@[simp] theorem State.accessFault_mg (s : State) {c} : (s.accessFault c).mg = s.mg := rfl
@[simp] theorem State.accessFault_bus (s : State) {c} : (s.accessFault c).bus = s.bus := rfl
@[simp] theorem State.accessFault_bridle (s : State) {c} : (s.accessFault c).bridle = s.bridle := rfl
@[simp] theorem State.accessFault_sec (s : State) {c} : (s.accessFault c).sec = s.sec := rfl
@[simp] theorem State.accessFault_rtcBase (s : State) {c} : (s.accessFault c).rtcBase = s.rtcBase := rfl
@[simp] theorem State.accessFault_cycle (s : State) {c} : (s.accessFault c).cycle = s.cycle := rfl
@[simp] theorem State.accessFault_drives (s : State) {c} : (s.accessFault c).drives = s.drives := rfl
@[simp] theorem State.accessFault_inlet (s : State) {c} : (s.accessFault c).inlet = s.inlet := rfl
@[simp] theorem State.accessFault_charge (s : State) {c} : (s.accessFault c).charge = s.charge := rfl
@[simp] theorem State.accessFault_supply (s : State) {c} : (s.accessFault c).supply = s.supply := rfl
@[simp] theorem State.accessFault_solar (s : State) {c} : (s.accessFault c).solar = s.solar := rfl
@[simp] theorem State.accessFault_chs (s : State) {c} : (s.accessFault c).chs = s.chs := rfl
@[simp] theorem State.accessFault_lv (s : State) {c} : (s.accessFault c).lv = s.lv := rfl
@[simp] theorem State.accessFault_keeper (s : State) {c} : (s.accessFault c).keeper = s.keeper := rfl
@[simp] theorem State.accessFault_motors (s : State) {c} : (s.accessFault c).motors = s.motors := rfl
@[simp] theorem State.accessFault_shift (s : State) {c} : (s.accessFault c).shift = s.shift := rfl
@[simp] theorem State.accessFault_park (s : State) {c} : (s.accessFault c).park = s.park := rfl
@[simp] theorem State.accessFault_clutch (s : State) {c} : (s.accessFault c).clutch = s.clutch := rfl
@[simp] theorem State.accessFault_pump (s : State) {c} : (s.accessFault c).pump = s.pump := rfl
@[simp] theorem State.accessFault_harn (s : State) {c} : (s.accessFault c).harn = s.harn := rfl
@[simp] theorem State.accessFault_thermal (s : State) {c} : (s.accessFault c).thermal = s.thermal := rfl
@[simp] theorem State.accessFault_clk (s : State) {c} : (s.accessFault c).clk = s.clk := rfl
@[simp] theorem State.accessFault_power (s : State) {c} : (s.accessFault c).power = s.power := rfl
@[simp] theorem State.accessFault_boot (s : State) {c} : (s.accessFault c).boot = s.boot := rfl
@[simp] theorem State.accessFault_pending (s : State) {c} : (s.accessFault c).pending = s.pending := rfl
@[simp] theorem State.accessFault_rd (s : State) {c} (x : Nat) : (s.accessFault c).rd x = s.rd x := rfl
@[simp] theorem State.accessFault_sig (s : State) {c} (x : Nat) : (s.accessFault c).sig x = s.sig x := rfl
@[simp] theorem State.accessFault_desc (s : State) {c} (x : Nat) : (s.accessFault c).desc x = s.desc x := rfl
@[simp] theorem State.accessFault_sramGet (s : State) {c} (x : Nat) : (s.accessFault c).sramGet x = s.sramGet x := rfl
@[simp] theorem State.accessFault_nvmGet (s : State) {c} (x : Nat) : (s.accessFault c).nvmGet x = s.nvmGet x := rfl
@[simp] theorem State.accessFault_codeGet (s : State) {c} (x : Nat) : (s.accessFault c).codeGet x = s.codeGet x := rfl
@[simp] theorem State.accessFault_pgAt (s : State) {c} (x : Nat) : (s.accessFault c).pgAt x = s.pgAt x := rfl
@[simp] theorem State.accessFault_auAt (s : State) {c} (x : Nat) : (s.accessFault c).auAt x = s.auAt x := rfl
@[simp] theorem State.accessFault_ceAt (s : State) {c} (x : Nat) : (s.accessFault c).ceAt x = s.ceAt x := rfl

/-! `returns` -/
@[simp] theorem State.returns_dtb (s : State) {c v} : (s.returns c v).dtb = s.dtb := rfl
@[simp] theorem State.returns_variant (s : State) {c v} : (s.returns c v).variant = s.variant := rfl
@[simp] theorem State.returns_regs (s : State) {c v} : (s.returns c v).regs = s.regs := rfl
@[simp] theorem State.returns_sigs (s : State) {c v} : (s.returns c v).sigs = s.sigs := rfl
@[simp] theorem State.returns_descs (s : State) {c v} : (s.returns c v).descs = s.descs := rfl
@[simp] theorem State.returns_sram (s : State) {c v} : (s.returns c v).sram = s.sram := rfl
@[simp] theorem State.returns_nvm (s : State) {c v} : (s.returns c v).nvm = s.nvm := rfl
@[simp] theorem State.returns_codeNvm (s : State) {c v} : (s.returns c v).codeNvm = s.codeNvm := rfl
@[simp] theorem State.returns_draws (s : State) {c v} : (s.returns c v).draws = s.draws := rfl
@[simp] theorem State.returns_paddock (s : State) {c v} : (s.returns c v).paddock = s.paddock := rfl
@[simp] theorem State.returns_au (s : State) {c v} : (s.returns c v).au = s.au := rfl
@[simp] theorem State.returns_joins (s : State) {c v} : (s.returns c v).joins = s.joins := rfl
@[simp] theorem State.returns_tt (s : State) {c v} : (s.returns c v).tt = s.tt := rfl
@[simp] theorem State.returns_ce (s : State) {c v} : (s.returns c v).ce = s.ce := rfl
@[simp] theorem State.returns_pg (s : State) {c v} : (s.returns c v).pg = s.pg := rfl
@[simp] theorem State.returns_tripIn (s : State) {c v} : (s.returns c v).tripIn = s.tripIn := rfl
@[simp] theorem State.returns_yarrow (s : State) {c v} : (s.returns c v).yarrow = s.yarrow := rfl
@[simp] theorem State.returns_mode (s : State) {c v} : (s.returns c v).mode = s.mode := rfl
@[simp] theorem State.returns_irqPend (s : State) {c v} : (s.returns c v).irqPend = s.irqPend := rfl
@[simp] theorem State.returns_gate (s : State) {c v} : (s.returns c v).gate = s.gate := rfl
@[simp] theorem State.returns_mg (s : State) {c v} : (s.returns c v).mg = s.mg := rfl
@[simp] theorem State.returns_bus (s : State) {c v} : (s.returns c v).bus = s.bus := rfl
@[simp] theorem State.returns_bridle (s : State) {c v} : (s.returns c v).bridle = s.bridle := rfl
@[simp] theorem State.returns_sec (s : State) {c v} : (s.returns c v).sec = s.sec := rfl
@[simp] theorem State.returns_rtcBase (s : State) {c v} : (s.returns c v).rtcBase = s.rtcBase := rfl
@[simp] theorem State.returns_cycle (s : State) {c v} : (s.returns c v).cycle = s.cycle := rfl
@[simp] theorem State.returns_drives (s : State) {c v} : (s.returns c v).drives = s.drives := rfl
@[simp] theorem State.returns_inlet (s : State) {c v} : (s.returns c v).inlet = s.inlet := rfl
@[simp] theorem State.returns_charge (s : State) {c v} : (s.returns c v).charge = s.charge := rfl
@[simp] theorem State.returns_supply (s : State) {c v} : (s.returns c v).supply = s.supply := rfl
@[simp] theorem State.returns_solar (s : State) {c v} : (s.returns c v).solar = s.solar := rfl
@[simp] theorem State.returns_chs (s : State) {c v} : (s.returns c v).chs = s.chs := rfl
@[simp] theorem State.returns_lv (s : State) {c v} : (s.returns c v).lv = s.lv := rfl
@[simp] theorem State.returns_keeper (s : State) {c v} : (s.returns c v).keeper = s.keeper := rfl
@[simp] theorem State.returns_motors (s : State) {c v} : (s.returns c v).motors = s.motors := rfl
@[simp] theorem State.returns_shift (s : State) {c v} : (s.returns c v).shift = s.shift := rfl
@[simp] theorem State.returns_park (s : State) {c v} : (s.returns c v).park = s.park := rfl
@[simp] theorem State.returns_clutch (s : State) {c v} : (s.returns c v).clutch = s.clutch := rfl
@[simp] theorem State.returns_pump (s : State) {c v} : (s.returns c v).pump = s.pump := rfl
@[simp] theorem State.returns_harn (s : State) {c v} : (s.returns c v).harn = s.harn := rfl
@[simp] theorem State.returns_thermal (s : State) {c v} : (s.returns c v).thermal = s.thermal := rfl
@[simp] theorem State.returns_clk (s : State) {c v} : (s.returns c v).clk = s.clk := rfl
@[simp] theorem State.returns_power (s : State) {c v} : (s.returns c v).power = s.power := rfl
@[simp] theorem State.returns_boot (s : State) {c v} : (s.returns c v).boot = s.boot := rfl
@[simp] theorem State.returns_pending (s : State) {c v} : (s.returns c v).pending = s.pending := rfl
@[simp] theorem State.returns_rd (s : State) {c v} (x : Nat) : (s.returns c v).rd x = s.rd x := rfl
@[simp] theorem State.returns_sig (s : State) {c v} (x : Nat) : (s.returns c v).sig x = s.sig x := rfl
@[simp] theorem State.returns_desc (s : State) {c v} (x : Nat) : (s.returns c v).desc x = s.desc x := rfl
@[simp] theorem State.returns_sramGet (s : State) {c v} (x : Nat) : (s.returns c v).sramGet x = s.sramGet x := rfl
@[simp] theorem State.returns_nvmGet (s : State) {c v} (x : Nat) : (s.returns c v).nvmGet x = s.nvmGet x := rfl
@[simp] theorem State.returns_codeGet (s : State) {c v} (x : Nat) : (s.returns c v).codeGet x = s.codeGet x := rfl
@[simp] theorem State.returns_pgAt (s : State) {c v} (x : Nat) : (s.returns c v).pgAt x = s.pgAt x := rfl
@[simp] theorem State.returns_auAt (s : State) {c v} (x : Nat) : (s.returns c v).auAt x = s.auAt x := rfl
@[simp] theorem State.returns_ceAt (s : State) {c v} (x : Nat) : (s.returns c v).ceAt x = s.ceAt x := rfl

/-! `modPower` -/
@[simp] theorem State.modPower_dtb (s : State) {f} : (s.modPower f).dtb = s.dtb := rfl
@[simp] theorem State.modPower_variant (s : State) {f} : (s.modPower f).variant = s.variant := rfl
@[simp] theorem State.modPower_regs (s : State) {f} : (s.modPower f).regs = s.regs := rfl
@[simp] theorem State.modPower_sigs (s : State) {f} : (s.modPower f).sigs = s.sigs := rfl
@[simp] theorem State.modPower_descs (s : State) {f} : (s.modPower f).descs = s.descs := rfl
@[simp] theorem State.modPower_sram (s : State) {f} : (s.modPower f).sram = s.sram := rfl
@[simp] theorem State.modPower_nvm (s : State) {f} : (s.modPower f).nvm = s.nvm := rfl
@[simp] theorem State.modPower_codeNvm (s : State) {f} : (s.modPower f).codeNvm = s.codeNvm := rfl
@[simp] theorem State.modPower_draws (s : State) {f} : (s.modPower f).draws = s.draws := rfl
@[simp] theorem State.modPower_cores (s : State) {f} : (s.modPower f).cores = s.cores := rfl
@[simp] theorem State.modPower_paddock (s : State) {f} : (s.modPower f).paddock = s.paddock := rfl
@[simp] theorem State.modPower_au (s : State) {f} : (s.modPower f).au = s.au := rfl
@[simp] theorem State.modPower_joins (s : State) {f} : (s.modPower f).joins = s.joins := rfl
@[simp] theorem State.modPower_tt (s : State) {f} : (s.modPower f).tt = s.tt := rfl
@[simp] theorem State.modPower_ce (s : State) {f} : (s.modPower f).ce = s.ce := rfl
@[simp] theorem State.modPower_pg (s : State) {f} : (s.modPower f).pg = s.pg := rfl
@[simp] theorem State.modPower_tripIn (s : State) {f} : (s.modPower f).tripIn = s.tripIn := rfl
@[simp] theorem State.modPower_yarrow (s : State) {f} : (s.modPower f).yarrow = s.yarrow := rfl
@[simp] theorem State.modPower_mode (s : State) {f} : (s.modPower f).mode = s.mode := rfl
@[simp] theorem State.modPower_irqPend (s : State) {f} : (s.modPower f).irqPend = s.irqPend := rfl
@[simp] theorem State.modPower_gate (s : State) {f} : (s.modPower f).gate = s.gate := rfl
@[simp] theorem State.modPower_mg (s : State) {f} : (s.modPower f).mg = s.mg := rfl
@[simp] theorem State.modPower_bus (s : State) {f} : (s.modPower f).bus = s.bus := rfl
@[simp] theorem State.modPower_bridle (s : State) {f} : (s.modPower f).bridle = s.bridle := rfl
@[simp] theorem State.modPower_sec (s : State) {f} : (s.modPower f).sec = s.sec := rfl
@[simp] theorem State.modPower_rtcBase (s : State) {f} : (s.modPower f).rtcBase = s.rtcBase := rfl
@[simp] theorem State.modPower_cycle (s : State) {f} : (s.modPower f).cycle = s.cycle := rfl
@[simp] theorem State.modPower_drives (s : State) {f} : (s.modPower f).drives = s.drives := rfl
@[simp] theorem State.modPower_inlet (s : State) {f} : (s.modPower f).inlet = s.inlet := rfl
@[simp] theorem State.modPower_charge (s : State) {f} : (s.modPower f).charge = s.charge := rfl
@[simp] theorem State.modPower_supply (s : State) {f} : (s.modPower f).supply = s.supply := rfl
@[simp] theorem State.modPower_solar (s : State) {f} : (s.modPower f).solar = s.solar := rfl
@[simp] theorem State.modPower_chs (s : State) {f} : (s.modPower f).chs = s.chs := rfl
@[simp] theorem State.modPower_lv (s : State) {f} : (s.modPower f).lv = s.lv := rfl
@[simp] theorem State.modPower_keeper (s : State) {f} : (s.modPower f).keeper = s.keeper := rfl
@[simp] theorem State.modPower_motors (s : State) {f} : (s.modPower f).motors = s.motors := rfl
@[simp] theorem State.modPower_shift (s : State) {f} : (s.modPower f).shift = s.shift := rfl
@[simp] theorem State.modPower_park (s : State) {f} : (s.modPower f).park = s.park := rfl
@[simp] theorem State.modPower_clutch (s : State) {f} : (s.modPower f).clutch = s.clutch := rfl
@[simp] theorem State.modPower_pump (s : State) {f} : (s.modPower f).pump = s.pump := rfl
@[simp] theorem State.modPower_harn (s : State) {f} : (s.modPower f).harn = s.harn := rfl
@[simp] theorem State.modPower_thermal (s : State) {f} : (s.modPower f).thermal = s.thermal := rfl
@[simp] theorem State.modPower_clk (s : State) {f} : (s.modPower f).clk = s.clk := rfl
@[simp] theorem State.modPower_boot (s : State) {f} : (s.modPower f).boot = s.boot := rfl
@[simp] theorem State.modPower_pending (s : State) {f} : (s.modPower f).pending = s.pending := rfl
@[simp] theorem State.modPower_rd (s : State) {f} (x : Nat) : (s.modPower f).rd x = s.rd x := rfl
@[simp] theorem State.modPower_sig (s : State) {f} (x : Nat) : (s.modPower f).sig x = s.sig x := rfl
@[simp] theorem State.modPower_desc (s : State) {f} (x : Nat) : (s.modPower f).desc x = s.desc x := rfl
@[simp] theorem State.modPower_sramGet (s : State) {f} (x : Nat) : (s.modPower f).sramGet x = s.sramGet x := rfl
@[simp] theorem State.modPower_nvmGet (s : State) {f} (x : Nat) : (s.modPower f).nvmGet x = s.nvmGet x := rfl
@[simp] theorem State.modPower_codeGet (s : State) {f} (x : Nat) : (s.modPower f).codeGet x = s.codeGet x := rfl
@[simp] theorem State.modPower_pgAt (s : State) {f} (x : Nat) : (s.modPower f).pgAt x = s.pgAt x := rfl
@[simp] theorem State.modPower_auAt (s : State) {f} (x : Nat) : (s.modPower f).auAt x = s.auAt x := rfl
@[simp] theorem State.modPower_ceAt (s : State) {f} (x : Nat) : (s.modPower f).ceAt x = s.ceAt x := rfl
@[simp] theorem State.modPower_coreAt (s : State) {f} (x : Nat) : (s.modPower f).coreAt x = s.coreAt x := rfl
@[simp] theorem State.modPower_own (s : State) {f} : (s.modPower f).power = f s.power := rfl

/-! `report` -/
@[simp] theorem State.report_dtb (s : State) {cls scope rx} : (s.report cls scope rx).dtb = s.dtb := rfl
@[simp] theorem State.report_variant (s : State) {cls scope rx} : (s.report cls scope rx).variant = s.variant := rfl
@[simp] theorem State.report_regs (s : State) {cls scope rx} : (s.report cls scope rx).regs = s.regs := rfl
@[simp] theorem State.report_sigs (s : State) {cls scope rx} : (s.report cls scope rx).sigs = s.sigs := rfl
@[simp] theorem State.report_descs (s : State) {cls scope rx} : (s.report cls scope rx).descs = s.descs := rfl
@[simp] theorem State.report_sram (s : State) {cls scope rx} : (s.report cls scope rx).sram = s.sram := rfl
@[simp] theorem State.report_nvm (s : State) {cls scope rx} : (s.report cls scope rx).nvm = s.nvm := rfl
@[simp] theorem State.report_codeNvm (s : State) {cls scope rx} : (s.report cls scope rx).codeNvm = s.codeNvm := rfl
@[simp] theorem State.report_draws (s : State) {cls scope rx} : (s.report cls scope rx).draws = s.draws := rfl
@[simp] theorem State.report_cores (s : State) {cls scope rx} : (s.report cls scope rx).cores = s.cores := rfl
@[simp] theorem State.report_paddock (s : State) {cls scope rx} : (s.report cls scope rx).paddock = s.paddock := rfl
@[simp] theorem State.report_au (s : State) {cls scope rx} : (s.report cls scope rx).au = s.au := rfl
@[simp] theorem State.report_joins (s : State) {cls scope rx} : (s.report cls scope rx).joins = s.joins := rfl
@[simp] theorem State.report_tt (s : State) {cls scope rx} : (s.report cls scope rx).tt = s.tt := rfl
@[simp] theorem State.report_ce (s : State) {cls scope rx} : (s.report cls scope rx).ce = s.ce := rfl
@[simp] theorem State.report_pg (s : State) {cls scope rx} : (s.report cls scope rx).pg = s.pg := rfl
@[simp] theorem State.report_tripIn (s : State) {cls scope rx} : (s.report cls scope rx).tripIn = s.tripIn := rfl
@[simp] theorem State.report_yarrow (s : State) {cls scope rx} : (s.report cls scope rx).yarrow = s.yarrow := rfl
@[simp] theorem State.report_mode (s : State) {cls scope rx} : (s.report cls scope rx).mode = s.mode := rfl
@[simp] theorem State.report_irqPend (s : State) {cls scope rx} : (s.report cls scope rx).irqPend = s.irqPend := rfl
@[simp] theorem State.report_gate (s : State) {cls scope rx} : (s.report cls scope rx).gate = s.gate := rfl
@[simp] theorem State.report_bus (s : State) {cls scope rx} : (s.report cls scope rx).bus = s.bus := rfl
@[simp] theorem State.report_bridle (s : State) {cls scope rx} : (s.report cls scope rx).bridle = s.bridle := rfl
@[simp] theorem State.report_sec (s : State) {cls scope rx} : (s.report cls scope rx).sec = s.sec := rfl
@[simp] theorem State.report_rtcBase (s : State) {cls scope rx} : (s.report cls scope rx).rtcBase = s.rtcBase := rfl
@[simp] theorem State.report_cycle (s : State) {cls scope rx} : (s.report cls scope rx).cycle = s.cycle := rfl
@[simp] theorem State.report_drives (s : State) {cls scope rx} : (s.report cls scope rx).drives = s.drives := rfl
@[simp] theorem State.report_inlet (s : State) {cls scope rx} : (s.report cls scope rx).inlet = s.inlet := rfl
@[simp] theorem State.report_charge (s : State) {cls scope rx} : (s.report cls scope rx).charge = s.charge := rfl
@[simp] theorem State.report_supply (s : State) {cls scope rx} : (s.report cls scope rx).supply = s.supply := rfl
@[simp] theorem State.report_solar (s : State) {cls scope rx} : (s.report cls scope rx).solar = s.solar := rfl
@[simp] theorem State.report_chs (s : State) {cls scope rx} : (s.report cls scope rx).chs = s.chs := rfl
@[simp] theorem State.report_lv (s : State) {cls scope rx} : (s.report cls scope rx).lv = s.lv := rfl
@[simp] theorem State.report_keeper (s : State) {cls scope rx} : (s.report cls scope rx).keeper = s.keeper := rfl
@[simp] theorem State.report_motors (s : State) {cls scope rx} : (s.report cls scope rx).motors = s.motors := rfl
@[simp] theorem State.report_shift (s : State) {cls scope rx} : (s.report cls scope rx).shift = s.shift := rfl
@[simp] theorem State.report_park (s : State) {cls scope rx} : (s.report cls scope rx).park = s.park := rfl
@[simp] theorem State.report_clutch (s : State) {cls scope rx} : (s.report cls scope rx).clutch = s.clutch := rfl
@[simp] theorem State.report_pump (s : State) {cls scope rx} : (s.report cls scope rx).pump = s.pump := rfl
@[simp] theorem State.report_harn (s : State) {cls scope rx} : (s.report cls scope rx).harn = s.harn := rfl
@[simp] theorem State.report_thermal (s : State) {cls scope rx} : (s.report cls scope rx).thermal = s.thermal := rfl
@[simp] theorem State.report_clk (s : State) {cls scope rx} : (s.report cls scope rx).clk = s.clk := rfl
@[simp] theorem State.report_power (s : State) {cls scope rx} : (s.report cls scope rx).power = s.power := rfl
@[simp] theorem State.report_boot (s : State) {cls scope rx} : (s.report cls scope rx).boot = s.boot := rfl
@[simp] theorem State.report_pending (s : State) {cls scope rx} : (s.report cls scope rx).pending = s.pending := rfl
@[simp] theorem State.report_rd (s : State) {cls scope rx} (x : Nat) : (s.report cls scope rx).rd x = s.rd x := rfl
@[simp] theorem State.report_sig (s : State) {cls scope rx} (x : Nat) : (s.report cls scope rx).sig x = s.sig x := rfl
@[simp] theorem State.report_desc (s : State) {cls scope rx} (x : Nat) : (s.report cls scope rx).desc x = s.desc x := rfl
@[simp] theorem State.report_sramGet (s : State) {cls scope rx} (x : Nat) : (s.report cls scope rx).sramGet x = s.sramGet x := rfl
@[simp] theorem State.report_nvmGet (s : State) {cls scope rx} (x : Nat) : (s.report cls scope rx).nvmGet x = s.nvmGet x := rfl
@[simp] theorem State.report_codeGet (s : State) {cls scope rx} (x : Nat) : (s.report cls scope rx).codeGet x = s.codeGet x := rfl
@[simp] theorem State.report_pgAt (s : State) {cls scope rx} (x : Nat) : (s.report cls scope rx).pgAt x = s.pgAt x := rfl
@[simp] theorem State.report_auAt (s : State) {cls scope rx} (x : Nat) : (s.report cls scope rx).auAt x = s.auAt x := rfl
@[simp] theorem State.report_ceAt (s : State) {cls scope rx} (x : Nat) : (s.report cls scope rx).ceAt x = s.ceAt x := rfl
@[simp] theorem State.report_coreAt (s : State) {cls scope rx} (x : Nat) : (s.report cls scope rx).coreAt x = s.coreAt x := rfl
@[simp] theorem State.report_own (s : State) {cls scope rx} : (s.report cls scope rx).mg = { s.mg with reports := s.mg.reports ++ [{ cls := cls, scope := scope, rx := rx }] } := rfl

/-! `modPaddock` -/
@[simp] theorem State.modPaddock_dtb (s : State) {f} : (s.modPaddock f).dtb = s.dtb := rfl
@[simp] theorem State.modPaddock_variant (s : State) {f} : (s.modPaddock f).variant = s.variant := rfl
@[simp] theorem State.modPaddock_regs (s : State) {f} : (s.modPaddock f).regs = s.regs := rfl
@[simp] theorem State.modPaddock_sigs (s : State) {f} : (s.modPaddock f).sigs = s.sigs := rfl
@[simp] theorem State.modPaddock_descs (s : State) {f} : (s.modPaddock f).descs = s.descs := rfl
@[simp] theorem State.modPaddock_sram (s : State) {f} : (s.modPaddock f).sram = s.sram := rfl
@[simp] theorem State.modPaddock_nvm (s : State) {f} : (s.modPaddock f).nvm = s.nvm := rfl
@[simp] theorem State.modPaddock_codeNvm (s : State) {f} : (s.modPaddock f).codeNvm = s.codeNvm := rfl
@[simp] theorem State.modPaddock_draws (s : State) {f} : (s.modPaddock f).draws = s.draws := rfl
@[simp] theorem State.modPaddock_cores (s : State) {f} : (s.modPaddock f).cores = s.cores := rfl
@[simp] theorem State.modPaddock_au (s : State) {f} : (s.modPaddock f).au = s.au := rfl
@[simp] theorem State.modPaddock_joins (s : State) {f} : (s.modPaddock f).joins = s.joins := rfl
@[simp] theorem State.modPaddock_tt (s : State) {f} : (s.modPaddock f).tt = s.tt := rfl
@[simp] theorem State.modPaddock_ce (s : State) {f} : (s.modPaddock f).ce = s.ce := rfl
@[simp] theorem State.modPaddock_pg (s : State) {f} : (s.modPaddock f).pg = s.pg := rfl
@[simp] theorem State.modPaddock_tripIn (s : State) {f} : (s.modPaddock f).tripIn = s.tripIn := rfl
@[simp] theorem State.modPaddock_yarrow (s : State) {f} : (s.modPaddock f).yarrow = s.yarrow := rfl
@[simp] theorem State.modPaddock_mode (s : State) {f} : (s.modPaddock f).mode = s.mode := rfl
@[simp] theorem State.modPaddock_irqPend (s : State) {f} : (s.modPaddock f).irqPend = s.irqPend := rfl
@[simp] theorem State.modPaddock_gate (s : State) {f} : (s.modPaddock f).gate = s.gate := rfl
@[simp] theorem State.modPaddock_mg (s : State) {f} : (s.modPaddock f).mg = s.mg := rfl
@[simp] theorem State.modPaddock_bus (s : State) {f} : (s.modPaddock f).bus = s.bus := rfl
@[simp] theorem State.modPaddock_bridle (s : State) {f} : (s.modPaddock f).bridle = s.bridle := rfl
@[simp] theorem State.modPaddock_sec (s : State) {f} : (s.modPaddock f).sec = s.sec := rfl
@[simp] theorem State.modPaddock_rtcBase (s : State) {f} : (s.modPaddock f).rtcBase = s.rtcBase := rfl
@[simp] theorem State.modPaddock_cycle (s : State) {f} : (s.modPaddock f).cycle = s.cycle := rfl
@[simp] theorem State.modPaddock_drives (s : State) {f} : (s.modPaddock f).drives = s.drives := rfl
@[simp] theorem State.modPaddock_inlet (s : State) {f} : (s.modPaddock f).inlet = s.inlet := rfl
@[simp] theorem State.modPaddock_charge (s : State) {f} : (s.modPaddock f).charge = s.charge := rfl
@[simp] theorem State.modPaddock_supply (s : State) {f} : (s.modPaddock f).supply = s.supply := rfl
@[simp] theorem State.modPaddock_solar (s : State) {f} : (s.modPaddock f).solar = s.solar := rfl
@[simp] theorem State.modPaddock_chs (s : State) {f} : (s.modPaddock f).chs = s.chs := rfl
@[simp] theorem State.modPaddock_lv (s : State) {f} : (s.modPaddock f).lv = s.lv := rfl
@[simp] theorem State.modPaddock_keeper (s : State) {f} : (s.modPaddock f).keeper = s.keeper := rfl
@[simp] theorem State.modPaddock_motors (s : State) {f} : (s.modPaddock f).motors = s.motors := rfl
@[simp] theorem State.modPaddock_shift (s : State) {f} : (s.modPaddock f).shift = s.shift := rfl
@[simp] theorem State.modPaddock_park (s : State) {f} : (s.modPaddock f).park = s.park := rfl
@[simp] theorem State.modPaddock_clutch (s : State) {f} : (s.modPaddock f).clutch = s.clutch := rfl
@[simp] theorem State.modPaddock_pump (s : State) {f} : (s.modPaddock f).pump = s.pump := rfl
@[simp] theorem State.modPaddock_harn (s : State) {f} : (s.modPaddock f).harn = s.harn := rfl
@[simp] theorem State.modPaddock_thermal (s : State) {f} : (s.modPaddock f).thermal = s.thermal := rfl
@[simp] theorem State.modPaddock_clk (s : State) {f} : (s.modPaddock f).clk = s.clk := rfl
@[simp] theorem State.modPaddock_power (s : State) {f} : (s.modPaddock f).power = s.power := rfl
@[simp] theorem State.modPaddock_boot (s : State) {f} : (s.modPaddock f).boot = s.boot := rfl
@[simp] theorem State.modPaddock_pending (s : State) {f} : (s.modPaddock f).pending = s.pending := rfl
@[simp] theorem State.modPaddock_rd (s : State) {f} (x : Nat) : (s.modPaddock f).rd x = s.rd x := rfl
@[simp] theorem State.modPaddock_sig (s : State) {f} (x : Nat) : (s.modPaddock f).sig x = s.sig x := rfl
@[simp] theorem State.modPaddock_desc (s : State) {f} (x : Nat) : (s.modPaddock f).desc x = s.desc x := rfl
@[simp] theorem State.modPaddock_sramGet (s : State) {f} (x : Nat) : (s.modPaddock f).sramGet x = s.sramGet x := rfl
@[simp] theorem State.modPaddock_nvmGet (s : State) {f} (x : Nat) : (s.modPaddock f).nvmGet x = s.nvmGet x := rfl
@[simp] theorem State.modPaddock_codeGet (s : State) {f} (x : Nat) : (s.modPaddock f).codeGet x = s.codeGet x := rfl
@[simp] theorem State.modPaddock_pgAt (s : State) {f} (x : Nat) : (s.modPaddock f).pgAt x = s.pgAt x := rfl
@[simp] theorem State.modPaddock_auAt (s : State) {f} (x : Nat) : (s.modPaddock f).auAt x = s.auAt x := rfl
@[simp] theorem State.modPaddock_ceAt (s : State) {f} (x : Nat) : (s.modPaddock f).ceAt x = s.ceAt x := rfl
@[simp] theorem State.modPaddock_coreAt (s : State) {f} (x : Nat) : (s.modPaddock f).coreAt x = s.coreAt x := rfl
@[simp] theorem State.modPaddock_own (s : State) {f} : (s.modPaddock f).paddock = f s.paddock := rfl

/-! `modTripIn` -/
@[simp] theorem State.modTripIn_dtb (s : State) {i f} : (s.modTripIn i f).dtb = s.dtb := rfl
@[simp] theorem State.modTripIn_variant (s : State) {i f} : (s.modTripIn i f).variant = s.variant := rfl
@[simp] theorem State.modTripIn_regs (s : State) {i f} : (s.modTripIn i f).regs = s.regs := rfl
@[simp] theorem State.modTripIn_sigs (s : State) {i f} : (s.modTripIn i f).sigs = s.sigs := rfl
@[simp] theorem State.modTripIn_descs (s : State) {i f} : (s.modTripIn i f).descs = s.descs := rfl
@[simp] theorem State.modTripIn_sram (s : State) {i f} : (s.modTripIn i f).sram = s.sram := rfl
@[simp] theorem State.modTripIn_nvm (s : State) {i f} : (s.modTripIn i f).nvm = s.nvm := rfl
@[simp] theorem State.modTripIn_codeNvm (s : State) {i f} : (s.modTripIn i f).codeNvm = s.codeNvm := rfl
@[simp] theorem State.modTripIn_draws (s : State) {i f} : (s.modTripIn i f).draws = s.draws := rfl
@[simp] theorem State.modTripIn_cores (s : State) {i f} : (s.modTripIn i f).cores = s.cores := rfl
@[simp] theorem State.modTripIn_paddock (s : State) {i f} : (s.modTripIn i f).paddock = s.paddock := rfl
@[simp] theorem State.modTripIn_au (s : State) {i f} : (s.modTripIn i f).au = s.au := rfl
@[simp] theorem State.modTripIn_joins (s : State) {i f} : (s.modTripIn i f).joins = s.joins := rfl
@[simp] theorem State.modTripIn_tt (s : State) {i f} : (s.modTripIn i f).tt = s.tt := rfl
@[simp] theorem State.modTripIn_ce (s : State) {i f} : (s.modTripIn i f).ce = s.ce := rfl
@[simp] theorem State.modTripIn_pg (s : State) {i f} : (s.modTripIn i f).pg = s.pg := rfl
@[simp] theorem State.modTripIn_yarrow (s : State) {i f} : (s.modTripIn i f).yarrow = s.yarrow := rfl
@[simp] theorem State.modTripIn_mode (s : State) {i f} : (s.modTripIn i f).mode = s.mode := rfl
@[simp] theorem State.modTripIn_irqPend (s : State) {i f} : (s.modTripIn i f).irqPend = s.irqPend := rfl
@[simp] theorem State.modTripIn_gate (s : State) {i f} : (s.modTripIn i f).gate = s.gate := rfl
@[simp] theorem State.modTripIn_mg (s : State) {i f} : (s.modTripIn i f).mg = s.mg := rfl
@[simp] theorem State.modTripIn_bus (s : State) {i f} : (s.modTripIn i f).bus = s.bus := rfl
@[simp] theorem State.modTripIn_bridle (s : State) {i f} : (s.modTripIn i f).bridle = s.bridle := rfl
@[simp] theorem State.modTripIn_sec (s : State) {i f} : (s.modTripIn i f).sec = s.sec := rfl
@[simp] theorem State.modTripIn_rtcBase (s : State) {i f} : (s.modTripIn i f).rtcBase = s.rtcBase := rfl
@[simp] theorem State.modTripIn_cycle (s : State) {i f} : (s.modTripIn i f).cycle = s.cycle := rfl
@[simp] theorem State.modTripIn_drives (s : State) {i f} : (s.modTripIn i f).drives = s.drives := rfl
@[simp] theorem State.modTripIn_inlet (s : State) {i f} : (s.modTripIn i f).inlet = s.inlet := rfl
@[simp] theorem State.modTripIn_charge (s : State) {i f} : (s.modTripIn i f).charge = s.charge := rfl
@[simp] theorem State.modTripIn_supply (s : State) {i f} : (s.modTripIn i f).supply = s.supply := rfl
@[simp] theorem State.modTripIn_solar (s : State) {i f} : (s.modTripIn i f).solar = s.solar := rfl
@[simp] theorem State.modTripIn_chs (s : State) {i f} : (s.modTripIn i f).chs = s.chs := rfl
@[simp] theorem State.modTripIn_lv (s : State) {i f} : (s.modTripIn i f).lv = s.lv := rfl
@[simp] theorem State.modTripIn_keeper (s : State) {i f} : (s.modTripIn i f).keeper = s.keeper := rfl
@[simp] theorem State.modTripIn_motors (s : State) {i f} : (s.modTripIn i f).motors = s.motors := rfl
@[simp] theorem State.modTripIn_shift (s : State) {i f} : (s.modTripIn i f).shift = s.shift := rfl
@[simp] theorem State.modTripIn_park (s : State) {i f} : (s.modTripIn i f).park = s.park := rfl
@[simp] theorem State.modTripIn_clutch (s : State) {i f} : (s.modTripIn i f).clutch = s.clutch := rfl
@[simp] theorem State.modTripIn_pump (s : State) {i f} : (s.modTripIn i f).pump = s.pump := rfl
@[simp] theorem State.modTripIn_harn (s : State) {i f} : (s.modTripIn i f).harn = s.harn := rfl
@[simp] theorem State.modTripIn_thermal (s : State) {i f} : (s.modTripIn i f).thermal = s.thermal := rfl
@[simp] theorem State.modTripIn_clk (s : State) {i f} : (s.modTripIn i f).clk = s.clk := rfl
@[simp] theorem State.modTripIn_power (s : State) {i f} : (s.modTripIn i f).power = s.power := rfl
@[simp] theorem State.modTripIn_boot (s : State) {i f} : (s.modTripIn i f).boot = s.boot := rfl
@[simp] theorem State.modTripIn_pending (s : State) {i f} : (s.modTripIn i f).pending = s.pending := rfl
@[simp] theorem State.modTripIn_rd (s : State) {i f} (x : Nat) : (s.modTripIn i f).rd x = s.rd x := rfl
@[simp] theorem State.modTripIn_sig (s : State) {i f} (x : Nat) : (s.modTripIn i f).sig x = s.sig x := rfl
@[simp] theorem State.modTripIn_desc (s : State) {i f} (x : Nat) : (s.modTripIn i f).desc x = s.desc x := rfl
@[simp] theorem State.modTripIn_sramGet (s : State) {i f} (x : Nat) : (s.modTripIn i f).sramGet x = s.sramGet x := rfl
@[simp] theorem State.modTripIn_nvmGet (s : State) {i f} (x : Nat) : (s.modTripIn i f).nvmGet x = s.nvmGet x := rfl
@[simp] theorem State.modTripIn_codeGet (s : State) {i f} (x : Nat) : (s.modTripIn i f).codeGet x = s.codeGet x := rfl
@[simp] theorem State.modTripIn_pgAt (s : State) {i f} (x : Nat) : (s.modTripIn i f).pgAt x = s.pgAt x := rfl
@[simp] theorem State.modTripIn_auAt (s : State) {i f} (x : Nat) : (s.modTripIn i f).auAt x = s.auAt x := rfl
@[simp] theorem State.modTripIn_ceAt (s : State) {i f} (x : Nat) : (s.modTripIn i f).ceAt x = s.ceAt x := rfl
@[simp] theorem State.modTripIn_coreAt (s : State) {i f} (x : Nat) : (s.modTripIn i f).coreAt x = s.coreAt x := rfl
@[simp] theorem State.modTripIn_own (s : State) {i f} : (s.modTripIn i f).tripIn = s.tripIn.modify i f := rfl

/-! `modGate` -/
@[simp] theorem State.modGate_dtb (s : State) {f} : (s.modGate f).dtb = s.dtb := rfl
@[simp] theorem State.modGate_variant (s : State) {f} : (s.modGate f).variant = s.variant := rfl
@[simp] theorem State.modGate_regs (s : State) {f} : (s.modGate f).regs = s.regs := rfl
@[simp] theorem State.modGate_sigs (s : State) {f} : (s.modGate f).sigs = s.sigs := rfl
@[simp] theorem State.modGate_descs (s : State) {f} : (s.modGate f).descs = s.descs := rfl
@[simp] theorem State.modGate_sram (s : State) {f} : (s.modGate f).sram = s.sram := rfl
@[simp] theorem State.modGate_nvm (s : State) {f} : (s.modGate f).nvm = s.nvm := rfl
@[simp] theorem State.modGate_codeNvm (s : State) {f} : (s.modGate f).codeNvm = s.codeNvm := rfl
@[simp] theorem State.modGate_draws (s : State) {f} : (s.modGate f).draws = s.draws := rfl
@[simp] theorem State.modGate_cores (s : State) {f} : (s.modGate f).cores = s.cores := rfl
@[simp] theorem State.modGate_paddock (s : State) {f} : (s.modGate f).paddock = s.paddock := rfl
@[simp] theorem State.modGate_au (s : State) {f} : (s.modGate f).au = s.au := rfl
@[simp] theorem State.modGate_joins (s : State) {f} : (s.modGate f).joins = s.joins := rfl
@[simp] theorem State.modGate_tt (s : State) {f} : (s.modGate f).tt = s.tt := rfl
@[simp] theorem State.modGate_ce (s : State) {f} : (s.modGate f).ce = s.ce := rfl
@[simp] theorem State.modGate_pg (s : State) {f} : (s.modGate f).pg = s.pg := rfl
@[simp] theorem State.modGate_tripIn (s : State) {f} : (s.modGate f).tripIn = s.tripIn := rfl
@[simp] theorem State.modGate_yarrow (s : State) {f} : (s.modGate f).yarrow = s.yarrow := rfl
@[simp] theorem State.modGate_mode (s : State) {f} : (s.modGate f).mode = s.mode := rfl
@[simp] theorem State.modGate_irqPend (s : State) {f} : (s.modGate f).irqPend = s.irqPend := rfl
@[simp] theorem State.modGate_mg (s : State) {f} : (s.modGate f).mg = s.mg := rfl
@[simp] theorem State.modGate_bus (s : State) {f} : (s.modGate f).bus = s.bus := rfl
@[simp] theorem State.modGate_bridle (s : State) {f} : (s.modGate f).bridle = s.bridle := rfl
@[simp] theorem State.modGate_sec (s : State) {f} : (s.modGate f).sec = s.sec := rfl
@[simp] theorem State.modGate_rtcBase (s : State) {f} : (s.modGate f).rtcBase = s.rtcBase := rfl
@[simp] theorem State.modGate_cycle (s : State) {f} : (s.modGate f).cycle = s.cycle := rfl
@[simp] theorem State.modGate_drives (s : State) {f} : (s.modGate f).drives = s.drives := rfl
@[simp] theorem State.modGate_inlet (s : State) {f} : (s.modGate f).inlet = s.inlet := rfl
@[simp] theorem State.modGate_charge (s : State) {f} : (s.modGate f).charge = s.charge := rfl
@[simp] theorem State.modGate_supply (s : State) {f} : (s.modGate f).supply = s.supply := rfl
@[simp] theorem State.modGate_solar (s : State) {f} : (s.modGate f).solar = s.solar := rfl
@[simp] theorem State.modGate_chs (s : State) {f} : (s.modGate f).chs = s.chs := rfl
@[simp] theorem State.modGate_lv (s : State) {f} : (s.modGate f).lv = s.lv := rfl
@[simp] theorem State.modGate_keeper (s : State) {f} : (s.modGate f).keeper = s.keeper := rfl
@[simp] theorem State.modGate_motors (s : State) {f} : (s.modGate f).motors = s.motors := rfl
@[simp] theorem State.modGate_shift (s : State) {f} : (s.modGate f).shift = s.shift := rfl
@[simp] theorem State.modGate_park (s : State) {f} : (s.modGate f).park = s.park := rfl
@[simp] theorem State.modGate_clutch (s : State) {f} : (s.modGate f).clutch = s.clutch := rfl
@[simp] theorem State.modGate_pump (s : State) {f} : (s.modGate f).pump = s.pump := rfl
@[simp] theorem State.modGate_harn (s : State) {f} : (s.modGate f).harn = s.harn := rfl
@[simp] theorem State.modGate_thermal (s : State) {f} : (s.modGate f).thermal = s.thermal := rfl
@[simp] theorem State.modGate_clk (s : State) {f} : (s.modGate f).clk = s.clk := rfl
@[simp] theorem State.modGate_power (s : State) {f} : (s.modGate f).power = s.power := rfl
@[simp] theorem State.modGate_boot (s : State) {f} : (s.modGate f).boot = s.boot := rfl
@[simp] theorem State.modGate_pending (s : State) {f} : (s.modGate f).pending = s.pending := rfl
@[simp] theorem State.modGate_rd (s : State) {f} (x : Nat) : (s.modGate f).rd x = s.rd x := rfl
@[simp] theorem State.modGate_sig (s : State) {f} (x : Nat) : (s.modGate f).sig x = s.sig x := rfl
@[simp] theorem State.modGate_desc (s : State) {f} (x : Nat) : (s.modGate f).desc x = s.desc x := rfl
@[simp] theorem State.modGate_sramGet (s : State) {f} (x : Nat) : (s.modGate f).sramGet x = s.sramGet x := rfl
@[simp] theorem State.modGate_nvmGet (s : State) {f} (x : Nat) : (s.modGate f).nvmGet x = s.nvmGet x := rfl
@[simp] theorem State.modGate_codeGet (s : State) {f} (x : Nat) : (s.modGate f).codeGet x = s.codeGet x := rfl
@[simp] theorem State.modGate_pgAt (s : State) {f} (x : Nat) : (s.modGate f).pgAt x = s.pgAt x := rfl
@[simp] theorem State.modGate_auAt (s : State) {f} (x : Nat) : (s.modGate f).auAt x = s.auAt x := rfl
@[simp] theorem State.modGate_ceAt (s : State) {f} (x : Nat) : (s.modGate f).ceAt x = s.ceAt x := rfl
@[simp] theorem State.modGate_coreAt (s : State) {f} (x : Nat) : (s.modGate f).coreAt x = s.coreAt x := rfl
@[simp] theorem State.modGate_own (s : State) {f} : (s.modGate f).gate = f s.gate := rfl

/-! `modHv` -/
@[simp] theorem State.modHv_dtb (s : State) {n f} : (s.modHv n f).dtb = s.dtb := rfl
@[simp] theorem State.modHv_variant (s : State) {n f} : (s.modHv n f).variant = s.variant := rfl
@[simp] theorem State.modHv_regs (s : State) {n f} : (s.modHv n f).regs = s.regs := rfl
@[simp] theorem State.modHv_sigs (s : State) {n f} : (s.modHv n f).sigs = s.sigs := rfl
@[simp] theorem State.modHv_descs (s : State) {n f} : (s.modHv n f).descs = s.descs := rfl
@[simp] theorem State.modHv_sram (s : State) {n f} : (s.modHv n f).sram = s.sram := rfl
@[simp] theorem State.modHv_nvm (s : State) {n f} : (s.modHv n f).nvm = s.nvm := rfl
@[simp] theorem State.modHv_codeNvm (s : State) {n f} : (s.modHv n f).codeNvm = s.codeNvm := rfl
@[simp] theorem State.modHv_draws (s : State) {n f} : (s.modHv n f).draws = s.draws := rfl
@[simp] theorem State.modHv_cores (s : State) {n f} : (s.modHv n f).cores = s.cores := rfl
@[simp] theorem State.modHv_paddock (s : State) {n f} : (s.modHv n f).paddock = s.paddock := rfl
@[simp] theorem State.modHv_au (s : State) {n f} : (s.modHv n f).au = s.au := rfl
@[simp] theorem State.modHv_joins (s : State) {n f} : (s.modHv n f).joins = s.joins := rfl
@[simp] theorem State.modHv_tt (s : State) {n f} : (s.modHv n f).tt = s.tt := rfl
@[simp] theorem State.modHv_ce (s : State) {n f} : (s.modHv n f).ce = s.ce := rfl
@[simp] theorem State.modHv_pg (s : State) {n f} : (s.modHv n f).pg = s.pg := rfl
@[simp] theorem State.modHv_tripIn (s : State) {n f} : (s.modHv n f).tripIn = s.tripIn := rfl
@[simp] theorem State.modHv_yarrow (s : State) {n f} : (s.modHv n f).yarrow = s.yarrow := rfl
@[simp] theorem State.modHv_mode (s : State) {n f} : (s.modHv n f).mode = s.mode := rfl
@[simp] theorem State.modHv_irqPend (s : State) {n f} : (s.modHv n f).irqPend = s.irqPend := rfl
@[simp] theorem State.modHv_mg (s : State) {n f} : (s.modHv n f).mg = s.mg := rfl
@[simp] theorem State.modHv_bus (s : State) {n f} : (s.modHv n f).bus = s.bus := rfl
@[simp] theorem State.modHv_bridle (s : State) {n f} : (s.modHv n f).bridle = s.bridle := rfl
@[simp] theorem State.modHv_sec (s : State) {n f} : (s.modHv n f).sec = s.sec := rfl
@[simp] theorem State.modHv_rtcBase (s : State) {n f} : (s.modHv n f).rtcBase = s.rtcBase := rfl
@[simp] theorem State.modHv_cycle (s : State) {n f} : (s.modHv n f).cycle = s.cycle := rfl
@[simp] theorem State.modHv_drives (s : State) {n f} : (s.modHv n f).drives = s.drives := rfl
@[simp] theorem State.modHv_inlet (s : State) {n f} : (s.modHv n f).inlet = s.inlet := rfl
@[simp] theorem State.modHv_charge (s : State) {n f} : (s.modHv n f).charge = s.charge := rfl
@[simp] theorem State.modHv_supply (s : State) {n f} : (s.modHv n f).supply = s.supply := rfl
@[simp] theorem State.modHv_solar (s : State) {n f} : (s.modHv n f).solar = s.solar := rfl
@[simp] theorem State.modHv_chs (s : State) {n f} : (s.modHv n f).chs = s.chs := rfl
@[simp] theorem State.modHv_lv (s : State) {n f} : (s.modHv n f).lv = s.lv := rfl
@[simp] theorem State.modHv_keeper (s : State) {n f} : (s.modHv n f).keeper = s.keeper := rfl
@[simp] theorem State.modHv_motors (s : State) {n f} : (s.modHv n f).motors = s.motors := rfl
@[simp] theorem State.modHv_shift (s : State) {n f} : (s.modHv n f).shift = s.shift := rfl
@[simp] theorem State.modHv_park (s : State) {n f} : (s.modHv n f).park = s.park := rfl
@[simp] theorem State.modHv_clutch (s : State) {n f} : (s.modHv n f).clutch = s.clutch := rfl
@[simp] theorem State.modHv_pump (s : State) {n f} : (s.modHv n f).pump = s.pump := rfl
@[simp] theorem State.modHv_harn (s : State) {n f} : (s.modHv n f).harn = s.harn := rfl
@[simp] theorem State.modHv_thermal (s : State) {n f} : (s.modHv n f).thermal = s.thermal := rfl
@[simp] theorem State.modHv_clk (s : State) {n f} : (s.modHv n f).clk = s.clk := rfl
@[simp] theorem State.modHv_power (s : State) {n f} : (s.modHv n f).power = s.power := rfl
@[simp] theorem State.modHv_boot (s : State) {n f} : (s.modHv n f).boot = s.boot := rfl
@[simp] theorem State.modHv_pending (s : State) {n f} : (s.modHv n f).pending = s.pending := rfl
@[simp] theorem State.modHv_rd (s : State) {n f} (x : Nat) : (s.modHv n f).rd x = s.rd x := rfl
@[simp] theorem State.modHv_sig (s : State) {n f} (x : Nat) : (s.modHv n f).sig x = s.sig x := rfl
@[simp] theorem State.modHv_desc (s : State) {n f} (x : Nat) : (s.modHv n f).desc x = s.desc x := rfl
@[simp] theorem State.modHv_sramGet (s : State) {n f} (x : Nat) : (s.modHv n f).sramGet x = s.sramGet x := rfl
@[simp] theorem State.modHv_nvmGet (s : State) {n f} (x : Nat) : (s.modHv n f).nvmGet x = s.nvmGet x := rfl
@[simp] theorem State.modHv_codeGet (s : State) {n f} (x : Nat) : (s.modHv n f).codeGet x = s.codeGet x := rfl
@[simp] theorem State.modHv_pgAt (s : State) {n f} (x : Nat) : (s.modHv n f).pgAt x = s.pgAt x := rfl
@[simp] theorem State.modHv_auAt (s : State) {n f} (x : Nat) : (s.modHv n f).auAt x = s.auAt x := rfl
@[simp] theorem State.modHv_ceAt (s : State) {n f} (x : Nat) : (s.modHv n f).ceAt x = s.ceAt x := rfl
@[simp] theorem State.modHv_coreAt (s : State) {n f} (x : Nat) : (s.modHv n f).coreAt x = s.coreAt x := rfl

/-! `modLv` -/
@[simp] theorem State.modLv_dtb (s : State) {m f} : (s.modLv m f).dtb = s.dtb := rfl
@[simp] theorem State.modLv_variant (s : State) {m f} : (s.modLv m f).variant = s.variant := rfl
@[simp] theorem State.modLv_regs (s : State) {m f} : (s.modLv m f).regs = s.regs := rfl
@[simp] theorem State.modLv_sigs (s : State) {m f} : (s.modLv m f).sigs = s.sigs := rfl
@[simp] theorem State.modLv_descs (s : State) {m f} : (s.modLv m f).descs = s.descs := rfl
@[simp] theorem State.modLv_sram (s : State) {m f} : (s.modLv m f).sram = s.sram := rfl
@[simp] theorem State.modLv_nvm (s : State) {m f} : (s.modLv m f).nvm = s.nvm := rfl
@[simp] theorem State.modLv_codeNvm (s : State) {m f} : (s.modLv m f).codeNvm = s.codeNvm := rfl
@[simp] theorem State.modLv_draws (s : State) {m f} : (s.modLv m f).draws = s.draws := rfl
@[simp] theorem State.modLv_cores (s : State) {m f} : (s.modLv m f).cores = s.cores := rfl
@[simp] theorem State.modLv_paddock (s : State) {m f} : (s.modLv m f).paddock = s.paddock := rfl
@[simp] theorem State.modLv_au (s : State) {m f} : (s.modLv m f).au = s.au := rfl
@[simp] theorem State.modLv_joins (s : State) {m f} : (s.modLv m f).joins = s.joins := rfl
@[simp] theorem State.modLv_tt (s : State) {m f} : (s.modLv m f).tt = s.tt := rfl
@[simp] theorem State.modLv_ce (s : State) {m f} : (s.modLv m f).ce = s.ce := rfl
@[simp] theorem State.modLv_pg (s : State) {m f} : (s.modLv m f).pg = s.pg := rfl
@[simp] theorem State.modLv_tripIn (s : State) {m f} : (s.modLv m f).tripIn = s.tripIn := rfl
@[simp] theorem State.modLv_yarrow (s : State) {m f} : (s.modLv m f).yarrow = s.yarrow := rfl
@[simp] theorem State.modLv_mode (s : State) {m f} : (s.modLv m f).mode = s.mode := rfl
@[simp] theorem State.modLv_irqPend (s : State) {m f} : (s.modLv m f).irqPend = s.irqPend := rfl
@[simp] theorem State.modLv_mg (s : State) {m f} : (s.modLv m f).mg = s.mg := rfl
@[simp] theorem State.modLv_bus (s : State) {m f} : (s.modLv m f).bus = s.bus := rfl
@[simp] theorem State.modLv_bridle (s : State) {m f} : (s.modLv m f).bridle = s.bridle := rfl
@[simp] theorem State.modLv_sec (s : State) {m f} : (s.modLv m f).sec = s.sec := rfl
@[simp] theorem State.modLv_rtcBase (s : State) {m f} : (s.modLv m f).rtcBase = s.rtcBase := rfl
@[simp] theorem State.modLv_cycle (s : State) {m f} : (s.modLv m f).cycle = s.cycle := rfl
@[simp] theorem State.modLv_drives (s : State) {m f} : (s.modLv m f).drives = s.drives := rfl
@[simp] theorem State.modLv_inlet (s : State) {m f} : (s.modLv m f).inlet = s.inlet := rfl
@[simp] theorem State.modLv_charge (s : State) {m f} : (s.modLv m f).charge = s.charge := rfl
@[simp] theorem State.modLv_supply (s : State) {m f} : (s.modLv m f).supply = s.supply := rfl
@[simp] theorem State.modLv_solar (s : State) {m f} : (s.modLv m f).solar = s.solar := rfl
@[simp] theorem State.modLv_chs (s : State) {m f} : (s.modLv m f).chs = s.chs := rfl
@[simp] theorem State.modLv_lv (s : State) {m f} : (s.modLv m f).lv = s.lv := rfl
@[simp] theorem State.modLv_keeper (s : State) {m f} : (s.modLv m f).keeper = s.keeper := rfl
@[simp] theorem State.modLv_motors (s : State) {m f} : (s.modLv m f).motors = s.motors := rfl
@[simp] theorem State.modLv_shift (s : State) {m f} : (s.modLv m f).shift = s.shift := rfl
@[simp] theorem State.modLv_park (s : State) {m f} : (s.modLv m f).park = s.park := rfl
@[simp] theorem State.modLv_clutch (s : State) {m f} : (s.modLv m f).clutch = s.clutch := rfl
@[simp] theorem State.modLv_pump (s : State) {m f} : (s.modLv m f).pump = s.pump := rfl
@[simp] theorem State.modLv_harn (s : State) {m f} : (s.modLv m f).harn = s.harn := rfl
@[simp] theorem State.modLv_thermal (s : State) {m f} : (s.modLv m f).thermal = s.thermal := rfl
@[simp] theorem State.modLv_clk (s : State) {m f} : (s.modLv m f).clk = s.clk := rfl
@[simp] theorem State.modLv_power (s : State) {m f} : (s.modLv m f).power = s.power := rfl
@[simp] theorem State.modLv_boot (s : State) {m f} : (s.modLv m f).boot = s.boot := rfl
@[simp] theorem State.modLv_pending (s : State) {m f} : (s.modLv m f).pending = s.pending := rfl
@[simp] theorem State.modLv_rd (s : State) {m f} (x : Nat) : (s.modLv m f).rd x = s.rd x := rfl
@[simp] theorem State.modLv_sig (s : State) {m f} (x : Nat) : (s.modLv m f).sig x = s.sig x := rfl
@[simp] theorem State.modLv_desc (s : State) {m f} (x : Nat) : (s.modLv m f).desc x = s.desc x := rfl
@[simp] theorem State.modLv_sramGet (s : State) {m f} (x : Nat) : (s.modLv m f).sramGet x = s.sramGet x := rfl
@[simp] theorem State.modLv_nvmGet (s : State) {m f} (x : Nat) : (s.modLv m f).nvmGet x = s.nvmGet x := rfl
@[simp] theorem State.modLv_codeGet (s : State) {m f} (x : Nat) : (s.modLv m f).codeGet x = s.codeGet x := rfl
@[simp] theorem State.modLv_pgAt (s : State) {m f} (x : Nat) : (s.modLv m f).pgAt x = s.pgAt x := rfl
@[simp] theorem State.modLv_auAt (s : State) {m f} (x : Nat) : (s.modLv m f).auAt x = s.auAt x := rfl
@[simp] theorem State.modLv_ceAt (s : State) {m f} (x : Nat) : (s.modLv m f).ceAt x = s.ceAt x := rfl
@[simp] theorem State.modLv_coreAt (s : State) {m f} (x : Nat) : (s.modLv m f).coreAt x = s.coreAt x := rfl

/-! `modMg` -/
@[simp] theorem State.modMg_dtb (s : State) {f} : (s.modMg f).dtb = s.dtb := rfl
@[simp] theorem State.modMg_variant (s : State) {f} : (s.modMg f).variant = s.variant := rfl
@[simp] theorem State.modMg_regs (s : State) {f} : (s.modMg f).regs = s.regs := rfl
@[simp] theorem State.modMg_sigs (s : State) {f} : (s.modMg f).sigs = s.sigs := rfl
@[simp] theorem State.modMg_descs (s : State) {f} : (s.modMg f).descs = s.descs := rfl
@[simp] theorem State.modMg_sram (s : State) {f} : (s.modMg f).sram = s.sram := rfl
@[simp] theorem State.modMg_nvm (s : State) {f} : (s.modMg f).nvm = s.nvm := rfl
@[simp] theorem State.modMg_codeNvm (s : State) {f} : (s.modMg f).codeNvm = s.codeNvm := rfl
@[simp] theorem State.modMg_draws (s : State) {f} : (s.modMg f).draws = s.draws := rfl
@[simp] theorem State.modMg_cores (s : State) {f} : (s.modMg f).cores = s.cores := rfl
@[simp] theorem State.modMg_paddock (s : State) {f} : (s.modMg f).paddock = s.paddock := rfl
@[simp] theorem State.modMg_au (s : State) {f} : (s.modMg f).au = s.au := rfl
@[simp] theorem State.modMg_joins (s : State) {f} : (s.modMg f).joins = s.joins := rfl
@[simp] theorem State.modMg_tt (s : State) {f} : (s.modMg f).tt = s.tt := rfl
@[simp] theorem State.modMg_ce (s : State) {f} : (s.modMg f).ce = s.ce := rfl
@[simp] theorem State.modMg_pg (s : State) {f} : (s.modMg f).pg = s.pg := rfl
@[simp] theorem State.modMg_tripIn (s : State) {f} : (s.modMg f).tripIn = s.tripIn := rfl
@[simp] theorem State.modMg_yarrow (s : State) {f} : (s.modMg f).yarrow = s.yarrow := rfl
@[simp] theorem State.modMg_mode (s : State) {f} : (s.modMg f).mode = s.mode := rfl
@[simp] theorem State.modMg_irqPend (s : State) {f} : (s.modMg f).irqPend = s.irqPend := rfl
@[simp] theorem State.modMg_gate (s : State) {f} : (s.modMg f).gate = s.gate := rfl
@[simp] theorem State.modMg_bus (s : State) {f} : (s.modMg f).bus = s.bus := rfl
@[simp] theorem State.modMg_bridle (s : State) {f} : (s.modMg f).bridle = s.bridle := rfl
@[simp] theorem State.modMg_sec (s : State) {f} : (s.modMg f).sec = s.sec := rfl
@[simp] theorem State.modMg_rtcBase (s : State) {f} : (s.modMg f).rtcBase = s.rtcBase := rfl
@[simp] theorem State.modMg_cycle (s : State) {f} : (s.modMg f).cycle = s.cycle := rfl
@[simp] theorem State.modMg_drives (s : State) {f} : (s.modMg f).drives = s.drives := rfl
@[simp] theorem State.modMg_inlet (s : State) {f} : (s.modMg f).inlet = s.inlet := rfl
@[simp] theorem State.modMg_charge (s : State) {f} : (s.modMg f).charge = s.charge := rfl
@[simp] theorem State.modMg_supply (s : State) {f} : (s.modMg f).supply = s.supply := rfl
@[simp] theorem State.modMg_solar (s : State) {f} : (s.modMg f).solar = s.solar := rfl
@[simp] theorem State.modMg_chs (s : State) {f} : (s.modMg f).chs = s.chs := rfl
@[simp] theorem State.modMg_lv (s : State) {f} : (s.modMg f).lv = s.lv := rfl
@[simp] theorem State.modMg_keeper (s : State) {f} : (s.modMg f).keeper = s.keeper := rfl
@[simp] theorem State.modMg_motors (s : State) {f} : (s.modMg f).motors = s.motors := rfl
@[simp] theorem State.modMg_shift (s : State) {f} : (s.modMg f).shift = s.shift := rfl
@[simp] theorem State.modMg_park (s : State) {f} : (s.modMg f).park = s.park := rfl
@[simp] theorem State.modMg_clutch (s : State) {f} : (s.modMg f).clutch = s.clutch := rfl
@[simp] theorem State.modMg_pump (s : State) {f} : (s.modMg f).pump = s.pump := rfl
@[simp] theorem State.modMg_harn (s : State) {f} : (s.modMg f).harn = s.harn := rfl
@[simp] theorem State.modMg_thermal (s : State) {f} : (s.modMg f).thermal = s.thermal := rfl
@[simp] theorem State.modMg_clk (s : State) {f} : (s.modMg f).clk = s.clk := rfl
@[simp] theorem State.modMg_power (s : State) {f} : (s.modMg f).power = s.power := rfl
@[simp] theorem State.modMg_boot (s : State) {f} : (s.modMg f).boot = s.boot := rfl
@[simp] theorem State.modMg_pending (s : State) {f} : (s.modMg f).pending = s.pending := rfl
@[simp] theorem State.modMg_rd (s : State) {f} (x : Nat) : (s.modMg f).rd x = s.rd x := rfl
@[simp] theorem State.modMg_sig (s : State) {f} (x : Nat) : (s.modMg f).sig x = s.sig x := rfl
@[simp] theorem State.modMg_desc (s : State) {f} (x : Nat) : (s.modMg f).desc x = s.desc x := rfl
@[simp] theorem State.modMg_sramGet (s : State) {f} (x : Nat) : (s.modMg f).sramGet x = s.sramGet x := rfl
@[simp] theorem State.modMg_nvmGet (s : State) {f} (x : Nat) : (s.modMg f).nvmGet x = s.nvmGet x := rfl
@[simp] theorem State.modMg_codeGet (s : State) {f} (x : Nat) : (s.modMg f).codeGet x = s.codeGet x := rfl
@[simp] theorem State.modMg_pgAt (s : State) {f} (x : Nat) : (s.modMg f).pgAt x = s.pgAt x := rfl
@[simp] theorem State.modMg_auAt (s : State) {f} (x : Nat) : (s.modMg f).auAt x = s.auAt x := rfl
@[simp] theorem State.modMg_ceAt (s : State) {f} (x : Nat) : (s.modMg f).ceAt x = s.ceAt x := rfl
@[simp] theorem State.modMg_coreAt (s : State) {f} (x : Nat) : (s.modMg f).coreAt x = s.coreAt x := rfl
@[simp] theorem State.modMg_own (s : State) {f} : (s.modMg f).mg = f s.mg := rfl

/-! `modMgDrive` -/
@[simp] theorem State.modMgDrive_dtb (s : State) {k f} : (s.modMgDrive k f).dtb = s.dtb := rfl
@[simp] theorem State.modMgDrive_variant (s : State) {k f} : (s.modMgDrive k f).variant = s.variant := rfl
@[simp] theorem State.modMgDrive_regs (s : State) {k f} : (s.modMgDrive k f).regs = s.regs := rfl
@[simp] theorem State.modMgDrive_sigs (s : State) {k f} : (s.modMgDrive k f).sigs = s.sigs := rfl
@[simp] theorem State.modMgDrive_descs (s : State) {k f} : (s.modMgDrive k f).descs = s.descs := rfl
@[simp] theorem State.modMgDrive_sram (s : State) {k f} : (s.modMgDrive k f).sram = s.sram := rfl
@[simp] theorem State.modMgDrive_nvm (s : State) {k f} : (s.modMgDrive k f).nvm = s.nvm := rfl
@[simp] theorem State.modMgDrive_codeNvm (s : State) {k f} : (s.modMgDrive k f).codeNvm = s.codeNvm := rfl
@[simp] theorem State.modMgDrive_draws (s : State) {k f} : (s.modMgDrive k f).draws = s.draws := rfl
@[simp] theorem State.modMgDrive_cores (s : State) {k f} : (s.modMgDrive k f).cores = s.cores := rfl
@[simp] theorem State.modMgDrive_paddock (s : State) {k f} : (s.modMgDrive k f).paddock = s.paddock := rfl
@[simp] theorem State.modMgDrive_au (s : State) {k f} : (s.modMgDrive k f).au = s.au := rfl
@[simp] theorem State.modMgDrive_joins (s : State) {k f} : (s.modMgDrive k f).joins = s.joins := rfl
@[simp] theorem State.modMgDrive_tt (s : State) {k f} : (s.modMgDrive k f).tt = s.tt := rfl
@[simp] theorem State.modMgDrive_ce (s : State) {k f} : (s.modMgDrive k f).ce = s.ce := rfl
@[simp] theorem State.modMgDrive_pg (s : State) {k f} : (s.modMgDrive k f).pg = s.pg := rfl
@[simp] theorem State.modMgDrive_tripIn (s : State) {k f} : (s.modMgDrive k f).tripIn = s.tripIn := rfl
@[simp] theorem State.modMgDrive_yarrow (s : State) {k f} : (s.modMgDrive k f).yarrow = s.yarrow := rfl
@[simp] theorem State.modMgDrive_mode (s : State) {k f} : (s.modMgDrive k f).mode = s.mode := rfl
@[simp] theorem State.modMgDrive_irqPend (s : State) {k f} : (s.modMgDrive k f).irqPend = s.irqPend := rfl
@[simp] theorem State.modMgDrive_gate (s : State) {k f} : (s.modMgDrive k f).gate = s.gate := rfl
@[simp] theorem State.modMgDrive_bus (s : State) {k f} : (s.modMgDrive k f).bus = s.bus := rfl
@[simp] theorem State.modMgDrive_bridle (s : State) {k f} : (s.modMgDrive k f).bridle = s.bridle := rfl
@[simp] theorem State.modMgDrive_sec (s : State) {k f} : (s.modMgDrive k f).sec = s.sec := rfl
@[simp] theorem State.modMgDrive_rtcBase (s : State) {k f} : (s.modMgDrive k f).rtcBase = s.rtcBase := rfl
@[simp] theorem State.modMgDrive_cycle (s : State) {k f} : (s.modMgDrive k f).cycle = s.cycle := rfl
@[simp] theorem State.modMgDrive_drives (s : State) {k f} : (s.modMgDrive k f).drives = s.drives := rfl
@[simp] theorem State.modMgDrive_inlet (s : State) {k f} : (s.modMgDrive k f).inlet = s.inlet := rfl
@[simp] theorem State.modMgDrive_charge (s : State) {k f} : (s.modMgDrive k f).charge = s.charge := rfl
@[simp] theorem State.modMgDrive_supply (s : State) {k f} : (s.modMgDrive k f).supply = s.supply := rfl
@[simp] theorem State.modMgDrive_solar (s : State) {k f} : (s.modMgDrive k f).solar = s.solar := rfl
@[simp] theorem State.modMgDrive_chs (s : State) {k f} : (s.modMgDrive k f).chs = s.chs := rfl
@[simp] theorem State.modMgDrive_lv (s : State) {k f} : (s.modMgDrive k f).lv = s.lv := rfl
@[simp] theorem State.modMgDrive_keeper (s : State) {k f} : (s.modMgDrive k f).keeper = s.keeper := rfl
@[simp] theorem State.modMgDrive_motors (s : State) {k f} : (s.modMgDrive k f).motors = s.motors := rfl
@[simp] theorem State.modMgDrive_shift (s : State) {k f} : (s.modMgDrive k f).shift = s.shift := rfl
@[simp] theorem State.modMgDrive_park (s : State) {k f} : (s.modMgDrive k f).park = s.park := rfl
@[simp] theorem State.modMgDrive_clutch (s : State) {k f} : (s.modMgDrive k f).clutch = s.clutch := rfl
@[simp] theorem State.modMgDrive_pump (s : State) {k f} : (s.modMgDrive k f).pump = s.pump := rfl
@[simp] theorem State.modMgDrive_harn (s : State) {k f} : (s.modMgDrive k f).harn = s.harn := rfl
@[simp] theorem State.modMgDrive_thermal (s : State) {k f} : (s.modMgDrive k f).thermal = s.thermal := rfl
@[simp] theorem State.modMgDrive_clk (s : State) {k f} : (s.modMgDrive k f).clk = s.clk := rfl
@[simp] theorem State.modMgDrive_power (s : State) {k f} : (s.modMgDrive k f).power = s.power := rfl
@[simp] theorem State.modMgDrive_boot (s : State) {k f} : (s.modMgDrive k f).boot = s.boot := rfl
@[simp] theorem State.modMgDrive_pending (s : State) {k f} : (s.modMgDrive k f).pending = s.pending := rfl
@[simp] theorem State.modMgDrive_rd (s : State) {k f} (x : Nat) : (s.modMgDrive k f).rd x = s.rd x := rfl
@[simp] theorem State.modMgDrive_sig (s : State) {k f} (x : Nat) : (s.modMgDrive k f).sig x = s.sig x := rfl
@[simp] theorem State.modMgDrive_desc (s : State) {k f} (x : Nat) : (s.modMgDrive k f).desc x = s.desc x := rfl
@[simp] theorem State.modMgDrive_sramGet (s : State) {k f} (x : Nat) : (s.modMgDrive k f).sramGet x = s.sramGet x := rfl
@[simp] theorem State.modMgDrive_nvmGet (s : State) {k f} (x : Nat) : (s.modMgDrive k f).nvmGet x = s.nvmGet x := rfl
@[simp] theorem State.modMgDrive_codeGet (s : State) {k f} (x : Nat) : (s.modMgDrive k f).codeGet x = s.codeGet x := rfl
@[simp] theorem State.modMgDrive_pgAt (s : State) {k f} (x : Nat) : (s.modMgDrive k f).pgAt x = s.pgAt x := rfl
@[simp] theorem State.modMgDrive_auAt (s : State) {k f} (x : Nat) : (s.modMgDrive k f).auAt x = s.auAt x := rfl
@[simp] theorem State.modMgDrive_ceAt (s : State) {k f} (x : Nat) : (s.modMgDrive k f).ceAt x = s.ceAt x := rfl
@[simp] theorem State.modMgDrive_coreAt (s : State) {k f} (x : Nat) : (s.modMgDrive k f).coreAt x = s.coreAt x := rfl

/-! `modInput` -/
@[simp] theorem State.modInput_dtb (s : State) {i f} : (s.modInput i f).dtb = s.dtb := rfl
@[simp] theorem State.modInput_variant (s : State) {i f} : (s.modInput i f).variant = s.variant := rfl
@[simp] theorem State.modInput_regs (s : State) {i f} : (s.modInput i f).regs = s.regs := rfl
@[simp] theorem State.modInput_sigs (s : State) {i f} : (s.modInput i f).sigs = s.sigs := rfl
@[simp] theorem State.modInput_descs (s : State) {i f} : (s.modInput i f).descs = s.descs := rfl
@[simp] theorem State.modInput_sram (s : State) {i f} : (s.modInput i f).sram = s.sram := rfl
@[simp] theorem State.modInput_nvm (s : State) {i f} : (s.modInput i f).nvm = s.nvm := rfl
@[simp] theorem State.modInput_codeNvm (s : State) {i f} : (s.modInput i f).codeNvm = s.codeNvm := rfl
@[simp] theorem State.modInput_draws (s : State) {i f} : (s.modInput i f).draws = s.draws := rfl
@[simp] theorem State.modInput_cores (s : State) {i f} : (s.modInput i f).cores = s.cores := rfl
@[simp] theorem State.modInput_paddock (s : State) {i f} : (s.modInput i f).paddock = s.paddock := rfl
@[simp] theorem State.modInput_au (s : State) {i f} : (s.modInput i f).au = s.au := rfl
@[simp] theorem State.modInput_joins (s : State) {i f} : (s.modInput i f).joins = s.joins := rfl
@[simp] theorem State.modInput_tt (s : State) {i f} : (s.modInput i f).tt = s.tt := rfl
@[simp] theorem State.modInput_ce (s : State) {i f} : (s.modInput i f).ce = s.ce := rfl
@[simp] theorem State.modInput_pg (s : State) {i f} : (s.modInput i f).pg = s.pg := rfl
@[simp] theorem State.modInput_tripIn (s : State) {i f} : (s.modInput i f).tripIn = s.tripIn := rfl
@[simp] theorem State.modInput_yarrow (s : State) {i f} : (s.modInput i f).yarrow = s.yarrow := rfl
@[simp] theorem State.modInput_mode (s : State) {i f} : (s.modInput i f).mode = s.mode := rfl
@[simp] theorem State.modInput_irqPend (s : State) {i f} : (s.modInput i f).irqPend = s.irqPend := rfl
@[simp] theorem State.modInput_gate (s : State) {i f} : (s.modInput i f).gate = s.gate := rfl
@[simp] theorem State.modInput_bus (s : State) {i f} : (s.modInput i f).bus = s.bus := rfl
@[simp] theorem State.modInput_bridle (s : State) {i f} : (s.modInput i f).bridle = s.bridle := rfl
@[simp] theorem State.modInput_sec (s : State) {i f} : (s.modInput i f).sec = s.sec := rfl
@[simp] theorem State.modInput_rtcBase (s : State) {i f} : (s.modInput i f).rtcBase = s.rtcBase := rfl
@[simp] theorem State.modInput_cycle (s : State) {i f} : (s.modInput i f).cycle = s.cycle := rfl
@[simp] theorem State.modInput_drives (s : State) {i f} : (s.modInput i f).drives = s.drives := rfl
@[simp] theorem State.modInput_inlet (s : State) {i f} : (s.modInput i f).inlet = s.inlet := rfl
@[simp] theorem State.modInput_charge (s : State) {i f} : (s.modInput i f).charge = s.charge := rfl
@[simp] theorem State.modInput_supply (s : State) {i f} : (s.modInput i f).supply = s.supply := rfl
@[simp] theorem State.modInput_solar (s : State) {i f} : (s.modInput i f).solar = s.solar := rfl
@[simp] theorem State.modInput_chs (s : State) {i f} : (s.modInput i f).chs = s.chs := rfl
@[simp] theorem State.modInput_lv (s : State) {i f} : (s.modInput i f).lv = s.lv := rfl
@[simp] theorem State.modInput_keeper (s : State) {i f} : (s.modInput i f).keeper = s.keeper := rfl
@[simp] theorem State.modInput_motors (s : State) {i f} : (s.modInput i f).motors = s.motors := rfl
@[simp] theorem State.modInput_shift (s : State) {i f} : (s.modInput i f).shift = s.shift := rfl
@[simp] theorem State.modInput_park (s : State) {i f} : (s.modInput i f).park = s.park := rfl
@[simp] theorem State.modInput_clutch (s : State) {i f} : (s.modInput i f).clutch = s.clutch := rfl
@[simp] theorem State.modInput_pump (s : State) {i f} : (s.modInput i f).pump = s.pump := rfl
@[simp] theorem State.modInput_harn (s : State) {i f} : (s.modInput i f).harn = s.harn := rfl
@[simp] theorem State.modInput_thermal (s : State) {i f} : (s.modInput i f).thermal = s.thermal := rfl
@[simp] theorem State.modInput_clk (s : State) {i f} : (s.modInput i f).clk = s.clk := rfl
@[simp] theorem State.modInput_power (s : State) {i f} : (s.modInput i f).power = s.power := rfl
@[simp] theorem State.modInput_boot (s : State) {i f} : (s.modInput i f).boot = s.boot := rfl
@[simp] theorem State.modInput_pending (s : State) {i f} : (s.modInput i f).pending = s.pending := rfl
@[simp] theorem State.modInput_rd (s : State) {i f} (x : Nat) : (s.modInput i f).rd x = s.rd x := rfl
@[simp] theorem State.modInput_sig (s : State) {i f} (x : Nat) : (s.modInput i f).sig x = s.sig x := rfl
@[simp] theorem State.modInput_desc (s : State) {i f} (x : Nat) : (s.modInput i f).desc x = s.desc x := rfl
@[simp] theorem State.modInput_sramGet (s : State) {i f} (x : Nat) : (s.modInput i f).sramGet x = s.sramGet x := rfl
@[simp] theorem State.modInput_nvmGet (s : State) {i f} (x : Nat) : (s.modInput i f).nvmGet x = s.nvmGet x := rfl
@[simp] theorem State.modInput_codeGet (s : State) {i f} (x : Nat) : (s.modInput i f).codeGet x = s.codeGet x := rfl
@[simp] theorem State.modInput_pgAt (s : State) {i f} (x : Nat) : (s.modInput i f).pgAt x = s.pgAt x := rfl
@[simp] theorem State.modInput_auAt (s : State) {i f} (x : Nat) : (s.modInput i f).auAt x = s.auAt x := rfl
@[simp] theorem State.modInput_ceAt (s : State) {i f} (x : Nat) : (s.modInput i f).ceAt x = s.ceAt x := rfl
@[simp] theorem State.modInput_coreAt (s : State) {i f} (x : Nat) : (s.modInput i f).coreAt x = s.coreAt x := rfl

/-! `modBridle` -/
@[simp] theorem State.modBridle_dtb (s : State) {f} : (s.modBridle f).dtb = s.dtb := rfl
@[simp] theorem State.modBridle_variant (s : State) {f} : (s.modBridle f).variant = s.variant := rfl
@[simp] theorem State.modBridle_regs (s : State) {f} : (s.modBridle f).regs = s.regs := rfl
@[simp] theorem State.modBridle_sigs (s : State) {f} : (s.modBridle f).sigs = s.sigs := rfl
@[simp] theorem State.modBridle_descs (s : State) {f} : (s.modBridle f).descs = s.descs := rfl
@[simp] theorem State.modBridle_sram (s : State) {f} : (s.modBridle f).sram = s.sram := rfl
@[simp] theorem State.modBridle_nvm (s : State) {f} : (s.modBridle f).nvm = s.nvm := rfl
@[simp] theorem State.modBridle_codeNvm (s : State) {f} : (s.modBridle f).codeNvm = s.codeNvm := rfl
@[simp] theorem State.modBridle_draws (s : State) {f} : (s.modBridle f).draws = s.draws := rfl
@[simp] theorem State.modBridle_cores (s : State) {f} : (s.modBridle f).cores = s.cores := rfl
@[simp] theorem State.modBridle_paddock (s : State) {f} : (s.modBridle f).paddock = s.paddock := rfl
@[simp] theorem State.modBridle_au (s : State) {f} : (s.modBridle f).au = s.au := rfl
@[simp] theorem State.modBridle_joins (s : State) {f} : (s.modBridle f).joins = s.joins := rfl
@[simp] theorem State.modBridle_tt (s : State) {f} : (s.modBridle f).tt = s.tt := rfl
@[simp] theorem State.modBridle_ce (s : State) {f} : (s.modBridle f).ce = s.ce := rfl
@[simp] theorem State.modBridle_pg (s : State) {f} : (s.modBridle f).pg = s.pg := rfl
@[simp] theorem State.modBridle_tripIn (s : State) {f} : (s.modBridle f).tripIn = s.tripIn := rfl
@[simp] theorem State.modBridle_yarrow (s : State) {f} : (s.modBridle f).yarrow = s.yarrow := rfl
@[simp] theorem State.modBridle_mode (s : State) {f} : (s.modBridle f).mode = s.mode := rfl
@[simp] theorem State.modBridle_irqPend (s : State) {f} : (s.modBridle f).irqPend = s.irqPend := rfl
@[simp] theorem State.modBridle_gate (s : State) {f} : (s.modBridle f).gate = s.gate := rfl
@[simp] theorem State.modBridle_mg (s : State) {f} : (s.modBridle f).mg = s.mg := rfl
@[simp] theorem State.modBridle_bus (s : State) {f} : (s.modBridle f).bus = s.bus := rfl
@[simp] theorem State.modBridle_sec (s : State) {f} : (s.modBridle f).sec = s.sec := rfl
@[simp] theorem State.modBridle_rtcBase (s : State) {f} : (s.modBridle f).rtcBase = s.rtcBase := rfl
@[simp] theorem State.modBridle_cycle (s : State) {f} : (s.modBridle f).cycle = s.cycle := rfl
@[simp] theorem State.modBridle_drives (s : State) {f} : (s.modBridle f).drives = s.drives := rfl
@[simp] theorem State.modBridle_inlet (s : State) {f} : (s.modBridle f).inlet = s.inlet := rfl
@[simp] theorem State.modBridle_charge (s : State) {f} : (s.modBridle f).charge = s.charge := rfl
@[simp] theorem State.modBridle_supply (s : State) {f} : (s.modBridle f).supply = s.supply := rfl
@[simp] theorem State.modBridle_solar (s : State) {f} : (s.modBridle f).solar = s.solar := rfl
@[simp] theorem State.modBridle_chs (s : State) {f} : (s.modBridle f).chs = s.chs := rfl
@[simp] theorem State.modBridle_lv (s : State) {f} : (s.modBridle f).lv = s.lv := rfl
@[simp] theorem State.modBridle_keeper (s : State) {f} : (s.modBridle f).keeper = s.keeper := rfl
@[simp] theorem State.modBridle_motors (s : State) {f} : (s.modBridle f).motors = s.motors := rfl
@[simp] theorem State.modBridle_shift (s : State) {f} : (s.modBridle f).shift = s.shift := rfl
@[simp] theorem State.modBridle_park (s : State) {f} : (s.modBridle f).park = s.park := rfl
@[simp] theorem State.modBridle_clutch (s : State) {f} : (s.modBridle f).clutch = s.clutch := rfl
@[simp] theorem State.modBridle_pump (s : State) {f} : (s.modBridle f).pump = s.pump := rfl
@[simp] theorem State.modBridle_harn (s : State) {f} : (s.modBridle f).harn = s.harn := rfl
@[simp] theorem State.modBridle_thermal (s : State) {f} : (s.modBridle f).thermal = s.thermal := rfl
@[simp] theorem State.modBridle_clk (s : State) {f} : (s.modBridle f).clk = s.clk := rfl
@[simp] theorem State.modBridle_power (s : State) {f} : (s.modBridle f).power = s.power := rfl
@[simp] theorem State.modBridle_boot (s : State) {f} : (s.modBridle f).boot = s.boot := rfl
@[simp] theorem State.modBridle_pending (s : State) {f} : (s.modBridle f).pending = s.pending := rfl
@[simp] theorem State.modBridle_rd (s : State) {f} (x : Nat) : (s.modBridle f).rd x = s.rd x := rfl
@[simp] theorem State.modBridle_sig (s : State) {f} (x : Nat) : (s.modBridle f).sig x = s.sig x := rfl
@[simp] theorem State.modBridle_desc (s : State) {f} (x : Nat) : (s.modBridle f).desc x = s.desc x := rfl
@[simp] theorem State.modBridle_sramGet (s : State) {f} (x : Nat) : (s.modBridle f).sramGet x = s.sramGet x := rfl
@[simp] theorem State.modBridle_nvmGet (s : State) {f} (x : Nat) : (s.modBridle f).nvmGet x = s.nvmGet x := rfl
@[simp] theorem State.modBridle_codeGet (s : State) {f} (x : Nat) : (s.modBridle f).codeGet x = s.codeGet x := rfl
@[simp] theorem State.modBridle_pgAt (s : State) {f} (x : Nat) : (s.modBridle f).pgAt x = s.pgAt x := rfl
@[simp] theorem State.modBridle_auAt (s : State) {f} (x : Nat) : (s.modBridle f).auAt x = s.auAt x := rfl
@[simp] theorem State.modBridle_ceAt (s : State) {f} (x : Nat) : (s.modBridle f).ceAt x = s.ceAt x := rfl
@[simp] theorem State.modBridle_coreAt (s : State) {f} (x : Nat) : (s.modBridle f).coreAt x = s.coreAt x := rfl
@[simp] theorem State.modBridle_own (s : State) {f} : (s.modBridle f).bridle = f s.bridle := rfl

/-! `modSess` -/
@[simp] theorem State.modSess_dtb (s : State) {n f} : (s.modSess n f).dtb = s.dtb := rfl
@[simp] theorem State.modSess_variant (s : State) {n f} : (s.modSess n f).variant = s.variant := rfl
@[simp] theorem State.modSess_regs (s : State) {n f} : (s.modSess n f).regs = s.regs := rfl
@[simp] theorem State.modSess_sigs (s : State) {n f} : (s.modSess n f).sigs = s.sigs := rfl
@[simp] theorem State.modSess_descs (s : State) {n f} : (s.modSess n f).descs = s.descs := rfl
@[simp] theorem State.modSess_sram (s : State) {n f} : (s.modSess n f).sram = s.sram := rfl
@[simp] theorem State.modSess_nvm (s : State) {n f} : (s.modSess n f).nvm = s.nvm := rfl
@[simp] theorem State.modSess_codeNvm (s : State) {n f} : (s.modSess n f).codeNvm = s.codeNvm := rfl
@[simp] theorem State.modSess_draws (s : State) {n f} : (s.modSess n f).draws = s.draws := rfl
@[simp] theorem State.modSess_cores (s : State) {n f} : (s.modSess n f).cores = s.cores := rfl
@[simp] theorem State.modSess_paddock (s : State) {n f} : (s.modSess n f).paddock = s.paddock := rfl
@[simp] theorem State.modSess_au (s : State) {n f} : (s.modSess n f).au = s.au := rfl
@[simp] theorem State.modSess_joins (s : State) {n f} : (s.modSess n f).joins = s.joins := rfl
@[simp] theorem State.modSess_tt (s : State) {n f} : (s.modSess n f).tt = s.tt := rfl
@[simp] theorem State.modSess_ce (s : State) {n f} : (s.modSess n f).ce = s.ce := rfl
@[simp] theorem State.modSess_pg (s : State) {n f} : (s.modSess n f).pg = s.pg := rfl
@[simp] theorem State.modSess_tripIn (s : State) {n f} : (s.modSess n f).tripIn = s.tripIn := rfl
@[simp] theorem State.modSess_yarrow (s : State) {n f} : (s.modSess n f).yarrow = s.yarrow := rfl
@[simp] theorem State.modSess_mode (s : State) {n f} : (s.modSess n f).mode = s.mode := rfl
@[simp] theorem State.modSess_irqPend (s : State) {n f} : (s.modSess n f).irqPend = s.irqPend := rfl
@[simp] theorem State.modSess_gate (s : State) {n f} : (s.modSess n f).gate = s.gate := rfl
@[simp] theorem State.modSess_mg (s : State) {n f} : (s.modSess n f).mg = s.mg := rfl
@[simp] theorem State.modSess_bus (s : State) {n f} : (s.modSess n f).bus = s.bus := rfl
@[simp] theorem State.modSess_sec (s : State) {n f} : (s.modSess n f).sec = s.sec := rfl
@[simp] theorem State.modSess_rtcBase (s : State) {n f} : (s.modSess n f).rtcBase = s.rtcBase := rfl
@[simp] theorem State.modSess_cycle (s : State) {n f} : (s.modSess n f).cycle = s.cycle := rfl
@[simp] theorem State.modSess_drives (s : State) {n f} : (s.modSess n f).drives = s.drives := rfl
@[simp] theorem State.modSess_inlet (s : State) {n f} : (s.modSess n f).inlet = s.inlet := rfl
@[simp] theorem State.modSess_charge (s : State) {n f} : (s.modSess n f).charge = s.charge := rfl
@[simp] theorem State.modSess_supply (s : State) {n f} : (s.modSess n f).supply = s.supply := rfl
@[simp] theorem State.modSess_solar (s : State) {n f} : (s.modSess n f).solar = s.solar := rfl
@[simp] theorem State.modSess_chs (s : State) {n f} : (s.modSess n f).chs = s.chs := rfl
@[simp] theorem State.modSess_lv (s : State) {n f} : (s.modSess n f).lv = s.lv := rfl
@[simp] theorem State.modSess_keeper (s : State) {n f} : (s.modSess n f).keeper = s.keeper := rfl
@[simp] theorem State.modSess_motors (s : State) {n f} : (s.modSess n f).motors = s.motors := rfl
@[simp] theorem State.modSess_shift (s : State) {n f} : (s.modSess n f).shift = s.shift := rfl
@[simp] theorem State.modSess_park (s : State) {n f} : (s.modSess n f).park = s.park := rfl
@[simp] theorem State.modSess_clutch (s : State) {n f} : (s.modSess n f).clutch = s.clutch := rfl
@[simp] theorem State.modSess_pump (s : State) {n f} : (s.modSess n f).pump = s.pump := rfl
@[simp] theorem State.modSess_harn (s : State) {n f} : (s.modSess n f).harn = s.harn := rfl
@[simp] theorem State.modSess_thermal (s : State) {n f} : (s.modSess n f).thermal = s.thermal := rfl
@[simp] theorem State.modSess_clk (s : State) {n f} : (s.modSess n f).clk = s.clk := rfl
@[simp] theorem State.modSess_power (s : State) {n f} : (s.modSess n f).power = s.power := rfl
@[simp] theorem State.modSess_boot (s : State) {n f} : (s.modSess n f).boot = s.boot := rfl
@[simp] theorem State.modSess_pending (s : State) {n f} : (s.modSess n f).pending = s.pending := rfl
@[simp] theorem State.modSess_rd (s : State) {n f} (x : Nat) : (s.modSess n f).rd x = s.rd x := rfl
@[simp] theorem State.modSess_sig (s : State) {n f} (x : Nat) : (s.modSess n f).sig x = s.sig x := rfl
@[simp] theorem State.modSess_desc (s : State) {n f} (x : Nat) : (s.modSess n f).desc x = s.desc x := rfl
@[simp] theorem State.modSess_sramGet (s : State) {n f} (x : Nat) : (s.modSess n f).sramGet x = s.sramGet x := rfl
@[simp] theorem State.modSess_nvmGet (s : State) {n f} (x : Nat) : (s.modSess n f).nvmGet x = s.nvmGet x := rfl
@[simp] theorem State.modSess_codeGet (s : State) {n f} (x : Nat) : (s.modSess n f).codeGet x = s.codeGet x := rfl
@[simp] theorem State.modSess_pgAt (s : State) {n f} (x : Nat) : (s.modSess n f).pgAt x = s.pgAt x := rfl
@[simp] theorem State.modSess_auAt (s : State) {n f} (x : Nat) : (s.modSess n f).auAt x = s.auAt x := rfl
@[simp] theorem State.modSess_ceAt (s : State) {n f} (x : Nat) : (s.modSess n f).ceAt x = s.ceAt x := rfl
@[simp] theorem State.modSess_coreAt (s : State) {n f} (x : Nat) : (s.modSess n f).coreAt x = s.coreAt x := rfl

/-! `modSlot` -/
@[simp] theorem State.modSlot_dtb (s : State) {k f} : (s.modSlot k f).dtb = s.dtb := rfl
@[simp] theorem State.modSlot_variant (s : State) {k f} : (s.modSlot k f).variant = s.variant := rfl
@[simp] theorem State.modSlot_regs (s : State) {k f} : (s.modSlot k f).regs = s.regs := rfl
@[simp] theorem State.modSlot_sigs (s : State) {k f} : (s.modSlot k f).sigs = s.sigs := rfl
@[simp] theorem State.modSlot_descs (s : State) {k f} : (s.modSlot k f).descs = s.descs := rfl
@[simp] theorem State.modSlot_sram (s : State) {k f} : (s.modSlot k f).sram = s.sram := rfl
@[simp] theorem State.modSlot_nvm (s : State) {k f} : (s.modSlot k f).nvm = s.nvm := rfl
@[simp] theorem State.modSlot_codeNvm (s : State) {k f} : (s.modSlot k f).codeNvm = s.codeNvm := rfl
@[simp] theorem State.modSlot_draws (s : State) {k f} : (s.modSlot k f).draws = s.draws := rfl
@[simp] theorem State.modSlot_cores (s : State) {k f} : (s.modSlot k f).cores = s.cores := rfl
@[simp] theorem State.modSlot_paddock (s : State) {k f} : (s.modSlot k f).paddock = s.paddock := rfl
@[simp] theorem State.modSlot_au (s : State) {k f} : (s.modSlot k f).au = s.au := rfl
@[simp] theorem State.modSlot_joins (s : State) {k f} : (s.modSlot k f).joins = s.joins := rfl
@[simp] theorem State.modSlot_tt (s : State) {k f} : (s.modSlot k f).tt = s.tt := rfl
@[simp] theorem State.modSlot_ce (s : State) {k f} : (s.modSlot k f).ce = s.ce := rfl
@[simp] theorem State.modSlot_pg (s : State) {k f} : (s.modSlot k f).pg = s.pg := rfl
@[simp] theorem State.modSlot_tripIn (s : State) {k f} : (s.modSlot k f).tripIn = s.tripIn := rfl
@[simp] theorem State.modSlot_yarrow (s : State) {k f} : (s.modSlot k f).yarrow = s.yarrow := rfl
@[simp] theorem State.modSlot_mode (s : State) {k f} : (s.modSlot k f).mode = s.mode := rfl
@[simp] theorem State.modSlot_irqPend (s : State) {k f} : (s.modSlot k f).irqPend = s.irqPend := rfl
@[simp] theorem State.modSlot_gate (s : State) {k f} : (s.modSlot k f).gate = s.gate := rfl
@[simp] theorem State.modSlot_mg (s : State) {k f} : (s.modSlot k f).mg = s.mg := rfl
@[simp] theorem State.modSlot_bus (s : State) {k f} : (s.modSlot k f).bus = s.bus := rfl
@[simp] theorem State.modSlot_sec (s : State) {k f} : (s.modSlot k f).sec = s.sec := rfl
@[simp] theorem State.modSlot_rtcBase (s : State) {k f} : (s.modSlot k f).rtcBase = s.rtcBase := rfl
@[simp] theorem State.modSlot_cycle (s : State) {k f} : (s.modSlot k f).cycle = s.cycle := rfl
@[simp] theorem State.modSlot_drives (s : State) {k f} : (s.modSlot k f).drives = s.drives := rfl
@[simp] theorem State.modSlot_inlet (s : State) {k f} : (s.modSlot k f).inlet = s.inlet := rfl
@[simp] theorem State.modSlot_charge (s : State) {k f} : (s.modSlot k f).charge = s.charge := rfl
@[simp] theorem State.modSlot_supply (s : State) {k f} : (s.modSlot k f).supply = s.supply := rfl
@[simp] theorem State.modSlot_solar (s : State) {k f} : (s.modSlot k f).solar = s.solar := rfl
@[simp] theorem State.modSlot_chs (s : State) {k f} : (s.modSlot k f).chs = s.chs := rfl
@[simp] theorem State.modSlot_lv (s : State) {k f} : (s.modSlot k f).lv = s.lv := rfl
@[simp] theorem State.modSlot_keeper (s : State) {k f} : (s.modSlot k f).keeper = s.keeper := rfl
@[simp] theorem State.modSlot_motors (s : State) {k f} : (s.modSlot k f).motors = s.motors := rfl
@[simp] theorem State.modSlot_shift (s : State) {k f} : (s.modSlot k f).shift = s.shift := rfl
@[simp] theorem State.modSlot_park (s : State) {k f} : (s.modSlot k f).park = s.park := rfl
@[simp] theorem State.modSlot_clutch (s : State) {k f} : (s.modSlot k f).clutch = s.clutch := rfl
@[simp] theorem State.modSlot_pump (s : State) {k f} : (s.modSlot k f).pump = s.pump := rfl
@[simp] theorem State.modSlot_harn (s : State) {k f} : (s.modSlot k f).harn = s.harn := rfl
@[simp] theorem State.modSlot_thermal (s : State) {k f} : (s.modSlot k f).thermal = s.thermal := rfl
@[simp] theorem State.modSlot_clk (s : State) {k f} : (s.modSlot k f).clk = s.clk := rfl
@[simp] theorem State.modSlot_power (s : State) {k f} : (s.modSlot k f).power = s.power := rfl
@[simp] theorem State.modSlot_boot (s : State) {k f} : (s.modSlot k f).boot = s.boot := rfl
@[simp] theorem State.modSlot_pending (s : State) {k f} : (s.modSlot k f).pending = s.pending := rfl
@[simp] theorem State.modSlot_rd (s : State) {k f} (x : Nat) : (s.modSlot k f).rd x = s.rd x := rfl
@[simp] theorem State.modSlot_sig (s : State) {k f} (x : Nat) : (s.modSlot k f).sig x = s.sig x := rfl
@[simp] theorem State.modSlot_desc (s : State) {k f} (x : Nat) : (s.modSlot k f).desc x = s.desc x := rfl
@[simp] theorem State.modSlot_sramGet (s : State) {k f} (x : Nat) : (s.modSlot k f).sramGet x = s.sramGet x := rfl
@[simp] theorem State.modSlot_nvmGet (s : State) {k f} (x : Nat) : (s.modSlot k f).nvmGet x = s.nvmGet x := rfl
@[simp] theorem State.modSlot_codeGet (s : State) {k f} (x : Nat) : (s.modSlot k f).codeGet x = s.codeGet x := rfl
@[simp] theorem State.modSlot_pgAt (s : State) {k f} (x : Nat) : (s.modSlot k f).pgAt x = s.pgAt x := rfl
@[simp] theorem State.modSlot_auAt (s : State) {k f} (x : Nat) : (s.modSlot k f).auAt x = s.auAt x := rfl
@[simp] theorem State.modSlot_ceAt (s : State) {k f} (x : Nat) : (s.modSlot k f).ceAt x = s.ceAt x := rfl
@[simp] theorem State.modSlot_coreAt (s : State) {k f} (x : Nat) : (s.modSlot k f).coreAt x = s.coreAt x := rfl

/-! `modBus` -/
@[simp] theorem State.modBus_dtb (s : State) {p f} : (s.modBus p f).dtb = s.dtb := rfl
@[simp] theorem State.modBus_variant (s : State) {p f} : (s.modBus p f).variant = s.variant := rfl
@[simp] theorem State.modBus_regs (s : State) {p f} : (s.modBus p f).regs = s.regs := rfl
@[simp] theorem State.modBus_sigs (s : State) {p f} : (s.modBus p f).sigs = s.sigs := rfl
@[simp] theorem State.modBus_descs (s : State) {p f} : (s.modBus p f).descs = s.descs := rfl
@[simp] theorem State.modBus_sram (s : State) {p f} : (s.modBus p f).sram = s.sram := rfl
@[simp] theorem State.modBus_nvm (s : State) {p f} : (s.modBus p f).nvm = s.nvm := rfl
@[simp] theorem State.modBus_codeNvm (s : State) {p f} : (s.modBus p f).codeNvm = s.codeNvm := rfl
@[simp] theorem State.modBus_draws (s : State) {p f} : (s.modBus p f).draws = s.draws := rfl
@[simp] theorem State.modBus_cores (s : State) {p f} : (s.modBus p f).cores = s.cores := rfl
@[simp] theorem State.modBus_paddock (s : State) {p f} : (s.modBus p f).paddock = s.paddock := rfl
@[simp] theorem State.modBus_au (s : State) {p f} : (s.modBus p f).au = s.au := rfl
@[simp] theorem State.modBus_joins (s : State) {p f} : (s.modBus p f).joins = s.joins := rfl
@[simp] theorem State.modBus_tt (s : State) {p f} : (s.modBus p f).tt = s.tt := rfl
@[simp] theorem State.modBus_ce (s : State) {p f} : (s.modBus p f).ce = s.ce := rfl
@[simp] theorem State.modBus_pg (s : State) {p f} : (s.modBus p f).pg = s.pg := rfl
@[simp] theorem State.modBus_tripIn (s : State) {p f} : (s.modBus p f).tripIn = s.tripIn := rfl
@[simp] theorem State.modBus_yarrow (s : State) {p f} : (s.modBus p f).yarrow = s.yarrow := rfl
@[simp] theorem State.modBus_mode (s : State) {p f} : (s.modBus p f).mode = s.mode := rfl
@[simp] theorem State.modBus_irqPend (s : State) {p f} : (s.modBus p f).irqPend = s.irqPend := rfl
@[simp] theorem State.modBus_gate (s : State) {p f} : (s.modBus p f).gate = s.gate := rfl
@[simp] theorem State.modBus_mg (s : State) {p f} : (s.modBus p f).mg = s.mg := rfl
@[simp] theorem State.modBus_bridle (s : State) {p f} : (s.modBus p f).bridle = s.bridle := rfl
@[simp] theorem State.modBus_sec (s : State) {p f} : (s.modBus p f).sec = s.sec := rfl
@[simp] theorem State.modBus_rtcBase (s : State) {p f} : (s.modBus p f).rtcBase = s.rtcBase := rfl
@[simp] theorem State.modBus_cycle (s : State) {p f} : (s.modBus p f).cycle = s.cycle := rfl
@[simp] theorem State.modBus_drives (s : State) {p f} : (s.modBus p f).drives = s.drives := rfl
@[simp] theorem State.modBus_inlet (s : State) {p f} : (s.modBus p f).inlet = s.inlet := rfl
@[simp] theorem State.modBus_charge (s : State) {p f} : (s.modBus p f).charge = s.charge := rfl
@[simp] theorem State.modBus_supply (s : State) {p f} : (s.modBus p f).supply = s.supply := rfl
@[simp] theorem State.modBus_solar (s : State) {p f} : (s.modBus p f).solar = s.solar := rfl
@[simp] theorem State.modBus_chs (s : State) {p f} : (s.modBus p f).chs = s.chs := rfl
@[simp] theorem State.modBus_lv (s : State) {p f} : (s.modBus p f).lv = s.lv := rfl
@[simp] theorem State.modBus_keeper (s : State) {p f} : (s.modBus p f).keeper = s.keeper := rfl
@[simp] theorem State.modBus_motors (s : State) {p f} : (s.modBus p f).motors = s.motors := rfl
@[simp] theorem State.modBus_shift (s : State) {p f} : (s.modBus p f).shift = s.shift := rfl
@[simp] theorem State.modBus_park (s : State) {p f} : (s.modBus p f).park = s.park := rfl
@[simp] theorem State.modBus_clutch (s : State) {p f} : (s.modBus p f).clutch = s.clutch := rfl
@[simp] theorem State.modBus_pump (s : State) {p f} : (s.modBus p f).pump = s.pump := rfl
@[simp] theorem State.modBus_harn (s : State) {p f} : (s.modBus p f).harn = s.harn := rfl
@[simp] theorem State.modBus_thermal (s : State) {p f} : (s.modBus p f).thermal = s.thermal := rfl
@[simp] theorem State.modBus_clk (s : State) {p f} : (s.modBus p f).clk = s.clk := rfl
@[simp] theorem State.modBus_power (s : State) {p f} : (s.modBus p f).power = s.power := rfl
@[simp] theorem State.modBus_boot (s : State) {p f} : (s.modBus p f).boot = s.boot := rfl
@[simp] theorem State.modBus_pending (s : State) {p f} : (s.modBus p f).pending = s.pending := rfl
@[simp] theorem State.modBus_rd (s : State) {p f} (x : Nat) : (s.modBus p f).rd x = s.rd x := rfl
@[simp] theorem State.modBus_sig (s : State) {p f} (x : Nat) : (s.modBus p f).sig x = s.sig x := rfl
@[simp] theorem State.modBus_desc (s : State) {p f} (x : Nat) : (s.modBus p f).desc x = s.desc x := rfl
@[simp] theorem State.modBus_sramGet (s : State) {p f} (x : Nat) : (s.modBus p f).sramGet x = s.sramGet x := rfl
@[simp] theorem State.modBus_nvmGet (s : State) {p f} (x : Nat) : (s.modBus p f).nvmGet x = s.nvmGet x := rfl
@[simp] theorem State.modBus_codeGet (s : State) {p f} (x : Nat) : (s.modBus p f).codeGet x = s.codeGet x := rfl
@[simp] theorem State.modBus_pgAt (s : State) {p f} (x : Nat) : (s.modBus p f).pgAt x = s.pgAt x := rfl
@[simp] theorem State.modBus_auAt (s : State) {p f} (x : Nat) : (s.modBus p f).auAt x = s.auAt x := rfl
@[simp] theorem State.modBus_ceAt (s : State) {p f} (x : Nat) : (s.modBus p f).ceAt x = s.ceAt x := rfl
@[simp] theorem State.modBus_coreAt (s : State) {p f} (x : Nat) : (s.modBus p f).coreAt x = s.coreAt x := rfl
@[simp] theorem State.modBus_own (s : State) {p f} : (s.modBus p f).bus = s.bus.modify p f := rfl

/-! `modDrv` -/
@[simp] theorem State.modDrv_dtb (s : State) {d f} : (s.modDrv d f).dtb = s.dtb := rfl
@[simp] theorem State.modDrv_variant (s : State) {d f} : (s.modDrv d f).variant = s.variant := rfl
@[simp] theorem State.modDrv_regs (s : State) {d f} : (s.modDrv d f).regs = s.regs := rfl
@[simp] theorem State.modDrv_sigs (s : State) {d f} : (s.modDrv d f).sigs = s.sigs := rfl
@[simp] theorem State.modDrv_descs (s : State) {d f} : (s.modDrv d f).descs = s.descs := rfl
@[simp] theorem State.modDrv_sram (s : State) {d f} : (s.modDrv d f).sram = s.sram := rfl
@[simp] theorem State.modDrv_nvm (s : State) {d f} : (s.modDrv d f).nvm = s.nvm := rfl
@[simp] theorem State.modDrv_codeNvm (s : State) {d f} : (s.modDrv d f).codeNvm = s.codeNvm := rfl
@[simp] theorem State.modDrv_draws (s : State) {d f} : (s.modDrv d f).draws = s.draws := rfl
@[simp] theorem State.modDrv_cores (s : State) {d f} : (s.modDrv d f).cores = s.cores := rfl
@[simp] theorem State.modDrv_paddock (s : State) {d f} : (s.modDrv d f).paddock = s.paddock := rfl
@[simp] theorem State.modDrv_au (s : State) {d f} : (s.modDrv d f).au = s.au := rfl
@[simp] theorem State.modDrv_joins (s : State) {d f} : (s.modDrv d f).joins = s.joins := rfl
@[simp] theorem State.modDrv_tt (s : State) {d f} : (s.modDrv d f).tt = s.tt := rfl
@[simp] theorem State.modDrv_ce (s : State) {d f} : (s.modDrv d f).ce = s.ce := rfl
@[simp] theorem State.modDrv_pg (s : State) {d f} : (s.modDrv d f).pg = s.pg := rfl
@[simp] theorem State.modDrv_tripIn (s : State) {d f} : (s.modDrv d f).tripIn = s.tripIn := rfl
@[simp] theorem State.modDrv_yarrow (s : State) {d f} : (s.modDrv d f).yarrow = s.yarrow := rfl
@[simp] theorem State.modDrv_mode (s : State) {d f} : (s.modDrv d f).mode = s.mode := rfl
@[simp] theorem State.modDrv_irqPend (s : State) {d f} : (s.modDrv d f).irqPend = s.irqPend := rfl
@[simp] theorem State.modDrv_gate (s : State) {d f} : (s.modDrv d f).gate = s.gate := rfl
@[simp] theorem State.modDrv_mg (s : State) {d f} : (s.modDrv d f).mg = s.mg := rfl
@[simp] theorem State.modDrv_bus (s : State) {d f} : (s.modDrv d f).bus = s.bus := rfl
@[simp] theorem State.modDrv_bridle (s : State) {d f} : (s.modDrv d f).bridle = s.bridle := rfl
@[simp] theorem State.modDrv_sec (s : State) {d f} : (s.modDrv d f).sec = s.sec := rfl
@[simp] theorem State.modDrv_rtcBase (s : State) {d f} : (s.modDrv d f).rtcBase = s.rtcBase := rfl
@[simp] theorem State.modDrv_cycle (s : State) {d f} : (s.modDrv d f).cycle = s.cycle := rfl
@[simp] theorem State.modDrv_inlet (s : State) {d f} : (s.modDrv d f).inlet = s.inlet := rfl
@[simp] theorem State.modDrv_charge (s : State) {d f} : (s.modDrv d f).charge = s.charge := rfl
@[simp] theorem State.modDrv_supply (s : State) {d f} : (s.modDrv d f).supply = s.supply := rfl
@[simp] theorem State.modDrv_solar (s : State) {d f} : (s.modDrv d f).solar = s.solar := rfl
@[simp] theorem State.modDrv_chs (s : State) {d f} : (s.modDrv d f).chs = s.chs := rfl
@[simp] theorem State.modDrv_lv (s : State) {d f} : (s.modDrv d f).lv = s.lv := rfl
@[simp] theorem State.modDrv_keeper (s : State) {d f} : (s.modDrv d f).keeper = s.keeper := rfl
@[simp] theorem State.modDrv_motors (s : State) {d f} : (s.modDrv d f).motors = s.motors := rfl
@[simp] theorem State.modDrv_shift (s : State) {d f} : (s.modDrv d f).shift = s.shift := rfl
@[simp] theorem State.modDrv_park (s : State) {d f} : (s.modDrv d f).park = s.park := rfl
@[simp] theorem State.modDrv_clutch (s : State) {d f} : (s.modDrv d f).clutch = s.clutch := rfl
@[simp] theorem State.modDrv_pump (s : State) {d f} : (s.modDrv d f).pump = s.pump := rfl
@[simp] theorem State.modDrv_harn (s : State) {d f} : (s.modDrv d f).harn = s.harn := rfl
@[simp] theorem State.modDrv_thermal (s : State) {d f} : (s.modDrv d f).thermal = s.thermal := rfl
@[simp] theorem State.modDrv_clk (s : State) {d f} : (s.modDrv d f).clk = s.clk := rfl
@[simp] theorem State.modDrv_power (s : State) {d f} : (s.modDrv d f).power = s.power := rfl
@[simp] theorem State.modDrv_boot (s : State) {d f} : (s.modDrv d f).boot = s.boot := rfl
@[simp] theorem State.modDrv_pending (s : State) {d f} : (s.modDrv d f).pending = s.pending := rfl
@[simp] theorem State.modDrv_rd (s : State) {d f} (x : Nat) : (s.modDrv d f).rd x = s.rd x := rfl
@[simp] theorem State.modDrv_sig (s : State) {d f} (x : Nat) : (s.modDrv d f).sig x = s.sig x := rfl
@[simp] theorem State.modDrv_desc (s : State) {d f} (x : Nat) : (s.modDrv d f).desc x = s.desc x := rfl
@[simp] theorem State.modDrv_sramGet (s : State) {d f} (x : Nat) : (s.modDrv d f).sramGet x = s.sramGet x := rfl
@[simp] theorem State.modDrv_nvmGet (s : State) {d f} (x : Nat) : (s.modDrv d f).nvmGet x = s.nvmGet x := rfl
@[simp] theorem State.modDrv_codeGet (s : State) {d f} (x : Nat) : (s.modDrv d f).codeGet x = s.codeGet x := rfl
@[simp] theorem State.modDrv_pgAt (s : State) {d f} (x : Nat) : (s.modDrv d f).pgAt x = s.pgAt x := rfl
@[simp] theorem State.modDrv_auAt (s : State) {d f} (x : Nat) : (s.modDrv d f).auAt x = s.auAt x := rfl
@[simp] theorem State.modDrv_ceAt (s : State) {d f} (x : Nat) : (s.modDrv d f).ceAt x = s.ceAt x := rfl
@[simp] theorem State.modDrv_coreAt (s : State) {d f} (x : Nat) : (s.modDrv d f).coreAt x = s.coreAt x := rfl
@[simp] theorem State.modDrv_own (s : State) {d f} : (s.modDrv d f).drives = s.drives.modify d f := rfl

/-! `modInlet` -/
@[simp] theorem State.modInlet_dtb (s : State) {f} : (s.modInlet f).dtb = s.dtb := rfl
@[simp] theorem State.modInlet_variant (s : State) {f} : (s.modInlet f).variant = s.variant := rfl
@[simp] theorem State.modInlet_regs (s : State) {f} : (s.modInlet f).regs = s.regs := rfl
@[simp] theorem State.modInlet_sigs (s : State) {f} : (s.modInlet f).sigs = s.sigs := rfl
@[simp] theorem State.modInlet_descs (s : State) {f} : (s.modInlet f).descs = s.descs := rfl
@[simp] theorem State.modInlet_sram (s : State) {f} : (s.modInlet f).sram = s.sram := rfl
@[simp] theorem State.modInlet_nvm (s : State) {f} : (s.modInlet f).nvm = s.nvm := rfl
@[simp] theorem State.modInlet_codeNvm (s : State) {f} : (s.modInlet f).codeNvm = s.codeNvm := rfl
@[simp] theorem State.modInlet_draws (s : State) {f} : (s.modInlet f).draws = s.draws := rfl
@[simp] theorem State.modInlet_cores (s : State) {f} : (s.modInlet f).cores = s.cores := rfl
@[simp] theorem State.modInlet_paddock (s : State) {f} : (s.modInlet f).paddock = s.paddock := rfl
@[simp] theorem State.modInlet_au (s : State) {f} : (s.modInlet f).au = s.au := rfl
@[simp] theorem State.modInlet_joins (s : State) {f} : (s.modInlet f).joins = s.joins := rfl
@[simp] theorem State.modInlet_tt (s : State) {f} : (s.modInlet f).tt = s.tt := rfl
@[simp] theorem State.modInlet_ce (s : State) {f} : (s.modInlet f).ce = s.ce := rfl
@[simp] theorem State.modInlet_pg (s : State) {f} : (s.modInlet f).pg = s.pg := rfl
@[simp] theorem State.modInlet_tripIn (s : State) {f} : (s.modInlet f).tripIn = s.tripIn := rfl
@[simp] theorem State.modInlet_yarrow (s : State) {f} : (s.modInlet f).yarrow = s.yarrow := rfl
@[simp] theorem State.modInlet_mode (s : State) {f} : (s.modInlet f).mode = s.mode := rfl
@[simp] theorem State.modInlet_irqPend (s : State) {f} : (s.modInlet f).irqPend = s.irqPend := rfl
@[simp] theorem State.modInlet_gate (s : State) {f} : (s.modInlet f).gate = s.gate := rfl
@[simp] theorem State.modInlet_mg (s : State) {f} : (s.modInlet f).mg = s.mg := rfl
@[simp] theorem State.modInlet_bus (s : State) {f} : (s.modInlet f).bus = s.bus := rfl
@[simp] theorem State.modInlet_bridle (s : State) {f} : (s.modInlet f).bridle = s.bridle := rfl
@[simp] theorem State.modInlet_sec (s : State) {f} : (s.modInlet f).sec = s.sec := rfl
@[simp] theorem State.modInlet_rtcBase (s : State) {f} : (s.modInlet f).rtcBase = s.rtcBase := rfl
@[simp] theorem State.modInlet_cycle (s : State) {f} : (s.modInlet f).cycle = s.cycle := rfl
@[simp] theorem State.modInlet_drives (s : State) {f} : (s.modInlet f).drives = s.drives := rfl
@[simp] theorem State.modInlet_charge (s : State) {f} : (s.modInlet f).charge = s.charge := rfl
@[simp] theorem State.modInlet_supply (s : State) {f} : (s.modInlet f).supply = s.supply := rfl
@[simp] theorem State.modInlet_solar (s : State) {f} : (s.modInlet f).solar = s.solar := rfl
@[simp] theorem State.modInlet_chs (s : State) {f} : (s.modInlet f).chs = s.chs := rfl
@[simp] theorem State.modInlet_lv (s : State) {f} : (s.modInlet f).lv = s.lv := rfl
@[simp] theorem State.modInlet_keeper (s : State) {f} : (s.modInlet f).keeper = s.keeper := rfl
@[simp] theorem State.modInlet_motors (s : State) {f} : (s.modInlet f).motors = s.motors := rfl
@[simp] theorem State.modInlet_shift (s : State) {f} : (s.modInlet f).shift = s.shift := rfl
@[simp] theorem State.modInlet_park (s : State) {f} : (s.modInlet f).park = s.park := rfl
@[simp] theorem State.modInlet_clutch (s : State) {f} : (s.modInlet f).clutch = s.clutch := rfl
@[simp] theorem State.modInlet_pump (s : State) {f} : (s.modInlet f).pump = s.pump := rfl
@[simp] theorem State.modInlet_harn (s : State) {f} : (s.modInlet f).harn = s.harn := rfl
@[simp] theorem State.modInlet_thermal (s : State) {f} : (s.modInlet f).thermal = s.thermal := rfl
@[simp] theorem State.modInlet_clk (s : State) {f} : (s.modInlet f).clk = s.clk := rfl
@[simp] theorem State.modInlet_power (s : State) {f} : (s.modInlet f).power = s.power := rfl
@[simp] theorem State.modInlet_boot (s : State) {f} : (s.modInlet f).boot = s.boot := rfl
@[simp] theorem State.modInlet_pending (s : State) {f} : (s.modInlet f).pending = s.pending := rfl
@[simp] theorem State.modInlet_rd (s : State) {f} (x : Nat) : (s.modInlet f).rd x = s.rd x := rfl
@[simp] theorem State.modInlet_sig (s : State) {f} (x : Nat) : (s.modInlet f).sig x = s.sig x := rfl
@[simp] theorem State.modInlet_desc (s : State) {f} (x : Nat) : (s.modInlet f).desc x = s.desc x := rfl
@[simp] theorem State.modInlet_sramGet (s : State) {f} (x : Nat) : (s.modInlet f).sramGet x = s.sramGet x := rfl
@[simp] theorem State.modInlet_nvmGet (s : State) {f} (x : Nat) : (s.modInlet f).nvmGet x = s.nvmGet x := rfl
@[simp] theorem State.modInlet_codeGet (s : State) {f} (x : Nat) : (s.modInlet f).codeGet x = s.codeGet x := rfl
@[simp] theorem State.modInlet_pgAt (s : State) {f} (x : Nat) : (s.modInlet f).pgAt x = s.pgAt x := rfl
@[simp] theorem State.modInlet_auAt (s : State) {f} (x : Nat) : (s.modInlet f).auAt x = s.auAt x := rfl
@[simp] theorem State.modInlet_ceAt (s : State) {f} (x : Nat) : (s.modInlet f).ceAt x = s.ceAt x := rfl
@[simp] theorem State.modInlet_coreAt (s : State) {f} (x : Nat) : (s.modInlet f).coreAt x = s.coreAt x := rfl
@[simp] theorem State.modInlet_own (s : State) {f} : (s.modInlet f).inlet = f s.inlet := rfl

/-! `modSupply` -/
@[simp] theorem State.modSupply_dtb (s : State) {f} : (s.modSupply f).dtb = s.dtb := rfl
@[simp] theorem State.modSupply_variant (s : State) {f} : (s.modSupply f).variant = s.variant := rfl
@[simp] theorem State.modSupply_regs (s : State) {f} : (s.modSupply f).regs = s.regs := rfl
@[simp] theorem State.modSupply_sigs (s : State) {f} : (s.modSupply f).sigs = s.sigs := rfl
@[simp] theorem State.modSupply_descs (s : State) {f} : (s.modSupply f).descs = s.descs := rfl
@[simp] theorem State.modSupply_sram (s : State) {f} : (s.modSupply f).sram = s.sram := rfl
@[simp] theorem State.modSupply_nvm (s : State) {f} : (s.modSupply f).nvm = s.nvm := rfl
@[simp] theorem State.modSupply_codeNvm (s : State) {f} : (s.modSupply f).codeNvm = s.codeNvm := rfl
@[simp] theorem State.modSupply_draws (s : State) {f} : (s.modSupply f).draws = s.draws := rfl
@[simp] theorem State.modSupply_cores (s : State) {f} : (s.modSupply f).cores = s.cores := rfl
@[simp] theorem State.modSupply_paddock (s : State) {f} : (s.modSupply f).paddock = s.paddock := rfl
@[simp] theorem State.modSupply_au (s : State) {f} : (s.modSupply f).au = s.au := rfl
@[simp] theorem State.modSupply_joins (s : State) {f} : (s.modSupply f).joins = s.joins := rfl
@[simp] theorem State.modSupply_tt (s : State) {f} : (s.modSupply f).tt = s.tt := rfl
@[simp] theorem State.modSupply_ce (s : State) {f} : (s.modSupply f).ce = s.ce := rfl
@[simp] theorem State.modSupply_pg (s : State) {f} : (s.modSupply f).pg = s.pg := rfl
@[simp] theorem State.modSupply_tripIn (s : State) {f} : (s.modSupply f).tripIn = s.tripIn := rfl
@[simp] theorem State.modSupply_yarrow (s : State) {f} : (s.modSupply f).yarrow = s.yarrow := rfl
@[simp] theorem State.modSupply_mode (s : State) {f} : (s.modSupply f).mode = s.mode := rfl
@[simp] theorem State.modSupply_irqPend (s : State) {f} : (s.modSupply f).irqPend = s.irqPend := rfl
@[simp] theorem State.modSupply_gate (s : State) {f} : (s.modSupply f).gate = s.gate := rfl
@[simp] theorem State.modSupply_mg (s : State) {f} : (s.modSupply f).mg = s.mg := rfl
@[simp] theorem State.modSupply_bus (s : State) {f} : (s.modSupply f).bus = s.bus := rfl
@[simp] theorem State.modSupply_bridle (s : State) {f} : (s.modSupply f).bridle = s.bridle := rfl
@[simp] theorem State.modSupply_sec (s : State) {f} : (s.modSupply f).sec = s.sec := rfl
@[simp] theorem State.modSupply_rtcBase (s : State) {f} : (s.modSupply f).rtcBase = s.rtcBase := rfl
@[simp] theorem State.modSupply_cycle (s : State) {f} : (s.modSupply f).cycle = s.cycle := rfl
@[simp] theorem State.modSupply_drives (s : State) {f} : (s.modSupply f).drives = s.drives := rfl
@[simp] theorem State.modSupply_inlet (s : State) {f} : (s.modSupply f).inlet = s.inlet := rfl
@[simp] theorem State.modSupply_charge (s : State) {f} : (s.modSupply f).charge = s.charge := rfl
@[simp] theorem State.modSupply_solar (s : State) {f} : (s.modSupply f).solar = s.solar := rfl
@[simp] theorem State.modSupply_chs (s : State) {f} : (s.modSupply f).chs = s.chs := rfl
@[simp] theorem State.modSupply_lv (s : State) {f} : (s.modSupply f).lv = s.lv := rfl
@[simp] theorem State.modSupply_keeper (s : State) {f} : (s.modSupply f).keeper = s.keeper := rfl
@[simp] theorem State.modSupply_motors (s : State) {f} : (s.modSupply f).motors = s.motors := rfl
@[simp] theorem State.modSupply_shift (s : State) {f} : (s.modSupply f).shift = s.shift := rfl
@[simp] theorem State.modSupply_park (s : State) {f} : (s.modSupply f).park = s.park := rfl
@[simp] theorem State.modSupply_clutch (s : State) {f} : (s.modSupply f).clutch = s.clutch := rfl
@[simp] theorem State.modSupply_pump (s : State) {f} : (s.modSupply f).pump = s.pump := rfl
@[simp] theorem State.modSupply_harn (s : State) {f} : (s.modSupply f).harn = s.harn := rfl
@[simp] theorem State.modSupply_thermal (s : State) {f} : (s.modSupply f).thermal = s.thermal := rfl
@[simp] theorem State.modSupply_clk (s : State) {f} : (s.modSupply f).clk = s.clk := rfl
@[simp] theorem State.modSupply_power (s : State) {f} : (s.modSupply f).power = s.power := rfl
@[simp] theorem State.modSupply_boot (s : State) {f} : (s.modSupply f).boot = s.boot := rfl
@[simp] theorem State.modSupply_pending (s : State) {f} : (s.modSupply f).pending = s.pending := rfl
@[simp] theorem State.modSupply_rd (s : State) {f} (x : Nat) : (s.modSupply f).rd x = s.rd x := rfl
@[simp] theorem State.modSupply_sig (s : State) {f} (x : Nat) : (s.modSupply f).sig x = s.sig x := rfl
@[simp] theorem State.modSupply_desc (s : State) {f} (x : Nat) : (s.modSupply f).desc x = s.desc x := rfl
@[simp] theorem State.modSupply_sramGet (s : State) {f} (x : Nat) : (s.modSupply f).sramGet x = s.sramGet x := rfl
@[simp] theorem State.modSupply_nvmGet (s : State) {f} (x : Nat) : (s.modSupply f).nvmGet x = s.nvmGet x := rfl
@[simp] theorem State.modSupply_codeGet (s : State) {f} (x : Nat) : (s.modSupply f).codeGet x = s.codeGet x := rfl
@[simp] theorem State.modSupply_pgAt (s : State) {f} (x : Nat) : (s.modSupply f).pgAt x = s.pgAt x := rfl
@[simp] theorem State.modSupply_auAt (s : State) {f} (x : Nat) : (s.modSupply f).auAt x = s.auAt x := rfl
@[simp] theorem State.modSupply_ceAt (s : State) {f} (x : Nat) : (s.modSupply f).ceAt x = s.ceAt x := rfl
@[simp] theorem State.modSupply_coreAt (s : State) {f} (x : Nat) : (s.modSupply f).coreAt x = s.coreAt x := rfl
@[simp] theorem State.modSupply_own (s : State) {f} : (s.modSupply f).supply = f s.supply := rfl

/-! `modSolar` -/
@[simp] theorem State.modSolar_dtb (s : State) {f} : (s.modSolar f).dtb = s.dtb := rfl
@[simp] theorem State.modSolar_variant (s : State) {f} : (s.modSolar f).variant = s.variant := rfl
@[simp] theorem State.modSolar_regs (s : State) {f} : (s.modSolar f).regs = s.regs := rfl
@[simp] theorem State.modSolar_sigs (s : State) {f} : (s.modSolar f).sigs = s.sigs := rfl
@[simp] theorem State.modSolar_descs (s : State) {f} : (s.modSolar f).descs = s.descs := rfl
@[simp] theorem State.modSolar_sram (s : State) {f} : (s.modSolar f).sram = s.sram := rfl
@[simp] theorem State.modSolar_nvm (s : State) {f} : (s.modSolar f).nvm = s.nvm := rfl
@[simp] theorem State.modSolar_codeNvm (s : State) {f} : (s.modSolar f).codeNvm = s.codeNvm := rfl
@[simp] theorem State.modSolar_draws (s : State) {f} : (s.modSolar f).draws = s.draws := rfl
@[simp] theorem State.modSolar_cores (s : State) {f} : (s.modSolar f).cores = s.cores := rfl
@[simp] theorem State.modSolar_paddock (s : State) {f} : (s.modSolar f).paddock = s.paddock := rfl
@[simp] theorem State.modSolar_au (s : State) {f} : (s.modSolar f).au = s.au := rfl
@[simp] theorem State.modSolar_joins (s : State) {f} : (s.modSolar f).joins = s.joins := rfl
@[simp] theorem State.modSolar_tt (s : State) {f} : (s.modSolar f).tt = s.tt := rfl
@[simp] theorem State.modSolar_ce (s : State) {f} : (s.modSolar f).ce = s.ce := rfl
@[simp] theorem State.modSolar_pg (s : State) {f} : (s.modSolar f).pg = s.pg := rfl
@[simp] theorem State.modSolar_tripIn (s : State) {f} : (s.modSolar f).tripIn = s.tripIn := rfl
@[simp] theorem State.modSolar_yarrow (s : State) {f} : (s.modSolar f).yarrow = s.yarrow := rfl
@[simp] theorem State.modSolar_mode (s : State) {f} : (s.modSolar f).mode = s.mode := rfl
@[simp] theorem State.modSolar_irqPend (s : State) {f} : (s.modSolar f).irqPend = s.irqPend := rfl
@[simp] theorem State.modSolar_gate (s : State) {f} : (s.modSolar f).gate = s.gate := rfl
@[simp] theorem State.modSolar_mg (s : State) {f} : (s.modSolar f).mg = s.mg := rfl
@[simp] theorem State.modSolar_bus (s : State) {f} : (s.modSolar f).bus = s.bus := rfl
@[simp] theorem State.modSolar_bridle (s : State) {f} : (s.modSolar f).bridle = s.bridle := rfl
@[simp] theorem State.modSolar_sec (s : State) {f} : (s.modSolar f).sec = s.sec := rfl
@[simp] theorem State.modSolar_rtcBase (s : State) {f} : (s.modSolar f).rtcBase = s.rtcBase := rfl
@[simp] theorem State.modSolar_cycle (s : State) {f} : (s.modSolar f).cycle = s.cycle := rfl
@[simp] theorem State.modSolar_drives (s : State) {f} : (s.modSolar f).drives = s.drives := rfl
@[simp] theorem State.modSolar_inlet (s : State) {f} : (s.modSolar f).inlet = s.inlet := rfl
@[simp] theorem State.modSolar_charge (s : State) {f} : (s.modSolar f).charge = s.charge := rfl
@[simp] theorem State.modSolar_supply (s : State) {f} : (s.modSolar f).supply = s.supply := rfl
@[simp] theorem State.modSolar_chs (s : State) {f} : (s.modSolar f).chs = s.chs := rfl
@[simp] theorem State.modSolar_lv (s : State) {f} : (s.modSolar f).lv = s.lv := rfl
@[simp] theorem State.modSolar_keeper (s : State) {f} : (s.modSolar f).keeper = s.keeper := rfl
@[simp] theorem State.modSolar_motors (s : State) {f} : (s.modSolar f).motors = s.motors := rfl
@[simp] theorem State.modSolar_shift (s : State) {f} : (s.modSolar f).shift = s.shift := rfl
@[simp] theorem State.modSolar_park (s : State) {f} : (s.modSolar f).park = s.park := rfl
@[simp] theorem State.modSolar_clutch (s : State) {f} : (s.modSolar f).clutch = s.clutch := rfl
@[simp] theorem State.modSolar_pump (s : State) {f} : (s.modSolar f).pump = s.pump := rfl
@[simp] theorem State.modSolar_harn (s : State) {f} : (s.modSolar f).harn = s.harn := rfl
@[simp] theorem State.modSolar_thermal (s : State) {f} : (s.modSolar f).thermal = s.thermal := rfl
@[simp] theorem State.modSolar_clk (s : State) {f} : (s.modSolar f).clk = s.clk := rfl
@[simp] theorem State.modSolar_power (s : State) {f} : (s.modSolar f).power = s.power := rfl
@[simp] theorem State.modSolar_boot (s : State) {f} : (s.modSolar f).boot = s.boot := rfl
@[simp] theorem State.modSolar_pending (s : State) {f} : (s.modSolar f).pending = s.pending := rfl
@[simp] theorem State.modSolar_rd (s : State) {f} (x : Nat) : (s.modSolar f).rd x = s.rd x := rfl
@[simp] theorem State.modSolar_sig (s : State) {f} (x : Nat) : (s.modSolar f).sig x = s.sig x := rfl
@[simp] theorem State.modSolar_desc (s : State) {f} (x : Nat) : (s.modSolar f).desc x = s.desc x := rfl
@[simp] theorem State.modSolar_sramGet (s : State) {f} (x : Nat) : (s.modSolar f).sramGet x = s.sramGet x := rfl
@[simp] theorem State.modSolar_nvmGet (s : State) {f} (x : Nat) : (s.modSolar f).nvmGet x = s.nvmGet x := rfl
@[simp] theorem State.modSolar_codeGet (s : State) {f} (x : Nat) : (s.modSolar f).codeGet x = s.codeGet x := rfl
@[simp] theorem State.modSolar_pgAt (s : State) {f} (x : Nat) : (s.modSolar f).pgAt x = s.pgAt x := rfl
@[simp] theorem State.modSolar_auAt (s : State) {f} (x : Nat) : (s.modSolar f).auAt x = s.auAt x := rfl
@[simp] theorem State.modSolar_ceAt (s : State) {f} (x : Nat) : (s.modSolar f).ceAt x = s.ceAt x := rfl
@[simp] theorem State.modSolar_coreAt (s : State) {f} (x : Nat) : (s.modSolar f).coreAt x = s.coreAt x := rfl
@[simp] theorem State.modSolar_own (s : State) {f} : (s.modSolar f).solar = f s.solar := rfl

/-! `modCh` -/
@[simp] theorem State.modCh_dtb (s : State) {m f} : (s.modCh m f).dtb = s.dtb := rfl
@[simp] theorem State.modCh_variant (s : State) {m f} : (s.modCh m f).variant = s.variant := rfl
@[simp] theorem State.modCh_regs (s : State) {m f} : (s.modCh m f).regs = s.regs := rfl
@[simp] theorem State.modCh_sigs (s : State) {m f} : (s.modCh m f).sigs = s.sigs := rfl
@[simp] theorem State.modCh_descs (s : State) {m f} : (s.modCh m f).descs = s.descs := rfl
@[simp] theorem State.modCh_sram (s : State) {m f} : (s.modCh m f).sram = s.sram := rfl
@[simp] theorem State.modCh_nvm (s : State) {m f} : (s.modCh m f).nvm = s.nvm := rfl
@[simp] theorem State.modCh_codeNvm (s : State) {m f} : (s.modCh m f).codeNvm = s.codeNvm := rfl
@[simp] theorem State.modCh_draws (s : State) {m f} : (s.modCh m f).draws = s.draws := rfl
@[simp] theorem State.modCh_cores (s : State) {m f} : (s.modCh m f).cores = s.cores := rfl
@[simp] theorem State.modCh_paddock (s : State) {m f} : (s.modCh m f).paddock = s.paddock := rfl
@[simp] theorem State.modCh_au (s : State) {m f} : (s.modCh m f).au = s.au := rfl
@[simp] theorem State.modCh_joins (s : State) {m f} : (s.modCh m f).joins = s.joins := rfl
@[simp] theorem State.modCh_tt (s : State) {m f} : (s.modCh m f).tt = s.tt := rfl
@[simp] theorem State.modCh_ce (s : State) {m f} : (s.modCh m f).ce = s.ce := rfl
@[simp] theorem State.modCh_pg (s : State) {m f} : (s.modCh m f).pg = s.pg := rfl
@[simp] theorem State.modCh_tripIn (s : State) {m f} : (s.modCh m f).tripIn = s.tripIn := rfl
@[simp] theorem State.modCh_yarrow (s : State) {m f} : (s.modCh m f).yarrow = s.yarrow := rfl
@[simp] theorem State.modCh_mode (s : State) {m f} : (s.modCh m f).mode = s.mode := rfl
@[simp] theorem State.modCh_irqPend (s : State) {m f} : (s.modCh m f).irqPend = s.irqPend := rfl
@[simp] theorem State.modCh_gate (s : State) {m f} : (s.modCh m f).gate = s.gate := rfl
@[simp] theorem State.modCh_mg (s : State) {m f} : (s.modCh m f).mg = s.mg := rfl
@[simp] theorem State.modCh_bus (s : State) {m f} : (s.modCh m f).bus = s.bus := rfl
@[simp] theorem State.modCh_bridle (s : State) {m f} : (s.modCh m f).bridle = s.bridle := rfl
@[simp] theorem State.modCh_sec (s : State) {m f} : (s.modCh m f).sec = s.sec := rfl
@[simp] theorem State.modCh_rtcBase (s : State) {m f} : (s.modCh m f).rtcBase = s.rtcBase := rfl
@[simp] theorem State.modCh_cycle (s : State) {m f} : (s.modCh m f).cycle = s.cycle := rfl
@[simp] theorem State.modCh_drives (s : State) {m f} : (s.modCh m f).drives = s.drives := rfl
@[simp] theorem State.modCh_inlet (s : State) {m f} : (s.modCh m f).inlet = s.inlet := rfl
@[simp] theorem State.modCh_supply (s : State) {m f} : (s.modCh m f).supply = s.supply := rfl
@[simp] theorem State.modCh_solar (s : State) {m f} : (s.modCh m f).solar = s.solar := rfl
@[simp] theorem State.modCh_chs (s : State) {m f} : (s.modCh m f).chs = s.chs := rfl
@[simp] theorem State.modCh_lv (s : State) {m f} : (s.modCh m f).lv = s.lv := rfl
@[simp] theorem State.modCh_keeper (s : State) {m f} : (s.modCh m f).keeper = s.keeper := rfl
@[simp] theorem State.modCh_motors (s : State) {m f} : (s.modCh m f).motors = s.motors := rfl
@[simp] theorem State.modCh_shift (s : State) {m f} : (s.modCh m f).shift = s.shift := rfl
@[simp] theorem State.modCh_park (s : State) {m f} : (s.modCh m f).park = s.park := rfl
@[simp] theorem State.modCh_clutch (s : State) {m f} : (s.modCh m f).clutch = s.clutch := rfl
@[simp] theorem State.modCh_pump (s : State) {m f} : (s.modCh m f).pump = s.pump := rfl
@[simp] theorem State.modCh_harn (s : State) {m f} : (s.modCh m f).harn = s.harn := rfl
@[simp] theorem State.modCh_thermal (s : State) {m f} : (s.modCh m f).thermal = s.thermal := rfl
@[simp] theorem State.modCh_clk (s : State) {m f} : (s.modCh m f).clk = s.clk := rfl
@[simp] theorem State.modCh_power (s : State) {m f} : (s.modCh m f).power = s.power := rfl
@[simp] theorem State.modCh_boot (s : State) {m f} : (s.modCh m f).boot = s.boot := rfl
@[simp] theorem State.modCh_pending (s : State) {m f} : (s.modCh m f).pending = s.pending := rfl
@[simp] theorem State.modCh_rd (s : State) {m f} (x : Nat) : (s.modCh m f).rd x = s.rd x := rfl
@[simp] theorem State.modCh_sig (s : State) {m f} (x : Nat) : (s.modCh m f).sig x = s.sig x := rfl
@[simp] theorem State.modCh_desc (s : State) {m f} (x : Nat) : (s.modCh m f).desc x = s.desc x := rfl
@[simp] theorem State.modCh_sramGet (s : State) {m f} (x : Nat) : (s.modCh m f).sramGet x = s.sramGet x := rfl
@[simp] theorem State.modCh_nvmGet (s : State) {m f} (x : Nat) : (s.modCh m f).nvmGet x = s.nvmGet x := rfl
@[simp] theorem State.modCh_codeGet (s : State) {m f} (x : Nat) : (s.modCh m f).codeGet x = s.codeGet x := rfl
@[simp] theorem State.modCh_pgAt (s : State) {m f} (x : Nat) : (s.modCh m f).pgAt x = s.pgAt x := rfl
@[simp] theorem State.modCh_auAt (s : State) {m f} (x : Nat) : (s.modCh m f).auAt x = s.auAt x := rfl
@[simp] theorem State.modCh_ceAt (s : State) {m f} (x : Nat) : (s.modCh m f).ceAt x = s.ceAt x := rfl
@[simp] theorem State.modCh_coreAt (s : State) {m f} (x : Nat) : (s.modCh m f).coreAt x = s.coreAt x := rfl
@[simp] theorem State.modCh_own (s : State) {m f} : (s.modCh m f).charge = s.charge.modify m f := rfl

/-! `modLvSeq` -/
@[simp] theorem State.modLvSeq_dtb (s : State) {f} : (s.modLvSeq f).dtb = s.dtb := rfl
@[simp] theorem State.modLvSeq_variant (s : State) {f} : (s.modLvSeq f).variant = s.variant := rfl
@[simp] theorem State.modLvSeq_regs (s : State) {f} : (s.modLvSeq f).regs = s.regs := rfl
@[simp] theorem State.modLvSeq_sigs (s : State) {f} : (s.modLvSeq f).sigs = s.sigs := rfl
@[simp] theorem State.modLvSeq_descs (s : State) {f} : (s.modLvSeq f).descs = s.descs := rfl
@[simp] theorem State.modLvSeq_sram (s : State) {f} : (s.modLvSeq f).sram = s.sram := rfl
@[simp] theorem State.modLvSeq_nvm (s : State) {f} : (s.modLvSeq f).nvm = s.nvm := rfl
@[simp] theorem State.modLvSeq_codeNvm (s : State) {f} : (s.modLvSeq f).codeNvm = s.codeNvm := rfl
@[simp] theorem State.modLvSeq_draws (s : State) {f} : (s.modLvSeq f).draws = s.draws := rfl
@[simp] theorem State.modLvSeq_cores (s : State) {f} : (s.modLvSeq f).cores = s.cores := rfl
@[simp] theorem State.modLvSeq_paddock (s : State) {f} : (s.modLvSeq f).paddock = s.paddock := rfl
@[simp] theorem State.modLvSeq_au (s : State) {f} : (s.modLvSeq f).au = s.au := rfl
@[simp] theorem State.modLvSeq_joins (s : State) {f} : (s.modLvSeq f).joins = s.joins := rfl
@[simp] theorem State.modLvSeq_tt (s : State) {f} : (s.modLvSeq f).tt = s.tt := rfl
@[simp] theorem State.modLvSeq_ce (s : State) {f} : (s.modLvSeq f).ce = s.ce := rfl
@[simp] theorem State.modLvSeq_pg (s : State) {f} : (s.modLvSeq f).pg = s.pg := rfl
@[simp] theorem State.modLvSeq_tripIn (s : State) {f} : (s.modLvSeq f).tripIn = s.tripIn := rfl
@[simp] theorem State.modLvSeq_yarrow (s : State) {f} : (s.modLvSeq f).yarrow = s.yarrow := rfl
@[simp] theorem State.modLvSeq_mode (s : State) {f} : (s.modLvSeq f).mode = s.mode := rfl
@[simp] theorem State.modLvSeq_irqPend (s : State) {f} : (s.modLvSeq f).irqPend = s.irqPend := rfl
@[simp] theorem State.modLvSeq_gate (s : State) {f} : (s.modLvSeq f).gate = s.gate := rfl
@[simp] theorem State.modLvSeq_mg (s : State) {f} : (s.modLvSeq f).mg = s.mg := rfl
@[simp] theorem State.modLvSeq_bus (s : State) {f} : (s.modLvSeq f).bus = s.bus := rfl
@[simp] theorem State.modLvSeq_bridle (s : State) {f} : (s.modLvSeq f).bridle = s.bridle := rfl
@[simp] theorem State.modLvSeq_sec (s : State) {f} : (s.modLvSeq f).sec = s.sec := rfl
@[simp] theorem State.modLvSeq_rtcBase (s : State) {f} : (s.modLvSeq f).rtcBase = s.rtcBase := rfl
@[simp] theorem State.modLvSeq_cycle (s : State) {f} : (s.modLvSeq f).cycle = s.cycle := rfl
@[simp] theorem State.modLvSeq_drives (s : State) {f} : (s.modLvSeq f).drives = s.drives := rfl
@[simp] theorem State.modLvSeq_inlet (s : State) {f} : (s.modLvSeq f).inlet = s.inlet := rfl
@[simp] theorem State.modLvSeq_charge (s : State) {f} : (s.modLvSeq f).charge = s.charge := rfl
@[simp] theorem State.modLvSeq_supply (s : State) {f} : (s.modLvSeq f).supply = s.supply := rfl
@[simp] theorem State.modLvSeq_solar (s : State) {f} : (s.modLvSeq f).solar = s.solar := rfl
@[simp] theorem State.modLvSeq_chs (s : State) {f} : (s.modLvSeq f).chs = s.chs := rfl
@[simp] theorem State.modLvSeq_keeper (s : State) {f} : (s.modLvSeq f).keeper = s.keeper := rfl
@[simp] theorem State.modLvSeq_motors (s : State) {f} : (s.modLvSeq f).motors = s.motors := rfl
@[simp] theorem State.modLvSeq_shift (s : State) {f} : (s.modLvSeq f).shift = s.shift := rfl
@[simp] theorem State.modLvSeq_park (s : State) {f} : (s.modLvSeq f).park = s.park := rfl
@[simp] theorem State.modLvSeq_clutch (s : State) {f} : (s.modLvSeq f).clutch = s.clutch := rfl
@[simp] theorem State.modLvSeq_pump (s : State) {f} : (s.modLvSeq f).pump = s.pump := rfl
@[simp] theorem State.modLvSeq_harn (s : State) {f} : (s.modLvSeq f).harn = s.harn := rfl
@[simp] theorem State.modLvSeq_thermal (s : State) {f} : (s.modLvSeq f).thermal = s.thermal := rfl
@[simp] theorem State.modLvSeq_clk (s : State) {f} : (s.modLvSeq f).clk = s.clk := rfl
@[simp] theorem State.modLvSeq_power (s : State) {f} : (s.modLvSeq f).power = s.power := rfl
@[simp] theorem State.modLvSeq_boot (s : State) {f} : (s.modLvSeq f).boot = s.boot := rfl
@[simp] theorem State.modLvSeq_pending (s : State) {f} : (s.modLvSeq f).pending = s.pending := rfl
@[simp] theorem State.modLvSeq_rd (s : State) {f} (x : Nat) : (s.modLvSeq f).rd x = s.rd x := rfl
@[simp] theorem State.modLvSeq_sig (s : State) {f} (x : Nat) : (s.modLvSeq f).sig x = s.sig x := rfl
@[simp] theorem State.modLvSeq_desc (s : State) {f} (x : Nat) : (s.modLvSeq f).desc x = s.desc x := rfl
@[simp] theorem State.modLvSeq_sramGet (s : State) {f} (x : Nat) : (s.modLvSeq f).sramGet x = s.sramGet x := rfl
@[simp] theorem State.modLvSeq_nvmGet (s : State) {f} (x : Nat) : (s.modLvSeq f).nvmGet x = s.nvmGet x := rfl
@[simp] theorem State.modLvSeq_codeGet (s : State) {f} (x : Nat) : (s.modLvSeq f).codeGet x = s.codeGet x := rfl
@[simp] theorem State.modLvSeq_pgAt (s : State) {f} (x : Nat) : (s.modLvSeq f).pgAt x = s.pgAt x := rfl
@[simp] theorem State.modLvSeq_auAt (s : State) {f} (x : Nat) : (s.modLvSeq f).auAt x = s.auAt x := rfl
@[simp] theorem State.modLvSeq_ceAt (s : State) {f} (x : Nat) : (s.modLvSeq f).ceAt x = s.ceAt x := rfl
@[simp] theorem State.modLvSeq_coreAt (s : State) {f} (x : Nat) : (s.modLvSeq f).coreAt x = s.coreAt x := rfl
@[simp] theorem State.modLvSeq_own (s : State) {f} : (s.modLvSeq f).lv = f s.lv := rfl

/-! `modKeeper` -/
@[simp] theorem State.modKeeper_dtb (s : State) {f} : (s.modKeeper f).dtb = s.dtb := rfl
@[simp] theorem State.modKeeper_variant (s : State) {f} : (s.modKeeper f).variant = s.variant := rfl
@[simp] theorem State.modKeeper_regs (s : State) {f} : (s.modKeeper f).regs = s.regs := rfl
@[simp] theorem State.modKeeper_sigs (s : State) {f} : (s.modKeeper f).sigs = s.sigs := rfl
@[simp] theorem State.modKeeper_descs (s : State) {f} : (s.modKeeper f).descs = s.descs := rfl
@[simp] theorem State.modKeeper_sram (s : State) {f} : (s.modKeeper f).sram = s.sram := rfl
@[simp] theorem State.modKeeper_nvm (s : State) {f} : (s.modKeeper f).nvm = s.nvm := rfl
@[simp] theorem State.modKeeper_codeNvm (s : State) {f} : (s.modKeeper f).codeNvm = s.codeNvm := rfl
@[simp] theorem State.modKeeper_draws (s : State) {f} : (s.modKeeper f).draws = s.draws := rfl
@[simp] theorem State.modKeeper_cores (s : State) {f} : (s.modKeeper f).cores = s.cores := rfl
@[simp] theorem State.modKeeper_paddock (s : State) {f} : (s.modKeeper f).paddock = s.paddock := rfl
@[simp] theorem State.modKeeper_au (s : State) {f} : (s.modKeeper f).au = s.au := rfl
@[simp] theorem State.modKeeper_joins (s : State) {f} : (s.modKeeper f).joins = s.joins := rfl
@[simp] theorem State.modKeeper_tt (s : State) {f} : (s.modKeeper f).tt = s.tt := rfl
@[simp] theorem State.modKeeper_ce (s : State) {f} : (s.modKeeper f).ce = s.ce := rfl
@[simp] theorem State.modKeeper_pg (s : State) {f} : (s.modKeeper f).pg = s.pg := rfl
@[simp] theorem State.modKeeper_tripIn (s : State) {f} : (s.modKeeper f).tripIn = s.tripIn := rfl
@[simp] theorem State.modKeeper_yarrow (s : State) {f} : (s.modKeeper f).yarrow = s.yarrow := rfl
@[simp] theorem State.modKeeper_mode (s : State) {f} : (s.modKeeper f).mode = s.mode := rfl
@[simp] theorem State.modKeeper_irqPend (s : State) {f} : (s.modKeeper f).irqPend = s.irqPend := rfl
@[simp] theorem State.modKeeper_gate (s : State) {f} : (s.modKeeper f).gate = s.gate := rfl
@[simp] theorem State.modKeeper_mg (s : State) {f} : (s.modKeeper f).mg = s.mg := rfl
@[simp] theorem State.modKeeper_bus (s : State) {f} : (s.modKeeper f).bus = s.bus := rfl
@[simp] theorem State.modKeeper_bridle (s : State) {f} : (s.modKeeper f).bridle = s.bridle := rfl
@[simp] theorem State.modKeeper_sec (s : State) {f} : (s.modKeeper f).sec = s.sec := rfl
@[simp] theorem State.modKeeper_rtcBase (s : State) {f} : (s.modKeeper f).rtcBase = s.rtcBase := rfl
@[simp] theorem State.modKeeper_cycle (s : State) {f} : (s.modKeeper f).cycle = s.cycle := rfl
@[simp] theorem State.modKeeper_drives (s : State) {f} : (s.modKeeper f).drives = s.drives := rfl
@[simp] theorem State.modKeeper_inlet (s : State) {f} : (s.modKeeper f).inlet = s.inlet := rfl
@[simp] theorem State.modKeeper_charge (s : State) {f} : (s.modKeeper f).charge = s.charge := rfl
@[simp] theorem State.modKeeper_supply (s : State) {f} : (s.modKeeper f).supply = s.supply := rfl
@[simp] theorem State.modKeeper_solar (s : State) {f} : (s.modKeeper f).solar = s.solar := rfl
@[simp] theorem State.modKeeper_chs (s : State) {f} : (s.modKeeper f).chs = s.chs := rfl
@[simp] theorem State.modKeeper_lv (s : State) {f} : (s.modKeeper f).lv = s.lv := rfl
@[simp] theorem State.modKeeper_motors (s : State) {f} : (s.modKeeper f).motors = s.motors := rfl
@[simp] theorem State.modKeeper_shift (s : State) {f} : (s.modKeeper f).shift = s.shift := rfl
@[simp] theorem State.modKeeper_park (s : State) {f} : (s.modKeeper f).park = s.park := rfl
@[simp] theorem State.modKeeper_clutch (s : State) {f} : (s.modKeeper f).clutch = s.clutch := rfl
@[simp] theorem State.modKeeper_pump (s : State) {f} : (s.modKeeper f).pump = s.pump := rfl
@[simp] theorem State.modKeeper_harn (s : State) {f} : (s.modKeeper f).harn = s.harn := rfl
@[simp] theorem State.modKeeper_thermal (s : State) {f} : (s.modKeeper f).thermal = s.thermal := rfl
@[simp] theorem State.modKeeper_clk (s : State) {f} : (s.modKeeper f).clk = s.clk := rfl
@[simp] theorem State.modKeeper_power (s : State) {f} : (s.modKeeper f).power = s.power := rfl
@[simp] theorem State.modKeeper_boot (s : State) {f} : (s.modKeeper f).boot = s.boot := rfl
@[simp] theorem State.modKeeper_pending (s : State) {f} : (s.modKeeper f).pending = s.pending := rfl
@[simp] theorem State.modKeeper_rd (s : State) {f} (x : Nat) : (s.modKeeper f).rd x = s.rd x := rfl
@[simp] theorem State.modKeeper_sig (s : State) {f} (x : Nat) : (s.modKeeper f).sig x = s.sig x := rfl
@[simp] theorem State.modKeeper_desc (s : State) {f} (x : Nat) : (s.modKeeper f).desc x = s.desc x := rfl
@[simp] theorem State.modKeeper_sramGet (s : State) {f} (x : Nat) : (s.modKeeper f).sramGet x = s.sramGet x := rfl
@[simp] theorem State.modKeeper_nvmGet (s : State) {f} (x : Nat) : (s.modKeeper f).nvmGet x = s.nvmGet x := rfl
@[simp] theorem State.modKeeper_codeGet (s : State) {f} (x : Nat) : (s.modKeeper f).codeGet x = s.codeGet x := rfl
@[simp] theorem State.modKeeper_pgAt (s : State) {f} (x : Nat) : (s.modKeeper f).pgAt x = s.pgAt x := rfl
@[simp] theorem State.modKeeper_auAt (s : State) {f} (x : Nat) : (s.modKeeper f).auAt x = s.auAt x := rfl
@[simp] theorem State.modKeeper_ceAt (s : State) {f} (x : Nat) : (s.modKeeper f).ceAt x = s.ceAt x := rfl
@[simp] theorem State.modKeeper_coreAt (s : State) {f} (x : Nat) : (s.modKeeper f).coreAt x = s.coreAt x := rfl
@[simp] theorem State.modKeeper_own (s : State) {f} : (s.modKeeper f).keeper = f s.keeper := rfl

/-! `modMotor` -/
@[simp] theorem State.modMotor_dtb (s : State) {m f} : (s.modMotor m f).dtb = s.dtb := rfl
@[simp] theorem State.modMotor_variant (s : State) {m f} : (s.modMotor m f).variant = s.variant := rfl
@[simp] theorem State.modMotor_regs (s : State) {m f} : (s.modMotor m f).regs = s.regs := rfl
@[simp] theorem State.modMotor_sigs (s : State) {m f} : (s.modMotor m f).sigs = s.sigs := rfl
@[simp] theorem State.modMotor_descs (s : State) {m f} : (s.modMotor m f).descs = s.descs := rfl
@[simp] theorem State.modMotor_sram (s : State) {m f} : (s.modMotor m f).sram = s.sram := rfl
@[simp] theorem State.modMotor_nvm (s : State) {m f} : (s.modMotor m f).nvm = s.nvm := rfl
@[simp] theorem State.modMotor_codeNvm (s : State) {m f} : (s.modMotor m f).codeNvm = s.codeNvm := rfl
@[simp] theorem State.modMotor_draws (s : State) {m f} : (s.modMotor m f).draws = s.draws := rfl
@[simp] theorem State.modMotor_cores (s : State) {m f} : (s.modMotor m f).cores = s.cores := rfl
@[simp] theorem State.modMotor_paddock (s : State) {m f} : (s.modMotor m f).paddock = s.paddock := rfl
@[simp] theorem State.modMotor_au (s : State) {m f} : (s.modMotor m f).au = s.au := rfl
@[simp] theorem State.modMotor_joins (s : State) {m f} : (s.modMotor m f).joins = s.joins := rfl
@[simp] theorem State.modMotor_tt (s : State) {m f} : (s.modMotor m f).tt = s.tt := rfl
@[simp] theorem State.modMotor_ce (s : State) {m f} : (s.modMotor m f).ce = s.ce := rfl
@[simp] theorem State.modMotor_pg (s : State) {m f} : (s.modMotor m f).pg = s.pg := rfl
@[simp] theorem State.modMotor_tripIn (s : State) {m f} : (s.modMotor m f).tripIn = s.tripIn := rfl
@[simp] theorem State.modMotor_yarrow (s : State) {m f} : (s.modMotor m f).yarrow = s.yarrow := rfl
@[simp] theorem State.modMotor_mode (s : State) {m f} : (s.modMotor m f).mode = s.mode := rfl
@[simp] theorem State.modMotor_irqPend (s : State) {m f} : (s.modMotor m f).irqPend = s.irqPend := rfl
@[simp] theorem State.modMotor_gate (s : State) {m f} : (s.modMotor m f).gate = s.gate := rfl
@[simp] theorem State.modMotor_mg (s : State) {m f} : (s.modMotor m f).mg = s.mg := rfl
@[simp] theorem State.modMotor_bus (s : State) {m f} : (s.modMotor m f).bus = s.bus := rfl
@[simp] theorem State.modMotor_bridle (s : State) {m f} : (s.modMotor m f).bridle = s.bridle := rfl
@[simp] theorem State.modMotor_sec (s : State) {m f} : (s.modMotor m f).sec = s.sec := rfl
@[simp] theorem State.modMotor_rtcBase (s : State) {m f} : (s.modMotor m f).rtcBase = s.rtcBase := rfl
@[simp] theorem State.modMotor_cycle (s : State) {m f} : (s.modMotor m f).cycle = s.cycle := rfl
@[simp] theorem State.modMotor_drives (s : State) {m f} : (s.modMotor m f).drives = s.drives := rfl
@[simp] theorem State.modMotor_inlet (s : State) {m f} : (s.modMotor m f).inlet = s.inlet := rfl
@[simp] theorem State.modMotor_charge (s : State) {m f} : (s.modMotor m f).charge = s.charge := rfl
@[simp] theorem State.modMotor_supply (s : State) {m f} : (s.modMotor m f).supply = s.supply := rfl
@[simp] theorem State.modMotor_solar (s : State) {m f} : (s.modMotor m f).solar = s.solar := rfl
@[simp] theorem State.modMotor_chs (s : State) {m f} : (s.modMotor m f).chs = s.chs := rfl
@[simp] theorem State.modMotor_lv (s : State) {m f} : (s.modMotor m f).lv = s.lv := rfl
@[simp] theorem State.modMotor_keeper (s : State) {m f} : (s.modMotor m f).keeper = s.keeper := rfl
@[simp] theorem State.modMotor_shift (s : State) {m f} : (s.modMotor m f).shift = s.shift := rfl
@[simp] theorem State.modMotor_park (s : State) {m f} : (s.modMotor m f).park = s.park := rfl
@[simp] theorem State.modMotor_clutch (s : State) {m f} : (s.modMotor m f).clutch = s.clutch := rfl
@[simp] theorem State.modMotor_pump (s : State) {m f} : (s.modMotor m f).pump = s.pump := rfl
@[simp] theorem State.modMotor_harn (s : State) {m f} : (s.modMotor m f).harn = s.harn := rfl
@[simp] theorem State.modMotor_thermal (s : State) {m f} : (s.modMotor m f).thermal = s.thermal := rfl
@[simp] theorem State.modMotor_clk (s : State) {m f} : (s.modMotor m f).clk = s.clk := rfl
@[simp] theorem State.modMotor_power (s : State) {m f} : (s.modMotor m f).power = s.power := rfl
@[simp] theorem State.modMotor_boot (s : State) {m f} : (s.modMotor m f).boot = s.boot := rfl
@[simp] theorem State.modMotor_pending (s : State) {m f} : (s.modMotor m f).pending = s.pending := rfl
@[simp] theorem State.modMotor_rd (s : State) {m f} (x : Nat) : (s.modMotor m f).rd x = s.rd x := rfl
@[simp] theorem State.modMotor_sig (s : State) {m f} (x : Nat) : (s.modMotor m f).sig x = s.sig x := rfl
@[simp] theorem State.modMotor_desc (s : State) {m f} (x : Nat) : (s.modMotor m f).desc x = s.desc x := rfl
@[simp] theorem State.modMotor_sramGet (s : State) {m f} (x : Nat) : (s.modMotor m f).sramGet x = s.sramGet x := rfl
@[simp] theorem State.modMotor_nvmGet (s : State) {m f} (x : Nat) : (s.modMotor m f).nvmGet x = s.nvmGet x := rfl
@[simp] theorem State.modMotor_codeGet (s : State) {m f} (x : Nat) : (s.modMotor m f).codeGet x = s.codeGet x := rfl
@[simp] theorem State.modMotor_pgAt (s : State) {m f} (x : Nat) : (s.modMotor m f).pgAt x = s.pgAt x := rfl
@[simp] theorem State.modMotor_auAt (s : State) {m f} (x : Nat) : (s.modMotor m f).auAt x = s.auAt x := rfl
@[simp] theorem State.modMotor_ceAt (s : State) {m f} (x : Nat) : (s.modMotor m f).ceAt x = s.ceAt x := rfl
@[simp] theorem State.modMotor_coreAt (s : State) {m f} (x : Nat) : (s.modMotor m f).coreAt x = s.coreAt x := rfl
@[simp] theorem State.modMotor_own (s : State) {m f} : (s.modMotor m f).motors = s.motors.modify m f := rfl

/-! `modShift` -/
@[simp] theorem State.modShift_dtb (s : State) {f} : (s.modShift f).dtb = s.dtb := rfl
@[simp] theorem State.modShift_variant (s : State) {f} : (s.modShift f).variant = s.variant := rfl
@[simp] theorem State.modShift_regs (s : State) {f} : (s.modShift f).regs = s.regs := rfl
@[simp] theorem State.modShift_sigs (s : State) {f} : (s.modShift f).sigs = s.sigs := rfl
@[simp] theorem State.modShift_descs (s : State) {f} : (s.modShift f).descs = s.descs := rfl
@[simp] theorem State.modShift_sram (s : State) {f} : (s.modShift f).sram = s.sram := rfl
@[simp] theorem State.modShift_nvm (s : State) {f} : (s.modShift f).nvm = s.nvm := rfl
@[simp] theorem State.modShift_codeNvm (s : State) {f} : (s.modShift f).codeNvm = s.codeNvm := rfl
@[simp] theorem State.modShift_draws (s : State) {f} : (s.modShift f).draws = s.draws := rfl
@[simp] theorem State.modShift_cores (s : State) {f} : (s.modShift f).cores = s.cores := rfl
@[simp] theorem State.modShift_paddock (s : State) {f} : (s.modShift f).paddock = s.paddock := rfl
@[simp] theorem State.modShift_au (s : State) {f} : (s.modShift f).au = s.au := rfl
@[simp] theorem State.modShift_joins (s : State) {f} : (s.modShift f).joins = s.joins := rfl
@[simp] theorem State.modShift_tt (s : State) {f} : (s.modShift f).tt = s.tt := rfl
@[simp] theorem State.modShift_ce (s : State) {f} : (s.modShift f).ce = s.ce := rfl
@[simp] theorem State.modShift_pg (s : State) {f} : (s.modShift f).pg = s.pg := rfl
@[simp] theorem State.modShift_tripIn (s : State) {f} : (s.modShift f).tripIn = s.tripIn := rfl
@[simp] theorem State.modShift_yarrow (s : State) {f} : (s.modShift f).yarrow = s.yarrow := rfl
@[simp] theorem State.modShift_mode (s : State) {f} : (s.modShift f).mode = s.mode := rfl
@[simp] theorem State.modShift_irqPend (s : State) {f} : (s.modShift f).irqPend = s.irqPend := rfl
@[simp] theorem State.modShift_gate (s : State) {f} : (s.modShift f).gate = s.gate := rfl
@[simp] theorem State.modShift_mg (s : State) {f} : (s.modShift f).mg = s.mg := rfl
@[simp] theorem State.modShift_bus (s : State) {f} : (s.modShift f).bus = s.bus := rfl
@[simp] theorem State.modShift_bridle (s : State) {f} : (s.modShift f).bridle = s.bridle := rfl
@[simp] theorem State.modShift_sec (s : State) {f} : (s.modShift f).sec = s.sec := rfl
@[simp] theorem State.modShift_rtcBase (s : State) {f} : (s.modShift f).rtcBase = s.rtcBase := rfl
@[simp] theorem State.modShift_cycle (s : State) {f} : (s.modShift f).cycle = s.cycle := rfl
@[simp] theorem State.modShift_drives (s : State) {f} : (s.modShift f).drives = s.drives := rfl
@[simp] theorem State.modShift_inlet (s : State) {f} : (s.modShift f).inlet = s.inlet := rfl
@[simp] theorem State.modShift_charge (s : State) {f} : (s.modShift f).charge = s.charge := rfl
@[simp] theorem State.modShift_supply (s : State) {f} : (s.modShift f).supply = s.supply := rfl
@[simp] theorem State.modShift_solar (s : State) {f} : (s.modShift f).solar = s.solar := rfl
@[simp] theorem State.modShift_chs (s : State) {f} : (s.modShift f).chs = s.chs := rfl
@[simp] theorem State.modShift_lv (s : State) {f} : (s.modShift f).lv = s.lv := rfl
@[simp] theorem State.modShift_keeper (s : State) {f} : (s.modShift f).keeper = s.keeper := rfl
@[simp] theorem State.modShift_motors (s : State) {f} : (s.modShift f).motors = s.motors := rfl
@[simp] theorem State.modShift_park (s : State) {f} : (s.modShift f).park = s.park := rfl
@[simp] theorem State.modShift_clutch (s : State) {f} : (s.modShift f).clutch = s.clutch := rfl
@[simp] theorem State.modShift_pump (s : State) {f} : (s.modShift f).pump = s.pump := rfl
@[simp] theorem State.modShift_harn (s : State) {f} : (s.modShift f).harn = s.harn := rfl
@[simp] theorem State.modShift_thermal (s : State) {f} : (s.modShift f).thermal = s.thermal := rfl
@[simp] theorem State.modShift_clk (s : State) {f} : (s.modShift f).clk = s.clk := rfl
@[simp] theorem State.modShift_power (s : State) {f} : (s.modShift f).power = s.power := rfl
@[simp] theorem State.modShift_boot (s : State) {f} : (s.modShift f).boot = s.boot := rfl
@[simp] theorem State.modShift_pending (s : State) {f} : (s.modShift f).pending = s.pending := rfl
@[simp] theorem State.modShift_rd (s : State) {f} (x : Nat) : (s.modShift f).rd x = s.rd x := rfl
@[simp] theorem State.modShift_sig (s : State) {f} (x : Nat) : (s.modShift f).sig x = s.sig x := rfl
@[simp] theorem State.modShift_desc (s : State) {f} (x : Nat) : (s.modShift f).desc x = s.desc x := rfl
@[simp] theorem State.modShift_sramGet (s : State) {f} (x : Nat) : (s.modShift f).sramGet x = s.sramGet x := rfl
@[simp] theorem State.modShift_nvmGet (s : State) {f} (x : Nat) : (s.modShift f).nvmGet x = s.nvmGet x := rfl
@[simp] theorem State.modShift_codeGet (s : State) {f} (x : Nat) : (s.modShift f).codeGet x = s.codeGet x := rfl
@[simp] theorem State.modShift_pgAt (s : State) {f} (x : Nat) : (s.modShift f).pgAt x = s.pgAt x := rfl
@[simp] theorem State.modShift_auAt (s : State) {f} (x : Nat) : (s.modShift f).auAt x = s.auAt x := rfl
@[simp] theorem State.modShift_ceAt (s : State) {f} (x : Nat) : (s.modShift f).ceAt x = s.ceAt x := rfl
@[simp] theorem State.modShift_coreAt (s : State) {f} (x : Nat) : (s.modShift f).coreAt x = s.coreAt x := rfl
@[simp] theorem State.modShift_own (s : State) {f} : (s.modShift f).shift = f s.shift := rfl

/-! `modPark` -/
@[simp] theorem State.modPark_dtb (s : State) {f} : (s.modPark f).dtb = s.dtb := rfl
@[simp] theorem State.modPark_variant (s : State) {f} : (s.modPark f).variant = s.variant := rfl
@[simp] theorem State.modPark_regs (s : State) {f} : (s.modPark f).regs = s.regs := rfl
@[simp] theorem State.modPark_sigs (s : State) {f} : (s.modPark f).sigs = s.sigs := rfl
@[simp] theorem State.modPark_descs (s : State) {f} : (s.modPark f).descs = s.descs := rfl
@[simp] theorem State.modPark_sram (s : State) {f} : (s.modPark f).sram = s.sram := rfl
@[simp] theorem State.modPark_nvm (s : State) {f} : (s.modPark f).nvm = s.nvm := rfl
@[simp] theorem State.modPark_codeNvm (s : State) {f} : (s.modPark f).codeNvm = s.codeNvm := rfl
@[simp] theorem State.modPark_draws (s : State) {f} : (s.modPark f).draws = s.draws := rfl
@[simp] theorem State.modPark_cores (s : State) {f} : (s.modPark f).cores = s.cores := rfl
@[simp] theorem State.modPark_paddock (s : State) {f} : (s.modPark f).paddock = s.paddock := rfl
@[simp] theorem State.modPark_au (s : State) {f} : (s.modPark f).au = s.au := rfl
@[simp] theorem State.modPark_joins (s : State) {f} : (s.modPark f).joins = s.joins := rfl
@[simp] theorem State.modPark_tt (s : State) {f} : (s.modPark f).tt = s.tt := rfl
@[simp] theorem State.modPark_ce (s : State) {f} : (s.modPark f).ce = s.ce := rfl
@[simp] theorem State.modPark_pg (s : State) {f} : (s.modPark f).pg = s.pg := rfl
@[simp] theorem State.modPark_tripIn (s : State) {f} : (s.modPark f).tripIn = s.tripIn := rfl
@[simp] theorem State.modPark_yarrow (s : State) {f} : (s.modPark f).yarrow = s.yarrow := rfl
@[simp] theorem State.modPark_mode (s : State) {f} : (s.modPark f).mode = s.mode := rfl
@[simp] theorem State.modPark_irqPend (s : State) {f} : (s.modPark f).irqPend = s.irqPend := rfl
@[simp] theorem State.modPark_gate (s : State) {f} : (s.modPark f).gate = s.gate := rfl
@[simp] theorem State.modPark_mg (s : State) {f} : (s.modPark f).mg = s.mg := rfl
@[simp] theorem State.modPark_bus (s : State) {f} : (s.modPark f).bus = s.bus := rfl
@[simp] theorem State.modPark_bridle (s : State) {f} : (s.modPark f).bridle = s.bridle := rfl
@[simp] theorem State.modPark_sec (s : State) {f} : (s.modPark f).sec = s.sec := rfl
@[simp] theorem State.modPark_rtcBase (s : State) {f} : (s.modPark f).rtcBase = s.rtcBase := rfl
@[simp] theorem State.modPark_cycle (s : State) {f} : (s.modPark f).cycle = s.cycle := rfl
@[simp] theorem State.modPark_drives (s : State) {f} : (s.modPark f).drives = s.drives := rfl
@[simp] theorem State.modPark_inlet (s : State) {f} : (s.modPark f).inlet = s.inlet := rfl
@[simp] theorem State.modPark_charge (s : State) {f} : (s.modPark f).charge = s.charge := rfl
@[simp] theorem State.modPark_supply (s : State) {f} : (s.modPark f).supply = s.supply := rfl
@[simp] theorem State.modPark_solar (s : State) {f} : (s.modPark f).solar = s.solar := rfl
@[simp] theorem State.modPark_chs (s : State) {f} : (s.modPark f).chs = s.chs := rfl
@[simp] theorem State.modPark_lv (s : State) {f} : (s.modPark f).lv = s.lv := rfl
@[simp] theorem State.modPark_keeper (s : State) {f} : (s.modPark f).keeper = s.keeper := rfl
@[simp] theorem State.modPark_motors (s : State) {f} : (s.modPark f).motors = s.motors := rfl
@[simp] theorem State.modPark_shift (s : State) {f} : (s.modPark f).shift = s.shift := rfl
@[simp] theorem State.modPark_clutch (s : State) {f} : (s.modPark f).clutch = s.clutch := rfl
@[simp] theorem State.modPark_pump (s : State) {f} : (s.modPark f).pump = s.pump := rfl
@[simp] theorem State.modPark_harn (s : State) {f} : (s.modPark f).harn = s.harn := rfl
@[simp] theorem State.modPark_thermal (s : State) {f} : (s.modPark f).thermal = s.thermal := rfl
@[simp] theorem State.modPark_clk (s : State) {f} : (s.modPark f).clk = s.clk := rfl
@[simp] theorem State.modPark_power (s : State) {f} : (s.modPark f).power = s.power := rfl
@[simp] theorem State.modPark_boot (s : State) {f} : (s.modPark f).boot = s.boot := rfl
@[simp] theorem State.modPark_pending (s : State) {f} : (s.modPark f).pending = s.pending := rfl
@[simp] theorem State.modPark_rd (s : State) {f} (x : Nat) : (s.modPark f).rd x = s.rd x := rfl
@[simp] theorem State.modPark_sig (s : State) {f} (x : Nat) : (s.modPark f).sig x = s.sig x := rfl
@[simp] theorem State.modPark_desc (s : State) {f} (x : Nat) : (s.modPark f).desc x = s.desc x := rfl
@[simp] theorem State.modPark_sramGet (s : State) {f} (x : Nat) : (s.modPark f).sramGet x = s.sramGet x := rfl
@[simp] theorem State.modPark_nvmGet (s : State) {f} (x : Nat) : (s.modPark f).nvmGet x = s.nvmGet x := rfl
@[simp] theorem State.modPark_codeGet (s : State) {f} (x : Nat) : (s.modPark f).codeGet x = s.codeGet x := rfl
@[simp] theorem State.modPark_pgAt (s : State) {f} (x : Nat) : (s.modPark f).pgAt x = s.pgAt x := rfl
@[simp] theorem State.modPark_auAt (s : State) {f} (x : Nat) : (s.modPark f).auAt x = s.auAt x := rfl
@[simp] theorem State.modPark_ceAt (s : State) {f} (x : Nat) : (s.modPark f).ceAt x = s.ceAt x := rfl
@[simp] theorem State.modPark_coreAt (s : State) {f} (x : Nat) : (s.modPark f).coreAt x = s.coreAt x := rfl
@[simp] theorem State.modPark_own (s : State) {f} : (s.modPark f).park = f s.park := rfl

/-! `modClutch` -/
@[simp] theorem State.modClutch_dtb (s : State) {f} : (s.modClutch f).dtb = s.dtb := rfl
@[simp] theorem State.modClutch_variant (s : State) {f} : (s.modClutch f).variant = s.variant := rfl
@[simp] theorem State.modClutch_regs (s : State) {f} : (s.modClutch f).regs = s.regs := rfl
@[simp] theorem State.modClutch_sigs (s : State) {f} : (s.modClutch f).sigs = s.sigs := rfl
@[simp] theorem State.modClutch_descs (s : State) {f} : (s.modClutch f).descs = s.descs := rfl
@[simp] theorem State.modClutch_sram (s : State) {f} : (s.modClutch f).sram = s.sram := rfl
@[simp] theorem State.modClutch_nvm (s : State) {f} : (s.modClutch f).nvm = s.nvm := rfl
@[simp] theorem State.modClutch_codeNvm (s : State) {f} : (s.modClutch f).codeNvm = s.codeNvm := rfl
@[simp] theorem State.modClutch_draws (s : State) {f} : (s.modClutch f).draws = s.draws := rfl
@[simp] theorem State.modClutch_cores (s : State) {f} : (s.modClutch f).cores = s.cores := rfl
@[simp] theorem State.modClutch_paddock (s : State) {f} : (s.modClutch f).paddock = s.paddock := rfl
@[simp] theorem State.modClutch_au (s : State) {f} : (s.modClutch f).au = s.au := rfl
@[simp] theorem State.modClutch_joins (s : State) {f} : (s.modClutch f).joins = s.joins := rfl
@[simp] theorem State.modClutch_tt (s : State) {f} : (s.modClutch f).tt = s.tt := rfl
@[simp] theorem State.modClutch_ce (s : State) {f} : (s.modClutch f).ce = s.ce := rfl
@[simp] theorem State.modClutch_pg (s : State) {f} : (s.modClutch f).pg = s.pg := rfl
@[simp] theorem State.modClutch_tripIn (s : State) {f} : (s.modClutch f).tripIn = s.tripIn := rfl
@[simp] theorem State.modClutch_yarrow (s : State) {f} : (s.modClutch f).yarrow = s.yarrow := rfl
@[simp] theorem State.modClutch_mode (s : State) {f} : (s.modClutch f).mode = s.mode := rfl
@[simp] theorem State.modClutch_irqPend (s : State) {f} : (s.modClutch f).irqPend = s.irqPend := rfl
@[simp] theorem State.modClutch_gate (s : State) {f} : (s.modClutch f).gate = s.gate := rfl
@[simp] theorem State.modClutch_mg (s : State) {f} : (s.modClutch f).mg = s.mg := rfl
@[simp] theorem State.modClutch_bus (s : State) {f} : (s.modClutch f).bus = s.bus := rfl
@[simp] theorem State.modClutch_bridle (s : State) {f} : (s.modClutch f).bridle = s.bridle := rfl
@[simp] theorem State.modClutch_sec (s : State) {f} : (s.modClutch f).sec = s.sec := rfl
@[simp] theorem State.modClutch_rtcBase (s : State) {f} : (s.modClutch f).rtcBase = s.rtcBase := rfl
@[simp] theorem State.modClutch_cycle (s : State) {f} : (s.modClutch f).cycle = s.cycle := rfl
@[simp] theorem State.modClutch_drives (s : State) {f} : (s.modClutch f).drives = s.drives := rfl
@[simp] theorem State.modClutch_inlet (s : State) {f} : (s.modClutch f).inlet = s.inlet := rfl
@[simp] theorem State.modClutch_charge (s : State) {f} : (s.modClutch f).charge = s.charge := rfl
@[simp] theorem State.modClutch_supply (s : State) {f} : (s.modClutch f).supply = s.supply := rfl
@[simp] theorem State.modClutch_solar (s : State) {f} : (s.modClutch f).solar = s.solar := rfl
@[simp] theorem State.modClutch_chs (s : State) {f} : (s.modClutch f).chs = s.chs := rfl
@[simp] theorem State.modClutch_lv (s : State) {f} : (s.modClutch f).lv = s.lv := rfl
@[simp] theorem State.modClutch_keeper (s : State) {f} : (s.modClutch f).keeper = s.keeper := rfl
@[simp] theorem State.modClutch_motors (s : State) {f} : (s.modClutch f).motors = s.motors := rfl
@[simp] theorem State.modClutch_shift (s : State) {f} : (s.modClutch f).shift = s.shift := rfl
@[simp] theorem State.modClutch_park (s : State) {f} : (s.modClutch f).park = s.park := rfl
@[simp] theorem State.modClutch_pump (s : State) {f} : (s.modClutch f).pump = s.pump := rfl
@[simp] theorem State.modClutch_harn (s : State) {f} : (s.modClutch f).harn = s.harn := rfl
@[simp] theorem State.modClutch_thermal (s : State) {f} : (s.modClutch f).thermal = s.thermal := rfl
@[simp] theorem State.modClutch_clk (s : State) {f} : (s.modClutch f).clk = s.clk := rfl
@[simp] theorem State.modClutch_power (s : State) {f} : (s.modClutch f).power = s.power := rfl
@[simp] theorem State.modClutch_boot (s : State) {f} : (s.modClutch f).boot = s.boot := rfl
@[simp] theorem State.modClutch_pending (s : State) {f} : (s.modClutch f).pending = s.pending := rfl
@[simp] theorem State.modClutch_rd (s : State) {f} (x : Nat) : (s.modClutch f).rd x = s.rd x := rfl
@[simp] theorem State.modClutch_sig (s : State) {f} (x : Nat) : (s.modClutch f).sig x = s.sig x := rfl
@[simp] theorem State.modClutch_desc (s : State) {f} (x : Nat) : (s.modClutch f).desc x = s.desc x := rfl
@[simp] theorem State.modClutch_sramGet (s : State) {f} (x : Nat) : (s.modClutch f).sramGet x = s.sramGet x := rfl
@[simp] theorem State.modClutch_nvmGet (s : State) {f} (x : Nat) : (s.modClutch f).nvmGet x = s.nvmGet x := rfl
@[simp] theorem State.modClutch_codeGet (s : State) {f} (x : Nat) : (s.modClutch f).codeGet x = s.codeGet x := rfl
@[simp] theorem State.modClutch_pgAt (s : State) {f} (x : Nat) : (s.modClutch f).pgAt x = s.pgAt x := rfl
@[simp] theorem State.modClutch_auAt (s : State) {f} (x : Nat) : (s.modClutch f).auAt x = s.auAt x := rfl
@[simp] theorem State.modClutch_ceAt (s : State) {f} (x : Nat) : (s.modClutch f).ceAt x = s.ceAt x := rfl
@[simp] theorem State.modClutch_coreAt (s : State) {f} (x : Nat) : (s.modClutch f).coreAt x = s.coreAt x := rfl
@[simp] theorem State.modClutch_own (s : State) {f} : (s.modClutch f).clutch = f s.clutch := rfl

/-! `modPump` -/
@[simp] theorem State.modPump_dtb (s : State) {f} : (s.modPump f).dtb = s.dtb := rfl
@[simp] theorem State.modPump_variant (s : State) {f} : (s.modPump f).variant = s.variant := rfl
@[simp] theorem State.modPump_regs (s : State) {f} : (s.modPump f).regs = s.regs := rfl
@[simp] theorem State.modPump_sigs (s : State) {f} : (s.modPump f).sigs = s.sigs := rfl
@[simp] theorem State.modPump_descs (s : State) {f} : (s.modPump f).descs = s.descs := rfl
@[simp] theorem State.modPump_sram (s : State) {f} : (s.modPump f).sram = s.sram := rfl
@[simp] theorem State.modPump_nvm (s : State) {f} : (s.modPump f).nvm = s.nvm := rfl
@[simp] theorem State.modPump_codeNvm (s : State) {f} : (s.modPump f).codeNvm = s.codeNvm := rfl
@[simp] theorem State.modPump_draws (s : State) {f} : (s.modPump f).draws = s.draws := rfl
@[simp] theorem State.modPump_cores (s : State) {f} : (s.modPump f).cores = s.cores := rfl
@[simp] theorem State.modPump_paddock (s : State) {f} : (s.modPump f).paddock = s.paddock := rfl
@[simp] theorem State.modPump_au (s : State) {f} : (s.modPump f).au = s.au := rfl
@[simp] theorem State.modPump_joins (s : State) {f} : (s.modPump f).joins = s.joins := rfl
@[simp] theorem State.modPump_tt (s : State) {f} : (s.modPump f).tt = s.tt := rfl
@[simp] theorem State.modPump_ce (s : State) {f} : (s.modPump f).ce = s.ce := rfl
@[simp] theorem State.modPump_pg (s : State) {f} : (s.modPump f).pg = s.pg := rfl
@[simp] theorem State.modPump_tripIn (s : State) {f} : (s.modPump f).tripIn = s.tripIn := rfl
@[simp] theorem State.modPump_yarrow (s : State) {f} : (s.modPump f).yarrow = s.yarrow := rfl
@[simp] theorem State.modPump_mode (s : State) {f} : (s.modPump f).mode = s.mode := rfl
@[simp] theorem State.modPump_irqPend (s : State) {f} : (s.modPump f).irqPend = s.irqPend := rfl
@[simp] theorem State.modPump_gate (s : State) {f} : (s.modPump f).gate = s.gate := rfl
@[simp] theorem State.modPump_mg (s : State) {f} : (s.modPump f).mg = s.mg := rfl
@[simp] theorem State.modPump_bus (s : State) {f} : (s.modPump f).bus = s.bus := rfl
@[simp] theorem State.modPump_bridle (s : State) {f} : (s.modPump f).bridle = s.bridle := rfl
@[simp] theorem State.modPump_sec (s : State) {f} : (s.modPump f).sec = s.sec := rfl
@[simp] theorem State.modPump_rtcBase (s : State) {f} : (s.modPump f).rtcBase = s.rtcBase := rfl
@[simp] theorem State.modPump_cycle (s : State) {f} : (s.modPump f).cycle = s.cycle := rfl
@[simp] theorem State.modPump_drives (s : State) {f} : (s.modPump f).drives = s.drives := rfl
@[simp] theorem State.modPump_inlet (s : State) {f} : (s.modPump f).inlet = s.inlet := rfl
@[simp] theorem State.modPump_charge (s : State) {f} : (s.modPump f).charge = s.charge := rfl
@[simp] theorem State.modPump_supply (s : State) {f} : (s.modPump f).supply = s.supply := rfl
@[simp] theorem State.modPump_solar (s : State) {f} : (s.modPump f).solar = s.solar := rfl
@[simp] theorem State.modPump_chs (s : State) {f} : (s.modPump f).chs = s.chs := rfl
@[simp] theorem State.modPump_lv (s : State) {f} : (s.modPump f).lv = s.lv := rfl
@[simp] theorem State.modPump_keeper (s : State) {f} : (s.modPump f).keeper = s.keeper := rfl
@[simp] theorem State.modPump_motors (s : State) {f} : (s.modPump f).motors = s.motors := rfl
@[simp] theorem State.modPump_shift (s : State) {f} : (s.modPump f).shift = s.shift := rfl
@[simp] theorem State.modPump_park (s : State) {f} : (s.modPump f).park = s.park := rfl
@[simp] theorem State.modPump_clutch (s : State) {f} : (s.modPump f).clutch = s.clutch := rfl
@[simp] theorem State.modPump_harn (s : State) {f} : (s.modPump f).harn = s.harn := rfl
@[simp] theorem State.modPump_thermal (s : State) {f} : (s.modPump f).thermal = s.thermal := rfl
@[simp] theorem State.modPump_clk (s : State) {f} : (s.modPump f).clk = s.clk := rfl
@[simp] theorem State.modPump_power (s : State) {f} : (s.modPump f).power = s.power := rfl
@[simp] theorem State.modPump_boot (s : State) {f} : (s.modPump f).boot = s.boot := rfl
@[simp] theorem State.modPump_pending (s : State) {f} : (s.modPump f).pending = s.pending := rfl
@[simp] theorem State.modPump_rd (s : State) {f} (x : Nat) : (s.modPump f).rd x = s.rd x := rfl
@[simp] theorem State.modPump_sig (s : State) {f} (x : Nat) : (s.modPump f).sig x = s.sig x := rfl
@[simp] theorem State.modPump_desc (s : State) {f} (x : Nat) : (s.modPump f).desc x = s.desc x := rfl
@[simp] theorem State.modPump_sramGet (s : State) {f} (x : Nat) : (s.modPump f).sramGet x = s.sramGet x := rfl
@[simp] theorem State.modPump_nvmGet (s : State) {f} (x : Nat) : (s.modPump f).nvmGet x = s.nvmGet x := rfl
@[simp] theorem State.modPump_codeGet (s : State) {f} (x : Nat) : (s.modPump f).codeGet x = s.codeGet x := rfl
@[simp] theorem State.modPump_pgAt (s : State) {f} (x : Nat) : (s.modPump f).pgAt x = s.pgAt x := rfl
@[simp] theorem State.modPump_auAt (s : State) {f} (x : Nat) : (s.modPump f).auAt x = s.auAt x := rfl
@[simp] theorem State.modPump_ceAt (s : State) {f} (x : Nat) : (s.modPump f).ceAt x = s.ceAt x := rfl
@[simp] theorem State.modPump_coreAt (s : State) {f} (x : Nat) : (s.modPump f).coreAt x = s.coreAt x := rfl
@[simp] theorem State.modPump_own (s : State) {f} : (s.modPump f).pump = f s.pump := rfl

/-! `modHarn` -/
@[simp] theorem State.modHarn_dtb (s : State) {t f} : (s.modHarn t f).dtb = s.dtb := rfl
@[simp] theorem State.modHarn_variant (s : State) {t f} : (s.modHarn t f).variant = s.variant := rfl
@[simp] theorem State.modHarn_regs (s : State) {t f} : (s.modHarn t f).regs = s.regs := rfl
@[simp] theorem State.modHarn_sigs (s : State) {t f} : (s.modHarn t f).sigs = s.sigs := rfl
@[simp] theorem State.modHarn_descs (s : State) {t f} : (s.modHarn t f).descs = s.descs := rfl
@[simp] theorem State.modHarn_sram (s : State) {t f} : (s.modHarn t f).sram = s.sram := rfl
@[simp] theorem State.modHarn_nvm (s : State) {t f} : (s.modHarn t f).nvm = s.nvm := rfl
@[simp] theorem State.modHarn_codeNvm (s : State) {t f} : (s.modHarn t f).codeNvm = s.codeNvm := rfl
@[simp] theorem State.modHarn_draws (s : State) {t f} : (s.modHarn t f).draws = s.draws := rfl
@[simp] theorem State.modHarn_cores (s : State) {t f} : (s.modHarn t f).cores = s.cores := rfl
@[simp] theorem State.modHarn_paddock (s : State) {t f} : (s.modHarn t f).paddock = s.paddock := rfl
@[simp] theorem State.modHarn_au (s : State) {t f} : (s.modHarn t f).au = s.au := rfl
@[simp] theorem State.modHarn_joins (s : State) {t f} : (s.modHarn t f).joins = s.joins := rfl
@[simp] theorem State.modHarn_tt (s : State) {t f} : (s.modHarn t f).tt = s.tt := rfl
@[simp] theorem State.modHarn_ce (s : State) {t f} : (s.modHarn t f).ce = s.ce := rfl
@[simp] theorem State.modHarn_pg (s : State) {t f} : (s.modHarn t f).pg = s.pg := rfl
@[simp] theorem State.modHarn_tripIn (s : State) {t f} : (s.modHarn t f).tripIn = s.tripIn := rfl
@[simp] theorem State.modHarn_yarrow (s : State) {t f} : (s.modHarn t f).yarrow = s.yarrow := rfl
@[simp] theorem State.modHarn_mode (s : State) {t f} : (s.modHarn t f).mode = s.mode := rfl
@[simp] theorem State.modHarn_irqPend (s : State) {t f} : (s.modHarn t f).irqPend = s.irqPend := rfl
@[simp] theorem State.modHarn_gate (s : State) {t f} : (s.modHarn t f).gate = s.gate := rfl
@[simp] theorem State.modHarn_mg (s : State) {t f} : (s.modHarn t f).mg = s.mg := rfl
@[simp] theorem State.modHarn_bus (s : State) {t f} : (s.modHarn t f).bus = s.bus := rfl
@[simp] theorem State.modHarn_bridle (s : State) {t f} : (s.modHarn t f).bridle = s.bridle := rfl
@[simp] theorem State.modHarn_sec (s : State) {t f} : (s.modHarn t f).sec = s.sec := rfl
@[simp] theorem State.modHarn_rtcBase (s : State) {t f} : (s.modHarn t f).rtcBase = s.rtcBase := rfl
@[simp] theorem State.modHarn_cycle (s : State) {t f} : (s.modHarn t f).cycle = s.cycle := rfl
@[simp] theorem State.modHarn_drives (s : State) {t f} : (s.modHarn t f).drives = s.drives := rfl
@[simp] theorem State.modHarn_inlet (s : State) {t f} : (s.modHarn t f).inlet = s.inlet := rfl
@[simp] theorem State.modHarn_charge (s : State) {t f} : (s.modHarn t f).charge = s.charge := rfl
@[simp] theorem State.modHarn_supply (s : State) {t f} : (s.modHarn t f).supply = s.supply := rfl
@[simp] theorem State.modHarn_solar (s : State) {t f} : (s.modHarn t f).solar = s.solar := rfl
@[simp] theorem State.modHarn_chs (s : State) {t f} : (s.modHarn t f).chs = s.chs := rfl
@[simp] theorem State.modHarn_lv (s : State) {t f} : (s.modHarn t f).lv = s.lv := rfl
@[simp] theorem State.modHarn_keeper (s : State) {t f} : (s.modHarn t f).keeper = s.keeper := rfl
@[simp] theorem State.modHarn_motors (s : State) {t f} : (s.modHarn t f).motors = s.motors := rfl
@[simp] theorem State.modHarn_shift (s : State) {t f} : (s.modHarn t f).shift = s.shift := rfl
@[simp] theorem State.modHarn_park (s : State) {t f} : (s.modHarn t f).park = s.park := rfl
@[simp] theorem State.modHarn_clutch (s : State) {t f} : (s.modHarn t f).clutch = s.clutch := rfl
@[simp] theorem State.modHarn_pump (s : State) {t f} : (s.modHarn t f).pump = s.pump := rfl
@[simp] theorem State.modHarn_thermal (s : State) {t f} : (s.modHarn t f).thermal = s.thermal := rfl
@[simp] theorem State.modHarn_clk (s : State) {t f} : (s.modHarn t f).clk = s.clk := rfl
@[simp] theorem State.modHarn_power (s : State) {t f} : (s.modHarn t f).power = s.power := rfl
@[simp] theorem State.modHarn_boot (s : State) {t f} : (s.modHarn t f).boot = s.boot := rfl
@[simp] theorem State.modHarn_pending (s : State) {t f} : (s.modHarn t f).pending = s.pending := rfl
@[simp] theorem State.modHarn_rd (s : State) {t f} (x : Nat) : (s.modHarn t f).rd x = s.rd x := rfl
@[simp] theorem State.modHarn_sig (s : State) {t f} (x : Nat) : (s.modHarn t f).sig x = s.sig x := rfl
@[simp] theorem State.modHarn_desc (s : State) {t f} (x : Nat) : (s.modHarn t f).desc x = s.desc x := rfl
@[simp] theorem State.modHarn_sramGet (s : State) {t f} (x : Nat) : (s.modHarn t f).sramGet x = s.sramGet x := rfl
@[simp] theorem State.modHarn_nvmGet (s : State) {t f} (x : Nat) : (s.modHarn t f).nvmGet x = s.nvmGet x := rfl
@[simp] theorem State.modHarn_codeGet (s : State) {t f} (x : Nat) : (s.modHarn t f).codeGet x = s.codeGet x := rfl
@[simp] theorem State.modHarn_pgAt (s : State) {t f} (x : Nat) : (s.modHarn t f).pgAt x = s.pgAt x := rfl
@[simp] theorem State.modHarn_auAt (s : State) {t f} (x : Nat) : (s.modHarn t f).auAt x = s.auAt x := rfl
@[simp] theorem State.modHarn_ceAt (s : State) {t f} (x : Nat) : (s.modHarn t f).ceAt x = s.ceAt x := rfl
@[simp] theorem State.modHarn_coreAt (s : State) {t f} (x : Nat) : (s.modHarn t f).coreAt x = s.coreAt x := rfl
@[simp] theorem State.modHarn_own (s : State) {t f} : (s.modHarn t f).harn = s.harn.modify t f := rfl

/-! `modThermal` -/
@[simp] theorem State.modThermal_dtb (s : State) {f} : (s.modThermal f).dtb = s.dtb := rfl
@[simp] theorem State.modThermal_variant (s : State) {f} : (s.modThermal f).variant = s.variant := rfl
@[simp] theorem State.modThermal_regs (s : State) {f} : (s.modThermal f).regs = s.regs := rfl
@[simp] theorem State.modThermal_sigs (s : State) {f} : (s.modThermal f).sigs = s.sigs := rfl
@[simp] theorem State.modThermal_descs (s : State) {f} : (s.modThermal f).descs = s.descs := rfl
@[simp] theorem State.modThermal_sram (s : State) {f} : (s.modThermal f).sram = s.sram := rfl
@[simp] theorem State.modThermal_nvm (s : State) {f} : (s.modThermal f).nvm = s.nvm := rfl
@[simp] theorem State.modThermal_codeNvm (s : State) {f} : (s.modThermal f).codeNvm = s.codeNvm := rfl
@[simp] theorem State.modThermal_draws (s : State) {f} : (s.modThermal f).draws = s.draws := rfl
@[simp] theorem State.modThermal_cores (s : State) {f} : (s.modThermal f).cores = s.cores := rfl
@[simp] theorem State.modThermal_paddock (s : State) {f} : (s.modThermal f).paddock = s.paddock := rfl
@[simp] theorem State.modThermal_au (s : State) {f} : (s.modThermal f).au = s.au := rfl
@[simp] theorem State.modThermal_joins (s : State) {f} : (s.modThermal f).joins = s.joins := rfl
@[simp] theorem State.modThermal_tt (s : State) {f} : (s.modThermal f).tt = s.tt := rfl
@[simp] theorem State.modThermal_ce (s : State) {f} : (s.modThermal f).ce = s.ce := rfl
@[simp] theorem State.modThermal_pg (s : State) {f} : (s.modThermal f).pg = s.pg := rfl
@[simp] theorem State.modThermal_tripIn (s : State) {f} : (s.modThermal f).tripIn = s.tripIn := rfl
@[simp] theorem State.modThermal_yarrow (s : State) {f} : (s.modThermal f).yarrow = s.yarrow := rfl
@[simp] theorem State.modThermal_mode (s : State) {f} : (s.modThermal f).mode = s.mode := rfl
@[simp] theorem State.modThermal_irqPend (s : State) {f} : (s.modThermal f).irqPend = s.irqPend := rfl
@[simp] theorem State.modThermal_gate (s : State) {f} : (s.modThermal f).gate = s.gate := rfl
@[simp] theorem State.modThermal_mg (s : State) {f} : (s.modThermal f).mg = s.mg := rfl
@[simp] theorem State.modThermal_bus (s : State) {f} : (s.modThermal f).bus = s.bus := rfl
@[simp] theorem State.modThermal_bridle (s : State) {f} : (s.modThermal f).bridle = s.bridle := rfl
@[simp] theorem State.modThermal_sec (s : State) {f} : (s.modThermal f).sec = s.sec := rfl
@[simp] theorem State.modThermal_rtcBase (s : State) {f} : (s.modThermal f).rtcBase = s.rtcBase := rfl
@[simp] theorem State.modThermal_cycle (s : State) {f} : (s.modThermal f).cycle = s.cycle := rfl
@[simp] theorem State.modThermal_drives (s : State) {f} : (s.modThermal f).drives = s.drives := rfl
@[simp] theorem State.modThermal_inlet (s : State) {f} : (s.modThermal f).inlet = s.inlet := rfl
@[simp] theorem State.modThermal_charge (s : State) {f} : (s.modThermal f).charge = s.charge := rfl
@[simp] theorem State.modThermal_supply (s : State) {f} : (s.modThermal f).supply = s.supply := rfl
@[simp] theorem State.modThermal_solar (s : State) {f} : (s.modThermal f).solar = s.solar := rfl
@[simp] theorem State.modThermal_chs (s : State) {f} : (s.modThermal f).chs = s.chs := rfl
@[simp] theorem State.modThermal_lv (s : State) {f} : (s.modThermal f).lv = s.lv := rfl
@[simp] theorem State.modThermal_keeper (s : State) {f} : (s.modThermal f).keeper = s.keeper := rfl
@[simp] theorem State.modThermal_motors (s : State) {f} : (s.modThermal f).motors = s.motors := rfl
@[simp] theorem State.modThermal_shift (s : State) {f} : (s.modThermal f).shift = s.shift := rfl
@[simp] theorem State.modThermal_park (s : State) {f} : (s.modThermal f).park = s.park := rfl
@[simp] theorem State.modThermal_clutch (s : State) {f} : (s.modThermal f).clutch = s.clutch := rfl
@[simp] theorem State.modThermal_pump (s : State) {f} : (s.modThermal f).pump = s.pump := rfl
@[simp] theorem State.modThermal_harn (s : State) {f} : (s.modThermal f).harn = s.harn := rfl
@[simp] theorem State.modThermal_clk (s : State) {f} : (s.modThermal f).clk = s.clk := rfl
@[simp] theorem State.modThermal_power (s : State) {f} : (s.modThermal f).power = s.power := rfl
@[simp] theorem State.modThermal_boot (s : State) {f} : (s.modThermal f).boot = s.boot := rfl
@[simp] theorem State.modThermal_pending (s : State) {f} : (s.modThermal f).pending = s.pending := rfl
@[simp] theorem State.modThermal_rd (s : State) {f} (x : Nat) : (s.modThermal f).rd x = s.rd x := rfl
@[simp] theorem State.modThermal_sig (s : State) {f} (x : Nat) : (s.modThermal f).sig x = s.sig x := rfl
@[simp] theorem State.modThermal_desc (s : State) {f} (x : Nat) : (s.modThermal f).desc x = s.desc x := rfl
@[simp] theorem State.modThermal_sramGet (s : State) {f} (x : Nat) : (s.modThermal f).sramGet x = s.sramGet x := rfl
@[simp] theorem State.modThermal_nvmGet (s : State) {f} (x : Nat) : (s.modThermal f).nvmGet x = s.nvmGet x := rfl
@[simp] theorem State.modThermal_codeGet (s : State) {f} (x : Nat) : (s.modThermal f).codeGet x = s.codeGet x := rfl
@[simp] theorem State.modThermal_pgAt (s : State) {f} (x : Nat) : (s.modThermal f).pgAt x = s.pgAt x := rfl
@[simp] theorem State.modThermal_auAt (s : State) {f} (x : Nat) : (s.modThermal f).auAt x = s.auAt x := rfl
@[simp] theorem State.modThermal_ceAt (s : State) {f} (x : Nat) : (s.modThermal f).ceAt x = s.ceAt x := rfl
@[simp] theorem State.modThermal_coreAt (s : State) {f} (x : Nat) : (s.modThermal f).coreAt x = s.coreAt x := rfl
@[simp] theorem State.modThermal_own (s : State) {f} : (s.modThermal f).thermal = f s.thermal := rfl

/-! `modZone` -/
@[simp] theorem State.modZone_dtb (s : State) {z f} : (s.modZone z f).dtb = s.dtb := rfl
@[simp] theorem State.modZone_variant (s : State) {z f} : (s.modZone z f).variant = s.variant := rfl
@[simp] theorem State.modZone_regs (s : State) {z f} : (s.modZone z f).regs = s.regs := rfl
@[simp] theorem State.modZone_sigs (s : State) {z f} : (s.modZone z f).sigs = s.sigs := rfl
@[simp] theorem State.modZone_descs (s : State) {z f} : (s.modZone z f).descs = s.descs := rfl
@[simp] theorem State.modZone_sram (s : State) {z f} : (s.modZone z f).sram = s.sram := rfl
@[simp] theorem State.modZone_nvm (s : State) {z f} : (s.modZone z f).nvm = s.nvm := rfl
@[simp] theorem State.modZone_codeNvm (s : State) {z f} : (s.modZone z f).codeNvm = s.codeNvm := rfl
@[simp] theorem State.modZone_draws (s : State) {z f} : (s.modZone z f).draws = s.draws := rfl
@[simp] theorem State.modZone_cores (s : State) {z f} : (s.modZone z f).cores = s.cores := rfl
@[simp] theorem State.modZone_paddock (s : State) {z f} : (s.modZone z f).paddock = s.paddock := rfl
@[simp] theorem State.modZone_au (s : State) {z f} : (s.modZone z f).au = s.au := rfl
@[simp] theorem State.modZone_joins (s : State) {z f} : (s.modZone z f).joins = s.joins := rfl
@[simp] theorem State.modZone_tt (s : State) {z f} : (s.modZone z f).tt = s.tt := rfl
@[simp] theorem State.modZone_ce (s : State) {z f} : (s.modZone z f).ce = s.ce := rfl
@[simp] theorem State.modZone_pg (s : State) {z f} : (s.modZone z f).pg = s.pg := rfl
@[simp] theorem State.modZone_tripIn (s : State) {z f} : (s.modZone z f).tripIn = s.tripIn := rfl
@[simp] theorem State.modZone_yarrow (s : State) {z f} : (s.modZone z f).yarrow = s.yarrow := rfl
@[simp] theorem State.modZone_mode (s : State) {z f} : (s.modZone z f).mode = s.mode := rfl
@[simp] theorem State.modZone_irqPend (s : State) {z f} : (s.modZone z f).irqPend = s.irqPend := rfl
@[simp] theorem State.modZone_gate (s : State) {z f} : (s.modZone z f).gate = s.gate := rfl
@[simp] theorem State.modZone_mg (s : State) {z f} : (s.modZone z f).mg = s.mg := rfl
@[simp] theorem State.modZone_bus (s : State) {z f} : (s.modZone z f).bus = s.bus := rfl
@[simp] theorem State.modZone_bridle (s : State) {z f} : (s.modZone z f).bridle = s.bridle := rfl
@[simp] theorem State.modZone_sec (s : State) {z f} : (s.modZone z f).sec = s.sec := rfl
@[simp] theorem State.modZone_rtcBase (s : State) {z f} : (s.modZone z f).rtcBase = s.rtcBase := rfl
@[simp] theorem State.modZone_cycle (s : State) {z f} : (s.modZone z f).cycle = s.cycle := rfl
@[simp] theorem State.modZone_drives (s : State) {z f} : (s.modZone z f).drives = s.drives := rfl
@[simp] theorem State.modZone_inlet (s : State) {z f} : (s.modZone z f).inlet = s.inlet := rfl
@[simp] theorem State.modZone_charge (s : State) {z f} : (s.modZone z f).charge = s.charge := rfl
@[simp] theorem State.modZone_supply (s : State) {z f} : (s.modZone z f).supply = s.supply := rfl
@[simp] theorem State.modZone_solar (s : State) {z f} : (s.modZone z f).solar = s.solar := rfl
@[simp] theorem State.modZone_chs (s : State) {z f} : (s.modZone z f).chs = s.chs := rfl
@[simp] theorem State.modZone_lv (s : State) {z f} : (s.modZone z f).lv = s.lv := rfl
@[simp] theorem State.modZone_keeper (s : State) {z f} : (s.modZone z f).keeper = s.keeper := rfl
@[simp] theorem State.modZone_motors (s : State) {z f} : (s.modZone z f).motors = s.motors := rfl
@[simp] theorem State.modZone_shift (s : State) {z f} : (s.modZone z f).shift = s.shift := rfl
@[simp] theorem State.modZone_park (s : State) {z f} : (s.modZone z f).park = s.park := rfl
@[simp] theorem State.modZone_clutch (s : State) {z f} : (s.modZone z f).clutch = s.clutch := rfl
@[simp] theorem State.modZone_pump (s : State) {z f} : (s.modZone z f).pump = s.pump := rfl
@[simp] theorem State.modZone_harn (s : State) {z f} : (s.modZone z f).harn = s.harn := rfl
@[simp] theorem State.modZone_clk (s : State) {z f} : (s.modZone z f).clk = s.clk := rfl
@[simp] theorem State.modZone_power (s : State) {z f} : (s.modZone z f).power = s.power := rfl
@[simp] theorem State.modZone_boot (s : State) {z f} : (s.modZone z f).boot = s.boot := rfl
@[simp] theorem State.modZone_pending (s : State) {z f} : (s.modZone z f).pending = s.pending := rfl
@[simp] theorem State.modZone_rd (s : State) {z f} (x : Nat) : (s.modZone z f).rd x = s.rd x := rfl
@[simp] theorem State.modZone_sig (s : State) {z f} (x : Nat) : (s.modZone z f).sig x = s.sig x := rfl
@[simp] theorem State.modZone_desc (s : State) {z f} (x : Nat) : (s.modZone z f).desc x = s.desc x := rfl
@[simp] theorem State.modZone_sramGet (s : State) {z f} (x : Nat) : (s.modZone z f).sramGet x = s.sramGet x := rfl
@[simp] theorem State.modZone_nvmGet (s : State) {z f} (x : Nat) : (s.modZone z f).nvmGet x = s.nvmGet x := rfl
@[simp] theorem State.modZone_codeGet (s : State) {z f} (x : Nat) : (s.modZone z f).codeGet x = s.codeGet x := rfl
@[simp] theorem State.modZone_pgAt (s : State) {z f} (x : Nat) : (s.modZone z f).pgAt x = s.pgAt x := rfl
@[simp] theorem State.modZone_auAt (s : State) {z f} (x : Nat) : (s.modZone z f).auAt x = s.auAt x := rfl
@[simp] theorem State.modZone_ceAt (s : State) {z f} (x : Nat) : (s.modZone z f).ceAt x = s.ceAt x := rfl
@[simp] theorem State.modZone_coreAt (s : State) {z f} (x : Nat) : (s.modZone z f).coreAt x = s.coreAt x := rfl

/-! `modClk` -/
@[simp] theorem State.modClk_dtb (s : State) {f} : (s.modClk f).dtb = s.dtb := rfl
@[simp] theorem State.modClk_variant (s : State) {f} : (s.modClk f).variant = s.variant := rfl
@[simp] theorem State.modClk_regs (s : State) {f} : (s.modClk f).regs = s.regs := rfl
@[simp] theorem State.modClk_sigs (s : State) {f} : (s.modClk f).sigs = s.sigs := rfl
@[simp] theorem State.modClk_descs (s : State) {f} : (s.modClk f).descs = s.descs := rfl
@[simp] theorem State.modClk_sram (s : State) {f} : (s.modClk f).sram = s.sram := rfl
@[simp] theorem State.modClk_nvm (s : State) {f} : (s.modClk f).nvm = s.nvm := rfl
@[simp] theorem State.modClk_codeNvm (s : State) {f} : (s.modClk f).codeNvm = s.codeNvm := rfl
@[simp] theorem State.modClk_draws (s : State) {f} : (s.modClk f).draws = s.draws := rfl
@[simp] theorem State.modClk_cores (s : State) {f} : (s.modClk f).cores = s.cores := rfl
@[simp] theorem State.modClk_paddock (s : State) {f} : (s.modClk f).paddock = s.paddock := rfl
@[simp] theorem State.modClk_au (s : State) {f} : (s.modClk f).au = s.au := rfl
@[simp] theorem State.modClk_joins (s : State) {f} : (s.modClk f).joins = s.joins := rfl
@[simp] theorem State.modClk_tt (s : State) {f} : (s.modClk f).tt = s.tt := rfl
@[simp] theorem State.modClk_ce (s : State) {f} : (s.modClk f).ce = s.ce := rfl
@[simp] theorem State.modClk_pg (s : State) {f} : (s.modClk f).pg = s.pg := rfl
@[simp] theorem State.modClk_tripIn (s : State) {f} : (s.modClk f).tripIn = s.tripIn := rfl
@[simp] theorem State.modClk_yarrow (s : State) {f} : (s.modClk f).yarrow = s.yarrow := rfl
@[simp] theorem State.modClk_mode (s : State) {f} : (s.modClk f).mode = s.mode := rfl
@[simp] theorem State.modClk_irqPend (s : State) {f} : (s.modClk f).irqPend = s.irqPend := rfl
@[simp] theorem State.modClk_gate (s : State) {f} : (s.modClk f).gate = s.gate := rfl
@[simp] theorem State.modClk_mg (s : State) {f} : (s.modClk f).mg = s.mg := rfl
@[simp] theorem State.modClk_bus (s : State) {f} : (s.modClk f).bus = s.bus := rfl
@[simp] theorem State.modClk_bridle (s : State) {f} : (s.modClk f).bridle = s.bridle := rfl
@[simp] theorem State.modClk_sec (s : State) {f} : (s.modClk f).sec = s.sec := rfl
@[simp] theorem State.modClk_rtcBase (s : State) {f} : (s.modClk f).rtcBase = s.rtcBase := rfl
@[simp] theorem State.modClk_cycle (s : State) {f} : (s.modClk f).cycle = s.cycle := rfl
@[simp] theorem State.modClk_drives (s : State) {f} : (s.modClk f).drives = s.drives := rfl
@[simp] theorem State.modClk_inlet (s : State) {f} : (s.modClk f).inlet = s.inlet := rfl
@[simp] theorem State.modClk_charge (s : State) {f} : (s.modClk f).charge = s.charge := rfl
@[simp] theorem State.modClk_supply (s : State) {f} : (s.modClk f).supply = s.supply := rfl
@[simp] theorem State.modClk_solar (s : State) {f} : (s.modClk f).solar = s.solar := rfl
@[simp] theorem State.modClk_chs (s : State) {f} : (s.modClk f).chs = s.chs := rfl
@[simp] theorem State.modClk_lv (s : State) {f} : (s.modClk f).lv = s.lv := rfl
@[simp] theorem State.modClk_keeper (s : State) {f} : (s.modClk f).keeper = s.keeper := rfl
@[simp] theorem State.modClk_motors (s : State) {f} : (s.modClk f).motors = s.motors := rfl
@[simp] theorem State.modClk_shift (s : State) {f} : (s.modClk f).shift = s.shift := rfl
@[simp] theorem State.modClk_park (s : State) {f} : (s.modClk f).park = s.park := rfl
@[simp] theorem State.modClk_clutch (s : State) {f} : (s.modClk f).clutch = s.clutch := rfl
@[simp] theorem State.modClk_pump (s : State) {f} : (s.modClk f).pump = s.pump := rfl
@[simp] theorem State.modClk_harn (s : State) {f} : (s.modClk f).harn = s.harn := rfl
@[simp] theorem State.modClk_thermal (s : State) {f} : (s.modClk f).thermal = s.thermal := rfl
@[simp] theorem State.modClk_power (s : State) {f} : (s.modClk f).power = s.power := rfl
@[simp] theorem State.modClk_boot (s : State) {f} : (s.modClk f).boot = s.boot := rfl
@[simp] theorem State.modClk_pending (s : State) {f} : (s.modClk f).pending = s.pending := rfl
@[simp] theorem State.modClk_rd (s : State) {f} (x : Nat) : (s.modClk f).rd x = s.rd x := rfl
@[simp] theorem State.modClk_sig (s : State) {f} (x : Nat) : (s.modClk f).sig x = s.sig x := rfl
@[simp] theorem State.modClk_desc (s : State) {f} (x : Nat) : (s.modClk f).desc x = s.desc x := rfl
@[simp] theorem State.modClk_sramGet (s : State) {f} (x : Nat) : (s.modClk f).sramGet x = s.sramGet x := rfl
@[simp] theorem State.modClk_nvmGet (s : State) {f} (x : Nat) : (s.modClk f).nvmGet x = s.nvmGet x := rfl
@[simp] theorem State.modClk_codeGet (s : State) {f} (x : Nat) : (s.modClk f).codeGet x = s.codeGet x := rfl
@[simp] theorem State.modClk_pgAt (s : State) {f} (x : Nat) : (s.modClk f).pgAt x = s.pgAt x := rfl
@[simp] theorem State.modClk_auAt (s : State) {f} (x : Nat) : (s.modClk f).auAt x = s.auAt x := rfl
@[simp] theorem State.modClk_ceAt (s : State) {f} (x : Nat) : (s.modClk f).ceAt x = s.ceAt x := rfl
@[simp] theorem State.modClk_coreAt (s : State) {f} (x : Nat) : (s.modClk f).coreAt x = s.coreAt x := rfl
@[simp] theorem State.modClk_own (s : State) {f} : (s.modClk f).clk = f s.clk := rfl

/-! `modBoot` -/
@[simp] theorem State.modBoot_dtb (s : State) {f} : (s.modBoot f).dtb = s.dtb := rfl
@[simp] theorem State.modBoot_variant (s : State) {f} : (s.modBoot f).variant = s.variant := rfl
@[simp] theorem State.modBoot_regs (s : State) {f} : (s.modBoot f).regs = s.regs := rfl
@[simp] theorem State.modBoot_sigs (s : State) {f} : (s.modBoot f).sigs = s.sigs := rfl
@[simp] theorem State.modBoot_descs (s : State) {f} : (s.modBoot f).descs = s.descs := rfl
@[simp] theorem State.modBoot_sram (s : State) {f} : (s.modBoot f).sram = s.sram := rfl
@[simp] theorem State.modBoot_nvm (s : State) {f} : (s.modBoot f).nvm = s.nvm := rfl
@[simp] theorem State.modBoot_codeNvm (s : State) {f} : (s.modBoot f).codeNvm = s.codeNvm := rfl
@[simp] theorem State.modBoot_draws (s : State) {f} : (s.modBoot f).draws = s.draws := rfl
@[simp] theorem State.modBoot_cores (s : State) {f} : (s.modBoot f).cores = s.cores := rfl
@[simp] theorem State.modBoot_paddock (s : State) {f} : (s.modBoot f).paddock = s.paddock := rfl
@[simp] theorem State.modBoot_au (s : State) {f} : (s.modBoot f).au = s.au := rfl
@[simp] theorem State.modBoot_joins (s : State) {f} : (s.modBoot f).joins = s.joins := rfl
@[simp] theorem State.modBoot_tt (s : State) {f} : (s.modBoot f).tt = s.tt := rfl
@[simp] theorem State.modBoot_ce (s : State) {f} : (s.modBoot f).ce = s.ce := rfl
@[simp] theorem State.modBoot_pg (s : State) {f} : (s.modBoot f).pg = s.pg := rfl
@[simp] theorem State.modBoot_tripIn (s : State) {f} : (s.modBoot f).tripIn = s.tripIn := rfl
@[simp] theorem State.modBoot_yarrow (s : State) {f} : (s.modBoot f).yarrow = s.yarrow := rfl
@[simp] theorem State.modBoot_mode (s : State) {f} : (s.modBoot f).mode = s.mode := rfl
@[simp] theorem State.modBoot_irqPend (s : State) {f} : (s.modBoot f).irqPend = s.irqPend := rfl
@[simp] theorem State.modBoot_gate (s : State) {f} : (s.modBoot f).gate = s.gate := rfl
@[simp] theorem State.modBoot_mg (s : State) {f} : (s.modBoot f).mg = s.mg := rfl
@[simp] theorem State.modBoot_bus (s : State) {f} : (s.modBoot f).bus = s.bus := rfl
@[simp] theorem State.modBoot_bridle (s : State) {f} : (s.modBoot f).bridle = s.bridle := rfl
@[simp] theorem State.modBoot_sec (s : State) {f} : (s.modBoot f).sec = s.sec := rfl
@[simp] theorem State.modBoot_rtcBase (s : State) {f} : (s.modBoot f).rtcBase = s.rtcBase := rfl
@[simp] theorem State.modBoot_cycle (s : State) {f} : (s.modBoot f).cycle = s.cycle := rfl
@[simp] theorem State.modBoot_drives (s : State) {f} : (s.modBoot f).drives = s.drives := rfl
@[simp] theorem State.modBoot_inlet (s : State) {f} : (s.modBoot f).inlet = s.inlet := rfl
@[simp] theorem State.modBoot_charge (s : State) {f} : (s.modBoot f).charge = s.charge := rfl
@[simp] theorem State.modBoot_supply (s : State) {f} : (s.modBoot f).supply = s.supply := rfl
@[simp] theorem State.modBoot_solar (s : State) {f} : (s.modBoot f).solar = s.solar := rfl
@[simp] theorem State.modBoot_chs (s : State) {f} : (s.modBoot f).chs = s.chs := rfl
@[simp] theorem State.modBoot_lv (s : State) {f} : (s.modBoot f).lv = s.lv := rfl
@[simp] theorem State.modBoot_keeper (s : State) {f} : (s.modBoot f).keeper = s.keeper := rfl
@[simp] theorem State.modBoot_motors (s : State) {f} : (s.modBoot f).motors = s.motors := rfl
@[simp] theorem State.modBoot_shift (s : State) {f} : (s.modBoot f).shift = s.shift := rfl
@[simp] theorem State.modBoot_park (s : State) {f} : (s.modBoot f).park = s.park := rfl
@[simp] theorem State.modBoot_clutch (s : State) {f} : (s.modBoot f).clutch = s.clutch := rfl
@[simp] theorem State.modBoot_pump (s : State) {f} : (s.modBoot f).pump = s.pump := rfl
@[simp] theorem State.modBoot_harn (s : State) {f} : (s.modBoot f).harn = s.harn := rfl
@[simp] theorem State.modBoot_thermal (s : State) {f} : (s.modBoot f).thermal = s.thermal := rfl
@[simp] theorem State.modBoot_clk (s : State) {f} : (s.modBoot f).clk = s.clk := rfl
@[simp] theorem State.modBoot_power (s : State) {f} : (s.modBoot f).power = s.power := rfl
@[simp] theorem State.modBoot_pending (s : State) {f} : (s.modBoot f).pending = s.pending := rfl
@[simp] theorem State.modBoot_rd (s : State) {f} (x : Nat) : (s.modBoot f).rd x = s.rd x := rfl
@[simp] theorem State.modBoot_sig (s : State) {f} (x : Nat) : (s.modBoot f).sig x = s.sig x := rfl
@[simp] theorem State.modBoot_desc (s : State) {f} (x : Nat) : (s.modBoot f).desc x = s.desc x := rfl
@[simp] theorem State.modBoot_sramGet (s : State) {f} (x : Nat) : (s.modBoot f).sramGet x = s.sramGet x := rfl
@[simp] theorem State.modBoot_nvmGet (s : State) {f} (x : Nat) : (s.modBoot f).nvmGet x = s.nvmGet x := rfl
@[simp] theorem State.modBoot_codeGet (s : State) {f} (x : Nat) : (s.modBoot f).codeGet x = s.codeGet x := rfl
@[simp] theorem State.modBoot_pgAt (s : State) {f} (x : Nat) : (s.modBoot f).pgAt x = s.pgAt x := rfl
@[simp] theorem State.modBoot_auAt (s : State) {f} (x : Nat) : (s.modBoot f).auAt x = s.auAt x := rfl
@[simp] theorem State.modBoot_ceAt (s : State) {f} (x : Nat) : (s.modBoot f).ceAt x = s.ceAt x := rfl
@[simp] theorem State.modBoot_coreAt (s : State) {f} (x : Nat) : (s.modBoot f).coreAt x = s.coreAt x := rfl
@[simp] theorem State.modBoot_own (s : State) {f} : (s.modBoot f).boot = f s.boot := rfl

/-! `modSecure` -/
@[simp] theorem State.modSecure_dtb (s : State) {f} : (s.modSecure f).dtb = s.dtb := rfl
@[simp] theorem State.modSecure_variant (s : State) {f} : (s.modSecure f).variant = s.variant := rfl
@[simp] theorem State.modSecure_regs (s : State) {f} : (s.modSecure f).regs = s.regs := rfl
@[simp] theorem State.modSecure_sigs (s : State) {f} : (s.modSecure f).sigs = s.sigs := rfl
@[simp] theorem State.modSecure_descs (s : State) {f} : (s.modSecure f).descs = s.descs := rfl
@[simp] theorem State.modSecure_sram (s : State) {f} : (s.modSecure f).sram = s.sram := rfl
@[simp] theorem State.modSecure_nvm (s : State) {f} : (s.modSecure f).nvm = s.nvm := rfl
@[simp] theorem State.modSecure_codeNvm (s : State) {f} : (s.modSecure f).codeNvm = s.codeNvm := rfl
@[simp] theorem State.modSecure_draws (s : State) {f} : (s.modSecure f).draws = s.draws := rfl
@[simp] theorem State.modSecure_cores (s : State) {f} : (s.modSecure f).cores = s.cores := rfl
@[simp] theorem State.modSecure_paddock (s : State) {f} : (s.modSecure f).paddock = s.paddock := rfl
@[simp] theorem State.modSecure_au (s : State) {f} : (s.modSecure f).au = s.au := rfl
@[simp] theorem State.modSecure_joins (s : State) {f} : (s.modSecure f).joins = s.joins := rfl
@[simp] theorem State.modSecure_tt (s : State) {f} : (s.modSecure f).tt = s.tt := rfl
@[simp] theorem State.modSecure_ce (s : State) {f} : (s.modSecure f).ce = s.ce := rfl
@[simp] theorem State.modSecure_pg (s : State) {f} : (s.modSecure f).pg = s.pg := rfl
@[simp] theorem State.modSecure_tripIn (s : State) {f} : (s.modSecure f).tripIn = s.tripIn := rfl
@[simp] theorem State.modSecure_yarrow (s : State) {f} : (s.modSecure f).yarrow = s.yarrow := rfl
@[simp] theorem State.modSecure_mode (s : State) {f} : (s.modSecure f).mode = s.mode := rfl
@[simp] theorem State.modSecure_irqPend (s : State) {f} : (s.modSecure f).irqPend = s.irqPend := rfl
@[simp] theorem State.modSecure_gate (s : State) {f} : (s.modSecure f).gate = s.gate := rfl
@[simp] theorem State.modSecure_mg (s : State) {f} : (s.modSecure f).mg = s.mg := rfl
@[simp] theorem State.modSecure_bus (s : State) {f} : (s.modSecure f).bus = s.bus := rfl
@[simp] theorem State.modSecure_bridle (s : State) {f} : (s.modSecure f).bridle = s.bridle := rfl
@[simp] theorem State.modSecure_rtcBase (s : State) {f} : (s.modSecure f).rtcBase = s.rtcBase := rfl
@[simp] theorem State.modSecure_cycle (s : State) {f} : (s.modSecure f).cycle = s.cycle := rfl
@[simp] theorem State.modSecure_drives (s : State) {f} : (s.modSecure f).drives = s.drives := rfl
@[simp] theorem State.modSecure_inlet (s : State) {f} : (s.modSecure f).inlet = s.inlet := rfl
@[simp] theorem State.modSecure_charge (s : State) {f} : (s.modSecure f).charge = s.charge := rfl
@[simp] theorem State.modSecure_supply (s : State) {f} : (s.modSecure f).supply = s.supply := rfl
@[simp] theorem State.modSecure_solar (s : State) {f} : (s.modSecure f).solar = s.solar := rfl
@[simp] theorem State.modSecure_chs (s : State) {f} : (s.modSecure f).chs = s.chs := rfl
@[simp] theorem State.modSecure_lv (s : State) {f} : (s.modSecure f).lv = s.lv := rfl
@[simp] theorem State.modSecure_keeper (s : State) {f} : (s.modSecure f).keeper = s.keeper := rfl
@[simp] theorem State.modSecure_motors (s : State) {f} : (s.modSecure f).motors = s.motors := rfl
@[simp] theorem State.modSecure_shift (s : State) {f} : (s.modSecure f).shift = s.shift := rfl
@[simp] theorem State.modSecure_park (s : State) {f} : (s.modSecure f).park = s.park := rfl
@[simp] theorem State.modSecure_clutch (s : State) {f} : (s.modSecure f).clutch = s.clutch := rfl
@[simp] theorem State.modSecure_pump (s : State) {f} : (s.modSecure f).pump = s.pump := rfl
@[simp] theorem State.modSecure_harn (s : State) {f} : (s.modSecure f).harn = s.harn := rfl
@[simp] theorem State.modSecure_thermal (s : State) {f} : (s.modSecure f).thermal = s.thermal := rfl
@[simp] theorem State.modSecure_clk (s : State) {f} : (s.modSecure f).clk = s.clk := rfl
@[simp] theorem State.modSecure_power (s : State) {f} : (s.modSecure f).power = s.power := rfl
@[simp] theorem State.modSecure_boot (s : State) {f} : (s.modSecure f).boot = s.boot := rfl
@[simp] theorem State.modSecure_pending (s : State) {f} : (s.modSecure f).pending = s.pending := rfl
@[simp] theorem State.modSecure_rd (s : State) {f} (x : Nat) : (s.modSecure f).rd x = s.rd x := rfl
@[simp] theorem State.modSecure_sig (s : State) {f} (x : Nat) : (s.modSecure f).sig x = s.sig x := rfl
@[simp] theorem State.modSecure_desc (s : State) {f} (x : Nat) : (s.modSecure f).desc x = s.desc x := rfl
@[simp] theorem State.modSecure_sramGet (s : State) {f} (x : Nat) : (s.modSecure f).sramGet x = s.sramGet x := rfl
@[simp] theorem State.modSecure_nvmGet (s : State) {f} (x : Nat) : (s.modSecure f).nvmGet x = s.nvmGet x := rfl
@[simp] theorem State.modSecure_codeGet (s : State) {f} (x : Nat) : (s.modSecure f).codeGet x = s.codeGet x := rfl
@[simp] theorem State.modSecure_pgAt (s : State) {f} (x : Nat) : (s.modSecure f).pgAt x = s.pgAt x := rfl
@[simp] theorem State.modSecure_auAt (s : State) {f} (x : Nat) : (s.modSecure f).auAt x = s.auAt x := rfl
@[simp] theorem State.modSecure_ceAt (s : State) {f} (x : Nat) : (s.modSecure f).ceAt x = s.ceAt x := rfl
@[simp] theorem State.modSecure_coreAt (s : State) {f} (x : Nat) : (s.modSecure f).coreAt x = s.coreAt x := rfl
@[simp] theorem State.modSecure_own (s : State) {f} : (s.modSecure f).sec = f s.sec := rfl

/-! `modMode` -/
@[simp] theorem State.modMode_dtb (s : State) {f} : (s.modMode f).dtb = s.dtb := rfl
@[simp] theorem State.modMode_variant (s : State) {f} : (s.modMode f).variant = s.variant := rfl
@[simp] theorem State.modMode_regs (s : State) {f} : (s.modMode f).regs = s.regs := rfl
@[simp] theorem State.modMode_sigs (s : State) {f} : (s.modMode f).sigs = s.sigs := rfl
@[simp] theorem State.modMode_descs (s : State) {f} : (s.modMode f).descs = s.descs := rfl
@[simp] theorem State.modMode_sram (s : State) {f} : (s.modMode f).sram = s.sram := rfl
@[simp] theorem State.modMode_nvm (s : State) {f} : (s.modMode f).nvm = s.nvm := rfl
@[simp] theorem State.modMode_codeNvm (s : State) {f} : (s.modMode f).codeNvm = s.codeNvm := rfl
@[simp] theorem State.modMode_draws (s : State) {f} : (s.modMode f).draws = s.draws := rfl
@[simp] theorem State.modMode_cores (s : State) {f} : (s.modMode f).cores = s.cores := rfl
@[simp] theorem State.modMode_paddock (s : State) {f} : (s.modMode f).paddock = s.paddock := rfl
@[simp] theorem State.modMode_au (s : State) {f} : (s.modMode f).au = s.au := rfl
@[simp] theorem State.modMode_joins (s : State) {f} : (s.modMode f).joins = s.joins := rfl
@[simp] theorem State.modMode_tt (s : State) {f} : (s.modMode f).tt = s.tt := rfl
@[simp] theorem State.modMode_ce (s : State) {f} : (s.modMode f).ce = s.ce := rfl
@[simp] theorem State.modMode_pg (s : State) {f} : (s.modMode f).pg = s.pg := rfl
@[simp] theorem State.modMode_tripIn (s : State) {f} : (s.modMode f).tripIn = s.tripIn := rfl
@[simp] theorem State.modMode_yarrow (s : State) {f} : (s.modMode f).yarrow = s.yarrow := rfl
@[simp] theorem State.modMode_irqPend (s : State) {f} : (s.modMode f).irqPend = s.irqPend := rfl
@[simp] theorem State.modMode_gate (s : State) {f} : (s.modMode f).gate = s.gate := rfl
@[simp] theorem State.modMode_mg (s : State) {f} : (s.modMode f).mg = s.mg := rfl
@[simp] theorem State.modMode_bus (s : State) {f} : (s.modMode f).bus = s.bus := rfl
@[simp] theorem State.modMode_bridle (s : State) {f} : (s.modMode f).bridle = s.bridle := rfl
@[simp] theorem State.modMode_sec (s : State) {f} : (s.modMode f).sec = s.sec := rfl
@[simp] theorem State.modMode_rtcBase (s : State) {f} : (s.modMode f).rtcBase = s.rtcBase := rfl
@[simp] theorem State.modMode_cycle (s : State) {f} : (s.modMode f).cycle = s.cycle := rfl
@[simp] theorem State.modMode_drives (s : State) {f} : (s.modMode f).drives = s.drives := rfl
@[simp] theorem State.modMode_inlet (s : State) {f} : (s.modMode f).inlet = s.inlet := rfl
@[simp] theorem State.modMode_charge (s : State) {f} : (s.modMode f).charge = s.charge := rfl
@[simp] theorem State.modMode_supply (s : State) {f} : (s.modMode f).supply = s.supply := rfl
@[simp] theorem State.modMode_solar (s : State) {f} : (s.modMode f).solar = s.solar := rfl
@[simp] theorem State.modMode_chs (s : State) {f} : (s.modMode f).chs = s.chs := rfl
@[simp] theorem State.modMode_lv (s : State) {f} : (s.modMode f).lv = s.lv := rfl
@[simp] theorem State.modMode_keeper (s : State) {f} : (s.modMode f).keeper = s.keeper := rfl
@[simp] theorem State.modMode_motors (s : State) {f} : (s.modMode f).motors = s.motors := rfl
@[simp] theorem State.modMode_shift (s : State) {f} : (s.modMode f).shift = s.shift := rfl
@[simp] theorem State.modMode_park (s : State) {f} : (s.modMode f).park = s.park := rfl
@[simp] theorem State.modMode_clutch (s : State) {f} : (s.modMode f).clutch = s.clutch := rfl
@[simp] theorem State.modMode_pump (s : State) {f} : (s.modMode f).pump = s.pump := rfl
@[simp] theorem State.modMode_harn (s : State) {f} : (s.modMode f).harn = s.harn := rfl
@[simp] theorem State.modMode_thermal (s : State) {f} : (s.modMode f).thermal = s.thermal := rfl
@[simp] theorem State.modMode_clk (s : State) {f} : (s.modMode f).clk = s.clk := rfl
@[simp] theorem State.modMode_power (s : State) {f} : (s.modMode f).power = s.power := rfl
@[simp] theorem State.modMode_boot (s : State) {f} : (s.modMode f).boot = s.boot := rfl
@[simp] theorem State.modMode_pending (s : State) {f} : (s.modMode f).pending = s.pending := rfl
@[simp] theorem State.modMode_rd (s : State) {f} (x : Nat) : (s.modMode f).rd x = s.rd x := rfl
@[simp] theorem State.modMode_sig (s : State) {f} (x : Nat) : (s.modMode f).sig x = s.sig x := rfl
@[simp] theorem State.modMode_desc (s : State) {f} (x : Nat) : (s.modMode f).desc x = s.desc x := rfl
@[simp] theorem State.modMode_sramGet (s : State) {f} (x : Nat) : (s.modMode f).sramGet x = s.sramGet x := rfl
@[simp] theorem State.modMode_nvmGet (s : State) {f} (x : Nat) : (s.modMode f).nvmGet x = s.nvmGet x := rfl
@[simp] theorem State.modMode_codeGet (s : State) {f} (x : Nat) : (s.modMode f).codeGet x = s.codeGet x := rfl
@[simp] theorem State.modMode_pgAt (s : State) {f} (x : Nat) : (s.modMode f).pgAt x = s.pgAt x := rfl
@[simp] theorem State.modMode_auAt (s : State) {f} (x : Nat) : (s.modMode f).auAt x = s.auAt x := rfl
@[simp] theorem State.modMode_ceAt (s : State) {f} (x : Nat) : (s.modMode f).ceAt x = s.ceAt x := rfl
@[simp] theorem State.modMode_coreAt (s : State) {f} (x : Nat) : (s.modMode f).coreAt x = s.coreAt x := rfl
@[simp] theorem State.modMode_own (s : State) {f} : (s.modMode f).mode = f s.mode := rfl

end Sys2Proof.Machine
end

