-- ==== Sys2Proof/Laws/Regs.lean ====
section
/-! SUPPORT. Reading after writing: registers and their fields, signals, descriptors, memory bytes, and lists of like
units. -/

namespace Sys2Proof.Machine

/-! ## Bit fields -/

/-- A word splits at a field into what lies above it, the field, and what lies below it. -/
theorem Word.split (w : Word) (f : Field) :
    w.toNat = w.toNat / 2 ^ (f.lo + f.len) * 2 ^ (f.lo + f.len) + Word.get w f * 2 ^ f.lo + w.toNat % 2 ^ f.lo := by
  unfold Word.get
  have h1 := Nat.div_add_mod (w.toNat / 2 ^ f.lo) (2 ^ f.len)
  have h2 := Nat.div_add_mod w.toNat (2 ^ f.lo)
  rw [Nat.div_div_eq_div_mul, ← Nat.pow_add] at h1
  calc w.toNat = 2 ^ f.lo * (w.toNat / 2 ^ f.lo) + w.toNat % 2 ^ f.lo := h2.symm
    _ = 2 ^ f.lo * (2 ^ f.len * (w.toNat / 2 ^ (f.lo + f.len)) + w.toNat / 2 ^ f.lo % 2 ^ f.len) + w.toNat % 2 ^ f.lo := by
        rw [h1]
    _ = _ := by rw [Nat.pow_add]; ring

/-- The number a written field makes. -/
theorem Word.put_toNat (w : Word) (f : Field) (v : Nat) (hf : f.lo + f.len ≤ 32) :
    (Word.put w f v).toNat = w.toNat / 2 ^ (f.lo + f.len) * 2 ^ (f.lo + f.len) + v % 2 ^ f.len * 2 ^ f.lo + w.toNat % 2 ^ f.lo := by
  have hs := Word.split w f
  unfold Word.put W
  rw [BitVec.toNat_ofNat]
  have hsub : w.toNat - Word.get w f * 2 ^ f.lo + v % 2 ^ f.len * 2 ^ f.lo =
      w.toNat / 2 ^ (f.lo + f.len) * 2 ^ (f.lo + f.len) + v % 2 ^ f.len * 2 ^ f.lo + w.toNat % 2 ^ f.lo := by omega
  rw [hsub]
  apply Nat.mod_eq_of_lt
  have hw := w.isLt
  have h1 : v % 2 ^ f.len + 1 ≤ 2 ^ f.len := Nat.mod_lt _ (Nat.two_pow_pos _)
  have h2 : w.toNat % 2 ^ f.lo + 1 ≤ 2 ^ f.lo := Nat.mod_lt _ (Nat.two_pow_pos _)
  have h3 : w.toNat / 2 ^ (f.lo + f.len) + 1 ≤ 2 ^ (32 - (f.lo + f.len)) := by
    apply Nat.succ_le_of_lt
    rw [Nat.div_lt_iff_lt_mul (Nat.two_pow_pos _), ← Nat.pow_add]
    have : 32 - (f.lo + f.len) + (f.lo + f.len) = 32 := by omega
    rw [this]; exact hw
  have h4 : v % 2 ^ f.len * 2 ^ f.lo + w.toNat % 2 ^ f.lo + 1 ≤ 2 ^ (f.lo + f.len) := by
    have := Nat.mul_le_mul_right (2 ^ f.lo) h1
    rw [← Nat.pow_add, Nat.add_comm f.len] at this
    rw [Nat.add_mul] at this; omega
  have h5 := Nat.mul_le_mul_right (2 ^ (f.lo + f.len)) h3
  rw [← Nat.pow_add, Nat.add_mul] at h5
  have h6 : 32 - (f.lo + f.len) + (f.lo + f.len) = 32 := by omega
  rw [h6] at h5
  omega

/-- A field reads as what was written to it. -/
theorem Word.get_put_same (w : Word) (f : Field) (v : Nat) (hf : f.lo + f.len ≤ 32) :
    Word.get (Word.put w f v) f = v % 2 ^ f.len := by
  have hp := Word.put_toNat w f v hf
  unfold Word.get
  rw [hp, Nat.pow_add]
  have hlo : w.toNat % 2 ^ f.lo < 2 ^ f.lo := Nat.mod_lt _ (Nat.two_pow_pos _)
  generalize w.toNat / (2 ^ f.lo * 2 ^ f.len) = u
  generalize w.toNat % 2 ^ f.lo = m at *
  have : u * (2 ^ f.lo * 2 ^ f.len) + v % 2 ^ f.len * 2 ^ f.lo + m = m + 2 ^ f.lo * (u * 2 ^ f.len + v % 2 ^ f.len) := by ring
  rw [this, Nat.add_mul_div_left _ _ (Nat.two_pow_pos _), Nat.div_eq_of_lt hlo, Nat.zero_add, Nat.mul_comm u,
    Nat.mul_add_mod, Nat.mod_mod]

/-- Writing a field leaves a field above it, or below it, as it was. -/
theorem Word.get_put_other (w : Word) (f g : Field) (v : Nat) (hf : f.lo + f.len ≤ 32)
    (h : g.lo + g.len ≤ f.lo ∨ f.lo + f.len ≤ g.lo) : Word.get (Word.put w f v) g = Word.get w g := by
  have hp := Word.put_toNat w f v hf
  have hs := Word.split w f
  have hv : v % 2 ^ f.len < 2 ^ f.len := Nat.mod_lt _ (Nat.two_pow_pos _)
  have hg : Word.get w f < 2 ^ f.len := Nat.mod_lt _ (Nat.two_pow_pos _)
  have hm : w.toNat % 2 ^ f.lo < 2 ^ f.lo := Nat.mod_lt _ (Nat.two_pow_pos _)
  rcases h with h | h
  · -- below: only w mod 2 ^ f.lo counts
    have key : ∀ x : Nat, x / 2 ^ g.lo % 2 ^ g.len = x % 2 ^ f.lo / 2 ^ g.lo % 2 ^ g.len := by
      intro x
      obtain ⟨k, hk⟩ : ∃ k, f.lo = g.lo + g.len + k := ⟨f.lo - (g.lo + g.len), by omega⟩
      rw [hk, Nat.add_assoc, Nat.pow_add, Nat.mod_mul_right_div_self, Nat.pow_add, Nat.mod_mul_right_mod]
    unfold Word.get
    rw [key, key w.toNat, hp]
    congr 2
    rw [Nat.pow_add]
    have : w.toNat / (2 ^ f.lo * 2 ^ f.len) * (2 ^ f.lo * 2 ^ f.len) + v % 2 ^ f.len * 2 ^ f.lo + w.toNat % 2 ^ f.lo =
        w.toNat % 2 ^ f.lo + 2 ^ f.lo * (w.toNat / (2 ^ f.lo * 2 ^ f.len) * 2 ^ f.len + v % 2 ^ f.len) := by ring
    rw [this, Nat.add_mul_mod_self_left, Nat.mod_mod]
  · have key : ∀ x : Nat, x / 2 ^ g.lo = x / 2 ^ (f.lo + f.len) / 2 ^ (g.lo - (f.lo + f.len)) := by
      intro x
      rw [Nat.div_div_eq_div_mul, ← Nat.pow_add]
      congr 2; omega
    unfold Word.get
    rw [key, key w.toNat]
    congr 2
    rw [hp]
    have hlt : v % 2 ^ f.len * 2 ^ f.lo + w.toNat % 2 ^ f.lo < 2 ^ (f.lo + f.len) := by
      have h1 := Nat.mul_le_mul_right (2 ^ f.lo) (Nat.succ_le_of_lt hv)
      rw [← Nat.pow_add, Nat.add_comm f.len, Nat.succ_mul] at h1
      omega
    rw [Nat.add_assoc, Nat.mul_comm, Nat.mul_add_div (Nat.two_pow_pos _), Nat.div_eq_of_lt hlt, Nat.add_zero]

/-! ## Registers -/

variable {s : State}

theorem State.Inv.regsOk (h : s.Inv) : SparseOk resetWord s.regs := (sparseWf_iff _).mp h.regs

theorem rd_wr_same (h : s.Inv) {a : Nat} {v : Word} : (s.wr a v).rd a = v := sparseGet_set_same _ _ _ h.regsOk

theorem rd_wr_other (h : s.Inv) {a b : Nat} {v : Word} (hb : b ≠ a) : (s.wr a v).rd b = s.rd b :=
  sparseGet_set_other _ _ _ _ h.regsOk hb

theorem wr_inv (h : s.Inv) {a : Nat} {v : Word} : (s.wr a v).Inv :=
  (State.wr_keeps (K := 2) rfl (Keeps.refl _ s)).inv h

theorem setf_inv (h : s.Inv) {a : Nat} {f : Field} {v : Nat} : (s.setf a f v).Inv := wr_inv h

theorem fld_setf_same (h : s.Inv) {a : Nat} {f : Field} {v : Nat} (hf : f.lo + f.len ≤ 32) :
    (s.setf a f v).fld a f = v % 2 ^ f.len := by
  unfold State.fld State.setf
  rw [rd_wr_same h, Word.get_put_same _ _ _ hf]

theorem fld_setf_field (h : s.Inv) {a : Nat} {f g : Field} {v : Nat} (hf : f.lo + f.len ≤ 32)
    (hfg : g.lo + g.len ≤ f.lo ∨ f.lo + f.len ≤ g.lo) : (s.setf a f v).fld a g = s.fld a g := by
  unfold State.fld State.setf
  rw [rd_wr_same h, Word.get_put_other _ _ _ _ hf hfg]

theorem rd_setf_other (h : s.Inv) {a b : Nat} {f : Field} {v : Nat} (hb : b ≠ a) : (s.setf a f v).rd b = s.rd b :=
  rd_wr_other h hb

theorem fld_setf_other (h : s.Inv) {a b : Nat} {f g : Field} {v : Nat} (hb : b ≠ a) : (s.setf a f v).fld b g = s.fld b g := by
  unfold State.fld; rw [rd_setf_other h hb]

/-- What a register reads depends on the registers alone. -/
theorem rd_congr {t : State} (h : t.regs = s.regs) (a : Nat) : t.rd a = s.rd a := by unfold State.rd; rw [h]
theorem fld_congr {t : State} (h : t.regs = s.regs) (a : Nat) (f : Field) : t.fld a f = s.fld a f := by
  unfold State.fld; rw [rd_congr h]

/-! ## Signals, descriptors, memories -/

theorem sig_setSig_same (h : s.Inv) {id : Nat} {v : Sig} : (s.setSig id v).sig id = v :=
  sparseGet_set_same _ _ _ ((sparseWf_iff _).mp h.sigs)
theorem sig_setSig_other (h : s.Inv) {id j : Nat} {v : Sig} (hj : j ≠ id) : (s.setSig id v).sig j = s.sig j :=
  sparseGet_set_other _ _ _ _ ((sparseWf_iff _).mp h.sigs) hj
theorem desc_setDesc_same (h : s.Inv) {id : Nat} {v : DWord} : (s.setDesc id v).desc id = v :=
  sparseGet_set_same _ _ _ ((sparseWf_iff _).mp h.descs)
theorem desc_setDesc_other (h : s.Inv) {id j : Nat} {v : DWord} (hj : j ≠ id) : (s.setDesc id v).desc j = s.desc j :=
  sparseGet_set_other _ _ _ _ ((sparseWf_iff _).mp h.descs) hj
theorem sramGet_sramSet_same (h : s.Inv) {a : Nat} {v : Byte} : (s.sramSet a v).sramGet a = v :=
  sparseGet_set_same _ _ _ ((sparseWf_iff _).mp h.sram)
theorem sramGet_sramSet_other (h : s.Inv) {a b : Nat} {v : Byte} (hb : b ≠ a) : (s.sramSet a v).sramGet b = s.sramGet b :=
  sparseGet_set_other _ _ _ _ ((sparseWf_iff _).mp h.sram) hb
theorem nvmGet_nvmSet_same (h : s.Inv) {a : Nat} {v : Byte} : (s.nvmSet a v).nvmGet a = v :=
  sparseGet_set_same _ _ _ ((sparseWf_iff _).mp h.nvm)
theorem nvmGet_nvmSet_other (h : s.Inv) {a b : Nat} {v : Byte} (hb : b ≠ a) : (s.nvmSet a v).nvmGet b = s.nvmGet b :=
  sparseGet_set_other _ _ _ _ ((sparseWf_iff _).mp h.nvm) hb
theorem codeGet_codeSet_same (h : s.Inv) {a : Nat} {v : Byte} : (s.codeSet a v).codeGet a = v :=
  sparseGet_set_same _ _ _ ((sparseWf_iff _).mp h.codeNvm)
theorem codeGet_codeSet_other (h : s.Inv) {a b : Nat} {v : Byte} (hb : b ≠ a) : (s.codeSet a v).codeGet b = s.codeGet b :=
  sparseGet_set_other _ _ _ _ ((sparseWf_iff _).mp h.codeNvm) hb

/-! ## Units -/

/-- A unit of a list after an update of it. -/
theorem getD_modify_same {α : Type} (l : List α) (k : Nat) (f : α → α) (d : α) (h : k < l.length) :
    (l.modify k f).getD k d = f (l.getD k d) := by
  simp [List.getD_eq_getElem?_getD, h]

theorem getD_modify_other {α : Type} (l : List α) (k j : Nat) (f : α → α) (d : α) (h : k ≠ j) :
    (l.modify k f).getD j d = l.getD j d := by
  simp [List.getD_eq_getElem?_getD, h]

theorem pgAt_modPg_same (h : s.Inv) {g : Nat} {f : PgSt → PgSt} (hg : g < 40) : (s.modPg g f).pgAt g = f (s.pgAt g) :=
  getD_modify_same _ _ _ _ (by rw [h.pg]; exact hg)
theorem auAt_modAu_same (h : s.Inv) {u : Nat} {f : AuSt → AuSt} (hu : u < 16) : (s.modAu u f).auAt u = f (s.auAt u) :=
  getD_modify_same _ _ _ _ (by rw [h.au]; exact hu)
theorem coreAt_modCore_same (h : s.Inv) {c : Nat} {f : CorePort → CorePort} (hc : c < 6) :
    (s.modCore c f).coreAt c = f (s.coreAt c) := getD_modify_same _ _ _ _ (by rw [h.cores]; exact hc)
theorem ceAt_modCe_same (h : s.Inv) {e : Nat} {f : CeSt → CeSt} (he : e < 12) : (s.modCe e f).ceAt e = f (s.ceAt e) :=
  getD_modify_same _ _ _ _ (by rw [h.ce.1]; exact he)
theorem lawAt_modLaw_same (h : s.Inv) {e l : Nat} {f : LawSt → LawSt} (he : e < 12) (hl : l < 4) :
    (s.modLaw e l f).lawAt e l = f (s.lawAt e l) := by
  unfold State.lawAt State.modLaw
  rw [ceAt_modCe_same h he]
  apply getD_modify_same
  have hlen : e < s.ce.length := by rw [h.ce.1]; exact he
  have : s.ceAt e = s.ce[e] := by simp [State.ceAt, List.getD_eq_getElem?_getD, hlen]
  rw [this, h.ce.2 _ (List.getElem_mem hlen)]; exact hl

theorem pgAt_modPg_other {g j : Nat} {f : PgSt → PgSt} (h : j ≠ g) : (s.modPg g f).pgAt j = s.pgAt j :=
  getD_modify_other _ _ _ _ _ (Ne.symm h)
theorem auAt_modAu_other {u j : Nat} {f : AuSt → AuSt} (h : j ≠ u) : (s.modAu u f).auAt j = s.auAt j :=
  getD_modify_other _ _ _ _ _ (Ne.symm h)
theorem coreAt_modCore_other {c j : Nat} {f : CorePort → CorePort} (h : j ≠ c) : (s.modCore c f).coreAt j = s.coreAt j :=
  getD_modify_other _ _ _ _ _ (Ne.symm h)

/-! ## Flags and signals that blocks write -/

theorem on_eq_true {a : Nat} {f : Field} : (s.on a f = true) = (¬Word.get (s.rd a) f = 0) := by
  rw [State.on]; exact propext decide_eq_true_iff
theorem on_eq_false {a : Nat} {f : Field} : (s.on a f = false) = (Word.get (s.rd a) f = 0) := by
  rw [State.on, decide_eq_false_iff_not, ne_eq, not_not]; rfl

/-- A write to a signal that takes it: the value as its type has it, and a meta word of the cycle from which it is seen. -/
theorem sig_putVal_same (h : s.Inv) {a : Nat} {v : Word} {q : Nat} {b : Bool} (hw : s.writable a = true) :
    (s.putVal a v q b).sig a = { value := typedValue (s.desc a) v, mword := mkMeta s.usNext q false false b } := by
  unfold State.putVal State.sig
  rw [if_pos hw, (State.latchWrite_keeps (K := 532480) rfl (Keeps.refl _ _)).sigs rfl]
  exact sig_setSig_same h
theorem sig_putVal_other (h : s.Inv) {a c : Nat} {v : Word} {q : Nat} {b : Bool} (hc : c ≠ a) : (s.putVal a v q b).sig c = s.sig c := by
  unfold State.putVal State.sig
  split
  · rw [(State.latchWrite_keeps (K := 532480) rfl (Keeps.refl _ _)).sigs rfl]
    exact sig_setSig_other h hc
  · rfl
/-- A signal that does not take the write stays. -/
theorem putVal_refused {a : Nat} {v : Word} {q : Nat} {b : Bool} (hw : s.writable a = false) : s.putVal a v q b = s := by
  unfold State.putVal; rw [hw]; rfl

end Sys2Proof.Machine
end

