-- ==== Sys2Proof/Laws/Interrupts.lean ====
section
/-! SUPPORT. What raising an interrupt source does: it pends in both routers, and registers outside the power block stay. -/

namespace Sys2Proof.Machine

theorem State.each_rd {α : Type} (l : List α) (f : State → α → State) (a : Nat)
    (hf : ∀ s x, (s.Inv → (f s x).Inv) ∧ (s.Inv → (f s x).rd a = s.rd a)) (s : State) (h : s.Inv) :
    (s.each l f).Inv ∧ (s.each l f).rd a = s.rd a := by
  induction l generalizing s with
  | nil => exact ⟨h, rfl⟩
  | cons x xs ih =>
    obtain ⟨i, r⟩ := ih (f s x) ((hf s x).1 h)
    exact ⟨i, r.trans ((hf s x).2 h)⟩

theorem State.forN_rd (n : Nat) (f : State → Nat → State) (a : Nat)
    (hf : ∀ s x, (s.Inv → (f s x).Inv) ∧ (s.Inv → (f s x).rd a = s.rd a)) (s : State) (h : s.Inv) :
    (s.forN n f).Inv ∧ (s.forN n f).rd a = s.rd a := by
  have key : ∀ (n k : Nat) (s : State), s.Inv → (overFrom f s k n).Inv ∧ (overFrom f s k n).rd a = s.rd a := by
    intro n
    induction n with
    | zero => intro k s h; exact ⟨h, rfl⟩
    | succ n ih =>
      intro k s h
      obtain ⟨i, r⟩ := ih (k + 1) (f s k) ((hf s k).1 h)
      exact ⟨i, r.trans ((hf s k).2 h)⟩
  exact key n 0 s h

/-- Registers that a change of a domain's state writes. -/
abbrev powerReg (a : Nat) : Prop := a = Reg.PWR_STAT ∨ a = Reg.PWR_REQ ∨ a = Reg.PWR_REFUSE_ID ∨ a = Reg.PWR_EVT

theorem State.powerMirror_rd {s : State} {a : Nat} (h : s.Inv) (ha : ¬powerReg a) : s.powerMirror.rd a = s.rd a := by
  unfold State.powerMirror
  have k := State.forN_rd 8 (fun (t : State) d => t.setf Reg.PWR_REQ ⟨2 * d, 2⟩ (match s.power.want.flatten.find? (fun w => w.1 = d) with
      | some w => w.2
      | none => match t.power.later.flatten.find? (fun w => w.1 = d) with
        | some w => w.2
        | none => t.domainNow d)) a (fun t x => ⟨fun i => setf_inv i, fun i => rd_setf_other i (fun e => ha (.inr (.inl e)))⟩) s h
  exact (rd_setf_other k.1 (fun e => ha (.inl e))).trans k.2

theorem State.setDomain_inv {s : State} {d v : Nat} (h : s.Inv) : (s.setDomain d v).Inv :=
  (State.setDomain_keeps (K := 4294967298) rfl (Keeps.refl _ s)).inv h

theorem State.setDomain_rd {s : State} {a d v : Nat} (h : s.Inv) (ha : a ≠ Reg.PWR_STAT) : (s.setDomain d v).rd a = s.rd a := by
  unfold State.setDomain
  split
  · exact (rd_setf_other (s := { s with keeper := _ }) { h with } ha).trans rfl
  · exact rd_setf_other h ha

theorem State.raise_rd {s : State} {a : Nat} {ds : List Nat} (h : s.Inv) (ha : ¬powerReg a) : (s.raise ds).rd a = s.rd a := by
  have key : ∀ (st : List (List Nat)) (p : State × Nat), (st.foldl (fun p l => p.1.raiseStep l p.2) p).1.regs = p.1.regs := by
    intro st
    induction st with
    | nil => intro p; rfl
    | cons l ls ih =>
      intro p
      rw [List.foldl_cons, ih]
      exact (State.raiseStep_keeps (K := 17592186044413) rfl (Keeps.refl _ p.1)).regs rfl
  have kinv : ∀ (st : List (List Nat)) (p : State × Nat), p.1.Inv → (st.foldl (fun p l => p.1.raiseStep l p.2) p).1.Inv := by
    intro st
    induction st with
    | nil => intro p i; exact i
    | cons l ls ih =>
      intro p i
      rw [List.foldl_cons]
      exact ih _ ((State.raiseStep_keeps (K := 17592186044415) rfl (Keeps.refl _ p.1)).inv i)
  unfold State.raise
  dsimp only
  generalize hm : s.modPower _ = u
  have hu : u.Inv := by rw [← hm]; exact { h with }
  have hr : u.rd a = s.rd a := by rw [← hm]; rfl
  generalize ([_, _, _] : List (List Nat)).filter (fun l => !l.isEmpty) = steps
  have e := State.each_rd (steps.headD []) (fun (t : State) d => t.setDomain d 3) a
    (fun t x => ⟨fun i => State.setDomain_inv i, fun i => State.setDomain_rd i (fun e => ha (.inl e))⟩) u hu
  refine (State.powerMirror_rd (kinv _ _ e.1) ha).trans ?_
  rw [rd_congr (key _ _) a]
  exact e.2.trans hr

theorem State.powerRecord_rd {s : State} {a u d k : Nat} (h : s.Inv) (ha : ¬powerReg a) : (s.powerRecord u d k).rd a = s.rd a := by
  have e : ((s.wr Reg.PWR_REFUSE_ID (W (u + d * 2 ^ 16 + k * 2 ^ 20))).wr Reg.PWR_EVT s.dtbLow).rd a = s.rd a := by
    rw [rd_wr_other (wr_inv h) (fun e => ha (.inr (.inr (.inr e)))), rd_wr_other h (fun e => ha (.inr (.inr (.inl e))))]
  unfold State.powerRecord
  dsimp only
  split
  · exact e
  · exact (rd_congr ((State.modeWake_keeps (K := 17592186044413) rfl (Keeps.refl _ _)).regs rfl) a).trans e

/-- Without an entry under way, a wake leaves every register outside the power block. -/
theorem State.wakeTeam_rd {s : State} {a u t : Nat} (h : s.Inv) (hp : s.power.entry = none) (ha : ¬powerReg a) :
    (s.wakeTeam u t).rd a = s.rd a := by
  unfold State.wakeTeam
  rw [hp]
  dsimp only
  generalize (List.filter (fun d => decide (s.domainNow d ≠ 0)) ([0] ++ if t = 1 then [1] else [])) = ds
  by_cases hc : (ds.isEmpty || decide (s.domainNow 0 = 2)) = true
  · rw [if_pos hc]
  · rw [if_neg hc, State.powerRecord_rd ((State.raise_keeps (K := 17592186044415) rfl (Keeps.refl _ _)).inv h) ha, State.raise_rd h ha]

theorem State.each_congr {α β : Type} (p : State → β) (l : List α) (f : State → α → State) (hf : ∀ s x, p (f s x) = p s) (s : State) :
    p (s.each l f) = p s := by
  induction l generalizing s with
  | nil => rfl
  | cons x xs ih => exact (ih (f s x)).trans (hf s x)

theorem State.irqDeliver_rd {s : State} {a t n u : Nat} (h : s.Inv) (hp : s.power.entry = none) (ha : ¬powerReg a) :
    (s.irqDeliver t n u).rd a = s.rd a := by
  unfold State.irqDeliver
  dsimp only
  split
  · rfl
  · split
    · exact State.wakeTeam_rd h hp ha
    · split
      · refine State.each_congr (fun s : State => s.rd a) _ _ ?_ s
        intro _ _; rfl
      · rfl

theorem State.raise_entry {s : State} {ds : List Nat} (h : s.power.entry = none) : (s.raise ds).power.entry = none := by
  have ks : ∀ (l : List Nat) (t0 : Nat) (u : State) (p : State × Nat), (l.foldl (fun (p : State × Nat) d =>
      let a := p.1.domainNow d
      let due := t0 + u.realTime (transTime a 0)
      (p.1.startTrans d 0 due (a = 2), max p.2 (due + u.realTime (if a = 2 then reinitTime d else 0)))) p).1.power.entry = p.1.power.entry := by
    intro l t0 u
    induction l with
    | nil => intro p; rfl
    | cons x xs ih => intro p; rw [List.foldl_cons, ih]; rfl
  have key : ∀ (st : List (List Nat)) (p : State × Nat), (st.foldl (fun p l => p.1.raiseStep l p.2) p).1.power.entry = p.1.power.entry := by
    intro st
    induction st with
    | nil => intro p; rfl
    | cons l ls ih =>
      intro p
      rw [List.foldl_cons, ih]
      exact ks l p.2 p.1 (p.1, p.2)
  unfold State.raise
  dsimp only
  rw [(State.powerMirror_keeps (K := 2) rfl (Keeps.refl _ _)).power rfl, key]
  dsimp only
  refine (State.each_congr (fun s : State => s.power.entry) _ _ ?_ _).trans ?_
  · intro u d
    exact congrArg (·.entry) ((State.setDomain_keeps (K := 4294967298) rfl (Keeps.refl _ u)).power rfl)
  · simp only [State.modPower, h]; rfl

theorem State.irqDeliver_entry {s : State} {t n u : Nat} (hp : s.power.entry = none) : (s.irqDeliver t n u).power.entry = none := by
  unfold State.irqDeliver
  dsimp only
  split
  · exact hp
  · split
    · unfold State.wakeTeam
      rw [hp]
      dsimp only
      generalize (List.filter (fun d => decide (s.domainNow d ≠ 0)) ([0] ++ if t = 1 then [1] else [])) = ds
      by_cases hc : (ds.isEmpty || decide (s.domainNow 0 = 2)) = true
      · rw [if_pos hc]; exact hp
      · rw [if_neg hc, (State.powerRecord_keeps (K := 15393162788863) rfl (Keeps.refl _ _)).power rfl, State.raise_entry]; exact hp
    · split
      · refine (State.each_congr (fun s : State => s.power.entry) _ _ ?_ s).trans hp
        intro _ _; rfl
      · exact hp

/-- Without an entry under way, an interrupt leaves every register outside the power block. -/
theorem State.irqBy_rd {s : State} {a n u : Nat} (h : s.Inv) (hp : s.power.entry = none) (ha : ¬powerReg a) :
    (s.irqBy n u).rd a = s.rd a := by
  unfold State.irqBy
  dsimp only
  have hi : ({ s with irqPend := s.irqPend.map (fun (l : List Nat) => if l.contains n then l else l ++ [n]) } : State).Inv :=
    { h with irqPend := by simpa using h.irqPend }
  rw [State.irqDeliver_rd ((State.irqDeliver_keeps (K := 17592186044415) rfl (Keeps.refl _ _)).inv hi) (State.irqDeliver_entry hp) ha,
    State.irqDeliver_rd hi hp ha]
  rfl

theorem State.irq_rd {s : State} {a n : Nat} (h : s.Inv) (hp : s.power.entry = none) (ha : ¬powerReg a) :
    (s.irq n).rd a = s.rd a := State.irqBy_rd h hp ha

/-- A source raised pends in both routers, and nothing else changes there. -/
theorem State.irqBy_irqPend {s : State} {n u : Nat} :
    (s.irqBy n u).irqPend = s.irqPend.map (fun (l : List Nat) => if l.contains n then l else l ++ [n]) := by
  unfold State.irqBy
  dsimp only
  rw [(State.irqDeliver_keeps (K := 17592185782271) rfl (Keeps.refl _ _)).irqPend rfl,
    (State.irqDeliver_keeps (K := 17592185782271) rfl (Keeps.refl _ _)).irqPend rfl]

theorem State.irq_pends {s : State} {n : Nat} : ∀ l ∈ (s.irq n).irqPend, n ∈ l := by
  intro l hl
  unfold State.irq at hl
  rw [State.irqBy_irqPend, List.mem_map] at hl
  obtain ⟨m, -, rfl⟩ := hl
  split
  · simp_all
  · simp

/-! ## Cores -/

/-- The cores of `t` are those of `s`, but for WFI. -/
def sameButWfi (s t : State) : Prop :=
  t.cores.map (fun c => { c with wfi := false }) = s.cores.map (fun c => { c with wfi := false })

theorem sameButWfi.trans {s t u : State} (h : sameButWfi s t) (g : sameButWfi t u) : sameButWfi s u := Eq.trans g h
theorem sameButWfi.of_cores {s t : State} (h : t.cores = s.cores) : sameButWfi s t := by unfold sameButWfi; rw [h]

theorem sameButWfi.mod {s : State} (n : Nat) : sameButWfi s (s.modCore n (fun c => { c with wfi := false })) := by
  unfold sameButWfi State.modCore
  apply List.ext_getElem
  · simp
  · intro i h1 h2
    simp only [List.getElem_map, List.getElem_modify]
    split <;> rfl

theorem sameButWfi.each {α : Type} (l : List α) (f : State → α → State) (hf : ∀ s x, sameButWfi s (f s x)) (s : State) :
    sameButWfi s (s.each l f) := by
  induction l generalizing s with
  | nil => exact rfl
  | cons x xs ih => exact (hf s x).trans (ih (f s x))

theorem sameButWfi.leaveWfi (s : State) (t : Nat) : sameButWfi s (s.leaveWfi t) := by
  unfold State.leaveWfi State.forN
  have key : ∀ (n k : Nat) (s : State), sameButWfi s (overFrom (fun s n => s.modCore (3 * t + n) (fun c => { c with wfi := false })) s k n) := by
    intro n
    induction n with
    | zero => intro k s; exact rfl
    | succ n ih => intro k s; exact (sameButWfi.mod _).trans (ih (k + 1) _)
  exact key 3 0 s

theorem State.abortEntry_cores {s : State} {u t : Nat} {req} : sameButWfi s (s.abortEntry u t req) := by
  unfold State.abortEntry
  dsimp only
  refine sameButWfi.trans ?_ (sameButWfi.of_cores ((State.powerMirror_keeps (K := 17592186044159) rfl (Keeps.refl _ _)).cores rfl))
  have h1 : ∀ (b : List Nat) (v : State), sameButWfi s v →
      sameButWfi s (if (b.any fun x => decide (x < 2)) = true then v else v.leaveWfi t) := by
    intro b v hv
    split
    · exact hv
    · exact hv.trans (sameButWfi.leaveWfi v t)
  apply h1
  apply sameButWfi.of_cores
  rw [(State.powerRecord_keeps (K := 17592186044159) rfl (Keeps.refl _ _)).cores rfl]
  rw [(State.setf_keeps (K := 17592186044159) rfl (Keeps.refl _ _)).cores rfl]
  refine (State.each_congr (fun s : State => s.cores) req (fun s r => s.inc (Reg.PWR_CNT_ABT r.1)) (fun _ _ => rfl) _).trans ?_
  rw [(State.raise_keeps (K := 17592186044159) rfl (Keeps.refl _ _)).cores rfl]
  refine (State.each_congr (fun s : State => s.cores) _ (fun (s : State) d => if s.power.trans.all (fun x => x.dom ≠ d) then s.setDomain d 0 else s)
    ?_ _).trans rfl
  intro s d
  show State.cores (if _ then _ else _) = _
  split
  · exact (State.setDomain_keeps (K := 17592186044159) rfl (Keeps.refl _ s)).cores rfl
  · rfl

theorem State.wakeTeam_cores {s : State} {u t : Nat} : sameButWfi s (s.wakeTeam u t) := by
  unfold State.wakeTeam
  split
  · split
    · exact State.abortEntry_cores
    · split
      · exact State.abortEntry_cores.trans (sameButWfi.of_cores ((State.raise_keeps (K := 17592186044159) rfl (Keeps.refl _ _)).cores rfl))
      · exact rfl
  · dsimp only
    generalize (List.filter (fun d => decide (s.domainNow d ≠ 0)) ([0] ++ if t = 1 then [1] else [])) = ds
    by_cases hc : (ds.isEmpty || decide (s.domainNow 0 = 2)) = true
    · rw [if_pos hc]; exact rfl
    · rw [if_neg hc]
      apply sameButWfi.of_cores
      rw [(State.powerRecord_keeps (K := 17592186044159) rfl (Keeps.refl _ _)).cores rfl,
        (State.raise_keeps (K := 17592186044159) rfl (Keeps.refl _ _)).cores rfl]

theorem State.irqDeliver_cores {s : State} {t n u : Nat} : sameButWfi s (s.irqDeliver t n u) := by
  unfold State.irqDeliver
  dsimp only
  split
  · exact rfl
  · split
    · exact State.wakeTeam_cores
    · split
      · exact sameButWfi.each _ _ (fun s x => sameButWfi.mod _) s
      · exact rfl

/-- Raising an interrupt changes nothing in the cores but whether they wait. -/
theorem State.irqBy_cores {s : State} {n u : Nat} : sameButWfi s (s.irqBy n u) := by
  unfold State.irqBy
  dsimp only
  generalize hq : s.irqPend.map (fun (l : List Nat) => if l.contains n then l else l ++ [n]) = q
  have h1 : sameButWfi s { s with irqPend := q } := sameButWfi.of_cores rfl
  exact (h1.trans State.irqDeliver_cores).trans State.irqDeliver_cores

theorem sameButWfi.coreAt {s t : State} (h : sameButWfi s t) (c : Nat) :
    { t.coreAt c with wfi := false } = { s.coreAt c with wfi := false } := by
  have e : ∀ u : State, { u.coreAt c with wfi := false } = (u.cores.map (fun c => { c with wfi := false })).getD c {} := by
    intro u
    unfold State.coreAt
    simp only [List.getD_eq_getElem?_getD, List.getElem?_map]
    cases u.cores[c]? <;> rfl
  rw [e, e, h]

end Sys2Proof.Machine
end

