-- ==== Sys2Proof/Laws/KeepsCanterCheck.lean ====
section
/-! SUPPORT. What each operation and each command of Machine/GateOps.lean, Machine/AdcOps.lean, Machine/PaddockOps.lean, Machine/PwmOps.lean, Machine/CanterCheck.lean keeps. -/

set_option linter.unusedVariables false
set_option linter.unusedTactic false
set_option linter.unreachableTactic false

namespace Sys2Proof.Machine

/-! ## GateOps -/

theorem State.modGate_keeps {K : Nat} {s0 s : State} {f} (hK : 524288 ||| K = K) (h : Keeps K s0 s)
    (hf : ∀ g : GateSt, (g.hv.length = 34 ∧ g.lv.length = 29) → (f g).hv.length = 34 ∧ (f g).lv.length = 29) : Keeps K s0 (State.modGate s f) := by
  exact Keeps.set_gate hK h (hf _)

theorem State.setFltBit_keeps {K : Nat} {s0 s : State} {n b} (hK : 2 ||| K = K) (h : Keeps K s0 s) :
    Keeps K s0 (State.setFltBit s n b) := by
  unfold State.setFltBit
  refine Keeps.ite ?_ ?_
  · refine State.setb_keeps (sub_of rfl hK) ?_
    exact h
  · refine State.setb_keeps (sub_of rfl hK) ?_
    exact h

theorem State.latchFault_keeps {K : Nat} {s0 s : State} {n code} (hK : 524290 ||| K = K) (h : Keeps K s0 s) :
    Keeps K s0 (State.latchFault s n code) := by
  unfold State.latchFault
  refine Keeps.ite ?_ ?_
  · refine State.setFltBit_keeps (sub_of rfl hK) ?_
    refine State.setf_keeps (sub_of rfl hK) ?_
    refine Keeps.ite ?_ ?_
    · refine State.dischargeEnd_keeps (sub_of rfl hK) ?_
      exact h
    · exact h
  · refine Keeps.ite ?_ ?_
    · refine State.dischargeEnd_keeps (sub_of rfl hK) ?_
      exact h
    · exact h

theorem State.setHvState_keeps {K : Nat} {s0 s : State} {n v} (hK : 2 ||| K = K) (h : Keeps K s0 s) :
    Keeps K s0 (State.setHvState s n v) := by
  unfold State.setHvState
  refine State.setf_keeps (sub_of rfl hK) ?_
  exact h

theorem State.modLv_keeps {K : Nat} {s0 s : State} {m f} (hK : 524288 ||| K = K) (h : Keeps K s0 s) :
    Keeps K s0 (State.modLv s m f) := by
  unfold State.modLv
  refine State.modGate_keeps (sub_of rfl hK) ?_ (by intro c hc; first | exact hc | simpa using hc | (split <;> simpa using hc))
  exact h

theorem State.lvUpdate_keeps {K : Nat} {s0 s : State} {m} (hK : 524288 ||| K = K) (h : Keeps K s0 s) :
    Keeps K s0 (State.lvUpdate s m) := by
  unfold State.lvUpdate
  refine State.modLv_keeps (sub_of rfl hK) ?_
  exact h

theorem State.lvChannelsRun_keeps {K : Nat} {s0 s : State} (hK : 524290 ||| K = K) (h : Keeps K s0 s) :
    Keeps K s0 (State.lvChannelsRun s) := by
  unfold State.lvChannelsRun
  refine State.forN_keeps ?_ ?_
  · exact h
  · intro s1 _ h2
    refine Keeps.ite ?_ ?_
    · exact h2
    · refine State.lvUpdate_keeps (sub_of rfl hK) ?_
      refine State.setf_keeps (sub_of rfl hK) ?_
      exact h2

theorem State.modHv_keeps {K : Nat} {s0 s : State} {n f} (hK : 524288 ||| K = K) (h : Keeps K s0 s) :
    Keeps K s0 (State.modHv s n f) := by
  unfold State.modHv
  refine State.modGate_keeps (sub_of rfl hK) ?_ (by intro c hc; first | exact hc | simpa using hc | (split <;> simpa using hc))
  exact h

theorem State.hvForceOff_keeps {K : Nat} {s0 s : State} {n} (hK : 524288 ||| K = K) (h : Keeps K s0 s) :
    Keeps K s0 (State.hvForceOff s n) := by
  unfold State.hvForceOff
  refine State.modHv_keeps (sub_of rfl hK) ?_
  exact h

theorem State.setQual_keeps {K : Nat} {s0 s : State} {n v} (hK : 2 ||| K = K) (h : Keeps K s0 s) :
    Keeps K s0 (State.setQual s n v) := by
  unfold State.setQual
  refine State.setf_keeps (sub_of rfl hK) ?_
  exact h

theorem State.clampBin_keeps {K : Nat} {s0 s : State} {n k} (hK : 2 ||| K = K) (h : Keeps K s0 s) :
    Keeps K s0 (State.clampBin s n k) := by
  unfold State.clampBin
  refine State.setf_keeps (sub_of rfl hK) ?_
  refine State.setf_keeps (sub_of rfl hK) ?_
  exact h

theorem State.beginEdge_keeps {K : Nat} {s0 s : State} {n rise} (hK : 524290 ||| K = K) (h : Keeps K s0 s) :
    Keeps K s0 (State.beginEdge s n rise) := by
  unfold State.beginEdge
  refine State.modHv_keeps (sub_of rfl hK) ?_
  refine Keeps.ite ?_ ?_
  · refine State.clampBin_keeps (sub_of rfl hK) ?_
    refine Keeps.ite ?_ ?_
    · refine State.setQual_keeps (sub_of rfl hK) ?_
      exact h
    · exact h
  · refine Keeps.ite ?_ ?_
    · refine State.setQual_keeps (sub_of rfl hK) ?_
      exact h
    · exact h

theorem State.hvCommand_keeps {K : Nat} {s0 s : State} {n on} (hK : 524290 ||| K = K) (h : Keeps K s0 s) :
    Keeps K s0 (State.hvCommand s n on) := by
  unfold State.hvCommand
  refine Keeps.ite ?_ ?_
  · refine State.modHv_keeps (sub_of rfl hK) ?_
    exact h
  · refine Keeps.ite ?_ ?_
    · refine Keeps.ite ?_ ?_
      · refine State.hvForceOff_keeps (sub_of rfl hK) ?_
        refine State.modHv_keeps (sub_of rfl hK) ?_
        exact h
      · refine State.modHv_keeps (sub_of rfl hK) ?_
        exact h
    · refine Keeps.ite ?_ ?_
      · refine State.modHv_keeps (sub_of rfl hK) ?_
        exact h
      · refine Keeps.ite ?_ ?_
        · refine State.modHv_keeps (sub_of rfl hK) ?_
          exact h
        · refine State.beginEdge_keeps (sub_of rfl hK) ?_
          refine State.modHv_keeps (sub_of rfl hK) ?_
          exact h

theorem State.path2Release_keeps {K : Nat} {s0 s : State} {d} (hK : 524290 ||| K = K) (h : Keeps K s0 s) :
    Keeps K s0 (State.path2Release s d) := by
  unfold State.path2Release
  refine State.each_keeps ?_ ?_
  · exact h
  · intro s1 _ h2
    refine State.hvCommand_keeps (sub_of rfl hK) ?_
    refine State.modHv_keeps (sub_of rfl hK) ?_
    exact h2

theorem State.path2Channel_keeps {K : Nat} {s0 s : State} {n} (hK : 524290 ||| K = K) (h : Keeps K s0 s) :
    Keeps K s0 (State.path2Channel s n) := by
  unfold State.path2Channel
  refine Keeps.ite ?_ ?_
  · refine Keeps.ite ?_ ?_
    · refine State.modHv_keeps (sub_of rfl hK) ?_
      exact h
    · refine Keeps.ite ?_ ?_
      · exact h
      · refine State.modHv_keeps (sub_of rfl hK) ?_
        exact h
  · refine State.hvCommand_keeps (sub_of rfl hK) ?_
    refine State.modHv_keeps (sub_of rfl hK) ?_
    exact h

theorem State.path2_keeps {K : Nat} {s0 s : State} {d} (hK : 524290 ||| K = K) (h : Keeps K s0 s) :
    Keeps K s0 (State.path2 s d) := by
  unfold State.path2
  refine State.each_keeps ?_ ?_
  · exact h
  · intro s1 _ h2
    refine State.path2Channel_keeps (sub_of rfl hK) ?_
    exact h2

theorem State.gatesOff_keeps {K : Nat} {s0 s : State} (hK : 524288 ||| K = K) (h : Keeps K s0 s) :
    Keeps K s0 (State.gatesOff s) := by
  unfold State.gatesOff
  refine State.forN_keeps ?_ ?_
  · refine State.forN_keeps ?_ ?_
    · exact h
    · intro s1 _ h2
      refine State.hvForceOff_keeps (sub_of rfl hK) ?_
      exact h2
  · intro s3 _ h4
    refine State.modLv_keeps (sub_of rfl hK) ?_
    exact h4

theorem State.enterPlain_keeps {K : Nat} {s0 s : State} {n} (hK : 524290 ||| K = K) (h : Keeps K s0 s) :
    Keeps K s0 (State.enterPlain s n) := by
  unfold State.enterPlain
  refine Keeps.ite ?_ ?_
  · refine State.setHvState_keeps (sub_of rfl hK) ?_
    refine State.setQual_keeps (sub_of rfl hK) ?_
    exact h
  · refine State.hvCommand_keeps (sub_of rfl hK) ?_
    refine State.setHvState_keeps (sub_of rfl hK) ?_
    refine State.setQual_keeps (sub_of rfl hK) ?_
    exact h

theorem State.gatesOn_keeps {K : Nat} {s0 s : State} (hK : 524290 ||| K = K) (h : Keeps K s0 s) :
    Keeps K s0 (State.gatesOn s) := by
  unfold State.gatesOn
  refine State.forN_keeps ?_ ?_
  · refine State.forN_keeps ?_ ?_
    · exact h
    · intro s1 _ h2
      refine State.hvCommand_keeps (sub_of rfl hK) ?_
      exact h2
  · intro s3 _ h4
    refine State.lvUpdate_keeps (sub_of rfl hK) ?_
    exact h4

/-! ## AdcOps -/

theorem State.urgentAnswer_keeps {K : Nat} {s0 s : State} {q ok} (hK : 8192 ||| K = K) (h : Keeps K s0 s) :
    Keeps K s0 (State.urgentAnswer s q ok) := by
  unfold State.urgentAnswer
  refine Keeps.ite ?_ ?_
  · refine State.modLaw_keeps (sub_of rfl hK) ?_
    exact h
  · exact h

theorem State.urgentRefuse_keeps {K : Nat} {s0 s : State} {u q} (hK : 8194 ||| K = K) (h : Keeps K s0 s) :
    Keeps K s0 (State.urgentRefuse s u q) := by
  unfold State.urgentRefuse
  refine State.urgentAnswer_keeps (sub_of rfl hK) ?_
  refine State.inc_keeps (sub_of rfl hK) ?_
  exact h

theorem State.ttStart_keeps {K : Nat} {s0 s : State} {n} (hK : 4096 ||| K = K) (h : Keeps K s0 s) :
    Keeps K s0 (State.ttStart s n) := by
  unfold State.ttStart
  refine Keeps.ite ?_ ?_
  · refine Keeps.set_tt (sub_of rfl hK) ?_ (fun i => by first | exact i | rfl | simpa using i | (split <;> simpa using i))
    exact h
  · exact h

theorem State.resolverSample_keeps {K : Nat} {s0 s : State} {u k v ovr} (hK : 1048576 ||| K = K) (h : Keeps K s0 s) :
    Keeps K s0 (State.resolverSample s u k v ovr) := by
  unfold State.resolverSample
  split
  · refine Keeps.set_mg (sub_of rfl hK) ?_ (fun i => by first | exact i | rfl | simpa using i | (split <;> simpa using i))
    exact h
  · exact h

theorem State.startCal_keeps {K : Nat} {s0 s : State} {u boot} (hK : 1026 ||| K = K) (h : Keeps K s0 s) :
    Keeps K s0 (State.startCal s u boot) := by
  unfold State.startCal
  refine State.modAu_keeps (sub_of rfl hK) ?_
  refine State.setf_keeps (sub_of rfl hK) ?_
  exact h

theorem State.urgentIssue_keeps {K : Nat} {s0 s : State} {q u k t} (hK : 1024 ||| K = K) (h : Keeps K s0 s) :
    Keeps K s0 (State.urgentIssue s q u k t) := by
  unfold State.urgentIssue
  refine State.modAu_keeps (sub_of rfl hK) ?_
  exact h

theorem State.adcMirror_keeps {K : Nat} {s0 s : State} {u} (hK : 2 ||| K = K) (h : Keeps K s0 s) :
    Keeps K s0 (State.adcMirror s u) := by
  unfold State.adcMirror
  refine State.setf_keeps (sub_of rfl hK) ?_
  refine State.setb_keeps (sub_of rfl hK) ?_
  refine State.setb_keeps (sub_of rfl hK) ?_
  refine State.setb_keeps (sub_of rfl hK) ?_
  exact h

theorem State.adcStop_keeps {K : Nat} {s0 s : State} {u} (hK : 1026 ||| K = K) (h : Keeps K s0 s) :
    Keeps K s0 (State.adcStop s u) := by
  unfold State.adcStop
  refine State.adcMirror_keeps (sub_of rfl hK) ?_
  refine State.setf_keeps (sub_of rfl hK) ?_
  refine State.modAu_keeps (sub_of rfl hK) ?_
  exact h

theorem State.setPending_keeps {K : Nat} {s0 s : State} {u t b} (hK : 2 ||| K = K) (h : Keeps K s0 s) :
    Keeps K s0 (State.setPending s u t b) := by
  unfold State.setPending
  refine State.setb_keeps (sub_of rfl hK) ?_
  exact h

theorem State.countWaiting_keeps {K : Nat} {s0 s : State} {u e} (hK : 1026 ||| K = K) (h : Keeps K s0 s) :
    Keeps K s0 (State.countWaiting s u e) := by
  unfold State.countWaiting
  refine State.forN_keeps ?_ ?_
  · exact h
  · intro s1 _ h2
    refine Keeps.ite ?_ ?_
    · refine State.modAu_keeps (sub_of rfl hK) ?_
      refine State.inc_keeps (sub_of rfl hK) ?_
      exact h2
    · exact h2

theorem State.startSampling_keeps {K : Nat} {s0 s : State} {u smp e c} (hK : 1026 ||| K = K) (h : Keeps K s0 s) :
    Keeps K s0 (State.startSampling s u smp e c) := by
  unfold State.startSampling
  refine State.adcMirror_keeps (sub_of rfl hK) ?_
  refine State.modAu_keeps (sub_of rfl hK) ?_
  exact h

theorem State.startEntry_keeps {K : Nat} {s0 s : State} {u k slot by_ e} (hK : 1026 ||| K = K) (h : Keeps K s0 s) :
    Keeps K s0 (State.startEntry s u k slot by_ e) := by
  unfold State.startEntry
  refine State.startSampling_keeps (sub_of rfl hK) ?_
  exact h

theorem State.joinDeliver_keeps {K : Nat} {s0 s : State} {k u} (hK : 10242 ||| K = K) (h : Keeps K s0 s) :
    Keeps K s0 (State.joinDeliver s k u) := by
  unfold State.joinDeliver
  refine Keeps.ite ?_ ?_
  · refine State.inc_keeps (sub_of rfl hK) ?_
    exact h
  · refine Keeps.ite ?_ ?_
    · refine State.lawSource_keeps (sub_of rfl hK) ?_
      refine Keeps.set_joins (sub_of rfl hK) ?_ (fun i => by first | exact i | rfl | simpa using i | (split <;> simpa using i))
      exact h
    · refine Keeps.set_joins (sub_of rfl hK) ?_ (fun i => by first | exact i | rfl | simpa using i | (split <;> simpa using i))
      exact h

theorem State.sequenceComplete_keeps {K : Nat} {s0 s : State} {u t} (hK : 11266 ||| K = K) (h : Keeps K s0 s) :
    Keeps K s0 (State.sequenceComplete s u t) := by
  unfold State.sequenceComplete
  refine Keeps.ite ?_ ?_
  · refine State.joinDeliver_keeps (sub_of rfl hK) ?_
    refine State.lawSource_keeps (sub_of rfl hK) ?_
    refine State.modAu_keeps (sub_of rfl hK) ?_
    exact h
  · refine State.lawSource_keeps (sub_of rfl hK) ?_
    refine State.modAu_keeps (sub_of rfl hK) ?_
    exact h

theorem State.startTest_keeps {K : Nat} {s0 s : State} {u} (hK : 1026 ||| K = K) (h : Keeps K s0 s) :
    Keeps K s0 (State.startTest s u) := by
  unfold State.startTest
  refine Keeps.ite ?_ ?_
  · exact h
  · refine State.startSampling_keeps (sub_of rfl hK) ?_
    exact h

theorem State.ttSync_keeps {K : Nat} {s0 s : State} {kind g} (hK : 4096 ||| K = K) (h : Keeps K s0 s) :
    Keeps K s0 (State.ttSync s kind g) := by
  unfold State.ttSync
  refine State.forN_keeps ?_ ?_
  · exact h
  · intro s1 _ h2
    refine Keeps.ite ?_ ?_
    · refine Keeps.set_tt (sub_of rfl hK) ?_ (fun i => by first | exact i | rfl | simpa using i | (split <;> simpa using i))
      exact h2
    · exact h2

theorem State.adcSkew_keeps {K : Nat} {s0 s : State} (hK : 128 ||| K = K) (h : Keeps K s0 s) :
    Keeps K s0 (State.adcSkew s).2 := by
  unfold State.adcSkew
  split
  · exact h
  · refine State.drawWord_keeps (sub_of rfl hK) ?_
    exact h

theorem State.slotTrigger_keeps {K : Nat} {s0 s : State} {u t} (hK : 1154 ||| K = K) (h : Keeps K s0 s) :
    Keeps K s0 (State.slotTrigger s u t) := by
  unfold State.slotTrigger
  refine Keeps.ite ?_ ?_
  · exact h
  · refine Keeps.ite ?_ ?_
    · refine State.inc_keeps (sub_of rfl hK) ?_
      exact h
    · refine State.modAu_keeps (sub_of rfl hK) ?_
      refine State.adcSkew_keeps (sub_of rfl hK) ?_
      exact h

theorem State.adcEvent_keeps {K : Nat} {s0 s : State} {kind idx} (hK : 1154 ||| K = K) (h : Keeps K s0 s) :
    Keeps K s0 (State.adcEvent s kind idx) := by
  unfold State.adcEvent
  refine State.forN_keeps ?_ ?_
  · exact h
  · intro s1 _ h2
    refine State.forN_keeps ?_ ?_
    · exact h2
    · intro s3 _ h4
      refine Keeps.ite ?_ ?_
      · refine State.slotTrigger_keeps (sub_of rfl hK) ?_
        exact h4
      · exact h4

theorem State.startUrgent_keeps {K : Nat} {s0 s : State} {u q e} (hK : 1026 ||| K = K) (h : Keeps K s0 s) :
    Keeps K s0 (State.startUrgent s u q e) := by
  unfold State.startUrgent
  refine State.countWaiting_keeps (sub_of rfl hK) ?_
  refine State.startEntry_keeps (sub_of rfl hK) ?_
  exact h

theorem State.adcContinue_keeps {K : Nat} {s0 s : State} {u e} (hK : 1026 ||| K = K) (h : Keeps K s0 s) :
    Keeps K s0 (State.adcContinue s u e) := by
  unfold State.adcContinue
  try dsimp only
  try dsimp only
  split
  · refine State.startUrgent_keeps (sub_of rfl hK) ?_
    refine State.modAu_keeps (sub_of rfl hK) ?_
    refine State.modAu_keeps (sub_of rfl hK) ?_
    exact h
  · refine Keeps.ite ?_ ?_
    · refine State.adcMirror_keeps (sub_of rfl hK) ?_
      refine State.modAu_keeps (sub_of rfl hK) ?_
      exact h
    · split
      · refine State.startEntry_keeps (sub_of rfl hK) ?_
        refine State.modAu_keeps (sub_of rfl hK) ?_
        exact h
      · refine State.adcMirror_keeps (sub_of rfl hK) ?_
        refine State.modAu_keeps (sub_of rfl hK) ?_
        exact h

theorem State.urgentEffect_keeps {K : Nat} {s0 s : State} {u q e} (hK : 9218 ||| K = K) (h : Keeps K s0 s) :
    Keeps K s0 (State.urgentEffect s u q e) := by
  unfold State.urgentEffect
  refine Keeps.ite ?_ ?_
  · refine State.modAu_keeps (sub_of rfl hK) ?_
    exact h
  · refine Keeps.ite ?_ ?_
    · refine Keeps.ite ?_ ?_
      · refine State.adcContinue_keeps (sub_of rfl hK) ?_
        refine State.setf_keeps (sub_of rfl hK) ?_
        refine State.urgentRefuse_keeps (sub_of rfl hK) ?_
        refine State.modAu_keeps (sub_of rfl hK) ?_
        exact h
      · refine State.setf_keeps (sub_of rfl hK) ?_
        refine State.urgentRefuse_keeps (sub_of rfl hK) ?_
        refine State.modAu_keeps (sub_of rfl hK) ?_
        exact h
    · split
      · refine State.startUrgent_keeps (sub_of rfl hK) ?_
        refine State.modAu_keeps (sub_of rfl hK) ?_
        exact h
      · refine Keeps.ite ?_ ?_
        · refine Keeps.ite ?_ ?_
          · refine State.adcMirror_keeps (sub_of rfl hK) ?_
            refine State.inc_keeps (sub_of rfl hK) ?_
            refine State.modAu_keeps (sub_of rfl hK) ?_
            refine State.modAu_keeps (sub_of rfl hK) ?_
            exact h
          · refine State.urgentRefuse_keeps (sub_of rfl hK) ?_
            refine State.modAu_keeps (sub_of rfl hK) ?_
            exact h
        · refine State.startUrgent_keeps (sub_of rfl hK) ?_
          refine State.inc_keeps (sub_of rfl hK) ?_
          refine State.modAu_keeps (sub_of rfl hK) ?_
          exact h

/-! ## PaddockOps -/

theorem State.modPaddock_keeps {K : Nat} {s0 s : State} {f} (hK : 512 ||| K = K) (h : Keeps K s0 s) :
    Keeps K s0 (State.modPaddock s f) := by
  unfold State.modPaddock
  refine Keeps.set_paddock (sub_of rfl hK) ?_
  exact h

theorem State.bankAsk_keeps {K : Nat} {s0 s : State} {sig t k} (hK : 640 ||| K = K) (h : Keeps K s0 s) :
    Keeps K s0 (State.bankAsk s sig t k) := by
  have ha : ∀ u, Keeps K s0 u → Keeps K s0 (u.modPaddock (fun p => { p with waiting := p.waiting ++ [{ sig := sig, req := t, kind := k }] })) :=
    fun u hu => State.modPaddock_keeps (sub_of rfl hK) hu
  exact Keeps.ite (ha s h) (State.freeTimes_keeps (sub_of rfl hK) h ha)

theorem State.recordWrite_keeps {K : Nat} {s0 s : State} {k bs} (hK : 16 ||| K = K) (h : Keeps K s0 s) :
    Keeps K s0 (State.recordWrite s k bs) := by
  unfold State.recordWrite
  refine State.sramWrite_keeps (sub_of rfl hK) ?_
  exact h

theorem State.recordEnd_keeps {K : Nat} {s0 s : State} {late} (hK : 530 ||| K = K) (h : Keeps K s0 s) :
    Keeps K s0 (State.recordEnd s late) := by
  unfold State.recordEnd
  refine Keeps.ite ?_ ?_
  · refine State.setf_keeps (sub_of rfl hK) ?_
    refine State.setf_keeps (sub_of rfl hK) ?_
    refine State.modPaddock_keeps (sub_of rfl hK) ?_
    refine State.setf_keeps (sub_of rfl hK) ?_
    refine State.recordWrite_keeps (sub_of rfl hK) ?_
    exact h
  · refine State.modPaddock_keeps (sub_of rfl hK) ?_
    refine State.setf_keeps (sub_of rfl hK) ?_
    refine State.recordWrite_keeps (sub_of rfl hK) ?_
    exact h

theorem State.recordAsk_keeps {K : Nat} {s0 s : State} {k} (hK : 640 ||| K = K) (h : Keeps K s0 s) :
    Keeps K s0 (State.recordAsk s k) := by
  unfold State.recordAsk
  refine State.bankAsk_keeps (sub_of rfl hK) ?_
  exact h

theorem State.recordStart_keeps {K : Nat} {s0 s : State} (hK : 658 ||| K = K) (h : Keeps K s0 s) :
    Keeps K s0 (State.recordStart s) := by
  unfold State.recordStart
  refine Keeps.ite ?_ ?_
  · refine State.recordEnd_keeps (sub_of rfl hK) ?_
    refine State.recordWrite_keeps (sub_of rfl hK) ?_
    refine State.wr_keeps (sub_of rfl hK) ?_
    refine State.modPaddock_keeps (sub_of rfl hK) ?_
    exact h
  · refine State.recordAsk_keeps (sub_of rfl hK) ?_
    refine State.recordWrite_keeps (sub_of rfl hK) ?_
    refine State.wr_keeps (sub_of rfl hK) ?_
    refine State.modPaddock_keeps (sub_of rfl hK) ?_
    exact h

theorem State.recordBoundary_keeps {K : Nat} {s0 s : State} (hK : 658 ||| K = K) (h : Keeps K s0 s) :
    Keeps K s0 (State.recordBoundary s) := by
  unfold State.recordBoundary
  refine Keeps.ite ?_ ?_
  · refine Keeps.ite ?_ ?_
    · refine State.recordStart_keeps (sub_of rfl hK) ?_
      refine State.recordEnd_keeps (sub_of rfl hK) ?_
      exact h
    · refine Keeps.ite ?_ ?_
      · refine State.recordStart_keeps (sub_of rfl hK) ?_
        exact h
      · refine State.modPaddock_keeps (sub_of rfl hK) ?_
        exact h
  · exact h

theorem State.recordAtMs_keeps {K : Nat} {s0 s : State} (hK : 658 ||| K = K) (h : Keeps K s0 s) :
    Keeps K s0 (State.recordAtMs s) := by
  unfold State.recordAtMs
  refine Keeps.ite ?_ ?_
  · refine State.recordBoundary_keeps (sub_of rfl hK) ?_
    exact h
  · exact h

theorem State.sweepNext_keeps {K : Nat} {s0 s : State} {b t} (hK : 640 ||| K = K) (h : Keeps K s0 s) :
    Keeps K s0 (State.sweepNext s b t) := by
  unfold State.sweepNext
  split
  · exact h
  · refine State.bankAsk_keeps (sub_of rfl hK) ?_
    refine State.modPaddock_keeps (sub_of rfl hK) ?_
    exact h

theorem State.staleSweep_keeps {K : Nat} {s0 s : State} (hK : 640 ||| K = K) (h : Keeps K s0 s) :
    Keeps K s0 (State.staleSweep s) := by
  unfold State.staleSweep
  refine State.each_keeps ?_ ?_
  · refine State.modPaddock_keeps (sub_of rfl hK) ?_
    exact h
  · intro s1 _ h2
    refine State.sweepNext_keeps (sub_of rfl hK) ?_
    exact h2

theorem State.recordAtLoad_keeps {K : Nat} {s0 s : State} {g} (hK : 658 ||| K = K) (h : Keeps K s0 s) :
    Keeps K s0 (State.recordAtLoad s g) := by
  unfold State.recordAtLoad
  refine Keeps.ite ?_ ?_
  · refine State.recordBoundary_keeps (sub_of rfl hK) ?_
    exact h
  · exact h

theorem State.recordCopy_keeps {K : Nat} {s0 s : State} {k id} (hK : 658 ||| K = K) (h : Keeps K s0 s) :
    Keeps K s0 (State.recordCopy s k id) := by
  unfold State.recordCopy
  refine Keeps.ite ?_ ?_
  · refine State.recordAsk_keeps (sub_of rfl hK) ?_
    refine State.modPaddock_keeps (sub_of rfl hK) ?_
    refine State.recordWrite_keeps (sub_of rfl hK) ?_
    exact h
  · refine State.recordEnd_keeps (sub_of rfl hK) ?_
    refine State.modPaddock_keeps (sub_of rfl hK) ?_
    refine State.recordWrite_keeps (sub_of rfl hK) ?_
    exact h

theorem State.sweepSignal_keeps {K : Nat} {s0 s : State} {id} (hK : 4 ||| K = K) (h : Keeps K s0 s) :
    Keeps K s0 (State.sweepSignal s id) := by
  unfold State.sweepSignal
  try dsimp only
  split
  · exact h
  · refine Keeps.ite ?_ ?_
    · refine State.setSig_keeps (sub_of rfl hK) ?_
      exact h
    · exact h

theorem State.recordStop_keeps {K : Nat} {s0 s : State} (hK : 512 ||| K = K) (h : Keeps K s0 s) :
    Keeps K s0 (State.recordStop s) := by
  unfold State.recordStop
  refine State.modPaddock_keeps (sub_of rfl hK) ?_
  exact h

theorem State.recordControl_keeps {K : Nat} {s0 s : State} {v} (hK : 514 ||| K = K) (h : Keeps K s0 s) :
    Keeps K s0 (State.recordControl s v) := by
  unfold State.recordControl
  refine Keeps.ite ?_ ?_
  · refine State.wrReg_keeps (sub_of rfl hK) ?_
    exact h
  · refine Keeps.ite ?_ ?_
    · exact h
    · refine State.recordStop_keeps (sub_of rfl hK) ?_
      refine State.setf_keeps (sub_of rfl hK) ?_
      exact h

/-! ## PwmOps -/

theorem State.commandEdge_keeps {K : Nat} {s0 s : State} {g lvl t} (hK : 16384 ||| K = K) (h : Keeps K s0 s) :
    Keeps K s0 (State.commandEdge s g lvl t) := by
  unfold State.commandEdge
  refine Keeps.ite ?_ ?_
  · exact h
  · refine Keeps.ite ?_ ?_
    · refine Keeps.ite ?_ ?_
      · refine State.hiOn_keeps (sub_of rfl hK) ?_
        exact h
      · refine State.hiOff_keeps (sub_of rfl hK) ?_
        exact h
    · refine Keeps.ite ?_ ?_
      · refine State.modPg_keeps (sub_of rfl hK) ?_
        refine State.loOff_keeps (sub_of rfl hK) ?_
        exact h
      · refine State.modPg_keeps (sub_of rfl hK) ?_
        refine State.hiOff_keeps (sub_of rfl hK) ?_
        exact h

theorem State.resolverLock_keeps {K : Nat} {s0 s : State} {g} (hK : 2 ||| K = K) (h : Keeps K s0 s) :
    Keeps K s0 (State.resolverLock s g) := by
  unfold State.resolverLock
  refine State.forN_keeps ?_ ?_
  · exact h
  · intro s1 _ h2
    refine Keeps.ite ?_ ?_
    · refine State.setb_keeps (sub_of rfl hK) ?_
      exact h2
    · exact h2

theorem State.pwmErr_keeps {K : Nat} {s0 s : State} {g} (hK : 2 ||| K = K) (h : Keeps K s0 s) :
    Keeps K s0 (State.pwmErr s g) := by
  unfold State.pwmErr
  refine State.setf_keeps (sub_of rfl hK) ?_
  exact h

theorem State.genStart_keeps {K : Nat} {s0 s : State} {g t} (hK : 16386 ||| K = K) (h : Keeps K s0 s) :
    Keeps K s0 (State.genStart s g t) := by
  unfold State.genStart
  try dsimp only
  refine State.modPg_keeps (sub_of rfl hK) ?_
  refine State.modPg_keeps (sub_of rfl hK) ?_
  refine State.wr_keeps (sub_of rfl hK) ?_
  refine State.wr_keeps (sub_of rfl hK) ?_
  refine State.setf_keeps (sub_of rfl hK) ?_
  refine State.setf_keeps (sub_of rfl hK) ?_
  exact h

theorem State.setShadow_keeps {K : Nat} {s0 s : State} {g k v} (hK : 16386 ||| K = K) (h : Keeps K s0 s) :
    Keeps K s0 (State.setShadow s g k v) := by
  unfold State.setShadow
  refine State.wr_keeps (sub_of rfl hK) ?_
  refine State.modPg_keeps (sub_of rfl hK) ?_
  exact h

theorem State.floatTake_keeps {K : Nat} {s0 s : State} {g base w f} (hK : 2 ||| K = K) (h : Keeps K s0 s) :
    Keeps K s0 (State.floatTake s g base w f).1 := by
  unfold State.floatTake
  split
  · exact h
  · dsimp only
    split
    · exact h
    · split
      · exact State.setf_keeps (sub_of rfl hK) h
      · split
        · exact State.setf_keeps (sub_of rfl hK) h
        · exact h

theorem State.floatApply_keeps {K : Nat} {s0 s : State} {g} (hK : 524290 ||| K = K) (h : Keeps K s0 s) :
    Keeps K s0 (State.floatApply s g) := by
  unfold State.floatApply
  refine Keeps.ite ?_ ?_
  · refine State.forN_keeps ?_ ?_
    · refine Keeps.ite ?_ ?_
      · refine State.modGate_keeps (sub_of rfl hK) ?_ (by intro c hc; first | exact hc | simpa using hc | (split <;> simpa using hc))
        refine State.floatTake_keeps (sub_of rfl hK) ?_
        exact h
      · refine State.floatTake_keeps (sub_of rfl hK) ?_
        exact h
    · intro s1 _ h2
      refine State.lvUpdate_keeps (sub_of rfl hK) ?_
      exact h2
  · refine Keeps.ite ?_ ?_
    · refine State.forN_keeps ?_ ?_
      · refine Keeps.ite ?_ ?_
        · refine State.modGate_keeps (sub_of rfl hK) ?_ (by intro c hc; first | exact hc | simpa using hc | (split <;> simpa using hc))
          refine State.floatTake_keeps (sub_of rfl hK) ?_
          exact h
        · refine State.floatTake_keeps (sub_of rfl hK) ?_
          exact h
      · intro s3 _ h4
        refine State.lvUpdate_keeps (sub_of rfl hK) ?_
        exact h4
    · exact h

theorem State.loadCompares_keeps {K : Nat} {s0 s : State} {g} (hK : 2 ||| K = K) (h : Keeps K s0 s) :
    Keeps K s0 (State.loadCompares s g) := by
  unfold State.loadCompares
  refine State.wr_keeps (sub_of rfl hK) ?_
  refine State.wr_keeps (sub_of rfl hK) ?_
  exact h

theorem State.loadPoint_keeps {K : Nat} {s0 s : State} {g} (hK : 533138 ||| K = K) (h : Keeps K s0 s) :
    Keeps K s0 (State.loadPoint s g) := by
  unfold State.loadPoint
  refine State.floatApply_keeps (sub_of rfl hK) ?_
  refine State.recordAtLoad_keeps (sub_of rfl hK) ?_
  refine State.frames_keeps (sub_of rfl hK) ?_
  refine State.loadCompares_keeps (sub_of rfl hK) ?_
  exact h

theorem State.gaitHandover_keeps {K : Nat} {s0 s : State} {g} (hK : 2 ||| K = K) (h : Keeps K s0 s) :
    Keeps K s0 (State.gaitHandover s g) := by
  unfold State.gaitHandover
  refine Keeps.ite ?_ ?_
  · refine State.each_keeps ?_ ?_
    · exact h
    · intro s1 _ h2
      refine State.setHvState_keeps (sub_of rfl hK) ?_
      exact h2
  · exact h

theorem State.setR_keeps {K : Nat} {s0 s : State} {g lvl t} (hK : 16384 ||| K = K) (h : Keeps K s0 s) :
    Keeps K s0 (State.setR s g lvl t) := by
  unfold State.setR
  refine State.modPg_keeps (sub_of rfl hK) ?_
  exact h

theorem State.refEdge_keeps {K : Nat} {s0 s : State} {g lvl t endT} (hK : 16386 ||| K = K) (h : Keeps K s0 s) :
    Keeps K s0 (State.refEdge s g lvl t endT) := by
  unfold State.refEdge
  refine Keeps.ite ?_ ?_
  · refine State.setR_keeps (sub_of rfl hK) ?_
    exact h
  · refine Keeps.ite ?_ ?_
    · refine State.inc_keeps (sub_of rfl hK) ?_
      refine State.modPg_keeps (sub_of rfl hK) ?_
      exact h
    · refine Keeps.ite ?_ ?_
      · refine State.inc_keeps (sub_of rfl hK) ?_
        refine State.modPg_keeps (sub_of rfl hK) ?_
        refine State.setR_keeps (sub_of rfl hK) ?_
        refine State.commandEdge_keeps (sub_of rfl hK) ?_
        exact h
      · refine State.setR_keeps (sub_of rfl hK) ?_
        refine State.commandEdge_keeps (sub_of rfl hK) ?_
        exact h

theorem State.courseEdge_keeps {K : Nat} {s0 s : State} {g t} (hK : 16386 ||| K = K) (h : Keeps K s0 s) :
    Keeps K s0 (State.courseEdge s g t) := by
  unfold State.courseEdge
  refine Keeps.ite ?_ ?_
  · refine State.inc_keeps (sub_of rfl hK) ?_
    refine State.modPg_keeps (sub_of rfl hK) ?_
    exact h
  · refine State.refEdge_keeps (sub_of rfl hK) ?_
    exact h

theorem State.cotFell_keeps {K : Nat} {s0 s : State} {g t} (hK : 16384 ||| K = K) (h : Keeps K s0 s) :
    Keeps K s0 (State.cotFell s g t) := by
  unfold State.cotFell
  refine Keeps.ite ?_ ?_
  · refine State.modPg_keeps (sub_of rfl hK) ?_
    exact h
  · exact h

theorem State.cotRise_keeps {K : Nat} {s0 s : State} {g} (hK : 16386 ||| K = K) (h : Keeps K s0 s) :
    Keeps K s0 (State.cotRise s g) := by
  unfold State.cotRise
  refine Keeps.ite ?_ ?_
  · refine Keeps.ite ?_ ?_
    · refine State.cotFell_keeps (sub_of rfl hK) ?_
      refine State.refEdge_keeps (sub_of rfl hK) ?_
      refine State.modPg_keeps (sub_of rfl hK) ?_
      exact h
    · refine State.modPg_keeps (sub_of rfl hK) ?_
      exact h
  · refine Keeps.ite ?_ ?_
    · refine Keeps.ite ?_ ?_
      · refine State.modPg_keeps (sub_of rfl hK) ?_
        exact h
      · refine State.refEdge_keeps (sub_of rfl hK) ?_
        refine State.modPg_keeps (sub_of rfl hK) ?_
        exact h
    · refine Keeps.ite ?_ ?_
      · refine State.modPg_keeps (sub_of rfl hK) ?_
        refine State.modPg_keeps (sub_of rfl hK) ?_
        exact h
      · refine Keeps.ite ?_ ?_
        · refine State.modPg_keeps (sub_of rfl hK) ?_
          refine State.refEdge_keeps (sub_of rfl hK) ?_
          refine State.modPg_keeps (sub_of rfl hK) ?_
          refine State.modPg_keeps (sub_of rfl hK) ?_
          exact h
        · refine State.modPg_keeps (sub_of rfl hK) ?_
          refine State.refEdge_keeps (sub_of rfl hK) ?_
          refine State.modPg_keeps (sub_of rfl hK) ?_
          refine State.modPg_keeps (sub_of rfl hK) ?_
          exact h

theorem State.tripResume_keeps {K : Nat} {s0 s : State} {g} (hK : 16386 ||| K = K) (h : Keeps K s0 s) :
    Keeps K s0 (State.tripResume s g) := by
  unfold State.tripResume
  refine Keeps.ite ?_ ?_
  · refine Keeps.ite ?_ ?_
    · refine Keeps.ite ?_ ?_
      · refine State.hiOn_keeps (sub_of rfl hK) ?_
        refine State.setf_keeps (sub_of rfl hK) ?_
        exact h
      · refine State.hiOff_keeps (sub_of rfl hK) ?_
        refine State.setf_keeps (sub_of rfl hK) ?_
        exact h
    · refine Keeps.ite ?_ ?_
      · refine State.modPg_keeps (sub_of rfl hK) ?_
        refine State.loOff_keeps (sub_of rfl hK) ?_
        refine State.setf_keeps (sub_of rfl hK) ?_
        exact h
      · refine State.modPg_keeps (sub_of rfl hK) ?_
        refine State.hiOff_keeps (sub_of rfl hK) ?_
        refine State.setf_keeps (sub_of rfl hK) ?_
        exact h
  · exact h

theorem State.adoptMapping_keeps {K : Nat} {s0 s : State} {g} (hK : 16384 ||| K = K) (h : Keeps K s0 s) :
    Keeps K s0 (State.adoptMapping s g) := by
  unfold State.adoptMapping
  refine Keeps.ite ?_ ?_
  · refine State.modPg_keeps (sub_of rfl hK) ?_
    exact h
  · exact h

theorem State.periodStartOne_keeps {K : Nat} {s0 s : State} {g} (hK : 554642 ||| K = K) (h : Keeps K s0 s) :
    Keeps K s0 (State.periodStartOne s g) := by
  unfold State.periodStartOne
  refine State.ttSync_keeps (sub_of rfl hK) ?_
  refine State.adcEvent_keeps (sub_of rfl hK) ?_
  refine State.resolverLock_keeps (sub_of rfl hK) ?_
  refine State.gaitHandover_keeps (sub_of rfl hK) ?_
  refine Keeps.ite ?_ ?_
  · refine State.cotRise_keeps (sub_of rfl hK) ?_
    refine State.adoptMapping_keeps (sub_of rfl hK) ?_
    refine State.tripResume_keeps (sub_of rfl hK) ?_
    refine Keeps.ite ?_ ?_
    · refine State.loadPoint_keeps (sub_of rfl hK) ?_
      refine State.modPg_keeps (sub_of rfl hK) ?_
      refine State.modPg_keeps (sub_of rfl hK) ?_
      exact h
    · refine State.modPg_keeps (sub_of rfl hK) ?_
      refine State.modPg_keeps (sub_of rfl hK) ?_
      exact h
  · refine State.adoptMapping_keeps (sub_of rfl hK) ?_
    refine State.tripResume_keeps (sub_of rfl hK) ?_
    refine Keeps.ite ?_ ?_
    · refine State.loadPoint_keeps (sub_of rfl hK) ?_
      refine State.modPg_keeps (sub_of rfl hK) ?_
      refine State.modPg_keeps (sub_of rfl hK) ?_
      exact h
    · refine State.modPg_keeps (sub_of rfl hK) ?_
      refine State.modPg_keeps (sub_of rfl hK) ?_
      exact h

theorem State.syncMove_keeps {K : Nat} {s0 s : State} {k} (hK : 16386 ||| K = K) (h : Keeps K s0 s) :
    Keeps K s0 (State.syncMove s k).1 := by
  unfold State.syncMove
  try dsimp only
  split
  · exact h
  · refine State.modPg_keeps (sub_of rfl hK) ?_
    refine State.inc_keeps (sub_of rfl hK) ?_
    exact h

theorem State.periodStart_keeps {K : Nat} {s0 s : State} {n g} (hK : 554642 ||| K = K) (h : Keeps K s0 s) :
    Keeps K s0 (State.periodStart s n g) := by
  induction n generalizing s g with
  | zero => exact State.periodStartOne_keeps (sub_of rfl hK) h
  | succ n ih =>
    refine State.each_keeps (State.periodStartOne_keeps (sub_of rfl hK) h) (fun s1 k h1 => ?_)
    have h2 : Keeps K s0 (s1.syncMove k).1 := State.syncMove_keeps (sub_of rfl hK) h1
    exact Keeps.ite (ih h2) h2

theorem State.cotStart_keeps {K : Nat} {s0 s : State} {g} (hK : 554642 ||| K = K) (h : Keeps K s0 s) :
    Keeps K s0 (State.cotStart s g) := by
  unfold State.cotStart
  refine Keeps.ite ?_ ?_
  · refine Keeps.ite ?_ ?_
    · refine State.periodStart_keeps (sub_of rfl hK) ?_
      exact h
    · refine Keeps.ite ?_ ?_
      · refine State.inc_keeps (sub_of rfl hK) ?_
        exact h
      · refine State.modPg_keeps (sub_of rfl hK) ?_
        exact h
  · exact h

theorem State.cotFrom_keeps {K : Nat} {s0 s : State} {g} (hK : 554642 ||| K = K) (h : Keeps K s0 s) :
    Keeps K s0 (State.cotFrom s g) := by
  unfold State.cotFrom
  refine State.forN_keeps ?_ ?_
  · exact h
  · intro s1 _ h2
    refine Keeps.ite ?_ ?_
    · refine State.cotStart_keeps (sub_of rfl hK) ?_
      exact h2
    · exact h2

/-! ## CanterCheck -/

theorem State.lawStart_keeps {K : Nat} {s0 s : State} {e l} (hK : 8194 ||| K = K) (h : Keeps K s0 s) :
    Keeps K s0 (State.lawStart s e l) := by
  unfold State.lawStart
  refine State.modLaw_keeps (sub_of rfl hK) ?_
  refine State.modCe_keeps (sub_of rfl hK) ?_ (by intro c hc; first | exact hc | simpa using hc | (split <;> simpa using hc))
  refine State.setOwned_keeps (sub_of rfl hK) ?_
  refine State.setf_keeps (sub_of rfl hK) ?_
  refine State.setf_keeps (sub_of rfl hK) ?_
  exact h

theorem State.setSeg_keeps {K : Nat} {s0 s : State} {e l i_} (hK : 8192 ||| K = K) (h : Keeps K s0 s) :
    Keeps K s0 (State.setSeg s e l i_) := by
  unfold State.setSeg
  refine State.modLaw_keeps (sub_of rfl hK) ?_
  exact h

end Sys2Proof.Machine
end

