-- ==== Sys2Proof/Laws/KeepsGates.lean ====
section
/-! SUPPORT. What each operation and each command of Machine/CanterOps.lean, Machine/Production.lean, Machine/Laws.lean, Machine/BridleOps.lean, Machine/Gates.lean keeps. -/

set_option linter.unusedVariables false
set_option linter.unusedTactic false
set_option linter.unreachableTactic false

namespace Sys2Proof.Machine

/-! ## CanterOps -/

theorem State.modSec_keeps {K : Nat} {s0 s : State} {e l f} (hK : 8192 ||| K = K) (h : Keeps K s0 s) :
    Keeps K s0 (State.modSec s e l f) := by
  unfold State.modSec
  refine State.modLaw_keeps (sub_of rfl hK) ?_
  exact h

theorem State.awaitRegs_keeps {K : Nat} {s0 s : State} {e l ds} (hK : 8192 ||| K = K) (h : Keeps K s0 s) :
    Keeps K s0 (State.awaitRegs s e l ds) := by
  unfold State.awaitRegs
  refine State.modSec_keeps (sub_of rfl hK) ?_
  exact h

theorem State.present_keeps {K : Nat} {s0 s : State} {e sig t k} (hK : 8832 ||| K = K) (h : Keeps K s0 s) :
    Keeps K s0 (State.present s e sig t k) := by
  unfold State.present
  refine State.bankAsk_keeps (sub_of rfl hK) ?_
  refine State.modCe_keeps (sub_of rfl hK) ?_ (by intro c hc; first | exact hc | simpa using hc | (split <;> simpa using hc))
  exact h

theorem State.writeOutputs_keeps {K : Nat} {s0 s : State} {e l outs} (hK : 24578 ||| K = K) (h : Keeps K s0 s) :
    Keeps K s0 (State.writeOutputs s e l outs) := by
  unfold State.writeOutputs
  refine Keeps.ite ?_ ?_
  · exact h
  · refine State.forN_keeps ?_ ?_
    · refine State.modLaw_keeps (sub_of rfl hK) ?_
      exact h
    · intro s1 _ h2
      split
      · refine State.setShadow_keeps (sub_of rfl hK) ?_
        exact h2
      · exact h2

theorem State.commitBank_keeps {K : Nat} {s0 s : State} {e l sel} (hK : 8192 ||| K = K) (h : Keeps K s0 s) :
    Keeps K s0 (State.commitBank s e l sel) := by
  unfold State.commitBank
  refine State.modCe_keeps (sub_of rfl hK) ?_ (by intro c hc; first | exact hc | simpa using hc | (split <;> simpa using hc))
  exact h

theorem State.snapTags_keeps {K : Nat} {s0 s : State} {e l} (hK : 8192 ||| K = K) (h : Keeps K s0 s) :
    Keeps K s0 (State.snapTags s e l) := by
  unfold State.snapTags
  refine State.modCe_keeps (sub_of rfl hK) ?_ (by intro c hc; first | exact hc | simpa using hc | (split <;> simpa using hc))
  exact h

theorem State.completeRun_keeps {K : Nat} {s0 s : State} {e l c t} (hK : 8834 ||| K = K) (h : Keeps K s0 s) :
    Keeps K s0 (State.completeRun s e l c t) := by
  unfold State.completeRun
  refine State.endSection_keeps (sub_of rfl hK) ?_
  refine State.each_keeps ?_ ?_
  · refine State.modLaw_keeps (sub_of rfl hK) ?_
    refine State.setLast_keeps (sub_of rfl hK) ?_
    refine Keeps.ite ?_ ?_
    · refine State.setf_keeps (sub_of rfl hK) ?_
      refine Keeps.ite ?_ ?_
      · refine State.inc_keeps (sub_of rfl hK) ?_
        refine State.inc_keeps (sub_of rfl hK) ?_
        refine State.snapTags_keeps (sub_of rfl hK) ?_
        refine Keeps.ite ?_ ?_
        · refine State.inc_keeps (sub_of rfl hK) ?_
          refine State.commitBank_keeps (sub_of rfl hK) ?_
          exact h
        · exact h
      · refine State.inc_keeps (sub_of rfl hK) ?_
        refine State.snapTags_keeps (sub_of rfl hK) ?_
        refine Keeps.ite ?_ ?_
        · refine State.inc_keeps (sub_of rfl hK) ?_
          refine State.commitBank_keeps (sub_of rfl hK) ?_
          exact h
        · exact h
    · refine Keeps.ite ?_ ?_
      · refine State.inc_keeps (sub_of rfl hK) ?_
        refine State.inc_keeps (sub_of rfl hK) ?_
        refine State.snapTags_keeps (sub_of rfl hK) ?_
        refine Keeps.ite ?_ ?_
        · refine State.inc_keeps (sub_of rfl hK) ?_
          refine State.commitBank_keeps (sub_of rfl hK) ?_
          exact h
        · exact h
      · refine State.inc_keeps (sub_of rfl hK) ?_
        refine State.snapTags_keeps (sub_of rfl hK) ?_
        refine Keeps.ite ?_ ?_
        · refine State.inc_keeps (sub_of rfl hK) ?_
          refine State.commitBank_keeps (sub_of rfl hK) ?_
          exact h
        · exact h
  · intro s1 _ h2
    refine State.present_keeps (sub_of rfl hK) ?_
    exact h2

theorem State.regsReady_keeps {K : Nat} {s0 s : State} {e l start t ds} (hK : 8192 ||| K = K) (h : Keeps K s0 s) :
    Keeps K s0 (State.regsReady s e l start t ds) := by
  unfold State.regsReady
  refine State.modSec_keeps (sub_of rfl hK) ?_
  exact h

theorem State.placeFree_keeps {K : Nat} {s0 s : State} {e t} (hK : 8192 ||| K = K) (h : Keeps K s0 s) :
    Keeps K s0 (State.placeFree s e t) := by
  unfold State.placeFree
  refine State.modCe_keeps (sub_of rfl hK) ?_ (by intro c hc; first | exact hc | simpa using hc | (split <;> simpa using hc))
  exact h

theorem State.predictAll_keeps {K : Nat} {s0 s : State} {e l} (hK : 8192 ||| K = K) (h : Keeps K s0 s) :
    Keeps K s0 (State.predictAll s e l) := by
  unfold State.predictAll
  refine State.modLaw_keeps (sub_of rfl hK) ?_
  exact h

theorem State.stage_keeps {K : Nat} {s0 s : State} {e l c k v} (hK : 8192 ||| K = K) (h : Keeps K s0 s) :
    Keeps K s0 (State.stage s e l c k v) := by
  unfold State.stage
  refine State.modLaw_keeps (sub_of rfl hK) ?_
  exact h

theorem State.putAcc_keeps {K : Nat} {s0 s : State} {e l a z} (hK : 8194 ||| K = K) (h : Keeps K s0 s) :
    Keeps K s0 (State.putAcc s e l a z) := by
  unfold State.putAcc
  refine Keeps.ite ?_ ?_
  · refine State.setb_keeps (sub_of rfl hK) ?_
    refine State.modCe_keeps (sub_of rfl hK) ?_ (by intro c hc; first | exact hc | simpa using hc | (split <;> simpa using hc))
    exact h
  · refine State.modCe_keeps (sub_of rfl hK) ?_ (by intro c hc; first | exact hc | simpa using hc | (split <;> simpa using hc))
    exact h

theorem State.putSat_keeps {K : Nat} {s0 s : State} {e l c d z} (hK : 8194 ||| K = K) (h : Keeps K s0 s) :
    Keeps K s0 (State.putSat s e l c d z) := by
  unfold State.putSat
  refine State.dSet_keeps (sub_of rfl hK) ?_
  exact h

theorem State.setCoef_keeps {K : Nat} {s0 s : State} {e i_ v} (hK : 2 ||| K = K) (h : Keeps K s0 s) :
    Keeps K s0 (State.setCoef s e i_ v) := by
  unfold State.setCoef
  refine State.setf_keeps (sub_of rfl hK) ?_
  exact h

theorem State.canIssue_keeps {K : Nat} {s0 s : State} {e l w f} (hK : 8193 ||| K = K) (h : Keeps K s0 s)
    (hf : ∀ t c n, Keeps K s0 t → Keeps K s0 (f t c n)) :
    Keeps K s0 (State.canIssue s e l w f) := by
  unfold State.canIssue
  split
  · exact h
  · refine Keeps.ite h ?_
    dsimp only
    split
    · exact h
    · exact hf _ _ _ (State.modLaw_keeps (sub_of rfl hK) (State.modCe_keeps (sub_of rfl hK) (State.reach_keeps (sub_of rfl hK) h) (fun _ hc => hc)))

theorem State.endOf_keeps {K : Nat} {s0 s : State} {e l c t} (hK : 8834 ||| K = K) (h : Keeps K s0 s) :
    Keeps K s0 (State.endOf s e l c t) := by
  unfold State.endOf
  refine Keeps.ite ?_ ?_
  · refine State.setf_keeps (sub_of rfl hK) ?_
    refine State.modLaw_keeps (sub_of rfl hK) ?_
    refine State.endSection_keeps (sub_of rfl hK) ?_
    exact h
  · refine State.completeRun_keeps (sub_of rfl hK) ?_
    exact h

theorem State.setNZ_keeps {K : Nat} {s0 s : State} {e z} (hK : 8192 ||| K = K) (h : Keeps K s0 s) :
    Keeps K s0 (State.setNZ s e z) := by
  unfold State.setNZ
  refine State.modCe_keeps (sub_of rfl hK) ?_ (by intro c hc; first | exact hc | simpa using hc | (split <;> simpa using hc))
  exact h

/-! ## Production -/

theorem State.timerRun_keeps {K : Nat} {s0 s : State} {n per sync} (hK : 4098 ||| K = K) (h : Keeps K s0 s) :
    Keeps K s0 (State.timerRun s n per sync) := by
  unfold State.timerRun
  refine State.ttStart_keeps (sub_of rfl hK) ?_
  refine State.setf_keeps (sub_of rfl hK) ?_
  refine State.setf_keeps (sub_of rfl hK) ?_
  refine State.setf_keeps (sub_of rfl hK) ?_
  refine State.wr_keeps (sub_of rfl hK) ?_
  exact h

theorem State.loadFrame_keeps {K : Nat} {s0 s : State} {e} (hK : 4098 ||| K = K) (h : Keeps K s0 s) :
    Keeps K s0 (State.loadFrame s e) := by
  unfold State.loadFrame
  refine Keeps.ite ?_ ?_
  · exact h
  · split
    · exact h
    · refine Keeps.ite ?_ ?_
      · refine State.timerRun_keeps (sub_of rfl hK) ?_
        refine State.setf_keeps (sub_of rfl hK) ?_
        refine State.setf_keeps (sub_of rfl hK) ?_
        exact h
      · refine Keeps.ite ?_ ?_
        · refine State.timerRun_keeps (sub_of rfl hK) ?_
          refine State.setf_keeps (sub_of rfl hK) ?_
          refine State.setf_keeps (sub_of rfl hK) ?_
          exact h
        · refine State.setf_keeps (sub_of rfl hK) ?_
          refine State.setf_keeps (sub_of rfl hK) ?_
          exact h

theorem State.loadLaw_keeps {K : Nat} {s0 s : State} {e l} (hK : 8194 ||| K = K) (h : Keeps K s0 s) :
    Keeps K s0 (State.loadLaw s e l) := by
  unfold State.loadLaw
  split
  · exact h
  · refine Keeps.ite ?_ ?_
    · exact h
    · refine State.modLaw_keeps (sub_of rfl hK) ?_
      refine Keeps.ite ?_ ?_
      · refine State.forN_keeps ?_ ?_
        · refine State.setf_keeps (sub_of rfl hK) ?_
          refine State.setf_keeps (sub_of rfl hK) ?_
          refine State.forN_keeps ?_ ?_
          · refine State.forN_keeps ?_ ?_
            · split
              · refine State.setf_keeps (sub_of rfl hK) ?_
                split
                · refine State.setf_keeps (sub_of rfl hK) ?_
                  refine State.setf_keeps (sub_of rfl hK) ?_
                  split
                  · refine State.setf_keeps (sub_of rfl hK) ?_
                    refine State.setf_keeps (sub_of rfl hK) ?_
                    exact h
                  · exact h
                · split
                  · refine State.setf_keeps (sub_of rfl hK) ?_
                    refine State.setf_keeps (sub_of rfl hK) ?_
                    exact h
                  · exact h
              · split
                · refine State.setf_keeps (sub_of rfl hK) ?_
                  refine State.setf_keeps (sub_of rfl hK) ?_
                  split
                  · refine State.setf_keeps (sub_of rfl hK) ?_
                    refine State.setf_keeps (sub_of rfl hK) ?_
                    exact h
                  · exact h
                · split
                  · refine State.setf_keeps (sub_of rfl hK) ?_
                    refine State.setf_keeps (sub_of rfl hK) ?_
                    exact h
                  · exact h
            · intro s1 _ h2
              refine State.wr_keeps (sub_of rfl hK) ?_
              exact h2
          · intro s3 _ h4
            refine State.wr_keeps (sub_of rfl hK) ?_
            exact h4
        · intro s5 _ h6
          refine State.wr_keeps (sub_of rfl hK) ?_
          exact h6
      · refine State.setf_keeps (sub_of rfl hK) ?_
        refine State.forN_keeps ?_ ?_
        · refine State.forN_keeps ?_ ?_
          · split
            · refine State.setf_keeps (sub_of rfl hK) ?_
              split
              · refine State.setf_keeps (sub_of rfl hK) ?_
                refine State.setf_keeps (sub_of rfl hK) ?_
                split
                · refine State.setf_keeps (sub_of rfl hK) ?_
                  refine State.setf_keeps (sub_of rfl hK) ?_
                  exact h
                · exact h
              · split
                · refine State.setf_keeps (sub_of rfl hK) ?_
                  refine State.setf_keeps (sub_of rfl hK) ?_
                  exact h
                · exact h
            · split
              · refine State.setf_keeps (sub_of rfl hK) ?_
                refine State.setf_keeps (sub_of rfl hK) ?_
                split
                · refine State.setf_keeps (sub_of rfl hK) ?_
                  refine State.setf_keeps (sub_of rfl hK) ?_
                  exact h
                · exact h
              · split
                · refine State.setf_keeps (sub_of rfl hK) ?_
                  refine State.setf_keeps (sub_of rfl hK) ?_
                  exact h
                · exact h
          · intro s7 _ h8
            refine State.wr_keeps (sub_of rfl hK) ?_
            exact h8
        · intro s9 _ h10
          refine State.wr_keeps (sub_of rfl hK) ?_
          exact h10

theorem State.prodEnd_keeps {K : Nat} {s0 s : State} {e l c} (hK : 549510 ||| K = K) (h : Keeps K s0 s) :
    Keeps K s0 (State.prodEnd s e l c) := by
  unfold State.prodEnd
  refine Keeps.ite ?_ ?_
  · refine State.inc_keeps (sub_of rfl hK) ?_
    refine State.miss_keeps (sub_of rfl hK) ?_
    refine Keeps.set_draws (sub_of rfl hK) ?_
    exact h
  · refine Keeps.ite ?_ ?_
    · refine State.inc_keeps (sub_of rfl hK) ?_
      refine State.miss_keeps (sub_of rfl hK) ?_
      refine Keeps.set_draws (sub_of rfl hK) ?_
      exact h
    · refine State.writeOutputs_keeps (sub_of rfl hK) ?_
      refine State.modLaw_keeps (sub_of rfl hK) ?_
      refine Keeps.ite ?_ ?_
      · refine State.inc_keeps (sub_of rfl hK) ?_
        refine State.setLast_keeps (sub_of rfl hK) ?_
        refine State.inc_keeps (sub_of rfl hK) ?_
        refine State.endSection_keeps (sub_of rfl hK) ?_
        split
        · refine State.putNat_keeps (sub_of rfl hK) ?_
          refine State.each_keeps ?_ ?_
          · refine State.modLaw_keeps (sub_of rfl hK) ?_
            refine Keeps.set_draws (sub_of rfl hK) ?_
            exact h
          · intro s1 _ h2
            refine State.present_keeps (sub_of rfl hK) ?_
            exact h2
        · refine State.each_keeps ?_ ?_
          · refine State.modLaw_keeps (sub_of rfl hK) ?_
            refine Keeps.set_draws (sub_of rfl hK) ?_
            exact h
          · intro s3 _ h4
            refine State.present_keeps (sub_of rfl hK) ?_
            exact h4
      · refine State.setLast_keeps (sub_of rfl hK) ?_
        refine State.inc_keeps (sub_of rfl hK) ?_
        refine State.endSection_keeps (sub_of rfl hK) ?_
        split
        · refine State.putNat_keeps (sub_of rfl hK) ?_
          refine State.each_keeps ?_ ?_
          · refine State.modLaw_keeps (sub_of rfl hK) ?_
            refine Keeps.set_draws (sub_of rfl hK) ?_
            exact h
          · intro s5 _ h6
            refine State.present_keeps (sub_of rfl hK) ?_
            exact h6
        · refine State.each_keeps ?_ ?_
          · refine State.modLaw_keeps (sub_of rfl hK) ?_
            refine Keeps.set_draws (sub_of rfl hK) ?_
            exact h
          · intro s7 _ h8
            refine State.present_keeps (sub_of rfl hK) ?_
            exact h8

theorem State.prodAhead_keeps {K : Nat} {s0 s : State} {e l} (hK : 8194 ||| K = K) (h : Keeps K s0 s) :
    Keeps K s0 (State.prodAhead s e l) := by
  unfold State.prodAhead
  try dsimp only
  split
  · refine State.setf_keeps (sub_of rfl hK) ?_
    refine State.modLaw_keeps (sub_of rfl hK) ?_
    refine State.predictAll_keeps (sub_of rfl hK) ?_
    exact h
  · refine State.predictAll_keeps (sub_of rfl hK) ?_
    exact h

theorem State.unloadLaw_keeps {K : Nat} {s0 s : State} {e l} (hK : 8192 ||| K = K) (h : Keeps K s0 s) :
    Keeps K s0 (State.unloadLaw s e l) := by
  unfold State.unloadLaw
  refine Keeps.ite ?_ ?_
  · exact h
  · refine State.modLaw_keeps (sub_of rfl hK) ?_
    exact h

/-! ## Laws -/

theorem State.lawEnable_keeps {K : Nat} {s0 s : State} {e l v} (hK : 2 ||| K = K) (h : Keeps K s0 s) :
    Keeps K s0 (State.lawEnable s e l v) := by
  unfold State.lawEnable
  refine Keeps.ite ?_ ?_
  · exact h
  · refine State.setf_keeps (sub_of rfl hK) ?_
    refine State.wrMasked_keeps (sub_of rfl hK) ?_
    exact h

theorem execCeDisable_keeps {K : Nat} {s0 s : State} {core e} (hK : 9090 ||| K = K) (h : Keeps K s0 s) :
    Answers K s0 (execCeDisable core e s) := by
  unfold execCeDisable
  refine Answers.ofUnit ?_
  refine State.byCore_keeps (sub_of rfl hK) ?_ ?_
  · exact h
  · intro s1 h2
    refine State.setf_keeps (sub_of rfl hK) ?_
    refine State.engineStop_keeps (sub_of rfl hK) ?_
    exact h2

theorem execCeEccDoubleError_keeps {K : Nat} {s0 s : State} {e} (hK : 1057282 ||| K = K) (h : Keeps K s0 s) :
    Answers K s0 (execCeEccDoubleError e s) := by
  unfold execCeEccDoubleError
  refine Answers.ofUnit ?_
  refine Keeps.ite ?_ ?_
  · refine State.inc_keeps (sub_of rfl hK) ?_
    exact h
  · refine State.each_keeps ?_ ?_
    · refine State.setf_keeps (sub_of rfl hK) ?_
      refine State.engineStop_keeps (sub_of rfl hK) ?_
      exact h
    · intro s1 _ h2
      refine State.report_keeps (sub_of rfl hK) ?_
      exact h2

theorem execCoefMemWrite_keeps {K : Nat} {s0 s : State} {core e i_ v} (hK : 8576 ||| K = K) (h : Keeps K s0 s) :
    Answers K s0 (execCoefMemWrite core e i_ v s) := by
  unfold execCoefMemWrite
  refine Answers.ofUnit ?_
  refine State.byCore_keeps (sub_of rfl hK) ?_ ?_
  · exact h
  · intro s1 h2
    refine State.modCe_keeps (sub_of rfl hK) ?_ (by intro c hc; first | exact hc | simpa using hc | (split <;> simpa using hc))
    exact h2

theorem execCoefMemWritePerformed_keeps {K : Nat} {s0 s : State} {e} (hK : 8194 ||| K = K) (h : Keeps K s0 s) :
    Answers K s0 (execCoefMemWritePerformed e s) := by
  unfold execCoefMemWritePerformed
  refine Answers.ofUnit ?_
  split
  · exact h
  · refine Keeps.ite ?_ ?_
    · exact h
    · refine State.setCoef_keeps (sub_of rfl hK) ?_
      refine State.modCe_keeps (sub_of rfl hK) ?_ (by intro c hc; first | exact hc | simpa using hc | (split <;> simpa using hc))
      exact h

theorem execLawDisable_keeps {K : Nat} {s0 s : State} {core e l} (hK : 9090 ||| K = K) (h : Keeps K s0 s) :
    Answers K s0 (execLawDisable core e l s) := by
  unfold execLawDisable
  refine Answers.ofUnit ?_
  refine State.byCore_keeps (sub_of rfl hK) ?_ ?_
  · exact h
  · intro s1 h2
    refine State.lawDisable_keeps (sub_of rfl hK) ?_
    exact h2

theorem execLawEnable_keeps {K : Nat} {s0 s : State} {core e l v} (hK : 8578 ||| K = K) (h : Keeps K s0 s) :
    Answers K s0 (execLawEnable core e l v s) := by
  unfold execLawEnable
  refine Answers.ofUnit ?_
  refine State.byCore_keeps (sub_of rfl hK) ?_ ?_
  · exact h
  · intro s1 h2
    refine State.lawEnable_keeps (sub_of rfl hK) ?_
    refine State.unloadLaw_keeps (sub_of rfl hK) ?_
    exact h2

theorem execLawFallbackWrite_keeps {K : Nat} {s0 s : State} {e l} (hK : 24579 ||| K = K) (h : Keeps K s0 s) :
    Answers K s0 (execLawFallbackWrite e l s) := by
  unfold execLawFallbackWrite
  refine Answers.ofUnit ?_
  split
  · exact h
  · refine State.writeOutputs_keeps (sub_of rfl hK) ?_
    refine State.modLaw_keeps (sub_of rfl hK) ?_
    refine State.reach_keeps (sub_of rfl hK) ?_
    exact h

theorem execLawLateMiss_keeps {K : Nat} {s0 s : State} {e l} (hK : 8195 ||| K = K) (h : Keeps K s0 s) :
    Answers K s0 (execLawLateMiss e l s) := by
  unfold execLawLateMiss
  refine Answers.ofUnit ?_
  try dsimp only
  split
  · exact h
  · refine Keeps.ite ?_ ?_
    · refine State.miss_keeps (sub_of rfl hK) ?_
      refine State.inc_keeps (sub_of rfl hK) ?_
      refine State.reach_keeps (sub_of rfl hK) ?_
      exact h
    · exact h

theorem execLawOutputWrite_keeps {K : Nat} {s0 s : State} {e l} (hK : 549511 ||| K = K) (h : Keeps K s0 s) :
    Answers K s0 (execLawOutputWrite e l s) := by
  unfold execLawOutputWrite
  refine Answers.ofUnit ?_
  split
  · refine State.prodEnd_keeps (sub_of rfl hK) ?_
    refine State.reach_keeps (sub_of rfl hK) ?_
    exact h
  · exact h
  · refine State.writeOutputs_keeps (sub_of rfl hK) ?_
    refine State.modLaw_keeps (sub_of rfl hK) ?_
    refine State.reach_keeps (sub_of rfl hK) ?_
    exact h

theorem execLookaheadStart_keeps {K : Nat} {s0 s : State} {e l} (hK : 8195 ||| K = K) (h : Keeps K s0 s) :
    Answers K s0 (execLookaheadStart e l s) := by
  unfold execLookaheadStart
  refine Answers.ofUnit ?_
  split
  · exact h
  · refine Keeps.ite ?_ ?_
    · refine Keeps.ite ?_ ?_
      · refine State.modLaw_keeps (sub_of rfl hK) ?_
        refine State.reach_keeps (sub_of rfl hK) ?_
        exact h
      · refine Keeps.ite ?_ ?_
        · refine State.prodAhead_keeps (sub_of rfl hK) ?_
          refine State.modLaw_keeps (sub_of rfl hK) ?_
          refine State.reach_keeps (sub_of rfl hK) ?_
          exact h
        · refine State.startSection_keeps (sub_of rfl hK) ?_
          refine State.setf_keeps (sub_of rfl hK) ?_
          refine State.modCe_keeps (sub_of rfl hK) ?_ (by intro c hc; first | exact hc | simpa using hc | (split <;> simpa using hc))
          refine State.predictAll_keeps (sub_of rfl hK) ?_
          refine State.modLaw_keeps (sub_of rfl hK) ?_
          refine State.reach_keeps (sub_of rfl hK) ?_
          exact h
    · exact h

theorem execStaticCheckDone_keeps {K : Nat} {s0 s : State} {e l} (hK : 8194 ||| K = K) (h : Keeps K s0 s) :
    Answers K s0 (execStaticCheckDone e l s) := by
  unfold execStaticCheckDone
  refine Answers.ofUnit ?_
  refine Keeps.ite ?_ ?_
  · refine Keeps.ite ?_ ?_
    · refine State.lawStart_keeps (sub_of rfl hK) ?_
      refine State.setf_keeps (sub_of rfl hK) ?_
      exact h
    · refine State.setf_keeps (sub_of rfl hK) ?_
      refine State.setf_keeps (sub_of rfl hK) ?_
      exact h
  · exact h

/-! ## BridleOps -/

theorem State.modBridle_keeps {K : Nat} {s0 s : State} {f} (hK : 4194304 ||| K = K) (h : Keeps K s0 s)
    (hf : ∀ b : BridleSt, (b.slots.length = 32 ∧ b.sess.length = 8) → (f b).slots.length = 32 ∧ (f b).sess.length = 8) : Keeps K s0 (State.modBridle s f) := by
  exact Keeps.set_bridle hK h (hf _)

theorem State.modSess_keeps {K : Nat} {s0 s : State} {n f} (hK : 4194304 ||| K = K) (h : Keeps K s0 s) :
    Keeps K s0 (State.modSess s n f) := by
  unfold State.modSess
  refine State.modBridle_keeps (sub_of rfl hK) ?_ (by intro c hc; first | exact hc | simpa using hc | (split <;> simpa using hc))
  exact h

theorem State.cacheReply_keeps {K : Nat} {s0 s : State} {n seq status bytes} (hK : 4194304 ||| K = K) (h : Keeps K s0 s) :
    Keeps K s0 (State.cacheReply s n seq status bytes) := by
  unfold State.cacheReply
  refine Keeps.ite ?_ ?_
  · exact h
  · refine State.modSess_keeps (sub_of rfl hK) ?_
    exact h

theorem State.modBus_keeps {K : Nat} {s0 s : State} {p f} (hK : 2097152 ||| K = K) (h : Keeps K s0 s) :
    Keeps K s0 (State.modBus s p f) := by
  unfold State.modBus
  refine Keeps.set_bus (sub_of rfl hK) ?_ (fun i => by first | exact i | rfl | simpa using i | (split <;> simpa using i))
  exact h

theorem State.postReply_keeps {K : Nat} {s0 s : State} {p bytes deadline} (hK : 2097152 ||| K = K) (h : Keeps K s0 s) :
    Keeps K s0 (State.postReply s p bytes deadline) := by
  unfold State.postReply
  refine State.modBus_keeps (sub_of rfl hK) ?_
  exact h

theorem State.closeSession_keeps {K : Nat} {s0 s : State} {n} (hK : 2203323343622 ||| K = K) (h : Keeps K s0 s) :
    Keeps K s0 (State.closeSession s n) := by
  unfold State.closeSession
  refine Keeps.ite ?_ ?_
  · refine State.irq_keeps (sub_of rfl hK) ?_
    refine Keeps.set_mode (sub_of rfl hK) ?_
    refine State.putNat_keeps (sub_of rfl hK) ?_
    refine State.modBridle_keeps (sub_of rfl hK) ?_ (by intro c hc; first | exact hc | simpa using hc | (split <;> simpa using hc))
    refine State.modSess_keeps (sub_of rfl hK) ?_
    refine State.wr_keeps (sub_of rfl hK) ?_
    refine State.wr_keeps (sub_of rfl hK) ?_
    exact h
  · refine State.irq_keeps (sub_of rfl hK) ?_
    refine State.modBridle_keeps (sub_of rfl hK) ?_ (by intro c hc; first | exact hc | simpa using hc | (split <;> simpa using hc))
    refine State.modSess_keeps (sub_of rfl hK) ?_
    refine State.wr_keeps (sub_of rfl hK) ?_
    refine State.wr_keeps (sub_of rfl hK) ?_
    exact h

theorem State.firstReply_keeps {K : Nat} {s0 s : State} {p n seq opcode status time result tEnd} (hK : 2203325440774 ||| K = K) (h : Keeps K s0 s) :
    Keeps K s0 (State.firstReply s p n seq opcode status time result tEnd) := by
  unfold State.firstReply
  refine Keeps.ite ?_ ?_
  · refine State.cacheReply_keeps (sub_of rfl hK) ?_
    refine State.postReply_keeps (sub_of rfl hK) ?_
    exact h
  · refine Keeps.ite ?_ ?_
    · refine State.closeSession_keeps (sub_of rfl hK) ?_
      refine State.wr_keeps (sub_of rfl hK) ?_
      refine State.cacheReply_keeps (sub_of rfl hK) ?_
      refine State.postReply_keeps (sub_of rfl hK) ?_
      exact h
    · refine State.wr_keeps (sub_of rfl hK) ?_
      refine State.cacheReply_keeps (sub_of rfl hK) ?_
      refine State.postReply_keeps (sub_of rfl hK) ?_
      exact h

theorem State.bridleMirror_keeps {K : Nat} {s0 s : State} (hK : 2 ||| K = K) (h : Keeps K s0 s) :
    Keeps K s0 (State.bridleMirror s) := by
  unfold State.bridleMirror
  refine State.setf_keeps (sub_of rfl hK) ?_
  refine State.setf_keeps (sub_of rfl hK) ?_
  refine State.setf_keeps (sub_of rfl hK) ?_
  exact h

theorem State.freeSlot_keeps {K : Nat} {s0 s : State} {k} (hK : 4194306 ||| K = K) (h : Keeps K s0 s) :
    Keeps K s0 (State.freeSlot s k) := by
  unfold State.freeSlot
  refine State.bridleMirror_keeps (sub_of rfl hK) ?_
  refine State.modBridle_keeps (sub_of rfl hK) ?_ (by intro c hc; first | exact hc | simpa using hc | (split <;> simpa using hc))
  exact h

theorem State.modSlot_keeps {K : Nat} {s0 s : State} {k f} (hK : 4194304 ||| K = K) (h : Keeps K s0 s) :
    Keeps K s0 (State.modSlot s k f) := by
  unfold State.modSlot
  refine State.modBridle_keeps (sub_of rfl hK) ?_ (by intro c hc; first | exact hc | simpa using hc | (split <;> simpa using hc))
  exact h

theorem State.reserve_keeps {K : Nat} {s0 s : State} {k target b} (hK : 4194304 ||| K = K) (h : Keeps K s0 s) :
    Keeps K s0 (State.reserve s k target b) := by
  unfold State.reserve
  refine State.modBridle_keeps (sub_of rfl hK) ?_ (by intro c hc; first | exact hc | simpa using hc | (split <;> simpa using hc))
  refine State.modSlot_keeps (sub_of rfl hK) ?_
  exact h

theorem State.setSlot_keeps {K : Nat} {s0 s : State} {k x} (hK : 4194306 ||| K = K) (h : Keeps K s0 s) :
    Keeps K s0 (State.setSlot s k x) := by
  unfold State.setSlot
  refine State.bridleMirror_keeps (sub_of rfl hK) ?_
  refine State.modBridle_keeps (sub_of rfl hK) ?_ (by intro c hc; first | exact hc | simpa using hc | (split <;> simpa using hc))
  exact h

theorem State.showPacket_keeps {K : Nat} {s0 s : State} {k bytes} (hK : 2 ||| K = K) (h : Keeps K s0 s) :
    Keeps K s0 (State.showPacket s k bytes) := by
  unfold State.showPacket
  refine Keeps.foldl ?_ _ ?_
  · intro s1 _ h2
    refine State.wr_keeps (sub_of rfl hK) ?_
    exact h2
  · exact h

theorem State.secondReply_keeps {K : Nat} {s0 s : State} {x status time} (hK : 6291456 ||| K = K) (h : Keeps K s0 s) :
    Keeps K s0 (State.secondReply s x status time) := by
  unfold State.secondReply
  refine Keeps.ite ?_ ?_
  · refine State.cacheReply_keeps (sub_of rfl hK) ?_
    refine State.postReply_keeps (sub_of rfl hK) ?_
    exact h
  · refine State.postReply_keeps (sub_of rfl hK) ?_
    exact h

theorem State.preempt_keeps {K : Nat} {s0 s : State} {sc} (hK : 6291458 ||| K = K) (h : Keeps K s0 s) :
    Keeps K s0 (State.preempt s sc) := by
  unfold State.preempt
  refine State.forN_keeps ?_ ?_
  · exact h
  · intro s1 _ h2
    split
    · refine Keeps.ite ?_ ?_
      · refine State.inc_keeps (sub_of rfl hK) ?_
        refine State.secondReply_keeps (sub_of rfl hK) ?_
        refine State.freeSlot_keeps (sub_of rfl hK) ?_
        exact h2
      · exact h2
    · exact h2

/-! ## Gates -/

theorem State.modProbe_keeps {K : Nat} {s0 s : State} {f} (hK : 524288 ||| K = K) (h : Keeps K s0 s) :
    Keeps K s0 (State.modProbe s f) := by
  unfold State.modProbe
  refine State.modGate_keeps (sub_of rfl hK) ?_ (by intro c hc; first | exact hc | simpa using hc | (split <;> simpa using hc))
  exact h

theorem State.probeBridge_keeps {K : Nat} {s0 s : State} {b} (hK : 524288 ||| K = K) (h : Keeps K s0 s) :
    Keeps K s0 (State.probeBridge s b) := by
  unfold State.probeBridge
  refine State.modProbe_keeps (sub_of rfl hK) ?_
  exact h

theorem State.probeAbort_keeps {K : Nat} {s0 s : State} (hK : 524290 ||| K = K) (h : Keeps K s0 s) :
    Keeps K s0 (State.probeAbort s) := by
  unfold State.probeAbort
  split
  · exact h
  · refine State.setf_keeps (sub_of rfl hK) ?_
    refine State.modProbe_keeps (sub_of rfl hK) ?_
    refine State.forN_keeps ?_ ?_
    · refine State.each_keeps ?_ ?_
      · exact h
      · intro s1 _ h2
        refine State.each_keeps ?_ ?_
        · refine State.each_keeps ?_ ?_
          · exact h2
          · intro s3 _ h4
            refine State.wr_keeps (sub_of rfl hK) ?_
            exact h4
        · intro s5 _ h6
          refine State.wr_keeps (sub_of rfl hK) ?_
          exact h6
    · intro s7 _ h8
      refine Keeps.ite ?_ ?_
      · refine State.setHvState_keeps (sub_of rfl hK) ?_
        exact h8
      · exact h8

theorem State.gdcErr_keeps {K : Nat} {s0 s : State} (hK : 2 ||| K = K) (h : Keeps K s0 s) :
    Keeps K s0 (State.gdcErr s) := by
  unfold State.gdcErr
  refine State.setf_keeps (sub_of rfl hK) ?_
  exact h

theorem State.lockLeg_keeps {K : Nat} {s0 s : State} {n} (hK : 524288 ||| K = K) (h : Keeps K s0 s) :
    Keeps K s0 (State.lockLeg s n) := by
  unfold State.lockLeg
  split
  · exact h
  · refine Keeps.ite ?_ ?_
    · refine State.hvForceOff_keeps (sub_of rfl hK) ?_
      exact h
    · exact h

theorem State.hvRefresh_keeps {K : Nat} {s0 s : State} {n} (hK : 524290 ||| K = K) (h : Keeps K s0 s) :
    Keeps K s0 (State.hvRefresh s n) := by
  unfold State.hvRefresh
  refine State.hvCommand_keeps (sub_of rfl hK) ?_
  exact h

theorem State.learnFault_keeps {K : Nat} {s0 s : State} {n k} (hK : 1572866 ||| K = K) (h : Keeps K s0 s) :
    Keeps K s0 (State.learnFault s n k) := by
  unfold State.learnFault
  refine State.report_keeps (sub_of rfl hK) ?_
  refine State.modHv_keeps (sub_of rfl hK) ?_
  refine State.inc_keeps (sub_of rfl hK) ?_
  refine State.setf_keeps (sub_of rfl hK) ?_
  refine State.setQual_keeps (sub_of rfl hK) ?_
  refine State.setHvState_keeps (sub_of rfl hK) ?_
  refine State.wr_keeps (sub_of rfl hK) ?_
  exact h

theorem State.learnStep_keeps {K : Nat} {s0 s : State} {n e tIn tPl} (hK : 2 ||| K = K) (h : Keeps K s0 s) :
    Keeps K s0 (State.learnStep s n e tIn tPl) := by
  unfold State.learnStep
  refine State.incBy_keeps (sub_of rfl hK) ?_
  refine State.setf_keeps (sub_of rfl hK) ?_
  refine State.setf_keeps (sub_of rfl hK) ?_
  exact h

theorem State.measureEdge_keeps {K : Nat} {s0 s : State} {n e tIn tPl valid} (hK : 1572866 ||| K = K) (h : Keeps K s0 s) :
    Keeps K s0 (State.measureEdge s n e tIn tPl valid) := by
  unfold State.measureEdge
  refine Keeps.ite ?_ ?_
  · refine State.setb_keeps (sub_of rfl hK) ?_
    refine State.setf_keeps (sub_of rfl hK) ?_
    refine State.setf_keeps (sub_of rfl hK) ?_
    refine State.setf_keeps (sub_of rfl hK) ?_
    exact h
  · refine Keeps.ite ?_ ?_
    · refine State.learnFault_keeps (sub_of rfl hK) ?_
      refine Keeps.ite ?_ ?_
      · refine State.setb_keeps (sub_of rfl hK) ?_
        refine State.setf_keeps (sub_of rfl hK) ?_
        refine State.setf_keeps (sub_of rfl hK) ?_
        refine State.setf_keeps (sub_of rfl hK) ?_
        exact h
      · refine State.setf_keeps (sub_of rfl hK) ?_
        refine State.setb_keeps (sub_of rfl hK) ?_
        refine State.setf_keeps (sub_of rfl hK) ?_
        refine State.setf_keeps (sub_of rfl hK) ?_
        refine State.setf_keeps (sub_of rfl hK) ?_
        exact h
    · refine Keeps.ite ?_ ?_
      · refine Keeps.ite ?_ ?_
        · refine State.setb_keeps (sub_of rfl hK) ?_
          refine State.setf_keeps (sub_of rfl hK) ?_
          refine State.setf_keeps (sub_of rfl hK) ?_
          refine State.setf_keeps (sub_of rfl hK) ?_
          exact h
        · refine State.setf_keeps (sub_of rfl hK) ?_
          refine State.setb_keeps (sub_of rfl hK) ?_
          refine State.setf_keeps (sub_of rfl hK) ?_
          refine State.setf_keeps (sub_of rfl hK) ?_
          refine State.setf_keeps (sub_of rfl hK) ?_
          exact h
      · refine State.learnStep_keeps (sub_of rfl hK) ?_
        refine Keeps.ite ?_ ?_
        · refine State.setb_keeps (sub_of rfl hK) ?_
          refine State.setf_keeps (sub_of rfl hK) ?_
          refine State.setf_keeps (sub_of rfl hK) ?_
          refine State.setf_keeps (sub_of rfl hK) ?_
          exact h
        · refine State.setf_keeps (sub_of rfl hK) ?_
          refine State.setb_keeps (sub_of rfl hK) ?_
          refine State.setf_keeps (sub_of rfl hK) ?_
          refine State.setf_keeps (sub_of rfl hK) ?_
          refine State.setf_keeps (sub_of rfl hK) ?_
          exact h

theorem State.edgeOver_keeps {K : Nat} {s0 s : State} {n rise} (hK : 524288 ||| K = K) (h : Keeps K s0 s) :
    Keeps K s0 (State.edgeOver s n rise) := by
  unfold State.edgeOver
  refine State.modHv_keeps (sub_of rfl hK) ?_
  exact h

theorem State.seqRun_keeps {K : Nat} {s0 s : State} (hK : 524290 ||| K = K) (h : Keeps K s0 s) :
    Keeps K s0 (State.seqRun s) := by
  unfold State.seqRun
  refine State.forN_keeps ?_ ?_
  · refine State.setf_keeps (sub_of rfl hK) ?_
    refine State.setf_keeps (sub_of rfl hK) ?_
    refine State.setf_keeps (sub_of rfl hK) ?_
    exact h
  · intro s1 _ h2
    refine Keeps.ite ?_ ?_
    · refine State.enterPlain_keeps (sub_of rfl hK) ?_
      exact h2
    · exact h2

theorem State.probeStart_keeps {K : Nat} {s0 s : State} {bs} (hK : 524290 ||| K = K) (h : Keeps K s0 s) :
    Keeps K s0 (State.probeStart s bs) := by
  unfold State.probeStart
  try dsimp only
  split
  · refine State.seqRun_keeps (sub_of rfl hK) ?_
    refine State.modProbe_keeps (sub_of rfl hK) ?_
    refine State.setf_keeps (sub_of rfl hK) ?_
    refine State.setf_keeps (sub_of rfl hK) ?_
    refine State.each_keeps ?_ ?_
    · refine State.each_keeps ?_ ?_
      · exact h
      · intro s1 _ h2
        refine State.each_keeps ?_ ?_
        · exact h2
        · intro s3 _ h4
          refine Keeps.ite ?_ ?_
          · refine State.setHvState_keeps (sub_of rfl hK) ?_
            refine State.hvForceOff_keeps (sub_of rfl hK) ?_
            exact h4
          · exact h4
    · intro s5 _ h6
      refine State.each_keeps ?_ ?_
      · refine State.setf_keeps (sub_of rfl hK) ?_
        exact h6
      · intro s7 _ h8
        refine State.wr_keeps (sub_of rfl hK) ?_
        exact h8
  · refine State.probeBridge_keeps (sub_of rfl hK) ?_
    refine State.modProbe_keeps (sub_of rfl hK) ?_
    refine State.setf_keeps (sub_of rfl hK) ?_
    refine State.setf_keeps (sub_of rfl hK) ?_
    refine State.each_keeps ?_ ?_
    · refine State.each_keeps ?_ ?_
      · exact h
      · intro s9 _ h10
        refine State.each_keeps ?_ ?_
        · exact h10
        · intro s11 _ h12
          refine Keeps.ite ?_ ?_
          · refine State.setHvState_keeps (sub_of rfl hK) ?_
            refine State.hvForceOff_keeps (sub_of rfl hK) ?_
            exact h12
          · exact h12
    · intro s13 _ h14
      refine State.each_keeps ?_ ?_
      · refine State.setf_keeps (sub_of rfl hK) ?_
        exact h14
      · intro s15 _ h16
        refine State.wr_keeps (sub_of rfl hK) ?_
        exact h16

theorem State.probeRequest_keeps {K : Nat} {s0 s : State} (hK : 524290 ||| K = K) (h : Keeps K s0 s) :
    Keeps K s0 (State.probeRequest s) := by
  unfold State.probeRequest
  refine Keeps.ite ?_ ?_
  · refine State.gdcErr_keeps (sub_of rfl hK) ?_
    exact h
  · refine State.probeStart_keeps (sub_of rfl hK) ?_
    exact h

theorem State.dischargeStart_keeps {K : Nat} {s0 s : State} (hK : 524290 ||| K = K) (h : Keeps K s0 s) :
    Keeps K s0 (State.dischargeStart s) := by
  unfold State.dischargeStart
  refine Keeps.ite ?_ ?_
  · exact h
  · refine State.hvRefresh_keeps (sub_of rfl hK) ?_
    refine State.modGate_keeps (sub_of rfl hK) ?_ (by intro c hc; first | exact hc | simpa using hc | (split <;> simpa using hc))
    refine State.setf_keeps (sub_of rfl hK) ?_
    exact h

theorem State.clearChannels_keeps {K : Nat} {s0 s : State} (hK : 1572866 ||| K = K) (h : Keeps K s0 s) :
    Keeps K s0 (State.clearChannels s) := by
  unfold State.clearChannels
  refine State.lineInactive_keeps (sub_of rfl hK) ?_
  refine State.forN_keeps ?_ ?_
  · refine State.lineInactive_keeps (sub_of rfl hK) ?_
    refine State.lineInactive_keeps (sub_of rfl hK) ?_
    refine State.lineInactive_keeps (sub_of rfl hK) ?_
    refine State.forN_keeps ?_ ?_
    · refine State.forN_keeps ?_ ?_
      · refine State.forN_keeps ?_ ?_
        · exact h
        · intro s1 _ h2
          refine State.sourceOff_keeps (sub_of rfl hK) ?_
          refine State.sourceOff_keeps (sub_of rfl hK) ?_
          refine State.sourceOff_keeps (sub_of rfl hK) ?_
          refine State.sourceOff_keeps (sub_of rfl hK) ?_
          refine Keeps.ite ?_ ?_
          · refine State.forN_keeps ?_ ?_
            · refine Keeps.ite ?_ ?_
              · refine State.setHvState_keeps (sub_of rfl hK) ?_
                refine State.setFltBit_keeps (sub_of rfl hK) ?_
                refine State.setf_keeps (sub_of rfl hK) ?_
                exact h2
              · refine State.setFltBit_keeps (sub_of rfl hK) ?_
                refine State.setf_keeps (sub_of rfl hK) ?_
                exact h2
            · intro s3 _ h4
              refine State.wr_keeps (sub_of rfl hK) ?_
              exact h4
          · refine Keeps.ite ?_ ?_
            · refine State.setHvState_keeps (sub_of rfl hK) ?_
              refine State.setFltBit_keeps (sub_of rfl hK) ?_
              refine State.setf_keeps (sub_of rfl hK) ?_
              exact h2
            · refine State.setFltBit_keeps (sub_of rfl hK) ?_
              refine State.setf_keeps (sub_of rfl hK) ?_
              exact h2
      · intro s5 _ h6
        refine State.sourceOff_keeps (sub_of rfl hK) ?_
        exact h6
    · intro s7 _ h8
      refine State.sourceOff_keeps (sub_of rfl hK) ?_
      refine State.setf_keeps (sub_of rfl hK) ?_
      refine Keeps.ite ?_ ?_
      · refine State.setf_keeps (sub_of rfl hK) ?_
        refine State.setf_keeps (sub_of rfl hK) ?_
        exact h8
      · exact h8
  · intro s9 _ h10
    refine State.lvUpdate_keeps (sub_of rfl hK) ?_
    exact h10

theorem State.probeFault_keeps {K : Nat} {s0 s : State} {n code} (hK : 524290 ||| K = K) (h : Keeps K s0 s) :
    Keeps K s0 (State.probeFault s n code) := by
  unfold State.probeFault
  refine Keeps.ite ?_ ?_
  · refine State.setHvState_keeps (sub_of rfl hK) ?_
    refine State.latchFault_keeps (sub_of rfl hK) ?_
    exact h
  · refine State.latchFault_keeps (sub_of rfl hK) ?_
    exact h

theorem State.loopFaults_keeps {K : Nat} {s0 s : State} {b} (hK : 1572866 ||| K = K) (h : Keeps K s0 s) :
    Keeps K s0 (State.loopFaults s b) := by
  unfold State.loopFaults
  refine State.each_keeps ?_ ?_
  · exact h
  · intro s1 _ h2
    refine Keeps.ite ?_ ?_
    · exact h2
    · refine State.sourceOn_keeps (sub_of rfl hK) ?_
      refine State.report_keeps (sub_of rfl hK) ?_
      refine State.probeFault_keeps (sub_of rfl hK) ?_
      exact h2

theorem State.lvOverCurrent_keeps {K : Nat} {s0 s : State} {m} (hK : 1572866 ||| K = K) (h : Keeps K s0 s) :
    Keeps K s0 (State.lvOverCurrent s m) := by
  unfold State.lvOverCurrent
  refine Keeps.ite ?_ ?_
  · exact h
  · refine State.sourceOn_keeps (sub_of rfl hK) ?_
    refine State.report_keeps (sub_of rfl hK) ?_
    refine State.lvUpdate_keeps (sub_of rfl hK) ?_
    refine State.setf_keeps (sub_of rfl hK) ?_
    refine State.inc_keeps (sub_of rfl hK) ?_
    refine State.setf_keeps (sub_of rfl hK) ?_
    refine State.setf_keeps (sub_of rfl hK) ?_
    exact h

theorem State.legResult_keeps {K : Nat} {s0 s : State} {b x} (hK : 1572866 ||| K = K) (h : Keeps K s0 s) :
    Keeps K s0 (State.legResult s b x) := by
  unfold State.legResult
  try dsimp only
  refine Keeps.ite ?_ ?_
  · refine State.sourceOn_keeps (sub_of rfl hK) ?_
    refine State.report_keeps (sub_of rfl hK) ?_
    refine State.each_keeps ?_ ?_
    · refine State.setf_keeps (sub_of rfl hK) ?_
      refine State.setf_keeps (sub_of rfl hK) ?_
      exact h
    · intro s1 _ h2
      refine State.probeFault_keeps (sub_of rfl hK) ?_
      exact h2
  · refine Keeps.ite ?_ ?_
    · refine State.sourceOn_keeps (sub_of rfl hK) ?_
      refine State.report_keeps (sub_of rfl hK) ?_
      refine State.each_keeps ?_ ?_
      · refine State.setf_keeps (sub_of rfl hK) ?_
        refine State.setf_keeps (sub_of rfl hK) ?_
        exact h
      · intro s3 _ h4
        refine State.probeFault_keeps (sub_of rfl hK) ?_
        exact h4
    · refine State.setf_keeps (sub_of rfl hK) ?_
      refine State.setf_keeps (sub_of rfl hK) ?_
      exact h

theorem State.linkArrival_keeps {K : Nat} {s0 s : State} {g high u on} (hK : 16385 ||| K = K) (h : Keeps K s0 s)
    (hu : s.linkArrival g high = some (u, on)) : Keeps K s0 u := by
  unfold State.linkArrival at hu
  split at hu
  · cases hu
  · cases hu
    exact State.modPg_keeps (sub_of rfl hK) (State.reach_keeps (sub_of rfl hK) h)

theorem execBiasRecovery_keeps {K : Nat} {s0 s : State} {n} (hK : 524290 ||| K = K) (h : Keeps K s0 s) :
    Answers K s0 (execBiasRecovery n s) := by
  unfold execBiasRecovery
  refine Answers.ofUnit ?_
  refine Keeps.ite ?_ ?_
  · refine Keeps.ite ?_ ?_
    · refine Keeps.ite ?_ ?_
      · refine State.enterPlain_keeps (sub_of rfl hK) ?_
        refine State.setf_keeps (sub_of rfl hK) ?_
        exact h
      · refine State.setf_keeps (sub_of rfl hK) ?_
        exact h
    · refine State.lineInactive_keeps (sub_of rfl hK) ?_
      refine Keeps.ite ?_ ?_
      · refine State.enterPlain_keeps (sub_of rfl hK) ?_
        refine State.setf_keeps (sub_of rfl hK) ?_
        exact h
      · refine State.setf_keeps (sub_of rfl hK) ?_
        exact h
  · exact h

theorem execBiasUndervoltage_keeps {K : Nat} {s0 s : State} {n} (hK : 2203319165702 ||| K = K) (h : Keeps K s0 s) :
    Answers K s0 (execBiasUndervoltage n s) := by
  unfold execBiasUndervoltage
  refine Answers.ofUnit ?_
  refine Keeps.ite ?_ ?_
  · exact h
  · refine State.lineActive_keeps (sub_of rfl hK) ?_
    refine Keeps.ite ?_ ?_
    · refine State.setHvState_keeps (sub_of rfl hK) ?_
      refine Keeps.ite ?_ ?_
      · refine State.setf_keeps (sub_of rfl hK) ?_
        exact h
      · refine State.hvForceOff_keeps (sub_of rfl hK) ?_
        refine State.setf_keeps (sub_of rfl hK) ?_
        exact h
    · refine Keeps.ite ?_ ?_
      · refine State.setf_keeps (sub_of rfl hK) ?_
        exact h
      · refine State.hvForceOff_keeps (sub_of rfl hK) ?_
        refine State.setf_keeps (sub_of rfl hK) ?_
        exact h

theorem execChopperOff_keeps {K : Nat} {s0 s : State} (hK : 524290 ||| K = K) (h : Keeps K s0 s) :
    Answers K s0 (execChopperOff s) := by
  unfold execChopperOff
  refine Answers.next ?_
  refine Keeps.ite ?_ ?_
  · refine State.hvRefresh_keeps (sub_of rfl hK) ?_
    refine State.modGate_keeps (sub_of rfl hK) ?_ (by intro c hc; first | exact hc | simpa using hc | (split <;> simpa using hc))
    exact h
  · exact h

theorem execChopperOn_keeps {K : Nat} {s0 s : State} (hK : 524290 ||| K = K) (h : Keeps K s0 s) :
    Answers K s0 (execChopperOn s) := by
  unfold execChopperOn
  refine Answers.next ?_
  refine Keeps.ite ?_ ?_
  · exact h
  · refine State.hvRefresh_keeps (sub_of rfl hK) ?_
    refine State.inc_keeps (sub_of rfl hK) ?_
    refine State.modGate_keeps (sub_of rfl hK) ?_ (by intro c hc; first | exact hc | simpa using hc | (split <;> simpa using hc))
    exact h

theorem execDischargeHoldoffEnd_keeps {K : Nat} {s0 s : State} (hK : 524289 ||| K = K) (h : Keeps K s0 s) :
    Answers K s0 (execDischargeHoldoffEnd s) := by
  unfold execDischargeHoldoffEnd
  refine Answers.next ?_
  split
  · exact h
  · refine State.modGate_keeps (sub_of rfl hK) ?_ (by intro c hc; first | exact hc | simpa using hc | (split <;> simpa using hc))
    refine State.reach_keeps (sub_of rfl hK) ?_
    exact h

theorem execDrvEnFilteredLow_keeps {K : Nat} {s0 s : State} (hK : 524291 ||| K = K) (h : Keeps K s0 s) :
    Answers K s0 (execDrvEnFilteredLow s) := by
  unfold execDrvEnFilteredLow
  refine Answers.next ?_
  split
  · exact h
  · refine Keeps.ite ?_ ?_
    · exact h
    · refine Keeps.ite ?_ ?_
      · refine State.forN_keeps ?_ ?_
        · refine State.probeAbort_keeps (sub_of rfl hK) ?_
          refine State.setf_keeps (sub_of rfl hK) ?_
          refine State.modGate_keeps (sub_of rfl hK) ?_ (by intro c hc; first | exact hc | simpa using hc | (split <;> simpa using hc))
          refine State.reach_keeps (sub_of rfl hK) ?_
          exact h
        · intro s1 _ h2
          refine Keeps.ite ?_ ?_
          · refine State.setHvState_keeps (sub_of rfl hK) ?_
            refine State.hvForceOff_keeps (sub_of rfl hK) ?_
            exact h2
          · exact h2
      · refine State.setf_keeps (sub_of rfl hK) ?_
        refine State.forN_keeps ?_ ?_
        · refine State.probeAbort_keeps (sub_of rfl hK) ?_
          refine State.setf_keeps (sub_of rfl hK) ?_
          refine State.modGate_keeps (sub_of rfl hK) ?_ (by intro c hc; first | exact hc | simpa using hc | (split <;> simpa using hc))
          refine State.reach_keeps (sub_of rfl hK) ?_
          exact h
        · intro s3 _ h4
          refine Keeps.ite ?_ ?_
          · refine State.setHvState_keeps (sub_of rfl hK) ?_
            refine State.hvForceOff_keeps (sub_of rfl hK) ?_
            exact h4
          · exact h4

theorem execDrvEnFilteredRise_keeps {K : Nat} {s0 s : State} (hK : 524291 ||| K = K) (h : Keeps K s0 s) :
    Answers K s0 (execDrvEnFilteredRise s) := by
  unfold execDrvEnFilteredRise
  refine Answers.next ?_
  split
  · exact h
  · refine Keeps.ite ?_ ?_
    · exact h
    · refine Keeps.ite ?_ ?_
      · refine State.inc_keeps (sub_of rfl hK) ?_
        refine Keeps.ite ?_ ?_
        · refine State.setf_keeps (sub_of rfl hK) ?_
          refine State.setf_keeps (sub_of rfl hK) ?_
          refine State.modGate_keeps (sub_of rfl hK) ?_ (by intro c hc; first | exact hc | simpa using hc | (split <;> simpa using hc))
          refine State.reach_keeps (sub_of rfl hK) ?_
          exact h
        · refine State.inc_keeps (sub_of rfl hK) ?_
          refine State.setf_keeps (sub_of rfl hK) ?_
          refine State.modGate_keeps (sub_of rfl hK) ?_ (by intro c hc; first | exact hc | simpa using hc | (split <;> simpa using hc))
          refine State.reach_keeps (sub_of rfl hK) ?_
          exact h
      · refine State.setf_keeps (sub_of rfl hK) ?_
        refine Keeps.ite ?_ ?_
        · refine State.setf_keeps (sub_of rfl hK) ?_
          refine State.setf_keeps (sub_of rfl hK) ?_
          refine State.modGate_keeps (sub_of rfl hK) ?_ (by intro c hc; first | exact hc | simpa using hc | (split <;> simpa using hc))
          refine State.reach_keeps (sub_of rfl hK) ?_
          exact h
        · refine State.inc_keeps (sub_of rfl hK) ?_
          refine State.setf_keeps (sub_of rfl hK) ?_
          refine State.modGate_keeps (sub_of rfl hK) ?_ (by intro c hc; first | exact hc | simpa using hc | (split <;> simpa using hc))
          refine State.reach_keeps (sub_of rfl hK) ?_
          exact h

theorem execDrvEnPinChange_keeps {K : Nat} {s0 s : State} {level} (hK : 524288 ||| K = K) (h : Keeps K s0 s) :
    Answers K s0 (execDrvEnPinChange level s) := by
  unfold execDrvEnPinChange
  refine Answers.next ?_
  refine State.modGate_keeps (sub_of rfl hK) ?_ (by intro c hc; first | exact hc | simpa using hc | (split <;> simpa using hc))
  exact h

theorem execEnReqPulse_keeps {K : Nat} {s0 s : State} {core} (hK : 524672 ||| K = K) (h : Keeps K s0 s) :
    Answers K s0 (execEnReqPulse core s) := by
  unfold execEnReqPulse
  refine Answers.ofUnit ?_
  refine State.byCore_keeps (sub_of rfl hK) ?_ ?_
  · exact h
  · intro s1 h2
    refine State.modGate_keeps (sub_of rfl hK) ?_ (by intro c hc; first | exact hc | simpa using hc | (split <;> simpa using hc))
    exact h2

theorem execEnReqPulseEnd_keeps {K : Nat} {s0 s : State} (hK : 524289 ||| K = K) (h : Keeps K s0 s) :
    Answers K s0 (execEnReqPulseEnd s) := by
  unfold execEnReqPulseEnd
  refine Answers.next ?_
  split
  · exact h
  · refine State.modGate_keeps (sub_of rfl hK) ?_ (by intro c hc; first | exact hc | simpa using hc | (split <;> simpa using hc))
    refine State.reach_keeps (sub_of rfl hK) ?_
    exact h

theorem execForcedDischargeDone_keeps {K : Nat} {s0 s : State} (hK : 524290 ||| K = K) (h : Keeps K s0 s) :
    Answers K s0 (execForcedDischargeDone s) := by
  unfold execForcedDischargeDone
  refine Answers.next ?_
  refine Keeps.ite ?_ ?_
  · refine State.hvRefresh_keeps (sub_of rfl hK) ?_
    refine State.setf_keeps (sub_of rfl hK) ?_
    refine State.dischargeEnd_keeps (sub_of rfl hK) ?_
    exact h
  · exact h

theorem execForcedDischargeRequest_keeps {K : Nat} {s0 s : State} {core} (hK : 524674 ||| K = K) (h : Keeps K s0 s) :
    Answers K s0 (execForcedDischargeRequest core s) := by
  unfold execForcedDischargeRequest
  refine Answers.ofUnit ?_
  refine State.byCore_keeps (sub_of rfl hK) ?_ ?_
  · exact h
  · intro s1 h2
    refine Keeps.ite ?_ ?_
    · refine State.setf_keeps (sub_of rfl hK) ?_
      exact h2
    · refine State.dischargeStart_keeps (sub_of rfl hK) ?_
      refine State.setf_keeps (sub_of rfl hK) ?_
      exact h2

theorem execForcedDischargeTimeout_keeps {K : Nat} {s0 s : State} (hK : 524291 ||| K = K) (h : Keeps K s0 s) :
    Answers K s0 (execForcedDischargeTimeout s) := by
  unfold execForcedDischargeTimeout
  refine Answers.next ?_
  split
  · exact h
  · refine State.modGate_keeps (sub_of rfl hK) ?_ (by intro c hc; first | exact hc | simpa using hc | (split <;> simpa using hc))
    refine State.hvRefresh_keeps (sub_of rfl hK) ?_
    refine State.setf_keeps (sub_of rfl hK) ?_
    refine State.dischargeEnd_keeps (sub_of rfl hK) ?_
    refine State.reach_keeps (sub_of rfl hK) ?_
    exact h

theorem execGateCommandArrival_keeps {K : Nat} {s0 s : State} {ch} (hK : 540675 ||| K = K)
    (h : Keeps K s0 s) : Answers K s0 (execGateCommandArrival ch s) := by
  unfold execGateCommandArrival
  refine Answers.ofUnit (Keeps.ite ?_ ?_)
  · split
    · rename_i hu
      exact State.hvCommand_keeps (sub_of rfl hK) (State.modHv_keeps (sub_of rfl hK) (State.linkArrival_keeps (sub_of rfl hK) h hu))
    · exact Keeps.ite h (State.hvCommand_keeps (sub_of rfl hK) h)
  · dsimp only
    split
    · rename_i hu
      exact State.lvUpdate_keeps (sub_of rfl hK) (State.modLv_keeps (sub_of rfl hK) (State.linkArrival_keeps (sub_of rfl hK) h hu))
    · exact h

theorem execGateSenseMidpoint_keeps {K : Nat} {s0 s : State} {n} (hK : 524290 ||| K = K) (h : Keeps K s0 s) :
    Answers K s0 (execGateSenseMidpoint n s) := by
  unfold execGateSenseMidpoint
  refine Answers.ofUnit ?_
  split
  · exact h
  · refine Keeps.ite ?_ ?_
    · exact h
    · refine Keeps.ite ?_ ?_
      · refine State.setQual_keeps (sub_of rfl hK) ?_
        refine State.edgeOver_keeps (sub_of rfl hK) ?_
        exact h
      · refine State.setQual_keeps (sub_of rfl hK) ?_
        refine State.edgeOver_keeps (sub_of rfl hK) ?_
        exact h

theorem execGdcProbeStart_keeps {K : Nat} {s0 s : State} {core v} (hK : 524674 ||| K = K) (h : Keeps K s0 s) :
    Answers K s0 (execGdcProbeStart core v s) := by
  unfold execGdcProbeStart
  refine Answers.ofUnit ?_
  refine State.byCore_keeps (sub_of rfl hK) ?_ ?_
  · exact h
  · intro s1 h2
    refine State.probeRequest_keeps (sub_of rfl hK) ?_
    refine State.setf_keeps (sub_of rfl hK) ?_
    exact h2

theorem execHardOvervoltage_keeps {K : Nat} {s0 s : State} (hK : 2203319165702 ||| K = K) (h : Keeps K s0 s) :
    Answers K s0 (execHardOvervoltage s) := by
  unfold execHardOvervoltage
  refine Answers.next ?_
  refine State.lineActive_keeps (sub_of rfl hK) ?_
  exact h

theorem execHardOvervoltageRelease_keeps {K : Nat} {s0 s : State} (hK : 2 ||| K = K) (h : Keeps K s0 s) :
    Answers K s0 (execHardOvervoltageRelease s) := by
  unfold execHardOvervoltageRelease
  refine Answers.next ?_
  refine Keeps.ite ?_ ?_
  · refine State.lineInactive_keeps (sub_of rfl hK) ?_
    exact h
  · exact h

theorem execLinkLoss_keeps {K : Nat} {s0 s : State} {n} (hK : 1572866 ||| K = K) (h : Keeps K s0 s) :
    Answers K s0 (execLinkLoss n s) := by
  unfold execLinkLoss
  refine Answers.ofUnit ?_
  refine Keeps.ite ?_ ?_
  · exact h
  · refine Keeps.ite ?_ ?_
    · refine State.sourceOn_keeps (sub_of rfl hK) ?_
      refine State.report_keeps (sub_of rfl hK) ?_
      exact h
    · refine State.setHvState_keeps (sub_of rfl hK) ?_
      refine State.latchFault_keeps (sub_of rfl hK) ?_
      refine State.hvForceOff_keeps (sub_of rfl hK) ?_
      refine State.sourceOn_keeps (sub_of rfl hK) ?_
      refine State.report_keeps (sub_of rfl hK) ?_
      exact h

theorem execLvBootstrapRecovery_keeps {K : Nat} {s0 s : State} {m} (hK : 524290 ||| K = K) (h : Keeps K s0 s) :
    Answers K s0 (execLvBootstrapRecovery m s) := by
  unfold execLvBootstrapRecovery
  refine Answers.ofUnit ?_
  refine State.lvUpdate_keeps (sub_of rfl hK) ?_
  refine State.setf_keeps (sub_of rfl hK) ?_
  exact h

theorem execLvBootstrapUv_keeps {K : Nat} {s0 s : State} {m} (hK : 524290 ||| K = K) (h : Keeps K s0 s) :
    Answers K s0 (execLvBootstrapUv m s) := by
  unfold execLvBootstrapUv
  refine Answers.ofUnit ?_
  refine State.lvUpdate_keeps (sub_of rfl hK) ?_
  refine State.setf_keeps (sub_of rfl hK) ?_
  exact h

theorem execPath2TurnOn_keeps {K : Nat} {s0 s : State} {n} (hK : 524291 ||| K = K) (h : Keeps K s0 s) :
    Answers K s0 (execPath2TurnOn n s) := by
  unfold execPath2TurnOn
  refine Answers.ofUnit ?_
  split
  · exact h
  · refine State.hvCommand_keeps (sub_of rfl hK) ?_
    refine State.modHv_keeps (sub_of rfl hK) ?_
    refine State.reach_keeps (sub_of rfl hK) ?_
    exact h

theorem execPlateauExit_keeps {K : Nat} {s0 s : State} {n tIn tPl} (hK : 1572867 ||| K = K) (h : Keeps K s0 s) :
    Answers K s0 (execPlateauExit n tIn tPl s) := by
  unfold execPlateauExit
  refine Answers.ofUnit ?_
  split
  · exact h
  · refine Keeps.ite ?_ ?_
    · refine Keeps.ite ?_ ?_
      · refine State.measureEdge_keeps (sub_of rfl hK) ?_
        refine State.modHv_keeps (sub_of rfl hK) ?_
        refine State.edgeOver_keeps (sub_of rfl hK) ?_
        refine State.reach_keeps (sub_of rfl hK) ?_
        exact h
      · refine State.modHv_keeps (sub_of rfl hK) ?_
        refine State.edgeOver_keeps (sub_of rfl hK) ?_
        refine State.reach_keeps (sub_of rfl hK) ?_
        exact h
    · exact h

theorem execProbeBridgeDone_keeps {K : Nat} {s0 s : State} (hK : 1572867 ||| K = K) (h : Keeps K s0 s) :
    Answers K s0 (execProbeBridgeDone s) := by
  unfold execProbeBridgeDone
  refine Answers.next ?_
  try dsimp only
  split
  · exact h
  · refine Keeps.ite ?_ ?_
    · try dsimp only
      split
      · refine State.probeBridge_keeps (sub_of rfl hK) ?_
        refine State.modProbe_keeps (sub_of rfl hK) ?_
        refine State.setb_keeps (sub_of rfl hK) ?_
        refine State.each_keeps ?_ ?_
        · refine State.loopFaults_keeps (sub_of rfl hK) ?_
          refine State.forN_keeps ?_ ?_
          · refine State.reach_keeps (sub_of rfl hK) ?_
            exact h
          · intro s1 _ h2
            refine State.legResult_keeps (sub_of rfl hK) ?_
            exact h2
        · intro s3 _ h4
          refine Keeps.ite ?_ ?_
          · refine State.setHvState_keeps (sub_of rfl hK) ?_
            exact h4
          · exact h4
      · refine State.seqRun_keeps (sub_of rfl hK) ?_
        refine State.modProbe_keeps (sub_of rfl hK) ?_
        refine State.setb_keeps (sub_of rfl hK) ?_
        refine State.each_keeps ?_ ?_
        · refine State.loopFaults_keeps (sub_of rfl hK) ?_
          refine State.forN_keeps ?_ ?_
          · refine State.reach_keeps (sub_of rfl hK) ?_
            exact h
          · intro s5 _ h6
            refine State.legResult_keeps (sub_of rfl hK) ?_
            exact h6
        · intro s7 _ h8
          refine Keeps.ite ?_ ?_
          · refine State.setHvState_keeps (sub_of rfl hK) ?_
            exact h8
          · exact h8
    · exact h

theorem execProbeGateLoopDone_keeps {K : Nat} {s0 s : State} {rs} (hK : 524291 ||| K = K) (h : Keeps K s0 s) :
    Answers K s0 (execProbeGateLoopDone rs s) := by
  unfold execProbeGateLoopDone
  refine Answers.next ?_
  split
  · exact h
  · refine Keeps.ite ?_ ?_
    · exact h
    · refine Keeps.foldl ?_ _ ?_
      · intro s1 _ h2
        refine State.setf_keeps (sub_of rfl hK) ?_
        refine State.setf_keeps (sub_of rfl hK) ?_
        exact h2
      · refine State.modProbe_keeps (sub_of rfl hK) ?_
        refine State.reach_keeps (sub_of rfl hK) ?_
        exact h

theorem execProbeInjectionEnd_keeps {K : Nat} {s0 s : State} {v0 v1 hi lo} (hK : 524289 ||| K = K) (h : Keeps K s0 s) :
    Answers K s0 (execProbeInjectionEnd v0 v1 hi lo s) := by
  unfold execProbeInjectionEnd
  refine Answers.next ?_
  try dsimp only
  split
  · exact h
  · refine Keeps.ite ?_ ?_
    · refine State.modProbe_keeps (sub_of rfl hK) ?_
      refine State.reach_keeps (sub_of rfl hK) ?_
      exact h
    · exact h

theorem execQualificationTimeout_keeps {K : Nat} {s0 s : State} {n} (hK : 524291 ||| K = K) (h : Keeps K s0 s) :
    Answers K s0 (execQualificationTimeout n s) := by
  unfold execQualificationTimeout
  refine Answers.ofUnit ?_
  split
  · exact h
  · refine Keeps.ite ?_ ?_
    · exact h
    · refine State.setQual_keeps (sub_of rfl hK) ?_
      refine State.modHv_keeps (sub_of rfl hK) ?_
      refine State.reach_keeps (sub_of rfl hK) ?_
      exact h

theorem execSenseCellCrossing_keeps {K : Nat} {s0 s : State} {n} (hK : 524288 ||| K = K) (h : Keeps K s0 s) :
    Answers K s0 (execSenseCellCrossing n s) := by
  unfold execSenseCellCrossing
  refine Answers.ofUnit ?_
  refine State.modHv_keeps (sub_of rfl hK) ?_
  exact h

theorem execSenseCellDetection_keeps {K : Nat} {s0 s : State} {n} (hK : 2203320214279 ||| K = K) (h : Keeps K s0 s) :
    Answers K s0 (execSenseCellDetection n s) := by
  unfold execSenseCellDetection
  refine Answers.ofUnit ?_
  split
  · exact h
  · refine State.sourceOn_keeps (sub_of rfl hK) ?_
    refine State.report_keeps (sub_of rfl hK) ?_
    refine State.lineActive_keeps (sub_of rfl hK) ?_
    refine State.lockLeg_keeps (sub_of rfl hK) ?_
    refine State.inc_keeps (sub_of rfl hK) ?_
    refine State.latchFault_keeps (sub_of rfl hK) ?_
    refine State.setHvState_keeps (sub_of rfl hK) ?_
    refine State.modHv_keeps (sub_of rfl hK) ?_
    refine State.reach_keeps (sub_of rfl hK) ?_
    exact h

theorem execSlopeTimeout_keeps {K : Nat} {s0 s : State} {n} (hK : 1572995 ||| K = K) (h : Keeps K s0 s) :
    Answers K s0 (execSlopeTimeout n s) := by
  unfold execSlopeTimeout
  refine Answers.ofUnit ?_
  split
  · exact h
  · refine Keeps.ite ?_ ?_
    · refine Keeps.ite ?_ ?_
      · refine State.learnFault_keeps (sub_of rfl hK) ?_
        refine State.modHv_keeps (sub_of rfl hK) ?_
        refine Keeps.ite ?_ ?_
        · refine State.measureEdge_keeps (sub_of rfl hK) ?_
          refine State.drawWord_keeps (sub_of rfl hK) ?_
          refine State.drawWord_keeps (sub_of rfl hK) ?_
          refine State.inc_keeps (sub_of rfl hK) ?_
          refine State.edgeOver_keeps (sub_of rfl hK) ?_
          refine State.reach_keeps (sub_of rfl hK) ?_
          exact h
        · refine State.inc_keeps (sub_of rfl hK) ?_
          refine State.edgeOver_keeps (sub_of rfl hK) ?_
          refine State.reach_keeps (sub_of rfl hK) ?_
          exact h
      · refine State.modHv_keeps (sub_of rfl hK) ?_
        refine Keeps.ite ?_ ?_
        · refine State.measureEdge_keeps (sub_of rfl hK) ?_
          refine State.drawWord_keeps (sub_of rfl hK) ?_
          refine State.drawWord_keeps (sub_of rfl hK) ?_
          refine State.inc_keeps (sub_of rfl hK) ?_
          refine State.edgeOver_keeps (sub_of rfl hK) ?_
          refine State.reach_keeps (sub_of rfl hK) ?_
          exact h
        · refine State.inc_keeps (sub_of rfl hK) ?_
          refine State.edgeOver_keeps (sub_of rfl hK) ?_
          refine State.reach_keeps (sub_of rfl hK) ?_
          exact h
    · exact h

theorem execSoftTurnOffEnd_keeps {K : Nat} {s0 s : State} {n} (hK : 524291 ||| K = K) (h : Keeps K s0 s) :
    Answers K s0 (execSoftTurnOffEnd n s) := by
  unfold execSoftTurnOffEnd
  refine Answers.ofUnit ?_
  split
  · exact h
  · refine Keeps.ite ?_ ?_
    · refine State.setHvState_keeps (sub_of rfl hK) ?_
      refine State.modHv_keeps (sub_of rfl hK) ?_
      refine State.reach_keeps (sub_of rfl hK) ?_
      exact h
    · exact h

theorem execStrongPhaseEnd_keeps {K : Nat} {s0 s : State} {n} (hK : 524289 ||| K = K) (h : Keeps K s0 s) :
    Answers K s0 (execStrongPhaseEnd n s) := by
  unfold execStrongPhaseEnd
  refine Answers.ofUnit ?_
  split
  · exact h
  · refine Keeps.ite ?_ ?_
    · refine State.modHv_keeps (sub_of rfl hK) ?_
      refine State.reach_keeps (sub_of rfl hK) ?_
      exact h
    · exact h

end Sys2Proof.Machine
end

