-- ==== Sys2Proof/Laws/KeepsPwm.lean ====
section
/-! SUPPORT. What each operation and each command of Machine/ReactOps.lean, Machine/MartingaleOps.lean, Machine/Pwm.lean keeps. -/

set_option linter.unusedVariables false
set_option linter.unusedTactic false
set_option linter.unreachableTactic false

namespace Sys2Proof.Machine

/-! ## ReactOps -/

theorem State.setTl6_keeps {K : Nat} {s0 s : State} {g b} (hK : 2 ||| K = K) (h : Keeps K s0 s) :
    Keeps K s0 (State.setTl6 s g b) := by
  unfold State.setTl6
  refine Keeps.ite ?_ ?_
  · refine State.setb_keeps (sub_of rfl hK) ?_
    exact h
  · refine State.setb_keeps (sub_of rfl hK) ?_
    exact h

theorem State.tl6Off_keeps {K : Nat} {s0 s : State} {gs} (hK : 2 ||| K = K) (h : Keeps K s0 s) :
    Keeps K s0 (State.tl6Off s gs) := by
  unfold State.tl6Off
  refine Keeps.ite ?_ ?_
  · refine State.each_keeps ?_ ?_
    · exact h
    · intro s1 _ h2
      refine State.refreshTstate_keeps (sub_of rfl hK) ?_
      refine Keeps.ite ?_ ?_
      · refine State.setf_keeps (sub_of rfl hK) ?_
        refine State.setTl6_keeps (sub_of rfl hK) ?_
        exact h2
      · refine State.setf_keeps (sub_of rfl hK) ?_
        refine State.setTl6_keeps (sub_of rfl hK) ?_
        exact h2
  · refine State.setf_keeps (sub_of rfl hK) ?_
    refine State.each_keeps ?_ ?_
    · exact h
    · intro s3 _ h4
      refine State.refreshTstate_keeps (sub_of rfl hK) ?_
      refine Keeps.ite ?_ ?_
      · refine State.setf_keeps (sub_of rfl hK) ?_
        refine State.setTl6_keeps (sub_of rfl hK) ?_
        exact h4
      · refine State.setf_keeps (sub_of rfl hK) ?_
        refine State.setTl6_keeps (sub_of rfl hK) ?_
        exact h4

theorem State.setFstate_keeps {K : Nat} {s0 s : State} {d st cause} (hK : 2 ||| K = K) (h : Keeps K s0 s) :
    Keeps K s0 (State.setFstate s d st cause) := by
  unfold State.setFstate
  refine State.setf_keeps (sub_of rfl hK) ?_
  refine State.setf_keeps (sub_of rfl hK) ?_
  exact h

theorem State.modMg_keeps {K : Nat} {s0 s : State} {f} (hK : 1048576 ||| K = K) (h : Keeps K s0 s)
    (hf : ∀ m : MgSt, (m.drives.length = 2 ∧ m.inputs.length = 8) → (f m).drives.length = 2 ∧ (f m).inputs.length = 8) : Keeps K s0 (State.modMg s f) := by
  exact Keeps.set_mg hK h (hf _)

theorem State.outputs_keeps {K : Nat} {s0 s : State} (hK : 2 ||| K = K) (h : Keeps K s0 s) :
    Keeps K s0 (State.outputs s) := by
  unfold State.outputs
  refine State.forN_keeps ?_ ?_
  · exact h
  · intro s1 _ h2
    refine State.setb_keeps (sub_of rfl hK) ?_
    exact h2

theorem State.modMgDrive_keeps {K : Nat} {s0 s : State} {d f} (hK : 1048576 ||| K = K) (h : Keeps K s0 s) :
    Keeps K s0 (State.modMgDrive s d f) := by
  unfold State.modMgDrive
  refine State.modMg_keeps (sub_of rfl hK) ?_ (by intro c hc; first | exact hc | simpa using hc | (split <;> simpa using hc))
  exact h

theorem State.ss1One_keeps {K : Nat} {s0 s : State} {cause d} (hK : 1048578 ||| K = K) (h : Keeps K s0 s) :
    Keeps K s0 (State.ss1One s cause d) := by
  unfold State.ss1One
  refine Keeps.ite ?_ ?_
  · refine State.modMgDrive_keeps (sub_of rfl hK) ?_
    refine State.inc_keeps (sub_of rfl hK) ?_
    refine State.setFstate_keeps (sub_of rfl hK) ?_
    exact h
  · exact h

theorem State.tl6On_keeps {K : Nat} {s0 s : State} {gs d} (hK : 2203319165702 ||| K = K) (h : Keeps K s0 s) :
    Keeps K s0 (State.tl6On s gs d) := by
  unfold State.tl6On
  refine Keeps.ite ?_ ?_
  · exact h
  · refine State.lineUp_keeps (sub_of rfl hK) ?_
    refine State.each_keeps ?_ ?_
    · exact h
    · intro s1 _ h2
      refine State.setTl6_keeps (sub_of rfl hK) ?_
      exact h2

theorem State.safeGens_keeps {K : Nat} {s0 s : State} {gs d} (hK : 2203319165702 ||| K = K) (h : Keeps K s0 s) :
    Keeps K s0 (State.safeGens s gs d) := by
  unfold State.safeGens
  refine State.each_keeps ?_ ?_
  · refine State.tl6On_keeps (sub_of rfl hK) ?_
    exact h
  · intro s1 _ h2
    refine Keeps.ite ?_ ?_
    · exact h2
    · refine State.genStop_keeps (sub_of rfl hK) ?_
      exact h2

theorem State.sendFaultFrames_keeps {K : Nat} {s0 s : State} (hK : 2097152 ||| K = K) (h : Keeps K s0 s) :
    Keeps K s0 (State.sendFaultFrames s) := by
  unfold State.sendFaultFrames
  refine State.forN_keeps ?_ ?_
  · exact h
  · intro s1 _ h2
    refine Keeps.ite ?_ ?_
    · refine State.modBus_keeps (sub_of rfl hK) ?_
      exact h2
    · exact h2

theorem State.stoOne_keeps {K : Nat} {s0 s : State} {cause d} (hK : 2203319165702 ||| K = K) (h : Keeps K s0 s) :
    Keeps K s0 (State.stoOne s cause d) := by
  unfold State.stoOne
  refine State.path2_keeps (sub_of rfl hK) ?_
  refine State.safeGens_keeps (sub_of rfl hK) ?_
  refine Keeps.ite ?_ ?_
  · exact h
  · refine State.inc_keeps (sub_of rfl hK) ?_
    refine State.setFstate_keeps (sub_of rfl hK) ?_
    exact h

theorem State.enterSto_keeps {K : Nat} {s0 s : State} {d cause} (hK : 2203319165702 ||| K = K) (h : Keeps K s0 s) :
    Keeps K s0 (State.enterSto s d cause) := by
  unfold State.enterSto
  refine State.outputs_keeps (sub_of rfl hK) ?_
  refine State.irq_keeps (sub_of rfl hK) ?_
  refine State.each_keeps ?_ ?_
  · exact h
  · intro s1 _ h2
    refine State.stoOne_keeps (sub_of rfl hK) ?_
    exact h2

theorem State.modMode_keeps {K : Nat} {s0 s : State} {f} (hK : 131072 ||| K = K) (h : Keeps K s0 s) :
    Keeps K s0 (State.modMode s f) := by
  unfold State.modMode
  refine Keeps.set_mode (sub_of rfl hK) ?_
  exact h

theorem State.modeLeave_keeps {K : Nat} {s0 s : State} {target} (hK : 664068 ||| K = K) (h : Keeps K s0 s) :
    Keeps K s0 (State.modeLeave s target) := by
  unfold State.modeLeave
  refine State.modMode_keeps (sub_of rfl hK) ?_
  refine State.putNat_keeps (sub_of rfl hK) ?_
  refine State.putNat_keeps (sub_of rfl hK) ?_
  exact h

theorem State.modeReaction_keeps {K : Nat} {s0 s : State} (hK : 664068 ||| K = K) (h : Keeps K s0 s) :
    Keeps K s0 (State.modeReaction s) := by
  unfold State.modeReaction
  refine Keeps.ite ?_ ?_
  · exact h
  · refine State.modeLeave_keeps (sub_of rfl hK) ?_
    exact h

theorem State.reactSafe_keeps {K : Nat} {s0 s : State} {sc cause} (hK : 2203319165702 ||| K = K) (h : Keeps K s0 s) :
    Keeps K s0 (State.reactSafe s sc cause) := by
  unfold State.reactSafe
  refine Keeps.ite ?_ ?_
  · refine State.safeGens_keeps (sub_of rfl hK) ?_
    refine State.each_keeps ?_ ?_
    · exact h
    · intro s1 _ h2
      refine State.enterSto_keeps (sub_of rfl hK) ?_
      exact h2
  · refine State.modeReaction_keeps (sub_of rfl hK) ?_
    refine State.safeGens_keeps (sub_of rfl hK) ?_
    refine State.each_keeps ?_ ?_
    · exact h
    · intro s3 _ h4
      refine State.enterSto_keeps (sub_of rfl hK) ?_
      exact h4

theorem State.enterSs1_keeps {K : Nat} {s0 s : State} {d cause} (hK : 2203320197894 ||| K = K) (h : Keeps K s0 s) :
    Keeps K s0 (State.enterSs1 s d cause) := by
  unfold State.enterSs1
  refine State.irq_keeps (sub_of rfl hK) ?_
  refine State.each_keeps ?_ ?_
  · exact h
  · intro s1 _ h2
    refine State.ss1One_keeps (sub_of rfl hK) ?_
    exact h2

theorem State.reactSs1_keeps {K : Nat} {s0 s : State} {sc cause} (hK : 2203320214278 ||| K = K) (h : Keeps K s0 s) :
    Keeps K s0 (State.reactSs1 s sc cause) := by
  unfold State.reactSs1
  refine Keeps.ite ?_ ?_
  · refine State.each_keeps ?_ ?_
    · exact h
    · intro s1 _ h2
      refine State.enterSs1_keeps (sub_of rfl hK) ?_
      exact h2
  · refine State.reactSafe_keeps (sub_of rfl hK) ?_
    exact h

theorem State.reactNote_keeps {K : Nat} {s0 s : State} {sc} (hK : 1048576 ||| K = K) (h : Keeps K s0 s) :
    Keeps K s0 (State.reactNote s sc) := by
  unfold State.reactNote
  refine State.modMg_keeps (sub_of rfl hK) ?_ (by intro c hc; first | exact hc | simpa using hc | (split <;> simpa using hc))
  exact h

theorem State.reactModule_keeps {K : Nat} {s0 s : State} {cause} (hK : 2203326505734 ||| K = K) (h : Keeps K s0 s) :
    Keeps K s0 (State.reactModule s cause) := by
  unfold State.reactModule
  refine State.outputs_keeps (sub_of rfl hK) ?_
  refine State.modMg_keeps (sub_of rfl hK) ?_ (by intro c hc; first | exact hc | simpa using hc | (split <;> simpa using hc))
  refine State.modeReaction_keeps (sub_of rfl hK) ?_
  refine State.setf_keeps (sub_of rfl hK) ?_
  refine State.safeGens_keeps (sub_of rfl hK) ?_
  refine State.enterSto_keeps (sub_of rfl hK) ?_
  refine State.enterSto_keeps (sub_of rfl hK) ?_
  refine State.setf_keeps (sub_of rfl hK) ?_
  refine State.lineActive_keeps (sub_of rfl hK) ?_
  refine State.preempt_keeps (sub_of rfl hK) ?_
  refine State.reactNote_keeps (sub_of rfl hK) ?_
  exact h

theorem State.reactFatal_keeps {K : Nat} {s0 s : State} {cause} (hK : 2203326505734 ||| K = K) (h : Keeps K s0 s) :
    Keeps K s0 (State.reactFatal s cause) := by
  unfold State.reactFatal
  refine State.modMg_keeps (sub_of rfl hK) ?_ (by intro c hc; first | exact hc | simpa using hc | (split <;> simpa using hc))
  refine State.reactModule_keeps (sub_of rfl hK) ?_
  exact h

theorem State.react_keeps {K : Nat} {s0 s : State} {sc rx cause} (hK : 2203326505734 ||| K = K) (h : Keeps K s0 s) :
    Keeps K s0 (State.react s sc rx cause) := by
  unfold State.react
  try dsimp only
  try dsimp only
  split
  · refine State.reactSafe_keeps (sub_of rfl hK) ?_
    refine Keeps.ite ?_ ?_
    · refine State.sendFaultFrames_keeps (sub_of rfl hK) ?_
      refine Keeps.ite ?_ ?_
      · exact h
      · refine State.preempt_keeps (sub_of rfl hK) ?_
        exact h
    · refine Keeps.ite ?_ ?_
      · exact h
      · refine State.preempt_keeps (sub_of rfl hK) ?_
        exact h
  · refine State.reactSs1_keeps (sub_of rfl hK) ?_
    refine Keeps.ite ?_ ?_
    · refine State.sendFaultFrames_keeps (sub_of rfl hK) ?_
      refine Keeps.ite ?_ ?_
      · exact h
      · refine State.preempt_keeps (sub_of rfl hK) ?_
        exact h
    · refine Keeps.ite ?_ ?_
      · exact h
      · refine State.preempt_keeps (sub_of rfl hK) ?_
        exact h
  · refine State.reactModule_keeps (sub_of rfl hK) ?_
    refine Keeps.ite ?_ ?_
    · refine State.sendFaultFrames_keeps (sub_of rfl hK) ?_
      refine Keeps.ite ?_ ?_
      · exact h
      · refine State.preempt_keeps (sub_of rfl hK) ?_
        exact h
    · refine Keeps.ite ?_ ?_
      · exact h
      · refine State.preempt_keeps (sub_of rfl hK) ?_
        exact h
  · refine State.reactFatal_keeps (sub_of rfl hK) ?_
    refine Keeps.ite ?_ ?_
    · refine State.sendFaultFrames_keeps (sub_of rfl hK) ?_
      refine Keeps.ite ?_ ?_
      · exact h
      · refine State.preempt_keeps (sub_of rfl hK) ?_
        exact h
    · refine Keeps.ite ?_ ?_
      · exact h
      · refine State.preempt_keeps (sub_of rfl hK) ?_
        exact h
  · refine Keeps.ite ?_ ?_
    · refine State.sendFaultFrames_keeps (sub_of rfl hK) ?_
      refine Keeps.ite ?_ ?_
      · exact h
      · refine State.preempt_keeps (sub_of rfl hK) ?_
        exact h
    · refine Keeps.ite ?_ ?_
      · exact h
      · refine State.preempt_keeps (sub_of rfl hK) ?_
        exact h

theorem State.receive_keeps {K : Nat} {s0 s : State} {r} (hK : 2203326505734 ||| K = K) (h : Keeps K s0 s) :
    Keeps K s0 (State.receive s r) := by
  unfold State.receive
  refine State.outputs_keeps (sub_of rfl hK) ?_
  refine State.react_keeps (sub_of rfl hK) ?_
  refine State.reactNote_keeps (sub_of rfl hK) ?_
  refine State.irq_keeps (sub_of rfl hK) ?_
  refine State.inc_keeps (sub_of rfl hK) ?_
  refine State.wr_keeps (sub_of rfl hK) ?_
  refine State.wr_keeps (sub_of rfl hK) ?_
  exact h

/-! ## MartingaleOps -/

theorem State.stoRelease_keeps {K : Nat} {s0 s : State} {d} (hK : 524290 ||| K = K) (h : Keeps K s0 s) :
    Keeps K s0 (State.stoRelease s d) := by
  unfold State.stoRelease
  refine State.path2Release_keeps (sub_of rfl hK) ?_
  refine State.setFstate_keeps (sub_of rfl hK) ?_
  refine State.tl6Off_keeps (sub_of rfl hK) ?_
  exact h

theorem State.mgClear_keeps {K : Nat} {s0 s : State} {sc} (hK : 1572866 ||| K = K) (h : Keeps K s0 s) :
    Keeps K s0 (State.mgClear s sc) := by
  unfold State.mgClear
  refine Keeps.ite ?_ ?_
  · refine State.inc_keeps (sub_of rfl hK) ?_
    exact h
  · refine State.outputs_keeps (sub_of rfl hK) ?_
    refine Keeps.ite ?_ ?_
    · refine State.each_keeps ?_ ?_
      · refine State.tl6Off_keeps (sub_of rfl hK) ?_
        exact h
      · intro s1 _ h2
        refine State.stoRelease_keeps (sub_of rfl hK) ?_
        exact h2
    · refine State.modMg_keeps (sub_of rfl hK) ?_ (by intro c hc; first | exact hc | simpa using hc | (split <;> simpa using hc))
      refine State.setf_keeps (sub_of rfl hK) ?_
      refine State.lineInactive_keeps (sub_of rfl hK) ?_
      refine State.each_keeps ?_ ?_
      · refine State.tl6Off_keeps (sub_of rfl hK) ?_
        exact h
      · intro s3 _ h4
        refine State.stoRelease_keeps (sub_of rfl hK) ?_
        exact h4

theorem State.freeFloor_keeps {K : Nat} {s0 s : State} {n d} (hK : 128 ||| K = K) (h : Keeps K s0 s) :
    Keeps K s0 (State.freeFloor s n d).2 := by
  unfold State.freeFloor
  split
  · exact h
  · refine State.drawWord_keeps (sub_of rfl hK) ?_
    exact h

theorem State.freeNearest_keeps {K : Nat} {s0 s : State} {n d} (hK : 128 ||| K = K) (h : Keeps K s0 s) :
    Keeps K s0 (State.freeNearest s n d).2 := by
  unfold State.freeNearest
  split
  · exact h
  · split
    · refine State.freeFloor_keeps (sub_of rfl hK) ?_
      exact h
    · exact h

theorem State.measure_keeps {K : Nat} {s0 s : State} {d step valid theta count} (hK : 1048706 ||| K = K) (h : Keeps K s0 s) :
    Keeps K s0 (State.measure s d step valid theta count) := by
  unfold State.measure
  refine State.modMgDrive_keeps (sub_of rfl hK) ?_
  refine State.setf_keeps (sub_of rfl hK) ?_
  refine State.wr_keeps (sub_of rfl hK) ?_
  refine State.freeFloor_keeps (sub_of rfl hK) ?_
  refine State.freeNearest_keeps (sub_of rfl hK) ?_
  exact h

theorem State.path2Pattern_keeps {K : Nat} {s0 s : State} {g} (hK : 524290 ||| K = K) (h : Keeps K s0 s) :
    Keeps K s0 (State.path2Pattern s g) := by
  unfold State.path2Pattern
  refine Keeps.ite ?_ ?_
  · refine State.each_keeps ?_ ?_
    · exact h
    · intro s1 _ h2
      refine State.path2Channel_keeps (sub_of rfl hK) ?_
      exact h2
  · exact h

theorem State.speedPattern_keeps {K : Nat} {s0 s : State} {d} (hK : 540674 ||| K = K) (h : Keeps K s0 s) :
    Keeps K s0 (State.speedPattern s d) := by
  unfold State.speedPattern
  refine State.each_keeps ?_ ?_
  · exact h
  · intro s1 _ h2
    refine Keeps.ite ?_ ?_
    · exact h2
    · refine Keeps.ite ?_ ?_
      · refine Keeps.ite ?_ ?_
        · exact h2
        · refine State.path2Pattern_keeps (sub_of rfl hK) ?_
          refine State.setPat_keeps (sub_of rfl hK) ?_
          exact h2
      · refine Keeps.ite ?_ ?_
        · refine Keeps.ite ?_ ?_
          · exact h2
          · refine State.path2Pattern_keeps (sub_of rfl hK) ?_
            refine State.setPat_keeps (sub_of rfl hK) ?_
            exact h2
        · exact h2

theorem State.sdiTrack_keeps {K : Nat} {s0 s : State} {d} (hK : 1048576 ||| K = K) (h : Keeps K s0 s) :
    Keeps K s0 (State.sdiTrack s d) := by
  unfold State.sdiTrack
  refine State.modMgDrive_keeps (sub_of rfl hK) ?_
  exact h

theorem State.speedSource_keeps {K : Nat} {s0 s : State} {d} (hK : 1048576 ||| K = K) (h : Keeps K s0 s) :
    Keeps K s0 (State.speedSource s d) := by
  unfold State.speedSource
  refine Keeps.ite ?_ ?_
  · refine State.sourceOff_keeps (sub_of rfl hK) ?_
    exact h
  · exact h

theorem State.crosscheck_keeps {K : Nat} {s0 s : State} {d} (hK : 1048576 ||| K = K) (h : Keeps K s0 s) :
    Keeps K s0 (State.crosscheck s d) := by
  unfold State.crosscheck
  refine State.modMgDrive_keeps (sub_of rfl hK) ?_
  exact h

theorem State.speedFault_keeps {K : Nat} {s0 s : State} {d} (hK : 1048576 ||| K = K) (h : Keeps K s0 s) :
    Keeps K s0 (State.speedFault s d) := by
  unfold State.speedFault
  refine Keeps.ite ?_ ?_
  · exact h
  · refine State.report_keeps (sub_of rfl hK) ?_
    refine State.sourceOn_keeps (sub_of rfl hK) ?_
    exact h

theorem State.driveTick_keeps {K : Nat} {s0 s : State} {d} (hK : 2203320214278 ||| K = K) (h : Keeps K s0 s) :
    Keeps K s0 (State.driveTick s d) := by
  unfold State.driveTick
  try dsimp only
  try dsimp only
  split
  · split
    · refine State.enterSs1_keeps (sub_of rfl hK) ?_
      refine Keeps.ite ?_ ?_
      · refine State.speedFault_keeps (sub_of rfl hK) ?_
        refine State.speedSource_keeps (sub_of rfl hK) ?_
        refine State.crosscheck_keeps (sub_of rfl hK) ?_
        refine State.speedPattern_keeps (sub_of rfl hK) ?_
        refine State.sdiTrack_keeps (sub_of rfl hK) ?_
        exact h
      · refine State.speedSource_keeps (sub_of rfl hK) ?_
        refine State.crosscheck_keeps (sub_of rfl hK) ?_
        refine State.speedPattern_keeps (sub_of rfl hK) ?_
        refine State.sdiTrack_keeps (sub_of rfl hK) ?_
        exact h
    · refine Keeps.ite ?_ ?_
      · refine State.speedFault_keeps (sub_of rfl hK) ?_
        refine State.speedSource_keeps (sub_of rfl hK) ?_
        refine State.crosscheck_keeps (sub_of rfl hK) ?_
        refine State.speedPattern_keeps (sub_of rfl hK) ?_
        refine State.sdiTrack_keeps (sub_of rfl hK) ?_
        exact h
      · refine State.speedSource_keeps (sub_of rfl hK) ?_
        refine State.crosscheck_keeps (sub_of rfl hK) ?_
        refine State.speedPattern_keeps (sub_of rfl hK) ?_
        refine State.sdiTrack_keeps (sub_of rfl hK) ?_
        exact h
  · refine Keeps.ite ?_ ?_
    · refine State.enterSto_keeps (sub_of rfl hK) ?_
      refine Keeps.ite ?_ ?_
      · refine State.speedFault_keeps (sub_of rfl hK) ?_
        refine State.speedSource_keeps (sub_of rfl hK) ?_
        refine State.crosscheck_keeps (sub_of rfl hK) ?_
        refine State.speedPattern_keeps (sub_of rfl hK) ?_
        refine State.sdiTrack_keeps (sub_of rfl hK) ?_
        exact h
      · refine State.speedSource_keeps (sub_of rfl hK) ?_
        refine State.crosscheck_keeps (sub_of rfl hK) ?_
        refine State.speedPattern_keeps (sub_of rfl hK) ?_
        refine State.sdiTrack_keeps (sub_of rfl hK) ?_
        exact h
    · refine Keeps.ite ?_ ?_
      · refine State.enterSto_keeps (sub_of rfl hK) ?_
        refine Keeps.ite ?_ ?_
        · refine State.speedFault_keeps (sub_of rfl hK) ?_
          refine State.speedSource_keeps (sub_of rfl hK) ?_
          refine State.crosscheck_keeps (sub_of rfl hK) ?_
          refine State.speedPattern_keeps (sub_of rfl hK) ?_
          refine State.sdiTrack_keeps (sub_of rfl hK) ?_
          exact h
        · refine State.speedSource_keeps (sub_of rfl hK) ?_
          refine State.crosscheck_keeps (sub_of rfl hK) ?_
          refine State.speedPattern_keeps (sub_of rfl hK) ?_
          refine State.sdiTrack_keeps (sub_of rfl hK) ?_
          exact h
      · refine Keeps.ite ?_ ?_
        · refine State.speedFault_keeps (sub_of rfl hK) ?_
          refine State.speedSource_keeps (sub_of rfl hK) ?_
          refine State.crosscheck_keeps (sub_of rfl hK) ?_
          refine State.speedPattern_keeps (sub_of rfl hK) ?_
          refine State.sdiTrack_keeps (sub_of rfl hK) ?_
          exact h
        · refine State.speedSource_keeps (sub_of rfl hK) ?_
          refine State.crosscheck_keeps (sub_of rfl hK) ?_
          refine State.speedPattern_keeps (sub_of rfl hK) ?_
          refine State.sdiTrack_keeps (sub_of rfl hK) ?_
          exact h
  · refine Keeps.ite ?_ ?_
    · refine State.speedFault_keeps (sub_of rfl hK) ?_
      refine State.speedSource_keeps (sub_of rfl hK) ?_
      refine State.crosscheck_keeps (sub_of rfl hK) ?_
      refine State.speedPattern_keeps (sub_of rfl hK) ?_
      refine State.sdiTrack_keeps (sub_of rfl hK) ?_
      exact h
    · refine State.speedSource_keeps (sub_of rfl hK) ?_
      refine State.crosscheck_keeps (sub_of rfl hK) ?_
      refine State.speedPattern_keeps (sub_of rfl hK) ?_
      refine State.sdiTrack_keeps (sub_of rfl hK) ?_
      exact h

theorem State.slpReference_keeps {K : Nat} {s0 s : State} {v} (hK : 1048578 ||| K = K) (h : Keeps K s0 s) :
    Keeps K s0 (State.slpReference s v) := by
  unfold State.slpReference
  refine State.each_keeps ?_ ?_
  · exact h
  · intro s1 _ h2
    refine Keeps.ite ?_ ?_
    · refine State.modMgDrive_keeps (sub_of rfl hK) ?_
      refine State.wr_keeps (sub_of rfl hK) ?_
      exact h2
    · refine State.setf_keeps (sub_of rfl hK) ?_
      exact h2

theorem State.mgWrite_keeps {K : Nat} {s0 s : State} {c f} (hK : 1048960 ||| K = K) (h : Keeps K s0 s)
    (hf : ∀ t, Keeps K s0 t → Keeps K s0 (f t)) :
    Keeps K s0 (State.mgWrite s c f) := by
  exact State.byCore_keeps (sub_of rfl hK) h (fun u hu => hf _ (State.modMg_keeps (sub_of rfl hK) hu (fun _ hc => hc)))

theorem State.writeSel_keeps {K : Nat} {s0 s : State} {v} (hK : 1048578 ||| K = K) (h : Keeps K s0 s) :
    Keeps K s0 (State.writeSel s v) := by
  unfold State.writeSel
  refine State.forN_keeps ?_ ?_
  · refine Keeps.ite ?_ ?_
    · refine State.slpReference_keeps (sub_of rfl hK) ?_
      refine State.wrReg_keeps (sub_of rfl hK) ?_
      exact h
    · refine State.wrReg_keeps (sub_of rfl hK) ?_
      exact h
  · intro s1 _ h2
    refine State.modMgDrive_keeps (sub_of rfl hK) ?_
    exact h2

theorem State.inputActs_keeps {K : Nat} {s0 s : State} {i_} (hK : 2203320214278 ||| K = K) (h : Keeps K s0 s) :
    Keeps K s0 (State.inputActs s i_) := by
  unfold State.inputActs
  refine Keeps.ite ?_ ?_
  · exact h
  · try dsimp only
    split
    · refine State.each_keeps ?_ ?_
      · exact h
      · intro s1 _ h2
        refine Keeps.ite ?_ ?_
        · exact h2
        · refine State.enterSto_keeps (sub_of rfl hK) ?_
          exact h2
    · refine State.each_keeps ?_ ?_
      · exact h
      · intro s3 _ h4
        refine Keeps.ite ?_ ?_
        · refine State.enterSs1_keeps (sub_of rfl hK) ?_
          exact h4
        · exact h4
    · exact h

theorem State.setSi_keeps {K : Nat} {s0 s : State} {i_ st} (hK : 2 ||| K = K) (h : Keeps K s0 s) :
    Keeps K s0 (State.setSi s i_ st) := by
  unfold State.setSi
  refine State.setf_keeps (sub_of rfl hK) ?_
  exact h

theorem State.modInput_keeps {K : Nat} {s0 s : State} {i_ f} (hK : 1048576 ||| K = K) (h : Keeps K s0 s) :
    Keeps K s0 (State.modInput s i_ f) := by
  unfold State.modInput
  refine State.modMg_keeps (sub_of rfl hK) ?_ (by intro c hc; first | exact hc | simpa using hc | (split <;> simpa using hc))
  exact h

theorem State.inputFault_keeps {K : Nat} {s0 s : State} {i_ bitAt} (hK : 2203320214278 ||| K = K) (h : Keeps K s0 s) :
    Keeps K s0 (State.inputFault s i_ bitAt) := by
  unfold State.inputFault
  refine State.outputs_keeps (sub_of rfl hK) ?_
  refine State.inputActs_keeps (sub_of rfl hK) ?_
  refine State.report_keeps (sub_of rfl hK) ?_
  refine State.modInput_keeps (sub_of rfl hK) ?_
  refine State.inc_keeps (sub_of rfl hK) ?_
  refine State.setf_keeps (sub_of rfl hK) ?_
  refine State.setSi_keeps (sub_of rfl hK) ?_
  exact h

theorem State.sampleContact_keeps {K : Nat} {s0 s : State} {i_ isB level} (hK : 2203320214278 ||| K = K) (h : Keeps K s0 s) :
    Keeps K s0 (State.sampleContact s i_ isB level) := by
  unfold State.sampleContact
  refine Keeps.ite ?_ ?_
  · refine Keeps.ite ?_ ?_
    · refine State.inputFault_keeps (sub_of rfl hK) ?_
      exact h
    · exact h
  · refine Keeps.ite ?_ ?_
    · exact h
    · refine Keeps.ite ?_ ?_
      · refine State.inputFault_keeps (sub_of rfl hK) ?_
        refine State.modInput_keeps (sub_of rfl hK) ?_
        exact h
      · refine State.modInput_keeps (sub_of rfl hK) ?_
        exact h

theorem State.contactMoves_keeps {K : Nat} {s0 s : State} {i_ now} (hK : 2203320214278 ||| K = K) (h : Keeps K s0 s) :
    Keeps K s0 (State.contactMoves s i_ now) := by
  unfold State.contactMoves
  refine State.outputs_keeps (sub_of rfl hK) ?_
  refine State.inputActs_keeps (sub_of rfl hK) ?_
  refine Keeps.ite ?_ ?_
  · refine Keeps.ite ?_ ?_
    · refine State.modInput_keeps (sub_of rfl hK) ?_
      refine State.setSi_keeps (sub_of rfl hK) ?_
      exact h
    · refine Keeps.ite ?_ ?_
      · refine State.modInput_keeps (sub_of rfl hK) ?_
        exact h
      · exact h
  · refine Keeps.ite ?_ ?_
    · refine Keeps.ite ?_ ?_
      · refine State.inputFault_keeps (sub_of rfl hK) ?_
        exact h
      · refine Keeps.ite ?_ ?_
        · refine State.modInput_keeps (sub_of rfl hK) ?_
          refine State.setSi_keeps (sub_of rfl hK) ?_
          exact h
        · refine State.modInput_keeps (sub_of rfl hK) ?_
          refine State.setSi_keeps (sub_of rfl hK) ?_
          exact h
    · refine Keeps.ite ?_ ?_
      · refine Keeps.ite ?_ ?_
        · exact h
        · refine State.modInput_keeps (sub_of rfl hK) ?_
          refine State.setSi_keeps (sub_of rfl hK) ?_
          exact h
      · refine State.modInput_keeps (sub_of rfl hK) ?_
        exact h

theorem State.resolverAngle_keeps {K : Nat} {s0 s : State} {d} (hK : 128 ||| K = K) (h : Keeps K s0 s) :
    Keeps K s0 (State.resolverAngle s d).2 := by
  unfold State.resolverAngle
  dsimp only
  generalize (if (s.mgDrive d).res4 < 0 then (-(s.mgDrive d).res5, -(s.mgDrive d).res6) else
    ((s.mgDrive d).res5, (s.mgDrive d).res6)) = yx
  split
  · exact State.drawWord_keeps (sub_of rfl hK) h
  · split
    · exact h
    · exact State.drawWord_keeps (sub_of rfl hK) h

theorem State.stepOf_keeps {K : Nat} {s0 s : State} {k} (hK : 128 ||| K = K) (h : Keeps K s0 s) :
    Keeps K s0 (State.stepOf s k).2.2.2 := by
  unfold State.stepOf
  dsimp only
  split
  · exact h
  · exact State.resolverAngle_keeps (sub_of rfl hK) h

/-! ## Pwm -/

theorem State.tripClear_keeps {K : Nat} {s0 s : State} {g} (hK : 16386 ||| K = K) (h : Keeps K s0 s) :
    Keeps K s0 (State.tripClear s g) := by
  unfold State.tripClear
  refine Keeps.ite ?_ ?_
  · exact h
  · refine Keeps.ite ?_ ?_
    · refine State.setf_keeps (sub_of rfl hK) ?_
      exact h
    · refine Keeps.ite ?_ ?_
      · refine State.setf_keeps (sub_of rfl hK) ?_
        refine State.setf_keeps (sub_of rfl hK) ?_
        exact h
      · refine State.modPg_keeps (sub_of rfl hK) ?_
        refine State.loOff_keeps (sub_of rfl hK) ?_
        refine State.hiOff_keeps (sub_of rfl hK) ?_
        refine State.setf_keeps (sub_of rfl hK) ?_
        refine State.setf_keeps (sub_of rfl hK) ?_
        exact h

theorem State.ctrlFields_keeps {K : Nat} {s0 s : State} {g v} (hK : 2 ||| K = K) (h : Keeps K s0 s) :
    Keeps K s0 (State.ctrlFields s g v).1 := by
  unfold State.ctrlFields
  try dsimp only
  split
  · exact h
  · split
    · refine State.pwmErr_keeps (sub_of rfl hK) ?_
      exact h
    · refine State.wr_keeps (sub_of rfl hK) ?_
      exact h

theorem State.genEnable_keeps {K : Nat} {s0 s : State} {g v} (hK : 16386 ||| K = K) (h : Keeps K s0 s) :
    Keeps K s0 (State.genEnable s g v) := by
  unfold State.genEnable
  refine Keeps.ite ?_ ?_
  · exact h
  · refine Keeps.ite ?_ ?_
    · refine State.ctrlFields_keeps (sub_of rfl hK) ?_
      exact h
    · refine Keeps.ite ?_ ?_
      · refine State.pwmErr_keeps (sub_of rfl hK) ?_
        refine State.ctrlFields_keeps (sub_of rfl hK) ?_
        exact h
      · refine Keeps.ite ?_ ?_
        · refine State.setf_keeps (sub_of rfl hK) ?_
          refine State.setf_keeps (sub_of rfl hK) ?_
          refine State.ctrlFields_keeps (sub_of rfl hK) ?_
          exact h
        · refine State.genStart_keeps (sub_of rfl hK) ?_
          refine State.setf_keeps (sub_of rfl hK) ?_
          refine State.ctrlFields_keeps (sub_of rfl hK) ?_
          exact h

theorem State.gstart_keeps {K : Nat} {s0 s : State} {v} (hK : 16386 ||| K = K) (h : Keeps K s0 s) :
    Keeps K s0 (State.gstart s v) := by
  unfold State.gstart
  refine State.forN_keeps ?_ ?_
  · refine State.wr_keeps (sub_of rfl hK) ?_
    exact h
  · intro s1 _ h2
    refine Keeps.ite ?_ ?_
    · refine State.genStart_keeps (sub_of rfl hK) ?_
      exact h2
    · exact h2

theorem State.cmpWrite_keeps {K : Nat} {s0 s : State} {g b v} (hK : 16386 ||| K = K) (h : Keeps K s0 s) :
    Keeps K s0 (State.cmpWrite s g b v) := by
  unfold State.cmpWrite
  refine Keeps.ite ?_ ?_
  · refine State.inc_keeps (sub_of rfl hK) ?_
    exact h
  · refine State.setShadow_keeps (sub_of rfl hK) ?_
    exact h

theorem State.yarrowStart_keeps {K : Nat} {s0 s : State} (hK : 65536 ||| K = K) (h : Keeps K s0 s) :
    Keeps K s0 (State.yarrowStart s) := by
  unfold State.yarrowStart
  refine Keeps.ite ?_ ?_
  · refine Keeps.set_yarrow (sub_of rfl hK) ?_
    exact h
  · exact h

theorem State.modTripIn_keeps {K : Nat} {s0 s : State} {i_ f} (hK : 32768 ||| K = K) (h : Keeps K s0 s) :
    Keeps K s0 (State.modTripIn s i_ f) := by
  unfold State.modTripIn
  refine Keeps.set_tripIn (sub_of rfl hK) ?_ (fun i => by first | exact i | rfl | simpa using i | (split <;> simpa using i))
  exact h

theorem State.tripInCount_keeps {K : Nat} {s0 s : State} {i_} (hK : 32768 ||| K = K) (h : Keeps K s0 s) :
    Keeps K s0 (State.tripInCount s i_) := by
  unfold State.tripInCount
  refine State.modTripIn_keeps (sub_of rfl hK) ?_
  exact h

theorem State.yarrowResult_keeps {K : Nat} {s0 s : State} {n} (hK : 1130498 ||| K = K) (h : Keeps K s0 s) :
    Keeps K s0 (State.yarrowResult s n) := by
  unfold State.yarrowResult
  refine Keeps.ite ?_ ?_
  · refine State.forN_keeps ?_ ?_
    · refine Keeps.set_yarrow_mg (sub_of rfl hK) ?_ (fun i => by first | exact i | rfl | simpa using i | (split <;> simpa using i))
      refine State.sourceOff_keeps (sub_of rfl hK) ?_
      refine State.setf_keeps (sub_of rfl hK) ?_
      refine State.inc_keeps (sub_of rfl hK) ?_
      refine State.setf_keeps (sub_of rfl hK) ?_
      exact h
    · intro s1 _ h2
      refine Keeps.ite ?_ ?_
      · exact h2
      · refine State.modPg_keeps (sub_of rfl hK) ?_
        exact h2
  · refine State.report_keeps (sub_of rfl hK) ?_
    refine State.sourceOn_keeps (sub_of rfl hK) ?_
    refine Keeps.set_mg (sub_of rfl hK) ?_ (fun i => by first | exact i | rfl | simpa using i | (split <;> simpa using i))
    refine State.setf_keeps (sub_of rfl hK) ?_
    refine State.setf_keeps (sub_of rfl hK) ?_
    refine State.inc_keeps (sub_of rfl hK) ?_
    refine State.setf_keeps (sub_of rfl hK) ?_
    exact h

theorem State.perWrite_keeps {K : Nat} {s0 s : State} {g v} (hK : 16386 ||| K = K) (h : Keeps K s0 s) :
    Keeps K s0 (State.perWrite s g v) := by
  unfold State.perWrite
  refine Keeps.ite ?_ ?_
  · refine State.pwmErr_keeps (sub_of rfl hK) ?_
    exact h
  · refine State.setShadow_keeps (sub_of rfl hK) ?_
    exact h

theorem execCompareAMatch_keeps {K : Nat} {s0 s : State} {g} (hK : 554643 ||| K = K) (h : Keeps K s0 s) :
    Answers K s0 (execCompareAMatch g s) := by
  unfold execCompareAMatch
  refine Answers.ofUnit ?_
  refine Keeps.ite ?_ ?_
  · exact h
  · refine Keeps.ite ?_ ?_
    · split
      · exact h
      · refine State.cotFrom_keeps (sub_of rfl hK) ?_
        refine State.ttSync_keeps (sub_of rfl hK) ?_
        refine State.adcEvent_keeps (sub_of rfl hK) ?_
        refine State.modPg_keeps (sub_of rfl hK) ?_
        refine State.reach_keeps (sub_of rfl hK) ?_
        exact h
    · refine Keeps.ite ?_ ?_
      · exact h
      · refine State.cotFrom_keeps (sub_of rfl hK) ?_
        refine State.ttSync_keeps (sub_of rfl hK) ?_
        refine State.adcEvent_keeps (sub_of rfl hK) ?_
        refine State.modPg_keeps (sub_of rfl hK) ?_
        refine State.reach_keeps (sub_of rfl hK) ?_
        exact h

theorem execCotForcedStart_keeps {K : Nat} {s0 s : State} {g} (hK : 554643 ||| K = K) (h : Keeps K s0 s) :
    Answers K s0 (execCotForcedStart g s) := by
  unfold execCotForcedStart
  refine Answers.ofUnit ?_
  refine Keeps.ite ?_ ?_
  · refine Keeps.ite ?_ ?_
    · refine State.modPg_keeps (sub_of rfl hK) ?_
      refine State.inc_keeps (sub_of rfl hK) ?_
      refine State.reach_keeps (sub_of rfl hK) ?_
      exact h
    · refine State.periodStart_keeps (sub_of rfl hK) ?_
      refine State.inc_keeps (sub_of rfl hK) ?_
      refine State.reach_keeps (sub_of rfl hK) ?_
      exact h
  · exact h

theorem execCotMinOffEnd_keeps {K : Nat} {s0 s : State} {g} (hK : 554643 ||| K = K) (h : Keeps K s0 s) :
    Answers K s0 (execCotMinOffEnd g s) := by
  unfold execCotMinOffEnd
  refine Answers.ofUnit ?_
  refine Keeps.ite ?_ ?_
  · refine State.periodStart_keeps (sub_of rfl hK) ?_
    refine State.reach_keeps (sub_of rfl hK) ?_
    exact h
  · exact h

theorem execCotStartEvent_keeps {K : Nat} {s0 s : State} {g} (hK : 554642 ||| K = K) (h : Keeps K s0 s) :
    Answers K s0 (execCotStartEvent g s) := by
  unfold execCotStartEvent
  refine Answers.ofUnit ?_
  refine Keeps.ite ?_ ?_
  · refine State.cotStart_keeps (sub_of rfl hK) ?_
    exact h
  · exact h

theorem execDeadTimeEnd_keeps {K : Nat} {s0 s : State} {g} (hK : 16385 ||| K = K) (h : Keeps K s0 s) :
    Answers K s0 (execDeadTimeEnd g s) := by
  unfold execDeadTimeEnd
  refine Answers.ofUnit ?_
  try dsimp only
  split
  · refine Keeps.ite ?_ ?_
    · exact h
    · refine State.hiOn_keeps (sub_of rfl hK) ?_
      refine State.reach_keeps (sub_of rfl hK) ?_
      exact h
  · refine Keeps.ite ?_ ?_
    · exact h
    · refine State.loOn_keeps (sub_of rfl hK) ?_
      refine State.reach_keeps (sub_of rfl hK) ?_
      exact h
  · exact h

theorem execGeneratorCentre_keeps {K : Nat} {s0 s : State} {g} (hK : 554643 ||| K = K) (h : Keeps K s0 s) :
    Answers K s0 (execGeneratorCentre g s) := by
  unfold execGeneratorCentre
  refine Answers.ofUnit ?_
  refine Keeps.ite ?_ ?_
  · refine State.ttSync_keeps (sub_of rfl hK) ?_
    refine State.adcEvent_keeps (sub_of rfl hK) ?_
    refine Keeps.ite ?_ ?_
    · refine State.loadPoint_keeps (sub_of rfl hK) ?_
      refine State.modPg_keeps (sub_of rfl hK) ?_
      refine State.reach_keeps (sub_of rfl hK) ?_
      exact h
    · refine State.modPg_keeps (sub_of rfl hK) ?_
      refine State.reach_keeps (sub_of rfl hK) ?_
      exact h
  · exact h

theorem execGeneratorPeriodStart_keeps {K : Nat} {s0 s : State} {g} (hK : 554643 ||| K = K) (h : Keeps K s0 s) :
    Answers K s0 (execGeneratorPeriodStart g s) := by
  unfold execGeneratorPeriodStart
  refine Answers.ofUnit ?_
  refine Keeps.ite ?_ ?_
  · refine State.periodStart_keeps (sub_of rfl hK) ?_
    refine State.reach_keeps (sub_of rfl hK) ?_
    exact h
  · refine Keeps.ite ?_ ?_
    · refine State.periodStart_keeps (sub_of rfl hK) ?_
      refine State.modPg_keeps (sub_of rfl hK) ?_
      refine State.reach_keeps (sub_of rfl hK) ?_
      exact h
    · exact h

theorem execPwmCmpWrite_keeps {K : Nat} {s0 s : State} {core g b v} (hK : 16770 ||| K = K) (h : Keeps K s0 s) :
    Answers K s0 (execPwmCmpWrite core g b v s) := by
  unfold execPwmCmpWrite
  refine Answers.ofUnit ?_
  refine State.byCore_keeps (sub_of rfl hK) ?_ ?_
  · exact h
  · intro s1 h2
    refine State.cmpWrite_keeps (sub_of rfl hK) ?_
    exact h2

theorem execPwmDisable_keeps {K : Nat} {s0 s : State} {core g} (hK : 16770 ||| K = K) (h : Keeps K s0 s) :
    Answers K s0 (execPwmDisable core g s) := by
  unfold execPwmDisable
  refine Answers.ofUnit ?_
  refine State.byCore_keeps (sub_of rfl hK) ?_ ?_
  · exact h
  · intro s1 h2
    refine Keeps.ite ?_ ?_
    · refine State.genStop_keeps (sub_of rfl hK) ?_
      exact h2
    · exact h2

theorem execPwmEnable_keeps {K : Nat} {s0 s : State} {core g v} (hK : 16770 ||| K = K) (h : Keeps K s0 s) :
    Answers K s0 (execPwmEnable core g v s) := by
  unfold execPwmEnable
  refine Answers.ofUnit ?_
  refine State.byCore_keeps (sub_of rfl hK) ?_ ?_
  · exact h
  · intro s1 h2
    refine State.genEnable_keeps (sub_of rfl hK) ?_
    exact h2

theorem execPwmGstart_keeps {K : Nat} {s0 s : State} {core v} (hK : 16770 ||| K = K) (h : Keeps K s0 s) :
    Answers K s0 (execPwmGstart core v s) := by
  unfold execPwmGstart
  refine Answers.ofUnit ?_
  refine State.byCore_keeps (sub_of rfl hK) ?_ ?_
  · exact h
  · intro s1 h2
    refine State.gstart_keeps (sub_of rfl hK) ?_
    exact h2

theorem execPwmPerWrite_keeps {K : Nat} {s0 s : State} {core g v} (hK : 16770 ||| K = K) (h : Keeps K s0 s) :
    Answers K s0 (execPwmPerWrite core g v s) := by
  unfold execPwmPerWrite
  refine Answers.ofUnit ?_
  refine State.byCore_keeps (sub_of rfl hK) ?_ ?_
  · exact h
  · intro s1 h2
    refine State.perWrite_keeps (sub_of rfl hK) ?_
    exact h2

theorem execPwmTripClear_keeps {K : Nat} {s0 s : State} {core g} (hK : 16770 ||| K = K) (h : Keeps K s0 s) :
    Answers K s0 (execPwmTripClear core g s) := by
  unfold execPwmTripClear
  refine Answers.ofUnit ?_
  refine State.byCore_keeps (sub_of rfl hK) ?_ ?_
  · exact h
  · intro s1 h2
    refine State.tripClear_keeps (sub_of rfl hK) ?_
    exact h2

theorem execReferenceEdge_keeps {K : Nat} {s0 s : State} {g} (hK : 16387 ||| K = K) (h : Keeps K s0 s) :
    Answers K s0 (execReferenceEdge g s) := by
  unfold execReferenceEdge
  refine Answers.ofUnit ?_
  refine Keeps.ite ?_ ?_
  · exact h
  · split
    · exact h
    · refine Keeps.ite ?_ ?_
      · refine State.courseEdge_keeps (sub_of rfl hK) ?_
        refine State.reach_keeps (sub_of rfl hK) ?_
        exact h
      · refine State.cotFell_keeps (sub_of rfl hK) ?_
        refine State.courseEdge_keeps (sub_of rfl hK) ?_
        refine State.reach_keeps (sub_of rfl hK) ?_
        exact h

theorem execStretchTurnOff_keeps {K : Nat} {s0 s : State} {g} (hK : 16387 ||| K = K) (h : Keeps K s0 s) :
    Answers K s0 (execStretchTurnOff g s) := by
  unfold execStretchTurnOff
  refine Answers.ofUnit ?_
  split
  · exact h
  · refine Keeps.ite ?_ ?_
    · refine State.cotFell_keeps (sub_of rfl hK) ?_
      refine State.refEdge_keeps (sub_of rfl hK) ?_
      refine State.modPg_keeps (sub_of rfl hK) ?_
      refine State.reach_keeps (sub_of rfl hK) ?_
      exact h
    · refine State.refEdge_keeps (sub_of rfl hK) ?_
      refine State.modPg_keeps (sub_of rfl hK) ?_
      refine State.reach_keeps (sub_of rfl hK) ?_
      exact h

theorem execTripInFilterExpiry_keeps {K : Nat} {s0 s : State} {i_} (hK : 2203319198471 ||| K = K) (h : Keeps K s0 s) :
    Answers K s0 (execTripInFilterExpiry i_ s) := by
  unfold execTripInFilterExpiry
  refine Answers.ofUnit ?_
  split
  · exact h
  · refine Keeps.ite ?_ ?_
    · refine State.lineActive_keeps (sub_of rfl hK) ?_
      refine State.modTripIn_keeps (sub_of rfl hK) ?_
      refine State.reach_keeps (sub_of rfl hK) ?_
      exact h
    · refine State.lineInactive_keeps (sub_of rfl hK) ?_
      refine State.modTripIn_keeps (sub_of rfl hK) ?_
      refine State.reach_keeps (sub_of rfl hK) ?_
      exact h

theorem execTripInPinChange_keeps {K : Nat} {s0 s : State} {i_ level} (hK : 32768 ||| K = K) (h : Keeps K s0 s) :
    Answers K s0 (execTripInPinChange i_ level s) := by
  unfold execTripInPinChange
  refine Answers.ofUnit ?_
  refine State.tripInCount_keeps (sub_of rfl hK) ?_
  refine State.modTripIn_keeps (sub_of rfl hK) ?_
  exact h

theorem execYarrowMeasurementDone_keeps {K : Nat} {s0 s : State} {n} (hK : 1130499 ||| K = K) (h : Keeps K s0 s) :
    Answers K s0 (execYarrowMeasurementDone n s) := by
  unfold execYarrowMeasurementDone
  refine Answers.ofUnit ?_
  split
  · exact h
  · refine State.yarrowResult_keeps (sub_of rfl hK) ?_
    refine Keeps.set_yarrow (sub_of rfl hK) ?_
    refine State.reach_keeps (sub_of rfl hK) ?_
    exact h

end Sys2Proof.Machine
end

