-- ==== Sys2Proof/Laws/KeepsActOps.lean ====
section
/-! SUPPORT. What each operation and each command of Machine/DriveOps.lean, Machine/SeqOps.lean, Machine/LvOps.lean, Machine/ActOps.lean keeps. -/

set_option linter.unusedVariables false
set_option linter.unusedTactic false
set_option linter.unreachableTactic false

namespace Sys2Proof.Machine

/-! ## DriveOps -/

theorem State.stopGens_keeps {K : Nat} {s0 s : State} {gs} (hK : 16386 ||| K = K) (h : Keeps K s0 s) :
    Keeps K s0 (State.stopGens s gs) := by
  unfold State.stopGens
  refine State.each_keeps ?_ ?_
  · exact h
  · intro s1 _ h2
    refine Keeps.ite ?_ ?_
    · refine State.genStop_keeps (sub_of rfl hK) ?_
      exact h2
    · exact h2

theorem State.lawsOff_keeps {K : Nat} {s0 s : State} {ls} (hK : 8706 ||| K = K) (h : Keeps K s0 s) :
    Keeps K s0 (State.lawsOff s ls) := by
  unfold State.lawsOff
  refine State.each_keeps ?_ ?_
  · exact h
  · intro s1 _ h2
    refine State.lawDisable_keeps (sub_of rfl hK) ?_
    exact h2

theorem State.groupStart_keeps {K : Nat} {s0 s : State} {gs} (hK : 16386 ||| K = K) (h : Keeps K s0 s) :
    Keeps K s0 (State.groupStart s gs) := by
  unfold State.groupStart
  refine State.gstart_keeps (sub_of rfl hK) ?_
  refine State.wr_keeps (sub_of rfl hK) ?_
  refine State.each_keeps ?_ ?_
  · exact h
  · intro s1 _ h2
    refine State.genEnable_keeps (sub_of rfl hK) ?_
    exact h2

theorem State.lawsOn_keeps {K : Nat} {s0 s : State} {ls} (hK : 12290 ||| K = K) (h : Keeps K s0 s) :
    Keeps K s0 (State.lawsOn s ls) := by
  unfold State.lawsOn
  refine State.each_keeps ?_ ?_
  · exact h
  · intro s1 _ h2
    refine State.lawEnable_keeps (sub_of rfl hK) ?_
    refine State.loadLaw_keeps (sub_of rfl hK) ?_
    refine State.engineStart_keeps (sub_of rfl hK) ?_
    refine State.loadFrame_keeps (sub_of rfl hK) ?_
    exact h2

theorem State.gtrip_keeps {K : Nat} {s0 s : State} {gs d} (hK : 2203325457158 ||| K = K) (h : Keeps K s0 s) :
    Keeps K s0 (State.gtrip s gs d) := by
  unfold State.gtrip
  refine State.safeGens_keeps (sub_of rfl hK) ?_
  refine State.each_keeps ?_ ?_
  · exact h
  · intro s1 _ h2
    refine State.preempt_keeps (sub_of rfl hK) ?_
    refine Keeps.ite ?_ ?_
    · refine State.setf_keeps (sub_of rfl hK) ?_
      exact h2
    · refine State.setf_keeps (sub_of rfl hK) ?_
      exact h2

theorem State.sensorEntry_keeps {K : Nat} {s0 s : State} {u k chan pol dest} (hK : 2 ||| K = K) (h : Keeps K s0 s) :
    Keeps K s0 (State.sensorEntry s u k chan pol dest) := by
  unfold State.sensorEntry
  refine State.setf_keeps (sub_of rfl hK) ?_
  refine State.setf_keeps (sub_of rfl hK) ?_
  refine State.setf_keeps (sub_of rfl hK) ?_
  refine State.setf_keeps (sub_of rfl hK) ?_
  refine State.setf_keeps (sub_of rfl hK) ?_
  exact h

theorem State.modDrv_keeps {K : Nat} {s0 s : State} {d f} (hK : 33554432 ||| K = K) (h : Keeps K s0 s) :
    Keeps K s0 (State.modDrv s d f) := by
  unfold State.modDrv
  refine Keeps.set_drives (sub_of rfl hK) ?_ (fun i => by first | exact i | rfl | simpa using i | (split <;> simpa using i))
  exact h

theorem State.setDrv_keeps {K : Nat} {s0 s : State} {d v} (hK : 532996 ||| K = K) (h : Keeps K s0 s) :
    Keeps K s0 (State.setDrv s d v) := by
  unfold State.setDrv
  refine State.putNat_keeps (sub_of rfl hK) ?_
  exact h

theorem State.drvSafeEntry_keeps {K : Nat} {s0 s : State} {d} (hK : 34087430 ||| K = K) (h : Keeps K s0 s) :
    Keeps K s0 (State.drvSafeEntry s d) := by
  unfold State.drvSafeEntry
  refine State.modDrv_keeps (sub_of rfl hK) ?_
  refine State.setDrv_keeps (sub_of rfl hK) ?_
  refine State.lawsOff_keeps (sub_of rfl hK) ?_
  exact h

theorem State.drvFault_keeps {K : Nat} {s0 s : State} {d} (hK : 35136006 ||| K = K) (h : Keeps K s0 s) :
    Keeps K s0 (State.drvFault s d) := by
  unfold State.drvFault
  refine State.drvSafeEntry_keeps (sub_of rfl hK) ?_
  refine State.report_keeps (sub_of rfl hK) ?_
  exact h

theorem State.drvMissCheck_keeps {K : Nat} {s0 s : State} {d} (hK : 35136006 ||| K = K) (h : Keeps K s0 s) :
    Keeps K s0 (State.drvMissCheck s d) := by
  unfold State.drvMissCheck
  refine Keeps.ite ?_ ?_
  · refine State.drvFault_keeps (sub_of rfl hK) ?_
    refine State.modDrv_keeps (sub_of rfl hK) ?_
    exact h
  · refine State.modDrv_keeps (sub_of rfl hK) ?_
    exact h

theorem State.currentJoins_keeps {K : Nat} {s0 s : State} {d} (hK : 2 ||| K = K) (h : Keeps K s0 s) :
    Keeps K s0 (State.currentJoins s d) := by
  unfold State.currentJoins
  refine Keeps.ite ?_ ?_
  · refine State.forN_keeps ?_ ?_
    · exact h
    · intro s1 _ h2
      refine State.setf_keeps (sub_of rfl hK) ?_
      refine State.setf_keeps (sub_of rfl hK) ?_
      exact h2
  · exact h

theorem State.sensorSlot_keeps {K : Nat} {s0 s : State} {d} (hK : 2 ||| K = K) (h : Keeps K s0 s) :
    Keeps K s0 (State.sensorSlot s d) := by
  unfold State.sensorSlot
  refine Keeps.ite ?_ ?_
  · refine State.sensorEntry_keeps (sub_of rfl hK) ?_
    refine State.setf_keeps (sub_of rfl hK) ?_
    refine State.setf_keeps (sub_of rfl hK) ?_
    refine State.setf_keeps (sub_of rfl hK) ?_
    refine State.setf_keeps (sub_of rfl hK) ?_
    exact h
  · refine State.sensorEntry_keeps (sub_of rfl hK) ?_
    refine State.sensorEntry_keeps (sub_of rfl hK) ?_
    refine State.sensorEntry_keeps (sub_of rfl hK) ?_
    refine State.setf_keeps (sub_of rfl hK) ?_
    refine State.setf_keeps (sub_of rfl hK) ?_
    refine State.setf_keeps (sub_of rfl hK) ?_
    refine State.setf_keeps (sub_of rfl hK) ?_
    exact h

theorem State.drvDirection_keeps {K : Nat} {s0 s : State} {d} (hK : 532996 ||| K = K) (h : Keeps K s0 s) :
    Keeps K s0 (State.drvDirection s d) := by
  unfold State.drvDirection
  refine Keeps.ite ?_ ?_
  · refine State.setDrv_keeps (sub_of rfl hK) ?_
    exact h
  · refine Keeps.ite ?_ ?_
    · refine State.setDrv_keeps (sub_of rfl hK) ?_
      exact h
    · exact h

theorem State.drvToOff_keeps {K : Nat} {s0 s : State} {d} (hK : 34103814 ||| K = K) (h : Keeps K s0 s) :
    Keeps K s0 (State.drvToOff s d) := by
  unfold State.drvToOff
  refine Keeps.ite ?_ ?_
  · refine State.setDrv_keeps (sub_of rfl hK) ?_
    refine State.modDrv_keeps (sub_of rfl hK) ?_
    refine State.setDrv_keeps (sub_of rfl hK) ?_
    refine State.stopGens_keeps (sub_of rfl hK) ?_
    refine State.lawsOff_keeps (sub_of rfl hK) ?_
    exact h
  · refine State.modDrv_keeps (sub_of rfl hK) ?_
    refine State.setDrv_keeps (sub_of rfl hK) ?_
    refine State.stopGens_keeps (sub_of rfl hK) ?_
    refine State.lawsOff_keeps (sub_of rfl hK) ?_
    exact h

theorem State.drvClear_keeps {K : Nat} {s0 s : State} {d} (hK : 34103814 ||| K = K) (h : Keeps K s0 s) :
    Keeps K s0 (State.drvClear s d) := by
  unfold State.drvClear
  refine Keeps.ite ?_ ?_
  · refine State.drvToOff_keeps (sub_of rfl hK) ?_
    refine State.each_keeps ?_ ?_
    · exact h
    · intro s1 _ h2
      refine State.tripClear_keeps (sub_of rfl hK) ?_
      exact h2
  · exact h

theorem State.drvCommit_keeps {K : Nat} {s0 s : State} {ids} (hK : 34103814 ||| K = K) (h : Keeps K s0 s) :
    Keeps K s0 (State.drvCommit s ids) := by
  unfold State.drvCommit
  refine State.each_keeps ?_ ?_
  · exact h
  · intro s1 _ h2
    refine Keeps.ite ?_ ?_
    · refine State.drvClear_keeps (sub_of rfl hK) ?_
      refine Keeps.ite ?_ ?_
      · refine State.drvDirection_keeps (sub_of rfl hK) ?_
        exact h2
      · exact h2
    · refine Keeps.ite ?_ ?_
      · refine State.drvDirection_keeps (sub_of rfl hK) ?_
        exact h2
      · exact h2

theorem State.drvLoad_keeps {K : Nat} {s0 s : State} {d} (hK : 537094 ||| K = K) (h : Keeps K s0 s) :
    Keeps K s0 (State.drvLoad s d) := by
  unfold State.drvLoad
  refine State.each_keeps ?_ ?_
  · refine State.lawsOn_keeps (sub_of rfl hK) ?_
    refine State.lawsOn_keeps (sub_of rfl hK) ?_
    refine State.currentJoins_keeps (sub_of rfl hK) ?_
    refine State.sensorSlot_keeps (sub_of rfl hK) ?_
    refine Keeps.ite ?_ ?_
    · refine State.forN_keeps ?_ ?_
      · exact h
      · intro s1 _ h2
        refine State.engineStop_keeps (sub_of rfl hK) ?_
        exact h2
    · exact h
  · intro s3 _ h4
    refine State.putNat_keeps (sub_of rfl hK) ?_
    exact h4

/-! ## SeqOps -/

theorem State.clearTrips_keeps {K : Nat} {s0 s : State} {gs} (hK : 16386 ||| K = K) (h : Keeps K s0 s) :
    Keeps K s0 (State.clearTrips s gs) := by
  unfold State.clearTrips
  refine State.each_keeps ?_ ?_
  · exact h
  · intro s1 _ h2
    refine State.tripClear_keeps (sub_of rfl hK) ?_
    exact h2

theorem State.genSet_keeps {K : Nat} {s0 s : State} {g mode per sync} (hK : 2 ||| K = K) (h : Keeps K s0 s) :
    Keeps K s0 (State.genSet s g mode per sync) := by
  unfold State.genSet
  try dsimp only
  split
  · refine State.setf_keeps (sub_of rfl hK) ?_
    refine State.wr_keeps (sub_of rfl hK) ?_
    refine State.wr_keeps (sub_of rfl hK) ?_
    exact h
  · refine State.setf_keeps (sub_of rfl hK) ?_
    refine State.setf_keeps (sub_of rfl hK) ?_
    refine State.setf_keeps (sub_of rfl hK) ?_
    refine State.wr_keeps (sub_of rfl hK) ?_
    refine State.wr_keeps (sub_of rfl hK) ?_
    exact h

/-! ## LvOps -/

theorem State.modLvSeq_keeps {K : Nat} {s0 s : State} {f} (hK : 2147483648 ||| K = K) (h : Keeps K s0 s) :
    Keeps K s0 (State.modLvSeq s f) := by
  unfold State.modLvSeq
  refine Keeps.set_lv (sub_of rfl hK) ?_
  exact h

theorem State.refreshPg_keeps {K : Nat} {s0 s : State} (hK : 2147483650 ||| K = K) (h : Keeps K s0 s) :
    Keeps K s0 (State.refreshPg s) := by
  unfold State.refreshPg
  refine State.modLvSeq_keeps (sub_of rfl hK) ?_
  refine State.setb_keeps (sub_of rfl hK) ?_
  exact h

theorem State.dcxOff_keeps {K : Nat} {s0 s : State} (hK : 25090 ||| K = K) (h : Keeps K s0 s) :
    Keeps K s0 (State.dcxOff s) := by
  unfold State.dcxOff
  refine State.stopGens_keeps (sub_of rfl hK) ?_
  refine State.lawsOff_keeps (sub_of rfl hK) ?_
  exact h

theorem State.setLv_keeps {K : Nat} {s0 s : State} {st} (hK : 2148016644 ||| K = K) (h : Keeps K s0 s) :
    Keeps K s0 (State.setLv s st) := by
  unfold State.setLv
  refine State.putVal_keeps (sub_of rfl hK) ?_
  refine State.modLvSeq_keeps (sub_of rfl hK) ?_
  exact h

theorem State.buckOff_keeps {K : Nat} {s0 s : State} (hK : 2147508738 ||| K = K) (h : Keeps K s0 s) :
    Keeps K s0 (State.buckOff s) := by
  unfold State.buckOff
  refine State.modLvSeq_keeps (sub_of rfl hK) ?_
  refine State.stopGens_keeps (sub_of rfl hK) ?_
  refine State.lawsOff_keeps (sub_of rfl hK) ?_
  exact h

theorem State.hiccup_keeps {K : Nat} {s0 s : State} (hK : 2148033030 ||| K = K) (h : Keeps K s0 s) :
    Keeps K s0 (State.hiccup s) := by
  unfold State.hiccup
  refine Keeps.ite ?_ ?_
  · refine State.putNat_keeps (sub_of rfl hK) ?_
    refine State.setLv_keeps (sub_of rfl hK) ?_
    refine State.buckOff_keeps (sub_of rfl hK) ?_
    refine State.modLvSeq_keeps (sub_of rfl hK) ?_
    refine State.dcxOff_keeps (sub_of rfl hK) ?_
    exact h
  · refine State.setLv_keeps (sub_of rfl hK) ?_
    refine State.modLvSeq_keeps (sub_of rfl hK) ?_
    refine State.dcxOff_keeps (sub_of rfl hK) ?_
    exact h

theorem State.ovHiccup_keeps {K : Nat} {s0 s : State} (hK : 2147508738 ||| K = K) (h : Keeps K s0 s) :
    Keeps K s0 (State.ovHiccup s) := by
  unfold State.ovHiccup
  refine Keeps.ite ?_ ?_
  · refine State.modLvSeq_keeps (sub_of rfl hK) ?_
    refine State.setf_keeps (sub_of rfl hK) ?_
    refine State.modLvSeq_keeps (sub_of rfl hK) ?_
    refine State.dcxOff_keeps (sub_of rfl hK) ?_
    exact h
  · refine State.modLvSeq_keeps (sub_of rfl hK) ?_
    refine State.modLvSeq_keeps (sub_of rfl hK) ?_
    refine State.dcxOff_keeps (sub_of rfl hK) ?_
    exact h

theorem State.rectifierOn_keeps {K : Nat} {s0 s : State} (hK : 16386 ||| K = K) (h : Keeps K s0 s) :
    Keeps K s0 (State.rectifierOn s) := by
  unfold State.rectifierOn
  refine State.genEnable_keeps (sub_of rfl hK) ?_
  exact h

theorem State.feedClear_keeps {K : Nat} {s0 s : State} (hK : 2147500034 ||| K = K) (h : Keeps K s0 s) :
    Keeps K s0 (State.feedClear s) := by
  unfold State.feedClear
  refine Keeps.ite ?_ ?_
  · refine State.modLvSeq_keeps (sub_of rfl hK) ?_
    refine State.clearTrips_keeps (sub_of rfl hK) ?_
    exact h
  · exact h

theorem State.lvToFault_keeps {K : Nat} {s0 s : State} {cause} (hK : 2148033030 ||| K = K) (h : Keeps K s0 s) :
    Keeps K s0 (State.lvToFault s cause) := by
  unfold State.lvToFault
  refine State.putNat_keeps (sub_of rfl hK) ?_
  refine State.setLv_keeps (sub_of rfl hK) ?_
  refine State.dcxOff_keeps (sub_of rfl hK) ?_
  refine State.buckOff_keeps (sub_of rfl hK) ?_
  exact h

theorem State.softStart_keeps {K : Nat} {s0 s : State} (hK : 2148037126 ||| K = K) (h : Keeps K s0 s) :
    Keeps K s0 (State.softStart s) := by
  unfold State.softStart
  refine Keeps.ite ?_ ?_
  · refine State.lvToFault_keeps (sub_of rfl hK) ?_
    exact h
  · refine State.setLv_keeps (sub_of rfl hK) ?_
    refine State.modLvSeq_keeps (sub_of rfl hK) ?_
    refine State.groupStart_keeps (sub_of rfl hK) ?_
    refine State.lawsOn_keeps (sub_of rfl hK) ?_
    exact h

theorem State.refreshOvth_keeps {K : Nat} {s0 s : State} (hK : 130 ||| K = K) (h : Keeps K s0 s) :
    Keeps K s0 (State.refreshOvth s) := by
  unfold State.refreshOvth
  refine State.setf_keeps (sub_of rfl hK) ?_
  refine State.freeFloor_keeps (sub_of rfl hK) ?_
  exact h

theorem State.refStep_keeps {K : Nat} {s0 s : State} (hK : 2147483776 ||| K = K) (h : Keeps K s0 s) :
    Keeps K s0 (State.refStep s) := by
  unfold State.refStep
  refine Keeps.ite ?_ ?_
  · refine State.modLvSeq_keeps (sub_of rfl hK) ?_
    refine State.freeFloor_keeps (sub_of rfl hK) ?_
    exact h
  · refine State.modLvSeq_keeps (sub_of rfl hK) ?_
    exact h

theorem State.lvBoundary_keeps {K : Nat} {s0 s : State} (hK : 2147500162 ||| K = K) (h : Keeps K s0 s) :
    Keeps K s0 (State.lvBoundary s) := by
  unfold State.lvBoundary
  refine Keeps.ite ?_ ?_
  · refine State.feedClear_keeps (sub_of rfl hK) ?_
    refine State.refreshPg_keeps (sub_of rfl hK) ?_
    refine State.refreshOvth_keeps (sub_of rfl hK) ?_
    refine State.refStep_keeps (sub_of rfl hK) ?_
    exact h
  · exact h

theorem State.lvCommit_keeps {K : Nat} {s0 s : State} {ids} (hK : 2147483648 ||| K = K) (h : Keeps K s0 s) :
    Keeps K s0 (State.lvCommit s ids) := by
  unfold State.lvCommit
  refine Keeps.ite ?_ ?_
  · refine State.modLvSeq_keeps (sub_of rfl hK) ?_
    exact h
  · exact h

theorem State.lvCleared_keeps {K : Nat} {s0 s : State} (hK : 2148033030 ||| K = K) (h : Keeps K s0 s) :
    Keeps K s0 (State.lvCleared s) := by
  unfold State.lvCleared
  refine Keeps.ite ?_ ?_
  · refine State.setLv_keeps (sub_of rfl hK) ?_
    refine State.modLvSeq_keeps (sub_of rfl hK) ?_
    refine State.buckOff_keeps (sub_of rfl hK) ?_
    refine State.clearTrips_keeps (sub_of rfl hK) ?_
    exact h
  · refine Keeps.ite ?_ ?_
    · refine State.modLvSeq_keeps (sub_of rfl hK) ?_
      exact h
    · exact h

theorem State.lvReaction_keeps {K : Nat} {s0 s : State} {was} (hK : 2148033030 ||| K = K) (h : Keeps K s0 s) :
    Keeps K s0 (State.lvReaction s was) := by
  unfold State.lvReaction
  refine Keeps.ite ?_ ?_
  · exact h
  · refine Keeps.ite ?_ ?_
    · refine State.modLvSeq_keeps (sub_of rfl hK) ?_
      refine State.dcxOff_keeps (sub_of rfl hK) ?_
      exact h
    · refine State.lvToFault_keeps (sub_of rfl hK) ?_
      exact h

theorem State.dcxForward_keeps {K : Nat} {s0 s : State} (hK : 2147512834 ||| K = K) (h : Keeps K s0 s) :
    Keeps K s0 (State.dcxForward s) := by
  unfold State.dcxForward
  refine State.groupStart_keeps (sub_of rfl hK) ?_
  refine State.lawsOn_keeps (sub_of rfl hK) ?_
  refine State.setShadow_keeps (sub_of rfl hK) ?_
  refine State.setShadow_keeps (sub_of rfl hK) ?_
  refine State.setShadow_keeps (sub_of rfl hK) ?_
  refine State.genSet_keeps (sub_of rfl hK) ?_
  refine State.genSet_keeps (sub_of rfl hK) ?_
  refine State.genSet_keeps (sub_of rfl hK) ?_
  refine State.modLvSeq_keeps (sub_of rfl hK) ?_
  refine State.clearTrips_keeps (sub_of rfl hK) ?_
  refine State.dcxOff_keeps (sub_of rfl hK) ?_
  exact h

theorem State.lvChannelFault_keeps {K : Nat} {s0 s : State} {m} (hK : 2148033030 ||| K = K) (h : Keeps K s0 s) :
    Keeps K s0 (State.lvChannelFault s m) := by
  unfold State.lvChannelFault
  refine Keeps.ite ?_ ?_
  · refine State.lvToFault_keeps (sub_of rfl hK) ?_
    exact h
  · exact h

theorem State.dcxBackward_keeps {K : Nat} {s0 s : State} (hK : 2147512834 ||| K = K) (h : Keeps K s0 s) :
    Keeps K s0 (State.dcxBackward s) := by
  unfold State.dcxBackward
  refine State.groupStart_keeps (sub_of rfl hK) ?_
  refine State.lawsOn_keeps (sub_of rfl hK) ?_
  refine State.setShadow_keeps (sub_of rfl hK) ?_
  refine State.setShadow_keeps (sub_of rfl hK) ?_
  refine State.setShadow_keeps (sub_of rfl hK) ?_
  refine State.genSet_keeps (sub_of rfl hK) ?_
  refine State.genSet_keeps (sub_of rfl hK) ?_
  refine State.genSet_keeps (sub_of rfl hK) ?_
  refine State.modLvSeq_keeps (sub_of rfl hK) ?_
  refine State.clearTrips_keeps (sub_of rfl hK) ?_
  refine State.dcxOff_keeps (sub_of rfl hK) ?_
  exact h

theorem State.lvToOff_keeps {K : Nat} {s0 s : State} (hK : 2148033030 ||| K = K) (h : Keeps K s0 s) :
    Keeps K s0 (State.lvToOff s) := by
  unfold State.lvToOff
  refine State.setLv_keeps (sub_of rfl hK) ?_
  refine State.dcxOff_keeps (sub_of rfl hK) ?_
  refine State.buckOff_keeps (sub_of rfl hK) ?_
  exact h

/-! ## ActOps -/

theorem State.modPump_keeps {K : Nat} {s0 s : State} {f} (hK : 137438953472 ||| K = K) (h : Keeps K s0 s) :
    Keeps K s0 (State.modPump s f) := by
  unfold State.modPump
  refine Keeps.set_pump (sub_of rfl hK) ?_
  exact h

theorem State.pumpCause_keeps {K : Nat} {s0 s : State} {k} (hK : 532996 ||| K = K) (h : Keeps K s0 s) :
    Keeps K s0 (State.pumpCause s k) := by
  unfold State.pumpCause
  refine State.putVal_keeps (sub_of rfl hK) ?_
  exact h

theorem State.modShift_keeps {K : Nat} {s0 s : State} {f} (hK : 17179869184 ||| K = K) (h : Keeps K s0 s) :
    Keeps K s0 (State.modShift s f) := by
  unfold State.modShift
  refine Keeps.set_shift (sub_of rfl hK) ?_
  exact h

theorem State.actuatorSlot_keeps {K : Nat} {s0 s : State} {t kind idx delay first last join} (hK : 2 ||| K = K) (h : Keeps K s0 s) :
    Keeps K s0 (State.actuatorSlot s t kind idx delay first last join) := by
  unfold State.actuatorSlot
  refine State.setf_keeps (sub_of rfl hK) ?_
  refine State.setf_keeps (sub_of rfl hK) ?_
  refine State.setb_keeps (sub_of rfl hK) ?_
  refine State.setf_keeps (sub_of rfl hK) ?_
  refine State.setf_keeps (sub_of rfl hK) ?_
  refine State.setf_keeps (sub_of rfl hK) ?_
  refine State.setf_keeps (sub_of rfl hK) ?_
  exact h

theorem State.setPump_keeps {K : Nat} {s0 s : State} {st} (hK : 137439486468 ||| K = K) (h : Keeps K s0 s) :
    Keeps K s0 (State.setPump s st) := by
  unfold State.setPump
  refine State.putVal_keeps (sub_of rfl hK) ?_
  refine State.modPump_keeps (sub_of rfl hK) ?_
  exact h

theorem State.floatLeg_keeps {K : Nat} {s0 s : State} {m leg} (hK : 532996 ||| K = K) (h : Keeps K s0 s) :
    Keeps K s0 (State.floatLeg s m leg) := by
  unfold State.floatLeg
  refine State.modGate_keeps (sub_of rfl hK) ?_ (by intro c hc; first | exact hc | simpa using hc | (split <;> simpa using hc))
  refine State.putNat_keeps (sub_of rfl hK) ?_
  exact h

theorem State.motorOff_keeps {K : Nat} {s0 s : State} {m} (hK : 549382 ||| K = K) (h : Keeps K s0 s) :
    Keeps K s0 (State.motorOff s m) := by
  unfold State.motorOff
  refine State.stopGens_keeps (sub_of rfl hK) ?_
  refine State.lawsOff_keeps (sub_of rfl hK) ?_
  refine State.floatLeg_keeps (sub_of rfl hK) ?_
  exact h

theorem State.pumpOff_keeps {K : Nat} {s0 s : State} (hK : 137439502854 ||| K = K) (h : Keeps K s0 s) :
    Keeps K s0 (State.pumpOff s) := by
  unfold State.pumpOff
  refine State.setPump_keeps (sub_of rfl hK) ?_
  refine State.putInt_keeps (sub_of rfl hK) ?_
  refine State.motorOff_keeps (sub_of rfl hK) ?_
  exact h

theorem State.setSh_keeps {K : Nat} {s0 s : State} {st} (hK : 532996 ||| K = K) (h : Keeps K s0 s) :
    Keeps K s0 (State.setSh s st) := by
  unfold State.setSh
  refine State.putNat_keeps (sub_of rfl hK) ?_
  exact h

theorem State.parkCause_keeps {K : Nat} {s0 s : State} {k} (hK : 532996 ||| K = K) (h : Keeps K s0 s) :
    Keeps K s0 (State.parkCause s k) := by
  unfold State.parkCause
  refine State.putVal_keeps (sub_of rfl hK) ?_
  exact h

theorem State.modPark_keeps {K : Nat} {s0 s : State} {f} (hK : 34359738368 ||| K = K) (h : Keeps K s0 s) :
    Keeps K s0 (State.modPark s f) := by
  unfold State.modPark
  refine Keeps.set_park (sub_of rfl hK) ?_
  exact h

theorem State.setPark_keeps {K : Nat} {s0 s : State} {st} (hK : 34360271364 ||| K = K) (h : Keeps K s0 s) :
    Keeps K s0 (State.setPark s st) := by
  unfold State.setPark
  refine State.putVal_keeps (sub_of rfl hK) ?_
  refine State.modPark_keeps (sub_of rfl hK) ?_
  exact h

theorem State.modClutch_keeps {K : Nat} {s0 s : State} {f} (hK : 68719476736 ||| K = K) (h : Keeps K s0 s) :
    Keeps K s0 (State.modClutch s f) := by
  unfold State.modClutch
  refine Keeps.set_clutch (sub_of rfl hK) ?_
  exact h

theorem State.setClutch_keeps {K : Nat} {s0 s : State} {st} (hK : 68720009732 ||| K = K) (h : Keeps K s0 s) :
    Keeps K s0 (State.setClutch s st) := by
  unfold State.setClutch
  refine State.putVal_keeps (sub_of rfl hK) ?_
  refine State.modClutch_keeps (sub_of rfl hK) ?_
  exact h

theorem State.actCleared_keeps {K : Nat} {s0 s : State} {was} (hK : 257698570756 ||| K = K) (h : Keeps K s0 s) :
    Keeps K s0 (State.actCleared s was) := by
  unfold State.actCleared
  refine Keeps.ite ?_ ?_
  · refine State.setClutch_keeps (sub_of rfl hK) ?_
    refine Keeps.ite ?_ ?_
    · refine State.parkCause_keeps (sub_of rfl hK) ?_
      refine State.setPark_keeps (sub_of rfl hK) ?_
      refine Keeps.ite ?_ ?_
      · refine State.pumpCause_keeps (sub_of rfl hK) ?_
        refine State.setPump_keeps (sub_of rfl hK) ?_
        refine State.modPump_keeps (sub_of rfl hK) ?_
        refine Keeps.ite ?_ ?_
        · refine State.putNat_keeps (sub_of rfl hK) ?_
          refine State.setSh_keeps (sub_of rfl hK) ?_
          refine State.modShift_keeps (sub_of rfl hK) ?_
          exact h
        · exact h
      · refine Keeps.ite ?_ ?_
        · refine State.putNat_keeps (sub_of rfl hK) ?_
          refine State.setSh_keeps (sub_of rfl hK) ?_
          refine State.modShift_keeps (sub_of rfl hK) ?_
          exact h
        · exact h
    · refine Keeps.ite ?_ ?_
      · refine State.pumpCause_keeps (sub_of rfl hK) ?_
        refine State.setPump_keeps (sub_of rfl hK) ?_
        refine State.modPump_keeps (sub_of rfl hK) ?_
        refine Keeps.ite ?_ ?_
        · refine State.putNat_keeps (sub_of rfl hK) ?_
          refine State.setSh_keeps (sub_of rfl hK) ?_
          refine State.modShift_keeps (sub_of rfl hK) ?_
          exact h
        · exact h
      · refine Keeps.ite ?_ ?_
        · refine State.putNat_keeps (sub_of rfl hK) ?_
          refine State.setSh_keeps (sub_of rfl hK) ?_
          refine State.modShift_keeps (sub_of rfl hK) ?_
          exact h
        · exact h
  · refine Keeps.ite ?_ ?_
    · refine State.parkCause_keeps (sub_of rfl hK) ?_
      refine State.setPark_keeps (sub_of rfl hK) ?_
      refine Keeps.ite ?_ ?_
      · refine State.pumpCause_keeps (sub_of rfl hK) ?_
        refine State.setPump_keeps (sub_of rfl hK) ?_
        refine State.modPump_keeps (sub_of rfl hK) ?_
        refine Keeps.ite ?_ ?_
        · refine State.putNat_keeps (sub_of rfl hK) ?_
          refine State.setSh_keeps (sub_of rfl hK) ?_
          refine State.modShift_keeps (sub_of rfl hK) ?_
          exact h
        · exact h
      · refine Keeps.ite ?_ ?_
        · refine State.putNat_keeps (sub_of rfl hK) ?_
          refine State.setSh_keeps (sub_of rfl hK) ?_
          refine State.modShift_keeps (sub_of rfl hK) ?_
          exact h
        · exact h
    · refine Keeps.ite ?_ ?_
      · refine State.pumpCause_keeps (sub_of rfl hK) ?_
        refine State.setPump_keeps (sub_of rfl hK) ?_
        refine State.modPump_keeps (sub_of rfl hK) ?_
        refine Keeps.ite ?_ ?_
        · refine State.putNat_keeps (sub_of rfl hK) ?_
          refine State.setSh_keeps (sub_of rfl hK) ?_
          refine State.modShift_keeps (sub_of rfl hK) ?_
          exact h
        · exact h
      · refine Keeps.ite ?_ ?_
        · refine State.putNat_keeps (sub_of rfl hK) ?_
          refine State.setSh_keeps (sub_of rfl hK) ?_
          refine State.modShift_keeps (sub_of rfl hK) ?_
          exact h
        · exact h

theorem State.clutchStop_keeps {K : Nat} {s0 s : State} (hK : 25090 ||| K = K) (h : Keeps K s0 s) :
    Keeps K s0 (State.clutchStop s) := by
  unfold State.clutchStop
  refine State.stopGens_keeps (sub_of rfl hK) ?_
  refine State.lawsOff_keeps (sub_of rfl hK) ?_
  exact h

theorem State.pumpToFault_keeps {K : Nat} {s0 s : State} {cause} (hK : 137439502854 ||| K = K) (h : Keeps K s0 s) :
    Keeps K s0 (State.pumpToFault s cause) := by
  unfold State.pumpToFault
  refine State.setf_keeps (sub_of rfl hK) ?_
  refine State.pumpCause_keeps (sub_of rfl hK) ?_
  refine State.setPump_keeps (sub_of rfl hK) ?_
  refine State.motorOff_keeps (sub_of rfl hK) ?_
  exact h

theorem State.pumpFail_keeps {K : Nat} {s0 s : State} (hK : 137439502854 ||| K = K) (h : Keeps K s0 s) :
    Keeps K s0 (State.pumpFail s) := by
  unfold State.pumpFail
  refine Keeps.ite ?_ ?_
  · refine State.pumpToFault_keeps (sub_of rfl hK) ?_
    refine State.modPump_keeps (sub_of rfl hK) ?_
    exact h
  · refine State.setPump_keeps (sub_of rfl hK) ?_
    refine State.motorOff_keeps (sub_of rfl hK) ?_
    refine State.modPump_keeps (sub_of rfl hK) ?_
    exact h

theorem State.parkRefresh_keeps {K : Nat} {s0 s : State} (hK : 34360271364 ||| K = K) (h : Keeps K s0 s) :
    Keeps K s0 (State.parkRefresh s) := by
  unfold State.parkRefresh
  refine Keeps.ite ?_ ?_
  · exact h
  · refine State.setPark_keeps (sub_of rfl hK) ?_
    exact h

theorem State.parkOff_keeps {K : Nat} {s0 s : State} (hK : 34359763458 ||| K = K) (h : Keeps K s0 s) :
    Keeps K s0 (State.parkOff s) := by
  unfold State.parkOff
  refine State.modPark_keeps (sub_of rfl hK) ?_
  refine State.stopGens_keeps (sub_of rfl hK) ?_
  refine State.lawsOff_keeps (sub_of rfl hK) ?_
  exact h

theorem State.actuatorEntry_keeps {K : Nat} {s0 s : State} {k} (hK : 2 ||| K = K) (h : Keeps K s0 s) :
    Keeps K s0 (State.actuatorEntry s k) := by
  unfold State.actuatorEntry
  refine State.setf_keeps (sub_of rfl hK) ?_
  refine State.setf_keeps (sub_of rfl hK) ?_
  refine State.setf_keeps (sub_of rfl hK) ?_
  refine State.setf_keeps (sub_of rfl hK) ?_
  refine State.setf_keeps (sub_of rfl hK) ?_
  exact h

theorem State.actuatorSampling_keeps {K : Nat} {s0 s : State} (hK : 2 ||| K = K) (h : Keeps K s0 s) :
    Keeps K s0 (State.actuatorSampling s) := by
  unfold State.actuatorSampling
  refine State.actuatorSlot_keeps (sub_of rfl hK) ?_
  refine State.actuatorSlot_keeps (sub_of rfl hK) ?_
  refine State.actuatorSlot_keeps (sub_of rfl hK) ?_
  refine State.forN_keeps ?_ ?_
  · exact h
  · intro s1 _ h2
    refine State.actuatorEntry_keeps (sub_of rfl hK) ?_
    exact h2

theorem State.actLawsOn_keeps {K : Nat} {s0 s : State} {ls} (hK : 12290 ||| K = K) (h : Keeps K s0 s) :
    Keeps K s0 (State.actLawsOn s ls) := by
  unfold State.actLawsOn
  refine State.lawsOn_keeps (sub_of rfl hK) ?_
  refine State.actuatorSampling_keeps (sub_of rfl hK) ?_
  exact h

theorem State.parkDrive_keeps {K : Nat} {s0 s : State} {engage} (hK : 34360291846 ||| K = K) (h : Keeps K s0 s) :
    Keeps K s0 (State.parkDrive s engage) := by
  unfold State.parkDrive
  refine Keeps.ite ?_ ?_
  · refine State.parkCause_keeps (sub_of rfl hK) ?_
    refine State.setPark_keeps (sub_of rfl hK) ?_
    refine State.parkOff_keeps (sub_of rfl hK) ?_
    exact h
  · refine State.parkCause_keeps (sub_of rfl hK) ?_
    refine State.setPark_keeps (sub_of rfl hK) ?_
    refine State.modPark_keeps (sub_of rfl hK) ?_
    refine Keeps.ite ?_ ?_
    · refine State.setShadow_keeps (sub_of rfl hK) ?_
      refine State.setShadow_keeps (sub_of rfl hK) ?_
      exact h
    · refine State.groupStart_keeps (sub_of rfl hK) ?_
      refine State.actLawsOn_keeps (sub_of rfl hK) ?_
      refine State.setShadow_keeps (sub_of rfl hK) ?_
      refine State.setShadow_keeps (sub_of rfl hK) ?_
      exact h

theorem State.modMotor_keeps {K : Nat} {s0 s : State} {m f} (hK : 8589934592 ||| K = K) (h : Keeps K s0 s) :
    Keeps K s0 (State.modMotor s m f) := by
  unfold State.modMotor
  refine Keeps.set_motors (sub_of rfl hK) ?_ (fun i => by first | exact i | rfl | simpa using i | (split <;> simpa using i))
  exact h

theorem State.shBusy_keeps {K : Nat} {s0 s : State} {b} (hK : 2 ||| K = K) (h : Keeps K s0 s) :
    Keeps K s0 (State.shBusy s b) := by
  unfold State.shBusy
  refine State.setb_keeps (sub_of rfl hK) ?_
  exact h

theorem State.shToFault_keeps {K : Nat} {s0 s : State} {cause} (hK : 549382 ||| K = K) (h : Keeps K s0 s) :
    Keeps K s0 (State.shToFault s cause) := by
  unfold State.shToFault
  refine State.putNat_keeps (sub_of rfl hK) ?_
  refine State.setSh_keeps (sub_of rfl hK) ?_
  refine State.shBusy_keeps (sub_of rfl hK) ?_
  refine State.motorOff_keeps (sub_of rfl hK) ?_
  exact h

theorem State.actChannelFault_keeps {K : Nat} {s0 s : State} {m} (hK : 240518717958 ||| K = K) (h : Keeps K s0 s) :
    Keeps K s0 (State.actChannelFault s m) := by
  unfold State.actChannelFault
  refine Keeps.ite ?_ ?_
  · refine State.shToFault_keeps (sub_of rfl hK) ?_
    exact h
  · refine Keeps.ite ?_ ?_
    · refine State.pumpCause_keeps (sub_of rfl hK) ?_
      refine State.setPump_keeps (sub_of rfl hK) ?_
      refine State.motorOff_keeps (sub_of rfl hK) ?_
      exact h
    · refine Keeps.ite ?_ ?_
      · refine State.parkCause_keeps (sub_of rfl hK) ?_
        refine State.setPark_keeps (sub_of rfl hK) ?_
        refine State.parkOff_keeps (sub_of rfl hK) ?_
        exact h
      · refine Keeps.ite ?_ ?_
        · refine State.setClutch_keeps (sub_of rfl hK) ?_
          refine State.clutchStop_keeps (sub_of rfl hK) ?_
          exact h
        · exact h

theorem State.clutchFollow_keeps {K : Nat} {s0 s : State} (hK : 68720030214 ||| K = K) (h : Keeps K s0 s) :
    Keeps K s0 (State.clutchFollow s) := by
  unfold State.clutchFollow
  refine Keeps.ite ?_ ?_
  · refine Keeps.ite ?_ ?_
    · refine State.setClutch_keeps (sub_of rfl hK) ?_
      refine State.groupStart_keeps (sub_of rfl hK) ?_
      refine State.actLawsOn_keeps (sub_of rfl hK) ?_
      exact h
    · refine State.setClutch_keeps (sub_of rfl hK) ?_
      exact h
  · refine Keeps.ite ?_ ?_
    · refine State.setClutch_keeps (sub_of rfl hK) ?_
      refine State.clutchStop_keeps (sub_of rfl hK) ?_
      exact h
    · exact h

theorem State.commutate_keeps {K : Nat} {s0 s : State} {m k} (hK : 8590484102 ||| K = K) (h : Keeps K s0 s) :
    Keeps K s0 (State.commutate s m k) := by
  unfold State.commutate
  split
  · refine State.modMotor_keeps (sub_of rfl hK) ?_
    refine State.floatLeg_keeps (sub_of rfl hK) ?_
    refine State.setShadow_keeps (sub_of rfl hK) ?_
    refine State.setShadow_keeps (sub_of rfl hK) ?_
    refine State.drawWord_keeps (sub_of rfl hK) ?_
    exact h

theorem State.actStops_keeps {K : Nat} {s0 s : State} (hK : 240518717958 ||| K = K) (h : Keeps K s0 s) :
    Keeps K s0 (State.actStops s) := by
  unfold State.actStops
  refine Keeps.ite ?_ ?_
  · refine State.pumpOff_keeps (sub_of rfl hK) ?_
    refine Keeps.ite ?_ ?_
    · refine State.setClutch_keeps (sub_of rfl hK) ?_
      refine State.clutchStop_keeps (sub_of rfl hK) ?_
      refine Keeps.ite ?_ ?_
      · refine State.parkOff_keeps (sub_of rfl hK) ?_
        refine Keeps.ite ?_ ?_
        · refine State.setSh_keeps (sub_of rfl hK) ?_
          refine State.shBusy_keeps (sub_of rfl hK) ?_
          refine State.motorOff_keeps (sub_of rfl hK) ?_
          exact h
        · exact h
      · refine Keeps.ite ?_ ?_
        · refine State.setSh_keeps (sub_of rfl hK) ?_
          refine State.shBusy_keeps (sub_of rfl hK) ?_
          refine State.motorOff_keeps (sub_of rfl hK) ?_
          exact h
        · exact h
    · refine Keeps.ite ?_ ?_
      · refine State.parkOff_keeps (sub_of rfl hK) ?_
        refine Keeps.ite ?_ ?_
        · refine State.setSh_keeps (sub_of rfl hK) ?_
          refine State.shBusy_keeps (sub_of rfl hK) ?_
          refine State.motorOff_keeps (sub_of rfl hK) ?_
          exact h
        · exact h
      · refine Keeps.ite ?_ ?_
        · refine State.setSh_keeps (sub_of rfl hK) ?_
          refine State.shBusy_keeps (sub_of rfl hK) ?_
          refine State.motorOff_keeps (sub_of rfl hK) ?_
          exact h
        · exact h
  · refine Keeps.ite ?_ ?_
    · refine State.setClutch_keeps (sub_of rfl hK) ?_
      refine State.clutchStop_keeps (sub_of rfl hK) ?_
      refine Keeps.ite ?_ ?_
      · refine State.parkOff_keeps (sub_of rfl hK) ?_
        refine Keeps.ite ?_ ?_
        · refine State.setSh_keeps (sub_of rfl hK) ?_
          refine State.shBusy_keeps (sub_of rfl hK) ?_
          refine State.motorOff_keeps (sub_of rfl hK) ?_
          exact h
        · exact h
      · refine Keeps.ite ?_ ?_
        · refine State.setSh_keeps (sub_of rfl hK) ?_
          refine State.shBusy_keeps (sub_of rfl hK) ?_
          refine State.motorOff_keeps (sub_of rfl hK) ?_
          exact h
        · exact h
    · refine Keeps.ite ?_ ?_
      · refine State.parkOff_keeps (sub_of rfl hK) ?_
        refine Keeps.ite ?_ ?_
        · refine State.setSh_keeps (sub_of rfl hK) ?_
          refine State.shBusy_keeps (sub_of rfl hK) ?_
          refine State.motorOff_keeps (sub_of rfl hK) ?_
          exact h
        · exact h
      · refine Keeps.ite ?_ ?_
        · refine State.setSh_keeps (sub_of rfl hK) ?_
          refine State.shBusy_keeps (sub_of rfl hK) ?_
          refine State.motorOff_keeps (sub_of rfl hK) ?_
          exact h
        · exact h

theorem State.actBoundary_keeps {K : Nat} {s0 s : State} (hK : 240518722054 ||| K = K) (h : Keeps K s0 s) :
    Keeps K s0 (State.actBoundary s) := by
  unfold State.actBoundary
  refine State.parkRefresh_keeps (sub_of rfl hK) ?_
  refine State.clutchFollow_keeps (sub_of rfl hK) ?_
  refine State.actStops_keeps (sub_of rfl hK) ?_
  exact h

theorem State.legs_keeps {K : Nat} {s0 s : State} {m l} (hK : 16386 ||| K = K) (h : Keeps K s0 s) :
    Keeps K s0 (State.legs s m l) := by
  unfold State.legs
  refine State.forN_keeps ?_ ?_
  · exact h
  · intro s1 _ h2
    refine State.setShadow_keeps (sub_of rfl hK) ?_
    exact h2

theorem State.shFail_keeps {K : Nat} {s0 s : State} {cause} (hK : 17180418566 ||| K = K) (h : Keeps K s0 s) :
    Keeps K s0 (State.shFail s cause) := by
  unfold State.shFail
  refine Keeps.ite ?_ ?_
  · refine State.shToFault_keeps (sub_of rfl hK) ?_
    refine State.inc_keeps (sub_of rfl hK) ?_
    refine State.modShift_keeps (sub_of rfl hK) ?_
    exact h
  · refine State.modShift_keeps (sub_of rfl hK) ?_
    refine State.putNat_keeps (sub_of rfl hK) ?_
    refine State.setSh_keeps (sub_of rfl hK) ?_
    refine State.shBusy_keeps (sub_of rfl hK) ?_
    refine State.legs_keeps (sub_of rfl hK) ?_
    refine State.floatLeg_keeps (sub_of rfl hK) ?_
    refine State.inc_keeps (sub_of rfl hK) ?_
    refine State.modShift_keeps (sub_of rfl hK) ?_
    exact h

theorem State.parkBrake_keeps {K : Nat} {s0 s : State} {next} (hK : 34360287750 ||| K = K) (h : Keeps K s0 s) :
    Keeps K s0 (State.parkBrake s next) := by
  unfold State.parkBrake
  refine State.parkRefresh_keeps (sub_of rfl hK) ?_
  refine State.modPark_keeps (sub_of rfl hK) ?_
  refine State.setShadow_keeps (sub_of rfl hK) ?_
  refine State.setShadow_keeps (sub_of rfl hK) ?_
  exact h

theorem State.pulsesBegin_keeps {K : Nat} {s0 s : State} (hK : 17180418566 ||| K = K) (h : Keeps K s0 s) :
    Keeps K s0 (State.pulsesBegin s) := by
  unfold State.pulsesBegin
  refine State.modShift_keeps (sub_of rfl hK) ?_
  refine State.shBusy_keeps (sub_of rfl hK) ?_
  refine State.legs_keeps (sub_of rfl hK) ?_
  refine State.floatLeg_keeps (sub_of rfl hK) ?_
  exact h

theorem State.pumpStart_keeps {K : Nat} {s0 s : State} (hK : 146029441670 ||| K = K) (h : Keeps K s0 s) :
    Keeps K s0 (State.pumpStart s) := by
  unfold State.pumpStart
  refine Keeps.ite ?_ ?_
  · refine State.pumpCause_keeps (sub_of rfl hK) ?_
    refine State.setPump_keeps (sub_of rfl hK) ?_
    exact h
  · refine State.setPump_keeps (sub_of rfl hK) ?_
    refine State.modMotor_keeps (sub_of rfl hK) ?_
    refine State.setShadow_keeps (sub_of rfl hK) ?_
    refine State.drawWord_keeps (sub_of rfl hK) ?_
    refine State.legs_keeps (sub_of rfl hK) ?_
    refine State.floatLeg_keeps (sub_of rfl hK) ?_
    refine State.groupStart_keeps (sub_of rfl hK) ?_
    refine State.actLawsOn_keeps (sub_of rfl hK) ?_
    exact h

end Sys2Proof.Machine
end

