-- ==== Sys2Proof/Laws/KeepsThermalOps.lean ====
section
/-! SUPPORT. What each operation and each command of Machine/Actuators.lean, Machine/Adc.lean, Machine/ThermalOps.lean keeps. -/

set_option linter.unusedVariables false
set_option linter.unusedTactic false
set_option linter.unreachableTactic false

namespace Sys2Proof.Machine

/-! ## Actuators -/

theorem State.takeCurve_keeps {K : Nat} {s0 s : State} (hK : 137439486468 ||| K = K) (h : Keeps K s0 s) :
    Keeps K s0 (State.takeCurve s) := by
  unfold State.takeCurve
  refine Keeps.ite ?_ ?_
  · refine State.modPump_keeps (sub_of rfl hK) ?_
    exact h
  · refine State.pumpCause_keeps (sub_of rfl hK) ?_
    exact h

theorem State.pumpSpeed_keeps {K : Nat} {s0 s : State} (hK : 533124 ||| K = K) (h : Keeps K s0 s) :
    Keeps K s0 (State.pumpSpeed s) := by
  unfold State.pumpSpeed
  refine State.putInt_keeps (sub_of rfl hK) ?_
  refine State.freeFloor_keeps (sub_of rfl hK) ?_
  exact h

theorem execBackEmfCrossing_keeps {K : Nat} {s0 s : State} {m} (hK : 8589934592 ||| K = K) (h : Keeps K s0 s) :
    Answers K s0 (execBackEmfCrossing m s) := by
  unfold execBackEmfCrossing
  refine Answers.ofUnit ?_
  refine Keeps.ite ?_ ?_
  · refine State.modMotor_keeps (sub_of rfl hK) ?_
    exact h
  · exact h

theorem execClutchOpenDetect_keeps {K : Nat} {s0 s : State} {ms} (hK : 68720026118 ||| K = K) (h : Keeps K s0 s) :
    Answers K s0 (execClutchOpenDetect ms s) := by
  unfold execClutchOpenDetect
  refine Answers.next ?_
  refine State.onTeam_keeps ?_ ?_
  · exact h
  · refine Keeps.ite ?_ ?_
    · refine State.setClutch_keeps (sub_of rfl hK) ?_
      refine State.setf_keeps (sub_of rfl hK) ?_
      refine State.clutchStop_keeps (sub_of rfl hK) ?_
      exact h
    · exact h

theorem execClutchPullEnd_keeps {K : Nat} {s0 s : State} (hK : 68720009733 ||| K = K) (h : Keeps K s0 s) :
    Answers K s0 (execClutchPullEnd s) := by
  unfold execClutchPullEnd
  refine Answers.next ?_
  refine State.onTeam_keeps ?_ ?_
  · exact h
  · refine Keeps.ite ?_ ?_
    · refine State.setClutch_keeps (sub_of rfl hK) ?_
      refine State.reach_keeps (sub_of rfl hK) ?_
      exact h
    · exact h

theorem execCommutation_keeps {K : Nat} {s0 s : State} {m} (hK : 8590484103 ||| K = K) (h : Keeps K s0 s) :
    Answers K s0 (execCommutation m s) := by
  unfold execCommutation
  refine Answers.ofUnit ?_
  refine Keeps.ite ?_ ?_
  · refine State.commutate_keeps (sub_of rfl hK) ?_
    refine Keeps.ite ?_ ?_
    · refine State.modMotor_keeps (sub_of rfl hK) ?_
      exact h
    · exact h
  · split
    · exact h
    · refine Keeps.ite ?_ ?_
      · refine State.commutate_keeps (sub_of rfl hK) ?_
        refine State.reach_keeps (sub_of rfl hK) ?_
        exact h
      · exact h

theorem execForcedCommutation_keeps {K : Nat} {s0 s : State} {m} (hK : 163209306759 ||| K = K) (h : Keeps K s0 s) :
    Answers K s0 (execForcedCommutation m s) := by
  unfold execForcedCommutation
  refine Answers.ofUnit ?_
  refine Keeps.ite ?_ ?_
  · refine Keeps.ite ?_ ?_
    · refine Keeps.ite ?_ ?_
      · refine State.shFail_keeps (sub_of rfl hK) ?_
        refine State.modMotor_keeps (sub_of rfl hK) ?_
        refine State.commutate_keeps (sub_of rfl hK) ?_
        refine State.reach_keeps (sub_of rfl hK) ?_
        exact h
      · refine State.pumpFail_keeps (sub_of rfl hK) ?_
        refine State.modMotor_keeps (sub_of rfl hK) ?_
        refine State.commutate_keeps (sub_of rfl hK) ?_
        refine State.reach_keeps (sub_of rfl hK) ?_
        exact h
    · refine State.modMotor_keeps (sub_of rfl hK) ?_
      refine State.commutate_keeps (sub_of rfl hK) ?_
      refine State.reach_keeps (sub_of rfl hK) ?_
      exact h
  · exact h

theorem execLvOvercurrent_keeps {K : Nat} {s0 s : State} {m} (hK : 242667250182 ||| K = K) (h : Keeps K s0 s) :
    Answers K s0 (execLvOvercurrent m s) := by
  unfold execLvOvercurrent
  refine Answers.ofUnit ?_
  refine State.actChannelFault_keeps (sub_of rfl hK) ?_
  refine State.lvChannelFault_keeps (sub_of rfl hK) ?_
  refine State.lvOverCurrent_keeps (sub_of rfl hK) ?_
  exact h

theorem execParkBrakeEnd_keeps {K : Nat} {s0 s : State} (hK : 34360291847 ||| K = K) (h : Keeps K s0 s) :
    Answers K s0 (execParkBrakeEnd s) := by
  unfold execParkBrakeEnd
  refine Answers.next ?_
  refine State.onTeam_keeps ?_ ?_
  · exact h
  · split
    · exact h
    · try dsimp only
      split
      · refine State.parkDrive_keeps (sub_of rfl hK) ?_
        refine State.reach_keeps (sub_of rfl hK) ?_
        exact h
      · refine State.parkRefresh_keeps (sub_of rfl hK) ?_
        refine State.parkOff_keeps (sub_of rfl hK) ?_
        refine State.reach_keeps (sub_of rfl hK) ?_
        exact h

theorem execParkDiscrepancy_keeps {K : Nat} {s0 s : State} (hK : 34360287750 ||| K = K) (h : Keeps K s0 s) :
    Answers K s0 (execParkDiscrepancy s) := by
  unfold execParkDiscrepancy
  refine Answers.next ?_
  refine State.onTeam_keeps ?_ ?_
  · exact h
  · refine Keeps.ite ?_ ?_
    · refine State.parkCause_keeps (sub_of rfl hK) ?_
      refine State.setPark_keeps (sub_of rfl hK) ?_
      refine State.setf_keeps (sub_of rfl hK) ?_
      refine State.parkOff_keeps (sub_of rfl hK) ?_
      exact h
    · exact h

theorem execParkDriveStart_keeps {K : Nat} {s0 s : State} (hK : 34360291846 ||| K = K) (h : Keeps K s0 s) :
    Answers K s0 (execParkDriveStart s) := by
  unfold execParkDriveStart
  refine Answers.next ?_
  refine State.onTeam_keeps ?_ ?_
  · exact h
  · refine Keeps.ite ?_ ?_
    · exact h
    · refine Keeps.ite ?_ ?_
      · refine State.parkCause_keeps (sub_of rfl hK) ?_
        exact h
      · split
        · refine Keeps.ite ?_ ?_
          · exact h
          · refine State.parkBrake_keeps (sub_of rfl hK) ?_
            exact h
        · refine State.modPark_keeps (sub_of rfl hK) ?_
          exact h
        · refine Keeps.ite ?_ ?_
          · exact h
          · refine State.parkDrive_keeps (sub_of rfl hK) ?_
            exact h

theorem execParkPositionReached_keeps {K : Nat} {s0 s : State} (hK : 34360287750 ||| K = K) (h : Keeps K s0 s) :
    Answers K s0 (execParkPositionReached s) := by
  unfold execParkPositionReached
  refine Answers.next ?_
  refine State.onTeam_keeps ?_ ?_
  · exact h
  · split
    · exact h
    · refine Keeps.ite ?_ ?_
      · refine State.parkBrake_keeps (sub_of rfl hK) ?_
        exact h
      · exact h

theorem execParkTimeout_keeps {K : Nat} {s0 s : State} (hK : 34360287751 ||| K = K) (h : Keeps K s0 s) :
    Answers K s0 (execParkTimeout s) := by
  unfold execParkTimeout
  refine Answers.next ?_
  refine State.onTeam_keeps ?_ ?_
  · exact h
  · split
    · exact h
    · refine Keeps.ite ?_ ?_
      · exact h
      · refine State.parkCause_keeps (sub_of rfl hK) ?_
        refine State.setPark_keeps (sub_of rfl hK) ?_
        refine State.inc_keeps (sub_of rfl hK) ?_
        refine State.setf_keeps (sub_of rfl hK) ?_
        refine State.parkBrake_keeps (sub_of rfl hK) ?_
        refine State.reach_keeps (sub_of rfl hK) ?_
        exact h

theorem execPumpAlignEnd_keeps {K : Nat} {s0 s : State} (hK : 146029437575 ||| K = K) (h : Keeps K s0 s) :
    Answers K s0 (execPumpAlignEnd s) := by
  unfold execPumpAlignEnd
  refine Answers.next ?_
  refine State.onTeam_keeps ?_ ?_
  · exact h
  · refine Keeps.ite ?_ ?_
    · refine State.setPump_keeps (sub_of rfl hK) ?_
      refine State.commutate_keeps (sub_of rfl hK) ?_
      refine State.modMotor_keeps (sub_of rfl hK) ?_
      refine State.reach_keeps (sub_of rfl hK) ?_
      exact h
    · exact h

theorem execPumpEvaluation_keeps {K : Nat} {s0 s : State} (hK : 146029441671 ||| K = K) (h : Keeps K s0 s) :
    Answers K s0 (execPumpEvaluation s) := by
  unfold execPumpEvaluation
  refine Answers.next ?_
  refine State.onTeam_keeps ?_ ?_
  · exact h
  · refine Keeps.ite ?_ ?_
    · refine Keeps.ite ?_ ?_
      · refine State.pumpStart_keeps (sub_of rfl hK) ?_
        refine State.takeCurve_keeps (sub_of rfl hK) ?_
        refine State.modPump_keeps (sub_of rfl hK) ?_
        refine State.reach_keeps (sub_of rfl hK) ?_
        exact h
      · refine State.takeCurve_keeps (sub_of rfl hK) ?_
        refine State.modPump_keeps (sub_of rfl hK) ?_
        refine State.reach_keeps (sub_of rfl hK) ?_
        exact h
    · refine Keeps.ite ?_ ?_
      · refine State.takeCurve_keeps (sub_of rfl hK) ?_
        refine State.modPump_keeps (sub_of rfl hK) ?_
        refine State.reach_keeps (sub_of rfl hK) ?_
        exact h
      · refine Keeps.ite ?_ ?_
        · refine State.pumpOff_keeps (sub_of rfl hK) ?_
          refine State.takeCurve_keeps (sub_of rfl hK) ?_
          refine State.modPump_keeps (sub_of rfl hK) ?_
          refine State.reach_keeps (sub_of rfl hK) ?_
          exact h
        · refine Keeps.ite ?_ ?_
          · refine State.pumpSpeed_keeps (sub_of rfl hK) ?_
            refine State.takeCurve_keeps (sub_of rfl hK) ?_
            refine State.modPump_keeps (sub_of rfl hK) ?_
            refine State.reach_keeps (sub_of rfl hK) ?_
            exact h
          · refine State.takeCurve_keeps (sub_of rfl hK) ?_
            refine State.modPump_keeps (sub_of rfl hK) ?_
            refine State.reach_keeps (sub_of rfl hK) ?_
            exact h

theorem execPumpFaultClear_keeps {K : Nat} {s0 s : State} {n} (hK : 137439486468 ||| K = K) (h : Keeps K s0 s) :
    Answers K s0 (execPumpFaultClear n s) := by
  unfold execPumpFaultClear
  refine Answers.next ?_
  refine State.onTeam_keeps ?_ ?_
  · exact h
  · refine Keeps.ite ?_ ?_
    · refine State.setPump_keeps (sub_of rfl hK) ?_
      refine State.modPump_keeps (sub_of rfl hK) ?_
      refine State.pumpCause_keeps (sub_of rfl hK) ?_
      exact h
    · exact h

theorem execPumpRampEnd_keeps {K : Nat} {s0 s : State} (hK : 137439502855 ||| K = K) (h : Keeps K s0 s) :
    Answers K s0 (execPumpRampEnd s) := by
  unfold execPumpRampEnd
  refine Answers.next ?_
  refine State.onTeam_keeps ?_ ?_
  · exact h
  · refine Keeps.ite ?_ ?_
    · refine Keeps.ite ?_ ?_
      · refine State.modPump_keeps (sub_of rfl hK) ?_
        refine State.setPump_keeps (sub_of rfl hK) ?_
        refine State.reach_keeps (sub_of rfl hK) ?_
        exact h
      · refine State.pumpFail_keeps (sub_of rfl hK) ?_
        refine State.reach_keeps (sub_of rfl hK) ?_
        exact h
    · exact h

theorem execPumpRetryWaitEnd_keeps {K : Nat} {s0 s : State} (hK : 146029441671 ||| K = K) (h : Keeps K s0 s) :
    Answers K s0 (execPumpRetryWaitEnd s) := by
  unfold execPumpRetryWaitEnd
  refine Answers.next ?_
  refine State.onTeam_keeps ?_ ?_
  · exact h
  · refine Keeps.ite ?_ ?_
    · refine State.pumpStart_keeps (sub_of rfl hK) ?_
      refine State.inc_keeps (sub_of rfl hK) ?_
      refine State.reach_keeps (sub_of rfl hK) ?_
      exact h
    · exact h

theorem execPumpSpeedFault_keeps {K : Nat} {s0 s : State} {ms} (hK : 137439502854 ||| K = K) (h : Keeps K s0 s) :
    Answers K s0 (execPumpSpeedFault ms s) := by
  unfold execPumpSpeedFault
  refine Answers.next ?_
  refine State.onTeam_keeps ?_ ?_
  · exact h
  · refine Keeps.ite ?_ ?_
    · refine State.pumpToFault_keeps (sub_of rfl hK) ?_
      exact h
    · exact h

theorem execShiftDecayFail_keeps {K : Nat} {s0 s : State} (hK : 17180418567 ||| K = K) (h : Keeps K s0 s) :
    Answers K s0 (execShiftDecayFail s) := by
  unfold execShiftDecayFail
  refine Answers.next ?_
  refine State.onTeam_keeps ?_ ?_
  · exact h
  · refine Keeps.ite ?_ ?_
    · refine Keeps.ite ?_ ?_
      · refine State.reach_keeps (sub_of rfl hK) ?_
        exact h
      · refine State.shFail_keeps (sub_of rfl hK) ?_
        refine State.reach_keeps (sub_of rfl hK) ?_
        exact h
    · exact h

theorem execShiftFaultClear_keeps {K : Nat} {s0 s : State} {n} (hK : 17180402180 ||| K = K) (h : Keeps K s0 s) :
    Answers K s0 (execShiftFaultClear n s) := by
  unfold execShiftFaultClear
  refine Answers.next ?_
  refine State.onTeam_keeps ?_ ?_
  · exact h
  · refine Keeps.ite ?_ ?_
    · refine State.setSh_keeps (sub_of rfl hK) ?_
      refine State.modShift_keeps (sub_of rfl hK) ?_
      refine State.putNat_keeps (sub_of rfl hK) ?_
      exact h
    · exact h

theorem execShiftInBand_keeps {K : Nat} {s0 s : State} (hK : 549382 ||| K = K) (h : Keeps K s0 s) :
    Answers K s0 (execShiftInBand s) := by
  unfold execShiftInBand
  refine Answers.next ?_
  refine State.onTeam_keeps ?_ ?_
  · exact h
  · refine Keeps.ite ?_ ?_
    · refine State.setSh_keeps (sub_of rfl hK) ?_
      refine State.motorOff_keeps (sub_of rfl hK) ?_
      refine State.legs_keeps (sub_of rfl hK) ?_
      refine State.floatLeg_keeps (sub_of rfl hK) ?_
      exact h
    · exact h

theorem execShiftRestEnd_keeps {K : Nat} {s0 s : State} (hK : 17179885571 ||| K = K) (h : Keeps K s0 s) :
    Answers K s0 (execShiftRestEnd s) := by
  unfold execShiftRestEnd
  refine Answers.next ?_
  refine State.onTeam_keeps ?_ ?_
  · exact h
  · refine Keeps.ite ?_ ?_
    · refine Keeps.ite ?_ ?_
      · refine State.modShift_keeps (sub_of rfl hK) ?_
        refine State.legs_keeps (sub_of rfl hK) ?_
        refine State.reach_keeps (sub_of rfl hK) ?_
        exact h
      · refine Keeps.ite ?_ ?_
        · refine State.modShift_keeps (sub_of rfl hK) ?_
          refine State.reach_keeps (sub_of rfl hK) ?_
          exact h
        · refine State.reach_keeps (sub_of rfl hK) ?_
          exact h
    · exact h

theorem execShiftRetryWaitEnd_keeps {K : Nat} {s0 s : State} (hK : 17180418567 ||| K = K) (h : Keeps K s0 s) :
    Answers K s0 (execShiftRetryWaitEnd s) := by
  unfold execShiftRetryWaitEnd
  refine Answers.next ?_
  refine State.onTeam_keeps ?_ ?_
  · exact h
  · split
    · exact h
    · refine Keeps.ite ?_ ?_
      · refine State.pulsesBegin_keeps (sub_of rfl hK) ?_
        refine State.reach_keeps (sub_of rfl hK) ?_
        exact h
      · exact h

theorem execShiftSectorDecision_keeps {K : Nat} {s0 s : State} (hK : 25770353286 ||| K = K) (h : Keeps K s0 s) :
    Answers K s0 (execShiftSectorDecision s) := by
  unfold execShiftSectorDecision
  refine Answers.next ?_
  refine State.onTeam_keeps ?_ ?_
  · exact h
  · refine Keeps.ite ?_ ?_
    · split
      · refine State.shFail_keeps (sub_of rfl hK) ?_
        refine State.setf_keeps (sub_of rfl hK) ?_
        exact h
      · refine State.setSh_keeps (sub_of rfl hK) ?_
        refine State.commutate_keeps (sub_of rfl hK) ?_
        refine State.modMotor_keeps (sub_of rfl hK) ?_
        refine State.modShift_keeps (sub_of rfl hK) ?_
        refine State.putNat_keeps (sub_of rfl hK) ?_
        exact h
    · exact h

theorem execShiftSensorFault_keeps {K : Nat} {s0 s : State} (hK : 549382 ||| K = K) (h : Keeps K s0 s) :
    Answers K s0 (execShiftSensorFault s) := by
  unfold execShiftSensorFault
  refine Answers.next ?_
  refine State.onTeam_keeps ?_ ?_
  · exact h
  · refine Keeps.ite ?_ ?_
    · refine State.shToFault_keeps (sub_of rfl hK) ?_
      exact h
    · exact h

theorem execShiftStall_keeps {K : Nat} {s0 s : State} {moved} (hK : 549382 ||| K = K) (h : Keeps K s0 s) :
    Answers K s0 (execShiftStall moved s) := by
  unfold execShiftStall
  refine Answers.next ?_
  refine State.onTeam_keeps ?_ ?_
  · exact h
  · refine Keeps.ite ?_ ?_
    · refine State.shToFault_keeps (sub_of rfl hK) ?_
      refine State.setf_keeps (sub_of rfl hK) ?_
      exact h
    · exact h

theorem execShiftStart_keeps {K : Nat} {s0 s : State} (hK : 17180422662 ||| K = K) (h : Keeps K s0 s) :
    Answers K s0 (execShiftStart s) := by
  unfold execShiftStart
  refine Answers.next ?_
  refine State.onTeam_keeps ?_ ?_
  · exact h
  · refine Keeps.ite ?_ ?_
    · refine Keeps.ite ?_ ?_
      · refine State.shToFault_keeps (sub_of rfl hK) ?_
        refine State.modShift_keeps (sub_of rfl hK) ?_
        exact h
      · refine State.setSh_keeps (sub_of rfl hK) ?_
        refine State.pulsesBegin_keeps (sub_of rfl hK) ?_
        refine State.inc_keeps (sub_of rfl hK) ?_
        refine State.groupStart_keeps (sub_of rfl hK) ?_
        refine State.actLawsOn_keeps (sub_of rfl hK) ?_
        refine State.modShift_keeps (sub_of rfl hK) ?_
        exact h
    · exact h

theorem execShiftTestPulseEnd_keeps {K : Nat} {s0 s : State} (hK : 17180418567 ||| K = K) (h : Keeps K s0 s) :
    Answers K s0 (execShiftTestPulseEnd s) := by
  unfold execShiftTestPulseEnd
  refine Answers.next ?_
  refine State.onTeam_keeps ?_ ?_
  · exact h
  · refine Keeps.ite ?_ ?_
    · refine State.modShift_keeps (sub_of rfl hK) ?_
      refine Keeps.ite ?_ ?_
      · refine State.shBusy_keeps (sub_of rfl hK) ?_
        refine State.legs_keeps (sub_of rfl hK) ?_
        refine State.putNat_keeps (sub_of rfl hK) ?_
        refine State.reach_keeps (sub_of rfl hK) ?_
        exact h
      · refine State.legs_keeps (sub_of rfl hK) ?_
        refine State.putNat_keeps (sub_of rfl hK) ?_
        refine State.reach_keeps (sub_of rfl hK) ?_
        exact h
    · exact h

theorem execStartSequenceProbe_keeps {K : Nat} {s0 s : State} (hK : 259847119367 ||| K = K) (h : Keeps K s0 s) :
    Answers K s0 (execStartSequenceProbe s) := by
  unfold execStartSequenceProbe
  refine Answers.next ?_
  refine Keeps.ite ?_ ?_
  · refine State.probeStart_keeps (sub_of rfl hK) ?_
    refine State.setf_keeps (sub_of rfl hK) ?_
    refine Keeps.ite ?_ ?_
    · refine State.actCleared_keeps (sub_of rfl hK) ?_
      refine State.lvCleared_keeps (sub_of rfl hK) ?_
      refine State.inc_keeps (sub_of rfl hK) ?_
      refine State.setf_keeps (sub_of rfl hK) ?_
      refine State.clearChannels_keeps (sub_of rfl hK) ?_
      refine State.reach_keeps (sub_of rfl hK) ?_
      exact h
    · refine State.reach_keeps (sub_of rfl hK) ?_
      exact h
  · exact h

/-! ## Adc -/

theorem State.startSlot_keeps {K : Nat} {s0 s : State} {u t e} (hK : 11267 ||| K = K) (h : Keeps K s0 s) :
    Keeps K s0 (State.startSlot s u t e) := by
  unfold State.startSlot
  try dsimp only
  split
  · refine State.countWaiting_keeps (sub_of rfl hK) ?_
    refine State.startEntry_keeps (sub_of rfl hK) ?_
    refine State.modAu_keeps (sub_of rfl hK) ?_
    refine Keeps.ite ?_ ?_
    · refine Keeps.ite ?_ ?_
      · refine State.inc_keeps (sub_of rfl hK) ?_
        refine State.setPending_keeps (sub_of rfl hK) ?_
        refine State.reach_keeps (sub_of rfl hK) ?_
        exact h
      · refine State.setPending_keeps (sub_of rfl hK) ?_
        refine State.reach_keeps (sub_of rfl hK) ?_
        exact h
    · refine State.setf_keeps (sub_of rfl hK) ?_
      refine Keeps.ite ?_ ?_
      · refine State.inc_keeps (sub_of rfl hK) ?_
        refine State.setPending_keeps (sub_of rfl hK) ?_
        refine State.reach_keeps (sub_of rfl hK) ?_
        exact h
      · refine State.setPending_keeps (sub_of rfl hK) ?_
        refine State.reach_keeps (sub_of rfl hK) ?_
        exact h
  · refine State.sequenceComplete_keeps (sub_of rfl hK) ?_
    refine State.setf_keeps (sub_of rfl hK) ?_
    refine Keeps.ite ?_ ?_
    · refine State.inc_keeps (sub_of rfl hK) ?_
      refine State.setPending_keeps (sub_of rfl hK) ?_
      refine State.reach_keeps (sub_of rfl hK) ?_
      exact h
    · refine State.setPending_keeps (sub_of rfl hK) ?_
      refine State.reach_keeps (sub_of rfl hK) ?_
      exact h

theorem State.testEnd_keeps {K : Nat} {s0 s : State} {u code} (hK : 2 ||| K = K) (h : Keeps K s0 s) :
    Keeps K s0 (State.testEnd s u code) := by
  unfold State.testEnd
  refine Keeps.ite ?_ ?_
  · refine State.setf_keeps (sub_of rfl hK) ?_
    exact h
  · exact h

theorem State.midScaleSample_keeps {K : Nat} {s0 s : State} {c code o} (hK : 1048576 ||| K = K) (h : Keeps K s0 s) :
    Keeps K s0 (State.midScaleSample s c code o) := by
  unfold State.midScaleSample
  refine Keeps.ite ?_ ?_
  · refine Keeps.set_mg (sub_of rfl hK) ?_ (fun i => by first | exact i | rfl | simpa using i | (split <;> simpa using i))
    exact h
  · exact h

theorem State.entryEnd_keeps {K : Nat} {s0 s : State} {u c code beyond} (hK : 1050114 ||| K = K) (h : Keeps K s0 s) :
    Keeps K s0 (State.entryEnd s u c code beyond) := by
  unfold State.entryEnd
  refine State.modAu_keeps (sub_of rfl hK) ?_
  refine Keeps.set_paddock (sub_of rfl hK) ?_
  refine State.midScaleSample_keeps (sub_of rfl hK) ?_
  refine State.resolverSample_keeps (sub_of rfl hK) ?_
  refine Keeps.ite ?_ ?_
  · refine State.setf_keeps (sub_of rfl hK) ?_
    refine Keeps.ite ?_ ?_
    · refine State.setf_keeps (sub_of rfl hK) ?_
      exact h
    · exact h
  · refine Keeps.ite ?_ ?_
    · refine State.setf_keeps (sub_of rfl hK) ?_
      exact h
    · exact h

theorem execAdcCalDone_keeps {K : Nat} {s0 s : State} {u m0 m1 m2 m3} (hK : 1027 ||| K = K) (h : Keeps K s0 s) :
    Answers K s0 (execAdcCalDone u m0 m1 m2 m3 s) := by
  unfold execAdcCalDone
  refine Answers.ofUnit ?_
  split
  · exact h
  · refine Keeps.ite ?_ ?_
    · refine State.startTest_keeps (sub_of rfl hK) ?_
      refine State.setf_keeps (sub_of rfl hK) ?_
      refine State.setf_keeps (sub_of rfl hK) ?_
      refine State.setf_keeps (sub_of rfl hK) ?_
      refine State.setf_keeps (sub_of rfl hK) ?_
      refine State.setf_keeps (sub_of rfl hK) ?_
      refine State.modAu_keeps (sub_of rfl hK) ?_
      refine State.reach_keeps (sub_of rfl hK) ?_
      exact h
    · refine State.setf_keeps (sub_of rfl hK) ?_
      refine State.setf_keeps (sub_of rfl hK) ?_
      refine State.setf_keeps (sub_of rfl hK) ?_
      refine State.setf_keeps (sub_of rfl hK) ?_
      refine State.setf_keeps (sub_of rfl hK) ?_
      refine State.modAu_keeps (sub_of rfl hK) ?_
      refine State.reach_keeps (sub_of rfl hK) ?_
      exact h

theorem execAdcCalStart_keeps {K : Nat} {s0 s : State} {core u} (hK : 1410 ||| K = K) (h : Keeps K s0 s) :
    Answers K s0 (execAdcCalStart core u s) := by
  unfold execAdcCalStart
  refine Answers.ofUnit ?_
  refine State.byCore_keeps (sub_of rfl hK) ?_ ?_
  · exact h
  · intro s1 h2
    refine Keeps.ite ?_ ?_
    · exact h2
    · refine State.startCal_keeps (sub_of rfl hK) ?_
      exact h2

theorem execAdcConversionEnd_keeps {K : Nat} {s0 s : State} {u code beyond} (hK : 1050115 ||| K = K) (h : Keeps K s0 s) :
    Answers K s0 (execAdcConversionEnd u code beyond s) := by
  unfold execAdcConversionEnd
  refine Answers.ofUnit ?_
  split
  · exact h
  · refine Keeps.ite ?_ ?_
    · exact h
    · refine State.adcContinue_keeps (sub_of rfl hK) ?_
      refine Keeps.ite ?_ ?_
      · refine State.testEnd_keeps (sub_of rfl hK) ?_
        refine State.modAu_keeps (sub_of rfl hK) ?_
        refine State.reach_keeps (sub_of rfl hK) ?_
        exact h
      · refine State.entryEnd_keeps (sub_of rfl hK) ?_
        refine State.modAu_keeps (sub_of rfl hK) ?_
        refine State.reach_keeps (sub_of rfl hK) ?_
        exact h

theorem execAdcDisable_keeps {K : Nat} {s0 s : State} {core u} (hK : 1410 ||| K = K) (h : Keeps K s0 s) :
    Answers K s0 (execAdcDisable core u s) := by
  unfold execAdcDisable
  refine Answers.ofUnit ?_
  refine State.byCore_keeps (sub_of rfl hK) ?_ ?_
  · exact h
  · intro s1 h2
    refine Keeps.ite ?_ ?_
    · refine State.adcStop_keeps (sub_of rfl hK) ?_
      refine State.setf_keeps (sub_of rfl hK) ?_
      exact h2
    · exact h2

theorem execAdcSamplingEnd_keeps {K : Nat} {s0 s : State} {u} (hK : 1025 ||| K = K) (h : Keeps K s0 s) :
    Answers K s0 (execAdcSamplingEnd u s) := by
  unfold execAdcSamplingEnd
  refine Answers.ofUnit ?_
  split
  · exact h
  · refine Keeps.ite ?_ ?_
    · refine State.modAu_keeps (sub_of rfl hK) ?_
      refine State.reach_keeps (sub_of rfl hK) ?_
      exact h
    · exact h

theorem execAdcSlotStart_keeps {K : Nat} {s0 s : State} {u} (hK : 11267 ||| K = K) (h : Keeps K s0 s) :
    Answers K s0 (execAdcSlotStart u s) := by
  unfold execAdcSlotStart
  refine Answers.ofUnit ?_
  try dsimp only
  split
  · exact h
  · refine Keeps.ite ?_ ?_
    · exact h
    · split
      · exact h
      · refine State.startSlot_keeps (sub_of rfl hK) ?_
        exact h

theorem execAdcSwtrgWrite_keeps {K : Nat} {s0 s : State} {core u slots} (hK : 1410 ||| K = K) (h : Keeps K s0 s) :
    Answers K s0 (execAdcSwtrgWrite core u slots s) := by
  unfold execAdcSwtrgWrite
  refine Answers.ofUnit ?_
  refine State.byCore_keeps (sub_of rfl hK) ?_ ?_
  · exact h
  · intro s1 h2
    refine State.forN_keeps ?_ ?_
    · exact h2
    · intro s3 _ h4
      refine Keeps.ite ?_ ?_
      · refine State.slotTrigger_keeps (sub_of rfl hK) ?_
        exact h4
      · exact h4

theorem execAdcTriggerDelayEnd_keeps {K : Nat} {s0 s : State} {u t} (hK : 1027 ||| K = K) (h : Keeps K s0 s) :
    Answers K s0 (execAdcTriggerDelayEnd u t s) := by
  unfold execAdcTriggerDelayEnd
  refine Answers.ofUnit ?_
  split
  · exact h
  · refine Keeps.ite ?_ ?_
    · refine State.countWaiting_keeps (sub_of rfl hK) ?_
      refine State.setPending_keeps (sub_of rfl hK) ?_
      refine State.modAu_keeps (sub_of rfl hK) ?_
      refine State.reach_keeps (sub_of rfl hK) ?_
      exact h
    · refine State.setPending_keeps (sub_of rfl hK) ?_
      refine State.modAu_keeps (sub_of rfl hK) ?_
      refine State.reach_keeps (sub_of rfl hK) ?_
      exact h

theorem execAdcUrgWrite_keeps {K : Nat} {s0 s : State} {core u entry} (hK : 1408 ||| K = K) (h : Keeps K s0 s) :
    Answers K s0 (execAdcUrgWrite core u entry s) := by
  unfold execAdcUrgWrite
  refine Answers.ofUnit ?_
  refine State.byCore_keeps (sub_of rfl hK) ?_ ?_
  · exact h
  · intro s1 h2
    refine State.urgentIssue_keeps (sub_of rfl hK) ?_
    refine State.drawWord_keeps (sub_of rfl hK) ?_
    exact h2

theorem execTriggerTimerFire_keeps {K : Nat} {s0 s : State} {n} (hK : 13443 ||| K = K) (h : Keeps K s0 s) :
    Answers K s0 (execTriggerTimerFire n s) := by
  unfold execTriggerTimerFire
  refine Answers.ofUnit ?_
  split
  · exact h
  · refine State.lawSource_keeps (sub_of rfl hK) ?_
    refine State.adcEvent_keeps (sub_of rfl hK) ?_
    refine State.frames_keeps (sub_of rfl hK) ?_
    refine Keeps.set_tt (sub_of rfl hK) ?_ (fun i => by first | exact i | rfl | simpa using i | (split <;> simpa using i))
    refine State.reach_keeps (sub_of rfl hK) ?_
    exact h

theorem execUrgentRequestEffect_keeps {K : Nat} {s0 s : State} {u} (hK : 9219 ||| K = K) (h : Keeps K s0 s) :
    Answers K s0 (execUrgentRequestEffect u s) := by
  unfold execUrgentRequestEffect
  refine Answers.ofUnit ?_
  split
  · exact h
  · refine Keeps.ite ?_ ?_
    · exact h
    · refine State.urgentEffect_keeps (sub_of rfl hK) ?_
      refine State.reach_keeps (sub_of rfl hK) ?_
      exact h

/-! ## ThermalOps -/

theorem State.modThermal_keeps {K : Nat} {s0 s : State} {f} (hK : 549755813888 ||| K = K) (h : Keeps K s0 s)
    (hf : ∀ x : ThermalSt, x.zones.length = 8 → (f x).zones.length = 8) : Keeps K s0 (State.modThermal s f) := by
  exact Keeps.set_thermal hK h (hf _)

theorem State.modZone_keeps {K : Nat} {s0 s : State} {z f} (hK : 549755813888 ||| K = K) (h : Keeps K s0 s) :
    Keeps K s0 (State.modZone s z f) := by
  unfold State.modZone
  refine State.modThermal_keeps (sub_of rfl hK) ?_ (by intro c hc; first | exact hc | simpa using hc | (split <;> simpa using hc))
  exact h

theorem State.thermalEnable_keeps {K : Nat} {s0 s : State} {v} (hK : 549755813890 ||| K = K) (h : Keeps K s0 s) :
    Keeps K s0 (State.thermalEnable s v) := by
  unfold State.thermalEnable
  refine Keeps.ite ?_ ?_
  · refine State.forN_keeps ?_ ?_
    · refine State.wrReg_keeps (sub_of rfl hK) ?_
      exact h
    · intro s1 _ h2
      refine State.modZone_keeps (sub_of rfl hK) ?_
      exact h2
  · refine Keeps.ite ?_ ?_
    · refine State.wrReg_keeps (sub_of rfl hK) ?_
      exact h
    · refine State.forN_keeps ?_ ?_
      · refine State.wrReg_keeps (sub_of rfl hK) ?_
        exact h
      · intro s3 _ h4
        refine State.modZone_keeps (sub_of rfl hK) ?_
        exact h4

theorem State.thermalLevel_keeps {K : Nat} {s0 s : State} {z a v} (hK : 2 ||| K = K) (h : Keeps K s0 s) :
    Keeps K s0 (State.thermalLevel s z a v) := by
  unfold State.thermalLevel
  refine Keeps.ite ?_ ?_
  · exact h
  · refine Keeps.ite ?_ ?_
    · refine State.wrReg_keeps (sub_of rfl hK) ?_
      exact h
    · refine State.setf_keeps (sub_of rfl hK) ?_
      exact h

theorem State.publishZone_keeps {K : Nat} {s0 s : State} {z} (hK : 532996 ||| K = K) (h : Keeps K s0 s) :
    Keeps K s0 (State.publishZone s z) := by
  unfold State.publishZone
  refine State.putNat_keeps (sub_of rfl hK) ?_
  refine State.putNat_keeps (sub_of rfl hK) ?_
  refine State.putNat_keeps (sub_of rfl hK) ?_
  refine State.putInt_keeps (sub_of rfl hK) ?_
  exact h

theorem State.setZone_keeps {K : Nat} {s0 s : State} {z st sensor t d} (hK : 2203319149318 ||| K = K) (h : Keeps K s0 s) :
    Keeps K s0 (State.setZone s z st sensor t d) := by
  unfold State.setZone
  refine State.publishZone_keeps (sub_of rfl hK) ?_
  refine Keeps.ite ?_ ?_
  · refine State.setf_keeps (sub_of rfl hK) ?_
    refine State.setf_keeps (sub_of rfl hK) ?_
    refine State.setf_keeps (sub_of rfl hK) ?_
    refine State.setb_keeps (sub_of rfl hK) ?_
    refine State.setf_keeps (sub_of rfl hK) ?_
    exact h
  · refine State.irq_keeps (sub_of rfl hK) ?_
    refine State.setf_keeps (sub_of rfl hK) ?_
    refine State.setf_keeps (sub_of rfl hK) ?_
    refine State.setf_keeps (sub_of rfl hK) ?_
    refine State.setb_keeps (sub_of rfl hK) ?_
    refine State.setf_keeps (sub_of rfl hK) ?_
    exact h

theorem State.nvmWrite_keeps {K : Nat} {s0 s : State} {k bs} (hK : 32 ||| K = K) (h : Keeps K s0 s) :
    Keeps K s0 (State.nvmWrite s k bs) := by
  induction bs generalizing s k with
  | nil => exact h
  | cons b bs ih => exact ih (State.nvmSet_keeps (sub_of rfl hK) h)

theorem State.zoneRelease_keeps {K : Nat} {s0 s : State} {z} (hK : 1048578 ||| K = K) (h : Keeps K s0 s) :
    Keeps K s0 (State.zoneRelease s z) := by
  unfold State.zoneRelease
  refine State.each_keeps ?_ ?_
  · refine State.setf_keeps (sub_of rfl hK) ?_
    exact h
  · intro s1 _ h2
    refine State.sourceOff_keeps (sub_of rfl hK) ?_
    exact h2

theorem State.zoneShutdown_keeps {K : Nat} {s0 s : State} {z} (hK : 1048578 ||| K = K) (h : Keeps K s0 s) :
    Keeps K s0 (State.zoneShutdown s z) := by
  unfold State.zoneShutdown
  refine State.inc_keeps (sub_of rfl hK) ?_
  refine State.setf_keeps (sub_of rfl hK) ?_
  refine State.each_keeps ?_ ?_
  · exact h
  · intro s1 _ h2
    refine State.sourceOn_keeps (sub_of rfl hK) ?_
    refine State.report_keeps (sub_of rfl hK) ?_
    exact h2

theorem State.recordEvent_keeps {K : Nat} {s0 s : State} {z st sensor t d before} (hK : 549755813890 ||| K = K) (h : Keeps K s0 s) :
    Keeps K s0 (State.recordEvent s z st sensor t d before) := by
  unfold State.recordEvent
  refine Keeps.ite ?_ ?_
  · refine State.setf_keeps (sub_of rfl hK) ?_
    refine State.modThermal_keeps (sub_of rfl hK) ?_ (by intro c hc; first | exact hc | simpa using hc | (split <;> simpa using hc))
    exact h
  · refine State.inc_keeps (sub_of rfl hK) ?_
    exact h

theorem State.curveValue_keeps {K : Nat} {s0 s : State} {c v} (hK : 128 ||| K = K) (h : Keeps K s0 s) :
    Keeps K s0 (State.curveValue s c v).2 := by
  unfold State.curveValue
  try dsimp only
  split
  · refine State.drawWord_keeps (sub_of rfl hK) ?_
    exact h
  · split
    · exact h
    · refine State.freeFloor_keeps (sub_of rfl hK) ?_
      exact h

theorem State.hottest_keeps {K : Nat} {s0 s : State} {z ks best} (hK : 128 ||| K = K) (h : Keeps K s0 s) :
    Keeps K s0 (State.hottest s z ks best).2 := by
  induction ks generalizing s best with
  | nil => exact h
  | cons k ks ih =>
    unfold State.hottest
    split
    · exact ih (State.curveValue_keeps (sub_of rfl hK) h)
    · exact ih h

theorem State.takeReenable_keeps {K : Nat} {s0 s : State} {z t} (hK : 549756862466 ||| K = K) (h : Keeps K s0 s) :
    Keeps K s0 (State.takeReenable s z t) := by
  unfold State.takeReenable
  refine Keeps.ite ?_ ?_
  · exact h
  · refine Keeps.ite ?_ ?_
    · refine State.setf_keeps (sub_of rfl hK) ?_
      refine State.zoneRelease_keeps (sub_of rfl hK) ?_
      refine State.modThermal_keeps (sub_of rfl hK) ?_ (by intro c hc; first | exact hc | simpa using hc | (split <;> simpa using hc))
      exact h
    · refine State.inc_keeps (sub_of rfl hK) ?_
      refine State.setf_keeps (sub_of rfl hK) ?_
      refine State.modThermal_keeps (sub_of rfl hK) ?_ (by intro c hc; first | exact hc | simpa using hc | (split <;> simpa using hc))
      exact h

theorem State.zoneDerate_keeps {K : Nat} {s0 s : State} {z st t} (hK : 128 ||| K = K) (h : Keeps K s0 s) :
    Keeps K s0 (State.zoneDerate s z st t).2 := by
  unfold State.zoneDerate
  split
  · exact h
  · split
    · exact h
    · split
      · refine State.freeFloor_keeps (sub_of rfl hK) ?_
        exact h
      · exact h

theorem State.evaluateZone_keeps {K : Nat} {s0 s : State} {z} (hK : 2753076011910 ||| K = K) (h : Keeps K s0 s) :
    Keeps K s0 (State.evaluateZone s z) := by
  unfold State.evaluateZone
  have h1 : Keeps K s0 (s.hottest z (List.range 32) none).2 := State.hottest_keeps (sub_of rfl hK) h
  generalize s.hottest z (List.range 32) none = p at h1 ⊢
  obtain ⟨found, s1⟩ := p
  dsimp only at h1 ⊢
  refine State.modZone_keeps (sub_of rfl hK) ?_
  have h2 : ∀ t st, Keeps K s0 ((((s1.takeReenable z (found.map (·.2))).modZone z (fun x => match found with
      | some _ => { x with bad := 0, good := x.good + 1 }
      | none => { x with bad := x.bad + 1, good := 0 })).zoneDerate z st t).2) := fun t st =>
    State.zoneDerate_keeps (sub_of rfl hK) (State.modZone_keeps (sub_of rfl hK) (State.takeReenable_keeps (sub_of rfl hK) h1))
  refine Keeps.ite (State.recordEvent_keeps (sub_of rfl hK) ?_) ?_ <;>
    exact Keeps.ite (State.zoneShutdown_keeps (sub_of rfl hK) (State.setZone_keeps (sub_of rfl hK) (h2 _ _))) (State.setZone_keeps (sub_of rfl hK) (h2 _ _))

theorem State.copyRecord_keeps {K : Nat} {s0 s : State} (hK : 549755813922 ||| K = K) (h : Keeps K s0 s) :
    Keeps K s0 (State.copyRecord s) := by
  unfold State.copyRecord
  split
  · exact h
  · refine Keeps.ite ?_ ?_
    · exact h
    · refine Keeps.ite ?_ ?_
      · refine State.setf_keeps (sub_of rfl hK) ?_
        refine State.modThermal_keeps (sub_of rfl hK) ?_ (by intro c hc; first | exact hc | simpa using hc | (split <;> simpa using hc))
        refine State.setf_keeps (sub_of rfl hK) ?_
        refine State.nvmWrite_keeps (sub_of rfl hK) ?_
        exact h
      · refine State.modThermal_keeps (sub_of rfl hK) ?_ (by intro c hc; first | exact hc | simpa using hc | (split <;> simpa using hc))
        refine State.setf_keeps (sub_of rfl hK) ?_
        refine State.nvmWrite_keeps (sub_of rfl hK) ?_
        exact h

end Sys2Proof.Machine
end

