-- ==== Sys2Proof/Laws/KeepsBusOps.lean ====
section
/-! SUPPORT. What each operation and each command of Machine/ResetOps.lean, Machine/BootOps.lean, Machine/PowerOps.lean, Machine/ClockOps.lean, Machine/BusOps.lean keeps. -/

set_option linter.unusedVariables false
set_option linter.unusedTactic false
set_option linter.unreachableTactic false

namespace Sys2Proof.Machine

/-! ## ResetOps -/

theorem State.codeWrite_keeps {K : Nat} {s0 s : State} {k bs} (hK : 64 ||| K = K) (h : Keeps K s0 s) :
    Keeps K s0 (State.codeWrite s k bs) := by
  induction bs generalizing s k with
  | nil => exact h
  | cons b bs ih => exact ih (State.codeSet_keeps (sub_of rfl hK) h)

theorem State.resetCtrl_keeps {K : Nat} {s0 s : State} {off} (hK : 3222927490 ||| K = K) (h : Keeps K s0 s) :
    Keeps K s0 (State.resetCtrl s off) := by
  have hf : ∀ (l : List Nat) (p : List CeSt × State), (∀ c ∈ p.1, c.laws.length = 4) → Keeps K s0 p.2 →
      let q := l.foldl (fun (p : List CeSt × State) _ =>
        if off then
          let ws := (List.range 64).map (fun k => (Config.freeWord (p.2.draws + k)).setWidth 16)
          (p.1 ++ [{ bank := { d := ws } }], { p.2 with draws := p.2.draws + 64 })
        else (p.1 ++ [({} : CeSt)], p.2)) p
      q.1.length = p.1.length + l.length ∧ (∀ c ∈ q.1, c.laws.length = 4) ∧ Keeps K s0 q.2 := by
    intro l
    induction l with
    | nil => intro p hp hk; exact ⟨rfl, hp, hk⟩
    | cons x l ih =>
      intro p hp hk
      simp only [List.foldl_cons]
      by_cases ho : off = true
      · simp only [ho, if_true] at ih ⊢
        obtain ⟨h1, h2, h3⟩ := ih (p.1 ++ [{ bank := { d := (List.range 64).map (fun k => (Config.freeWord (p.2.draws + k)).setWidth 16) } }],
          { p.2 with draws := p.2.draws + 64 }) (by
            intro c hc
            rcases List.mem_append.mp hc with hc | hc
            · exact hp c hc
            · rw [List.mem_singleton.mp hc]; exact List.length_replicate) (Keeps.set_draws (sub_of rfl hK) hk)
        refine ⟨?_, h2, h3⟩
        rw [h1]; simp only [List.length_append, List.length_cons, List.length_nil]; omega
      · have ho : off = false := by simpa using ho
        subst ho
        dsimp only at ih ⊢
        simp only [if_false, Bool.false_eq_true] at ih ⊢
        obtain ⟨h1, h2, h3⟩ := ih (p.1 ++ [({} : CeSt)], p.2) (by
            intro c hc
            rcases List.mem_append.mp hc with hc | hc
            · exact hp c hc
            · rw [List.mem_singleton.mp hc]; exact (by decide : ({} : CeSt).laws.length = 4)) hk
        refine ⟨?_, h2, h3⟩
        rw [h1]; simp only [List.length_append, List.length_cons, List.length_nil]; omega
  unfold State.resetCtrl
  obtain ⟨h1, h2, h3⟩ := hf (List.range 12) ([], s) (by simp) h
  dsimp only
  refine State.path2_keeps (sub_of rfl hK) (State.path2_keeps (sub_of rfl hK) (State.each_keeps ?_ (fun s1 _ hs => State.wr_keeps (sub_of rfl hK) hs)))
  exact Keeps.set_joins_tt_ce_pg_tripIn_yarrow_mg_chs_lv (sub_of rfl hK) h3 (fun _ => rfl) (fun _ => rfl) (fun _ => ⟨h1, h2⟩)
    (fun i => (List.length_map ..).trans i) (fun i => (List.length_map ..).trans i) (fun _ => ⟨rfl, rfl⟩)

theorem State.releaseWake_keeps {K : Nat} {s0 s : State} (hK : 2 ||| K = K) (h : Keeps K s0 s) :
    Keeps K s0 (State.releaseWake s) := by
  unfold State.releaseWake
  refine State.setf_keeps (sub_of rfl hK) ?_
  exact h

theorem State.leaveComm_keeps {K : Nat} {s0 s : State} (hK : 2203323343622 ||| K = K) (h : Keeps K s0 s) :
    Keeps K s0 (State.leaveComm s) := by
  unfold State.leaveComm
  refine State.forN_keeps ?_ ?_
  · exact h
  · intro s1 _ h2
    refine Keeps.ite ?_ ?_
    · exact h2
    · refine State.closeSession_keeps (sub_of rfl hK) ?_
      exact h2

theorem State.modBoot_keeps {K : Nat} {s0 s : State} {f} (hK : 4398046511104 ||| K = K) (h : Keeps K s0 s) :
    Keeps K s0 (State.modBoot s f) := by
  unfold State.modBoot
  refine Keeps.set_boot (sub_of rfl hK) ?_
  exact h

theorem State.corrupted_keeps {K : Nat} {s0 s : State} {j} (hK : 128 ||| K = K) (h : Keeps K s0 s) :
    Keeps K s0 (State.corrupted s j).2 := by
  unfold State.corrupted
  split
  · exact h
  · refine State.drawBytes_keeps (sub_of rfl hK) ?_
    exact h

theorem State.writeRecord_keeps {K : Nat} {s0 s : State} {active trial tries} (hK : 32 ||| K = K) (h : Keeps K s0 s) :
    Keeps K s0 (State.writeRecord s active trial tries) := by
  unfold State.writeRecord
  refine State.nvmWrite_keeps (sub_of rfl hK) ?_
  exact h

theorem State.eraseBank_keeps {K : Nat} {s0 s : State} {b} (hK : 64 ||| K = K) (h : Keeps K s0 s) :
    Keeps K s0 (State.eraseBank s b) := by
  unfold State.eraseBank
  refine Keeps.set_codeNvm (sub_of rfl hK) ?_ (fun i => by first | exact sparseWf_set i _ _ | exact sparseWf_filter i _ | rfl | exact i)
  exact h

theorem State.nvmDone_keeps {K : Nat} {s0 s : State} (hK : 6601365660646 ||| K = K) (h : Keeps K s0 s) :
    Keeps K s0 (State.nvmDone s) := by
  unfold State.nvmDone
  split
  · exact h
  · refine State.irq_keeps (sub_of rfl hK) ?_
    refine Keeps.ite ?_ ?_
    · refine State.writeRecord_keeps (sub_of rfl hK) ?_
      refine State.corrupted_keeps (sub_of rfl hK) ?_
      refine State.modBoot_keeps (sub_of rfl hK) ?_
      exact h
    · refine Keeps.ite ?_ ?_
      · refine State.codeWrite_keeps (sub_of rfl hK) ?_
        refine Keeps.ite ?_ ?_
        · refine State.eraseBank_keeps (sub_of rfl hK) ?_
          refine State.corrupted_keeps (sub_of rfl hK) ?_
          refine State.modBoot_keeps (sub_of rfl hK) ?_
          exact h
        · refine State.corrupted_keeps (sub_of rfl hK) ?_
          refine State.modBoot_keeps (sub_of rfl hK) ?_
          exact h
      · refine State.nvmWrite_keeps (sub_of rfl hK) ?_
        refine State.corrupted_keeps (sub_of rfl hK) ?_
        refine State.modBoot_keeps (sub_of rfl hK) ?_
        exact h

theorem State.modSecure_keeps {K : Nat} {s0 s : State} {f} (hK : 8388608 ||| K = K) (h : Keeps K s0 s) :
    Keeps K s0 (State.modSecure s f) := by
  unfold State.modSecure
  refine Keeps.set_sec (sub_of rfl hK) ?_
  exact h

theorem State.extend_keeps {K : Nat} {s0 s : State} {n h_} (hK : 2 ||| K = K) (h : Keeps K s0 s) :
    Keeps K s0 (State.extend s n h_) := by
  unfold State.extend
  refine State.forN_keeps ?_ ?_
  · exact h
  · intro s1 _ h2
    refine State.wr_keeps (sub_of rfl hK) ?_
    exact h2

theorem State.haltTeamS_keeps {K : Nat} {s0 s : State} (hK : 4398046511362 ||| K = K) (h : Keeps K s0 s) :
    Keeps K s0 (State.haltTeamS s) := by
  unfold State.haltTeamS
  refine State.modBoot_keeps (sub_of rfl hK) ?_
  refine State.forN_keeps ?_ ?_
  · refine State.setf_keeps (sub_of rfl hK) ?_
    exact h
  · intro s1 _ h2
    refine State.modCore_keeps (sub_of rfl hK) ?_
    exact h2

theorem State.nvmCut_keeps {K : Nat} {s0 s : State} (hK : 4398046511328 ||| K = K) (h : Keeps K s0 s) :
    Keeps K s0 (State.nvmCut s) := by
  unfold State.nvmCut
  split
  · exact h
  · refine Keeps.ite ?_ ?_
    · refine State.modBoot_keeps (sub_of rfl hK) ?_
      exact h
    · refine Keeps.ite ?_ ?_
      · refine State.codeWrite_keeps (sub_of rfl hK) ?_
        refine Keeps.ite ?_ ?_
        · refine State.eraseBank_keeps (sub_of rfl hK) ?_
          refine State.drawBytes_keeps (sub_of rfl hK) ?_
          refine State.modBoot_keeps (sub_of rfl hK) ?_
          exact h
        · refine State.drawBytes_keeps (sub_of rfl hK) ?_
          refine State.modBoot_keeps (sub_of rfl hK) ?_
          exact h
      · refine State.nvmWrite_keeps (sub_of rfl hK) ?_
        refine State.drawBytes_keeps (sub_of rfl hK) ?_
        refine State.modBoot_keeps (sub_of rfl hK) ?_
        exact h

theorem State.resetSecure_keeps {K : Nat} {s0 s : State} (hK : 4398054899936 ||| K = K) (h : Keeps K s0 s) :
    Keeps K s0 (State.resetSecure s) := by
  unfold State.resetSecure
  refine State.modSecure_keeps (sub_of rfl hK) ?_
  refine State.nvmCut_keeps (sub_of rfl hK) ?_
  exact h

theorem State.resetTeamS_keeps {K : Nat} {s0 s : State} (hK : 3575594221824 ||| K = K) (h : Keeps K s0 s) :
    Keeps K s0 (State.resetTeamS s) := by
  exact Keeps.set_cores_mode_irqPend_drives_lv_harn_clk_power (sub_of rfl hK) h (fun i => by simp [show s.cores.length = 6 from i]) (fun i => (List.length_set ..).trans i) (fun i => by simpa using i) (fun i => (List.length_set ..).trans i)

theorem State.resetRegs_keeps {K : Nat} {s0 s : State} {d} (hK : 2 ||| K = K) (h : Keeps K s0 s) :
    Keeps K s0 (State.resetRegs s d) := by
  unfold State.resetRegs
  refine Keeps.ite ?_ ?_
  · refine State.wr_keeps (sub_of rfl hK) ?_
    refine Keeps.set_regs (sub_of rfl hK) ?_ (fun i => by first | exact sparseWf_set i _ _ | exact sparseWf_filter i _ | rfl | exact i)
    exact h
  · refine Keeps.set_regs (sub_of rfl hK) ?_ (fun i => by first | exact sparseWf_set i _ _ | exact sparseWf_filter i _ | rfl | exact i)
    exact h

theorem State.resetTeamA_keeps {K : Nat} {s0 s : State} (hK : 542172774658 ||| K = K) (h : Keeps K s0 s) :
    Keeps K s0 (State.resetTeamA s) := by
  exact Keeps.set_cores_irqPend_inlet_charge_supply_solar_motors_shift_park_clutch_pump_harn (sub_of rfl hK) (State.setf_keeps (sub_of rfl hK) h) (fun i => by simp [show s.cores.length = 6 from i]) (fun i => (List.length_set ..).trans i) (fun _ => rfl) (fun _ => rfl) (fun i => (List.length_set ..).trans i)

theorem State.resetSense_keeps {K : Nat} {s0 s : State} (hK : 549857526786 ||| K = K) (h : Keeps K s0 s) :
    Keeps K s0 (State.resetSense s) := by
  unfold State.resetSense
  refine State.setb_keeps (sub_of rfl hK) ?_
  refine Keeps.set_au_mg_drives_inlet_thermal (sub_of rfl hK) ?_ (fun i => by first | exact i | rfl | simpa using i | (split <;> simpa using i)) (fun i => by first | exact i | rfl | simpa using i | (split <;> simpa using i)) (fun i => by first | exact i | rfl | simpa using i | (split <;> simpa using i)) (fun i => by first | exact i | rfl | simpa using i | (split <;> simpa using i))
  exact h

theorem State.resetDrive_keeps {K : Nat} {s0 s : State} {off} (hK : 1589250 ||| K = K) (h : Keeps K s0 s) :
    Keeps K s0 (State.resetDrive s off) := by
  unfold State.resetDrive
  refine Keeps.ite ?_ ?_
  · refine State.each_keeps ?_ ?_
    · refine Keeps.set_pg_gate_mg (sub_of rfl hK) ?_ (fun i => by first | exact i | rfl | simpa using i | (split <;> simpa using i)) (fun i => by first | exact i | rfl | simpa using i | (split <;> simpa using i)) (fun i => by first | exact i | rfl | simpa using i | (split <;> simpa using i))
      exact h
    · intro s1 _ h2
      refine State.lineInactive_keeps (sub_of rfl hK) ?_
      exact h2
  · refine State.lvChannelsRun_keeps (sub_of rfl hK) ?_
    refine State.each_keeps ?_ ?_
    · refine Keeps.set_pg_gate_mg (sub_of rfl hK) ?_ (fun i => by first | exact i | rfl | simpa using i | (split <;> simpa using i)) (fun i => by first | exact i | rfl | simpa using i | (split <;> simpa using i)) (fun i => by first | exact i | rfl | simpa using i | (split <;> simpa using i))
      exact h
    · intro s3 _ h4
      refine State.lineInactive_keeps (sub_of rfl hK) ?_
      exact h4

theorem State.resetComm_keeps {K : Nat} {s0 s : State} (hK : 7340032 ||| K = K) (h : Keeps K s0 s) :
    Keeps K s0 (State.resetComm s) := by
  unfold State.resetComm
  refine Keeps.set_mg_bus_bridle (sub_of rfl hK) ?_ (fun i => by first | exact i | rfl | simpa using i | (split <;> simpa using i)) (fun i => by first | exact i | rfl | simpa using i | (split <;> simpa using i)) (fun i => by first | exact i | rfl | simpa using i | (split <;> simpa using i))
  exact h

theorem State.resetPaddock_keeps {K : Nat} {s0 s : State} (hK : 524 ||| K = K) (h : Keeps K s0 s) :
    Keeps K s0 (State.resetPaddock s) := by
  unfold State.resetPaddock
  refine Keeps.set_sigs_descs_paddock (sub_of rfl hK) ?_ (fun i => by first | exact sparseWf_set i _ _ | exact sparseWf_filter i _ | rfl | exact i) (fun i => by first | exact sparseWf_set i _ _ | exact sparseWf_filter i _ | rfl | exact i)
  exact h

theorem State.resetDomain_keeps {K : Nat} {s0 s : State} {d off} (hK : 17587891077102 ||| K = K) (h : Keeps K s0 s) :
    Keeps K s0 (State.resetDomain s d off) := by
  unfold State.resetDomain
  refine Keeps.ite ?_ ?_
  · refine State.keepRtc_keeps (sub_of rfl hK) ?_ ?_
    · exact h
    · intro s1 h2
      refine State.resetTeamS_keeps (sub_of rfl hK) ?_
      refine State.resetRegs_keeps (sub_of rfl hK) ?_
      exact h2
  · try dsimp only
    split
    · refine State.resetTeamA_keeps (sub_of rfl hK) ?_
      refine State.resetRegs_keeps (sub_of rfl hK) ?_
      exact h
    · refine State.resetCtrl_keeps (sub_of rfl hK) ?_
      refine State.resetRegs_keeps (sub_of rfl hK) ?_
      exact h
    · refine State.resetSense_keeps (sub_of rfl hK) ?_
      refine State.resetRegs_keeps (sub_of rfl hK) ?_
      exact h
    · refine State.resetDrive_keeps (sub_of rfl hK) ?_
      refine State.resetRegs_keeps (sub_of rfl hK) ?_
      exact h
    · refine State.resetComm_keeps (sub_of rfl hK) ?_
      refine State.resetRegs_keeps (sub_of rfl hK) ?_
      exact h
    · refine State.resetPaddock_keeps (sub_of rfl hK) ?_
      refine State.resetRegs_keeps (sub_of rfl hK) ?_
      exact h
    · refine State.resetSecure_keeps (sub_of rfl hK) ?_
      refine State.resetRegs_keeps (sub_of rfl hK) ?_
      exact h
    · refine State.resetRegs_keeps (sub_of rfl hK) ?_
      exact h

theorem State.program_keeps {K : Nat} {s0 s : State} {j} (hK : 4398046511104 ||| K = K) (h : Keeps K s0 s) :
    Keeps K s0 (State.program s j) := by
  unfold State.program
  refine Keeps.ite ?_ ?_
  · exact h
  · refine State.modBoot_keeps (sub_of rfl hK) ?_
    exact h

theorem State.programRecord_keeps {K : Nat} {s0 s : State} {active trial} (hK : 4398046511104 ||| K = K) (h : Keeps K s0 s) :
    Keeps K s0 (State.programRecord s active trial) := by
  unfold State.programRecord
  refine State.program_keeps (sub_of rfl hK) ?_
  exact h

theorem State.debugEnd_keeps {K : Nat} {s0 s : State} (hK : 8388610 ||| K = K) (h : Keeps K s0 s) :
    Keeps K s0 (State.debugEnd s) := by
  unfold State.debugEnd
  refine State.modSecure_keeps (sub_of rfl hK) ?_
  refine State.wr_keeps (sub_of rfl hK) ?_
  exact h

theorem State.resetAll_keeps {K : Nat} {s0 s : State} {off} (hK : 17587891077102 ||| K = K) (h : Keeps K s0 s) :
    Keeps K s0 (State.resetAll s off) := by
  unfold State.resetAll
  refine State.debugEnd_keeps (sub_of rfl hK) ?_
  refine Keeps.foldl ?_ _ ?_
  · intro s1 _ h2
    refine State.resetDomain_keeps (sub_of rfl hK) ?_
    exact h2
  · exact h

theorem State.resetCause_keeps {K : Nat} {s0 s : State} {k} (hK : 2 ||| K = K) (h : Keeps K s0 s) :
    Keeps K s0 (State.resetCause s k) := by
  unfold State.resetCause
  refine Keeps.ite ?_ ?_
  · refine State.wr_keeps (sub_of rfl hK) ?_
    refine State.setf_keeps (sub_of rfl hK) ?_
    exact h
  · refine State.setf_keeps (sub_of rfl hK) ?_
    exact h

theorem State.warmReset_keeps {K : Nat} {s0 s : State} {k} (hK : 17587891077102 ||| K = K) (h : Keeps K s0 s) :
    Keeps K s0 (State.warmReset s k) := by
  unfold State.warmReset
  refine State.setf_keeps (sub_of rfl hK) ?_
  refine State.modBoot_keeps (sub_of rfl hK) ?_
  refine State.releaseWake_keeps (sub_of rfl hK) ?_
  refine State.resetAll_keeps (sub_of rfl hK) ?_
  refine State.resetCause_keeps (sub_of rfl hK) ?_
  exact h

theorem State.teamALost_keeps {K : Nat} {s0 s : State} (hK : 2745492710150 ||| K = K) (h : Keeps K s0 s) :
    Keeps K s0 (State.teamALost s) := by
  unfold State.teamALost
  refine State.irq_keeps (sub_of rfl hK) ?_
  refine State.setf_keeps (sub_of rfl hK) ?_
  refine State.setf_keeps (sub_of rfl hK) ?_
  refine State.setf_keeps (sub_of rfl hK) ?_
  refine State.resetTeamA_keeps (sub_of rfl hK) ?_
  refine State.each_keeps ?_ ?_
  · exact h
  · intro s1 _ h2
    refine State.report_keeps (sub_of rfl hK) ?_
    exact h2

theorem State.sequencerStart_keeps {K : Nat} {s0 s : State} {por wake} (hK : 4398046511104 ||| K = K) (h : Keeps K s0 s) :
    Keeps K s0 (State.sequencerStart s por wake) := by
  unfold State.sequencerStart
  refine State.modBoot_keeps (sub_of rfl hK) ?_
  exact h

theorem State.supplyLost_keeps {K : Nat} {s0 s : State} (hK : 17592186044398 ||| K = K) (h : Keeps K s0 s) :
    Keeps K s0 (State.supplyLost s) := by
  unfold State.supplyLost
  refine State.powerMirror_keeps (sub_of rfl hK) ?_
  refine State.modBoot_keeps (sub_of rfl hK) ?_
  refine State.forN_keeps ?_ ?_
  · refine State.releaseWake_keeps (sub_of rfl hK) ?_
    refine State.resetAll_keeps (sub_of rfl hK) ?_
    exact h
  · intro s1 _ h2
    refine State.setDomain_keeps (sub_of rfl hK) ?_
    exact h2

/-! ## BootOps -/

theorem State.setPhase_keeps {K : Nat} {s0 s : State} {v} (hK : 532998 ||| K = K) (h : Keeps K s0 s) :
    Keeps K s0 (State.setPhase s v) := by
  unfold State.setPhase
  refine State.setf_keeps (sub_of rfl hK) ?_
  refine State.putNat_keeps (sub_of rfl hK) ?_
  exact h

theorem State.converterDefaults_keeps {K : Nat} {s0 s : State} (hK : 4098 ||| K = K) (h : Keeps K s0 s) :
    Keeps K s0 (State.converterDefaults s) := by
  unfold State.converterDefaults
  refine State.ttStart_keeps (sub_of rfl hK) ?_
  refine State.setf_keeps (sub_of rfl hK) ?_
  refine State.wr_keeps (sub_of rfl hK) ?_
  refine State.each_keeps ?_ ?_
  · refine State.each_keeps ?_ ?_
    · exact h
    · intro s1 _ h2
      split
      · try dsimp only
        split
        · refine State.setf_keeps (sub_of rfl hK) ?_
          refine State.setf_keeps (sub_of rfl hK) ?_
          refine State.setf_keeps (sub_of rfl hK) ?_
          refine State.setf_keeps (sub_of rfl hK) ?_
          exact h2
        · refine State.setf_keeps (sub_of rfl hK) ?_
          refine State.setf_keeps (sub_of rfl hK) ?_
          exact h2
  · intro s3 _ h4
    split
    · refine State.setf_keeps (sub_of rfl hK) ?_
      refine State.setf_keeps (sub_of rfl hK) ?_
      refine State.setf_keeps (sub_of rfl hK) ?_
      refine State.setf_keeps (sub_of rfl hK) ?_
      exact h4

theorem State.converterBoot_keeps {K : Nat} {s0 s : State} (hK : 1586694 ||| K = K) (h : Keeps K s0 s) :
    Keeps K s0 (State.converterBoot s) := by
  unfold State.converterBoot
  refine State.forN_keeps ?_ ?_
  · refine Keeps.ite ?_ ?_
    · refine State.report_keeps (sub_of rfl hK) ?_
      refine State.setPhase_keeps (sub_of rfl hK) ?_
      refine State.converterDefaults_keeps (sub_of rfl hK) ?_
      exact h
    · refine State.setPhase_keeps (sub_of rfl hK) ?_
      refine State.converterDefaults_keeps (sub_of rfl hK) ?_
      exact h
  · intro s1 _ h2
    refine State.startCal_keeps (sub_of rfl hK) ?_
    exact h2

theorem State.bootAt_keeps {K : Nat} {s0 s : State} {d} (hK : 1586694 ||| K = K) (h : Keeps K s0 s) :
    Keeps K s0 (State.bootAt s d) := by
  unfold State.bootAt
  refine Keeps.ite ?_ ?_
  · refine State.converterBoot_keeps (sub_of rfl hK) ?_
    exact h
  · exact h

/-! ## PowerOps -/

theorem State.entryStep_keeps {K : Nat} {s0 s : State} {l} (hK : 2203318222850 ||| K = K) (h : Keeps K s0 s) :
    Keeps K s0 (State.entryStep s l) := by
  unfold State.entryStep
  refine State.each_keeps ?_ ?_
  · exact h
  · intro s1 _ h2
    refine State.setDomain_keeps (sub_of rfl hK) ?_
    refine State.startTrans_keeps (sub_of rfl hK) ?_
    exact h2

theorem State.driveUp_keeps {K : Nat} {s0 s : State} (hK : 524290 ||| K = K) (h : Keeps K s0 s) :
    Keeps K s0 (State.driveUp s) := by
  unfold State.driveUp
  refine Keeps.ite ?_ ?_
  · refine State.setf_keeps (sub_of rfl hK) ?_
    refine State.setf_keeps (sub_of rfl hK) ?_
    refine State.setf_keeps (sub_of rfl hK) ?_
    refine State.modGate_keeps (sub_of rfl hK) ?_ (by intro c hc; first | exact hc | simpa using hc | (split <;> simpa using hc))
    refine State.lvChannelsRun_keeps (sub_of rfl hK) ?_
    exact h
  · refine State.lvChannelsRun_keeps (sub_of rfl hK) ?_
    exact h

theorem State.refreshMmreq_keeps {K : Nat} {s0 s : State} (hK : 2 ||| K = K) (h : Keeps K s0 s) :
    Keeps K s0 (State.refreshMmreq s) := by
  unfold State.refreshMmreq
  refine State.setf_keeps (sub_of rfl hK) ?_
  exact h

theorem State.entryRefuse_keeps {K : Nat} {s0 s : State} {t refs} (hK : 2199023919878 ||| K = K) (h : Keeps K s0 s) :
    Keeps K s0 (State.entryRefuse s t refs) := by
  unfold State.entryRefuse
  refine State.powerMirror_keeps (sub_of rfl hK) ?_
  refine State.powerRecord_keeps (sub_of rfl hK) ?_
  refine State.setf_keeps (sub_of rfl hK) ?_
  refine State.each_keeps ?_ ?_
  · refine State.leaveWfi_keeps (sub_of rfl hK) ?_
    refine State.modPower_keeps (sub_of rfl hK) ?_
    exact h
  · intro s1 _ h2
    refine State.inc_keeps (sub_of rfl hK) ?_
    exact h2

theorem State.leaveDomain_keeps {K : Nat} {s0 s : State} {d} (hK : 2203323360006 ||| K = K) (h : Keeps K s0 s) :
    Keeps K s0 (State.leaveDomain s d) := by
  unfold State.leaveDomain
  split
  · refine State.releaseWake_keeps (sub_of rfl hK) ?_
    exact h
  · refine State.forN_keeps ?_ ?_
    · exact h
    · intro s1 _ h2
      refine State.bothOff_keeps (sub_of rfl hK) ?_
      exact h2
  · refine State.gatesOff_keeps (sub_of rfl hK) ?_
    exact h
  · refine State.leaveComm_keeps (sub_of rfl hK) ?_
    exact h
  · exact h

theorem State.entryAdvance_keeps {K : Nat} {s0 s : State} (hK : 6601364733954 ||| K = K) (h : Keeps K s0 s) :
    Keeps K s0 (State.entryAdvance s) := by
  unfold State.entryAdvance
  refine Keeps.ite ?_ ?_
  · exact h
  · split
    · refine State.entryStep_keeps (sub_of rfl hK) ?_
      refine State.modPower_keeps (sub_of rfl hK) ?_
      exact h
    · refine Keeps.ite ?_ ?_
      · refine State.powerMirror_keeps (sub_of rfl hK) ?_
        refine State.setf_keeps (sub_of rfl hK) ?_
        refine State.modPower_keeps (sub_of rfl hK) ?_
        exact h
      · refine Keeps.set_keeper (sub_of rfl hK) ?_
        refine State.modBoot_keeps (sub_of rfl hK) ?_
        refine State.powerMirror_keeps (sub_of rfl hK) ?_
        refine State.setf_keeps (sub_of rfl hK) ?_
        refine State.modPower_keeps (sub_of rfl hK) ?_
        exact h

theorem State.tryEntry_keeps {K : Nat} {s0 s : State} {t req} (hK : 6601369871110 ||| K = K) (h : Keeps K s0 s) :
    Keeps K s0 (State.tryEntry s t req) := by
  unfold State.tryEntry
  refine Keeps.ite ?_ ?_
  · refine State.entryRefuse_keeps (sub_of rfl hK) ?_
    refine Keeps.ite ?_ ?_
    · refine State.refreshMmreq_keeps (sub_of rfl hK) ?_
      exact h
    · exact h
  · refine State.powerMirror_keeps (sub_of rfl hK) ?_
    refine State.entryAdvance_keeps (sub_of rfl hK) ?_
    refine State.modPower_keeps (sub_of rfl hK) ?_
    refine State.each_keeps ?_ ?_
    · refine State.modPower_keeps (sub_of rfl hK) ?_
      refine Keeps.ite ?_ ?_
      · refine State.refreshMmreq_keeps (sub_of rfl hK) ?_
        exact h
      · exact h
    · intro s1 _ h2
      refine Keeps.ite ?_ ?_
      · refine State.setDomain_keeps (sub_of rfl hK) ?_
        refine State.leaveDomain_keeps (sub_of rfl hK) ?_
        exact h2
      · exact h2

theorem State.enterDomain_keeps {K : Nat} {s0 s : State} {d} (hK : 540674 ||| K = K) (h : Keeps K s0 s) :
    Keeps K s0 (State.enterDomain s d) := by
  unfold State.enterDomain
  split
  · refine State.forN_keeps ?_ ?_
    · exact h
    · intro s1 _ h2
      refine Keeps.ite ?_ ?_
      · refine State.applyPattern_keeps (sub_of rfl hK) ?_
        exact h2
      · exact h2
  · refine State.gatesOn_keeps (sub_of rfl hK) ?_
    exact h
  · exact h

theorem State.domainUp_keeps {K : Nat} {s0 s : State} {d} (hK : 10999429625607 ||| K = K) (h : Keeps K s0 s) :
    Keeps K s0 (State.domainUp s d) := by
  unfold State.domainUp
  refine State.bootAt_keeps (sub_of rfl hK) ?_
  refine State.enterDomain_keeps (sub_of rfl hK) ?_
  refine State.powerMirror_keeps (sub_of rfl hK) ?_
  refine State.each_keeps ?_ ?_
  · refine Keeps.ite ?_ ?_
    · refine State.leaveWfi_keeps (sub_of rfl hK) ?_
      refine Keeps.ite ?_ ?_
      · refine State.modPower_keeps (sub_of rfl hK) ?_
        refine State.setDtb_keeps (sub_of rfl hK) ?_
        refine State.setDomain_keeps (sub_of rfl hK) ?_
        exact h
      · refine State.setDomain_keeps (sub_of rfl hK) ?_
        exact h
    · refine Keeps.ite ?_ ?_
      · refine State.modPower_keeps (sub_of rfl hK) ?_
        refine State.setDtb_keeps (sub_of rfl hK) ?_
        refine State.setDomain_keeps (sub_of rfl hK) ?_
        exact h
      · refine State.setDomain_keeps (sub_of rfl hK) ?_
        exact h
  · intro s1 _ h2
    refine State.setDomain_keeps (sub_of rfl hK) ?_
    exact h2

theorem State.reinitDone_keeps {K : Nat} {s0 s : State} {d t} (hK : 17592186044399 ||| K = K) (h : Keeps K s0 s) :
    Keeps K s0 (State.reinitDone s d t) := by
  unfold State.reinitDone
  refine State.domainUp_keeps (sub_of rfl hK) ?_
  refine Keeps.ite ?_ ?_
  · refine State.driveUp_keeps (sub_of rfl hK) ?_
    refine State.resetDomain_keeps (sub_of rfl hK) ?_
    refine State.modPower_keeps (sub_of rfl hK) ?_
    refine State.reach_keeps (sub_of rfl hK) ?_
    exact h
  · refine State.resetDomain_keeps (sub_of rfl hK) ?_
    refine State.modPower_keeps (sub_of rfl hK) ?_
    refine State.reach_keeps (sub_of rfl hK) ?_
    exact h

theorem State.powerRequest_keeps {K : Nat} {s0 s : State} {t v} (hK : 6601369871110 ||| K = K) (h : Keeps K s0 s) :
    Keeps K s0 (State.powerRequest s t v) := by
  unfold State.powerRequest
  refine Keeps.ite ?_ ?_
  · refine Keeps.ite ?_ ?_
    · exact h
    · refine State.setf_keeps (sub_of rfl hK) ?_
      exact h
  · refine Keeps.ite ?_ ?_
    · refine State.setf_keeps (sub_of rfl hK) ?_
      refine State.setf_keeps (sub_of rfl hK) ?_
      refine Keeps.ite ?_ ?_
      · exact h
      · refine State.setf_keeps (sub_of rfl hK) ?_
        exact h
    · refine State.powerMirror_keeps (sub_of rfl hK) ?_
      refine Keeps.ite ?_ ?_
      · refine State.modPower_keeps (sub_of rfl hK) ?_
        refine State.tryEntry_keeps (sub_of rfl hK) ?_
        refine State.raise_keeps (sub_of rfl hK) ?_
        refine State.modPower_keeps (sub_of rfl hK) ?_
        refine Keeps.ite ?_ ?_
        · exact h
        · refine State.setf_keeps (sub_of rfl hK) ?_
          exact h
      · refine State.raise_keeps (sub_of rfl hK) ?_
        refine State.modPower_keeps (sub_of rfl hK) ?_
        refine Keeps.ite ?_ ?_
        · exact h
        · refine State.setf_keeps (sub_of rfl hK) ?_
          exact h

theorem State.keeperWake_keeps {K : Nat} {s0 s : State} {unit} (hK : 6601365398278 ||| K = K) (h : Keeps K s0 s) :
    Keeps K s0 (State.keeperWake s unit) := by
  unfold State.keeperWake
  split
  · refine State.setf_keeps (sub_of rfl hK) ?_
    refine State.abortEntry_keeps (sub_of rfl hK) ?_
    exact h
  · refine Keeps.ite ?_ ?_
    · refine Keeps.ite ?_ ?_
      · exact h
      · refine Keeps.ite ?_ ?_
        · refine State.setf_keeps (sub_of rfl hK) ?_
          refine State.setf_keeps (sub_of rfl hK) ?_
          refine Keeps.set_keeper (sub_of rfl hK) ?_
          refine State.setf_keeps (sub_of rfl hK) ?_
          exact h
        · refine State.sequencerStart_keeps (sub_of rfl hK) ?_
          refine Keeps.set_keeper (sub_of rfl hK) ?_
          refine State.setf_keeps (sub_of rfl hK) ?_
          exact h
    · refine Keeps.ite ?_ ?_
      · exact h
      · refine State.powerRecord_keeps (sub_of rfl hK) ?_
        refine State.raise_keeps (sub_of rfl hK) ?_
        exact h

theorem State.powerEvaluate_keeps {K : Nat} {s0 s : State} {t} (hK : 6601369871110 ||| K = K) (h : Keeps K s0 s) :
    Keeps K s0 (State.powerEvaluate s t) := by
  unfold State.powerEvaluate
  refine Keeps.ite ?_ ?_
  · exact h
  · refine State.tryEntry_keeps (sub_of rfl hK) ?_
    exact h

theorem State.portWake_keeps {K : Nat} {s0 s : State} {p} (hK : 2203318887174 ||| K = K) (h : Keeps K s0 s) :
    Keeps K s0 (State.portWake s p) := by
  unfold State.portWake
  split
  · refine State.abortEntry_keeps (sub_of rfl hK) ?_
    exact h
  · refine Keeps.ite ?_ ?_
    · exact h
    · refine State.powerRecord_keeps (sub_of rfl hK) ?_
      refine State.raise_keeps (sub_of rfl hK) ?_
      exact h

theorem State.transitionDone_keeps {K : Nat} {s0 s : State} {x} (hK : 15397476136711 ||| K = K) (h : Keeps K s0 s) :
    Keeps K s0 (State.transitionDone s x) := by
  unfold State.transitionDone
  refine Keeps.ite ?_ ?_
  · refine State.entryAdvance_keeps (sub_of rfl hK) ?_
    refine State.powerMirror_keeps (sub_of rfl hK) ?_
    refine State.setDomain_keeps (sub_of rfl hK) ?_
    refine State.modPower_keeps (sub_of rfl hK) ?_
    refine State.reach_keeps (sub_of rfl hK) ?_
    exact h
  · refine Keeps.ite ?_ ?_
    · refine State.modPower_keeps (sub_of rfl hK) ?_
      refine State.modPower_keeps (sub_of rfl hK) ?_
      refine State.reach_keeps (sub_of rfl hK) ?_
      exact h
    · refine State.domainUp_keeps (sub_of rfl hK) ?_
      refine State.modPower_keeps (sub_of rfl hK) ?_
      refine State.reach_keeps (sub_of rfl hK) ?_
      exact h

/-! ## ClockOps -/

theorem State.modClk_keeps {K : Nat} {s0 s : State} {f} (hK : 1099511627776 ||| K = K) (h : Keeps K s0 s) :
    Keeps K s0 (State.modClk s f) := by
  unfold State.modClk
  refine Keeps.set_clk (sub_of rfl hK) ?_
  exact h

theorem State.setScale_keeps {K : Nat} {s0 s : State} {v} (hK : 8796109799426 ||| K = K) (h : Keeps K s0 s) :
    Keeps K s0 (State.setScale s v) := by
  unfold State.setScale
  refine State.keepRtc_keeps (sub_of rfl hK) ?_ ?_
  · exact h
  · intro s1 h2
    refine State.setf_keeps (sub_of rfl hK) ?_
    exact h2

theorem State.setClkSeq_keeps {K : Nat} {s0 s : State} {v} (hK : 2 ||| K = K) (h : Keeps K s0 s) :
    Keeps K s0 (State.setClkSeq s v) := by
  unfold State.setClkSeq
  refine State.setf_keeps (sub_of rfl hK) ?_
  exact h

theorem State.integrate_keeps {K : Nat} {s0 s : State} {p} (hK : 2 ||| K = K) (h : Keeps K s0 s) :
    Keeps K s0 (State.integrate s p) := by
  unfold State.integrate
  refine State.setf_keeps (sub_of rfl hK) ?_
  exact h

theorem State.rampEnd_keeps {K : Nat} {s0 s : State} (hK : 9895622475778 ||| K = K) (h : Keeps K s0 s) :
    Keeps K s0 (State.rampEnd s) := by
  unfold State.rampEnd
  refine State.forN_keeps ?_ ?_
  · refine Keeps.ite ?_ ?_
    · refine State.sourceOff_keeps (sub_of rfl hK) ?_
      refine State.setf_keeps (sub_of rfl hK) ?_
      refine State.setf_keeps (sub_of rfl hK) ?_
      refine State.modClk_keeps (sub_of rfl hK) ?_
      refine State.setScale_keeps (sub_of rfl hK) ?_
      refine State.setClkSeq_keeps (sub_of rfl hK) ?_
      exact h
    · refine State.setf_keeps (sub_of rfl hK) ?_
      refine State.modClk_keeps (sub_of rfl hK) ?_
      refine State.setScale_keeps (sub_of rfl hK) ?_
      refine State.setClkSeq_keeps (sub_of rfl hK) ?_
      exact h
  · intro s1 _ h2
    refine Keeps.ite ?_ ?_
    · refine State.integrate_keeps (sub_of rfl hK) ?_
      exact h2
    · exact h2

theorem State.scaleStep_keeps {K : Nat} {s0 s : State} (hK : 9895622475778 ||| K = K) (h : Keeps K s0 s) :
    Keeps K s0 (State.scaleStep s) := by
  unfold State.scaleStep
  refine Keeps.ite ?_ ?_
  · refine Keeps.ite ?_ ?_
    · refine State.modClk_keeps (sub_of rfl hK) ?_
      refine State.setScale_keeps (sub_of rfl hK) ?_
      exact h
    · refine State.modClk_keeps (sub_of rfl hK) ?_
      refine State.setf_keeps (sub_of rfl hK) ?_
      refine State.setClkSeq_keeps (sub_of rfl hK) ?_
      exact h
  · refine Keeps.ite ?_ ?_
    · refine Keeps.ite ?_ ?_
      · refine State.modClk_keeps (sub_of rfl hK) ?_
        refine State.setScale_keeps (sub_of rfl hK) ?_
        exact h
      · refine State.rampEnd_keeps (sub_of rfl hK) ?_
        exact h
    · exact h

theorem State.startRamps_keeps {K : Nat} {s0 s : State} (hK : 1099511627776 ||| K = K) (h : Keeps K s0 s) :
    Keeps K s0 (State.startRamps s) := by
  unfold State.startRamps
  refine State.forN_keeps ?_ ?_
  · exact h
  · intro s1 _ h2
    refine Keeps.ite ?_ ?_
    · exact h2
    · refine State.modClk_keeps (sub_of rfl hK) ?_
      exact h2

theorem State.clkErr_keeps {K : Nat} {s0 s : State} (hK : 2 ||| K = K) (h : Keeps K s0 s) :
    Keeps K s0 (State.clkErr s) := by
  unfold State.clkErr
  refine State.setf_keeps (sub_of rfl hK) ?_
  exact h

theorem State.rampDown_keeps {K : Nat} {s0 s : State} {back} (hK : 9895621427202 ||| K = K) (h : Keeps K s0 s) :
    Keeps K s0 (State.rampDown s back) := by
  unfold State.rampDown
  refine State.modClk_keeps (sub_of rfl hK) ?_
  refine State.setScale_keeps (sub_of rfl hK) ?_
  refine State.setClkSeq_keeps (sub_of rfl hK) ?_
  exact h

theorem State.referenceLost_keeps {K : Nat} {s0 s : State} (hK : 9895622475778 ||| K = K) (h : Keeps K s0 s) :
    Keeps K s0 (State.referenceLost s) := by
  unfold State.referenceLost
  refine State.sourceOn_keeps (sub_of rfl hK) ?_
  refine State.report_keeps (sub_of rfl hK) ?_
  refine State.rampDown_keeps (sub_of rfl hK) ?_
  refine State.wr_keeps (sub_of rfl hK) ?_
  refine State.inc_keeps (sub_of rfl hK) ?_
  refine State.setf_keeps (sub_of rfl hK) ?_
  refine State.setf_keeps (sub_of rfl hK) ?_
  exact h

/-! ## BusOps -/

theorem State.unpackEntry_keeps {K : Nat} {s0 s : State} {p k e data lost} (hK : 642 ||| K = K) (h : Keeps K s0 s) :
    Keeps K s0 (State.unpackEntry s p k e data lost) := by
  unfold State.unpackEntry
  have hd : Keeps K s0 (if (s.mapPlaces p e).contains none then s.drawWord else ((0 : Word), s)).2 := by
    split
    · exact State.drawWord_keeps (sub_of rfl hK) h
    · exact h
  refine Keeps.ite (State.inc_keeps (sub_of rfl hK) (State.setf_keeps (sub_of rfl hK) h)) ?_
  exact State.bankAsk_keeps (sub_of rfl hK) hd

theorem State.busSleepNow_keeps {K : Nat} {s0 s : State} {p} (hK : 2097154 ||| K = K) (h : Keeps K s0 s) :
    Keeps K s0 (State.busSleepNow s p) := by
  unfold State.busSleepNow
  refine State.modBus_keeps (sub_of rfl hK) ?_
  refine State.setf_keeps (sub_of rfl hK) ?_
  exact h

theorem State.packEntry_keeps {K : Nat} {s0 s : State} {p e data} (hK : 2 ||| K = K) (h : Keeps K s0 s) :
    Keeps K s0 (State.packEntry s p e data).1 := by
  unfold State.packEntry
  dsimp only
  split
  · exact h
  · exact Keeps.ite (State.inc_keeps (sub_of rfl hK) h) h

theorem State.packFrame_keeps {K : Nat} {s0 s : State} {p j} (hK : 2 ||| K = K) (h : Keeps K s0 s) :
    Keeps K s0 (State.packFrame s p j).1 := by
  unfold State.packFrame
  dsimp only
  split
  · exact h
  · exact Keeps.foldlPair (fun x e hx => State.packEntry_keeps (sub_of rfl hK) hx) _ h

theorem State.txPend_keeps {K : Nat} {s0 s : State} {p j} (hK : 2097154 ||| K = K) (h : Keeps K s0 s) :
    Keeps K s0 (State.txPend s p j) := by
  unfold State.txPend
  split
  · refine Keeps.ite ?_ ?_
    · exact h
    · refine State.inc_keeps (sub_of rfl hK) ?_
      refine State.setf_keeps (sub_of rfl hK) ?_
      refine State.modBus_keeps (sub_of rfl hK) ?_
      refine State.packFrame_keeps (sub_of rfl hK) ?_
      exact h
  · refine State.setf_keeps (sub_of rfl hK) ?_
    refine State.modBus_keeps (sub_of rfl hK) ?_
    refine State.packFrame_keeps (sub_of rfl hK) ?_
    exact h

theorem State.busOff_keeps {K : Nat} {s0 s : State} {p} (hK : 2097154 ||| K = K) (h : Keeps K s0 s) :
    Keeps K s0 (State.busOff s p) := by
  unfold State.busOff
  refine State.modBus_keeps (sub_of rfl hK) ?_
  refine State.inc_keeps (sub_of rfl hK) ?_
  refine State.setf_keeps (sub_of rfl hK) ?_
  exact h

theorem State.unpacked_keeps {K : Nat} {s0 s : State} {p k} (hK : 2 ||| K = K) (h : Keeps K s0 s) :
    Keeps K s0 (State.unpacked s p k) := by
  unfold State.unpacked
  refine Keeps.ite ?_ ?_
  · exact h
  · refine State.setf_keeps (sub_of rfl hK) ?_
    exact h

theorem State.txSchedule_keeps {K : Nat} {s0 s : State} {p j} (hK : 2097152 ||| K = K) (h : Keeps K s0 s) :
    Keeps K s0 (State.txSchedule s p j) := by
  unfold State.txSchedule
  refine State.modBus_keeps (sub_of rfl hK) ?_
  exact h

theorem State.busErr_keeps {K : Nat} {s0 s : State} {p} (hK : 2 ||| K = K) (h : Keeps K s0 s) :
    Keeps K s0 (State.busErr s p) := by
  unfold State.busErr
  refine State.setf_keeps (sub_of rfl hK) ?_
  exact h

theorem State.txCfgWrite_keeps {K : Nat} {s0 s : State} {p j v} (hK : 2097154 ||| K = K) (h : Keeps K s0 s) :
    Keeps K s0 (State.txCfgWrite s p j v) := by
  unfold State.txCfgWrite
  refine Keeps.ite ?_ ?_
  · refine Keeps.ite ?_ ?_
    · exact h
    · refine State.txSchedule_keeps (sub_of rfl hK) ?_
      refine State.setf_keeps (sub_of rfl hK) ?_
      exact h
  · refine Keeps.ite ?_ ?_
    · refine State.wrReg_keeps (sub_of rfl hK) ?_
      exact h
    · refine Keeps.ite ?_ ?_
      · refine State.busErr_keeps (sub_of rfl hK) ?_
        exact h
      · refine State.txSchedule_keeps (sub_of rfl hK) ?_
        refine State.setf_keeps (sub_of rfl hK) ?_
        refine State.wrReg_keeps (sub_of rfl hK) ?_
        exact h

theorem State.rxCfgWrite_keeps {K : Nat} {s0 s : State} {p k v} (hK : 2097154 ||| K = K) (h : Keeps K s0 s) :
    Keeps K s0 (State.rxCfgWrite s p k v) := by
  unfold State.rxCfgWrite
  refine Keeps.ite ?_ ?_
  · refine Keeps.ite ?_ ?_
    · exact h
    · refine State.setf_keeps (sub_of rfl hK) ?_
      exact h
  · refine Keeps.ite ?_ ?_
    · refine State.wrReg_keeps (sub_of rfl hK) ?_
      exact h
    · refine Keeps.ite ?_ ?_
      · refine State.modBus_keeps (sub_of rfl hK) ?_
        refine State.setf_keeps (sub_of rfl hK) ?_
        refine State.wrReg_keeps (sub_of rfl hK) ?_
        exact h
      · refine State.busErr_keeps (sub_of rfl hK) ?_
        exact h

theorem State.txRemove_keeps {K : Nat} {s0 s : State} {p obj} (hK : 2097154 ||| K = K) (h : Keeps K s0 s) :
    Keeps K s0 (State.txRemove s p obj) := by
  unfold State.txRemove
  refine Keeps.ite ?_ ?_
  · refine State.setf_keeps (sub_of rfl hK) ?_
    refine State.modBus_keeps (sub_of rfl hK) ?_
    exact h
  · refine Keeps.ite ?_ ?_
    · refine State.modBus_keeps (sub_of rfl hK) ?_
      exact h
    · refine State.modBus_keeps (sub_of rfl hK) ?_
      exact h

theorem State.watchFrom_keeps {K : Nat} {s0 s : State} {p} (hK : 2097152 ||| K = K) (h : Keeps K s0 s) :
    Keeps K s0 (State.watchFrom s p) := by
  unfold State.watchFrom
  refine State.modBus_keeps (sub_of rfl hK) ?_
  exact h

theorem State.busWake_keeps {K : Nat} {s0 s : State} {p} (hK : 2203321246470 ||| K = K) (h : Keeps K s0 s) :
    Keeps K s0 (State.busWake s p) := by
  unfold State.busWake
  refine Keeps.ite ?_ ?_
  · refine State.modBus_keeps (sub_of rfl hK) ?_
    exact h
  · refine State.irq_keeps (sub_of rfl hK) ?_
    refine State.watchFrom_keeps (sub_of rfl hK) ?_
    refine State.modBus_keeps (sub_of rfl hK) ?_
    refine Keeps.ite ?_ ?_
    · refine State.integrate_keeps (sub_of rfl hK) ?_
      refine State.setf_keeps (sub_of rfl hK) ?_
      exact h
    · refine State.setf_keeps (sub_of rfl hK) ?_
      exact h

theorem State.setErrors_keeps {K : Nat} {s0 s : State} {p tec rc} (hK : 2 ||| K = K) (h : Keeps K s0 s) :
    Keeps K s0 (State.setErrors s p tec rc) := by
  unfold State.setErrors
  refine State.setb_keeps (sub_of rfl hK) ?_
  refine State.setf_keeps (sub_of rfl hK) ?_
  refine State.setf_keeps (sub_of rfl hK) ?_
  exact h

theorem State.rxGood_keeps {K : Nat} {s0 s : State} {p} (hK : 130 ||| K = K) (h : Keeps K s0 s) :
    Keeps K s0 (State.rxGood s p) := by
  unfold State.rxGood
  refine Keeps.ite ?_ ?_
  · exact h
  · refine Keeps.ite ?_ ?_
    · refine State.setErrors_keeps (sub_of rfl hK) ?_
      exact h
    · refine State.setErrors_keeps (sub_of rfl hK) ?_
      refine State.drawWord_keeps (sub_of rfl hK) ?_
      exact h

theorem State.watchTaken_keeps {K : Nat} {s0 s : State} {p k} (hK : 3145728 ||| K = K) (h : Keeps K s0 s) :
    Keeps K s0 (State.watchTaken s p k) := by
  unfold State.watchTaken
  refine Keeps.ite ?_ ?_
  · refine State.sourceOff_keeps (sub_of rfl hK) ?_
    refine State.forN_keeps ?_ ?_
    · exact h
    · intro s1 _ h2
      refine Keeps.ite ?_ ?_
      · refine State.modBus_keeps (sub_of rfl hK) ?_
        exact h2
      · exact h2
  · refine State.forN_keeps ?_ ?_
    · exact h
    · intro s3 _ h4
      refine Keeps.ite ?_ ?_
      · refine State.modBus_keeps (sub_of rfl hK) ?_
        exact h4
      · exact h4

theorem State.takeFrame_keeps {K : Nat} {s0 s : State} {p k f} (hK : 3146370 ||| K = K) (h : Keeps K s0 s) :
    Keeps K s0 (State.takeFrame s p k f) := by
  unfold State.takeFrame
  refine State.unpacked_keeps (sub_of rfl hK) ?_
  refine State.each_keeps ?_ ?_
  · refine Keeps.ite ?_ ?_
    · refine State.inc_keeps (sub_of rfl hK) ?_
      refine State.setf_keeps (sub_of rfl hK) ?_
      refine State.watchTaken_keeps (sub_of rfl hK) ?_
      refine State.setf_keeps (sub_of rfl hK) ?_
      refine State.modBus_keeps (sub_of rfl hK) ?_
      exact h
    · refine State.watchTaken_keeps (sub_of rfl hK) ?_
      refine State.setf_keeps (sub_of rfl hK) ?_
      refine State.modBus_keeps (sub_of rfl hK) ?_
      exact h
  · intro s1 _ h2
    refine State.unpackEntry_keeps (sub_of rfl hK) ?_
    exact h2

theorem State.receiveObject_keeps {K : Nat} {s0 s : State} {p f} (hK : 3146370 ||| K = K) (h : Keeps K s0 s) :
    Keeps K s0 (State.receiveObject s p f) := by
  unfold State.receiveObject
  split
  · refine Keeps.ite ?_ ?_
    · refine State.inc_keeps (sub_of rfl hK) ?_
      exact h
    · refine State.takeFrame_keeps (sub_of rfl hK) ?_
      exact h
  · refine State.inc_keeps (sub_of rfl hK) ?_
    exact h

theorem State.frameEnd_keeps {K : Nat} {s0 s : State} {p} (hK : 2097154 ||| K = K) (h : Keeps K s0 s) :
    Keeps K s0 (State.frameEnd s p) := by
  unfold State.frameEnd
  refine Keeps.ite ?_ ?_
  · refine State.busSleepNow_keeps (sub_of rfl hK) ?_
    exact h
  · exact h

theorem State.txTiming_keeps {K : Nat} {s0 s : State} {p j v} (hK : 2097154 ||| K = K) (h : Keeps K s0 s) :
    Keeps K s0 (State.txTiming s p j v) := by
  unfold State.txTiming
  refine Keeps.ite ?_ ?_
  · refine State.wrReg_keeps (sub_of rfl hK) ?_
    exact h
  · refine State.txSchedule_keeps (sub_of rfl hK) ?_
    refine State.wrReg_keeps (sub_of rfl hK) ?_
    exact h

theorem State.rxError_keeps {K : Nat} {s0 s : State} {p n} (hK : 2 ||| K = K) (h : Keeps K s0 s) :
    Keeps K s0 (State.rxError s p n) := by
  unfold State.rxError
  refine State.setErrors_keeps (sub_of rfl hK) ?_
  exact h

theorem State.protocolException_keeps {K : Nat} {s0 s : State} {p} (hK : 2097154 ||| K = K) (h : Keeps K s0 s) :
    Keeps K s0 (State.protocolException s p) := by
  unfold State.protocolException
  refine State.frameEnd_keeps (sub_of rfl hK) ?_
  refine Keeps.ite ?_ ?_
  · refine State.rxError_keeps (sub_of rfl hK) ?_
    refine State.setf_keeps (sub_of rfl hK) ?_
    exact h
  · refine State.inc_keeps (sub_of rfl hK) ?_
    refine State.integrate_keeps (sub_of rfl hK) ?_
    refine State.setf_keeps (sub_of rfl hK) ?_
    exact h

theorem State.busEnable_keeps {K : Nat} {s0 s : State} {p v} (hK : 2097154 ||| K = K) (h : Keeps K s0 s) :
    Keeps K s0 (State.busEnable s p v) := by
  unfold State.busEnable
  refine Keeps.ite ?_ ?_
  · refine State.busErr_keeps (sub_of rfl hK) ?_
    exact h
  · refine State.watchFrom_keeps (sub_of rfl hK) ?_
    refine State.integrate_keeps (sub_of rfl hK) ?_
    refine State.setb_keeps (sub_of rfl hK) ?_
    refine State.setf_keeps (sub_of rfl hK) ?_
    refine State.wrReg_keeps (sub_of rfl hK) ?_
    exact h

theorem State.detectorWake_keeps {K : Nat} {s0 s : State} {cause} (hK : 6601365398278 ||| K = K) (h : Keeps K s0 s) :
    Keeps K s0 (State.detectorWake s cause) := by
  unfold State.detectorWake
  refine State.keeperWake_keeps (sub_of rfl hK) ?_
  refine State.setf_keeps (sub_of rfl hK) ?_
  exact h

theorem State.txAbandon_keeps {K : Nat} {s0 s : State} {p obj} (hK : 2097154 ||| K = K) (h : Keeps K s0 s) :
    Keeps K s0 (State.txAbandon s p obj) := by
  unfold State.txAbandon
  refine Keeps.ite ?_ ?_
  · refine State.setf_keeps (sub_of rfl hK) ?_
    refine State.inc_keeps (sub_of rfl hK) ?_
    refine State.txRemove_keeps (sub_of rfl hK) ?_
    exact h
  · refine State.inc_keeps (sub_of rfl hK) ?_
    refine State.txRemove_keeps (sub_of rfl hK) ?_
    exact h

theorem State.portAccess_keeps {K : Nat} {s0 s : State} {core f} (hK : 384 ||| K = K) (h : Keeps K s0 s)
    (hf : ∀ t, Keeps K s0 t → Keeps K s0 (f t)) :
    Keeps K s0 (State.portAccess s core f) := by
  exact State.access_keeps (sub_of rfl hK) h hf

theorem State.txError_keeps {K : Nat} {s0 s : State} {p} (hK : 2097154 ||| K = K) (h : Keeps K s0 s) :
    Keeps K s0 (State.txError s p) := by
  unfold State.txError
  refine Keeps.ite ?_ ?_
  · refine State.busOff_keeps (sub_of rfl hK) ?_
    refine State.setErrors_keeps (sub_of rfl hK) ?_
    exact h
  · refine State.setErrors_keeps (sub_of rfl hK) ?_
    exact h

theorem State.dominantWakes_keeps {K : Nat} {s0 s : State} {cycles} (hK : 128 ||| K = K) (h : Keeps K s0 s) :
    Keeps K s0 (State.dominantWakes s cycles).2 := by
  unfold State.dominantWakes
  split
  · exact h
  · split
    · exact h
    · refine State.drawWord_keeps (sub_of rfl hK) ?_
      exact h

end Sys2Proof.Machine
end

