-- ==== Sys2Proof/Laws/KeepsBridlePath.lean ====
section
/-! SUPPORT. What each operation and each command of Machine/ChargerOps.lean, Machine/TeamOps.lean, Machine/ModeOps.lean, Machine/BridlePath.lean keeps. -/

set_option linter.unusedVariables false
set_option linter.unusedTactic false
set_option linter.unreachableTactic false

namespace Sys2Proof.Machine

/-! ## ChargerOps -/

theorem State.modSupply_keeps {K : Nat} {s0 s : State} {f} (hK : 268435456 ||| K = K) (h : Keeps K s0 s) :
    Keeps K s0 (State.modSupply s f) := by
  unfold State.modSupply
  refine Keeps.set_supply (sub_of rfl hK) ?_
  exact h

theorem State.isoOff_keeps {K : Nat} {s0 s : State} (hK : 25090 ||| K = K) (h : Keeps K s0 s) :
    Keeps K s0 (State.isoOff s) := by
  unfold State.isoOff
  refine State.stopGens_keeps (sub_of rfl hK) ?_
  refine State.lawsOff_keeps (sub_of rfl hK) ?_
  exact h

theorem State.pfcOff_keeps {K : Nat} {s0 s : State} (hK : 25090 ||| K = K) (h : Keeps K s0 s) :
    Keeps K s0 (State.pfcOff s) := by
  unfold State.pfcOff
  refine State.stopGens_keeps (sub_of rfl hK) ?_
  refine State.lawsOff_keeps (sub_of rfl hK) ?_
  exact h

theorem State.supplyOff_keeps {K : Nat} {s0 s : State} {st} (hK : 268984838 ||| K = K) (h : Keeps K s0 s) :
    Keeps K s0 (State.supplyOff s st) := by
  unfold State.supplyOff
  refine State.modSupply_keeps (sub_of rfl hK) ?_
  refine State.putNat_keeps (sub_of rfl hK) ?_
  refine State.isoOff_keeps (sub_of rfl hK) ?_
  refine State.pfcOff_keeps (sub_of rfl hK) ?_
  exact h

theorem State.pfcOn_keeps {K : Nat} {s0 s : State} (hK : 28674 ||| K = K) (h : Keeps K s0 s) :
    Keeps K s0 (State.pfcOn s) := by
  unfold State.pfcOn
  refine State.groupStart_keeps (sub_of rfl hK) ?_
  refine State.lawsOn_keeps (sub_of rfl hK) ?_
  exact h

theorem State.advWord_keeps {K : Nat} {s0 s : State} (hK : 128 ||| K = K) (h : Keeps K s0 s) :
    Keeps K s0 (State.advWord s).2 := by
  unfold State.advWord
  refine State.freeNearest_keeps (sub_of rfl hK) ?_
  exact h

theorem State.advertise_keeps {K : Nat} {s0 s : State} (hK : 268451970 ||| K = K) (h : Keeps K s0 s) :
    Keeps K s0 (State.advertise s) := by
  unfold State.advertise
  refine State.modSupply_keeps (sub_of rfl hK) ?_
  refine State.cmpWrite_keeps (sub_of rfl hK) ?_
  refine State.advWord_keeps (sub_of rfl hK) ?_
  exact h

theorem State.stationFollow_keeps {K : Nat} {s0 s : State} (hK : 268451970 ||| K = K) (h : Keeps K s0 s) :
    Keeps K s0 (State.stationFollow s) := by
  unfold State.stationFollow
  refine Keeps.ite ?_ ?_
  · refine State.advertise_keeps (sub_of rfl hK) ?_
    exact h
  · exact h

theorem State.refreshLimit_keeps {K : Nat} {s0 s : State} (hK : 533124 ||| K = K) (h : Keeps K s0 s) :
    Keeps K s0 (State.refreshLimit s) := by
  unfold State.refreshLimit
  refine State.putInt_keeps (sub_of rfl hK) ?_
  refine State.freeFloor_keeps (sub_of rfl hK) ?_
  exact h

theorem State.putPp_keeps {K : Nat} {s0 s : State} {ohm} (hK : 533124 ||| K = K) (h : Keeps K s0 s) :
    Keeps K s0 (State.putPp s ohm) := by
  unfold State.putPp
  refine State.refreshLimit_keeps (sub_of rfl hK) ?_
  refine State.putInt_keeps (sub_of rfl hK) ?_
  refine State.putNat_keeps (sub_of rfl hK) ?_
  exact h

theorem State.chsDetect_keeps {K : Nat} {s0 s : State} {cause} (hK : 2204400247558 ||| K = K) (h : Keeps K s0 s) :
    Keeps K s0 (State.chsDetect s cause) := by
  unfold State.chsDetect
  refine State.report_keeps (sub_of rfl hK) ?_
  refine State.gtrip_keeps (sub_of rfl hK) ?_
  refine Keeps.set_chs (sub_of rfl hK) ?_
  refine State.inc_keeps (sub_of rfl hK) ?_
  refine State.setf_keeps (sub_of rfl hK) ?_
  refine State.setf_keeps (sub_of rfl hK) ?_
  exact h

theorem State.chsCurrent_keeps {K : Nat} {s0 s : State} {id v} (hK : 2204400247558 ||| K = K) (h : Keeps K s0 s) :
    Keeps K s0 (State.chsCurrent s id v) := by
  unfold State.chsCurrent
  try dsimp only
  refine Keeps.ite ?_ ?_
  · exact h
  · try dsimp only
    split
    · refine Keeps.set_chs (sub_of rfl hK) ?_
      exact h
    · refine Keeps.ite ?_ ?_
      · refine State.chsDetect_keeps (sub_of rfl hK) ?_
        refine Keeps.set_chs (sub_of rfl hK) ?_
        exact h
      · refine Keeps.set_chs (sub_of rfl hK) ?_
        exact h

theorem State.boostOn_keeps {K : Nat} {s0 s : State} (hK : 28674 ||| K = K) (h : Keeps K s0 s) :
    Keeps K s0 (State.boostOn s) := by
  unfold State.boostOn
  refine State.groupStart_keeps (sub_of rfl hK) ?_
  refine State.lawsOn_keeps (sub_of rfl hK) ?_
  exact h

theorem State.modCh_keeps {K : Nat} {s0 s : State} {m f} (hK : 134217728 ||| K = K) (h : Keeps K s0 s) :
    Keeps K s0 (State.modCh s m f) := by
  unfold State.modCh
  refine Keeps.set_charge (sub_of rfl hK) ?_ (fun i => by first | exact i | rfl | simpa using i | (split <;> simpa using i))
  exact h

theorem State.armSupervisor_keeps {K : Nat} {s0 s : State} (hK : 2 ||| K = K) (h : Keeps K s0 s) :
    Keeps K s0 (State.armSupervisor s) := by
  unfold State.armSupervisor
  refine Keeps.ite ?_ ?_
  · refine State.setf_keeps (sub_of rfl hK) ?_
    refine State.setb_keeps (sub_of rfl hK) ?_
    exact h
  · refine State.setb_keeps (sub_of rfl hK) ?_
    exact h

theorem State.setCh_keeps {K : Nat} {s0 s : State} {m st} (hK : 134750726 ||| K = K) (h : Keeps K s0 s) :
    Keeps K s0 (State.setCh s m st) := by
  unfold State.setCh
  refine Keeps.ite ?_ ?_
  · refine State.armSupervisor_keeps (sub_of rfl hK) ?_
    refine State.modCh_keeps (sub_of rfl hK) ?_
    refine State.putNat_keeps (sub_of rfl hK) ?_
    exact h
  · refine State.modCh_keeps (sub_of rfl hK) ?_
    refine State.putNat_keeps (sub_of rfl hK) ?_
    exact h

theorem State.chZero_keeps {K : Nat} {s0 s : State} {m} (hK : 134217728 ||| K = K) (h : Keeps K s0 s) :
    Keeps K s0 (State.chZero s m) := by
  unfold State.chZero
  refine State.modCh_keeps (sub_of rfl hK) ?_
  exact h

theorem State.chToFault_keeps {K : Nat} {s0 s : State} {m cause} (hK : 134767110 ||| K = K) (h : Keeps K s0 s) :
    Keeps K s0 (State.chToFault s m cause) := by
  unfold State.chToFault
  refine Keeps.ite ?_ ?_
  · refine State.putNat_keeps (sub_of rfl hK) ?_
    refine State.isoOff_keeps (sub_of rfl hK) ?_
    refine State.modCh_keeps (sub_of rfl hK) ?_
    refine State.setCh_keeps (sub_of rfl hK) ?_
    refine State.chZero_keeps (sub_of rfl hK) ?_
    exact h
  · refine State.modCh_keeps (sub_of rfl hK) ?_
    refine State.setCh_keeps (sub_of rfl hK) ?_
    refine State.chZero_keeps (sub_of rfl hK) ?_
    exact h

theorem State.stationStart_keeps {K : Nat} {s0 s : State} (hK : 403202694 ||| K = K) (h : Keeps K s0 s) :
    Keeps K s0 (State.stationStart s) := by
  unfold State.stationStart
  refine Keeps.ite ?_ ?_
  · exact h
  · refine Keeps.ite ?_ ?_
    · refine State.chToFault_keeps (sub_of rfl hK) ?_
      exact h
    · refine State.groupStart_keeps (sub_of rfl hK) ?_
      refine State.advertise_keeps (sub_of rfl hK) ?_
      exact h

theorem State.modInlet_keeps {K : Nat} {s0 s : State} {f} (hK : 67108864 ||| K = K) (h : Keeps K s0 s) :
    Keeps K s0 (State.modInlet s f) := by
  unfold State.modInlet
  refine Keeps.set_inlet (sub_of rfl hK) ?_
  exact h

theorem State.chRamp_keeps {K : Nat} {s0 s : State} {m} (hK : 134217728 ||| K = K) (h : Keeps K s0 s) :
    Keeps K s0 (State.chRamp s m) := by
  unfold State.chRamp
  refine State.modCh_keeps (sub_of rfl hK) ?_
  exact h

theorem State.s2Open_keeps {K : Nat} {s0 s : State} (hK : 67108866 ||| K = K) (h : Keeps K s0 s) :
    Keeps K s0 (State.s2Open s) := by
  unfold State.s2Open
  refine State.setf_keeps (sub_of rfl hK) ?_
  refine State.setf_keeps (sub_of rfl hK) ?_
  refine Keeps.ite ?_ ?_
  · refine State.modInlet_keeps (sub_of rfl hK) ?_
    exact h
  · exact h

theorem State.setInlet_keeps {K : Nat} {s0 s : State} {st} (hK : 67641860 ||| K = K) (h : Keeps K s0 s) :
    Keeps K s0 (State.setInlet s st) := by
  unfold State.setInlet
  refine Keeps.ite ?_ ?_
  · refine State.modInlet_keeps (sub_of rfl hK) ?_
    refine State.putNat_keeps (sub_of rfl hK) ?_
    exact h
  · refine State.putNat_keeps (sub_of rfl hK) ?_
    exact h

theorem State.sourceLoss_keeps {K : Nat} {s0 s : State} (hK : 67658246 ||| K = K) (h : Keeps K s0 s) :
    Keeps K s0 (State.sourceLoss s) := by
  unfold State.sourceLoss
  refine State.modInlet_keeps (sub_of rfl hK) ?_
  refine State.setInlet_keeps (sub_of rfl hK) ?_
  refine State.pfcOff_keeps (sub_of rfl hK) ?_
  refine State.s2Open_keeps (sub_of rfl hK) ?_
  exact h

theorem State.oscRefresh_keeps {K : Nat} {s0 s : State} (hK : 2 ||| K = K) (h : Keeps K s0 s) :
    Keeps K s0 (State.oscRefresh s) := by
  unfold State.oscRefresh
  refine Keeps.ite ?_ ?_
  · exact h
  · refine State.wr_keeps (sub_of rfl hK) ?_
    refine State.wr_keeps (sub_of rfl hK) ?_
    refine State.setf_keeps (sub_of rfl hK) ?_
    exact h

theorem State.chargeBoundary_keeps {K : Nat} {s0 s : State} (hK : 403202694 ||| K = K) (h : Keeps K s0 s) :
    Keeps K s0 (State.chargeBoundary s) := by
  unfold State.chargeBoundary
  refine Keeps.ite ?_ ?_
  · refine State.refreshLimit_keeps (sub_of rfl hK) ?_
    refine State.armSupervisor_keeps (sub_of rfl hK) ?_
    refine Keeps.ite ?_ ?_
    · refine State.stationFollow_keeps (sub_of rfl hK) ?_
      refine State.chRamp_keeps (sub_of rfl hK) ?_
      refine State.chRamp_keeps (sub_of rfl hK) ?_
      exact h
    · refine Keeps.ite ?_ ?_
      · refine State.modCh_keeps (sub_of rfl hK) ?_
        refine State.stationFollow_keeps (sub_of rfl hK) ?_
        refine State.chRamp_keeps (sub_of rfl hK) ?_
        refine State.chRamp_keeps (sub_of rfl hK) ?_
        exact h
      · refine State.setCh_keeps (sub_of rfl hK) ?_
        refine State.chZero_keeps (sub_of rfl hK) ?_
        refine State.modCh_keeps (sub_of rfl hK) ?_
        refine State.stationFollow_keeps (sub_of rfl hK) ?_
        refine State.chRamp_keeps (sub_of rfl hK) ?_
        refine State.chRamp_keeps (sub_of rfl hK) ?_
        exact h
  · refine Keeps.ite ?_ ?_
    · refine State.oscRefresh_keeps (sub_of rfl hK) ?_
      refine Keeps.ite ?_ ?_
      · refine State.stationFollow_keeps (sub_of rfl hK) ?_
        refine State.chRamp_keeps (sub_of rfl hK) ?_
        refine State.chRamp_keeps (sub_of rfl hK) ?_
        exact h
      · refine Keeps.ite ?_ ?_
        · refine State.modCh_keeps (sub_of rfl hK) ?_
          refine State.stationFollow_keeps (sub_of rfl hK) ?_
          refine State.chRamp_keeps (sub_of rfl hK) ?_
          refine State.chRamp_keeps (sub_of rfl hK) ?_
          exact h
        · refine State.setCh_keeps (sub_of rfl hK) ?_
          refine State.chZero_keeps (sub_of rfl hK) ?_
          refine State.modCh_keeps (sub_of rfl hK) ?_
          refine State.stationFollow_keeps (sub_of rfl hK) ?_
          refine State.chRamp_keeps (sub_of rfl hK) ?_
          refine State.chRamp_keeps (sub_of rfl hK) ?_
          exact h
    · refine Keeps.ite ?_ ?_
      · refine State.stationFollow_keeps (sub_of rfl hK) ?_
        refine State.chRamp_keeps (sub_of rfl hK) ?_
        refine State.chRamp_keeps (sub_of rfl hK) ?_
        exact h
      · refine Keeps.ite ?_ ?_
        · refine State.modCh_keeps (sub_of rfl hK) ?_
          refine State.stationFollow_keeps (sub_of rfl hK) ?_
          refine State.chRamp_keeps (sub_of rfl hK) ?_
          refine State.chRamp_keeps (sub_of rfl hK) ?_
          exact h
        · refine State.setCh_keeps (sub_of rfl hK) ?_
          refine State.chZero_keeps (sub_of rfl hK) ?_
          refine State.modCh_keeps (sub_of rfl hK) ?_
          refine State.stationFollow_keeps (sub_of rfl hK) ?_
          refine State.chRamp_keeps (sub_of rfl hK) ?_
          refine State.chRamp_keeps (sub_of rfl hK) ?_
          exact h

theorem State.modSolar_keeps {K : Nat} {s0 s : State} {f} (hK : 536870912 ||| K = K) (h : Keeps K s0 s) :
    Keeps K s0 (State.modSolar s f) := by
  unfold State.modSolar
  refine Keeps.set_solar (sub_of rfl hK) ?_
  exact h

theorem State.handoverEnd_keeps {K : Nat} {s0 s : State} (hK : 67641860 ||| K = K) (h : Keeps K s0 s) :
    Keeps K s0 (State.handoverEnd s) := by
  unfold State.handoverEnd
  refine Keeps.ite ?_ ?_
  · refine State.putNat_keeps (sub_of rfl hK) ?_
    refine State.putNat_keeps (sub_of rfl hK) ?_
    refine State.modInlet_keeps (sub_of rfl hK) ?_
    refine State.setInlet_keeps (sub_of rfl hK) ?_
    exact h
  · refine State.setInlet_keeps (sub_of rfl hK) ?_
    exact h

theorem State.chsLink_keeps {K : Nat} {s0 s : State} (hK : 2204400247558 ||| K = K) (h : Keeps K s0 s) :
    Keeps K s0 (State.chsLink s) := by
  unfold State.chsLink
  refine Keeps.ite ?_ ?_
  · refine Keeps.set_chs (sub_of rfl hK) ?_
    exact h
  · refine Keeps.ite ?_ ?_
    · refine State.chsDetect_keeps (sub_of rfl hK) ?_
      refine Keeps.set_chs (sub_of rfl hK) ?_
      exact h
    · split
      · refine Keeps.ite ?_ ?_
        · refine State.chsDetect_keeps (sub_of rfl hK) ?_
          refine Keeps.set_chs (sub_of rfl hK) ?_
          exact h
        · refine Keeps.set_chs (sub_of rfl hK) ?_
          exact h
      · refine Keeps.set_chs (sub_of rfl hK) ?_
        exact h

theorem State.putGrid_keeps {K : Nat} {s0 s : State} {v1 v2 v3 f} (hK : 532996 ||| K = K) (h : Keeps K s0 s) :
    Keeps K s0 (State.putGrid s v1 v2 v3 f) := by
  unfold State.putGrid
  refine State.putNat_keeps (sub_of rfl hK) ?_
  refine State.putInt_keeps (sub_of rfl hK) ?_
  refine State.putInt_keeps (sub_of rfl hK) ?_
  refine State.putInt_keeps (sub_of rfl hK) ?_
  refine State.putInt_keeps (sub_of rfl hK) ?_
  exact h

theorem State.isoOn_keeps {K : Nat} {s0 s : State} (hK : 28674 ||| K = K) (h : Keeps K s0 s) :
    Keeps K s0 (State.isoOn s) := by
  unfold State.isoOn
  refine Keeps.ite ?_ ?_
  · exact h
  · refine State.groupStart_keeps (sub_of rfl hK) ?_
    refine State.lawsOn_keeps (sub_of rfl hK) ?_
    exact h

theorem State.supplyOn_keeps {K : Nat} {s0 s : State} (hK : 403206662 ||| K = K) (h : Keeps K s0 s) :
    Keeps K s0 (State.supplyOn s) := by
  unfold State.supplyOn
  refine Keeps.ite ?_ ?_
  · refine State.chToFault_keeps (sub_of rfl hK) ?_
    exact h
  · refine State.modSupply_keeps (sub_of rfl hK) ?_
    refine State.putNat_keeps (sub_of rfl hK) ?_
    refine State.pfcOn_keeps (sub_of rfl hK) ?_
    refine State.isoOn_keeps (sub_of rfl hK) ?_
    exact h

theorem State.setSol_keeps {K : Nat} {s0 s : State} {st} (hK : 532996 ||| K = K) (h : Keeps K s0 s) :
    Keeps K s0 (State.setSol s st) := by
  unfold State.setSol
  refine State.putNat_keeps (sub_of rfl hK) ?_
  exact h

theorem State.boostOff_keeps {K : Nat} {s0 s : State} (hK : 25090 ||| K = K) (h : Keeps K s0 s) :
    Keeps K s0 (State.boostOff s) := by
  unfold State.boostOff
  refine State.stopGens_keeps (sub_of rfl hK) ?_
  refine State.lawsOff_keeps (sub_of rfl hK) ?_
  exact h

theorem State.solPublish_keeps {K : Nat} {s0 s : State} (hK : 533124 ||| K = K) (h : Keeps K s0 s) :
    Keeps K s0 (State.solPublish s) := by
  unfold State.solPublish
  refine State.putInt_keeps (sub_of rfl hK) ?_
  refine State.putInt_keeps (sub_of rfl hK) ?_
  refine State.freeFloor_keeps (sub_of rfl hK) ?_
  refine State.freeFloor_keeps (sub_of rfl hK) ?_
  exact h

theorem State.allowance_keeps {K : Nat} {s0 s : State} (hK : 128 ||| K = K) (h : Keeps K s0 s) :
    Keeps K s0 (State.allowance s).2 := by
  unfold State.allowance
  try dsimp only
  split
  · exact h
  · split
    · exact h
    · split
      · exact h
      · split
        · exact h
        · split
          · exact h
          · split
            · refine State.freeFloor_keeps (sub_of rfl hK) ?_
              exact h
            · split
              · refine State.freeFloor_keeps (sub_of rfl hK) ?_
                exact h
              · split
                · exact h
                · exact h

/-! ## TeamOps -/

theorem State.modTeamCore_keeps {K : Nat} {s0 s : State} {t n f} (hK : 256 ||| K = K) (h : Keeps K s0 s) :
    Keeps K s0 (State.modTeamCore s t n f) := by
  unfold State.modTeamCore
  refine State.modCore_keeps (sub_of rfl hK) ?_
  exact h

theorem State.startCore_keeps {K : Nat} {s0 s : State} {t n w} (hK : 256 ||| K = K) (h : Keeps K s0 s) :
    Keeps K s0 (State.startCore s t n w) := by
  unfold State.startCore
  refine State.modTeamCore_keeps (sub_of rfl hK) ?_
  exact h

theorem State.copyCore_keeps {K : Nat} {s0 s : State} {t n} (hK : 256 ||| K = K) (h : Keeps K s0 s) :
    Keeps K s0 (State.copyCore s t n) := by
  unfold State.copyCore
  refine State.modTeamCore_keeps (sub_of rfl hK) ?_
  exact h

theorem State.reharnessCores_keeps {K : Nat} {s0 s : State} {t a b} (hK : 256 ||| K = K) (h : Keeps K s0 s) :
    Keeps K s0 (State.reharnessCores s t a b) := by
  unfold State.reharnessCores
  try dsimp only
  split
  · refine State.startCore_keeps (sub_of rfl hK) ?_
    exact h
  · refine State.startCore_keeps (sub_of rfl hK) ?_
    refine State.startCore_keeps (sub_of rfl hK) ?_
    exact h
  · refine State.copyCore_keeps (sub_of rfl hK) ?_
    exact h
  · refine State.startCore_keeps (sub_of rfl hK) ?_
    exact h
  · refine State.copyCore_keeps (sub_of rfl hK) ?_
    exact h
  · refine State.copyCore_keeps (sub_of rfl hK) ?_
    refine State.copyCore_keeps (sub_of rfl hK) ?_
    exact h
  · exact h

theorem State.irqClaim_keeps {K : Nat} {s0 s : State} {core} (hK : 262400 ||| K = K) (h : Keeps K s0 s) :
    Keeps K s0 (State.irqClaim s core) := by
  unfold State.irqClaim
  split
  · refine State.returns_keeps (sub_of rfl hK) ?_
    refine Keeps.set_irqPend (sub_of rfl hK) ?_ (fun i => by first | exact i | rfl | simpa using i | (split <;> simpa using i))
    exact h
  · refine State.returns_keeps (sub_of rfl hK) ?_
    exact h

theorem State.recordMismatch_keeps {K : Nat} {s0 s : State} {t kind core nomaj} (hK : 2 ||| K = K) (h : Keeps K s0 s) :
    Keeps K s0 (State.recordMismatch s t kind core nomaj) := by
  unfold State.recordMismatch
  refine State.inc_keeps (sub_of rfl hK) ?_
  refine State.wr_keeps (sub_of rfl hK) ?_
  refine State.wr_keeps (sub_of rfl hK) ?_
  exact h

theorem State.setHarnState_keeps {K : Nat} {s0 s : State} {t v} (hK : 2 ||| K = K) (h : Keeps K s0 s) :
    Keeps K s0 (State.setHarnState s t v) := by
  unfold State.setHarnState
  refine State.setf_keeps (sub_of rfl hK) ?_
  exact h

theorem State.modHarn_keeps {K : Nat} {s0 s : State} {t f} (hK : 274877906944 ||| K = K) (h : Keeps K s0 s) :
    Keeps K s0 (State.modHarn s t f) := by
  unfold State.modHarn
  refine Keeps.set_harn (sub_of rfl hK) ?_ (fun i => by first | exact i | rfl | simpa using i | (split <;> simpa using i))
  exact h

theorem State.harnLive_keeps {K : Nat} {s0 s : State} {t} (hK : 2 ||| K = K) (h : Keeps K s0 s) :
    Keeps K s0 (State.harnLive s t) := by
  unfold State.harnLive
  refine State.setf_keeps (sub_of rfl hK) ?_
  exact h

theorem State.troikaMismatch_keeps {K : Nat} {s0 s : State} {t odd kind} (hK : 2478197056262 ||| K = K) (h : Keeps K s0 s) :
    Keeps K s0 (State.troikaMismatch s t odd kind) := by
  unfold State.troikaMismatch
  refine State.irq_keeps (sub_of rfl hK) ?_
  refine State.harnLive_keeps (sub_of rfl hK) ?_
  refine State.modHarn_keeps (sub_of rfl hK) ?_
  refine State.setf_keeps (sub_of rfl hK) ?_
  refine State.setHarnState_keeps (sub_of rfl hK) ?_
  refine State.modTeamCore_keeps (sub_of rfl hK) ?_
  refine State.recordMismatch_keeps (sub_of rfl hK) ?_
  exact h

theorem State.teamAMachines_keeps {K : Nat} {s0 s : State} (hK : 240518701572 ||| K = K) (h : Keeps K s0 s) :
    Keeps K s0 (State.teamAMachines s) := by
  unfold State.teamAMachines
  refine State.parkRefresh_keeps (sub_of rfl hK) ?_
  refine State.setPump_keeps (sub_of rfl hK) ?_
  refine State.setClutch_keeps (sub_of rfl hK) ?_
  refine State.setPark_keeps (sub_of rfl hK) ?_
  refine State.each_keeps ?_ ?_
  · exact h
  · intro s1 _ h2
    refine State.putNat_keeps (sub_of rfl hK) ?_
    exact h2

theorem State.recordStall_keeps {K : Nat} {s0 s : State} {t stall} (hK : 2 ||| K = K) (h : Keeps K s0 s) :
    Keeps K s0 (State.recordStall s t stall) := by
  unfold State.recordStall
  refine State.setf_keeps (sub_of rfl hK) ?_
  exact h

theorem State.reharness_keeps {K : Nat} {s0 s : State} {t b stall} (hK : 274877907202 ||| K = K) (h : Keeps K s0 s) :
    Keeps K s0 (State.reharness s t b stall) := by
  unfold State.reharness
  refine State.modHarn_keeps (sub_of rfl hK) ?_
  refine State.recordStall_keeps (sub_of rfl hK) ?_
  refine State.inc_keeps (sub_of rfl hK) ?_
  refine State.harnLive_keeps (sub_of rfl hK) ?_
  refine State.setHarnState_keeps (sub_of rfl hK) ?_
  refine State.setf_keeps (sub_of rfl hK) ?_
  refine State.reharnessCores_keeps (sub_of rfl hK) ?_
  exact h

theorem State.startBarrier_keeps {K : Nat} {s0 s : State} {t byWfi} (hK : 274877906946 ||| K = K) (h : Keeps K s0 s) :
    Keeps K s0 (State.startBarrier s t byWfi) := by
  unfold State.startBarrier
  refine State.modHarn_keeps (sub_of rfl hK) ?_
  refine State.setHarnState_keeps (sub_of rfl hK) ?_
  exact h

theorem State.wdgReact_keeps {K : Nat} {s0 s : State} {t n} (hK : 17592186044398 ||| K = K) (h : Keeps K s0 s) :
    Keeps K s0 (State.wdgReact s t n) := by
  unfold State.wdgReact
  refine Keeps.ite ?_ ?_
  · refine State.warmReset_keeps (sub_of rfl hK) ?_
    refine State.receive_keeps (sub_of rfl hK) ?_
    refine State.setf_keeps (sub_of rfl hK) ?_
    exact h
  · refine State.setf_keeps (sub_of rfl hK) ?_
    refine State.resetDomain_keeps (sub_of rfl hK) ?_
    refine State.teamALost_keeps (sub_of rfl hK) ?_
    refine State.resetCause_keeps (sub_of rfl hK) ?_
    refine State.setf_keeps (sub_of rfl hK) ?_
    exact h

theorem State.reharnessFence_keeps {K : Nat} {s0 s : State} {t n b} (hK : 274877906946 ||| K = K) (h : Keeps K s0 s) :
    Keeps K s0 (State.reharnessFence s t n b) := by
  unfold State.reharnessFence
  refine Keeps.ite ?_ ?_
  · refine State.modHarn_keeps (sub_of rfl hK) ?_
    exact h
  · refine Keeps.ite ?_ ?_
    · refine State.modHarn_keeps (sub_of rfl hK) ?_
      exact h
    · refine Keeps.ite ?_ ?_
      · refine State.inc_keeps (sub_of rfl hK) ?_
        refine State.modHarn_keeps (sub_of rfl hK) ?_
        exact h
      · refine Keeps.ite ?_ ?_
        · refine State.inc_keeps (sub_of rfl hK) ?_
          refine State.modHarn_keeps (sub_of rfl hK) ?_
          exact h
        · refine Keeps.ite ?_ ?_
          · refine State.inc_keeps (sub_of rfl hK) ?_
            refine State.modHarn_keeps (sub_of rfl hK) ?_
            exact h
          · refine Keeps.ite ?_ ?_
            · refine State.inc_keeps (sub_of rfl hK) ?_
              refine State.modHarn_keeps (sub_of rfl hK) ?_
              exact h
            · refine State.modHarn_keeps (sub_of rfl hK) ?_
              refine State.setHarnState_keeps (sub_of rfl hK) ?_
              exact h

theorem State.teamAStart_keeps {K : Nat} {s0 s : State} (hK : 515396608774 ||| K = K) (h : Keeps K s0 s) :
    Keeps K s0 (State.teamAStart s) := by
  unfold State.teamAStart
  refine State.teamAMachines_keeps (sub_of rfl hK) ?_
  refine State.modHarn_keeps (sub_of rfl hK) ?_
  refine State.harnLive_keeps (sub_of rfl hK) ?_
  refine State.setHarnState_keeps (sub_of rfl hK) ?_
  refine State.forN_keeps ?_ ?_
  · refine State.setf_keeps (sub_of rfl hK) ?_
    exact h
  · intro s1 _ h2
    refine State.startCore_keeps (sub_of rfl hK) ?_
    exact h2

theorem State.releaseTeamA_keeps {K : Nat} {s0 s : State} {v} (hK : 4913443119878 ||| K = K) (h : Keeps K s0 s) :
    Keeps K s0 (State.releaseTeamA s v) := by
  unfold State.releaseTeamA
  refine Keeps.ite ?_ ?_
  · refine State.setf_keeps (sub_of rfl hK) ?_
    refine State.wrExcept_keeps (sub_of rfl hK) ?_
    exact h
  · refine Keeps.ite ?_ ?_
    · refine State.wrExcept_keeps (sub_of rfl hK) ?_
      exact h
    · refine Keeps.ite ?_ ?_
      · refine State.modBoot_keeps (sub_of rfl hK) ?_
        refine State.setPhase_keeps (sub_of rfl hK) ?_
        refine State.putNat_keeps (sub_of rfl hK) ?_
        refine State.putNat_keeps (sub_of rfl hK) ?_
        refine State.putNat_keeps (sub_of rfl hK) ?_
        refine State.putNat_keeps (sub_of rfl hK) ?_
        refine State.setf_keeps (sub_of rfl hK) ?_
        refine State.teamAStart_keeps (sub_of rfl hK) ?_
        refine State.wrExcept_keeps (sub_of rfl hK) ?_
        exact h
      · refine State.setf_keeps (sub_of rfl hK) ?_
        refine State.teamAStart_keeps (sub_of rfl hK) ?_
        refine State.wrExcept_keeps (sub_of rfl hK) ?_
        exact h

theorem State.rejoin_keeps {K : Nat} {s0 s : State} {t stall} (hK : 6876247778054 ||| K = K) (h : Keeps K s0 s) :
    Keeps K s0 (State.rejoin s t stall) := by
  unfold State.rejoin
  refine Keeps.ite ?_ ?_
  · refine State.powerEvaluate_keeps (sub_of rfl hK) ?_
    refine State.irq_keeps (sub_of rfl hK) ?_
    refine State.modHarn_keeps (sub_of rfl hK) ?_
    refine State.recordStall_keeps (sub_of rfl hK) ?_
    refine State.inc_keeps (sub_of rfl hK) ?_
    refine State.harnLive_keeps (sub_of rfl hK) ?_
    refine State.setHarnState_keeps (sub_of rfl hK) ?_
    refine State.forN_keeps ?_ ?_
    · refine State.modTeamCore_keeps (sub_of rfl hK) ?_
      exact h
    · intro s1 _ h2
      refine State.modTeamCore_keeps (sub_of rfl hK) ?_
      exact h2
  · refine State.irq_keeps (sub_of rfl hK) ?_
    refine State.modHarn_keeps (sub_of rfl hK) ?_
    refine State.recordStall_keeps (sub_of rfl hK) ?_
    refine State.inc_keeps (sub_of rfl hK) ?_
    refine State.harnLive_keeps (sub_of rfl hK) ?_
    refine State.setHarnState_keeps (sub_of rfl hK) ?_
    refine State.forN_keeps ?_ ?_
    · refine State.modTeamCore_keeps (sub_of rfl hK) ?_
      exact h
    · intro s3 _ h4
      refine State.modTeamCore_keeps (sub_of rfl hK) ?_
      exact h4

theorem State.noMajority_keeps {K : Nat} {s0 s : State} {t kind core} (hK : 2745492710150 ||| K = K) (h : Keeps K s0 s) :
    Keeps K s0 (State.noMajority s t kind core) := by
  unfold State.noMajority
  refine Keeps.ite ?_ ?_
  · refine State.modMg_keeps (sub_of rfl hK) ?_ (by intro c hc; first | exact hc | simpa using hc | (split <;> simpa using hc))
    refine State.report_keeps (sub_of rfl hK) ?_
    refine State.harnLive_keeps (sub_of rfl hK) ?_
    refine State.each_keeps ?_ ?_
    · refine State.irq_keeps (sub_of rfl hK) ?_
      refine State.modHarn_keeps (sub_of rfl hK) ?_
      refine State.recordMismatch_keeps (sub_of rfl hK) ?_
      exact h
    · intro s1 _ h2
      refine State.modTeamCore_keeps (sub_of rfl hK) ?_
      exact h2
  · refine State.teamALost_keeps (sub_of rfl hK) ?_
    refine State.irq_keeps (sub_of rfl hK) ?_
    refine State.modHarn_keeps (sub_of rfl hK) ?_
    refine State.recordMismatch_keeps (sub_of rfl hK) ?_
    exact h

/-! ## ModeOps -/

theorem State.refreshPhase_keeps {K : Nat} {s0 s : State} (hK : 532998 ||| K = K) (h : Keeps K s0 s) :
    Keeps K s0 (State.refreshPhase s) := by
  unfold State.refreshPhase
  refine Keeps.ite ?_ ?_
  · refine State.setPhase_keeps (sub_of rfl hK) ?_
    exact h
  · refine Keeps.ite ?_ ?_
    · refine State.setPhase_keeps (sub_of rfl hK) ?_
      exact h
    · exact h

theorem State.refuseMode_keeps {K : Nat} {s0 s : State} {m} (hK : 532996 ||| K = K) (h : Keeps K s0 s) :
    Keeps K s0 (State.refuseMode s m) := by
  unfold State.refuseMode
  split
  · refine State.putVal_keeps (sub_of rfl hK) ?_
    exact h
  · exact h

theorem State.serviceForcing_keeps {K : Nat} {s0 s : State} {v} (hK : 1048578 ||| K = K) (h : Keeps K s0 s) :
    Keeps K s0 (State.serviceForcing s v) := by
  unfold State.serviceForcing
  refine Keeps.ite ?_ ?_
  · refine State.modMg_keeps (sub_of rfl hK) ?_ (by intro c hc; first | exact hc | simpa using hc | (split <;> simpa using hc))
    exact h
  · refine Keeps.ite ?_ ?_
    · exact h
    · refine State.modMg_keeps (sub_of rfl hK) ?_ (by intro c hc; first | exact hc | simpa using hc | (split <;> simpa using hc))
      refine State.forN_keeps ?_ ?_
      · exact h
      · intro s1 _ h2
        refine State.modMgDrive_keeps (sub_of rfl hK) ?_
        refine State.wr_keeps (sub_of rfl hK) ?_
        exact h2

theorem State.takeNss_keeps {K : Nat} {s0 s : State} {d i_ v} (hK : 2 ||| K = K) (h : Keeps K s0 s) :
    Keeps K s0 (State.takeNss s d i_ v) := by
  unfold State.takeNss
  refine Keeps.ite ?_ ?_
  · exact h
  · refine State.setf_keeps (sub_of rfl hK) ?_
    exact h

theorem State.watchWrite_keeps {K : Nat} {s0 s : State} {id v} (hK : 2204400247558 ||| K = K) (h : Keeps K s0 s) :
    Keeps K s0 (State.watchWrite s id v) := by
  unfold State.watchWrite
  refine Keeps.ite ?_ ?_
  · refine State.serviceForcing_keeps (sub_of rfl hK) ?_
    refine State.chsCurrent_keeps (sub_of rfl hK) ?_
    exact h
  · refine Keeps.ite ?_ ?_
    · refine State.takeNss_keeps (sub_of rfl hK) ?_
      refine State.chsCurrent_keeps (sub_of rfl hK) ?_
      exact h
    · refine Keeps.ite ?_ ?_
      · refine State.takeNss_keeps (sub_of rfl hK) ?_
        refine State.chsCurrent_keeps (sub_of rfl hK) ?_
        exact h
      · refine Keeps.ite ?_ ?_
        · refine State.modGate_keeps (sub_of rfl hK) ?_ (by intro c hc; first | exact hc | simpa using hc | (split <;> simpa using hc))
          refine State.chsCurrent_keeps (sub_of rfl hK) ?_
          exact h
        · refine Keeps.ite ?_ ?_
          · refine State.modGate_keeps (sub_of rfl hK) ?_ (by intro c hc; first | exact hc | simpa using hc | (split <;> simpa using hc))
            refine State.chsCurrent_keeps (sub_of rfl hK) ?_
            exact h
          · refine State.chsCurrent_keeps (sub_of rfl hK) ?_
            exact h

theorem State.commitMode_keeps {K : Nat} {s0 s : State} {m} (hK : 664068 ||| K = K) (h : Keeps K s0 s) :
    Keeps K s0 (State.commitMode s m) := by
  unfold State.commitMode
  refine Keeps.ite ?_ ?_
  · refine State.modMode_keeps (sub_of rfl hK) ?_
    refine State.putNow_keeps (sub_of rfl hK) ?_
    exact h
  · refine Keeps.ite ?_ ?_
    · refine Keeps.ite ?_ ?_
      · refine State.modeLeave_keeps (sub_of rfl hK) ?_
        refine State.putNow_keeps (sub_of rfl hK) ?_
        exact h
      · refine State.putNow_keeps (sub_of rfl hK) ?_
        exact h
    · exact h

theorem State.modeEntering_keeps {K : Nat} {s0 s : State} (hK : 2203318886918 ||| K = K) (h : Keeps K s0 s) :
    Keeps K s0 (State.modeEntering s) := by
  unfold State.modeEntering
  refine State.raise_keeps (sub_of rfl hK) ?_
  refine State.modMode_keeps (sub_of rfl hK) ?_
  refine State.putNat_keeps (sub_of rfl hK) ?_
  exact h

theorem State.modeLeft_keeps {K : Nat} {s0 s : State} (hK : 2203318903302 ||| K = K) (h : Keeps K s0 s) :
    Keeps K s0 (State.modeLeft s) := by
  unfold State.modeLeft
  refine State.modeEntering_keeps (sub_of rfl hK) ?_
  refine State.stopGens_keeps (sub_of rfl hK) ?_
  exact h

theorem State.modeHooks_keeps {K : Nat} {s0 s : State} {old new} (hK : 470311558 ||| K = K) (h : Keeps K s0 s) :
    Keeps K s0 (State.modeHooks s old new) := by
  unfold State.modeHooks
  refine State.modCh_keeps (sub_of rfl hK) ?_
  refine Keeps.ite ?_ ?_
  · refine State.modInlet_keeps (sub_of rfl hK) ?_
    refine Keeps.ite ?_ ?_
    · refine State.stationStart_keeps (sub_of rfl hK) ?_
      refine State.modSupply_keeps (sub_of rfl hK) ?_
      refine State.putNat_keeps (sub_of rfl hK) ?_
      exact h
    · exact h
  · refine Keeps.ite ?_ ?_
    · refine State.stationStart_keeps (sub_of rfl hK) ?_
      refine State.modSupply_keeps (sub_of rfl hK) ?_
      refine State.putNat_keeps (sub_of rfl hK) ?_
      exact h
    · exact h

theorem State.modeEntered_keeps {K : Nat} {s0 s : State} (hK : 2204870009734 ||| K = K) (h : Keeps K s0 s) :
    Keeps K s0 (State.modeEntered s) := by
  unfold State.modeEntered
  refine State.refreshMmreq_keeps (sub_of rfl hK) ?_
  refine State.modeHooks_keeps (sub_of rfl hK) ?_
  refine State.putNat_keeps (sub_of rfl hK) ?_
  refine State.watchWrite_keeps (sub_of rfl hK) ?_
  refine State.putNat_keeps (sub_of rfl hK) ?_
  exact h

theorem State.modeArrived_keeps {K : Nat} {s0 s : State} (hK : 2204870009734 ||| K = K) (h : Keeps K s0 s) :
    Keeps K s0 (State.modeArrived s) := by
  unfold State.modeArrived
  refine Keeps.ite ?_ ?_
  · refine State.modeEntered_keeps (sub_of rfl hK) ?_
    exact h
  · refine State.modeLeave_keeps (sub_of rfl hK) ?_
    exact h

theorem State.modeDeadline_keeps {K : Nat} {s0 s : State} (hK : 2204870009734 ||| K = K) (h : Keeps K s0 s) :
    Keeps K s0 (State.modeDeadline s) := by
  unfold State.modeDeadline
  refine Keeps.ite ?_ ?_
  · refine State.modeLeft_keeps (sub_of rfl hK) ?_
    exact h
  · refine Keeps.ite ?_ ?_
    · refine State.modeArrived_keeps (sub_of rfl hK) ?_
      exact h
    · exact h

theorem State.publishConditions_keeps {K : Nat} {s0 s : State} (hK : 532996 ||| K = K) (h : Keeps K s0 s) :
    Keeps K s0 (State.publishConditions s) := by
  unfold State.publishConditions
  refine State.putNat_keeps (sub_of rfl hK) ?_
  exact h

/-! ## BridlePath -/

theorem State.takeIn_keeps {K : Nat} {s0 s : State} {i_ target tReady lat cls} (hK : 2203325440774 ||| K = K) (h : Keeps K s0 s) :
    Keeps K s0 (State.takeIn s i_ target tReady lat cls) := by
  unfold State.takeIn
  split
  · exact h
  · refine Keeps.ite ?_ ?_
    · refine State.firstReply_keeps (sub_of rfl hK) ?_
      refine State.reserve_keeps (sub_of rfl hK) ?_
      exact h
    · refine State.firstReply_keeps (sub_of rfl hK) ?_
      refine State.inc_keeps (sub_of rfl hK) ?_
      refine State.freeSlot_keeps (sub_of rfl hK) ?_
      exact h

theorem State.noSession_keeps {K : Nat} {s0 s : State} {k} (hK : 6291458 ||| K = K) (h : Keeps K s0 s) :
    Keeps K s0 (State.noSession s k) := by
  unfold State.noSession
  refine Keeps.ite ?_ ?_
  · refine State.inc_keeps (sub_of rfl hK) ?_
    exact h
  · refine State.postReply_keeps (sub_of rfl hK) ?_
    refine State.modBridle_keeps (sub_of rfl hK) ?_ (by intro c hc; first | exact hc | simpa using hc | (split <;> simpa using hc))
    refine State.inc_keeps (sub_of rfl hK) ?_
    exact h

theorem State.askMode_keeps {K : Nat} {s0 s : State} {level k} (hK : 532996 ||| K = K) (h : Keeps K s0 s) :
    Keeps K s0 (State.askMode s level k).1 := by
  unfold State.askMode
  try dsimp only
  split
  · exact h
  · split
    · exact h
    · split
      · exact h
      · split
        · refine State.refuseMode_keeps (sub_of rfl hK) ?_
          exact h
        · exact h

theorem State.askSubscribe_keeps {K : Nat} {s0 s : State} {level k} (hK : 4194304 ||| K = K) (h : Keeps K s0 s) :
    Keeps K s0 (State.askSubscribe s level k).1 := by
  unfold State.askSubscribe
  dsimp only
  split
  · exact h
  · split
    · exact h
    · split
      · exact h
      · split
        · exact h
        · dsimp only
          refine State.modBridle_keeps (sub_of rfl hK) ?_ ?_
          · exact h
          · exact fun _ hc => hc

theorem State.askUnsubscribe_keeps {K : Nat} {s0 s : State} {k} (hK : 4194304 ||| K = K) (h : Keeps K s0 s) :
    Keeps K s0 (State.askUnsubscribe s k).1 := by
  unfold State.askUnsubscribe
  dsimp only
  split
  · exact h
  · dsimp only
    refine State.modBridle_keeps (sub_of rfl hK) ?_ ?_
    · exact h
    · exact fun _ hc => hc

theorem State.askOpen_keeps {K : Nat} {s0 s : State} {k} (hK : 2203323343750 ||| K = K) (h : Keeps K s0 s) :
    Keeps K s0 (State.askOpen s k).1 := by
  unfold State.askOpen
  try dsimp only
  split
  · exact h
  · split
    · exact h
    · split
      · exact h
      · split
        · exact h
        · split
          · exact h
          · refine State.irq_keeps (sub_of rfl hK) ?_
            refine State.modSess_keeps (sub_of rfl hK) ?_
            refine State.wr_keeps (sub_of rfl hK) ?_
            refine State.drawBytes_keeps (sub_of rfl hK) ?_
            exact h

theorem State.proofFailed_keeps {K : Nat} {s0 s : State} {n l} (hK : 2203331732230 ||| K = K) (h : Keeps K s0 s) :
    Keeps K s0 (State.proofFailed s n l) := by
  unfold State.proofFailed
  refine State.closeSession_keeps (sub_of rfl hK) ?_
  refine Keeps.ite ?_ ?_
  · refine State.inc_keeps (sub_of rfl hK) ?_
    refine State.setf_keeps (sub_of rfl hK) ?_
    exact h
  · refine State.modSecure_keeps (sub_of rfl hK) ?_
    refine State.setf_keeps (sub_of rfl hK) ?_
    refine State.inc_keeps (sub_of rfl hK) ?_
    refine State.setf_keeps (sub_of rfl hK) ?_
    exact h

theorem State.askProof_keeps {K : Nat} {s0 s : State} {k} (hK : 2203331732230 ||| K = K) (h : Keeps K s0 s) :
    Keeps K s0 (State.askProof s k).1 := by
  unfold State.askProof
  try dsimp only
  split
  · exact h
  · split
    · exact h
    · split
      · refine State.proofFailed_keeps (sub_of rfl hK) ?_
        exact h
      · refine State.irq_keeps (sub_of rfl hK) ?_
        refine State.setf_keeps (sub_of rfl hK) ?_
        refine State.modSess_keeps (sub_of rfl hK) ?_
        refine State.wr_keeps (sub_of rfl hK) ?_
        refine State.setf_keeps (sub_of rfl hK) ?_
        exact h

theorem State.hwAsk_keeps {K : Nat} {s0 s : State} {row k} (hK : 2203331732358 ||| K = K) (h : Keeps K s0 s) :
    Keeps K s0 (State.hwAsk s row k).1 := by
  unfold State.hwAsk
  try dsimp only
  split
  · exact h
  · split
    · exact h
    · split
      · exact h
      · refine State.askMode_keeps (sub_of rfl hK) ?_
        exact h
      · exact h
      · exact h
      · exact h
      · refine State.askSubscribe_keeps (sub_of rfl hK) ?_
        exact h
      · refine State.askUnsubscribe_keeps (sub_of rfl hK) ?_
        exact h
      · refine State.askOpen_keeps (sub_of rfl hK) ?_
        exact h
      · refine State.askProof_keeps (sub_of rfl hK) ?_
        exact h
      · exact h
      · exact h

theorem State.recordHolder_keeps {K : Nat} {s0 s : State} {i_ k} (hK : 2 ||| K = K) (h : Keeps K s0 s) :
    Keeps K s0 (State.recordHolder s i_ k) := by
  unfold State.recordHolder
  refine Keeps.ite ?_ ?_
  · refine State.setf_keeps (sub_of rfl hK) ?_
    refine State.forN_keeps ?_ ?_
    · exact h
    · intro s1 _ h2
      refine State.setf_keeps (sub_of rfl hK) ?_
      exact h2
  · exact h

theorem State.answerAsk_keeps {K : Nat} {s0 s : State} {i_ row k a} (hK : 2203325440774 ||| K = K) (h : Keeps K s0 s) :
    Keeps K s0 (State.answerAsk s i_ row k a) := by
  unfold State.answerAsk
  refine Keeps.ite ?_ ?_
  · refine State.recordHolder_keeps (sub_of rfl hK) ?_
    refine State.takeIn_keeps (sub_of rfl hK) ?_
    refine State.setSlot_keeps (sub_of rfl hK) ?_
    exact h
  · refine Keeps.ite ?_ ?_
    · refine State.closeSession_keeps (sub_of rfl hK) ?_
      refine State.firstReply_keeps (sub_of rfl hK) ?_
      exact h
    · refine State.firstReply_keeps (sub_of rfl hK) ?_
      exact h

theorem State.enqueue_keeps {K : Nat} {s0 s : State} {i_ row k} (hK : 2203325440774 ||| K = K) (h : Keeps K s0 s) :
    Keeps K s0 (State.enqueue s i_ row k) := by
  unfold State.enqueue
  refine Keeps.ite ?_ ?_
  · refine State.firstReply_keeps (sub_of rfl hK) ?_
    exact h
  · refine Keeps.ite ?_ ?_
    · refine State.firstReply_keeps (sub_of rfl hK) ?_
      exact h
    · refine State.irq_keeps (sub_of rfl hK) ?_
      refine State.bridleMirror_keeps (sub_of rfl hK) ?_
      refine State.modBridle_keeps (sub_of rfl hK) ?_ (by intro c hc; first | exact hc | simpa using hc | (split <;> simpa using hc))
      refine State.showPacket_keeps (sub_of rfl hK) ?_
      refine State.setSlot_keeps (sub_of rfl hK) ?_
      exact h

theorem State.runRequest_keeps {K : Nat} {s0 s : State} {i_ k} (hK : 2203333829510 ||| K = K) (h : Keeps K s0 s) :
    Keeps K s0 (State.runRequest s i_ k) := by
  unfold State.runRequest
  split
  · refine State.firstReply_keeps (sub_of rfl hK) ?_
    exact h
  · refine Keeps.ite ?_ ?_
    · refine State.answerAsk_keeps (sub_of rfl hK) ?_
      refine State.hwAsk_keeps (sub_of rfl hK) ?_
      exact h
    · refine State.enqueue_keeps (sub_of rfl hK) ?_
      exact h

theorem State.sequenced_keeps {K : Nat} {s0 s : State} {i_ k} (hK : 2203333829510 ||| K = K) (h : Keeps K s0 s) :
    Keeps K s0 (State.sequenced s i_ k) := by
  unfold State.sequenced
  refine Keeps.ite ?_ ?_
  · refine State.runRequest_keeps (sub_of rfl hK) ?_
    exact h
  · refine Keeps.ite ?_ ?_
    · refine State.inc_keeps (sub_of rfl hK) ?_
      exact h
    · refine Keeps.ite ?_ ?_
      · refine State.runRequest_keeps (sub_of rfl hK) ?_
        exact h
      · split
        · refine State.inc_keeps (sub_of rfl hK) ?_
          refine State.postReply_keeps (sub_of rfl hK) ?_
          exact h
        · refine State.inc_keeps (sub_of rfl hK) ?_
          refine State.firstReply_keeps (sub_of rfl hK) ?_
          exact h

theorem State.checkRequest_keeps {K : Nat} {s0 s : State} {k} (hK : 2203333829510 ||| K = K) (h : Keeps K s0 s) :
    Keeps K s0 (State.checkRequest s k) := by
  unfold State.checkRequest
  have ht : Keeps K s0 (if k.n = 0 then s else s.modSess k.n (fun x => { x with last := s.dtb })) :=
    Keeps.ite h (State.modSess_keeps (sub_of rfl hK) h)
  refine Keeps.ite (State.noSession_keeps (sub_of rfl hK) h) (Keeps.ite (State.inc_keeps (sub_of rfl hK) h) ?_)
  dsimp only
  generalize (if k.n = 0 then s else s.modSess k.n (fun x => { x with last := s.dtb })) = t at ht ⊢
  split
  · exact State.inc_keeps (sub_of rfl hK) (State.firstReply_keeps (sub_of rfl hK) ht)
  · exact State.sequenced_keeps (sub_of rfl hK) ht

theorem State.bridlePacket_keeps {K : Nat} {s0 s : State} {port xl data} (hK : 2203333829510 ||| K = K) (h : Keeps K s0 s) :
    Keeps K s0 (State.bridlePacket s port xl data) := by
  unfold State.bridlePacket
  refine Keeps.ite ?_ ?_
  · exact h
  · split
    · refine State.inc_keeps (sub_of rfl hK) ?_
      exact h
    · refine State.checkRequest_keeps (sub_of rfl hK) ?_
      exact h

theorem State.receiveFrame_keeps {K : Nat} {s0 s : State} {p f} (hK : 2203334878086 ||| K = K) (h : Keeps K s0 s) :
    Keeps K s0 (State.receiveFrame s p f) := by
  unfold State.receiveFrame
  refine State.frameEnd_keeps (sub_of rfl hK) ?_
  refine Keeps.ite ?_ ?_
  · refine Keeps.ite ?_ ?_
    · refine State.inc_keeps (sub_of rfl hK) ?_
      refine State.rxGood_keeps (sub_of rfl hK) ?_
      refine State.inc_keeps (sub_of rfl hK) ?_
      exact h
    · refine State.bridlePacket_keeps (sub_of rfl hK) ?_
      refine State.rxGood_keeps (sub_of rfl hK) ?_
      refine State.inc_keeps (sub_of rfl hK) ?_
      exact h
  · refine State.receiveObject_keeps (sub_of rfl hK) ?_
    refine State.rxGood_keeps (sub_of rfl hK) ?_
    refine State.inc_keeps (sub_of rfl hK) ?_
    exact h

theorem State.request_keeps {K : Nat} {s0 s : State} {p xl n seq opcode conf params mac} (hK : 2203334878086 ||| K = K) (h : Keeps K s0 s) :
    Keeps K s0 (State.request s p xl n seq opcode conf params mac) := by
  unfold State.request
  refine Keeps.ite ?_ ?_
  · refine State.receiveFrame_keeps (sub_of rfl hK) ?_
    exact h
  · exact h

end Sys2Proof.Machine
end

