-- ==== Sys2Proof/Laws/KeepsRegOps.lean ====
section
/-! SUPPORT. What each operation and each command of Machine/Startup.lean, Machine/RegOps.lean keeps. -/

set_option linter.unusedVariables false
set_option linter.unusedTactic false
set_option linter.unreachableTactic false

namespace Sys2Proof.Machine

/-! ## Startup -/

theorem State.tryBank_keeps {K : Nat} {s0 s : State} {active b} (hK : 8388642 ||| K = K) (h : Keeps K s0 s) :
    Keeps K s0 (State.tryBank s active b).2 := by
  unfold State.tryBank
  generalize s.verifyImage b 0 = c
  dsimp only
  generalize (if c.code = 0 && c.kind ≠ 1 then 1 else c.code) = code
  split
  · exact State.setf_keeps (sub_of rfl hK) h
  · exact State.extend_keeps (sub_of rfl hK) (State.setb_keeps (sub_of rfl hK) (State.setf_keeps (sub_of rfl hK) (State.setf_keeps (sub_of rfl hK) (State.setf_keeps (sub_of rfl hK)
      (Keeps.ite (State.writeRecord_keeps (sub_of rfl hK) h) h)))))

theorem State.enterStage1_keeps {K : Nat} {s0 s : State} {descs} (hK : 6601366320654 ||| K = K) (h : Keeps K s0 s) :
    Keeps K s0 (State.enterStage1 s descs) := by
  unfold State.enterStage1
  refine State.bootAt_keeps (sub_of rfl hK) ?_
  refine State.raise_keeps (sub_of rfl hK) ?_
  refine State.setf_keeps (sub_of rfl hK) ?_
  refine State.setPhase_keeps (sub_of rfl hK) ?_
  refine State.modBoot_keeps (sub_of rfl hK) ?_
  refine State.each_keeps ?_ ?_
  · exact h
  · intro s1 _ h2
    refine State.setDesc_keeps (sub_of rfl hK) ?_
    exact h2

/-- The state that a verified bank leaves. -/
theorem State.tryBank_some_keeps {K : Nat} {s0 s : State} {active b t} (hK : 8388642 ||| K = K) (h : Keeps K s0 s)
    (ht : (s.tryBank active b).1 = some t) : Keeps K s0 t := by
  have h2 := State.tryBank_keeps (active := active) (b := b) hK h
  unfold State.tryBank at ht h2
  generalize s.verifyImage b 0 = c at ht h2
  dsimp only at ht h2
  generalize (if c.code = 0 && c.kind ≠ 1 then 1 else c.code) = code at ht h2
  by_cases hc : code ≠ 0
  · simp [hc] at ht
  · simp only [hc, if_false, Option.some.injEq] at ht h2
    rw [← ht]
    exact State.modSecure_keeps (sub_of rfl hK) h2

theorem State.bootRom_keeps {K : Nat} {s0 s : State} {descs} (hK : 6601374709550 ||| K = K) (h : Keeps K s0 s) :
    Keeps K s0 (State.bootRom s descs) := by
  unfold State.bootRom
  dsimp only
  have h1 : Keeps K s0 (if s.bootRecord.2.1 = 1 && 3 ≤ s.bootRecord.2.2 then s.writeRecord (1 - s.bootRecord.1) 0 0 else s) :=
    Keeps.ite (State.writeRecord_keeps (sub_of rfl hK) h) h
  generalize (if s.bootRecord.2.1 = 1 && 3 ≤ s.bootRecord.2.2 then s.writeRecord (1 - s.bootRecord.1) 0 0 else s) = s1 at h1 ⊢
  split
  · rename_i t _ he
    exact State.enterStage1_keeps (sub_of rfl hK) (State.tryBank_some_keeps (sub_of rfl hK) h1 (congrArg Prod.fst he))
  · rename_i s2 he
    have h2 : Keeps K s0 s2 := by
      have := State.tryBank_keeps (active := s1.bootRecord.1) (b := s1.bootRecord.1) (sub_of rfl hK) h1
      rwa [he] at this
    split
    · rename_i t _ he
      exact State.enterStage1_keeps (sub_of rfl hK) (State.tryBank_some_keeps (sub_of rfl hK) h2 (congrArg Prod.fst he))
    · rename_i s3 he3
      have h3 : Keeps K s0 s3 := by
        have := State.tryBank_keeps (active := s1.bootRecord.1) (b := 1 - s1.bootRecord.1) (sub_of rfl hK) h2
        rwa [he3] at this
      exact State.haltTeamS_keeps (sub_of rfl hK) h3

theorem State.strapPhase_keeps {K : Nat} {s0 s : State} (hK : 4398046511106 ||| K = K) (h : Keeps K s0 s) :
    Keeps K s0 (State.strapPhase s) := by
  unfold State.strapPhase
  refine State.wr_keeps (sub_of rfl hK) ?_
  refine State.modBoot_keeps (sub_of rfl hK) ?_
  exact h

theorem State.softwareReset_keeps {K : Nat} {s0 s : State} (hK : 17592186044398 ||| K = K) (h : Keeps K s0 s) :
    Keeps K s0 (State.softwareReset s) := by
  unfold State.softwareReset
  refine Keeps.ite ?_ ?_
  · refine State.modBoot_keeps (sub_of rfl hK) ?_
    refine State.reactModule_keeps (sub_of rfl hK) ?_
    exact h
  · refine State.warmReset_keeps (sub_of rfl hK) ?_
    refine State.reactModule_keeps (sub_of rfl hK) ?_
    exact h

theorem State.domainsUp_keeps {K : Nat} {s0 s : State} (hK : 17592186044399 ||| K = K) (h : Keeps K s0 s) :
    Keeps K s0 (State.domainsUp s) := by
  unfold State.domainsUp
  refine State.powerMirror_keeps (sub_of rfl hK) ?_
  refine State.strapPhase_keeps (sub_of rfl hK) ?_
  refine State.modBoot_keeps (sub_of rfl hK) ?_
  refine Keeps.set_keeper (sub_of rfl hK) ?_
  refine Keeps.ite ?_ ?_
  · refine State.powerRecord_keeps (sub_of rfl hK) ?_
    refine State.resetCause_keeps (sub_of rfl hK) ?_
    refine State.setf_keeps (sub_of rfl hK) ?_
    refine Keeps.ite ?_ ?_
    · refine State.setDtb_keeps (sub_of rfl hK) ?_
      refine State.forN_keeps ?_ ?_
      · refine State.debugEnd_keeps (sub_of rfl hK) ?_
        refine Keeps.foldl ?_ _ ?_
        · intro s1 _ h2
          refine State.resetDomain_keeps (sub_of rfl hK) ?_
          exact h2
        · exact h
      · intro s3 _ h4
        refine State.setDomain_keeps (sub_of rfl hK) ?_
        exact h4
    · refine State.dtbZero_keeps (sub_of rfl hK) ?_
      refine State.forN_keeps ?_ ?_
      · refine State.debugEnd_keeps (sub_of rfl hK) ?_
        refine Keeps.foldl ?_ _ ?_
        · intro s5 _ h6
          refine State.resetDomain_keeps (sub_of rfl hK) ?_
          exact h6
        · exact h
      · intro s7 _ h8
        refine State.setDomain_keeps (sub_of rfl hK) ?_
        exact h8
  · refine State.setf_keeps (sub_of rfl hK) ?_
    refine Keeps.ite ?_ ?_
    · refine State.setDtb_keeps (sub_of rfl hK) ?_
      refine State.forN_keeps ?_ ?_
      · refine State.debugEnd_keeps (sub_of rfl hK) ?_
        refine Keeps.foldl ?_ _ ?_
        · intro s9 _ h10
          refine State.resetDomain_keeps (sub_of rfl hK) ?_
          exact h10
        · exact h
      · intro s11 _ h12
        refine State.setDomain_keeps (sub_of rfl hK) ?_
        exact h12
    · refine State.dtbZero_keeps (sub_of rfl hK) ?_
      refine State.forN_keeps ?_ ?_
      · refine State.debugEnd_keeps (sub_of rfl hK) ?_
        refine Keeps.foldl ?_ _ ?_
        · intro s13 _ h14
          refine State.resetDomain_keeps (sub_of rfl hK) ?_
          exact h14
        · exact h
      · intro s15 _ h16
        refine State.setDomain_keeps (sub_of rfl hK) ?_
        exact h16

theorem State.keeperReset_keeps {K : Nat} {s0 s : State} (hK : 554059169794 ||| K = K) (h : Keeps K s0 s) :
    Keeps K s0 (State.keeperReset s) := by
  unfold State.keeperReset
  refine State.modSecure_keeps (sub_of rfl hK) ?_
  refine Keeps.set_regs_keeper_thermal (sub_of rfl hK) ?_ (fun i => by first | exact sparseWf_set i _ _ | exact sparseWf_filter i _ | rfl | exact i) (fun i => by first | exact i | rfl | simpa using i | (split <;> simpa using i))
  exact h

theorem execBootFailure_keeps {K : Nat} {s0 s : State} {kind} (hK : 17592186044398 ||| K = K) (h : Keeps K s0 s) :
    Answers K s0 (execBootFailure kind s) := by
  unfold execBootFailure
  refine Answers.next ?_
  refine Keeps.ite ?_ ?_
  · refine Keeps.ite ?_ ?_
    · refine State.softwareReset_keeps (sub_of rfl hK) ?_
      refine State.setPhase_keeps (sub_of rfl hK) ?_
      refine State.setf_keeps (sub_of rfl hK) ?_
      exact h
    · refine State.haltTeamS_keeps (sub_of rfl hK) ?_
      refine State.setPhase_keeps (sub_of rfl hK) ?_
      refine State.setf_keeps (sub_of rfl hK) ?_
      exact h
  · exact h

theorem execBrownOut_keeps {K : Nat} {s0 s : State} {low} (hK : 17592186044399 ||| K = K) (h : Keeps K s0 s) :
    Answers K s0 (execBrownOut low s) := by
  unfold execBrownOut
  refine Answers.next ?_
  split
  · exact h
  · refine Keeps.ite ?_ ?_
    · refine State.dtbZero_keeps (sub_of rfl hK) ?_
      refine State.supplyLost_keeps (sub_of rfl hK) ?_
      refine State.resetCause_keeps (sub_of rfl hK) ?_
      refine State.reach_keeps (sub_of rfl hK) ?_
      exact h
    · refine State.modBoot_keeps (sub_of rfl hK) ?_
      refine State.reach_keeps (sub_of rfl hK) ?_
      exact h

theorem execNvmProgramDone_keeps {K : Nat} {s0 s : State} (hK : 17592186044398 ||| K = K) (h : Keeps K s0 s) :
    Answers K s0 (execNvmProgramDone s) := by
  unfold execNvmProgramDone
  refine Answers.next ?_
  refine Keeps.ite ?_ ?_
  · exact h
  · refine Keeps.ite ?_ ?_
    · refine State.warmReset_keeps (sub_of rfl hK) ?_
      refine State.nvmDone_keeps (sub_of rfl hK) ?_
      exact h
    · refine State.nvmDone_keeps (sub_of rfl hK) ?_
      exact h

theorem execPowerFailWarning_keeps {K : Nat} {s0 s : State} (hK : 6601366708998 ||| K = K) (h : Keeps K s0 s) :
    Answers K s0 (execPowerFailWarning s) := by
  unfold execPowerFailWarning
  refine Answers.next ?_
  refine Keeps.ite ?_ ?_
  · exact h
  · refine State.irq_keeps (sub_of rfl hK) ?_
    refine State.report_keeps (sub_of rfl hK) ?_
    refine State.modBoot_keeps (sub_of rfl hK) ?_
    refine State.resetCause_keeps (sub_of rfl hK) ?_
    exact h

theorem execSoftwareReset_keeps {K : Nat} {s0 s : State} {core v} (hK : 17592186044398 ||| K = K) (h : Keeps K s0 s) :
    Answers K s0 (execSoftwareReset core v s) := by
  unfold execSoftwareReset
  refine Answers.ofUnit ?_
  refine State.access_keeps (sub_of rfl hK) ?_ ?_
  · exact h
  · intro s1 h2
    refine Keeps.ite ?_ ?_
    · refine State.softwareReset_keeps (sub_of rfl hK) ?_
      exact h2
    · refine State.setf_keeps (sub_of rfl hK) ?_
      exact h2

theorem execStage1Entry_keeps {K : Nat} {s0 s : State} {us descs} (hK : 6601374709551 ||| K = K) (h : Keeps K s0 s) :
    Answers K s0 (execStage1Entry us descs s) := by
  unfold execStage1Entry
  refine Answers.next ?_
  refine Keeps.ite ?_ ?_
  · refine State.bootRom_keeps (sub_of rfl hK) ?_
    refine State.reachRtc_keeps (sub_of rfl hK) ?_
    exact h
  · exact h

theorem execStartupDomainsUp_keeps {K : Nat} {s0 s : State} (hK : 17592186044399 ||| K = K) (h : Keeps K s0 s) :
    Answers K s0 (execStartupDomainsUp s) := by
  unfold execStartupDomainsUp
  refine Answers.next ?_
  refine Keeps.ite ?_ ?_
  · refine State.domainsUp_keeps (sub_of rfl hK) ?_
    refine State.reachRtc_keeps (sub_of rfl hK) ?_
    exact h
  · exact h

theorem execStrapEnd_keeps {K : Nat} {s0 s : State} {sync wake tp0} (hK : 4398046511123 ||| K = K) (h : Keeps K s0 s) :
    Answers K s0 (execStrapEnd sync wake tp0 s) := by
  unfold execStrapEnd
  refine Answers.next ?_
  refine Keeps.ite ?_ ?_
  · exact h
  · refine Keeps.set_sram (sub_of rfl hK) ?_ (fun i => by first | exact sparseWf_set i _ _ | exact sparseWf_filter i _ | rfl | exact i)
    refine State.modBoot_keeps (sub_of rfl hK) ?_
    refine Keeps.ite ?_ ?_
    · refine State.reach_keeps (sub_of rfl hK) ?_
      exact h
    · refine State.setb_keeps (sub_of rfl hK) ?_
      refine State.setf_keeps (sub_of rfl hK) ?_
      refine State.reach_keeps (sub_of rfl hK) ?_
      exact h

/-- VBATK_APPLIED alone turns RTC time back. -/
theorem execVbatkApplied_keeps {s t : State} (h : execVbatkApplied s = .next t) :
    t.variant = s.variant ∧ t.pending = s.pending ∧ (s.Inv → t.Inv) := by
  unfold execVbatkApplied at h
  dsimp only at h
  have hk : Keeps (2 ^ 48 - 1) s ((s.supplyLost.keeperReset).modBoot (fun b => { b with porNext := true })) :=
    State.modBoot_keeps rfl (State.keeperReset_keeps rfl (State.supplyLost_keeps rfl (Keeps.refl _ _)))
  generalize (s.supplyLost.keeperReset).modBoot _ = u at hk h
  rw [← Host.Outcome.next.inj h]
  exact ⟨hk.variant, hk.pending, fun i => { hk.inv i with }⟩

theorem execVsupQualified_keeps {K : Nat} {s0 s : State} (hK : 4398046511106 ||| K = K) (h : Keeps K s0 s) :
    Answers K s0 (execVsupQualified s) := by
  unfold execVsupQualified
  refine Answers.next ?_
  refine Keeps.ite ?_ ?_
  · exact h
  · refine State.sequencerStart_keeps (sub_of rfl hK) ?_
    refine Keeps.ite ?_ ?_
    · refine State.resetCause_keeps (sub_of rfl hK) ?_
      exact h
    · exact h

theorem execWarmReset_keeps {K : Nat} {s0 s : State} (hK : 4398046511107 ||| K = K) (h : Keeps K s0 s) :
    Answers K s0 (execWarmReset s) := by
  unfold execWarmReset
  refine Answers.next ?_
  refine Keeps.ite ?_ ?_
  · refine State.strapPhase_keeps (sub_of rfl hK) ?_
    refine State.reach_keeps (sub_of rfl hK) ?_
    exact h
  · exact h

/-! ## RegOps -/

theorem State.thWrite_keeps {K : Nat} {s0 s : State} {a v} (hK : 549755813890 ||| K = K) (h : Keeps K s0 s) :
    Keeps K s0 (State.thWrite s a v) := by
  unfold State.thWrite
  refine Keeps.ite ?_ ?_
  · refine State.thermalEnable_keeps (sub_of rfl hK) ?_
    exact h
  · refine Keeps.ite ?_ ?_
    · exact h
    · refine Keeps.ite ?_ ?_
      · refine State.thermalLevel_keeps (sub_of rfl hK) ?_
        exact h
      · refine State.wrReg_keeps (sub_of rfl hK) ?_
        exact h

theorem State.engineWrite_keeps {K : Nat} {s0 s : State} {e v} (hK : 8194 ||| K = K) (h : Keeps K s0 s) :
    Keeps K s0 (State.engineWrite s e v) := by
  unfold State.engineWrite
  refine Keeps.ite ?_ ?_
  · refine State.engineStart_keeps (sub_of rfl hK) ?_
    refine Keeps.ite ?_ ?_
    · exact h
    · refine Keeps.ite ?_ ?_
      · refine State.wrOnly_keeps (sub_of rfl hK) ?_
        exact h
      · refine State.wrOnly_keeps (sub_of rfl hK) ?_
        refine State.wrOnly_keeps (sub_of rfl hK) ?_
        exact h
  · refine Keeps.ite ?_ ?_
    · exact h
    · refine Keeps.ite ?_ ?_
      · refine State.wrOnly_keeps (sub_of rfl hK) ?_
        exact h
      · refine State.wrOnly_keeps (sub_of rfl hK) ?_
        refine State.wrOnly_keeps (sub_of rfl hK) ?_
        exact h

theorem State.ceWrite_keeps {K : Nat} {s0 s : State} {e a v} (hK : 8194 ||| K = K) (h : Keeps K s0 s) :
    Keeps K s0 (State.ceWrite s e a v) := by
  unfold State.ceWrite
  refine Keeps.ite ?_ ?_
  · refine State.engineWrite_keeps (sub_of rfl hK) ?_
    exact h
  · refine Keeps.ite ?_ ?_
    · refine Keeps.ite ?_ ?_
      · exact h
      · refine State.wrReg_keeps (sub_of rfl hK) ?_
        exact h
    · refine Keeps.ite ?_ ?_
      · refine Keeps.ite ?_ ?_
        · refine State.wrReg_keeps (sub_of rfl hK) ?_
          exact h
        · refine Keeps.ite ?_ ?_
          · exact h
          · refine Keeps.ite ?_ ?_
            · refine State.wrExcept_keeps (sub_of rfl hK) ?_
              exact h
            · refine State.wrReg_keeps (sub_of rfl hK) ?_
              exact h
      · refine Keeps.ite ?_ ?_
        · refine Keeps.ite ?_ ?_
          · exact h
          · refine State.wrReg_keeps (sub_of rfl hK) ?_
            exact h
        · refine Keeps.ite ?_ ?_
          · exact h
          · refine State.wrReg_keeps (sub_of rfl hK) ?_
            exact h

theorem State.clkWrite_keeps {K : Nat} {s0 s : State} {a v} (hK : 2 ||| K = K) (h : Keeps K s0 s) :
    Keeps K s0 (State.clkWrite s a v) := by
  unfold State.clkWrite
  refine Keeps.ite ?_ ?_
  · refine State.wrExcept_keeps (sub_of rfl hK) ?_
    exact h
  · refine Keeps.ite ?_ ?_
    · exact h
    · refine State.wrReg_keeps (sub_of rfl hK) ?_
      exact h

theorem State.pwrWrite_keeps {K : Nat} {s0 s : State} {core a v} (hK : 258 ||| K = K) (h : Keeps K s0 s) :
    Keeps K s0 (State.pwrWrite s core a v) := by
  unfold State.pwrWrite
  refine Keeps.ite ?_ ?_
  · exact h
  · refine Keeps.ite ?_ ?_
    · refine State.accessFault_keeps (sub_of rfl hK) ?_
      exact h
    · refine State.wrReg_keeps (sub_of rfl hK) ?_
      exact h

theorem State.adcErr_keeps {K : Nat} {s0 s : State} {u} (hK : 2 ||| K = K) (h : Keeps K s0 s) :
    Keeps K s0 (State.adcErr s u) := by
  unfold State.adcErr
  refine State.setf_keeps (sub_of rfl hK) ?_
  exact h

theorem State.adcWrite_keeps {K : Nat} {s0 s : State} {u a v} (hK : 2 ||| K = K) (h : Keeps K s0 s) :
    Keeps K s0 (State.adcWrite s u a v) := by
  unfold State.adcWrite
  refine Keeps.ite ?_ ?_
  · refine Keeps.ite ?_ ?_
    · refine State.setf_keeps (sub_of rfl hK) ?_
      exact h
    · exact h
  · refine Keeps.ite ?_ ?_
    · refine Keeps.ite ?_ ?_
      · exact h
      · refine Keeps.ite ?_ ?_
        · refine State.adcErr_keeps (sub_of rfl hK) ?_
          exact h
        · refine State.wrReg_keeps (sub_of rfl hK) ?_
          exact h
    · refine Keeps.ite ?_ ?_
      · refine Keeps.ite ?_ ?_
        · exact h
        · refine Keeps.ite ?_ ?_
          · refine State.adcErr_keeps (sub_of rfl hK) ?_
            exact h
          · refine State.wrReg_keeps (sub_of rfl hK) ?_
            exact h
      · refine Keeps.ite ?_ ?_
        · exact h
        · refine Keeps.ite ?_ ?_
          · refine Keeps.ite ?_ ?_
            · refine State.wrReg_keeps (sub_of rfl hK) ?_
              exact h
            · refine State.adcErr_keeps (sub_of rfl hK) ?_
              exact h
          · refine Keeps.ite ?_ ?_
            · refine Keeps.ite ?_ ?_
              · refine Keeps.ite ?_ ?_
                · exact h
                · refine Keeps.ite ?_ ?_
                  · refine State.adcErr_keeps (sub_of rfl hK) ?_
                    exact h
                  · refine State.wrReg_keeps (sub_of rfl hK) ?_
                    exact h
              · refine Keeps.ite ?_ ?_
                · exact h
                · refine Keeps.ite ?_ ?_
                  · refine State.adcErr_keeps (sub_of rfl hK) ?_
                    exact h
                  · refine State.wrReg_keeps (sub_of rfl hK) ?_
                    exact h
            · refine State.wrReg_keeps (sub_of rfl hK) ?_
              exact h

theorem State.watchdogWrite_keeps {K : Nat} {s0 s : State} {t n v} (hK : 274877906946 ||| K = K) (h : Keeps K s0 s) :
    Keeps K s0 (State.watchdogWrite s t n v) := by
  unfold State.watchdogWrite
  refine Keeps.ite ?_ ?_
  · exact h
  · refine Keeps.ite ?_ ?_
    · refine Keeps.set_harn (sub_of rfl hK) ?_ (fun i => by first | exact i | rfl | simpa using i | (split <;> simpa using i))
      refine State.wrReg_keeps (sub_of rfl hK) ?_
      exact h
    · refine State.wrReg_keeps (sub_of rfl hK) ?_
      exact h

theorem State.frontEnable_keeps {K : Nat} {s0 s : State} {d was} (hK : 2 ||| K = K) (h : Keeps K s0 s) :
    Keeps K s0 (State.frontEnable s d was) := by
  unfold State.frontEnable
  refine Keeps.ite ?_ ?_
  · refine State.setf_keeps (sub_of rfl hK) ?_
    refine State.setf_keeps (sub_of rfl hK) ?_
    exact h
  · refine Keeps.ite ?_ ?_
    · refine State.setf_keeps (sub_of rfl hK) ?_
      exact h
    · exact h

theorem State.linkLevel_keeps {K : Nat} {s0 s : State} {a v} (hK : 2 ||| K = K) (h : Keeps K s0 s) :
    Keeps K s0 (State.linkLevel s a v) := by
  unfold State.linkLevel
  refine Keeps.ite ?_ ?_
  · exact h
  · refine Keeps.ite ?_ ?_
    · refine State.wrReg_keeps (sub_of rfl hK) ?_
      exact h
    · refine State.gdcErr_keeps (sub_of rfl hK) ?_
      exact h

theorem State.prcWrite_keeps {K : Nat} {s0 s : State} {a v} (hK : 514 ||| K = K) (h : Keeps K s0 s) :
    Keeps K s0 (State.prcWrite s a v) := by
  unfold State.prcWrite
  refine Keeps.ite ?_ ?_
  · refine State.recordControl_keeps (sub_of rfl hK) ?_
    exact h
  · refine State.wrReg_keeps (sub_of rfl hK) ?_
    exact h

theorem State.safeWrite_keeps {K : Nat} {s0 s : State} {g v} (hK : 540674 ||| K = K) (h : Keeps K s0 s) :
    Keeps K s0 (State.safeWrite s g v) := by
  unfold State.safeWrite
  refine Keeps.ite ?_ ?_
  · refine State.speedPattern_keeps (sub_of rfl hK) ?_
    refine Keeps.ite ?_ ?_
    · refine State.path2Pattern_keeps (sub_of rfl hK) ?_
      refine Keeps.ite ?_ ?_
      · refine State.applyPattern_keeps (sub_of rfl hK) ?_
        refine Keeps.ite ?_ ?_
        · refine State.wrExcept_keeps (sub_of rfl hK) ?_
          exact h
        · refine State.wrReg_keeps (sub_of rfl hK) ?_
          exact h
      · refine Keeps.ite ?_ ?_
        · refine State.wrExcept_keeps (sub_of rfl hK) ?_
          exact h
        · refine State.wrReg_keeps (sub_of rfl hK) ?_
          exact h
    · refine Keeps.ite ?_ ?_
      · refine State.applyPattern_keeps (sub_of rfl hK) ?_
        refine Keeps.ite ?_ ?_
        · refine State.wrExcept_keeps (sub_of rfl hK) ?_
          exact h
        · refine State.wrReg_keeps (sub_of rfl hK) ?_
          exact h
      · refine Keeps.ite ?_ ?_
        · refine State.wrExcept_keeps (sub_of rfl hK) ?_
          exact h
        · refine State.wrReg_keeps (sub_of rfl hK) ?_
          exact h
  · refine Keeps.ite ?_ ?_
    · refine State.path2Pattern_keeps (sub_of rfl hK) ?_
      refine Keeps.ite ?_ ?_
      · refine State.applyPattern_keeps (sub_of rfl hK) ?_
        refine Keeps.ite ?_ ?_
        · refine State.wrExcept_keeps (sub_of rfl hK) ?_
          exact h
        · refine State.wrReg_keeps (sub_of rfl hK) ?_
          exact h
      · refine Keeps.ite ?_ ?_
        · refine State.wrExcept_keeps (sub_of rfl hK) ?_
          exact h
        · refine State.wrReg_keeps (sub_of rfl hK) ?_
          exact h
    · refine Keeps.ite ?_ ?_
      · refine State.applyPattern_keeps (sub_of rfl hK) ?_
        refine Keeps.ite ?_ ?_
        · refine State.wrExcept_keeps (sub_of rfl hK) ?_
          exact h
        · refine State.wrReg_keeps (sub_of rfl hK) ?_
          exact h
      · refine Keeps.ite ?_ ?_
        · refine State.wrExcept_keeps (sub_of rfl hK) ?_
          exact h
        · refine State.wrReg_keeps (sub_of rfl hK) ?_
          exact h

theorem State.mgRxWrite_keeps {K : Nat} {s0 s : State} {a v} (hK : 2 ||| K = K) (h : Keeps K s0 s) :
    Keeps K s0 (State.mgRxWrite s a v) := by
  unfold State.mgRxWrite
  refine Keeps.ite ?_ ?_
  · exact h
  · refine Keeps.ite ?_ ?_
    · refine State.setf_keeps (sub_of rfl hK) ?_
      exact h
    · refine State.wrReg_keeps (sub_of rfl hK) ?_
      exact h

theorem State.mgBlockWrite_keeps {K : Nat} {s0 s : State} {a v} (hK : 1048578 ||| K = K) (h : Keeps K s0 s) :
    Keeps K s0 (State.mgBlockWrite s a v) := by
  unfold State.mgBlockWrite
  refine Keeps.ite ?_ ?_
  · exact h
  · refine Keeps.ite ?_ ?_
    · refine Keeps.ite ?_ ?_
      · refine State.wrExcept_keeps (sub_of rfl hK) ?_
        refine State.modMg_keeps (sub_of rfl hK) ?_ (by intro c hc; first | exact hc | simpa using hc | (split <;> simpa using hc))
        exact h
      · refine State.wrExcept_keeps (sub_of rfl hK) ?_
        refine State.modMg_keeps (sub_of rfl hK) ?_ (by intro c hc; first | exact hc | simpa using hc | (split <;> simpa using hc))
        exact h
    · refine Keeps.ite ?_ ?_
      · refine State.wrExcept_keeps (sub_of rfl hK) ?_
        refine State.modMg_keeps (sub_of rfl hK) ?_ (by intro c hc; first | exact hc | simpa using hc | (split <;> simpa using hc))
        exact h
      · refine Keeps.ite ?_ ?_
        · refine State.mgRxWrite_keeps (sub_of rfl hK) ?_
          refine State.modMg_keeps (sub_of rfl hK) ?_ (by intro c hc; first | exact hc | simpa using hc | (split <;> simpa using hc))
          exact h
        · refine State.outputs_keeps (sub_of rfl hK) ?_
          refine State.wrReg_keeps (sub_of rfl hK) ?_
          refine State.modMg_keeps (sub_of rfl hK) ?_ (by intro c hc; first | exact hc | simpa using hc | (split <;> simpa using hc))
          exact h

theorem State.actWrite_keeps {K : Nat} {s0 s : State} {a v} (hK : 2 ||| K = K) (h : Keeps K s0 s) :
    Keeps K s0 (State.actWrite s a v) := by
  unfold State.actWrite
  refine Keeps.ite ?_ ?_
  · exact h
  · refine Keeps.ite ?_ ?_
    · refine Keeps.ite ?_ ?_
      · exact h
      · refine State.setf_keeps (sub_of rfl hK) ?_
        exact h
    · refine State.wrReg_keeps (sub_of rfl hK) ?_
      exact h

theorem State.redeliver_keeps {K : Nat} {s0 s : State} {t} (hK : 2203318887174 ||| K = K) (h : Keeps K s0 s) :
    Keeps K s0 (State.redeliver s t) := by
  unfold State.redeliver
  refine State.each_keeps ?_ ?_
  · exact h
  · intro s1 _ h2
    refine State.irqDeliver_keeps (sub_of rfl hK) ?_
    exact h2

theorem State.harnWrite_keeps {K : Nat} {s0 s : State} {core t a v} (hK : 2478196794118 ||| K = K) (h : Keeps K s0 s) :
    Keeps K s0 (State.harnWrite s core t a v) := by
  unfold State.harnWrite
  refine Keeps.ite ?_ ?_
  · refine Keeps.ite ?_ ?_
    · refine State.wrExcept_keeps (sub_of rfl hK) ?_
      exact h
    · refine State.wrOnly_keeps (sub_of rfl hK) ?_
      exact h
  · refine Keeps.ite ?_ ?_
    · exact h
    · refine Keeps.ite ?_ ?_
      · exact h
      · refine Keeps.ite ?_ ?_
        · refine State.watchdogWrite_keeps (sub_of rfl hK) ?_
          exact h
        · refine Keeps.ite ?_ ?_
          · exact h
          · refine Keeps.ite ?_ ?_
            · refine State.accessFault_keeps (sub_of rfl hK) ?_
              exact h
            · refine Keeps.ite ?_ ?_
              · refine State.redeliver_keeps (sub_of rfl hK) ?_
                refine State.wrReg_keeps (sub_of rfl hK) ?_
                exact h
              · refine State.wrReg_keeps (sub_of rfl hK) ?_
                exact h

theorem State.tripMaskWrite_keeps {K : Nat} {s0 s : State} {g v} (hK : 2203319165702 ||| K = K) (h : Keeps K s0 s) :
    Keeps K s0 (State.tripMaskWrite s g v) := by
  unfold State.tripMaskWrite
  refine Keeps.ite ?_ ?_
  · refine State.genTripAt_keeps (sub_of rfl hK) ?_
    refine State.wrReg_keeps (sub_of rfl hK) ?_
    exact h
  · refine State.refreshTstate_keeps (sub_of rfl hK) ?_
    refine State.wrReg_keeps (sub_of rfl hK) ?_
    exact h

theorem State.genWrite_keeps {K : Nat} {s0 s : State} {g a v} (hK : 2203319165702 ||| K = K) (h : Keeps K s0 s) :
    Keeps K s0 (State.genWrite s g a v) := by
  unfold State.genWrite
  refine Keeps.ite ?_ ?_
  · refine Keeps.ite ?_ ?_
    · exact h
    · refine State.ctrlFields_keeps (sub_of rfl hK) ?_
      exact h
  · refine Keeps.ite ?_ ?_
    · refine State.wrExcept_keeps (sub_of rfl hK) ?_
      exact h
    · refine Keeps.ite ?_ ?_
      · exact h
      · refine Keeps.ite ?_ ?_
        · refine Keeps.ite ?_ ?_
          · exact h
          · refine State.pwmErr_keeps (sub_of rfl hK) ?_
            exact h
        · refine Keeps.ite ?_ ?_
          · refine Keeps.ite ?_ ?_
            · exact h
            · refine State.wrReg_keeps (sub_of rfl hK) ?_
              exact h
          · refine Keeps.ite ?_ ?_
            · refine State.tripMaskWrite_keeps (sub_of rfl hK) ?_
              exact h
            · refine Keeps.ite ?_ ?_
              · refine State.safeWrite_keeps (sub_of rfl hK) ?_
                exact h
              · refine State.wrReg_keeps (sub_of rfl hK) ?_
                exact h

theorem State.timerWrite_keeps {K : Nat} {s0 s : State} {n a v} (hK : 4098 ||| K = K) (h : Keeps K s0 s) :
    Keeps K s0 (State.timerWrite s n a v) := by
  unfold State.timerWrite
  refine Keeps.ite ?_ ?_
  · refine Keeps.ite ?_ ?_
    · exact h
    · refine State.ttStart_keeps (sub_of rfl hK) ?_
      refine State.wrReg_keeps (sub_of rfl hK) ?_
      exact h
  · refine Keeps.ite ?_ ?_
    · refine State.ttStart_keeps (sub_of rfl hK) ?_
      refine State.wrReg_keeps (sub_of rfl hK) ?_
      exact h
    · refine Keeps.set_tt (sub_of rfl hK) ?_ (fun i => by first | exact i | rfl | simpa using i | (split <;> simpa using i))
      refine State.wrReg_keeps (sub_of rfl hK) ?_
      exact h

theorem State.lvcWrite_keeps {K : Nat} {s0 s : State} {a v} (hK : 2 ||| K = K) (h : Keeps K s0 s) :
    Keeps K s0 (State.lvcWrite s a v) := by
  unfold State.lvcWrite
  refine Keeps.ite ?_ ?_
  · refine State.wrOnly_keeps (sub_of rfl hK) ?_
    exact h
  · refine State.wrReg_keeps (sub_of rfl hK) ?_
    exact h

theorem State.trpWrite_keeps {K : Nat} {s0 s : State} {a v} (hK : 102402 ||| K = K) (h : Keeps K s0 s) :
    Keeps K s0 (State.trpWrite s a v) := by
  unfold State.trpWrite
  refine Keeps.ite ?_ ?_
  · exact h
  · refine Keeps.ite ?_ ?_
    · refine State.forN_keeps ?_ ?_
      · refine State.wrReg_keeps (sub_of rfl hK) ?_
        exact h
      · intro s1 _ h2
        refine State.tripInCount_keeps (sub_of rfl hK) ?_
        exact h2
    · refine Keeps.ite ?_ ?_
      · refine State.forN_keeps ?_ ?_
        · refine State.forN_keeps ?_ ?_
          · refine State.wrReg_keeps (sub_of rfl hK) ?_
            exact h
          · intro s3 _ h4
            refine State.tripInCount_keeps (sub_of rfl hK) ?_
            exact h4
        · intro s5 _ h6
          refine State.modTripIn_keeps (sub_of rfl hK) ?_
          exact h6
      · refine Keeps.ite ?_ ?_
        · refine Keeps.ite ?_ ?_
          · refine State.wrReg_keeps (sub_of rfl hK) ?_
            exact h
          · refine Keeps.set_yarrow (sub_of rfl hK) ?_
            refine State.wrReg_keeps (sub_of rfl hK) ?_
            exact h
        · refine Keeps.ite ?_ ?_
          · refine State.timerWrite_keeps (sub_of rfl hK) ?_
            exact h
          · refine Keeps.ite ?_ ?_
            · refine State.lvcWrite_keeps (sub_of rfl hK) ?_
              exact h
            · refine Keeps.ite ?_ ?_
              · refine State.actWrite_keeps (sub_of rfl hK) ?_
                exact h
              · refine State.wrReg_keeps (sub_of rfl hK) ?_
                exact h

theorem State.inletWrite_keeps {K : Nat} {s0 s : State} {v} (hK : 67108866 ||| K = K) (h : Keeps K s0 s) :
    Keeps K s0 (State.inletWrite s v) := by
  unfold State.inletWrite
  refine Keeps.ite ?_ ?_
  · exact h
  · refine Keeps.ite ?_ ?_
    · refine State.s2Open_keeps (sub_of rfl hK) ?_
      refine State.wrExcept_keeps (sub_of rfl hK) ?_
      exact h
    · refine Keeps.ite ?_ ?_
      · refine State.setf_keeps (sub_of rfl hK) ?_
        refine State.setf_keeps (sub_of rfl hK) ?_
        refine State.wrExcept_keeps (sub_of rfl hK) ?_
        exact h
      · refine State.setf_keeps (sub_of rfl hK) ?_
        refine State.wrExcept_keeps (sub_of rfl hK) ?_
        exact h

theorem State.frontWrite_keeps {K : Nat} {s0 s : State} {d own other v} (hK : 2 ||| K = K) (h : Keeps K s0 s) :
    Keeps K s0 (State.frontWrite s d own other v) := by
  unfold State.frontWrite
  refine Keeps.ite ?_ ?_
  · refine State.setf_keeps (sub_of rfl hK) ?_
    exact h
  · refine Keeps.ite ?_ ?_
    · refine State.setf_keeps (sub_of rfl hK) ?_
      exact h
    · refine State.wrReg_keeps (sub_of rfl hK) ?_
      exact h

theorem State.feWrite_keeps {K : Nat} {s0 s : State} {a v} (hK : 67108866 ||| K = K) (h : Keeps K s0 s) :
    Keeps K s0 (State.feWrite s a v) := by
  unfold State.feWrite
  refine Keeps.ite ?_ ?_
  · refine State.inletWrite_keeps (sub_of rfl hK) ?_
    exact h
  · refine Keeps.ite ?_ ?_
    · refine State.frontEnable_keeps (sub_of rfl hK) ?_
      refine State.frontWrite_keeps (sub_of rfl hK) ?_
      exact h
    · refine Keeps.ite ?_ ?_
      · refine State.frontWrite_keeps (sub_of rfl hK) ?_
        exact h
      · refine State.wrReg_keeps (sub_of rfl hK) ?_
        exact h

theorem State.gchWrite_keeps {K : Nat} {s0 s : State} {n a v} (hK : 2 ||| K = K) (h : Keeps K s0 s) :
    Keeps K s0 (State.gchWrite s n a v) := by
  unfold State.gchWrite
  refine Keeps.ite ?_ ?_
  · refine Keeps.ite ?_ ?_
    · exact h
    · refine Keeps.ite ?_ ?_
      · refine State.gdcErr_keeps (sub_of rfl hK) ?_
        exact h
      · refine State.wrReg_keeps (sub_of rfl hK) ?_
        exact h
  · refine Keeps.ite ?_ ?_
    · exact h
    · refine State.wrReg_keeps (sub_of rfl hK) ?_
      exact h

theorem State.gdcWrite_keeps {K : Nat} {s0 s : State} {a v} (hK : 524290 ||| K = K) (h : Keeps K s0 s) :
    Keeps K s0 (State.gdcWrite s a v) := by
  unfold State.gdcWrite
  refine Keeps.ite ?_ ?_
  · refine State.forN_keeps ?_ ?_
    · refine State.wrReg_keeps (sub_of rfl hK) ?_
      exact h
    · intro s1 _ h2
      refine Keeps.ite ?_ ?_
      · refine State.lockLeg_keeps (sub_of rfl hK) ?_
        exact h2
      · exact h2
  · refine Keeps.ite ?_ ?_
    · refine State.wrExcept_keeps (sub_of rfl hK) ?_
      exact h
    · refine Keeps.ite ?_ ?_
      · refine Keeps.ite ?_ ?_
        · refine State.wrMasked_keeps (sub_of rfl hK) ?_
          exact h
        · refine State.wrExcept_keeps (sub_of rfl hK) ?_
          exact h
      · refine Keeps.ite ?_ ?_
        · refine State.linkLevel_keeps (sub_of rfl hK) ?_
          exact h
        · refine Keeps.ite ?_ ?_
          · refine State.hvRefresh_keeps (sub_of rfl hK) ?_
            refine State.wrReg_keeps (sub_of rfl hK) ?_
            exact h
          · refine Keeps.ite ?_ ?_
            · refine Keeps.ite ?_ ?_
              · refine State.wrReg_keeps (sub_of rfl hK) ?_
                exact h
              · exact h
            · refine Keeps.ite ?_ ?_
              · refine State.gchWrite_keeps (sub_of rfl hK) ?_
                exact h
              · refine State.wrReg_keeps (sub_of rfl hK) ?_
                exact h

theorem State.portClosed_keeps {K : Nat} {s0 s : State} {p} (hK : 2203323343622 ||| K = K) (h : Keeps K s0 s) :
    Keeps K s0 (State.portClosed s p) := by
  unfold State.portClosed
  refine State.forN_keeps ?_ ?_
  · exact h
  · intro s1 _ h2
    refine Keeps.ite ?_ ?_
    · refine State.closeSession_keeps (sub_of rfl hK) ?_
      exact h2
    · exact h2

theorem State.busCtrlWrite_keeps {K : Nat} {s0 s : State} {p v} (hK : 2203323343622 ||| K = K) (h : Keeps K s0 s) :
    Keeps K s0 (State.busCtrlWrite s p v) := by
  unfold State.busCtrlWrite
  refine Keeps.ite ?_ ?_
  · refine Keeps.ite ?_ ?_
    · refine State.portClosed_keeps (sub_of rfl hK) ?_
      refine State.setf_keeps (sub_of rfl hK) ?_
      refine State.wrExcept_keeps (sub_of rfl hK) ?_
      exact h
    · refine State.wrExcept_keeps (sub_of rfl hK) ?_
      exact h
  · refine Keeps.ite ?_ ?_
    · exact h
    · refine State.wrExcept_keeps (sub_of rfl hK) ?_
      exact h

theorem State.supervisorWrite_keeps {K : Nat} {s0 s : State} {p i_ v} (hK : 3145730 ||| K = K) (h : Keeps K s0 s) :
    Keeps K s0 (State.supervisorWrite s p i_ v) := by
  unfold State.supervisorWrite
  refine Keeps.ite ?_ ?_
  · refine State.sourceOff_keeps (sub_of rfl hK) ?_
    refine State.modBus_keeps (sub_of rfl hK) ?_
    refine State.wrReg_keeps (sub_of rfl hK) ?_
    exact h
  · refine State.modBus_keeps (sub_of rfl hK) ?_
    refine State.wrReg_keeps (sub_of rfl hK) ?_
    exact h

theorem State.portWrite_keeps {K : Nat} {s0 s : State} {p a v} (hK : 2203326489350 ||| K = K) (h : Keeps K s0 s) :
    Keeps K s0 (State.portWrite s p a v) := by
  unfold State.portWrite
  refine Keeps.ite ?_ ?_
  · refine State.busCtrlWrite_keeps (sub_of rfl hK) ?_
    exact h
  · refine Keeps.ite ?_ ?_
    · refine Keeps.ite ?_ ?_
      · exact h
      · refine State.wrReg_keeps (sub_of rfl hK) ?_
        exact h
    · refine Keeps.ite ?_ ?_
      · refine State.supervisorWrite_keeps (sub_of rfl hK) ?_
        exact h
      · refine Keeps.ite ?_ ?_
        · refine Keeps.ite ?_ ?_
          · refine State.rxCfgWrite_keeps (sub_of rfl hK) ?_
            exact h
          · refine Keeps.ite ?_ ?_
            · exact h
            · refine State.wrReg_keeps (sub_of rfl hK) ?_
              exact h
        · refine Keeps.ite ?_ ?_
          · refine State.wrExcept_keeps (sub_of rfl hK) ?_
            exact h
          · refine Keeps.ite ?_ ?_
            · refine Keeps.ite ?_ ?_
              · refine State.txCfgWrite_keeps (sub_of rfl hK) ?_
                exact h
              · refine Keeps.ite ?_ ?_
                · exact h
                · refine Keeps.ite ?_ ?_
                  · refine State.txTiming_keeps (sub_of rfl hK) ?_
                    exact h
                  · refine Keeps.ite ?_ ?_
                    · refine State.wrExcept_keeps (sub_of rfl hK) ?_
                      exact h
                    · refine State.wrReg_keeps (sub_of rfl hK) ?_
                      exact h
            · refine Keeps.ite ?_ ?_
              · refine Keeps.ite ?_ ?_
                · exact h
                · refine State.wrReg_keeps (sub_of rfl hK) ?_
                  exact h
              · refine State.wrReg_keeps (sub_of rfl hK) ?_
                exact h

theorem State.secWrite_keeps {K : Nat} {s0 s : State} {a v} (hK : 2 ||| K = K) (h : Keeps K s0 s) :
    Keeps K s0 (State.secWrite s a v) := by
  unfold State.secWrite
  refine Keeps.ite ?_ ?_
  · exact h
  · refine Keeps.ite ?_ ?_
    · refine State.wr_keeps (sub_of rfl hK) ?_
      exact h
    · refine Keeps.ite ?_ ?_
      · refine Keeps.ite ?_ ?_
        · exact h
        · refine State.setf_keeps (sub_of rfl hK) ?_
          exact h
      · refine State.wrReg_keeps (sub_of rfl hK) ?_
        exact h

theorem State.kprWrite_keeps {K : Nat} {s0 s : State} {a v} (hK : 2 ||| K = K) (h : Keeps K s0 s) :
    Keeps K s0 (State.kprWrite s a v) := by
  unfold State.kprWrite
  refine Keeps.ite ?_ ?_
  · refine State.wrExcept_keeps (sub_of rfl hK) ?_
    exact h
  · refine Keeps.ite ?_ ?_
    · refine State.wrExcept_keeps (sub_of rfl hK) ?_
      exact h
    · refine State.wrReg_keeps (sub_of rfl hK) ?_
      exact h

theorem State.blockWrite_keeps {K : Nat} {s0 s : State} {core a v} (hK : 3028027437830 ||| K = K) (h : Keeps K s0 s) :
    Keeps K s0 (State.blockWrite s core a v) := by
  unfold State.blockWrite
  refine Keeps.ite ?_ ?_
  · refine State.clkWrite_keeps (sub_of rfl hK) ?_
    exact h
  · refine Keeps.ite ?_ ?_
    · refine State.pwrWrite_keeps (sub_of rfl hK) ?_
      exact h
    · refine Keeps.ite ?_ ?_
      · refine Keeps.ite ?_ ?_
        · exact h
        · refine State.wrReg_keeps (sub_of rfl hK) ?_
          exact h
      · refine Keeps.ite ?_ ?_
        · refine State.harnWrite_keeps (sub_of rfl hK) ?_
          exact h
        · refine Keeps.ite ?_ ?_
          · refine State.mgBlockWrite_keeps (sub_of rfl hK) ?_
            exact h
          · refine Keeps.ite ?_ ?_
            · refine Keeps.ite ?_ ?_
              · refine State.genWrite_keeps (sub_of rfl hK) ?_
                exact h
              · exact h
            · refine Keeps.ite ?_ ?_
              · refine State.trpWrite_keeps (sub_of rfl hK) ?_
                exact h
              · refine Keeps.ite ?_ ?_
                · refine State.adcWrite_keeps (sub_of rfl hK) ?_
                  exact h
                · refine Keeps.ite ?_ ?_
                  · refine State.feWrite_keeps (sub_of rfl hK) ?_
                    exact h
                  · refine Keeps.ite ?_ ?_
                    · refine State.ceWrite_keeps (sub_of rfl hK) ?_
                      exact h
                    · refine Keeps.ite ?_ ?_
                      · refine State.gdcWrite_keeps (sub_of rfl hK) ?_
                        exact h
                      · refine Keeps.ite ?_ ?_
                        · refine State.portWrite_keeps (sub_of rfl hK) ?_
                          exact h
                        · refine Keeps.ite ?_ ?_
                          · refine State.thWrite_keeps (sub_of rfl hK) ?_
                            exact h
                          · refine Keeps.ite ?_ ?_
                            · refine State.prcWrite_keeps (sub_of rfl hK) ?_
                              exact h
                            · refine Keeps.ite ?_ ?_
                              · refine State.secWrite_keeps (sub_of rfl hK) ?_
                                exact h
                              · refine Keeps.ite ?_ ?_
                                · refine State.kprWrite_keeps (sub_of rfl hK) ?_
                                  exact h
                                · exact h

end Sys2Proof.Machine
end

