-- ==== Sys2Proof/Laws/KeepsBuses.lean ====
section
/-! SUPPORT. What each operation and each command of Machine/FirmwareOps.lean, Machine/Bridle.lean, Machine/Buses.lean keeps. -/

set_option linter.unusedVariables false
set_option linter.unusedTactic false
set_option linter.unreachableTactic false

namespace Sys2Proof.Machine

/-! ## FirmwareOps -/

theorem State.endSlot_keeps {K : Nat} {s0 s : State} {i_ x status time result} (hK : 2203325440774 ||| K = K) (h : Keeps K s0 s) :
    Keeps K s0 (State.endSlot s i_ x status time result) := by
  unfold State.endSlot
  refine State.firstReply_keeps (sub_of rfl hK) ?_
  refine State.freeSlot_keeps (sub_of rfl hK) ?_
  exact h

theorem State.brdErr_keeps {K : Nat} {s0 s : State} (hK : 2 ||| K = K) (h : Keeps K s0 s) :
    Keeps K s0 (State.brdErr s) := by
  unfold State.brdErr
  refine State.setf_keeps (sub_of rfl hK) ?_
  exact h

theorem State.fwAnswer_keeps {K : Nat} {s0 s : State} {i_ x status target lat} (hK : 2203325440774 ||| K = K) (h : Keeps K s0 s) :
    Keeps K s0 (State.fwAnswer s i_ x status target lat) := by
  unfold State.fwAnswer
  refine Keeps.ite ?_ ?_
  · refine Keeps.ite ?_ ?_
    · refine State.endSlot_keeps (sub_of rfl hK) ?_
      exact h
    · refine State.takeIn_keeps (sub_of rfl hK) ?_
      refine State.modSlot_keeps (sub_of rfl hK) ?_
      exact h
  · refine Keeps.ite ?_ ?_
    · refine State.endSlot_keeps (sub_of rfl hK) ?_
      exact h
    · refine Keeps.ite ?_ ?_
      · refine State.endSlot_keeps (sub_of rfl hK) ?_
        exact h
      · refine State.brdErr_keeps (sub_of rfl hK) ?_
        exact h

theorem State.fwTake_keeps {K : Nat} {s0 s : State} {i_} (hK : 4194306 ||| K = K) (h : Keeps K s0 s) :
    Keeps K s0 (State.fwTake s i_) := by
  unfold State.fwTake
  refine State.bridleMirror_keeps (sub_of rfl hK) ?_
  refine State.modBridle_keeps (sub_of rfl hK) ?_ (by intro c hc; first | exact hc | simpa using hc | (split <;> simpa using hc))
  refine State.each_keeps ?_ ?_
  · exact h
  · intro s1 _ h2
    refine State.modSlot_keeps (sub_of rfl hK) ?_
    exact h2

theorem State.commitWrite_keeps {K : Nat} {s0 s : State} {w} (hK : 2204400247558 ||| K = K) (h : Keeps K s0 s) :
    Keeps K s0 (State.commitWrite s w) := by
  unfold State.commitWrite
  refine Keeps.ite ?_ ?_
  · refine State.watchWrite_keeps (sub_of rfl hK) ?_
    refine State.putNow_keeps (sub_of rfl hK) ?_
    exact h
  · exact h

theorem State.fwTimeout_keeps {K : Nat} {s0 s : State} {i_ x} (hK : 2203325440774 ||| K = K) (h : Keeps K s0 s) :
    Keeps K s0 (State.fwTimeout s i_ x) := by
  unfold State.fwTimeout
  refine State.inc_keeps (sub_of rfl hK) ?_
  refine State.endSlot_keeps (sub_of rfl hK) ?_
  exact h

theorem State.putResult_keeps {K : Nat} {s0 s : State} {i_ l} (hK : 4194306 ||| K = K) (h : Keeps K s0 s) :
    Keeps K s0 (State.putResult s i_ l) := by
  unfold State.putResult
  refine State.modSlot_keeps (sub_of rfl hK) ?_
  refine State.forN_keeps ?_ ?_
  · exact h
  · intro s1 _ h2
    refine State.wr_keeps (sub_of rfl hK) ?_
    exact h2

theorem State.commitReenable_keeps {K : Nat} {s0 s : State} {ws} (hK : 549755813888 ||| K = K) (h : Keeps K s0 s) :
    Keeps K s0 (State.commitReenable s ws) := by
  unfold State.commitReenable
  split
  · refine Keeps.set_thermal (sub_of rfl hK) ?_ (fun i => by first | exact i | rfl | simpa using i | (split <;> simpa using i))
    exact h
  · exact h

theorem State.commitEffect_keeps {K : Nat} {s0 s : State} {x} (hK : 7426082337542 ||| K = K) (h : Keeps K s0 s) :
    Keeps K s0 (State.commitEffect s x) := by
  unfold State.commitEffect
  split
  · refine State.commitMode_keeps (sub_of rfl hK) ?_
    exact h
  · refine State.each_keeps ?_ ?_
    · exact h
    · intro s1 _ h2
      refine State.blockWrite_keeps (sub_of rfl hK) ?_
      exact h2
  · refine State.programRecord_keeps (sub_of rfl hK) ?_
    exact h
  · refine Keeps.ite ?_ ?_
    · refine State.modSecure_keeps (sub_of rfl hK) ?_
      exact h
    · refine Keeps.ite ?_ ?_
      · refine State.setf_keeps (sub_of rfl hK) ?_
        exact h
      · exact h
  · refine State.recordControl_keeps (sub_of rfl hK) ?_
    refine State.each_keeps ?_ ?_
    · refine State.recordControl_keeps (sub_of rfl hK) ?_
      exact h
    · intro s3 _ h4
      refine State.wr_keeps (sub_of rfl hK) ?_
      exact h4
  · exact h

theorem State.commitSlot_keeps {K : Nat} {s0 s : State} {b i_ x} (hK : 7427156079366 ||| K = K) (h : Keeps K s0 s) :
    Keeps K s0 (State.commitSlot s b i_ x) := by
  unfold State.commitSlot
  refine Keeps.ite ?_ ?_
  · refine State.inc_keeps (sub_of rfl hK) ?_
    refine State.secondReply_keeps (sub_of rfl hK) ?_
    refine State.freeSlot_keeps (sub_of rfl hK) ?_
    exact h
  · refine Keeps.ite ?_ ?_
    · refine State.secondReply_keeps (sub_of rfl hK) ?_
      refine State.commitEffect_keeps (sub_of rfl hK) ?_
      refine State.each_keeps ?_ ?_
      · refine State.freeSlot_keeps (sub_of rfl hK) ?_
        exact h
      · intro s1 _ h2
        refine State.commitWrite_keeps (sub_of rfl hK) ?_
        exact h2
    · refine State.commitEffect_keeps (sub_of rfl hK) ?_
      refine State.each_keeps ?_ ?_
      · refine State.freeSlot_keeps (sub_of rfl hK) ?_
        exact h
      · intro s3 _ h4
        refine State.commitWrite_keeps (sub_of rfl hK) ?_
        exact h4

theorem State.commitAt_keeps {K : Nat} {s0 s : State} {b} (hK : 17592186044398 ||| K = K) (h : Keeps K s0 s) :
    Keeps K s0 (State.commitAt s b) := by
  unfold State.commitAt
  refine Keeps.ite ?_ ?_
  · refine State.softwareReset_keeps (sub_of rfl hK) ?_
    refine State.irq_keeps (sub_of rfl hK) ?_
    refine State.commitReenable_keeps (sub_of rfl hK) ?_
    refine State.lvCommit_keeps (sub_of rfl hK) ?_
    refine State.drvCommit_keeps (sub_of rfl hK) ?_
    refine State.each_keeps ?_ ?_
    · exact h
    · intro s1 _ h2
      refine State.commitSlot_keeps (sub_of rfl hK) ?_
      exact h2
  · refine State.irq_keeps (sub_of rfl hK) ?_
    refine State.commitReenable_keeps (sub_of rfl hK) ?_
    refine State.lvCommit_keeps (sub_of rfl hK) ?_
    refine State.drvCommit_keeps (sub_of rfl hK) ?_
    refine State.each_keeps ?_ ?_
    · exact h
    · intro s3 _ h4
      refine State.commitSlot_keeps (sub_of rfl hK) ?_
      exact h4

theorem State.attestReport_keeps {K : Nat} {s0 s : State} {n nonce} (hK : 4194432 ||| K = K) (h : Keeps K s0 s) :
    Keeps K s0 (State.attestReport s n nonce).1 := by
  unfold State.attestReport
  split
  · exact h
  · have h1 : Keeps K s0 (s.drawBytes 48).2 := State.drawBytes_keeps (sub_of rfl hK) h
    generalize s.drawBytes 48 = p at h1 ⊢
    obtain ⟨rnd, s1⟩ := p
    dsimp only
    refine State.modBridle_keeps (sub_of rfl hK) ?_ ?_
    · exact h1
    · exact fun _ hc => hc

theorem State.fwAttest_keeps {K : Nat} {s0 s : State} {k} (hK : 4194432 ||| K = K) (h : Keeps K s0 s) :
    Keeps K s0 (State.fwAttest s k).1 := by
  unfold State.fwAttest
  dsimp only
  generalize (if s.replyXl k.port then 480 else 32) = size
  split
  · exact h
  · split
    · exact h
    · exact State.attestReport_keeps (sub_of rfl hK) h

theorem State.readClear_keeps {K : Nat} {s0 s : State} {a v t} (hK : 2 ||| K = K) (h : Keeps K s0 s)
    (ht : s.readClear a = some (v, t)) : Keeps K s0 t := by
  unfold State.readClear at ht
  split at ht
  · split at ht
    · cases ht
    · cases ht
      exact State.wr_keeps (sub_of rfl hK) h
  · cases ht

theorem State.fwCounterRead_keeps {K : Nat} {s0 s : State} {k} (hK : 2 ||| K = K) (h : Keeps K s0 s) :
    Keeps K s0 (State.fwCounterRead s k).1 := by
  unfold State.fwCounterRead
  dsimp only
  split
  · exact h
  · split
    · exact h
    · rename_i v t ht
      split
      · exact State.readClear_keeps (sub_of rfl hK) h ht
      · exact h

theorem State.fwChecks_keeps {K : Nat} {s0 s : State} {row k cfg offs} (hK : 5767298 ||| K = K) (h : Keeps K s0 s) :
    Keeps K s0 (State.fwChecks s row k cfg offs).1 := by
  unfold State.fwChecks
  try dsimp only
  split
  · exact h
  · split
    · exact h
    · split
      · exact h
      · exact h
      · split
        · exact h
        · refine State.mgClear_keeps (sub_of rfl hK) ?_
          exact h
      · exact h
      · exact h
      · exact h
      · exact h
      · refine State.fwAttest_keeps (sub_of rfl hK) ?_
        exact h
      · exact h
      · refine State.fwCounterRead_keeps (sub_of rfl hK) ?_
        exact h
      · split
        · exact h
        · refine State.probeRequest_keeps (sub_of rfl hK) ?_
          refine State.setf_keeps (sub_of rfl hK) ?_
          exact h
      · exact h
      · exact h
      · exact h

theorem State.fwServe_keeps {K : Nat} {s0 s : State} {i cfg offs t lat} (hK : 6601373000583 ||| K = K) (h : Keeps K s0 s) :
    Keeps K s0 (State.fwServe s i cfg offs t lat) := by
  unfold State.fwServe
  split
  · rename_i x row _ _
    refine Keeps.ite h (Keeps.ite (State.fwTimeout_keeps (sub_of rfl hK) (State.reach_keeps (sub_of rfl hK) h)) ?_)
    have h1 : Keeps K s0 (((s.reach (x.entered + t)).fwTake i).fwChecks row x.request cfg offs).1 :=
      State.fwChecks_keeps (sub_of rfl hK) (State.fwTake_keeps (sub_of rfl hK) (State.reach_keeps (sub_of rfl hK) h))
    generalize ((s.reach (x.entered + t)).fwTake i).fwChecks row x.request cfg offs = p at h1 ⊢
    obtain ⟨s1, a⟩ := p
    dsimp only at h1 ⊢
    have h2 : Keeps K s0 ((s1.modSlot i (fun y => { y with writes := a.ask.writes, cfg := a.cfg, params := a.params.getD y.params })).putResult i a.ask.result) :=
      State.putResult_keeps (sub_of rfl hK) (State.modSlot_keeps (sub_of rfl hK) h1)
    generalize (s1.modSlot i (fun y => { y with writes := a.ask.writes, cfg := a.cfg, params := a.params.getD y.params })).putResult i a.ask.result = s2 at h2 ⊢
    split
    · exact h2
    · split
      · exact Keeps.ite (State.program_keeps (sub_of rfl hK) (State.fwAnswer_keeps (sub_of rfl hK) h2)) (State.fwAnswer_keeps (sub_of rfl hK) h2)
      · exact State.fwAnswer_keeps (sub_of rfl hK) h2
  · exact h

theorem State.fwRequest_keeps {K : Nat} {s0 s : State} {p xl n seq opcode conf params mac ans cfg offs} (hK : 6601381389191 ||| K = K) (h : Keeps K s0 s) :
    Keeps K s0 (State.fwRequest s p xl n seq opcode conf params mac ans cfg offs) := by
  unfold State.fwRequest
  try dsimp only
  try dsimp only
  split
  · refine Keeps.ite ?_ ?_
    · refine State.fwServe_keeps (sub_of rfl hK) ?_
      refine State.request_keeps (sub_of rfl hK) ?_
      exact h
    · refine State.request_keeps (sub_of rfl hK) ?_
      exact h
  · refine State.request_keeps (sub_of rfl hK) ?_
    exact h

/-! ## Bridle -/

theorem State.fwqRead_keeps {K : Nat} {s0 s : State} {core safety} (hK : 4194562 ||| K = K) (h : Keeps K s0 s) :
    Keeps K s0 (State.fwqRead s core safety) := by
  unfold State.fwqRead
  refine Keeps.ite ?_ ?_
  · refine State.accessFault_keeps (sub_of rfl hK) ?_
    exact h
  · split
    · refine State.returns_keeps (sub_of rfl hK) ?_
      exact h
    · refine State.returns_keeps (sub_of rfl hK) ?_
      refine State.fwTake_keeps (sub_of rfl hK) ?_
      exact h

theorem execAttest_keeps {K : Nat} {s0 s : State} {p n seq conf xl params mac ans} (hK : 6601381389191 ||| K = K) (h : Keeps K s0 s) :
    Answers K s0 (execAttest p n seq conf xl params mac ans s) := by
  unfold execAttest
  refine Answers.ofUnit ?_
  refine State.fwRequest_keeps (sub_of rfl hK) ?_
  exact h

theorem execAuthLockEnd_keeps {K : Nat} {s0 s : State} {l} (hK : 3 ||| K = K) (h : Keeps K s0 s) :
    Answers K s0 (execAuthLockEnd l s) := by
  unfold execAuthLockEnd
  refine Answers.ofUnit ?_
  refine Keeps.ite ?_ ?_
  · refine State.setf_keeps (sub_of rfl hK) ?_
    refine State.reachRtc_keeps (sub_of rfl hK) ?_
    exact h
  · exact h

theorem execBrdFwqRead_keeps {K : Nat} {s0 s : State} {core safety} (hK : 4194690 ||| K = K) (h : Keeps K s0 s) :
    Answers K s0 (execBrdFwqRead core safety s) := by
  unfold execBrdFwqRead
  refine Answers.ofUnit ?_
  refine State.access_keeps (sub_of rfl hK) ?_ ?_
  · exact h
  · intro s1 h2
    refine State.fwqRead_keeps (sub_of rfl hK) ?_
    exact h2

theorem execBridleCommit_keeps {K : Nat} {s0 s : State} (hK : 17592186044399 ||| K = K) (h : Keeps K s0 s) :
    Answers K s0 (execBridleCommit s) := by
  unfold execBridleCommit
  refine Answers.next ?_
  split
  · refine Keeps.ite ?_ ?_
    · refine State.commitAt_keeps (sub_of rfl hK) ?_
      refine State.reach_keeps (sub_of rfl hK) ?_
      exact h
    · exact h
  · exact h

theorem execBridleDisable_keeps {K : Nat} {s0 s : State} {core} (hK : 2203323343750 ||| K = K) (h : Keeps K s0 s) :
    Answers K s0 (execBridleDisable core s) := by
  unfold execBridleDisable
  refine Answers.ofUnit ?_
  refine State.access_keeps (sub_of rfl hK) ?_ ?_
  · exact h
  · intro s1 h2
    refine State.forN_keeps ?_ ?_
    · refine State.forN_keeps ?_ ?_
      · refine State.setf_keeps (sub_of rfl hK) ?_
        exact h2
      · intro s3 _ h4
        refine Keeps.ite ?_ ?_
        · exact h4
        · refine State.closeSession_keeps (sub_of rfl hK) ?_
          exact h4
    · intro s5 _ h6
      refine State.freeSlot_keeps (sub_of rfl hK) ?_
      exact h6

theorem execCapRead_keeps {K : Nat} {s0 s : State} {p n seq conf xl params mac} (hK : 2203334878086 ||| K = K) (h : Keeps K s0 s) :
    Answers K s0 (execCapRead p n seq conf xl params mac s) := by
  unfold execCapRead
  refine Answers.ofUnit ?_
  refine State.request_keeps (sub_of rfl hK) ?_
  exact h

theorem execClearLockout_keeps {K : Nat} {s0 s : State} {p n seq conf xl params mac ans} (hK : 6601381389191 ||| K = K) (h : Keeps K s0 s) :
    Answers K s0 (execClearLockout p n seq conf xl params mac ans s) := by
  unfold execClearLockout
  refine Answers.ofUnit ?_
  refine State.fwRequest_keeps (sub_of rfl hK) ?_
  exact h

theorem execClutchReq_keeps {K : Nat} {s0 s : State} {p n seq conf xl params mac ans} (hK : 6601381389191 ||| K = K) (h : Keeps K s0 s) :
    Answers K s0 (execClutchReq p n seq conf xl params mac ans s) := by
  unfold execClutchReq
  refine Answers.ofUnit ?_
  refine State.fwRequest_keeps (sub_of rfl hK) ?_
  exact h

theorem execCounterRead_keeps {K : Nat} {s0 s : State} {p n seq conf xl params mac ans} (hK : 6601381389191 ||| K = K) (h : Keeps K s0 s) :
    Answers K s0 (execCounterRead p n seq conf xl params mac ans s) := by
  unfold execCounterRead
  refine Answers.ofUnit ?_
  refine State.fwRequest_keeps (sub_of rfl hK) ?_
  exact h

theorem execFirmwareAnswer_keeps {K : Nat} {s0 s : State} {core v} (hK : 2203325440902 ||| K = K) (h : Keeps K s0 s) :
    Answers K s0 (execFirmwareAnswer core v s) := by
  unfold execFirmwareAnswer
  refine Answers.ofUnit ?_
  refine State.access_keeps (sub_of rfl hK) ?_ ?_
  · exact h
  · intro s1 h2
    try dsimp only
    split
    · refine State.fwAnswer_keeps (sub_of rfl hK) ?_
      exact h2
    · refine State.brdErr_keeps (sub_of rfl hK) ?_
      exact h2

theorem execFirmwareAnswerTimeout_keeps {K : Nat} {s0 s : State} {i_} (hK : 2203325440775 ||| K = K) (h : Keeps K s0 s) :
    Answers K s0 (execFirmwareAnswerTimeout i_ s) := by
  unfold execFirmwareAnswerTimeout
  refine Answers.ofUnit ?_
  split
  · refine Keeps.ite ?_ ?_
    · exact h
    · refine State.fwTimeout_keeps (sub_of rfl hK) ?_
      refine State.reach_keeps (sub_of rfl hK) ?_
      exact h
  · exact h

theorem execFirmwarePendingWrite_keeps {K : Nat} {s0 s : State} {core v} (hK : 4194690 ||| K = K) (h : Keeps K s0 s) :
    Answers K s0 (execFirmwarePendingWrite core v s) := by
  unfold execFirmwarePendingWrite
  refine Answers.ofUnit ?_
  refine State.access_keeps (sub_of rfl hK) ?_ ?_
  · exact h
  · intro s1 h2
    try dsimp only
    split
    · refine Keeps.ite ?_ ?_
      · refine State.modSlot_keeps (sub_of rfl hK) ?_
        exact h2
      · refine State.brdErr_keeps (sub_of rfl hK) ?_
        exact h2
    · refine State.brdErr_keeps (sub_of rfl hK) ?_
      exact h2

theorem execFirmwareWorkDone_keeps {K : Nat} {s0 s : State} {core v} (hK : 4194690 ||| K = K) (h : Keeps K s0 s) :
    Answers K s0 (execFirmwareWorkDone core v s) := by
  unfold execFirmwareWorkDone
  refine Answers.ofUnit ?_
  refine State.access_keeps (sub_of rfl hK) ?_ ?_
  · exact h
  · intro s1 h2
    try dsimp only
    split
    · refine State.modSlot_keeps (sub_of rfl hK) ?_
      exact h2
    · refine State.brdErr_keeps (sub_of rfl hK) ?_
      exact h2

theorem execFwActivate_keeps {K : Nat} {s0 s : State} {p n seq conf xl params mac ans offs} (hK : 6601381389191 ||| K = K) (h : Keeps K s0 s) :
    Answers K s0 (execFwActivate p n seq conf xl params mac ans offs s) := by
  unfold execFwActivate
  refine Answers.ofUnit ?_
  refine State.fwRequest_keeps (sub_of rfl hK) ?_
  exact h

theorem execFwBlock_keeps {K : Nat} {s0 s : State} {p n seq conf xl params mac ans} (hK : 6601381389191 ||| K = K) (h : Keeps K s0 s) :
    Answers K s0 (execFwBlock p n seq conf xl params mac ans s) := by
  unfold execFwBlock
  refine Answers.ofUnit ?_
  refine State.fwRequest_keeps (sub_of rfl hK) ?_
  exact h

theorem execKeyWrite_keeps {K : Nat} {s0 s : State} {p n seq conf xl params mac ans} (hK : 6601381389191 ||| K = K) (h : Keeps K s0 s) :
    Answers K s0 (execKeyWrite p n seq conf xl params mac ans s) := by
  unfold execKeyWrite
  refine Answers.ofUnit ?_
  refine State.fwRequest_keeps (sub_of rfl hK) ?_
  exact h

theorem execLvClear_keeps {K : Nat} {s0 s : State} {p n seq conf xl params mac} (hK : 2203334878086 ||| K = K) (h : Keeps K s0 s) :
    Answers K s0 (execLvClear p n seq conf xl params mac s) := by
  unfold execLvClear
  refine Answers.ofUnit ?_
  refine State.request_keeps (sub_of rfl hK) ?_
  exact h

theorem execNvmRead_keeps {K : Nat} {s0 s : State} {p n seq conf xl params mac ans} (hK : 6601381389191 ||| K = K) (h : Keeps K s0 s) :
    Answers K s0 (execNvmRead p n seq conf xl params mac ans s) := by
  unfold execNvmRead
  refine Answers.ofUnit ?_
  refine State.fwRequest_keeps (sub_of rfl hK) ?_
  exact h

theorem execNvmWrite_keeps {K : Nat} {s0 s : State} {p n seq conf xl params mac ans} (hK : 6601381389191 ||| K = K) (h : Keeps K s0 s) :
    Answers K s0 (execNvmWrite p n seq conf xl params mac ans s) := by
  unfold execNvmWrite
  refine Answers.ofUnit ?_
  refine State.fwRequest_keeps (sub_of rfl hK) ?_
  exact h

theorem execParkReq_keeps {K : Nat} {s0 s : State} {p n seq conf xl params mac ans} (hK : 6601381389191 ||| K = K) (h : Keeps K s0 s) :
    Answers K s0 (execParkReq p n seq conf xl params mac ans s) := by
  unfold execParkReq
  refine Answers.ofUnit ?_
  refine State.fwRequest_keeps (sub_of rfl hK) ?_
  exact h

theorem execPing_keeps {K : Nat} {s0 s : State} {p n seq conf xl params mac} (hK : 2203334878086 ||| K = K) (h : Keeps K s0 s) :
    Answers K s0 (execPing p n seq conf xl params mac s) := by
  unfold execPing
  refine Answers.ofUnit ?_
  refine State.request_keeps (sub_of rfl hK) ?_
  exact h

theorem execProbeStart_keeps {K : Nat} {s0 s : State} {p n seq conf xl params mac ans} (hK : 6601381389191 ||| K = K) (h : Keeps K s0 s) :
    Answers K s0 (execProbeStart p n seq conf xl params mac ans s) := by
  unfold execProbeStart
  refine Answers.ofUnit ?_
  refine State.fwRequest_keeps (sub_of rfl hK) ?_
  exact h

theorem execPumpDemand_keeps {K : Nat} {s0 s : State} {p n seq conf xl params mac ans} (hK : 6601381389191 ||| K = K) (h : Keeps K s0 s) :
    Answers K s0 (execPumpDemand p n seq conf xl params mac ans s) := by
  unfold execPumpDemand
  refine Answers.ofUnit ?_
  refine State.fwRequest_keeps (sub_of rfl hK) ?_
  exact h

theorem execSafetyCfg_keeps {K : Nat} {s0 s : State} {p n seq conf xl params mac ans cfg} (hK : 6601381389191 ||| K = K) (h : Keeps K s0 s) :
    Answers K s0 (execSafetyCfg p n seq conf xl params mac ans cfg s) := by
  unfold execSafetyCfg
  refine Answers.ofUnit ?_
  refine State.fwRequest_keeps (sub_of rfl hK) ?_
  exact h

theorem execSafetyClear_keeps {K : Nat} {s0 s : State} {p n seq conf xl params mac ans} (hK : 6601381389191 ||| K = K) (h : Keeps K s0 s) :
    Answers K s0 (execSafetyClear p n seq conf xl params mac ans s) := by
  unfold execSafetyClear
  refine Answers.ofUnit ?_
  refine State.fwRequest_keeps (sub_of rfl hK) ?_
  exact h

theorem execSessionClose_keeps {K : Nat} {s0 s : State} {p n seq conf xl params mac} (hK : 2203334878086 ||| K = K) (h : Keeps K s0 s) :
    Answers K s0 (execSessionClose p n seq conf xl params mac s) := by
  unfold execSessionClose
  refine Answers.ofUnit ?_
  refine State.request_keeps (sub_of rfl hK) ?_
  exact h

theorem execSessionIdleTimeout_keeps {K : Nat} {s0 s : State} {n} (hK : 2203323343623 ||| K = K) (h : Keeps K s0 s) :
    Answers K s0 (execSessionIdleTimeout n s) := by
  unfold execSessionIdleTimeout
  refine Answers.ofUnit ?_
  refine Keeps.ite ?_ ?_
  · refine State.closeSession_keeps (sub_of rfl hK) ?_
    refine State.reach_keeps (sub_of rfl hK) ?_
    exact h
  · exact h

theorem execSessionOpen_keeps {K : Nat} {s0 s : State} {p n seq conf xl params mac} (hK : 2203334878086 ||| K = K) (h : Keeps K s0 s) :
    Answers K s0 (execSessionOpen p n seq conf xl params mac s) := by
  unfold execSessionOpen
  refine Answers.ofUnit ?_
  refine State.request_keeps (sub_of rfl hK) ?_
  exact h

theorem execSessionOpenTimeout_keeps {K : Nat} {s0 s : State} {n} (hK : 2203323343623 ||| K = K) (h : Keeps K s0 s) :
    Answers K s0 (execSessionOpenTimeout n s) := by
  unfold execSessionOpenTimeout
  refine Answers.ofUnit ?_
  refine Keeps.ite ?_ ?_
  · refine State.closeSession_keeps (sub_of rfl hK) ?_
    refine State.reach_keeps (sub_of rfl hK) ?_
    exact h
  · exact h

theorem execSessionProof_keeps {K : Nat} {s0 s : State} {p n seq conf xl params mac} (hK : 2203334878086 ||| K = K) (h : Keeps K s0 s) :
    Answers K s0 (execSessionProof p n seq conf xl params mac s) := by
  unfold execSessionProof
  refine Answers.ofUnit ?_
  refine State.request_keeps (sub_of rfl hK) ?_
  exact h

theorem execSetChargeLimits_keeps {K : Nat} {s0 s : State} {p n seq conf xl params mac ans} (hK : 6601381389191 ||| K = K) (h : Keeps K s0 s) :
    Answers K s0 (execSetChargeLimits p n seq conf xl params mac ans s) := by
  unfold execSetChargeLimits
  refine Answers.ofUnit ?_
  refine State.fwRequest_keeps (sub_of rfl hK) ?_
  exact h

theorem execSetCtrlMode_keeps {K : Nat} {s0 s : State} {p n seq conf xl params mac} (hK : 2203334878086 ||| K = K) (h : Keeps K s0 s) :
    Answers K s0 (execSetCtrlMode p n seq conf xl params mac s) := by
  unfold execSetCtrlMode
  refine Answers.ofUnit ?_
  refine State.request_keeps (sub_of rfl hK) ?_
  exact h

theorem execSetDirection_keeps {K : Nat} {s0 s : State} {p n seq conf xl params mac} (hK : 2203334878086 ||| K = K) (h : Keeps K s0 s) :
    Answers K s0 (execSetDirection p n seq conf xl params mac s) := by
  unfold execSetDirection
  refine Answers.ofUnit ?_
  refine State.request_keeps (sub_of rfl hK) ?_
  exact h

theorem execSetInputLimit_keeps {K : Nat} {s0 s : State} {p n seq conf xl params mac ans} (hK : 6601381389191 ||| K = K) (h : Keeps K s0 s) :
    Answers K s0 (execSetInputLimit p n seq conf xl params mac ans s) := by
  unfold execSetInputLimit
  refine Answers.ofUnit ?_
  refine State.fwRequest_keeps (sub_of rfl hK) ?_
  exact h

theorem execSetLvRun_keeps {K : Nat} {s0 s : State} {p n seq conf xl params mac} (hK : 2203334878086 ||| K = K) (h : Keeps K s0 s) :
    Answers K s0 (execSetLvRun p n seq conf xl params mac s) := by
  unfold execSetLvRun
  refine Answers.ofUnit ?_
  refine State.request_keeps (sub_of rfl hK) ?_
  exact h

theorem execSetMode_keeps {K : Nat} {s0 s : State} {p n seq conf xl params mac} (hK : 2203334878086 ||| K = K) (h : Keeps K s0 s) :
    Answers K s0 (execSetMode p n seq conf xl params mac s) := by
  unfold execSetMode
  refine Answers.ofUnit ?_
  refine State.request_keeps (sub_of rfl hK) ?_
  exact h

theorem execSetNetVoltage_keeps {K : Nat} {s0 s : State} {p n seq conf xl params mac} (hK : 2203334878086 ||| K = K) (h : Keeps K s0 s) :
    Answers K s0 (execSetNetVoltage p n seq conf xl params mac s) := by
  unfold execSetNetVoltage
  refine Answers.ofUnit ?_
  refine State.request_keeps (sub_of rfl hK) ?_
  exact h

theorem execSetSpeed_keeps {K : Nat} {s0 s : State} {p n seq conf xl params mac} (hK : 2203334878086 ||| K = K) (h : Keeps K s0 s) :
    Answers K s0 (execSetSpeed p n seq conf xl params mac s) := by
  unfold execSetSpeed
  refine Answers.ofUnit ?_
  refine State.request_keeps (sub_of rfl hK) ?_
  exact h

theorem execSetSupply_keeps {K : Nat} {s0 s : State} {p n seq conf xl params mac ans} (hK : 6601381389191 ||| K = K) (h : Keeps K s0 s) :
    Answers K s0 (execSetSupply p n seq conf xl params mac ans s) := by
  unfold execSetSupply
  refine Answers.ofUnit ?_
  refine State.fwRequest_keeps (sub_of rfl hK) ?_
  exact h

theorem execSetTorque_keeps {K : Nat} {s0 s : State} {p n seq conf xl params mac} (hK : 2203334878086 ||| K = K) (h : Keeps K s0 s) :
    Answers K s0 (execSetTorque p n seq conf xl params mac s) := by
  unfold execSetTorque
  refine Answers.ofUnit ?_
  refine State.request_keeps (sub_of rfl hK) ?_
  exact h

theorem execSetTorqueLimits_keeps {K : Nat} {s0 s : State} {p n seq conf xl params mac} (hK : 2203334878086 ||| K = K) (h : Keeps K s0 s) :
    Answers K s0 (execSetTorqueLimits p n seq conf xl params mac s) := by
  unfold execSetTorqueLimits
  refine Answers.ofUnit ?_
  refine State.request_keeps (sub_of rfl hK) ?_
  exact h

theorem execShiftTo_keeps {K : Nat} {s0 s : State} {p n seq conf xl params mac ans} (hK : 6601381389191 ||| K = K) (h : Keeps K s0 s) :
    Answers K s0 (execShiftTo p n seq conf xl params mac ans s) := by
  unfold execShiftTo
  refine Answers.ofUnit ?_
  refine State.fwRequest_keeps (sub_of rfl hK) ?_
  exact h

theorem execSigRead_keeps {K : Nat} {s0 s : State} {p n seq conf xl params mac} (hK : 2203334878086 ||| K = K) (h : Keeps K s0 s) :
    Answers K s0 (execSigRead p n seq conf xl params mac s) := by
  unfold execSigRead
  refine Answers.ofUnit ?_
  refine State.request_keeps (sub_of rfl hK) ?_
  exact h

theorem execSigSubscribe_keeps {K : Nat} {s0 s : State} {p n seq conf xl params mac} (hK : 2203334878086 ||| K = K) (h : Keeps K s0 s) :
    Answers K s0 (execSigSubscribe p n seq conf xl params mac s) := by
  unfold execSigSubscribe
  refine Answers.ofUnit ?_
  refine State.request_keeps (sub_of rfl hK) ?_
  exact h

theorem execSigUnsubscribe_keeps {K : Nat} {s0 s : State} {p n seq conf xl params mac} (hK : 2203334878086 ||| K = K) (h : Keeps K s0 s) :
    Answers K s0 (execSigUnsubscribe p n seq conf xl params mac s) := by
  unfold execSigUnsubscribe
  refine Answers.ofUnit ?_
  refine State.request_keeps (sub_of rfl hK) ?_
  exact h

theorem execSigWrite_keeps {K : Nat} {s0 s : State} {p n seq conf xl params mac} (hK : 2203334878086 ||| K = K) (h : Keeps K s0 s) :
    Answers K s0 (execSigWrite p n seq conf xl params mac s) := by
  unfold execSigWrite
  refine Answers.ofUnit ?_
  refine State.request_keeps (sub_of rfl hK) ?_
  exact h

theorem execSubscriptionNotify_keeps {K : Nat} {s0 s : State} {i_} (hK : 6291457 ||| K = K) (h : Keeps K s0 s) :
    Answers K s0 (execSubscriptionNotify i_ s) := by
  unfold execSubscriptionNotify
  refine Answers.next ?_
  split
  · exact h
  · refine Keeps.ite ?_ ?_
    · exact h
    · refine Keeps.ite ?_ ?_
      · refine State.modBridle_keeps (sub_of rfl hK) ?_ (by intro c hc; first | exact hc | simpa using hc | (split <;> simpa using hc))
        refine State.reach_keeps (sub_of rfl hK) ?_
        exact h
      · refine State.postReply_keeps (sub_of rfl hK) ?_
        refine State.modBridle_keeps (sub_of rfl hK) ?_ (by intro c hc; first | exact hc | simpa using hc | (split <;> simpa using hc))
        refine State.reach_keeps (sub_of rfl hK) ?_
        exact h

theorem execSwReset_keeps {K : Nat} {s0 s : State} {p n seq conf xl params mac ans} (hK : 6601381389191 ||| K = K) (h : Keeps K s0 s) :
    Answers K s0 (execSwReset p n seq conf xl params mac ans s) := by
  unfold execSwReset
  refine Answers.ofUnit ?_
  refine State.fwRequest_keeps (sub_of rfl hK) ?_
  exact h

theorem execTraceCfg_keeps {K : Nat} {s0 s : State} {p n seq conf xl params mac ans} (hK : 6601381389191 ||| K = K) (h : Keeps K s0 s) :
    Answers K s0 (execTraceCfg p n seq conf xl params mac ans s) := by
  unfold execTraceCfg
  refine Answers.ofUnit ?_
  refine State.fwRequest_keeps (sub_of rfl hK) ?_
  exact h

theorem execTraceRead_keeps {K : Nat} {s0 s : State} {p n seq conf xl params mac ans} (hK : 6601381389191 ||| K = K) (h : Keeps K s0 s) :
    Answers K s0 (execTraceRead p n seq conf xl params mac ans s) := by
  unfold execTraceRead
  refine Answers.ofUnit ?_
  refine State.fwRequest_keeps (sub_of rfl hK) ?_
  exact h

/-! ## Buses -/

theorem execBus0WakeFrame_keeps {K : Nat} {s0 s : State} {kind cycles ide id dlc data} (hK : 6601365398406 ||| K = K) (h : Keeps K s0 s) :
    Answers K s0 (execBus0WakeFrame kind cycles ide id dlc data s) := by
  unfold execBus0WakeFrame
  refine Answers.ofUnit ?_
  refine Keeps.ite ?_ ?_
  · exact h
  · refine Keeps.ite ?_ ?_
    · refine Keeps.ite ?_ ?_
      · refine Keeps.ite ?_ ?_
        · refine State.detectorWake_keeps (sub_of rfl hK) ?_
          refine State.dominantWakes_keeps (sub_of rfl hK) ?_
          exact h
        · refine State.dominantWakes_keeps (sub_of rfl hK) ?_
          exact h
      · exact h
    · refine Keeps.ite ?_ ?_
      · refine Keeps.ite ?_ ?_
        · refine Keeps.ite ?_ ?_
          · refine State.detectorWake_keeps (sub_of rfl hK) ?_
            refine State.setf_keeps (sub_of rfl hK) ?_
            exact h
          · refine State.setf_keeps (sub_of rfl hK) ?_
            exact h
        · refine Keeps.ite ?_ ?_
          · refine Keeps.ite ?_ ?_
            · refine State.detectorWake_keeps (sub_of rfl hK) ?_
              refine State.setf_keeps (sub_of rfl hK) ?_
              exact h
            · refine State.setf_keeps (sub_of rfl hK) ?_
              exact h
          · exact h
      · exact h

theorem execBusEnable_keeps {K : Nat} {s0 s : State} {core p v} (hK : 2097538 ||| K = K) (h : Keeps K s0 s) :
    Answers K s0 (execBusEnable core p v s) := by
  unfold execBusEnable
  refine Answers.ofUnit ?_
  refine State.portAccess_keeps (sub_of rfl hK) ?_ ?_
  · exact h
  · intro s1 h2
    refine Keeps.ite ?_ ?_
    · exact h2
    · refine Keeps.ite ?_ ?_
      · refine State.busSleepNow_keeps (sub_of rfl hK) ?_
        refine State.busEnable_keeps (sub_of rfl hK) ?_
        exact h2
      · refine State.busEnable_keeps (sub_of rfl hK) ?_
        exact h2

theorem execBusIntegrationDone_keeps {K : Nat} {s0 s : State} {p} (hK : 2 ||| K = K) (h : Keeps K s0 s) :
    Answers K s0 (execBusIntegrationDone p s) := by
  unfold execBusIntegrationDone
  refine Answers.ofUnit ?_
  refine Keeps.ite ?_ ?_
  · refine State.setf_keeps (sub_of rfl hK) ?_
    exact h
  · exact h

theorem execBusOffRecovery_keeps {K : Nat} {s0 s : State} {p} (hK : 2097154 ||| K = K) (h : Keeps K s0 s) :
    Answers K s0 (execBusOffRecovery p s) := by
  unfold execBusOffRecovery
  refine Answers.ofUnit ?_
  refine Keeps.ite ?_ ?_
  · refine State.modBus_keeps (sub_of rfl hK) ?_
    refine State.setErrors_keeps (sub_of rfl hK) ?_
    refine State.setf_keeps (sub_of rfl hK) ?_
    exact h
  · exact h

theorem execBusRecoveryRequest_keeps {K : Nat} {s0 s : State} {core p} (hK : 2097536 ||| K = K) (h : Keeps K s0 s) :
    Answers K s0 (execBusRecoveryRequest core p s) := by
  unfold execBusRecoveryRequest
  refine Answers.ofUnit ?_
  refine State.portAccess_keeps (sub_of rfl hK) ?_ ?_
  · exact h
  · intro s1 h2
    refine Keeps.ite ?_ ?_
    · refine State.modBus_keeps (sub_of rfl hK) ?_
      exact h2
    · exact h2

theorem execBusSleep_keeps {K : Nat} {s0 s : State} {core p inProgress} (hK : 2097538 ||| K = K) (h : Keeps K s0 s) :
    Answers K s0 (execBusSleep core p inProgress s) := by
  unfold execBusSleep
  refine Answers.ofUnit ?_
  refine State.portAccess_keeps (sub_of rfl hK) ?_ ?_
  · exact h
  · intro s1 h2
    refine Keeps.ite ?_ ?_
    · refine State.setf_keeps (sub_of rfl hK) ?_
      exact h2
    · refine Keeps.ite ?_ ?_
      · refine State.modBus_keeps (sub_of rfl hK) ?_
        refine State.setf_keeps (sub_of rfl hK) ?_
        exact h2
      · refine State.busSleepNow_keeps (sub_of rfl hK) ?_
        refine State.setf_keeps (sub_of rfl hK) ?_
        exact h2

theorem execBusSupervisorTimeout_keeps {K : Nat} {s0 s : State} {p i_} (hK : 3145729 ||| K = K) (h : Keeps K s0 s) :
    Answers K s0 (execBusSupervisorTimeout p i_ s) := by
  unfold execBusSupervisorTimeout
  refine Answers.ofUnit ?_
  try dsimp only
  split
  · refine Keeps.ite ?_ ?_
    · refine State.sourceOn_keeps (sub_of rfl hK) ?_
      refine State.report_keeps (sub_of rfl hK) ?_
      refine State.modBus_keeps (sub_of rfl hK) ?_
      refine State.reach_keeps (sub_of rfl hK) ?_
      exact h
    · exact h
  · exact h

theorem execBusWake_keeps {K : Nat} {s0 s : State} {core p cycles write} (hK : 2203321246598 ||| K = K) (h : Keeps K s0 s) :
    Answers K s0 (execBusWake core p cycles write s) := by
  unfold execBusWake
  refine Answers.ofUnit ?_
  refine Keeps.ite ?_ ?_
  · refine State.portAccess_keeps (sub_of rfl hK) ?_ ?_
    · exact h
    · intro s1 h2
      refine State.busWake_keeps (sub_of rfl hK) ?_
      refine State.setf_keeps (sub_of rfl hK) ?_
      exact h2
  · refine Keeps.ite ?_ ?_
    · refine Keeps.ite ?_ ?_
      · refine Keeps.ite ?_ ?_
        · refine State.busWake_keeps (sub_of rfl hK) ?_
          refine State.dominantWakes_keeps (sub_of rfl hK) ?_
          exact h
        · refine State.dominantWakes_keeps (sub_of rfl hK) ?_
          exact h
      · exact h
    · refine Keeps.ite ?_ ?_
      · refine Keeps.ite ?_ ?_
        · refine State.portWake_keeps (sub_of rfl hK) ?_
          refine State.dominantWakes_keeps (sub_of rfl hK) ?_
          exact h
        · refine State.dominantWakes_keeps (sub_of rfl hK) ?_
          exact h
      · exact h

theorem execFrameAbandon_keeps {K : Nat} {s0 s : State} {p obj running} (hK : 2097155 ||| K = K) (h : Keeps K s0 s) :
    Answers K s0 (execFrameAbandon p obj running s) := by
  unfold execFrameAbandon
  refine Answers.ofUnit ?_
  refine Keeps.ite ?_ ?_
  · exact h
  · split
    · refine State.txAbandon_keeps (sub_of rfl hK) ?_
      refine State.reach_keeps (sub_of rfl hK) ?_
      exact h
    · exact h

theorem execFrameReceived_keeps {K : Nat} {s0 s : State} {p fmt ide id data sdt vcid af} (hK : 2203334878086 ||| K = K) (h : Keeps K s0 s) :
    Answers K s0 (execFrameReceived p fmt ide id data sdt vcid af s) := by
  unfold execFrameReceived
  refine Answers.ofUnit ?_
  refine Keeps.ite ?_ ?_
  · refine Keeps.ite ?_ ?_
    · refine State.receiveFrame_keeps (sub_of rfl hK) ?_
      exact h
    · refine State.protocolException_keeps (sub_of rfl hK) ?_
      exact h
  · exact h

theorem execFrameTransmitted_keeps {K : Nat} {s0 s : State} {p obj start} (hK : 2203334878086 ||| K = K) (h : Keeps K s0 s) :
    Answers K s0 (execFrameTransmitted p obj start s) := by
  unfold execFrameTransmitted
  refine Answers.ofUnit ?_
  refine Keeps.ite ?_ ?_
  · exact h
  · refine Keeps.ite ?_ ?_
    · refine State.receiveFrame_keeps (sub_of rfl hK) ?_
      refine State.setErrors_keeps (sub_of rfl hK) ?_
      refine State.txRemove_keeps (sub_of rfl hK) ?_
      exact h
    · refine State.frameEnd_keeps (sub_of rfl hK) ?_
      refine State.setErrors_keeps (sub_of rfl hK) ?_
      refine State.txRemove_keeps (sub_of rfl hK) ?_
      exact h

theorem execFrameTxFailure_keeps {K : Nat} {s0 s : State} {p obj start err} (hK : 2097154 ||| K = K) (h : Keeps K s0 s) :
    Answers K s0 (execFrameTxFailure p obj start err s) := by
  unfold execFrameTxFailure
  refine Answers.ofUnit ?_
  refine Keeps.ite ?_ ?_
  · exact h
  · refine State.frameEnd_keeps (sub_of rfl hK) ?_
    refine Keeps.ite ?_ ?_
    · refine State.txAbandon_keeps (sub_of rfl hK) ?_
      refine Keeps.ite ?_ ?_
      · refine State.txError_keeps (sub_of rfl hK) ?_
        exact h
      · exact h
    · refine Keeps.ite ?_ ?_
      · refine State.txError_keeps (sub_of rfl hK) ?_
        exact h
      · exact h

theorem execProtocolException_keeps {K : Nat} {s0 s : State} {p kind} (hK : 2097154 ||| K = K) (h : Keeps K s0 s) :
    Answers K s0 (execProtocolException p kind s) := by
  unfold execProtocolException
  refine Answers.ofUnit ?_
  refine Keeps.ite ?_ ?_
  · exact h
  · refine State.protocolException_keeps (sub_of rfl hK) ?_
    exact h

theorem execReceiveError_keeps {K : Nat} {s0 s : State} {p big} (hK : 2097154 ||| K = K) (h : Keeps K s0 s) :
    Answers K s0 (execReceiveError p big s) := by
  unfold execReceiveError
  refine Answers.ofUnit ?_
  refine Keeps.ite ?_ ?_
  · refine State.frameEnd_keeps (sub_of rfl hK) ?_
    refine State.rxError_keeps (sub_of rfl hK) ?_
    exact h
  · exact h

theorem execRxObjectConsume_keeps {K : Nat} {s0 s : State} {core p k} (hK : 386 ||| K = K) (h : Keeps K s0 s) :
    Answers K s0 (execRxObjectConsume core p k s) := by
  unfold execRxObjectConsume
  refine Answers.ofUnit ?_
  refine State.portAccess_keeps (sub_of rfl hK) ?_ ?_
  · exact h
  · intro s1 h2
    refine State.setf_keeps (sub_of rfl hK) ?_
    exact h2

theorem execTransmitObjectDue_keeps {K : Nat} {s0 s : State} {p j} (hK : 2097155 ||| K = K) (h : Keeps K s0 s) :
    Answers K s0 (execTransmitObjectDue p j s) := by
  unfold execTransmitObjectDue
  refine Answers.ofUnit ?_
  split
  · refine Keeps.ite ?_ ?_
    · refine State.txSchedule_keeps (sub_of rfl hK) ?_
      refine State.txPend_keeps (sub_of rfl hK) ?_
      refine State.reach_keeps (sub_of rfl hK) ?_
      exact h
    · exact h
  · exact h

theorem execTransmitSend_keeps {K : Nat} {s0 s : State} {core p j} (hK : 2097538 ||| K = K) (h : Keeps K s0 s) :
    Answers K s0 (execTransmitSend core p j s) := by
  unfold execTransmitSend
  refine Answers.ofUnit ?_
  refine State.portAccess_keeps (sub_of rfl hK) ?_ ?_
  · exact h
  · intro s1 h2
    refine Keeps.ite ?_ ?_
    · refine State.txPend_keeps (sub_of rfl hK) ?_
      exact h2
    · exact h2

end Sys2Proof.Machine
end

