-- ==== Sys2Proof/Laws/KeepsCharger.lean ====
section
/-! SUPPORT. What each operation and each command of Machine/Canter.lean, Machine/Charger.lean keeps. -/

set_option linter.unusedVariables false
set_option linter.unusedTactic false
set_option linter.unreachableTactic false

namespace Sys2Proof.Machine

/-! ## Canter -/

theorem writesPair_keeps {K : Nat} {s0 s : State} {e l d v x5 x6} (hK : 8194 ||| K = K) (h : Keeps K s0 s) :
    Keeps K s0 (writesPair e l d v s x5 x6) := by
  unfold writesPair
  refine State.dSet_keeps (sub_of rfl hK) ?_
  refine State.dSet_keeps (sub_of rfl hK) ?_
  exact h

theorem writes_keeps {K : Nat} {s0 s : State} {e l d v x5 x6} (hK : 8194 ||| K = K) (h : Keeps K s0 s) :
    Keeps K s0 (writes e l d v s x5 x6) := by
  unfold writes
  refine State.dSet_keeps (sub_of rfl hK) ?_
  exact h

theorem State.selTail_keeps {K : Nat} {s0 s : State} {e l c t} (hK : 9856 ||| K = K) (h : Keeps K s0 s) :
    Keeps K s0 (State.selTail s e l c t) := by
  unfold State.selTail
  refine Keeps.ite ?_ ?_
  · refine State.urgentIssue_keeps (sub_of rfl hK) ?_
    exact h
  · refine Keeps.ite ?_ ?_
    · refine State.present_keeps (sub_of rfl hK) ?_
      exact h
    · exact h

theorem execCanAbs_keeps {K : Nat} {s0 s : State} {e l d x} (hK : 8195 ||| K = K) (h : Keeps K s0 s) :
    Answers K s0 (execCanAbs e l d x s) := by
  unfold execCanAbs
  refine Answers.ofUnit (State.canIssue_keeps (sub_of rfl hK) h ?_)
  · intro s1 _ _ h2
    refine writes_keeps (sub_of rfl hK) ?_
    exact h2

theorem execCanAdd_keeps {K : Nat} {s0 s : State} {e l d x y} (hK : 8195 ||| K = K) (h : Keeps K s0 s) :
    Answers K s0 (execCanAdd e l d x y s) := by
  unfold execCanAdd
  refine Answers.ofUnit (State.canIssue_keeps (sub_of rfl hK) h ?_)
  · intro s1 _ _ h2
    refine writes_keeps (sub_of rfl hK) ?_
    exact h2

theorem execCanAdda_keeps {K : Nat} {s0 s : State} {e l a b} (hK : 8195 ||| K = K) (h : Keeps K s0 s) :
    Answers K s0 (execCanAdda e l a b s) := by
  unfold execCanAdda
  refine Answers.ofUnit (State.canIssue_keeps (sub_of rfl hK) h ?_)
  · intro s1 _ _ h2
    refine State.putAcc_keeps (sub_of rfl hK) ?_
    exact h2

theorem execCanAddw_keeps {K : Nat} {s0 s : State} {e l d x y} (hK : 8195 ||| K = K) (h : Keeps K s0 s) :
    Answers K s0 (execCanAddw e l d x y s) := by
  unfold execCanAddw
  refine Answers.ofUnit (State.canIssue_keeps (sub_of rfl hK) h ?_)
  · intro s1 _ _ h2
    refine writes_keeps (sub_of rfl hK) ?_
    exact h2

theorem execCanBnd_keeps {K : Nat} {s0 s : State} {e l b k lo hi} (hK : 8193 ||| K = K) (h : Keeps K s0 s) :
    Answers K s0 (execCanBnd e l b k lo hi s) := by
  unfold execCanBnd
  refine Answers.ofUnit (State.canIssue_keeps (sub_of rfl hK) h ?_)
  · intro s1 _ _ h2
    refine State.modLaw_keeps (sub_of rfl hK) ?_
    exact h2

theorem execCanClarke_keeps {K : Nat} {s0 s : State} {e l d x y} (hK : 8195 ||| K = K) (h : Keeps K s0 s) :
    Answers K s0 (execCanClarke e l d x y s) := by
  unfold execCanClarke
  refine Answers.ofUnit (State.canIssue_keeps (sub_of rfl hK) h ?_)
  · intro s1 _ _ h2
    refine writesPair_keeps (sub_of rfl hK) ?_
    exact h2

theorem execCanCmp_keeps {K : Nat} {s0 s : State} {e l x y} (hK : 8193 ||| K = K) (h : Keeps K s0 s) :
    Answers K s0 (execCanCmp e l x y s) := by
  unfold execCanCmp
  refine Answers.ofUnit (State.canIssue_keeps (sub_of rfl hK) h ?_)
  · intro s1 _ _ h2
    refine State.setNZ_keeps (sub_of rfl hK) ?_
    exact h2

theorem execCanCorr_keeps {K : Nat} {s0 s : State} {e l d x g k} (hK : 8195 ||| K = K) (h : Keeps K s0 s) :
    Answers K s0 (execCanCorr e l d x g k s) := by
  unfold execCanCorr
  refine Answers.ofUnit (State.canIssue_keeps (sub_of rfl hK) h ?_)
  · intro s1 _ _ h2
    refine State.putSat_keeps (sub_of rfl hK) ?_
    exact h2

theorem execCanDiv_keeps {K : Nat} {s0 s : State} {e l d x y} (hK : 8195 ||| K = K) (h : Keeps K s0 s) :
    Answers K s0 (execCanDiv e l d x y s) := by
  unfold execCanDiv
  refine Answers.ofUnit (State.canIssue_keeps (sub_of rfl hK) h ?_)
  · intro s1 _ _ h2
    refine writes_keeps (sub_of rfl hK) ?_
    exact h2

theorem execCanDmac_keeps {K : Nat} {s0 s : State} {e l a x y} (hK : 8195 ||| K = K) (h : Keeps K s0 s) :
    Answers K s0 (execCanDmac e l a x y s) := by
  unfold execCanDmac
  refine Answers.ofUnit (State.canIssue_keeps (sub_of rfl hK) h ?_)
  · intro s1 _ _ h2
    refine State.putAcc_keeps (sub_of rfl hK) ?_
    refine State.putAcc_keeps (sub_of rfl hK) ?_
    exact h2

theorem execCanDot_keeps {K : Nat} {s0 s : State} {e l a x y} (hK : 8195 ||| K = K) (h : Keeps K s0 s) :
    Answers K s0 (execCanDot e l a x y s) := by
  unfold execCanDot
  refine Answers.ofUnit (State.canIssue_keeps (sub_of rfl hK) h ?_)
  · intro s1 _ _ h2
    refine State.putAcc_keeps (sub_of rfl hK) ?_
    exact h2

theorem execCanEnd_keeps {K : Nat} {s0 s : State} {e l} (hK : 8835 ||| K = K) (h : Keeps K s0 s) :
    Answers K s0 (execCanEnd e l s) := by
  unfold execCanEnd
  refine Answers.ofUnit (State.canIssue_keeps (sub_of rfl hK) h ?_)
  · intro s1 _ _ h2
    refine State.endOf_keeps (sub_of rfl hK) ?_
    exact h2

theorem execCanInt_keeps {K : Nat} {s0 s : State} {e l n x g k} (hK : 8195 ||| K = K) (h : Keeps K s0 s) :
    Answers K s0 (execCanInt e l n x g k s) := by
  unfold execCanInt
  refine Answers.ofUnit (State.canIssue_keeps (sub_of rfl hK) h ?_)
  · intro s1 _ _ h2
    refine Keeps.ite ?_ ?_
    · exact h2
    · refine State.dSet_keeps (sub_of rfl hK) ?_
      refine State.dSet_keeps (sub_of rfl hK) ?_
      exact h2

theorem execCanIpark_keeps {K : Nat} {s0 s : State} {e l d x y th} (hK : 8195 ||| K = K) (h : Keeps K s0 s) :
    Answers K s0 (execCanIpark e l d x y th s) := by
  unfold execCanIpark
  refine Answers.ofUnit (State.canIssue_keeps (sub_of rfl hK) h ?_)
  · intro s1 _ _ h2
    refine writesPair_keeps (sub_of rfl hK) ?_
    exact h2

theorem execCanLda_keeps {K : Nat} {s0 s : State} {e l a x} (hK : 8195 ||| K = K) (h : Keeps K s0 s) :
    Answers K s0 (execCanLda e l a x s) := by
  unfold execCanLda
  refine Answers.ofUnit (State.canIssue_keeps (sub_of rfl hK) h ?_)
  · intro s1 _ _ h2
    refine State.putAcc_keeps (sub_of rfl hK) ?_
    exact h2

theorem execCanLdc_keeps {K : Nat} {s0 s : State} {e l d k} (hK : 8195 ||| K = K) (h : Keeps K s0 s) :
    Answers K s0 (execCanLdc e l d k s) := by
  unfold execCanLdc
  refine Answers.ofUnit (State.canIssue_keeps (sub_of rfl hK) h ?_)
  · intro s1 _ _ h2
    refine writes_keeps (sub_of rfl hK) ?_
    exact h2

theorem execCanLdi_keeps {K : Nat} {s0 s : State} {e l d imm} (hK : 8195 ||| K = K) (h : Keeps K s0 s) :
    Answers K s0 (execCanLdi e l d imm s) := by
  unfold execCanLdi
  refine Answers.ofUnit (State.canIssue_keeps (sub_of rfl hK) h ?_)
  · intro s1 _ _ h2
    refine writes_keeps (sub_of rfl hK) ?_
    exact h2

theorem execCanLdk_keeps {K : Nat} {s0 s : State} {e l d k} (hK : 8195 ||| K = K) (h : Keeps K s0 s) :
    Answers K s0 (execCanLdk e l d k s) := by
  unfold execCanLdk
  refine Answers.ofUnit (State.canIssue_keeps (sub_of rfl hK) h ?_)
  · intro s1 _ _ h2
    refine writes_keeps (sub_of rfl hK) ?_
    exact h2

theorem execCanLds_keeps {K : Nat} {s0 s : State} {e l d sg} (hK : 8833 ||| K = K) (h : Keeps K s0 s) :
    Answers K s0 (execCanLds e l d sg s) := by
  unfold execCanLds
  refine Answers.ofUnit (State.canIssue_keeps (sub_of rfl hK) h ?_)
  · intro s1 _ _ h2
    refine State.awaitRegs_keeps (sub_of rfl hK) ?_
    refine State.present_keeps (sub_of rfl hK) ?_
    exact h2

theorem execCanLdu_keeps {K : Nat} {s0 s : State} {e l d k} (hK : 8195 ||| K = K) (h : Keeps K s0 s) :
    Answers K s0 (execCanLdu e l d k s) := by
  unfold execCanLdu
  refine Answers.ofUnit (State.canIssue_keeps (sub_of rfl hK) h ?_)
  · intro s1 _ _ h2
    refine Keeps.ite ?_ ?_
    · refine State.dSet_keeps (sub_of rfl hK) ?_
      exact h2
    · refine State.miss_keeps (sub_of rfl hK) ?_
      exact h2

theorem execCanLim_keeps {K : Nat} {s0 s : State} {e l d x lo hi} (hK : 8195 ||| K = K) (h : Keeps K s0 s) :
    Answers K s0 (execCanLim e l d x lo hi s) := by
  unfold execCanLim
  refine Answers.ofUnit (State.canIssue_keeps (sub_of rfl hK) h ?_)
  · intro s1 _ _ h2
    refine writes_keeps (sub_of rfl hK) ?_
    exact h2

theorem execCanMac_keeps {K : Nat} {s0 s : State} {e l a x y} (hK : 8195 ||| K = K) (h : Keeps K s0 s) :
    Answers K s0 (execCanMac e l a x y s) := by
  unfold execCanMac
  refine Answers.ofUnit (State.canIssue_keeps (sub_of rfl hK) h ?_)
  · intro s1 _ _ h2
    refine State.putAcc_keeps (sub_of rfl hK) ?_
    exact h2

theorem execCanMacc_keeps {K : Nat} {s0 s : State} {e l a x k} (hK : 8195 ||| K = K) (h : Keeps K s0 s) :
    Answers K s0 (execCanMacc e l a x k s) := by
  unfold execCanMacc
  refine Answers.ofUnit (State.canIssue_keeps (sub_of rfl hK) h ?_)
  · intro s1 _ _ h2
    refine State.putAcc_keeps (sub_of rfl hK) ?_
    exact h2

theorem execCanMax_keeps {K : Nat} {s0 s : State} {e l d x y} (hK : 8195 ||| K = K) (h : Keeps K s0 s) :
    Answers K s0 (execCanMax e l d x y s) := by
  unfold execCanMax
  refine Answers.ofUnit (State.canIssue_keeps (sub_of rfl hK) h ?_)
  · intro s1 _ _ h2
    refine writes_keeps (sub_of rfl hK) ?_
    exact h2

theorem execCanMin_keeps {K : Nat} {s0 s : State} {e l d x y} (hK : 8195 ||| K = K) (h : Keeps K s0 s) :
    Answers K s0 (execCanMin e l d x y s) := by
  unfold execCanMin
  refine Answers.ofUnit (State.canIssue_keeps (sub_of rfl hK) h ?_)
  · intro s1 _ _ h2
    refine writes_keeps (sub_of rfl hK) ?_
    exact h2

theorem execCanMov_keeps {K : Nat} {s0 s : State} {e l d x} (hK : 8195 ||| K = K) (h : Keeps K s0 s) :
    Answers K s0 (execCanMov e l d x s) := by
  unfold execCanMov
  refine Answers.ofUnit (State.canIssue_keeps (sub_of rfl hK) h ?_)
  · intro s1 _ _ h2
    refine writes_keeps (sub_of rfl hK) ?_
    exact h2

theorem execCanMsu_keeps {K : Nat} {s0 s : State} {e l a x y} (hK : 8195 ||| K = K) (h : Keeps K s0 s) :
    Answers K s0 (execCanMsu e l a x y s) := by
  unfold execCanMsu
  refine Answers.ofUnit (State.canIssue_keeps (sub_of rfl hK) h ?_)
  · intro s1 _ _ h2
    refine State.putAcc_keeps (sub_of rfl hK) ?_
    exact h2

theorem execCanMul_keeps {K : Nat} {s0 s : State} {e l a x y} (hK : 8195 ||| K = K) (h : Keeps K s0 s) :
    Answers K s0 (execCanMul e l a x y s) := by
  unfold execCanMul
  refine Answers.ofUnit (State.canIssue_keeps (sub_of rfl hK) h ?_)
  · intro s1 _ _ h2
    refine State.putAcc_keeps (sub_of rfl hK) ?_
    exact h2

theorem execCanMulc_keeps {K : Nat} {s0 s : State} {e l a x k} (hK : 8195 ||| K = K) (h : Keeps K s0 s) :
    Answers K s0 (execCanMulc e l a x k s) := by
  unfold execCanMulc
  refine Answers.ofUnit (State.canIssue_keeps (sub_of rfl hK) h ?_)
  · intro s1 _ _ h2
    refine State.putAcc_keeps (sub_of rfl hK) ?_
    exact h2

theorem execCanNeg_keeps {K : Nat} {s0 s : State} {e l d x} (hK : 8195 ||| K = K) (h : Keeps K s0 s) :
    Answers K s0 (execCanNeg e l d x s) := by
  unfold execCanNeg
  refine Answers.ofUnit (State.canIssue_keeps (sub_of rfl hK) h ?_)
  · intro s1 _ _ h2
    refine writes_keeps (sub_of rfl hK) ?_
    exact h2

theorem execCanNop_keeps {K : Nat} {s0 s : State} {e l} (hK : 8193 ||| K = K) (h : Keeps K s0 s) :
    Answers K s0 (execCanNop e l s) := by
  unfold execCanNop
  refine Answers.ofUnit (State.canIssue_keeps (sub_of rfl hK) h ?_)
  · intro s1 _ _ h2
    exact h2

theorem execCanOutc_keeps {K : Nat} {s0 s : State} {e l k a} (hK : 8193 ||| K = K) (h : Keeps K s0 s) :
    Answers K s0 (execCanOutc e l k a s) := by
  unfold execCanOutc
  refine Answers.ofUnit (State.canIssue_keeps (sub_of rfl hK) h ?_)
  · intro s1 _ _ h2
    refine State.stage_keeps (sub_of rfl hK) ?_
    exact h2

theorem execCanOutd_keeps {K : Nat} {s0 s : State} {e l k x} (hK : 8193 ||| K = K) (h : Keeps K s0 s) :
    Answers K s0 (execCanOutd e l k x s) := by
  unfold execCanOutd
  refine Answers.ofUnit (State.canIssue_keeps (sub_of rfl hK) h ?_)
  · intro s1 _ _ h2
    refine State.stage_keeps (sub_of rfl hK) ?_
    exact h2

theorem execCanPark_keeps {K : Nat} {s0 s : State} {e l d x y th} (hK : 8195 ||| K = K) (h : Keeps K s0 s) :
    Answers K s0 (execCanPark e l d x y th s) := by
  unfold execCanPark
  refine Answers.ofUnit (State.canIssue_keeps (sub_of rfl hK) h ?_)
  · intro s1 _ _ h2
    refine writesPair_keeps (sub_of rfl hK) ?_
    exact h2

theorem execCanPrd_keeps {K : Nat} {s0 s : State} {e l d k} (hK : 8195 ||| K = K) (h : Keeps K s0 s) :
    Answers K s0 (execCanPrd e l d k s) := by
  unfold execCanPrd
  refine Answers.ofUnit (State.canIssue_keeps (sub_of rfl hK) h ?_)
  · intro s1 _ _ h2
    refine writes_keeps (sub_of rfl hK) ?_
    exact h2

theorem execCanSel_keeps {K : Nat} {s0 s : State} {e l} (hK : 9859 ||| K = K) (h : Keeps K s0 s) :
    Answers K s0 (execCanSel e l s) := by
  unfold execCanSel
  refine Answers.ofUnit (State.canIssue_keeps (sub_of rfl hK) h ?_)
  · intro s1 _ _ h2
    split
    · refine State.modSec_keeps (sub_of rfl hK) ?_
      exact h2
    · refine State.modSec_keeps (sub_of rfl hK) ?_
      exact h2
    · refine State.inc_keeps (sub_of rfl hK) ?_
      refine State.miss_keeps (sub_of rfl hK) ?_
      refine State.reach_keeps (sub_of rfl hK) ?_
      refine State.selTail_keeps (sub_of rfl hK) ?_
      exact h2
    · refine State.inc_keeps (sub_of rfl hK) ?_
      refine State.miss_keeps (sub_of rfl hK) ?_
      refine State.reach_keeps (sub_of rfl hK) ?_
      refine State.selTail_keeps (sub_of rfl hK) ?_
      exact h2

theorem execCanSha_keeps {K : Nat} {s0 s : State} {e l a k} (hK : 8323 ||| K = K) (h : Keeps K s0 s) :
    Answers K s0 (execCanSha e l a k s) := by
  unfold execCanSha
  refine Answers.ofUnit (State.canIssue_keeps (sub_of rfl hK) h ?_)
  · intro s1 _ _ h2
    refine Keeps.ite ?_ ?_
    · refine State.putAcc_keeps (sub_of rfl hK) ?_
      exact h2
    · refine Keeps.ite ?_ ?_
      · refine State.putAcc_keeps (sub_of rfl hK) ?_
        exact h2
      · refine State.putAcc_keeps (sub_of rfl hK) ?_
        refine State.drawWord_keeps (sub_of rfl hK) ?_
        exact h2

theorem execCanShf_keeps {K : Nat} {s0 s : State} {e l d x k} (hK : 8195 ||| K = K) (h : Keeps K s0 s) :
    Answers K s0 (execCanShf e l d x k s) := by
  unfold execCanShf
  refine Answers.ofUnit (State.canIssue_keeps (sub_of rfl hK) h ?_)
  · intro s1 _ _ h2
    refine writes_keeps (sub_of rfl hK) ?_
    exact h2

theorem execCanSincos_keeps {K : Nat} {s0 s : State} {e l d x} (hK : 8195 ||| K = K) (h : Keeps K s0 s) :
    Answers K s0 (execCanSincos e l d x s) := by
  unfold execCanSincos
  refine Answers.ofUnit (State.canIssue_keeps (sub_of rfl hK) h ?_)
  · intro s1 _ _ h2
    refine writesPair_keeps (sub_of rfl hK) ?_
    exact h2

theorem execCanSkip_keeps {K : Nat} {s0 s : State} {e l cond r n} (hK : 8193 ||| K = K) (h : Keeps K s0 s) :
    Answers K s0 (execCanSkip e l cond r n s) := by
  unfold execCanSkip
  refine Answers.ofUnit (State.canIssue_keeps (sub_of rfl hK) h ?_)
  · intro s1 _ _ h2
    refine Keeps.ite ?_ ?_
    · refine State.modSec_keeps (sub_of rfl hK) ?_
      exact h2
    · exact h2

theorem execCanSqrt_keeps {K : Nat} {s0 s : State} {e l d x} (hK : 8195 ||| K = K) (h : Keeps K s0 s) :
    Answers K s0 (execCanSqrt e l d x s) := by
  unfold execCanSqrt
  refine Answers.ofUnit (State.canIssue_keeps (sub_of rfl hK) h ?_)
  · intro s1 _ _ h2
    refine writes_keeps (sub_of rfl hK) ?_
    exact h2

theorem execCanSt_keeps {K : Nat} {s0 s : State} {e l d a} (hK : 8195 ||| K = K) (h : Keeps K s0 s) :
    Answers K s0 (execCanSt e l d a s) := by
  unfold execCanSt
  refine Answers.ofUnit (State.canIssue_keeps (sub_of rfl hK) h ?_)
  · intro s1 _ _ h2
    refine State.putSat_keeps (sub_of rfl hK) ?_
    exact h2

theorem execCanSts_keeps {K : Nat} {s0 s : State} {e l d sg} (hK : 8833 ||| K = K) (h : Keeps K s0 s) :
    Answers K s0 (execCanSts e l d sg s) := by
  unfold execCanSts
  refine Answers.ofUnit (State.canIssue_keeps (sub_of rfl hK) h ?_)
  · intro s1 _ _ h2
    refine Keeps.ite ?_ ?_
    · refine State.modLaw_keeps (sub_of rfl hK) ?_
      exact h2
    · refine State.present_keeps (sub_of rfl hK) ?_
      exact h2

theorem execCanSub_keeps {K : Nat} {s0 s : State} {e l d x y} (hK : 8195 ||| K = K) (h : Keeps K s0 s) :
    Answers K s0 (execCanSub e l d x y s) := by
  unfold execCanSub
  refine Answers.ofUnit (State.canIssue_keeps (sub_of rfl hK) h ?_)
  · intro s1 _ _ h2
    refine writes_keeps (sub_of rfl hK) ?_
    exact h2

theorem execCanSuba_keeps {K : Nat} {s0 s : State} {e l a b} (hK : 8195 ||| K = K) (h : Keeps K s0 s) :
    Answers K s0 (execCanSuba e l a b s) := by
  unfold execCanSuba
  refine Answers.ofUnit (State.canIssue_keeps (sub_of rfl hK) h ?_)
  · intro s1 _ _ h2
    refine State.putAcc_keeps (sub_of rfl hK) ?_
    exact h2

theorem execCanSvm_keeps {K : Nat} {s0 s : State} {e l d x y} (hK : 8195 ||| K = K) (h : Keeps K s0 s) :
    Answers K s0 (execCanSvm e l d x y s) := by
  unfold execCanSvm
  refine Answers.ofUnit (State.canIssue_keeps (sub_of rfl hK) h ?_)
  · intro s1 _ _ h2
    refine State.dSet_keeps (sub_of rfl hK) ?_
    refine State.dSet_keeps (sub_of rfl hK) ?_
    refine State.dSet_keeps (sub_of rfl hK) ?_
    exact h2

theorem execCanTlt_keeps {K : Nat} {s0 s : State} {e l d x y t} (hK : 8833 ||| K = K) (h : Keeps K s0 s) :
    Answers K s0 (execCanTlt e l d x y t s) := by
  unfold execCanTlt
  refine Answers.ofUnit (State.canIssue_keeps (sub_of rfl hK) h ?_)
  · intro s1 _ _ h2
    refine State.awaitRegs_keeps (sub_of rfl hK) ?_
    refine State.setSeg_keeps (sub_of rfl hK) ?_
    refine State.modLaw_keeps (sub_of rfl hK) ?_
    refine State.present_keeps (sub_of rfl hK) ?_
    refine State.present_keeps (sub_of rfl hK) ?_
    refine State.present_keeps (sub_of rfl hK) ?_
    refine State.present_keeps (sub_of rfl hK) ?_
    exact h2

theorem execCanTlu_keeps {K : Nat} {s0 s : State} {e l d x t} (hK : 8195 ||| K = K) (h : Keeps K s0 s) :
    Answers K s0 (execCanTlu e l d x t s) := by
  unfold execCanTlu
  refine Answers.ofUnit (State.canIssue_keeps (sub_of rfl hK) h ?_)
  · intro s1 _ _ h2
    refine State.dSet_keeps (sub_of rfl hK) ?_
    refine State.setSeg_keeps (sub_of rfl hK) ?_
    exact h2

theorem execCanTst_keeps {K : Nat} {s0 s : State} {e l x} (hK : 8193 ||| K = K) (h : Keeps K s0 s) :
    Answers K s0 (execCanTst e l x s) := by
  unfold execCanTst
  refine Answers.ofUnit (State.canIssue_keeps (sub_of rfl hK) h ?_)
  · intro s1 _ _ h2
    refine State.setNZ_keeps (sub_of rfl hK) ?_
    exact h2

theorem execCanUrg_keeps {K : Nat} {s0 s : State} {e l u k} (hK : 9217 ||| K = K) (h : Keeps K s0 s) :
    Answers K s0 (execCanUrg e l u k s) := by
  unfold execCanUrg
  refine Answers.ofUnit (State.canIssue_keeps (sub_of rfl hK) h ?_)
  · intro s1 _ _ h2
    refine State.urgentIssue_keeps (sub_of rfl hK) ?_
    refine State.modSec_keeps (sub_of rfl hK) ?_
    exact h2

/-! ## Charger -/

theorem Answers.onPlane {K : Nat} {s0 s t : State} (h : Keeps K s0 s) (ht : Keeps K s0 t) : Answers K s0 (onPlane s t) :=
  Answers.next (Keeps.ite ht h)

theorem Answers.onCharger {K : Nat} {s0 s t : State} (h : Keeps K s0 s) (ht : Keeps K s0 t) : Answers K s0 (onCharger s t) :=
  Answers.onPlane h (Keeps.ite ht h)

theorem execChargeCvReached_keeps {K : Nat} {s0 s : State} {m v} (hK : 134750726 ||| K = K) (h : Keeps K s0 s) :
    Answers K s0 (execChargeCvReached m v s) := by
  unfold execChargeCvReached
  refine Answers.ofUnit ?_
  refine State.onTeam_keeps ?_ ?_
  · exact h
  · refine Keeps.ite ?_ ?_
    · refine State.setCh_keeps (sub_of rfl hK) ?_
      refine State.modCh_keeps (sub_of rfl hK) ?_
      exact h
    · exact h

theorem execChargeFaultClear_keeps {K : Nat} {s0 s : State} {m} (hK : 134750726 ||| K = K) (h : Keeps K s0 s) :
    Answers K s0 (execChargeFaultClear m s) := by
  unfold execChargeFaultClear
  refine Answers.ofUnit ?_
  refine State.onTeam_keeps ?_ ?_
  · exact h
  · refine Keeps.ite ?_ ?_
    · refine Keeps.ite ?_ ?_
      · refine State.putNat_keeps (sub_of rfl hK) ?_
        refine State.setCh_keeps (sub_of rfl hK) ?_
        refine State.chZero_keeps (sub_of rfl hK) ?_
        exact h
      · refine State.setCh_keeps (sub_of rfl hK) ?_
        refine State.chZero_keeps (sub_of rfl hK) ?_
        exact h
    · exact h

theorem execChargeQualified_keeps {K : Nat} {s0 s : State} {m v} (hK : 134771206 ||| K = K) (h : Keeps K s0 s) :
    Answers K s0 (execChargeQualified m v s) := by
  unfold execChargeQualified
  refine Answers.ofUnit ?_
  refine State.onTeam_keeps ?_ ?_
  · exact h
  · refine Keeps.ite ?_ ?_
    · refine Keeps.ite ?_ ?_
      · refine State.chToFault_keeps (sub_of rfl hK) ?_
        exact h
      · refine State.setCh_keeps (sub_of rfl hK) ?_
        refine State.modCh_keeps (sub_of rfl hK) ?_
        refine Keeps.ite ?_ ?_
        · refine State.isoOn_keeps (sub_of rfl hK) ?_
          exact h
        · exact h
    · exact h

theorem execChargeQualifyTimeout_keeps {K : Nat} {s0 s : State} {m v} (hK : 134767111 ||| K = K) (h : Keeps K s0 s) :
    Answers K s0 (execChargeQualifyTimeout m v s) := by
  unfold execChargeQualifyTimeout
  refine Answers.ofUnit ?_
  refine State.onTeam_keeps ?_ ?_
  · exact h
  · refine Keeps.ite ?_ ?_
    · refine Keeps.ite ?_ ?_
      · refine State.chToFault_keeps (sub_of rfl hK) ?_
        refine State.reach_keeps (sub_of rfl hK) ?_
        exact h
      · refine Keeps.ite ?_ ?_
        · refine State.chToFault_keeps (sub_of rfl hK) ?_
          refine State.reach_keeps (sub_of rfl hK) ?_
          exact h
        · exact h
    · exact h

theorem execChargeRecharge_keeps {K : Nat} {s0 s : State} {m v ms} (hK : 134750726 ||| K = K) (h : Keeps K s0 s) :
    Answers K s0 (execChargeRecharge m v ms s) := by
  unfold execChargeRecharge
  refine Answers.ofUnit ?_
  refine State.onTeam_keeps ?_ ?_
  · exact h
  · refine Keeps.ite ?_ ?_
    · refine State.setCh_keeps (sub_of rfl hK) ?_
      exact h
    · exact h

theorem execChargeRequest_keeps {K : Nat} {s0 s : State} {m} (hK : 134750726 ||| K = K) (h : Keeps K s0 s) :
    Answers K s0 (execChargeRequest m s) := by
  unfold execChargeRequest
  refine Answers.ofUnit ?_
  refine State.onTeam_keeps ?_ ?_
  · exact h
  · refine Keeps.ite ?_ ?_
    · refine Keeps.ite ?_ ?_
      · refine State.setCh_keeps (sub_of rfl hK) ?_
        exact h
      · exact h
    · refine Keeps.ite ?_ ?_
      · refine State.setCh_keeps (sub_of rfl hK) ?_
        exact h
      · exact h

theorem execChargeSourceHold_keeps {K : Nat} {s0 s : State} (hK : 1208508934 ||| K = K) (h : Keeps K s0 s) :
    Answers K s0 (execChargeSourceHold s) := by
  unfold execChargeSourceHold
  refine Answers.onCharger h ?_
  refine Keeps.ite ?_ ?_
  · refine State.setCh_keeps (sub_of rfl hK) ?_
    refine State.isoOff_keeps (sub_of rfl hK) ?_
    refine State.clearTrips_keeps (sub_of rfl hK) ?_
    refine State.isoOff_keeps (sub_of rfl hK) ?_
    refine State.chZero_keeps (sub_of rfl hK) ?_
    refine Keeps.set_chs (sub_of rfl hK) ?_
    exact h
  · exact h

theorem execChargeSourceHoldEnd_keeps {K : Nat} {s0 s : State} (hK : 134767110 ||| K = K) (h : Keeps K s0 s) :
    Answers K s0 (execChargeSourceHoldEnd s) := by
  unfold execChargeSourceHoldEnd
  refine Answers.onCharger h ?_
  refine Keeps.ite ?_ ?_
  · refine State.setCh_keeps (sub_of rfl hK) ?_
    refine State.isoOff_keeps (sub_of rfl hK) ?_
    refine State.clearTrips_keeps (sub_of rfl hK) ?_
    exact h
  · exact h

theorem execChargeSourceLost_keeps {K : Nat} {s0 s : State} {m} (hK : 134750726 ||| K = K) (h : Keeps K s0 s) :
    Answers K s0 (execChargeSourceLost m s) := by
  unfold execChargeSourceLost
  refine Answers.ofUnit ?_
  refine State.onTeam_keeps ?_ ?_
  · exact h
  · refine Keeps.ite ?_ ?_
    · refine State.setCh_keeps (sub_of rfl hK) ?_
      refine State.chZero_keeps (sub_of rfl hK) ?_
      exact h
    · exact h

theorem execChargeStop_keeps {K : Nat} {s0 s : State} (hK : 134750726 ||| K = K) (h : Keeps K s0 s) :
    Answers K s0 (execChargeStop s) := by
  unfold execChargeStop
  refine Answers.onCharger h ?_
  refine Keeps.ite ?_ ?_
  · refine State.setCh_keeps (sub_of rfl hK) ?_
    refine State.chZero_keeps (sub_of rfl hK) ?_
    exact h
  · exact h

theorem execChargeTermination_keeps {K : Nat} {s0 s : State} {m} (hK : 134750855 ||| K = K) (h : Keeps K s0 s) :
    Answers K s0 (execChargeTermination m s) := by
  unfold execChargeTermination
  refine Answers.ofUnit ?_
  refine State.onTeam_keeps ?_ ?_
  · exact h
  · split
    · exact h
    · refine State.modCh_keeps (sub_of rfl hK) ?_
      refine State.freeFloor_keeps (sub_of rfl hK) ?_
      refine State.setCh_keeps (sub_of rfl hK) ?_
      refine State.reach_keeps (sub_of rfl hK) ?_
      exact h

theorem execChargeTerminationStart_keeps {K : Nat} {s0 s : State} {m i_} (hK : 134217728 ||| K = K) (h : Keeps K s0 s) :
    Answers K s0 (execChargeTerminationStart m i_ s) := by
  unfold execChargeTerminationStart
  refine Answers.ofUnit ?_
  refine State.onTeam_keeps ?_ ?_
  · exact h
  · refine Keeps.ite ?_ ?_
    · refine Keeps.ite ?_ ?_
      · refine Keeps.ite ?_ ?_
        · refine State.modCh_keeps (sub_of rfl hK) ?_
          exact h
        · exact h
      · refine Keeps.ite ?_ ?_
        · refine State.modCh_keeps (sub_of rfl hK) ?_
          exact h
        · exact h
    · exact h

theorem execChargeTopoffEnd_keeps {K : Nat} {s0 s : State} {m} (hK : 134750727 ||| K = K) (h : Keeps K s0 s) :
    Answers K s0 (execChargeTopoffEnd m s) := by
  unfold execChargeTopoffEnd
  refine Answers.ofUnit ?_
  refine State.onTeam_keeps ?_ ?_
  · exact h
  · refine Keeps.ite ?_ ?_
    · refine State.setCh_keeps (sub_of rfl hK) ?_
      refine State.chZero_keeps (sub_of rfl hK) ?_
      refine State.reach_keeps (sub_of rfl hK) ?_
      exact h
    · exact h

theorem execDclMeasSample_keeps {K : Nat} {s0 s : State} {dcl chl} (hK : 2204400247559 ||| K = K) (h : Keeps K s0 s) :
    Answers K s0 (execDclMeasSample dcl chl s) := by
  unfold execDclMeasSample
  refine Answers.next ?_
  refine Keeps.ite ?_ ?_
  · refine State.chsLink_keeps (sub_of rfl hK) ?_
    refine Keeps.ite ?_ ?_
    · refine State.setf_keeps (sub_of rfl hK) ?_
      refine Keeps.set_chs (sub_of rfl hK) ?_
      refine State.reach_keeps (sub_of rfl hK) ?_
      exact h
    · refine State.setf_keeps (sub_of rfl hK) ?_
      refine State.setf_keeps (sub_of rfl hK) ?_
      refine Keeps.set_chs (sub_of rfl hK) ?_
      refine State.reach_keeps (sub_of rfl hK) ?_
      exact h
  · refine Keeps.set_chs (sub_of rfl hK) ?_
    refine State.reach_keeps (sub_of rfl hK) ?_
    exact h

theorem execHandoverEnd_keeps {K : Nat} {s0 s : State} {us} (hK : 67641860 ||| K = K) (h : Keeps K s0 s) :
    Answers K s0 (execHandoverEnd us s) := by
  unfold execHandoverEnd
  refine Answers.onCharger h ?_
  refine Keeps.ite ?_ ?_
  · refine State.handoverEnd_keeps (sub_of rfl hK) ?_
    exact h
  · exact h

theorem execHandoverTimeout_keeps {K : Nat} {s0 s : State} (hK : 201875975 ||| K = K) (h : Keeps K s0 s) :
    Answers K s0 (execHandoverTimeout s) := by
  unfold execHandoverTimeout
  refine Answers.onCharger h ?_
  refine Keeps.ite ?_ ?_
  · refine State.handoverEnd_keeps (sub_of rfl hK) ?_
    refine State.chToFault_keeps (sub_of rfl hK) ?_
    refine State.reach_keeps (sub_of rfl hK) ?_
    exact h
  · exact h

theorem execInletCableDetected_keeps {K : Nat} {s0 s : State} {ohm} (hK : 67641988 ||| K = K) (h : Keeps K s0 s) :
    Answers K s0 (execInletCableDetected ohm s) := by
  unfold execInletCableDetected
  refine Answers.onCharger h ?_
  refine Keeps.ite ?_ ?_
  · refine Keeps.ite ?_ ?_
    · refine State.setInlet_keeps (sub_of rfl hK) ?_
      refine State.putPp_keeps (sub_of rfl hK) ?_
      exact h
    · refine State.putPp_keeps (sub_of rfl hK) ?_
      exact h
  · exact h

theorem execInletCableRemoved_keeps {K : Nat} {s0 s : State} {ohm} (hK : 67658374 ||| K = K) (h : Keeps K s0 s) :
    Answers K s0 (execInletCableRemoved ohm s) := by
  unfold execInletCableRemoved
  refine Answers.onCharger h ?_
  refine Keeps.ite ?_ ?_
  · exact h
  · refine Keeps.ite ?_ ?_
    · refine State.sourceLoss_keeps (sub_of rfl hK) ?_
      refine State.putPp_keeps (sub_of rfl hK) ?_
      exact h
    · refine Keeps.ite ?_ ?_
      · refine State.setInlet_keeps (sub_of rfl hK) ?_
        refine State.s2Open_keeps (sub_of rfl hK) ?_
        refine State.putPp_keeps (sub_of rfl hK) ?_
        exact h
      · refine State.putPp_keeps (sub_of rfl hK) ?_
        exact h

theorem execInletEnergize_keeps {K : Nat} {s0 s : State} (hK : 67641862 ||| K = K) (h : Keeps K s0 s) :
    Answers K s0 (execInletEnergize s) := by
  unfold execInletEnergize
  refine Answers.onCharger h ?_
  refine Keeps.ite ?_ ?_
  · refine State.modInlet_keeps (sub_of rfl hK) ?_
    refine State.setInlet_keeps (sub_of rfl hK) ?_
    refine State.setf_keeps (sub_of rfl hK) ?_
    refine State.setf_keeps (sub_of rfl hK) ?_
    exact h
  · exact h

theorem execInletEnergizeTimeout_keeps {K : Nat} {s0 s : State} {invalid} (hK : 67641863 ||| K = K) (h : Keeps K s0 s) :
    Answers K s0 (execInletEnergizeTimeout invalid s) := by
  unfold execInletEnergizeTimeout
  refine Answers.onCharger h ?_
  refine Keeps.ite ?_ ?_
  · refine State.setInlet_keeps (sub_of rfl hK) ?_
    refine State.s2Open_keeps (sub_of rfl hK) ?_
    refine Keeps.ite ?_ ?_
    · refine State.putNat_keeps (sub_of rfl hK) ?_
      exact h
    · refine State.reach_keeps (sub_of rfl hK) ?_
      exact h
  · exact h

theorem execInletModeLeft_keeps {K : Nat} {s0 s : State} (hK : 67658246 ||| K = K) (h : Keeps K s0 s) :
    Answers K s0 (execInletModeLeft s) := by
  unfold execInletModeLeft
  refine Answers.onCharger h ?_
  refine Keeps.ite ?_ ?_
  · exact h
  · refine Keeps.ite ?_ ?_
    · refine State.setInlet_keeps (sub_of rfl hK) ?_
      refine State.isoOff_keeps (sub_of rfl hK) ?_
      refine State.pfcOff_keeps (sub_of rfl hK) ?_
      refine State.s2Open_keeps (sub_of rfl hK) ?_
      exact h
    · refine Keeps.ite ?_ ?_
      · refine State.s2Open_keeps (sub_of rfl hK) ?_
        exact h
      · exact h

theorem execInletPhasesValid_keeps {K : Nat} {s0 s : State} {v1 v2 v3 f a2 a3 ms} (hK : 201880198 ||| K = K) (h : Keeps K s0 s) :
    Answers K s0 (execInletPhasesValid v1 v2 v3 f a2 a3 ms s) := by
  unfold execInletPhasesValid
  refine Answers.onCharger h ?_
  refine Keeps.ite ?_ ?_
  · refine Keeps.ite ?_ ?_
    · refine State.chToFault_keeps (sub_of rfl hK) ?_
      refine State.putGrid_keeps (sub_of rfl hK) ?_
      refine State.putNat_keeps (sub_of rfl hK) ?_
      exact h
    · refine State.setInlet_keeps (sub_of rfl hK) ?_
      refine State.pfcOn_keeps (sub_of rfl hK) ?_
      refine State.refreshLimit_keeps (sub_of rfl hK) ?_
      refine State.putGrid_keeps (sub_of rfl hK) ?_
      refine State.putNat_keeps (sub_of rfl hK) ?_
      exact h
  · exact h

theorem execInletReadyLost_keeps {K : Nat} {s0 s : State} {ms} (hK : 67641860 ||| K = K) (h : Keeps K s0 s) :
    Answers K s0 (execInletReadyLost ms s) := by
  unfold execInletReadyLost
  refine Answers.onCharger h ?_
  refine Keeps.ite ?_ ?_
  · refine State.setInlet_keeps (sub_of rfl hK) ?_
    exact h
  · exact h

theorem execInletSourceLoss_keeps {K : Nat} {s0 s : State} {ms} (hK : 67658246 ||| K = K) (h : Keeps K s0 s) :
    Answers K s0 (execInletSourceLoss ms s) := by
  unfold execInletSourceLoss
  refine Answers.onCharger h ?_
  refine Keeps.ite ?_ ?_
  · refine State.sourceLoss_keeps (sub_of rfl hK) ?_
    refine Keeps.ite ?_ ?_
    · refine State.putNat_keeps (sub_of rfl hK) ?_
      exact h
    · exact h
  · refine Keeps.ite ?_ ?_
    · refine State.putNat_keeps (sub_of rfl hK) ?_
      exact h
    · exact h

theorem execInletSourceQualified_keeps {K : Nat} {s0 s : State} {ms} (hK : 67641988 ||| K = K) (h : Keeps K s0 s) :
    Answers K s0 (execInletSourceQualified ms s) := by
  unfold execInletSourceQualified
  refine Answers.onCharger h ?_
  refine Keeps.ite ?_ ?_
  · refine State.setInlet_keeps (sub_of rfl hK) ?_
    refine State.refreshLimit_keeps (sub_of rfl hK) ?_
    refine Keeps.ite ?_ ?_
    · exact h
    · refine State.modInlet_keeps (sub_of rfl hK) ?_
      refine State.putNat_keeps (sub_of rfl hK) ?_
      exact h
  · exact h

theorem execLockoutEnd_keeps {K : Nat} {s0 s : State} (hK : 67641861 ||| K = K) (h : Keeps K s0 s) :
    Answers K s0 (execLockoutEnd s) := by
  unfold execLockoutEnd
  refine Answers.onCharger h ?_
  refine Keeps.ite ?_ ?_
  · refine State.setInlet_keeps (sub_of rfl hK) ?_
    refine Keeps.ite ?_ ?_
    · refine State.putNat_keeps (sub_of rfl hK) ?_
      refine State.reach_keeps (sub_of rfl hK) ?_
      exact h
    · refine State.reach_keeps (sub_of rfl hK) ?_
      exact h
  · exact h

theorem execMpptStep_keeps {K : Nat} {s0 s : State} (hK : 537404037 ||| K = K) (h : Keeps K s0 s) :
    Answers K s0 (execMpptStep s) := by
  unfold execMpptStep
  refine Answers.onCharger h ?_
  refine Keeps.ite ?_ ?_
  · refine Keeps.ite ?_ ?_
    · refine State.solPublish_keeps (sub_of rfl hK) ?_
      refine Keeps.ite ?_ ?_
      · refine State.setSol_keeps (sub_of rfl hK) ?_
        refine State.modSolar_keeps (sub_of rfl hK) ?_
        refine State.reach_keeps (sub_of rfl hK) ?_
        exact h
      · refine State.modSolar_keeps (sub_of rfl hK) ?_
        refine State.reach_keeps (sub_of rfl hK) ?_
        exact h
    · refine State.solPublish_keeps (sub_of rfl hK) ?_
      refine State.modSolar_keeps (sub_of rfl hK) ?_
      refine State.reach_keeps (sub_of rfl hK) ?_
      exact h
  · exact h

theorem execPilotPeriodCapture_keeps {K : Nat} {s0 s : State} {per high glitches} (hK : 67108866 ||| K = K) (h : Keeps K s0 s) :
    Answers K s0 (execPilotPeriodCapture per high glitches s) := by
  unfold execPilotPeriodCapture
  refine Answers.onPlane h ?_
  refine Keeps.ite ?_ ?_
  · refine State.modInlet_keeps (sub_of rfl hK) ?_
    refine State.setf_keeps (sub_of rfl hK) ?_
    refine State.incBy_keeps (sub_of rfl hK) ?_
    refine State.setf_keeps (sub_of rfl hK) ?_
    refine State.setf_keeps (sub_of rfl hK) ?_
    exact h
  · exact h

theorem execPilotStateDecode_keeps {K : Nat} {s0 s : State} {pos neg held} (hK : 533126 ||| K = K) (h : Keeps K s0 s) :
    Answers K s0 (execPilotStateDecode pos neg held s) := by
  unfold execPilotStateDecode
  refine Answers.onCharger h (Keeps.ite h ?_)
  dsimp only
  have h1 : Keeps K s0 s.oscRefresh := State.oscRefresh_keeps (sub_of rfl hK) h
  generalize s.oscRefresh = s1 at h1 ⊢
  refine Keeps.ite h1 ?_
  have h2 : Keeps K s0 s1.allowance.2 := State.allowance_keeps (sub_of rfl hK) h1
  generalize s1.allowance = p at h2 ⊢
  obtain ⟨⟨a, bad⟩, s2⟩ := p
  dsimp only at h2 ⊢
  refine State.refreshLimit_keeps (sub_of rfl hK) (State.putInt_keeps (sub_of rfl hK) (State.putInt_keeps (sub_of rfl hK) (State.putNat_keeps (sub_of rfl hK) ?_)))
  split
  · exact State.freeFloor_keeps (sub_of rfl hK) h2
  · exact h2

theorem execPresenceTestEnd_keeps {K : Nat} {s0 s : State} {i_ collapse} (hK : 134750727 ||| K = K) (h : Keeps K s0 s) :
    Answers K s0 (execPresenceTestEnd i_ collapse s) := by
  unfold execPresenceTestEnd
  refine Answers.next ?_
  refine State.onTeam_keeps ?_ ?_
  · exact h
  · try dsimp only
    split
    · refine Keeps.ite ?_ ?_
      · refine State.modCh_keeps (sub_of rfl hK) ?_
        refine State.setCh_keeps (sub_of rfl hK) ?_
        exact h
      · exact h
    · refine Keeps.ite ?_ ?_
      · refine Keeps.ite ?_ ?_
        · refine State.setCh_keeps (sub_of rfl hK) ?_
          refine State.modCh_keeps (sub_of rfl hK) ?_
          refine State.reach_keeps (sub_of rfl hK) ?_
          exact h
        · refine State.modCh_keeps (sub_of rfl hK) ?_
          refine State.reach_keeps (sub_of rfl hK) ?_
          exact h
      · refine State.modCh_keeps (sub_of rfl hK) ?_
        refine State.setCh_keeps (sub_of rfl hK) ?_
        refine State.reach_keeps (sub_of rfl hK) ?_
        exact h

theorem execPresenceTestStart_keeps {K : Nat} {s0 s : State} {i_} (hK : 134217729 ||| K = K) (h : Keeps K s0 s) :
    Answers K s0 (execPresenceTestStart i_ s) := by
  unfold execPresenceTestStart
  refine Answers.next ?_
  refine State.onTeam_keeps ?_ ?_
  · exact h
  · refine Keeps.ite ?_ ?_
    · exact h
    · refine Keeps.ite ?_ ?_
      · refine State.modCh_keeps (sub_of rfl hK) ?_
        exact h
      · refine Keeps.ite ?_ ?_
        · refine State.modCh_keeps (sub_of rfl hK) ?_
          refine State.reach_keeps (sub_of rfl hK) ?_
          exact h
        · exact h

theorem execReverseTransferStart_keeps {K : Nat} {s0 s : State} {ms} (hK : 2684383746 ||| K = K) (h : Keeps K s0 s) :
    Answers K s0 (execReverseTransferStart ms s) := by
  unfold execReverseTransferStart
  refine Answers.onCharger h ?_
  refine Keeps.ite ?_ ?_
  · refine State.modSolar_keeps (sub_of rfl hK) ?_
    refine State.dcxBackward_keeps (sub_of rfl hK) ?_
    exact h
  · exact h

theorem execReverseTransferStop_keeps {K : Nat} {s0 s : State} {ms} (hK : 536896002 ||| K = K) (h : Keeps K s0 s) :
    Answers K s0 (execReverseTransferStop ms s) := by
  unfold execReverseTransferStop
  refine Answers.onCharger h ?_
  refine Keeps.ite ?_ ?_
  · refine State.modSolar_keeps (sub_of rfl hK) ?_
    refine State.dcxOff_keeps (sub_of rfl hK) ?_
    exact h
  · exact h

theorem execSolarCurtail_keeps {K : Nat} {s0 s : State} (hK : 532996 ||| K = K) (h : Keeps K s0 s) :
    Answers K s0 (execSolarCurtail s) := by
  unfold execSolarCurtail
  refine Answers.onCharger h ?_
  refine Keeps.ite ?_ ?_
  · refine State.setSol_keeps (sub_of rfl hK) ?_
    exact h
  · exact h

theorem execSolarOpenCircuitMeasure_keeps {K : Nat} {s0 s : State} (hK : 671642247 ||| K = K) (h : Keeps K s0 s) :
    Answers K s0 (execSolarOpenCircuitMeasure s) := by
  unfold execSolarOpenCircuitMeasure
  refine Answers.onCharger h ?_
  split
  · exact h
  · refine Keeps.ite ?_ ?_
    · refine State.chToFault_keeps (sub_of rfl hK) ?_
      refine State.setSol_keeps (sub_of rfl hK) ?_
      refine State.modSolar_keeps (sub_of rfl hK) ?_
      refine State.reach_keeps (sub_of rfl hK) ?_
      exact h
    · refine Keeps.ite ?_ ?_
      · refine State.solPublish_keeps (sub_of rfl hK) ?_
        refine State.boostOn_keeps (sub_of rfl hK) ?_
        refine State.modSolar_keeps (sub_of rfl hK) ?_
        refine State.modSolar_keeps (sub_of rfl hK) ?_
        refine State.reach_keeps (sub_of rfl hK) ?_
        exact h
      · refine State.solPublish_keeps (sub_of rfl hK) ?_
        refine State.setSol_keeps (sub_of rfl hK) ?_
        refine State.boostOn_keeps (sub_of rfl hK) ?_
        refine State.modSolar_keeps (sub_of rfl hK) ?_
        refine State.drawWord_keeps (sub_of rfl hK) ?_
        refine State.modSolar_keeps (sub_of rfl hK) ?_
        refine State.reach_keeps (sub_of rfl hK) ?_
        exact h

theorem execSolarScanStart_keeps {K : Nat} {s0 s : State} (hK : 537420295 ||| K = K) (h : Keeps K s0 s) :
    Answers K s0 (execSolarScanStart s) := by
  unfold execSolarScanStart
  refine Answers.onCharger h ?_
  refine Keeps.ite ?_ ?_
  · refine State.modSolar_keeps (sub_of rfl hK) ?_
    refine State.setSol_keeps (sub_of rfl hK) ?_
    refine State.boostOff_keeps (sub_of rfl hK) ?_
    refine State.reach_keeps (sub_of rfl hK) ?_
    exact h
  · exact h

theorem execSolarScanStep_keeps {K : Nat} {s0 s : State} (hK : 537404037 ||| K = K) (h : Keeps K s0 s) :
    Answers K s0 (execSolarScanStep s) := by
  unfold execSolarScanStep
  refine Answers.onCharger h ?_
  refine Keeps.ite ?_ ?_
  · refine Keeps.ite ?_ ?_
    · refine State.solPublish_keeps (sub_of rfl hK) ?_
      refine State.modSolar_keeps (sub_of rfl hK) ?_
      refine State.reach_keeps (sub_of rfl hK) ?_
      exact h
    · refine State.solPublish_keeps (sub_of rfl hK) ?_
      refine State.setSol_keeps (sub_of rfl hK) ?_
      refine State.modSolar_keeps (sub_of rfl hK) ?_
      refine State.reach_keeps (sub_of rfl hK) ?_
      exact h
  · exact h

theorem execSolarStart_keeps {K : Nat} {s0 s : State} {ms} (hK : 537403908 ||| K = K) (h : Keeps K s0 s) :
    Answers K s0 (execSolarStart ms s) := by
  unfold execSolarStart
  refine Answers.onCharger h ?_
  refine Keeps.ite ?_ ?_
  · refine State.modSolar_keeps (sub_of rfl hK) ?_
    refine State.setSol_keeps (sub_of rfl hK) ?_
    exact h
  · exact h

theorem execSolarStop_keeps {K : Nat} {s0 s : State} {ms} (hK : 537420294 ||| K = K) (h : Keeps K s0 s) :
    Answers K s0 (execSolarStop ms s) := by
  unfold execSolarStop
  refine Answers.onCharger h ?_
  refine Keeps.ite ?_ ?_
  · refine State.modSolar_keeps (sub_of rfl hK) ?_
    refine State.setSol_keeps (sub_of rfl hK) ?_
    refine State.boostOff_keeps (sub_of rfl hK) ?_
    exact h
  · exact h

theorem execSrcFaultRecover_keeps {K : Nat} {s0 s : State} (hK : 67641862 ||| K = K) (h : Keeps K s0 s) :
    Answers K s0 (execSrcFaultRecover s) := by
  unfold execSrcFaultRecover
  refine Answers.onCharger h ?_
  refine Keeps.ite ?_ ?_
  · refine Keeps.ite ?_ ?_
    · refine State.setInlet_keeps (sub_of rfl hK) ?_
      refine State.s2Open_keeps (sub_of rfl hK) ?_
      exact h
    · refine Keeps.ite ?_ ?_
      · refine State.setInlet_keeps (sub_of rfl hK) ?_
        exact h
      · exact h
  · exact h

theorem execStationProbeSeen_keeps {K : Nat} {s0 s : State} {ms} (hK : 67108864 ||| K = K) (h : Keeps K s0 s) :
    Answers K s0 (execStationProbeSeen ms s) := by
  unfold execStationProbeSeen
  refine Answers.onCharger h ?_
  refine Keeps.ite ?_ ?_
  · refine State.modInlet_keeps (sub_of rfl hK) ?_
    exact h
  · exact h

theorem execStationStateReaction_keeps {K : Nat} {s0 s : State} {pos neg periods ms} (hK : 403206790 ||| K = K) (h : Keeps K s0 s) :
    Answers K s0 (execStationStateReaction pos neg periods ms s) := by
  unfold execStationStateReaction
  refine Answers.onCharger h ?_
  refine Keeps.ite ?_ ?_
  · exact h
  · refine Keeps.ite ?_ ?_
    · refine State.modSupply_keeps (sub_of rfl hK) ?_
      refine State.cmpWrite_keeps (sub_of rfl hK) ?_
      refine Keeps.ite ?_ ?_
      · refine State.supplyOff_keeps (sub_of rfl hK) ?_
        refine State.putNat_keeps (sub_of rfl hK) ?_
        exact h
      · refine State.putNat_keeps (sub_of rfl hK) ?_
        exact h
    · refine Keeps.ite ?_ ?_
      · refine Keeps.ite ?_ ?_
        · refine State.supplyOn_keeps (sub_of rfl hK) ?_
          refine State.advertise_keeps (sub_of rfl hK) ?_
          refine State.putNat_keeps (sub_of rfl hK) ?_
          exact h
        · refine State.advertise_keeps (sub_of rfl hK) ?_
          refine State.putNat_keeps (sub_of rfl hK) ?_
          exact h
      · refine Keeps.ite ?_ ?_
        · refine State.advertise_keeps (sub_of rfl hK) ?_
          refine Keeps.ite ?_ ?_
          · refine State.supplyOff_keeps (sub_of rfl hK) ?_
            refine State.putNat_keeps (sub_of rfl hK) ?_
            exact h
          · refine State.putNat_keeps (sub_of rfl hK) ?_
            exact h
        · refine State.modSupply_keeps (sub_of rfl hK) ?_
          refine State.cmpWrite_keeps (sub_of rfl hK) ?_
          refine State.supplyOff_keeps (sub_of rfl hK) ?_
          refine State.putNat_keeps (sub_of rfl hK) ?_
          exact h

theorem execSupplyCableRemoved_keeps {K : Nat} {s0 s : State} {ohm} (hK : 268984966 ||| K = K) (h : Keeps K s0 s) :
    Answers K s0 (execSupplyCableRemoved ohm s) := by
  unfold execSupplyCableRemoved
  refine Answers.onCharger h ?_
  refine Keeps.ite ?_ ?_
  · exact h
  · refine Keeps.ite ?_ ?_
    · refine State.supplyOff_keeps (sub_of rfl hK) ?_
      refine State.putPp_keeps (sub_of rfl hK) ?_
      exact h
    · refine State.putPp_keeps (sub_of rfl hK) ?_
      exact h

theorem execSupplyEnergize_keeps {K : Nat} {s0 s : State} (hK : 403206663 ||| K = K) (h : Keeps K s0 s) :
    Answers K s0 (execSupplyEnergize s) := by
  unfold execSupplyEnergize
  refine Answers.onCharger h ?_
  refine Keeps.ite ?_ ?_
  · refine State.supplyOn_keeps (sub_of rfl hK) ?_
    refine State.reach_keeps (sub_of rfl hK) ?_
    exact h
  · exact h

theorem execSupplyFault_keeps {K : Nat} {s0 s : State} {ms} (hK : 268984838 ||| K = K) (h : Keeps K s0 s) :
    Answers K s0 (execSupplyFault ms s) := by
  unfold execSupplyFault
  refine Answers.onCharger h ?_
  refine Keeps.ite ?_ ?_
  · refine State.supplyOff_keeps (sub_of rfl hK) ?_
    exact h
  · exact h

theorem execWeakSource_keeps {K : Nat} {s0 s : State} {v0 v i_ df} (hK : 533124 ||| K = K) (h : Keeps K s0 s) :
    Answers K s0 (execWeakSource v0 v i_ df s) := by
  unfold execWeakSource
  refine Answers.onCharger h ?_
  refine Keeps.ite ?_ ?_
  · refine State.refreshLimit_keeps (sub_of rfl hK) ?_
    refine State.putNat_keeps (sub_of rfl hK) ?_
    exact h
  · exact h

end Sys2Proof.Machine
end

