-- ==== Sys2Proof/Laws/KeepsMartingale.lean ====
section
/-! SUPPORT. What each operation and each command of Machine/Clocks.lean, Machine/Drives.lean, Machine/Keeper.lean, Machine/Lv.lean, Machine/Martingale.lean keeps. -/

set_option linter.unusedVariables false
set_option linter.unusedTactic false
set_option linter.unreachableTactic false

namespace Sys2Proof.Machine

/-! ## Clocks -/

theorem execBoscTrimMeasure_keeps {K : Nat} {s0 s : State} {cnt} (hK : 1099512676355 ||| K = K) (h : Keeps K s0 s) :
    Answers K s0 (execBoscTrimMeasure cnt s) := by
  unfold execBoscTrimMeasure
  refine Answers.next ?_
  refine Keeps.ite ?_ ?_
  · exact h
  · refine Keeps.ite ?_ ?_
    · refine State.report_keeps (sub_of rfl hK) ?_
      refine State.setf_keeps (sub_of rfl hK) ?_
      refine State.setf_keeps (sub_of rfl hK) ?_
      refine State.setf_keeps (sub_of rfl hK) ?_
      refine State.modClk_keeps (sub_of rfl hK) ?_
      split
      · refine State.reachRtc_keeps (sub_of rfl hK) ?_
        exact h
      · exact h
    · refine State.setf_keeps (sub_of rfl hK) ?_
      refine State.setf_keeps (sub_of rfl hK) ?_
      refine State.modClk_keeps (sub_of rfl hK) ?_
      split
      · refine State.reachRtc_keeps (sub_of rfl hK) ?_
        exact h
      · exact h

theorem execClockDividerWrite_keeps {K : Nat} {s0 s : State} {core second v} (hK : 1099511628162 ||| K = K) (h : Keeps K s0 s) :
    Answers K s0 (execClockDividerWrite core second v s) := by
  unfold execClockDividerWrite
  refine Answers.ofUnit ?_
  refine State.byCore_keeps (sub_of rfl hK) ?_ ?_
  · exact h
  · intro s1 h2
    refine Keeps.ite ?_ ?_
    · refine State.clkErr_keeps (sub_of rfl hK) ?_
      exact h2
    · refine State.startRamps_keeps (sub_of rfl hK) ?_
      refine State.wrReg_keeps (sub_of rfl hK) ?_
      exact h2

theorem execClockGateWrite_keeps {K : Nat} {s0 s : State} {core k v} (hK : 386 ||| K = K) (h : Keeps K s0 s) :
    Answers K s0 (execClockGateWrite core k v s) := by
  unfold execClockGateWrite
  refine Answers.ofUnit ?_
  refine State.byCore_keeps (sub_of rfl hK) ?_ ?_
  · exact h
  · intro s1 h2
    refine Keeps.ite ?_ ?_
    · refine State.clkErr_keeps (sub_of rfl hK) ?_
      exact h2
    · refine State.wrReg_keeps (sub_of rfl hK) ?_
      exact h2

theorem execClockRampStep_keeps {K : Nat} {s0 s : State} (hK : 9895622475779 ||| K = K) (h : Keeps K s0 s) :
    Answers K s0 (execClockRampStep s) := by
  unfold execClockRampStep
  refine Answers.next ?_
  split
  · refine Keeps.ite ?_ ?_
    · refine State.scaleStep_keeps (sub_of rfl hK) ?_
      refine State.reach_keeps (sub_of rfl hK) ?_
      exact h
    · exact h
  · exact h

theorem execDividerRampStep_keeps {K : Nat} {s0 s : State} {i_} (hK : 9895621427201 ||| K = K) (h : Keeps K s0 s) :
    Answers K s0 (execDividerRampStep i_ s) := by
  unfold execDividerRampStep
  refine Answers.ofUnit ?_
  split
  · exact h
  · refine Keeps.ite ?_ ?_
    · refine State.keepRtc_keeps (sub_of rfl hK) ?_ ?_
      · refine State.reach_keeps (sub_of rfl hK) ?_
        exact h
      · intro s1 h2
        refine State.modClk_keeps (sub_of rfl hK) ?_
        exact h2
    · refine State.modClk_keeps (sub_of rfl hK) ?_
      refine State.keepRtc_keeps (sub_of rfl hK) ?_ ?_
      · refine State.reach_keeps (sub_of rfl hK) ?_
        exact h
      · intro s3 h4
        refine State.modClk_keeps (sub_of rfl hK) ?_
        exact h4

theorem execPllLock_keeps {K : Nat} {s0 s : State} (hK : 1099511627778 ||| K = K) (h : Keeps K s0 s) :
    Answers K s0 (execPllLock s) := by
  unfold execPllLock
  refine Answers.next ?_
  refine Keeps.ite ?_ ?_
  · refine State.modClk_keeps (sub_of rfl hK) ?_
    refine State.setClkSeq_keeps (sub_of rfl hK) ?_
    refine State.inc_keeps (sub_of rfl hK) ?_
    refine State.setf_keeps (sub_of rfl hK) ?_
    exact h
  · refine Keeps.ite ?_ ?_
    · refine State.setf_keeps (sub_of rfl hK) ?_
      exact h
    · exact h

theorem execReferenceLoss_keeps {K : Nat} {s0 s : State} {unlocked} (hK : 9895622475778 ||| K = K) (h : Keeps K s0 s) :
    Answers K s0 (execReferenceLoss unlocked s) := by
  unfold execReferenceLoss
  refine Answers.next ?_
  refine Keeps.ite ?_ ?_
  · exact h
  · refine Keeps.ite ?_ ?_
    · refine State.setf_keeps (sub_of rfl hK) ?_
      refine State.inc_keeps (sub_of rfl hK) ?_
      refine Keeps.ite ?_ ?_
      · exact h
      · refine State.setf_keeps (sub_of rfl hK) ?_
        exact h
    · refine Keeps.ite ?_ ?_
      · refine State.referenceLost_keeps (sub_of rfl hK) ?_
        refine Keeps.ite ?_ ?_
        · exact h
        · refine State.setf_keeps (sub_of rfl hK) ?_
          exact h
      · refine Keeps.ite ?_ ?_
        · refine State.report_keeps (sub_of rfl hK) ?_
          refine State.setf_keeps (sub_of rfl hK) ?_
          refine Keeps.ite ?_ ?_
          · exact h
          · refine State.setf_keeps (sub_of rfl hK) ?_
            exact h
        · refine Keeps.ite ?_ ?_
          · exact h
          · refine State.setf_keeps (sub_of rfl hK) ?_
            exact h

theorem execReferenceOk_keeps {K : Nat} {s0 s : State} (hK : 2 ||| K = K) (h : Keeps K s0 s) :
    Answers K s0 (execReferenceOk s) := by
  unfold execReferenceOk
  refine Answers.next ?_
  refine Keeps.ite ?_ ?_
  · refine State.setf_keeps (sub_of rfl hK) ?_
    exact h
  · exact h

theorem execReferenceReturn_keeps {K : Nat} {s0 s : State} {core v} (hK : 9895621427586 ||| K = K) (h : Keeps K s0 s) :
    Answers K s0 (execReferenceReturn core v s) := by
  unfold execReferenceReturn
  refine Answers.ofUnit ?_
  refine State.byCore_keeps (sub_of rfl hK) ?_ ?_
  · exact h
  · intro s1 h2
    refine Keeps.ite ?_ ?_
    · refine State.rampDown_keeps (sub_of rfl hK) ?_
      refine State.setf_keeps (sub_of rfl hK) ?_
      exact h2
    · refine State.clkErr_keeps (sub_of rfl hK) ?_
      exact h2

theorem execRelockTimeout_keeps {K : Nat} {s0 s : State} (hK : 1099512676353 ||| K = K) (h : Keeps K s0 s) :
    Answers K s0 (execRelockTimeout s) := by
  unfold execRelockTimeout
  refine Answers.next ?_
  split
  · refine Keeps.ite ?_ ?_
    · refine State.report_keeps (sub_of rfl hK) ?_
      refine State.modClk_keeps (sub_of rfl hK) ?_
      refine State.reach_keeps (sub_of rfl hK) ?_
      exact h
    · exact h
  · exact h

/-! ## Drives -/

theorem execBatterySideLost_keeps {K : Nat} {s0 s : State} (hK : 2203359011590 ||| K = K) (h : Keeps K s0 s) :
    Answers K s0 (execBatterySideLost s) := by
  unfold execBatterySideLost
  refine Answers.next ?_
  refine State.onTeam_keeps ?_ ?_
  · exact h
  · refine Keeps.ite ?_ ?_
    · refine State.each_keeps ?_ ?_
      · exact h
      · intro s1 _ h2
        refine Keeps.ite ?_ ?_
        · refine State.drvSafeEntry_keeps (sub_of rfl hK) ?_
          refine State.gtrip_keeps (sub_of rfl hK) ?_
          exact h2
        · exact h2
    · exact h

theorem execDriveDwellEnd_keeps {K : Nat} {s0 s : State} {d} (hK : 34087429 ||| K = K) (h : Keeps K s0 s) :
    Answers K s0 (execDriveDwellEnd d s) := by
  unfold execDriveDwellEnd
  refine Answers.ofUnit ?_
  refine State.onTeam_keeps ?_ ?_
  · exact h
  · refine Keeps.ite ?_ ?_
    · refine State.modDrv_keeps (sub_of rfl hK) ?_
      refine State.setDrv_keeps (sub_of rfl hK) ?_
      refine State.reach_keeps (sub_of rfl hK) ?_
      exact h
    · exact h

theorem execDriveDwellEntry_keeps {K : Nat} {s0 s : State} {d} (hK : 34087428 ||| K = K) (h : Keeps K s0 s) :
    Answers K s0 (execDriveDwellEntry d s) := by
  unfold execDriveDwellEntry
  refine Answers.ofUnit ?_
  refine State.onTeam_keeps ?_ ?_
  · exact h
  · refine Keeps.ite ?_ ?_
    · refine State.modDrv_keeps (sub_of rfl hK) ?_
      refine State.setDrv_keeps (sub_of rfl hK) ?_
      exact h
    · exact h

theorem execDriveOverspeed_keeps {K : Nat} {s0 s : State} {d held} (hK : 35136006 ||| K = K) (h : Keeps K s0 s) :
    Answers K s0 (execDriveOverspeed d held s) := by
  unfold execDriveOverspeed
  refine Answers.ofUnit ?_
  refine State.onTeam_keeps ?_ ?_
  · exact h
  · refine Keeps.ite ?_ ?_
    · refine State.drvFault_keeps (sub_of rfl hK) ?_
      exact h
    · exact h

theorem execDriveSafeEntry_keeps {K : Nat} {s0 s : State} {d} (hK : 34087430 ||| K = K) (h : Keeps K s0 s) :
    Answers K s0 (execDriveSafeEntry d s) := by
  unfold execDriveSafeEntry
  refine Answers.ofUnit ?_
  refine State.onTeam_keeps ?_ ?_
  · exact h
  · refine Keeps.ite ?_ ?_
    · refine State.drvSafeEntry_keeps (sub_of rfl hK) ?_
      exact h
    · exact h

theorem execDriveStart_keeps {K : Nat} {s0 s : State} {d} (hK : 34107910 ||| K = K) (h : Keeps K s0 s) :
    Answers K s0 (execDriveStart d s) := by
  unfold execDriveStart
  refine Answers.ofUnit ?_
  refine State.onTeam_keeps ?_ ?_
  · exact h
  · refine Keeps.ite ?_ ?_
    · refine Keeps.ite ?_ ?_
      · refine State.putNat_keeps (sub_of rfl hK) ?_
        exact h
      · refine Keeps.ite ?_ ?_
        · refine State.setDrv_keeps (sub_of rfl hK) ?_
          refine State.setDrv_keeps (sub_of rfl hK) ?_
          refine State.modDrv_keeps (sub_of rfl hK) ?_
          refine State.groupStart_keeps (sub_of rfl hK) ?_
          refine State.drvLoad_keeps (sub_of rfl hK) ?_
          exact h
        · refine State.setDrv_keeps (sub_of rfl hK) ?_
          refine State.modDrv_keeps (sub_of rfl hK) ?_
          refine State.groupStart_keeps (sub_of rfl hK) ?_
          refine State.drvLoad_keeps (sub_of rfl hK) ?_
          exact h
    · exact h

theorem execDriveStartComplete_keeps {K : Nat} {s0 s : State} {d held} (hK : 532996 ||| K = K) (h : Keeps K s0 s) :
    Answers K s0 (execDriveStartComplete d held s) := by
  unfold execDriveStartComplete
  refine Answers.ofUnit ?_
  refine State.onTeam_keeps ?_ ?_
  · exact h
  · refine Keeps.ite ?_ ?_
    · refine State.setDrv_keeps (sub_of rfl hK) ?_
      exact h
    · exact h

theorem execDriveStartTimeout_keeps {K : Nat} {s0 s : State} {d} (hK : 34103815 ||| K = K) (h : Keeps K s0 s) :
    Answers K s0 (execDriveStartTimeout d s) := by
  unfold execDriveStartTimeout
  refine Answers.ofUnit ?_
  refine State.onTeam_keeps ?_ ?_
  · exact h
  · refine Keeps.ite ?_ ?_
    · refine Keeps.ite ?_ ?_
      · refine State.drvToOff_keeps (sub_of rfl hK) ?_
        exact h
      · refine State.drvToOff_keeps (sub_of rfl hK) ?_
        refine State.reach_keeps (sub_of rfl hK) ?_
        exact h
    · exact h

theorem execDriveStop_keeps {K : Nat} {s0 s : State} {d} (hK : 34087428 ||| K = K) (h : Keeps K s0 s) :
    Answers K s0 (execDriveStop d s) := by
  unfold execDriveStop
  refine Answers.ofUnit ?_
  refine State.onTeam_keeps ?_ ?_
  · exact h
  · refine Keeps.ite ?_ ?_
    · refine State.modDrv_keeps (sub_of rfl hK) ?_
      refine State.setDrv_keeps (sub_of rfl hK) ?_
      exact h
    · refine Keeps.ite ?_ ?_
      · refine State.modDrv_keeps (sub_of rfl hK) ?_
        exact h
      · exact h

theorem execDriveStopTimeout_keeps {K : Nat} {s0 s : State} {d} (hK : 2203359011591 ||| K = K) (h : Keeps K s0 s) :
    Answers K s0 (execDriveStopTimeout d s) := by
  unfold execDriveStopTimeout
  refine Answers.ofUnit ?_
  refine State.onTeam_keeps ?_ ?_
  · exact h
  · split
    · exact h
    · refine Keeps.ite ?_ ?_
      · refine State.drvSafeEntry_keeps (sub_of rfl hK) ?_
        refine State.gtrip_keeps (sub_of rfl hK) ?_
        refine State.reach_keeps (sub_of rfl hK) ?_
        exact h
      · exact h

theorem execDriveStopped_keeps {K : Nat} {s0 s : State} {d} (hK : 34103814 ||| K = K) (h : Keeps K s0 s) :
    Answers K s0 (execDriveStopped d s) := by
  unfold execDriveStopped
  refine Answers.ofUnit ?_
  refine State.onTeam_keeps ?_ ?_
  · exact h
  · refine Keeps.ite ?_ ?_
    · refine State.drvToOff_keeps (sub_of rfl hK) ?_
      exact h
    · exact h

theorem execEncoderEdge_keeps {K : Nat} {s0 s : State} {d a b} (hK : 33554434 ||| K = K) (h : Keeps K s0 s) :
    Answers K s0 (execEncoderEdge d a b s) := by
  unfold execEncoderEdge
  refine Answers.ofUnit ?_
  refine Keeps.ite ?_ ?_
  · exact h
  · refine Keeps.ite ?_ ?_
    · refine State.modDrv_keeps (sub_of rfl hK) ?_
      exact h
    · refine Keeps.ite ?_ ?_
      · refine State.setf_keeps (sub_of rfl hK) ?_
        refine State.modDrv_keeps (sub_of rfl hK) ?_
        exact h
      · refine State.setf_keeps (sub_of rfl hK) ?_
        refine State.modDrv_keeps (sub_of rfl hK) ?_
        exact h

theorem execEncoderIndex_keeps {K : Nat} {s0 s : State} {d} (hK : 2 ||| K = K) (h : Keeps K s0 s) :
    Answers K s0 (execEncoderIndex d s) := by
  unfold execEncoderIndex
  refine Answers.ofUnit ?_
  refine Keeps.ite ?_ ?_
  · refine Keeps.ite ?_ ?_
    · refine State.setf_keeps (sub_of rfl hK) ?_
      refine State.setf_keeps (sub_of rfl hK) ?_
      exact h
    · refine State.setf_keeps (sub_of rfl hK) ?_
      exact h
  · exact h

theorem execResolverExcitationFault_keeps {K : Nat} {s0 s : State} {d ua} (hK : 2 ||| K = K) (h : Keeps K s0 s) :
    Answers K s0 (execResolverExcitationFault d ua s) := by
  unfold execResolverExcitationFault
  refine Answers.ofUnit ?_
  refine Keeps.ite ?_ ?_
  · exact h
  · refine Keeps.ite ?_ ?_
    · refine State.setf_keeps (sub_of rfl hK) ?_
      exact h
    · refine State.setb_keeps (sub_of rfl hK) ?_
      exact h

/-! ## Keeper -/

theorem State.modKeeper_keeps {K : Nat} {s0 s : State} {f} (hK : 4294967296 ||| K = K) (h : Keeps K s0 s) :
    Keeps K s0 (State.modKeeper s f) := by
  unfold State.modKeeper
  refine Keeps.set_keeper (sub_of rfl hK) ?_
  exact h

theorem execBtnPress_keeps {K : Nat} {s0 s : State} (hK : 4294967296 ||| K = K) (h : Keeps K s0 s) :
    Answers K s0 (execBtnPress s) := by
  unfold execBtnPress
  refine Answers.next ?_
  refine State.modKeeper_keeps (sub_of rfl hK) ?_
  exact h

theorem execBtnPressWake_keeps {K : Nat} {s0 s : State} (hK : 6601365398279 ||| K = K) (h : Keeps K s0 s) :
    Answers K s0 (execBtnPressWake s) := by
  unfold execBtnPressWake
  refine Answers.next ?_
  split
  · refine State.keeperWake_keeps (sub_of rfl hK) ?_
    refine State.reachRtc_keeps (sub_of rfl hK) ?_
    exact h
  · exact h

theorem execBtnRelease_keeps {K : Nat} {s0 s : State} (hK : 4294967296 ||| K = K) (h : Keeps K s0 s) :
    Answers K s0 (execBtnRelease s) := by
  unfold execBtnRelease
  refine Answers.next ?_
  refine State.modKeeper_keeps (sub_of rfl hK) ?_
  exact h

theorem execLongPress_keeps {K : Nat} {s0 s : State} (hK : 4296032259 ||| K = K) (h : Keeps K s0 s) :
    Answers K s0 (execLongPress s) := by
  unfold execLongPress
  refine Answers.next ?_
  split
  · refine Keeps.ite ?_ ?_
    · exact h
    · refine Keeps.ite ?_ ?_
      · refine State.modKeeper_keeps (sub_of rfl hK) ?_
        refine State.stopGens_keeps (sub_of rfl hK) ?_
        refine State.report_keeps (sub_of rfl hK) ?_
        refine State.modKeeper_keeps (sub_of rfl hK) ?_
        refine State.reachRtc_keeps (sub_of rfl hK) ?_
        exact h
      · refine State.inc_keeps (sub_of rfl hK) ?_
        refine State.modKeeper_keeps (sub_of rfl hK) ?_
        refine State.reachRtc_keeps (sub_of rfl hK) ?_
        exact h
  · exact h

theorem execLongPressBswClose_keeps {K : Nat} {s0 s : State} (hK : 13198451278083 ||| K = K) (h : Keeps K s0 s) :
    Answers K s0 (execLongPressBswClose s) := by
  unfold execLongPressBswClose
  refine Answers.next ?_
  split
  · refine Keeps.ite ?_ ?_
    · refine State.modBoot_keeps (sub_of rfl hK) ?_
      refine State.dtbZero_keeps (sub_of rfl hK) ?_
      refine State.modKeeper_keeps (sub_of rfl hK) ?_
      refine State.resetCause_keeps (sub_of rfl hK) ?_
      refine State.inc_keeps (sub_of rfl hK) ?_
      refine State.setf_keeps (sub_of rfl hK) ?_
      refine State.reachRtc_keeps (sub_of rfl hK) ?_
      exact h
    · exact h
  · exact h

theorem execLongPressBswOpen_keeps {K : Nat} {s0 s : State} (hK : 17592186044399 ||| K = K) (h : Keeps K s0 s) :
    Answers K s0 (execLongPressBswOpen s) := by
  unfold execLongPressBswOpen
  refine Answers.next ?_
  split
  · refine State.modKeeper_keeps (sub_of rfl hK) ?_
    refine State.setf_keeps (sub_of rfl hK) ?_
    refine State.supplyLost_keeps (sub_of rfl hK) ?_
    refine State.reachRtc_keeps (sub_of rfl hK) ?_
    exact h
  · exact h

theorem execShipModeArm_keeps {K : Nat} {s0 s : State} {core} (hK : 130 ||| K = K) (h : Keeps K s0 s) :
    Answers K s0 (execShipModeArm core s) := by
  unfold execShipModeArm
  refine Answers.ofUnit ?_
  refine State.overBridge_keeps (sub_of rfl hK) ?_ ?_
  · exact h
  · intro s1 h2
    refine State.setb_keeps (sub_of rfl hK) ?_
    exact h2

theorem execShipModeBswOpen_keeps {K : Nat} {s0 s : State} (hK : 4294967299 ||| K = K) (h : Keeps K s0 s) :
    Answers K s0 (execShipModeBswOpen s) := by
  unfold execShipModeBswOpen
  refine Answers.next ?_
  split
  · refine State.setf_keeps (sub_of rfl hK) ?_
    refine State.setf_keeps (sub_of rfl hK) ?_
    refine State.modKeeper_keeps (sub_of rfl hK) ?_
    refine State.reachRtc_keeps (sub_of rfl hK) ?_
    exact h
  · exact h

/-! ## Lv -/

theorem State.dcxRelease_keeps {K : Nat} {s0 s : State} (hK : 1589250 ||| K = K) (h : Keeps K s0 s) :
    Keeps K s0 (State.dcxRelease s) := by
  unfold State.dcxRelease
  refine State.clearTrips_keeps (sub_of rfl hK) ?_
  refine State.mgClear_keeps (sub_of rfl hK) ?_
  exact h

theorem State.buckStart_keeps {K : Nat} {s0 s : State} {k} (hK : 554642 ||| K = K) (h : Keeps K s0 s) :
    Keeps K s0 (State.buckStart s k) := by
  unfold State.buckStart
  refine Keeps.ite ?_ ?_
  · exact h
  · refine State.cotStart_keeps (sub_of rfl hK) ?_
    exact h

theorem execDcxIbGood_keeps {K : Nat} {s0 s : State} (hK : 2148033030 ||| K = K) (h : Keeps K s0 s) :
    Answers K s0 (execDcxIbGood s) := by
  unfold execDcxIbGood
  refine Answers.next ?_
  refine State.onTeam_keeps ?_ ?_
  · exact h
  · refine Keeps.ite ?_ ?_
    · exact h
    · refine Keeps.ite ?_ ?_
      · refine State.setLv_keeps (sub_of rfl hK) ?_
        refine State.rectifierOn_keeps (sub_of rfl hK) ?_
        exact h
      · refine Keeps.ite ?_ ?_
        · refine State.rectifierOn_keeps (sub_of rfl hK) ?_
          exact h
        · exact h

theorem execDcxOvercurrent_keeps {K : Nat} {s0 s : State} {ma held} (hK : 2205473989382 ||| K = K) (h : Keeps K s0 s) :
    Answers K s0 (execDcxOvercurrent ma held s) := by
  unfold execDcxOvercurrent
  refine Answers.next ?_
  refine Keeps.ite ?_ ?_
  · refine Keeps.ite ?_ ?_
    · refine State.hiccup_keeps (sub_of rfl hK) ?_
      refine State.report_keeps (sub_of rfl hK) ?_
      refine State.gtrip_keeps (sub_of rfl hK) ?_
      refine State.inc_keeps (sub_of rfl hK) ?_
      refine State.setf_keeps (sub_of rfl hK) ?_
      exact h
    · refine Keeps.ite ?_ ?_
      · refine State.hiccup_keeps (sub_of rfl hK) ?_
        refine State.buckOff_keeps (sub_of rfl hK) ?_
        refine State.report_keeps (sub_of rfl hK) ?_
        refine State.gtrip_keeps (sub_of rfl hK) ?_
        refine State.inc_keeps (sub_of rfl hK) ?_
        refine State.setf_keeps (sub_of rfl hK) ?_
        exact h
      · refine Keeps.ite ?_ ?_
        · refine State.ovHiccup_keeps (sub_of rfl hK) ?_
          refine State.report_keeps (sub_of rfl hK) ?_
          refine State.gtrip_keeps (sub_of rfl hK) ?_
          refine State.inc_keeps (sub_of rfl hK) ?_
          refine State.setf_keeps (sub_of rfl hK) ?_
          exact h
        · refine State.report_keeps (sub_of rfl hK) ?_
          refine State.gtrip_keeps (sub_of rfl hK) ?_
          refine State.inc_keeps (sub_of rfl hK) ?_
          refine State.setf_keeps (sub_of rfl hK) ?_
          exact h
  · exact h

theorem execDcxStartTimeout_keeps {K : Nat} {s0 s : State} (hK : 2148033031 ||| K = K) (h : Keeps K s0 s) :
    Answers K s0 (execDcxStartTimeout s) := by
  unfold execDcxStartTimeout
  refine Answers.next ?_
  refine State.onTeam_keeps ?_ ?_
  · exact h
  · refine Keeps.ite ?_ ?_
    · refine State.hiccup_keeps (sub_of rfl hK) ?_
      refine State.reach_keeps (sub_of rfl hK) ?_
      exact h
    · refine Keeps.ite ?_ ?_
      · refine State.ovHiccup_keeps (sub_of rfl hK) ?_
        refine State.reach_keeps (sub_of rfl hK) ?_
        exact h
      · exact h

theorem execDcxWaitEnd_keeps {K : Nat} {s0 s : State} (hK : 2149085703 ||| K = K) (h : Keeps K s0 s) :
    Answers K s0 (execDcxWaitEnd s) := by
  unfold execDcxWaitEnd
  refine Answers.next ?_
  refine State.onTeam_keeps ?_ ?_
  · exact h
  · refine Keeps.ite ?_ ?_
    · refine State.setLv_keeps (sub_of rfl hK) ?_
      refine State.dcxForward_keeps (sub_of rfl hK) ?_
      refine State.dcxRelease_keeps (sub_of rfl hK) ?_
      refine State.reach_keeps (sub_of rfl hK) ?_
      exact h
    · refine Keeps.ite ?_ ?_
      · split
        · exact h
        · refine State.modLvSeq_keeps (sub_of rfl hK) ?_
          refine State.dcxForward_keeps (sub_of rfl hK) ?_
          refine State.dcxRelease_keeps (sub_of rfl hK) ?_
          refine State.reach_keeps (sub_of rfl hK) ?_
          exact h
      · exact h

theorem execHiccupCountReset_keeps {K : Nat} {s0 s : State} (hK : 2147483649 ||| K = K) (h : Keeps K s0 s) :
    Answers K s0 (execHiccupCountReset s) := by
  unfold execHiccupCountReset
  refine Answers.next ?_
  refine State.onTeam_keeps ?_ ?_
  · exact h
  · refine Keeps.ite ?_ ?_
    · refine State.modLvSeq_keeps (sub_of rfl hK) ?_
      refine State.reach_keeps (sub_of rfl hK) ?_
      exact h
    · exact h

theorem execLvCheckDone_keeps {K : Nat} {s0 s : State} {nodes} (hK : 2148037127 ||| K = K) (h : Keeps K s0 s) :
    Answers K s0 (execLvCheckDone nodes s) := by
  unfold execLvCheckDone
  refine Answers.next ?_
  refine State.onTeam_keeps ?_ ?_
  · exact h
  · refine Keeps.ite ?_ ?_
    · exact h
    · refine Keeps.ite ?_ ?_
      · refine Keeps.ite ?_ ?_
        · refine State.lvToFault_keeps (sub_of rfl hK) ?_
          refine State.setf_keeps (sub_of rfl hK) ?_
          refine State.reach_keeps (sub_of rfl hK) ?_
          exact h
        · refine State.softStart_keeps (sub_of rfl hK) ?_
          refine State.reach_keeps (sub_of rfl hK) ?_
          exact h
      · refine State.softStart_keeps (sub_of rfl hK) ?_
        exact h

theorem execLvFaultClear_keeps {K : Nat} {s0 s : State} (hK : 2148016644 ||| K = K) (h : Keeps K s0 s) :
    Answers K s0 (execLvFaultClear s) := by
  unfold execLvFaultClear
  refine Answers.next ?_
  refine State.onTeam_keeps ?_ ?_
  · exact h
  · refine Keeps.ite ?_ ?_
    · refine State.setLv_keeps (sub_of rfl hK) ?_
      refine State.modLvSeq_keeps (sub_of rfl hK) ?_
      exact h
    · exact h

theorem execLvFeedLost_keeps {K : Nat} {s0 s : State} {held} (hK : 2148033030 ||| K = K) (h : Keeps K s0 s) :
    Answers K s0 (execLvFeedLost held s) := by
  unfold execLvFeedLost
  refine Answers.next ?_
  refine State.onTeam_keeps ?_ ?_
  · exact h
  · refine Keeps.ite ?_ ?_
    · refine State.feedClear_keeps (sub_of rfl hK) ?_
      refine State.modLvSeq_keeps (sub_of rfl hK) ?_
      refine State.lvToOff_keeps (sub_of rfl hK) ?_
      exact h
    · exact h

theorem execLvOvervoltage_keeps {K : Nat} {s0 s : State} {mv held} (hK : 2205466649350 ||| K = K) (h : Keeps K s0 s) :
    Answers K s0 (execLvOvervoltage mv held s) := by
  unfold execLvOvervoltage
  refine Answers.next ?_
  refine Keeps.ite ?_ ?_
  · refine Keeps.ite ?_ ?_
    · refine State.setf_keeps (sub_of rfl hK) ?_
      refine State.inc_keeps (sub_of rfl hK) ?_
      refine State.lineActive_keeps (sub_of rfl hK) ?_
      exact h
    · refine State.setLv_keeps (sub_of rfl hK) ?_
      refine State.setf_keeps (sub_of rfl hK) ?_
      refine State.inc_keeps (sub_of rfl hK) ?_
      refine State.lineActive_keeps (sub_of rfl hK) ?_
      exact h
  · exact h

theorem execLvPowerGood_keeps {K : Nat} {s0 s : State} (hK : 2282234374 ||| K = K) (h : Keeps K s0 s) :
    Answers K s0 (execLvPowerGood s) := by
  unfold execLvPowerGood
  refine Answers.next ?_
  refine State.onTeam_keeps ?_ ?_
  · exact h
  · refine Keeps.ite ?_ ?_
    · refine Keeps.set_charge (sub_of rfl hK) ?_ (fun i => by first | exact i | rfl | simpa using i | (split <;> simpa using i))
      refine State.refreshPg_keeps (sub_of rfl hK) ?_
      refine State.modLvSeq_keeps (sub_of rfl hK) ?_
      refine State.setLv_keeps (sub_of rfl hK) ?_
      exact h
    · exact h

theorem execLvRetryWaitEnd_keeps {K : Nat} {s0 s : State} (hK : 2148016645 ||| K = K) (h : Keeps K s0 s) :
    Answers K s0 (execLvRetryWaitEnd s) := by
  unfold execLvRetryWaitEnd
  refine Answers.next ?_
  refine State.onTeam_keeps ?_ ?_
  · exact h
  · refine Keeps.ite ?_ ?_
    · refine State.setLv_keeps (sub_of rfl hK) ?_
      refine State.reach_keeps (sub_of rfl hK) ?_
      exact h
    · exact h

theorem execLvSequencerStart_keeps {K : Nat} {s0 s : State} (hK : 2148037126 ||| K = K) (h : Keeps K s0 s) :
    Answers K s0 (execLvSequencerStart s) := by
  unfold execLvSequencerStart
  refine Answers.next ?_
  refine State.onTeam_keeps ?_ ?_
  · exact h
  · refine Keeps.ite ?_ ?_
    · refine Keeps.ite ?_ ?_
      · refine Keeps.ite ?_ ?_
        · refine State.setLv_keeps (sub_of rfl hK) ?_
          exact h
        · exact h
      · refine Keeps.ite ?_ ?_
        · refine State.setLv_keeps (sub_of rfl hK) ?_
          refine State.dcxForward_keeps (sub_of rfl hK) ?_
          exact h
        · exact h
    · exact h

theorem execLvSoftstartFail_keeps {K : Nat} {s0 s : State} (hK : 2148033031 ||| K = K) (h : Keeps K s0 s) :
    Answers K s0 (execLvSoftstartFail s) := by
  unfold execLvSoftstartFail
  refine Answers.next ?_
  refine State.onTeam_keeps ?_ ?_
  · exact h
  · refine Keeps.ite ?_ ?_
    · refine Keeps.ite ?_ ?_
      · refine State.lvToFault_keeps (sub_of rfl hK) ?_
        refine State.inc_keeps (sub_of rfl hK) ?_
        refine State.modLvSeq_keeps (sub_of rfl hK) ?_
        refine State.buckOff_keeps (sub_of rfl hK) ?_
        refine State.reach_keeps (sub_of rfl hK) ?_
        exact h
      · refine State.setLv_keeps (sub_of rfl hK) ?_
        refine State.inc_keeps (sub_of rfl hK) ?_
        refine State.modLvSeq_keeps (sub_of rfl hK) ?_
        refine State.buckOff_keeps (sub_of rfl hK) ?_
        refine State.reach_keeps (sub_of rfl hK) ?_
        exact h
    · exact h

theorem execLvStop_keeps {K : Nat} {s0 s : State} (hK : 2148033030 ||| K = K) (h : Keeps K s0 s) :
    Answers K s0 (execLvStop s) := by
  unfold execLvStop
  refine Answers.next ?_
  refine State.onTeam_keeps ?_ ?_
  · exact h
  · refine Keeps.ite ?_ ?_
    · refine State.lvToOff_keeps (sub_of rfl hK) ?_
      exact h
    · exact h

theorem execLvSupervisorFire_keeps {K : Nat} {s0 s : State} (hK : 2149081607 ||| K = K) (h : Keeps K s0 s) :
    Answers K s0 (execLvSupervisorFire s) := by
  unfold execLvSupervisorFire
  refine Answers.next ?_
  refine State.onTeam_keeps ?_ ?_
  · exact h
  · split
    · exact h
    · refine Keeps.ite ?_ ?_
      · refine State.modLvSeq_keeps (sub_of rfl hK) ?_
        refine State.lvToFault_keeps (sub_of rfl hK) ?_
        refine State.report_keeps (sub_of rfl hK) ?_
        refine State.reach_keeps (sub_of rfl hK) ?_
        exact h
      · exact h

theorem execOffTimeComparator_keeps {K : Nat} {s0 s : State} (hK : 2148038290 ||| K = K) (h : Keeps K s0 s) :
    Answers K s0 (execOffTimeComparator s) := by
  unfold execOffTimeComparator
  refine Answers.next ?_
  refine Keeps.ite ?_ ?_
  · refine Keeps.ite ?_ ?_
    · refine State.modLvSeq_keeps (sub_of rfl hK) ?_
      refine State.modLvSeq_keeps (sub_of rfl hK) ?_
      exact h
    · refine State.buckStart_keeps (sub_of rfl hK) ?_
      refine State.modLvSeq_keeps (sub_of rfl hK) ?_
      exact h
  · exact h

theorem execPhaseCurrentZero_keeps {K : Nat} {s0 s : State} {k} (hK : 16384 ||| K = K) (h : Keeps K s0 s) :
    Answers K s0 (execPhaseCurrentZero k s) := by
  unfold execPhaseCurrentZero
  refine Answers.ofUnit ?_
  refine Keeps.ite ?_ ?_
  · refine State.loOff_keeps (sub_of rfl hK) ?_
    exact h
  · exact h

theorem execSyncEdge_keeps {K : Nat} {s0 s : State} (hK : 2147483650 ||| K = K) (h : Keeps K s0 s) :
    Answers K s0 (execSyncEdge s) := by
  unfold execSyncEdge
  refine Answers.next ?_
  split
  · refine State.modLvSeq_keeps (sub_of rfl hK) ?_
    exact h
  · refine Keeps.ite ?_ ?_
    · refine State.setf_keeps (sub_of rfl hK) ?_
      refine State.setf_keeps (sub_of rfl hK) ?_
      refine State.modLvSeq_keeps (sub_of rfl hK) ?_
      exact h
    · refine State.setf_keeps (sub_of rfl hK) ?_
      refine State.modLvSeq_keeps (sub_of rfl hK) ?_
      exact h

theorem execSyncLost_keeps {K : Nat} {s0 s : State} (hK : 2147483651 ||| K = K) (h : Keeps K s0 s) :
    Answers K s0 (execSyncLost s) := by
  unfold execSyncLost
  refine Answers.next ?_
  split
  · exact h
  · refine Keeps.ite ?_ ?_
    · exact h
    · refine Keeps.ite ?_ ?_
      · refine State.inc_keeps (sub_of rfl hK) ?_
        refine State.setf_keeps (sub_of rfl hK) ?_
        refine State.setf_keeps (sub_of rfl hK) ?_
        refine State.modLvSeq_keeps (sub_of rfl hK) ?_
        refine State.reach_keeps (sub_of rfl hK) ?_
        exact h
      · refine State.setf_keeps (sub_of rfl hK) ?_
        refine State.modLvSeq_keeps (sub_of rfl hK) ?_
        refine State.reach_keeps (sub_of rfl hK) ?_
        exact h

theorem execValleyLimitRelease_keeps {K : Nat} {s0 s : State} {k} (hK : 2148038290 ||| K = K) (h : Keeps K s0 s) :
    Answers K s0 (execValleyLimitRelease k s) := by
  unfold execValleyLimitRelease
  refine Answers.ofUnit ?_
  refine Keeps.ite ?_ ?_
  · refine State.buckStart_keeps (sub_of rfl hK) ?_
    refine State.modLvSeq_keeps (sub_of rfl hK) ?_
    exact h
  · exact h

/-! ## Martingale -/

theorem State.askMidScale_keeps {K : Nat} {s0 s : State} (hK : 1024 ||| K = K) (h : Keeps K s0 s) :
    Keeps K s0 (State.askMidScale s) := by
  unfold State.askMidScale
  refine State.each_keeps ?_ ?_
  · exact h
  · intro s1 _ h2
    split
    · exact h2
    · refine State.urgentIssue_keeps (sub_of rfl hK) ?_
      exact h2

theorem execClockSupervisorTrip_keeps {K : Nat} {s0 s : State} (hK : 1572866 ||| K = K) (h : Keeps K s0 s) :
    Answers K s0 (execClockSupervisorTrip s) := by
  unfold execClockSupervisorTrip
  refine Answers.next ?_
  refine State.dischargeStart_keeps (sub_of rfl hK) ?_
  refine State.path2_keeps (sub_of rfl hK) ?_
  refine State.path2_keeps (sub_of rfl hK) ?_
  refine State.modMg_keeps (sub_of rfl hK) ?_ (by intro c hc; first | exact hc | simpa using hc | (split <;> simpa using hc))
  exact h

theorem execContactFilterExpiry_keeps {K : Nat} {s0 s : State} {i_ isB} (hK : 2203320214279 ||| K = K) (h : Keeps K s0 s) :
    Answers K s0 (execContactFilterExpiry i_ isB s) := by
  unfold execContactFilterExpiry
  refine Answers.ofUnit ?_
  try dsimp only
  split
  · exact h
  · refine State.contactMoves_keeps (sub_of rfl hK) ?_
    refine State.modInput_keeps (sub_of rfl hK) ?_
    refine State.reach_keeps (sub_of rfl hK) ?_
    exact h

theorem execFaultReport_keeps {K : Nat} {s0 s : State} {cls scope rx} (hK : 2205473989382 ||| K = K) (h : Keeps K s0 s) :
    Answers K s0 (execFaultReport cls scope rx s) := by
  unfold execFaultReport
  refine Answers.ofUnit ?_
  refine Keeps.ite ?_ ?_
  · refine Keeps.ite ?_ ?_
    · refine State.receive_keeps (sub_of rfl hK) ?_
      refine State.modMg_keeps (sub_of rfl hK) ?_ (by intro c hc; first | exact hc | simpa using hc | (split <;> simpa using hc))
      exact h
    · refine State.lvReaction_keeps (sub_of rfl hK) ?_
      refine State.receive_keeps (sub_of rfl hK) ?_
      refine State.modMg_keeps (sub_of rfl hK) ?_ (by intro c hc; first | exact hc | simpa using hc | (split <;> simpa using hc))
      exact h
  · refine Keeps.ite ?_ ?_
    · refine State.receive_keeps (sub_of rfl hK) ?_
      exact h
    · exact h

theorem execInputDiscrepancyTimeout_keeps {K : Nat} {s0 s : State} {i_} (hK : 2203320214279 ||| K = K) (h : Keeps K s0 s) :
    Answers K s0 (execInputDiscrepancyTimeout i_ s) := by
  unfold execInputDiscrepancyTimeout
  refine Answers.ofUnit ?_
  try dsimp only
  split
  · exact h
  · refine Keeps.ite ?_ ?_
    · refine State.inputFault_keeps (sub_of rfl hK) ?_
      refine State.reach_keeps (sub_of rfl hK) ?_
      exact h
    · refine State.modInput_keeps (sub_of rfl hK) ?_
      refine State.reach_keeps (sub_of rfl hK) ?_
      exact h

theorem execInputFaultRecovery_keeps {K : Nat} {s0 s : State} {i_} (hK : 1048579 ||| K = K) (h : Keeps K s0 s) :
    Answers K s0 (execInputFaultRecovery i_ s) := by
  unfold execInputFaultRecovery
  refine Answers.ofUnit ?_
  split
  · exact h
  · refine Keeps.ite ?_ ?_
    · refine State.outputs_keeps (sub_of rfl hK) ?_
      refine State.modInput_keeps (sub_of rfl hK) ?_
      refine State.setSi_keeps (sub_of rfl hK) ?_
      refine State.reach_keeps (sub_of rfl hK) ?_
      exact h
    · exact h

theorem execMartingaleTick_keeps {K : Nat} {s0 s : State} (hK : 2203320214407 ||| K = K) (h : Keeps K s0 s) :
    Answers K s0 (execMartingaleTick s) := by
  unfold execMartingaleTick
  dsimp only
  have h1 : Keeps K s0 ((s.reach (s.nextAt 40000 s.mg.tickAt)).modMg
      (fun m => { m with tickAt := some (s.reach (s.nextAt 40000 s.mg.tickAt)).dtb })) :=
    State.modMg_keeps (sub_of rfl hK) (State.reach_keeps (sub_of rfl hK) h) (fun _ hc => hc)
  generalize (s.reach (s.nextAt 40000 s.mg.tickAt)).modMg
      (fun m => { m with tickAt := some (s.reach (s.nextAt 40000 s.mg.tickAt)).dtb }) = s1 at h1 ⊢
  refine Answers.ite (Answers.next h1) ?_
  have h2 : Keeps K s0 (s1.stepOf (s1.sensorOf 0)).2.2.2 := State.stepOf_keeps (sub_of rfl hK) h1
  generalize s1.stepOf (s1.sensorOf 0) = p at h2 ⊢
  obtain ⟨z0, t0, c0, s2⟩ := p
  dsimp only at h2 ⊢
  have h3 : Keeps K s0 (if s1.sensorOf 1 = s1.sensorOf 0 then (z0, t0, c0, s2) else s2.stepOf (s1.sensorOf 1)).2.2.2 := by
    split
    · exact h2
    · exact State.stepOf_keeps (sub_of rfl hK) h2
  generalize (if s1.sensorOf 1 = s1.sensorOf 0 then (z0, t0, c0, s2) else s2.stepOf (s1.sensorOf 1)) = q at h3 ⊢
  obtain ⟨z1, t1, c1, s3⟩ := q
  dsimp only at h3 ⊢
  refine Answers.next (State.driveTick_keeps (sub_of rfl hK) (State.driveTick_keeps (sub_of rfl hK) (State.forN_keeps
    (State.measure_keeps (sub_of rfl hK) (State.measure_keeps (sub_of rfl hK) h3)) (fun u d hu => State.modMgDrive_keeps (sub_of rfl hK) hu))))

theorem execMgClr_keeps {K : Nat} {s0 s : State} {core v} (hK : 1573250 ||| K = K) (h : Keeps K s0 s) :
    Answers K s0 (execMgClr core v s) := by
  unfold execMgClr
  refine Answers.ofUnit ?_
  refine State.mgWrite_keeps (sub_of rfl hK) ?_ ?_
  · exact h
  · intro s1 h2
    refine Keeps.ite ?_ ?_
    · refine State.mgClear_keeps (sub_of rfl hK) ?_
      exact h2
    · exact h2

theorem execMgGtrip_keeps {K : Nat} {s0 s : State} {core hi v} (hK : 2205473989510 ||| K = K) (h : Keeps K s0 s) :
    Answers K s0 (execMgGtrip core hi v s) := by
  unfold execMgGtrip
  refine Answers.ofUnit ?_
  refine State.mgWrite_keeps (sub_of rfl hK) ?_ ?_
  · exact h
  · intro s1 h2
    refine Keeps.ite ?_ ?_
    · exact h2
    · refine State.lvReaction_keeps (sub_of rfl hK) ?_
      refine State.safeGens_keeps (sub_of rfl hK) ?_
      refine State.wrReg_keeps (sub_of rfl hK) ?_
      refine State.each_keeps ?_ ?_
      · exact h2
      · intro s3 _ h4
        refine State.preempt_keeps (sub_of rfl hK) ?_
        exact h4

theorem execMgRepa_keeps {K : Nat} {s0 s : State} {core v} (hK : 1048962 ||| K = K) (h : Keeps K s0 s) :
    Answers K s0 (execMgRepa core v s) := by
  unfold execMgRepa
  refine Answers.ofUnit ?_
  refine State.mgWrite_keeps (sub_of rfl hK) ?_ ?_
  · exact h
  · intro s1 h2
    refine Keeps.ite ?_ ?_
    · refine State.report_keeps (sub_of rfl hK) ?_
      exact h2
    · refine State.inc_keeps (sub_of rfl hK) ?_
      exact h2

theorem execMgReps_keeps {K : Nat} {s0 s : State} {core v} (hK : 1048962 ||| K = K) (h : Keeps K s0 s) :
    Answers K s0 (execMgReps core v s) := by
  unfold execMgReps
  refine Answers.ofUnit ?_
  refine State.mgWrite_keeps (sub_of rfl hK) ?_ ?_
  · exact h
  · intro s1 h2
    refine Keeps.ite ?_ ?_
    · exact h2
    · refine Keeps.ite ?_ ?_
      · refine State.report_keeps (sub_of rfl hK) ?_
        exact h2
      · refine State.inc_keeps (sub_of rfl hK) ?_
        exact h2

theorem execMgSelWrite_keeps {K : Nat} {s0 s : State} {core v} (hK : 1048962 ||| K = K) (h : Keeps K s0 s) :
    Answers K s0 (execMgSelWrite core v s) := by
  unfold execMgSelWrite
  refine Answers.ofUnit ?_
  refine State.mgWrite_keeps (sub_of rfl hK) ?_ ?_
  · exact h
  · intro s1 h2
    refine State.writeSel_keeps (sub_of rfl hK) ?_
    exact h2

theorem execModuleDischargeRequest_keeps {K : Nat} {s0 s : State} (hK : 1572866 ||| K = K) (h : Keeps K s0 s) :
    Answers K s0 (execModuleDischargeRequest s) := by
  unfold execModuleDischargeRequest
  refine Answers.next ?_
  refine Keeps.ite ?_ ?_
  · refine State.modMg_keeps (sub_of rfl hK) ?_ (by intro c hc; first | exact hc | simpa using hc | (split <;> simpa using hc))
    refine State.dischargeStart_keeps (sub_of rfl hK) ?_
    exact h
  · exact h

theorem execSafetyInputSample_keeps {K : Nat} {s0 s : State} {a b} (hK : 2203320214279 ||| K = K) (h : Keeps K s0 s) :
    Answers K s0 (execSafetyInputSample a b s) := by
  unfold execSafetyInputSample
  refine Answers.next ?_
  refine Keeps.ite ?_ ?_
  · refine State.forN_keeps ?_ ?_
    · refine State.modMg_keeps (sub_of rfl hK) ?_ (by intro c hc; first | exact hc | simpa using hc | (split <;> simpa using hc))
      refine State.reach_keeps (sub_of rfl hK) ?_
      exact h
    · intro s1 _ h2
      refine State.sampleContact_keeps (sub_of rfl hK) ?_
      refine State.sampleContact_keeps (sub_of rfl hK) ?_
      exact h2
  · refine State.modMg_keeps (sub_of rfl hK) ?_ (by intro c hc; first | exact hc | simpa using hc | (split <;> simpa using hc))
    refine State.reach_keeps (sub_of rfl hK) ?_
    exact h

theorem execSafetyLock_keeps {K : Nat} {s0 s : State} {core v} (hK : 1048962 ||| K = K) (h : Keeps K s0 s) :
    Answers K s0 (execSafetyLock core v s) := by
  unfold execSafetyLock
  refine Answers.ofUnit ?_
  refine State.access_keeps (sub_of rfl hK) ?_ ?_
  · exact h
  · intro s1 h2
    refine Keeps.ite ?_ ?_
    · refine State.modMg_keeps (sub_of rfl hK) ?_ (by intro c hc; first | exact hc | simpa using hc | (split <;> simpa using hc))
      exact h2
    · refine Keeps.ite ?_ ?_
      · refine Keeps.ite ?_ ?_
        · refine State.setf_keeps (sub_of rfl hK) ?_
          refine State.modMg_keeps (sub_of rfl hK) ?_ (by intro c hc; first | exact hc | simpa using hc | (split <;> simpa using hc))
          exact h2
        · refine State.wr_keeps (sub_of rfl hK) ?_
          refine State.setf_keeps (sub_of rfl hK) ?_
          refine State.drawWord_keeps (sub_of rfl hK) ?_
          refine State.setf_keeps (sub_of rfl hK) ?_
          refine State.modMg_keeps (sub_of rfl hK) ?_ (by intro c hc; first | exact hc | simpa using hc | (split <;> simpa using hc))
          exact h2
      · refine State.modMg_keeps (sub_of rfl hK) ?_ (by intro c hc; first | exact hc | simpa using hc | (split <;> simpa using hc))
        exact h2

theorem execSafetyOutputFaultClear_keeps {K : Nat} {s0 s : State} {core v} (hK : 1048962 ||| K = K) (h : Keeps K s0 s) :
    Answers K s0 (execSafetyOutputFaultClear core v s) := by
  unfold execSafetyOutputFaultClear
  refine Answers.ofUnit ?_
  refine State.mgWrite_keeps (sub_of rfl hK) ?_ ?_
  · exact h
  · intro s1 h2
    refine State.outputs_keeps (sub_of rfl hK) ?_
    refine State.forN_keeps ?_ ?_
    · exact h2
    · intro s3 _ h4
      refine Keeps.ite ?_ ?_
      · refine State.setf_keeps (sub_of rfl hK) ?_
        exact h4
      · exact h4

theorem execSafetyOutputTest_keeps {K : Nat} {s0 s : State} {n} (hK : 1048579 ||| K = K) (h : Keeps K s0 s) :
    Answers K s0 (execSafetyOutputTest n s) := by
  unfold execSafetyOutputTest
  refine Answers.ofUnit ?_
  refine Keeps.ite ?_ ?_
  · refine State.outputs_keeps (sub_of rfl hK) ?_
    refine State.modMg_keeps (sub_of rfl hK) ?_ (by intro c hc; first | exact hc | simpa using hc | (split <;> simpa using hc))
    refine State.reach_keeps (sub_of rfl hK) ?_
    exact h
  · refine State.reach_keeps (sub_of rfl hK) ?_
    exact h

theorem execSafetyOutputTestEnd_keeps {K : Nat} {s0 s : State} {n stayedHigh low} (hK : 1048579 ||| K = K) (h : Keeps K s0 s) :
    Answers K s0 (execSafetyOutputTestEnd n stayedHigh low s) := by
  unfold execSafetyOutputTestEnd
  refine Answers.ofUnit ?_
  split
  · exact h
  · refine Keeps.ite ?_ ?_
    · refine State.outputs_keeps (sub_of rfl hK) ?_
      refine State.report_keeps (sub_of rfl hK) ?_
      refine State.setf_keeps (sub_of rfl hK) ?_
      refine State.modMg_keeps (sub_of rfl hK) ?_ (by intro c hc; first | exact hc | simpa using hc | (split <;> simpa using hc))
      refine State.reach_keeps (sub_of rfl hK) ?_
      exact h
    · refine State.outputs_keeps (sub_of rfl hK) ?_
      refine State.modMg_keeps (sub_of rfl hK) ?_ (by intro c hc; first | exact hc | simpa using hc | (split <;> simpa using hc))
      refine State.reach_keeps (sub_of rfl hK) ?_
      exact h

theorem execSelfTestDone_keeps {K : Nat} {s0 s : State} {passed} (hK : 1048579 ||| K = K) (h : Keeps K s0 s) :
    Answers K s0 (execSelfTestDone passed s) := by
  unfold execSelfTestDone
  refine Answers.next ?_
  split
  · exact h
  · refine Keeps.ite ?_ ?_
    · refine State.setf_keeps (sub_of rfl hK) ?_
      refine State.setf_keeps (sub_of rfl hK) ?_
      refine State.modMg_keeps (sub_of rfl hK) ?_ (by intro c hc; first | exact hc | simpa using hc | (split <;> simpa using hc))
      refine State.reach_keeps (sub_of rfl hK) ?_
      exact h
    · refine State.report_keeps (sub_of rfl hK) ?_
      refine State.setf_keeps (sub_of rfl hK) ?_
      refine State.setf_keeps (sub_of rfl hK) ?_
      refine State.modMg_keeps (sub_of rfl hK) ?_ (by intro c hc; first | exact hc | simpa using hc | (split <;> simpa using hc))
      refine State.reach_keeps (sub_of rfl hK) ?_
      exact h

theorem execSelfTestStart_keeps {K : Nat} {s0 s : State} {core v} (hK : 1049986 ||| K = K) (h : Keeps K s0 s) :
    Answers K s0 (execSelfTestStart core v s) := by
  unfold execSelfTestStart
  refine Answers.ofUnit ?_
  refine State.mgWrite_keeps (sub_of rfl hK) ?_ ?_
  · exact h
  · intro s1 h2
    refine Keeps.ite ?_ ?_
    · refine State.askMidScale_keeps (sub_of rfl hK) ?_
      refine State.adcEvent_keeps (sub_of rfl hK) ?_
      refine State.modMg_keeps (sub_of rfl hK) ?_ (by intro c hc; first | exact hc | simpa using hc | (split <;> simpa using hc))
      refine State.setf_keeps (sub_of rfl hK) ?_
      refine Keeps.ite ?_ ?_
      · refine State.wrMasked_keeps (sub_of rfl hK) ?_
        exact h2
      · refine State.wrReg_keeps (sub_of rfl hK) ?_
        exact h2
    · refine State.setf_keeps (sub_of rfl hK) ?_
      exact h2

theorem execSlpReferenceSet_keeps {K : Nat} {s0 s : State} {core v} (hK : 1048962 ||| K = K) (h : Keeps K s0 s) :
    Answers K s0 (execSlpReferenceSet core v s) := by
  unfold execSlpReferenceSet
  refine Answers.ofUnit ?_
  refine State.mgWrite_keeps (sub_of rfl hK) ?_ ?_
  · exact h
  · intro s1 h2
    refine State.writeSel_keeps (sub_of rfl hK) ?_
    exact h2

theorem execSpeedCrosscheckFault_keeps {K : Nat} {s0 s : State} {d} (hK : 1048576 ||| K = K) (h : Keeps K s0 s) :
    Answers K s0 (execSpeedCrosscheckFault d s) := by
  unfold execSpeedCrosscheckFault
  refine Answers.ofUnit ?_
  refine Keeps.ite ?_ ?_
  · refine State.speedFault_keeps (sub_of rfl hK) ?_
    exact h
  · exact h

theorem execSpeedInvalid_keeps {K : Nat} {s0 s : State} {d} (hK : 2203320214278 ||| K = K) (h : Keeps K s0 s) :
    Answers K s0 (execSpeedInvalid d s) := by
  unfold execSpeedInvalid
  refine Answers.ofUnit ?_
  refine Keeps.ite ?_ ?_
  · refine Keeps.ite ?_ ?_
    · split
      · refine State.enterSs1_keeps (sub_of rfl hK) ?_
        refine Keeps.ite ?_ ?_
        · refine State.speedFault_keeps (sub_of rfl hK) ?_
          refine State.speedPattern_keeps (sub_of rfl hK) ?_
          refine State.setf_keeps (sub_of rfl hK) ?_
          exact h
        · refine State.speedPattern_keeps (sub_of rfl hK) ?_
          refine State.setf_keeps (sub_of rfl hK) ?_
          exact h
      · refine Keeps.ite ?_ ?_
        · refine State.speedFault_keeps (sub_of rfl hK) ?_
          refine State.speedPattern_keeps (sub_of rfl hK) ?_
          refine State.setf_keeps (sub_of rfl hK) ?_
          exact h
        · refine State.speedPattern_keeps (sub_of rfl hK) ?_
          refine State.setf_keeps (sub_of rfl hK) ?_
          exact h
    · refine Keeps.ite ?_ ?_
      · refine State.speedFault_keeps (sub_of rfl hK) ?_
        refine State.speedPattern_keeps (sub_of rfl hK) ?_
        refine State.setf_keeps (sub_of rfl hK) ?_
        exact h
      · refine State.speedPattern_keeps (sub_of rfl hK) ?_
        refine State.setf_keeps (sub_of rfl hK) ?_
        exact h
  · exact h

theorem execSpeedValid_keeps {K : Nat} {s0 s : State} {d} (hK : 1589250 ||| K = K) (h : Keeps K s0 s) :
    Answers K s0 (execSpeedValid d s) := by
  unfold execSpeedValid
  refine Answers.ofUnit ?_
  refine Keeps.ite ?_ ?_
  · refine State.speedSource_keeps (sub_of rfl hK) ?_
    refine State.speedPattern_keeps (sub_of rfl hK) ?_
    refine State.setf_keeps (sub_of rfl hK) ?_
    exact h
  · exact h

theorem execSs1RampEnd_keeps {K : Nat} {s0 s : State} {d} (hK : 2203319165703 ||| K = K) (h : Keeps K s0 s) :
    Answers K s0 (execSs1RampEnd d s) := by
  unfold execSs1RampEnd
  refine Answers.ofUnit ?_
  refine Keeps.ite ?_ ?_
  · refine State.enterSto_keeps (sub_of rfl hK) ?_
    refine State.reach_keeps (sub_of rfl hK) ?_
    exact h
  · exact h

theorem execTestPulseEnd_keeps {K : Nat} {s0 s : State} {n} (hK : 1048577 ||| K = K) (h : Keeps K s0 s) :
    Answers K s0 (execTestPulseEnd n s) := by
  unfold execTestPulseEnd
  refine Answers.ofUnit ?_
  refine Keeps.ite ?_ ?_
  · refine State.modMg_keeps (sub_of rfl hK) ?_ (by intro c hc; first | exact hc | simpa using hc | (split <;> simpa using hc))
    refine State.reach_keeps (sub_of rfl hK) ?_
    exact h
  · exact h

theorem execTestPulseStart_keeps {K : Nat} {s0 s : State} {n} (hK : 1048577 ||| K = K) (h : Keeps K s0 s) :
    Answers K s0 (execTestPulseStart n s) := by
  unfold execTestPulseStart
  refine Answers.ofUnit ?_
  refine Keeps.ite ?_ ?_
  · refine State.modMg_keeps (sub_of rfl hK) ?_ (by intro c hc; first | exact hc | simpa using hc | (split <;> simpa using hc))
    refine State.reach_keeps (sub_of rfl hK) ?_
    exact h
  · exact h

end Sys2Proof.Machine
end

