-- ==== Sys2Proof/Laws/KeepsThermal.lean ====
section
/-! SUPPORT. What each operation and each command of Machine/Mode.lean, Machine/Paddock.lean, Machine/Power.lean, Machine/ReadOps.lean, Machine/Registers.lean, Machine/Security.lean, Machine/Teams.lean, Machine/Thermal.lean keeps. -/

set_option linter.unusedVariables false
set_option linter.unusedTactic false
set_option linter.unreachableTactic false

namespace Sys2Proof.Machine

/-! ## Mode -/

theorem State.boundaryBlocks_keeps {K : Nat} {s0 s : State} (hK : 66194 ||| K = K) (h : Keeps K s0 s) :
    Keeps K s0 (State.boundaryBlocks s) := by
  unfold State.boundaryBlocks
  refine Keeps.ite ?_ ?_
  · refine State.yarrowStart_keeps (sub_of rfl hK) ?_
    refine Keeps.ite ?_ ?_
    · refine State.recordAtMs_keeps (sub_of rfl hK) ?_
      refine State.staleSweep_keeps (sub_of rfl hK) ?_
      exact h
    · exact h
  · refine Keeps.ite ?_ ?_
    · refine State.recordAtMs_keeps (sub_of rfl hK) ?_
      refine State.staleSweep_keeps (sub_of rfl hK) ?_
      exact h
    · exact h

theorem State.boundaryTeams_keeps {K : Nat} {s0 s : State} (hK : 2447569220486 ||| K = K) (h : Keeps K s0 s) :
    Keeps K s0 (State.boundaryTeams s) := by
  unfold State.boundaryTeams
  refine Keeps.ite ?_ ?_
  · refine State.actBoundary_keeps (sub_of rfl hK) ?_
    refine State.chargeBoundary_keeps (sub_of rfl hK) ?_
    refine Keeps.ite ?_ ?_
    · refine State.refreshMmreq_keeps (sub_of rfl hK) ?_
      refine State.publishConditions_keeps (sub_of rfl hK) ?_
      refine State.modeDeadline_keeps (sub_of rfl hK) ?_
      refine State.refreshPhase_keeps (sub_of rfl hK) ?_
      refine State.lvBoundary_keeps (sub_of rfl hK) ?_
      refine State.drvMissCheck_keeps (sub_of rfl hK) ?_
      refine State.drvMissCheck_keeps (sub_of rfl hK) ?_
      exact h
    · exact h
  · refine Keeps.ite ?_ ?_
    · refine State.refreshMmreq_keeps (sub_of rfl hK) ?_
      refine State.publishConditions_keeps (sub_of rfl hK) ?_
      refine State.modeDeadline_keeps (sub_of rfl hK) ?_
      refine State.refreshPhase_keeps (sub_of rfl hK) ?_
      refine State.lvBoundary_keeps (sub_of rfl hK) ?_
      refine State.drvMissCheck_keeps (sub_of rfl hK) ?_
      refine State.drvMissCheck_keeps (sub_of rfl hK) ?_
      exact h
    · exact h

theorem execModeEnteringDone_keeps {K : Nat} {s0 s : State} (hK : 2204870009734 ||| K = K) (h : Keeps K s0 s) :
    Answers K s0 (execModeEnteringDone s) := by
  unfold execModeEnteringDone
  refine Answers.next ?_
  refine Keeps.ite ?_ ?_
  · exact h
  · refine Keeps.ite ?_ ?_
    · refine State.modeArrived_keeps (sub_of rfl hK) ?_
      exact h
    · exact h

theorem execModeEntryRecheck_keeps {K : Nat} {s0 s : State} (hK : 664069 ||| K = K) (h : Keeps K s0 s) :
    Answers K s0 (execModeEntryRecheck s) := by
  unfold execModeEntryRecheck
  refine Answers.next ?_
  split
  · exact h
  · refine Keeps.ite ?_ ?_
    · exact h
    · refine Keeps.ite ?_ ?_
      · refine State.modMode_keeps (sub_of rfl hK) ?_
        refine State.reach_keeps (sub_of rfl hK) ?_
        exact h
      · refine Keeps.ite ?_ ?_
        · refine State.modeLeave_keeps (sub_of rfl hK) ?_
          refine State.modMode_keeps (sub_of rfl hK) ?_
          refine State.reach_keeps (sub_of rfl hK) ?_
          exact h
        · refine State.refuseMode_keeps (sub_of rfl hK) ?_
          refine State.putNat_keeps (sub_of rfl hK) ?_
          refine State.modMode_keeps (sub_of rfl hK) ?_
          refine State.reach_keeps (sub_of rfl hK) ?_
          exact h

theorem execModeLeavingDone_keeps {K : Nat} {s0 s : State} (hK : 2203318903302 ||| K = K) (h : Keeps K s0 s) :
    Answers K s0 (execModeLeavingDone s) := by
  unfold execModeLeavingDone
  refine Answers.next ?_
  refine Keeps.ite ?_ ?_
  · exact h
  · refine Keeps.ite ?_ ?_
    · exact h
    · refine State.modeLeft_keeps (sub_of rfl hK) ?_
      exact h

theorem execSystemBoundary1ms_keeps {K : Nat} {s0 s : State} (hK : 2447569286039 ||| K = K) (h : Keeps K s0 s) :
    Answers K s0 (execSystemBoundary1ms s) := by
  unfold execSystemBoundary1ms
  refine Answers.next ?_
  refine Keeps.ite ?_ ?_
  · refine State.boundaryTeams_keeps (sub_of rfl hK) ?_
    refine State.boundaryBlocks_keeps (sub_of rfl hK) ?_
    refine State.reach_keeps (sub_of rfl hK) ?_
    exact h
  · exact h

/-! ## Paddock -/

theorem State.paddockRefuse_keeps {K : Nat} {s0 s : State} {core id} (hK : 258 ||| K = K) (h : Keeps K s0 s) :
    Keeps K s0 (State.paddockRefuse s core id) := by
  unfold State.paddockRefuse
  refine State.accessFault_keeps (sub_of rfl hK) ?_
  refine State.wr_keeps (sub_of rfl hK) ?_
  refine State.wr_keeps (sub_of rfl hK) ?_
  refine State.inc_keeps (sub_of rfl hK) ?_
  exact h

theorem State.coreAsk_keeps {K : Nat} {s0 s : State} {a k} (hK : 640 ||| K = K) (h : Keeps K s0 s) :
    Keeps K s0 (State.coreAsk s a k) := by
  unfold State.coreAsk
  refine State.bankAsk_keeps (sub_of rfl hK) ?_
  refine State.drawWord_keeps (sub_of rfl hK) ?_
  exact h

theorem State.coreAccess_keeps {K : Nat} {s0 s : State} {core a size store} (hK : 896 ||| K = K) (h : Keeps K s0 s) :
    Keeps K s0 (State.coreAccess s core a size store) := by
  unfold State.coreAccess
  refine State.access_keeps (sub_of rfl hK) ?_ ?_
  · exact h
  · intro s1 h2
    split
    · refine State.coreAsk_keeps (sub_of rfl hK) ?_
      exact h2
    · refine Keeps.ite ?_ ?_
      · refine State.coreAsk_keeps (sub_of rfl hK) ?_
        exact h2
      · refine Keeps.ite ?_ ?_
        · refine State.coreAsk_keeps (sub_of rfl hK) ?_
          exact h2
        · refine State.accessFault_keeps (sub_of rfl hK) ?_
          exact h2

theorem State.pathWrite_keeps {K : Nat} {s0 s : State} {id v ts quality ovr lost subst} (hK : 2204400247558 ||| K = K) (h : Keeps K s0 s) :
    Keeps K s0 (State.pathWrite s id v ts quality ovr lost subst) := by
  unfold State.pathWrite
  refine State.watchWrite_keeps (sub_of rfl hK) ?_
  refine State.latchWrite_keeps (sub_of rfl hK) ?_
  refine State.putSig_keeps (sub_of rfl hK) ?_
  exact h

theorem State.paddockDrop_keeps {K : Nat} {s0 s : State} {id} (hK : 2 ||| K = K) (h : Keeps K s0 s) :
    Keeps K s0 (State.paddockDrop s id) := by
  unfold State.paddockDrop
  refine State.wr_keeps (sub_of rfl hK) ?_
  refine State.inc_keeps (sub_of rfl hK) ?_
  exact h

theorem State.readInto_keeps {K : Nat} {s0 s : State} {e l d sel start v} (hK : 8194 ||| K = K) (h : Keeps K s0 s) :
    Keeps K s0 (State.readInto s e l d sel start v) := by
  unfold State.readInto
  refine Keeps.ite ?_ ?_
  · refine State.dSet_keeps (sub_of rfl hK) ?_
    exact h
  · exact h

theorem State.lawReadDone_keeps {K : Nat} {s0 s : State} {sig e l d sel start due} (hK : 8194 ||| K = K) (h : Keeps K s0 s) :
    Keeps K s0 (State.lawReadDone s sig e l d sel start due) := by
  unfold State.lawReadDone
  refine State.regsReady_keeps (sub_of rfl hK) ?_
  refine State.placeFree_keeps (sub_of rfl hK) ?_
  refine State.readInto_keeps (sub_of rfl hK) ?_
  exact h

theorem State.tableResult_keeps {K : Nat} {s0 s : State} {e l t} (hK : 8194 ||| K = K) (h : Keeps K s0 s) :
    Keeps K s0 (State.tableResult s e l t) := by
  unfold State.tableResult
  refine State.regsReady_keeps (sub_of rfl hK) ?_
  refine State.readInto_keeps (sub_of rfl hK) ?_
  refine State.readInto_keeps (sub_of rfl hK) ?_
  exact h

theorem State.lawTableDone_keeps {K : Nat} {s0 s : State} {sig e l tab corner} (hK : 8194 ||| K = K) (h : Keeps K s0 s) :
    Keeps K s0 (State.lawTableDone s sig e l tab corner) := by
  unfold State.lawTableDone
  try dsimp only
  split
  · refine State.placeFree_keeps (sub_of rfl hK) ?_
    exact h
  · refine Keeps.ite ?_ ?_
    · refine State.modLaw_keeps (sub_of rfl hK) ?_
      refine State.placeFree_keeps (sub_of rfl hK) ?_
      exact h
    · refine State.tableResult_keeps (sub_of rfl hK) ?_
      refine State.modLaw_keeps (sub_of rfl hK) ?_
      refine State.placeFree_keeps (sub_of rfl hK) ?_
      exact h

theorem State.coreWriteDone_keeps {K : Nat} {s0 s : State} {core a size v} (hK : 2204400247558 ||| K = K) (h : Keeps K s0 s) :
    Keeps K s0 (State.coreWriteDone s core a size v) := by
  unfold State.coreWriteDone
  refine Keeps.ite ?_ ?_
  · refine State.paddockRefuse_keeps (sub_of rfl hK) ?_
    exact h
  · refine Keeps.ite ?_ ?_
    · refine State.pathWrite_keeps (sub_of rfl hK) ?_
      exact h
    · refine State.pathWrite_keeps (sub_of rfl hK) ?_
      exact h

theorem State.descWriteDone_keeps {K : Nat} {s0 s : State} {core id v} (hK : 780 ||| K = K) (h : Keeps K s0 s) :
    Keeps K s0 (State.descWriteDone s core id v) := by
  unfold State.descWriteDone
  refine Keeps.ite ?_ ?_
  · refine State.accessFault_keeps (sub_of rfl hK) ?_
    exact h
  · refine State.putSig_keeps (sub_of rfl hK) ?_
    refine State.setDesc_keeps (sub_of rfl hK) ?_
    exact h

theorem State.bankPerform_keeps {K : Nat} {s0 s : State} {a} (hK : 2204400250782 ||| K = K) (h : Keeps K s0 s) :
    Keeps K s0 (State.bankPerform s a) := by
  unfold State.bankPerform
  have hw : ∀ (c : Bool) (v : Word) (ts q : Nat) (o l b : Bool),
      Keeps K s0 (if c then s.pathWrite a.sig v ts q o l b else s.paddockDrop a.sig) := fun c v ts q o l b =>
    Keeps.ite (State.pathWrite_keeps (sub_of rfl hK) h) (State.paddockDrop_keeps (sub_of rfl hK) h)
  split
  · rename_i u k val quality ovr ts lastOf urgentOf _
    dsimp only
    have h1 := hw (s.pathOwns a.sig 2 (16 * u + k)) (Wi val) ts quality ovr false false
    generalize (if s.pathOwns a.sig 2 (16 * u + k) then s.pathWrite a.sig (Wi val) ts quality ovr false false else
      s.paddockDrop a.sig) = s1 at h1 ⊢
    cases lastOf <;> cases urgentOf
    · exact h1
    · exact State.urgentAnswer_keeps (sub_of rfl hK) h1
    · exact State.sequenceComplete_keeps (sub_of rfl hK) h1
    · exact State.urgentAnswer_keeps (sub_of rfl hK) (State.sequenceComplete_keeps (sub_of rfl hK) h1)
  · exact State.lawReadDone_keeps (sub_of rfl hK) h
  · exact State.lawTableDone_keeps (sub_of rfl hK) h
  · exact State.placeFree_keeps (sub_of rfl hK) (hw _ _ _ _ _ _ _)
  · exact State.unpacked_keeps (sub_of rfl hK) (hw _ _ _ _ _ _ _)
  · exact State.recordCopy_keeps (sub_of rfl hK) h
  · exact State.modCore_keeps (sub_of rfl hK) h
  · exact State.coreWriteDone_keeps (sub_of rfl hK) h
  · exact State.descWriteDone_keeps (sub_of rfl hK) h
  · exact State.sweepNext_keeps (sub_of rfl hK) (State.sweepSignal_keeps (sub_of rfl hK) h)

theorem execDescriptorWrite_keeps {K : Nat} {s0 s : State} {core a size v} (hK : 896 ||| K = K) (h : Keeps K s0 s) :
    Answers K s0 (execDescriptorWrite core a size v s) := by
  unfold execDescriptorWrite
  refine Answers.ofUnit ?_
  refine State.coreAccess_keeps (sub_of rfl hK) ?_
  exact h

theorem execPaddockBankAccess_keeps {K : Nat} {s0 s : State} {b} (hK : 2204400250783 ||| K = K) (h : Keeps K s0 s) :
    Answers K s0 (execPaddockBankAccess b s) := by
  unfold execPaddockBankAccess
  refine Answers.ofUnit ?_
  refine Keeps.ite ?_ ?_
  · exact h
  · split
    · exact h
    · refine State.bankPerform_keeps (sub_of rfl hK) ?_
      refine State.modPaddock_keeps (sub_of rfl hK) ?_
      refine State.reach_keeps (sub_of rfl hK) ?_
      exact h

theorem execPaddockCoreWrite_keeps {K : Nat} {s0 s : State} {core a size v} (hK : 896 ||| K = K) (h : Keeps K s0 s) :
    Answers K s0 (execPaddockCoreWrite core a size v s) := by
  unfold execPaddockCoreWrite
  refine Answers.ofUnit ?_
  refine State.coreAccess_keeps (sub_of rfl hK) ?_
  exact h

/-! ## Power -/

theorem execDomainReinitDone_keeps {K : Nat} {s0 s : State} {d} (hK : 17592186044399 ||| K = K) (h : Keeps K s0 s) :
    Answers K s0 (execDomainReinitDone d s) := by
  unfold execDomainReinitDone
  refine Answers.ofUnit ?_
  split
  · refine State.reinitDone_keeps (sub_of rfl hK) ?_
    exact h
  · exact h

theorem execDomainTransitionDone_keeps {K : Nat} {s0 s : State} {d} (hK : 15397476136711 ||| K = K) (h : Keeps K s0 s) :
    Answers K s0 (execDomainTransitionDone d s) := by
  unfold execDomainTransitionDone
  refine Answers.ofUnit ?_
  split
  · refine State.transitionDone_keeps (sub_of rfl hK) ?_
    exact h
  · exact h

theorem execPlugDetection_keeps {K : Nat} {s0 s : State} (hK : 6601365398278 ||| K = K) (h : Keeps K s0 s) :
    Answers K s0 (execPlugDetection s) := by
  unfold execPlugDetection
  refine Answers.next ?_
  refine Keeps.ite ?_ ?_
  · refine State.keeperWake_keeps (sub_of rfl hK) ?_
    exact h
  · exact h

theorem execPowerRequest_keeps {K : Nat} {s0 s : State} {core v} (hK : 6601369871238 ||| K = K) (h : Keeps K s0 s) :
    Answers K s0 (execPowerRequest core v s) := by
  unfold execPowerRequest
  refine Answers.ofUnit ?_
  refine State.byCore_keeps (sub_of rfl hK) ?_ ?_
  · exact h
  · intro s1 h2
    refine State.powerRequest_keeps (sub_of rfl hK) ?_
    exact h2

theorem execRtcAlarm_keeps {K : Nat} {s0 s : State} (hK : 6601365398278 ||| K = K) (h : Keeps K s0 s) :
    Answers K s0 (execRtcAlarm s) := by
  unfold execRtcAlarm
  refine Answers.next ?_
  refine Keeps.ite ?_ ?_
  · exact h
  · refine State.keeperWake_keeps (sub_of rfl hK) ?_
    exact h

theorem execWakePinRise_keeps {K : Nat} {s0 s : State} (hK : 6601365398278 ||| K = K) (h : Keeps K s0 s) :
    Answers K s0 (execWakePinRise s) := by
  unfold execWakePinRise
  refine Answers.next ?_
  refine Keeps.ite ?_ ?_
  · exact h
  · refine State.keeperWake_keeps (sub_of rfl hK) ?_
    exact h

/-! ## ReadOps -/

theorem State.dtbRead_keeps {K : Nat} {s0 s : State} {core} (hK : 256 ||| K = K) (h : Keeps K s0 s) :
    Keeps K s0 (State.dtbRead s core) := by
  unfold State.dtbRead
  refine State.modCore_keeps (sub_of rfl hK) ?_
  refine State.returns_keeps (sub_of rfl hK) ?_
  exact h

theorem State.plainRead_keeps {K : Nat} {s0 s : State} {core a} (hK : 2 ||| K = K) (h : Keeps K s0 s) :
    Keeps K s0 (State.plainRead s core a).2 := by
  unfold State.plainRead
  split
  · split
    · exact h
    · refine State.wr_keeps (sub_of rfl hK) ?_
      exact h
  · exact h

theorem State.registerRead_keeps {K : Nat} {s0 s : State} {core a} (hK : 4456834 ||| K = K) (h : Keeps K s0 s) :
    Keeps K s0 (State.registerRead s core a) := by
  unfold State.registerRead
  refine Keeps.ite ?_ ?_
  · refine State.dtbRead_keeps (sub_of rfl hK) ?_
    exact h
  · refine Keeps.ite ?_ ?_
    · refine State.fwqRead_keeps (sub_of rfl hK) ?_
      exact h
    · refine Keeps.ite ?_ ?_
      · refine Keeps.ite ?_ ?_
        · refine State.irqClaim_keeps (sub_of rfl hK) ?_
          exact h
        · refine State.returns_keeps (sub_of rfl hK) ?_
          exact h
      · refine Keeps.ite ?_ ?_
        · refine State.returns_keeps (sub_of rfl hK) ?_
          refine State.drawWord_keeps (sub_of rfl hK) ?_
          exact h
        · refine State.returns_keeps (sub_of rfl hK) ?_
          refine State.plainRead_keeps (sub_of rfl hK) ?_
          exact h

theorem State.narrowRead_keeps {K : Nat} {s0 s : State} {core a size} (hK : 384 ||| K = K) (h : Keeps K s0 s) :
    Keeps K s0 (State.narrowRead s core a size) := by
  unfold State.narrowRead
  refine Keeps.ite ?_ ?_
  · refine State.returns_keeps (sub_of rfl hK) ?_
    exact h
  · refine State.returns_keeps (sub_of rfl hK) ?_
    refine State.drawWord_keeps (sub_of rfl hK) ?_
    exact h

theorem State.coreLoad_keeps {K : Nat} {s0 s : State} {core a size} (hK : 4457346 ||| K = K) (h : Keeps K s0 s) :
    Keeps K s0 (State.coreLoad s core a size) := by
  unfold State.coreLoad
  refine Keeps.ite ?_ ?_
  · refine State.coreAccess_keeps (sub_of rfl hK) ?_
    exact h
  · refine Keeps.ite ?_ ?_
    · refine State.access_keeps (sub_of rfl hK) ?_ ?_
      · exact h
      · intro s1 h2
        refine Keeps.ite ?_ ?_
        · refine State.registerRead_keeps (sub_of rfl hK) ?_
          exact h2
        · refine State.narrowRead_keeps (sub_of rfl hK) ?_
          exact h2
    · refine State.access_keeps (sub_of rfl hK) ?_ ?_
      · exact h
      · intro s3 h4
        refine State.modCore_keeps (sub_of rfl hK) ?_
        exact h4

/-! ## Registers -/

theorem State.fwTaken_keeps {K : Nat} {s0 s : State} {core i f} (hK : 2 ||| K = K) (h : Keeps K s0 s)
    (hf : ∀ t, Keeps K s0 t → Keeps K s0 (f t)) :
    Keeps K s0 (State.fwTaken s core i f) := by
  unfold State.fwTaken
  split
  · exact hf s h
  · exact State.brdErr_keeps (sub_of rfl hK) h

theorem State.sramStore_keeps {K : Nat} {s0 s : State} {a v} (hK : 16 ||| K = K) (h : Keeps K s0 s) :
    Keeps K s0 (State.sramStore s a v) := by
  unfold State.sramStore
  refine State.sramWrite_keeps (sub_of rfl hK) ?_
  exact h

theorem State.brdWrite_keeps {K : Nat} {s0 s : State} {core a v} (hK : 4194306 ||| K = K) (h : Keeps K s0 s) :
    Keeps K s0 (State.brdWrite s core a v) := by
  unfold State.brdWrite
  dsimp only
  refine Keeps.ite (Keeps.ite (State.setf_keeps (sub_of rfl hK) (State.wrExcept_keeps (sub_of rfl hK) h)) (State.wrExcept_keeps (sub_of rfl hK) h)) (Keeps.ite ?_ (Keeps.ite ?_
    (Keeps.ite ?_ (Keeps.ite h (State.wrReg_keeps (sub_of rfl hK) h)))))
  · exact State.fwTaken_keeps (sub_of rfl hK) h (fun s1 h1 => State.modBridle_keeps (sub_of rfl hK) h1 (fun _ hc => hc))
  · exact State.fwTaken_keeps (sub_of rfl hK) h (fun s1 h1 => State.modSlot_keeps (sub_of rfl hK) h1)
  · exact State.fwTaken_keeps (sub_of rfl hK) h (fun s1 h1 => State.wrReg_keeps (sub_of rfl hK) h1)

theorem execDtbLoRead_keeps {K : Nat} {s0 s : State} {core} (hK : 384 ||| K = K) (h : Keeps K s0 s) :
    Answers K s0 (execDtbLoRead core s) := by
  unfold execDtbLoRead
  refine Answers.ofUnit ?_
  refine State.byCore_keeps (sub_of rfl hK) ?_ ?_
  · exact h
  · intro s1 h2
    refine State.dtbRead_keeps (sub_of rfl hK) ?_
    exact h2

theorem execRcCounterRead_keeps {K : Nat} {s0 s : State} {core a} (hK : 4457346 ||| K = K) (h : Keeps K s0 s) :
    Answers K s0 (execRcCounterRead core a s) := by
  unfold execRcCounterRead
  refine Answers.ofUnit ?_
  refine State.coreLoad_keeps (sub_of rfl hK) ?_
  exact h

theorem execRegisterWrite_keeps {K : Nat} {s0 s : State} {core a v} (hK : 3028027437974 ||| K = K) (h : Keeps K s0 s) :
    Answers K s0 (execRegisterWrite core a v s) := by
  unfold execRegisterWrite
  refine Answers.ofUnit ?_
  refine Keeps.ite ?_ ?_
  · refine State.byCore_keeps (sub_of rfl hK) ?_ ?_
    · exact h
    · intro s1 h2
      refine State.sramStore_keeps (sub_of rfl hK) ?_
      exact h2
  · refine Keeps.ite ?_ ?_
    · refine State.coreAccess_keeps (sub_of rfl hK) ?_
      exact h
    · refine State.access_keeps (sub_of rfl hK) ?_ ?_
      · exact h
      · intro s3 h4
        refine Keeps.ite ?_ ?_
        · refine State.brdWrite_keeps (sub_of rfl hK) ?_
          exact h4
        · refine State.blockWrite_keeps (sub_of rfl hK) ?_
          exact h4

/-! ## Security -/

theorem State.debugOpen_keeps {K : Nat} {s0 s : State} {level} (hK : 2203334894342 ||| K = K) (h : Keeps K s0 s) :
    Keeps K s0 (State.debugOpen s level) := by
  unfold State.debugOpen
  refine State.modSecure_keeps (sub_of rfl hK) ?_
  refine State.setf_keeps (sub_of rfl hK) ?_
  refine Keeps.ite ?_ ?_
  · refine State.receive_keeps (sub_of rfl hK) ?_
    exact h
  · exact h

theorem State.secErr_keeps {K : Nat} {s0 s : State} (hK : 2 ||| K = K) (h : Keeps K s0 s) :
    Keeps K s0 (State.secErr s) := by
  unfold State.secErr
  refine State.setf_keeps (sub_of rfl hK) ?_
  exact h

theorem State.secAccess_keeps {K : Nat} {s0 s : State} {core f} (hK : 384 ||| K = K) (h : Keeps K s0 s)
    (hf : ∀ t, Keeps K s0 t → Keeps K s0 (f t)) :
    Keeps K s0 (State.secAccess s core f) := by
  exact State.access_keeps (sub_of rfl hK) h hf

theorem State.raiseCounters_keeps {K : Nat} {s0 s : State} (hK : 2 ||| K = K) (h : Keeps K s0 s) :
    Keeps K s0 (State.raiseCounters s) := by
  unfold State.raiseCounters
  refine State.each_keeps ?_ ?_
  · exact h
  · intro s1 _ h2
    refine Keeps.ite ?_ ?_
    · refine State.setf_keeps (sub_of rfl hK) ?_
      exact h2
    · exact h2

theorem State.debugFailed_keeps {K : Nat} {s0 s : State} (hK : 2 ||| K = K) (h : Keeps K s0 s) :
    Keeps K s0 (State.debugFailed s) := by
  unfold State.debugFailed
  refine State.setb_keeps (sub_of rfl hK) ?_
  refine State.setf_keeps (sub_of rfl hK) ?_
  exact h

theorem State.resetCores_keeps {K : Nat} {s0 s : State} (hK : 277059338498 ||| K = K) (h : Keeps K s0 s) :
    Keeps K s0 (State.resetCores s) := by
  exact Keeps.set_regs_cores_mode_irqPend_drives_lv_harn (sub_of rfl hK) h (fun i => sparseWf_filter i _) (fun i => by simp [show s.cores.length = 6 from i]) (fun i => (List.length_set ..).trans i) (fun i => by simpa using i) (fun i => (List.length_set ..).trans i)

theorem execBootConfirm_keeps {K : Nat} {s0 s : State} {core} (hK : 4398046511490 ||| K = K) (h : Keeps K s0 s) :
    Answers K s0 (execBootConfirm core s) := by
  unfold execBootConfirm
  refine Answers.ofUnit ?_
  refine State.secAccess_keeps (sub_of rfl hK) ?_ ?_
  · exact h
  · intro s1 h2
    refine Keeps.ite ?_ ?_
    · refine State.raiseCounters_keeps (sub_of rfl hK) ?_
      refine State.programRecord_keeps (sub_of rfl hK) ?_
      exact h2
    · refine State.accessFault_keeps (sub_of rfl hK) ?_
      exact h2

theorem execDebugChallengeExpiry_keeps {K : Nat} {s0 s : State} (hK : 8388609 ||| K = K) (h : Keeps K s0 s) :
    Answers K s0 (execDebugChallengeExpiry s) := by
  unfold execDebugChallengeExpiry
  refine Answers.next ?_
  split
  · refine State.modSecure_keeps (sub_of rfl hK) ?_
    refine State.reach_keeps (sub_of rfl hK) ?_
    exact h
  · exact h

theorem execDebugChallengeRead_keeps {K : Nat} {s0 s : State} (hK : 8388738 ||| K = K) (h : Keeps K s0 s) :
    Answers K s0 (execDebugChallengeRead s) := by
  unfold execDebugChallengeRead
  refine Answers.next ?_
  refine Keeps.ite ?_ ?_
  · exact h
  · refine State.modSecure_keeps (sub_of rfl hK) ?_
    refine State.forN_keeps ?_ ?_
    · refine State.drawBytes_keeps (sub_of rfl hK) ?_
      exact h
    · intro s1 _ h2
      refine State.wr_keeps (sub_of rfl hK) ?_
      exact h2

theorem execDebugReset_keeps {K : Nat} {s0 s : State} (hK : 17592186044398 ||| K = K) (h : Keeps K s0 s) :
    Answers K s0 (execDebugReset s) := by
  unfold execDebugReset
  refine Answers.next ?_
  refine Keeps.ite ?_ ?_
  · exact h
  · refine State.wr_keeps (sub_of rfl hK) ?_
    refine State.modBoot_keeps (sub_of rfl hK) ?_
    refine State.resetCores_keeps (sub_of rfl hK) ?_
    refine Keeps.foldl ?_ _ ?_
    · intro s1 _ h2
      refine State.resetDomain_keeps (sub_of rfl hK) ?_
      exact h2
    · refine State.setf_keeps (sub_of rfl hK) ?_
      refine State.resetCause_keeps (sub_of rfl hK) ?_
      refine State.receive_keeps (sub_of rfl hK) ?_
      exact h

theorem execDebugUnlock_keeps {K : Nat} {s0 s : State} (hK : 8388610 ||| K = K) (h : Keeps K s0 s) :
    Answers K s0 (execDebugUnlock s) := by
  unfold execDebugUnlock
  refine Answers.next ?_
  refine Keeps.ite ?_ ?_
  · exact h
  · refine State.modSecure_keeps (sub_of rfl hK) ?_
    refine State.setf_keeps (sub_of rfl hK) ?_
    exact h

theorem execDebugUnlockDone_keeps {K : Nat} {s0 s : State} (hK : 2203334894342 ||| K = K) (h : Keeps K s0 s) :
    Answers K s0 (execDebugUnlockDone s) := by
  unfold execDebugUnlockDone
  refine Answers.next ?_
  refine Keeps.ite ?_ ?_
  · exact h
  · refine State.irq_keeps (sub_of rfl hK) ?_
    refine Keeps.ite ?_ ?_
    · refine State.debugOpen_keeps (sub_of rfl hK) ?_
      refine State.modSecure_keeps (sub_of rfl hK) ?_
      refine State.setf_keeps (sub_of rfl hK) ?_
      exact h
    · refine State.debugFailed_keeps (sub_of rfl hK) ?_
      refine State.modSecure_keeps (sub_of rfl hK) ?_
      refine State.setf_keeps (sub_of rfl hK) ?_
      exact h

theorem execImageVerify_keeps {K : Nat} {s0 s : State} {core v} (hK : 8388994 ||| K = K) (h : Keeps K s0 s) :
    Answers K s0 (execImageVerify core v s) := by
  unfold execImageVerify
  refine Answers.ofUnit ?_
  refine State.secAccess_keeps (sub_of rfl hK) ?_ ?_
  · exact h
  · intro s1 h2
    refine Keeps.ite ?_ ?_
    · refine State.secErr_keeps (sub_of rfl hK) ?_
      exact h2
    · refine Keeps.ite ?_ ?_
      · refine State.modSecure_keeps (sub_of rfl hK) ?_
        refine State.setf_keeps (sub_of rfl hK) ?_
        exact h2
      · exact h2

theorem execImageVerifyDone_keeps {K : Nat} {s0 s : State} (hK : 2203327537926 ||| K = K) (h : Keeps K s0 s) :
    Answers K s0 (execImageVerifyDone s) := by
  unfold execImageVerifyDone
  refine Answers.next ?_
  split
  · exact h
  · refine State.irq_keeps (sub_of rfl hK) ?_
    refine State.modSecure_keeps (sub_of rfl hK) ?_
    refine State.setf_keeps (sub_of rfl hK) ?_
    refine State.setf_keeps (sub_of rfl hK) ?_
    refine State.setf_keeps (sub_of rfl hK) ?_
    refine State.setf_keeps (sub_of rfl hK) ?_
    exact h

theorem execMeasurementExtend_keeps {K : Nat} {s0 s : State} {core n} (hK : 386 ||| K = K) (h : Keeps K s0 s) :
    Answers K s0 (execMeasurementExtend core n s) := by
  unfold execMeasurementExtend
  refine Answers.ofUnit ?_
  refine State.secAccess_keeps (sub_of rfl hK) ?_ ?_
  · exact h
  · intro s1 h2
    refine Keeps.ite ?_ ?_
    · refine State.extend_keeps (sub_of rfl hK) ?_
      exact h2
    · refine State.secErr_keeps (sub_of rfl hK) ?_
      exact h2

/-! ## Teams -/

theorem execDoubleBitL1Error_keeps {K : Nat} {s0 s : State} {core} (hK : 258 ||| K = K) (h : Keeps K s0 s) :
    Answers K s0 (execDoubleBitL1Error core s) := by
  unfold execDoubleBitL1Error
  refine Answers.ofUnit ?_
  refine Keeps.ite ?_ ?_
  · exact h
  · refine State.inc_keeps (sub_of rfl hK) ?_
    refine State.accessFault_keeps (sub_of rfl hK) ?_
    exact h

theorem execForcedBarrier_keeps {K : Nat} {s0 s : State} {t} (hK : 274877906947 ||| K = K) (h : Keeps K s0 s) :
    Answers K s0 (execForcedBarrier t s) := by
  unfold execForcedBarrier
  refine Answers.ofUnit ?_
  split
  · refine Keeps.ite ?_ ?_
    · refine State.startBarrier_keeps (sub_of rfl hK) ?_
      refine State.reach_keeps (sub_of rfl hK) ?_
      exact h
    · exact h
  · exact h

theorem execIrqClaim_keeps {K : Nat} {s0 s : State} {core} (hK : 262528 ||| K = K) (h : Keeps K s0 s) :
    Answers K s0 (execIrqClaim core s) := by
  unfold execIrqClaim
  refine Answers.ofUnit ?_
  refine State.byCore_keeps (sub_of rfl hK) ?_ ?_
  · exact h
  · intro s1 h2
    refine State.irqClaim_keeps (sub_of rfl hK) ?_
    exact h2

theorem execIrqComplete_keeps {K : Nat} {s0 s : State} {core _v} (hK : 384 ||| K = K) (h : Keeps K s0 s) :
    Answers K s0 (execIrqComplete core _v s) := by
  unfold execIrqComplete
  refine Answers.ofUnit ?_
  refine State.byCore_keeps (sub_of rfl hK) ?_ ?_
  · exact h
  · intro s1 h2
    exact h2

theorem execMachineTimerInterrupt_keeps {K : Nat} {s0 s : State} {core} (hK : 2203318887175 ||| K = K) (h : Keeps K s0 s) :
    Answers K s0 (execMachineTimerInterrupt core s) := by
  unfold execMachineTimerInterrupt
  refine Answers.ofUnit ?_
  refine Keeps.ite ?_ ?_
  · exact h
  · refine Keeps.ite ?_ ?_
    · refine State.wakeTeam_keeps (sub_of rfl hK) ?_
      refine State.reach_keeps (sub_of rfl hK) ?_
      exact h
    · refine State.each_keeps ?_ ?_
      · refine State.reach_keeps (sub_of rfl hK) ?_
        exact h
      · intro s1 _ h2
        refine State.modTeamCore_keeps (sub_of rfl hK) ?_
        exact h2

theorem execMartingaleFatalReset_keeps {K : Nat} {s0 s : State} (hK : 17587891077103 ||| K = K) (h : Keeps K s0 s) :
    Answers K s0 (execMartingaleFatalReset s) := by
  unfold execMartingaleFatalReset
  refine Answers.next ?_
  split
  · refine State.warmReset_keeps (sub_of rfl hK) ?_
    refine State.reach_keeps (sub_of rfl hK) ?_
    exact h
  · exact h

theorem execNoMajorityMismatch_keeps {K : Nat} {s0 s : State} {t kind odd} (hK : 2745492710150 ||| K = K) (h : Keeps K s0 s) :
    Answers K s0 (execNoMajorityMismatch t kind odd s) := by
  unfold execNoMajorityMismatch
  refine Answers.ofUnit ?_
  refine Keeps.ite ?_ ?_
  · exact h
  · refine State.noMajority_keeps (sub_of rfl hK) ?_
    exact h

theorem execReharnessDone_keeps {K : Nat} {s0 s : State} {t stall} (hK : 274877907203 ||| K = K) (h : Keeps K s0 s) :
    Answers K s0 (execReharnessDone t stall s) := by
  unfold execReharnessDone
  refine Answers.ofUnit ?_
  split
  · refine Keeps.ite ?_ ?_
    · refine State.reharness_keeps (sub_of rfl hK) ?_
      refine State.reach_keeps (sub_of rfl hK) ?_
      exact h
    · exact h
  · exact h

theorem execReharnessFence_keeps {K : Nat} {s0 s : State} {core req} (hK : 274877906946 ||| K = K) (h : Keeps K s0 s) :
    Answers K s0 (execReharnessFence core req s) := by
  unfold execReharnessFence
  refine Answers.ofUnit ?_
  refine Keeps.ite ?_ ?_
  · exact h
  · refine State.reharnessFence_keeps (sub_of rfl hK) ?_
    exact h

theorem execRejoinDone_keeps {K : Nat} {s0 s : State} {t stall} (hK : 6876247778055 ||| K = K) (h : Keeps K s0 s) :
    Answers K s0 (execRejoinDone t stall s) := by
  unfold execRejoinDone
  refine Answers.ofUnit ?_
  split
  · refine Keeps.ite ?_ ?_
    · refine State.rejoin_keeps (sub_of rfl hK) ?_
      refine State.reach_keeps (sub_of rfl hK) ?_
      exact h
    · exact h
  · exact h

theorem execRejoinRequest_keeps {K : Nat} {s0 s : State} {core v} (hK : 274877907330 ||| K = K) (h : Keeps K s0 s) :
    Answers K s0 (execRejoinRequest core v s) := by
  unfold execRejoinRequest
  refine Answers.ofUnit ?_
  refine State.access_keeps (sub_of rfl hK) ?_ ?_
  · exact h
  · intro s1 h2
    refine Keeps.ite ?_ ?_
    · refine State.startBarrier_keeps (sub_of rfl hK) ?_
      exact h2
    · exact h2

theorem execSoftwareInterrupt_keeps {K : Nat} {s0 s : State} {core clear v} (hK : 2203319149446 ||| K = K) (h : Keeps K s0 s) :
    Answers K s0 (execSoftwareInterrupt core clear v s) := by
  unfold execSoftwareInterrupt
  refine Answers.ofUnit ?_
  refine State.access_keeps (sub_of rfl hK) ?_ ?_
  · exact h
  · intro s1 h2
    refine Keeps.ite ?_ ?_
    · refine State.each_keeps ?_ ?_
      · exact h2
      · intro s3 _ h4
        refine Keeps.set_irqPend (sub_of rfl hK) ?_ (fun i => by first | exact i | rfl | simpa using i | (split <;> simpa using i))
        refine State.setf_keeps (sub_of rfl hK) ?_
        exact h4
    · refine State.each_keeps ?_ ?_
      · exact h2
      · intro s5 _ h6
        refine State.irqBy_keeps (sub_of rfl hK) ?_
        refine State.setf_keeps (sub_of rfl hK) ?_
        exact h6

theorem execTeamARelease_keeps {K : Nat} {s0 s : State} {core v} (hK : 4913443120006 ||| K = K) (h : Keeps K s0 s) :
    Answers K s0 (execTeamARelease core v s) := by
  unfold execTeamARelease
  refine Answers.ofUnit ?_
  refine State.access_keeps (sub_of rfl hK) ?_ ?_
  · exact h
  · intro s1 h2
    refine Keeps.ite ?_ ?_
    · refine State.releaseTeamA_keeps (sub_of rfl hK) ?_
      exact h2
    · exact h2

theorem execTroikaMismatch_keeps {K : Nat} {s0 s : State} {t odd kind} (hK : 2745492710150 ||| K = K) (h : Keeps K s0 s) :
    Answers K s0 (execTroikaMismatch t odd kind s) := by
  unfold execTroikaMismatch
  refine Answers.ofUnit ?_
  refine Keeps.ite ?_ ?_
  · exact h
  · refine Keeps.ite ?_ ?_
    · refine State.troikaMismatch_keeps (sub_of rfl hK) ?_
      exact h
    · refine State.noMajority_keeps (sub_of rfl hK) ?_
      exact h

theorem execWatchdogExpiry_keeps {K : Nat} {s0 s : State} {t n} (hK : 17592186044399 ||| K = K) (h : Keeps K s0 s) :
    Answers K s0 (execWatchdogExpiry t n s) := by
  unfold execWatchdogExpiry
  refine Answers.ofUnit ?_
  refine Keeps.ite ?_ ?_
  · refine State.wdgReact_keeps (sub_of rfl hK) ?_
    refine State.reach_keeps (sub_of rfl hK) ?_
    exact h
  · exact h

theorem execWatchdogService_keeps {K : Nat} {s0 s : State} {core n v} (hK : 17592186044398 ||| K = K) (h : Keeps K s0 s) :
    Answers K s0 (execWatchdogService core n v s) := by
  unfold execWatchdogService
  refine Answers.ofUnit ?_
  refine State.access_keeps (sub_of rfl hK) ?_ ?_
  · exact h
  · intro s1 h2
    refine Keeps.ite ?_ ?_
    · exact h2
    · refine Keeps.ite ?_ ?_
      · refine State.wdgReact_keeps (sub_of rfl hK) ?_
        exact h2
      · refine State.modHarn_keeps (sub_of rfl hK) ?_
        exact h2

theorem execWatchdogWarning_keeps {K : Nat} {s0 s : State} {t n} (hK : 2203319149319 ||| K = K) (h : Keeps K s0 s) :
    Answers K s0 (execWatchdogWarning t n s) := by
  unfold execWatchdogWarning
  refine Answers.ofUnit ?_
  refine Keeps.ite ?_ ?_
  · refine State.irq_keeps (sub_of rfl hK) ?_
    refine State.setf_keeps (sub_of rfl hK) ?_
    refine State.reach_keeps (sub_of rfl hK) ?_
    exact h
  · exact h

theorem execWfi_keeps {K : Nat} {s0 s : State} {core} (hK : 6876247778054 ||| K = K) (h : Keeps K s0 s) :
    Answers K s0 (execWfi core s) := by
  unfold execWfi
  refine Answers.ofUnit ?_
  refine Keeps.ite ?_ ?_
  · exact h
  · refine Keeps.ite ?_ ?_
    · exact h
    · refine Keeps.ite ?_ ?_
      · refine State.startBarrier_keeps (sub_of rfl hK) ?_
        refine State.each_keeps ?_ ?_
        · exact h
        · intro s1 _ h2
          refine Keeps.ite ?_ ?_
          · exact h2
          · refine State.modTeamCore_keeps (sub_of rfl hK) ?_
            exact h2
      · refine Keeps.ite ?_ ?_
        · refine State.modHarn_keeps (sub_of rfl hK) ?_
          refine State.each_keeps ?_ ?_
          · exact h
          · intro s3 _ h4
            refine Keeps.ite ?_ ?_
            · exact h4
            · refine State.modTeamCore_keeps (sub_of rfl hK) ?_
              exact h4
        · refine Keeps.ite ?_ ?_
          · refine State.powerEvaluate_keeps (sub_of rfl hK) ?_
            refine State.each_keeps ?_ ?_
            · exact h
            · intro s5 _ h6
              refine Keeps.ite ?_ ?_
              · exact h6
              · refine State.modTeamCore_keeps (sub_of rfl hK) ?_
                exact h6
          · refine State.each_keeps ?_ ?_
            · exact h
            · intro s7 _ h8
              refine Keeps.ite ?_ ?_
              · exact h8
              · refine State.modTeamCore_keeps (sub_of rfl hK) ?_
                exact h8

/-! ## Thermal -/

theorem execEventRecordCopy_keeps {K : Nat} {s0 s : State} (hK : 549755813922 ||| K = K) (h : Keeps K s0 s) :
    Answers K s0 (execEventRecordCopy s) := by
  unfold execEventRecordCopy
  refine Answers.next ?_
  refine State.copyRecord_keeps (sub_of rfl hK) ?_
  exact h

theorem execThermalReenableRequest_keeps {K : Nat} {s0 s : State} {core v} (hK : 549755814272 ||| K = K) (h : Keeps K s0 s) :
    Answers K s0 (execThermalReenableRequest core v s) := by
  unfold execThermalReenableRequest
  refine Answers.ofUnit ?_
  refine State.access_keeps (sub_of rfl hK) ?_ ?_
  · exact h
  · intro s1 h2
    refine Keeps.ite ?_ ?_
    · refine State.modThermal_keeps (sub_of rfl hK) ?_ (by intro c hc; first | exact hc | simpa using hc | (split <;> simpa using hc))
      exact h2
    · exact h2

theorem execZoneEvaluation_keeps {K : Nat} {s0 s : State} {z} (hK : 2753076011911 ||| K = K) (h : Keeps K s0 s) :
    Answers K s0 (execZoneEvaluation z s) := by
  unfold execZoneEvaluation
  refine Answers.ofUnit ?_
  split
  · refine Keeps.ite ?_ ?_
    · refine State.evaluateZone_keeps (sub_of rfl hK) ?_
      refine State.reach_keeps (sub_of rfl hK) ?_
      exact h
    · exact h
  · exact h

end Sys2Proof.Machine
end

