-- ==== Sys2Proof/Laws/KeepsStep.lean ====
section
/-! SUPPORT. What each operation and each command of Machine/Step.lean keeps. -/

set_option linter.unusedVariables false
set_option linter.unusedTactic false
set_option linter.unreachableTactic false

namespace Sys2Proof.Machine

/-! ## Step -/

theorem State.idle_keeps {K : Nat} {s0 s : State} (hK : 1 ||| K = K) (h : Keeps K s0 s) : Keeps K s0 s.idle :=
  Keeps.set_dtb hK h (Nat.le_succ _)

end Sys2Proof.Machine
end

