-- ==== Sys2Proof/Machine/Pins.lean ====
section
/-! DEFINITION. What the module does at its pins: each pin's meaning in the phase it is in, as a function of the state
(spec/22). -/

namespace Sys2Proof.Machine

/-- What the module presents at a pin. -/
inductive PinUse where
  /-- An output at a level; one that is off and pulled down; high impedance; pulled up, pulled down or biased to mid-supply. -/
  | out (level : Bool) | off | highZ | pullUp | pullDown | midBias
  /-- The strap input with its pull-up, the keeper's wake input, the sync clock input. -/
  | strap | wakeIn | syncIn
  /-- The gate-loop source and the gate sense; the sense of a phase node, with ±1 mA during an injection. -/
  | gateLoop | gateSense | sense | source | sink
  /-- A transceiver in standby and recessive, or in use. -/
  | standby | bus
  /-- Plug detection and proximity measurement; the vehicle pilot network without or with S2; the pilot held at +12 V, or
  following a level; measured alone. -/
  | plugDetect | proximity | vehiclePilot (s2 : Bool) | heldPilot | stationPilot (level : Bool) | measureOnly
  /-- The excitation, or 0 V differential. -/
  | excitation (running : Bool)
  deriving DecidableEq, Repr

/-- Phases of the saddle pins (R576). -/
inductive PinPhase where
  | keeper | strap | run
  deriving DecidableEq, Repr

def State.pinPhase (s : State) : PinPhase := if s.inStrap then .strap else if s.inRunPhase then .run else .keeper

/-- An output of a domain, low while the domain is not ON. -/
def State.outOf (s : State) (d : Nat) (level : Bool) : PinUse := .out (s.domainOn d && level)

/-! ## X1 (R567, R569, R579) -/

def State.pinEnReq (s : State) : PinUse := .out s.enReq
/-- BSW_G: BSW_S + 12 V while the battery switch is closed. -/
def State.pinBswG (s : State) : PinUse := .out (s.on Reg.KPR_BSTAT Fld.KPR_BSTAT_closed)
def State.pinBus (s : State) (p : Nat) : PinUse :=
  if s.domainOn 5 && s.on (Reg.BUS_CTRL p) Fld.BUS_CTRL_en && s.on (Reg.BUS_STAT p) Fld.BUS_STAT_awake then .bus else .standby
/-- SIxA and SIxB. -/
def State.pinSi (s : State) : PinUse := if s.domainOn 2 && !s.inStrap then .pullDown else .highZ
/-- TP0-TP3: 12 V with their off-pulses (R417), low while PD2 is not ON; TP0 is the strap input during STRAP. -/
def State.pinTp (s : State) (n : Nat) : PinUse :=
  if s.inStrap then (if n = 0 then .strap else .out false) else s.outOf 2 (!s.inPulse n 0)
/-- SO0-SO3. -/
def State.pinSo (s : State) (n : Nat) : PinUse :=
  if s.domainOn 2 && bit (s.fld Reg.MG_SOSTAT Fld.MG_SOSTAT_on) n then .out true else .off
def State.pinSync (s : State) : PinUse := match s.pinPhase with | .keeper => .highZ | .strap => .strap | .run => .syncIn
/-- WAKE: the wake input, the strap input, or the output of KPR_WOUT. -/
def State.pinWake (s : State) : PinUse :=
  match s.pinPhase with
  | .strap => .strap
  | .run => if s.on Reg.KPR_WOUT Fld.KPR_WOUT_drive then .out true else .wakeIn
  | .keeper => .wakeIn

/-! ## X2 (R570) -/

/-- The excitation of drive `d`, and its winding inputs. -/
def State.pinExc (s : State) (d : Nat) : PinUse := .excitation (s.domainOn 3 && s.on (Reg.RES_CTRL d) Fld.RES_CTRL_en)
def pinResIn : PinUse := .midBias
def pinEnc : PinUse := .pullUp
def pinAnalogue : PinUse := .pullDown
/-- SEN5V_1 and SEN5V_2. -/
def State.pinSen5v (s : State) : PinUse := if s.domainOn 3 then .out true else .off

/-! ## X3 and the press-fit fields (R12, R13, R576, R578) -/

/-- CP. In KEEPER the vehicle network stays connected for plug detection. -/
def State.pinCp (s : State) : PinUse :=
  if s.variant = .d then .highZ
  else if !s.domainOn 3 then .plugDetect
  else if s.fld Reg.INL_CTRL Fld.INL_CTRL_role = 0 then .vehiclePilot (s.on Reg.INL_STAT Fld.INL_STAT_s2_on)
  else if s.running 33 then .stationPilot (s.pgAt 33).hi
  else if s.on Reg.INL_CTRL Fld.INL_CTRL_probe then .heldPilot
  else .measureOnly

def State.pinPp (s : State) : PinUse := if s.variant = .d then .highZ else if s.domainOn 3 then .proximity else .plugDetect

/-- Gnn_GS of channel `n`. -/
def State.pinGs (s : State) (n : Nat) : PinUse :=
  if s.pinPhase ≠ .run then .highZ else if s.hvState n = chProbe then .gateLoop else .gateSense

/-- PH_xx of leg `x` of bridge `b`: ±1 mA in the leg's injection windows (R247). -/
def State.pinPhase_ (s : State) (b x : Nat) : PinUse :=
  if s.pinPhase ≠ .run then .highZ
  else
    let p := s.gate.probe
    let t := s.dtb - p.start
    let at_ := fun us => (us + 600 * x) * Config.usCycles
    if p.bridge = some b && p.linked && at_ 200 ≤ t && t < at_ 450 then .source
    else if p.bridge = some b && p.linked && at_ 500 ≤ t && t < at_ 750 then .sink
    else .sense

end Sys2Proof.Machine
end

