-- ==== Sys2Proof/Tests/Slice0.lean ====
section
/-! SUPPORT. Tests: ill-formed commands, single steps, and for every statement with hypotheses a state and operands that meet them. -/

namespace Sys2Proof.Tests

open Sys2Proof Sys2Proof.Machine

set_option Elab.async false

/-! ## Soundness and the hypotheses of the statements, from what `decide` evaluates -/

/-- `State.Inv`, evaluated. -/
def invB (s : State) : Bool :=
  sparseWf resetWord s.regs && sparseWf sigDefault s.sigs && sparseWf descDefault s.descs && sparseWf sramByte s.sram &&
  sparseWf nvmByte s.nvm && sparseWf nvmByte s.codeNvm && s.cores.length == 6 && s.au.length == 16 && s.joins.length == 8 && s.tt.length == 8 &&
  s.ce.length == 12 && s.ce.all (fun c => c.laws.length == 4) && s.pg.length == 40 && s.tripIn.length == 4 && s.irqPend.length == 2 &&
  s.gate.hv.length == 34 && s.gate.lv.length == 29 && s.mg.drives.length == 2 && s.mg.inputs.length == 8 && s.bus.length == 4 &&
  s.bridle.slots.length == 32 && s.bridle.sess.length == 8 && s.drives.length == 2 && s.charge.length == 2 && s.motors.length == 2 &&
  s.harn.length == 2 && s.thermal.zones.length == 8

theorem inv_of {s : State} (h : invB s = true) : s.Inv := by
  simp only [invB, Bool.and_eq_true, beq_iff_eq, List.all_eq_true] at h
  obtain ⟨⟨⟨⟨⟨⟨⟨⟨⟨⟨⟨⟨⟨⟨⟨⟨⟨⟨⟨⟨⟨⟨⟨⟨⟨⟨h1, h2⟩, h3⟩, h4⟩, h5⟩, h6⟩, h7⟩, h8⟩, h9⟩, h10⟩, h11⟩, h12⟩, h13⟩, h14⟩, h15⟩, h16⟩, h17⟩, h18⟩, h19⟩, h20⟩, h21⟩, h22⟩, h23⟩, h24⟩, h25⟩, h26⟩, h27⟩ := h
  exact ⟨h1, h2, h3, h4, h5, h6, h7, h8, h9, h10, ⟨h11, h12⟩, h13, h14, h15, ⟨h16, h17⟩, ⟨h18, h19⟩, h20, ⟨h21, h22⟩, h23, h24, h25, h26, h27⟩

theorem issues_of {s : State} {e l op : Nat} {fs : List (Field × Nat)} {c : Section} {t : Nat}
    (h : (e < 12 ∧ l < 4) ∧ (∀ f ∈ fs, f.2 < 2 ^ f.1.len) ∧ ((s.lawAt e l).sec.map (s.inPart e l) = some c ∧ (s.lawAt e l).prod = none) ∧ s.rd (Reg.LAW_MEM e c.pc) = canWord op fs ∧
      issueCycle c.sched (s.useOf e l (canWord op fs)) = some t ∧
      (((s.ceAt e).file l c.sel).d.length = 64 ∧ ((s.ceAt e).file l c.sel).tag.length = 64) ∧ (s.ceAt e).acc.length = 4) :
    Issues s e l op fs c t :=
  ⟨h.1, h.2.1, h.2.2.1, h.2.2.2.1, h.2.2.2.2.1, h.2.2.2.2.2.1, h.2.2.2.2.2.2⟩

/-- The fields of `Packet.Reaches`. -/
abbrev reachesB (q : Packet) (opcode : Nat) (s : State) : Prop :=
  (q.p < 4 ∧ s.portLive q.p = true ∧ s.busMode q.p ≠ 3 ∧ s.on (Reg.BUS_BRQ q.p) Fld.BUS_BRQ_en = true) ∧
  s.on (Reg.BUS_CTRL q.p) (if q.xl then Fld.BUS_CTRL_xl else Fld.BUS_CTRL_fd) = true ∧
  ((requestBytes q.n q.seq opcode q.conf q.params q.mac).length ≤ if q.xl then 512 else 64) ∧
  (q.seq < 2 ^ 32 ∧ q.n ≤ 8 ∧ (q.n = 0 ∨ q.mac.length = 8)) ∧ s.bridleOn = true ∧ (s.busAt q.p).replies.length < 32

theorem reaches_of {q : Packet} {opcode : Nat} {s : State} (h : reachesB q opcode s) : q.Reaches opcode s :=
  ⟨h.1, h.2.1, h.2.2.1, h.2.2.2.1, h.2.2.2.2.1, h.2.2.2.2.2⟩

/-- `Packet.InSession`, written out. -/
abbrev sessionB (q : Packet) (s : State) : Prop := q.n = 0 ∨ (s.sessState q.n = 2 ∧ s.sessPort q.n = q.p)

/-- `Packet.Authentic`, written out. -/
abbrev authenticB (q : Packet) (opcode : Nat) (s : State) : Prop :=
  q.n = 0 ∨ q.mac = (Crypto.cmac (s.sess q.n).kreq (q.body opcode)).take 8

/-- `Packet.New`, written out. -/
abbrev newB (q : Packet) (s : State) : Prop := q.n = 0 ∨ (s.smax q.n < q.seq ∧ s.inPipeline q.n q.seq = false)

theorem session_of {q : Packet} {s : State} (h : sessionB q s) : q.InSession s := h

theorem not_session_of {q : Packet} {s : State} (h : ¬ sessionB q s) : ¬ q.InSession s := h

theorem not_authentic_of {q : Packet} {opcode : Nat} {s : State} (h : ¬ authenticB q opcode s) : ¬ q.Authentic opcode s := h

theorem passes_of {q : Packet} {level target : Nat} {ws : List (Nat × Word)} {stages : List Nat} {u : State}
    (h : (q.n ≠ 0 ∧ level ≤ u.sessLevel q.n) ∧ u.writesStatus (u.sessLevel q.n) ws = stDone ∧
      (ws ≠ [] ∧ ∀ w ∈ ws, dCstage (u.desc w.1) = target) ∧ u.targetStatus target stages = stDone) :
    q.Passes level ws target stages u :=
  ⟨h.1, h.2.1, h.2.2.1, h.2.2.2⟩

theorem admits_of {u : State} {target lat tEnd cls b : Nat} (h : u.admitAt target u.dtb lat tEnd cls = (b, true)) :
    u.admits target lat tEnd cls b := h

theorem holds_of {p q : Prop} (f : p → q) (h : p) : q := f h

/-! ## Small states -/

/-- The state after reset with every register at the reset value of its table. -/
def quiet : State := { State.reset with regs := [] }

/-- Sets fields of registers. -/
def sets (s : State) (l : List (Nat × Field × Nat)) : State := l.foldl (fun s x => s.setf x.1 x.2.1 x.2.2) s

/-- A port in operation. -/
def portUp (s : State) (p : Nat) : State :=
  sets s [(Reg.BUS_CTRL p, Fld.BUS_CTRL_en, 1), (Reg.BUS_CTRL p, Fld.BUS_CTRL_mode, 0), (Reg.BUS_STAT p, Fld.BUS_STAT_awake, 1),
    (Reg.BUS_STAT p, Fld.BUS_STAT_integ, 0), (Reg.BUS_STAT p, Fld.BUS_STAT_boff, 0)]

/-- A bank with its 64 registers and tags. -/
def fullBank (b : Bank) : Bank := { d := (b.d ++ List.replicate 64 0).take 64, tag := (b.tag ++ List.replicate 64 false).take 64 }

/-- Section `c` runs in slot `l` of engine `e`, and the instruction is its next one. -/
def atInstr (s : State) (e l op : Nat) (fs : List (Field × Nat)) (c : Section) : State :=
  ((s.modCe e (fun x => { x with bank := fullBank x.bank, acc := (x.acc ++ List.replicate 4 0).take 4 })).modLaw e l (fun x =>
    { x with sec := some c, prod := none, bankA := fullBank x.bankA, bankB := fullBank x.bankB })).wr (Reg.LAW_MEM e c.pc) (canWord op fs)

/-- The section as it issues. -/
def cAt (s : State) (e l op : Nat) (fs : List (Field × Nat)) (c : Section) : Section := (atInstr s e l op fs c).inPart e l c

/-- The cycle in which it issues. -/
def issuesAt (s : State) (e l op : Nat) (fs : List (Field × Nat)) (c : Section) : Nat :=
  (issueCycle c.sched (s.useOf e l (canWord op fs))).getD 0

/-- Team `t` runs. -/
def teamUp (s : State) (t : Nat) : State :=
  { sets s [(Reg.HARN_STAT t, Fld.HARN_STAT_live, 1), (Reg.PWR_STAT, ⟨2 * t, 2⟩, 0)] with boot := { s.boot with stage := 5 } }

/-- The module has the charger, and Team A runs. -/
def fUp (s : State) : State := { teamUp s 1 with variant := .f }

/-- A signal with a valid value. -/
def sv (s : State) (id v : Nat) : State := s.setSig id { value := W v, mword := mkMeta 0 1 false false false }

/-- Charge machine `m` in state `st`. -/
def chAt (s : State) (m st : Nat) : State := sv (fUp s) (chargeSig m) st

/-- Drive `d` in state `st`, not coupled, while Team S runs. -/
def drvAt (s : State) (d st : Nat) : State := sv (sv (teamUp s 0) (sid 3 0x40) 0) (dsig d 0x320) st

/-- The engine runs, port `p` takes requests and has no reply pending, slot 0 is free, and session `n` is open on the port. -/
def brd (s : State) (p n level : Nat) : State :=
  let s := sets (portUp s p) [(Reg.BUS_CTRL p, Fld.BUS_CTRL_fd, 1), (Reg.BUS_CTRL p, Fld.BUS_CTRL_xl, 1), (Reg.BUS_BRQ p, Fld.BUS_BRQ_en, 1),
    (Reg.BRD_CTRL, Fld.BRD_CTRL_en, 1), (Reg.PWR_STAT, ⟨10, 2⟩, 0)]
  let s := if n = 0 then s else (sets s [(Reg.BRD_SESS (n - 1), Fld.BRD_SESS_state, 2), (Reg.BRD_SESS (n - 1), Fld.BRD_SESS_level, level),
    (Reg.BRD_SESS (n - 1), Fld.BRD_SESS_port, p)]).wr (Reg.BRD_SEQ (n - 1)) 5
  { s with bus := s.bus.modify p (fun b => { b with replies := [] }), bridle := { s.bridle with slots := s.bridle.slots.set 0 none, sess := s.bridle.sess.modify (n - 1) (fun x => { x with kreq := List.replicate 16 7 }) } }

/-- A request with the right MAC. -/
def pk (p n seq op : Nat) (xl : Bool) (params : List Byte) : Packet :=
  { p := p, n := n, seq := seq, conf := true, xl := xl, params := params
    mac := if n = 0 then [] else (Crypto.cmac (List.replicate 16 7) (requestBytes n seq op true params [])).take 8 }

/-- Signal `id` is writable by a command, with commit stage `cs`. -/
def cmdSig (s : State) (id cs : Nat) : State := s.setDesc id (BitVec.ofNat 64 (1 + 2 * 4 + 5 * 2 ^ 16 + cs * 2 ^ 40))

/-- Both teams run and their queues of requests are empty. -/
def fwUp (s : State) : State :=
  let s := sets (teamUp (teamUp s 0) 1) [(Reg.BRD_FWCFG, Fld.BRD_FWCFG_tmo, 100), (Reg.HARN_STAT 1, Fld.HARN_STAT_mode, 1)]
  { s with bridle := { s.bridle with fwqA := [], fwqS := [] } }

/-- No generator is tripped. -/
def untrip (s : State) : State := (List.range 40).foldl (fun s g => s.setf (Reg.PWM_STAT g) Fld.PWM_STAT_trip 0) s

/-- Shortly before a 1 ms boundary. -/
def lateMs (s : State) : State := { s with dtb := s.dtb / 400000 * 400000 + 390000 }

/-- Domains `ds` are on and no entry of a low-power state runs. -/
def calm (s : State) (ds : List Nat) : State :=
  { ds.foldl (fun s d => s.setDomain d 0) s with power := { s.power with entry := none }, clk := {} }

/-- Signals `ids` are defined as words, and PD6 is ON. -/
def pub (s : State) (ids : List Nat) : State :=
  (s.setDomain 6 0).each ids (fun s id => s.setDesc id (BitVec.ofNat 64 (1 + 4 * 6)))

/-- A descriptor: kind 2, type, owner class and index. -/
def dset (ty oc oi : Nat) : DWord := BitVec.ofNat 64 (2 + 4 * ty + oc * 2 ^ 16 + oi * 2 ^ 20)

/-- The row of a register and its index in it. -/
def regD (a : Nat) : RegRow × Nat := (regAt a).getD ({ start := 0, dims := [], reset := [] }, 0)

/-- The clocks have their reset ratios. -/
def cpuOk (s : State) : State := { s with clk := {} }

/-! ## Requests of `pk` have the right MAC -/

/-- The session of the request has the key of `pk`. -/
abbrev keyB (n : Nat) (s : State) : Prop := n = 0 ∨ (s.sess n).kreq = List.replicate 16 7

theorem authentic_pk {s : State} {p n seq op : Nat} {xl : Bool} {params : List Byte} (h : keyB n s) :
    (pk p n seq op xl params).Authentic op s := by
  rcases h with rfl | h
  · exact .inl rfl
  · by_cases hn : n = 0
    · exact .inl hn
    · refine .inr ?_
      simp only [pk, Packet.body, if_neg hn, h]

/-- `Packet.Arrives` without the MAC. -/
abbrev arrivesB (q : Packet) (opcode i : Nat) (s : State) : Prop :=
  reachesB q opcode s ∧ sessionB q s ∧ keyB q.n s ∧ s.slotFree = some i ∧ newB q s

theorem arrives_pk {s : State} {p n seq op i : Nat} {xl : Bool} {params : List Byte}
    (h : arrivesB (pk p n seq op xl params) op i s) : (pk p n seq op xl params).Arrives op i s :=
  ⟨reaches_of h.1, h.2.1, authentic_pk h.2.2.1, h.2.2.2.1, h.2.2.2.2⟩

theorem served_pk {s : State} {p n seq op i t : Nat} {xl : Bool} {params : List Byte}
    (h : arrivesB (pk p n seq op xl params) op i s ∧ (s.variant = .f ∨ op / 0x1000 ≠ 3) ∧ s.teamLive (fwTeam op) = true ∧
      (fwTeam op = 1 → s.harnMode 1 ≠ hmHeld) ∧ (if fwTeam op = 1 then s.bridle.fwqA else s.bridle.fwqS).length < 32 ∧
      t ≤ s.fwTmo) : (pk p n seq op xl params).Served op i t s :=
  ⟨arrives_pk h.1, h.2.1, h.2.2.1, h.2.2.2.1, h.2.2.2.2.1, h.2.2.2.2.2⟩

/-- Other bytes than `l`. -/
def otherBytes (l : List Byte) : List Byte := (l.headD 0 + 1) :: List.replicate 31 0

theorem otherBytes_ne (l : List Byte) : otherBytes l ≠ l := by
  intro h
  have : l.headD 0 = l.headD 0 + 1 := by conv_lhs => rw [← h, otherBytes, List.headD_cons]
  generalize l.headD 0 = b at this
  revert b
  decide

theorem hmac_same {k k' m m' : List Byte} (h : k = k' ∧ m = m') : (Crypto.hmac k m).take 32 = (Crypto.hmac k' m').take 32 := by
  rw [h.1, h.2]

theorem hmac_other {k k' m m' : List Byte} (h : k = k' ∧ m = m') :
    otherBytes ((Crypto.hmac k m).take 32) ≠ (Crypto.hmac k' m').take 32 := by
  rw [h.1, h.2]
  exact otherBytes_ne _

theorem slots_of {s : State} {P : Slot → Prop} (h : ∀ o ∈ s.bridle.slots, ∀ x ∈ o, P x) (k : Nat) (x : Slot)
    (hk : s.slot k = some x) : P x := by
  simp only [State.slot, List.getD_eq_getElem?_getD] at hk
  cases hg : s.bridle.slots[k]? with
  | none => simp [hg] at hk
  | some o => exact h o (List.mem_of_getElem? hg) x (by simpa [hg] using hk)

/-! ## Well-formedness: for each check a command that it refuses, and the same command within the bound -/

theorem test_illFormed1 : ∀ c ∈ ([.registerWrite 6 0 0,
      .paddockCoreWrite 5 536870911 0 0,
      .paddockCoreWrite 5 545259520 0 0,
      .descriptorWrite 5 545259519 0 0,
      .descriptorWrite 5 553648128 0 0,
      .paddockBankAccess 8,
      .generatorPeriodStart 40,
      .pwmCmpWrite 5 39 2 0,
      .yarrowMeasurementDone 256,
      .tripInPinChange 4 false,
      .lawLateMiss 12 3,
      .lawLateMiss 11 4,
      .coefMemWrite 5 11 4096 0,
      .canSkip 11 3 16 63 255,
      .canSkip 11 3 15 64 255,
      .canCmp 11 3 64 63] : List Instr), c.wf = false := by decide

theorem test_illFormed2 : ∀ c ∈ ([.canCmp 11 3 63 64,
      .canLdi 11 3 64 65535,
      .canLdi 11 3 63 65536,
      .canLim 11 3 63 63 64 63,
      .canLim 11 3 63 63 63 64,
      .canShf 11 3 63 63 64,
      .canMul 11 3 4 63 63,
      .canMulc 11 3 3 63 4096,
      .canAdda 11 3 3 4,
      .canPark 11 3 63 63 63 64,
      .canTlu 11 3 63 63 16,
      .canLds 11 3 63 1048576,
      .canLdc 11 3 63 8,
      .canUrg 11 3 16 15,
      .canUrg 11 3 15 16,
      .canInt 11 3 64 63 63 63] : List Instr), c.wf = false := by decide

theorem test_illFormed3 : ∀ c ∈ ([.canInt 11 3 63 63 64 63,
      .adcTriggerDelayEnd 15 4,
      .adcConversionEnd 15 16384 false,
      .adcUrgWrite 5 15 16,
      .adcSwtrgWrite 5 15 16,
      .triggerTimerFire 8,
      .strongPhaseEnd 34,
      .lvOvercurrent 29,
      .path2TurnOn 12,
      .driveStart 2,
      .chargeRequest 2,
      .troikaMismatch 2 2 0,
      .troikaMismatch 1 3 0,
      .watchdogService 5 3 0,
      .faultReport 16 0 0,
      .testPulseStart 4] : List Instr), c.wf = false := by decide

theorem test_illFormed4 : ∀ c ∈ ([.contactFilterExpiry 8 false,
      .zoneEvaluation 8,
      .busEnable 5 4 0,
      .rxObjectConsume 5 3 1024,
      .transmitObjectDue 3 64,
      .frameTxFailure 3 0 0 3,
      .busSupervisorTimeout 3 16,
      .bus0WakeFrame 3 0 false 0 0 [],
      .sessionIdleTimeout 0,
      .sessionIdleTimeout 9,
      .authLockEnd 0,
      .authLockEnd 5,
      .firmwareAnswerTimeout 32,
      .dividerRampStep 6,
      .clockGateWrite 5 12 0,
      .domainTransitionDone 8] : List Instr), c.wf = false := by decide

theorem test_illFormed5 : ∀ c ∈ ([.valleyLimitRelease 4] : List Instr), c.wf = false := by decide

theorem test_wellFormed1 : ∀ c ∈ ([.registerWrite 5 0 0,
      .paddockCoreWrite 5 545259519 0 0,
      .descriptorWrite 5 553648127 0 0,
      .paddockBankAccess 7,
      .generatorPeriodStart 39,
      .pwmCmpWrite 5 39 1 0,
      .yarrowMeasurementDone 255,
      .tripInPinChange 3 false,
      .lawLateMiss 11 3,
      .coefMemWrite 5 11 4095 0,
      .canSkip 11 3 15 63 255,
      .canCmp 11 3 63 63,
      .canLdi 11 3 63 65535,
      .canLim 11 3 63 63 63 63,
      .canShf 11 3 63 63 63,
      .canMul 11 3 3 63 63] : List Instr), c.wf = true := by decide

theorem test_wellFormed2 : ∀ c ∈ ([.canMulc 11 3 3 63 4095,
      .canAdda 11 3 3 3,
      .canPark 11 3 63 63 63 63,
      .canTlu 11 3 63 63 15,
      .canLds 11 3 63 1048575,
      .canLdc 11 3 63 7,
      .canUrg 11 3 15 15,
      .canInt 11 3 63 63 63 63,
      .adcTriggerDelayEnd 15 3,
      .adcConversionEnd 15 16383 false,
      .adcUrgWrite 5 15 15,
      .adcSwtrgWrite 5 15 15,
      .triggerTimerFire 7,
      .strongPhaseEnd 33,
      .lvOvercurrent 28,
      .path2TurnOn 11] : List Instr), c.wf = true := by decide

theorem test_wellFormed3 : ∀ c ∈ ([.driveStart 1,
      .chargeRequest 1,
      .troikaMismatch 1 2 0,
      .watchdogService 5 2 0,
      .faultReport 15 0 0,
      .testPulseStart 3,
      .contactFilterExpiry 7 false,
      .zoneEvaluation 7,
      .busEnable 5 3 0,
      .rxObjectConsume 5 3 1023,
      .transmitObjectDue 3 63,
      .frameTxFailure 3 0 0 2,
      .busSupervisorTimeout 3 15,
      .bus0WakeFrame 2 0 false 0 0 [],
      .sessionIdleTimeout 8,
      .authLockEnd 4] : List Instr), c.wf = true := by decide

theorem test_wellFormed4 : ∀ c ∈ ([.firmwareAnswerTimeout 31,
      .dividerRampStep 5,
      .clockGateWrite 5 11 0,
      .domainTransitionDone 7,
      .valleyLimitRelease 3] : List Instr), c.wf = true := by decide

theorem test_decodeTableWord : decodeTableWord 32 0 = none := rfl

/-! ## Published values -/

/-- The three encodings that the worked example of spec/04_canter_engines.md gives: LDC D0, 0; TLU D11, D10, 0; OUTD 2, D30. -/
theorem test_canWord : (.canLdc 0 0 0 0 : Instr).canter.map (fun x => canWord x.2.2.1 x.2.2.2) = some 0xB8000000 ∧
    (.canTlu 0 0 11 10 0 : Instr).canter.map (fun x => canWord x.2.2.1 x.2.2.2) = some 0xA0B28000 ∧
    (.canOutd 0 0 2 30 : Instr).canter.map (fun x => canWord x.2.2.1 x.2.2.2) = some 0xD1078000 := by decide

/-- The duty 19,661 of that example at P = 5,000 is the compare word 0x02_EE02. -/
theorem test_dutyWord : dutyWord 19661 5000 = 0x02EE02 := by decide

/-- The identifier of S.1.0420 in the example of spec/01_architecture.md. -/
theorem test_sid : sid 1 0x420 = 66592 := by decide

/-- CRC-32 of the digits 1 to 9, the check value of IEEE 802.3. -/
theorem test_crc32 : Crypto.crc32 [0x31, 0x32, 0x33, 0x34, 0x35, 0x36, 0x37, 0x38, 0x39] = 0xCBF43926 := by decide +kernel

/-- The first AES-128 block of SP 800-38A. -/
theorem test_aesEnc : Crypto.beNat (Crypto.aesEnc (Crypto.beBytes 16 0x2b7e151628aed2a6abf7158809cf4f3c)
    (Crypto.beBytes 16 0x6bc1bee22e409f96e93d7e117393172a)) = 0x3ad77bb40d7a3660a89ecaf32466ef97 := by decide +kernel

/-- CMAC of the empty message, from RFC 4493. -/
theorem test_cmac : Crypto.beNat (Crypto.cmac (Crypto.beBytes 16 0x2b7e151628aed2a6abf7158809cf4f3c) []) =
    0xbb1d6929e95937287fa37d129b756746 := by decide +kernel

/-! ## Single steps -/

/-- A command completes. -/
def isNext : Outcome → Bool
  | .next _ => true
  | .fault _ => false
  | .refused _ => false

theorem next_of {o : Outcome} (h : isNext o = true) : ∃ t, o = .next t := by
  cases o with
  | next t => exact ⟨t, rfl⟩
  | fault r => exact absurd h (by simp [isNext])
  | refused r => exact absurd h (by simp [isNext])

/-- ST of the accumulator value `v` (R115): the register, its tag and LAW_STAT.sat. -/
def stored (v : Int) : Option (BitVec 16 × Bool × Bool) :=
  let c : Section := { look := false, pc := 5, t := 0, sched := { last := 0 }, sel := .committed }
  match execCanSt 2 1 63 3 ((atInstr State.reset 2 1 0x1F [(fD, 63), (fSa, 3)] c).modCe 2 (fun x => { x with acc := [0, 0, 0, BitVec.ofInt 40 v] })) with
  | .next t => some (((t.ceAt 2).file 1 .committed).d.getD 63 0, t.dTag 2 1 .committed 63, t.on (Reg.LAW_STAT 2 1) Fld.LAW_STAT_sat)
  | _ => none

/-- A tie rounds up, toward +∞, on both sides of 0 (R115). -/
theorem test_st_ties : stored 0x4000 = some (1, false, false) ∧ stored (-0x4000) = some (0, false, false) := by decide +kernel

/-- A store saturates at 32,767 and at −32,768 (R115). -/
theorem test_st_saturates : stored (2 ^ 39 - 1) = some (0x7FFF, true, true) ∧ stored (-(2 ^ 39)) = some (0x8000, true, true) := by
  decide +kernel

/-- An empty queue passes one cycle (log 1). -/
theorem test_idle : step State.reset = .next { State.reset with dtb := 1 } := rfl

/-! ## Hypotheses of the statements: a state and operands that meet them -/

theorem witness_StepRunsFrontCommand : ∃ s : State, s.pending = [] := ⟨State.reset, rfl⟩

theorem witness_ResetState : (∃ k, 3 ≤ k ∧ k < 6) ∧ (∃ g, g < 40) ∧ ∃ n, n < 12 := ⟨⟨5, by decide⟩, ⟨39, by decide⟩, ⟨11, by decide⟩⟩

theorem witness_StepKeepsInvariant : ∃ s t : State, s.Inv ∧ step s = .next t := by
  let s : State := { State.reset with pending := [.canNop 11 3] }
  obtain ⟨t, ht⟩ : ∃ t, step s = .next t := next_of (by decide +kernel +revert)
  have hs : s.Inv := inv_of (by clear t ht; decide +kernel +revert)
  exact ⟨s, t, hs, ht⟩

theorem witness_WellFormedCompletes : (∃ c : Instr, c.wf = true) ∧ ∃ c : Instr, c.wf = false :=
  ⟨⟨.generatorCentre 39, by decide⟩, ⟨.generatorCentre 40, by decide⟩⟩

theorem witness_CommandParts : ∃ (s t : State) (c : Instr), exec c s = .next t := by
  obtain ⟨t, ht⟩ : ∃ t, exec (.generatorCentre 39) State.reset = .next t := next_of (by decide +kernel)
  exact ⟨_, t, _, ht⟩

theorem witness_CommandRegisters : ∃ (s t : State) (c : Instr) (ws : List (Nat → Prop)) (a : Nat),
    s.Inv ∧ exec c s = .next t ∧ c.registers = some ws ∧ ∀ r ∈ ws, ¬ r a := by
  obtain ⟨t, ht⟩ : ∃ t, exec (.canNop 11 3) State.reset = .next t := next_of (by decide +kernel)
  exact ⟨State.reset, t, .canNop 11 3, [], 0, inv_of (by decide +kernel), ht, rfl, by simp⟩

theorem witness_MemoryBytes :
    (∃ (s t : State) (c : Instr) (core a : Nat) (v : Word) (x : Nat), s.Inv ∧ exec c s = .next t ∧ c = .registerWrite core a v ∧
      ¬ (inSram a = true ∧ a % 0x10000000 ≤ x ∧ x < a % 0x10000000 + 4)) ∧
    (∃ (s t : State) (c : Instr) (x : Nat), s.Inv ∧ exec c s = .next t ∧ (∀ core a v, c ≠ .registerWrite core a v) ∧
      (∀ a b d, c ≠ .strapEnd a b d) ∧ ∀ k, k < s.ringSize → s.ringByte k ≠ x) ∧
    (∃ (s t : State) (c : Instr) (x : Nat), s.Inv ∧ exec c s = .next t ∧ c ≠ .bridleCommit ∧
      ∀ j, s.boot.nvmJobs.head? = some j → j.code = true →
        ¬ (j.erase = true ∧ codeBank x = codeBank j.at_) ∧ (x < j.at_ ∨ j.at_ + j.data.length ≤ x)) ∧
    (∃ (s t : State) (c : Instr) (x : Nat), s.Inv ∧ exec c s = .next t ∧ c ≠ .bridleCommit ∧
      (∀ j, s.boot.nvmJobs.head? = some j → j.code = false → x < j.at_ ∨ j.at_ + j.data.length ≤ x) ∧ 0x48000080 ≤ x ∧
      c = .eventRecordCopy ∧ ∀ r ∈ s.thermal.records.head?, x < 0x483FF800 + 32 * s.fld Reg.TH_RECPTR Fld.TH_RECPTR_n) := by
  obtain ⟨t, ht⟩ : ∃ t, exec (.registerWrite 5 0x107FFFFC 1) State.reset = .next t := next_of (by decide +kernel)
  obtain ⟨u, hu⟩ : ∃ t, exec (.canNop 11 3) State.reset = .next t := next_of (by decide +kernel)
  obtain ⟨w, hw⟩ : ∃ t, exec .nvmProgramDone { State.reset with boot := { State.reset.boot with nvmJobs := [{ code := true, at_ := 0x40000000, data := [1, 2] }] } } = .next t :=
    next_of (by decide +kernel)
  obtain ⟨z, hz⟩ : ∃ t, exec .eventRecordCopy { State.reset with
      thermal := { State.reset.thermal with records := [List.replicate 32 5] },
      boot := { State.reset.boot with nvmJobs := [{ code := false, at_ := 0x48000100, data := [1, 2] }] } } = .next t := next_of (by decide +kernel)
  refine ⟨⟨_, t, _, 5, 0x107FFFFC, 1, 0x7FFFFB, inv_of (by decide +kernel), ht, rfl, by decide⟩,
    ⟨_, u, _, mainSram, inv_of (by decide +kernel), hu, by simp, by simp, fun k _ => ne_of_lt (Nat.mod_lt _ (by decide))⟩,
    ⟨_, w, _, 0x40000002, inv_of (by decide +kernel), hw, by simp, ?_⟩, ⟨_, z, _, 0x48000102, inv_of (by decide +kernel), hz, by simp, ?_, by decide, rfl, ?_⟩⟩
  · intro j h _
    obtain rfl := Option.some.inj h
    decide
  · intro j h _
    obtain rfl := Option.some.inj h
    decide
  · decide +kernel

theorem witness_TimeGoesOn : ∃ (s t : State) (c : Instr), exec c s = .next t ∧ c ≠ .vbatkApplied := by
  obtain ⟨t, ht⟩ : ∃ t, exec .systemBoundary1ms State.reset = .next t := next_of (by decide +kernel)
  exact ⟨_, t, _, ht, by simp⟩

theorem witness_CanterWords :
    (∃ (c : Instr) (e l op : Nat) (fs : List (Field × Nat)), c.canter = some (e, l, op, fs) ∧ ∀ f ∈ fs, f.2 < 2 ^ f.1.len) ∧
    ∃ (c d : Instr) (e l m n : Nat) (fs gs : List (Field × Nat)), c.canter = some (e, l, m, fs) ∧ d.canter = some (e, l, n, gs) ∧
      (∀ f ∈ fs, f.2 < 2 ^ f.1.len) ∧ (∀ g ∈ gs, g.2 < 2 ^ g.1.len) ∧ canWord m fs = canWord n gs :=
  ⟨⟨.canLim 11 3 63 63 63 63, 11, 3, 0x10, [(fD, 63), (fX, 63), (fY, 63), (fZ, 63)], rfl, by decide⟩,
    ⟨.canLdi 11 3 63 65535, .canLdi 11 3 63 65535, 11, 3, 0x08, 0x08, [(fD, 63), (fImm, 65535)], [(fD, 63), (fImm, 65535)], rfl, rfl,
      by decide, by decide, rfl⟩⟩

theorem witness_CanterFrame : ∃ (s t : State) (c : Instr) (e l op : Nat) (fs : List (Field × Nat)),
    s.Inv ∧ c.canter = some (e, l, op, fs) ∧ exec c s = .next t := by
  let c : Section := { look := false, pc := 1023, t := 100, sched := { last := 7 }, sel := .committed }
  let s : State := atInstr State.reset 11 3 0x09 [(fD, 63), (fX, 0)] c
  obtain ⟨t, ht⟩ : ∃ t, exec (.canMov 11 3 63 0) s = .next t := next_of (by decide +kernel +revert)
  have hs : s.Inv := inv_of (by clear t ht; decide +kernel +revert)
  exact ⟨s, t, .canMov 11 3 63 0, 11, 3, 0x09, [(fD, 63), (fX, 0)], hs, rfl, ht⟩

theorem witness_RealArithmetic : (∃ v : Int, |v| < 2 ^ 20) ∧
    ∃ (x y : Int) (v : Nat → ℝ) (r : Int) (k : Nat), |x| ≤ 2 ^ 15 ∧ |y| ≤ 2 ^ 15 ∧ k < 3 ∧
      v 0 = x ∧ v 1 = -(x : ℝ) / 2 + Real.sqrt 3 / 2 * y ∧ v 2 = -(x : ℝ) / 2 - Real.sqrt 3 / 2 * y ∧
      r = ⌊16384 + v k - (max (v 0) (max (v 1) (v 2)) + min (v 0) (min (v 1) (v 2))) / 2 + 1 / 2⌋ :=
  ⟨⟨1048575, by decide⟩, -32768, 32768,
    fun k => if k = 0 then ((-32768 : Int) : ℝ) else if k = 1 then -((-32768 : Int) : ℝ) / 2 + Real.sqrt 3 / 2 * (32768 : Int)
      else -((-32768 : Int) : ℝ) / 2 - Real.sqrt 3 / 2 * (32768 : Int), _, 2, by decide, by decide, by decide, rfl, rfl, rfl, rfl⟩

theorem witness_TrigonometryIsExact : (∃ th : Int, -32768 ≤ th ∧ th < 32768 ∧ th = 32767) ∧ ∃ th : Int, -32768 ≤ th ∧ th < 32768 ∧ th = -32768 :=
  ⟨⟨32767, by decide⟩, ⟨-32768, by decide⟩⟩

theorem witness_RequestParses : ∃ (n seq opcode : Nat) (params mac : List Byte),
    n ≤ 8 ∧ seq < 2 ^ 32 ∧ opcode < 2 ^ 16 ∧ params.length ≤ 502 ∧ (n ≠ 0 → mac.length = 8) :=
  ⟨8, 2 ^ 32 - 1, 65535, List.replicate 502 1, List.replicate 8 2, by decide, by decide, by decide, by rw [List.length_replicate],
    fun _ => List.length_replicate⟩

theorem witness_CountersRise : ∃ (s t : State) (c : Instr) (k : Nat), s.Inv ∧ exec c s = .next t ∧ 1 ≤ k ∧ k ≤ 4 ∧ s.rollback k ≤ 64 := by
  obtain ⟨t, ht⟩ : ∃ t, exec (.bootConfirm 5) State.reset = .next t := next_of (by decide +kernel)
  exact ⟨State.reset, t, _, 4, inv_of (by decide +kernel), ht, by decide, by decide, by decide +kernel⟩

theorem witness_RegisterAccess :
    (∃ (s : State) (core : Nat) (a : Nat), s.Inv ∧ s.cpuRatioOk = true ∧ core < 6 ∧ inSram a = true ∧ s.domainOn 0 = true) ∧
    (∃ (s : State) (core : Nat) (a : Nat) (r : RegRow) (k : Nat), s.Inv ∧ s.cpuRatioOk = true ∧ core < 6 ∧ inSram a = false ∧ s.reachable a = true ∧ regAt a = some (r, k) ∧ ((a / 0x10000 = 0x7002 ∧ a ≠ Reg.RST_SWR) ∨ (a / 0x10000 = 0x7080 ∧ a ≠ Reg.KPR_SHIP ∧ a ≠ Reg.KPR_WOUT))) ∧
    (∃ (s : State) (core : Nat) (a : Nat), s.Inv ∧ s.cpuRatioOk = true ∧ core < 6 ∧ inSram a = false ∧ (a < 0x20000000 ∨ 0x21000000 ≤ a) ∧ s.reachable a = false) ∧
    (∃ (s : State) (core : Nat) (a : Nat) (r : RegRow) (k : Nat), s.Inv ∧ s.cpuRatioOk = true ∧ core < 6 ∧ blockMapped a = true ∧ s.reachable a = true ∧ regAt a = some (r, k) ∧ a ≠ Reg.DTB_LO ∧ a ≠ Reg.BRD_FWQ_A ∧ a ≠ Reg.BRD_FWQ_S ∧ a ≠ Reg.IRQ_CLAIM (a / 0x10000 - 0x7005) (core % 3) ∧ a ≠ Reg.KPR_WOUT) ∧
    (∃ (s : State) (core : Nat) (a : Nat), s.Inv ∧ s.cpuRatioOk = true ∧ core < 6 ∧ blockMapped a = true ∧ s.reachable a = true ∧ regAt a = none ∧ a ≠ Reg.DTB_LO ∧ a ≠ Reg.BRD_FWQ_A ∧ a ≠ Reg.BRD_FWQ_S ∧ a ≠ Reg.IRQ_CLAIM (a / 0x10000 - 0x7005) (core % 3) ∧ a ≠ Reg.KPR_WOUT) ∧
    (∃ (s : State) (core : Nat) (a : Nat), s.Inv ∧ s.cpuRatioOk = true ∧ core < 6 ∧ inSram a = true ∧ s.domainOn 0 = true) ∧
    (∃ (s : State) (core : Nat) (a : Nat), s.Inv ∧ s.cpuRatioOk = true ∧ core < 6 ∧ (a < 0x20000000 ∨ 0x21000000 ≤ a) ∧ (blockMapped a = true → s.reachable a = false) ∧ (blockMapped a = false → s.memoryAnswers a 4 = false)) ∧
    (∃ (s : State) (core : Nat), s.Inv ∧ s.cpuRatioOk = true ∧ core < 6 ∧ s.domainOn 0 = true) := by
  refine ⟨?_, ?_, ?_, ?_, ?_, ?_, ?_, ?_⟩
  · let R := quiet
    let core : Nat := 5
    let a : Nat := 0x10000000
    let s : State := (calm R [0, 1, 2, 3, 4, 5, 6, 7])
    exact ⟨s, core, a, holds_of (fun (h : _ ∧ _ ∧ _ ∧ _ ∧ _) => ⟨inv_of h.1, h.2.1, h.2.2.1, h.2.2.2.1, h.2.2.2.2⟩) (by decide +kernel +revert)⟩
  · let R := quiet
    let core : Nat := 5
    let a : Nat := 0x70020000
    let r : RegRow := (regD a).1
    let k : Nat := (regD a).2
    let s : State := (calm R [0, 1, 2, 3, 4, 5, 6, 7])
    exact ⟨s, core, a, r, k, holds_of (fun (h : _ ∧ _ ∧ _ ∧ _ ∧ _ ∧ _ ∧ _) => ⟨inv_of h.1, h.2.1, h.2.2.1, h.2.2.2.1, h.2.2.2.2.1, h.2.2.2.2.2.1, h.2.2.2.2.2.2⟩) (by decide +kernel +revert)⟩
  · let R := quiet
    let core : Nat := 5
    let a : Nat := 0x40000000
    let s : State := ((calm R [0, 1, 2, 3, 4, 5, 6, 7]).setDomain 2 1)
    exact ⟨s, core, a, holds_of (fun (h : _ ∧ _ ∧ _ ∧ _ ∧ _ ∧ _) => ⟨inv_of h.1, h.2.1, h.2.2.1, h.2.2.2.1, h.2.2.2.2.1, h.2.2.2.2.2⟩) (by decide +kernel +revert)⟩
  · let R := quiet
    let s : State := (calm R [0, 1, 2, 3, 4, 5, 6, 7])
    let core : Nat := 5
    let a : Nat := Reg.BUS_CNT_RX 1
    let r : RegRow := (regD a).1
    let k : Nat := (regD a).2
    exact ⟨s, core, a, r, k, holds_of (fun (h : _ ∧ _ ∧ _ ∧ _ ∧ _ ∧ _ ∧ _ ∧ _ ∧ _ ∧ _ ∧ _) => ⟨inv_of h.1, h.2.1, h.2.2.1, h.2.2.2.1, h.2.2.2.2.1, h.2.2.2.2.2.1, h.2.2.2.2.2.2.1, h.2.2.2.2.2.2.2.1, h.2.2.2.2.2.2.2.2.1, h.2.2.2.2.2.2.2.2.2.1, h.2.2.2.2.2.2.2.2.2.2⟩) (by decide +kernel +revert)⟩
  · let R := quiet
    let s : State := (calm R [0, 1, 2, 3, 4, 5, 6, 7])
    let core : Nat := 5
    let a : Nat := 0x70030FFC
    exact ⟨s, core, a, holds_of (fun (h : _ ∧ _ ∧ _ ∧ _ ∧ _ ∧ _ ∧ _ ∧ _ ∧ _ ∧ _ ∧ _) => ⟨inv_of h.1, h.2.1, h.2.2.1, h.2.2.2.1, h.2.2.2.2.1, h.2.2.2.2.2.1, h.2.2.2.2.2.2.1, h.2.2.2.2.2.2.2.1, h.2.2.2.2.2.2.2.2.1, h.2.2.2.2.2.2.2.2.2.1, h.2.2.2.2.2.2.2.2.2.2⟩) (by decide +kernel +revert)⟩
  · let R := quiet
    let s : State := (calm R [0, 1, 2, 3, 4, 5, 6, 7]).sramSet 5 9
    let core : Nat := 5
    let a : Nat := 0x10000004
    exact ⟨s, core, a, holds_of (fun (h : _ ∧ _ ∧ _ ∧ _ ∧ _) => ⟨inv_of h.1, h.2.1, h.2.2.1, h.2.2.2.1, h.2.2.2.2⟩) (by decide +kernel +revert)⟩
  · let R := quiet
    let s : State := (calm R [0, 1, 2, 3, 4, 5, 6, 7])
    let core : Nat := 5
    let a : Nat := 0x50000000
    exact ⟨s, core, a, holds_of (fun (h : _ ∧ _ ∧ _ ∧ _ ∧ _ ∧ _) => ⟨inv_of h.1, h.2.1, h.2.2.1, h.2.2.2.1, h.2.2.2.2.1, h.2.2.2.2.2⟩) (by decide +kernel +revert)⟩
  · let R := quiet
    let core : Nat := 5
    let s : State := (calm R [0, 1, 2, 3, 4, 5, 6, 7])
    exact ⟨s, core, holds_of (fun (h : _ ∧ _ ∧ _ ∧ _) => ⟨inv_of h.1, h.2.1, h.2.2.1, h.2.2.2⟩) (by decide +kernel +revert)⟩

theorem witness_PaddockAccess :
    (∃ (s : State) (core : Nat) (a : Nat) (size : Nat), s.Inv ∧ s.domainOn 6 = true ∧ s.cpuRatioOk = true ∧ core < 6 ∧ 0x20000000 ≤ a ∧ a < 0x20800000 ∧ accessAligned a size = true) ∧
    (∃ (s : State) (core : Nat) (a : Nat) (size : Nat), s.Inv ∧ s.domainOn 6 = true ∧ s.cpuRatioOk = true ∧ core < 6 ∧ 0x20000000 ≤ a ∧ a < 0x20800000 ∧ accessAligned a size = false) ∧
    (∃ (s : State) (core : Nat) (a : Nat), s.Inv ∧ s.domainOn 6 = true ∧ s.cpuRatioOk = true ∧ core < 6 ∧ 0x20800000 ≤ a ∧ a < 0x21000000 ∧ a % 8 = 0) ∧
    (∃ (s : State) (core : Nat) (a : Nat) (size : Nat), s.Inv ∧ s.domainOn 6 = true ∧ s.cpuRatioOk = true ∧ core < 6 ∧ 0x20800000 ≤ a ∧ a < 0x21000000 ∧ (size ≠ 8 ∨ a % 8 ≠ 0)) ∧
    (∃ (s : State) (core : Nat) (a : Nat) (size : Nat), s.Inv ∧ s.domainOn 6 = true ∧ s.cpuRatioOk = true ∧ core < 6 ∧ 0x20000000 ≤ a ∧ a < 0x21000000 ∧ accessAligned a size = true) ∧
    (∃ (s : State) (b : Nat) (c : Nat) (a : PendAccess) (u : Nat) (k : Nat) (val : Int) (quality : Nat) (ovr : Bool) (ts : Nat), s.Inv ∧ s.domainOn 6 = true ∧ s.cpuRatioOk = true ∧ b < 8 ∧ s.bankTurn b = some (c, a) ∧ a.kind = .conv u k val quality ovr ts none none ∧ s.pathOwns a.sig 2 (16 * u + k) = true ∧ a.sig ≠ s.fld Reg.CHS_ISIG Fld.CHS_ISIG_sig) ∧
    (∃ (s : State) (b : Nat) (c : Nat) (a : PendAccess) (e : Nat) (l : Nat) (val : Word) (start : Nat) (quality : Nat), s.Inv ∧ s.domainOn 6 = true ∧ s.cpuRatioOk = true ∧ b < 8 ∧ s.bankTurn b = some (c, a) ∧ a.kind = .lawWrite e l val start quality ∧ a.sig ≠ s.fld Reg.CHS_ISIG Fld.CHS_ISIG_sig) ∧
    (∃ (s : State) (b : Nat) (c : Nat) (a : PendAccess) (core : Nat) (addr : Nat) (v : DWord), s.Inv ∧ s.domainOn 6 = true ∧ s.cpuRatioOk = true ∧ b < 8 ∧ s.bankTurn b = some (c, a) ∧ a.kind = .coreWrite core addr 4 v ∧ addr % 8 = 0 ∧ s.coreOwns core (paddockId addr) = true ∧ paddockId addr ≠ s.fld Reg.CHS_ISIG Fld.CHS_ISIG_sig) ∧
    (∃ (s : State) (b : Nat) (c : Nat) (a : PendAccess) (core : Nat) (addr : Nat) (v : DWord), s.Inv ∧ s.domainOn 6 = true ∧ s.cpuRatioOk = true ∧ b < 8 ∧ s.bankTurn b = some (c, a) ∧ a.kind = .coreWrite core addr 8 v ∧ s.coreOwns core (paddockId addr) = true ∧ paddockId addr ≠ s.fld Reg.CHS_ISIG Fld.CHS_ISIG_sig) ∧
    (∃ (s : State) (b : Nat) (c : Nat) (a : PendAccess) (core : Nat) (addr : Nat) (size : Nat) (v : DWord), s.Inv ∧ s.domainOn 6 = true ∧ s.cpuRatioOk = true ∧ b < 8 ∧ core < 6 ∧ s.bankTurn b = some (c, a) ∧ a.kind = .coreWrite core addr size v ∧ s.coreOwns core (paddockId addr) = false) ∧
    (∃ (s : State) (b : Nat) (c : Nat) (a : PendAccess) (core : Nat) (addr : Nat), s.Inv ∧ s.domainOn 6 = true ∧ s.cpuRatioOk = true ∧ b < 8 ∧ core < 6 ∧ s.bankTurn b = some (c, a) ∧ a.kind = .coreRead core addr 8 ∧ addr < 0x20800000 ∧ addr % 8 = 0 ∧ s.paddock.seenAt < s.dtb) ∧
    (∃ (s : State) (b : Nat) (c : Nat) (a : PendAccess) (core : Nat) (v : DWord), s.Inv ∧ s.domainOn 6 = true ∧ s.cpuRatioOk = true ∧ b < 8 ∧ core < 6 ∧ s.bankTurn b = some (c, a) ∧ a.kind = .descWrite core v) := by
  refine ⟨?_, ?_, ?_, ?_, ?_, ?_, ?_, ?_, ?_, ?_, ?_, ?_⟩
  · let R := quiet
    let core : Nat := 2
    let a : Nat := 0x20000000 + 8 * 0xD0005
    let size : Nat := 4
    let s : State := (calm R [6, 0]).setf Reg.CHS_ISIG Fld.CHS_ISIG_sig 0
    exact ⟨s, core, a, size, holds_of (fun (h : _ ∧ _ ∧ _ ∧ _ ∧ _ ∧ _ ∧ _) => ⟨inv_of h.1, h.2.1, h.2.2.1, h.2.2.2.1, h.2.2.2.2.1, h.2.2.2.2.2.1, h.2.2.2.2.2.2⟩) (by decide +kernel +revert)⟩
  · let R := quiet
    let core : Nat := 5
    let a : Nat := 0x207FFFFC
    let size : Nat := 8
    let s : State := (calm R [6, 0]).setf Reg.CHS_ISIG Fld.CHS_ISIG_sig 0
    exact ⟨s, core, a, size, holds_of (fun (h : _ ∧ _ ∧ _ ∧ _ ∧ _ ∧ _ ∧ _) => ⟨inv_of h.1, h.2.1, h.2.2.1, h.2.2.2.1, h.2.2.2.2.1, h.2.2.2.2.2.1, h.2.2.2.2.2.2⟩) (by decide +kernel +revert)⟩
  · let R := quiet
    let core : Nat := 5
    let a : Nat := 0x20FFFFF8
    let s : State := (calm R [6, 0]).setf Reg.CHS_ISIG Fld.CHS_ISIG_sig 0
    exact ⟨s, core, a, holds_of (fun (h : _ ∧ _ ∧ _ ∧ _ ∧ _ ∧ _ ∧ _) => ⟨inv_of h.1, h.2.1, h.2.2.1, h.2.2.2.1, h.2.2.2.2.1, h.2.2.2.2.2.1, h.2.2.2.2.2.2⟩) (by decide +kernel +revert)⟩
  · let R := quiet
    let core : Nat := 5
    let a : Nat := 0x20FFFFF8
    let size : Nat := 4
    let s : State := (calm R [6, 0]).setf Reg.CHS_ISIG Fld.CHS_ISIG_sig 0
    exact ⟨s, core, a, size, holds_of (fun (h : _ ∧ _ ∧ _ ∧ _ ∧ _ ∧ _ ∧ _) => ⟨inv_of h.1, h.2.1, h.2.2.1, h.2.2.2.1, h.2.2.2.2.1, h.2.2.2.2.2.1, h.2.2.2.2.2.2⟩) (by decide +kernel +revert)⟩
  · let R := quiet
    let core : Nat := 0
    let a : Nat := 0x20800004
    let size : Nat := 4
    let s : State := (calm R [6, 0]).setf Reg.CHS_ISIG Fld.CHS_ISIG_sig 0
    exact ⟨s, core, a, size, holds_of (fun (h : _ ∧ _ ∧ _ ∧ _ ∧ _ ∧ _ ∧ _) => ⟨inv_of h.1, h.2.1, h.2.2.1, h.2.2.2.1, h.2.2.2.2.1, h.2.2.2.2.2.1, h.2.2.2.2.2.2⟩) (by decide +kernel +revert)⟩
  · let R := quiet
    let s : State := (let z := ((calm R [6, 0]).setf Reg.CHS_ISIG Fld.CHS_ISIG_sig 0).setDesc 0xD0005 (dset 1 2 19); { z with paddock := { z.paddock with seenAt := 0, seen := [], free := List.replicate 8 0, waiting := [({ sig := 0xD0005, req := z.dtb + 3, kind := .conv 1 3 (-5) 1 true 77 none none } : PendAccess)] } })
    let b : Nat := 0xD0005 % 8
    let a : PendAccess := { sig := 0xD0005, req := s.dtb + 3, kind := .conv 1 3 (-5) 1 true 77 none none }
    let c : Nat := ((s.bankTurn b).map (fun x => x.1)).getD 0
    let u : Nat := 1
    let k : Nat := 3
    let val : Int := -5
    let quality : Nat := 1
    let ovr : Bool := true
    let ts : Nat := 77
    exact ⟨s, b, c, a, u, k, val, quality, ovr, ts, holds_of (fun (h : _ ∧ _ ∧ _ ∧ _ ∧ _ ∧ _ ∧ _ ∧ _) => ⟨inv_of h.1, h.2.1, h.2.2.1, h.2.2.2.1, h.2.2.2.2.1, h.2.2.2.2.2.1, h.2.2.2.2.2.2.1, h.2.2.2.2.2.2.2⟩) (by decide +kernel +revert)⟩
  · let R := quiet
    let s : State := (let z := ((calm R [6, 0]).setf Reg.CHS_ISIG Fld.CHS_ISIG_sig 0).setDesc 0xD0005 (dset 0 1 7); { z with paddock := { z.paddock with seenAt := 0, seen := [], free := List.replicate 8 0, waiting := [({ sig := 0xD0005, req := z.dtb + 3, kind := .lawWrite 1 3 0xFFFF 5 1 } : PendAccess)] } })
    let b : Nat := 0xD0005 % 8
    let a : PendAccess := { sig := 0xD0005, req := s.dtb + 3, kind := .lawWrite 1 3 0xFFFF 5 1 }
    let c : Nat := ((s.bankTurn b).map (fun x => x.1)).getD 0
    let e : Nat := 1
    let l : Nat := 3
    let val : Word := 0xFFFF
    let start : Nat := 5
    let quality : Nat := 1
    exact ⟨s, b, c, a, e, l, val, start, quality, holds_of (fun (h : _ ∧ _ ∧ _ ∧ _ ∧ _ ∧ _ ∧ _) => ⟨inv_of h.1, h.2.1, h.2.2.1, h.2.2.2.1, h.2.2.2.2.1, h.2.2.2.2.2.1, h.2.2.2.2.2.2⟩) (by decide +kernel +revert)⟩
  · let R := quiet
    let s : State := (let z := ((calm R [6, 0]).setf Reg.CHS_ISIG Fld.CHS_ISIG_sig 0).setDesc 0xD0005 (dset 0 4 0); { z with paddock := { z.paddock with seenAt := 0, seen := [], free := List.replicate 8 0, waiting := [({ sig := 0xD0005, req := z.dtb + 3, kind := .coreWrite 2 (0x20000000 + 8 * 0xD0005) 4 0x8123456789ABCDEF } : PendAccess)] } })
    let b : Nat := 0xD0005 % 8
    let a : PendAccess := { sig := 0xD0005, req := s.dtb + 3, kind := .coreWrite 2 (0x20000000 + 8 * 0xD0005) 4 0x8123456789ABCDEF }
    let c : Nat := ((s.bankTurn b).map (fun x => x.1)).getD 0
    let core : Nat := 2
    let addr : Nat := 0x20000000 + 8 * 0xD0005
    let v : DWord := 0x8123456789ABCDEF
    exact ⟨s, b, c, a, core, addr, v, holds_of (fun (h : _ ∧ _ ∧ _ ∧ _ ∧ _ ∧ _ ∧ _ ∧ _ ∧ _) => ⟨inv_of h.1, h.2.1, h.2.2.1, h.2.2.2.1, h.2.2.2.2.1, h.2.2.2.2.2.1, h.2.2.2.2.2.2.1, h.2.2.2.2.2.2.2.1, h.2.2.2.2.2.2.2.2⟩) (by decide +kernel +revert)⟩
  · let R := quiet
    let s : State := (let z := ((calm R [6, 0]).setf Reg.CHS_ISIG Fld.CHS_ISIG_sig 0).setDesc 0xFFFFF (dset 0 4 1); { z with paddock := { z.paddock with seenAt := 0, seen := [], free := List.replicate 8 0, waiting := [({ sig := 0xFFFFF, req := z.dtb + 3, kind := .coreWrite 5 (0x20000000 + 8 * 0xFFFFF) 8 0x8123456789ABCDEF } : PendAccess)] } })
    let b : Nat := 0xFFFFF % 8
    let a : PendAccess := { sig := 0xFFFFF, req := s.dtb + 3, kind := .coreWrite 5 (0x20000000 + 8 * 0xFFFFF) 8 0x8123456789ABCDEF }
    let c : Nat := ((s.bankTurn b).map (fun x => x.1)).getD 0
    let core : Nat := 5
    let addr : Nat := 0x20000000 + 8 * 0xFFFFF
    let v : DWord := 0x8123456789ABCDEF
    exact ⟨s, b, c, a, core, addr, v, holds_of (fun (h : _ ∧ _ ∧ _ ∧ _ ∧ _ ∧ _ ∧ _ ∧ _) => ⟨inv_of h.1, h.2.1, h.2.2.1, h.2.2.2.1, h.2.2.2.2.1, h.2.2.2.2.2.1, h.2.2.2.2.2.2.1, h.2.2.2.2.2.2.2⟩) (by decide +kernel +revert)⟩
  · let R := quiet
    let s : State := (let z := ((calm R [6, 0]).setf Reg.CHS_ISIG Fld.CHS_ISIG_sig 0).setDesc 0xD0005 (dset 0 4 1); { z with paddock := { z.paddock with seenAt := 0, seen := [], free := List.replicate 8 0, waiting := [({ sig := 0xD0005, req := z.dtb + 3, kind := .coreWrite 2 (0x20000000 + 8 * 0xD0005) 4 7 } : PendAccess)] } })
    let b : Nat := 0xD0005 % 8
    let a : PendAccess := { sig := 0xD0005, req := s.dtb + 3, kind := .coreWrite 2 (0x20000000 + 8 * 0xD0005) 4 7 }
    let c : Nat := ((s.bankTurn b).map (fun x => x.1)).getD 0
    let core : Nat := 2
    let addr : Nat := 0x20000000 + 8 * 0xD0005
    let v : DWord := 7
    let size : Nat := 4
    exact ⟨s, b, c, a, core, addr, size, v, holds_of (fun (h : _ ∧ _ ∧ _ ∧ _ ∧ _ ∧ _ ∧ _ ∧ _) => ⟨inv_of h.1, h.2.1, h.2.2.1, h.2.2.2.1, h.2.2.2.2.1, h.2.2.2.2.2.1, h.2.2.2.2.2.2.1, h.2.2.2.2.2.2.2⟩) (by decide +kernel +revert)⟩
  · let R := quiet
    let s : State := (let z := ((calm R [6, 0]).setf Reg.CHS_ISIG Fld.CHS_ISIG_sig 0).setDesc 0xD0005 (dset 0 4 1) |>.setSig 0xD0005 { value := 7, mword := 9 } |> fun x => { x with dtb := x.dtb + 10 }; { z with paddock := { z.paddock with seenAt := 0, seen := [], free := List.replicate 8 0, waiting := [({ sig := 0xD0005, req := z.dtb + 3, kind := .coreRead 5 (0x20000000 + 8 * 0xD0005) 8 } : PendAccess)] } })
    let b : Nat := 0xD0005 % 8
    let a : PendAccess := { sig := 0xD0005, req := s.dtb + 3, kind := .coreRead 5 (0x20000000 + 8 * 0xD0005) 8 }
    let c : Nat := ((s.bankTurn b).map (fun x => x.1)).getD 0
    let core : Nat := 5
    let addr : Nat := 0x20000000 + 8 * 0xD0005
    exact ⟨s, b, c, a, core, addr, holds_of (fun (h : _ ∧ _ ∧ _ ∧ _ ∧ _ ∧ _ ∧ _ ∧ _ ∧ _ ∧ _) => ⟨inv_of h.1, h.2.1, h.2.2.1, h.2.2.2.1, h.2.2.2.2.1, h.2.2.2.2.2.1, h.2.2.2.2.2.2.1, h.2.2.2.2.2.2.2.1, h.2.2.2.2.2.2.2.2.1, h.2.2.2.2.2.2.2.2.2⟩) (by decide +kernel +revert)⟩
  · let R := quiet
    let s : State := (let z := ((calm R [6, 0]).setf Reg.CHS_ISIG Fld.CHS_ISIG_sig 0).setDesc 0xD0005 (dset 0 4 1); { z with paddock := { z.paddock with seenAt := 0, seen := [], free := List.replicate 8 0, waiting := [({ sig := 0xD0005, req := z.dtb + 3, kind := .descWrite 2 (dset 2 4 1) } : PendAccess)] } })
    let b : Nat := 0xD0005 % 8
    let a : PendAccess := { sig := 0xD0005, req := s.dtb + 3, kind := .descWrite 2 (dset 2 4 1) }
    let c : Nat := ((s.bankTurn b).map (fun x => x.1)).getD 0
    let core : Nat := 2
    let v : DWord := dset 2 4 1
    exact ⟨s, b, c, a, core, v, holds_of (fun (h : _ ∧ _ ∧ _ ∧ _ ∧ _ ∧ _ ∧ _) => ⟨inv_of h.1, h.2.1, h.2.2.1, h.2.2.2.1, h.2.2.2.2.1, h.2.2.2.2.2.1, h.2.2.2.2.2.2⟩) (by decide +kernel +revert)⟩

theorem witness_AdcCommands :
    (∃ (s : State) (u : Nat) (i : Nat) (d : Nat), s.Inv ∧ u < 16 ∧ i < 4 ∧ (s.auAt u).delay.getD i none = some d ∧ (s.auAt u).act = none ∧ (s.auAt u).running = none ∧ (s.auAt u).wait = none ∧ (s.auAt u).incoming = []) ∧
    (∃ (s : State) (u : Nat) (i : Nat) (k : Nat) (e : Nat), s.Inv ∧ u < 16 ∧ i < 4 ∧ s.slotEdge u = some e ∧ (s.auAt u).act = none ∧ (s.auAt u).running = none ∧ (s.auAt u).wait = none ∧ (s.auAt u).incoming = [] ∧ s.slotPending u i = true ∧ adcEdge ((s.auAt u).pendAt.getD i 0) ≤ e ∧ (∀ j, j < i → s.slotPending u j = true → e < adcEdge ((s.auAt u).pendAt.getD j 0)) ∧ s.nextEntry u (s.fld (Reg.ADC_TRG u i) Fld.ADC_TRG_first) (s.fld (Reg.ADC_TRG u i) Fld.ADC_TRG_last) = some k) ∧
    (∃ (s : State) (u : Nat) (c : Conversion), s.Inv ∧ u < 16 ∧ (s.auAt u).act = some c ∧ c.sampling = true) ∧
    (∃ (s : State) (u : Nat) (code : Nat) (c : Conversion) (q : Asker), s.Inv ∧ u < 16 ∧ code < 16384 ∧ (s.auAt u).act = some c ∧ c.sampling = false ∧ c.enc = none ∧ c.slot = none ∧ c.by_ = some q ∧ c.src ≠ .agnd) ∧
    (∃ (s : State) (u : Nat) (core : Nat) (k : Nat), s.Inv ∧ u < 16 ∧ core < 6 ∧ k < 16 ∧ s.domainOn 3 = true ∧ s.cpuRatioOk = true) ∧
    (∃ (s : State) (u : Nat) (q : UrgentReq), s.Inv ∧ u < 16 ∧ nextUrgent (s.auAt u).incoming = some q ∧ (s.auAt u).act = none ∧ s.adcOn u = true ∧ s.entryValid u q.entry = true) ∧
    (∃ (s : State) (u : Nat) (q : UrgentReq) (c : Conversion), s.Inv ∧ u < 16 ∧ nextUrgent (s.auAt u).incoming = some q ∧ (s.auAt u).act = some c ∧ s.adcAt (adcEdge q.arrive) < c.ends ∧ s.adcOn u = true ∧ s.entryValid u q.entry = true) ∧
    (∃ (s : State) (u : Nat) (core : Nat) (slots : Nat) (i : Nat), s.Inv ∧ u < 16 ∧ core < 6 ∧ slots < 16 ∧ i < 4 ∧ s.domainOn 3 = true ∧ s.on (Reg.ADC_CTRL u) Fld.ADC_CTRL_en = true ∧ s.cpuRatioOk = true ∧ s.adcRatioOk = true ∧ bit slots i = true ∧ s.fld (Reg.ADC_TRG u i) Fld.ADC_TRG_skind = 5 ∧ s.slotBusy u i = false ∧ (s.auAt u).delay.length = 4) ∧
    (∃ (s : State) (u : Nat) (core : Nat), s.Inv ∧ u < 16 ∧ core < 6 ∧ s.domainOn 3 = true ∧ s.cpuRatioOk = true ∧ s.on (Reg.ADC_CTRL u) Fld.ADC_CTRL_en = false ∧ s.on (Reg.ADC_STATUS u) Fld.ADC_STATUS_cal_busy = false) ∧
    (∃ (s : State) (u : Nat) (d : Nat), s.Inv ∧ u < 16 ∧ (s.auAt u).calDue = some d) ∧
    (∃ (s : State) (u : Nat) (core : Nat), s.Inv ∧ u < 16 ∧ core < 6 ∧ s.domainOn 3 = true ∧ s.cpuRatioOk = true ∧ s.on (Reg.ADC_CTRL u) Fld.ADC_CTRL_en = true) ∧
    (∃ (s : State) (u : Nat) (n : Nat) (d : Nat), s.Inv ∧ u < 16 ∧ n < 8 ∧ s.tt.getD n none = some d) := by
  refine ⟨?_, ?_, ?_, ?_, ?_, ?_, ?_, ?_, ?_, ?_, ?_, ?_⟩
  · let R := quiet
    let u : Nat := 15
    let i : Nat := 3
    let d : Nat := 70
    let s : State := R.modAu 15 (fun a => { a with wait := none, incoming := [], delay := [none, none, none, some 70] })
    exact ⟨s, u, i, d, holds_of (fun (h : _ ∧ _ ∧ _ ∧ _ ∧ _ ∧ _ ∧ _ ∧ _) => ⟨inv_of h.1, h.2.1, h.2.2.1, h.2.2.2.1, h.2.2.2.2.1, h.2.2.2.2.2.1, h.2.2.2.2.2.2.1, h.2.2.2.2.2.2.2⟩) (by decide +kernel +revert)⟩
  · let R := quiet
    let u : Nat := 15
    let i : Nat := 2
    let k : Nat := 5
    let e : Nat := 2000
    let s : State := (((R.modAu 15 (fun a => { a with pendAt := [0, 0, 796, 0], freeAt := 2000 , act := none, running := none, wait := none, incoming := [] })).setf (Reg.ADC_TRG 15 2) Fld.ADC_TRG_first 5).setf (Reg.ADC_TRG 15 2) Fld.ADC_TRG_last 6 |>.setf (Reg.ADC_STATUS 15) Fld.ADC_STATUS_pend 4 |>.setf (Reg.ADC_CTRL 15) Fld.ADC_CTRL_en 1 |>.wr (Reg.ADC_ECFG 15 5) 0xffffffff )
    exact ⟨s, u, i, k, e, holds_of (fun (h : _ ∧ _ ∧ _ ∧ _ ∧ _ ∧ _ ∧ _ ∧ _ ∧ _ ∧ _ ∧ _ ∧ _) => ⟨inv_of h.1, h.2.1, h.2.2.1, h.2.2.2.1, h.2.2.2.2.1, h.2.2.2.2.2.1, h.2.2.2.2.2.2.1, h.2.2.2.2.2.2.2.1, h.2.2.2.2.2.2.2.2.1, h.2.2.2.2.2.2.2.2.2.1, h.2.2.2.2.2.2.2.2.2.2.1, h.2.2.2.2.2.2.2.2.2.2.2⟩) (by decide +kernel +revert)⟩
  · let R := quiet
    let u : Nat := 15
    let c : Conversion := { entry := 3, slot := some 1, by_ := none, src := .coreSupply, sampling := true, tEnd := 4001, tsUs := 0 }
    let s : State := R.modAu 15 (fun a => { a with act := some { entry := 3, slot := some 1, by_ := none, src := .coreSupply, sampling := true, tEnd := 4001, tsUs := 0 } })
    exact ⟨s, u, c, holds_of (fun (h : _ ∧ _ ∧ _ ∧ _) => ⟨inv_of h.1, h.2.1, h.2.2.1, h.2.2.2⟩) (by decide +kernel +revert)⟩
  · let R := quiet
    let u : Nat := 15
    let code : Nat := 16383
    let c : Conversion := { entry := 15, slot := none, by_ := some { requester := 13 }, src := .coreSupply, sampling := false, tEnd := 4001, tsUs := 77 }
    let s : State := R.modAu 15 (fun a => { a with act := some { entry := 15, slot := none, by_ := some { requester := 13 }, src := .coreSupply, sampling := false, tEnd := 4001, tsUs := 77 } }) |>.wr (Reg.ADC_EDST 15 15) 0x12345
    let q : Asker := { requester := 13 }
    exact ⟨s, u, code, c, q, holds_of (fun (h : _ ∧ _ ∧ _ ∧ _ ∧ _ ∧ _ ∧ _ ∧ _ ∧ _) => ⟨inv_of h.1, h.2.1, h.2.2.1, h.2.2.2.1, h.2.2.2.2.1, h.2.2.2.2.2.1, h.2.2.2.2.2.2.1, h.2.2.2.2.2.2.2.1, h.2.2.2.2.2.2.2.2⟩) (by decide +kernel +revert)⟩
  · let R := quiet
    let u : Nat := 15
    let core : Nat := 5
    let k : Nat := 15
    let s : State := (calm R [3]).setf (Reg.ADC_CTRL 15) Fld.ADC_CTRL_en 1
    exact ⟨s, u, core, k, holds_of (fun (h : _ ∧ _ ∧ _ ∧ _ ∧ _ ∧ _) => ⟨inv_of h.1, h.2.1, h.2.2.1, h.2.2.2.1, h.2.2.2.2.1, h.2.2.2.2.2⟩) (by decide +kernel +revert)⟩
  · let R := quiet
    let u : Nat := 15
    let q : UrgentReq := { asker := { requester := 13 }, entry := 2, arrive := 40 }
    let s : State := (calm R [3]).modAu 15 (fun a => { a with incoming := [{ asker := { requester := 13 }, entry := 2, arrive := 40 }] }) |>.wr (Reg.ADC_ECFG 15 2) 0xffffffff |>.setf (Reg.ADC_CTRL 15) Fld.ADC_CTRL_en 1
    exact ⟨s, u, q, holds_of (fun (h : _ ∧ _ ∧ _ ∧ _ ∧ _ ∧ _) => ⟨inv_of h.1, h.2.1, h.2.2.1, h.2.2.2.1, h.2.2.2.2.1, h.2.2.2.2.2⟩) (by decide +kernel +revert)⟩
  · let R := quiet
    let u : Nat := 15
    let q : UrgentReq := { asker := { requester := 13 }, entry := 2, arrive := 40 }
    let c : Conversion := { entry := 3, src := .coreSupply, slot := some 1, by_ := none, sampling := true, tEnd := 4001 + 100 * R.dtb, tsUs := 0 }
    let s : State := (R.modAu 15 (fun a => { a with wait := none, act := some { entry := 3, src := .coreSupply, slot := some 1, by_ := none, sampling := true, tEnd := 4001 + 100 * R.dtb, tsUs := 0 }, incoming := [{ asker := { requester := 13 }, entry := 2, arrive := 40 }] })).wr (Reg.ADC_ECFG 15 2) 0xffffffff |>.setf (Reg.ADC_CTRL 15) Fld.ADC_CTRL_en 1 |>.setDomain 3 0
    exact ⟨s, u, q, c, holds_of (fun (h : _ ∧ _ ∧ _ ∧ _ ∧ _ ∧ _ ∧ _) => ⟨inv_of h.1, h.2.1, h.2.2.1, h.2.2.2.1, h.2.2.2.2.1, h.2.2.2.2.2.1, h.2.2.2.2.2.2⟩) (by decide +kernel +revert)⟩
  · let R := quiet
    let u : Nat := 15
    let core : Nat := 0
    let slots : Nat := 8
    let i : Nat := 3
    let s : State := (calm R [3]).setf (Reg.ADC_CTRL 15) Fld.ADC_CTRL_en 1 |>.setf (Reg.ADC_TRG 15 3) Fld.ADC_TRG_skind 5 |>.setf (Reg.ADC_TDLY 15 3) Fld.ADC_TDLY_dly 100 |>.setf (Reg.ADC_TRG 15 3) Fld.ADC_TRG_first 0
    exact ⟨s, u, core, slots, i, holds_of (fun (h : _ ∧ _ ∧ _ ∧ _ ∧ _ ∧ _ ∧ _ ∧ _ ∧ _ ∧ _ ∧ _ ∧ _ ∧ _) => ⟨inv_of h.1, h.2.1, h.2.2.1, h.2.2.2.1, h.2.2.2.2.1, h.2.2.2.2.2.1, h.2.2.2.2.2.2.1, h.2.2.2.2.2.2.2.1, h.2.2.2.2.2.2.2.2.1, h.2.2.2.2.2.2.2.2.2.1, h.2.2.2.2.2.2.2.2.2.2.1, h.2.2.2.2.2.2.2.2.2.2.2.1, h.2.2.2.2.2.2.2.2.2.2.2.2⟩) (by decide +kernel +revert)⟩
  · let R := quiet
    let u : Nat := 15
    let core : Nat := 0
    let s : State := calm R [3]
    exact ⟨s, u, core, holds_of (fun (h : _ ∧ _ ∧ _ ∧ _ ∧ _ ∧ _ ∧ _) => ⟨inv_of h.1, h.2.1, h.2.2.1, h.2.2.2.1, h.2.2.2.2.1, h.2.2.2.2.2.1, h.2.2.2.2.2.2⟩) (by decide +kernel +revert)⟩
  · let R := quiet
    let u : Nat := 15
    let d : Nat := 100
    let s : State := (R.modAu 15 (fun a => { a with calDue := some 100 })).setf (Reg.ADC_STATUS 15) Fld.ADC_STATUS_cal_busy 1
    exact ⟨s, u, d, holds_of (fun (h : _ ∧ _ ∧ _) => ⟨inv_of h.1, h.2.1, h.2.2⟩) (by decide +kernel +revert)⟩
  · let R := quiet
    let u : Nat := 15
    let core : Nat := 0
    let s : State := (calm R [3]).setf (Reg.ADC_CTRL 15) Fld.ADC_CTRL_en 1 |>.setf (Reg.ADC_STATUS 15) Fld.ADC_STATUS_pend 15
    exact ⟨s, u, core, holds_of (fun (h : _ ∧ _ ∧ _ ∧ _ ∧ _ ∧ _) => ⟨inv_of h.1, h.2.1, h.2.2.1, h.2.2.2.1, h.2.2.2.2.1, h.2.2.2.2.2⟩) (by decide +kernel +revert)⟩
  · let R := quiet
    let u : Nat := 15
    let n : Nat := 7
    let d : Nat := 4000
    let s : State := { R with tt := R.tt.set 7 (some 4000) } |>.setf (Reg.TT_PER 7) Fld.TT_PER_per 900
    exact ⟨s, u, n, d, holds_of (fun (h : _ ∧ _ ∧ _ ∧ _) => ⟨inv_of h.1, h.2.1, h.2.2.1, h.2.2.2⟩) (by decide +kernel +revert)⟩

theorem witness_CanterData :
    (∃ (s : State) (e : Nat) (l : Nat) (c : Section) (tt : Nat) (d : Nat) (imm : Nat), s.Inv ∧ d < 64 ∧ Issues s e l 0x08 [(fD, d), (fImm, imm)] c tt) ∧
    (∃ (s : State) (e : Nat) (l : Nat) (c : Section) (tt : Nat) (d : Nat) (x : Nat), s.Inv ∧ d < 64 ∧ Issues s e l 0x09 [(fD, d), (fX, x)] c tt) ∧
    (∃ (s : State) (e : Nat) (l : Nat) (c : Section) (tt : Nat) (d : Nat) (x : Nat) (y : Nat), s.Inv ∧ d < 64 ∧ Issues s e l 0x0A [(fD, d), (fX, x), (fY, y)] c tt) ∧
    (∃ (s : State) (e : Nat) (l : Nat) (c : Section) (tt : Nat) (d : Nat) (x : Nat) (y : Nat), s.Inv ∧ d < 64 ∧ Issues s e l 0x0B [(fD, d), (fX, x), (fY, y)] c tt) ∧
    (∃ (s : State) (e : Nat) (l : Nat) (c : Section) (tt : Nat) (d : Nat) (x : Nat), s.Inv ∧ d < 64 ∧ Issues s e l 0x0C [(fD, d), (fX, x)] c tt) ∧
    (∃ (s : State) (e : Nat) (l : Nat) (c : Section) (tt : Nat) (d : Nat) (x : Nat), s.Inv ∧ d < 64 ∧ Issues s e l 0x0D [(fD, d), (fX, x)] c tt) ∧
    (∃ (s : State) (e : Nat) (l : Nat) (c : Section) (tt : Nat) (d : Nat) (x : Nat) (y : Nat), s.Inv ∧ d < 64 ∧ Issues s e l 0x0E [(fD, d), (fX, x), (fY, y)] c tt) ∧
    (∃ (s : State) (e : Nat) (l : Nat) (c : Section) (tt : Nat) (d : Nat) (x : Nat) (y : Nat), s.Inv ∧ d < 64 ∧ Issues s e l 0x0F [(fD, d), (fX, x), (fY, y)] c tt) ∧
    (∃ (s : State) (e : Nat) (l : Nat) (c : Section) (tt : Nat) (d : Nat) (x : Nat) (lo : Nat) (hi : Nat), s.Inv ∧ d < 64 ∧ Issues s e l 0x10 [(fD, d), (fX, x), (fY, lo), (fZ, hi)] c tt) ∧
    (∃ (s : State) (e : Nat) (l : Nat) (c : Section) (tt : Nat) (d : Nat) (x : Nat) (k : Nat), s.Inv ∧ d < 64 ∧ k < 64 ∧ Issues s e l 0x11 [(fD, d), (fX, x), (fY, k)] c tt) ∧
    (∃ (s : State) (e : Nat) (l : Nat) (c : Section) (tt : Nat) (d : Nat) (x : Nat) (y : Nat), s.Inv ∧ d < 64 ∧ Issues s e l 0x12 [(fD, d), (fX, x), (fY, y)] c tt) ∧
    (∃ (s : State) (e : Nat) (l : Nat) (c : Section) (tt : Nat) (d : Nat) (k : Nat), s.Inv ∧ d < 64 ∧ k < 4096 ∧ Issues s e l 0x2A [(fD, d), (fC, k)] c tt) := by
  refine ⟨?_, ?_, ?_, ?_, ?_, ?_, ?_, ?_, ?_, ?_, ?_, ?_⟩
  · let R := quiet
    let e : Nat := 11
    let l : Nat := 3
    let c0 : Section := { look := false, pc := 1023, t := 100, sched := { last := 7 }, sel := .committed }
    let d : Nat := 63
    let imm : Nat := 65535
    let c : Section := cAt R e l 0x08 [(fD, d), (fImm, imm)] c0
    let tt : Nat := issuesAt R e l 0x08 [(fD, d), (fImm, imm)] c
    let s : State := atInstr R e l 0x08 [(fD, d), (fImm, imm)] c
    exact ⟨s, e, l, c, tt, d, imm, holds_of (fun (h : _ ∧ _ ∧ _) => ⟨inv_of h.1, h.2.1, issues_of h.2.2⟩) (by decide +kernel +revert)⟩
  · let R := quiet
    let e : Nat := 11
    let l : Nat := 3
    let c0 : Section := { look := false, pc := 1023, t := 100, sched := { last := 7 }, sel := .committed }
    let d : Nat := 63
    let x : Nat := 63
    let c : Section := cAt R e l 0x09 [(fD, d), (fX, x)] c0
    let tt : Nat := issuesAt R e l 0x09 [(fD, d), (fX, x)] c
    let s : State := atInstr R e l 0x09 [(fD, d), (fX, x)] c
    exact ⟨s, e, l, c, tt, d, x, holds_of (fun (h : _ ∧ _ ∧ _) => ⟨inv_of h.1, h.2.1, issues_of h.2.2⟩) (by decide +kernel +revert)⟩
  · let R := quiet
    let e : Nat := 11
    let l : Nat := 3
    let c0 : Section := { look := false, pc := 1023, t := 100, sched := { last := 7 }, sel := .committed }
    let d : Nat := 63
    let x : Nat := 63
    let y : Nat := 63
    let c : Section := cAt R e l 0x0A [(fD, d), (fX, x), (fY, y)] c0
    let tt : Nat := issuesAt R e l 0x0A [(fD, d), (fX, x), (fY, y)] c
    let s : State := atInstr R e l 0x0A [(fD, d), (fX, x), (fY, y)] c
    exact ⟨s, e, l, c, tt, d, x, y, holds_of (fun (h : _ ∧ _ ∧ _) => ⟨inv_of h.1, h.2.1, issues_of h.2.2⟩) (by decide +kernel +revert)⟩
  · let R := quiet
    let e : Nat := 11
    let l : Nat := 3
    let c0 : Section := { look := false, pc := 1023, t := 100, sched := { last := 7 }, sel := .committed }
    let d : Nat := 63
    let x : Nat := 63
    let y : Nat := 63
    let c : Section := cAt R e l 0x0B [(fD, d), (fX, x), (fY, y)] c0
    let tt : Nat := issuesAt R e l 0x0B [(fD, d), (fX, x), (fY, y)] c
    let s : State := atInstr R e l 0x0B [(fD, d), (fX, x), (fY, y)] c
    exact ⟨s, e, l, c, tt, d, x, y, holds_of (fun (h : _ ∧ _ ∧ _) => ⟨inv_of h.1, h.2.1, issues_of h.2.2⟩) (by decide +kernel +revert)⟩
  · let R := quiet
    let e : Nat := 11
    let l : Nat := 3
    let c0 : Section := { look := false, pc := 1023, t := 100, sched := { last := 7 }, sel := .committed }
    let d : Nat := 63
    let x : Nat := 63
    let c : Section := cAt R e l 0x0C [(fD, d), (fX, x)] c0
    let tt : Nat := issuesAt R e l 0x0C [(fD, d), (fX, x)] c
    let s : State := atInstr R e l 0x0C [(fD, d), (fX, x)] c
    exact ⟨s, e, l, c, tt, d, x, holds_of (fun (h : _ ∧ _ ∧ _) => ⟨inv_of h.1, h.2.1, issues_of h.2.2⟩) (by decide +kernel +revert)⟩
  · let R := quiet
    let e : Nat := 11
    let l : Nat := 3
    let c0 : Section := { look := false, pc := 1023, t := 100, sched := { last := 7 }, sel := .committed }
    let d : Nat := 63
    let x : Nat := 63
    let c : Section := cAt R e l 0x0D [(fD, d), (fX, x)] c0
    let tt : Nat := issuesAt R e l 0x0D [(fD, d), (fX, x)] c
    let s : State := atInstr R e l 0x0D [(fD, d), (fX, x)] c
    exact ⟨s, e, l, c, tt, d, x, holds_of (fun (h : _ ∧ _ ∧ _) => ⟨inv_of h.1, h.2.1, issues_of h.2.2⟩) (by decide +kernel +revert)⟩
  · let R := quiet
    let e : Nat := 11
    let l : Nat := 3
    let c0 : Section := { look := false, pc := 1023, t := 100, sched := { last := 7 }, sel := .committed }
    let d : Nat := 63
    let x : Nat := 63
    let y : Nat := 63
    let c : Section := cAt R e l 0x0E [(fD, d), (fX, x), (fY, y)] c0
    let tt : Nat := issuesAt R e l 0x0E [(fD, d), (fX, x), (fY, y)] c
    let s : State := atInstr R e l 0x0E [(fD, d), (fX, x), (fY, y)] c
    exact ⟨s, e, l, c, tt, d, x, y, holds_of (fun (h : _ ∧ _ ∧ _) => ⟨inv_of h.1, h.2.1, issues_of h.2.2⟩) (by decide +kernel +revert)⟩
  · let R := quiet
    let e : Nat := 11
    let l : Nat := 3
    let c0 : Section := { look := false, pc := 1023, t := 100, sched := { last := 7 }, sel := .committed }
    let d : Nat := 63
    let x : Nat := 63
    let y : Nat := 63
    let c : Section := cAt R e l 0x0F [(fD, d), (fX, x), (fY, y)] c0
    let tt : Nat := issuesAt R e l 0x0F [(fD, d), (fX, x), (fY, y)] c
    let s : State := atInstr R e l 0x0F [(fD, d), (fX, x), (fY, y)] c
    exact ⟨s, e, l, c, tt, d, x, y, holds_of (fun (h : _ ∧ _ ∧ _) => ⟨inv_of h.1, h.2.1, issues_of h.2.2⟩) (by decide +kernel +revert)⟩
  · let R := quiet
    let e : Nat := 11
    let l : Nat := 3
    let c0 : Section := { look := false, pc := 1023, t := 100, sched := { last := 7 }, sel := .committed }
    let d : Nat := 63
    let x : Nat := 63
    let lo : Nat := 63
    let hi : Nat := 63
    let c : Section := cAt R e l 0x10 [(fD, d), (fX, x), (fY, lo), (fZ, hi)] c0
    let tt : Nat := issuesAt R e l 0x10 [(fD, d), (fX, x), (fY, lo), (fZ, hi)] c
    let s : State := atInstr R e l 0x10 [(fD, d), (fX, x), (fY, lo), (fZ, hi)] c
    exact ⟨s, e, l, c, tt, d, x, lo, hi, holds_of (fun (h : _ ∧ _ ∧ _) => ⟨inv_of h.1, h.2.1, issues_of h.2.2⟩) (by decide +kernel +revert)⟩
  · let R := quiet
    let e : Nat := 11
    let l : Nat := 3
    let c0 : Section := { look := false, pc := 1023, t := 100, sched := { last := 7 }, sel := .committed }
    let d : Nat := 63
    let x : Nat := 63
    let k : Nat := 63
    let c : Section := cAt R e l 0x11 [(fD, d), (fX, x), (fY, k)] c0
    let tt : Nat := issuesAt R e l 0x11 [(fD, d), (fX, x), (fY, k)] c
    let s : State := atInstr R e l 0x11 [(fD, d), (fX, x), (fY, k)] c
    exact ⟨s, e, l, c, tt, d, x, k, holds_of (fun (h : _ ∧ _ ∧ _ ∧ _) => ⟨inv_of h.1, h.2.1, h.2.2.1, issues_of h.2.2.2⟩) (by decide +kernel +revert)⟩
  · let R := quiet
    let e : Nat := 11
    let l : Nat := 3
    let c0 : Section := { look := false, pc := 1023, t := 100, sched := { last := 7 }, sel := .committed }
    let d : Nat := 63
    let x : Nat := 63
    let y : Nat := 63
    let c : Section := cAt R e l 0x12 [(fD, d), (fX, x), (fY, y)] c0
    let tt : Nat := issuesAt R e l 0x12 [(fD, d), (fX, x), (fY, y)] c
    let s : State := atInstr R e l 0x12 [(fD, d), (fX, x), (fY, y)] c
    exact ⟨s, e, l, c, tt, d, x, y, holds_of (fun (h : _ ∧ _ ∧ _) => ⟨inv_of h.1, h.2.1, issues_of h.2.2⟩) (by decide +kernel +revert)⟩
  · let R := quiet
    let e : Nat := 11
    let l : Nat := 3
    let c0 : Section := { look := false, pc := 1023, t := 100, sched := { last := 7 }, sel := .committed }
    let d : Nat := 63
    let k : Nat := 4095
    let c : Section := cAt R e l 0x2A [(fD, d), (fC, k)] c0
    let tt : Nat := issuesAt R e l 0x2A [(fD, d), (fC, k)] c
    let s : State := atInstr R e l 0x2A [(fD, d), (fC, k)] c
    exact ⟨s, e, l, c, tt, d, k, holds_of (fun (h : _ ∧ _ ∧ _ ∧ _) => ⟨inv_of h.1, h.2.1, h.2.2.1, issues_of h.2.2.2⟩) (by decide +kernel +revert)⟩

theorem witness_CanterAccumulators :
    (∃ (s : State) (e : Nat) (l : Nat) (c : Section) (tt : Nat) (a : Nat) (x : Nat) (y : Nat), s.Inv ∧ a < 4 ∧ Issues s e l 0x14 [(fA, a), (fAx, x), (fAy, y)] c tt) ∧
    (∃ (s : State) (e : Nat) (l : Nat) (c : Section) (tt : Nat) (a : Nat) (x : Nat) (y : Nat), s.Inv ∧ a < 4 ∧ Issues s e l 0x15 [(fA, a), (fAx, x), (fAy, y)] c tt) ∧
    (∃ (s : State) (e : Nat) (l : Nat) (c : Section) (tt : Nat) (a : Nat) (x : Nat) (y : Nat), s.Inv ∧ a < 4 ∧ Issues s e l 0x16 [(fA, a), (fAx, x), (fAy, y)] c tt) ∧
    (∃ (s : State) (e : Nat) (l : Nat) (c : Section) (tt : Nat) (a : Nat) (x : Nat) (k : Nat), s.Inv ∧ a < 4 ∧ k < 4096 ∧ Issues s e l 0x17 [(fA, a), (fAx, x), (fC, k)] c tt) ∧
    (∃ (s : State) (e : Nat) (l : Nat) (c : Section) (tt : Nat) (a : Nat) (x : Nat) (k : Nat), s.Inv ∧ a < 4 ∧ k < 4096 ∧ Issues s e l 0x18 [(fA, a), (fAx, x), (fC, k)] c tt) ∧
    (∃ (s : State) (e : Nat) (l : Nat) (c : Section) (tt : Nat) (a : Nat) (x : Nat) (y : Nat), s.Inv ∧ a < 4 ∧ a % 2 = 0 ∧ Issues s e l 0x19 [(fA, a), (fAx, x), (fAy, y)] c tt) ∧
    (∃ (s : State) (e : Nat) (l : Nat) (c : Section) (tt : Nat) (a : Nat) (x : Nat) (y : Nat), s.Inv ∧ a < 4 ∧ Issues s e l 0x1A [(fA, a), (fAx, x), (fAy, y)] c tt) ∧
    (∃ (s : State) (e : Nat) (l : Nat) (c : Section) (tt : Nat) (a : Nat) (x : Nat), s.Inv ∧ a < 4 ∧ Issues s e l 0x1B [(fA, a), (fAx, x)] c tt) ∧
    (∃ (s : State) (e : Nat) (l : Nat) (c : Section) (tt : Nat) (a : Nat) (b : Nat), s.Inv ∧ a < 4 ∧ b < 4 ∧ Issues s e l 0x1C [(fA, a), (fB, b)] c tt) ∧
    (∃ (s : State) (e : Nat) (l : Nat) (c : Section) (tt : Nat) (a : Nat) (b : Nat), s.Inv ∧ a < 4 ∧ b < 4 ∧ Issues s e l 0x1D [(fA, a), (fB, b)] c tt) ∧
    (∃ (s : State) (e : Nat) (l : Nat) (c : Section) (tt : Nat) (a : Nat) (k : Nat), s.Inv ∧ a < 4 ∧ k < 64 ∧ Issues s e l 0x1E [(fA, a), (fS6, k)] c tt) := by
  refine ⟨?_, ?_, ?_, ?_, ?_, ?_, ?_, ?_, ?_, ?_, ?_⟩
  · let R := quiet
    let e : Nat := 11
    let l : Nat := 3
    let c0 : Section := { look := false, pc := 1023, t := 100, sched := { last := 7 }, sel := .committed }
    let a : Nat := 3
    let x : Nat := 63
    let y : Nat := 63
    let c : Section := cAt R e l 0x14 [(fA, a), (fAx, x), (fAy, y)] c0
    let tt : Nat := issuesAt R e l 0x14 [(fA, a), (fAx, x), (fAy, y)] c
    let s : State := atInstr R e l 0x14 [(fA, a), (fAx, x), (fAy, y)] c
    exact ⟨s, e, l, c, tt, a, x, y, holds_of (fun (h : _ ∧ _ ∧ _) => ⟨inv_of h.1, h.2.1, issues_of h.2.2⟩) (by decide +kernel +revert)⟩
  · let R := quiet
    let e : Nat := 11
    let l : Nat := 3
    let c0 : Section := { look := false, pc := 1023, t := 100, sched := { last := 7 }, sel := .committed }
    let a : Nat := 3
    let x : Nat := 63
    let y : Nat := 63
    let c : Section := cAt R e l 0x15 [(fA, a), (fAx, x), (fAy, y)] c0
    let tt : Nat := issuesAt R e l 0x15 [(fA, a), (fAx, x), (fAy, y)] c
    let s : State := atInstr R e l 0x15 [(fA, a), (fAx, x), (fAy, y)] c
    exact ⟨s, e, l, c, tt, a, x, y, holds_of (fun (h : _ ∧ _ ∧ _) => ⟨inv_of h.1, h.2.1, issues_of h.2.2⟩) (by decide +kernel +revert)⟩
  · let R := quiet
    let e : Nat := 11
    let l : Nat := 3
    let c0 : Section := { look := false, pc := 1023, t := 100, sched := { last := 7 }, sel := .committed }
    let a : Nat := 3
    let x : Nat := 63
    let y : Nat := 63
    let c : Section := cAt R e l 0x16 [(fA, a), (fAx, x), (fAy, y)] c0
    let tt : Nat := issuesAt R e l 0x16 [(fA, a), (fAx, x), (fAy, y)] c
    let s : State := atInstr R e l 0x16 [(fA, a), (fAx, x), (fAy, y)] c
    exact ⟨s, e, l, c, tt, a, x, y, holds_of (fun (h : _ ∧ _ ∧ _) => ⟨inv_of h.1, h.2.1, issues_of h.2.2⟩) (by decide +kernel +revert)⟩
  · let R := quiet
    let e : Nat := 11
    let l : Nat := 3
    let c0 : Section := { look := false, pc := 1023, t := 100, sched := { last := 7 }, sel := .committed }
    let a : Nat := 3
    let x : Nat := 63
    let k : Nat := 4095
    let c : Section := cAt R e l 0x17 [(fA, a), (fAx, x), (fC, k)] c0
    let tt : Nat := issuesAt R e l 0x17 [(fA, a), (fAx, x), (fC, k)] c
    let s : State := atInstr R e l 0x17 [(fA, a), (fAx, x), (fC, k)] c
    exact ⟨s, e, l, c, tt, a, x, k, holds_of (fun (h : _ ∧ _ ∧ _ ∧ _) => ⟨inv_of h.1, h.2.1, h.2.2.1, issues_of h.2.2.2⟩) (by decide +kernel +revert)⟩
  · let R := quiet
    let e : Nat := 11
    let l : Nat := 3
    let c0 : Section := { look := false, pc := 1023, t := 100, sched := { last := 7 }, sel := .committed }
    let a : Nat := 3
    let x : Nat := 63
    let k : Nat := 4095
    let c : Section := cAt R e l 0x18 [(fA, a), (fAx, x), (fC, k)] c0
    let tt : Nat := issuesAt R e l 0x18 [(fA, a), (fAx, x), (fC, k)] c
    let s : State := atInstr R e l 0x18 [(fA, a), (fAx, x), (fC, k)] c
    exact ⟨s, e, l, c, tt, a, x, k, holds_of (fun (h : _ ∧ _ ∧ _ ∧ _) => ⟨inv_of h.1, h.2.1, h.2.2.1, issues_of h.2.2.2⟩) (by decide +kernel +revert)⟩
  · let R := quiet
    let e : Nat := 11
    let l : Nat := 3
    let c0 : Section := { look := false, pc := 1023, t := 100, sched := { last := 7 }, sel := .committed }
    let a : Nat := 2
    let x : Nat := 63
    let y : Nat := 63
    let c : Section := cAt R e l 0x19 [(fA, a), (fAx, x), (fAy, y)] c0
    let tt : Nat := issuesAt R e l 0x19 [(fA, a), (fAx, x), (fAy, y)] c
    let s : State := atInstr R e l 0x19 [(fA, a), (fAx, x), (fAy, y)] c
    exact ⟨s, e, l, c, tt, a, x, y, holds_of (fun (h : _ ∧ _ ∧ _ ∧ _) => ⟨inv_of h.1, h.2.1, h.2.2.1, issues_of h.2.2.2⟩) (by decide +kernel +revert)⟩
  · let R := quiet
    let e : Nat := 11
    let l : Nat := 3
    let c0 : Section := { look := false, pc := 1023, t := 100, sched := { last := 7 }, sel := .committed }
    let a : Nat := 3
    let x : Nat := 63
    let y : Nat := 63
    let c : Section := cAt R e l 0x1A [(fA, a), (fAx, x), (fAy, y)] c0
    let tt : Nat := issuesAt R e l 0x1A [(fA, a), (fAx, x), (fAy, y)] c
    let s : State := atInstr R e l 0x1A [(fA, a), (fAx, x), (fAy, y)] c
    exact ⟨s, e, l, c, tt, a, x, y, holds_of (fun (h : _ ∧ _ ∧ _) => ⟨inv_of h.1, h.2.1, issues_of h.2.2⟩) (by decide +kernel +revert)⟩
  · let R := quiet
    let e : Nat := 11
    let l : Nat := 3
    let c0 : Section := { look := false, pc := 1023, t := 100, sched := { last := 7 }, sel := .committed }
    let a : Nat := 3
    let x : Nat := 63
    let c : Section := cAt R e l 0x1B [(fA, a), (fAx, x)] c0
    let tt : Nat := issuesAt R e l 0x1B [(fA, a), (fAx, x)] c
    let s : State := atInstr R e l 0x1B [(fA, a), (fAx, x)] c
    exact ⟨s, e, l, c, tt, a, x, holds_of (fun (h : _ ∧ _ ∧ _) => ⟨inv_of h.1, h.2.1, issues_of h.2.2⟩) (by decide +kernel +revert)⟩
  · let R := quiet
    let e : Nat := 11
    let l : Nat := 3
    let c0 : Section := { look := false, pc := 1023, t := 100, sched := { last := 7 }, sel := .committed }
    let a : Nat := 3
    let b : Nat := 3
    let c : Section := cAt R e l 0x1C [(fA, a), (fB, b)] c0
    let tt : Nat := issuesAt R e l 0x1C [(fA, a), (fB, b)] c
    let s : State := atInstr R e l 0x1C [(fA, a), (fB, b)] c
    exact ⟨s, e, l, c, tt, a, b, holds_of (fun (h : _ ∧ _ ∧ _ ∧ _) => ⟨inv_of h.1, h.2.1, h.2.2.1, issues_of h.2.2.2⟩) (by decide +kernel +revert)⟩
  · let R := quiet
    let e : Nat := 11
    let l : Nat := 3
    let c0 : Section := { look := false, pc := 1023, t := 100, sched := { last := 7 }, sel := .committed }
    let a : Nat := 3
    let b : Nat := 3
    let c : Section := cAt R e l 0x1D [(fA, a), (fB, b)] c0
    let tt : Nat := issuesAt R e l 0x1D [(fA, a), (fB, b)] c
    let s : State := atInstr R e l 0x1D [(fA, a), (fB, b)] c
    exact ⟨s, e, l, c, tt, a, b, holds_of (fun (h : _ ∧ _ ∧ _ ∧ _) => ⟨inv_of h.1, h.2.1, h.2.2.1, issues_of h.2.2.2⟩) (by decide +kernel +revert)⟩
  · let R := quiet
    let e : Nat := 11
    let l : Nat := 3
    let c0 : Section := { look := false, pc := 1023, t := 100, sched := { last := 7 }, sel := .committed }
    let a : Nat := 3
    let k : Nat := 63
    let c : Section := cAt R e l 0x1E [(fA, a), (fS6, k)] c0
    let tt : Nat := issuesAt R e l 0x1E [(fA, a), (fS6, k)] c
    let s : State := atInstr R e l 0x1E [(fA, a), (fS6, k)] c
    exact ⟨s, e, l, c, tt, a, k, holds_of (fun (h : _ ∧ _ ∧ _ ∧ _) => ⟨inv_of h.1, h.2.1, h.2.2.1, issues_of h.2.2.2⟩) (by decide +kernel +revert)⟩

theorem witness_CanterVectors :
    (∃ (s : State) (e : Nat) (l : Nat) (c : Section) (tt : Nat) (d : Nat) (x : Nat), s.Inv ∧ d < 63 ∧ Issues s e l 0x20 [(fD, d), (fX, x)] c tt) ∧
    (∃ (s : State) (e : Nat) (l : Nat) (c : Section) (tt : Nat) (d : Nat) (x : Nat) (y : Nat) (th : Nat), s.Inv ∧ d < 63 ∧ Issues s e l 0x21 [(fD, d), (fX, x), (fY, y), (fZ, th)] c tt) ∧
    (∃ (s : State) (e : Nat) (l : Nat) (c : Section) (tt : Nat) (d : Nat) (x : Nat) (y : Nat) (th : Nat), s.Inv ∧ d < 63 ∧ Issues s e l 0x22 [(fD, d), (fX, x), (fY, y), (fZ, th)] c tt) ∧
    (∃ (s : State) (e : Nat) (l : Nat) (c : Section) (tt : Nat) (d : Nat) (x : Nat) (y : Nat), s.Inv ∧ d < 63 ∧ Issues s e l 0x23 [(fD, d), (fX, x), (fY, y)] c tt) ∧
    (∃ (s : State) (e : Nat) (l : Nat) (c : Section) (tt : Nat) (d : Nat) (x : Nat) (y : Nat), s.Inv ∧ d < 62 ∧ Issues s e l 0x24 [(fD, d), (fX, x), (fY, y)] c tt) ∧
    (∃ (s : State) (e : Nat) (l : Nat) (c : Section) (tt : Nat) (d : Nat) (x : Nat) (y : Nat), s.Inv ∧ d < 64 ∧ Issues s e l 0x25 [(fD, d), (fX, x), (fY, y)] c tt) ∧
    (∃ (s : State) (e : Nat) (l : Nat) (c : Section) (tt : Nat) (d : Nat) (x : Nat), s.Inv ∧ d < 64 ∧ Issues s e l 0x26 [(fD, d), (fX, x)] c tt) := by
  refine ⟨?_, ?_, ?_, ?_, ?_, ?_, ?_⟩
  · let R := quiet
    let e : Nat := 11
    let l : Nat := 3
    let c0 : Section := { look := false, pc := 1023, t := 100, sched := { last := 7 }, sel := .committed }
    let d : Nat := 62
    let x : Nat := 63
    let c : Section := cAt R e l 0x20 [(fD, d), (fX, x)] c0
    let tt : Nat := issuesAt R e l 0x20 [(fD, d), (fX, x)] c
    let s : State := atInstr R e l 0x20 [(fD, d), (fX, x)] c
    exact ⟨s, e, l, c, tt, d, x, holds_of (fun (h : _ ∧ _ ∧ _) => ⟨inv_of h.1, h.2.1, issues_of h.2.2⟩) (by decide +kernel +revert)⟩
  · let R := quiet
    let e : Nat := 11
    let l : Nat := 3
    let c0 : Section := { look := false, pc := 1023, t := 100, sched := { last := 7 }, sel := .committed }
    let d : Nat := 62
    let x : Nat := 63
    let y : Nat := 63
    let th : Nat := 63
    let c : Section := cAt R e l 0x21 [(fD, d), (fX, x), (fY, y), (fZ, th)] c0
    let tt : Nat := issuesAt R e l 0x21 [(fD, d), (fX, x), (fY, y), (fZ, th)] c
    let s : State := atInstr R e l 0x21 [(fD, d), (fX, x), (fY, y), (fZ, th)] c
    exact ⟨s, e, l, c, tt, d, x, y, th, holds_of (fun (h : _ ∧ _ ∧ _) => ⟨inv_of h.1, h.2.1, issues_of h.2.2⟩) (by decide +kernel +revert)⟩
  · let R := quiet
    let e : Nat := 11
    let l : Nat := 3
    let c0 : Section := { look := false, pc := 1023, t := 100, sched := { last := 7 }, sel := .committed }
    let d : Nat := 62
    let x : Nat := 63
    let y : Nat := 63
    let th : Nat := 63
    let c : Section := cAt R e l 0x22 [(fD, d), (fX, x), (fY, y), (fZ, th)] c0
    let tt : Nat := issuesAt R e l 0x22 [(fD, d), (fX, x), (fY, y), (fZ, th)] c
    let s : State := atInstr R e l 0x22 [(fD, d), (fX, x), (fY, y), (fZ, th)] c
    exact ⟨s, e, l, c, tt, d, x, y, th, holds_of (fun (h : _ ∧ _ ∧ _) => ⟨inv_of h.1, h.2.1, issues_of h.2.2⟩) (by decide +kernel +revert)⟩
  · let R := quiet
    let e : Nat := 11
    let l : Nat := 3
    let c0 : Section := { look := false, pc := 1023, t := 100, sched := { last := 7 }, sel := .committed }
    let d : Nat := 62
    let x : Nat := 63
    let y : Nat := 63
    let c : Section := cAt R e l 0x23 [(fD, d), (fX, x), (fY, y)] c0
    let tt : Nat := issuesAt R e l 0x23 [(fD, d), (fX, x), (fY, y)] c
    let s : State := atInstr R e l 0x23 [(fD, d), (fX, x), (fY, y)] c
    exact ⟨s, e, l, c, tt, d, x, y, holds_of (fun (h : _ ∧ _ ∧ _) => ⟨inv_of h.1, h.2.1, issues_of h.2.2⟩) (by decide +kernel +revert)⟩
  · let R := quiet
    let e : Nat := 11
    let l : Nat := 3
    let c0 : Section := { look := false, pc := 1023, t := 100, sched := { last := 7 }, sel := .committed }
    let d : Nat := 61
    let x : Nat := 63
    let y : Nat := 63
    let c : Section := cAt R e l 0x24 [(fD, d), (fX, x), (fY, y)] c0
    let tt : Nat := issuesAt R e l 0x24 [(fD, d), (fX, x), (fY, y)] c
    let s : State := atInstr R e l 0x24 [(fD, d), (fX, x), (fY, y)] c
    exact ⟨s, e, l, c, tt, d, x, y, holds_of (fun (h : _ ∧ _ ∧ _) => ⟨inv_of h.1, h.2.1, issues_of h.2.2⟩) (by decide +kernel +revert)⟩
  · let R := quiet
    let e : Nat := 11
    let l : Nat := 3
    let c0 : Section := { look := false, pc := 1023, t := 100, sched := { last := 7 }, sel := .committed }
    let d : Nat := 63
    let x : Nat := 63
    let y : Nat := 63
    let c : Section := cAt R e l 0x25 [(fD, d), (fX, x), (fY, y)] c0
    let tt : Nat := issuesAt R e l 0x25 [(fD, d), (fX, x), (fY, y)] c
    let s : State := atInstr R e l 0x25 [(fD, d), (fX, x), (fY, y)] c
    exact ⟨s, e, l, c, tt, d, x, y, holds_of (fun (h : _ ∧ _ ∧ _) => ⟨inv_of h.1, h.2.1, issues_of h.2.2⟩) (by decide +kernel +revert)⟩
  · let R := quiet
    let e : Nat := 11
    let l : Nat := 3
    let c0 : Section := { look := false, pc := 1023, t := 100, sched := { last := 7 }, sel := .committed }
    let d : Nat := 63
    let x : Nat := 63
    let c : Section := cAt R e l 0x26 [(fD, d), (fX, x)] c0
    let tt : Nat := issuesAt R e l 0x26 [(fD, d), (fX, x)] c
    let s : State := atInstr R e l 0x26 [(fD, d), (fX, x)] c
    exact ⟨s, e, l, c, tt, d, x, holds_of (fun (h : _ ∧ _ ∧ _) => ⟨inv_of h.1, h.2.1, issues_of h.2.2⟩) (by decide +kernel +revert)⟩

theorem witness_CanterPaths :
    (∃ (s : State) (e : Nat) (l : Nat) (c : Section) (tt : Nat) (d : Nat) (sg : Nat), s.Inv ∧ d < 64 ∧ sg < 2 ^ 20 ∧ d < c.sched.rdyD.length ∧ Issues s e l 0x2C [(fD, d), (fSig, sg)] c tt) ∧
    (∃ (s : State) (e : Nat) (l : Nat) (c : Section) (tt : Nat) (d : Nat) (sg : Nat), s.Inv ∧ d < 64 ∧ sg < 2 ^ 20 ∧ Issues s e l 0x2D [(fD, d), (fSig, sg)] c tt) ∧
    (∃ (s : State) (e : Nat) (l : Nat) (c : Section) (tt : Nat) (d : Nat) (x : Nat) (y : Nat) (t0 : Nat), s.Inv ∧ d < 63 ∧ t0 < 16 ∧ Issues s e l 0x29 [(fD, d), (fX, x), (fY, y), (fT, t0)] c tt) ∧
    (∃ (s : State) (e : Nat) (l : Nat) (c : Section) (tt : Nat) (k : Nat) (x : Nat), s.Inv ∧ k < 8 ∧ Issues s e l 0x34 [(fKo, k), (fX, x)] c tt) ∧
    (∃ (s : State) (e : Nat) (l : Nat) (c : Section) (tt : Nat) (d : Nat) (k : Nat), s.Inv ∧ d < 64 ∧ k < 8 ∧ Issues s e l 0x38 [(fD, d), (fK, k)] c tt) ∧
    (∃ (s : State) (e : Nat) (l : Nat) (c : Section) (tt : Nat) (b : Nat) (k : Nat) (lo : Nat) (hi : Nat), s.Inv ∧ b < 2 ∧ k < 8 ∧ Issues s e l 0x39 [(fBb, b), (fKb, k), (fY, lo), (fZ, hi)] c tt) ∧
    (∃ (s : State) (e : Nat) (l : Nat) (c : Section) (tt : Nat), s.Inv ∧ Issues s e l 0x3A [] c tt) ∧
    (∃ (s : State) (e : Nat) (l : Nat) (c : Section) (tt : Nat) (d : Nat) (x : Nat) (g : Nat) (k : Nat), s.Inv ∧ d < 64 ∧ k < 8 ∧ Issues s e l 0x3B [(fD, d), (fX, x), (fY, g), (fK, k)] c tt) := by
  refine ⟨?_, ?_, ?_, ?_, ?_, ?_, ?_, ?_⟩
  · let R := quiet
    let e : Nat := 11
    let l : Nat := 3
    let c0 : Section := { look := false, pc := 1023, t := 100, sched := { last := 7 }, sel := .committed }
    let d : Nat := 63
    let sg : Nat := 1048575
    let c : Section := cAt R e l 0x2C [(fD, d), (fSig, sg)] c0
    let tt : Nat := issuesAt R e l 0x2C [(fD, d), (fSig, sg)] c
    let s : State := atInstr R e l 0x2C [(fD, d), (fSig, sg)] c
    exact ⟨s, e, l, c, tt, d, sg, holds_of (fun (h : _ ∧ _ ∧ _ ∧ _ ∧ _) => ⟨inv_of h.1, h.2.1, h.2.2.1, h.2.2.2.1, issues_of h.2.2.2.2⟩) (by decide +kernel +revert)⟩
  · let R := quiet
    let e : Nat := 11
    let l : Nat := 3
    let c0 : Section := { look := false, pc := 1023, t := 100, sched := { last := 7 }, sel := .committed }
    let d : Nat := 63
    let sg : Nat := 1048575
    let c : Section := cAt R e l 0x2D [(fD, d), (fSig, sg)] c0
    let tt : Nat := issuesAt R e l 0x2D [(fD, d), (fSig, sg)] c
    let s : State := atInstr R e l 0x2D [(fD, d), (fSig, sg)] c
    exact ⟨s, e, l, c, tt, d, sg, holds_of (fun (h : _ ∧ _ ∧ _ ∧ _) => ⟨inv_of h.1, h.2.1, h.2.2.1, issues_of h.2.2.2⟩) (by decide +kernel +revert)⟩
  · let R := quiet
    let e : Nat := 11
    let l : Nat := 3
    let c0 : Section := { look := false, pc := 1023, t := 100, sched := { last := 7 }, sel := .committed }
    let d : Nat := 62
    let x : Nat := 63
    let y : Nat := 63
    let t0 : Nat := 15
    let c : Section := cAt R e l 0x29 [(fD, d), (fX, x), (fY, y), (fT, t0)] c0
    let tt : Nat := issuesAt R e l 0x29 [(fD, d), (fX, x), (fY, y), (fT, t0)] c
    let s : State := atInstr R e l 0x29 [(fD, d), (fX, x), (fY, y), (fT, t0)] c
    exact ⟨s, e, l, c, tt, d, x, y, t0, holds_of (fun (h : _ ∧ _ ∧ _ ∧ _) => ⟨inv_of h.1, h.2.1, h.2.2.1, issues_of h.2.2.2⟩) (by decide +kernel +revert)⟩
  · let R := quiet
    let e : Nat := 11
    let l : Nat := 3
    let c0 : Section := { look := false, pc := 1023, t := 100, sched := { last := 7 }, sel := .committed }
    let k : Nat := 7
    let x : Nat := 63
    let c : Section := cAt R e l 0x34 [(fKo, k), (fX, x)] c0
    let tt : Nat := issuesAt R e l 0x34 [(fKo, k), (fX, x)] c
    let s : State := atInstr R e l 0x34 [(fKo, k), (fX, x)] c
    exact ⟨s, e, l, c, tt, k, x, holds_of (fun (h : _ ∧ _ ∧ _) => ⟨inv_of h.1, h.2.1, issues_of h.2.2⟩) (by decide +kernel +revert)⟩
  · let R := quiet
    let e : Nat := 11
    let l : Nat := 3
    let c0 : Section := { look := false, pc := 1023, t := 100, sched := { last := 7 }, sel := .committed }
    let d : Nat := 63
    let k : Nat := 7
    let c : Section := cAt R e l 0x38 [(fD, d), (fK, k)] c0
    let tt : Nat := issuesAt R e l 0x38 [(fD, d), (fK, k)] c
    let s : State := atInstr R e l 0x38 [(fD, d), (fK, k)] c
    exact ⟨s, e, l, c, tt, d, k, holds_of (fun (h : _ ∧ _ ∧ _ ∧ _) => ⟨inv_of h.1, h.2.1, h.2.2.1, issues_of h.2.2.2⟩) (by decide +kernel +revert)⟩
  · let R := quiet
    let e : Nat := 11
    let l : Nat := 3
    let c0 : Section := { look := false, pc := 1023, t := 100, sched := { last := 7 }, sel := .committed }
    let b : Nat := 1
    let k : Nat := 7
    let lo : Nat := 63
    let hi : Nat := 63
    let c : Section := cAt R e l 0x39 [(fBb, b), (fKb, k), (fY, lo), (fZ, hi)] c0
    let tt : Nat := issuesAt R e l 0x39 [(fBb, b), (fKb, k), (fY, lo), (fZ, hi)] c
    let s : State := atInstr R e l 0x39 [(fBb, b), (fKb, k), (fY, lo), (fZ, hi)] c
    exact ⟨s, e, l, c, tt, b, k, lo, hi, holds_of (fun (h : _ ∧ _ ∧ _ ∧ _) => ⟨inv_of h.1, h.2.1, h.2.2.1, issues_of h.2.2.2⟩) (by decide +kernel +revert)⟩
  · let R := quiet
    let e : Nat := 11
    let l : Nat := 3
    let c0 : Section := { look := false, pc := 1023, t := 100, sched := { last := 7 }, sel := .committed }
    let c : Section := cAt R e l 0x3A [] c0
    let tt : Nat := issuesAt R e l 0x3A [] c
    let s : State := atInstr R e l 0x3A [] c
    exact ⟨s, e, l, c, tt, holds_of (fun (h : _ ∧ _) => ⟨inv_of h.1, issues_of h.2⟩) (by decide +kernel +revert)⟩
  · let R := quiet
    let e : Nat := 11
    let l : Nat := 3
    let c0 : Section := { look := false, pc := 1023, t := 100, sched := { last := 7 }, sel := .committed }
    let d : Nat := 63
    let x : Nat := 63
    let g : Nat := 63
    let k : Nat := 7
    let c : Section := cAt R e l 0x3B [(fD, d), (fX, x), (fY, g), (fK, k)] c0
    let tt : Nat := issuesAt R e l 0x3B [(fD, d), (fX, x), (fY, g), (fK, k)] c
    let s : State := atInstr R e l 0x3B [(fD, d), (fX, x), (fY, g), (fK, k)] c
    exact ⟨s, e, l, c, tt, d, x, g, k, holds_of (fun (h : _ ∧ _ ∧ _ ∧ _) => ⟨inv_of h.1, h.2.1, h.2.2.1, issues_of h.2.2.2⟩) (by decide +kernel +revert)⟩

theorem witness_CanterControl :
    (∃ (s : State) (e : Nat) (l : Nat) (c : Section) (tt : Nat), s.Inv ∧ Issues s e l 0x00 [] c tt) ∧
    (∃ (s : State) (e : Nat) (l : Nat) (c : Section) (tt : Nat) (x : Nat) (y : Nat), s.Inv ∧ Issues s e l 0x03 [(fX, x), (fY, y)] c tt) ∧
    (∃ (s : State) (e : Nat) (l : Nat) (c : Section) (tt : Nat) (x : Nat), s.Inv ∧ Issues s e l 0x04 [(fX, x)] c tt) ∧
    (∃ (s : State) (e : Nat) (l : Nat) (c : Section) (tt : Nat) (cond : Nat) (r : Nat) (n : Nat), s.Inv ∧ cond < 12 ∧ r < 64 ∧ n < 256 ∧ Issues s e l 0x02 [(fCond, cond), (fR, r), (fN, n)] c tt) ∧
    (∃ (s : State) (e : Nat) (l : Nat) (c : Section) (tt : Nat), s.Inv ∧ s.lawAhead e l = false ∧ c.look = false ∧ Issues s e l 0x01 [] c tt) ∧
    (∃ (s : State) (e : Nat) (l : Nat) (c : Section) (tt : Nat), s.Inv ∧ c.look = true ∧ Issues s e l 0x01 [] c tt) ∧
    (∃ (s : State) (e : Nat) (l : Nat) (c : Section) (tt : Nat) (d : Nat) (k : Nat), s.Inv ∧ d < 64 ∧ k < 8 ∧ Issues s e l 0x2E [(fD, d), (fK, k)] c tt) ∧
    (∃ (s : State) (e : Nat) (l : Nat) (c : Section) (tt : Nat) (d : Nat) (k : Nat), s.Inv ∧ d < 64 ∧ k < 8 ∧ c.urg = .done ∧ Issues s e l 0x2F [(fD, d), (fK, k)] c tt) ∧
    (∃ (s : State) (e : Nat) (l : Nat) (c : Section) (tt : Nat) (d : Nat) (k : Nat), s.Inv ∧ d < 64 ∧ k < 8 ∧ c.urg ≠ .done ∧ Issues s e l 0x2F [(fD, d), (fK, k)] c tt) ∧
    (∃ (s : State) (e : Nat) (l : Nat) (c : Section) (tt : Nat) (u : Nat) (k : Nat), s.Inv ∧ u < 16 ∧ k < 16 ∧ Issues s e l 0x30 [(fU, u), (fE, k)] c tt) ∧
    (∃ (s : State) (e : Nat) (l : Nat) (c : Section) (tt : Nat) (n : Nat) (x : Nat) (g : Nat) (k : Nat), s.Inv ∧ n < 63 ∧ k < 64 ∧ Issues s e l 0x31 [(fD, n), (fX, x), (fY, g), (fZ, k)] c tt) := by
  refine ⟨?_, ?_, ?_, ?_, ?_, ?_, ?_, ?_, ?_, ?_, ?_⟩
  · let R := quiet
    let e : Nat := 11
    let l : Nat := 3
    let c0 : Section := { look := false, pc := 1023, t := 100, sched := { last := 7 }, sel := .committed }
    let c : Section := cAt R e l 0x00 [] c0
    let tt : Nat := issuesAt R e l 0x00 [] c
    let s : State := atInstr R e l 0x00 [] c
    exact ⟨s, e, l, c, tt, holds_of (fun (h : _ ∧ _) => ⟨inv_of h.1, issues_of h.2⟩) (by decide +kernel +revert)⟩
  · let R := quiet
    let e : Nat := 11
    let l : Nat := 3
    let c0 : Section := { look := false, pc := 1023, t := 100, sched := { last := 7 }, sel := .committed }
    let x : Nat := 63
    let y : Nat := 63
    let c : Section := cAt R e l 0x03 [(fX, x), (fY, y)] c0
    let tt : Nat := issuesAt R e l 0x03 [(fX, x), (fY, y)] c
    let s : State := atInstr R e l 0x03 [(fX, x), (fY, y)] c
    exact ⟨s, e, l, c, tt, x, y, holds_of (fun (h : _ ∧ _) => ⟨inv_of h.1, issues_of h.2⟩) (by decide +kernel +revert)⟩
  · let R := quiet
    let e : Nat := 11
    let l : Nat := 3
    let c0 : Section := { look := false, pc := 1023, t := 100, sched := { last := 7 }, sel := .committed }
    let x : Nat := 63
    let c : Section := cAt R e l 0x04 [(fX, x)] c0
    let tt : Nat := issuesAt R e l 0x04 [(fX, x)] c
    let s : State := atInstr R e l 0x04 [(fX, x)] c
    exact ⟨s, e, l, c, tt, x, holds_of (fun (h : _ ∧ _) => ⟨inv_of h.1, issues_of h.2⟩) (by decide +kernel +revert)⟩
  · let R := quiet
    let e : Nat := 11
    let l : Nat := 3
    let c0 : Section := { look := false, pc := 1023, t := 100, sched := { last := 7 }, sel := .committed }
    let cond : Nat := 11
    let r : Nat := 63
    let n : Nat := 255
    let c : Section := cAt R e l 0x02 [(fCond, cond), (fR, r), (fN, n)] c0
    let tt : Nat := issuesAt R e l 0x02 [(fCond, cond), (fR, r), (fN, n)] c
    let s : State := atInstr R e l 0x02 [(fCond, cond), (fR, r), (fN, n)] c
    exact ⟨s, e, l, c, tt, cond, r, n, holds_of (fun (h : _ ∧ _ ∧ _ ∧ _ ∧ _) => ⟨inv_of h.1, h.2.1, h.2.2.1, h.2.2.2.1, issues_of h.2.2.2.2⟩) (by decide +kernel +revert)⟩
  · let R := quiet
    let e : Nat := 11
    let l : Nat := 3
    let c : Section := { look := false, pc := 1023, t := 100, sched := { last := 7 }, sel := .committed }
    let tt : Nat := issuesAt (R.setf (Reg.LAW_LAH 11 3) Fld.LAW_LAH_len 0) e l 0x01 [] c
    let s : State := atInstr (R.setf (Reg.LAW_LAH 11 3) Fld.LAW_LAH_len 0) e l 0x01 [] c
    exact ⟨s, e, l, c, tt, holds_of (fun (h : _ ∧ _ ∧ _ ∧ _) => ⟨inv_of h.1, h.2.1, h.2.2.1, issues_of h.2.2.2⟩) (by decide +kernel +revert)⟩
  · let R := quiet
    let e : Nat := 11
    let l : Nat := 3
    let c0 : Section := { look := true, pc := 1023, t := 100, sched := { last := 7 }, sel := .committed }
    let c : Section := cAt R e l 0x01 [] c0
    let tt : Nat := issuesAt R e l 0x01 [] c
    let s : State := atInstr R e l 0x01 [] c
    exact ⟨s, e, l, c, tt, holds_of (fun (h : _ ∧ _ ∧ _) => ⟨inv_of h.1, h.2.1, issues_of h.2.2⟩) (by decide +kernel +revert)⟩
  · let R := quiet
    let e : Nat := 11
    let l : Nat := 3
    let c0 : Section := { look := false, pc := 1023, t := 100, sched := { last := 7 }, sel := .committed }
    let d : Nat := 63
    let k : Nat := 7
    let c : Section := cAt R e l 0x2E [(fD, d), (fK, k)] c0
    let tt : Nat := issuesAt R e l 0x2E [(fD, d), (fK, k)] c
    let s : State := atInstr R e l 0x2E [(fD, d), (fK, k)] c
    exact ⟨s, e, l, c, tt, d, k, holds_of (fun (h : _ ∧ _ ∧ _ ∧ _) => ⟨inv_of h.1, h.2.1, h.2.2.1, issues_of h.2.2.2⟩) (by decide +kernel +revert)⟩
  · let R := quiet
    let e : Nat := 11
    let l : Nat := 3
    let c0 : Section := { look := false, pc := 1023, t := 100, sched := { last := 7 }, sel := .committed, urg := .done }
    let d : Nat := 63
    let k : Nat := 7
    let c : Section := cAt R e l 0x2F [(fD, d), (fK, k)] c0
    let tt : Nat := issuesAt R e l 0x2F [(fD, d), (fK, k)] c
    let s : State := atInstr R e l 0x2F [(fD, d), (fK, k)] c
    exact ⟨s, e, l, c, tt, d, k, holds_of (fun (h : _ ∧ _ ∧ _ ∧ _ ∧ _) => ⟨inv_of h.1, h.2.1, h.2.2.1, h.2.2.2.1, issues_of h.2.2.2.2⟩) (by decide +kernel +revert)⟩
  · let R := quiet
    let e : Nat := 11
    let l : Nat := 3
    let c0 : Section := { look := false, pc := 1023, t := 100, sched := { last := 7 }, sel := .committed }
    let d : Nat := 63
    let k : Nat := 7
    let c : Section := cAt R e l 0x2F [(fD, d), (fK, k)] c0
    let tt : Nat := issuesAt R e l 0x2F [(fD, d), (fK, k)] c
    let s : State := atInstr R e l 0x2F [(fD, d), (fK, k)] c
    exact ⟨s, e, l, c, tt, d, k, holds_of (fun (h : _ ∧ _ ∧ _ ∧ _ ∧ _) => ⟨inv_of h.1, h.2.1, h.2.2.1, h.2.2.2.1, issues_of h.2.2.2.2⟩) (by decide +kernel +revert)⟩
  · let R := quiet
    let e : Nat := 11
    let l : Nat := 3
    let c0 : Section := { look := false, pc := 1023, t := 100, sched := { last := 7 }, sel := .committed }
    let u : Nat := 15
    let k : Nat := 15
    let c : Section := cAt R e l 0x30 [(fU, u), (fE, k)] c0
    let tt : Nat := issuesAt R e l 0x30 [(fU, u), (fE, k)] c
    let s : State := atInstr R e l 0x30 [(fU, u), (fE, k)] c
    exact ⟨s, e, l, c, tt, u, k, holds_of (fun (h : _ ∧ _ ∧ _ ∧ _) => ⟨inv_of h.1, h.2.1, h.2.2.1, issues_of h.2.2.2⟩) (by decide +kernel +revert)⟩
  · let R := quiet
    let e : Nat := 11
    let l : Nat := 3
    let c0 : Section := { look := false, pc := 1023, t := 100, sched := { last := 7 }, sel := .committed }
    let n : Nat := 62
    let x : Nat := 63
    let g : Nat := 63
    let k : Nat := 63
    let c : Section := cAt R e l 0x31 [(fD, n), (fX, x), (fY, g), (fZ, k)] c0
    let tt : Nat := issuesAt R e l 0x31 [(fD, n), (fX, x), (fY, g), (fZ, k)] c
    let s : State := atInstr R e l 0x31 [(fD, n), (fX, x), (fY, g), (fZ, k)] c
    exact ⟨s, e, l, c, tt, n, x, g, k, holds_of (fun (h : _ ∧ _ ∧ _ ∧ _) => ⟨inv_of h.1, h.2.1, h.2.2.1, issues_of h.2.2.2⟩) (by decide +kernel +revert)⟩

theorem witness_StoreRounds :
    ∃ (s : State) (e : Nat) (l : Nat) (c : Section) (tt : Nat) (d : Nat) (a : Nat), s.Inv ∧ d < 64 ∧ a < 4 ∧ Issues s e l 0x1F [(fD, d), (fSa, a)] c tt := by
  let R := quiet
  let e : Nat := 11
  let l : Nat := 3
  let c0 : Section := { look := false, pc := 1023, t := 100, sched := { last := 7 }, sel := .committed }
  let d : Nat := 63
  let a : Nat := 3
  let c : Section := cAt R e l 0x1F [(fD, d), (fSa, a)] c0
  let tt : Nat := issuesAt R e l 0x1F [(fD, d), (fSa, a)] c
  let s : State := atInstr R e l 0x1F [(fD, d), (fSa, a)] c
  exact ⟨s, e, l, c, tt, d, a, holds_of (fun (h : _ ∧ _ ∧ _ ∧ _) => ⟨inv_of h.1, h.2.1, h.2.2.1, issues_of h.2.2.2⟩) (by decide +kernel +revert)⟩

theorem witness_TableInterpolates :
    ∃ (s : State) (e : Nat) (l : Nat) (c : Section) (tt : Nat) (d : Nat) (x : Nat) (t0 : Nat), s.Inv ∧ d < 64 ∧ t0 < 16 ∧ Issues s e l 0x28 [(fD, d), (fX, x), (fT, t0)] c tt := by
  let R := quiet
  let e : Nat := 11
  let l : Nat := 3
  let c0 : Section := { look := false, pc := 1023, t := 100, sched := { last := 7 }, sel := .committed }
  let d : Nat := 63
  let x : Nat := 63
  let t0 : Nat := 15
  let c : Section := cAt R e l 0x28 [(fD, d), (fX, x), (fT, t0)] c0
  let tt : Nat := issuesAt R e l 0x28 [(fD, d), (fX, x), (fT, t0)] c
  let s : State := atInstr R e l 0x28 [(fD, d), (fX, x), (fT, t0)] c
  exact ⟨s, e, l, c, tt, d, x, t0, holds_of (fun (h : _ ∧ _ ∧ _ ∧ _) => ⟨inv_of h.1, h.2.1, h.2.2.1, issues_of h.2.2.2⟩) (by decide +kernel +revert)⟩

theorem witness_DutyOutputs :
    ∃ (s : State) (e : Nat) (l : Nat) (c : Section) (tt : Nat) (k : Nat) (x : Nat) (g : Nat) (b : Nat) (P : Int), s.Inv ∧ k < 8 ∧ Issues s e l 0x34 [(fKo, k), (fX, x)] c tt ∧ s.omap e l k = some (g, b) ∧ s.running g = true ∧ P = ((s.pgAt g).per : Int) := by
  let R := quiet
  let e : Nat := 11
  let l : Nat := 3
  let c0 : Section := { look := false, pc := 1023, t := 100, sched := { last := 7 }, sel := .committed }
  let k : Nat := 7
  let x : Nat := 63
  let g : Nat := 39
  let b : Nat := 1
  let P : Int := (1000 + (R.draws : Int))
  let c : Section := cAt ((sets R [(Reg.LAW_OMAP 11 3 7, Fld.LAW_OMAP_en, 1), (Reg.LAW_OMAP 11 3 7, Fld.LAW_OMAP_gen, 39), (Reg.LAW_OMAP 11 3 7, Fld.LAW_OMAP_cmp, 1), (Reg.PWM_STAT 39, Fld.PWM_STAT_run, 1)]).modPg 39 (fun p => { p with per := 1000 + R.draws })) e l 0x34 [(fKo, k), (fX, x)] c0
  let tt : Nat := issuesAt ((sets R [(Reg.LAW_OMAP 11 3 7, Fld.LAW_OMAP_en, 1), (Reg.LAW_OMAP 11 3 7, Fld.LAW_OMAP_gen, 39), (Reg.LAW_OMAP 11 3 7, Fld.LAW_OMAP_cmp, 1), (Reg.PWM_STAT 39, Fld.PWM_STAT_run, 1)]).modPg 39 (fun p => { p with per := 1000 + R.draws })) e l 0x34 [(fKo, k), (fX, x)] c
  let s : State := atInstr ((sets R [(Reg.LAW_OMAP 11 3 7, Fld.LAW_OMAP_en, 1), (Reg.LAW_OMAP 11 3 7, Fld.LAW_OMAP_gen, 39), (Reg.LAW_OMAP 11 3 7, Fld.LAW_OMAP_cmp, 1), (Reg.PWM_STAT 39, Fld.PWM_STAT_run, 1)]).modPg 39 (fun p => { p with per := 1000 + R.draws })) e l 0x34 [(fKo, k), (fX, x)] c
  exact ⟨s, e, l, c, tt, k, x, g, b, P, holds_of (fun (h : _ ∧ _ ∧ _ ∧ _ ∧ _ ∧ _) => ⟨inv_of h.1, h.2.1, issues_of h.2.2.1, h.2.2.2.1, h.2.2.2.2.1, h.2.2.2.2.2⟩) (by decide +kernel +revert)⟩

theorem witness_CompareOutputs :
    ∃ (s : State) (e : Nat) (l : Nat) (c : Section) (tt : Nat) (k : Nat) (a : Nat), s.Inv ∧ k < 8 ∧ a < 4 ∧ Issues s e l 0x35 [(fKo, k), (fAo, a)] c tt := by
  let R := quiet
  let e : Nat := 11
  let l : Nat := 3
  let c0 : Section := { look := false, pc := 1023, t := 100, sched := { last := 7 }, sel := .committed }
  let k : Nat := 7
  let a : Nat := 3
  let c : Section := cAt R e l 0x35 [(fKo, k), (fAo, a)] c0
  let tt : Nat := issuesAt R e l 0x35 [(fKo, k), (fAo, a)] c
  let s : State := atInstr R e l 0x35 [(fKo, k), (fAo, a)] c
  exact ⟨s, e, l, c, tt, k, a, holds_of (fun (h : _ ∧ _ ∧ _ ∧ _) => ⟨inv_of h.1, h.2.1, h.2.2.1, issues_of h.2.2.2⟩) (by decide +kernel +revert)⟩

theorem witness_LawCommands :
    (∃ (s : State) (e : Nat) (l : Nat) (core : Nat), s.Inv ∧ e < 12 ∧ l < 4 ∧ core < 6 ∧ s.domainOn 2 = true ∧ s.cpuRatioOk = true ∧ s.lawOn e l = false ∧ s.lawBusy e l = false) ∧
    (∃ (s : State) (e : Nat) (l : Nat) (core : Nat), s.Inv ∧ e < 12 ∧ l < 4 ∧ core < 6 ∧ s.domainOn 2 = true ∧ s.cpuRatioOk = true ∧ s.lawOn e l = true) ∧
    (∃ (s : State) (e : Nat) (l : Nat), s.Inv ∧ e < 12 ∧ l < 4 ∧ s.lawBusy e l = true ∧ (s.lawAt e l).prod = none) ∧
    (∃ (s : State) (e : Nat) (l : Nat) (core : Nat), s.Inv ∧ e < 12 ∧ l < 4 ∧ core < 6 ∧ s.domainOn 2 = true ∧ s.cpuRatioOk = true ∧ s.lawOn e l = true) ∧
    (∃ (s : State) (e : Nat) (l : Nat) (core : Nat), s.Inv ∧ e < 12 ∧ l < 4 ∧ core < 6 ∧ s.domainOn 2 = true ∧ s.cpuRatioOk = true) ∧
    (∃ (s : State) (e : Nat) (l : Nat), s.Inv ∧ e < 12 ∧ l < 4) ∧
    (∃ (s : State) (e : Nat) (l : Nat) (core : Nat) (i : Nat), s.Inv ∧ e < 12 ∧ l < 4 ∧ core < 6 ∧ i < 4096 ∧ s.domainOn 2 = true ∧ s.cpuRatioOk = true) ∧
    (∃ (s : State) (e : Nat) (l : Nat) (i : Nat) (v : Word) (q : List (Nat × Word)), s.Inv ∧ e < 12 ∧ l < 4 ∧ (s.ceAt e).coefQ = (i, v) :: q ∧ s.coefBlocked e = false) ∧
    (∃ (s : State) (e : Nat) (l : Nat) (d : Nat) (outs : List (Option Word)) (k : Nat) (g : Nat) (v : Word), s.Inv ∧ e < 12 ∧ l < 4 ∧ (s.lawAt e l).prod = none ∧ (s.lawAt e l).outDue = some (d, outs) ∧ s.lawTripped e l = false ∧ k < 8 ∧ s.omap e l k = some (g, 0) ∧ outs.getD k none = some v ∧ (∀ j, j < 8 → j ≠ k → s.omap e l j ≠ some (g, 0)) ∧ g < 40) ∧
    (∃ (s : State) (e : Nat) (l : Nat) (d : Nat) (outs : List (Option Word)) (k : Nat) (g : Nat) (v : Word), s.Inv ∧ e < 12 ∧ l < 4 ∧ (s.lawAt e l).fbDue = some (d, outs) ∧ s.lawTripped e l = false ∧ k < 8 ∧ s.omap e l k = some (g, 0) ∧ outs.getD k none = some v ∧ (∀ j, j < 8 → j ≠ k → s.omap e l j ≠ some (g, 0)) ∧ g < 40) ∧
    (∃ (s : State) (e : Nat) (l : Nat) (f : Nat), s.Inv ∧ e < 12 ∧ l < 4 ∧ (s.lawAt e l).frame = some f ∧ s.lawOn e l = true ∧ (s.lawAt e l).used = false ∧ s.lawTripped e l = false) ∧
    (∃ (s : State) (e : Nat) (l : Nat) (f : Nat), s.Inv ∧ e < 12 ∧ l < 4 ∧ (s.ceAt e).frame = some f ∧ s.lawOn e l = true ∧ s.lawAhead e l = true ∧ (s.lawAt e l).prod = none ∧ (s.lawAt e l).lookDone = false ∧ (s.lawAt e l).sec = none ∧ s.lawTripped e l = false ∧ s.runsIn e l ((if (s.windowOf e l).2 < s.fld (Reg.LAW_LOPEN e l) Fld.LAW_LOPEN_lopen then 1 else 0) + ((s.rd (Reg.CE_FCNT e)).toNat - 1)) = true ∧ ((s.windowOf e l).2 < s.fld (Reg.LAW_LOPEN e l) Fld.LAW_LOPEN_lopen ∨ (s.lawAt e l).frame = some f)) ∧
    (∃ (s : State) (e : Nat) (l : Nat), s.Inv ∧ e < 12 ∧ l < 4) ∧
    (∃ (s : State) (e : Nat) (l : Nat), s.Inv ∧ e < 12 ∧ l < 4 ∧ s.lawBusy e l = true ∧ (s.lawAt e l).prod.isSome = true) ∧
    (∃ (s : State) (e : Nat) (l : Nat) (c : Section), s.Inv ∧ e < 12 ∧ l < 4 ∧ (s.lawAt e l).sec = some c ∧ (s.lawAt e l).prod.isSome = true) := by
  refine ⟨?_, ?_, ?_, ?_, ?_, ?_, ?_, ?_, ?_, ?_, ?_, ?_, ?_, ?_, ?_⟩
  · let R := quiet
    let core : Nat := 5
    let e : Nat := 11
    let l : Nat := 3
    let s : State := { (sets ((R.setDomain 2 0)) [(Reg.LAW_CTRL 11 3, Fld.LAW_CTRL_en, 0), (Reg.LAW_CTRL 11 3, Fld.LAW_CTRL_busy, 0)]) with clk := {} }
    exact ⟨s, e, l, core, holds_of (fun (h : _ ∧ _ ∧ _ ∧ _ ∧ _ ∧ _ ∧ _ ∧ _) => ⟨inv_of h.1, h.2.1, h.2.2.1, h.2.2.2.1, h.2.2.2.2.1, h.2.2.2.2.2.1, h.2.2.2.2.2.2.1, h.2.2.2.2.2.2.2⟩) (by decide +kernel +revert)⟩
  · let R := quiet
    let core : Nat := 5
    let e : Nat := 11
    let l : Nat := 3
    let s : State := { (sets ((R.setDomain 2 0)) [(Reg.LAW_CTRL 11 3, Fld.LAW_CTRL_en, 1)]) with clk := {} }
    exact ⟨s, e, l, core, holds_of (fun (h : _ ∧ _ ∧ _ ∧ _ ∧ _ ∧ _ ∧ _) => ⟨inv_of h.1, h.2.1, h.2.2.1, h.2.2.2.1, h.2.2.2.2.1, h.2.2.2.2.2.1, h.2.2.2.2.2.2⟩) (by decide +kernel +revert)⟩
  · let R := quiet
    let e : Nat := 11
    let l : Nat := 3
    let s : State := (sets ((R.setDomain 2 0)) [(Reg.LAW_CTRL 11 3, Fld.LAW_CTRL_en, 0), (Reg.LAW_CTRL 11 3, Fld.LAW_CTRL_busy, 1)]).modLaw 11 3 (fun w => { w with prod := none })
    exact ⟨s, e, l, holds_of (fun (h : _ ∧ _ ∧ _ ∧ _ ∧ _) => ⟨inv_of h.1, h.2.1, h.2.2.1, h.2.2.2.1, h.2.2.2.2⟩) (by decide +kernel +revert)⟩
  · let R := quiet
    let core : Nat := 5
    let e : Nat := 11
    let l : Nat := 3
    let s : State := { (sets ((R.setDomain 2 0)) [(Reg.LAW_CTRL 11 3, Fld.LAW_CTRL_en, 1)]) with clk := {} }
    exact ⟨s, e, l, core, holds_of (fun (h : _ ∧ _ ∧ _ ∧ _ ∧ _ ∧ _ ∧ _) => ⟨inv_of h.1, h.2.1, h.2.2.1, h.2.2.2.1, h.2.2.2.2.1, h.2.2.2.2.2.1, h.2.2.2.2.2.2⟩) (by decide +kernel +revert)⟩
  · let R := quiet
    let core : Nat := 5
    let e : Nat := 11
    let l : Nat := 3
    let s : State := { (((R.setDomain 2 0))) with clk := {} }
    exact ⟨s, e, l, core, holds_of (fun (h : _ ∧ _ ∧ _ ∧ _ ∧ _ ∧ _) => ⟨inv_of h.1, h.2.1, h.2.2.1, h.2.2.2.1, h.2.2.2.2.1, h.2.2.2.2.2⟩) (by decide +kernel +revert)⟩
  · let R := quiet
    let e : Nat := 11
    let l : Nat := 3
    let s : State := ((R.setDomain 2 0))
    exact ⟨s, e, l, holds_of (fun (h : _ ∧ _ ∧ _) => ⟨inv_of h.1, h.2.1, h.2.2⟩) (by decide +kernel +revert)⟩
  · let R := quiet
    let core : Nat := 5
    let i : Nat := 4095
    let e : Nat := 11
    let l : Nat := 3
    let s : State := { (((R.setDomain 2 0))) with clk := {} }
    exact ⟨s, e, l, core, i, holds_of (fun (h : _ ∧ _ ∧ _ ∧ _ ∧ _ ∧ _ ∧ _) => ⟨inv_of h.1, h.2.1, h.2.2.1, h.2.2.2.1, h.2.2.2.2.1, h.2.2.2.2.2.1, h.2.2.2.2.2.2⟩) (by decide +kernel +revert)⟩
  · let R := quiet
    let i : Nat := 4095
    let v : Word := 0x8001
    let q : List (Nat × Word) := ([(3, 4)] : List (Nat × Sys2Proof.Word))
    let e : Nat := 11
    let l : Nat := 3
    let s : State := (List.range 4).foldl (fun s l => (s.modLaw 11 l (fun w => { w with frame := none, sec := none })).setf (Reg.LAW_CTRL 11 l) Fld.LAW_CTRL_en 0) (R.modCe 11 (fun c => { c with coefQ := [(4095, 0x8001), (3, 4)], frame := none }))
    exact ⟨s, e, l, i, v, q, holds_of (fun (h : _ ∧ _ ∧ _ ∧ _ ∧ _) => ⟨inv_of h.1, h.2.1, h.2.2.1, h.2.2.2.1, h.2.2.2.2⟩) (by decide +kernel +revert)⟩
  · let R := quiet
    let d : Nat := 77
    let outs : List (Option Word) := ([none, none, none, none, none, none, none, some (W 0x1234)] : List (Option Sys2Proof.Word))
    let k : Nat := 7
    let g : Nat := 39
    let v : Word := W 0x1234
    let e : Nat := 11
    let l : Nat := 3
    let s : State := ((List.range 8).foldl (fun s k => sets s [(Reg.LAW_OMAP 11 3 k, Fld.LAW_OMAP_en, if k = 7 then 1 else 0), (Reg.LAW_OMAP 11 3 k, Fld.LAW_OMAP_gen, 39), (Reg.LAW_OMAP 11 3 k, Fld.LAW_OMAP_cmp, 0), (Reg.LAW_TRIPM 11 3, Fld.LAW_TRIPM_tl, 0)]) (R.modLaw 11 3 (fun w => { w with outDue := some (77, [none, none, none, none, none, none, none, some (W 0x1234)]) }))).modLaw 11 3 (fun w => { w with prod := none })
    exact ⟨s, e, l, d, outs, k, g, v, holds_of (fun (h : _ ∧ _ ∧ _ ∧ _ ∧ _ ∧ _ ∧ _ ∧ _ ∧ _ ∧ _ ∧ _) => ⟨inv_of h.1, h.2.1, h.2.2.1, h.2.2.2.1, h.2.2.2.2.1, h.2.2.2.2.2.1, h.2.2.2.2.2.2.1, h.2.2.2.2.2.2.2.1, h.2.2.2.2.2.2.2.2.1, h.2.2.2.2.2.2.2.2.2.1, h.2.2.2.2.2.2.2.2.2.2⟩) (by decide +kernel +revert)⟩
  · let R := quiet
    let d : Nat := 77
    let outs : List (Option Word) := ([none, none, none, none, none, none, none, some (W 0x1234)] : List (Option Sys2Proof.Word))
    let k : Nat := 7
    let g : Nat := 39
    let v : Word := W 0x1234
    let e : Nat := 11
    let l : Nat := 3
    let s : State := ((List.range 8).foldl (fun s k => sets s [(Reg.LAW_OMAP 11 3 k, Fld.LAW_OMAP_en, if k = 7 then 1 else 0), (Reg.LAW_OMAP 11 3 k, Fld.LAW_OMAP_gen, 39), (Reg.LAW_OMAP 11 3 k, Fld.LAW_OMAP_cmp, 0), (Reg.LAW_TRIPM 11 3, Fld.LAW_TRIPM_tl, 0)]) (R.modLaw 11 3 (fun w => { w with fbDue := some (77, [none, none, none, none, none, none, none, some (W 0x1234)]) }))).modLaw 11 3 (fun w => { w with prod := none })
    exact ⟨s, e, l, d, outs, k, g, v, holds_of (fun (h : _ ∧ _ ∧ _ ∧ _ ∧ _ ∧ _ ∧ _ ∧ _ ∧ _ ∧ _) => ⟨inv_of h.1, h.2.1, h.2.2.1, h.2.2.2.1, h.2.2.2.2.1, h.2.2.2.2.2.1, h.2.2.2.2.2.2.1, h.2.2.2.2.2.2.2.1, h.2.2.2.2.2.2.2.2.1, h.2.2.2.2.2.2.2.2.2⟩) (by decide +kernel +revert)⟩
  · let R := quiet
    let f : Nat := 7
    let e : Nat := 11
    let l : Nat := 3
    let s : State := sets (R.modLaw 11 3 (fun w => { w with frame := some 7, used := false })) [(Reg.LAW_CTRL 11 3, Fld.LAW_CTRL_en, 1), (Reg.LAW_TRIPM 11 3, Fld.LAW_TRIPM_tl, 0)]
    exact ⟨s, e, l, f, holds_of (fun (h : _ ∧ _ ∧ _ ∧ _ ∧ _ ∧ _ ∧ _) => ⟨inv_of h.1, h.2.1, h.2.2.1, h.2.2.2.1, h.2.2.2.2.1, h.2.2.2.2.2.1, h.2.2.2.2.2.2⟩) (by decide +kernel +revert)⟩
  · let R := quiet
    let f : Nat := 7
    let e : Nat := 11
    let l : Nat := 3
    let s : State := ((sets ((R.modCe 11 (fun c => { c with frame := some 7 })).modLaw 11 3 (fun w => { w with lookDone := false, sec := none })) [(Reg.LAW_CTRL 11 3, Fld.LAW_CTRL_en, 1), (Reg.LAW_CTRL 11 3, Fld.LAW_CTRL_dec, 0), (Reg.LAW_CTRL 11 3, Fld.LAW_CTRL_phase, 0), (Reg.LAW_TRIPM 11 3, Fld.LAW_TRIPM_tl, 0), (Reg.LAW_LAH 11 3, Fld.LAW_LAH_len, 5)]).modLaw 11 3 (fun w => { w with prod := none })).modLaw 11 3 (fun w => { w with frame := some 7 })
    exact ⟨s, e, l, f, holds_of (fun (h : _ ∧ _ ∧ _ ∧ _ ∧ _ ∧ _ ∧ _ ∧ _ ∧ _ ∧ _ ∧ _ ∧ _) => ⟨inv_of h.1, h.2.1, h.2.2.1, h.2.2.2.1, h.2.2.2.2.1, h.2.2.2.2.2.1, h.2.2.2.2.2.2.1, h.2.2.2.2.2.2.2.1, h.2.2.2.2.2.2.2.2.1, h.2.2.2.2.2.2.2.2.2.1, h.2.2.2.2.2.2.2.2.2.2.1, h.2.2.2.2.2.2.2.2.2.2.2⟩) (by decide +kernel +revert)⟩
  · let R := quiet
    let e : Nat := 11
    let l : Nat := 3
    let s : State := R
    exact ⟨s, e, l, holds_of (fun (h : _ ∧ _ ∧ _) => ⟨inv_of h.1, h.2.1, h.2.2⟩) (by decide +kernel +revert)⟩
  · let R := quiet
    let e : Nat := 11
    let l : Nat := 3
    let s : State := (sets ((R.setDomain 2 0)) [(Reg.LAW_CTRL 11 3, Fld.LAW_CTRL_en, 0), (Reg.LAW_CTRL 11 3, Fld.LAW_CTRL_busy, 1)]).modLaw 11 3 (fun w => { w with prod := some {} })
    exact ⟨s, e, l, holds_of (fun (h : _ ∧ _ ∧ _ ∧ _ ∧ _) => ⟨inv_of h.1, h.2.1, h.2.2.1, h.2.2.2.1, h.2.2.2.2⟩) (by decide +kernel +revert)⟩
  · let R := quiet
    let e : Nat := 0
    let l : Nat := 0
    let c : Section := { look := false, pc := 0, t := R.dtb, sched := { last := R.dtb } }
    let s : State := R.modLaw 0 0 (fun w => { w with prod := some {}, sec := some { look := false, pc := 0, t := R.dtb, sched := { last := R.dtb } } })
    exact ⟨s, e, l, c, holds_of (fun (h : _ ∧ _ ∧ _ ∧ _ ∧ _) => ⟨inv_of h.1, h.2.1, h.2.2.1, h.2.2.2.1, h.2.2.2.2⟩) (by decide +kernel +revert)⟩

theorem witness_PwmCounters :
    (∃ (s : State) (g : Nat), s.Inv ∧ g < 40 ∧ s.running g = true ∧ s.gmode g ≠ 2 ∧ s.on (Reg.PWM_SYNC g) Fld.PWM_SYNC_en = false) ∧
    (∃ (s : State) (g : Nat), s.Inv ∧ g < 40 ∧ s.running g = true ∧ s.updown g = true ∧ (s.pgAt g).centreDone = false) ∧
    (∃ (s : State) (g : Nat), s.Inv ∧ g < 40 ∧ s.running g = true ∧ s.gmode g ≠ 2 ∧ (s.pgAt g).matchDone = false ∧ (s.rd (Reg.PWM_ACTA g)).toNat / 64 < (s.pgAt g).per ∧ s.on (Reg.PWM_SYNC g) Fld.PWM_SYNC_en = false ∧ (s.updown g = true → (s.pgAt g).centreDone = false)) ∧
    (∃ (s : State) (g : Nat) (c : Nat), s.Inv ∧ g < 40 ∧ s.running g = true ∧ s.gmode g = 2 ∧ (s.pgAt g).matchDone = false ∧ (s.pgAt g).cotFall = some c) ∧
    (∃ (s : State) (g : Nat) (c : Nat), s.Inv ∧ g < 40 ∧ s.running g = true ∧ (s.pgAt g).stretch = none ∧ s.nextEdge g = some c ∧ s.safeHeld g = false ∧ s.single g = false ∧ (s.gmode g = 2 ∨ s.pulseEnd g (!(s.pgAt g).r) c = none) ∧ (∀ o, s.onSince g (s.pgAt g).r = some o → o + s.minp g ≤ c)) ∧
    (∃ (s : State) (g : Nat) (c : Nat), s.Inv ∧ g < 40 ∧ s.running g = true ∧ (s.pgAt g).stretch = none ∧ s.nextEdge g = some c ∧ s.safeHeld g = true) ∧
    (∃ (s : State) (g : Nat) (c : Nat), s.Inv ∧ g < 40 ∧ s.running g = true ∧ (s.pgAt g).pendHi = some c ∧ (s.pgAt g).lo = false) ∧
    (∃ (s : State) (g : Nat) (c : Nat), s.Inv ∧ g < 40 ∧ s.running g = true ∧ (s.pgAt g).pendHi = none ∧ (s.pgAt g).pendLo = some c ∧ (s.pgAt g).hi = false) ∧
    (∃ (s : State) (g : Nat) (c : Nat), s.Inv ∧ g < 40 ∧ s.running g = true ∧ (s.pgAt g).stretch = some c ∧ (s.gmode g = 2 ∨ s.pulseEnd g (!(s.pgAt g).r) c = none)) ∧
    (∃ (s : State) (g : Nat), s.Inv ∧ g < 40 ∧ s.running g = true ∧ s.gmode g = 2 ∧ (s.on (Reg.PWM_COT g) Fld.PWM_COT_src = true ∨ (18 ≤ g ∧ g < 22)) ∧ (s.pgAt g).r = false ∧ (s.pgAt g).cotReady ≤ s.dtb ∧ (s.pgAt g).cotHeld = false ∧ (s.pgAt g).stretch = none) ∧
    (∃ (s : State) (g : Nat), s.Inv ∧ g < 40 ∧ s.running g = true ∧ s.gmode g = 2 ∧ (s.on (Reg.PWM_COT g) Fld.PWM_COT_src = true ∨ (18 ≤ g ∧ g < 22)) ∧ (s.pgAt g).r = true ∧ (s.pgAt g).cotHeld = false) ∧
    (∃ (s : State) (g : Nat), s.Inv ∧ g < 40 ∧ s.running g = true ∧ s.gmode g = 2 ∧ (s.on (Reg.PWM_COT g) Fld.PWM_COT_src = true ∨ (18 ≤ g ∧ g < 22)) ∧ (s.pgAt g).cotHeld = true) ∧
    (∃ (s : State) (g : Nat), s.Inv ∧ g < 40 ∧ s.running g = true ∧ s.gmode g = 2 ∧ (s.pgAt g).cotHeld = true ∧ (s.pgAt g).r = false ∧ (s.pgAt g).stretch = none) ∧
    (∃ (s : State) (g : Nat) (d : Nat), s.Inv ∧ g < 40 ∧ s.running g = true ∧ s.gmode g = 2 ∧ (s.pgAt g).cotHeld = false ∧ d = max s.dtb ((s.pgAt g).cotLast + (s.pgAt g).per)) ∧
    (∃ (s : State) (g : Nat), s.Inv ∧ g < 40 ∧ s.running g = true ∧ s.gmode g = 2 ∧ (s.pgAt g).cotFirst = true) := by
  refine ⟨?_, ?_, ?_, ?_, ?_, ?_, ?_, ?_, ?_, ?_, ?_, ?_, ?_, ?_, ?_⟩
  · let R := quiet
    let g : Nat := 0
    let s : State := (sets (calm R [2]) [(Reg.PWM_STAT 0, Fld.PWM_STAT_run, 1), (Reg.PWM_CTRL 0, Fld.PWM_CTRL_mode, 0), (Reg.PWM_SYNC 0, Fld.PWM_SYNC_en, 0), (Reg.PWM_CTRL 0, Fld.PWM_CTRL_pre, 0), (Reg.PWM_CTRL 0, Fld.PWM_CTRL_ld, 1)])
    exact ⟨s, g, holds_of (fun (h : _ ∧ _ ∧ _ ∧ _ ∧ _) => ⟨inv_of h.1, h.2.1, h.2.2.1, h.2.2.2.1, h.2.2.2.2⟩) (by decide +kernel +revert)⟩
  · let R := quiet
    let g : Nat := 0
    let s : State := (let z := (sets (calm R [2]) [(Reg.PWM_STAT 0, Fld.PWM_STAT_run, 1), (Reg.PWM_CTRL 0, Fld.PWM_CTRL_mode, 1), (Reg.PWM_CTRL 0, Fld.PWM_CTRL_pre, 0)]); { z with pg := z.pg.modify 0 (fun p => { p with centreDone := false, per := 1000 }) })
    exact ⟨s, g, holds_of (fun (h : _ ∧ _ ∧ _ ∧ _ ∧ _) => ⟨inv_of h.1, h.2.1, h.2.2.1, h.2.2.2.1, h.2.2.2.2⟩) (by decide +kernel +revert)⟩
  · let R := quiet
    let g : Nat := 0
    let s : State := (let z := ((sets (calm R [2]) [(Reg.PWM_STAT 0, Fld.PWM_STAT_run, 1), (Reg.PWM_CTRL 0, Fld.PWM_CTRL_mode, 1), (Reg.PWM_CTRL 0, Fld.PWM_CTRL_pre, 0), (Reg.PWM_SYNC 0, Fld.PWM_SYNC_en, 0)])).wr (Reg.PWM_ACTA 0) 6400; { z with pg := z.pg.modify 0 (fun p => { p with matchDone := false, per := 1000 }) })
    exact ⟨s, g, holds_of (fun (h : _ ∧ _ ∧ _ ∧ _ ∧ _ ∧ _ ∧ _ ∧ _) => ⟨inv_of h.1, h.2.1, h.2.2.1, h.2.2.2.1, h.2.2.2.2.1, h.2.2.2.2.2.1, h.2.2.2.2.2.2.1, h.2.2.2.2.2.2.2⟩) (by decide +kernel +revert)⟩
  · let R := quiet
    let g : Nat := 18
    let c : Nat := 6400
    let s : State := (let z := (sets (calm R [2]) [(Reg.PWM_STAT 18, Fld.PWM_STAT_run, 1), (Reg.PWM_CTRL 18, Fld.PWM_CTRL_mode, 2), (Reg.PWM_CTRL 18, Fld.PWM_CTRL_pre, 0)]); { z with pg := z.pg.modify 18 (fun p => { p with matchDone := false, cotFall := some 6400 }) })
    exact ⟨s, g, c, holds_of (fun (h : _ ∧ _ ∧ _ ∧ _ ∧ _ ∧ _) => ⟨inv_of h.1, h.2.1, h.2.2.1, h.2.2.2.1, h.2.2.2.2.1, h.2.2.2.2.2⟩) (by decide +kernel +revert)⟩
  · let R := quiet
    let s : State := (let z := ((((((sets (calm R [2]) [(Reg.PWM_STAT 3, Fld.PWM_STAT_run, 1), (Reg.PWM_CTRL 3, Fld.PWM_CTRL_mode, 1), (Reg.PWM_CTRL 3, Fld.PWM_CTRL_pre, 0), (Reg.PWM_SYNC 3, Fld.PWM_SYNC_en, 0), (Reg.PWM_CTRL 3, Fld.PWM_CTRL_asym, 0), (Reg.PWM_CTRL 3, Fld.PWM_CTRL_single, 0), (Reg.PWM_CTRL 3, Fld.PWM_CTRL_ld, 3), (Reg.PWM_STAT 3, Fld.PWM_STAT_trip, 0), (Reg.PWM_STAT 3, Fld.PWM_STAT_tstate, 0)])).wr (Reg.PWM_ACTA 3) 320000).wr (Reg.PWM_CMPA 3) 640000).wr (Reg.PWM_PER 3) 10000).wr (Reg.PWM_DT 3) 640).wr (Reg.PWM_MINP 3) 640; { z with pg := z.pg.modify 3 (fun p => { p with stretch := none, per := 10000, next := 20000, doneTo := 640000, r := false, lo := true, hi := false, onAt := 0, centreDone := true, pendHi := none, pendLo := none }) })
    let g : Nat := 3
    let c : Nat := (s.nextEdge 3).getD 0
    exact ⟨s, g, c, holds_of (fun (h : _ ∧ _ ∧ _ ∧ _ ∧ _ ∧ _ ∧ _ ∧ _ ∧ _) => ⟨inv_of h.1, h.2.1, h.2.2.1, h.2.2.2.1, h.2.2.2.2.1, h.2.2.2.2.2.1, h.2.2.2.2.2.2.1, h.2.2.2.2.2.2.2.1, h.2.2.2.2.2.2.2.2⟩) (by decide +kernel +revert)⟩
  · let R := quiet
    let s : State := (let z := (((sets (calm R [2]) [(Reg.PWM_STAT 3, Fld.PWM_STAT_run, 1), (Reg.PWM_CTRL 3, Fld.PWM_CTRL_mode, 1), (Reg.PWM_CTRL 3, Fld.PWM_CTRL_pre, 0), (Reg.PWM_SYNC 3, Fld.PWM_SYNC_en, 0), (Reg.PWM_CTRL 3, Fld.PWM_CTRL_asym, 0)])).setf (Reg.PWM_STAT 3) Fld.PWM_STAT_trip 1).wr (Reg.PWM_ACTA 3) 320000; { z with pg := z.pg.modify 3 (fun p => { p with stretch := none, per := 10000, next := 20000, doneTo := 0, r := true, centreDone := true }) })
    let g : Nat := 3
    let c : Nat := (s.nextEdge 3).getD 0
    exact ⟨s, g, c, holds_of (fun (h : _ ∧ _ ∧ _ ∧ _ ∧ _ ∧ _) => ⟨inv_of h.1, h.2.1, h.2.2.1, h.2.2.2.1, h.2.2.2.2.1, h.2.2.2.2.2⟩) (by decide +kernel +revert)⟩
  · let R := quiet
    let g : Nat := 39
    let c : Nat := 6401
    let s : State := (let z := (sets (calm R [2]) [(Reg.PWM_STAT 39, Fld.PWM_STAT_run, 1), (Reg.PWM_CTRL 39, Fld.PWM_CTRL_mode, 1)]); { z with pg := z.pg.modify 39 (fun p => { p with pendHi := some 6401, lo := false }) })
    exact ⟨s, g, c, holds_of (fun (h : _ ∧ _ ∧ _ ∧ _ ∧ _) => ⟨inv_of h.1, h.2.1, h.2.2.1, h.2.2.2.1, h.2.2.2.2⟩) (by decide +kernel +revert)⟩
  · let R := quiet
    let g : Nat := 0
    let c : Nat := 6401
    let s : State := (let z := (sets (calm R [2]) [(Reg.PWM_STAT 0, Fld.PWM_STAT_run, 1), (Reg.PWM_CTRL 0, Fld.PWM_CTRL_mode, 1)]); { z with pg := z.pg.modify 0 (fun p => { p with pendHi := none, pendLo := some 6401, hi := false }) })
    exact ⟨s, g, c, holds_of (fun (h : _ ∧ _ ∧ _ ∧ _ ∧ _ ∧ _) => ⟨inv_of h.1, h.2.1, h.2.2.1, h.2.2.2.1, h.2.2.2.2.1, h.2.2.2.2.2⟩) (by decide +kernel +revert)⟩
  · let R := quiet
    let g : Nat := 18
    let c : Nat := 6401
    let s : State := (let z := (sets (calm R [2]) [(Reg.PWM_STAT 18, Fld.PWM_STAT_run, 1), (Reg.PWM_CTRL 18, Fld.PWM_CTRL_mode, 2)]); { z with pg := z.pg.modify 18 (fun p => { p with stretch := some 6401 }) })
    exact ⟨s, g, c, holds_of (fun (h : _ ∧ _ ∧ _ ∧ _ ∧ _) => ⟨inv_of h.1, h.2.1, h.2.2.1, h.2.2.2.1, h.2.2.2.2⟩) (by decide +kernel +revert)⟩
  · let R := quiet
    let g : Nat := 18
    let s : State := (let z := (sets (calm R [2]) [(Reg.PWM_STAT 18, Fld.PWM_STAT_run, 1), (Reg.PWM_CTRL 18, Fld.PWM_CTRL_mode, 2)]); { z with pg := z.pg.modify 18 (fun p => { p with r := false, cotReady := 0, cotHeld := false, stretch := none }) })
    exact ⟨s, g, holds_of (fun (h : _ ∧ _ ∧ _ ∧ _ ∧ _ ∧ _ ∧ _ ∧ _ ∧ _) => ⟨inv_of h.1, h.2.1, h.2.2.1, h.2.2.2.1, h.2.2.2.2.1, h.2.2.2.2.2.1, h.2.2.2.2.2.2.1, h.2.2.2.2.2.2.2.1, h.2.2.2.2.2.2.2.2⟩) (by decide +kernel +revert)⟩
  · let R := quiet
    let g : Nat := 18
    let s : State := (let z := (sets (calm R [2]) [(Reg.PWM_STAT 18, Fld.PWM_STAT_run, 1), (Reg.PWM_CTRL 18, Fld.PWM_CTRL_mode, 2)]); { z with pg := z.pg.modify 18 (fun p => { p with r := true, cotHeld := false }) })
    exact ⟨s, g, holds_of (fun (h : _ ∧ _ ∧ _ ∧ _ ∧ _ ∧ _ ∧ _) => ⟨inv_of h.1, h.2.1, h.2.2.1, h.2.2.2.1, h.2.2.2.2.1, h.2.2.2.2.2.1, h.2.2.2.2.2.2⟩) (by decide +kernel +revert)⟩
  · let R := quiet
    let g : Nat := 18
    let s : State := (let z := (sets (calm R [2]) [(Reg.PWM_STAT 18, Fld.PWM_STAT_run, 1), (Reg.PWM_CTRL 18, Fld.PWM_CTRL_mode, 2)]); { z with pg := z.pg.modify 18 (fun p => { p with cotHeld := true }) })
    exact ⟨s, g, holds_of (fun (h : _ ∧ _ ∧ _ ∧ _ ∧ _ ∧ _) => ⟨inv_of h.1, h.2.1, h.2.2.1, h.2.2.2.1, h.2.2.2.2.1, h.2.2.2.2.2⟩) (by decide +kernel +revert)⟩
  · let R := quiet
    let g : Nat := 21
    let s : State := (let z := (sets (calm R [2]) [(Reg.PWM_STAT 21, Fld.PWM_STAT_run, 1), (Reg.PWM_CTRL 21, Fld.PWM_CTRL_mode, 2)]); { z with pg := z.pg.modify 21 (fun p => { p with cotHeld := true, r := false, stretch := none }) })
    exact ⟨s, g, holds_of (fun (h : _ ∧ _ ∧ _ ∧ _ ∧ _ ∧ _ ∧ _) => ⟨inv_of h.1, h.2.1, h.2.2.1, h.2.2.2.1, h.2.2.2.2.1, h.2.2.2.2.2.1, h.2.2.2.2.2.2⟩) (by decide +kernel +revert)⟩
  · let R := quiet
    let g : Nat := 21
    let s : State := (let z := sets (calm R [2]) [(Reg.PWM_STAT 21, Fld.PWM_STAT_run, 1), (Reg.PWM_CTRL 21, Fld.PWM_CTRL_mode, 2)]; { z with pg := z.pg.modify 21 (fun p => { p with cotHeld := false }) })
    let d : Nat := max s.dtb ((s.pgAt g).cotLast + (s.pgAt g).per)
    exact ⟨s, g, d, holds_of (fun (h : _ ∧ _ ∧ _ ∧ _ ∧ _ ∧ _) => ⟨inv_of h.1, h.2.1, h.2.2.1, h.2.2.2.1, h.2.2.2.2.1, h.2.2.2.2.2⟩) (by decide +kernel +revert)⟩
  · let R := quiet
    let g : Nat := 0
    let s : State := (let z := sets (calm R [2]) [(Reg.PWM_STAT 0, Fld.PWM_STAT_run, 1), (Reg.PWM_CTRL 0, Fld.PWM_CTRL_mode, 2)]; { z with pg := z.pg.modify 0 (fun p => { p with cotFirst := true }) })
    exact ⟨s, g, holds_of (fun (h : _ ∧ _ ∧ _ ∧ _ ∧ _) => ⟨inv_of h.1, h.2.1, h.2.2.1, h.2.2.2.1, h.2.2.2.2⟩) (by decide +kernel +revert)⟩

theorem witness_PwmRegisters :
    (∃ (s : State) (core : Nat) (g : Nat) (v : Word), s.Inv ∧ s.domainOn 2 = true ∧ s.cpuRatioOk = true ∧ core < 6 ∧ g < 40 ∧ s.on (Reg.PWM_CTRL g) Fld.PWM_CTRL_en = false ∧ (s.ctrlFields g v).2 = true) ∧
    (∃ (s : State) (core : Nat) (g : Nat), s.Inv ∧ s.domainOn 2 = true ∧ s.cpuRatioOk = true ∧ core < 6 ∧ g < 40 ∧ s.on (Reg.PWM_CTRL g) Fld.PWM_CTRL_en = true) ∧
    (∃ (s : State) (core : Nat) (g : Nat), s.Inv ∧ s.domainOn 2 = true ∧ s.cpuRatioOk = true ∧ core < 6 ∧ g < 40 ∧ s.on (Reg.PWM_CTRL g) Fld.PWM_CTRL_en = true) ∧
    (∃ (s : State) (core : Nat) (v : Word) (g : Nat), s.Inv ∧ s.domainOn 2 = true ∧ s.cpuRatioOk = true ∧ core < 6 ∧ g < 40 ∧ bit (s.gstartMask v) g = true ∧ s.on (Reg.PWM_STAT g) Fld.PWM_STAT_wait = true) ∧
    (∃ (s : State) (core : Nat) (g : Nat) (b : Nat), s.Inv ∧ s.domainOn 2 = true ∧ s.cpuRatioOk = true ∧ core < 6 ∧ g < 40 ∧ b < 2) ∧
    (∃ (s : State) (core : Nat) (g : Nat), s.Inv ∧ s.domainOn 2 = true ∧ s.cpuRatioOk = true ∧ core < 6 ∧ g < 40) ∧
    (∃ (s : State) (core : Nat) (g : Nat), s.Inv ∧ s.domainOn 2 = true ∧ s.cpuRatioOk = true ∧ core < 6 ∧ g < 40 ∧ s.tripFlag g = true) ∧
    (∃ (s : State) (n : Nat) (d : Nat), s.Inv ∧ s.domainOn 2 = true ∧ s.cpuRatioOk = true ∧ n < 256 ∧ s.yarrow.due = some d) ∧
    (∃ (s : State) (i : Nat), s.Inv ∧ s.domainOn 2 = true ∧ s.cpuRatioOk = true ∧ i < 4) ∧
    (∃ (s : State) (i : Nat) (c : Nat), s.Inv ∧ s.domainOn 2 = true ∧ s.cpuRatioOk = true ∧ i < 4 ∧ (s.tripIn.getD i {}).since = some c) := by
  refine ⟨?_, ?_, ?_, ?_, ?_, ?_, ?_, ?_, ?_, ?_⟩
  · let R := quiet
    let core : Nat := 5
    let g : Nat := 39
    let v : Word := Word.put (Word.put (Word.put (Word.put 0 Fld.PWM_CTRL_gs 0) Fld.PWM_CTRL_mode 1) Fld.PWM_CTRL_en 1) Fld.PWM_CTRL_single 1
    let s : State := ((sv (sets (calm R [2]) [(Reg.PWM_CTRL 39, Fld.PWM_CTRL_en, 0), (Reg.PWM_CTRL 39, Fld.PWM_CTRL_pre, 0), (Reg.PWM_CTRL 39, Fld.PWM_CTRL_single, 1)]) sigMode 5).wr (Reg.PWM_PER 39) 20000)
    exact ⟨s, core, g, v, holds_of (fun (h : _ ∧ _ ∧ _ ∧ _ ∧ _ ∧ _ ∧ _) => ⟨inv_of h.1, h.2.1, h.2.2.1, h.2.2.2.1, h.2.2.2.2.1, h.2.2.2.2.2.1, h.2.2.2.2.2.2⟩) (by decide +kernel +revert)⟩
  · let R := quiet
    let core : Nat := 5
    let g : Nat := 39
    let s : State := (sets (calm R [2]) [(Reg.PWM_CTRL 39, Fld.PWM_CTRL_en, 1)])
    exact ⟨s, core, g, holds_of (fun (h : _ ∧ _ ∧ _ ∧ _ ∧ _ ∧ _) => ⟨inv_of h.1, h.2.1, h.2.2.1, h.2.2.2.1, h.2.2.2.2.1, h.2.2.2.2.2⟩) (by decide +kernel +revert)⟩
  · let R := quiet
    let core : Nat := 5
    let g : Nat := 0
    let s : State := (sets (calm R [2]) [(Reg.PWM_CTRL 0, Fld.PWM_CTRL_en, 1), (Reg.PWM_STAT 0, Fld.PWM_STAT_trip, 0), (Reg.PWM_SAFE 0, Fld.PWM_SAFE_pat, 0)])
    exact ⟨s, core, g, holds_of (fun (h : _ ∧ _ ∧ _ ∧ _ ∧ _ ∧ _) => ⟨inv_of h.1, h.2.1, h.2.2.1, h.2.2.2.1, h.2.2.2.2.1, h.2.2.2.2.2⟩) (by decide +kernel +revert)⟩
  · let R := quiet
    let core : Nat := 0
    let g : Nat := 31
    let v : Word := 0x80000000
    let s : State := (sets (calm R [2]) [(Reg.PWM_STAT 31, Fld.PWM_STAT_wait, 1)])
    exact ⟨s, core, v, g, holds_of (fun (h : _ ∧ _ ∧ _ ∧ _ ∧ _ ∧ _ ∧ _) => ⟨inv_of h.1, h.2.1, h.2.2.1, h.2.2.2.1, h.2.2.2.2.1, h.2.2.2.2.2.1, h.2.2.2.2.2.2⟩) (by decide +kernel +revert)⟩
  · let R := quiet
    let core : Nat := 5
    let g : Nat := 39
    let b : Nat := 0
    let s : State := (calm R [2])
    exact ⟨s, core, g, b, holds_of (fun (h : _ ∧ _ ∧ _ ∧ _ ∧ _ ∧ _) => ⟨inv_of h.1, h.2.1, h.2.2.1, h.2.2.2.1, h.2.2.2.2.1, h.2.2.2.2.2⟩) (by decide +kernel +revert)⟩
  · let R := quiet
    let core : Nat := 5
    let g : Nat := 39
    let s : State := (calm R [2])
    exact ⟨s, core, g, holds_of (fun (h : _ ∧ _ ∧ _ ∧ _ ∧ _) => ⟨inv_of h.1, h.2.1, h.2.2.1, h.2.2.2.1, h.2.2.2.2⟩) (by decide +kernel +revert)⟩
  · let R := quiet
    let core : Nat := 5
    let g : Nat := 3
    let s : State := (sets (calm R [2]) [(Reg.PWM_STAT 3, Fld.PWM_STAT_trip, 1), (Reg.PWM_STAT 3, Fld.PWM_STAT_run, 0), (Reg.PWM_TRIPM 3, Fld.PWM_TRIPM_tl, 0x1)]).wr Reg.TRP_LVL 0
    exact ⟨s, core, g, holds_of (fun (h : _ ∧ _ ∧ _ ∧ _ ∧ _ ∧ _) => ⟨inv_of h.1, h.2.1, h.2.2.1, h.2.2.2.1, h.2.2.2.2.1, h.2.2.2.2.2⟩) (by decide +kernel +revert)⟩
  · let R := quiet
    let n : Nat := 39
    let d : Nat := 9
    let s : State := (let z := (calm R [2]); { z with yarrow := { z.yarrow with due := some 9 } })
    exact ⟨s, n, d, holds_of (fun (h : _ ∧ _ ∧ _ ∧ _ ∧ _) => ⟨inv_of h.1, h.2.1, h.2.2.1, h.2.2.2.1, h.2.2.2.2⟩) (by decide +kernel +revert)⟩
  · let R := quiet
    let i : Nat := 0
    let s : State := (calm R [2])
    exact ⟨s, i, holds_of (fun (h : _ ∧ _ ∧ _ ∧ _) => ⟨inv_of h.1, h.2.1, h.2.2.1, h.2.2.2⟩) (by decide +kernel +revert)⟩
  · let R := quiet
    let i : Nat := 3
    let c : Nat := 9
    let s : State := (let z := (((calm R [2])).wr Reg.TRP_POL 8).setf Reg.TRP_LVL (bitF 11) 0; { z with tripIn := z.tripIn.modify 3 (fun t => { t with pin := true, since := some 9 }) })
    exact ⟨s, i, c, holds_of (fun (h : _ ∧ _ ∧ _ ∧ _ ∧ _) => ⟨inv_of h.1, h.2.1, h.2.2.1, h.2.2.2.1, h.2.2.2.2⟩) (by decide +kernel +revert)⟩

theorem witness_GateChannels :
    (∃ (s : State) (n : Nat) (c : Nat) (on : Bool) (rest : List (Nat × Bool)) (w : Bool), s.Inv ∧ n < 34 ∧ (if hvIsHigh n then (s.pgAt (genOfHv n)).hiLink else (s.pgAt (genOfHv n)).loLink) = (c, on) :: rest ∧ w = (s.modHv n (fun h => { h with gen := on })).hvWanted n) ∧
    (∃ (s : State) (n : Nat), s.Inv ∧ n < 34 ∧ (if hvIsHigh n then (s.pgAt (genOfHv n)).hiLink else (s.pgAt (genOfHv n)).loLink) = []) ∧
    (∃ (s : State) (m : Nat) (c : Nat) (on : Bool) (rest : List (Nat × Bool)), s.Inv ∧ m < 29 ∧ (if lvIsHigh m then (s.pgAt (genOfLv m)).hiLink else (s.pgAt (genOfLv m)).loLink) = (c, on) :: rest) ∧
    (∃ (s : State) (n : Nat) (e : Edge), s.Inv ∧ n < 34 ∧ (s.hvAt n).edge = some e ∧ e.gait = true ∧ e.phase = 1) ∧
    (∃ (s : State) (n : Nat) (e : Edge) (a : Nat) (b : Nat), s.Inv ∧ n < 34 ∧ (s.hvAt n).edge = some e ∧ e.gait = true ∧ e.phase < 3 ∧ a + b ≤ 3200) ∧
    (∃ (s : State) (n : Nat) (e : Edge), s.Inv ∧ n < 34 ∧ (s.hvAt n).edge = some e ∧ e.gait = true ∧ e.phase < 3) ∧
    (∃ (s : State) (n : Nat) (e : Edge), s.Inv ∧ n < 34 ∧ (s.hvAt n).edge = some e ∧ e.gait = false) ∧
    (∃ (s : State) (n : Nat) (e : Edge), s.Inv ∧ n < 34 ∧ (s.hvAt n).edge = some e ∧ e.gait = false ∧ e.meas = true) ∧
    (∃ (s : State) (n : Nat), s.Inv ∧ n < 34 ∧ s.hvAbsent n = false ∧ s.hvState n ≠ 4 ∧ s.hvState n ≠ 5) ∧
    (∃ (s : State) (n : Nat), s.Inv ∧ n < 34 ∧ s.on (Reg.GCH_STAT n) Fld.GCH_STAT_bias_uv = false) ∧
    (∃ (s : State) (n : Nat), s.Inv ∧ n < 34 ∧ s.on (Reg.GCH_STAT n) Fld.GCH_STAT_bias_uv = true) ∧
    (∃ (s : State) (m : Nat), s.Inv ∧ m < 29 ∧ s.lvAbsent m = false ∧ s.on (Reg.LCH_STAT m) Fld.LCH_STAT_ovc = false) ∧
    (∃ (s : State) (m : Nat), s.Inv ∧ m < 29) ∧
    (∃ (s : State) (m : Nat), s.Inv ∧ m < 29) ∧
    (∃ (s : State) (n : Nat), s.Inv ∧ n < 34) ∧
    (∃ (s : State) (n : Nat) (c : Nat), s.Inv ∧ n < 34 ∧ s.detectAt n = some c) ∧
    (∃ (s : State) (n : Nat) (c : Nat), s.Inv ∧ n < 34 ∧ (s.hvAt n).softEnd = some c ∧ s.hvState n = 4) ∧
    (∃ (s : State) (n : Nat) (c : Nat), s.Inv ∧ n < 12 ∧ (s.hvAt n).p2Due = some c) ∧
    (∃ (s : State) (n : Nat) (c : Nat), s.Inv ∧ n < 34 ∧ s.on (Reg.GCH_CFG n) Fld.GCH_CFG_sc_en = true ∧ s.hvFollows n = true ∧ (s.hvAt n).crossed = some c) ∧
    (∃ (s : State) (n : Nat), s.Inv ∧ n < 34 ∧ s.hvAbsent n = true) ∧
    (∃ (s : State) (m : Nat), s.Inv ∧ m < 29 ∧ s.lvAbsent m = true) := by
  refine ⟨?_, ?_, ?_, ?_, ?_, ?_, ?_, ?_, ?_, ?_, ?_, ?_, ?_, ?_, ?_, ?_, ?_, ?_, ?_, ?_, ?_⟩
  · let R := quiet
    let n : Nat := 33
    let c : Nat := 9
    let on : Bool := true
    let rest : List (Nat × Bool) := ([] : List (Nat × Bool))
    let s : State := sets (((calm R [4]).modPg (genOfHv 33) (fun p => { p with hiLink := [(9, true)], loLink := [(9, true)] })).modHv 33 (fun h => { h with p2 := none, gate := false })) [(Reg.GCH_STAT 33, Fld.GCH_STAT_state, 2), (Reg.GCH_STAT 33, Fld.GCH_STAT_bias_uv, 0), (Reg.GCH_CFG 33, Fld.GCH_CFG_sc_en, 0)]
    let w : Bool := (s.modHv n (fun h => { h with gen := on })).hvWanted n
    exact ⟨s, n, c, on, rest, w, holds_of (fun (h : _ ∧ _ ∧ _ ∧ _) => ⟨inv_of h.1, h.2.1, h.2.2.1, h.2.2.2⟩) (by decide +kernel +revert)⟩
  · let R := quiet
    let n : Nat := 32
    let s : State := (calm R []).modPg (genOfHv 32) (fun p => { p with hiLink := [], loLink := [] })
    exact ⟨s, n, holds_of (fun (h : _ ∧ _ ∧ _) => ⟨inv_of h.1, h.2.1, h.2.2⟩) (by decide +kernel +revert)⟩
  · let R := quiet
    let m : Nat := 28
    let c : Nat := R.dtb + 2
    let on : Bool := true
    let rest : List (Nat × Bool) := ([] : List (Nat × Bool))
    let s : State := ((calm R [4]).modPg (genOfLv 28) (fun p => { p with hiLink := [(R.dtb + 2, true)], loLink := [(R.dtb + 2, true)] })).setf (Reg.LCH_STAT 28) Fld.LCH_STAT_state 1
    exact ⟨s, m, c, on, rest, holds_of (fun (h : _ ∧ _ ∧ _) => ⟨inv_of h.1, h.2.1, h.2.2⟩) (by decide +kernel +revert)⟩
  · let R := quiet
    let e : Edge := { rise := true, t0 := 50, gait := true, bin := 0, learn := false, phase := 1, preEnd := 60, meas := true }
    let n : Nat := 33
    let s : State := ((calm R []).modHv 33 (fun h => { h with edge := some { rise := true, t0 := 50, gait := true, bin := 0, learn := false, phase := 1, preEnd := 60, meas := true } }))
    exact ⟨s, n, e, holds_of (fun (h : _ ∧ _ ∧ _ ∧ _ ∧ _) => ⟨inv_of h.1, h.2.1, h.2.2.1, h.2.2.2.1, h.2.2.2.2⟩) (by decide +kernel +revert)⟩
  · let R := quiet
    let e : Edge := ({ rise := true, t0 := 50, gait := true, bin := 0, learn := false, phase := 1, preEnd := 60, meas := true } : Edge)
    let n : Nat := 33
    let a : Nat := 3000
    let b : Nat := 200
    let s : State := ((calm R []).modHv 33 (fun h => { h with edge := some { rise := true, t0 := 50, gait := true, bin := 0, learn := false, phase := 1, preEnd := 60, meas := true } }))
    exact ⟨s, n, e, a, b, holds_of (fun (h : _ ∧ _ ∧ _ ∧ _ ∧ _ ∧ _) => ⟨inv_of h.1, h.2.1, h.2.2.1, h.2.2.2.1, h.2.2.2.2.1, h.2.2.2.2.2⟩) (by decide +kernel +revert)⟩
  · let R := quiet
    let e : Edge := ({ rise := true, t0 := 50, gait := true, bin := 0, learn := false, phase := 1, preEnd := 60, meas := true } : Edge)
    let n : Nat := 33
    let s : State := ((calm R []).modHv 33 (fun h => { h with edge := some { rise := true, t0 := 50, gait := true, bin := 0, learn := false, phase := 1, preEnd := 60, meas := true } }))
    exact ⟨s, n, e, holds_of (fun (h : _ ∧ _ ∧ _ ∧ _ ∧ _) => ⟨inv_of h.1, h.2.1, h.2.2.1, h.2.2.2.1, h.2.2.2.2⟩) (by decide +kernel +revert)⟩
  · let R := quiet
    let e : Edge := ({ rise := true, t0 := 50, gait := false, bin := 0, learn := false, phase := 1, preEnd := 60, meas := true } : Edge)
    let n : Nat := 33
    let s : State := ((calm R []).modHv 33 (fun h => { h with edge := some { rise := true, t0 := 50, gait := false, bin := 0, learn := false, phase := 1, preEnd := 60, meas := true } }))
    exact ⟨s, n, e, holds_of (fun (h : _ ∧ _ ∧ _ ∧ _) => ⟨inv_of h.1, h.2.1, h.2.2.1, h.2.2.2⟩) (by decide +kernel +revert)⟩
  · let R := quiet
    let e : Edge := ({ rise := true, t0 := 50, gait := false, bin := 0, learn := false, phase := 1, preEnd := 60, meas := true } : Edge)
    let n : Nat := 33
    let s : State := ((calm R []).modHv 33 (fun h => { h with edge := some { rise := true, t0 := 50, gait := false, bin := 0, learn := false, phase := 1, preEnd := 60, meas := true } }))
    exact ⟨s, n, e, holds_of (fun (h : _ ∧ _ ∧ _ ∧ _ ∧ _) => ⟨inv_of h.1, h.2.1, h.2.2.1, h.2.2.2.1, h.2.2.2.2⟩) (by decide +kernel +revert)⟩
  · let R := quiet
    let n : Nat := 33
    let s : State := ({ calm R [] with variant := .f } : State).setHvState 33 3
    exact ⟨s, n, holds_of (fun (h : _ ∧ _ ∧ _ ∧ _ ∧ _) => ⟨inv_of h.1, h.2.1, h.2.2.1, h.2.2.2.1, h.2.2.2.2⟩) (by decide +kernel +revert)⟩
  · let R := quiet
    let n : Nat := 33
    let s : State := sets (calm R []) [(Reg.GCH_STAT 33, Fld.GCH_STAT_bias_uv, 0), (Reg.GCH_STAT 33, Fld.GCH_STAT_state, 2)]
    exact ⟨s, n, holds_of (fun (h : _ ∧ _ ∧ _) => ⟨inv_of h.1, h.2.1, h.2.2⟩) (by decide +kernel +revert)⟩
  · let R := quiet
    let n : Nat := 33
    let s : State := sets (calm R []) [(Reg.GCH_STAT 33, Fld.GCH_STAT_bias_uv, 1), (Reg.GCH_STAT 33, Fld.GCH_STAT_state, 6)]
    exact ⟨s, n, holds_of (fun (h : _ ∧ _ ∧ _) => ⟨inv_of h.1, h.2.1, h.2.2⟩) (by decide +kernel +revert)⟩
  · let R := quiet
    let m : Nat := 28
    let s : State := sets (calm R []) [(Reg.LCH_STAT 28, Fld.LCH_STAT_ovc, 0)]
    exact ⟨s, m, holds_of (fun (h : _ ∧ _ ∧ _ ∧ _) => ⟨inv_of h.1, h.2.1, h.2.2.1, h.2.2.2⟩) (by decide +kernel +revert)⟩
  · let R := quiet
    let m : Nat := 28
    let s : State := calm R []
    exact ⟨s, m, holds_of (fun (h : _ ∧ _) => ⟨inv_of h.1, h.2⟩) (by decide +kernel +revert)⟩
  · let R := quiet
    let m : Nat := 28
    let s : State := calm R []
    exact ⟨s, m, holds_of (fun (h : _ ∧ _) => ⟨inv_of h.1, h.2⟩) (by decide +kernel +revert)⟩
  · let R := quiet
    let n : Nat := 33
    let s : State := calm R []
    exact ⟨s, n, holds_of (fun (h : _ ∧ _) => ⟨inv_of h.1, h.2⟩) (by decide +kernel +revert)⟩
  · let R := quiet
    let n : Nat := 33
    let c : Nat := max 5 (R.hvAt 33).blankEnd + 16
    let s : State := sets ((calm R []).modHv 33 (fun h => { h with crossed := some 5 })) [(Reg.GCH_CFG 33, Fld.GCH_CFG_sc_en, 1), (Reg.GCH_STAT 33, Fld.GCH_STAT_state, 2)]
    exact ⟨s, n, c, holds_of (fun (h : _ ∧ _ ∧ _) => ⟨inv_of h.1, h.2.1, h.2.2⟩) (by decide +kernel +revert)⟩
  · let R := quiet
    let n : Nat := 33
    let c : Nat := 5
    let s : State := sets ((calm R []).modHv 33 (fun h => { h with softEnd := some 5 })) [(Reg.GCH_STAT 33, Fld.GCH_STAT_state, 4)]
    exact ⟨s, n, c, holds_of (fun (h : _ ∧ _ ∧ _ ∧ _) => ⟨inv_of h.1, h.2.1, h.2.2.1, h.2.2.2⟩) (by decide +kernel +revert)⟩
  · let R := quiet
    let n : Nat := 11
    let c : Nat := 5
    let s : State := ((calm R []).modHv 11 (fun h => { h with p2Due := some 5 }))
    exact ⟨s, n, c, holds_of (fun (h : _ ∧ _ ∧ _) => ⟨inv_of h.1, h.2.1, h.2.2⟩) (by decide +kernel +revert)⟩
  · let R := quiet
    let n : Nat := 33
    let c : Nat := 5
    let s : State := sets ((calm R []).modHv 33 (fun h => { h with crossed := some 5 })) [(Reg.GCH_STAT 33, Fld.GCH_STAT_state, 2), (Reg.GCH_CFG 33, Fld.GCH_CFG_sc_en, 1)]
    exact ⟨s, n, c, holds_of (fun (h : _ ∧ _ ∧ _ ∧ _ ∧ _) => ⟨inv_of h.1, h.2.1, h.2.2.1, h.2.2.2.1, h.2.2.2.2⟩) (by decide +kernel +revert)⟩
  · let R := quiet
    let n : Nat := 27
    let s : State := { calm R [] with variant := .d }
    exact ⟨s, n, holds_of (fun (h : _ ∧ _ ∧ _) => ⟨inv_of h.1, h.2.1, h.2.2⟩) (by decide +kernel +revert)⟩
  · let R := quiet
    let m : Nat := 11
    let s : State := { calm R [] with variant := .d }
    exact ⟨s, m, holds_of (fun (h : _ ∧ _ ∧ _) => ⟨inv_of h.1, h.2.1, h.2.2⟩) (by decide +kernel +revert)⟩

theorem witness_GateBlock :
    (∃ (s : State) (b : Nat) (i : Nat) (n : Nat), s.Inv ∧ s.gate.probe.bridge = some b ∧ s.gate.probe.gloopDone = false ∧ (hvOfBridge b)[i]? = some n) ∧
    (∃ (s : State) (b : Nat), s.Inv ∧ s.gate.probe.bridge = some b ∧ s.gate.probe.linked = true ∧ s.gate.probe.gloopDone = true ∧ s.gate.probe.inj.length < 2 * (gensOfBridge b).length) ∧
    (∃ (s : State) (b : Nat), s.Inv ∧ s.gate.probe.bridge = some b ∧ s.gate.probe.gloopDone = true ∧ (s.gate.probe.linked = false ∨ s.gate.probe.inj.length = 2 * (gensOfBridge b).length)) ∧
    (∃ (s : State) (core : Nat), s.Inv ∧ core < 6 ∧ s.domainOn 4 = true ∧ s.cpuRatioOk = true ∧ s.fld Reg.GDC_STAT Fld.GDC_STAT_seq ≠ 3) ∧
    (∃ (s : State) (core : Nat) (v : Word) (b : Nat) (rest : List Nat), s.Inv ∧ core < 6 ∧ s.domainOn 4 = true ∧ s.cpuRatioOk = true ∧ s.fld Reg.GDC_STAT Fld.GDC_STAT_seq = 3 ∧ s.gate.probe.bridge = none ∧ s.probeMask ((v.toNat &&& (if s.variant = .d then 0x1A3 else 0x1BF)) % 512) = b :: rest ∧ (∀ b' g, b' ∈ b :: rest → g ∈ gensOfBridge b' → s.on (Reg.PWM_CTRL g) Fld.PWM_CTRL_en = false)) ∧
    (∃ (s : State) (c : Nat) (n : Nat), s.Inv ∧ s.gate.drvSince = some c ∧ s.gate.drvEn = false ∧ n < 34 ∧ s.hvFollows n = true) ∧
    (∃ (s : State) (c : Nat), s.Inv ∧ s.gate.drvSince = some c ∧ s.gate.drvEn = true) ∧
    (∃ (s : State) (b : Nat) (rest : List Nat), s.Inv ∧ s.fld Reg.GDC_STAT Fld.GDC_STAT_seq = 1 ∧ s.on Reg.GDC_STAT Fld.GDC_STAT_drv_en = true ∧ (∀ n, n < 34 → (s.hvAt n).offSince.isSome = true) ∧ s.probeMask (s.fld Reg.GDC_PRB Fld.GDC_PRB_mask) = b :: rest) ∧
    (∃ (s : State) (core : Nat), s.Inv ∧ core < 6 ∧ s.domainOn 4 = true ∧ s.cpuRatioOk = true) ∧
    (∃ (s : State) (c : Nat), s.Inv ∧ s.gate.enPulse = some c) ∧
    (∃ (s : State), s.Inv ∧ s.gate.chopper = false) ∧
    (∃ (s : State), s.Inv ∧ s.gate.chopper = true) ∧
    (∃ (s : State) (core : Nat), s.Inv ∧ core < 6 ∧ s.domainOn 4 = true ∧ s.cpuRatioOk = true ∧ s.gate.dscHold = none ∧ s.on Reg.DSC_STAT Fld.DSC_STAT_active = false ∧ s.tripFlag 17 = false ∧ s.hvFault 33 = 0) ∧
    (∃ (s : State), s.Inv ∧ s.on Reg.DSC_STAT Fld.DSC_STAT_active = true) ∧
    (∃ (s : State) (c : Nat), s.Inv ∧ s.gate.dscStart = some c) ∧
    (∃ (s : State) (c : Nat), s.Inv ∧ s.gate.dscHold = some c) := by
  refine ⟨?_, ?_, ?_, ?_, ?_, ?_, ?_, ?_, ?_, ?_, ?_, ?_, ?_, ?_, ?_, ?_⟩
  · let R := quiet
    let b : Nat := 0
    let i : Nat := 5
    let n : Nat := ((hvOfBridge 0).getD 5 0)
    let s : State := (let z := calm R []; { z with gate := { z.gate with probe := { z.gate.probe with bridge := some 0, gloopDone := false } } })
    exact ⟨s, b, i, n, holds_of (fun (h : _ ∧ _ ∧ _ ∧ _) => ⟨inv_of h.1, h.2.1, h.2.2.1, h.2.2.2⟩) (by decide +kernel +revert)⟩
  · let R := quiet
    let b : Nat := 0
    let s : State := (let z := calm R [3, 4]; { z with gate := { z.gate with probe := { z.gate.probe with bridge := some 0, linked := true, gloopDone := true, inj := [] } } })
    exact ⟨s, b, holds_of (fun (h : _ ∧ _ ∧ _ ∧ _ ∧ _) => ⟨inv_of h.1, h.2.1, h.2.2.1, h.2.2.2.1, h.2.2.2.2⟩) (by decide +kernel +revert)⟩
  · let R := quiet
    let b : Nat := 0
    let s : State := (let z := calm R [3, 4]; { z with gate := { z.gate with probe := { z.gate.probe with bridge := some 0, linked := false, gloopDone := true, left := [4, 5] } } })
    exact ⟨s, b, holds_of (fun (h : _ ∧ _ ∧ _ ∧ _) => ⟨inv_of h.1, h.2.1, h.2.2.1, h.2.2.2⟩) (by decide +kernel +revert)⟩
  · let R := quiet
    let core : Nat := 5
    let s : State := (calm R [3, 4]).setf Reg.GDC_STAT Fld.GDC_STAT_seq 2
    exact ⟨s, core, holds_of (fun (h : _ ∧ _ ∧ _ ∧ _ ∧ _) => ⟨inv_of h.1, h.2.1, h.2.2.1, h.2.2.2.1, h.2.2.2.2⟩) (by decide +kernel +revert)⟩
  · let R := quiet
    let core : Nat := 5
    let v : Word := 0x101
    let b : Nat := 0
    let rest : List Nat := [8]
    let s : State := (List.range 40).foldl (fun s g => s.setf (Reg.PWM_CTRL g) Fld.PWM_CTRL_en 0) (((let z := calm R [3, 4]; { z with gate := { z.gate with probe := { z.gate.probe with bridge := none } } })).setf Reg.GDC_STAT Fld.GDC_STAT_seq 3)
    exact ⟨s, core, v, b, rest, holds_of (fun (h : _ ∧ _ ∧ _ ∧ _ ∧ _ ∧ _ ∧ _ ∧ (∀ b1 ∈ b :: rest, ∀ g ∈ gensOfBridge b1, s.on (Reg.PWM_CTRL g) Fld.PWM_CTRL_en = false)) => ⟨inv_of h.1, h.2.1, h.2.2.1, h.2.2.2.1, h.2.2.2.2.1, h.2.2.2.2.2.1, h.2.2.2.2.2.2.1, fun b g hb hg => h.2.2.2.2.2.2.2 b hb g hg⟩) (by decide +kernel +revert)⟩
  · let R := quiet
    let c : Nat := 50
    let n : Nat := 33
    let s : State := sets (let z := calm R [3, 4]; { z with gate := { z.gate with drvSince := some 50, drvEn := false } }) [(Reg.GCH_STAT 33, Fld.GCH_STAT_state, 2)]
    exact ⟨s, c, n, holds_of (fun (h : _ ∧ _ ∧ _ ∧ _ ∧ _) => ⟨inv_of h.1, h.2.1, h.2.2.1, h.2.2.2.1, h.2.2.2.2⟩) (by decide +kernel +revert)⟩
  · let R := quiet
    let c : Nat := 50
    let s : State := (let z := calm R [3, 4]; { z with gate := { z.gate with drvSince := some 50, drvEn := true } })
    exact ⟨s, c, holds_of (fun (h : _ ∧ _ ∧ _) => ⟨inv_of h.1, h.2.1, h.2.2⟩) (by decide +kernel +revert)⟩
  · let R := quiet
    let b : Nat := 0
    let rest : List Nat := [8]
    let s : State := sets (let z := calm R [3, 4]; { z with gate := { z.gate with hv := (calm R []).gate.hv.map (fun h => { h with offSince := some 3 }) } }) [(Reg.GDC_STAT, Fld.GDC_STAT_seq, 1), (Reg.GDC_STAT, Fld.GDC_STAT_drv_en, 1), (Reg.GDC_PRB, Fld.GDC_PRB_mask, 0x101)]
    exact ⟨s, b, rest, holds_of (fun (h : _ ∧ _ ∧ _ ∧ _ ∧ _) => ⟨inv_of h.1, h.2.1, h.2.2.1, h.2.2.2.1, h.2.2.2.2⟩) (by decide +kernel +revert)⟩
  · let R := quiet
    let core : Nat := 5
    let s : State := calm R [3, 4]
    exact ⟨s, core, holds_of (fun (h : _ ∧ _ ∧ _ ∧ _) => ⟨inv_of h.1, h.2.1, h.2.2.1, h.2.2.2⟩) (by decide +kernel +revert)⟩
  · let R := quiet
    let c : Nat := 5
    let s : State := (let z := calm R [3, 4]; { z with gate := { z.gate with enPulse := some 5 } })
    exact ⟨s, c, holds_of (fun (h : _ ∧ _) => ⟨inv_of h.1, h.2⟩) (by decide +kernel +revert)⟩
  · let R := quiet
    let s : State := (let z := calm R [3, 4]; { z with gate := { z.gate with chopper := false } })
    exact ⟨s, holds_of (fun (h : _ ∧ _) => ⟨inv_of h.1, h.2⟩) (by decide +kernel +revert)⟩
  · let R := quiet
    let s : State := (let z := calm R [3, 4]; { z with gate := { z.gate with chopper := true } })
    exact ⟨s, holds_of (fun (h : _ ∧ _) => ⟨inv_of h.1, h.2⟩) (by decide +kernel +revert)⟩
  · let R := quiet
    let core : Nat := 5
    let s : State := sets (((let z := calm R [3, 4]; { z with gate := { z.gate with dscHold := none } })).setf Reg.DSC_STAT Fld.DSC_STAT_active 0) [(Reg.PWM_STAT 17, Fld.PWM_STAT_trip, 0), (Reg.GCH_STAT 33, Fld.GCH_STAT_fault, 0)]
    exact ⟨s, core, holds_of (fun (h : _ ∧ _ ∧ _ ∧ _ ∧ _ ∧ _ ∧ _ ∧ _) => ⟨inv_of h.1, h.2.1, h.2.2.1, h.2.2.2.1, h.2.2.2.2.1, h.2.2.2.2.2.1, h.2.2.2.2.2.2.1, h.2.2.2.2.2.2.2⟩) (by decide +kernel +revert)⟩
  · let R := quiet
    let s : State := (calm R [3, 4]).setf Reg.DSC_STAT Fld.DSC_STAT_active 1
    exact ⟨s, holds_of (fun (h : _ ∧ _) => ⟨inv_of h.1, h.2⟩) (by decide +kernel +revert)⟩
  · let R := quiet
    let c : Nat := 5
    let s : State := (let z := calm R [3, 4]; { z with gate := { z.gate with dscStart := some 5 } })
    exact ⟨s, c, holds_of (fun (h : _ ∧ _) => ⟨inv_of h.1, h.2⟩) (by decide +kernel +revert)⟩
  · let R := quiet
    let c : Nat := 5
    let s : State := (let z := calm R [3, 4]; { z with gate := { z.gate with dscHold := some 5 } })
    exact ⟨s, c, holds_of (fun (h : _ ∧ _) => ⟨inv_of h.1, h.2⟩) (by decide +kernel +revert)⟩

theorem witness_DriveSequence :
    (∃ (s : State) (d : Nat), s.Inv ∧ d < 2 ∧ s.teamRuns 0 = true ∧ (∀ k, k < 2 → s.Publishes (dsig k 0x320) ∧ s.Publishes (dsig k 0x321)) ∧ (d = 0 ∨ s.coupled = false) ∧ s.drvState d = drvOff ∧ s.val (dsig d 0x302) ≠ 0 ∧ (s.modeNow = 2 ∨ s.modeNow = 5) ∧ s.fld Reg.GDC_STAT Fld.GDC_STAT_seq = 3) ∧
    (∃ (s : State) (d : Nat) (held : Nat), s.Inv ∧ d < 2 ∧ s.teamRuns 0 = true ∧ (∀ k, k < 2 → s.Publishes (dsig k 0x320) ∧ s.Publishes (dsig k 0x321)) ∧ s.drvState d = drvStart ∧ s.sensorClean d held = true ∧ (s.q15 (dsig d 0x212)).natAbs * 20 < 32768 ∧ (s.q15 (dsig d 0x213)).natAbs * 20 < 32768 ∧ 400000 ≤ held) ∧
    (∃ (s : State) (d : Nat), s.Inv ∧ d < 2 ∧ s.teamRuns 0 = true ∧ (∀ k, k < 2 → s.Publishes (dsig k 0x320) ∧ s.Publishes (dsig k 0x321)) ∧ s.drvState d = drvStart ∧ s.val (dsig d 0x206) ≠ 1) ∧
    (∃ (s : State) (d : Nat), s.Inv ∧ d < 2 ∧ s.teamRuns 0 = true ∧ (∀ k, k < 2 → s.Publishes (dsig k 0x320) ∧ s.Publishes (dsig k 0x321)) ∧ s.drvState d = drvDecel ∧ s.drvSpeed d < s.q15 (dsig d 0x318)) ∧
    (∃ (s : State) (d : Nat), s.Inv ∧ d < 2 ∧ s.teamRuns 0 = true ∧ (∀ k, k < 2 → s.Publishes (dsig k 0x320) ∧ s.Publishes (dsig k 0x321)) ∧ s.drvState d = drvDwell ∧ s.drvSpeed d < s.q15 (dsig d 0x318)) ∧
    (∃ (s : State) (d : Nat), s.Inv ∧ d < 2 ∧ s.teamRuns 0 = true ∧ (∀ k, k < 2 → s.Publishes (dsig k 0x320) ∧ s.Publishes (dsig k 0x321)) ∧ s.drvState d = drvRun ∧ s.val (dsig d 0x302) = 0) ∧
    (∃ (s : State) (d : Nat), s.Inv ∧ d < 2 ∧ s.teamRuns 0 = true ∧ (∀ k, k < 2 → s.Publishes (dsig k 0x320) ∧ s.Publishes (dsig k 0x321)) ∧ s.drvState d = drvStopping ∧ s.q15 (dsig d 0x216) = 0 ∧ s.drvSlow d = true) ∧
    (∃ (s : State) (d : Nat) (due : Nat), s.Inv ∧ d < 2 ∧ s.teamRuns 0 = true ∧ (∀ k, k < 2 → s.Publishes (dsig k 0x320) ∧ s.Publishes (dsig k 0x321)) ∧ s.drvState d = drvStopping ∧ s.drvSlow d = false ∧ (s.drv d).stopBy = some due) ∧
    (∃ (s : State) (d : Nat), s.Inv ∧ d < 2 ∧ s.teamRuns 0 = true ∧ (∀ k, k < 2 → s.Publishes (dsig k 0x320) ∧ s.Publishes (dsig k 0x321)) ∧ s.drvLive d = true ∧ (s.drvGens d).any s.tripFlag = true) ∧
    (∃ (s : State) (d : Nat) (held : Nat), s.Inv ∧ d < 2 ∧ s.teamRuns 0 = true ∧ (∀ k, k < 2 → s.Publishes (dsig k 0x320) ∧ s.Publishes (dsig k 0x321)) ∧ s.drvLive d = true ∧ 105 * s.q15 (dsig d 0x312) < 100 * s.drvSpeed d ∧ 400000 ≤ held) ∧
    (∃ (s : State) (d : Nat), s.Inv ∧ d < 2 ∧ s.teamRuns 0 = true ∧ (∀ k, k < 2 → s.Publishes (dsig k 0x320) ∧ s.Publishes (dsig k 0x321)) ∧ s.val (sid 3 0x31) = 1 ∧ s.drvLive d = true) ∧
    (∃ (s : State) (d : Nat), s.Inv ∧ d < 2 ∧ s.teamRuns 0 = true ∧ (∀ k, k < 2 → s.Publishes (dsig k 0x320) ∧ s.Publishes (dsig k 0x321)) ∧ s.drvState d = drvStart ∧ s.val (dsig d 0x206) = 1) := by
  refine ⟨?_, ?_, ?_, ?_, ?_, ?_, ?_, ?_, ?_, ?_, ?_, ?_⟩
  · let R := quiet
    let d : Nat := 1
    let s : State := pub (sets (sv (sv (sv (drvAt R 1 0) (dsig 1 0x302) 1) sigMode 2) (dsig 1 0x305) 1) [(Reg.GDC_STAT, Fld.GDC_STAT_seq, 3)]) [dsig 0 0x320, dsig 0 0x321, dsig 1 0x320, dsig 1 0x321]
    exact ⟨s, d, holds_of (fun (h : _ ∧ _ ∧ _ ∧ _ ∧ _ ∧ _ ∧ _ ∧ _ ∧ _) => ⟨inv_of h.1, h.2.1, h.2.2.1, h.2.2.2.1, h.2.2.2.2.1, h.2.2.2.2.2.1, h.2.2.2.2.2.2.1, h.2.2.2.2.2.2.2.1, h.2.2.2.2.2.2.2.2⟩) (by decide +kernel +revert)⟩
  · let R := quiet
    let d : Nat := 1
    let held : Nat := 400000
    let s : State := (pub ({ sv (sv (sv (drvAt R 1 1) (dsig 1 0x206) 0) (dsig 1 0x212) 1638) (dsig 1 0x213) 0 with drives := [{}, { R.drv 1 with startAt := 0 }], dtb := 400000 + R.dtb }) [dsig 0 0x320, dsig 0 0x321, dsig 1 0x320, dsig 1 0x321]).modLaw 3 1 (fun w => { w with prod := some { clean := some 0 } })
    exact ⟨s, d, held, holds_of (fun (h : _ ∧ _ ∧ _ ∧ _ ∧ _ ∧ _ ∧ _ ∧ _ ∧ _) => ⟨inv_of h.1, h.2.1, h.2.2.1, h.2.2.2.1, h.2.2.2.2.1, h.2.2.2.2.2.1, h.2.2.2.2.2.2.1, h.2.2.2.2.2.2.2.1, h.2.2.2.2.2.2.2.2⟩) (by decide +kernel +revert)⟩
  · let R := quiet
    let d : Nat := 1
    let s : State := pub (sv (drvAt R 1 1) (dsig 1 0x206) 0) [dsig 0 0x320, dsig 0 0x321, dsig 1 0x320, dsig 1 0x321]
    exact ⟨s, d, holds_of (fun (h : _ ∧ _ ∧ _ ∧ _ ∧ _ ∧ _) => ⟨inv_of h.1, h.2.1, h.2.2.1, h.2.2.2.1, h.2.2.2.2.1, h.2.2.2.2.2⟩) (by decide +kernel +revert)⟩
  · let R := quiet
    let d : Nat := 1
    let s : State := pub (sv (sv (drvAt R 1 3) (dsig 1 0x203) 9) (dsig 1 0x318) 10) [dsig 0 0x320, dsig 0 0x321, dsig 1 0x320, dsig 1 0x321]
    exact ⟨s, d, holds_of (fun (h : _ ∧ _ ∧ _ ∧ _ ∧ _ ∧ _) => ⟨inv_of h.1, h.2.1, h.2.2.1, h.2.2.2.1, h.2.2.2.2.1, h.2.2.2.2.2⟩) (by decide +kernel +revert)⟩
  · let R := quiet
    let d : Nat := 1
    let s : State := pub (sv (sv (drvAt R 1 4) (dsig 1 0x203) 9) (dsig 1 0x318) 10) [dsig 0 0x320, dsig 0 0x321, dsig 1 0x320, dsig 1 0x321]
    exact ⟨s, d, holds_of (fun (h : _ ∧ _ ∧ _ ∧ _ ∧ _ ∧ _) => ⟨inv_of h.1, h.2.1, h.2.2.1, h.2.2.2.1, h.2.2.2.2.1, h.2.2.2.2.2⟩) (by decide +kernel +revert)⟩
  · let R := quiet
    let d : Nat := 1
    let s : State := pub (sv (drvAt R 1 2) (dsig 1 0x302) 0) [dsig 0 0x320, dsig 0 0x321, dsig 1 0x320, dsig 1 0x321]
    exact ⟨s, d, holds_of (fun (h : _ ∧ _ ∧ _ ∧ _ ∧ _ ∧ _) => ⟨inv_of h.1, h.2.1, h.2.2.1, h.2.2.2.1, h.2.2.2.2.1, h.2.2.2.2.2⟩) (by decide +kernel +revert)⟩
  · let R := quiet
    let d : Nat := 1
    let s : State := pub (sv (sv (sv (sv (drvAt R 1 5) (dsig 1 0x216) 0) (dsig 1 0x203) 9) (dsig 1 0x310) 20) (dsig 1 0x311) 10) [dsig 0 0x320, dsig 0 0x321, dsig 1 0x320, dsig 1 0x321]
    exact ⟨s, d, holds_of (fun (h : _ ∧ _ ∧ _ ∧ _ ∧ _ ∧ _ ∧ _) => ⟨inv_of h.1, h.2.1, h.2.2.1, h.2.2.2.1, h.2.2.2.2.1, h.2.2.2.2.2.1, h.2.2.2.2.2.2⟩) (by decide +kernel +revert)⟩
  · let R := quiet
    let d : Nat := 1
    let due : Nat := 44
    let s : State := pub ({ sv (sv (sv (drvAt R 1 5) (dsig 1 0x203) 10) (dsig 1 0x310) 20) (dsig 1 0x311) 10 with drives := [{}, { R.drv 1 with stopBy := some 44 }] }) [dsig 0 0x320, dsig 0 0x321, dsig 1 0x320, dsig 1 0x321]
    exact ⟨s, d, due, holds_of (fun (h : _ ∧ _ ∧ _ ∧ _ ∧ _ ∧ _ ∧ _) => ⟨inv_of h.1, h.2.1, h.2.2.1, h.2.2.2.1, h.2.2.2.2.1, h.2.2.2.2.2.1, h.2.2.2.2.2.2⟩) (by decide +kernel +revert)⟩
  · let R := quiet
    let d : Nat := 1
    let s : State := pub (sets (drvAt R 1 2) [(Reg.PWM_STAT 3, Fld.PWM_STAT_trip, 1)]) [dsig 0 0x320, dsig 0 0x321, dsig 1 0x320, dsig 1 0x321]
    exact ⟨s, d, holds_of (fun (h : _ ∧ _ ∧ _ ∧ _ ∧ _ ∧ _) => ⟨inv_of h.1, h.2.1, h.2.2.1, h.2.2.2.1, h.2.2.2.2.1, h.2.2.2.2.2⟩) (by decide +kernel +revert)⟩
  · let R := quiet
    let d : Nat := 1
    let held : Nat := 400000
    let s : State := pub (sv (sv (drvAt R 1 2) (dsig 1 0x203) 1051) (dsig 1 0x312) 1000) [dsig 0 0x320, dsig 0 0x321, dsig 1 0x320, dsig 1 0x321]
    exact ⟨s, d, held, holds_of (fun (h : _ ∧ _ ∧ _ ∧ _ ∧ _ ∧ _ ∧ _) => ⟨inv_of h.1, h.2.1, h.2.2.1, h.2.2.2.1, h.2.2.2.2.1, h.2.2.2.2.2.1, h.2.2.2.2.2.2⟩) (by decide +kernel +revert)⟩
  · let R := quiet
    let d : Nat := 0
    let s : State := pub (sv (sv (drvAt (drvAt R 1 0) 0 2) (sid 3 0x31) 1) sigMode 0) [dsig 0 0x320, dsig 0 0x321, dsig 1 0x320, dsig 1 0x321]
    exact ⟨s, d, holds_of (fun (h : _ ∧ _ ∧ _ ∧ _ ∧ _ ∧ _) => ⟨inv_of h.1, h.2.1, h.2.2.1, h.2.2.2.1, h.2.2.2.2.1, h.2.2.2.2.2⟩) (by decide +kernel +revert)⟩
  · let R := quiet
    let d : Nat := 0
    let s : State := pub (sv (drvAt R 0 1) (dsig 0 0x206) 1) [dsig 0 0x320, dsig 0 0x321, dsig 1 0x320, dsig 1 0x321]
    exact ⟨s, d, holds_of (fun (h : _ ∧ _ ∧ _ ∧ _ ∧ _ ∧ _) => ⟨inv_of h.1, h.2.1, h.2.2.1, h.2.2.2.1, h.2.2.2.2.1, h.2.2.2.2.2⟩) (by decide +kernel +revert)⟩

theorem witness_SensorFrontEnds :
    (∃ (s : State) (d : Nat), s.Inv ∧ d < 2 ∧ s.on (Reg.ENC_CTRL d) Fld.ENC_CTRL_en = true ∧ (∀ z ∈ (s.drv d).encAt, z + 20 ≤ s.dtb)) ∧
    (∃ (s : State) (d : Nat), s.Inv ∧ d < 2 ∧ s.on (Reg.ENC_CTRL d) Fld.ENC_CTRL_en = true) ∧
    (∃ (s : State) (d : Nat), s.Inv ∧ d < 2 ∧ s.on (Reg.RES_CTRL d) Fld.RES_CTRL_en = true ∧ s.on (Reg.RES_STAT d) Fld.RES_STAT_exc_oc = false) ∧
    (∃ (s : State) (d : Nat) (a : Bool) (b : Bool) (z : Nat), s.Inv ∧ d < 2 ∧ s.on (Reg.ENC_CTRL d) Fld.ENC_CTRL_en = true ∧ (s.drv d).encAt = some z ∧ s.dtb < z + 20 ∧ (quadrature a b + 4 - quadrature (s.drv d).encA (s.drv d).encB) % 4 ≠ 0) := by
  refine ⟨?_, ?_, ?_, ?_⟩
  · let R := quiet
    let d : Nat := 0
    let s : State := (let z := (sets R [(Reg.ENC_CTRL 0, Fld.ENC_CTRL_en, 1), (Reg.ENC_CTRL 0, Fld.ENC_CTRL_dir, 0), (Reg.ENC_CTRL 0, Fld.ENC_CTRL_cpr, 4096)]); { z with drives := z.drives.modify 0 (fun x => { x with encAt := none }) })
    exact ⟨s, d, holds_of (fun (h : _ ∧ _ ∧ _ ∧ _) => ⟨inv_of h.1, h.2.1, h.2.2.1, h.2.2.2⟩) (by decide +kernel +revert)⟩
  · let R := quiet
    let d : Nat := 0
    let s : State := (sets R [(Reg.ENC_CTRL 0, Fld.ENC_CTRL_en, 1), (Reg.ENC_CTRL 0, Fld.ENC_CTRL_zen, 0), (Reg.ENC_CNT 0, Fld.ENC_CNT_cnt, 63)])
    exact ⟨s, d, holds_of (fun (h : _ ∧ _ ∧ _) => ⟨inv_of h.1, h.2.1, h.2.2⟩) (by decide +kernel +revert)⟩
  · let R := quiet
    let d : Nat := 0
    let s : State := (sets R [(Reg.RES_CTRL 0, Fld.RES_CTRL_en, 1), (Reg.RES_STAT 0, Fld.RES_STAT_exc_oc, 0)])
    exact ⟨s, d, holds_of (fun (h : _ ∧ _ ∧ _ ∧ _) => ⟨inv_of h.1, h.2.1, h.2.2.1, h.2.2.2⟩) (by decide +kernel +revert)⟩
  · let R := quiet
    let d : Nat := 1
    let a : Bool := true
    let b : Bool := false
    let z : Nat := R.dtb
    let s : State := (let z := (sets R [(Reg.ENC_CTRL 1, Fld.ENC_CTRL_en, 1)]); { z with drives := z.drives.modify 1 (fun x => { x with encAt := some R.dtb, encA := false, encB := false }) })
    exact ⟨s, d, a, b, z, holds_of (fun (h : _ ∧ _ ∧ _ ∧ _ ∧ _ ∧ _) => ⟨inv_of h.1, h.2.1, h.2.2.1, h.2.2.2.1, h.2.2.2.2.1, h.2.2.2.2.2⟩) (by decide +kernel +revert)⟩

theorem witness_InletMachine :
    (∃ (s : State), s.Inv ∧ s.hasCharger = true ∧ s.teamRuns 1 = true ∧ (∀ i, i ∈ [0x100, 0x103, 0x105, 0x106, 0x107, 0x200, 0x201] → s.Publishes (csig i)) ∧ s.writable (csig 0x302) = true ∧ s.domainOn 3 = true ∧ s.on Reg.INL_CTRL Fld.INL_CTRL_en = true) ∧
    (∃ (s : State) (pos : Int) (held : Nat), s.Inv ∧ s.hasCharger = true ∧ s.teamRuns 1 = true ∧ (∀ i, i ∈ [0x100, 0x103, 0x105, 0x106, 0x107, 0x200, 0x201] → s.Publishes (csig i)) ∧ s.writable (csig 0x302) = true ∧ s.domainOn 3 = true ∧ s.on Reg.INL_CTRL Fld.INL_CTRL_en = true ∧ (if noBand pos then 40000000 else if s.oscRefresh.osc then 4 * s.oscRefresh.fld Reg.INL_CPPER Fld.INL_CPPER_cnt else 800000) ≤ held) ∧
    (∃ (s : State) (ohm : Nat), s.Inv ∧ s.hasCharger = true ∧ s.teamRuns 1 = true ∧ (∀ i, i ∈ [0x100, 0x103, 0x105, 0x106, 0x107, 0x200, 0x201] → s.Publishes (csig i)) ∧ s.writable (csig 0x302) = true ∧ s.domainOn 3 = true ∧ (cableOf s.ppStd ohm).isSome = true) ∧
    (∃ (s : State) (ohm : Nat), s.Inv ∧ s.hasCharger = true ∧ s.teamRuns 1 = true ∧ (∀ i, i ∈ [0x100, 0x103, 0x105, 0x106, 0x107, 0x200, 0x201] → s.Publishes (csig i)) ∧ s.writable (csig 0x302) = true ∧ s.domainOn 3 = true ∧ (cableOf s.ppStd ohm).isSome = false ∧ cableUnknown s.ppStd ohm = false) ∧
    (∃ (s : State) (ms : Nat), s.Inv ∧ s.hasCharger = true ∧ s.teamRuns 1 = true ∧ (∀ i, i ∈ [0x100, 0x103, 0x105, 0x106, 0x107, 0x200, 0x201] → s.Publishes (csig i)) ∧ s.writable (csig 0x302) = true ∧ s.inletState = inDetect ∧ s.sourceSeen = true ∧ 3000 ≤ ms) ∧
    (∃ (s : State) (ms : Nat), s.Inv ∧ s.hasCharger = true ∧ s.teamRuns 1 = true ∧ (∀ i, i ∈ [0x100, 0x103, 0x105, 0x106, 0x107, 0x200, 0x201] → s.Publishes (csig i)) ∧ s.writable (csig 0x302) = true ∧ s.inletState = inReady ∧ s.q15 (csig 0x102) = 0 ∧ 1000 ≤ ms) ∧
    (∃ (s : State), s.Inv ∧ s.hasCharger = true ∧ s.teamRuns 1 = true ∧ (∀ i, i ∈ [0x100, 0x103, 0x105, 0x106, 0x107, 0x200, 0x201] → s.Publishes (csig i)) ∧ s.writable (csig 0x302) = true ∧ s.inletState = inReady ∧ s.modeNow = modeCharge ∧ s.fld Reg.INL_CTRL Fld.INL_CTRL_role = 0 ∧ s.chState 0 = chQualify) ∧
    (∃ (s : State) (v1 : Nat) (v2 : Nat) (v3 : Nat) (f : Nat) (a2 : Int) (a3 : Int) (ms : Nat), s.Inv ∧ s.hasCharger = true ∧ s.teamRuns 1 = true ∧ (∀ i, i ∈ [0x100, 0x103, 0x105, 0x106, 0x107, 0x200, 0x201] → s.Publishes (csig i)) ∧ s.writable (csig 0x302) = true ∧ s.inletState = inEnergize ∧ 100 ≤ ms ∧ phaseConfig { v1 := v1, v2 := v2, v3 := v3, f := f, a2 := a2, a3 := a3 } ≠ 4) ∧
    (∃ (s : State), s.Inv ∧ s.hasCharger = true ∧ s.teamRuns 1 = true ∧ (∀ i, i ∈ [0x100, 0x103, 0x105, 0x106, 0x107, 0x200, 0x201] → s.Publishes (csig i)) ∧ s.writable (csig 0x302) = true ∧ s.inletState = inEnergize) ∧
    (∃ (s : State) (ac : Bool) (ms : Nat), s.Inv ∧ s.hasCharger = true ∧ s.teamRuns 1 = true ∧ (∀ i, i ∈ [0x100, 0x103, 0x105, 0x106, 0x107, 0x200, 0x201] → s.Publishes (csig i)) ∧ s.writable (csig 0x302) = true ∧ s.inletState = inRun ∧ ((s.val (csig 0x100) ≠ pilotC ∧ 100 ≤ ms) ∨ (ac = true ∧ s.lawOn 4 0 = true ∧ s.writable (csig 0x114) = true ∧ ∀ x ∈ s.inlet.openAt, x + 1200000000 ≤ s.dtb))) ∧
    (∃ (s : State) (us : Nat), s.Inv ∧ s.hasCharger = true ∧ s.teamRuns 1 = true ∧ (∀ i, i ∈ [0x100, 0x103, 0x105, 0x106, 0x107, 0x200, 0x201] → s.Publishes (csig i)) ∧ s.writable (csig 0x302) = true ∧ s.inletState = inHandover ∧ (1000 ≤ us ∨ s.val (sid 3 0x30) ≠ 1 ∨ s.chState 0 = chSourceHold) ∧ s.dtb ≤ msEnd s.inlet.handAt 4) ∧
    (∃ (s : State), s.Inv ∧ s.hasCharger = true ∧ s.teamRuns 1 = true ∧ (∀ i, i ∈ [0x100, 0x103, 0x105, 0x106, 0x107, 0x200, 0x201] → s.Publishes (csig i)) ∧ s.writable (csig 0x302) = true ∧ s.inletState = inHandover) ∧
    (∃ (s : State), s.Inv ∧ s.hasCharger = true ∧ s.teamRuns 1 = true ∧ (∀ i, i ∈ [0x100, 0x103, 0x105, 0x106, 0x107, 0x200, 0x201] → s.Publishes (csig i)) ∧ s.writable (csig 0x302) = true ∧ s.inletState = inLockout) ∧
    (∃ (s : State), s.Inv ∧ s.hasCharger = true ∧ s.teamRuns 1 = true ∧ (∀ i, i ∈ [0x100, 0x103, 0x105, 0x106, 0x107, 0x200, 0x201] → s.Publishes (csig i)) ∧ s.writable (csig 0x302) = true ∧ s.modeNow ≠ modeCharge ∧ s.inletState = inRun) ∧
    (∃ (s : State), s.Inv ∧ s.hasCharger = true ∧ s.teamRuns 1 = true ∧ (∀ i, i ∈ [0x100, 0x103, 0x105, 0x106, 0x107, 0x200, 0x201] → s.Publishes (csig i)) ∧ s.writable (csig 0x302) = true ∧ s.inletState = inSrcFault ∧ (s.cable = false ∨ s.val (csig 0x100) = pilotA)) ∧
    (∃ (s : State) (i : Int) (df : Nat), s.Inv ∧ s.hasCharger = true ∧ s.teamRuns 1 = true ∧ (∀ i, i ∈ [0x100, 0x103, 0x105, 0x106, 0x107, 0x200, 0x201] → s.Publishes (csig i)) ∧ s.writable (csig 0x302) = true ∧ s.inletState = inRun ∧ 500 < df) ∧
    (∃ (s : State), s.Inv ∧ s.hasCharger = true ∧ s.teamRuns 1 = true ∧ (∀ i, i ∈ [0x100, 0x103, 0x105, 0x106, 0x107, 0x200, 0x201] → s.Publishes (csig i)) ∧ s.writable (csig 0x302) = true ∧ s.modeNow ≠ modeCharge ∧ s.inletState = inEnergize) := by
  refine ⟨?_, ?_, ?_, ?_, ?_, ?_, ?_, ?_, ?_, ?_, ?_, ?_, ?_, ?_, ?_, ?_, ?_⟩
  · let R := quiet
    let s : State := pub ((((fUp (calm R [1, 3]))).setf Reg.INL_CTRL Fld.INL_CTRL_en 1)) [csig 0x100, csig 0x103, csig 0x105, csig 0x106, csig 0x107, csig 0x200, csig 0x201, csig 0x302, csig 0x114]
    exact ⟨s, holds_of (fun (h : _ ∧ _ ∧ _ ∧ _ ∧ _ ∧ _ ∧ _) => ⟨inv_of h.1, h.2.1, h.2.2.1, h.2.2.2.1, h.2.2.2.2.1, h.2.2.2.2.2.1, h.2.2.2.2.2.2⟩) (by decide +kernel +revert)⟩
  · let R := quiet
    let pos : Int := 8500
    let held : Nat := 80000000000
    let s : State := pub ((((fUp (calm R [1, 3]))).setf Reg.INL_CTRL Fld.INL_CTRL_en 1)) [csig 0x100, csig 0x103, csig 0x105, csig 0x106, csig 0x107, csig 0x200, csig 0x201, csig 0x302, csig 0x114]
    exact ⟨s, pos, held, holds_of (fun (h : _ ∧ _ ∧ _ ∧ _ ∧ _ ∧ _ ∧ _ ∧ _) => ⟨inv_of h.1, h.2.1, h.2.2.1, h.2.2.2.1, h.2.2.2.2.1, h.2.2.2.2.2.1, h.2.2.2.2.2.2.1, h.2.2.2.2.2.2.2⟩) (by decide +kernel +revert)⟩
  · let R := quiet
    let ohm : Nat := 999
    let s : State := pub ((sv ((fUp (calm R [1, 3]))) (csig 0x107) 0).setf Reg.INL_CTRL Fld.INL_CTRL_ppstd 0) [csig 0x100, csig 0x103, csig 0x105, csig 0x106, csig 0x107, csig 0x200, csig 0x201, csig 0x302, csig 0x114]
    exact ⟨s, ohm, holds_of (fun (h : _ ∧ _ ∧ _ ∧ _ ∧ _ ∧ _ ∧ _) => ⟨inv_of h.1, h.2.1, h.2.2.1, h.2.2.2.1, h.2.2.2.2.1, h.2.2.2.2.2.1, h.2.2.2.2.2.2⟩) (by decide +kernel +revert)⟩
  · let R := quiet
    let ohm : Nat := 4001
    let s : State := pub (((sv ((fUp (calm R [1, 3]))) (csig 0x107) 4)).setf Reg.INL_CTRL Fld.INL_CTRL_ppstd 0) [csig 0x100, csig 0x103, csig 0x105, csig 0x106, csig 0x107, csig 0x200, csig 0x201, csig 0x302, csig 0x114]
    exact ⟨s, ohm, holds_of (fun (h : _ ∧ _ ∧ _ ∧ _ ∧ _ ∧ _ ∧ _ ∧ _) => ⟨inv_of h.1, h.2.1, h.2.2.1, h.2.2.2.1, h.2.2.2.2.1, h.2.2.2.2.2.1, h.2.2.2.2.2.2.1, h.2.2.2.2.2.2.2⟩) (by decide +kernel +revert)⟩
  · let R := quiet
    let ms : Nat := 3000
    let s : State := pub ((let z := (sv ((sv ((sv ((fUp (calm R [1, 3]))) (csig 0x107) 1)) (csig 0x100) 1)) (csig 0x102) 256); { z with inlet := { z.inlet with classed := false } })) [csig 0x100, csig 0x103, csig 0x105, csig 0x106, csig 0x107, csig 0x200, csig 0x201, csig 0x302, csig 0x114]
    exact ⟨s, ms, holds_of (fun (h : _ ∧ _ ∧ _ ∧ _ ∧ _ ∧ _ ∧ _ ∧ _) => ⟨inv_of h.1, h.2.1, h.2.2.1, h.2.2.2.1, h.2.2.2.2.1, h.2.2.2.2.2.1, h.2.2.2.2.2.2.1, h.2.2.2.2.2.2.2⟩) (by decide +kernel +revert)⟩
  · let R := quiet
    let ms : Nat := 1000
    let s : State := pub ((sv ((sv ((fUp (calm R [1, 3]))) (csig 0x107) 2)) (csig 0x102) 0)) [csig 0x100, csig 0x103, csig 0x105, csig 0x106, csig 0x107, csig 0x200, csig 0x201, csig 0x302, csig 0x114]
    exact ⟨s, ms, holds_of (fun (h : _ ∧ _ ∧ _ ∧ _ ∧ _ ∧ _ ∧ _ ∧ _) => ⟨inv_of h.1, h.2.1, h.2.2.1, h.2.2.2.1, h.2.2.2.2.1, h.2.2.2.2.2.1, h.2.2.2.2.2.2.1, h.2.2.2.2.2.2.2⟩) (by decide +kernel +revert)⟩
  · let R := quiet
    let s : State := pub (((sv ((sv ((sv ((fUp (calm R [1, 3]))) (csig 0x107) 2)) (sigMode) 3)) (chargeSig 0) 1)).setf Reg.INL_CTRL Fld.INL_CTRL_role 0) [csig 0x100, csig 0x103, csig 0x105, csig 0x106, csig 0x107, csig 0x200, csig 0x201, csig 0x302, csig 0x114]
    exact ⟨s, holds_of (fun (h : _ ∧ _ ∧ _ ∧ _ ∧ _ ∧ _ ∧ _ ∧ _ ∧ _) => ⟨inv_of h.1, h.2.1, h.2.2.1, h.2.2.2.1, h.2.2.2.2.1, h.2.2.2.2.2.1, h.2.2.2.2.2.2.1, h.2.2.2.2.2.2.2.1, h.2.2.2.2.2.2.2.2⟩) (by decide +kernel +revert)⟩
  · let R := quiet
    let v1 : Nat := 230000
    let v2 : Nat := 0
    let v3 : Nat := 0
    let f : Nat := 50000
    let a2 : Int := 0
    let a3 : Int := 0
    let ms : Nat := 100
    let s : State := pub ((sv ((fUp (calm R [1, 3]))) (csig 0x107) 3)) [csig 0x100, csig 0x103, csig 0x105, csig 0x106, csig 0x107, csig 0x200, csig 0x201, csig 0x302, csig 0x114]
    exact ⟨s, v1, v2, v3, f, a2, a3, ms, holds_of (fun (h : _ ∧ _ ∧ _ ∧ _ ∧ _ ∧ _ ∧ _ ∧ _) => ⟨inv_of h.1, h.2.1, h.2.2.1, h.2.2.2.1, h.2.2.2.2.1, h.2.2.2.2.2.1, h.2.2.2.2.2.2.1, h.2.2.2.2.2.2.2⟩) (by decide +kernel +revert)⟩
  · let R := quiet
    let s : State := pub ((sv ((fUp (calm R [1, 3]))) (csig 0x107) 3)) [csig 0x100, csig 0x103, csig 0x105, csig 0x106, csig 0x107, csig 0x200, csig 0x201, csig 0x302, csig 0x114]
    exact ⟨s, holds_of (fun (h : _ ∧ _ ∧ _ ∧ _ ∧ _ ∧ _) => ⟨inv_of h.1, h.2.1, h.2.2.1, h.2.2.2.1, h.2.2.2.2.1, h.2.2.2.2.2⟩) (by decide +kernel +revert)⟩
  · let R := quiet
    let ms : Nat := 100
    let ac : Bool := false
    let s : State := pub ((sv ((sv ((fUp (calm R [1, 3]))) (csig 0x107) 4)) (csig 0x100) 1)) [csig 0x100, csig 0x103, csig 0x105, csig 0x106, csig 0x107, csig 0x200, csig 0x201, csig 0x302, csig 0x114]
    exact ⟨s, ac, ms, holds_of (fun (h : _ ∧ _ ∧ _ ∧ _ ∧ _ ∧ _ ∧ _) => ⟨inv_of h.1, h.2.1, h.2.2.1, h.2.2.2.1, h.2.2.2.2.1, h.2.2.2.2.2.1, h.2.2.2.2.2.2⟩) (by decide +kernel +revert)⟩
  · let R := quiet
    let us : Nat := 1000
    let s : State := pub ((let z := (sv ((fUp (calm R [1, 3]))) (csig 0x107) 5); { z with inlet := { z.inlet with handAt := z.dtb, bounces := [0, 0, 0, 0, 0] } })) [csig 0x100, csig 0x103, csig 0x105, csig 0x106, csig 0x107, csig 0x200, csig 0x201, csig 0x302, csig 0x114]
    exact ⟨s, us, holds_of (fun (h : _ ∧ _ ∧ _ ∧ _ ∧ _ ∧ _ ∧ _ ∧ _) => ⟨inv_of h.1, h.2.1, h.2.2.1, h.2.2.2.1, h.2.2.2.2.1, h.2.2.2.2.2.1, h.2.2.2.2.2.2.1, h.2.2.2.2.2.2.2⟩) (by decide +kernel +revert)⟩
  · let R := quiet
    let s : State := pub ((sv ((fUp (calm R [1, 3]))) (csig 0x107) 5)) [csig 0x100, csig 0x103, csig 0x105, csig 0x106, csig 0x107, csig 0x200, csig 0x201, csig 0x302, csig 0x114]
    exact ⟨s, holds_of (fun (h : _ ∧ _ ∧ _ ∧ _ ∧ _ ∧ _) => ⟨inv_of h.1, h.2.1, h.2.2.1, h.2.2.2.1, h.2.2.2.2.1, h.2.2.2.2.2⟩) (by decide +kernel +revert)⟩
  · let R := quiet
    let s : State := pub ((sv ((sv ((fUp (calm R [1, 3]))) (csig 0x107) 6)) (csig 0x302) 1)) [csig 0x100, csig 0x103, csig 0x105, csig 0x106, csig 0x107, csig 0x200, csig 0x201, csig 0x302, csig 0x114]
    exact ⟨s, holds_of (fun (h : _ ∧ _ ∧ _ ∧ _ ∧ _ ∧ _) => ⟨inv_of h.1, h.2.1, h.2.2.1, h.2.2.2.1, h.2.2.2.2.1, h.2.2.2.2.2⟩) (by decide +kernel +revert)⟩
  · let R := quiet
    let s : State := pub ((sv ((sv ((fUp (calm R [1, 3]))) (csig 0x107) 4)) (sigMode) 1)) [csig 0x100, csig 0x103, csig 0x105, csig 0x106, csig 0x107, csig 0x200, csig 0x201, csig 0x302, csig 0x114]
    exact ⟨s, holds_of (fun (h : _ ∧ _ ∧ _ ∧ _ ∧ _ ∧ _ ∧ _) => ⟨inv_of h.1, h.2.1, h.2.2.1, h.2.2.2.1, h.2.2.2.2.1, h.2.2.2.2.2.1, h.2.2.2.2.2.2⟩) (by decide +kernel +revert)⟩
  · let R := quiet
    let s : State := pub ((sv ((sv ((fUp (calm R [1, 3]))) (csig 0x107) 7)) (csig 0x100) 0)) [csig 0x100, csig 0x103, csig 0x105, csig 0x106, csig 0x107, csig 0x200, csig 0x201, csig 0x302, csig 0x114]
    exact ⟨s, holds_of (fun (h : _ ∧ _ ∧ _ ∧ _ ∧ _ ∧ _ ∧ _) => ⟨inv_of h.1, h.2.1, h.2.2.1, h.2.2.2.1, h.2.2.2.2.1, h.2.2.2.2.2.1, h.2.2.2.2.2.2⟩) (by decide +kernel +revert)⟩
  · let R := quiet
    let i : Int := 10
    let df : Nat := 501
    let s : State := pub ((sv ((fUp (calm R [1, 3]))) (csig 0x107) 4)) [csig 0x100, csig 0x103, csig 0x105, csig 0x106, csig 0x107, csig 0x200, csig 0x201, csig 0x302, csig 0x114]
    exact ⟨s, i, df, holds_of (fun (h : _ ∧ _ ∧ _ ∧ _ ∧ _ ∧ _ ∧ _) => ⟨inv_of h.1, h.2.1, h.2.2.1, h.2.2.2.1, h.2.2.2.2.1, h.2.2.2.2.2.1, h.2.2.2.2.2.2⟩) (by decide +kernel +revert)⟩
  · let R := quiet
    let s : State := pub (sv (sv ((fUp (calm R [1, 3]))) (csig 0x107) 3) (sigMode) 1) [csig 0x100, csig 0x103, csig 0x105, csig 0x106, csig 0x107, csig 0x200, csig 0x201, csig 0x302, csig 0x114]
    exact ⟨s, holds_of (fun (h : _ ∧ _ ∧ _ ∧ _ ∧ _ ∧ _ ∧ _) => ⟨inv_of h.1, h.2.1, h.2.2.1, h.2.2.2.1, h.2.2.2.2.1, h.2.2.2.2.2.1, h.2.2.2.2.2.2⟩) (by decide +kernel +revert)⟩

theorem witness_ChargeMachines :
    (∃ (s : State), s.Inv ∧ s.teamRuns 1 = true ∧ (∀ i, i ∈ [csig 0x200, csig 0x201, lsig 0x200] → s.Publishes i) ∧ (s.chState 0 = chIdle ∨ s.chState 0 = chWait) ∧ s.hvMayCharge = true) ∧
    (∃ (s : State), s.Inv ∧ s.teamRuns 1 = true ∧ (∀ i, i ∈ [csig 0x200, csig 0x201, lsig 0x200] → s.Publishes i) ∧ ((s.chState 1 = chIdle ∧ s.lv.st = lvRun ∧ s.lvProfile < 2) ∨ (s.chState 1 = chWait ∧ s.chSource 1 = true))) ∧
    (∃ (s : State) (m : Nat) (v : Int), s.Inv ∧ s.teamRuns 1 = true ∧ (∀ i, i ∈ [csig 0x200, csig 0x201, lsig 0x200] → s.Publishes i) ∧ m < 2 ∧ s.chState m = chQualify ∧ s.chSource m = true ∧ s.vMin m ≤ v ∧ v ≤ s.vCv m) ∧
    (∃ (s : State) (m : Nat) (v : Int), s.Inv ∧ s.teamRuns 1 = true ∧ (∀ i, i ∈ [csig 0x200, csig 0x201, lsig 0x200] → s.Publishes i) ∧ m < 2 ∧ s.chState m = chQualify ∧ (m = 0 ∨ v < 12288)) ∧
    (∃ (s : State) (m : Nat) (v : Int), s.Inv ∧ s.teamRuns 1 = true ∧ (∀ i, i ∈ [csig 0x200, csig 0x201, lsig 0x200] → s.Publishes i) ∧ m < 2 ∧ s.chState m = chCc ∧ s.vCv m ≤ v) ∧
    (∃ (s : State) (m : Nat) (i : Int), s.Inv ∧ s.teamRuns 1 = true ∧ (∀ i, i ∈ [csig 0x200, csig 0x201, lsig 0x200] → s.Publishes i) ∧ m < 2 ∧ s.chState m = chCv ∧ s.belowTerm m i = true ∧ (s.ch m).termAt = none ∧ (m = 0 ∨ (s.ch 1).tested = true)) ∧
    (∃ (s : State) (m : Nat) (n : Nat), s.Inv ∧ s.teamRuns 1 = true ∧ (∀ i, i ∈ [csig 0x200, csig 0x201, lsig 0x200] → s.Publishes i) ∧ m < 2 ∧ (s.ch m).termAt = some n) ∧
    (∃ (s : State) (m : Nat), s.Inv ∧ s.teamRuns 1 = true ∧ (∀ i, i ∈ [csig 0x200, csig 0x201, lsig 0x200] → s.Publishes i) ∧ m < 2 ∧ s.chState m = chTopoff) ∧
    (∃ (s : State) (m : Nat) (v : Int) (ms : Nat), s.Inv ∧ s.teamRuns 1 = true ∧ (∀ i, i ∈ [csig 0x200, csig 0x201, lsig 0x200] → s.Publishes i) ∧ m < 2 ∧ s.chState m = chDone ∧ v < s.vRecharge m ∧ 10000 ≤ ms ∧ s.chSource m = true) ∧
    (∃ (s : State) (m : Nat), s.Inv ∧ s.teamRuns 1 = true ∧ (∀ i, i ∈ [csig 0x200, csig 0x201, lsig 0x200] → s.Publishes i) ∧ m < 2 ∧ s.chLive m = true ∧ s.chSourceGone m = true) ∧
    (∃ (s : State), s.Inv ∧ s.teamRuns 1 = true ∧ (∀ i, i ∈ [csig 0x200, csig 0x201, lsig 0x200] → s.Publishes i) ∧ s.hasCharger = true ∧ s.chLive 0 = true ∧ (s.chs.hit || isoGens.any (fun g => s.trippedBy g 4) || decide (s.val (sid 3 0x30) = 0)) = true) ∧
    (∃ (s : State), s.Inv ∧ s.teamRuns 1 = true ∧ (∀ i, i ∈ [csig 0x200, csig 0x201, lsig 0x200] → s.Publishes i) ∧ s.hasCharger = true ∧ s.chState 0 = chSourceHold ∧ s.val (sid 3 0x30) = 1 ∧ s.val (csig 0x212) = 1 ∧ (∀ g, g ∈ isoGens → s.tripLines g = 0)) ∧
    (∃ (s : State) (i : Int), s.Inv ∧ s.teamRuns 1 = true ∧ (∀ i, i ∈ [csig 0x200, csig 0x201, lsig 0x200] → s.Publishes i) ∧ s.chState 1 = chCv ∧ (s.ch 1).testAt = none ∧ (s.ch 1).tested = false ∧ s.belowTerm 1 i = true) ∧
    (∃ (s : State) (i : Int) (n : Nat), s.Inv ∧ s.teamRuns 1 = true ∧ (∀ i, i ∈ [csig 0x200, csig 0x201, lsig 0x200] → s.Publishes i) ∧ (s.ch 1).testAt = some n) ∧
    (∃ (s : State), s.Inv ∧ s.teamRuns 1 = true ∧ (∀ i, i ∈ [csig 0x200, csig 0x201, lsig 0x200] → s.Publishes i) ∧ s.hasCharger = true ∧ s.chState 0 ≠ chIdle ∧ s.chState 0 ≠ chFaultSt ∧ (s.modeNow ≠ modeCharge ∨ s.cable = false ∨ s.val (csig 0x212) = 0)) ∧
    (∃ (s : State) (m : Nat), s.Inv ∧ s.teamRuns 1 = true ∧ (∀ i, i ∈ [csig 0x200, csig 0x201, lsig 0x200] → s.Publishes i) ∧ m < 2 ∧ s.chState m = chFaultSt ∧ ((s.ch m).cycled = 2 ∨ (m = 0 ∧ s.cable = false))) ∧
    (∃ (s : State) (i : Int), s.Inv ∧ s.teamRuns 1 = true ∧ (∀ i, i ∈ [csig 0x200, csig 0x201, lsig 0x200] → s.Publishes i) ∧ s.chState 1 = chNoBattery ∧ (s.ch 1).testAt = none) ∧
    (∃ (s : State) (i : Int), s.Inv ∧ s.teamRuns 1 = true ∧ (∀ i, i ∈ [csig 0x200, csig 0x201, lsig 0x200] → s.Publishes i) ∧ s.chState 1 = chCc ∧ (s.ch 1).testAt = none ∧ 10 * i < s.iCc 1) := by
  refine ⟨?_, ?_, ?_, ?_, ?_, ?_, ?_, ?_, ?_, ?_, ?_, ?_, ?_, ?_, ?_, ?_, ?_, ?_⟩
  · let R := quiet
    let s : State := pub (sv (sv (sv (sv (chAt R 0 6) sigMode 3) (csig 0x107) 2) (sid 3 0x30) 1) (csig 0x212) 1) [csig 0x200, csig 0x201, lsig 0x200]
    exact ⟨s, holds_of (fun (h : _ ∧ _ ∧ _ ∧ _ ∧ _) => ⟨inv_of h.1, h.2.1, h.2.2.1, h.2.2.2.1, h.2.2.2.2⟩) (by decide +kernel +revert)⟩
  · let R := quiet
    let s : State := pub ({ chAt R 1 0 with lv := { R.lv with st := lvRun }, charge := [R.ch 0, { R.ch 1 with profile := 1 }] }) [csig 0x200, csig 0x201, lsig 0x200]
    exact ⟨s, holds_of (fun (h : _ ∧ _ ∧ _ ∧ _) => ⟨inv_of h.1, h.2.1, h.2.2.1, h.2.2.2⟩) (by decide +kernel +revert)⟩
  · let R := quiet
    let m : Nat := 0
    let v : Int := 6400
    let s : State := pub (sv (sv (sv (chAt R 0 1) (csig 0x107) 4) (csig 0x210) 6400) (csig 0x211) 100) [csig 0x200, csig 0x201, lsig 0x200]
    exact ⟨s, m, v, holds_of (fun (h : _ ∧ _ ∧ _ ∧ _ ∧ _ ∧ _ ∧ _ ∧ _) => ⟨inv_of h.1, h.2.1, h.2.2.1, h.2.2.2.1, h.2.2.2.2.1, h.2.2.2.2.2.1, h.2.2.2.2.2.2.1, h.2.2.2.2.2.2.2⟩) (by decide +kernel +revert)⟩
  · let R := quiet
    let m : Nat := 1
    let v : Int := 12287
    let s : State := pub (chAt R 1 1) [csig 0x200, csig 0x201, lsig 0x200]
    exact ⟨s, m, v, holds_of (fun (h : _ ∧ _ ∧ _ ∧ _ ∧ _ ∧ _) => ⟨inv_of h.1, h.2.1, h.2.2.1, h.2.2.2.1, h.2.2.2.2.1, h.2.2.2.2.2⟩) (by decide +kernel +revert)⟩
  · let R := quiet
    let m : Nat := 0
    let v : Int := 6400
    let s : State := pub (sv (chAt R 0 2) (csig 0x210) 6400) [csig 0x200, csig 0x201, lsig 0x200]
    exact ⟨s, m, v, holds_of (fun (h : _ ∧ _ ∧ _ ∧ _ ∧ _ ∧ _) => ⟨inv_of h.1, h.2.1, h.2.2.1, h.2.2.2.1, h.2.2.2.2.1, h.2.2.2.2.2⟩) (by decide +kernel +revert)⟩
  · let R := quiet
    let m : Nat := 1
    let i : Int := 0
    let s : State := pub ({ chAt R 1 3 with charge := [R.ch 0, { R.ch 1 with termAt := none, tested := true }] }) [csig 0x200, csig 0x201, lsig 0x200]
    exact ⟨s, m, i, holds_of (fun (h : _ ∧ _ ∧ _ ∧ _ ∧ _ ∧ _ ∧ _ ∧ _) => ⟨inv_of h.1, h.2.1, h.2.2.1, h.2.2.2.1, h.2.2.2.2.1, h.2.2.2.2.2.1, h.2.2.2.2.2.2.1, h.2.2.2.2.2.2.2⟩) (by decide +kernel +revert)⟩
  · let R := quiet
    let m : Nat := 0
    let n : Nat := 77
    let s : State := pub ({ fUp R with charge := [{ R.ch 0 with termAt := some 77 }, R.ch 1] }) [csig 0x200, csig 0x201, lsig 0x200]
    exact ⟨s, m, n, holds_of (fun (h : _ ∧ _ ∧ _ ∧ _ ∧ _) => ⟨inv_of h.1, h.2.1, h.2.2.1, h.2.2.2.1, h.2.2.2.2⟩) (by decide +kernel +revert)⟩
  · let R := quiet
    let m : Nat := 1
    let s : State := pub (chAt R 1 4) [csig 0x200, csig 0x201, lsig 0x200]
    exact ⟨s, m, holds_of (fun (h : _ ∧ _ ∧ _ ∧ _ ∧ _) => ⟨inv_of h.1, h.2.1, h.2.2.1, h.2.2.2.1, h.2.2.2.2⟩) (by decide +kernel +revert)⟩
  · let R := quiet
    let m : Nat := 1
    let v : Int := 12901
    let ms : Nat := 10000
    let s : State := pub ({ (chAt R 1 5).setf Reg.LVC_STAT Fld.LVC_STAT_pg 1 with lv := { R.lv with st := lvRun }, charge := [R.ch 0, { R.ch 1 with profile := 1 }] }) [csig 0x200, csig 0x201, lsig 0x200]
    exact ⟨s, m, v, ms, holds_of (fun (h : _ ∧ _ ∧ _ ∧ _ ∧ _ ∧ _ ∧ _ ∧ _) => ⟨inv_of h.1, h.2.1, h.2.2.1, h.2.2.2.1, h.2.2.2.2.1, h.2.2.2.2.2.1, h.2.2.2.2.2.2.1, h.2.2.2.2.2.2.2⟩) (by decide +kernel +revert)⟩
  · let R := quiet
    let m : Nat := 0
    let s : State := pub (sv (chAt R 0 2) (csig 0x107) 0) [csig 0x200, csig 0x201, lsig 0x200]
    exact ⟨s, m, holds_of (fun (h : _ ∧ _ ∧ _ ∧ _ ∧ _ ∧ _) => ⟨inv_of h.1, h.2.1, h.2.2.1, h.2.2.2.1, h.2.2.2.2.1, h.2.2.2.2.2⟩) (by decide +kernel +revert)⟩
  · let R := quiet
    let s : State := pub (sv (chAt R 0 1) (sid 3 0x30) 0) [csig 0x200, csig 0x201, lsig 0x200]
    exact ⟨s, holds_of (fun (h : _ ∧ _ ∧ _ ∧ _ ∧ _ ∧ _) => ⟨inv_of h.1, h.2.1, h.2.2.1, h.2.2.2.1, h.2.2.2.2.1, h.2.2.2.2.2⟩) (by decide +kernel +revert)⟩
  · let R := quiet
    let s : State := pub ((isoGens.foldl (fun s g => s.wr (Reg.PWM_TRIPM g) 0) (sv (sv (chAt R 0 7) (sid 3 0x30) 1) (csig 0x212) 1))) [csig 0x200, csig 0x201, lsig 0x200]
    exact ⟨s, holds_of (fun (h : _ ∧ _ ∧ _ ∧ _ ∧ _ ∧ _ ∧ _ ∧ _) => ⟨inv_of h.1, h.2.1, h.2.2.1, h.2.2.2.1, h.2.2.2.2.1, h.2.2.2.2.2.1, h.2.2.2.2.2.2.1, h.2.2.2.2.2.2.2⟩) (by decide +kernel +revert)⟩
  · let R := quiet
    let i : Int := 0
    let s : State := pub ({ chAt R 1 3 with charge := [R.ch 0, { R.ch 1 with testAt := none, tested := false }] }) [csig 0x200, csig 0x201, lsig 0x200]
    exact ⟨s, i, holds_of (fun (h : _ ∧ _ ∧ _ ∧ _ ∧ _ ∧ _ ∧ _) => ⟨inv_of h.1, h.2.1, h.2.2.1, h.2.2.2.1, h.2.2.2.2.1, h.2.2.2.2.2.1, h.2.2.2.2.2.2⟩) (by decide +kernel +revert)⟩
  · let R := quiet
    let i : Int := 500
    let n : Nat := 3
    let s : State := pub ({ fUp R with charge := [R.ch 0, { R.ch 1 with testAt := some 3, testI := 10 }] }) [csig 0x200, csig 0x201, lsig 0x200]
    exact ⟨s, i, n, holds_of (fun (h : _ ∧ _ ∧ _ ∧ _) => ⟨inv_of h.1, h.2.1, h.2.2.1, h.2.2.2⟩) (by decide +kernel +revert)⟩
  · let R := quiet
    let s : State := pub (sv (chAt R 0 8) sigMode 0) [csig 0x200, csig 0x201, lsig 0x200]
    exact ⟨s, holds_of (fun (h : _ ∧ _ ∧ _ ∧ _ ∧ _ ∧ _ ∧ _) => ⟨inv_of h.1, h.2.1, h.2.2.1, h.2.2.2.1, h.2.2.2.2.1, h.2.2.2.2.2.1, h.2.2.2.2.2.2⟩) (by decide +kernel +revert)⟩
  · let R := quiet
    let m : Nat := 1
    let s : State := pub ({ chAt R 1 9 with charge := [R.ch 0, { R.ch 1 with cycled := 2 }] }) [csig 0x200, csig 0x201, lsig 0x200]
    exact ⟨s, m, holds_of (fun (h : _ ∧ _ ∧ _ ∧ _ ∧ _ ∧ _) => ⟨inv_of h.1, h.2.1, h.2.2.1, h.2.2.2.1, h.2.2.2.2.1, h.2.2.2.2.2⟩) (by decide +kernel +revert)⟩
  · let R := quiet
    let i : Int := 5
    let s : State := pub ({ chAt R 1 8 with charge := [R.ch 0, { R.ch 1 with testAt := none }] }) [csig 0x200, csig 0x201, lsig 0x200]
    exact ⟨s, i, holds_of (fun (h : _ ∧ _ ∧ _ ∧ _ ∧ _) => ⟨inv_of h.1, h.2.1, h.2.2.1, h.2.2.2.1, h.2.2.2.2⟩) (by decide +kernel +revert)⟩
  · let R := quiet
    let i : Int := -5
    let s : State := pub ({ chAt R 1 2 with charge := [R.ch 0, { R.ch 1 with testAt := none }] }) [csig 0x200, csig 0x201, lsig 0x200]
    exact ⟨s, i, holds_of (fun (h : _ ∧ _ ∧ _ ∧ _ ∧ _ ∧ _) => ⟨inv_of h.1, h.2.1, h.2.2.1, h.2.2.2.1, h.2.2.2.2.1, h.2.2.2.2.2⟩) (by decide +kernel +revert)⟩

theorem witness_SupplyAndSolar :
    (∃ (s : State), s.Inv ∧ s.hasCharger = true ∧ s.teamRuns 1 = true ∧ (∀ i, i ∈ [csig 0x100, csig 0x103, csig 0x200, csig 0x402, solsig 0x200] → s.Publishes i) ∧ s.modeNow = modeSupply ∧ 1 ≤ s.supplyKind ∧ s.supplyKind ≤ 3 ∧ s.supplyState = supOff ∧ s.val (csig 0x213) = 1 ∧ s.cable = true) ∧
    (∃ (s : State) (ms : Nat), s.Inv ∧ s.hasCharger = true ∧ s.teamRuns 1 = true ∧ (∀ i, i ∈ [csig 0x100, csig 0x103, csig 0x200, csig 0x402, solsig 0x200] → s.Publishes i) ∧ s.modeNow = modeSupply ∧ s.supplyState = supRun ∧ (200 ≤ ms ∨ s.val (csig 0x213) = 0)) ∧
    (∃ (s : State) (ohm : Nat), s.Inv ∧ s.hasCharger = true ∧ s.teamRuns 1 = true ∧ (∀ i, i ∈ [csig 0x100, csig 0x103, csig 0x200, csig 0x402, solsig 0x200] → s.Publishes i) ∧ (cableOf s.ppStd ohm).isSome = false ∧ cableUnknown s.ppStd ohm = false) ∧
    (∃ (s : State) (periods : Nat), s.Inv ∧ s.hasCharger = true ∧ s.teamRuns 1 = true ∧ (∀ i, i ∈ [csig 0x100, csig 0x103, csig 0x200, csig 0x402, solsig 0x200] → s.Publishes i) ∧ s.modeNow = modeSupply ∧ (s.supplyKind = 4 ∨ s.supplyKind = 5) ∧ 2 ≤ periods ∧ s.supplyState ≠ supFault ∧ s.lawOwned 33 = false) ∧
    (∃ (s : State) (ms : Nat), s.Inv ∧ s.hasCharger = true ∧ s.teamRuns 1 = true ∧ (∀ i, i ∈ [csig 0x100, csig 0x103, csig 0x200, csig 0x402, solsig 0x200] → s.Publishes i) ∧ s.modeNow = modeStandby ∧ s.fld Reg.INL_CTRL Fld.INL_CTRL_role = 1 ∧ s.on Reg.INL_CTRL Fld.INL_CTRL_probe = true ∧ s.running 33 = false ∧ s.val (csig 0x100) = pilotB ∧ 100 ≤ ms) ∧
    (∃ (s : State) (ms : Nat), s.Inv ∧ s.hasCharger = true ∧ s.teamRuns 1 = true ∧ (∀ i, i ∈ [csig 0x100, csig 0x103, csig 0x200, csig 0x402, solsig 0x200] → s.Publishes i) ∧ s.solState = solOff ∧ s.qty (solsig 0x301) 15360 ≤ s.q15 (solsig 0x100) ∧ 10000 ≤ ms ∧ s.running 23 = false ∧ s.stagesAllowed [8] = true) ∧
    (∃ (s : State), s.Inv ∧ s.hasCharger = true ∧ s.teamRuns 1 = true ∧ (∀ i, i ∈ [csig 0x100, csig 0x103, csig 0x200, csig 0x402, solsig 0x200] → s.Publishes i) ∧ s.solState ≠ solOff ∧ s.q15 (solsig 0x100) < 5120) ∧
    (∃ (s : State) (n : Nat), s.Inv ∧ s.hasCharger = true ∧ s.teamRuns 1 = true ∧ (∀ i, i ∈ [csig 0x100, csig 0x103, csig 0x200, csig 0x402, solsig 0x200] → s.Publishes i) ∧ s.solar.stopAt = some n) ∧
    (∃ (s : State), s.Inv ∧ s.hasCharger = true ∧ s.teamRuns 1 = true ∧ (∀ i, i ∈ [csig 0x100, csig 0x103, csig 0x200, csig 0x402, solsig 0x200] → s.Publishes i) ∧ s.solState = solTrack ∧ s.solar.stopAt = none) ∧
    (∃ (s : State), s.Inv ∧ s.hasCharger = true ∧ s.teamRuns 1 = true ∧ (∀ i, i ∈ [csig 0x100, csig 0x103, csig 0x200, csig 0x402, solsig 0x200] → s.Publishes i) ∧ s.solState = solCurtail ∧ s.solar.stopAt = none ∧ s.ib < s.qty (solsig 0x303) 20480) ∧
    (∃ (s : State), s.Inv ∧ s.hasCharger = true ∧ s.teamRuns 1 = true ∧ (∀ i, i ∈ [csig 0x100, csig 0x103, csig 0x200, csig 0x402, solsig 0x200] → s.Publishes i) ∧ s.solState = solTrack ∧ s.solar.stopAt = none) ∧
    (∃ (s : State), s.Inv ∧ s.hasCharger = true ∧ s.teamRuns 1 = true ∧ (∀ i, i ∈ [csig 0x100, csig 0x103, csig 0x200, csig 0x402, solsig 0x200] → s.Publishes i) ∧ s.solState = solScan ∧ s.solar.stopAt = none) ∧
    (∃ (s : State) (ms : Nat), s.Inv ∧ s.hasCharger = true ∧ s.teamRuns 1 = true ∧ (∀ i, i ∈ [csig 0x100, csig 0x103, csig 0x200, csig 0x402, solsig 0x200] → s.Publishes i) ∧ s.solState ≠ solOff ∧ s.transferAllowed = true ∧ s.qty (solsig 0x304) 19968 < s.ib ∧ 100 ≤ ms ∧ s.solar.transfer = false) ∧
    (∃ (s : State) (ms : Nat), s.Inv ∧ s.hasCharger = true ∧ s.teamRuns 1 = true ∧ (∀ i, i ∈ [csig 0x100, csig 0x103, csig 0x200, csig 0x402, solsig 0x200] → s.Publishes i) ∧ s.solar.transfer = true ∧ 10000 ≤ ms) ∧
    (∃ (s : State), s.Inv ∧ s.hasCharger = true ∧ s.teamRuns 1 = true ∧ (∀ i, i ∈ [csig 0x100, csig 0x103, csig 0x200, csig 0x402, solsig 0x200] → s.Publishes i) ∧ (s.solState = solTrack ∨ s.solState = solScan) ∧ s.solar.stopAt = none ∧ s.qty (solsig 0x303) 20480 ≤ s.ib) := by
  refine ⟨?_, ?_, ?_, ?_, ?_, ?_, ?_, ?_, ?_, ?_, ?_, ?_, ?_, ?_, ?_⟩
  · let R := quiet
    let s : State := pub (([6, 7, 8, 9].foldl (fun s g => sets (s.wr (Reg.PWM_PER g) 4000) [(Reg.PWM_CTRL g, Fld.PWM_CTRL_mode, 1), (Reg.PWM_CTRL g, Fld.PWM_CTRL_pre, 0), (Reg.PWM_CTRL g, Fld.PWM_CTRL_ld, 3)]) ([10, 11, 12, 13].foldl (fun s g => (sets (s.wr (Reg.PWM_PER g) 4000) [(Reg.PWM_CTRL g, Fld.PWM_CTRL_mode, 0), (Reg.PWM_CTRL g, Fld.PWM_CTRL_pre, 0), (Reg.PWM_CTRL g, Fld.PWM_CTRL_asym, 1), (Reg.PWM_SYNC g, Fld.PWM_SYNC_en, 1), (Reg.PWM_SYNC g, Fld.PWM_SYNC_gen, 10), (Reg.PWM_PHS g, Fld.PWM_PHS_phs, if g % 2 = 1 then 2000 else 0)]).wr (Reg.PWM_CMPA g) 128000) (sv (sv (sv (sv (sv (sv (fUp R) (sigMode) 4) (sigPhase) 0) (csig 0x400) 1) (csig 0x402) 0) (csig 0x213) 1) (csig 0x103) 1500))).setf Reg.INL_CTRL Fld.INL_CTRL_ppstd 0) [csig 0x100, csig 0x103, csig 0x200, csig 0x402, solsig 0x200]
    exact ⟨s, holds_of (fun (h : _ ∧ _ ∧ _ ∧ _ ∧ _ ∧ _ ∧ _ ∧ _ ∧ _ ∧ _) => ⟨inv_of h.1, h.2.1, h.2.2.1, h.2.2.2.1, h.2.2.2.2.1, h.2.2.2.2.2.1, h.2.2.2.2.2.2.1, h.2.2.2.2.2.2.2.1, h.2.2.2.2.2.2.2.2.1, h.2.2.2.2.2.2.2.2.2⟩) (by decide +kernel +revert)⟩
  · let R := quiet
    let ms : Nat := 200
    let s : State := pub ((sv (sv (sv (sv (sv (fUp R) (sigMode) 4) (sigPhase) 0) (csig 0x402) 1) (csig 0x400) 1) (csig 0x213) 1)) [csig 0x100, csig 0x103, csig 0x200, csig 0x402, solsig 0x200]
    exact ⟨s, ms, holds_of (fun (h : _ ∧ _ ∧ _ ∧ _ ∧ _ ∧ _ ∧ _) => ⟨inv_of h.1, h.2.1, h.2.2.1, h.2.2.2.1, h.2.2.2.2.1, h.2.2.2.2.2.1, h.2.2.2.2.2.2⟩) (by decide +kernel +revert)⟩
  · let R := quiet
    let ohm : Nat := 4001
    let s : State := pub ((sv (sv (sv (sv (fUp R) (sigMode) 4) (sigPhase) 0) (csig 0x402) 1) (csig 0x400) 1).setf Reg.INL_CTRL Fld.INL_CTRL_ppstd 0) [csig 0x100, csig 0x103, csig 0x200, csig 0x402, solsig 0x200]
    exact ⟨s, ohm, holds_of (fun (h : _ ∧ _ ∧ _ ∧ _ ∧ _ ∧ _) => ⟨inv_of h.1, h.2.1, h.2.2.1, h.2.2.2.1, h.2.2.2.2.1, h.2.2.2.2.2⟩) (by decide +kernel +revert)⟩
  · let R := quiet
    let periods : Nat := 2
    let s : State := pub ((let z := (sv (sv (sv (sv (fUp R) (sigMode) 4) (sigPhase) 0) (csig 0x402) 1) (csig 0x400) 4).setf (Reg.PWM_STAT 33) Fld.PWM_STAT_lawown 0; { z with supply := { z.supply with live := true } })) [csig 0x100, csig 0x103, csig 0x200, csig 0x402, solsig 0x200]
    exact ⟨s, periods, holds_of (fun (h : _ ∧ _ ∧ _ ∧ _ ∧ _ ∧ _ ∧ _ ∧ _ ∧ _) => ⟨inv_of h.1, h.2.1, h.2.2.1, h.2.2.2.1, h.2.2.2.2.1, h.2.2.2.2.2.1, h.2.2.2.2.2.2.1, h.2.2.2.2.2.2.2.1, h.2.2.2.2.2.2.2.2⟩) (by decide +kernel +revert)⟩
  · let R := quiet
    let ms : Nat := 100
    let s : State := pub ((sets (sv (sv (fUp R) (sigMode) 1) (csig 0x100) 1) [(Reg.INL_CTRL, Fld.INL_CTRL_role, 1), (Reg.INL_CTRL, Fld.INL_CTRL_probe, 1), (Reg.PWM_STAT 33, Fld.PWM_STAT_run, 0)])) [csig 0x100, csig 0x103, csig 0x200, csig 0x402, solsig 0x200]
    exact ⟨s, ms, holds_of (fun (h : _ ∧ _ ∧ _ ∧ _ ∧ _ ∧ _ ∧ _ ∧ _ ∧ _ ∧ _) => ⟨inv_of h.1, h.2.1, h.2.2.1, h.2.2.2.1, h.2.2.2.2.1, h.2.2.2.2.2.1, h.2.2.2.2.2.2.1, h.2.2.2.2.2.2.2.1, h.2.2.2.2.2.2.2.2.1, h.2.2.2.2.2.2.2.2.2⟩) (by decide +kernel +revert)⟩
  · let R := quiet
    let ms : Nat := 10000
    let s : State := pub ((sets (sv (sv (sv (sv (fUp R) (sigMode) 5) (solsig 0x200) 0) (solsig 0x301) 15360) (solsig 0x100) 15360) [(Reg.PWM_STAT 23, Fld.PWM_STAT_run, 0)])) [csig 0x100, csig 0x103, csig 0x200, csig 0x402, solsig 0x200]
    exact ⟨s, ms, holds_of (fun (h : _ ∧ _ ∧ _ ∧ _ ∧ _ ∧ _ ∧ _ ∧ _ ∧ _) => ⟨inv_of h.1, h.2.1, h.2.2.1, h.2.2.2.1, h.2.2.2.2.1, h.2.2.2.2.2.1, h.2.2.2.2.2.2.1, h.2.2.2.2.2.2.2.1, h.2.2.2.2.2.2.2.2⟩) (by decide +kernel +revert)⟩
  · let R := quiet
    let s : State := pub ((sv (sv (fUp R) (solsig 0x200) 2) (solsig 0x100) 5119)) [csig 0x100, csig 0x103, csig 0x200, csig 0x402, solsig 0x200]
    exact ⟨s, holds_of (fun (h : _ ∧ _ ∧ _ ∧ _ ∧ _ ∧ _) => ⟨inv_of h.1, h.2.1, h.2.2.1, h.2.2.2.1, h.2.2.2.2.1, h.2.2.2.2.2⟩) (by decide +kernel +revert)⟩
  · let R := quiet
    let n : Nat := 9
    let s : State := pub ((let z := ((sets (sv (sv (fUp R) (solsig 0x200) 1) (solsig 0x100) 3333) [(Reg.PWM_CTRL 23, Fld.PWM_CTRL_mode, 0), (Reg.PWM_CTRL 23, Fld.PWM_CTRL_pre, 0)]).wr (Reg.PWM_PER 23) 4000); { z with solar := { z.solar with stopAt := some 9 } })) [csig 0x100, csig 0x103, csig 0x200, csig 0x402, solsig 0x200]
    exact ⟨s, n, holds_of (fun (h : _ ∧ _ ∧ _ ∧ _ ∧ _) => ⟨inv_of h.1, h.2.1, h.2.2.1, h.2.2.2.1, h.2.2.2.2⟩) (by decide +kernel +revert)⟩
  · let R := quiet
    let s : State := pub ((let z := (sv (sv (fUp R) (solsig 0x200) 2) (solsig 0x201) 100); { z with solar := { z.solar with stopAt := none, power := 5, up := true, stepAt := 5 } })) [csig 0x100, csig 0x103, csig 0x200, csig 0x402, solsig 0x200]
    exact ⟨s, holds_of (fun (h : _ ∧ _ ∧ _ ∧ _ ∧ _ ∧ _) => ⟨inv_of h.1, h.2.1, h.2.2.1, h.2.2.2.1, h.2.2.2.2.1, h.2.2.2.2.2⟩) (by decide +kernel +revert)⟩
  · let R := quiet
    let s : State := pub ((let z := (sv (sv (sv (fUp R) (solsig 0x200) 4) (lsig 0x100) 20479) (solsig 0x303) 20480); { z with solar := { z.solar with stopAt := none } })) [csig 0x100, csig 0x103, csig 0x200, csig 0x402, solsig 0x200]
    exact ⟨s, holds_of (fun (h : _ ∧ _ ∧ _ ∧ _ ∧ _ ∧ _ ∧ _) => ⟨inv_of h.1, h.2.1, h.2.2.1, h.2.2.2.1, h.2.2.2.2.1, h.2.2.2.2.2.1, h.2.2.2.2.2.2⟩) (by decide +kernel +revert)⟩
  · let R := quiet
    let s : State := pub ((let z := (sv (fUp R) (solsig 0x200) 2); { z with solar := { z.solar with stopAt := none, scanEnd := 5 } })) [csig 0x100, csig 0x103, csig 0x200, csig 0x402, solsig 0x200]
    exact ⟨s, holds_of (fun (h : _ ∧ _ ∧ _ ∧ _ ∧ _ ∧ _) => ⟨inv_of h.1, h.2.1, h.2.2.1, h.2.2.2.1, h.2.2.2.2.1, h.2.2.2.2.2⟩) (by decide +kernel +revert)⟩
  · let R := quiet
    let s : State := pub ((let z := (sv (sv (fUp R) (solsig 0x200) 3) (solsig 0x201) 100); { z with solar := { z.solar with stopAt := none, scanK := 63, bestP := 5 } })) [csig 0x100, csig 0x103, csig 0x200, csig 0x402, solsig 0x200]
    exact ⟨s, holds_of (fun (h : _ ∧ _ ∧ _ ∧ _ ∧ _ ∧ _) => ⟨inv_of h.1, h.2.1, h.2.2.1, h.2.2.2.1, h.2.2.2.2.1, h.2.2.2.2.2⟩) (by decide +kernel +revert)⟩
  · let R := quiet
    let ms : Nat := 100
    let s : State := pub ((let z := (sv (sv (sv (sv (sv (fUp R) (solsig 0x200) 2) (solsig 0x302) 1) (sid 3 0x30) 1) (solsig 0x304) 19968) (lsig 0x100) 19969); { z with solar := { z.solar with transfer := false } })) [csig 0x100, csig 0x103, csig 0x200, csig 0x402, solsig 0x200]
    exact ⟨s, ms, holds_of (fun (h : _ ∧ _ ∧ _ ∧ _ ∧ _ ∧ _ ∧ _ ∧ _ ∧ _) => ⟨inv_of h.1, h.2.1, h.2.2.1, h.2.2.2.1, h.2.2.2.2.1, h.2.2.2.2.2.1, h.2.2.2.2.2.2.1, h.2.2.2.2.2.2.2.1, h.2.2.2.2.2.2.2.2⟩) (by decide +kernel +revert)⟩
  · let R := quiet
    let ms : Nat := 10000
    let s : State := pub ((let z := (sv (fUp R) (solsig 0x200) 2); { z with solar := { z.solar with transfer := true } })) [csig 0x100, csig 0x103, csig 0x200, csig 0x402, solsig 0x200]
    exact ⟨s, ms, holds_of (fun (h : _ ∧ _ ∧ _ ∧ _ ∧ _ ∧ _) => ⟨inv_of h.1, h.2.1, h.2.2.1, h.2.2.2.1, h.2.2.2.2.1, h.2.2.2.2.2⟩) (by decide +kernel +revert)⟩
  · let R := quiet
    let s : State := pub ((let z := (sv (sv (sv (fUp R) (solsig 0x200) 2) (solsig 0x303) 20480) (lsig 0x100) 20480); { z with solar := { z.solar with stopAt := none } })) [csig 0x100, csig 0x103, csig 0x200, csig 0x402, solsig 0x200]
    exact ⟨s, holds_of (fun (h : _ ∧ _ ∧ _ ∧ _ ∧ _ ∧ _ ∧ _) => ⟨inv_of h.1, h.2.1, h.2.2.1, h.2.2.2.1, h.2.2.2.2.1, h.2.2.2.2.2.1, h.2.2.2.2.2.2⟩) (by decide +kernel +revert)⟩

theorem witness_LvStates :
    (∃ (s : State), s.Inv ∧ s.teamRuns 0 = true ∧ s.Publishes (lsig 0x210) ∧ s.Publishes (lsig 0x211) ∧ s.lv.st = lvOff ∧ s.lvRunRequest = true ∧ s.stagesAllowed [6, 7] = true ∧ 50 * 256 ≤ s.ib ∧ s.ib ≤ 83 * 256) ∧
    (∃ (s : State), s.Inv ∧ s.teamRuns 0 = true ∧ s.Publishes (lsig 0x210) ∧ s.Publishes (lsig 0x211) ∧ s.lv.st = lvOff ∧ s.lvRunRequest = true ∧ s.stagesAllowed [6, 7] = true ∧ s.ib < 50 * 256 ∧ s.feedOk = true) ∧
    (∃ (s : State), s.Inv ∧ s.teamRuns 0 = true ∧ s.Publishes (lsig 0x210) ∧ s.Publishes (lsig 0x211) ∧ s.lv.st = lvDcxStart ∧ s.ibGood = true ∧ s.dtb ≤ s.lv.since + cyclesMs 12) ∧
    (∃ (s : State), s.Inv ∧ s.teamRuns 0 = true ∧ s.Publishes (lsig 0x210) ∧ s.Publishes (lsig 0x211) ∧ s.lv.st = lvDcxStart) ∧
    (∃ (s : State), s.Inv ∧ s.teamRuns 0 = true ∧ s.Publishes (lsig 0x210) ∧ s.Publishes (lsig 0x211) ∧ s.lv.st = lvDcxWait) ∧
    (∃ (s : State), s.Inv ∧ s.teamRuns 0 = true ∧ s.Publishes (lsig 0x210) ∧ s.Publishes (lsig 0x211) ∧ s.lv.st = lvCheck ∧ s.on Reg.LVC_CFG Fld.LVC_CFG_compat640 = false ∧ s.buckConfigOk = true) ∧
    (∃ (s : State) (mv : Nat), s.Inv ∧ s.teamRuns 0 = true ∧ s.Publishes (lsig 0x210) ∧ s.Publishes (lsig 0x211) ∧ s.lv.st = lvCheck ∧ s.on Reg.LVC_CFG Fld.LVC_CFG_compat640 = true ∧ s.ib * 1000 < 512 * (mv : Int)) ∧
    (∃ (s : State), s.Inv ∧ s.teamRuns 0 = true ∧ s.Publishes (lsig 0x210) ∧ s.Publishes (lsig 0x211) ∧ s.lv.st = lvSoft ∧ s.pgNow = true) ∧
    (∃ (s : State), s.Inv ∧ s.teamRuns 0 = true ∧ s.Publishes (lsig 0x210) ∧ s.Publishes (lsig 0x211) ∧ s.lv.st = lvSoft ∧ s.pgNow = false) ∧
    (∃ (s : State), s.Inv ∧ s.teamRuns 0 = true ∧ s.Publishes (lsig 0x210) ∧ s.Publishes (lsig 0x211) ∧ s.lv.st = lvRetry) ∧
    (∃ (s : State) (held : Nat), s.Inv ∧ s.teamRuns 0 = true ∧ s.Publishes (lsig 0x210) ∧ s.Publishes (lsig 0x211) ∧ s.lv.st = lvRun ∧ s.ib < 45 * 256 ∧ 400000 ≤ held) ∧
    (∃ (s : State) (lost : Nat), s.Inv ∧ s.teamRuns 0 = true ∧ s.Publishes (lsig 0x210) ∧ s.Publishes (lsig 0x211) ∧ s.lv.pgLost = some lost ∧ s.lvRunRequest = true ∧ s.lv.fired = false) ∧
    (∃ (s : State), s.Inv ∧ s.teamRuns 0 = true ∧ s.Publishes (lsig 0x210) ∧ s.Publishes (lsig 0x211) ∧ s.lv.st = lvRun) ∧
    (∃ (s : State), s.Inv ∧ s.teamRuns 0 = true ∧ s.Publishes (lsig 0x210) ∧ s.Publishes (lsig 0x211) ∧ s.lv.st = lvRun ∧ s.lvStopWanted = true) ∧
    (∃ (s : State), s.Inv ∧ s.teamRuns 0 = true ∧ s.Publishes (lsig 0x210) ∧ s.Publishes (lsig 0x211) ∧ s.lv.st = lvFault ∧ s.lv.cleared = true) ∧
    (∃ (s : State), s.Inv ∧ s.teamRuns 0 = true ∧ s.Publishes (lsig 0x210) ∧ s.Publishes (lsig 0x211) ∧ s.lv.st = lvRun ∧ s.allActive [14, 15] = true ∧ s.lv.dcxReverse = false ∧ s.feedOk = false) ∧
    (∃ (s : State), s.Inv ∧ s.teamRuns 0 = true ∧ s.Publishes (lsig 0x210) ∧ s.Publishes (lsig 0x211) ∧ s.lv.st = lvOvlatch ∧ s.allActive [14, 15] = true ∧ s.running 22 = false ∧ s.lv.ovWait = none) := by
  refine ⟨?_, ?_, ?_, ?_, ?_, ?_, ?_, ?_, ?_, ?_, ?_, ?_, ?_, ?_, ?_, ?_, ?_⟩
  · let R := quiet
    let s : State := pub ((let z := (sv (sv (sv (teamUp R 0) (lsig 0x307) 1) (sigMode) 5) (lsig 0x100) 12800); { z with lv := { z.lv with st := lvOff } })) [lsig 0x210, lsig 0x211]
    exact ⟨s, holds_of (fun (h : _ ∧ _ ∧ _ ∧ _ ∧ _ ∧ _ ∧ _ ∧ _ ∧ _) => ⟨inv_of h.1, h.2.1, h.2.2.1, h.2.2.2.1, h.2.2.2.2.1, h.2.2.2.2.2.1, h.2.2.2.2.2.2.1, h.2.2.2.2.2.2.2.1, h.2.2.2.2.2.2.2.2⟩) (by decide +kernel +revert)⟩
  · let R := quiet
    let s : State := pub (sets (let z := (sv (sv (sv (teamUp R 0) (lsig 0x307) 1) (sigMode) 5) (lsig 0x100) 12799); { z with lv := { z.lv with st := lvOff } }) [(Reg.DCL_MEAS, Fld.DCL_MEAS_v, 600), (Reg.CHL_MEAS, Fld.CHL_MEAS_v, 0)]) [lsig 0x210, lsig 0x211]
    exact ⟨s, holds_of (fun (h : _ ∧ _ ∧ _ ∧ _ ∧ _ ∧ _ ∧ _ ∧ _ ∧ _) => ⟨inv_of h.1, h.2.1, h.2.2.1, h.2.2.2.1, h.2.2.2.2.1, h.2.2.2.2.2.1, h.2.2.2.2.2.2.1, h.2.2.2.2.2.2.2.1, h.2.2.2.2.2.2.2.2⟩) (by decide +kernel +revert)⟩
  · let R := quiet
    let s : State := pub ((let z := sets (let z := (sv (sv (sv (teamUp R 0) (lsig 0x307) 1) (sigMode) 5) (lsig 0x100) 12800); { z with lv := { z.lv with st := lvDcxStart } }) [(Reg.DCL_MEAS, Fld.DCL_MEAS_v, 600), (Reg.CHL_MEAS, Fld.CHL_MEAS_v, 0)]; { z with lv := { z.lv with since := z.dtb - 4800000 } })) [lsig 0x210, lsig 0x211]
    exact ⟨s, holds_of (fun (h : _ ∧ _ ∧ _ ∧ _ ∧ _ ∧ _ ∧ _) => ⟨inv_of h.1, h.2.1, h.2.2.1, h.2.2.2.1, h.2.2.2.2.1, h.2.2.2.2.2.1, h.2.2.2.2.2.2⟩) (by decide +kernel +revert)⟩
  · let R := quiet
    let s : State := pub ((let z := (teamUp R 0); { z with lv := { z.lv with st := lvDcxStart, hiccups := 3 } })) [lsig 0x210, lsig 0x211]
    exact ⟨s, holds_of (fun (h : _ ∧ _ ∧ _ ∧ _ ∧ _) => ⟨inv_of h.1, h.2.1, h.2.2.1, h.2.2.2.1, h.2.2.2.2⟩) (by decide +kernel +revert)⟩
  · let R := quiet
    let s : State := pub ((let z := (teamUp R 0); { z with lv := { z.lv with st := lvDcxWait } })) [lsig 0x210, lsig 0x211]
    exact ⟨s, holds_of (fun (h : _ ∧ _ ∧ _ ∧ _ ∧ _) => ⟨inv_of h.1, h.2.1, h.2.2.1, h.2.2.2.1, h.2.2.2.2⟩) (by decide +kernel +revert)⟩
  · let R := quiet
    let s : State := pub (([18, 19, 20, 21].foldl (fun s g => (sets (s.wr (Reg.PWM_PER g) 4000) [(Reg.PWM_CTRL g, Fld.PWM_CTRL_mode, 2), (Reg.PWM_CTRL g, Fld.PWM_CTRL_pre, 0), (Reg.PWM_COT g, Fld.PWM_COT_src, 0)]).wr (Reg.PWM_CMPB g) 6400) (sets (let z := (teamUp R 0); { z with lv := { z.lv with st := lvCheck } }) [(Reg.LVC_CFG, Fld.LVC_CFG_compat640, 0), (Reg.LVC_CFG, Fld.LVC_CFG_toff_min, 100)]))) [lsig 0x210, lsig 0x211]
    exact ⟨s, holds_of (fun (h : _ ∧ _ ∧ _ ∧ _ ∧ _ ∧ _ ∧ _) => ⟨inv_of h.1, h.2.1, h.2.2.1, h.2.2.2.1, h.2.2.2.2.1, h.2.2.2.2.2.1, h.2.2.2.2.2.2⟩) (by decide +kernel +revert)⟩
  · let R := quiet
    let mv : Nat := 25001
    let s : State := pub ((let z := (sv (teamUp R 0) (lsig 0x100) 12800); { z with lv := { z.lv with st := lvCheck } }).setf Reg.LVC_CFG Fld.LVC_CFG_compat640 1) [lsig 0x210, lsig 0x211]
    exact ⟨s, mv, holds_of (fun (h : _ ∧ _ ∧ _ ∧ _ ∧ _ ∧ _ ∧ _) => ⟨inv_of h.1, h.2.1, h.2.2.1, h.2.2.2.1, h.2.2.2.2.1, h.2.2.2.2.2.1, h.2.2.2.2.2.2⟩) (by decide +kernel +revert)⟩
  · let R := quiet
    let s : State := pub ((let z := (let z := (sv (sv (sv (teamUp R 0) (lsig 0x301) 2) (lsig 0x300) 13926) (lsig 0x101) 13926); { z with lv := { z.lv with st := lvSoft } }); { z with lv := { z.lv with ref := z.lvTarget } })) [lsig 0x210, lsig 0x211]
    exact ⟨s, holds_of (fun (h : _ ∧ _ ∧ _ ∧ _ ∧ _ ∧ _) => ⟨inv_of h.1, h.2.1, h.2.2.1, h.2.2.2.1, h.2.2.2.2.1, h.2.2.2.2.2⟩) (by decide +kernel +revert)⟩
  · let R := quiet
    let s : State := pub ((let z := (sv (sv (sv (teamUp R 0) (lsig 0x301) 2) (lsig 0x300) 13926) (lsig 0x303) 5); { z with lv := { z.lv with st := lvSoft, ref := 1, retries := 2 } })) [lsig 0x210, lsig 0x211]
    exact ⟨s, holds_of (fun (h : _ ∧ _ ∧ _ ∧ _ ∧ _ ∧ _) => ⟨inv_of h.1, h.2.1, h.2.2.1, h.2.2.2.1, h.2.2.2.2.1, h.2.2.2.2.2⟩) (by decide +kernel +revert)⟩
  · let R := quiet
    let s : State := pub ((let z := (teamUp R 0); { z with lv := { z.lv with st := lvRetry } })) [lsig 0x210, lsig 0x211]
    exact ⟨s, holds_of (fun (h : _ ∧ _ ∧ _ ∧ _ ∧ _) => ⟨inv_of h.1, h.2.1, h.2.2.1, h.2.2.2.1, h.2.2.2.2⟩) (by decide +kernel +revert)⟩
  · let R := quiet
    let held : Nat := 400000
    let s : State := pub ((let z := (sv (teamUp R 0) (lsig 0x100) 11519); { z with lv := { z.lv with st := lvRun } })) [lsig 0x210, lsig 0x211]
    exact ⟨s, held, holds_of (fun (h : _ ∧ _ ∧ _ ∧ _ ∧ _ ∧ _ ∧ _) => ⟨inv_of h.1, h.2.1, h.2.2.1, h.2.2.2.1, h.2.2.2.2.1, h.2.2.2.2.2.1, h.2.2.2.2.2.2⟩) (by decide +kernel +revert)⟩
  · let R := quiet
    let lost : Nat := 0
    let s : State := pub ((let z := (sv (teamUp R 0) (lsig 0x307) 1); { z with lv := { z.lv with pgLost := some 0, fired := false } })) [lsig 0x210, lsig 0x211]
    exact ⟨s, lost, holds_of (fun (h : _ ∧ _ ∧ _ ∧ _ ∧ _ ∧ _ ∧ _) => ⟨inv_of h.1, h.2.1, h.2.2.1, h.2.2.2.1, h.2.2.2.2.1, h.2.2.2.2.2.1, h.2.2.2.2.2.2⟩) (by decide +kernel +revert)⟩
  · let R := quiet
    let s : State := pub ((let z := (teamUp R 0); { z with lv := { z.lv with st := lvRun } })) [lsig 0x210, lsig 0x211]
    exact ⟨s, holds_of (fun (h : _ ∧ _ ∧ _ ∧ _ ∧ _) => ⟨inv_of h.1, h.2.1, h.2.2.1, h.2.2.2.1, h.2.2.2.2⟩) (by decide +kernel +revert)⟩
  · let R := quiet
    let s : State := pub ((let z := (sv (teamUp R 0) (lsig 0x307) 0); { z with lv := { z.lv with st := lvRun } })) [lsig 0x210, lsig 0x211]
    exact ⟨s, holds_of (fun (h : _ ∧ _ ∧ _ ∧ _ ∧ _ ∧ _) => ⟨inv_of h.1, h.2.1, h.2.2.1, h.2.2.2.1, h.2.2.2.2.1, h.2.2.2.2.2⟩) (by decide +kernel +revert)⟩
  · let R := quiet
    let s : State := pub ((let z := (teamUp R 0); { z with lv := { z.lv with st := lvFault, cleared := true } })) [lsig 0x210, lsig 0x211]
    exact ⟨s, holds_of (fun (h : _ ∧ _ ∧ _ ∧ _ ∧ _ ∧ _) => ⟨inv_of h.1, h.2.1, h.2.2.1, h.2.2.2.1, h.2.2.2.2.1, h.2.2.2.2.2⟩) (by decide +kernel +revert)⟩
  · let R := quiet
    let s : State := pub (let z := sets ([14, 15, 22].foldl (fun s g => (s.setf (Reg.PWM_CTRL g) Fld.PWM_CTRL_en 1).setf (Reg.PWM_STAT g) Fld.PWM_STAT_run 1) (untrip (teamUp R 0))) [(Reg.DCL_MEAS, Fld.DCL_MEAS_v, 500), (Reg.CHL_MEAS, Fld.CHL_MEAS_v, 0)]; { z with lv := { z.lv with st := lvRun, dcxReverse := false } }) [lsig 0x210, lsig 0x211]
    exact ⟨s, holds_of (fun (h : _ ∧ _ ∧ _ ∧ _ ∧ _ ∧ _ ∧ _ ∧ _) => ⟨inv_of h.1, h.2.1, h.2.2.1, h.2.2.2.1, h.2.2.2.2.1, h.2.2.2.2.2.1, h.2.2.2.2.2.2.1, h.2.2.2.2.2.2.2⟩) (by decide +kernel +revert)⟩
  · let R := quiet
    let s : State := pub (let z := sets ([14, 15, 22].foldl (fun s g => (s.setf (Reg.PWM_CTRL g) Fld.PWM_CTRL_en 1).setf (Reg.PWM_STAT g) Fld.PWM_STAT_run 1) (untrip (teamUp R 0))) [(Reg.PWM_STAT 22, Fld.PWM_STAT_run, 0)]; { z with lv := { z.lv with st := lvOvlatch, ovWait := none } }) [lsig 0x210, lsig 0x211]
    exact ⟨s, holds_of (fun (h : _ ∧ _ ∧ _ ∧ _ ∧ _ ∧ _ ∧ _ ∧ _) => ⟨inv_of h.1, h.2.1, h.2.2.1, h.2.2.2.1, h.2.2.2.2.1, h.2.2.2.2.2.1, h.2.2.2.2.2.2.1, h.2.2.2.2.2.2.2⟩) (by decide +kernel +revert)⟩

theorem witness_LvConverter :
    (∃ (s : State) (ma : Nat) (held : Nat), s.Inv ∧ dcxGens.any s.active = true ∧ s.fld Reg.LVC_DCXLIM Fld.LVC_DCXLIM_a * 1000 < ma ∧ 400 ≤ held ∧ s.lv.st = lvDcxStart) ∧
    (∃ (s : State), s.Inv ∧ buckGens.any s.active = true) ∧
    (∃ (s : State) (k : Nat), s.Inv ∧ k < 4 ∧ s.lv.held.getD k false = true ∧ s.valleyHolds k = false) ∧
    (∃ (s : State) (k : Nat), s.Inv ∧ k < 4 ∧ s.lv.st = lvSoft ∧ s.on Reg.LVC_STAT Fld.LVC_STAT_pg = false) ∧
    (∃ (s : State), s.Inv ∧ s.lv.lastEdge = none) ∧
    (∃ (s : State) (last : Nat), s.Inv ∧ s.lv.lastEdge = some last) ∧
    (∃ (s : State) (last : Nat), s.Inv ∧ s.lv.lastEdge = some last ∧ s.fld Reg.LVC_SYNC Fld.LVC_SYNC_per ≠ 0) ∧
    (∃ (s : State) (mv : Nat) (held : Nat), s.Inv ∧ s.domainOn 2 = true ∧ s.aboveOv mv = true ∧ 400 ≤ held ∧ bit (s.rd Reg.TRP_LVL).toNat 7 = false) := by
  refine ⟨?_, ?_, ?_, ?_, ?_, ?_, ?_, ?_⟩
  · let R := quiet
    let ma : Nat := 10001
    let held : Nat := 400
    let s : State := (let z := ([14, 15, 22].foldl (fun s g => (s.setf (Reg.PWM_CTRL g) Fld.PWM_CTRL_en 1).setf (Reg.PWM_STAT g) Fld.PWM_STAT_run 1) (untrip (R))).setf Reg.LVC_DCXLIM Fld.LVC_DCXLIM_a 10; { z with lv := { z.lv with st := lvDcxStart, hiccups := 0 } })
    exact ⟨s, ma, held, holds_of (fun (h : _ ∧ _ ∧ _ ∧ _ ∧ _) => ⟨inv_of h.1, h.2.1, h.2.2.1, h.2.2.2.1, h.2.2.2.2⟩) (by decide +kernel +revert)⟩
  · let R := quiet
    let s : State := (sv (sv (([18, 19, 20, 21].foldl (fun s g => (s.setf (Reg.PWM_CTRL g) Fld.PWM_CTRL_en 1).setf (Reg.PWM_STAT g) Fld.PWM_STAT_run 1) (untrip (R)))) (lsig 0x121) 5) (lsig 0x102) 6)
    exact ⟨s, holds_of (fun (h : _ ∧ _) => ⟨inv_of h.1, h.2⟩) (by decide +kernel +revert)⟩
  · let R := quiet
    let k : Nat := 3
    let s : State := (sv (sv ((let z := R; { z with lv := { z.lv with held := [false, false, false, true] } })) (lsig 0x121) 5) (lsig 0x105) 4)
    exact ⟨s, k, holds_of (fun (h : _ ∧ _ ∧ _ ∧ _) => ⟨inv_of h.1, h.2.1, h.2.2.1, h.2.2.2⟩) (by decide +kernel +revert)⟩
  · let R := quiet
    let k : Nat := 3
    let s : State := (let z := R; { z with lv := { z.lv with st := lvSoft } }).setf Reg.LVC_STAT Fld.LVC_STAT_pg 0
    exact ⟨s, k, holds_of (fun (h : _ ∧ _ ∧ _ ∧ _) => ⟨inv_of h.1, h.2.1, h.2.2.1, h.2.2.2⟩) (by decide +kernel +revert)⟩
  · let R := quiet
    let s : State := (let z := R; { z with lv := { z.lv with lastEdge := none } })
    exact ⟨s, holds_of (fun (h : _ ∧ _) => ⟨inv_of h.1, h.2⟩) (by decide +kernel +revert)⟩
  · let R := quiet
    let last : Nat := 0
    let s : State := (let z := R; { z with lv := { z.lv with lastEdge := some 0 } })
    exact ⟨s, last, holds_of (fun (h : _ ∧ _) => ⟨inv_of h.1, h.2⟩) (by decide +kernel +revert)⟩
  · let R := quiet
    let last : Nat := 7
    let s : State := (let z := R; { z with lv := { z.lv with lastEdge := some 7 } }).setf Reg.LVC_SYNC Fld.LVC_SYNC_per 1000
    exact ⟨s, last, holds_of (fun (h : _ ∧ _ ∧ _) => ⟨inv_of h.1, h.2.1, h.2.2⟩) (by decide +kernel +revert)⟩
  · let R := quiet
    let mv : Nat := 17501
    let held : Nat := 400
    let s : State := (let z := ((R.setDomain 2 0).setf Reg.TRP_LVL (bitF 7) 0); { z with lv := { z.lv with st := 7 } })
    exact ⟨s, mv, held, holds_of (fun (h : _ ∧ _ ∧ _ ∧ _ ∧ _) => ⟨inv_of h.1, h.2.1, h.2.2.1, h.2.2.2.1, h.2.2.2.2⟩) (by decide +kernel +revert)⟩

theorem witness_KeeperCommands :
    (∃ (s : State) (core : Nat), s.Inv ∧ core < 6 ∧ s.cpuRatioOk = true) ∧
    (∃ (s : State) (off : Nat), s.Inv ∧ s.keeper.offAt = some off) ∧
    (∃ (s : State), s.Inv ∧ s.keeper.btnAt = none) ∧
    (∃ (s : State) (p : Nat), s.Inv ∧ s.keeper.btnAt = some p ∧ s.power.entry = none ∧ s.boot.stage ≠ 0 ∧ s.domainNow 0 ≠ 0) ∧
    (∃ (s : State) (p : Nat), s.Inv ∧ s.keeper.btnAt = some p ∧ s.power.entry = none ∧ s.boot.stage = 0 ∧ s.boot.wakeNext = true ∧ s.fld Reg.KPR_BSTAT Fld.KPR_BSTAT_closed = 0) ∧
    (∃ (s : State) (p : Nat), s.Inv ∧ s.keeper.btnAt = some p ∧ s.keeper.lpDone = false) ∧
    (∃ (s : State) (p : Nat), s.Inv ∧ s.keeper.lpAt = some p) ∧
    (∃ (s : State) (p : Nat), s.Inv ∧ s.keeper.lpAt = some p ∧ s.keeper.lpOpen = true) := by
  refine ⟨?_, ?_, ?_, ?_, ?_, ?_, ?_, ?_⟩
  · let R := quiet
    let core : Nat := 2
    let s : State := cpuOk (sv ((List.range 40).foldl (fun s g => s.setf (Reg.PWM_STAT g) Fld.PWM_STAT_run 0) R) sigMode 0)
    exact ⟨s, core, holds_of (fun (h : _ ∧ _ ∧ _) => ⟨inv_of h.1, h.2.1, h.2.2⟩) (by decide +kernel +revert)⟩
  · let R := quiet
    let off : Nat := 9
    let s : State := (let z := R; { z with keeper := { z.keeper with offAt := some 9 } })
    exact ⟨s, off, holds_of (fun (h : _ ∧ _) => ⟨inv_of h.1, h.2⟩) (by decide +kernel +revert)⟩
  · let R := quiet
    let s : State := (let z := R; { z with keeper := { z.keeper with btnAt := none } })
    exact ⟨s, holds_of (fun (h : _ ∧ _) => ⟨inv_of h.1, h.2⟩) (by decide +kernel +revert)⟩
  · let R := quiet
    let p : Nat := 9
    let s : State := (let z := (let z := R; { z with keeper := { z.keeper with btnAt := some 9 } }); { z.setDomain 0 1 with power := { z.power with entry := none, trans := [] }, boot := { z.boot with stage := 4 } })
    exact ⟨s, p, holds_of (fun (h : _ ∧ _ ∧ _ ∧ _ ∧ _) => ⟨inv_of h.1, h.2.1, h.2.2.1, h.2.2.2.1, h.2.2.2.2⟩) (by decide +kernel +revert)⟩
  · let R := quiet
    let p : Nat := 9
    let s : State := sets (let z := R; { z with keeper := { z.keeper with btnAt := some 9 }, boot := { z.boot with stage := 0, wakeNext := true }, power := { z.power with entry := none } }) [(Reg.KPR_BSTAT, Fld.KPR_BSTAT_closed, 0)]
    exact ⟨s, p, holds_of (fun (h : _ ∧ _ ∧ _ ∧ _ ∧ _ ∧ _) => ⟨inv_of h.1, h.2.1, h.2.2.1, h.2.2.2.1, h.2.2.2.2.1, h.2.2.2.2.2⟩) (by decide +kernel +revert)⟩
  · let R := quiet
    let p : Nat := 9
    let s : State := (let z := R; { z with keeper := { z.keeper with btnAt := some 9, lpDone := false } })
    exact ⟨s, p, holds_of (fun (h : _ ∧ _ ∧ _) => ⟨inv_of h.1, h.2.1, h.2.2⟩) (by decide +kernel +revert)⟩
  · let R := quiet
    let p : Nat := 9
    let s : State := (let z := R; { z with keeper := { z.keeper with lpAt := some 9 } })
    exact ⟨s, p, holds_of (fun (h : _ ∧ _) => ⟨inv_of h.1, h.2⟩) (by decide +kernel +revert)⟩
  · let R := quiet
    let p : Nat := 9
    let s : State := (let z := R; { z with keeper := { z.keeper with lpAt := some 9, lpOpen := true } })
    exact ⟨s, p, holds_of (fun (h : _ ∧ _ ∧ _) => ⟨inv_of h.1, h.2.1, h.2.2⟩) (by decide +kernel +revert)⟩

theorem witness_ShiftActuator :
    (∃ (s : State), s.Inv ∧ s.teamRuns 1 = true ∧ (s.shState = shOff ∨ s.shState = shHold) ∧ s.unset (asig 0x220) = false ∧ s.shift.target ≠ some (s.sig (asig 0x220)).value ∧ s.inBand = false ∧ s.stagesAllowed [9] = true ∧ s.modeStops 9 = false ∧ s.Publishes (asig 0x200) ∧ s.Publishes (asig 0x201)) ∧
    (∃ (s : State), s.Inv ∧ s.teamRuns 1 = true ∧ s.shState = shStart ∧ s.shift.resting = false ∧ s.shift.waitAt = none ∧ s.shift.pulses < 6 ∧ s.writable (asig (0x210 + pulseVector s.shift.pulses)) = true ∧ dType (s.desc (asig (0x210 + pulseVector s.shift.pulses))) ≠ 5) ∧
    (∃ (s : State), s.Inv ∧ s.teamRuns 1 = true ∧ s.shState = shStart ∧ s.shift.resting = true ∧ s.shift.pulses < 6 ∧ s.decayed = true) ∧
    (∃ (s : State), s.Inv ∧ s.teamRuns 1 = true ∧ s.shState = shStart ∧ s.shift.resting = true ∧ s.shift.pulses < 6 ∧ s.decayed = false ∧ s.restFrames < 80) ∧
    (∃ (s : State), s.Inv ∧ s.teamRuns 1 = true ∧ s.shState = shStart ∧ s.shift.resting = true ∧ s.shift.pulses < 6 ∧ 80 ≤ s.restFrames ∧ s.decayed = false ∧ s.Publishes (asig 0x200) ∧ s.Publishes (asig 0x201)) ∧
    (∃ (s : State) (j : Nat), s.Inv ∧ s.teamRuns 1 = true ∧ s.shState = shStart ∧ s.shift.resting = true ∧ s.shift.pulses = 6 ∧ s.sector = .ok j ∧ s.Publishes (asig 0x200) ∧ s.Publishes (asig 0x203)) ∧
    (∃ (s : State) (c : Nat), s.Inv ∧ s.teamRuns 1 = true ∧ s.shState = shStart ∧ s.shift.resting = true ∧ s.shift.pulses = 6 ∧ s.sector = .error c) ∧
    (∃ (s : State) (m : Nat), s.Inv ∧ s.teamRuns 1 = true ∧ m < 2 ∧ s.motorRuns m = true ∧ (s.motor m).nextAt = none) ∧
    (∃ (s : State) (m : Nat) (n : Nat), s.Inv ∧ s.teamRuns 1 = true ∧ m < 2 ∧ s.motorRuns m = true ∧ (s.motor m).nextAt = some n) ∧
    (∃ (s : State), s.Inv ∧ s.teamRuns 1 = true ∧ s.pump.st = pmRamp ∧ (s.motor 1).nextAt = none) ∧
    (∃ (s : State) (m : Nat), s.Inv ∧ s.teamRuns 1 = true ∧ m < 2 ∧ s.motorRuns m = true ∧ (m = 0 ∨ s.pump.st = pmRun) ∧ (s.motor m).nextAt = none ∧ (s.motor m).forced < 2) ∧
    (∃ (s : State), s.Inv ∧ s.teamRuns 1 = true ∧ s.shState = shMove ∧ s.inBand = true ∧ s.Publishes (asig 0x200)) ∧
    (∃ (s : State) (moved : Nat), s.Inv ∧ s.teamRuns 1 = true ∧ s.shState = shMove ∧ moved * 100 < 32768 ∧ 4 * s.q15 (asig 0x221) < 5 * s.shCurrent ∧ s.Publishes (asig 0x200) ∧ s.Publishes (asig 0x201)) ∧
    (∃ (s : State), s.Inv ∧ s.teamRuns 1 = true ∧ s.shState = shMove ∧ (s.forkPos * 100 < 163840 ∨ 3112960 < s.forkPos * 100 ∨ metaQuality (s.sig (asig 0x106)).mword = qInvalid) ∧ s.Publishes (asig 0x200) ∧ s.Publishes (asig 0x201)) ∧
    (∃ (s : State) (n : Nat), s.Inv ∧ s.teamRuns 1 = true ∧ s.shState = shStart ∧ s.shift.waitAt = some n) ∧
    (∃ (s : State) (n : Nat), s.Inv ∧ s.teamRuns 1 = true ∧ s.shState = shFault ∧ s.serviceSession n = true ∧ s.Publishes (asig 0x200) ∧ s.Publishes (asig 0x201)) := by
  refine ⟨?_, ?_, ?_, ?_, ?_, ?_, ?_, ?_, ?_, ?_, ?_, ?_, ?_, ?_, ?_, ?_⟩
  · let R := quiet
    let s : State := pub ((let z := (sv (sv (sv (sv (sv (sv (teamUp R 1) (asig 0x200) 0) (asig 0x220) 20000) (asig 0x106) 1000) (asig 0x222) 100) (sigMode) 5) (sigPhase) 0); { z with shift := { z.shift with target := none } })) [asig 0x200, asig 0x201, asig 0x203]
    exact ⟨s, holds_of (fun (h : _ ∧ _ ∧ _ ∧ _ ∧ _ ∧ _ ∧ _ ∧ _ ∧ _ ∧ _) => ⟨inv_of h.1, h.2.1, h.2.2.1, h.2.2.2.1, h.2.2.2.2.1, h.2.2.2.2.2.1, h.2.2.2.2.2.2.1, h.2.2.2.2.2.2.2.1, h.2.2.2.2.2.2.2.2.1, h.2.2.2.2.2.2.2.2.2⟩) (by decide +kernel +revert)⟩
  · let R := quiet
    let s : State := pub ((let z := (sv (sv (sv (sv (teamUp R 1) (asig 0x200) 1) (asig 0x100) 9000) (asig 0x101) 62536) (asig 0x102) 5); { z with shift := { z.shift with resting := false, waitAt := none, pulses := 0 } })) [asig 0x210, asig 0x215]
    exact ⟨s, holds_of (fun (h : _ ∧ _ ∧ _ ∧ _ ∧ _ ∧ _ ∧ _ ∧ _) => ⟨inv_of h.1, h.2.1, h.2.2.1, h.2.2.2.1, h.2.2.2.2.1, h.2.2.2.2.2.1, h.2.2.2.2.2.2.1, h.2.2.2.2.2.2.2⟩) (by decide +kernel +revert)⟩
  · let R := quiet
    let s : State := (let z := (sv (sv (sv (sv (sv (teamUp R 1) (asig 0x200) 1) (asig 0x210) 2000) (asig 0x100) 99) (asig 0x101) 0) (asig 0x102) 0); { z with shift := { z.shift with resting := true, pulses := 1 } })
    exact ⟨s, holds_of (fun (h : _ ∧ _ ∧ _ ∧ _ ∧ _ ∧ _) => ⟨inv_of h.1, h.2.1, h.2.2.1, h.2.2.2.1, h.2.2.2.2.1, h.2.2.2.2.2⟩) (by decide +kernel +revert)⟩
  · let R := quiet
    let s : State := (let z := (sv (sv (sv (sv (sv (((teamUp R 1)).setf Reg.ACT_SHTP Fld.ACT_SHTP_rest 40) (asig 0x200) 1) (asig 0x212) 2000) (asig 0x100) 100) (asig 0x101) 0) (asig 0x102) 0); { z with shift := { z.shift with resting := true, pulses := 5, extended := 39 } })
    exact ⟨s, holds_of (fun (h : _ ∧ _ ∧ _ ∧ _ ∧ _ ∧ _ ∧ _) => ⟨inv_of h.1, h.2.1, h.2.2.1, h.2.2.2.1, h.2.2.2.2.1, h.2.2.2.2.2.1, h.2.2.2.2.2.2⟩) (by decide +kernel +revert)⟩
  · let R := quiet
    let s : State := pub ((let z := (sv (sv (sv (sv (sv (((teamUp R 1)).setf Reg.ACT_SHTP Fld.ACT_SHTP_rest 40) (asig 0x200) 1) (asig 0x212) 2000) (asig 0x100) 100) (asig 0x101) 0) (asig 0x102) 0); { z with shift := { z.shift with resting := true, pulses := 5, extended := 40, fails := 1 } })) [asig 0x200, asig 0x201, asig 0x203]
    exact ⟨s, holds_of (fun (h : _ ∧ _ ∧ _ ∧ _ ∧ _ ∧ _ ∧ _ ∧ _ ∧ _) => ⟨inv_of h.1, h.2.1, h.2.2.1, h.2.2.2.1, h.2.2.2.2.1, h.2.2.2.2.2.1, h.2.2.2.2.2.2.1, h.2.2.2.2.2.2.2.1, h.2.2.2.2.2.2.2.2⟩) (by decide +kernel +revert)⟩
  · let R := quiet
    let s : State := pub ((let z := (sv (sv (sv (sv (sv (sv (sv (sets (teamUp R 1) [(Reg.ACT_SHTP, Fld.ACT_SHTP_imin, 5), (Reg.ACT_SHTP, Fld.ACT_SHTP_cmin, 20)]) (asig 0x200) 1) (asig 0x210) 9000) (asig 0x211) 8000) (asig 0x212) 7000) (asig 0x213) 6000) (asig 0x214) 6500) (asig 0x215) 7500); { z with shift := { z.shift with resting := true, pulses := 6 } })) [asig 0x200, asig 0x201, asig 0x203]
    let j : Nat := (match s.sector with | .ok j => j | .error _ => 99)
    exact ⟨s, j, holds_of (fun (h : _ ∧ _ ∧ _ ∧ _ ∧ _ ∧ _ ∧ _ ∧ _) => ⟨inv_of h.1, h.2.1, h.2.2.1, h.2.2.2.1, h.2.2.2.2.1, h.2.2.2.2.2.1, h.2.2.2.2.2.2.1, h.2.2.2.2.2.2.2⟩) (by decide +kernel +revert)⟩
  · let R := quiet
    let s : State := pub ((let z := (sv (sv (sv (sv (sv (sv (sv (sets (teamUp R 1) [(Reg.ACT_SHTP, Fld.ACT_SHTP_imin, 5), (Reg.ACT_SHTP, Fld.ACT_SHTP_cmin, 20)]) (asig 0x200) 1) (asig 0x210) 9000) (asig 0x211) 8000) (asig 0x212) 7000) (asig 0x213) 6000) (asig 0x214) 600) (asig 0x215) 7500); { z with shift := { z.shift with resting := true, pulses := 6 } })) [asig 0x200, asig 0x201, asig 0x203]
    let c : Nat := (match s.sector with | .ok j => 99 | .error c => c)
    exact ⟨s, c, holds_of (fun (h : _ ∧ _ ∧ _ ∧ _ ∧ _ ∧ _) => ⟨inv_of h.1, h.2.1, h.2.2.1, h.2.2.2.1, h.2.2.2.2.1, h.2.2.2.2.2⟩) (by decide +kernel +revert)⟩
  · let R := quiet
    let m : Nat := 0
    let s : State := (let z := (let z := (sv (teamUp R 1) (asig 0x200) 2); { z with motors := z.motors.modify 0 (fun m => { m with nextAt := none, lastAt := 100 }) }); { z with dtb := z.dtb + 123456 })
    exact ⟨s, m, holds_of (fun (h : _ ∧ _ ∧ _ ∧ _ ∧ _) => ⟨inv_of h.1, h.2.1, h.2.2.1, h.2.2.2.1, h.2.2.2.2⟩) (by decide +kernel +revert)⟩
  · let R := quiet
    let m : Nat := 0
    let n : Nat := 77777
    let s : State := (let z := (sv (teamUp R 1) (asig 0x200) 2); { z with motors := z.motors.modify 0 (fun m => { m with nextAt := some 77777 }) })
    exact ⟨s, m, n, holds_of (fun (h : _ ∧ _ ∧ _ ∧ _ ∧ _) => ⟨inv_of h.1, h.2.1, h.2.2.1, h.2.2.2.1, h.2.2.2.2⟩) (by decide +kernel +revert)⟩
  · let R := quiet
    let s : State := (let z := (let z := (teamUp R 1); { z with pump := { z.pump with st := pmRamp } }); { z with motors := z.motors.modify 1 (fun m => { m with nextAt := none, lastAt := 100 }) })
    exact ⟨s, holds_of (fun (h : _ ∧ _ ∧ _ ∧ _) => ⟨inv_of h.1, h.2.1, h.2.2.1, h.2.2.2⟩) (by decide +kernel +revert)⟩
  · let R := quiet
    let m : Nat := 0
    let s : State := (let z := (sv (teamUp R 1) (asig 0x200) 2); { z with motors := z.motors.modify 0 (fun m => { m with nextAt := none, forced := 1 }) })
    exact ⟨s, m, holds_of (fun (h : _ ∧ _ ∧ _ ∧ _ ∧ _ ∧ _ ∧ _) => ⟨inv_of h.1, h.2.1, h.2.2.1, h.2.2.2.1, h.2.2.2.2.1, h.2.2.2.2.2.1, h.2.2.2.2.2.2⟩) (by decide +kernel +revert)⟩
  · let R := quiet
    let s : State := pub ((sv (sv (sv (sv (teamUp R 1) (asig 0x200) 2) (asig 0x106) 1000) (asig 0x220) 1050) (asig 0x222) 50)) [asig 0x200, asig 0x201, asig 0x203]
    exact ⟨s, holds_of (fun (h : _ ∧ _ ∧ _ ∧ _ ∧ _) => ⟨inv_of h.1, h.2.1, h.2.2.1, h.2.2.2.1, h.2.2.2.2⟩) (by decide +kernel +revert)⟩
  · let R := quiet
    let moved : Nat := 327
    let s : State := pub ((sv (sv (sv (sv (sv (teamUp R 1) (asig 0x200) 2) (asig 0x221) 1000) (asig 0x100) 801) (asig 0x101) 0) (asig 0x102) 0)) [asig 0x200, asig 0x201, asig 0x203]
    exact ⟨s, moved, holds_of (fun (h : _ ∧ _ ∧ _ ∧ _ ∧ _ ∧ _ ∧ _) => ⟨inv_of h.1, h.2.1, h.2.2.1, h.2.2.2.1, h.2.2.2.2.1, h.2.2.2.2.2.1, h.2.2.2.2.2.2⟩) (by decide +kernel +revert)⟩
  · let R := quiet
    let s : State := pub ((sv (sv (teamUp R 1) (asig 0x200) 2) (asig 0x106) 1638)) [asig 0x200, asig 0x201, asig 0x203]
    exact ⟨s, holds_of (fun (h : _ ∧ _ ∧ _ ∧ _ ∧ _ ∧ _) => ⟨inv_of h.1, h.2.1, h.2.2.1, h.2.2.2.1, h.2.2.2.2.1, h.2.2.2.2.2⟩) (by decide +kernel +revert)⟩
  · let R := quiet
    let n : Nat := 9
    let s : State := (let z := (sv (teamUp R 1) (asig 0x200) 1); { z with shift := { z.shift with waitAt := some 9 } })
    exact ⟨s, n, holds_of (fun (h : _ ∧ _ ∧ _ ∧ _) => ⟨inv_of h.1, h.2.1, h.2.2.1, h.2.2.2⟩) (by decide +kernel +revert)⟩
  · let R := quiet
    let n : Nat := 8
    let s : State := pub ((sets (sv (teamUp R 1) (asig 0x200) 4) [(Reg.BRD_SESS 7, Fld.BRD_SESS_state, 2), (Reg.BRD_SESS 7, Fld.BRD_SESS_level, 2)])) [asig 0x200, asig 0x201, asig 0x203]
    exact ⟨s, n, holds_of (fun (h : _ ∧ _ ∧ _ ∧ _ ∧ _ ∧ _) => ⟨inv_of h.1, h.2.1, h.2.2.1, h.2.2.2.1, h.2.2.2.2.1, h.2.2.2.2.2⟩) (by decide +kernel +revert)⟩

theorem witness_ParkClutchPump :
    (∃ (s : State) (engage : Bool), s.Inv ∧ s.teamRuns 1 = true ∧ decide (s.val (asig 0x400) = 1) = engage ∧ s.unset (asig 0x400) = false ∧ s.stagesAllowed [11] = true ∧ s.modeStops 11 = false ∧ siState s s.sie < 2 ∧ siState s s.sir < 2 ∧ (engage = false ∨ s.vehicleBelow (s.num (asig 0x404) 3) = true) ∧ s.park.drive = none ∧ s.park.brakeAt = none ∧ s.parkReads engage = false ∧ s.parkConfigOk = true) ∧
    (∃ (s : State), s.Inv ∧ s.teamRuns 1 = true ∧ s.val (asig 0x400) = 1 ∧ s.vehicleBelow (s.num (asig 0x404) 3) = false) ∧
    (∃ (s : State) (d : Bool), s.Inv ∧ s.teamRuns 1 = true ∧ s.park.drive = some d ∧ s.parkReads d = true) ∧
    (∃ (s : State) (d : Bool), s.Inv ∧ s.teamRuns 1 = true ∧ s.park.drive = some d ∧ s.parkReads d = false) ∧
    (∃ (s : State) (n : Nat), s.Inv ∧ s.teamRuns 1 = true ∧ s.park.brakeAt = some n ∧ s.park.next = none ∧ s.park.st ≠ pkFault) ∧
    (∃ (s : State), s.Inv ∧ s.teamRuns 1 = true ∧ (2 ≤ siState s s.sie ∨ 2 ≤ siState s s.sir)) ∧
    (∃ (s : State), s.Inv ∧ s.teamRuns 1 = true ∧ s.clutch.st = clPull) ∧
    (∃ (s : State) (ms : Nat), s.Inv ∧ s.teamRuns 1 = true ∧ (s.clutch.st = clPull ∨ s.clutch.st = clHold) ∧ 10 * s.q15 (asig 0x10C) < s.clutchRef ∧ 9 * 64 * 20000 < 10 * (s.rd (Reg.PWM_ACTA 32)).toNat ∧ 20 ≤ ms) ∧
    (∃ (s : State), s.Inv ∧ s.teamRuns 1 = true) ∧
    (∃ (s : State), s.Inv ∧ s.teamRuns 1 = true ∧ s.pump.st = pmAlign) ∧
    (∃ (s : State), s.Inv ∧ s.teamRuns 1 = true ∧ s.pump.st = pmRamp) ∧
    (∃ (s : State), s.Inv ∧ s.teamRuns 1 = true ∧ s.pump.st = pmWait ∧ s.pumpConfigOk = true) ∧
    (∃ (s : State) (ms : Nat), s.Inv ∧ s.teamRuns 1 = true ∧ s.pump.st = pmRun ∧ 2 * s.q15 (asig 0x504) < s.q15 (asig 0x503) ∧ 1000 ≤ ms) ∧
    (∃ (s : State) (n : Nat), s.Inv ∧ s.teamRuns 1 = true ∧ s.pump.st = pmFault ∧ s.serviceSession n = true) := by
  refine ⟨?_, ?_, ?_, ?_, ?_, ?_, ?_, ?_, ?_, ?_, ?_, ?_, ?_, ?_⟩
  · let R := quiet
    let engage : Bool := false
    let s : State := (let z := ([30, 31].foldl (fun s g => sets (s.wr (Reg.PWM_PER g) 20000) [(Reg.PWM_CTRL g, Fld.PWM_CTRL_mode, 0), (Reg.PWM_CTRL g, Fld.PWM_CTRL_pre, 0), (Reg.PWM_CTRL g, Fld.PWM_CTRL_ld, 1), (Reg.PWM_SYNC g, Fld.PWM_SYNC_en, 1), (Reg.PWM_SYNC g, Fld.PWM_SYNC_gen, 24), (Reg.PWM_PHS g, Fld.PWM_PHS_phs, 0)]) (sv (sv (sv (sets (teamUp R 1) [(Reg.ACT_PKCFG, Fld.ACT_PKCFG_sie, 0), (Reg.ACT_PKCFG, Fld.ACT_PKCFG_sir, 1), (Reg.MG_SISTAT, ⟨0, 2⟩, 1), (Reg.MG_SISTAT, ⟨2, 2⟩, 0)]) (asig 0x400) 0) (sigMode) 5) (sigPhase) 0)); { z with park := { z.park with drive := none, brakeAt := none } })
    exact ⟨s, engage, holds_of (fun (h : _ ∧ _ ∧ _ ∧ _ ∧ _ ∧ _ ∧ _ ∧ _ ∧ _ ∧ _ ∧ _ ∧ _ ∧ _) => ⟨inv_of h.1, h.2.1, h.2.2.1, h.2.2.2.1, h.2.2.2.2.1, h.2.2.2.2.2.1, h.2.2.2.2.2.2.1, h.2.2.2.2.2.2.2.1, h.2.2.2.2.2.2.2.2.1, h.2.2.2.2.2.2.2.2.2.1, h.2.2.2.2.2.2.2.2.2.2.1, h.2.2.2.2.2.2.2.2.2.2.2.1, h.2.2.2.2.2.2.2.2.2.2.2.2⟩) (by decide +kernel +revert)⟩
  · let R := quiet
    let s : State := (sv (sv (sets (calm (sets (teamUp R 1) [(Reg.ACT_PKCFG, Fld.ACT_PKCFG_sie, 0), (Reg.ACT_PKCFG, Fld.ACT_PKCFG_sir, 1), (Reg.MG_SISTAT, ⟨0, 2⟩, 0), (Reg.MG_SISTAT, ⟨2, 2⟩, 1)]) [2]) [(Reg.MG_SPD 0, Fld.MG_SPD_n, 9000), (Reg.KPR_LPCFG, Fld.KPR_LPCFG_ratio, 100), (Reg.MG_SPD 1, Fld.MG_SPD_n, 9000), (Reg.KPR_LPCFG, Fld.KPR_LPCFG_ratio, 100), (Reg.MG_SPD 0, Fld.MG_SPD_valid, 1), (Reg.MG_SPD 1, Fld.MG_SPD_valid, 1)]) (asig 0x400) 1) (asig 0x404) 3)
    exact ⟨s, holds_of (fun (h : _ ∧ _ ∧ _ ∧ _) => ⟨inv_of h.1, h.2.1, h.2.2.1, h.2.2.2⟩) (by decide +kernel +revert)⟩
  · let R := quiet
    let d : Bool := true
    let s : State := (let z := (sets (teamUp R 1) [(Reg.ACT_PKCFG, Fld.ACT_PKCFG_sie, 0), (Reg.ACT_PKCFG, Fld.ACT_PKCFG_sir, 1), (Reg.MG_SISTAT, ⟨0, 2⟩, 1), (Reg.MG_SISTAT, ⟨2, 2⟩, 0)]); { z with park := { z.park with drive := some true } })
    exact ⟨s, d, holds_of (fun (h : _ ∧ _ ∧ _ ∧ _) => ⟨inv_of h.1, h.2.1, h.2.2.1, h.2.2.2⟩) (by decide +kernel +revert)⟩
  · let R := quiet
    let d : Bool := true
    let s : State := (let z := (sets (teamUp R 1) [(Reg.ACT_PKCFG, Fld.ACT_PKCFG_sie, 0), (Reg.ACT_PKCFG, Fld.ACT_PKCFG_sir, 1), (Reg.MG_SISTAT, ⟨0, 2⟩, 0), (Reg.MG_SISTAT, ⟨2, 2⟩, 0)]); { z with park := { z.park with drive := some true } })
    exact ⟨s, d, holds_of (fun (h : _ ∧ _ ∧ _ ∧ _) => ⟨inv_of h.1, h.2.1, h.2.2.1, h.2.2.2⟩) (by decide +kernel +revert)⟩
  · let R := quiet
    let n : Nat := 5
    let s : State := (let z := (sets (teamUp R 1) [(Reg.ACT_PKCFG, Fld.ACT_PKCFG_sie, 0), (Reg.ACT_PKCFG, Fld.ACT_PKCFG_sir, 1), (Reg.MG_SISTAT, ⟨0, 2⟩, 1), (Reg.MG_SISTAT, ⟨2, 2⟩, 0)]); { z with park := { z.park with brakeAt := some 5, next := none, drive := none, st := pkMoving } })
    exact ⟨s, n, holds_of (fun (h : _ ∧ _ ∧ _ ∧ _ ∧ _) => ⟨inv_of h.1, h.2.1, h.2.2.1, h.2.2.2.1, h.2.2.2.2⟩) (by decide +kernel +revert)⟩
  · let R := quiet
    let s : State := (sets (teamUp R 1) [(Reg.ACT_PKCFG, Fld.ACT_PKCFG_sie, 0), (Reg.ACT_PKCFG, Fld.ACT_PKCFG_sir, 1), (Reg.MG_SISTAT, ⟨0, 2⟩, 2), (Reg.MG_SISTAT, ⟨2, 2⟩, 0)])
    exact ⟨s, holds_of (fun (h : _ ∧ _ ∧ _) => ⟨inv_of h.1, h.2.1, h.2.2⟩) (by decide +kernel +revert)⟩
  · let R := quiet
    let s : State := (let z := (sv (teamUp R 1) (asig 0x604) 100); { z with clutch := { z.clutch with st := clPull } })
    exact ⟨s, holds_of (fun (h : _ ∧ _ ∧ _) => ⟨inv_of h.1, h.2.1, h.2.2⟩) (by decide +kernel +revert)⟩
  · let R := quiet
    let ms : Nat := 20
    let s : State := (let z := ((sv (sv (teamUp R 1) (asig 0x10C) 5) (asig 0x603) 1000)).wr (Reg.PWM_ACTA 32) 1152001; { z with clutch := { z.clutch with st := clPull } })
    exact ⟨s, ms, holds_of (fun (h : _ ∧ _ ∧ _ ∧ _ ∧ _ ∧ _) => ⟨inv_of h.1, h.2.1, h.2.2.1, h.2.2.2.1, h.2.2.2.2.1, h.2.2.2.2.2⟩) (by decide +kernel +revert)⟩
  · let R := quiet
    let s : State := (teamUp R 1)
    exact ⟨s, holds_of (fun (h : _ ∧ _) => ⟨inv_of h.1, h.2⟩) (by decide +kernel +revert)⟩
  · let R := quiet
    let s : State := (let z := (teamUp R 1); { z with pump := { z.pump with st := pmAlign } })
    exact ⟨s, holds_of (fun (h : _ ∧ _ ∧ _) => ⟨inv_of h.1, h.2.1, h.2.2⟩) (by decide +kernel +revert)⟩
  · let R := quiet
    let s : State := (let z := (let z := (teamUp R 1); { z with pump := { z.pump with st := pmRamp, fails := 0 } }); { z with motors := z.motors.modify 1 (fun m => { m with crossings := 6 }) })
    exact ⟨s, holds_of (fun (h : _ ∧ _ ∧ _) => ⟨inv_of h.1, h.2.1, h.2.2⟩) (by decide +kernel +revert)⟩
  · let R := quiet
    let s : State := (let z := ([27, 28, 29].foldl (fun s g => sets (s.wr (Reg.PWM_PER g) 10000) [(Reg.PWM_CTRL g, Fld.PWM_CTRL_mode, 1), (Reg.PWM_CTRL g, Fld.PWM_CTRL_pre, 0), (Reg.PWM_CTRL g, Fld.PWM_CTRL_ld, 1), (Reg.PWM_SYNC g, Fld.PWM_SYNC_en, 1), (Reg.PWM_SYNC g, Fld.PWM_SYNC_gen, 24), (Reg.PWM_PHS g, Fld.PWM_PHS_phs, 0)]) (teamUp R 1)); { z with pump := { z.pump with st := pmWait } })
    exact ⟨s, holds_of (fun (h : _ ∧ _ ∧ _ ∧ _) => ⟨inv_of h.1, h.2.1, h.2.2.1, h.2.2.2⟩) (by decide +kernel +revert)⟩
  · let R := quiet
    let ms : Nat := 1000
    let s : State := (let z := (sv (sv (teamUp R 1) (asig 0x504) 499) (asig 0x503) 999); { z with pump := { z.pump with st := pmRun } })
    exact ⟨s, ms, holds_of (fun (h : _ ∧ _ ∧ _ ∧ _ ∧ _) => ⟨inv_of h.1, h.2.1, h.2.2.1, h.2.2.2.1, h.2.2.2.2⟩) (by decide +kernel +revert)⟩
  · let R := quiet
    let n : Nat := 8
    let s : State := (let z := (sets (teamUp R 1) [(Reg.BRD_SESS 7, Fld.BRD_SESS_state, 2), (Reg.BRD_SESS 7, Fld.BRD_SESS_level, 2)]); { z with pump := { z.pump with st := pmFault } })
    exact ⟨s, n, holds_of (fun (h : _ ∧ _ ∧ _ ∧ _) => ⟨inv_of h.1, h.2.1, h.2.2.1, h.2.2.2⟩) (by decide +kernel +revert)⟩

theorem witness_TeamInterrupts :
    (∃ (s : State) (core : Nat), s.Inv ∧ core < 3 ∧ s.domainOn 0 = true ∧ (s.coreAt core).held = false ∧ (List.range 128).any (s.irqDeliverable 0) = false ∧ s.dtb < s.mtimecmp 0 core ∧ s.harnMode 0 = hmSplit ∧ s.harnState 0 = hsRun ∧ s.power.want.getD 0 [] = []) ∧
    (∃ (s : State) (core : Nat), s.Inv ∧ core < 3 ∧ s.domainOn 0 = true ∧ s.cpuRatioOk = true ∧ s.domainOn 1 = false) ∧
    (∃ (s : State) (core : Nat), s.Inv ∧ core < 3 ∧ s.domainOn 0 = true ∧ s.cpuRatioOk = true ∧ s.domainOn 1 = true ∧ s.harnMode 1 = hmHeld) ∧
    (∃ (s : State) (core : Nat), s.Inv ∧ core < 6 ∧ s.mtimecmp (teamOf core) (core % 3) ≠ 2 ^ 64 - 1 ∧ s.domainOn 0 = true ∧ s.domainOn (teamOf core) = true ∧ (s.coreAt core).held = false ∧ s.harnMode (teamOf core) = hmSplit ∧ s.power.entry.any (fun e => e.2.any (fun r => r.1 = teamOf core)) = false) ∧
    (∃ (s : State) (core : Nat), s.Inv ∧ core < 6 ∧ s.domainOn (teamOf core) = true ∧ s.cpuRatioOk = true) ∧
    (∃ (s : State) (core : Nat), s.Inv ∧ core < 6 ∧ s.domainOn (teamOf core) = true ∧ s.cpuRatioOk = true) ∧
    (∃ (s : State) (core : Nat) (i : Nat), s.Inv ∧ core < 6 ∧ i < 16 ∧ s.domainOn (teamOf core) = true ∧ s.cpuRatioOk = true) ∧
    (∃ (s : State) (core : Nat) (n : Nat), s.Inv ∧ core < 6 ∧ n < 3 ∧ s.domainOn (teamOf core) = true ∧ s.cpuRatioOk = true ∧ s.wdgActive (teamOf core) n = true ∧ s.fld (Reg.WDG_CTRL (teamOf core) n) Fld.WDG_CTRL_win * s.wdgTmo (teamOf core) n ≤ (s.dtb - s.wdgServed (teamOf core) n) / 400 * 256 ∧ (s.harn_ (teamOf core)).served.length = 3) ∧
    (∃ (s : State) (t : Nat) (n : Nat), s.Inv ∧ t < 2 ∧ n < 3 ∧ s.wdgActive t n = true) ∧
    (∃ (s : State) (n : Nat), s.Inv ∧ n < 3 ∧ s.wdgActive 0 n = true) ∧
    (∃ (s : State) (due : Nat), s.Inv ∧ s.mg.fatalDue = some due) ∧
    (∃ (s : State) (core : Nat), s.Inv ∧ core < 6 ∧ s.domainOn (teamOf core) = true ∧ s.harnMode (teamOf core) = hmSplit) := by
  refine ⟨?_, ?_, ?_, ?_, ?_, ?_, ?_, ?_, ?_, ?_, ?_, ?_⟩
  · let R := quiet
    let core : Nat := 2
    let s : State := (let z : State := (let z : State := (sets (calm R [0]) [(Reg.HARN_STAT 0, Fld.HARN_STAT_mode, 3), (Reg.HARN_STAT 0, Fld.HARN_STAT_state, 0)]); { z with irqPend := [[], []], cores := z.cores.map (fun c => { c with held := false }), power := { z.power with want := [[], []] } }); (((z).wr (Reg.MTIMECMP 0 2 0) (W (z.dtb + 1))).wr (Reg.MTIMECMP 0 2 1) (W ((z.dtb + 1) / 2 ^ 32))))
    exact ⟨s, core, holds_of (fun (h : _ ∧ _ ∧ _ ∧ _ ∧ _ ∧ _ ∧ _ ∧ _ ∧ _) => ⟨inv_of h.1, h.2.1, h.2.2.1, h.2.2.2.1, h.2.2.2.2.1, h.2.2.2.2.2.1, h.2.2.2.2.2.2.1, h.2.2.2.2.2.2.2.1, h.2.2.2.2.2.2.2.2⟩) (by decide +kernel +revert)⟩
  · let R := quiet
    let core : Nat := 2
    let s : State := ((calm R [0]).setDomain 1 1)
    exact ⟨s, core, holds_of (fun (h : _ ∧ _ ∧ _ ∧ _ ∧ _) => ⟨inv_of h.1, h.2.1, h.2.2.1, h.2.2.2.1, h.2.2.2.2⟩) (by decide +kernel +revert)⟩
  · let R := quiet
    let core : Nat := 2
    let s : State := (sets (calm R [0, 1]) [(Reg.HARN_STAT 1, Fld.HARN_STAT_mode, 0)])
    exact ⟨s, core, holds_of (fun (h : _ ∧ _ ∧ _ ∧ _ ∧ _ ∧ _) => ⟨inv_of h.1, h.2.1, h.2.2.1, h.2.2.2.1, h.2.2.2.2.1, h.2.2.2.2.2⟩) (by decide +kernel +revert)⟩
  · let R := quiet
    let core : Nat := 0
    let s : State := (let z : State := (let z : State := ((((let z : State := (sets (calm R [0, 1]) [(Reg.HARN_STAT 0, Fld.HARN_STAT_mode, 3)]); { z with cores := z.cores.map (fun (c : CorePort) => { c with held := false }) })).wr (Reg.MTIMECMP 0 0 0) (W (2 ^ 33 + 5))).wr (Reg.MTIMECMP 0 0 1) (W ((2 ^ 33 + 5) / 2 ^ 32))); { z with cores := z.cores.map (fun c => { c with wfi := true }) }); { z with power := { z.power with entry := R.power.entry } })
    exact ⟨s, core, holds_of (fun (h : _ ∧ _ ∧ _ ∧ _ ∧ _ ∧ _ ∧ _ ∧ _) => ⟨inv_of h.1, h.2.1, h.2.2.1, h.2.2.2.1, h.2.2.2.2.1, h.2.2.2.2.2.1, h.2.2.2.2.2.2.1, h.2.2.2.2.2.2.2⟩) (by decide +kernel +revert)⟩
  · let R := quiet
    let core : Nat := 0
    let s : State := (let z : State := (calm R [0, 1]); { z with irqPend := [[], []] })
    exact ⟨s, core, holds_of (fun (h : _ ∧ _ ∧ _ ∧ _) => ⟨inv_of h.1, h.2.1, h.2.2.1, h.2.2.2⟩) (by decide +kernel +revert)⟩
  · let R := quiet
    let core : Nat := 0
    let s : State := (calm R [0, 1])
    exact ⟨s, core, holds_of (fun (h : _ ∧ _ ∧ _ ∧ _) => ⟨inv_of h.1, h.2.1, h.2.2.1, h.2.2.2⟩) (by decide +kernel +revert)⟩
  · let R := quiet
    let core : Nat := 0
    let i : Nat := 0
    let s : State := (calm R [0, 1])
    exact ⟨s, core, i, holds_of (fun (h : _ ∧ _ ∧ _ ∧ _ ∧ _) => ⟨inv_of h.1, h.2.1, h.2.2.1, h.2.2.2.1, h.2.2.2.2⟩) (by decide +kernel +revert)⟩
  · let R := quiet
    let core : Nat := 0
    let n : Nat := 0
    let s : State := (let z : State := sets (calm R [0]) [(Reg.HARN_STAT 0, Fld.HARN_STAT_mode, 3), (Reg.WDG_CTRL 0 0, Fld.WDG_CTRL_en, 1), (Reg.WDG_CTRL 0 0, Fld.WDG_CTRL_tmo, 1000), (Reg.WDG_CTRL 0 0, Fld.WDG_CTRL_win, 200)]; { z with dtb := z.dtb + 400000, harn := z.harn.modify 0 (fun h => { h with served := [z.dtb, z.dtb, z.dtb] }) })
    exact ⟨s, core, n, holds_of (fun (h : _ ∧ _ ∧ _ ∧ _ ∧ _ ∧ _ ∧ _ ∧ _) => ⟨inv_of h.1, h.2.1, h.2.2.1, h.2.2.2.1, h.2.2.2.2.1, h.2.2.2.2.2.1, h.2.2.2.2.2.2.1, h.2.2.2.2.2.2.2⟩) (by decide +kernel +revert)⟩
  · let R := quiet
    let t : Nat := 0
    let n : Nat := 0
    let s : State := (let z : State := (let z : State := sets (calm R [0]) [(Reg.HARN_STAT 0, Fld.HARN_STAT_mode, 3), (Reg.WDG_CTRL 0 0, Fld.WDG_CTRL_en, 1), (Reg.WDG_CTRL 0 0, Fld.WDG_CTRL_tmo, 1001), (Reg.WDG_CTRL 0 0, Fld.WDG_CTRL_win, 0)]; { z with dtb := z.dtb + 400000, harn := z.harn.modify 0 (fun h => { h with served := [z.dtb, z.dtb, z.dtb] }) }); { z with power := { z.power with entry := R.power.entry } })
    exact ⟨s, t, n, holds_of (fun (h : _ ∧ _ ∧ _ ∧ _) => ⟨inv_of h.1, h.2.1, h.2.2.1, h.2.2.2⟩) (by decide +kernel +revert)⟩
  · let R := quiet
    let n : Nat := 0
    let s : State := (let z : State := sets (calm R [0]) [(Reg.HARN_STAT 0, Fld.HARN_STAT_mode, 3), (Reg.WDG_CTRL 0 0, Fld.WDG_CTRL_en, 1), (Reg.WDG_CTRL 0 0, Fld.WDG_CTRL_tmo, 1001), (Reg.WDG_CTRL 0 0, Fld.WDG_CTRL_win, 0)]; { z with dtb := z.dtb + 400000, harn := z.harn.modify 0 (fun h => { h with served := [z.dtb, z.dtb, z.dtb] }) })
    exact ⟨s, n, holds_of (fun (h : _ ∧ _ ∧ _) => ⟨inv_of h.1, h.2.1, h.2.2⟩) (by decide +kernel +revert)⟩
  · let R := quiet
    let due : Nat := 9
    let s : State := (let z : State := R; { z with mg := { z.mg with fatalDue := some 9 } })
    exact ⟨s, due, holds_of (fun (h : _ ∧ _) => ⟨inv_of h.1, h.2⟩) (by decide +kernel +revert)⟩
  · let R := quiet
    let core : Nat := 0
    let s : State := (sets (calm R [0]) [(Reg.HARN_STAT 0, Fld.HARN_STAT_mode, 3), (Reg.HARN_STAT 0, Fld.HARN_STAT_state, 0)])
    exact ⟨s, core, holds_of (fun (h : _ ∧ _ ∧ _ ∧ _) => ⟨inv_of h.1, h.2.1, h.2.2.1, h.2.2.2⟩) (by decide +kernel +revert)⟩

theorem witness_TeamHarness :
    (∃ (s : State) (t : Nat) (odd : Nat), s.Inv ∧ t < 2 ∧ s.domainOn t = true ∧ odd < 3 ∧ s.harnMode t = hmTroika ∧ s.harnState t = hsRun) ∧
    (∃ (s : State) (t : Nat) (odd : Nat), s.Inv ∧ t < 2 ∧ s.domainOn t = true ∧ t = 0 ∧ odd < 3 ∧ s.harnMode 0 = hmTroika ∧ (s.compared 0).isEmpty = false ∧ s.mg.fatalDue = none) ∧
    (∃ (s : State) (t : Nat) (core : Nat) (v : Word), s.Inv ∧ t < 2 ∧ s.domainOn t = true ∧ core < 6 ∧ teamOf core = t ∧ s.cpuRatioOk = true ∧ s.harnState t = hsPair ∧ Word.get v Fld.HARN_RJN_now = 1) ∧
    (∃ (s : State) (t : Nat) (t0 : Nat), s.Inv ∧ t < 2 ∧ s.domainOn t = true ∧ s.harnState t = hsPair ∧ (s.harn_ t).pairAt = some t0) ∧
    (∃ (s : State) (t : Nat) (t0 : Nat) (stall : Nat), s.Inv ∧ t < 2 ∧ s.domainOn t = true ∧ s.harnState t = hsBarrier ∧ (s.harn_ t).barrier = some t0 ∧ (s.harn_ t).byWfi = false ∧ stall ≤ 3200 ∧ s.harnOdd t < 3) ∧
    (∃ (s : State) (t : Nat) (core : Nat), s.Inv ∧ t < 2 ∧ s.domainOn t = true ∧ core < 6 ∧ teamOf core = t ∧ (s.coreAt core).held = false ∧ s.harnMode t = hmTroika ∧ s.harnState t = hsRun) ∧
    (∃ (s : State) (t : Nat) (t0 : Nat) (stall : Nat), s.Inv ∧ t < 2 ∧ s.domainOn t = true ∧ s.harnState t = hsDrain ∧ s.harnMode t = hmTroika ∧ (s.harn_ t).target = some hmTandem ∧ (s.harn_ t).barrier = some t0 ∧ stall ≤ 4800) := by
  refine ⟨?_, ?_, ?_, ?_, ?_, ?_, ?_⟩
  · let R := quiet
    let t : Nat := 0
    let odd : Nat := 0
    let s : State := (let z : State := (sets (calm R [0]) [(Reg.HARN_STAT 0, Fld.HARN_STAT_mode, 1), (Reg.HARN_STAT 0, Fld.HARN_STAT_state, 0)]); { z with power := { z.power with entry := R.power.entry } })
    exact ⟨s, t, odd, holds_of (fun (h : _ ∧ _ ∧ _ ∧ _ ∧ _ ∧ _) => ⟨inv_of h.1, h.2.1, h.2.2.1, h.2.2.2.1, h.2.2.2.2.1, h.2.2.2.2.2⟩) (by decide +kernel +revert)⟩
  · let R := quiet
    let t : Nat := 0
    let odd : Nat := 2
    let s : State := (let z : State := (let z : State := (let z : State := (sets (calm R [0]) [(Reg.HARN_STAT 0, Fld.HARN_STAT_mode, 1), (Reg.HARN_STAT 0, Fld.HARN_STAT_state, 0)]); { z with cores := z.cores.map (fun (c : CorePort) => { c with held := false }) }); { z with mg := { z.mg with fatalDue := none } }); { z with power := { z.power with entry := R.power.entry } })
    exact ⟨s, t, odd, holds_of (fun (h : _ ∧ _ ∧ _ ∧ _ ∧ _ ∧ _ ∧ _ ∧ _) => ⟨inv_of h.1, h.2.1, h.2.2.1, h.2.2.2.1, h.2.2.2.2.1, h.2.2.2.2.2.1, h.2.2.2.2.2.2.1, h.2.2.2.2.2.2.2⟩) (by decide +kernel +revert)⟩
  · let R := quiet
    let t : Nat := 0
    let core : Nat := 2
    let v : Word := Word.put 0 Fld.HARN_RJN_now 1
    let s : State := (let z : State := (sets (calm R [0]) [(Reg.HARN_STAT 0, Fld.HARN_STAT_mode, 1), (Reg.HARN_STAT 0, Fld.HARN_STAT_state, 1)]); { z with power := { z.power with entry := R.power.entry } })
    exact ⟨s, t, core, v, holds_of (fun (h : _ ∧ _ ∧ _ ∧ _ ∧ _ ∧ _ ∧ _ ∧ _) => ⟨inv_of h.1, h.2.1, h.2.2.1, h.2.2.2.1, h.2.2.2.2.1, h.2.2.2.2.2.1, h.2.2.2.2.2.2.1, h.2.2.2.2.2.2.2⟩) (by decide +kernel +revert)⟩
  · let R := quiet
    let t : Nat := 0
    let t0 : Nat := 9
    let s : State := (let z : State := (let z : State := sets (calm R [0]) [(Reg.HARN_STAT 0, Fld.HARN_STAT_mode, 1), (Reg.HARN_STAT 0, Fld.HARN_STAT_state, 1)]; { z with harn := z.harn.modify 0 (fun h => { h with pairAt := some 9 }) }); { z with power := { z.power with entry := R.power.entry } })
    exact ⟨s, t, t0, holds_of (fun (h : _ ∧ _ ∧ _ ∧ _ ∧ _) => ⟨inv_of h.1, h.2.1, h.2.2.1, h.2.2.2.1, h.2.2.2.2⟩) (by decide +kernel +revert)⟩
  · let R := quiet
    let t : Nat := 0
    let t0 : Nat := 9
    let stall : Nat := 3200
    let s : State := (let z : State := (let z : State := (let z : State := sets (calm R [0]) [(Reg.HARN_STAT 0, Fld.HARN_STAT_mode, 1), (Reg.HARN_STAT 0, Fld.HARN_STAT_state, 2), (Reg.HARN_STAT 0, Fld.HARN_STAT_odd, 0)]; { z with harn := z.harn.modify 0 (fun h => { h with barrier := some 9, byWfi := false }) }); { z with cores := z.cores.map (fun c => { c with pc := 0x1234, x := [1, 2] }) }); { z with power := { z.power with entry := R.power.entry } })
    exact ⟨s, t, t0, stall, holds_of (fun (h : _ ∧ _ ∧ _ ∧ _ ∧ _ ∧ _ ∧ _ ∧ _) => ⟨inv_of h.1, h.2.1, h.2.2.1, h.2.2.2.1, h.2.2.2.2.1, h.2.2.2.2.2.1, h.2.2.2.2.2.2.1, h.2.2.2.2.2.2.2⟩) (by decide +kernel +revert)⟩
  · let R := quiet
    let t : Nat := 0
    let core : Nat := 2
    let s : State := (let z : State := (let z : State := (sets (calm R [0]) [(Reg.HARN_STAT 0, Fld.HARN_STAT_mode, 1), (Reg.HARN_STAT 0, Fld.HARN_STAT_state, 0)]); { z with cores := z.cores.map (fun (c : CorePort) => { c with held := false }) }); { z with power := { z.power with entry := R.power.entry } })
    exact ⟨s, t, core, holds_of (fun (h : _ ∧ _ ∧ _ ∧ _ ∧ _ ∧ _ ∧ _ ∧ _) => ⟨inv_of h.1, h.2.1, h.2.2.1, h.2.2.2.1, h.2.2.2.2.1, h.2.2.2.2.2.1, h.2.2.2.2.2.2.1, h.2.2.2.2.2.2.2⟩) (by decide +kernel +revert)⟩
  · let R := quiet
    let t : Nat := 0
    let t0 : Nat := 9
    let stall : Nat := 4800
    let s : State := (let z : State := (let z : State := sets (calm R [0]) [(Reg.HARN_STAT 0, Fld.HARN_STAT_mode, 1), (Reg.HARN_STAT 0, Fld.HARN_STAT_state, 3)]; { z with harn := z.harn.modify 0 (fun h => { h with target := some hmTandem, barrier := some 9 }) }).wr (Reg.HARN_PC2 0) 0x10; { z with power := { z.power with entry := R.power.entry } })
    exact ⟨s, t, t0, stall, holds_of (fun (h : _ ∧ _ ∧ _ ∧ _ ∧ _ ∧ _ ∧ _ ∧ _) => ⟨inv_of h.1, h.2.1, h.2.2.1, h.2.2.2.1, h.2.2.2.2.1, h.2.2.2.2.2.1, h.2.2.2.2.2.2.1, h.2.2.2.2.2.2.2⟩) (by decide +kernel +revert)⟩

theorem witness_MartingaleReports :
    (∃ (s : State) (core : Nat), s.Inv ∧ s.domainOn 2 = true ∧ core < 6 ∧ s.cpuRatioOk = true) ∧
    (∃ (s : State) (core : Nat), s.Inv ∧ s.domainOn 2 = true ∧ core < 3 ∧ s.cpuRatioOk = true ∧ s.mg.keyed = true ∧ s.locked = false) ∧
    (∃ (s : State), s.Inv ∧ s.domainOn 2 = true) ∧
    (∃ (s : State) (core : Nat), s.Inv ∧ s.domainOn 2 = true ∧ core < 3 ∧ s.cpuRatioOk = true) ∧
    (∃ (s : State) (core : Nat), s.Inv ∧ s.domainOn 2 = true ∧ 3 ≤ core ∧ core < 6 ∧ s.cpuRatioOk = true) ∧
    (∃ (s : State) (cls : Nat) (scope : Nat) (rx : Nat), s.Inv ∧ s.domainOn 2 = true ∧ cls < 16 ∧ cls ≠ 12 ∧ cls ≠ 4 ∧ { cls := cls, scope := scope, rx := rx } ∈ s.mg.reports ∧ s.fld (Reg.MG_RX cls) Fld.MG_RX_rx = 0) ∧
    (∃ (s : State) (d : Nat), s.Inv ∧ s.domainOn 2 = true ∧ d < 2 ∧ { cls := 12, scope := driveScope d, rx := rxSafe } ∈ s.mg.reports) ∧
    (∃ (s : State) (core : Nat) (hi : Bool) (v : Word) (i : Nat), s.Inv ∧ s.domainOn 2 = true ∧ core < 3 ∧ s.cpuRatioOk = true ∧ bit v.toNat i = true ∧ i < (if hi then 8 else 32)) ∧
    (∃ (s : State) (core : Nat) (v : Word), s.Inv ∧ s.domainOn 2 = true ∧ core < 3 ∧ s.cpuRatioOk = true ∧ s.sourceUnder (Word.get v Fld.MG_CLR_scope) = true) ∧
    (∃ (s : State) (core : Nat) (v : Word) (g : Nat), s.Inv ∧ s.domainOn 2 = true ∧ core < 3 ∧ s.cpuRatioOk = true ∧ s.reactedNow (Word.get v Fld.MG_CLR_scope) = false ∧ scopeValid (Word.get v Fld.MG_CLR_scope) = true ∧ scopeLevel (Word.get v Fld.MG_CLR_scope) < 6 ∧ s.sourceUnder (Word.get v Fld.MG_CLR_scope) = false ∧ s.fstate 0 = 0 ∧ s.fstate 1 = 0 ∧ g ∈ scopeGens (Word.get v Fld.MG_CLR_scope)) ∧
    (∃ (s : State) (core : Nat) (v : Word) (d : Nat), s.Inv ∧ s.domainOn 2 = true ∧ core < 6 ∧ d < 2 ∧ s.cpuRatioOk = true ∧ s.fstate 0 = 0 ∧ s.fstate 1 = 0 ∧ Word.get v Fld.MG_SEL_ref = 0) ∧
    (∃ (s : State) (core : Nat) (v : Word) (d : Nat), s.Inv ∧ s.domainOn 2 = true ∧ core < 6 ∧ d < 2 ∧ s.cpuRatioOk = true ∧ bit (Word.get v Fld.MG_SEL_drv) d = true ∧ s.mgValid d = true ∧ (s.mgSpeed d).natAbs < s.fld (Reg.MG_SS1N d) Fld.MG_SS1N_nz) ∧
    (∃ (s : State), s.Inv ∧ s.domainOn 2 = true ∧ s.mg.dscWant = true ∧ s.val (sid 3 0x30) = 0 ∧ (∀ d, d < 2 → ((s.mgSpeed d).natAbs : Int) < s.nss d - s.nhys d) ∧ s.gate.dscHold.any (s.dtb < ·) = false) := by
  refine ⟨?_, ?_, ?_, ?_, ?_, ?_, ?_, ?_, ?_, ?_, ?_, ?_, ?_⟩
  · let R := quiet
    let core : Nat := 2
    let s : State := (let z : State := (calm R [2]); { z with power := { z.power with entry := R.power.entry } })
    exact ⟨s, core, holds_of (fun (h : _ ∧ _ ∧ _ ∧ _) => ⟨inv_of h.1, h.2.1, h.2.2.1, h.2.2.2⟩) (by decide +kernel +revert)⟩
  · let R := quiet
    let core : Nat := 2
    let s : State := (let z : State := (let z := (sets (calm R [2]) [(Reg.MG_STAT, Fld.MG_STAT_locked, 0)]); { z with mg := { z.mg with keyed := true, tested := true } }); { z with power := { z.power with entry := R.power.entry } })
    exact ⟨s, core, holds_of (fun (h : _ ∧ _ ∧ _ ∧ _ ∧ _ ∧ _) => ⟨inv_of h.1, h.2.1, h.2.2.1, h.2.2.2.1, h.2.2.2.2.1, h.2.2.2.2.2⟩) (by decide +kernel +revert)⟩
  · let R := quiet
    let s : State := (let z : State := (calm R [2]); { z with power := { z.power with entry := R.power.entry } })
    exact ⟨s, holds_of (fun (h : _ ∧ _) => ⟨inv_of h.1, h.2⟩) (by decide +kernel +revert)⟩
  · let R := quiet
    let core : Nat := 2
    let s : State := (let z : State := (calm R [2]); { z with power := { z.power with entry := R.power.entry } })
    exact ⟨s, core, holds_of (fun (h : _ ∧ _ ∧ _ ∧ _) => ⟨inv_of h.1, h.2.1, h.2.2.1, h.2.2.2⟩) (by decide +kernel +revert)⟩
  · let R := quiet
    let core : Nat := 3
    let s : State := (let z : State := (calm R [2]); { z with power := { z.power with entry := R.power.entry } })
    exact ⟨s, core, holds_of (fun (h : _ ∧ _ ∧ _ ∧ _ ∧ _) => ⟨inv_of h.1, h.2.1, h.2.2.1, h.2.2.2.1, h.2.2.2.2⟩) (by decide +kernel +revert)⟩
  · let R := quiet
    let cls : Nat := 0
    let scope : Nat := scopeOf 4 1
    let rx : Nat := 0
    let s : State := (let z : State := (let z := (sets (calm R [2]) [(Reg.MG_RX 0, Fld.MG_RX_rx, 0)]); { z with mg := { z.mg with reports := [{ cls := 0, scope := scopeOf 4 1 }, { cls := 0, scope := scopeOf 4 1 }] } }); { z with power := { z.power with entry := R.power.entry } })
    exact ⟨s, cls, scope, rx, holds_of (fun (h : _ ∧ _ ∧ _ ∧ _ ∧ _ ∧ _ ∧ _) => ⟨inv_of h.1, h.2.1, h.2.2.1, h.2.2.2.1, h.2.2.2.2.1, h.2.2.2.2.2.1, h.2.2.2.2.2.2⟩) (by decide +kernel +revert)⟩
  · let R := quiet
    let d : Nat := 0
    let s : State := (let z : State := (let z := (calm R [2]); { z with mg := { z.mg with reports := [{ cls := 12, scope := driveScope 0, rx := rxSafe }] } }); { z with power := { z.power with entry := R.power.entry } })
    exact ⟨s, d, holds_of (fun (h : _ ∧ _ ∧ _ ∧ _) => ⟨inv_of h.1, h.2.1, h.2.2.1, h.2.2.2⟩) (by decide +kernel +revert)⟩
  · let R := quiet
    let core : Nat := 2
    let hi : Bool := true
    let i : Nat := 7
    let v : Word := W (2 ^ 7)
    let s : State := (let z : State := (calm R [2]); { z with power := { z.power with entry := R.power.entry } })
    exact ⟨s, core, hi, v, i, holds_of (fun (h : _ ∧ _ ∧ _ ∧ _ ∧ _ ∧ _) => ⟨inv_of h.1, h.2.1, h.2.2.1, h.2.2.2.1, h.2.2.2.2.1, h.2.2.2.2.2⟩) (by decide +kernel +revert)⟩
  · let R := quiet
    let core : Nat := 2
    let v : Word := Word.put 0 Fld.MG_CLR_scope (scopeOf 4 1)
    let s : State := (let z : State := (let z := (calm R [2]); { z with mg := { z.mg with sources := [{ cls := 6, scope := driveScope 1 }] } }); { z with power := { z.power with entry := R.power.entry } })
    exact ⟨s, core, v, holds_of (fun (h : _ ∧ _ ∧ _ ∧ _ ∧ _) => ⟨inv_of h.1, h.2.1, h.2.2.1, h.2.2.2.1, h.2.2.2.2⟩) (by decide +kernel +revert)⟩
  · let R := quiet
    let core : Nat := 2
    let v : Word := Word.put 0 Fld.MG_CLR_scope (scopeOf 4 0)
    let g : Nat := 2
    let s : State := (let z : State := ((let z := (sets (calm R [2]) [(Reg.MG_DSTAT 0, Fld.MG_DSTAT_fstate, 0), (Reg.MG_DSTAT 1, Fld.MG_DSTAT_fstate, 0)]); { z with mg := { z.mg with sources := [], reports := [] } })).setf Reg.MG_TL6 (bitF 2) 1; { z with power := { z.power with entry := R.power.entry } })
    exact ⟨s, core, v, g, holds_of (fun (h : _ ∧ _ ∧ _ ∧ _ ∧ _ ∧ _ ∧ _ ∧ _ ∧ _ ∧ _ ∧ _) => ⟨inv_of h.1, h.2.1, h.2.2.1, h.2.2.2.1, h.2.2.2.2.1, h.2.2.2.2.2.1, h.2.2.2.2.2.2.1, h.2.2.2.2.2.2.2.1, h.2.2.2.2.2.2.2.2.1, h.2.2.2.2.2.2.2.2.2.1, h.2.2.2.2.2.2.2.2.2.2⟩) (by decide +kernel +revert)⟩
  · let R := quiet
    let core : Nat := 5
    let d : Nat := 0
    let v : Word := 0xFFFFFFFF &&& ~~~(Word.put 0 Fld.MG_SEL_ref 1)
    let s : State := (let z : State := (sets (calm R [2]) [(Reg.MG_DSTAT 0, Fld.MG_DSTAT_fstate, 0), (Reg.MG_DSTAT 1, Fld.MG_DSTAT_fstate, 0)]); { z with power := { z.power with entry := R.power.entry } })
    exact ⟨s, core, v, d, holds_of (fun (h : _ ∧ _ ∧ _ ∧ _ ∧ _ ∧ _ ∧ _ ∧ _) => ⟨inv_of h.1, h.2.1, h.2.2.1, h.2.2.2.1, h.2.2.2.2.1, h.2.2.2.2.2.1, h.2.2.2.2.2.2.1, h.2.2.2.2.2.2.2⟩) (by decide +kernel +revert)⟩
  · let R := quiet
    let core : Nat := 5
    let d : Nat := 0
    let v : Word := Word.put 0 Fld.MG_SEL_drv 3
    let s : State := (let z : State := (sets (calm R [2]) [(Reg.MG_SPD 0, Fld.MG_SPD_valid, 1), (Reg.MG_SPD 0, Fld.MG_SPD_n, 9), (Reg.MG_SS1N 0, Fld.MG_SS1N_nz, 10)]); { z with power := { z.power with entry := R.power.entry } })
    exact ⟨s, core, v, d, holds_of (fun (h : _ ∧ _ ∧ _ ∧ _ ∧ _ ∧ _ ∧ _ ∧ _) => ⟨inv_of h.1, h.2.1, h.2.2.1, h.2.2.2.1, h.2.2.2.2.1, h.2.2.2.2.2.1, h.2.2.2.2.2.2.1, h.2.2.2.2.2.2.2⟩) (by decide +kernel +revert)⟩
  · let R := quiet
    let s : State := (let z : State := (sv (let z := (sets (let z := (calm R [2]); { z with mg := { z.mg with dscWant := true } }) [(Reg.MG_SPD 0, Fld.MG_SPD_n, 9), (Reg.MG_NSS 0, Fld.MG_NSS_nss, 1000), (Reg.MG_NSS 0, Fld.MG_NSS_nhys, 100), (Reg.MG_SPD 1, Fld.MG_SPD_n, 9), (Reg.MG_NSS 1, Fld.MG_NSS_nss, 1000), (Reg.MG_NSS 1, Fld.MG_NSS_nhys, 100)]); { z with gate := { z.gate with dscHold := none } }) (sid 3 0x30) 0); { z with power := { z.power with entry := R.power.entry } })
    exact ⟨s, holds_of (fun (h : _ ∧ _ ∧ _ ∧ _ ∧ _ ∧ _) => ⟨inv_of h.1, h.2.1, h.2.2.1, h.2.2.2.1, h.2.2.2.2.1, h.2.2.2.2.2⟩) (by decide +kernel +revert)⟩

theorem witness_MartingaleInputs :
    (∃ (s : State) (n : Nat), s.Inv ∧ s.domainOn 2 = true ∧ n < 4 ∧ bit (s.fld Reg.MG_TP Fld.MG_TP_en) n = true ∧ s.mg.tpOff.length = 4 ∧ s.mg.tpOff.getD n false = false) ∧
    (∃ (s : State) (n : Nat), s.Inv ∧ s.domainOn 2 = true ∧ n < 4 ∧ s.mg.tpOff.getD n false = true) ∧
    (∃ (s : State) (i : Nat), s.Inv ∧ s.domainOn 2 = true ∧ i < 8 ∧ s.fld Reg.MG_TP Fld.MG_TP_en = 0) ∧
    (∃ (s : State) (i : Nat) (n : Nat), s.Inv ∧ s.domainOn 2 = true ∧ i < 8 ∧ (s.safetyIn i).a.since = some n) ∧
    (∃ (s : State) (i : Nat) (n : Nat), s.Inv ∧ s.domainOn 2 = true ∧ i < 8 ∧ (s.safetyIn i).b.since = some n) ∧
    (∃ (s : State) (i : Nat) (n : Nat), s.Inv ∧ s.domainOn 2 = true ∧ i < 8 ∧ (s.safetyIn i).disc = some n ∧ siState s i = 2) ∧
    (∃ (s : State) (i : Nat) (n : Nat), s.Inv ∧ s.domainOn 2 = true ∧ i < 8 ∧ (s.safetyIn i).openSince = some n ∧ siState s i = 3) ∧
    (∃ (s : State) (n : Nat), s.Inv ∧ s.domainOn 2 = true ∧ n < 4 ∧ bit (s.fld Reg.MG_SOSTAT Fld.MG_SOSTAT_on) n = true ∧ s.mg.soOff.length = 4 ∧ s.mg.soOff.getD n none = none) ∧
    (∃ (s : State) (n : Nat) (at_ : Nat), s.Inv ∧ s.domainOn 2 = true ∧ n < 4 ∧ s.mg.soOff.getD n none = some at_) ∧
    (∃ (s : State) (core : Nat) (v : Word) (n : Nat), s.Inv ∧ s.domainOn 2 = true ∧ core < 6 ∧ s.cpuRatioOk = true ∧ n < 4 ∧ bit v.toNat (8 + n) = true) ∧
    (∃ (s : State) (core : Nat), s.Inv ∧ s.domainOn 2 = true ∧ core < 6 ∧ s.cpuRatioOk = true ∧ s.domainOn 4 = true ∧ (∀ g, g < 6 → s.on (Reg.PWM_CTRL g) Fld.PWM_CTRL_en = false) ∧ s.mg.testDue = none) ∧
    (∃ (s : State) (n : Nat), s.Inv ∧ s.domainOn 2 = true ∧ s.mg.testDue = some n) := by
  refine ⟨?_, ?_, ?_, ?_, ?_, ?_, ?_, ?_, ?_, ?_, ?_, ?_⟩
  · let R := quiet
    let n : Nat := 0
    let s : State := (let z : State := (let z := (sets (calm R [2]) [(Reg.MG_TP, Fld.MG_TP_en, 15)]); { z with mg := { z.mg with tpOff := List.replicate 4 false } }); { z with power := { z.power with entry := R.power.entry } })
    exact ⟨s, n, holds_of (fun (h : _ ∧ _ ∧ _ ∧ _ ∧ _ ∧ _) => ⟨inv_of h.1, h.2.1, h.2.2.1, h.2.2.2.1, h.2.2.2.2.1, h.2.2.2.2.2⟩) (by decide +kernel +revert)⟩
  · let R := quiet
    let n : Nat := 0
    let s : State := (let z : State := (let z := (calm R [2]); { z with mg := { z.mg with tpOff := List.replicate 4 true } }); { z with power := { z.power with entry := R.power.entry } })
    exact ⟨s, n, holds_of (fun (h : _ ∧ _ ∧ _ ∧ _) => ⟨inv_of h.1, h.2.1, h.2.2.1, h.2.2.2⟩) (by decide +kernel +revert)⟩
  · let R := quiet
    let i : Nat := 0
    let s : State := (let z : State := (sets (calm R [2]) [(Reg.MG_TP, Fld.MG_TP_en, 0)]); { z with power := { z.power with entry := R.power.entry } })
    exact ⟨s, i, holds_of (fun (h : _ ∧ _ ∧ _ ∧ _) => ⟨inv_of h.1, h.2.1, h.2.2.1, h.2.2.2⟩) (by decide +kernel +revert)⟩
  · let R := quiet
    let i : Nat := 0
    let n : Nat := 5
    let s : State := (let z : State := (let z := (calm R [2]); { z with mg := { z.mg with inputs := z.mg.inputs.modify 0 (fun x => { x with a := { x.a with since := some 5 } }) } }); { z with power := { z.power with entry := R.power.entry } })
    exact ⟨s, i, n, holds_of (fun (h : _ ∧ _ ∧ _ ∧ _) => ⟨inv_of h.1, h.2.1, h.2.2.1, h.2.2.2⟩) (by decide +kernel +revert)⟩
  · let R := quiet
    let i : Nat := 0
    let n : Nat := 5
    let s : State := (let z : State := (let z := (calm R [2]); { z with mg := { z.mg with inputs := z.mg.inputs.modify 0 (fun x => { x with b := { x.b with since := some 5 } }) } }); { z with power := { z.power with entry := R.power.entry } })
    exact ⟨s, i, n, holds_of (fun (h : _ ∧ _ ∧ _ ∧ _) => ⟨inv_of h.1, h.2.1, h.2.2.1, h.2.2.2⟩) (by decide +kernel +revert)⟩
  · let R := quiet
    let i : Nat := 0
    let n : Nat := 5
    let s : State := (let z : State := (let z := (((calm R [2])).setf Reg.MG_SISTAT ⟨0, 2⟩ 2); { z with mg := { z.mg with inputs := z.mg.inputs.modify 0 (fun x => { x with disc := some 5 }) } }); { z with power := { z.power with entry := R.power.entry } })
    exact ⟨s, i, n, holds_of (fun (h : _ ∧ _ ∧ _ ∧ _ ∧ _) => ⟨inv_of h.1, h.2.1, h.2.2.1, h.2.2.2.1, h.2.2.2.2⟩) (by decide +kernel +revert)⟩
  · let R := quiet
    let i : Nat := 0
    let n : Nat := 5
    let s : State := (let z : State := (let z := (((calm R [2])).setf Reg.MG_SISTAT ⟨0, 2⟩ 3); { z with mg := { z.mg with inputs := z.mg.inputs.modify 0 (fun x => { x with openSince := some 5 }) } }); { z with power := { z.power with entry := R.power.entry } })
    exact ⟨s, i, n, holds_of (fun (h : _ ∧ _ ∧ _ ∧ _ ∧ _) => ⟨inv_of h.1, h.2.1, h.2.2.1, h.2.2.2.1, h.2.2.2.2⟩) (by decide +kernel +revert)⟩
  · let R := quiet
    let n : Nat := 0
    let s : State := (let z : State := (let z := (sets (calm R [2]) [(Reg.MG_SOSTAT, Fld.MG_SOSTAT_on, 15)]); { z with mg := { z.mg with soOff := List.replicate 4 none } }); { z with power := { z.power with entry := R.power.entry } })
    exact ⟨s, n, holds_of (fun (h : _ ∧ _ ∧ _ ∧ _ ∧ _ ∧ _) => ⟨inv_of h.1, h.2.1, h.2.2.1, h.2.2.2.1, h.2.2.2.2.1, h.2.2.2.2.2⟩) (by decide +kernel +revert)⟩
  · let R := quiet
    let n : Nat := 0
    let at_ : Nat := 7
    let s : State := (let z : State := (let z := (calm R [2]); { z with mg := { z.mg with soOff := List.replicate 4 (some 7) } }); { z with power := { z.power with entry := R.power.entry } })
    exact ⟨s, n, at_, holds_of (fun (h : _ ∧ _ ∧ _ ∧ _) => ⟨inv_of h.1, h.2.1, h.2.2.1, h.2.2.2⟩) (by decide +kernel +revert)⟩
  · let R := quiet
    let core : Nat := 5
    let v : Word := 0xF00
    let n : Nat := 0
    let s : State := (let z : State := (sets (calm R [2]) [(Reg.MG_SO 0, Fld.MG_SO_src, 2), (Reg.MG_STAT, Fld.MG_STAT_sto, 1), (Reg.MG_SOSTAT, Fld.MG_SOSTAT_flt, 15)]); { z with power := { z.power with entry := R.power.entry } })
    exact ⟨s, core, v, n, holds_of (fun (h : _ ∧ _ ∧ _ ∧ _ ∧ _ ∧ _) => ⟨inv_of h.1, h.2.1, h.2.2.1, h.2.2.2.1, h.2.2.2.2.1, h.2.2.2.2.2⟩) (by decide +kernel +revert)⟩
  · let R := quiet
    let core : Nat := 5
    let s : State := (let z : State := ((List.range 6).foldl (fun s g => s.setf (Reg.PWM_CTRL g) Fld.PWM_CTRL_en 0) (let z := (calm R [2, 4]); { z with mg := { z.mg with testDue := none } })); { z with power := { z.power with entry := R.power.entry } })
    exact ⟨s, core, holds_of (fun (h : _ ∧ _ ∧ _ ∧ _ ∧ _ ∧ _ ∧ _) => ⟨inv_of h.1, h.2.1, h.2.2.1, h.2.2.2.1, h.2.2.2.2.1, h.2.2.2.2.2.1, h.2.2.2.2.2.2⟩) (by decide +kernel +revert)⟩
  · let R := quiet
    let n : Nat := 9
    let s : State := (let z : State := (let z := (calm R [2]); { z with mg := { z.mg with testDue := some 9 } }); { z with power := { z.power with entry := R.power.entry } })
    exact ⟨s, n, holds_of (fun (h : _ ∧ _ ∧ _) => ⟨inv_of h.1, h.2.1, h.2.2⟩) (by decide +kernel +revert)⟩

theorem witness_MartingaleDrives :
    (∃ (s : State) (d : Nat), s.Inv ∧ d < 2 ∧ s.domainOn 2 = true) ∧
    (∃ (s : State) (d : Nat), s.Inv ∧ d < 2 ∧ s.mgValid d = true ∧ 3 ≤ (s.mgDrive d).bad) ∧
    (∃ (s : State) (d : Nat), s.Inv ∧ d < 2 ∧ s.mgValid d = false ∧ 4 ≤ (s.mgDrive d).good) ∧
    (∃ (s : State) (d : Nat), s.Inv ∧ d < 2 ∧ 10 ≤ (s.mgDrive d).xcheck) ∧
    (∃ (s : State) (d : Nat), s.Inv ∧ d < 2 ∧ s.fstate d = 1) := by
  refine ⟨?_, ?_, ?_, ?_, ?_⟩
  · let R := quiet
    let d : Nat := 0
    let s : State := (let z : State := (calm R [2]); { z with power := { z.power with entry := R.power.entry } })
    exact ⟨s, d, holds_of (fun (h : _ ∧ _ ∧ _) => ⟨inv_of h.1, h.2.1, h.2.2⟩) (by decide +kernel +revert)⟩
  · let R := quiet
    let d : Nat := 0
    let s : State := (let z : State := (let z := (sets (calm R [2]) [(Reg.MG_SPD 0, Fld.MG_SPD_valid, 1)]); { z with mg := { z.mg with drives := z.mg.drives.modify 0 (fun m => { m with bad := 3 }) } }); { z with power := { z.power with entry := R.power.entry } })
    exact ⟨s, d, holds_of (fun (h : _ ∧ _ ∧ _ ∧ _) => ⟨inv_of h.1, h.2.1, h.2.2.1, h.2.2.2⟩) (by decide +kernel +revert)⟩
  · let R := quiet
    let d : Nat := 0
    let s : State := (let z : State := (let z := (sets (calm R [2]) [(Reg.MG_SPD 0, Fld.MG_SPD_valid, 0)]); { z with mg := { z.mg with drives := z.mg.drives.modify 0 (fun m => { m with good := 4 }) } }); { z with power := { z.power with entry := R.power.entry } })
    exact ⟨s, d, holds_of (fun (h : _ ∧ _ ∧ _ ∧ _) => ⟨inv_of h.1, h.2.1, h.2.2.1, h.2.2.2⟩) (by decide +kernel +revert)⟩
  · let R := quiet
    let d : Nat := 0
    let s : State := (let z : State := (let z := (let z := (calm R [2]); { z with mg := { z.mg with sources := [] } }); { z with mg := { z.mg with drives := z.mg.drives.modify 0 (fun m => { m with xcheck := 10 }) } }); { z with power := { z.power with entry := R.power.entry } })
    exact ⟨s, d, holds_of (fun (h : _ ∧ _ ∧ _) => ⟨inv_of h.1, h.2.1, h.2.2⟩) (by decide +kernel +revert)⟩
  · let R := quiet
    let d : Nat := 0
    let s : State := (let z : State := (let z := (sets (calm R [2]) [(Reg.MG_DSTAT 0, Fld.MG_DSTAT_fstate, 1), (Reg.MG_SPD 0, Fld.MG_SPD_n, 0)]); { z with mg := { z.mg with drives := z.mg.drives.modify 0 (fun m => { m with n0 := 5000 }) } }); { z with power := { z.power with entry := R.power.entry } })
    exact ⟨s, d, holds_of (fun (h : _ ∧ _ ∧ _) => ⟨inv_of h.1, h.2.1, h.2.2⟩) (by decide +kernel +revert)⟩

theorem witness_ThermalCommands :
    (∃ (s : State) (z : Nat) (due : Nat), s.Inv ∧ z < 8 ∧ s.domainOn 3 = true ∧ s.on Reg.TH_CTRL Fld.TH_CTRL_en = true ∧ (s.zone z).nextAt = some due) ∧
    (∃ (s : State) (r : List Byte) (rest : List (List Byte)), s.Inv ∧ s.thermal.records = r :: rest ∧ s.domainOn 7 = true ∧ r.length = 32) ∧
    (∃ (s : State) (core : Nat), s.Inv ∧ core < 3 ∧ s.cpuRatioOk = true ∧ s.domainOn 3 = true) := by
  refine ⟨?_, ?_, ?_⟩
  · let R := quiet
    let z : Nat := 0
    let due : Nat := 9
    let s : State := (let z : State := ((calm R [3]).setf Reg.TH_CTRL Fld.TH_CTRL_en 1).wr (Reg.TH_ZSEN 0) 0; { z with thermal := { z.thermal with zones := z.thermal.zones.modify 0 (fun x => { x with nextAt := some 9 }) } })
    exact ⟨s, z, due, holds_of (fun (h : _ ∧ _ ∧ _ ∧ _ ∧ _) => ⟨inv_of h.1, h.2.1, h.2.2.1, h.2.2.2.1, h.2.2.2.2⟩) (by decide +kernel +revert)⟩
  · let R := quiet
    let r : List Byte := List.replicate 32 5
    let rest : List (List Byte) := [[1]]
    let s : State := (let z : State := (calm R [7]).setf Reg.TH_RECPTR Fld.TH_RECPTR_n 0; { z with thermal := { z.thermal with records := [List.replicate 32 5, [1]] } })
    exact ⟨s, r, rest, holds_of (fun (h : _ ∧ _ ∧ _ ∧ _) => ⟨inv_of h.1, h.2.1, h.2.2.1, h.2.2.2⟩) (by decide +kernel +revert)⟩
  · let R := quiet
    let core : Nat := 2
    let s : State := (calm R [3])
    exact ⟨s, core, holds_of (fun (h : _ ∧ _ ∧ _ ∧ _) => ⟨inv_of h.1, h.2.1, h.2.2.1, h.2.2.2⟩) (by decide +kernel +revert)⟩

theorem witness_BusPorts :
    (∃ (s : State) (p : Nat) (core : Nat) (v : Word), s.Inv ∧ p < 4 ∧ s.domainOn 5 = true ∧ s.clocked 7 = true ∧ core < 6 ∧ s.cpuRatioOk = true ∧ s.on (Reg.BUS_CTRL p) Fld.BUS_CTRL_en = false ∧ Word.get v Fld.BUS_CTRL_en = 1 ∧ Word.get v Fld.BUS_CTRL_slp = 0) ∧
    (∃ (s : State) (p : Nat), s.Inv ∧ p < 4 ∧ s.domainOn 5 = true ∧ s.clocked 7 = true ∧ s.portOn p = true ∧ s.clkScale = 0) ∧
    (∃ (s : State) (p : Nat) (core : Nat) (k : Nat), s.Inv ∧ p < 4 ∧ s.domainOn 5 = true ∧ s.clocked 7 = true ∧ core < 6 ∧ s.cpuRatioOk = true ∧ k < 1024) ∧
    (∃ (s : State) (p : Nat) (core : Nat) (j : Nat), s.Inv ∧ p < 4 ∧ s.domainOn 5 = true ∧ s.clocked 7 = true ∧ core < 6 ∧ s.cpuRatioOk = true ∧ j < 64 ∧ s.on (Reg.TXO_CFG p j) Fld.TXO_CFG_en = true ∧ (s.busAt p).tx.find? (fun x => x.obj = j) = none) ∧
    (∃ (s : State) (p : Nat) (j : Nat) (x : Nat × Nat), s.Inv ∧ p < 4 ∧ s.domainOn 5 = true ∧ s.clocked 7 = true ∧ j < 64 ∧ (s.busAt p).due.find? (fun x => x.1 = j) = some x ∧ (s.busAt p).tx.find? (fun x => x.obj = j) = none) ∧
    (∃ (s : State) (p : Nat) (obj : Nat) (start : Nat), s.Inv ∧ p < 4 ∧ s.domainOn 5 = true ∧ s.clocked 7 = true ∧ obj < 64 ∧ s.attemptOf p obj start = true ∧ s.busMode p ≠ 3) ∧
    (∃ (s : State) (p : Nat) (obj : Nat) (start : Nat) (err : Nat), s.Inv ∧ p < 4 ∧ s.domainOn 5 = true ∧ s.clocked 7 = true ∧ err < 3 ∧ s.attemptOf p obj start = true) ∧
    (∃ (s : State) (p : Nat) (obj : Nat) (n : Nat) (d : Nat), s.Inv ∧ p < 4 ∧ s.domainOn 5 = true ∧ s.clocked 7 = true ∧ obj < 64 ∧ (s.pendingFrames p).find? (fun x => x.1 = obj) = some (obj, n, some d)) ∧
    (∃ (s : State) (p : Nat), s.Inv ∧ p < 4 ∧ s.domainOn 5 = true ∧ s.clocked 7 = true ∧ s.portLive p = true) ∧
    (∃ (s : State) (p : Nat), s.Inv ∧ p < 4 ∧ s.domainOn 5 = true ∧ s.clocked 7 = true ∧ s.portLive p = true) ∧
    (∃ (s : State) (p : Nat) (core : Nat), s.Inv ∧ p < 4 ∧ s.domainOn 5 = true ∧ s.clocked 7 = true ∧ core < 6 ∧ s.cpuRatioOk = true ∧ s.on (Reg.BUS_STAT p) Fld.BUS_STAT_boff = true) ∧
    (∃ (s : State) (p : Nat), s.Inv ∧ p < 4 ∧ s.domainOn 5 = true ∧ s.clocked 7 = true ∧ s.portOn p = true ∧ s.on (Reg.BUS_STAT p) Fld.BUS_STAT_boff = true ∧ (s.busAt p).counting = true) := by
  refine ⟨?_, ?_, ?_, ?_, ?_, ?_, ?_, ?_, ?_, ?_, ?_, ?_⟩
  · let R := quiet
    let p : Nat := 3
    let core : Nat := 5
    let v : Word := 1
    let s : State := R.setf (Reg.BUS_CTRL 3) Fld.BUS_CTRL_en 0
    exact ⟨s, p, core, v, holds_of (fun (h : _ ∧ _ ∧ _ ∧ _ ∧ _ ∧ _ ∧ _ ∧ _ ∧ _) => ⟨inv_of h.1, h.2.1, h.2.2.1, h.2.2.2.1, h.2.2.2.2.1, h.2.2.2.2.2.1, h.2.2.2.2.2.2.1, h.2.2.2.2.2.2.2.1, h.2.2.2.2.2.2.2.2⟩) (by decide +kernel +revert)⟩
  · let R := quiet
    let p : Nat := 3
    let s : State := portUp R 3
    exact ⟨s, p, holds_of (fun (h : _ ∧ _ ∧ _ ∧ _ ∧ _ ∧ _) => ⟨inv_of h.1, h.2.1, h.2.2.1, h.2.2.2.1, h.2.2.2.2.1, h.2.2.2.2.2⟩) (by decide +kernel +revert)⟩
  · let R := quiet
    let p : Nat := 3
    let core : Nat := 0
    let k : Nat := 1023
    let s : State := R
    exact ⟨s, p, core, k, holds_of (fun (h : _ ∧ _ ∧ _ ∧ _ ∧ _ ∧ _ ∧ _) => ⟨inv_of h.1, h.2.1, h.2.2.1, h.2.2.2.1, h.2.2.2.2.1, h.2.2.2.2.2.1, h.2.2.2.2.2.2⟩) (by decide +kernel +revert)⟩
  · let R := quiet
    let p : Nat := 3
    let core : Nat := 1
    let j : Nat := 63
    let s : State := R.setf (Reg.TXO_CFG 3 63) Fld.TXO_CFG_en 1
    exact ⟨s, p, core, j, holds_of (fun (h : _ ∧ _ ∧ _ ∧ _ ∧ _ ∧ _ ∧ _ ∧ _ ∧ _) => ⟨inv_of h.1, h.2.1, h.2.2.1, h.2.2.2.1, h.2.2.2.2.1, h.2.2.2.2.2.1, h.2.2.2.2.2.2.1, h.2.2.2.2.2.2.2.1, h.2.2.2.2.2.2.2.2⟩) (by decide +kernel +revert)⟩
  · let R := quiet
    let p : Nat := 3
    let j : Nat := 63
    let x : Nat × Nat := ((63, 7) : Nat × Nat)
    let s : State := R.modBus 3 (fun b => { b with due := [(63, 7)], tx := [] })
    exact ⟨s, p, j, x, holds_of (fun (h : _ ∧ _ ∧ _ ∧ _ ∧ _ ∧ _ ∧ _) => ⟨inv_of h.1, h.2.1, h.2.2.1, h.2.2.2.1, h.2.2.2.2.1, h.2.2.2.2.2.1, h.2.2.2.2.2.2⟩) (by decide +kernel +revert)⟩
  · let R := quiet
    let p : Nat := 3
    let obj : Nat := 63
    let start : Nat := 0
    let s : State := (portUp R 3).modBus 3 (fun b => { b with tx := [{ obj := 63, data := [], since := 0, packed := 0, deadline := none }], replies := [] })
    exact ⟨s, p, obj, start, holds_of (fun (h : _ ∧ _ ∧ _ ∧ _ ∧ _ ∧ _ ∧ _) => ⟨inv_of h.1, h.2.1, h.2.2.1, h.2.2.2.1, h.2.2.2.2.1, h.2.2.2.2.2.1, h.2.2.2.2.2.2⟩) (by decide +kernel +revert)⟩
  · let R := quiet
    let p : Nat := 3
    let obj : Nat := 63
    let start : Nat := 0
    let err : Nat := 1
    let s : State := ((portUp R 3).modBus 3 (fun b => { b with tx := [{ obj := 63, data := [], since := 0, packed := 0, deadline := none }], replies := [] })).setf (Reg.BUS_ERR 3) Fld.BUS_ERR_tec 250
    exact ⟨s, p, obj, start, err, holds_of (fun (h : _ ∧ _ ∧ _ ∧ _ ∧ _ ∧ _) => ⟨inv_of h.1, h.2.1, h.2.2.1, h.2.2.2.1, h.2.2.2.2.1, h.2.2.2.2.2⟩) (by decide +kernel +revert)⟩
  · let R := quiet
    let p : Nat := 3
    let obj : Nat := 63
    let n : Nat := 0
    let d : Nat := 400000
    let s : State := R.modBus 3 (fun b => { b with tx := [{ obj := 63, data := [], since := 0, packed := 0, deadline := some 400000 }] })
    exact ⟨s, p, obj, n, d, holds_of (fun (h : _ ∧ _ ∧ _ ∧ _ ∧ _ ∧ _) => ⟨inv_of h.1, h.2.1, h.2.2.1, h.2.2.2.1, h.2.2.2.2.1, h.2.2.2.2.2⟩) (by decide +kernel +revert)⟩
  · let R := quiet
    let p : Nat := 3
    let s : State := portUp R 3
    exact ⟨s, p, holds_of (fun (h : _ ∧ _ ∧ _ ∧ _ ∧ _) => ⟨inv_of h.1, h.2.1, h.2.2.1, h.2.2.2.1, h.2.2.2.2⟩) (by decide +kernel +revert)⟩
  · let R := quiet
    let p : Nat := 3
    let s : State := portUp R 3
    exact ⟨s, p, holds_of (fun (h : _ ∧ _ ∧ _ ∧ _ ∧ _) => ⟨inv_of h.1, h.2.1, h.2.2.1, h.2.2.2.1, h.2.2.2.2⟩) (by decide +kernel +revert)⟩
  · let R := quiet
    let p : Nat := 3
    let core : Nat := 0
    let s : State := R.setf (Reg.BUS_STAT 3) Fld.BUS_STAT_boff 1
    exact ⟨s, p, core, holds_of (fun (h : _ ∧ _ ∧ _ ∧ _ ∧ _ ∧ _ ∧ _) => ⟨inv_of h.1, h.2.1, h.2.2.1, h.2.2.2.1, h.2.2.2.2.1, h.2.2.2.2.2.1, h.2.2.2.2.2.2⟩) (by decide +kernel +revert)⟩
  · let R := quiet
    let p : Nat := 3
    let s : State := ((portUp R 3).setf (Reg.BUS_STAT 3) Fld.BUS_STAT_boff 1).modBus 3 (fun b => { b with counting := true })
    exact ⟨s, p, holds_of (fun (h : _ ∧ _ ∧ _ ∧ _ ∧ _ ∧ _ ∧ _) => ⟨inv_of h.1, h.2.1, h.2.2.1, h.2.2.2.1, h.2.2.2.2.1, h.2.2.2.2.2.1, h.2.2.2.2.2.2⟩) (by decide +kernel +revert)⟩

theorem witness_BusFramesAndSleep :
    (∃ (s : State) (p : Nat) (fmt : Nat) (ide : Bool) (id : Nat) (data : List Byte) (sdt : Nat) (vcid : Nat) (af : Nat) (k : Nat), s.Inv ∧ p < 4 ∧ s.portLive p = true ∧ s.busMode p ≠ 3 ∧ s.formatOn p { fmt := fmt, ide := ide, id := id, data := data, sdt := sdt, vcid := vcid, af := af } = true ∧ frameLengthOk { fmt := fmt, ide := ide, id := id, data := data, sdt := sdt, vcid := vcid, af := af } = true ∧ fmt < 2 ∧ s.bridleRequest p { fmt := fmt, ide := ide, id := id, data := data, sdt := sdt, vcid := vcid, af := af } = false ∧ (((s.inc (Reg.BUS_CNT_RX p)).rxGood p).rxObjects p).find? (fun k => s.rxMatches p k { fmt := fmt, ide := ide, id := id, data := data, sdt := sdt, vcid := vcid, af := af }) = some k ∧ k < 1024) ∧
    (∃ (s : State) (p : Nat) (i : Nat) (n : Nat), s.Inv ∧ p < 4 ∧ i < 16 ∧ (s.busAt p).watch.getD i none = some n ∧ s.on (Reg.BUS_SUP p i) Fld.BUS_SUP_en = true ∧ s.on (Reg.BUS_SUP p i) Fld.BUS_SUP_tmo = true ∧ s.portOn p = true ∧ s.clocked 7 = true) ∧
    (∃ (s : State) (core : Nat) (p : Nat), s.Inv ∧ core < 6 ∧ p < 4 ∧ s.cpuRatioOk = true ∧ s.domainOn 5 = true ∧ s.clocked 7 = true ∧ s.on (Reg.BUS_STAT p) Fld.BUS_STAT_awake = true) ∧
    (∃ (s : State) (core : Nat) (p : Nat), s.Inv ∧ core < 6 ∧ p < 4 ∧ s.cpuRatioOk = true ∧ s.domainOn 5 = true ∧ s.clocked 7 = true ∧ s.portLive p = true) ∧
    (∃ (s : State) (core : Nat) (p : Nat), s.Inv ∧ core < 6 ∧ p < 4 ∧ s.cpuRatioOk = true ∧ s.domainOn 5 = true ∧ s.clocked 7 = true) ∧
    (∃ (s : State) (core : Nat) (p : Nat) (cycles : Nat), s.Inv ∧ core < 6 ∧ p < 4 ∧ s.domainOn 5 = true ∧ 2000 ≤ cycles ∧ s.on (Reg.BUS_STAT p) Fld.BUS_STAT_awake = false ∧ (s.busAt p).sleepWait = false) ∧
    (∃ (s : State) (core : Nat) (p : Nat) (cycles : Nat), s.Inv ∧ core < 6 ∧ p < 4 ∧ cycles < 200) ∧
    (∃ (s : State) (cycles : Nat), s.Inv ∧ s.domainOn 5 = false ∧ s.on Reg.KPR_BSTAT Fld.KPR_BSTAT_closed = true ∧ s.fld Reg.KPR_BWAKE Fld.KPR_BWAKE_mode = 1 ∧ 2000 ≤ cycles ∧ s.boot.stage ≠ 0) ∧
    (∃ (s : State), s.Inv ∧ s.domainOn 5 = false ∧ s.on Reg.KPR_BSTAT Fld.KPR_BSTAT_closed = true ∧ s.fld Reg.KPR_BWAKE Fld.KPR_BWAKE_mode = 2 ∧ s.fld Reg.KPR_BWSTAT Fld.KPR_BWSTAT_fec < 31) := by
  refine ⟨?_, ?_, ?_, ?_, ?_, ?_, ?_, ?_, ?_⟩
  · let R := quiet
    let p : Nat := 3
    let fmt : Nat := 1
    let ide : Bool := true
    let id : Nat := 77
    let data : List Byte := [1, 2]
    let sdt : Nat := 0
    let vcid : Nat := 0
    let af : Nat := 0
    let k : Nat := 9
    let s : State := sets (portUp R 3) [(Reg.BUS_CTRL 3, Fld.BUS_CTRL_fd, 1), (Reg.BUS_BRQ 3, Fld.BUS_BRQ_en, 0), (Reg.RXO_CFG 3 9, Fld.RXO_CFG_en, 1), (Reg.RXO_CFG 3 9, Fld.RXO_CFG_fmt, 1), (Reg.RXO_CFG 3 9, Fld.RXO_CFG_ide, 1), (Reg.RXO_CFG 3 9, Fld.RXO_CFG_cons, 1), (Reg.RXO_ID 3 9, Fld.RXO_ID_id, 77)]
    exact ⟨s, p, fmt, ide, id, data, sdt, vcid, af, k, holds_of (fun (h : _ ∧ _ ∧ _ ∧ _ ∧ _ ∧ _ ∧ _ ∧ _ ∧ _ ∧ _) => ⟨inv_of h.1, h.2.1, h.2.2.1, h.2.2.2.1, h.2.2.2.2.1, h.2.2.2.2.2.1, h.2.2.2.2.2.2.1, h.2.2.2.2.2.2.2.1, h.2.2.2.2.2.2.2.2.1, h.2.2.2.2.2.2.2.2.2⟩) (by decide +kernel +revert)⟩
  · let R := quiet
    let p : Nat := 3
    let i : Nat := 15
    let n : Nat := 0
    let s : State := (sets (portUp R 3) [(Reg.BUS_SUP 3 15, Fld.BUS_SUP_en, 1), (Reg.BUS_SUP 3 15, Fld.BUS_SUP_tmo, 20)]).modBus 3 (fun b => { b with watch := List.replicate 16 (some 0) })
    exact ⟨s, p, i, n, holds_of (fun (h : _ ∧ _ ∧ _ ∧ _ ∧ _ ∧ _ ∧ _ ∧ _) => ⟨inv_of h.1, h.2.1, h.2.2.1, h.2.2.2.1, h.2.2.2.2.1, h.2.2.2.2.2.1, h.2.2.2.2.2.2.1, h.2.2.2.2.2.2.2⟩) (by decide +kernel +revert)⟩
  · let R := quiet
    let p : Nat := 3
    let core : Nat := 0
    let s : State := R.setf (Reg.BUS_STAT 3) Fld.BUS_STAT_awake 1
    exact ⟨s, core, p, holds_of (fun (h : _ ∧ _ ∧ _ ∧ _ ∧ _ ∧ _ ∧ _) => ⟨inv_of h.1, h.2.1, h.2.2.1, h.2.2.2.1, h.2.2.2.2.1, h.2.2.2.2.2.1, h.2.2.2.2.2.2⟩) (by decide +kernel +revert)⟩
  · let R := quiet
    let p : Nat := 3
    let core : Nat := 0
    let s : State := portUp R 3
    exact ⟨s, core, p, holds_of (fun (h : _ ∧ _ ∧ _ ∧ _ ∧ _ ∧ _ ∧ _) => ⟨inv_of h.1, h.2.1, h.2.2.1, h.2.2.2.1, h.2.2.2.2.1, h.2.2.2.2.2.1, h.2.2.2.2.2.2⟩) (by decide +kernel +revert)⟩
  · let R := quiet
    let p : Nat := 3
    let core : Nat := 5
    let s : State := R
    exact ⟨s, core, p, holds_of (fun (h : _ ∧ _ ∧ _ ∧ _ ∧ _ ∧ _) => ⟨inv_of h.1, h.2.1, h.2.2.1, h.2.2.2.1, h.2.2.2.2.1, h.2.2.2.2.2⟩) (by decide +kernel +revert)⟩
  · let R := quiet
    let p : Nat := 3
    let core : Nat := 5
    let cycles : Nat := 2000
    let s : State := (R.setf (Reg.BUS_STAT 3) Fld.BUS_STAT_awake 0).modBus 3 (fun b => { b with sleepWait := false })
    exact ⟨s, core, p, cycles, holds_of (fun (h : _ ∧ _ ∧ _ ∧ _ ∧ _ ∧ _ ∧ _) => ⟨inv_of h.1, h.2.1, h.2.2.1, h.2.2.2.1, h.2.2.2.2.1, h.2.2.2.2.2.1, h.2.2.2.2.2.2⟩) (by decide +kernel +revert)⟩
  · let R := quiet
    let p : Nat := 3
    let core : Nat := 5
    let cycles : Nat := 199
    let s : State := R
    exact ⟨s, core, p, cycles, holds_of (fun (h : _ ∧ _ ∧ _ ∧ _) => ⟨inv_of h.1, h.2.1, h.2.2.1, h.2.2.2⟩) (by decide +kernel +revert)⟩
  · let R := quiet
    let cycles : Nat := 2000
    let s : State := { sets (R.setDomain 5 1) [(Reg.KPR_BSTAT, Fld.KPR_BSTAT_closed, 1), (Reg.KPR_BWAKE, Fld.KPR_BWAKE_mode, 1)] with boot := { R.boot with stage := 4 } }
    exact ⟨s, cycles, holds_of (fun (h : _ ∧ _ ∧ _ ∧ _ ∧ _ ∧ _) => ⟨inv_of h.1, h.2.1, h.2.2.1, h.2.2.2.1, h.2.2.2.2.1, h.2.2.2.2.2⟩) (by decide +kernel +revert)⟩
  · let R := quiet
    let s : State := sets (R.setDomain 5 1) [(Reg.KPR_BSTAT, Fld.KPR_BSTAT_closed, 1), (Reg.KPR_BWAKE, Fld.KPR_BWAKE_mode, 2), (Reg.KPR_BWSTAT, Fld.KPR_BWSTAT_fec, 30)]
    exact ⟨s, holds_of (fun (h : _ ∧ _ ∧ _ ∧ _ ∧ _) => ⟨inv_of h.1, h.2.1, h.2.2.1, h.2.2.2.1, h.2.2.2.2⟩) (by decide +kernel +revert)⟩

theorem witness_BridleChecks :
    (∃ (s : State) (q : Packet) (op : Nat) (c : Instr), s.Inv ∧ (q.EngineCommand op c ∨ q.FirmwareCommand op c) ∧ q.Reaches op s ∧ (¬q.InSession s)) ∧
    (∃ (s : State) (q : Packet) (op : Nat) (c : Instr), s.Inv ∧ (q.EngineCommand op c ∨ q.FirmwareCommand op c) ∧ q.Reaches op s ∧ q.InSession s ∧ (¬q.Authentic op s)) ∧
    (∃ (s : State) (q : Packet) (op : Nat) (c : Instr), s.Inv ∧ (q.EngineCommand op c ∨ q.FirmwareCommand op c) ∧ q.Reaches op s ∧ q.InSession s ∧ q.Authentic op s ∧ s.slotFree = none) ∧
    (∃ (s : State) (q : Packet) (op : Nat) (c : Instr) (i : Nat), s.Inv ∧ (q.EngineCommand op c ∨ q.FirmwareCommand op c) ∧ q.Reaches op s ∧ q.InSession s ∧ q.Authentic op s ∧ s.slotFree = some i ∧ q.n ≠ 0 ∧ s.inPipeline q.n q.seq = true) ∧
    (∃ (s : State) (q : Packet) (op : Nat) (c : Instr) (i : Nat) (old : Nat × List Byte), s.Inv ∧ (q.EngineCommand op c ∨ q.FirmwareCommand op c) ∧ q.Reaches op s ∧ q.InSession s ∧ q.Authentic op s ∧ s.slotFree = some i ∧ q.n ≠ 0 ∧ s.inPipeline q.n q.seq = false ∧ q.seq ≤ s.smax q.n ∧ (s.sess q.n).cache.find? (fun r => r.1 = q.seq) = some old) ∧
    (∃ (s : State) (q : Packet) (op : Nat) (c : Instr) (i : Nat), s.Inv ∧ (q.EngineCommand op c ∨ q.FirmwareCommand op c) ∧ q.Reaches op s ∧ q.InSession s ∧ q.Authentic op s ∧ s.slotFree = some i ∧ q.n ≠ 0 ∧ s.inPipeline q.n q.seq = false ∧ q.seq ≤ s.smax q.n ∧ (s.sess q.n).cache.find? (fun r => r.1 = q.seq) = none) ∧
    (∃ (s : State) (q : Packet) (op : Nat) (c : Instr) (i : Nat), s.Inv ∧ (q.EngineCommand op c ∨ q.FirmwareCommand op c) ∧ q.Reaches op s ∧ q.Arrives op i s ∧ s.variant = .d ∧ op / 0x1000 = 3) ∧
    (∃ (s : State) (q : Packet) (op : Nat) (c : Instr) (i : Nat) (r : OpRow), s.Inv ∧ (q.EngineCommand op c ∨ q.FirmwareCommand op c) ∧ q.Reaches op s ∧ q.Arrives op i s ∧ q.EngineCommand op c ∧ q.n = 0 ∧ session0 op = false ∧ opRow op = some r) ∧
    (∃ (s : State) (q : Packet) (op : Nat) (c : Instr) (i : Nat) (r : OpRow), s.Inv ∧ (q.EngineCommand op c ∨ q.FirmwareCommand op c) ∧ q.Reaches op s ∧ q.Arrives op i s ∧ q.EngineCommand op c ∧ q.n ≠ 0 ∧ opRow op = some r ∧ s.sessLevel q.n < r.level) ∧
    (∃ (s : State) (q : Packet) (op : Nat) (c : Instr) (i : Nat) (r : OpRow), s.Inv ∧ (q.EngineCommand op c ∨ q.FirmwareCommand op c) ∧ q.Reaches op s ∧ q.Arrives op i s ∧ q.EngineCommand op c ∧ q.n ≠ 0 ∧ opRow op = some r ∧ s.sessLevel q.n < r.level) ∧
    (∃ (s : State) (q : Packet) (op : Nat) (c : Instr) (i : Nat), s.Inv ∧ (q.EngineCommand op c ∨ q.FirmwareCommand op c) ∧ q.Reaches op s ∧ q.FirmwareCommand op c ∧ q.Served op i 0 s) := by
  refine ⟨?_, ?_, ?_, ?_, ?_, ?_, ?_, ?_, ?_, ?_, ?_⟩
  · let R := quiet
    let op : Nat := 1
    let q : Packet := pk 2 3 9 1 true []
    let s : State := sets (brd R 2 3 1) [(Reg.BRD_SESS 2, Fld.BRD_SESS_state, 1)]
    let c : Instr := Instr.ping q.p q.n q.seq q.conf q.xl q.params q.mac
    exact ⟨s, q, op, c, holds_of (fun (h : _ ∧ _ ∧ _) => ⟨inv_of h.1, .inl (by simp [Packet.EngineCommand, op, c]), reaches_of h.2.1, not_session_of h.2.2⟩) (by decide +kernel +revert)⟩
  · let R := quiet
    let op : Nat := 1
    let q : Packet := { p := 2, n := 8, seq := 9, conf := true, xl := false, params := [], mac := List.replicate 8 0 }
    let s : State := brd R 2 8 1
    let c : Instr := Instr.ping q.p q.n q.seq q.conf q.xl q.params q.mac
    exact ⟨s, q, op, c, holds_of (fun (h : _ ∧ _ ∧ _ ∧ _) => ⟨inv_of h.1, .inl (by simp [Packet.EngineCommand, op, c]), reaches_of h.2.1, session_of h.2.2.1, not_authentic_of h.2.2.2⟩) (by decide +kernel +revert)⟩
  · let R := quiet
    let op : Nat := 1
    let q : Packet := pk 3 0 9 1 true []
    let s : State := { brd R 3 0 0 with bridle := { (brd R 3 0 0).bridle with slots := List.replicate 32 (some { port := 0, xl := true, session := 0, seq := 0, opcode := 1, conf := true, params := [], tEnd := 0, stage := .waiting }) } }
    let c : Instr := Instr.ping q.p q.n q.seq q.conf q.xl q.params q.mac
    exact ⟨s, q, op, c, holds_of (fun (h : _ ∧ _ ∧ _ ∧ _ ∧ _) => ⟨inv_of h.1, .inl (by simp [Packet.EngineCommand, op, c]), reaches_of h.2.1, session_of h.2.2.1, authentic_pk h.2.2.2.1, h.2.2.2.2⟩) (by decide +kernel +revert)⟩
  · let R := quiet
    let op : Nat := 1
    let i : Nat := 1
    let q : Packet := pk 2 8 9 1 true []
    let s : State := { brd R 2 8 1 with bridle := { (brd R 2 8 1).bridle with slots := (R.bridle.slots.set 1 none).set 0 (some { port := 0, xl := true, session := 8, seq := 9, opcode := 1, conf := true, params := [], tEnd := 0, stage := .taken }) } }
    let c : Instr := Instr.ping q.p q.n q.seq q.conf q.xl q.params q.mac
    exact ⟨s, q, op, c, i, holds_of (fun (h : _ ∧ _ ∧ _ ∧ _ ∧ _ ∧ _ ∧ _) => ⟨inv_of h.1, .inl (by simp [Packet.EngineCommand, op, c]), reaches_of h.2.1, session_of h.2.2.1, authentic_pk h.2.2.2.1, h.2.2.2.2.1, h.2.2.2.2.2.1, h.2.2.2.2.2.2⟩) (by decide +kernel +revert)⟩
  · let R := quiet
    let op : Nat := 1
    let i : Nat := 0
    let old : Nat × List Byte := (4, [1, 2, 3])
    let q : Packet := pk 2 8 4 1 true []
    let s : State := (brd R 2 8 1).modSess 8 (fun x => { x with cache := [(4, [1, 2, 3])] })
    let c : Instr := Instr.ping q.p q.n q.seq q.conf q.xl q.params q.mac
    exact ⟨s, q, op, c, i, old, holds_of (fun (h : _ ∧ _ ∧ _ ∧ _ ∧ _ ∧ _ ∧ _ ∧ _ ∧ _) => ⟨inv_of h.1, .inl (by simp [Packet.EngineCommand, op, c]), reaches_of h.2.1, session_of h.2.2.1, authentic_pk h.2.2.2.1, h.2.2.2.2.1, h.2.2.2.2.2.1, h.2.2.2.2.2.2.1, h.2.2.2.2.2.2.2.1, h.2.2.2.2.2.2.2.2⟩) (by decide +kernel +revert)⟩
  · let R := quiet
    let op : Nat := 1
    let i : Nat := 0
    let q : Packet := pk 2 8 5 1 true []
    let s : State := (brd R 2 8 1).modSess 8 (fun x => { x with cache := [] })
    let c : Instr := Instr.ping q.p q.n q.seq q.conf q.xl q.params q.mac
    exact ⟨s, q, op, c, i, holds_of (fun (h : _ ∧ _ ∧ _ ∧ _ ∧ _ ∧ _ ∧ _ ∧ _ ∧ _) => ⟨inv_of h.1, .inl (by simp [Packet.EngineCommand, op, c]), reaches_of h.2.1, session_of h.2.2.1, authentic_pk h.2.2.2.1, h.2.2.2.2.1, h.2.2.2.2.2.1, h.2.2.2.2.2.2.1, h.2.2.2.2.2.2.2.1, h.2.2.2.2.2.2.2.2⟩) (by decide +kernel +revert)⟩
  · let R := quiet
    let op : Nat := 0x3030
    let i : Nat := 0
    let q : Packet := pk 2 8 0xFFFFFFFF 0x3030 true []
    let s : State := { brd R 2 8 3 with variant := .d }
    let c : Instr := .clearLockout q.p q.n q.seq q.conf q.xl q.params q.mac none
    exact ⟨s, q, op, c, i, holds_of (fun (h : _ ∧ _ ∧ _ ∧ _ ∧ _) => ⟨inv_of h.1, .inr (by simp [Packet.FirmwareCommand, op, c]), reaches_of h.2.1, arrives_pk h.2.2.1, h.2.2.2.1, h.2.2.2.2⟩) (by decide +kernel +revert)⟩
  · let R := quiet
    let op : Nat := 0x1011
    let i : Nat := 0
    let r : OpRow := ⟨.hw, 0, 0⟩
    let q : Packet := pk 2 0 7 0x1011 false []
    let s : State := brd R 2 0 0
    let c : Instr := .sigWrite q.p q.n q.seq q.conf q.xl q.params q.mac
    exact ⟨s, q, op, c, i, r, holds_of (fun (h : _ ∧ _ ∧ _ ∧ _ ∧ _ ∧ _) => ⟨inv_of h.1, .inl (by simp [Packet.EngineCommand, op, c]), reaches_of h.2.1, arrives_pk h.2.2.1, by simp [Packet.EngineCommand, op, c], h.2.2.2.1, h.2.2.2.2.1, h.2.2.2.2.2⟩) (by decide +kernel +revert)⟩
  · let R := quiet
    let op : Nat := 0x4012
    let i : Nat := 0
    let r : OpRow := ⟨.hw, 2, 1⟩
    let q : Packet := pk 2 1 7 0x4012 false []
    let s : State := brd R 2 1 1
    let c : Instr := .lvClear q.p q.n q.seq q.conf q.xl q.params q.mac
    exact ⟨s, q, op, c, i, r, holds_of (fun (h : _ ∧ _ ∧ _ ∧ _ ∧ _ ∧ _) => ⟨inv_of h.1, .inl (by simp [Packet.EngineCommand, op, c]), reaches_of h.2.1, arrives_pk h.2.2.1, by simp [Packet.EngineCommand, op, c], h.2.2.2.1, h.2.2.2.2.1, h.2.2.2.2.2⟩) (by decide +kernel +revert)⟩
  · let R := quiet
    let op : Nat := 0x4012
    let i : Nat := 0
    let r : OpRow := ⟨.hw, 2, 1⟩
    let q : Packet := pk 2 1 0xFFFFFFFF 0x4012 false []
    let s : State := brd R 2 1 1
    let c : Instr := .lvClear q.p q.n q.seq q.conf q.xl q.params q.mac
    exact ⟨s, q, op, c, i, r, holds_of (fun (h : _ ∧ _ ∧ _ ∧ _ ∧ _ ∧ _) => ⟨inv_of h.1, .inl (by simp [Packet.EngineCommand, op, c]), reaches_of h.2.1, arrives_pk h.2.2.1, by simp [Packet.EngineCommand, op, c], h.2.2.2.1, h.2.2.2.2.1, h.2.2.2.2.2⟩) (by decide +kernel +revert)⟩
  · let R := quiet
    let op : Nat := 0x5020
    let i : Nat := 0
    let q : Packet := pk 2 1 7 0x5020 false [1]
    let s : State := { fwUp (brd R 2 1 1) with variant := .f }
    let c : Instr := .parkReq q.p q.n q.seq q.conf q.xl q.params q.mac none
    exact ⟨s, q, op, c, i, holds_of (fun (h : _ ∧ _ ∧ _) => ⟨inv_of h.1, .inr (by simp [Packet.FirmwareCommand, op, c]), reaches_of h.2.1, by simp [Packet.FirmwareCommand, op, c], served_pk h.2.2⟩) (by decide +kernel +revert)⟩

theorem witness_BridleCommands :
    (∃ (s : State) (q : Packet) (i : Nat) (ws : List (Nat × Word)) (b : Nat) (cs : Nat), s.Inv ∧ q.Arrives 0x1011 i s ∧ ws.length ≤ 32 ∧ (∀ w ∈ ws, w.1 < 2 ^ 20) ∧ q.params = Crypto.beBytes 1 ws.length ++ ws.flatMap (fun w => Crypto.beBytes 3 w.1 ++ Crypto.beBytes 4 w.2.toNat) ∧ q.Passes 0 ws cs [] s ∧ s.admits cs bridleLat s.dtb 0 b) ∧
    (∃ (s : State) (q : Packet) (i : Nat) (ws : List (Nat × Word)) (b : Nat) (cs : Nat), s.Inv ∧ q.Arrives 0x1011 i s ∧ ws.length ≤ 32 ∧ (∀ w ∈ ws, w.1 < 2 ^ 20) ∧ q.params = Crypto.beBytes 1 ws.length ++ ws.flatMap (fun w => Crypto.beBytes 3 w.1 ++ Crypto.beBytes 4 w.2.toNat) ∧ q.Passes 0 ws cs [] s ∧ s.admitAt cs s.dtb bridleLat s.dtb 0 = (b, false)) ∧
    (∃ (s : State) (q : Packet) (i : Nat) (d : Nat) (v : Nat) (b : Nat) (cs : Nat), s.Inv ∧ q.Arrives 0x2010 i s ∧ d < 2 ∧ v < 2 ^ 16 ∧ (¬(d = 1 ∧ s.val (sid 3 0x40) = 1)) ∧ q.params = Crypto.beBytes 1 d ++ Crypto.beBytes 2 v ∧ q.Passes 1 [(sid (1 + d) 0x300, Wi (sx 16 v))] cs [d] s ∧ s.admits cs bridleLat s.dtb 0 b) ∧
    (∃ (s : State) (q : Packet) (i : Nat) (d : Nat) (v : Nat) (b : Nat) (cs : Nat), s.Inv ∧ q.Arrives 0x2011 i s ∧ d < 2 ∧ v < 2 ^ 16 ∧ (¬(d = 1 ∧ s.val (sid 3 0x40) = 1)) ∧ q.params = Crypto.beBytes 1 d ++ Crypto.beBytes 2 v ∧ q.Passes 1 [(sid (1 + d) 0x301, Wi (sx 16 v))] cs [d] s ∧ s.admits cs bridleLat s.dtb 0 b) ∧
    (∃ (s : State) (q : Packet) (i : Nat) (d : Nat) (v : Nat) (b : Nat) (cs : Nat), s.Inv ∧ q.Arrives 0x2012 i s ∧ d < 2 ∧ v ≤ 2 ∧ (¬(d = 1 ∧ s.val (sid 3 0x40) = 1)) ∧ q.params = Crypto.beBytes 1 d ++ Crypto.beBytes 1 v ∧ q.Passes 1 [(sid (1 + d) 0x302, W v)] cs [d] s ∧ s.admits cs bridleLat s.dtb 1 b) ∧
    (∃ (s : State) (q : Packet) (i : Nat) (d : Nat) (v : Nat) (b : Nat) (cs : Nat), s.Inv ∧ q.Arrives 0x2013 i s ∧ d < 2 ∧ v ≤ 1 ∧ (¬(d = 1 ∧ s.val (sid 3 0x40) = 1)) ∧ q.params = Crypto.beBytes 1 d ++ Crypto.beBytes 1 v ∧ q.Passes 1 [(sid (1 + d) 0x305, W v)] cs [d] s ∧ s.admits cs bridleLat s.dtb 1 b) ∧
    (∃ (s : State) (q : Packet) (i : Nat) (d : Nat) (u : Nat) (v : Nat) (b : Nat) (cs : Nat), s.Inv ∧ q.Arrives 0x2014 i s ∧ d < 2 ∧ u < 2 ^ 16 ∧ v < 2 ^ 16 ∧ (¬(d = 1 ∧ s.val (sid 3 0x40) = 1)) ∧ q.params = Crypto.beBytes 1 d ++ Crypto.beBytes 2 u ++ Crypto.beBytes 2 v ∧ q.Passes 1 [(sid (1 + d) 0x303, Wi (sx 16 u)), (sid (1 + d) 0x304, Wi (sx 16 v))] cs [d] s ∧ s.admits cs bridleLat s.dtb 0 b) ∧
    (∃ (s : State) (q : Packet) (i : Nat) (v : Nat) (b : Nat) (cs : Nat), s.Inv ∧ q.Arrives 0x4010 i s ∧ v < 2 ^ 16 ∧ q.params = Crypto.beBytes 2 v ∧ q.Passes 1 [(sid 6 0x300, Wi (sx 16 v))] cs [6, 7] s ∧ s.admits cs bridleLat s.dtb 1 b) ∧
    (∃ (s : State) (q : Packet) (i : Nat) (v : Nat) (b : Nat) (cs : Nat), s.Inv ∧ q.Arrives 0x4011 i s ∧ v < 256 ∧ q.params = Crypto.beBytes 1 v ∧ q.Passes 1 [(sid 6 0x307, W v)] cs [6, 7] s ∧ s.admits cs bridleLat s.dtb 1 b) ∧
    (∃ (s : State) (q : Packet) (i : Nat) (b : Nat) (cs : Nat), s.Inv ∧ q.Arrives 0x4012 i s ∧ q.params = [] ∧ q.Passes 2 [(sid 6 0x306, 1)] cs [6, 7] s ∧ s.admits cs bridleLat s.dtb 1 b) ∧
    (∃ (s : State) (q : Packet) (i : Nat) (m : Nat) (b : Nat), s.Inv ∧ q.Arrives 0x0010 i s ∧ q.n ≠ 0 ∧ 1 ≤ s.sessLevel q.n ∧ m ≤ 5 ∧ (m = 5 → 2 ≤ s.sessLevel q.n) ∧ q.params = Crypto.beBytes 1 m ∧ s.val sigPhase = 0 ∧ modeRow s.modeNow m = true ∧ bit (s.val (sid 0 0x14)) m = true ∧ (s.modeNow = 5 → m ≠ 2) ∧ s.admits 15 bridleLat s.dtb 1 b) ∧
    (∃ (s : State) (q : Packet) (i : Nat) (m : Nat), s.Inv ∧ q.Arrives 0x0010 i s ∧ q.n ≠ 0 ∧ 1 ≤ s.sessLevel q.n ∧ m ≤ 4 ∧ q.params = Crypto.beBytes 1 m ∧ s.val sigPhase = 0 ∧ modeRow s.modeNow m = true ∧ bit (s.val (sid 0 0x14)) m = false ∧ (s.modeNow = 5 → m ≠ 2)) ∧
    (∃ (s : State) (b : Nat), s.Inv ∧ s.nextCommit = some b ∧ s.domainOn 5 = true ∧ (∀ k x, s.slot k = some x → x.stage = .waiting → x.commit = b → x.opcode ≠ 0x0030)) ∧
    (∃ (s : State) (b : Nat) (k : Nat) (x : Slot) (v : Word) (d : Nat), s.Inv ∧ s.nextCommit = some b ∧ s.domainOn 5 = true ∧ s.dueAt b = [(k, x)] ∧ x.opcode = 0x2010 ∧ x.outside = false ∧ d < 2 ∧ x.writes = [(sid (1 + d) 0x300, v)] ∧ s.fld Reg.CHS_ISIG Fld.CHS_ISIG_sig ≠ sid (1 + d) 0x300 ∧ s.writable (sid (1 + d) 0x300) = true ∧ dOclass (s.desc (sid (1 + d) 0x300)) = 5) ∧
    (∃ (s : State) (b : Nat) (k : Nat) (x : Slot) (m : Nat), s.Inv ∧ s.nextCommit = some b ∧ s.domainOn 5 = true ∧ s.dueAt b = [(k, x)] ∧ x.opcode = 0x0010 ∧ x.outside = false ∧ x.params = Crypto.beBytes 1 m ∧ x.writes = [(sigTarget, W m)] ∧ m ≤ 5 ∧ s.val sigPhase = 0 ∧ s.Publishes sigTarget) ∧
    (∃ (s : State) (b : Nat) (k : Nat) (x : Slot), s.Inv ∧ s.nextCommit = some b ∧ s.domainOn 5 = true ∧ s.dueAt b = [(k, x)] ∧ x.opcode = 0x0030 ∧ x.outside = false ∧ x.writes = [] ∧ s.nvmBusy = false) := by
  refine ⟨?_, ?_, ?_, ?_, ?_, ?_, ?_, ?_, ?_, ?_, ?_, ?_, ?_, ?_, ?_, ?_⟩
  · let R := quiet
    let q : Packet := pk 2 1 7 0x1011 true (Crypto.beBytes 1 2 ++ ([(sid 0 0x321, (W 5)), (sid 9 0x300, W 77)] : List (Nat × Word)).flatMap (fun w => Crypto.beBytes 3 w.1 ++ Crypto.beBytes 4 w.2.toNat))
    let i : Nat := 0
    let ws : List (Nat × Word) := [(sid 0 0x321, (W 5)), (sid 9 0x300, W 77)]
    let cs : Nat := 13
    let s : State := lateMs (untrip ((cmdSig (cmdSig (brd R 2 1 3) (sid 0 0x321) 13) (sid 9 0x300) 13).wr Reg.TH_STAT 0))
    let b : Nat := (s.admitAt 13 s.dtb bridleLat s.dtb 0).1
    exact ⟨s, q, i, ws, b, cs, holds_of (fun (h : _ ∧ _ ∧ _ ∧ _ ∧ _ ∧ _ ∧ _) => ⟨inv_of h.1, arrives_pk h.2.1, h.2.2.1, h.2.2.2.1, h.2.2.2.2.1, passes_of h.2.2.2.2.2.1, admits_of h.2.2.2.2.2.2⟩) (by decide +kernel +revert)⟩
  · let R := quiet
    let q : Packet := pk 2 1 7 0x1011 true (Crypto.beBytes 1 2 ++ ([(sid 0 0x321, (W 5)), (sid 9 0x300, W 77)] : List (Nat × Word)).flatMap (fun w => Crypto.beBytes 3 w.1 ++ Crypto.beBytes 4 w.2.toNat))
    let i : Nat := 0
    let ws : List (Nat × Word) := [(sid 0 0x321, (W 5)), (sid 9 0x300, W 77)]
    let cs : Nat := 14
    let s : State := { lateMs (untrip ((cmdSig (cmdSig (brd R 2 1 3) (sid 0 0x321) 14) (sid 9 0x300) 14).wr Reg.TH_STAT 0)) with dtb := 4000001 }
    let b : Nat := (s.admitAt 14 s.dtb bridleLat s.dtb 0).1
    exact ⟨s, q, i, ws, b, cs, holds_of (fun (h : _ ∧ _ ∧ _ ∧ _ ∧ _ ∧ _ ∧ _) => ⟨inv_of h.1, arrives_pk h.2.1, h.2.2.1, h.2.2.2.1, h.2.2.2.2.1, passes_of h.2.2.2.2.2.1, h.2.2.2.2.2.2⟩) (by decide +kernel +revert)⟩
  · let R := quiet
    let q : Packet := pk 2 1 7 0x2010 true (Crypto.beBytes 1 1 ++ Crypto.beBytes 2 65535)
    let i : Nat := 0
    let d : Nat := 1
    let v : Nat := 65535
    let cs : Nat := 14
    let s : State := sv (lateMs (untrip ((cmdSig (brd R 2 1 3) (sid 2 0x300) 14).wr Reg.TH_STAT 0))) (sid 3 0x40) 0
    let b : Nat := (s.admitAt 14 s.dtb bridleLat s.dtb 0).1
    exact ⟨s, q, i, d, v, b, cs, holds_of (fun (h : _ ∧ _ ∧ _ ∧ _ ∧ _ ∧ _ ∧ _ ∧ _) => ⟨inv_of h.1, arrives_pk h.2.1, h.2.2.1, h.2.2.2.1, h.2.2.2.2.1, h.2.2.2.2.2.1, passes_of h.2.2.2.2.2.2.1, admits_of h.2.2.2.2.2.2.2⟩) (by decide +kernel +revert)⟩
  · let R := quiet
    let q : Packet := pk 2 1 7 0x2011 true (Crypto.beBytes 1 0 ++ Crypto.beBytes 2 5)
    let i : Nat := 0
    let d : Nat := 0
    let v : Nat := 5
    let cs : Nat := 14
    let s : State := sv (lateMs (untrip ((cmdSig (brd R 2 1 3) (sid 1 0x301) 14).wr Reg.TH_STAT 0))) (sid 3 0x40) 0
    let b : Nat := (s.admitAt 14 s.dtb bridleLat s.dtb 0).1
    exact ⟨s, q, i, d, v, b, cs, holds_of (fun (h : _ ∧ _ ∧ _ ∧ _ ∧ _ ∧ _ ∧ _ ∧ _) => ⟨inv_of h.1, arrives_pk h.2.1, h.2.2.1, h.2.2.2.1, h.2.2.2.2.1, h.2.2.2.2.2.1, passes_of h.2.2.2.2.2.2.1, admits_of h.2.2.2.2.2.2.2⟩) (by decide +kernel +revert)⟩
  · let R := quiet
    let q : Packet := pk 2 1 7 0x2012 true (Crypto.beBytes 1 1 ++ Crypto.beBytes 1 2)
    let i : Nat := 0
    let d : Nat := 1
    let v : Nat := 2
    let cs : Nat := 13
    let s : State := sv (lateMs (untrip ((cmdSig (brd R 2 1 3) (sid 2 0x302) 13).wr Reg.TH_STAT 0))) (sid 3 0x40) 0
    let b : Nat := (s.admitAt 13 s.dtb bridleLat s.dtb 1).1
    exact ⟨s, q, i, d, v, b, cs, holds_of (fun (h : _ ∧ _ ∧ _ ∧ _ ∧ _ ∧ _ ∧ _ ∧ _) => ⟨inv_of h.1, arrives_pk h.2.1, h.2.2.1, h.2.2.2.1, h.2.2.2.2.1, h.2.2.2.2.2.1, passes_of h.2.2.2.2.2.2.1, admits_of h.2.2.2.2.2.2.2⟩) (by decide +kernel +revert)⟩
  · let R := quiet
    let q : Packet := pk 2 1 7 0x2013 true (Crypto.beBytes 1 0 ++ Crypto.beBytes 1 1)
    let i : Nat := 0
    let d : Nat := 0
    let v : Nat := 1
    let cs : Nat := 13
    let s : State := sv (lateMs (untrip ((cmdSig (brd R 2 1 3) (sid 1 0x305) 13).wr Reg.TH_STAT 0))) (sid 3 0x40) 0
    let b : Nat := (s.admitAt 13 s.dtb bridleLat s.dtb 1).1
    exact ⟨s, q, i, d, v, b, cs, holds_of (fun (h : _ ∧ _ ∧ _ ∧ _ ∧ _ ∧ _ ∧ _ ∧ _) => ⟨inv_of h.1, arrives_pk h.2.1, h.2.2.1, h.2.2.2.1, h.2.2.2.2.1, h.2.2.2.2.2.1, passes_of h.2.2.2.2.2.2.1, admits_of h.2.2.2.2.2.2.2⟩) (by decide +kernel +revert)⟩
  · let R := quiet
    let q : Packet := pk 2 1 7 0x2014 true (Crypto.beBytes 1 1 ++ Crypto.beBytes 2 3 ++ Crypto.beBytes 2 65535)
    let i : Nat := 0
    let d : Nat := 1
    let u : Nat := 3
    let v : Nat := 65535
    let cs : Nat := 14
    let s : State := sv (lateMs (untrip ((cmdSig (cmdSig (brd R 2 1 3) (sid 2 0x303) 14) (sid 2 0x304) 14).wr Reg.TH_STAT 0))) (sid 3 0x40) 0
    let b : Nat := (s.admitAt 14 s.dtb bridleLat s.dtb 0).1
    exact ⟨s, q, i, d, u, v, b, cs, holds_of (fun (h : _ ∧ _ ∧ _ ∧ _ ∧ _ ∧ _ ∧ _ ∧ _ ∧ _) => ⟨inv_of h.1, arrives_pk h.2.1, h.2.2.1, h.2.2.2.1, h.2.2.2.2.1, h.2.2.2.2.2.1, h.2.2.2.2.2.2.1, passes_of h.2.2.2.2.2.2.2.1, admits_of h.2.2.2.2.2.2.2.2⟩) (by decide +kernel +revert)⟩
  · let R := quiet
    let q : Packet := pk 2 1 7 0x4010 true (Crypto.beBytes 2 14000)
    let i : Nat := 0
    let v : Nat := 14000
    let cs : Nat := 14
    let s : State := lateMs (untrip ((cmdSig (brd R 2 1 3) (sid 6 0x300) 14).wr Reg.TH_STAT 0))
    let b : Nat := (s.admitAt 14 s.dtb bridleLat s.dtb 1).1
    exact ⟨s, q, i, v, b, cs, holds_of (fun (h : _ ∧ _ ∧ _ ∧ _ ∧ _ ∧ _) => ⟨inv_of h.1, arrives_pk h.2.1, h.2.2.1, h.2.2.2.1, passes_of h.2.2.2.2.1, admits_of h.2.2.2.2.2⟩) (by decide +kernel +revert)⟩
  · let R := quiet
    let q : Packet := pk 2 1 7 0x4011 true (Crypto.beBytes 1 255)
    let i : Nat := 0
    let v : Nat := 255
    let cs : Nat := 14
    let s : State := lateMs (untrip ((cmdSig (brd R 2 1 3) (sid 6 0x307) 14).wr Reg.TH_STAT 0))
    let b : Nat := (s.admitAt 14 s.dtb bridleLat s.dtb 1).1
    exact ⟨s, q, i, v, b, cs, holds_of (fun (h : _ ∧ _ ∧ _ ∧ _ ∧ _ ∧ _) => ⟨inv_of h.1, arrives_pk h.2.1, h.2.2.1, h.2.2.2.1, passes_of h.2.2.2.2.1, admits_of h.2.2.2.2.2⟩) (by decide +kernel +revert)⟩
  · let R := quiet
    let q : Packet := pk 2 1 7 0x4012 true ([])
    let i : Nat := 0
    let cs : Nat := 14
    let s : State := lateMs (untrip ((cmdSig (brd R 2 1 3) (sid 6 0x306) 14).wr Reg.TH_STAT 0))
    let b : Nat := (s.admitAt 14 s.dtb bridleLat s.dtb 1).1
    exact ⟨s, q, i, b, cs, holds_of (fun (h : _ ∧ _ ∧ _ ∧ _ ∧ _) => ⟨inv_of h.1, arrives_pk h.2.1, h.2.2.1, passes_of h.2.2.2.1, admits_of h.2.2.2.2⟩) (by decide +kernel +revert)⟩
  · let R := quiet
    let q : Packet := pk 2 1 7 0x0010 true (Crypto.beBytes 1 2)
    let i : Nat := 0
    let m : Nat := 2
    let s : State := sv (sv (sv (brd R 2 1 3) sigPhase 0) sigMode 1) (sid 0 0x14) 63
    let b : Nat := (s.admitAt 15 s.dtb bridleLat s.dtb 1).1
    exact ⟨s, q, i, m, b, holds_of (fun (h : _ ∧ _ ∧ _ ∧ _ ∧ _ ∧ _ ∧ _ ∧ _ ∧ _ ∧ _ ∧ _ ∧ _) => ⟨inv_of h.1, arrives_pk h.2.1, h.2.2.1, h.2.2.2.1, h.2.2.2.2.1, h.2.2.2.2.2.1, h.2.2.2.2.2.2.1, h.2.2.2.2.2.2.2.1, h.2.2.2.2.2.2.2.2.1, h.2.2.2.2.2.2.2.2.2.1, h.2.2.2.2.2.2.2.2.2.2.1, admits_of h.2.2.2.2.2.2.2.2.2.2.2⟩) (by decide +kernel +revert)⟩
  · let R := quiet
    let q : Packet := pk 2 1 7 0x0010 true (Crypto.beBytes 1 2)
    let i : Nat := 0
    let m : Nat := 2
    let s : State := sv (sv (sv (brd R 2 1 3) sigPhase 0) sigMode 1) (sid 0 0x14) 59
    exact ⟨s, q, i, m, holds_of (fun (h : _ ∧ _ ∧ _ ∧ _ ∧ _ ∧ _ ∧ _ ∧ _ ∧ _ ∧ _) => ⟨inv_of h.1, arrives_pk h.2.1, h.2.2.1, h.2.2.2.1, h.2.2.2.2.1, h.2.2.2.2.2.1, h.2.2.2.2.2.2.1, h.2.2.2.2.2.2.2.1, h.2.2.2.2.2.2.2.2.1, h.2.2.2.2.2.2.2.2.2⟩) (by decide +kernel +revert)⟩
  · let R := quiet
    let b : Nat := 100
    let _x := (some { port := 2, xl := true, session := 3, seq := 9, opcode := 0x2010, conf := true, params := [], tEnd := 0, stage := .waiting, writes := [], commit := 100, target := 1 } : Option Slot)
    let s : State := { sets (R) [(Reg.PWR_STAT, ⟨10, 2⟩, 0)] with bridle := { R.bridle with slots := List.replicate 31 none ++ [_x] } }
    exact ⟨s, b, holds_of (fun (h : _ ∧ _ ∧ _ ∧ (∀ o ∈ s.bridle.slots, ∀ x ∈ o, x.stage = .waiting → x.commit = b → x.opcode ≠ 0x0030)) => ⟨inv_of h.1, h.2.1, h.2.2.1, fun k x hk => slots_of (P := fun x => x.stage = .waiting → x.commit = b → x.opcode ≠ 0x0030) h.2.2.2 k x hk⟩) (by decide +kernel +revert)⟩
  · let R := quiet
    let b : Nat := 100
    let _x := (some { port := 2, xl := true, session := 3, seq := 9, opcode := 0x2010, conf := true, params := [], tEnd := 0, stage := .waiting, writes := [(sid 2 0x300, W 0xfffff)], commit := 100, target := 1 } : Option Slot)
    let x : Slot := ({ port := 2, xl := true, session := 3, seq := 9, opcode := 0x2010, conf := true, params := [], tEnd := 0, stage := .waiting, writes := [(sid 2 0x300, W 0xfffff)], commit := 100, target := 1 } : Slot)
    let k : Nat := 31
    let d : Nat := 1
    let v : Word := W 0xfffff
    let s : State := (cmdSig ({ sets (({ R with bus := R.bus.modify 2 (fun b => { b with replies := [] }) }).setf Reg.CHS_ISIG Fld.CHS_ISIG_sig 0) [(Reg.PWR_STAT, ⟨10, 2⟩, 0)] with bridle := { R.bridle with slots := List.replicate 31 none ++ [_x] } }) (sid 2 0x300) 1).setDomain 6 0
    exact ⟨s, b, k, x, v, d, holds_of (fun (h : _ ∧ _ ∧ _ ∧ _ ∧ _ ∧ _ ∧ _ ∧ _ ∧ _ ∧ _ ∧ _) => ⟨inv_of h.1, h.2.1, h.2.2.1, h.2.2.2.1, h.2.2.2.2.1, h.2.2.2.2.2.1, h.2.2.2.2.2.2.1, h.2.2.2.2.2.2.2.1, h.2.2.2.2.2.2.2.2.1, h.2.2.2.2.2.2.2.2.2.1, h.2.2.2.2.2.2.2.2.2.2⟩) (by decide +kernel +revert)⟩
  · let R := quiet
    let b : Nat := 100
    let _x := (some { port := 2, xl := true, session := 3, seq := 9, opcode := 0x0010, conf := true, params := Crypto.beBytes 1 5, tEnd := 0, stage := .waiting, writes := [(sigTarget, W 5)], commit := 100, target := 1 } : Option Slot)
    let x : Slot := ({ port := 2, xl := true, session := 3, seq := 9, opcode := 0x0010, conf := true, params := Crypto.beBytes 1 5, tEnd := 0, stage := .waiting, writes := [(sigTarget, W 5)], commit := 100, target := 1 } : Slot)
    let k : Nat := 31
    let m : Nat := 5
    let s : State := pub ({ sets (sv R sigPhase 0) [(Reg.PWR_STAT, ⟨10, 2⟩, 0)] with bridle := { R.bridle with slots := List.replicate 31 none ++ [_x] } }) [sigTarget]
    exact ⟨s, b, k, x, m, holds_of (fun (h : _ ∧ _ ∧ _ ∧ _ ∧ _ ∧ _ ∧ _ ∧ _ ∧ _ ∧ _ ∧ _) => ⟨inv_of h.1, h.2.1, h.2.2.1, h.2.2.2.1, h.2.2.2.2.1, h.2.2.2.2.2.1, h.2.2.2.2.2.2.1, h.2.2.2.2.2.2.2.1, h.2.2.2.2.2.2.2.2.1, h.2.2.2.2.2.2.2.2.2.1, h.2.2.2.2.2.2.2.2.2.2⟩) (by decide +kernel +revert)⟩
  · let R := quiet
    let b : Nat := 100
    let _x := (some { port := 2, xl := true, session := 3, seq := 9, opcode := 0x0030, conf := true, params := [], tEnd := 0, stage := .waiting, writes := [], commit := 100, target := 1 } : Option Slot)
    let x : Slot := ({ port := 2, xl := true, session := 3, seq := 9, opcode := 0x0030, conf := true, params := [], tEnd := 0, stage := .waiting, writes := [], commit := 100, target := 1 } : Slot)
    let k : Nat := 31
    let s : State := { sets ({ R with boot := { R.boot with nvmJobs := [] } }) [(Reg.PWR_STAT, ⟨10, 2⟩, 0)] with bridle := { R.bridle with slots := List.replicate 31 none ++ [_x] } }
    exact ⟨s, b, k, x, holds_of (fun (h : _ ∧ _ ∧ _ ∧ _ ∧ _ ∧ _ ∧ _ ∧ _) => ⟨inv_of h.1, h.2.1, h.2.2.1, h.2.2.2.1, h.2.2.2.2.1, h.2.2.2.2.2.1, h.2.2.2.2.2.2.1, h.2.2.2.2.2.2.2⟩) (by decide +kernel +revert)⟩

theorem witness_BridleSessions :
    (∃ (s : State) (q : Packet) (i : Nat), s.Inv ∧ q.Arrives 0x0001 i s ∧ q.params = []) ∧
    (∃ (s : State) (q : Packet) (i : Nat) (off : Nat) (len : Nat), s.Inv ∧ q.Arrives 0x0020 i s ∧ q.params = Crypto.beBytes 2 off ++ Crypto.beBytes 1 len ∧ off < 2 ^ 16 ∧ len < 256 ∧ len ≤ s.resultRoom q.p q.n ∧ off + len ≤ 0xF000 ∧ s.domainOn 7 = true) ∧
    (∃ (s : State) (q : Packet) (i : Nat) (ids : List Nat), s.Inv ∧ q.Arrives 0x1010 i s ∧ q.params = Crypto.beBytes 1 ids.length ++ ids.flatMap (Crypto.beBytes 3) ∧ ids ≠ [] ∧ ids.length < 256 ∧ (∀ x ∈ ids, x < 2 ^ 20 ∧ dDefined (s.desc x) = true ∧ dRlevel (s.desc x) ≤ s.sessLevel q.n) ∧ 8 * ids.length ≤ s.resultRoom q.p q.n) ∧
    (∃ (s : State) (q : Packet) (i : Nat) (per : Nat) (ids : List Nat), s.Inv ∧ q.Arrives 0x1012 i s ∧ q.n ≠ 0 ∧ 1 ≤ s.sessLevel q.n ∧ q.seq < 0xFFFFFFFF ∧ 1 ≤ per ∧ per ≤ 1000 ∧ q.params = Crypto.beBytes 2 per ++ Crypto.beBytes 1 ids.length ++ ids.flatMap (Crypto.beBytes 3) ∧ ids ≠ [] ∧ ids.length < 256 ∧ (∀ x ∈ ids, x < 2 ^ 20 ∧ dDefined (s.desc x) = true ∧ dRlevel (s.desc x) ≤ s.sessLevel q.n) ∧ 8 * ids.length ≤ s.resultRoom q.p q.n ∧ s.bridle.subs.length < 16) ∧
    (∃ (s : State) (q : Packet) (i : Nat) (k : Nat), s.Inv ∧ q.Arrives 0x1013 i s ∧ q.n ≠ 0 ∧ 1 ≤ s.sessLevel q.n ∧ q.seq < 0xFFFFFFFF ∧ q.params = Crypto.beBytes 4 k ∧ k < 2 ^ 32 ∧ s.bridle.subs.any (fun x => x.session = q.n && x.seq = k) = true) ∧
    (∃ (s : State) (q : Packet) (i : Nat) (l : Nat) (hn : List (BitVec 8)) (m : Nat), s.Inv ∧ q.Arrives 0x8010 i s ∧ 1 ≤ l ∧ l ≤ 4 ∧ hn.length = 16 ∧ q.params = BitVec.ofNat 8 l :: hn ∧ (∀ k, 1 ≤ k → k ≤ 8 → ¬(s.sessState k = 1 ∧ (s.sess k).hn = hn)) ∧ s.freeSession = some m ∧ s.levelKey l ≠ none ∧ s.lockLeft l = 0) ∧
    (∃ (s : State) (q : Packet) (i : Nat) (m : Nat) (proof : List (BitVec 8)), s.Inv ∧ q.Arrives 0x8011 i s ∧ 1 ≤ m ∧ m ≤ 8 ∧ proof.length = 32 ∧ q.params = BitVec.ofNat 8 m :: proof ∧ s.sessState m = 1 ∧ s.sessPort m = q.p ∧ 1 ≤ s.sessLevel m ∧ s.sessLevel m ≤ 4 ∧ proof = (Crypto.hmac ((s.levelKey (s.sessLevel m)).getD []) (BitVec.ofNat 8 (s.sessLevel m) :: (s.sess m).hn ++ (s.sess m).dn ++ s.sec.serial)).take 32) ∧
    (∃ (s : State) (q : Packet) (i : Nat) (m : Nat) (proof : List (BitVec 8)), s.Inv ∧ q.Arrives 0x8011 i s ∧ 1 ≤ m ∧ m ≤ 8 ∧ proof.length = 32 ∧ q.params = BitVec.ofNat 8 m :: proof ∧ s.sessState m = 1 ∧ s.sessPort m = q.p ∧ 1 ≤ s.sessLevel m ∧ s.sessLevel m ≤ 4 ∧ proof ≠ (Crypto.hmac ((s.levelKey (s.sessLevel m)).getD []) (BitVec.ofNat 8 (s.sessLevel m) :: (s.sess m).hn ++ (s.sess m).dn ++ s.sec.serial)).take 32 ∧ s.sec.lockEnd.length = 4) ∧
    (∃ (s : State) (q : Packet) (i : Nat), s.Inv ∧ q.Arrives 0x8012 i s ∧ q.n ≠ 0 ∧ 1 ≤ s.sessLevel q.n ∧ q.params = []) ∧
    (∃ (s : State) (k : Nat) (x : Sub), s.Inv ∧ s.bridleOn = true ∧ s.bridle.subs[k]? = some x ∧ (∀ y ∈ x.ids, dRlevel (s.desc y) ≤ s.sessLevel x.session) ∧ x.port < 4 ∧ (s.busAt x.port).replies.length < 32) ∧
    (∃ (s : State) (k : Nat) (x : Sub), s.Inv ∧ s.bridleOn = true ∧ s.bridle.subs[k]? = some x) ∧
    (∃ (s : State) (n : Nat), s.Inv ∧ 1 ≤ n ∧ n ≤ 8 ∧ s.sessState n = 2) ∧
    (∃ (s : State) (n : Nat), s.Inv ∧ 1 ≤ n ∧ n ≤ 8 ∧ s.sessState n = 1) ∧
    (∃ (s : State) (l : Nat), s.Inv ∧ 1 ≤ l ∧ l ≤ 4 ∧ s.on (Reg.BRD_LOCK (l - 1)) Fld.BRD_LOCK_rem = true) ∧
    (∃ (s : State) (core : Nat), s.Inv ∧ core < 6 ∧ s.cpuRatioOk = true ∧ s.domainOn 5 = true ∧ s.clocked 8 = true) := by
  refine ⟨?_, ?_, ?_, ?_, ?_, ?_, ?_, ?_, ?_, ?_, ?_, ?_, ?_, ?_, ?_⟩
  · let R := quiet
    let q : Packet := pk 2 8 0xFFFFFFFF 0x0001 false ([])
    let i : Nat := 0
    let s : State := brd (R) 2 8 3
    exact ⟨s, q, i, holds_of (fun (h : _ ∧ _ ∧ _) => ⟨inv_of h.1, arrives_pk h.2.1, h.2.2⟩) (by decide +kernel +revert)⟩
  · let R := quiet
    let q : Packet := pk 2 1 7 0x0020 false (Crypto.beBytes 2 4 ++ Crypto.beBytes 1 36)
    let i : Nat := 0
    let off : Nat := 4
    let len : Nat := 36
    let s : State := brd (R) 2 1 3
    exact ⟨s, q, i, off, len, holds_of (fun (h : _ ∧ _ ∧ _ ∧ _ ∧ _ ∧ _ ∧ _ ∧ _) => ⟨inv_of h.1, arrives_pk h.2.1, h.2.2.1, h.2.2.2.1, h.2.2.2.2.1, h.2.2.2.2.2.1, h.2.2.2.2.2.2.1, h.2.2.2.2.2.2.2⟩) (by decide +kernel +revert)⟩
  · let R := quiet
    let q : Packet := pk 2 1 7 0x1010 true (Crypto.beBytes 1 3 ++ ([5, 1048575, 5] : List Nat).flatMap (Crypto.beBytes 3))
    let i : Nat := 0
    let ids : List Nat := [5, 1048575, 5]
    let s : State := (((brd (R) 2 1 3).setDesc 5 (BitVec.ofNat 64 (2 + 3 * 2 ^ 32))).setDesc 1048575 (BitVec.ofNat 64 1))
    exact ⟨s, q, i, ids, holds_of (fun (h : _ ∧ _ ∧ _ ∧ _ ∧ _ ∧ _ ∧ _) => ⟨inv_of h.1, arrives_pk h.2.1, h.2.2.1, h.2.2.2.1, h.2.2.2.2.1, h.2.2.2.2.2.1, h.2.2.2.2.2.2⟩) (by decide +kernel +revert)⟩
  · let R := quiet
    let q : Packet := pk 2 1 7 0x1012 true (Crypto.beBytes 2 1000 ++ Crypto.beBytes 1 3 ++ ([5, 1048575, 5] : List Nat).flatMap (Crypto.beBytes 3))
    let i : Nat := 0
    let per : Nat := 1000
    let ids : List Nat := [5, 1048575, 5]
    let s : State := (((brd (R) 2 1 3).setDesc 5 (BitVec.ofNat 64 (2 + 3 * 2 ^ 32))).setDesc 1048575 (BitVec.ofNat 64 1))
    exact ⟨s, q, i, per, ids, holds_of (fun (h : _ ∧ _ ∧ _ ∧ _ ∧ _ ∧ _ ∧ _ ∧ _ ∧ _ ∧ _ ∧ _ ∧ _ ∧ _) => ⟨inv_of h.1, arrives_pk h.2.1, h.2.2.1, h.2.2.2.1, h.2.2.2.2.1, h.2.2.2.2.2.1, h.2.2.2.2.2.2.1, h.2.2.2.2.2.2.2.1, h.2.2.2.2.2.2.2.2.1, h.2.2.2.2.2.2.2.2.2.1, h.2.2.2.2.2.2.2.2.2.2.1, h.2.2.2.2.2.2.2.2.2.2.2.1, h.2.2.2.2.2.2.2.2.2.2.2.2⟩) (by decide +kernel +revert)⟩
  · let R := quiet
    let q : Packet := pk 2 1 7 0x1013 true (Crypto.beBytes 4 77)
    let i : Nat := 0
    let k : Nat := 77
    let s : State := (brd (R) 2 1 3).modBridle (fun b => { b with subs := { session := 1, seq := 77, port := 1, period := 5, ids := [], next := 0 } :: b.subs })
    exact ⟨s, q, i, k, holds_of (fun (h : _ ∧ _ ∧ _ ∧ _ ∧ _ ∧ _ ∧ _ ∧ _) => ⟨inv_of h.1, arrives_pk h.2.1, h.2.2.1, h.2.2.2.1, h.2.2.2.2.1, h.2.2.2.2.2.1, h.2.2.2.2.2.2.1, h.2.2.2.2.2.2.2⟩) (by decide +kernel +revert)⟩
  · let R := quiet
    let q : Packet := pk 2 0 7 0x8010 true ((BitVec.ofNat 8 4 : Byte) :: (List.replicate 16 9))
    let i : Nat := 0
    let l : Nat := 4
    let hn : List (BitVec 8) := (List.replicate 16 9 : List Byte)
    let m : Nat := 2
    let s : State := (sets (brd (R) 2 0 3) [(Reg.BRD_SESS 0, Fld.BRD_SESS_state, 1), (Reg.BRD_SESS 1, Fld.BRD_SESS_state, 0)]).modSecure (fun x => { x with levelKey := [none, none, none, some (List.replicate 16 1)], lockEnd := [0,0,0,0] })
    exact ⟨s, q, i, l, hn, m, holds_of (fun (h : _ ∧ _ ∧ _ ∧ _ ∧ _ ∧ _ ∧ _ ∧ _ ∧ _ ∧ _) => ⟨inv_of h.1, arrives_pk h.2.1, h.2.2.1, h.2.2.2.1, h.2.2.2.2.1, h.2.2.2.2.2.1, h.2.2.2.2.2.2.1, h.2.2.2.2.2.2.2.1, h.2.2.2.2.2.2.2.2.1, h.2.2.2.2.2.2.2.2.2⟩) (by decide +kernel +revert)⟩
  · let R := quiet
    let q : Packet := pk 2 0 7 0x8011 true ((BitVec.ofNat 8 7 : Byte) :: ((Crypto.hmac (List.replicate 16 1) (BitVec.ofNat 8 4 :: List.replicate 16 1 ++ List.replicate 16 2 ++ List.replicate 8 3)).take 32))
    let i : Nat := 0
    let m : Nat := 7
    let proof : List (BitVec 8) := (Crypto.hmac (List.replicate 16 1) (BitVec.ofNat 8 4 :: List.replicate 16 1 ++ List.replicate 16 2 ++ List.replicate 8 3)).take 32
    let s : State := ((sets (brd (R) 2 0 3) [(Reg.BRD_SESS 6, Fld.BRD_SESS_state, 1), (Reg.BRD_SESS 6, Fld.BRD_SESS_level, 4), (Reg.BRD_SESS 6, Fld.BRD_SESS_port, 2), (Reg.BRD_LOCK 3, Fld.BRD_LOCK_fails, 2)]).modSecure (fun x => { x with levelKey := [none, none, none, some (List.replicate 16 1)], serial := List.replicate 8 3, lockEnd := [1,1,0,0] })).modSess 7 (fun x => { x with hn := List.replicate 16 1, dn := List.replicate 16 2 })
    exact ⟨s, q, i, m, proof, holds_of (fun (h : _ ∧ _ ∧ _ ∧ _ ∧ _ ∧ _ ∧ _ ∧ _ ∧ _ ∧ _) => ⟨inv_of h.1, arrives_pk h.2.1, h.2.2.1, h.2.2.2.1, h.2.2.2.2.1, rfl, h.2.2.2.2.2.1, h.2.2.2.2.2.2.1, h.2.2.2.2.2.2.2.1, h.2.2.2.2.2.2.2.2.1, hmac_same h.2.2.2.2.2.2.2.2.2⟩) (by decide +kernel +revert)⟩
  · let R := quiet
    let q : Packet := pk 2 0 7 0x8011 true ((BitVec.ofNat 8 7 : Byte) :: (otherBytes ((Crypto.hmac (List.replicate 16 1) (BitVec.ofNat 8 4 :: List.replicate 16 1 ++ List.replicate 16 2 ++ List.replicate 8 3)).take 32)))
    let i : Nat := 0
    let m : Nat := 7
    let proof : List (BitVec 8) := otherBytes ((Crypto.hmac (List.replicate 16 1) (BitVec.ofNat 8 4 :: List.replicate 16 1 ++ List.replicate 16 2 ++ List.replicate 8 3)).take 32)
    let s : State := ((sets (brd (R) 2 0 3) [(Reg.BRD_SESS 6, Fld.BRD_SESS_state, 1), (Reg.BRD_SESS 6, Fld.BRD_SESS_level, 4), (Reg.BRD_SESS 6, Fld.BRD_SESS_port, 2), (Reg.BRD_LOCK 3, Fld.BRD_LOCK_fails, 2)]).modSecure (fun x => { x with levelKey := [none, none, none, some (List.replicate 16 1)], serial := List.replicate 8 3, lockEnd := [1,1,0,0] })).modSess 7 (fun x => { x with hn := List.replicate 16 1, dn := List.replicate 16 2 })
    exact ⟨s, q, i, m, proof, holds_of (fun (h : _ ∧ _ ∧ _ ∧ _ ∧ _ ∧ _ ∧ _ ∧ _ ∧ _ ∧ _ ∧ _) => ⟨inv_of h.1, arrives_pk h.2.1, h.2.2.1, h.2.2.2.1, h.2.2.2.2.1, rfl, h.2.2.2.2.2.1, h.2.2.2.2.2.2.1, h.2.2.2.2.2.2.2.1, h.2.2.2.2.2.2.2.2.1, hmac_other h.2.2.2.2.2.2.2.2.2.1, h.2.2.2.2.2.2.2.2.2.2⟩) (by decide +kernel +revert)⟩
  · let R := quiet
    let q : Packet := pk 2 1 7 0x8012 true ([])
    let i : Nat := 0
    let s : State := brd (R) 2 1 3
    exact ⟨s, q, i, holds_of (fun (h : _ ∧ _ ∧ _ ∧ _ ∧ _) => ⟨inv_of h.1, arrives_pk h.2.1, h.2.2.1, h.2.2.2.1, h.2.2.2.2⟩) (by decide +kernel +revert)⟩
  · let R := quiet
    let x : Sub := ({ session := 3, seq := 77, port := 1, period := 5, ids := [5], next := 8 } : Sub)
    let k : Nat := 0
    let s : State := ((sets R [(Reg.BRD_CTRL, Fld.BRD_CTRL_en, 1), (Reg.PWR_STAT, ⟨10, 2⟩, 0), (Reg.BRD_SESS 2, Fld.BRD_SESS_level, 3)]).setDesc 5 (BitVec.ofNat 64 (2 + 3 * 2 ^ 32)) |>.modBridle (fun b => { b with subs := { session := 3, seq := 77, port := 1, period := 5, ids := [5], next := 8 } :: b.subs }) |>.modBus 1 (fun b => { b with replies := [] }))
    exact ⟨s, k, x, holds_of (fun (h : _ ∧ _ ∧ _ ∧ _ ∧ _ ∧ _) => ⟨inv_of h.1, h.2.1, h.2.2.1, h.2.2.2.1, h.2.2.2.2.1, h.2.2.2.2.2⟩) (by decide +kernel +revert)⟩
  · let R := quiet
    let x : Sub := ({ session := 3, seq := 77, port := 1, period := 5, ids := [5], next := 8 } : Sub)
    let k : Nat := 0
    let s : State := ((sets R [(Reg.BRD_CTRL, Fld.BRD_CTRL_en, 1), (Reg.PWR_STAT, ⟨10, 2⟩, 0), (Reg.BRD_SESS 2, Fld.BRD_SESS_level, 2)]).setDesc 5 (BitVec.ofNat 64 (2 + 3 * 2 ^ 32)) |>.modBridle (fun b => { b with subs := { session := 3, seq := 77, port := 1, period := 5, ids := [5], next := 8 } :: b.subs }) |>.modBus 1 (fun b => { b with replies := [] }))
    exact ⟨s, k, x, holds_of (fun (h : _ ∧ _ ∧ _) => ⟨inv_of h.1, h.2.1, h.2.2⟩) (by decide +kernel +revert)⟩
  · let R := quiet
    let n : Nat := 8
    let s : State := R.setf (Reg.BRD_SESS 7) Fld.BRD_SESS_state 2
    exact ⟨s, n, holds_of (fun (h : _ ∧ _ ∧ _ ∧ _) => ⟨inv_of h.1, h.2.1, h.2.2.1, h.2.2.2⟩) (by decide +kernel +revert)⟩
  · let R := quiet
    let n : Nat := 1
    let s : State := R.setf (Reg.BRD_SESS 0) Fld.BRD_SESS_state 1
    exact ⟨s, n, holds_of (fun (h : _ ∧ _ ∧ _ ∧ _) => ⟨inv_of h.1, h.2.1, h.2.2.1, h.2.2.2⟩) (by decide +kernel +revert)⟩
  · let R := quiet
    let l : Nat := 4
    let s : State := R.setf (Reg.BRD_LOCK 3) Fld.BRD_LOCK_rem 1
    exact ⟨s, l, holds_of (fun (h : _ ∧ _ ∧ _ ∧ _) => ⟨inv_of h.1, h.2.1, h.2.2.1, h.2.2.2⟩) (by decide +kernel +revert)⟩
  · let R := quiet
    let core : Nat := 5
    let s : State := R.setf Reg.BRD_CTRL Fld.BRD_CTRL_en 1
    exact ⟨s, core, holds_of (fun (h : _ ∧ _ ∧ _ ∧ _ ∧ _) => ⟨inv_of h.1, h.2.1, h.2.2.1, h.2.2.2.1, h.2.2.2.2⟩) (by decide +kernel +revert)⟩

theorem witness_FirmwareCommands_a :
    (∃ (s : State) (q : Packet) (i : Nat) (ct : Nat) (lat : Nat) (u : Nat) (v : Nat) (w : Nat) (b : Nat) (cs : Nat), s.Inv ∧ q.Served 0x3010 i ct s ∧ u < 2 ^ 16 ∧ v < 2 ^ 16 ∧ w < 256 ∧ q.params = Crypto.beBytes 2 u ++ Crypto.beBytes 2 v ++ Crypto.beBytes 1 w ∧ cs ≠ 14 ∧ q.Passes 1 [(csig 0x210, Wi (sx 16 u)), (csig 0x211, Wi (sx 16 v)), (csig 0x212, W w)] cs [4, 5, 13] (q.atFirmware 0x3010 i ct s) ∧ (q.atFirmware 0x3010 i ct s).admits cs (lat * 400000 + 2400) s.dtb 1 b) ∧
    (∃ (s : State) (q : Packet) (i : Nat) (ct : Nat) (lat : Nat) (u : Nat) (v : Nat) (b : Nat) (cs : Nat), s.Inv ∧ q.Served 0x3011 i ct s ∧ u < 2 ^ 16 ∧ v < 2 ^ 16 ∧ q.params = Crypto.beBytes 2 u ++ Crypto.beBytes 2 v ∧ cs ≠ 14 ∧ q.Passes 1 [(csig 0x300, Wi (sx 16 u)), (csig 0x301, Wi (sx 16 v))] cs [4, 5, 13] (q.atFirmware 0x3011 i ct s) ∧ (q.atFirmware 0x3011 i ct s).admits cs (lat * 400000 + 2400) s.dtb 1 b) ∧
    (∃ (s : State) (q : Packet) (i : Nat) (ct : Nat) (lat : Nat) (u : Nat) (v : Nat) (b : Nat) (cs : Nat), s.Inv ∧ q.Served 0x3020 i ct s ∧ u ≤ 5 ∧ v < 2 ^ 16 ∧ q.params = Crypto.beBytes 1 u ++ Crypto.beBytes 2 v ∧ cs ≠ 14 ∧ q.Passes 1 [(csig 0x400, W u), (csig 0x401, Wi (sx 16 v))] cs [4, 5, 13] (q.atFirmware 0x3020 i ct s) ∧ (q.atFirmware 0x3020 i ct s).admits cs (lat * 400000 + 2400) s.dtb 2 b) ∧
    (∃ (s : State) (q : Packet) (i : Nat) (ct : Nat) (lat : Nat) (b : Nat) (cs : Nat), s.Inv ∧ q.Served 0x3030 i ct s ∧ q.params = [] ∧ cs ≠ 14 ∧ q.Passes 2 [(csig 0x302, 1)] cs [4, 5, 13] (q.atFirmware 0x3030 i ct s) ∧ (q.atFirmware 0x3030 i ct s).admits cs (lat * 400000 + 2400) s.dtb 1 b) := by
  refine ⟨?_, ?_, ?_, ?_⟩
  · let R := quiet
    let q : Packet := pk 2 1 7 0x3010 true (Crypto.beBytes 2 65535 ++ Crypto.beBytes 2 7 ++ Crypto.beBytes 1 255)
    let i : Nat := 0
    let ct : Nat := 5000
    let lat : Nat := 0
    let u : Nat := 65535
    let v : Nat := 7
    let w : Nat := 255
    let cs : Nat := 13
    let s : State := { lateMs (untrip ((cmdSig (cmdSig (cmdSig (fwUp (brd (R) 2 1 4)) (csig 0x210) 13) (csig 0x211) 13) (csig 0x212) 13).wr Reg.TH_STAT 0)) with variant := .f }
    let b : Nat := ((q.atFirmware 0x3010 0 ct s).admitAt 13 (q.atFirmware 0x3010 0 ct s).dtb (lat * 400000 + 2400) s.dtb 1).1
    exact ⟨s, q, i, ct, lat, u, v, w, b, cs, holds_of (fun (h : _ ∧ _ ∧ _ ∧ _ ∧ _ ∧ _ ∧ _ ∧ _ ∧ _) => ⟨inv_of h.1, served_pk h.2.1, h.2.2.1, h.2.2.2.1, h.2.2.2.2.1, h.2.2.2.2.2.1, h.2.2.2.2.2.2.1, passes_of h.2.2.2.2.2.2.2.1, admits_of h.2.2.2.2.2.2.2.2⟩) (by decide +kernel +revert)⟩
  · let R := quiet
    let q : Packet := pk 2 1 7 0x3011 true (Crypto.beBytes 2 65535 ++ Crypto.beBytes 2 7)
    let i : Nat := 0
    let ct : Nat := 5000
    let lat : Nat := 0
    let u : Nat := 65535
    let v : Nat := 7
    let cs : Nat := 13
    let s : State := { lateMs (untrip ((cmdSig (cmdSig (fwUp (brd (R) 2 1 4)) (csig 0x300) 13) (csig 0x301) 13).wr Reg.TH_STAT 0)) with variant := .f }
    let b : Nat := ((q.atFirmware 0x3011 0 ct s).admitAt 13 (q.atFirmware 0x3011 0 ct s).dtb (lat * 400000 + 2400) s.dtb 1).1
    exact ⟨s, q, i, ct, lat, u, v, b, cs, holds_of (fun (h : _ ∧ _ ∧ _ ∧ _ ∧ _ ∧ _ ∧ _ ∧ _) => ⟨inv_of h.1, served_pk h.2.1, h.2.2.1, h.2.2.2.1, h.2.2.2.2.1, h.2.2.2.2.2.1, passes_of h.2.2.2.2.2.2.1, admits_of h.2.2.2.2.2.2.2⟩) (by decide +kernel +revert)⟩
  · let R := quiet
    let q : Packet := pk 2 1 7 0x3020 true (Crypto.beBytes 1 5 ++ Crypto.beBytes 2 7)
    let i : Nat := 0
    let ct : Nat := 5000
    let lat : Nat := 5
    let u : Nat := 5
    let v : Nat := 7
    let cs : Nat := 13
    let s : State := { lateMs (untrip ((cmdSig (cmdSig (fwUp (brd (R) 2 1 4)) (csig 0x400) 13) (csig 0x401) 13).wr Reg.TH_STAT 0)) with variant := .f }
    let b : Nat := ((q.atFirmware 0x3020 0 ct s).admitAt 13 (q.atFirmware 0x3020 0 ct s).dtb (lat * 400000 + 2400) s.dtb 2).1
    exact ⟨s, q, i, ct, lat, u, v, b, cs, holds_of (fun (h : _ ∧ _ ∧ _ ∧ _ ∧ _ ∧ _ ∧ _ ∧ _) => ⟨inv_of h.1, served_pk h.2.1, h.2.2.1, h.2.2.2.1, h.2.2.2.2.1, h.2.2.2.2.2.1, passes_of h.2.2.2.2.2.2.1, admits_of h.2.2.2.2.2.2.2⟩) (by decide +kernel +revert)⟩
  · let R := quiet
    let q : Packet := pk 2 1 7 0x3030 true ([])
    let i : Nat := 0
    let ct : Nat := 5000
    let lat : Nat := 0
    let cs : Nat := 13
    let s : State := { lateMs (untrip ((cmdSig (fwUp (brd (R) 2 1 4)) (csig 0x302) 13).wr Reg.TH_STAT 0)) with variant := .f }
    let b : Nat := ((q.atFirmware 0x3030 0 ct s).admitAt 13 (q.atFirmware 0x3030 0 ct s).dtb (lat * 400000 + 2400) s.dtb 1).1
    exact ⟨s, q, i, ct, lat, b, cs, holds_of (fun (h : _ ∧ _ ∧ _ ∧ _ ∧ _ ∧ _) => ⟨inv_of h.1, served_pk h.2.1, h.2.2.1, h.2.2.2.1, passes_of h.2.2.2.2.1, admits_of h.2.2.2.2.2⟩) (by decide +kernel +revert)⟩

theorem witness_FirmwareCommands_b :
    (∃ (s : State) (q : Packet) (i : Nat) (ct : Nat) (lat : Nat) (v : Nat) (b : Nat) (cs : Nat), s.Inv ∧ q.Served 0x5010 i ct s ∧ v < 2 ^ 16 ∧ q.params = Crypto.beBytes 2 v ∧ cs ≠ 14 ∧ q.Passes 1 [(asig 0x220, Wi (sx 16 v))] cs [9] (q.atFirmware 0x5010 i ct s) ∧ (q.atFirmware 0x5010 i ct s).admits cs (lat * 400000 + 2400) s.dtb 1 b) ∧
    (∃ (s : State) (q : Packet) (i : Nat) (ct : Nat) (lat : Nat) (v : Nat) (b : Nat) (cs : Nat), s.Inv ∧ q.Served 0x5020 i ct s ∧ v ≤ 1 ∧ q.params = Crypto.beBytes 1 v ∧ cs ≠ 14 ∧ q.Passes 1 [(asig 0x400, W v)] cs [11] (q.atFirmware 0x5020 i ct s) ∧ (q.atFirmware 0x5020 i ct s).admits cs (lat * 400000 + 2400) s.dtb 1 b) ∧
    (∃ (s : State) (q : Packet) (i : Nat) (ct : Nat) (lat : Nat) (v : Nat) (b : Nat) (cs : Nat), s.Inv ∧ q.Served 0x5030 i ct s ∧ v ≤ 1 ∧ q.params = Crypto.beBytes 1 v ∧ cs ≠ 14 ∧ q.Passes 1 [(asig 0x600, W v)] cs [12] (q.atFirmware 0x5030 i ct s) ∧ (q.atFirmware 0x5030 i ct s).admits cs (lat * 400000 + 2400) s.dtb 1 b) ∧
    (∃ (s : State) (q : Packet) (i : Nat) (ct : Nat) (lat : Nat) (v : Nat) (b : Nat) (cs : Nat), s.Inv ∧ q.Served 0x5040 i ct s ∧ v < 2 ^ 16 ∧ q.params = Crypto.beBytes 2 v ∧ cs ≠ 14 ∧ q.Passes 1 [(asig 0x506, Wi (sx 16 v))] cs [10] (q.atFirmware 0x5040 i ct s) ∧ (q.atFirmware 0x5040 i ct s).admits cs (lat * 400000 + 2400) s.dtb 1 b) := by
  refine ⟨?_, ?_, ?_, ?_⟩
  · let R := quiet
    let q : Packet := pk 2 1 7 0x5010 true (Crypto.beBytes 2 65535)
    let i : Nat := 0
    let ct : Nat := 5000
    let lat : Nat := 0
    let v : Nat := 65535
    let cs : Nat := 13
    let s : State := { lateMs (untrip ((cmdSig (fwUp (brd (R) 2 1 4)) (asig 0x220) 13).wr Reg.TH_STAT 0)) with variant := .f }
    let b : Nat := ((q.atFirmware 0x5010 0 ct s).admitAt 13 (q.atFirmware 0x5010 0 ct s).dtb (lat * 400000 + 2400) s.dtb 1).1
    exact ⟨s, q, i, ct, lat, v, b, cs, holds_of (fun (h : _ ∧ _ ∧ _ ∧ _ ∧ _ ∧ _ ∧ _) => ⟨inv_of h.1, served_pk h.2.1, h.2.2.1, h.2.2.2.1, h.2.2.2.2.1, passes_of h.2.2.2.2.2.1, admits_of h.2.2.2.2.2.2⟩) (by decide +kernel +revert)⟩
  · let R := quiet
    let q : Packet := pk 2 1 7 0x5020 true (Crypto.beBytes 1 1)
    let i : Nat := 0
    let ct : Nat := 5000
    let lat : Nat := 0
    let v : Nat := 1
    let cs : Nat := 13
    let s : State := { lateMs (untrip ((cmdSig (fwUp (brd (R) 2 1 4)) (asig 0x400) 13).wr Reg.TH_STAT 0)) with variant := .f }
    let b : Nat := ((q.atFirmware 0x5020 0 ct s).admitAt 13 (q.atFirmware 0x5020 0 ct s).dtb (lat * 400000 + 2400) s.dtb 1).1
    exact ⟨s, q, i, ct, lat, v, b, cs, holds_of (fun (h : _ ∧ _ ∧ _ ∧ _ ∧ _ ∧ _ ∧ _) => ⟨inv_of h.1, served_pk h.2.1, h.2.2.1, h.2.2.2.1, h.2.2.2.2.1, passes_of h.2.2.2.2.2.1, admits_of h.2.2.2.2.2.2⟩) (by decide +kernel +revert)⟩
  · let R := quiet
    let q : Packet := pk 2 1 7 0x5030 true (Crypto.beBytes 1 0)
    let i : Nat := 0
    let ct : Nat := 5000
    let lat : Nat := 0
    let v : Nat := 0
    let cs : Nat := 13
    let s : State := { lateMs (untrip ((cmdSig (fwUp (brd (R) 2 1 4)) (asig 0x600) 13).wr Reg.TH_STAT 0)) with variant := .f }
    let b : Nat := ((q.atFirmware 0x5030 0 ct s).admitAt 13 (q.atFirmware 0x5030 0 ct s).dtb (lat * 400000 + 2400) s.dtb 1).1
    exact ⟨s, q, i, ct, lat, v, b, cs, holds_of (fun (h : _ ∧ _ ∧ _ ∧ _ ∧ _ ∧ _ ∧ _) => ⟨inv_of h.1, served_pk h.2.1, h.2.2.1, h.2.2.2.1, h.2.2.2.2.1, passes_of h.2.2.2.2.2.1, admits_of h.2.2.2.2.2.2⟩) (by decide +kernel +revert)⟩
  · let R := quiet
    let q : Packet := pk 2 1 7 0x5040 true (Crypto.beBytes 2 9)
    let i : Nat := 0
    let ct : Nat := 5000
    let lat : Nat := 0
    let v : Nat := 9
    let cs : Nat := 13
    let s : State := { lateMs (untrip ((cmdSig (fwUp (brd (R) 2 1 4)) (asig 0x506) 13).wr Reg.TH_STAT 0)) with variant := .f }
    let b : Nat := ((q.atFirmware 0x5040 0 ct s).admitAt 13 (q.atFirmware 0x5040 0 ct s).dtb (lat * 400000 + 2400) s.dtb 1).1
    exact ⟨s, q, i, ct, lat, v, b, cs, holds_of (fun (h : _ ∧ _ ∧ _ ∧ _ ∧ _ ∧ _ ∧ _) => ⟨inv_of h.1, served_pk h.2.1, h.2.2.1, h.2.2.2.1, h.2.2.2.2.1, passes_of h.2.2.2.2.2.1, admits_of h.2.2.2.2.2.2⟩) (by decide +kernel +revert)⟩

theorem witness_FirmwareConfigures_a :
    (∃ (s : State) (q : Packet) (i : Nat) (ct : Nat) (lat : Nat) (b : Nat) (u : State), s.Inv ∧ q.Served 0x0030 i ct s ∧ u = q.atFirmware 0x0030 i ct s ∧ q.n ≠ 0 ∧ 2 ≤ u.sessLevel q.n ∧ q.params = [] ∧ u.modeNow ≤ 1 ∧ u.admits 15 (lat * 400000 + 2400) s.dtb 2 b) ∧
    (∃ (s : State) (q : Packet) (i : Nat) (ct : Nat) (lat : Nat) (b : Nat) (u : State), s.Inv ∧ q.Served 0x6010 i ct s ∧ u = q.atFirmware 0x6010 i ct s ∧ q.n ≠ 0 ∧ 3 ≤ u.sessLevel q.n ∧ u.locked = false ∧ u.admits 15 (lat * 400000 + 2400) s.dtb 3 b) ∧
    (∃ (s : State) (q : Packet) (i : Nat) (ct : Nat) (lat : Nat) (a : Nat) (d : List Byte) (b : Nat) (u : State), s.Inv ∧ q.Served 0x7011 i ct s ∧ u = q.atFirmware 0x7011 i ct s ∧ q.n ≠ 0 ∧ 3 ≤ u.sessLevel q.n ∧ a < 2 ^ 32 ∧ q.params = Crypto.beBytes 4 a ++ d ∧ 0x48000000 ≤ a ∧ a + d.length ≤ 0x48400000 ∧ u.domainOn 7 = true ∧ s.boot.pwfAt = none ∧ u.admits 15 (lat * 400000 + 2400) s.dtb 4 b) ∧
    (∃ (s : State) (q : Packet) (i : Nat) (ct : Nat) (lat : Nat) (k : Nat) (off : Nat) (d : List Byte) (b : Nat) (u : State), s.Inv ∧ q.Served 0x7020 i ct s ∧ u = q.atFirmware 0x7020 i ct s ∧ q.n ≠ 0 ∧ 4 ≤ u.sessLevel q.n ∧ q.params = Crypto.beBytes 1 k ++ Crypto.beBytes 4 off ++ d ∧ k ≤ 1 ∧ k ≠ u.fld Reg.SEC_BOOTST Fld.SEC_BOOTST_bank ∧ off % 16 = 0 ∧ d.length % 16 = 0 ∧ off + d.length ≤ 0x1000000 ∧ u.domainOn 7 = true ∧ s.boot.pwfAt = none ∧ u.admits 15 (lat * 400000 + 2400) s.dtb 4 b) := by
  refine ⟨?_, ?_, ?_, ?_⟩
  · let R := quiet
    let q : Packet := pk 2 1 7 0x0030 true ([])
    let i : Nat := 0
    let ct : Nat := 5000
    let lat : Nat := 3
    let s : State := sv ({ lateMs (untrip ((fwUp (brd (R) 2 1 4)).wr Reg.TH_STAT 0)) with variant := .f }) sigMode 1
    let u : State := (q.atFirmware 0x0030 0 ct s)
    let b : Nat := ((q.atFirmware 0x0030 0 ct s).admitAt 15 (q.atFirmware 0x0030 0 ct s).dtb (lat * 400000 + 2400) s.dtb 2).1
    exact ⟨s, q, i, ct, lat, b, u, holds_of (fun (h : _ ∧ _ ∧ _ ∧ _ ∧ _ ∧ _ ∧ _) => ⟨inv_of h.1, served_pk h.2.1, rfl, h.2.2.1, h.2.2.2.1, h.2.2.2.2.1, h.2.2.2.2.2.1, admits_of h.2.2.2.2.2.2⟩) (by decide +kernel +revert)⟩
  · let R := quiet
    let q : Packet := pk 2 1 7 0x6010 true ([])
    let i : Nat := 0
    let ct : Nat := 5000
    let lat : Nat := 0
    let s : State := ({ lateMs (untrip ((fwUp (brd (R) 2 1 4)).wr Reg.TH_STAT 0)) with variant := .f }).setf Reg.MG_STAT Fld.MG_STAT_locked 0
    let u : State := (q.atFirmware 0x6010 0 ct s)
    let b : Nat := ((q.atFirmware 0x6010 0 ct s).admitAt 15 (q.atFirmware 0x6010 0 ct s).dtb (lat * 400000 + 2400) s.dtb 3).1
    exact ⟨s, q, i, ct, lat, b, u, holds_of (fun (h : _ ∧ _ ∧ _ ∧ _ ∧ _ ∧ _) => ⟨inv_of h.1, served_pk h.2.1, rfl, h.2.2.1, h.2.2.2.1, h.2.2.2.2.1, admits_of h.2.2.2.2.2⟩) (by decide +kernel +revert)⟩
  · let R := quiet
    let q : Packet := pk 2 1 7 0x7011 true (Crypto.beBytes 4 0x483ffffe ++ [1, 2])
    let i : Nat := 0
    let ct : Nat := 5000
    let lat : Nat := 20
    let a : Nat := 0x483ffffe
    let d : List Byte := ([1, 2] : List Byte)
    let s : State := ({ lateMs (untrip ((fwUp (brd ({ R with boot := { R.boot with pwfAt := none } }) 2 1 4)).wr Reg.TH_STAT 0)) with variant := .f }).setDomain 7 0
    let u : State := (q.atFirmware 0x7011 0 ct s)
    let b : Nat := ((q.atFirmware 0x7011 0 ct s).admitAt 15 (q.atFirmware 0x7011 0 ct s).dtb (lat * 400000 + 2400) s.dtb 4).1
    exact ⟨s, q, i, ct, lat, a, d, b, u, holds_of (fun (h : _ ∧ _ ∧ _ ∧ _ ∧ _ ∧ _ ∧ _ ∧ _ ∧ _ ∧ _ ∧ _) => ⟨inv_of h.1, served_pk h.2.1, rfl, h.2.2.1, h.2.2.2.1, h.2.2.2.2.1, h.2.2.2.2.2.1, h.2.2.2.2.2.2.1, h.2.2.2.2.2.2.2.1, h.2.2.2.2.2.2.2.2.1, h.2.2.2.2.2.2.2.2.2.1, admits_of h.2.2.2.2.2.2.2.2.2.2⟩) (by decide +kernel +revert)⟩
  · let R := quiet
    let q : Packet := pk 2 1 7 0x7020 true (Crypto.beBytes 1 1 ++ Crypto.beBytes 4 0xfffff0 ++ List.replicate 16 3)
    let i : Nat := 0
    let ct : Nat := 5000
    let lat : Nat := 20
    let k : Nat := 1
    let off : Nat := 0xfffff0
    let d : List Byte := (List.replicate 16 3 : List Byte)
    let s : State := sets ({ lateMs (untrip ((fwUp (brd ({ R with boot := { R.boot with pwfAt := none } }) 2 1 4)).wr Reg.TH_STAT 0)) with variant := .f }) [(Reg.SEC_BOOTST, Fld.SEC_BOOTST_bank, 0), (Reg.PWR_STAT, ⟨14, 2⟩, 0)]
    let u : State := (q.atFirmware 0x7020 0 ct s)
    let b : Nat := ((q.atFirmware 0x7020 0 ct s).admitAt 15 (q.atFirmware 0x7020 0 ct s).dtb (lat * 400000 + 2400) s.dtb 4).1
    exact ⟨s, q, i, ct, lat, k, off, d, b, u, holds_of (fun (h : _ ∧ _ ∧ _ ∧ _ ∧ _ ∧ _ ∧ _ ∧ _ ∧ _ ∧ _ ∧ _ ∧ _ ∧ _) => ⟨inv_of h.1, served_pk h.2.1, rfl, h.2.2.1, h.2.2.2.1, h.2.2.2.2.1, h.2.2.2.2.2.1, h.2.2.2.2.2.2.1, h.2.2.2.2.2.2.2.1, h.2.2.2.2.2.2.2.2.1, h.2.2.2.2.2.2.2.2.2.1, h.2.2.2.2.2.2.2.2.2.2.1, h.2.2.2.2.2.2.2.2.2.2.2.1, admits_of h.2.2.2.2.2.2.2.2.2.2.2.2⟩) (by decide +kernel +revert)⟩

theorem witness_FirmwareConfigures_b :
    (∃ (s : State) (q : Packet) (i : Nat) (ct : Nat) (lat : Nat) (k : Nat) (b : Nat) (u : State), s.Inv ∧ q.Served 0x7021 i ct s ∧ u = q.atFirmware 0x7021 i ct s ∧ q.n ≠ 0 ∧ 4 ≤ u.sessLevel q.n ∧ q.params = Crypto.beBytes 1 k ∧ k ≤ 1 ∧ u.modeNow ≤ 1 ∧ u.domainOn 7 = true ∧ u.admits 15 (lat * 400000 + 2400) s.dtb 4 b) ∧
    (∃ (s : State) (q : Packet) (i : Nat) (ct : Nat) (lat : Nat) (k : Nat) (w : List Byte) (b : Nat) (u : State), s.Inv ∧ q.Served 0x8030 i ct s ∧ u = q.atFirmware 0x8030 i ct s ∧ q.n ≠ 0 ∧ 4 ≤ u.sessLevel q.n ∧ q.params = Crypto.beBytes 1 k ++ w ∧ w.length = 16 ∧ 1 ≤ k ∧ k ≤ 4 ∧ u.domainOn 7 = true ∧ u.admits 15 (lat * 400000 + 2400) s.dtb 3 b) ∧
    (∃ (s : State) (q : Packet) (i : Nat) (ct : Nat) (lat : Nat) (k : Nat) (b : Nat) (u : State), s.Inv ∧ q.Served 0x8030 i ct s ∧ u = q.atFirmware 0x8030 i ct s ∧ q.n ≠ 0 ∧ 4 ≤ u.sessLevel q.n ∧ q.params = Crypto.beBytes 1 k ∧ 0x81 ≤ k ∧ k ≤ 0x84 ∧ u.revocable (k - 0x81) = true ∧ u.domainOn 7 = true ∧ u.admits 15 (lat * 400000 + 2400) s.dtb 3 b) ∧
    (∃ (s : State) (q : Packet) (i : Nat) (ct : Nat) (lat : Nat) (v : Nat) (ids : List Nat) (b : Nat) (u : State), s.Inv ∧ q.Served 0xA010 i ct s ∧ u = q.atFirmware 0xA010 i ct s ∧ q.n ≠ 0 ∧ 2 ≤ u.sessLevel q.n ∧ q.params = Crypto.beBytes 4 v ++ ids.flatMap (Crypto.beBytes 3) ∧ v < 2 ^ 32 ∧ ids ≠ [] ∧ (∀ x ∈ ids, x < 2 ^ 20) ∧ Word.get (W v) Fld.PRC_CTRL_count = ids.length ∧ Word.get (W v) Fld.PRC_CTRL_stage ≠ 14 ∧ u.admits 15 (lat * 400000 + 2400) s.dtb 2 b) := by
  refine ⟨?_, ?_, ?_, ?_⟩
  · let R := quiet
    let q : Packet := pk 2 1 7 0x7021 true (Crypto.beBytes 1 1)
    let i : Nat := 0
    let ct : Nat := 5000
    let lat : Nat := 0
    let k : Nat := 1
    let s : State := sv (sets ({ lateMs (untrip ((fwUp (brd ({ fwUp (sv R sigMode 0) with codeNvm := ((Crypto.beBytes 176 1861860342613195224202059434806253668603376409040760848707476446727215217432199585701448820344727629450084879863318256214476112784850084630026379903443531487321830771106763418222156518719856630507596789035385523976411949923409684893770138668795289096144080735846391212438582226750404935786194790053114207904464597136263957750758961461314180324052017662909283536802125483587985379383129394472646287967271453071248364926450011 ++ Crypto.beBytes 96 176543838064492044533044252927081590247105054163801732180425853293846476584496052082923055731303582181734753079913926134539423838248723038052489985585204040972310646100909280112669284916320402058584348372328162505728291818196815436) : List Byte).zipIdx.map (fun x => (0x41000000 + x.2, x.1)) |>.filter (fun x => x.2 ≠ 0xFF), sec := { R.sec with slotHash := [Crypto.beBytes 48 35613112767166666629773266940016264020174249832049320848921383720673420500760334591184746668574492480788995737618115] } }) 2 1 4)).wr Reg.TH_STAT 0)) with variant := .f }) [(Reg.PWR_STAT, ⟨14, 2⟩, 0), (Reg.SEC_RBCNT, ⟨0, 7⟩, 0), (Reg.SEC_SLOTST, Fld.SEC_SLOTST_prov, 1), (Reg.SEC_SLOTST, Fld.SEC_SLOTST_rev, 0)]) sigMode 0
    let u : State := (q.atFirmware 0x7021 0 ct s)
    let b : Nat := ((q.atFirmware 0x7021 0 ct s).admitAt 15 (q.atFirmware 0x7021 0 ct s).dtb (lat * 400000 + 2400) s.dtb 4).1
    exact ⟨s, q, i, ct, lat, k, b, u, holds_of (fun (h : _ ∧ _ ∧ _ ∧ _ ∧ _ ∧ _ ∧ _ ∧ _ ∧ _) => ⟨inv_of h.1, served_pk h.2.1, rfl, h.2.2.1, h.2.2.2.1, h.2.2.2.2.1, h.2.2.2.2.2.1, h.2.2.2.2.2.2.1, h.2.2.2.2.2.2.2.1, admits_of h.2.2.2.2.2.2.2.2⟩) (by decide +kernel +revert)⟩
  · let R := quiet
    let q : Packet := pk 2 1 7 0x8030 true (Crypto.beBytes 1 4 ++ List.replicate 16 3)
    let i : Nat := 0
    let ct : Nat := 5000
    let lat : Nat := 0
    let k : Nat := 4
    let w : List Byte := (List.replicate 16 3 : List Byte)
    let s : State := ({ lateMs (untrip ((fwUp (brd (R) 2 1 4)).wr Reg.TH_STAT 0)) with variant := .f }).setDomain 7 0
    let u : State := (q.atFirmware 0x8030 0 ct s)
    let b : Nat := ((q.atFirmware 0x8030 0 ct s).admitAt 15 (q.atFirmware 0x8030 0 ct s).dtb (lat * 400000 + 2400) s.dtb 3).1
    exact ⟨s, q, i, ct, lat, k, w, b, u, holds_of (fun (h : _ ∧ _ ∧ _ ∧ _ ∧ _ ∧ _ ∧ _ ∧ _ ∧ _ ∧ _) => ⟨inv_of h.1, served_pk h.2.1, rfl, h.2.2.1, h.2.2.2.1, h.2.2.2.2.1, h.2.2.2.2.2.1, h.2.2.2.2.2.2.1, h.2.2.2.2.2.2.2.1, h.2.2.2.2.2.2.2.2.1, admits_of h.2.2.2.2.2.2.2.2.2⟩) (by decide +kernel +revert)⟩
  · let R := quiet
    let q : Packet := pk 2 1 7 0x8030 true (Crypto.beBytes 1 0x81)
    let i : Nat := 0
    let ct : Nat := 5000
    let lat : Nat := 0
    let k : Nat := 0x81
    let s : State := sets ({ lateMs (untrip ((fwUp (brd (R) 2 1 4)).wr Reg.TH_STAT 0)) with variant := .f }) [(Reg.SEC_SLOTST, Fld.SEC_SLOTST_prov, 3), (Reg.SEC_SLOTST, Fld.SEC_SLOTST_rev, 0), (Reg.PWR_STAT, ⟨14, 2⟩, 0)]
    let u : State := (q.atFirmware 0x8030 0 ct s)
    let b : Nat := ((q.atFirmware 0x8030 0 ct s).admitAt 15 (q.atFirmware 0x8030 0 ct s).dtb (lat * 400000 + 2400) s.dtb 3).1
    exact ⟨s, q, i, ct, lat, k, b, u, holds_of (fun (h : _ ∧ _ ∧ _ ∧ _ ∧ _ ∧ _ ∧ _ ∧ _ ∧ _ ∧ _) => ⟨inv_of h.1, served_pk h.2.1, rfl, h.2.2.1, h.2.2.2.1, h.2.2.2.2.1, h.2.2.2.2.2.1, h.2.2.2.2.2.2.1, h.2.2.2.2.2.2.2.1, h.2.2.2.2.2.2.2.2.1, admits_of h.2.2.2.2.2.2.2.2.2⟩) (by decide +kernel +revert)⟩
  · let R := quiet
    let q : Packet := pk 2 1 7 0xA010 true (Crypto.beBytes 4 (2 * 65536 + 3 * 2) ++ ([7, 1048575] : List Nat).flatMap (Crypto.beBytes 3))
    let i : Nat := 0
    let ct : Nat := 5000
    let lat : Nat := 0
    let v : Nat := 2 * 65536 + 3 * 2
    let ids : List Nat := ([7, 1048575] : List Nat)
    let s : State := { lateMs (untrip ((fwUp (brd (R) 2 1 4)).wr Reg.TH_STAT 0)) with variant := .f }
    let u : State := (q.atFirmware 0xA010 0 ct s)
    let b : Nat := ((q.atFirmware 0xA010 0 ct s).admitAt 15 (q.atFirmware 0xA010 0 ct s).dtb (lat * 400000 + 2400) s.dtb 2).1
    exact ⟨s, q, i, ct, lat, v, ids, b, u, holds_of (fun (h : _ ∧ _ ∧ _ ∧ _ ∧ _ ∧ _ ∧ _ ∧ _ ∧ _ ∧ _ ∧ _) => ⟨inv_of h.1, served_pk h.2.1, rfl, h.2.2.1, h.2.2.2.1, h.2.2.2.2.1, h.2.2.2.2.2.1, h.2.2.2.2.2.2.1, h.2.2.2.2.2.2.2.1, h.2.2.2.2.2.2.2.2.1, h.2.2.2.2.2.2.2.2.2.1, admits_of h.2.2.2.2.2.2.2.2.2.2⟩) (by decide +kernel +revert)⟩

theorem witness_FirmwareAnswers_a :
    (∃ (s : State) (q : Packet) (i : Nat) (ct : Nat) (sc : Nat) (u : State), s.Inv ∧ q.Served 0x6020 i ct s ∧ u = q.atFirmware 0x6020 i ct s ∧ q.n ≠ 0 ∧ 2 ≤ u.sessLevel q.n ∧ q.params = Crypto.beBytes 2 sc ∧ sc < 2 ^ 16 ∧ scopeValid sc = true) ∧
    (∃ (s : State) (q : Packet) (i : Nat) (ct : Nat) (a : Nat) (n : Nat) (l : List Byte) (u : State), s.Inv ∧ q.Served 0x7010 i ct s ∧ u = q.atFirmware 0x7010 i ct s ∧ q.n ≠ 0 ∧ 2 ≤ u.sessLevel q.n ∧ q.params = Crypto.beBytes 4 a ++ Crypto.beBytes 1 n ∧ a < 2 ^ 32 ∧ n ≤ u.resultRoom q.p q.n ∧ n < 256 ∧ u.domainOn 7 = true ∧ u.nvmBytes a n = some l) ∧
    (∃ (s : State) (q : Packet) (i : Nat) (ct : Nat) (nonce : List Byte) (k : Nat) (u : State), s.Inv ∧ q.Served 0x8020 i ct s ∧ u = q.atFirmware 0x8020 i ct s ∧ q.params = nonce ++ Crypto.beBytes 1 k ∧ nonce.length = 16 ∧ k < 256 ∧ k * (if s.replyXl q.p then 480 else 32) < 536 ∧ u.domainOn 7 = true) ∧
    (∃ (s : State) (q : Packet) (i : Nat) (ct : Nat) (a : Nat) (v : Word) (w : State) (u : State), s.Inv ∧ q.Served 0x9010 i ct s ∧ u = q.atFirmware 0x9010 i ct s ∧ q.n ≠ 0 ∧ 1 ≤ u.sessLevel q.n ∧ q.params = Crypto.beBytes 4 a ∧ a < 2 ^ 32 ∧ u.readClear a = some (v, w) ∧ (8 ≤ domainAt a ∨ u.domainOn (domainAt a) = true) ∧ q.seq < 0xFFFFFFFF ∧ a ≠ Reg.BRD_STAT ∧ (∀ k, a ≠ Reg.BRD_SEQ k) ∧ (∀ k j, a ≠ Reg.BRD_RSLT k j)) ∧
    (∃ (s : State) (q : Packet) (i : Nat) (ct : Nat) (m : Nat) (u : State), s.Inv ∧ q.Served 0x9020 i ct s ∧ u = q.atFirmware 0x9020 i ct s ∧ q.n ≠ 0 ∧ 2 ≤ u.sessLevel q.n ∧ q.params = Crypto.beBytes 2 m ∧ m < 2 ^ 16 ∧ q.seq < 0xFFFFFFFF) ∧
    (∃ (s : State) (q : Packet) (i : Nat) (ct : Nat) (off : Nat) (n : Nat) (u : State), s.Inv ∧ q.Served 0xA011 i ct s ∧ u = q.atFirmware 0xA011 i ct s ∧ q.n ≠ 0 ∧ 2 ≤ u.sessLevel q.n ∧ q.params = Crypto.beBytes 4 off ++ Crypto.beBytes 2 n ∧ off < 2 ^ 32 ∧ n ≤ u.resultRoom q.p q.n ∧ off + n ≤ u.ringSize) ∧
    (∃ (s : State) (q : Packet) (i : Nat) (ct : Nat), s.Inv ∧ q.Served 0x5010 i 0 s ∧ s.fwTmo < ct) := by
  refine ⟨?_, ?_, ?_, ?_, ?_, ?_, ?_⟩
  · let R := quiet
    let q : Packet := pk 2 1 7 0x6020 true (Crypto.beBytes 2 (scopeOf 4 5))
    let i : Nat := 0
    let ct : Nat := 5000
    let sc : Nat := (scopeOf 4 5)
    let s : State := { lateMs (untrip ((fwUp (brd (R) 2 1 4)).wr Reg.TH_STAT 0)) with variant := .f }
    let u : State := (q.atFirmware 0x6020 0 ct s)
    exact ⟨s, q, i, ct, sc, u, holds_of (fun (h : _ ∧ _ ∧ _ ∧ _ ∧ _ ∧ _ ∧ _) => ⟨inv_of h.1, served_pk h.2.1, rfl, h.2.2.1, h.2.2.2.1, h.2.2.2.2.1, h.2.2.2.2.2.1, h.2.2.2.2.2.2⟩) (by decide +kernel +revert)⟩
  · let R := quiet
    let q : Packet := pk 2 1 7 0x7010 true (Crypto.beBytes 4 0x483ffff0 ++ Crypto.beBytes 1 16)
    let i : Nat := 0
    let ct : Nat := 5000
    let a : Nat := 0x483ffff0
    let n : Nat := 16
    let l : List Byte := (List.replicate 16 0xFF : List Byte)
    let s : State := ({ lateMs (untrip ((fwUp (brd ({ R with nvm := [] }) 2 1 4)).wr Reg.TH_STAT 0)) with variant := .f }).setDomain 7 0
    let u : State := (q.atFirmware 0x7010 0 ct s)
    exact ⟨s, q, i, ct, a, n, l, u, holds_of (fun (h : _ ∧ _ ∧ _ ∧ _ ∧ _ ∧ _ ∧ _ ∧ _ ∧ _ ∧ _) => ⟨inv_of h.1, served_pk h.2.1, rfl, h.2.2.1, h.2.2.2.1, h.2.2.2.2.1, h.2.2.2.2.2.1, h.2.2.2.2.2.2.1, h.2.2.2.2.2.2.2.1, h.2.2.2.2.2.2.2.2.1, h.2.2.2.2.2.2.2.2.2⟩) (by decide +kernel +revert)⟩
  · let R := quiet
    let q : Packet := pk 2 1 7 0x8020 true (List.replicate 16 5 ++ Crypto.beBytes 1 1)
    let i : Nat := 0
    let ct : Nat := 5000
    let nonce : List Byte := (List.replicate 16 5 : List Byte)
    let k : Nat := 1
    let s : State := ({ lateMs (untrip ((fwUp (brd (R) 2 1 4)).wr Reg.TH_STAT 0)) with variant := .f }).setDomain 7 0
    let u : State := (q.atFirmware 0x8020 0 ct s)
    exact ⟨s, q, i, ct, nonce, k, u, holds_of (fun (h : _ ∧ _ ∧ _ ∧ _ ∧ _ ∧ _ ∧ _) => ⟨inv_of h.1, served_pk h.2.1, rfl, h.2.2.1, h.2.2.2.1, h.2.2.2.2.1, h.2.2.2.2.2.1, h.2.2.2.2.2.2⟩) (by decide +kernel +revert)⟩
  · let R := quiet
    let q : Packet := pk 2 1 7 0x9010 true (Crypto.beBytes 4 (Reg.BUS_CNT_RX 1))
    let i : Nat := 0
    let ct : Nat := 5000
    let a : Nat := (Reg.BUS_CNT_RX 1)
    let s : State := ({ lateMs (untrip ((fwUp (brd (R) 2 1 4)).wr Reg.TH_STAT 0)) with variant := .f })
    let u : State := (q.atFirmware 0x9010 0 ct s)
    let v : Word := ((u.readClear a).map (fun (x : Word × State) => x.1)).getD 0
    let w : State := ((u.readClear a).map (fun (x : Word × State) => x.2)).getD u
    exact ⟨s, q, i, ct, a, v, w, u, holds_of (fun (h : _ ∧ _ ∧ _ ∧ _ ∧ _ ∧ _ ∧ _ ∧ _ ∧ _ ∧ _) => ⟨inv_of h.1, served_pk h.2.1, rfl, h.2.2.1, h.2.2.2.1, h.2.2.2.2.1, h.2.2.2.2.2.1, h.2.2.2.2.2.2.1, h.2.2.2.2.2.2.2.1, h.2.2.2.2.2.2.2.2.1, h.2.2.2.2.2.2.2.2.2, fun k => show Reg.BUS_CNT_RX 1 ≠ Reg.BRD_SEQ k by simp only [Reg.BUS_CNT_RX, Reg.BRD_SEQ]; omega, fun k j => show Reg.BUS_CNT_RX 1 ≠ Reg.BRD_RSLT k j by simp only [Reg.BUS_CNT_RX, Reg.BRD_RSLT]; omega⟩) (by decide +kernel +revert)⟩
  · let R := quiet
    let q : Packet := pk 2 1 7 0x9020 true (Crypto.beBytes 2 65535)
    let i : Nat := 0
    let ct : Nat := 5000
    let m : Nat := 65535
    let s : State := { lateMs (untrip ((fwUp (brd (R) 2 1 4)).wr Reg.TH_STAT 0)) with variant := .f }
    let u : State := (q.atFirmware 0x9020 0 ct s)
    exact ⟨s, q, i, ct, m, u, holds_of (fun (h : _ ∧ _ ∧ _ ∧ _ ∧ _ ∧ _ ∧ _) => ⟨inv_of h.1, served_pk h.2.1, rfl, h.2.2.1, h.2.2.2.1, h.2.2.2.2.1, h.2.2.2.2.2.1, h.2.2.2.2.2.2⟩) (by decide +kernel +revert)⟩
  · let R := quiet
    let q : Packet := pk 2 1 7 0xA011 true (Crypto.beBytes 4 3 ++ Crypto.beBytes 2 5)
    let i : Nat := 0
    let ct : Nat := 5000
    let off : Nat := 3
    let n : Nat := 5
    let s : State := ({ lateMs (untrip ((fwUp (brd (R) 2 1 4)).wr Reg.TH_STAT 0)) with variant := .f })
    let u : State := (q.atFirmware 0xA011 0 ct s)
    exact ⟨s, q, i, ct, off, n, u, holds_of (fun (h : _ ∧ _ ∧ _ ∧ _ ∧ _ ∧ _ ∧ _ ∧ _) => ⟨inv_of h.1, served_pk h.2.1, rfl, h.2.2.1, h.2.2.2.1, h.2.2.2.2.1, h.2.2.2.2.2.1, h.2.2.2.2.2.2.1, h.2.2.2.2.2.2.2⟩) (by decide +kernel +revert)⟩
  · let R := quiet
    let q : Packet := pk 2 1 7 0x5010 false (Crypto.beBytes 2 7)
    let i : Nat := 0
    let ct : Nat := 40001
    let s : State := { lateMs (untrip ((fwUp (brd (R) 2 1 4)).wr Reg.TH_STAT 0)) with variant := .f }
    exact ⟨s, q, i, ct, holds_of (fun (h : _ ∧ _ ∧ _) => ⟨inv_of h.1, served_pk h.2.1, h.2.2⟩) (by decide +kernel +revert)⟩

theorem witness_FirmwareAnswers_b :
    (∃ (s : State) (core : Nat) (safety : Bool), s.Inv ∧ core < 6 ∧ s.cpuRatioOk = true ∧ s.domainOn 5 = true ∧ s.clocked 8 = true ∧ teamOf core = (if safety then 0 else 1) ∧ (if safety then s.bridle.fwqS else s.bridle.fwqA) = []) ∧
    (∃ (s : State) (core : Nat) (safety : Bool) (k : Nat) (r : List Nat) (x : Slot), s.Inv ∧ core < 6 ∧ s.cpuRatioOk = true ∧ s.domainOn 5 = true ∧ s.clocked 8 = true ∧ teamOf core = (if safety then 0 else 1) ∧ (if safety then s.bridle.fwqS else s.bridle.fwqA) = k :: r ∧ s.slot k = some x ∧ k < 32) ∧
    (∃ (s : State) (core : Nat) (x : Slot), s.Inv ∧ core < 6 ∧ s.cpuRatioOk = true ∧ s.domainOn 5 = true ∧ s.clocked 8 = true ∧ s.fwSlot core (Word.get s.bridle.pwId Fld.BRD_FWPW_ID_slot) (fun x => x.stage = .taken) = some x ∧ x.writes.length < 32 ∧ dDefined (s.desc (Word.get s.bridle.pwId Fld.BRD_FWPW_ID_sig)) = true ∧ dOclass (s.desc (Word.get s.bridle.pwId Fld.BRD_FWPW_ID_sig)) = 5) ∧
    (∃ (s : State) (core : Nat) (v : Word) (x : Slot), s.Inv ∧ core < 6 ∧ s.cpuRatioOk = true ∧ s.domainOn 5 = true ∧ s.clocked 8 = true ∧ s.fwSlot core (Word.get v Fld.BRD_FWRES_slot) (fun x => x.stage = .taken) = some x ∧ Word.get v Fld.BRD_FWRES_status = stDone ∧ x.port < 4 ∧ (s.busAt x.port).replies.length < 32) ∧
    (∃ (s : State) (core : Nat) (v : Word), s.Inv ∧ core < 6 ∧ s.cpuRatioOk = true ∧ s.domainOn 5 = true ∧ s.clocked 8 = true ∧ s.fwSlot core (Word.get v Fld.BRD_FWRES_slot) (fun x => x.stage = .taken) = none) ∧
    (∃ (s : State) (k : Nat) (x : Slot), s.Inv ∧ k < 32 ∧ s.slot k = some x ∧ x.stage ≠ .waiting) ∧
    (∃ (s : State) (core : Nat) (v : Word) (x : Slot), s.Inv ∧ core < 6 ∧ s.cpuRatioOk = true ∧ s.domainOn 5 = true ∧ s.clocked 8 = true ∧ s.fwSlot core (Word.get v Fld.BRD_FWCMT_slot) (fun x => x.stage = .waiting && x.outside) = some x) := by
  refine ⟨?_, ?_, ?_, ?_, ?_, ?_, ?_⟩
  · let R := quiet
    let core : Nat := 4
    let safety : Bool := false
    let s : State := { sets R [(Reg.PWR_STAT, ⟨10, 2⟩, 0)] with bridle := { R.bridle with fwqA := [] } }
    exact ⟨s, core, safety, holds_of (fun (h : _ ∧ _ ∧ _ ∧ _ ∧ _ ∧ _ ∧ _) => ⟨inv_of h.1, h.2.1, h.2.2.1, h.2.2.2.1, h.2.2.2.2.1, h.2.2.2.2.2.1, h.2.2.2.2.2.2⟩) (by decide +kernel +revert)⟩
  · let R := quiet
    let core : Nat := 4
    let safety : Bool := false
    let k : Nat := 31
    let r : List Nat := [4]
    let x : Slot := ({ port := 2, xl := true, session := 3, seq := 9, opcode := 0x5010, conf := true, params := [], tEnd := 0, stage := .queued, outside := false, rlen := 20 } : Slot)
    let s : State := { sets R [(Reg.PWR_STAT, ⟨10, 2⟩, 0)] with bridle := { R.bridle with fwqA := [31, 4], fwqS := [2], slots := List.replicate 31 none ++ [some x] } }
    exact ⟨s, core, safety, k, r, x, holds_of (fun (h : _ ∧ _ ∧ _ ∧ _ ∧ _ ∧ _ ∧ _ ∧ _ ∧ _) => ⟨inv_of h.1, h.2.1, h.2.2.1, h.2.2.2.1, h.2.2.2.2.1, h.2.2.2.2.2.1, h.2.2.2.2.2.2.1, h.2.2.2.2.2.2.2.1, h.2.2.2.2.2.2.2.2⟩) (by decide +kernel +revert)⟩
  · let R := quiet
    let core : Nat := 4
    let x : Slot := ({ port := 2, xl := true, session := 3, seq := 9, opcode := 0x5010, conf := true, params := [], tEnd := 0, stage := .taken, outside := false, rlen := 20 } : Slot)
    let s : State := (({ sets R [(Reg.PWR_STAT, ⟨10, 2⟩, 0)] with bridle := { R.bridle with pwId := (W (31 * 2 ^ 24 + 7)), slots := List.replicate 31 none ++ [some x] } }).setDesc 7 (BitVec.ofNat 64 (1 + 5 * 2 ^ 16)))
    exact ⟨s, core, x, holds_of (fun (h : _ ∧ _ ∧ _ ∧ _ ∧ _ ∧ _ ∧ _ ∧ _ ∧ _) => ⟨inv_of h.1, h.2.1, h.2.2.1, h.2.2.2.1, h.2.2.2.2.1, h.2.2.2.2.2.1, h.2.2.2.2.2.2.1, h.2.2.2.2.2.2.2.1, h.2.2.2.2.2.2.2.2⟩) (by decide +kernel +revert)⟩
  · let R := quiet
    let core : Nat := 4
    let v : Word := 31
    let x : Slot := ({ port := 2, xl := true, session := 3, seq := 9, opcode := 0x5010, conf := true, params := [], tEnd := 0, stage := .taken, outside := false, rlen := 20 } : Slot)
    let s : State := { sets R [(Reg.PWR_STAT, ⟨10, 2⟩, 0)] with bridle := { R.bridle with slots := List.replicate 31 none ++ [some x] }, bus := R.bus.modify 2 (fun b => { b with replies := [] }) }
    exact ⟨s, core, v, x, holds_of (fun (h : _ ∧ _ ∧ _ ∧ _ ∧ _ ∧ _ ∧ _ ∧ _ ∧ _) => ⟨inv_of h.1, h.2.1, h.2.2.1, h.2.2.2.1, h.2.2.2.2.1, h.2.2.2.2.2.1, h.2.2.2.2.2.2.1, h.2.2.2.2.2.2.2.1, h.2.2.2.2.2.2.2.2⟩) (by decide +kernel +revert)⟩
  · let R := quiet
    let core : Nat := 1
    let v : Word := 31
    let s : State := { sets R [(Reg.PWR_STAT, ⟨10, 2⟩, 0)] with bridle := { R.bridle with slots := List.replicate 31 none ++ [some { port := 2, xl := true, session := 3, seq := 9, opcode := 0x5010, conf := true, params := [], tEnd := 0, stage := .taken, outside := false, rlen := 20 }] } }
    exact ⟨s, core, v, holds_of (fun (h : _ ∧ _ ∧ _ ∧ _ ∧ _ ∧ _) => ⟨inv_of h.1, h.2.1, h.2.2.1, h.2.2.2.1, h.2.2.2.2.1, h.2.2.2.2.2⟩) (by decide +kernel +revert)⟩
  · let R := quiet
    let k : Nat := 31
    let x : Slot := ({ port := 2, xl := true, session := 3, seq := 9, opcode := 0x5010, conf := true, params := [], tEnd := 0, stage := .taken, outside := false, rlen := 20 } : Slot)
    let s : State := { R with bridle := { R.bridle with slots := List.replicate 31 none ++ [some x] } }
    exact ⟨s, k, x, holds_of (fun (h : _ ∧ _ ∧ _ ∧ _) => ⟨inv_of h.1, h.2.1, h.2.2.1, h.2.2.2⟩) (by decide +kernel +revert)⟩
  · let R := quiet
    let core : Nat := 4
    let v : Word := 31
    let x : Slot := ({ port := 2, xl := true, session := 3, seq := 9, opcode := 0x5010, conf := true, params := [], tEnd := 0, stage := .waiting, outside := true, rlen := 20 } : Slot)
    let s : State := { sets R [(Reg.PWR_STAT, ⟨10, 2⟩, 0)] with bridle := { R.bridle with slots := List.replicate 31 none ++ [some x] } }
    exact ⟨s, core, v, x, holds_of (fun (h : _ ∧ _ ∧ _ ∧ _ ∧ _ ∧ _) => ⟨inv_of h.1, h.2.1, h.2.2.1, h.2.2.2.1, h.2.2.2.2.1, h.2.2.2.2.2⟩) (by decide +kernel +revert)⟩

theorem witness_SecurityCommands :
    (∃ (s : State) (core : Nat), s.Inv ∧ s.domainOn 7 = true ∧ core < 3 ∧ s.clocked 10 = true ∧ s.cpuRatioOk = true ∧ s.boot.pwfAt = none) ∧
    (∃ (s : State) (core : Nat) (v : Word), s.Inv ∧ s.domainOn 7 = true ∧ core < 3 ∧ s.clocked 10 = true ∧ s.cpuRatioOk = true ∧ s.on Reg.SEC_VST Fld.SEC_VST_busy = false ∧ Word.get v Fld.SEC_VCMD_go = 1) ∧
    (∃ (s : State) (core : Nat) (n : Nat), s.Inv ∧ s.domainOn 7 = true ∧ core < 3 ∧ s.clocked 10 = true ∧ s.cpuRatioOk = true ∧ 1 ≤ n ∧ n < 8) ∧
    (∃ (s : State) (core : Nat), s.Inv ∧ s.domainOn 7 = true ∧ core < 3 ∧ s.clocked 10 = true ∧ s.cpuRatioOk = true) ∧
    (∃ (s : State) (off : Nat), s.Inv ∧ s.domainOn 7 = true ∧ s.sec.verify = some off ∧ s.clocked 10 = true) ∧
    (∃ (s : State), s.Inv ∧ s.domainOn 7 = true) ∧
    (∃ (s : State), s.Inv ∧ s.domainOn 7 = true ∧ s.on Reg.SEC_DBGST Fld.SEC_DBGST_busy = false ∧ s.on Reg.SEC_DBGST Fld.SEC_DBGST_locked = false) ∧
    (∃ (s : State), s.Inv ∧ s.domainOn 7 = true ∧ s.on Reg.SEC_DBGST Fld.SEC_DBGST_busy = true ∧ s.sec.attempt = none ∧ s.clocked 10 = true) ∧
    (∃ (s : State) (ch : List Byte) (at_ : Nat), s.Inv ∧ s.domainOn 7 = true ∧ s.sec.challenge = some (ch, at_)) ∧
    (∃ (s : State), s.Inv ∧ s.domainOn 7 = true ∧ s.sec.debugLevel = 2) := by
  refine ⟨?_, ?_, ?_, ?_, ?_, ?_, ?_, ?_, ?_, ?_⟩
  · let R := quiet
    let core : Nat := 2
    let s : State := (let z := (sets (calm R [7]) [(Reg.CLK_GATE 10, Fld.CLK_GATE_run, 1), (Reg.CLK_GATE 10, Fld.CLK_GATE_sleep, 1)]); { z with boot := { z.boot with pwfAt := none } })
    exact ⟨s, core, holds_of (fun (h : _ ∧ _ ∧ _ ∧ _ ∧ _ ∧ _) => ⟨inv_of h.1, h.2.1, h.2.2.1, h.2.2.2.1, h.2.2.2.2.1, h.2.2.2.2.2⟩) (by decide +kernel +revert)⟩
  · let R := quiet
    let core : Nat := 2
    let v : Word := 0xFFFFFFFF
    let s : State := (sets (sets (calm R [7]) [(Reg.CLK_GATE 10, Fld.CLK_GATE_run, 1), (Reg.CLK_GATE 10, Fld.CLK_GATE_sleep, 1)]) [(Reg.SEC_VST, Fld.SEC_VST_busy, 0)])
    exact ⟨s, core, v, holds_of (fun (h : _ ∧ _ ∧ _ ∧ _ ∧ _ ∧ _ ∧ _) => ⟨inv_of h.1, h.2.1, h.2.2.1, h.2.2.2.1, h.2.2.2.2.1, h.2.2.2.2.2.1, h.2.2.2.2.2.2⟩) (by decide +kernel +revert)⟩
  · let R := quiet
    let core : Nat := 2
    let n : Nat := 1
    let s : State := (sets (calm R [7]) [(Reg.CLK_GATE 10, Fld.CLK_GATE_run, 1), (Reg.CLK_GATE 10, Fld.CLK_GATE_sleep, 1)])
    exact ⟨s, core, n, holds_of (fun (h : _ ∧ _ ∧ _ ∧ _ ∧ _ ∧ _ ∧ _) => ⟨inv_of h.1, h.2.1, h.2.2.1, h.2.2.2.1, h.2.2.2.2.1, h.2.2.2.2.2.1, h.2.2.2.2.2.2⟩) (by decide +kernel +revert)⟩
  · let R := quiet
    let core : Nat := 0
    let s : State := (sets (calm R [7]) [(Reg.CLK_GATE 10, Fld.CLK_GATE_run, 1), (Reg.CLK_GATE 10, Fld.CLK_GATE_sleep, 1)])
    exact ⟨s, core, holds_of (fun (h : _ ∧ _ ∧ _ ∧ _ ∧ _) => ⟨inv_of h.1, h.2.1, h.2.2.1, h.2.2.2.1, h.2.2.2.2⟩) (by decide +kernel +revert)⟩
  · let R := quiet
    let off : Nat := 0x1000040
    let s : State := (let z := (sets (calm R [7]) [(Reg.CLK_GATE 10, Fld.CLK_GATE_run, 1), (Reg.CLK_GATE 10, Fld.CLK_GATE_sleep, 1)]); { z with sec := { z.sec with verify := some 0x1000040 } })
    exact ⟨s, off, holds_of (fun (h : _ ∧ _ ∧ _ ∧ _) => ⟨inv_of h.1, h.2.1, h.2.2.1, h.2.2.2⟩) (by decide +kernel +revert)⟩
  · let R := quiet
    let s : State := (sets (calm R [7]) [(Reg.CLK_GATE 10, Fld.CLK_GATE_run, 1), (Reg.CLK_GATE 10, Fld.CLK_GATE_sleep, 1)])
    exact ⟨s, holds_of (fun (h : _ ∧ _) => ⟨inv_of h.1, h.2⟩) (by decide +kernel +revert)⟩
  · let R := quiet
    let s : State := (let z := (sets (sets (calm R [7]) [(Reg.CLK_GATE 10, Fld.CLK_GATE_run, 1), (Reg.CLK_GATE 10, Fld.CLK_GATE_sleep, 1)]) [(Reg.SEC_DBGST, Fld.SEC_DBGST_busy, 0), (Reg.SEC_DBGST, Fld.SEC_DBGST_locked, 0)]); { z with sec := { z.sec with challenge := some ([1, 2], z.dtb) } })
    exact ⟨s, holds_of (fun (h : _ ∧ _ ∧ _ ∧ _) => ⟨inv_of h.1, h.2.1, h.2.2.1, h.2.2.2⟩) (by decide +kernel +revert)⟩
  · let R := quiet
    let s : State := (let z := ((sets (sets (calm R [7]) [(Reg.CLK_GATE 10, Fld.CLK_GATE_run, 1), (Reg.CLK_GATE 10, Fld.CLK_GATE_sleep, 1)]) [(Reg.SEC_DBGST, Fld.SEC_DBGST_busy, 1), (Reg.SEC_DBGST, Fld.SEC_DBGST_locked, 0)])).setf Reg.SEC_DBGST Fld.SEC_DBGST_fails 0; { z with sec := { z.sec with attempt := none } })
    exact ⟨s, holds_of (fun (h : _ ∧ _ ∧ _ ∧ _ ∧ _) => ⟨inv_of h.1, h.2.1, h.2.2.1, h.2.2.2.1, h.2.2.2.2⟩) (by decide +kernel +revert)⟩
  · let R := quiet
    let ch : List Byte := [1, 2]
    let at_ : Nat := 9
    let s : State := (let z := (sets (calm R [7]) [(Reg.CLK_GATE 10, Fld.CLK_GATE_run, 1), (Reg.CLK_GATE 10, Fld.CLK_GATE_sleep, 1)]); { z with sec := { z.sec with challenge := some ([1, 2], 9) } })
    exact ⟨s, ch, at_, holds_of (fun (h : _ ∧ _ ∧ _) => ⟨inv_of h.1, h.2.1, h.2.2⟩) (by decide +kernel +revert)⟩
  · let R := quiet
    let s : State := (let z := (sets (calm R [7]) [(Reg.CLK_GATE 10, Fld.CLK_GATE_run, 1), (Reg.CLK_GATE 10, Fld.CLK_GATE_sleep, 1)]); { z with sec := { z.sec with debugLevel := 2 } })
    exact ⟨s, holds_of (fun (h : _ ∧ _ ∧ _) => ⟨inv_of h.1, h.2.1, h.2.2⟩) (by decide +kernel +revert)⟩

theorem witness_ClockCommands :
    (∃ (s : State), s.Inv ∧ s.domainOn 0 = true) ∧
    (∃ (s : State), s.Inv ∧ s.domainOn 0 = true ∧ s.on Reg.CLK_STAT Fld.CLK_STAT_src = false ∧ s.clkSeq = sqIdle) ∧
    (∃ (s : State) (due : Nat), s.Inv ∧ s.domainOn 0 = true ∧ s.clk.due = some due ∧ s.clkSeq = sqDown ∧ s.clkScale = 1) ∧
    (∃ (s : State), s.Inv ∧ s.domainOn 0 = true ∧ s.clkSeq = sqRelock) ∧
    (∃ (s : State) (due : Nat), s.Inv ∧ s.domainOn 0 = true ∧ s.clk.due = some due ∧ s.clkSeq = sqRelock) ∧
    (∃ (s : State), s.Inv ∧ s.domainOn 0 = true) ∧
    (∃ (s : State) (core : Nat), s.Inv ∧ s.domainOn 0 = true ∧ core < 6 ∧ s.cpuRatioOk = true ∧ s.on Reg.CLK_STAT Fld.CLK_STAT_src = true ∧ s.clkSeq = sqIdle ∧ s.on Reg.CLK_STAT Fld.CLK_STAT_refok = true) ∧
    (∃ (s : State) (core : Nat), s.Inv ∧ s.domainOn 0 = true ∧ core < 6 ∧ s.cpuRatioOk = true) ∧
    (∃ (s : State) (i : Nat) (due : Nat), s.Inv ∧ s.domainOn 0 = true ∧ i < 6 ∧ i < s.clk.div.length ∧ s.clk.ramp.getD i none = some due) ∧
    (∃ (s : State) (core : Nat) (k : Nat), s.Inv ∧ s.domainOn 0 = true ∧ core < 6 ∧ k < 12 ∧ s.cpuRatioOk = true ∧ s.gateHeld k = false) := by
  refine ⟨?_, ?_, ?_, ?_, ?_, ?_, ?_, ?_, ?_, ?_⟩
  · let R := quiet
    let s : State := R
    exact ⟨s, holds_of (fun (h : _ ∧ _) => ⟨inv_of h.1, h.2⟩) (by decide +kernel +revert)⟩
  · let R := quiet
    let s : State := sets R [(Reg.CLK_STAT, Fld.CLK_STAT_src, 0), (Reg.CLK_STAT, Fld.CLK_STAT_seq, sqIdle)]
    exact ⟨s, holds_of (fun (h : _ ∧ _ ∧ _ ∧ _) => ⟨inv_of h.1, h.2.1, h.2.2.1, h.2.2.2⟩) (by decide +kernel +revert)⟩
  · let R := quiet
    let due : Nat := 9
    let s : State := { sets R [(Reg.CLK_STAT, Fld.CLK_STAT_scale, 1), (Reg.CLK_STAT, Fld.CLK_STAT_seq, sqDown)] with clk := { R.clk with due := some 9 } }
    exact ⟨s, due, holds_of (fun (h : _ ∧ _ ∧ _ ∧ _ ∧ _) => ⟨inv_of h.1, h.2.1, h.2.2.1, h.2.2.2.1, h.2.2.2.2⟩) (by decide +kernel +revert)⟩
  · let R := quiet
    let s : State := sets R [(Reg.CLK_STAT, Fld.CLK_STAT_seq, sqRelock)]
    exact ⟨s, holds_of (fun (h : _ ∧ _ ∧ _) => ⟨inv_of h.1, h.2.1, h.2.2⟩) (by decide +kernel +revert)⟩
  · let R := quiet
    let due : Nat := 9
    let s : State := { sets R [(Reg.CLK_STAT, Fld.CLK_STAT_scale, 1), (Reg.CLK_STAT, Fld.CLK_STAT_seq, sqRelock)] with clk := { R.clk with due := some 9 } }
    exact ⟨s, due, holds_of (fun (h : _ ∧ _ ∧ _ ∧ _) => ⟨inv_of h.1, h.2.1, h.2.2.1, h.2.2.2⟩) (by decide +kernel +revert)⟩
  · let R := quiet
    let s : State := R
    exact ⟨s, holds_of (fun (h : _ ∧ _) => ⟨inv_of h.1, h.2⟩) (by decide +kernel +revert)⟩
  · let R := quiet
    let core : Nat := 5
    let s : State := sets R [(Reg.CLK_STAT, Fld.CLK_STAT_src, 1), (Reg.CLK_STAT, Fld.CLK_STAT_seq, sqIdle), (Reg.CLK_STAT, Fld.CLK_STAT_refok, 1)]
    exact ⟨s, core, holds_of (fun (h : _ ∧ _ ∧ _ ∧ _ ∧ _ ∧ _ ∧ _) => ⟨inv_of h.1, h.2.1, h.2.2.1, h.2.2.2.1, h.2.2.2.2.1, h.2.2.2.2.2.1, h.2.2.2.2.2.2⟩) (by decide +kernel +revert)⟩
  · let R := quiet
    let core : Nat := 5
    let s : State := R
    exact ⟨s, core, holds_of (fun (h : _ ∧ _ ∧ _ ∧ _) => ⟨inv_of h.1, h.2.1, h.2.2.1, h.2.2.2⟩) (by decide +kernel +revert)⟩
  · let R := quiet
    let i : Nat := 5
    let due : Nat := 88
    let s : State := { R with clk := { R.clk with ramp := [none, none, none, none, none, some 88], div := [2, 4, 4, 8, 10, 30] } }
    exact ⟨s, i, due, holds_of (fun (h : _ ∧ _ ∧ _ ∧ _ ∧ _) => ⟨inv_of h.1, h.2.1, h.2.2.1, h.2.2.2.1, h.2.2.2.2⟩) (by decide +kernel +revert)⟩
  · let R := quiet
    let core : Nat := 0
    let k : Nat := 11
    let s : State := sets R []
    exact ⟨s, core, k, holds_of (fun (h : _ ∧ _ ∧ _ ∧ _ ∧ _ ∧ _) => ⟨inv_of h.1, h.2.1, h.2.2.1, h.2.2.2.1, h.2.2.2.2.1, h.2.2.2.2.2⟩) (by decide +kernel +revert)⟩

theorem witness_PowerCommands :
    (∃ (s : State) (core : Nat) (v : Word) (d : Nat), s.Inv ∧ core < 3 ∧ s.domainOn 0 = true ∧ s.cpuRatioOk = true ∧ 2 ≤ d ∧ d < 6 ∧ s.power.want.length = 2 ∧ (∀ k, k < 8 → Word.get v ⟨2 * k, 2⟩ = if k = d then 1 else 3) ∧ s.fld Reg.PWR_REQ ⟨2 * d, 2⟩ ≠ 1 ∧ s.fld Reg.PWR_REQ ⟨0, 2⟩ = 0 ∧ s.fld Reg.PWR_REQ ⟨12, 2⟩ ≠ 2 ∧ s.fld Reg.PWR_REQ ⟨14, 2⟩ ≠ 2 ∧ s.domainNow d = 0) ∧
    (∃ (s : State) (core : Nat) (v : Word), s.Inv ∧ core < 3 ∧ s.domainOn 0 = true ∧ s.cpuRatioOk = true ∧ (∀ k, k < 8 → Word.get v ⟨2 * k, 2⟩ = if k = 0 then 1 else 3) ∧ s.fld Reg.PWR_REQ ⟨0, 2⟩ = 0 ∧ s.fld Reg.PWR_REQ ⟨4, 2⟩ = 0) ∧
    (∃ (s : State) (d : Nat) (x : Trans), s.Inv ∧ d < 8 ∧ s.power.trans.find? (fun y => y.dom = d) = some x) ∧
    (∃ (s : State) (d : Nat) (r : Nat × Nat), s.Inv ∧ 0 < d ∧ d < 8 ∧ s.power.reinit.find? (fun x => x.1 = d) = some r ∧ (∀ x ∈ s.power.trans, x.dom < 8 ∧ x.dom ≠ d)) ∧
    (∃ (s : State), s.Inv ∧ s.power.entry = none ∧ s.boot.stage ≠ 0 ∧ s.domainNow 0 ≠ 0 ∧ s.on Reg.KPR_WOUT Fld.KPR_WOUT_drive = false) ∧
    (∃ (s : State), s.Inv ∧ s.power.entry = none ∧ s.boot.stage ≠ 0 ∧ s.domainNow 0 ≠ 0 ∧ s.variant = .f ∧ s.domainOn 3 = false) ∧
    (∃ (s : State), s.Inv ∧ s.power.entry = none ∧ s.boot.stage ≠ 0 ∧ s.domainNow 0 ≠ 0 ∧ s.on Reg.KPR_BSTAT Fld.KPR_BSTAT_ship = false) ∧
    (∃ (s : State) (e : Nat × List (Nat × Nat × Nat)), s.Inv ∧ s.power.entry = some e ∧ s.on Reg.KPR_WOUT Fld.KPR_WOUT_drive = false) := by
  refine ⟨?_, ?_, ?_, ?_, ?_, ?_, ?_, ?_⟩
  · let R := quiet
    let core : Nat := 2
    let d : Nat := 2
    let v : Word := ((List.range 8).foldl (fun w k => Word.put w ⟨2 * k, 2⟩ (if k = 2 then 1 else 3)) (0 : Word))
    let s : State := (let z := (sets (calm R (List.range 8)) [(Reg.PWR_REQ, ⟨0, 2⟩, 0), (Reg.PWR_REQ, ⟨4, 2⟩, 0), (Reg.PWR_REQ, ⟨4, 2⟩, 0), (Reg.PWR_REQ, ⟨12, 2⟩, 0), (Reg.PWR_REQ, ⟨14, 2⟩, 0)]); { z with power := { z.power with want := [[], []], trans := [] } })
    exact ⟨s, core, v, d, holds_of (fun (h : _ ∧ _ ∧ _ ∧ _ ∧ _ ∧ _ ∧ _ ∧ _ ∧ _ ∧ _ ∧ _ ∧ _ ∧ _) => ⟨inv_of h.1, h.2.1, h.2.2.1, h.2.2.2.1, h.2.2.2.2.1, h.2.2.2.2.2.1, h.2.2.2.2.2.2.1, h.2.2.2.2.2.2.2.1, h.2.2.2.2.2.2.2.2.1, h.2.2.2.2.2.2.2.2.2.1, h.2.2.2.2.2.2.2.2.2.2.1, h.2.2.2.2.2.2.2.2.2.2.2.1, h.2.2.2.2.2.2.2.2.2.2.2.2⟩) (by decide +kernel +revert)⟩
  · let R := quiet
    let core : Nat := 2
    let v : Word := ((List.range 8).foldl (fun w k => Word.put w ⟨2 * k, 2⟩ (if k = 0 then 1 else 3)) (0 : Word))
    let s : State := (sets (calm R (List.range 8)) [(Reg.PWR_REQ, ⟨0, 2⟩, 0), (Reg.PWR_REQ, ⟨4, 2⟩, 0), (Reg.PWR_REQ, ⟨2, 2⟩, 0), (Reg.PWR_REQ, ⟨12, 2⟩, 0), (Reg.PWR_REQ, ⟨14, 2⟩, 0)])
    exact ⟨s, core, v, holds_of (fun (h : _ ∧ _ ∧ _ ∧ _ ∧ _ ∧ _ ∧ _) => ⟨inv_of h.1, h.2.1, h.2.2.1, h.2.2.2.1, h.2.2.2.2.1, h.2.2.2.2.2.1, h.2.2.2.2.2.2⟩) (by decide +kernel +revert)⟩
  · let R := quiet
    let d : Nat := 0
    let x : Trans := { dom := 0, to_ := 1, due := 9, off := false }
    let s : State := (let z := R; { z with power := { z.power with trans := [{ dom := 0, to_ := 1, due := 9, off := false }], entry := none } })
    exact ⟨s, d, x, holds_of (fun (h : _ ∧ _ ∧ _) => ⟨inv_of h.1, h.2.1, h.2.2⟩) (by decide +kernel +revert)⟩
  · let R := quiet
    let d : Nat := 1
    let r : Nat × Nat := (1, 9)
    let s : State := (let z := R; { z with power := { z.power with trans := [], reinit := [(1, 9)] } })
    exact ⟨s, d, r, holds_of (fun (h : _ ∧ _ ∧ _ ∧ _ ∧ _) => ⟨inv_of h.1, h.2.1, h.2.2.1, h.2.2.2.1, h.2.2.2.2⟩) (by decide +kernel +revert)⟩
  · let R := quiet
    let s : State := (let z := (sets (({ R with boot := { R.boot with stage := 5 }, variant := .f }).setDomain 0 1) [(Reg.KPR_WOUT, Fld.KPR_WOUT_drive, 0), (Reg.PWR_STAT, ⟨6, 2⟩, 1), (Reg.KPR_BSTAT, Fld.KPR_BSTAT_ship, 0)]); { z with power := { z.power with entry := none, trans := [] } })
    exact ⟨s, holds_of (fun (h : _ ∧ _ ∧ _ ∧ _ ∧ _) => ⟨inv_of h.1, h.2.1, h.2.2.1, h.2.2.2.1, h.2.2.2.2⟩) (by decide +kernel +revert)⟩
  · let R := quiet
    let s : State := (let z := (sets (({ R with boot := { R.boot with stage := 5 }, variant := .f }).setDomain 0 1) [(Reg.KPR_WOUT, Fld.KPR_WOUT_drive, 0), (Reg.PWR_STAT, ⟨6, 2⟩, 1), (Reg.KPR_BSTAT, Fld.KPR_BSTAT_ship, 0)]); { z with power := { z.power with entry := none, trans := [] } })
    exact ⟨s, holds_of (fun (h : _ ∧ _ ∧ _ ∧ _ ∧ _ ∧ _) => ⟨inv_of h.1, h.2.1, h.2.2.1, h.2.2.2.1, h.2.2.2.2.1, h.2.2.2.2.2⟩) (by decide +kernel +revert)⟩
  · let R := quiet
    let s : State := (let z := (sets (({ R with boot := { R.boot with stage := 5 }, variant := .f }).setDomain 0 1) [(Reg.KPR_WOUT, Fld.KPR_WOUT_drive, 0), (Reg.PWR_STAT, ⟨6, 2⟩, 1), (Reg.KPR_BSTAT, Fld.KPR_BSTAT_ship, 0)]); { z with power := { z.power with entry := none, trans := [] } })
    exact ⟨s, holds_of (fun (h : _ ∧ _ ∧ _ ∧ _ ∧ _) => ⟨inv_of h.1, h.2.1, h.2.2.1, h.2.2.2.1, h.2.2.2.2⟩) (by decide +kernel +revert)⟩
  · let R := quiet
    let e : Nat × List (Nat × Nat × Nat) := (0, [(3, 1, 0), (5, 2, 0)])
    let s : State := (let z := (sets R [(Reg.KPR_WOUT, Fld.KPR_WOUT_drive, 0)]); { z with power := { z.power with entry := some (0, [(3, 1, 0), (5, 2, 0)]), later := [[(1, 1)]] } })
    exact ⟨s, e, holds_of (fun (h : _ ∧ _ ∧ _) => ⟨inv_of h.1, h.2.1, h.2.2⟩) (by decide +kernel +revert)⟩

theorem witness_StartupCommands :
    (∃ (s : State), s.Inv ∧ s.boot.stage = 0 ∧ s.on Reg.KPR_BSTAT Fld.KPR_BSTAT_closed = true) ∧
    (∃ (s : State), s.Inv ∧ s.boot.stage = 1) ∧
    (∃ (s : State), s.Inv ∧ s.boot.stage = 2 ∧ s.boot.warm = false) ∧
    (∃ (s : State), s.Inv ∧ s.boot.stage = 3) ∧
    (∃ (s : State) (kind : Nat), s.Inv ∧ kind ∈ [2, 3, 4, 7] ∧ s.boot.stage = 4 ∧ s.bootRecord.2.1 ≠ 1) ∧
    (∃ (s : State) (core : Nat) (v : Word), s.Inv ∧ core < 6 ∧ s.domainOn 0 = true ∧ s.cpuRatioOk = true ∧ Word.get v Fld.RST_SWR_key = 0xC3A5 ∧ teamOf core = 0 ∧ s.modeNow ≤ 1 ∧ s.nvmBusy = false) ∧
    (∃ (s : State) (core : Nat) (v : Word), s.Inv ∧ core < 6 ∧ s.domainOn 0 = true ∧ s.cpuRatioOk = true ∧ (Word.get v Fld.RST_SWR_key ≠ 0xC3A5 ∨ teamOf core ≠ 0 ∨ 1 < s.modeNow)) ∧
    (∃ (s : State), s.Inv ∧ s.boot.warm = true) ∧
    (∃ (s : State) (j : NvmJob) (js : List NvmJob), s.Inv ∧ s.boot.nvmJobs = j :: js ∧ j.record = false ∧ j.code = false ∧ (s.boot.swWait = false ∨ js ≠ []) ∧ s.domainOn 7 = true ∧ s.clocked 10 = true) ∧
    (∃ (s : State), s.Inv ∧ s.boot.stage ≠ 0 ∧ s.boot.pwfAt = none) ∧
    (∃ (s : State) (w : Nat), s.Inv ∧ s.boot.pwfAt = some w) := by
  refine ⟨?_, ?_, ?_, ?_, ?_, ?_, ?_, ?_, ?_, ?_, ?_⟩
  · let R := quiet
    let s : State := (let z := (R.setf Reg.KPR_BSTAT Fld.KPR_BSTAT_closed 1); { z with boot := { z.boot with stage := 0 } })
    exact ⟨s, holds_of (fun (h : _ ∧ _ ∧ _) => ⟨inv_of h.1, h.2.1, h.2.2⟩) (by decide +kernel +revert)⟩
  · let R := quiet
    let s : State := (let z := R; { z with boot := { z.boot with stage := 1, wakeNext := false } })
    exact ⟨s, holds_of (fun (h : _ ∧ _) => ⟨inv_of h.1, h.2⟩) (by decide +kernel +revert)⟩
  · let R := quiet
    let s : State := (let z := R; { z with boot := { z.boot with stage := 2, warm := false, wakeNext := false } })
    exact ⟨s, holds_of (fun (h : _ ∧ _ ∧ _) => ⟨inv_of h.1, h.2.1, h.2.2⟩) (by decide +kernel +revert)⟩
  · let R := quiet
    let s : State := (let z := R; { z with boot := { z.boot with stage := 3 } })
    exact ⟨s, holds_of (fun (h : _ ∧ _) => ⟨inv_of h.1, h.2⟩) (by decide +kernel +revert)⟩
  · let R := quiet
    let kind : Nat := 2
    let s : State := (let z := ({ R with nvm := [] }); { z with boot := { z.boot with stage := 4 } })
    exact ⟨s, kind, holds_of (fun (h : _ ∧ _ ∧ _ ∧ _) => ⟨inv_of h.1, h.2.1, h.2.2.1, h.2.2.2⟩) (by decide +kernel +revert)⟩
  · let R := quiet
    let core : Nat := 2
    let v : Word := Word.put 0 Fld.RST_SWR_key 0xC3A5
    let s : State := (let z := sv (calm R [0]) sigMode 1; { z with boot := { z.boot with nvmJobs := [] } })
    exact ⟨s, core, v, holds_of (fun (h : _ ∧ _ ∧ _ ∧ _ ∧ _ ∧ _ ∧ _ ∧ _) => ⟨inv_of h.1, h.2.1, h.2.2.1, h.2.2.2.1, h.2.2.2.2.1, h.2.2.2.2.2.1, h.2.2.2.2.2.2.1, h.2.2.2.2.2.2.2⟩) (by decide +kernel +revert)⟩
  · let R := quiet
    let core : Nat := 2
    let v : Word := Word.put 0 Fld.RST_SWR_key 0xC3A5
    let s : State := (sv (calm R [0]) sigMode 2)
    exact ⟨s, core, v, holds_of (fun (h : _ ∧ _ ∧ _ ∧ _ ∧ _) => ⟨inv_of h.1, h.2.1, h.2.2.1, h.2.2.2.1, h.2.2.2.2⟩) (by decide +kernel +revert)⟩
  · let R := quiet
    let s : State := (let z := R; { z with boot := { z.boot with warm := true } })
    exact ⟨s, holds_of (fun (h : _ ∧ _) => ⟨inv_of h.1, h.2⟩) (by decide +kernel +revert)⟩
  · let R := quiet
    let j : NvmJob := { code := false, at_ := 8, data := [1, 2, 3] }
    let js : List NvmJob := []
    let s : State := (let z := R; { z with boot := { z.boot with nvmJobs := [{ code := false, at_ := 8, data := [1, 2, 3] }], swWait := false } })
    exact ⟨s, j, js, holds_of (fun (h : _ ∧ _ ∧ _ ∧ _ ∧ _ ∧ _ ∧ _) => ⟨inv_of h.1, h.2.1, h.2.2.1, h.2.2.2.1, h.2.2.2.2.1, h.2.2.2.2.2.1, h.2.2.2.2.2.2⟩) (by decide +kernel +revert)⟩
  · let R := quiet
    let s : State := (let z := R; { z with boot := { z.boot with stage := 5, pwfAt := none } })
    exact ⟨s, holds_of (fun (h : _ ∧ _ ∧ _) => ⟨inv_of h.1, h.2.1, h.2.2⟩) (by decide +kernel +revert)⟩
  · let R := quiet
    let w : Nat := 9
    let s : State := (let z := R; { z with boot := { z.boot with pwfAt := some 9 } })
    exact ⟨s, w, holds_of (fun (h : _ ∧ _) => ⟨inv_of h.1, h.2⟩) (by decide +kernel +revert)⟩

theorem witness_ModeMachine :
    (∃ (s : State), s.Inv ∧ s.domainOn 0 = true) ∧
    (∃ (s : State) (b : Nat), s.Inv ∧ s.mode.recheck = some b ∧ s.teamRuns 0 = true ∧ s.val sigPhase = 0 ∧ s.Publishes sigPhase ∧ s.Publishes sigTarget) ∧
    (∃ (s : State), s.Inv ∧ s.val sigPhase = phaseLeaving ∧ s.teamRuns 0 = true ∧ s.stagesToStop.any (· < 2) = false ∧ s.Publishes sigPhase) ∧
    (∃ (s : State), s.Inv ∧ s.val sigPhase = phaseEntering ∧ s.teamRuns 0 = true ∧ (∀ d ∈ s.requiredDomains (s.val sigTarget), s.domainOn d = true ∧ ∀ r ∈ s.power.reinit, r.1 ≠ d) ∧ s.stagesToStop.isEmpty = true ∧ s.Publishes sigPhase ∧ s.Publishes sigMode) ∧
    (∃ (s : State), s.Inv ∧ s.val sigPhase = phaseEntering ∧ s.teamRuns 0 = true ∧ s.stagesToStop.isEmpty = false ∧ (∀ d ∈ s.requiredDomains (s.val sigTarget), s.domainOn d = true ∧ ∀ r ∈ s.power.reinit, r.1 ≠ d) ∧ s.Publishes sigPhase) := by
  refine ⟨?_, ?_, ?_, ?_, ?_⟩
  · let R := quiet
    let s : State := (calm R [0])
    exact ⟨s, holds_of (fun (h : _ ∧ _) => ⟨inv_of h.1, h.2⟩) (by decide +kernel +revert)⟩
  · let R := quiet
    let b : Nat := 9
    let s : State := pub ((let z := (sv (sv (sv (teamUp R 0) (sigPhase) 0) (sigMode) 0) (sigTarget) 1); { z with mode := { z.mode with recheck := some 9 } })) [sigPhase, sigTarget, sigMode]
    exact ⟨s, b, holds_of (fun (h : _ ∧ _ ∧ _ ∧ _ ∧ _ ∧ _) => ⟨inv_of h.1, h.2.1, h.2.2.1, h.2.2.2.1, h.2.2.2.2.1, h.2.2.2.2.2⟩) (by decide +kernel +revert)⟩
  · let R := quiet
    let s : State := pub (((List.range 40).foldl (fun s g => s.setf (Reg.PWM_STAT g) Fld.PWM_STAT_run 0) (sv (sv (sv (teamUp R 0) (sigPhase) 1) (sigMode) 0) (sigTarget) 1))) [sigPhase, sigTarget, sigMode]
    exact ⟨s, holds_of (fun (h : _ ∧ _ ∧ _ ∧ _ ∧ _) => ⟨inv_of h.1, h.2.1, h.2.2.1, h.2.2.2.1, h.2.2.2.2⟩) (by decide +kernel +revert)⟩
  · let R := quiet
    let s : State := (List.range 40).foldl (fun s g => s.setf (Reg.PWM_STAT g) Fld.PWM_STAT_run 0) (pub ((let z := calm ((sv (sv (sv (teamUp R 0) (sigPhase) 2) (sigMode) 1) (sigTarget) 2)) (List.range 8); { z.setf Reg.CHS_ISIG Fld.CHS_ISIG_sig 0 with power := { z.power with reinit := [], entry := none } })) [sigPhase, sigTarget, sigMode])
    exact ⟨s, holds_of (fun (h : _ ∧ _ ∧ _ ∧ _ ∧ _ ∧ _ ∧ _) => ⟨inv_of h.1, h.2.1, h.2.2.1, h.2.2.2.1, h.2.2.2.2.1, h.2.2.2.2.2.1, h.2.2.2.2.2.2⟩) (by decide +kernel +revert)⟩
  · let R := quiet
    let s : State := sets (pub ((let z := calm ((sv (sv (sv (teamUp R 0) (sigPhase) 2) (sigMode) 1) (sigTarget) 1)) (List.range 8); { z.setf Reg.CHS_ISIG Fld.CHS_ISIG_sig 0 with power := { z.power with reinit := [], entry := none } })) [sigPhase, sigTarget, sigMode]) [(Reg.PWM_STAT 0, Fld.PWM_STAT_run, 1), (Reg.PWM_STAT 0, Fld.PWM_STAT_trip, 0)]
    exact ⟨s, holds_of (fun (h : _ ∧ _ ∧ _ ∧ _ ∧ _ ∧ _) => ⟨inv_of h.1, h.2.1, h.2.2.1, h.2.2.2.1, h.2.2.2.2.1, h.2.2.2.2.2⟩) (by decide +kernel +revert)⟩

end Sys2Proof.Tests
end

section
/-! PROOFS. What a Canter instruction leaves as it issues, what a data register, an accumulator and a staged output read as after
a write, and with them the statements on ST, TLU and OUTC (R115, R121, R133). -/

namespace Sys2Proof.Machine

/-! ## Values -/

/-- Saturation is a limit from below and from above. -/
theorem sat_eq_min_max {lo hi : Int} (h : lo ≤ hi) (z : Int) : sat lo hi z = min (max z lo) hi := by
  unfold sat
  split
  · next hlo => rw [max_eq_right hlo.le, min_eq_left h]
  · next hlo =>
    rw [max_eq_left (not_lt.mp hlo)]
    split
    · next hhi => rw [min_eq_right hhi.le]
    · next hhi => rw [min_eq_left (not_lt.mp hhi)]

theorem sat16_eq_min_max (z : Int) : sat16 z = min (max z (-32768)) 32767 := sat_eq_min_max (by decide) z

/-- A negative table index is taken as 0 (R121). -/
theorem tableIdx_eq (x : Int) (n : Nat) :
    tableIdx x n = ((max x 0).toNat / 2 ^ (15 - n), (((max x 0).toNat % 2 ^ (15 - n) * 2 ^ n : Nat) : Int)) := by
  have hu : (if x < 0 then 0 else x.toNat) = (max x 0).toNat := by
    split
    · next hx => rw [max_eq_right hx.le]; rfl
    · next hx => rw [max_eq_left (not_lt.mp hx)]
  unfold tableIdx
  rw [hu]

/-! ## Laws and register files of an engine -/

variable {s : State} {e l : Nat}

theorem laws_length (h : s.Inv) (he : e < 12) : (s.ceAt e).laws.length = 4 := by
  have hlen : e < s.ce.length := by rw [h.ce.1]; exact he
  have hget : s.ceAt e = s.ce[e] := by simp [State.ceAt, List.getD_eq_getElem?_getD, hlen]
  rw [hget, h.ce.2 _ (List.getElem_mem hlen)]

theorem ceAt_modLaw_same (h : s.Inv) (he : e < 12) {f : LawSt → LawSt} :
    (s.modLaw e l f).ceAt e = { s.ceAt e with laws := (s.ceAt e).laws.modify l f } := ceAt_modCe_same h he

theorem modCe_inv (h : s.Inv) {f : CeSt → CeSt} (hf : ∀ c, c.laws.length = 4 → (f c).laws.length = 4 := by intro _ hc; exact hc) :
    (s.modCe e f).Inv := (State.modCe_keeps (K := 8192) rfl (Keeps.refl _ s) hf).inv h

theorem modLaw_inv (h : s.Inv) {f : LawSt → LawSt} : (s.modLaw e l f).Inv :=
  (State.modLaw_keeps (K := 8192) rfl (Keeps.refl _ s)).inv h

/-- An update of a law that leaves its banks alone leaves every register file alone. -/
theorem file_modLaw (h : s.Inv) (he : e < 12) (hl : l < 4) {f : LawSt → LawSt} {sel : BankSel}
    (hA : ∀ w, (f w).bankA = w.bankA := by intro; rfl) (hB : ∀ w, (f w).bankB = w.bankB := by intro; rfl) :
    ((s.modLaw e l f).ceAt e).file l sel = (s.ceAt e).file l sel := by
  have hget := getD_modify_same (s.ceAt e).laws l f {} (by rw [laws_length h he]; exact hl)
  rw [ceAt_modLaw_same h he]
  cases sel <;> simp only [CeSt.file, hget, hA, hB]

section
variable {sel : BankSel} {f : Bank → Bank}

theorem modFile_inv (h : s.Inv) : (s.modCe e (fun c => c.modFile l sel f)).Inv := by
  refine modCe_inv h fun c hc => ?_
  cases sel <;> simpa [CeSt.modFile] using hc

/-- The register file that an update names is the one it updates; of both banks it is the one that is read. -/
theorem file_modFile (h : s.Inv) (he : e < 12) (hl : l < 4) :
    ((s.modCe e (fun c => c.modFile l sel f)).ceAt e).file l sel = f ((s.ceAt e).file l sel) := by
  have hlen : l < (s.ceAt e).laws.length := by rw [laws_length h he]; exact hl
  rw [ceAt_modCe_same h he]
  cases sel <;> simp only [CeSt.modFile, CeSt.file, getD_modify_same _ _ _ _ hlen]

/-- An update of a register file changes nothing of the law but its banks. -/
theorem lawAt_modFile (h : s.Inv) (he : e < 12) (hl : l < 4) :
    ∃ bA bB, (s.modCe e (fun c => c.modFile l sel f)).lawAt e l = { s.lawAt e l with bankA := bA, bankB := bB } := by
  have hlen : l < (s.ceAt e).laws.length := by rw [laws_length h he]; exact hl
  unfold State.lawAt
  rw [ceAt_modCe_same h he]
  cases sel with
  | committed => exact ⟨_, _, rfl⟩
  | a => exact ⟨_, _, getD_modify_same _ _ _ _ hlen⟩
  | b => exact ⟨_, _, getD_modify_same _ _ _ _ hlen⟩
  | both => exact ⟨_, _, getD_modify_same _ _ _ _ hlen⟩

end

/-! ## A data register after a write (R116) -/

section
variable {sel : BankSel} {k : Nat} {v : Int} {tag : Bool}

theorem dSet_dtb : (s.dSet e l sel k v tag).dtb = s.dtb := (State.dSet_keeps (K := 8194) rfl (Keeps.refl _ s)).dtb rfl

/-- A register write changes of the law its banks and the mark of a tag set. -/
theorem lawAt_dSet (h : s.Inv) (he : e < 12) (hl : l < 4) :
    ∃ bA bB m, (s.dSet e l sel k v tag).lawAt e l = { s.lawAt e l with bankA := bA, bankB := bB, anyTag := m } := by
  obtain ⟨bA, bB, hlaw⟩ := lawAt_modFile (sel := sel) (f := fun b => b.write k (BitVec.ofInt 16 v) tag) h he hl
  unfold State.dSet
  cases tag with
  | false => exact ⟨bA, bB, _, hlaw⟩
  | true =>
    refine ⟨bA, bB, true, (lawAt_modLaw_same (setf_inv (modFile_inv h)) he hl).trans ?_⟩
    exact congrArg (fun w : LawSt => { w with anyTag := true }) hlaw

theorem lawAt_dSet_sec (h : s.Inv) (he : e < 12) (hl : l < 4) : ((s.dSet e l sel k v tag).lawAt e l).sec = (s.lawAt e l).sec := by
  obtain ⟨bA, bB, m, hlaw⟩ := lawAt_dSet (sel := sel) (k := k) (v := v) (tag := tag) h he hl
  rw [hlaw]

theorem lawAt_dSet_seg (h : s.Inv) (he : e < 12) (hl : l < 4) : ((s.dSet e l sel k v tag).lawAt e l).seg = (s.lawAt e l).seg := by
  obtain ⟨bA, bB, m, hlaw⟩ := lawAt_dSet (sel := sel) (k := k) (v := v) (tag := tag) h he hl
  rw [hlaw]

theorem file_dSet (h : s.Inv) (he : e < 12) (hl : l < 4) :
    ((s.dSet e l sel k v tag).ceAt e).file l sel = ((s.ceAt e).file l sel).write k (BitVec.ofInt 16 v) tag := by
  unfold State.dSet
  cases tag with
  | false => exact file_modFile h he hl
  | true => exact (file_modLaw (setf_inv (modFile_inv h)) he hl).trans (file_modFile h he hl)

/-- A register written holds the value and the tag. -/
theorem dSet_holds (h : s.Inv) (he : e < 12) (hl : l < 4) (hd : k < ((s.ceAt e).file l sel).d.length)
    (ht : k < ((s.ceAt e).file l sel).tag.length) : Holds (s.dSet e l sel k v tag) e l sel k v tag := by
  unfold Holds State.dTag
  rw [file_dSet h he hl]
  simp [Bank.write, List.getD_eq_getElem?_getD, hd, ht]

/-- A write with a tag that is set sets LAW_STAT.sat. -/
theorem dSet_sat (h : s.Inv) (ht : tag = true) : (s.dSet e l sel k v tag).on (Reg.LAW_STAT e l) Fld.LAW_STAT_sat = true := by
  subst ht
  exact decide_eq_true ((fld_setf_same (modFile_inv h) (by decide)).trans_ne (by decide))

end

/-! ## Issue (R123, R124) -/

/-- The section `c` after it has issued an instruction of use `u` in cycle `t`. -/
def Section.next (c : Section) (u : CanUse) (t : Nat) : Section :=
  { c with pc := c.pc + 1, sched := { afterIssue c.sched u t with port := [] } }

/-- The state in which the instruction word `w`, issued in cycle `t` by the section `c`, has its effect. -/
def State.issue (s : State) (e l : Nat) (w : Word) (c : Section) (t : Nat) : State :=
  ((s.reach t).modCe e (fun k => { k with port := (afterIssue c.sched (s.useOf e l w) t).port })).modLaw e l
    (fun k => { k with sec := some (c.next (s.useOf e l w) t) })

section
variable {op t : Nat} {fs : List (Field × Nat)} {w : Word} {c : Section} {u : CanUse}

@[simp] theorem Section.next_sel : (c.next u t).sel = c.sel := rfl
@[simp] theorem Section.next_look : (c.next u t).look = c.look := rfl

/-- The next instruction of a running section has its effect in the state that its issue leaves. -/
theorem canIssue_of_ready {c0 : Section} (hsec : (s.lawAt e l).sec = some c0) (hprod : (s.lawAt e l).prod = none)
    (hword : s.rd (Reg.LAW_MEM e c0.pc) = w) (hready : issueCycle (s.inPart e l c0).sched (s.useOf e l w) = some t)
    (f : State → Section → Nat → State) :
    s.canIssue e l w f = f (s.issue e l w (s.inPart e l c0) t) ((s.inPart e l c0).next (s.useOf e l w) t) t := by
  have hgo : ¬((s.lawAt e l).prod.isSome || s.rd (Reg.LAW_MEM e c0.pc) ≠ w) = true := by simp [hprod, hword]
  simp only [State.inPart] at hready
  simp only [State.canIssue, hsec, if_neg hgo, hready]
  rfl

theorem canIssue_of_issues (h : Issues s e l op fs c t) (f : State → Section → Nat → State) :
    s.canIssue e l (canWord op fs) f = f (s.issue e l (canWord op fs) c t) (c.next (s.useOf e l (canWord op fs)) t) t := by
  obtain ⟨hsec, hprod⟩ := h.running
  obtain ⟨c0, hc0, rfl⟩ := Option.map_eq_some_iff.mp hsec
  exact canIssue_of_ready hc0 hprod h.word h.ready f

theorem Issues.runs (h : Issues s e l op fs c t) {i : Instr} {f : State → Section → Nat → State} {P : State → Prop}
    (hi : exec i s = canRun e l op fs s f)
    (hP : P (f (s.issue e l (canWord op fs) c t) (c.next (s.useOf e l (canWord op fs)) t) t)) : Runs i s P := by
  have hok : (e < 12 && l < 4 && fs.all (fun f => f.2 < 2 ^ f.1.len)) = true := by
    simpa [h.slot] using fun a b hab => h.fits (a, b) hab
  refine ⟨_, hi.trans ?_, hP⟩
  unfold canRun
  rw [hok, canIssue_of_issues h]
  rfl

theorem reach_inv (h : s.Inv) : (s.reach t).Inv := (State.reach_keeps (K := 1) rfl (Keeps.refl _ s)).inv h

theorem setPort_inv (h : s.Inv) {p : List (Option Nat)} : (s.modCe e (fun k => { k with port := p })).Inv := modCe_inv h

theorem issue_inv (h : s.Inv) : (s.issue e l w c t).Inv := modLaw_inv (setPort_inv (reach_inv h))

@[simp] theorem issue_dtb : (s.issue e l w c t).dtb = max s.dtb t := rfl
@[simp] theorem issue_fld (a : Nat) (f : Field) : (s.issue e l w c t).fld a f = s.fld a f := rfl
@[simp] theorem issue_coef (i : Nat) : (s.issue e l w c t).coef e i = s.coef e i := rfl

/-- The issue changes of the law its section. -/
theorem lawAt_issue (h : s.Inv) (he : e < 12) (hl : l < 4) :
    (s.issue e l w c t).lawAt e l = { s.lawAt e l with sec := some (c.next (s.useOf e l w) t) } := by
  refine (lawAt_modLaw_same (setPort_inv (reach_inv h)) he hl).trans ?_
  unfold State.lawAt
  rw [ceAt_modCe_same (reach_inv h) he]
  rfl

theorem sec_issue (h : s.Inv) (he : e < 12) (hl : l < 4) :
    ((s.issue e l w c t).lawAt e l).sec = some (c.next (s.useOf e l w) t) := by rw [lawAt_issue h he hl]

theorem acc_issue (h : s.Inv) (he : e < 12) (a : Nat) : (s.issue e l w c t).acc e a = s.acc e a := by
  unfold State.acc State.issue
  rw [ceAt_modLaw_same (setPort_inv (reach_inv h)) he, ceAt_modCe_same (reach_inv h) he]
  rfl

theorem file_issue (h : s.Inv) (he : e < 12) (hl : l < 4) (sel : BankSel) :
    ((s.issue e l w c t).ceAt e).file l sel = (s.ceAt e).file l sel := by
  refine (file_modLaw (setPort_inv (reach_inv h)) he hl).trans ?_
  rw [ceAt_modCe_same (reach_inv h) he]
  cases sel <;> rfl

theorem dx_issue (h : s.Inv) (he : e < 12) (hl : l < 4) (x : Nat) :
    (s.issue e l w c t).dx e l (c.next u t) x = s.dx e l c x := by
  unfold State.dx State.dGet
  rw [file_issue h he hl, Section.next_sel]

theorem issued_of_next {r : State} (hd : r.dtb = max s.dtb t) (hs : (r.lawAt e l).sec = some (c.next u t)) : Issued s e l c t r :=
  ⟨hd, by rw [hs]; rfl⟩

/-- A register write on the state that the issue leaves: the instruction has issued. -/
theorem issued_dSet (he : e < 12) (hl : l < 4) {sel : BankSel} {d : Nat} {v : Int} {tag : Bool} {r : State}
    (hr : r.Inv) (hd : r.dtb = max s.dtb t) (hs : (r.lawAt e l).sec = some (c.next u t)) :
    Issued s e l c t (r.dSet e l sel d v tag) :=
  issued_of_next (dSet_dtb.trans hd) ((lawAt_dSet_sec hr he hl).trans hs)

/-- A register write of the instruction's effect is read back with its tag. -/
theorem Issues.dSet_holds (h : Issues s e l op fs c t) {r : State} (hr : r.Inv)
    (hfile : (r.ceAt e).file l c.sel = (s.ceAt e).file l c.sel) {d : Nat} (hd : d < 64) (v : Int) (tag : Bool) :
    Holds (r.dSet e l c.sel d v tag) e l c.sel d v tag := by
  obtain ⟨hdlen, htlen⟩ := h.file
  exact Machine.dSet_holds hr h.slot.1 h.slot.2 (by rw [hfile, hdlen]; exact hd) (by rw [hfile, htlen]; exact hd)

end

/-! ## ST (R115) -/

/-- Settles O19: the store is a register write of the rounded accumulator, saturated, and its tag is the saturation. -/
theorem storeRounds : Obligations.StoreRounds := by
  intro s e l c tt d a hs hd _ h
  obtain ⟨he, hl⟩ := h.slot
  refine h.runs (exec_canSt s) ?_
  rw [acc_issue hs he, State.putSat, sat16_eq_min_max, Section.next_sel]
  refine ⟨issued_dSet he hl (issue_inv hs) issue_dtb (sec_issue hs he hl), ?_⟩
  rintro z rfl
  exact ⟨h.dSet_holds (issue_inv hs) (file_issue hs he hl _) hd _ _, fun hsat => dSet_sat (issue_inv hs) (decide_eq_true hsat)⟩

/-! ## TLU (R121) -/

theorem setSeg_inv (h : s.Inv) {i : Nat} : (s.setSeg e l i).Inv := modLaw_inv h

@[simp] theorem setSeg_dtb {i : Nat} : (s.setSeg e l i).dtb = s.dtb := rfl

theorem lawAt_setSeg (h : s.Inv) (he : e < 12) (hl : l < 4) {i : Nat} :
    (s.setSeg e l i).lawAt e l = { s.lawAt e l with seg := i } := lawAt_modLaw_same h he hl

theorem file_setSeg (h : s.Inv) (he : e < 12) (hl : l < 4) {i : Nat} {sel : BankSel} :
    ((s.setSeg e l i).ceAt e).file l sel = (s.ceAt e).file l sel := file_modLaw h he hl

/-- Settles O20: the segment register takes the index, and the register write is the interpolated value with a clear tag. -/
theorem tableInterpolates : Obligations.TableInterpolates := by
  intro s e l c tt d x t0 hs hd _ h
  obtain ⟨he, hl⟩ := h.slot
  refine h.runs (exec_canTlu s) ?_
  have hr : (s.issue e l (canWord 0x28 [(fD, d), (fX, x), (fT, t0)]) c tt).Inv := issue_inv hs
  simp only [issue_fld, issue_coef, Section.next_sel, dx_issue hs he hl, tableIdx_eq]
  have hsec := fun i => (congrArg LawSt.sec (lawAt_setSeg (i := i) hr he hl)).trans (sec_issue hs he hl)
  refine ⟨issued_dSet he hl (setSeg_inv hr) (setSeg_dtb.trans issue_dtb) (hsec _), ?_⟩
  rintro u i f n b rfl rfl rfl rfl rfl
  constructor
  · rw [lawAt_dSet_seg (setSeg_inv hr) he hl, lawAt_setSeg hr he hl]
  · exact h.dSet_holds (setSeg_inv hr) ((file_setSeg hr he hl).trans (file_issue hs he hl _)) hd _ _

/-! ## OUTC (R133) -/

section
variable {c : Section} {k : Nat} {v : Word}

@[simp] theorem stage_dtb : (s.stage e l c k v).dtb = s.dtb := rfl

theorem sec_stage (h : s.Inv) (he : e < 12) (hl : l < 4) : ((s.stage e l c k v).lawAt e l).sec = (s.lawAt e l).sec := by
  unfold State.stage
  rw [lawAt_modLaw_same h he hl]
  split <;> rfl

theorem staged_stage (h : s.Inv) (he : e < 12) (hl : l < 4) (hc : c.look = false) :
    ((s.stage e l c k v).lawAt e l).staged = (s.lawAt e l).staged.set k (some v) := by
  unfold State.stage
  rw [lawAt_modLaw_same h he hl, hc]
  rfl

theorem fbSet_stage (h : s.Inv) (he : e < 12) (hl : l < 4) (hc : c.look = true) :
    ((s.stage e l c k v).lawAt e l).fbSet = (s.lawAt e l).fbSet.set k (some v) := by
  unfold State.stage
  rw [lawAt_modLaw_same h he hl, hc]
  rfl

end

/-- Settles O22: the limited accumulator goes to the outputs of the execution, or in a lookahead to its fallback set (R165). -/
theorem compareOutputs : Obligations.CompareOutputs := by
  intro s e l c tt k a hs _ _ h
  obtain ⟨he, hl⟩ := h.slot
  refine h.runs (exec_canOutc s) ?_
  rw [acc_issue hs he, sat_eq_min_max (by decide)]
  refine ⟨issued_of_next (stage_dtb.trans issue_dtb) ((sec_stage (issue_inv hs) he hl).trans (sec_issue hs he hl)), ?_⟩
  rintro w rfl
  refine ⟨fun hc => (staged_stage (issue_inv hs) he hl hc).trans ?_, fun hc => (fbSet_stage (issue_inv hs) he hl hc).trans ?_⟩
  · rw [lawAt_issue hs he hl]
  · rw [lawAt_issue hs he hl]

end Sys2Proof.Machine
end

section
/-! PROOFS. A held write of coefficient memory whose index lies outside the memory, and with it the statement on the rollback
counters (R119, R497). -/

namespace Sys2Proof.Machine

/-- An oldest held coefficient write that nothing blocks is performed (R119). -/
theorem exec_coefMemWritePerformed_of_held {s : State} {e i : Nat} {v : Word} {q : List (Nat × Word)} (he : e < 12)
    (hq : (s.ceAt e).coefQ = (i, v) :: q) (hb : s.coefBlocked e = false) :
    exec (.coefMemWritePerformed e) s = .next ((s.modCe e (fun c => { c with coefQ := q })).setCoef e i v) := by
  simp [execCoefMemWritePerformed, ofUnit, he, hq, hb]

/-- Halfword of engine 0 that lies in SEC_RBCNT. COEF_MEM_WRITE holds indices below 4096 alone; `State.Inv` has no bound on
the index of a held write. -/
def rbcntHalfword : Nat := 0x1FF004

theorem coefMem_rbcntHalfword : Reg.COEF_MEM 0 (rbcntHalfword / 2) = Reg.SEC_RBCNT := by decide

/-- A coefficient written at that halfword becomes the rollback counter of image kind 1. -/
theorem rollback_setCoef_rbcntHalfword {s : State} (h : s.Inv) (v : Word) :
    (s.setCoef 0 rbcntHalfword v).rollback 1 = v.toNat % 2 ^ 7 := by
  have hhalf : Word.get ((s.setCoef 0 rbcntHalfword v).rd Reg.SEC_RBCNT) ⟨0, 16⟩ = v.toNat % 2 ^ 16 := by
    unfold State.setCoef
    rw [coefMem_rbcntHalfword]
    exact fld_setf_same h (by decide)
  calc (s.setCoef 0 rbcntHalfword v).rollback 1
      = Word.get ((s.setCoef 0 rbcntHalfword v).rd Reg.SEC_RBCNT) ⟨0, 16⟩ % 2 ^ 7 :=
        (Nat.mod_mod_of_dvd _ (by decide)).symm
    _ = v.toNat % 2 ^ 7 := by rw [hhalf, Nat.mod_mod_of_dvd _ (by decide)]

theorem reset_inv : State.reset.Inv := by
  constructor <;> decide +kernel

/-- After reset, with the rollback counter of image kind 1 at 5 and a coefficient 0 held for the stray halfword. -/
def strayWrite : State :=
  (State.reset.setf Reg.SEC_RBCNT ⟨0, 7⟩ 5).modCe 0 (fun c => { c with coefQ := [(rbcntHalfword, 0)] })

theorem strayWrite_inv : strayWrite.Inv := modCe_inv (setf_inv reset_inv)

theorem strayWrite_rollback : strayWrite.rollback 1 = 5 :=
  calc strayWrite.rollback 1
      = (State.reset.setf Reg.SEC_RBCNT ⟨0, 7⟩ 5).fld Reg.SEC_RBCNT ⟨0, 7⟩ := fld_congr rfl _ _
    _ = 5 % 2 ^ 7 := fld_setf_same reset_inv (by decide)

theorem strayWrite_unblocked : strayWrite.coefBlocked 0 = false := by decide +kernel

/-- Refutes O56: COEF_MEM_WRITE_PERFORMED puts the coefficient 0 into SEC_RBCNT and the counter falls from 5 to 0. The state is
sound by `State.Inv`, though no run reaches it: a held write has an index below 4096 there. -/
theorem not_countersRise : ¬ Obligations.CountersRise := by
  unfold Obligations.CountersRise
  intro h
  have hrun := exec_coefMemWritePerformed_of_held (s := strayWrite) (by decide) rfl strayWrite_unblocked
  obtain ⟨hrise, -⟩ := h _ _ _ 1 strayWrite_inv hrun (by decide) (by decide) (by rw [strayWrite_rollback]; decide)
  rw [strayWrite_rollback, rollback_setCoef_rbcntHalfword (modCe_inv strayWrite_inv)] at hrise
  exact absurd hrise (by decide)

end Sys2Proof.Machine
end

section
/-! PROOFS. What a step keeps: each command answers a state that differs from the one before in the parts that `Instr.parts`
lists, and a sound one from a sound one. With it the statements on the invariant, the parts and the RTC. -/

namespace Sys2Proof.Machine

set_option Elab.async false

/-! ## Masks of parts -/

/-- The mask of `Keeps` for a list of parts: bit `i` for the part that is the `i`-th of `Part`. -/
def partsMask (ps : List Part) : Nat := ps.foldr (fun p m => 2 ^ p.ctorIdx ||| m) 0

theorem Part.ctorIdx_injective {p q : Part} (h : p.ctorIdx = q.ctorIdx) : p = q := by
  rw [← Part.ofNat_ctorIdx p, h, Part.ofNat_ctorIdx]

theorem testBit_partsMask {p : Part} : ∀ {ps : List Part}, p ∉ ps → (partsMask ps).testBit p.ctorIdx = false
  | [], _ => Nat.zero_testBit _
  | q :: ps, h => by
    rw [List.mem_cons, not_or] at h
    obtain ⟨hq, hps⟩ := h
    have hne : q.ctorIdx ≠ p.ctorIdx := fun e => hq (Part.ctorIdx_injective e.symm)
    show (2 ^ q.ctorIdx ||| partsMask ps).testBit p.ctorIdx = false
    rw [Nat.testBit_or, testBit_partsMask hps, Nat.testBit_two_pow_of_ne hne]
    rfl

/-- A part outside the mask is the same. -/
theorem Keeps.same {K : Nat} {s t : State} (h : Keeps K s t) (p : Part) (hp : K.testBit p.ctorIdx = false) : Part.same s t p := by
  cases p
  case dtb => exact h.dtb hp
  case regs => exact h.regs hp
  case sigs => exact h.sigs hp
  case descs => exact h.descs hp
  case sram => exact h.sram hp
  case nvm => exact h.nvm hp
  case codeNvm => exact h.codeNvm hp
  case draws => exact h.draws hp
  case cores => exact h.cores hp
  case paddock => exact h.paddock hp
  case au => exact h.au hp
  case joins => exact h.joins hp
  case tt => exact h.tt hp
  case ce => exact h.ce hp
  case pg => exact h.pg hp
  case tripIn => exact h.tripIn hp
  case yarrow => exact h.yarrow hp
  case mode => exact h.mode hp
  case irqPend => exact h.irqPend hp
  case gate => exact h.gate hp
  case mg => exact h.mg hp
  case bus => exact h.bus hp
  case bridle => exact h.bridle hp
  case sec => exact h.sec hp
  case rtcBase => exact h.rtcBase hp
  case drives => exact h.drives hp
  case inlet => exact h.inlet hp
  case charge => exact h.charge hp
  case supply => exact h.supply hp
  case solar => exact h.solar hp
  case chs => exact h.chs hp
  case lv => exact h.lv hp
  case keeper => exact h.keeper hp
  case motors => exact h.motors hp
  case shift => exact h.shift hp
  case park => exact h.park hp
  case clutch => exact h.clutch hp
  case pump => exact h.pump hp
  case harn => exact h.harn hp
  case thermal => exact h.thermal hp
  case clk => exact h.clk hp
  case power => exact h.power hp
  case boot => exact h.boot hp
  case cycle => exact h.cycle hp

/-! ## Commands -/

/-- A command but VBATK_APPLIED changes the parts that it lists alone, keeps a state sound and does not turn the RTC back. -/
theorem exec_answers (s : State) (c : Instr) (hc : c ≠ .vbatkApplied) : Answers (partsMask c.parts) s (exec c s) := by
  cases c
  all_goals conv in Instr.parts _ => whnf
  case registerWrite => exact execRegisterWrite_keeps rfl (Keeps.refl _ s)
  case rcCounterRead => exact execRcCounterRead_keeps rfl (Keeps.refl _ s)
  case dtbLoRead => exact execDtbLoRead_keeps rfl (Keeps.refl _ s)
  case systemBoundary1ms => exact execSystemBoundary1ms_keeps rfl (Keeps.refl _ s)
  case modeEntryRecheck => exact execModeEntryRecheck_keeps rfl (Keeps.refl _ s)
  case modeLeavingDone => exact execModeLeavingDone_keeps rfl (Keeps.refl _ s)
  case modeEnteringDone => exact execModeEnteringDone_keeps rfl (Keeps.refl _ s)
  case paddockCoreWrite => exact execPaddockCoreWrite_keeps rfl (Keeps.refl _ s)
  case descriptorWrite => exact execDescriptorWrite_keeps rfl (Keeps.refl _ s)
  case paddockBankAccess => exact execPaddockBankAccess_keeps rfl (Keeps.refl _ s)
  case generatorPeriodStart => exact execGeneratorPeriodStart_keeps rfl (Keeps.refl _ s)
  case generatorCentre => exact execGeneratorCentre_keeps rfl (Keeps.refl _ s)
  case compareAMatch => exact execCompareAMatch_keeps rfl (Keeps.refl _ s)
  case referenceEdge => exact execReferenceEdge_keeps rfl (Keeps.refl _ s)
  case deadTimeEnd => exact execDeadTimeEnd_keeps rfl (Keeps.refl _ s)
  case stretchTurnOff => exact execStretchTurnOff_keeps rfl (Keeps.refl _ s)
  case pwmEnable => exact execPwmEnable_keeps rfl (Keeps.refl _ s)
  case pwmDisable => exact execPwmDisable_keeps rfl (Keeps.refl _ s)
  case pwmGstart => exact execPwmGstart_keeps rfl (Keeps.refl _ s)
  case pwmCmpWrite => exact execPwmCmpWrite_keeps rfl (Keeps.refl _ s)
  case pwmPerWrite => exact execPwmPerWrite_keeps rfl (Keeps.refl _ s)
  case pwmTripClear => exact execPwmTripClear_keeps rfl (Keeps.refl _ s)
  case cotStartEvent => exact execCotStartEvent_keeps rfl (Keeps.refl _ s)
  case cotMinOffEnd => exact execCotMinOffEnd_keeps rfl (Keeps.refl _ s)
  case cotForcedStart => exact execCotForcedStart_keeps rfl (Keeps.refl _ s)
  case yarrowMeasurementDone => exact execYarrowMeasurementDone_keeps rfl (Keeps.refl _ s)
  case tripInPinChange => exact execTripInPinChange_keeps rfl (Keeps.refl _ s)
  case tripInFilterExpiry => exact execTripInFilterExpiry_keeps rfl (Keeps.refl _ s)
  case lawLateMiss => exact execLawLateMiss_keeps rfl (Keeps.refl _ s)
  case lawOutputWrite => exact execLawOutputWrite_keeps rfl (Keeps.refl _ s)
  case lawFallbackWrite => exact execLawFallbackWrite_keeps rfl (Keeps.refl _ s)
  case lawEnable => exact execLawEnable_keeps rfl (Keeps.refl _ s)
  case staticCheckDone => exact execStaticCheckDone_keeps rfl (Keeps.refl _ s)
  case lawDisable => exact execLawDisable_keeps rfl (Keeps.refl _ s)
  case ceDisable => exact execCeDisable_keeps rfl (Keeps.refl _ s)
  case ceEccDoubleError => exact execCeEccDoubleError_keeps rfl (Keeps.refl _ s)
  case coefMemWrite => exact execCoefMemWrite_keeps rfl (Keeps.refl _ s)
  case coefMemWritePerformed => exact execCoefMemWritePerformed_keeps rfl (Keeps.refl _ s)
  case lookaheadStart => exact execLookaheadStart_keeps rfl (Keeps.refl _ s)
  case canNop => exact execCanNop_keeps rfl (Keeps.refl _ s)
  case canEnd => exact execCanEnd_keeps rfl (Keeps.refl _ s)
  case canSkip => exact execCanSkip_keeps rfl (Keeps.refl _ s)
  case canCmp => exact execCanCmp_keeps rfl (Keeps.refl _ s)
  case canTst => exact execCanTst_keeps rfl (Keeps.refl _ s)
  case canLdi => exact execCanLdi_keeps rfl (Keeps.refl _ s)
  case canMov => exact execCanMov_keeps rfl (Keeps.refl _ s)
  case canAdd => exact execCanAdd_keeps rfl (Keeps.refl _ s)
  case canSub => exact execCanSub_keeps rfl (Keeps.refl _ s)
  case canNeg => exact execCanNeg_keeps rfl (Keeps.refl _ s)
  case canAbs => exact execCanAbs_keeps rfl (Keeps.refl _ s)
  case canMin => exact execCanMin_keeps rfl (Keeps.refl _ s)
  case canMax => exact execCanMax_keeps rfl (Keeps.refl _ s)
  case canLim => exact execCanLim_keeps rfl (Keeps.refl _ s)
  case canShf => exact execCanShf_keeps rfl (Keeps.refl _ s)
  case canAddw => exact execCanAddw_keeps rfl (Keeps.refl _ s)
  case canMul => exact execCanMul_keeps rfl (Keeps.refl _ s)
  case canMac => exact execCanMac_keeps rfl (Keeps.refl _ s)
  case canMsu => exact execCanMsu_keeps rfl (Keeps.refl _ s)
  case canMulc => exact execCanMulc_keeps rfl (Keeps.refl _ s)
  case canMacc => exact execCanMacc_keeps rfl (Keeps.refl _ s)
  case canDmac => exact execCanDmac_keeps rfl (Keeps.refl _ s)
  case canDot => exact execCanDot_keeps rfl (Keeps.refl _ s)
  case canLda => exact execCanLda_keeps rfl (Keeps.refl _ s)
  case canAdda => exact execCanAdda_keeps rfl (Keeps.refl _ s)
  case canSuba => exact execCanSuba_keeps rfl (Keeps.refl _ s)
  case canSha => exact execCanSha_keeps rfl (Keeps.refl _ s)
  case canSt => exact execCanSt_keeps rfl (Keeps.refl _ s)
  case canSincos => exact execCanSincos_keeps rfl (Keeps.refl _ s)
  case canPark => exact execCanPark_keeps rfl (Keeps.refl _ s)
  case canIpark => exact execCanIpark_keeps rfl (Keeps.refl _ s)
  case canClarke => exact execCanClarke_keeps rfl (Keeps.refl _ s)
  case canSvm => exact execCanSvm_keeps rfl (Keeps.refl _ s)
  case canDiv => exact execCanDiv_keeps rfl (Keeps.refl _ s)
  case canSqrt => exact execCanSqrt_keeps rfl (Keeps.refl _ s)
  case canTlu => exact execCanTlu_keeps rfl (Keeps.refl _ s)
  case canTlt => exact execCanTlt_keeps rfl (Keeps.refl _ s)
  case canLdk => exact execCanLdk_keeps rfl (Keeps.refl _ s)
  case canLds => exact execCanLds_keeps rfl (Keeps.refl _ s)
  case canSts => exact execCanSts_keeps rfl (Keeps.refl _ s)
  case canLdc => exact execCanLdc_keeps rfl (Keeps.refl _ s)
  case canLdu => exact execCanLdu_keeps rfl (Keeps.refl _ s)
  case canUrg => exact execCanUrg_keeps rfl (Keeps.refl _ s)
  case canInt => exact execCanInt_keeps rfl (Keeps.refl _ s)
  case canOutd => exact execCanOutd_keeps rfl (Keeps.refl _ s)
  case canOutc => exact execCanOutc_keeps rfl (Keeps.refl _ s)
  case canPrd => exact execCanPrd_keeps rfl (Keeps.refl _ s)
  case canBnd => exact execCanBnd_keeps rfl (Keeps.refl _ s)
  case canSel => exact execCanSel_keeps rfl (Keeps.refl _ s)
  case canCorr => exact execCanCorr_keeps rfl (Keeps.refl _ s)
  case adcTriggerDelayEnd => exact execAdcTriggerDelayEnd_keeps rfl (Keeps.refl _ s)
  case adcSlotStart => exact execAdcSlotStart_keeps rfl (Keeps.refl _ s)
  case adcSamplingEnd => exact execAdcSamplingEnd_keeps rfl (Keeps.refl _ s)
  case adcConversionEnd => exact execAdcConversionEnd_keeps rfl (Keeps.refl _ s)
  case adcUrgWrite => exact execAdcUrgWrite_keeps rfl (Keeps.refl _ s)
  case urgentRequestEffect => exact execUrgentRequestEffect_keeps rfl (Keeps.refl _ s)
  case adcSwtrgWrite => exact execAdcSwtrgWrite_keeps rfl (Keeps.refl _ s)
  case adcCalStart => exact execAdcCalStart_keeps rfl (Keeps.refl _ s)
  case adcCalDone => exact execAdcCalDone_keeps rfl (Keeps.refl _ s)
  case adcDisable => exact execAdcDisable_keeps rfl (Keeps.refl _ s)
  case triggerTimerFire => exact execTriggerTimerFire_keeps rfl (Keeps.refl _ s)
  case gateCommandArrival => exact execGateCommandArrival_keeps rfl (Keeps.refl _ s)
  case strongPhaseEnd => exact execStrongPhaseEnd_keeps rfl (Keeps.refl _ s)
  case plateauExit => exact execPlateauExit_keeps rfl (Keeps.refl _ s)
  case slopeTimeout => exact execSlopeTimeout_keeps rfl (Keeps.refl _ s)
  case gateSenseMidpoint => exact execGateSenseMidpoint_keeps rfl (Keeps.refl _ s)
  case qualificationTimeout => exact execQualificationTimeout_keeps rfl (Keeps.refl _ s)
  case linkLoss => exact execLinkLoss_keeps rfl (Keeps.refl _ s)
  case biasUndervoltage => exact execBiasUndervoltage_keeps rfl (Keeps.refl _ s)
  case biasRecovery => exact execBiasRecovery_keeps rfl (Keeps.refl _ s)
  case lvOvercurrent => exact execLvOvercurrent_keeps rfl (Keeps.refl _ s)
  case lvBootstrapUv => exact execLvBootstrapUv_keeps rfl (Keeps.refl _ s)
  case lvBootstrapRecovery => exact execLvBootstrapRecovery_keeps rfl (Keeps.refl _ s)
  case senseCellCrossing => exact execSenseCellCrossing_keeps rfl (Keeps.refl _ s)
  case senseCellDetection => exact execSenseCellDetection_keeps rfl (Keeps.refl _ s)
  case softTurnOffEnd => exact execSoftTurnOffEnd_keeps rfl (Keeps.refl _ s)
  case probeGateLoopDone => exact execProbeGateLoopDone_keeps rfl (Keeps.refl _ s)
  case probeInjectionEnd => exact execProbeInjectionEnd_keeps rfl (Keeps.refl _ s)
  case probeBridgeDone => exact execProbeBridgeDone_keeps rfl (Keeps.refl _ s)
  case gdcProbeStart => exact execGdcProbeStart_keeps rfl (Keeps.refl _ s)
  case drvEnPinChange => exact execDrvEnPinChange_keeps rfl (Keeps.refl _ s)
  case drvEnFilteredLow => exact execDrvEnFilteredLow_keeps rfl (Keeps.refl _ s)
  case drvEnFilteredRise => exact execDrvEnFilteredRise_keeps rfl (Keeps.refl _ s)
  case startSequenceProbe => exact execStartSequenceProbe_keeps rfl (Keeps.refl _ s)
  case enReqPulse => exact execEnReqPulse_keeps rfl (Keeps.refl _ s)
  case enReqPulseEnd => exact execEnReqPulseEnd_keeps rfl (Keeps.refl _ s)
  case dclMeasSample => exact execDclMeasSample_keeps rfl (Keeps.refl _ s)
  case chopperOn => exact execChopperOn_keeps rfl (Keeps.refl _ s)
  case chopperOff => exact execChopperOff_keeps rfl (Keeps.refl _ s)
  case hardOvervoltage => exact execHardOvervoltage_keeps rfl (Keeps.refl _ s)
  case hardOvervoltageRelease => exact execHardOvervoltageRelease_keeps rfl (Keeps.refl _ s)
  case forcedDischargeRequest => exact execForcedDischargeRequest_keeps rfl (Keeps.refl _ s)
  case forcedDischargeDone => exact execForcedDischargeDone_keeps rfl (Keeps.refl _ s)
  case forcedDischargeTimeout => exact execForcedDischargeTimeout_keeps rfl (Keeps.refl _ s)
  case dischargeHoldoffEnd => exact execDischargeHoldoffEnd_keeps rfl (Keeps.refl _ s)
  case path2TurnOn => exact execPath2TurnOn_keeps rfl (Keeps.refl _ s)
  case driveStart => exact execDriveStart_keeps rfl (Keeps.refl _ s)
  case driveStartComplete => exact execDriveStartComplete_keeps rfl (Keeps.refl _ s)
  case driveStartTimeout => exact execDriveStartTimeout_keeps rfl (Keeps.refl _ s)
  case driveDwellEntry => exact execDriveDwellEntry_keeps rfl (Keeps.refl _ s)
  case driveDwellEnd => exact execDriveDwellEnd_keeps rfl (Keeps.refl _ s)
  case driveStop => exact execDriveStop_keeps rfl (Keeps.refl _ s)
  case driveStopped => exact execDriveStopped_keeps rfl (Keeps.refl _ s)
  case driveStopTimeout => exact execDriveStopTimeout_keeps rfl (Keeps.refl _ s)
  case driveSafeEntry => exact execDriveSafeEntry_keeps rfl (Keeps.refl _ s)
  case driveOverspeed => exact execDriveOverspeed_keeps rfl (Keeps.refl _ s)
  case batterySideLost => exact execBatterySideLost_keeps rfl (Keeps.refl _ s)
  case encoderEdge => exact execEncoderEdge_keeps rfl (Keeps.refl _ s)
  case encoderIndex => exact execEncoderIndex_keeps rfl (Keeps.refl _ s)
  case resolverExcitationFault => exact execResolverExcitationFault_keeps rfl (Keeps.refl _ s)
  case pilotPeriodCapture => exact execPilotPeriodCapture_keeps rfl (Keeps.refl _ s)
  case pilotStateDecode => exact execPilotStateDecode_keeps rfl (Keeps.refl _ s)
  case inletCableDetected => exact execInletCableDetected_keeps rfl (Keeps.refl _ s)
  case inletSourceQualified => exact execInletSourceQualified_keeps rfl (Keeps.refl _ s)
  case inletReadyLost => exact execInletReadyLost_keeps rfl (Keeps.refl _ s)
  case inletEnergize => exact execInletEnergize_keeps rfl (Keeps.refl _ s)
  case inletPhasesValid => exact execInletPhasesValid_keeps rfl (Keeps.refl _ s)
  case inletEnergizeTimeout => exact execInletEnergizeTimeout_keeps rfl (Keeps.refl _ s)
  case inletSourceLoss => exact execInletSourceLoss_keeps rfl (Keeps.refl _ s)
  case handoverEnd => exact execHandoverEnd_keeps rfl (Keeps.refl _ s)
  case handoverTimeout => exact execHandoverTimeout_keeps rfl (Keeps.refl _ s)
  case lockoutEnd => exact execLockoutEnd_keeps rfl (Keeps.refl _ s)
  case inletCableRemoved => exact execInletCableRemoved_keeps rfl (Keeps.refl _ s)
  case inletModeLeft => exact execInletModeLeft_keeps rfl (Keeps.refl _ s)
  case srcFaultRecover => exact execSrcFaultRecover_keeps rfl (Keeps.refl _ s)
  case weakSource => exact execWeakSource_keeps rfl (Keeps.refl _ s)
  case chargeRequest => exact execChargeRequest_keeps rfl (Keeps.refl _ s)
  case chargeQualified => exact execChargeQualified_keeps rfl (Keeps.refl _ s)
  case chargeQualifyTimeout => exact execChargeQualifyTimeout_keeps rfl (Keeps.refl _ s)
  case chargeCvReached => exact execChargeCvReached_keeps rfl (Keeps.refl _ s)
  case chargeTerminationStart => exact execChargeTerminationStart_keeps rfl (Keeps.refl _ s)
  case chargeTermination => exact execChargeTermination_keeps rfl (Keeps.refl _ s)
  case chargeTopoffEnd => exact execChargeTopoffEnd_keeps rfl (Keeps.refl _ s)
  case chargeRecharge => exact execChargeRecharge_keeps rfl (Keeps.refl _ s)
  case chargeSourceLost => exact execChargeSourceLost_keeps rfl (Keeps.refl _ s)
  case chargeSourceHold => exact execChargeSourceHold_keeps rfl (Keeps.refl _ s)
  case chargeSourceHoldEnd => exact execChargeSourceHoldEnd_keeps rfl (Keeps.refl _ s)
  case presenceTestStart => exact execPresenceTestStart_keeps rfl (Keeps.refl _ s)
  case presenceTestEnd => exact execPresenceTestEnd_keeps rfl (Keeps.refl _ s)
  case chargeStop => exact execChargeStop_keeps rfl (Keeps.refl _ s)
  case chargeFaultClear => exact execChargeFaultClear_keeps rfl (Keeps.refl _ s)
  case supplyEnergize => exact execSupplyEnergize_keeps rfl (Keeps.refl _ s)
  case supplyFault => exact execSupplyFault_keeps rfl (Keeps.refl _ s)
  case supplyCableRemoved => exact execSupplyCableRemoved_keeps rfl (Keeps.refl _ s)
  case stationStateReaction => exact execStationStateReaction_keeps rfl (Keeps.refl _ s)
  case stationProbeSeen => exact execStationProbeSeen_keeps rfl (Keeps.refl _ s)
  case solarStart => exact execSolarStart_keeps rfl (Keeps.refl _ s)
  case solarStop => exact execSolarStop_keeps rfl (Keeps.refl _ s)
  case solarOpenCircuitMeasure => exact execSolarOpenCircuitMeasure_keeps rfl (Keeps.refl _ s)
  case mpptStep => exact execMpptStep_keeps rfl (Keeps.refl _ s)
  case solarScanStart => exact execSolarScanStart_keeps rfl (Keeps.refl _ s)
  case solarScanStep => exact execSolarScanStep_keeps rfl (Keeps.refl _ s)
  case reverseTransferStart => exact execReverseTransferStart_keeps rfl (Keeps.refl _ s)
  case reverseTransferStop => exact execReverseTransferStop_keeps rfl (Keeps.refl _ s)
  case solarCurtail => exact execSolarCurtail_keeps rfl (Keeps.refl _ s)
  case lvSequencerStart => exact execLvSequencerStart_keeps rfl (Keeps.refl _ s)
  case dcxIbGood => exact execDcxIbGood_keeps rfl (Keeps.refl _ s)
  case dcxStartTimeout => exact execDcxStartTimeout_keeps rfl (Keeps.refl _ s)
  case dcxOvercurrent => exact execDcxOvercurrent_keeps rfl (Keeps.refl _ s)
  case dcxWaitEnd => exact execDcxWaitEnd_keeps rfl (Keeps.refl _ s)
  case offTimeComparator => exact execOffTimeComparator_keeps rfl (Keeps.refl _ s)
  case syncEdge => exact execSyncEdge_keeps rfl (Keeps.refl _ s)
  case syncLost => exact execSyncLost_keeps rfl (Keeps.refl _ s)
  case lvCheckDone => exact execLvCheckDone_keeps rfl (Keeps.refl _ s)
  case lvPowerGood => exact execLvPowerGood_keeps rfl (Keeps.refl _ s)
  case lvSoftstartFail => exact execLvSoftstartFail_keeps rfl (Keeps.refl _ s)
  case lvRetryWaitEnd => exact execLvRetryWaitEnd_keeps rfl (Keeps.refl _ s)
  case lvFeedLost => exact execLvFeedLost_keeps rfl (Keeps.refl _ s)
  case lvOvervoltage => exact execLvOvervoltage_keeps rfl (Keeps.refl _ s)
  case lvSupervisorFire => exact execLvSupervisorFire_keeps rfl (Keeps.refl _ s)
  case hiccupCountReset => exact execHiccupCountReset_keeps rfl (Keeps.refl _ s)
  case lvStop => exact execLvStop_keeps rfl (Keeps.refl _ s)
  case lvFaultClear => exact execLvFaultClear_keeps rfl (Keeps.refl _ s)
  case shipModeArm => exact execShipModeArm_keeps rfl (Keeps.refl _ s)
  case shipModeBswOpen => exact execShipModeBswOpen_keeps rfl (Keeps.refl _ s)
  case btnPress => exact execBtnPress_keeps rfl (Keeps.refl _ s)
  case btnRelease => exact execBtnRelease_keeps rfl (Keeps.refl _ s)
  case longPress => exact execLongPress_keeps rfl (Keeps.refl _ s)
  case longPressBswOpen => exact execLongPressBswOpen_keeps rfl (Keeps.refl _ s)
  case longPressBswClose => exact execLongPressBswClose_keeps rfl (Keeps.refl _ s)
  case shiftStart => exact execShiftStart_keeps rfl (Keeps.refl _ s)
  case shiftTestPulseEnd => exact execShiftTestPulseEnd_keeps rfl (Keeps.refl _ s)
  case shiftRestEnd => exact execShiftRestEnd_keeps rfl (Keeps.refl _ s)
  case shiftDecayFail => exact execShiftDecayFail_keeps rfl (Keeps.refl _ s)
  case shiftSectorDecision => exact execShiftSectorDecision_keeps rfl (Keeps.refl _ s)
  case backEmfCrossing => exact execBackEmfCrossing_keeps rfl (Keeps.refl _ s)
  case commutation => exact execCommutation_keeps rfl (Keeps.refl _ s)
  case forcedCommutation => exact execForcedCommutation_keeps rfl (Keeps.refl _ s)
  case shiftInBand => exact execShiftInBand_keeps rfl (Keeps.refl _ s)
  case shiftStall => exact execShiftStall_keeps rfl (Keeps.refl _ s)
  case shiftSensorFault => exact execShiftSensorFault_keeps rfl (Keeps.refl _ s)
  case shiftRetryWaitEnd => exact execShiftRetryWaitEnd_keeps rfl (Keeps.refl _ s)
  case shiftFaultClear => exact execShiftFaultClear_keeps rfl (Keeps.refl _ s)
  case parkDriveStart => exact execParkDriveStart_keeps rfl (Keeps.refl _ s)
  case parkPositionReached => exact execParkPositionReached_keeps rfl (Keeps.refl _ s)
  case parkTimeout => exact execParkTimeout_keeps rfl (Keeps.refl _ s)
  case parkBrakeEnd => exact execParkBrakeEnd_keeps rfl (Keeps.refl _ s)
  case parkDiscrepancy => exact execParkDiscrepancy_keeps rfl (Keeps.refl _ s)
  case clutchPullEnd => exact execClutchPullEnd_keeps rfl (Keeps.refl _ s)
  case clutchOpenDetect => exact execClutchOpenDetect_keeps rfl (Keeps.refl _ s)
  case pumpEvaluation => exact execPumpEvaluation_keeps rfl (Keeps.refl _ s)
  case pumpAlignEnd => exact execPumpAlignEnd_keeps rfl (Keeps.refl _ s)
  case pumpRampEnd => exact execPumpRampEnd_keeps rfl (Keeps.refl _ s)
  case pumpRetryWaitEnd => exact execPumpRetryWaitEnd_keeps rfl (Keeps.refl _ s)
  case pumpSpeedFault => exact execPumpSpeedFault_keeps rfl (Keeps.refl _ s)
  case pumpFaultClear => exact execPumpFaultClear_keeps rfl (Keeps.refl _ s)
  case troikaMismatch => exact execTroikaMismatch_keeps rfl (Keeps.refl _ s)
  case noMajorityMismatch => exact execNoMajorityMismatch_keeps rfl (Keeps.refl _ s)
  case rejoinRequest => exact execRejoinRequest_keeps rfl (Keeps.refl _ s)
  case forcedBarrier => exact execForcedBarrier_keeps rfl (Keeps.refl _ s)
  case rejoinDone => exact execRejoinDone_keeps rfl (Keeps.refl _ s)
  case reharnessFence => exact execReharnessFence_keeps rfl (Keeps.refl _ s)
  case reharnessDone => exact execReharnessDone_keeps rfl (Keeps.refl _ s)
  case wfi => exact execWfi_keeps rfl (Keeps.refl _ s)
  case teamARelease => exact execTeamARelease_keeps rfl (Keeps.refl _ s)
  case machineTimerInterrupt => exact execMachineTimerInterrupt_keeps rfl (Keeps.refl _ s)
  case irqClaim => exact execIrqClaim_keeps rfl (Keeps.refl _ s)
  case irqComplete v => exact execIrqComplete_keeps (_v := v) rfl (Keeps.refl _ s)
  case softwareInterrupt => exact execSoftwareInterrupt_keeps rfl (Keeps.refl _ s)
  case watchdogService => exact execWatchdogService_keeps rfl (Keeps.refl _ s)
  case watchdogWarning => exact execWatchdogWarning_keeps rfl (Keeps.refl _ s)
  case watchdogExpiry => exact execWatchdogExpiry_keeps rfl (Keeps.refl _ s)
  case safetyLock => exact execSafetyLock_keeps rfl (Keeps.refl _ s)
  case clockSupervisorTrip => exact execClockSupervisorTrip_keeps rfl (Keeps.refl _ s)
  case martingaleTick => exact execMartingaleTick_keeps rfl (Keeps.refl _ s)
  case speedInvalid => exact execSpeedInvalid_keeps rfl (Keeps.refl _ s)
  case speedValid => exact execSpeedValid_keeps rfl (Keeps.refl _ s)
  case speedCrosscheckFault => exact execSpeedCrosscheckFault_keeps rfl (Keeps.refl _ s)
  case ss1RampEnd => exact execSs1RampEnd_keeps rfl (Keeps.refl _ s)
  case faultReport => exact execFaultReport_keeps rfl (Keeps.refl _ s)
  case martingaleFatalReset => exact execMartingaleFatalReset_keeps rfl (Keeps.refl _ s)
  case mgReps => exact execMgReps_keeps rfl (Keeps.refl _ s)
  case mgRepa => exact execMgRepa_keeps rfl (Keeps.refl _ s)
  case mgGtrip => exact execMgGtrip_keeps rfl (Keeps.refl _ s)
  case mgClr => exact execMgClr_keeps rfl (Keeps.refl _ s)
  case mgSelWrite => exact execMgSelWrite_keeps rfl (Keeps.refl _ s)
  case slpReferenceSet => exact execSlpReferenceSet_keeps rfl (Keeps.refl _ s)
  case moduleDischargeRequest => exact execModuleDischargeRequest_keeps rfl (Keeps.refl _ s)
  case testPulseStart => exact execTestPulseStart_keeps rfl (Keeps.refl _ s)
  case testPulseEnd => exact execTestPulseEnd_keeps rfl (Keeps.refl _ s)
  case safetyInputSample => exact execSafetyInputSample_keeps rfl (Keeps.refl _ s)
  case contactFilterExpiry => exact execContactFilterExpiry_keeps rfl (Keeps.refl _ s)
  case inputDiscrepancyTimeout => exact execInputDiscrepancyTimeout_keeps rfl (Keeps.refl _ s)
  case inputFaultRecovery => exact execInputFaultRecovery_keeps rfl (Keeps.refl _ s)
  case safetyOutputTest => exact execSafetyOutputTest_keeps rfl (Keeps.refl _ s)
  case safetyOutputTestEnd => exact execSafetyOutputTestEnd_keeps rfl (Keeps.refl _ s)
  case safetyOutputFaultClear => exact execSafetyOutputFaultClear_keeps rfl (Keeps.refl _ s)
  case selfTestStart => exact execSelfTestStart_keeps rfl (Keeps.refl _ s)
  case selfTestDone => exact execSelfTestDone_keeps rfl (Keeps.refl _ s)
  case zoneEvaluation => exact execZoneEvaluation_keeps rfl (Keeps.refl _ s)
  case eventRecordCopy => exact execEventRecordCopy_keeps rfl (Keeps.refl _ s)
  case thermalReenableRequest => exact execThermalReenableRequest_keeps rfl (Keeps.refl _ s)
  case busEnable => exact execBusEnable_keeps rfl (Keeps.refl _ s)
  case busIntegrationDone => exact execBusIntegrationDone_keeps rfl (Keeps.refl _ s)
  case frameReceived => exact execFrameReceived_keeps rfl (Keeps.refl _ s)
  case rxObjectConsume => exact execRxObjectConsume_keeps rfl (Keeps.refl _ s)
  case transmitObjectDue => exact execTransmitObjectDue_keeps rfl (Keeps.refl _ s)
  case transmitSend => exact execTransmitSend_keeps rfl (Keeps.refl _ s)
  case frameTransmitted => exact execFrameTransmitted_keeps rfl (Keeps.refl _ s)
  case frameTxFailure => exact execFrameTxFailure_keeps rfl (Keeps.refl _ s)
  case frameAbandon => exact execFrameAbandon_keeps rfl (Keeps.refl _ s)
  case busRecoveryRequest => exact execBusRecoveryRequest_keeps rfl (Keeps.refl _ s)
  case busOffRecovery => exact execBusOffRecovery_keeps rfl (Keeps.refl _ s)
  case busSupervisorTimeout => exact execBusSupervisorTimeout_keeps rfl (Keeps.refl _ s)
  case busSleep => exact execBusSleep_keeps rfl (Keeps.refl _ s)
  case busWake => exact execBusWake_keeps rfl (Keeps.refl _ s)
  case bus0WakeFrame => exact execBus0WakeFrame_keeps rfl (Keeps.refl _ s)
  case ping => exact execPing_keeps rfl (Keeps.refl _ s)
  case setMode => exact execSetMode_keeps rfl (Keeps.refl _ s)
  case capRead => exact execCapRead_keeps rfl (Keeps.refl _ s)
  case swReset => exact execSwReset_keeps rfl (Keeps.refl _ s)
  case sigRead => exact execSigRead_keeps rfl (Keeps.refl _ s)
  case sigWrite => exact execSigWrite_keeps rfl (Keeps.refl _ s)
  case sigSubscribe => exact execSigSubscribe_keeps rfl (Keeps.refl _ s)
  case sigUnsubscribe => exact execSigUnsubscribe_keeps rfl (Keeps.refl _ s)
  case setTorque => exact execSetTorque_keeps rfl (Keeps.refl _ s)
  case setSpeed => exact execSetSpeed_keeps rfl (Keeps.refl _ s)
  case setCtrlMode => exact execSetCtrlMode_keeps rfl (Keeps.refl _ s)
  case setDirection => exact execSetDirection_keeps rfl (Keeps.refl _ s)
  case setTorqueLimits => exact execSetTorqueLimits_keeps rfl (Keeps.refl _ s)
  case setChargeLimits => exact execSetChargeLimits_keeps rfl (Keeps.refl _ s)
  case setInputLimit => exact execSetInputLimit_keeps rfl (Keeps.refl _ s)
  case setSupply => exact execSetSupply_keeps rfl (Keeps.refl _ s)
  case clearLockout => exact execClearLockout_keeps rfl (Keeps.refl _ s)
  case setNetVoltage => exact execSetNetVoltage_keeps rfl (Keeps.refl _ s)
  case setLvRun => exact execSetLvRun_keeps rfl (Keeps.refl _ s)
  case lvClear => exact execLvClear_keeps rfl (Keeps.refl _ s)
  case shiftTo => exact execShiftTo_keeps rfl (Keeps.refl _ s)
  case parkReq => exact execParkReq_keeps rfl (Keeps.refl _ s)
  case clutchReq => exact execClutchReq_keeps rfl (Keeps.refl _ s)
  case pumpDemand => exact execPumpDemand_keeps rfl (Keeps.refl _ s)
  case safetyCfg => exact execSafetyCfg_keeps rfl (Keeps.refl _ s)
  case safetyClear => exact execSafetyClear_keeps rfl (Keeps.refl _ s)
  case nvmRead => exact execNvmRead_keeps rfl (Keeps.refl _ s)
  case nvmWrite => exact execNvmWrite_keeps rfl (Keeps.refl _ s)
  case fwBlock => exact execFwBlock_keeps rfl (Keeps.refl _ s)
  case fwActivate => exact execFwActivate_keeps rfl (Keeps.refl _ s)
  case sessionOpen => exact execSessionOpen_keeps rfl (Keeps.refl _ s)
  case sessionProof => exact execSessionProof_keeps rfl (Keeps.refl _ s)
  case sessionClose => exact execSessionClose_keeps rfl (Keeps.refl _ s)
  case attest => exact execAttest_keeps rfl (Keeps.refl _ s)
  case keyWrite => exact execKeyWrite_keeps rfl (Keeps.refl _ s)
  case counterRead => exact execCounterRead_keeps rfl (Keeps.refl _ s)
  case probeStart => exact execProbeStart_keeps rfl (Keeps.refl _ s)
  case traceCfg => exact execTraceCfg_keeps rfl (Keeps.refl _ s)
  case traceRead => exact execTraceRead_keeps rfl (Keeps.refl _ s)
  case bridleCommit => exact execBridleCommit_keeps rfl (Keeps.refl _ s)
  case subscriptionNotify => exact execSubscriptionNotify_keeps rfl (Keeps.refl _ s)
  case sessionIdleTimeout => exact execSessionIdleTimeout_keeps rfl (Keeps.refl _ s)
  case sessionOpenTimeout => exact execSessionOpenTimeout_keeps rfl (Keeps.refl _ s)
  case authLockEnd => exact execAuthLockEnd_keeps rfl (Keeps.refl _ s)
  case brdFwqRead => exact execBrdFwqRead_keeps rfl (Keeps.refl _ s)
  case firmwarePendingWrite => exact execFirmwarePendingWrite_keeps rfl (Keeps.refl _ s)
  case firmwareAnswer => exact execFirmwareAnswer_keeps rfl (Keeps.refl _ s)
  case firmwareAnswerTimeout => exact execFirmwareAnswerTimeout_keeps rfl (Keeps.refl _ s)
  case firmwareWorkDone => exact execFirmwareWorkDone_keeps rfl (Keeps.refl _ s)
  case bridleDisable => exact execBridleDisable_keeps rfl (Keeps.refl _ s)
  case bootConfirm => exact execBootConfirm_keeps rfl (Keeps.refl _ s)
  case imageVerify => exact execImageVerify_keeps rfl (Keeps.refl _ s)
  case imageVerifyDone => exact execImageVerifyDone_keeps rfl (Keeps.refl _ s)
  case measurementExtend => exact execMeasurementExtend_keeps rfl (Keeps.refl _ s)
  case debugChallengeRead => exact execDebugChallengeRead_keeps rfl (Keeps.refl _ s)
  case debugUnlock => exact execDebugUnlock_keeps rfl (Keeps.refl _ s)
  case debugUnlockDone => exact execDebugUnlockDone_keeps rfl (Keeps.refl _ s)
  case debugChallengeExpiry => exact execDebugChallengeExpiry_keeps rfl (Keeps.refl _ s)
  case debugReset => exact execDebugReset_keeps rfl (Keeps.refl _ s)
  case boscTrimMeasure => exact execBoscTrimMeasure_keeps rfl (Keeps.refl _ s)
  case referenceLoss => exact execReferenceLoss_keeps rfl (Keeps.refl _ s)
  case clockRampStep => exact execClockRampStep_keeps rfl (Keeps.refl _ s)
  case pllLock => exact execPllLock_keeps rfl (Keeps.refl _ s)
  case relockTimeout => exact execRelockTimeout_keeps rfl (Keeps.refl _ s)
  case referenceOk => exact execReferenceOk_keeps rfl (Keeps.refl _ s)
  case referenceReturn => exact execReferenceReturn_keeps rfl (Keeps.refl _ s)
  case clockDividerWrite => exact execClockDividerWrite_keeps rfl (Keeps.refl _ s)
  case dividerRampStep => exact execDividerRampStep_keeps rfl (Keeps.refl _ s)
  case clockGateWrite => exact execClockGateWrite_keeps rfl (Keeps.refl _ s)
  case powerRequest => exact execPowerRequest_keeps rfl (Keeps.refl _ s)
  case domainTransitionDone => exact execDomainTransitionDone_keeps rfl (Keeps.refl _ s)
  case domainReinitDone => exact execDomainReinitDone_keeps rfl (Keeps.refl _ s)
  case wakePinRise => exact execWakePinRise_keeps rfl (Keeps.refl _ s)
  case plugDetection => exact execPlugDetection_keeps rfl (Keeps.refl _ s)
  case rtcAlarm => exact execRtcAlarm_keeps rfl (Keeps.refl _ s)
  case vsupQualified => exact execVsupQualified_keeps rfl (Keeps.refl _ s)
  case startupDomainsUp => exact execStartupDomainsUp_keeps rfl (Keeps.refl _ s)
  case strapEnd => exact execStrapEnd_keeps rfl (Keeps.refl _ s)
  case stage1Entry => exact execStage1Entry_keeps rfl (Keeps.refl _ s)
  case bootFailure => exact execBootFailure_keeps rfl (Keeps.refl _ s)
  case softwareReset => exact execSoftwareReset_keeps rfl (Keeps.refl _ s)
  case warmReset => exact execWarmReset_keeps rfl (Keeps.refl _ s)
  case powerFailWarning => exact execPowerFailWarning_keeps rfl (Keeps.refl _ s)
  case brownOut => exact execBrownOut_keeps rfl (Keeps.refl _ s)
  case vbatkApplied => exact absurd rfl hc
  case btnPressWake => exact execBtnPressWake_keeps rfl (Keeps.refl _ s)
  case protocolException => exact execProtocolException_keeps rfl (Keeps.refl _ s)
  case receiveError => exact execReceiveError_keeps rfl (Keeps.refl _ s)
  case valleyLimitRelease => exact execValleyLimitRelease_keeps rfl (Keeps.refl _ s)
  case phaseCurrentZero => exact execPhaseCurrentZero_keeps rfl (Keeps.refl _ s)
  case nvmProgramDone => exact execNvmProgramDone_keeps rfl (Keeps.refl _ s)
  case doubleBitL1Error => exact execDoubleBitL1Error_keeps rfl (Keeps.refl _ s)

/-- Before VBATK_APPLIED there was no supply: it sets DTB and the RTC to 0. -/
theorem execVbatkApplied_eq (s : State) : ∃ u, Keeps (partsMask (Instr.parts .vbatkApplied)) s u ∧
    execVbatkApplied s = .next { u with dtb := 0, rtcBase := 0 } :=
  ⟨_, State.modBoot_keeps rfl (State.keeperReset_keeps rfl (State.supplyLost_keeps rfl (Keeps.refl _ _))), rfl⟩

theorem exec_same {s t : State} {c : Instr} (h : exec c s = .next t) {p : Part} (hp : p ∉ c.parts) : Part.same s t p := by
  by_cases hc : c = .vbatkApplied
  · subst hc
    obtain ⟨u, hu, he⟩ := execVbatkApplied_eq s
    obtain rfl := Host.Outcome.next.inj (he.symm.trans h)
    have hsame := hu.same p (testBit_partsMask hp)
    cases p
    case dtb => exact absurd (by decide) hp
    case rtcBase => exact absurd (by decide) hp
    all_goals exact hsame
  · exact (exec_answers s c hc t h).same p (testBit_partsMask hp)

/-- Every command leaves the queue, the variant and soundness. -/
theorem exec_keeps {s t : State} {c : Instr} (h : exec c s = .next t) :
    t.variant = s.variant ∧ t.pending = s.pending ∧ (s.Inv → t.Inv) := by
  by_cases hc : c = .vbatkApplied
  · subst hc
    exact execVbatkApplied_keeps h
  · have hk := exec_answers s c hc t h
    exact ⟨hk.variant, hk.pending, hk.inv⟩

/-- Settles O3: an idle cycle and every command keep a state sound. -/
theorem stepKeepsInvariant : Obligations.StepKeepsInvariant := by
  intro s t hs h
  unfold step at h
  split at h
  · cases h
    exact (State.idle_keeps (K := 1) rfl (Keeps.refl _ s)).inv hs
  · next c cs _ =>
    obtain ⟨-, -, hinv⟩ := exec_keeps h
    exact hinv { hs with }

/-- Settles O5: a part that the command does not list lies outside its mask. -/
theorem commandParts : Obligations.CommandParts := by
  intro s t c h
  obtain ⟨hvariant, hpending, -⟩ := exec_keeps h
  exact ⟨hpending, hvariant, fun _ hp => exec_same h hp⟩

/-- Settles O8: `Keeps` has that the RTC is not turned back. -/
theorem timeGoesOn : Obligations.TimeGoesOn := fun s t c h hc => (exec_answers s c hc t h).rtc

/-- Settles O1: `step` matches on the queue, and an idle step is one cycle. -/
theorem stepRunsFrontCommand : Obligations.StepRunsFrontCommand := by
  refine ⟨fun s c cs => rfl, fun s h => ?_⟩
  unfold step
  split
  · rfl
  · next hq => rw [h] at hq; cases hq

/-- Settles O2: soundness is `reset_inv`; the rest is read off the reset state, whose maps are empty or small. -/
theorem resetState : Obligations.ResetState := by
  refine ⟨reset_inv, rfl, fun i => ⟨rfl, rfl⟩, ?_, ?_, ?_, ?_, ?_⟩
  all_goals decide +kernel

end Sys2Proof.Machine
end

section
/-! PROOFS. The words of the Canter instructions: fields that fall from the opcode down read back, and a word decodes to one
instruction (R123, R126). -/

namespace Sys2Proof.Machine

set_option Elab.async false

/-! ## Fields of a word -/

/-- Every field lies below `top` and above the fields behind it. -/
def fieldsBelow : Nat → List Field → Bool
  | _, [] => true
  | top, f :: fs => f.lo + f.len ≤ top && fieldsBelow f.lo fs

/-- The number that fields with their values make. -/
def fieldsNat : List (Field × Nat) → Nat
  | [] => 0
  | f :: fs => f.2 % 2 ^ f.1.len * 2 ^ f.1.lo + fieldsNat fs

theorem foldl_eq_fieldsNat (fs : List (Field × Nat)) (a : Nat) :
    fs.foldl (fun acc f => acc + f.2 % 2 ^ f.1.len * 2 ^ f.1.lo) a = a + fieldsNat fs := by
  induction fs generalizing a with
  | nil => rfl
  | cons f fs ih => rw [List.foldl_cons, ih, fieldsNat, Nat.add_assoc]

theorem fieldsNat_lt {top : Nat} {fs : List (Field × Nat)} (h : fieldsBelow top (fs.map Prod.fst) = true) : fieldsNat fs < 2 ^ top := by
  induction fs generalizing top with
  | nil => exact Nat.two_pow_pos top
  | cons f fs ih =>
    simp only [List.map_cons, fieldsBelow, Bool.and_eq_true, decide_eq_true_eq] at h
    obtain ⟨htop, hbelow⟩ := h
    calc fieldsNat (f :: fs) < f.2 % 2 ^ f.1.len * 2 ^ f.1.lo + 2 ^ f.1.lo := Nat.add_lt_add_left (ih hbelow) _
      _ = (f.2 % 2 ^ f.1.len + 1) * 2 ^ f.1.lo := (Nat.succ_mul _ _).symm
      _ ≤ 2 ^ f.1.len * 2 ^ f.1.lo := Nat.mul_le_mul_right _ (Nat.mod_lt _ (Nat.two_pow_pos _))
      _ = 2 ^ (f.1.lo + f.1.len) := by rw [Nat.mul_comm, Nat.pow_add]
      _ ≤ 2 ^ top := Nat.pow_le_pow_right (by decide) htop

/-- What lies above a field does not show in it. -/
theorem above_div_mod {lo len hi : Nat} (h : lo + len ≤ hi) (a x : Nat) :
    (a * 2 ^ hi + x) / 2 ^ lo % 2 ^ len = x / 2 ^ lo % 2 ^ len := by
  obtain ⟨k, rfl⟩ := Nat.exists_eq_add_of_le h
  have hsplit : a * 2 ^ (lo + len + k) + x = x + 2 ^ lo * (2 ^ len * (a * 2 ^ k)) := by rw [Nat.pow_add, Nat.pow_add]; ring
  rw [hsplit, Nat.add_mul_div_left _ _ (Nat.two_pow_pos _), Nat.add_mul_mod_self_left]

theorem fieldsBelow_mem {top : Nat} {fs : List Field} (h : fieldsBelow top fs = true) : ∀ f ∈ fs, f.lo + f.len ≤ top := by
  induction fs generalizing top with
  | nil => intro f hf; cases hf
  | cons g fs ih =>
    simp only [fieldsBelow, Bool.and_eq_true, decide_eq_true_eq] at h
    obtain ⟨htop, hbelow⟩ := h
    intro f hf
    rcases List.mem_cons.mp hf with rfl | hf
    · exact htop
    · have := ih hbelow f hf
      omega

/-- A field of falling fields reads its value. -/
theorem fieldsNat_read {top : Nat} {fs : List (Field × Nat)} (h : fieldsBelow top (fs.map Prod.fst) = true) :
    ∀ f ∈ fs, f.2 < 2 ^ f.1.len → fieldsNat fs / 2 ^ f.1.lo % 2 ^ f.1.len = f.2 := by
  induction fs generalizing top with
  | nil => intro f hf; cases hf
  | cons g fs ih =>
    simp only [List.map_cons, fieldsBelow, Bool.and_eq_true, decide_eq_true_eq] at h
    obtain ⟨-, hbelow⟩ := h
    intro f hf hfit
    rcases List.mem_cons.mp hf with rfl | hf
    · rw [fieldsNat, Nat.add_comm, Nat.add_mul_div_right _ _ (Nat.two_pow_pos _), Nat.div_eq_of_lt (fieldsNat_lt hbelow),
        Nat.zero_add, Nat.mod_mod, Nat.mod_eq_of_lt hfit]
    · rw [fieldsNat, above_div_mod (fieldsBelow_mem hbelow f.1 (List.mem_map_of_mem hf))]
      exact ih hbelow f hf hfit

/-! ## Words of instructions -/

theorem canFields_below {op : Nat} {L : List Field} (h : canFields op = some L) : op < 64 ∧ fieldsBelow 26 L = true := by
  unfold canFields at h
  split at h <;> cases h
  all_goals decide

section
variable {op : Nat} {fs : List (Field × Nat)}

theorem canWord_toNat (h : canFields op = some (fs.map Prod.fst)) : (canWord op fs).toNat = op * 2 ^ 26 + fieldsNat fs := by
  obtain ⟨hop, hbelow⟩ := canFields_below h
  have hlt := fieldsNat_lt hbelow
  have hword : (canWord op fs).toNat = (op * 2 ^ 26 + fieldsNat fs) % 2 ^ 32 := by
    unfold canWord W
    rw [foldl_eq_fieldsNat, BitVec.toNat_ofNat, Nat.zero_add]
  rw [hword, Nat.mod_eq_of_lt (by omega)]

theorem canOp_canWord (h : canFields op = some (fs.map Prod.fst)) : canOp (canWord op fs) = op := by
  obtain ⟨-, hbelow⟩ := canFields_below h
  unfold canOp
  rw [canWord_toNat h, Nat.add_comm, Nat.add_mul_div_right _ _ (Nat.two_pow_pos _), Nat.div_eq_of_lt (fieldsNat_lt hbelow), Nat.zero_add]

theorem get_canWord (h : canFields op = some (fs.map Prod.fst)) {f : Field × Nat} (hf : f ∈ fs) (hfit : f.2 < 2 ^ f.1.len) :
    Word.get (canWord op fs) f.1 = f.2 := by
  obtain ⟨-, hbelow⟩ := canFields_below h
  unfold Word.get
  rw [canWord_toNat h, above_div_mod (fieldsBelow_mem hbelow f.1 (List.mem_map_of_mem hf))]
  exact fieldsNat_read hbelow f hf hfit

/-- The operand fields of a word with their values are those it was made of. -/
theorem map_get_canWord (h : canFields op = some (fs.map Prod.fst)) (hfit : ∀ f ∈ fs, f.2 < 2 ^ f.1.len) :
    (fs.map Prod.fst).map (fun f => (f, Word.get (canWord op fs) f)) = fs := by
  rw [List.map_map]
  refine (List.map_congr_left fun f hf => ?_).trans (List.map_id fs)
  rw [Function.comp_apply, get_canWord h hf (hfit f hf), id]

theorem canLegal_of_fields {w : Word} {L : List Field} (h : canFields (canOp w) = some L)
    (hw : w = canWord (canOp w) (L.map (fun f => (f, Word.get w f)))) : canLegal w = true := by
  unfold canLegal
  rw [h]
  exact decide_eq_true hw

theorem canLegal_canWord (h : canFields op = some (fs.map Prod.fst)) (hfit : ∀ f ∈ fs, f.2 < 2 ^ f.1.len) :
    canLegal (canWord op fs) = true := by
  refine canLegal_of_fields (L := fs.map Prod.fst) (by rw [canOp_canWord h, h]) ?_
  rw [canOp_canWord h, map_get_canWord h hfit]

theorem canWord_injective {m n : Nat} {gs : List (Field × Nat)} (hf : canFields m = some (fs.map Prod.fst))
    (hg : canFields n = some (gs.map Prod.fst)) (hfit : ∀ f ∈ fs, f.2 < 2 ^ f.1.len) (hgit : ∀ g ∈ gs, g.2 < 2 ^ g.1.len)
    (h : canWord m fs = canWord n gs) : m = n ∧ fs = gs := by
  obtain rfl : m = n := by rw [← canOp_canWord hf, h, canOp_canWord hg]
  have hmap : fs.map Prod.fst = gs.map Prod.fst := Option.some.inj (hf.symm.trans hg)
  refine ⟨rfl, ?_⟩
  rw [← map_get_canWord hf hfit, ← map_get_canWord hg hgit, h, hmap]

end

/-! ## Instructions of words -/

/-- The Canter instruction of an opcode and its operands. -/
def canterOf (e l : Nat) : Nat → List Nat → Option Instr
  | 0x00, [] => some (.canNop e l)
  | 0x01, [] => some (.canEnd e l)
  | 0x02, [cond, r, n] => some (.canSkip e l cond r n)
  | 0x03, [x, y] => some (.canCmp e l x y)
  | 0x04, [x] => some (.canTst e l x)
  | 0x08, [d, imm] => some (.canLdi e l d imm)
  | 0x09, [d, x] => some (.canMov e l d x)
  | 0x0A, [d, x, y] => some (.canAdd e l d x y)
  | 0x0B, [d, x, y] => some (.canSub e l d x y)
  | 0x0C, [d, x] => some (.canNeg e l d x)
  | 0x0D, [d, x] => some (.canAbs e l d x)
  | 0x0E, [d, x, y] => some (.canMin e l d x y)
  | 0x0F, [d, x, y] => some (.canMax e l d x y)
  | 0x10, [d, x, lo, hi] => some (.canLim e l d x lo hi)
  | 0x11, [d, x, k] => some (.canShf e l d x k)
  | 0x12, [d, x, y] => some (.canAddw e l d x y)
  | 0x14, [a, x, y] => some (.canMul e l a x y)
  | 0x15, [a, x, y] => some (.canMac e l a x y)
  | 0x16, [a, x, y] => some (.canMsu e l a x y)
  | 0x17, [a, x, k] => some (.canMulc e l a x k)
  | 0x18, [a, x, k] => some (.canMacc e l a x k)
  | 0x19, [a, x, y] => some (.canDmac e l a x y)
  | 0x1A, [a, x, y] => some (.canDot e l a x y)
  | 0x1B, [a, x] => some (.canLda e l a x)
  | 0x1C, [a, b] => some (.canAdda e l a b)
  | 0x1D, [a, b] => some (.canSuba e l a b)
  | 0x1E, [a, k] => some (.canSha e l a k)
  | 0x1F, [d, a] => some (.canSt e l d a)
  | 0x20, [d, x] => some (.canSincos e l d x)
  | 0x21, [d, x, y, th] => some (.canPark e l d x y th)
  | 0x22, [d, x, y, th] => some (.canIpark e l d x y th)
  | 0x23, [d, x, y] => some (.canClarke e l d x y)
  | 0x24, [d, x, y] => some (.canSvm e l d x y)
  | 0x25, [d, x, y] => some (.canDiv e l d x y)
  | 0x26, [d, x] => some (.canSqrt e l d x)
  | 0x28, [d, x, t] => some (.canTlu e l d x t)
  | 0x29, [d, x, y, t] => some (.canTlt e l d x y t)
  | 0x2A, [d, k] => some (.canLdk e l d k)
  | 0x2C, [d, sg] => some (.canLds e l d sg)
  | 0x2D, [d, sg] => some (.canSts e l d sg)
  | 0x2E, [d, k] => some (.canLdc e l d k)
  | 0x2F, [d, k] => some (.canLdu e l d k)
  | 0x30, [u, k] => some (.canUrg e l u k)
  | 0x31, [n, x, g, k] => some (.canInt e l n x g k)
  | 0x34, [k, x] => some (.canOutd e l k x)
  | 0x35, [k, a] => some (.canOutc e l k a)
  | 0x38, [d, k] => some (.canPrd e l d k)
  | 0x39, [b, k, lo, hi] => some (.canBnd e l b k lo hi)
  | 0x3A, [] => some (.canSel e l)
  | 0x3B, [d, x, g, k] => some (.canCorr e l d x g k)
  | _, _ => none

section
variable {c : Instr} {e l op : Nat} {fs : List (Field × Nat)}

theorem canFields_of_canter (h : c.canter = some (e, l, op, fs)) : canFields op = some (fs.map Prod.fst) := by
  unfold Instr.canter at h
  split at h <;> cases h
  all_goals rfl

theorem canterOf_canter (h : c.canter = some (e, l, op, fs)) : canterOf e l op (fs.map Prod.snd) = some c := by
  unfold Instr.canter at h
  split at h <;> cases h
  all_goals rfl

/-- An instruction of a Canter engine runs as the next one of its section. -/
theorem exec_of_canter (h : c.canter = some (e, l, op, fs)) (s : State) : ∃ f, exec c s = canRun e l op fs s f := by
  unfold Instr.canter at h
  split at h <;> cases h
  all_goals exact ⟨_, rfl⟩

theorem wf_of_canter (h : c.canter = some (e, l, op, fs)) : c.wf = (e < 12 && l < 4 && fs.all (fun f => f.2 < 2 ^ f.1.len)) := by
  unfold Instr.canter at h
  split at h <;> cases h
  all_goals rw [Bool.eq_iff_iff]
  all_goals simp only [Instr.wf, accWord, accCoef, List.all_cons, List.all_nil, Bool.and_eq_true, decide_eq_true_eq]
  all_goals simp [and_assoc, fD, fX, fY, fZ, fImm, fA, fAx, fAy, fC, fB, fS6, fSa, fCond, fR, fN, fT, fSig, fK, fU, fE, fKo, fAo, fBb, fKb]

end

/-- Settles O12: the operand fields fall from bit 25 down, so each reads back, and the word gives opcode and operands. -/
theorem canterWords : Obligations.CanterWords := by
  refine ⟨fun c e l op fs hc hfit => ?_, fun c d e l m n fs gs hc hd hfit hgit hword => ?_⟩
  · have hfields := canFields_of_canter hc
    exact ⟨canLegal_canWord hfields hfit, canOp_canWord hfields, fun f hf => get_canWord hfields hf (hfit f hf)⟩
  · obtain ⟨rfl, rfl⟩ := canWord_injective (canFields_of_canter hc) (canFields_of_canter hd) hfit hgit hword
    exact Option.some.inj ((canterOf_canter hc).symm.trans (canterOf_canter hd))

end Sys2Proof.Machine
end

section
/-! PROOFS. A command whose operands name units of the module completes, and any other is stopped (log 29). -/

namespace Sys2Proof.Machine

set_option Elab.async false

/-- A command answers a next state if it is well-formed, and names no unit of the module otherwise. -/
theorem exec_ofUnit (s : State) (c : Instr) : ∃ t, exec c s = ofUnit c.wf t := by
  cases hcan : c.canter with
  | some x =>
    obtain ⟨e, l, op, fs⟩ := x
    obtain ⟨f, hf⟩ := exec_of_canter hcan s
    exact ⟨_, by rw [hf, wf_of_canter hcan]; rfl⟩
  | none =>
    cases c
    case martingaleTick =>
      rw [exec_martingaleTick]
      unfold execMartingaleTick
      dsimp only
      split <;> exact ⟨_, rfl⟩
    all_goals
      conv at hcan => lhs; whnf
      cases hcan
    all_goals exact ⟨_, rfl⟩

/-- Settles O4: the outcome of every command is `ofUnit` of its well-formedness. -/
theorem wellFormedCompletes : Obligations.WellFormedCompletes := by
  intro s c
  obtain ⟨t, ht⟩ := exec_ofUnit s c
  exact ⟨fun h => ⟨t, by rw [ht, h]; rfl⟩, fun h => by rw [ht, h]; rfl⟩

end Sys2Proof.Machine
end

section
/-! PROOFS. The bytes of a Bridle request parse to that request (R460-R463). -/

namespace Sys2Proof.Machine

set_option Elab.async false

open Sys2Proof.Crypto (beBytes beNat)

theorem beBytes_length (n v : Nat) : (beBytes n v).length = n := by
  induction n generalizing v with
  | zero => rfl
  | succ n ih => rw [beBytes, List.length_append, ih, List.length_singleton]

theorem beNat_append_singleton (l : List Byte) (b : Byte) : beNat (l ++ [b]) = beNat l * 256 + b.toNat := by
  unfold beNat
  rw [List.foldl_append]
  rfl

/-- A number reads back from its bytes, modulo what they hold. -/
theorem beNat_beBytes (n v : Nat) : beNat (beBytes n v) = v % 256 ^ n := by
  induction n generalizing v with
  | zero => rw [Nat.pow_zero, Nat.mod_one]; rfl
  | succ n ih =>
    have hsplit : v % 256 ^ (n + 1) = v % 256 + 256 * (v / 256 % 256 ^ n) := by rw [Nat.pow_succ', Nat.mod_mul]
    rw [beBytes, beNat_append_singleton, ih, BitVec.toNat_ofNat, hsplit, Nat.add_comm, Nat.mul_comm]

/-- What `beAt` reads behind as many bytes as its offset. -/
theorem beAt_append {a : List Byte} {i n v : Nat} (ha : a.length = i) (hv : v < 256 ^ n) (b : List Byte) :
    beAt (a ++ (beBytes n v ++ b)) i n = v := by
  unfold beAt
  rw [List.drop_left' ha, List.take_left' (beBytes_length n v), beNat_beBytes, Nat.mod_eq_of_lt hv]

theorem beBytes_one (v : Nat) : beBytes 1 v = [BitVec.ofNat 8 v] := rfl

section
variable {n seq opcode : Nat} {conf : Bool} {params : List Byte}

/-- The flag byte of a request. -/
def requestFlags (conf : Bool) : Nat := if conf then 0x21 else 0x01

/-- The ten bytes in front of the parameters (R461). -/
def requestHead (n seq opcode : Nat) (conf : Bool) (len : Nat) : List Byte :=
  beBytes 1 (requestFlags conf) ++ (beBytes 1 n ++ (beBytes 2 opcode ++ (beBytes 4 seq ++ (beBytes 2 len ++ []))))

theorem requestHead_length {len : Nat} : (requestHead n seq opcode conf len).length = 10 := by
  simp only [requestHead, List.length_append, beBytes_length, List.length_nil]

theorem requestBytes_eq (mac : List Byte) : requestBytes n seq opcode conf params mac =
    requestHead n seq opcode conf params.length ++ (params ++ if n = 0 then [] else mac) := by
  unfold requestBytes requestHead requestFlags
  rw [beBytes_one, beBytes_one]
  cases conf <;> simp

theorem beAt_requestHead {len : Nat} (hn : n ≤ 8) (hseq : seq < 2 ^ 32) (hop : opcode < 2 ^ 16) (hlen : len < 2 ^ 16) (b : List Byte) :
    let d := requestHead n seq opcode conf len ++ b
    beAt d 0 1 = requestFlags conf ∧ beAt d 1 1 = n ∧ beAt d 2 2 = opcode ∧ beAt d 4 4 = seq ∧ beAt d 8 2 = len := by
  have hfl : requestFlags conf < 256 ^ 1 := by cases conf <;> decide
  intro d
  have hd : d = requestHead n seq opcode conf len ++ b := rfl
  simp only [requestHead, List.append_assoc] at hd
  refine ⟨?_, ?_, ?_, ?_, ?_⟩ <;> rw [hd]
  · exact beAt_append (a := []) rfl hfl _
  · exact beAt_append (beBytes_length 1 _) (by omega) _
  · rw [← List.append_assoc (beBytes 1 _)]
    exact beAt_append (by simp only [List.length_append, beBytes_length]) (by omega) _
  · rw [← List.append_assoc (beBytes 1 _), ← List.append_assoc _ (beBytes 2 opcode)]
    exact beAt_append (by simp only [List.length_append, beBytes_length]) (by omega) _
  · rw [← List.append_assoc (beBytes 1 _), ← List.append_assoc _ (beBytes 2 opcode), ← List.append_assoc _ (beBytes 4 seq)]
    exact beAt_append (by simp only [List.length_append, beBytes_length]) (by omega) _

end

/-- Settles O48: the fields of the head read back, and the head's length says where parameters and MAC end. -/
theorem requestParses : Obligations.RequestParses := by
  intro p n seq opcode tEnd conf xl params mac pad hn hseq hop hlen hmac
  obtain ⟨hfl, hn', hop', hseq', hlen'⟩ := beAt_requestHead (conf := conf) hn hseq hop (by omega : params.length < 2 ^ 16)
    ((params ++ if n = 0 then [] else mac) ++ pad)
  have htail : (if n = 0 then [] else mac).length = if n = 0 then 0 else 8 := by
    split
    · rfl
    · next h0 => exact hmac h0
  have hflags : requestFlags conf % 16 = 1 ∧ bit (requestFlags conf) 7 = false ∧ bit (requestFlags conf) 6 = false ∧
      bit (requestFlags conf) 4 = false ∧ bit (requestFlags conf) 5 = conf := by cases conf <;> decide
  obtain ⟨hver, h7, h6, h4, h5⟩ := hflags
  have hbody : requestBytes n seq opcode conf params [] = requestHead n seq opcode conf params.length ++ params := by
    rw [requestBytes_eq, ite_self, List.append_nil]
  rw [requestBytes_eq, List.append_assoc, hbody]
  unfold parseRequest
  simp only [hfl, hn', hop', hseq', hlen', hver, h7, h6, h4, h5]
  have hsize : ¬ (requestHead n seq opcode conf params.length ++ ((params ++ if n = 0 then [] else mac) ++ pad)).length <
      10 + params.length + if n = 0 then 0 else 8 := by
    simp only [List.length_append, requestHead_length, htail]
    omega
  rw [if_neg (by
    simp only [List.length_append, requestHead_length, htail] at hsize ⊢
    simp
    omega)]
  have hdrop : (requestHead n seq opcode conf params.length ++ ((params ++ if n = 0 then [] else mac) ++ pad)).drop 10 =
      params ++ ((if n = 0 then [] else mac) ++ pad) := by rw [List.drop_left' requestHead_length, List.append_assoc]
  have htake : (requestHead n seq opcode conf params.length ++ ((params ++ if n = 0 then [] else mac) ++ pad)).take (10 + params.length) =
      requestHead n seq opcode conf params.length ++ params := by
    rw [← List.append_assoc, ← List.append_assoc, List.append_assoc _ _ pad]
    exact List.take_left' (by rw [List.length_append, requestHead_length])
  rw [htake, ← List.drop_drop, hdrop, List.take_left, List.drop_left, List.take_left' htail]

end Sys2Proof.Machine
end

section
/-! PROOFS. Canter instructions that write data registers and accumulators (R113-R116, R120, R126, R605). -/

namespace Sys2Proof.Machine

set_option Elab.async false

variable {s : State} {e l : Nat}

/-! ## Register writes -/

section
variable {r : State} {sel : BankSel} {d k : Nat} {v w : Int} {a b : Bool}

/-- A write of another register leaves a register. -/
theorem holds_dSet_other (hr : r.Inv) (he : e < 12) (hl : l < 4) (hk : k ≠ d) (h : Holds r e l sel d v a) :
    Holds (r.dSet e l sel k w b) e l sel d v a := by
  obtain ⟨hval, htag⟩ := h
  unfold Holds State.dTag at *
  rw [file_dSet hr he hl]
  refine ⟨Eq.trans ?_ hval, Eq.trans ?_ htag⟩
  · simp [Bank.write, List.getD_eq_getElem?_getD, List.getElem?_set_ne hk]
  · simp [Bank.write, List.getD_eq_getElem?_getD, List.getElem?_set_ne hk]

theorem dSet_inv (hr : r.Inv) : (r.dSet e l sel k v a).Inv := (State.dSet_keeps (K := 8194) rfl (Keeps.refl _ r)).inv hr

theorem length_file_dSet (hr : r.Inv) (he : e < 12) (hl : l < 4) :
    ((((r.dSet e l sel k v a).ceAt e).file l sel).d.length = ((r.ceAt e).file l sel).d.length) ∧
      ((((r.dSet e l sel k v a).ceAt e).file l sel).tag.length = ((r.ceAt e).file l sel).tag.length) := by
  rw [file_dSet hr he hl]
  exact ⟨List.length_set, List.length_set⟩

end

section
variable {op t : Nat} {fs : List (Field × Nat)} {w : Word} {c : Section} {u : CanUse} {i : Instr}

theorem dTag_issue (hs : s.Inv) (he : e < 12) (hl : l < 4) (sel : BankSel) (x : Nat) :
    (s.issue e l w c t).dTag e l sel x = s.dTag e l sel x := by
  unfold State.dTag
  rw [file_issue hs he hl]

theorem Issues.dx (h : Issues s e l op fs c t) (hs : s.Inv) (x : Nat) :
    (s.issue e l w c t).dx e l (c.next u t) x = s.dx e l c x := dx_issue hs h.slot.1 h.slot.2 x

theorem Issues.acc (h : Issues s e l op fs c t) (hs : s.Inv) (x : Nat) : (s.issue e l w c t).acc e x = s.acc e x :=
  acc_issue hs h.slot.1 x

/-- An instruction that writes one register issues, and the register holds the value and the tag. -/
theorem Issues.runs_writes (h : Issues s e l op fs c t) (hs : s.Inv) {d : Nat} (hd : d < 64) {v : State → Section → Int × Bool}
    (hi : exec i s = canRun e l op fs s (writes e l d v)) (r : Int × Bool)
    (hv : v (s.issue e l (canWord op fs) c t) (c.next (s.useOf e l (canWord op fs)) t) = r) :
    Runs i s fun u => Issued s e l c t u ∧ Holds u e l c.sel d r.1 r.2 := by
  obtain ⟨he, hl⟩ := h.slot
  refine h.runs hi ?_
  dsimp only [writes]
  rw [hv]
  exact ⟨issued_dSet he hl (issue_inv hs) issue_dtb (sec_issue hs he hl), h.dSet_holds (issue_inv hs) (file_issue hs he hl _) hd _ _⟩

/-- An instruction that writes a register pair issues, and both registers hold their values and tags. -/
theorem Issues.runs_writesPair (h : Issues s e l op fs c t) (hs : s.Inv) {d : Nat} (hd : d < 63)
    {v : State → Section → (Int × Bool) × (Int × Bool)} (hi : exec i s = canRun e l op fs s (writesPair e l d v))
    (r : (Int × Bool) × (Int × Bool)) (hv : v (s.issue e l (canWord op fs) c t) (c.next (s.useOf e l (canWord op fs)) t) = r) :
    Runs i s fun u => Issued s e l c t u ∧ Holds u e l c.sel d r.1.1 r.1.2 ∧ Holds u e l c.sel (d + 1) r.2.1 r.2.2 := by
  obtain ⟨he, hl⟩ := h.slot
  have hinv := issue_inv (e := e) (l := l) (w := canWord op fs) (c := c) (t := t) hs
  refine h.runs hi ?_
  dsimp only [writesPair]
  rw [hv, Section.next_sel]
  have hfst := h.dSet_holds hinv (file_issue hs he hl c.sel) (by omega : d < 64) r.1.1 r.1.2
  refine ⟨issued_dSet he hl (dSet_inv hinv) (dSet_dtb.trans issue_dtb) ((lawAt_dSet_sec hinv he hl).trans (sec_issue hs he hl)),
    holds_dSet_other (dSet_inv hinv) he hl (by omega) hfst, ?_⟩
  obtain ⟨hdlen, htlen⟩ := length_file_dSet (sel := c.sel) (k := d) (v := r.1.1) (a := r.1.2) hinv he hl
  obtain ⟨hd64, ht64⟩ := h.file
  exact Machine.dSet_holds (dSet_inv hinv) he hl (by rw [hdlen, file_issue hs he hl, hd64]; omega)
    (by rw [htlen, file_issue hs he hl, ht64]; omega)

end

/-! ## Values -/

/-- A register takes an integer modulo 2^16. -/
theorem ofInt_sx_ux (z : Int) : BitVec.ofInt 16 (sx 16 (ux 16 z)) = BitVec.ofInt 16 z := by
  have hux : ((ux 16 z : Nat) : Int) = z % 65536 := Int.toNat_of_nonneg (Int.emod_nonneg _ (by decide))
  have hsx : sx 16 (ux 16 z) % 65536 = z % 65536 := by
    unfold sx
    dsimp only
    split <;> omega
  apply BitVec.eq_of_toNat_eq
  rw [BitVec.toNat_ofInt, BitVec.toNat_ofInt]
  exact congrArg Int.toNat hsx

theorem holds_sx_ux {r : State} {sel : BankSel} {d : Nat} {z : Int} {a : Bool} (h : Holds r e l sel d (sx 16 (ux 16 z)) a) :
    Holds r e l sel d z a := by
  unfold Holds at *
  rwa [ofInt_sx_ux] at h

theorem natAbs_eq_ite (x : Int) : (x.natAbs : Int) = if x < 0 then -x else x := by split <;> omega

theorem shfQ_eq (x k : Int) :
    shfQ x k = satTag (if 0 ≤ k then x * 2 ^ k.toNat else (x + 2 ^ ((-k).toNat - 1)) / 2 ^ (-k).toNat) := by
  unfold shfQ satTag rnd
  split <;> rfl

/-- Settles O14: each is one register write of a value of the operands, which the issue leaves. -/
theorem canterData : Obligations.CanterData := by
  intro s e l c tt hs
  refine ⟨fun d imm hd h => ?ldi, fun d x hd h => ?mov, fun d x y hd h => ?add, fun d x y hd h => ?sub, fun d x hd h => ?neg,
    fun d x hd h => ?abs, fun d x y hd h => ?min, fun d x y hd h => ?max, fun d x lo hi hd h => ?lim, fun d x k hd hk h => ?shf,
    fun d x y hd h => ?addw, fun d k hd hk h => ?ldk⟩
  case ldi => exact h.runs_writes hs hd (exec_canLdi s) (sx 16 imm, false) rfl
  case mov =>
    refine h.runs_writes hs hd (exec_canMov s) (s.dx e l c x, s.dTag e l c.sel x) ?_
    rw [h.dx hs, Section.next_sel, dTag_issue hs h.slot.1 h.slot.2]
  case add => exact h.runs_writes hs hd (exec_canAdd s) (satTag (s.dx e l c x + s.dx e l c y)) (by rw [h.dx hs, h.dx hs])
  case sub => exact h.runs_writes hs hd (exec_canSub s) (satTag (s.dx e l c x - s.dx e l c y)) (by rw [h.dx hs, h.dx hs])
  case neg => exact h.runs_writes hs hd (exec_canNeg s) (satTag (-s.dx e l c x)) (by rw [h.dx hs])
  case abs => exact h.runs_writes hs hd (exec_canAbs s) (satTag (if s.dx e l c x < 0 then -s.dx e l c x else s.dx e l c x)) (by rw [h.dx hs, natAbs_eq_ite])
  case min => exact h.runs_writes hs hd (exec_canMin s) (if s.dx e l c x ≤ s.dx e l c y then s.dx e l c x else s.dx e l c y, false) (by rw [h.dx hs, h.dx hs, min_def])
  case max => exact h.runs_writes hs hd (exec_canMax s) (if s.dx e l c x ≤ s.dx e l c y then s.dx e l c y else s.dx e l c x, false) (by rw [h.dx hs, h.dx hs, max_def])
  case lim =>
    exact h.runs_writes hs hd (exec_canLim s)
      (min (max (s.dx e l c x) (s.dx e l c lo)) (s.dx e l c hi), min (max (s.dx e l c x) (s.dx e l c lo)) (s.dx e l c hi) ≠ s.dx e l c x) (by rw [h.dx hs, h.dx hs, h.dx hs])
  case shf =>
    exact h.runs_writes hs hd (exec_canShf s)
      (satTag (if 0 ≤ sx 6 k then s.dx e l c x * 2 ^ (sx 6 k).toNat else (s.dx e l c x + 2 ^ ((-sx 6 k).toNat - 1)) / 2 ^ (-sx 6 k).toNat)) (by rw [h.dx hs, shfQ_eq])
  case addw =>
    obtain ⟨t, ht, hissued, hholds⟩ := h.runs_writes hs hd (exec_canAddw s) (sx 16 (ux 16 (s.dx e l c x + s.dx e l c y)), false)
      (by rw [h.dx hs, h.dx hs])
    exact ⟨t, ht, hissued, holds_sx_ux hholds⟩
  case ldk => exact h.runs_writes hs hd (exec_canLdk s) (s.coef e k, false) (by rw [issue_coef])

/-! ## Accumulators (R114) -/

section
variable {r : State} {a b : Nat} {z y : Int}

theorem putAcc_inv (hr : r.Inv) : (r.putAcc e l a z).Inv := (State.putAcc_keeps (K := 8194) rfl (Keeps.refl _ r)).inv hr

@[simp] theorem putAcc_dtb : (r.putAcc e l a z).dtb = r.dtb := (State.putAcc_keeps (K := 8194) rfl (Keeps.refl _ r)).dtb rfl

theorem ceAt_putAcc (hr : r.Inv) (he : e < 12) :
    (r.putAcc e l a z).ceAt e = { r.ceAt e with acc := (r.ceAt e).acc.set a (BitVec.ofInt 40 (satAcc z).1) } := by
  rw [← ceAt_modCe_same (f := fun c => { c with acc := c.acc.set a (BitVec.ofInt 40 (satAcc z).1) }) hr he]
  unfold State.putAcc
  dsimp only
  split <;> rfl

theorem lawAt_putAcc (hr : r.Inv) (he : e < 12) : (r.putAcc e l a z).lawAt e l = r.lawAt e l := by
  unfold State.lawAt
  rw [ceAt_putAcc hr he]

/-- The flag of a saturation, once set, stays. -/
theorem on_sat_putAcc (hr : r.Inv) (h : r.on (Reg.LAW_STAT e l) Fld.LAW_STAT_sat = true ∨ (satAcc z).2 = true) :
    (r.putAcc e l a z).on (Reg.LAW_STAT e l) Fld.LAW_STAT_sat = true := by
  unfold State.putAcc
  dsimp only
  split
  · exact decide_eq_true ((fld_setf_same (modCe_inv hr) (by decide)).trans_ne (by decide))
  · next hno =>
    rcases h with h | h
    · exact h
    · exact absurd h hno

theorem satAcc_saturates (h : z < -(2 ^ 39) ∨ 2 ^ 39 ≤ z) : (satAcc z).2 = true := by
  unfold satAcc sat
  rw [decide_eq_true_eq]
  split
  · omega
  · split <;> omega

theorem accumulates_putAcc (hr : r.Inv) (he : e < 12) (ha : a < (r.ceAt e).acc.length) : Accumulates (r.putAcc e l a z) e l a z := by
  refine ⟨?_, fun h => on_sat_putAcc hr (.inr (satAcc_saturates h))⟩
  rw [ceAt_putAcc hr he]
  simp [List.getD_eq_getElem?_getD, ha, satAcc]

theorem accumulates_putAcc_other (hr : r.Inv) (he : e < 12) (hab : a ≠ b) (h : Accumulates r e l a z) :
    Accumulates (r.putAcc e l b y) e l a z := by
  obtain ⟨hacc, hsat⟩ := h
  refine ⟨?_, fun h => on_sat_putAcc hr (.inl (hsat h))⟩
  rw [ceAt_putAcc hr he, ← hacc]
  simp [List.getD_eq_getElem?_getD, List.getElem?_set_ne hab.symm]

theorem acc_putAcc_other (hr : r.Inv) (he : e < 12) (hab : a ≠ b) : (r.putAcc e l b y).acc e a = r.acc e a := by
  unfold State.acc
  rw [ceAt_putAcc hr he]
  simp [List.getD_eq_getElem?_getD, List.getElem?_set_ne hab.symm]

theorem length_acc_putAcc (hr : r.Inv) (he : e < 12) : ((r.putAcc e l a z).ceAt e).acc.length = (r.ceAt e).acc.length := by
  rw [ceAt_putAcc hr he]
  exact List.length_set

theorem dx_putAcc (hr : r.Inv) (he : e < 12) (c : Section) (x : Nat) : (r.putAcc e l a z).dx e l c x = r.dx e l c x := by
  unfold State.dx State.dGet
  rw [ceAt_putAcc hr he]
  cases c.sel <;> rfl

end

section
variable {op t : Nat} {fs : List (Field × Nat)} {w : Word} {c : Section} {u : CanUse} {i : Instr}

theorem length_acc_issue (hs : s.Inv) (he : e < 12) : ((s.issue e l w c t).ceAt e).acc.length = (s.ceAt e).acc.length := by
  unfold State.issue
  rw [ceAt_modLaw_same (setPort_inv (reach_inv hs)) he, ceAt_modCe_same (reach_inv hs) he]
  rfl

theorem Issues.accumulator (h : Issues s e l op fs c t) (hs : s.Inv) {a : Nat} (ha : a < 4) :
    a < ((s.issue e l w c t).ceAt e).acc.length := by
  rw [length_acc_issue hs h.slot.1, h.accs]
  exact ha

theorem Issues.issued_putAcc (h : Issues s e l op fs c t) {r : State} (hr : r.Inv) (hd : r.dtb = max s.dtb t)
    (hsec : (r.lawAt e l).sec = some (c.next u t)) {a : Nat} {z : Int} : Issued s e l c t (r.putAcc e l a z) :=
  issued_of_next (putAcc_dtb.trans hd) (by rw [lawAt_putAcc hr h.slot.1]; exact hsec)

/-- An instruction that writes one accumulator issues, and the accumulator holds the sum. -/
theorem Issues.runs_putAcc (h : Issues s e l op fs c t) (hs : s.Inv) {a : Nat} (ha : a < 4) {v : State → Section → Int}
    (hi : exec i s = canRun e l op fs s (fun s c _ => s.putAcc e l a (v s c))) (z : Int)
    (hv : v (s.issue e l (canWord op fs) c t) (c.next (s.useOf e l (canWord op fs)) t) = z) :
    Runs i s fun u => Issued s e l c t u ∧ Accumulates u e l a z := by
  obtain ⟨he, hl⟩ := h.slot
  refine h.runs hi ?_
  rw [hv]
  exact ⟨h.issued_putAcc (issue_inv hs) issue_dtb (sec_issue hs he hl), accumulates_putAcc (issue_inv hs) he (h.accumulator hs ha)⟩

/-- SHA: the exact product or quotient, or either neighbour of an inexact one. -/
theorem Issues.runs_sha {a k : Nat} (h : Issues s e l 0x1E [(fA, a), (fS6, k)] c t) (hs : s.Inv) (ha : a < 4) :
    Runs (.canSha e l a k) s fun u => Issued s e l c t u ∧ (0 ≤ sx 6 k → Accumulates u e l a (s.acc e a * 2 ^ (sx 6 k).toNat)) ∧
      (sx 6 k < 0 → s.acc e a % 2 ^ (-sx 6 k).toNat = 0 → Accumulates u e l a (s.acc e a / 2 ^ (-sx 6 k).toNat)) ∧
      (sx 6 k < 0 → Accumulates u e l a (s.acc e a / 2 ^ (-sx 6 k).toNat) ∨ Accumulates u e l a (s.acc e a / 2 ^ (-sx 6 k).toNat + 1)) := by
  obtain ⟨he, hl⟩ := h.slot
  refine h.runs (exec_canSha s) ?_
  have hinv := issue_inv (e := e) (l := l) (w := canWord 0x1E [(fA, a), (fS6, k)]) (c := c) (t := t) hs
  have hacc := h.accumulator (w := canWord 0x1E [(fA, a), (fS6, k)]) hs ha
  dsimp only
  rw [h.acc hs]
  by_cases hk : 0 ≤ sx 6 k
  · rw [if_pos hk]
    refine ⟨h.issued_putAcc hinv issue_dtb (sec_issue hs he hl), fun _ => accumulates_putAcc hinv he hacc, fun hn => ?_, fun hn => ?_⟩
    · exact absurd hk (by omega)
    · exact absurd hk (by omega)
  · rw [if_neg hk]
    by_cases hz : s.acc e a % 2 ^ (-sx 6 k).toNat = 0
    · rw [if_pos hz]
      have hput := accumulates_putAcc (l := l) (z := s.acc e a / 2 ^ (-sx 6 k).toNat) hinv he hacc
      exact ⟨h.issued_putAcc hinv issue_dtb (sec_issue hs he hl), fun hp => absurd hp hk, fun _ _ => hput, fun _ => .inl hput⟩
    · rw [if_neg hz]
      have hdraw := (State.drawWord_keeps (K := 128) rfl (Keeps.refl _ (s.issue e l (canWord 0x1E [(fA, a), (fS6, k)]) c t))).inv hinv
      have hdtb := issue_dtb (s := s) (e := e) (l := l) (w := canWord 0x1E [(fA, a), (fS6, k)]) (c := c) (t := t)
      refine ⟨h.issued_putAcc hdraw hdtb (sec_issue hs he hl), fun hp => absurd hp hk, fun _ hn => absurd hn hz, fun _ => ?_⟩
      rcases Nat.mod_two_eq_zero_or_one (s.issue e l (canWord 0x1E [(fA, a), (fS6, k)]) c t).drawWord.1.toNat with h0 | h1
      · rw [h0, Nat.cast_zero, add_zero]
        exact .inl (accumulates_putAcc hdraw he hacc)
      · rw [h1, Nat.cast_one]
        exact .inr (accumulates_putAcc hdraw he hacc)

end

/-- Settles O15: each is one accumulator write of a value of the operands; DMAC is two, of different accumulators. -/
theorem canterAccumulators : Obligations.CanterAccumulators := by
  intro s e l c tt hs
  refine ⟨fun a x y ha h => ?mul, fun a x y ha h => ?mac, fun a x y ha h => ?msu, fun a x k ha hk h => ?mulc, fun a x k ha hk h => ?macc,
    fun a x y ha heven h => ?dmac, fun a x y ha h => ?dot, fun a x ha h => ?lda, fun a b ha hb h => ?adda, fun a b ha hb h => ?suba,
    fun a k ha _ h => h.runs_sha hs ha⟩
  case mul => exact h.runs_putAcc hs ha (exec_canMul s) _ (by rw [h.dx hs, h.dx hs])
  case mac => exact h.runs_putAcc hs ha (exec_canMac s) _ (by rw [h.acc hs, h.dx hs, h.dx hs])
  case msu => exact h.runs_putAcc hs ha (exec_canMsu s) _ (by rw [h.acc hs, h.dx hs, h.dx hs])
  case mulc => exact h.runs_putAcc hs ha (exec_canMulc s) _ (by rw [h.dx hs, issue_coef])
  case macc => exact h.runs_putAcc hs ha (exec_canMacc s) _ (by rw [h.acc hs, h.dx hs, issue_coef])
  case dmac =>
    obtain ⟨he, hl⟩ := h.slot
    have hinv := issue_inv (e := e) (l := l) (w := canWord 0x19 [(fA, a), (fAx, x), (fAy, y)]) (c := c) (t := tt) hs
    refine h.runs (exec_canDmac s) ?_
    rw [h.acc hs, h.acc hs, h.dx hs, h.dx hs, h.dx hs, h.dx hs]
    refine ⟨h.issued_putAcc (putAcc_inv hinv) (putAcc_dtb.trans issue_dtb)
        ((congrArg LawSt.sec (lawAt_putAcc hinv he)).trans (sec_issue hs he hl)),
      accumulates_putAcc_other (putAcc_inv hinv) he (by omega) (accumulates_putAcc hinv he (h.accumulator hs ha)),
      accumulates_putAcc (putAcc_inv hinv) he ?_⟩
    rw [length_acc_putAcc hinv he]
    exact h.accumulator hs (by omega)
  case dot => exact h.runs_putAcc hs ha (exec_canDot s) _ (by rw [h.acc hs, h.dx hs, h.dx hs, h.dx hs, h.dx hs])
  case lda => exact h.runs_putAcc hs ha (exec_canLda s) _ (by rw [h.dx hs])
  case adda => exact h.runs_putAcc hs ha (exec_canAdda s) _ (by rw [h.acc hs, h.acc hs])
  case suba => exact h.runs_putAcc hs ha (exec_canSuba s) _ (by rw [h.acc hs, h.acc hs])

end Sys2Proof.Machine
end

section
/-! PROOFS. The rotator and the divide unit: integer square roots, the exact reals of CLARKE and SVM, and the instructions of R605. -/

namespace Sys2Proof.Machine

set_option Elab.async false

/-! ## Integer square roots -/

/-- The bits of a root are found from the top: with `n` below `(r + 2 ^ b) ^ 2` the result is the root. -/
theorem isqrtBits_spec (n : Nat) : ∀ (b r : Nat), r * r ≤ n → n < (r + 2 ^ b) * (r + 2 ^ b) →
    isqrtBits n b r * isqrtBits n b r ≤ n ∧ n < (isqrtBits n b r + 1) * (isqrtBits n b r + 1)
  | 0, _, hlo, hhi => ⟨hlo, hhi⟩
  | b + 1, r, hlo, hhi => by
    rw [isqrtBits]
    split
    · next hle =>
      refine isqrtBits_spec n b _ hle ?_
      have hpow : r + 2 ^ b + 2 ^ b = r + 2 ^ (b + 1) := by rw [Nat.pow_succ]; omega
      rwa [hpow]
    · next hgt => exact isqrtBits_spec n b _ hlo (Nat.lt_of_not_le hgt)

theorem isqrt_eq_sqrt {n : Nat} (h : n < 2 ^ 80) : isqrt n = Nat.sqrt n := by
  have hn : n < (0 + 2 ^ 40) * (0 + 2 ^ 40) := by
    rw [Nat.zero_add, ← Nat.pow_add]
    exact h
  obtain ⟨hlo, hhi⟩ := isqrtBits_spec n 40 0 (Nat.zero_le n) hn
  exact Nat.eq_sqrt.mpr ⟨hlo, hhi⟩

/-- The root of an integer that is not negative, as an integer. -/
theorem isqrt_bounds {N : Int} (h0 : 0 ≤ N) (h : N < 2 ^ 80) :
    0 ≤ (isqrt N.toNat : Int) ∧ (isqrt N.toNat : Int) * isqrt N.toNat ≤ N ∧ N < (isqrt N.toNat + 1 : Int) * (isqrt N.toNat + 1) := by
  obtain ⟨n, rfl⟩ := Int.eq_ofNat_of_zero_le h0
  have hn : n < 2 ^ 80 := by exact_mod_cast h
  rw [Int.toNat_natCast, isqrt_eq_sqrt hn]
  refine ⟨Int.natCast_nonneg _, ?_, ?_⟩
  · exact_mod_cast Nat.sqrt_le n
  · exact_mod_cast Nat.lt_succ_sqrt n

/-- Half of a root, rounded to the nearest integer. -/
theorem half_isqrt_unique {N q : Int} (hq : 0 ≤ q) (hlo : (2 * q - 1) * (2 * q - 1) ≤ N ∨ q = 0) (h0 : 0 ≤ N) (hN : N < 2 ^ 80)
    (hhi : N < (2 * q + 1) * (2 * q + 1)) : ((isqrt N.toNat : Int) + 1) / 2 = q := by
  obtain ⟨hr, hrlo, hrhi⟩ := isqrt_bounds h0 hN
  generalize (isqrt N.toNat : Int) = r at *
  have hupper : r < 2 * q + 1 := by nlinarith
  have hlower : 2 * q - 1 ≤ r := by
    rcases hlo with hlo | rfl
    · by_contra hlt
      nlinarith
    · omega
  omega

/-! ## Multiples of √3 -/

open Real

/-- An integer and a multiple of √3 agree at 0 alone. -/
theorem eq_zero_of_mul_sqrt3 {z n : Int} (h : (z : ℝ) * √3 = n) : z = 0 := by
  by_contra hz
  have hirr : Irrational (√3 * (z : ℝ)) := (Nat.Prime.irrational_sqrt Nat.prime_three).mul_intCast hz
  exact hirr.ne_int n (by linarith)

theorem mul_sqrt3_eq {z : ℝ} (h : 0 ≤ z) : z * √3 = √(3 * (z * z)) := by
  rw [Real.sqrt_mul (by norm_num), Real.sqrt_mul_self h, mul_comm]

theorem floor_mul_sqrt3_of_nonneg {z : Int} (h0 : 0 ≤ z) (h : z < 2 ^ 39) : ⌊(z : ℝ) * √3⌋ = (isqrt (3 * (z * z)).toNat : Int) := by
  obtain ⟨hr, hlo, hhi⟩ := isqrt_bounds (N := 3 * (z * z)) (by positivity) (by nlinarith)
  generalize (isqrt (3 * (z * z)).toNat : Int) = r at *
  rw [Int.floor_eq_iff, mul_sqrt3_eq (by exact_mod_cast h0)]
  constructor
  · exact Real.le_sqrt_of_sq_le (by rw [sq]; exact_mod_cast hlo)
  · rw [Real.sqrt_lt' (by have : (0 : ℝ) ≤ r := by exact_mod_cast hr
                          linarith), sq]
    exact_mod_cast hhi

theorem floor_neg_of_not_int {y : ℝ} (h : ∀ n : Int, y ≠ n) : ⌊-y⌋ = -⌊y⌋ - 1 := by
  rw [Int.floor_neg]
  have hlt : (⌊y⌋ : ℝ) < y := lt_of_le_of_ne (Int.floor_le y) (fun he => h _ he.symm)
  have : ⌈y⌉ = ⌊y⌋ + 1 := by
    rw [Int.ceil_eq_iff]
    push_cast
    exact ⟨by linarith, (Int.lt_floor_add_one y).le⟩
  omega

theorem floorSqrt3_eq {z : Int} (h : |z| < 2 ^ 39) : floorSqrt3 z = ⌊(z : ℝ) * √3⌋ := by
  obtain ⟨hlo, hhi⟩ := abs_lt.mp h
  unfold floorSqrt3
  split
  · next h0 => exact (floor_mul_sqrt3_of_nonneg h0 hhi).symm
  · next hneg =>
    have hz : z ≠ 0 := by omega
    have hpos := floor_mul_sqrt3_of_nonneg (z := -z) (by omega) (by omega)
    rw [if_neg hz, ← neg_mul_neg z z, ← hpos, ← floor_neg_of_not_int (fun n hn => ?_)]
    · push_cast
      rw [neg_mul, neg_neg]
    · exact hz (neg_eq_zero.mp (eq_zero_of_mul_sqrt3 hn))

/-! ## Division by √3 -/

theorem floor_half_root {w : Int} (h0 : 0 ≤ w) (h : w < 2 ^ 20) :
    ⌊(w : ℝ) / √3 + 1 / 2⌋ = ((isqrt (4 * (w * w) / 3).toNat : Int) + 1) / 2 := by
  have hnonneg : 0 ≤ 4 * (w * w) / 3 := Int.ediv_nonneg (by positivity) (by decide)
  have hdiv := Int.emod_add_mul_ediv (4 * (w * w)) 3
  have hmod := Int.emod_nonneg (4 * (w * w)) (by decide : (3 : Int) ≠ 0)
  have hmod3 := Int.emod_lt_of_pos (4 * (w * w)) (by decide : (0 : Int) < 3)
  obtain ⟨hr, hlo, hhi⟩ := isqrt_bounds hnonneg (by nlinarith)
  generalize (isqrt (4 * (w * w) / 3).toNat : Int) = r at *
  generalize 4 * (w * w) / 3 = N at *
  have hlow : 3 * (r * r) ≤ 4 * (w * w) := by omega
  have hhigh : 4 * (w * w) < 3 * ((r + 1) * (r + 1)) := by omega
  have h3 : (0 : ℝ) < √3 := Real.sqrt_pos.mpr (by norm_num)
  have hw : (0 : ℝ) ≤ w := by exact_mod_cast h0
  have hsq : √3 * √3 = 3 := Real.mul_self_sqrt (by norm_num)
  have hlowR : (r : ℝ) * √3 ≤ 2 * w := by
    refine le_of_sq_le_sq ?_ (by linarith)
    have : (3 : ℝ) * (r * r) ≤ 4 * (w * w) := by exact_mod_cast hlow
    nlinarith
  have hhighR : 2 * (w : ℝ) < (r + 1) * √3 := by
    refine lt_of_pow_lt_pow_left₀ 2 (by positivity) ?_
    have : (4 : ℝ) * (w * w) < 3 * ((r + 1) * (r + 1)) := by exact_mod_cast hhigh
    nlinarith
  rw [Int.floor_eq_iff]
  have hm1 : 2 * ((r + 1) / 2) - 1 ≤ r := by omega
  have hm2 : r + 1 ≤ 2 * ((r + 1) / 2) + 1 := by omega
  generalize (r + 1) / 2 = m at *
  have hm1R : (2 * m - 1 : ℝ) ≤ r := by exact_mod_cast hm1
  have hm2R : (r + 1 : ℝ) ≤ 2 * m + 1 := by exact_mod_cast hm2
  constructor
  · have : (m : ℝ) - 1 / 2 ≤ w / √3 := by
      rw [le_div_iff₀ h3]
      nlinarith
    linarith
  · have : (w : ℝ) / √3 < m + 1 / 2 := by
      rw [div_lt_iff₀ h3]
      nlinarith
    linarith

/-- No multiple of 1/√3 lies half-way between two integers. -/
theorem div_sqrt3_no_tie (w n : Int) : (w : ℝ) / √3 + 1 / 2 ≠ n := by
  intro h
  have h3 : √3 ≠ 0 := (Real.sqrt_pos.mpr (by norm_num)).ne'
  have hz : ((2 * n - 1 : Int) : ℝ) * √3 = (2 * w : Int) := by
    push_cast
    rw [← h]
    field_simp
    ring
  have := eq_zero_of_mul_sqrt3 hz
  omega

theorem divSqrt3_eq {v : Int} (h : |v| < 2 ^ 20) : divSqrt3 v = ⌊(v : ℝ) / √3 + 1 / 2⌋ := by
  obtain ⟨hlo, hhi⟩ := abs_lt.mp h
  unfold divSqrt3
  dsimp only
  split
  · next h0 => exact (floor_half_root h0 hhi).symm
  · next hneg =>
    have hpos := floor_half_root (w := -v) (by omega) (by omega)
    have hfloor := floor_neg_of_not_int (div_sqrt3_no_tie (-v))
    rw [← neg_mul_neg v v, ← hpos]
    have hshift : (v : ℝ) / √3 + 1 / 2 = -(((-v : Int) : ℝ) / √3 + 1 / 2) + 1 := by push_cast; ring
    rw [hshift, Int.floor_add_one, hfloor]
    ring

/-! ## Duties of SVM -/

/-- The real that a pair stands for. -/
noncomputable def sqrt3Val (p : Int × Int) : ℝ := p.1 + p.2 * √3

theorem leSqrt3_iff {p q : Int × Int} (h : |p.2 - q.2| < 2 ^ 39) : leSqrt3 p.1 p.2 q.1 q.2 = true ↔ sqrt3Val p ≤ sqrt3Val q := by
  unfold leSqrt3 sqrt3Val
  rw [floorSqrt3_eq h, Bool.or_eq_true, Bool.and_eq_true, decide_eq_true_eq, decide_eq_true_eq, decide_eq_true_eq, Int.floor_lt]
  push_cast
  constructor
  · rintro (hlt | ⟨heq, hle⟩)
    · linarith
    · rw [heq]
      have : (p.1 : ℝ) ≤ q.1 := by exact_mod_cast hle
      linarith
  · intro hle
    rcases lt_or_eq_of_le hle with hlt | heq
    · exact .inl (by linarith)
    · have hz : ((p.2 - q.2 : Int) : ℝ) * √3 = (q.1 - p.1 : Int) := by push_cast; linarith
      have h0 := eq_zero_of_mul_sqrt3 hz
      have hpq : p.2 = q.2 := by omega
      refine .inr ⟨hpq, ?_⟩
      rw [hpq] at heq
      have : (p.1 : ℝ) ≤ q.1 := by linarith
      exact_mod_cast this

/-- The greater of two pairs has the greater value. -/
theorem sqrt3Val_max {p q : Int × Int} (h : |p.2 - q.2| < 2 ^ 39) :
    sqrt3Val (if leSqrt3 p.1 p.2 q.1 q.2 then q else p) = max (sqrt3Val p) (sqrt3Val q) := by
  split
  · next hle => exact (max_eq_right ((leSqrt3_iff h).mp hle)).symm
  · next hgt => exact (max_eq_left (le_of_not_ge (fun hle => hgt ((leSqrt3_iff h).mpr hle)))).symm

theorem sqrt3Val_min {p q : Int × Int} (h : |q.2 - p.2| < 2 ^ 39) :
    sqrt3Val (if leSqrt3 q.1 q.2 p.1 p.2 then q else p) = min (sqrt3Val p) (sqrt3Val q) := by
  split
  · next hle => exact (min_eq_right ((leSqrt3_iff h).mp hle)).symm
  · next hgt => exact (min_eq_left (le_of_not_ge (fun hle => hgt ((leSqrt3_iff h).mpr hle)))).symm

/-- Rounding to the nearest of an eighth of `a + b √3`. -/
theorem floor_eighth {a b : Int} (h : |b| < 2 ^ 39) : (a + 4 + floorSqrt3 b) / 8 = ⌊(a + b * √3) / 8 + 1 / 2⌋ := by
  rw [floorSqrt3_eq h]
  have hshift : ((a : ℝ) + b * √3) / 8 + 1 / 2 = ((a + 4 : Int) + b * √3) / (8 : Nat) := by push_cast; ring
  rw [hshift, Int.floor_div_natCast, Int.floor_intCast_add]
  rfl

theorem foldl_sqrt3Val_max (l : List (Int × Int)) (p : Int × Int) (hp : |p.2| ≤ 2 ^ 17) (hl : ∀ q ∈ l, |q.2| ≤ 2 ^ 17) :
    |(l.foldl (fun p q => if leSqrt3 p.1 p.2 q.1 q.2 then q else p) p).2| ≤ 2 ^ 17 ∧
      sqrt3Val (l.foldl (fun p q => if leSqrt3 p.1 p.2 q.1 q.2 then q else p) p) = l.foldl (fun r q => max r (sqrt3Val q)) (sqrt3Val p) := by
  induction l generalizing p with
  | nil => exact ⟨hp, rfl⟩
  | cons q l ih =>
    have hq := hl q List.mem_cons_self
    rw [List.foldl_cons, List.foldl_cons, ← sqrt3Val_max (by rw [abs_le] at hp hq; rw [abs_lt]; omega)]
    exact ih _ (by split <;> assumption) (fun r hr => hl r (List.mem_cons_of_mem _ hr))

theorem foldl_sqrt3Val_min (l : List (Int × Int)) (p : Int × Int) (hp : |p.2| ≤ 2 ^ 17) (hl : ∀ q ∈ l, |q.2| ≤ 2 ^ 17) :
    |(l.foldl (fun p q => if leSqrt3 q.1 q.2 p.1 p.2 then q else p) p).2| ≤ 2 ^ 17 ∧
      sqrt3Val (l.foldl (fun p q => if leSqrt3 q.1 q.2 p.1 p.2 then q else p) p) = l.foldl (fun r q => min r (sqrt3Val q)) (sqrt3Val p) := by
  induction l generalizing p with
  | nil => exact ⟨hp, rfl⟩
  | cons q l ih =>
    have hq := hl q List.mem_cons_self
    rw [List.foldl_cons, List.foldl_cons, ← sqrt3Val_min (by rw [abs_le] at hp hq; rw [abs_lt]; omega)]
    exact ih _ (by split <;> assumption) (fun r hr => hl r (List.mem_cons_of_mem _ hr))

/-- The three phases of SVM in quarters, as integers and multiples of √3. -/
def svmPhases (x y : Int) : List (Int × Int) := [(4 * x, 0), (-2 * x, 2 * y), (-2 * x, -2 * y)]

theorem svmPhases_bound {x y : Int} (hy : |y| ≤ 2 ^ 15) : ∀ q ∈ svmPhases x y, |q.2| ≤ 2 ^ 17 := by
  rw [abs_le] at hy
  intro q hq
  simp only [svmPhases, List.mem_cons, List.not_mem_nil, or_false] at hq
  rw [abs_le]
  rcases hq with rfl | rfl | rfl <;> dsimp only <;> omega

/-- The greatest and the least phase, as SVM finds them. -/
def svmMax (x y : Int) : Int × Int :=
  (svmPhases x y).foldl (fun p q => if leSqrt3 p.1 p.2 q.1 q.2 then q else p) ((svmPhases x y).headD (0, 0))
def svmMin (x y : Int) : Int × Int :=
  (svmPhases x y).foldl (fun p q => if leSqrt3 q.1 q.2 p.1 p.2 then q else p) ((svmPhases x y).headD (0, 0))

/-- A duty in eighths: its integer part and its multiple of √3. -/
def svmEighths (x y : Int) (k : Nat) : Int × Int :=
  let v := (svmPhases x y).getD k (0, 0)
  (2 * v.1 - ((svmMax x y).1 + (svmMin x y).1) + 8 * 16384, 2 * v.2 - ((svmMax x y).2 + (svmMin x y).2))

theorem svmDuty_def (x y : Int) (k : Nat) : svmDuty x y k =
    (sat 0 0x7FFF (((svmEighths x y k).1 + 4 + floorSqrt3 (svmEighths x y k).2) / 8),
      decide (sat 0 0x7FFF (((svmEighths x y k).1 + 4 + floorSqrt3 (svmEighths x y k).2) / 8) ≠
        ((svmEighths x y k).1 + 4 + floorSqrt3 (svmEighths x y k).2) / 8)) := rfl

section
variable {x y : Int} {v : Nat → ℝ} (h0 : v 0 = x) (h1 : v 1 = -(x : ℝ) / 2 + √3 / 2 * y) (h2 : v 2 = -(x : ℝ) / 2 - √3 / 2 * y)

include h0 h1 h2

theorem sqrt3Val_svmPhases : (svmPhases x y).map sqrt3Val = [4 * v 0, 4 * v 1, 4 * v 2] := by
  have e0 : sqrt3Val (4 * x, 0) = 4 * v 0 := by simp [sqrt3Val, h0]
  have e1 : sqrt3Val (-2 * x, 2 * y) = 4 * v 1 := by simp [sqrt3Val, h1]; ring
  have e2 : sqrt3Val (-2 * x, -2 * y) = 4 * v 2 := by simp [sqrt3Val, h2]; ring
  simp only [svmPhases, List.map_cons, List.map_nil, e0, e1, e2]

theorem sqrt3Val_svmMax (hy : |y| ≤ 2 ^ 15) : sqrt3Val (svmMax x y) = 4 * max (v 0) (max (v 1) (v 2)) := by
  have hphases := sqrt3Val_svmPhases h0 h1 h2
  simp only [svmPhases, List.map_cons, List.map_nil, List.cons.injEq, and_true] at hphases
  obtain ⟨e0, e1, e2⟩ := hphases
  have hbound := svmPhases_bound (x := x) hy
  obtain ⟨-, hval⟩ := foldl_sqrt3Val_max (svmPhases x y) _ (hbound _ List.mem_cons_self) hbound
  refine hval.trans ?_
  simp only [svmPhases, List.foldl_cons, List.foldl_nil, e0, e1, e2, max_self, max_assoc]
  rw [mul_max_of_nonneg _ _ (by norm_num), mul_max_of_nonneg _ _ (by norm_num)]

theorem sqrt3Val_svmMin (hy : |y| ≤ 2 ^ 15) : sqrt3Val (svmMin x y) = 4 * min (v 0) (min (v 1) (v 2)) := by
  have hphases := sqrt3Val_svmPhases h0 h1 h2
  simp only [svmPhases, List.map_cons, List.map_nil, List.cons.injEq, and_true] at hphases
  obtain ⟨e0, e1, e2⟩ := hphases
  have hbound := svmPhases_bound (x := x) hy
  obtain ⟨-, hval⟩ := foldl_sqrt3Val_min (svmPhases x y) _ (hbound _ List.mem_cons_self) hbound
  refine hval.trans ?_
  simp only [svmPhases, List.foldl_cons, List.foldl_nil, e0, e1, e2, min_self, min_assoc]
  rw [mul_min_of_nonneg _ _ (by norm_num), mul_min_of_nonneg _ _ (by norm_num)]

theorem sqrt3Val_getD {k : Nat} (hk : k < 3) : sqrt3Val ((svmPhases x y).getD k (0, 0)) = 4 * v k := by
  have hphases := sqrt3Val_svmPhases h0 h1 h2
  simp only [svmPhases, List.map_cons, List.map_nil, List.cons.injEq, and_true] at hphases
  obtain ⟨e0, e1, e2⟩ := hphases
  interval_cases k
  · exact e0
  · exact e1
  · exact e2

/-- A duty in eighths is the exact real one. -/
theorem svmEighths_val (hy : |y| ≤ 2 ^ 15) {k : Nat} (hk : k < 3) :
    (((svmEighths x y k).1 : ℝ) + (svmEighths x y k).2 * √3) / 8 =
      16384 + v k - (max (v 0) (max (v 1) (v 2)) + min (v 0) (min (v 1) (v 2))) / 2 := by
  have hmax := sqrt3Val_svmMax h0 h1 h2 hy
  have hmin := sqrt3Val_svmMin h0 h1 h2 hy
  have hv := sqrt3Val_getD h0 h1 h2 hk
  unfold sqrt3Val at hmax hmin hv
  unfold svmEighths
  push_cast
  linarith

end

theorem svmEighths_bound {x y : Int} {k : Nat} (hy : |y| ≤ 2 ^ 15) (hk : k < 3) : |(svmEighths x y k).2| < 2 ^ 39 := by
  have hbound := svmPhases_bound (x := x) hy
  have hmax : |(svmMax x y).2| ≤ 2 ^ 17 := (foldl_sqrt3Val_max _ _ (hbound _ List.mem_cons_self) hbound).1
  have hmin : |(svmMin x y).2| ≤ 2 ^ 17 := (foldl_sqrt3Val_min _ _ (hbound _ List.mem_cons_self) hbound).1
  have hv : |((svmPhases x y).getD k (0, 0)).2| ≤ 2 ^ 17 := by
    rw [List.getD_eq_getElem _ _ (by exact hk)]
    exact hbound _ (List.getElem_mem _)
  unfold svmEighths
  rw [abs_le] at hmax hmin hv
  rw [abs_lt]
  dsimp only
  omega

/-- Settles O23: roots of integers give the floors of the reals, which never meet a tie. -/
theorem realArithmetic : Obligations.RealArithmetic := by
  refine ⟨fun v hv => divSqrt3_eq hv, fun x y v r k hx hy hk h0 h1 h2 hr => ?_⟩
  rw [svmDuty_def, floor_eighth (svmEighths_bound hy hk), svmEighths_val h0 h1 h2 hy hk, ← hr, sat_eq_min_max (by decide)]

/-! ## Instructions of the rotator and the divide unit (R605) -/

section
variable {s : State} {e l t : Nat} {c : Section}

theorem rot_eq (p q : Int) : rot p q = satTag ((p + q + 2 ^ 14) / 2 ^ 15) := rfl

/-- SVM writes three registers. -/
theorem Issues.runs_svm {d x y : Nat} (h : Issues s e l 0x24 [(fD, d), (fX, x), (fY, y)] c t) (hs : s.Inv) (hd : d < 62) :
    Runs (.canSvm e l d x y) s fun u => Issued s e l c t u ∧
      ∀ k, k < 3 → Holds u e l c.sel (d + k) (svmDuty (s.dx e l c x) (s.dx e l c y) k).1 (svmDuty (s.dx e l c x) (s.dx e l c y) k).2 := by
  obtain ⟨he, hl⟩ := h.slot
  have hinv := issue_inv (e := e) (l := l) (w := canWord 0x24 [(fD, d), (fX, x), (fY, y)]) (c := c) (t := t) hs
  refine h.runs (exec_canSvm s) ?_
  dsimp only
  rw [h.dx hs, h.dx hs, Section.next_sel]
  obtain ⟨hd64, ht64⟩ := h.file
  generalize (s.useOf e l (canWord 0x24 [(fD, d), (fX, x), (fY, y)])) = u
  have hdtb : (s.issue e l (canWord 0x24 [(fD, d), (fX, x), (fY, y)]) c t).dtb = max s.dtb t := issue_dtb
  have hsec := sec_issue (w := canWord 0x24 [(fD, d), (fX, x), (fY, y)]) (c := c) (t := t) hs he hl
  have hfile := file_issue (w := canWord 0x24 [(fD, d), (fX, x), (fY, y)]) (c := c) (t := t) hs he hl c.sel
  generalize s.issue e l (canWord 0x24 [(fD, d), (fX, x), (fY, y)]) c t = r at *
  generalize svmDuty (s.dx e l c x) (s.dx e l c y) = v
  have hr1 := dSet_inv (e := e) (l := l) (sel := c.sel) (k := d) (v := (v 0).1) (a := (v 0).2) hinv
  have hr2 := dSet_inv (e := e) (l := l) (sel := c.sel) (k := d + 1) (v := (v 1).1) (a := (v 1).2) hr1
  obtain ⟨hd1, ht1⟩ := length_file_dSet (sel := c.sel) (k := d) (v := (v 0).1) (a := (v 0).2) hinv he hl
  obtain ⟨hd2, ht2⟩ := length_file_dSet (sel := c.sel) (k := d + 1) (v := (v 1).1) (a := (v 1).2) hr1 he hl
  rw [hfile] at hd1 ht1
  refine ⟨issued_dSet he hl hr2 (dSet_dtb.trans (dSet_dtb.trans hdtb)) ((lawAt_dSet_sec hr1 he hl).trans ((lawAt_dSet_sec hinv he hl).trans hsec)), ?_⟩
  intro k hk
  interval_cases k
  · exact holds_dSet_other hr2 he hl (by omega) (holds_dSet_other hr1 he hl (by omega)
      (Machine.dSet_holds hinv he hl (by rw [hfile]; omega) (by rw [hfile]; omega)))
  · exact holds_dSet_other hr2 he hl (by omega) (Machine.dSet_holds hr1 he hl (by omega) (by omega))
  · exact Machine.dSet_holds hr2 he hl (by omega) (by omega)

theorem divQ_zero (x : Int) : divQ x 0 = (if 0 ≤ x then 32767 else -32768, true) := rfl

theorem divQ_pos {x y : Int} (h : 0 < y) : divQ x y = satTag ((2 * (x * 32768) + y) / (2 * y)) := by
  unfold divQ
  rw [← mul_assoc, if_neg h.ne', if_neg (by omega)]
  rfl

theorem divQ_neg {x y : Int} (h : y < 0) : divQ x y = satTag ((2 * (-x * 32768) + -y) / (2 * -y)) := by
  unfold divQ
  rw [← mul_assoc, if_neg h.ne, if_pos h]
  rfl

theorem sqrtQ_neg {x : Int} (h : x < 0) : sqrtQ x = (0, true) := if_pos h

/-- The nearest number to the exact root, which fits 16 bits, has no tag. -/
theorem sqrtQ_nearest {x q : Int} (hx : 0 ≤ x) (hq : 0 ≤ q) (hq' : q ≤ 32767) (hlo : (2 * q - 1) * (2 * q - 1) ≤ 4 * (x * 32768) ∨ q = 0)
    (hhi : 4 * (x * 32768) < (2 * q + 1) * (2 * q + 1)) : sqrtQ x = (q, false) := by
  have hroot := half_isqrt_unique hq hlo (by omega) (by nlinarith) hhi
  have hsat : sat16 q = q := by rw [sat16_eq_min_max]; omega
  unfold sqrtQ
  rw [if_neg (by omega)]
  dsimp only
  rw [hroot, hsat, decide_eq_false (by simp)]

end

/-- Settles O16: pairs and triples of register writes; the operand decides the case of the divide unit. -/
theorem canterVectors : Obligations.CanterVectors := by
  intro s e l c tt hs
  refine ⟨fun d x hd h => ?sincos, fun d x y th hd h => ?park, fun d x y th hd h => ?ipark, fun d x y hd h => ?clarke,
    fun d x y hd h => h.runs_svm hs hd, fun d x y hd h => ?div, fun d x hd h => ?sqrt⟩
  case sincos =>
    exact h.runs_writesPair hs hd (exec_canSincos s) ((cosQ (s.dx e l c x), false), (sinQ (s.dx e l c x), false)) (by rw [h.dx hs])
  case park =>
    refine h.runs_writesPair hs hd (exec_canPark s) (satTag _, satTag _) ?_
    dsimp only
    rw [h.dx hs, h.dx hs, h.dx hs, rot_eq, rot_eq, neg_mul]
  case ipark =>
    refine h.runs_writesPair hs hd (exec_canIpark s) (satTag _, satTag _) ?_
    dsimp only
    rw [h.dx hs, h.dx hs, h.dx hs, rot_eq, rot_eq, neg_mul, ← sub_eq_add_neg]
  case clarke =>
    exact h.runs_writesPair hs hd (exec_canClarke s) ((s.dx e l c x, false), satTag (divSqrt3 (s.dx e l c x + 2 * s.dx e l c y)))
      (by rw [h.dx hs, h.dx hs])
  case div =>
    obtain ⟨t, ht, hissued, hholds⟩ := h.runs_writes hs hd (exec_canDiv s) (divQ (s.dx e l c x) (s.dx e l c y)) (by rw [h.dx hs, h.dx hs])
    refine ⟨t, ht, hissued, fun hy => ?_, fun hy => ?_, fun hy => ?_⟩
    · rwa [hy, divQ_zero] at hholds
    · rwa [divQ_pos hy] at hholds
    · rwa [divQ_neg hy] at hholds
  case sqrt =>
    obtain ⟨t, ht, hissued, hholds⟩ := h.runs_writes hs hd (exec_canSqrt s) (sqrtQ (s.dx e l c x)) (by rw [h.dx hs])
    refine ⟨t, ht, hissued, fun hx => ?_, fun q hx hq hq' hlo hhi => ?_⟩
    · rwa [sqrtQ_neg hx] at hholds
    · rwa [sqrtQ_nearest hx hq hq' hlo hhi] at hholds

end Sys2Proof.Machine
end

section
/-! PROOFS. What the issue of a Canter instruction leaves of its engine, what the accesses of the engine's port, a miss and the end of
a section change, and with them the statements on control, paths and outputs (R101, R117, R122-R140, R158-R174). -/

namespace Sys2Proof.Machine

set_option Elab.async false

variable {s : State} {e l : Nat}

/-! ## Counters and flags -/

theorem incBy_inv (h : s.Inv) {a n : Nat} : (s.incBy a n).Inv := wr_inv h
theorem inc_inv (h : s.Inv) {a : Nat} : (s.inc a).Inv := wr_inv h
theorem setb_inv (h : s.Inv) {a : Nat} {f : Field} {b : Bool} : (s.setb a f b).Inv := wr_inv h

theorem rd_inc_same (h : s.Inv) {a : Nat} : (s.inc a).rd a = W (min ((s.rd a).toNat + 1) 0xFFFFFFFF) := rd_wr_same h
theorem rd_inc_other (h : s.Inv) {a b : Nat} (hb : b ≠ a) : (s.inc a).rd b = s.rd b := rd_wr_other h hb
theorem fld_inc_other (h : s.Inv) {a b : Nat} {f : Field} (hb : b ≠ a) : (s.inc a).fld b f = s.fld b f := by
  unfold State.fld
  rw [rd_inc_other h hb]

/-- A flag written as 1 is on. -/
theorem on_setf_one (h : s.Inv) {a : Nat} {f : Field} (hlo : f.lo + f.len ≤ 32) (hlen : 0 < f.len) : (s.setf a f 1).on a f = true := by
  refine decide_eq_true ((fld_setf_same h hlo).trans_ne ?_)
  rw [Nat.mod_eq_of_lt (Nat.one_lt_two_pow (by omega))]
  exact one_ne_zero

/-! ## Engines and laws -/

theorem ceAt_congr {t : State} (h : t.ce = s.ce) (e : Nat) : t.ceAt e = s.ceAt e := by unfold State.ceAt; rw [h]
theorem lawAt_congr {t : State} (h : t.ce = s.ce) (e l : Nat) : t.lawAt e l = s.lawAt e l := by unfold State.lawAt; rw [ceAt_congr h]

/-- An update of an engine that leaves its laws alone leaves each law. -/
theorem lawAt_modCe (h : s.Inv) (he : e < 12) {f : CeSt → CeSt} (hf : ∀ c, (f c).laws = c.laws := by intro; rfl) :
    (s.modCe e f).lawAt e l = s.lawAt e l := by
  unfold State.lawAt
  rw [ceAt_modCe_same h he, hf]

theorem modSec_inv (h : s.Inv) {f : Section → Section} : (s.modSec e l f).Inv := modLaw_inv h

theorem lawAt_modSec (h : s.Inv) (he : e < 12) (hl : l < 4) {f : Section → Section} :
    (s.modSec e l f).lawAt e l = { s.lawAt e l with sec := (s.lawAt e l).sec.map f } := lawAt_modLaw_same h he hl

section
variable {op t : Nat} {fs : List (Field × Nat)} {w : Word} {c : Section} {u : CanUse}

/-- The issue changes of the engine its port, and of its laws a section. -/
theorem ceAt_issue (h : s.Inv) (he : e < 12) : ∃ p ls, (s.issue e l w c t).ceAt e = { s.ceAt e with port := p, laws := ls } := by
  unfold State.issue
  rw [ceAt_modLaw_same (setPort_inv (reach_inv h)) he, ceAt_modCe_same (reach_inv h) he]
  exact ⟨_, _, rfl⟩

@[simp] theorem Section.next_t : (c.next u t).t = c.t := rfl
@[simp] theorem Section.next_urg : (c.next u t).urg = c.urg := rfl
@[simp] theorem Section.next_pc : (c.next u t).pc = c.pc + 1 := rfl

/-- A law in the state that the issue leaves, but for its section, is the law before. -/
theorem capture_issue (h : s.Inv) (he : e < 12) (hl : l < 4) (k : Nat) :
    (s.issue e l w c t).capture e l (c.next u t) k = s.capture e l c k := by
  unfold State.capture
  rw [lawAt_issue h he hl]
  rfl

/-- The outputs that the state after the issue names for a stage of the law. -/
theorem Issues.issued (h : Issues s e l op fs c t) (hs : s.Inv) : Issued s e l c t (s.issue e l (canWord op fs) c t) :=
  issued_of_next issue_dtb (sec_issue hs h.slot.1 h.slot.2)

end

/-! ## Accesses of the engine's port (R77) -/

section
variable {sg t : Nat} {k : Nat → Access}

theorem present_inv (h : s.Inv) : (s.present e sg t k).Inv := (State.present_keeps (K := 8832) rfl (Keeps.refl _ s)).inv h
@[simp] theorem present_dtb : (s.present e sg t k).dtb = s.dtb := (State.present_keeps (K := 8832) rfl (Keeps.refl _ s)).dtb rfl
theorem present_regs : (s.present e sg t k).regs = s.regs := (State.present_keeps (K := 8832) rfl (Keeps.refl _ s)).regs rfl

/-- An access takes the next cycle of the port and a place that waits. -/
theorem ceAt_present (h : s.Inv) (he : e < 12) : (s.present e sg t k).ceAt e =
    { s.ceAt e with portNext := max (t + 1) (s.ceAt e).portNext + 1, port := (s.ceAt e).port ++ [none] } := by
  unfold State.present
  dsimp only
  rw [ceAt_congr ((State.bankAsk_keeps (K := 640) rfl (Keeps.refl _ _)).ce rfl), ceAt_modCe_same h he]

theorem lawAt_present (h : s.Inv) (he : e < 12) : (s.present e sg t k).lawAt e l = s.lawAt e l := by
  unfold State.lawAt
  rw [ceAt_present h he]

/-- At a ratio of the clocks that keeps every access, the access waits for its bank. -/
theorem waiting_present (hr : s.ctlRatioOk = true) : (s.present e sg t k).paddock.waiting = s.paddock.waiting ++
    [{ sig := sg, req := max (t + 1) (s.ceAt e).portNext, kind := k (max (t + 1) (s.ceAt e).portNext) }] := by
  have hr' : (s.modCe e (fun c => { c with portNext := max (t + 1) (s.ceAt e).portNext + 1, port := c.port ++ [none] })).ctlRatioOk = true := hr
  unfold State.present State.bankAsk
  dsimp only
  rw [hr']
  rfl

theorem lawAt_each_present {α : Type} (he : e < 12) {f : α → Nat} {g : α → Nat → Access} :
    ∀ (xs : List α) {s : State}, s.Inv → (s.each xs (fun s x => s.present e (f x) t (g x))).lawAt e l = s.lawAt e l
  | [], _, _ => rfl
  | _ :: xs, _, h => (lawAt_each_present he xs (present_inv h)).trans (lawAt_present h he)

theorem each_present_keeps {α : Type} (xs : List α) {f : α → Nat} {g : α → Nat → Access} :
    Keeps 8832 s (s.each xs (fun s x => s.present e (f x) t (g x))) :=
  State.each_keeps (Keeps.refl _ s) fun _ _ h => State.present_keeps rfl h

end

/-! ## The end of a section, and a miss (R145, R166, R174) -/

section
variable {a cause t : Nat} {hold : Bool}

theorem endSection_inv (h : s.Inv) : (s.endSection e l).Inv := (State.endSection_keeps (K := 8194) rfl (Keeps.refl _ s)).inv h

theorem lawAt_endSection (h : s.Inv) (he : e < 12) (hl : l < 4) :
    (s.endSection e l).lawAt e l = { s.lawAt e l with sec := none } := lawAt_modLaw_same h he hl

theorem rd_endSection_other (h : s.Inv) (hce : a ≠ Reg.CE_STATUS e) (hlaw : a ≠ Reg.LAW_RSTAT e l) :
    (s.endSection e l).rd a = s.rd a := by
  have hmod := modLaw_inv (e := e) (l := l) (f := fun w => { w with sec := none }) h
  unfold State.endSection
  rw [rd_setf_other (setf_inv (setf_inv hmod)) hlaw, rd_setf_other (setf_inv hmod) hce, rd_setf_other hmod hce]
  rfl

theorem reinBack_inv (h : s.Inv) : (s.reinBack e l).Inv := (State.reinBack_keeps (K := 8194) rfl (Keeps.refl _ s)).inv h

/-- A rein-back leaves whether a section runs and whether the law missed. -/
theorem lawAt_reinBack (h : s.Inv) (he : e < 12) (hl : l < 4) :
    ((s.reinBack e l).lawAt e l).sec = (s.lawAt e l).sec ∧ ((s.reinBack e l).lawAt e l).prevMissed = (s.lawAt e l).prevMissed := by
  unfold State.reinBack
  rw [State.lawAt, State.setf_ceAt, ← State.lawAt, lawAt_modLaw_same h he hl]
  exact ⟨rfl, rfl⟩

theorem last_reinBack (h : s.Inv) : (s.reinBack e l).fld (Reg.LAW_RSTAT e l) Fld.LAW_RSTAT_last = s.fld (Reg.LAW_RSTAT e l) Fld.LAW_RSTAT_last :=
  fld_setf_field (modLaw_inv h) (by decide) (by decide)

/-- What a miss leaves in the law, but for its section. -/
def LawSt.missed (w : LawSt) (due : Option (Nat × List (Option Word))) : LawSt :=
  { w with used := true, prevMissed := true, fbDue := due, staged := noOutputs, anyTag := false }

/-- When the fallback of a miss in cycle `t` is due, and what it writes. -/
def State.missDue (s : State) (e l t : Nat) (hold : Bool) : Option (Nat × List (Option Word)) :=
  if s.lawTripped e l then none else some (t + s.lawL e l, s.fallback e l hold)

/-- The counters and the cause of a miss, before a law with a lookahead reins back. -/
def State.missed (s : State) (e l cause t : Nat) (hold : Bool) : State :=
  let s' := (s.endSection e l).modLaw e l (fun w => w.missed (s.missDue e l t hold))
  let s' := if (s.lawAt e l).anyTag then s'.inc (Reg.LAW_CNT_SAT e l) else s'
  ((s'.inc (Reg.LAW_CNT_MISS e l)).setf (Reg.LAW_STAT e l) Fld.LAW_STAT_miss 1).setLast e l cause

theorem miss_eq : s.miss e l cause t hold =
    if (s.missed e l cause t hold).lawAhead e l then (s.missed e l cause t hold).reinBack e l else s.missed e l cause t hold := rfl

theorem missed_inv (h : s.Inv) : (s.missed e l cause t hold).Inv := by
  unfold State.missed
  dsimp only
  split
  · exact setf_inv (setf_inv (inc_inv (inc_inv (modLaw_inv (endSection_inv h)))))
  · exact setf_inv (setf_inv (inc_inv (modLaw_inv (endSection_inv h))))

theorem ce_missed : (s.missed e l cause t hold).ce = ((s.endSection e l).modLaw e l (fun w => w.missed (s.missDue e l t hold))).ce := by
  unfold State.missed State.setLast
  dsimp only
  cases (s.lawAt e l).anyTag <;> simp only [State.setf_ce, State.inc_ce, if_true, Bool.false_eq_true, if_false]

theorem lawAt_missed (h : s.Inv) (he : e < 12) (hl : l < 4) :
    ((s.missed e l cause t hold).lawAt e l).sec = none ∧ ((s.missed e l cause t hold).lawAt e l).prevMissed = true := by
  rw [lawAt_congr ce_missed, lawAt_modLaw_same (endSection_inv h) he hl, lawAt_endSection h he hl]
  exact ⟨rfl, rfl⟩

theorem last_missed (h : s.Inv) :
    (s.missed e l cause t hold).fld (Reg.LAW_RSTAT e l) Fld.LAW_RSTAT_last = cause % 2 ^ Fld.LAW_RSTAT_last.len := by
  unfold State.missed State.setLast
  dsimp only
  refine fld_setf_same (setf_inv (inc_inv ?_)) (by decide)
  split
  · exact inc_inv (modLaw_inv (endSection_inv h))
  · exact modLaw_inv (endSection_inv h)

theorem miss_inv (h : s.Inv) : (s.miss e l cause t hold).Inv := (State.miss_keeps (K := 8194) rfl (Keeps.refl _ s)).inv h
@[simp] theorem miss_dtb : (s.miss e l cause t hold).dtb = s.dtb := (State.miss_keeps (K := 8194) rfl (Keeps.refl _ s)).dtb rfl

/-- A miss ends the section and is the law's last result, with its cause (R145, R174). -/
theorem miss_holds (h : s.Inv) (he : e < 12) (hl : l < 4) (hcause : cause < 2 ^ Fld.LAW_RSTAT_last.len) :
    ((s.miss e l cause t hold).lawAt e l).sec = none ∧ ((s.miss e l cause t hold).lawAt e l).prevMissed = true ∧
      (s.miss e l cause t hold).fld (Reg.LAW_RSTAT e l) Fld.LAW_RSTAT_last = cause := by
  obtain ⟨hsec, hprev⟩ := lawAt_missed (cause := cause) (t := t) (hold := hold) h he hl
  have hlast := last_missed (e := e) (l := l) (cause := cause) (t := t) (hold := hold) h
  rw [Nat.mod_eq_of_lt hcause] at hlast
  rw [miss_eq]
  split
  · obtain ⟨hsec', hprev'⟩ := lawAt_reinBack (missed_inv (cause := cause) (t := t) (hold := hold) h) he hl
    exact ⟨hsec'.trans hsec, hprev'.trans hprev, (last_reinBack (missed_inv h)).trans hlast⟩
  · exact ⟨hsec, hprev, hlast⟩

end

/-! ## END (R134, R140, R166) -/

section
variable {c : Section} {t : Nat}

/-- The counters, the longest run and the last result of a complete execution, with its registers committed. -/
def State.counted (s : State) (e l : Nat) (c : Section) (t : Nat) : State :=
  let s' := if s.lawAhead e l then (s.commitBank e l c.sel).inc (if c.sel = .b then Reg.LAW_CNT_HITB e l else Reg.LAW_CNT_HITA e l) else s
  let s' := (s'.snapTags e l).inc (Reg.LAW_CNT_RUN e l)
  let s' := if (s.lawAt e l).anyTag then s'.inc (Reg.LAW_CNT_SAT e l) else s'
  let n := t + 1 - c.t
  let s' := if s'.fld (Reg.LAW_STAT e l) Fld.LAW_STAT_maxc < n then s'.setf (Reg.LAW_STAT e l) Fld.LAW_STAT_maxc n else s'
  s'.setLast e l (if s'.lawAhead e l && c.sel = .b then 2 else 1)

/-- What a complete execution leaves in the law, but for its section. -/
def LawSt.completed (w : LawSt) (due : Nat) (undo : EndUndo) : LawSt :=
  { w with
    outDue := some (due, w.staged), lastOut := w.staged, prevMissed := false, anyTag := false
    bounds := [], fbSet := noOutputs, bankA := {}, bankB := {}, held := [], undo := some undo }

/-- A complete execution counts, has its outputs due, posts the held writes and ends its section. -/
theorem completeRun_eq : ∃ undo : EndUndo, s.completeRun e l c t =
    ((((s.counted e l c t).modLaw e l (fun w => w.completed (c.t + (s.counted e l c t).lawL e l) undo)).each (s.lawAt e l).held
      (fun s h => s.present e h.1 (t + 1) (fun _ => .lawWrite e l h.2 c.t qValid))).endSection e l) := ⟨_, rfl⟩

theorem snapTags_inv (h : s.Inv) : (s.snapTags e l).Inv := (State.snapTags_keeps (K := 8192) rfl (Keeps.refl _ s)).inv h

/-- Without a lookahead the counters and the last result are all that changes of the registers, and no law changes. -/
theorem counted_plain (h : s.Inv) (he : e < 12) (hahead : s.lawAhead e l = false) :
    (s.counted e l c t).Inv ∧ (s.counted e l c t).lawAt e l = s.lawAt e l ∧ (s.counted e l c t).lawL e l = s.lawL e l ∧
      (s.counted e l c t).rd (Reg.LAW_CNT_RUN e l) = W (min ((s.rd (Reg.LAW_CNT_RUN e l)).toNat + 1) 0xFFFFFFFF) := by
  have hsnap := snapTags_inv (e := e) (l := l) h
  have hlaw : (s.snapTags e l).lawAt e l = s.lawAt e l := lawAt_modCe h he
  have hrd : ∀ a, (s.snapTags e l).rd a = s.rd a := fun _ => rfl
  unfold State.counted State.setLast
  rw [hahead]
  simp only [Bool.false_eq_true, if_false]
  generalize hx : (if (s.lawAt e l).anyTag = true then ((s.snapTags e l).inc (Reg.LAW_CNT_RUN e l)).inc (Reg.LAW_CNT_SAT e l)
    else (s.snapTags e l).inc (Reg.LAW_CNT_RUN e l)) = x
  have hxinv : x.Inv := by rw [← hx]; split <;> grind [inc_inv]
  have hxlaw : x.lawAt e l = s.lawAt e l := by
    rw [← hlaw, ← hx]
    exact lawAt_congr (by split <;> simp only [State.inc_ce]) e l
  have hxrun : x.rd (Reg.LAW_CNT_RUN e l) = W (min ((s.rd (Reg.LAW_CNT_RUN e l)).toNat + 1) 0xFFFFFFFF) := by
    rw [← hx]
    split <;> grind [inc_inv, rd_inc_same, rd_inc_other, Reg.LAW_CNT_RUN, Reg.LAW_CNT_SAT]
  have hxtime : x.rd (Reg.LAW_TIME e l) = s.rd (Reg.LAW_TIME e l) := by
    rw [← hx]
    split <;> grind [inc_inv, rd_inc_other, Reg.LAW_CNT_RUN, Reg.LAW_CNT_SAT, Reg.LAW_TIME]
  generalize hy : (if x.fld (Reg.LAW_STAT e l) Fld.LAW_STAT_maxc < t + 1 - c.t then
    x.setf (Reg.LAW_STAT e l) Fld.LAW_STAT_maxc (t + 1 - c.t) else x) = y
  have hyinv : y.Inv := by rw [← hy]; split <;> grind [setf_inv]
  refine ⟨setf_inv hyinv, ?_, ?_, ?_⟩
  · rw [← hxlaw]
    refine lawAt_congr ?_ e l
    rw [← hy, State.setf_ce]
    split <;> simp only [State.setf_ce]
  · unfold State.lawL State.fld
    rw [← hxtime, rd_setf_other hyinv (by unfold Reg.LAW_TIME Reg.LAW_RSTAT; omega), ← hy]
    split <;> grind [rd_setf_other, Reg.LAW_TIME, Reg.LAW_STAT]
  · rw [← hxrun, rd_setf_other hyinv (by unfold Reg.LAW_CNT_RUN Reg.LAW_RSTAT; omega), ← hy]
    split <;> grind [rd_setf_other, Reg.LAW_CNT_RUN, Reg.LAW_STAT]

/-- The execution of a law without a lookahead completes (R134, R140). -/
theorem completeRun_plain (h : s.Inv) (he : e < 12) (hl : l < 4) (hahead : s.lawAhead e l = false) :
    ((s.completeRun e l c t).lawAt e l).sec = none ∧
      ((s.completeRun e l c t).lawAt e l).outDue = some (c.t + s.lawL e l, (s.lawAt e l).staged) ∧
      (s.completeRun e l c t).rd (Reg.LAW_CNT_RUN e l) = W (min ((s.rd (Reg.LAW_CNT_RUN e l)).toNat + 1) 0xFFFFFFFF) := by
  obtain ⟨hinv, hlaw, hL, hrun⟩ := counted_plain (c := c) (t := t) h he hahead
  obtain ⟨undo, hrunEq⟩ := completeRun_eq (s := s) (e := e) (l := l) (c := c) (t := t)
  have hmod := modLaw_inv (e := e) (l := l) (f := fun w => w.completed (c.t + (s.counted e l c t).lawL e l) undo) hinv
  have hkeeps := fun z => each_present_keeps (s := z) (e := e) (t := t + 1) (s.lawAt e l).held (f := fun h => h.1)
    (g := fun h _ => Access.lawWrite e l h.2 c.t qValid)
  have heach := (hkeeps _).inv hmod
  rw [hrunEq]
  refine ⟨?_, ?_, ?_⟩
  · rw [lawAt_endSection heach he hl]
  · rw [lawAt_endSection heach he hl, lawAt_each_present he _ hmod, lawAt_modLaw_same hinv he hl, hlaw, hL]
    rfl
  rw [rd_endSection_other heach (by unfold Reg.LAW_CNT_RUN Reg.CE_STATUS; omega) (by unfold Reg.LAW_CNT_RUN Reg.LAW_RSTAT; omega),
    rd_congr ((hkeeps _).regs rfl)]
  exact hrun

/-- END of a lookahead section (R166). -/
theorem endOf_look (h : s.Inv) (he : e < 12) (hl : l < 4) (hc : c.look = true) :
    ((s.endOf e l c t).lawAt e l).sec = none ∧ (s.endOf e l c t).on (Reg.LAW_RSTAT e l) Fld.LAW_RSTAT_lah_valid = true ∧
      ((s.endOf e l c t).lawAt e l).outDue = (s.lawAt e l).outDue := by
  have hend := endSection_inv (e := e) (l := l) h
  have hlaw : (s.endOf e l c t).lawAt e l = { s.lawAt e l with sec := none, aheadEnd := some t } := by
    unfold State.endOf
    rw [if_pos hc, State.lawAt, State.setf_ceAt, ← State.lawAt, lawAt_modLaw_same hend he hl, lawAt_endSection h he hl]
  refine ⟨by rw [hlaw], ?_, by rw [hlaw]⟩
  unfold State.endOf
  rw [if_pos hc]
  exact on_setf_one (modLaw_inv hend) (by decide) (by decide)

end

/-! ## SKIP and the flags (R117, R125) -/

section
variable {op t : Nat} {fs : List (Field × Nat)} {w : Word} {c : Section} {u : CanUse}

theorem setNZ_inv (h : s.Inv) {z : Int} : (s.setNZ e z).Inv := modCe_inv h

theorem ceAt_setNZ (h : s.Inv) (he : e < 12) {z : Int} :
    (s.setNZ e z).ceAt e = { s.ceAt e with n := decide (z < 0), z := decide (z = 0) } := ceAt_modCe_same h he

theorem issued_setNZ (hs : s.Inv) (he : e < 12) (hl : l < 4) {z : Int} : Issued s e l c t ((s.issue e l w c t).setNZ e z) :=
  issued_of_next (u := s.useOf e l w) rfl (by rw [State.setNZ, lawAt_modCe (issue_inv hs) he]; exact sec_issue hs he hl)

/-- The conditions 0 to 11 of SKIP, as the state before the issue has them. -/
theorem skipTaken_issue (hs : s.Inv) (he : e < 12) (hl : l < 4) {cond r : Nat} (hcond : cond < 12) :
    (s.issue e l w c t).skipTaken e l (c.next u t) cond r =
      [true, (s.ceAt e).z, !(s.ceAt e).z, (s.ceAt e).n, !(s.ceAt e).n, !(s.ceAt e).n && !(s.ceAt e).z, (s.ceAt e).n || (s.ceAt e).z,
        s.dTag e l c.sel r, (s.ceAt e).prevTag.getD r false, (s.capture e l c (r % 8)).ovr,
        (s.capture e l c (r % 8)).q = qInit || (s.capture e l c (r % 8)).q = qInvalid, (s.lawAt e l).prevMissed].getD cond false := by
  obtain ⟨p, ls, hce⟩ := ceAt_issue (w := w) (c := c) (t := t) (e := e) (l := l) hs he
  unfold State.skipTaken
  rw [capture_issue hs he hl, dTag_issue hs he hl, lawAt_issue hs he hl, hce, Section.next_sel]
  interval_cases cond <;> rfl

end

/-! ## URG, INT -/

section
variable {op t : Nat} {fs : List (Field × Nat)} {w : Word} {c : Section} {u : CanUse}

theorem prevTag_issue (hs : s.Inv) (he : e < 12) : ((s.issue e l w c t).ceAt e).prevTag = (s.ceAt e).prevTag := by
  obtain ⟨p, ls, hce⟩ := ceAt_issue (w := w) (c := c) (t := t) (e := e) (l := l) hs he
  rw [hce]

theorem caps_issue (hs : s.Inv) (he : e < 12) (hl : l < 4) : ((s.issue e l w c t).lawAt e l).caps = (s.lawAt e l).caps := by
  rw [lawAt_issue hs he hl]

/-- SKIP goes on behind the words it passes over when its condition holds (R125). -/
theorem Issues.runs_skip {cond r n : Nat} (h : Issues s e l 0x02 [(fCond, cond), (fR, r), (fN, n)] c t) (hs : s.Inv) {b : Bool}
    (hb : (s.issue e l (canWord 0x02 [(fCond, cond), (fR, r), (fN, n)]) c t).skipTaken e l
      (c.next (s.useOf e l (canWord 0x02 [(fCond, cond), (fR, r), (fN, n)])) t) cond r = b) :
    Runs (.canSkip e l cond r n) s fun u =>
      u.dtb = max s.dtb t ∧ (u.lawAt e l).sec.map (fun k => k.pc) = some (c.pc + 1 + if b then n else 0) := by
  obtain ⟨he, hl⟩ := h.slot
  refine h.runs (exec_canSkip s) ?_
  rw [hb]
  cases b with
  | false =>
    simp only [Bool.false_eq_true, if_false]
    exact ⟨rfl, (h.issued hs).2⟩
  | true =>
    simp only [if_true]
    refine ⟨rfl, ?_⟩
    rw [lawAt_modSec (issue_inv hs) he hl, sec_issue hs he hl]
    rfl

/-- URG asks its unit, and the section waits for the answer. -/
theorem Issues.runs_urg {n k : Nat} (h : Issues s e l 0x30 [(fU, n), (fE, k)] c t) (hs : s.Inv) (hn : n < 16) :
    Runs (.canUrg e l n k) s fun u => Issued s e l c t u ∧ (u.lawAt e l).sec.map (fun r => r.urg) = some .issued ∧
      (u.auAt n).incoming = (s.auAt n).incoming ++ [{
        asker := { requester := 1 + e, law := l, start := c.t }, entry := k, arrive := t + 2 }] := by
  obtain ⟨he, hl⟩ := h.slot
  refine h.runs (exec_canUrg s) ?_
  have hi := issue_inv (e := e) (l := l) (w := canWord 0x30 [(fU, n), (fE, k)]) (c := c) (t := t) hs
  have hsec := lawAt_modSec (f := fun k => { k with urg := .issued }) hi he hl
  unfold State.urgentIssue
  rw [auAt_modAu_same (modSec_inv hi) hn]
  refine ⟨⟨rfl, ?_⟩, ?_, rfl⟩
  · rw [State.lawAt, State.modAu_ceAt, ← State.lawAt, hsec, sec_issue hs he hl]
    rfl
  · rw [State.lawAt, State.modAu_ceAt, ← State.lawAt, hsec, sec_issue hs he hl]
    rfl

/-- INT with a clear link tag is the write of a register pair. -/
theorem Issues.runs_int {n x g k : Nat} (h : Issues s e l 0x31 [(fD, n), (fX, x), (fY, g), (fZ, k)] c t) (hs : s.Inv) (hn : n < 63) :
    Runs (.canInt e l n x g k) s fun u => Issued s e l c t u ∧ ((s.ceAt e).prevTag.getD k false = true → (u.ceAt e).bank = (s.ceAt e).bank) ∧
      ((s.ceAt e).prevTag.getD k false = false → ∀ z, z = s.dx e l c n * 65536 + (ux 16 (s.dx e l c (n + 1)) : Int) + 2 * (s.dx e l c x * s.dx e l c g) →
        Holds u e l c.sel n (sat (-(2 ^ 31)) (2 ^ 31 - 1) z / 65536) (sat (-(2 ^ 31)) (2 ^ 31 - 1) z ≠ z) ∧
        Holds u e l c.sel (n + 1) (sat (-(2 ^ 31)) (2 ^ 31 - 1) z) (sat (-(2 ^ 31)) (2 ^ 31 - 1) z ≠ z)) := by
  obtain ⟨he, hl⟩ := h.slot
  refine h.runs (exec_canInt s) ?_
  dsimp only
  have hinv := issue_inv (e := e) (l := l) (w := canWord 0x31 [(fD, n), (fX, x), (fY, g), (fZ, k)]) (c := c) (t := t) hs
  rw [prevTag_issue hs he, h.dx hs, h.dx hs, h.dx hs, h.dx hs, Section.next_sel]
  split
  · next hlink =>
    obtain ⟨p, ls, hce⟩ := ceAt_issue (w := canWord 0x31 [(fD, n), (fX, x), (fY, g), (fZ, k)]) (c := c) (t := t) (l := l) hs he
    exact ⟨h.issued hs, fun _ => by rw [hce], fun hno => absurd (hno.symm.trans hlink) (by decide)⟩
  · next hlink =>
    generalize hv : sat (-(2 ^ 31)) (2 ^ 31 - 1)
      (s.dx e l c n * 65536 + (ux 16 (s.dx e l c (n + 1)) : Int) + 2 * (s.dx e l c x * s.dx e l c g)) = v
    generalize htag : decide (v ≠ s.dx e l c n * 65536 + (ux 16 (s.dx e l c (n + 1)) : Int) + 2 * (s.dx e l c x * s.dx e l c g)) = tag
    refine ⟨issued_dSet he hl (dSet_inv hinv) (dSet_dtb.trans issue_dtb) ((lawAt_dSet_sec hinv he hl).trans (sec_issue hs he hl)),
      fun hyes => absurd hyes hlink, ?_⟩
    rintro - z rfl
    rw [hv, htag]
    obtain ⟨hdlen, htlen⟩ := length_file_dSet (sel := c.sel) (k := n) (v := v / 65536) (a := tag) hinv he hl
    obtain ⟨hd64, ht64⟩ := h.file
    refine ⟨holds_dSet_other (dSet_inv hinv) he hl (by omega) (h.dSet_holds hinv (file_issue hs he hl _) (by omega) _ _),
      holds_sx_ux (Machine.dSet_holds (dSet_inv hinv) he hl ?_ ?_)⟩
    · rw [hdlen, file_issue hs he hl, hd64]; omega
    · rw [htlen, file_issue hs he hl, ht64]; omega

end

/-- Settles O18: control changes the section and the flags alone; END and a miss end the section. -/
theorem canterControl : Obligations.CanterControl := by
  intro s e l c tt hs
  refine ⟨fun h => ?nop, fun x y h => ?cmp, fun x h => ?tst, fun cond r n hcond hr hn h => ?skip, fun hahead hlook h => ?end_,
    fun hlook h => ?endLook, fun d k hd hk h => ?ldc, fun d k hd hk hurg h => ?ldu, fun d k hd hk hurg h => ?lduMiss,
    fun u k hu hk h => h.runs_urg hs hu, fun n x g k hn hk h => h.runs_int hs hn⟩
  case nop =>
    obtain ⟨he, hl⟩ := h.slot
    refine h.runs (exec_canNop s) ⟨h.issued hs, ?_⟩
    obtain ⟨p, ls, hce⟩ := ceAt_issue (w := canWord 0x00 []) (c := c) (t := tt) (l := l) hs he
    rw [hce]
    exact ⟨rfl, rfl⟩
  case cmp =>
    obtain ⟨he, hl⟩ := h.slot
    refine h.runs (exec_canCmp s) ?_
    rw [h.dx hs, h.dx hs, ceAt_setNZ (issue_inv hs) he]
    exact ⟨issued_setNZ hs he hl, decide_eq_decide.mpr sub_neg, decide_eq_decide.mpr sub_eq_zero⟩
  case tst =>
    obtain ⟨he, hl⟩ := h.slot
    refine h.runs (exec_canTst s) ?_
    rw [h.dx hs, ceAt_setNZ (issue_inv hs) he]
    exact ⟨issued_setNZ hs he hl, rfl, rfl⟩
  case skip => exact h.runs_skip hs (skipTaken_issue hs h.slot.1 h.slot.2 hcond)
  case end_ =>
    obtain ⟨he, hl⟩ := h.slot
    refine h.runs (exec_canEnd s) ?_
    have hinv := issue_inv (e := e) (l := l) (w := canWord 0x01 []) (c := c) (t := tt) hs
    have hno : ¬(c.next (s.useOf e l (canWord 0x01 [])) tt).look = true := by rw [Section.next_look, hlook]; decide
    obtain ⟨hsec, hdue, hrun⟩ := completeRun_plain (c := c.next (s.useOf e l (canWord 0x01 [])) tt) (t := tt) hinv he hl hahead
    rw [lawAt_issue hs he hl] at hdue
    unfold State.endOf
    rw [if_neg hno]
    exact ⟨(State.completeRun_keeps (K := 8834) rfl (Keeps.refl _ _)).dtb rfl, hsec, hdue, hrun⟩
  case endLook =>
    obtain ⟨he, hl⟩ := h.slot
    refine h.runs (exec_canEnd s) ?_
    have hend := endOf_look (c := c.next (s.useOf e l (canWord 0x01 [])) tt) (t := tt)
      (issue_inv (e := e) (l := l) (w := canWord 0x01 []) (c := c) (t := tt) hs) he hl hlook
    rwa [lawAt_issue hs he hl] at hend
  case ldc =>
    exact h.runs_writes hs hd (exec_canLdc s) ((s.capture e l c k).v.toInt, false) (by rw [capture_issue hs h.slot.1 h.slot.2])
  case ldu =>
    obtain ⟨he, hl⟩ := h.slot
    refine h.runs (exec_canLdu s) ?_
    rw [Section.next_urg, if_pos hurg, caps_issue hs he hl]
    exact ⟨issued_dSet he hl (issue_inv hs) issue_dtb (sec_issue hs he hl),
      h.dSet_holds (issue_inv hs) (file_issue hs he hl _) hd _ _⟩
  case lduMiss =>
    obtain ⟨he, hl⟩ := h.slot
    refine h.runs (exec_canLdu s) ?_
    rw [Section.next_urg, if_neg hurg]
    exact miss_holds (issue_inv hs) he hl (by decide)

end Sys2Proof.Machine
end

section
/-! PROOFS. The statements on the Paddock accesses, the outputs and the run-ahead instructions of the Canter engines (R122, R132,
R137, R158-R174). -/

namespace Sys2Proof.Machine

set_option Elab.async false

variable {s : State} {e l : Nat}

section
variable {op t : Nat} {fs : List (Field × Nat)} {w : Word} {c : Section} {u : CanUse}

/-! ## OUTD (R132) -/

theorem outPeriod_issue (k : Nat) : (s.issue e l w c t).outPeriod e l k = s.outPeriod e l k := rfl

/-- OUTD stages the compare word of the duty. -/
theorem Issues.runs_outd {k x : Nat} (h : Issues s e l 0x34 [(fKo, k), (fX, x)] c t) (hs : s.Inv) :
    Runs (.canOutd e l k x) s fun u => Issued s e l c t u ∧
      (c.look = false → (u.lawAt e l).staged = (s.lawAt e l).staged.set k (some (dutyWord (s.dx e l c x) (s.outPeriod e l k)))) ∧
      (c.look = true → (u.lawAt e l).fbSet = (s.lawAt e l).fbSet.set k (some (dutyWord (s.dx e l c x) (s.outPeriod e l k)))) := by
  obtain ⟨he, hl⟩ := h.slot
  refine h.runs (exec_canOutd s) ?_
  rw [h.dx hs, outPeriod_issue]
  refine ⟨issued_of_next (stage_dtb.trans issue_dtb) ((sec_stage (issue_inv hs) he hl).trans (sec_issue hs he hl)),
    fun hc => (staged_stage (issue_inv hs) he hl hc).trans ?_, fun hc => (fbSet_stage (issue_inv hs) he hl hc).trans ?_⟩
  · rw [lawAt_issue hs he hl]
  · rw [lawAt_issue hs he hl]

/-! ## Registers that wait for a read (R77, R137) -/

theorem awaitRegs_inv (h : s.Inv) {ds : List Nat} : (s.awaitRegs e l ds).Inv := modLaw_inv h

/-- The section after registers `ds` began to wait. -/
def Section.awaiting (c : Section) (ds : List Nat) : Section :=
  { c with sched := { c.sched with rdyD := ds.foldl (fun r d => r.set d none) c.sched.rdyD } }

theorem lawAt_awaitRegs (h : s.Inv) (he : e < 12) (hl : l < 4) {ds : List Nat} :
    (s.awaitRegs e l ds).lawAt e l = { s.lawAt e l with sec := (s.lawAt e l).sec.map (fun c => c.awaiting ds) } := lawAt_modSec h he hl

theorem ceAt_awaitRegs (h : s.Inv) (he : e < 12) {ds : List Nat} : ∃ ls, (s.awaitRegs e l ds).ceAt e = { s.ceAt e with laws := ls } :=
  ⟨_, ceAt_modLaw_same h he⟩

theorem length_foldl_set {α : Type} (ds : List Nat) (v : α) : ∀ l : List α, (ds.foldl (fun r d => r.set d v) l).length = l.length := by
  induction ds with
  | nil => exact fun _ => rfl
  | cons d ds ih => exact fun l => (ih (l.set d v)).trans List.length_set

/-- A register that began to wait is not ready. -/
theorem rdyD_awaiting {d : Nat} (hd : d < c.sched.rdyD.length) :
    ((c.next u t).awaiting [d]).sched.rdyD.getD d (some 0) = none := by
  have hlen : d < (c.next u t).sched.rdyD.length := (length_foldl_set u.dst (some (t + u.lat)) c.sched.rdyD).symm ▸ hd
  simp only [Section.awaiting, List.foldl_cons, List.foldl_nil, List.getD_eq_getElem?_getD, List.getElem?_set_self hlen, Option.getD_some]

/-! ## Paddock accesses (R77, R137) -/

theorem portNext_issue (h : s.Inv) (he : e < 12) : ((s.issue e l w c t).ceAt e).portNext = (s.ceAt e).portNext := by
  obtain ⟨p, ls, hce⟩ := ceAt_issue (w := w) (c := c) (t := t) (e := e) (l := l) h he
  rw [hce]

theorem portNext_present (h : s.Inv) (he : e < 12) {sg : Nat} {k : Nat → Access} :
    ((s.present e sg t k).ceAt e).portNext = max (t + 1) (s.ceAt e).portNext + 1 := by rw [ceAt_present h he]

theorem sec_present (h : s.Inv) (he : e < 12) {sg : Nat} {k : Nat → Access} :
    ((s.present e sg t k).lawAt e l).sec = (s.lawAt e l).sec := by rw [lawAt_present h he]

theorem ctlRatioOk_present {sg : Nat} {k : Nat → Access} : (s.present e sg t k).ctlRatioOk = s.ctlRatioOk := by
  unfold State.ctlRatioOk State.divNow
  rw [(State.present_keeps (K := 8832) rfl (Keeps.refl _ s)).clk rfl]

/-- LDS asks the bank of its signal, and the register waits. -/
theorem Issues.runs_lds {d sg : Nat} (h : Issues s e l 0x2C [(fD, d), (fSig, sg)] c t) (hs : s.Inv) (hd : d < c.sched.rdyD.length) :
    Runs (.canLds e l d sg) s fun v => Issued s e l c t v ∧ (∀ p, p = max (t + 1) (s.ceAt e).portNext → (v.ceAt e).portNext = p + 1 ∧
        (s.ctlRatioOk = true → v.paddock.waiting = s.paddock.waiting ++ [{ sig := sg, req := p, kind := .lawRead e l d c.sel c.t (t + 36) }])) ∧
      (v.ceAt e).port.getLast? = some none ∧ (v.lawAt e l).sec.map (fun r => r.sched.rdyD.getD d (some 0)) = some none := by
  obtain ⟨he, hl⟩ := h.slot
  refine h.runs (exec_canLds s) ?_
  rw [Section.next_sel, Section.next_t]
  have hi := issue_inv (e := e) (l := l) (w := canWord 0x2C [(fD, d), (fSig, sg)]) (c := c) (t := t) hs
  have hp := present_inv (e := e) (sg := sg) (t := t) (k := fun _ => .lawRead e l d c.sel c.t (t + 36)) hi
  obtain ⟨ls, hce⟩ := ceAt_awaitRegs (l := l) (ds := [d]) hp he
  rw [lawAt_awaitRegs hp he hl, hce, sec_present hi he, sec_issue hs he hl]
  refine ⟨⟨present_dtb.trans rfl, ?_⟩, ?_, ?_, ?_⟩
  · rw [lawAt_awaitRegs hp he hl, sec_present hi he, sec_issue hs he hl]
    rfl
  · rintro p rfl
    refine ⟨by rw [portNext_present hi he, portNext_issue hs he], fun hr => ?_⟩
    have hwait := waiting_present (e := e) (sg := sg) (t := t) (k := fun _ => .lawRead e l d c.sel c.t (t + 36))
      (s := s.issue e l (canWord 0x2C [(fD, d), (fSig, sg)]) c t) hr
    rwa [portNext_issue hs he] at hwait
  · rw [ceAt_present hi he, List.getLast?_append]
    rfl
  · exact congrArg some (rdyD_awaiting hd)

/-- STS posts its write, or a settle section holds it. -/
theorem Issues.runs_sts {d sg : Nat} (h : Issues s e l 0x2D [(fD, d), (fSig, sg)] c t) (hs : s.Inv) :
    Runs (.canSts e l d sg) s fun v => Issued s e l c t v ∧ (s.lawAhead e l = false → ∀ p, p = max (t + 1) (s.ceAt e).portNext →
        (v.ceAt e).port.getLast? = some none ∧ (v.ceAt e).portNext = p + 1 ∧
        (s.ctlRatioOk = true → v.paddock.waiting = s.paddock.waiting ++ [{ sig := sg, req := p, kind := .lawWrite e l (Wi (s.dx e l c d)) c.t qValid }])) ∧
      (s.lawAhead e l = true → (v.lawAt e l).held = (s.lawAt e l).held ++ [(sg, Wi (s.dx e l c d))]) := by
  obtain ⟨he, hl⟩ := h.slot
  refine h.runs (exec_canSts s) ?_
  dsimp only
  have hi := issue_inv (e := e) (l := l) (w := canWord 0x2D [(fD, d), (fSig, sg)]) (c := c) (t := t) hs
  have hahead : (s.issue e l (canWord 0x2D [(fD, d), (fSig, sg)]) c t).lawAhead e l = s.lawAhead e l := rfl
  rw [h.dx hs, hahead, Section.next_t]
  cases hb : s.lawAhead e l with
  | true =>
    simp only [if_true]
    refine ⟨⟨rfl, ?_⟩, fun hno => absurd hno (by decide), fun _ => ?_⟩
    · rw [lawAt_modLaw_same hi he hl, sec_issue hs he hl]
      rfl
    · rw [lawAt_modLaw_same hi he hl, lawAt_issue hs he hl]
  | false =>
    simp only [Bool.false_eq_true, if_false]
    refine ⟨⟨present_dtb.trans rfl, ?_⟩, fun _ p hp => ?_, fun hno => absurd hno (by decide)⟩
    · rw [sec_present hi he, sec_issue hs he hl]
      rfl
    · subst hp
      refine ⟨?_, by rw [portNext_present hi he, portNext_issue hs he], fun hr => ?_⟩
      · rw [ceAt_present hi he, List.getLast?_append]
        rfl
      · have hwait := waiting_present (e := e) (sg := sg) (t := t) (k := fun _ => .lawWrite e l (Wi (s.dx e l c d)) c.t qValid)
          (s := s.issue e l (canWord 0x2D [(fD, d), (fSig, sg)]) c t) hr
        rwa [portNext_issue hs he] at hwait

/-! ## TLT (R122) -/

/-- Four accesses one after another take four cycles of the port. -/
theorem present_four (h : s.Inv) (he : e < 12) {g0 g1 g2 g3 p : Nat} {k0 k1 k2 k3 : Access} (hp : p = max (t + 1) (s.ceAt e).portNext)
    {v : State} (hv : v = (((s.present e g0 t fun _ => k0).present e g1 t fun _ => k1).present e g2 t fun _ => k2).present e g3 t fun _ => k3) :
    v.Inv ∧ v.dtb = s.dtb ∧ v.lawAt e l = s.lawAt e l ∧ (v.ceAt e).portNext = p + 4 ∧
      (s.ctlRatioOk = true → v.paddock.waiting = s.paddock.waiting ++ [{ sig := g0, req := p, kind := k0 }, { sig := g1, req := p + 1, kind := k1 },
        { sig := g2, req := p + 2, kind := k2 }, { sig := g3, req := p + 3, kind := k3 }]) := by
  have h0 := present_inv (e := e) (sg := g0) (t := t) (k := fun _ => k0) h
  have h1 := present_inv (e := e) (sg := g1) (t := t) (k := fun _ => k1) h0
  have h2 := present_inv (e := e) (sg := g2) (t := t) (k := fun _ => k2) h1
  subst hv
  refine ⟨present_inv h2, ?_, ?_, ?_, fun hr => ?_⟩
  · rw [present_dtb, present_dtb, present_dtb, present_dtb]
  · rw [lawAt_present h2 he, lawAt_present h1 he, lawAt_present h0 he, lawAt_present h he]
  · rw [portNext_present h2 he, portNext_present h1 he, portNext_present h0 he, portNext_present h he]
    omega
  · have hmax1 : max (t + 1) (p + 1) = p + 1 := by omega
    have hmax2 : max (t + 1) (p + 1 + 1) = p + 2 := by omega
    have hmax3 : max (t + 1) (p + 2 + 1) = p + 3 := by omega
    rw [waiting_present (by rw [ctlRatioOk_present, ctlRatioOk_present, ctlRatioOk_present, hr]),
      waiting_present (by rw [ctlRatioOk_present, ctlRatioOk_present, hr]), waiting_present (by rw [ctlRatioOk_present, hr]), waiting_present hr,
      portNext_present h1 he, portNext_present h0 he, portNext_present h he, ← hp, hmax1, hmax2, hmax3]
    simp only [List.append_assoc, List.cons_append, List.nil_append]

theorem awaitRegs_dtb {ds : List Nat} : (s.awaitRegs e l ds).dtb = s.dtb := rfl

/-- TLT asks for the four entries around its indices, and the registers of the result wait. -/
theorem Issues.runs_tlt {d x y t0 : Nat} (h : Issues s e l 0x29 [(fD, d), (fX, x), (fY, y), (fT, t0)] c t) (hs : s.Inv) :
    Runs (.canTlt e l d x y t0) s fun v => Issued s e l c t v ∧ ∀ nx ny sg i j i' j' p, nx = s.fld (Reg.CE_TBL e t0) Fld.CE_TBL_nx → nx ≤ 7 →
      ny = s.fld (Reg.CE_TBL e t0) Fld.CE_TBL_ny → ny ≤ 7 →
      sg = s.fld (Reg.CE_TBL e t0) Fld.CE_TBL_sig → i = (max (s.dx e l c x) 0).toNat / 2 ^ (15 - nx) → j = (max (s.dx e l c y) 0).toNat / 2 ^ (15 - ny) →
      i' = (if i + 1 = 2 ^ nx then i else i + 1) → j' = (if j + 1 = 2 ^ ny then j else j + 1) →
      p = max (t + 1) (s.ceAt e).portNext → (v.lawAt e l).seg = i ∧ (v.ceAt e).portNext = p + 4 ∧
        (s.ctlRatioOk = true → v.paddock.waiting = s.paddock.waiting ++ [
          { sig := sg + 2 ^ nx * j + i, req := p, kind := .lawTable e l p 0 }, { sig := sg + 2 ^ nx * j + i', req := p + 1, kind := .lawTable e l p 1 },
          { sig := sg + 2 ^ nx * j' + i, req := p + 2, kind := .lawTable e l p 2 }, { sig := sg + 2 ^ nx * j' + i', req := p + 3, kind := .lawTable e l p 3 }]) := by
  obtain ⟨he, hl⟩ := h.slot
  refine h.runs (exec_canTlt s) ?_
  have hi := issue_inv (e := e) (l := l) (w := canWord 0x29 [(fD, d), (fX, x), (fY, y), (fT, t0)]) (c := c) (t := t) hs
  dsimp only
  rw [h.dx hs, h.dx hs, tableIdx_eq, tableIdx_eq, issue_fld, issue_fld, issue_fld, portNext_issue hs he]
  dsimp only
  generalize hv : ((((s.issue e l (canWord 0x29 [(fD, d), (fX, x), (fY, y), (fT, t0)]) c t).present e _ t _).present e _ t _).present e _ t _).present e _ t _ = v
  obtain ⟨hvInv, hvDtb, hvLaw, hvNext, hvWait⟩ := present_four (l := l) hi he rfl hv.symm
  rw [portNext_issue hs he] at hvNext hvWait
  have hmod := fun f => modLaw_inv (e := e) (l := l) (f := f) hvInv
  refine ⟨⟨hvDtb, ?_⟩, ?_⟩
  · rw [lawAt_awaitRegs (setSeg_inv (hmod _)) he hl, lawAt_setSeg (hmod _) he hl, lawAt_modLaw_same hvInv he hl, hvLaw, sec_issue hs he hl]
    rfl
  · rintro nx ny sg i j i' j' p rfl - rfl - rfl rfl rfl rfl rfl rfl
    refine ⟨?_, ?_, hvWait⟩
    · rw [lawAt_awaitRegs (setSeg_inv (hmod _)) he hl, lawAt_setSeg (hmod _) he hl]
    · rw [← hvNext]
      unfold State.awaitRegs State.modSec State.setSeg
      rw [ceAt_modLaw_same (modLaw_inv (hmod _)) he, ceAt_modLaw_same (hmod _) he, ceAt_modLaw_same hvInv he]

/-! ## BND, SEL, PRD, CORR (R158-R174) -/

theorem prediction_issue (hs : s.Inv) (he : e < 12) (hl : l < 4) (k : Nat) (sel : BankSel) :
    (s.issue e l w c t).prediction e l k sel = s.prediction e l k sel := by
  unfold State.prediction State.dGet
  rw [lawAt_issue hs he hl, file_issue hs he hl]
  rfl

theorem selOutcome_issue (hs : s.Inv) (he : e < 12) (hl : l < 4) (fresh : List Bool) :
    (s.issue e l w c t).selOutcome e l fresh = s.selOutcome e l fresh := by
  have hbound : (s.issue e l w c t).boundHolds e l = s.boundHolds e l := by
    funext b
    unfold State.boundHolds
    rw [lawAt_issue hs he hl]
    rfl
  unfold State.selOutcome
  rw [hbound, lawAt_issue hs he hl]
  rfl

theorem sel_of_next {k : Section} (h : (s.lawAt e l).sec.map (s.inPart e l) = some k) :
    k.sel = if k.look then s.partOf e l k.pc else k.sel := by
  obtain ⟨c0, -, rfl⟩ := Option.map_eq_some_iff.mp h
  unfold State.inPart
  dsimp only
  split <;> rfl

/-- BND replaces the bound of its branch and capture. -/
theorem Issues.runs_bnd {b k lo hi : Nat} (h : Issues s e l 0x39 [(fBb, b), (fKb, k), (fY, lo), (fZ, hi)] c t) (hs : s.Inv) :
    Runs (.canBnd e l b k lo hi) s fun u => Issued s e l c t u ∧
      (u.lawAt e l).sec.map (fun r => r.sel) = some (if c.look then s.partOf e l c.pc else c.sel) ∧
      (u.lawAt e l).bounds = (s.lawAt e l).bounds.filter (fun y => !(y.branch = b && y.cap = k)) ++
        [{ branch := b, cap := k, lo := s.dGet e l c.sel lo, hi := s.dGet e l c.sel hi }] := by
  obtain ⟨he, hl⟩ := h.slot
  refine h.runs (exec_canBnd s) ?_
  have hinv := issue_inv (e := e) (l := l) (w := canWord 0x39 [(fBb, b), (fKb, k), (fY, lo), (fZ, hi)]) (c := c) (t := t) hs
  have hget : ∀ x, (s.issue e l (canWord 0x39 [(fBb, b), (fKb, k), (fY, lo), (fZ, hi)]) c t).dGet e l c.sel x = s.dGet e l c.sel x :=
    fun x => dx_issue (u := {}) hs he hl x
  rw [← sel_of_next h.running.1, Section.next_sel, hget, hget]
  dsimp only
  refine ⟨⟨rfl, ?_⟩, ?_, ?_⟩
  · rw [lawAt_modLaw_same hinv he hl, sec_issue hs he hl]
    rfl
  · rw [lawAt_modLaw_same hinv he hl, sec_issue hs he hl]
    rfl
  · rw [lawAt_modLaw_same hinv he hl, lawAt_issue hs he hl]

theorem selTail_keeps (x : Nat) : Keeps 9856 s (s.selTail e l c x) := State.selTail_keeps rfl (Keeps.refl _ s)

/-- A SEL that fits no bank ends the section in cycle T + 4, behind the instruction that still issued (R170, R174). -/
theorem sel_misses (hs : s.Inv) (he : e < 12) (hl : l < 4) {cause x a start : Nat} {v : State} (hcause : cause < 2 ^ Fld.LAW_RSTAT_last.len)
    (ha : Reg.LAW_RSTAT e l ≠ a) (hv : v = (((s.selTail e l c x).reach (x + 2)).miss e l cause start false).inc a) :
    (v.lawAt e l).sec = none ∧ (v.lawAt e l).prevMissed = true ∧ v.dtb = max s.dtb (x + 2) ∧
      v.fld (Reg.LAW_RSTAT e l) Fld.LAW_RSTAT_last = cause := by
  have htail := reach_inv (t := x + 2) ((selTail_keeps (e := e) (l := l) (c := c) x).inv hs)
  obtain ⟨hsec, hprev, hlast⟩ := miss_holds (cause := cause) (t := start) (hold := false) htail he hl hcause
  subst hv
  rw [State.inc_dtb, miss_dtb, State.lawAt, State.inc_ceAt, ← State.lawAt, fld_inc_other (miss_inv htail) ha]
  exact ⟨hsec, hprev, congrArg (max · (x + 2)) ((selTail_keeps x).dtb rfl), hlast⟩

/-- SEL goes on in the bank whose bounds hold, or misses. -/
theorem Issues.runs_sel (h : Issues s e l 0x3A [] c t) (hs : s.Inv) : Runs (.canSel e l) s fun u =>
    (s.selOutcome e l ((s.lawAt e l).snap.map (·.fresh)) = 1 → (u.lawAt e l).sec.map (fun r => r.sel) = some .a) ∧
    (s.selOutcome e l ((s.lawAt e l).snap.map (·.fresh)) = 2 → (u.lawAt e l).sec.map (fun r => r.sel) = some .b) ∧
    (s.selOutcome e l ((s.lawAt e l).snap.map (·.fresh)) = 3 → (u.lawAt e l).sec = none ∧ (u.lawAt e l).prevMissed = true ∧
      u.dtb = max s.dtb (t + 2) ∧ u.fld (Reg.LAW_RSTAT e l) Fld.LAW_RSTAT_last = 3) ∧
    (s.selOutcome e l ((s.lawAt e l).snap.map (·.fresh)) = 4 → (u.lawAt e l).sec = none ∧ (u.lawAt e l).prevMissed = true ∧
      u.dtb = max s.dtb (t + 2) ∧ u.fld (Reg.LAW_RSTAT e l) Fld.LAW_RSTAT_last = 4) := by
  obtain ⟨he, hl⟩ := h.slot
  refine h.runs (exec_canSel s) ?_
  have hinv := issue_inv (e := e) (l := l) (w := canWord 0x3A []) (c := c) (t := t) hs
  have hsnap : ((s.issue e l (canWord 0x3A []) c t).lawAt e l).snap = (s.lawAt e l).snap := by rw [lawAt_issue hs he hl]
  have hsel : ∀ sel, (((s.issue e l (canWord 0x3A []) c t).modSec e l (fun k => { k with sel := sel })).lawAt e l).sec.map (fun r => r.sel) = some sel := by
    intro sel
    rw [lawAt_modSec hinv he hl, sec_issue hs he hl]
    rfl
  have hdtb : max (s.issue e l (canWord 0x3A []) c t).dtb (t + 2) = max s.dtb (t + 2) := by
    rw [issue_dtb]
    omega
  rw [selOutcome_issue hs he hl, hsnap, ← hdtb]
  refine ⟨fun ho => ?_, fun ho => ?_, fun ho => ?_, fun ho => ?_⟩
  · rw [ho]; exact hsel .a
  · rw [ho]; exact hsel .b
  · rw [ho]; exact sel_misses hinv he hl (by decide) (by unfold Reg.LAW_RSTAT Reg.LAW_CNT_NOFIT; omega) rfl
  · rw [ho]; exact sel_misses hinv he hl (by decide) (by unfold Reg.LAW_RSTAT Reg.LAW_CNT_LSMP; omega) rfl

/-- CORR writes the corrected value, saturated. -/
theorem Issues.runs_corr {d x g k : Nat} (h : Issues s e l 0x3B [(fD, d), (fX, x), (fY, g), (fK, k)] c t) (hs : s.Inv) (hd : d < 64) :
    Runs (.canCorr e l d x g k) s fun u => Issued s e l c t u ∧ ∀ df, df = (s.capture e l c k).v.toInt - s.prediction e l k c.sel →
      (s.fld (Reg.LAW_PRD e l k) Fld.LAW_PRD_kind ≠ 2 → HoldsSat u e l c.sel d ((s.dx e l c x * 32768 + s.dx e l c g * df + 2 ^ 14) / 2 ^ 15)) ∧
      (s.fld (Reg.LAW_PRD e l k) Fld.LAW_PRD_kind = 2 → HoldsSat u e l c.sel d ((s.dx e l c x * 32768 + s.dx e l c g * sx 16 (ux 16 df) + 2 ^ 14) / 2 ^ 15)) := by
  obtain ⟨he, hl⟩ := h.slot
  refine h.runs (exec_canCorr s) ?_
  dsimp only
  rw [capture_issue hs he hl, prediction_issue hs he hl, Section.next_sel, h.dx hs, h.dx hs, issue_fld]
  refine ⟨issued_dSet he hl (issue_inv hs) issue_dtb (sec_issue hs he hl), ?_⟩
  rintro df rfl
  have hput : ∀ z, HoldsSat ((s.issue e l (canWord 0x3B [(fD, d), (fX, x), (fY, g), (fK, k)]) c t).putSat e l
      (c.next (s.useOf e l (canWord 0x3B [(fD, d), (fX, x), (fY, g), (fK, k)])) t) d z) e l c.sel d z :=
    fun z => h.dSet_holds (issue_inv hs) (file_issue hs he hl _) hd _ _
  constructor
  · intro hkind
    rw [if_neg hkind]
    exact hput _
  · intro hkind
    rw [if_pos hkind]
    exact hput _

end

/-- Settles O21: the compare word of R132 is that of OUTD, with the period value of the running generator. -/
theorem dutyOutputs : Obligations.DutyOutputs := by
  intro s e l c tt k x g b P hs _ h hmap hrun hP
  obtain ⟨u, hu, hissued, hstaged, hfb⟩ := h.runs_outd hs
  have hper : (s.outPeriod e l k : Int) = P := by
    unfold State.outPeriod
    rw [hmap, hP]
    simp only [hrun, if_true]
  refine ⟨u, hu, hissued, ?_⟩
  rintro w rfl
  have hword : dutyWord (s.dx e l c x) (s.outPeriod e l k) = (if s.dx e l c x ≤ 0 then 0 else if s.dx e l c x = 32767 then 0x3FFFFF else
        if 64 * P ≤ (s.dx e l c x * P * 64 + 2 ^ 14) / 2 ^ 15 then 0x3FFFFF else W ((s.dx e l c x * P * 64 + 2 ^ 14) / 2 ^ 15).toNat) := by
    unfold dutyWord rnd
    rw [hper]
  rw [← hword]
  exact ⟨hstaged, hfb⟩

/-- Settles O17: the accesses take the cycles of the engine's port, and the run-ahead instructions read the law as it stands. -/
theorem canterPaths : Obligations.CanterPaths := by
  intro s e l c tt hs
  exact ⟨fun d sg _ _ hlen h => h.runs_lds hs hlen, fun d sg _ _ h => h.runs_sts hs, fun d x y t0 _ _ h => h.runs_tlt hs,
    fun k x _ h => h.runs_outd hs,
    fun d k hd _ h => h.runs_writes hs hd (exec_canPrd s) (s.prediction e l k c.sel, false) (prediction_issue hs h.slot.1 h.slot.2 k c.sel ▸ rfl),
    fun b k lo hi _ _ h => h.runs_bnd hs, fun h => h.runs_sel hs, fun d x g k hd _ h => h.runs_corr hs hd⟩

end Sys2Proof.Machine
end

section
/-! PROOFS. What a Canter instruction leaves unchanged: the other engines and laws, and the registers, tags, accumulators and flags
that its word does not write (R113, R114, R117, R123). -/

namespace Sys2Proof.Machine

set_option Elab.async false

/-! ## The registers that a word writes -/

section
variable {w : Word}

theorem fD_mem_dst (h : canOp w ∈ [0x08, 0x09, 0x0A, 0x0B, 0x0C, 0x0D, 0x0E, 0x0F, 0x10, 0x11, 0x12, 0x1F, 0x20, 0x21, 0x22, 0x23, 0x24, 0x25,
    0x26, 0x28, 0x2A, 0x2E, 0x2F, 0x31, 0x38, 0x3B]) : Word.get w fD ∈ (canUse w).dst := by
  simp only [List.mem_cons, List.not_mem_nil, or_false] at h
  rcases h with h | h | h | h | h | h | h | h | h | h | h | h | h | h | h | h | h | h | h | h | h | h | h | h | h | h <;> simp [canUse, h]

theorem fD_succ_mem_dst (h : canOp w ∈ [0x20, 0x21, 0x22, 0x23, 0x24, 0x31]) : Word.get w fD + 1 ∈ (canUse w).dst := by
  simp only [List.mem_cons, List.not_mem_nil, or_false] at h
  rcases h with h | h | h | h | h | h <;> simp [canUse, h]

theorem fD_third_mem_dst (h : canOp w = 0x24) : Word.get w fD + 2 ∈ (canUse w).dst := by simp [canUse, h]

theorem fA_mem_adst (h : canOp w ∈ [0x14, 0x15, 0x16, 0x17, 0x18, 0x19, 0x1A, 0x1B, 0x1C, 0x1D, 0x1E]) : Word.get w fA ∈ (canUse w).adst := by
  simp only [List.mem_cons, List.not_mem_nil, or_false] at h
  rcases h with h | h | h | h | h | h | h | h | h | h | h <;> simp [canUse, h]

theorem fA_succ_mem_adst (h : canOp w = 0x19) : Word.get w fA + 1 ∈ (canUse w).adst := by simp [canUse, h]

theorem writesFlags_of (h : canOp w ∈ [0x03, 0x04]) : (canUse w).writesFlags = true := by
  simp only [List.mem_cons, List.not_mem_nil, or_false] at h
  rcases h with h | h <;> simp [canUse, h]

end

/-! ## What an effect leaves of its engine -/

/-- What an effect keeps of its engine: registers of the register files, the previous tags, accumulators, and the flags. -/
structure Extent where
  files : BankSel → Nat → Prop
  tags : Prop
  acc : Nat → Prop
  flags : Prop

/-- Of the engine `c` the update `c'` leaves the other laws and what the extent keeps. -/
structure CeLeft (l : Nat) (x : Extent) (c c' : CeSt) : Prop where
  laws : ∀ l', l' ≠ l → c'.laws.getD l' {} = c.laws.getD l' {}
  prevTag : x.tags → c'.prevTag = c.prevTag
  files : ∀ sel k, x.files sel k →
    (c'.file l sel).d.getD k 0 = (c.file l sel).d.getD k 0 ∧ (c'.file l sel).tag.getD k false = (c.file l sel).tag.getD k false
  acc : ∀ a, x.acc a → c'.acc.getD a 0 = c.acc.getD a 0
  flags : x.flags → c'.n = c.n ∧ c'.z = c.z

/-- The state `t` differs from `s` in its engines by what engine `e` may change of itself. -/
structure Left (e l : Nat) (x : Extent) (s t : State) : Prop where
  engines : ∀ e', e' ≠ e → t.ceAt e' = s.ceAt e'
  engine : CeLeft l x (s.ceAt e) (t.ceAt e)

variable {e l : Nat} {x : Extent} {s t u : State}

theorem CeLeft.refl (c : CeSt) : CeLeft l x c c :=
  ⟨fun _ _ => rfl, fun _ => rfl, fun _ _ _ => ⟨rfl, rfl⟩, fun _ _ => rfl, fun _ => ⟨rfl, rfl⟩⟩

theorem CeLeft.trans {a b c : CeSt} (h : CeLeft l x a b) (g : CeLeft l x b c) : CeLeft l x a c where
  laws l' hl := (g.laws l' hl).trans (h.laws l' hl)
  prevTag ht := (g.prevTag ht).trans (h.prevTag ht)
  files sel k hk := ⟨(g.files sel k hk).1.trans (h.files sel k hk).1, (g.files sel k hk).2.trans (h.files sel k hk).2⟩
  acc a ha := (g.acc a ha).trans (h.acc a ha)
  flags hf := ⟨(g.flags hf).1.trans (h.flags hf).1, (g.flags hf).2.trans (h.flags hf).2⟩

theorem Left.refl (s : State) : Left e l x s s := ⟨fun _ _ => rfl, CeLeft.refl _⟩

theorem Left.trans (h : Left e l x s t) (g : Left e l x t u) : Left e l x s u :=
  ⟨fun e' he => (g.engines e' he).trans (h.engines e' he), h.engine.trans g.engine⟩

/-- An update that leaves the engines. -/
theorem Left.of_ce (h : t.ce = s.ce) : Left e l x s t :=
  ⟨fun e' _ => ceAt_congr h e', ceAt_congr h e ▸ CeLeft.refl _⟩

theorem Left.of_keeps {K : Nat} (h : Keeps K s t) (hK : K.testBit 13 = false) : Left e l x s t := Left.of_ce (h.ce hK)

theorem Left.ite {b : Prop} [Decidable b] (ht : Left e l x s t) (hu : Left e l x s u) : Left e l x s (if b then t else u) := by
  split <;> assumption

theorem Left.modCe {f : CeSt → CeSt} (hf : ∀ c, CeLeft l x c (f c)) : Left e l x s (s.modCe e f) where
  engines _ he := getD_modify_other _ _ _ _ _ (Ne.symm he)
  engine := by
    by_cases he : e < s.ce.length
    · have hget : (s.modCe e f).ceAt e = f (s.ceAt e) := getD_modify_same _ _ _ _ he
      rw [hget]
      exact hf _
    · have hget : (s.modCe e f).ceAt e = s.ceAt e := by
        unfold State.ceAt
        rw [State.modCe_own, List.modify_eq_self (by omega)]
      rw [hget]
      exact CeLeft.refl _

/-- An update of the law that leaves the banks of the extent's register files. -/
theorem CeLeft.modLaw {f : LawSt → LawSt} (hA : ∀ k, x.files .a k ∨ x.files .both k → ∀ w, (f w).bankA = w.bankA := by intros; rfl)
    (hB : ∀ k, x.files .b k → ∀ w, (f w).bankB = w.bankB := by intros; rfl) (c : CeSt) :
    CeLeft l x c { c with laws := c.laws.modify l f } where
  laws _ hl := getD_modify_other _ _ _ _ _ (Ne.symm hl)
  prevTag _ := rfl
  files sel k hsel := by
    by_cases hl : l < c.laws.length
    · have hget := getD_modify_same c.laws l f {} hl
      cases sel with
      | committed => exact ⟨rfl, rfl⟩
      | a => simp only [CeSt.file, hget, hA k (.inl hsel), and_self]
      | b => simp only [CeSt.file, hget, hB k hsel, and_self]
      | both => simp only [CeSt.file, hget, hA k (.inr hsel), and_self]
    · rw [List.modify_eq_self (by omega)]
      exact ⟨rfl, rfl⟩
  acc _ _ := rfl
  flags _ := ⟨rfl, rfl⟩

theorem Left.modLaw {f : LawSt → LawSt} (hA : ∀ k, x.files .a k ∨ x.files .both k → ∀ w, (f w).bankA = w.bankA := by intros; rfl)
    (hB : ∀ k, x.files .b k → ∀ w, (f w).bankB = w.bankB := by intros; rfl) : Left e l x s (s.modLaw e l f) :=
  Left.modCe (CeLeft.modLaw hA hB)

/-- A register write leaves the other registers of every register file. -/
theorem CeLeft.modFile {sel : BankSel} {k : Nat} {v : Half} {b : Bool} (hk : ∀ sel, ¬x.files sel k) (c : CeSt) :
    CeLeft l x c (c.modFile l sel (fun r => r.write k v b)) where
  laws l' hl := by
    cases sel with
    | committed => rfl
    | a => exact getD_modify_other _ _ _ _ _ (Ne.symm hl)
    | b => exact getD_modify_other _ _ _ _ _ (Ne.symm hl)
    | both => exact getD_modify_other _ _ _ _ _ (Ne.symm hl)
  prevTag _ := by cases sel <;> rfl
  files sel' j hj := by
    have hjk : k ≠ j := fun h => hk sel' (h ▸ hj)
    have hwrite : ∀ r : Bank, (r.write k v b).d.getD j 0 = r.d.getD j 0 ∧ (r.write k v b).tag.getD j false = r.tag.getD j false := fun r => by
      simp [Bank.write, List.getD_eq_getElem?_getD, List.getElem?_set_ne hjk]
    by_cases hl : l < c.laws.length
    · have hget := fun f => getD_modify_same c.laws l f {} hl
      cases sel <;> cases sel' <;> simp only [CeSt.modFile, CeSt.file, hget, hwrite, and_self]
    · have hself := fun f => List.modify_eq_self (f := f) (l := c.laws) (i := l) (by omega)
      cases sel <;> cases sel' <;> simp only [CeSt.modFile, CeSt.file, hself, hwrite, and_self]
  acc _ _ := by cases sel <;> rfl
  flags _ := by cases sel <;> exact ⟨rfl, rfl⟩

/-- A register write of the extent. -/
theorem Left.dSet {sel : BankSel} {k : Nat} {v : Int} {b : Bool} (hk : ∀ sel, ¬x.files sel k) : Left e l x s (s.dSet e l sel k v b) := by
  unfold State.dSet
  have hfile : Left e l x s (s.modCe e (fun c => c.modFile l sel (fun r => r.write k (BitVec.ofInt 16 v) b))) := Left.modCe (CeLeft.modFile hk)
  exact Left.ite (hfile.trans ((Left.of_ce (State.setb_ce _)).trans Left.modLaw)) hfile

/-- An accumulator write of the extent. -/
theorem Left.putAcc {a : Nat} {z : Int} (ha : ¬x.acc a) : Left e l x s (s.putAcc e l a z) := by
  unfold State.putAcc
  have hacc : Left e l x s (s.modCe e (fun c => { c with acc := c.acc.set a (BitVec.ofInt 40 (satAcc z).1) })) := by
    refine Left.modCe fun c => ⟨fun _ _ => rfl, fun _ => rfl, fun sel _ _ => by cases sel <;> exact ⟨rfl, rfl⟩, fun b hb => ?_, fun _ => ⟨rfl, rfl⟩⟩
    have hab : a ≠ b := fun h => ha (h ▸ hb)
    simp [List.getD_eq_getElem?_getD, List.getElem?_set_ne hab]
  exact Left.ite (hacc.trans (Left.of_ce (State.setb_ce _))) hacc

theorem Left.setNZ {z : Int} (hf : ¬x.flags) : Left e l x s (s.setNZ e z) :=
  Left.modCe fun _ => ⟨fun _ _ => rfl, fun _ => rfl, fun sel _ _ => by cases sel <;> exact ⟨rfl, rfl⟩, fun _ _ => rfl,
    fun h => absurd h hf⟩

/-- An update of the engine's port alone. -/
theorem Left.port {f : CeSt → CeSt} (hf : ∀ c, ∃ p n, f c = { c with port := p, portNext := n }) : Left e l x s (s.modCe e f) := by
  refine Left.modCe fun c => ?_
  obtain ⟨p, n, hc⟩ := hf c
  rw [hc]
  exact ⟨fun _ _ => rfl, fun _ => rfl, fun sel _ _ => by cases sel <;> exact ⟨rfl, rfl⟩, fun _ _ => rfl, fun _ => ⟨rfl, rfl⟩⟩

theorem Left.present {sg n : Nat} {k : Nat → Access} : Left e l x s (s.present e sg n k) :=
  (Left.port fun _ => ⟨_, _, rfl⟩).trans (Left.of_keeps (State.bankAsk_keeps (K := 640) rfl (Keeps.refl _ _)) rfl)

theorem Left.each {α : Type} {f : State → α → State} (hf : ∀ s a, Left e l x s (f s a)) : ∀ (xs : List α) (s : State), Left e l x s (s.each xs f)
  | [], s => Left.refl s
  | a :: xs, s => (hf s a).trans (Left.each hf xs (f s a))

theorem Left.endSection : Left e l x s (s.endSection e l) :=
  (Left.modLaw (f := fun w => { w with sec := none })).trans (Left.of_ce rfl)

/-- The issue of an instruction. -/
theorem Left.canIssue {w : Word} {f : State → Section → Nat → State} (hf : ∀ r c n, r.regs = s.regs → Left e l x r (f r c n)) : Left e l x s (s.canIssue e l w f) := by
  unfold State.canIssue
  split
  · exact Left.refl s
  · split
    · exact Left.refl s
    · dsimp only
      split
      · exact Left.refl s
      · exact ((Left.of_ce (s := s) (State.reach_ce _)).trans ((Left.port fun _ => ⟨_, _, rfl⟩).trans Left.modLaw)).trans (hf _ _ _ rfl)

/-- A miss of an extent without the banks of its law. -/
theorem Left.miss {cause n : Nat} {hold : Bool} (hx : ∀ sel k, x.files sel k → sel = .committed) : Left e l x s (s.miss e l cause n hold) := by
  have hmod : ∀ (f : LawSt → LawSt) (s : State), Left e l x s (s.modLaw e l f) := fun f s =>
    Left.modLaw (fun k h => by rcases h with h | h <;> cases hx _ k h) (fun k h => by cases hx _ k h)
  have hmissed : Left e l x s (s.missed e l cause n hold) := (Left.endSection.trans (hmod _ _)).trans (Left.of_ce ce_missed)
  rw [miss_eq]
  exact Left.ite (hmissed.trans ((hmod _ _).trans (Left.of_ce (State.setf_ce _)))) hmissed

/-! ## The effect of each opcode -/

/-- What an instruction with word `w` keeps: the registers and accumulators it does not write; of a word that may end in a miss,
the committed registers alone. -/
def extentOf (op : Nat) (w : Word) : Extent where
  files sel k := k ∉ (canUse w).dst ∧ (op = 0x2F ∨ op = 0x3A → sel = .committed)
  tags := True
  acc a := a ∉ (canUse w).adst
  flags := (canUse w).writesFlags = false

section
variable {w : Word} {op d : Nat} {c : Section}

theorem not_keeps_dst (h : d ∈ (canUse w).dst) (sel : BankSel) : ¬(extentOf op w).files sel d := fun hk => hk.1 h

theorem left_writes {v : State → Section → Int × Bool} (h : d ∈ (canUse w).dst) (n : Nat) : Left e l (extentOf op w) s (writes e l d v s c n) :=
  Left.dSet (not_keeps_dst h)

theorem left_writesPair {v : State → Section → (Int × Bool) × (Int × Bool)} (h : d ∈ (canUse w).dst) (h1 : d + 1 ∈ (canUse w).dst) (n : Nat) :
    Left e l (extentOf op w) s (writesPair e l d v s c n) := (Left.dSet (not_keeps_dst h)).trans (Left.dSet (not_keeps_dst h1))

theorem left_putAcc {a : Nat} {z : Int} (h : a ∈ (canUse w).adst) : Left e l (extentOf op w) s (s.putAcc e l a z) :=
  Left.putAcc fun hk => hk h

theorem left_selTail {n : Nat} : Left e l x s (s.selTail e l c n) := by
  unfold State.selTail
  exact Left.ite (Left.of_ce (State.modAu_ce _)) (Left.ite Left.present (Left.refl s))

theorem left_miss {cause n : Nat} {hold : Bool} (hop : op = 0x2F ∨ op = 0x3A) : Left e l (extentOf op w) s (s.miss e l cause n hold) :=
  Left.miss fun _ _ (hk : _ ∧ _) => hk.2 hop

theorem left_sel {n cause a start : Nat} (hop : op = 0x3A) :
    Left e l (extentOf op w) s ((((s.selTail e l c n).reach (n + 2)).miss e l cause start false).inc a) :=
  (left_selTail.trans (Left.of_ce (State.reach_ce _))).trans ((left_miss (.inr hop)).trans (Left.of_ce (State.inc_ce _)))

/-- SHA writes the accumulator, from which it may draw. -/
theorem left_sha {a : Nat} {k : Int} (h : a ∈ (canUse w).adst) : Left e l (extentOf op w) s (
    if 0 ≤ k then s.putAcc e l a (s.acc e a * 2 ^ k.toNat)
    else if s.acc e a % 2 ^ (-k).toNat = 0 then s.putAcc e l a (s.acc e a / 2 ^ (-k).toNat)
    else s.drawWord.2.putAcc e l a (s.acc e a / 2 ^ (-k).toNat + (s.drawWord.1.toNat % 2 : Nat))) :=
  Left.ite (left_putAcc h) (Left.ite (left_putAcc h) ((Left.of_ce (s := s) (t := s.drawWord.2) rfl).trans (left_putAcc h)))

theorem left_stage {k : Nat} {v : Word} : Left e l x s (s.stage e l c k v) := by
  unfold State.stage
  cases c.look <;> exact Left.modLaw

/-- SEL chooses a bank, or misses. -/
theorem left_selEffect {n m : Nat} (hop : op = 0x3A) : Left e l (extentOf op w) s (
    match m with
    | 1 => s.modSec e l (fun c => { c with sel := .a })
    | 2 => s.modSec e l (fun c => { c with sel := .b })
    | 4 => (((s.selTail e l c n).reach (n + 2)).miss e l 4 c.t false).inc (Reg.LAW_CNT_LSMP e l)
    | _ => (((s.selTail e l c n).reach (n + 2)).miss e l 3 c.t false).inc (Reg.LAW_CNT_NOFIT e l)) := by
  split
  · exact Left.modLaw
  · exact Left.modLaw
  · exact left_sel hop
  · exact left_sel hop

end

/-- The effect of an instruction other than END leaves its extent. -/
theorem canter_effect {c : Instr} {op : Nat} {fs : List (Field × Nat)} (h : c.canter = some (e, l, op, fs)) (hop : op ≠ 0x01)
    (hfit : ∀ f ∈ fs, f.2 < 2 ^ f.1.len) (s : State) :
    ∃ f, exec c s = canRun e l op fs s f ∧ ∀ s k n, Left e l (extentOf op (canWord op fs)) s (f s k n) := by
  have hword := canOp_canWord (canFields_of_canter h)
  have hread : ∀ f v, (f, v) ∈ fs → v = Word.get (canWord op fs) f := fun f v hf => (get_canWord (canFields_of_canter h) hf (hfit _ hf)).symm
  have hD : ∀ d, (fD, d) ∈ fs → op ∈ [0x08, 0x09, 0x0A, 0x0B, 0x0C, 0x0D, 0x0E, 0x0F, 0x10, 0x11, 0x12, 0x1F, 0x20, 0x21, 0x22, 0x23, 0x24, 0x25,
      0x26, 0x28, 0x2A, 0x2E, 0x2F, 0x31, 0x38, 0x3B] → d ∈ (canUse (canWord op fs)).dst :=
    fun d hd ho => hread _ _ hd ▸ fD_mem_dst (hword.symm ▸ ho)
  have hD1 : ∀ d, (fD, d) ∈ fs → op ∈ [0x20, 0x21, 0x22, 0x23, 0x24, 0x31] → d + 1 ∈ (canUse (canWord op fs)).dst :=
    fun d hd ho => hread _ _ hd ▸ fD_succ_mem_dst (hword.symm ▸ ho)
  have hA : ∀ a, (fA, a) ∈ fs → op ∈ [0x14, 0x15, 0x16, 0x17, 0x18, 0x19, 0x1A, 0x1B, 0x1C, 0x1D, 0x1E] → a ∈ (canUse (canWord op fs)).adst :=
    fun a ha ho => hread _ _ ha ▸ fA_mem_adst (hword.symm ▸ ho)
  have hD2 : ∀ d, (fD, d) ∈ fs → op = 0x24 → d + 2 ∈ (canUse (canWord op fs)).dst :=
    fun d hd ho => hread _ _ hd ▸ fD_third_mem_dst (hword.trans ho)
  have hA1 : ∀ a, (fA, a) ∈ fs → op = 0x19 → a + 1 ∈ (canUse (canWord op fs)).adst :=
    fun a ha ho => hread _ _ ha ▸ fA_succ_mem_adst (hword.trans ho)
  have hF : op ∈ [0x03, 0x04] → ¬(extentOf op (canWord op fs)).flags := fun ho hk => by
    have hw := writesFlags_of (w := canWord op fs) (hword.symm ▸ ho)
    exact absurd (hk.symm.trans hw) (by decide)
  unfold Instr.canter at h
  split at h <;> cases h
  · exact ⟨_, exec_canNop s, fun s _ _ => Left.refl s⟩
  · exact absurd rfl hop
  · exact ⟨_, exec_canSkip s, fun s _ _ => Left.ite Left.modLaw (Left.refl s)⟩
  · exact ⟨_, exec_canCmp s, fun s _ _ => Left.setNZ (hF (by decide))⟩
  · exact ⟨_, exec_canTst s, fun s _ _ => Left.setNZ (hF (by decide))⟩
  · exact ⟨_, exec_canLdi s, fun s _ _ => left_writes (hD _ List.mem_cons_self (by decide)) _⟩
  · exact ⟨_, exec_canMov s, fun s _ _ => left_writes (hD _ List.mem_cons_self (by decide)) _⟩
  · exact ⟨_, exec_canAdd s, fun s _ _ => left_writes (hD _ List.mem_cons_self (by decide)) _⟩
  · exact ⟨_, exec_canSub s, fun s _ _ => left_writes (hD _ List.mem_cons_self (by decide)) _⟩
  · exact ⟨_, exec_canNeg s, fun s _ _ => left_writes (hD _ List.mem_cons_self (by decide)) _⟩
  · exact ⟨_, exec_canAbs s, fun s _ _ => left_writes (hD _ List.mem_cons_self (by decide)) _⟩
  · exact ⟨_, exec_canMin s, fun s _ _ => left_writes (hD _ List.mem_cons_self (by decide)) _⟩
  · exact ⟨_, exec_canMax s, fun s _ _ => left_writes (hD _ List.mem_cons_self (by decide)) _⟩
  · exact ⟨_, exec_canLim s, fun s _ _ => left_writes (hD _ List.mem_cons_self (by decide)) _⟩
  · exact ⟨_, exec_canShf s, fun s _ _ => left_writes (hD _ List.mem_cons_self (by decide)) _⟩
  · exact ⟨_, exec_canAddw s, fun s _ _ => left_writes (hD _ List.mem_cons_self (by decide)) _⟩
  · exact ⟨_, exec_canMul s, fun s _ _ => left_putAcc (hA _ List.mem_cons_self (by decide))⟩
  · exact ⟨_, exec_canMac s, fun s _ _ => left_putAcc (hA _ List.mem_cons_self (by decide))⟩
  · exact ⟨_, exec_canMsu s, fun s _ _ => left_putAcc (hA _ List.mem_cons_self (by decide))⟩
  · exact ⟨_, exec_canMulc s, fun s _ _ => left_putAcc (hA _ List.mem_cons_self (by decide))⟩
  · exact ⟨_, exec_canMacc s, fun s _ _ => left_putAcc (hA _ List.mem_cons_self (by decide))⟩
  · exact ⟨_, exec_canDmac s, fun s _ _ => (left_putAcc (hA _ List.mem_cons_self (by decide))).trans (left_putAcc (hA1 _ List.mem_cons_self rfl))⟩
  · exact ⟨_, exec_canDot s, fun s _ _ => left_putAcc (hA _ List.mem_cons_self (by decide))⟩
  · exact ⟨_, exec_canLda s, fun s _ _ => left_putAcc (hA _ List.mem_cons_self (by decide))⟩
  · exact ⟨_, exec_canAdda s, fun s _ _ => left_putAcc (hA _ List.mem_cons_self (by decide))⟩
  · exact ⟨_, exec_canSuba s, fun s _ _ => left_putAcc (hA _ List.mem_cons_self (by decide))⟩
  · exact ⟨_, exec_canSha s, fun s _ _ => left_sha (hA _ List.mem_cons_self (by decide))⟩
  · exact ⟨_, exec_canSt s, fun s _ _ => Left.dSet (not_keeps_dst (hD _ List.mem_cons_self (by decide)))⟩
  · exact ⟨_, exec_canSincos s, fun s _ _ => left_writesPair (hD _ List.mem_cons_self (by decide)) (hD1 _ List.mem_cons_self (by decide)) _⟩
  · exact ⟨_, exec_canPark s, fun s _ _ => left_writesPair (hD _ List.mem_cons_self (by decide)) (hD1 _ List.mem_cons_self (by decide)) _⟩
  · exact ⟨_, exec_canIpark s, fun s _ _ => left_writesPair (hD _ List.mem_cons_self (by decide)) (hD1 _ List.mem_cons_self (by decide)) _⟩
  · exact ⟨_, exec_canClarke s, fun s _ _ => left_writesPair (hD _ List.mem_cons_self (by decide)) (hD1 _ List.mem_cons_self (by decide)) _⟩
  · exact ⟨_, exec_canSvm s, fun s _ _ => ((Left.dSet (not_keeps_dst (hD _ List.mem_cons_self (by decide)))).trans (Left.dSet (not_keeps_dst (hD1 _ List.mem_cons_self (by decide))))).trans
      (Left.dSet (not_keeps_dst (hD2 _ List.mem_cons_self rfl)))⟩
  · exact ⟨_, exec_canDiv s, fun s _ _ => left_writes (hD _ List.mem_cons_self (by decide)) _⟩
  · exact ⟨_, exec_canSqrt s, fun s _ _ => left_writes (hD _ List.mem_cons_self (by decide)) _⟩
  · exact ⟨_, exec_canTlu s, fun s _ _ => (Left.modLaw (f := fun k => { k with seg := _ })).trans (Left.dSet (not_keeps_dst (hD _ List.mem_cons_self (by decide))))⟩
  · exact ⟨_, exec_canTlt s, fun s _ _ => (((Left.present.trans Left.present).trans (Left.present.trans Left.present)).trans
      (Left.modLaw (f := fun k => { k with tables := _ }))).trans ((Left.modLaw (f := fun k => { k with seg := _ })).trans Left.modLaw)⟩
  · exact ⟨_, exec_canLdk s, fun s _ _ => left_writes (hD _ List.mem_cons_self (by decide)) _⟩
  · exact ⟨_, exec_canLds s, fun s _ _ => Left.present.trans Left.modLaw⟩
  · exact ⟨_, exec_canSts s, fun s _ _ => Left.ite Left.modLaw Left.present⟩
  · exact ⟨_, exec_canLdc s, fun s _ _ => left_writes (hD _ List.mem_cons_self (by decide)) _⟩
  · exact ⟨_, exec_canLdu s, fun s _ _ => Left.ite (Left.dSet (not_keeps_dst (hD _ List.mem_cons_self (by decide)))) (left_miss (.inl rfl))⟩
  · exact ⟨_, exec_canUrg s, fun s _ _ => (Left.modLaw (f := fun k => { k with sec := _ })).trans (Left.of_ce (State.modAu_ce _))⟩
  · exact ⟨_, exec_canInt s, fun s _ _ => Left.ite (Left.refl s) ((Left.dSet (not_keeps_dst (hD _ List.mem_cons_self (by decide)))).trans (Left.dSet (not_keeps_dst (hD1 _ List.mem_cons_self (by decide)))))⟩
  · exact ⟨_, exec_canOutd s, fun s _ _ => left_stage⟩
  · exact ⟨_, exec_canOutc s, fun s _ _ => left_stage⟩
  · exact ⟨_, exec_canPrd s, fun s _ _ => left_writes (hD _ List.mem_cons_self (by decide)) _⟩
  · exact ⟨_, exec_canBnd s, fun s _ _ => Left.modLaw⟩
  · exact ⟨_, exec_canSel s, fun s _ _ => left_selEffect rfl⟩
  · exact ⟨_, exec_canCorr s, fun s _ _ => Left.dSet (not_keeps_dst (hD _ List.mem_cons_self (by decide)))⟩

/-! ## END (R134, R140, R166) -/

/-- What END keeps: the committed registers outside the law's range, the accumulators and the flags. -/
def endExtent (s : State) (e l : Nat) : Extent where
  files sel k := sel = .committed ∧ k < 64 ∧ s.inRange e l k = false
  tags := False
  acc _ := True
  flags := True

section
variable {r : State} {c : Section} {n : Nat}

/-- A bank is committed to the registers of the law's range. -/
theorem left_commitBank (hr : r.regs = s.regs) (sel : BankSel) : Left e l (endExtent s e l) r (r.commitBank e l sel) := by
  refine Left.modCe fun c => ⟨fun _ _ => rfl, fun _ => rfl, ?_, fun _ _ => rfl, fun _ => ⟨rfl, rfl⟩⟩
  rintro sel k ⟨rfl, hk, hrange⟩
  have hrange' : r.inRange e l k = false := by
    rw [← hrange]
    unfold State.inRange
    rw [fld_congr hr, fld_congr hr]
  simp [CeSt.file, List.getD_eq_getElem?_getD, hk, hrange']

theorem left_snapTags : Left e l (endExtent s e l) r (r.snapTags e l) :=
  Left.modCe fun _ => ⟨fun _ _ => rfl, False.elim, fun sel _ _ => by cases sel <;> exact ⟨rfl, rfl⟩, fun _ _ => rfl, fun _ => ⟨rfl, rfl⟩⟩

theorem left_modLaw_end (f : LawSt → LawSt) (r : State) : Left e l (endExtent s e l) r (r.modLaw e l f) :=
  Left.modLaw (by rintro k (⟨h, -⟩ | ⟨h, -⟩) <;> cases h) (by rintro k ⟨h, -⟩; cases h)

theorem left_inc {b : Prop} [Decidable b] {a : Nat} : Left e l x r (if b then r.inc a else r) := Left.ite (Left.of_ce (State.inc_ce _)) (Left.refl r)

theorem left_setf {b : Prop} [Decidable b] {a v : Nat} {f : Field} : Left e l x r (if b then r.setf a f v else r) :=
  Left.ite (Left.of_ce (State.setf_ce _)) (Left.refl r)

theorem left_counted (hr : r.regs = s.regs) : Left e l (endExtent s e l) r (r.counted e l c n) := by
  unfold State.counted State.setLast
  refine Left.trans ?_ (Left.of_ce (State.setf_ce _))
  refine Left.trans ?_ left_setf
  refine Left.trans ?_ left_inc
  refine Left.trans ?_ (left_snapTags.trans (Left.of_ce (State.inc_ce _)))
  exact Left.ite ((left_commitBank hr c.sel).trans (Left.of_ce (State.inc_ce _))) (Left.refl r)

theorem left_endOf (hr : r.regs = s.regs) : Left e l (endExtent s e l) r (r.endOf e l c n) := by
  unfold State.endOf
  obtain ⟨undo, hrun⟩ := completeRun_eq (s := r) (e := e) (l := l) (c := c) (t := n)
  rw [hrun]
  refine Left.ite (Left.endSection.trans ((left_modLaw_end _ _).trans (Left.of_ce (State.setf_ce _)))) ?_
  exact (((left_counted hr).trans (left_modLaw_end _ _)).trans (Left.each (fun _ _ => Left.present) _ _)).trans Left.endSection

end

theorem left_of_canRun {op : Nat} {fs : List (Field × Nat)} {f : State → Section → Nat → State}
    (hf : ∀ r c n, r.regs = s.regs → Left e l x r (f r c n)) (h : canRun e l op fs s f = .next t) : Left e l x s t := by
  unfold canRun ofUnit at h
  split at h
  · cases h
    exact Left.canIssue hf
  · cases h

/-- Settles O13: each effect leaves what the use of its word does not name; END leaves what lies outside the law's range. -/
theorem canterFrame : Obligations.CanterFrame := by
  intro s t c e l op fs _ hc hrun
  have hfit : ∀ f ∈ fs, f.2 < 2 ^ f.1.len := by
    obtain ⟨f, hf⟩ := exec_of_canter hc s
    rw [hf] at hrun
    unfold canRun ofUnit at hrun
    split at hrun
    · next hok =>
      simp only [Bool.and_eq_true, List.all_eq_true, decide_eq_true_eq] at hok
      exact hok.2
    · cases hrun
  by_cases hop : op = 0x01
  · subst hop
    have hleft : Left e l (endExtent s e l) s t := by
      unfold Instr.canter at hc
      split at hc <;> cases hc
      exact left_of_canRun (fun _ _ _ hr => left_endOf hr) ((exec_canEnd s).symm.trans hrun)
    obtain ⟨hengines, hlaws, -, hfiles, hacc, hflags⟩ := hleft
    exact ⟨hengines, hlaws, fun h => absurd rfl h, fun _ h => absurd rfl h, fun _ _ h => absurd (by decide) h,
      fun k hk _ hrange _ _ => hfiles .committed k ⟨rfl, hk, hrange⟩, fun a _ => hacc a trivial, fun _ => hflags trivial⟩
  · obtain ⟨f, hf, heffect⟩ := canter_effect hc hop hfit s
    obtain ⟨hengines, hlaws, htags, hfiles, hacc, hflags⟩ := left_of_canRun (fun r k n _ => heffect r k n) (hf.symm.trans hrun)
    refine ⟨hengines, hlaws, fun _ => htags trivial, fun k _ hk => hfiles .committed k ⟨hk, fun _ => rfl⟩, fun k sel hno hk => ?_,
      fun _ _ h => absurd h hop, fun a ha => hacc a ha, fun h => hflags h⟩
    obtain ⟨hd, htag⟩ := hfiles sel k ⟨hk, fun h => absurd (by rcases h with rfl | rfl <;> decide) hno⟩
    exact ⟨congrArg BitVec.toInt hd.symm, htag.symm⟩

end Sys2Proof.Machine
end

section
/-! PROOFS. The error of the cosine of the rotator: its Taylor sum against the real cosine, and the distance of its values from a
half (R605). -/

namespace Sys2Proof.Machine

set_option Elab.async false

/-! ## The Taylor polynomial of the cosine -/

/-- Term `k` of the Taylor series of the cosine at a square `y`. -/
noncomputable def cosTerm (y : ℝ) (k : Nat) : ℝ := (-1) ^ k * y ^ k / (2 * k).factorial

theorem cosTerm_zero (y : ℝ) : cosTerm y 0 = 1 := by simp [cosTerm]

theorem cosTerm_succ (y : ℝ) (k : Nat) : cosTerm y (k + 1) = -(cosTerm y k * y / ((2 * k + 1) * (2 * k + 2))) := by
  have hfac : ((2 * (k + 1)).factorial : ℝ) = (2 * k + 2) * ((2 * k + 1) * (2 * k).factorial) := by
    rw [show 2 * (k + 1) = 2 * k + 1 + 1 by ring, Nat.factorial_succ, Nat.factorial_succ]
    push_cast
    ring
  have h0 : ((2 * k).factorial : ℝ) ≠ 0 := Nat.cast_ne_zero.mpr (Nat.factorial_ne_zero _)
  have h1 : (2 * (k : ℝ) + 1) ≠ 0 := by positivity
  have h2 : (2 * (k : ℝ) + 2) ≠ 0 := by positivity
  unfold cosTerm
  rw [hfac]
  field_simp
  ring

/-- The real part of the exponential sum at `i φ`. -/
theorem re_expSum (p : ℝ) (n : Nat) :
    (∑ m ∈ Finset.range (2 * n), ((p : ℂ) * Complex.I) ^ m / (m.factorial : ℂ)).re = ∑ k ∈ Finset.range n, cosTerm (p ^ 2) k := by
  induction n with
  | zero => rfl
  | succ n ih =>
    have heven : ((p : ℂ) * Complex.I) ^ (2 * n) = (((-1) ^ n * (p ^ 2) ^ n : ℝ) : ℂ) := by
      rw [pow_mul, mul_pow, Complex.I_sq, mul_pow]
      push_cast
      ring
    rw [show 2 * (n + 1) = 2 * n + 1 + 1 by ring, Finset.sum_range_succ, Finset.sum_range_succ, Finset.sum_range_succ, ← ih,
      pow_succ, heven, Complex.add_re, Complex.add_re]
    have hodd : ((((-1) ^ n * (p ^ 2) ^ n : ℝ) : ℂ) * ((p : ℂ) * Complex.I) / (((2 * n + 1).factorial : ℕ) : ℂ)).re = 0 := by
      rw [← Complex.ofReal_natCast, Complex.div_ofReal_re, ← mul_assoc, ← Complex.ofReal_mul, Complex.re_ofReal_mul, Complex.I_re, mul_zero, zero_div]
    have hterm : ((((-1) ^ n * (p ^ 2) ^ n : ℝ) : ℂ) / (((2 * n).factorial : ℕ) : ℂ)).re = cosTerm (p ^ 2) n := by
      rw [← Complex.ofReal_natCast, Complex.div_ofReal_re, Complex.ofReal_re]
      rfl
    rw [hodd, hterm, add_zero]

/-- Thirteen terms give the cosine of an angle below 2 to 2^-40. -/
theorem cos_sub_sum_le {p : ℝ} (h0 : 0 ≤ p) (h2 : p ≤ 2) : |Real.cos p - ∑ k ∈ Finset.range 13, cosTerm (p ^ 2) k| ≤ 1 / 2 ^ 40 := by
  have hnorm : ‖(p : ℂ) * Complex.I‖ = p := by rw [norm_mul, Complex.norm_I, mul_one, Complex.norm_real, Real.norm_of_nonneg h0]
  have hexp := Complex.exp_bound' (x := (p : ℂ) * Complex.I) (n := 26) (by rw [hnorm]; norm_num; linarith)
  rw [hnorm] at hexp
  have hre : Real.cos p - ∑ k ∈ Finset.range 13, cosTerm (p ^ 2) k =
      (Complex.exp ((p : ℂ) * Complex.I) - ∑ m ∈ Finset.range 26, ((p : ℂ) * Complex.I) ^ m / (m.factorial : ℂ)).re := by
    rw [Complex.sub_re, Complex.exp_ofReal_mul_I_re, re_expSum p 13]
  rw [hre]
  refine (Complex.abs_re_le_norm _).trans (hexp.trans ?_)
  have hpow : p ^ 26 ≤ 2 ^ 26 := pow_le_pow_left₀ h0 h2 26
  have hfac : ((26 : Nat).factorial : ℝ) = 403291461126605635584000000 := by norm_num [Nat.factorial]
  rw [hfac]
  calc p ^ 26 / 403291461126605635584000000 * 2 ≤ 2 ^ 26 / 403291461126605635584000000 * 2 := by gcongr
    _ ≤ 1 / 2 ^ 40 := by norm_num

/-- Cosines differ by half the difference of the squares of their angles at most. -/
theorem abs_cos_sub_cos_le (a b : ℝ) : |Real.cos a - Real.cos b| ≤ |a ^ 2 - b ^ 2| / 2 := by
  rw [Real.cos_sub_cos, abs_mul, abs_mul, abs_neg, abs_two]
  have h1 := Real.abs_sin_le_abs (x := (a + b) / 2)
  have h2 := Real.abs_sin_le_abs (x := (a - b) / 2)
  calc 2 * |Real.sin ((a + b) / 2)| * |Real.sin ((a - b) / 2)| ≤ 2 * |(a + b) / 2| * |(a - b) / 2| := by gcongr
    _ = |a ^ 2 - b ^ 2| / 2 := by
      rw [mul_assoc, ← abs_mul, show (a + b) / 2 * ((a - b) / 2) = (a ^ 2 - b ^ 2) / 4 by ring, abs_div, abs_of_pos (by norm_num : (0 : ℝ) < 4)]
      ring

/-! ## The sum in units of 2^-64 -/

/-- A floor division is the quotient to 1. -/
theorem ediv_bounds (a : Int) {b : Int} (hb : 0 < b) : ((a / b : Int) : ℝ) ≤ a / b ∧ (a : ℝ) / b - 1 < ((a / b : Int) : ℝ) := by
  have hb' : (0 : ℝ) < b := Int.cast_pos.mpr hb
  have hdiv : (b : ℝ) * ((a / b : Int) : ℝ) + ((a % b : Int) : ℝ) = a := by exact_mod_cast Int.mul_ediv_add_emod a b
  have hnonneg : (0 : ℝ) ≤ ((a % b : Int) : ℝ) := Int.cast_nonneg (Int.emod_nonneg _ hb.ne')
  have hlt : ((a % b : Int) : ℝ) < b := Int.cast_lt.mpr (Int.emod_lt_of_pos _ hb)
  constructor
  · rw [le_div_iff₀ hb']
    linarith
  · rw [sub_lt_iff_lt_add, div_lt_iff₀ hb']
    linarith

/-- The next term of the sum, from the term `z` before it (R605). -/
def nextTerm (x2 k z : Int) : Int := -(z * x2 / 2 ^ 64) / ((2 * k - 1) * (2 * k))

variable {x2 : Int} {y : ℝ}

/-- Each term of the sum is that of the series to 2 units for each step. -/
theorem nextTerm_error (hy : y = x2 / 2 ^ 64) (h0 : 0 ≤ y) (h3 : y ≤ 3) {j : Nat} {z : Int} (hz : |z - 2 ^ 64 * cosTerm y j| ≤ 2 * (j : ℝ)) :
    |nextTerm x2 (j + 1) z - 2 ^ 64 * cosTerm y (j + 1)| ≤ 2 * ((j + 1 : Nat) : ℝ) := by
  have hd : (0 : Int) < (2 * (j + 1 : Int) - 1) * (2 * (j + 1 : Int)) := mul_pos (by omega) (by omega)
  obtain ⟨hq1, hq2⟩ := ediv_bounds (z * x2) (b := 2 ^ 64) (by norm_num)
  obtain ⟨ht1, ht2⟩ := ediv_bounds (-(z * x2 / 2 ^ 64)) hd
  have hD : (((2 * (j + 1 : Int) - 1) * (2 * (j + 1 : Int)) : Int) : ℝ) = (2 * j + 1) * (2 * j + 2) := by push_cast; ring
  rw [hD] at ht1 ht2
  set D : ℝ := (2 * j + 1) * (2 * j + 2) with hDdef
  have hj : (0 : ℝ) ≤ j := Nat.cast_nonneg j
  have hD2 : 2 ≤ D := by rw [hDdef]; nlinarith
  have hDj : 6 * (j : ℝ) ≤ D := by rw [hDdef]; nlinarith
  have hzy : ((z * x2 : Int) : ℝ) / ((2 ^ 64 : Int) : ℝ) = z * y := by rw [hy]; push_cast; ring
  rw [hzy] at hq1 hq2
  have hnext : (nextTerm x2 (j + 1) z : ℝ) = ((-(z * x2 / 2 ^ 64) / ((2 * (j + 1 : Int) - 1) * (2 * (j + 1 : Int))) : Int) : ℝ) := rfl
  rw [hnext, cosTerm_succ, ← hDdef]
  rw [Int.cast_neg] at ht1 ht2
  set q : ℝ := ((z * x2 / 2 ^ 64 : Int) : ℝ)
  set w : ℝ := ((-(z * x2 / 2 ^ 64) / ((2 * (j + 1 : Int) - 1) * (2 * (j + 1 : Int))) : Int) : ℝ)
  have hDpos : 0 < D := by linarith
  rw [abs_le] at hz ⊢
  rw [le_div_iff₀ hDpos] at ht1
  rw [sub_lt_iff_lt_add, div_lt_iff₀ hDpos] at ht2
  have hmul : D * (2 ^ 64 * -(cosTerm y j * y / D)) = -(2 ^ 64 * cosTerm y j * y) := by field_simp
  have hzlo : -(2 * (j : ℝ)) * y ≤ (z - 2 ^ 64 * cosTerm y j) * y := mul_le_mul_of_nonneg_right hz.1 h0
  have hzhi : (z - 2 ^ 64 * cosTerm y j) * y ≤ 2 * (j : ℝ) * y := mul_le_mul_of_nonneg_right hz.2 h0
  have hjy : (j : ℝ) * y ≤ j * 3 := mul_le_mul_of_nonneg_left h3 hj
  push_cast
  constructor
  · refine le_of_mul_le_mul_left ?_ hDpos
    rw [mul_sub, hmul]
    nlinarith
  · refine le_of_mul_le_mul_left ?_ hDpos
    rw [mul_sub, hmul]
    nlinarith

theorem cosSum_succ (n : Nat) (z acc : Int) :
    cosSum x2 (n + 1) z acc = cosSum x2 n (nextTerm x2 (13 - (n + 1 : Nat)) z) (acc + nextTerm x2 (13 - (n + 1 : Nat)) z) := rfl

/-- From term `j` on the sum keeps within `j (j + 1)` units of the polynomial. -/
theorem cosSum_error (hy : y = x2 / 2 ^ 64) (h0 : 0 ≤ y) (h3 : y ≤ 3) : ∀ (n : Nat) {j : Nat} {z acc : Int}, n + j = 12 →
    |z - 2 ^ 64 * cosTerm y j| ≤ 2 * (j : ℝ) → |acc - 2 ^ 64 * ∑ k ∈ Finset.range (j + 1), cosTerm y k| ≤ (j : ℝ) * (j + 1) →
    |(cosSum x2 n z acc : ℝ) - 2 ^ 64 * ∑ k ∈ Finset.range 13, cosTerm y k| ≤ 156
  | 0, j, z, acc, hj, _, hacc => by
    obtain rfl : j = 12 := by omega
    refine hacc.trans ?_
    norm_num
  | n + 1, j, z, acc, hj, hz, hacc => by
    have hk : (13 - ((n + 1 : Nat) : Int)) = (j : Int) + 1 := by omega
    have hnext := nextTerm_error hy h0 h3 hz
    rw [cosSum_succ, hk]
    refine cosSum_error hy h0 h3 n (j := j + 1) (by omega) hnext ?_
    rw [Finset.sum_range_succ]
    rw [abs_le] at hacc hnext ⊢
    obtain ⟨ha, hb⟩ := hacc
    obtain ⟨hc, hd⟩ := hnext
    push_cast at hc hd ⊢
    constructor <;> nlinarith

/-- The sum at the angle `π t / 32,768` is its cosine to 2^20 units. -/
theorem cosSum_sub_cos_le {t : Int} (h0 : 0 ≤ t) (h1 : t ≤ 16384) :
    |(cosSum (pi64 * t / 32768 * (pi64 * t / 32768) / 2 ^ 64) 12 (2 ^ 64) (2 ^ 64) : ℝ) - 2 ^ 64 * Real.cos (Real.pi * t / 32768)| ≤ 2 ^ 30 := by
  have hpi1 := Real.pi_gt_d20
  have hpi2 := Real.pi_lt_d20
  have ht0 : (0 : ℝ) ≤ t := Int.cast_nonneg h0
  have ht1 : (t : ℝ) ≤ 16384 := by exact_mod_cast h1
  obtain ⟨hx1, hx2⟩ := ediv_bounds (pi64 * t) (b := 32768) (by norm_num)
  set x : Int := pi64 * t / 32768 with hx
  obtain ⟨hy1, hy2⟩ := ediv_bounds (x * x) (b := 2 ^ 64) (by norm_num)
  set x2 : Int := x * x / 2 ^ 64 with hx2def
  set y : ℝ := (x2 : ℝ) / 2 ^ 64 with hy
  set p : ℝ := Real.pi * t / 32768 with hp
  have hxp : |(x : ℝ) / 2 ^ 64 - p| ≤ 1 / 2 ^ 40 := by
    unfold pi64 at hx1 hx2
    push_cast at hx1 hx2
    rw [abs_le, hp]
    constructor <;> nlinarith
  have hp0 : 0 ≤ p := by rw [hp]; positivity
  have hp2 : p ≤ 1.6 := by rw [hp]; nlinarith
  set X : ℝ := (x : ℝ) / 2 ^ 64 with hX
  obtain ⟨hxp1, hxp2⟩ := abs_le.mp hxp
  have hyX : y ≤ X ^ 2 ∧ X ^ 2 - 1 / 2 ^ 64 ≤ y := by
    push_cast at hy1 hy2
    rw [hy, hX]
    constructor
    · rw [div_le_iff₀ (by positivity)]
      calc (x2 : ℝ) ≤ x * x / 18446744073709551616 := hy1
        _ = (x / 2 ^ 64) ^ 2 * 2 ^ 64 := by ring
    · rw [le_div_iff₀ (by positivity)]
      calc (((x : ℝ) / 2 ^ 64) ^ 2 - 1 / 2 ^ 64) * (2 : ℝ) ^ 64 = (x : ℝ) * x / 18446744073709551616 - 1 := by ring
        _ ≤ (x2 : ℝ) := hy2.le
  have hXp : |X ^ 2 - p ^ 2| ≤ 1 / 2 ^ 38 := by
    have hsum : |X + p| ≤ 4 := by rw [abs_le]; constructor <;> linarith
    calc |X ^ 2 - p ^ 2| = |X - p| * |X + p| := by rw [← abs_mul]; ring_nf
      _ ≤ 1 / 2 ^ 40 * 4 := by gcongr
      _ = 1 / 2 ^ 38 := by norm_num
  obtain ⟨hXp1, hXp2⟩ := abs_le.mp hXp
  have hyp : |y - p ^ 2| ≤ 1 / 2 ^ 37 := by
    rw [abs_le]
    constructor <;> linarith [hyX.1, hyX.2]
  have hy0 : 0 ≤ y := div_nonneg (Int.cast_nonneg (Int.ediv_nonneg (mul_self_nonneg x) (by norm_num))) (by positivity)
  have hy3 : y ≤ 3 := by nlinarith [(abs_le.mp hyp).2]
  have hroot : Real.sqrt y ≤ 2 := Real.sqrt_le_iff.mpr ⟨by norm_num, by linarith⟩
  have hsum := cosSum_error (x2 := x2) hy hy0 hy3 12 (j := 0) (z := 2 ^ 64) (acc := 2 ^ 64) rfl (by norm_num [cosTerm_zero])
    (by norm_num [cosTerm_zero])
  have hpoly := cos_sub_sum_le (Real.sqrt_nonneg y) hroot
  have hcos := abs_cos_sub_cos_le (Real.sqrt y) p
  rw [Real.sq_sqrt hy0] at hpoly hcos
  rw [abs_le] at hsum hpoly hcos hyp ⊢
  have hhalf : |y - p ^ 2| / 2 ≤ 1 / 2 ^ 38 := by
    rw [div_le_iff₀ (by norm_num), abs_le]
    constructor <;> linarith [hyp.1, hyp.2]
  constructor <;> linarith [hsum.1, hsum.2, hpoly.1, hpoly.2, hcos.1, hcos.2]

/-! ## Rounding -/

/-- The sum at angle `t`. -/
def cosAt (t : Int) : Int := cosSum (pi64 * t / 32768 * (pi64 * t / 32768) / 2 ^ 64) 12 (2 ^ 64) (2 ^ 64)

/-- The value of the sum at angle `t` is not within 2^-16 of the middle between two results. -/
def cosClear (t : Nat) : Bool :=
  let r := (cosAt t + 2 ^ 48) % 2 ^ 49
  decide (2 ^ 33 ≤ r) && decide (r + 2 ^ 33 ≤ 2 ^ 49)

/-! The angles of the first quadrant, 1,024 at a time. -/

theorem cosClear_firstQuarter {i : Nat} (hi : i < 4) : (List.range' (1024 * (0 + i)) 1024).all cosClear = true := by
  interval_cases i <;> decide +kernel

theorem cosClear_secondQuarter {i : Nat} (hi : i < 4) : (List.range' (1024 * (4 + i)) 1024).all cosClear = true := by
  interval_cases i <;> decide +kernel

theorem cosClear_thirdQuarter {i : Nat} (hi : i < 4) : (List.range' (1024 * (8 + i)) 1024).all cosClear = true := by
  interval_cases i <;> decide +kernel

theorem cosClear_fourthQuarter {i : Nat} (hi : i < 4) : (List.range' (1024 * (12 + i)) 1024).all cosClear = true := by
  interval_cases i <;> decide +kernel

theorem cosClear_block {i : Nat} (hi : i < 16) : (List.range' (1024 * i) 1024).all cosClear = true := by
  have hsplit : i = 4 * (i / 4) + i % 4 := (Nat.div_add_mod i 4).symm
  have hlt : i % 4 < 4 := Nat.mod_lt _ (by decide)
  rw [hsplit]
  have hq : i / 4 < 4 := by omega
  generalize i / 4 = q at *
  interval_cases q
  · exact cosClear_firstQuarter hlt
  · exact cosClear_secondQuarter hlt
  · exact cosClear_thirdQuarter hlt
  · exact cosClear_fourthQuarter hlt

theorem cosClear_of_le {t : Nat} (h : t ≤ 16384) : cosClear t = true := by
  rcases Nat.lt_or_ge t 16384 with ht | ht
  · refine List.all_eq_true.mp (cosClear_block (i := t / 1024) (by omega)) t ?_
    rw [List.mem_range'_1]
    omega
  · obtain rfl : t = 16384 := by omega
    decide +kernel

/-- A value that is clear of the middle rounds as the real number near it does, and so does its negative. -/
theorem rnd_eq_floor {z : Int} {v : ℝ} (h : |(z : ℝ) - 2 ^ 49 * v| ≤ 2 ^ 30) (hlo : 2 ^ 33 ≤ (z + 2 ^ 48) % 2 ^ 49)
    (hhi : (z + 2 ^ 48) % 2 ^ 49 + 2 ^ 33 ≤ 2 ^ 49) : rnd 49 z = ⌊v + 1 / 2⌋ ∧ -rnd 49 z = ⌊-v + 1 / 2⌋ := by
  have hsplit : (2 ^ 49 : ℝ) * (rnd 49 z : ℝ) + (((z + 2 ^ 48) % 2 ^ 49 : Int) : ℝ) = z + 2 ^ 48 := by
    have hint : (2 ^ 49 : Int) * rnd 49 z + (z + 2 ^ 48) % 2 ^ 49 = z + 2 ^ 48 := Int.mul_ediv_add_emod (z + 2 ^ 48) (2 ^ 49)
    exact_mod_cast hint
  have hlo' : (2 ^ 33 : ℝ) ≤ (((z + 2 ^ 48) % 2 ^ 49 : Int) : ℝ) := by exact_mod_cast hlo
  have hhi' : (((z + 2 ^ 48) % 2 ^ 49 : Int) : ℝ) + 2 ^ 33 ≤ 2 ^ 49 := by exact_mod_cast hhi
  obtain ⟨h1, h2⟩ := abs_le.mp h
  constructor
  · symm
    rw [Int.floor_eq_iff]
    constructor <;> linarith
  · symm
    rw [Int.floor_eq_iff]
    push_cast
    constructor <;> linarith

/-- In the first quadrant the rounded sum is the rounded cosine, with either sign (R605). -/
theorem cosQuarter_eq {t : Int} (h0 : 0 ≤ t) (h1 : t ≤ 16384) : cosQuarter t = ⌊32768 * Real.cos (Real.pi * t / 32768) + 1 / 2⌋ ∧
    -cosQuarter t = ⌊-(32768 * Real.cos (Real.pi * t / 32768)) + 1 / 2⌋ := by
  have hclear := cosClear_of_le (t := t.toNat) (by omega)
  unfold cosClear at hclear
  rw [Int.toNat_of_nonneg h0, Bool.and_eq_true, decide_eq_true_eq, decide_eq_true_eq] at hclear
  refine rnd_eq_floor ?_ hclear.1 hclear.2
  have herror := cosSum_sub_cos_le h0 h1
  rwa [show (2 ^ 49 : ℝ) * (32768 * Real.cos (Real.pi * t / 32768)) = 2 ^ 64 * Real.cos (Real.pi * t / 32768) by ring]

/-- The low 16 bits of an angle, with a sign, are the angle but for whole turns. -/
theorem sx_ux_turns (th : Int) : -32768 ≤ sx 16 (ux 16 th) ∧ sx 16 (ux 16 th) < 32768 ∧ ∃ m : Int, th = sx 16 (ux 16 th) + 65536 * m := by
  have hux : ((ux 16 th : Nat) : Int) = th % 65536 := Int.toNat_of_nonneg (Int.emod_nonneg _ (by decide))
  have hlt : ux 16 th < 65536 := by omega
  unfold sx
  dsimp only
  split
  · exact ⟨by omega, by omega, th / 65536, by omega⟩
  · exact ⟨by omega, by omega, th / 65536 + 1, by omega⟩

/-- The cosine of an angle is that of its low 16 bits. -/
theorem cos_sx_ux (th : Int) : Real.cos (Real.pi * th / 32768) = Real.cos (Real.pi * (sx 16 (ux 16 th) : Int) / 32768) := by
  obtain ⟨-, -, m, hm⟩ := sx_ux_turns th
  rw [← Real.cos_add_int_mul_two_pi (Real.pi * (sx 16 (ux 16 th) : Int) / 32768) m]
  congr 1
  have hcast : (th : ℝ) = (sx 16 (ux 16 th) : Int) + 65536 * (m : ℝ) := by exact_mod_cast hm
  rw [hcast]
  ring

/-- The cosine of R605 before its limit is the rounded cosine, for any angle. -/
theorem cosRaw_eq (th : Int) : cosRaw th = ⌊32768 * Real.cos (Real.pi * th / 32768) + 1 / 2⌋ := by
  obtain ⟨hlo, hhi, -⟩ := sx_ux_turns th
  rw [cos_sx_ux]
  unfold cosRaw
  generalize sx 16 (ux 16 th) = u at *
  have habs : (if u < 0 then -u else u) = |u| := by
    rcases lt_or_ge u 0 with h | h
    · rw [if_pos h, abs_of_neg h]
    · rw [if_neg (not_lt.mpr h), abs_of_nonneg h]
  have hcos : Real.cos (Real.pi * (|u| : Int) / 32768) = Real.cos (Real.pi * u / 32768) := by
    rw [Int.cast_abs, ← Real.cos_abs (Real.pi * u / 32768), abs_div, abs_mul, abs_of_pos Real.pi_pos, abs_of_pos (by norm_num : (0 : ℝ) < 32768)]
  have hle : |u| ≤ 32768 := abs_le.mpr ⟨hlo, hhi.le⟩
  dsimp only
  rw [habs, ← hcos]
  generalize hu : |u| = t at *
  have ht0 : 0 ≤ t := hu ▸ abs_nonneg u
  split
  · next ht => exact (cosQuarter_eq ht0 ht).1
  · next ht =>
    rw [(cosQuarter_eq (t := 32768 - t) (by omega) (by omega)).2]
    have hflip : Real.pi * ((32768 - t : Int) : ℝ) / 32768 = Real.pi - Real.pi * t / 32768 := by
      push_cast
      ring
    rw [hflip, Real.cos_pi_sub, mul_neg, neg_neg]

/-- Settles O24: the error of the Taylor sum is below the distance of every value of the first quadrant from a middle; the other
quadrants and the sine follow by symmetry. -/
theorem trigonometryIsExact : Obligations.TrigonometryIsExact := by
  intro th _ _
  refine ⟨congrArg (min 32767) (cosRaw_eq th), ?_⟩
  unfold sinQ cosQ
  rw [cosRaw_eq, show Real.pi * ((th - 16384 : Int) : ℝ) / 32768 = Real.pi * th / 32768 - Real.pi / 2 by push_cast; ring, Real.cos_sub_pi_div_two]

end Sys2Proof.Machine
end

section
/-! PROOFS. Units of a list after an update, and signals after a write of a machine: the rules that the statements on the blocks
share (spec/01 to spec/17). -/

namespace Sys2Proof.Machine

set_option Elab.async false

variable {s : State}

/-! ## Units -/

section
variable {n : Nat}

theorem drv_modDrv_same (h : s.Inv) {f : DriveSt → DriveSt} (hn : n < 2) : (s.modDrv n f).drv n = f (s.drv n) :=
  getD_modify_same _ _ _ _ (by rw [h.drives]; exact hn)
theorem busAt_modBus_same (h : s.Inv) {f : BusSt → BusSt} (hn : n < 4) : (s.modBus n f).busAt n = f (s.busAt n) :=
  getD_modify_same _ _ _ _ (by rw [h.bus]; exact hn)
theorem hvAt_modHv_same (h : s.Inv) {f : HvSt → HvSt} (hn : n < 34) : (s.modHv n f).hvAt n = f (s.hvAt n) :=
  getD_modify_same _ _ _ _ (by rw [h.gate.1]; exact hn)
theorem lvAt_modLv_same (h : s.Inv) {f : LvSt → LvSt} (hn : n < 29) : (s.modLv n f).lvAt n = f (s.lvAt n) :=
  getD_modify_same _ _ _ _ (by rw [h.gate.2]; exact hn)
theorem mgDrive_modMgDrive_same (h : s.Inv) {f : MgDrive → MgDrive} (hn : n < 2) : (s.modMgDrive n f).mgDrive n = f (s.mgDrive n) :=
  getD_modify_same _ _ _ _ (by rw [h.mg.1]; exact hn)
theorem safetyIn_modInput_same (h : s.Inv) {f : SafetyIn → SafetyIn} (hn : n < 8) : (s.modInput n f).safetyIn n = f (s.safetyIn n) :=
  getD_modify_same _ _ _ _ (by rw [h.mg.2]; exact hn)
theorem motor_modMotor_same (h : s.Inv) {f : MotorSt → MotorSt} (hn : n < 2) : (s.modMotor n f).motor n = f (s.motor n) :=
  getD_modify_same _ _ _ _ (by rw [h.motors]; exact hn)
theorem zone_modZone_same (h : s.Inv) {f : ZoneSt → ZoneSt} (hn : n < 8) : (s.modZone n f).zone n = f (s.zone n) :=
  getD_modify_same _ _ _ _ (by rw [h.thermal]; exact hn)
theorem ch_modCh_same (h : s.Inv) {f : ChargeSt → ChargeSt} (hn : n < 2) : (s.modCh n f).ch n = f (s.ch n) :=
  getD_modify_same _ _ _ _ (by rw [h.charge]; exact hn)
theorem harn_modHarn_same (h : s.Inv) {f : HarnSt → HarnSt} (hn : n < 2) : (s.modHarn n f).harn_ n = f (s.harn_ n) :=
  getD_modify_same _ _ _ _ (by rw [h.harn]; exact hn)
theorem tripIn_modTripIn_same (h : s.Inv) {f : TripIn → TripIn} (hn : n < 4) :
    (s.modTripIn n f).tripIn.getD n {} = f (s.tripIn.getD n {}) := getD_modify_same _ _ _ _ (by rw [h.tripIn]; exact hn)

theorem drv_modDrv_other {m : Nat} {f : DriveSt → DriveSt} (h : m ≠ n) : (s.modDrv n f).drv m = s.drv m :=
  getD_modify_other _ _ _ _ _ (Ne.symm h)

end

/-! ## Commands that run -/

theorem runs_next {c : Instr} {t : State} {P : State → Prop} (h : exec c s = .next t) (hP : P t) : Runs c s P := ⟨t, h, hP⟩

/-- A command whose operands name units runs. -/
theorem runs_ofUnit {c : Instr} {ok : Bool} {t : State} {P : State → Prop} (h : exec c s = ofUnit ok t) (hok : ok = true) (hP : P t) : Runs c s P :=
  ⟨t, by rw [h, hok]; rfl, hP⟩

/-! ## Updates that keep a state sound -/

theorem modDrv_inv (h : s.Inv) {n : Nat} {f : DriveSt → DriveSt} : (s.modDrv n f).Inv := (State.modDrv_keeps (K := 2 ^ 25) rfl (Keeps.refl _ s)).inv h

/-! ## Signals that a machine writes -/

section
variable {a b v : Nat} {z : Int}

theorem putNat_inv (h : s.Inv) : (s.putNat a v).Inv := (State.putNat_keeps (K := 532996) rfl (Keeps.refl _ s)).inv h
theorem putInt_inv (h : s.Inv) : (s.putInt a z).Inv := (State.putInt_keeps (K := 532996) rfl (Keeps.refl _ s)).inv h

/-- A whole-word signal holds the word that a machine writes to it. -/
theorem value_putVal_same (h : s.Inv) {w : Word} {q : Nat} {u : Bool} (hp : s.Publishes a) : ((s.putVal a w q u).sig a).value = w := by
  obtain ⟨hw, h0, h5⟩ := hp
  rw [sig_putVal_same h hw]
  simp only [typedValue, h0, h5, if_false]

theorem val_putNat_same (h : s.Inv) (hp : s.Publishes a) : (s.putNat a v).val a = v % 2 ^ 32 := by
  unfold State.val State.putNat
  rw [value_putVal_same h hp]
  exact BitVec.toNat_ofNat v 32

theorem val_putNat_other (h : s.Inv) (hb : b ≠ a) : (s.putNat a v).val b = s.val b := congrArg (·.value.toNat) (sig_putVal_other h hb)
theorem val_putInt_other (h : s.Inv) (hb : b ≠ a) : (s.putInt a z).val b = s.val b := congrArg (·.value.toNat) (sig_putVal_other h hb)

end

end Sys2Proof.Machine
end

section
/-! PROOFS. The statement on the encoder and resolver front ends of the drives (R265, R271). -/

namespace Sys2Proof.Machine

set_option Elab.async false

variable {s : State}

/-- Two levels give each quarter of a period. -/
theorem quadrature_injective {a b a' b' : Bool} (h : (quadrature a b + 4 - quadrature a' b') % 4 = 0) : a' = a ∧ b' = b := by
  revert h
  cases a <;> cases b <;> cases a' <;> cases b' <;> decide

theorem fld_modDrv {n : Nat} {f : DriveSt → DriveSt} (a : Nat) (g : Field) : (s.modDrv n f).fld a g = s.fld a g := rfl
theorem on_modDrv {n : Nat} {f : DriveSt → DriveSt} (a : Nat) (g : Field) : (s.modDrv n f).on a g = s.on a g := rfl

theorem drv_setf {a v n : Nat} {f : Field} : (s.setf a f v).drv n = s.drv n := rfl

/-- Settles O31: each event writes one field of the front end of its drive. -/
theorem sensorFrontEnds : Obligations.SensorFrontEnds := by
  intro s d hs hd
  refine ⟨fun a b hen hfar => ?_, fun hen => ?_, fun ua hen hoc => ?_, fun a b z hen hz hnear hstep => ?_⟩
  · refine runs_ofUnit (exec_encoderEdge s) (decide_eq_true hd) ?_
    dsimp only
    split
    · next h0 =>
      obtain ⟨ha, hb⟩ := quadrature_injective h0
      refine ⟨ha, hb, fun _ => rfl, ?_, ?_, ?_⟩ <;> (rw [h0]; intro h; cases h)
    · next h0 => 
      have : (s.drv d).encAt.any (fun t => s.dtb < t + 20) = false := by
        rw [← Bool.not_eq_true, Option.any_eq_true]
        rintro ⟨z, hz, hlt⟩
        have := hfar z hz
        simp at hlt; omega
      rw [this]
      grind [fld_setf_same, fld_setf_other, drv_modDrv_same, modDrv_inv, fld_modDrv, on_modDrv, drv_setf, Reg.ENC_CNT, Reg.ENC_STAT, Fld.ENC_STAT_err, Fld.ENC_CNT_cnt]
  · refine runs_ofUnit (exec_encoderIndex s) (decide_eq_true hd) ?_
    rw [if_pos hen]
    dsimp only
    grind [fld_setf_same, fld_setf_other, setf_inv, State.on, Reg.ENC_CTRL, Reg.ENC_CNT, Reg.ENC_STAT, Fld.ENC_STAT_zseen, Fld.ENC_CNT_cnt]
  · refine runs_ofUnit (exec_resolverExcitationFault s) (decide_eq_true hd) ?_
    grind [fld_setf_same, fld_setf_field, setf_inv, State.on, State.setb, Fld.RES_STAT_exc_oc, Fld.RES_STAT_exc_open]
  · refine runs_ofUnit (exec_encoderEdge s) (decide_eq_true hd) ?_
    grind [fld_setf_same, fld_setf_other, modDrv_inv, fld_modDrv, on_modDrv, Reg.ENC_CNT, Reg.ENC_STAT, Fld.ENC_STAT_err, Fld.ENC_CNT_cnt]
end Sys2Proof.Machine
end

section
/-! PROOFS. What an access over the bridge does, and the statement on the clocks (R520, R522-R531). -/

namespace Sys2Proof.Machine

set_option Elab.async false

variable {s : State}

/-! ## Accesses over the bridge -/

/-- An access that is answered, with a ratio that the bridge supports, is performed once. -/
theorem access_of {core : Nat} {ok : Bool} {f : State → State} (hok : ok = true) (hr : s.cpuRatioOk = true) : s.access core ok f = f s := by
  unfold State.access State.overBridge
  rw [if_pos hok, if_pos hr]

/-- An access to a domain that is ON, with a ratio that the bridge supports, is performed once. -/
theorem byCore_of_on {core d : Nat} {f : State → State} (hd : s.domainOn d = true) (hr : s.cpuRatioOk = true) : s.byCore core d f = f s := by
  unfold State.byCore
  exact access_of hd hr

/-! ## Updates that keep a state sound -/

theorem keepRtc_inv {f : State → State} (h : (f s).Inv) : (s.keepRtc f).Inv := { h with }
theorem report_inv (h : s.Inv) {cls scope rx : Nat} : (s.report cls scope rx).Inv :=
  (State.report_keeps (K := 2 ^ 20) rfl (Keeps.refl _ s)).inv h
theorem sourceOn_inv (h : s.Inv) {cls scope : Nat} : (s.sourceOn cls scope).Inv :=
  (State.sourceOn_keeps (K := 2 ^ 20) rfl (Keeps.refl _ s)).inv h
theorem modClk_inv (h : s.Inv) {f : ClockSt → ClockSt} : (s.modClk f).Inv := { h with }

/-! ## What the sequence of the clocks leaves -/

theorem clk_modClk {f : ClockSt → ClockSt} : (s.modClk f).clk = f s.clk := rfl
theorem fld_modClk {f : ClockSt → ClockSt} (a : Nat) (g : Field) : (s.modClk f).fld a g = s.fld a g := rfl
theorem fld_keepRtc {f : State → State} (a : Nat) (g : Field) : (s.keepRtc f).fld a g = (f s).fld a g := rfl
theorem on_keepRtc {f : State → State} (a : Nat) (g : Field) : (s.keepRtc f).on a g = (f s).on a g := rfl

theorem sourceOn_regs (cls scope : Nat) : (s.sourceOn cls scope).regs = s.regs :=
  (State.sourceOn_keeps (K := 2 ^ 20) rfl (Keeps.refl _ s)).regs rfl

theorem sourceOn_reports (cls scope : Nat) : (s.sourceOn cls scope).mg.reports = s.mg.reports := by
  unfold State.sourceOn; dsimp only; split <;> rfl

theorem fld_sourceOn (cls scope a : Nat) (f : Field) : (s.sourceOn cls scope).fld a f = s.fld a f := fld_congr (sourceOn_regs _ _) _ _
theorem rd_sourceOn (cls scope a : Nat) : (s.sourceOn cls scope).rd a = s.rd a := rd_congr (sourceOn_regs _ _) _
theorem fld_report (cls scope rx a : Nat) (f : Field) : (s.report cls scope rx).fld a f = s.fld a f := rfl
theorem reports_report (cls scope : Nat) : (s.report cls scope).mg.reports = s.mg.reports ++ [{ cls := cls, scope := scope }] := rfl
theorem rd_modClk {f : ClockSt → ClockSt} (a : Nat) : (s.modClk f).rd a = s.rd a := rfl
theorem rd_keepRtc {f : State → State} (a : Nat) : (s.keepRtc f).rd a = (f s).rd a := rfl
theorem fld_wr_other (h : s.Inv) {a b : Nat} {v : Word} {f : Field} (hb : b ≠ a) : (s.wr a v).fld b f = s.fld b f := by
  unfold State.fld; rw [rd_wr_other h hb]

theorem clkSeq_sourceOn (cls scope : Nat) : (s.sourceOn cls scope).clkSeq = s.clkSeq := fld_sourceOn _ _ _ _
theorem clkScale_sourceOn (cls scope : Nat) : (s.sourceOn cls scope).clkScale = s.clkScale := fld_sourceOn _ _ _ _
theorem clkSeq_report (cls scope rx : Nat) : (s.report cls scope rx).clkSeq = s.clkSeq := rfl
theorem clkScale_report (cls scope rx : Nat) : (s.report cls scope rx).clkScale = s.clkScale := rfl

section
variable {back : Bool}

theorem rampDown_regs : (s.rampDown back).regs = ((s.setf Reg.CLK_STAT Fld.CLK_STAT_seq sqDown).setf Reg.CLK_STAT Fld.CLK_STAT_scale 1).regs := rfl

variable (h : s.Inv)
include h

/-- The way down begins at s = 1.5 (R526). -/
theorem clkSeq_rampDown : (s.rampDown back).clkSeq = sqDown := by
  rw [State.clkSeq, fld_congr rampDown_regs, fld_setf_field (setf_inv h) (by decide) (by decide), fld_setf_same h (by decide)]
  rfl
theorem clkScale_rampDown : (s.rampDown back).clkScale = 1 := by
  rw [State.clkScale, fld_congr rampDown_regs, fld_setf_same (setf_inv h) (by decide)]
  rfl
theorem rd_rampDown {a : Nat} (ha : a ≠ Reg.CLK_STAT) : (s.rampDown back).rd a = s.rd a := by
  rw [rd_congr rampDown_regs, rd_setf_other (setf_inv h) ha, rd_setf_other h ha]
theorem fld_rampDown {g : Field} (hq : g.lo + g.len ≤ Fld.CLK_STAT_seq.lo ∨ Fld.CLK_STAT_seq.lo + Fld.CLK_STAT_seq.len ≤ g.lo)
    (hc : g.lo + g.len ≤ Fld.CLK_STAT_scale.lo ∨ Fld.CLK_STAT_scale.lo + Fld.CLK_STAT_scale.len ≤ g.lo) :
    (s.rampDown back).fld Reg.CLK_STAT g = s.fld Reg.CLK_STAT g := by
  rw [fld_congr rampDown_regs, fld_setf_field (setf_inv h) (by decide) hc, fld_setf_field h (by decide) hq]

end

theorem mg_rampDown {back : Bool} : (s.rampDown back).mg = s.mg := rfl

theorem startRamps_regs : s.startRamps.regs = s.regs := 
  (State.startRamps_keeps (K := 2 ^ 40) rfl (Keeps.refl _ s)).regs rfl

/-- A two's complement number that fits its field reads back. -/
theorem sx_ux {n : Nat} {z : Int} (hn : 0 < n) (hlo : -(2 ^ (n - 1) : Nat) ≤ z) (hhi : z < (2 ^ (n - 1) : Nat)) : sx n (ux n z % 2 ^ n) = z := by
  have h2 : (2 ^ n : Nat) = 2 * 2 ^ (n - 1) := by rw [← Nat.pow_succ']; congr; omega
  unfold sx ux
  dsimp only
  rw [h2, Nat.mod_mod]
  generalize 2 ^ (n - 1) = p at *
  obtain hz | hz := lt_or_ge z 0
  · have : z % (2 * p : Nat) = z + (2 * p : Nat) := by rw [← Int.add_emod_right]; exact Int.emod_eq_of_lt (by omega) (by omega)
    rw [this, Nat.mod_eq_of_lt (by omega)]
    split <;> omega
  · rw [Int.emod_eq_of_lt hz (by omega), Nat.mod_eq_of_lt (by omega)]
    split <;> omega

theorem sx_range {n v : Nat} (hn : 0 < n) : -(2 ^ (n - 1) : Nat) ≤ sx n v ∧ sx n v < (2 ^ (n - 1) : Nat) := by
  have h2 : (2 ^ n : Nat) = 2 * 2 ^ (n - 1) := by rw [← Nat.pow_succ']; congr; omega
  have hp : 0 < 2 ^ (n - 1) := Nat.pow_pos (by decide)
  unfold sx
  dsimp only
  generalize 2 ^ (n - 1) = p at *
  rw [h2]
  have := Nat.mod_lt v (y := 2 * p) (by omega)
  split <;> omega

/-- The trim that a measurement asks for (R520). -/
def trimTo (cnt : Nat) (was : Int) : Int :=
  if 2000 * ((cnt : Int) - 1000976).natAbs ≤ 1000976 then was else if 0 < (cnt : Int) - 1000976 then was - 1 else was + 1

/-- The state in which a measurement is made: 10 ms after the last one. -/
def State.atTrim (s : State) : State :=
  let t := match s.clk.trimAt with
    | some t => s.reachRtc (t + 10 * Config.msCycles)
    | none => s
  t.modClk (fun c => { c with trimAt := some t.rtc })

theorem atTrim_inv (hs : s.Inv) : s.atTrim.Inv := by
  unfold State.atTrim
  split <;> exact { hs with }

theorem atTrim_regs : s.atTrim.regs = s.regs := by
  unfold State.atTrim
  split <;> rfl

/-- A measurement and its trim, but for the time of the measurement and the report of a deviation. -/
def State.trimmed (s : State) (cnt : Nat) : State :=
  (s.setf Reg.BOSC_MEAS Fld.BOSC_MEAS_cnt cnt).setf Reg.BOSC_TRIM Fld.BOSC_TRIM_trim
    (ux 8 (sat (-128) 127 (trimTo cnt ((s.setf Reg.BOSC_MEAS Fld.BOSC_MEAS_cnt cnt).sfld Reg.BOSC_TRIM Fld.BOSC_TRIM_trim))))

/-- What a measurement leaves: a deviation beyond 5 % is reported. -/
def State.measured (s : State) (cnt : Nat) : State :=
  if 1000976 < 20 * ((cnt : Int) - 1000976).natAbs then ((s.trimmed cnt).setf Reg.CLK_STAT Fld.CLK_STAT_bosc_err 1).report 14 (scopeOf lvModule 0)
  else s.trimmed cnt

theorem fld_measured (hs : s.Inv) {cnt a : Nat} {f : Field} (ha : a ≠ Reg.CLK_STAT) : (s.measured cnt).fld a f = (s.trimmed cnt).fld a f := by
  unfold State.measured
  split
  · exact (fld_congr (State.report_regs _) a f).trans (fld_setf_other (setf_inv (setf_inv hs)) ha)
  · rfl

theorem exec_boscTrimMeasure_on (h0 : s.domainOn 0 = true) (cnt : Nat) : exec (.boscTrimMeasure cnt) s = .next (s.atTrim.measured cnt) := by
  rw [exec_boscTrimMeasure]
  unfold execBoscTrimMeasure State.measured State.trimmed trimTo
  rw [h0, Bool.not_true, if_neg Bool.false_ne_true]
  rfl

theorem trimmed_meas (hs : s.Inv) (cnt : Nat) :
    (s.trimmed cnt).fld Reg.BOSC_MEAS Fld.BOSC_MEAS_cnt = cnt % 2 ^ Fld.BOSC_MEAS_cnt.len := by
  unfold State.trimmed
  rw [fld_setf_other (setf_inv hs) (by decide), fld_setf_same hs (by decide)]

theorem trimmed_trim (hs : s.Inv) (cnt : Nat) :
    (s.trimmed cnt).sfld Reg.BOSC_TRIM Fld.BOSC_TRIM_trim = sat (-128) 127 (trimTo cnt (s.sfld Reg.BOSC_TRIM Fld.BOSC_TRIM_trim)) := by
  have hwas : (s.setf Reg.BOSC_MEAS Fld.BOSC_MEAS_cnt cnt).sfld Reg.BOSC_TRIM Fld.BOSC_TRIM_trim = s.sfld Reg.BOSC_TRIM Fld.BOSC_TRIM_trim :=
    congrArg (sx 8) (fld_setf_other hs (by decide))
  unfold State.trimmed
  rw [State.sfld, fld_setf_same (setf_inv hs) (by decide), hwas]
  refine sx_ux (n := 8) (by decide) ?_ ?_ <;> (unfold sat; split <;> [skip; split] <;> omega)

theorem sat_trimTo {cnt : Nat} {was : Int} (hlo : -128 ≤ was) (hhi : was < 128) :
    sat (-128) 127 (trimTo cnt was) = if 2000 * ((cnt : Int) - 1000976).natAbs ≤ 1000976 then was
      else if 1000976 < cnt then max (-128) (was - 1) else min 127 (was + 1) := by
  unfold sat trimTo
  by_cases h1 : 2000 * ((cnt : Int) - 1000976).natAbs ≤ 1000976
  · rw [if_pos h1, if_pos h1]; omega
  · rw [if_neg h1, if_neg h1]
    by_cases h2 : 1000976 < cnt
    · rw [if_pos h2, if_pos (by omega : 0 < (cnt : Int) - 1000976)]; omega
    · rw [if_neg h2, if_neg (by omega : ¬ 0 < (cnt : Int) - 1000976)]; omega

/-- Settles O57. -/
theorem clockCommands : Obligations.ClockCommands := by
  intro s hs h0
  refine ⟨fun cnt => ?_, fun u hsrc hseq => ?_, fun due hdue hseq hscale => ?_, fun hseq => ?_, fun due hdue hseq => ?_, ?_,
    fun core v hc hr hsrc hseq hok => ?_, fun core second v hc hr => ?_, fun i due hi hlen hramp => ?_, fun core k v hc hk hr hg => ?_⟩
  · refine runs_next (exec_boscTrimMeasure_on h0 cnt) ⟨?_, ?_⟩
    · rw [fld_measured (atTrim_inv hs) (by decide), trimmed_meas (atTrim_inv hs)]
    · rw [State.sfld, fld_measured (atTrim_inv hs) (by decide), ← State.sfld, trimmed_trim (atTrim_inv hs), State.sfld, fld_congr atTrim_regs,
        ← State.sfld]
      have hwas : -128 ≤ s.sfld Reg.BOSC_TRIM Fld.BOSC_TRIM_trim ∧ s.sfld Reg.BOSC_TRIM Fld.BOSC_TRIM_trim < 128 := sx_range (by decide)
      exact sat_trimTo hwas.1 hwas.2
  · have hlost : exec (.referenceLoss u) s = .next (s.setf Reg.CLK_STAT Fld.CLK_STAT_refok 0).referenceLost := by
      have hidle : (s.setf Reg.CLK_STAT Fld.CLK_STAT_refok 0).clkSeq = sqIdle := (fld_setf_field hs (by decide) (by decide)).trans hseq
      simp only [exec_referenceLoss, execReferenceLoss, h0, hsrc, hidle, Bool.not_true, Bool.not_false, Bool.and_false, ne_eq, not_true_eq_false,
          if_false, if_true, Bool.false_eq_true]
    refine runs_next hlost ?_
    unfold State.referenceLost
    simp only [fld_sourceOn, rd_sourceOn, sourceOn_reports, fld_report, State.report_rd, reports_report, clkSeq_sourceOn, clkScale_sourceOn,
      clkSeq_report, clkScale_report]
    grind [fld_setf_same, fld_setf_field, fld_setf_other, setf_inv, rd_inc_same, rd_inc_other, fld_inc_other, inc_inv, State.setf_dtb,
      State.inc_dtb, rd_wr_same, rd_wr_other, fld_wr_other, wr_inv, clkSeq_rampDown, clkScale_rampDown, fld_rampDown, rd_rampDown, mg_rampDown,
      State.dtbLow, State.setf_mg, State.inc_mg, State.wr_mg, State.wr_dtb, Reg.CLK_CNT_LOSS, Reg.CLK_CNT_LOSS, Reg.CLK_LOSST, Reg.CLK_STAT,
      Fld.CLK_STAT_loss_seen, Fld.CLK_STAT_refloss, Fld.CLK_STAT_refok, Fld.CLK_STAT_scale, Fld.CLK_STAT_seq]
  · have hstep : (s.reach due).scaleStep = ((s.reach due).setScale 2).modClk (fun c => { c with due := some (((s.reach due).setScale 2).dtb + 256) }) := by
      unfold State.scaleStep
      exact (if_pos hseq).trans (if_pos hscale)
    refine runs_next (by simp only [exec_clockRampStep, execClockRampStep, hdue, hseq, decide_true, Bool.true_or, if_true, hstep]; exact rfl) ⟨rfl, ?_, rfl⟩
    exact fld_setf_same (reach_inv hs) (by decide)
  · refine runs_next (exec_pllLock s) ?_
    simp only [hseq, if_true]
    unfold State.setClkSeq State.clkSeq
    grind [fld_setf_same, fld_setf_field, fld_setf_other, setf_inv, rd_inc_same, rd_inc_other, fld_inc_other, inc_inv, State.setf_dtb,
      State.inc_dtb, clk_modClk, fld_modClk, sqUp, Reg.CLK_CNT_RELOCK, Reg.CLK_STAT, Fld.CLK_STAT_lock, Fld.CLK_STAT_seq]
  · refine runs_next (exec_relockTimeout s) ?_
    simp only [hdue, hseq, if_true]
    refine ⟨rfl, hseq, rfl⟩
  · refine runs_next (exec_referenceOk s) ?_
    rw [if_pos h0, fld_setf_same hs (by decide)]; decide
  · refine runs_ofUnit (exec_referenceReturn s) (decide_eq_true hc) ?_
    rw [byCore_of_on h0 hr, hsrc, hseq, hok]
    simp only [decide_true, Bool.and_true, if_true]
    exact ⟨clkSeq_rampDown (setf_inv hs), clkScale_rampDown (setf_inv hs), rfl, by
      rw [State.fld, rd_rampDown (setf_inv hs) (by decide), ← State.fld, fld_setf_same hs (by decide)]⟩
  · refine runs_ofUnit (exec_clockDividerWrite s) (decide_eq_true hc) ?_
    rw [byCore_of_on h0 hr]
    cases hdr : s.dividerRefused second v
    · rw [if_neg (by simp), if_neg (by simp)]
      exact rd_congr startRamps_regs _
    · simp only [if_true, true_and]
      exact State.setf_clk s
  · refine runs_ofUnit (exec_dividerRampStep s) (decide_eq_true hi) ?_
    rw [hramp]
    have hnow : ∀ t : State, ∀ r v, i < t.clk.div.length →
        (t.keepRtc fun u => u.modClk fun c => { c with div := c.div.set i v, ramp := c.ramp.set i r }).divNow i = v := by
      intro t r v hi
      simp [State.divNow, State.keepRtc, State.modClk, hi]
    refine ⟨?_, ?_⟩ <;> dsimp only
    · exact (apply_ite State.dtb _ _ _).trans (ite_self _)
    · exact (apply_ite (State.divNow · i) _ _ _).trans ((ite_self _).trans (hnow (s.reach due) none _ hlen))
  · refine runs_ofUnit (exec_clockGateWrite s) (by simp [hc, hk]) ?_
    rw [byCore_of_on h0 hr, hg, Bool.false_and, if_neg Bool.false_ne_true]

end Sys2Proof.Machine
end

section
/-! PROOFS. The statement on the thermal block (R428-R436). -/

namespace Sys2Proof.Machine

set_option Elab.async false

variable {s : State} {z : Nat}

/-! ## The zones -/

section
variable {st sensor d n : Nat} {t : Int} {before : List Nat} {o : Option Int}

theorem thermal_hottest {l : List Nat} {b : Option (Nat × Int)} : (s.hottest z l b).2.thermal = s.thermal :=
  (State.hottest_keeps (K := 128) rfl (Keeps.refl _ s)).thermal rfl
theorem thermal_zoneDerate : (s.zoneDerate z st t).2.thermal = s.thermal := (State.zoneDerate_keeps (K := 128) rfl (Keeps.refl _ s)).thermal rfl
theorem thermal_setZone : (s.setZone z st sensor t d).thermal = s.thermal :=
  (State.setZone_keeps (K := 2203319149318) rfl (Keeps.refl _ s)).thermal rfl
theorem thermal_zoneShutdown : (s.zoneShutdown z).thermal = s.thermal := (State.zoneShutdown_keeps (K := 1048578) rfl (Keeps.refl _ s)).thermal rfl

/-- An event record leaves the zones. -/
theorem zones_recordEvent : (s.recordEvent z st sensor t d before).thermal.zones = s.thermal.zones := by
  unfold State.recordEvent
  split <;> rfl

/-- A request to re-enable leaves the zones' evaluations. -/
theorem zones_takeReenable : (s.takeReenable z o).thermal.zones = s.thermal.zones := by
  have hrel : ∀ u : State, (u.zoneRelease z).thermal = u.thermal := fun u =>
    (State.zoneRelease_keeps (K := 1048578) rfl (Keeps.refl _ u)).thermal rfl
  unfold State.takeReenable
  dsimp only
  split
  · rfl
  · split
    · rw [State.setf_thermal, hrel]; rfl
    · rfl

/-- A zone after an evaluation that found a valid sensor, or none (R431). -/
def ZoneSt.seen (x : ZoneSt) (found : Bool) : ZoneSt := if found then { x with bad := 0, good := x.good + 1 } else { x with bad := x.bad + 1, good := 0 }

/-- An evaluation counts the sensor it found, and sets the next evaluation. -/
theorem evaluateZone_zones : ∃ u : State, s.evaluateZone z = u.modZone z (fun x => { x with nextAt := some (u.nextMultiple (u.zonePeriod z)) }) ∧
    u.thermal.zones = s.thermal.zones.modify z (·.seen (s.hottest z (List.range 32) none).1.isSome) := by
  unfold State.evaluateZone
  have hfound := thermal_hottest (s := s) (z := z) (l := List.range 32) (b := none)
  generalize s.hottest z (List.range 32) none = p at hfound ⊢
  obtain ⟨found, u⟩ := p
  dsimp only at hfound ⊢
  generalize hw : (u.takeReenable z (found.map (·.2))).modZone z _ = w
  have hzones : w.thermal.zones = s.thermal.zones.modify z (·.seen found.isSome) := by
    rw [← hw, ← hfound, ← zones_takeReenable (s := u) (z := z) (o := found.map (·.2))]
    cases found <;> rfl
  refine ⟨_, rfl, ?_⟩
  simp only [apply_ite (fun u : State => u.thermal.zones), zones_recordEvent, thermal_zoneShutdown, thermal_setZone, thermal_zoneDerate, ite_self]
  exact hzones

end

theorem zonePeriod_pos : 0 < s.zonePeriod z := by
  unfold State.zonePeriod
  dsimp only
  split
  · decide
  · split
    · decide
    · split <;> decide

theorem dtb_lt_nextMultiple {p : Nat} (hp : 0 < p) : s.dtb < s.nextMultiple p := by
  unfold State.nextMultiple
  have := Nat.div_add_mod s.dtb p
  have := Nat.mod_lt s.dtb hp
  have : (s.dtb / p + 1) * p = p * (s.dtb / p) + p := by ring
  omega

/-- No sensor is enabled, so none is found. -/
theorem hottest_none (h0 : s.rd (Reg.TH_ZSEN z) = 0) (l : List Nat) : (s.hottest z l none).1 = none := by
  induction l with
  | nil => rfl
  | cons k ks ih =>
    have : bit (s.rd (Reg.TH_ZSEN z)).toNat k = false := by rw [h0]; simp [bit]
    unfold State.hottest
    rw [this]
    exact ih

/-! ## Event records -/

theorem nvmSet_inv (h : s.Inv) {a : Nat} {v : Byte} : (s.nvmSet a v).Inv := (State.nvmSet_keeps (K := 32) rfl (Keeps.refl _ s)).inv h
theorem nvmWrite_inv (h : s.Inv) {a : Nat} {bs : List Byte} : (s.nvmWrite a bs).Inv := (State.nvmWrite_keeps (K := 32) rfl (Keeps.refl _ s)).inv h

/-- A write of bytes leaves every other byte. -/
theorem nvmGet_nvmWrite_other (h : s.Inv) {a x : Nat} (bs : List Byte) (hx : x < a ∨ a + bs.length ≤ x) : (s.nvmWrite a bs).nvmGet x = s.nvmGet x := by
  induction bs generalizing s a with
  | nil => rfl
  | cons b bs ih =>
    rw [List.length_cons] at hx
    unfold State.nvmWrite
    rw [ih (nvmSet_inv h) (by omega), nvmGet_nvmSet_other h (by omega)]

/-- A write of bytes stores each at its address. -/
theorem nvmGet_nvmWrite (h : s.Inv) {a k : Nat} (bs : List Byte) (hk : k < bs.length) : (s.nvmWrite a bs).nvmGet (a + k) = bs.getD k 0 := by
  induction bs generalizing s a k with
  | nil => exact absurd hk (Nat.not_lt_zero _)
  | cons b bs ih =>
    unfold State.nvmWrite
    match k with
    | 0 =>
      rw [nvmGet_nvmWrite_other (nvmSet_inv h) bs (by omega)]
      exact nvmGet_nvmSet_same h
    | k + 1 =>
      have := ih (s := s.nvmSet a b) (nvmSet_inv h) (a := a + 1) (k := k) (by simpa using hk)
      rw [show a + (k + 1) = a + 1 + k by omega, this]
      rfl

/-- Settles O45. -/
theorem thermalCommands : Obligations.ThermalCommands := by
  intro s hs
  refine ⟨fun z due hz h3 hen hdue => ?_, fun r rest hrec h7 hlen => ?_, fun core v hc hr h3 => ?_⟩
  · refine runs_ofUnit (exec_zoneEvaluation s) (decide_eq_true hz) ?_
    rw [hdue]
    simp only [h3, hen, Bool.and_self, if_true]
    have hdtb : ((s.reach due).evaluateZone z).dtb = max s.dtb due := (State.evaluateZone_keeps (K := 2753076011910) rfl (Keeps.refl _ _)).dtb rfl
    obtain ⟨u, he, hu⟩ := evaluateZone_zones (s := s.reach due) (z := z)
    have hin : z < (s.reach due).thermal.zones.length := by rw [State.reach_thermal, hs.thermal]; exact hz
    have hzone : ((s.reach due).evaluateZone z).zone z = { ((s.zone z).seen ((s.reach due).hottest z (List.range 32) none).1.isSome) with
        nextAt := some (u.nextMultiple (u.zonePeriod z)) } := by
      rw [he]
      unfold State.zone State.modZone State.modThermal
      rw [getD_modify_same _ _ _ _ (by rw [hu, List.length_modify]; exact hin), hu, getD_modify_same _ _ _ _ hin]
      rfl
    have hudtb : u.dtb = max s.dtb due := by rw [← hdtb, he]; rfl
    refine ⟨hdtb, ⟨_, by rw [hzone], ?_⟩, fun h0 => ?_⟩
    · rw [hdtb, ← hudtb]
      exact dtb_lt_nextMultiple zonePeriod_pos
    · rw [hzone, hottest_none (s := s.reach due) h0]
      exact ⟨rfl, rfl⟩
  · refine runs_next (exec_eventRecordCopy s) ?_
    generalize hu : (s.nvmWrite (0x483FF800 + 32 * s.fld Reg.TH_RECPTR Fld.TH_RECPTR_n) r) = u
    have hui : u.Inv := hu ▸ nvmWrite_inv hs
    have hcopy : s.copyRecord = if rest.isEmpty then (((u.setf Reg.TH_RECPTR Fld.TH_RECPTR_n ((s.fld Reg.TH_RECPTR Fld.TH_RECPTR_n + 1) % 64)).modThermal
        (fun x => { x with records := rest })).setf Reg.TH_STAT Fld.TH_STAT_nvm_pend 0) else
        (u.setf Reg.TH_RECPTR Fld.TH_RECPTR_n ((s.fld Reg.TH_RECPTR Fld.TH_RECPTR_n + 1) % 64)).modThermal (fun x => { x with records := rest }) := by
      unfold State.copyRecord
      rw [hrec, ← hu]
      simp only [h7, Bool.not_true, Bool.false_eq_true, if_false]
    have hnvm : s.copyRecord.nvm = u.nvm := by rw [hcopy]; split <;> rfl
    have hget : ∀ x, s.copyRecord.nvmGet x = u.nvmGet x := fun x => by unfold State.nvmGet; rw [hnvm]
    refine ⟨by rw [hcopy]; split <;> rfl, fun k hk => ?_, fun x hx => ?_, ?_⟩
    · rw [hget, ← hu]; exact nvmGet_nvmWrite hs r (by omega)
    · rw [hget, ← hu]; exact nvmGet_nvmWrite_other hs r (by omega)
    · have hset : (u.setf Reg.TH_RECPTR Fld.TH_RECPTR_n ((s.fld Reg.TH_RECPTR Fld.TH_RECPTR_n + 1) % 64)).fld Reg.TH_RECPTR Fld.TH_RECPTR_n =
          (s.fld Reg.TH_RECPTR Fld.TH_RECPTR_n + 1) % 64 := by
        rw [fld_setf_same hui (by decide)]; exact Nat.mod_mod _ 64
      have hinv : ((u.setf Reg.TH_RECPTR Fld.TH_RECPTR_n ((s.fld Reg.TH_RECPTR Fld.TH_RECPTR_n + 1) % 64)).modThermal
          (fun x => { x with records := rest })).Inv := { setf_inv hui with }
      rw [hcopy]
      split
      · rw [fld_setf_other hinv (by decide)]; exact hset
      · exact hset
  · refine runs_ofUnit (exec_thermalReenableRequest s) (decide_eq_true (by omega)) ?_
    have ht : teamOf core = 0 := Nat.div_eq_of_lt hc
    rw [access_of h3 hr, ht]
    exact ⟨rfl, rfl, rfl⟩

end Sys2Proof.Machine
end

section
/-! PROOFS. A lowering entry of the power controller that names a domain outside the module. `State.Inv` has no bound on the domains of
an entry, and no run reaches such a state. An interrupt that aborts the entry counts the abort in PWR_CNT_ABT of each domain named
(R545), and the counter of that domain is a register of another block. -/

namespace Sys2Proof.Machine

set_option Elab.async false

variable {s : State}

/-- The next state of a command, if it has one, and whether `p` holds of it. -/
def leads (c : Instr) (s : State) (p : State → Bool) : Bool :=
  match exec c s with
  | .next t => p t
  | _ => false

theorem leads_of_runs {c : Instr} {P : State → Prop} {p : State → Bool} (h : Runs c s P) (hp : ∀ t, P t → p t = true) : leads c s p = true := by
  obtain ⟨t, ht, hP⟩ := h
  unfold leads
  rw [ht]
  exact hp t hP

/-- Fields of registers written in turn. -/
def withFields (s : State) (l : List (Nat × Field × Nat)) : State := l.foldl (fun s x => s.setf x.1 x.2.1 x.2.2) s

theorem withFields_inv (h : s.Inv) (l : List (Nat × Field × Nat)) : (withFields s l).Inv := by
  unfold withFields
  induction l generalizing s with
  | nil => exact h
  | cons x xs ih => exact ih (setf_inv h)

/-- After reset with PD0 to PD7 ON and fields written: source `src` is routed to core 0 of Team S, and an entry of Team S lowers PD0 and
the domain whose abort counter would stand at address `a`. -/
def strayEntry (src a : Nat) (l : List (Nat × Field × Nat)) : State :=
  (withFields State.reset ((Reg.PWR_STAT, ⟨0, 16⟩, 0) :: (Reg.IRQ_CFG 0 src, Fld.IRQ_CFG_prio, 1) :: (Reg.HARN_STAT 0, Fld.HARN_STAT_mode, 1) :: l)).modPower
    (fun _ => { entry := some (0, [(0, 1, 1), ((a - Reg.PWR_CNT_ABT 0) / 4, 1, 1)]) })

theorem modPower_inv (h : s.Inv) {f : PowerSt → PowerSt} : (s.modPower f).Inv := { h with }

theorem modTripIn_inv (h : s.Inv) {n : Nat} {f : TripIn → TripIn} : (s.modTripIn n f).Inv :=
  (State.modTripIn_keeps (K := 2 ^ 15) rfl (Keeps.refl _ s)).inv h
theorem modSecure_inv (h : s.Inv) {f : SecSt → SecSt} : (s.modSecure f).Inv := { h with }

theorem strayEntry_inv (src a : Nat) (l : List (Nat × Field × Nat)) : (strayEntry src a l).Inv := modPower_inv (withFields_inv reset_inv _)

/-- Refutes O27: after reset TRIP_IN 0 has been active since cycle 0 with bits 0 to 7 of TRP_LVL set. Its filter expires and line 8 acts;
the interrupt of line 8 counts an abort in TRP_LVL, and the carry clears the line. -/
theorem not_pwmRegisters : ¬ Obligations.PwmRegisters := by
  intro h
  obtain ⟨-, -, -, -, -, -, -, -, -, hexpiry⟩ := h
    ((strayEntry 8 Reg.TRP_LVL [(Reg.TRP_LVL, ⟨0, 8⟩, 255), (Reg.TRP_POL, ⟨0, 1⟩, 1)]).modTripIn 0 (fun x => { x with pin := true, since := some 0 }))
    (modTripIn_inv (strayEntry_inv _ _ _)) (by decide +kernel) (by decide +kernel)
  have hrun := leads_of_runs (hexpiry 0 0 (by decide) (by decide +kernel)) (p := fun t => bit (t.rd Reg.TRP_LVL).toNat 8)
    (fun t ht => ht.2.1.trans (by decide +kernel))
  exact absurd hrun (by decide +kernel)

/-- Refutes O28: with bits 0 to 4 of TRP_LVL set, the interrupt of trip line 5 counts an abort in TRP_LVL, and the carry clears the line
that BIAS_UNDERVOLTAGE has set. -/
theorem not_gateChannels : ¬ Obligations.GateChannels := by
  intro h
  obtain ⟨-, -, -, -, -, -, -, -, -, hbias, -⟩ := h (strayEntry 5 Reg.TRP_LVL [(Reg.TRP_LVL, ⟨0, 5⟩, 31)]) (strayEntry_inv _ _ _)
  have hrun := leads_of_runs (hbias 0 (by decide) (by decide +kernel)) (p := fun t => bit (t.rd Reg.TRP_LVL).toNat 5) (fun _ ht => ht.2.1)
  exact absurd hrun (by decide +kernel)

/-- Refutes O29: the interrupt of trip line 4 counts an abort in TRP_LVL, and the carry clears the line that HARD_OVERVOLTAGE has set. -/
theorem not_gateBlock : ¬ Obligations.GateBlock := by
  intro h
  obtain ⟨-, -, -, -, -, -, -, -, -, -, -, -, -, -, hline, -⟩ := h (strayEntry 4 Reg.TRP_LVL [(Reg.TRP_LVL, ⟨0, 4⟩, 15)]) (strayEntry_inv _ _ _)
  have hrun := leads_of_runs hline (p := fun t => bit (t.rd Reg.TRP_LVL).toNat 4) (fun _ h => h)
  exact absurd hrun (by decide +kernel)

/-- Refutes O40: with bit 0 of WDG_STAT set, interrupt 107 counts an abort in WDG_STAT, and the carry clears the warning. -/
theorem not_teamInterrupts : ¬ Obligations.TeamInterrupts := by
  intro h
  obtain ⟨-, -, -, -, -, -, -, hwarn, -⟩ := h
    (strayEntry 107 (Reg.WDG_STAT 0 0) [(Reg.WDG_CTRL 0 0, Fld.WDG_CTRL_en, 1), (Reg.WDG_STAT 0 0, ⟨0, 1⟩, 1)]) (strayEntry_inv _ _ _)
  have hrun := leads_of_runs (hwarn 0 0 (by decide) (by decide) (by decide +kernel))
    (p := fun u => u.fld (Reg.WDG_STAT 0 0) Fld.WDG_STAT_warn == 1) (fun _ hu => beq_iff_eq.mpr hu.1)
  exact absurd hrun (by decide +kernel)

/-- Refutes O41: interrupt 105 counts an abort in HARN_MIST, which then is not the time of the mismatch. -/
theorem not_teamHarness : ¬ Obligations.TeamHarness := by
  intro h
  obtain ⟨hmis, -⟩ := h (strayEntry 105 (Reg.HARN_MIST 0) []) 0 (strayEntry_inv _ _ _) (by decide) (by decide +kernel)
  have hrun := leads_of_runs (hmis 0 0 (by decide) (by decide +kernel) (by decide +kernel))
    (p := fun u => u.rd (Reg.HARN_MIST 0) == (strayEntry 105 (Reg.HARN_MIST 0) []).dtbLow) (fun _ hu => beq_iff_eq.mpr hu.2.2.2.2.2.1)
  exact absurd hrun (by decide +kernel)

/-- Refutes O42: interrupt 12 counts an abort in MG_CNT_FLT, which so counts the report twice. -/
theorem not_martingaleReports : ¬ Obligations.MartingaleReports := by
  intro h
  obtain ⟨-, -, -, -, -, hreport, -⟩ := h ((strayEntry 12 Reg.MG_CNT_FLT [(Reg.MG_RX 0, Fld.MG_RX_rx, 0)]).report 0 0)
    (report_inv (strayEntry_inv _ _ _)) (by decide +kernel)
  have hrun := leads_of_runs (hreport 0 0 0 (by decide) (by decide) (by decide) (by decide +kernel) (by decide +kernel))
    (p := fun t => t.rd Reg.MG_CNT_FLT == 1) (fun _ ht => beq_iff_eq.mpr (ht.2.2.1.trans (by decide +kernel)))
  exact absurd hrun (by decide +kernel)

/-- Refutes O44: interrupt 12 counts an abort in MG_DSTAT, and the state of the drive passes over STO. -/
theorem not_martingaleDrives : ¬ Obligations.MartingaleDrives := by
  intro h
  obtain ⟨-, -, -, -, hramp⟩ := h (strayEntry 12 (Reg.MG_DSTAT 0) [(Reg.MG_DSTAT 0, Fld.MG_DSTAT_fstate, 1)]) 0 (strayEntry_inv _ _ _) (by decide)
  have hrun := leads_of_runs (hramp (by decide +kernel)) (p := fun t => t.fstate 0 == 2) (fun _ ht => beq_iff_eq.mpr ht.2.1)
  exact absurd hrun (by decide +kernel)

/-- Refutes O47: interrupt 84 counts an abort in BUS_STAT, and the carry clears the awake flag that BUS_WAKE has set. -/
theorem not_busFramesAndSleep : ¬ Obligations.BusFramesAndSleep := by
  intro h
  obtain ⟨-, -, -, -, -, hwake, -⟩ := h (strayEntry 84 (Reg.BUS_STAT 0) [(Reg.BUS_STAT 0, Fld.BUS_STAT_awake, 0)])
    (strayEntry_inv _ _ _)
  have hrun := leads_of_runs (hwake 0 0 2000 (by decide) (by decide) (by decide +kernel) (by decide) (by decide +kernel) (by decide +kernel))
    (p := fun t => t.fld (Reg.BUS_STAT 0) Fld.BUS_STAT_awake == 1) (fun _ ht => beq_iff_eq.mpr ht)
  exact absurd hrun (by decide +kernel)

/-- Refutes O55: interrupt 100 counts an abort in SEC_VST, which so reads busy after the end of the verification. -/
theorem not_securityCommands : ¬ Obligations.SecurityCommands := by
  intro h
  obtain ⟨-, hdone, -⟩ := h ((strayEntry 100 Reg.SEC_VST [(Reg.CLK_GATE 10, Fld.CLK_GATE_run, 1)]).modSecure (fun x => { x with verify := some 0 }))
    (modSecure_inv (strayEntry_inv _ _ _)) (by decide +kernel)
  have hrun := leads_of_runs (hdone 0 (by decide +kernel) (by decide +kernel)) (p := fun t => t.fld Reg.SEC_VST Fld.SEC_VST_busy == 0)
    (fun _ ht => beq_iff_eq.mpr ht.2.1)
  exact absurd hrun (by decide +kernel)

end Sys2Proof.Machine
end

section
/-! PROOFS. Refutations about the Bridle engine and the safety inputs by the same stray entry of the power controller. -/

namespace Sys2Proof.Machine

set_option Elab.async false

variable {s : State}

theorem modInput_inv (h : s.Inv) {i : Nat} {f : SafetyIn → SafetyIn} : (s.modInput i f).Inv :=
  (State.modInput_keeps (K := 2 ^ 20) rfl (Keeps.refl _ s)).inv h

theorem setDesc_inv (h : s.Inv) {id : Nat} {v : DWord} : (s.setDesc id v).Inv :=
  (State.setDesc_keeps (K := 2 ^ 3) rfl (Keeps.refl _ s)).inv h

theorem modSess_inv (h : s.Inv) {n : Nat} {f : Sess → Sess} : (s.modSess n f).Inv :=
  (State.modSess_keeps (K := 2 ^ 22) rfl (Keeps.refl _ s)).inv h

theorem variant_inv (h : s.Inv) {v : Variant} : ({ s with variant := v } : State).Inv := { h with }

/-- Refutes O43: interrupt 12 counts an abort in MG_SISTAT, and the carry moves input 0 from FAULT on. -/
theorem not_martingaleInputs : ¬ Obligations.MartingaleInputs := by
  intro h
  obtain ⟨-, -, -, -, -, htimeout, -⟩ := h
    ((strayEntry 12 Reg.MG_SISTAT [(Reg.MG_SI 0, Fld.MG_SI_fn, 1), (Reg.MG_SI 0, Fld.MG_SI_drv, 1), (Reg.MG_SISTAT, ⟨0, 2⟩, 2)]).modInput 0
      (fun x => { x with disc := some 0 })) (modInput_inv (strayEntry_inv _ _ _)) (by decide +kernel)
  have hrun := leads_of_runs (htimeout 0 0 (by decide) (by decide +kernel) (by decide +kernel)) (p := fun t => siState t 0 == 3)
    (fun _ ht => beq_iff_eq.mpr ht.2.1)
  exact absurd hrun (by decide +kernel)

/-- Refutes O51: interrupt 90 counts an abort in BRD_SESS, and the session that the idle time-out has freed reads OPENING. -/
theorem not_bridleSessions : ¬ Obligations.BridleSessions := by
  intro h
  obtain ⟨-, -, -, -, -, -, -, -, -, hidle, -⟩ := h (strayEntry 90 (Reg.BRD_SESS 0) [(Reg.BRD_SESS 0, Fld.BRD_SESS_state, 2)])
    ⟨0, 0, 0, false, false, [], []⟩ 0 (strayEntry_inv _ _ _)
  have hrun := leads_of_runs (hidle 1 (by decide) (by decide) (by decide +kernel)) (p := fun t => t.sessState 1 == 0)
    (fun _ ht => beq_iff_eq.mpr ht.1)
  exact absurd hrun (by decide +kernel)

/-- The Bridle engine runs with the settings `cfg` in BRD_CTRL, port 0 takes requests, session 1 is OPEN on it at `level`, and both teams
run. -/
def bridleFields (level cfg : Nat) : List (Nat × Field × Nat) :=
  [(Reg.BUS_CTRL 0, Fld.BUS_CTRL_en, 1), (Reg.BUS_CTRL 0, Fld.BUS_CTRL_mode, 0), (Reg.BUS_CTRL 0, Fld.BUS_CTRL_fd, 1),
    (Reg.BUS_STAT 0, Fld.BUS_STAT_awake, 1), (Reg.BUS_STAT 0, Fld.BUS_STAT_integ, 0), (Reg.BUS_STAT 0, Fld.BUS_STAT_boff, 0),
    (Reg.BUS_BRQ 0, Fld.BUS_BRQ_en, 1), (Reg.BRD_CTRL, ⟨0, 8⟩, cfg), (Reg.BRD_FWCFG, Fld.BRD_FWCFG_tmo, 100),
    (Reg.BRD_SESS 0, Fld.BRD_SESS_state, 2), (Reg.BRD_SESS 0, Fld.BRD_SESS_level, level), (Reg.BRD_SESS 0, Fld.BRD_SESS_port, 0),
    (Reg.HARN_STAT 0, Fld.HARN_STAT_live, 1), (Reg.HARN_STAT 1, Fld.HARN_STAT_live, 1), (Reg.HARN_STAT 1, Fld.HARN_STAT_mode, 1)]

/-- `strayEntry` with the engine's fields, and a request key for session 1. -/
def strayBridle (src a level cfg : Nat) : State :=
  (strayEntry src a (bridleFields level cfg)).modSess 1 (fun x => { x with kreq := List.replicate 16 0 })

theorem strayBridle_inv (src a level cfg : Nat) : (strayBridle src a level cfg).Inv := modSess_inv (strayEntry_inv _ _ _)

/-- A request of session 1 on port 0 with the MAC of the session's key in `s`. -/
def signedRequest (s : State) (seq op : Nat) (params : List Byte) : Packet :=
  { p := 0, n := 1, seq := seq, conf := false, xl := false, params := params
    mac := (Crypto.cmac (s.sess 1).kreq (requestBytes 1 seq op false params [])).take 8 }

theorem signedRequest_authentic (s : State) (seq op : Nat) (params : List Byte) : (signedRequest s seq op params).Authentic op s := .inr rfl

/-- Refutes O49: interrupt 90 counts an abort in BRD_SESS, and the session that sequence FFFF_FFFF has closed reads OPENING. -/
theorem not_bridleChecks : ¬ Obligations.BridleChecks := by
  intro h
  let s := strayBridle 90 (Reg.BRD_SESS 0) 1 1
  let q := signedRequest s 0xFFFFFFFF 0x4012 []
  have hreach : q.Reaches 0x4012 s := ⟨by decide +kernel, by decide +kernel, by decide +kernel, by decide +kernel, by decide +kernel, by decide +kernel⟩
  obtain ⟨-, -, -, -, -, -, -, hfirst, -⟩ := h s q 0x4012 (.lvClear q.p q.n q.seq q.conf q.xl q.params q.mac) (strayBridle_inv _ _ _ _)
    (.inl (by simp [Packet.EngineCommand])) hreach
  have hrun := leads_of_runs (hfirst 0 ⟨.hw, 2, 1⟩
      ⟨hreach, .inr (by decide +kernel), signedRequest_authentic _ _ _ _, by decide +kernel, .inr (by decide +kernel)⟩
      (by simp [Packet.EngineCommand]) (by decide) (by decide) (by decide +kernel))
    (p := fun t => t.sessState 1 == 0) (fun _ ht => beq_iff_eq.mpr (ht.2 rfl))
  exact absurd hrun (by decide +kernel)

/-- The replies of port 0 to a request end within BRD_CTRL.rdl as it was when the request arrived. -/
def repliesWithin (s t : State) : Bool :=
  (t.busAt 0).replies.map (fun r => r.deadline) == (s.busAt 0).replies.map (fun r => r.deadline) ++ [s.dtb + s.rdl]

theorem repliesWithin_of_replied {s t : State} {q : Packet} {op status time now : Nat} {l : List Byte} (hp : q.p = 0)
    (h : q.Replied op status time l now s t) : repliesWithin s t = true := by
  unfold Packet.Replied at h
  rw [hp] at h
  simp [repliesWithin, h]

/-- Interrupt 88 counts an abort in BRD_CTRL, and the carry raises rdl between a request and its reply. -/
def strayDeadline (level id : Nat) : State :=
  (strayBridle 88 Reg.BRD_CTRL level 255).setDesc id (BitVec.ofNat 64 (1 + 2 * 4 + 5 * 2 ^ 16 + 15 * 2 ^ 40))

theorem strayDeadline_inv (level id : Nat) : (strayDeadline level id).Inv := setDesc_inv (strayBridle_inv _ _ _ _)

/-- Refutes O52: interrupt 88 counts an abort in BRD_CTRL, and PARK_REQ is answered within another time than BRD_CTRL.rdl set when the
request arrived. -/
theorem not_firmwareCommands : ¬ Obligations.FirmwareCommands := by
  intro h
  let s := { strayDeadline 1 (asig 0x400) with variant := .f }
  let q := signedRequest s 7 0x5020 (Crypto.beBytes 1 0)
  obtain ⟨-, -, -, -, -, hpark, -⟩ := h s q 0 0 0 (variant_inv (strayDeadline_inv _ _))
  have hreach : q.Reaches 0x5020 s := ⟨by decide +kernel, by decide +kernel, by decide +kernel, by decide +kernel, by decide +kernel, by decide +kernel⟩
  have hserved : q.Served 0x5020 0 0 s := ⟨⟨hreach, .inr (by decide +kernel), signedRequest_authentic _ _ _ _, by decide +kernel,
    .inr (by decide +kernel)⟩, .inl rfl, by decide +kernel, by decide +kernel, by decide +kernel, by decide +kernel⟩
  have hpass : q.Passes 1 [(asig 0x400, W 0)] 15 [11] (q.atFirmware 0x5020 0 0 s) :=
    ⟨by decide +kernel, by decide +kernel, by decide +kernel, by decide +kernel⟩
  have hrun := leads_of_runs (hpark 0 400000 15 hserved (by decide) rfl (by decide) hpass (by unfold State.admits; decide +kernel))
    (p := repliesWithin s) (fun _ ht => repliesWithin_of_replied (q := q) rfl ht.1.2)
  exact absurd hrun (by decide +kernel)

/-- Refutes O53: interrupt 88 counts an abort in BRD_CTRL, and SW_RESET is answered within another time than BRD_CTRL.rdl set when the
request arrived. -/
theorem not_firmwareConfigures : ¬ Obligations.FirmwareConfigures := by
  intro h
  let s := strayDeadline 2 0
  let q := signedRequest s 7 0x0030 []
  obtain ⟨hreset, -⟩ := h s q 0 0 0 (strayDeadline_inv _ _)
  have hreach : q.Reaches 0x0030 s := ⟨by decide +kernel, by decide +kernel, by decide +kernel, by decide +kernel, by decide +kernel, by decide +kernel⟩
  have hserved : q.Served 0x0030 0 0 s := ⟨⟨hreach, .inr (by decide +kernel), signedRequest_authentic _ _ _ _, by decide +kernel,
    .inr (by decide +kernel)⟩, .inr (by decide), by decide +kernel, by decide +kernel, by decide +kernel, by decide +kernel⟩
  have hrun := leads_of_runs (hreset 400000 _ hserved rfl (by decide) (by decide +kernel) rfl (by decide +kernel) (by unfold State.admits; decide +kernel))
    (p := repliesWithin s) (fun _ ht => repliesWithin_of_replied (q := q) rfl ht.2)
  exact absurd hrun (by decide +kernel)

/-- Refutes O54: interrupt 88 counts an abort in BRD_CNT_FWLATE, which so counts a late answer to SHIFT_TO twice. -/
theorem not_firmwareAnswers : ¬ Obligations.FirmwareAnswers := by
  intro h
  let s := { strayBridle 88 Reg.BRD_CNT_FWLATE 1 1 with variant := .f }
  let q := signedRequest s 7 0x5010 []
  obtain ⟨-, -, -, -, -, -, hlate, -⟩ := h s q 0 (s.fwTmo + 1) 0 (variant_inv (strayBridle_inv _ _ _ _))
  have hreach : q.Reaches 0x5010 s := ⟨by decide +kernel, by decide +kernel, by decide +kernel, by decide +kernel, by decide +kernel, by decide +kernel⟩
  have hserved : q.Served 0x5010 0 0 s := ⟨⟨hreach, .inr (by decide +kernel), signedRequest_authentic _ _ _ _, by decide +kernel,
    .inr (by decide +kernel)⟩, .inl rfl, by decide +kernel, by decide +kernel, by decide +kernel, by decide +kernel⟩
  have hrun := leads_of_runs (hlate hserved (Nat.lt_succ_self _)) (p := fun t => t.rd Reg.BRD_CNT_FWLATE == 1)
    (fun _ ht => beq_iff_eq.mpr (ht.2.2.trans (by decide +kernel)))
  exact absurd hrun (by decide +kernel)

end Sys2Proof.Machine
end

section
/-! PROOFS. SET_MODE against a wake from a low-power entry. -/

namespace Sys2Proof.Machine

set_option Elab.async false

variable {s : State}

theorem setSlot_inv (h : s.Inv) {k : Nat} {x : Option Slot} : (s.setSlot k x).Inv :=
  (State.setSlot_keeps (K := 2 ^ 22 + 2 ^ 1) rfl (Keeps.refl _ s)).inv h

/-- SET_MODE for SERVICE, accepted for commit at time 0. -/
def serviceSlot : Slot :=
  { port := 0, xl := false, session := 0, seq := 0, opcode := 0x0010, conf := false, params := Crypto.beBytes 1 5, tEnd := 0
    stage := .waiting, writes := [(sigTarget, W 5)] }

/-- Refutes O50: Team S enters a low-power state in PARKED when SET_MODE for SERVICE commits. Interrupt 89 of the commit aborts the entry,
and the wake event asks the mode machine for STANDBY. -/
theorem not_bridleCommands : ¬ Obligations.BridleCommands := by
  intro h
  obtain ⟨-, -, -, -, -, -, -, -, -, -, -, -, hcommit⟩ := h
    (((strayEntry 89 (Reg.PWR_CNT_ABT 0) []).setDesc sigTarget (BitVec.ofNat 64 (1 + 4 * 6))).setSlot 0 (some serviceSlot))
    ⟨0, 0, 0, false, false, [], []⟩ 0 (setSlot_inv (setDesc_inv (strayEntry_inv _ _ _)))
  obtain ⟨-, -, hmode, -⟩ := hcommit 0 (by decide +kernel) (by decide +kernel)
  have hrun := leads_of_runs (hmode 0 serviceSlot 5 (by decide +kernel) rfl rfl rfl rfl (by decide) (by decide +kernel)
    ⟨by decide +kernel, by decide +kernel, by decide +kernel⟩) (p := fun t => t.val sigTarget == 5) (fun _ ht => beq_iff_eq.mpr ht.1)
  exact absurd hrun (by decide +kernel)

end Sys2Proof.Machine
end

section
/-! PROOFS. Refutations by one state each: a held safe pattern, and a power request that PWR_REQ does not mirror. -/

namespace Sys2Proof.Machine

set_option Elab.async false

variable {s : State}

theorem modPg_inv (h : s.Inv) {g : Nat} {f : PgSt → PgSt} : (s.modPg g f).Inv := (State.modPg_keeps (K := 2 ^ 14) rfl (Keeps.refl _ s)).inv h

theorem modLvSeq_inv (h : s.Inv) {f : LvSeqSt → LvSeqSt} : (s.modLvSeq f).Inv := { h with }

/-- Refutes O36: in soft start generator 18 is tripped with its low side on, as a safe pattern holds it. PHASE_CURRENT_ZERO leaves the
switches of a held safe pattern. -/
theorem not_lvConverter : ¬ Obligations.LvConverter := by
  intro h
  obtain ⟨-, -, -, hzero, -⟩ := h
    (((withFields State.reset [(Reg.PWM_STAT 18, Fld.PWM_STAT_trip, 1)]).modLvSeq (fun l => { l with st := lvSoft })).modPg 18 (fun p => { p with lo := true }))
    (modPg_inv (modLvSeq_inv (withFields_inv reset_inv _)))
  have hrun := leads_of_runs (hzero 0 (by decide) rfl (by decide +kernel)) (p := fun t => (t.pgAt 18).lo == false) (fun _ ht => beq_iff_eq.mpr ht.1)
  exact absurd hrun (by decide +kernel)

/-- Refutes O58: a request of Team S to lower PD0 to OFF still waits for its WFI, and PD1 is ON, while PWR_REQ reads 0. With that request
the next one breaks R538, and PD2 does not join the requests that wait. -/
theorem not_powerCommands : ¬ Obligations.PowerCommands := by
  intro h
  obtain ⟨hreq, -⟩ := h ((withFields State.reset [(Reg.PWR_STAT, ⟨0, 16⟩, 0), (Reg.PWR_REQ, ⟨0, 32⟩, 0)]).modPower (fun p => { p with want := [[(0, 2)], []] }))
    (modPower_inv (withFields_inv reset_inv _))
  have hrun := leads_of_runs (hreq 0 0xFFDF 2 (by decide) (by decide +kernel) (by decide +kernel) (by decide) (by decide) rfl (by decide)
    (by decide +kernel) (by decide +kernel) (by decide +kernel) (by decide +kernel) (by decide +kernel))
    (p := fun t => (t.power.want.getD 0 []).contains (2, 1)) (fun _ ht => List.contains_iff_mem.mpr ht.1)
  exact absurd hrun (by decide +kernel)

end Sys2Proof.Machine
end

section
/-! PROOFS. The keeper: ship mode, the button and the long press (spec/10), on the RTC. -/

namespace Sys2Proof.Machine

set_option Elab.async false

variable {s : State}

/-! ## Time on the RTC -/

/-- A due time of the RTC that lies ahead is reached in the first CLK_CTL cycle at or after it (R28). -/
theorem reachRtc_time (r : Nat) : s.dtb ≤ (s.reachRtc r).dtb ∧
    (0 < s.cycle → 8 * (r : Int) ≤ (s.reachRtc r).rtcFine ∧ ((s.reachRtc r).dtb = s.dtb ∨ (s.reachRtc r).rtcFine < 8 * (r : Int) + s.cycle)) := by
  refine ⟨le_max_left _ _, fun hc => ?_⟩
  have hcycle : max 1 s.cycle = s.cycle := max_eq_right hc
  unfold State.reachRtc State.rtcFine
  simp only [hcycle]
  have hpos : (0 : Int) < (s.cycle : Int) := by exact_mod_cast hc
  have hone : ((s.cycle - 1 : Nat) : Int) = s.cycle - 1 := by omega
  rw [hone]
  set x : Int := (8 * r : Nat) - s.rtcBase + (s.cycle - 1) with hx
  have hlo := Int.ediv_mul_le x hpos.ne'
  have hhi := Int.lt_ediv_add_one_mul_self x hpos
  set y : Int := x / (s.cycle : Int) with hy
  have hmax : ((max s.dtb y.toNat : Nat) : Int) = max (s.dtb : Int) y ∨ y < 0 ∧ max s.dtb y.toNat = s.dtb := by
    rcases lt_or_ge y 0 with h | h
    · exact .inr ⟨h, by rw [Int.toNat_of_nonpos h.le, Nat.max_zero]⟩
    · left; push_cast; rw [Int.toNat_of_nonneg h]
  have hle : ∀ d : Int, y ≤ d → 8 * (r : Int) ≤ s.rtcBase + s.cycle * d := fun d hd => by
    have := mul_le_mul_of_nonneg_left hd hpos.le
    push_cast at hx
    nlinarith
  refine ⟨hle _ ?_, ?_⟩
  · rcases hmax with h | ⟨h, h'⟩
    · rw [h]; exact le_max_right _ _
    · omega
  · rcases le_or_gt y s.dtb with h | h
    · left; omega
    · right
      have hd : ((max s.dtb y.toNat : Nat) : Int) = y := by omega
      rw [hd]
      push_cast at hx
      nlinarith

/-! ## The blocks -/

theorem modKeeper_inv (h : s.Inv) {f : KeeperSt → KeeperSt} : (s.modKeeper f).Inv := { h with }
theorem modBoot_inv (h : s.Inv) {f : BootSt → BootSt} : (s.modBoot f).Inv := { h with }
theorem reachRtc_inv (h : s.Inv) {r : Nat} : (s.reachRtc r).Inv := (State.reachRtc_keeps (K := 1) rfl (Keeps.refl _ s)).inv h
theorem supplyLost_inv (h : s.Inv) : s.supplyLost.Inv := (State.supplyLost_keeps (K := 17592186044398) rfl (Keeps.refl _ s)).inv h

theorem fld_modKeeper {f : KeeperSt → KeeperSt} (a : Nat) (g : Field) : (s.modKeeper f).fld a g = s.fld a g := rfl
theorem fld_closed {f : KeeperSt → KeeperSt} {g : BootSt → BootSt} (a : Nat) (h : Field) : ((s.modKeeper f).dtbZero.modBoot g).fld a h = s.fld a h := rfl
theorem boot_modKeeper {f : KeeperSt → KeeperSt} : (s.modKeeper f).boot = s.boot := rfl

/-- A keeper wake of a lowered PD0 is recorded with its unit and kind 3 (R545, R546). -/
theorem refuseId_keeperWake (h : s.Inv) {unit : Nat} (he : s.power.entry = none) (hst : s.boot.stage ≠ 0) (hd : s.domainNow 0 ≠ 0) :
    (s.keeperWake unit).rd Reg.PWR_REFUSE_ID = W (unit + 3 * 2 ^ 20) := by
  have hinv : (s.raise [0]).Inv := (State.raise_keeps (K := 2 ^ 41 + 2 ^ 32 + 2 ^ 1) rfl (Keeps.refl _ s)).inv h
  have hwake : (s.keeperWake unit) = (s.raise [0]).powerRecord unit 0 3 := by
    simp only [State.keeperWake, he, if_neg hst, if_neg hd]
  rw [hwake, State.powerRecord, if_neg (by decide), rd_congr (s := ((s.raise [0]).wr Reg.PWR_REFUSE_ID (W (unit + 0 * 2 ^ 16 + 3 * 2 ^ 20))).wr Reg.PWR_EVT _)
    ((State.modeWake_keeps (K := 532996 + 2 ^ 17) rfl (Keeps.refl _ _)).regs rfl), rd_wr_other (wr_inv hinv) (by decide), rd_wr_same hinv, Nat.zero_mul, Nat.add_zero]

/-- In ship mode BSW is open, and the wake closes it (R345). -/
theorem keeperWake_ship (h : s.Inv) {unit : Nat} (he : s.power.entry = none) (hst : s.boot.stage = 0) (hw : s.boot.wakeNext = true)
    (hcl : s.fld Reg.KPR_BSTAT Fld.KPR_BSTAT_closed = 0) :
    (s.keeperWake unit).fld Reg.KPR_BSTAT Fld.KPR_BSTAT_closed = 1 ∧ (s.keeperWake unit).fld Reg.KPR_BSTAT Fld.KPR_BSTAT_ship = 0 ∧
      (s.keeperWake unit).fld Reg.KPR_SHIP Fld.KPR_SHIP_arm = 0 := by
  have hon : s.on Reg.KPR_BSTAT Fld.KPR_BSTAT_closed = false := by simp [State.on, hcl]
  have hwake : (s.keeperWake unit).regs =
      (((s.setf Reg.KPR_SHIP Fld.KPR_SHIP_arm 0).setf Reg.KPR_BSTAT Fld.KPR_BSTAT_closed 1).setf Reg.KPR_BSTAT Fld.KPR_BSTAT_ship 0).regs := by
    simp only [State.keeperWake, he, hst, hw, hon, if_true, Bool.not_true, Bool.false_eq_true, if_false, Bool.not_false]
    rfl
  have h1 : (s.setf Reg.KPR_SHIP Fld.KPR_SHIP_arm 0).Inv := setf_inv h
  rw [fld_congr hwake, fld_congr hwake, fld_congr hwake, fld_setf_field (setf_inv h1) (by decide) (by decide), fld_setf_same h1 (by decide),
    fld_setf_same (setf_inv h1) (by decide), fld_setf_other (setf_inv h1) (by decide), fld_setf_other h1 (by decide), fld_setf_same h (by decide)]
  decide

/-- What LONG_PRESS_BSW_CLOSE leaves of BSW and of the reset causes. -/
theorem fld_resetCause_power (h : s.Inv) : ((s.inc Reg.KPR_CNT_LP).resetCause 7).fld Reg.KPR_BSTAT Fld.KPR_BSTAT_closed = s.fld Reg.KPR_BSTAT Fld.KPR_BSTAT_closed ∧
    ((s.inc Reg.KPR_CNT_LP).resetCause 7).fld Reg.RST_CAUSE ⟨7, 1⟩ = 1 := by
  rw [State.resetCause, if_pos (by decide)]
  constructor
  · rw [fld_wr_other (setf_inv (inc_inv h)) (by decide), fld_setf_other (inc_inv h) (by decide), fld_inc_other h (by decide)]
  · rw [fld_wr_other (setf_inv (inc_inv h)) (by decide)]
    exact fld_setf_same (inc_inv h) (by decide)

/-- The long press acts below 5 km/h, at 12 s. -/
def State.longPressed (s : State) (p : Nat) : State :=
  (((s.reachRtc (p + pressTime)).modKeeper (fun k => { k with lpDone := true })).report 10 (scopeOf lvModule 0)).stopGens [18, 19, 20, 21]

theorem exec_longPress_below {p : Nat} (hb : s.keeper.btnAt = some p) (hd : s.keeper.lpDone = false) (hv : s.vehicleBelow 5 = true) :
    exec .longPress s = .next ((s.longPressed p).modKeeper (fun k => { k with lpAt := some (p + pressTime) })) := by
  simp only [exec_longPress, execLongPress, hb, hd, Bool.false_eq_true, if_false]
  exact congrArg Host.Outcome.next (if_pos hv)

theorem exec_longPress_above {p : Nat} (hb : s.keeper.btnAt = some p) (hd : s.keeper.lpDone = false) (hv : ¬ s.vehicleBelow 5 = true) :
    exec .longPress s = .next (((s.reachRtc (p + pressTime)).modKeeper (fun k => { k with lpDone := true })).inc Reg.KPR_CNT_LPIGN) := by
  simp only [exec_longPress, execLongPress, hb, hd, Bool.false_eq_true, if_false]
  exact congrArg Host.Outcome.next (if_neg hv)

theorem exec_longPressBswClose_open {p : Nat} (hl : s.keeper.lpAt = some p) (ho : s.keeper.lpOpen = true) :
    exec .longPressBswClose s = .next ((((((s.reachRtc (p + 550 * Config.msCycles)).setf Reg.KPR_BSTAT Fld.KPR_BSTAT_closed 1).inc Reg.KPR_CNT_LP).resetCause 7).modKeeper
      (fun k => { k with lpAt := none })).dtbZero.modBoot (fun b => { b with porNext := true })) := by
  simp only [exec_longPressBswClose, execLongPressBswClose, hl, ho, if_true]

theorem exec_shipModeBswOpen_at {off : Nat} (ho : s.keeper.offAt = some off) :
    exec .shipModeBswOpen s = .next ((((s.reachRtc (off + 4000000)).modKeeper (fun k => { k with offAt := none })).setf Reg.KPR_BSTAT Fld.KPR_BSTAT_closed 0).setf
      Reg.KPR_BSTAT Fld.KPR_BSTAT_ship 1) := by
  rw [exec_shipModeBswOpen, execShipModeBswOpen, ho]
  rfl

theorem supplyLost_stage : s.supplyLost.boot.stage = 0 := by
  unfold State.supplyLost
  generalize (s.resetAll true).releaseWake.forN 8 (fun s d => s.setDomain d 2) = u
  rw [(State.powerMirror_keeps (K := 2) rfl (Keeps.refl _ (u.modBoot fun _ => { stage := 0 }))).boot rfl]
  rfl

theorem exec_longPressBswOpen_at {p : Nat} (hl : s.keeper.lpAt = some p) :
    exec .longPressBswOpen s = .next (((s.reachRtc (p + 50 * Config.msCycles)).supplyLost.setf Reg.KPR_BSTAT Fld.KPR_BSTAT_closed 0).modKeeper
      (fun k => { k with lpOpen := true })) := by
  rw [exec_longPressBswOpen, execLongPressBswOpen, hl]

/-! ## The statement -/

/-- Settles O37. -/
theorem keeperCommands : Obligations.KeeperCommands := by
  intro s hs
  refine ⟨fun core hc hr => ?_, fun off ho => ?_, fun hb => ?_, ?_, fun p hb he hst hd => ?_, fun p hb he hst hw hcl => ?_, fun p hb hd => ?_, fun p hl => ?_,
    fun p hl hopen => ?_⟩
  · refine runs_ofUnit (exec_shipModeArm s) (decide_eq_true hc) ?_
    rw [State.overBridge, if_pos hr, State.setb]
    refine ⟨?_, fun a ha => rd_setf_other hs ha⟩
    rw [fld_setf_same hs (by decide)]
    split <;> rfl
  · obtain ⟨hle, hrtc⟩ := reachRtc_time (s := s) (off + 4000000)
    have hk : ((s.reachRtc (off + 4000000)).modKeeper (fun k => { k with offAt := none })).Inv := modKeeper_inv (reachRtc_inv hs)
    refine runs_next (exec_shipModeBswOpen_at ho) ⟨?_, ?_, rfl, hle, fun hc => (hrtc hc).1, fun hc => (hrtc hc).2⟩
    · exact (fld_setf_field (setf_inv hk) (by decide) (by decide)).trans (fld_setf_same hk (by decide))
    · exact fld_setf_same (setf_inv hk) (by decide)
  · exact runs_next (exec_btnPress s) (by simp [State.modKeeper, hb])
  · exact runs_next (exec_btnRelease s) ⟨rfl, rfl, rfl⟩
  · exact runs_next (by rw [exec_btnPressWake, execBtnPressWake, hb]) (refuseId_keeperWake (reachRtc_inv hs) he hst hd)
  · exact runs_next (by rw [exec_btnPressWake, execBtnPressWake, hb]) (keeperWake_ship (reachRtc_inv hs) he hst hw hcl)
  · by_cases hv : s.vehicleBelow 5 = true
    · have hk := State.stopGens_keeps (K := 16386) (gs := [18, 19, 20, 21]) rfl
        (Keeps.refl _ (((s.reachRtc (p + pressTime)).modKeeper (fun k => { k with lpDone := true })).report 10 (scopeOf lvModule 0)))
      exact runs_next (exec_longPress_below hb hd hv) ⟨congrArg (·.lpDone) (hk.keeper rfl), by
        rw [if_pos hv]
        exact ⟨congrArg (·.reports) (hk.mg rfl), rfl⟩⟩
    · exact runs_next (exec_longPress_above hb hd hv) ⟨rfl, by
        rw [if_neg hv]
        exact ⟨rfl, rd_inc_same (modKeeper_inv (reachRtc_inv hs))⟩⟩
  · refine runs_next (exec_longPressBswOpen_at hl) ⟨(fld_modKeeper _ _).trans (fld_setf_same (supplyLost_inv (reachRtc_inv hs)) (by decide)), rfl, ?_⟩
    rw [boot_modKeeper, State.setf_boot, supplyLost_stage]
  · obtain ⟨hclosed, hcause⟩ := fld_resetCause_power (s := (s.reachRtc (p + 550 * Config.msCycles)).setf Reg.KPR_BSTAT Fld.KPR_BSTAT_closed 1)
      (setf_inv (reachRtc_inv hs))
    refine runs_next (exec_longPressBswClose_open hl hopen) ⟨?_, rfl, rfl, rfl, ?_⟩
    · rw [fld_closed, hclosed, fld_setf_same (reachRtc_inv hs) (by decide)]
      rfl
    · rw [fld_closed, hcause]

end Sys2Proof.Machine
end

section
/-! PROOFS. The statement on the message-bus ports (R440-R444, R453-R456). -/

namespace Sys2Proof.Machine

set_option Elab.async false

variable {s : State} {p : Nat}

/-! ## The blocks -/

theorem modBus_inv (h : s.Inv) {f : BusSt → BusSt} : (s.modBus p f).Inv := (State.modBus_keeps (K := 2 ^ 21) rfl (Keeps.refl _ s)).inv h
theorem wrReg_inv (h : s.Inv) {a : Nat} {v : Word} : (s.wrReg a v).Inv := (State.wrReg_keeps (K := 2) rfl (Keeps.refl _ s)).inv h
theorem packFrame_inv (h : s.Inv) {j : Nat} : (s.packFrame p j).1.Inv := (State.packFrame_keeps (K := 2) rfl (Keeps.refl _ s)).inv h
theorem txAbandon_inv (h : s.Inv) {obj : Nat} : (s.txAbandon p obj).Inv := (State.txAbandon_keeps (K := 2097154) rfl (Keeps.refl _ s)).inv h
theorem setErrors_inv (h : s.Inv) {tec rc : Nat} : (s.setErrors p tec rc).Inv := (State.setErrors_keeps (K := 2) rfl (Keeps.refl _ s)).inv h

theorem fld_modBus {f : BusSt → BusSt} (a : Nat) (g : Field) : (s.modBus p f).fld a g = s.fld a g := rfl
theorem busAt_congr {t : State} (h : t.bus = s.bus) (p : Nat) : t.busAt p = s.busAt p := by unfold State.busAt; rw [h]

/-! ## The error counters (R456) -/

section
variable {tec rc : Nat}

theorem busTec_lt : s.busTec p < 512 := Nat.mod_lt _ (by decide)
theorem busRec_lt : s.busRec p < 256 := Nat.mod_lt _ (by decide)

theorem busTec_setErrors (h : s.Inv) (ht : tec < 512) : (s.setErrors p tec rc).busTec p = tec := by
  have hmod : tec % 2 ^ 9 = tec := Nat.mod_eq_of_lt ht
  grind [fld_setf_same, fld_setf_field, fld_setf_other, setf_inv, State.busTec, State.setErrors, State.setb, Reg.BUS_ERR, Reg.BUS_STAT,
    Fld.BUS_ERR_rec, Fld.BUS_ERR_tec, Fld.BUS_STAT_epass]
theorem busRec_setErrors (h : s.Inv) (hr : rc < 256) : (s.setErrors p tec rc).busRec p = rc := by
  have hmod : rc % 2 ^ 8 = rc := Nat.mod_eq_of_lt hr
  grind [fld_setf_same, fld_setf_field, fld_setf_other, setf_inv, State.busRec, State.setErrors, State.setb, Reg.BUS_ERR, Reg.BUS_STAT,
    Fld.BUS_ERR_rec, Fld.BUS_ERR_tec, Fld.BUS_STAT_epass]

/-- The counters of a port touch its error register and its error-passive flag, and nothing else. -/
theorem fld_setErrors_other (h : s.Inv) {a : Nat} {f : Field} (ha : a ≠ Reg.BUS_ERR p)
    (hs : a ≠ Reg.BUS_STAT p ∨ f.lo + f.len ≤ 2 ∨ 3 ≤ f.lo) : (s.setErrors p tec rc).fld a f = s.fld a f := by
  have hin : ((s.setf (Reg.BUS_ERR p) Fld.BUS_ERR_tec tec).setf (Reg.BUS_ERR p) Fld.BUS_ERR_rec rc).Inv := setf_inv (setf_inv h)
  have hstat : (s.setErrors p tec rc).fld a f =
      ((s.setf (Reg.BUS_ERR p) Fld.BUS_ERR_tec tec).setf (Reg.BUS_ERR p) Fld.BUS_ERR_rec rc).fld a f := by
    unfold State.setErrors State.setb
    by_cases hst : a = Reg.BUS_STAT p
    · subst hst
      exact fld_setf_field hin (by decide) (hs.resolve_left (by simp))
    · exact fld_setf_other hin hst
  rw [hstat, fld_setf_other (setf_inv h) ha, fld_setf_other h ha]

end

/-! ## Frames -/

section
variable {obj j : Nat}

theorem busTec_congr {t : State} (h : t.regs = s.regs) : t.busTec p = s.busTec p := fld_congr h _ _

/-- The end of a frame leaves the counters and the flags of its port but the awake one. -/
theorem fld_frameEnd (h : s.Inv) {a : Nat} {f : Field} (hs : a ≠ Reg.BUS_STAT p ∨ 1 ≤ f.lo) : (s.frameEnd p).fld a f = s.fld a f := by
  unfold State.frameEnd State.busSleepNow
  split
  · rw [fld_modBus]
    by_cases hst : a = Reg.BUS_STAT p
    · subst hst
      exact fld_setf_field h (by decide) (.inr (hs.resolve_left (by simp)))
    · exact fld_setf_other h hst
  · rfl

theorem tx_frameEnd (h : s.Inv) (hp : p < 4) : ((s.frameEnd p).busAt p).tx = (s.busAt p).tx := by
  unfold State.frameEnd State.busSleepNow
  split
  · rw [busAt_modBus_same (setf_inv h) hp]; rfl
  · rfl

/-- A new packet of a transmit object waits behind those of its port (R453). -/
theorem txPend_new (h : s.Inv) (hp : p < 4) (hx : (s.busAt p).tx.find? (fun x => x.obj = j) = none) :
    (s.txPend p j).Inv ∧ (s.txPend p j).fld (Reg.TXO_STAT p j) Fld.TXO_STAT_pend = 1 ∧
      ((s.txPend p j).busAt p).tx.map (·.obj) = (s.busAt p).tx.map (·.obj) ++ [j] := by
  unfold State.txPend
  rw [hx]
  have hin : (s.packFrame p j).1.Inv := packFrame_inv h
  have hbus : ((s.packFrame p j).1.busAt p) = s.busAt p :=
    busAt_congr ((State.packFrame_keeps (K := 2) rfl (Keeps.refl _ s)).bus rfl) p
  dsimp only
  refine ⟨setf_inv (modBus_inv hin), fld_setf_same (modBus_inv hin) (by decide), ?_⟩
  rw [show ∀ t : State, ((t.setf (Reg.TXO_STAT p j) Fld.TXO_STAT_pend 1).busAt p) = t.busAt p from fun _ => rfl, busAt_modBus_same hin hp, hbus]
  simp

/-- A frame that is given up is no longer pending, and is counted (R455). -/
theorem txAbandon_of_lt (h : s.Inv) (ho : obj < 64) : (s.txAbandon p obj).fld (Reg.TXO_STAT p obj) Fld.TXO_STAT_abandoned = 1 ∧
    (s.txAbandon p obj).fld (Reg.TXO_STAT p obj) Fld.TXO_STAT_pend = 0 ∧
    (s.txAbandon p obj).rd (Reg.BUS_CNT_ABANDON p) = W (min ((s.rd (Reg.BUS_CNT_ABANDON p)).toNat + 1) 0xFFFFFFFF) := by
  have hcnt : Reg.BUS_CNT_ABANDON p ≠ Reg.TXO_STAT p obj := by unfold Reg.BUS_CNT_ABANDON Reg.TXO_STAT; omega
  have hmod : (s.modBus p (fun b => { b with tx := b.tx.filter (fun (x : TxPend) => x.obj ≠ obj) })).Inv := modBus_inv h
  have hrem := setf_inv (a := Reg.TXO_STAT p obj) (f := Fld.TXO_STAT_pend) (v := 0) hmod
  simp only [State.txAbandon, State.txRemove, if_pos ho]
  refine ⟨fld_setf_same (inc_inv hrem) (by decide), ?_, ?_⟩
  · rw [fld_setf_field (inc_inv hrem) (by decide) (by decide), fld_inc_other hrem hcnt.symm, fld_setf_same hmod (by decide)]
    decide
  · rw [rd_setf_other (inc_inv hrem) hcnt, rd_inc_same hrem, rd_setf_other hmod hcnt]
    rfl

/-- Giving a frame up touches neither the counters nor the flags of its port. -/
theorem fld_txAbandon_other (h : s.Inv) {a : Nat} {f : Field} (hc : a ≠ Reg.BUS_CNT_ABANDON p) (hs : obj < 64 → a ≠ Reg.TXO_STAT p obj) :
    (s.txAbandon p obj).fld a f = s.fld a f := by
  have hrem : (s.txRemove p obj).Inv := (State.txRemove_keeps (K := 2097154) rfl (Keeps.refl _ s)).inv h
  have hremove : (s.txRemove p obj).fld a f = s.fld a f := by
    unfold State.txRemove
    split
    case isTrue ho => exact fld_setf_other (modBus_inv h) (hs ho)
    case isFalse => split <;> rfl
  unfold State.txAbandon
  dsimp only
  split
  case isTrue ho => rw [fld_setf_other (inc_inv hrem) (hs ho), fld_inc_other hrem hc, hremove]
  case isFalse => rw [fld_inc_other hrem hc, hremove]

end

/-! ## Errors of the port -/

theorem busTec_txError (h : s.Inv) : (s.txError p).busTec p = min (s.busTec p + 8) 511 := by
  have hset : (s.setErrors p (min (s.busTec p + 8) 511) (s.busRec p)).busTec p = min (s.busTec p + 8) 511 :=
    busTec_setErrors h (by omega)
  unfold State.txError
  dsimp only
  split
  · refine Eq.trans ?_ hset
    unfold State.busTec State.busOff
    rw [fld_modBus, fld_inc_other (setf_inv (setErrors_inv h)) (by unfold Reg.BUS_ERR Reg.BUS_CNT_BOFF; omega),
      fld_setf_other (setErrors_inv h) (by unfold Reg.BUS_ERR Reg.BUS_STAT; omega)]
  · exact hset

theorem boff_txError (h : s.Inv) (ht : 255 < s.busTec p + 8) : (s.txError p).fld (Reg.BUS_STAT p) Fld.BUS_STAT_boff = 1 := by
  unfold State.txError State.busOff
  dsimp only
  rw [if_pos ht, fld_modBus, fld_inc_other (setf_inv (setErrors_inv h)) (by unfold Reg.BUS_STAT Reg.BUS_CNT_BOFF; omega),
    fld_setf_same (setErrors_inv h) (by decide)]
  decide

theorem txError_inv (h : s.Inv) : (s.txError p).Inv := (State.txError_keeps (K := 2097154) rfl (Keeps.refl _ s)).inv h

theorem err_ne_stat : Reg.BUS_ERR p ≠ Reg.BUS_STAT p := by unfold Reg.BUS_ERR Reg.BUS_STAT; omega

/-- A receive error adds to its counter, at most to 255, and leaves the other (R456). -/
theorem rxError_counts (h : s.Inv) (n : Nat) : (s.rxError p n).Inv ∧ (s.rxError p n).busRec p = min 255 (s.busRec p + n) ∧
    (s.rxError p n).busTec p = s.busTec p :=
  ⟨setErrors_inv h, busRec_setErrors h (by omega), busTec_setErrors h busTec_lt⟩

theorem counts_frameEnd (h : s.Inv) : (s.frameEnd p).busRec p = s.busRec p ∧ (s.frameEnd p).busTec p = s.busTec p :=
  ⟨fld_frameEnd h (.inl err_ne_stat), fld_frameEnd h (.inl err_ne_stat)⟩

/-! ## The commands -/

theorem portAccess_of {core : Nat} {f : State → State} (hd : s.domainOn 5 = true) (hk : s.clocked 7 = true) (hr : s.cpuRatioOk = true) :
    s.portAccess core f = f s := access_of (by rw [hd, hk]; rfl) hr

/-- An enable whose timing passes the rules integrates the port; one that fails them sets the error flag (R441-R444). -/
theorem busEnable_effect (h : s.Inv) {v : Word} :
    if (s.wrReg (Reg.BUS_CTRL p) (Word.put v Fld.BUS_CTRL_en 0)).timingOk p then
      (s.busEnable p v).fld (Reg.BUS_CTRL p) Fld.BUS_CTRL_en = 1 ∧ (s.busEnable p v).fld (Reg.BUS_STAT p) Fld.BUS_STAT_integ = 1
    else (s.busEnable p v).fld (Reg.BUS_STAT p) Fld.BUS_STAT_cfg_err = 1 ∧ (s.busEnable p v).bus = s.bus := by
  have hw : (s.wrReg (Reg.BUS_CTRL p) (Word.put v Fld.BUS_CTRL_en 0)).Inv := wrReg_inv h
  unfold State.busEnable
  dsimp only
  split
  case isTrue hok =>
    rw [hok, Bool.not_true, if_neg (by decide)]
    unfold State.integrate State.watchFrom
    have hen := setf_inv (a := Reg.BUS_CTRL p) (f := Fld.BUS_CTRL_en) (v := 1) hw
    have hne : Reg.BUS_CTRL p ≠ Reg.BUS_STAT p := by unfold Reg.BUS_CTRL Reg.BUS_STAT; omega
    rw [fld_modBus, fld_modBus, fld_setf_same (setb_inv hen) (by decide), fld_setf_other (setb_inv hen) hne]
    unfold State.setb
    rw [fld_setf_other hen hne, fld_setf_same hw (by decide)]
    decide
  case isFalse hok =>
    rw [eq_false_of_ne_true hok, Bool.not_false, if_pos rfl]
    exact ⟨fld_setf_same h (by decide), rfl⟩

theorem exec_busEnable_of_off (hp : p < 4) (hd : s.domainOn 5 = true) (hk : s.clocked 7 = true) {core : Nat} {v : Word} (hc : core < 6)
    (hr : s.cpuRatioOk = true) (hen : s.on (Reg.BUS_CTRL p) Fld.BUS_CTRL_en = false) (hv : Word.get v Fld.BUS_CTRL_en = 1)
    (hslp : Word.get v Fld.BUS_CTRL_slp = 0) : exec (.busEnable core p v) s = .next (s.busEnable p v) := by
  rw [exec_busEnable, execBusEnable, portAccess_of hd hk hr]
  simp [ofUnit, hc, hp, hen, hv, hslp]

/-- A frame that was transmitted is no longer pending, and the transmit counter falls by 1 (R454, R456). -/
theorem frameTransmitted_effect (h : s.Inv) (hp : p < 4) {obj : Nat} (ho : obj < 64) {rc : Nat} :
    let u := (s.txRemove p obj).setErrors p ((s.txRemove p obj).busTec p - 1) rc
    ((u.frameEnd p).busAt p).tx = (s.busAt p).tx.filter (fun x => x.obj ≠ obj) ∧ (u.frameEnd p).fld (Reg.TXO_STAT p obj) Fld.TXO_STAT_pend = 0 ∧
      (u.frameEnd p).busTec p = s.busTec p - 1 := by
  have hmod : (s.modBus p (fun b => { b with tx := b.tx.filter (fun (x : TxPend) => x.obj ≠ obj) })).Inv := modBus_inv h
  have hrem : (s.txRemove p obj).Inv := by unfold State.txRemove; rw [if_pos ho]; exact setf_inv hmod
  have hstat : Reg.TXO_STAT p obj ≠ Reg.BUS_STAT p := by unfold Reg.TXO_STAT Reg.BUS_STAT; omega
  have herr : Reg.TXO_STAT p obj ≠ Reg.BUS_ERR p := by unfold Reg.TXO_STAT Reg.BUS_ERR; omega
  have htec : (s.txRemove p obj).busTec p = s.busTec p := by
    unfold State.txRemove State.busTec
    rw [if_pos ho]
    exact fld_setf_other hmod herr.symm
  intro u
  have hu : u.Inv := setErrors_inv hrem
  refine ⟨?_, ?_, ?_⟩
  · rw [tx_frameEnd hu hp]
    change ((s.txRemove p obj).busAt p).tx = _
    unfold State.txRemove
    rw [if_pos ho]
    change ((s.modBus p _).busAt p).tx = _
    rw [busAt_modBus_same h hp]
  · rw [fld_frameEnd hu (.inl hstat), fld_setErrors_other hrem herr (.inl hstat)]
    unfold State.txRemove
    rw [if_pos ho, fld_setf_same hmod (by decide)]
    decide
  · have hlt := busTec_lt (s := s) (p := p)
    rw [(counts_frameEnd hu).2, busTec_setErrors hrem (by omega), htec]

theorem busMode_transmitted (h : s.Inv) {obj : Nat} (ho : obj < 64) {tec rc : Nat} :
    ((s.txRemove p obj).setErrors p tec rc).busMode p = s.busMode p := by
  have hmod : (s.modBus p (fun b => { b with tx := b.tx.filter (fun (x : TxPend) => x.obj ≠ obj) })).Inv := modBus_inv h
  have htxo : Reg.BUS_CTRL p ≠ Reg.TXO_STAT p obj := by unfold Reg.TXO_STAT Reg.BUS_CTRL; omega
  unfold State.busMode State.txRemove
  rw [if_pos ho, fld_setErrors_other (setf_inv hmod) (by unfold Reg.BUS_CTRL Reg.BUS_ERR; omega) (.inl (by unfold Reg.BUS_CTRL Reg.BUS_STAT; omega)),
    fld_setf_other hmod htxo, fld_modBus]

/-- A frame whose transmission failed counts its error, whether or not it is given up (R455, R456). -/
theorem frameTxFailure_effect (h : s.Inv) {obj : Nat} {gone : Bool} :
    ((if gone then s.txAbandon p obj else s).frameEnd p).busTec p = s.busTec p ∧
      ((if gone then s.txAbandon p obj else s).frameEnd p).fld (Reg.BUS_STAT p) Fld.BUS_STAT_boff = s.fld (Reg.BUS_STAT p) Fld.BUS_STAT_boff := by
  have hin : (if gone then s.txAbandon p obj else s).Inv := by split; exacts [txAbandon_inv h, h]
  have hkeep : ∀ a, a = Reg.BUS_ERR p ∨ a = Reg.BUS_STAT p → ∀ f, (if gone then s.txAbandon p obj else s).fld a f = s.fld a f := by
    intro a ha f
    split
    · refine fld_txAbandon_other h ?_ fun _ => ?_ <;>
        (rcases ha with rfl | rfl <;> simp only [Reg.BUS_ERR, Reg.BUS_STAT, Reg.BUS_CNT_ABANDON, Reg.TXO_STAT] <;> omega)
    · rfl
  refine ⟨(counts_frameEnd hin).2.trans (hkeep _ (.inl rfl) _), ?_⟩
  rw [fld_frameEnd hin (.inr (by decide)), hkeep _ (.inr rfl)]

/-- A protocol exception sets its flag, and the port counts an error or integrates again (R440). -/
theorem protocolException_effect (h : s.Inv) : (s.protocolException p).fld (Reg.BUS_STAT p) Fld.BUS_STAT_pex = 1 ∧
    (if s.on (Reg.BUS_CTRL p) Fld.BUS_CTRL_pxhd then (s.protocolException p).busRec p = min 255 (s.busRec p + 1)
     else (s.protocolException p).fld (Reg.BUS_STAT p) Fld.BUS_STAT_integ = 1) := by
  have hpex := setf_inv (a := Reg.BUS_STAT p) (f := Fld.BUS_STAT_pex) (v := 1) h
  have hctrl : Reg.BUS_CTRL p ≠ Reg.BUS_STAT p := by unfold Reg.BUS_CTRL Reg.BUS_STAT; omega
  have hcnt : Reg.BUS_STAT p ≠ Reg.BUS_CNT_PEX p := by unfold Reg.BUS_STAT Reg.BUS_CNT_PEX; omega
  have hon : (s.setf (Reg.BUS_STAT p) Fld.BUS_STAT_pex 1).on (Reg.BUS_CTRL p) Fld.BUS_CTRL_pxhd = s.on (Reg.BUS_CTRL p) Fld.BUS_CTRL_pxhd := by
    unfold State.on; rw [fld_setf_other h hctrl]
  have hset : (s.setf (Reg.BUS_STAT p) Fld.BUS_STAT_pex 1).fld (Reg.BUS_STAT p) Fld.BUS_STAT_pex = 1 := fld_setf_same h (by decide)
  unfold State.protocolException
  dsimp only
  rw [hon]
  split
  · obtain ⟨hin, hrec, -⟩ := rxError_counts hpex 1 (p := p)
    refine ⟨?_, ?_⟩
    · rw [fld_frameEnd hin (.inr (by decide))]
      exact (fld_setErrors_other hpex err_ne_stat.symm (.inr (.inr (by decide)))).trans hset
    · rw [(counts_frameEnd hin).1, hrec]
      unfold State.busRec
      rw [fld_setf_other h err_ne_stat]
  · have hin := inc_inv (a := Reg.BUS_CNT_PEX p) (setf_inv (a := Reg.BUS_STAT p) (f := Fld.BUS_STAT_integ) (v := 1) hpex)
    unfold State.integrate
    rw [fld_frameEnd hin (.inr (by decide)), fld_frameEnd hin (.inr (by decide)), fld_inc_other (setf_inv hpex) hcnt,
      fld_inc_other (setf_inv hpex) hcnt, fld_setf_field hpex (by decide) (by decide), fld_setf_same hpex (by decide), hset]
    decide

/-- Settles O46: the access, the frame and the error counters of a port, command by command. -/
theorem busPorts : Obligations.BusPorts := by
  unfold Obligations.BusPorts
  intro s p h hp hd hk
  have hp4 : decide (p < 4) = true := decide_eq_true hp
  refine ⟨?_, ?_, ?_, ?_, ?_, ?_, ?_, ?_, ?_, ?_, ?_, ?_⟩
  · intro core v hc hr hen hv hslp
    exact runs_next (exec_busEnable_of_off hp hd hk hc hr hen hv hslp) (busEnable_effect h)
  · intro hon hsc
    refine runs_ofUnit (exec_busIntegrationDone s) hp4 ?_
    rw [if_pos (by rw [hon, hk, decide_eq_true hsc]; rfl), fld_setf_same h (by decide)]
    decide
  · intro core k hc hr hk'
    refine runs_ofUnit (exec_rxObjectConsume s) (by simp [hc, hp, hk']) ?_
    rw [portAccess_of hd hk hr, fld_setf_same h (by decide)]
    decide
  · intro core j hc hr hj hen hx
    refine runs_ofUnit (exec_transmitSend s) (by simp [hc, hp, hj]) ?_
    rw [portAccess_of hd hk hr, if_pos hen]
    exact (txPend_new h hp hx).2
  · intro j x hj hdue hx
    have hreach : (s.reach (x.2 * 400000)).Inv := { h with }
    obtain ⟨-, hpend, htx⟩ := txPend_new hreach hp (j := j) hx
    refine runs_next (t := ((s.reach (x.2 * 400000)).txPend p j).txSchedule p j) ?_ ⟨?_, ?_, ?_⟩
    · rw [exec_transmitObjectDue, execTransmitObjectDue, hdue, hd, hk]
      simp only [ofUnit, hp, hj, decide_true, Bool.and_self, if_true]
      rfl
    · exact (State.txPend_keeps (K := 2097154) rfl (Keeps.refl _ _)).dtb rfl
    · exact hpend
    · unfold State.txSchedule
      rw [busAt_modBus_same (txPend_new hreach hp hx).1 hp]
      exact htx
  · intro obj start ho ha hm
    have hcase : exec (.frameTransmitted p obj start) s = .next (((s.txRemove p obj).setErrors p ((s.txRemove p obj).busTec p - 1)
        ((s.txRemove p obj).busRec p)).frameEnd p) := by
      rw [exec_frameTransmitted, execFrameTransmitted, ha]
      simp only [hp, decide_true, ofUnit, if_true, Bool.not_true, Bool.false_eq_true, if_false]
      rw [if_neg ((busMode_transmitted h ho).trans_ne hm)]
    exact runs_next hcase (frameTransmitted_effect h hp ho)
  · intro obj start err he ha
    refine runs_ofUnit (exec_frameTxFailure s) (by simp [hp, he]) ?_
    rw [ha, Bool.not_true, if_neg (by decide)]
    by_cases h1 : err = 1
    · obtain ⟨htec, hboff⟩ := frameTxFailure_effect (p := p) (obj := obj) (gone := s.txExpired p obj) (txError_inv (p := p) h)
      rw [if_pos h1, if_pos h1]
      exact ⟨htec.trans (busTec_txError h), fun _ ht => hboff.trans (boff_txError h ht)⟩
    · rw [if_neg h1, if_neg h1]
      exact ⟨(frameTxFailure_effect h).1, fun h' => absurd h' h1⟩
  · intro obj n d ho hf
    have hcase : exec (.frameAbandon p obj false) s = .next ((s.reach (d - 40000)).txAbandon p obj) := by
      rw [exec_frameAbandon, execFrameAbandon, hf, hd, hk]
      simp [ofUnit, hp]
    exact runs_next hcase ⟨(State.txAbandon_keeps (K := 2097154) rfl (Keeps.refl _ _)).dtb rfl, txAbandon_of_lt (s := s.reach (d - 40000)) { h with } ho⟩
  · intro big hl
    refine runs_ofUnit (exec_receiveError s) hp4 ?_
    rw [if_pos hl]
    obtain ⟨hin, hrec, htec⟩ := rxError_counts h (p := p) (if big then 8 else 1)
    exact ⟨(counts_frameEnd hin).1.trans hrec, (counts_frameEnd hin).2.trans htec⟩
  · intro hl
    refine runs_ofUnit (exec_protocolException s) (by simp [hp]) ?_
    rw [hl, if_neg (by simp)]
    exact protocolException_effect h
  · intro core hc hr hb
    refine runs_ofUnit (exec_busRecoveryRequest s) (by simp [hc, hp]) ?_
    rw [portAccess_of hd hk hr, if_pos hb, busAt_modBus_same h hp]
  · intro hon hb hcnt
    refine runs_ofUnit (exec_busOffRecovery s) hp4 ?_
    have hin := setf_inv (a := Reg.BUS_STAT p) (f := Fld.BUS_STAT_boff) (v := 0) h
    rw [if_pos (by rw [hon, hk, hb, hcnt]; rfl), fld_modBus, fld_setErrors_other hin err_ne_stat.symm (.inr (.inl (by decide))),
      fld_setf_same h (by decide), busAt_modBus_same (setErrors_inv hin) hp]
    exact ⟨by decide, (fld_modBus _ _).trans (busTec_setErrors hin (by decide)), (fld_modBus _ _).trans (busRec_setErrors hin (by decide)), rfl⟩

end Sys2Proof.Machine
end

section
/-! PROOFS. The statement on start-up, reset and shutdown (R499-R501, R551-R564). -/

namespace Sys2Proof.Machine

set_option Elab.async false

variable {s : State}

/-! ## Interrupts -/

/-- An interrupt stands in both routers afterwards (R384). -/
theorem mem_irqPend_irq (src : Nat) : ∀ l ∈ (s.irq src).irqPend, src ∈ l := by
  have hpend : (s.irq src).irqPend = s.irqPend.map (fun (l : List Nat) => if l.contains src then l else l ++ [src]) := by
    unfold State.irq State.irqBy
    exact ((State.irqDeliver_keeps (K := 2203318887174) rfl (State.irqDeliver_keeps (K := 2203318887174) rfl (Keeps.refl _ _))).irqPend rfl)
  intro l hl
  rw [hpend] at hl
  obtain ⟨m, -, rfl⟩ := List.mem_map.mp hl
  split
  case isTrue hmem => exact List.contains_iff_mem.mp hmem
  case isFalse => exact List.mem_append_right _ (List.mem_singleton.mpr rfl)

theorem irq_inv (h : s.Inv) {src : Nat} : (s.irq src).Inv := (State.irq_keeps (K := 2203319149318) rfl (Keeps.refl _ s)).inv h

/-! ## Programming -/

/-- A program of bytes that completes while the ratios are in order leaves its bytes and raises interrupt 99 (R499). -/
theorem nvmDone_bytes (h : s.Inv) {j : NvmJob} {js : List NvmJob} (hj : s.boot.nvmJobs = j :: js) (hrec : j.record = false) (hcode : j.code = false) :
    s.nvmDone.boot = { s.boot with nvmJobs := js } ∧ (∀ l ∈ s.nvmDone.irqPend, 99 ∈ l) ∧
      (s.perRatioOk = true → ∀ k, k < j.data.length → s.nvmDone.nvmGet (j.at_ + k) = j.data.getD k 0) := by
  have hu : (s.modBoot (fun b => { b with nvmJobs := js })).Inv := modBoot_inv h
  have hratio : (s.modBoot (fun b => { b with nvmJobs := js })).perRatioOk = s.perRatioOk := rfl
  have hdone : ∃ (v : State) (i : NvmJob), s.nvmDone = (v.nvmWrite i.at_ i.data).irq 99 ∧ v.boot = { s.boot with nvmJobs := js } ∧
      (s.perRatioOk = true → v.Inv ∧ i = j) := by
    unfold State.nvmDone State.corrupted
    rw [hj]
    dsimp only
    split
    · exact ⟨_, j, by simp only [hrec, hcode, Bool.false_eq_true, if_false], rfl, fun _ => ⟨hu, rfl⟩⟩
    case isFalse hr =>
      have hdraw := (State.drawBytes_keeps (K := 128) (n := j.data.length) rfl (Keeps.refl _ (s.modBoot (fun b => { b with nvmJobs := js })))).boot rfl
      generalize State.drawBytes _ _ = p at hdraw ⊢
      obtain ⟨bs, v⟩ := p
      exact ⟨v, { j with data := bs }, by simp only [hrec, hcode, Bool.false_eq_true, if_false], hdraw, fun hok => absurd (hratio.trans hok) hr⟩
  obtain ⟨v, i, hv, hboot, hi⟩ := hdone
  rw [hv]
  refine ⟨?_, mem_irqPend_irq 99, fun hr k hk => ?_⟩
  · rw [(State.irq_keeps (K := 2203319149318) rfl (Keeps.refl _ _)).boot rfl, (State.nvmWrite_keeps (K := 32) rfl (Keeps.refl _ _)).boot rfl, hboot]
  · obtain ⟨hin, rfl⟩ := hi hr
    have hnvm := (State.irq_keeps (K := 2203319149318) (src := 99) rfl (Keeps.refl _ (v.nvmWrite i.at_ i.data))).nvm rfl
    exact (congrArg (fun m => sparseGet nvmByte m (i.at_ + k)) hnvm).trans (nvmGet_nvmWrite hin _ hk)

/-! ## Start-up -/

theorem rtc_resetCause (k : Nat) : (s.resetCause k).rtc = s.rtc := by
  unfold State.resetCause
  dsimp only
  split <;> rfl

theorem boot_powerMirror : s.powerMirror.boot = s.boot := (State.powerMirror_keeps (K := 2) rfl (Keeps.refl _ s)).boot rfl
theorem dtb_powerMirror : s.powerMirror.dtb = s.dtb := (State.powerMirror_keeps (K := 2) rfl (Keeps.refl _ s)).dtb rfl

/-- The strap phase begins at the end of the start of the domains, from DTB 0 unless the start is a wake (R553). -/
theorem domainsUp_boot : s.domainsUp.boot.stage = 2 ∧ s.domainsUp.boot.warm = false ∧ s.domainsUp.boot.due = s.domainsUp.dtb + 40000 ∧
    (s.boot.wakeNext = false → s.domainsUp.dtb = 0) := by
  have hstrap : ∀ u : State, ((u.modBoot (fun x => { x with porNext := false })).strapPhase.powerMirror).boot.stage = 2 ∧
      ((u.modBoot (fun x => { x with porNext := false })).strapPhase.powerMirror).boot.warm = false ∧
      ((u.modBoot (fun x => { x with porNext := false })).strapPhase.powerMirror).boot.due = u.dtb + 40000 ∧
      ((u.modBoot (fun x => { x with porNext := false })).strapPhase.powerMirror).dtb = u.dtb := fun u => by
    rw [boot_powerMirror, dtb_powerMirror]
    exact ⟨rfl, rfl, rfl, rfl⟩
  unfold State.domainsUp
  obtain ⟨hstage, hwarm, hdue, hdtb⟩ := hstrap _
  refine ⟨hstage, hwarm, by rw [hdue, hdtb], fun hw => ?_⟩
  rw [hdtb, hw]
  rfl

theorem bootRom_stage (descs : List (Nat × DWord)) : (s.bootRom descs).boot.stage = 4 ∨ (s.bootRom descs).boot.stage = 6 := by
  have henter : ∀ u : State, (u.enterStage1 descs).boot.stage = 4 := fun u => by
    unfold State.enterStage1
    dsimp only
    rw [(State.bootAt_keeps (K := 2203319809542) rfl (State.raise_keeps (K := 2203319809542) rfl (Keeps.refl _ _))).boot rfl, State.setf_boot,
      (State.setPhase_keeps (K := 532998) rfl (Keeps.refl _ _)).boot rfl]
    rfl
  have hhalt : ∀ u : State, u.haltTeamS.boot.stage = 6 := fun _ => rfl
  unfold State.bootRom
  dsimp only
  split
  · exact .inl (henter _)
  · split
    · exact .inl (henter _)
    · exact .inr (hhalt _)

/-- A failed boot is recorded, and without a trial boot Team S halts (R557). -/
theorem exec_bootFailure_noTrial {kind : Nat} (hk : kind ∈ [2, 3, 4, 7]) (hst : s.boot.stage = 4) (hr : s.bootRecord.2.1 ≠ 1) :
    exec (.bootFailure kind) s = .next ((s.setf Reg.RST_BOOT Fld.RST_BOOT_fail kind).setPhase 4).haltTeamS := by
  have hnvm : ((s.setf Reg.RST_BOOT Fld.RST_BOOT_fail kind).setPhase 4).bootRecord = s.bootRecord := by
    have h := (State.setPhase_keeps (K := 532998) (v := 4) rfl (Keeps.refl _ (s.setf Reg.RST_BOOT Fld.RST_BOOT_fail kind))).nvm rfl
    unfold State.bootRecord State.bootInForce State.bootCopy State.nvmRead State.nvmGet
    rw [h, State.setf_nvm]
  rw [exec_bootFailure, execBootFailure]
  simp only [hst, List.contains_iff_mem.mpr hk, decide_true, Bool.and_self, if_true, hnvm, if_neg hr]

/-- What a warm reset begins: the hold, at whose end the strap phase begins (R560). -/
theorem warmReset_boot (h : s.Inv) {k : Nat} (hk : k < 16) : (s.warmReset k).boot.warm = true ∧ (s.warmReset k).boot.due = s.dtb + 8000 ∧
    (s.warmReset k).fld Reg.RST_STAT Fld.RST_STAT_last = k := by
  have hkeep : Keeps 17587891077102 s ((s.resetCause k).resetAll false).releaseWake :=
    State.releaseWake_keeps rfl (State.resetAll_keeps rfl (State.resetCause_keeps rfl (Keeps.refl _ s)))
  unfold State.warmReset
  refine ⟨rfl, ?_, ?_⟩
  · change (((s.resetCause k).resetAll false).releaseWake).dtb + 8000 = _
    rw [hkeep.dtb rfl]
  · exact (fld_setf_same (modBoot_inv (hkeep.inv h)) (by decide)).trans (Nat.mod_eq_of_lt hk)

/-- A software reset with no programming under way is a warm reset behind the reaction of the module (R562). -/
theorem softwareReset_boot (h : s.Inv) (hb : s.nvmBusy = false) : s.softwareReset.boot.warm = true ∧ s.softwareReset.boot.due = s.dtb + 8000 ∧
    s.softwareReset.fld Reg.RST_STAT Fld.RST_STAT_last = 5 := by
  have hkeep := State.reactModule_keeps (K := 2203326505734) (cause := 6) rfl (Keeps.refl _ s)
  have hbusy : (s.reactModule 6).nvmBusy = false := by
    unfold State.nvmBusy at hb ⊢
    rw [hkeep.boot rfl]
    exact hb
  unfold State.softwareReset
  dsimp only
  rw [hbusy, if_neg (by decide), ← hkeep.dtb rfl]
  exact warmReset_boot (hkeep.inv h) (by decide)

theorem mg_powerFail : ((s.resetCause 8).modBoot (fun b => { b with pwfAt := some s.dtb })).mg = s.mg :=
  (State.resetCause_keeps (K := 2) rfl (Keeps.refl _ s)).mg rfl

/-- A supply that is lost leaves a module that does not run, with DTB at 0 (R564). -/
theorem dtbZero_supplyLost : s.supplyLost.dtbZero.boot.stage = 0 ∧ s.supplyLost.dtbZero.dtb = 0 := by
  have hstage := supplyLost_stage (s := s)
  generalize s.supplyLost = u at hstage ⊢
  exact ⟨hstage, rfl⟩

/-- Settles O59. -/
theorem startupCommands : Obligations.StartupCommands := by
  intro s h
  refine ⟨?_, ?_, ?_, ?_, ?_, ?_, ?_, ?_, ?_, ?_, ?_⟩
  · intro hst hcl
    refine runs_next (t := (if s.boot.porNext then s.resetCause 0 else s).sequencerStart s.boot.porNext (s.boot.wakeNext && !s.boot.porNext)) ?_
      ⟨rfl, ?_, rfl⟩
    · rw [exec_vsupQualified, execVsupQualified]
      simp only [hst, hcl, ne_eq, not_true_eq_false, decide_false, Bool.not_true, Bool.or_self, Bool.false_eq_true, if_false]
      cases s.boot.porNext <;> rfl
    · change (if s.boot.porNext then s.resetCause 0 else s).rtc = s.rtc
      split
      · exact rtc_resetCause 0
      · rfl
  · intro hst
    refine runs_next (t := (s.reachRtc (s.boot.start + 80000)).domainsUp) ?_ (domainsUp_boot (s := s.reachRtc (s.boot.start + 80000)))
    rw [exec_startupDomainsUp, execStartupDomainsUp, if_pos hst]
  · intro sync wake tp0 hst hw
    have hcase : exec (.strapEnd sync wake tp0) s = .next { (if s.boot.wakeNext then s.reach s.boot.due
        else ((s.reach s.boot.due).setf Reg.RST_STRAP Fld.RST_STRAP_pos ((if sync then 2 else 0) + (if wake then 1 else 0))).setb
          Reg.RST_STRAP Fld.RST_STRAP_port tp0).modBoot (fun b => { b with stage := 3, wakeNext := false }) with sram := [] } := by
      rw [exec_strapEnd, execStrapEnd]
      simp only [hst, hw, ne_eq, not_true_eq_false, decide_false, Bool.or_self, Bool.false_eq_true, if_false]
      rfl
    refine runs_next hcase ⟨rfl, ?_, fun hwake => ?_⟩
    · cases s.boot.wakeNext <;> rfl
    · rw [hwake]
      have hr : (s.reach s.boot.due).Inv := { h with }
      have hset := setf_inv (a := Reg.RST_STRAP) (f := Fld.RST_STRAP_pos) (v := (if sync then 2 else 0) + (if wake then 1 else 0)) hr
      refine ⟨(fld_setf_field hset (by decide) (by decide)).trans ((fld_setf_same hr (by decide)).trans ?_), (fld_setf_same hset (by decide)).trans ?_⟩
      · cases sync <;> cases wake <;> rfl
      · cases tp0 <;> rfl
  · intro us descs hst
    exact runs_next (by rw [exec_stage1Entry, execStage1Entry, if_pos hst]) (bootRom_stage descs)
  · intro kind hk hst hr
    have hf : (s.setf Reg.RST_BOOT Fld.RST_BOOT_fail kind).Inv := setf_inv h
    have hp : ((s.setf Reg.RST_BOOT Fld.RST_BOOT_fail kind).setPhase 4).Inv := (State.setPhase_keeps (K := 532998) rfl (Keeps.refl _ _)).inv hf
    have hput : ((s.setf Reg.RST_BOOT Fld.RST_BOOT_fail kind).putNat (sid 0 0x15) 4).Inv := putNat_inv hf
    have hhalt : ∀ (u : State) (a : Nat) (f : Field), u.haltTeamS.fld a f = (u.setf (Reg.HARN_STAT 0) Fld.HARN_STAT_live 0).fld a f := fun _ _ _ => rfl
    refine runs_next (exec_bootFailure_noTrial hk hst hr) ⟨?_, rfl, ?_⟩
    · rw [hhalt, fld_setf_other hp (by decide)]
      unfold State.setPhase
      rw [fld_setf_field hput (by decide) (by decide), fld_congr ((State.putNat_keeps (K := 532996) rfl (Keeps.refl _ _)).regs rfl), fld_setf_same h (by decide)]
      fin_cases hk <;> rfl
    · rw [hhalt, fld_setf_same hp (by decide)]
      decide
  · intro core v hc hd hr
    have hcase : exec (.softwareReset core v) s = .next (if Word.get v Fld.RST_SWR_key = 0xC3A5 && teamOf core = 0 && s.modeNow ≤ 1 then s.softwareReset
        else s.setf Reg.RST_STAT Fld.RST_STAT_cfg_err 1) := by
      rw [exec_softwareReset, execSoftwareReset, access_of hd hr]
      simp only [ofUnit, hc, decide_true, if_true]
    refine ⟨fun hkey ht hm hb => runs_next hcase ?_, fun hno => hcase.trans (congrArg _ (if_neg ?_))⟩
    · rw [if_pos (by simp [hkey, ht, hm])]
      exact softwareReset_boot h hb
    · simp only [Bool.and_eq_true, decide_eq_true_eq, not_and, not_le]
      omega
  · intro hw
    have hr : (s.reach s.boot.due).Inv := { h with }
    have hin : ((s.reach s.boot.due).modBoot (fun b => { b with stage := 2, warm := false, due := (s.reach s.boot.due).dtb + 40000 })).Inv :=
      modBoot_inv hr
    refine runs_next (t := (s.reach s.boot.due).strapPhase) ?_ ⟨rfl, rfl, rfl, rfl, rd_wr_same hin⟩
    rw [exec_warmReset, execWarmReset, if_pos hw]
  · intro j js hj hrec hcode hlast hd hck
    obtain ⟨hboot, hirq, hbytes⟩ := nvmDone_bytes h hj hrec hcode
    have hstay : (s.nvmDone.boot.swWait && !s.nvmDone.nvmBusy) = false := by
      unfold State.nvmBusy
      rw [hboot]
      rcases hlast with hsw | hjs
      · simp [hsw]
      · simp [hjs]
    refine runs_next (t := s.nvmDone) ?_ ⟨congrArg (·.nvmJobs) hboot, hirq, hbytes⟩
    have hbusy : s.nvmBusy = true := by unfold State.nvmBusy; rw [hj]; rfl
    have hruns : s.secRuns = true := by unfold State.secRuns; rw [hd, hck]; rfl
    rw [exec_nvmProgramDone, execNvmProgramDone, hbusy, hruns]
    exact congrArg Host.Outcome.next (if_neg (Bool.eq_false_iff.mp hstay))
  · intro hst hp
    refine runs_next (t := (((s.resetCause 8).modBoot (fun b => { b with pwfAt := some s.dtb })).report 10 (scopeOf lvModule 0)).irq 97) ?_
      ⟨?_, ?_, mem_irqPend_irq 97⟩
    · rw [exec_powerFailWarning, execPowerFailWarning]
      simp only [hst, hp, decide_false, Option.isSome_none, Bool.or_self, Bool.false_eq_true, if_false]
    · rw [(State.irq_keeps (K := 2203319149318) rfl (Keeps.refl _ _)).boot rfl]
      rfl
    · rw [(State.irq_keeps (K := 2203319149318) rfl (Keeps.refl _ _)).mg rfl, reports_report, mg_powerFail]
  · intro w hw
    refine ⟨runs_next (t := (s.reach (w + 2400000)).modBoot (fun b => { b with pwfAt := none })) ?_ ⟨rfl, rfl, rfl⟩,
      runs_next (t := (((s.reach (w + 2400000)).resetCause 1).supplyLost).dtbZero) ?_ dtbZero_supplyLost⟩
    · rw [exec_brownOut, execBrownOut, hw]; rfl
    · rw [exec_brownOut, execBrownOut, hw]; rfl
  · have hstage := supplyLost_stage (s := s)
    refine runs_next (exec_vbatkApplied s) ?_
    generalize s.supplyLost = u at hstage ⊢
    exact ⟨rfl, rfl, hstage, rfl, rfl, rfl⟩

end Sys2Proof.Machine
end

section
/-! PROOFS. The statement on the converter units and the trigger timers (R83-R111). -/

namespace Sys2Proof.Machine

set_option Elab.async false

variable {s t : State} {u : Nat}

/-! ## Loops -/

theorem State.each_induction {α : Type} {P : State → Prop} {f : State → α → State} {l : List α} (hf : ∀ s x, x ∈ l → P s → P (f s x))
    (h : P s) : P (s.each l f) := by
  induction l generalizing s with
  | nil => exact h
  | cons x xs ih => exact ih (fun s y hy => hf s y (List.mem_cons_of_mem x hy)) (hf s x List.mem_cons_self h)

theorem State.forN_induction {P : State → Prop} {f : State → Nat → State} {n : Nat} (hf : ∀ s x, x < n → P s → P (f s x)) (h : P s) :
    P (s.forN n f) := by
  have key : ∀ (m k : Nat) (s : State), k + m ≤ n → P s → P (overFrom f s k m) := by
    intro m
    induction m with
    | zero => intro _ _ _ h; exact h
    | succ m ih => intro k s hk h; exact ih (k + 1) (f s k) (by omega) (hf s k (by omega) h)
  exact key n 0 s (by omega) h

/-- A loop that passes over index `i` once does there what its step `i` does. -/
theorem State.forN_hit {A B : State → Prop} {f : State → Nat → State} {n i : Nat} (hi : i < n) (hA : ∀ s x, x < n → x ≠ i → A s → A (f s x))
    (hAB : ∀ s, A s → B (f s i)) (hB : ∀ s x, x < n → x ≠ i → B s → B (f s x)) (h : A s) : B (s.forN n f) := by
  have after : ∀ (m k : Nat) (s : State), i < k → k + m ≤ n → B s → B (overFrom f s k m) := by
    intro m
    induction m with
    | zero => intro _ _ _ _ h; exact h
    | succ m ih => intro k s hk hn h; exact ih (k + 1) (f s k) (by omega) (by omega) (hB s k (by omega) (by omega) h)
  have key : ∀ (m k : Nat) (s : State), k ≤ i → i < k + m → k + m ≤ n → A s → B (overFrom f s k m) := by
    intro m
    induction m with
    | zero => intro k s hk hm; omega
    | succ m ih =>
      intro k s hk hm hn h
      by_cases hki : k = i
      · subst hki
        exact after m (k + 1) (f s k) (Nat.lt_succ_self k) (by omega) (hAB s h)
      · exact ih (k + 1) (f s k) (by omega) (by omega) (by omega) (hA s k (by omega) hki h)
  exact key n 0 s (Nat.zero_le i) (by omega) (by omega) h

/-! ## Flags -/

section
variable {a b : Nat} {f g : Field} {x : Bool}

theorem rd_setb_other (h : s.Inv) (hb : b ≠ a) : (s.setb a f x).rd b = s.rd b := rd_setf_other h hb
theorem fld_setb_other (h : s.Inv) (hb : b ≠ a) : (s.setb a f x).fld b g = s.fld b g := fld_setf_other h hb
theorem fld_setb_field (h : s.Inv) (hf : f.lo + f.len ≤ 32) (hfg : g.lo + g.len ≤ f.lo ∨ f.lo + f.len ≤ g.lo) :
    (s.setb a f x).fld a g = s.fld a g := fld_setf_field h hf hfg

end

/-! ## A unit's state and status -/

theorem modAu_inv (h : s.Inv) {f : AuSt → AuSt} : (s.modAu u f).Inv := (State.modAu_keeps (K := 2 ^ 10) rfl (Keeps.refl _ s)).inv h
theorem fld_modAu {f : AuSt → AuSt} (a : Nat) (g : Field) : (s.modAu u f).fld a g = s.fld a g := rfl
theorem auAt_congr (h : t.au = s.au) (u : Nat) : t.auAt u = s.auAt u := by unfold State.auAt; rw [h]
theorem fld_of_rd {a : Nat} (h : t.rd a = s.rd a) (f : Field) : t.fld a f = s.fld a f := by unfold State.fld; rw [h]

/-- Slot `i` is pending when its bit of ADC_STATUS is set (R91). -/
theorem slotPending_iff {i : Nat} (hi : i < 4) : s.slotPending u i = s.on (Reg.ADC_STATUS u) (bitF (4 + i)) := by
  unfold State.slotPending State.on State.fld bit Word.get bitF Fld.ADC_STATUS_pend
  interval_cases i <;> simp only [decide_eq_decide] <;> omega

theorem slotPending_setPending_same (h : s.Inv) {i : Nat} {b : Bool} (hi : i < 4) : (s.setPending u i b).slotPending u i = b := by
  rw [slotPending_iff hi]
  unfold State.setPending State.setb State.on
  rw [fld_setf_same h (by unfold bitF; dsimp only; omega)]
  cases b <;> rfl

/-- The mirror of a unit leaves its state, and of its registers all but the low part of the status. -/
theorem adcMirror_effect (h : s.Inv) (u : Nat) : (s.adcMirror u).Inv ∧ (s.adcMirror u).au = s.au ∧
    (∀ a, a ≠ Reg.ADC_STATUS u → (s.adcMirror u).rd a = s.rd a) ∧
    ∀ f : Field, f.lo = 4 ∧ f.len ≤ 4 ∨ 12 ≤ f.lo → (s.adcMirror u).fld (Reg.ADC_STATUS u) f = s.fld (Reg.ADC_STATUS u) f := by
  have h1 := setb_inv (a := Reg.ADC_STATUS u) (f := Fld.ADC_STATUS_run) (b := (s.auAt u).act.any (·.slot.isSome)) h
  have h2 := setb_inv (a := Reg.ADC_STATUS u) (f := Fld.ADC_STATUS_urg_run) (b := (s.auAt u).act.any (·.by_.isSome)) h1
  have h3 := setb_inv (a := Reg.ADC_STATUS u) (f := Fld.ADC_STATUS_urg_wait) (b := (s.auAt u).wait.isSome) h2
  refine ⟨setf_inv h3, rfl, fun a ha => ?_, fun f hf => ?_⟩
  · unfold State.adcMirror
    dsimp only
    rw [rd_setf_other h3 ha, rd_setb_other h2 ha, rd_setb_other h1 ha, rd_setb_other h ha]
  · unfold State.adcMirror
    dsimp only
    rw [fld_setf_field h3 (by decide) (by simp only [Fld.ADC_STATUS_entry]; omega),
      fld_setb_field h2 (by decide) (by simp only [Fld.ADC_STATUS_urg_wait]; omega),
      fld_setb_field h1 (by decide) (by simp only [Fld.ADC_STATUS_urg_run]; omega), fld_setb_field h (by decide) (by simp only [Fld.ADC_STATUS_run]; omega)]

/-- Counting the collisions of waiting slots touches their marks and the collision counter, and nothing else (R93). -/
theorem countWaiting_effect (h : s.Inv) (hu : u < 16) (e : Nat) : (s.countWaiting u e).Inv ∧
    (∃ c, (s.countWaiting u e).auAt u = { s.auAt u with collided := c }) ∧
    ∀ a, a ≠ Reg.ADC_CNT_COLL u → (s.countWaiting u e).rd a = s.rd a := by
  refine State.forN_induction (P := fun t => t.Inv ∧ (∃ c, t.auAt u = { s.auAt u with collided := c }) ∧ ∀ a, a ≠ Reg.ADC_CNT_COLL u → t.rd a = s.rd a)
    (fun t i _ ht => ?_) ⟨h, ⟨(s.auAt u).collided, rfl⟩, fun _ _ => rfl⟩
  obtain ⟨hin, ⟨c, hc⟩, hrd⟩ := ht
  dsimp only
  split
  · refine ⟨modAu_inv (inc_inv hin), ⟨c.set i true, ?_⟩, fun a ha => (rd_inc_other hin ha).trans (hrd a ha)⟩
    rw [auAt_modAu_same (inc_inv hin) hu, show (t.inc (Reg.ADC_CNT_COLL u)).auAt u = t.auAt u from rfl, hc]
  · exact ⟨hin, ⟨c, hc⟩, hrd⟩

/-! ## Entries -/

theorem senseOf_congr (hcfg : ∀ k, t.rd (Reg.ADC_ECFG u k) = s.rd (Reg.ADC_ECFG u k)) (hcsl : t.rd (Reg.ADC_CSL u) = s.rd (Reg.ADC_CSL u)) (k : Nat) :
    t.senseOf u k = s.senseOf u k := by
  unfold State.senseOf State.inputOf State.lineOf State.on
  simp only [fld_of_rd (hcfg k), fld_of_rd hcsl]

theorem nextEntry_congr (hv : t.variant = s.variant) (hcfg : ∀ k, t.rd (Reg.ADC_ECFG u k) = s.rd (Reg.ADC_ECFG u k))
    (hcsl : t.rd (Reg.ADC_CSL u) = s.rd (Reg.ADC_CSL u)) (k last : Nat) : t.nextEntry u k last = s.nextEntry u k last := by
  unfold State.nextEntry State.entryValid
  simp only [fld_of_rd (hcfg _), senseOf_congr hcfg hcsl, hv]

/-- An entry that starts takes its input and its sampling phase from its own configuration (R83, R574). -/
theorem startEntry_effect (h : s.Inv) (hu : u < 16) (k : Nat) (slot : Option Nat) (by_ : Option Asker) (e : Nat) :
    (s.startEntry u k slot by_ e).Inv ∧
    (s.startEntry u k slot by_ e).auAt u = { s.auAt u with
      lastEntry := k
      act := some { entry := k, src := s.senseOf u k, slot := slot, by_ := by_, sampling := true
                    tEnd := e + s.fld (Reg.ADC_ECFG u k) Fld.ADC_ECFG_smp * adcCycle, tsUs := 0 } } ∧
    (∀ a, a ≠ Reg.ADC_STATUS u → (s.startEntry u k slot by_ e).rd a = s.rd a) ∧
    (s.startEntry u k slot by_ e).fld (Reg.ADC_STATUS u) Fld.ADC_STATUS_pend = s.fld (Reg.ADC_STATUS u) Fld.ADC_STATUS_pend := by
  unfold State.startEntry State.startSampling
  obtain ⟨hin, hau, hrd, hfld⟩ := adcMirror_effect (modAu_inv (u := u) (f := fun a => { a with
    lastEntry := k
    act := some { entry := k, src := s.senseOf u k, slot := slot, by_ := by_, sampling := true
                  tEnd := e + s.fld (Reg.ADC_ECFG u k) Fld.ADC_ECFG_smp * adcCycle, tsUs := 0 } }) h) u
  exact ⟨hin, (auAt_congr hau u).trans (auAt_modAu_same h hu), hrd, hfld _ (.inl ⟨rfl, by decide⟩)⟩

/-- An urgent request that starts has the unit; slots that wait count a collision (R93, R95). -/
theorem startUrgent_effect (h : s.Inv) (hu : u < 16) (q : UrgentReq) (e : Nat) :
    ((s.startUrgent u q e).auAt u).act = some { entry := q.entry, src := s.senseOf u q.entry, slot := none, by_ := some q.asker, sampling := true
                                                tEnd := e + s.fld (Reg.ADC_ECFG u q.entry) Fld.ADC_ECFG_smp * adcCycle, tsUs := 0 } ∧
    ((s.startUrgent u q e).auAt u).incoming = (s.auAt u).incoming ∧
    ∀ a, a ≠ Reg.ADC_STATUS u → a ≠ Reg.ADC_CNT_COLL u → (s.startUrgent u q e).rd a = s.rd a := by
  obtain ⟨hin, hau, hrd, -⟩ := startEntry_effect h hu q.entry none (some q.asker) e
  obtain ⟨-, ⟨c, hc⟩, hrdw⟩ := countWaiting_effect hin hu e
  unfold State.startUrgent
  rw [hc, hau]
  exact ⟨rfl, rfl, fun a ha hb => (hrdw a hb).trans (hrd a ha)⟩

/-! ## Slots -/

theorem adcOccupied_free (e : Nat) (ha : (s.auAt u).act = none) (hr : (s.auAt u).running = none) (hw : (s.auAt u).wait = none)
    (hi : (s.auAt u).incoming = []) : s.adcOccupied u e = false := by
  simp only [State.adcOccupied, ha, hr, hw, hi]
  rfl

/-- A slot's trigger in a module whose clocks keep their ratio: the delay of a slot that is not busy starts (R89, R92). -/
theorem slotTrigger_effect (h : s.Inv) (hu : u < 16) {i : Nat} (hr : s.adcRatioOk = true) :
    (s.slotTrigger u i).Inv ∧ (s.slotTrigger u i).dtb = s.dtb ∧ (s.slotTrigger u i).clk = s.clk ∧
    (∀ a, a ≠ Reg.ADC_CNT_OVRUN u → (s.slotTrigger u i).rd a = s.rd a) ∧
    (s.slotTrigger u i).auAt u = if s.adcOn u && !s.slotBusy u i then
      { s.auAt u with delay := (s.auAt u).delay.set i (some (s.dtb + s.fld (Reg.ADC_TDLY u i) Fld.ADC_TDLY_dly)), collided := (s.auAt u).collided.set i false }
      else s.auAt u := by
  unfold State.slotTrigger State.adcSkew
  rw [if_pos hr]
  cases s.adcOn u
  · exact ⟨h, rfl, rfl, fun _ _ => rfl, rfl⟩
  cases s.slotBusy u i
  · exact ⟨modAu_inv h, rfl, rfl, fun _ _ => rfl, auAt_modAu_same h hu⟩
  · exact ⟨inc_inv h, rfl, rfl, fun a ha => rd_inc_other h ha, rfl⟩

/-- A unit whose slot `i` is free and whose registers, but for the overrun counter, are those of `s`. -/
structure State.SlotFree (s t : State) (u i : Nat) : Prop where
  inv : t.Inv
  dtb : t.dtb = s.dtb
  clk : t.clk = s.clk
  rd : ∀ a, a ≠ Reg.ADC_CNT_OVRUN u → t.rd a = s.rd a
  length : (t.auAt u).delay.length = 4
  free : (t.auAt u).delay.getD i none = none
  running : (t.auAt u).running = (s.auAt u).running
  finishing : (t.auAt u).finishing = (s.auAt u).finishing

/-- The delay that the trigger of slot `i` starts. -/
def State.SlotDelayed (s t : State) (u i : Nat) : Prop :=
  t.Inv ∧ t.clk = s.clk ∧ (∀ a, a ≠ Reg.ADC_CNT_OVRUN u → t.rd a = s.rd a) ∧
    (t.auAt u).delay.getD i none = some (s.dtb + s.fld (Reg.ADC_TDLY u i) Fld.ADC_TDLY_dly)

theorem adcRatioOk_congr (h : t.clk = s.clk) : t.adcRatioOk = s.adcRatioOk := by
  unfold State.adcRatioOk State.divNow
  rw [h]

theorem adcOn_congr (hrd : ∀ a, a ≠ Reg.ADC_CNT_OVRUN u → t.rd a = s.rd a) : t.adcOn u = s.adcOn u := by
  unfold State.adcOn State.on State.domainOn State.domain
  rw [fld_of_rd (hrd _ (by unfold Reg.ADC_CNT_OVRUN Reg.ADC_CTRL; omega)), fld_of_rd (hrd _ (by unfold Reg.ADC_CNT_OVRUN Reg.PWR_STAT; omega))]

/-- A trigger of another slot leaves a free slot free, and a delay that has started. -/
theorem slotTrigger_other (hu : u < 16) {i j : Nat} (hr : s.adcRatioOk = true) (hj : j ≠ i) :
    (s.SlotFree t u i → s.SlotFree (t.slotTrigger u j) u i) ∧ (s.SlotDelayed t u i → s.SlotDelayed (t.slotTrigger u j) u i) := by
  constructor
  · intro h
    obtain ⟨hin, hdtb, hclk, hrd, hau⟩ := slotTrigger_effect h.inv hu (i := j) ((adcRatioOk_congr h.clk).trans hr)
    refine ⟨hin, hdtb.trans h.dtb, hclk.trans h.clk, fun a ha => (hrd a ha).trans (h.rd a ha), ?_, ?_, ?_, ?_⟩ <;> rw [hau] <;> split
    · exact List.length_set.trans h.length
    · exact h.length
    · simpa [List.getD_eq_getElem?_getD, List.getElem?_set_ne hj] using h.free
    · exact h.free
    · exact h.running
    · exact h.running
    · exact h.finishing
    · exact h.finishing
  · rintro ⟨hin, hclk, hrd, hdel⟩
    obtain ⟨hin', -, hclk', hrd', hau⟩ := slotTrigger_effect hin hu (i := j) ((adcRatioOk_congr hclk).trans hr)
    refine ⟨hin', hclk'.trans hclk, fun a ha => (hrd' a ha).trans (hrd a ha), ?_⟩
    rw [hau]
    split
    · simpa [List.getD_eq_getElem?_getD, List.getElem?_set_ne hj] using hdel
    · exact hdel

/-- The trigger of a free slot starts its delay. -/
theorem slotTrigger_free (hu : u < 16) {i : Nat} (hi : i < 4) (hon : s.adcOn u = true) (hr : s.adcRatioOk = true)
    (hbusy : s.slotBusy u i = false) (h : s.SlotFree t u i) : s.SlotDelayed (t.slotTrigger u i) u i := by
  obtain ⟨hin, hdtb, hclk, hrd, hau⟩ := slotTrigger_effect h.inv hu (i := i) ((adcRatioOk_congr h.clk).trans hr)
  refine ⟨hin, hclk.trans h.clk, fun a ha => (hrd a ha).trans (h.rd a ha), ?_⟩
  have hfree : t.slotBusy u i = false := by
    simp only [State.slotBusy, Bool.or_eq_false_iff] at hbusy ⊢
    obtain ⟨⟨⟨-, hpend⟩, hrun⟩, hfin⟩ := hbusy
    refine ⟨⟨⟨by rw [h.free]; rfl, ?_⟩, by rw [h.running]; exact hrun⟩, by rw [h.finishing]; exact hfin⟩
    rw [← hpend]
    unfold State.slotPending
    rw [fld_of_rd (h.rd _ (by unfold Reg.ADC_STATUS Reg.ADC_CNT_OVRUN; omega))]
  rw [hau, adcOn_congr h.rd, hon, hfree, Bool.not_false, Bool.and_self, if_pos rfl]
  have hlen : i < (t.auAt u).delay.length := by rw [h.length]; exact hi
  rw [fld_of_rd (h.rd (Reg.ADC_TDLY u i) (by unfold Reg.ADC_TDLY Reg.ADC_CNT_OVRUN; omega)), h.dtb]
  simp [List.getD_eq_getElem?_getD, hlen]

/-- The software trigger starts the delay of each slot that it names (R89). -/
theorem swtrg_effect (h : s.Inv) (hu : u < 16) {slots i : Nat} (hi : i < 4) (hon : s.adcOn u = true) (hr : s.adcRatioOk = true)
    (hb : bit slots i = true) (hk : s.fld (Reg.ADC_TRG u i) Fld.ADC_TRG_skind = 5) (hbusy : s.slotBusy u i = false)
    (hl : (s.auAt u).delay.length = 4) :
    ((s.forN 4 (fun s t => if bit slots t && s.fld (Reg.ADC_TRG u t) Fld.ADC_TRG_skind = 5 then s.slotTrigger u t else s)).auAt u).delay.getD i none =
      some (s.dtb + s.fld (Reg.ADC_TDLY u i) Fld.ADC_TDLY_dly) := by
  have hfree : (s.auAt u).delay.getD i none = none := by
    simp only [State.slotBusy, Bool.or_eq_false_iff] at hbusy
    exact Option.not_isSome_iff_eq_none.mp (by rw [hbusy.1.1.1]; decide)
  refine (State.forN_hit (A := fun t => s.SlotFree t u i) (B := fun t => s.SlotDelayed t u i) hi (fun t j _ hj ht => ?_) (fun t ht => ?_)
    (fun t j _ hj ht => ?_) ⟨h, rfl, rfl, fun _ _ => rfl, hl, hfree, rfl, rfl⟩).2.2.2
  · split
    exacts [(slotTrigger_other hu hr hj).1 ht, ht]
  · rw [if_pos (by rw [hb, fld_of_rd (ht.rd _ (by unfold Reg.ADC_TRG Reg.ADC_CNT_OVRUN; omega)), hk]; rfl)]
    exact slotTrigger_free hu hi hon hr hbusy ht
  · split
    exacts [(slotTrigger_other hu hr hj).2 ht, ht]

/-! ## Conversions -/

/-- The slot that starts is the lowest one pending at the edge (R90). -/
theorem exec_adcSlotStart_lowest (hu : u < 16) {i e : Nat} (hi : i < 4) (he : s.slotEdge u = some e) (ha : (s.auAt u).act = none)
    (hr : (s.auAt u).running = none) (hw : (s.auAt u).wait = none) (hin : (s.auAt u).incoming = []) (hp : s.slotPending u i = true)
    (hle : adcEdge ((s.auAt u).pendAt.getD i 0) ≤ e) (hlow : ∀ j, j < i → s.slotPending u j = true → e < adcEdge ((s.auAt u).pendAt.getD j 0)) :
    exec (.adcSlotStart u) s = .next (s.startSlot u i e) := by
  have hfind : (List.range 4).find? (fun t => s.slotPending u t && adcEdge ((s.auAt u).pendAt.getD t 0) ≤ e) = some i := by
    rw [List.find?_range_eq_some]
    refine ⟨by rw [hp, decide_eq_true hle]; rfl, List.mem_range.mpr hi, fun j hj => ?_⟩
    rcases hb : s.slotPending u j with _ | _
    · rfl
    · rw [decide_eq_false (Nat.not_le.mpr (hlow j hj hb))]; rfl
  rw [exec_adcSlotStart, execAdcSlotStart]
  simp only [he, ha, hr, hw, hin, hfind, Option.isSome_none, Bool.or_self, List.any_nil, Bool.false_eq_true, if_false, ofUnit, hu, decide_true, if_true]

/-- What the start of a slot passes on to its first entry: the unit, its configuration, and the slot no longer pending. -/
structure State.SlotStarting (s t : State) (u i : Nat) : Prop where
  inv : t.Inv
  dtb : t.dtb = s.dtb
  variant : t.variant = s.variant
  unit : t.auAt u = s.auAt u
  rd : ∀ a, a ≠ Reg.ADC_STATUS u → a ≠ Reg.ADC_CNT_COLL u → t.rd a = s.rd a
  pending : t.slotPending u i = false

theorem State.SlotStarting.cfg {i : Nat} (h : s.SlotStarting t u i) (k : Nat) : t.rd (Reg.ADC_ECFG u k) = s.rd (Reg.ADC_ECFG u k) :=
  h.rd _ (by unfold Reg.ADC_ECFG Reg.ADC_STATUS; omega) (by unfold Reg.ADC_ECFG Reg.ADC_CNT_COLL; omega)
theorem State.SlotStarting.csl {i : Nat} (h : s.SlotStarting t u i) : t.rd (Reg.ADC_CSL u) = s.rd (Reg.ADC_CSL u) :=
  h.rd _ (by unfold Reg.ADC_CSL Reg.ADC_STATUS; omega) (by unfold Reg.ADC_CSL Reg.ADC_CNT_COLL; omega)
theorem State.SlotStarting.trg {i : Nat} (h : s.SlotStarting t u i) (hi : i < 4) : t.rd (Reg.ADC_TRG u i) = s.rd (Reg.ADC_TRG u i) :=
  h.rd _ (by unfold Reg.ADC_TRG Reg.ADC_STATUS; omega) (by unfold Reg.ADC_TRG Reg.ADC_CNT_COLL; omega)

theorem coll_ne_status : Reg.ADC_STATUS u ≠ Reg.ADC_CNT_COLL u := by unfold Reg.ADC_STATUS Reg.ADC_CNT_COLL; omega

theorem slotStarting_setPending (h : s.Inv) {i : Nat} (hi : i < 4) : s.SlotStarting (s.setPending u i false) u i :=
  ⟨setb_inv h, rfl, rfl, rfl, fun _ ha _ => rd_setb_other h ha, slotPending_setPending_same h hi⟩

theorem State.SlotStarting.inc {i : Nat} (h : s.SlotStarting t u i) : s.SlotStarting (t.inc (Reg.ADC_CNT_COLL u)) u i where
  inv := inc_inv h.inv
  dtb := h.dtb
  variant := h.variant
  unit := h.unit
  rd := fun a ha hc => (rd_inc_other h.inv hc).trans (h.rd a ha hc)
  pending := (congrArg (fun x => bit x i) (fld_inc_other h.inv coll_ne_status)).trans h.pending

theorem State.SlotStarting.cfgErr {i : Nat} (h : s.SlotStarting t u i) :
    s.SlotStarting (t.setf (Reg.ADC_STATUS u) Fld.ADC_STATUS_cfg_err 1) u i := by
  have hpend : (t.setf (Reg.ADC_STATUS u) Fld.ADC_STATUS_cfg_err 1).fld (Reg.ADC_STATUS u) Fld.ADC_STATUS_pend =
      t.fld (Reg.ADC_STATUS u) Fld.ADC_STATUS_pend := fld_setf_field h.inv (by decide) (by decide)
  exact ⟨setf_inv h.inv, (State.setf_dtb _).trans h.dtb, (State.setf_variant _).trans h.variant, (State.setf_auAt _ _).trans h.unit, fun a ha hc => (rd_setf_other h.inv ha).trans (h.rd a ha hc),
    (congrArg (fun x => bit x i) hpend).trans h.pending⟩

/-- A slot that starts runs from its first valid entry, and is no longer pending (R84, R90, R91). -/
theorem startSlot_effect (h : s.Inv) (hu : u < 16) {i k e : Nat} (hi : i < 4)
    (hk : s.nextEntry u (s.fld (Reg.ADC_TRG u i) Fld.ADC_TRG_first) (s.fld (Reg.ADC_TRG u i) Fld.ADC_TRG_last) = some k) :
    (s.startSlot u i e).dtb = max s.dtb (ceilHalf e) ∧ ((s.startSlot u i e).auAt u).running = some (i, k) ∧
      ((s.startSlot u i e).auAt u).act = some { entry := k, src := s.senseOf u k, slot := some i, by_ := none, sampling := true, tEnd := e + s.fld (Reg.ADC_ECFG u k) Fld.ADC_ECFG_smp * adcCycle, tsUs := 0 } ∧
      (s.startSlot u i e).slotPending u i = false := by
  have hv : (s.reach (ceilHalf e)).SlotStarting (if adcEdge ((s.auAt u).pendAt.getD i 0) < (s.auAt u).freeAt && !(s.auAt u).collided.getD i false then
      ((s.reach (ceilHalf e)).setPending u i false).inc (Reg.ADC_CNT_COLL u) else (s.reach (ceilHalf e)).setPending u i false) u i := by
    have hp := slotStarting_setPending (u := u) (reach_inv (s := s) (t := ceilHalf e) h) hi
    split
    exacts [hp.inc, hp]
  unfold State.startSlot
  dsimp only
  generalize (if adcEdge ((s.auAt u).pendAt.getD i 0) < (s.auAt u).freeAt && !(s.auAt u).collided.getD i false then
      ((s.reach (ceilHalf e)).setPending u i false).inc (Reg.ADC_CNT_COLL u) else (s.reach (ceilHalf e)).setPending u i false) = v at hv ⊢
  have hnext : v.nextEntry u (v.fld (Reg.ADC_TRG u i) Fld.ADC_TRG_first) (v.fld (Reg.ADC_TRG u i) Fld.ADC_TRG_last) = some k := by
    rw [nextEntry_congr hv.variant hv.cfg hv.csl, fld_of_rd (hv.trg hi), fld_of_rd (hv.trg hi)]
    exact hk
  rw [hnext]
  dsimp only
  have hw : (s.reach (ceilHalf e)).SlotStarting (if k = v.fld (Reg.ADC_TRG u i) Fld.ADC_TRG_first then v
      else v.setf (Reg.ADC_STATUS u) Fld.ADC_STATUS_cfg_err 1) u i := by
    split
    exacts [hv, hv.cfgErr]
  generalize (if k = v.fld (Reg.ADC_TRG u i) Fld.ADC_TRG_first then v else v.setf (Reg.ADC_STATUS u) Fld.ADC_STATUS_cfg_err 1) = w at hw ⊢
  have hm : (w.modAu u (fun a => { a with running := some (i, k) })).Inv := modAu_inv hw.inv
  obtain ⟨hin, hau, hrd, hpend⟩ := startEntry_effect hm hu k (some i) none e
  obtain ⟨-, ⟨c, hc⟩, hrdw⟩ := countWaiting_effect hin hu e
  have hkeep : Keeps 1026 (w.modAu u (fun a => { a with running := some (i, k) }))
      (((w.modAu u (fun a => { a with running := some (i, k) })).startEntry u k (some i) none e).countWaiting u e) :=
    State.countWaiting_keeps rfl (State.startEntry_keeps rfl (Keeps.refl _ _))
  refine ⟨(hkeep.dtb rfl).trans hw.dtb, ?_, ?_, ?_⟩
  · rw [hc, hau, auAt_modAu_same hw.inv hu]
  · rw [hc, hau]
    dsimp only
    have hsense : (w.modAu u (fun a => { a with running := some (i, k) })).senseOf u k = s.senseOf u k := senseOf_congr hw.cfg hw.csl k
    have hsmp : (w.modAu u (fun a => { a with running := some (i, k) })).fld (Reg.ADC_ECFG u k) Fld.ADC_ECFG_smp = s.fld (Reg.ADC_ECFG u k) Fld.ADC_ECFG_smp :=
      fld_of_rd (hw.cfg k) _
    rw [hsense, hsmp]
  · refine Eq.trans ?_ hw.pending
    unfold State.slotPending
    rw [fld_of_rd (hrdw _ coll_ne_status), hpend]
    rfl

/-- The end of a trigger delay, on a unit that is free (R89). -/
def State.delayEnded (s : State) (u i d : Nat) : State :=
  ((s.reach d).modAu u (fun a => { a with delay := a.delay.set i none, pendAt := a.pendAt.set i (s.reach d).dtb })).setPending u i true

/-- A delay that ends on a free unit makes its slot pending, and counts no collision (R89, R93). -/
theorem runs_adcTriggerDelayEnd (h : s.Inv) (hu : u < 16) {i d : Nat} (hi : i < 4) (hd : (s.auAt u).delay.getD i none = some d)
    (ha : (s.auAt u).act = none) (hr : (s.auAt u).running = none) (hw : (s.auAt u).wait = none) (hin : (s.auAt u).incoming = []) :
    Runs (.adcTriggerDelayEnd u i) s fun t => t.dtb = max s.dtb d ∧ t.slotPending u i = true ∧
      (t.auAt u).delay.getD i none = none ∧ t.rd (Reg.ADC_CNT_COLL u) = s.rd (Reg.ADC_CNT_COLL u) := by
  have hr' := reach_inv (t := d) h
  have hset : (s.delayEnded u i d).auAt u = { s.auAt u with delay := (s.auAt u).delay.set i none, pendAt := (s.auAt u).pendAt.set i (s.reach d).dtb } :=
    auAt_modAu_same hr' hu
  have hcase : exec (.adcTriggerDelayEnd u i) s = .next (s.delayEnded u i d) := by
    have hfree : (s.delayEnded u i d).adcOccupied u (adcEdge (s.delayEnded u i d).dtb) = false :=
      adcOccupied_free _ (by rw [hset]; exact ha) (by rw [hset]; exact hr) (by rw [hset]; exact hw) (by rw [hset]; exact hin)
    rw [exec_adcTriggerDelayEnd, execAdcTriggerDelayEnd, hd]
    simp only [ofUnit, hu, hi, decide_true, Bool.and_self, if_true]
    exact congrArg Host.Outcome.next (if_neg (Bool.eq_false_iff.mp hfree))
  refine runs_next hcase ⟨rfl, slotPending_setPending_same (modAu_inv hr') hi, ?_, rd_setb_other (modAu_inv hr') coll_ne_status.symm⟩
  rw [hset]
  simp only [List.getD_eq_getElem?_getD, List.getElem?_set_self']
  cases (s.auAt u).delay[i]? <;> rfl

/-- The samples that Martingale takes from a conversion (R400, R423) leave the registers, the Paddock and the time. -/
theorem samples_effect (v : State) (u : Nat) (c : Conversion) (x : Int) (ovr : Bool) (code : Nat) (o : Int) :
    ((v.resolverSample u c.entry x ovr).midScaleSample c code o).regs = v.regs ∧
      ((v.resolverSample u c.entry x ovr).midScaleSample c code o).paddock = v.paddock ∧
      ((v.resolverSample u c.entry x ovr).midScaleSample c code o).dtb = v.dtb := by
  unfold State.midScaleSample State.resolverSample
  split <;> split <;> exact ⟨rfl, rfl, rfl⟩

/-- The end of an urgent conversion sends its result to the bank of its destination (R102-R105). -/
theorem entryEnd_waiting {c : Conversion} {q : Asker} {code : Nat} {beyond : Bool} (h : s.Inv) (henc : c.enc = none) (hslot : c.slot = none)
    (hsrc : c.src ≠ .agnd) (hby : c.by_ = some q) :
    (s.entryEnd u c code beyond).paddock.waiting = s.paddock.waiting ++ [{ sig := s.fld (Reg.ADC_EDST u c.entry) Fld.ADC_EDST_sig, req := s.dtb, kind := .conv u c.entry (adcValue (s.on (Reg.ADC_ECFG u c.entry) Fld.ADC_ECFG_pol) (if beyond then (if code < 8192 then 0 else 16383) else code) (s.sfld (Reg.ADC_OFS u (s.fld (Reg.ADC_ECFG u c.entry) Fld.ADC_ECFG_gain)) Fld.ADC_OFS_ofs)) (s.adcQuality u) beyond c.tsUs none (some q) }] := by
  have hedst : ∀ v : State, v = (if beyond then s.setf (Reg.ADC_STATUS u) Fld.ADC_STATUS_ovr 1 else s) →
      v.fld (Reg.ADC_EDST u c.entry) Fld.ADC_EDST_sig = s.fld (Reg.ADC_EDST u c.entry) Fld.ADC_EDST_sig ∧ v.paddock = s.paddock ∧ v.dtb = s.dtb := by
    rintro v rfl
    split
    · exact ⟨fld_setf_other h (by unfold Reg.ADC_EDST Reg.ADC_STATUS; omega), State.setf_paddock _, State.setf_dtb _⟩
    · exact ⟨rfl, rfl, rfl⟩
  unfold State.entryEnd Conversion.code
  simp only [henc, hslot, hby, if_neg hsrc, Option.isNone_none, Option.isSome_none, Bool.and_true, decide_not, decide_eq_false hsrc, Bool.not_false,
    Option.getD_none, Option.bind_none, Option.any_none, Bool.false_eq_true, if_false, if_true]
  generalize hv : (if beyond then s.setf (Reg.ADC_STATUS u) Fld.ADC_STATUS_ovr 1 else s) = v
  obtain ⟨hsig, hpad, hdtb⟩ := hedst v hv.symm
  generalize adcValue _ _ _ = x
  generalize State.sfld s _ _ = o
  obtain ⟨hregs, hwait, hreq⟩ := samples_effect v u c x beyond (if beyond then (if code < 8192 then 0 else 16383) else code) o
  generalize (v.resolverSample u c.entry x beyond).midScaleSample c (if beyond then (if code < 8192 then 0 else 16383) else code) o = w at hregs hwait hreq ⊢
  change w.paddock.waiting ++ [{ sig := w.fld _ _, req := w.dtb, kind := _ }] = _
  rw [hwait, hreq, fld_congr hregs, hsig, hpad, hdtb]

/-! ## Urgent requests -/

/-- The request that takes effect at edge `e` is no longer on its way (R95). -/
def State.urgentTaken (s : State) (u : Nat) (q : UrgentReq) (e : Nat) : State :=
  (s.reach (ceilHalf e)).modAu u (fun a => { a with incoming := a.incoming.erase q })

theorem urgentTaken_inv (h : s.Inv) {q : UrgentReq} {e : Nat} : (s.urgentTaken u q e).Inv := modAu_inv (reach_inv h)
theorem auAt_urgentTaken (h : s.Inv) (hu : u < 16) (q : UrgentReq) (e : Nat) :
    (s.urgentTaken u q e).auAt u = { s.auAt u with incoming := (s.auAt u).incoming.erase q } := auAt_modAu_same (reach_inv h) hu
theorem rd_urgentTaken (q : UrgentReq) (e a : Nat) : (s.urgentTaken u q e).rd a = s.rd a := rfl
theorem senseOf_urgentTaken (q : UrgentReq) (e k : Nat) : (s.urgentTaken u q e).senseOf u k = s.senseOf u k := rfl

/-- A valid request takes effect according to what the unit does (R95, R96). -/
theorem urgentEffect_valid {w : State} {q : UrgentReq} {e : Nat} (hw : s.modAu u (fun a => { a with incoming := a.incoming.erase q }) = w)
    (hon : w.adcOn u = true) (hv : w.entryValid u q.entry = true) :
    s.urgentEffect u q e = match (w.auAt u).act with
      | none => w.startUrgent u q e
      | some c =>
        if c.slot.isNone then
          if (w.auAt u).wait.isNone then ((w.modAu u (fun a => { a with wait := some q })).inc (Reg.ADC_CNT_COLL u)).adcMirror u else w.urgentRefuse u q.asker
        else (w.inc (Reg.ADC_CNT_ABORT u)).startUrgent u q e := by
  unfold State.urgentEffect
  simp only [hw, hon, hv, Bool.not_true, Bool.false_eq_true, if_false] <;> rfl

/-- What a valid request does to the unit: it starts on a free unit, ends a sequenced conversion, and waits for an urgent one (R95, R96). -/
theorem exec_urgentRequestEffect_valid (h : s.Inv) (hu : u < 16) {q : UrgentReq} (hq : nextUrgent (s.auAt u).incoming = some q)
    (hend : ∀ c, (s.auAt u).act = some c → s.adcAt (adcEdge q.arrive) < c.ends) (hon : s.adcOn u = true) (hv : s.entryValid u q.entry = true) :
    exec (.urgentRequestEffect u) s = .next (
      let w := s.urgentTaken u q (s.adcAt (adcEdge q.arrive))
      match (s.auAt u).act with
      | none => w.startUrgent u q (s.adcAt (adcEdge q.arrive))
      | some c =>
        if c.slot.isNone then
          if (s.auAt u).wait.isNone then ((w.modAu u (fun a => { a with wait := some q })).inc (Reg.ADC_CNT_COLL u)).adcMirror u else w.urgentRefuse u q.asker
        else (w.inc (Reg.ADC_CNT_ABORT u)).startUrgent u q (s.adcAt (adcEdge q.arrive))) := by
  have hany : (s.auAt u).act.any (fun c => c.ends ≤ s.adcAt (adcEdge q.arrive)) = false := by
    cases hact : (s.auAt u).act with
    | none => rfl
    | some c => exact decide_eq_false (Nat.not_le.mpr (hend c hact))
  have hau := auAt_urgentTaken h hu q (s.adcAt (adcEdge q.arrive))
  rw [exec_urgentRequestEffect, execUrgentRequestEffect, hq]
  simp only [hany, Bool.false_eq_true, if_false, ofUnit, hu, decide_true, if_true]
  refine congrArg Host.Outcome.next ?_
  rw [urgentEffect_valid (w := s.urgentTaken u q (s.adcAt (adcEdge q.arrive))) rfl hon hv, hau]

/-! ## Calibration and the end of a unit's work -/

theorem startTest_effect (h : s.Inv) (hu : u < 16) : (s.startTest u).dtb = s.dtb ∧ ((s.startTest u).auAt u).calDue = (s.auAt u).calDue ∧
    (∀ a, a ≠ Reg.ADC_STATUS u → (s.startTest u).rd a = s.rd a) ∧
    ∀ f : Field, f.lo = 4 ∧ f.len ≤ 4 ∨ 12 ≤ f.lo → (s.startTest u).fld (Reg.ADC_STATUS u) f = s.fld (Reg.ADC_STATUS u) f := by
  unfold State.startTest State.startSampling
  split
  · exact ⟨rfl, rfl, fun _ _ => rfl, fun _ _ => rfl⟩
  · obtain ⟨-, hau, hrd, hfld⟩ := adcMirror_effect (modAu_inv (u := u) (f := fun a => { a with lastEntry := 0, act := some { entry := 0, src := .midScale, slot := none, by_ := none, sampling := true, tEnd := adcEdge s.dtb + 16 * adcCycle, tsUs := 0 } }) h) u
    refine ⟨(State.adcMirror_keeps (K := 2) rfl (Keeps.refl _ _)).dtb rfl, ?_, hrd, hfld⟩
    rw [auAt_congr hau, auAt_modAu_same h hu]

/-- The four offsets that a calibration writes (R109). -/
def State.setOffsets (s : State) (u : Nat) (m0 m1 m2 m3 : Int) : State :=
  (((s.setf (Reg.ADC_OFS u 0) Fld.ADC_OFS_ofs (ux 16 m0)).setf (Reg.ADC_OFS u 1) Fld.ADC_OFS_ofs (ux 16 m1)).setf
    (Reg.ADC_OFS u 2) Fld.ADC_OFS_ofs (ux 16 m2)).setf (Reg.ADC_OFS u 3) Fld.ADC_OFS_ofs (ux 16 m3)

theorem ux_sixteen_mod (m : Int) : ux 16 m % 2 ^ 16 = ux 16 m := Nat.mod_eq_of_lt (by unfold ux; omega)

theorem ofs_ne_ofs {i j : Nat} (hij : i ≠ j) : Reg.ADC_OFS u i ≠ Reg.ADC_OFS u j := by unfold Reg.ADC_OFS; omega

theorem setOffsets_effect (h : s.Inv) (m0 m1 m2 m3 : Int) : (s.setOffsets u m0 m1 m2 m3).Inv ∧
    (s.setOffsets u m0 m1 m2 m3).fld (Reg.ADC_OFS u 0) Fld.ADC_OFS_ofs = ux 16 m0 ∧
    (s.setOffsets u m0 m1 m2 m3).fld (Reg.ADC_OFS u 1) Fld.ADC_OFS_ofs = ux 16 m1 ∧
    (s.setOffsets u m0 m1 m2 m3).fld (Reg.ADC_OFS u 2) Fld.ADC_OFS_ofs = ux 16 m2 ∧
    (s.setOffsets u m0 m1 m2 m3).fld (Reg.ADC_OFS u 3) Fld.ADC_OFS_ofs = ux 16 m3 ∧
    ∀ f, (s.setOffsets u m0 m1 m2 m3).fld (Reg.ADC_STATUS u) f = s.fld (Reg.ADC_STATUS u) f := by
  have h0 := setf_inv (a := Reg.ADC_OFS u 0) (f := Fld.ADC_OFS_ofs) (v := ux 16 m0) h
  have h1 := setf_inv (a := Reg.ADC_OFS u 1) (f := Fld.ADC_OFS_ofs) (v := ux 16 m1) h0
  have h2 := setf_inv (a := Reg.ADC_OFS u 2) (f := Fld.ADC_OFS_ofs) (v := ux 16 m2) h1
  have hst : ∀ i, i < 4 → Reg.ADC_STATUS u ≠ Reg.ADC_OFS u i := fun i hi => by unfold Reg.ADC_OFS Reg.ADC_STATUS; omega
  refine ⟨setf_inv h2, ?_, ?_, ?_, ?_, fun f => ?_⟩ <;> unfold State.setOffsets
  · rw [fld_setf_other h2 (ofs_ne_ofs (by decide)), fld_setf_other h1 (ofs_ne_ofs (by decide)), fld_setf_other h0 (ofs_ne_ofs (by decide)),
      fld_setf_same h (by decide)]
    exact ux_sixteen_mod m0
  · rw [fld_setf_other h2 (ofs_ne_ofs (by decide)), fld_setf_other h1 (ofs_ne_ofs (by decide)), fld_setf_same h0 (by decide)]
    exact ux_sixteen_mod m1
  · rw [fld_setf_other h2 (ofs_ne_ofs (by decide)), fld_setf_same h1 (by decide)]
    exact ux_sixteen_mod m2
  · rw [fld_setf_same h2 (by decide)]
    exact ux_sixteen_mod m3
  · rw [fld_setf_other h2 (hst 3 (by decide)), fld_setf_other h1 (hst 2 (by decide)), fld_setf_other h0 (hst 1 (by decide)),
      fld_setf_other h (hst 0 (by decide))]

/-- The state at the end of a calibration, before the test of input 13 that a boot starts (R109, R110). -/
def State.calibrated (s : State) (u d : Nat) (m0 m1 m2 m3 : Int) : State :=
  (((s.reach d).modAu u (fun a => { a with calDue := none, bootTest := false })).setf (Reg.ADC_STATUS u) Fld.ADC_STATUS_cal_busy 0).setOffsets u m0 m1 m2 m3

theorem calibrated_effect (h : s.Inv) (hu : u < 16) (d : Nat) (m0 m1 m2 m3 : Int) : (s.calibrated u d m0 m1 m2 m3).Inv ∧
    (s.calibrated u d m0 m1 m2 m3).dtb = max s.dtb d ∧ ((s.calibrated u d m0 m1 m2 m3).auAt u).calDue = none ∧
    (s.calibrated u d m0 m1 m2 m3).fld (Reg.ADC_STATUS u) Fld.ADC_STATUS_cal_busy = 0 := by
  have hr := reach_inv (t := d) h
  have hm := modAu_inv (u := u) (f := fun a => { a with calDue := none, bootTest := false }) hr
  obtain ⟨hinv, -, -, -, -, hfld⟩ := setOffsets_effect (u := u) (setf_inv (a := Reg.ADC_STATUS u) (f := Fld.ADC_STATUS_cal_busy) (v := 0) hm) m0 m1 m2 m3
  unfold State.calibrated
  refine ⟨hinv, ?_, ?_, (hfld _).trans (fld_setf_same hm (by decide))⟩
  · unfold State.setOffsets
    simp only [State.setf_dtb]
    rfl
  · unfold State.setOffsets
    simp only [State.setf_auAt]
    rw [auAt_modAu_same hr hu]

/-- A calibration ends with one offset for each gain (R109). -/
theorem calDone_effect (h : s.Inv) (hu : u < 16) {d : Nat} (m0 m1 m2 m3 : Int) (t : State)
    (ht : t = if (s.auAt u).bootTest then (s.calibrated u d m0 m1 m2 m3).startTest u else s.calibrated u d m0 m1 m2 m3) :
    t.dtb = max s.dtb d ∧ t.fld (Reg.ADC_STATUS u) Fld.ADC_STATUS_cal_busy = 0 ∧ (t.auAt u).calDue = none ∧
      t.fld (Reg.ADC_OFS u 0) Fld.ADC_OFS_ofs = ux 16 m0 ∧ t.fld (Reg.ADC_OFS u 1) Fld.ADC_OFS_ofs = ux 16 m1 ∧
      t.fld (Reg.ADC_OFS u 2) Fld.ADC_OFS_ofs = ux 16 m2 ∧ t.fld (Reg.ADC_OFS u 3) Fld.ADC_OFS_ofs = ux 16 m3 := by
  obtain ⟨hc, hdtb, hcal, hbusy⟩ := calibrated_effect h hu d m0 m1 m2 m3
  obtain ⟨-, h0, h1, h2, h3, -⟩ := setOffsets_effect (u := u) (setf_inv (a := Reg.ADC_STATUS u) (f := Fld.ADC_STATUS_cal_busy) (v := 0)
    (modAu_inv (u := u) (f := fun a => { a with calDue := none, bootTest := false }) (reach_inv (t := d) h))) m0 m1 m2 m3
  subst ht
  split
  · obtain ⟨hdtb', hcal', hrd, hfld⟩ := startTest_effect hc hu
    have hofs : ∀ i, i < 4 → Reg.ADC_OFS u i ≠ Reg.ADC_STATUS u := fun i hi => by unfold Reg.ADC_OFS Reg.ADC_STATUS; omega
    exact ⟨hdtb'.trans hdtb, (hfld _ (.inr (by decide))).trans hbusy, hcal'.trans hcal, (fld_of_rd (hrd _ (hofs 0 (by decide))) _).trans h0,
      (fld_of_rd (hrd _ (hofs 1 (by decide))) _).trans h1, (fld_of_rd (hrd _ (hofs 2 (by decide))) _).trans h2,
      (fld_of_rd (hrd _ (hofs 3 (by decide))) _).trans h3⟩
  · exact ⟨hdtb, hbusy, hcal, h0, h1, h2, h3⟩

/-- A unit that stops has no conversion, no wait, no run, no delay and no slot pending (R108). -/
theorem adcStop_effect (h : s.Inv) (hu : u < 16) : (s.adcStop u).fld (Reg.ADC_STATUS u) Fld.ADC_STATUS_pend = 0 ∧
    (s.adcStop u).fld (Reg.ADC_CTRL u) Fld.ADC_CTRL_en = s.fld (Reg.ADC_CTRL u) Fld.ADC_CTRL_en ∧
    (s.adcStop u).auAt u = { s.auAt u with
      act := none, wait := none, incoming := (s.auAt u).incoming.filter (fun r => s.dtb < r.arrive), delay := List.replicate 4 none
      running := none, collided := List.replicate 4 false } := by
  unfold State.adcStop
  have hm := modAu_inv (s := s) (u := u) (f := fun a => { a with act := none, wait := none, incoming := a.incoming.filter (fun r => s.dtb < r.arrive), delay := List.replicate 4 none, running := none, collided := List.replicate 4 false }) h
  obtain ⟨-, hau, hrd, hfld⟩ := adcMirror_effect (setf_inv (a := Reg.ADC_STATUS u) (f := Fld.ADC_STATUS_pend) (v := 0) hm) u
  have hne : Reg.ADC_CTRL u ≠ Reg.ADC_STATUS u := by unfold Reg.ADC_CTRL Reg.ADC_STATUS; omega
  refine ⟨?_, ?_, ?_⟩
  · rw [hfld _ (.inl (by decide)), fld_setf_same hm (by decide)]
    rfl
  · rw [fld_of_rd (hrd _ hne), fld_setf_other hm hne, fld_modAu]
  · rw [auAt_congr hau, State.setf_auAt, auAt_modAu_same h hu]

/-- Settles O11. -/
theorem adcCommands : Obligations.AdcCommands := by
  intro s u h hu
  have hu' : decide (u < 16) = true := decide_eq_true hu
  refine ⟨?_, ?_, ?_, ?_, ?_, ?_, ?_, ?_, ?_, ?_, ?_, ?_⟩
  · intro i d hi hd ha hr hw hin
    exact runs_adcTriggerDelayEnd h hu hi hd ha hr hw hin
  · intro i k e hi he ha hr hw hin hp hle hlow hk
    exact runs_next (exec_adcSlotStart_lowest hu hi he ha hr hw hin hp hle hlow) (startSlot_effect h hu hi hk)
  · intro c ha hc
    refine runs_ofUnit (exec_adcSamplingEnd s) hu' ?_
    rw [ha]
    dsimp only
    rw [if_pos hc]
    exact ⟨rfl, by rw [auAt_modAu_same (reach_inv h) hu]; rfl⟩
  · intro code beyond c q hcode ha hc henc hslot hby hsrc
    have hm : ((s.reach (ceilHalf c.tEnd)).modAu u (fun a => { a with act := none })).Inv := modAu_inv (reach_inv h)
    have hcont := State.adcContinue_keeps (K := 1026) (u := u) (e := c.tEnd) rfl
      (Keeps.refl _ (((s.reach (ceilHalf c.tEnd)).modAu u (fun a => { a with act := none })).entryEnd u c code beyond))
    refine runs_next (t := (((s.reach (ceilHalf c.tEnd)).modAu u (fun a => { a with act := none })).entryEnd u c code beyond).adcContinue u c.tEnd) ?_ ⟨?_, ?_⟩
    · rw [exec_adcConversionEnd, execAdcConversionEnd, ha]
      simp only [ofUnit, hu, hcode, decide_true, Bool.and_self, if_true, hc, Bool.false_eq_true, if_false, hby, Option.isNone_some, Bool.and_false]
    · exact (hcont.dtb rfl).trans ((State.entryEnd_keeps (K := 1050114) rfl (Keeps.refl _ _)).dtb rfl)
    · rw [hcont.paddock rfl, entryEnd_waiting hm henc hslot hsrc hby]
      rfl
  · intro core k hc hk hd hr
    refine runs_ofUnit (exec_adcUrgWrite s) (by simp [hc, hu, hk]) ?_
    rw [byCore_of_on hd hr]
    refine ⟨(s.drawWord).1.toNat, ?_⟩
    have hdraw : (s.drawWord).2.Inv := { h with }
    unfold State.urgentIssue
    dsimp only
    rw [auAt_modAu_same hdraw hu]
    have hteam : 13 + teamOf core = if core < 3 then 13 else 14 := by
      unfold teamOf
      interval_cases core <;> rfl
    rw [hteam]
    rfl
  · intro q hq ha hon hv
    have hcase := exec_urgentRequestEffect_valid h hu hq (fun c hc => by rw [ha] at hc; exact absurd hc (by simp)) hon hv
    rw [ha] at hcase
    obtain ⟨hact, hinc, -⟩ := startUrgent_effect (urgentTaken_inv (u := u) (q := q) (e := s.adcAt (adcEdge q.arrive)) h) hu q (s.adcAt (adcEdge q.arrive))
    refine runs_next hcase ⟨?_, hact⟩
    rw [hinc, auAt_urgentTaken h hu]
  · intro q c hq ha hlt hon hv
    have hcase := exec_urgentRequestEffect_valid h hu hq (fun c' hc' => by rw [ha] at hc'; cases hc'; exact hlt) hon hv
    rw [ha] at hcase
    have hw := urgentTaken_inv (u := u) (q := q) (e := s.adcAt (adcEdge q.arrive)) h
    have hau := auAt_urgentTaken h hu q (s.adcAt (adcEdge q.arrive))
    have hrdw := rd_urgentTaken (s := s) (u := u) q (s.adcAt (adcEdge q.arrive))
    have hsense := senseOf_urgentTaken (s := s) (u := u) q (s.adcAt (adcEdge q.arrive)) q.entry
    refine runs_next hcase ?_
    generalize s.urgentTaken u q (s.adcAt (adcEdge q.arrive)) = w at hw hau hrdw hsense ⊢
    refine ⟨fun hs => ?_, fun hs hwt => ?_, fun hs hwt => ?_⟩
    · obtain ⟨hact, -, hrd⟩ := startUrgent_effect (inc_inv (a := Reg.ADC_CNT_ABORT u) hw) hu q (s.adcAt (adcEdge q.arrive))
      have hslot : c.slot.isNone = false := by rw [Option.isNone_eq_false_iff, Option.isSome_iff_ne_none]; exact hs
      have hcfg : (w.inc (Reg.ADC_CNT_ABORT u)).fld (Reg.ADC_ECFG u q.entry) Fld.ADC_ECFG_smp = s.fld (Reg.ADC_ECFG u q.entry) Fld.ADC_ECFG_smp :=
        (fld_inc_other hw (by unfold Reg.ADC_ECFG Reg.ADC_CNT_ABORT; omega)).trans (fld_of_rd (hrdw _) _)
      have hsense' : (w.inc (Reg.ADC_CNT_ABORT u)).senseOf u q.entry = s.senseOf u q.entry :=
        (senseOf_congr (fun k => rd_inc_other hw (by unfold Reg.ADC_ECFG Reg.ADC_CNT_ABORT; omega))
          (rd_inc_other hw (by unfold Reg.ADC_CSL Reg.ADC_CNT_ABORT; omega)) _).trans hsense
      dsimp only
      rw [hslot, if_neg (by decide), hact, hcfg, hsense', hrd _ (by unfold Reg.ADC_CNT_ABORT Reg.ADC_STATUS; omega)
        (by unfold Reg.ADC_CNT_ABORT Reg.ADC_CNT_COLL; omega), rd_inc_same hw, hrdw]
      exact ⟨rfl, rfl⟩
    · dsimp only
      simp only [hs, hwt, Option.isNone_none, if_true]
      obtain ⟨-, hmau, -⟩ := adcMirror_effect (inc_inv (a := Reg.ADC_CNT_COLL u) (modAu_inv (u := u) (f := fun a => { a with wait := some q }) hw)) u
      rw [auAt_congr hmau, State.inc_auAt, auAt_modAu_same hw hu, hau]
      exact ⟨ha, rfl⟩
    · have hwait : (s.auAt u).wait.isNone = false := by rw [Option.isNone_eq_false_iff, Option.isSome_iff_ne_none]; exact hwt
      have hans := State.urgentAnswer_keeps (K := 8192) (q := q.asker) (ok := false) rfl (Keeps.refl _ (w.inc (Reg.ADC_CNT_UREF u)))
      dsimp only
      simp only [hs, hwait, Option.isNone_none, Bool.false_eq_true, if_true, if_false]
      unfold State.urgentRefuse
      rw [auAt_congr (hans.au rfl), State.inc_auAt, hau, rd_congr (hans.regs rfl), rd_inc_same hw, hrdw]
      exact ⟨ha, rfl, rfl⟩
  · intro core slots i hc hs hi hd hen hr har hb hk hbusy hl
    refine runs_ofUnit (exec_adcSwtrgWrite s) (by simp [hc, hu, hs]) ?_
    rw [byCore_of_on hd hr]
    exact swtrg_effect h hu hi (by unfold State.adcOn; rw [hen, hd]; rfl) har hb hk hbusy hl
  · intro core hc hd hr hen hcal
    refine runs_ofUnit (exec_adcCalStart s) (by simp [hc, hu]) ?_
    rw [byCore_of_on hd hr, hen, hcal, if_neg (by decide)]
    unfold State.startCal
    rw [fld_modAu, fld_setf_same h (by decide), auAt_modAu_same (setf_inv h) hu]
    exact ⟨rfl, rfl⟩
  · intro d m0 m1 m2 m3 hd
    refine runs_ofUnit (exec_adcCalDone s) hu' ?_
    rw [hd]
    exact calDone_effect h hu m0 m1 m2 m3 _ rfl
  · intro core hc hd hr hen
    refine runs_ofUnit (exec_adcDisable s) (by simp [hc, hu]) ?_
    rw [byCore_of_on hd hr, if_pos hen]
    obtain ⟨hpend, hctrl, hau⟩ := adcStop_effect (setf_inv (a := Reg.ADC_CTRL u) (f := Fld.ADC_CTRL_en) (v := 0) h) hu
    rw [hau, hpend, State.setf_auAt, State.setf_dtb, hctrl]
    exact ⟨fld_setf_same h (by decide), rfl, rfl, rfl, rfl, rfl, rfl⟩
  · intro n d hn hd
    refine runs_ofUnit (exec_triggerTimerFire s) (decide_eq_true hn) ?_
    rw [hd]
    dsimp only
    have hlen : (s.reach d).tt.length = 8 := (reach_inv h).tt
    have hfld : (s.reach d).fld (Reg.TT_PER n) Fld.TT_PER_per = s.fld (Reg.TT_PER n) Fld.TT_PER_per := rfl
    generalize hv : ({ s.reach d with tt := _ } : State) = v
    have hk := State.lawSource_keeps (K := 9346) (kind := 3) (idx := n) rfl (State.adcEvent_keeps (kind := 4) (idx := n) rfl
      (State.frames_keeps (kind := 2) (idx := n) rfl (Keeps.refl _ v)))
    rw [hk.dtb rfl, hk.tt rfl, ← hv]
    refine ⟨rfl, ?_⟩
    rw [← hfld, List.getD_eq_getElem?_getD, List.getElem?_set_self (hlen ▸ hn), Option.getD_some]

end Sys2Proof.Machine
end

section
/-! PROOFS. Core accesses to the register map and to main SRAM (R17, R34, R51-R54). -/

namespace Sys2Proof.Machine

set_option Elab.async false

variable {s : State}

/-! ## Bytes of main SRAM -/

theorem sramSet_inv (h : s.Inv) {a : Nat} {v : Byte} : (s.sramSet a v).Inv := (State.sramSet_keeps (K := 16) rfl (Keeps.refl _ s)).inv h

/-- A write of bytes leaves every byte that lies at none of its addresses. -/
theorem sramGet_sramWrite_other (h : s.Inv) {at_ : Nat → Nat} {k x : Nat} (bs : List Byte) (hx : ∀ j, k ≤ j → j < k + bs.length → at_ j ≠ x) :
    (s.sramWrite at_ k bs).sramGet x = s.sramGet x := by
  induction bs generalizing s k with
  | nil => rfl
  | cons b bs ih =>
    rw [List.length_cons] at hx
    unfold State.sramWrite
    rw [ih (sramSet_inv h) (fun j hk hj => hx j (by omega) (by omega)), sramGet_sramSet_other h (Ne.symm (hx k (Nat.le_refl k) (by omega)))]

/-- A write of bytes at distinct addresses stores each at its address. -/
theorem sramGet_sramWrite (h : s.Inv) {at_ : Nat → Nat} (hinj : ∀ i j, at_ i = at_ j → i = j) {k i : Nat} (bs : List Byte) (hi : i < bs.length) :
    (s.sramWrite at_ k bs).sramGet (at_ (k + i)) = bs.getD i 0 := by
  induction bs generalizing s k i with
  | nil => exact absurd hi (Nat.not_lt_zero _)
  | cons b bs ih =>
    unfold State.sramWrite
    match i with
    | 0 =>
      rw [sramGet_sramWrite_other (sramSet_inv h) bs (fun j hj _ he => by have := hinj _ _ he; omega)]
      exact sramGet_sramSet_same h
    | i + 1 =>
      rw [show k + (i + 1) = k + 1 + i by omega, ih (s := s.sramSet (at_ k) b) (sramSet_inv h) (by simpa using hi)]
      rfl

theorem leBytes_getD (n v i : Nat) (hi : i < n) : (leBytes n v).getD i 0 = BitVec.ofNat 8 (v / 256 ^ i) := by
  induction n generalizing v i with
  | zero => exact absurd hi (Nat.not_lt_zero _)
  | succ n ih =>
    match i with
    | 0 => simp [leBytes]
    | i + 1 =>
      rw [leBytes, List.getD_cons_succ, ih _ _ (by omega), Nat.div_div_eq_div_mul, Nat.pow_succ, Nat.mul_comm 256]

theorem length_leBytes (n v : Nat) : (leBytes n v).length = n := by
  induction n generalizing v with
  | zero => rfl
  | succ n ih => simp [leBytes, ih]

theorem sramStore_regs (a : Nat) (v : Word) : (s.sramStore a v).regs = s.regs := (State.sramWrite_keeps (K := 16) rfl (Keeps.refl _ s)).regs rfl

/-! ## What a core's access returns -/

theorem coreAt_returns (h : s.Inv) {c : Nat} (hc : c < 6) (v : Word) : ((s.returns c v).coreAt c).read = BitVec.ofNat 64 v.toNat := by
  unfold State.returns
  rw [coreAt_modCore_same h hc]

theorem inSram_range {a : Nat} (h : inSram a = true) : 0x10000000 ≤ a ∧ a + 4 ≤ 0x10800000 := by simpa [inSram] using h

theorem blockMapped_range {a : Nat} (h : blockMapped a = true) : 0x70000000 ≤ a := by
  simp only [blockMapped, Bool.or_eq_true, Bool.and_eq_true, decide_eq_true_eq] at h
  omega

theorem blockMapped_of_reachable {a : Nat} (h : s.reachable a = true) : blockMapped a = true := by
  simp only [State.reachable, Bool.and_eq_true] at h
  exact h.1.1

/-- An access to an address outside the Paddock's ranges. -/
theorem not_paddock {a : Nat} (h : a < 0x20000000 ∨ 0x21000000 ≤ a) : (decide (0x20000000 ≤ a) && decide (a < 0x21000000)) = false := by
  rw [Bool.and_eq_false_iff, decide_eq_false_iff_not, decide_eq_false_iff_not]
  omega

/-- A load of a word of a block's register. -/
theorem exec_wordLoad {core a : Nat} (hc : core < 6) (hm : blockMapped a = true) (hok : s.reachable a = true) (hr : s.cpuRatioOk = true) :
    exec (.rcCounterRead core (a, 4)) s = .next (s.registerRead core a) := by
  have := blockMapped_range hm
  rw [exec_rcCounterRead, execRcCounterRead, ofUnit, if_pos (by simp [hc])]
  unfold State.coreLoad
  rw [not_paddock (.inr (by omega)), if_neg (by decide), if_pos hm, access_of hok hr, if_pos rfl]

/-- A read of a register without a meaning of its own (R17). -/
theorem registerRead_plain {core a : Nat} (h1 : a ≠ Reg.DTB_LO) (h2 : a ≠ Reg.BRD_FWQ_A) (h3 : a ≠ Reg.BRD_FWQ_S)
    (h4 : a ≠ Reg.IRQ_CLAIM (a / 0x10000 - 0x7005) (core % 3)) (h5 : a ≠ Reg.KPR_WOUT) :
    s.registerRead core a = (s.plainRead core a).2.returns core (s.plainRead core a).1 := by
  unfold State.registerRead
  rw [if_neg h1, if_neg (by simp [h2, h3]), if_neg h4, if_neg h5]

theorem modCore_regs (c : Nat) (f : CorePort → CorePort) : (s.modCore c f).regs = s.regs := rfl

/-- Every byte of a word of main SRAM, at its place. -/
theorem memoryByte_sram {a : Nat} (h1 : 0x10000000 ≤ a) (h2 : a < 0x10800000) : s.memoryByte a = some (0, s.sramGet (a % 0x10000000)) := by
  unfold State.memoryByte
  rw [if_neg (by omega), if_pos (by simp [h1, h2])]

/-- The word at an address of main SRAM, its lowest byte first. -/
theorem memoryLoad_sram {a : Nat} (h : inSram a = true) :
    s.memoryLoad a 4 = BitVec.ofNat 64 ((s.sramGet (a % 0x10000000)).toNat + (s.sramGet (a % 0x10000000 + 1)).toNat * 256 +
        (s.sramGet (a % 0x10000000 + 2)).toNat * 256 ^ 2 + (s.sramGet (a % 0x10000000 + 3)).toNat * 256 ^ 3) := by
  obtain ⟨h1, h2⟩ := inSram_range h
  have hbyte : ∀ k, k < 4 → s.memoryByte (a + k) = some (0, s.sramGet (a % 0x10000000 + k)) := fun k hk => by
    rw [memoryByte_sram (by omega) (by omega), show (a + k) % 0x10000000 = a % 0x10000000 + k by omega]
  unfold State.memoryLoad
  simp only [List.range_succ, List.range_zero, List.nil_append, List.cons_append, List.map_cons, List.map_nil, memoryByte_sram h1 (by omega : a < 0x10800000), hbyte 1 (by decide),
    hbyte 2 (by decide), hbyte 3 (by decide), Option.map_some, Option.getD_some, leNat, Nat.add_zero]
  congr 1
  ring

theorem memoryAnswers_sram {a : Nat} (h : inSram a = true) (hd : s.domainOn 0 = true) : s.memoryAnswers a 4 = true := by
  obtain ⟨h1, h2⟩ := inSram_range h
  unfold State.memoryAnswers
  rw [List.all_eq_true]
  intro k hk
  rw [memoryByte_sram (by omega) (by have := List.mem_range.mp hk; omega)]
  exact hd

theorem not_blockMapped_sram {a : Nat} (h : inSram a = true) : blockMapped a = false := by
  rw [Bool.eq_false_iff]
  intro hm
  have := blockMapped_range hm
  have := inSram_range h
  omega

/-- A write to a register of the reset block or of the keeper without a row of its own. -/
theorem blockWrite_plain {core a : Nat} {v : Word}
    (h : (a / 0x10000 = 0x7002 ∧ a ≠ Reg.RST_SWR) ∨ (a / 0x10000 = 0x7080 ∧ a ≠ Reg.KPR_SHIP ∧ a ≠ Reg.KPR_WOUT)) :
    s.blockWrite core a v = s.wrReg a v := by
  unfold State.blockWrite
  obtain ⟨hw, ha⟩ | ⟨hw, ha, hb⟩ := h
  · simp [hw, ha]
  · simp [hw, State.kprWrite, ha, hb]

theorem dtbRead_core (h : s.Inv) {core : Nat} (hc : core < 6) :
    ((s.dtbRead core).coreAt core).read = BitVec.ofNat 64 (s.dtb % 2 ^ 32) ∧ ((s.dtbRead core).coreAt core).dtbHi = W (s.dtb / 2 ^ 32 % 2 ^ 32) := by
  have hi : (s.returns core s.dtbLow).Inv := (State.modCore_keeps (K := 256) rfl (Keeps.refl _ s)).inv h
  unfold State.dtbRead
  rw [coreAt_modCore_same hi hc]
  refine ⟨(coreAt_returns h hc _).trans ?_, rfl⟩
  unfold State.dtbLow W
  rw [BitVec.toNat_ofNat, Nat.mod_mod]

/-- Settles O9: each access by the way its address takes. -/
theorem registerAccess : Obligations.RegisterAccess := by
  intro s h hr
  refine ⟨?_, ?_, ?_, ?_, ?_, ?_, ?_, ?_⟩
  · intro core a v hc ha hd
    have hrun : exec (.registerWrite core a v) s = .next (s.sramStore a v) := by
      rw [exec_registerWrite, execRegisterWrite, ofUnit, if_pos (decide_eq_true hc), if_pos ha, byCore_of_on hd hr]
    refine runs_next hrun ⟨fun k hk => ?_, fun x hx => ?_, sramStore_regs a v⟩
    · have := sramGet_sramWrite h (at_ := fun k => a % 0x10000000 + k) (fun i j hij => by simpa using hij) (k := 0) (leBytes 4 v.toNat) (i := k)
        (by rw [length_leBytes]; exact hk)
      rw [Nat.zero_add, leBytes_getD _ _ _ hk] at this
      exact this
    · refine sramGet_sramWrite_other h _ (fun j _ hj => ?_)
      rw [length_leBytes] at hj
      omega
  · intro core a v r k hc ha hok hrow hblock
    have hrun : exec (.registerWrite core a v) s = .next (s.wr a (writeWord r s.locked (s.rd a) v)) := by
      rw [exec_registerWrite, execRegisterWrite, ofUnit, if_pos (decide_eq_true hc), ha, if_neg (by decide),
        not_paddock (.inr (by have := blockMapped_range (blockMapped_of_reachable hok); omega)), if_neg (by decide), access_of hok hr,
        if_neg (by omega), blockWrite_plain hblock, State.wrReg, hrow]
    exact runs_next hrun ⟨rd_wr_same h, fun b hb => rd_wr_other h hb, rfl⟩
  · intro core a v hc ha hpad hok
    rw [exec_registerWrite, execRegisterWrite, ofUnit, if_pos (decide_eq_true hc), ha, if_neg (by decide), not_paddock hpad, if_neg (by decide),
      State.access, hok, if_neg (by decide)]
  · intro core a r k hc hm hok hrow h1 h2 h3 h4 h5
    refine runs_next ((exec_wordLoad hc hm hok hr).trans (congrArg _ (registerRead_plain h1 h2 h3 h4 h5))) ?_
    unfold State.plainRead
    rw [hrow]
    dsimp only
    by_cases hrc : r.rc = 0
    · rw [if_pos hrc, hrc]
      refine ⟨coreAt_returns h hc _, ?_, fun b _ => rfl⟩
      exact (rd_congr (modCore_regs _ _) _).trans (BitVec.and_allOnes).symm
    · rw [if_neg hrc]
      exact ⟨coreAt_returns (wr_inv h) hc _, (rd_congr (modCore_regs _ _) _).trans (rd_wr_same h),
        fun b hb => (rd_congr (modCore_regs _ _) _).trans (rd_wr_other h hb)⟩
  · intro core a hc hm hok hrow h1 h2 h3 h4 h5
    rw [exec_wordLoad hc hm hok hr, registerRead_plain h1 h2 h3 h4 h5]
    unfold State.plainRead
    rw [hrow]
  · intro core a hc ha hd
    have hrun : exec (.rcCounterRead core (a, 4)) s = .next (s.modCore core (fun c => { c with read := s.memoryLoad a 4 })) := by
      have := inSram_range ha
      rw [exec_rcCounterRead, execRcCounterRead, ofUnit, if_pos (by simp [hc])]
      unfold State.coreLoad
      rw [not_paddock (.inl (by omega)), if_neg (by decide), not_blockMapped_sram ha, if_neg (by decide),
        access_of (memoryAnswers_sram ha hd) hr]
    refine runs_next hrun ⟨?_, fun c hcc => coreAt_modCore_other hcc, rfl, rfl⟩
    rw [coreAt_modCore_same h hc]
    exact memoryLoad_sram ha
  · intro core a hc hpad hm hmem
    rw [exec_rcCounterRead, execRcCounterRead, ofUnit, if_pos (by simp [hc])]
    unfold State.coreLoad
    rw [not_paddock hpad, if_neg (by decide)]
    cases hb : blockMapped a with
    | true => rw [if_pos rfl, State.access, hm hb, if_neg (by decide)]
    | false => rw [if_neg (by decide), State.access, hmem hb, if_neg (by decide)]
  · intro core hc hd
    refine runs_ofUnit (exec_dtbLoRead s) (decide_eq_true hc) ?_
    rw [byCore_of_on hd hr]
    obtain ⟨hlo, hhi⟩ := dtbRead_core h hc
    exact ⟨hlo, hhi, fun c hcc => (coreAt_modCore_other hcc).trans (coreAt_modCore_other hcc), rfl, rfl⟩

end Sys2Proof.Machine
end

section
/-! PROOFS. Core accesses to the Paddock and the accesses that its banks perform (R57-R78, R601, R602). -/

namespace Sys2Proof.Machine

set_option Elab.async false

variable {s : State}

/-! ## Requests to a bank -/

/-- A core's access to the Paddock that is aligned, where PD6 is ON. -/
theorem coreAccess_aligned {core a size : Nat} {st : Option DWord} (hd : s.domainOn 6 = true) (hr : s.cpuRatioOk = true) (ha : accessAligned a size = true) :
    s.coreAccess core a size st = match st with
      | none => s.coreAsk a (.coreRead core a size)
      | some v => if a < 0x20800000 then s.coreAsk a (.coreWrite core a size v)
        else if size = 8 then s.coreAsk a (.descWrite core v) else s.accessFault core := by
  unfold State.coreAccess
  rw [access_of (by rw [hd, ha]; rfl) hr] <;> cases st <;> rfl

theorem coreAccess_unaligned {core a size : Nat} {st : Option DWord} (ha : accessAligned a size = false) :
    s.coreAccess core a size st = s.accessFault core := by
  unfold State.coreAccess State.access
  rw [ha, Bool.and_false]
  rfl

/-- What a core asks of a bank waits there, and changes nothing else that it can see (R75, R77). -/
theorem coreAsk_effect {a : Nat} {k : Access} (hk : k.rank.1 = 4) : (s.coreAsk a k).regs = s.regs ∧ (s.coreAsk a k).sigs = s.sigs ∧
    (s.coreAsk a k).descs = s.descs ∧ (s.coreAsk a k).cores = s.cores ∧
    ∃ n, (s.coreAsk a k).paddock.waiting = s.paddock.waiting ++ [{ sig := paddockId a, req := s.dtb + 6 + n, kind := k }] := by
  unfold State.coreAsk State.bankAsk
  dsimp only
  rw [if_pos (by simp [hk])]
  exact ⟨rfl, rfl, rfl, rfl, _, rfl⟩

/-! ## The access that wins a cycle -/

/-- The engine that the bank served last, after access `a` (R76). -/
def lastServed (b : Nat) (a : PendAccess) (l : List Nat) : List Nat :=
  match a.kind.rank with
  | (2, e) => l.set b e
  | _ => l

/-- The state in which bank `b` performs access `a` of cycle `c`. -/
def State.served (s : State) (b c : Nat) (a : PendAccess) : State :=
  (s.reach c).modPaddock (fun p => { p with
    waiting := p.waiting.erase a, free := p.free.set b (c + 1), lastEngine := lastServed b a p.lastEngine })

theorem served_inv (h : s.Inv) {b c : Nat} {a : PendAccess} : (s.served b c a).Inv := { reach_inv (t := c) h with }

theorem exec_bankAccess {b c : Nat} {a : PendAccess} (hb : b < 8) (hd : s.domainOn 6 = true) (ht : s.bankTurn b = some (c, a)) :
    exec (.paddockBankAccess b) s = .next ((s.served b c a).bankPerform a) := by
  rw [exec_paddockBankAccess, execPaddockBankAccess, ofUnit, if_pos (decide_eq_true hb), hd, if_neg (by decide), ht]
  rfl

/-! ## Writes that a bank performs -/

/-- A write to a signal that the charge supervisor does not take reaches registers, Martingale and the gate drives at the most. -/
theorem watchWrite_keeps_unsupervised {id : Nat} {v : Word} (hid : id ≠ s.fld Reg.CHS_ISIG Fld.CHS_ISIG_sig) : Keeps 1572866 s (s.watchWrite id v) := by
  have hcur : s.chsCurrent id (sx 16 v.toNat) = s := by
    unfold State.chsCurrent
    rw [if_pos (by simp [hid])]
  unfold State.watchWrite
  rw [hcur]
  split
  · exact State.serviceForcing_keeps rfl (Keeps.refl _ s)
  split
  · exact State.takeNss_keeps rfl (Keeps.refl _ s)
  split
  · exact State.takeNss_keeps rfl (Keeps.refl _ s)
  split
  · exact Keeps.set_gate (K := 1572866) rfl (Keeps.refl _ s) (fun hl => hl)
  split
  · exact Keeps.set_gate (K := 1572866) rfl (Keeps.refl _ s) (fun hl => hl)
  · exact Keeps.refl _ s

theorem sig_putSig_same (h : s.Inv) {id : Nat} {x : Sig} : (s.putSig id x).sig id = x := sig_setSig_same h
theorem sig_putSig_other (h : s.Inv) {id j : Nat} {x : Sig} (hj : j ≠ id) : (s.putSig id x).sig j = s.sig j := sig_setSig_other h hj

/-- A performed write replaces both words of its signal and no other signal (R57). -/
theorem pathWrite_effect (h : s.Inv) {id ts q : Nat} {v : Word} {ovr lost subst : Bool} (hid : id ≠ s.fld Reg.CHS_ISIG Fld.CHS_ISIG_sig) :
    (s.pathWrite id v ts q ovr lost subst).sig id = { value := typedValue (s.desc id) v, mword := mkMeta ts q ovr lost subst } ∧
    (∀ j, j ≠ id → (s.pathWrite id v ts q ovr lost subst).sig j = s.sig j) ∧
    (s.pathWrite id v ts q ovr lost subst).dtb = s.dtb ∧ (s.pathWrite id v ts q ovr lost subst).descs = s.descs ∧
    (s.pathWrite id v ts q ovr lost subst).sram = s.sram ∧
    (s.pathWrite id v ts q ovr lost subst).paddock.waiting = s.paddock.waiting ∧
    (s.pathWrite id v ts q ovr lost subst).paddock.free = s.paddock.free := by
  unfold State.pathWrite
  dsimp only
  have hput : ∀ x : Sig, (s.putSig id x).sig id = x ∧ (∀ j, j ≠ id → (s.putSig id x).sig j = s.sig j) := fun x =>
    ⟨sig_putSig_same h, fun j hj => sig_putSig_other h hj⟩
  have hrest : ∀ x : Sig, (s.putSig id x).regs = s.regs ∧ (s.putSig id x).dtb = s.dtb ∧ (s.putSig id x).descs = s.descs ∧
      (s.putSig id x).sram = s.sram ∧ (s.putSig id x).paddock.waiting = s.paddock.waiting ∧ (s.putSig id x).paddock.free = s.paddock.free := fun x =>
    ⟨rfl, rfl, rfl, rfl, rfl, rfl⟩
  obtain ⟨hsame, hother⟩ := hput { value := typedValue (s.desc id) v, mword := mkMeta ts q ovr lost subst }
  obtain ⟨hregs, hdtb, hdescs, hsram, hwait, hfree⟩ := hrest { value := typedValue (s.desc id) v, mword := mkMeta ts q ovr lost subst }
  generalize s.putSig id _ = u at *
  have hl := State.latchWrite_keeps (K := 532480) (id := id) (v := typedValue (s.desc id) v) (quality := q) (ovr := ovr) rfl (Keeps.refl _ u)
  generalize u.latchWrite id _ q ovr = w at hl ⊢
  have hw := watchWrite_keeps_unsupervised (s := w) (id := id) (v := typedValue (s.desc id) v) (by rw [fld_congr ((hl.regs rfl).trans hregs)]; exact hid)
  have hsig : ∀ j, (w.watchWrite id (typedValue (s.desc id) v)).sig j = u.sig j := fun j => by
    unfold State.sig; rw [hw.sigs rfl, hl.sigs rfl]
  refine ⟨(hsig id).trans hsame, fun j hj => (hsig j).trans (hother j hj), ?_, ?_, ?_, ?_, ?_⟩
  · rw [hw.dtb rfl, hl.dtb rfl, hdtb]
  · rw [hw.descs rfl, hl.descs rfl, hdescs]
  · rw [hw.sram rfl, hl.sram rfl, hsram]
  · rw [hw.paddock rfl, hl.paddock rfl, hwait]
  · rw [hw.paddock rfl, hl.paddock rfl, hfree]

/-- A write that its owner does not own is dropped and counted (R601). -/
theorem paddockDrop_effect (h : s.Inv) (id : Nat) : (s.paddockDrop id).sigs = s.sigs ∧ (s.paddockDrop id).rd Reg.PDK_DROP_ID = W id ∧
    (s.paddockDrop id).rd Reg.PDK_DROP_CNT = W (min ((s.rd Reg.PDK_DROP_CNT).toNat + 1) 0xFFFFFFFF) := by
  unfold State.paddockDrop
  exact ⟨rfl, rd_wr_same (inc_inv h), (rd_wr_other (inc_inv h) (by decide)).trans (rd_inc_same h)⟩

/-- A refused store changes no signal, is counted and recorded, and its core faults (R69). -/
theorem paddockRefuse_effect (h : s.Inv) {core : Nat} (hc : core < 6) (id : Nat) : (s.paddockRefuse core id).sigs = s.sigs ∧
    (s.paddockRefuse core id).rd Reg.PDK_REFUSE_ID = W id ∧ (s.paddockRefuse core id).rd Reg.PDK_REFUSE_SRC = W core ∧
    (s.paddockRefuse core id).rd Reg.PDK_REFUSE_CNT = W (min ((s.rd Reg.PDK_REFUSE_CNT).toNat + 1) 0xFFFFFFFF) ∧
    ((s.paddockRefuse core id).coreAt core).faults = (s.coreAt core).faults + 1 := by
  unfold State.paddockRefuse State.accessFault
  have h1 := inc_inv (a := Reg.PDK_REFUSE_CNT) h
  have h2 := wr_inv (a := Reg.PDK_REFUSE_ID) (v := W id) h1
  have h3 := wr_inv (a := Reg.PDK_REFUSE_SRC) (v := W core) h2
  refine ⟨rfl, ?_, ?_, ?_, ?_⟩
  · exact (rd_wr_other h2 (by decide)).trans (rd_wr_same h1)
  · exact rd_wr_same h2
  · exact ((rd_wr_other h2 (by decide)).trans (rd_wr_other h1 (by decide))).trans (rd_inc_same h)
  · rw [coreAt_modCore_same h3 hc]
    rfl

/-- What a load of a whole value location returns (R57, R602). -/
theorem coreReadWord_whole {a : Nat} (ha : a < 0x20800000) : s.coreReadWord a 8 =
    BitVec.ofNat 64 ((if dDefined (s.desc (paddockId a)) then s.sigSeen (paddockId a) else {}).value.toNat +
      (if dDefined (s.desc (paddockId a)) then s.sigSeen (paddockId a) else {}).mword.toNat * 2 ^ 32) := by
  unfold State.coreReadWord
  simp only [if_true, if_pos ha]

/-- The words of a location that is cleared. -/
theorem zeroWords : BitVec.ofNat 64 (({} : Sig).value.toNat + ({} : Sig).mword.toNat * 2 ^ 32) = 0 := by decide

theorem sigSeen_of_past {id : Nat} (h : s.paddock.seenAt ≠ s.dtb) : s.sigSeen id = s.sig id := if_neg h

/-- Settles O10: the requests by what a core asks of a bank, the rest by the access that wins the bank's cycle. -/
theorem paddockAccess : Obligations.PaddockAccess := by
  intro s h hd hr
  refine ⟨?_, ?_, ?_, ?_, ?_, ?_, ?_, ?_, ?_, ?_, ?_, ?_⟩
  · intro core a size v hc hlo hhi ha
    refine runs_ofUnit (exec_paddockCoreWrite s) (by simp [hc, hlo, hhi]) ?_
    rw [coreAccess_aligned hd hr ha]
    dsimp only
    rw [if_pos hhi]
    obtain ⟨hregs, hsigs, -, hcores, hwait⟩ := coreAsk_effect (s := s) (a := a) (k := .coreWrite core a size v) rfl
    exact ⟨hsigs, hregs, hcores, hwait⟩
  · intro core a size v hc hlo hhi ha
    rw [exec_paddockCoreWrite, execPaddockCoreWrite, ofUnit, if_pos (by simp [hc, hlo, hhi]), coreAccess_unaligned ha]
  · intro core a v hc hlo hhi ha
    refine runs_ofUnit (exec_descriptorWrite s) (by simp [hc, hlo, hhi]) ?_
    rw [coreAccess_aligned hd hr (by simp [accessAligned, ha])]
    dsimp only
    rw [if_neg (by omega), if_pos rfl]
    obtain ⟨hregs, -, hdescs, hcores, hwait⟩ := coreAsk_effect (s := s) (a := a) (k := .descWrite core v) rfl
    exact ⟨hdescs, hregs, hcores, hwait⟩
  · intro core a size v hc hlo hhi ha
    rw [exec_descriptorWrite, execDescriptorWrite, ofUnit, if_pos (by simp [hc, hlo, hhi])]
    cases hal : accessAligned a size with
    | false => rw [coreAccess_unaligned hal]
    | true =>
      have hsize : size ≠ 8 := fun h8 => by
        subst h8
        simp only [accessAligned, Bool.and_eq_true, decide_eq_true_eq] at hal
        omega
      rw [coreAccess_aligned hd hr hal]
      dsimp only
      rw [if_neg (by omega), if_neg hsize]
  · intro core a size hc hlo hhi ha
    have hsize : [1, 2, 4, 8].contains size = true := by
      simp only [accessAligned, Bool.and_eq_true, Bool.or_eq_true, decide_eq_true_eq] at ha
      obtain ⟨rfl | rfl, -⟩ := ha <;> rfl
    refine runs_ofUnit (exec_rcCounterRead s) (by rw [hsize, decide_eq_true hc]; rfl) ?_
    unfold State.coreLoad
    rw [if_pos (by simp [hlo, hhi]), coreAccess_aligned hd hr ha]
    obtain ⟨-, hsigs, hdescs, -, hwait⟩ := coreAsk_effect (s := s) (a := a) (k := .coreRead core a size) rfl
    exact ⟨hsigs, hdescs, hwait⟩
  · intro b c a u k val q ovr ts hb ht hk hown hisig
    refine runs_next (exec_bankAccess hb hd ht) ?_
    have hi := served_inv (b := b) (c := c) (a := a) h
    unfold State.bankPerform
    rw [hk]
    dsimp only
    rw [if_pos (show (s.served b c a).pathOwns a.sig 2 (16 * u + k) = true from hown)]
    obtain ⟨hsig, hother, hdtb, -, -, hwait, hfree⟩ := pathWrite_effect hi (id := a.sig) (ts := ts) (q := q) (v := Wi val) (ovr := ovr) (lost := false)
      (subst := false) hisig
    exact ⟨hdtb, hwait, hfree, hsig, hother⟩
  · intro b c a e l val start q hb ht hk hisig
    refine runs_next (exec_bankAccess hb hd ht) ?_
    have hi := served_inv (b := b) (c := c) (a := a) h
    unfold State.bankPerform
    rw [hk]
    dsimp only
    cases hown : s.pathOwns a.sig 1 (4 * e + l) with
    | true =>
      rw [if_pos (show (s.served b c a).pathOwns a.sig 1 (4 * e + l) = true from hown)]
      obtain ⟨hsig, hother, -⟩ := pathWrite_effect hi (id := a.sig) (ts := (s.served b c a).usNext) (q := q) (v := val) (ovr := false) (lost := false)
        (subst := false) hisig
      exact ⟨fun _ => congrArg Sig.value hsig, fun hf => absurd hf (by decide), hother⟩
    | false =>
      rw [if_neg (show ¬ (s.served b c a).pathOwns a.sig 1 (4 * e + l) = true by rw [Bool.not_eq_true]; exact hown)]
      obtain ⟨hsigs, hid, hcnt⟩ := paddockDrop_effect hi a.sig
      exact ⟨fun hf => absurd hf (by decide), fun _ => ⟨hsigs, hid, hcnt⟩, fun j _ => rfl⟩
  · intro b c a core addr v hb ht hk haddr hown hisig
    refine runs_next (exec_bankAccess hb hd ht) ?_
    have hi := served_inv (b := b) (c := c) (a := a) h
    unfold State.bankPerform
    rw [hk]
    dsimp only
    unfold State.coreWriteDone
    have hc : (decide (4 = 4) && decide (addr % 8 = 4) || !(s.served b c a).coreOwns core (paddockId addr)) = false := by
      rw [show (s.served b c a).coreOwns core (paddockId addr) = true from hown, haddr]; rfl
    dsimp only
    rw [hc, if_neg (by decide), if_pos rfl]
    obtain ⟨hsig, hother, -, hdescs, hsram, -⟩ := pathWrite_effect hi (id := paddockId addr) (ts := (s.served b c a).usNext) (q := qValid) (v := W v.toNat)
      (ovr := false) (lost := false) (subst := false) hisig
    exact ⟨hsig, hother, hdescs, hsram⟩
  · intro b c a core addr v hb ht hk hown hisig
    refine runs_next (exec_bankAccess hb hd ht) ?_
    have hi := served_inv (b := b) (c := c) (a := a) h
    unfold State.bankPerform
    rw [hk]
    dsimp only
    unfold State.coreWriteDone
    have hc : (decide (8 = 4) && decide (addr % 8 = 4) || !(s.served b c a).coreOwns core (paddockId addr)) = false := by
      rw [show (s.served b c a).coreOwns core (paddockId addr) = true from hown]; rfl
    dsimp only
    rw [hc, if_neg (by decide), if_neg (by decide)]
    obtain ⟨hsig, hother, -⟩ := pathWrite_effect hi (id := paddockId addr) (ts := (s.served b c a).usNext) (q := metaQuality (W (v.toNat / 2 ^ 32)))
      (v := W v.toNat) (ovr := false) (lost := false) (subst := metaSubst (W (v.toNat / 2 ^ 32))) hisig
    exact ⟨hsig, hother⟩
  · intro b c a core addr size v hb hc ht hk hown
    refine runs_next (exec_bankAccess hb hd ht) ?_
    unfold State.bankPerform
    rw [hk]
    dsimp only
    unfold State.coreWriteDone
    dsimp only
    rw [show (s.served b c a).coreOwns core (paddockId addr) = false from hown, Bool.not_false, Bool.or_true, if_pos rfl]
    exact paddockRefuse_effect (served_inv h) hc _
  · intro b c a core addr hb hc ht hk haddr h8 hseen
    refine runs_next (exec_bankAccess hb hd ht) ?_
    unfold State.bankPerform
    rw [hk]
    dsimp only
    rw [coreAt_modCore_same (served_inv h) hc]
    have hpast : (s.served b c a).paddock.seenAt ≠ (s.served b c a).dtb := Nat.ne_of_lt (Nat.lt_of_lt_of_le hseen (Nat.le_max_left _ _))
    dsimp only
    rw [coreReadWord_whole haddr, sigSeen_of_past hpast, show (s.served b c a).desc (paddockId addr) = s.desc (paddockId addr) from rfl]
    refine ⟨rfl, fun hdef => ?_, fun hdef => ?_⟩
    · rw [if_pos hdef]
      rfl
    · rw [hdef, if_neg Bool.false_ne_true]
      exact zeroWords
  · intro b c a core v hb hc ht hk
    refine runs_next (exec_bankAccess hb hd ht) ?_
    have hi := served_inv (b := b) (c := c) (a := a) h
    unfold State.bankPerform
    rw [hk]
    dsimp only
    unfold State.descWriteDone
    dsimp only
    have href : (s.served b c a).descRefused a.sig (v &&& descMask) = s.descRefused a.sig (v &&& descMask) := rfl
    rw [href]
    by_cases hbad : teamOf core ≠ 0 ∨ s.descRefused a.sig (v &&& descMask) = true
    · rw [if_pos hbad, if_pos (by simpa using hbad)]
      refine ⟨rfl, rfl, ?_⟩
      unfold State.accessFault
      rw [coreAt_modCore_same hi hc]
      rfl
    · rw [if_neg hbad, if_neg (by simpa using hbad)]
      have hset : ((s.served b c a).setDesc a.sig (v &&& descMask)).Inv := (State.setDesc_keeps (K := 8) rfl (Keeps.refl _ _)).inv hi
      exact ⟨desc_setDesc_same hi, sig_putSig_same hset, fun j hj => ⟨desc_setDesc_other hi hj, sig_putSig_other hset hj⟩⟩

end Sys2Proof.Machine
end

section
/-! PROOFS. Registers that the operations on generators and laws leave: they write in the blocks of the generators, the
converters and the engines only. -/

namespace Sys2Proof.Machine

set_option Elab.async false

/-- `s` is sound, and each register of `P` reads as in `s0`. -/
def KeepsRegs (P : Nat → Prop) (s0 s : State) : Prop := s.Inv ∧ ∀ a, P a → s.rd a = s0.rd a

variable {P : Nat → Prop} {s0 s t : State}

theorem KeepsRegs.refl (h : s.Inv) : KeepsRegs P s s := ⟨h, fun _ _ => rfl⟩
theorem KeepsRegs.trans (h : KeepsRegs P s0 s) (h' : KeepsRegs P s t) : KeepsRegs P s0 t := ⟨h'.1, fun a ha => (h'.2 a ha).trans (h.2 a ha)⟩
theorem KeepsRegs.mono {Q : Nat → Prop} (h : KeepsRegs P s0 s) (hQ : ∀ a, Q a → P a) : KeepsRegs Q s0 s := ⟨h.1, fun a ha => h.2 a (hQ a ha)⟩
theorem KeepsRegs.fld (h : KeepsRegs P s0 s) {a : Nat} (ha : P a) (f : Field) : s.fld a f = s0.fld a f := fld_of_rd (h.2 a ha) f
theorem KeepsRegs.on (h : KeepsRegs P s0 s) {a : Nat} (ha : P a) (f : Field) : s.on a f = s0.on a f := by unfold State.on; rw [h.fld ha]

/-- An operation that keeps every register. -/
theorem KeepsRegs.of_regs (h : KeepsRegs P s0 s) {K : Nat} (hk : Keeps K s t) (hK : K.testBit 1 = false) : KeepsRegs P s0 t :=
  ⟨hk.inv h.1, fun a ha => (rd_congr (hk.regs hK) a).trans (h.2 a ha)⟩

theorem KeepsRegs.wr (h : KeepsRegs P s0 s) {a : Nat} {v : Word} (ha : ¬P a) : KeepsRegs P s0 (s.wr a v) :=
  ⟨wr_inv h.1, fun b hb => (rd_wr_other h.1 (fun e => ha (by rw [← e]; exact hb))).trans (h.2 b hb)⟩
theorem KeepsRegs.setf (h : KeepsRegs P s0 s) {a : Nat} {f : Field} {v : Nat} (ha : ¬P a) : KeepsRegs P s0 (s.setf a f v) := h.wr ha
theorem KeepsRegs.setb (h : KeepsRegs P s0 s) {a : Nat} {f : Field} {b : Bool} (ha : ¬P a) : KeepsRegs P s0 (s.setb a f b) := h.wr ha
theorem KeepsRegs.inc (h : KeepsRegs P s0 s) {a : Nat} (ha : ¬P a) : KeepsRegs P s0 (s.inc a) := h.wr ha

theorem KeepsRegs.each {α : Type} {l : List α} {f : State → α → State} (h : KeepsRegs P s0 s)
    (hf : ∀ u, ∀ x ∈ l, KeepsRegs P s0 u → KeepsRegs P s0 (f u x)) : KeepsRegs P s0 (s.each l f) :=
  State.each_induction (P := KeepsRegs P s0) hf h

theorem KeepsRegs.forN {n : Nat} {f : State → Nat → State} (h : KeepsRegs P s0 s)
    (hf : ∀ u k, k < n → KeepsRegs P s0 u → KeepsRegs P s0 (f u k)) : KeepsRegs P s0 (s.forN n f) :=
  State.forN_induction (P := KeepsRegs P s0) hf h

theorem KeepsRegs.ite {c : Prop} [Decidable c] (h : c → KeepsRegs P s0 s) (h' : ¬c → KeepsRegs P s0 t) : KeepsRegs P s0 (if c then s else t) := by
  split
  · exact h ‹_›
  · exact h' ‹_›

theorem KeepsRegs.modCe (h : KeepsRegs P s0 s) {e : Nat} {f : CeSt → CeSt} (hf : ∀ c : CeSt, c.laws.length = 4 → (f c).laws.length = 4 := by intro _ hc; exact hc) :
    KeepsRegs P s0 (s.modCe e f) := ⟨modCe_inv h.1 hf, h.2⟩
theorem KeepsRegs.modLaw (h : KeepsRegs P s0 s) {e l : Nat} {f : LawSt → LawSt} : KeepsRegs P s0 (s.modLaw e l f) := ⟨modLaw_inv h.1, h.2⟩
theorem KeepsRegs.paddock (h : KeepsRegs P s0 s) {p : PaddockSt} : KeepsRegs P s0 { s with paddock := p } := ⟨{ h.1 with }, h.2⟩
theorem KeepsRegs.modPg (h : KeepsRegs P s0 s) {g : Nat} {f : PgSt → PgSt} : KeepsRegs P s0 (s.modPg g f) := ⟨modPg_inv h.1, h.2⟩

theorem KeepsRegs.wrMasked (h : KeepsRegs P s0 s) {a m : Nat} {v : Word} (ha : ¬P a) : KeepsRegs P s0 (s.wrMasked a m v) := by
  unfold State.wrMasked
  split
  · exact h.wr ha
  · exact h

/-- What a production law takes of its triggers, its decimation and its latency. -/
def State.setTrigger (s : State) (a : Nat) : Option (Nat × Nat) → State
  | some (k, i) => (s.setf a Fld.LAW_CTRL_tkind k).setf a Fld.LAW_CTRL_tidx i
  | none => s
def State.setDecimation (s : State) (a : Nat) : Option (Nat × Nat) → State
  | some (d, f) => (s.setf a Fld.LAW_CTRL_dec d).setf a Fld.LAW_CTRL_phase f
  | none => s
def State.setLatency (s : State) (a : Nat) : Option Nat → State
  | some n => s.setf a Fld.LAW_TIME_L n
  | none => s

theorem KeepsRegs.setTrigger (h : KeepsRegs P s0 s) {a : Nat} (ha : ¬P a) : ∀ o, KeepsRegs P s0 (s.setTrigger a o)
  | some _ => (h.setf ha).setf ha
  | none => h
theorem KeepsRegs.setDecimation (h : KeepsRegs P s0 s) {a : Nat} (ha : ¬P a) : ∀ o, KeepsRegs P s0 (s.setDecimation a o)
  | some _ => (h.setf ha).setf ha
  | none => h
theorem KeepsRegs.setLatency (h : KeepsRegs P s0 s) {a : Nat} (ha : ¬P a) : ∀ o, KeepsRegs P s0 (s.setLatency a o)
  | some _ => h.setf ha
  | none => h

/-! ## Generators and laws -/

/-- The registers of the generators, the trigger timers, the converters and the engines. -/
def driveBlock (a : Nat) : Prop :=
  0x70100000 ≤ a ∧ a < 0x70110000 ∨ a = Reg.PWM_GSTART_HI ∨ 0x70110800 ≤ a ∧ a < 0x70110880 ∨ 0x70200000 ≤ a ∧ a < 0x70210200 ∨ 0x70300000 ≤ a ∧ a < 0x70400000

/-- The generator of an output of a law. -/
theorem lawGens_lt {e l g : Nat} (h : g ∈ s.lawGens e l) : g < 64 := by
  unfold State.lawGens State.omap at h
  obtain ⟨k, -, hk⟩ := List.mem_filterMap.mp h
  simp only at hk
  split at hk
  · obtain rfl := Option.some.inj hk
    exact Nat.mod_lt _ (by decide)
  · exact absurd hk (by simp)

theorem driveBlock_ne {b : Nat} (hb : ¬driveBlock b) : ∀ a, driveBlock a → ¬(a = b) := fun _ ha he => hb (he ▸ ha)
theorem pwrStat_outside : ¬driveBlock Reg.PWR_STAT := by unfold driveBlock; decide

/-- The registers of the engines and their laws. -/
def lawBlock (a : Nat) : Prop := 0x70300000 ≤ a ∧ a < 0x70400000

theorem driveBlock_of_lawBlock {a : Nat} (ha : lawBlock a) : driveBlock a := .inr (.inr (.inr (.inr ha)))

theorem endRegs_lawBlock {e l : Nat} (he : e < 12) (hl : l < 4) : ∀ a ∈ endRegs e l, lawBlock a := by
  intro a ha
  simp only [endRegs, List.mem_cons, List.not_mem_nil, or_false] at ha
  unfold lawBlock
  obtain rfl | rfl | rfl | rfl | rfl := ha
  · unfold Reg.LAW_CNT_HITA; omega
  · unfold Reg.LAW_CNT_HITB; omega
  · unfold Reg.LAW_CNT_RUN; omega
  · unfold Reg.LAW_CNT_SAT; omega
  · unfold Reg.LAW_STAT; omega

/-- A disabled law keeps nothing that is due, its section ends, and its last result is 9 (R147). -/
def State.lawEnded (s : State) (e l : Nat) : State :=
  let u := (s.endSection e l).modLaw e l (fun w => { w with frame := none, used := false, outDue := none, fbDue := none, staged := noOutputs, lookDone := false })
  (((u.setf (Reg.LAW_CTRL e l) Fld.LAW_CTRL_en 0).setf (Reg.LAW_CTRL e l) Fld.LAW_CTRL_busy 0).setLast e l 9).reinBack e l

theorem lawDisable_eq (e l : Nat) : s.lawDisable e l =
    let u := if s.lawOn e l then (s.undoEnd e l).setOwned e l false else s
    if u.lawOn e l || u.lawBusy e l then u.lawEnded e l else u := rfl

section
variable (hL : ∀ a, lawBlock a → ¬P a)
include hL

theorem KeepsRegs.undoEnd (h : KeepsRegs P s0 s) {e l : Nat} (he : e < 12) (hl : l < 4) : KeepsRegs P s0 (s.undoEnd e l) := by
  unfold State.undoEnd
  split
  · exact h
  · dsimp only
    split
    · exact h
    · refine KeepsRegs.each (h.modCe.modLaw.paddock.modCe) (fun _ w hw hu => hu.wr (hL _ ?_))
      exact endRegs_lawBlock he hl _ (List.of_mem_zip hw).1

theorem KeepsRegs.endSection (h : KeepsRegs P s0 s) {e l : Nat} (he : e < 12) (hl : l < 4) : KeepsRegs P s0 (s.endSection e l) := by
  unfold State.endSection
  have hstatus : ¬P (Reg.CE_STATUS e) := hL _ (by unfold lawBlock Reg.CE_STATUS; omega)
  exact ((h.modLaw.setf hstatus).setf hstatus).setf (hL _ (by unfold lawBlock Reg.LAW_RSTAT; omega))

theorem KeepsRegs.lawEnded (h : KeepsRegs P s0 s) {e l : Nat} (he : e < 12) (hl : l < 4) : KeepsRegs P s0 (s.lawEnded e l) := by
  have hctrl : ¬P (Reg.LAW_CTRL e l) := hL _ (by unfold lawBlock Reg.LAW_CTRL; omega)
  have hrstat : ¬P (Reg.LAW_RSTAT e l) := hL _ (by unfold lawBlock Reg.LAW_RSTAT; omega)
  exact (((((h.endSection hL he hl).modLaw).setf hctrl).setf hctrl).setf hrstat).modLaw.setf hrstat

end

section
variable (hP : ∀ a, driveBlock a → ¬P a)
include hP

theorem KeepsRegs.setOwned (h : KeepsRegs P s0 s) {e l : Nat} {b : Bool} : KeepsRegs P s0 (s.setOwned e l b) :=
  h.each (fun u g hg hu => hu.setb (hP _ (by have := lawGens_lt hg; unfold driveBlock Reg.PWM_STAT; omega)))

theorem KeepsRegs.lawDisable (h : KeepsRegs P s0 s) {e l : Nat} (he : e < 12) (hl : l < 4) : KeepsRegs P s0 (s.lawDisable e l) := by
  have hL : ∀ a, lawBlock a → ¬P a := fun a ha => hP a (driveBlock_of_lawBlock ha)
  have hoff : KeepsRegs P s0 (if s.lawOn e l then (s.undoEnd e l).setOwned e l false else s) :=
    KeepsRegs.ite (fun _ => (h.undoEnd hL he hl).setOwned hP) (fun _ => h)
  rw [lawDisable_eq]
  exact KeepsRegs.ite (fun _ => hoff.lawEnded hL he hl) (fun _ => hoff)

theorem KeepsRegs.lawsOff (h : KeepsRegs P s0 s) {ls : List (Nat × Nat)} (hls : ∀ p ∈ ls, p.1 < 12 ∧ p.2 < 4) : KeepsRegs P s0 (s.lawsOff ls) :=
  h.each (fun _ p hp hu => hu.lawDisable hP (hls p hp).1 (hls p hp).2)

omit hP in
theorem KeepsRegs.bothOff (h : KeepsRegs P s0 s) {g : Nat} : KeepsRegs P s0 (s.bothOff g) := h.modPg.modPg.modPg

theorem KeepsRegs.resolverFree (h : KeepsRegs P s0 s) {g : Nat} : KeepsRegs P s0 (s.resolverFree g) :=
  h.forN (fun _ d hd hu => KeepsRegs.ite (fun _ => hu.setf (hP _ (by unfold driveBlock Reg.RES_STAT; omega))) (fun _ => hu))

theorem KeepsRegs.genStop (h : KeepsRegs P s0 s) {g : Nat} (hg : g < 40) : KeepsRegs P s0 (s.genStop g) := by
  have hctrl : ¬P (Reg.PWM_CTRL g) := hP _ (by unfold driveBlock Reg.PWM_CTRL; omega)
  have hstat : ¬P (Reg.PWM_STAT g) := hP _ (by unfold driveBlock Reg.PWM_STAT; omega)
  have hcntr : ¬P (Reg.PWM_CNTR g) := hP _ (by unfold driveBlock Reg.PWM_CNTR; omega)
  have hoff := ((h.setf (v := 0) (f := Fld.PWM_CTRL_en) hctrl).setf (v := 0) (f := Fld.PWM_STAT_run) hstat).setf (v := 0) (f := Fld.PWM_STAT_wait) hstat
  unfold State.genStop
  exact KeepsRegs.ite (fun _ => h) (fun _ => ((((KeepsRegs.ite (fun _ => hoff.setf hstat) (fun _ => hoff)).wr hcntr).bothOff).modPg).resolverFree hP)

theorem KeepsRegs.stopGens (h : KeepsRegs P s0 s) {gs : List Nat} (hgs : ∀ g ∈ gs, g < 40) : KeepsRegs P s0 (s.stopGens gs) :=
  h.each (fun _ g hg hu => KeepsRegs.ite (fun _ => hu.genStop hP (hgs g hg)) (fun _ => hu))

theorem KeepsRegs.tripClear (h : KeepsRegs P s0 s) {g : Nat} (hg : g < 40) : KeepsRegs P s0 (s.tripClear g) := by
  have hstat : ¬P (Reg.PWM_STAT g) := hP _ (by unfold driveBlock Reg.PWM_STAT; omega)
  unfold State.tripClear
  refine KeepsRegs.ite (fun _ => h) (fun _ => KeepsRegs.ite (fun _ => h.setf hstat) (fun _ => ?_))
  exact KeepsRegs.ite (fun _ => (h.setf hstat).setf hstat) (fun _ => ((h.setf hstat).setf hstat).modPg.modPg.modPg)

theorem KeepsRegs.clearTrips (h : KeepsRegs P s0 s) {gs : List Nat} (hgs : ∀ g ∈ gs, g < 40) : KeepsRegs P s0 (s.clearTrips gs) :=
  h.each (fun _ g hg hu => hu.tripClear hP (hgs g hg))

theorem KeepsRegs.setShadow (h : KeepsRegs P s0 s) {g k : Nat} {v : Word} (hg : g < 40) : KeepsRegs P s0 (s.setShadow g k v) := by
  unfold State.setShadow
  refine h.modPg.wr (hP _ ?_)
  split
  · unfold driveBlock Reg.PWM_CMPA; omega
  split
  · unfold driveBlock Reg.PWM_CMPB; omega
  · unfold driveBlock Reg.PWM_PER; omega

theorem KeepsRegs.genSet (h : KeepsRegs P s0 s) {g mode per : Nat} {sync : Option (Nat × Nat)} (hg : g < 40) : KeepsRegs P s0 (s.genSet g mode per sync) := by
  have hctrl : ¬P (Reg.PWM_CTRL g) := hP _ (by unfold driveBlock Reg.PWM_CTRL; omega)
  have hper : ¬P (Reg.PWM_PER g) := hP _ (by unfold driveBlock Reg.PWM_PER; omega)
  have hsync : ¬P (Reg.PWM_SYNC g) := hP _ (by unfold driveBlock Reg.PWM_SYNC; omega)
  unfold State.genSet
  cases sync with
  | none => exact ((h.wr hctrl).wr hper).setf hsync
  | some p => exact ((((h.wr hctrl).wr hper).setf hsync).setf hsync).setf (hP _ (by unfold driveBlock Reg.PWM_PHS; omega))

theorem KeepsRegs.ctrlFields (h : KeepsRegs P s0 s) {g : Nat} {v : Word} (hg : g < 40) : KeepsRegs P s0 (s.ctrlFields g v).1 := by
  unfold State.ctrlFields
  split
  · exact h
  · dsimp only
    split
    · exact h.setf (hP _ (by unfold driveBlock Reg.PWM_STAT; omega))
    · exact h.wr (hP _ (by unfold driveBlock Reg.PWM_CTRL; omega))

theorem KeepsRegs.genStart (h : KeepsRegs P s0 s) {g t : Nat} (hg : g < 40) : KeepsRegs P s0 (s.genStart g t) := by
  have hstat : ¬P (Reg.PWM_STAT g) := hP _ (by unfold driveBlock Reg.PWM_STAT; omega)
  have ha : ¬P (Reg.PWM_ACTA g) := hP _ (by unfold driveBlock Reg.PWM_ACTA; omega)
  have hb : ¬P (Reg.PWM_ACTB g) := hP _ (by unfold driveBlock Reg.PWM_ACTB; omega)
  exact ((((h.setf hstat).setf hstat).wr ha).wr hb).modPg.modPg

theorem KeepsRegs.genEnable (h : KeepsRegs P s0 s) {g : Nat} {v : Word} (hg : g < 40) : KeepsRegs P s0 (s.genEnable g v) := by
  have hstat : ¬P (Reg.PWM_STAT g) := hP _ (by unfold driveBlock Reg.PWM_STAT; omega)
  have hctrl : ¬P (Reg.PWM_CTRL g) := hP _ (by unfold driveBlock Reg.PWM_CTRL; omega)
  have hf := h.ctrlFields hP (v := v) hg
  unfold State.genEnable
  refine KeepsRegs.ite (fun _ => h) (fun _ => KeepsRegs.ite (fun _ => hf) (fun _ => KeepsRegs.ite (fun _ => hf.setf hstat) (fun _ => ?_)))
  exact KeepsRegs.ite (fun _ => (hf.setf hctrl).setf hstat) (fun _ => (hf.setf hctrl).genStart hP hg)

theorem KeepsRegs.gstart (h : KeepsRegs P s0 s) {v : Word} : KeepsRegs P s0 (s.gstart v) :=
  (h.wr (hP _ (.inr (.inl rfl)))).forN (fun _ _ hg hu => KeepsRegs.ite (fun _ => hu.genStart hP hg) (fun _ => hu))

theorem KeepsRegs.groupStart (h : KeepsRegs P s0 s) {gs : List Nat} (hgs : ∀ g ∈ gs, g < 40) : KeepsRegs P s0 (s.groupStart gs) :=
  KeepsRegs.gstart hP ((h.each (fun _ g hg hu => hu.genEnable hP (hgs g hg))).wr (hP _ (.inr (.inl rfl))))

theorem KeepsRegs.timerRun (h : KeepsRegs P s0 s) {n per : Nat} {sync : Option Nat} (hn : n < 8) : KeepsRegs P s0 (s.timerRun n per sync) := by
  have hper : ¬P (Reg.TT_PER n) := hP _ (by unfold driveBlock Reg.TT_PER; omega)
  have hctl : ¬P (Reg.TT_CTL n) := hP _ (by unfold driveBlock Reg.TT_CTL; omega)
  have hset := (((h.wr (v := W per) hper).setf (v := if sync.isSome then 1 else 0) (f := Fld.TT_CTL_skind) hctl).setf (v := sync.getD 0) (f := Fld.TT_CTL_sidx) hctl).setf
    (v := 1) (f := Fld.TT_CTL_en) hctl
  exact hset.of_regs (State.ttStart_keeps (K := 4096) rfl (Keeps.refl _ _)) rfl

theorem KeepsRegs.loadFrame (h : KeepsRegs P s0 s) {e : Nat} (he : e < 12) : KeepsRegs P s0 (s.loadFrame e) := by
  have hctrl : ¬P (Reg.CE_CTRL e) := hP _ (by unfold driveBlock Reg.CE_CTRL; omega)
  unfold State.loadFrame
  refine KeepsRegs.ite (fun _ => h) (fun _ => ?_)
  split
  · exact h
  · exact KeepsRegs.ite (fun _ => ((h.setf hctrl).setf hctrl).timerRun hP (by decide))
      (fun _ => KeepsRegs.ite (fun _ => ((h.setf hctrl).setf hctrl).timerRun hP (by decide)) (fun _ => (h.setf hctrl).setf hctrl))

theorem KeepsRegs.engineStart (h : KeepsRegs P s0 s) {e : Nat} (he : e < 12) : KeepsRegs P s0 (s.engineStart e) := by
  have hctrl : ¬P (Reg.CE_CTRL e) := hP _ (by unfold driveBlock Reg.CE_CTRL; omega)
  have hcnt : ¬P (Reg.CE_FCNT e) := hP _ (by unfold driveBlock Reg.CE_FCNT; omega)
  exact KeepsRegs.ite (fun _ => h) (fun _ => ((h.setf hctrl).wr hcnt).modCe)

theorem KeepsRegs.loadLaw (h : KeepsRegs P s0 s) {e l : Nat} (he : e < 12) (hl : l < 4) : KeepsRegs P s0 (s.loadLaw e l) := by
  have hctrl : ¬P (Reg.LAW_CTRL e l) := hP _ (by unfold driveBlock Reg.LAW_CTRL; omega)
  have htime : ¬P (Reg.LAW_TIME e l) := hP _ (by unfold driveBlock Reg.LAW_TIME; omega)
  have hlah : ¬P (Reg.LAW_LAH e l) := hP _ (by unfold driveBlock Reg.LAW_LAH; omega)
  have homap : ∀ k, k < 8 → ¬P (Reg.LAW_OMAP e l k) := fun k hk => hP _ (by unfold driveBlock Reg.LAW_OMAP; omega)
  have hcap : ∀ k, k < 8 → ¬P (Reg.LAW_CAP e l k) := fun k hk => hP _ (by unfold driveBlock Reg.LAW_CAP; omega)
  have hprd : ∀ k, k < 6 → ¬P (Reg.LAW_PRD e l k) := fun k hk => hP _ (by unfold driveBlock Reg.LAW_PRD; omega)
  unfold State.loadLaw
  split
  · exact h
  · refine KeepsRegs.ite (fun _ => h) (fun _ => ?_)
    have hset : ∀ p : LawSet, KeepsRegs P s0 (((s.setTrigger (Reg.LAW_CTRL e l) p.trigger).setDecimation (Reg.LAW_CTRL e l) p.dec).setLatency (Reg.LAW_TIME e l) p.latency) :=
      fun p => ((h.setTrigger hctrl p.trigger).setDecimation hctrl p.dec).setLatency htime p.latency
    exact KeepsRegs.modLaw (KeepsRegs.ite
      (fun _ => KeepsRegs.forN (KeepsRegs.setf (KeepsRegs.setf (KeepsRegs.forN (KeepsRegs.forN (hset _) (fun _ k hk hu => hu.wr (homap k hk)))
        (fun _ k hk hu => hu.wr (hcap k hk))) hctrl) hlah) (fun _ k hk hu => hu.wr (hprd k hk)))
      (fun _ => KeepsRegs.setf (KeepsRegs.forN (KeepsRegs.forN (hset _) (fun _ k hk hu => hu.wr (homap k hk))) (fun _ k hk hu => hu.wr (hcap k hk))) hlah))

theorem KeepsRegs.lawEnable (h : KeepsRegs P s0 s) {e l : Nat} {v : Word} (he : e < 12) (hl : l < 4) : KeepsRegs P s0 (s.lawEnable e l v) := by
  have hctrl : ¬P (Reg.LAW_CTRL e l) := hP _ (by unfold driveBlock Reg.LAW_CTRL; omega)
  exact KeepsRegs.ite (fun _ => h) (fun _ => (h.wrMasked hctrl).setf hctrl)

theorem KeepsRegs.lawsOn (h : KeepsRegs P s0 s) {ls : List (Nat × Nat)} (hls : ∀ p ∈ ls, p.1 < 12 ∧ p.2 < 4) : KeepsRegs P s0 (s.lawsOn ls) :=
  h.each (fun _ p hp hu => (((hu.loadFrame hP (hls p hp).1).engineStart hP (hls p hp).1).loadLaw hP (hls p hp).1 (hls p hp).2).lawEnable hP (hls p hp).1 (hls p hp).2)

end

end Sys2Proof.Machine
end

section
/-! PROOFS. The LV sequencer: what each of its steps makes of the sequencer's state (R324-R341). -/

namespace Sys2Proof.Machine

set_option Elab.async false

variable {s t : State}

/-- A machine of a team that executes makes its step. -/
theorem onTeam_of {n : Nat} (h : s.teamRuns n = true) (u : State) : s.onTeam n u = u := if_pos h

/-- A signal that the module writes stays one while PD6 and the descriptors stay. -/
theorem publishes_of {a : Nat} (hr : t.rd Reg.PWR_STAT = s.rd Reg.PWR_STAT) (hd : t.descs = s.descs) (h : s.Publishes a) : t.Publishes a := by
  have hdesc : t.desc a = s.desc a := by unfold State.desc; rw [hd]
  have hon : t.domainOn 6 = s.domainOn 6 := by unfold State.domainOn State.domain; rw [fld_of_rd hr]
  obtain ⟨hw, h0, h5⟩ := h
  refine ⟨?_, hdesc ▸ h0, hdesc ▸ h5⟩
  unfold State.writable
  rw [hon, hdesc]
  exact hw

theorem putVal_inv (h : s.Inv) {a q : Nat} {v : Word} {b : Bool} : (s.putVal a v q b).Inv := (State.putVal_keeps (K := 532996) rfl (Keeps.refl _ s)).inv h
theorem rd_putVal (a q : Nat) (v : Word) (b : Bool) (x : Nat) : (s.putVal a v q b).rd x = s.rd x :=
  rd_congr ((State.putVal_keeps (K := 532996) rfl (Keeps.refl _ s)).regs rfl) x
theorem descs_putVal (a q : Nat) (v : Word) (b : Bool) : (s.putVal a v q b).descs = s.descs := (State.putVal_keeps (K := 532996) rfl (Keeps.refl _ s)).descs rfl

/-! ## The parts of the sequencer's steps -/

theorem lv_putVal (a q : Nat) (v : Word) (b : Bool) : (s.putVal a v q b).lv = s.lv := (State.putVal_keeps (K := 532996) rfl (Keeps.refl _ s)).lv rfl
theorem lv_putNat (a v : Nat) : (s.putNat a v).lv = s.lv := lv_putVal a _ _ _
theorem lv_modLvSeq (f : LvSeqSt → LvSeqSt) : (s.modLvSeq f).lv = f s.lv := rfl
theorem lv_reach (d : Nat) : (s.reach d).lv = s.lv := rfl
theorem dtb_modLvSeq (f : LvSeqSt → LvSeqSt) : (s.modLvSeq f).dtb = s.dtb := rfl
theorem lv_setLv (n : Nat) : (s.setLv n).lv = { s.lv with st := n, since := s.dtb } := (lv_putVal _ _ _ _).trans rfl
theorem dtb_setLv (n : Nat) : (s.setLv n).dtb = s.dtb := ((State.putVal_keeps (K := 532996) rfl (Keeps.refl _ _)).dtb rfl).trans rfl

theorem dcxOff_keeps_lv : Keeps 25090 s s.dcxOff := State.dcxOff_keeps rfl (Keeps.refl _ s)
theorem lv_dcxOff : s.dcxOff.lv = s.lv := dcxOff_keeps_lv.lv rfl
theorem dtb_dcxOff : s.dcxOff.dtb = s.dtb := dcxOff_keeps_lv.dtb rfl

/-- The laws and the generators of the buck stop. -/
theorem buckLawsOff_keeps : Keeps 25090 s ((s.lawsOff [(6, 1), (6, 2)]).stopGens buckGens) :=
  State.stopGens_keeps rfl (State.lawsOff_keeps rfl (Keeps.refl _ s))
theorem lv_buckOff : s.buckOff.lv = { s.lv with held := [false, false, false, false] } := by
  unfold State.buckOff
  rw [lv_modLvSeq, buckLawsOff_keeps.lv rfl]
theorem dtb_buckOff : s.buckOff.dtb = s.dtb := by
  unfold State.buckOff
  rw [dtb_modLvSeq, buckLawsOff_keeps.dtb rfl]

theorem lv_dcxForward : s.dcxForward.lv = { s.lv with dcxReverse := false, dcxAt := s.dtb } := by
  unfold State.dcxForward
  dsimp only
  have hoff : Keeps 25090 s (s.dcxOff.clearTrips dcxGens) := State.clearTrips_keeps rfl dcxOff_keeps_lv
  have hlv : ((s.dcxOff.clearTrips dcxGens).modLvSeq (fun l => { l with dcxReverse := false, dcxAt := s.dtb })).lv =
      { s.lv with dcxReverse := false, dcxAt := s.dtb } := by rw [lv_modLvSeq, hoff.lv rfl]
  refine Eq.trans ?_ hlv
  exact (State.groupStart_keeps (K := 28674) rfl (State.lawsOn_keeps rfl (State.setShadow_keeps rfl (State.setShadow_keeps rfl (State.setShadow_keeps rfl
    (State.genSet_keeps rfl (State.genSet_keeps rfl (State.genSet_keeps rfl (Keeps.refl _ _))))))))).lv rfl

theorem dtb_dcxForward : s.dcxForward.dtb = s.dtb := (State.dcxForward_keeps (K := 2147512834) rfl (Keeps.refl _ s)).dtb rfl
theorem lv_dcxRelease : s.dcxRelease.lv = s.lv := (State.dcxRelease_keeps (K := 1589250) rfl (Keeps.refl _ s)).lv rfl
theorem dtb_dcxRelease : s.dcxRelease.dtb = s.dtb := (State.dcxRelease_keeps (K := 1589250) rfl (Keeps.refl _ s)).dtb rfl
theorem lv_rectifierOn : s.rectifierOn.lv = s.lv := (State.rectifierOn_keeps (K := 16386) rfl (Keeps.refl _ s)).lv rfl
theorem dtb_rectifierOn : s.rectifierOn.dtb = s.dtb := (State.rectifierOn_keeps (K := 16386) rfl (Keeps.refl _ s)).dtb rfl

theorem lv_lvToFault (c : Nat) : (s.lvToFault c).lv = { s.lv with held := [false, false, false, false], st := lvFault, since := s.dtb } := by
  unfold State.lvToFault
  rw [lv_putNat, lv_setLv, lv_dcxOff, lv_buckOff, dtb_dcxOff, dtb_buckOff]
theorem lv_lvToOff : s.lvToOff.lv = { s.lv with held := [false, false, false, false], st := lvOff, since := s.dtb } := by
  unfold State.lvToOff
  rw [lv_setLv, lv_dcxOff, lv_buckOff, dtb_dcxOff, dtb_buckOff]
theorem dtb_lvToFault (c : Nat) : (s.lvToFault c).dtb = s.dtb := (State.lvToFault_keeps (K := 2148033030) rfl (Keeps.refl _ s)).dtb rfl
theorem mg_lvToFault (c : Nat) : (s.lvToFault c).mg = s.mg := (State.lvToFault_keeps (K := 2148033030) rfl (Keeps.refl _ s)).mg rfl
theorem dtb_lvToOff : s.lvToOff.dtb = s.dtb := (State.lvToOff_keeps (K := 2148033030) rfl (Keeps.refl _ s)).dtb rfl

theorem st_feedClear : s.feedClear.lv.st = s.lv.st := by
  unfold State.feedClear
  split
  · rw [lv_modLvSeq, (State.clearTrips_keeps (K := 16386) rfl (Keeps.refl _ s)).lv rfl]
  · rfl
theorem dtb_feedClear : s.feedClear.dtb = s.dtb := (State.feedClear_keeps (K := 2147500034) rfl (Keeps.refl _ s)).dtb rfl

/-- A hiccup of the DCX (R328): the fifth gives FAULT. -/
theorem lv_hiccup : s.hiccup.lv.hiccups = s.lv.hiccups + 1 ∧ s.hiccup.lv.st = (if 4 ≤ s.lv.hiccups then lvFault else lvDcxWait) ∧
    s.hiccup.dtb = s.dtb := by
  have hcount : (s.dcxOff.modLvSeq (fun l => { l with hiccups := l.hiccups + 1 })).lv = { s.lv with hiccups := s.lv.hiccups + 1 } := by
    rw [lv_modLvSeq, lv_dcxOff]
  have hdtb : s.hiccup.dtb = s.dtb := (State.hiccup_keeps (K := 2148033030) rfl (Keeps.refl _ s)).dtb rfl
  rw [hdtb]
  unfold State.hiccup
  dsimp only
  rw [hcount]
  by_cases h4 : 4 ≤ s.lv.hiccups
  · rw [if_pos (by simpa using h4), if_pos h4, lv_putNat, lv_setLv, lv_buckOff, hcount]
    exact ⟨rfl, rfl, rfl⟩
  · rw [if_neg (by simpa using h4), if_neg h4, lv_setLv, hcount]
    exact ⟨rfl, rfl, rfl⟩

theorem lv_ovHiccup : s.ovHiccup.lv.hiccups = s.lv.hiccups + 1 ∧ s.ovHiccup.lv.st = s.lv.st ∧ s.ovHiccup.dtb = s.dtb := by
  have hcount : (s.dcxOff.modLvSeq (fun l => { l with hiccups := l.hiccups + 1 })).lv = { s.lv with hiccups := s.lv.hiccups + 1 } := by
    rw [lv_modLvSeq, lv_dcxOff]
  have hset : ∀ u : State, (u.setf Reg.LVC_STAT Fld.LVC_STAT_dcx_flt 1).lv = u.lv := fun u => State.setf_lv u
  refine ⟨?_, ?_, (State.ovHiccup_keeps (K := 2147508738) rfl (Keeps.refl _ s)).dtb rfl⟩
  all_goals
    unfold State.ovHiccup
    dsimp only
    rw [hcount]
    by_cases h5 : 5 ≤ s.lv.hiccups + 1
    · rw [if_pos h5, lv_modLvSeq, hset, hcount]
    · rw [if_neg h5, lv_modLvSeq, hcount]

/-- Power-good ends the soft start (R334, R337). -/
def State.powerGood (s : State) : State :=
  let s := ((s.setLv lvRun).modLvSeq (fun l => { l with retries := 0 })).refreshPg
  { s with charge := s.charge.modify 1 (fun c => { c with cycled := 2 }) }

theorem lv_powerGood : s.powerGood.lv.st = lvRun ∧ s.powerGood.lv.retries = 0 ∧ s.powerGood.lv.since = s.dtb := by
  unfold State.powerGood State.refreshPg
  dsimp only
  rw [lv_modLvSeq, State.setb_lv, lv_modLvSeq, lv_setLv]
  exact ⟨rfl, rfl, rfl⟩

/-- The soft start has failed (R337). -/
def State.startFailed (s : State) : State :=
  let s := (s.buckOff.modLvSeq (fun l => { l with retries := l.retries + 1 })).inc Reg.LVC_CNT_RETRY
  if 4 ≤ s.lv.retries then s.lvToFault 3 else s.setLv lvRetry

theorem lv_startFailed : s.startFailed.lv.retries = s.lv.retries + 1 ∧ s.startFailed.lv.st = if 3 ≤ s.lv.retries then lvFault else lvRetry := by
  have hcount : ((s.buckOff.modLvSeq (fun l => { l with retries := l.retries + 1 })).inc Reg.LVC_CNT_RETRY).lv =
      { s.lv with held := [false, false, false, false], retries := s.lv.retries + 1 } := by
    rw [State.inc_lv, lv_modLvSeq, lv_buckOff]
  unfold State.startFailed
  dsimp only
  rw [hcount]
  by_cases h3 : 3 ≤ s.lv.retries
  · rw [if_pos (by simpa using h3), if_pos h3, lv_lvToFault, hcount]
    exact ⟨rfl, rfl⟩
  · rw [if_neg (by simpa using h3), if_neg h3, lv_setLv, hcount]
    exact ⟨rfl, rfl⟩

/-- The converter stops because its feed is lost, and its trip flags wait for TL4 (R338). -/
def State.feedGone (s : State) : State := (s.lvToOff.modLvSeq (fun l => { l with tl4Clear := true })).feedClear

theorem lv_feedGone : s.feedGone.lv.st = lvOff ∧ s.feedGone.dtb = s.dtb := by
  unfold State.feedGone
  rw [st_feedClear, lv_modLvSeq, lv_lvToOff, dtb_feedClear, dtb_modLvSeq, dtb_lvToOff]
  exact ⟨rfl, rfl⟩

/-- The registers of a team's domain that a stop of the converter leaves. -/
theorem keepsPower_lvStop (h : s.Inv) : KeepsRegs (· = Reg.PWR_STAT) s (s.buckOff.dcxOff) := by
  have hP := driveBlock_ne pwrStat_outside
  have hbuck : KeepsRegs (· = Reg.PWR_STAT) s ((s.lawsOff [(6, 1), (6, 2)]).stopGens buckGens) :=
    ((KeepsRegs.refl h).lawsOff hP (by decide)).stopGens hP (by decide)
  have hmod : KeepsRegs (· = Reg.PWR_STAT) s s.buckOff := ⟨modLvSeq_inv hbuck.1, hbuck.2⟩
  exact (hmod.lawsOff hP (by decide)).stopGens hP (by decide)

/-- A fault of the converter is published with its cause. -/
theorem lvToFault_cause (h : s.Inv) {c : Nat} (hp : s.Publishes (lsig 0x211)) : ((s.lvToFault c).sig (lsig 0x211)).value = W c := by
  have hk := keepsPower_lvStop h
  have hd : s.buckOff.dcxOff.descs = s.descs := (dcxOff_keeps_lv.descs rfl).trans ((State.buckOff_keeps (K := 2147508738) rfl (Keeps.refl _ s)).descs rfl)
  have hi : (s.buckOff.dcxOff.setLv lvFault).Inv := putVal_inv (modLvSeq_inv hk.1)
  unfold State.lvToFault State.putNat
  refine value_putVal_same hi (publishes_of ?_ ?_ hp)
  · exact (rd_putVal _ _ _ _ _).trans (hk.2 _ rfl)
  · exact (descs_putVal _ _ _ _).trans hd

/-- Settles O35: each step by what it makes of the sequencer's state. -/
theorem lvStates : Obligations.LvStates := by
  intro s h hteam hp210 hp211
  have hon := onTeam_of hteam
  refine ⟨?_, ?_, ?_, ?_, ?_, ?_, ?_, ?_, ?_, ?_, ?_, ?_, ?_, ?_, ?_, ?_, ?_⟩
  · intro hst hreq hall hlo hhi
    refine runs_next (t := s.setLv lvCheck) ?_ ⟨by rw [lv_setLv], by rw [lv_setLv], ?_⟩
    · rw [exec_lvSequencerStart, execLvSequencerStart, hon, hst, hreq, hall]
      simp only [decide_true, Bool.and_self, if_true, hlo, hhi]
    · exact value_putVal_same (modLvSeq_inv h) (publishes_of rfl rfl hp210)
  · intro hst hreq hall hlo hfeed
    refine runs_next (t := s.dcxForward.setLv lvDcxStart) ?_ ?_
    · rw [exec_lvSequencerStart, execLvSequencerStart, hon, hst, hreq, hall, if_pos (by decide), if_neg (Int.not_le.mpr hlo), if_pos hfeed]
    · rw [lv_setLv, lv_dcxForward]
      exact ⟨rfl, rfl, rfl⟩
  · intro hst hgood hle
    refine runs_next (t := s.rectifierOn.setLv lvCheck) ?_ ?_
    · rw [exec_dcxIbGood, execDcxIbGood, hon, hgood, hst]
      simp only [decide_true, Bool.true_and, decide_eq_true hle, if_true, Bool.not_true, Bool.false_eq_true, if_false]
    · rw [lv_setLv, dtb_rectifierOn]
      exact ⟨rfl, rfl⟩
  · intro hst
    refine runs_next (t := (s.reach (s.lv.since + cyclesMs 12)).hiccup) ?_ ?_
    · rw [exec_dcxStartTimeout, execDcxStartTimeout, hon, if_pos hst]
    · obtain ⟨hh, hs, hd⟩ := lv_hiccup (s := s.reach (s.lv.since + cyclesMs 12))
      exact ⟨hh, hd, hs⟩
  · intro hst
    refine runs_next (t := ((s.reach (s.lv.since + cyclesMs 100)).dcxRelease.dcxForward).setLv lvDcxStart) ?_ ⟨by rw [lv_setLv], ?_⟩
    · rw [exec_dcxWaitEnd, execDcxWaitEnd, hon, if_pos hst]
    · rw [dtb_setLv, dtb_dcxForward, dtb_dcxRelease]
      rfl
  · intro hst hcomp hcfg
    refine runs_next (t := s.softStart) ?_ ?_
    · rw [exec_lvCheckDone, execLvCheckDone, hon, if_neg (not_not.mpr hst), hcomp, if_neg (by decide)]
    · have hk : Keeps 28674 s ((s.lawsOn [(6, 1), (6, 2)]).groupStart buckGens) := State.groupStart_keeps rfl (State.lawsOn_keeps rfl (Keeps.refl _ s))
      have hv : ((s.lawsOn [(6, 1), (6, 2)]).groupStart buckGens).vOut = s.vOut := by
        unfold State.vOut State.q15 State.val State.sig
        rw [hk.sigs rfl]
      unfold State.softStart
      rw [hcfg, Bool.not_true, if_neg (by decide)]
      dsimp only
      rw [lv_setLv, lv_modLvSeq, hv]
      exact ⟨rfl, rfl, rfl⟩
  · intro mv hst hcomp hmv
    refine runs_next (t := ((s.reach (s.lv.since + 100 * Config.usCycles)).setf Reg.LVC_STAT Fld.LVC_STAT_hs_short 1).lvToFault 2) ?_ ⟨by rw [lv_lvToFault], ?_⟩
    · rw [exec_lvCheckDone, execLvCheckDone, hon, if_neg (not_not.mpr hst), hcomp, if_pos rfl]
      refine congrArg Host.Outcome.next (if_pos ?_)
      rw [List.any_cons, List.any_nil, Bool.or_false]
      exact decide_eq_true hmv
    · exact lvToFault_cause (setf_inv (reach_inv h)) (publishes_of (rd_setf_other (reach_inv h) (by decide)) (State.setf_descs _) hp211)
  · intro hst hpg
    refine runs_next (t := s.powerGood) ?_ lv_powerGood
    rw [exec_lvPowerGood, execLvPowerGood, hon, hst, hpg]
    rfl
  · intro hst hpg
    refine runs_next (t := (s.reach (s.lv.since + cyclesMs (s.tss + 5))).startFailed) ?_ (lv_startFailed (s := s.reach (s.lv.since + cyclesMs (s.tss + 5))))
    rw [exec_lvSoftstartFail, execLvSoftstartFail, hon, hst, hpg]
    rfl
  · intro hst
    refine runs_next (t := (s.reach (s.lv.since + cyclesMs 200)).setLv lvCheck) ?_ ⟨by rw [lv_setLv], by rw [dtb_setLv]; rfl⟩
    rw [exec_lvRetryWaitEnd, execLvRetryWaitEnd, hon, if_pos hst]
  · intro held hst hib hheld
    refine runs_next (t := s.feedGone) ?_ lv_feedGone.1
    rw [exec_lvFeedLost, execLvFeedLost, hon, hst]
    refine congrArg Host.Outcome.next (if_pos ?_)
    rw [decide_eq_true hib, decide_eq_true (show Config.msCycles ≤ held from hheld)]
    simp
  · intro lost hlost hreq hfired
    refine runs_next (t := (((s.reach (lost + cyclesMs 1500)).report 12 (scopeOf lvStage 7) rxSafe).lvToFault 6).modLvSeq (fun l => { l with fired := true })) ?_ ?_
    · rw [exec_lvSupervisorFire, execLvSupervisorFire, hon, hlost]
      simp only [hreq, hfired, Bool.not_false, Bool.and_self, if_true]
    · rw [lv_modLvSeq, lv_lvToFault, dtb_modLvSeq, dtb_lvToFault]
      refine ⟨rfl, rfl, rfl, ?_⟩
      exact congrArg (·.reports) (mg_lvToFault 6)
  · intro hst
    refine runs_next (t := (s.reach (s.lv.since + cyclesMs 1000)).modLvSeq (fun l => { l with hiccups := 0 })) ?_ ⟨rfl, hst⟩
    rw [exec_hiccupCountReset, execHiccupCountReset, hon, if_pos hst]
  · intro hst hwant
    refine runs_next (t := s.lvToOff) ?_ (by rw [lv_lvToOff])
    rw [exec_lvStop, execLvStop, hon, hst, hwant]
    rfl
  · intro hst hclr
    refine runs_next (t := (s.modLvSeq (fun l => { l with hiccups := 0, retries := 0, cleared := false })).setLv lvOff) ?_ ?_
    · rw [exec_lvFaultClear, execLvFaultClear, hon, hst, hclr]
      rfl
    · rw [lv_setLv]
      exact ⟨rfl, rfl, rfl, rfl⟩
  · intro hst hact hrev hfeed
    refine runs_next (t := s.feedGone) ?_ lv_feedGone
    rw [exec_lvFeedLost, execLvFeedLost, hon, hst, hact, hrev, hfeed]
    refine congrArg Host.Outcome.next (if_pos ?_)
    simp
  · intro hst hact hrun hwait
    refine runs_next (t := (s.reach (s.lv.dcxAt + cyclesMs 12)).ovHiccup) ?_ ?_
    · rw [exec_dcxStartTimeout, execDcxStartTimeout, hon, hst, hact, hrun, hwait]
      rfl
    · obtain ⟨hh, hs, hd⟩ := lv_ovHiccup (s := s.reach (s.lv.dcxAt + cyclesMs 12))
      exact ⟨hs.trans hst, hh, hd⟩

end Sys2Proof.Machine
end

section
/-! PROOFS. The two charge machines (R310-R313). -/

namespace Sys2Proof.Machine

set_option Elab.async false

variable {s t : State}

/-! ## A charge machine's parts -/

theorem ch_modCh (h : s.Inv) {m : Nat} (hm : m < 2) (f : ChargeSt → ChargeSt) : (s.modCh m f).ch m = f (s.ch m) :=
  getD_modify_same _ _ _ _ (by rw [h.charge]; exact hm)
theorem modCh_inv (h : s.Inv) {m : Nat} {f : ChargeSt → ChargeSt} : (s.modCh m f).Inv :=
  (State.modCh_keeps (K := 134217728) rfl (Keeps.refl _ s)).inv h
theorem ch_congr (h : t.charge = s.charge) (m : Nat) : t.ch m = s.ch m := by unfold State.ch; rw [h]
theorem val_congr (h : t.sigs = s.sigs) (a : Nat) : t.val a = s.val a := by unfold State.val State.sig; rw [h]
theorem val_modCh (m a : Nat) (f : ChargeSt → ChargeSt) : (s.modCh m f).val a = s.val a := rfl
theorem chState_modCh (m k : Nat) (f : ChargeSt → ChargeSt) : (s.modCh m f).chState k = s.chState k := rfl

/-! ## Entering a state -/

variable {m n : Nat}

/-- A machine in a new state, before the HV machine arms its supervisor. -/
def State.chEntered (s : State) (m n : Nat) : State :=
  (s.putNat (chargeSig m) n).modCh m (fun c => { c with since := (s.putNat (chargeSig m) n).dtb, termAt := none, testAt := none })

theorem setCh_eq : s.setCh m n = if m = 0 then (s.chEntered m n).armSupervisor else s.chEntered m n := rfl

theorem chEntered_inv (h : s.Inv) : (s.chEntered m n).Inv := modCh_inv (putNat_inv h)

/-- The arming of the supervisor writes registers only. -/
theorem setCh_keeps_entered : Keeps 2 (s.chEntered m n) (s.setCh m n) := by
  rw [setCh_eq]
  split
  · exact State.armSupervisor_keeps rfl (Keeps.refl _ _)
  · exact Keeps.refl _ _

theorem setCh_inv (h : s.Inv) : (s.setCh m n).Inv := setCh_keeps_entered.inv (chEntered_inv h)
theorem dtb_setCh : (s.setCh m n).dtb = s.dtb :=
  (setCh_keeps_entered.dtb rfl).trans ((State.putNat_keeps (K := 532996) rfl (Keeps.refl _ s)).dtb rfl)
theorem descs_setCh : (s.setCh m n).descs = s.descs :=
  (setCh_keeps_entered.descs rfl).trans ((State.putNat_keeps (K := 532996) rfl (Keeps.refl _ s)).descs rfl)
theorem val_setCh_other (h : s.Inv) {a : Nat} (ha : a ≠ chargeSig m) : (s.setCh m n).val a = s.val a :=
  (val_congr (setCh_keeps_entered.sigs rfl) a).trans (val_putNat_other h ha)

theorem chState_setCh (h : s.Inv) (hp : s.Publishes (chargeSig m)) (hn : n < 2 ^ 32) : (s.setCh m n).chState m = n :=
  (val_congr (setCh_keeps_entered.sigs rfl) _).trans ((val_putNat_same h hp).trans (Nat.mod_eq_of_lt hn))

theorem ch_setCh (h : s.Inv) (hm : m < 2) : (s.setCh m n).ch m = { s.ch m with since := s.dtb, termAt := none, testAt := none } := by
  have hk := State.putNat_keeps (K := 532996) (id := chargeSig m) (v := n) rfl (Keeps.refl _ s)
  rw [ch_congr (setCh_keeps_entered.charge rfl)]
  unfold State.chEntered
  rw [ch_modCh (putNat_inv h) hm, ch_congr (hk.charge rfl), hk.dtb rfl]

/-- The HV machine's supervisor is armed in the live states only (R310). -/
theorem chsEn_setCh (h : s.Inv) : (s.setCh 0 n).fld Reg.CHS_CTRL Fld.CHS_CTRL_en = if (s.setCh 0 n).chLive 0 then 1 else 0 := by
  have hlive : (s.setCh 0 n).chLive 0 = (s.chEntered 0 n).chLive 0 := by
    unfold State.chLive State.chState
    rw [val_congr (setCh_keeps_entered.sigs rfl)]
  rw [hlive, setCh_eq, if_pos rfl]
  unfold State.armSupervisor
  have hi := chEntered_inv (m := 0) (n := n) h
  generalize s.chEntered 0 n = u at hi ⊢
  have hlive' : (u.setb Reg.CHS_CTRL Fld.CHS_CTRL_en (u.chLive 0)).chLive 0 = u.chLive 0 := rfl
  dsimp only
  rw [hlive']
  cases u.chLive 0
  · rw [if_neg (by decide)]
    exact (fld_setf_same hi (by decide)).trans rfl
  · rw [if_pos rfl, fld_setf_other (setb_inv hi) (by decide)]
    exact (fld_setf_same hi (by decide)).trans rfl

theorem rd_pwrStat_setCh (h : s.Inv) : (s.setCh m n).rd Reg.PWR_STAT = s.rd Reg.PWR_STAT := by
  have he : (s.chEntered m n).rd Reg.PWR_STAT = s.rd Reg.PWR_STAT := rd_putVal _ _ _ _ _
  rw [setCh_eq]
  split
  · refine Eq.trans ?_ he
    have hi := chEntered_inv (m := m) (n := n) h
    unfold State.armSupervisor
    dsimp only
    split
    · exact (rd_setf_other (setb_inv hi) (by decide)).trans (rd_setb_other hi (by decide))
    · exact rd_setb_other hi (by decide)
  · exact he

theorem publishes_setCh (h : s.Inv) {a : Nat} (hp : s.Publishes a) : (s.setCh m n).Publishes a := publishes_of (rd_pwrStat_setCh h) descs_setCh hp

/-! ## The isolation stage -/

theorem isoOff_power (h : s.Inv) : KeepsRegs (· = Reg.PWR_STAT) s s.isoOff :=
  ((KeepsRegs.refl h).lawsOff (driveBlock_ne pwrStat_outside) (by decide)).stopGens (driveBlock_ne pwrStat_outside) (by decide)
theorem isoOff_parts : Keeps 25090 s s.isoOff := State.isoOff_keeps rfl (Keeps.refl _ s)
theorem publishes_isoOff (h : s.Inv) {a : Nat} (hp : s.Publishes a) : s.isoOff.Publishes a :=
  publishes_of ((isoOff_power h).2 _ rfl) (isoOff_parts.descs rfl) hp

theorem isoOn_power (h : s.Inv) : KeepsRegs (· = Reg.PWR_STAT) s s.isoOn :=
  KeepsRegs.ite (fun _ => KeepsRegs.refl h)
    (fun _ => ((KeepsRegs.refl h).lawsOn (driveBlock_ne pwrStat_outside) (by decide)).groupStart (driveBlock_ne pwrStat_outside) (by decide))
theorem isoOn_parts : Keeps 28674 s s.isoOn := State.isoOn_keeps rfl (Keeps.refl _ s)

theorem clearTrips_power (h : s.Inv) : KeepsRegs (· = Reg.PWR_STAT) s (s.clearTrips isoGens) :=
  (KeepsRegs.refl h).clearTrips (driveBlock_ne pwrStat_outside) (by decide)
theorem clearTrips_parts : Keeps 16386 s (s.clearTrips isoGens) := State.clearTrips_keeps rfl (Keeps.refl _ s)

/-! ## Faults -/

theorem chZero_inv (h : s.Inv) : (s.chZero m).Inv := modCh_inv h
theorem publishes_chZero {a : Nat} (hp : s.Publishes a) : (s.chZero m).Publishes a := publishes_of rfl rfl hp

theorem chToFault_effect (h : s.Inv) (hm : m < 2) (hp : s.Publishes (chargeSig m)) (c : Nat) :
    (s.chToFault m c).chState m = chFaultSt ∧ (s.chToFault m c).dtb = s.dtb := by
  refine ⟨?_, (State.chToFault_keeps (K := 134767110) rfl (Keeps.refl _ s)).dtb rfl⟩
  have hset : ((s.chZero m).setCh m chFaultSt).chState m = chFaultSt := chState_setCh (chZero_inv h) (publishes_chZero hp) (by decide)
  have hi : (((s.chZero m).setCh m chFaultSt).modCh m (fun c => { c with cycled := 0 })).Inv := modCh_inv (setCh_inv (chZero_inv h))
  unfold State.chToFault
  dsimp only
  split
  · refine Eq.trans ?_ hset
    unfold State.chState
    rw [val_putNat_other (isoOff_power hi).1 (by subst_vars; decide), val_congr (isoOff_parts.sigs rfl)]
    rfl
  · exact hset

/-! ## The steps -/

theorem chargeSig_publishes (h : ∀ i, i ∈ [csig 0x200, csig 0x201, lsig 0x200] → s.Publishes i) (m : Nat) : s.Publishes (chargeSig m) := by
  unfold chargeSig
  split
  · exact h _ (by simp)
  · exact h _ (by simp)

/-- A test finds the battery absent (R313). -/
def State.batteryAbsent (s : State) : State :=
  let s := s.setCh 1 chNoBattery
  s.modCh 1 (fun c => { c with testAt := none, testNext := msEnd s.dtb 10000 })

theorem batteryAbsent_effect (h : s.Inv) (hp : s.Publishes (chargeSig 1)) : s.batteryAbsent.chState 1 = chNoBattery ∧ s.batteryAbsent.dtb = s.dtb ∧
    (s.batteryAbsent.ch 1).testAt = none ∧ (s.batteryAbsent.ch 1).testNext = msEnd s.dtb 10000 := by
  unfold State.batteryAbsent
  dsimp only
  rw [chState_modCh, chState_setCh h hp (by decide), ch_modCh (setCh_inv h) (by decide)]
  exact ⟨rfl, dtb_setCh, rfl, congrArg (msEnd · 10000) dtb_setCh⟩

/-- A test finds the battery present (R313). -/
def State.batteryPresent (s : State) : State :=
  let s := s.modCh 1 (fun c => { c with testAt := none, tested := true })
  if s.chState 1 = chNoBattery then s.setCh 1 chQualify else s

theorem batteryPresent_effect (h : s.Inv) (hp : s.Publishes (chargeSig 1)) : s.batteryPresent.dtb = s.dtb ∧ (s.batteryPresent.ch 1).testAt = none ∧
    (s.batteryPresent.ch 1).tested = true ∧ s.batteryPresent.chState 1 = if s.chState 1 = chNoBattery then chQualify else s.chState 1 := by
  have hi := modCh_inv (m := 1) (f := fun c => { c with testAt := none, tested := true }) h
  have hch := ch_modCh h (m := 1) (by decide) (fun c => { c with testAt := none, tested := true })
  unfold State.batteryPresent
  dsimp only
  rw [chState_modCh]
  split
  · rw [ch_setCh hi (by decide), hch, chState_setCh hi (publishes_of rfl rfl hp) (by decide)]
    exact ⟨dtb_setCh, rfl, rfl, rfl⟩
  · rw [hch]
    exact ⟨rfl, rfl, rfl, rfl⟩

/-- The isolation stage stops with its trips cleared, and the HV machine's current is 0 (R311). -/
def State.isolationHeld (s : State) : State := ((s.chZero 0).isoOff.clearTrips isoGens).isoOff

theorem isolationHeld_effect (h : s.Inv) (hp : s.Publishes (chargeSig 0)) : s.isolationHeld.Inv ∧ s.isolationHeld.Publishes (chargeSig 0) ∧
    s.isolationHeld.ch 0 = { s.ch 0 with iset := 0, cap := some 0 } := by
  have hz := chZero_inv (m := 0) h
  have hoff := isoOff_power hz
  have hclr := clearTrips_power hoff.1
  refine ⟨(isoOff_power hclr.1).1, ?_, ?_⟩
  · exact publishes_isoOff hclr.1 (publishes_of (hclr.2 _ rfl) (clearTrips_parts.descs rfl) (publishes_isoOff hz (publishes_chZero hp)))
  · unfold State.isolationHeld
    rw [ch_congr (isoOff_parts.charge rfl), ch_congr (clearTrips_parts.charge rfl), ch_congr (isoOff_parts.charge rfl)]
    exact ch_modCh h (by decide) _

/-- The termination timer has run out (R311). -/
def State.toppingOff (s : State) (m : Nat) : State :=
  let s := s.setCh m chTopoff
  let p := s.freeFloor (10 * s.termBase m) (s.termDiv m)
  p.2.modCh m (fun c => { c with cap := some p.1.toNat, topAt := msEnd p.2.dtb (p.2.tTop m * 60000) })

theorem toppingOff_effect (h : s.Inv) (hm : m < 2) (hp : s.Publishes (chargeSig m)) : (s.toppingOff m).dtb = s.dtb ∧
    (s.toppingOff m).chState m = chTopoff ∧ ((s.toppingOff m).ch m).topAt = msEnd s.dtb (s.tTop m * 60000) := by
  have hi := setCh_inv (m := m) (n := chTopoff) h
  have hk := State.freeFloor_keeps (K := 128) (n := 10 * (s.setCh m chTopoff).termBase m) (d := (s.setCh m chTopoff).termDiv m) rfl (Keeps.refl _ (s.setCh m chTopoff))
  have htop : (s.setCh m chTopoff).tTop m = s.tTop m := by
    unfold State.tTop State.lvProfile
    split
    · rw [val_setCh_other h (by subst_vars; decide)]
    · have hm1 : m = 1 := by omega
      subst hm1
      rw [ch_setCh h (by decide)]
  unfold State.toppingOff
  dsimp only
  generalize (s.setCh m chTopoff).freeFloor _ _ = p at hk ⊢
  have htop' : p.2.tTop m = s.tTop m := by
    refine Eq.trans ?_ htop
    unfold State.tTop State.lvProfile
    rw [val_congr (hk.sigs rfl), ch_congr (hk.charge rfl)]
  rw [chState_modCh, ch_modCh (hk.inv hi) hm, hk.dtb rfl, dtb_setCh, htop']
  refine ⟨(hk.dtb rfl).trans dtb_setCh, ?_, rfl⟩
  unfold State.chState
  rw [val_congr (hk.sigs rfl)]
  exact chState_setCh h hp (by decide)

/-- Settles O33: each step by what it makes of the machine's state. -/
theorem chargeMachines : Obligations.ChargeMachines := by
  intro s h hteam hpub
  have hon := onTeam_of hteam
  have hp := chargeSig_publishes hpub
  have hcharger : s.hasCharger = true → ∀ u, onCharger s u = .next u := fun hc u => by
    unfold onCharger onPlane
    rw [hon, if_pos hc]
  refine ⟨?_, ?_, ?_, ?_, ?_, ?_, ?_, ?_, ?_, ?_, ?_, ?_, ?_, ?_, ?_, ?_, ?_, ?_⟩
  · intro hst hmay
    refine runs_ofUnit (t := s.setCh 0 chQualify) ?_ (by decide : decide (0 < 2) = true) ⟨chState_setCh h (hp 0) (by decide), ?_, ?_⟩
    · rw [exec_chargeRequest, execChargeRequest, hon, hmay]
      refine congrArg (ofUnit _) ((if_pos rfl).trans (if_pos ?_))
      simpa using hst
    · rw [ch_setCh h (by decide)]
    · rw [chsEn_setCh h]
      unfold State.chLive
      rw [chState_setCh h (hp 0) (by decide)]
      rfl
  · intro hst
    refine runs_ofUnit (t := s.setCh 1 chQualify) ?_ (by decide : decide (1 < 2) = true) ⟨chState_setCh h (hp 1) (by decide), ?_⟩
    · rw [exec_chargeRequest, execChargeRequest, hon]
      refine congrArg (ofUnit _) ((if_neg (by decide)).trans (if_pos ?_))
      simpa [and_assoc] using hst
    · rw [ch_setCh h (by decide)]
  · intro m v hm hst hsrc hlo hhi
    have hrun : ∀ u, (if (decide (s.chState m = chQualify) && s.chSource m && decide (s.vMin m ≤ v) && decide (v ≤ s.vCv m)) = true then u else s) = u := fun u =>
      if_pos (by rw [hst, hsrc, decide_eq_true hlo, decide_eq_true hhi]; rfl)
    by_cases hbad : m = 0 ∧ s.isoConfigOk = false
    · obtain ⟨rfl, hcfg⟩ := hbad
      refine runs_ofUnit (t := s.chToFault 0 1) ?_ (by decide : decide (0 < 2) = true) ?_
      · rw [exec_chargeQualified, execChargeQualified, hon, hrun, hcfg]
        rfl
      · rw [if_pos ⟨rfl, hcfg⟩]
        exact (chToFault_effect h hm (hp 0) 1).1
    · refine runs_ofUnit (t := ((if m = 0 then s.isoOn else s).modCh m (fun c => { c with cap := none })).setCh m chCc) ?_ (decide_eq_true hm) ?_
      · rw [exec_chargeQualified, execChargeQualified, hon, hrun]
        refine congrArg (ofUnit _) (if_neg ?_)
        simpa using hbad
      · rw [if_neg hbad]
        have hpre : (if m = 0 then s.isoOn else s).Inv ∧ (if m = 0 then s.isoOn else s).Publishes (chargeSig m) := by
          split
          · exact ⟨(isoOn_power h).1, publishes_of ((isoOn_power h).2 _ rfl) (isoOn_parts.descs rfl) (hp m)⟩
          · exact ⟨h, hp m⟩
        generalize (if m = 0 then s.isoOn else s) = u at hpre ⊢
        have hmod : (u.modCh m (fun c => { c with cap := none })).Inv := modCh_inv hpre.1
        refine ⟨chState_setCh hmod (publishes_of rfl rfl hpre.2) (by decide), ?_⟩
        rw [ch_setCh hmod hm, ch_modCh hpre.1 hm]
  · intro m v hm hst hv
    have hrun : ∀ u, (if s.chState m = chQualify then u else s) = u := fun u => if_pos hst
    by_cases hm0 : m = 0
    · subst hm0
      refine runs_ofUnit (t := (s.reach (msEnd (s.ch 0).since 10000)).chToFault 0 2) ?_ (by decide : decide (0 < 2) = true) ?_
      · rw [exec_chargeQualifyTimeout, execChargeQualifyTimeout, hon, hrun]
        rfl
      · exact chToFault_effect (reach_inv h) hm (hp 0) 2
    · obtain rfl : m = 1 := by omega
      refine runs_ofUnit (t := (s.reach (msEnd (s.ch 1).since (if s.lvProfile = 0 then 600000 else 1800000))).chToFault 1 2) ?_ (by decide : decide (1 < 2) = true) ?_
      · rw [exec_chargeQualifyTimeout, execChargeQualifyTimeout, hon, hrun]
        exact congrArg (ofUnit _) ((if_neg (by decide)).trans (if_pos (hv.resolve_left (by decide))))
      · exact chToFault_effect (reach_inv h) hm (hp 1) 2
  · intro m v hm hst hv
    refine runs_ofUnit (t := (s.modCh m (fun c => { c with tested := false })).setCh m chCv) ?_ (decide_eq_true hm)
      ⟨chState_setCh (modCh_inv h) (publishes_of rfl rfl (hp m)) (by decide), ?_⟩
    · rw [exec_chargeCvReached, execChargeCvReached, hon]
      exact congrArg (ofUnit _) (if_pos (by rw [hst, decide_eq_true hv]; rfl))
    · rw [ch_setCh (modCh_inv h) hm, ch_modCh h hm]
  · intro m i hm hst hbelow hnone htest
    refine runs_ofUnit (t := s.modCh m (fun c => { c with termAt := some (msEnd s.dtb 30000) })) ?_ (decide_eq_true hm) (by rw [ch_modCh h hm])
    rw [exec_chargeTerminationStart, execChargeTerminationStart, hon, if_pos hst]
    refine congrArg (ofUnit _) ((if_pos hbelow).trans (if_pos ?_))
    rw [hnone]
    simpa using htest
  · intro m n hm hterm
    refine runs_ofUnit (t := (s.reach n).toppingOff m) ?_ (decide_eq_true hm) ?_
    · rw [exec_chargeTermination, execChargeTermination, hon, hterm]
      rfl
    · obtain ⟨hdtb, hst, htop⟩ := toppingOff_effect (s := s.reach n) (reach_inv h) hm (publishes_of rfl rfl (hp m))
      refine ⟨hdtb, hst, htop.trans ?_⟩
      rw [hdtb]
      rfl
  · intro m hm hst
    refine runs_ofUnit (t := ((s.reach (s.ch m).topAt).chZero m).setCh m chDone) ?_ (decide_eq_true hm) ?_
    · rw [exec_chargeTopoffEnd, execChargeTopoffEnd, hon, if_pos hst]
    · have hz := chZero_inv (m := m) (reach_inv (t := (s.ch m).topAt) h)
      refine ⟨dtb_setCh, chState_setCh hz (publishes_of rfl rfl (hp m)) (by decide), ?_⟩
      rw [ch_setCh hz hm]
      unfold State.chZero
      rw [ch_modCh (reach_inv h) hm]
      exact ⟨rfl, rfl⟩
  · intro m v ms hm hst hv hms hsrc
    refine runs_ofUnit (t := s.setCh m chQualify) ?_ (decide_eq_true hm) (chState_setCh h (hp m) (by decide))
    rw [exec_chargeRecharge, execChargeRecharge, hon]
    exact congrArg (ofUnit _) (if_pos (by rw [hst, hsrc, decide_eq_true hv, decide_eq_true hms]; rfl))
  · intro m hm hlive hgone
    refine runs_ofUnit (t := (s.chZero m).setCh m chWait) ?_ (decide_eq_true hm) ⟨chState_setCh (chZero_inv h) (publishes_chZero (hp m)) (by decide), ?_⟩
    · rw [exec_chargeSourceLost, execChargeSourceLost, hon, hlive, hgone]
      rfl
    · rw [ch_setCh (chZero_inv h) hm]
      unfold State.chZero
      rw [ch_modCh h hm]
  · intro hc hlive hhold
    have hu : State.Inv { s with chs := { s.chs with hit := false } } := { h with }
    obtain ⟨hi, hpi, hch⟩ := isolationHeld_effect hu (publishes_of rfl rfl (hp 0))
    refine runs_next (t := (State.isolationHeld { s with chs := { s.chs with hit := false } }).setCh 0 chSourceHold) ?_
      ⟨chState_setCh hi hpi (by decide), by rw [ch_setCh hi (by decide), hch], ?_⟩
    · rw [exec_chargeSourceHold, execChargeSourceHold, hcharger hc, hlive, Bool.true_and, hhold]
      rfl
    · rw [chsEn_setCh hi]
      unfold State.chLive
      rw [chState_setCh hi hpi (by decide)]
      rfl
  · intro hc hst h3 h4 htrip
    refine runs_next (t := (s.clearTrips isoGens).isoOff.setCh 0 chQualify) ?_ ?_
    · rw [exec_chargeSourceHoldEnd, execChargeSourceHoldEnd, hcharger hc, hst, h3, h4]
      refine congrArg Host.Outcome.next (if_pos ?_)
      simpa using htrip
    · have hclr := clearTrips_power h
      exact chState_setCh (isoOff_power hclr.1).1 (publishes_isoOff hclr.1 (publishes_of (hclr.2 _ rfl) (clearTrips_parts.descs rfl) (hp 0))) (by decide)
  · intro i hst hnone htested hbelow
    refine runs_next (t := s.modCh 1 (fun c => { c with testAt := some s.dtb, testI := i })) ?_ (by rw [ch_modCh h (by decide)]; exact ⟨rfl, rfl⟩)
    rw [exec_presenceTestStart, execPresenceTestStart, hon]
    dsimp only
    rw [hnone, hst, htested, hbelow]
    rfl
  · intro i collapse n hat
    have hr := reach_inv (t := msEnd n 1000) h
    have hpr : (s.reach (msEnd n 1000)).Publishes (chargeSig 1) := publishes_of rfl rfl (hp 1)
    by_cases hok : max 2560 (s.ch 1).testI ≤ 10 * (i - (s.ch 1).testI)
    · refine runs_next (t := (s.reach (msEnd n 1000)).batteryPresent) ?_ ?_
      · rw [exec_presenceTestEnd, execPresenceTestEnd, hon]
        dsimp only
        rw [hat]
        exact congrArg Host.Outcome.next (if_pos hok)
      · rw [if_pos hok]
        obtain ⟨hdtb, hnone, htested, hstate⟩ := batteryPresent_effect hr hpr
        exact ⟨hdtb, hnone, htested, hstate⟩
    · refine runs_next (t := (s.reach (msEnd n 1000)).batteryAbsent) ?_ ?_
      · rw [exec_presenceTestEnd, execPresenceTestEnd, hon]
        dsimp only
        rw [hat]
        exact congrArg Host.Outcome.next (if_neg hok)
      · rw [if_neg hok]
        obtain ⟨hstate, hdtb, hnone, hnext⟩ := batteryAbsent_effect hr hpr
        exact ⟨hdtb, hnone, hstate, hnext.trans (by rw [hdtb])⟩
  · intro hc hidle hfault hwhy
    refine runs_next (t := (s.chZero 0).setCh 0 chIdle) ?_ ⟨chState_setCh (chZero_inv h) (publishes_chZero (hp 0)) (by decide), ?_⟩
    · rw [exec_chargeStop, execChargeStop, hcharger hc]
      refine congrArg Host.Outcome.next (if_pos ?_)
      simp only [decide_eq_true hidle, decide_eq_true hfault, Bool.true_and]
      simpa [or_assoc] using hwhy
    · rw [ch_setCh (chZero_inv h) (by decide)]
      unfold State.chZero
      rw [ch_modCh h (by decide)]
  · intro m hm hst hclr
    have hz := chZero_inv (m := m) h
    have hstate : ((s.chZero m).setCh m chIdle).chState m = chIdle := chState_setCh hz (publishes_chZero (hp m)) (by decide)
    refine runs_ofUnit (t := if m = 0 then ((s.chZero m).setCh m chIdle).putNat (csig 0x201) 0 else (s.chZero m).setCh m chIdle) ?_ (decide_eq_true hm) ?_
    · rw [exec_chargeFaultClear, execChargeFaultClear, hon]
      refine congrArg (ofUnit _) (if_pos ?_)
      rw [hst]
      simpa using hclr
    · by_cases hm0 : m = 0
      · subst hm0
        rw [if_pos rfl]
        refine ⟨(val_putNat_other (setCh_inv hz) (by decide)).trans hstate, fun _ => ?_⟩
        exact val_putNat_same (setCh_inv hz) (publishes_setCh hz (publishes_chZero (hpub _ (by simp))))
      · rw [if_neg hm0]
        exact ⟨hstate, fun hm => absurd hm hm0⟩
  · intro i hst hnone
    refine runs_next (t := (s.reach (s.ch 1).testNext).modCh 1 (fun c => { c with testAt := some (s.reach (s.ch 1).testNext).dtb, testI := i })) ?_ ?_
    · rw [exec_presenceTestStart, execPresenceTestStart, hon]
      dsimp only
      rw [hnone, hst]
      rfl
    · rw [ch_modCh (reach_inv h) (by decide)]
      exact ⟨rfl, rfl, rfl⟩
  · intro i hst hnone hlow
    obtain ⟨hstate, hdtb, -⟩ := batteryAbsent_effect h (hp 1)
    refine runs_next (t := s.batteryAbsent) ?_ ⟨hstate, hdtb⟩
    rw [exec_presenceTestEnd, execPresenceTestEnd, hon]
    dsimp only
    rw [hnone, hst, decide_eq_true hlow]
    rfl

end Sys2Proof.Machine
end

section
/-! PROOFS. The shift actuator and the commutation of both motors (R350-R357). -/

namespace Sys2Proof.Machine

set_option Elab.async false

variable {P : Nat → Prop} {s0 s t : State}

/-! ## Registers that the actuators' operations leave -/

theorem KeepsRegs.putNat (h : KeepsRegs P s0 s) {a v : Nat} : KeepsRegs P s0 (s.putNat a v) :=
  h.of_regs (State.putNat_keeps (K := 532996) rfl (Keeps.refl _ s)) rfl
theorem KeepsRegs.putVal (h : KeepsRegs P s0 s) {a q : Nat} {v : Word} {b : Bool} : KeepsRegs P s0 (s.putVal a v q b) :=
  h.of_regs (State.putVal_keeps (K := 532996) rfl (Keeps.refl _ s)) rfl
theorem KeepsRegs.floatLeg (h : KeepsRegs P s0 s) {m leg : Nat} : KeepsRegs P s0 (s.floatLeg m leg) :=
  h.of_regs (State.floatLeg_keeps (K := 532996) rfl (Keeps.refl _ s)) rfl
theorem KeepsRegs.shBusy (h : KeepsRegs P s0 s) {b : Bool} (ha : ¬P Reg.ACT_STAT) : KeepsRegs P s0 (s.shBusy b) := h.setb ha
theorem KeepsRegs.modShift (h : KeepsRegs P s0 s) {f : ShiftSt → ShiftSt} : KeepsRegs P s0 (s.modShift f) := ⟨{ h.1 with }, h.2⟩

theorem motorGen_lt (m i : Nat) (hi : i < 3) : motorGen m + i < 40 := by unfold motorGen; split <;> omega

theorem stepLegs_range (k : Nat) : (stepLegs k).1 - 1 < 3 ∧ (stepLegs k).2.1 - 1 < 3 ∧ 1 ≤ (stepLegs k).1 ∧ 1 ≤ (stepLegs k).2.1 := by
  unfold stepLegs
  obtain hk | hk := Nat.lt_or_ge k 6
  · interval_cases k <;> decide
  · rw [List.getD_eq_default _ _ hk]
    decide

section
variable (hP : ∀ a, driveBlock a → ¬P a)
include hP

theorem KeepsRegs.legs (h : KeepsRegs P s0 s) {m : Nat} {l : List Bool} : KeepsRegs P s0 (s.legs m l) :=
  h.forN (fun _ i hi hu => hu.setShadow hP (motorGen_lt m i hi))

theorem KeepsRegs.motorOff (h : KeepsRegs P s0 s) {m : Nat} : KeepsRegs P s0 (s.motorOff m) := by
  have hlaw : ∀ p ∈ motorLaw m, p.1 < 12 ∧ p.2 < 4 := by unfold motorLaw; split <;> decide
  have hgens : ∀ g ∈ motorGens m, g < 40 := by unfold motorGens motorGen; split <;> decide
  exact (h.floatLeg.lawsOff hP hlaw).stopGens hP hgens

/-- The two legs that a commutation writes. -/
theorem KeepsRegs.commutate (h : KeepsRegs P s0 s) {m k : Nat} : KeepsRegs P s0 (s.commutate m k) := by
  obtain ⟨hpwm, hlow, hpwm1, hlow1⟩ := stepLegs_range k
  have hg1 : motorGen m + (stepLegs k).1 - 1 < 40 := by have := motorGen_lt m _ hpwm; omega
  have hg2 : motorGen m + (stepLegs k).2.1 - 1 < 40 := by have := motorGen_lt m _ hlow; omega
  have hdraw : KeepsRegs P s0 s.drawWord.2 := ⟨{ h.1 with }, h.2⟩
  have hset := (((hdraw.setShadow hP (k := 0) (v := s.drawWord.1 &&& 0x3FFFFF) hg1).setShadow hP (k := 0) (v := 0) hg2).floatLeg (m := m) (leg := (stepLegs k).2.2))
  exact hset.of_regs (State.modMotor_keeps (K := 2 ^ 33) rfl (Keeps.refl _ _)) rfl

theorem KeepsRegs.actuatorEntry (h : KeepsRegs P s0 s) {k : Nat} (hk : k < 16) : KeepsRegs P s0 (s.actuatorEntry k) := by
  have hcfg : ¬P (Reg.ADC_ECFG 13 k) := hP _ (by unfold driveBlock Reg.ADC_ECFG; omega)
  have hdst : ¬P (Reg.ADC_EDST 13 k) := hP _ (by unfold driveBlock Reg.ADC_EDST; omega)
  exact ((((h.setf hcfg).setf hcfg).setf hcfg).setf hcfg).setf hdst

theorem KeepsRegs.actuatorSlot (h : KeepsRegs P s0 s) {t kind idx delay first last : Nat} {join : Bool} (ht : t < 4) :
    KeepsRegs P s0 (s.actuatorSlot t kind idx delay first last join) := by
  have htrg : ¬P (Reg.ADC_TRG 13 t) := hP _ (by unfold driveBlock Reg.ADC_TRG; omega)
  have hdly : ¬P (Reg.ADC_TDLY 13 t) := hP _ (by unfold driveBlock Reg.ADC_TDLY; omega)
  exact ((((((h.setf htrg).setf htrg).setf htrg).setf htrg).setb htrg).setf htrg).setf hdly

theorem KeepsRegs.actLawsOn (h : KeepsRegs P s0 s) {ls : List (Nat × Nat)} (hls : ∀ p ∈ ls, p.1 < 12 ∧ p.2 < 4) : KeepsRegs P s0 (s.actLawsOn ls) :=
  ((((h.forN (fun _ k hk hu => hu.actuatorEntry hP (by omega))).actuatorSlot hP (by decide)).actuatorSlot hP (by decide)).actuatorSlot hP (by decide)).lawsOn hP hls

end

/-- A signal that the module writes stays one where no register of the power block and no descriptor changes. -/
theorem publishes_of_keeps {a : Nat} (hk : KeepsRegs (· = Reg.PWR_STAT) s t) (hd : t.descs = s.descs) (h : s.Publishes a) : t.Publishes a :=
  publishes_of (hk.2 _ rfl) hd h

/-! ## Signals that the motors' operations leave -/

theorem val_floatLeg_other (h : s.Inv) {m leg a : Nat} (ha : a ≠ asig (if m = 0 then 0x202 else 0x502)) : (s.floatLeg m leg).val a = s.val a :=
  val_putNat_other h ha
theorem val_legs (m a : Nat) (l : List Bool) : (s.legs m l).val a = s.val a := val_congr ((State.legs_keeps (K := 16386) rfl (Keeps.refl _ s)).sigs rfl) a
theorem val_motorOff_other (h : s.Inv) {m a : Nat} (ha : a ≠ asig (if m = 0 then 0x202 else 0x502)) : (s.motorOff m).val a = s.val a := by
  unfold State.motorOff
  exact (val_congr ((State.stopGens_keeps (K := 25090) rfl (State.lawsOff_keeps rfl (Keeps.refl _ _))).sigs rfl) a).trans (val_floatLeg_other h ha)
theorem val_setf (a r : Nat) (f : Field) (v : Nat) : (s.setf r f v).val a = s.val a := val_congr (State.setf_sigs s) a
theorem val_setb (a r : Nat) (f : Field) (b : Bool) : (s.setb r f b).val a = s.val a := val_congr (State.setb_sigs s) a
theorem val_inc (a r : Nat) : (s.inc r).val a = s.val a := val_congr (State.inc_sigs s) a

theorem motor_modMotor (h : s.Inv) {m : Nat} (hm : m < 2) (f : MotorSt → MotorSt) : (s.modMotor m f).motor m = f (s.motor m) :=
  getD_modify_same _ _ _ _ (by rw [h.motors]; exact hm)
theorem modMotor_inv (h : s.Inv) {m : Nat} {f : MotorSt → MotorSt} : (s.modMotor m f).Inv := (State.modMotor_keeps (K := 2 ^ 33) rfl (Keeps.refl _ s)).inv h
theorem motor_congr (h : t.motors = s.motors) (m : Nat) : t.motor m = s.motor m := by unfold State.motor; rw [h]

/-- The state in which a commutation has written its legs. -/
def State.legsCommuted (s : State) (m k : Nat) : State :=
  ((s.drawWord.2.setShadow (motorGen m + (stepLegs k).1 - 1) 0 (s.drawWord.1 &&& 0x3FFFFF)).setShadow (motorGen m + (stepLegs k).2.1 - 1) 0 0).floatLeg m (stepLegs k).2.2

theorem commutate_eq (m k : Nat) : s.commutate m k = (s.legsCommuted m k).modMotor m
    (fun x => { x with step := k, gap := (s.legsCommuted m k).dtb - x.lastAt, lastAt := (s.legsCommuted m k).dtb, nextAt := none }) := rfl

theorem legsCommuted_keeps (m k : Nat) : Keeps 549510 s (s.legsCommuted m k) :=
  State.floatLeg_keeps rfl (State.setShadow_keeps rfl (State.setShadow_keeps rfl (State.drawWord_keeps rfl (Keeps.refl _ s))))

/-- A commutation takes the motor to its step, from now (R355). -/
theorem motor_commutate (h : s.Inv) {m k : Nat} (hm : m < 2) : (s.commutate m k).motor m =
    { s.motor m with step := k, gap := s.dtb - (s.motor m).lastAt, lastAt := s.dtb, nextAt := none } := by
  have hk := legsCommuted_keeps (s := s) m k
  rw [commutate_eq, motor_modMotor (hk.inv h) hm, hk.dtb rfl, motor_congr (hk.motors rfl)]
theorem dtb_commutate (m k : Nat) : (s.commutate m k).dtb = s.dtb := (State.commutate_keeps (K := 8590484102) rfl (Keeps.refl _ s)).dtb rfl
theorem commutate_inv (h : s.Inv) {m k : Nat} : (s.commutate m k).Inv := (State.commutate_keeps (K := 8590484102) rfl (Keeps.refl _ s)).inv h
theorem val_commutate_other (h : s.Inv) {m k a : Nat} (ha : a ≠ asig (if m = 0 then 0x202 else 0x502)) : (s.commutate m k).val a = s.val a := by
  have hk := State.setShadow_keeps (K := 16514) (g := motorGen m + (stepLegs k).2.1 - 1) (k := 0) (v := 0) rfl
    (State.setShadow_keeps (g := motorGen m + (stepLegs k).1 - 1) (k := 0) (v := s.drawWord.1 &&& 0x3FFFFF) rfl (State.drawWord_keeps rfl (Keeps.refl _ s)))
  exact (val_floatLeg_other (hk.inv h) ha).trans (val_congr (hk.sigs rfl) a)

/-! ## The shift actuator's faults -/

theorem setSh_inv (h : s.Inv) {n : Nat} : (s.setSh n).Inv := putNat_inv h

/-- The motor of the shift is off, and the fault is entered (R357). -/
def State.shStopped (s : State) : State := (s.motorOff 0).shBusy false

theorem shStopped_power (h : s.Inv) : KeepsRegs (· = Reg.PWR_STAT) s s.shStopped :=
  ((KeepsRegs.refl h).motorOff (driveBlock_ne pwrStat_outside)).shBusy (by decide)
theorem shStopped_parts : Keeps 549382 s s.shStopped := State.shBusy_keeps rfl (State.motorOff_keeps rfl (Keeps.refl _ s))
theorem actStat_outside : ¬driveBlock Reg.ACT_STAT := by unfold driveBlock; decide

/-- The bits of ACT_STAT other than the busy bit of the shift stay when its motor stops. -/
theorem fld_shStopped (h : s.Inv) {f : Field} (hf : f.lo + f.len ≤ Fld.ACT_STAT_sh_busy.lo ∨ Fld.ACT_STAT_sh_busy.lo + Fld.ACT_STAT_sh_busy.len ≤ f.lo) :
    s.shStopped.fld Reg.ACT_STAT f = s.fld Reg.ACT_STAT f := by
  have hoff : KeepsRegs (· = Reg.ACT_STAT) s (s.motorOff 0) := (KeepsRegs.refl h).motorOff (driveBlock_ne actStat_outside)
  exact (fld_setb_field hoff.1 (by decide) hf).trans (hoff.fld rfl f)

theorem shToFault_eq (c : Nat) : s.shToFault c = (s.shStopped.setSh shFault).putNat (asig 0x201) c := rfl

theorem shToFault_effect (h : s.Inv) {c : Nat} (hp0 : s.Publishes (asig 0x200)) (hp1 : s.Publishes (asig 0x201)) :
    (s.shToFault c).shState = shFault ∧ (s.shToFault c).val (asig 0x201) = c % 2 ^ 32 := by
  have hk := shStopped_power h
  have hd : s.shStopped.descs = s.descs := shStopped_parts.descs rfl
  have hset : (s.shStopped.setSh shFault).shState = shFault := val_putNat_same hk.1 (publishes_of_keeps hk hd hp0)
  rw [shToFault_eq]
  refine ⟨(val_putNat_other (setSh_inv hk.1) (by decide)).trans hset, ?_⟩
  exact val_putNat_same (setSh_inv hk.1) (publishes_of_keeps hk.putNat ((descs_putVal _ _ _ _).trans hd) hp1)

theorem fld_shToFault (h : s.Inv) {c : Nat} {f : Field}
    (hf : f.lo + f.len ≤ Fld.ACT_STAT_sh_busy.lo ∨ Fld.ACT_STAT_sh_busy.lo + Fld.ACT_STAT_sh_busy.len ≤ f.lo) :
    (s.shToFault c).fld Reg.ACT_STAT f = s.fld Reg.ACT_STAT f := by
  rw [shToFault_eq]
  exact ((fld_of_rd (rd_putVal _ _ _ _ _) f).trans (fld_of_rd (rd_putVal _ _ _ _ _) f)).trans (fld_shStopped h hf)

theorem shift_shToFault (c : Nat) : (s.shToFault c).shift = s.shift := (State.shToFault_keeps (K := 549382) rfl (Keeps.refl _ s)).shift rfl
theorem dtb_shToFault (c : Nat) : (s.shToFault c).dtb = s.dtb := (State.shToFault_keeps (K := 549382) rfl (Keeps.refl _ s)).dtb rfl

theorem dtb_modShift (f : ShiftSt → ShiftSt) : (s.modShift f).dtb = s.dtb := rfl
theorem descs_modShift (f : ShiftSt → ShiftSt) : (s.modShift f).descs = s.descs := rfl
theorem shift_modShift (f : ShiftSt → ShiftSt) : (s.modShift f).shift = f s.shift := rfl

/-- The start applies its first vector, and its pulses begin (R353). -/
def State.firstVector (s : State) : State := ((s.floatLeg 0 0).legs 0 (vectorLegs 0)).shBusy true

theorem pulsesBegin_eq : s.pulsesBegin = s.firstVector.modShift (fun x => { x with
    pulses := 0, resting := false, phaseAt := ((s.floatLeg 0 0).legs 0 (vectorLegs 0)).dtb, extended := 0, waitAt := none }) := by
  unfold State.pulsesBegin State.firstVector
  rfl
theorem firstVector_power (h : s.Inv) : KeepsRegs (· = Reg.PWR_STAT) s s.firstVector :=
  ((KeepsRegs.refl h).floatLeg.legs (driveBlock_ne pwrStat_outside)).shBusy (by decide)
theorem firstVector_parts : Keeps 549382 s s.firstVector :=
  State.shBusy_keeps rfl (State.legs_keeps rfl (State.floatLeg_keeps rfl (Keeps.refl _ s)))
theorem shift_pulsesBegin : s.pulsesBegin.shift = { s.shift with pulses := 0, resting := false, phaseAt := s.dtb, extended := 0, waitAt := none } := by
  have hk : Keeps 549382 s ((s.floatLeg 0 0).legs 0 (vectorLegs 0)) := State.legs_keeps rfl (State.floatLeg_keeps rfl (Keeps.refl _ s))
  rw [pulsesBegin_eq]
  unfold State.modShift
  rw [firstVector_parts.shift rfl, hk.dtb rfl]
theorem dtb_pulsesBegin : s.pulsesBegin.dtb = s.dtb := by
  rw [pulsesBegin_eq, dtb_modShift]
  exact firstVector_parts.dtb rfl

/-- A failure of the start, counted (R357). -/
def State.failCounted (s : State) : State := (s.modShift (fun x => { x with fails := x.fails + 1 })).inc Reg.ACT_CNT_SHFAIL
/-- The rest of 10 ms at L that follows a failure. -/
def State.failRest (s : State) (c : Nat) : State := ((((s.floatLeg 0 0).legs 0 allLow).shBusy false).setSh shStart).putNat (asig 0x201) c

theorem failCounted_inv (h : s.Inv) : s.failCounted.Inv := inc_inv (s := s.modShift _) { h with }
theorem shift_failCounted : s.failCounted.shift = { s.shift with fails := s.shift.fails + 1 } := State.inc_shift _
theorem shFail_eq (c : Nat) : s.shFail c = if 3 ≤ s.shift.fails + 1 then s.failCounted.shToFault c else
    (s.failCounted.failRest c).modShift (fun x => { x with waitAt := some (s.failCounted.failRest c).dtb, resting := false }) := by
  unfold State.shFail
  dsimp only
  change (if 3 ≤ s.failCounted.shift.fails then s.failCounted.shToFault c else _) = _
  rw [shift_failCounted]
  rfl
theorem failRest_parts (c : Nat) : Keeps 549382 s (s.failRest c) :=
  State.putNat_keeps rfl (State.setSh_keeps rfl (State.shBusy_keeps rfl (State.legs_keeps rfl (State.floatLeg_keeps rfl (Keeps.refl _ s)))))

theorem shift_shFail (c : Nat) : (s.shFail c).shift.fails = s.shift.fails + 1 := by
  rw [shFail_eq]
  split
  · rw [shift_shToFault, shift_failCounted]
  · unfold State.modShift
    rw [(failRest_parts c).shift rfl, shift_failCounted]

/-- A third failure in a row is a fault; another one rests before the next start (R357). -/
theorem shFail_effect (h : s.Inv) {c : Nat} (hp0 : s.Publishes (asig 0x200)) (hp1 : s.Publishes (asig 0x201)) :
    (s.shFail c).val (asig 0x201) = c % 2 ^ 32 ∧
      if s.shift.fails < 2 then (s.shFail c).shState = shStart ∧ (s.shFail c).shift.waitAt = some (s.shFail c).dtb else (s.shFail c).shState = shFault := by
  have hc := failCounted_inv h
  have hpub : ∀ a, s.Publishes a → s.failCounted.Publishes a :=
    fun a => publishes_of (rd_inc_other (s := s.modShift _) { h with } (by decide)) (State.inc_descs _)
  rw [shFail_eq]
  by_cases h2 : s.shift.fails < 2
  · rw [if_neg (by omega), if_pos h2]
    have hk : KeepsRegs (· = Reg.PWR_STAT) s.failCounted (((s.failCounted.floatLeg 0 0).legs 0 allLow).shBusy false) :=
      ((KeepsRegs.refl hc).floatLeg.legs (driveBlock_ne pwrStat_outside)).shBusy (by decide)
    have hd : (((s.failCounted.floatLeg 0 0).legs 0 allLow).shBusy false).descs = s.failCounted.descs :=
      (State.shBusy_keeps (K := 549382) rfl (State.legs_keeps rfl (State.floatLeg_keeps rfl (Keeps.refl _ _)))).descs rfl
    refine ⟨?_, ?_, rfl⟩
    · exact val_putNat_same hk.putNat.1 (publishes_of_keeps hk.putNat ((descs_putVal _ _ _ _).trans hd) (hpub _ hp1))
    · exact (val_putNat_other hk.putNat.1 (by decide)).trans (val_putNat_same hk.1 (publishes_of_keeps hk hd (hpub _ hp0)))
  · rw [if_pos (by omega), if_neg h2]
    obtain ⟨hst, hcause⟩ := shToFault_effect hc (c := c) (hpub _ hp0) (hpub _ hp1)
    exact ⟨hcause, hst⟩

theorem fld_shFail (h : s.Inv) {c : Nat} {f : Field}
    (hf : f.lo + f.len ≤ Fld.ACT_STAT_sh_busy.lo ∨ Fld.ACT_STAT_sh_busy.lo + Fld.ACT_STAT_sh_busy.len ≤ f.lo) :
    (s.shFail c).fld Reg.ACT_STAT f = s.fld Reg.ACT_STAT f := by
  have hc := failCounted_inv h
  have hcf : s.failCounted.fld Reg.ACT_STAT f = s.fld Reg.ACT_STAT f := fld_inc_other (s := s.modShift _) { h with } (by decide)
  rw [shFail_eq]
  split
  · exact (fld_shToFault hc hf).trans hcf
  · have hlegs : KeepsRegs (· = Reg.ACT_STAT) s.failCounted ((s.failCounted.floatLeg 0 0).legs 0 allLow) :=
      (KeepsRegs.refl hc).floatLeg.legs (driveBlock_ne actStat_outside)
    refine Eq.trans ?_ (((fld_setb_field (x := false) hlegs.1 (by decide) hf).trans (hlegs.fld rfl f)).trans hcf)
    exact (fld_of_rd (rd_putVal _ _ _ _ _) f).trans (fld_of_rd (rd_putVal _ _ _ _ _) f)

/-! ## The start, its pulses and its end -/

/-- The laws and legs of the shift start, with the first test vector (R353). -/
def State.shiftBegun (s : State) : State :=
  (((s.actLawsOn (motorLaw 0)).groupStart [24, 25, 26]).inc Reg.ACT_CNT_SHSTART).pulsesBegin.setSh shStart

theorem shiftBegun_effect (h : s.Inv) (hp : s.Publishes (asig 0x200)) : s.shiftBegun.shState = shStart ∧
    s.shiftBegun.shift = { s.shift with pulses := 0, resting := false, phaseAt := s.dtb, extended := 0, waitAt := none } := by
  have hk : KeepsRegs (· = Reg.PWR_STAT) s (((s.actLawsOn (motorLaw 0)).groupStart [24, 25, 26]).inc Reg.ACT_CNT_SHSTART) :=
    (((KeepsRegs.refl h).actLawsOn (driveBlock_ne pwrStat_outside) (by decide)).groupStart (driveBlock_ne pwrStat_outside) (by decide)).inc (by decide)
  have hkeep : Keeps 28674 s (((s.actLawsOn (motorLaw 0)).groupStart [24, 25, 26]).inc Reg.ACT_CNT_SHSTART) :=
    State.inc_keeps rfl (State.groupStart_keeps rfl (State.actLawsOn_keeps rfl (Keeps.refl _ s)))
  unfold State.shiftBegun
  generalize (((s.actLawsOn (motorLaw 0)).groupStart [24, 25, 26]).inc Reg.ACT_CNT_SHSTART) = u at hk hkeep ⊢
  have hfirst := firstVector_power hk.1
  have hb : KeepsRegs (· = Reg.PWR_STAT) u u.pulsesBegin := by rw [pulsesBegin_eq]; exact hfirst.modShift
  have hd : u.pulsesBegin.descs = u.descs := by rw [pulsesBegin_eq, descs_modShift]; exact firstVector_parts.descs rfl
  refine ⟨val_putNat_same hb.1 (publishes_of_keeps hb hd (publishes_of_keeps hk (hkeep.descs rfl) hp)), ?_⟩
  refine ((State.setSh_keeps (K := 532996) rfl (Keeps.refl _ _)).shift rfl).trans ?_
  rw [shift_pulsesBegin, hkeep.shift rfl, hkeep.dtb rfl]

/-- A test pulse ends: its peak is recorded, and the legs rest at L (R353). -/
def State.pulseEnded (s : State) : State :=
  let u := (s.putNat (asig (0x210 + pulseVector s.shift.pulses)) (min s.shCurrent 32767)).legs 0 allLow
  let u := if s.shift.pulses = 5 then u.shBusy false else u
  u.modShift (fun x => { x with pulses := x.pulses + 1, resting := true, phaseAt := u.dtb, extended := 0 })

/-- A peak fits the signal that takes it, whether that is a whole word or a Q15 number. -/
theorem typedValue_peak {d : DWord} (hd : dType d ≠ 5) {n : Nat} (hn : n ≤ 32767) : (typedValue d (W n)).toNat = n := by
  have hw : (W n).toNat = n := by unfold W; rw [BitVec.toNat_ofNat]; omega
  unfold typedValue
  rw [if_neg hd]
  split
  · rw [hw]
    have hs : sx 16 n = n := by
      unfold sx
      dsimp only
      rw [if_pos (by omega)]
      omega
    rw [hs]
    unfold Wi
    rw [BitVec.toNat_ofInt]
    omega
  · exact hw

theorem pulseEnded_effect (h : s.Inv) (hw : s.writable (asig (0x210 + pulseVector s.shift.pulses)) = true)
    (ht : dType (s.desc (asig (0x210 + pulseVector s.shift.pulses))) ≠ 5) : s.pulseEnded.dtb = s.dtb ∧
    s.pulseEnded.val (asig (0x210 + pulseVector s.shift.pulses)) = min s.shCurrent 32767 ∧
    s.pulseEnded.shift = { s.shift with pulses := s.shift.pulses + 1, resting := true, phaseAt := s.dtb, extended := 0 } := by
  have hput : (s.putNat (asig (0x210 + pulseVector s.shift.pulses)) (min s.shCurrent 32767)).val (asig (0x210 + pulseVector s.shift.pulses)) = min s.shCurrent 32767 := by
    unfold State.val State.putNat
    rw [sig_putVal_same h hw]
    exact typedValue_peak ht (Nat.min_le_right _ _)
  have hputk := State.putNat_keeps (K := 549382) (id := asig (0x210 + pulseVector s.shift.pulses)) (v := min s.shCurrent 32767) rfl (Keeps.refl _ s)
  unfold State.pulseEnded
  dsimp only
  generalize s.putNat _ _ = v at hput hputk ⊢
  have hlegs : Keeps 16386 v (if s.shift.pulses = 5 then (v.legs 0 allLow).shBusy false else v.legs 0 allLow) :=
    Keeps.ite (State.shBusy_keeps rfl (State.legs_keeps rfl (Keeps.refl _ v))) (State.legs_keeps rfl (Keeps.refl _ v))
  generalize (if s.shift.pulses = 5 then (v.legs 0 allLow).shBusy false else v.legs 0 allLow) = u at hlegs ⊢
  refine ⟨(hlegs.dtb rfl).trans (hputk.dtb rfl), (val_congr (hlegs.sigs rfl) _).trans hput, ?_⟩
  unfold State.modShift
  dsimp only
  rw [hlegs.shift rfl, hputk.shift rfl, hlegs.dtb rfl, hputk.dtb rfl]

/-- The rotor's sector is found, and the motor starts with the step that follows it (R354, R355). -/
def State.rotorFound (s : State) (j : Nat) : State :=
  ((((s.putNat (asig 0x203) j).modShift (fun x => { x with fails := 0, resting := false })).modMotor 0 (fun x => { x with forced := 0, crossings := 0 })).commutate 0
    (((j + 1) / 2 + if s.forward then 1 else 4) % 6)).setSh shMove

theorem rotorFound_effect (h : s.Inv) {j : Nat} (hp0 : s.Publishes (asig 0x200)) (hp3 : s.Publishes (asig 0x203)) :
    (s.rotorFound j).shState = shMove ∧ (s.rotorFound j).shift.fails = 0 ∧ (s.rotorFound j).val (asig 0x203) = j % 2 ^ 32 ∧
      ((s.rotorFound j).motor 0).step = ((j + 1) / 2 + if s.forward then 1 else 4) % 6 := by
  have hv : State.Inv ((s.putNat (asig 0x203) j).modShift (fun x => { x with fails := 0, resting := false })) := { putNat_inv h with }
  have hval : ((s.putNat (asig 0x203) j).modShift (fun x => { x with fails := 0, resting := false })).val (asig 0x203) = j % 2 ^ 32 := val_putNat_same h hp3
  have hpub : ((s.putNat (asig 0x203) j).modShift (fun x => { x with fails := 0, resting := false })).Publishes (asig 0x200) :=
    publishes_of (rd_putVal _ _ _ _ _) (descs_putVal _ _ _ _) hp0
  have hfails : ((s.putNat (asig 0x203) j).modShift (fun x => { x with fails := 0, resting := false })).shift.fails = 0 := rfl
  unfold State.rotorFound
  generalize ((j + 1) / 2 + if s.forward then 1 else 4) % 6 = k
  generalize (s.putNat (asig 0x203) j).modShift _ = v at hv hval hpub hfails ⊢
  have hm := modMotor_inv (m := 0) (f := fun x => { x with forced := 0, crossings := 0 }) hv
  have hvalm : (v.modMotor 0 (fun x => { x with forced := 0, crossings := 0 })).val (asig 0x203) = j % 2 ^ 32 := hval
  have hfailsm : (v.modMotor 0 (fun x => { x with forced := 0, crossings := 0 })).shift.fails = 0 := hfails
  have hpubm : (v.modMotor 0 (fun x => { x with forced := 0, crossings := 0 })).Publishes (asig 0x200) := publishes_of rfl rfl hpub
  generalize v.modMotor 0 _ = u at hm hvalm hfailsm hpubm ⊢
  have hk : KeepsRegs (· = Reg.PWR_STAT) u (u.commutate 0 k) := (KeepsRegs.refl hm).commutate (driveBlock_ne pwrStat_outside)
  have hc := State.commutate_keeps (K := 8590484102) (m := 0) (k := k) rfl (Keeps.refl _ u)
  have hset := State.setSh_keeps (K := 532996) (st := shMove) rfl (Keeps.refl _ (u.commutate 0 k))
  refine ⟨val_putNat_same hk.1 (publishes_of_keeps hk (hc.descs rfl) hpubm), ?_, ?_, ?_⟩
  · rw [hset.shift rfl, hc.shift rfl, hfailsm]
  · exact (val_putNat_other hk.1 (by decide)).trans ((val_commutate_other hm (by decide)).trans hvalm)
  · rw [motor_congr (hset.motors rfl), motor_commutate hm (by decide)]

/-! ## The statement -/

theorem motorFrame_zero : motorFrame 0 = 10000 := rfl

/-- Settles O38: each step by what it makes of the actuator's state. -/
theorem shiftActuator : Obligations.ShiftActuator := by
  intro s h hteam
  have hon := onTeam_of hteam
  refine ⟨?_, ?_, ?_, ?_, ?_, ?_, ?_, ?_, ?_, ?_, ?_, ?_, ?_, ?_, ?_, ?_⟩
  · intro hst hset htarget hband hall hstops hp0 hp1
    have hv : State.Inv (s.modShift (fun x => { x with target := some (s.sig (asig 0x220)).value, fails := 0 })) := { h with }
    have hpub : ∀ a, s.Publishes a → (s.modShift (fun x => { x with target := some (s.sig (asig 0x220)).value, fails := 0 })).Publishes a :=
      fun a => publishes_of rfl rfl
    have hshift : (s.modShift (fun x => { x with target := some (s.sig (asig 0x220)).value, fails := 0 })).shift =
      { s.shift with target := some (s.sig (asig 0x220)).value, fails := 0 } := rfl
    have hcfg : (s.modShift (fun x => { x with target := some (s.sig (asig 0x220)).value, fails := 0 })).shiftConfigOk = s.shiftConfigOk := rfl
    have hrun : exec .shiftStart s = .next (if !s.shiftConfigOk then (s.modShift (fun x => { x with target := some (s.sig (asig 0x220)).value, fails := 0 })).shToFault 1
        else (s.modShift (fun x => { x with target := some (s.sig (asig 0x220)).value, fails := 0 })).shiftBegun) := by
      rw [exec_shiftStart, execShiftStart, hon]
      refine congrArg Host.Outcome.next ((if_pos ?_).trans ?_)
      · simp only [Bool.and_eq_true, Bool.or_eq_true, Bool.not_eq_true', decide_eq_true_eq]
        exact ⟨⟨⟨⟨⟨hst, hset⟩, htarget⟩, hband⟩, hall⟩, hstops⟩
      · rfl
    refine runs_next hrun ?_
    generalize s.modShift (fun x => { x with target := some (s.sig (asig 0x220)).value, fails := 0 }) = v at hv hpub hshift
    cases hok : s.shiftConfigOk with
    | false =>
      obtain ⟨hstate, hcause⟩ := shToFault_effect hv (c := 1) (hpub _ hp0) (hpub _ hp1)
      simp only [Bool.not_false, if_true, Bool.false_eq_true, if_false]
      rw [shift_shToFault, hshift]
      exact ⟨rfl, rfl, hstate, hcause⟩
    | true =>
      obtain ⟨hstate, hshift'⟩ := shiftBegun_effect hv (hpub _ hp0)
      simp only [Bool.not_true, Bool.false_eq_true, if_false, if_true]
      rw [hshift', hshift]
      exact ⟨rfl, rfl, hstate, rfl, rfl⟩
  · intro hst hrest hwait hpulses hw htype
    refine runs_next (t := (s.reach (s.shift.phaseAt + s.fld Reg.ACT_SHTP Fld.ACT_SHTP_ton * 10000)).pulseEnded) ?_ ?_
    · rw [exec_shiftTestPulseEnd, execShiftTestPulseEnd, hon]
      dsimp only
      rw [hst, hrest, hwait, decide_eq_true hpulses]
      rfl
    · obtain ⟨hdtb, hval, hshift⟩ := pulseEnded_effect (reach_inv (t := s.shift.phaseAt + s.fld Reg.ACT_SHTP Fld.ACT_SHTP_ton * 10000) h) hw htype
      rw [hshift]
      exact ⟨hdtb, hval, rfl, rfl, hdtb.symm⟩
  · intro hst hrest hpulses hdec
    refine runs_next (t := ((s.reach (s.shift.phaseAt + s.restFrames * 10000)).legs 0 (vectorLegs (pulseVector s.shift.pulses))).modShift
      (fun x => { x with resting := false, phaseAt := ((s.reach (s.shift.phaseAt + s.restFrames * 10000)).legs 0 (vectorLegs (pulseVector s.shift.pulses))).dtb })) ?_ ?_
    · rw [exec_shiftRestEnd, execShiftRestEnd, hon]
      dsimp only
      rw [hst, hrest, decide_eq_true hpulses]
      exact congrArg Host.Outcome.next ((if_pos rfl).trans (if_pos hdec))
    · have hk : Keeps 16386 (s.reach (s.shift.phaseAt + s.restFrames * 10000)) ((s.reach (s.shift.phaseAt + s.restFrames * 10000)).legs 0 (vectorLegs (pulseVector s.shift.pulses))) :=
        State.legs_keeps rfl (Keeps.refl _ _)
      exact ⟨hk.dtb rfl, rfl, rfl⟩
  · intro hst hrest hpulses hdec hfew
    refine runs_next (t := (s.reach (s.shift.phaseAt + s.restFrames * 10000)).modShift (fun x => { x with extended := x.extended + 1 })) ?_ ⟨rfl, hrest⟩
    rw [exec_shiftRestEnd, execShiftRestEnd, hon]
    dsimp only
    rw [hst, hrest, decide_eq_true hpulses]
    exact congrArg Host.Outcome.next ((if_pos rfl).trans ((if_neg (Bool.eq_false_iff.mp hdec)).trans (if_pos hfew)))
  · intro hst hrest hpulses hlong hdec hp0 hp1
    refine runs_next (t := (s.reach (s.shift.phaseAt + s.restFrames * 10000)).shFail 2) ?_ ?_
    · rw [exec_shiftDecayFail, execShiftDecayFail, hon]
      dsimp only
      rw [hst, hrest, decide_eq_true hpulses, decide_eq_true hlong]
      exact congrArg Host.Outcome.next ((if_pos rfl).trans (if_neg (Bool.eq_false_iff.mp hdec)))
    · obtain ⟨hcause, hstate⟩ := shFail_effect (reach_inv (t := s.shift.phaseAt + s.restFrames * 10000) h) (c := 2) (publishes_of rfl rfl hp0) (publishes_of rfl rfl hp1)
      exact ⟨shift_shFail 2, hcause, hstate⟩
  · intro j hst hrest hpulses hsec hp0 hp3
    refine runs_next (t := s.rotorFound j) ?_ (rotorFound_effect h hp0 hp3)
    rw [exec_shiftSectorDecision, execShiftSectorDecision, hon, hst, hrest, hpulses, hsec]
    rfl
  · intro c hst hrest hpulses hsec
    refine runs_next (t := (s.setf Reg.ACT_STAT (if c = 3 then Fld.ACT_STAT_open else Fld.ACT_STAT_ambig) 1).shFail c) ?_ ?_
    · rw [exec_shiftSectorDecision, execShiftSectorDecision, hon, hst, hrest, hpulses, hsec]
      rfl
    · refine ⟨(shift_shFail c).trans ?_, ?_⟩
      · rw [State.setf_shift]
      · rw [fld_shFail (setf_inv h) (by split <;> decide), fld_setf_same h (by split <;> decide)]
        split <;> rfl
  · intro m hm hruns hnone
    refine runs_ofUnit (t := s.modMotor m (fun x => { x with
      nextAt := some (if m = 1 ∧ s.pump.st = pmRamp then s.dtb else s.dtb + (s.dtb - (s.motor m).lastAt) / motorFrame m * motorFrame m)
      forced := 0, crossings := x.crossings + 1 })) ?_ (decide_eq_true hm) (by rw [motor_modMotor h hm]; exact ⟨rfl, rfl, rfl⟩)
    rw [exec_backEmfCrossing, execBackEmfCrossing, hruns, hnone]
    refine congrArg (ofUnit _) ((if_pos rfl).trans ?_)
    dsimp only
    simp only [Bool.and_eq_true, decide_eq_true_eq]
  · intro m n hm hruns hnext
    by_cases hramp : m = 1 ∧ s.pump.st = pmRamp
    · obtain ⟨rfl, hst⟩ := hramp
      refine runs_ofUnit (t := s.commutate 1 (s.nextStep 1)) ?_ (by decide : decide (1 < 2) = true) ?_
      · rw [exec_commutation, execCommutation, hst, hnext]
        rfl
      · rw [if_pos ⟨rfl, hst⟩, motor_commutate h hm, dtb_commutate]
        exact ⟨rfl, rfl, rfl, rfl, rfl⟩
    · refine runs_ofUnit (t := (s.reach n).commutate m (s.nextStep m)) ?_ (decide_eq_true hm) ?_
      · rw [exec_commutation, execCommutation]
        refine congrArg (ofUnit _) ((if_neg (by simpa using hramp)).trans ?_)
        rw [hnext]
        exact if_pos hruns
      · rw [if_neg hramp, motor_commutate (reach_inv h) hm, dtb_commutate]
        exact ⟨rfl, rfl, rfl, rfl, rfl⟩
  · intro hst hnone
    refine runs_ofUnit (t := (s.modMotor 1 (fun x => { x with crossings := 0 })).commutate 1 (s.nextStep 1)) ?_ (by decide : decide (1 < 2) = true) ?_
    · rw [exec_commutation, execCommutation, hst]
      refine congrArg (ofUnit _) ((if_pos rfl).trans ?_)
      simp only [hnone, Option.isNone_none, if_true]
      have hstep : (s.modMotor 1 (fun x => { x with crossings := 0 })).nextStep 1 = s.nextStep 1 := by
        unfold State.nextStep
        rw [motor_modMotor h (by decide)]
        rfl
      rw [hstep]
    · rw [motor_commutate (modMotor_inv h) (by decide), dtb_commutate, motor_modMotor h (by decide)]
      exact ⟨rfl, rfl, rfl, rfl⟩
  · intro m hm hruns hrun hnone hfew
    have hi := commutate_inv (m := m) (k := s.nextStep m) (reach_inv (t := (s.motor m).lastAt + 40 * motorFrame m) h)
    have hm' := motor_commutate (m := m) (k := s.nextStep m) (reach_inv (t := (s.motor m).lastAt + 40 * motorFrame m) h) hm
    refine runs_ofUnit (t := ((s.reach ((s.motor m).lastAt + 40 * motorFrame m)).commutate m (s.nextStep m)).modMotor m
      (fun x => { x with forced := x.forced + 1, crossings := 0 })) ?_ (decide_eq_true hm) ?_
    · rw [exec_forcedCommutation, execForcedCommutation, hruns, hnone]
      refine congrArg (ofUnit _) ((if_pos (by simpa using hrun)).trans ?_)
      dsimp only
      rw [motor_modMotor hi hm, hm']
      have hreach : (s.reach ((s.motor m).lastAt + 40 * motorFrame m)).motor m = s.motor m := rfl
      rw [hreach]
      exact if_neg (by dsimp only; omega)
    · rw [motor_modMotor hi hm, hm']
      exact ⟨dtb_commutate _ _, rfl, rfl, rfl⟩
  · intro hst hband hp0
    have hk : KeepsRegs (· = Reg.PWR_STAT) s (((s.floatLeg 0 0).legs 0 allLow).motorOff 0) :=
      ((KeepsRegs.refl h).floatLeg.legs (driveBlock_ne pwrStat_outside)).motorOff (driveBlock_ne pwrStat_outside)
    have hd : (((s.floatLeg 0 0).legs 0 allLow).motorOff 0).descs = s.descs :=
      (State.motorOff_keeps (K := 549382) rfl (State.legs_keeps rfl (State.floatLeg_keeps rfl (Keeps.refl _ s)))).descs rfl
    refine runs_next (t := (((s.floatLeg 0 0).legs 0 allLow).motorOff 0).setSh shHold) ?_ (val_putNat_same hk.1 (publishes_of_keeps hk hd hp0))
    rw [exec_shiftInBand, execShiftInBand, hon, hst, hband]
    rfl
  · intro moved hst hmoved hcur hp0 hp1
    obtain ⟨hstate, hcause⟩ := shToFault_effect (setf_inv (a := Reg.ACT_STAT) (f := Fld.ACT_STAT_stall) (v := 1) h) (c := 5)
      (publishes_of (rd_setf_other h (by decide)) (State.setf_descs _) hp0) (publishes_of (rd_setf_other h (by decide)) (State.setf_descs _) hp1)
    refine runs_next (t := (s.setf Reg.ACT_STAT Fld.ACT_STAT_stall 1).shToFault 5) ?_ ⟨hstate, hcause, ?_⟩
    · rw [exec_shiftStall, execShiftStall, hon, hst, decide_eq_true hmoved, decide_eq_true hcur]
      rfl
    · rw [fld_shToFault (setf_inv h) (by decide), fld_setf_same h (by decide)]
      rfl
  · intro hst hpos hp0 hp1
    refine runs_next (t := s.shToFault 6) ?_ (shToFault_effect h hp0 hp1)
    rw [exec_shiftSensorFault, execShiftSensorFault, hon, hst]
    refine congrArg Host.Outcome.next (if_pos ?_)
    simpa [or_assoc] using hpos
  · intro n hst hwait
    refine runs_next (t := (s.reach (msEnd n 10)).pulsesBegin) ?_ ?_
    · rw [exec_shiftRetryWaitEnd, execShiftRetryWaitEnd, hon, hwait]
      exact congrArg Host.Outcome.next (if_pos hst)
    · rw [shift_pulsesBegin, dtb_pulsesBegin]
      exact ⟨rfl, rfl, rfl, rfl, rfl⟩
  · intro n hst hsess hp0 hp1
    have hi : ((s.putNat (asig 0x201) 0).modShift (fun x => { x with fails := 0 })).Inv := { putNat_inv h with }
    refine runs_next (t := ((s.putNat (asig 0x201) 0).modShift (fun x => { x with fails := 0 })).setSh shOff) ?_ ⟨?_, ?_, ?_⟩
    · rw [exec_shiftFaultClear, execShiftFaultClear, hon, hst, hsess]
      rfl
    · exact val_putNat_same hi (publishes_of (rd_putVal _ _ _ _ _) (descs_putVal _ _ _ _) hp0)
    · exact (val_putNat_other hi (by decide)).trans (val_putNat_same h hp1)
    · exact congrArg (·.fails) ((State.putNat_keeps (K := 532996) rfl (Keeps.refl _ _)).shift rfl)

end Sys2Proof.Machine
end

section
/-! PROOFS. The park lock, the clutch and the oil pump (R358-R363). -/

namespace Sys2Proof.Machine

set_option Elab.async false

variable {s t : State}

/-! ## The park lock -/

theorem park_putVal (a q : Nat) (v : Word) (b : Bool) : (s.putVal a v q b).park = s.park := (State.putVal_keeps (K := 532996) rfl (Keeps.refl _ s)).park rfl
theorem park_setPark (n : Nat) : (s.setPark n).park = { s.park with st := n } := (park_putVal _ _ _ _).trans rfl
theorem parkLawOff_parts : Keeps 25090 s ((s.lawsOff [(7, 1)]).stopGens parkGens) := State.stopGens_keeps rfl (State.lawsOff_keeps rfl (Keeps.refl _ s))
theorem park_parkOff : s.parkOff.park = { s.park with drive := none, brakeAt := none, next := none } :=
  congrArg (fun p : ParkSt => { p with drive := none, brakeAt := none, next := none }) (parkLawOff_parts.park rfl)

/-- The state follows the end positions, and nothing else of the lock moves (R358). -/
theorem park_parkRefresh : s.parkRefresh.park = { s.park with st := s.parkRefresh.park.st } := by
  unfold State.parkRefresh
  split
  · rfl
  · rw [park_setPark]

theorem st_parkRefresh (hd : s.park.drive = none) (hst : s.park.st ≠ pkFault)
    (hv : (s.sig (asig 0x401)).value ≠ Config.enumCode (asig 0x401) s.parkRest) : s.parkRefresh.park.st = s.parkRest := by
  unfold State.parkRefresh
  rw [hd, decide_eq_false hv, if_neg (by decide), park_setPark, if_neg hst]

/-- The bridge is braked: both of its duties are 0 (R359). -/
def State.parkBraked (s : State) : State := (s.setShadow 30 0 0).setShadow 31 0 0

theorem parkBraked_parts : Keeps 16386 s s.parkBraked := State.setShadow_keeps rfl (State.setShadow_keeps rfl (Keeps.refl _ s))
theorem parkBrake_eq (n : Option Bool) : s.parkBrake n =
    (s.parkBraked.modPark (fun p => { p with drive := none, brakeAt := some s.parkBraked.dtb, next := n })).parkRefresh := rfl
theorem park_parkBrake (n : Option Bool) : (s.parkBrake n).park.drive = none ∧ (s.parkBrake n).park.brakeAt = some s.dtb ∧ (s.parkBrake n).park.next = n := by
  rw [parkBrake_eq, park_parkRefresh, parkBraked_parts.dtb rfl]
  exact ⟨rfl, rfl, rfl⟩
theorem dtb_parkBrake (n : Option Bool) : (s.parkBrake n).dtb = s.dtb := (State.parkBrake_keeps (K := 34360287750) rfl (Keeps.refl _ s)).dtb rfl
theorem parkBrake_regs {P : Nat → Prop} (hP : ∀ a, driveBlock a → ¬P a) (h : s.Inv) (n : Option Bool) : KeepsRegs P s (s.parkBrake n) := by
  have hb : KeepsRegs P s s.parkBraked := ((KeepsRegs.refl h).setShadow hP (by decide)).setShadow hP (by decide)
  rw [parkBrake_eq]
  exact hb.of_regs (State.parkRefresh_keeps (K := 34360271364) rfl (State.modPark_keeps rfl (Keeps.refl _ _))) rfl

theorem parkGens_lt : ∀ g ∈ parkGens, g < 40 := by decide
theorem parkLaw_lt : ∀ p ∈ [(7, 1)], p.1 < 12 ∧ p.2 < 4 := by decide
theorem parkOff_regs {P : Nat → Prop} (hP : ∀ a, driveBlock a → ¬P a) (h : s.Inv) : KeepsRegs P s s.parkOff :=
  (((KeepsRegs.refl h).lawsOff hP parkLaw_lt).stopGens hP parkGens_lt).of_regs (State.modPark_keeps (K := 2 ^ 35) rfl (Keeps.refl _ _)) rfl

/-- What the end positions read comes from the safety inputs and their assignment alone. -/
theorem parkRest_of_regs (hi : t.rd Reg.MG_SISTAT = s.rd Reg.MG_SISTAT) (hc : t.rd Reg.ACT_PKCFG = s.rd Reg.ACT_PKCFG) : t.parkRest = s.parkRest := by
  have hsie : t.sie = s.sie := fld_of_rd hc _
  have hsir : t.sir = s.sir := fld_of_rd hc _
  have hsi : ∀ i, siState t i = siState s i := fun i => fld_of_rd hi _
  unfold State.parkRest State.parkReads
  simp only [hsie, hsir, hsi]

/-- The end positions read the same after the bridge and its law are off. -/
theorem parkRest_parkOff (h : s.Inv) : s.parkOff.parkRest = s.parkRest := by
  have hk : KeepsRegs (fun a => a = Reg.MG_SISTAT ∨ a = Reg.ACT_PKCFG) s s.parkOff := by
    refine parkOff_regs ?_ h
    rintro a ha (rfl | rfl) <;> revert ha <;> unfold driveBlock <;> decide
  exact parkRest_of_regs (hk.2 _ (.inl rfl)) (hk.2 _ (.inr rfl))

/-- The bridge drives: its duties are written and its law runs (R359). -/
def State.parkPowered (s : State) (engage : Bool) : State :=
  let word := dutyWord (s.q15 (asig 0x405)) 20000
  let u := (s.setShadow 30 0 (if engage then word else 0)).setShadow 31 0 (if engage then 0 else word)
  if u.allActive parkGens then u else (u.actLawsOn [(7, 1)]).groupStart parkGens

theorem parkDrive_eq (e : Bool) (hcfg : s.parkConfigOk = true) : s.parkDrive e =
    (((s.parkPowered e).modPark (fun p => { p with drive := some e, since := (s.parkPowered e).dtb, brakeAt := none, next := none })).setPark pkMoving).parkCause 0 := by
  unfold State.parkDrive
  rw [hcfg, Bool.not_true, if_neg (by decide)]
  rfl
theorem parkPowered_parts (e : Bool) : Keeps 28674 s (s.parkPowered e) := by
  have hset : Keeps 28674 s ((s.setShadow 30 0 (if e then dutyWord (s.q15 (asig 0x405)) 20000 else 0)).setShadow 31 0 (if e then 0 else dutyWord (s.q15 (asig 0x405)) 20000)) :=
    State.setShadow_keeps rfl (State.setShadow_keeps rfl (Keeps.refl _ s))
  exact Keeps.ite hset (State.groupStart_keeps rfl (State.actLawsOn_keeps rfl hset))
theorem park_parkDrive (e : Bool) (hcfg : s.parkConfigOk = true) :
    (s.parkDrive e).park = { s.park with drive := some e, since := s.dtb, brakeAt := none, next := none, st := pkMoving } := by
  rw [parkDrive_eq e hcfg]
  refine (park_putVal _ _ _ _).trans ((park_setPark _).trans ?_)
  unfold State.modPark
  rw [(parkPowered_parts e).park rfl, (parkPowered_parts e).dtb rfl]

/-- A drive that took too long: the bridge brakes, and the fault is counted (R359). -/
theorem parkTimeout_effect (h : s.Inv) {u : State} (hu : u = (((s.setf Reg.ACT_STAT Fld.ACT_STAT_pk_to 1).inc Reg.ACT_CNT_PKTO).setPark pkFault).parkCause 4) :
    u.dtb = s.dtb ∧ u.park.st = pkFault ∧ u.fld Reg.ACT_STAT Fld.ACT_STAT_pk_to = 1 ∧
      u.rd Reg.ACT_CNT_PKTO = W (min ((s.rd Reg.ACT_CNT_PKTO).toNat + 1) 0xFFFFFFFF) := by
  subst hu
  have hr : ∀ v : State, ∀ a, ((v.setPark pkFault).parkCause 4).rd a = v.rd a := fun v a => (rd_putVal _ _ _ _ _).trans (rd_putVal _ _ _ _ _)
  refine ⟨?_, ?_, ?_, ?_⟩
  · exact (State.parkCause_keeps (K := 34360271364) rfl (State.setPark_keeps rfl (Keeps.refl _ _))).dtb rfl
  · exact congrArg (·.st) ((park_putVal _ _ _ _).trans (park_setPark _))
  · rw [fld_of_rd (hr _ _), fld_inc_other (setf_inv h) (by decide), fld_setf_same h (by decide)]
    rfl
  · rw [hr, rd_inc_same (setf_inv h), rd_setf_other h (by decide)]

/-! ## The clutch -/

theorem clutch_setClutch (n : Nat) : (s.setClutch n).clutch = { s.clutch with st := n, since := s.dtb } :=
  ((State.putVal_keeps (K := 532996) rfl (Keeps.refl _ _)).clutch rfl).trans rfl
theorem dtb_setClutch (n : Nat) : (s.setClutch n).dtb = s.dtb := (State.setClutch_keeps (K := 68720009732) rfl (Keeps.refl _ s)).dtb rfl
theorem rd_setClutch (n a : Nat) : (s.setClutch n).rd a = s.rd a := rd_putVal _ _ _ _ _

/-! ## The pump -/

theorem pump_putVal (a q : Nat) (v : Word) (b : Bool) : (s.putVal a v q b).pump = s.pump := (State.putVal_keeps (K := 532996) rfl (Keeps.refl _ s)).pump rfl
theorem pump_pumpCause (k : Nat) : (s.pumpCause k).pump = s.pump := pump_putVal _ _ _ _
theorem pump_setPump (n : Nat) : (s.setPump n).pump = { s.pump with st := n, since := s.dtb } := (pump_putVal _ _ _ _).trans rfl
theorem dtb_setPump (n : Nat) : (s.setPump n).dtb = s.dtb := (State.setPump_keeps (K := 137439486468) rfl (Keeps.refl _ s)).dtb rfl
theorem rd_setPump (n a : Nat) : (s.setPump n).rd a = s.rd a := rd_putVal _ _ _ _ _

theorem pump_pumpToFault (c : Nat) : (s.pumpToFault c).pump = { s.pump with st := pmFault, since := s.dtb } := by
  have hk := State.motorOff_keeps (K := 549382) (m := 1) rfl (Keeps.refl _ s)
  unfold State.pumpToFault State.pumpCause
  rw [State.setf_pump, pump_putVal, pump_setPump, hk.pump rfl, hk.dtb rfl]
theorem dtb_pumpToFault (c : Nat) : (s.pumpToFault c).dtb = s.dtb := (State.pumpToFault_keeps (K := 137439502854) rfl (Keeps.refl _ s)).dtb rfl
theorem pmpFail_pumpToFault (h : s.Inv) (c : Nat) : (s.pumpToFault c).fld Reg.ACT_STAT Fld.ACT_STAT_pmp_fail = 1 := by
  have hi := (State.pumpCause_keeps (K := 137439502854) (k := c) rfl (State.setPump_keeps (st := pmFault) rfl (State.motorOff_keeps (m := 1) rfl (Keeps.refl _ s)))).inv h
  exact fld_setf_same hi (by decide)

/-- A third failure in a row is a fault; another one waits for the next start (R363). -/
theorem pump_pumpFail : s.pumpFail.pump.fails = s.pump.fails + 1 ∧ s.pumpFail.pump.st = (if s.pump.fails < 2 then pmWait else pmFault) ∧ s.pumpFail.dtb = s.dtb := by
  have hk := State.motorOff_keeps (K := 549382) (m := 1) rfl (Keeps.refl _ (s.modPump (fun p => { p with fails := p.fails + 1 })))
  refine ⟨?_, ?_, (State.pumpFail_keeps (K := 137439502854) rfl (Keeps.refl _ s)).dtb rfl⟩ <;> unfold State.pumpFail <;> dsimp only <;>
    by_cases h2 : 2 ≤ s.pump.fails
  · rw [if_pos (by change 3 ≤ s.pump.fails + 1; omega), pump_pumpToFault]
    rfl
  · rw [if_neg (by change ¬3 ≤ s.pump.fails + 1; omega), pump_setPump, hk.pump rfl]
    rfl
  · rw [if_pos (by change 3 ≤ s.pump.fails + 1; omega), pump_pumpToFault, if_neg (by omega)]
  · rw [if_neg (by change ¬3 ≤ s.pump.fails + 1; omega), pump_setPump, if_pos (by omega)]

/-- The motor of the pump is powered at its first vector (R362). -/
def State.pumpPowered (s : State) : State :=
  let u := (((s.actLawsOn (motorLaw 1)).groupStart pumpGens).floatLeg 1 0).legs 1 (vectorLegs 0)
  (u.drawWord.2.setShadow 27 0 (u.drawWord.1 &&& 0x3FFFFF)).modMotor 1 (fun _ => {})

theorem pumpStart_eq : s.pumpStart = if !s.pumpConfigOk then (s.setPump pmFault).pumpCause 1 else s.pumpPowered.setPump pmAlign := rfl

/-- The pump aligns where its generators are configured, and faults otherwise (R362). -/
theorem pump_pumpStart : s.pumpStart.pump.st = (if s.pumpConfigOk then pmAlign else pmFault) := by
  rw [pumpStart_eq]
  cases s.pumpConfigOk with
  | false =>
    rw [Bool.not_false, if_pos rfl, pump_pumpCause, pump_setPump, if_neg Bool.false_ne_true]
  | true =>
    rw [Bool.not_true, if_neg Bool.false_ne_true, if_pos rfl, pump_setPump]
theorem dtb_pumpStart : s.pumpStart.dtb = s.dtb := (State.pumpStart_keeps (K := 146029441670) rfl (Keeps.refl _ s)).dtb rfl

/-- What a start of the pump asks of its generators is read from their registers. -/
theorem pumpConfigOk_of_regs (hr : ∀ g ∈ pumpGens, ∀ r ∈ [Reg.PWM_CTRL g, Reg.PWM_PER g, Reg.PWM_PHS g, Reg.PWM_SYNC g], t.rd r = s.rd r) :
    t.pumpConfigOk = s.pumpConfigOk := by
  unfold State.pumpConfigOk
  rw [Bool.eq_iff_iff, List.all_eq_true, List.all_eq_true]
  refine forall₂_congr fun g hg => ?_
  have hctrl := fld_of_rd (hr g hg (Reg.PWM_CTRL g) (by simp))
  have hphs := fld_of_rd (hr g hg (Reg.PWM_PHS g) (by simp))
  have hsync := fld_of_rd (hr g hg (Reg.PWM_SYNC g) (by simp))
  have his : t.genIs g 1 1 10000 = s.genIs g 1 1 10000 := by
    unfold State.genIs State.gmode State.presc State.genPer
    rw [hctrl, hctrl, hr g hg (Reg.PWM_PER g) (by simp)]
  have hld : t.genLd g = s.genLd g := hctrl _
  have hsynced : t.genSynced g 24 0 = s.genSynced g 24 0 := by
    unfold State.genSynced State.on State.genPhs
    rw [hsync, hsync, hphs]
  rw [his, hld, hsynced]

/-- The curve is taken, or the cause says that it does not rise; no other signal changes (R361). -/
theorem takeCurve_parts : Keeps 137439486468 s s.takeCurve := State.takeCurve_keeps rfl (Keeps.refl _ s)
theorem val_takeCurve_other (h : s.Inv) {a : Nat} (ha : a ≠ asig 0x501) : s.takeCurve.val a = s.val a := by
  unfold State.takeCurve
  dsimp only
  split
  · rfl
  · exact congrArg (·.value.toNat) (sig_putVal_other h ha)
theorem pump_takeCurve : s.takeCurve.pump.st = s.pump.st ∧ s.takeCurve.pump.evalAt = s.pump.evalAt := by
  unfold State.takeCurve
  dsimp only
  split
  · exact ⟨rfl, rfl⟩
  · exact ⟨congrArg (·.st) (pump_putVal _ _ _ _), congrArg (·.evalAt) (pump_putVal _ _ _ _)⟩

theorem pumpStart_regs {P : Nat → Prop} (hP : ∀ a, driveBlock a → ¬P a) (h : s.Inv) : KeepsRegs P s s.pumpStart := by
  have hlaw : ∀ p ∈ motorLaw 1, p.1 < 12 ∧ p.2 < 4 := by decide
  have hgens : ∀ g ∈ pumpGens, g < 40 := by decide
  rw [pumpStart_eq]
  split
  · exact (KeepsRegs.refl h).of_regs (State.pumpCause_keeps (K := 137439486468) rfl (State.setPump_keeps rfl (Keeps.refl _ s))) rfl
  · have hlegs : KeepsRegs P s ((((s.actLawsOn (motorLaw 1)).groupStart pumpGens).floatLeg 1 0).legs 1 (vectorLegs 0)) :=
      (((KeepsRegs.refl h).actLawsOn hP hlaw).groupStart hP hgens).floatLeg.legs hP
    have hdraw := hlegs.of_regs (State.drawWord_keeps (K := 128) rfl (Keeps.refl _ _)) rfl
    exact (hdraw.setShadow hP (by decide)).of_regs (State.setPump_keeps (K := 2 ^ 33 ||| 137439486468) rfl (State.modMotor_keeps rfl (Keeps.refl _ _))) rfl

/-- The next multiple of a period, now where it is one that was not used yet. -/
theorem nextAt_multiple {p : Nat} (hp : 0 < p) (last : Option Nat) : s.nextAt p last % p = 0 ∧ s.dtb ≤ s.nextAt p last := by
  unfold State.nextAt
  split
  · next hnow =>
    rw [Bool.and_eq_true, decide_eq_true_eq] at hnow
    exact ⟨hnow.1, le_refl _⟩
  · have := Nat.div_add_mod s.dtb p
    have := Nat.mod_lt s.dtb hp
    exact ⟨Nat.mul_mod_left _ _, by rw [Nat.add_mul, Nat.mul_comm (s.dtb / p) p]; omega⟩

/-- An evaluation of the pump's input, once its curve is taken (R361, R362). -/
def State.pumpEvaluated (s : State) : State :=
  if s.pump.st = pmOff then
    if s.q15 (asig 0x507) ≤ s.pumpInput && s.stagesAllowed [stPump] && !s.modeStops stPump then s.pumpStart else s
  else if s.pump.st = pmFault then s
  else if s.pumpInput ≤ s.q15 (asig 0x507) - s.q15 (asig 0x508) then s.pumpOff
  else if s.pump.st = pmRun then s.pumpSpeed
  else s

theorem dtb_pumpEvaluated : s.pumpEvaluated.dtb = s.dtb := by
  have hoff : s.pumpOff.dtb = s.dtb := (State.pumpOff_keeps (K := 137439502854) rfl (Keeps.refl _ s)).dtb rfl
  have hspeed : s.pumpSpeed.dtb = s.dtb := (State.pumpSpeed_keeps (K := 533124) rfl (Keeps.refl _ s)).dtb rfl
  unfold State.pumpEvaluated
  split_ifs
  · exact dtb_pumpStart
  · rfl
  · rfl
  · exact hoff
  · exact hspeed
  · rfl

theorem evalAt_setPump (n : Nat) : (s.setPump n).pump.evalAt = s.pump.evalAt := congrArg (·.evalAt) (pump_setPump n)
theorem evalAt_pumpStart : s.pumpStart.pump.evalAt = s.pump.evalAt := by
  have hpow : s.pumpPowered.pump = s.pump :=
    (State.modMotor_keeps (K := 8590488198) rfl (State.setShadow_keeps rfl (State.drawWord_keeps rfl (State.legs_keeps rfl (State.floatLeg_keeps rfl
      (State.groupStart_keeps rfl (State.actLawsOn_keeps rfl (Keeps.refl _ s)))))))).pump rfl
  rw [pumpStart_eq]
  split
  · rw [pump_pumpCause, evalAt_setPump]
  · rw [evalAt_setPump, hpow]
theorem evalAt_pumpEvaluated : s.pumpEvaluated.pump.evalAt = s.pump.evalAt := by
  have hoff : s.pumpOff.pump.evalAt = s.pump.evalAt := by
    unfold State.pumpOff
    rw [evalAt_setPump]
    exact congrArg (·.evalAt) ((State.putInt_keeps (K := 549382) rfl (State.motorOff_keeps rfl (Keeps.refl _ s))).pump rfl)
  have hspeed : s.pumpSpeed.pump = s.pump := (State.pumpSpeed_keeps (K := 533124) rfl (Keeps.refl _ s)).pump rfl
  unfold State.pumpEvaluated
  split_ifs
  · exact evalAt_pumpStart
  · rfl
  · rfl
  · exact hoff
  · rw [hspeed]
  · rfl

/-- What an evaluation reads of the state stays when the curve is taken. -/
theorem reads_takeCurve (h : s.Inv) : s.takeCurve.q15 (asig 0x507) = s.q15 (asig 0x507) ∧ s.takeCurve.pumpInput = s.pumpInput ∧
    s.takeCurve.stagesAllowed [stPump] = s.stagesAllowed [stPump] ∧ s.takeCurve.modeStops stPump = s.modeStops stPump ∧
    s.takeCurve.pumpConfigOk = s.pumpConfigOk := by
  have hq : ∀ a, a ≠ asig 0x501 → s.takeCurve.q15 a = s.q15 a := fun a ha => congrArg (sx 16) (val_takeCurve_other h ha)
  refine ⟨hq _ (by decide), ?_, ?_, ?_, ?_⟩
  · unfold State.pumpInput
    rw [val_takeCurve_other h (by decide), hq _ (by decide), hq _ (by decide)]
  · unfold State.stagesAllowed State.modeNow
    rw [val_takeCurve_other h (by decide)]
  · unfold State.modeStops
    rw [val_takeCurve_other h (by decide), val_takeCurve_other h (by decide)]
  · exact pumpConfigOk_of_regs (fun _ _ _ _ => rd_congr (takeCurve_parts.regs rfl) _)

/-- The time of an evaluation has come (R361). -/
def State.evaluationDue (s : State) : State :=
  (s.reach (s.nextAt (cyclesMs 10) s.pump.evalAt)).modPump (fun p => { p with evalAt := some (s.reach (s.nextAt (cyclesMs 10) s.pump.evalAt)).dtb })
theorem evaluationDue_inv (h : s.Inv) : s.evaluationDue.Inv := { reach_inv (t := s.nextAt (cyclesMs 10) s.pump.evalAt) h with }

/-! ## The statement -/

/-- Settles O39: each step by what it makes of the lock, the clutch or the pump. -/
theorem parkClutchPump : Obligations.ParkClutchPump := by
  intro s h hteam
  have hon := onTeam_of hteam
  refine ⟨?_, ?_, ?_, ?_, ?_, ?_, ?_, ?_, ?_, ?_, ?_, ?_, ?_, ?_⟩
  · intro e he hset hall hstops hie hir hspeed hdrive hbrake hreads hcfg
    refine runs_next (t := s.parkDrive e) ?_ (by rw [park_parkDrive e hcfg]; exact ⟨rfl, rfl, rfl⟩)
    rw [exec_parkDriveStart, execParkDriveStart, hon]
    dsimp only
    have hval : (decide (s.val (asig 0x400) = 1) && !s.vehicleBelow (s.num (asig 0x404) 3)) = false := by
      rcases hspeed with hno | hbelow
      · rw [he, hno]; rfl
      · rw [hbelow, Bool.not_true, Bool.and_false]
    have hall' : s.stagesAllowed [stPark] = true := hall
    have hstops' : s.modeStops stPark = false := hstops
    rw [hset, hall', hstops', decide_eq_false (p := siState s s.sie ≥ siDisc) (Nat.not_le.mpr hie), decide_eq_false (p := siState s s.sir ≥ siDisc) (Nat.not_le.mpr hir), hval]
    refine congrArg Host.Outcome.next ?_
    rw [hdrive, hbrake]
    dsimp only
    simp only [he, hreads]
    rfl
  · intro hreq hfast
    by_cases hearly : (s.unset (asig 0x400) || !s.stagesAllowed [stPark] || s.modeStops stPark || siState s s.sie ≥ siDisc || siState s s.sir ≥ siDisc) = true
    · refine runs_next (t := s) ?_ ⟨rfl, rfl⟩
      rw [exec_parkDriveStart, execParkDriveStart, hon]
      exact congrArg Host.Outcome.next (if_pos hearly)
    · refine runs_next (t := s.parkCause 2) ?_ ⟨park_putVal _ _ _ _, (State.putVal_keeps (K := 532996) rfl (Keeps.refl _ s)).pg rfl⟩
      rw [exec_parkDriveStart, execParkDriveStart, hon]
      refine congrArg Host.Outcome.next ((if_neg hearly).trans (if_pos ?_))
      rw [decide_eq_true hreq, hfast]
      rfl
  · intro d hdrive hreads
    refine runs_next (t := s.parkBrake none) ?_ (park_parkBrake none)
    rw [exec_parkPositionReached, execParkPositionReached, hon, hdrive]
    exact congrArg Host.Outcome.next (if_pos hreads)
  · intro d hdrive hreads
    have hk : KeepsRegs (· = Reg.ACT_CNT_PKTO) (s.reach (msEnd s.park.since (s.num (asig 0x403) 600))) ((s.reach (msEnd s.park.since (s.num (asig 0x403) 600))).parkBrake none) :=
      parkBrake_regs (driveBlock_ne (by unfold driveBlock; decide)) (reach_inv h) none
    obtain ⟨hdtb, hst, hbit, hcnt⟩ := parkTimeout_effect hk.1 rfl
    refine runs_next (t := (((((s.reach (msEnd s.park.since (s.num (asig 0x403) 600))).parkBrake none).setf Reg.ACT_STAT Fld.ACT_STAT_pk_to 1).inc Reg.ACT_CNT_PKTO).setPark pkFault).parkCause 4)
      ?_ ⟨hdtb.trans (dtb_parkBrake none), hst, hbit, hcnt.trans ?_⟩
    · rw [exec_parkTimeout, execParkTimeout, hon, hdrive]
      exact congrArg Host.Outcome.next (if_neg (Bool.eq_false_iff.mp hreads))
    · rw [hk.2 _ rfl]
      rfl
  · intro n hbrake hnext hst
    refine runs_next (t := (s.reach (msEnd n 20)).parkOff.parkRefresh) ?_ ⟨?_, ?_, ?_, ?_⟩
    · rw [exec_parkBrakeEnd, execParkBrakeEnd, hon, hbrake]
      dsimp only
      have hn : (s.reach (msEnd n 20)).park.next = none := hnext
      rw [hn]
    · exact (State.parkRefresh_keeps (K := 34360287750) rfl (State.parkOff_keeps rfl (Keeps.refl _ _))).dtb rfl
    · rw [park_parkRefresh, park_parkOff]
    · rw [park_parkRefresh, park_parkOff]
    · intro hv
      have hrest : (s.reach (msEnd n 20)).parkOff.parkRest = s.parkRest := parkRest_parkOff (reach_inv h)
      have hsig : (s.reach (msEnd n 20)).parkOff.sig (asig 0x401) = s.sig (asig 0x401) := by
        unfold State.sig
        rw [(State.parkOff_keeps (K := 34359763458) rfl (Keeps.refl _ _)).sigs rfl]
        rfl
      rw [← hrest]
      refine st_parkRefresh ?_ ?_ (by rw [hsig, hrest]; exact hv) <;> rw [park_parkOff]
      exact hst
  · intro hdisc
    have hk : KeepsRegs (· = Reg.ACT_STAT) s s.parkOff := parkOff_regs (driveBlock_ne actStat_outside) h
    refine runs_next (t := ((s.parkOff.setf Reg.ACT_STAT Fld.ACT_STAT_pk_disc 1).setPark pkFault).parkCause 3) ?_ ⟨?_, ?_, ?_⟩
    · rw [exec_parkDiscrepancy, execParkDiscrepancy, hon]
      exact congrArg Host.Outcome.next (if_pos (by rw [Bool.or_eq_true, decide_eq_true_eq, decide_eq_true_eq]; exact hdisc))
    · exact congrArg (·.st) ((park_putVal _ _ _ _).trans (park_setPark _))
    · refine (congrArg (·.drive) ((park_putVal _ _ _ _).trans (park_setPark _))).trans ?_
      rw [State.setf_park, park_parkOff]
    · refine (fld_of_rd ((rd_putVal _ _ _ _ _).trans (rd_putVal _ _ _ _ _)) _).trans ?_
      exact fld_setf_same hk.1 (by decide)
  · intro hst
    refine runs_next (t := (s.reach (msEnd s.clutch.since (s.val (asig 0x604)))).setClutch clHold) ?_ ⟨by rw [clutch_setClutch], dtb_setClutch _⟩
    rw [exec_clutchPullEnd, execClutchPullEnd, hon]
    exact congrArg Host.Outcome.next (if_pos hst)
  · intro ms hst hcur hduty hms
    have hi : s.clutchStop.Inv := (State.clutchStop_keeps (K := 25090) rfl (Keeps.refl _ s)).inv h
    refine runs_next (t := (s.clutchStop.setf Reg.ACT_STAT Fld.ACT_STAT_cl_open 1).setClutch clFault) ?_ ⟨by rw [clutch_setClutch], ?_⟩
    · rw [exec_clutchOpenDetect, execClutchOpenDetect, hon]
      refine congrArg Host.Outcome.next (if_pos ?_)
      simp only [Bool.and_eq_true, Bool.or_eq_true, decide_eq_true_eq]
      exact ⟨⟨⟨hst, hcur⟩, hduty⟩, hms⟩
    · exact (fld_of_rd (rd_setClutch _ _) _).trans (fld_setf_same hi (by decide))
  · obtain ⟨hmult, hle⟩ := nextAt_multiple (s := s) (p := cyclesMs 10) (by decide) s.pump.evalAt
    have hdtb : (s.reach (s.nextAt (cyclesMs 10) s.pump.evalAt)).dtb = s.nextAt (cyclesMs 10) s.pump.evalAt := Nat.max_eq_right hle
    refine runs_next (t := s.evaluationDue.takeCurve.pumpEvaluated) ?_ ?_
    · rw [exec_pumpEvaluation, execPumpEvaluation, hon]
      rfl
    · rw [dtb_pumpEvaluated, evalAt_pumpEvaluated, takeCurve_parts.dtb rfl, pump_takeCurve.2]
      refine ⟨hdtb ▸ hmult, Nat.le_max_left _ _, rfl, ?_⟩
      intro hst hin hall hstops
      obtain ⟨hq, hinput, hallowed, hstop, hcfg⟩ := reads_takeCurve (evaluationDue_inv h)
      have hall' : s.evaluationDue.stagesAllowed [stPump] = true := hall
      have hstops' : s.evaluationDue.modeStops stPump = false := hstops
      have hin' : s.evaluationDue.q15 (asig 0x507) ≤ s.evaluationDue.pumpInput := hin
      have hoff : s.evaluationDue.takeCurve.pump.st = pmOff := pump_takeCurve.1.trans hst
      unfold State.pumpEvaluated
      rw [if_pos hoff, hq, hinput, hallowed, hstop, hall', hstops', decide_eq_true hin', Bool.not_false, Bool.and_self, Bool.and_self, if_pos rfl, pump_pumpStart, hcfg]
      rfl
  · intro hst
    have hi : State.Inv ((s.reach (msEnd s.pump.since 200)).modMotor 1 (fun _ => { lastAt := (s.reach (msEnd s.pump.since 200)).dtb })) := modMotor_inv (reach_inv h)
    refine runs_next (t := (((s.reach (msEnd s.pump.since 200)).modMotor 1 (fun _ => { lastAt := (s.reach (msEnd s.pump.since 200)).dtb })).commutate 1 0).setPump pmRamp) ?_ ?_
    · rw [exec_pumpAlignEnd, execPumpAlignEnd, hon]
      exact congrArg Host.Outcome.next (if_pos hst)
    · rw [dtb_setPump, dtb_commutate, pump_setPump, motor_congr ((State.setPump_keeps (K := 137439486468) rfl (Keeps.refl _ _)).motors rfl),
        motor_commutate hi (by decide), motor_modMotor (reach_inv h) (by decide)]
      exact ⟨rfl, rfl, rfl, rfl⟩
  · intro hst
    by_cases h6 : 6 ≤ (s.motor 1).crossings
    · refine runs_next (t := ((s.reach (msEnd s.pump.since 500)).setPump pmRun).modPump (fun p => { p with fails := 0 })) ?_ ?_
      · rw [exec_pumpRampEnd, execPumpRampEnd, hon]
        exact congrArg Host.Outcome.next ((if_pos hst).trans (if_pos h6))
      · rw [if_pos h6]
        exact ⟨dtb_setPump _, congrArg (·.st) (pump_setPump _), rfl⟩
    · obtain ⟨hfails, hst', hdtb⟩ := pump_pumpFail (s := s.reach (msEnd s.pump.since 500))
      refine runs_next (t := (s.reach (msEnd s.pump.since 500)).pumpFail) ?_ ?_
      · rw [exec_pumpRampEnd, execPumpRampEnd, hon]
        exact congrArg Host.Outcome.next ((if_pos hst).trans (if_neg h6))
      · rw [if_neg h6]
        exact ⟨hdtb, hfails, hst'⟩
  · intro hst hcfg
    have hr := reach_inv (t := msEnd s.pump.since 2000) h
    refine runs_next (t := ((s.reach (msEnd s.pump.since 2000)).inc Reg.ACT_CNT_PMPRETRY).pumpStart) ?_ ⟨dtb_pumpStart, ?_, ?_⟩
    · rw [exec_pumpRetryWaitEnd, execPumpRetryWaitEnd, hon]
      exact congrArg Host.Outcome.next (if_pos hst)
    · rw [pump_pumpStart, pumpConfigOk_of_regs (s := s), hcfg, if_pos rfl]
      intro g hg r hmem
      refine rd_inc_other hr ?_
      revert g r
      decide
    · have hk : KeepsRegs (· = Reg.ACT_CNT_PMPRETRY) ((s.reach (msEnd s.pump.since 2000)).inc Reg.ACT_CNT_PMPRETRY) _ :=
        pumpStart_regs (driveBlock_ne (by unfold driveBlock; decide)) (inc_inv hr)
      exact (hk.2 _ rfl).trans (rd_inc_same hr)
  · intro ms hst hspeed hms
    refine runs_next (t := s.pumpToFault 4) ?_ ⟨by rw [pump_pumpToFault], pmpFail_pumpToFault h 4⟩
    rw [exec_pumpSpeedFault, execPumpSpeedFault, hon]
    refine congrArg Host.Outcome.next (if_pos ?_)
    simp only [Bool.and_eq_true, decide_eq_true_eq]
    exact ⟨⟨hst, hspeed⟩, hms⟩
  · intro n hst hsess
    refine runs_next (t := ((s.pumpCause 0).modPump (fun p => { p with fails := 0 })).setPump pmOff) ?_ (by rw [pump_setPump]; exact ⟨rfl, rfl⟩)
    rw [exec_pumpFaultClear, execPumpFaultClear, hon, hst, hsess]
    rfl

end Sys2Proof.Machine
end

section
/-! PROOFS. Signals that interrupts and trips leave: a wake may ask the mode machine for STANDBY, and no other signal changes;
PD6 stays ON (R44, R545, R210). -/

namespace Sys2Proof.Machine

set_option Elab.async false

variable {P : Nat → Prop} {s0 s t : State}

/-- `s` is sound, the Paddock's domain is ON, and each signal reads as in `s0`: the target of the mode machine too,
where a transition is under way. -/
def KeepsSignals (s0 s : State) : Prop :=
  s.Inv ∧ s.domainOn 6 = true ∧ s.descs = s0.descs ∧ ∀ a, a ≠ sigTarget ∨ s0.val sigPhase ≠ 0 → s.val a = s0.val a

theorem KeepsSignals.refl (h : s.Inv) (hon : s.domainOn 6 = true) : KeepsSignals s s := ⟨h, hon, rfl, fun _ _ => rfl⟩
theorem KeepsSignals.val_phase (h : KeepsSignals s0 s) : s.val sigPhase = s0.val sigPhase := h.2.2.2 _ (.inl (by decide))
theorem KeepsSignals.val (h : KeepsSignals s0 s) {a : Nat} (ha : a ≠ sigTarget) : s.val a = s0.val a := h.2.2.2 _ (.inl ha)
theorem KeepsSignals.trans (h : KeepsSignals s0 s) (h' : KeepsSignals s t) : KeepsSignals s0 t :=
  ⟨h'.1, h'.2.1, h'.2.2.1.trans h.2.2.1, fun a ha => (h'.2.2.2 a (ha.imp_right (by rw [h.val_phase]; exact id))).trans (h.2.2.2 a ha)⟩

/-- A signal that the module writes stays one. -/
theorem KeepsSignals.publishes (h : KeepsSignals s0 s) {a : Nat} (hp : s0.Publishes a) : s.Publishes a := by
  obtain ⟨-, hon, hd, -⟩ := h
  have hdesc : s.desc a = s0.desc a := by unfold State.desc; rw [hd]
  obtain ⟨hw, h0, h5⟩ := hp
  unfold State.writable at hw
  rw [Bool.and_eq_true] at hw
  refine ⟨?_, hdesc ▸ h0, hdesc ▸ h5⟩
  unfold State.writable
  rw [hon, hdesc, hw.2]
  rfl

/-- An operation that writes no signal and no state of a power domain. -/
theorem KeepsSignals.of (h : KeepsSignals s0 s) {K : Nat} (hk : Keeps K s t) (hr : KeepsRegs (· = Reg.PWR_STAT) s t)
    (hK : K.testBit 2 = false ∧ K.testBit 3 = false) : KeepsSignals s0 t := by
  refine h.trans ⟨hr.1, ?_, hk.descs hK.2, fun a _ => val_congr (hk.sigs hK.1) a⟩
  unfold State.domainOn State.domain
  rw [hr.fld rfl]
  exact h.2.1

/-- An operation that writes no register either. -/
theorem KeepsSignals.keep (h : KeepsSignals s0 s) {K : Nat} (hk : Keeps K s t) (hK : K.testBit 1 = false ∧ K.testBit 2 = false ∧ K.testBit 3 = false) : KeepsSignals s0 t :=
  h.of hk ((KeepsRegs.refl h.1).of_regs hk hK.1) hK.2

theorem KeepsSignals.wr (h : KeepsSignals s0 s) {a : Nat} {v : Word} (ha : a ≠ Reg.PWR_STAT) : KeepsSignals s0 (s.wr a v) :=
  h.of (K := 2) (State.wr_keeps rfl (Keeps.refl _ s)) ((KeepsRegs.refl h.1).wr ha) ⟨rfl, rfl⟩
theorem KeepsSignals.setf (h : KeepsSignals s0 s) {a : Nat} {f : Field} {v : Nat} (ha : a ≠ Reg.PWR_STAT) : KeepsSignals s0 (s.setf a f v) := h.wr ha
theorem KeepsSignals.inc (h : KeepsSignals s0 s) {a : Nat} (ha : a ≠ Reg.PWR_STAT) : KeepsSignals s0 (s.inc a) := h.wr ha
theorem KeepsSignals.each {α : Type} {l : List α} {f : State → α → State} (h : KeepsSignals s0 s)
    (hf : ∀ u, ∀ x ∈ l, KeepsSignals s0 u → KeepsSignals s0 (f u x)) : KeepsSignals s0 (s.each l f) :=
  State.each_induction (P := KeepsSignals s0) hf h
theorem KeepsSignals.forN {n : Nat} {f : State → Nat → State} (h : KeepsSignals s0 s)
    (hf : ∀ u k, k < n → KeepsSignals s0 u → KeepsSignals s0 (f u k)) : KeepsSignals s0 (s.forN n f) :=
  State.forN_induction (P := KeepsSignals s0) hf h
theorem KeepsSignals.ite {c : Prop} [Decidable c] (h : c → KeepsSignals s0 s) (h' : ¬c → KeepsSignals s0 t) : KeepsSignals s0 (if c then s else t) := by
  split
  · exact h ‹_›
  · exact h' ‹_›

/-! ## Power domains -/

/-- Fields of a word that begin beyond its last bit read 0 and keep nothing. -/
theorem put_beyond (w : Word) (f : Field) (v : Nat) (hf : 32 ≤ f.lo) : Word.put w f v = w := by
  have hw := w.isLt
  have hlt : w.toNat < 2 ^ f.lo := lt_of_lt_of_le hw (Nat.pow_le_pow_right (by decide) hf)
  have hget : Word.get w f = 0 := by unfold Word.get; rw [Nat.div_eq_of_lt hlt, Nat.zero_mod]
  unfold Word.put W
  rw [hget, Nat.zero_mul, Nat.sub_zero]
  refine BitVec.eq_of_toNat_eq ?_
  rw [BitVec.toNat_ofNat, ← Nat.sub_add_cancel hf, Nat.pow_add, ← Nat.mul_assoc, Nat.add_mul_mod_self_right, Nat.mod_eq_of_lt hw]

/-- The field of another domain stays. -/
theorem domain_setf_other (h : s.Inv) {d e v : Nat} (hd : e ≠ d) : (s.setf Reg.PWR_STAT ⟨2 * d, 2⟩ v).domain e = s.domain e := by
  unfold State.domain
  by_cases hlo : 2 * d + 2 ≤ 32
  · exact fld_setf_field h hlo (by dsimp only; omega)
  · unfold State.fld State.setf
    rw [rd_wr_same h, put_beyond _ _ _ (by dsimp only; omega)]

theorem KeepsSignals.setDomain (h : KeepsSignals s0 s) {d v : Nat} (hd : d ≠ 6) : KeepsSignals s0 (s.setDomain d v) := by
  have hk : KeepsSignals s0 (if d = 0 && v ≠ 0 && s.domainOn 0 then ({ s with keeper := { s.keeper with dtbKept := s.dtb, rtcKept := s.rtcCount } } : State) else s) :=
    KeepsSignals.ite (fun _ => h.keep (K := 2 ^ 32) (Keeps.set_keeper rfl (Keeps.refl _ s)) ⟨rfl, rfl, rfl⟩) (fun _ => h)
  unfold State.setDomain
  dsimp only
  generalize (if d = 0 && v ≠ 0 && s.domainOn 0 then ({ s with keeper := { s.keeper with dtbKept := s.dtb, rtcKept := s.rtcCount } } : State) else s) = u at hk ⊢
  refine hk.trans ⟨setf_inv hk.1, ?_, State.setf_descs _, fun a _ => val_congr (State.setf_sigs _) a⟩
  unfold State.domainOn
  rw [domain_setf_other hk.1 (Ne.symm hd)]
  exact hk.2.1

theorem KeepsSignals.statBit (h : KeepsSignals s0 s) {f : Field} {v : Nat} (hf : 14 ≤ f.lo ∧ f.lo + f.len ≤ 32) : KeepsSignals s0 (s.setf Reg.PWR_STAT f v) := by
  refine h.trans ⟨setf_inv h.1, ?_, State.setf_descs _, fun a _ => val_congr (State.setf_sigs _) a⟩
  unfold State.domainOn State.domain
  rw [fld_setf_field h.1 hf.2 (.inl (by dsimp only; omega))]
  exact h.2.1

theorem KeepsSignals.powerMirror (h : KeepsSignals s0 s) : KeepsSignals s0 s.powerMirror := by
  have hreq : ∀ f : State → Nat → Nat, KeepsSignals s0 (s.forN 8 (fun s d => s.setf Reg.PWR_REQ ⟨2 * d, 2⟩ (f s d))) :=
    fun f => h.forN (fun _ _ _ hu => hu.setf (by decide))
  exact (hreq _).statBit (by decide)

theorem KeepsSignals.modPower (h : KeepsSignals s0 s) {f : PowerSt → PowerSt} : KeepsSignals s0 (s.modPower f) :=
  h.keep (K := 2199023255552) (State.modPower_keeps rfl (Keeps.refl _ s)) ⟨rfl, rfl, rfl⟩

theorem mem_headD {α : Type} {l : List (List α)} {x : α} (hx : x ∈ l.headD []) : ∃ m ∈ l, x ∈ m := by
  cases l with
  | nil => exact absurd hx List.not_mem_nil
  | cons m ms => exact ⟨m, List.mem_cons_self, hx⟩

/-- A raise changes the state of the domains that it raises first. -/
theorem KeepsSignals.raise (h : KeepsSignals s0 s) {ds : List Nat} (hds : 6 ∉ ds) : KeepsSignals s0 (s.raise ds) := by
  have hsteps : ∀ u : State, KeepsSignals s0 u → ∀ (l : List (List Nat)) (t0 : Nat),
      KeepsSignals s0 (l.foldl (fun (p : State × Nat) l => p.1.raiseStep l p.2) (u, t0)).1 := by
    intro u hu l
    induction l generalizing u with
    | nil => exact fun _ => hu
    | cons x xs ih => exact fun t0 => ih _ (hu.keep (State.raiseStep_keeps (K := 2199023255552) rfl (Keeps.refl _ u)) ⟨rfl, rfl, rfl⟩) _
  unfold State.raise
  refine KeepsSignals.powerMirror (hsteps _ (KeepsSignals.each h.modPower ?_) _ _)
  intro u d hd hu
  refine hu.setDomain ?_
  rintro rfl
  obtain ⟨m, hm, h6⟩ := mem_headD hd
  simp only [List.mem_filter, List.mem_cons, List.not_mem_nil, or_false] at hm
  obtain ⟨rfl | rfl | rfl, -⟩ := hm <;> exact hds (List.mem_of_mem_filter (List.mem_of_mem_filter h6))

/-! ## Wakes and interrupts -/

theorem KeepsSignals.leaveWfi (h : KeepsSignals s0 s) {t : Nat} : KeepsSignals s0 (s.leaveWfi t) :=
  h.keep (K := 256) (State.leaveWfi_keeps rfl (Keeps.refl _ s)) ⟨rfl, rfl, rfl⟩

/-- A signal that is written changes no other one. -/
theorem keepsSignals_putNat_target (h : s.Inv) (hon : s.domainOn 6 = true) (hph : s.val sigPhase = 0) {v : Nat} : KeepsSignals s (s.putNat sigTarget v) := by
  refine ⟨putNat_inv h, ?_, descs_putVal _ _ _ _, fun a ha => ?_⟩
  · unfold State.domainOn State.domain
    exact (congrArg (fun n : Nat => decide (n = 0)) (fld_of_rd (rd_putVal _ _ _ _ _) _)).trans hon
  · rcases ha with ha | hne
    · exact val_putNat_other h ha
    · exact absurd hph hne

/-- A wake in PARKED asks the mode machine for STANDBY, where no transition is under way (R44). -/
theorem KeepsSignals.modeWake (h : KeepsSignals s0 s) : KeepsSignals s0 s.modeWake := by
  unfold State.modeWake
  refine KeepsSignals.ite (fun hc => ?_) (fun _ => h)
  rw [Bool.and_eq_true, decide_eq_true_eq, decide_eq_true_eq] at hc
  have hput := h.trans (keepsSignals_putNat_target h.1 h.2.1 (v := 1) hc.2)
  exact ⟨{ hput.1 with }, hput.2.1, hput.2.2.1, hput.2.2.2⟩

theorem KeepsSignals.powerRecord (h : KeepsSignals s0 s) {unit dom kind : Nat} : KeepsSignals s0 (s.powerRecord unit dom kind) := by
  have hw : KeepsSignals s0 ((s.wr Reg.PWR_REFUSE_ID (W (unit + dom * 2 ^ 16 + kind * 2 ^ 20))).wr Reg.PWR_EVT s.dtbLow) := (h.wr (by decide)).wr (by decide)
  exact KeepsSignals.ite (fun _ => hw) (fun _ => hw.modeWake)

/-- An aborted entry goes back to domains that it lowered (R545): PD6 is not one of them while it is ON. -/
theorem KeepsSignals.abortEntry (h : KeepsSignals s0 s) {unit t : Nat} {req : List (Nat × Nat × Nat)} :
    KeepsSignals s0 (s.abortEntry unit t req) := by
  have h6 : 6 ∉ (req.filter (fun r => r.2.2 = 0 && s.domain r.1 ≠ 0)).map (·.1) := by
    rw [List.mem_map]
    rintro ⟨r, hr, hr6⟩
    obtain ⟨-, hcond⟩ := List.mem_filter.mp hr
    rw [Bool.and_eq_true, decide_eq_true_eq (p := s.domain r.1 ≠ 0), hr6] at hcond
    exact hcond.2 (of_decide_eq_true h.2.1)
  unfold State.abortEntry
  dsimp only
  generalize (req.filter (fun r => r.2.2 = 0 && s.domain r.1 ≠ 0)).map (·.1) = back at h6 ⊢
  have hback : KeepsSignals s0 ((s.modPower (fun p => { p with entry := none, later := [] })).each back
      (fun s d => if s.power.trans.all (fun x => x.dom ≠ d) then s.setDomain d 0 else s)) :=
    h.modPower.each (fun _ d hd hu => KeepsSignals.ite (fun _ => hu.setDomain (fun e => h6 (e ▸ hd))) (fun _ => hu))
  have hcount := ((hback.raise h6).each (l := req) (f := fun s r => s.inc (Reg.PWR_CNT_ABT r.1)) (fun _ _ _ hu => hu.inc (by unfold Reg.PWR_CNT_ABT Reg.PWR_STAT; omega)))
  have hrec := (hcount.statBit (f := Fld.PWR_STAT_res) (v := 2) (by decide)).powerRecord (unit := unit) (dom := (req.map (·.1)).foldl min 7) (kind := 2)
  exact (KeepsSignals.ite (fun _ => hrec) (fun _ => hrec.leaveWfi)).powerMirror

theorem KeepsSignals.wakeTeam (h : KeepsSignals s0 s) {unit t : Nat} (ht : t < 2) : KeepsSignals s0 (s.wakeTeam unit t) := by
  unfold State.wakeTeam
  split
  · next et req _ =>
    refine KeepsSignals.ite (fun _ => h.abortEntry) (fun _ => KeepsSignals.ite (fun _ => (h.abortEntry).raise ?_) (fun _ => h))
    rw [List.mem_singleton]
    omega
  · dsimp only
    refine KeepsSignals.ite (fun _ => h) (fun _ => (h.raise ?_).powerRecord)
    intro h6
    have hm := List.mem_of_mem_filter h6
    revert hm
    split <;> decide

theorem KeepsSignals.irqDeliver (h : KeepsSignals s0 s) {t src unit : Nat} (ht : t < 2) : KeepsSignals s0 (s.irqDeliver t src unit) := by
  unfold State.irqDeliver
  refine KeepsSignals.ite (fun _ => h) (fun _ => ?_)
  refine KeepsSignals.ite (fun _ => h.wakeTeam ht) (fun _ => ?_)
  split
  · exact h.each (fun u _ _ hu => hu.keep (K := 256) (State.modCore_keeps rfl (Keeps.refl _ u)) ⟨rfl, rfl, rfl⟩)
  · exact h

theorem KeepsSignals.irq (h : KeepsSignals s0 s) {src : Nat} : KeepsSignals s0 (s.irq src) := by
  have hpend : KeepsSignals s0 ({ s with irqPend := s.irqPend.map (fun (l : List Nat) => if l.contains src then l else l ++ [src]) } : State) :=
    h.keep (K := 262144) (Keeps.set_irqPend rfl (Keeps.refl _ s) (fun hl => (List.length_map _).trans hl)) ⟨rfl, rfl, rfl⟩
  exact (hpend.irqDeliver (by decide)).irqDeliver (by decide)

/-! ## Trips -/

theorem KeepsRegs.bridleMirror (h : KeepsRegs P s0 s) (hstat : ¬P Reg.BRD_STAT) : KeepsRegs P s0 s.bridleMirror := ((h.setf hstat).setf hstat).setf hstat

/-- Packets under a scope rein back (R486). -/
theorem KeepsRegs.preempt (h : KeepsRegs P s0 s) (hstat : ¬P Reg.BRD_STAT) (hcnt : ¬P Reg.BRD_CNT_PREEMPT) {sc : Nat} : KeepsRegs P s0 (s.preempt sc) := by
  refine h.forN (fun u k _ hu => ?_)
  split
  · next x _ =>
    have hfree : KeepsRegs P s0 (u.freeSlot k) := (hu.of_regs (State.modBridle_keeps (K := 4194304) (f := fun b => { b with
        slots := b.slots.set k none, fwqA := b.fwqA.erase k, fwqS := b.fwqS.erase k }) rfl (Keeps.refl _ u) (fun _ hb => by simpa using hb)) rfl).bridleMirror hstat
    have hreply := hfree.of_regs (State.secondReply_keeps (K := 6291456) (x := x) (status := stPreempted) (time := u.dtb) rfl (Keeps.refl _ _)) rfl
    exact KeepsRegs.ite (fun _ => hreply.inc hcnt) (fun _ => hu)
  · exact hu

section
variable (hP : ∀ a, driveBlock a → ¬P a)
include hP

theorem KeepsRegs.undoOutputs (h : KeepsRegs P s0 s) {e l : Nat} : KeepsRegs P s0 (s.undoOutputs e l) := by
  refine KeepsRegs.ite (fun _ => h.forN (fun u k hk hu => ?_)) (fun _ => h)
  split
  · exact hu
  · next g b ho =>
    have hg : g < 64 := lawGens_lt (s := u) (e := e) (l := l) (List.mem_filterMap.mpr ⟨k, List.mem_range.mpr hk, by rw [ho]; rfl⟩)
    split
    · exact hu
    · refine KeepsRegs.ite (fun _ => hu.wr (hP _ ?_)) (fun _ => hu)
      unfold driveBlock Reg.PWM_CMPA Reg.PWM_CMPB
      split <;> omega

/-- A law that a trip line stops (R150). -/
theorem KeepsRegs.lawTripStop (h : KeepsRegs P s0 s) {e l : Nat} (he : e < 12) (hl : l < 4) : KeepsRegs P s0 (s.lawTripStop e l) := by
  have hstat : ¬P (Reg.LAW_STAT e l) := hP _ (by unfold driveBlock Reg.LAW_STAT; omega)
  have hrstat : ¬P (Reg.LAW_RSTAT e l) := hP _ (by unfold driveBlock Reg.LAW_RSTAT; omega)
  unfold State.lawTripStop
  have hundo := h.undoOutputs hP (e := e) (l := l)
  dsimp only
  generalize s.undoOutputs e l = u at hundo ⊢
  have htrip : KeepsRegs P s0 (if u.windowOpen e l u.dtb then u.setf (Reg.LAW_STAT e l) Fld.LAW_STAT_trip 1 else u) :=
    KeepsRegs.ite (fun _ => hundo.setf hstat) (fun _ => hundo)
  generalize (if u.windowOpen e l u.dtb then u.setf (Reg.LAW_STAT e l) Fld.LAW_STAT_trip 1 else u) = v at htrip ⊢
  have hlast := (KeepsRegs.ite (c := (v.windowOpen e l v.dtb || (s.lawAt e l).sec.isSome) = true) (fun _ => htrip.setf (f := Fld.LAW_RSTAT_last) (v := 8) hrstat) (fun _ => htrip)).modLaw
    (e := e) (l := l) (f := fun w => { w with outDue := none, fbDue := none, staged := noOutputs })
  have hprev := KeepsRegs.ite (c := ((s.lawAt e l).sec.any (fun c => !c.look)) = true) (fun _ => hlast.modLaw (e := e) (l := l) (f := fun w => { w with prevMissed := false })) (fun _ => hlast)
  have hend := KeepsRegs.ite (c := (s.lawAt e l).sec.isSome = true) (fun _ => hprev.endSection (fun a ha => hP a (driveBlock_of_lawBlock ha)) he hl) (fun _ => hprev)
  exact KeepsRegs.ite (fun _ => hend.modLaw.setf hrstat) (fun _ => hend)

end

theorem KeepsSignals.preempt (h : KeepsSignals s0 s) {sc : Nat} : KeepsSignals s0 (s.preempt sc) :=
  h.of (K := 6291458) (State.preempt_keeps rfl (Keeps.refl _ s)) ((KeepsRegs.refl h.1).preempt (by decide) (by decide)) ⟨rfl, rfl⟩

theorem KeepsSignals.dischargeEnd (h : KeepsSignals s0 s) : KeepsSignals s0 s.dischargeEnd := by
  have hset : KeepsRegs (· = Reg.PWR_STAT) s (s.setf Reg.DSC_STAT Fld.DSC_STAT_active 0) := (KeepsRegs.refl h.1).setf (by decide)
  exact h.of (K := 524290) (State.dischargeEnd_keeps rfl (Keeps.refl _ s)) (hset.of_regs (Keeps.set_gate (K := 524288) rfl (Keeps.refl _ _) id) rfl) ⟨rfl, rfl⟩

/-- The trip flag of a generator is set with its sources, its safe pattern applies, and its interrupt is raised (R217). -/
def State.tripEntered (s : State) (g t : Nat) : State :=
  let u := ((s.setf (Reg.PWM_STAT g) Fld.PWM_STAT_trip 1).setf (Reg.PWM_STAT g) Fld.PWM_STAT_tstate 2).setf (Reg.PWM_STAT g) Fld.PWM_STAT_tsrc (s.tripLines g)
  ((u.inc (Reg.PWM_CNT_TRIP g)).applyPattern g t).irq (16 + g)

theorem genTripAt_eq (g t : Nat) : s.genTripAt g t = if s.tripFlag g then s.setf (Reg.PWM_STAT g) Fld.PWM_STAT_tstate 2
    else if g = 17 then (s.tripEntered g t).dischargeEnd else s.tripEntered g t := rfl

theorem KeepsSignals.genTripAt (h : KeepsSignals s0 s) {g t : Nat} (hg : g < 40) : KeepsSignals s0 (s.genTripAt g t) := by
  have hstat : Reg.PWM_STAT g ≠ Reg.PWR_STAT := by unfold Reg.PWM_STAT Reg.PWR_STAT; omega
  have hcnt : Reg.PWM_CNT_TRIP g ≠ Reg.PWR_STAT := by unfold Reg.PWM_CNT_TRIP Reg.PWR_STAT; omega
  have hentered : KeepsSignals s0 (s.tripEntered g t) :=
    (((((h.setf hstat).setf hstat).setf hstat).inc hcnt).keep (State.applyPattern_keeps (K := 16384) rfl (Keeps.refl _ _)) ⟨rfl, rfl, rfl⟩).irq
  rw [genTripAt_eq]
  exact KeepsSignals.ite (fun _ => h.setf hstat) (fun _ => KeepsSignals.ite (fun _ => hentered.dischargeEnd) (fun _ => hentered))

theorem KeepsSignals.tripGens (h : KeepsSignals s0 s) {n d : Nat} {gs : List Nat} (hgs : ∀ g ∈ gs, g < 40) : KeepsSignals s0 (s.tripGens n gs d) :=
  h.each (fun _ g hg hu => KeepsSignals.ite (fun _ => hu.genTripAt (hgs g hg)) (fun _ => hu))

theorem KeepsSignals.lawsOnLine (h : KeepsSignals s0 s) {n : Nat} {gs : List Nat} : KeepsSignals s0 (s.lawsOnLine n gs) :=
  h.forN (fun _ _ he hu => hu.forN (fun v _ hl hv => KeepsSignals.ite
    (fun _ => hv.of (K := 8194) (State.lawTripStop_keeps rfl (Keeps.refl _ v)) ((KeepsRegs.refl hv.1).lawTripStop (driveBlock_ne pwrStat_outside) he hl) ⟨rfl, rfl⟩)
    (fun _ => hv)))

/-- A trip line becomes active: its generators trip and its laws stop (R210, R212). -/
theorem KeepsSignals.lineUp (h : KeepsSignals s0 s) {n d : Nat} {gs : List Nat} (hgs : ∀ g ∈ gs, g < 40) : KeepsSignals s0 (s.lineUp n gs d) := by
  have hcnt : Reg.TRP_CNT n ≠ Reg.PWR_STAT := by unfold Reg.TRP_CNT Reg.PWR_STAT; omega
  have htime : Reg.TRP_TIME n ≠ Reg.PWR_STAT := by unfold Reg.TRP_TIME Reg.PWR_STAT; omega
  exact (((((h.setf (by decide)).setf (by decide)).inc hcnt).wr htime).irq.tripGens hgs).lawsOnLine

theorem KeepsSignals.setTl6 (h : KeepsSignals s0 s) {g : Nat} {b : Bool} : KeepsSignals s0 (s.setTl6 g b) :=
  KeepsSignals.ite (fun _ => h.wr (by decide)) (fun _ => h.wr (by decide))

/-- Generators are safe: tripped by their line, or stopped (R414). -/
theorem KeepsSignals.safeGens (h : KeepsSignals s0 s) {gs : List Nat} {d : Nat} (hgs : ∀ g ∈ gs, g < 40) : KeepsSignals s0 (s.safeGens gs d) := by
  have hline : KeepsSignals s0 (s.tl6On gs d) := KeepsSignals.ite (fun _ => h)
    (fun _ => (h.each (fun _ _ _ hu => hu.setTl6)).lineUp (fun g hg => hgs g (List.mem_of_mem_filter hg)))
  exact hline.each (fun u g hg hu => KeepsSignals.ite (fun _ => hu)
    (fun _ => hu.of (K := 16386) (State.genStop_keeps rfl (Keeps.refl _ u)) ((KeepsRegs.refl hu.1).genStop (driveBlock_ne pwrStat_outside) (hgs g hg)) ⟨rfl, rfl⟩))

theorem KeepsSignals.gtrip (h : KeepsSignals s0 s) {gs : List Nat} {d : Nat} (hgs : ∀ g ∈ gs, g < 40) : KeepsSignals s0 (s.gtrip gs d) :=
  (h.each (fun _ _ _ hu => (KeepsSignals.ite (fun _ => hu.setf (by decide)) (fun _ => hu.setf (by decide))).preempt)).safeGens hgs

end Sys2Proof.Machine
end

section
/-! PROOFS. The drive sequencer of Team S (R263, R264, R277, R283, R284, R287-R289). -/

namespace Sys2Proof.Machine

set_option Elab.async false

variable {s t : State}

/-! ## Drives -/

theorem drv_modDrv (h : s.Inv) {d : Nat} (hd : d < 2) (f : DriveSt → DriveSt) : (s.modDrv d f).drv d = f (s.drv d) :=
  getD_modify_same _ _ _ _ (by rw [h.drives]; exact hd)
theorem modDrv_keeps_inv (h : s.Inv) {d : Nat} {f : DriveSt → DriveSt} : (s.modDrv d f).Inv := (State.modDrv_keeps (K := 2 ^ 25) rfl (Keeps.refl _ s)).inv h
theorem drv_congr (h : t.drives = s.drives) (d : Nat) : t.drv d = s.drv d := by unfold State.drv; rw [h]
theorem drv_setDrv (d n e : Nat) : (s.setDrv d n).drv e = s.drv e := drv_congr ((State.putNat_keeps (K := 532996) rfl (Keeps.refl _ s)).drives rfl) e
theorem dtb_setDrv (d n : Nat) : (s.setDrv d n).dtb = s.dtb := (State.putNat_keeps (K := 532996) rfl (Keeps.refl _ s)).dtb rfl
theorem dtb_modDrv (d : Nat) (f : DriveSt → DriveSt) : (s.modDrv d f).dtb = s.dtb := rfl
theorem val_modDrv (d a : Nat) (f : DriveSt → DriveSt) : (s.modDrv d f).val a = s.val a := rfl
theorem drvState_modDrv (d e : Nat) (f : DriveSt → DriveSt) : (s.modDrv d f).drvState e = s.drvState e := rfl
theorem setDrv_inv (h : s.Inv) {d n : Nat} : (s.setDrv d n).Inv := putNat_inv h
theorem drvState_setDrv (h : s.Inv) {d n : Nat} (hp : s.Publishes (dsig d 0x320)) (hn : n < 2 ^ 32) : (s.setDrv d n).drvState d = n :=
  (val_putNat_same h hp).trans (Nat.mod_eq_of_lt hn)
theorem dsig_ne {d e i : Nat} (h : d ≠ e) : dsig d i ≠ dsig e i := by unfold dsig sid; omega
theorem drvState_setDrv_other (h : s.Inv) {d e n : Nat} (hde : e ≠ d) : (s.setDrv d n).drvState e = s.drvState e := val_putNat_other h (dsig_ne hde)
theorem publishes_setDrv {d n a : Nat} (hp : s.Publishes a) : (s.setDrv d n).Publishes a := publishes_of (rd_putVal _ _ _ _ _) (descs_putVal _ _ _ _) hp

theorem drvLaws_lt {d : Nat} (hd : d < 2) : ∀ p ∈ s.drvLaws d, p.1 < 12 ∧ p.2 < 4 := by
  unfold State.drvLaws
  split
  · decide
  · intro p hp
    simp only [List.mem_cons, List.not_mem_nil, or_false] at hp
    rcases hp with rfl | rfl | rfl <;> dsimp only <;> omega
theorem drvGens_lt {d : Nat} (hd : d < 2) : ∀ g ∈ s.drvGens d, g < 40 := by
  unfold State.drvGens driveGens
  split
  · decide
  · intro g hg
    obtain rfl | rfl : d = 0 ∨ d = 1 := by omega
    · revert g; decide
    · revert g; decide

/-! ## The drive's start -/

theorem sensorGen_lt {d : Nat} (hd : d < 2) : sensorGen d < 40 := by unfold sensorGen; omega
theorem drvStartGens_lt {d : Nat} (hd : d < 2) : ∀ g ∈ s.drvGens d ++ [sensorGen d], g < 40 := by
  intro g hg
  rcases List.mem_append.mp hg with hg | hg
  · exact drvGens_lt hd g hg
  · rw [List.mem_singleton.mp hg]
    exact sensorGen_lt hd

/-- The laws and the sensor of a drive loaded, before its references start at 0. -/
def State.drvLawsLoaded (s : State) (d : Nat) : State :=
  let u := if s.coupled then s.forN 4 (fun s e => s.engineStop e) else s
  (((u.sensorSlot d).currentJoins d).lawsOn (u.drvLaws d)).lawsOn (if u.lawOn 9 1 then [] else [(9, 1)])

theorem drvLoad_eq (d : Nat) : s.drvLoad d = (s.drvLawsLoaded d).each [0x206, 0x210, 0x211] (fun s i => s.putNat (dsig d i) 0) := rfl

section
variable {P : Nat → Prop} {s0 : State} (hP : ∀ a, driveBlock a → ¬P a)
include hP

theorem KeepsRegs.sensorEntry (h : KeepsRegs P s0 s) {u k chan pol dest : Nat} (hu : u < 16) (hk : k < 16) : KeepsRegs P s0 (s.sensorEntry u k chan pol dest) := by
  have hcfg : ¬P (Reg.ADC_ECFG u k) := hP _ (by unfold driveBlock Reg.ADC_ECFG; omega)
  have hdst : ¬P (Reg.ADC_EDST u k) := hP _ (by unfold driveBlock Reg.ADC_EDST; omega)
  exact ((((h.setf hcfg).setf hcfg).setf hcfg).setf hcfg).setf hdst

theorem KeepsRegs.sensorSlot (h : KeepsRegs P s0 s) {d : Nat} (hd : d < 2) : KeepsRegs P s0 (s.sensorSlot d) := by
  have htrg : ¬P (Reg.ADC_TRG (3 + 4 * d) 1) := hP _ (by unfold driveBlock Reg.ADC_TRG; omega)
  have hslot := fun a b c e => (((h.setf (f := Fld.ADC_TRG_skind) (v := a) htrg).setf (f := Fld.ADC_TRG_sidx) (v := b) htrg).setf (f := Fld.ADC_TRG_first) (v := c) htrg).setf (f := Fld.ADC_TRG_last) (v := e) htrg
  have hu : 3 + 4 * d < 16 := by omega
  exact KeepsRegs.ite (fun _ => (hslot _ _ _ _).sensorEntry hP hu (by decide))
    (fun _ => (((hslot _ _ _ _).sensorEntry hP hu (by decide)).sensorEntry hP hu (by decide)).sensorEntry hP hu (by decide))

theorem KeepsRegs.currentJoins (h : KeepsRegs P s0 s) {d : Nat} : KeepsRegs P s0 (s.currentJoins d) := by
  refine KeepsRegs.ite (fun _ => h.forN (fun u k hk hu => ?_)) (fun _ => h)
  have htrg : ¬P (Reg.ADC_TRG (4 + k / 2) (k % 2)) := hP _ (by unfold driveBlock Reg.ADC_TRG; omega)
  exact (hu.setf htrg).setf htrg

/-- The laws and the sensor of a drive are loaded (R262). -/
theorem KeepsRegs.drvLawsLoaded (h : KeepsRegs P s0 s) {d : Nat} (hd : d < 2) : KeepsRegs P s0 (s.drvLawsLoaded d) := by
  have hstop : KeepsRegs P s0 (if s.coupled then s.forN 4 (fun s e => s.engineStop e) else s) :=
    KeepsRegs.ite (fun _ => h.forN (fun _ e he hu => hu.forN (fun _ l hl hv => hv.lawDisable hP (by omega) hl))) (fun _ => h)
  unfold State.drvLawsLoaded
  generalize (if s.coupled then s.forN 4 (fun s e => s.engineStop e) else s) = u at hstop ⊢
  refine (((hstop.sensorSlot hP hd).currentJoins hP).lawsOn hP (drvLaws_lt hd)).lawsOn hP ?_
  split <;> decide

end

theorem drvLawsLoaded_parts (d : Nat) : Keeps 12802 s (s.drvLawsLoaded d) :=
  State.lawsOn_keeps rfl (State.lawsOn_keeps rfl (State.currentJoins_keeps rfl (State.sensorSlot_keeps rfl
    (Keeps.ite (State.forN_keeps (Keeps.refl _ s) (fun _ _ hu => State.engineStop_keeps rfl hu)) (Keeps.refl _ s)))))

/-- A drive whose laws, references and generators are ready to start, for the registers and signals that the sequencer reads. -/
def State.drvReady (s : State) (d : Nat) : State := (s.drvLoad d).groupStart (s.drvGens d ++ [sensorGen d])

/-- A signal is another one than the position fault and the references of drive `d`. -/
def notReference (d a : Nat) : Prop := a ≠ dsig d 0x206 ∧ a ≠ dsig d 0x210 ∧ a ≠ dsig d 0x211

theorem drvLoad_effect (h : s.Inv) {d : Nat} (hd : d < 2) : KeepsRegs (· = Reg.PWR_STAT) s (s.drvLoad d) ∧ (∀ a, notReference d a → (s.drvLoad d).val a = s.val a) := by
  have hload : KeepsRegs (· = Reg.PWR_STAT) s (s.drvLawsLoaded d) := (KeepsRegs.refl h).drvLawsLoaded (driveBlock_ne pwrStat_outside) hd
  have hval : ∀ a, notReference d a → (s.drvLawsLoaded d).val a = s.val a := fun a _ => val_congr ((drvLawsLoaded_parts d).sigs rfl) a
  rw [drvLoad_eq]
  refine State.each_induction (P := fun u => KeepsRegs (· = Reg.PWR_STAT) s u ∧ ∀ a, notReference d a → u.val a = s.val a) (fun u i hi hu => ?_) ⟨hload, hval⟩
  refine ⟨hu.1.putNat, fun a ha => (val_putNat_other hu.1.1 ?_).trans (hu.2 a ha)⟩
  obtain ⟨h206, h210, h211⟩ := ha
  simp only [List.mem_cons, List.not_mem_nil, or_false] at hi
  rcases hi with rfl | rfl | rfl
  · exact h206
  · exact h210
  · exact h211

theorem drvReady_effect (h : s.Inv) {d : Nat} (hd : d < 2) : KeepsRegs (· = Reg.PWR_STAT) s (s.drvReady d) ∧ (∀ a, notReference d a → (s.drvReady d).val a = s.val a) := by
  obtain ⟨hk, hv⟩ := drvLoad_effect h hd
  refine ⟨hk.groupStart (driveBlock_ne pwrStat_outside) (drvStartGens_lt hd), fun a ha => ?_⟩
  exact (val_congr ((State.groupStart_keeps (K := 16386) rfl (Keeps.refl _ _)).sigs rfl) a).trans (hv a ha)
theorem drvReady_parts (d : Nat) : Keeps 553478 s (s.drvReady d) := State.groupStart_keeps rfl (State.drvLoad_keeps rfl (Keeps.refl _ s))

/-! ## The drive's end -/

/-- The laws of the drive are off (R147). -/
theorem drvLawsOff_power (h : s.Inv) {d : Nat} (hd : d < 2) : KeepsRegs (· = Reg.PWR_STAT) s (s.lawsOff (s.drvLaws d)) :=
  (KeepsRegs.refl h).lawsOff (driveBlock_ne pwrStat_outside) (drvLaws_lt hd)
theorem drvLawsOff_parts (d : Nat) : Keeps 8706 s (s.lawsOff (s.drvLaws d)) := State.lawsOff_keeps rfl (Keeps.refl _ s)

theorem drvSafeEntry_effect (h : s.Inv) {d : Nat} (hd : d < 2) (hp : s.Publishes (dsig d 0x320)) : (s.drvSafeEntry d).Inv ∧ (s.drvSafeEntry d).drvState d = drvSafe ∧
    ((s.drvSafeEntry d).drv d).stopBy = none ∧ (s.drvSafeEntry d).dtb = s.dtb ∧ (s.drvSafeEntry d).mg = s.mg := by
  have hk := drvLawsOff_power h hd
  have hp' := publishes_of_keeps hk ((drvLawsOff_parts d).descs rfl) hp
  have hs := State.drvSafeEntry_keeps (K := 34087430) (d := d) rfl (Keeps.refl _ s)
  refine ⟨hs.inv h, drvState_setDrv hk.1 hp' (by decide), ?_, hs.dtb rfl, hs.mg rfl⟩
  exact congrArg (·.stopBy) (drv_modDrv (putNat_inv hk.1) hd _)

/-- The safe entry of a drive leaves the other one. -/
theorem drvState_drvSafeEntry_other (h : s.Inv) {d e : Nat} (hd : d < 2) (hde : e ≠ d) : (s.drvSafeEntry d).drvState e = s.drvState e :=
  (drvState_setDrv_other (drvLawsOff_power h hd).1 hde).trans (val_congr ((drvLawsOff_parts d).sigs rfl) _)
theorem publishes_drvSafeEntry (h : s.Inv) {d a : Nat} (hd : d < 2) (hp : s.Publishes a) : (s.drvSafeEntry d).Publishes a :=
  publishes_of (s := s.lawsOff (s.drvLaws d)) (rd_putVal _ _ _ _ _) (descs_putVal _ _ _ _)
    (publishes_of_keeps (drvLawsOff_power h hd) ((drvLawsOff_parts d).descs rfl) hp)

/-- The laws of the drive are off, and its generators are stopped. -/
def State.drvStopped (s : State) (d : Nat) : State :=
  (s.lawsOff (s.drvLaws d)).stopGens (s.drvGens d ++ [sensorGen d])

/-- The drive is OFF, before the other half of a coupled machine is. -/
def State.drvHalfOff (s : State) (d : Nat) : State := ((s.drvStopped d).setDrv d drvOff).modDrv d (fun x => { x with stopBy := none })

theorem drvToOff_eq (d : Nat) : s.drvToOff d = if (s.drvHalfOff d).coupled then (s.drvHalfOff d).setDrv 1 drvOff else s.drvHalfOff d := rfl

theorem drvToOff_effect (h : s.Inv) {d : Nat} (hd : d < 2) (hp : ∀ k, k < 2 → s.Publishes (dsig k 0x320)) :
    (s.drvToOff d).drvState d = drvOff ∧ ((s.drvToOff d).drv d).stopBy = none ∧ (s.drvToOff d).dtb = s.dtb := by
  have hk : KeepsRegs (· = Reg.PWR_STAT) s (s.drvStopped d) :=
    (drvLawsOff_power h hd).stopGens (driveBlock_ne pwrStat_outside) (drvStartGens_lt hd)
  have hparts : Keeps 25090 s (s.drvStopped d) := State.stopGens_keeps rfl (State.lawsOff_keeps rfl (Keeps.refl _ s))
  have hpub : ∀ k, k < 2 → (s.drvStopped d).Publishes (dsig k 0x320) := fun k hk' => publishes_of_keeps hk (hparts.descs rfl) (hp k hk')
  have hhalf : (s.drvHalfOff d).Inv := modDrv_keeps_inv (putNat_inv hk.1)
  have hoff : (s.drvHalfOff d).drvState d = drvOff := drvState_setDrv hk.1 (hpub d hd) (by decide)
  have hstop : ((s.drvHalfOff d).drv d).stopBy = none := congrArg (·.stopBy) (drv_modDrv (putNat_inv hk.1) hd _)
  have hpub1 : (s.drvHalfOff d).Publishes (dsig 1 0x320) := publishes_of (s := s.drvStopped d) (rd_putVal _ _ _ _ _) (descs_putVal _ _ _ _) (hpub 1 (by decide))
  refine ⟨?_, ?_, (State.drvToOff_keeps (K := 34103814) rfl (Keeps.refl _ s)).dtb rfl⟩ <;> rw [drvToOff_eq] <;> split
  · by_cases h1 : d = 1
    · rw [h1] at hhalf hpub1 ⊢
      exact drvState_setDrv hhalf hpub1 (by decide)
    · rw [drvState_setDrv_other hhalf h1]
      exact hoff
  · exact hoff
  · rw [drv_setDrv]
    exact hstop
  · exact hstop

/-- A drive that runs while the battery side is lost (R287). -/
def State.lostSide (s : State) (d : Nat) : State := if s.drvLive d then (s.gtrip (s.drvGens d)).drvSafeEntry d else s

theorem publishes_power {a : Nat} (hp : s.Publishes a) : s.domainOn 6 = true := by
  have hw := hp.1
  unfold State.writable at hw
  exact (Bool.and_eq_true _ _ ▸ hw).1

theorem lostSide_effect (h : s.Inv) {d : Nat} (hd : d < 2) (hp : ∀ k, k < 2 → s.Publishes (dsig k 0x320)) :
    (s.lostSide d).Inv ∧ (∀ k, k < 2 → (s.lostSide d).Publishes (dsig k 0x320)) ∧ (s.drvLive d = true → (s.lostSide d).drvState d = drvSafe) ∧
      ∀ e, e ≠ d → (s.lostSide d).drvState e = s.drvState e := by
  have hk : KeepsSignals s (s.gtrip (s.drvGens d)) := (KeepsSignals.refl h (publishes_power (hp d hd))).gtrip (drvGens_lt hd)
  unfold State.lostSide
  split
  · refine ⟨(drvSafeEntry_effect hk.1 hd (hk.publishes (hp d hd))).1, fun k hk' => publishes_drvSafeEntry hk.1 hd (hk.publishes (hp k hk')),
      fun _ => (drvSafeEntry_effect hk.1 hd (hk.publishes (hp d hd))).2.1, fun e he => ?_⟩
    exact (drvState_drvSafeEntry_other hk.1 hd he).trans (hk.val (by unfold dsig sid sigTarget sid; omega))
  · next hdead => exact ⟨h, hp, fun hlive => absurd hlive hdead, fun _ _ => rfl⟩

/-- A drive starts where it is OFF (R263); a coupled machine is one drive. -/
def State.drvBegun (s : State) (d : Nat) : State :=
  let u := (s.drvReady d).modDrv d (fun x => { x with startAt := (s.drvReady d).dtb, dir := (s.drvReady d).val (dsig d 0x305), stopBy := none })
  if (u.setDrv d drvStart).coupled then (u.setDrv d drvStart).setDrv 1 drvCoupled else u.setDrv d drvStart

theorem notReference_of {d e i : Nat} (hi : i ≠ 0x206 ∧ i ≠ 0x210 ∧ i ≠ 0x211) (hlt : i < 65536) : notReference d (dsig e i) := by
  unfold notReference dsig sid
  omega

theorem drvBegun_effect (h : s.Inv) {d : Nat} (hd : d < 2) (hp : ∀ k, k < 2 → s.Publishes (dsig k 0x320)) (hlead : d = 0 ∨ s.coupled = false) :
    (s.drvBegun d).drvState d = drvStart ∧ ((s.drvBegun d).drv d).startAt = s.dtb ∧ ((s.drvBegun d).drv d).dir = s.val (dsig d 0x305) ∧
      (s.coupled = true → (s.drvBegun d).drvState 1 = drvCoupled) := by
  obtain ⟨hk, hval⟩ := drvReady_effect h hd
  have hpub : ∀ k, k < 2 → (s.drvReady d).Publishes (dsig k 0x320) := fun k hk' => publishes_of_keeps hk ((drvReady_parts d).descs rfl) (hp k hk')
  have hdir : (s.drvReady d).val (dsig d 0x305) = s.val (dsig d 0x305) := hval _ (notReference_of (by decide) (by decide))
  have hdtb := (drvReady_parts (s := s) d).dtb rfl
  have hcoupled : (s.drvReady d).coupled = s.coupled := by
    unfold State.coupled
    rw [hval _ (by unfold notReference dsig sid; omega)]
  unfold State.drvBegun
  dsimp only
  rw [hdir, hdtb]
  generalize s.drvReady d = v at hk hpub hcoupled
  have hm : (v.modDrv d (fun x => { x with startAt := s.dtb, dir := s.val (dsig d 0x305), stopBy := none })).Inv := modDrv_keeps_inv hk.1
  have hdrv := drv_modDrv hk.1 hd (fun x => { x with startAt := s.dtb, dir := s.val (dsig d 0x305), stopBy := none })
  have hpm : ∀ k, k < 2 → (v.modDrv d (fun x => { x with startAt := s.dtb, dir := s.val (dsig d 0x305), stopBy := none })).Publishes (dsig k 0x320) :=
    fun k hk' => publishes_of rfl rfl (hpub k hk')
  have hcm : (v.modDrv d (fun x => { x with startAt := s.dtb, dir := s.val (dsig d 0x305), stopBy := none })).coupled = s.coupled := hcoupled
  generalize v.modDrv d _ = u at hm hdrv hpm hcm
  have hstart : (u.setDrv d drvStart).drvState d = drvStart := drvState_setDrv hm (hpm d hd) (by decide)
  have hcs : (u.setDrv d drvStart).coupled = s.coupled := by
    unfold State.coupled
    rw [show (u.setDrv d drvStart).val (sid 3 0x40) = u.val (sid 3 0x40) from val_putNat_other hm (by unfold dsig sid; omega)]
    exact hcm
  rw [hcs]
  cases hc : s.coupled with
  | false =>
    rw [if_neg Bool.false_ne_true, drv_setDrv, hdrv]
    exact ⟨hstart, rfl, rfl, fun hf => absurd hf Bool.false_ne_true⟩
  | true =>
    have hd0 : d = 0 := hlead.resolve_right (by rw [hc]; decide)
    rw [if_pos rfl, drv_setDrv, drv_setDrv, hdrv]
    refine ⟨?_, rfl, rfl, fun _ => drvState_setDrv (setDrv_inv hm) (publishes_setDrv (hpm 1 (by decide))) (by decide)⟩
    rw [drvState_setDrv_other (setDrv_inv hm) (by omega)]
    exact hstart

/-! ## The statement -/

/-- Settles O30: each step by what it makes of the drive's state. -/
theorem driveSequence : Obligations.DriveSequence := by
  intro s d h hd hteam hp
  have hon := onTeam_of hteam
  have hp320 : ∀ k, k < 2 → s.Publishes (dsig k 0x320) := fun k hk => (hp k hk).1
  have hdu := decide_eq_true hd
  have hpd6 : s.domainOn 6 = true := publishes_power (hp320 d hd)
  have hset : ∀ (n : Nat) (u : State), u.Inv → (∀ k, k < 2 → u.Publishes (dsig k 0x320)) → n < 2 ^ 32 → (u.setDrv d n).drvState d = n :=
    fun n u hu hpu hn => drvState_setDrv hu (hpu d hd) hn
  refine ⟨?_, ?_, ?_, ?_, ?_, ?_, ?_, ?_, ?_, ?_, ?_, ?_⟩
  · intro hlead hoff hmode hrun hseq
    have hcond : (decide (s.drvState d = drvOff) && decide (s.val (dsig d 0x302) ≠ 0) && (decide (s.modeNow = 2) || decide (s.modeNow = 5)) &&
        decide (s.fld Reg.GDC_STAT Fld.GDC_STAT_seq = 3) && (decide (d = 0) || !s.coupled)) = true := by
      simp only [Bool.and_eq_true, Bool.or_eq_true, decide_eq_true_eq, Bool.not_eq_true']
      exact ⟨⟨⟨⟨hoff, hmode⟩, hrun⟩, hseq⟩, hlead⟩
    cases hcfg : s.drvConfigOk d with
    | true =>
      refine runs_ofUnit (t := s.drvBegun d) ?_ hdu (by rw [if_pos rfl]; exact drvBegun_effect h hd hp320 hlead)
      rw [exec_driveStart, execDriveStart, hon, hcfg]
      exact congrArg (ofUnit _) (if_pos hcond)
    | false =>
      refine runs_ofUnit (t := s.putNat (dsig d 0x321) 1) ?_ hdu ?_
      · rw [exec_driveStart, execDriveStart, hon, hcfg]
        exact congrArg (ofUnit _) (if_pos hcond)
      · rw [if_neg Bool.false_ne_true]
        refine ⟨(val_putNat_other h ?_).trans hoff, val_putNat_same h (hp d hd).2⟩
        unfold dsig sid
        omega
  · intro held hst hclean h212 h213 hheld
    refine runs_ofUnit (t := s.setDrv d drvRun) ?_ hdu (hset _ s h hp320 (by decide))
    rw [exec_driveStartComplete, execDriveStartComplete, hon]
    dsimp only
    rw [hst, hclean, decide_eq_true h212, decide_eq_true h213]
    exact congrArg (ofUnit _) (if_pos (by rw [decide_eq_true (show Config.msCycles ≤ held from hheld)]; rfl))
  · intro hst hpos
    have hu := drvToOff_effect (s := s.reach ((s.drv d).startAt + 20 * Config.msCycles)) (reach_inv h) hd (fun k hk => publishes_of rfl rfl (hp320 k hk))
    refine runs_ofUnit (t := (s.reach ((s.drv d).startAt + 20 * Config.msCycles)).drvToOff d) ?_ hdu ⟨hu.1, hu.2.2⟩
    rw [exec_driveStartTimeout, execDriveStartTimeout, hon]
    exact congrArg (ofUnit _) ((if_pos hst).trans (if_neg hpos))
  · intro hst hslow
    refine runs_ofUnit (t := (s.setDrv d drvDwell).modDrv d (fun x => { x with dwellAt := s.dtb })) ?_ hdu ⟨hset _ s h hp320 (by decide), ?_⟩
    · rw [exec_driveDwellEntry, execDriveDwellEntry, hon, hst, decide_eq_true hslow]
      rfl
    · rw [drv_modDrv (setDrv_inv h) hd]
  · intro hst hslow
    have hr := reach_inv (t := (s.drv d).dwellAt + s.val (dsig d 0x313) * Config.msCycles) h
    have hpr : ∀ k, k < 2 → (s.reach ((s.drv d).dwellAt + s.val (dsig d 0x313) * Config.msCycles)).Publishes (dsig k 0x320) := fun k hk => publishes_of rfl rfl (hp320 k hk)
    refine runs_ofUnit (t := ((s.reach ((s.drv d).dwellAt + s.val (dsig d 0x313) * Config.msCycles)).setDrv d drvRun).modDrv d (fun x => { x with dir := s.val (dsig d 0x305) })) ?_ hdu
      ⟨hset _ _ hr hpr (by decide), ?_, ?_⟩
    · rw [exec_driveDwellEnd, execDriveDwellEnd, hon, hst, decide_eq_true hslow]
      rfl
    · rw [drv_modDrv (setDrv_inv hr) hd]
    · exact dtb_setDrv _ _
  · intro hst hstop
    refine runs_ofUnit (t := (s.setDrv d drvStopping).modDrv d (fun x => { x with stopBy := if s.modeStops d then some (s.dtb + 50 * Config.msCycles) else none })) ?_ hdu
      (hset _ s h hp320 (by decide))
    rw [exec_driveStop, execDriveStop, hon]
    dsimp only
    rw [hst, hstop]
    rfl
  · intro hst htorque hslow
    have hu := drvToOff_effect h hd hp320
    refine runs_ofUnit (t := s.drvToOff d) ?_ hdu ⟨hu.1, hu.2.1⟩
    rw [exec_driveStopped, execDriveStopped, hon, hst, htorque, hslow]
    rfl
  · intro due hst hfast hstop
    have hk : KeepsSignals s ((s.reach due).gtrip (s.drvGens d)) :=
      (((KeepsSignals.refl h hpd6).keep (K := 1) (State.reach_keeps rfl (Keeps.refl _ s)) ⟨rfl, rfl, rfl⟩)).gtrip (drvGens_lt hd)
    have hdtb : ((s.reach due).gtrip (s.drvGens d)).dtb = max s.dtb due := (State.gtrip_keeps (K := 2203325457158) rfl (Keeps.refl _ (s.reach due))).dtb rfl
    obtain ⟨-, hsafe, hnone, hdtb', -⟩ := drvSafeEntry_effect hk.1 hd (hk.publishes (hp320 d hd))
    refine runs_ofUnit (t := ((s.reach due).gtrip (s.drvGens d)).drvSafeEntry d) ?_ hdu ⟨hsafe, hnone, hdtb'.trans hdtb⟩
    rw [exec_driveStopTimeout, execDriveStopTimeout, hon, hstop]
    dsimp only
    rw [hst, hfast]
    rfl
  · intro hlive htrip
    refine runs_ofUnit (t := s.drvSafeEntry d) ?_ hdu (drvSafeEntry_effect h hd (hp320 d hd)).2.1
    rw [exec_driveSafeEntry, execDriveSafeEntry, hon, hlive, htrip]
    rfl
  · intro held hlive hspeed hheld
    have hr : ∀ (cls sc rx : Nat), (s.report cls sc rx).Inv := fun cls sc rx => (State.report_keeps (K := 1048576) rfl (Keeps.refl _ s)).inv h
    have hu := drvSafeEntry_effect (hr 12 (if s.coupled then scopeOf lvPlane 0 else driveScope d) rxSafe) hd
      (publishes_of (rd_congr (State.report_regs _) _) (State.report_descs _) (hp320 d hd))
    refine runs_ofUnit (t := s.drvFault d) ?_ hdu ⟨hu.2.1, ?_⟩
    · rw [exec_driveOverspeed, execDriveOverspeed, hon, hlive, decide_eq_true hspeed, decide_eq_true (show Config.msCycles ≤ held from hheld)]
      rfl
    · exact congrArg (·.reports) hu.2.2.2.2
  · intro hlost hlive
    refine runs_next (t := (s.lostSide 0).lostSide 1) ?_ ?_
    · rw [exec_batterySideLost, execBatterySideLost, hon]
      exact congrArg Host.Outcome.next (if_pos hlost)
    · obtain ⟨h0, hp0, hsafe0, hother0⟩ := lostSide_effect h (by decide : 0 < 2) hp320
      obtain ⟨-, -, hsafe1, hother1⟩ := lostSide_effect h0 (by decide : 1 < 2) hp0
      obtain rfl | rfl : d = 0 ∨ d = 1 := by omega
      · exact (hother1 0 (by decide)).trans (hsafe0 hlive)
      · refine hsafe1 ?_
        unfold State.drvLive at hlive ⊢
        rw [hother0 1 (by decide)]
        exact hlive
  · intro hst hpos
    have hu := drvToOff_effect h hd hp320
    refine runs_ofUnit (t := s.drvToOff d) ?_ hdu ⟨hu.1, hu.2.2⟩
    rw [exec_driveStartTimeout, execDriveStartTimeout, hon]
    exact congrArg (ofUnit _) ((if_pos hst).trans (if_pos hpos))

end Sys2Proof.Machine
end

section
/-! PROOFS. The charge inlet (R299-R309): what its steps write, and what each of them makes of its state. -/

namespace Sys2Proof.Machine

set_option Elab.async false

/-! ## Operations that write the signals of a list only -/

/-- `s` is sound, each register of `P` and each signal outside `A` reads as in `s0`, and so do the descriptors. -/
def WritesOnly (P : Nat → Prop) (A : List Nat) (s0 s : State) : Prop := KeepsRegs P s0 s ∧ s.descs = s0.descs ∧ ∀ a, a ∉ A → s.val a = s0.val a

variable {P : Nat → Prop} {A : List Nat} {s0 s t : State}

theorem WritesOnly.refl (h : s.Inv) : WritesOnly P A s s := ⟨KeepsRegs.refl h, rfl, fun _ _ => rfl⟩
theorem WritesOnly.inv (h : WritesOnly P A s0 s) : s.Inv := h.1.1
theorem WritesOnly.rd (h : WritesOnly P A s0 s) {a : Nat} (ha : P a) : s.rd a = s0.rd a := h.1.2 a ha
theorem WritesOnly.val (h : WritesOnly P A s0 s) {a : Nat} (ha : a ∉ A) : s.val a = s0.val a := h.2.2 a ha
theorem WritesOnly.trans (h : WritesOnly P A s0 s) (h' : WritesOnly P A s t) : WritesOnly P A s0 t :=
  ⟨h.1.trans h'.1, h'.2.1.trans h.2.1, fun a ha => (h'.2.2 a ha).trans (h.2.2 a ha)⟩
theorem WritesOnly.mono {Q : Nat → Prop} {B : List Nat} (h : WritesOnly P A s0 s) (hQ : ∀ a, Q a → P a) (hB : ∀ a ∈ A, a ∈ B) : WritesOnly Q B s0 s :=
  ⟨h.1.mono hQ, h.2.1, fun a ha => h.2.2 a (fun hm => ha (hB a hm))⟩
theorem WritesOnly.publishes (h : WritesOnly P A s0 s) (hP : P Reg.PWR_STAT) {a : Nat} (hp : s0.Publishes a) : s.Publishes a :=
  publishes_of (h.rd hP) h.2.1 hp
theorem WritesOnly.writable (h : WritesOnly P A s0 s) (hP : P Reg.PWR_STAT) (a : Nat) : s.writable a = s0.writable a := by
  have hdesc : s.desc a = s0.desc a := by unfold State.desc; rw [h.2.1]
  have hon : s.domainOn 6 = s0.domainOn 6 := by unfold State.domainOn State.domain; rw [fld_of_rd (h.rd hP)]
  unfold State.writable
  rw [hon, hdesc]

/-- An operation that writes no signal. -/
theorem WritesOnly.of (h : WritesOnly P A s0 s) {K : Nat} (hk : Keeps K s t) (hr : KeepsRegs P s t) (hK : K.testBit 2 = false ∧ K.testBit 3 = false) : WritesOnly P A s0 t :=
  h.trans ⟨hr, hk.descs hK.2, fun a _ => val_congr (hk.sigs hK.1) a⟩
/-- An operation that writes no register either. -/
theorem WritesOnly.keep (h : WritesOnly P A s0 s) {K : Nat} (hk : Keeps K s t) (hK : K.testBit 1 = false ∧ K.testBit 2 = false ∧ K.testBit 3 = false) : WritesOnly P A s0 t :=
  h.of hk ((KeepsRegs.refl h.inv).of_regs hk hK.1) hK.2
theorem WritesOnly.put (h : WritesOnly P A s0 s) {a q : Nat} {v : Word} {b : Bool} (ha : a ∈ A) : WritesOnly P A s0 (s.putVal a v q b) :=
  h.trans ⟨(KeepsRegs.refl h.inv).putVal, descs_putVal _ _ _ _, fun x hx => congrArg (·.value.toNat) (sig_putVal_other h.inv (fun e : x = a => hx (by rw [e]; exact ha)))⟩
theorem WritesOnly.putNat (h : WritesOnly P A s0 s) {a v : Nat} (ha : a ∈ A) : WritesOnly P A s0 (s.putNat a v) := h.put ha
theorem WritesOnly.putInt (h : WritesOnly P A s0 s) {a : Nat} {v : Int} (ha : a ∈ A) : WritesOnly P A s0 (s.putInt a v) := h.put ha
theorem WritesOnly.setf (h : WritesOnly P A s0 s) {a : Nat} {f : Field} {v : Nat} (ha : ¬P a) : WritesOnly P A s0 (s.setf a f v) :=
  h.of (K := 2) (State.setf_keeps rfl (Keeps.refl _ s)) ((KeepsRegs.refl h.inv).setf ha) ⟨rfl, rfl⟩
theorem WritesOnly.ite {c : Prop} [Decidable c] (h : c → WritesOnly P A s0 s) (h' : ¬c → WritesOnly P A s0 t) : WritesOnly P A s0 (if c then s else t) := by
  split
  · exact h ‹_›
  · exact h' ‹_›
theorem WritesOnly.freeFloor (h : WritesOnly P A s0 s) {n d : Int} : WritesOnly P A s0 (s.freeFloor n d).2 :=
  h.keep (K := 128) (State.freeFloor_keeps rfl (Keeps.refl _ s)) ⟨rfl, rfl, rfl⟩
theorem WritesOnly.reach (h : WritesOnly P A s0 s) {d : Nat} : WritesOnly P A s0 (s.reach d) :=
  h.keep (K := 1) (State.reach_keeps rfl (Keeps.refl _ s)) ⟨rfl, rfl, rfl⟩

/-- 0 and 1 are values of every type of signal. -/
theorem val_putNat_bit (h : s.Inv) {a v : Nat} (hw : s.writable a = true) (hv : v < 2) : (s.putNat a v).val a = v := by
  have hbit : ∀ d : DWord, typedValue d (W v) = W v := fun d => by
    unfold typedValue
    obtain rfl | rfl : v = 0 ∨ v = 1 := by omega
    · split
      · rfl
      · split <;> rfl
    · split
      · rfl
      · split <;> rfl
  unfold State.val State.putNat
  rw [sig_putVal_same h hw]
  dsimp only
  rw [hbit]
  unfold W
  rw [BitVec.toNat_ofNat]
  omega

/-! ## The inlet's operations -/

theorem WritesOnly.refreshLimit (h : WritesOnly P A s0 s) (ha : csig 0x108 ∈ A) : WritesOnly P A s0 s.refreshLimit := h.freeFloor.putInt ha
theorem WritesOnly.putPp (h : WritesOnly P A s0 s) {ohm : Nat} (h3 : csig 0x103 ∈ A) (h4 : csig 0x104 ∈ A) (h8 : csig 0x108 ∈ A) : WritesOnly P A s0 (s.putPp ohm) :=
  ((h.putNat h3).putInt h4).refreshLimit h8
theorem WritesOnly.putGrid (h : WritesOnly P A s0 s) {v1 v2 v3 f : Nat} (ha : ∀ i ∈ [0x110, 0x111, 0x112, 0x113, 0x114], csig i ∈ A) : WritesOnly P A s0 (s.putGrid v1 v2 v3 f) :=
  ((((h.putInt (ha _ (by decide))).putInt (ha _ (by decide))).putInt (ha _ (by decide))).putInt (ha _ (by decide))).putNat (ha _ (by decide))

theorem WritesOnly.modInlet (h : WritesOnly P A s0 s) {f : InletSt → InletSt} : WritesOnly P A s0 (s.modInlet f) :=
  h.keep (K := 67108864) (State.modInlet_keeps rfl (Keeps.refl _ s)) ⟨rfl, rfl, rfl⟩
theorem WritesOnly.setInlet (h : WritesOnly P A s0 s) {n : Nat} (ha : csig 0x107 ∈ A) : WritesOnly P A s0 (s.setInlet n) :=
  WritesOnly.ite (fun _ => (h.putNat ha).modInlet) (fun _ => h.putNat ha)
theorem WritesOnly.s2Open (h : WritesOnly P A s0 s) (hc : ¬P Reg.INL_CTRL) (hs : ¬P Reg.INL_STAT) : WritesOnly P A s0 s.s2Open :=
  ((WritesOnly.ite (fun _ => h.modInlet) (fun _ => h)).setf hc).setf hs

section
variable (hP : ∀ a, driveBlock a → ¬P a)
include hP

theorem WritesOnly.pfcOff (h : WritesOnly P A s0 s) : WritesOnly P A s0 s.pfcOff :=
  h.of (K := 25090) (State.pfcOff_keeps rfl (Keeps.refl _ s)) (((KeepsRegs.refl h.inv).lawsOff hP (by decide)).stopGens hP (by decide)) ⟨rfl, rfl⟩
theorem WritesOnly.pfcOn (h : WritesOnly P A s0 s) : WritesOnly P A s0 s.pfcOn :=
  h.of (K := 28674) (State.pfcOn_keeps rfl (Keeps.refl _ s)) (((KeepsRegs.refl h.inv).lawsOn hP (by decide)).groupStart hP (by decide)) ⟨rfl, rfl⟩
theorem WritesOnly.isoOff (h : WritesOnly P A s0 s) : WritesOnly P A s0 s.isoOff :=
  h.of (K := 25090) (State.isoOff_keeps rfl (Keeps.refl _ s)) (((KeepsRegs.refl h.inv).lawsOff hP (by decide)).stopGens hP (by decide)) ⟨rfl, rfl⟩

end

theorem inlet_setInlet {n : Nat} (hn : n ≠ inNocable) : (s.setInlet n).inlet = s.inlet := by
  unfold State.setInlet
  dsimp only
  rw [if_neg hn]
  exact (State.putNat_keeps (K := 532996) rfl (Keeps.refl _ s)).inlet rfl
theorem dtb_setInlet (n : Nat) : (s.setInlet n).dtb = s.dtb := (State.setInlet_keeps (K := 67641860) rfl (Keeps.refl _ s)).dtb rfl
theorem rd_setInlet (n a : Nat) : (s.setInlet n).rd a = s.rd a := rd_congr ((State.setInlet_keeps (K := 67641860) rfl (Keeps.refl _ s)).regs rfl) a
theorem inletState_setInlet (h : s.Inv) {n : Nat} (hp : s.Publishes (csig 0x107)) (hn : n < 2 ^ 32) : (s.setInlet n).inletState = n := by
  have hput : (s.putNat (csig 0x107) n).inletState = n := (val_putNat_same h hp).trans (Nat.mod_eq_of_lt hn)
  unfold State.setInlet
  dsimp only
  split
  · exact hput
  · exact hput

/-- S2 is open (R307). -/
theorem s2_s2Open (h : s.Inv) : s.s2Open.fld Reg.INL_STAT Fld.INL_STAT_s2_on = 0 := by
  have hk : KeepsRegs (fun _ => False) s (if s.on Reg.INL_STAT Fld.INL_STAT_s2_on then s.modInlet (fun i => { i with openAt := some s.dtb }) else s) :=
    (WritesOnly.ite (P := fun _ => False) (A := []) (fun _ => (WritesOnly.refl h).modInlet) (fun _ => WritesOnly.refl h)).1
  exact fld_setf_same (setf_inv hk.1) (by decide)
theorem bounces_s2Open : s.s2Open.inlet.bounces = s.inlet.bounces ∧ s.s2Open.dtb = s.dtb := by
  unfold State.s2Open
  dsimp only
  split <;> exact ⟨rfl, rfl⟩

/-- The source is lost: S2 opens, the boost stage stops, and the hand-over begins (R308). -/
def State.sourceGone (s : State) : State := s.s2Open.pfcOff

theorem sourceLoss_eq : s.sourceLoss = (s.sourceGone.setInlet inHandover).modInlet (fun i =>
    { i with handAt := (s.sourceGone.setInlet inHandover).dtb, bounces := ((s.sourceGone.setInlet inHandover).dtb :: i.bounces).take 5 }) := rfl

theorem inlet_modInlet (f : InletSt → InletSt) : (s.modInlet f).inlet = f s.inlet := rfl
theorem inletState_modInlet (f : InletSt → InletSt) : (s.modInlet f).inletState = s.inletState := rfl
theorem dtb_modInlet (f : InletSt → InletSt) : (s.modInlet f).dtb = s.dtb := rfl

theorem sourceLoss_effect (h : s.Inv) (hp : s.Publishes (csig 0x107)) : s.sourceLoss.inletState = inHandover ∧ s.sourceLoss.inlet.handAt = s.dtb ∧
    s.sourceLoss.inlet.bounces = (s.dtb :: s.inlet.bounces).take 5 := by
  have hk : WritesOnly (· = Reg.PWR_STAT) [] s s.sourceGone :=
    ((WritesOnly.refl h).s2Open (by decide) (by decide)).pfcOff (driveBlock_ne pwrStat_outside)
  have hparts := State.pfcOff_keeps (K := 25090) rfl (Keeps.refl _ s.s2Open)
  have hdtb : s.sourceGone.dtb = s.dtb := (hparts.dtb rfl).trans bounces_s2Open.2
  have hbounces : s.sourceGone.inlet.bounces = s.inlet.bounces := (congrArg (·.bounces) (hparts.inlet rfl)).trans bounces_s2Open.1
  rw [sourceLoss_eq, inletState_modInlet, inlet_modInlet, dtb_setInlet, inlet_setInlet (by decide), hdtb, hbounces]
  exact ⟨inletState_setInlet hk.inv (hk.publishes rfl hp) (by decide), rfl, rfl⟩

/-- The reading of PP has one meaning while the proximity signal and its standard stay. -/
theorem cable_of (hsig : t.sig (csig 0x103) = s.sig (csig 0x103)) (hr : t.rd Reg.INL_CTRL = s.rd Reg.INL_CTRL) : t.cable = s.cable := by
  have hstd : t.ppStd = s.ppStd := fld_of_rd hr _
  unfold State.cable State.unset State.val
  rw [hsig, hstd]

/-- The signals that the end of a hand-over writes. -/
def handoverSigs : List Nat := [csig 0x107, csig 0x109, csig 0x10A]
theorem WritesOnly.handoverEnd (h : WritesOnly P A s0 s) (ha : ∀ a ∈ handoverSigs, a ∈ A) : WritesOnly P A s0 s.handoverEnd :=
  WritesOnly.ite (fun _ => (((h.setInlet (ha _ (by decide))).modInlet).putNat (ha _ (by decide))).putNat (ha _ (by decide))) (fun _ => h.setInlet (ha _ (by decide)))

/-- The inlet locks out: the time counts from now, and the lock-out is recorded (R309). -/
def State.lockedOut (s : State) : State :=
  let u := (s.setInlet inLockout).modInlet (fun i => { i with lockAt := s.dtb })
  (u.putNat (csig 0x109) (u.val (csig 0x109) + 1)).putNat (csig 0x10A) (u.dtb / Config.msCycles)

theorem handoverEnd_eq : s.handoverEnd = if 5 ≤ (s.inlet.bounces.filter (fun x => s.dtb ≤ x + 60000 * Config.msCycles)).length then s.lockedOut
    else s.setInlet (if s.cable then inDetect else inNocable) := rfl

theorem lockedOut_effect (h : s.Inv) (hp : s.Publishes (csig 0x107)) : s.lockedOut.inletState = inLockout ∧ s.lockedOut.inlet.lockAt = s.dtb := by
  have hu : ((s.setInlet inLockout).modInlet (fun i => { i with lockAt := s.dtb })).Inv :=
    ((WritesOnly.refl (P := fun _ => False) (A := [csig 0x107]) h).setInlet (by decide)).modInlet.inv
  have hst : ((s.setInlet inLockout).modInlet (fun i => { i with lockAt := s.dtb })).inletState = inLockout := inletState_setInlet h hp (by decide)
  have hat : ((s.setInlet inLockout).modInlet (fun i => { i with lockAt := s.dtb })).inlet.lockAt = s.dtb := rfl
  unfold State.lockedOut
  dsimp only
  generalize (s.setInlet inLockout).modInlet _ = u at hu hst hat ⊢
  refine ⟨(val_putNat_other (putNat_inv hu) (by decide)).trans ((val_putNat_other hu (by decide)).trans hst), ?_⟩
  exact (congrArg (·.lockAt) ((State.putNat_keeps (K := 532996) rfl (State.putNat_keeps rfl (Keeps.refl _ u))).inlet rfl)).trans hat

/-- Too many hand-overs in a minute lock the inlet out; another one looks at the cable again (R309). -/
theorem handoverEnd_effect (h : s.Inv) (hp : s.Publishes (csig 0x107)) :
    if 5 ≤ (s.inlet.bounces.filter (fun x => s.dtb ≤ x + 60000 * Config.msCycles)).length then s.handoverEnd.inletState = inLockout ∧ s.handoverEnd.inlet.lockAt = s.dtb
    else s.handoverEnd.inletState = if s.cable then inDetect else inNocable := by
  rw [handoverEnd_eq]
  split
  · exact lockedOut_effect h hp
  · exact inletState_setInlet h hp (by split <;> decide)

/-- The HV machine in its fault, before the isolation stage stops (R311). -/
def State.chFaulted (s : State) : State := ((s.chZero 0).setCh 0 chFaultSt).modCh 0 (fun c => { c with cycled := 0 })

theorem chFaulted_writes (h : s.Inv) : WritesOnly (· = Reg.PWR_STAT) [csig 0x200] s s.chFaulted := by
  have hi := chZero_inv (m := 0) h
  have hzero : WritesOnly (· = Reg.PWR_STAT) [csig 0x200] s (s.chZero 0) := (WritesOnly.refl h).keep (K := 134217728) (State.chZero_keeps rfl (Keeps.refl _ s)) ⟨rfl, rfl, rfl⟩
  have hset : WritesOnly (· = Reg.PWR_STAT) [csig 0x200] (s.chZero 0) ((s.chZero 0).setCh 0 chFaultSt) :=
    ⟨⟨setCh_inv hi, fun a ha => by rw [ha]; exact rd_pwrStat_setCh hi⟩, descs_setCh, fun a ha => val_setCh_other hi (fun e => ha (by rw [e]; decide))⟩
  exact (hzero.trans hset).keep (K := 134217728) (State.modCh_keeps rfl (Keeps.refl _ _)) ⟨rfl, rfl, rfl⟩

theorem chToFault_zero_eq (c : Nat) : s.chToFault 0 c = s.chFaulted.isoOff.putNat (csig 0x201) c := rfl

/-- A fault of the HV machine writes its state and its cause. -/
theorem WritesOnly.chToFault (h : WritesOnly (· = Reg.PWR_STAT) A s0 s) {c : Nat} (h0 : csig 0x200 ∈ A) (h1 : csig 0x201 ∈ A) : WritesOnly (· = Reg.PWR_STAT) A s0 (s.chToFault 0 c) := by
  have hf := h.trans ((chFaulted_writes h.inv).mono (fun _ => id) (by intro a ha; rw [List.mem_singleton.mp ha]; exact h0))
  rw [chToFault_zero_eq]
  exact (hf.isoOff (driveBlock_ne pwrStat_outside)).putNat h1

theorem chCause_chToFault (h : s.Inv) {c : Nat} (hp : s.Publishes (csig 0x201)) (hc : c < 2 ^ 32) : (s.chToFault 0 c).val (csig 0x201) = c := by
  have hoff := (chFaulted_writes h).isoOff (driveBlock_ne pwrStat_outside)
  rw [chToFault_zero_eq]
  exact (val_putNat_same hoff.inv (hoff.publishes rfl hp)).trans (Nat.mod_eq_of_lt hc)

/-- The signals that a reading of PP writes. -/
def ppSigs : List Nat := [csig 0x103, csig 0x104, csig 0x108]

theorem val_putPp (h : s.Inv) (ohm : Nat) (hp : s.Publishes (csig 0x103)) : (s.putPp ohm).val (csig 0x103) = ohm % 2 ^ 32 := by
  have hk : WritesOnly (· = Reg.PWR_STAT) [csig 0x104, csig 0x108] (s.putNat (csig 0x103) ohm) (s.putPp ohm) :=
    ((WritesOnly.refl (putNat_inv h)).putInt (by decide)).refreshLimit (by decide)
  exact (hk.val (by decide)).trans (val_putNat_same h hp)

/-- The source is classified once (R304). -/
def State.sourceClassed (s : State) : State :=
  if s.inlet.classed then s else (s.putNat (csig 0x105) s.sourceClass).modInlet (fun i => { i with classed := true })

theorem sourceClassed_writes (h : s.Inv) : WritesOnly (· = Reg.PWR_STAT) [csig 0x105, csig 0x108] s s.sourceClassed :=
  WritesOnly.ite (fun _ => WritesOnly.refl h) (fun _ => ((WritesOnly.refl h).putNat (by decide)).modInlet)

/-- What a decoding of the pilot makes of the line: its state, its duty and the allowance (R300, R301). -/
def State.pilotDecoded (s : State) (pos neg : Int) : State :=
  let per := s.fld Reg.INL_CPPER Fld.INL_CPPER_cnt
  let u := s.allowance.2
  let d := if u.osc && per ≠ 0 then u.freeFloor (32768 * u.fld Reg.INL_CPHIGH Fld.INL_CPHIGH_cnt) per else (0, u)
  (((d.2.putNat (csig 0x100) (if s.allowance.1.2 then pilotInvalid else pilotOf d.2.osc pos neg)).putInt (csig 0x101) (sat 0 32767 d.1)).putInt (csig 0x102) s.allowance.1.1).refreshLimit

theorem posBand_lt (pos : Int) : posBand pos < 2 ^ 32 := by
  unfold posBand
  split_ifs <;> decide
theorem pilotOf_lt (osc : Bool) (pos neg : Int) : pilotOf osc pos neg < 2 ^ 32 := by
  unfold pilotOf
  dsimp only
  split
  · split_ifs <;> decide
  · split
    · decide
    · exact posBand_lt pos

theorem allowance_keeps : Keeps 128 s s.allowance.2 := State.allowance_keeps rfl (Keeps.refl _ s)

theorem val_pilotDecoded (h : s.Inv) {pos neg : Int} (hp : s.Publishes (csig 0x100)) :
    (s.pilotDecoded pos neg).val (csig 0x100) = if s.allowance.1.2 then pilotInvalid else pilotOf s.osc pos neg := by
  unfold State.pilotDecoded
  dsimp only
  have hd : Keeps 128 s (if s.allowance.2.osc && decide (s.fld Reg.INL_CPPER Fld.INL_CPPER_cnt ≠ 0) then
      s.allowance.2.freeFloor (32768 * s.allowance.2.fld Reg.INL_CPHIGH Fld.INL_CPHIGH_cnt) (s.fld Reg.INL_CPPER Fld.INL_CPPER_cnt) else (0, s.allowance.2)).2 := by
    split
    · exact State.freeFloor_keeps rfl allowance_keeps
    · exact allowance_keeps
  generalize (if s.allowance.2.osc && decide (s.fld Reg.INL_CPPER Fld.INL_CPPER_cnt ≠ 0) then
      s.allowance.2.freeFloor (32768 * s.allowance.2.fld Reg.INL_CPHIGH Fld.INL_CPHIGH_cnt) (s.fld Reg.INL_CPPER Fld.INL_CPPER_cnt) else (0, s.allowance.2)) = d at hd ⊢
  have hk : WritesOnly (· = Reg.PWR_STAT) [] s d.2 := (WritesOnly.refl h).keep hd ⟨rfl, rfl, rfl⟩
  have hosc : d.2.osc = s.osc := by
    unfold State.osc State.on
    rw [fld_of_rd (rd_congr (hd.regs rfl) _)]
  rw [hosc]
  have hlt : (if s.allowance.1.2 then pilotInvalid else pilotOf s.osc pos neg) < 2 ^ 32 := by
    split
    · decide
    · exact pilotOf_lt _ _ _
  generalize (if s.allowance.1.2 then pilotInvalid else pilotOf s.osc pos neg) = n at hlt ⊢
  have hrest : WritesOnly (· = Reg.PWR_STAT) [csig 0x101, csig 0x102, csig 0x108] (d.2.putNat (csig 0x100) n)
      ((((d.2.putNat (csig 0x100) n).putInt (csig 0x101) (sat 0 32767 d.1)).putInt (csig 0x102) s.allowance.1.1).refreshLimit) :=
    (((WritesOnly.refl (putNat_inv hk.inv)).putInt (by decide)).putInt (by decide)).refreshLimit (by decide)
  rw [hrest.val (by decide), val_putNat_same hk.inv (hk.publishes rfl hp), Nat.mod_eq_of_lt hlt]

theorem sourceClassed_new (hnot : s.inlet.classed = false) : s.sourceClassed = (s.putNat (csig 0x105) s.sourceClass).modInlet (fun i => { i with classed := true }) := by
  unfold State.sourceClassed
  rw [hnot, if_neg Bool.false_ne_true]
theorem sourceClass_lt (s : State) : s.sourceClass < 2 ^ 32 := by
  unfold State.sourceClass
  split_ifs <;> decide
theorem phaseConfig_lt (g : Grid) : phaseConfig g < 2 ^ 32 := by
  unfold phaseConfig
  dsimp only
  split_ifs <;> decide

/-- What a removal of the cable makes of the inlet (R307). -/
def State.cableGone (s : State) : State :=
  if s.inletState = inRun then s.sourceLoss
  else if s.inletState = inDetect || s.inletState = inReady || s.inletState = inEnergize || s.inletState = inSrcFault then s.s2Open.setInlet inNocable
  else s

theorem sourceLoss_writes (h : s.Inv) : WritesOnly (· = Reg.PWR_STAT) [csig 0x107] s s.sourceLoss := by
  have hgone : WritesOnly (· = Reg.PWR_STAT) [csig 0x107] s s.sourceGone := ((WritesOnly.refl h).s2Open (by decide) (by decide)).pfcOff (driveBlock_ne pwrStat_outside)
  rw [sourceLoss_eq]
  exact (hgone.setInlet (by decide)).modInlet
theorem cableGone_writes (h : s.Inv) : WritesOnly (· = Reg.PWR_STAT) [csig 0x107] s s.cableGone :=
  WritesOnly.ite (fun _ => sourceLoss_writes h)
    (fun _ => WritesOnly.ite (fun _ => ((WritesOnly.refl h).s2Open (by decide) (by decide)).setInlet (by decide)) (fun _ => WritesOnly.refl h))
theorem cableGone_run (hst : s.inletState = inRun) : s.cableGone = s.sourceLoss := if_pos hst
theorem cableGone_waiting (hst : s.inletState = inDetect ∨ s.inletState = inReady ∨ s.inletState = inEnergize ∨ s.inletState = inSrcFault) :
    s.cableGone = s.s2Open.setInlet inNocable := by
  unfold State.cableGone
  rw [if_neg (by rcases hst with e | e | e | e <;> rw [e] <;> decide), if_pos (by simpa [or_assoc] using hst)]
theorem cableGone_else (hst : ¬(s.inletState = inRun ∨ s.inletState = inDetect ∨ s.inletState = inReady ∨ s.inletState = inEnergize ∨ s.inletState = inSrcFault)) : s.cableGone = s := by
  unfold State.cableGone
  rw [if_neg (fun e => hst (.inl e)), if_neg (fun e => hst (.inr (by simpa [or_assoc] using e)))]

/-- What the phases make of the inlet: the boost stage starts, or the HV machine faults (R303). -/
def State.phasesTaken (s : State) (k v1 v2 v3 f : Nat) : State :=
  let u := (s.putNat (csig 0x106) k).putGrid v1 v2 v3 f
  if !u.pfcConfigOk then u.chToFault 0 1 else u.refreshLimit.pfcOn.setInlet inRun

/-- The signals that a reading of the grid writes. -/
def gridSigs : List Nat := [csig 0x110, csig 0x111, csig 0x112, csig 0x113, csig 0x114]

theorem pfcConfigOk_of (hr : t.regs = s.regs) : t.pfcConfigOk = s.pfcConfigOk := by
  have hf : ∀ a f, t.fld a f = s.fld a f := fun a f => fld_of_rd (rd_congr hr a) f
  unfold State.pfcConfigOk State.genIs State.genLd State.gmode State.presc State.genPer
  simp only [hf, rd_congr hr]

theorem phasesTaken_effect (h : s.Inv) {k v1 v2 v3 f : Nat} (hp106 : s.Publishes (csig 0x106)) (hp107 : s.Publishes (csig 0x107)) (hp200 : s.Publishes (csig 0x200))
    (hst : s.inletState = inEnergize) (hk : k < 2 ^ 32) : (s.phasesTaken k v1 v2 v3 f).val (csig 0x106) = k ∧
      if s.pfcConfigOk then (s.phasesTaken k v1 v2 v3 f).inletState = inRun
      else (s.phasesTaken k v1 v2 v3 f).inletState = inEnergize ∧ (s.phasesTaken k v1 v2 v3 f).chState 0 = chFaultSt := by
  have hgrid : WritesOnly (· = Reg.PWR_STAT) gridSigs (s.putNat (csig 0x106) k) ((s.putNat (csig 0x106) k).putGrid v1 v2 v3 f) :=
    (WritesOnly.refl (putNat_inv h)).putGrid (by decide)
  have hu : WritesOnly (· = Reg.PWR_STAT) (csig 0x106 :: gridSigs) s ((s.putNat (csig 0x106) k).putGrid v1 v2 v3 f) :=
    ((WritesOnly.refl h).putNat (by decide)).putGrid (by decide)
  have h106 : ((s.putNat (csig 0x106) k).putGrid v1 v2 v3 f).val (csig 0x106) = k := by
    rw [hgrid.val (by decide), val_putNat_same h hp106, Nat.mod_eq_of_lt hk]
  have hcfg : ((s.putNat (csig 0x106) k).putGrid v1 v2 v3 f).pfcConfigOk = s.pfcConfigOk :=
    pfcConfigOk_of ((State.putGrid_keeps (K := 532996) rfl (State.putNat_keeps rfl (Keeps.refl _ s))).regs rfl)
  have hst' : ((s.putNat (csig 0x106) k).putGrid v1 v2 v3 f).inletState = inEnergize := (hu.val (by decide)).trans hst
  unfold State.phasesTaken
  dsimp only
  rw [hcfg]
  generalize (s.putNat (csig 0x106) k).putGrid v1 v2 v3 f = u at hu h106 hst' ⊢
  cases s.pfcConfigOk with
  | true =>
    have hon := (WritesOnly.refl (P := (· = Reg.PWR_STAT)) (A := [csig 0x108, csig 0x107]) hu.inv).refreshLimit (by decide) |>.pfcOn (driveBlock_ne pwrStat_outside)
    rw [if_neg (by decide), if_pos rfl]
    exact ⟨((hon.setInlet (by decide)).val (by decide)).trans h106, inletState_setInlet hon.inv (hon.publishes rfl (hu.publishes rfl hp107)) (by decide)⟩
  | false =>
    have hf := (WritesOnly.refl (P := (· = Reg.PWR_STAT)) (A := [csig 0x200, csig 0x201]) hu.inv).chToFault (c := 1) (by decide) (by decide)
    rw [if_pos (by decide), if_neg Bool.false_ne_true]
    exact ⟨(hf.val (by decide)).trans h106, (hf.val (by decide)).trans hst', (chToFault_effect (m := 0) hu.inv (by decide) (hu.publishes rfl hp200) 1).1⟩

/-- A loss that the supervision of the grid reports is flagged (R307). -/
def State.acLost (s : State) (ac : Bool) : State := if ac && s.lawOn 4 0 then s.putNat (csig 0x114) 1 else s

/-- The lock-out ends: by a request, at the next 1 ms boundary, or after 300 s (R309). -/
def State.lockoutOver (s : State) : State :=
  if s.val (csig 0x302) = 1 then (s.reach (msCeil (max s.dtb (s.inlet.lockAt + 1)))).putNat (csig 0x302) 0 else s.reach (msEnd s.inlet.lockAt 300000)

theorem sig_lockoutOver (h : s.Inv) : s.lockoutOver.sig (csig 0x103) = s.sig (csig 0x103) := by
  unfold State.lockoutOver
  split
  · exact (sig_putVal_other (reach_inv h) (by decide)).trans rfl
  · rfl

/-- A time that lies `c` cycles back or more is not within them. -/
theorem none_within {o : Option Nat} {c n : Nat} (ho : ∀ x ∈ o, x + c ≤ n) : o.any (fun t => n < t + c) = false := by
  cases o with
  | none => rfl
  | some x => exact decide_eq_false (Nat.not_lt.mpr (ho x rfl))

theorem inlStat_outside : ¬driveBlock Reg.INL_STAT := by unfold driveBlock; decide

/-! ## The statement -/

/-- Settles O32: each step by what it makes of the inlet's state. -/
theorem inletMachine : Obligations.InletMachine := by
  intro s h hc hteam hpub hw302
  have hon := onTeam_of hteam
  have hcharger : ∀ u, onCharger s u = .next u := fun u => by
    unfold onCharger onPlane
    rw [hon, if_pos hc]
  have hp100 := hpub 0x100 (by decide)
  have hp103 := hpub 0x103 (by decide)
  have hp105 := hpub 0x105 (by decide)
  have hp106 := hpub 0x106 (by decide)
  have hp107 := hpub 0x107 (by decide)
  refine ⟨?_, ?_, ?_, ?_, ?_, ?_, ?_, ?_, ?_, ?_, ?_, ?_, ?_, ?_, ?_, ?_, ?_⟩
  · intro per high glitches hd3 hen
    have h1 := setf_inv (a := Reg.INL_CPPER) (f := Fld.INL_CPPER_cnt) (v := per) h
    have h2 := setf_inv (a := Reg.INL_CPHIGH) (f := Fld.INL_CPHIGH_cnt) (v := high) h1
    have h3 := incBy_inv (a := Reg.INL_CNT_GLITCH) (n := glitches) h2
    refine runs_next (t := ((((s.setf Reg.INL_CPPER Fld.INL_CPPER_cnt per).setf Reg.INL_CPHIGH Fld.INL_CPHIGH_cnt high).incBy Reg.INL_CNT_GLITCH glitches).setf
      Reg.INL_STAT Fld.INL_STAT_osc 1).modInlet (fun i => { i with edgeAt := some s.dtb })) ?_ ⟨?_, ?_, ?_, rfl⟩
    · rw [exec_pilotPeriodCapture, execPilotPeriodCapture, onPlane, if_pos hc, hen, hd3]
      rfl
    · refine (fld_setf_other h3 (by decide)).trans ((fld_of_rd (rd_wr_other h2 (by decide)) _).trans ((fld_setf_other h1 (by decide)).trans (fld_setf_same h (by decide))))
    · refine (fld_setf_other h3 (by decide)).trans ((fld_of_rd (rd_wr_other h2 (by decide)) _).trans (fld_setf_same h1 (by decide)))
    · have hosc : (((((s.setf Reg.INL_CPPER Fld.INL_CPPER_cnt per).setf Reg.INL_CPHIGH Fld.INL_CPHIGH_cnt high).incBy Reg.INL_CNT_GLITCH glitches).setf
          Reg.INL_STAT Fld.INL_STAT_osc 1).modInlet (fun i => { i with edgeAt := some s.dtb })).fld Reg.INL_STAT Fld.INL_STAT_osc = 1 := fld_setf_same h3 (by decide)
      exact decide_eq_true (by rw [hosc]; decide)
  · intro pos neg held hd3 hen hheld
    have hpower : WritesOnly (· = Reg.PWR_STAT) [] s s.oscRefresh := by
      refine (WritesOnly.refl h).of (K := 2) (State.oscRefresh_keeps rfl (Keeps.refl _ s)) ?_ ⟨rfl, rfl⟩
      exact KeepsRegs.ite (fun _ => KeepsRegs.refl h) (fun _ => (((KeepsRegs.refl h).setf (by decide)).wr (by decide)).wr (by decide))
    refine runs_next (t := s.oscRefresh.pilotDecoded pos neg) ?_ (val_pilotDecoded hpower.inv (hpower.publishes rfl hp100))
    rw [exec_pilotStateDecode, execPilotStateDecode, hcharger, hen, hd3]
    refine congrArg Host.Outcome.next ((if_neg (by decide)).trans ?_)
    dsimp only
    refine (if_neg ?_).trans rfl
    rw [Bool.not_eq_true', Bool.not_eq_false]
    rw [show 100 * Config.msCycles = 40000000 from rfl, show 2 * Config.msCycles = 800000 from rfl]
    split_ifs at hheld ⊢ <;> exact decide_eq_true hheld
  · intro ohm hd3 hcable
    have hk := (WritesOnly.refl (P := (· = Reg.PWR_STAT)) (A := ppSigs) h).putPp (ohm := ohm) (by decide) (by decide) (by decide)
    have h103 := val_putPp h ohm hp103
    have hst : (s.putPp ohm).inletState = s.inletState := hk.val (by decide)
    refine runs_next (t := if (s.putPp ohm).inletState = inNocable then (s.putPp ohm).setInlet inDetect else s.putPp ohm) ?_ ?_
    · rw [exec_inletCableDetected, execInletCableDetected, hcharger, hcable, hd3]
      rfl
    · rw [hst]
      split
      · refine ⟨?_, inletState_setInlet hk.inv (hk.publishes rfl hp107) (by decide)⟩
        exact ((WritesOnly.refl (P := (· = Reg.PWR_STAT)) (A := [csig 0x107]) hk.inv).setInlet (by decide)).val (by decide) |>.trans h103
      · exact ⟨h103, hst⟩
  · intro ohm hd3 hcable hknown
    have hk := (WritesOnly.refl (P := (· = Reg.PWR_STAT)) (A := ppSigs) h).putPp (ohm := ohm) (by decide) (by decide) (by decide)
    have h103 := val_putPp h ohm hp103
    have hst : (s.putPp ohm).inletState = s.inletState := hk.val (by decide)
    have hdtb : (s.putPp ohm).dtb = s.dtb := (State.putPp_keeps (K := 533124) rfl (Keeps.refl _ s)).dtb rfl
    have hexec : exec (.inletCableRemoved ohm) s = .next (s.putPp ohm).cableGone := by
      rw [exec_inletCableRemoved, execInletCableRemoved, hcharger, hcable, hknown, hd3]
      rfl
    refine runs_next hexec ?_
    have hp := hk.publishes rfl hp107
    generalize s.putPp ohm = u at hk h103 hst hdtb hp ⊢
    refine ⟨(cableGone_writes hk.inv).val (by decide) |>.trans h103, fun hrun => ?_, fun hwas => ?_, fun hlock => ?_⟩
    · obtain ⟨hhand, hat, -⟩ := sourceLoss_effect hk.inv hp
      rw [cableGone_run (hst.trans hrun)]
      exact ⟨hhand, hat.trans hdtb⟩
    · have ho : WritesOnly (· = Reg.PWR_STAT) [] u u.s2Open := (WritesOnly.refl hk.inv).s2Open (by decide) (by decide)
      rw [← hst] at hwas
      rw [cableGone_waiting hwas]
      exact ⟨inletState_setInlet ho.inv (ho.publishes rfl hp) (by decide), (fld_of_rd (rd_setInlet _ _) _).trans (s2_s2Open hk.inv)⟩
    · rw [cableGone_else (by rw [hst, hlock]; decide)]
      exact hst.trans hlock
  · intro ms hst hseen hms
    refine runs_next (t := s.sourceClassed.refreshLimit.setInlet inReady) ?_ ?_
    · rw [exec_inletSourceQualified, execInletSourceQualified, hcharger, hst, hseen, decide_eq_true hms]
      rfl
    · have hk := sourceClassed_writes h
      have hr := hk.refreshLimit (A := [csig 0x105, csig 0x108]) (by decide)
      refine ⟨inletState_setInlet hr.inv (hr.publishes rfl hp107) (by decide), fun hnot => ⟨?_, ?_⟩⟩
      · have hset := (WritesOnly.refl (P := (· = Reg.PWR_STAT)) (A := [csig 0x107, csig 0x108]) hk.inv).refreshLimit (by decide) |>.setInlet (n := inReady) (by decide)
        rw [hset.val (by decide), sourceClassed_new hnot]
        exact (val_putNat_same h hp105).trans (Nat.mod_eq_of_lt (sourceClass_lt s))
      · rw [inlet_setInlet (by decide), (State.refreshLimit_keeps (K := 533124) rfl (Keeps.refl _ _)).inlet rfl, sourceClassed_new hnot]
        rfl
  · intro ms hst hzero hms
    refine runs_next (t := s.setInlet inDetect) ?_ (inletState_setInlet h hp107 (by decide))
    rw [exec_inletReadyLost, execInletReadyLost, hcharger]
    dsimp only
    rw [hst, decide_eq_true hzero, decide_eq_true hms, Bool.or_true]
    rfl
  · intro hst hmode hrole hch
    have hk : WritesOnly (· = Reg.PWR_STAT) [] s ((s.setf Reg.INL_CTRL Fld.INL_CTRL_s2 1).setf Reg.INL_STAT Fld.INL_STAT_s2_on 1) :=
      ((WritesOnly.refl h).setf (by decide)).setf (by decide)
    refine runs_next (t := (((s.setf Reg.INL_CTRL Fld.INL_CTRL_s2 1).setf Reg.INL_STAT Fld.INL_STAT_s2_on 1).setInlet inEnergize).modInlet (fun i => { i with
      enAt := s.dtb })) ?_ ⟨inletState_setInlet hk.inv (hk.publishes rfl hp107) (by decide), ?_, rfl⟩
    · rw [exec_inletEnergize, execInletEnergize, hcharger, hst, hmode, hrole, hch]
      rfl
    · exact (fld_of_rd (rd_setInlet _ _) _).trans (fld_setf_same (setf_inv h) (by decide))
  · intro v1 v2 v3 f a2 a3 ms hst hms hk
    have hlt : phaseConfig { v1 := v1, v2 := v2, v3 := v3, f := f, a2 := a2, a3 := a3 } < 2 ^ 32 := phaseConfig_lt _
    have hexec : exec (.inletPhasesValid v1 v2 v3 f a2 a3 ms) s = .next (s.phasesTaken (phaseConfig { v1 := v1, v2 := v2, v3 := v3, f := f, a2 := a2, a3 := a3 }) v1 v2 v3 f) := by
      rw [exec_inletPhasesValid, execInletPhasesValid, hcharger]
      dsimp only
      rw [hst, decide_eq_true hk, decide_eq_true hms]
      rfl
    exact runs_next hexec (phasesTaken_effect h hp106 hp107 (hpub 0x200 (by decide)) hst hlt)
  · intro invalid hst
    cases invalid with
    | true =>
      have hk : WritesOnly (· = Reg.PWR_STAT) [csig 0x106] s (s.putNat (csig 0x106) 4).s2Open := ((WritesOnly.refl h).putNat (by decide)).s2Open (by decide) (by decide)
      refine runs_next (t := (s.putNat (csig 0x106) 4).s2Open.setInlet inSrcFault) ?_ ⟨inletState_setInlet hk.inv (hk.publishes rfl hp107) (by decide), ?_, ?_⟩
      · rw [exec_inletEnergizeTimeout, execInletEnergizeTimeout, hcharger]
        exact congrArg Host.Outcome.next (if_pos hst)
      · exact (fld_of_rd (rd_setInlet _ _) _).trans (s2_s2Open (putNat_inv h))
      · rw [dtb_setInlet, bounces_s2Open.2]
        exact (State.putNat_keeps (K := 532996) rfl (Keeps.refl _ s)).dtb rfl
    | false =>
      have hk : WritesOnly (· = Reg.PWR_STAT) [] s (s.reach (msEnd s.inlet.enAt 5000)).s2Open := (WritesOnly.refl h).reach.s2Open (by decide) (by decide)
      refine runs_next (t := (s.reach (msEnd s.inlet.enAt 5000)).s2Open.setInlet inSrcFault) ?_ ⟨inletState_setInlet hk.inv (hk.publishes rfl hp107) (by decide), ?_, ?_⟩
      · rw [exec_inletEnergizeTimeout, execInletEnergizeTimeout, hcharger]
        exact congrArg Host.Outcome.next (if_pos hst)
      · exact (fld_of_rd (rd_setInlet _ _) _).trans (s2_s2Open (reach_inv h))
      · rw [dtb_setInlet, bounces_s2Open.2]
        rfl
  · intro ac ms hst hloss
    have hu : WritesOnly (· = Reg.PWR_STAT) [csig 0x114] s (s.acLost ac) := WritesOnly.ite (fun _ => (WritesOnly.refl h).putNat (by decide)) (fun _ => WritesOnly.refl h)
    have hk : Keeps 532996 s (s.acLost ac) := Keeps.ite (State.putNat_keeps rfl (Keeps.refl _ s)) (Keeps.refl _ s)
    obtain ⟨hhand, hat, hbounce⟩ := sourceLoss_effect hu.inv (hu.publishes rfl hp107)
    refine runs_next (t := (s.acLost ac).sourceLoss) ?_ ⟨hhand, hat.trans (hk.dtb rfl), by rw [hbounce, hk.dtb rfl, hk.inlet rfl]⟩
    rw [exec_inletSourceLoss, execInletSourceLoss, hcharger]
    refine congrArg Host.Outcome.next (if_pos ?_)
    have hst' : (s.acLost ac).inletState = inRun := (hu.val (by decide)).trans hst
    change (decide ((s.acLost ac).inletState = inRun) && (decide ((s.acLost ac).val (csig 0x114) = 1) && !(s.acLost ac).inlet.openAt.any (fun t => (s.acLost ac).dtb < t + 3000 * Config.msCycles) ||
      decide ((s.acLost ac).val (csig 0x100) ≠ pilotC) && decide (100 ≤ ms))) = true
    rw [hst', hk.inlet rfl, hk.dtb rfl, hu.val (by decide : csig 0x100 ∉ [csig 0x114])]
    rcases hloss with ⟨hpilot, hms⟩ | ⟨rfl, hlaw, hw, hopen⟩
    · rw [decide_eq_true hpilot, decide_eq_true hms, Bool.and_true, Bool.or_true]
      rfl
    · have hac : (s.acLost true).val (csig 0x114) = 1 := by
        unfold State.acLost
        rw [hlaw, if_pos (by rfl)]
        exact val_putNat_bit h hw (by decide)
      have hclosed : s.inlet.openAt.any (fun t => s.dtb < t + 3000 * Config.msCycles) = false := by
        rw [show 3000 * Config.msCycles = 1200000000 from rfl]
        exact none_within hopen
      rw [hac, hclosed]
      rfl
  · intro us hst hend hin
    have heffect := handoverEnd_effect h hp107
    rw [show 60000 * Config.msCycles = 24000000000 from rfl] at heffect
    refine runs_next (t := s.handoverEnd) ?_ heffect
    rw [exec_handoverEnd, execHandoverEnd, hcharger]
    refine congrArg Host.Outcome.next (if_pos ?_)
    simp only [Bool.and_eq_true, Bool.or_eq_true, decide_eq_true_eq]
    exact ⟨⟨hst, or_assoc.mpr hend⟩, hin⟩
  · intro hst
    have hr := (WritesOnly.refl (P := (· = Reg.PWR_STAT)) (A := [csig 0x200, csig 0x201]) h).reach (d := msEnd s.inlet.handAt 4)
    have hf := hr.chToFault (c := 3) (by decide) (by decide)
    have hend := (WritesOnly.refl (P := (· = Reg.PWR_STAT)) (A := handoverSigs) hf.inv).handoverEnd (fun _ => id)
    obtain ⟨hch, hdtb⟩ := chToFault_effect (s := s.reach (msEnd s.inlet.handAt 4)) (m := 0) hr.inv (by decide) (hr.publishes rfl (hpub 0x200 (by decide))) 3
    refine runs_next (t := ((s.reach (msEnd s.inlet.handAt 4)).chToFault 0 3).handoverEnd) ?_ ⟨?_, ?_, ?_⟩
    · rw [exec_handoverTimeout, execHandoverTimeout, hcharger]
      exact congrArg Host.Outcome.next (if_pos hst)
    · exact ((State.handoverEnd_keeps (K := 67641860) rfl (Keeps.refl _ _)).dtb rfl).trans hdtb
    · exact (hend.val (by decide)).trans hch
    · exact (hend.val (by decide)).trans (chCause_chToFault hr.inv (hr.publishes rfl (hpub 0x201 (by decide))) (by decide))
  · intro hst
    have hk : WritesOnly (fun a => a = Reg.PWR_STAT ∨ a = Reg.INL_CTRL) [csig 0x302] s s.lockoutOver := WritesOnly.ite (fun _ => (WritesOnly.refl h).reach.putNat (by decide)) (fun _ => (WritesOnly.refl h).reach)
    have hcable : s.lockoutOver.cable = s.cable := cable_of (sig_lockoutOver h) (hk.rd (.inr rfl))
    have hlt : (if s.cable then inDetect else inNocable) < 2 ^ 32 := by split <;> decide
    have hset := (WritesOnly.refl (P := (· = Reg.PWR_STAT)) (A := [csig 0x107]) hk.inv).setInlet (n := if s.cable then inDetect else inNocable) (by decide)
    refine runs_next (t := s.lockoutOver.setInlet (if s.cable then inDetect else inNocable)) ?_
      ⟨inletState_setInlet hk.inv (hk.publishes (.inl rfl) hp107) hlt, fun h1 => ⟨?_, ?_⟩, fun h1 => ?_⟩
    · rw [exec_lockoutEnd, execLockoutEnd, hcharger, ← hcable]
      exact congrArg Host.Outcome.next (if_pos hst)
    · rw [hset.val (by decide)]
      unfold State.lockoutOver
      rw [if_pos h1]
      exact val_putNat_bit (reach_inv h) hw302 (by decide)
    · rw [dtb_setInlet]
      unfold State.lockoutOver
      rw [if_pos h1]
      exact (State.putNat_keeps (K := 532996) rfl (Keeps.refl _ _)).dtb rfl
    · rw [dtb_setInlet]
      unfold State.lockoutOver
      rw [if_neg h1]
      rfl
  · intro hmode hst
    have hk : WritesOnly (fun a => a = Reg.PWR_STAT) [] s s.s2Open.pfcOff.isoOff :=
      (((WritesOnly.refl h).s2Open (by decide) (by decide)).pfcOff (driveBlock_ne pwrStat_outside)).isoOff (driveBlock_ne pwrStat_outside)
    have hs : WritesOnly (· = Reg.INL_STAT) [] s.s2Open s.s2Open.pfcOff.isoOff :=
      (((WritesOnly.refl ((WritesOnly.refl (P := (· = Reg.PWR_STAT)) (A := []) h).s2Open (by decide) (by decide)).inv)).pfcOff (driveBlock_ne inlStat_outside)).isoOff (driveBlock_ne inlStat_outside)
    refine runs_next (t := s.s2Open.pfcOff.isoOff.setInlet inReady) ?_ ⟨inletState_setInlet hk.inv (hk.publishes rfl hp107) (by decide), ?_⟩
    · rw [exec_inletModeLeft, execInletModeLeft, hcharger]
      exact congrArg Host.Outcome.next ((if_neg hmode).trans (if_pos hst))
    · exact (fld_of_rd (rd_setInlet _ _) _).trans ((fld_of_rd (hs.rd rfl) _).trans (s2_s2Open h))
  · intro hst hleave
    have ho : WritesOnly (· = Reg.PWR_STAT) [] s s.s2Open := (WritesOnly.refl h).s2Open (by decide) (by decide)
    cases hcable : s.cable with
    | false =>
      refine runs_next (t := s.s2Open.setInlet inNocable) ?_ (inletState_setInlet ho.inv (ho.publishes rfl hp107) (by decide))
      rw [exec_srcFaultRecover, execSrcFaultRecover, hcharger, hst, hcable]
      rfl
    | true =>
      have hpilot : s.val (csig 0x100) = pilotA := hleave.resolve_left (by rw [hcable]; decide)
      refine runs_next (t := s.setInlet inDetect) ?_ (inletState_setInlet h hp107 (by decide))
      rw [exec_srcFaultRecover, execSrcFaultRecover, hcharger, hst, hcable, hpilot]
      rfl
  · intro v0 v i df hst hdf
    have hr : WritesOnly (· = Reg.PWR_STAT) [csig 0x108] (s.putNat (csig 0x105) 3) (s.putNat (csig 0x105) 3).refreshLimit := (WritesOnly.refl (putNat_inv h)).refreshLimit (by decide)
    refine runs_next (t := (s.putNat (csig 0x105) 3).refreshLimit) ?_ ((hr.val (by decide)).trans (val_putNat_same h hp105))
    rw [exec_weakSource, execWeakSource, hcharger]
    refine congrArg Host.Outcome.next (if_pos ?_)
    rw [hst, decide_eq_true hdf, Bool.or_true]
    rfl
  · intro hmode hst
    have ho : WritesOnly (· = Reg.PWR_STAT) [] s s.s2Open := (WritesOnly.refl h).s2Open (by decide) (by decide)
    refine runs_next (t := s.s2Open) ?_ ⟨(ho.val (by decide)).trans hst, s2_s2Open h⟩
    rw [exec_inletModeLeft, execInletModeLeft, hcharger]
    exact congrArg Host.Outcome.next ((if_neg hmode).trans ((if_neg (by rw [hst]; decide)).trans (if_pos hst)))

end Sys2Proof.Machine
end

section
/-! PROOFS. SUPPLY and the solar port (R314-R321). -/

namespace Sys2Proof.Machine

set_option Elab.async false

variable {P : Nat → Prop} {A : List Nat} {s0 s t : State}

/-! ## A generator that no law owns -/

/-- `s` is sound, and no law owns generator `g`. -/
def Unowned (g : Nat) (s : State) : Prop := s.Inv ∧ s.lawOwned g = false

theorem Unowned.of {g : Nat} (h : Unowned g s) (hk : KeepsRegs (· = Reg.PWM_STAT g) s t) : Unowned g t := by
  refine ⟨hk.1, ?_⟩
  unfold State.lawOwned
  rw [hk.on rfl]
  exact h.2

/-- A law that is disabled gives its generators back, and takes none (R147). -/
theorem Unowned.setOwned {g e l : Nat} (h : Unowned g s) : Unowned g (s.setOwned e l false) := by
  refine State.each_induction (P := Unowned g) (fun u k _ hu => ?_) h
  by_cases hk : Reg.PWM_STAT g = Reg.PWM_STAT k
  · refine ⟨setb_inv hu.1, decide_eq_false ?_⟩
    rw [hk, not_not]
    exact fld_setf_same hu.1 (by decide)
  · exact hu.of ((KeepsRegs.refl hu.1).setb (fun e => hk e.symm))

theorem Unowned.lawsOff {g : Nat} (hg : g < 64) {ls : List (Nat × Nat)} (hls : ∀ p ∈ ls, p.1 < 12 ∧ p.2 < 4) (h : Unowned g s) : Unowned g (s.lawsOff ls) := by
  refine State.each_induction (P := Unowned g) (fun u p hp hu => ?_) h
  obtain ⟨he, hl⟩ := hls p hp
  have hL : ∀ a, lawBlock a → ¬(a = Reg.PWM_STAT g) := fun a ha => by unfold lawBlock at ha; unfold Reg.PWM_STAT; omega
  have hoff : Unowned g (if u.lawOn p.1 p.2 then (u.undoEnd p.1 p.2).setOwned p.1 p.2 false else u) := by
    split
    · exact (hu.of ((KeepsRegs.refl hu.1).undoEnd hL he hl)).setOwned
    · exact hu
  rw [lawDisable_eq]
  generalize (if u.lawOn p.1 p.2 then (u.undoEnd p.1 p.2).setOwned p.1 p.2 false else u) = v at hoff ⊢
  dsimp only
  split
  · exact hoff.of ((KeepsRegs.refl hoff.1).lawEnded hL he hl)
  · exact hoff

/-- The stop of a generator writes no status of another one. -/
theorem genStop_other (h : s.Inv) {g k : Nat} (hk : k < 40) (hne : g ≠ k) : KeepsRegs (· = Reg.PWM_STAT k) s (s.genStop g) := by
  have hctrl : ¬Reg.PWM_CTRL g = Reg.PWM_STAT k := by unfold Reg.PWM_CTRL Reg.PWM_STAT; omega
  have hstat : ¬Reg.PWM_STAT g = Reg.PWM_STAT k := by unfold Reg.PWM_STAT; omega
  have hcntr : ¬Reg.PWM_CNTR g = Reg.PWM_STAT k := by unfold Reg.PWM_CNTR Reg.PWM_STAT; omega
  have hres : ∀ d, ¬Reg.RES_STAT d = Reg.PWM_STAT k := fun d => by unfold Reg.RES_STAT Reg.PWM_STAT; omega
  have hoff := (((KeepsRegs.refl (P := (· = Reg.PWM_STAT k)) h).setf (v := 0) (f := Fld.PWM_CTRL_en) hctrl).setf (v := 0) (f := Fld.PWM_STAT_run) hstat).setf (v := 0) (f := Fld.PWM_STAT_wait) hstat
  unfold State.genStop
  refine KeepsRegs.ite (fun _ => KeepsRegs.refl h) (fun _ => KeepsRegs.forN ((((KeepsRegs.ite (fun _ => hoff.setf hstat) (fun _ => hoff)).wr hcntr).bothOff).modPg) (fun _ d _ hu => ?_))
  exact KeepsRegs.ite (fun _ => hu.setf (hres d)) (fun _ => hu)

theorem Unowned.stopGens {g : Nat} (hg : g < 40) {gs : List Nat} (hgs : ∀ k ∈ gs, k ≠ g) (h : Unowned g s) : Unowned g (s.stopGens gs) := by
  refine State.each_induction (P := Unowned g) (fun u k hk hu => ?_) h
  split
  · exact hu.of (genStop_other hu.1 hg (hgs k hk))
  · exact hu

/-- The boost and the isolation stage give generator 33 back. -/
theorem Unowned.stagesOff (h : Unowned 33 s) : Unowned 33 s.pfcOff.isoOff :=
  (((h.lawsOff (by decide) (by decide)).stopGens (by decide) (by decide)).lawsOff (by decide) (by decide)).stopGens (by decide) (by decide)

/-! ## The supply -/

theorem WritesOnly.modSupply (h : WritesOnly P A s0 s) {f : SupplySt → SupplySt} : WritesOnly P A s0 (s.modSupply f) :=
  h.keep (K := 268435456) (State.modSupply_keeps rfl (Keeps.refl _ s)) ⟨rfl, rfl, rfl⟩

theorem supplyOff_effect (h : s.Inv) {n : Nat} (hp : s.Publishes (csig 0x402)) (hn : n < 2 ^ 32) :
    WritesOnly (· = Reg.PWR_STAT) [csig 0x402] s (s.supplyOff n) ∧ (s.supplyOff n).supplyState = n ∧ (s.supplyOff n).supply.live = false := by
  have hk : WritesOnly (· = Reg.PWR_STAT) [csig 0x402] s s.pfcOff.isoOff := ((WritesOnly.refl h).pfcOff (driveBlock_ne pwrStat_outside)).isoOff (driveBlock_ne pwrStat_outside)
  exact ⟨(hk.putNat (by decide)).modSupply, (val_putNat_same hk.inv (hk.publishes rfl hp)).trans (Nat.mod_eq_of_lt hn), rfl⟩

theorem Unowned.supplyOff (h : Unowned 33 s) (n : Nat) : Unowned 33 (s.supplyOff n) := by
  have hoff := h.stagesOff
  exact hoff.of ((KeepsRegs.refl hoff.1).putNat.of_regs (State.modSupply_keeps (K := 268435456) rfl (Keeps.refl _ _)) rfl)

theorem isoOn_writes (h : s.Inv) : WritesOnly (· = Reg.PWR_STAT) A s s.isoOn := (WritesOnly.refl h).of isoOn_parts (isoOn_power h) ⟨rfl, rfl⟩

/-- The supply goes on where both stages are configured, and the HV machine faults otherwise (R315). -/
theorem supplyOn_effect (h : s.Inv) (hp : s.Publishes (csig 0x402)) (hp200 : s.Publishes (csig 0x200)) :
    if s.pfcConfigOk && s.isoConfigOk then s.supplyOn.supplyState = supRun ∧ s.supplyOn.supply.live = true
    else s.supplyOn.supplyState = s.supplyState ∧ s.supplyOn.chState 0 = chFaultSt := by
  have hiso := isoOn_writes (A := []) h
  have hon := hiso.pfcOn (driveBlock_ne pwrStat_outside)
  have hf := (WritesOnly.refl (P := (· = Reg.PWR_STAT)) (A := [csig 0x200, csig 0x201]) h).chToFault (c := 1) (by decide) (by decide)
  unfold State.supplyOn
  cases hcfg : (s.pfcConfigOk && s.isoConfigOk) with
  | true =>
    rw [Bool.and_eq_true] at hcfg
    rw [if_pos rfl, hcfg.1, hcfg.2, if_neg (by decide)]
    exact ⟨(val_putNat_same hon.inv (hon.publishes rfl hp)).trans rfl, rfl⟩
  | false =>
    rw [if_neg Bool.false_ne_true, if_pos (by rw [← Bool.not_and, hcfg]; rfl)]
    exact ⟨hf.val (by decide), (chToFault_effect (m := 0) h (by decide) hp200 1).1⟩

theorem isoConfigOk_of (hr : t.regs = s.regs) : t.isoConfigOk = s.isoConfigOk := by
  have hf : ∀ a f, t.fld a f = s.fld a f := fun a f => fld_of_rd (rd_congr hr a) f
  unfold State.isoConfigOk State.genIs State.genSynced State.gmode State.presc State.genPer State.genPhs State.on
  simp only [hf, rd_congr hr]

/-! ## The station's pilot -/

/-- A compare word of generator 33 that no law owns. -/
theorem cmpWrite_unowned (h : Unowned 33 s) (v : Word) : s.cmpWrite 33 0 v = s.setShadow 33 0 (v &&& 0x3FFFFF) := by
  unfold State.cmpWrite
  rw [h.2, if_neg Bool.false_ne_true]
theorem rd_setShadow_cmpA (h : s.Inv) (g : Nat) (v : Word) : (s.setShadow g 0 v).rd (Reg.PWM_CMPA g) = v := rd_wr_same (modPg_inv h)

/-- What a write of the pilot's compare word leaves. -/
theorem cmpWrite_writes (h : s.Inv) (v : Word) : WritesOnly (fun a => ¬(a = Reg.PWM_CMPA 33 ∨ a = Reg.PWM_CNT_WREF 33)) A s (s.cmpWrite 33 0 v) := by
  refine (WritesOnly.refl h).of (K := 16386) (State.cmpWrite_keeps rfl (Keeps.refl _ s)) ?_ ⟨rfl, rfl⟩
  exact KeepsRegs.ite (fun _ => (KeepsRegs.refl h).inc (fun e => e (.inr rfl))) (fun _ => (KeepsRegs.refl h).modPg.wr (fun e => e (.inl rfl)))

theorem advertise_writes (h : s.Inv) : WritesOnly (fun a => ¬(a = Reg.PWM_CMPA 33 ∨ a = Reg.PWM_CNT_WREF 33)) A s s.advertise := by
  have hdraw : WritesOnly (fun a => ¬(a = Reg.PWM_CMPA 33 ∨ a = Reg.PWM_CNT_WREF 33)) A s s.advWord.2 :=
    (WritesOnly.refl h).keep (K := 128) (State.advWord_keeps rfl (Keeps.refl _ s)) ⟨rfl, rfl, rfl⟩
  exact (hdraw.trans (cmpWrite_writes hdraw.inv s.advWord.1)).modSupply (f := fun x => { x with adv := true })

/-- The stages' configuration is read from other generators than the pilot's. -/
theorem stagesConfig_of (hr : ∀ a, ¬(a = Reg.PWM_CMPA 33 ∨ a = Reg.PWM_CNT_WREF 33) → t.rd a = s.rd a) :
    t.pfcConfigOk = s.pfcConfigOk ∧ t.isoConfigOk = s.isoConfigOk := by
  have hctrl : ∀ g f, g < 33 → t.fld (Reg.PWM_CTRL g) f = s.fld (Reg.PWM_CTRL g) f :=
    fun g f hg => fld_of_rd (hr _ (by unfold Reg.PWM_CTRL Reg.PWM_CMPA Reg.PWM_CNT_WREF; omega)) f
  have hsync : ∀ g f, g < 33 → t.fld (Reg.PWM_SYNC g) f = s.fld (Reg.PWM_SYNC g) f :=
    fun g f hg => fld_of_rd (hr _ (by unfold Reg.PWM_SYNC Reg.PWM_CMPA Reg.PWM_CNT_WREF; omega)) f
  have hphs : ∀ g f, g < 33 → t.fld (Reg.PWM_PHS g) f = s.fld (Reg.PWM_PHS g) f :=
    fun g f hg => fld_of_rd (hr _ (by unfold Reg.PWM_PHS Reg.PWM_CMPA Reg.PWM_CNT_WREF; omega)) f
  have hper : ∀ g, g < 33 → t.rd (Reg.PWM_PER g) = s.rd (Reg.PWM_PER g) := fun g hg => hr _ (by unfold Reg.PWM_PER Reg.PWM_CMPA Reg.PWM_CNT_WREF; omega)
  have hcmp : ∀ g, g < 33 → t.rd (Reg.PWM_CMPA g) = s.rd (Reg.PWM_CMPA g) := fun g hg => hr _ (by unfold Reg.PWM_CMPA Reg.PWM_CNT_WREF; omega)
  constructor
  · unfold State.pfcConfigOk State.genIs State.genLd State.gmode State.presc State.genPer pfcGens
    simp (disch := decide) only [List.all_cons, List.all_nil, hctrl, hper]
  · unfold State.isoConfigOk State.genIs State.genSynced State.gmode State.presc State.genPer State.genPhs State.on isoGens
    simp (disch := decide) only [List.all_cons, List.all_nil, hctrl, hper, hsync, hphs, hcmp]

/-- The output is taken away. -/
def State.outputOff (s : State) : State := if s.supply.live then s.supplyOff supOff else s

theorem outputOff_effect (h : Unowned 33 s) (hp : s.Publishes (csig 0x402)) : WritesOnly (· = Reg.PWR_STAT) [csig 0x402] s s.outputOff ∧ Unowned 33 s.outputOff ∧
    (s.supply.live = true → s.outputOff.supplyState = supOff) := by
  obtain ⟨hw, hst, -⟩ := supplyOff_effect (n := supOff) h.1 hp (by decide)
  unfold State.outputOff
  split
  · exact ⟨hw, h.supplyOff _, fun _ => hst⟩
  · next hdead => exact ⟨WritesOnly.refl h.1, h, fun hl => absurd hl hdead⟩

/-- The pilot stands at a fixed level. -/
def State.pilotFixed (s : State) (w : Word) : State := (s.cmpWrite 33 0 w).modSupply (fun x => { x with adv := false })

theorem pilotFixed_effect (h : Unowned 33 s) (w : Word) : (s.pilotFixed w).rd (Reg.PWM_CMPA 33) = w &&& 0x3FFFFF ∧ WritesOnly (· = Reg.PWR_STAT) A s (s.pilotFixed w) := by
  refine ⟨?_, ((cmpWrite_writes h.1 w).modSupply).mono (fun a ha => by subst ha; decide) (fun _ => id)⟩
  have hr : (s.pilotFixed w).rd (Reg.PWM_CMPA 33) = (s.cmpWrite 33 0 w).rd (Reg.PWM_CMPA 33) := rfl
  rw [hr, cmpWrite_unowned h, rd_setShadow_cmpA h.1]

/-- What the station makes of the pilot state `p` of its vehicle (R317). -/
def State.stationReacts (s : State) (p ms : Nat) : State :=
  if p = pilotA then s.outputOff.pilotFixed 0x3FFFFF
  else if p = pilotC || (p = pilotD && s.val (csig 0x404) = 1) then
    if 100 ≤ ms && !s.advertise.supply.live && s.advertise.val (csig 0x213) = 1 then s.advertise.supplyOn else s.advertise
  else if p = pilotB || p = pilotD then s.outputOff.advertise
  else (s.supplyOff supFault).pilotFixed 0

theorem advertise_power (h : s.Inv) : WritesOnly (· = Reg.PWR_STAT) A s s.advertise :=
  (advertise_writes h).mono (fun a ha => by subst ha; decide) (fun _ => id)
theorem live_advertise : s.advertise.supply.live = s.supply.live := by
  have hk : Keeps 16514 s (s.advWord.2.cmpWrite 33 0 s.advWord.1) := State.cmpWrite_keeps rfl (State.advWord_keeps rfl (Keeps.refl _ s))
  exact congrArg (·.live) (hk.supply rfl)

theorem supplyOn_writes (h : s.Inv) : WritesOnly (· = Reg.PWR_STAT) [csig 0x200, csig 0x201, csig 0x402] s s.supplyOn :=
  WritesOnly.ite (fun _ => (WritesOnly.refl h).chToFault (by decide) (by decide))
    (fun _ => (((isoOn_writes h).pfcOn (driveBlock_ne pwrStat_outside)).putNat (by decide)).modSupply)

/-- The station's reaction leaves the pilot's own signal. -/
theorem stationReacts_writes (h : Unowned 33 s) (hp : s.Publishes (csig 0x402)) {p ms : Nat} :
    WritesOnly (· = Reg.PWR_STAT) [csig 0x200, csig 0x201, csig 0x402] s (s.stationReacts p ms) := by
  have hsub : ∀ a ∈ [csig 0x402], a ∈ [csig 0x200, csig 0x201, csig 0x402] := by decide
  obtain ⟨hoff, hun, -⟩ := outputOff_effect h hp
  have hadv := advertise_power (A := [csig 0x200, csig 0x201, csig 0x402]) h.1
  unfold State.stationReacts
  refine WritesOnly.ite (fun _ => (hoff.mono (fun _ => id) hsub).trans (pilotFixed_effect hun _).2) (fun _ => WritesOnly.ite (fun _ => ?_) (fun _ => WritesOnly.ite (fun _ => ?_) (fun _ => ?_)))
  · exact WritesOnly.ite (fun _ => hadv.trans (supplyOn_writes hadv.inv)) (fun _ => hadv)
  · exact (hoff.mono (fun _ => id) hsub).trans (advertise_power hoff.inv)
  · exact ((supplyOff_effect h.1 hp (by decide)).1.mono (fun _ => id) hsub).trans (pilotFixed_effect (h.supplyOff _) _).2

/-! ## The solar port -/

theorem solState_modSolar (f : SolarSt → SolarSt) : (s.modSolar f).solState = s.solState := rfl
theorem solar_modSolar (f : SolarSt → SolarSt) : (s.modSolar f).solar = f s.solar := rfl
theorem solar_setSol (n : Nat) : (s.setSol n).solar = s.solar := (State.putNat_keeps (K := 532996) rfl (Keeps.refl _ s)).solar rfl
theorem dtb_setSol (n : Nat) : (s.setSol n).dtb = s.dtb := (State.putNat_keeps (K := 532996) rfl (Keeps.refl _ s)).dtb rfl
theorem solState_setSol (h : s.Inv) {n : Nat} (hp : s.Publishes (solsig 0x200)) (hn : n < 2 ^ 32) : (s.setSol n).solState = n :=
  (val_putNat_same h hp).trans (Nat.mod_eq_of_lt hn)
theorem WritesOnly.modSolar (h : WritesOnly P A s0 s) {f : SolarSt → SolarSt} : WritesOnly P A s0 (s.modSolar f) :=
  h.keep (K := 536870912) (State.modSolar_keeps rfl (Keeps.refl _ s)) ⟨rfl, rfl, rfl⟩
theorem solPublish_effect (h : s.Inv) : WritesOnly P [solsig 0x202, solsig 0x203] s s.solPublish ∧ s.solPublish.solState = s.solState ∧
    s.solPublish.solar = s.solar ∧ s.solPublish.dtb = s.dtb := by
  have hw : WritesOnly P [solsig 0x202, solsig 0x203] s s.solPublish := (((WritesOnly.refl h).freeFloor.freeFloor).putInt (by decide)).putInt (by decide)
  have hk := State.solPublish_keeps (K := 533124) rfl (Keeps.refl _ s)
  exact ⟨hw, hw.val (by decide), hk.solar rfl, hk.dtb rfl⟩

theorem boostOff_writes (h : s.Inv) : WritesOnly (· = Reg.PWR_STAT) A s s.boostOff :=
  (WritesOnly.refl h).of (K := 25090) (State.boostOff_keeps rfl (Keeps.refl _ s))
    (((KeepsRegs.refl h).lawsOff (driveBlock_ne pwrStat_outside) (by decide)).stopGens (driveBlock_ne pwrStat_outside) (by decide)) ⟨rfl, rfl⟩
theorem boostOn_writes (h : s.Inv) : WritesOnly (· = Reg.PWR_STAT) A s s.boostOn :=
  (WritesOnly.refl h).of (K := 28674) (State.boostOn_keeps rfl (Keeps.refl _ s))
    (((KeepsRegs.refl h).lawsOn (driveBlock_ne pwrStat_outside) (by decide)).groupStart (driveBlock_ne pwrStat_outside) (by decide)) ⟨rfl, rfl⟩

/-- An open-circuit measurement is taken (R319). -/
def State.ocMeasured (s : State) (n : Nat) : State :=
  (s.reach (msEnd n 20)).modSolar (fun x => { x with stopAt := none, voc := s.stringV, stepAt := (s.reach (msEnd n 20)).dtb, step := 2560, run := 0 })

theorem solarConfigOk_of (hr : t.regs = s.regs) : t.solarConfigOk = s.solarConfigOk := by
  unfold State.solarConfigOk State.genIs State.gmode State.presc State.genPer
  rw [fld_of_rd (rd_congr hr _), fld_of_rd (rd_congr hr _), rd_congr hr]

/-- What an open-circuit measurement makes of the port: a fault, the scan, or the tracking from a free reference (R319, R320). -/
def State.ocTaken (s : State) : State :=
  if !s.solarConfigOk then (s.setSol solOff).chToFault 0 1
  else if s.solState = solScan then
    (s.modSolar (fun x => { x with ref := 95 * s.solar.voc / 100, scanK := 0, bestP := -1, bestRef := 95 * s.solar.voc / 100 })).boostOn.solPublish
  else ((s.drawWord.2.modSolar (fun x => { x with ref := 10 * (s.drawWord.1.toNat % 32768 : Nat) })).boostOn.setSol solTrack).solPublish

theorem ocTaken_effect (h : s.Inv) (hp : s.Publishes (solsig 0x200)) : s.ocTaken.dtb = s.dtb ∧ s.ocTaken.solar.voc = s.solar.voc ∧ s.ocTaken.solar.stopAt = s.solar.stopAt ∧
    if s.solarConfigOk = false then s.ocTaken.solState = solOff
    else if s.solState = solScan then s.ocTaken.solState = solScan ∧ s.ocTaken.solar.ref = 95 * s.solar.voc / 100
    else s.ocTaken.solState = solTrack := by
  have hb := fun u : State => State.boostOn_keeps (K := 28674) rfl (Keeps.refl _ u)
  unfold State.ocTaken
  cases hcfg : s.solarConfigOk with
  | false =>
    have hset := (WritesOnly.refl (P := (· = Reg.PWR_STAT)) (A := [solsig 0x200]) h).putNat (a := solsig 0x200) (v := solOff) (by decide)
    have hf := (WritesOnly.refl (P := (· = Reg.PWR_STAT)) (A := [csig 0x200, csig 0x201]) hset.inv).chToFault (c := 1) (by decide) (by decide)
    have hk := State.chToFault_keeps (K := 134767110) (m := 0) (cause := 1) rfl (State.setSol_keeps (st := solOff) rfl (Keeps.refl _ s))
    rw [Bool.not_false, if_pos rfl, if_pos rfl]
    refine ⟨hk.dtb rfl, by rw [hk.solar rfl], by rw [hk.solar rfl], ?_⟩
    exact (hf.val (by decide)).trans (solState_setSol h hp (by decide))
  | true =>
    rw [Bool.not_true, if_neg Bool.false_ne_true, if_neg (show ¬true = false by decide)]
    by_cases hscan : s.solState = solScan
    · rw [if_pos hscan, if_pos hscan]
      have hm : (s.modSolar (fun x => { x with ref := 95 * s.solar.voc / 100, scanK := 0, bestP := -1, bestRef := 95 * s.solar.voc / 100 })).Inv :=
        (WritesOnly.refl (P := fun _ => False) (A := []) h).modSolar.inv
      have hw := boostOn_writes (A := []) hm
      obtain ⟨-, hsol, hsolar, hdtb⟩ := solPublish_effect (P := fun _ => False) hw.inv
      rw [hsol, hsolar, hdtb, (hb _).solar rfl, (hb _).dtb rfl]
      exact ⟨rfl, rfl, rfl, (hw.val (by decide)).trans hscan, rfl⟩
    · rw [if_neg hscan, if_neg hscan]
      have hd : WritesOnly (· = Reg.PWR_STAT) [] s (s.drawWord.2.modSolar (fun x => { x with ref := 10 * (s.drawWord.1.toNat % 32768 : Nat) })) :=
        ((WritesOnly.refl h).keep (K := 128) (State.drawWord_keeps rfl (Keeps.refl _ s)) ⟨rfl, rfl, rfl⟩).modSolar
      have hw := hd.trans (boostOn_writes hd.inv)
      obtain ⟨-, hsol, hsolar, hdtb⟩ := solPublish_effect (P := fun _ => False) (putNat_inv (a := solsig 0x200) (v := solTrack) hw.inv)
      have hset := solState_setSol (n := solTrack) hw.inv (hw.publishes rfl hp) (by decide)
      have hsolar' := hsolar.trans ((solar_setSol solTrack).trans ((hb _).solar rfl))
      have hdtb' := hdtb.trans ((dtb_setSol solTrack).trans ((hb _).dtb rfl))
      exact ⟨hdtb', congrArg (·.voc) hsolar', congrArg (·.stopAt) hsolar', hsol.trans hset⟩

/-- A flag agrees with a proposition where it is its decision. -/
theorem decide_eq_iff (b : Bool) (p : Prop) [Decidable p] [Decidable ((b = true) = p)] : decide (b = decide p) = decide ((b = true) = p) := by
  by_cases hp : p <;> cases b <;> simp [hp]

/-- A step of the tracking: the direction stays while the power rises (R319). -/
def State.tracked (s : State) : State :=
  let u := s.reach (msEnd s.solar.stepAt 10)
  let p := s.q15 (solsig 0x201)
  let keep := s.solar.power < p
  let run := if keep then s.solar.run + 1 else 1
  let step := if !keep then max 256 (s.solar.step / 2) else if run = 4 then min 5120 (2 * s.solar.step) else s.solar.step
  let up := s.solar.up = keep
  u.modSolar (fun x => { x with
    up := up, run := if run = 4 then 0 else run, step := step, power := p, stepAt := u.dtb
    ref := if up then s.solar.ref + step else s.solar.ref - step })

/-- A step of the curtailment: the reference moves toward the open-circuit voltage (R321). -/
def State.relaxed (s : State) : State :=
  (s.reach (msEnd s.solar.stepAt 10)).modSolar (fun x => { x with
    ref := slew x.ref x.voc x.step, stepAt := (s.reach (msEnd s.solar.stepAt 10)).dtb, power := s.q15 (solsig 0x201) })

/-- The best power of a scan so far, and its reference (R320). -/
def State.scanBest (s : State) : Int × Int := if s.solar.bestP < s.q15 (solsig 0x201) then (s.q15 (solsig 0x201), s.solar.ref) else (s.solar.bestP, s.solar.bestRef)

/-- A step of the scan, and its end (R320). -/
def State.scanned (s : State) : State :=
  let top := 95 * s.solar.voc / 100
  let bottom := max (40 * s.solar.voc / 100) (volts10 10)
  (s.reach (msEnd s.solar.stepAt 10)).modSolar (fun x => { x with
    scanK := s.solar.scanK + 1, bestP := s.scanBest.1, bestRef := s.scanBest.2, stepAt := (s.reach (msEnd s.solar.stepAt 10)).dtb
    ref := top - (top - bottom) * (s.solar.scanK + 1 : Nat) / 64 })
def State.scanDone (s : State) : State :=
  (s.reach (msEnd s.solar.stepAt 10)).modSolar (fun x => { x with
    ref := s.scanBest.2, step := 2560, run := 0, power := s.scanBest.1, stepAt := (s.reach (msEnd s.solar.stepAt 10)).dtb
    scanEnd := (s.reach (msEnd s.solar.stepAt 10)).dtb })

theorem ref_scanDone : s.scanDone.solar.ref = if s.solar.bestP < s.q15 (solsig 0x201) then s.solar.ref else s.solar.bestRef := by
  have href : s.scanDone.solar.ref = s.scanBest.2 := rfl
  rw [href]
  unfold State.scanBest
  split <;> rfl

/-- Settles O34: each step by what it makes of the supply or of the port. -/
theorem supplyAndSolar : Obligations.SupplyAndSolar := by
  intro s h hc hteam hpub
  have hon := onTeam_of hteam
  have hcharger : ∀ u, onCharger s u = .next u := fun u => by
    unfold onCharger onPlane
    rw [hon, if_pos hc]
  have hp100 := hpub (csig 0x100) (by decide)
  have hp103 := hpub (csig 0x103) (by decide)
  have hp200 := hpub (csig 0x200) (by decide)
  have hp402 := hpub (csig 0x402) (by decide)
  have hpsol := hpub (solsig 0x200) (by decide)
  refine ⟨?_, ?_, ?_, ?_, ?_, ?_, ?_, ?_, ?_, ?_, ?_, ?_, ?_, ?_, ?_⟩
  · intro hmode hk1 hk3 hst hready hcable
    have hr := reach_inv (t := msEnd s.supply.since 100) h
    have heffect := supplyOn_effect hr (publishes_of rfl rfl hp402) (publishes_of rfl rfl hp200)
    refine runs_next (t := (s.reach (msEnd s.supply.since 100)).supplyOn) ?_ ⟨(State.supplyOn_keeps (K := 403206662) rfl (Keeps.refl _ _)).dtb rfl, ?_⟩
    · rw [exec_supplyEnergize, execSupplyEnergize, hcharger]
      refine congrArg Host.Outcome.next (if_pos ?_)
      rw [decide_eq_true hmode, decide_eq_true hk1, decide_eq_true hk3, decide_eq_true hst, decide_eq_true hready, hcable]
      rfl
    · have hcfg : ((s.reach (msEnd s.supply.since 100)).pfcConfigOk && (s.reach (msEnd s.supply.since 100)).isoConfigOk) = (s.pfcConfigOk && s.isoConfigOk) := by
        exact congrArg₂ (· && ·) (pfcConfigOk_of rfl) (isoConfigOk_of rfl)
      have hst' : (s.reach (msEnd s.supply.since 100)).supplyState = supOff := hst
      rw [hcfg, hst'] at heffect
      exact heffect
  · intro ms hmode hst hloss
    refine runs_next (t := s.supplyOff supFault) ?_ (supplyOff_effect h hp402 (by decide)).2
    rw [exec_supplyFault, execSupplyFault, hcharger]
    refine congrArg Host.Outcome.next (if_pos ?_)
    rw [decide_eq_true hmode, decide_eq_true hst, Bool.true_and, Bool.true_and, Bool.or_eq_true, decide_eq_true_eq, decide_eq_true_eq]
    exact hloss
  · intro ohm hcable hknown
    have hk := (WritesOnly.refl (P := (· = Reg.PWR_STAT)) (A := ppSigs) h).putPp (ohm := ohm) (by decide) (by decide) (by decide)
    have h103 := val_putPp h ohm hp103
    have hmode : (s.putPp ohm).modeNow = s.modeNow := hk.val (by decide)
    have hst : (s.putPp ohm).supplyState = s.supplyState := hk.val (by decide)
    have hkind : (s.putPp ohm).supplyKind = s.supplyKind := hk.val (by decide)
    obtain ⟨hw, hoff, -⟩ := supplyOff_effect (n := supOff) hk.inv (hk.publishes rfl hp402) (by decide)
    refine runs_next (t := if (s.putPp ohm).modeNow = modeSupply && (s.putPp ohm).supplyState = supRun && (s.putPp ohm).supplyKind ≤ 3 then
      (s.putPp ohm).supplyOff supOff else s.putPp ohm) ?_ ⟨?_, fun hsup hrun hle => ?_⟩
    · rw [exec_supplyCableRemoved, execSupplyCableRemoved, hcharger, hcable, hknown]
      rfl
    · split
      · exact (hw.val (by decide)).trans h103
      · exact h103
    · rw [hmode, hst, hkind, decide_eq_true hsup, decide_eq_true hrun, decide_eq_true hle, if_pos (by rfl)]
      exact hoff
  · intro pos neg periods ms hmode hkind hper hst hown
    have hput := (WritesOnly.refl (P := (· = Reg.PWR_STAT)) (A := [csig 0x100]) h).putNat (a := csig 0x100) (v := pilotOf true pos neg) (by decide)
    have hval : (s.putNat (csig 0x100) (pilotOf true pos neg)).val (csig 0x100) = pilotOf true pos neg :=
      (val_putNat_same h hp100).trans (Nat.mod_eq_of_lt (pilotOf_lt _ _ _))
    have hregs : (s.putNat (csig 0x100) (pilotOf true pos neg)).regs = s.regs := (State.putNat_keeps (K := 532996) rfl (Keeps.refl _ s)).regs rfl
    have hun : Unowned 33 (s.putNat (csig 0x100) (pilotOf true pos neg)) := ⟨hput.inv, by unfold State.lawOwned State.on; rw [fld_of_rd (rd_congr hregs _)]; exact hown⟩
    have hlive : (s.putNat (csig 0x100) (pilotOf true pos neg)).supply = s.supply := (State.putNat_keeps (K := 532996) rfl (Keeps.refl _ s)).supply rfl
    have h213 : (s.putNat (csig 0x100) (pilotOf true pos neg)).val (csig 0x213) = s.val (csig 0x213) := hput.val (by decide)
    have hpfc := pfcConfigOk_of hregs
    have hiso := isoConfigOk_of hregs
    have hexec : exec (.stationStateReaction pos neg periods ms) s = .next ((s.putNat (csig 0x100) (pilotOf true pos neg)).stationReacts (pilotOf true pos neg) ms) := by
      rw [exec_stationStateReaction, execStationStateReaction, hcharger]
      refine congrArg Host.Outcome.next ((if_neg ?_).trans rfl)
      rw [decide_eq_true hmode, decide_eq_true hper, decide_eq_true hst, Bool.not_eq_true', Bool.not_eq_false]
      simpa using hkind
    refine runs_next hexec ?_
    have hp402' := hput.publishes rfl hp402
    have hp200' := hput.publishes rfl hp200
    generalize s.putNat (csig 0x100) (pilotOf true pos neg) = u at hput hval hun hlive h213 hpfc hiso hp402' hp200' ⊢
    obtain ⟨hoff, hunoff, hsup⟩ := outputOff_effect hun hp402'
    rw [← hlive, ← h213, ← hpfc, ← hiso]
    refine ⟨((stationReacts_writes hun hp402').val (by decide)).trans hval, fun hp => ?_, fun hp hl => ?_, fun hp hms hdead hgood hpfc' hiso' => ?_, fun hp => ?_⟩ <;> unfold State.stationReacts
    · obtain ⟨hcmp, hfix⟩ := pilotFixed_effect (A := []) hunoff 0x3FFFFF
      rw [if_pos hp]
      exact ⟨hcmp.trans (by decide), fun hl => (hfix.val (by decide)).trans (hsup hl)⟩
    · rw [hp, if_neg (by decide), if_neg (by rw [decide_eq_false (show ¬pilotB = pilotC by decide), decide_eq_false (show ¬pilotB = pilotD by decide), Bool.false_and]; decide), if_pos (by decide)]
      exact ((advertise_power (A := []) hunoff.1).val (by decide)).trans (hsup hl)
    · have hadv := advertise_power (A := []) hun.1
      have hcfg := stagesConfig_of (advertise_writes (A := []) hun.1).1.2
      have heffect := supplyOn_effect hadv.inv (hadv.publishes rfl hp402') (hadv.publishes rfl hp200')
      rw [hcfg.1, hcfg.2, hpfc', hiso', if_pos (by rfl)] at heffect
      rw [hp, if_neg (by decide), if_pos (by rfl), live_advertise, hdead, hadv.val (by decide), decide_eq_true hms, decide_eq_true hgood, if_pos (by rfl)]
      exact heffect
    · obtain ⟨-, hfault, -⟩ := supplyOff_effect (n := supFault) hun.1 hp402' (by decide)
      obtain ⟨hcmp, hfix⟩ := pilotFixed_effect (A := []) (hun.supplyOff supFault) 0
      have hne : ∀ k, k < 4 → pilotOf true pos neg ≠ k := fun k hk e => by unfold pilotE at hp; omega
      rw [if_neg (hne _ (by decide)), if_neg (by rw [decide_eq_false (hne pilotC (by decide)), decide_eq_false (hne pilotD (by decide)), Bool.false_and]; decide),
        if_neg (by rw [decide_eq_false (hne pilotB (by decide)), decide_eq_false (hne pilotD (by decide))]; decide)]
      exact ⟨(hfix.val (by decide)).trans hfault, hcmp.trans (by decide)⟩
  · intro ms hmode hrole hprobe hrun hpilot hms
    refine runs_next (t := s.modInlet (fun i => { i with seen := true })) ?_ rfl
    rw [exec_stationProbeSeen, execStationProbeSeen, hcharger, hmode, hrole, hprobe, hrun, hpilot, decide_eq_true hms]
    rfl
  · intro ms hst hv hms hrun hall
    refine runs_next (t := (s.setSol solStart).modSolar (fun x => { x with stopAt := some s.dtb, scanEnd := s.dtb })) ?_ ⟨solState_setSol h hpsol (by decide), rfl⟩
    rw [exec_solarStart, execSolarStart, hcharger]
    refine congrArg Host.Outcome.next (if_pos ?_)
    rw [decide_eq_true hst, decide_eq_true hms, hrun, hall, decide_eq_true (show s.qty (solsig 0x301) (30 * 512) ≤ s.q15 (solsig 0x100) from hv)]
    rfl
  · intro ms hst hv
    have hb := boostOff_writes (A := []) h
    refine runs_next (t := (s.boostOff.setSol solOff).modSolar (fun x => { x with stopAt := none })) ?_ ⟨solState_setSol hb.inv (hb.publishes rfl hpsol) (by decide), rfl⟩
    rw [exec_solarStop, execSolarStop, hcharger]
    refine congrArg Host.Outcome.next (if_pos ?_)
    rw [decide_eq_true hst, decide_eq_true (show s.q15 (solsig 0x100) < 10 * 512 from hv), Bool.or_true]
    rfl
  · intro n hstop
    refine runs_next (t := (s.ocMeasured n).ocTaken) ?_ ?_
    · rw [exec_solarOpenCircuitMeasure, execSolarOpenCircuitMeasure, hcharger, hstop]
      rfl
    · have hu : (s.ocMeasured n).Inv := (WritesOnly.refl (P := fun _ => False) (A := []) (reach_inv (t := msEnd n 20) h)).modSolar.inv
      have heffect := ocTaken_effect hu (publishes_of (s := s) rfl rfl hpsol)
      have hcfg : (s.ocMeasured n).solarConfigOk = s.solarConfigOk := solarConfigOk_of rfl
      have hst : (s.ocMeasured n).solState = s.solState := rfl
      have hvoc : (s.ocMeasured n).solar.voc = s.stringV := rfl
      have hnone : (s.ocMeasured n).solar.stopAt = none := rfl
      have hdtb : (s.ocMeasured n).dtb = max s.dtb (msEnd n 20) := rfl
      rw [hcfg, hst, hvoc, hnone, hdtb] at heffect
      exact heffect
  · intro hst hstop
    have hu : (s.tracked).Inv := by
      unfold State.tracked
      exact (WritesOnly.refl (P := fun _ => False) (A := []) (reach_inv (t := msEnd s.solar.stepAt 10) h)).modSolar.inv
    obtain ⟨-, -, hsolar, hdtb⟩ := solPublish_effect (P := fun _ => False) hu
    refine runs_next (t := s.tracked.solPublish) ?_ ?_
    · rw [exec_mpptStep, execMpptStep, hcharger, hst, hstop]
      rfl
    · rw [hsolar, hdtb]
      refine ⟨rfl, rfl, rfl, (decide_eq_iff _ _).symm, ?_⟩
      unfold State.tracked
      simp only [solar_modSolar, decide_eq_true_eq]
  · intro hst hstop hib
    have hu : WritesOnly (· = Reg.PWR_STAT) [] s s.relaxed := (WritesOnly.refl h).reach.modSolar
    have hset := solState_setSol (n := solTrack) hu.inv (hu.publishes rfl hpsol) (by decide)
    obtain ⟨-, hsol, hsolar, -⟩ := solPublish_effect (P := fun _ => False) (putNat_inv (a := solsig 0x200) (v := solTrack) hu.inv)
    refine runs_next (t := (s.relaxed.setSol solTrack).solPublish) ?_ ⟨hsol.trans hset, ?_⟩
    · rw [exec_mpptStep, execMpptStep, hcharger, hst, hstop]
      refine congrArg Host.Outcome.next ((if_pos (by rfl)).trans ((if_pos rfl).trans ?_))
      have hib' : s.relaxed.ib < s.relaxed.qty (solsig 0x303) (80 * 256) := hib
      exact congrArg State.solPublish (if_pos hib')
    · exact (congrArg (·.ref) hsolar).trans (congrArg (·.ref) (solar_setSol (s := s.relaxed) solTrack))
  · intro hst hstop
    have hb := (WritesOnly.refl (P := (· = Reg.PWR_STAT)) (A := []) h).reach (d := msEnd s.solar.scanEnd 600000) |>.trans (boostOff_writes (reach_inv h))
    refine runs_next (t := ((s.reach (msEnd s.solar.scanEnd 600000)).boostOff.setSol solScan).modSolar (fun x => { x with
      stopAt := some ((s.reach (msEnd s.solar.scanEnd 600000)).boostOff.setSol solScan).dtb })) ?_ ⟨solState_setSol hb.inv (hb.publishes rfl hpsol) (by decide), ?_, rfl⟩
    · rw [exec_solarScanStart, execSolarScanStart, hcharger, hst, hstop]
      rfl
    · exact (dtb_setSol _).trans ((State.boostOff_keeps (K := 25090) rfl (Keeps.refl _ _)).dtb rfl)
  · intro hst hstop
    by_cases hk : s.solar.scanK < 64
    · have hu : WritesOnly (· = Reg.PWR_STAT) [] s s.scanned := by
        unfold State.scanned
        exact (WritesOnly.refl h).reach.modSolar
      obtain ⟨-, hsol, hsolar, hdtb⟩ := solPublish_effect (P := fun _ => False) hu.inv
      refine runs_next (t := s.scanned.solPublish) ?_ ?_
      · rw [exec_solarScanStep, execSolarScanStep, hcharger, hst, hstop]
        exact congrArg Host.Outcome.next ((if_pos (by rfl)).trans (if_pos hk))
      · rw [if_pos hk, hsol, hsolar, hdtb]
        exact ⟨rfl, hst, rfl⟩
    · have hu : WritesOnly (· = Reg.PWR_STAT) [] s s.scanDone := (WritesOnly.refl h).reach.modSolar
      have hset := solState_setSol (n := solTrack) hu.inv (hu.publishes rfl hpsol) (by decide)
      obtain ⟨-, hsol, hsolar, hdtb⟩ := solPublish_effect (P := fun _ => False) (putNat_inv (a := solsig 0x200) (v := solTrack) hu.inv)
      refine runs_next (t := (s.scanDone.setSol solTrack).solPublish) ?_ ?_
      · rw [exec_solarScanStep, execSolarScanStep, hcharger, hst, hstop]
        exact congrArg Host.Outcome.next ((if_pos (by rfl)).trans (if_neg hk))
      · have hsolar' : (s.scanDone.setSol solTrack).solPublish.solar = s.scanDone.solar := hsolar.trans (solar_setSol (s := s.scanDone) solTrack)
        have hdtb' : (s.scanDone.setSol solTrack).solPublish.dtb = s.scanDone.dtb := hdtb.trans (dtb_setSol (s := s.scanDone) solTrack)
        rw [if_neg hk, hsolar', hdtb']
        exact ⟨rfl, hsol.trans hset, rfl, ref_scanDone⟩
  · intro ms hst hall hqty hms htr
    refine runs_next (t := s.dcxBackward.modSolar (fun x => { x with transfer := true })) ?_ rfl
    rw [exec_reverseTransferStart, execReverseTransferStart, hcharger]
    refine congrArg Host.Outcome.next (if_pos ?_)
    rw [decide_eq_true hst, hall, decide_eq_true hms, htr, decide_eq_true (show s.qty (solsig 0x304) (78 * 256) < s.ib from hqty)]
    rfl
  · intro ms htr hms
    refine runs_next (t := s.dcxOff.modSolar (fun x => { x with transfer := false })) ?_ rfl
    rw [exec_reverseTransferStop, execReverseTransferStop, hcharger, htr, decide_eq_true hms]
    rfl
  · intro hst hstop hqty
    refine runs_next (t := s.setSol solCurtail) ?_ (solState_setSol h hpsol (by decide))
    rw [exec_solarCurtail, execSolarCurtail, hcharger]
    refine congrArg Host.Outcome.next (if_pos ?_)
    rw [hstop, decide_eq_true (show s.qty (solsig 0x303) (80 * 256) ≤ s.ib from hqty)]
    simpa using hst

end Sys2Proof.Machine
end

section
/-! PROOFS. The 1 ms boundary and the mode machine of Team S (R29, R43, R46, R47). -/

namespace Sys2Proof.Machine

set_option Elab.async false

variable {s t : State}

/-! ## The 1 ms boundary -/

/-- The next boundary is the multiple of 1 ms that follows the present (R29). -/
theorem nextMs_spec (s : State) : s.nextMs % 400000 = 0 ∧ s.dtb < s.nextMs ∧ s.nextMs ≤ s.dtb + 400000 := by
  have hms : s.nextMs = (s.dtb / 400000 + 1) * 400000 := rfl
  rw [hms]
  omega

/-! ## Entering a mode -/

theorem val_lt (s : State) (a : Nat) : s.val a < 2 ^ 32 := (s.sig a).value.isLt
theorem val_putNat_word (h : s.Inv) {a b : Nat} (hp : s.Publishes a) : (s.putNat a (s.val b)).val a = s.val b :=
  (val_putNat_same h hp).trans (Nat.mod_eq_of_lt (val_lt s b))

theorem KeepsSignals.chs {s0 : State} (h : KeepsSignals s0 s) {p : SupervisorSt} : KeepsSignals s0 ({ s with chs := p } : State) :=
  h.keep (Keeps.set_chs (K := 2 ^ 30) rfl (Keeps.refl _ s)) ⟨rfl, rfl, rfl⟩

/-- A supervision that the mode's number triggers trips the isolation stage, and changes no signal while the mode machine moves. -/
theorem KeepsSignals.chsDetect {s0 : State} (h : KeepsSignals s0 s) {c : Nat} : KeepsSignals s0 (s.chsDetect c) := by
  have hdet := ((h.setf (f := Fld.CHS_STAT_det) (v := 1) (by decide : Reg.CHS_STAT ≠ Reg.PWR_STAT)).setf (f := Fld.CHS_STAT_cause) (v := c) (by decide : Reg.CHS_STAT ≠ Reg.PWR_STAT)).inc (by decide : Reg.CHS_CNT ≠ Reg.PWR_STAT)
  exact (hdet.chs.gtrip (by decide)).keep (K := 1048576) (State.report_keeps rfl (Keeps.refl _ _)) ⟨rfl, rfl, rfl⟩

theorem KeepsSignals.chsCurrent {s0 : State} (h : KeepsSignals s0 s) {id : Nat} {v : Int} : KeepsSignals s0 (s.chsCurrent id v) := by
  refine KeepsSignals.ite (fun _ => h) (fun _ => ?_)
  dsimp only
  split
  · exact h.chs
  · exact KeepsSignals.ite (fun _ => h.chs.chsDetect) (fun _ => h.chs)

/-- SERVICE forces the positions once (R404). -/
theorem KeepsSignals.serviceForcing {s0 : State} (h : KeepsSignals s0 s) {v : Word} : KeepsSignals s0 (s.serviceForcing v) := by
  refine h.of (K := 1048578) (State.serviceForcing_keeps rfl (Keeps.refl _ s)) ?_ ⟨rfl, rfl⟩
  have hr : KeepsRegs (· = Reg.PWR_STAT) s s := KeepsRegs.refl h.1
  have hforced : ∀ b, ∀ {u : State}, KeepsRegs (· = Reg.PWR_STAT) s u → KeepsRegs (· = Reg.PWR_STAT) s (u.modMg (fun m => { m with forcing := b })) :=
    fun _ _ hu => hu.of_regs (State.modMg_keeps (K := 1048576) rfl (Keeps.refl _ _) (fun _ hm => hm)) rfl
  refine KeepsRegs.ite (fun _ => hforced _ hr) (fun _ => KeepsRegs.ite (fun _ => hr) (fun _ => hforced _ (hr.forN (fun u d _ hu => ?_))))
  have hpos : ¬Reg.MG_POS d = Reg.PWR_STAT := by unfold Reg.MG_POS Reg.PWR_STAT; omega
  exact (hu.wr hpos).of_regs (State.modMgDrive_keeps (K := 1048576) rfl (Keeps.refl _ _)) rfl

theorem KeepsSignals.watchMode {s0 : State} (h : KeepsSignals s0 s) {v : Word} : KeepsSignals s0 (s.watchWrite sigMode v) := by
  unfold State.watchWrite
  rw [if_pos rfl]
  exact h.chsCurrent.serviceForcing

/-- The state in which the mode is the target, and no transition is under way. -/
def State.modeTaken (s : State) : State :=
  ((s.putNat sigMode (s.val sigTarget)).watchWrite sigMode (W (s.val sigTarget))).putNat sigPhase 0

theorem modeEntered_eq : s.modeEntered = (s.modeTaken.modeHooks s.modeNow (s.val sigTarget)).refreshMmreq := rfl

theorem modeTaken_effect (h : s.Inv) (hph : s.val sigPhase = phaseEntering) (hpp : s.Publishes sigPhase) (hpm : s.Publishes sigMode) :
    s.modeTaken.Inv ∧ s.modeTaken.val sigPhase = 0 ∧ s.modeTaken.modeNow = s.val sigTarget := by
  have hput : WritesOnly (· = Reg.PWR_STAT) [sigMode] s (s.putNat sigMode (s.val sigTarget)) := (WritesOnly.refl h).putNat (by decide)
  have hon : (s.putNat sigMode (s.val sigTarget)).domainOn 6 = true := publishes_power (hput.publishes rfl hpp)
  have hphase : (s.putNat sigMode (s.val sigTarget)).val sigPhase ≠ 0 := by
    rw [hput.val (by decide), hph]
    decide
  have hk := (KeepsSignals.refl hput.inv hon).watchMode (v := W (s.val sigTarget))
  refine ⟨putNat_inv hk.1, (val_putNat_same hk.1 (hk.publishes (hput.publishes rfl hpp))).trans rfl, ?_⟩
  exact (val_putNat_other hk.1 (by decide)).trans ((hk.2.2.2 _ (.inr hphase)).trans (val_putNat_word h hpm))

/-! ## What entering and leaving SUPPLY does -/

/-- The signals that the hooks of a mode write. -/
def hookSigs : List Nat := [csig 0x402, csig 0x200, csig 0x201]

theorem stationStart_writes (h : s.Inv) : WritesOnly (· = Reg.PWR_STAT) hookSigs s s.stationStart := by
  have hadv := advertise_power (A := hookSigs) h
  refine WritesOnly.ite (fun _ => WritesOnly.refl h) (fun _ => WritesOnly.ite (fun _ => (WritesOnly.refl h).chToFault (by decide) (by decide)) (fun _ => ?_))
  exact hadv.of (K := 16386) (State.groupStart_keeps rfl (Keeps.refl _ _)) ((KeepsRegs.refl hadv.inv).groupStart (driveBlock_ne pwrStat_outside) (by decide)) ⟨rfl, rfl⟩

theorem modeHooks_writes (h : s.Inv) (old new : Nat) : WritesOnly (· = Reg.PWR_STAT) hookSigs s (s.modeHooks old new) := by
  have hput : WritesOnly (· = Reg.PWR_STAT) hookSigs s ((s.putNat (csig 0x402) supOff).modSupply (fun x => { x with since := s.dtb })) :=
    ((WritesOnly.refl h).putNat (by decide)).modSupply
  have hsup := WritesOnly.ite (c := new = modeSupply) (fun _ => hput.trans (stationStart_writes hput.inv)) (fun _ => WritesOnly.refl h)
  have hseen := WritesOnly.ite (c := (old = modeSupply && new ≠ modeSupply) = true) (fun _ => hsup.modInlet (f := fun x => { x with seen := false })) (fun _ => hsup)
  exact hseen.keep (K := 134217728) (State.modCh_keeps rfl (Keeps.refl _ _)) ⟨rfl, rfl, rfl⟩

/-! ## The statement -/

theorem stageGens_lt (st : Nat) : ∀ g ∈ gensOfStage st, g < 40 := fun _ hg => List.mem_range.mp (List.mem_of_mem_filter hg)

theorem targetPowered_of (hdom : ∀ d ∈ s.requiredDomains (s.val sigTarget), s.domainOn d = true ∧ ∀ r ∈ s.power.reinit, r.1 ≠ d) : s.targetPowered = true := by
  unfold State.targetPowered
  rw [List.all_eq_true]
  intro d hd
  obtain ⟨hon, hre⟩ := hdom d hd
  rw [hon, Bool.true_and, Bool.not_eq_true', List.any_eq_false]
  intro r hr
  simpa using hre r hr

/-- A refusal writes its reason only. -/
theorem refuseMode_writes (h : s.Inv) (m : Nat) : WritesOnly (· = Reg.PWR_STAT) [sigReason] s (s.refuseMode m) := by
  unfold State.refuseMode
  split
  · exact (WritesOnly.refl h).put (by decide)
  · exact WritesOnly.refl h

/-- The machine enters its target: the domains that it needs rise (R47). -/
theorem modeEntering_effect (h : s.Inv) (hpp : s.Publishes sigPhase) : s.modeEntering.val sigPhase = phaseEntering ∧ s.modeEntering.val sigTarget = s.val sigTarget := by
  have hphase : (s.putNat sigPhase phaseEntering).val sigPhase = phaseEntering := (val_putNat_same h hpp).trans rfl
  have htarget : (s.putNat sigPhase phaseEntering).val sigTarget = s.val sigTarget := val_putNat_other h (by decide)
  have hk : ∀ u : State, ∀ f ds a, ((u.modMode f).raise ds).val a = u.val a :=
    fun u f ds a => val_congr ((State.raise_keeps (K := 2203318353922) rfl (State.modMode_keeps rfl (Keeps.refl _ u))).sigs rfl) a
  exact ⟨(hk _ _ _ _).trans hphase, (hk _ _ _ _).trans htarget⟩

/-- Settles O60: each step by what it makes of the mode's signals. -/
theorem modeMachine : Obligations.ModeMachine := by
  intro s h
  refine ⟨?_, ?_, ?_, ?_, ?_⟩
  · intro hon
    obtain ⟨hmult, hlt, hle⟩ := nextMs_spec s
    have hdtb : (s.reach s.nextMs).boundaryBlocks.boundaryTeams.dtb = s.nextMs :=
      ((State.boundaryTeams_keeps (K := 2447569286038) rfl (State.boundaryBlocks_keeps rfl (Keeps.refl _ (s.reach s.nextMs)))).dtb rfl).trans (Nat.max_eq_right hlt.le)
    refine runs_next (t := (s.reach s.nextMs).boundaryBlocks.boundaryTeams) ?_ (by rw [hdtb]; exact ⟨hmult, hlt, hle⟩)
    rw [exec_systemBoundary1ms, execSystemBoundary1ms, hon]
    rfl
  · intro b hre hteam hph hpp hpt
    have hu : ((s.reach b).modMode (fun m => { m with recheck := none })).Inv := (State.modMode_keeps (K := 131073) rfl (State.reach_keeps rfl (Keeps.refl _ s))).inv h
    have hpp' : ((s.reach b).modMode (fun m => { m with recheck := none })).Publishes sigPhase := publishes_of rfl rfl hpp
    have hpt' : ((s.reach b).modMode (fun m => { m with recheck := none })).Publishes sigTarget := publishes_of rfl rfl hpt
    have hmay : ∀ m, ((s.reach b).modMode (fun m => { m with recheck := none })).mayEnter s.modeNow m = s.mayEnter s.modeNow m := fun m => rfl
    by_cases hok : s.mayEnter s.modeNow (s.val sigTarget) = true
    · refine runs_next (t := ((s.reach b).modMode (fun m => { m with recheck := none })).modeLeave (s.val sigTarget)) ?_ ?_
      · rw [exec_modeEntryRecheck, execModeEntryRecheck, hre]
        refine congrArg Host.Outcome.next ((if_neg (by rw [hteam]; decide)).trans ((if_neg (not_not.mpr hph)).trans ?_))
        exact if_pos ((hmay _).trans hok)
      · rw [if_pos hok]
        refine ⟨rfl, ?_, ?_⟩
        · exact (val_putNat_same (putNat_inv hu) (publishes_of (rd_putVal _ _ _ _ _) (descs_putVal _ _ _ _) hpp')).trans rfl
        · exact (val_putNat_other (putNat_inv hu) (by decide)).trans (val_putNat_word (b := sigTarget) hu hpt')
    · refine runs_next (t := (((s.reach b).modMode (fun m => { m with recheck := none })).putNat sigTarget s.modeNow).refuseMode (s.val sigTarget)) ?_ ?_
      · rw [exec_modeEntryRecheck, execModeEntryRecheck, hre]
        refine congrArg Host.Outcome.next ((if_neg (by rw [hteam]; decide)).trans ((if_neg (not_not.mpr hph)).trans ?_))
        exact if_neg (fun e => hok ((hmay _).symm.trans e))
      · have hput : WritesOnly (· = Reg.PWR_STAT) [sigTarget] ((s.reach b).modMode (fun m => { m with recheck := none })) _ := (WritesOnly.refl hu).putNat (a := sigTarget) (v := s.modeNow) (by decide)
        have href := refuseMode_writes hput.inv (s.val sigTarget)
        rw [if_neg hok]
        refine ⟨?_, (href.val (by decide)).trans ((hput.val (by decide)).trans hph), (href.val (by decide)).trans (val_putNat_word (b := sigMode) hu hpt')⟩
        exact congrArg (·.recheck) ((State.refuseMode_keeps (K := 532996) rfl (State.putNat_keeps rfl (Keeps.refl _ _))).mode rfl)
  · intro hph hteam hstop hpp
    have hgens : ∀ g ∈ s.stagesToStop.flatMap gensOfStage, g < 40 := fun g hg => by
      obtain ⟨st, -, hst⟩ := List.mem_flatMap.mp hg
      exact stageGens_lt st g hst
    have hk : WritesOnly (· = Reg.PWR_STAT) [] s (s.stopGens (s.stagesToStop.flatMap gensOfStage)) :=
      (WritesOnly.refl h).of (K := 16386) (State.stopGens_keeps rfl (Keeps.refl _ s)) ((KeepsRegs.refl h).stopGens (driveBlock_ne pwrStat_outside) hgens) ⟨rfl, rfl⟩
    obtain ⟨hphase, htarget⟩ := modeEntering_effect hk.inv (hk.publishes rfl hpp)
    refine runs_next (t := s.modeLeft) ?_ ⟨hphase, htarget.trans (hk.val (by decide))⟩
    rw [exec_modeLeavingDone, execModeLeavingDone, hph, hteam, hstop]
    rfl
  · intro hph hteam hdom hstop hpp hpm
    obtain ⟨hi, hphase, hmode⟩ := modeTaken_effect h hph hpp hpm
    have hw := modeHooks_writes hi s.modeNow (s.val sigTarget)
    refine runs_next (t := s.modeEntered) ?_ ?_
    · rw [exec_modeEnteringDone, execModeEnteringDone, hph, hteam, targetPowered_of hdom]
      exact congrArg Host.Outcome.next ((if_neg (by decide)).trans ((if_pos rfl).trans (if_pos hstop)))
    · rw [modeEntered_eq]
      exact ⟨(hw.val (by decide)).trans hphase, (hw.val (by decide)).trans hmode⟩
  · intro hph hteam hstop hdom hpp
    have hput : WritesOnly (· = Reg.PWR_STAT) [sigTarget] s (s.putNat sigTarget (s.val sigTarget)) := (WritesOnly.refl h).putNat (by decide)
    refine runs_next (t := s.modeLeave (s.val sigTarget)) ?_ ⟨?_, ?_, rfl⟩
    · rw [exec_modeEnteringDone, execModeEnteringDone, hph, hteam, targetPowered_of hdom]
      exact congrArg Host.Outcome.next ((if_neg (by decide)).trans ((if_pos rfl).trans (if_neg (by rw [hstop]; decide))))
    · exact (val_putNat_same hput.inv (hput.publishes rfl hpp)).trans rfl
    · exact (val_putNat_other hput.inv (by decide)).trans (hput.val (by decide))

end Sys2Proof.Machine
end

section
/-! PROOFS. Laws and their engines: the checks, the outputs, the misses and the coefficient memory (R119, R131-R149, R152-R175). -/

namespace Sys2Proof.Machine

set_option Elab.async false

variable {s s0 t : State} {P : Nat → Prop} {e l : Nat}

/-! ## A masked write -/

/-- A bit outside every mask of a register's row keeps its value through a write (R17). -/
theorem writeWord_bit {r : RegRow} {locked : Bool} {old v : Word} {i : Nat} (hi : i < 32) (hrw : r.rw.testBit i = false)
    (hrwl : r.rwl.testBit i = false) (hclear : r.w1c.testBit i = false) (hset : r.w1s.testBit i = false) :
    (writeWord r locked old v).getLsbD i = old.getLsbD i := by
  have hbit : ∀ {n : Nat}, n.testBit i = false → (BitVec.ofNat 32 n)[i] = false := by
    intro n hn
    rw [BitVec.getElem_eq_testBit_toNat, BitVec.toNat_ofNat, Nat.testBit_mod_two_pow, hn, Bool.and_false]
  unfold writeWord W
  cases locked <;> simp [hi, hbit hrw, hbit hrwl, hbit hclear, hbit hset]

/-- A one-bit field is a bit of its word. -/
theorem fld_bit {a i : Nat} : s.fld a ⟨i, 1⟩ = ((s.rd a).getLsbD i).toNat := by
  unfold State.fld Word.get BitVec.getLsbD
  rw [Nat.testBit_eq_decide_div_mod_eq, pow_one]
  rcases Nat.mod_two_eq_zero_or_one ((s.rd a).toNat / 2 ^ i) with h | h <;> simp [h]

theorem fld_wrMasked_bit (h : s.Inv) {a i m : Nat} {v : Word} (hi : i < 32) (hm : m.testBit i = false) :
    (s.wrMasked a m v).fld a ⟨i, 1⟩ = s.fld a ⟨i, 1⟩ := by
  unfold State.wrMasked
  split
  · rw [fld_bit, fld_bit, rd_wr_same h, writeWord_bit hi] <;> simp only [Nat.testBit_and, hm, Bool.and_false]
  · rfl

theorem wrMasked_inv (h : s.Inv) {a m : Nat} {v : Word} : (s.wrMasked a m v).Inv :=
  (KeepsRegs.wrMasked (P := fun _ => False) (KeepsRegs.refl h) id).1

/-! ## What a law's enable and disable write -/

/-- The registers that a law's disable writes. -/
def disableRegs (e l a : Nat) : Prop :=
  a ∈ endRegs e l ∨ a = Reg.CE_STATUS e ∨ a = Reg.LAW_RSTAT e l ∨ a = Reg.LAW_CTRL e l ∨ ∃ g < 64, a = Reg.PWM_STAT g

theorem ce_setOwned {b : Bool} : (s.setOwned e l b).ce = s.ce := (State.setOwned_keeps (K := 2) rfl (Keeps.refl _ s)).ce rfl

theorem KeepsRegs.owned (h : KeepsRegs P s0 s) (hg : ∀ g < 64, ¬P (Reg.PWM_STAT g)) {b : Bool} : KeepsRegs P s0 (s.setOwned e l b) :=
  h.each (fun _ g hgen hu => hu.setb (hg g (lawGens_lt hgen)))

theorem KeepsRegs.undone (h : KeepsRegs P s0 s) (hend : ∀ a ∈ endRegs e l, ¬P a) : KeepsRegs P s0 (s.undoEnd e l) := by
  unfold State.undoEnd
  split
  · exact h
  · dsimp only
    split
    · exact h
    · exact KeepsRegs.each (h.modCe.modLaw.paddock.modCe) (fun _ w hw hu => hu.wr (hend _ (List.of_mem_zip hw).1))

section
variable (hD : ∀ a, disableRegs e l a → ¬P a)
include hD

theorem KeepsRegs.sectionEnded (h : KeepsRegs P s0 s) : KeepsRegs P s0 (s.endSection e l) := by
  unfold State.endSection
  have hstatus : ¬P (Reg.CE_STATUS e) := hD _ (.inr (.inl rfl))
  exact ((h.modLaw.setf hstatus).setf hstatus).setf (hD _ (.inr (.inr (.inl rfl))))

theorem KeepsRegs.ended (h : KeepsRegs P s0 s) : KeepsRegs P s0 (s.lawEnded e l) := by
  have hrstat : ¬P (Reg.LAW_RSTAT e l) := hD _ (.inr (.inr (.inl rfl)))
  have hctrl : ¬P (Reg.LAW_CTRL e l) := hD _ (.inr (.inr (.inr (.inl rfl))))
  exact (((((h.sectionEnded hD).modLaw).setf hctrl).setf hctrl).setf hrstat).modLaw.setf hrstat

theorem KeepsRegs.disabled (h : KeepsRegs P s0 s) : KeepsRegs P s0 (s.lawDisable e l) := by
  have hoff : KeepsRegs P s0 (if s.lawOn e l then (s.undoEnd e l).setOwned e l false else s) :=
    KeepsRegs.ite (fun _ => (h.undone (fun a ha => hD a (.inl ha))).owned (fun g hg => hD _ (.inr (.inr (.inr (.inr ⟨g, hg, rfl⟩)))))) (fun _ => h)
  rw [lawDisable_eq]
  exact KeepsRegs.ite (fun _ => hoff.ended hD) (fun _ => hoff)

end

theorem endRegs_ne_ctrl {k : Nat} : ∀ a ∈ endRegs e k, a ≠ Reg.LAW_CTRL e l := by
  intro a ha
  simp only [endRegs, List.mem_cons, List.not_mem_nil, or_false] at ha
  obtain rfl | rfl | rfl | rfl | rfl := ha
  · unfold Reg.LAW_CNT_HITA Reg.LAW_CTRL; omega
  · unfold Reg.LAW_CNT_HITB Reg.LAW_CTRL; omega
  · unfold Reg.LAW_CNT_RUN Reg.LAW_CTRL; omega
  · unfold Reg.LAW_CNT_SAT Reg.LAW_CTRL; omega
  · unfold Reg.LAW_STAT Reg.LAW_CTRL; omega

theorem lawOn_keeps (h : KeepsRegs (· = Reg.LAW_CTRL e l) s0 s) : s.lawOn e l = s0.lawOn e l := h.on rfl _
theorem lawBusy_keeps (h : KeepsRegs (· = Reg.LAW_CTRL e l) s0 s) : s.lawBusy e l = s0.lawBusy e l := h.on rfl _

theorem lawOn_of_rd (h : t.rd (Reg.LAW_CTRL e l) = s.rd (Reg.LAW_CTRL e l)) : t.lawOn e l = s.lawOn e l := by
  unfold State.lawOn State.on
  rw [fld_of_rd h]

theorem lawOn_of_fld {n : Nat} (h : t.fld (Reg.LAW_CTRL e l) Fld.LAW_CTRL_en = n) (hn : n ≠ 0) : t.lawOn e l = true := decide_eq_true (h ▸ hn)
theorem lawBusy_of_fld (h : t.fld (Reg.LAW_CTRL e l) Fld.LAW_CTRL_busy = 0) : t.lawBusy e l = false := decide_eq_false (not_not.mpr h)

/-! ## LAW_DISABLE (R147) -/

/-- What a disabled law holds. -/
structure State.Disabled (t : State) (e l : Nat) : Prop where
  off : t.lawOn e l = false
  sec : (t.lawAt e l).sec = none
  outDue : (t.lawAt e l).outDue = none
  fbDue : (t.lawAt e l).fbDue = none
  last : t.fld (Reg.LAW_RSTAT e l) Fld.LAW_RSTAT_last = 9

theorem lawEnded_disabled (h : s.Inv) (he : e < 12) (hl : l < 4) : (s.lawEnded e l).Disabled e l := by
  unfold State.lawEnded
  dsimp only
  generalize hu : (s.endSection e l).modLaw e l (fun w => { w with frame := none, used := false, outDue := none, fbDue := none, staged := noOutputs, lookDone := false }) = u
  have huInv : u.Inv := hu ▸ modLaw_inv (endSection_inv h)
  have hlaw : u.lawAt e l = { s.lawAt e l with sec := none, frame := none, used := false, outDue := none, fbDue := none, staged := noOutputs, lookDone := false } := by
    rw [← hu, lawAt_modLaw_same (endSection_inv h) he hl, lawAt_endSection h he hl]
  generalize hv : ((u.setf (Reg.LAW_CTRL e l) Fld.LAW_CTRL_en 0).setf (Reg.LAW_CTRL e l) Fld.LAW_CTRL_busy 0).setLast e l 9 = v
  have hvInv : v.Inv := hv ▸ setf_inv (setf_inv (setf_inv huInv))
  have hvlaw : v.lawAt e l = u.lawAt e l := by rw [← hv]; exact lawAt_congr rfl e l
  have hctrl : v.rd (Reg.LAW_CTRL e l) = ((u.setf (Reg.LAW_CTRL e l) Fld.LAW_CTRL_en 0).setf (Reg.LAW_CTRL e l) Fld.LAW_CTRL_busy 0).rd (Reg.LAW_CTRL e l) := by
    rw [← hv]
    exact rd_setf_other (setf_inv (setf_inv huInv)) (by unfold Reg.LAW_CTRL Reg.LAW_RSTAT; omega)
  have hreined : (v.reinBack e l).lawAt e l = { v.lawAt e l with bankA := {}, bankB := {}, bounds := [], fbSet := noOutputs, staged := noOutputs, held := [], pred := List.replicate 8 0 } := by
    unfold State.reinBack
    rw [State.lawAt, State.setf_ceAt, ← State.lawAt, lawAt_modLaw_same hvInv he hl]
  refine ⟨?_, by rw [hreined, hvlaw, hlaw], by rw [hreined, hvlaw, hlaw], by rw [hreined, hvlaw, hlaw], ?_⟩
  · have hoff : (v.reinBack e l).fld (Reg.LAW_CTRL e l) Fld.LAW_CTRL_en = 0 := by
      unfold State.reinBack
      rw [fld_setf_other (modLaw_inv hvInv) (by unfold Reg.LAW_CTRL Reg.LAW_RSTAT; omega)]
      exact (fld_of_rd hctrl _).trans ((fld_setf_field (setf_inv huInv) (by decide) (by decide)).trans (fld_setf_same huInv (by decide)))
    exact decide_eq_false (not_not.mpr hoff)
  · rw [last_reinBack hvInv, ← hv]
    exact fld_setf_same (setf_inv (setf_inv huInv)) (by decide)

/-- The disable of an enabled law ends it. -/
theorem lawDisable_disabled (h : s.Inv) (he : e < 12) (hl : l < 4) (hon : s.lawOn e l = true) : (s.lawDisable e l).Disabled e l := by
  have hstat : ∀ g < 64, ¬(Reg.PWM_STAT g = Reg.LAW_CTRL e l) := fun g hg => by unfold Reg.PWM_STAT Reg.LAW_CTRL; omega
  have hkeep : KeepsRegs (· = Reg.LAW_CTRL e l) s ((s.undoEnd e l).setOwned e l false) := ((KeepsRegs.refl h).undone endRegs_ne_ctrl).owned hstat
  rw [lawDisable_eq, if_pos hon]
  dsimp only
  rw [lawOn_keeps hkeep, hon, Bool.true_or, if_pos rfl]
  exact lawEnded_disabled hkeep.1 he hl

/-- A law is off after its disable. -/
theorem lawOn_lawDisable (h : s.Inv) (he : e < 12) (hl : l < 4) : (s.lawDisable e l).lawOn e l = false := by
  by_cases hon : s.lawOn e l = true
  · exact (lawDisable_disabled h he hl hon).off
  · have hoff : s.lawOn e l = false := Bool.eq_false_iff.mpr hon
    rw [lawDisable_eq, if_neg hon]
    dsimp only
    rw [hoff, Bool.false_or]
    split
    · exact (lawEnded_disabled h he hl).off
    · exact hoff

/-- The disable of one law of an engine leaves the enables of the others. -/
theorem lawOn_lawDisable_other {k : Nat} (h : s.Inv) (hk : k ≠ l) : (s.lawDisable e k).lawOn e l = s.lawOn e l := by
  refine lawOn_keeps ((KeepsRegs.refl h).disabled ?_)
  rintro a (ha | rfl | rfl | rfl | ⟨g, hg, rfl⟩)
  · exact endRegs_ne_ctrl a ha
  · unfold Reg.CE_STATUS Reg.LAW_CTRL; omega
  · unfold Reg.LAW_RSTAT Reg.LAW_CTRL; omega
  · unfold Reg.LAW_CTRL; omega
  · unfold Reg.PWM_STAT Reg.LAW_CTRL; omega

/-! ## CE_DISABLE, CE_ECC_DOUBLE_ERROR (R147, R149) -/

theorem engineStop_inv (h : s.Inv) : (s.engineStop e).Inv := (State.engineStop_keeps (K := 8706) rfl (Keeps.refl _ s)).inv h
theorem lawDisable_inv (h : s.Inv) : (s.lawDisable e l).Inv := (State.lawDisable_keeps (K := 8706) rfl (Keeps.refl _ s)).inv h

/-- A stopped engine has no law enabled. -/
theorem lawOn_engineStop (h : s.Inv) (he : e < 12) (hl : l < 4) : (s.engineStop e).lawOn e l = false := by
  exact (State.forN_hit (f := fun u k => u.lawDisable e k) (A := State.Inv) (B := fun u => u.Inv ∧ u.lawOn e l = false) hl (fun _ _ _ _ hu => lawDisable_inv hu)
    (fun u hu => ⟨lawDisable_inv hu, lawOn_lawDisable hu he hl⟩)
    (fun u k _ hk hu => ⟨lawDisable_inv hu.1, (lawOn_lawDisable_other hu.1 hk).trans hu.2⟩) h).2

theorem each_report {cls : Nat} : ∀ (sts : List Nat) (s : State), (s.each sts (fun s st => s.report cls (scopeOf lvStage st))).regs = s.regs ∧
    (s.each sts (fun s st => s.report cls (scopeOf lvStage st))).mg.reports =
      s.mg.reports ++ sts.map (fun st => { cls := cls, scope := scopeOf lvStage st })
  | [], s => ⟨rfl, (List.append_nil _).symm⟩
  | st :: sts, s => by
    obtain ⟨hregs, hreports⟩ := each_report sts (s.report cls (scopeOf lvStage st))
    exact ⟨hregs, hreports.trans (by rw [reports_report, List.append_assoc]; rfl)⟩

/-! ## The coefficient memory (R119) -/

/-- A coefficient is the half of its word that a write of it sets. -/
theorem coef_setCoef (h : s.Inv) {i : Nat} {v : Word} : (s.setCoef e i v).coef e i = sx 16 v.toNat := by
  have hfit : 16 * (i % 2) + 16 ≤ 32 := by have := Nat.mod_lt i (show 2 > 0 by omega); omega
  have hget : (s.setCoef e i v).fld (Reg.COEF_MEM e (i / 2)) ⟨16 * (i % 2), 16⟩ = v.toNat % 2 ^ 16 := fld_setf_same h hfit
  have hmod : ∀ n m : Nat, n % 2 ^ 16 = m % 2 ^ 16 → sx 16 n = sx 16 m := fun n m hnm => by unfold sx; rw [hnm]
  exact hmod _ _ hget

/-! ## LAW_ENABLE and the static check (R142, R144) -/

theorem lawEnable_effect {v : Word} (h : s.Inv) (hoff : s.lawOn e l = false) (hidle : s.lawBusy e l = false) :
    (s.lawEnable e l v).fld (Reg.LAW_CTRL e l) Fld.LAW_CTRL_busy = 1 ∧ (s.lawEnable e l v).fld (Reg.LAW_CTRL e l) Fld.LAW_CTRL_en = 0 := by
  have hen : s.fld (Reg.LAW_CTRL e l) Fld.LAW_CTRL_en = 0 := not_not.mp (of_decide_eq_false hoff)
  unfold State.lawEnable
  rw [hoff, hidle, Bool.or_false, if_neg Bool.false_ne_true]
  refine ⟨fld_setf_same (wrMasked_inv h) (by decide), ?_⟩
  exact (fld_setf_field (wrMasked_inv h) (by decide) (by decide)).trans ((fld_wrMasked_bit h (by decide) (by decide)).trans hen)

/-- The registers that the start of a law leaves unchanged. -/
theorem lawStart_regs (h : s.Inv) (hctrl : ¬P (Reg.LAW_CTRL e l)) (hg : ∀ g < 64, ¬P (Reg.PWM_STAT g)) : KeepsRegs P s (s.lawStart e l) :=
  ((((KeepsRegs.refl h).setf hctrl).setf hctrl).owned hg).modCe.modLaw

/-- A law that starts is enabled, and its check is over. -/
theorem lawStart_effect (h : s.Inv) : (s.lawStart e l).fld (Reg.LAW_CTRL e l) Fld.LAW_CTRL_en = 1 ∧
    (s.lawStart e l).fld (Reg.LAW_CTRL e l) Fld.LAW_CTRL_busy = 0 := by
  have hset := setf_inv (a := Reg.LAW_CTRL e l) (f := Fld.LAW_CTRL_en) (v := 1) h
  have hkeep : KeepsRegs (· = Reg.LAW_CTRL e l) ((s.setf (Reg.LAW_CTRL e l) Fld.LAW_CTRL_en 1).setf (Reg.LAW_CTRL e l) Fld.LAW_CTRL_busy 0) (s.lawStart e l) :=
    ((KeepsRegs.refl (setf_inv hset)).owned (fun g hg => by unfold Reg.PWM_STAT Reg.LAW_CTRL; omega)).modCe.modLaw
  rw [hkeep.fld rfl, hkeep.fld rfl]
  exact ⟨(fld_setf_field hset (by decide) (by decide)).trans (fld_setf_same h (by decide)), fld_setf_same hset (by decide)⟩

theorem ite_lt {c : Prop} [Decidable c] {a b n : Nat} (ha : a < n) (hb : b < n) : (if c then a else b) < n := by split <;> assumption

/-- A failed check has its number, and 14 is the last. -/
theorem staticCheck_lt : s.staticCheck e l < 16 := by
  unfold State.staticCheck
  iterate 14 refine ite_lt (by decide) ?_
  decide

/-- The end of the check of a law whose check finds `c`. -/
def State.checked (s : State) (e l c : Nat) : State :=
  let u := s.setf (Reg.LAW_STAT e l) Fld.LAW_STAT_err c
  if c = 0 then u.lawStart e l else u.setf (Reg.LAW_CTRL e l) Fld.LAW_CTRL_busy 0

theorem checked_effect {c : Nat} (h : s.Inv) (hc : c < 16) : (s.checked e l c).fld (Reg.LAW_STAT e l) Fld.LAW_STAT_err = c ∧
    (s.checked e l c).fld (Reg.LAW_CTRL e l) Fld.LAW_CTRL_busy = 0 ∧
    (s.checked e l c).fld (Reg.LAW_CTRL e l) Fld.LAW_CTRL_en = if c = 0 then 1 else s.fld (Reg.LAW_CTRL e l) Fld.LAW_CTRL_en := by
  have hset := setf_inv (a := Reg.LAW_STAT e l) (f := Fld.LAW_STAT_err) (v := c) h
  have hne : Reg.LAW_STAT e l ≠ Reg.LAW_CTRL e l := by unfold Reg.LAW_STAT Reg.LAW_CTRL; omega
  have herr : (s.setf (Reg.LAW_STAT e l) Fld.LAW_STAT_err c).fld (Reg.LAW_STAT e l) Fld.LAW_STAT_err = c :=
    (fld_setf_same h (by decide)).trans (Nat.mod_eq_of_lt hc)
  unfold State.checked
  dsimp only
  split
  · obtain ⟨hen, hbusy⟩ := lawStart_effect (e := e) (l := l) hset
    have hkeep := lawStart_regs (P := (· = Reg.LAW_STAT e l)) (e := e) (l := l) hset hne.symm (fun g hg => by unfold Reg.PWM_STAT Reg.LAW_STAT; omega)
    exact ⟨(hkeep.fld rfl _).trans herr, hbusy, hen⟩
  · exact ⟨(fld_setf_other hset hne).trans herr, fld_setf_same hset (by decide),
      (fld_setf_field hset (by decide) (by decide)).trans (fld_setf_other h hne.symm)⟩

/-! ## Outputs that are due (R134, R145, R146) -/

/-- The shadow that `setShadow` writes. -/
def shadowReg (g k : Nat) : Nat := if k = 0 then Reg.PWM_CMPA g else if k = 1 then Reg.PWM_CMPB g else Reg.PWM_PER g

theorem setShadow_eq {g k : Nat} {v : Word} : ∃ f, s.setShadow g k v = (s.modPg g f).wr (shadowReg g k) v := ⟨_, rfl⟩

/-- The write of an output, if its map names a shadow and it has a word. -/
def State.outputAt (s : State) (e l : Nat) (outs : List (Option Word)) (k : Nat) : State :=
  match s.omap e l k, outs.getD k none with
  | some (g, b), some v => s.setShadow g b v
  | _, _ => s

theorem writeOutputs_eq {outs : List (Option Word)} : s.writeOutputs e l outs =
    if s.lawTripped e l then s else (s.modLaw e l (fun w => { w with wroteAt := some s.dtb })).forN 8 (fun u k => u.outputAt e l outs k) := by
  unfold State.writeOutputs State.outputAt
  split <;> rfl

theorem shadowReg_generators {g k : Nat} (hg : g < 64) : 0x70100000 ≤ shadowReg g k ∧ shadowReg g k < 0x70110000 := by
  unfold shadowReg
  split
  · unfold Reg.PWM_CMPA; omega
  · split
    · unfold Reg.PWM_CMPB; omega
    · unfold Reg.PWM_PER; omega

/-- Of the shadows that a map can name, one only is the compare A shadow of a generator. -/
theorem shadowReg_ne {g g' k : Nat} (hne : (g', k) ≠ (g, 0)) : shadowReg g' k ≠ Reg.PWM_CMPA g := by
  unfold shadowReg
  split
  · next hk =>
    have hg : g' ≠ g := fun hg => hne (by rw [hg, hk])
    unfold Reg.PWM_CMPA; omega
  · split
    · unfold Reg.PWM_CMPB Reg.PWM_CMPA; omega
    · unfold Reg.PWM_PER Reg.PWM_CMPA; omega

theorem omap_lt {k g b : Nat} (h : s.omap e l k = some (g, b)) : g < 64 := by
  unfold State.omap at h
  dsimp only at h
  split at h
  · obtain ⟨rfl, -⟩ := Prod.mk.inj (Option.some.inj h)
    exact Nat.mod_lt _ (by decide)
  · exact absurd h (by simp)

/-- What the write of outputs keeps: its engines, its time and the registers of its engines. -/
structure State.Writing (s u : State) : Prop where
  ce : u.ce = s.ce
  dtb : u.dtb = s.dtb
  regs : KeepsRegs lawBlock s u

theorem State.Writing.omap (h : s.Writing t) (he : e < 12) (hl : l < 4) {k : Nat} (hk : k < 8) : t.omap e l k = s.omap e l k := by
  have hreg : lawBlock (Reg.LAW_OMAP e l k) := by unfold lawBlock Reg.LAW_OMAP; omega
  unfold State.omap
  dsimp only
  rw [h.regs.on hreg, h.regs.fld hreg, h.regs.fld hreg]

theorem State.Writing.setShadow {g k : Nat} {v : Word} (h : s.Writing t) (hg : g < 64) : s.Writing (t.setShadow g k v) := by
  obtain ⟨f, hf⟩ := setShadow_eq (s := t) (g := g) (k := k) (v := v)
  have hout := shadowReg_generators (k := k) hg
  rw [hf]
  exact ⟨h.ce, h.dtb, h.regs.modPg.wr (by unfold lawBlock; omega)⟩

/-- What the write of one output does. -/
theorem outputAt_induction {Q : State → Prop} {outs : List (Option Word)} {k : Nat}
    (hshadow : ∀ g b v, t.omap e l k = some (g, b) → outs.getD k none = some v → Q (t.setShadow g b v)) (h : Q t) : Q (t.outputAt e l outs k) := by
  unfold State.outputAt
  split
  · next g b v hmap hout => exact hshadow g b v hmap hout
  · exact h

theorem State.Writing.outputAt {outs : List (Option Word)} {k : Nat} (h : s.Writing t) : s.Writing (t.outputAt e l outs k) :=
  outputAt_induction (fun _ _ _ hmap _ => h.setShadow (omap_lt hmap)) h

theorem State.Writing.refl (h : s.Inv) : s.Writing s := ⟨rfl, rfl, .refl h⟩

/-- The outputs that are due change nothing of the engines. -/
theorem writeOutputs_writing {outs : List (Option Word)} (h : s.Inv) (he : e < 12) (hl : l < 4) :
    (s.writeOutputs e l outs).dtb = s.dtb ∧ ∃ x, (s.writeOutputs e l outs).lawAt e l = { s.lawAt e l with wroteAt := x } := by
  have hmod := modLaw_inv (e := e) (l := l) (f := fun w => { w with wroteAt := some s.dtb }) h
  rw [writeOutputs_eq]
  split
  · exact ⟨rfl, _, rfl⟩
  · obtain ⟨hce, hdtb, -⟩ := State.forN_induction (P := (s.modLaw e l (fun w => { w with wroteAt := some s.dtb })).Writing)
      (f := fun u k => u.outputAt e l outs k) (n := 8) (fun _ _ _ hu => hu.outputAt) (State.Writing.refl hmod)
    exact ⟨hdtb, _, (lawAt_congr hce e l).trans (lawAt_modLaw_same h he hl)⟩

/-- An output that is due reaches the shadow that its map alone names. -/
theorem writeOutputs_hit {outs : List (Option Word)} {g k : Nat} {v : Word} (h : s.Inv) (he : e < 12) (hl : l < 4) (hk : k < 8)
    (htrip : s.lawTripped e l = false) (hmap : s.omap e l k = some (g, 0)) (hout : outs.getD k none = some v)
    (honly : ∀ j, j < 8 → j ≠ k → s.omap e l j ≠ some (g, 0)) : (s.writeOutputs e l outs).rd (Reg.PWM_CMPA g) = v := by
  have hmod := modLaw_inv (e := e) (l := l) (f := fun w => { w with wroteAt := some s.dtb }) h
  rw [writeOutputs_eq, htrip, if_neg Bool.false_ne_true]
  generalize hm : s.modLaw e l (fun w => { w with wroteAt := some s.dtb }) = m at hmod
  have homap : ∀ j, m.omap e l j = s.omap e l j := fun j => by rw [← hm]; rfl
  have hother : ∀ u j, j < 8 → j ≠ k → m.Writing u ∧ u.rd (Reg.PWM_CMPA g) = v →
      m.Writing (u.outputAt e l outs j) ∧ (u.outputAt e l outs j).rd (Reg.PWM_CMPA g) = v := by
    intro u j hj hjk hu
    refine ⟨hu.1.outputAt, outputAt_induction (Q := fun u => u.rd (Reg.PWM_CMPA g) = v) (fun g' b w hmap' _ => ?_) hu.2⟩
    obtain ⟨f, hf⟩ := setShadow_eq (s := u) (g := g') (k := b) (v := w)
    rw [hu.1.omap he hl hj, homap] at hmap'
    rw [hf, rd_wr_other (modPg_inv hu.1.regs.1) (shadowReg_ne (fun heq => honly j hj hjk (hmap'.trans (congrArg some heq)))).symm]
    exact hu.2
  refine (State.forN_hit (f := fun u k => u.outputAt e l outs k) (A := m.Writing) (B := fun u => m.Writing u ∧ u.rd (Reg.PWM_CMPA g) = v)
    hk (fun _ _ _ _ hu => hu.outputAt) (fun u hu => ⟨hu.outputAt, ?_⟩) hother (State.Writing.refl hmod)).2
  obtain ⟨f, hf⟩ := setShadow_eq (s := u) (g := g) (k := 0) (v := v)
  unfold State.outputAt
  rw [hu.omap he hl hk, homap, hmap, hout]
  dsimp only
  rw [hf]
  exact rd_wr_same (modPg_inv hu.regs.1)

/-! ## A miss (R131, R145) -/

section
variable {cause c : Nat} {hold : Bool}

/-- What a miss leaves in the law. -/
structure State.Missed (s u : State) (e l c : Nat) : Prop where
  sec : (u.lawAt e l).sec = none
  used : (u.lawAt e l).used = true
  prevMissed : (u.lawAt e l).prevMissed = true
  prod : (u.lawAt e l).prod = (s.lawAt e l).prod
  fbDue : s.lawTripped e l = false → (u.lawAt e l).fbDue.map (·.1) = some (c + s.lawL e l)

theorem missed_missed (h : s.Inv) (he : e < 12) (hl : l < 4) : s.Missed (s.missed e l cause c hold) e l c := by
  have hlaw : (s.missed e l cause c hold).lawAt e l = { s.lawAt e l with sec := none }.missed (s.missDue e l c hold) := by
    rw [lawAt_congr ce_missed, lawAt_modLaw_same (endSection_inv h) he hl, lawAt_endSection h he hl]
  refine ⟨by rw [hlaw]; rfl, by rw [hlaw]; rfl, by rw [hlaw]; rfl, by rw [hlaw]; rfl, fun htrip => ?_⟩
  rw [hlaw]
  unfold LawSt.missed State.missDue
  rw [htrip, if_neg Bool.false_ne_true]
  rfl

theorem miss_missed (h : s.Inv) (he : e < 12) (hl : l < 4) : s.Missed (s.miss e l cause c hold) e l c := by
  have hmissed := missed_missed (cause := cause) (c := c) (hold := hold) h he hl
  have hinv := missed_inv (e := e) (l := l) (cause := cause) (t := c) (hold := hold) h
  rw [miss_eq]
  generalize s.missed e l cause c hold = u at hmissed hinv
  split
  · have hreined : (u.reinBack e l).lawAt e l = { u.lawAt e l with bankA := {}, bankB := {}, bounds := [], fbSet := noOutputs, staged := noOutputs, held := [], pred := List.replicate 8 0 } := by
      unfold State.reinBack
      rw [State.lawAt, State.setf_ceAt, ← State.lawAt, lawAt_modLaw_same hinv he hl]
    obtain ⟨hsec, hused, hprev, hprod, hdue⟩ := hmissed
    refine ⟨?_, ?_, ?_, ?_, ?_⟩ <;> rw [hreined] <;> assumption
  · exact hmissed

end

theorem lawTripped_keeps (hreg : KeepsRegs (· ≠ Reg.LAW_CNT_LATE e l) s t) (hl : l < 4) : t.lawTripped e l = s.lawTripped e l := by
  have hbase : ∀ {a}, a < 0x70300000 → t.rd a = s.rd a := fun ha => hreg.2 _ (by unfold Reg.LAW_CNT_LATE; omega)
  have htl6 : t.tl6 = s.tl6 := by
    funext g
    unfold State.tl6
    rw [hbase (by decide), hbase (by decide)]
  have hgens : t.lawGens e l = s.lawGens e l := by
    unfold State.lawGens
    refine congrArg (fun f => List.filterMap f (List.range 8)) (funext fun k => ?_)
    have hmap : t.omap e l k = s.omap e l k := by
      have hne : Reg.LAW_OMAP e l k ≠ Reg.LAW_CNT_LATE e l := by unfold Reg.LAW_OMAP Reg.LAW_CNT_LATE; omega
      unfold State.omap
      dsimp only
      rw [hreg.on hne, hreg.fld hne, hreg.fld hne]
    rw [hmap]
  unfold State.lawTripped
  rw [hreg.fld (by unfold Reg.LAW_TRIPM Reg.LAW_CNT_LATE; omega), hbase (by decide), hgens, htl6]

/-! ## The end of a production law's execution (log 111) -/

theorem modify_keeps {α β : Type} {xs : List α} {i j : Nat} {d : α} {f : α → α} {g : α → β} (hf : ∀ x, g (f x) = g x) :
    g ((xs.modify i f).getD j d) = g (xs.getD j d) := by
  simp only [List.getD_eq_getElem?_getD, List.getElem?_modify]
  cases xs[j]? with
  | none => rfl
  | some x =>
    by_cases hij : i = j
    · simp [hij, hf]
    · simp [hij]

theorem prod_modLaw {e' l' : Nat} {f : LawSt → LawSt} (hf : ∀ w, (f w).prod = w.prod := by intro; rfl) :
    ((s.modLaw e' l' f).lawAt e l).prod = (s.lawAt e l).prod :=
  modify_keeps (g := fun c : CeSt => (c.laws.getD l {}).prod) (fun _ => modify_keeps hf)

theorem foldl_law {α : Type} {f : State → α → State} (hf : ∀ u x, ((f u x).lawAt e l).prod = (u.lawAt e l).prod) :
    ∀ (xs : List α) (s : State), ((xs.foldl f s).lawAt e l).prod = (s.lawAt e l).prod
  | [], _ => rfl
  | x :: xs, s => (foldl_law hf xs (f s x)).trans (hf s x)

theorem prod_latchCapture {e' l' k : Nat} {c : Capture} : ((s.latchCapture e' l' k c).lawAt e l).prod = (s.lawAt e l).prod :=
  prod_modLaw (fun w => by split <;> rfl)

theorem prod_latchWrite {id q : Nat} {v : Word} {ovr : Bool} : ((s.latchWrite id v q ovr).lawAt e l).prod = (s.lawAt e l).prod := by
  unfold State.latchWrite
  refine (foldl_law (fun _ _ => ?_) _ _).trans (foldl_law (fun _ _ => ?_) _ _)
  · rfl
  · exact prod_latchCapture

theorem prod_putNat {i v : Nat} : ((s.putNat i v).lawAt e l).prod = (s.lawAt e l).prod := by
  unfold State.putNat State.putVal
  split
  · exact prod_latchWrite
  · rfl

/-- What the end of a production law's execution keeps on its way. -/
structure State.ProdAt (u : State) (e l d : Nat) : Prop where
  inv : u.Inv
  dtb : u.dtb = d
  prod : (u.lawAt e l).prod.isSome = true

theorem State.ProdAt.modLaw {d : Nat} {f : LawSt → LawSt} (h : s.ProdAt e l d) (he : e < 12) (hl : l < 4)
    (hf : ∀ w : LawSt, w.prod.isSome = true → (f w).prod.isSome = true := by intro _ hw; exact hw) : (s.modLaw e l f).ProdAt e l d :=
  ⟨modLaw_inv h.inv, h.dtb, by rw [lawAt_modLaw_same h.inv he hl]; exact hf _ h.prod⟩

theorem State.ProdAt.inc {a d : Nat} (h : s.ProdAt e l d) : (s.inc a).ProdAt e l d := ⟨inc_inv h.inv, h.dtb, h.prod⟩
theorem State.ProdAt.setf {a d v : Nat} {f : Field} (h : s.ProdAt e l d) : (s.setf a f v).ProdAt e l d := ⟨setf_inv h.inv, h.dtb, h.prod⟩

theorem State.ProdAt.endSection {d : Nat} (h : s.ProdAt e l d) (he : e < 12) (hl : l < 4) : (s.endSection e l).ProdAt e l d :=
  ⟨endSection_inv h.inv, h.dtb, by rw [lawAt_endSection h.inv he hl]; exact h.prod⟩

theorem State.ProdAt.putNat {d i v : Nat} (h : s.ProdAt e l d) : (s.putNat i v).ProdAt e l d :=
  ⟨putNat_inv h.inv, ((State.putNat_keeps (K := 532996) rfl (Keeps.refl _ s)).dtb rfl).trans h.dtb, by rw [prod_putNat]; exact h.prod⟩

theorem State.ProdAt.present {d sg t : Nat} {k : Nat → Access} (h : s.ProdAt e l d) (he : e < 12) : (s.present e sg t k).ProdAt e l d :=
  have hkeeps := State.present_keeps (K := 8832) (e := e) (sig := sg) (t := t) (k := k) rfl (Keeps.refl _ s)
  ⟨hkeeps.inv h.inv, (hkeeps.dtb rfl).trans h.dtb, by rw [lawAt_present h.inv he]; exact h.prod⟩

theorem State.ProdAt.miss {a cause c d : Nat} {hold : Bool} (h : s.ProdAt e l d) (he : e < 12) (hl : l < 4) :
    ((s.miss e l cause c hold).inc a).ProdAt e l d ∧ (((s.miss e l cause c hold).inc a).lawAt e l).sec = none := by
  obtain ⟨hsec, -, -, hprod, -⟩ := miss_missed (cause := cause) (c := c) (hold := hold) h.inv he hl
  exact ⟨⟨inc_inv (miss_inv h.inv), miss_dtb.trans h.dtb, (congrArg Option.isSome hprod).trans h.prod⟩, hsec⟩

/-- The signals that a production law's execution writes. -/
def State.prodWritten (u : State) (e l : Nat) (c : Section) (r : LawRun) : State :=
  let x := (u.modLaw e l (fun w => { w with prod := some r.mem, staged := r.outs })).each r.writes
    (fun s w => s.present e w.1 (s.dtb - 1) (fun _ => .lawWrite e l (Wi w.2.1) c.t w.2.2))
  match r.limit with
  | some (d, code) => x.putNat (dsig d 0x321) code
  | none => x

/-- A production law's execution counts as run and ends its section. -/
def State.prodCounted (u : State) (e l : Nat) : State :=
  let z := ((u.endSection e l).inc (Reg.LAW_CNT_RUN e l)).setLast e l 1
  let z := if z.lawAhead e l then z.inc (Reg.LAW_CNT_HITA e l) else z
  z.modLaw e l (fun w => { w with lastOut := w.staged, prevMissed := false })

theorem prodEnd_eq {c : Section} : s.prodEnd e l c =
    let rf := s.lawRun e l (fun k => Config.freeWord (s.draws + k))
    let u : State := { s with draws := s.draws + 4 }
    if u.lawAhead e l && u.lateSample e l then (u.miss e l 4 c.t false).inc (Reg.LAW_CNT_LSMP e l)
    else if u.lawAhead e l && !rf.2 then (u.miss e l 3 c.t false).inc (Reg.LAW_CNT_NOFIT e l)
    else ((u.prodWritten e l c rf.1).prodCounted e l).writeOutputs e l rf.1.outs := rfl

theorem State.ProdAt.written {c : Section} {r : LawRun} {d : Nat} (h : s.ProdAt e l d) (he : e < 12) (hl : l < 4) :
    (s.prodWritten e l c r).ProdAt e l d := by
  have hran : (s.modLaw e l (fun w => { w with prod := some r.mem, staged := r.outs })).ProdAt e l d := h.modLaw he hl (fun _ _ => rfl)
  have hx := State.each_induction (P := fun u => u.ProdAt e l d) (l := r.writes)
    (f := fun s w => s.present e w.1 (s.dtb - 1) (fun _ => .lawWrite e l (Wi w.2.1) c.t w.2.2)) (fun _ _ _ hv => hv.present he) hran
  unfold State.prodWritten
  dsimp only
  split
  · exact hx.putNat
  · exact hx

theorem State.ProdAt.counted {d : Nat} (h : s.ProdAt e l d) (he : e < 12) (hl : l < 4) :
    (s.prodCounted e l).ProdAt e l d ∧ ((s.prodCounted e l).lawAt e l).sec = none := by
  have hended : (((s.endSection e l).inc (Reg.LAW_CNT_RUN e l)).setLast e l 1).ProdAt e l d := ((h.endSection he hl).inc).setf
  have hsec : ((((s.endSection e l).inc (Reg.LAW_CNT_RUN e l)).setLast e l 1).lawAt e l).sec = none := by
    refine (congrArg LawSt.sec (lawAt_congr (s := s.endSection e l) rfl e l)).trans ?_
    rw [lawAt_endSection h.inv he hl]
  unfold State.prodCounted
  generalize ((s.endSection e l).inc (Reg.LAW_CNT_RUN e l)).setLast e l 1 = z at hended hsec
  dsimp only
  have hz : (if z.lawAhead e l then z.inc (Reg.LAW_CNT_HITA e l) else z).ProdAt e l d ∧
      ((if z.lawAhead e l then z.inc (Reg.LAW_CNT_HITA e l) else z).lawAt e l).sec = none := by
    split
    · exact ⟨hended.inc, hsec⟩
    · exact ⟨hended, hsec⟩
  refine ⟨hz.1.modLaw he hl, ?_⟩
  rw [lawAt_modLaw_same hz.1.inv he hl]
  exact hz.2

/-- A production law's execution ends with a miss or with its outputs, and its section is over. -/
theorem prodEnd_effect {c : Section} {d : Nat} (h : s.ProdAt e l d) (he : e < 12) (hl : l < 4) :
    (s.prodEnd e l c).dtb = d ∧ ((s.prodEnd e l c).lawAt e l).sec = none ∧ ((s.prodEnd e l c).lawAt e l).prod.isSome = true := by
  have hu : ({ s with draws := s.draws + 4 } : State).ProdAt e l d := ⟨{ h.inv with }, h.dtb, h.prod⟩
  rw [prodEnd_eq]
  generalize s.lawRun e l (fun k => Config.freeWord (s.draws + k)) = rf
  dsimp only
  generalize ({ s with draws := s.draws + 4 } : State) = u at hu
  split
  · obtain ⟨⟨-, hdtb, hprod⟩, hsec⟩ := hu.miss (a := Reg.LAW_CNT_LSMP e l) (cause := 4) (c := c.t) (hold := false) he hl
    exact ⟨hdtb, hsec, hprod⟩
  · split
    · obtain ⟨⟨-, hdtb, hprod⟩, hsec⟩ := hu.miss (a := Reg.LAW_CNT_NOFIT e l) (cause := 3) (c := c.t) (hold := false) he hl
      exact ⟨hdtb, hsec, hprod⟩
    · obtain ⟨hcounted, hsec⟩ := (hu.written (c := c) (r := rf.1) he hl).counted he hl
      obtain ⟨hdtb, wrote, hlaw⟩ := writeOutputs_writing (outs := rf.1.outs) hcounted.inv he hl
      rw [hdtb, hlaw]
      exact ⟨hcounted.dtb, hsec, hcounted.prod⟩

/-! ## LOOKAHEAD_START (R152, R157) -/

/-- The start of a lookahead section at frame cycle `f`: the predictions and the empty bounds on both banks. -/
def State.lookahead (s : State) (e l f : Nat) : State :=
  ((((s.modLaw e l (fun w => { w with lookDone := true })).predictAll e l).modCe e (fun c => { c with laws := c.laws.modify l (fun w => { w with
    bankA := c.bank, bankB := c.bank, bounds := [], fbSet := noOutputs }) })).setf (Reg.LAW_RSTAT e l) Fld.LAW_RSTAT_lah_valid 0).startSection
    e l true (s.fld (Reg.LAW_LAH e l) Fld.LAW_LAH_lentry) f .both

/-- Both banks of a law hold the committed registers (R157). -/
theorem lawAt_banked (h : s.Inv) (he : e < 12) (hl : l < 4) : (s.modCe e (fun c => { c with laws := c.laws.modify l (fun w => { w with
    bankA := c.bank, bankB := c.bank, bounds := [], fbSet := noOutputs }) })).lawAt e l =
    { s.lawAt e l with bankA := (s.ceAt e).bank, bankB := (s.ceAt e).bank, bounds := [], fbSet := noOutputs } := by
  unfold State.lawAt
  rw [ceAt_modCe_same h he]
  exact getD_modify_same _ _ _ _ (by rw [laws_length h he]; exact hl)

theorem startSection_law {pc t : Nat} {sel : BankSel} (h : s.Inv) (he : e < 12) (hl : l < 4) : (s.startSection e l true pc t sel).lawAt e l =
    { s.lawAt e l with sec := some { look := true, pc := pc, t := t, sched := { last := t + 1 }, sel := sel }, anyTag := false, held := [] } := by
  have hacc := modCe_inv (e := e) (f := fun c => { c with acc := List.replicate 4 0, n := false, z := false }) h
  refine (lawAt_congr (s := (s.modCe e (fun c => { c with acc := List.replicate 4 0, n := false, z := false })).modLaw e l (fun w => { w with
    sec := some { look := true, pc := pc, t := t, sched := { last := t + 1 }, sel := sel }, anyTag := false, staged := w.staged, held := [] })) rfl e l).trans ?_
  rw [lawAt_modLaw_same hacc he hl, lawAt_modCe h he]

theorem lookahead_effect {f : Nat} (h : s.Inv) (he : e < 12) (hl : l < 4) :
    ((s.lookahead e l f).lawAt e l).lookDone = true ∧ ((s.lookahead e l f).lawAt e l).bankA = (s.ceAt e).bank ∧
      ((s.lookahead e l f).lawAt e l).bankB = (s.ceAt e).bank ∧
      ((s.lookahead e l f).lawAt e l).sec.map (fun c => (c.look, c.pc, c.sel)) = some (true, s.fld (Reg.LAW_LAH e l) Fld.LAW_LAH_lentry, BankSel.both) ∧
      (s.lookahead e l f).fld (Reg.LAW_RSTAT e l) Fld.LAW_RSTAT_lah_run = 1 := by
  have hdone := modLaw_inv (e := e) (l := l) (f := fun w => { w with lookDone := true }) h
  have hpred : ((s.modLaw e l (fun w => { w with lookDone := true })).predictAll e l).Inv := modLaw_inv hdone
  obtain ⟨pred, hlaw⟩ : ∃ p, ((s.modLaw e l (fun w => { w with lookDone := true })).predictAll e l).lawAt e l =
      { s.lawAt e l with lookDone := true, pred := p } := ⟨_, by
    unfold State.predictAll
    rw [lawAt_modLaw_same hdone he hl, lawAt_modLaw_same h he hl]⟩
  have hbank : (((s.modLaw e l (fun w => { w with lookDone := true })).predictAll e l).ceAt e).bank = (s.ceAt e).bank := by
    unfold State.predictAll
    rw [ceAt_modLaw_same hdone he, ceAt_modLaw_same h he]
  unfold State.lookahead
  generalize (s.modLaw e l (fun w => { w with lookDone := true })).predictAll e l = u at hpred hlaw hbank
  have hbanked := lawAt_banked (l := l) hpred he hl
  have hbInv := modCe_inv (e := e) (f := fun c => { c with laws := c.laws.modify l (fun w => { w with
    bankA := c.bank, bankB := c.bank, bounds := [], fbSet := noOutputs }) }) hpred (fun c hc => (List.length_modify ..).trans hc)
  generalize u.modCe e (fun c => { c with laws := c.laws.modify l (fun w => { w with
    bankA := c.bank, bankB := c.bank, bounds := [], fbSet := noOutputs }) }) = b at hbanked hbInv
  have hvalid := setf_inv (a := Reg.LAW_RSTAT e l) (f := Fld.LAW_RSTAT_lah_valid) (v := 0) hbInv
  rw [startSection_law hvalid he hl, show (b.setf (Reg.LAW_RSTAT e l) Fld.LAW_RSTAT_lah_valid 0).lawAt e l = _ from (lawAt_congr rfl e l).trans hbanked, hlaw, hbank]
  exact ⟨rfl, rfl, rfl, rfl, fld_setf_same (setf_inv (modLaw_inv (modCe_inv hvalid))) (by decide)⟩

/-- Settles O25: the checks, the outputs, the misses and the coefficient memory of the laws (R119, R131-R149, R152-R175). -/
theorem lawCommands : Obligations.LawCommands := by
  unfold Obligations.LawCommands
  intro s e l h he hl
  have hunit : (decide (e < 12) && decide (l < 4)) = true := by simp [he, hl]
  refine ⟨?_, ?_, ?_, ?_, ?_, ?_, ?_, ?_, ?_, ?_, ?_, ?_, ?_, ?_, ?_⟩
  · intro core v hcore hon hratio hoff hidle
    have hok : (decide (core < 6) && decide (e < 12) && decide (l < 4)) = true := by simp [hcore, he, hl]
    refine runs_ofUnit (t := (s.unloadLaw e l).lawEnable e l v) ?_ hok ?_
    · exact congrArg (ofUnit _) (byCore_of_on hon hratio)
    · unfold State.unloadLaw
      rw [hoff, hidle, Bool.or_false, if_neg Bool.false_ne_true]
      exact lawEnable_effect (modLaw_inv h) hoff hidle
  · intro core v hcore hon hratio hlaw
    have hok : (decide (core < 6) && decide (e < 12) && decide (l < 4)) = true := by simp [hcore, he, hl]
    refine runs_ofUnit (t := s) ?_ hok rfl
    refine congrArg (ofUnit _) ((byCore_of_on hon hratio).trans ?_)
    unfold State.unloadLaw State.lawEnable
    rw [hlaw, Bool.true_or, if_pos rfl, hlaw, Bool.true_or, if_pos rfl]
  · intro hbusy hprod
    refine runs_ofUnit (t := s.checked e l (s.staticCheck e l)) ?_ hunit (checked_effect h staticCheck_lt)
    refine congrArg (ofUnit _) ((if_pos hbusy).trans ?_)
    rw [hprod]
    rfl
  · intro core hcore hon hratio hlaw
    have hok : (decide (core < 6) && decide (e < 12) && decide (l < 4)) = true := by simp [hcore, he, hl]
    refine runs_ofUnit (t := s.lawDisable e l) (congrArg (ofUnit _) (byCore_of_on hon hratio)) hok ?_
    obtain ⟨hoff, hsec, hout, hfb, hlast⟩ := lawDisable_disabled h he hl hlaw
    exact ⟨hoff, hsec, hout, hfb, hlast⟩
  · intro core hcore hon hratio
    have hok : (decide (core < 6) && decide (e < 12)) = true := by simp [hcore, he]
    refine runs_ofUnit (t := (s.engineStop e).setf (Reg.CE_CTRL e) Fld.CE_CTRL_en 0) (congrArg (ofUnit _) (byCore_of_on hon hratio)) hok ?_
    refine ⟨fld_setf_same (engineStop_inv h) (by decide), ?_⟩
    rw [← lawOn_engineStop h he hl]
    exact lawOn_of_rd (rd_setf_other (engineStop_inv h) (by unfold Reg.LAW_CTRL Reg.CE_CTRL; omega))
  · refine runs_ofUnit (t := ((s.engineStop e).setf (Reg.CE_STATUS e) Fld.CE_STATUS_ecc_fatal 1).each (s.engineStages e)
      (fun s st => s.report 3 (scopeOf lvStage st))) rfl (decide_eq_true he) ?_
    obtain ⟨hregs, hreports⟩ := each_report (cls := 3) (s.engineStages e) ((s.engineStop e).setf (Reg.CE_STATUS e) Fld.CE_STATUS_ecc_fatal 1)
    refine ⟨(fld_of_rd (rd_congr hregs _) _).trans (fld_setf_same (engineStop_inv h) (by decide)), ?_, hreports.trans ?_⟩
    · rw [← lawOn_engineStop h he hl]
      exact lawOn_of_rd ((rd_congr hregs _).trans (rd_setf_other (engineStop_inv h) (by unfold Reg.LAW_CTRL Reg.CE_STATUS; omega)))
    · have hmg : (s.engineStop e).mg = s.mg := (State.engineStop_keeps (K := 8706) rfl (Keeps.refl _ s)).mg rfl
      exact congrArg (fun m : MgSt => m.reports ++ (s.engineStages e).map (fun st => { cls := 3, scope := scopeOf lvStage st })) hmg
  · intro core i v hcore hi hon hratio
    have hok : (decide (core < 6) && decide (e < 12) && decide (i < 4096)) = true := by simp [hcore, he, hi]
    refine runs_ofUnit (t := s.modCe e (fun c => { c with coefQ := c.coefQ ++ [(i, v &&& 0xFFFF)] })) (congrArg (ofUnit _) (byCore_of_on hon hratio)) hok ?_
    rw [ceAt_modCe_same h he]
  · intro i v q hq hfree
    refine runs_ofUnit (t := (s.modCe e (fun c => { c with coefQ := q })).setCoef e i v) ?_ (decide_eq_true he) ⟨?_, coef_setCoef (modCe_inv h)⟩
    · refine congrArg (ofUnit _) ?_
      rw [hq]
      exact if_neg (by rw [hfree]; exact Bool.false_ne_true)
    · refine (congrArg CeSt.coefQ (ceAt_congr (s := s.modCe e (fun c => { c with coefQ := q })) rfl e)).trans ?_
      rw [ceAt_modCe_same h he]
  · intro d outs k g v hprod hdue htrip hk hmap hout honly hg
    have hmod := modLaw_inv (e := e) (l := l) (f := fun w => { w with outDue := none }) (reach_inv (t := d) h)
    obtain ⟨hdtb, wrote, hlaw⟩ := writeOutputs_writing (outs := outs) hmod he hl
    refine runs_ofUnit (t := ((s.reach d).modLaw e l (fun w => { w with outDue := none })).writeOutputs e l outs) ?_ hunit
      ⟨hdtb, writeOutputs_hit hmod he hl hk htrip hmap hout honly, ?_⟩
    · have hplain : s.prodSection e l = none := by
        unfold State.prodSection
        rw [hprod]
        rfl
      rw [exec_lawOutputWrite]
      unfold execLawOutputWrite
      rw [hplain, hdue]
    · rw [hlaw, lawAt_modLaw_same (reach_inv h) he hl]
  · intro d outs k g v hdue htrip hk hmap hout honly hg
    have hmod := modLaw_inv (e := e) (l := l) (f := fun w => { w with fbDue := none }) (reach_inv (t := d) h)
    obtain ⟨hdtb, wrote, hlaw⟩ := writeOutputs_writing (outs := outs) hmod he hl
    refine runs_ofUnit (t := ((s.reach d).modLaw e l (fun w => { w with fbDue := none })).writeOutputs e l outs) ?_ hunit
      ⟨hdtb, writeOutputs_hit hmod he hl hk htrip hmap hout honly, ?_⟩
    · rw [exec_lawFallbackWrite]
      unfold execLawFallbackWrite
      rw [hdue]
    · rw [hlaw, lawAt_modLaw_same (reach_inv h) he hl]
  · intro f hframe hon hused htrip
    have hlate : ((s.reach (f + s.lawDue e l)).inc (Reg.LAW_CNT_LATE e l)).Inv := inc_inv (reach_inv h)
    have hreg : KeepsRegs (· ≠ Reg.LAW_CNT_LATE e l) s ((s.reach (f + s.lawDue e l)).inc (Reg.LAW_CNT_LATE e l)) :=
      ((KeepsRegs.refl h).of_regs (State.reach_keeps (K := 1) rfl (Keeps.refl _ s)) rfl).inc (not_not.mpr rfl)
    refine runs_ofUnit (t := ((s.reach (f + s.lawDue e l)).inc (Reg.LAW_CNT_LATE e l)).miss e l 5 (f + s.lawDue e l)
      (s.lawAhead e l && !s.on (Reg.LAW_RSTAT e l) Fld.LAW_RSTAT_lah_valid)) ?_ hunit ?_
    · rw [exec_lawLateMiss]
      unfold execLawLateMiss
      dsimp only
      rw [hframe]
      dsimp only
      rw [hon, hused, Bool.not_false, Bool.and_true, if_pos rfl]
    · generalize hu : (s.reach (f + s.lawDue e l)).inc (Reg.LAW_CNT_LATE e l) = u at hlate hreg
      generalize (s.lawAhead e l && !s.on (Reg.LAW_RSTAT e l) Fld.LAW_RSTAT_lah_valid) = hold
      obtain ⟨-, hused', hprev, -, hdue⟩ := miss_missed (cause := 5) (c := f + s.lawDue e l) (hold := hold) hlate he hl
      have hL : u.lawL e l = s.lawL e l := hreg.fld (by unfold Reg.LAW_TIME Reg.LAW_CNT_LATE; omega) _
      refine ⟨?_, hused', hprev, ?_, (miss_holds hlate he hl (by decide)).2.2⟩
      · rw [miss_dtb, ← hu]
        rfl
      · rw [hdue ((lawTripped_keeps hreg hl).trans htrip), hL]
  · intro f hframe hon hahead hprod hdone hsec htrip hruns hnext
    have hreach := reach_inv (t := f + s.fld (Reg.LAW_LOPEN e l) Fld.LAW_LOPEN_lopen) h
    refine runs_ofUnit (t := (s.reach (f + s.fld (Reg.LAW_LOPEN e l) Fld.LAW_LOPEN_lopen)).lookahead e l (f + s.fld (Reg.LAW_LOPEN e l) Fld.LAW_LOPEN_lopen)) ?_ hunit
      ⟨rfl, lookahead_effect hreach he hl⟩
    have hprepares : (s.runsIn e l (if (s.windowOf e l).2 < s.fld (Reg.LAW_LOPEN e l) Fld.LAW_LOPEN_lopen
        then (s.rd (Reg.CE_FCNT e)).toNat - 1 + 1 else (s.rd (Reg.CE_FCNT e)).toNat - 1) &&
        (decide ((if (s.windowOf e l).2 < s.fld (Reg.LAW_LOPEN e l) Fld.LAW_LOPEN_lopen
          then (s.rd (Reg.CE_FCNT e)).toNat - 1 + 1 else (s.rd (Reg.CE_FCNT e)).toNat - 1) ≠ (s.rd (Reg.CE_FCNT e)).toNat - 1) ||
        decide ((s.lawAt e l).frame = some f))) = true := by
      split
      · next hlater =>
        rw [if_pos hlater, Nat.add_comm] at hruns
        rw [hruns, decide_eq_true (Nat.succ_ne_self _)]
        rfl
      · next hsame =>
        rw [if_neg hsame, Nat.zero_add] at hruns
        rw [hruns, decide_eq_true (hnext.resolve_left hsame), Bool.or_true]
        rfl
    rw [exec_lookaheadStart]
    unfold execLookaheadStart
    rw [hframe]
    dsimp only
    rw [hon, hahead, hdone, hsec, hprepares]
    refine congrArg (ofUnit _) ((if_pos rfl).trans ((if_neg ?_).trans (if_neg ?_)))
    · exact Bool.eq_false_iff.mp htrip
    · rw [lawAt_modLaw_same hreach he hl]
      exact Bool.eq_false_iff.mp (congrArg Option.isSome hprod)
  · refine runs_ofUnit (t := s.inc (Reg.CE_CNT_ECC e)) rfl (decide_eq_true he) ⟨rd_inc_same h, ?_⟩
    exact lawOn_of_rd (rd_inc_other h (by unfold Reg.LAW_CTRL Reg.CE_CNT_ECC; omega))
  · intro hbusy hprod
    obtain ⟨herr, hidle, hen⟩ := checked_effect (e := e) (l := l) (c := 0) h (by decide)
    refine runs_ofUnit (t := s.checked e l 0) ?_ hunit ⟨herr, lawBusy_of_fld hidle, lawOn_of_fld hen one_ne_zero⟩
    refine congrArg (ofUnit _) ((if_pos hbusy).trans ?_)
    rw [hprod]
    rfl
  · intro c hsec hprod
    refine runs_ofUnit (t := (s.reach (c.t + s.lawL e l)).prodEnd e l c) ?_ hunit (prodEnd_effect ⟨reach_inv h, rfl, hprod⟩ he hl)
    have hrunning : s.prodSection e l = some c := by
      unfold State.prodSection
      rw [hprod]
      exact hsec
    rw [exec_lawOutputWrite]
    unfold execLawOutputWrite
    rw [hrunning]

end Sys2Proof.Machine
end

section
/-! PROOFS. What the pulses of a generator leave unchanged: the timing of the others, and the main SRAM outside the recorder's ring
(R82, R180, R197). -/

namespace Sys2Proof.Machine

set_option Elab.async false

variable {s s0 t : State} {g : Nat}

/-! ## The frame -/

/-- The times that a generator counts by. -/
def PgSt.timing (p : PgSt) : Nat × Nat × Bool × Nat × Bool × Bool × Bool :=
  (p.next, p.per, p.cotFirst, p.cotLast, p.cotHeld, p.matchDone, p.centreDone)

/-- The settings that generator `g` counts by, and those of the recorder's ring. -/
def pulseRegs (g a : Nat) : Prop :=
  a = Reg.PWM_CTRL g ∨ a = Reg.PWM_ACTA g ∨ a = Reg.PWM_ACTB g ∨ a = Reg.PWM_COT g ∨ a = Reg.PWM_SYNC g ∨ a = Reg.PWM_CNT_FORCE g ∨
    a = Reg.PRC_BASE ∨ a = Reg.PRC_SIZE

/-- What pulses leave unchanged: the time, what generator `g` counts by, and the SRAM outside the recorder's ring. -/
structure State.Beside (g : Nat) (s0 s : State) : Prop where
  regs : KeepsRegs (pulseRegs g) s0 s
  dtb : s.dtb = s0.dtb
  timing : (s.pgAt g).timing = (s0.pgAt g).timing
  sram : ∀ x, (∀ k < s0.ringSize, s0.ringByte k ≠ x) → s.sramGet x = s0.sramGet x

theorem pulseRegs_generators {a : Nat} (hg : g < 65) (h : pulseRegs g a) :
    0x70100000 ≤ a ∧ a < 0x70110400 ∨ a = Reg.PRC_BASE ∨ a = Reg.PRC_SIZE := by
  unfold pulseRegs Reg.PWM_CTRL Reg.PWM_ACTA Reg.PWM_ACTB Reg.PWM_COT Reg.PWM_SYNC Reg.PWM_CNT_FORCE at h
  omega

/-- A register outside the generators and the recorder's ring settings. -/
theorem outside_pulseRegs {a : Nat} (hg : g < 65) (ha : a < 0x70100000 ∧ (a < 0x70680004 ∨ 0x7068000C ≤ a) ∨ 0x70110400 ≤ a ∧ (a < 0x70680004 ∨ 0x7068000C ≤ a)) : ¬pulseRegs g a := by
  intro h
  have hgen := pulseRegs_generators hg h
  unfold Reg.PRC_BASE Reg.PRC_SIZE at hgen
  omega

/-- A register of another generator. -/
theorem other_pulseRegs {a k : Nat} (hk : k ≠ g) (hk64 : k < 64) (hlo : 0x70100000 + 0x400 * k ≤ a) (hhi : a < 0x70100400 + 0x400 * k) : ¬pulseRegs g a := by
  unfold pulseRegs Reg.PWM_CTRL Reg.PWM_ACTA Reg.PWM_ACTB Reg.PWM_COT Reg.PWM_SYNC Reg.PWM_CNT_FORCE Reg.PRC_BASE Reg.PRC_SIZE
  omega

theorem State.Beside.refl (h : s.Inv) : s.Beside g s := ⟨.refl h, rfl, rfl, fun _ _ => rfl⟩

theorem State.Beside.inv (h : s0.Beside g s) : s.Inv := h.regs.1

theorem State.Beside.ring (h : s0.Beside g s) : s.ringSize = s0.ringSize ∧ s.ringByte = s0.ringByte := by
  have hsize : s.ringSize = s0.ringSize := by
    unfold State.ringSize
    rw [h.regs.fld (by unfold pulseRegs; simp)]
  refine ⟨hsize, funext fun k => ?_⟩
  unfold State.ringByte
  rw [hsize, h.regs.fld (by unfold pulseRegs; simp)]

theorem State.Beside.trans (h : s0.Beside g s) (h' : s.Beside g t) : s0.Beside g t := by
  obtain ⟨hsize, hbyte⟩ := h.ring
  refine ⟨h.regs.trans h'.regs, h'.dtb.trans h.dtb, h'.timing.trans h.timing, fun x hx => (h'.sram x ?_).trans (h.sram x hx)⟩
  rw [hsize, hbyte]
  exact hx

/-- An operation that leaves the time, the generators and the SRAM alone, and the registers of the frame. -/
theorem State.Beside.of_regs (h : s0.Beside g s) (hr : KeepsRegs (pulseRegs g) s t) {K : Nat} (hk : Keeps K s t)
    (hK : K.testBit 0 = false ∧ K.testBit 4 = false ∧ K.testBit 14 = false) : s0.Beside g t := by
  obtain ⟨hdtb, hsram, hpg⟩ := hK
  refine h.trans ⟨hr, hk.dtb hdtb, ?_, fun x _ => ?_⟩
  · unfold State.pgAt
    rw [hk.pg hpg]
  · unfold State.sramGet
    rw [hk.sram hsram]

/-- An operation that leaves the registers alone too. -/
theorem State.Beside.of (h : s0.Beside g s) {K : Nat} (hk : Keeps K s t)
    (hK : K.testBit 0 = false ∧ K.testBit 1 = false ∧ K.testBit 4 = false ∧ K.testBit 14 = false) : s0.Beside g t :=
  h.of_regs ((KeepsRegs.refl h.inv).of_regs hk hK.2.1) hk ⟨hK.1, hK.2.2.1, hK.2.2.2⟩

theorem State.Beside.wr {a : Nat} {v : Word} (h : s0.Beside g s) (ha : ¬pulseRegs g a) : s0.Beside g (s.wr a v) :=
  h.trans ⟨(KeepsRegs.refl h.inv).wr ha, rfl, rfl, fun _ _ => rfl⟩
theorem State.Beside.setf {a v : Nat} {f : Field} (h : s0.Beside g s) (ha : ¬pulseRegs g a) : s0.Beside g (s.setf a f v) := h.wr ha
theorem State.Beside.setb {a : Nat} {f : Field} {b : Bool} (h : s0.Beside g s) (ha : ¬pulseRegs g a) : s0.Beside g (s.setb a f b) := h.wr ha
theorem State.Beside.inc {a : Nat} (h : s0.Beside g s) (ha : ¬pulseRegs g a) : s0.Beside g (s.inc a) := h.wr ha

/-- An update of another generator. -/
theorem State.Beside.modPg_other {k : Nat} {f : PgSt → PgSt} (h : s0.Beside g s) (hk : k ≠ g) : s0.Beside g (s.modPg k f) :=
  h.trans ⟨(KeepsRegs.refl h.inv).modPg, rfl, by rw [pgAt_modPg_other hk.symm], fun _ _ => rfl⟩

/-- An update that leaves what a generator counts by. -/
theorem State.Beside.modPg_timing {k : Nat} {f : PgSt → PgSt} (h : s0.Beside g s) (hf : ∀ p : PgSt, (f p).timing = p.timing := by intro _; rfl) : s0.Beside g (s.modPg k f) := by
  refine h.trans ⟨(KeepsRegs.refl h.inv).modPg, rfl, ?_, fun _ _ => rfl⟩
  by_cases hkg : g = k
  · subst hkg
    by_cases hg : g < 40
    · rw [pgAt_modPg_same h.inv hg, hf]
    · unfold State.pgAt State.modPg
      dsimp only
      rw [List.modify_eq_self (by rw [h.inv.pg]; omega)]
  · rw [pgAt_modPg_other hkg]

theorem State.Beside.forN {n : Nat} {f : State → Nat → State} (h : s0.Beside g s) (hf : ∀ u k, k < n → s0.Beside g u → s0.Beside g (f u k)) :
    s0.Beside g (s.forN n f) := State.forN_induction (P := s0.Beside g) hf h

theorem State.Beside.each {α : Type} {l : List α} {f : State → α → State} (h : s0.Beside g s)
    (hf : ∀ u x, x ∈ l → s0.Beside g u → s0.Beside g (f u x)) : s0.Beside g (s.each l f) := State.each_induction (P := s0.Beside g) hf h

theorem State.Beside.ite {c : Prop} [Decidable c] (h : c → s0.Beside g s) (h' : ¬c → s0.Beside g t) : s0.Beside g (if c then s else t) := by
  split
  · exact h ‹_›
  · exact h' ‹_›

/-! ## The recorder (R80, R82) -/

/-- The recorder writes within its ring. -/
theorem State.Beside.recordWrite {k : Nat} {bs : List Byte} (h : s0.Beside g s) : s0.Beside g (s.recordWrite k bs) := by
  have hkeep : Keeps 16 s (s.recordWrite k bs) := State.sramWrite_keeps rfl (Keeps.refl _ s)
  refine h.trans ⟨(KeepsRegs.refl h.inv).of_regs hkeep rfl, hkeep.dtb rfl, by unfold State.pgAt; rw [hkeep.pg rfl], fun x hx => ?_⟩
  have hpos : 0 < s.ringSize := Nat.mul_pos (by decide) (Nat.two_pow_pos _)
  refine sramGet_sramWrite_other h.inv bs (fun j _ _ hj => hx ((s.paddock.recorder.start + j) % s.ringSize) (Nat.mod_lt _ hpos) ?_)
  rw [← hj]
  unfold State.ringByte
  rw [Nat.mod_mod]

theorem State.Beside.modPaddock {f : PaddockSt → PaddockSt} (h : s0.Beside g s) : s0.Beside g (s.modPaddock f) :=
  h.of (K := 512) (State.modPaddock_keeps rfl (Keeps.refl _ s)) ⟨rfl, rfl, rfl, rfl⟩

theorem State.Beside.recordAsk {k : Nat} (h : s0.Beside g s) : s0.Beside g (s.recordAsk k) :=
  h.of (K := 640) (State.recordAsk_keeps rfl (Keeps.refl _ s)) ⟨rfl, rfl, rfl, rfl⟩

theorem State.Beside.modCe {e : Nat} {f : CeSt → CeSt} (h : s0.Beside g s)
    (hf : ∀ c : CeSt, c.laws.length = 4 → (f c).laws.length = 4 := by intro _ hc; exact hc) : s0.Beside g (s.modCe e f) :=
  h.of (K := 8192) (State.modCe_keeps rfl (Keeps.refl _ s) hf) ⟨rfl, rfl, rfl, rfl⟩

theorem State.Beside.ttSync {kind k : Nat} (h : s0.Beside g s) : s0.Beside g (s.ttSync kind k) :=
  h.of (K := 4096) (State.ttSync_keeps rfl (Keeps.refl _ s)) ⟨rfl, rfl, rfl, rfl⟩

section
variable (hg : g < 65)
include hg

theorem State.Beside.recordEnd {late : Bool} (h : s0.Beside g s) : s0.Beside g (s.recordEnd late) := by
  have hstatus : ¬pulseRegs g Reg.PRC_STATUS := outside_pulseRegs hg (by decide)
  have hwrptr : ¬pulseRegs g Reg.PRC_WRPTR := outside_pulseRegs hg (by decide)
  unfold State.recordEnd
  exact State.Beside.ite (fun _ => ((h.recordWrite.setf hwrptr).modPaddock.setf hstatus).setf hstatus) (fun _ => (h.recordWrite.setf hwrptr).modPaddock)

theorem State.Beside.recordStart (h : s0.Beside g s) : s0.Beside g s.recordStart := by
  unfold State.recordStart
  have hseq : ¬pulseRegs g Reg.PRC_SEQ := outside_pulseRegs hg (by decide)
  exact State.Beside.ite (fun _ => (h.modPaddock.wr hseq).recordWrite.recordEnd hg) (fun _ => (h.modPaddock.wr hseq).recordWrite.recordAsk)

theorem State.Beside.recordBoundary (h : s0.Beside g s) : s0.Beside g s.recordBoundary := by
  unfold State.recordBoundary
  refine State.Beside.ite (fun _ => State.Beside.ite (fun _ => (h.recordEnd hg).recordStart hg) (fun _ => State.Beside.ite (fun _ => h.recordStart hg) (fun _ => ?_))) (fun _ => h)
  exact h.modPaddock

theorem State.Beside.recordCopy {k id : Nat} (h : s0.Beside g s) : s0.Beside g (s.recordCopy k id) := by
  unfold State.recordCopy
  exact State.Beside.ite (fun _ => h.recordWrite.modPaddock.recordAsk) (fun _ => h.recordWrite.modPaddock.recordEnd hg)

theorem State.Beside.recordAtLoad {k : Nat} (h : s0.Beside g s) : s0.Beside g (s.recordAtLoad k) := by
  unfold State.recordAtLoad
  exact State.Beside.ite (fun _ => h.recordBoundary hg) (fun _ => h)

theorem State.Beside.recordAtMs (h : s0.Beside g s) : s0.Beside g s.recordAtMs := by
  unfold State.recordAtMs
  exact State.Beside.ite (fun _ => h.recordBoundary hg) (fun _ => h)

/-! ## The events of a load point (R197, R198, R152) -/

theorem lawBlock_outside {a : Nat} (ha : lawBlock a) : ¬pulseRegs g a := by
  unfold lawBlock at ha
  have hgen := pulseRegs_generators hg (a := a)
  unfold Reg.PRC_BASE Reg.PRC_SIZE at hgen
  intro h
  have hgen := hgen h
  omega

theorem State.Beside.lawFrame {e f l : Nat} (he : e < 12) (hl : l < 4) (h : s0.Beside g s) : s0.Beside g (s.lawFrame e f l) := by
  have hL : ∀ a, lawBlock a → ¬pulseRegs g a := fun _ => lawBlock_outside hg
  have hrstat : ¬pulseRegs g (Reg.LAW_RSTAT e l) := hL _ (by unfold lawBlock Reg.LAW_RSTAT; omega)
  refine h.of_regs (K := 8194) ?_ (State.lawFrame_keeps rfl (Keeps.refl _ s)) ⟨rfl, rfl, rfl⟩
  have hr := KeepsRegs.refl (P := pulseRegs g) h.inv
  unfold State.lawFrame
  refine KeepsRegs.ite (fun _ => KeepsRegs.modLaw (KeepsRegs.ite (fun _ => ?_) (fun _ => hr))) (fun _ => hr)
  exact KeepsRegs.setf (KeepsRegs.modLaw (KeepsRegs.ite (fun _ => hr.endSection hL he hl) (fun _ => hr))) hrstat

theorem State.Beside.frameStart {e : Nat} (he : e < 12) (h : s0.Beside g s) : s0.Beside g (s.frameStart e) := by
  have hL : ∀ a, lawBlock a → ¬pulseRegs g a := fun _ => lawBlock_outside hg
  have hcount : ¬pulseRegs g (Reg.CE_CNT_FRAME e) := hL _ (by unfold lawBlock Reg.CE_CNT_FRAME; omega)
  have hstatus : ¬pulseRegs g (Reg.CE_STATUS e) := hL _ (by unfold lawBlock Reg.CE_STATUS; omega)
  have hframe : ¬pulseRegs g (Reg.CE_FCNT e) := hL _ (by unfold lawBlock Reg.CE_FCNT; omega)
  unfold State.frameStart
  refine State.Beside.ite (fun _ => ?_) (fun _ => h)
  refine State.Beside.modCe (State.Beside.wr (State.Beside.forN ?_ (fun _ _ hl hu => hu.lawFrame hg he hl)) hframe)
  exact State.Beside.ite (fun _ => (h.inc hcount).setf hstatus) (fun _ => h)

theorem State.Beside.frames {kind idx : Nat} (h : s0.Beside g s) : s0.Beside g (s.frames kind idx) :=
  h.forN (fun _ _ he hu => State.Beside.ite (fun _ => hu.frameStart hg he) (fun _ => hu))

theorem State.Beside.floatTake {k base : Nat} {w : Option (Nat × Nat)} {f : Field} (h : s0.Beside g s) : s0.Beside g (s.floatTake k base w f).1 := by
  have hfloat : ¬pulseRegs g Reg.ACT_FLOAT := outside_pulseRegs hg (by decide)
  unfold State.floatTake
  split
  · exact h
  · dsimp only
    split
    · exact h
    · split
      · exact h.setf hfloat
      · split
        · exact h.setf hfloat
        · exact h

theorem State.Beside.floatApply {k : Nat} (h : s0.Beside g s) : s0.Beside g (s.floatApply k) := by
  have hlegs : ∀ {base : Nat} {u : State}, s0.Beside g u → s0.Beside g (u.forN 6 (fun s k => s.lvUpdate (base + k))) := fun hu =>
    hu.forN (fun _ _ _ hv => hv.of (K := 524288) (State.lvUpdate_keeps rfl (Keeps.refl _ _)) ⟨rfl, rfl, rfl, rfl⟩)
  unfold State.floatApply
  refine State.Beside.ite (fun _ => ?_) (fun _ => State.Beside.ite (fun _ => ?_) (fun _ => h))
  · have htake := h.floatTake hg (k := k) (base := 24) (w := s.gate.floatSh) (f := Fld.ACT_FLOAT_sh)
    generalize s.floatTake k 24 s.gate.floatSh Fld.ACT_FLOAT_sh = taken at htake
    exact hlegs (State.Beside.ite (fun _ => htake.of (K := 524288) (State.modGate_keeps rfl (Keeps.refl _ _) (fun _ hq => hq)) ⟨rfl, rfl, rfl, rfl⟩) (fun _ => htake))
  · have htake := h.floatTake hg (k := k) (base := 27) (w := s.gate.floatOp) (f := Fld.ACT_FLOAT_op)
    generalize s.floatTake k 27 s.gate.floatOp Fld.ACT_FLOAT_op = taken at htake
    exact hlegs (State.Beside.ite (fun _ => htake.of (K := 524288) (State.modGate_keeps rfl (Keeps.refl _ _) (fun _ hq => hq)) ⟨rfl, rfl, rfl, rfl⟩) (fun _ => htake))

theorem State.Beside.gaitHandover {k : Nat} (h : s0.Beside g s) : s0.Beside g (s.gaitHandover k) := by
  have hlt : ∀ n ∈ hvOfGen k, n < 34 := fun n hn => List.mem_range.mp (List.mem_of_mem_filter hn)
  unfold State.gaitHandover
  exact State.Beside.ite (fun _ => h.each (fun _ n hn hu => hu.setf (outside_pulseRegs hg (by have := hlt n hn; unfold Reg.GCH_STAT; omega)))) (fun _ => h)

theorem State.Beside.resolverLock {k : Nat} (h : s0.Beside g s) : s0.Beside g (s.resolverLock k) :=
  h.forN (fun _ d hd hu => State.Beside.ite (fun _ => hu.setb (outside_pulseRegs hg (by unfold Reg.RES_STAT; omega))) (fun _ => hu))

theorem State.Beside.slotTrigger {u i : Nat} (hu : u < 16) (h : s0.Beside g s) : s0.Beside g (s.slotTrigger u i) := by
  have hcount : ¬pulseRegs g (Reg.ADC_CNT_OVRUN u) := outside_pulseRegs hg (by unfold Reg.ADC_CNT_OVRUN; omega)
  refine h.of_regs (K := 1154) ?_ (State.slotTrigger_keeps rfl (Keeps.refl _ s)) ⟨rfl, rfl, rfl⟩
  have hr := KeepsRegs.refl (P := pulseRegs g) h.inv
  unfold State.slotTrigger
  refine KeepsRegs.ite (fun _ => hr) (fun _ => KeepsRegs.ite (fun _ => hr.inc hcount) (fun _ => ?_))
  have hskew := hr.of_regs (K := 128) (State.adcSkew_keeps rfl (Keeps.refl _ s)) rfl
  exact hskew.of_regs (K := 1024) (State.modAu_keeps rfl (Keeps.refl _ _)) rfl

theorem State.Beside.adcEvent {kind idx : Nat} (h : s0.Beside g s) : s0.Beside g (s.adcEvent kind idx) :=
  h.forN (fun _ _ hi hu => hu.forN (fun _ _ _ hv => State.Beside.ite (fun _ => hv.slotTrigger hg hi) (fun _ => hv)))

end

/-! ## The edges of a generator (R184-R193, R217) -/

/-- Neither the status nor a counter of a generator is a setting that a generator counts by. -/
theorem status_pulseRegs {k : Nat} (hk : k < 64) : ¬pulseRegs g (Reg.PWM_STAT k) ∧ ¬pulseRegs g (Reg.PWM_CNT_DROP k) ∧ ¬pulseRegs g (Reg.PWM_CNT_STRETCH k) ∧
    ¬pulseRegs g (Reg.PWM_CNT_SYNC k) := by
  unfold pulseRegs Reg.PWM_CTRL Reg.PWM_ACTA Reg.PWM_ACTB Reg.PWM_COT Reg.PWM_SYNC Reg.PWM_CNT_FORCE Reg.PRC_BASE Reg.PRC_SIZE Reg.PWM_STAT Reg.PWM_CNT_DROP
    Reg.PWM_CNT_STRETCH Reg.PWM_CNT_SYNC
  omega

section
variable {k : Nat}

theorem State.Beside.hiOn {t : Nat} (h : s0.Beside g s) : s0.Beside g (s.hiOn k t) := h.modPg_timing (fun p => by split <;> rfl)
theorem State.Beside.hiOff {t : Nat} (h : s0.Beside g s) : s0.Beside g (s.hiOff k t) := h.modPg_timing (fun p => by split <;> rfl)
theorem State.Beside.loOff {t : Nat} (h : s0.Beside g s) : s0.Beside g (s.loOff k t) := h.modPg_timing (fun p => by split <;> rfl)
theorem State.Beside.setR {lvl : Bool} {t : Nat} (h : s0.Beside g s) : s0.Beside g (s.setR k lvl t) := h.modPg_timing

theorem State.Beside.commandEdge {lvl : Bool} {t : Nat} (h : s0.Beside g s) : s0.Beside g (s.commandEdge k lvl t) := by
  unfold State.commandEdge
  refine State.Beside.ite (fun _ => h) (fun _ => State.Beside.ite (fun _ => State.Beside.ite (fun _ => h.hiOn) (fun _ => h.hiOff)) (fun _ => State.Beside.ite (fun _ => ?_) (fun _ => ?_)))
  · exact h.loOff.modPg_timing (fun p => by split <;> rfl)
  · exact h.hiOff.modPg_timing (fun p => by split <;> rfl)

theorem State.Beside.cotFell {t : Nat} (h : s0.Beside g s) : s0.Beside g (s.cotFell k t) := by
  unfold State.cotFell
  exact State.Beside.ite (fun _ => h.modPg_timing) (fun _ => h)

theorem State.Beside.adoptMapping (h : s0.Beside g s) : s0.Beside g (s.adoptMapping k) := by
  unfold State.adoptMapping
  exact State.Beside.ite (fun _ => h.modPg_timing) (fun _ => h)

section
variable (hk : k < 64)
include hk

theorem State.Beside.refEdge {lvl : Bool} {t : Nat} {endT : Option Nat} (h : s0.Beside g s) : s0.Beside g (s.refEdge k lvl t endT) := by
  obtain ⟨-, hdrop, hstretch, -⟩ := status_pulseRegs (g := g) hk
  unfold State.refEdge
  refine State.Beside.ite (fun _ => h.setR) (fun _ => State.Beside.ite (fun _ => ?_) (fun _ => State.Beside.ite (fun _ => ?_) (fun _ => ?_)))
  · exact (h.modPg_timing).inc hdrop
  · exact ((h.commandEdge.setR).modPg_timing).inc hstretch
  · exact h.commandEdge.setR

theorem State.Beside.tripResume (h : s0.Beside g s) : s0.Beside g (s.tripResume k) := by
  obtain ⟨hstat, -, -, -⟩ := status_pulseRegs (g := g) hk
  have hset := h.setf (f := Fld.PWM_STAT_tstate) (v := 0) hstat
  unfold State.tripResume
  refine State.Beside.ite (fun _ => State.Beside.ite (fun _ => State.Beside.ite (fun _ => hset.hiOn) (fun _ => hset.hiOff))
    (fun _ => State.Beside.ite (fun _ => ?_) (fun _ => ?_))) (fun _ => h)
  · exact hset.loOff.modPg_timing (fun p => by split <;> rfl)
  · exact hset.hiOff.modPg_timing (fun p => by split <;> rfl)

end

end

/-- The rise of a COT generator after its start is counted (R205). -/
def State.cotRisen (s : State) (g : Nat) : State :=
  let a := (s.rd (Reg.PWM_ACTA g)).toNat
  let r := (s.pgAt g).r
  if a = 0 then (if r then (s.refEdge g false s.taps none).cotFell g s.taps else s)
  else if (s.pgAt g).per ≤ a / 64 then (if r then s else s.refEdge g true s.taps none)
  else
    let e := s.taps + a
    if r then s.modPg g (fun p => { p with cotFall := some e })
    else
    let s' := (s.modPg g (fun p => { p with cotFall := some e })).refEdge g true s.taps (some e)
    if (s'.pgAt g).r then
      s'.modPg g (fun p => { p with cotFall := some (p.stretch.getD e) })
    else s'.modPg g (fun p => { p with cotFall := none })

/-- A COT start is counted from the present. -/
def State.cotCounted (s : State) (g : Nat) : State := s.modPg g (fun p => { p with cotLast := s.dtb, cotHeld := false, cotFall := none, matchDone := false })

theorem cotRise_eq : s.cotRise g = (s.cotCounted g).cotRisen g := rfl

section
variable {k : Nat} (hk : k < 64)
include hk

theorem State.Beside.cotRisen (h : s0.Beside g s) : s0.Beside g (s.cotRisen k) := by
  unfold State.cotRisen
  refine State.Beside.ite (fun _ => State.Beside.ite (fun _ => (h.refEdge hk).cotFell) (fun _ => h))
    (fun _ => State.Beside.ite (fun _ => State.Beside.ite (fun _ => h) (fun _ => h.refEdge hk)) (fun _ => State.Beside.ite (fun _ => h.modPg_timing) (fun _ => ?_)))
  exact State.Beside.ite (fun _ => ((h.modPg_timing).refEdge hk).modPg_timing) (fun _ => ((h.modPg_timing).refEdge hk).modPg_timing)

end

/-! ## The period start of a generator (R180, R197) -/

/-- The period value in force and the next period start. -/
def State.periodLoaded (s : State) (g : Nat) : State :=
  let cot := s.gmode g = 2
  let per := (s.shadow g 2).toNat
  let s := s.modPg g (fun p => { p with per := per, centreDone := false, matchDone := false })
  s.modPg g (fun p => { p with next := if cot then p.next else s.dtb + s.genCycles g, doneTo := max p.doneTo s.taps })

/-- The events that follow a period start and the load of its compares. -/
def State.periodEvents (s : State) (g : Nat) : State := (((s.gaitHandover g).resolverLock g).adcEvent 1 g).ttSync 1 g

theorem periodStartOne_eq : s.periodStartOne g =
    let cot := s.gmode g = 2
    let u := s.periodLoaded g
    let v := if cot || u.loadsStart g then u.loadPoint g else u
    let w := (v.tripResume g).adoptMapping g
    (if cot then (w.cotCounted g).cotRisen g else w).periodEvents g := rfl

section
variable (hg : g < 65)
include hg

theorem State.Beside.loadEvents {k : Nat} (h : s0.Beside g s) : s0.Beside g (((s.frames 1 k).recordAtLoad k).floatApply k) :=
  ((h.frames hg).recordAtLoad hg).floatApply hg

theorem State.Beside.periodEvents {k : Nat} (h : s0.Beside g s) : s0.Beside g (s.periodEvents k) :=
  (((h.gaitHandover hg).resolverLock hg).adcEvent hg).ttSync

section
variable {k : Nat} (hk : k ≠ g) (hk64 : k < 64)
include hk hk64

theorem State.Beside.loadPoint (h : s0.Beside g s) : s0.Beside g (s.loadPoint k) := by
  have ha : ¬pulseRegs g (Reg.PWM_ACTA k) := other_pulseRegs hk hk64 (by unfold Reg.PWM_ACTA; omega) (by unfold Reg.PWM_ACTA; omega)
  have hb : ¬pulseRegs g (Reg.PWM_ACTB k) := other_pulseRegs hk hk64 (by unfold Reg.PWM_ACTB; omega) (by unfold Reg.PWM_ACTB; omega)
  exact State.Beside.loadEvents hg ((h.wr ha).wr hb)

theorem State.Beside.periodStartOne (h : s0.Beside g s) : s0.Beside g (s.periodStartOne k) := by
  have hloaded : s0.Beside g (s.periodLoaded k) := (h.modPg_other hk).modPg_other hk
  rw [periodStartOne_eq]
  refine State.Beside.periodEvents hg (State.Beside.ite (fun _ => ?_) (fun _ => ?_))
  · exact State.Beside.cotRisen hk64 (State.Beside.modPg_other (((State.Beside.ite (fun _ => hloaded.loadPoint hg hk hk64) (fun _ => hloaded)).tripResume hk64).adoptMapping) hk)
  · exact ((State.Beside.ite (fun _ => hloaded.loadPoint hg hk hk64) (fun _ => hloaded)).tripResume hk64).adoptMapping

omit hg in
theorem State.Beside.syncMove (h : s0.Beside g s) : s0.Beside g (s.syncMove k).1 := by
  obtain ⟨-, -, -, hcount⟩ := status_pulseRegs (g := g) hk64
  unfold State.syncMove
  dsimp only
  split
  · exact h
  · exact (h.inc hcount).modPg_other hk

end

/-- A generator that no other sets (R197). -/
def State.Unsynced (s : State) (g : Nat) : Prop := 40 ≤ g ∨ s.gmode g = 2 ∨ s.on (Reg.PWM_SYNC g) Fld.PWM_SYNC_en = false

omit hg in
theorem State.Beside.unsynced (h : s0.Beside g s) (hs : s0.Unsynced g) : s.Unsynced g := by
  have hmode : s.gmode g = s0.gmode g := h.regs.fld (.inl rfl) _
  have hsync : s.on (Reg.PWM_SYNC g) Fld.PWM_SYNC_en = s0.on (Reg.PWM_SYNC g) Fld.PWM_SYNC_en := h.regs.on (.inr (.inr (.inr (.inr (.inl rfl))))) _
  unfold State.Unsynced
  rw [hmode, hsync]
  exact hs

omit hg in
/-- What a period start sets is another generator that runs by it. -/
theorem synced_other {k j : Nat} (hs : s.Unsynced g) (hj : j ∈ s.synced k) : j ≠ g ∧ j < 64 := by
  obtain ⟨hrange, hcond⟩ := List.mem_filter.mp hj
  have hlt := List.mem_range.mp hrange
  simp only [Bool.and_eq_true, decide_eq_true_eq] at hcond
  obtain ⟨⟨⟨-, hmode⟩, hsync⟩, -⟩ := hcond
  refine ⟨?_, by omega⟩
  rintro rfl
  rcases hs with hbig | hcot | hoff
  · omega
  · exact hmode hcot
  · exact Bool.false_ne_true (hoff.symm.trans hsync)

/-- The period start of another generator, with those that it sets. -/
theorem State.Beside.periodStart (hs : s0.Unsynced g) : ∀ (n : Nat) {s : State} {k : Nat}, k ≠ g → k < 64 → s0.Beside g s → s0.Beside g (s.periodStart n k)
  | 0, _, _, hk, hk64, h => h.periodStartOne hg hk hk64
  | n + 1, s, k, hk, hk64, h => by
    have hone := h.periodStartOne hg hk hk64
    refine hone.each (fun u j hj hu => ?_)
    obtain ⟨hjg, hj64⟩ := synced_other (hone.unsynced hs) hj
    have hmove := hu.syncMove hjg hj64
    dsimp only
    split
    · exact State.Beside.periodStart hs n hjg hj64 hmove
    · exact hmove

/-- The start of another COT generator. -/
theorem State.Beside.cotStart {k : Nat} (hs : s0.Unsynced g) (hk : k ≠ g) (hk64 : k < 64) (h : s0.Beside g s) : s0.Beside g (s.cotStart k) := by
  obtain ⟨-, -, -, hcount⟩ := status_pulseRegs (g := g) hk64
  unfold State.cotStart
  exact State.Beside.ite (fun _ => State.Beside.ite (fun _ => h.periodStart hg hs 40 hk hk64) (fun _ => State.Beside.ite (fun _ => h.inc hcount) (fun _ => h.modPg_other hk))) (fun _ => h)

/-- The COT generators that a generator's compare A starts. -/
theorem State.Beside.cotFrom {k : Nat} (hs : s0.Unsynced g)
    (hself : g < 40 → s0.gmode g = 2 → s0.on (Reg.PWM_COT g) Fld.PWM_COT_src = true → s0.fld (Reg.PWM_COT g) Fld.PWM_COT_gen ≠ k) (h : s0.Beside g s) :
    s0.Beside g (s.cotFrom k) := by
  refine h.forN (fun u j hj hu => ?_)
  split
  · next hc =>
    simp only [Bool.and_eq_true, decide_eq_true_eq] at hc
    obtain ⟨⟨hmode, hsrc⟩, hgen⟩ := hc
    refine hu.cotStart hg hs ?_ (by omega)
    rintro rfl
    have hcot : pulseRegs j (Reg.PWM_COT j) := .inr (.inr (.inr (.inl rfl)))
    have hmode' : u.gmode j = s0.gmode j := hu.regs.fld (.inl rfl) _
    exact hself hj (hmode'.symm.trans hmode) ((hu.regs.on hcot _).symm.trans hsrc) ((hu.regs.fld hcot _).symm.trans hgen)
  · exact hu

end

end Sys2Proof.Machine
end

section
/-! PROOFS. The counter, the edges and the one-shots of a running generator (R180-R193, R205, R206). -/

namespace Sys2Proof.Machine

set_option Elab.async false

variable {s t : State} {g : Nat}

/-! ## The period of a generator (R180) -/

theorem genCycles_eq : s.genCycles g = (if s.updown g then 2 else 1) * ((s.pgAt g).per * s.presc g) := by
  unfold State.genCycles State.shapeNow Shape.len Shape.half
  dsimp only
  split
  · rw [← Nat.mul_assoc, Nat.mul_div_cancel _ (by decide)]
  · rw [Nat.mul_div_cancel _ (by decide), Nat.one_mul]

theorem presc_pos : 0 < s.presc g := Nat.two_pow_pos _

/-- The counter of a generator that counts up, or up and down. -/
theorem counterWord_eq (hmode : s.gmode g ≠ 2) : s.counterWord g =
    let k := (s.dtb + s.genCycles g - (s.pgAt g).next) % max 1 (s.genCycles g) / s.presc g
    if s.updown g then (if k < (s.pgAt g).per then W k else W (2 * (s.pgAt g).per - k + 0x10000)) else W k := by
  unfold State.counterWord
  rw [genCycles_eq]
  unfold State.updown
  dsimp only
  rw [if_neg hmode]
  by_cases hup : s.gmode g = 1
  · rw [if_pos hup, decide_eq_true hup, if_pos rfl, if_pos rfl]
  · rw [if_neg hup, decide_eq_false hup, if_neg Bool.false_ne_true, if_neg Bool.false_ne_true, Nat.one_mul]

/-! ## The period start of the generator itself (R180, R197) -/

/-- The period start that a generator performs and what it then sets leave what it counts by. -/
theorem periodStart_beside (hg : g < 40) {u : State} (hone : u.Beside g (s.periodStartOne g)) (hs : u.Unsynced g) : u.Beside g (s.periodStart 40 g) := by
  have hg65 : g < 65 := hg.trans (by decide)
  refine State.Beside.each (s := s.periodStartOne g) hone (fun v j hj hv => ?_)
  obtain ⟨hjg, hj64⟩ := synced_other (hone.unsynced hs) hj
  have hmove := hv.syncMove hjg hj64
  dsimp only
  split
  · exact hmove.periodStart hg65 hs 39 hjg hj64
  · exact hmove

theorem pgAt_periodLoaded (h : s.Inv) (hg : g < 40) : (s.periodLoaded g).pgAt g = { s.pgAt g with
    per := (s.shadow g 2).toNat, centreDone := false, matchDone := false, doneTo := max (s.pgAt g).doneTo s.taps
    next := if s.gmode g = 2 then (s.pgAt g).next else s.dtb + (if s.updown g then 2 else 1) * ((s.shadow g 2).toNat * s.presc g) } := by
  unfold State.periodLoaded
  dsimp only
  rw [pgAt_modPg_same (modPg_inv h) hg, genCycles_eq, pgAt_modPg_same h hg]
  rfl

theorem periodLoaded_inv (h : s.Inv) : (s.periodLoaded g).Inv := modPg_inv (modPg_inv h)
theorem loadCompares_inv (h : s.Inv) : (s.loadCompares g).Inv := wr_inv (wr_inv h)

/-- The settings of a generator but its active compares (R197). -/
def settingRegs (g a : Nat) : Prop := pulseRegs g a ∧ a ≠ Reg.PWM_ACTA g ∧ a ≠ Reg.PWM_ACTB g

theorem loadCompares_keeps (h : s.Inv) : KeepsRegs (settingRegs g) s (s.loadCompares g) :=
  ((KeepsRegs.refl h).wr (fun ha => ha.2.1 rfl)).wr (fun ha => ha.2.2 rfl)

/-- The active compares that a load point takes from the shadows. -/
theorem loadCompares_loads (h : s.Inv) : (s.loadCompares g).rd (Reg.PWM_ACTA g) = s.shadow g 0 ∧ (s.loadCompares g).rd (Reg.PWM_ACTB g) = s.shadow g 1 := by
  unfold State.loadCompares
  exact ⟨(rd_wr_other (wr_inv h) (by unfold Reg.PWM_ACTA Reg.PWM_ACTB; omega)).trans (rd_wr_same h), rd_wr_same (wr_inv h)⟩

theorem shadow_periodLoaded (h : s.Inv) (hg : g < 40) {k : Nat} : (s.periodLoaded g).shadow g k = s.shadow g k := by
  unfold State.shadow
  rw [pgAt_periodLoaded h hg]
  rfl

/-- The compares that the period start of a generator takes, if it takes them. -/
def State.comparesTaken (s : State) (g : Nat) : State := if s.gmode g = 2 ∨ s.loadsStart g = true then (s.periodLoaded g).loadCompares g else s.periodLoaded g

theorem comparesTaken_keeps (h : s.Inv) : KeepsRegs (settingRegs g) s (s.comparesTaken g) := by
  have hloaded : KeepsRegs (settingRegs g) s (s.periodLoaded g) := (KeepsRegs.refl h).modPg.modPg
  unfold State.comparesTaken
  split
  · exact hloaded.trans (loadCompares_keeps hloaded.1)
  · exact hloaded

theorem comparesTaken_parts : (s.comparesTaken g).dtb = s.dtb ∧ (s.comparesTaken g).pgAt g = (s.periodLoaded g).pgAt g := by
  unfold State.comparesTaken
  split
  · exact ⟨rfl, rfl⟩
  · exact ⟨rfl, rfl⟩

/-- What follows the compares at the period start of a generator that counts. -/
theorem periodStartOne_counting (h : s.Inv) (hg : g < 40) (hmode : s.gmode g ≠ 2) : (s.comparesTaken g).Beside g (s.periodStartOne g) := by
  have hg65 : g < 65 := hg.trans (by decide)
  have hloads : (s.periodLoaded g).loadsStart g = s.loadsStart g := rfl
  rw [periodStartOne_eq]
  dsimp only
  rw [hloads, decide_eq_false hmode, Bool.false_or, if_neg hmode]
  unfold State.comparesTaken
  by_cases hload : s.loadsStart g = true
  · rw [if_pos hload, if_pos (.inr hload)]
    have hrefl := State.Beside.refl (g := g) (loadCompares_inv (g := g) (periodLoaded_inv (g := g) h))
    exact State.Beside.periodEvents hg65 (((hrefl.loadEvents hg65).tripResume (hg.trans (by decide))).adoptMapping)
  · rw [if_neg hload, if_neg (fun hc => hc.elim hmode hload)]
    exact State.Beside.periodEvents hg65 (((State.Beside.refl (periodLoaded_inv h)).tripResume (hg.trans (by decide))).adoptMapping)

/-- A COT generator at a start, before its start is counted. -/
def State.cotLoaded (s : State) (g : Nat) : State := (((s.periodLoaded g).loadPoint g).tripResume g).adoptMapping g

theorem cotLoaded_beside (h : s.Inv) (hg : g < 40) : ((s.periodLoaded g).loadCompares g).Beside g (s.cotLoaded g) :=
  (((State.Beside.refl (g := g) (loadCompares_inv (g := g) (periodLoaded_inv (g := g) h))).loadEvents (hg.trans (by decide))).tripResume (hg.trans (by decide))).adoptMapping

theorem periodStartOne_cot (hg : g < 40) (hmode : s.gmode g = 2) (hinv : (s.cotLoaded g).Inv) : ((s.cotLoaded g).cotCounted g).Beside g (s.periodStartOne g) := by
  rw [periodStartOne_eq]
  dsimp only
  rw [decide_eq_true hmode, Bool.true_or, if_pos rfl, if_pos hmode]
  exact State.Beside.periodEvents (hg.trans (by decide)) ((State.Beside.refl (modPg_inv hinv)).cotRisen (hg.trans (by decide)))

theorem ctrl_setting : settingRegs g (Reg.PWM_CTRL g) :=
  ⟨.inl rfl, by unfold Reg.PWM_CTRL Reg.PWM_ACTA; omega, by unfold Reg.PWM_CTRL Reg.PWM_ACTB; omega⟩
theorem sync_setting : settingRegs g (Reg.PWM_SYNC g) :=
  ⟨.inr (.inr (.inr (.inr (.inl rfl)))), by unfold Reg.PWM_SYNC Reg.PWM_ACTA; omega, by unfold Reg.PWM_SYNC Reg.PWM_ACTB; omega⟩
theorem force_setting : settingRegs g (Reg.PWM_CNT_FORCE g) :=
  ⟨.inr (.inr (.inr (.inr (.inr (.inl rfl))))), by unfold Reg.PWM_CNT_FORCE Reg.PWM_ACTA; omega, by unfold Reg.PWM_CNT_FORCE Reg.PWM_ACTB; omega⟩

/-- The settings of the control word of a generator that pulses leave. -/
theorem State.Beside.ctrl (h : s.Beside g t) : t.gmode g = s.gmode g ∧ t.updown g = s.updown g ∧ t.presc g = s.presc g := by
  have hmode : t.gmode g = s.gmode g := h.regs.fld (.inl rfl) _
  refine ⟨hmode, ?_, ?_⟩
  · unfold State.updown
    rw [hmode]
  · unfold State.presc
    rw [h.regs.fld (.inl rfl)]

theorem setting_ctrl (h : KeepsRegs (settingRegs g) s t) : t.gmode g = s.gmode g ∧ t.updown g = s.updown g ∧ t.presc g = s.presc g := by
  have hmode : t.gmode g = s.gmode g := h.fld ctrl_setting _
  refine ⟨hmode, ?_, ?_⟩
  · unfold State.updown
    rw [hmode]
  · unfold State.presc
    rw [h.fld ctrl_setting]

/-- What the period start of a generator that counts leaves (R180, R197). -/
structure State.PeriodStarted (s t : State) (g : Nat) : Prop where
  dtb : t.dtb = s.dtb
  per : (t.pgAt g).per = (s.shadow g 2).toNat
  next : (t.pgAt g).next = t.dtb + (if s.updown g then 2 else 1) * ((t.pgAt g).per * s.presc g)
  zero : 0 < (t.pgAt g).per → t.counterWord g = 0
  loads : s.loadsStart g = true → t.rd (Reg.PWM_ACTA g) = s.shadow g 0 ∧ t.rd (Reg.PWM_ACTB g) = s.shadow g 1

theorem periodStarted (h : s.Inv) (hg : g < 40) (hmode : s.gmode g ≠ 2) (hsync : s.on (Reg.PWM_SYNC g) Fld.PWM_SYNC_en = false) :
    s.PeriodStarted (s.periodStart 40 g) g := by
  have hset := comparesTaken_keeps (g := g) h
  obtain ⟨hdtb, hpg⟩ := comparesTaken_parts (s := s) (g := g)
  have hend := periodStart_beside hg (periodStartOne_counting h hg hmode) (.inr (.inr ((hset.on sync_setting _).trans hsync)))
  have htiming := hend.timing
  rw [hpg, pgAt_periodLoaded h hg, if_neg hmode] at htiming
  simp only [PgSt.timing, Prod.mk.injEq] at htiming
  obtain ⟨hnext, hper, -, -, -, -, -⟩ := htiming
  obtain ⟨hmode', hup, hpresc⟩ := hend.ctrl
  obtain ⟨hmode0, hup0, hpresc0⟩ := setting_ctrl hset
  generalize s.periodStart 40 g = t at hend hnext hper hmode' hup hpresc
  have hdtb' : t.dtb = s.dtb := hend.dtb.trans hdtb
  have hnext' : (t.pgAt g).next = t.dtb + (if s.updown g then 2 else 1) * ((t.pgAt g).per * s.presc g) := by rw [hnext, hper, hdtb']
  refine ⟨hdtb', hper, hnext', fun hpos => ?_, fun hload => ?_⟩
  · have hcycles : t.genCycles g = (if s.updown g then 2 else 1) * ((t.pgAt g).per * s.presc g) := by rw [genCycles_eq, hup, hup0, hpresc, hpresc0]
    rw [counterWord_eq (by rw [hmode', hmode0]; exact hmode), hnext', hcycles, Nat.sub_self, Nat.zero_mod, Nat.zero_div]
    dsimp only
    rw [if_pos hpos]
    split <;> rfl
  · have hloaded := loadCompares_loads (g := g) (periodLoaded_inv (g := g) h)
    have hstate : s.comparesTaken g = (s.periodLoaded g).loadCompares g := if_pos (.inr hload)
    rw [hstate] at hend
    exact ⟨(hend.regs.2 _ (.inr (.inl rfl))).trans (hloaded.1.trans (shadow_periodLoaded h hg)), (hend.regs.2 _ (.inr (.inr (.inl rfl)))).trans (hloaded.2.trans (shadow_periodLoaded h hg))⟩

/-- What a COT start leaves (R202, R205): the period value in force and the time of the start. -/
structure State.CotStarted (s t : State) (g : Nat) : Prop where
  dtb : t.dtb = s.dtb
  per : (t.pgAt g).per = (s.shadow g 2).toNat
  first : (t.pgAt g).cotFirst = (s.pgAt g).cotFirst
  last : (t.pgAt g).cotLast = s.dtb
  held : (t.pgAt g).cotHeld = false
  force : t.rd (Reg.PWM_CNT_FORCE g) = s.rd (Reg.PWM_CNT_FORCE g)

theorem cotStarted (h : s.Inv) (hg : g < 40) (hmode : s.gmode g = 2) : s.CotStarted (s.periodStart 40 g) g := by
  have hloaded := cotLoaded_beside h hg
  have hsetting : KeepsRegs (settingRegs g) s ((s.periodLoaded g).loadCompares g) :=
    KeepsRegs.trans ⟨periodLoaded_inv h, fun _ _ => rfl⟩ (loadCompares_keeps (periodLoaded_inv h))
  have hcot : (s.cotLoaded g).gmode g = 2 := hloaded.ctrl.1.trans ((setting_ctrl hsetting).1.trans hmode)
  have hone := periodStartOne_cot hg hmode hloaded.inv
  have hend := periodStart_beside hg hone (.inr (.inl hcot))
  have htiming := hend.timing
  have hbefore := hloaded.timing
  unfold State.cotCounted at htiming
  rw [pgAt_modPg_same hloaded.inv hg] at htiming
  have hpg : ((s.periodLoaded g).loadCompares g).pgAt g = (s.periodLoaded g).pgAt g := rfl
  rw [hpg, pgAt_periodLoaded h hg] at hbefore
  simp only [PgSt.timing, Prod.mk.injEq] at htiming hbefore
  obtain ⟨-, hper, hfirst, hlast, hheld, -, -⟩ := htiming
  obtain ⟨-, hper', hfirst', -, -, -, -⟩ := hbefore
  refine ⟨hend.dtb.trans hloaded.dtb, hper.trans hper', hfirst.trans hfirst', hlast.trans hloaded.dtb, hheld, ?_⟩
  exact (hend.regs.2 _ force_setting.1).trans ((hloaded.regs.2 _ force_setting.1).trans (hsetting.2 _ force_setting))

/-! ## Edges (R188-R193) -/

theorem hiOff_inv (h : s.Inv) {c : Nat} : (s.hiOff g c).Inv := modPg_inv h
theorem loOff_inv (h : s.Inv) {c : Nat} : (s.loOff g c).Inv := modPg_inv h

/-- The level and the stretched pulse of a generator through a command of its switches. -/
theorem commandEdge_level (h : s.Inv) (hg : g < 40) {lvl : Bool} {c : Nat} :
    (s.commandEdge g lvl c).Inv ∧ ((s.commandEdge g lvl c).pgAt g).stretch = (s.pgAt g).stretch := by
  have hon : ((s.hiOn g c).pgAt g).stretch = (s.pgAt g).stretch := by
    unfold State.hiOn
    rw [pgAt_modPg_same h hg]
    split <;> rfl
  have hoff : ((s.hiOff g c).pgAt g).stretch = (s.pgAt g).stretch := by
    unfold State.hiOff
    rw [pgAt_modPg_same h hg]
    split <;> rfl
  have hlo : ((s.loOff g c).pgAt g).stretch = (s.pgAt g).stretch := by
    unfold State.loOff
    rw [pgAt_modPg_same h hg]
    split <;> rfl
  refine ⟨(State.commandEdge_keeps (K := 16384) rfl (Keeps.refl _ s)).inv h, ?_⟩
  unfold State.commandEdge
  split
  · rfl
  · split
    · split
      · exact hon
      · exact hoff
    · split
      · rw [pgAt_modPg_same (loOff_inv h) hg, ← hlo]
        split <;> rfl
      · rw [pgAt_modPg_same (hiOff_inv h) hg, ← hoff]
        split <;> rfl

/-- An edge whose pulse is not too short changes the level. -/
theorem refEdge_changes {lvl : Bool} {c : Nat} : s.refEdge g lvl c none = if s.safeHeld g then s.setR g lvl c else (s.commandEdge g lvl c).setR g lvl c := by
  unfold State.refEdge
  simp only [Option.any_none, Bool.and_false, Bool.false_and, Bool.false_eq_true, if_false]

theorem refEdge_level (h : s.Inv) (hg : g < 40) {lvl : Bool} {c : Nat} :
    (s.refEdge g lvl c none).Inv ∧ ((s.refEdge g lvl c none).pgAt g).r = lvl ∧ ((s.refEdge g lvl c none).pgAt g).stretch = (s.pgAt g).stretch := by
  obtain ⟨hinv, hstretch⟩ := commandEdge_level h hg (lvl := lvl) (c := c)
  rw [refEdge_changes]
  unfold State.setR
  split
  · rw [pgAt_modPg_same h hg]
    exact ⟨modPg_inv h, rfl, rfl⟩
  · rw [pgAt_modPg_same hinv hg]
    exact ⟨modPg_inv hinv, rfl, hstretch⟩

/-- The end of the on-time of a COT generator sets when it may start again, and no level. -/
theorem cotFell_switches (h : s.Inv) (hg : g < 40) {c : Nat} : ∃ d, (s.cotFell g c).pgAt g = { s.pgAt g with cotReady := d } := by
  unfold State.cotFell
  split
  · rw [pgAt_modPg_same h hg]
    exact ⟨_, rfl⟩
  · exact ⟨(s.pgAt g).cotReady, rfl⟩

/-- The switches of a pair at an edge of its reference (R188). -/
def PgSt.Switched (p q : PgSt) (c dt : Nat) : Prop :=
  if p.r then q.hi = false ∧ (p.lo = false → q.pendLo = some (c + dt)) else q.lo = false ∧ (p.hi = false → q.pendHi = some (c + dt))

theorem commandEdge_switched (h : s.Inv) (hg : g < 40) {c : Nat} (hheld : s.safeHeld g = false) (hsingle : s.single g = false) :
    (s.pgAt g).Switched ((s.commandEdge g (!(s.pgAt g).r) c).pgAt g) c (s.dt g) := by
  unfold State.commandEdge PgSt.Switched
  rw [hheld, hsingle, if_neg Bool.false_ne_true, if_neg Bool.false_ne_true]
  cases hr : (s.pgAt g).r with
  | true =>
    unfold State.hiOff
    rw [if_pos rfl, Bool.not_true, if_neg Bool.false_ne_true, pgAt_modPg_same (modPg_inv h) hg, pgAt_modPg_same h hg]
    cases hhi : (s.pgAt g).hi <;> cases hlo : (s.pgAt g).lo <;> simp [hlo, PgSt.sendHi]
  | false =>
    unfold State.loOff
    rw [if_neg Bool.false_ne_true, Bool.not_false, if_pos rfl, pgAt_modPg_same (modPg_inv h) hg, pgAt_modPg_same h hg]
    cases hlo : (s.pgAt g).lo <;> cases hhi : (s.pgAt g).hi <;> simp [hhi, PgSt.sendLo]

/-- The edge of the reference in a generator whose pulses are long enough: the level changes. -/
theorem courseEdge_changes {c : Nat} (hshort : s.gmode g = 2 ∨ s.pulseEnd g (!(s.pgAt g).r) c = none)
    (hlong : s.safeHeld g = true ∨ ∀ o, s.onSince g (s.pgAt g).r = some o → o + s.minp g ≤ c) :
    s.courseEdge g c = s.refEdge g (!(s.pgAt g).r) c none := by
  have hend : (if s.gmode g = 2 then none else s.pulseEnd g (!(s.pgAt g).r) c) = none := by
    split
    · rfl
    · next hne => exact hshort.resolve_left hne
  have hkeep : ¬((!s.safeHeld g && ((s.onSince g (s.pgAt g).r).map (fun o => o + s.minp g)).any (fun k => decide (c < k))) = true) := by
    rcases hlong with hheld | hlong
    · rw [hheld]
      exact Bool.false_ne_true
    · cases hon : s.onSince g (s.pgAt g).r with
      | none => simp
      | some o =>
        have := hlong o hon
        simp only [Option.map_some, Option.any_some, Bool.and_eq_true, decide_eq_true_eq, not_and]
        omega
  unfold State.courseEdge
  dsimp only
  rw [if_neg hkeep, hend]

/-- An edge under a held safe pattern changes the level alone (R215). -/
theorem courseEdge_held {c : Nat} (hheld : s.safeHeld g = true) : s.courseEdge g c = s.setR g (!(s.pgAt g).r) c := by
  unfold State.courseEdge State.refEdge
  dsimp only
  rw [hheld, Bool.not_true, Bool.false_and, if_neg Bool.false_ne_true, if_pos rfl]

/-- The outcome of a reference edge after the change of the level. -/
def State.edgeEnded (s : State) (g c : Nat) : State := if (s.pgAt g).r || (s.pgAt g).stretch.isSome then s else s.cotFell g c

theorem edgeEnded_switches (h : s.Inv) (hg : g < 40) {c : Nat} : (s.edgeEnded g c).dtb = s.dtb ∧ ∃ d, (s.edgeEnded g c).pgAt g = { s.pgAt g with cotReady := d } := by
  unfold State.edgeEnded
  split
  · exact ⟨rfl, (s.pgAt g).cotReady, rfl⟩
  · exact ⟨(State.cotFell_keeps (K := 16384) rfl (Keeps.refl _ s)).dtb rfl, cotFell_switches h hg⟩

theorem refEdge_dtb {lvl : Bool} {c : Nat} {endT : Option Nat} : (s.refEdge g lvl c endT).dtb = s.dtb :=
  (State.refEdge_keeps (K := 16386) rfl (Keeps.refl _ s)).dtb rfl

/-- What a pulse lasts does not depend on a stretched pulse before it. -/
theorem pulseEnd_unstretched (h : s.Inv) (hg : g < 40) {lvl : Bool} {c : Nat} :
    (s.modPg g (fun p => { p with stretch := none })).pulseEnd g lvl c = s.pulseEnd g lvl c := by
  unfold State.pulseEnd State.shapeNext State.shapeNow State.fromStart State.segEnd State.absolute State.shapeNow
  rw [pgAt_modPg_same h hg]
  rfl

/-- REFERENCE_EDGE takes place at the next edge, when no pulse is stretched. -/
theorem referenceEdge_runs {c : Nat} {Q : State → Prop} (hg : g < 40) (hrun : s.running g = true) (hstretch : (s.pgAt g).stretch = none)
    (hedge : s.nextEdge g = some c) (hQ : Q (((s.reach (c / 64)).courseEdge g c).edgeEnded g c)) : Runs (.referenceEdge g) s Q := by
  refine runs_ofUnit (t := ((s.reach (c / 64)).courseEdge g c).edgeEnded g c) ?_ (decide_eq_true hg) hQ
  rw [exec_referenceEdge]
  unfold execReferenceEdge
  refine congrArg (ofUnit _) ((if_neg ?_).trans ?_)
  · rw [hrun, hstretch]
    exact Bool.false_ne_true
  · rw [hedge]
    rfl

/-- A stretched pulse ends with the edge that was held back (R192, R193). -/
def State.stretchEnded (s : State) (g c : Nat) : State :=
  let s := (s.reach (c / 64)).modPg g (fun p => { p with stretch := none })
  let cur := (s.pgAt g).r
  let s := s.refEdge g (!cur) c (if s.gmode g = 2 then none else s.pulseEnd g (!cur) c)
  if cur then s.cotFell g c else s

theorem stretchEnded_level {c : Nat} (h : s.Inv) (hg : g < 40) (hshort : s.gmode g = 2 ∨ s.pulseEnd g (!(s.pgAt g).r) c = none) :
    (s.stretchEnded g c).dtb = max s.dtb (c / 64) ∧ ((s.stretchEnded g c).pgAt g).r = (!(s.pgAt g).r) ∧ ((s.stretchEnded g c).pgAt g).stretch = none := by
  have hreach := reach_inv (t := c / 64) h
  have hended := modPg_inv (g := g) (f := fun p => { p with stretch := none }) hreach
  have hpg := pgAt_modPg_same (f := fun p => { p with stretch := none }) hreach hg
  have hend : (if s.gmode g = 2 then none else ((s.reach (c / 64)).modPg g (fun p => { p with stretch := none })).pulseEnd g (!(s.pgAt g).r) c) = none := by
    split
    · rfl
    · next hne => exact (pulseEnd_unstretched hreach hg).trans (hshort.resolve_left hne)
  obtain ⟨hinv, hr, hstretch⟩ := refEdge_level hended hg (lvl := !(s.pgAt g).r) (c := c)
  have hdtb : (((s.reach (c / 64)).modPg g (fun p => { p with stretch := none })).refEdge g (!(s.pgAt g).r) c none).dtb = max s.dtb (c / 64) := refEdge_dtb
  rw [hpg] at hstretch
  have hcur : (((s.reach (c / 64)).modPg g (fun p => { p with stretch := none })).pgAt g).r = (s.pgAt g).r := by rw [hpg]; rfl
  have hcot : ((s.reach (c / 64)).modPg g (fun p => { p with stretch := none })).gmode g = s.gmode g := rfl
  unfold State.stretchEnded
  dsimp only
  rw [hcur, hcot, hend]
  generalize ((s.reach (c / 64)).modPg g (fun p => { p with stretch := none })).refEdge g (!(s.pgAt g).r) c none = u at hinv hr hstretch hdtb
  split
  · obtain ⟨d, hfell⟩ := cotFell_switches hinv hg (c := c)
    rw [hfell]
    exact ⟨((State.cotFell_keeps (K := 16384) rfl (Keeps.refl _ u)).dtb rfl).trans hdtb, hr, hstretch⟩
  · exact ⟨hdtb, hr, hstretch⟩

/-! ## GENERATOR_CENTRE and COMPARE_A_MATCH (R180, R187) -/

/-- The centre of a period, with the compares that it loads. -/
def State.centred (s : State) (g : Nat) : State :=
  let s := s.modPg g (fun p => { p with centreDone := true, doneTo := max p.doneTo s.taps })
  if s.loadsCentre g then s.loadCompares g else s

def State.centreEvents (s : State) (g : Nat) : State :=
  let s := s.modPg g (fun p => { p with centreDone := true, doneTo := max p.doneTo s.taps })
  let s := if s.loadsCentre g then s.loadPoint g else s
  (s.adcEvent 2 g).ttSync 2 g

theorem centred_keeps (h : s.Inv) : KeepsRegs (settingRegs g) s (s.centred g) := by
  have hdone : KeepsRegs (settingRegs g) s (s.modPg g (fun p => { p with centreDone := true, doneTo := max p.doneTo s.taps })) := (KeepsRegs.refl h).modPg
  unfold State.centred
  dsimp only
  split
  · exact hdone.trans (loadCompares_keeps hdone.1)
  · exact hdone

theorem centred_parts (h : s.Inv) (hg : g < 40) : (s.centred g).dtb = s.dtb ∧ (s.centred g).pgAt g = { s.pgAt g with centreDone := true, doneTo := max (s.pgAt g).doneTo s.taps } := by
  have hpg := pgAt_modPg_same (f := fun p => { p with centreDone := true, doneTo := max p.doneTo s.taps }) h hg
  unfold State.centred
  dsimp only
  split
  · exact ⟨rfl, hpg⟩
  · exact ⟨rfl, hpg⟩

theorem centreEvents_beside (h : s.Inv) (hg : g < 40) : (s.centred g).Beside g (s.centreEvents g) := by
  have hg65 : g < 65 := hg.trans (by decide)
  have hdone : (s.modPg g (fun p => { p with centreDone := true, doneTo := max p.doneTo s.taps })).Inv := modPg_inv h
  unfold State.centreEvents State.centred
  generalize s.modPg g (fun p => { p with centreDone := true, doneTo := max p.doneTo s.taps }) = u at hdone
  dsimp only
  by_cases hload : u.loadsCentre g = true
  · rw [if_pos hload, if_pos hload]
    exact (State.Beside.adcEvent hg65 ((State.Beside.refl (loadCompares_inv hdone)).loadEvents hg65)).ttSync
  · rw [if_neg hload, if_neg hload]
    exact ((State.Beside.refl hdone).adcEvent hg65).ttSync

/-- At the centre a generator that counts up and down reads its period value, on the way down. -/
theorem counterWord_centre (hup : t.updown g = true) (hpos : 0 < (t.pgAt g).per) (hnext : t.dtb + (t.pgAt g).per * t.presc g = (t.pgAt g).next) :
    t.counterWord g = W ((t.pgAt g).per + 0x10000) := by
  have hmode : t.gmode g ≠ 2 := by
    have hone : t.gmode g = 1 := of_decide_eq_true hup
    omega
  have hn : 0 < (t.pgAt g).per * t.presc g := Nat.mul_pos hpos presc_pos
  have hk : (t.dtb + t.genCycles g - (t.pgAt g).next) % max 1 (t.genCycles g) / t.presc g = (t.pgAt g).per := by
    rw [genCycles_eq, hup, if_pos rfl]
    generalize hp : (t.pgAt g).per * t.presc g = n at hn hnext
    rw [show t.dtb + 2 * n - (t.pgAt g).next = n by omega, show max 1 (2 * n) = 2 * n by omega, Nat.mod_eq_of_lt (by omega), ← hp, Nat.mul_div_cancel _ presc_pos]
  rw [counterWord_eq hmode, hk, hup, if_pos rfl, if_neg (lt_irrefl _)]
  congr 1
  omega

/-- The events of a compare A match (R187). -/
def State.compareEvents (s : State) (g : Nat) : State := ((s.adcEvent 3 g).ttSync 3 g).cotFrom g

theorem compareEvents_dtb : (s.compareEvents g).dtb = s.dtb :=
  (State.cotFrom_keeps (K := 554642) rfl (State.ttSync_keeps (K := 554642) rfl (State.adcEvent_keeps (K := 554642) rfl (Keeps.refl _ s)))).dtb rfl

theorem compareEvents_beside (h : s.Inv) (hg : g < 40) (hs : s.Unsynced g)
    (hself : s.gmode g = 2 → s.on (Reg.PWM_COT g) Fld.PWM_COT_src = true → s.fld (Reg.PWM_COT g) Fld.PWM_COT_gen ≠ g) : s.Beside g (s.compareEvents g) :=
  have hg65 : g < 65 := hg.trans (by decide)
  ((State.Beside.refl h).adcEvent hg65).ttSync.cotFrom hg65 hs (fun _ => hself)

/-! ## COT starts (R205, R206) -/

theorem cotStartEvent_starts (hsource : s.on (Reg.PWM_COT g) Fld.PWM_COT_src = true ∨ (18 ≤ g ∧ g < 22)) :
    exec (.cotStartEvent g) s = ofUnit (g < 40) (s.cotStart g) := by
  refine congrArg (ofUnit _) (if_pos ?_)
  rcases hsource with hsrc | ⟨hlo, hhi⟩
  · rw [hsrc, Bool.true_or]
  · rw [decide_eq_true hlo, decide_eq_true hhi, Bool.and_true, Bool.or_true]

theorem cotStart_running (hrun : s.running g = true) (hcot : s.gmode g = 2) : s.cotStart g =
    if !(s.pgAt g).r && (s.pgAt g).cotReady ≤ s.dtb && !(s.pgAt g).cotHeld && (s.pgAt g).stretch.isNone then s.periodStart 40 g
    else if (s.pgAt g).cotHeld then s.inc (Reg.PWM_CNT_SYNC g)
    else s.modPg g (fun p => { p with cotHeld := true }) := by
  unfold State.cotStart
  rw [hrun, decide_eq_true hcot]
  rfl

/-- Settles O26: the counter, the edges and the one-shots of a running generator (R180-R193, R205, R206). -/
theorem pwmCounters : Obligations.PwmCounters := by
  unfold Obligations.PwmCounters
  intro s g h hg hrun
  have hg65 : g < 65 := hg.trans (by decide)
  have hunit : decide (g < 40) = true := decide_eq_true hg
  refine ⟨?_, ?_, ?_, ?_, ?_, ?_, ?_, ?_, ?_, ?_, ?_, ?_, ?_, ?_, ?_⟩
  · intro hmode hsync
    obtain ⟨hdtb, hper, hnext, hzero, hloads⟩ := periodStarted (s := s.reach (s.pgAt g).next) (reach_inv h) hg hmode hsync
    refine runs_ofUnit (t := (s.reach (s.pgAt g).next).periodStart 40 g) ?_ hunit ⟨hdtb, hper, hnext, hzero, hloads⟩
    refine congrArg (ofUnit _) (if_pos ?_)
    rw [hrun, decide_eq_true hmode]
    rfl
  · intro hup hcentre
    have hreach := reach_inv (t := (s.pgAt g).next - s.genCycles g / 2) h
    have hbeside := centreEvents_beside hreach hg
    obtain ⟨hdtb, hpg⟩ := centred_parts hreach hg
    have hset := centred_keeps (g := g) hreach
    refine runs_ofUnit (t := (s.reach ((s.pgAt g).next - s.genCycles g / 2)).centreEvents g) ?_ hunit ?_
    · refine congrArg (ofUnit _) (if_pos ?_)
      rw [hrun, hup, hcentre]
      rfl
    · have htiming := hbeside.timing
      rw [hpg] at htiming
      simp only [PgSt.timing, Prod.mk.injEq] at htiming
      obtain ⟨hnext, hper, -, -, -, -, hdone⟩ := htiming
      refine ⟨hbeside.dtb.trans hdtb, hdone, fun hpos hbefore hfits => ?_⟩
      have hup' : ((s.reach ((s.pgAt g).next - s.genCycles g / 2)).centreEvents g).updown g = true := hbeside.ctrl.2.1.trans ((setting_ctrl hset).2.1.trans hup)
      have hpresc : ((s.reach ((s.pgAt g).next - s.genCycles g / 2)).centreEvents g).presc g = s.presc g := hbeside.ctrl.2.2.trans (setting_ctrl hset).2.2
      have hper' : (((s.reach ((s.pgAt g).next - s.genCycles g / 2)).centreEvents g).pgAt g).per = (s.pgAt g).per := hper
      rw [counterWord_centre hup' (by rw [hper']; exact hpos) ?_, hper']
      have hhalf : s.genCycles g / 2 = (s.pgAt g).per * s.presc g := by rw [genCycles_eq, hup, if_pos rfl, Nat.mul_div_cancel_left _ (by decide)]
      have hnow : ((s.reach ((s.pgAt g).next - s.genCycles g / 2)).centreEvents g).dtb = (s.pgAt g).next - s.genCycles g / 2 :=
        (hbeside.dtb.trans hdtb).trans (max_eq_right hbefore)
      rw [hnow, hper', hpresc, ← hhalf, Nat.sub_add_cancel hfits]
      exact hnext.symm
  · intro hmode hdone hcompare hsync hcentre
    have hdoneInv := modPg_inv (g := g) (f := fun p => { p with matchDone := true }) (reach_inv (t := (s.pgAt g).next + (s.rd (Reg.PWM_ACTA g)).toNat / 64 * s.presc g - s.genCycles g) h)
    refine runs_ofUnit (t := ((s.reach ((s.pgAt g).next + (s.rd (Reg.PWM_ACTA g)).toNat / 64 * s.presc g - s.genCycles g)).modPg g
      (fun p => { p with matchDone := true })).compareEvents g) ?_ hunit ⟨compareEvents_dtb, ?_⟩
    · refine congrArg (ofUnit _) ((if_neg ?_).trans ((if_neg hmode).trans (if_neg ?_)))
      · rw [hrun, hdone]
        exact Bool.false_ne_true
      · rw [decide_eq_false (Nat.not_le.mpr hcompare), Bool.false_or]
        cases hup : s.updown g with
        | false => exact Bool.false_ne_true
        | true =>
          rw [hcentre hup]
          exact Bool.false_ne_true
    · have htiming := (compareEvents_beside hdoneInv hg (.inr (.inr hsync)) (fun hcot => absurd hcot hmode)).timing
      rw [pgAt_modPg_same (reach_inv h) hg] at htiming
      simp only [PgSt.timing, Prod.mk.injEq] at htiming
      exact htiming.2.2.2.2.2.1
  · intro c hmode hdone hfall
    have hdoneInv := modPg_inv (g := g) (f := fun p => { p with matchDone := true }) (reach_inv (t := c / 64) h)
    refine runs_ofUnit (t := ((s.reach (c / 64)).modPg g (fun p => { p with matchDone := true })).compareEvents g) ?_ hunit ⟨compareEvents_dtb, fun hself => ?_⟩
    · rw [exec_compareAMatch]
      unfold execCompareAMatch
      refine congrArg (ofUnit _) ((if_neg ?_).trans ((if_pos hmode).trans ?_))
      · rw [hrun, hdone]
        exact Bool.false_ne_true
      · rw [hfall]
        rfl
    · have htiming := (compareEvents_beside hdoneInv hg (.inr (.inl hmode)) (fun _ => hself)).timing
      rw [pgAt_modPg_same (reach_inv h) hg] at htiming
      simp only [PgSt.timing, Prod.mk.injEq] at htiming
      exact htiming.2.2.2.2.2.1
  · intro c hstretch hedge hheld hsingle hshort hlong
    obtain ⟨hsafe, hreach⟩ : (s.reach (c / 64)).safeHeld g = false ∧ (s.reach (c / 64)).Inv := ⟨hheld, reach_inv h⟩
    have hcourse := courseEdge_changes (s := s.reach (c / 64)) (g := g) (c := c) hshort (.inr hlong)
    rw [refEdge_changes, hsafe, if_neg Bool.false_ne_true] at hcourse
    have hswitched := commandEdge_switched hreach hg (c := c) hsafe hsingle
    have hcommand := (commandEdge_level hreach hg (lvl := !(s.pgAt g).r) (c := c)).1
    have hdtb : ((s.reach (c / 64)).commandEdge g (!(s.pgAt g).r) c).dtb = max s.dtb (c / 64) := (State.commandEdge_keeps (K := 16384) rfl (Keeps.refl _ _)).dtb rfl
    have hset := modPg_inv (g := g) (f := fun p => { p with r := !(s.pgAt g).r, doneTo := c }) hcommand
    have hpg : (((s.reach (c / 64)).courseEdge g c).pgAt g) =
        { ((s.reach (c / 64)).commandEdge g (!(s.pgAt g).r) c).pgAt g with r := !(s.pgAt g).r, doneTo := c } := by
      rw [hcourse]
      exact pgAt_modPg_same hcommand hg
    have hinv : ((s.reach (c / 64)).courseEdge g c).Inv := by rw [hcourse]; exact hset
    obtain ⟨hdtb', d, hended⟩ := edgeEnded_switches hinv hg (c := c)
    refine referenceEdge_runs hg hrun hstretch hedge ⟨hdtb'.trans ?_, ?_, ?_⟩
    · rw [hcourse]
      exact hdtb
    · rw [hended, hpg]
    · rw [hended, hpg]
      exact hswitched
  · intro c hstretch hedge hheld
    have hreach := reach_inv (t := c / 64) h
    have hcourse : (s.reach (c / 64)).courseEdge g c = (s.reach (c / 64)).setR g (!(s.pgAt g).r) c := courseEdge_held hheld
    have hpg : ((s.reach (c / 64)).courseEdge g c).pgAt g = { s.pgAt g with r := !(s.pgAt g).r, doneTo := c } := by
      rw [hcourse]
      exact pgAt_modPg_same hreach hg
    have hinv : ((s.reach (c / 64)).courseEdge g c).Inv := by rw [hcourse]; exact modPg_inv hreach
    obtain ⟨-, d, hended⟩ := edgeEnded_switches hinv hg (c := c)
    refine referenceEdge_runs hg hrun hstretch hedge ?_
    rw [hended, hpg]
    exact ⟨rfl, rfl, rfl⟩
  · intro c hhi hlo
    refine runs_ofUnit (t := (s.reach (c / 64)).hiOn g c) ?_ hunit ?_
    · rw [exec_deadTimeEnd]
      unfold execDeadTimeEnd
      dsimp only
      rw [hhi, hlo]
      rfl
    · unfold State.hiOn
      rw [pgAt_modPg_same (reach_inv h) hg]
      refine ⟨rfl, ?_⟩
      have hlo' : ((s.reach (c / 64)).pgAt g).lo = false := hlo
      split
      · next hon => exact ⟨hon, hlo'⟩
      · exact ⟨rfl, hlo'⟩
  · intro c hnone hpend hhi
    refine runs_ofUnit (t := (s.reach (c / 64)).loOn g c) ?_ hunit ?_
    · rw [exec_deadTimeEnd]
      unfold execDeadTimeEnd
      dsimp only
      rw [hnone, hpend, hhi]
      rfl
    · unfold State.loOn
      rw [pgAt_modPg_same (reach_inv h) hg]
      refine ⟨rfl, ?_⟩
      have hhi' : ((s.reach (c / 64)).pgAt g).hi = false := hhi
      split
      · next hon => exact ⟨hon, hhi'⟩
      · exact ⟨rfl, hhi'⟩
  · intro c hstretch hshort
    refine runs_ofUnit (t := s.stretchEnded g c) ?_ hunit (stretchEnded_level h hg hshort)
    rw [exec_stretchTurnOff]
    unfold execStretchTurnOff
    rw [hstretch]
    rfl
  · intro hcot hsource hlow hready hheld hstretch
    obtain ⟨-, hper, -, hlast, -, -⟩ := cotStarted h hg hcot
    refine runs_ofUnit (t := s.periodStart 40 g) ?_ hunit ⟨hlast, hper⟩
    refine (cotStartEvent_starts hsource).trans (congrArg (ofUnit _) ((cotStart_running hrun hcot).trans (if_pos ?_)))
    rw [hlow, decide_eq_true hready, hheld, hstretch]
    rfl
  · intro hcot hsource hhigh hheld
    refine runs_ofUnit (t := s.modPg g (fun p => { p with cotHeld := true })) ?_ hunit ⟨?_, rfl⟩
    · refine (cotStartEvent_starts hsource).trans (congrArg (ofUnit _) ((cotStart_running hrun hcot).trans ((if_neg ?_).trans (if_neg ?_))))
      · rw [hhigh]
        exact Bool.false_ne_true
      · rw [hheld]
        exact Bool.false_ne_true
    · rw [pgAt_modPg_same h hg]
  · intro hcot hsource hheld
    refine runs_ofUnit (t := s.inc (Reg.PWM_CNT_SYNC g)) ?_ hunit rfl
    refine (cotStartEvent_starts hsource).trans (congrArg (ofUnit _) ((cotStart_running hrun hcot).trans ((if_neg ?_).trans (if_pos hheld))))
    rw [hheld, Bool.not_true, Bool.and_false, Bool.false_and]
    exact Bool.false_ne_true
  · intro hcot hheld hlow hstretch
    obtain ⟨hdtb, -, -, hlast, hheld', -⟩ := cotStarted (reach_inv (t := (s.pgAt g).cotReady) h) hg hcot
    refine runs_ofUnit (t := (s.reach (s.pgAt g).cotReady).periodStart 40 g) ?_ hunit ⟨hdtb, hlast.trans hdtb.symm, hheld'⟩
    refine congrArg (ofUnit _) (if_pos ?_)
    rw [hrun, decide_eq_true hcot, hheld, hlow, hstretch]
    rfl
  · intro d hcot hheld hd
    have hreach := reach_inv (t := (s.pgAt g).cotLast + (s.pgAt g).per) h
    have hcounted := inc_inv (a := Reg.PWM_CNT_FORCE g) hreach
    have hforce : ((s.reach ((s.pgAt g).cotLast + (s.pgAt g).per)).inc (Reg.PWM_CNT_FORCE g)).rd (Reg.PWM_CNT_FORCE g) =
        W (min ((s.rd (Reg.PWM_CNT_FORCE g)).toNat + 1) 0xFFFFFFFF) := rd_inc_same hreach
    have hcot' : ((s.reach ((s.pgAt g).cotLast + (s.pgAt g).per)).inc (Reg.PWM_CNT_FORCE g)).gmode g = 2 := by
      rw [← hcot]
      exact fld_of_rd (rd_inc_other hreach (by unfold Reg.PWM_CTRL Reg.PWM_CNT_FORCE; omega)) _
    have hdtb : ((s.reach ((s.pgAt g).cotLast + (s.pgAt g).per)).inc (Reg.PWM_CNT_FORCE g)).dtb = d := hd.symm
    have hpg : ((s.reach ((s.pgAt g).cotLast + (s.pgAt g).per)).inc (Reg.PWM_CNT_FORCE g)).pgAt g = s.pgAt g := rfl
    have hstep : ∀ t : State, (if (((s.pgAt g).cotFall.isSome && (s.pgAt g).r) || (s.pgAt g).stretch.isSome || (!(s.pgAt g).r && decide (d < (s.pgAt g).cotReady))) = true
          then ((s.reach ((s.pgAt g).cotLast + (s.pgAt g).per)).inc (Reg.PWM_CNT_FORCE g)).modPg g (fun p => { p with cotHeld := true })
          else ((s.reach ((s.pgAt g).cotLast + (s.pgAt g).per)).inc (Reg.PWM_CNT_FORCE g)).periodStart 40 g) = t →
        exec (.cotForcedStart g) s = ofUnit (g < 40) t := by
      intro t ht
      refine congrArg (ofUnit _) ((if_pos ?_).trans ?_)
      · rw [hrun, decide_eq_true hcot, hheld]
        rfl
      · rw [← ht, ← hdtb]
        rfl
    generalize (s.reach ((s.pgAt g).cotLast + (s.pgAt g).per)).inc (Reg.PWM_CNT_FORCE g) = u at hcounted hforce hcot' hdtb hpg hstep
    cases hearly : ((s.pgAt g).cotFall.isSome && (s.pgAt g).r) || (s.pgAt g).stretch.isSome || (!(s.pgAt g).r && decide (d < (s.pgAt g).cotReady)) with
    | true =>
      refine runs_ofUnit (hstep _ (if_pos hearly)) hunit ⟨hdtb, hforce, ?_⟩
      rw [if_pos rfl, pgAt_modPg_same hcounted hg, hpg]
      exact ⟨rfl, rfl⟩
    | false =>
      obtain ⟨hdtb', -, -, hlast, hheld', hforce'⟩ := cotStarted hcounted hg hcot'
      refine runs_ofUnit (hstep _ (if_neg (Bool.eq_false_iff.mp hearly))) hunit ⟨hdtb'.trans hdtb, hforce'.trans hforce, ?_⟩
      rw [if_neg Bool.false_ne_true]
      exact ⟨hheld', hlast.trans hdtb⟩
  · intro hcot hfirst
    have hreach := reach_inv (t := (s.pgAt g).cotLast) h
    have hpg := pgAt_modPg_same (f := fun p => { p with cotFirst := false }) hreach hg
    obtain ⟨hdtb, hper, hfirst', hlast, -, -⟩ := cotStarted (modPg_inv (g := g) (f := fun p => { p with cotFirst := false }) hreach) hg hcot
    rw [hpg] at hfirst'
    refine runs_ofUnit (t := ((s.reach (s.pgAt g).cotLast).modPg g (fun p => { p with cotFirst := false })).periodStart 40 g) ?_ hunit
      ⟨hdtb, hper.trans ?_, hfirst', hlast.trans hdtb.symm⟩
    · refine congrArg (ofUnit _) ((if_neg ?_).trans (if_pos ?_))
      · rw [hcot]
        simp
      · rw [hrun, hfirst]
        rfl
    · unfold State.shadow
      rw [hpg]
      rfl

end Sys2Proof.Machine
end

section
/-! PROOFS. The bytes of main SRAM and of the NVM that a command leaves unchanged (R80, R82, R434, R496, R499). -/

namespace Sys2Proof.Machine

set_option Elab.async false

variable {s s0 t : State}

/-! ## Code NVM -/

/-- Dropping entries of a sparse memory leaves what it holds at an address that is not dropped. -/
theorem sparseGet_filter {α : Type} [DecidableEq α] {d : Nat → α} {p : Nat × α → Bool} {k : Nat} (hp : ∀ v, p (k, v) = true) :
    ∀ m : List (Nat × α), SparseOk d m → sparseGet d (m.filter p) k = sparseGet d m k
  | [], _ => rfl
  | (k', v) :: m, h => by
    obtain ⟨hsorted, hvals⟩ := h
    rw [List.pairwise_cons] at hsorted
    have hm : SparseOk d m := ⟨hsorted.2, fun q hq => hvals q (List.mem_cons_of_mem _ hq)⟩
    have ih := sparseGet_filter hp m hm
    rw [List.filter_cons]
    by_cases hk : k' = k
    · subst hk
      rw [if_pos (hp v)]
      simp [sparseGet]
    · by_cases hlt : k < k'
      · have hbelow : ∀ q ∈ (k', v) :: m, k < q.1 := by
          intro q hq
          rcases List.mem_cons.mp hq with rfl | hq
          · exact hlt
          · exact hlt.trans (hsorted.1 q hq)
        rw [sparseGet_below _ k hbelow]
        split
        · refine sparseGet_below _ k (fun q hq => hbelow q ?_)
          rcases List.mem_cons.mp hq with rfl | hq
          · exact List.mem_cons_self
          · exact List.mem_cons_of_mem _ (List.mem_of_mem_filter hq)
        · exact sparseGet_below _ k (fun q hq => hbelow q (List.mem_cons_of_mem _ (List.mem_of_mem_filter hq)))
      · split
        · simp only [sparseGet, if_neg hk, if_neg hlt, ih]
        · simp only [sparseGet, if_neg hk, if_neg hlt, ih]

theorem codeSet_inv (h : s.Inv) {a : Nat} {v : Byte} : (s.codeSet a v).Inv := (State.codeSet_keeps (K := 64) rfl (Keeps.refl _ s)).inv h

/-- A write of bytes of code NVM leaves every other byte. -/
theorem codeGet_codeWrite_other (h : s.Inv) {a x : Nat} (bs : List Byte) (hx : x < a ∨ a + bs.length ≤ x) : (s.codeWrite a bs).codeGet x = s.codeGet x := by
  induction bs generalizing s a with
  | nil => rfl
  | cons b bs ih =>
    rw [List.length_cons] at hx
    unfold State.codeWrite
    rw [ih (codeSet_inv h) (by omega)]
    exact sparseGet_set_other _ _ _ _ ((sparseWf_iff _).mp h.codeNvm) (by omega)

/-- The erasure of a bank leaves the other. -/
theorem codeGet_eraseBank_other (h : s.Inv) {b x : Nat} (hb : b < 2) (hx : codeBank x ≠ b) : (s.eraseBank b).codeGet x = s.codeGet x := by
  refine sparseGet_filter (fun v => ?_) _ ((sparseWf_iff _).mp h.codeNvm)
  unfold codeBank at hx
  simp only [Bool.not_eq_true', Bool.and_eq_false_iff, decide_eq_false_iff_not, not_le, not_lt]
  omega

/-! ## What an NVM operation leaves unchanged -/

/-- A byte of code NVM that the operation under way, if it is one on code NVM, leaves alone. -/
def State.CodeFree (s : State) (x : Nat) : Prop :=
  ∀ j, s.boot.nvmJobs.head? = some j → j.code = true → ¬ (j.erase = true ∧ codeBank x = codeBank j.at_) ∧ (x < j.at_ ∨ j.at_ + j.data.length ≤ x)

/-- A byte of data NVM that neither the operation under way nor a boot record writes. -/
def State.DataFree (s : State) (x : Nat) : Prop :=
  (∀ j, s.boot.nvmJobs.head? = some j → j.code = false → x < j.at_ ∨ j.at_ + j.data.length ≤ x) ∧ (x < 0x48000000 ∨ 0x48000080 ≤ x)

/-- The bytes outside the operation under way and the boot records are those of `s0`. -/
structure State.NvmBytes (s0 s : State) : Prop where
  inv : s.Inv
  code : ∀ x, s0.CodeFree x → s.codeGet x = s0.codeGet x
  data : ∀ x, s0.DataFree x → s.nvmGet x = s0.nvmGet x

/-- An operation that leaves the NVM alone. -/
theorem State.NvmBytes.of (h : s0.NvmBytes s) {K : Nat} (hk : Keeps K s t) (hK : K.testBit 5 = false ∧ K.testBit 6 = false) : s0.NvmBytes t := by
  obtain ⟨hnvm, hcode⟩ := hK
  refine ⟨hk.inv h.inv, fun x hx => ?_, fun x hx => ?_⟩
  · rw [← h.code x hx]
    unfold State.codeGet
    rw [hk.codeNvm hcode]
  · rw [← h.data x hx]
    unfold State.nvmGet
    rw [hk.nvm hnvm]

theorem drawBytes_length : ∀ (k n : Nat), (drawBytes k n).length = n
  | _, 0 => rfl
  | k, n + 1 => congrArg (· + 1) (drawBytes_length (k + 1) n)

/-- A write of data NVM that lies among the boot records or in the operation under way. -/
theorem State.NvmBytes.nvmWrite {a : Nat} {bs : List Byte} (h : s0.NvmBytes s) (hplace : ∀ x, s0.DataFree x → x < a ∨ a + bs.length ≤ x) :
    s0.NvmBytes (s.nvmWrite a bs) := by
  have hkeep : Keeps 32 s (s.nvmWrite a bs) := State.nvmWrite_keeps rfl (Keeps.refl _ s)
  refine ⟨hkeep.inv h.inv, fun x hx => ?_, fun x hx => ?_⟩
  · rw [← h.code x hx]
    unfold State.codeGet
    rw [hkeep.codeNvm rfl]
  · rw [← h.data x hx, nvmGet_nvmWrite_other h.inv bs (hplace x hx)]

/-- A boot record is written in its own place. -/
theorem writeRecord_eq {a b c : Nat} : ∃ k bs, k < 2 ∧ bs.length = 64 ∧ s.writeRecord a b c = s.nvmWrite (recordAt k) bs := by
  unfold State.writeRecord
  cases s.bootInForce with
  | none => exact ⟨0, _, by decide, by simp [beBytes_length], rfl⟩
  | some r => exact ⟨1 - r.1, _, by omega, by simp [beBytes_length], rfl⟩

theorem State.NvmBytes.writeRecord {a b c : Nat} (h : s0.NvmBytes s) : s0.NvmBytes (s.writeRecord a b c) := by
  obtain ⟨k, bs, hk, hlen, heq⟩ := writeRecord_eq (s := s) (a := a) (b := b) (c := c)
  rw [heq]
  refine h.nvmWrite (fun x hx => ?_)
  have hplace := hx.2
  unfold recordAt
  omega

/-- The erasure of its bank, if it asks for one, and the bytes of an operation on code NVM. -/
def State.codeProgrammed (s : State) (j : NvmJob) (bs : List Byte) : State := (if j.erase then s.eraseBank (codeBank j.at_) else s).codeWrite j.at_ bs

theorem codeProgrammed_keeps {j : NvmJob} {bs : List Byte} : Keeps 64 s (s.codeProgrammed j bs) :=
  State.codeWrite_keeps rfl (Keeps.ite (State.eraseBank_keeps rfl (Keeps.refl _ s)) (Keeps.refl _ s))

section
variable {j : NvmJob} {bs : List Byte} (hj : s0.boot.nvmJobs.head? = some j) (hlen : bs.length = j.data.length)
include hj hlen

/-- An operation on code NVM writes its own bytes, and erases its own bank. -/
theorem State.NvmBytes.codeJob (h : s0.NvmBytes s) (hcode : j.code = true) : s0.NvmBytes (s.codeProgrammed j bs) := by
  have herase : Keeps 64 s (if j.erase then s.eraseBank (codeBank j.at_) else s) :=
    Keeps.ite (State.eraseBank_keeps rfl (Keeps.refl _ s)) (Keeps.refl _ s)
  refine ⟨codeProgrammed_keeps.inv h.inv, fun x hx => ?_, fun x hx => ?_⟩
  · obtain ⟨hbank, hplace⟩ := hx j hj hcode
    unfold State.codeProgrammed
    rw [← h.code x hx, codeGet_codeWrite_other (herase.inv h.inv) bs (by omega)]
    split
    · next her => exact codeGet_eraseBank_other h.inv (Nat.mod_lt _ (by decide)) (fun hx => hbank ⟨her, hx⟩)
    · rfl
  · rw [← h.data x hx]
    unfold State.nvmGet
    rw [codeProgrammed_keeps.nvm rfl]

/-- An operation on data NVM writes its own bytes. -/
theorem State.NvmBytes.dataJob (h : s0.NvmBytes s) (hcode : j.code = false) : s0.NvmBytes (s.nvmWrite j.at_ bs) :=
  h.nvmWrite (fun x hx => by rw [hlen]; exact hx.1 j hj hcode)

end

/-- What resets and programs leave of the NVM: the bytes outside the operation under way, which stays or is cut off. -/
structure State.NvmKept (s0 s : State) : Prop extends State.NvmBytes s0 s where
  jobs : s.boot.nvmJobs = s0.boot.nvmJobs ∨ s.boot.nvmJobs = []

theorem State.NvmKept.refl (h : s.Inv) : s.NvmKept s := ⟨⟨h, fun _ _ => rfl, fun _ _ => rfl⟩, .inl rfl⟩

/-- An operation outside the boot state. -/
theorem State.NvmKept.same (h : s0.NvmKept s) (ht : s0.NvmBytes t) {K : Nat} (hk : Keeps K s t) (hK : K.testBit 42 = false) : s0.NvmKept t :=
  ⟨ht, by rw [hk.boot hK]; exact h.jobs⟩

/-- An operation outside the NVM and the boot state. -/
theorem State.NvmKept.quiet (h : s0.NvmKept s) (hk : Keeps 13194139533215 s t) : s0.NvmKept t := h.same (h.toNvmBytes.of hk ⟨rfl, rfl⟩) hk rfl

/-- An update of the boot state that keeps the operations, or drops them. -/
theorem State.NvmKept.modBoot {f : BootSt → BootSt} (h : s0.NvmKept s) (hf : ∀ b : BootSt, (f b).nvmJobs = b.nvmJobs ∨ (f b).nvmJobs = []) : s0.NvmKept (s.modBoot f) :=
  ⟨h.toNvmBytes.of (K := 4398046511104) (State.modBoot_keeps rfl (Keeps.refl _ s)) ⟨rfl, rfl⟩, (hf s.boot).elim (fun hb => hb ▸ h.jobs) .inr⟩

theorem State.NvmKept.foldl {α : Type} {f : State → α → State} (hf : ∀ u x, s0.NvmKept u → s0.NvmKept (f u x)) :
    ∀ (xs : List α) {s : State}, s0.NvmKept s → s0.NvmKept (xs.foldl f s)
  | [], _, h => h
  | x :: xs, _, h => State.NvmKept.foldl hf xs (hf _ x h)

theorem State.NvmKept.writeRecord {a b c : Nat} (h : s0.NvmKept s) : s0.NvmKept (s.writeRecord a b c) :=
  h.same (h.toNvmBytes.writeRecord) (K := 32) (State.writeRecord_keeps rfl (Keeps.refl _ s)) rfl

/-- A reset of the security domain cuts off the operation under way (R499). -/
theorem State.NvmKept.nvmCut (h : s0.NvmKept s) : s0.NvmKept s.nvmCut := by
  unfold State.nvmCut
  split
  · exact h
  · next j js hjobs =>
    have hj : s0.boot.nvmJobs.head? = some j := by
      rcases h.jobs with hsame | hnone
      · rw [← hsame, hjobs]
        rfl
      · rw [hnone] at hjobs
        cases hjobs
    have hcut : s0.NvmKept (s.modBoot (fun b => { b with nvmJobs := [] })) := h.modBoot (fun _ => .inr rfl)
    dsimp only
    split
    · exact hcut
    · have hdrawn : s0.NvmKept ((s.modBoot (fun b => { b with nvmJobs := [] })).drawBytes j.data.length).2 :=
        hcut.quiet (State.drawBytes_keeps rfl (Keeps.refl _ _))
      split
      · next hcode => exact hdrawn.same (hdrawn.toNvmBytes.codeJob hj (drawBytes_length _ _) hcode) codeProgrammed_keeps rfl
      · next hcode =>
        exact hdrawn.same (hdrawn.toNvmBytes.dataJob hj (drawBytes_length _ _) (Bool.eq_false_iff.mpr hcode)) (K := 32) (State.nvmWrite_keeps rfl (Keeps.refl _ _)) rfl

/-! ## Resets -/

theorem State.NvmKept.resetSecure (h : s0.NvmKept s) : s0.NvmKept s.resetSecure :=
  h.nvmCut.quiet (State.modSecure_keeps rfl (Keeps.refl _ _))

theorem State.NvmKept.resetDomain {d : Nat} {off : Bool} (h : s0.NvmKept s) : s0.NvmKept (s.resetDomain d off) := by
  have hregs : Keeps 13194139533215 s (s.resetRegs d) := State.resetRegs_keeps rfl (Keeps.refl _ s)
  unfold State.resetDomain
  split
  · exact h.quiet (State.keepRtc_keeps rfl (Keeps.refl _ s) (fun _ hu => State.resetTeamS_keeps rfl (State.resetRegs_keeps rfl hu)))
  · dsimp only
    split
    · exact h.quiet (State.resetTeamA_keeps rfl hregs)
    · exact h.quiet (State.resetCtrl_keeps rfl hregs)
    · exact h.quiet (State.resetSense_keeps rfl hregs)
    · exact h.quiet (State.resetDrive_keeps rfl hregs)
    · exact h.quiet (State.resetComm_keeps rfl hregs)
    · exact h.quiet (State.resetPaddock_keeps rfl hregs)
    · exact (h.quiet hregs).resetSecure
    · exact h.quiet hregs

theorem State.NvmKept.resetAll {off : Bool} (h : s0.NvmKept s) : s0.NvmKept (s.resetAll off) :=
  (State.NvmKept.foldl (fun _ _ hu => hu.resetDomain) _ h).quiet (State.debugEnd_keeps rfl (Keeps.refl _ _))

theorem State.NvmKept.setf {a v : Nat} {f : Field} (h : s0.NvmKept s) : s0.NvmKept (s.setf a f v) := h.quiet (State.setf_keeps rfl (Keeps.refl _ s))

theorem State.NvmKept.warmReset {k : Nat} (h : s0.NvmKept s) : s0.NvmKept (s.warmReset k) := by
  have hcause : s0.NvmKept (s.resetCause k) := h.quiet (State.resetCause_keeps rfl (Keeps.refl _ s))
  have hreset : s0.NvmKept ((s.resetCause k).resetAll false).releaseWake := hcause.resetAll.quiet (State.releaseWake_keeps rfl (Keeps.refl _ _))
  exact (hreset.modBoot (fun _ => .inr rfl)).setf

theorem State.NvmKept.supplyLost (h : s0.NvmKept s) : s0.NvmKept s.supplyLost := by
  have hreset : s0.NvmKept (s.resetAll true).releaseWake := h.resetAll.quiet (State.releaseWake_keeps rfl (Keeps.refl _ _))
  have hoff : s0.NvmKept ((s.resetAll true).releaseWake.forN 8 (fun s d => s.setDomain d 2)) :=
    hreset.quiet (State.forN_keeps (Keeps.refl _ _) (fun _ _ hu => State.setDomain_keeps rfl hu))
  exact (hoff.modBoot (fun _ => .inr rfl)).quiet (State.powerMirror_keeps rfl (Keeps.refl _ _))

theorem State.NvmKept.softwareReset (h : s0.NvmKept s) : s0.NvmKept s.softwareReset := by
  have hreact : s0.NvmKept (s.reactModule 6) := h.quiet (State.reactModule_keeps rfl (Keeps.refl _ s))
  unfold State.softwareReset
  dsimp only
  split
  · exact hreact.modBoot (fun _ => .inl rfl)
  · exact hreact.warmReset

theorem State.NvmKept.haltTeamS (h : s0.NvmKept s) : s0.NvmKept s.haltTeamS := by
  have hheld : Keeps 13194139533215 s ((s.setf (Reg.HARN_STAT 0) Fld.HARN_STAT_live 0).forN 3 (fun s n => s.modCore n (fun c => { c with held := true }))) :=
    State.forN_keeps (State.setf_keeps rfl (Keeps.refl _ s)) (fun _ _ hu => State.modCore_keeps rfl hu)
  exact (h.quiet hheld).modBoot (f := fun b => { b with stage := 6 }) (fun _ => .inl rfl)

theorem State.NvmKept.reinitDone {d c : Nat} (h : s0.NvmKept s) : s0.NvmKept (s.reinitDone d c) := by
  have hbegun : s0.NvmKept ((s.reach c).modPower (fun p => { p with reinit := p.reinit.filter (fun r => r.1 ≠ d) })) :=
    h.quiet (State.modPower_keeps rfl (State.reach_keeps rfl (Keeps.refl _ s)))
  have hreset := hbegun.resetDomain (d := d) (off := true)
  exact hreset.quiet (State.domainUp_keeps rfl (Keeps.ite (State.driveUp_keeps rfl (Keeps.refl _ _)) (Keeps.refl _ _)))

theorem State.NvmKept.wdgReact {d n : Nat} (h : s0.NvmKept s) : s0.NvmKept (s.wdgReact d n) := by
  have hexpired : s0.NvmKept (s.setf (Reg.WDG_STAT d n) Fld.WDG_STAT_exp 1) := h.setf
  unfold State.wdgReact
  split
  · exact (hexpired.quiet (State.receive_keeps rfl (Keeps.refl _ _))).warmReset
  · exact ((hexpired.quiet (State.teamALost_keeps rfl (State.resetCause_keeps rfl (Keeps.refl _ _)))).resetDomain).setf

theorem State.NvmKept.enterStage1 {ds : List (Nat × DWord)} (h : s0.NvmKept s) : s0.NvmKept (s.enterStage1 ds) := by
  have hdescs : s0.NvmKept (s.each ((builtinIds ++ ds.map (·.1)).filter (fun id => id / 65536 ≤ 0xC && (s.variant = .f || (id / 65536 ≠ 4 && id / 65536 ≠ 5))))
      (fun s id => s.setDesc id (stage1Desc ds id))) := h.quiet (State.each_keeps (Keeps.refl _ s) (fun _ _ hu => State.setDesc_keeps rfl hu))
  have hstage := hdescs.modBoot (f := fun b => { b with stage := 4 }) (fun _ => .inl rfl)
  exact hstage.quiet (State.bootAt_keeps rfl (State.raise_keeps rfl (State.setf_keeps rfl (State.setPhase_keeps rfl (Keeps.refl _ _)))))

/-- The boot ROM's trial of a bank: the state that it leaves, and the state of a verified bank. -/
theorem State.NvmKept.tryBank {a b : Nat} (h : s0.NvmKept s) : s0.NvmKept (s.tryBank a b).2 ∧ ∀ u, (s.tryBank a b).1 = some u → s0.NvmKept u := by
  unfold State.tryBank
  generalize s.verifyImage b 0 = c
  dsimp only
  generalize (if c.code = 0 && c.kind ≠ 1 then 1 else c.code) = code
  split
  · exact ⟨h.setf, fun _ hu => absurd hu (by simp)⟩
  · have hrecord : s0.NvmKept (if b = a && s.bootRecord.2.1 = 1 then s.writeRecord s.bootRecord.1 1 (min 255 (s.bootRecord.2.2 + 1)) else s) := by
      split
      · exact h.writeRecord
      · exact h
    refine ⟨hrecord.quiet ?_, fun u hu => ?_⟩
    · exact State.extend_keeps rfl (State.setb_keeps rfl (State.setf_keeps rfl (State.setf_keeps rfl (State.setf_keeps rfl (Keeps.refl _ _)))))
    · obtain rfl := Option.some.inj hu
      exact hrecord.quiet (State.modSecure_keeps rfl (State.extend_keeps rfl (State.setb_keeps rfl (State.setf_keeps rfl (State.setf_keeps rfl (State.setf_keeps rfl (Keeps.refl _ _)))))))

theorem State.NvmKept.bootRom {ds : List (Nat × DWord)} (h : s0.NvmKept s) : s0.NvmKept (s.bootRom ds) := by
  have hrecord : s0.NvmKept (if s.bootRecord.2.1 = 1 && 3 ≤ s.bootRecord.2.2 then s.writeRecord (1 - s.bootRecord.1) 0 0 else s) := by
    split
    · exact h.writeRecord
    · exact h
  unfold State.bootRom
  dsimp only
  generalize (if s.bootRecord.2.1 = 1 && 3 ≤ s.bootRecord.2.2 then s.writeRecord (1 - s.bootRecord.1) 0 0 else s) = u at hrecord
  obtain ⟨hleft, hbooted⟩ := hrecord.tryBank (a := u.bootRecord.1) (b := u.bootRecord.1)
  split
  · next t _ he => exact (hbooted t (congrArg Prod.fst he)).enterStage1
  · next v he =>
    rw [he] at hleft
    obtain ⟨hleft', hbooted'⟩ := State.NvmKept.tryBank (a := u.bootRecord.1) (b := 1 - u.bootRecord.1) hleft
    split
    · next t _ he' => exact (hbooted' t (congrArg Prod.fst he')).enterStage1
    · next w he' =>
      rw [he'] at hleft'
      exact State.NvmKept.haltTeamS hleft'

theorem State.NvmKept.strapPhase (h : s0.NvmKept s) : s0.NvmKept s.strapPhase :=
  (h.modBoot (f := fun b => { b with stage := 2, warm := false, due := s.dtb + 40000 }) (fun _ => .inl rfl)).quiet (State.wr_keeps rfl (Keeps.refl _ _))

theorem State.NvmKept.domainsUp (h : s0.NvmKept s) : s0.NvmKept s.domainsUp := by
  have hreset : s0.NvmKept ([6, 7, 0].foldl (fun s d => s.resetDomain d true) s) := State.NvmKept.foldl (fun _ _ hu => hu.resetDomain) _ h
  unfold State.domainsUp
  generalize [6, 7, 0].foldl (fun s d => s.resetDomain d true) s = u at hreset
  have hup : ∀ f : State → Nat → Nat, s0.NvmKept (u.debugEnd.forN 8 (fun s d => s.setDomain d (f s d))) := fun f =>
    hreset.quiet (State.forN_keeps (State.debugEnd_keeps rfl (Keeps.refl _ u)) (fun _ _ hu => State.setDomain_keeps rfl hu))
  have hlast := hup (fun _ d => if d = 0 || d = 6 || d = 7 then 0 else ((List.range 8).map s.domain).getD d 2)
  dsimp only
  generalize u.debugEnd.forN 8 _ = v at hlast
  refine State.NvmKept.quiet (State.NvmKept.strapPhase (State.NvmKept.modBoot (f := fun x => { x with porNext := false }) ?_ (fun _ => .inl rfl))) (State.powerMirror_keeps rfl (Keeps.refl _ _))
  refine State.NvmKept.quiet hlast (Keeps.set_keeper rfl (Keeps.ite (State.powerRecord_keeps rfl (State.resetCause_keeps rfl (State.setf_keeps rfl ?_))) (State.setf_keeps rfl ?_)))
  · exact Keeps.ite (State.setDtb_keeps rfl (Keeps.refl _ v)) (State.dtbZero_keeps rfl (Keeps.refl _ v))
  · exact Keeps.ite (State.setDtb_keeps rfl (Keeps.refl _ v)) (State.dtbZero_keeps rfl (Keeps.refl _ v))

/-- What an access over the bridge keeps, if what it performs keeps it. -/
theorem access_induction {Q : State → Prop} {core : Nat} {ok : Bool} {f : State → State} (hQ : ∀ {u v}, Keeps 384 u v → Q u → Q v)
    (hf : ∀ u, Q u → Q (f u)) (h : Q s) : Q (s.access core ok f) := by
  have hdraw : Q s.drawWord.2 := hQ (State.drawWord_keeps rfl (Keeps.refl _ s)) h
  unfold State.access State.overBridge State.freeTimes
  split
  · split
    · exact hf s h
    · dsimp only
      split
      · exact hdraw
      · exact hf _ hdraw
      · exact hf _ (hf _ hdraw)
  · exact hQ (State.accessFault_keeps rfl (Keeps.refl _ s)) h

theorem State.NvmKept.access {core : Nat} {ok : Bool} {f : State → State} (h : s0.NvmKept s) (hf : ∀ u, s0.NvmKept u → s0.NvmKept (f u)) : s0.NvmKept (s.access core ok f) :=
  access_induction (fun hk hu => hu.same (hu.toNvmBytes.of hk ⟨rfl, rfl⟩) hk rfl) hf h

/-! ## The commands that program the NVM -/

/-- The commands that may program the NVM. -/
def programsNvm : Instr → Bool
  | .bootFailure .. | .brownOut .. | .nvmProgramDone .. | .softwareReset .. | .stage1Entry .. | .startupDomainsUp .. | .bridleCommit .. | .longPressBswOpen .. |
    .domainReinitDone .. | .debugReset .. | .martingaleFatalReset .. | .watchdogExpiry .. | .watchdogService .. | .eventRecordCopy .. | .vbatkApplied .. => true
  | _ => false

theorem programsNvm_eq (c : Instr) : (decide (Part.nvm ∈ c.parts) || decide (Part.codeNvm ∈ c.parts)) = programsNvm c := by
  cases c <;> rfl

/-- The commands that may write main SRAM. -/
def writesSram : Instr → Bool
  | .compareAMatch .. | .cotForcedStart .. | .cotMinOffEnd .. | .cotStartEvent .. | .generatorCentre .. | .generatorPeriodStart .. | .strapEnd .. |
    .offTimeComparator .. | .valleyLimitRelease .. | .systemBoundary1ms .. | .paddockBankAccess .. | .registerWrite .. => true
  | _ => false

theorem writesSram_eq (c : Instr) : decide (Part.sram ∈ c.parts) = writesSram c := by
  cases c <;> rfl

/-- A property of the state that an outcome reaches. -/
def Reaches (Q : State → Prop) (o : Outcome) : Prop := ∀ t, o = .next t → Q t

section
variable {Q : State → Prop}

theorem Reaches.next (h : Q t) : Reaches Q (.next t) := fun _ ht => Host.Outcome.next.inj ht ▸ h

theorem Reaches.ofUnit {c : Bool} (h : c = true → Q t) : Reaches Q (ofUnit c t) := by
  unfold Machine.ofUnit
  cases c with
  | true => exact .next (h rfl)
  | false => exact fun _ ht => absurd ht (by simp)

end

/-- What a complete operation writes. -/
def State.jobWritten (u : State) (i : NvmJob) : State :=
  if i.record then u.writeRecord (if (i.data.getD 0 0).toNat = 255 then u.bootRecord.1 else (i.data.getD 0 0).toNat) (i.data.getD 1 0).toNat (i.data.getD 2 0).toNat
  else if i.code then u.codeProgrammed i i.data
  else u.nvmWrite i.at_ i.data

theorem nvmDone_cons {j : NvmJob} {js : List NvmJob} (hjobs : s.boot.nvmJobs = j :: js) :
    s.nvmDone = (((s.modBoot (fun b => { b with nvmJobs := js })).corrupted j).2.jobWritten ((s.modBoot (fun b => { b with nvmJobs := js })).corrupted j).1).irq 99 := by
  unfold State.nvmDone
  rw [hjobs]
  rfl

/-- A transfer between clocks of no fixed ratio changes the bytes of an operation, and no more of it. -/
theorem corrupted_job (j : NvmJob) : ∃ bs, bs.length = j.data.length ∧ (s.corrupted j).1 = { j with data := bs } ∧ Keeps 128 s (s.corrupted j).2 := by
  unfold State.corrupted
  split
  · exact ⟨j.data, rfl, rfl, Keeps.refl _ s⟩
  · exact ⟨_, drawBytes_length _ _, rfl, State.drawBytes_keeps rfl (Keeps.refl _ s)⟩

/-- The completion of an operation writes its own bytes (R496). -/
theorem nvmDone_leaves (h : s.Inv) : s.NvmBytes s.nvmDone := by
  have hr := (State.NvmKept.refl h).toNvmBytes
  cases hjobs : s.boot.nvmJobs with
  | nil =>
    unfold State.nvmDone
    rw [hjobs]
    exact hr
  | cons j js =>
    have hj : s.boot.nvmJobs.head? = some j := by rw [hjobs]; rfl
    have hpopped : s.NvmBytes (s.modBoot (fun b => { b with nvmJobs := js })) := hr.of (K := 4398046511104) (State.modBoot_keeps rfl (Keeps.refl _ s)) ⟨rfl, rfl⟩
    obtain ⟨bs, hlen, hjob, hkeep⟩ := corrupted_job (s := s.modBoot (fun b => { b with nvmJobs := js })) j
    have hdrawn := hpopped.of hkeep ⟨rfl, rfl⟩
    rw [nvmDone_cons hjobs, hjob]
    refine State.NvmBytes.of (K := 2203319149318) ?_ (State.irq_keeps rfl (Keeps.refl _ _)) ⟨rfl, rfl⟩
    unfold State.jobWritten
    split
    · exact hdrawn.writeRecord
    · split
      · next hc => exact State.NvmBytes.codeJob (j := j) hj hlen hdrawn hc
      · next hc => exact State.NvmBytes.dataJob (j := j) hj hlen hdrawn (Bool.eq_false_iff.mpr hc)

/-- With the times at 0. -/
theorem State.NvmBytes.timeless (h : s0.NvmBytes s) : s0.NvmBytes { s with dtb := 0, rtcBase := 0 } := ⟨{ h.inv with }, h.code, h.data⟩

theorem vbatkApplied_bytes (h : s.Inv) : Reaches s.NvmBytes (exec .vbatkApplied s) := by
  have hreset := (State.NvmKept.refl h).supplyLost.quiet (State.keeperReset_keeps rfl (Keeps.refl _ _))
  exact Reaches.next (hreset.modBoot (f := fun b => { b with porNext := true }) (fun _ => .inl rfl)).toNvmBytes.timeless

/-- The commands that program the NVM leave the bytes outside the operation under way. -/
theorem nvmBytes_of (h : s.Inv) {c : Instr} (hc : programsNvm c = true) (hcommit : c ≠ .bridleCommit) (hcopy : c ≠ .eventRecordCopy) :
    Reaches s.NvmBytes (exec c s) := by
  have hr := State.NvmKept.refl h
  unfold programsNvm at hc
  split at hc
  case h_1 kind =>
    refine Reaches.next ?_
    split
    · have hfail : s.NvmKept ((s.setf Reg.RST_BOOT Fld.RST_BOOT_fail kind).setPhase 4) := hr.quiet (State.setPhase_keeps rfl (State.setf_keeps rfl (Keeps.refl _ s)))
      dsimp only
      split
      · exact hfail.softwareReset.toNvmBytes
      · exact hfail.haltTeamS.toNvmBytes
    · exact hr.toNvmBytes
  case h_2 low =>
    refine Reaches.next ?_
    split
    · exact hr.toNvmBytes
    · next c _ =>
      have hreach : s.NvmKept (s.reach (c + 6 * Config.msCycles)) := hr.quiet (State.reach_keeps rfl (Keeps.refl _ s))
      dsimp only
      split
      · have hlost := (hreach.quiet (State.resetCause_keeps (k := 1) rfl (Keeps.refl _ _))).supplyLost
        exact (hlost.quiet (State.dtbZero_keeps rfl (Keeps.refl _ _))).toNvmBytes
      · exact (hreach.modBoot (f := fun b => { b with pwfAt := none }) (fun _ => .inl rfl)).toNvmBytes
  case h_3 =>
    refine Reaches.next ?_
    split
    · exact hr.toNvmBytes
    · have hdone := nvmDone_leaves h
      dsimp only
      split
      · next hidle =>
        have hempty : s.nvmDone.boot.nvmJobs = [] := by
          simp only [State.nvmBusy, Bool.and_eq_true, Bool.not_not] at hidle
          exact List.isEmpty_iff.mp hidle.2
        exact (State.NvmKept.warmReset ⟨hdone, .inr hempty⟩).toNvmBytes
      · exact hdone
  case h_4 core v =>
    refine Reaches.ofUnit (fun _ => (State.NvmKept.access hr (fun u hu => ?_)).toNvmBytes)
    split
    · exact hu.softwareReset
    · exact hu.setf
  case h_5 us ds =>
    refine Reaches.next ?_
    split
    · exact (State.NvmKept.bootRom (hr.quiet (State.reachRtc_keeps rfl (Keeps.refl _ s)))).toNvmBytes
    · exact hr.toNvmBytes
  case h_6 =>
    refine Reaches.next ?_
    split
    · exact (State.NvmKept.domainsUp (hr.quiet (State.reachRtc_keeps rfl (Keeps.refl _ s)))).toNvmBytes
    · exact hr.toNvmBytes
  case h_7 => exact absurd rfl hcommit
  case h_8 =>
    refine Reaches.next ?_
    split
    · next c _ =>
      have hlost := State.NvmKept.supplyLost (hr.quiet (State.reachRtc_keeps (r := c + 50 * Config.msCycles) rfl (Keeps.refl _ s)))
      exact (hlost.quiet (State.modKeeper_keeps rfl (State.setf_keeps rfl (Keeps.refl _ _)))).toNvmBytes
    · exact hr.toNvmBytes
  case h_9 d =>
    refine Reaches.ofUnit (fun _ => ?_)
    split
    · exact hr.reinitDone.toNvmBytes
    · exact hr.toNvmBytes
  case h_10 =>
    refine Reaches.next ?_
    split
    · exact hr.toNvmBytes
    · have hcause : s.NvmKept (((s.receive { cls := 12, scope := scopeOf lvModule 0, rx := rxModule }).resetCause 6).setf Reg.RST_STAT Fld.RST_STAT_last 6) :=
        hr.quiet (State.setf_keeps rfl (State.resetCause_keeps rfl (State.receive_keeps rfl (Keeps.refl _ s))))
      have hreset := State.NvmKept.foldl (f := fun s d => s.resetDomain d) (fun _ _ hu => hu.resetDomain) [5, 6, 7, 1, 2, 3, 4] hcause
      have hcores := hreset.quiet (State.resetCores_keeps rfl (Keeps.refl _ _))
      exact ((hcores.modBoot (fun _ => .inr rfl)).quiet (State.wr_keeps rfl (Keeps.refl _ _))).toNvmBytes
  case h_11 =>
    refine Reaches.next ?_
    split
    · exact (State.NvmKept.warmReset (hr.quiet (State.reach_keeps rfl (Keeps.refl _ s)))).toNvmBytes
    · exact hr.toNvmBytes
  case h_12 c n =>
    refine Reaches.ofUnit (fun _ => ?_)
    split
    · exact (State.NvmKept.wdgReact (hr.quiet (State.reach_keeps rfl (Keeps.refl _ s)))).toNvmBytes
    · exact hr.toNvmBytes
  case h_13 core n v =>
    refine Reaches.ofUnit (fun _ => (State.NvmKept.access hr (fun u hu => ?_)).toNvmBytes)
    split
    · exact hu
    · dsimp only
      split
      · exact hu.wdgReact
      · exact hu.quiet (State.modHarn_keeps rfl (Keeps.refl _ u))
  case h_14 => exact absurd rfl hcopy
  case h_15 => exact vbatkApplied_bytes h
  case h_16 => exact absurd hc Bool.false_ne_true

/-! ## The commands that write main SRAM -/

/-- No byte of main SRAM changes outside the recorder's ring (R80, R82). -/
def State.RingOnly (s t : State) : Prop := ∀ x, (∀ k, k < s.ringSize → s.ringByte k ≠ x) → t.sramGet x = s.sramGet x

theorem RingOnly.of_keeps (hk : Keeps 17592186044399 s t) : s.RingOnly t := fun x _ => by
  unfold State.sramGet
  rw [hk.sram rfl]

section
variable {g : Nat}

/-- No unit bears the number 64, so that the frame of pulses holds of every generator. -/
theorem unsynced_64 : s.Unsynced 64 := .inl (by decide)

theorem compareEvents_ring (hs : s0.Beside 64 s) : s0.Beside 64 (s.compareEvents g) :=
  ((hs.adcEvent (by decide)).ttSync).cotFrom (by decide) unsynced_64 (fun h => absurd h (by decide))

theorem periodStart_ring (hs : s0.Beside 64 s) (hg : g < 64) : s0.Beside 64 (s.periodStart 40 g) :=
  hs.periodStart (by decide) unsynced_64 40 (Nat.ne_of_lt hg) hg

theorem cotStart_ring (hs : s0.Beside 64 s) (hg : g < 64) : s0.Beside 64 (s.cotStart g) := hs.cotStart (by decide) unsynced_64 (Nat.ne_of_lt hg) hg

theorem buckStart_ring {k : Nat} (hs : s0.Beside 64 s) (hk : k < 46) : s0.Beside 64 (s.buckStart k) := by
  unfold State.buckStart
  split
  · exact hs
  · exact cotStart_ring hs (by omega)

end

/-! A start event beyond the generators, should the state name one, starts nothing. -/

theorem leadGen_lt (st : Nat) : leadGen st < 40 := by
  unfold leadGen
  cases hl : gensOfStage st with
  | nil => decide
  | cons g gs => exact List.mem_range.mp (List.mem_of_mem_filter (hl ▸ List.mem_cons_self : g ∈ gensOfStage st))

theorem synced_far {k : Nat} (hk : 64 ≤ k) : s.synced k = [] := by
  refine List.filter_eq_nil_iff.mpr (fun j _ hcond => ?_)
  simp only [Bool.and_eq_true, decide_eq_true_eq] at hcond
  obtain ⟨-, hgen⟩ := hcond
  have hlt : s.fld (Reg.PWM_SYNC j) Fld.PWM_SYNC_gen < 64 := Nat.mod_lt _ (by decide)
  omega

theorem loadPoint_far {k : Nat} (hk : 64 ≤ k) : Keeps 17592186044399 s (s.loadPoint k) := by
  have hrec : ∀ u : State, u.recordAtLoad k = u := fun u => by
    have hlead := leadGen_lt (u.fld Reg.PRC_CTRL Fld.PRC_CTRL_stage)
    unfold State.recordAtLoad
    rw [if_neg (by simp only [Bool.and_eq_true, decide_eq_true_eq]; omega)]
  unfold State.loadPoint
  rw [hrec]
  exact State.floatApply_keeps rfl (State.frames_keeps rfl (State.loadCompares_keeps rfl (Keeps.refl _ s)))

theorem periodStartOne_far {k : Nat} (hk : 64 ≤ k) : Keeps 17592186044399 s (s.periodStartOne k) := by
  have hloaded : Keeps 17592186044399 s (s.periodLoaded k) := State.modPg_keeps rfl (State.modPg_keeps rfl (Keeps.refl _ s))
  have hstarted : ∀ u, Keeps 17592186044399 s u → Keeps 17592186044399 s ((u.tripResume k).adoptMapping k) := fun _ hu =>
    State.adoptMapping_keeps rfl (State.tripResume_keeps rfl hu)
  have hevents : ∀ u, Keeps 17592186044399 s u → Keeps 17592186044399 s (u.periodEvents k) := fun _ hu =>
    State.ttSync_keeps rfl (State.adcEvent_keeps rfl (State.resolverLock_keeps rfl (State.gaitHandover_keeps rfl hu)))
  rw [periodStartOne_eq]
  have hresumed := hstarted _ (Keeps.ite (c := (decide (s.gmode k = 2) || (s.periodLoaded k).loadsStart k) = true) (hloaded.trans (loadPoint_far hk)) hloaded)
  exact hevents _ (Keeps.ite (State.cotRise_keeps rfl hresumed) hresumed)

theorem cotStart_far {k : Nat} (hk : 64 ≤ k) : Keeps 17592186044399 s (s.cotStart k) := by
  have hstart : s.periodStart 40 k = s.periodStartOne k := by
    unfold State.periodStart
    dsimp only
    rw [synced_far hk]
    rfl
  unfold State.cotStart
  refine Keeps.ite ?_ (Keeps.refl _ s)
  dsimp only
  refine Keeps.ite ?_ (Keeps.ite (State.inc_keeps rfl (Keeps.refl _ s)) (State.modPg_keeps rfl (Keeps.refl _ s)))
  rw [hstart]
  exact periodStartOne_far hk

/-- The start event of a phase, whatever its number, writes within the recorder's ring. -/
theorem buckStart_ringOnly (hs : s0.Beside 64 s) (k : Nat) : s0.RingOnly (s.buckStart k) := by
  by_cases hk : k < 46
  · exact (buckStart_ring hs hk).sram
  · have hfar : Keeps 17592186044399 s (s.buckStart k) := by
      unfold State.buckStart
      exact Keeps.ite (Keeps.refl _ s) (cotStart_far (by omega))
    intro x hx
    refine Eq.trans ?_ (hs.sram x hx)
    unfold State.sramGet
    rw [hfar.sram rfl]

/-- What a bank performs writes main SRAM for the recorder alone. -/
theorem bankPerform_ring (h : s.Inv) (a : PendAccess) : s.RingOnly (s.bankPerform a) := by
  have hwrite : ∀ (c : Bool) (v : Word) (ts q : Nat) (o l b : Bool), Keeps 17592186044399 s (if c then s.pathWrite a.sig v ts q o l b else s.paddockDrop a.sig) :=
    fun _ _ _ _ _ _ _ => Keeps.ite (State.pathWrite_keeps rfl (Keeps.refl _ s)) (State.paddockDrop_keeps rfl (Keeps.refl _ s))
  unfold State.bankPerform
  split
  case h_6 => exact (State.Beside.recordCopy (g := 64) (by decide) (State.Beside.refl h)).sram
  case h_1 u k val quality ovr ts lastOf urgentOf _ =>
    refine RingOnly.of_keeps ?_
    cases lastOf with
    | none =>
      cases urgentOf with
      | none => exact hwrite ..
      | some r => exact State.urgentAnswer_keeps rfl (hwrite ..)
    | some i =>
      cases urgentOf with
      | none => exact State.sequenceComplete_keeps rfl (hwrite ..)
      | some r => exact State.urgentAnswer_keeps rfl (State.sequenceComplete_keeps rfl (hwrite ..))
  case h_2 => exact RingOnly.of_keeps (State.lawReadDone_keeps rfl (Keeps.refl _ s))
  case h_3 => exact RingOnly.of_keeps (State.lawTableDone_keeps rfl (Keeps.refl _ s))
  case h_4 => exact RingOnly.of_keeps (State.placeFree_keeps rfl (hwrite ..))
  case h_5 => exact RingOnly.of_keeps (State.unpacked_keeps rfl (hwrite ..))
  case h_7 => exact RingOnly.of_keeps (State.modCore_keeps rfl (Keeps.refl _ s))
  case h_8 => exact RingOnly.of_keeps (State.coreWriteDone_keeps rfl (Keeps.refl _ s))
  case h_9 => exact RingOnly.of_keeps (State.descWriteDone_keeps rfl (Keeps.refl _ s))
  case h_10 => exact RingOnly.of_keeps (State.sweepNext_keeps rfl (State.sweepSignal_keeps rfl (Keeps.refl _ s)))

/-- At the 1 ms boundary the recorder writes first, and nothing after it (R29, R80). -/
theorem boundary_ring (h : s.Inv) : s.RingOnly s.boundaryBlocks.boundaryTeams := by
  have hsweep : s.Beside 64 s.staleSweep := (State.Beside.refl h).of (K := 640) (State.staleSweep_keeps rfl (Keeps.refl _ s)) ⟨rfl, rfl, rfl, rfl⟩
  have hrecord : s.RingOnly (if s.domainOn 6 then s.staleSweep.recordAtMs else s) := by
    split
    · exact (hsweep.recordAtMs (by decide)).sram
    · exact fun _ _ => rfl
  have hrest : Keeps 17592186044399 (if s.domainOn 6 then s.staleSweep.recordAtMs else s) s.boundaryBlocks.boundaryTeams :=
    State.boundaryTeams_keeps rfl (Keeps.ite (State.yarrowStart_keeps rfl (Keeps.refl _ _)) (Keeps.refl _ _))
  intro x hx
  refine Eq.trans ?_ (hrecord x hx)
  unfold State.sramGet
  rw [hrest.sram rfl]

theorem paddockBankAccess_ring (h : s.Inv) (b : Nat) : Reaches s.RingOnly (exec (.paddockBankAccess b) s) := by
  refine Reaches.ofUnit (fun _ => ?_)
  split
  · exact fun _ _ => rfl
  · split
    · exact fun _ _ => rfl
    · next c a _ =>
      have hinv : ∀ f, ((s.reach c).modPaddock f).Inv := fun f => (State.modPaddock_keeps (K := 512) rfl (Keeps.refl _ _)).inv (reach_inv h)
      have hring := fun f => bankPerform_ring (hinv f) a
      exact fun x hx => hring _ x hx

theorem offTimeComparator_ring (h : s.Inv) : Reaches s.RingOnly (exec .offTimeComparator s) := by
  have hlv : ∀ {u : State} {f : LvSeqSt → LvSeqSt}, s.Beside 64 u → s.Beside 64 (u.modLvSeq f) := fun hu =>
    hu.of (K := 2147483648) (State.modLvSeq_keeps rfl (Keeps.refl _ _)) ⟨rfl, rfl, rfl, rfl⟩
  have hturn := hlv (f := fun l => { l with phase := (s.lv.phase + 1) % 4 }) (State.Beside.refl h)
  refine Reaches.next ?_
  split
  · dsimp only
    split
    · exact (hlv hturn).sram
    · exact buckStart_ringOnly hturn s.lv.phase
  · exact fun _ _ => rfl

/-- The commands that write main SRAM write within the recorder's ring. -/
theorem ringOnly_of (h : s.Inv) {c : Instr} (hc : writesSram c = true) (hstore : ∀ core a v, c ≠ .registerWrite core a v) (hstrap : ∀ a b d, c ≠ .strapEnd a b d) :
    Reaches s.RingOnly (exec c s) := by
  unfold writesSram at hc
  split at hc
  case h_1 g =>
    refine Reaches.ofUnit (fun hg => ?_)
    have hg : g < 64 := (of_decide_eq_true hg).trans (by decide)
    have hdone : ∀ c, (s.reach c).Beside 64 ((s.reach c).modPg g (fun p => { p with matchDone := true })) := fun c =>
      (State.Beside.refl (reach_inv h)).modPg_other (Nat.ne_of_lt hg)
    dsimp only
    split
    · exact fun _ _ => rfl
    · split
      · split
        · exact fun _ _ => rfl
        · exact (compareEvents_ring (g := g) (hdone _)).sram
      · split
        · exact fun _ _ => rfl
        · exact (compareEvents_ring (g := g) (hdone _)).sram
  case h_2 g =>
    refine Reaches.ofUnit (fun hg => ?_)
    have hg : g < 64 := (of_decide_eq_true hg).trans (by decide)
    have hcount := (State.Beside.refl (g := 64) (reach_inv (t := (s.pgAt g).cotLast + (s.pgAt g).per) h)).inc (a := Reg.PWM_CNT_FORCE g)
      (other_pulseRegs (Nat.ne_of_lt hg) hg (by unfold Reg.PWM_CNT_FORCE; omega) (by unfold Reg.PWM_CNT_FORCE; omega))
    split
    · dsimp only
      split
      · exact (hcount.modPg_other (Nat.ne_of_lt hg)).sram
      · exact (periodStart_ring hcount hg).sram
    · exact fun _ _ => rfl
  case h_3 g =>
    refine Reaches.ofUnit (fun hg => ?_)
    dsimp only
    split
    · exact (periodStart_ring (State.Beside.refl (reach_inv h)) ((of_decide_eq_true hg).trans (by decide))).sram
    · exact fun _ _ => rfl
  case h_4 g =>
    refine Reaches.ofUnit (fun hg => ?_)
    split
    · exact (cotStart_ring (State.Beside.refl h) ((of_decide_eq_true hg).trans (by decide))).sram
    · exact fun _ _ => rfl
  case h_5 g =>
    refine Reaches.ofUnit (fun hg => ?_)
    have hg : g < 64 := (of_decide_eq_true hg).trans (by decide)
    split
    · have hdone := (State.Beside.refl (g := 64) (reach_inv (t := (s.pgAt g).next - s.genCycles g / 2) h)).modPg_other (k := g)
        (f := fun p => { p with centreDone := true, doneTo := max p.doneTo (s.reach ((s.pgAt g).next - s.genCycles g / 2)).taps }) (Nat.ne_of_lt hg)
      dsimp only
      generalize (s.reach ((s.pgAt g).next - s.genCycles g / 2)).modPg g _ = u at hdone
      have hloaded : (s.reach ((s.pgAt g).next - s.genCycles g / 2)).Beside 64 (if u.loadsCentre g then u.loadPoint g else u) :=
        State.Beside.ite (fun _ => hdone.loadPoint (by decide) (Nat.ne_of_lt hg) hg) (fun _ => hdone)
      exact (State.Beside.ttSync (hloaded.adcEvent (by decide))).sram
    · exact fun _ _ => rfl
  case h_6 g =>
    refine Reaches.ofUnit (fun hg => ?_)
    have hg : g < 64 := (of_decide_eq_true hg).trans (by decide)
    split
    · exact (periodStart_ring (State.Beside.refl (reach_inv h)) hg).sram
    · split
      · exact (periodStart_ring ((State.Beside.refl (reach_inv h)).modPg_other (Nat.ne_of_lt hg)) hg).sram
      · exact fun _ _ => rfl
  case h_7 a b d => exact absurd rfl (hstrap a b d)
  case h_8 => exact offTimeComparator_ring h
  case h_9 k =>
    refine Reaches.ofUnit (fun hk => ?_)
    have hk : k < 4 := of_decide_eq_true hk
    have hlv : s.Beside 64 (s.modLvSeq (fun l => { l with held := l.held.set k false })) :=
      (State.Beside.refl h).of (K := 2147483648) (State.modLvSeq_keeps rfl (Keeps.refl _ s)) ⟨rfl, rfl, rfl, rfl⟩
    split
    · exact (buckStart_ring hlv (by omega)).sram
    · exact fun _ _ => rfl
  case h_10 =>
    refine Reaches.next ?_
    split
    · exact boundary_ring (reach_inv h)
    · exact fun _ _ => rfl
  case h_11 b => exact paddockBankAccess_ring h b
  case h_12 core a v => exact absurd rfl (hstore core a v)
  case h_13 => exact absurd hc Bool.false_ne_true

/-- A store to main SRAM writes the four bytes of its word, and a write elsewhere none (R51). -/
theorem registerWrite_sram (h : s.Inv) {core a : Nat} {v : Word} {x : Nat} (hx : ¬ (inSram a = true ∧ a % 0x10000000 ≤ x ∧ x < a % 0x10000000 + 4)) :
    Reaches (fun t => t.sramGet x = s.sramGet x) (exec (.registerWrite core a v) s) := by
  have hsame : ∀ {K : Nat} {u w : State}, Keeps K u w → K.testBit 4 = false → w.sramGet x = u.sramGet x := fun hk hK => by
    unfold State.sramGet
    rw [hk.sram hK]
  refine Reaches.ofUnit (fun _ => ?_)
  split
  · next hin =>
    have hout : x < a % 0x10000000 ∨ a % 0x10000000 + 4 ≤ x := by
      by_contra hcon
      exact hx ⟨hin, by omega, by omega⟩
    refine (access_induction (Q := fun u => u.Inv ∧ u.sramGet x = s.sramGet x) (fun hk hu => ⟨hk.inv hu.1, (hsame hk rfl).trans hu.2⟩) (fun u hu => ?_) ⟨h, rfl⟩).2
    have hkeep : Keeps 16 u (u.sramStore a v) := State.sramStore_keeps rfl (Keeps.refl _ u)
    refine ⟨hkeep.inv hu.1, (sramGet_sramWrite_other hu.1 _ (fun j _ hj => ?_)).trans hu.2⟩
    have hlen : (leBytes 4 v.toNat).length = 4 := length_leBytes 4 v.toNat
    omega
  · split
    · exact hsame (K := 896) (State.coreAccess_keeps rfl (Keeps.refl _ s)) rfl
    · refine hsame (K := 17592186044399) (State.access_keeps rfl (Keeps.refl _ s) (fun u hu => ?_)) rfl
      exact Keeps.ite (State.brdWrite_keeps rfl hu) (State.blockWrite_keeps rfl hu)

/-! ## The copy of an event record -/

/-- The copy of a record writes its slot of the ring in data NVM (R434). -/
theorem copyRecord_nvm (h : s.Inv) {x : Nat}
    (hx : ∀ r ∈ s.thermal.records.head?, x < 0x483FF800 + 32 * s.fld Reg.TH_RECPTR Fld.TH_RECPTR_n ∨
      0x483FF800 + 32 * s.fld Reg.TH_RECPTR Fld.TH_RECPTR_n + r.length ≤ x) : s.copyRecord.nvmGet x = s.nvmGet x := by
  unfold State.copyRecord
  split
  · rfl
  · next r rs hrecords =>
    have hslot := hx r (by rw [hrecords]; rfl)
    split
    · rfl
    · dsimp only
      refine Eq.trans ?_ (nvmGet_nvmWrite_other h r hslot)
      split <;> rfl

/-- Settles O7: the bytes of main SRAM and of the NVM that a command leaves unchanged (R80, R82, R434, R496, R499). -/
theorem memoryBytes : Obligations.MemoryBytes := by
  unfold Obligations.MemoryBytes
  intro s t c h ht
  refine ⟨?_, ?_, ?_, ?_⟩
  · rintro core a v x rfl hx
    exact registerWrite_sram h hx t ht
  · intro hstore hstrap
    by_cases hrec : writesSram c = true
    · exact ringOnly_of h hrec hstore hstrap t ht
    · intro x _
      have hpart : Part.sram ∉ c.parts := of_decide_eq_false ((writesSram_eq c).trans (Bool.eq_false_iff.mpr hrec))
      have hsame : t.sram = s.sram := (commandParts s t c ht).2.2 .sram hpart
      unfold State.sramGet
      rw [hsame]
  · intro hcommit x hx
    by_cases hprog : programsNvm c = true
    · by_cases hcopy : c = .eventRecordCopy
      · subst hcopy
        obtain rfl := Host.Outcome.next.inj ht
        have hcode : s.copyRecord.codeNvm = s.codeNvm := (State.copyRecord_keeps (K := 549755813922) rfl (Keeps.refl _ s)).codeNvm rfl
        unfold State.codeGet
        rw [hcode]
      · exact (nvmBytes_of h hprog hcommit hcopy t ht).code x hx
    · have hcode : t.codeNvm = s.codeNvm := (commandParts s t c ht).2.2 .codeNvm (fun hmem => hprog (by rw [← programsNvm_eq, decide_eq_true hmem, Bool.or_true]))
      unfold State.codeGet
      rw [hcode]
  · intro hcommit x hx hrecord hcopied
    by_cases hprog : programsNvm c = true
    · by_cases hcopy : c = .eventRecordCopy
      · subst hcopy
        obtain rfl := Host.Outcome.next.inj ht
        exact copyRecord_nvm h (hcopied rfl)
      · exact (nvmBytes_of h hprog hcommit hcopy t ht).data x ⟨hx, hrecord⟩
    · have hnvm : t.nvm = s.nvm := (commandParts s t c ht).2.2 .nvm (fun hmem => hprog (by rw [← programsNvm_eq, decide_eq_true hmem, Bool.true_or]))
      unfold State.nvmGet
      rw [hnvm]

end Sys2Proof.Machine
end

section
/-! PROOFS. The registers that an operation writes, by their names: what `Instr.registers` lists, as sets of names. -/

namespace Sys2Proof.Machine

set_option Elab.async false

/-! ## Names of registers -/

/-- The names of the registers that commands list; `CAUSE_CNT` stands for the counters of the reset causes. -/
inductive RegName
  | CAUSE_CNT | ACT_CNT_PKTO | ACT_CNT_PMPRETRY | ACT_CNT_SHFAIL | ACT_CNT_SHSTART | ACT_FLOAT | ACT_STAT | ADC_CNT_ABORT | ADC_CNT_COLL
  | ADC_CNT_OVRUN | ADC_CNT_UREF | ADC_CSL | ADC_CTRL | ADC_ECFG | ADC_EDST | ADC_OFS | ADC_STATUS | ADC_TDLY | ADC_TRG | BOSC_MEAS
  | BOSC_TRIM | BRD_CNT_AUTH | BRD_CNT_BUSY | BRD_CNT_DUP | BRD_CNT_FWLATE | BRD_CNT_LATE | BRD_CNT_MAC | BRD_CNT_MALF | BRD_CNT_NOSESS
  | BRD_CNT_PREEMPT | BRD_CNT_REPLAY | BRD_CTRL | BRD_LOCK | BRD_RSLT | BRD_SEQ | BRD_SESS | BRD_SLOT | BRD_STAT | BRK_CNT
  | BUS_CNT_ABANDON | BUS_CNT_BOFF | BUS_CNT_LATE | BUS_CNT_LOST | BUS_CNT_NOMATCH | BUS_CNT_PACKSAT | BUS_CNT_PEX | BUS_CNT_RX
  | BUS_CNT_SHORT | BUS_CNT_TOOLONG | BUS_CTRL | BUS_ERR | BUS_STAT | BUS_SUP | CE_CNT_ECC | CE_CNT_FRAME | CE_CTRL | CE_FCNT | CE_STATUS
  | CHL_MEAS | CHS_CNT | CHS_CTRL | CHS_STAT | CHS_VMAX | CLK_CNT_LOSS | CLK_CNT_RELOCK | CLK_CTRL | CLK_DIV0 | CLK_DIV1 | CLK_GATE
  | CLK_LOSST | CLK_STAT | COEF_MEM | DCL_MEAS | DSC_CTRL | DSC_STAT | ENC_CNT | ENC_STAT | GCH_BIN | GCH_CNT_LFLT | GCH_CNT_NOPL
  | GCH_CNT_SC | GCH_CNT_STEP | GCH_GLOOP | GCH_MEAS | GCH_STAT | GCH_TOFF_MAX | GDC_CNT_CLEAR | GDC_CNT_ENSHORT | GDC_CNT_PEND
  | GDC_FLT_HI | GDC_FLT_LO | GDC_LFLT | GDC_PLEG | GDC_PRB | GDC_PRB_RES | GDC_STAT | HARN_CNT_MIS | HARN_CNT_REH | HARN_CNT_REHREF
  | HARN_CNT_RESYNC | HARN_CTRL | HARN_MAXSTALL | HARN_MIS | HARN_MIST | HARN_STAT | INL_CNT_GLITCH | INL_CPHIGH | INL_CPPER | INL_CTRL
  | INL_STAT | IRQ_SWI | KPR_BSTAT | KPR_BWSTAT | KPR_CNT_LP | KPR_CNT_LPIGN | KPR_SHIP | KPR_WOUT | LAW_CAP | LAW_CNT_HITA | LAW_CNT_HITB
  | LAW_CNT_LATE | LAW_CNT_LSMP | LAW_CNT_MISS | LAW_CNT_NOFIT | LAW_CNT_RUN | LAW_CNT_SAT | LAW_CNT_STRAY | LAW_CNT_VOID | LAW_CTRL
  | LAW_LAH | LAW_OMAP | LAW_PRD | LAW_RSTAT | LAW_STAT | LAW_TIME | LCH_CNT_OVC | LCH_STAT | LVC_CNT_HICCUP | LVC_CNT_OV | LVC_CNT_RETRY
  | LVC_CNT_SYNCLOSS | LVC_OVTH | LVC_STAT | LVC_SYNC | MG_CNT_FLT | MG_CNT_REPREF | MG_CNT_SI | MG_CNT_SS1 | MG_CNT_STO | MG_CRC | MG_CTRL
  | MG_DSTAT | MG_FLT | MG_FLTT | MG_GTRIP | MG_GTRIP_HI | MG_NSS | MG_POS | MG_SEL | MG_SIFLT | MG_SISTAT | MG_SOSTAT | MG_SPD | MG_STAT
  | MG_TL6 | MG_TL6_HI | PDK_DROP_CNT | PDK_DROP_ID | PDK_REFUSE_CNT | PDK_REFUSE_ID | PDK_REFUSE_SRC | PRC_CTRL | PRC_SEQ | PRC_STATUS
  | PRC_WRPTR | PWM_ACTA | PWM_ACTB | PWM_CMPA | PWM_CMPB | PWM_CNTR | PWM_CNT_DROP | PWM_CNT_FORCE | PWM_CNT_STRETCH | PWM_CNT_SYNC
  | PWM_CNT_TRIP | PWM_CNT_WREF | PWM_CTRL | PWM_GSTART_HI | PWM_PER | PWM_PHS | PWM_SAFE | PWM_STAT | PWM_SYNC | PWM_TRIPM | PWR_CNT_ABT
  | PWR_CNT_REF | PWR_EVT | PWR_MMREQ | PWR_REFUSE_ID | PWR_REQ | PWR_STAT | RES_STAT | RST_BOOT | RST_CAUSE | RST_CNT_POR | RST_DTB
  | RST_STRAP | RXO_CFG | RXO_STAT | SEC_BOOTST | SEC_DBGCH | SEC_DBGST | SEC_MEAS | SEC_RBCNT | SEC_VST | TH_CNT_RECDROP | TH_CNT_REENREF
  | TH_CNT_SD | TH_CTRL | TH_RECPTR | TH_STAT | TH_ZDER | TH_ZSTAT | TRP_CNT | TRP_LATCH | TRP_LVL | TRP_TIME | TT_CTL | TT_PER | TXO_CFG
  | TXO_STAT | TXO_TIM | WDG_CTRL | WDG_STAT | YRW_CNT | YRW_STAT

/-- The registers of a name. -/
def RegName.At : RegName → Nat → Prop
  | .CAUSE_CNT => causeCounters
  | .ACT_CNT_PKTO => r0 Reg.ACT_CNT_PKTO | .ACT_CNT_PMPRETRY => r0 Reg.ACT_CNT_PMPRETRY | .ACT_CNT_SHFAIL => r0 Reg.ACT_CNT_SHFAIL
  | .ACT_CNT_SHSTART => r0 Reg.ACT_CNT_SHSTART | .ACT_FLOAT => r0 Reg.ACT_FLOAT | .ACT_STAT => r0 Reg.ACT_STAT
  | .ADC_CNT_ABORT => r1 Reg.ADC_CNT_ABORT | .ADC_CNT_COLL => r1 Reg.ADC_CNT_COLL | .ADC_CNT_OVRUN => r1 Reg.ADC_CNT_OVRUN
  | .ADC_CNT_UREF => r1 Reg.ADC_CNT_UREF | .ADC_CSL => r1 Reg.ADC_CSL | .ADC_CTRL => r1 Reg.ADC_CTRL | .ADC_ECFG => r2 Reg.ADC_ECFG
  | .ADC_EDST => r2 Reg.ADC_EDST | .ADC_OFS => r2 Reg.ADC_OFS | .ADC_STATUS => r1 Reg.ADC_STATUS | .ADC_TDLY => r2 Reg.ADC_TDLY
  | .ADC_TRG => r2 Reg.ADC_TRG | .BOSC_MEAS => r0 Reg.BOSC_MEAS | .BOSC_TRIM => r0 Reg.BOSC_TRIM | .BRD_CNT_AUTH => r0 Reg.BRD_CNT_AUTH
  | .BRD_CNT_BUSY => r0 Reg.BRD_CNT_BUSY | .BRD_CNT_DUP => r0 Reg.BRD_CNT_DUP | .BRD_CNT_FWLATE => r0 Reg.BRD_CNT_FWLATE
  | .BRD_CNT_LATE => r0 Reg.BRD_CNT_LATE | .BRD_CNT_MAC => r0 Reg.BRD_CNT_MAC | .BRD_CNT_MALF => r0 Reg.BRD_CNT_MALF
  | .BRD_CNT_NOSESS => r0 Reg.BRD_CNT_NOSESS | .BRD_CNT_PREEMPT => r0 Reg.BRD_CNT_PREEMPT | .BRD_CNT_REPLAY => r0 Reg.BRD_CNT_REPLAY
  | .BRD_CTRL => r0 Reg.BRD_CTRL | .BRD_LOCK => r1 Reg.BRD_LOCK | .BRD_RSLT => r2 Reg.BRD_RSLT | .BRD_SEQ => r1 Reg.BRD_SEQ
  | .BRD_SESS => r1 Reg.BRD_SESS | .BRD_SLOT => r2 Reg.BRD_SLOT | .BRD_STAT => r0 Reg.BRD_STAT | .BRK_CNT => r0 Reg.BRK_CNT
  | .BUS_CNT_ABANDON => r1 Reg.BUS_CNT_ABANDON | .BUS_CNT_BOFF => r1 Reg.BUS_CNT_BOFF | .BUS_CNT_LATE => r1 Reg.BUS_CNT_LATE
  | .BUS_CNT_LOST => r1 Reg.BUS_CNT_LOST | .BUS_CNT_NOMATCH => r1 Reg.BUS_CNT_NOMATCH | .BUS_CNT_PACKSAT => r1 Reg.BUS_CNT_PACKSAT
  | .BUS_CNT_PEX => r1 Reg.BUS_CNT_PEX | .BUS_CNT_RX => r1 Reg.BUS_CNT_RX | .BUS_CNT_SHORT => r1 Reg.BUS_CNT_SHORT
  | .BUS_CNT_TOOLONG => r1 Reg.BUS_CNT_TOOLONG | .BUS_CTRL => r1 Reg.BUS_CTRL | .BUS_ERR => r1 Reg.BUS_ERR | .BUS_STAT => r1 Reg.BUS_STAT
  | .BUS_SUP => r2 Reg.BUS_SUP | .CE_CNT_ECC => r1 Reg.CE_CNT_ECC | .CE_CNT_FRAME => r1 Reg.CE_CNT_FRAME | .CE_CTRL => r1 Reg.CE_CTRL
  | .CE_FCNT => r1 Reg.CE_FCNT | .CE_STATUS => r1 Reg.CE_STATUS | .CHL_MEAS => r0 Reg.CHL_MEAS | .CHS_CNT => r0 Reg.CHS_CNT
  | .CHS_CTRL => r0 Reg.CHS_CTRL | .CHS_STAT => r0 Reg.CHS_STAT | .CHS_VMAX => r0 Reg.CHS_VMAX | .CLK_CNT_LOSS => r0 Reg.CLK_CNT_LOSS
  | .CLK_CNT_RELOCK => r0 Reg.CLK_CNT_RELOCK | .CLK_CTRL => r0 Reg.CLK_CTRL | .CLK_DIV0 => r0 Reg.CLK_DIV0 | .CLK_DIV1 => r0 Reg.CLK_DIV1
  | .CLK_GATE => r1 Reg.CLK_GATE | .CLK_LOSST => r0 Reg.CLK_LOSST | .CLK_STAT => r0 Reg.CLK_STAT | .COEF_MEM => r2 Reg.COEF_MEM
  | .DCL_MEAS => r0 Reg.DCL_MEAS | .DSC_CTRL => r0 Reg.DSC_CTRL | .DSC_STAT => r0 Reg.DSC_STAT | .ENC_CNT => r1 Reg.ENC_CNT
  | .ENC_STAT => r1 Reg.ENC_STAT | .GCH_BIN => r2 Reg.GCH_BIN | .GCH_CNT_LFLT => r1 Reg.GCH_CNT_LFLT | .GCH_CNT_NOPL => r1 Reg.GCH_CNT_NOPL
  | .GCH_CNT_SC => r1 Reg.GCH_CNT_SC | .GCH_CNT_STEP => r1 Reg.GCH_CNT_STEP | .GCH_GLOOP => r1 Reg.GCH_GLOOP | .GCH_MEAS => r1 Reg.GCH_MEAS
  | .GCH_STAT => r1 Reg.GCH_STAT | .GCH_TOFF_MAX => r1 Reg.GCH_TOFF_MAX | .GDC_CNT_CLEAR => r0 Reg.GDC_CNT_CLEAR
  | .GDC_CNT_ENSHORT => r0 Reg.GDC_CNT_ENSHORT | .GDC_CNT_PEND => r0 Reg.GDC_CNT_PEND | .GDC_FLT_HI => r0 Reg.GDC_FLT_HI
  | .GDC_FLT_LO => r0 Reg.GDC_FLT_LO | .GDC_LFLT => r0 Reg.GDC_LFLT | .GDC_PLEG => r1 Reg.GDC_PLEG | .GDC_PRB => r0 Reg.GDC_PRB
  | .GDC_PRB_RES => r0 Reg.GDC_PRB_RES | .GDC_STAT => r0 Reg.GDC_STAT | .HARN_CNT_MIS => r1 Reg.HARN_CNT_MIS
  | .HARN_CNT_REH => r1 Reg.HARN_CNT_REH | .HARN_CNT_REHREF => r1 Reg.HARN_CNT_REHREF | .HARN_CNT_RESYNC => r1 Reg.HARN_CNT_RESYNC
  | .HARN_CTRL => r1 Reg.HARN_CTRL | .HARN_MAXSTALL => r1 Reg.HARN_MAXSTALL | .HARN_MIS => r1 Reg.HARN_MIS | .HARN_MIST => r1 Reg.HARN_MIST
  | .HARN_STAT => r1 Reg.HARN_STAT | .INL_CNT_GLITCH => r0 Reg.INL_CNT_GLITCH | .INL_CPHIGH => r0 Reg.INL_CPHIGH
  | .INL_CPPER => r0 Reg.INL_CPPER | .INL_CTRL => r0 Reg.INL_CTRL | .INL_STAT => r0 Reg.INL_STAT | .IRQ_SWI => r1 Reg.IRQ_SWI
  | .KPR_BSTAT => r0 Reg.KPR_BSTAT | .KPR_BWSTAT => r0 Reg.KPR_BWSTAT | .KPR_CNT_LP => r0 Reg.KPR_CNT_LP
  | .KPR_CNT_LPIGN => r0 Reg.KPR_CNT_LPIGN | .KPR_SHIP => r0 Reg.KPR_SHIP | .KPR_WOUT => r0 Reg.KPR_WOUT | .LAW_CAP => r3 Reg.LAW_CAP
  | .LAW_CNT_HITA => r2 Reg.LAW_CNT_HITA | .LAW_CNT_HITB => r2 Reg.LAW_CNT_HITB | .LAW_CNT_LATE => r2 Reg.LAW_CNT_LATE
  | .LAW_CNT_LSMP => r2 Reg.LAW_CNT_LSMP | .LAW_CNT_MISS => r2 Reg.LAW_CNT_MISS | .LAW_CNT_NOFIT => r2 Reg.LAW_CNT_NOFIT
  | .LAW_CNT_RUN => r2 Reg.LAW_CNT_RUN | .LAW_CNT_SAT => r2 Reg.LAW_CNT_SAT | .LAW_CNT_STRAY => r2 Reg.LAW_CNT_STRAY
  | .LAW_CNT_VOID => r2 Reg.LAW_CNT_VOID | .LAW_CTRL => r2 Reg.LAW_CTRL | .LAW_LAH => r2 Reg.LAW_LAH | .LAW_OMAP => r3 Reg.LAW_OMAP
  | .LAW_PRD => r3 Reg.LAW_PRD | .LAW_RSTAT => r2 Reg.LAW_RSTAT | .LAW_STAT => r2 Reg.LAW_STAT | .LAW_TIME => r2 Reg.LAW_TIME
  | .LCH_CNT_OVC => r1 Reg.LCH_CNT_OVC | .LCH_STAT => r1 Reg.LCH_STAT | .LVC_CNT_HICCUP => r0 Reg.LVC_CNT_HICCUP
  | .LVC_CNT_OV => r0 Reg.LVC_CNT_OV | .LVC_CNT_RETRY => r0 Reg.LVC_CNT_RETRY | .LVC_CNT_SYNCLOSS => r0 Reg.LVC_CNT_SYNCLOSS
  | .LVC_OVTH => r0 Reg.LVC_OVTH | .LVC_STAT => r0 Reg.LVC_STAT | .LVC_SYNC => r0 Reg.LVC_SYNC | .MG_CNT_FLT => r0 Reg.MG_CNT_FLT
  | .MG_CNT_REPREF => r0 Reg.MG_CNT_REPREF | .MG_CNT_SI => r0 Reg.MG_CNT_SI | .MG_CNT_SS1 => r1 Reg.MG_CNT_SS1
  | .MG_CNT_STO => r1 Reg.MG_CNT_STO | .MG_CRC => r0 Reg.MG_CRC | .MG_CTRL => r0 Reg.MG_CTRL | .MG_DSTAT => r1 Reg.MG_DSTAT
  | .MG_FLT => r0 Reg.MG_FLT | .MG_FLTT => r0 Reg.MG_FLTT | .MG_GTRIP => r0 Reg.MG_GTRIP | .MG_GTRIP_HI => r0 Reg.MG_GTRIP_HI
  | .MG_NSS => r1 Reg.MG_NSS | .MG_POS => r1 Reg.MG_POS | .MG_SEL => r0 Reg.MG_SEL | .MG_SIFLT => r0 Reg.MG_SIFLT
  | .MG_SISTAT => r0 Reg.MG_SISTAT | .MG_SOSTAT => r0 Reg.MG_SOSTAT | .MG_SPD => r1 Reg.MG_SPD | .MG_STAT => r0 Reg.MG_STAT
  | .MG_TL6 => r0 Reg.MG_TL6 | .MG_TL6_HI => r0 Reg.MG_TL6_HI | .PDK_DROP_CNT => r0 Reg.PDK_DROP_CNT | .PDK_DROP_ID => r0 Reg.PDK_DROP_ID
  | .PDK_REFUSE_CNT => r0 Reg.PDK_REFUSE_CNT | .PDK_REFUSE_ID => r0 Reg.PDK_REFUSE_ID | .PDK_REFUSE_SRC => r0 Reg.PDK_REFUSE_SRC
  | .PRC_CTRL => r0 Reg.PRC_CTRL | .PRC_SEQ => r0 Reg.PRC_SEQ | .PRC_STATUS => r0 Reg.PRC_STATUS | .PRC_WRPTR => r0 Reg.PRC_WRPTR
  | .PWM_ACTA => r1 Reg.PWM_ACTA | .PWM_ACTB => r1 Reg.PWM_ACTB | .PWM_CMPA => r1 Reg.PWM_CMPA | .PWM_CMPB => r1 Reg.PWM_CMPB
  | .PWM_CNTR => r1 Reg.PWM_CNTR | .PWM_CNT_DROP => r1 Reg.PWM_CNT_DROP | .PWM_CNT_FORCE => r1 Reg.PWM_CNT_FORCE
  | .PWM_CNT_STRETCH => r1 Reg.PWM_CNT_STRETCH | .PWM_CNT_SYNC => r1 Reg.PWM_CNT_SYNC | .PWM_CNT_TRIP => r1 Reg.PWM_CNT_TRIP
  | .PWM_CNT_WREF => r1 Reg.PWM_CNT_WREF | .PWM_CTRL => r1 Reg.PWM_CTRL | .PWM_GSTART_HI => r0 Reg.PWM_GSTART_HI
  | .PWM_PER => r1 Reg.PWM_PER | .PWM_PHS => r1 Reg.PWM_PHS | .PWM_SAFE => r1 Reg.PWM_SAFE | .PWM_STAT => r1 Reg.PWM_STAT
  | .PWM_SYNC => r1 Reg.PWM_SYNC | .PWM_TRIPM => r1 Reg.PWM_TRIPM | .PWR_CNT_ABT => r1 Reg.PWR_CNT_ABT | .PWR_CNT_REF => r1 Reg.PWR_CNT_REF
  | .PWR_EVT => r0 Reg.PWR_EVT | .PWR_MMREQ => r0 Reg.PWR_MMREQ | .PWR_REFUSE_ID => r0 Reg.PWR_REFUSE_ID | .PWR_REQ => r0 Reg.PWR_REQ
  | .PWR_STAT => r0 Reg.PWR_STAT | .RES_STAT => r1 Reg.RES_STAT | .RST_BOOT => r0 Reg.RST_BOOT | .RST_CAUSE => r0 Reg.RST_CAUSE
  | .RST_CNT_POR => r0 Reg.RST_CNT_POR | .RST_DTB => r0 Reg.RST_DTB | .RST_STRAP => r0 Reg.RST_STRAP | .RXO_CFG => r2 Reg.RXO_CFG
  | .RXO_STAT => r2 Reg.RXO_STAT | .SEC_BOOTST => r0 Reg.SEC_BOOTST | .SEC_DBGCH => r1 Reg.SEC_DBGCH | .SEC_DBGST => r0 Reg.SEC_DBGST
  | .SEC_MEAS => r2 Reg.SEC_MEAS | .SEC_RBCNT => r0 Reg.SEC_RBCNT | .SEC_VST => r0 Reg.SEC_VST | .TH_CNT_RECDROP => r0 Reg.TH_CNT_RECDROP
  | .TH_CNT_REENREF => r0 Reg.TH_CNT_REENREF | .TH_CNT_SD => r0 Reg.TH_CNT_SD | .TH_CTRL => r0 Reg.TH_CTRL | .TH_RECPTR => r0 Reg.TH_RECPTR
  | .TH_STAT => r0 Reg.TH_STAT | .TH_ZDER => r1 Reg.TH_ZDER | .TH_ZSTAT => r1 Reg.TH_ZSTAT | .TRP_CNT => r1 Reg.TRP_CNT
  | .TRP_LATCH => r0 Reg.TRP_LATCH | .TRP_LVL => r0 Reg.TRP_LVL | .TRP_TIME => r1 Reg.TRP_TIME | .TT_CTL => r1 Reg.TT_CTL
  | .TT_PER => r1 Reg.TT_PER | .TXO_CFG => r2 Reg.TXO_CFG | .TXO_STAT => r2 Reg.TXO_STAT | .TXO_TIM => r2 Reg.TXO_TIM
  | .WDG_CTRL => r2 Reg.WDG_CTRL | .WDG_STAT => r2 Reg.WDG_STAT | .YRW_CNT => r0 Reg.YRW_CNT | .YRW_STAT => r0 Reg.YRW_STAT

/-- The register of a name for the law in slot `l` of engine `e`; no other name has one. -/
def RegName.AtLaw (e l : Nat) : RegName → Nat → Prop
  | .CE_STATUS => r0 (Reg.CE_STATUS e) | .LAW_CNT_HITA => r0 (Reg.LAW_CNT_HITA e l) | .LAW_CNT_HITB => r0 (Reg.LAW_CNT_HITB e l)
  | .LAW_CNT_LSMP => r0 (Reg.LAW_CNT_LSMP e l) | .LAW_CNT_MISS => r0 (Reg.LAW_CNT_MISS e l) | .LAW_CNT_NOFIT => r0 (Reg.LAW_CNT_NOFIT e l)
  | .LAW_CNT_RUN => r0 (Reg.LAW_CNT_RUN e l) | .LAW_CNT_SAT => r0 (Reg.LAW_CNT_SAT e l) | .LAW_RSTAT => r0 (Reg.LAW_RSTAT e l)
  | .LAW_STAT => r0 (Reg.LAW_STAT e l)
  | _ => fun _ => False

theorem RegName.at_of_atLaw {e l a : Nat} {r : RegName} (h : r.AtLaw e l a) : r.At a := by
  unfold RegName.AtLaw at h
  split at h
  case h_1 => exact ⟨e, h⟩
  case h_11 => exact h.elim
  all_goals exact ⟨e, l, h⟩

/-- The registers of a set of names: bit `i` stands for the `i`-th name. -/
def Covers (at_ : RegName → Nat → Prop) (M : Nat) (W : Nat → Prop) : Prop := ∀ r : RegName, M.testBit r.ctorIdx = true → ∀ a, at_ r a → W a

section
variable {at_ : RegName → Nat → Prop} {M m : Nat} {W : Nat → Prop}

theorem Covers.sub (h : Covers at_ M W) (hm : m ||| M = M := by rfl) : Covers at_ m W := fun r hr a ha =>
  h r (by rw [← hm, Nat.testBit_or, hr, Bool.true_or]) a ha

theorem Covers.law {e l : Nat} (h : Covers RegName.At M W) (hm : m ||| M = M := by rfl) : Covers (RegName.AtLaw e l) m W := fun r hr a ha =>
  h.sub hm r hr a (RegName.at_of_atLaw ha)

/-! ## The registers that a state differs in -/

/-- `s` is sound, and differs from `s0` in registers of `W` alone. -/
def Writes (W : Nat → Prop) (s0 s : State) : Prop := KeepsRegs (fun a => ¬W a) s0 s

variable {s0 s t : State}

theorem Writes.refl (h : s.Inv) : Writes W s s := KeepsRegs.refl h
theorem Writes.inv (h : Writes W s0 s) : s.Inv := h.1

theorem Writes.wr {a : Nat} {v : Word} (ha : W a) (h : Writes W s0 s) : Writes W s0 (s.wr a v) := KeepsRegs.wr h (not_not_intro ha)
theorem Writes.setf {a v : Nat} {f : Field} (ha : W a) (h : Writes W s0 s) : Writes W s0 (s.setf a f v) := h.wr ha
theorem Writes.setb {a : Nat} {f : Field} {b : Bool} (ha : W a) (h : Writes W s0 s) : Writes W s0 (s.setb a f b) := h.wr ha
theorem Writes.incBy {a n : Nat} (ha : W a) (h : Writes W s0 s) : Writes W s0 (s.incBy a n) := h.wr ha
theorem Writes.inc {a : Nat} (ha : W a) (h : Writes W s0 s) : Writes W s0 (s.inc a) := h.wr ha

theorem Writes.wrReg {a : Nat} {v : Word} (ha : W a) (h : Writes W s0 s) : Writes W s0 (s.wrReg a v) := by
  unfold State.wrReg
  split
  · exact h.wr ha
  · exact h

theorem Writes.wrMasked {a m : Nat} {v : Word} (ha : W a) (h : Writes W s0 s) : Writes W s0 (s.wrMasked a m v) := by
  unfold State.wrMasked
  split
  · exact h.wr ha
  · exact h

theorem Writes.wrOnly {a : Nat} {fs : List Field} {v : Word} (ha : W a) (h : Writes W s0 s) : Writes W s0 (s.wrOnly a fs v) := h.wrMasked ha
theorem Writes.wrExcept {a : Nat} {fs : List Field} {v : Word} (ha : W a) (h : Writes W s0 s) : Writes W s0 (s.wrExcept a fs v) := h.wrMasked ha

/-- An operation that `Keeps` says leaves the registers. -/
theorem Writes.quiet (hk : Keeps 17592186044413 s s → Keeps 17592186044413 s t) (h : Writes W s0 s) : Writes W s0 t :=
  KeepsRegs.of_regs h (hk (Keeps.refl _ s)) rfl

theorem Writes.modMg {f : MgSt → MgSt} (h : Writes W s0 s) (hf : ∀ m : MgSt, m.drives.length = 2 ∧ m.inputs.length = 8 → (f m).drives.length = 2 ∧ (f m).inputs.length = 8 := by intro _ hc; exact hc) :
    Writes W s0 (s.modMg f) := h.quiet (fun k => State.modMg_keeps rfl k hf)
theorem Writes.modGate {f : GateSt → GateSt} (h : Writes W s0 s) (hf : ∀ m : GateSt, m.hv.length = 34 ∧ m.lv.length = 29 → (f m).hv.length = 34 ∧ (f m).lv.length = 29 := by intro _ hc; exact hc) :
    Writes W s0 (s.modGate f) := h.quiet (fun k => State.modGate_keeps rfl k hf)
theorem Writes.modBridle {f : BridleSt → BridleSt} (h : Writes W s0 s) (hf : ∀ m : BridleSt, m.slots.length = 32 ∧ m.sess.length = 8 → (f m).slots.length = 32 ∧ (f m).sess.length = 8 := by intro _ hc; exact hc) :
    Writes W s0 (s.modBridle f) := h.quiet (fun k => State.modBridle_keeps rfl k hf)
theorem Writes.modThermal {f : ThermalSt → ThermalSt} (h : Writes W s0 s) (hf : ∀ m : ThermalSt, m.zones.length = 8 → (f m).zones.length = 8 := by intro _ hc; exact hc) :
    Writes W s0 (s.modThermal f) := h.quiet (fun k => State.modThermal_keeps rfl k hf)
theorem Writes.modCe {e : Nat} {f : CeSt → CeSt} (h : Writes W s0 s) (hf : ∀ c : CeSt, c.laws.length = 4 → (f c).laws.length = 4 := by intro _ hc; exact hc) :
    Writes W s0 (s.modCe e f) := h.quiet (fun k => State.modCe_keeps rfl k hf)

theorem Writes.ite {c : Prop} [Decidable c] (h : Writes W s0 s) (h' : Writes W s0 t) : Writes W s0 (if c then s else t) := KeepsRegs.ite (fun _ => h) (fun _ => h')

theorem Writes.onTeam {k : Nat} (h : Writes W s0 s) (h' : Writes W s0 t) : Writes W s0 (s.onTeam k t) := Writes.ite h' h

theorem Writes.foldl {α : Type} {f : State → α → State} (hf : ∀ u x, Writes W s0 u → Writes W s0 (f u x)) :
    ∀ (xs : List α) {s : State}, Writes W s0 s → Writes W s0 (xs.foldl f s)
  | [], _, h => h
  | x :: xs, _, h => Writes.foldl hf xs (hf _ x h)

theorem Writes.foldlPair {α β : Type} {f : State × β → α → State × β} (hf : ∀ p x, Writes W s0 p.1 → Writes W s0 (f p x).1) :
    ∀ (xs : List α) {p : State × β}, Writes W s0 p.1 → Writes W s0 (xs.foldl f p).1
  | [], _, h => h
  | x :: xs, p, h => Writes.foldlPair hf xs (hf p x h)

theorem Writes.each {α : Type} {l : List α} {f : State → α → State} (h : Writes W s0 s) (hf : ∀ u x, Writes W s0 u → Writes W s0 (f u x)) :
    Writes W s0 (s.each l f) := Writes.foldl hf l h

theorem Writes.forN {n : Nat} {f : State → Nat → State} (h : Writes W s0 s) (hf : ∀ u x, Writes W s0 u → Writes W s0 (f u x)) :
    Writes W s0 (s.forN n f) := KeepsRegs.forN h (fun u x _ hu => hf u x hu)

theorem Reaches.ite {Q : State → Prop} {c : Prop} [Decidable c] {o o' : Outcome} (h : Reaches Q o) (h' : Reaches Q o') : Reaches Q (if c then o else o') := by
  split
  · exact h
  · exact h'

theorem Reaches.onPlane (h : Writes W s0 s) (ht : Writes W s0 t) : Reaches (Writes W s0) (onPlane s t) := .next (.ite ht h)
theorem Reaches.onCharger (h : Writes W s0 s) (ht : Writes W s0 t) : Reaches (Writes W s0) (onCharger s t) := .onPlane h (.ite ht h)

/-! ## Registers of a name -/

theorem Covers.at0 {a : Nat} (h : Covers RegName.At M W) (r : RegName) (hm : M.testBit r.ctorIdx = true := by rfl) (hr : r.At = r0 a := by rfl) : W a :=
  h r hm _ (hr ▸ rfl)
theorem Covers.at1 {f : Nat → Nat} {i : Nat} (h : Covers RegName.At M W) (r : RegName) (hm : M.testBit r.ctorIdx = true := by rfl) (hr : r.At = r1 f := by rfl) :
    W (f i) := h r hm _ (hr ▸ ⟨i, rfl⟩)
theorem Covers.at2 {f : Nat → Nat → Nat} {i j : Nat} (h : Covers RegName.At M W) (r : RegName) (hm : M.testBit r.ctorIdx = true := by rfl)
    (hr : r.At = r2 f := by rfl) : W (f i j) := h r hm _ (hr ▸ ⟨i, j, rfl⟩)
theorem Covers.at3 {f : Nat → Nat → Nat → Nat} {i j k : Nat} (h : Covers RegName.At M W) (r : RegName) (hm : M.testBit r.ctorIdx = true := by rfl)
    (hr : r.At = r3 f := by rfl) : W (f i j k) := h r hm _ (hr ▸ ⟨i, j, k, rfl⟩)
theorem written_ite {c : Prop} [Decidable c] {a b : Nat} (ha : W a) (hb : W b) : W (if c then a else b) := by
  split
  · exact ha
  · exact hb

/-- The registers that END writes. -/
theorem Covers.endRegs {e l a : Nat} (h : Covers RegName.At M W) (ha : a ∈ endRegs e l) (hm : 0x2030C00000000000000000000000000000 ||| M = M := by rfl) : W a := by
  have hW := h.sub hm
  unfold Machine.endRegs at ha
  simp only [List.mem_cons, List.not_mem_nil, or_false] at ha
  rcases ha with rfl | rfl | rfl | rfl | rfl
  · exact hW.at2 .LAW_CNT_HITA
  · exact hW.at2 .LAW_CNT_HITB
  · exact hW.at2 .LAW_CNT_RUN
  · exact hW.at2 .LAW_CNT_SAT
  · exact hW.at2 .LAW_STAT

theorem Covers.own {e l a : Nat} (h : Covers (RegName.AtLaw e l) M W) (r : RegName) (hm : M.testBit r.ctorIdx = true := by rfl)
    (hr : r.AtLaw e l = r0 a := by rfl) : W a := h r hm _ (hr ▸ rfl)

end

/-! ## What a command lists -/

/-- Every name, in the order of the names' bits. -/
def RegName.all : List RegName := [
  .CAUSE_CNT, .ACT_CNT_PKTO, .ACT_CNT_PMPRETRY, .ACT_CNT_SHFAIL, .ACT_CNT_SHSTART, .ACT_FLOAT, .ACT_STAT, .ADC_CNT_ABORT, .ADC_CNT_COLL,
  .ADC_CNT_OVRUN, .ADC_CNT_UREF, .ADC_CSL, .ADC_CTRL, .ADC_ECFG, .ADC_EDST, .ADC_OFS, .ADC_STATUS, .ADC_TDLY, .ADC_TRG, .BOSC_MEAS,
  .BOSC_TRIM, .BRD_CNT_AUTH, .BRD_CNT_BUSY, .BRD_CNT_DUP, .BRD_CNT_FWLATE, .BRD_CNT_LATE, .BRD_CNT_MAC, .BRD_CNT_MALF, .BRD_CNT_NOSESS,
  .BRD_CNT_PREEMPT, .BRD_CNT_REPLAY, .BRD_CTRL, .BRD_LOCK, .BRD_RSLT, .BRD_SEQ, .BRD_SESS, .BRD_SLOT, .BRD_STAT, .BRK_CNT,
  .BUS_CNT_ABANDON, .BUS_CNT_BOFF, .BUS_CNT_LATE, .BUS_CNT_LOST, .BUS_CNT_NOMATCH, .BUS_CNT_PACKSAT, .BUS_CNT_PEX, .BUS_CNT_RX,
  .BUS_CNT_SHORT, .BUS_CNT_TOOLONG, .BUS_CTRL, .BUS_ERR, .BUS_STAT, .BUS_SUP, .CE_CNT_ECC, .CE_CNT_FRAME, .CE_CTRL, .CE_FCNT, .CE_STATUS,
  .CHL_MEAS, .CHS_CNT, .CHS_CTRL, .CHS_STAT, .CHS_VMAX, .CLK_CNT_LOSS, .CLK_CNT_RELOCK, .CLK_CTRL, .CLK_DIV0, .CLK_DIV1, .CLK_GATE,
  .CLK_LOSST, .CLK_STAT, .COEF_MEM, .DCL_MEAS, .DSC_CTRL, .DSC_STAT, .ENC_CNT, .ENC_STAT, .GCH_BIN, .GCH_CNT_LFLT, .GCH_CNT_NOPL,
  .GCH_CNT_SC, .GCH_CNT_STEP, .GCH_GLOOP, .GCH_MEAS, .GCH_STAT, .GCH_TOFF_MAX, .GDC_CNT_CLEAR, .GDC_CNT_ENSHORT, .GDC_CNT_PEND,
  .GDC_FLT_HI, .GDC_FLT_LO, .GDC_LFLT, .GDC_PLEG, .GDC_PRB, .GDC_PRB_RES, .GDC_STAT, .HARN_CNT_MIS, .HARN_CNT_REH, .HARN_CNT_REHREF,
  .HARN_CNT_RESYNC, .HARN_CTRL, .HARN_MAXSTALL, .HARN_MIS, .HARN_MIST, .HARN_STAT, .INL_CNT_GLITCH, .INL_CPHIGH, .INL_CPPER, .INL_CTRL,
  .INL_STAT, .IRQ_SWI, .KPR_BSTAT, .KPR_BWSTAT, .KPR_CNT_LP, .KPR_CNT_LPIGN, .KPR_SHIP, .KPR_WOUT, .LAW_CAP, .LAW_CNT_HITA, .LAW_CNT_HITB,
  .LAW_CNT_LATE, .LAW_CNT_LSMP, .LAW_CNT_MISS, .LAW_CNT_NOFIT, .LAW_CNT_RUN, .LAW_CNT_SAT, .LAW_CNT_STRAY, .LAW_CNT_VOID, .LAW_CTRL,
  .LAW_LAH, .LAW_OMAP, .LAW_PRD, .LAW_RSTAT, .LAW_STAT, .LAW_TIME, .LCH_CNT_OVC, .LCH_STAT, .LVC_CNT_HICCUP, .LVC_CNT_OV, .LVC_CNT_RETRY,
  .LVC_CNT_SYNCLOSS, .LVC_OVTH, .LVC_STAT, .LVC_SYNC, .MG_CNT_FLT, .MG_CNT_REPREF, .MG_CNT_SI, .MG_CNT_SS1, .MG_CNT_STO, .MG_CRC, .MG_CTRL,
  .MG_DSTAT, .MG_FLT, .MG_FLTT, .MG_GTRIP, .MG_GTRIP_HI, .MG_NSS, .MG_POS, .MG_SEL, .MG_SIFLT, .MG_SISTAT, .MG_SOSTAT, .MG_SPD, .MG_STAT,
  .MG_TL6, .MG_TL6_HI, .PDK_DROP_CNT, .PDK_DROP_ID, .PDK_REFUSE_CNT, .PDK_REFUSE_ID, .PDK_REFUSE_SRC, .PRC_CTRL, .PRC_SEQ, .PRC_STATUS,
  .PRC_WRPTR, .PWM_ACTA, .PWM_ACTB, .PWM_CMPA, .PWM_CMPB, .PWM_CNTR, .PWM_CNT_DROP, .PWM_CNT_FORCE, .PWM_CNT_STRETCH, .PWM_CNT_SYNC,
  .PWM_CNT_TRIP, .PWM_CNT_WREF, .PWM_CTRL, .PWM_GSTART_HI, .PWM_PER, .PWM_PHS, .PWM_SAFE, .PWM_STAT, .PWM_SYNC, .PWM_TRIPM, .PWR_CNT_ABT,
  .PWR_CNT_REF, .PWR_EVT, .PWR_MMREQ, .PWR_REFUSE_ID, .PWR_REQ, .PWR_STAT, .RES_STAT, .RST_BOOT, .RST_CAUSE, .RST_CNT_POR, .RST_DTB,
  .RST_STRAP, .RXO_CFG, .RXO_STAT, .SEC_BOOTST, .SEC_DBGCH, .SEC_DBGST, .SEC_MEAS, .SEC_RBCNT, .SEC_VST, .TH_CNT_RECDROP, .TH_CNT_REENREF,
  .TH_CNT_SD, .TH_CTRL, .TH_RECPTR, .TH_STAT, .TH_ZDER, .TH_ZSTAT, .TRP_CNT, .TRP_LATCH, .TRP_LVL, .TRP_TIME, .TT_CTL, .TT_PER, .TXO_CFG,
  .TXO_STAT, .TXO_TIM, .WDG_CTRL, .WDG_STAT, .YRW_CNT, .YRW_STAT]

theorem RegName.getElem?_all (r : RegName) : RegName.all[r.ctorIdx]? = some r := by cases r <;> rfl

/-- The names of a set. -/
def RegName.names (M : Nat) : List RegName := RegName.all.filter (fun r => M.testBit r.ctorIdx)

theorem RegName.mem_names {M : Nat} {r : RegName} (h : M.testBit r.ctorIdx = true) : r ∈ RegName.names M :=
  List.mem_filter.mpr ⟨List.mem_of_getElem? r.getElem?_all, h⟩

/-- The registers of a list. -/
def Listed (ws : List (Nat → Prop)) (a : Nat) : Prop := ∃ r ∈ ws, r a

section
variable {M a : Nat} {c : Instr} {ws : List (Nat → Prop)}

theorem covers_names {at_ : RegName → Nat → Prop} {l : List (Nat → Prop)} : Covers at_ M (Listed (l ++ (RegName.names M).map at_)) :=
  fun r hr _ ha => ⟨at_ r, List.mem_append_right l (List.mem_map_of_mem (RegName.mem_names hr)), ha⟩

/-- A command's list covers the registers of the names that it holds. -/
theorem covers_listed {at_ : RegName → Nat → Prop} (hws : c.registers = some ws) (hM : c.registers = some ((RegName.names M).map at_)) :
    Covers at_ M (Listed ws) := by
  rw [Option.some.inj (hws.symm.trans hM)]
  exact covers_names (l := [])

/-- A command's list with a register beside the names. -/
theorem covers_listed_at (hws : c.registers = some ws) (hM : c.registers = some (r0 a :: (RegName.names M).map RegName.At)) :
    Listed ws a ∧ Covers RegName.At M (Listed ws) := by
  rw [Option.some.inj (hws.symm.trans hM)]
  exact ⟨⟨r0 a, List.mem_cons_self, rfl⟩, covers_names (l := [r0 a])⟩

end

end Sys2Proof.Machine
end

section
/-! PROOFS. The registers that the operations of the shared operations of laws, generators, gates, converters and the Paddock write. -/

namespace Sys2Proof.Machine

set_option Elab.async false

variable {W : Nat → Prop} {s0 s t : State} {ws : List (Nat → Prop)}

/-! ## Ops -/

theorem Writes.setDomain {d v} (hW : Covers RegName.At 0x100000000000000000000000000000000000000000000000000 W) (h : Writes W s0 s) :
    Writes W s0 (s.setDomain d v) := by
  unfold State.setDomain
  exact .setf (hW.at0 .PWR_STAT) (.ite (.quiet (Keeps.set_keeper rfl) h) h)

theorem Writes.powerMirror (hW : Covers RegName.At 0x180000000000000000000000000000000000000000000000000 W) (h : Writes W s0 s) :
    Writes W s0 s.powerMirror := by
  unfold State.powerMirror
  exact .setb (hW.at0 .PWR_STAT) (.forN h (fun _ _ h2 => .setf (hW.at0 .PWR_REQ) h2))

theorem Writes.raise {ds} (hW : Covers RegName.At 0x180000000000000000000000000000000000000000000000000 W) (h : Writes W s0 s) :
    Writes W s0 (s.raise ds) := by
  unfold State.raise
  exact .powerMirror hW.sub (.foldlPair (fun _ _ hp => .quiet (State.raiseStep_keeps rfl) hp) _ (.each (.quiet (State.modPower_keeps rfl) h)
      (fun _ _ h1 => .setDomain hW.sub h1)))

theorem Writes.powerRecord {unit dom kind} (hW : Covers RegName.At 0x50000000000000000000000000000000000000000000000000 W) (h : Writes W s0 s) :
    Writes W s0 (s.powerRecord unit dom kind) := by
  unfold State.powerRecord
  exact .ite (.wr (hW.at0 .PWR_EVT) (.wr (hW.at0 .PWR_REFUSE_ID) h)) (.quiet (State.modeWake_keeps rfl) (.wr (hW.at0 .PWR_EVT)
      (.wr (hW.at0 .PWR_REFUSE_ID) h)))

theorem Writes.abortEntry {unit t req} (hW : Covers RegName.At 0x1D4000000000000000000000000000000000000000000000000 W) (h : Writes W s0 s) :
    Writes W s0 (s.abortEntry unit t req) := by
  unfold State.abortEntry
  refine .powerMirror hW.sub (.ite ?_ ?_)
  · exact .powerRecord hW.sub (.setf (hW.at0 .PWR_STAT) (.each (.raise hW.sub (.each (.quiet (State.modPower_keeps rfl) h) (fun _ _ h2 => .ite
        (.setDomain hW.sub h2) h2))) (fun _ _ h4 => .inc (hW.at1 .PWR_CNT_ABT) h4)))
  · exact .quiet (State.leaveWfi_keeps rfl) (.powerRecord hW.sub (.setf (hW.at0 .PWR_STAT) (.each (.raise hW.sub (.each
        (.quiet (State.modPower_keeps rfl) h) (fun _ _ h6 => .ite (.setDomain hW.sub h6) h6))) (fun _ _ h8 => .inc (hW.at1 .PWR_CNT_ABT) h8))))

theorem Writes.wakeTeam {unit t} (hW : Covers RegName.At 0x1D4000000000000000000000000000000000000000000000000 W) (h : Writes W s0 s) :
    Writes W s0 (s.wakeTeam unit t) := by
  unfold State.wakeTeam
  split
  · exact .ite (.abortEntry hW.sub h) (.ite (.raise hW.sub (.abortEntry hW.sub h)) h)
  · exact .ite h (.powerRecord hW.sub (.raise hW.sub h))

theorem Writes.irqDeliver {t src unit} (hW : Covers RegName.At 0x1D4000000000000000000000000000000000000000000000000 W) (h : Writes W s0 s) :
    Writes W s0 (s.irqDeliver t src unit) := by
  unfold State.irqDeliver
  refine .ite h (.ite (.wakeTeam hW.sub h) ?_)
  split
  · exact .each h (fun _ _ h2 => .quiet (State.modCore_keeps rfl) h2)
  · exact h

theorem Writes.irqBy {src unit} (hW : Covers RegName.At 0x1D4000000000000000000000000000000000000000000000000 W) (h : Writes W s0 s) :
    Writes W s0 (s.irqBy src unit) := by
  unfold State.irqBy
  exact .irqDeliver hW.sub (.irqDeliver hW.sub (.quiet (fun k => Keeps.set_irqPend rfl k fun i => by simpa using i) h))

theorem Writes.irq {src} (hW : Covers RegName.At 0x1D4000000000000000000000000000000000000000000000000 W) (h : Writes W s0 s) :
    Writes W s0 (s.irq src) := by
  unfold State.irq
  exact .irqBy hW.sub h

theorem Writes.freeTimes {f} (h : Writes W s0 s) (hf : ∀ t, Writes W s0 t → Writes W s0 (f t)) : Writes W s0 (s.freeTimes f) := by
  have hdrawn : Writes W s0 s.drawWord.2 := .quiet (State.drawWord_keeps rfl) h
  unfold State.freeTimes
  dsimp only
  split
  · exact hdrawn
  · exact hf _ hdrawn
  · exact hf _ (hf _ hdrawn)

theorem Writes.overBridge {f} (h : Writes W s0 s) (hf : ∀ t, Writes W s0 t → Writes W s0 (f t)) : Writes W s0 (s.overBridge f) :=
  .ite (hf s h) (.freeTimes h hf)

theorem Writes.access {core answers f} (h : Writes W s0 s) (hf : ∀ t, Writes W s0 t → Writes W s0 (f t)) :
    Writes W s0 (s.access core answers f) :=
  .ite (.overBridge h hf) (.quiet (State.accessFault_keeps rfl) h)

theorem Writes.byCore {core d f} (h : Writes W s0 s) (hf : ∀ t, Writes W s0 t → Writes W s0 (f t)) : Writes W s0 (s.byCore core d f) :=
  .access h hf

/-! ## LawOps -/

theorem Writes.setOwned {e l b} (hW : Covers RegName.At 0x800000000000000000000000000000000000000000000000 W) (h : Writes W s0 s) :
    Writes W s0 (s.setOwned e l b) := by
  unfold State.setOwned
  exact .each h (fun _ _ h2 => .setb (hW.at1 .PWM_STAT) h2)

theorem Writes.undoEnd {e l} (hW : Covers RegName.At 0x2030C00000000000000000000000000000 W) (h : Writes W s0 s) : Writes W s0 (s.undoEnd e l) := by
  unfold State.undoEnd
  split
  · exact h
  · refine .ite h (State.each_induction (P := Writes W s0) (fun _ w hw hu => .wr (hW.endRegs (List.of_mem_zip hw).1) hu) ?_)
    exact .modCe (.quiet (Keeps.set_paddock rfl) (.quiet (State.modLaw_keeps rfl)
      (.modCe h)))

theorem Writes.endSection {e l} (hW : Covers (RegName.AtLaw e l) 0x1000000000000000000200000000000000 W) (h : Writes W s0 s) :
    Writes W s0 (s.endSection e l) := by
  unfold State.endSection
  exact .setf (hW.own .LAW_RSTAT) (.setf (hW.own .CE_STATUS) (.setf (hW.own .CE_STATUS) (.quiet (State.modLaw_keeps rfl) h)))

theorem Writes.reinBack {e l} (hW : Covers (RegName.AtLaw e l) 0x1000000000000000000000000000000000 W) (h : Writes W s0 s) :
    Writes W s0 (s.reinBack e l) := by
  unfold State.reinBack
  exact .setf (hW.own .LAW_RSTAT) (.quiet (State.modLaw_keeps rfl) h)

theorem Writes.setLast {e l code} (hW : Covers (RegName.AtLaw e l) 0x1000000000000000000000000000000000 W) (h : Writes W s0 s) :
    Writes W s0 (s.setLast e l code) := by
  unfold State.setLast
  exact .setf (hW.own .LAW_RSTAT) h

theorem Writes.lawDisable {e l} (hW : Covers RegName.At 0x800000000000003130C00000000000000200000000000000 W) (h : Writes W s0 s) :
    Writes W s0 (s.lawDisable e l) := by
  unfold State.lawDisable
  exact .ite (.reinBack hW.law (.setLast hW.law (.setf (hW.at2 .LAW_CTRL) (.setf (hW.at2 .LAW_CTRL) (.quiet (State.modLaw_keeps rfl)
      (.endSection hW.law (.ite (.setOwned hW.sub (.undoEnd hW.sub h)) h))))))) (.ite (.setOwned hW.sub (.undoEnd hW.sub h)) h)

theorem Writes.engineStart {e} (hW : Covers RegName.At 0x180000000000000 W) (h : Writes W s0 s) : Writes W s0 (s.engineStart e) := by
  unfold State.engineStart
  exact .ite h (.modCe (.wr (hW.at1 .CE_FCNT) (.setf (hW.at1 .CE_CTRL) h)))

theorem Writes.miss {e l cause t hold} (hW : Covers (RegName.AtLaw e l) 0x3024000000000000000200000000000000 W) (h : Writes W s0 s) :
    Writes W s0 (s.miss e l cause t hold) := by
  unfold State.miss
  refine .ite ?_ ?_
  · exact .reinBack hW.sub (.setLast hW.sub (.setf (hW.own .LAW_STAT) (.inc (hW.own .LAW_CNT_MISS) (.ite (.inc (hW.own .LAW_CNT_SAT)
        (.quiet (State.modLaw_keeps rfl) (.endSection hW.sub h))) (.quiet (State.modLaw_keeps rfl) (.endSection hW.sub h))))))
  · exact .setLast hW.sub (.setf (hW.own .LAW_STAT) (.inc (hW.own .LAW_CNT_MISS) (.ite (.inc (hW.own .LAW_CNT_SAT) (.quiet (State.modLaw_keeps rfl)
        (.endSection hW.sub h))) (.quiet (State.modLaw_keeps rfl) (.endSection hW.sub h)))))

theorem Writes.lawFrame {e f l} (hW : Covers RegName.At 0x1000000000000000000200000000000000 W) (h : Writes W s0 s) :
    Writes W s0 (s.lawFrame e f l) := by
  unfold State.lawFrame
  exact .ite (.quiet (State.modLaw_keeps rfl) (.ite (.reinBack hW.law (.ite (.endSection hW.law h) h)) h)) h

theorem Writes.frameStart {e} (hW : Covers RegName.At 0x1000000000000000000340000000000000 W) (h : Writes W s0 s) :
    Writes W s0 (s.frameStart e) := by
  unfold State.frameStart
  exact .ite (.modCe (.wr (hW.at1 .CE_FCNT) (.forN (.ite (.setf (hW.at1 .CE_STATUS) (.inc (hW.at1 .CE_CNT_FRAME) h)) h)
      (fun _ _ h2 => .lawFrame hW.sub h2)))) h

theorem Writes.frames {kind idx} (hW : Covers RegName.At 0x1000000000000000000340000000000000 W) (h : Writes W s0 s) :
    Writes W s0 (s.frames kind idx) := by
  unfold State.frames
  exact .forN h (fun _ _ h2 => .ite (.frameStart hW.sub h2) h2)

theorem Writes.undoOutputs {e l} (hW : Covers RegName.At 0x600000000000000000000000000000000000000000000 W) (h : Writes W s0 s) :
    Writes W s0 (s.undoOutputs e l) := by
  unfold State.undoOutputs
  refine .ite (.forN h ?_) h
  intro _ _ h2
  split
  · exact h2
  · split
    · exact h2
    · exact .ite (.wr (written_ite (hW.at1 .PWM_CMPA) (hW.at1 .PWM_CMPB)) h2) h2

theorem Writes.lawTripStop {e l} (hW : Covers RegName.At 0x600000000003000000000000000000200000000000000 W) (h : Writes W s0 s) :
    Writes W s0 (s.lawTripStop e l) := by
  unfold State.lawTripStop
  refine .ite ?_ ?_
  · refine .reinBack hW.law (.ite ?_ ?_)
    · refine .endSection hW.law (.ite ?_ ?_)
      · exact .quiet (State.modLaw_keeps rfl) (.quiet (State.modLaw_keeps rfl) (.ite (.setLast hW.law (.ite (.setf (hW.at2 .LAW_STAT)
            (.undoOutputs hW.sub h)) (.undoOutputs hW.sub h))) (.ite (.setf (hW.at2 .LAW_STAT) (.undoOutputs hW.sub h)) (.undoOutputs hW.sub h))))
      · exact .quiet (State.modLaw_keeps rfl) (.ite (.setLast hW.law (.ite (.setf (hW.at2 .LAW_STAT) (.undoOutputs hW.sub h))
            (.undoOutputs hW.sub h))) (.ite (.setf (hW.at2 .LAW_STAT) (.undoOutputs hW.sub h)) (.undoOutputs hW.sub h)))
    · refine .ite ?_ ?_
      · exact .quiet (State.modLaw_keeps rfl) (.quiet (State.modLaw_keeps rfl) (.ite (.setLast hW.law (.ite (.setf (hW.at2 .LAW_STAT)
            (.undoOutputs hW.sub h)) (.undoOutputs hW.sub h))) (.ite (.setf (hW.at2 .LAW_STAT) (.undoOutputs hW.sub h)) (.undoOutputs hW.sub h))))
      · exact .quiet (State.modLaw_keeps rfl) (.ite (.setLast hW.law (.ite (.setf (hW.at2 .LAW_STAT) (.undoOutputs hW.sub h))
            (.undoOutputs hW.sub h))) (.ite (.setf (hW.at2 .LAW_STAT) (.undoOutputs hW.sub h)) (.undoOutputs hW.sub h)))
  · refine .ite ?_ ?_
    · refine .endSection hW.law (.ite ?_ ?_)
      · exact .quiet (State.modLaw_keeps rfl) (.quiet (State.modLaw_keeps rfl) (.ite (.setLast hW.law (.ite (.setf (hW.at2 .LAW_STAT)
            (.undoOutputs hW.sub h)) (.undoOutputs hW.sub h))) (.ite (.setf (hW.at2 .LAW_STAT) (.undoOutputs hW.sub h)) (.undoOutputs hW.sub h))))
      · exact .quiet (State.modLaw_keeps rfl) (.ite (.setLast hW.law (.ite (.setf (hW.at2 .LAW_STAT) (.undoOutputs hW.sub h))
            (.undoOutputs hW.sub h))) (.ite (.setf (hW.at2 .LAW_STAT) (.undoOutputs hW.sub h)) (.undoOutputs hW.sub h)))
    · refine .ite ?_ ?_
      · exact .quiet (State.modLaw_keeps rfl) (.quiet (State.modLaw_keeps rfl) (.ite (.setLast hW.law (.ite (.setf (hW.at2 .LAW_STAT)
            (.undoOutputs hW.sub h)) (.undoOutputs hW.sub h))) (.ite (.setf (hW.at2 .LAW_STAT) (.undoOutputs hW.sub h)) (.undoOutputs hW.sub h))))
      · exact .quiet (State.modLaw_keeps rfl) (.ite (.setLast hW.law (.ite (.setf (hW.at2 .LAW_STAT) (.undoOutputs hW.sub h))
            (.undoOutputs hW.sub h))) (.ite (.setf (hW.at2 .LAW_STAT) (.undoOutputs hW.sub h)) (.undoOutputs hW.sub h)))

theorem Writes.lawsOnLine {n gs} (hW : Covers RegName.At 0x600000000003000000000000000000200000000000000 W) (h : Writes W s0 s) :
    Writes W s0 (s.lawsOnLine n gs) := by
  unfold State.lawsOnLine
  exact .forN h (fun _ _ h2 => .forN h2 (fun _ _ h4 => .ite (.lawTripStop hW.sub h4) h4))

theorem Writes.startSection {e l look pc t sel} (hW : Covers RegName.At 0x1000000000000000000200000000000000 W) (h : Writes W s0 s) :
    Writes W s0 (s.startSection e l look pc t sel) := by
  unfold State.startSection
  exact .ite (.setf (hW.at2 .LAW_RSTAT) (.setf (hW.at1 .CE_STATUS) (.quiet (State.modLaw_keeps rfl) (.modCe h)))) (.setf (hW.at1 .CE_STATUS)
      (.quiet (State.modLaw_keeps rfl) (.modCe h)))

theorem Writes.lawTrigger {e l} (hW : Covers RegName.At 0x30E4000000000000000200000000000000 W) (h : Writes W s0 s) :
    Writes W s0 (s.lawTrigger e l) := by
  unfold State.lawTrigger
  refine .ite (.ite ?_ ?_) h
  · exact .setf (hW.at2 .LAW_STAT) (.quiet (State.modLaw_keeps rfl) h)
  · exact .ite (.inc (hW.at2 .LAW_CNT_STRAY) h) (.ite (.ite (.startSection hW.sub (.setf (hW.at2 .LAW_RSTAT)
        (.quiet (State.acceptTrigger_keeps rfl) h))) (.inc (hW.at2 .LAW_CNT_VOID) (.miss hW.law (.quiet (State.acceptTrigger_keeps rfl) h))))
        (.startSection hW.sub (.quiet (State.acceptTrigger_keeps rfl) h)))

theorem Writes.lawSource {kind idx} (hW : Covers RegName.At 0x30E4000000000000000200000000000000 W) (h : Writes W s0 s) :
    Writes W s0 (s.lawSource kind idx) := by
  unfold State.lawSource
  exact .forN h (fun _ _ h2 => .forN h2 (fun _ _ h4 => .ite (.lawTrigger hW.sub h4) h4))

theorem Writes.dSet {e l sel k v tag} (hW : Covers (RegName.AtLaw e l) 0x2000000000000000000000000000000000 W) (h : Writes W s0 s) :
    Writes W s0 (s.dSet e l sel k v tag) := by
  have hfile : ∀ c : CeSt, c.laws.length = 4 → (c.modFile l sel (fun b => b.write k (BitVec.ofInt 16 v) tag)).laws.length = 4 := by
    intro c hc
    cases sel <;> simpa [CeSt.modFile] using hc
  have hmod := h.quiet (fun q => State.modCe_keeps (e := e) rfl q hfile)
  unfold State.dSet
  exact .ite (.quiet (State.modLaw_keeps rfl) (.setb (hW.own .LAW_STAT) hmod)) hmod

theorem Writes.engineStop {e} (hW : Covers RegName.At 0x800000000000003130C00000000000000200000000000000 W) (h : Writes W s0 s) :
    Writes W s0 (s.engineStop e) := by
  unfold State.engineStop
  exact .forN h (fun _ _ h2 => .lawDisable hW.sub h2)

/-! ## GenOps -/

theorem Writes.dischargeEnd (hW : Covers RegName.At 0x4000000000000000000 W) (h : Writes W s0 s) : Writes W s0 s.dischargeEnd := by
  unfold State.dischargeEnd
  exact .quiet (fun k => Keeps.set_gate rfl k fun i => by simpa using i) (.setf (hW.at0 .DSC_STAT) h)

theorem Writes.refreshTstate {g} (hW : Covers RegName.At 0x800000000000000000000000000000000000000000000000 W) (h : Writes W s0 s) :
    Writes W s0 (s.refreshTstate g) := by
  unfold State.refreshTstate
  exact .ite (.setf (hW.at1 .PWM_STAT) h) h

theorem Writes.lineInactive {n} (hW : Covers RegName.At 0x200000000800000000000000000000000000000000000000000000000 W) (h : Writes W s0 s) :
    Writes W s0 (s.lineInactive n) := by
  unfold State.lineInactive
  exact .forN (.setf (hW.at0 .TRP_LVL) h) (fun _ _ h2 => .refreshTstate hW.sub h2)

theorem Writes.resolverFree {g} (hW : Covers RegName.At 0x200000000000000000000000000000000000000000000000000 W) (h : Writes W s0 s) :
    Writes W s0 (s.resolverFree g) := by
  unfold State.resolverFree
  exact .forN h (fun _ _ h2 => .ite (.setf (hW.at1 .RES_STAT) h2) h2)

theorem Writes.genStop {g} (hW : Covers RegName.At 0x200840800000000000000000000000000000000000000000000 W) (h : Writes W s0 s) :
    Writes W s0 (s.genStop g) := by
  unfold State.genStop
  exact .ite h (.resolverFree hW.sub (.quiet (State.modPg_keeps rfl) (.quiet (State.bothOff_keeps rfl) (.wr (hW.at1 .PWM_CNTR) (.ite
      (.setf (hW.at1 .PWM_STAT) (.setf (hW.at1 .PWM_STAT) (.setf (hW.at1 .PWM_STAT) (.setf (hW.at1 .PWM_CTRL) h)))) (.setf (hW.at1 .PWM_STAT)
      (.setf (hW.at1 .PWM_STAT) (.setf (hW.at1 .PWM_CTRL) h))))))))

theorem Writes.genTripAt {g t} (hW : Covers RegName.At 0x1D4810000000000000000000000000004000000000000000000 W) (h : Writes W s0 s) :
    Writes W s0 (s.genTripAt g t) := by
  unfold State.genTripAt
  refine .ite (.setf (hW.at1 .PWM_STAT) h) ?_
  refine .ite ?_ ?_
  · exact .dischargeEnd hW.sub (.irq hW.sub (.quiet (State.applyPattern_keeps rfl) (.inc (hW.at1 .PWM_CNT_TRIP) (.setf (hW.at1 .PWM_STAT)
        (.setf (hW.at1 .PWM_STAT) (.setf (hW.at1 .PWM_STAT) h))))))
  · exact .irq hW.sub (.quiet (State.applyPattern_keeps rfl) (.inc (hW.at1 .PWM_CNT_TRIP) (.setf (hW.at1 .PWM_STAT) (.setf (hW.at1 .PWM_STAT)
        (.setf (hW.at1 .PWM_STAT) h)))))

theorem Writes.tripGens {n gs d} (hW : Covers RegName.At 0x1D4810000000000000000000000000004000000000000000000 W) (h : Writes W s0 s) :
    Writes W s0 (s.tripGens n gs d) := by
  unfold State.tripGens
  exact .each h (fun _ _ h2 => .ite (.genTripAt hW.sub h2) h2)

theorem Writes.lineUp {n gs d} (hW : Covers RegName.At 0x7800001D4810600000000003000000000000004000200000000000000 W) (h : Writes W s0 s) :
    Writes W s0 (s.lineUp n gs d) := by
  unfold State.lineUp
  exact .lawsOnLine hW.sub (.tripGens hW.sub (.irq hW.sub (.wr (hW.at1 .TRP_TIME) (.inc (hW.at1 .TRP_CNT) (.setf (hW.at0 .TRP_LATCH)
      (.setf (hW.at0 .TRP_LVL) h))))))

theorem Writes.lineActive {n} (hW : Covers RegName.At 0x7800001D4810600000000003000000000000004000200000000000000 W) (h : Writes W s0 s) :
    Writes W s0 (s.lineActive n) := by
  unfold State.lineActive
  exact .ite h (.lineUp hW.sub h)

theorem Writes.setPat {g v} (hW : Covers RegName.At 0x400000000000000000000000000000000000000000000000 W) (h : Writes W s0 s) :
    Writes W s0 (s.setPat g v) := by
  unfold State.setPat
  exact .ite h (.ite (.quiet (State.applyPattern_keeps rfl) (.setf (hW.at1 .PWM_SAFE) h)) (.setf (hW.at1 .PWM_SAFE) h))

/-! ## GateOps -/

theorem Writes.setFltBit {n b} (hW : Covers RegName.At 0x60000000000000000000000 W) (h : Writes W s0 s) : Writes W s0 (s.setFltBit n b) := by
  unfold State.setFltBit
  exact .ite (.setb (hW.at0 .GDC_FLT_LO) h) (.setb (hW.at0 .GDC_FLT_HI) h)

theorem Writes.latchFault {n code} (hW : Covers RegName.At 0x61004000000000000000000 W) (h : Writes W s0 s) : Writes W s0 (s.latchFault n code) := by
  unfold State.latchFault
  exact .ite (.setFltBit hW.sub (.setf (hW.at1 .GCH_STAT) (.ite (.dischargeEnd hW.sub h) h))) (.ite (.dischargeEnd hW.sub h) h)

theorem Writes.setHvState {n v} (hW : Covers RegName.At 0x1000000000000000000000 W) (h : Writes W s0 s) : Writes W s0 (s.setHvState n v) := by
  unfold State.setHvState
  exact .setf (hW.at1 .GCH_STAT) h

theorem Writes.setQual {n v} (hW : Covers RegName.At 0x1000000000000000000000 W) (h : Writes W s0 s) : Writes W s0 (s.setQual n v) := by
  unfold State.setQual
  exact .setf (hW.at1 .GCH_STAT) h

theorem Writes.clampBin {n k} (hW : Covers RegName.At 0x20000000000000000000 W) (h : Writes W s0 s) : Writes W s0 (s.clampBin n k) := by
  unfold State.clampBin
  exact .setf (hW.at2 .GCH_BIN) (.setf (hW.at2 .GCH_BIN) h)

theorem Writes.beginEdge {n rise} (hW : Covers RegName.At 0x1020000000000000000000 W) (h : Writes W s0 s) : Writes W s0 (s.beginEdge n rise) := by
  unfold State.beginEdge
  exact .quiet (State.modHv_keeps rfl) (.ite (.clampBin hW.sub (.ite (.setQual hW.sub h) h)) (.ite (.setQual hW.sub h) h))

theorem Writes.hvCommand {n on} (hW : Covers RegName.At 0x1020000000000000000000 W) (h : Writes W s0 s) : Writes W s0 (s.hvCommand n on) := by
  unfold State.hvCommand
  exact .ite (.quiet (State.modHv_keeps rfl) h) (.ite (.ite (.quiet (State.hvForceOff_keeps rfl) (.quiet (State.modHv_keeps rfl) h))
      (.quiet (State.modHv_keeps rfl) h)) (.ite (.quiet (State.modHv_keeps rfl) h) (.ite (.quiet (State.modHv_keeps rfl) h) (.beginEdge hW.sub
      (.quiet (State.modHv_keeps rfl) h)))))

theorem Writes.path2Release {d} (hW : Covers RegName.At 0x1020000000000000000000 W) (h : Writes W s0 s) : Writes W s0 (s.path2Release d) := by
  unfold State.path2Release
  exact .each h (fun _ _ h2 => .hvCommand hW.sub (.quiet (State.modHv_keeps rfl) h2))

theorem Writes.path2Channel {n} (hW : Covers RegName.At 0x1020000000000000000000 W) (h : Writes W s0 s) : Writes W s0 (s.path2Channel n) := by
  unfold State.path2Channel
  exact .ite (.ite (.quiet (State.modHv_keeps rfl) h) (.ite h (.quiet (State.modHv_keeps rfl) h))) (.hvCommand hW.sub
      (.quiet (State.modHv_keeps rfl) h))

theorem Writes.path2 {d} (hW : Covers RegName.At 0x1020000000000000000000 W) (h : Writes W s0 s) : Writes W s0 (s.path2 d) := by
  unfold State.path2
  exact .each h (fun _ _ h2 => .path2Channel hW.sub h2)

theorem Writes.enterPlain {n} (hW : Covers RegName.At 0x1020000000000000000000 W) (h : Writes W s0 s) : Writes W s0 (s.enterPlain n) := by
  unfold State.enterPlain
  exact .ite (.setHvState hW.sub (.setQual hW.sub h)) (.hvCommand hW.sub (.setHvState hW.sub (.setQual hW.sub h)))

theorem Writes.gatesOn (hW : Covers RegName.At 0x1020000000000000000000 W) (h : Writes W s0 s) : Writes W s0 s.gatesOn := by
  unfold State.gatesOn
  exact .forN (.forN h (fun _ _ h2 => .hvCommand hW.sub h2)) (fun _ _ h4 => .quiet (State.lvUpdate_keeps rfl) h4)

/-! ## AdcOps -/

theorem Writes.urgentRefuse {u q} (hW : Covers RegName.At 0x400 W) (h : Writes W s0 s) : Writes W s0 (s.urgentRefuse u q) := by
  unfold State.urgentRefuse
  exact .quiet (State.urgentAnswer_keeps rfl) (.inc (hW.at1 .ADC_CNT_UREF) h)

theorem Writes.startCal {u boot} (hW : Covers RegName.At 0x10000 W) (h : Writes W s0 s) : Writes W s0 (s.startCal u boot) := by
  unfold State.startCal
  exact .quiet (State.modAu_keeps rfl) (.setf (hW.at1 .ADC_STATUS) h)

theorem Writes.adcMirror {u} (hW : Covers RegName.At 0x10000 W) (h : Writes W s0 s) : Writes W s0 (s.adcMirror u) := by
  unfold State.adcMirror
  exact .setf (hW.at1 .ADC_STATUS) (.setb (hW.at1 .ADC_STATUS) (.setb (hW.at1 .ADC_STATUS) (.setb (hW.at1 .ADC_STATUS) h)))

theorem Writes.adcStop {u} (hW : Covers RegName.At 0x10000 W) (h : Writes W s0 s) : Writes W s0 (s.adcStop u) := by
  unfold State.adcStop
  exact .adcMirror hW.sub (.setf (hW.at1 .ADC_STATUS) (.quiet (State.modAu_keeps rfl) h))

theorem Writes.setPending {u t b} (hW : Covers RegName.At 0x10000 W) (h : Writes W s0 s) : Writes W s0 (s.setPending u t b) := by
  unfold State.setPending
  exact .setb (hW.at1 .ADC_STATUS) h

theorem Writes.countWaiting {u e} (hW : Covers RegName.At 0x100 W) (h : Writes W s0 s) : Writes W s0 (s.countWaiting u e) := by
  unfold State.countWaiting
  exact .forN h (fun _ _ h2 => .ite (.quiet (State.modAu_keeps rfl) (.inc (hW.at1 .ADC_CNT_COLL) h2)) h2)

theorem Writes.startSampling {u smp e c} (hW : Covers RegName.At 0x10000 W) (h : Writes W s0 s) : Writes W s0 (s.startSampling u smp e c) := by
  unfold State.startSampling
  exact .adcMirror hW.sub (.quiet (State.modAu_keeps rfl) h)

theorem Writes.startEntry {u k slot by_ e} (hW : Covers RegName.At 0x10000 W) (h : Writes W s0 s) : Writes W s0 (s.startEntry u k slot by_ e) := by
  unfold State.startEntry
  exact .startSampling hW.sub h

theorem Writes.joinDeliver {k u} (hW : Covers RegName.At 0x30E4000000000000000200000000000200 W) (h : Writes W s0 s) :
    Writes W s0 (s.joinDeliver k u) := by
  unfold State.joinDeliver
  exact .ite (.inc (hW.at1 .ADC_CNT_OVRUN) h) (.ite (.lawSource hW.sub (.quiet (fun k => Keeps.set_joins rfl k fun i => by simpa using i) h))
      (.quiet (fun k => Keeps.set_joins rfl k fun i => by simpa using i) h))

theorem Writes.sequenceComplete {u t} (hW : Covers RegName.At 0x30E4000000000000000200000000000200 W) (h : Writes W s0 s) :
    Writes W s0 (s.sequenceComplete u t) := by
  unfold State.sequenceComplete
  exact .ite (.joinDeliver hW.sub (.lawSource hW.sub (.quiet (State.modAu_keeps rfl) h))) (.lawSource hW.sub (.quiet (State.modAu_keeps rfl) h))

theorem Writes.startTest {u} (hW : Covers RegName.At 0x10000 W) (h : Writes W s0 s) : Writes W s0 (s.startTest u) := by
  unfold State.startTest
  exact .ite h (.startSampling hW.sub h)

theorem Writes.slotTrigger {u t} (hW : Covers RegName.At 0x200 W) (h : Writes W s0 s) : Writes W s0 (s.slotTrigger u t) := by
  unfold State.slotTrigger
  exact .ite h (.ite (.inc (hW.at1 .ADC_CNT_OVRUN) h) (.quiet (State.modAu_keeps rfl) (.quiet (State.adcSkew_keeps rfl) h)))

theorem Writes.adcEvent {kind idx} (hW : Covers RegName.At 0x200 W) (h : Writes W s0 s) : Writes W s0 (s.adcEvent kind idx) := by
  unfold State.adcEvent
  exact .forN h (fun _ _ h2 => .forN h2 (fun _ _ h4 => .ite (.slotTrigger hW.sub h4) h4))

theorem Writes.startUrgent {u q e} (hW : Covers RegName.At 0x10100 W) (h : Writes W s0 s) : Writes W s0 (s.startUrgent u q e) := by
  unfold State.startUrgent
  exact .countWaiting hW.sub (.startEntry hW.sub h)

theorem Writes.adcContinue {u e} (hW : Covers RegName.At 0x10100 W) (h : Writes W s0 s) : Writes W s0 (s.adcContinue u e) := by
  unfold State.adcContinue
  dsimp only
  split
  · exact .startUrgent hW.sub (.quiet (State.modAu_keeps rfl) (.quiet (State.modAu_keeps rfl) h))
  · refine .ite (.adcMirror hW.sub (.quiet (State.modAu_keeps rfl) h)) ?_
    split
    · exact .startEntry hW.sub (.quiet (State.modAu_keeps rfl) h)
    · exact .adcMirror hW.sub (.quiet (State.modAu_keeps rfl) h)

theorem Writes.urgentEffect {u q e} (hW : Covers RegName.At 0x10580 W) (h : Writes W s0 s) : Writes W s0 (s.urgentEffect u q e) := by
  unfold State.urgentEffect
  refine .ite (.quiet (State.modAu_keeps rfl) h) ?_
  refine .ite ?_ ?_
  · exact .ite (.adcContinue hW.sub (.setf (hW.at1 .ADC_STATUS) (.urgentRefuse hW.sub (.quiet (State.modAu_keeps rfl) h))))
        (.setf (hW.at1 .ADC_STATUS) (.urgentRefuse hW.sub (.quiet (State.modAu_keeps rfl) h)))
  · split
    · exact .startUrgent hW.sub (.quiet (State.modAu_keeps rfl) h)
    · exact .ite (.ite (.adcMirror hW.sub (.inc (hW.at1 .ADC_CNT_COLL) (.quiet (State.modAu_keeps rfl) (.quiet (State.modAu_keeps rfl) h))))
          (.urgentRefuse hW.sub (.quiet (State.modAu_keeps rfl) h))) (.startUrgent hW.sub (.inc (hW.at1 .ADC_CNT_ABORT)
          (.quiet (State.modAu_keeps rfl) h)))

/-! ## PaddockOps -/

theorem Writes.recordEnd {late} (hW : Covers RegName.At 0x60000000000000000000000000000000000000000000 W) (h : Writes W s0 s) :
    Writes W s0 (s.recordEnd late) := by
  unfold State.recordEnd
  exact .ite (.setf (hW.at0 .PRC_STATUS) (.setf (hW.at0 .PRC_STATUS) (.quiet (State.modPaddock_keeps rfl) (.setf (hW.at0 .PRC_WRPTR)
      (.quiet (State.recordWrite_keeps rfl) h))))) (.quiet (State.modPaddock_keeps rfl) (.setf (hW.at0 .PRC_WRPTR)
      (.quiet (State.recordWrite_keeps rfl) h)))

theorem Writes.recordStart (hW : Covers RegName.At 0x70000000000000000000000000000000000000000000 W) (h : Writes W s0 s) :
    Writes W s0 s.recordStart := by
  unfold State.recordStart
  exact .ite (.recordEnd hW.sub (.quiet (State.recordWrite_keeps rfl) (.wr (hW.at0 .PRC_SEQ) (.quiet (State.modPaddock_keeps rfl) h))))
      (.quiet (State.recordAsk_keeps rfl) (.quiet (State.recordWrite_keeps rfl) (.wr (hW.at0 .PRC_SEQ) (.quiet (State.modPaddock_keeps rfl) h))))

theorem Writes.recordBoundary (hW : Covers RegName.At 0x70000000000000000000000000000000000000000000 W) (h : Writes W s0 s) :
    Writes W s0 s.recordBoundary := by
  unfold State.recordBoundary
  exact .ite (.ite (.recordStart hW.sub (.recordEnd hW.sub h)) (.ite (.recordStart hW.sub h) (.quiet (State.modPaddock_keeps rfl) h))) h

theorem Writes.recordAtMs (hW : Covers RegName.At 0x70000000000000000000000000000000000000000000 W) (h : Writes W s0 s) :
    Writes W s0 s.recordAtMs := by
  unfold State.recordAtMs
  exact .ite (.recordBoundary hW.sub h) h

theorem Writes.recordAtLoad {g} (hW : Covers RegName.At 0x70000000000000000000000000000000000000000000 W) (h : Writes W s0 s) :
    Writes W s0 (s.recordAtLoad g) := by
  unfold State.recordAtLoad
  exact .ite (.recordBoundary hW.sub h) h

theorem Writes.recordCopy {k id} (hW : Covers RegName.At 0x60000000000000000000000000000000000000000000 W) (h : Writes W s0 s) :
    Writes W s0 (s.recordCopy k id) := by
  unfold State.recordCopy
  exact .ite (.quiet (State.recordAsk_keeps rfl) (.quiet (State.modPaddock_keeps rfl) (.quiet (State.recordWrite_keeps rfl) h))) (.recordEnd hW.sub
      (.quiet (State.modPaddock_keeps rfl) (.quiet (State.recordWrite_keeps rfl) h)))

theorem Writes.recordControl {v} (hW : Covers RegName.At 0x8000000000000000000000000000000000000000000 W) (h : Writes W s0 s) :
    Writes W s0 (s.recordControl v) := by
  unfold State.recordControl
  exact .ite (.wrReg (hW.at0 .PRC_CTRL) h) (.ite h (.quiet (State.recordStop_keeps rfl) (.setf (hW.at0 .PRC_CTRL) h)))

/-! ## PwmOps -/

theorem Writes.resolverLock {g} (hW : Covers RegName.At 0x200000000000000000000000000000000000000000000000000 W) (h : Writes W s0 s) :
    Writes W s0 (s.resolverLock g) := by
  unfold State.resolverLock
  exact .forN h (fun _ _ h2 => .ite (.setb (hW.at1 .RES_STAT) h2) h2)

theorem Writes.pwmErr {g} (hW : Covers RegName.At 0x800000000000000000000000000000000000000000000000 W) (h : Writes W s0 s) :
    Writes W s0 (s.pwmErr g) := by
  unfold State.pwmErr
  exact .setf (hW.at1 .PWM_STAT) h

theorem Writes.genStart {g t} (hW : Covers RegName.At 0x800180000000000000000000000000000000000000000000 W) (h : Writes W s0 s) :
    Writes W s0 (s.genStart g t) := by
  unfold State.genStart
  dsimp only
  exact .quiet (State.modPg_keeps rfl) (.quiet (State.modPg_keeps rfl) (.wr (hW.at1 .PWM_ACTB) (.wr (hW.at1 .PWM_ACTA) (.setf (hW.at1 .PWM_STAT)
      (.setf (hW.at1 .PWM_STAT) h)))))

theorem Writes.setShadow {g k v} (hW : Covers RegName.At 0x100600000000000000000000000000000000000000000000 W) (h : Writes W s0 s) :
    Writes W s0 (s.setShadow g k v) := by
  unfold State.setShadow
  exact .wr (written_ite (hW.at1 .PWM_CMPA) (written_ite (hW.at1 .PWM_CMPB) (hW.at1 .PWM_PER))) (.quiet (State.modPg_keeps rfl) h)

theorem Writes.floatTake {g base w f} (hW : Covers RegName.At 0x20 W) (h : Writes W s0 s) : Writes W s0 (s.floatTake g base w f).1 := by
  unfold State.floatTake
  split
  · exact h
  · dsimp only
    split
    · exact h
    · split
      · exact .setf (hW.at0 .ACT_FLOAT) h
      · split
        · exact .setf (hW.at0 .ACT_FLOAT) h
        · exact h

theorem Writes.floatApply {g} (hW : Covers RegName.At 0x20 W) (h : Writes W s0 s) : Writes W s0 (s.floatApply g) := by
  unfold State.floatApply
  exact .ite (.forN (.ite (.modGate (.floatTake hW.sub h)) (.floatTake hW.sub h)) (fun _ _ h2 => .quiet (State.lvUpdate_keeps rfl) h2)) (.ite (.forN
      (.ite (.modGate (.floatTake hW.sub h)) (.floatTake hW.sub h)) (fun _ _ h4 => .quiet (State.lvUpdate_keeps rfl) h4)) h)

theorem Writes.loadCompares {g} (hW : Covers RegName.At 0x180000000000000000000000000000000000000000000 W) (h : Writes W s0 s) :
    Writes W s0 (s.loadCompares g) := by
  unfold State.loadCompares
  exact .wr (hW.at1 .PWM_ACTB) (.wr (hW.at1 .PWM_ACTA) h)

theorem Writes.loadPoint {g} (hW : Covers RegName.At 0x1F0000000001000000000000000000340000000000020 W) (h : Writes W s0 s) :
    Writes W s0 (s.loadPoint g) := by
  unfold State.loadPoint
  exact .floatApply hW.sub (.recordAtLoad hW.sub (.frames hW.sub (.loadCompares hW.sub h)))

theorem Writes.gaitHandover {g} (hW : Covers RegName.At 0x1000000000000000000000 W) (h : Writes W s0 s) : Writes W s0 (s.gaitHandover g) := by
  unfold State.gaitHandover
  exact .ite (.each h (fun _ _ h2 => .setHvState hW.sub h2)) h

theorem Writes.refEdge {g lvl t endT} (hW : Covers RegName.At 0x5000000000000000000000000000000000000000000000 W) (h : Writes W s0 s) :
    Writes W s0 (s.refEdge g lvl t endT) := by
  unfold State.refEdge
  exact .ite (.quiet (State.setR_keeps rfl) h) (.ite (.inc (hW.at1 .PWM_CNT_DROP) (.quiet (State.modPg_keeps rfl) h)) (.ite
      (.inc (hW.at1 .PWM_CNT_STRETCH) (.quiet (State.modPg_keeps rfl) (.quiet (State.setR_keeps rfl) (.quiet (State.commandEdge_keeps rfl) h))))
      (.quiet (State.setR_keeps rfl) (.quiet (State.commandEdge_keeps rfl) h))))

theorem Writes.courseEdge {g t} (hW : Covers RegName.At 0x5000000000000000000000000000000000000000000000 W) (h : Writes W s0 s) :
    Writes W s0 (s.courseEdge g t) := by
  unfold State.courseEdge
  exact .ite (.inc (hW.at1 .PWM_CNT_STRETCH) (.quiet (State.modPg_keeps rfl) h)) (.refEdge hW.sub h)

theorem Writes.cotRise {g} (hW : Covers RegName.At 0x5000000000000000000000000000000000000000000000 W) (h : Writes W s0 s) :
    Writes W s0 (s.cotRise g) := by
  unfold State.cotRise
  refine .ite ?_ ?_
  · exact .ite (.quiet (State.cotFell_keeps rfl) (.refEdge hW.sub (.quiet (State.modPg_keeps rfl) h))) (.quiet (State.modPg_keeps rfl) h)
  · refine .ite ?_ ?_
    · exact .ite (.quiet (State.modPg_keeps rfl) h) (.refEdge hW.sub (.quiet (State.modPg_keeps rfl) h))
    · exact .ite (.quiet (State.modPg_keeps rfl) (.quiet (State.modPg_keeps rfl) h)) (.ite (.quiet (State.modPg_keeps rfl) (.refEdge hW.sub
          (.quiet (State.modPg_keeps rfl) (.quiet (State.modPg_keeps rfl) h)))) (.quiet (State.modPg_keeps rfl) (.refEdge hW.sub
          (.quiet (State.modPg_keeps rfl) (.quiet (State.modPg_keeps rfl) h)))))

theorem Writes.tripResume {g} (hW : Covers RegName.At 0x800000000000000000000000000000000000000000000000 W) (h : Writes W s0 s) :
    Writes W s0 (s.tripResume g) := by
  unfold State.tripResume
  refine .ite (.ite ?_ ?_) h
  · exact .ite (.quiet (State.hiOn_keeps rfl) (.setf (hW.at1 .PWM_STAT) h)) (.quiet (State.hiOff_keeps rfl) (.setf (hW.at1 .PWM_STAT) h))
  · exact .ite (.quiet (State.modPg_keeps rfl) (.quiet (State.loOff_keeps rfl) (.setf (hW.at1 .PWM_STAT) h))) (.quiet (State.modPg_keeps rfl)
        (.quiet (State.hiOff_keeps rfl) (.setf (hW.at1 .PWM_STAT) h)))

theorem Writes.periodStartOne {g} (hW : Covers RegName.At 0x2008051F0000000001000000000001000000340000000000220 W) (h : Writes W s0 s) :
    Writes W s0 (s.periodStartOne g) := by
  unfold State.periodStartOne
  refine .quiet (State.ttSync_keeps rfl) (.adcEvent hW.sub (.resolverLock hW.sub (.gaitHandover hW.sub (.ite ?_ ?_))))
  · exact .cotRise hW.sub (.quiet (State.adoptMapping_keeps rfl) (.tripResume hW.sub (.ite (.loadPoint hW.sub (.quiet (State.modPg_keeps rfl)
        (.quiet (State.modPg_keeps rfl) h))) (.quiet (State.modPg_keeps rfl) (.quiet (State.modPg_keeps rfl) h)))))
  · exact .quiet (State.adoptMapping_keeps rfl) (.tripResume hW.sub (.ite (.loadPoint hW.sub (.quiet (State.modPg_keeps rfl)
        (.quiet (State.modPg_keeps rfl) h))) (.quiet (State.modPg_keeps rfl) (.quiet (State.modPg_keeps rfl) h))))

theorem Writes.syncMove {k} (hW : Covers RegName.At 0x8000000000000000000000000000000000000000000000 W) (h : Writes W s0 s) :
    Writes W s0 (s.syncMove k).1 := by
  unfold State.syncMove
  dsimp only
  split
  · exact h
  · exact .quiet (State.modPg_keeps rfl) (.inc (hW.at1 .PWM_CNT_SYNC) h)

theorem Writes.periodStart {n g} (hW : Covers RegName.At 0x20080D1F0000000001000000000001000000340000000000220 W) (h : Writes W s0 s) :
    Writes W s0 (s.periodStart n g) := by
  induction n generalizing s g with
  | zero => exact .periodStartOne hW.sub h
  | succ n ih => exact .each (.periodStartOne hW.sub h) (fun _ _ hu => .ite (ih (.syncMove hW.sub hu)) (.syncMove hW.sub hu))

theorem Writes.cotStart {g} (hW : Covers RegName.At 0x20080D1F0000000001000000000001000000340000000000220 W) (h : Writes W s0 s) :
    Writes W s0 (s.cotStart g) := by
  unfold State.cotStart
  exact .ite (.ite (.periodStart hW.sub h) (.ite (.inc (hW.at1 .PWM_CNT_SYNC) h) (.quiet (State.modPg_keeps rfl) h))) h

theorem Writes.cotFrom {g} (hW : Covers RegName.At 0x20080D1F0000000001000000000001000000340000000000220 W) (h : Writes W s0 s) :
    Writes W s0 (s.cotFrom g) := by
  unfold State.cotFrom
  exact .forN h (fun _ _ h2 => .ite (.cotStart hW.sub h2) h2)

/-! ## CanterCheck -/

theorem Writes.lawStart {e l} (hW : Covers RegName.At 0x800000000000000100000000000000000000000000000000 W) (h : Writes W s0 s) :
    Writes W s0 (s.lawStart e l) := by
  unfold State.lawStart
  exact .quiet (State.modLaw_keeps rfl) (.modCe (.setOwned hW.sub (.setf (hW.at2 .LAW_CTRL) (.setf (hW.at2 .LAW_CTRL) h))))

end Sys2Proof.Machine
end

section
/-! PROOFS. The registers that the operations of laws, replies and the gate commands write. -/

namespace Sys2Proof.Machine

set_option Elab.async false

variable {W : Nat → Prop} {s0 s t : State} {ws : List (Nat → Prop)}

/-! ## CanterOps -/

theorem Writes.writeOutputs {e l outs} (hW : Covers RegName.At 0x100600000000000000000000000000000000000000000000 W) (h : Writes W s0 s) :
    Writes W s0 (s.writeOutputs e l outs) := by
  unfold State.writeOutputs
  refine .ite h (.forN (.quiet (State.modLaw_keeps rfl) h) ?_)
  intro _ _ h2
  split
  · exact .setShadow hW.sub h2
  · exact h2

theorem Writes.completeRun {e l c t} (hW : Covers (RegName.AtLaw e l) 0x3030C00000000000000200000000000000 W) (h : Writes W s0 s) :
    Writes W s0 (s.completeRun e l c t) := by
  unfold State.completeRun
  refine .endSection hW.sub (.each ?_ (fun _ _ h2 => .quiet (State.present_keeps rfl) h2))
  refine .quiet (State.modLaw_keeps rfl) (.setLast hW.sub (.ite ?_ ?_))
  · refine .setf (hW.own .LAW_STAT) (.ite ?_ ?_)
    · exact .inc (hW.own .LAW_CNT_SAT) (.inc (hW.own .LAW_CNT_RUN) (.quiet (State.snapTags_keeps rfl) (.ite
          (.inc (written_ite (hW.own .LAW_CNT_HITB) (hW.own .LAW_CNT_HITA)) (.quiet (State.commitBank_keeps rfl) h)) h)))
    · exact .inc (hW.own .LAW_CNT_RUN) (.quiet (State.snapTags_keeps rfl) (.ite (.inc (written_ite (hW.own .LAW_CNT_HITB) (hW.own .LAW_CNT_HITA))
          (.quiet (State.commitBank_keeps rfl) h)) h))
  · refine .ite ?_ ?_
    · exact .inc (hW.own .LAW_CNT_SAT) (.inc (hW.own .LAW_CNT_RUN) (.quiet (State.snapTags_keeps rfl) (.ite
          (.inc (written_ite (hW.own .LAW_CNT_HITB) (hW.own .LAW_CNT_HITA)) (.quiet (State.commitBank_keeps rfl) h)) h)))
    · exact .inc (hW.own .LAW_CNT_RUN) (.quiet (State.snapTags_keeps rfl) (.ite (.inc (written_ite (hW.own .LAW_CNT_HITB) (hW.own .LAW_CNT_HITA))
          (.quiet (State.commitBank_keeps rfl) h)) h))

theorem Writes.putAcc {e l a z} (hW : Covers (RegName.AtLaw e l) 0x2000000000000000000000000000000000 W) (h : Writes W s0 s) :
    Writes W s0 (s.putAcc e l a z) := by
  unfold State.putAcc
  exact .ite (.setb (hW.own .LAW_STAT) (.modCe h)) (.modCe h)

theorem Writes.putSat {e l c d z} (hW : Covers (RegName.AtLaw e l) 0x2000000000000000000000000000000000 W) (h : Writes W s0 s) :
    Writes W s0 (s.putSat e l c d z) := by
  unfold State.putSat
  exact .dSet hW.sub h

theorem Writes.setCoef {e i v} (hW : Covers RegName.At 0x800000000000000000 W) (h : Writes W s0 s) : Writes W s0 (s.setCoef e i v) := by
  unfold State.setCoef
  exact .setf (hW.at2 .COEF_MEM) h

theorem Writes.canIssue {e l w f} (h : Writes W s0 s) (hf : ∀ t c n, Writes W s0 t → Writes W s0 (f t c n)) : Writes W s0 (s.canIssue e l w f) := by
  unfold State.canIssue
  split
  · exact h
  · refine .ite h ?_
    dsimp only
    split
    · exact h
    · exact hf _ _ _ (.quiet (State.modLaw_keeps rfl) (.modCe (.quiet (State.reach_keeps rfl) h)))

theorem Writes.endOf {e l c t} (hW : Covers (RegName.AtLaw e l) 0x3030C00000000000000200000000000000 W) (h : Writes W s0 s) :
    Writes W s0 (s.endOf e l c t) := by
  unfold State.endOf
  exact .ite (.setf (hW.own .LAW_RSTAT) (.quiet (State.modLaw_keeps rfl) (.endSection hW.sub h))) (.completeRun hW.sub h)

/-! ## Production -/

theorem Writes.timerRun {n per sync} (hW : Covers RegName.At 0x1800000000000000000000000000000000000000000000000000000000 W) (h : Writes W s0 s) :
    Writes W s0 (s.timerRun n per sync) := by
  unfold State.timerRun
  exact .quiet (State.ttStart_keeps rfl) (.setf (hW.at1 .TT_CTL) (.setf (hW.at1 .TT_CTL) (.setf (hW.at1 .TT_CTL) (.wr (hW.at1 .TT_PER) h))))

theorem Writes.loadFrame {e} (hW : Covers RegName.At 0x1800000000000000000000000000000000000000000080000000000000 W) (h : Writes W s0 s) :
    Writes W s0 (s.loadFrame e) := by
  unfold State.loadFrame
  refine .ite h ?_
  split
  · exact h
  · exact .ite (.timerRun hW.sub (.setf (hW.at1 .CE_CTRL) (.setf (hW.at1 .CE_CTRL) h))) (.ite (.timerRun hW.sub (.setf (hW.at1 .CE_CTRL)
        (.setf (hW.at1 .CE_CTRL) h))) (.setf (hW.at1 .CE_CTRL) (.setf (hW.at1 .CE_CTRL) h)))

theorem Writes.loadLaw {e l} (hW : Covers RegName.At 0x4F00200000000000000000000000000000 W) (h : Writes W s0 s) : Writes W s0 (s.loadLaw e l) := by
  unfold State.loadLaw
  split
  · exact h
  · refine .ite h (.quiet (State.modLaw_keeps rfl) (.ite ?_ ?_))
    · refine .forN ?_ (fun _ _ h6 => .wr (hW.at3 .LAW_PRD) h6)
      refine .setf (hW.at2 .LAW_LAH) (.setf (hW.at2 .LAW_CTRL) (.forN ?_ (fun _ _ h4 => .wr (hW.at3 .LAW_CAP) h4)))
      refine .forN ?_ (fun _ _ h2 => .wr (hW.at3 .LAW_OMAP) h2)
      split
      · refine .setf (hW.at2 .LAW_TIME) ?_
        split
        · refine .setf (hW.at2 .LAW_CTRL) (.setf (hW.at2 .LAW_CTRL) ?_)
          split
          · exact .setf (hW.at2 .LAW_CTRL) (.setf (hW.at2 .LAW_CTRL) h)
          · exact h
        · split
          · exact .setf (hW.at2 .LAW_CTRL) (.setf (hW.at2 .LAW_CTRL) h)
          · exact h
      · split
        · refine .setf (hW.at2 .LAW_CTRL) (.setf (hW.at2 .LAW_CTRL) ?_)
          split
          · exact .setf (hW.at2 .LAW_CTRL) (.setf (hW.at2 .LAW_CTRL) h)
          · exact h
        · split
          · exact .setf (hW.at2 .LAW_CTRL) (.setf (hW.at2 .LAW_CTRL) h)
          · exact h
    · refine .setf (hW.at2 .LAW_LAH) (.forN ?_ (fun _ _ h10 => .wr (hW.at3 .LAW_CAP) h10))
      refine .forN ?_ (fun _ _ h8 => .wr (hW.at3 .LAW_OMAP) h8)
      split
      · refine .setf (hW.at2 .LAW_TIME) ?_
        split
        · refine .setf (hW.at2 .LAW_CTRL) (.setf (hW.at2 .LAW_CTRL) ?_)
          split
          · exact .setf (hW.at2 .LAW_CTRL) (.setf (hW.at2 .LAW_CTRL) h)
          · exact h
        · split
          · exact .setf (hW.at2 .LAW_CTRL) (.setf (hW.at2 .LAW_CTRL) h)
          · exact h
      · split
        · refine .setf (hW.at2 .LAW_CTRL) (.setf (hW.at2 .LAW_CTRL) ?_)
          split
          · exact .setf (hW.at2 .LAW_CTRL) (.setf (hW.at2 .LAW_CTRL) h)
          · exact h
        · split
          · exact .setf (hW.at2 .LAW_CTRL) (.setf (hW.at2 .LAW_CTRL) h)
          · exact h

theorem Writes.prodEnd {e l c} (hW : Covers RegName.At 0x10060000000000303E400000000000000200000000000000 W) (h : Writes W s0 s) :
    Writes W s0 (s.prodEnd e l c) := by
  unfold State.prodEnd
  refine .ite ?_ ?_
  · exact .inc (hW.at2 .LAW_CNT_LSMP) (.miss hW.law (.quiet (Keeps.set_draws rfl) h))
  · refine .ite ?_ ?_
    · exact .inc (hW.at2 .LAW_CNT_NOFIT) (.miss hW.law (.quiet (Keeps.set_draws rfl) h))
    · refine .writeOutputs hW.sub (.quiet (State.modLaw_keeps rfl) (.ite ?_ ?_))
      · refine .inc (hW.at2 .LAW_CNT_HITA) (.setLast hW.law (.inc (hW.at2 .LAW_CNT_RUN) (.endSection hW.law ?_)))
        split
        · exact .quiet (State.putNat_keeps rfl) (.each (.quiet (State.modLaw_keeps rfl) (.quiet (Keeps.set_draws rfl) h))
              (fun _ _ h2 => .quiet (State.present_keeps rfl) h2))
        · exact .each (.quiet (State.modLaw_keeps rfl) (.quiet (Keeps.set_draws rfl) h)) (fun _ _ h4 => .quiet (State.present_keeps rfl) h4)
      · refine .setLast hW.law (.inc (hW.at2 .LAW_CNT_RUN) (.endSection hW.law ?_))
        split
        · exact .quiet (State.putNat_keeps rfl) (.each (.quiet (State.modLaw_keeps rfl) (.quiet (Keeps.set_draws rfl) h))
              (fun _ _ h6 => .quiet (State.present_keeps rfl) h6))
        · exact .each (.quiet (State.modLaw_keeps rfl) (.quiet (Keeps.set_draws rfl) h)) (fun _ _ h8 => .quiet (State.present_keeps rfl) h8)

theorem Writes.prodAhead {e l} (hW : Covers RegName.At 0x1000000000000000000000000000000000 W) (h : Writes W s0 s) :
    Writes W s0 (s.prodAhead e l) := by
  unfold State.prodAhead
  dsimp only
  split
  · exact .setf (hW.at2 .LAW_RSTAT) (.quiet (State.modLaw_keeps rfl) (.quiet (State.predictAll_keeps rfl) h))
  · exact .quiet (State.predictAll_keeps rfl) h

/-! ## Laws -/

theorem Writes.lawEnable {e l v} (hW : Covers RegName.At 0x100000000000000000000000000000000 W) (h : Writes W s0 s) :
    Writes W s0 (s.lawEnable e l v) := by
  unfold State.lawEnable
  exact .ite h (.setf (hW.at2 .LAW_CTRL) (.wrMasked (hW.at2 .LAW_CTRL) h))

theorem execCeDisable_writes {core e} (h : s.Inv) (hws : (Instr.ceDisable core e).registers = some ws) :
    Reaches (Writes (Listed ws) s) (execCeDisable core e s) := by
  have hW := covers_listed (at_ := RegName.At) (M := 0x800000000000003130C00000000000000280000000000000) hws rfl
  unfold execCeDisable
  exact .ofUnit (fun _ => .byCore (.refl h) (fun _ h2 => .setf (hW.at1 .CE_CTRL) (.engineStop hW.sub h2)))

theorem execCeEccDoubleError_writes {e} (h : s.Inv) (hws : (Instr.ceEccDoubleError e).registers = some ws) :
    Reaches (Writes (Listed ws) s) (execCeEccDoubleError e s) := by
  have hW := covers_listed (at_ := RegName.At) (M := 0x800000000000003130C00000000000000220000000000000) hws rfl
  unfold execCeEccDoubleError
  exact .ofUnit (fun _ => .ite (.inc (hW.at1 .CE_CNT_ECC) (.refl h)) (.each (.setf (hW.at1 .CE_STATUS) (.engineStop hW.sub (.refl h)))
      (fun _ _ h2 => .quiet (State.report_keeps rfl) h2)))

theorem execCoefMemWritePerformed_writes {e} (h : s.Inv) (hws : (Instr.coefMemWritePerformed e).registers = some ws) :
    Reaches (Writes (Listed ws) s) (execCoefMemWritePerformed e s) := by
  have hW := covers_listed (at_ := RegName.At) (M := 0x800000000000000000) hws rfl
  unfold execCoefMemWritePerformed
  refine .ofUnit (fun _ => ?_)
  split
  · exact .refl h
  · exact .ite (.refl h) (.setCoef hW.sub (.modCe (.refl h)))

theorem execLawDisable_writes {core e l} (h : s.Inv) (hws : (Instr.lawDisable core e l).registers = some ws) :
    Reaches (Writes (Listed ws) s) (execLawDisable core e l s) := by
  have hW := covers_listed (at_ := RegName.At) (M := 0x800000000000003130C00000000000000200000000000000) hws rfl
  unfold execLawDisable
  exact .ofUnit (fun _ => .byCore (.refl h) (fun _ h2 => .lawDisable hW.sub h2))

theorem execLawEnable_writes {core e l v} (h : s.Inv) (hws : (Instr.lawEnable core e l v).registers = some ws) :
    Reaches (Writes (Listed ws) s) (execLawEnable core e l v s) := by
  have hW := covers_listed (at_ := RegName.At) (M := 0x100000000000000000000000000000000) hws rfl
  unfold execLawEnable
  exact .ofUnit (fun _ => .byCore (.refl h) (fun _ h2 => .lawEnable hW.sub (.quiet (State.unloadLaw_keeps rfl) h2)))

theorem execLawFallbackWrite_writes {e l} (h : s.Inv) (hws : (Instr.lawFallbackWrite e l).registers = some ws) :
    Reaches (Writes (Listed ws) s) (execLawFallbackWrite e l s) := by
  have hW := covers_listed (at_ := RegName.At) (M := 0x100600000000000000000000000000000000000000000000) hws rfl
  unfold execLawFallbackWrite
  refine .ofUnit (fun _ => ?_)
  split
  · exact .refl h
  · exact .writeOutputs hW.sub (.quiet (State.modLaw_keeps rfl) (.quiet (State.reach_keeps rfl) (.refl h)))

theorem execLawLateMiss_writes {e l} (h : s.Inv) (hws : (Instr.lawLateMiss e l).registers = some ws) :
    Reaches (Writes (Listed ws) s) (execLawLateMiss e l s) := by
  have hW := covers_listed (at_ := RegName.At) (M := 0x3025000000000000000200000000000000) hws rfl
  unfold execLawLateMiss
  refine .ofUnit (fun _ => ?_)
  dsimp only
  split
  · exact .refl h
  · exact .ite (.miss hW.law (.inc (hW.at2 .LAW_CNT_LATE) (.quiet (State.reach_keeps rfl) (.refl h)))) (.refl h)

theorem execLawOutputWrite_writes {e l} (h : s.Inv) (hws : (Instr.lawOutputWrite e l).registers = some ws) :
    Reaches (Writes (Listed ws) s) (execLawOutputWrite e l s) := by
  have hW := covers_listed (at_ := RegName.At) (M := 0x10060000000000303E400000000000000200000000000000) hws rfl
  unfold execLawOutputWrite
  refine .ofUnit (fun _ => ?_)
  split
  · exact .prodEnd hW.sub (.quiet (State.reach_keeps rfl) (.refl h))
  · exact .refl h
  · exact .writeOutputs hW.sub (.quiet (State.modLaw_keeps rfl) (.quiet (State.reach_keeps rfl) (.refl h)))

theorem execLookaheadStart_writes {e l} (h : s.Inv) (hws : (Instr.lookaheadStart e l).registers = some ws) :
    Reaches (Writes (Listed ws) s) (execLookaheadStart e l s) := by
  have hW := covers_listed (at_ := RegName.At) (M := 0x1000000000000000000200000000000000) hws rfl
  unfold execLookaheadStart
  refine .ofUnit (fun _ => ?_)
  split
  · exact .refl h
  · refine .ite (.ite ?_ ?_) (.refl h)
    · exact .quiet (State.modLaw_keeps rfl) (.quiet (State.reach_keeps rfl) (.refl h))
    · exact .ite (.prodAhead hW.sub (.quiet (State.modLaw_keeps rfl) (.quiet (State.reach_keeps rfl) (.refl h)))) (.startSection hW.sub
          (.setf (hW.at2 .LAW_RSTAT) (.modCe (.quiet (State.predictAll_keeps rfl) (.quiet (State.modLaw_keeps rfl) (.quiet (State.reach_keeps rfl)
          (.refl h)))) (fun _ hc => by simpa using hc))))

theorem execStaticCheckDone_writes {e l} (h : s.Inv) (hws : (Instr.staticCheckDone e l).registers = some ws) :
    Reaches (Writes (Listed ws) s) (execStaticCheckDone e l s) := by
  have hW := covers_listed (at_ := RegName.At) (M := 0x800000000000002100000000000000000000000000000000) hws rfl
  unfold execStaticCheckDone
  exact .ofUnit (fun _ => .ite (.ite (.lawStart hW.sub (.setf (hW.at2 .LAW_STAT) (.refl h))) (.setf (hW.at2 .LAW_CTRL) (.setf (hW.at2 .LAW_STAT)
      (.refl h)))) (.refl h))

/-! ## BridleOps -/

theorem Writes.closeSession {n} (hW : Covers RegName.At 0x1D4000000000000000000000000000000000000000C00000000 W) (h : Writes W s0 s) :
    Writes W s0 (s.closeSession n) := by
  unfold State.closeSession
  exact .ite (.irq hW.sub (.quiet (Keeps.set_mode rfl) (.quiet (State.putNat_keeps rfl) (.modBridle (.quiet (State.modSess_keeps rfl)
      (.wr (hW.at1 .BRD_SEQ) (.wr (hW.at1 .BRD_SESS) h))))))) (.irq hW.sub (.modBridle (.quiet (State.modSess_keeps rfl) (.wr (hW.at1 .BRD_SEQ)
      (.wr (hW.at1 .BRD_SESS) h)))))

theorem Writes.firstReply {p n seq opcode status time result tEnd} (hW : Covers RegName.At 0x1D4000000000000000000000000000000000000000C00000000 W) (h : Writes W s0 s) :
    Writes W s0 (s.firstReply p n seq opcode status time result tEnd) := by
  unfold State.firstReply
  exact .ite (.quiet (State.cacheReply_keeps rfl) (.quiet (State.postReply_keeps rfl) h)) (.ite (.closeSession hW.sub (.wr (hW.at1 .BRD_SEQ)
      (.quiet (State.cacheReply_keeps rfl) (.quiet (State.postReply_keeps rfl) h)))) (.wr (hW.at1 .BRD_SEQ) (.quiet (State.cacheReply_keeps rfl)
      (.quiet (State.postReply_keeps rfl) h))))

theorem Writes.bridleMirror (hW : Covers RegName.At 0x2000000000 W) (h : Writes W s0 s) : Writes W s0 s.bridleMirror := by
  unfold State.bridleMirror
  exact .setf (hW.at0 .BRD_STAT) (.setf (hW.at0 .BRD_STAT) (.setf (hW.at0 .BRD_STAT) h))

theorem Writes.freeSlot {k} (hW : Covers RegName.At 0x2000000000 W) (h : Writes W s0 s) : Writes W s0 (s.freeSlot k) := by
  unfold State.freeSlot
  exact .bridleMirror hW.sub (.modBridle h (fun _ hc => by simpa using hc))

theorem Writes.setSlot {k x} (hW : Covers RegName.At 0x2000000000 W) (h : Writes W s0 s) : Writes W s0 (s.setSlot k x) := by
  unfold State.setSlot
  exact .bridleMirror hW.sub (.modBridle h (fun _ hc => by simpa using hc))

theorem Writes.showPacket {k bytes} (hW : Covers RegName.At 0x1000000000 W) (h : Writes W s0 s) : Writes W s0 (s.showPacket k bytes) := by
  unfold State.showPacket
  exact .foldl (fun _ _ h2 => .wr (hW.at2 .BRD_SLOT) h2) _ h

theorem Writes.preempt {sc} (hW : Covers RegName.At 0x2020000000 W) (h : Writes W s0 s) : Writes W s0 (s.preempt sc) := by
  unfold State.preempt
  refine .forN h ?_
  intro _ _ h2
  split
  · exact .ite (.inc (hW.at0 .BRD_CNT_PREEMPT) (.quiet (State.secondReply_keeps rfl) (.freeSlot hW.sub h2))) h2
  · exact h2

/-! ## Gates -/

theorem Writes.probeAbort (hW : Covers RegName.At 0x501400000000000000000000 W) (h : Writes W s0 s) : Writes W s0 s.probeAbort := by
  unfold State.probeAbort
  split
  · exact h
  · exact .setf (hW.at0 .GDC_PRB_RES) (.quiet (State.modProbe_keeps rfl) (.forN (.each h (fun _ _ h2 => .each (.each h2
        (fun _ _ h4 => .wr (hW.at1 .GDC_PLEG) h4)) (fun _ _ h6 => .wr (hW.at1 .GCH_GLOOP) h6))) (fun _ _ h8 => .ite (.setHvState hW.sub h8) h8)))

theorem Writes.gdcErr (hW : Covers RegName.At 0x800000000000000000000000 W) (h : Writes W s0 s) : Writes W s0 s.gdcErr := by
  unfold State.gdcErr
  exact .setf (hW.at0 .GDC_STAT) h

theorem Writes.hvRefresh {n} (hW : Covers RegName.At 0x1020000000000000000000 W) (h : Writes W s0 s) : Writes W s0 (s.hvRefresh n) := by
  unfold State.hvRefresh
  exact .hvCommand hW.sub h

theorem Writes.learnFault {n k} (hW : Covers RegName.At 0x1060000000000000000000 W) (h : Writes W s0 s) : Writes W s0 (s.learnFault n k) := by
  unfold State.learnFault
  exact .quiet (State.report_keeps rfl) (.quiet (State.modHv_keeps rfl) (.inc (hW.at1 .GCH_CNT_LFLT) (.setf (hW.at1 .GCH_STAT) (.setQual hW.sub
      (.setHvState hW.sub (.wr (hW.at2 .GCH_BIN) h))))))

theorem Writes.learnStep {n e tIn tPl} (hW : Covers RegName.At 0x220000000000000000000 W) (h : Writes W s0 s) :
    Writes W s0 (s.learnStep n e tIn tPl) := by
  unfold State.learnStep
  exact .incBy (hW.at1 .GCH_CNT_STEP) (.setf (hW.at2 .GCH_BIN) (.setf (hW.at2 .GCH_BIN) h))

theorem Writes.measureEdge {n e tIn tPl valid} (hW : Covers RegName.At 0x3A60000000000000000000 W) (h : Writes W s0 s) :
    Writes W s0 (s.measureEdge n e tIn tPl valid) := by
  unfold State.measureEdge
  refine .ite ?_ ?_
  · exact .setb (hW.at1 .GCH_MEAS) (.setf (hW.at1 .GCH_MEAS) (.setf (hW.at1 .GCH_MEAS) (.setf (hW.at1 .GCH_MEAS) h)))
  · refine .ite ?_ ?_
    · exact .learnFault hW.sub (.ite (.setb (hW.at1 .GCH_MEAS) (.setf (hW.at1 .GCH_MEAS) (.setf (hW.at1 .GCH_MEAS) (.setf (hW.at1 .GCH_MEAS) h))))
          (.setf (hW.at1 .GCH_TOFF_MAX) (.setb (hW.at1 .GCH_MEAS) (.setf (hW.at1 .GCH_MEAS) (.setf (hW.at1 .GCH_MEAS)
          (.setf (hW.at1 .GCH_MEAS) h))))))
    · refine .ite ?_ ?_
      · exact .ite (.setb (hW.at1 .GCH_MEAS) (.setf (hW.at1 .GCH_MEAS) (.setf (hW.at1 .GCH_MEAS) (.setf (hW.at1 .GCH_MEAS) h))))
            (.setf (hW.at1 .GCH_TOFF_MAX) (.setb (hW.at1 .GCH_MEAS) (.setf (hW.at1 .GCH_MEAS) (.setf (hW.at1 .GCH_MEAS)
            (.setf (hW.at1 .GCH_MEAS) h)))))
      · exact .learnStep hW.sub (.ite (.setb (hW.at1 .GCH_MEAS) (.setf (hW.at1 .GCH_MEAS) (.setf (hW.at1 .GCH_MEAS) (.setf (hW.at1 .GCH_MEAS) h))))
            (.setf (hW.at1 .GCH_TOFF_MAX) (.setb (hW.at1 .GCH_MEAS) (.setf (hW.at1 .GCH_MEAS) (.setf (hW.at1 .GCH_MEAS)
            (.setf (hW.at1 .GCH_MEAS) h))))))

theorem Writes.seqRun (hW : Covers RegName.At 0xC01020000000000000000000 W) (h : Writes W s0 s) : Writes W s0 s.seqRun := by
  unfold State.seqRun
  exact .forN (.setf (hW.at0 .GDC_PRB_RES) (.setf (hW.at0 .GDC_PRB_RES) (.setf (hW.at0 .GDC_STAT) h))) (fun _ _ h2 => .ite (.enterPlain hW.sub h2) h2)

theorem Writes.probeStart {bs} (hW : Covers RegName.At 0xD01020000000000000000000 W) (h : Writes W s0 s) : Writes W s0 (s.probeStart bs) := by
  unfold State.probeStart
  dsimp only
  split
  · refine .seqRun hW.sub (.quiet (State.modProbe_keeps rfl) (.setf (hW.at0 .GDC_PRB_RES) (.setf (hW.at0 .GDC_PRB_RES) (.each ?_ ?_))))
    · exact .each h (fun _ _ h2 => .each h2 (fun _ _ h4 => .ite (.setHvState hW.sub (.quiet (State.hvForceOff_keeps rfl) h4)) h4))
    · intro _ _ h6
      exact .each (.setf (hW.at0 .GDC_PRB_RES) h6) (fun _ _ h8 => .wr (hW.at1 .GDC_PLEG) h8)
  · refine .quiet (State.probeBridge_keeps rfl) (.quiet (State.modProbe_keeps rfl) (.setf (hW.at0 .GDC_PRB_RES) (.setf (hW.at0 .GDC_PRB_RES)
        (.each ?_ ?_))))
    · exact .each h (fun _ _ h10 => .each h10 (fun _ _ h12 => .ite (.setHvState hW.sub (.quiet (State.hvForceOff_keeps rfl) h12)) h12))
    · intro _ _ h14
      exact .each (.setf (hW.at0 .GDC_PRB_RES) h14) (fun _ _ h16 => .wr (hW.at1 .GDC_PLEG) h16)

theorem Writes.probeRequest (hW : Covers RegName.At 0xD01020000000000000000000 W) (h : Writes W s0 s) : Writes W s0 s.probeRequest := by
  unfold State.probeRequest
  exact .ite (.gdcErr hW.sub h) (.probeStart hW.sub h)

theorem Writes.dischargeStart (hW : Covers RegName.At 0x1024000000000000000000 W) (h : Writes W s0 s) : Writes W s0 s.dischargeStart := by
  unfold State.dischargeStart
  exact .ite h (.hvRefresh hW.sub (.modGate (.setf (hW.at0 .DSC_STAT) h)))

theorem Writes.clearChannels (hW : Covers RegName.At 0x2000000008000000000000100000000000E1020000000000000000000 W) (h : Writes W s0 s) :
    Writes W s0 s.clearChannels := by
  unfold State.clearChannels
  refine .lineInactive hW.sub (.forN ?_ (fun _ _ h10 => .quiet (State.lvUpdate_keeps rfl) h10))
  refine .lineInactive hW.sub (.lineInactive hW.sub (.lineInactive hW.sub (.forN ?_ ?_)))
  · refine .forN ?_ (fun _ _ h6 => .quiet (State.sourceOff_keeps rfl) h6)
    refine .forN h ?_
    intro _ _ h2
    refine .quiet (State.sourceOff_keeps rfl) (.quiet (State.sourceOff_keeps rfl) (.quiet (State.sourceOff_keeps rfl)
        (.quiet (State.sourceOff_keeps rfl) (.ite ?_ ?_))))
    · exact .forN (.ite (.setHvState hW.sub (.setFltBit hW.sub (.setf (hW.at1 .GCH_STAT) h2))) (.setFltBit hW.sub (.setf (hW.at1 .GCH_STAT) h2)))
          (fun _ _ h4 => .wr (hW.at2 .GCH_BIN) h4)
    · exact .ite (.setHvState hW.sub (.setFltBit hW.sub (.setf (hW.at1 .GCH_STAT) h2))) (.setFltBit hW.sub (.setf (hW.at1 .GCH_STAT) h2))
  · intro _ _ h8
    exact .quiet (State.sourceOff_keeps rfl) (.setf (hW.at0 .GDC_LFLT) (.ite (.setf (hW.at1 .LCH_STAT) (.setf (hW.at1 .LCH_STAT) h8)) h8))

theorem Writes.probeFault {n code} (hW : Covers RegName.At 0x61004000000000000000000 W) (h : Writes W s0 s) : Writes W s0 (s.probeFault n code) := by
  unfold State.probeFault
  exact .ite (.setHvState hW.sub (.latchFault hW.sub h)) (.latchFault hW.sub h)

theorem Writes.loopFaults {b} (hW : Covers RegName.At 0x61004000000000000000000 W) (h : Writes W s0 s) : Writes W s0 (s.loopFaults b) := by
  unfold State.loopFaults
  exact .each h (fun _ _ h2 => .ite h2 (.quiet (State.sourceOn_keeps rfl) (.quiet (State.report_keeps rfl) (.probeFault hW.sub h2))))

theorem Writes.lvOverCurrent {m} (hW : Covers RegName.At 0x18000000000080000000000000000000000 W) (h : Writes W s0 s) :
    Writes W s0 (s.lvOverCurrent m) := by
  unfold State.lvOverCurrent
  exact .ite h (.quiet (State.sourceOn_keeps rfl) (.quiet (State.report_keeps rfl) (.quiet (State.lvUpdate_keeps rfl) (.setf (hW.at0 .GDC_LFLT)
      (.inc (hW.at1 .LCH_CNT_OVC) (.setf (hW.at1 .LCH_STAT) (.setf (hW.at1 .LCH_STAT) h)))))))

theorem Writes.legResult {b x} (hW : Covers RegName.At 0x161004000000000000000000 W) (h : Writes W s0 s) : Writes W s0 (s.legResult b x) := by
  unfold State.legResult
  dsimp only
  refine .ite ?_ ?_
  · exact .quiet (State.sourceOn_keeps rfl) (.quiet (State.report_keeps rfl) (.each (.setf (hW.at1 .GDC_PLEG) (.setf (hW.at1 .GDC_PLEG) h))
        (fun _ _ h2 => .probeFault hW.sub h2)))
  · exact .ite (.quiet (State.sourceOn_keeps rfl) (.quiet (State.report_keeps rfl) (.each (.setf (hW.at1 .GDC_PLEG) (.setf (hW.at1 .GDC_PLEG) h))
        (fun _ _ h4 => .probeFault hW.sub h4)))) (.setf (hW.at1 .GDC_PLEG) (.setf (hW.at1 .GDC_PLEG) h))

theorem execBiasRecovery_writes {n} (h : s.Inv) (hws : (Instr.biasRecovery n).registers = some ws) :
    Reaches (Writes (Listed ws) s) (execBiasRecovery n s) := by
  have hW := covers_listed (at_ := RegName.At) (M := 0x200000000800000000000000000000000001020000000000000000000) hws rfl
  unfold execBiasRecovery
  exact .ofUnit (fun _ => .ite (.ite (.ite (.enterPlain hW.sub (.setf (hW.at1 .GCH_STAT) (.refl h))) (.setf (hW.at1 .GCH_STAT) (.refl h)))
      (.lineInactive hW.sub (.ite (.enterPlain hW.sub (.setf (hW.at1 .GCH_STAT) (.refl h))) (.setf (hW.at1 .GCH_STAT) (.refl h))))) (.refl h))

theorem execBiasUndervoltage_writes {n} (h : s.Inv) (hws : (Instr.biasUndervoltage n).registers = some ws) :
    Reaches (Writes (Listed ws) s) (execBiasUndervoltage n s) := by
  have hW := covers_listed (at_ := RegName.At) (M := 0x7800001D4810600000000003000000000001004000200000000000000) hws rfl
  unfold execBiasUndervoltage
  exact .ofUnit (fun _ => .ite (.refl h) (.lineActive hW.sub (.ite (.setHvState hW.sub (.ite (.setf (hW.at1 .GCH_STAT) (.refl h))
      (.quiet (State.hvForceOff_keeps rfl) (.setf (hW.at1 .GCH_STAT) (.refl h))))) (.ite (.setf (hW.at1 .GCH_STAT) (.refl h))
      (.quiet (State.hvForceOff_keeps rfl) (.setf (hW.at1 .GCH_STAT) (.refl h)))))))

theorem execChopperOff_writes (h : s.Inv) (hws : Instr.chopperOff.registers = some ws) : Reaches (Writes (Listed ws) s) (execChopperOff s) := by
  have hW := covers_listed (at_ := RegName.At) (M := 0x1020000000000000000000) hws rfl
  unfold execChopperOff
  exact .next (.ite (.hvRefresh hW.sub (.modGate (.refl h))) (.refl h))

theorem execChopperOn_writes (h : s.Inv) (hws : Instr.chopperOn.registers = some ws) : Reaches (Writes (Listed ws) s) (execChopperOn s) := by
  have hW := covers_listed (at_ := RegName.At) (M := 0x1020000000004000000000) hws rfl
  unfold execChopperOn
  exact .next (.ite (.refl h) (.hvRefresh hW.sub (.inc (hW.at0 .BRK_CNT) (.modGate (.refl h)))))

theorem execDrvEnFilteredLow_writes (h : s.Inv) (hws : Instr.drvEnFilteredLow.registers = some ws) :
    Reaches (Writes (Listed ws) s) (execDrvEnFilteredLow s) := by
  have hW := covers_listed (at_ := RegName.At) (M := 0xD01400000000000000000000) hws rfl
  unfold execDrvEnFilteredLow
  refine .next ?_
  split
  · exact .refl h
  · refine .ite (.refl h) (.ite ?_ ?_)
    · exact .forN (.probeAbort hW.sub (.setf (hW.at0 .GDC_STAT) (.modGate (.quiet (State.reach_keeps rfl) (.refl h))))) (fun _ _ h2 => .ite
          (.setHvState hW.sub (.quiet (State.hvForceOff_keeps rfl) h2)) h2)
    · exact .setf (hW.at0 .GDC_STAT) (.forN (.probeAbort hW.sub (.setf (hW.at0 .GDC_STAT) (.modGate (.quiet (State.reach_keeps rfl) (.refl h)))))
          (fun _ _ h4 => .ite (.setHvState hW.sub (.quiet (State.hvForceOff_keeps rfl) h4)) h4))

theorem execDrvEnFilteredRise_writes (h : s.Inv) (hws : Instr.drvEnFilteredRise.registers = some ws) :
    Reaches (Writes (Listed ws) s) (execDrvEnFilteredRise s) := by
  have hW := covers_listed (at_ := RegName.At) (M := 0x818000000000000000000000) hws rfl
  unfold execDrvEnFilteredRise
  refine .next ?_
  split
  · exact .refl h
  · refine .ite (.refl h) (.ite ?_ ?_)
    · exact .inc (hW.at0 .GDC_CNT_PEND) (.ite (.setf (hW.at0 .GDC_STAT) (.setf (hW.at0 .GDC_STAT) (.modGate (.quiet (State.reach_keeps rfl)
          (.refl h))))) (.inc (hW.at0 .GDC_CNT_ENSHORT) (.setf (hW.at0 .GDC_STAT) (.modGate (.quiet (State.reach_keeps rfl) (.refl h))))))
    · exact .setf (hW.at0 .GDC_STAT) (.ite (.setf (hW.at0 .GDC_STAT) (.setf (hW.at0 .GDC_STAT) (.modGate (.quiet (State.reach_keeps rfl) (.refl h)))))
          (.inc (hW.at0 .GDC_CNT_ENSHORT) (.setf (hW.at0 .GDC_STAT) (.modGate (.quiet (State.reach_keeps rfl) (.refl h))))))

theorem execForcedDischargeDone_writes (h : s.Inv) (hws : Instr.forcedDischargeDone.registers = some ws) :
    Reaches (Writes (Listed ws) s) (execForcedDischargeDone s) := by
  have hW := covers_listed (at_ := RegName.At) (M := 0x1024000000000000000000) hws rfl
  unfold execForcedDischargeDone
  exact .next (.ite (.hvRefresh hW.sub (.setf (hW.at0 .DSC_STAT) (.dischargeEnd hW.sub (.refl h)))) (.refl h))

theorem execForcedDischargeRequest_writes {core} (h : s.Inv) (hws : (Instr.forcedDischargeRequest core).registers = some ws) :
    Reaches (Writes (Listed ws) s) (execForcedDischargeRequest core s) := by
  have hW := covers_listed (at_ := RegName.At) (M := 0x1026000000000000000000) hws rfl
  unfold execForcedDischargeRequest
  exact .ofUnit (fun _ => .byCore (.refl h) (fun _ h2 => .ite (.setf (hW.at0 .DSC_STAT) h2) (.dischargeStart hW.sub (.setf (hW.at0 .DSC_CTRL) h2))))

theorem execForcedDischargeTimeout_writes (h : s.Inv) (hws : Instr.forcedDischargeTimeout.registers = some ws) :
    Reaches (Writes (Listed ws) s) (execForcedDischargeTimeout s) := by
  have hW := covers_listed (at_ := RegName.At) (M := 0x1024000000000000000000) hws rfl
  unfold execForcedDischargeTimeout
  refine .next ?_
  split
  · exact .refl h
  · exact .modGate (.hvRefresh hW.sub (.setf (hW.at0 .DSC_STAT) (.dischargeEnd hW.sub (.quiet (State.reach_keeps rfl) (.refl h)))))

theorem execGateCommandArrival_writes {ch} (h : s.Inv) (hws : (Instr.gateCommandArrival ch).registers = some ws) :
    Reaches (Writes (Listed ws) s) (execGateCommandArrival ch s) := by
  have hW := covers_listed (at_ := RegName.At) (M := 0x1020000000000000000000) hws rfl
  unfold execGateCommandArrival
  refine .ofUnit fun _ => .ite ?_ ?_
  · split
    · next hu => exact .hvCommand hW.sub (.quiet (State.modHv_keeps rfl) (.quiet (fun k => State.linkArrival_keeps rfl k hu) (.refl h)))
    · exact .ite (.refl h) (.hvCommand hW.sub (.refl h))
  · dsimp only
    split
    · next hu => exact .quiet (State.lvUpdate_keeps rfl) (.quiet (State.modLv_keeps rfl) (.quiet (fun k => State.linkArrival_keeps rfl k hu) (.refl h)))
    · exact .refl h

theorem execGateSenseMidpoint_writes {n} (h : s.Inv) (hws : (Instr.gateSenseMidpoint n).registers = some ws) :
    Reaches (Writes (Listed ws) s) (execGateSenseMidpoint n s) := by
  have hW := covers_listed (at_ := RegName.At) (M := 0x1000000000000000000000) hws rfl
  unfold execGateSenseMidpoint
  refine .ofUnit (fun _ => ?_)
  split
  · exact .refl h
  · exact .ite (.refl h) (.ite (.setQual hW.sub (.quiet (State.edgeOver_keeps rfl) (.refl h))) (.setQual hW.sub (.quiet (State.edgeOver_keeps rfl)
        (.refl h))))

theorem execGdcProbeStart_writes {core v} (h : s.Inv) (hws : (Instr.gdcProbeStart core v).registers = some ws) :
    Reaches (Writes (Listed ws) s) (execGdcProbeStart core v s) := by
  have hW := covers_listed (at_ := RegName.At) (M := 0xF01020000000000000000000) hws rfl
  unfold execGdcProbeStart
  exact .ofUnit (fun _ => .byCore (.refl h) (fun _ h2 => .probeRequest hW.sub (.setf (hW.at0 .GDC_PRB) h2)))

theorem execHardOvervoltage_writes (h : s.Inv) (hws : Instr.hardOvervoltage.registers = some ws) :
    Reaches (Writes (Listed ws) s) (execHardOvervoltage s) := by
  have hW := covers_listed (at_ := RegName.At) (M := 0x7800001D4810600000000003000000000000004000200000000000000) hws rfl
  unfold execHardOvervoltage
  exact .next (.lineActive hW.sub (.refl h))

theorem execHardOvervoltageRelease_writes (h : s.Inv) (hws : Instr.hardOvervoltageRelease.registers = some ws) :
    Reaches (Writes (Listed ws) s) (execHardOvervoltageRelease s) := by
  have hW := covers_listed (at_ := RegName.At) (M := 0x200000000800000000000000000000000000000000000000000000000) hws rfl
  unfold execHardOvervoltageRelease
  exact .next (.ite (.lineInactive hW.sub (.refl h)) (.refl h))

theorem execLinkLoss_writes {n} (h : s.Inv) (hws : (Instr.linkLoss n).registers = some ws) : Reaches (Writes (Listed ws) s) (execLinkLoss n s) := by
  have hW := covers_listed (at_ := RegName.At) (M := 0x61004000000000000000000) hws rfl
  unfold execLinkLoss
  exact .ofUnit (fun _ => .ite (.refl h) (.ite (.quiet (State.sourceOn_keeps rfl) (.quiet (State.report_keeps rfl) (.refl h))) (.setHvState hW.sub
      (.latchFault hW.sub (.quiet (State.hvForceOff_keeps rfl) (.quiet (State.sourceOn_keeps rfl) (.quiet (State.report_keeps rfl) (.refl h))))))))

theorem execLvBootstrapRecovery_writes {m} (h : s.Inv) (hws : (Instr.lvBootstrapRecovery m).registers = some ws) :
    Reaches (Writes (Listed ws) s) (execLvBootstrapRecovery m s) := by
  have hW := covers_listed (at_ := RegName.At) (M := 0x10000000000000000000000000000000000) hws rfl
  unfold execLvBootstrapRecovery
  exact .ofUnit (fun _ => .quiet (State.lvUpdate_keeps rfl) (.setf (hW.at1 .LCH_STAT) (.refl h)))

theorem execLvBootstrapUv_writes {m} (h : s.Inv) (hws : (Instr.lvBootstrapUv m).registers = some ws) :
    Reaches (Writes (Listed ws) s) (execLvBootstrapUv m s) := by
  have hW := covers_listed (at_ := RegName.At) (M := 0x10000000000000000000000000000000000) hws rfl
  unfold execLvBootstrapUv
  exact .ofUnit (fun _ => .quiet (State.lvUpdate_keeps rfl) (.setf (hW.at1 .LCH_STAT) (.refl h)))

theorem execPath2TurnOn_writes {n} (h : s.Inv) (hws : (Instr.path2TurnOn n).registers = some ws) :
    Reaches (Writes (Listed ws) s) (execPath2TurnOn n s) := by
  have hW := covers_listed (at_ := RegName.At) (M := 0x1020000000000000000000) hws rfl
  unfold execPath2TurnOn
  refine .ofUnit (fun _ => ?_)
  split
  · exact .refl h
  · exact .hvCommand hW.sub (.quiet (State.modHv_keeps rfl) (.quiet (State.reach_keeps rfl) (.refl h)))

theorem execPlateauExit_writes {n tIn tPl} (h : s.Inv) (hws : (Instr.plateauExit n tIn tPl).registers = some ws) :
    Reaches (Writes (Listed ws) s) (execPlateauExit n tIn tPl s) := by
  have hW := covers_listed (at_ := RegName.At) (M := 0x3A60000000000000000000) hws rfl
  unfold execPlateauExit
  refine .ofUnit (fun _ => ?_)
  split
  · exact .refl h
  · exact .ite (.ite (.measureEdge hW.sub (.quiet (State.modHv_keeps rfl) (.quiet (State.edgeOver_keeps rfl) (.quiet (State.reach_keeps rfl)
        (.refl h))))) (.quiet (State.modHv_keeps rfl) (.quiet (State.edgeOver_keeps rfl) (.quiet (State.reach_keeps rfl) (.refl h))))) (.refl h)

theorem execProbeBridgeDone_writes (h : s.Inv) (hws : Instr.probeBridgeDone.registers = some ws) :
    Reaches (Writes (Listed ws) s) (execProbeBridgeDone s) := by
  have hW := covers_listed (at_ := RegName.At) (M := 0xD61024000000000000000000) hws rfl
  unfold execProbeBridgeDone
  refine .next ?_
  dsimp only
  split
  · exact .refl h
  · refine .ite ?_ (.refl h)
    split
    · exact .quiet (State.probeBridge_keeps rfl) (.quiet (State.modProbe_keeps rfl) (.setb (hW.at0 .GDC_PRB_RES) (.each (.loopFaults hW.sub (.forN
          (.quiet (State.reach_keeps rfl) (.refl h)) (fun _ _ h2 => .legResult hW.sub h2))) (fun _ _ h4 => .ite (.setHvState hW.sub h4) h4))))
    · exact .seqRun hW.sub (.quiet (State.modProbe_keeps rfl) (.setb (hW.at0 .GDC_PRB_RES) (.each (.loopFaults hW.sub (.forN
          (.quiet (State.reach_keeps rfl) (.refl h)) (fun _ _ h6 => .legResult hW.sub h6))) (fun _ _ h8 => .ite (.setHvState hW.sub h8) h8))))

theorem execProbeGateLoopDone_writes {rs} (h : s.Inv) (hws : (Instr.probeGateLoopDone rs).registers = some ws) :
    Reaches (Writes (Listed ws) s) (execProbeGateLoopDone rs s) := by
  have hW := covers_listed (at_ := RegName.At) (M := 0x400000000000000000000) hws rfl
  unfold execProbeGateLoopDone
  refine .next ?_
  split
  · exact .refl h
  · exact .ite (.refl h) (.foldl (fun _ _ h2 => .setf (hW.at1 .GCH_GLOOP) (.setf (hW.at1 .GCH_GLOOP) h2)) _ (.quiet (State.modProbe_keeps rfl)
        (.quiet (State.reach_keeps rfl) (.refl h))))

theorem execQualificationTimeout_writes {n} (h : s.Inv) (hws : (Instr.qualificationTimeout n).registers = some ws) :
    Reaches (Writes (Listed ws) s) (execQualificationTimeout n s) := by
  have hW := covers_listed (at_ := RegName.At) (M := 0x1000000000000000000000) hws rfl
  unfold execQualificationTimeout
  refine .ofUnit (fun _ => ?_)
  split
  · exact .refl h
  · exact .ite (.refl h) (.setQual hW.sub (.quiet (State.modHv_keeps rfl) (.quiet (State.reach_keeps rfl) (.refl h))))

theorem execSenseCellDetection_writes {n} (h : s.Inv) (hws : (Instr.senseCellDetection n).registers = some ws) :
    Reaches (Writes (Listed ws) s) (execSenseCellDetection n s) := by
  have hW := covers_listed (at_ := RegName.At) (M := 0x7800001D4810600000000003000000000061104000200000000000000) hws rfl
  unfold execSenseCellDetection
  refine .ofUnit (fun _ => ?_)
  split
  · exact .refl h
  · exact .quiet (State.sourceOn_keeps rfl) (.quiet (State.report_keeps rfl) (.lineActive hW.sub (.quiet (State.lockLeg_keeps rfl)
        (.inc (hW.at1 .GCH_CNT_SC) (.latchFault hW.sub (.setHvState hW.sub (.quiet (State.modHv_keeps rfl) (.quiet (State.reach_keeps rfl)
        (.refl h)))))))))

theorem execSlopeTimeout_writes {n} (h : s.Inv) (hws : (Instr.slopeTimeout n).registers = some ws) :
    Reaches (Writes (Listed ws) s) (execSlopeTimeout n s) := by
  have hW := covers_listed (at_ := RegName.At) (M := 0x3AE0000000000000000000) hws rfl
  unfold execSlopeTimeout
  refine .ofUnit (fun _ => ?_)
  split
  · exact .refl h
  · refine .ite (.ite ?_ ?_) (.refl h)
    · refine .learnFault hW.sub (.quiet (State.modHv_keeps rfl) (.ite ?_ ?_))
      · exact .measureEdge hW.sub (.quiet (State.drawWord_keeps rfl) (.quiet (State.drawWord_keeps rfl) (.inc (hW.at1 .GCH_CNT_NOPL)
            (.quiet (State.edgeOver_keeps rfl) (.quiet (State.reach_keeps rfl) (.refl h))))))
      · exact .inc (hW.at1 .GCH_CNT_NOPL) (.quiet (State.edgeOver_keeps rfl) (.quiet (State.reach_keeps rfl) (.refl h)))
    · refine .quiet (State.modHv_keeps rfl) (.ite ?_ ?_)
      · exact .measureEdge hW.sub (.quiet (State.drawWord_keeps rfl) (.quiet (State.drawWord_keeps rfl) (.inc (hW.at1 .GCH_CNT_NOPL)
            (.quiet (State.edgeOver_keeps rfl) (.quiet (State.reach_keeps rfl) (.refl h))))))
      · exact .inc (hW.at1 .GCH_CNT_NOPL) (.quiet (State.edgeOver_keeps rfl) (.quiet (State.reach_keeps rfl) (.refl h)))

theorem execSoftTurnOffEnd_writes {n} (h : s.Inv) (hws : (Instr.softTurnOffEnd n).registers = some ws) :
    Reaches (Writes (Listed ws) s) (execSoftTurnOffEnd n s) := by
  have hW := covers_listed (at_ := RegName.At) (M := 0x1000000000000000000000) hws rfl
  unfold execSoftTurnOffEnd
  refine .ofUnit (fun _ => ?_)
  split
  · exact .refl h
  · exact .ite (.setHvState hW.sub (.quiet (State.modHv_keeps rfl) (.quiet (State.reach_keeps rfl) (.refl h)))) (.refl h)

end Sys2Proof.Machine
end

section
/-! PROOFS. The registers that the operations of reactions, Martingale, the generators and the drives write. -/

namespace Sys2Proof.Machine

set_option Elab.async false

variable {W : Nat → Prop} {s0 s t : State} {ws : List (Nat → Prop)}

/-! ## ReactOps -/

theorem Writes.setTl6 {g b} (hW : Covers RegName.At 0x300000000000000000000000000000000000000000 W) (h : Writes W s0 s) :
    Writes W s0 (s.setTl6 g b) := by
  unfold State.setTl6
  exact .ite (.setb (hW.at0 .MG_TL6) h) (.setb (hW.at0 .MG_TL6_HI) h)

theorem Writes.tl6Off {gs} (hW : Covers RegName.At 0x200000000800000300C00000000000000000000000000000000000000 W) (h : Writes W s0 s) :
    Writes W s0 (s.tl6Off gs) := by
  unfold State.tl6Off
  refine .ite ?_ ?_
  · exact .each h (fun _ _ h2 => .refreshTstate hW.sub (.ite (.setf (hW.at0 .MG_GTRIP) (.setTl6 hW.sub h2)) (.setf (hW.at0 .MG_GTRIP_HI)
        (.setTl6 hW.sub h2))))
  · exact .setf (hW.at0 .TRP_LVL) (.each h (fun _ _ h4 => .refreshTstate hW.sub (.ite (.setf (hW.at0 .MG_GTRIP) (.setTl6 hW.sub h4))
        (.setf (hW.at0 .MG_GTRIP_HI) (.setTl6 hW.sub h4)))))

theorem Writes.setFstate {d st cause} (hW : Covers RegName.At 0x80000000000000000000000000000000000000 W) (h : Writes W s0 s) :
    Writes W s0 (s.setFstate d st cause) := by
  unfold State.setFstate
  exact .setf (hW.at1 .MG_DSTAT) (.setf (hW.at1 .MG_DSTAT) h)

theorem Writes.outputs (hW : Covers RegName.At 0x20000000000000000000000000000000000000000 W) (h : Writes W s0 s) : Writes W s0 s.outputs := by
  unfold State.outputs
  exact .forN h (fun _ _ h2 => .setb (hW.at0 .MG_SOSTAT) h2)

theorem Writes.ss1One {cause d} (hW : Covers RegName.At 0x88000000000000000000000000000000000000 W) (h : Writes W s0 s) :
    Writes W s0 (s.ss1One cause d) := by
  unfold State.ss1One
  exact .ite (.quiet (State.modMgDrive_keeps rfl) (.inc (hW.at1 .MG_CNT_SS1) (.setFstate hW.sub h))) h

theorem Writes.tl6On {gs d} (hW : Covers RegName.At 0x7800001D4810600300000003000000000000004000200000000000000 W) (h : Writes W s0 s) :
    Writes W s0 (s.tl6On gs d) := by
  unfold State.tl6On
  exact .ite h (.lineUp hW.sub (.each h (fun _ _ h2 => .setTl6 hW.sub h2)))

theorem Writes.safeGens {gs d} (hW : Covers RegName.At 0x7800003D4850E00300000003000000000000004000200000000000000 W) (h : Writes W s0 s) :
    Writes W s0 (s.safeGens gs d) := by
  unfold State.safeGens
  exact .each (.tl6On hW.sub h) (fun _ _ h2 => .ite h2 (.genStop hW.sub h2))

theorem Writes.stoOne {cause d} (hW : Covers RegName.At 0x7800003D4850E00300090003000000000001024000200000000000000 W) (h : Writes W s0 s) :
    Writes W s0 (s.stoOne cause d) := by
  unfold State.stoOne
  exact .path2 hW.sub (.safeGens hW.sub (.ite h (.inc (hW.at1 .MG_CNT_STO) (.setFstate hW.sub h))))

theorem Writes.enterSto {d cause} (hW : Covers RegName.At 0x7800003D4850E00320090003000000000001024000200000000000000 W) (h : Writes W s0 s) :
    Writes W s0 (s.enterSto d cause) := by
  unfold State.enterSto
  exact .outputs hW.sub (.irq hW.sub (.each h (fun _ _ h2 => .stoOne hW.sub h2)))

theorem Writes.reactSafe {sc cause} (hW : Covers RegName.At 0x7800003D4850E00320090003000000000001024000200000000000000 W) (h : Writes W s0 s) :
    Writes W s0 (s.reactSafe sc cause) := by
  unfold State.reactSafe
  exact .ite (.safeGens hW.sub (.each h (fun _ _ h2 => .enterSto hW.sub h2))) (.quiet (State.modeReaction_keeps rfl) (.safeGens hW.sub (.each h
      (fun _ _ h4 => .enterSto hW.sub h4))))

theorem Writes.enterSs1 {d cause} (hW : Covers RegName.At 0x1D4000000000088000000000000000000000000000000000000 W) (h : Writes W s0 s) :
    Writes W s0 (s.enterSs1 d cause) := by
  unfold State.enterSs1
  exact .irq hW.sub (.each h (fun _ _ h2 => .ss1One hW.sub h2))

theorem Writes.reactSs1 {sc cause} (hW : Covers RegName.At 0x7800003D4850E00320098003000000000001024000200000000000000 W) (h : Writes W s0 s) :
    Writes W s0 (s.reactSs1 sc cause) := by
  unfold State.reactSs1
  exact .ite (.each h (fun _ _ h2 => .enterSs1 hW.sub h2)) (.reactSafe hW.sub h)

theorem Writes.reactModule {cause} (hW : Covers RegName.At 0x7800003D4850E003A0090003000000000001024000200002020000000 W) (h : Writes W s0 s) :
    Writes W s0 (s.reactModule cause) := by
  unfold State.reactModule
  exact .outputs hW.sub (.modMg (.quiet (State.modeReaction_keeps rfl) (.setf (hW.at0 .MG_STAT) (.safeGens hW.sub (.enterSto hW.sub (.enterSto hW.sub
      (.setf (hW.at0 .MG_STAT) (.lineActive hW.sub (.preempt hW.sub (.quiet (State.reactNote_keeps rfl) h))))))))))

theorem Writes.reactFatal {cause} (hW : Covers RegName.At 0x7800003D4850E003A0090003000000000001024000200002020000000 W) (h : Writes W s0 s) :
    Writes W s0 (s.reactFatal cause) := by
  unfold State.reactFatal
  exact .modMg (.reactModule hW.sub h)

theorem Writes.react {sc rx cause} (hW : Covers RegName.At 0x7800003D4850E003A0098003000000000001024000200002020000000 W) (h : Writes W s0 s) :
    Writes W s0 (s.react sc rx cause) := by
  unfold State.react
  dsimp only
  split
  · exact .reactSafe hW.sub (.ite (.quiet (State.sendFaultFrames_keeps rfl) (.ite h (.preempt hW.sub h))) (.ite h (.preempt hW.sub h)))
  · exact .reactSs1 hW.sub (.ite (.quiet (State.sendFaultFrames_keeps rfl) (.ite h (.preempt hW.sub h))) (.ite h (.preempt hW.sub h)))
  · exact .reactModule hW.sub (.ite (.quiet (State.sendFaultFrames_keeps rfl) (.ite h (.preempt hW.sub h))) (.ite h (.preempt hW.sub h)))
  · exact .reactFatal hW.sub (.ite (.quiet (State.sendFaultFrames_keeps rfl) (.ite h (.preempt hW.sub h))) (.ite h (.preempt hW.sub h)))
  · exact .ite (.quiet (State.sendFaultFrames_keeps rfl) (.ite h (.preempt hW.sub h))) (.ite h (.preempt hW.sub h))

theorem Writes.receive {r} (hW : Covers RegName.At 0x7800003D4850E003A0399003000000000001024000200002020000000 W) (h : Writes W s0 s) :
    Writes W s0 (s.receive r) := by
  unfold State.receive
  exact .outputs hW.sub (.react hW.sub (.quiet (State.reactNote_keeps rfl) (.irq hW.sub (.inc (hW.at0 .MG_CNT_FLT) (.wr (hW.at0 .MG_FLTT)
      (.wr (hW.at0 .MG_FLT) h))))))

/-! ## MartingaleOps -/

theorem Writes.stoRelease {d} (hW : Covers RegName.At 0x200000000800000300C80000000000000001020000000000000000000 W) (h : Writes W s0 s) :
    Writes W s0 (s.stoRelease d) := by
  unfold State.stoRelease
  exact .path2Release hW.sub (.setFstate hW.sub (.tl6Off hW.sub h))

theorem Writes.mgClear {sc} (hW : Covers RegName.At 0x2000000008000003A0C82000000000000001020000000000000000000 W) (h : Writes W s0 s) :
    Writes W s0 (s.mgClear sc) := by
  unfold State.mgClear
  exact .ite (.inc (hW.at0 .MG_CNT_REPREF) h) (.outputs hW.sub (.ite (.each (.tl6Off hW.sub h) (fun _ _ h2 => .stoRelease hW.sub h2)) (.modMg
      (.setf (hW.at0 .MG_STAT) (.lineInactive hW.sub (.each (.tl6Off hW.sub h) (fun _ _ h4 => .stoRelease hW.sub h4)))))))

theorem Writes.measure {d step valid theta count} (hW : Covers RegName.At 0x42000000000000000000000000000000000000000 W) (h : Writes W s0 s) :
    Writes W s0 (s.measure d step valid theta count) := by
  unfold State.measure
  exact .quiet (State.modMgDrive_keeps rfl) (.setf (hW.at1 .MG_SPD) (.wr (hW.at1 .MG_POS) (.quiet (State.freeFloor_keeps rfl)
      (.quiet (State.freeNearest_keeps rfl) h))))

theorem Writes.path2Pattern {g} (hW : Covers RegName.At 0x1020000000000000000000 W) (h : Writes W s0 s) : Writes W s0 (s.path2Pattern g) := by
  unfold State.path2Pattern
  exact .ite (.each h (fun _ _ h2 => .path2Channel hW.sub h2)) h

theorem Writes.speedPattern {d} (hW : Covers RegName.At 0x400000000000000000000000001020000000000000000000 W) (h : Writes W s0 s) :
    Writes W s0 (s.speedPattern d) := by
  unfold State.speedPattern
  exact .each h (fun _ _ h2 => .ite h2 (.ite (.ite h2 (.path2Pattern hW.sub (.setPat hW.sub h2))) (.ite (.ite h2 (.path2Pattern hW.sub
      (.setPat hW.sub h2))) h2)))

theorem Writes.driveTick {d} (hW : Covers RegName.At 0x7800003D4C50E00320098003000000000001024000200000000000000 W) (h : Writes W s0 s) :
    Writes W s0 (s.driveTick d) := by
  unfold State.driveTick
  dsimp only
  split
  · split
    · refine .enterSs1 hW.sub (.ite ?_ ?_)
      · exact .quiet (State.speedFault_keeps rfl) (.quiet (State.speedSource_keeps rfl) (.quiet (State.crosscheck_keeps rfl) (.speedPattern hW.sub
            (.quiet (State.sdiTrack_keeps rfl) h))))
      · exact .quiet (State.speedSource_keeps rfl) (.quiet (State.crosscheck_keeps rfl) (.speedPattern hW.sub (.quiet (State.sdiTrack_keeps rfl) h)))
    · exact .ite (.quiet (State.speedFault_keeps rfl) (.quiet (State.speedSource_keeps rfl) (.quiet (State.crosscheck_keeps rfl) (.speedPattern hW.sub
          (.quiet (State.sdiTrack_keeps rfl) h))))) (.quiet (State.speedSource_keeps rfl) (.quiet (State.crosscheck_keeps rfl) (.speedPattern hW.sub
          (.quiet (State.sdiTrack_keeps rfl) h))))
  · refine .ite ?_ ?_
    · refine .enterSto hW.sub (.ite ?_ ?_)
      · exact .quiet (State.speedFault_keeps rfl) (.quiet (State.speedSource_keeps rfl) (.quiet (State.crosscheck_keeps rfl) (.speedPattern hW.sub
            (.quiet (State.sdiTrack_keeps rfl) h))))
      · exact .quiet (State.speedSource_keeps rfl) (.quiet (State.crosscheck_keeps rfl) (.speedPattern hW.sub (.quiet (State.sdiTrack_keeps rfl) h)))
    · refine .ite ?_ ?_
      · refine .enterSto hW.sub (.ite ?_ ?_)
        · exact .quiet (State.speedFault_keeps rfl) (.quiet (State.speedSource_keeps rfl) (.quiet (State.crosscheck_keeps rfl) (.speedPattern hW.sub
              (.quiet (State.sdiTrack_keeps rfl) h))))
        · exact .quiet (State.speedSource_keeps rfl) (.quiet (State.crosscheck_keeps rfl) (.speedPattern hW.sub
              (.quiet (State.sdiTrack_keeps rfl) h)))
      · exact .ite (.quiet (State.speedFault_keeps rfl) (.quiet (State.speedSource_keeps rfl) (.quiet (State.crosscheck_keeps rfl)
            (.speedPattern hW.sub (.quiet (State.sdiTrack_keeps rfl) h))))) (.quiet (State.speedSource_keeps rfl) (.quiet (State.crosscheck_keeps rfl)
            (.speedPattern hW.sub (.quiet (State.sdiTrack_keeps rfl) h))))
  · exact .ite (.quiet (State.speedFault_keeps rfl) (.quiet (State.speedSource_keeps rfl) (.quiet (State.crosscheck_keeps rfl) (.speedPattern hW.sub
        (.quiet (State.sdiTrack_keeps rfl) h))))) (.quiet (State.speedSource_keeps rfl) (.quiet (State.crosscheck_keeps rfl) (.speedPattern hW.sub
        (.quiet (State.sdiTrack_keeps rfl) h))))

theorem Writes.slpReference {v} (hW : Covers RegName.At 0x82000000000000000000000000000000000000000 W) (h : Writes W s0 s) :
    Writes W s0 (s.slpReference v) := by
  unfold State.slpReference
  exact .each h (fun _ _ h2 => .ite (.quiet (State.modMgDrive_keeps rfl) (.wr (hW.at1 .MG_POS) h2)) (.setf (hW.at0 .MG_STAT) h2))

theorem Writes.mgWrite {c f} (h : Writes W s0 s) (hf : ∀ t, Writes W s0 t → Writes W s0 (f t)) : Writes W s0 (s.mgWrite c f) :=
  .byCore h (fun u hu => hf _ (.modMg hu))

theorem Writes.writeSel {v} (hW : Covers RegName.At 0x86000000000000000000000000000000000000000 W) (h : Writes W s0 s) :
    Writes W s0 (s.writeSel v) := by
  unfold State.writeSel
  exact .forN (.ite (.slpReference hW.sub (.wrReg (hW.at0 .MG_SEL) h)) (.wrReg (hW.at0 .MG_SEL) h))
      (fun _ _ h2 => .quiet (State.modMgDrive_keeps rfl) h2)

theorem Writes.inputActs {i} (hW : Covers RegName.At 0x7800003D4850E00320098003000000000001024000200000000000000 W) (h : Writes W s0 s) :
    Writes W s0 (s.inputActs i) := by
  unfold State.inputActs
  refine .ite h ?_
  dsimp only
  split
  · exact .each h (fun _ _ h2 => .ite h2 (.enterSto hW.sub h2))
  · exact .each h (fun _ _ h4 => .ite (.enterSs1 hW.sub h4) h4)
  · exact h

theorem Writes.setSi {i st} (hW : Covers RegName.At 0x10000000000000000000000000000000000000000 W) (h : Writes W s0 s) :
    Writes W s0 (s.setSi i st) := by
  unfold State.setSi
  exact .setf (hW.at0 .MG_SISTAT) h

theorem Writes.inputFault {i bitAt} (hW : Covers RegName.At 0x7800003D4850E0033809C003000000000001024000200000000000000 W) (h : Writes W s0 s) :
    Writes W s0 (s.inputFault i bitAt) := by
  unfold State.inputFault
  exact .outputs hW.sub (.inputActs hW.sub (.quiet (State.report_keeps rfl) (.quiet (State.modInput_keeps rfl) (.inc (hW.at0 .MG_CNT_SI)
      (.setf (hW.at0 .MG_SIFLT) (.setSi hW.sub h))))))

theorem Writes.sampleContact {i isB level} (hW : Covers RegName.At 0x7800003D4850E0033809C003000000000001024000200000000000000 W) (h : Writes W s0 s) :
    Writes W s0 (s.sampleContact i isB level) := by
  unfold State.sampleContact
  exact .ite (.ite (.inputFault hW.sub h) h) (.ite h (.ite (.inputFault hW.sub (.quiet (State.modInput_keeps rfl) h))
      (.quiet (State.modInput_keeps rfl) h)))

theorem Writes.contactMoves {i now} (hW : Covers RegName.At 0x7800003D4850E0033809C003000000000001024000200000000000000 W) (h : Writes W s0 s) :
    Writes W s0 (s.contactMoves i now) := by
  unfold State.contactMoves
  refine .outputs hW.sub (.inputActs hW.sub (.ite ?_ ?_))
  · exact .ite (.quiet (State.modInput_keeps rfl) (.setSi hW.sub h)) (.ite (.quiet (State.modInput_keeps rfl) h) h)
  · exact .ite (.ite (.inputFault hW.sub h) (.ite (.quiet (State.modInput_keeps rfl) (.setSi hW.sub h)) (.quiet (State.modInput_keeps rfl)
        (.setSi hW.sub h)))) (.ite (.ite h (.quiet (State.modInput_keeps rfl) (.setSi hW.sub h))) (.quiet (State.modInput_keeps rfl) h))

/-! ## Pwm -/

theorem Writes.tripClear {g} (hW : Covers RegName.At 0x800000000000000000000000000000000000000000000000 W) (h : Writes W s0 s) :
    Writes W s0 (s.tripClear g) := by
  unfold State.tripClear
  exact .ite h (.ite (.setf (hW.at1 .PWM_STAT) h) (.ite (.setf (hW.at1 .PWM_STAT) (.setf (hW.at1 .PWM_STAT) h)) (.quiet (State.modPg_keeps rfl)
      (.quiet (State.loOff_keeps rfl) (.quiet (State.hiOff_keeps rfl) (.setf (hW.at1 .PWM_STAT) (.setf (hW.at1 .PWM_STAT) h)))))))

theorem Writes.ctrlFields {g v} (hW : Covers RegName.At 0x840000000000000000000000000000000000000000000000 W) (h : Writes W s0 s) :
    Writes W s0 (s.ctrlFields g v).1 := by
  unfold State.ctrlFields
  dsimp only
  split
  · exact h
  · split
    · exact .pwmErr hW.sub h
    · exact .wr (hW.at1 .PWM_CTRL) h

theorem Writes.genEnable {g v} (hW : Covers RegName.At 0x840180000000000000000000000000000000000000000000 W) (h : Writes W s0 s) :
    Writes W s0 (s.genEnable g v) := by
  unfold State.genEnable
  exact .ite h (.ite (.ctrlFields hW.sub h) (.ite (.pwmErr hW.sub (.ctrlFields hW.sub h)) (.ite (.setf (hW.at1 .PWM_STAT) (.setf (hW.at1 .PWM_CTRL)
      (.ctrlFields hW.sub h))) (.genStart hW.sub (.setf (hW.at1 .PWM_CTRL) (.ctrlFields hW.sub h))))))

theorem Writes.gstart {v} (hW : Covers RegName.At 0x880180000000000000000000000000000000000000000000 W) (h : Writes W s0 s) :
    Writes W s0 (s.gstart v) := by
  unfold State.gstart
  exact .forN (.wr (hW.at0 .PWM_GSTART_HI) h) (fun _ _ h2 => .ite (.genStart hW.sub h2) h2)

theorem Writes.cmpWrite {g b v} (hW : Covers RegName.At 0x120600000000000000000000000000000000000000000000 W) (h : Writes W s0 s) :
    Writes W s0 (s.cmpWrite g b v) := by
  unfold State.cmpWrite
  exact .ite (.inc (hW.at1 .PWM_CNT_WREF) h) (.setShadow hW.sub h)

theorem Writes.yarrowResult {n} (hW : Covers RegName.At 0xC0000000000000000000000000000000000000000000000000000000000 W) (h : Writes W s0 s) :
    Writes W s0 (s.yarrowResult n) := by
  unfold State.yarrowResult
  refine .ite ?_ ?_
  · exact .forN (.quiet (fun k => Keeps.set_yarrow_mg rfl k fun i => by simpa using i) (.quiet (State.sourceOff_keeps rfl) (.setf (hW.at0 .YRW_STAT)
        (.inc (hW.at0 .YRW_CNT) (.setf (hW.at0 .YRW_STAT) h))))) (fun _ _ h2 => .ite h2 (.quiet (State.modPg_keeps rfl) h2))
  · exact .quiet (State.report_keeps rfl) (.quiet (State.sourceOn_keeps rfl) (.quiet (fun k => Keeps.set_mg rfl k fun i => by simpa using i)
        (.setf (hW.at0 .YRW_STAT) (.setf (hW.at0 .YRW_STAT) (.inc (hW.at0 .YRW_CNT) (.setf (hW.at0 .YRW_STAT) h))))))

theorem Writes.perWrite {g v} (hW : Covers RegName.At 0x900600000000000000000000000000000000000000000000 W) (h : Writes W s0 s) :
    Writes W s0 (s.perWrite g v) := by
  unfold State.perWrite
  exact .ite (.pwmErr hW.sub h) (.setShadow hW.sub h)

theorem execCompareAMatch_writes {g} (h : s.Inv) (hws : (Instr.compareAMatch g).registers = some ws) :
    Reaches (Writes (Listed ws) s) (execCompareAMatch g s) := by
  have hW := covers_listed (at_ := RegName.At) (M := 0x20080D1F0000000001000000000001000000340000000000220) hws rfl
  unfold execCompareAMatch
  refine .ofUnit (fun _ => .ite (.refl h) (.ite ?_ ?_))
  · split
    · exact .refl h
    · exact .cotFrom hW.sub (.quiet (State.ttSync_keeps rfl) (.adcEvent hW.sub (.quiet (State.modPg_keeps rfl) (.quiet (State.reach_keeps rfl)
          (.refl h)))))
  · exact .ite (.refl h) (.cotFrom hW.sub (.quiet (State.ttSync_keeps rfl) (.adcEvent hW.sub (.quiet (State.modPg_keeps rfl)
        (.quiet (State.reach_keeps rfl) (.refl h))))))

theorem execCotForcedStart_writes {g} (h : s.Inv) (hws : (Instr.cotForcedStart g).registers = some ws) :
    Reaches (Writes (Listed ws) s) (execCotForcedStart g s) := by
  have hW := covers_listed (at_ := RegName.At) (M := 0x20080F1F0000000001000000000001000000340000000000220) hws rfl
  unfold execCotForcedStart
  exact .ofUnit (fun _ => .ite (.ite (.quiet (State.modPg_keeps rfl) (.inc (hW.at1 .PWM_CNT_FORCE) (.quiet (State.reach_keeps rfl) (.refl h))))
      (.periodStart hW.sub (.inc (hW.at1 .PWM_CNT_FORCE) (.quiet (State.reach_keeps rfl) (.refl h))))) (.refl h))

theorem execCotMinOffEnd_writes {g} (h : s.Inv) (hws : (Instr.cotMinOffEnd g).registers = some ws) :
    Reaches (Writes (Listed ws) s) (execCotMinOffEnd g s) := by
  have hW := covers_listed (at_ := RegName.At) (M := 0x20080D1F0000000001000000000001000000340000000000220) hws rfl
  unfold execCotMinOffEnd
  exact .ofUnit (fun _ => .ite (.periodStart hW.sub (.quiet (State.reach_keeps rfl) (.refl h))) (.refl h))

theorem execCotStartEvent_writes {g} (h : s.Inv) (hws : (Instr.cotStartEvent g).registers = some ws) :
    Reaches (Writes (Listed ws) s) (execCotStartEvent g s) := by
  have hW := covers_listed (at_ := RegName.At) (M := 0x20080D1F0000000001000000000001000000340000000000220) hws rfl
  unfold execCotStartEvent
  exact .ofUnit (fun _ => .ite (.cotStart hW.sub (.refl h)) (.refl h))

theorem execGeneratorCentre_writes {g} (h : s.Inv) (hws : (Instr.generatorCentre g).registers = some ws) :
    Reaches (Writes (Listed ws) s) (execGeneratorCentre g s) := by
  have hW := covers_listed (at_ := RegName.At) (M := 0x1F0000000001000000000000000000340000000000220) hws rfl
  unfold execGeneratorCentre
  exact .ofUnit (fun _ => .ite (.quiet (State.ttSync_keeps rfl) (.adcEvent hW.sub (.ite (.loadPoint hW.sub (.quiet (State.modPg_keeps rfl)
      (.quiet (State.reach_keeps rfl) (.refl h)))) (.quiet (State.modPg_keeps rfl) (.quiet (State.reach_keeps rfl) (.refl h)))))) (.refl h))

theorem execGeneratorPeriodStart_writes {g} (h : s.Inv) (hws : (Instr.generatorPeriodStart g).registers = some ws) :
    Reaches (Writes (Listed ws) s) (execGeneratorPeriodStart g s) := by
  have hW := covers_listed (at_ := RegName.At) (M := 0x20080D1F0000000001000000000001000000340000000000220) hws rfl
  unfold execGeneratorPeriodStart
  exact .ofUnit (fun _ => .ite (.periodStart hW.sub (.quiet (State.reach_keeps rfl) (.refl h))) (.ite (.periodStart hW.sub
      (.quiet (State.modPg_keeps rfl) (.quiet (State.reach_keeps rfl) (.refl h)))) (.refl h)))

theorem execPwmCmpWrite_writes {core g b v} (h : s.Inv) (hws : (Instr.pwmCmpWrite core g b v).registers = some ws) :
    Reaches (Writes (Listed ws) s) (execPwmCmpWrite core g b v s) := by
  have hW := covers_listed (at_ := RegName.At) (M := 0x120600000000000000000000000000000000000000000000) hws rfl
  unfold execPwmCmpWrite
  exact .ofUnit (fun _ => .byCore (.refl h) (fun _ h2 => .cmpWrite hW.sub h2))

theorem execPwmDisable_writes {core g} (h : s.Inv) (hws : (Instr.pwmDisable core g).registers = some ws) :
    Reaches (Writes (Listed ws) s) (execPwmDisable core g s) := by
  have hW := covers_listed (at_ := RegName.At) (M := 0x200840800000000000000000000000000000000000000000000) hws rfl
  unfold execPwmDisable
  exact .ofUnit (fun _ => .byCore (.refl h) (fun _ h2 => .ite (.genStop hW.sub h2) h2))

theorem execPwmEnable_writes {core g v} (h : s.Inv) (hws : (Instr.pwmEnable core g v).registers = some ws) :
    Reaches (Writes (Listed ws) s) (execPwmEnable core g v s) := by
  have hW := covers_listed (at_ := RegName.At) (M := 0x840180000000000000000000000000000000000000000000) hws rfl
  unfold execPwmEnable
  exact .ofUnit (fun _ => .byCore (.refl h) (fun _ h2 => .genEnable hW.sub h2))

theorem execPwmGstart_writes {core v} (h : s.Inv) (hws : (Instr.pwmGstart core v).registers = some ws) :
    Reaches (Writes (Listed ws) s) (execPwmGstart core v s) := by
  have hW := covers_listed (at_ := RegName.At) (M := 0x880180000000000000000000000000000000000000000000) hws rfl
  unfold execPwmGstart
  exact .ofUnit (fun _ => .byCore (.refl h) (fun _ h2 => .gstart hW.sub h2))

theorem execPwmPerWrite_writes {core g v} (h : s.Inv) (hws : (Instr.pwmPerWrite core g v).registers = some ws) :
    Reaches (Writes (Listed ws) s) (execPwmPerWrite core g v s) := by
  have hW := covers_listed (at_ := RegName.At) (M := 0x900600000000000000000000000000000000000000000000) hws rfl
  unfold execPwmPerWrite
  exact .ofUnit (fun _ => .byCore (.refl h) (fun _ h2 => .perWrite hW.sub h2))

theorem execPwmTripClear_writes {core g} (h : s.Inv) (hws : (Instr.pwmTripClear core g).registers = some ws) :
    Reaches (Writes (Listed ws) s) (execPwmTripClear core g s) := by
  have hW := covers_listed (at_ := RegName.At) (M := 0x800000000000000000000000000000000000000000000000) hws rfl
  unfold execPwmTripClear
  exact .ofUnit (fun _ => .byCore (.refl h) (fun _ h2 => .tripClear hW.sub h2))

theorem execReferenceEdge_writes {g} (h : s.Inv) (hws : (Instr.referenceEdge g).registers = some ws) :
    Reaches (Writes (Listed ws) s) (execReferenceEdge g s) := by
  have hW := covers_listed (at_ := RegName.At) (M := 0x5000000000000000000000000000000000000000000000) hws rfl
  unfold execReferenceEdge
  refine .ofUnit (fun _ => .ite (.refl h) ?_)
  split
  · exact .refl h
  · exact .ite (.courseEdge hW.sub (.quiet (State.reach_keeps rfl) (.refl h))) (.quiet (State.cotFell_keeps rfl) (.courseEdge hW.sub
        (.quiet (State.reach_keeps rfl) (.refl h))))

theorem execStretchTurnOff_writes {g} (h : s.Inv) (hws : (Instr.stretchTurnOff g).registers = some ws) :
    Reaches (Writes (Listed ws) s) (execStretchTurnOff g s) := by
  have hW := covers_listed (at_ := RegName.At) (M := 0x5000000000000000000000000000000000000000000000) hws rfl
  unfold execStretchTurnOff
  refine .ofUnit (fun _ => ?_)
  split
  · exact .refl h
  · exact .ite (.quiet (State.cotFell_keeps rfl) (.refEdge hW.sub (.quiet (State.modPg_keeps rfl) (.quiet (State.reach_keeps rfl) (.refl h)))))
        (.refEdge hW.sub (.quiet (State.modPg_keeps rfl) (.quiet (State.reach_keeps rfl) (.refl h))))

theorem execTripInFilterExpiry_writes {idx} (h : s.Inv) (hws : (Instr.tripInFilterExpiry idx).registers = some ws) :
    Reaches (Writes (Listed ws) s) (execTripInFilterExpiry idx s) := by
  have hW := covers_listed (at_ := RegName.At) (M := 0x7800001D4810600000000003000000000000004000200000000000000) hws rfl
  unfold execTripInFilterExpiry
  refine .ofUnit (fun _ => ?_)
  split
  · exact .refl h
  · exact .ite (.lineActive hW.sub (.quiet (State.modTripIn_keeps rfl) (.quiet (State.reach_keeps rfl) (.refl h)))) (.lineInactive hW.sub
        (.quiet (State.modTripIn_keeps rfl) (.quiet (State.reach_keeps rfl) (.refl h))))

theorem execYarrowMeasurementDone_writes {n} (h : s.Inv) (hws : (Instr.yarrowMeasurementDone n).registers = some ws) :
    Reaches (Writes (Listed ws) s) (execYarrowMeasurementDone n s) := by
  have hW := covers_listed (at_ := RegName.At) (M := 0xC0000000000000000000000000000000000000000000000000000000000) hws rfl
  unfold execYarrowMeasurementDone
  refine .ofUnit (fun _ => ?_)
  split
  · exact .refl h
  · exact .yarrowResult hW.sub (.quiet (Keeps.set_yarrow rfl) (.quiet (State.reach_keeps rfl) (.refl h)))

/-! ## DriveOps -/

theorem Writes.stopGens {gs} (hW : Covers RegName.At 0x200840800000000000000000000000000000000000000000000 W) (h : Writes W s0 s) :
    Writes W s0 (s.stopGens gs) := by
  unfold State.stopGens
  exact .each h (fun _ _ h2 => .ite (.genStop hW.sub h2) h2)

theorem Writes.lawsOff {ls} (hW : Covers RegName.At 0x800000000000003130C00000000000000200000000000000 W) (h : Writes W s0 s) :
    Writes W s0 (s.lawsOff ls) := by
  unfold State.lawsOff
  exact .each h (fun _ _ h2 => .lawDisable hW.sub h2)

theorem Writes.groupStart {gs} (hW : Covers RegName.At 0x8C0180000000000000000000000000000000000000000000 W) (h : Writes W s0 s) :
    Writes W s0 (s.groupStart gs) := by
  unfold State.groupStart
  exact .gstart hW.sub (.wr (hW.at0 .PWM_GSTART_HI) (.each h (fun _ _ h2 => .genEnable hW.sub h2)))

theorem Writes.lawsOn {ls} (hW : Covers RegName.At 0x1800000000000000000000004F00200000000000000180000000000000 W) (h : Writes W s0 s) :
    Writes W s0 (s.lawsOn ls) := by
  unfold State.lawsOn
  exact .each h (fun _ _ h2 => .lawEnable hW.sub (.loadLaw hW.sub (.engineStart hW.sub (.loadFrame hW.sub h2))))

theorem Writes.gtrip {gs d} (hW : Covers RegName.At 0x7800003D4850E00300C00003000000000000004000200002020000000 W) (h : Writes W s0 s) :
    Writes W s0 (s.gtrip gs d) := by
  unfold State.gtrip
  exact .safeGens hW.sub (.each h (fun _ _ h2 => .preempt hW.sub (.ite (.setf (hW.at0 .MG_GTRIP) h2) (.setf (hW.at0 .MG_GTRIP_HI) h2))))

theorem Writes.sensorEntry {u k chan pol dest} (hW : Covers RegName.At 0x6000 W) (h : Writes W s0 s) :
    Writes W s0 (s.sensorEntry u k chan pol dest) := by
  unfold State.sensorEntry
  exact .setf (hW.at2 .ADC_EDST) (.setf (hW.at2 .ADC_ECFG) (.setf (hW.at2 .ADC_ECFG) (.setf (hW.at2 .ADC_ECFG) (.setf (hW.at2 .ADC_ECFG) h))))

theorem Writes.drvSafeEntry {d} (hW : Covers RegName.At 0x800000000000003130C00000000000000200000000000000 W) (h : Writes W s0 s) :
    Writes W s0 (s.drvSafeEntry d) := by
  unfold State.drvSafeEntry
  exact .quiet (State.modDrv_keeps rfl) (.quiet (State.setDrv_keeps rfl) (.lawsOff hW.sub h))

theorem Writes.drvFault {d} (hW : Covers RegName.At 0x800000000000003130C00000000000000200000000000000 W) (h : Writes W s0 s) :
    Writes W s0 (s.drvFault d) := by
  unfold State.drvFault
  exact .drvSafeEntry hW.sub (.quiet (State.report_keeps rfl) h)

theorem Writes.drvMissCheck {d} (hW : Covers RegName.At 0x800000000000003130C00000000000000200000000000000 W) (h : Writes W s0 s) :
    Writes W s0 (s.drvMissCheck d) := by
  unfold State.drvMissCheck
  exact .ite (.drvFault hW.sub (.quiet (State.modDrv_keeps rfl) h)) (.quiet (State.modDrv_keeps rfl) h)

theorem Writes.currentJoins {d} (hW : Covers RegName.At 0x40000 W) (h : Writes W s0 s) : Writes W s0 (s.currentJoins d) := by
  unfold State.currentJoins
  exact .ite (.forN h (fun _ _ h2 => .setf (hW.at2 .ADC_TRG) (.setf (hW.at2 .ADC_TRG) h2))) h

theorem Writes.sensorSlot {d} (hW : Covers RegName.At 0x46000 W) (h : Writes W s0 s) : Writes W s0 (s.sensorSlot d) := by
  unfold State.sensorSlot
  exact .ite (.sensorEntry hW.sub (.setf (hW.at2 .ADC_TRG) (.setf (hW.at2 .ADC_TRG) (.setf (hW.at2 .ADC_TRG) (.setf (hW.at2 .ADC_TRG) h)))))
      (.sensorEntry hW.sub (.sensorEntry hW.sub (.sensorEntry hW.sub (.setf (hW.at2 .ADC_TRG) (.setf (hW.at2 .ADC_TRG) (.setf (hW.at2 .ADC_TRG)
      (.setf (hW.at2 .ADC_TRG) h)))))))

theorem Writes.drvToOff {d} (hW : Covers RegName.At 0x200840800000000003130C00000000000000200000000000000 W) (h : Writes W s0 s) :
    Writes W s0 (s.drvToOff d) := by
  unfold State.drvToOff
  exact .ite (.quiet (State.setDrv_keeps rfl) (.quiet (State.modDrv_keeps rfl) (.quiet (State.setDrv_keeps rfl) (.stopGens hW.sub
      (.lawsOff hW.sub h))))) (.quiet (State.modDrv_keeps rfl) (.quiet (State.setDrv_keeps rfl) (.stopGens hW.sub (.lawsOff hW.sub h))))

theorem Writes.drvLoad {d} (hW : Covers RegName.At 0x1800000000800000000000007F30E00000000000000380000000046000 W) (h : Writes W s0 s) :
    Writes W s0 (s.drvLoad d) := by
  unfold State.drvLoad
  exact .each (.lawsOn hW.sub (.lawsOn hW.sub (.currentJoins hW.sub (.sensorSlot hW.sub (.ite (.forN h (fun _ _ h2 => .engineStop hW.sub h2)) h)))))
      (fun _ _ h4 => .quiet (State.putNat_keeps rfl) h4)

/-! ## SeqOps -/

theorem Writes.clearTrips {gs} (hW : Covers RegName.At 0x800000000000000000000000000000000000000000000000 W) (h : Writes W s0 s) :
    Writes W s0 (s.clearTrips gs) := by
  unfold State.clearTrips
  exact .each h (fun _ _ h2 => .tripClear hW.sub h2)

theorem Writes.genSet {g mode per sync} (hW : Covers RegName.At 0x1340000000000000000000000000000000000000000000000 W) (h : Writes W s0 s) :
    Writes W s0 (s.genSet g mode per sync) := by
  unfold State.genSet
  dsimp only
  split
  · exact .setf (hW.at1 .PWM_SYNC) (.wr (hW.at1 .PWM_PER) (.wr (hW.at1 .PWM_CTRL) h))
  · exact .setf (hW.at1 .PWM_PHS) (.setf (hW.at1 .PWM_SYNC) (.setf (hW.at1 .PWM_SYNC) (.wr (hW.at1 .PWM_PER) (.wr (hW.at1 .PWM_CTRL) h))))

/-! ## LvOps -/

theorem Writes.refreshPg (hW : Covers RegName.At 0x400000000000000000000000000000000000 W) (h : Writes W s0 s) : Writes W s0 s.refreshPg := by
  unfold State.refreshPg
  exact .quiet (State.modLvSeq_keeps rfl) (.setb (hW.at0 .LVC_STAT) h)

theorem Writes.dcxOff (hW : Covers RegName.At 0x200840800000000003130C00000000000000200000000000000 W) (h : Writes W s0 s) :
    Writes W s0 s.dcxOff := by
  unfold State.dcxOff
  exact .stopGens hW.sub (.lawsOff hW.sub h)

theorem Writes.buckOff (hW : Covers RegName.At 0x200840800000000003130C00000000000000200000000000000 W) (h : Writes W s0 s) :
    Writes W s0 s.buckOff := by
  unfold State.buckOff
  exact .quiet (State.modLvSeq_keeps rfl) (.stopGens hW.sub (.lawsOff hW.sub h))

theorem Writes.hiccup (hW : Covers RegName.At 0x200840800000000003130C00000000000000200000000000000 W) (h : Writes W s0 s) :
    Writes W s0 s.hiccup := by
  unfold State.hiccup
  exact .ite (.quiet (State.putNat_keeps rfl) (.quiet (State.setLv_keeps rfl) (.buckOff hW.sub (.quiet (State.modLvSeq_keeps rfl)
      (.dcxOff hW.sub h))))) (.quiet (State.setLv_keeps rfl) (.quiet (State.modLvSeq_keeps rfl) (.dcxOff hW.sub h)))

theorem Writes.ovHiccup (hW : Covers RegName.At 0x200840800000000403130C00000000000000200000000000000 W) (h : Writes W s0 s) :
    Writes W s0 s.ovHiccup := by
  unfold State.ovHiccup
  exact .ite (.quiet (State.modLvSeq_keeps rfl) (.setf (hW.at0 .LVC_STAT) (.quiet (State.modLvSeq_keeps rfl) (.dcxOff hW.sub h))))
      (.quiet (State.modLvSeq_keeps rfl) (.quiet (State.modLvSeq_keeps rfl) (.dcxOff hW.sub h)))

theorem Writes.rectifierOn (hW : Covers RegName.At 0x840180000000000000000000000000000000000000000000 W) (h : Writes W s0 s) :
    Writes W s0 s.rectifierOn := by
  unfold State.rectifierOn
  exact .genEnable hW.sub h

theorem Writes.feedClear (hW : Covers RegName.At 0x800000000000000000000000000000000000000000000000 W) (h : Writes W s0 s) :
    Writes W s0 s.feedClear := by
  unfold State.feedClear
  exact .ite (.quiet (State.modLvSeq_keeps rfl) (.clearTrips hW.sub h)) h

theorem Writes.lvToFault {cause} (hW : Covers RegName.At 0x200840800000000003130C00000000000000200000000000000 W) (h : Writes W s0 s) :
    Writes W s0 (s.lvToFault cause) := by
  unfold State.lvToFault
  exact .quiet (State.putNat_keeps rfl) (.quiet (State.setLv_keeps rfl) (.dcxOff hW.sub (.buckOff hW.sub h)))

theorem Writes.softStart (hW : Covers RegName.At 0x18000002008C0980000000007F30E00000000000000380000000000000 W) (h : Writes W s0 s) :
    Writes W s0 s.softStart := by
  unfold State.softStart
  exact .ite (.lvToFault hW.sub h) (.quiet (State.setLv_keeps rfl) (.quiet (State.modLvSeq_keeps rfl) (.groupStart hW.sub (.lawsOn hW.sub h))))

theorem Writes.refreshOvth (hW : Covers RegName.At 0x200000000000000000000000000000000000 W) (h : Writes W s0 s) : Writes W s0 s.refreshOvth := by
  unfold State.refreshOvth
  exact .setf (hW.at0 .LVC_OVTH) (.quiet (State.freeFloor_keeps rfl) h)

theorem Writes.lvBoundary (hW : Covers RegName.At 0x800000000000600000000000000000000000000000000000 W) (h : Writes W s0 s) :
    Writes W s0 s.lvBoundary := by
  unfold State.lvBoundary
  exact .ite (.feedClear hW.sub (.refreshPg hW.sub (.refreshOvth hW.sub (.quiet (State.refStep_keeps rfl) h)))) h

theorem Writes.lvCleared (hW : Covers RegName.At 0x200840800000000003130C00000000000000200000000000000 W) (h : Writes W s0 s) :
    Writes W s0 s.lvCleared := by
  unfold State.lvCleared
  exact .ite (.quiet (State.setLv_keeps rfl) (.quiet (State.modLvSeq_keeps rfl) (.buckOff hW.sub (.clearTrips hW.sub h)))) (.ite
      (.quiet (State.modLvSeq_keeps rfl) h) h)

theorem Writes.lvReaction {was} (hW : Covers RegName.At 0x200840800000000003130C00000000000000200000000000000 W) (h : Writes W s0 s) :
    Writes W s0 (s.lvReaction was) := by
  unfold State.lvReaction
  exact .ite h (.ite (.quiet (State.modLvSeq_keeps rfl) (.dcxOff hW.sub h)) (.lvToFault hW.sub h))

theorem Writes.dcxForward (hW : Covers RegName.At 0x1800000201BC0F80000000007F30E00000000000000380000000000000 W) (h : Writes W s0 s) :
    Writes W s0 s.dcxForward := by
  unfold State.dcxForward
  exact .groupStart hW.sub (.lawsOn hW.sub (.setShadow hW.sub (.setShadow hW.sub (.setShadow hW.sub (.genSet hW.sub (.genSet hW.sub (.genSet hW.sub
      (.quiet (State.modLvSeq_keeps rfl) (.clearTrips hW.sub (.dcxOff hW.sub h))))))))))

theorem Writes.lvChannelFault {m} (hW : Covers RegName.At 0x200840800000000003130C00000000000000200000000000000 W) (h : Writes W s0 s) :
    Writes W s0 (s.lvChannelFault m) := by
  unfold State.lvChannelFault
  exact .ite (.lvToFault hW.sub h) h

theorem Writes.dcxBackward (hW : Covers RegName.At 0x1800000201BC0F80000000007F30E00000000000000380000000000000 W) (h : Writes W s0 s) :
    Writes W s0 s.dcxBackward := by
  unfold State.dcxBackward
  exact .groupStart hW.sub (.lawsOn hW.sub (.setShadow hW.sub (.setShadow hW.sub (.setShadow hW.sub (.genSet hW.sub (.genSet hW.sub (.genSet hW.sub
      (.quiet (State.modLvSeq_keeps rfl) (.clearTrips hW.sub (.dcxOff hW.sub h))))))))))

theorem Writes.lvToOff (hW : Covers RegName.At 0x200840800000000003130C00000000000000200000000000000 W) (h : Writes W s0 s) :
    Writes W s0 s.lvToOff := by
  unfold State.lvToOff
  exact .quiet (State.setLv_keeps rfl) (.dcxOff hW.sub (.buckOff hW.sub h))

/-! ## ActOps -/

theorem Writes.actuatorSlot {t kind idx delay first last join} (hW : Covers RegName.At 0x60000 W) (h : Writes W s0 s) :
    Writes W s0 (s.actuatorSlot t kind idx delay first last join) := by
  unfold State.actuatorSlot
  exact .setf (hW.at2 .ADC_TDLY) (.setf (hW.at2 .ADC_TRG) (.setb (hW.at2 .ADC_TRG) (.setf (hW.at2 .ADC_TRG) (.setf (hW.at2 .ADC_TRG)
      (.setf (hW.at2 .ADC_TRG) (.setf (hW.at2 .ADC_TRG) h))))))

theorem Writes.motorOff {m} (hW : Covers RegName.At 0x200840800000000003130C00000000000000200000000000000 W) (h : Writes W s0 s) :
    Writes W s0 (s.motorOff m) := by
  unfold State.motorOff
  exact .stopGens hW.sub (.lawsOff hW.sub (.quiet (State.floatLeg_keeps rfl) h))

theorem Writes.pumpOff (hW : Covers RegName.At 0x200840800000000003130C00000000000000200000000000000 W) (h : Writes W s0 s) :
    Writes W s0 s.pumpOff := by
  unfold State.pumpOff
  exact .quiet (State.setPump_keeps rfl) (.quiet (State.putInt_keeps rfl) (.motorOff hW.sub h))

theorem Writes.clutchStop (hW : Covers RegName.At 0x200840800000000003130C00000000000000200000000000000 W) (h : Writes W s0 s) :
    Writes W s0 s.clutchStop := by
  unfold State.clutchStop
  exact .stopGens hW.sub (.lawsOff hW.sub h)

theorem Writes.pumpToFault {cause} (hW : Covers RegName.At 0x200840800000000003130C00000000000000200000000000040 W) (h : Writes W s0 s) :
    Writes W s0 (s.pumpToFault cause) := by
  unfold State.pumpToFault
  exact .setf (hW.at0 .ACT_STAT) (.quiet (State.pumpCause_keeps rfl) (.quiet (State.setPump_keeps rfl) (.motorOff hW.sub h)))

theorem Writes.pumpFail (hW : Covers RegName.At 0x200840800000000003130C00000000000000200000000000040 W) (h : Writes W s0 s) :
    Writes W s0 s.pumpFail := by
  unfold State.pumpFail
  exact .ite (.pumpToFault hW.sub (.quiet (State.modPump_keeps rfl) h)) (.quiet (State.setPump_keeps rfl) (.motorOff hW.sub
      (.quiet (State.modPump_keeps rfl) h)))

theorem Writes.parkOff (hW : Covers RegName.At 0x200840800000000003130C00000000000000200000000000000 W) (h : Writes W s0 s) :
    Writes W s0 s.parkOff := by
  unfold State.parkOff
  exact .quiet (State.modPark_keeps rfl) (.stopGens hW.sub (.lawsOff hW.sub h))

theorem Writes.actuatorEntry {k} (hW : Covers RegName.At 0x6000 W) (h : Writes W s0 s) : Writes W s0 (s.actuatorEntry k) := by
  unfold State.actuatorEntry
  exact .setf (hW.at2 .ADC_EDST) (.setf (hW.at2 .ADC_ECFG) (.setf (hW.at2 .ADC_ECFG) (.setf (hW.at2 .ADC_ECFG) (.setf (hW.at2 .ADC_ECFG) h))))

theorem Writes.actuatorSampling (hW : Covers RegName.At 0x66000 W) (h : Writes W s0 s) : Writes W s0 s.actuatorSampling := by
  unfold State.actuatorSampling
  exact .actuatorSlot hW.sub (.actuatorSlot hW.sub (.actuatorSlot hW.sub (.forN h (fun _ _ h2 => .actuatorEntry hW.sub h2))))

theorem Writes.actLawsOn {ls} (hW : Covers RegName.At 0x1800000000000000000000004F00200000000000000180000000066000 W) (h : Writes W s0 s) :
    Writes W s0 (s.actLawsOn ls) := by
  unfold State.actLawsOn
  exact .lawsOn hW.sub (.actuatorSampling hW.sub h)

theorem Writes.parkDrive {engage} (hW : Covers RegName.At 0x18000002009C0F80000000007F30E00000000000000380000000066000 W) (h : Writes W s0 s) :
    Writes W s0 (s.parkDrive engage) := by
  unfold State.parkDrive
  refine .ite ?_ ?_
  · exact .quiet (State.parkCause_keeps rfl) (.quiet (State.setPark_keeps rfl) (.parkOff hW.sub h))
  · exact .quiet (State.parkCause_keeps rfl) (.quiet (State.setPark_keeps rfl) (.quiet (State.modPark_keeps rfl) (.ite (.setShadow hW.sub
        (.setShadow hW.sub h)) (.groupStart hW.sub (.actLawsOn hW.sub (.setShadow hW.sub (.setShadow hW.sub h)))))))

theorem Writes.shBusy {b} (hW : Covers RegName.At 0x40 W) (h : Writes W s0 s) : Writes W s0 (s.shBusy b) := by
  unfold State.shBusy
  exact .setb (hW.at0 .ACT_STAT) h

theorem Writes.shToFault {cause} (hW : Covers RegName.At 0x200840800000000003130C00000000000000200000000000040 W) (h : Writes W s0 s) :
    Writes W s0 (s.shToFault cause) := by
  unfold State.shToFault
  exact .quiet (State.putNat_keeps rfl) (.quiet (State.setSh_keeps rfl) (.shBusy hW.sub (.motorOff hW.sub h)))

theorem Writes.actChannelFault {m} (hW : Covers RegName.At 0x200840800000000003130C00000000000000200000000000040 W) (h : Writes W s0 s) :
    Writes W s0 (s.actChannelFault m) := by
  unfold State.actChannelFault
  exact .ite (.shToFault hW.sub h) (.ite (.quiet (State.pumpCause_keeps rfl) (.quiet (State.setPump_keeps rfl) (.motorOff hW.sub h))) (.ite
      (.quiet (State.parkCause_keeps rfl) (.quiet (State.setPark_keeps rfl) (.parkOff hW.sub h))) (.ite (.quiet (State.setClutch_keeps rfl)
      (.clutchStop hW.sub h)) h)))

theorem Writes.clutchFollow (hW : Covers RegName.At 0x18000002008C0980000000007F30E00000000000000380000000066000 W) (h : Writes W s0 s) :
    Writes W s0 s.clutchFollow := by
  unfold State.clutchFollow
  exact .ite (.ite (.quiet (State.setClutch_keeps rfl) (.groupStart hW.sub (.actLawsOn hW.sub h))) (.quiet (State.setClutch_keeps rfl) h)) (.ite
      (.quiet (State.setClutch_keeps rfl) (.clutchStop hW.sub h)) h)

theorem Writes.commutate {m k} (hW : Covers RegName.At 0x100600000000000000000000000000000000000000000000 W) (h : Writes W s0 s) :
    Writes W s0 (s.commutate m k) := by
  unfold State.commutate
  split
  · exact .quiet (State.modMotor_keeps rfl) (.quiet (State.floatLeg_keeps rfl) (.setShadow hW.sub (.setShadow hW.sub
        (.quiet (State.drawWord_keeps rfl) h))))

theorem Writes.actStops (hW : Covers RegName.At 0x200840800000000003130C00000000000000200000000000040 W) (h : Writes W s0 s) :
    Writes W s0 s.actStops := by
  unfold State.actStops
  refine .ite ?_ ?_
  · refine .pumpOff hW.sub (.ite ?_ ?_)
    · exact .quiet (State.setClutch_keeps rfl) (.clutchStop hW.sub (.ite (.parkOff hW.sub (.ite (.quiet (State.setSh_keeps rfl) (.shBusy hW.sub
          (.motorOff hW.sub h))) h)) (.ite (.quiet (State.setSh_keeps rfl) (.shBusy hW.sub (.motorOff hW.sub h))) h)))
    · exact .ite (.parkOff hW.sub (.ite (.quiet (State.setSh_keeps rfl) (.shBusy hW.sub (.motorOff hW.sub h))) h)) (.ite
          (.quiet (State.setSh_keeps rfl) (.shBusy hW.sub (.motorOff hW.sub h))) h)
  · refine .ite ?_ ?_
    · exact .quiet (State.setClutch_keeps rfl) (.clutchStop hW.sub (.ite (.parkOff hW.sub (.ite (.quiet (State.setSh_keeps rfl) (.shBusy hW.sub
          (.motorOff hW.sub h))) h)) (.ite (.quiet (State.setSh_keeps rfl) (.shBusy hW.sub (.motorOff hW.sub h))) h)))
    · exact .ite (.parkOff hW.sub (.ite (.quiet (State.setSh_keeps rfl) (.shBusy hW.sub (.motorOff hW.sub h))) h)) (.ite
          (.quiet (State.setSh_keeps rfl) (.shBusy hW.sub (.motorOff hW.sub h))) h)

theorem Writes.actBoundary (hW : Covers RegName.At 0x18000002008C0980000000007F30E00000000000000380000000066040 W) (h : Writes W s0 s) :
    Writes W s0 s.actBoundary := by
  unfold State.actBoundary
  exact .quiet (State.parkRefresh_keeps rfl) (.clutchFollow hW.sub (.actStops hW.sub h))

theorem Writes.legs {m l} (hW : Covers RegName.At 0x100600000000000000000000000000000000000000000000 W) (h : Writes W s0 s) :
    Writes W s0 (s.legs m l) := by
  unfold State.legs
  exact .forN h (fun _ _ h2 => .setShadow hW.sub h2)

theorem Writes.shFail {cause} (hW : Covers RegName.At 0x200940E00000000003130C00000000000000200000000000048 W) (h : Writes W s0 s) :
    Writes W s0 (s.shFail cause) := by
  unfold State.shFail
  refine .ite ?_ ?_
  · exact .shToFault hW.sub (.inc (hW.at0 .ACT_CNT_SHFAIL) (.quiet (State.modShift_keeps rfl) h))
  · exact .quiet (State.modShift_keeps rfl) (.quiet (State.putNat_keeps rfl) (.quiet (State.setSh_keeps rfl) (.shBusy hW.sub (.legs hW.sub
        (.quiet (State.floatLeg_keeps rfl) (.inc (hW.at0 .ACT_CNT_SHFAIL) (.quiet (State.modShift_keeps rfl) h)))))))

theorem Writes.parkBrake {next} (hW : Covers RegName.At 0x100600000000000000000000000000000000000000000000 W) (h : Writes W s0 s) :
    Writes W s0 (s.parkBrake next) := by
  unfold State.parkBrake
  exact .quiet (State.parkRefresh_keeps rfl) (.quiet (State.modPark_keeps rfl) (.setShadow hW.sub (.setShadow hW.sub h)))

theorem Writes.pulsesBegin (hW : Covers RegName.At 0x100600000000000000000000000000000000000000000040 W) (h : Writes W s0 s) :
    Writes W s0 s.pulsesBegin := by
  unfold State.pulsesBegin
  exact .quiet (State.modShift_keeps rfl) (.shBusy hW.sub (.legs hW.sub (.quiet (State.floatLeg_keeps rfl) h)))

theorem Writes.pumpStart (hW : Covers RegName.At 0x18000000009C0780000000004F00200000000000000180000000066000 W) (h : Writes W s0 s) :
    Writes W s0 s.pumpStart := by
  unfold State.pumpStart
  exact .ite (.quiet (State.pumpCause_keeps rfl) (.quiet (State.setPump_keeps rfl) h)) (.quiet (State.setPump_keeps rfl)
      (.quiet (State.modMotor_keeps rfl) (.setShadow hW.sub (.quiet (State.drawWord_keeps rfl) (.legs hW.sub (.quiet (State.floatLeg_keeps rfl)
      (.groupStart hW.sub (.actLawsOn hW.sub h))))))))

end Sys2Proof.Machine
end

section
/-! PROOFS. The registers that the operations of actuators, converters, resets, power and the buses write. -/

namespace Sys2Proof.Machine

set_option Elab.async false

variable {W : Nat → Prop} {s0 s t : State} {ws : List (Nat → Prop)}

/-! ## Actuators -/

theorem execClutchOpenDetect_writes {ms} (h : s.Inv) (hws : (Instr.clutchOpenDetect ms).registers = some ws) :
    Reaches (Writes (Listed ws) s) (execClutchOpenDetect ms s) := by
  have hW := covers_listed (at_ := RegName.At) (M := 0x200840800000000003130C00000000000000200000000000040) hws rfl
  unfold execClutchOpenDetect
  exact .next (.onTeam (.refl h) (.ite (.quiet (State.setClutch_keeps rfl) (.setf (hW.at0 .ACT_STAT) (.clutchStop hW.sub (.refl h)))) (.refl h)))

theorem execCommutation_writes {m} (h : s.Inv) (hws : (Instr.commutation m).registers = some ws) :
    Reaches (Writes (Listed ws) s) (execCommutation m s) := by
  have hW := covers_listed (at_ := RegName.At) (M := 0x100600000000000000000000000000000000000000000000) hws rfl
  unfold execCommutation
  refine .ofUnit (fun _ => .ite ?_ ?_)
  · exact .commutate hW.sub (.ite (.quiet (State.modMotor_keeps rfl) (.refl h)) (.refl h))
  · split
    · exact .refl h
    · exact .ite (.commutate hW.sub (.quiet (State.reach_keeps rfl) (.refl h))) (.refl h)

theorem execForcedCommutation_writes {m} (h : s.Inv) (hws : (Instr.forcedCommutation m).registers = some ws) :
    Reaches (Writes (Listed ws) s) (execForcedCommutation m s) := by
  have hW := covers_listed (at_ := RegName.At) (M := 0x200940E00000000003130C00000000000000200000000000048) hws rfl
  unfold execForcedCommutation
  refine .ofUnit (fun _ => .ite (.ite ?_ ?_) (.refl h))
  · exact .ite (.shFail hW.sub (.quiet (State.modMotor_keeps rfl) (.commutate hW.sub (.quiet (State.reach_keeps rfl) (.refl h))))) (.pumpFail hW.sub
        (.quiet (State.modMotor_keeps rfl) (.commutate hW.sub (.quiet (State.reach_keeps rfl) (.refl h)))))
  · exact .quiet (State.modMotor_keeps rfl) (.commutate hW.sub (.quiet (State.reach_keeps rfl) (.refl h)))

theorem execLvOvercurrent_writes {m} (h : s.Inv) (hws : (Instr.lvOvercurrent m).registers = some ws) :
    Reaches (Writes (Listed ws) s) (execLvOvercurrent m s) := by
  have hW := covers_listed (at_ := RegName.At) (M := 0x20084080000000001B130C00000080000000200000000000040) hws rfl
  unfold execLvOvercurrent
  exact .ofUnit (fun _ => .actChannelFault hW.sub (.lvChannelFault hW.sub (.lvOverCurrent hW.sub (.refl h))))

theorem execParkBrakeEnd_writes (h : s.Inv) (hws : Instr.parkBrakeEnd.registers = some ws) : Reaches (Writes (Listed ws) s) (execParkBrakeEnd s) := by
  have hW := covers_listed (at_ := RegName.At) (M := 0x18000002009C0F80000000007F30E00000000000000380000000066000) hws rfl
  unfold execParkBrakeEnd
  refine .next (.onTeam (.refl h) ?_)
  split
  · exact .refl h
  · dsimp only
    split
    · exact .parkDrive hW.sub (.quiet (State.reach_keeps rfl) (.refl h))
    · exact .quiet (State.parkRefresh_keeps rfl) (.parkOff hW.sub (.quiet (State.reach_keeps rfl) (.refl h)))

theorem execParkDiscrepancy_writes (h : s.Inv) (hws : Instr.parkDiscrepancy.registers = some ws) :
    Reaches (Writes (Listed ws) s) (execParkDiscrepancy s) := by
  have hW := covers_listed (at_ := RegName.At) (M := 0x200840800000000003130C00000000000000200000000000040) hws rfl
  unfold execParkDiscrepancy
  exact .next (.onTeam (.refl h) (.ite (.quiet (State.parkCause_keeps rfl) (.quiet (State.setPark_keeps rfl) (.setf (hW.at0 .ACT_STAT)
      (.parkOff hW.sub (.refl h))))) (.refl h)))

theorem execParkDriveStart_writes (h : s.Inv) (hws : Instr.parkDriveStart.registers = some ws) :
    Reaches (Writes (Listed ws) s) (execParkDriveStart s) := by
  have hW := covers_listed (at_ := RegName.At) (M := 0x18000002009C0F80000000007F30E00000000000000380000000066000) hws rfl
  unfold execParkDriveStart
  refine .next (.onTeam (.refl h) (.ite (.refl h) (.ite (.quiet (State.parkCause_keeps rfl) (.refl h)) ?_)))
  split
  · exact .ite (.refl h) (.parkBrake hW.sub (.refl h))
  · exact .quiet (State.modPark_keeps rfl) (.refl h)
  · exact .ite (.refl h) (.parkDrive hW.sub (.refl h))

theorem execParkPositionReached_writes (h : s.Inv) (hws : Instr.parkPositionReached.registers = some ws) :
    Reaches (Writes (Listed ws) s) (execParkPositionReached s) := by
  have hW := covers_listed (at_ := RegName.At) (M := 0x100600000000000000000000000000000000000000000000) hws rfl
  unfold execParkPositionReached
  refine .next (.onTeam (.refl h) ?_)
  split
  · exact .refl h
  · exact .ite (.parkBrake hW.sub (.refl h)) (.refl h)

theorem execParkTimeout_writes (h : s.Inv) (hws : Instr.parkTimeout.registers = some ws) : Reaches (Writes (Listed ws) s) (execParkTimeout s) := by
  have hW := covers_listed (at_ := RegName.At) (M := 0x100600000000000000000000000000000000000000000042) hws rfl
  unfold execParkTimeout
  refine .next (.onTeam (.refl h) ?_)
  split
  · exact .refl h
  · exact .ite (.refl h) (.quiet (State.parkCause_keeps rfl) (.quiet (State.setPark_keeps rfl) (.inc (hW.at0 .ACT_CNT_PKTO) (.setf (hW.at0 .ACT_STAT)
        (.parkBrake hW.sub (.quiet (State.reach_keeps rfl) (.refl h)))))))

theorem execPumpAlignEnd_writes (h : s.Inv) (hws : Instr.pumpAlignEnd.registers = some ws) : Reaches (Writes (Listed ws) s) (execPumpAlignEnd s) := by
  have hW := covers_listed (at_ := RegName.At) (M := 0x100600000000000000000000000000000000000000000000) hws rfl
  unfold execPumpAlignEnd
  exact .next (.onTeam (.refl h) (.ite (.quiet (State.setPump_keeps rfl) (.commutate hW.sub (.quiet (State.modMotor_keeps rfl)
      (.quiet (State.reach_keeps rfl) (.refl h))))) (.refl h)))

theorem execPumpEvaluation_writes (h : s.Inv) (hws : Instr.pumpEvaluation.registers = some ws) :
    Reaches (Writes (Listed ws) s) (execPumpEvaluation s) := by
  have hW := covers_listed (at_ := RegName.At) (M := 0x18000002009C0F80000000007F30E00000000000000380000000066000) hws rfl
  unfold execPumpEvaluation
  refine .next (.onTeam (.refl h) (.ite ?_ ?_))
  · exact .ite (.pumpStart hW.sub (.quiet (State.takeCurve_keeps rfl) (.quiet (State.modPump_keeps rfl) (.quiet (State.reach_keeps rfl) (.refl h)))))
        (.quiet (State.takeCurve_keeps rfl) (.quiet (State.modPump_keeps rfl) (.quiet (State.reach_keeps rfl) (.refl h))))
  · refine .ite ?_ ?_
    · exact .quiet (State.takeCurve_keeps rfl) (.quiet (State.modPump_keeps rfl) (.quiet (State.reach_keeps rfl) (.refl h)))
    · refine .ite ?_ ?_
      · exact .pumpOff hW.sub (.quiet (State.takeCurve_keeps rfl) (.quiet (State.modPump_keeps rfl) (.quiet (State.reach_keeps rfl) (.refl h))))
      · exact .ite (.quiet (State.pumpSpeed_keeps rfl) (.quiet (State.takeCurve_keeps rfl) (.quiet (State.modPump_keeps rfl)
            (.quiet (State.reach_keeps rfl) (.refl h))))) (.quiet (State.takeCurve_keeps rfl) (.quiet (State.modPump_keeps rfl)
            (.quiet (State.reach_keeps rfl) (.refl h))))

theorem execPumpRampEnd_writes (h : s.Inv) (hws : Instr.pumpRampEnd.registers = some ws) : Reaches (Writes (Listed ws) s) (execPumpRampEnd s) := by
  have hW := covers_listed (at_ := RegName.At) (M := 0x200840800000000003130C00000000000000200000000000040) hws rfl
  unfold execPumpRampEnd
  exact .next (.onTeam (.refl h) (.ite (.ite (.quiet (State.modPump_keeps rfl) (.quiet (State.setPump_keeps rfl) (.quiet (State.reach_keeps rfl)
      (.refl h)))) (.pumpFail hW.sub (.quiet (State.reach_keeps rfl) (.refl h)))) (.refl h)))

theorem execPumpRetryWaitEnd_writes (h : s.Inv) (hws : Instr.pumpRetryWaitEnd.registers = some ws) :
    Reaches (Writes (Listed ws) s) (execPumpRetryWaitEnd s) := by
  have hW := covers_listed (at_ := RegName.At) (M := 0x18000000009C0780000000004F00200000000000000180000000066004) hws rfl
  unfold execPumpRetryWaitEnd
  exact .next (.onTeam (.refl h) (.ite (.pumpStart hW.sub (.inc (hW.at0 .ACT_CNT_PMPRETRY) (.quiet (State.reach_keeps rfl) (.refl h)))) (.refl h)))

theorem execPumpSpeedFault_writes {ms} (h : s.Inv) (hws : (Instr.pumpSpeedFault ms).registers = some ws) :
    Reaches (Writes (Listed ws) s) (execPumpSpeedFault ms s) := by
  have hW := covers_listed (at_ := RegName.At) (M := 0x200840800000000003130C00000000000000200000000000040) hws rfl
  unfold execPumpSpeedFault
  exact .next (.onTeam (.refl h) (.ite (.pumpToFault hW.sub (.refl h)) (.refl h)))

theorem execShiftDecayFail_writes (h : s.Inv) (hws : Instr.shiftDecayFail.registers = some ws) :
    Reaches (Writes (Listed ws) s) (execShiftDecayFail s) := by
  have hW := covers_listed (at_ := RegName.At) (M := 0x200940E00000000003130C00000000000000200000000000048) hws rfl
  unfold execShiftDecayFail
  exact .next (.onTeam (.refl h) (.ite (.ite (.quiet (State.reach_keeps rfl) (.refl h)) (.shFail hW.sub (.quiet (State.reach_keeps rfl) (.refl h))))
      (.refl h)))

theorem execShiftInBand_writes (h : s.Inv) (hws : Instr.shiftInBand.registers = some ws) : Reaches (Writes (Listed ws) s) (execShiftInBand s) := by
  have hW := covers_listed (at_ := RegName.At) (M := 0x200940E00000000003130C00000000000000200000000000000) hws rfl
  unfold execShiftInBand
  exact .next (.onTeam (.refl h) (.ite (.quiet (State.setSh_keeps rfl) (.motorOff hW.sub (.legs hW.sub (.quiet (State.floatLeg_keeps rfl)
      (.refl h))))) (.refl h)))

theorem execShiftRestEnd_writes (h : s.Inv) (hws : Instr.shiftRestEnd.registers = some ws) : Reaches (Writes (Listed ws) s) (execShiftRestEnd s) := by
  have hW := covers_listed (at_ := RegName.At) (M := 0x100600000000000000000000000000000000000000000000) hws rfl
  unfold execShiftRestEnd
  exact .next (.onTeam (.refl h) (.ite (.ite (.quiet (State.modShift_keeps rfl) (.legs hW.sub (.quiet (State.reach_keeps rfl) (.refl h)))) (.ite
      (.quiet (State.modShift_keeps rfl) (.quiet (State.reach_keeps rfl) (.refl h))) (.quiet (State.reach_keeps rfl) (.refl h)))) (.refl h)))

theorem execShiftRetryWaitEnd_writes (h : s.Inv) (hws : Instr.shiftRetryWaitEnd.registers = some ws) :
    Reaches (Writes (Listed ws) s) (execShiftRetryWaitEnd s) := by
  have hW := covers_listed (at_ := RegName.At) (M := 0x100600000000000000000000000000000000000000000040) hws rfl
  unfold execShiftRetryWaitEnd
  refine .next (.onTeam (.refl h) ?_)
  split
  · exact .refl h
  · exact .ite (.pulsesBegin hW.sub (.quiet (State.reach_keeps rfl) (.refl h))) (.refl h)

theorem execShiftSectorDecision_writes (h : s.Inv) (hws : Instr.shiftSectorDecision.registers = some ws) :
    Reaches (Writes (Listed ws) s) (execShiftSectorDecision s) := by
  have hW := covers_listed (at_ := RegName.At) (M := 0x200940E00000000003130C00000000000000200000000000048) hws rfl
  unfold execShiftSectorDecision
  refine .next (.onTeam (.refl h) (.ite ?_ (.refl h)))
  split
  · exact .shFail hW.sub (.setf (hW.at0 .ACT_STAT) (.refl h))
  · exact .quiet (State.setSh_keeps rfl) (.commutate hW.sub (.quiet (State.modMotor_keeps rfl) (.quiet (State.modShift_keeps rfl)
        (.quiet (State.putNat_keeps rfl) (.refl h)))))

theorem execShiftSensorFault_writes (h : s.Inv) (hws : Instr.shiftSensorFault.registers = some ws) :
    Reaches (Writes (Listed ws) s) (execShiftSensorFault s) := by
  have hW := covers_listed (at_ := RegName.At) (M := 0x200840800000000003130C00000000000000200000000000040) hws rfl
  unfold execShiftSensorFault
  exact .next (.onTeam (.refl h) (.ite (.shToFault hW.sub (.refl h)) (.refl h)))

theorem execShiftStall_writes {moved} (h : s.Inv) (hws : (Instr.shiftStall moved).registers = some ws) :
    Reaches (Writes (Listed ws) s) (execShiftStall moved s) := by
  have hW := covers_listed (at_ := RegName.At) (M := 0x200840800000000003130C00000000000000200000000000040) hws rfl
  unfold execShiftStall
  exact .next (.onTeam (.refl h) (.ite (.shToFault hW.sub (.setf (hW.at0 .ACT_STAT) (.refl h))) (.refl h)))

theorem execShiftStart_writes (h : s.Inv) (hws : Instr.shiftStart.registers = some ws) : Reaches (Writes (Listed ws) s) (execShiftStart s) := by
  have hW := covers_listed (at_ := RegName.At) (M := 0x18000002009C0F80000000007F30E00000000000000380000000066050) hws rfl
  unfold execShiftStart
  exact .next (.onTeam (.refl h) (.ite (.ite (.shToFault hW.sub (.quiet (State.modShift_keeps rfl) (.refl h))) (.quiet (State.setSh_keeps rfl)
      (.pulsesBegin hW.sub (.inc (hW.at0 .ACT_CNT_SHSTART) (.groupStart hW.sub (.actLawsOn hW.sub (.quiet (State.modShift_keeps rfl) (.refl h))))))))
      (.refl h)))

theorem execShiftTestPulseEnd_writes (h : s.Inv) (hws : Instr.shiftTestPulseEnd.registers = some ws) :
    Reaches (Writes (Listed ws) s) (execShiftTestPulseEnd s) := by
  have hW := covers_listed (at_ := RegName.At) (M := 0x100600000000000000000000000000000000000000000040) hws rfl
  unfold execShiftTestPulseEnd
  exact .next (.onTeam (.refl h) (.ite (.quiet (State.modShift_keeps rfl) (.ite (.shBusy hW.sub (.legs hW.sub (.quiet (State.putNat_keeps rfl)
      (.quiet (State.reach_keeps rfl) (.refl h))))) (.legs hW.sub (.quiet (State.putNat_keeps rfl) (.quiet (State.reach_keeps rfl) (.refl h))))))
      (.refl h)))

theorem execStartSequenceProbe_writes (h : s.Inv) (hws : Instr.startSequenceProbe.registers = some ws) :
    Reaches (Writes (Listed ws) s) (execStartSequenceProbe s) := by
  have hW := covers_listed (at_ := RegName.At) (M := 0x200000200840800000000013130C00000DE5020000200000000000000) hws rfl
  unfold execStartSequenceProbe
  exact .next (.ite (.probeStart hW.sub (.setf (hW.at0 .GDC_STAT) (.ite (.quiet (State.actCleared_keeps rfl) (.lvCleared hW.sub
      (.inc (hW.at0 .GDC_CNT_CLEAR) (.setf (hW.at0 .GDC_STAT) (.clearChannels hW.sub (.quiet (State.reach_keeps rfl) (.refl h)))))))
      (.quiet (State.reach_keeps rfl) (.refl h))))) (.refl h))

/-! ## Adc -/

theorem Writes.startSlot {u t e} (hW : Covers RegName.At 0x30E4000000000000000200000000010300 W) (h : Writes W s0 s) :
    Writes W s0 (s.startSlot u t e) := by
  unfold State.startSlot
  dsimp only
  split
  · refine .countWaiting hW.sub (.startEntry hW.sub (.quiet (State.modAu_keeps rfl) (.ite ?_ ?_)))
    · exact .ite (.inc (hW.at1 .ADC_CNT_COLL) (.setPending hW.sub (.quiet (State.reach_keeps rfl) h))) (.setPending hW.sub
          (.quiet (State.reach_keeps rfl) h))
    · exact .setf (hW.at1 .ADC_STATUS) (.ite (.inc (hW.at1 .ADC_CNT_COLL) (.setPending hW.sub (.quiet (State.reach_keeps rfl) h))) (.setPending hW.sub
          (.quiet (State.reach_keeps rfl) h)))
  · exact .sequenceComplete hW.sub (.setf (hW.at1 .ADC_STATUS) (.ite (.inc (hW.at1 .ADC_CNT_COLL) (.setPending hW.sub
        (.quiet (State.reach_keeps rfl) h))) (.setPending hW.sub (.quiet (State.reach_keeps rfl) h))))

theorem Writes.testEnd {u code} (hW : Covers RegName.At 0x10000 W) (h : Writes W s0 s) : Writes W s0 (s.testEnd u code) := by
  unfold State.testEnd
  exact .ite (.setf (hW.at1 .ADC_STATUS) h) h

theorem Writes.entryEnd {u c code beyond} (hW : Covers RegName.At 0x10000 W) (h : Writes W s0 s) : Writes W s0 (s.entryEnd u c code beyond) := by
  unfold State.entryEnd
  exact .quiet (State.modAu_keeps rfl) (.quiet (Keeps.set_paddock rfl) (.quiet (State.midScaleSample_keeps rfl)
      (.quiet (State.resolverSample_keeps rfl) (.ite (.setf (hW.at1 .ADC_STATUS) (.ite (.setf (hW.at1 .ADC_STATUS) h) h)) (.ite
      (.setf (hW.at1 .ADC_STATUS) h) h)))))

theorem execAdcCalDone_writes {u m0 m1 m2 m3} (h : s.Inv) (hws : (Instr.adcCalDone u m0 m1 m2 m3).registers = some ws) :
    Reaches (Writes (Listed ws) s) (execAdcCalDone u m0 m1 m2 m3 s) := by
  have hW := covers_listed (at_ := RegName.At) (M := 0x18000) hws rfl
  unfold execAdcCalDone
  refine .ofUnit (fun _ => ?_)
  split
  · exact .refl h
  · refine .ite ?_ ?_
    · exact .startTest hW.sub (.setf (hW.at2 .ADC_OFS) (.setf (hW.at2 .ADC_OFS) (.setf (hW.at2 .ADC_OFS) (.setf (hW.at2 .ADC_OFS)
          (.setf (hW.at1 .ADC_STATUS) (.quiet (State.modAu_keeps rfl) (.quiet (State.reach_keeps rfl) (.refl h))))))))
    · exact .setf (hW.at2 .ADC_OFS) (.setf (hW.at2 .ADC_OFS) (.setf (hW.at2 .ADC_OFS) (.setf (hW.at2 .ADC_OFS) (.setf (hW.at1 .ADC_STATUS)
          (.quiet (State.modAu_keeps rfl) (.quiet (State.reach_keeps rfl) (.refl h)))))))

theorem execAdcCalStart_writes {core u} (h : s.Inv) (hws : (Instr.adcCalStart core u).registers = some ws) :
    Reaches (Writes (Listed ws) s) (execAdcCalStart core u s) := by
  have hW := covers_listed (at_ := RegName.At) (M := 0x10000) hws rfl
  unfold execAdcCalStart
  exact .ofUnit (fun _ => .byCore (.refl h) (fun _ h2 => .ite h2 (.startCal hW.sub h2)))

theorem execAdcConversionEnd_writes {u code beyond} (h : s.Inv) (hws : (Instr.adcConversionEnd u code beyond).registers = some ws) :
    Reaches (Writes (Listed ws) s) (execAdcConversionEnd u code beyond s) := by
  have hW := covers_listed (at_ := RegName.At) (M := 0x10100) hws rfl
  unfold execAdcConversionEnd
  refine .ofUnit (fun _ => ?_)
  split
  · exact .refl h
  · exact .ite (.refl h) (.adcContinue hW.sub (.ite (.testEnd hW.sub (.quiet (State.modAu_keeps rfl) (.quiet (State.reach_keeps rfl) (.refl h))))
        (.entryEnd hW.sub (.quiet (State.modAu_keeps rfl) (.quiet (State.reach_keeps rfl) (.refl h))))))

theorem execAdcDisable_writes {core u} (h : s.Inv) (hws : (Instr.adcDisable core u).registers = some ws) :
    Reaches (Writes (Listed ws) s) (execAdcDisable core u s) := by
  have hW := covers_listed (at_ := RegName.At) (M := 0x11000) hws rfl
  unfold execAdcDisable
  exact .ofUnit (fun _ => .byCore (.refl h) (fun _ h2 => .ite (.adcStop hW.sub (.setf (hW.at1 .ADC_CTRL) h2)) h2))

theorem execAdcSlotStart_writes {u} (h : s.Inv) (hws : (Instr.adcSlotStart u).registers = some ws) :
    Reaches (Writes (Listed ws) s) (execAdcSlotStart u s) := by
  have hW := covers_listed (at_ := RegName.At) (M := 0x30E4000000000000000200000000010300) hws rfl
  unfold execAdcSlotStart
  refine .ofUnit (fun _ => ?_)
  dsimp only
  split
  · exact .refl h
  · refine .ite (.refl h) ?_
    split
    · exact .refl h
    · exact .startSlot hW.sub (.refl h)

theorem execAdcSwtrgWrite_writes {core u slots} (h : s.Inv) (hws : (Instr.adcSwtrgWrite core u slots).registers = some ws) :
    Reaches (Writes (Listed ws) s) (execAdcSwtrgWrite core u slots s) := by
  have hW := covers_listed (at_ := RegName.At) (M := 0x200) hws rfl
  unfold execAdcSwtrgWrite
  exact .ofUnit (fun _ => .byCore (.refl h) (fun _ h2 => .forN h2 (fun _ _ h4 => .ite (.slotTrigger hW.sub h4) h4)))

theorem execAdcTriggerDelayEnd_writes {u t} (h : s.Inv) (hws : (Instr.adcTriggerDelayEnd u t).registers = some ws) :
    Reaches (Writes (Listed ws) s) (execAdcTriggerDelayEnd u t s) := by
  have hW := covers_listed (at_ := RegName.At) (M := 0x10100) hws rfl
  unfold execAdcTriggerDelayEnd
  refine .ofUnit (fun _ => ?_)
  split
  · exact .refl h
  · exact .ite (.countWaiting hW.sub (.setPending hW.sub (.quiet (State.modAu_keeps rfl) (.quiet (State.reach_keeps rfl) (.refl h)))))
        (.setPending hW.sub (.quiet (State.modAu_keeps rfl) (.quiet (State.reach_keeps rfl) (.refl h))))

theorem execTriggerTimerFire_writes {n} (h : s.Inv) (hws : (Instr.triggerTimerFire n).registers = some ws) :
    Reaches (Writes (Listed ws) s) (execTriggerTimerFire n s) := by
  have hW := covers_listed (at_ := RegName.At) (M := 0x30E4000000000000000340000000000200) hws rfl
  unfold execTriggerTimerFire
  refine .ofUnit (fun _ => ?_)
  split
  · exact .refl h
  · exact .lawSource hW.sub (.adcEvent hW.sub (.frames hW.sub (.quiet (fun k => Keeps.set_tt rfl k fun i => by simpa using i)
        (.quiet (State.reach_keeps rfl) (.refl h)))))

theorem execUrgentRequestEffect_writes {u} (h : s.Inv) (hws : (Instr.urgentRequestEffect u).registers = some ws) :
    Reaches (Writes (Listed ws) s) (execUrgentRequestEffect u s) := by
  have hW := covers_listed (at_ := RegName.At) (M := 0x10580) hws rfl
  unfold execUrgentRequestEffect
  refine .ofUnit (fun _ => ?_)
  split
  · exact .refl h
  · exact .ite (.refl h) (.urgentEffect hW.sub (.quiet (State.reach_keeps rfl) (.refl h)))

/-! ## ThermalOps -/

theorem Writes.thermalEnable {v} (hW : Covers RegName.At 0x4000000000000000000000000000000000000000000000000000000 W) (h : Writes W s0 s) :
    Writes W s0 (s.thermalEnable v) := by
  unfold State.thermalEnable
  exact .ite (.forN (.wrReg (hW.at0 .TH_CTRL) h) (fun _ _ h2 => .quiet (State.modZone_keeps rfl) h2)) (.ite (.wrReg (hW.at0 .TH_CTRL) h) (.forN
      (.wrReg (hW.at0 .TH_CTRL) h) (fun _ _ h4 => .quiet (State.modZone_keeps rfl) h4)))

theorem Writes.thermalLevel {z a v} (hW : Covers RegName.At 0x10000000000000000000000000000000000000000000000000000000 W) (ha : W a) (h : Writes W s0 s) :
    Writes W s0 (s.thermalLevel z a v) := by
  unfold State.thermalLevel
  exact .ite h (.ite (.wrReg ha h) (.setf (hW.at0 .TH_STAT) h))

theorem Writes.setZone {z st sensor t d} (hW : Covers RegName.At 0x600001D4000000000000000000000000000000000000000000000000 W) (h : Writes W s0 s) :
    Writes W s0 (s.setZone z st sensor t d) := by
  unfold State.setZone
  exact .quiet (State.publishZone_keeps rfl) (.ite (.setf (hW.at1 .TH_ZDER) (.setf (hW.at1 .TH_ZSTAT) (.setf (hW.at1 .TH_ZSTAT)
      (.setb (hW.at1 .TH_ZSTAT) (.setf (hW.at1 .TH_ZSTAT) h))))) (.irq hW.sub (.setf (hW.at1 .TH_ZDER) (.setf (hW.at1 .TH_ZSTAT)
      (.setf (hW.at1 .TH_ZSTAT) (.setb (hW.at1 .TH_ZSTAT) (.setf (hW.at1 .TH_ZSTAT) h)))))))

theorem Writes.zoneRelease {z} (hW : Covers RegName.At 0x10000000000000000000000000000000000000000000000000000000 W) (h : Writes W s0 s) :
    Writes W s0 (s.zoneRelease z) := by
  unfold State.zoneRelease
  exact .each (.setf (hW.at0 .TH_STAT) h) (fun _ _ h2 => .quiet (State.sourceOff_keeps rfl) h2)

theorem Writes.zoneShutdown {z} (hW : Covers RegName.At 0x12000000000000000000000000000000000000000000000000000000 W) (h : Writes W s0 s) :
    Writes W s0 (s.zoneShutdown z) := by
  unfold State.zoneShutdown
  exact .inc (hW.at0 .TH_CNT_SD) (.setf (hW.at0 .TH_STAT) (.each h (fun _ _ h2 => .quiet (State.sourceOn_keeps rfl)
      (.quiet (State.report_keeps rfl) h2))))

theorem Writes.recordEvent {z st sensor t d before} (hW : Covers RegName.At 0x10800000000000000000000000000000000000000000000000000000 W) (h : Writes W s0 s) :
    Writes W s0 (s.recordEvent z st sensor t d before) := by
  unfold State.recordEvent
  exact .ite (.setf (hW.at0 .TH_STAT) (.modThermal h)) (.inc (hW.at0 .TH_CNT_RECDROP) h)

theorem Writes.takeReenable {z t} (hW : Covers RegName.At 0x51000000000000000000000000000000000000000000000000000000 W) (h : Writes W s0 s) :
    Writes W s0 (s.takeReenable z t) := by
  unfold State.takeReenable
  exact .ite h (.ite (.setf (hW.at1 .TH_ZSTAT) (.zoneRelease hW.sub (.modThermal h))) (.inc (hW.at0 .TH_CNT_REENREF) (.setf (hW.at0 .TH_STAT)
      (.modThermal h))))

theorem Writes.evaluateZone {z} (hW : Covers RegName.At 0x738001D4000000000000000000000000000000000000000000000000 W) (h : Writes W s0 s) :
    Writes W s0 (s.evaluateZone z) := by
  unfold State.evaluateZone
  have hfound : Writes W s0 (s.hottest z (List.range 32) none).2 := .quiet (State.hottest_keeps rfl) h
  generalize s.hottest z (List.range 32) none = p at hfound ⊢
  obtain ⟨found, s1⟩ := p
  dsimp only at hfound ⊢
  have htaken : Writes W s0 (s1.takeReenable z (found.map (·.2))) := .takeReenable hW.sub hfound
  refine .quiet (State.modZone_keeps rfl) (.ite (.recordEvent hW.sub ?_) ?_)
  · exact .ite (.zoneShutdown hW.sub (.setZone hW.sub (.quiet (State.zoneDerate_keeps rfl) (.quiet (State.modZone_keeps rfl) htaken))))
      (.setZone hW.sub (.quiet (State.zoneDerate_keeps rfl) (.quiet (State.modZone_keeps rfl) htaken)))
  · exact .ite (.zoneShutdown hW.sub (.setZone hW.sub (.quiet (State.zoneDerate_keeps rfl) (.quiet (State.modZone_keeps rfl) htaken))))
      (.setZone hW.sub (.quiet (State.zoneDerate_keeps rfl) (.quiet (State.modZone_keeps rfl) htaken)))

theorem Writes.copyRecord (hW : Covers RegName.At 0x18000000000000000000000000000000000000000000000000000000 W) (h : Writes W s0 s) :
    Writes W s0 s.copyRecord := by
  unfold State.copyRecord
  split
  · exact h
  · exact .ite h (.ite (.setf (hW.at0 .TH_STAT) (.modThermal (.setf (hW.at0 .TH_RECPTR) (.quiet (State.nvmWrite_keeps rfl) h)))) (.modThermal
        (.setf (hW.at0 .TH_RECPTR) (.quiet (State.nvmWrite_keeps rfl) h))))

/-! ## ResetOps -/

theorem Writes.releaseWake (hW : Covers RegName.At 0x100000000000000000000000000000 W) (h : Writes W s0 s) : Writes W s0 s.releaseWake := by
  unfold State.releaseWake
  exact .setf (hW.at0 .KPR_WOUT) h

theorem Writes.leaveComm (hW : Covers RegName.At 0x1D4000000000000000000000000000000000000000C00000000 W) (h : Writes W s0 s) :
    Writes W s0 s.leaveComm := by
  unfold State.leaveComm
  exact .forN h (fun _ _ h2 => .ite h2 (.closeSession hW.sub h2))

theorem Writes.extend {n h_} (hW : Covers RegName.At 0x100000000000000000000000000000000000000000000000000000 W) (h : Writes W s0 s) :
    Writes W s0 (s.extend n h_) := by
  unfold State.extend
  exact .forN h (fun _ _ h2 => .wr (hW.at2 .SEC_MEAS) h2)

theorem Writes.haltTeamS (hW : Covers RegName.At 0x100000000000000000000000000 W) (h : Writes W s0 s) : Writes W s0 s.haltTeamS := by
  unfold State.haltTeamS
  exact .quiet (State.modBoot_keeps rfl) (.forN (.setf (hW.at1 .HARN_STAT) h) (fun _ _ h2 => .quiet (State.modCore_keeps rfl) h2))

theorem Writes.resetTeamA (hW : Covers RegName.At 0x10000000000000000000000000 W) (h : Writes W s0 s) : Writes W s0 s.resetTeamA := by
  exact .quiet (fun k => Keeps.set_cores_irqPend_inlet_charge_supply_solar_motors_shift_park_clutch_pump_harn rfl k
      (fun i => by simp [show s.cores.length = 6 from i]) (fun i => (List.length_set ..).trans i) (fun _ => rfl)
      (fun _ => rfl) (fun i => (List.length_set ..).trans i)) (.setf (hW.at1 .HARN_CTRL) h)

theorem Writes.resetCause {k} (hW : Covers RegName.At 0x800000000000000000000000000000000000000000000000001 W) (h : Writes W s0 s) :
    Writes W s0 (s.resetCause k) := by
  unfold State.resetCause
  exact .ite (.wr (hW .CAUSE_CNT rfl _ ⟨_, rfl⟩) (.setf (hW.at0 .RST_CAUSE) h)) (.setf (hW.at0 .RST_CAUSE) h)

theorem Writes.teamALost (hW : Covers RegName.At 0x1D4000000000000000000000110000000000000000000000000 W) (h : Writes W s0 s) :
    Writes W s0 s.teamALost := by
  unfold State.teamALost
  exact .irq hW.sub (.setf (hW.at1 .HARN_STAT) (.setf (hW.at1 .HARN_STAT) (.setf (hW.at1 .HARN_STAT) (.resetTeamA hW.sub (.each h
      (fun _ _ h2 => .quiet (State.report_keeps rfl) h2))))))

/-! ## BootOps -/

theorem Writes.setPhase {v} (hW : Covers RegName.At 0x400000000000000000000000000000000000000000000000000 W) (h : Writes W s0 s) :
    Writes W s0 (s.setPhase v) := by
  unfold State.setPhase
  exact .setf (hW.at0 .RST_BOOT) (.quiet (State.putNat_keeps rfl) h)

theorem Writes.converterDefaults (hW : Covers RegName.At 0x1800000000000000000000000000000000000000000000000000040800 W) (h : Writes W s0 s) :
    Writes W s0 s.converterDefaults := by
  unfold State.converterDefaults
  refine .quiet (State.ttStart_keeps rfl) (.setf (hW.at1 .TT_CTL) (.wr (hW.at1 .TT_PER) (.each ?_ ?_)))
  · refine .each h ?_
    intro _ _ h2
    split
    · dsimp only
      split
      · exact .setf (hW.at2 .ADC_TRG) (.setf (hW.at2 .ADC_TRG) (.setf (hW.at2 .ADC_TRG) (.setf (hW.at2 .ADC_TRG) h2)))
      · exact .setf (hW.at2 .ADC_TRG) (.setf (hW.at2 .ADC_TRG) h2)
  · intro _ _ h4
    split
    · exact .setf (hW.at1 .ADC_CSL) (.setf (hW.at1 .ADC_CSL) (.setf (hW.at1 .ADC_CSL) (.setf (hW.at1 .ADC_CSL) h4)))

theorem Writes.converterBoot (hW : Covers RegName.At 0x1800000400000000000000000000000000000000000000000000050800 W) (h : Writes W s0 s) :
    Writes W s0 s.converterBoot := by
  unfold State.converterBoot
  exact .forN (.ite (.quiet (State.report_keeps rfl) (.setPhase hW.sub (.converterDefaults hW.sub h))) (.setPhase hW.sub
      (.converterDefaults hW.sub h))) (fun _ _ h2 => .startCal hW.sub h2)

theorem Writes.bootAt {d} (hW : Covers RegName.At 0x1800000400000000000000000000000000000000000000000000050800 W) (h : Writes W s0 s) :
    Writes W s0 (s.bootAt d) := by
  unfold State.bootAt
  exact .ite (.converterBoot hW.sub h) h

/-! ## PowerOps -/

theorem Writes.entryStep {l} (hW : Covers RegName.At 0x100000000000000000000000000000000000000000000000000 W) (h : Writes W s0 s) :
    Writes W s0 (s.entryStep l) := by
  unfold State.entryStep
  exact .each h (fun _ _ h2 => .setDomain hW.sub (.quiet (State.startTrans_keeps rfl) h2))

theorem Writes.refreshMmreq (hW : Covers RegName.At 0x20000000000000000000000000000000000000000000000000 W) (h : Writes W s0 s) :
    Writes W s0 s.refreshMmreq := by
  unfold State.refreshMmreq
  exact .setf (hW.at0 .PWR_MMREQ) h

theorem Writes.entryRefuse {t refs} (hW : Covers RegName.At 0x1D8000000000000000000000000000000000000000000000000 W) (h : Writes W s0 s) :
    Writes W s0 (s.entryRefuse t refs) := by
  unfold State.entryRefuse
  exact .powerMirror hW.sub (.powerRecord hW.sub (.setf (hW.at0 .PWR_STAT) (.each (.quiet (State.leaveWfi_keeps rfl)
      (.quiet (State.modPower_keeps rfl) h)) (fun _ _ h2 => .inc (hW.at1 .PWR_CNT_REF) h2))))

theorem Writes.leaveDomain {d} (hW : Covers RegName.At 0x1D4000000000000000000100000000000000000000C00000000 W) (h : Writes W s0 s) :
    Writes W s0 (s.leaveDomain d) := by
  unfold State.leaveDomain
  split
  · exact .releaseWake hW.sub h
  · exact .forN h (fun _ _ h2 => .quiet (State.bothOff_keeps rfl) h2)
  · exact .quiet (State.gatesOff_keeps rfl) h
  · exact .leaveComm hW.sub h
  · exact h

theorem Writes.entryAdvance (hW : Covers RegName.At 0x180000000000000000000000000000000000000000000000000 W) (h : Writes W s0 s) :
    Writes W s0 s.entryAdvance := by
  unfold State.entryAdvance
  refine .ite h ?_
  split
  · exact .entryStep hW.sub (.quiet (State.modPower_keeps rfl) h)
  · exact .ite (.powerMirror hW.sub (.setf (hW.at0 .PWR_STAT) (.quiet (State.modPower_keeps rfl) h))) (.quiet (Keeps.set_keeper rfl)
        (.quiet (State.modBoot_keeps rfl) (.powerMirror hW.sub (.setf (hW.at0 .PWR_STAT) (.quiet (State.modPower_keeps rfl) h)))))

theorem Writes.tryEntry {t req} (hW : Covers RegName.At 0x1FC000000000000000000100000000000000000000C00000000 W) (h : Writes W s0 s) :
    Writes W s0 (s.tryEntry t req) := by
  unfold State.tryEntry
  exact .ite (.entryRefuse hW.sub (.ite (.refreshMmreq hW.sub h) h)) (.powerMirror hW.sub (.entryAdvance hW.sub (.quiet (State.modPower_keeps rfl)
      (.each (.quiet (State.modPower_keeps rfl) (.ite (.refreshMmreq hW.sub h) h)) (fun _ _ h2 => .ite (.setDomain hW.sub
      (.leaveDomain hW.sub h2)) h2)))))

theorem Writes.enterDomain {d} (hW : Covers RegName.At 0x1020000000000000000000 W) (h : Writes W s0 s) : Writes W s0 (s.enterDomain d) := by
  unfold State.enterDomain
  split
  · exact .forN h (fun _ _ h2 => .ite (.quiet (State.applyPattern_keeps rfl) h2) h2)
  · exact .gatesOn hW.sub h
  · exact h

theorem Writes.domainUp {d} (hW : Covers RegName.At 0x1800000580000000000000000000000000001020000000000000050800 W) (h : Writes W s0 s) :
    Writes W s0 (s.domainUp d) := by
  unfold State.domainUp
  refine .bootAt hW.sub (.enterDomain hW.sub (.powerMirror hW.sub (.each ?_ (fun _ _ h2 => .setDomain hW.sub h2))))
  exact .ite (.quiet (State.leaveWfi_keeps rfl) (.ite (.quiet (State.modPower_keeps rfl) (.quiet (State.setDtb_keeps rfl) (.setDomain hW.sub h)))
      (.setDomain hW.sub h))) (.ite (.quiet (State.modPower_keeps rfl) (.quiet (State.setDtb_keeps rfl) (.setDomain hW.sub h))) (.setDomain hW.sub h))

theorem Writes.powerRequest {t v} (hW : Covers RegName.At 0x1FC000000000000000000100000000000000000000C00000000 W) (h : Writes W s0 s) :
    Writes W s0 (s.powerRequest t v) := by
  unfold State.powerRequest
  refine .ite (.ite h (.setf (hW.at0 .PWR_STAT) h)) ?_
  refine .ite ?_ ?_
  · exact .setf (hW.at0 .PWR_STAT) (.setf (hW.at0 .PWR_STAT) (.ite h (.setf (hW.at0 .PWR_STAT) h)))
  · exact .powerMirror hW.sub (.ite (.quiet (State.modPower_keeps rfl) (.tryEntry hW.sub (.raise hW.sub (.quiet (State.modPower_keeps rfl) (.ite h
        (.setf (hW.at0 .PWR_STAT) h)))))) (.raise hW.sub (.quiet (State.modPower_keeps rfl) (.ite h (.setf (hW.at0 .PWR_STAT) h)))))

theorem Writes.keeperWake {unit} (hW : Covers RegName.At 0x1D4000000000000000000088000000000000000000000000000 W) (h : Writes W s0 s) :
    Writes W s0 (s.keeperWake unit) := by
  unfold State.keeperWake
  split
  · exact .setf (hW.at0 .KPR_SHIP) (.abortEntry hW.sub h)
  · exact .ite (.ite h (.ite (.setf (hW.at0 .KPR_BSTAT) (.setf (hW.at0 .KPR_BSTAT) (.quiet (Keeps.set_keeper rfl) (.setf (hW.at0 .KPR_SHIP) h))))
        (.quiet (State.sequencerStart_keeps rfl) (.quiet (Keeps.set_keeper rfl) (.setf (hW.at0 .KPR_SHIP) h))))) (.ite h (.powerRecord hW.sub
        (.raise hW.sub h)))

theorem Writes.powerEvaluate {t} (hW : Covers RegName.At 0x1FC000000000000000000100000000000000000000C00000000 W) (h : Writes W s0 s) :
    Writes W s0 (s.powerEvaluate t) := by
  unfold State.powerEvaluate
  exact .ite h (.tryEntry hW.sub h)

theorem Writes.portWake {p} (hW : Covers RegName.At 0x1D4000000000000000000000000000000000000000000000000 W) (h : Writes W s0 s) :
    Writes W s0 (s.portWake p) := by
  unfold State.portWake
  split
  · exact .abortEntry hW.sub h
  · exact .ite h (.powerRecord hW.sub (.raise hW.sub h))

theorem Writes.transitionDone {x} (hW : Covers RegName.At 0x1800000580000000000000000000000000001020000000000000050800 W) (h : Writes W s0 s) :
    Writes W s0 (s.transitionDone x) := by
  unfold State.transitionDone
  refine .ite ?_ ?_
  · exact .entryAdvance hW.sub (.powerMirror hW.sub (.setDomain hW.sub (.quiet (State.modPower_keeps rfl) (.quiet (State.reach_keeps rfl) h))))
  · exact .ite (.quiet (State.modPower_keeps rfl) (.quiet (State.modPower_keeps rfl) (.quiet (State.reach_keeps rfl) h))) (.domainUp hW.sub
        (.quiet (State.modPower_keeps rfl) (.quiet (State.reach_keeps rfl) h)))

/-! ## ClockOps -/

theorem Writes.setScale {v} (hW : Covers RegName.At 0x400000000000000000 W) (h : Writes W s0 s) : Writes W s0 (s.setScale v) := by
  have hset : Writes W s0 (s.setf Reg.CLK_STAT Fld.CLK_STAT_scale v) := h.setf (hW.at0 .CLK_STAT)
  exact ⟨(State.setScale_keeps (K := 8796109799426) rfl (Keeps.refl _ s)).inv h.inv, hset.2⟩

theorem Writes.setClkSeq {v} (hW : Covers RegName.At 0x400000000000000000 W) (h : Writes W s0 s) : Writes W s0 (s.setClkSeq v) := by
  unfold State.setClkSeq
  exact .setf (hW.at0 .CLK_STAT) h

theorem Writes.integrate {p} (hW : Covers RegName.At 0x8000000000000 W) (h : Writes W s0 s) : Writes W s0 (s.integrate p) := by
  unfold State.integrate
  exact .setf (hW.at1 .BUS_STAT) h

theorem Writes.rampEnd (hW : Covers RegName.At 0x400008000000000000 W) (h : Writes W s0 s) : Writes W s0 s.rampEnd := by
  unfold State.rampEnd
  exact .forN (.ite (.quiet (State.sourceOff_keeps rfl) (.setf (hW.at0 .CLK_STAT) (.setf (hW.at0 .CLK_STAT) (.quiet (State.modClk_keeps rfl)
      (.setScale hW.sub (.setClkSeq hW.sub h)))))) (.setf (hW.at0 .CLK_STAT) (.quiet (State.modClk_keeps rfl) (.setScale hW.sub
      (.setClkSeq hW.sub h))))) (fun _ _ h2 => .ite (.integrate hW.sub h2) h2)

theorem Writes.scaleStep (hW : Covers RegName.At 0x400008000000000000 W) (h : Writes W s0 s) : Writes W s0 s.scaleStep := by
  unfold State.scaleStep
  exact .ite (.ite (.quiet (State.modClk_keeps rfl) (.setScale hW.sub h)) (.quiet (State.modClk_keeps rfl) (.setf (hW.at0 .CLK_STAT)
      (.setClkSeq hW.sub h)))) (.ite (.ite (.quiet (State.modClk_keeps rfl) (.setScale hW.sub h)) (.rampEnd hW.sub h)) h)

theorem Writes.clkErr (hW : Covers RegName.At 0x400000000000000000 W) (h : Writes W s0 s) : Writes W s0 s.clkErr := by
  unfold State.clkErr
  exact .setf (hW.at0 .CLK_STAT) h

theorem Writes.rampDown {back} (hW : Covers RegName.At 0x400000000000000000 W) (h : Writes W s0 s) : Writes W s0 (s.rampDown back) := by
  unfold State.rampDown
  exact .quiet (State.modClk_keeps rfl) (.setScale hW.sub (.setClkSeq hW.sub h))

theorem Writes.referenceLost (hW : Covers RegName.At 0x608000000000000000 W) (h : Writes W s0 s) : Writes W s0 s.referenceLost := by
  unfold State.referenceLost
  exact .quiet (State.sourceOn_keeps rfl) (.quiet (State.report_keeps rfl) (.rampDown hW.sub (.wr (hW.at0 .CLK_LOSST) (.inc (hW.at0 .CLK_CNT_LOSS)
      (.setf (hW.at0 .CLK_STAT) (.setf (hW.at0 .CLK_STAT) h))))))

/-! ## BusOps -/

theorem Writes.unpackEntry {p k e data lost} (hW : Covers RegName.At 0x10000000000000000000000000000000000000000800000000000 W) (h : Writes W s0 s) :
    Writes W s0 (s.unpackEntry p k e data lost) := by
  unfold State.unpackEntry
  have hdrawn : Writes W s0 (if (s.mapPlaces p e).contains none then s.drawWord else ((0 : Word), s)).2 := by
    split
    · exact .quiet (State.drawWord_keeps rfl) h
    · exact h
  exact .ite (.inc (hW.at1 .BUS_CNT_SHORT) (.setf (hW.at2 .RXO_STAT) h)) (.quiet (State.bankAsk_keeps rfl) hdrawn)

theorem Writes.busSleepNow {p} (hW : Covers RegName.At 0x8000000000000 W) (h : Writes W s0 s) : Writes W s0 (s.busSleepNow p) := by
  unfold State.busSleepNow
  exact .quiet (State.modBus_keeps rfl) (.setf (hW.at1 .BUS_STAT) h)

theorem Writes.packEntry {p e data} (hW : Covers RegName.At 0x100000000000 W) (h : Writes W s0 s) : Writes W s0 (s.packEntry p e data).1 := by
  unfold State.packEntry
  dsimp only
  split
  · exact h
  · exact .ite (.inc (hW.at1 .BUS_CNT_PACKSAT) h) h

theorem Writes.packFrame {p j} (hW : Covers RegName.At 0x100000000000 W) (h : Writes W s0 s) : Writes W s0 (s.packFrame p j).1 := by
  unfold State.packFrame
  dsimp only
  split
  · exact h
  · exact .foldlPair (fun _ _ hx => .packEntry hW.sub hx) _ h

theorem Writes.txPend {p j} (hW : Covers RegName.At 0x4000000000000000000000000000000000000000000000120000000000 W) (h : Writes W s0 s) :
    Writes W s0 (s.txPend p j) := by
  unfold State.txPend
  split
  · exact .ite h (.inc (hW.at1 .BUS_CNT_LATE) (.setf (hW.at2 .TXO_STAT) (.quiet (State.modBus_keeps rfl) (.packFrame hW.sub h))))
  · exact .setf (hW.at2 .TXO_STAT) (.quiet (State.modBus_keeps rfl) (.packFrame hW.sub h))

theorem Writes.busOff {p} (hW : Covers RegName.At 0x8010000000000 W) (h : Writes W s0 s) : Writes W s0 (s.busOff p) := by
  unfold State.busOff
  exact .quiet (State.modBus_keeps rfl) (.inc (hW.at1 .BUS_CNT_BOFF) (.setf (hW.at1 .BUS_STAT) h))

theorem Writes.unpacked {p k} (hW : Covers RegName.At 0x10000000000000000000000000000000000000000000000000000 W) (h : Writes W s0 s) :
    Writes W s0 (s.unpacked p k) := by
  unfold State.unpacked
  exact .ite h (.setf (hW.at2 .RXO_STAT) h)

theorem Writes.busErr {p} (hW : Covers RegName.At 0x8000000000000 W) (h : Writes W s0 s) : Writes W s0 (s.busErr p) := by
  unfold State.busErr
  exact .setf (hW.at1 .BUS_STAT) h

theorem Writes.txCfgWrite {p j v} (hW : Covers RegName.At 0x2000000000000000000000000000000000000000000008000000000000 W) (h : Writes W s0 s) :
    Writes W s0 (s.txCfgWrite p j v) := by
  unfold State.txCfgWrite
  exact .ite (.ite h (.quiet (State.txSchedule_keeps rfl) (.setf (hW.at2 .TXO_CFG) h))) (.ite (.wrReg (hW.at2 .TXO_CFG) h) (.ite (.busErr hW.sub h)
      (.quiet (State.txSchedule_keeps rfl) (.setf (hW.at2 .TXO_CFG) (.wrReg (hW.at2 .TXO_CFG) h)))))

theorem Writes.rxCfgWrite {p k v} (hW : Covers RegName.At 0x8000000000000000000000000000000000000008000000000000 W) (h : Writes W s0 s) :
    Writes W s0 (s.rxCfgWrite p k v) := by
  unfold State.rxCfgWrite
  exact .ite (.ite h (.setf (hW.at2 .RXO_CFG) h)) (.ite (.wrReg (hW.at2 .RXO_CFG) h) (.ite (.quiet (State.modBus_keeps rfl) (.setf (hW.at2 .RXO_CFG)
      (.wrReg (hW.at2 .RXO_CFG) h))) (.busErr hW.sub h)))

theorem Writes.txRemove {p obj} (hW : Covers RegName.At 0x4000000000000000000000000000000000000000000000000000000000 W) (h : Writes W s0 s) :
    Writes W s0 (s.txRemove p obj) := by
  unfold State.txRemove
  exact .ite (.setf (hW.at2 .TXO_STAT) (.quiet (State.modBus_keeps rfl) h)) (.ite (.quiet (State.modBus_keeps rfl) h)
      (.quiet (State.modBus_keeps rfl) h))

theorem Writes.busWake {p} (hW : Covers RegName.At 0x1D4000000000000000000000000000000000008000000000000 W) (h : Writes W s0 s) :
    Writes W s0 (s.busWake p) := by
  unfold State.busWake
  exact .ite (.quiet (State.modBus_keeps rfl) h) (.irq hW.sub (.quiet (State.watchFrom_keeps rfl) (.quiet (State.modBus_keeps rfl) (.ite
      (.integrate hW.sub (.setf (hW.at1 .BUS_STAT) h)) (.setf (hW.at1 .BUS_STAT) h)))))

theorem Writes.setErrors {p tec rc} (hW : Covers RegName.At 0xC000000000000 W) (h : Writes W s0 s) : Writes W s0 (s.setErrors p tec rc) := by
  unfold State.setErrors
  exact .setb (hW.at1 .BUS_STAT) (.setf (hW.at1 .BUS_ERR) (.setf (hW.at1 .BUS_ERR) h))

theorem Writes.rxGood {p} (hW : Covers RegName.At 0xC000000000000 W) (h : Writes W s0 s) : Writes W s0 (s.rxGood p) := by
  unfold State.rxGood
  exact .ite h (.ite (.setErrors hW.sub h) (.setErrors hW.sub (.quiet (State.drawWord_keeps rfl) h)))

theorem Writes.takeFrame {p k f} (hW : Covers RegName.At 0x10000000000000000000000000000000000000000840000000000 W) (h : Writes W s0 s) :
    Writes W s0 (s.takeFrame p k f) := by
  unfold State.takeFrame
  exact .unpacked hW.sub (.each (.ite (.inc (hW.at1 .BUS_CNT_LOST) (.setf (hW.at2 .RXO_STAT) (.quiet (State.watchTaken_keeps rfl)
      (.setf (hW.at2 .RXO_STAT) (.quiet (State.modBus_keeps rfl) h))))) (.quiet (State.watchTaken_keeps rfl) (.setf (hW.at2 .RXO_STAT)
      (.quiet (State.modBus_keeps rfl) h)))) (fun _ _ h2 => .unpackEntry hW.sub h2))

theorem Writes.receiveObject {p f} (hW : Covers RegName.At 0x100000000000000000000000000000000000000018C0000000000 W) (h : Writes W s0 s) :
    Writes W s0 (s.receiveObject p f) := by
  unfold State.receiveObject
  split
  · exact .ite (.inc (hW.at1 .BUS_CNT_TOOLONG) h) (.takeFrame hW.sub h)
  · exact .inc (hW.at1 .BUS_CNT_NOMATCH) h

theorem Writes.frameEnd {p} (hW : Covers RegName.At 0x8000000000000 W) (h : Writes W s0 s) : Writes W s0 (s.frameEnd p) := by
  unfold State.frameEnd
  exact .ite (.busSleepNow hW.sub h) h

theorem Writes.txTiming {p j v} (hW : Covers RegName.At 0x8000000000000000000000000000000000000000000000000000000000 W) (h : Writes W s0 s) :
    Writes W s0 (s.txTiming p j v) := by
  unfold State.txTiming
  exact .ite (.wrReg (hW.at2 .TXO_TIM) h) (.quiet (State.txSchedule_keeps rfl) (.wrReg (hW.at2 .TXO_TIM) h))

theorem Writes.rxError {p n} (hW : Covers RegName.At 0xC000000000000 W) (h : Writes W s0 s) : Writes W s0 (s.rxError p n) := by
  unfold State.rxError
  exact .setErrors hW.sub h

theorem Writes.protocolException {p} (hW : Covers RegName.At 0xC200000000000 W) (h : Writes W s0 s) : Writes W s0 (s.protocolException p) := by
  unfold State.protocolException
  exact .frameEnd hW.sub (.ite (.rxError hW.sub (.setf (hW.at1 .BUS_STAT) h)) (.inc (hW.at1 .BUS_CNT_PEX) (.integrate hW.sub
      (.setf (hW.at1 .BUS_STAT) h))))

theorem Writes.busEnable {p v} (hW : Covers RegName.At 0xA000000000000 W) (h : Writes W s0 s) : Writes W s0 (s.busEnable p v) := by
  unfold State.busEnable
  exact .ite (.busErr hW.sub h) (.quiet (State.watchFrom_keeps rfl) (.integrate hW.sub (.setb (hW.at1 .BUS_STAT) (.setf (hW.at1 .BUS_CTRL)
      (.wrReg (hW.at1 .BUS_CTRL) h)))))

theorem Writes.detectorWake {cause} (hW : Covers RegName.At 0x1D4000000000000000000098000000000000000000000000000 W) (h : Writes W s0 s) :
    Writes W s0 (s.detectorWake cause) := by
  unfold State.detectorWake
  exact .keeperWake hW.sub (.setf (hW.at0 .KPR_BWSTAT) h)

theorem Writes.txAbandon {p obj} (hW : Covers RegName.At 0x4000000000000000000000000000000000000000000000008000000000 W) (h : Writes W s0 s) :
    Writes W s0 (s.txAbandon p obj) := by
  unfold State.txAbandon
  exact .ite (.setf (hW.at2 .TXO_STAT) (.inc (hW.at1 .BUS_CNT_ABANDON) (.txRemove hW.sub h))) (.inc (hW.at1 .BUS_CNT_ABANDON) (.txRemove hW.sub h))

theorem Writes.portAccess {core f} (h : Writes W s0 s) (hf : ∀ t, Writes W s0 t → Writes W s0 (f t)) : Writes W s0 (s.portAccess core f) :=
  .access h hf

theorem Writes.txError {p} (hW : Covers RegName.At 0xC010000000000 W) (h : Writes W s0 s) : Writes W s0 (s.txError p) := by
  unfold State.txError
  exact .ite (.busOff hW.sub (.setErrors hW.sub h)) (.setErrors hW.sub h)

end Sys2Proof.Machine
end

section
/-! PROOFS. The registers that the operations of the charger, the teams, the modes, Bridle requests and core writes write. -/

namespace Sys2Proof.Machine

set_option Elab.async false

variable {W : Nat → Prop} {s0 s t : State} {ws : List (Nat → Prop)}

/-! ## ChargerOps -/

theorem Writes.isoOff (hW : Covers RegName.At 0x200840800000000003130C00000000000000200000000000000 W) (h : Writes W s0 s) :
    Writes W s0 s.isoOff := by
  unfold State.isoOff
  exact .stopGens hW.sub (.lawsOff hW.sub h)

theorem Writes.pfcOff (hW : Covers RegName.At 0x200840800000000003130C00000000000000200000000000000 W) (h : Writes W s0 s) :
    Writes W s0 s.pfcOff := by
  unfold State.pfcOff
  exact .stopGens hW.sub (.lawsOff hW.sub h)

theorem Writes.supplyOff {st} (hW : Covers RegName.At 0x200840800000000003130C00000000000000200000000000000 W) (h : Writes W s0 s) :
    Writes W s0 (s.supplyOff st) := by
  unfold State.supplyOff
  exact .quiet (State.modSupply_keeps rfl) (.quiet (State.putNat_keeps rfl) (.isoOff hW.sub (.pfcOff hW.sub h)))

theorem Writes.pfcOn (hW : Covers RegName.At 0x18000000008C0180000000004F00200000000000000180000000000000 W) (h : Writes W s0 s) :
    Writes W s0 s.pfcOn := by
  unfold State.pfcOn
  exact .groupStart hW.sub (.lawsOn hW.sub h)

theorem Writes.advertise (hW : Covers RegName.At 0x120600000000000000000000000000000000000000000000 W) (h : Writes W s0 s) :
    Writes W s0 s.advertise := by
  unfold State.advertise
  exact .quiet (State.modSupply_keeps rfl) (.cmpWrite hW.sub (.quiet (State.advWord_keeps rfl) h))

theorem Writes.stationFollow (hW : Covers RegName.At 0x120600000000000000000000000000000000000000000000 W) (h : Writes W s0 s) :
    Writes W s0 s.stationFollow := by
  unfold State.stationFollow
  exact .ite (.advertise hW.sub h) h

theorem Writes.chsDetect {cause} (hW : Covers RegName.At 0x7800003D4850E00300C00003000000000000004002A00002020000000 W) (h : Writes W s0 s) :
    Writes W s0 (s.chsDetect cause) := by
  unfold State.chsDetect
  exact .quiet (State.report_keeps rfl) (.gtrip hW.sub (.quiet (Keeps.set_chs rfl) (.inc (hW.at0 .CHS_CNT) (.setf (hW.at0 .CHS_STAT)
      (.setf (hW.at0 .CHS_STAT) h)))))

theorem Writes.chsCurrent {id v} (hW : Covers RegName.At 0x7800003D4850E00300C00003000000000000004002A00002020000000 W) (h : Writes W s0 s) :
    Writes W s0 (s.chsCurrent id v) := by
  unfold State.chsCurrent
  dsimp only
  refine .ite h ?_
  split
  · exact .quiet (Keeps.set_chs rfl) h
  · exact .ite (.chsDetect hW.sub (.quiet (Keeps.set_chs rfl) h)) (.quiet (Keeps.set_chs rfl) h)

theorem Writes.boostOn (hW : Covers RegName.At 0x18000000008C0180000000004F00200000000000000180000000000000 W) (h : Writes W s0 s) :
    Writes W s0 s.boostOn := by
  unfold State.boostOn
  exact .groupStart hW.sub (.lawsOn hW.sub h)

theorem Writes.armSupervisor (hW : Covers RegName.At 0x5000000000000000 W) (h : Writes W s0 s) : Writes W s0 s.armSupervisor := by
  unfold State.armSupervisor
  exact .ite (.setf (hW.at0 .CHS_VMAX) (.setb (hW.at0 .CHS_CTRL) h)) (.setb (hW.at0 .CHS_CTRL) h)

theorem Writes.setCh {m st} (hW : Covers RegName.At 0x5000000000000000 W) (h : Writes W s0 s) : Writes W s0 (s.setCh m st) := by
  unfold State.setCh
  exact .ite (.armSupervisor hW.sub (.quiet (State.modCh_keeps rfl) (.quiet (State.putNat_keeps rfl) h))) (.quiet (State.modCh_keeps rfl)
      (.quiet (State.putNat_keeps rfl) h))

theorem Writes.chToFault {m cause} (hW : Covers RegName.At 0x200840800000000003130C00000000000005200000000000000 W) (h : Writes W s0 s) :
    Writes W s0 (s.chToFault m cause) := by
  unfold State.chToFault
  exact .ite (.quiet (State.putNat_keeps rfl) (.isoOff hW.sub (.quiet (State.modCh_keeps rfl) (.setCh hW.sub (.quiet (State.chZero_keeps rfl) h)))))
      (.quiet (State.modCh_keeps rfl) (.setCh hW.sub (.quiet (State.chZero_keeps rfl) h)))

theorem Writes.stationStart (hW : Covers RegName.At 0x2009E0F80000000003130C00000000000005200000000000000 W) (h : Writes W s0 s) :
    Writes W s0 s.stationStart := by
  unfold State.stationStart
  exact .ite h (.ite (.chToFault hW.sub h) (.groupStart hW.sub (.advertise hW.sub h)))

theorem Writes.s2Open (hW : Covers RegName.At 0x3000000000000000000000000000 W) (h : Writes W s0 s) : Writes W s0 s.s2Open := by
  unfold State.s2Open
  exact .setf (hW.at0 .INL_STAT) (.setf (hW.at0 .INL_CTRL) (.ite (.quiet (State.modInlet_keeps rfl) h) h))

theorem Writes.sourceLoss (hW : Covers RegName.At 0x200840800000000003130C03000000000000200000000000000 W) (h : Writes W s0 s) :
    Writes W s0 s.sourceLoss := by
  unfold State.sourceLoss
  exact .quiet (State.modInlet_keeps rfl) (.quiet (State.setInlet_keeps rfl) (.pfcOff hW.sub (.s2Open hW.sub h)))

theorem Writes.oscRefresh (hW : Covers RegName.At 0x2C00000000000000000000000000 W) (h : Writes W s0 s) : Writes W s0 s.oscRefresh := by
  unfold State.oscRefresh
  exact .ite h (.wr (hW.at0 .INL_CPHIGH) (.wr (hW.at0 .INL_CPPER) (.setf (hW.at0 .INL_STAT) h)))

theorem Writes.chargeBoundary (hW : Covers RegName.At 0x120600000000000000002C00000000005000000000000000 W) (h : Writes W s0 s) :
    Writes W s0 s.chargeBoundary := by
  unfold State.chargeBoundary
  refine .ite ?_ ?_
  · refine .quiet (State.refreshLimit_keeps rfl) (.armSupervisor hW.sub (.ite ?_ ?_))
    · exact .stationFollow hW.sub (.quiet (State.chRamp_keeps rfl) (.quiet (State.chRamp_keeps rfl) h))
    · exact .ite (.quiet (State.modCh_keeps rfl) (.stationFollow hW.sub (.quiet (State.chRamp_keeps rfl) (.quiet (State.chRamp_keeps rfl) h))))
          (.setCh hW.sub (.quiet (State.chZero_keeps rfl) (.quiet (State.modCh_keeps rfl) (.stationFollow hW.sub (.quiet (State.chRamp_keeps rfl)
          (.quiet (State.chRamp_keeps rfl) h))))))
  · refine .ite ?_ ?_
    · refine .oscRefresh hW.sub (.ite ?_ ?_)
      · exact .stationFollow hW.sub (.quiet (State.chRamp_keeps rfl) (.quiet (State.chRamp_keeps rfl) h))
      · exact .ite (.quiet (State.modCh_keeps rfl) (.stationFollow hW.sub (.quiet (State.chRamp_keeps rfl) (.quiet (State.chRamp_keeps rfl) h))))
            (.setCh hW.sub (.quiet (State.chZero_keeps rfl) (.quiet (State.modCh_keeps rfl) (.stationFollow hW.sub (.quiet (State.chRamp_keeps rfl)
            (.quiet (State.chRamp_keeps rfl) h))))))
    · refine .ite ?_ ?_
      · exact .stationFollow hW.sub (.quiet (State.chRamp_keeps rfl) (.quiet (State.chRamp_keeps rfl) h))
      · exact .ite (.quiet (State.modCh_keeps rfl) (.stationFollow hW.sub (.quiet (State.chRamp_keeps rfl) (.quiet (State.chRamp_keeps rfl) h))))
            (.setCh hW.sub (.quiet (State.chZero_keeps rfl) (.quiet (State.modCh_keeps rfl) (.stationFollow hW.sub (.quiet (State.chRamp_keeps rfl)
            (.quiet (State.chRamp_keeps rfl) h))))))

theorem Writes.chsLink (hW : Covers RegName.At 0x7800003D4850E00300C00003000000000000004002A00002020000000 W) (h : Writes W s0 s) :
    Writes W s0 s.chsLink := by
  unfold State.chsLink
  refine .ite (.quiet (Keeps.set_chs rfl) h) ?_
  refine .ite (.chsDetect hW.sub (.quiet (Keeps.set_chs rfl) h)) ?_
  split
  · exact .ite (.chsDetect hW.sub (.quiet (Keeps.set_chs rfl) h)) (.quiet (Keeps.set_chs rfl) h)
  · exact .quiet (Keeps.set_chs rfl) h

theorem Writes.isoOn (hW : Covers RegName.At 0x18000000008C0180000000004F00200000000000000180000000000000 W) (h : Writes W s0 s) :
    Writes W s0 s.isoOn := by
  unfold State.isoOn
  exact .ite h (.groupStart hW.sub (.lawsOn hW.sub h))

theorem Writes.supplyOn (hW : Covers RegName.At 0x18000002008C0980000000007F30E00000000000005380000000000000 W) (h : Writes W s0 s) :
    Writes W s0 s.supplyOn := by
  unfold State.supplyOn
  exact .ite (.chToFault hW.sub h) (.quiet (State.modSupply_keeps rfl) (.quiet (State.putNat_keeps rfl) (.pfcOn hW.sub (.isoOn hW.sub h))))

theorem Writes.boostOff (hW : Covers RegName.At 0x200840800000000003130C00000000000000200000000000000 W) (h : Writes W s0 s) :
    Writes W s0 s.boostOff := by
  unfold State.boostOff
  exact .stopGens hW.sub (.lawsOff hW.sub h)

/-! ## TeamOps -/

theorem Writes.recordMismatch {t kind core nomaj} (hW : Covers RegName.At 0xC1000000000000000000000000 W) (h : Writes W s0 s) :
    Writes W s0 (s.recordMismatch t kind core nomaj) := by
  unfold State.recordMismatch
  exact .inc (hW.at1 .HARN_CNT_MIS) (.wr (hW.at1 .HARN_MIST) (.wr (hW.at1 .HARN_MIS) h))

theorem Writes.setHarnState {t v} (hW : Covers RegName.At 0x100000000000000000000000000 W) (h : Writes W s0 s) :
    Writes W s0 (s.setHarnState t v) := by
  unfold State.setHarnState
  exact .setf (hW.at1 .HARN_STAT) h

theorem Writes.harnLive {t} (hW : Covers RegName.At 0x100000000000000000000000000 W) (h : Writes W s0 s) : Writes W s0 (s.harnLive t) := by
  unfold State.harnLive
  exact .setf (hW.at1 .HARN_STAT) h

theorem Writes.troikaMismatch {t odd kind} (hW : Covers RegName.At 0x1D40000000000000000000001C1000000000000000000000000 W) (h : Writes W s0 s) :
    Writes W s0 (s.troikaMismatch t odd kind) := by
  unfold State.troikaMismatch
  exact .irq hW.sub (.harnLive hW.sub (.quiet (State.modHarn_keeps rfl) (.setf (hW.at1 .HARN_STAT) (.setHarnState hW.sub
      (.quiet (State.modTeamCore_keeps rfl) (.recordMismatch hW.sub h))))))

theorem Writes.recordStall {t stall} (hW : Covers RegName.At 0x20000000000000000000000000 W) (h : Writes W s0 s) :
    Writes W s0 (s.recordStall t stall) := by
  unfold State.recordStall
  exact .setf (hW.at1 .HARN_MAXSTALL) h

theorem Writes.reharness {t b stall} (hW : Covers RegName.At 0x122000000000000000000000000 W) (h : Writes W s0 s) :
    Writes W s0 (s.reharness t b stall) := by
  unfold State.reharness
  exact .quiet (State.modHarn_keeps rfl) (.recordStall hW.sub (.inc (hW.at1 .HARN_CNT_REH) (.harnLive hW.sub (.setHarnState hW.sub
      (.setf (hW.at1 .HARN_STAT) (.quiet (State.reharnessCores_keeps rfl) h))))))

theorem Writes.startBarrier {t byWfi} (hW : Covers RegName.At 0x100000000000000000000000000 W) (h : Writes W s0 s) :
    Writes W s0 (s.startBarrier t byWfi) := by
  unfold State.startBarrier
  exact .quiet (State.modHarn_keeps rfl) (.setHarnState hW.sub h)

theorem Writes.reharnessFence {t n b} (hW : Covers RegName.At 0x104000000000000000000000000 W) (h : Writes W s0 s) :
    Writes W s0 (s.reharnessFence t n b) := by
  unfold State.reharnessFence
  refine .ite (.quiet (State.modHarn_keeps rfl) h) ?_
  refine .ite (.quiet (State.modHarn_keeps rfl) h) ?_
  refine .ite ?_ ?_
  · exact .inc (hW.at1 .HARN_CNT_REHREF) (.quiet (State.modHarn_keeps rfl) h)
  · exact .ite (.inc (hW.at1 .HARN_CNT_REHREF) (.quiet (State.modHarn_keeps rfl) h)) (.ite (.inc (hW.at1 .HARN_CNT_REHREF)
        (.quiet (State.modHarn_keeps rfl) h)) (.ite (.inc (hW.at1 .HARN_CNT_REHREF) (.quiet (State.modHarn_keeps rfl) h))
        (.quiet (State.modHarn_keeps rfl) (.setHarnState hW.sub h))))

theorem Writes.teamAStart (hW : Covers RegName.At 0x100000000000000000000000000 W) (h : Writes W s0 s) : Writes W s0 s.teamAStart := by
  unfold State.teamAStart
  exact .quiet (State.teamAMachines_keeps rfl) (.quiet (State.modHarn_keeps rfl) (.harnLive hW.sub (.setHarnState hW.sub (.forN
      (.setf (hW.at1 .HARN_STAT) h) (fun _ _ h2 => .quiet (State.startCore_keeps rfl) h2)))))

theorem Writes.releaseTeamA {v} (hW : Covers RegName.At 0x400000000000000000000000110000000000000000000000000 W) (h : Writes W s0 s) :
    Writes W s0 (s.releaseTeamA v) := by
  unfold State.releaseTeamA
  refine .ite ?_ ?_
  · exact .setf (hW.at1 .HARN_STAT) (.wrExcept (hW.at1 .HARN_CTRL) h)
  · refine .ite (.wrExcept (hW.at1 .HARN_CTRL) h) ?_
    refine .ite ?_ ?_
    · exact .quiet (State.modBoot_keeps rfl) (.setPhase hW.sub (.quiet (State.putNat_keeps rfl) (.quiet (State.putNat_keeps rfl)
          (.quiet (State.putNat_keeps rfl) (.quiet (State.putNat_keeps rfl) (.setf (hW.at1 .HARN_CTRL) (.teamAStart hW.sub
          (.wrExcept (hW.at1 .HARN_CTRL) h))))))))
    · exact .setf (hW.at1 .HARN_CTRL) (.teamAStart hW.sub (.wrExcept (hW.at1 .HARN_CTRL) h))

theorem Writes.rejoin {t stall} (hW : Covers RegName.At 0x1FC000000000000000000100128000000000000000C00000000 W) (h : Writes W s0 s) :
    Writes W s0 (s.rejoin t stall) := by
  unfold State.rejoin
  refine .ite ?_ ?_
  · exact .powerEvaluate hW.sub (.irq hW.sub (.quiet (State.modHarn_keeps rfl) (.recordStall hW.sub (.inc (hW.at1 .HARN_CNT_RESYNC) (.harnLive hW.sub
        (.setHarnState hW.sub (.forN (.quiet (State.modTeamCore_keeps rfl) h) (fun _ _ h2 => .quiet (State.modTeamCore_keeps rfl) h2))))))))
  · exact .irq hW.sub (.quiet (State.modHarn_keeps rfl) (.recordStall hW.sub (.inc (hW.at1 .HARN_CNT_RESYNC) (.harnLive hW.sub (.setHarnState hW.sub
        (.forN (.quiet (State.modTeamCore_keeps rfl) h) (fun _ _ h4 => .quiet (State.modTeamCore_keeps rfl) h4)))))))

theorem Writes.noMajority {t kind core} (hW : Covers RegName.At 0x1D40000000000000000000001D1000000000000000000000000 W) (h : Writes W s0 s) :
    Writes W s0 (s.noMajority t kind core) := by
  unfold State.noMajority
  exact .ite (.modMg (.quiet (State.report_keeps rfl) (.harnLive hW.sub (.each (.irq hW.sub (.quiet (State.modHarn_keeps rfl)
      (.recordMismatch hW.sub h))) (fun _ _ h2 => .quiet (State.modTeamCore_keeps rfl) h2))))) (.teamALost hW.sub (.irq hW.sub
      (.quiet (State.modHarn_keeps rfl) (.recordMismatch hW.sub h))))

/-! ## ModeOps -/

theorem Writes.refreshPhase (hW : Covers RegName.At 0x400000000000000000000000000000000000000000000000000 W) (h : Writes W s0 s) :
    Writes W s0 s.refreshPhase := by
  unfold State.refreshPhase
  exact .ite (.setPhase hW.sub h) (.ite (.setPhase hW.sub h) h)

theorem Writes.serviceForcing {v} (hW : Covers RegName.At 0x2000000000000000000000000000000000000000 W) (h : Writes W s0 s) :
    Writes W s0 (s.serviceForcing v) := by
  unfold State.serviceForcing
  exact .ite (.modMg h) (.ite h (.modMg (.forN h (fun _ _ h2 => .quiet (State.modMgDrive_keeps rfl) (.wr (hW.at1 .MG_POS) h2)))))

theorem Writes.takeNss {d i v} (hW : Covers RegName.At 0x1000000000000000000000000000000000000000 W) (h : Writes W s0 s) :
    Writes W s0 (s.takeNss d i v) := by
  unfold State.takeNss
  exact .ite h (.setf (hW.at1 .MG_NSS) h)

theorem Writes.watchWrite {id v} (hW : Covers RegName.At 0x7800003D4850E00303C00003000000000000004002A00002020000000 W) (h : Writes W s0 s) :
    Writes W s0 (s.watchWrite id v) := by
  unfold State.watchWrite
  exact .ite (.serviceForcing hW.sub (.chsCurrent hW.sub h)) (.ite (.takeNss hW.sub (.chsCurrent hW.sub h)) (.ite (.takeNss hW.sub
      (.chsCurrent hW.sub h)) (.ite (.modGate (.chsCurrent hW.sub h)) (.ite (.modGate (.chsCurrent hW.sub h)) (.chsCurrent hW.sub h)))))

theorem Writes.modeEntering (hW : Covers RegName.At 0x180000000000000000000000000000000000000000000000000 W) (h : Writes W s0 s) :
    Writes W s0 s.modeEntering := by
  unfold State.modeEntering
  exact .raise hW.sub (.quiet (State.modMode_keeps rfl) (.quiet (State.putNat_keeps rfl) h))

theorem Writes.modeLeft (hW : Covers RegName.At 0x380840800000000000000000000000000000000000000000000 W) (h : Writes W s0 s) :
    Writes W s0 s.modeLeft := by
  unfold State.modeLeft
  exact .modeEntering hW.sub (.stopGens hW.sub h)

theorem Writes.modeHooks {old new} (hW : Covers RegName.At 0x2009E0F80000000003130C00000000000005200000000000000 W) (h : Writes W s0 s) :
    Writes W s0 (s.modeHooks old new) := by
  unfold State.modeHooks
  exact .quiet (State.modCh_keeps rfl) (.ite (.quiet (State.modInlet_keeps rfl) (.ite (.stationStart hW.sub (.quiet (State.modSupply_keeps rfl)
      (.quiet (State.putNat_keeps rfl) h))) h)) (.ite (.stationStart hW.sub (.quiet (State.modSupply_keeps rfl)
      (.quiet (State.putNat_keeps rfl) h))) h))

theorem Writes.modeEntered (hW : Covers RegName.At 0x7800003F49F0F80303C00003130C00000000004007A00002020000000 W) (h : Writes W s0 s) :
    Writes W s0 s.modeEntered := by
  unfold State.modeEntered
  exact .refreshMmreq hW.sub (.modeHooks hW.sub (.quiet (State.putNat_keeps rfl) (.watchWrite hW.sub (.quiet (State.putNat_keeps rfl) h))))

theorem Writes.modeArrived (hW : Covers RegName.At 0x7800003F49F0F80303C00003130C00000000004007A00002020000000 W) (h : Writes W s0 s) :
    Writes W s0 s.modeArrived := by
  unfold State.modeArrived
  exact .ite (.modeEntered hW.sub h) (.quiet (State.modeLeave_keeps rfl) h)

theorem Writes.modeDeadline (hW : Covers RegName.At 0x7800003F49F0F80303C00003130C00000000004007A00002020000000 W) (h : Writes W s0 s) :
    Writes W s0 s.modeDeadline := by
  unfold State.modeDeadline
  exact .ite (.modeLeft hW.sub h) (.ite (.modeArrived hW.sub h) h)

/-! ## BridlePath -/

theorem Writes.takeIn {i target tReady lat cls} (hW : Covers RegName.At 0x1D4000000000000000000000000000000000000002C02000000 W) (h : Writes W s0 s) :
    Writes W s0 (s.takeIn i target tReady lat cls) := by
  unfold State.takeIn
  split
  · exact h
  · exact .ite (.firstReply hW.sub (.quiet (State.reserve_keeps rfl) h)) (.firstReply hW.sub (.inc (hW.at0 .BRD_CNT_LATE) (.freeSlot hW.sub h)))

theorem Writes.noSession {k} (hW : Covers RegName.At 0x10000000 W) (h : Writes W s0 s) : Writes W s0 (s.noSession k) := by
  unfold State.noSession
  exact .ite (.inc (hW.at0 .BRD_CNT_NOSESS) h) (.quiet (State.postReply_keeps rfl) (.modBridle (.inc (hW.at0 .BRD_CNT_NOSESS) h)))

theorem Writes.askOpen {k} (hW : Covers RegName.At 0x1D4000000000000000000000000000000000000000800000000 W) (h : Writes W s0 s) :
    Writes W s0 (s.askOpen k).1 := by
  unfold State.askOpen
  dsimp only
  split
  · exact h
  · split
    · exact h
    · split
      · exact h
      · split
        · exact h
        · split
          · exact h
          · exact .irq hW.sub (.quiet (State.modSess_keeps rfl) (.wr (hW.at1 .BRD_SESS) (.quiet (State.drawBytes_keeps rfl) h)))

theorem Writes.proofFailed {n l} (hW : Covers RegName.At 0x1D4000000000000000000000000000000000000000D00200000 W) (h : Writes W s0 s) :
    Writes W s0 (s.proofFailed n l) := by
  unfold State.proofFailed
  exact .closeSession hW.sub (.ite (.inc (hW.at0 .BRD_CNT_AUTH) (.setf (hW.at1 .BRD_LOCK) h)) (.quiet (State.modSecure_keeps rfl)
      (.setf (hW.at1 .BRD_LOCK) (.inc (hW.at0 .BRD_CNT_AUTH) (.setf (hW.at1 .BRD_LOCK) h)))))

theorem Writes.askProof {k} (hW : Covers RegName.At 0x1D4000000000000000000000000000000000000000D00200000 W) (h : Writes W s0 s) :
    Writes W s0 (s.askProof k).1 := by
  unfold State.askProof
  dsimp only
  split
  · exact h
  · split
    · exact h
    · split
      · exact .proofFailed hW.sub h
      · exact .irq hW.sub (.setf (hW.at1 .BRD_LOCK) (.quiet (State.modSess_keeps rfl) (.wr (hW.at1 .BRD_SEQ) (.setf (hW.at1 .BRD_SESS) h))))

theorem Writes.hwAsk {row k} (hW : Covers RegName.At 0x1D4000000000000000000000000000000000000000D00200000 W) (h : Writes W s0 s) :
    Writes W s0 (s.hwAsk row k).1 := by
  unfold State.hwAsk
  dsimp only
  split
  · exact h
  · split
    · exact h
    · split
      · exact h
      · exact .quiet (State.askMode_keeps rfl) h
      · exact h
      · exact h
      · exact h
      · exact .quiet (State.askSubscribe_keeps rfl) h
      · exact .quiet (State.askUnsubscribe_keeps rfl) h
      · exact .askOpen hW.sub h
      · exact .askProof hW.sub h
      · exact h
      · exact h

theorem Writes.recordHolder {i k} (hW : Covers RegName.At 0x800000000 W) (h : Writes W s0 s) : Writes W s0 (s.recordHolder i k) := by
  unfold State.recordHolder
  exact .ite (.setf (hW.at1 .BRD_SESS) (.forN h (fun _ _ h2 => .setf (hW.at1 .BRD_SESS) h2))) h

theorem Writes.answerAsk {i row k a} (hW : Covers RegName.At 0x1D4000000000000000000000000000000000000002C02000000 W) (h : Writes W s0 s) :
    Writes W s0 (s.answerAsk i row k a) := by
  unfold State.answerAsk
  exact .ite (.recordHolder hW.sub (.takeIn hW.sub (.setSlot hW.sub h))) (.ite (.closeSession hW.sub (.firstReply hW.sub h)) (.firstReply hW.sub h))

theorem Writes.enqueue {i row k} (hW : Covers RegName.At 0x1D4000000000000000000000000000000000000003C00000000 W) (h : Writes W s0 s) :
    Writes W s0 (s.enqueue i row k) := by
  unfold State.enqueue
  exact .ite (.firstReply hW.sub h) (.ite (.firstReply hW.sub h) (.irq hW.sub (.bridleMirror hW.sub (.modBridle (.showPacket hW.sub
      (.setSlot hW.sub h)) (fun _ hc => by split <;> simpa using hc)))))

theorem Writes.runRequest {i k} (hW : Covers RegName.At 0x1D4000000000000000000000000000000000000003D02200000 W) (h : Writes W s0 s) :
    Writes W s0 (s.runRequest i k) := by
  unfold State.runRequest
  split
  · exact .firstReply hW.sub h
  · exact .ite (.answerAsk hW.sub (.hwAsk hW.sub h)) (.enqueue hW.sub h)

theorem Writes.sequenced {i k} (hW : Covers RegName.At 0x1D4000000000000000000000000000000000000003D42A00000 W) (h : Writes W s0 s) :
    Writes W s0 (s.sequenced i k) := by
  unfold State.sequenced
  refine .ite (.runRequest hW.sub h) ?_
  refine .ite (.inc (hW.at0 .BRD_CNT_DUP) h) ?_
  refine .ite (.runRequest hW.sub h) ?_
  split
  · exact .inc (hW.at0 .BRD_CNT_DUP) (.quiet (State.postReply_keeps rfl) h)
  · exact .inc (hW.at0 .BRD_CNT_REPLAY) (.firstReply hW.sub h)

theorem Writes.checkRequest {k} (hW : Covers RegName.At 0x1D4000000000000000000000000000000000000003D56E00000 W) (h : Writes W s0 s) :
    Writes W s0 (s.checkRequest k) := by
  unfold State.checkRequest
  have hdated : Writes W s0 (if k.n = 0 then s else s.modSess k.n (fun x => { x with last := s.dtb })) := .ite h (.quiet (State.modSess_keeps rfl) h)
  refine .ite (.noSession hW.sub h) (.ite (.inc (hW.at0 .BRD_CNT_MAC) h) ?_)
  dsimp only
  generalize (if k.n = 0 then s else s.modSess k.n (fun x => { x with last := s.dtb })) = t at hdated ⊢
  split
  · exact .inc (hW.at0 .BRD_CNT_BUSY) (.firstReply hW.sub hdated)
  · exact .sequenced hW.sub hdated

theorem Writes.bridlePacket {port xl data} (hW : Covers RegName.At 0x1D4000000000000000000000000000000000000003D5EE00000 W) (h : Writes W s0 s) :
    Writes W s0 (s.bridlePacket port xl data) := by
  unfold State.bridlePacket
  refine .ite h ?_
  split
  · exact .inc (hW.at0 .BRD_CNT_MALF) h
  · exact .checkRequest hW.sub h

theorem Writes.receiveFrame {p f} (hW : Covers RegName.At 0x101D400000000000000000000000000000000000DCC3D5EE00000 W) (h : Writes W s0 s) :
    Writes W s0 (s.receiveFrame p f) := by
  unfold State.receiveFrame
  exact .frameEnd hW.sub (.ite (.ite (.inc (hW.at1 .BUS_CNT_TOOLONG) (.rxGood hW.sub (.inc (hW.at1 .BUS_CNT_RX) h))) (.bridlePacket hW.sub
      (.rxGood hW.sub (.inc (hW.at1 .BUS_CNT_RX) h)))) (.receiveObject hW.sub (.rxGood hW.sub (.inc (hW.at1 .BUS_CNT_RX) h))))

theorem Writes.request {p xl n seq opcode conf params mac} (hW : Covers RegName.At 0x101D400000000000000000000000000000000000DCC3D5EE00000 W) (h : Writes W s0 s) :
    Writes W s0 (s.request p xl n seq opcode conf params mac) := by
  unfold State.request
  exact .ite (.receiveFrame hW.sub h) h

/-! ## Startup -/

theorem Writes.tryBank {active b} (hW : Covers RegName.At 0x120000000000000000000000000000000000000000000000000000 W) (h : Writes W s0 s) :
    Writes W s0 (s.tryBank active b).2 := by
  unfold State.tryBank
  generalize s.verifyImage b 0 = c
  dsimp only
  generalize (if c.code = 0 && c.kind ≠ 1 then 1 else c.code) = code
  split
  · exact .setf (hW.at0 .SEC_BOOTST) h
  · exact .extend hW.sub (.setb (hW.at0 .SEC_BOOTST) (.setf (hW.at0 .SEC_BOOTST) (.setf (hW.at0 .SEC_BOOTST) (.setf (hW.at0 .SEC_BOOTST)
      (.ite (.quiet (State.writeRecord_keeps rfl) h) h)))))

theorem Writes.enterStage1 {descs} (hW : Covers RegName.At 0x1800000580000000000000000000000000000000000000000000050800 W) (h : Writes W s0 s) :
    Writes W s0 (s.enterStage1 descs) := by
  unfold State.enterStage1
  exact .bootAt hW.sub (.raise hW.sub (.setf (hW.at0 .RST_BOOT) (.setPhase hW.sub (.quiet (State.modBoot_keeps rfl) (.each h
      (fun _ _ h2 => .quiet (State.setDesc_keeps rfl) h2))))))

theorem Writes.tryBank_some {active b : Nat} (hW : Covers RegName.At 0x120000000000000000000000000000000000000000000000000000 W) (ht : (s.tryBank active b).1 = some t) (h : Writes W s0 s) :
    Writes W s0 t := by
  have hbank : Writes W s0 (s.tryBank active b).2 := .tryBank hW h
  unfold State.tryBank at ht hbank
  generalize s.verifyImage b 0 = c at ht hbank
  dsimp only at ht hbank
  generalize (if c.code = 0 && c.kind ≠ 1 then 1 else c.code) = code at ht hbank
  by_cases hc : code ≠ 0
  · simp [hc] at ht
  · simp only [hc, if_false, Option.some.injEq] at ht hbank
    rw [← ht]
    exact .quiet (State.modSecure_keeps rfl) hbank

theorem Writes.bootRom {descs} (hW : Covers RegName.At 0x1800120580000000000000000000000100000000000000000000050800 W) (h : Writes W s0 s) :
    Writes W s0 (s.bootRom descs) := by
  unfold State.bootRom
  dsimp only
  have htried : Writes W s0 (if s.bootRecord.2.1 = 1 && 3 ≤ s.bootRecord.2.2 then s.writeRecord (1 - s.bootRecord.1) 0 0 else s) :=
    .ite (.quiet (State.writeRecord_keeps rfl) h) h
  generalize (if s.bootRecord.2.1 = 1 && 3 ≤ s.bootRecord.2.2 then s.writeRecord (1 - s.bootRecord.1) 0 0 else s) = s1 at htried ⊢
  have hfirst : Writes W s0 (s1.tryBank s1.bootRecord.1 s1.bootRecord.1).2 := .tryBank hW.sub htried
  split
  · next t _ he => exact .enterStage1 hW.sub (.tryBank_some hW.sub (congrArg Prod.fst he) htried)
  · next s2 he =>
    have hs2 : Writes W s0 s2 := by rwa [he] at hfirst
    have hsecond : Writes W s0 (s2.tryBank s1.bootRecord.1 (1 - s1.bootRecord.1)).2 := .tryBank hW.sub hs2
    split
    · next t _ he3 => exact .enterStage1 hW.sub (.tryBank_some hW.sub (congrArg Prod.fst he3) hs2)
    · next s3 he3 =>
      rw [he3] at hsecond
      exact .haltTeamS hW.sub hsecond

theorem Writes.strapPhase (hW : Covers RegName.At 0x2000000000000000000000000000000000000000000000000000 W) (h : Writes W s0 s) :
    Writes W s0 s.strapPhase := by
  unfold State.strapPhase
  exact .wr (hW.at0 .RST_DTB) (.quiet (State.modBoot_keeps rfl) h)

theorem execPowerFailWarning_writes (h : s.Inv) (hws : Instr.powerFailWarning.registers = some ws) :
    Reaches (Writes (Listed ws) s) (execPowerFailWarning s) := by
  have hW := covers_listed (at_ := RegName.At) (M := 0x19D4000000000000000000000000000000000000000000000001) hws rfl
  unfold execPowerFailWarning
  exact .next (.ite (.refl h) (.irq hW.sub (.quiet (State.report_keeps rfl) (.quiet (State.modBoot_keeps rfl) (.resetCause hW.sub (.refl h))))))

theorem execStage1Entry_writes {us descs} (h : s.Inv) (hws : (Instr.stage1Entry us descs).registers = some ws) :
    Reaches (Writes (Listed ws) s) (execStage1Entry us descs s) := by
  have hW := covers_listed (at_ := RegName.At) (M := 0x1800120580000000000000000000000100000000000000000000050800) hws rfl
  unfold execStage1Entry
  exact .next (.ite (.bootRom hW.sub (.quiet (State.reachRtc_keeps rfl) (.refl h))) (.refl h))

theorem execStrapEnd_writes {sync wake tp0} (h : s.Inv) (hws : (Instr.strapEnd sync wake tp0).registers = some ws) :
    Reaches (Writes (Listed ws) s) (execStrapEnd sync wake tp0 s) := by
  have hW := covers_listed (at_ := RegName.At) (M := 0x4000000000000000000000000000000000000000000000000000) hws rfl
  unfold execStrapEnd
  exact .next (.ite (.refl h) (.quiet (fun k => Keeps.set_sram rfl k fun _ => rfl) (.quiet (State.modBoot_keeps rfl) (.ite
      (.quiet (State.reach_keeps rfl) (.refl h)) (.setb (hW.at0 .RST_STRAP) (.setf (hW.at0 .RST_STRAP) (.quiet (State.reach_keeps rfl)
      (.refl h))))))))

theorem execVsupQualified_writes (h : s.Inv) (hws : Instr.vsupQualified.registers = some ws) :
    Reaches (Writes (Listed ws) s) (execVsupQualified s) := by
  have hW := covers_listed (at_ := RegName.At) (M := 0x1800000000000000000000000000000000000000000000000001) hws rfl
  unfold execVsupQualified
  exact .next (.ite (.refl h) (.quiet (State.sequencerStart_keeps rfl) (.ite (.resetCause hW.sub (.refl h)) (.refl h))))

theorem execWarmReset_writes (h : s.Inv) (hws : Instr.warmReset.registers = some ws) : Reaches (Writes (Listed ws) s) (execWarmReset s) := by
  have hW := covers_listed (at_ := RegName.At) (M := 0x2000000000000000000000000000000000000000000000000000) hws rfl
  unfold execWarmReset
  exact .next (.ite (.strapPhase hW.sub (.quiet (State.reach_keeps rfl) (.refl h))) (.refl h))

/-! ## RegOps -/

theorem Writes.thWrite {a v} (hW : Covers RegName.At 0x14000000000000000000000000000000000000000000000000000000 W) (ha : W a) (h : Writes W s0 s) :
    Writes W s0 (s.thWrite a v) := by
  unfold State.thWrite
  exact .ite (.thermalEnable hW.sub h) (.ite h (.ite (.thermalLevel hW.sub ha h) (.wrReg ha h)))

theorem Writes.engineWrite {e v} (hW : Covers RegName.At 0x180000000000000 W) (h : Writes W s0 s) : Writes W s0 (s.engineWrite e v) := by
  unfold State.engineWrite
  exact .ite (.engineStart hW.sub (.ite h (.ite (.wrOnly (hW.at1 .CE_CTRL) h) (.wrOnly (hW.at1 .CE_CTRL) (.wrOnly (hW.at1 .CE_CTRL) h))))) (.ite h
      (.ite (.wrOnly (hW.at1 .CE_CTRL) h) (.wrOnly (hW.at1 .CE_CTRL) (.wrOnly (hW.at1 .CE_CTRL) h))))

theorem Writes.ceWrite {e a v} (hW : Covers RegName.At 0x180000000000000 W) (ha : W a) (h : Writes W s0 s) : Writes W s0 (s.ceWrite e a v) := by
  unfold State.ceWrite
  exact .ite (.engineWrite hW.sub h) (.ite (.ite h (.wrReg ha h)) (.ite (.ite (.wrReg ha h) (.ite h (.ite (.wrExcept ha h) (.wrReg ha h)))) (.ite
      (.ite h (.wrReg ha h)) (.ite h (.wrReg ha h)))))

theorem Writes.clkWrite {a v} (ha : W a) (h : Writes W s0 s) : Writes W s0 (s.clkWrite a v) := by
  unfold State.clkWrite
  exact .ite (.wrExcept ha h) (.ite h (.wrReg ha h))

theorem Writes.pwrWrite {core a v} (ha : W a) (h : Writes W s0 s) : Writes W s0 (s.pwrWrite core a v) := by
  unfold State.pwrWrite
  exact .ite h (.ite (.quiet (State.accessFault_keeps rfl) h) (.wrReg ha h))

theorem Writes.adcErr {u} (hW : Covers RegName.At 0x10000 W) (h : Writes W s0 s) : Writes W s0 (s.adcErr u) := by
  unfold State.adcErr
  exact .setf (hW.at1 .ADC_STATUS) h

theorem Writes.adcWrite {u a v} (hW : Covers RegName.At 0x10000 W) (ha : W a) (h : Writes W s0 s) : Writes W s0 (s.adcWrite u a v) := by
  unfold State.adcWrite
  exact .ite (.ite (.setf ha h) h) (.ite (.ite h (.ite (.adcErr hW.sub h) (.wrReg ha h))) (.ite (.ite h (.ite (.adcErr hW.sub h) (.wrReg ha h)))
      (.ite h (.ite (.ite (.wrReg ha h) (.adcErr hW.sub h)) (.ite (.ite (.ite h (.ite (.adcErr hW.sub h) (.wrReg ha h))) (.ite h (.ite
      (.adcErr hW.sub h) (.wrReg ha h)))) (.wrReg ha h))))))

theorem Writes.watchdogWrite {t n v} (hW : Covers RegName.At 0x10000000000000000000000000000000000000000000000000000000000 W) (h : Writes W s0 s) :
    Writes W s0 (s.watchdogWrite t n v) := by
  unfold State.watchdogWrite
  exact .ite h (.ite (.quiet (fun k => Keeps.set_harn rfl k fun i => by simpa using i) (.wrReg (hW.at2 .WDG_CTRL) h)) (.wrReg (hW.at2 .WDG_CTRL) h))

theorem Writes.frontEnable {d was} (hW : Covers RegName.At 0x200000000000000000000000000000000000000000000000000 W) (h : Writes W s0 s) :
    Writes W s0 (s.frontEnable d was) := by
  unfold State.frontEnable
  exact .ite (.setf (hW.at1 .RES_STAT) (.setf (hW.at1 .RES_STAT) h)) (.ite (.setf (hW.at1 .RES_STAT) h) h)

theorem Writes.linkLevel {a v} (hW : Covers RegName.At 0x800000000000000000000000 W) (ha : W a) (h : Writes W s0 s) :
    Writes W s0 (s.linkLevel a v) := by
  unfold State.linkLevel
  exact .ite h (.ite (.wrReg ha h) (.gdcErr hW.sub h))

theorem Writes.prcWrite {a v} (hW : Covers RegName.At 0x8000000000000000000000000000000000000000000 W) (ha : W a) (h : Writes W s0 s) :
    Writes W s0 (s.prcWrite a v) := by
  unfold State.prcWrite
  exact .ite (.recordControl hW.sub h) (.wrReg ha h)

theorem Writes.safeWrite {g v} (hW : Covers RegName.At 0x400000000000000000000000001020000000000000000000 W) (h : Writes W s0 s) :
    Writes W s0 (s.safeWrite g v) := by
  unfold State.safeWrite
  refine .ite ?_ ?_
  · refine .speedPattern hW.sub (.ite ?_ ?_)
    · exact .path2Pattern hW.sub (.ite (.quiet (State.applyPattern_keeps rfl) (.ite (.wrExcept (hW.at1 .PWM_SAFE) h) (.wrReg (hW.at1 .PWM_SAFE) h)))
          (.ite (.wrExcept (hW.at1 .PWM_SAFE) h) (.wrReg (hW.at1 .PWM_SAFE) h)))
    · exact .ite (.quiet (State.applyPattern_keeps rfl) (.ite (.wrExcept (hW.at1 .PWM_SAFE) h) (.wrReg (hW.at1 .PWM_SAFE) h))) (.ite
          (.wrExcept (hW.at1 .PWM_SAFE) h) (.wrReg (hW.at1 .PWM_SAFE) h))
  · refine .ite ?_ ?_
    · exact .path2Pattern hW.sub (.ite (.quiet (State.applyPattern_keeps rfl) (.ite (.wrExcept (hW.at1 .PWM_SAFE) h) (.wrReg (hW.at1 .PWM_SAFE) h)))
          (.ite (.wrExcept (hW.at1 .PWM_SAFE) h) (.wrReg (hW.at1 .PWM_SAFE) h)))
    · exact .ite (.quiet (State.applyPattern_keeps rfl) (.ite (.wrExcept (hW.at1 .PWM_SAFE) h) (.wrReg (hW.at1 .PWM_SAFE) h))) (.ite
          (.wrExcept (hW.at1 .PWM_SAFE) h) (.wrReg (hW.at1 .PWM_SAFE) h))

theorem Writes.mgRxWrite {a v} (hW : Covers RegName.At 0x80000000000000000000000000000000000000000 W) (ha : W a) (h : Writes W s0 s) :
    Writes W s0 (s.mgRxWrite a v) := by
  unfold State.mgRxWrite
  exact .ite h (.ite (.setf (hW.at0 .MG_STAT) h) (.wrReg ha h))

theorem Writes.mgBlockWrite {a v} (hW : Covers RegName.At 0xA0000000000000000000000000000000000000000 W) (ha : W a) (h : Writes W s0 s) :
    Writes W s0 (s.mgBlockWrite a v) := by
  unfold State.mgBlockWrite
  exact .ite h (.ite (.ite (.wrExcept ha (.modMg h)) (.wrExcept ha (.modMg h))) (.ite (.wrExcept ha (.modMg h)) (.ite (.mgRxWrite hW.sub ha
      (.modMg h)) (.outputs hW.sub (.wrReg ha (.modMg h))))))

theorem Writes.actWrite {a v} (hW : Covers RegName.At 0x40 W) (ha : W a) (h : Writes W s0 s) : Writes W s0 (s.actWrite a v) := by
  unfold State.actWrite
  exact .ite h (.ite (.ite h (.setf (hW.at0 .ACT_STAT) h)) (.wrReg ha h))

theorem Writes.redeliver {t} (hW : Covers RegName.At 0x1D4000000000000000000000000000000000000000000000000 W) (h : Writes W s0 s) :
    Writes W s0 (s.redeliver t) := by
  unfold State.redeliver
  exact .each h (fun _ _ h2 => .irqDeliver hW.sub h2)

theorem Writes.harnWrite {core t a v} (hW : Covers RegName.At 0x100000001D4000000000000000000000000000000000000000000000000 W) (ha : W a) (h : Writes W s0 s) :
    Writes W s0 (s.harnWrite core t a v) := by
  unfold State.harnWrite
  exact .ite (.ite (.wrExcept ha h) (.wrOnly ha h)) (.ite h (.ite h (.ite (.watchdogWrite hW.sub h) (.ite h (.ite
      (.quiet (State.accessFault_keeps rfl) h) (.ite (.redeliver hW.sub (.wrReg ha h)) (.wrReg ha h)))))))

theorem Writes.tripMaskWrite {g v} (hW : Covers RegName.At 0x1D6810000000000000000000000000004000000000000000000 W) (h : Writes W s0 s) :
    Writes W s0 (s.tripMaskWrite g v) := by
  unfold State.tripMaskWrite
  exact .ite (.genTripAt hW.sub (.wrReg (hW.at1 .PWM_TRIPM) h)) (.refreshTstate hW.sub (.wrReg (hW.at1 .PWM_TRIPM) h))

theorem Writes.genWrite {g a v} (hW : Covers RegName.At 0x1D6C50000000000000000000000001024000000000000000000 W) (ha : W a) (h : Writes W s0 s) :
    Writes W s0 (s.genWrite g a v) := by
  unfold State.genWrite
  exact .ite (.ite h (.ctrlFields hW.sub h)) (.ite (.wrExcept ha h) (.ite h (.ite (.ite h (.pwmErr hW.sub h)) (.ite (.ite h (.wrReg ha h)) (.ite
      (.tripMaskWrite hW.sub h) (.ite (.safeWrite hW.sub h) (.wrReg ha h)))))))

theorem Writes.timerWrite {n a v} (ha : W a) (h : Writes W s0 s) : Writes W s0 (s.timerWrite n a v) := by
  unfold State.timerWrite
  exact .ite (.ite h (.quiet (State.ttStart_keeps rfl) (.wrReg ha h))) (.ite (.quiet (State.ttStart_keeps rfl) (.wrReg ha h))
      (.quiet (fun k => Keeps.set_tt rfl k fun i => by simpa using i) (.wrReg ha h)))

theorem Writes.lvcWrite {a v} (ha : W a) (h : Writes W s0 s) : Writes W s0 (s.lvcWrite a v) := by
  unfold State.lvcWrite
  exact .ite (.wrOnly ha h) (.wrReg ha h)

theorem Writes.trpWrite {a v} (hW : Covers RegName.At 0x40 W) (ha : W a) (h : Writes W s0 s) : Writes W s0 (s.trpWrite a v) := by
  unfold State.trpWrite
  refine .ite h (.ite ?_ ?_)
  · exact .forN (.wrReg ha h) (fun _ _ h2 => .quiet (State.tripInCount_keeps rfl) h2)
  · exact .ite (.forN (.forN (.wrReg ha h) (fun _ _ h4 => .quiet (State.tripInCount_keeps rfl) h4))
        (fun _ _ h6 => .quiet (State.modTripIn_keeps rfl) h6)) (.ite (.ite (.wrReg ha h) (.quiet (Keeps.set_yarrow rfl) (.wrReg ha h))) (.ite
        (.timerWrite ha h) (.ite (.lvcWrite ha h) (.ite (.actWrite hW.sub ha h) (.wrReg ha h)))))

theorem Writes.inletWrite {v} (hW : Covers RegName.At 0x3000000000000000000000000000 W) (h : Writes W s0 s) : Writes W s0 (s.inletWrite v) := by
  unfold State.inletWrite
  exact .ite h (.ite (.s2Open hW.sub (.wrExcept (hW.at0 .INL_CTRL) h)) (.ite (.setf (hW.at0 .INL_STAT) (.setf (hW.at0 .INL_CTRL)
      (.wrExcept (hW.at0 .INL_CTRL) h))) (.setf (hW.at0 .INL_STAT) (.wrExcept (hW.at0 .INL_CTRL) h))))

theorem Writes.frontWrite {d own other v} (hW : Covers RegName.At 0x200000000000000000000000000000000000000000000000000 W) (ha : W own) (h : Writes W s0 s) :
    Writes W s0 (s.frontWrite d own other v) := by
  unfold State.frontWrite
  exact .ite (.setf (hW.at1 .RES_STAT) h) (.ite (.setf ha h) (.wrReg ha h))

theorem Writes.feWrite {a v} (hW : Covers RegName.At 0x200000000000000000000003000000000000000000000000000 W) (ha : W a) (h : Writes W s0 s) :
    Writes W s0 (s.feWrite a v) := by
  unfold State.feWrite
  exact .ite (.inletWrite hW.sub h) (.ite (.frontEnable hW.sub (.frontWrite hW.sub ha h)) (.ite (.frontWrite hW.sub ha h) (.wrReg ha h)))

theorem Writes.gchWrite {n a v} (hW : Covers RegName.At 0x800000000000000000000000 W) (ha : W a) (h : Writes W s0 s) :
    Writes W s0 (s.gchWrite n a v) := by
  unfold State.gchWrite
  exact .ite (.ite h (.ite (.gdcErr hW.sub h) (.wrReg ha h))) (.ite h (.wrReg ha h))

theorem Writes.gdcWrite {a v} (hW : Covers RegName.At 0x801020000000000000000000 W) (ha : W a) (h : Writes W s0 s) :
    Writes W s0 (s.gdcWrite a v) := by
  unfold State.gdcWrite
  exact .ite (.forN (.wrReg ha h) (fun _ _ h2 => .ite (.quiet (State.lockLeg_keeps rfl) h2) h2)) (.ite (.wrExcept ha h) (.ite (.ite (.wrMasked ha h)
      (.wrExcept ha h)) (.ite (.linkLevel hW.sub ha h) (.ite (.hvRefresh hW.sub (.wrReg ha h)) (.ite (.ite (.wrReg ha h) h) (.ite
      (.gchWrite hW.sub ha h) (.wrReg ha h)))))))

theorem Writes.portClosed {p} (hW : Covers RegName.At 0x1D4000000000000000000000000000000000000000C00000000 W) (h : Writes W s0 s) :
    Writes W s0 (s.portClosed p) := by
  unfold State.portClosed
  exact .forN h (fun _ _ h2 => .ite (.closeSession hW.sub h2) h2)

theorem Writes.busCtrlWrite {p v} (hW : Covers RegName.At 0x1D4000000000000000000000000000000000002000C00000000 W) (h : Writes W s0 s) :
    Writes W s0 (s.busCtrlWrite p v) := by
  unfold State.busCtrlWrite
  exact .ite (.ite (.portClosed hW.sub (.setf (hW.at1 .BUS_CTRL) (.wrExcept (hW.at1 .BUS_CTRL) h))) (.wrExcept (hW.at1 .BUS_CTRL) h)) (.ite h
      (.wrExcept (hW.at1 .BUS_CTRL) h))

theorem Writes.supervisorWrite {p i v} (hW : Covers RegName.At 0x10000000000000 W) (h : Writes W s0 s) : Writes W s0 (s.supervisorWrite p i v) := by
  unfold State.supervisorWrite
  exact .ite (.quiet (State.sourceOff_keeps rfl) (.quiet (State.modBus_keeps rfl) (.wrReg (hW.at2 .BUS_SUP) h))) (.quiet (State.modBus_keeps rfl)
      (.wrReg (hW.at2 .BUS_SUP) h))

theorem Writes.portWrite {p a v} (hW : Covers RegName.At 0xA0000081D400000000000000000000000000000000001A000C00000000 W) (ha : W a) (h : Writes W s0 s) :
    Writes W s0 (s.portWrite p a v) := by
  unfold State.portWrite
  refine .ite (.busCtrlWrite hW.sub h) ?_
  exact .ite (.ite h (.wrReg ha h)) (.ite (.supervisorWrite hW.sub h) (.ite (.ite (.rxCfgWrite hW.sub h) (.ite h (.wrReg ha h))) (.ite
      (.wrExcept ha h) (.ite (.ite (.txCfgWrite hW.sub h) (.ite h (.ite (.txTiming hW.sub h) (.ite (.wrExcept ha h) (.wrReg ha h))))) (.ite (.ite h
      (.wrReg ha h)) (.wrReg ha h))))))

theorem Writes.secWrite {a v} (ha : W a) (h : Writes W s0 s) : Writes W s0 (s.secWrite a v) := by
  unfold State.secWrite
  exact .ite h (.ite (.wr ha h) (.ite (.ite h (.setf ha h)) (.wrReg ha h)))

theorem Writes.kprWrite {a v} (ha : W a) (h : Writes W s0 s) : Writes W s0 (s.kprWrite a v) := by
  unfold State.kprWrite
  exact .ite (.wrExcept ha h) (.ite (.wrExcept ha h) (.wrReg ha h))

theorem Writes.blockWrite {core a v} (hW : Covers RegName.At 0x1A0140083D6C500080A000000000000300080102400019A000C00010040 W) (ha : W a) (h : Writes W s0 s) :
    Writes W s0 (s.blockWrite core a v) := by
  unfold State.blockWrite
  refine .ite (.clkWrite ha h) ?_
  refine .ite (.pwrWrite ha h) ?_
  refine .ite (.ite h (.wrReg ha h)) ?_
  refine .ite (.harnWrite hW.sub ha h) ?_
  refine .ite (.mgBlockWrite hW.sub ha h) ?_
  refine .ite (.ite (.genWrite hW.sub ha h) h) ?_
  exact .ite (.trpWrite hW.sub ha h) (.ite (.adcWrite hW.sub ha h) (.ite (.feWrite hW.sub ha h) (.ite (.ceWrite hW.sub ha h) (.ite
      (.gdcWrite hW.sub ha h) (.ite (.portWrite hW.sub ha h) (.ite (.thWrite hW.sub ha h) (.ite (.prcWrite hW.sub ha h) (.ite (.secWrite ha h) (.ite
      (.kprWrite ha h) h)))))))))

end Sys2Proof.Machine
end

section
/-! PROOFS. The parameters of a request in the slot that it takes: COUNTER_READ clears the counter that its parameters name (R53, R461). -/

namespace Sys2Proof.Machine

set_option Elab.async false

variable {s0 s t : State} {ps : List Byte}

/-! ## The bytes of a request -/

section
variable {n seq opcode : Nat} {conf : Bool} {params mac pad : List Byte}

theorem requestBytes_append : requestBytes n seq opcode conf params mac ++ pad =
    requestHead n seq opcode conf params.length ++ (params ++ ((if n = 0 then [] else mac) ++ pad)) := by
  rw [requestBytes_eq]
  simp only [List.append_assoc]

theorem opcode_requestBytes (hop : opcode < 256 ^ 2) : beAt (requestBytes n seq opcode conf params mac ++ pad) 2 2 = opcode := by
  rw [requestBytes_append]
  simp only [requestHead, List.append_assoc]
  rw [← List.append_assoc (Crypto.beBytes 1 _)]
  exact beAt_append (by simp only [List.length_append, beBytes_length]) hop _

theorem length_requestBytes (hlen : params.length < 256 ^ 2) : beAt (requestBytes n seq opcode conf params mac ++ pad) 8 2 = params.length := by
  rw [requestBytes_append]
  simp only [requestHead, List.append_assoc]
  rw [← List.append_assoc (Crypto.beBytes 1 _), ← List.append_assoc _ (Crypto.beBytes 2 opcode), ← List.append_assoc _ (Crypto.beBytes 4 seq)]
  exact beAt_append (by simp only [List.length_append, beBytes_length]) hlen _

/-- What a packet that parses holds. -/
theorem parseRequest_fields {p tEnd : Nat} {xl : Bool} {d : List Byte} {k : Request} (hk : parseRequest p xl tEnd d = some k) :
    k.opcode = beAt d 2 2 ∧ k.params = (d.drop 10).take (beAt d 8 2) := by
  unfold parseRequest at hk
  obtain ⟨-, hk⟩ := Option.ite_none_left_eq_some.mp hk
  obtain rfl := Option.some.inj hk
  exact ⟨rfl, rfl⟩

/-- A packet that parses keeps the opcode and the parameters of its request. -/
theorem parseRequest_params (hop : opcode < 256 ^ 2) (hlen : params.length < 256 ^ 2) {p tEnd : Nat} {xl : Bool} {k : Request}
    (hk : parseRequest p xl tEnd (requestBytes n seq opcode conf params mac ++ pad) = some k) : k.opcode = opcode ∧ k.params = params := by
  obtain ⟨hopcode, hparams⟩ := parseRequest_fields hk
  refine ⟨hopcode.trans (opcode_requestBytes hop), hparams.trans ?_⟩
  rw [length_requestBytes hlen, requestBytes_append, List.drop_left' requestHead_length, List.take_left]

end

theorem padFd_append (l : List Byte) : ∃ pad, padFd l = l ++ pad := by
  unfold padFd
  split
  · exact ⟨_, rfl⟩
  · exact ⟨[], (List.append_nil l).symm⟩

theorem frameLength_le {f : Frame} (h : frameLengthOk f = true) : f.data.length ≤ 2048 := by
  have hfd : ∀ n ∈ fdLengths, n ≤ 2048 := by decide
  unfold frameLengthOk at h
  split at h
  · exact (of_decide_eq_true h).trans (by decide)
  · exact hfd _ (List.contains_iff_mem.mp h)
  · exact of_decide_eq_true (Bool.and_eq_true_iff.mp h).2
  · exact absurd h Bool.false_ne_true

/-! ## The slots that a request takes -/

/-- A slot that is not one of `s0` holds the parameters `ps`. -/
def SlotsFrom (ps : List Byte) (s0 s : State) : Prop := ∀ i x, s.slot i = some x → s0.slot i = some x ∨ x.params = ps

theorem SlotsFrom.refl : SlotsFrom ps s s := fun _ _ hx => .inl hx

theorem SlotsFrom.same (h : SlotsFrom ps s0 s) (ht : t.bridle.slots = s.bridle.slots) : SlotsFrom ps s0 t := fun i x hx => by
  refine h i x ?_
  unfold State.slot at hx ⊢
  rw [← ht]
  exact hx

/-- An operation outside the Bridle engine. -/
theorem SlotsFrom.quiet (hk : Keeps 17592181850111 s s → Keeps 17592181850111 s t) (h : SlotsFrom ps s0 s) : SlotsFrom ps s0 t :=
  h.same (congrArg BridleSt.slots ((hk (Keeps.refl _ s)).bridle rfl))

theorem SlotsFrom.ite {c : Prop} [Decidable c] (h : SlotsFrom ps s0 s) (h' : SlotsFrom ps s0 t) : SlotsFrom ps s0 (if c then s else t) := by
  split
  · exact h
  · exact h'

theorem SlotsFrom.modSess {n : Nat} {f : Sess → Sess} (h : SlotsFrom ps s0 s) : SlotsFrom ps s0 (s.modSess n f) := h.same rfl

theorem SlotsFrom.setSlot {i : Nat} {x : Slot} (hx : x.params = ps) (h : SlotsFrom ps s0 s) : SlotsFrom ps s0 (s.setSlot i (some x)) := by
  intro j y hy
  have hset : (s.bridle.slots.set i (some x)).getD j none = some y := hy
  by_cases hj : i = j ∧ i < s.bridle.slots.length
  · obtain ⟨rfl, hi⟩ := hj
    rw [List.getD_eq_getElem?_getD, List.getElem?_set_self hi] at hset
    exact .inr (Option.some.inj hset ▸ hx)
  · refine h j y ?_
    unfold State.slot
    rw [List.getD_eq_getElem?_getD] at hset ⊢
    rw [List.getElem?_set] at hset
    split at hset
    · next hij =>
      split at hset
      · next hi => exact absurd ⟨hij, hi⟩ hj
      · exact absurd hset (by simp)
    · exact hset

theorem SlotsFrom.closeSession {n : Nat} (h : SlotsFrom ps s0 s) : SlotsFrom ps s0 (s.closeSession n) := by
  have hfreed : SlotsFrom ps s0 ((((s.wr (Reg.BRD_SESS (n - 1)) 0).wr (Reg.BRD_SEQ (n - 1)) 0).modSess n (fun _ => {})).modBridle (fun b => { b with
      subs := b.subs.filter (fun x => x.session ≠ n), reports := b.reports.filter (fun x => x.1 ≠ n) })) := h.same rfl
  unfold State.closeSession
  refine .ite (.quiet (State.irq_keeps rfl) ?_) (.quiet (State.irq_keeps rfl) hfreed)
  exact .quiet (Keeps.set_mode rfl) (.quiet (State.putNat_keeps rfl) hfreed)

theorem SlotsFrom.firstReply {p n seq opcode status time tEnd : Nat} {result : List Byte} (h : SlotsFrom ps s0 s) :
    SlotsFrom ps s0 (s.firstReply p n seq opcode status time result tEnd) := by
  have hcached : ∀ bytes deadline, SlotsFrom ps s0 ((s.postReply p bytes deadline).cacheReply n seq status bytes) := fun bytes deadline => by
    have hposted := h.quiet (State.postReply_keeps (p := p) (bytes := bytes) (deadline := deadline) rfl)
    unfold State.cacheReply
    exact .ite hposted hposted.modSess
  unfold State.firstReply
  exact .ite (hcached _ _) (.ite (.closeSession (.quiet (State.wr_keeps rfl) (hcached _ _))) (.quiet (State.wr_keeps rfl) (hcached _ _)))

theorem SlotsFrom.noSession {k : Request} (h : SlotsFrom ps s0 s) : SlotsFrom ps s0 (s.noSession k) := by
  have hcounted := h.quiet (State.inc_keeps (a := Reg.BRD_CNT_NOSESS) rfl)
  unfold State.noSession
  exact .ite hcounted (.quiet (State.postReply_keeps rfl) (hcounted.same rfl))

theorem SlotsFrom.enqueue {i : Nat} {row : OpRow} {k : Request} (hk : k.params = ps) (h : SlotsFrom ps s0 s) : SlotsFrom ps s0 (s.enqueue i row k) := by
  have hshown := (h.setSlot (i := i) (x := s.newSlot k .queued []) hk).quiet (State.showPacket_keeps (k := i) (bytes := k.bytes) rfl)
  unfold State.enqueue
  refine .ite h.firstReply (.ite h.firstReply (.quiet (State.irq_keeps rfl) (.quiet (State.bridleMirror_keeps rfl) (hshown.same ?_))))
  unfold State.modBridle
  split <;> rfl

/-- The request of a counter waits for its firmware. -/
theorem SlotsFrom.runRequest {i : Nat} {k : Request} (hop : k.opcode = 0x9010) (hk : k.params = ps) (h : SlotsFrom ps s0 s) : SlotsFrom ps s0 (s.runRequest i k) := by
  have hrow : s.opPresent k.opcode = some ⟨.fwA, 1, 1⟩ := by
    unfold State.opPresent
    rw [hop]
    exact if_neg (by simp)
  unfold State.runRequest
  rw [hrow]
  exact h.enqueue hk

theorem SlotsFrom.sequenced {i : Nat} {k : Request} (hop : k.opcode = 0x9010) (hk : k.params = ps) (h : SlotsFrom ps s0 s) : SlotsFrom ps s0 (s.sequenced i k) := by
  unfold State.sequenced
  refine .ite (h.runRequest hop hk) (.ite (.quiet (State.inc_keeps rfl) h) (.ite (h.runRequest hop hk) ?_))
  split
  · exact .quiet (State.inc_keeps rfl) (.quiet (State.postReply_keeps rfl) h)
  · exact .quiet (State.inc_keeps rfl) h.firstReply

theorem SlotsFrom.checkRequest {k : Request} (hop : k.opcode = 0x9010) (hk : k.params = ps) (h : SlotsFrom ps s0 s) : SlotsFrom ps s0 (s.checkRequest k) := by
  have hdated : SlotsFrom ps s0 (if k.n = 0 then s else s.modSess k.n (fun x => { x with last := s.dtb })) := .ite h h.modSess
  unfold State.checkRequest
  refine .ite h.noSession (.ite (.quiet (State.inc_keeps rfl) h) ?_)
  dsimp only
  generalize (if k.n = 0 then s else s.modSess k.n (fun x => { x with last := s.dtb })) = u at hdated ⊢
  split
  · exact .quiet (State.inc_keeps rfl) hdated.firstReply
  · exact hdated.sequenced hop hk

section
variable {p n seq : Nat} {xl conf : Bool} {params mac : List Byte}

theorem SlotsFrom.bridlePacket (hlen : params.length < 256 ^ 2) {pad : List Byte} (h : SlotsFrom params s0 s) :
    SlotsFrom params s0 (s.bridlePacket p xl (requestBytes n seq 0x9010 conf params mac ++ pad)) := by
  unfold State.bridlePacket
  refine .ite h ?_
  split
  · exact .quiet (State.inc_keeps rfl) h
  · next k hk =>
    obtain ⟨hop, hps⟩ := parseRequest_params (by decide) hlen hk
    exact h.checkRequest hop hps

/-- The frame that carries a request holds its bytes, padded. -/
theorem requestFrame_data (s : State) (bytes : List Byte) : ∃ pad, (s.requestFrame p xl bytes).data = bytes ++ pad := by
  unfold State.requestFrame
  cases xl with
  | true => exact ⟨[], (List.append_nil bytes).symm⟩
  | false => exact padFd_append bytes

theorem SlotsFrom.request (s : State) : SlotsFrom params s (s.request p xl n seq 0x9010 conf params mac) := by
  obtain ⟨pad, hdata⟩ := requestFrame_data (p := p) (xl := xl) s (requestBytes n seq 0x9010 conf params mac)
  unfold State.request
  dsimp only
  split
  · next hok =>
    have hlength := frameLength_le (Bool.and_eq_true_iff.mp hok).2
    have hlen : params.length < 256 ^ 2 := by
      rw [hdata, requestBytes_append] at hlength
      simp only [List.length_append] at hlength
      omega
    have hgood : SlotsFrom params s ((s.inc (Reg.BUS_CNT_RX p)).rxGood p) := .quiet (State.rxGood_keeps rfl) (.quiet (State.inc_keeps rfl) .refl)
    unfold State.receiveFrame
    refine .quiet (State.frameEnd_keeps rfl) (.ite (.ite (.quiet (State.inc_keeps rfl) hgood) ?_) (.quiet (State.receiveObject_keeps rfl) hgood))
    rw [hdata]
    exact hgood.bridlePacket hlen
  · exact .refl

/-- The slot that was free holds the parameters of the counter's request. -/
theorem request_params {i : Nat} {x : Slot} (hfree : s.slotFree = some i)
    (hx : (s.request p xl n seq 0x9010 conf params mac).slot i = some x) : x.params = params := by
  have hnone : s.slot i = none := Option.isNone_iff_eq_none.mp (List.find?_some (p := fun k => (s.slot k).isNone) hfree)
  rcases SlotsFrom.request s i x hx with hold | hnew
  · rw [hnone] at hold
    cases hold
  · exact hnew

end

end Sys2Proof.Machine
end

section
/-! PROOFS. The registers that the operations of the firmware, Bridle and bus commands write. -/

namespace Sys2Proof.Machine

set_option Elab.async false

variable {W : Nat → Prop} {s0 s t : State} {ws : List (Nat → Prop)}

/-! ## FirmwareOps -/

theorem Writes.endSlot {i x status time result} (hW : Covers RegName.At 0x1D4000000000000000000000000000000000000002C00000000 W) (h : Writes W s0 s) :
    Writes W s0 (s.endSlot i x status time result) := by
  unfold State.endSlot
  exact .firstReply hW.sub (.freeSlot hW.sub h)

theorem Writes.brdErr (hW : Covers RegName.At 0x2000000000 W) (h : Writes W s0 s) : Writes W s0 s.brdErr := by
  unfold State.brdErr
  exact .setf (hW.at0 .BRD_STAT) h

theorem Writes.fwAnswer {i x status target lat} (hW : Covers RegName.At 0x1D4000000000000000000000000000000000000002C02000000 W) (h : Writes W s0 s) :
    Writes W s0 (s.fwAnswer i x status target lat) := by
  unfold State.fwAnswer
  exact .ite (.ite (.endSlot hW.sub h) (.takeIn hW.sub (.quiet (State.modSlot_keeps rfl) h))) (.ite (.endSlot hW.sub h) (.ite (.endSlot hW.sub h)
      (.brdErr hW.sub h)))

theorem Writes.fwTake {i} (hW : Covers RegName.At 0x2000000000 W) (h : Writes W s0 s) : Writes W s0 (s.fwTake i) := by
  unfold State.fwTake
  exact .bridleMirror hW.sub (.modBridle (.each h (fun _ _ h2 => .quiet (State.modSlot_keeps rfl) h2)))

theorem Writes.fwTimeout {i x} (hW : Covers RegName.At 0x1D4000000000000000000000000000000000000002C01000000 W) (h : Writes W s0 s) :
    Writes W s0 (s.fwTimeout i x) := by
  unfold State.fwTimeout
  exact .inc (hW.at0 .BRD_CNT_FWLATE) (.endSlot hW.sub h)

theorem Writes.putResult {i l} (hW : Covers RegName.At 0x200000000 W) (h : Writes W s0 s) : Writes W s0 (s.putResult i l) := by
  unfold State.putResult
  exact .quiet (State.modSlot_keeps rfl) (.forN h (fun _ _ h2 => .wr (hW.at2 .BRD_RSLT) h2))

theorem Writes.readClear {a : Nat} {v : Word} (ha : W a) (ht : s.readClear a = some (v, t)) (h : Writes W s0 s) : Writes W s0 t := by
  unfold State.readClear at ht
  split at ht
  · split at ht
    · cases ht
    · cases ht
      exact .wr ha h
  · cases ht

theorem Writes.fwCounterRead {k} (ha : k.params.length = 4 → W (beAt k.params 0 4)) (h : Writes W s0 s) : Writes W s0 (s.fwCounterRead k).1 := by
  unfold State.fwCounterRead
  dsimp only
  split
  · exact h
  · next hlen =>
    split
    · exact h
    · next v t ht =>
      split
      · exact .readClear (ha (not_not.mp hlen)) ht h
      · exact h

theorem Writes.fwChecks {row k cfg offs} (hW : Covers RegName.At 0x2000000008000003A0C82000000000000F01020000000000000000000 W) (ha : k.opcode = 0x9010 → k.params.length = 4 → W (beAt k.params 0 4)) (h : Writes W s0 s) :
    Writes W s0 (s.fwChecks row k cfg offs).1 := by
  unfold State.fwChecks
  dsimp only
  split
  · exact h
  · split
    · exact h
    · split
      · exact h
      · exact h
      · split
        · exact h
        · exact .mgClear hW.sub h
      · exact h
      · exact h
      · exact h
      · exact h
      · exact .quiet (State.fwAttest_keeps rfl) h
      · exact h
      · exact .fwCounterRead (ha ‹_›) h
      · split
        · exact h
        · exact .probeRequest hW.sub (.setf (hW.at0 .GDC_PRB) h)
      · exact h
      · exact h
      · exact h

theorem Writes.fwServe {i cfg offs t lat} (hW : Covers RegName.At 0x2000001D48000003A0C82000000000000F01020000000002E03000000 W) (hx : ∀ x, s.slot i = some x → x.opcode = 0x9010 → x.params.length = 4 → W (beAt x.params 0 4)) (h : Writes W s0 s) :
    Writes W s0 (s.fwServe i cfg offs t lat) := by
  unfold State.fwServe
  split
  · next x row hslot _ =>
    refine .ite h (.ite (.fwTimeout hW.sub (.quiet (State.reach_keeps rfl) h)) ?_)
    have hchecked : Writes W s0 (((s.reach (x.entered + t)).fwTake i).fwChecks row x.request cfg offs).1 :=
      .fwChecks hW.sub (hx x hslot) (.fwTake hW.sub (.quiet (State.reach_keeps rfl) h))
    generalize ((s.reach (x.entered + t)).fwTake i).fwChecks row x.request cfg offs = p at hchecked ⊢
    obtain ⟨s1, a⟩ := p
    dsimp only at hchecked ⊢
    have hput : Writes W s0 ((s1.modSlot i (fun y => { y with writes := a.ask.writes, cfg := a.cfg, params := a.params.getD y.params })).putResult i a.ask.result) :=
      .putResult hW.sub (.quiet (State.modSlot_keeps rfl) hchecked)
    generalize (s1.modSlot i (fun y => { y with writes := a.ask.writes, cfg := a.cfg, params := a.params.getD y.params })).putResult i a.ask.result = s2 at hput ⊢
    split
    · exact hput
    · split
      · exact .ite (.quiet (State.program_keeps rfl) (.fwAnswer hW.sub hput)) (.fwAnswer hW.sub hput)
      · exact .fwAnswer hW.sub hput
  · exact h

theorem Writes.fwRequest {p xl n seq opcode conf params mac ans cfg offs} (hW : Covers RegName.At 0x2000101D48000003A0C82000000000000F0102000000DCC3F5FE00000 W) (ha : opcode = 0x9010 → W (beAt params 0 4)) (h : Writes W s0 s) :
    Writes W s0 (s.fwRequest p xl n seq opcode conf params mac ans cfg offs) := by
  have hasked : Writes W s0 (s.request p xl n seq opcode conf params mac) := .request hW.sub h
  unfold State.fwRequest
  dsimp only
  split
  · next i _ _ hfree =>
    split
    · next hqueued =>
      refine .fwServe hW.sub (fun x hx hop _ => ?_) hasked
      rw [hx] at hqueued
      obtain ⟨-, hopcode⟩ := Bool.and_eq_true_iff.mp hqueued
      obtain rfl := (of_decide_eq_true hopcode).symm.trans hop
      rw [request_params hfree hx]
      exact ha rfl
    · exact hasked
  · exact hasked

/-! ## Bridle -/

theorem Writes.fwqRead {core safety} (hW : Covers RegName.At 0x2000000000 W) (h : Writes W s0 s) : Writes W s0 (s.fwqRead core safety) := by
  unfold State.fwqRead
  refine .ite (.quiet (State.accessFault_keeps rfl) h) ?_
  split
  · exact .quiet (State.returns_keeps rfl) h
  · exact .quiet (State.returns_keeps rfl) (.fwTake hW.sub h)

theorem execAttest_writes {p n seq conf xl params mac ans} (h : s.Inv) (hws : (Instr.attest p n seq conf xl params mac ans).registers = some ws) :
    Reaches (Writes (Listed ws) s) (execAttest p n seq conf xl params mac ans s) := by
  obtain ⟨ha, hW⟩ := covers_listed_at (M := 0x2000101D48000003A0C82000000000000F0102000000DCC3F5FE00000) hws rfl
  unfold execAttest
  exact .ofUnit (fun _ => .fwRequest hW.sub (fun _ => ha) (.refl h))

theorem execAuthLockEnd_writes {l} (h : s.Inv) (hws : (Instr.authLockEnd l).registers = some ws) :
    Reaches (Writes (Listed ws) s) (execAuthLockEnd l s) := by
  have hW := covers_listed (at_ := RegName.At) (M := 0x100000000) hws rfl
  unfold execAuthLockEnd
  exact .ofUnit (fun _ => .ite (.setf (hW.at1 .BRD_LOCK) (.quiet (State.reachRtc_keeps rfl) (.refl h))) (.refl h))

theorem execBrdFwqRead_writes {core safety} (h : s.Inv) (hws : (Instr.brdFwqRead core safety).registers = some ws) :
    Reaches (Writes (Listed ws) s) (execBrdFwqRead core safety s) := by
  have hW := covers_listed (at_ := RegName.At) (M := 0x2000000000) hws rfl
  unfold execBrdFwqRead
  exact .ofUnit (fun _ => .access (.refl h) (fun _ h2 => .fwqRead hW.sub h2))

theorem execBridleDisable_writes {core} (h : s.Inv) (hws : (Instr.bridleDisable core).registers = some ws) :
    Reaches (Writes (Listed ws) s) (execBridleDisable core s) := by
  have hW := covers_listed (at_ := RegName.At) (M := 0x1D4000000000000000000000000000000000000002C80000000) hws rfl
  unfold execBridleDisable
  exact .ofUnit (fun _ => .access (.refl h) (fun _ h2 => .forN (.forN (.setf (hW.at0 .BRD_CTRL) h2) (fun _ _ h4 => .ite h4 (.closeSession hW.sub h4)))
      (fun _ _ h6 => .freeSlot hW.sub h6)))

theorem execCapRead_writes {p n seq conf xl params mac} (h : s.Inv) (hws : (Instr.capRead p n seq conf xl params mac).registers = some ws) :
    Reaches (Writes (Listed ws) s) (execCapRead p n seq conf xl params mac s) := by
  have hW := covers_listed (at_ := RegName.At) (M := 0x101D400000000000000000000000000000000000DCC3D5EE00000) hws rfl
  unfold execCapRead
  exact .ofUnit (fun _ => .request hW.sub (.refl h))

theorem execClearLockout_writes {p n seq conf xl params mac ans} (h : s.Inv) (hws : (Instr.clearLockout p n seq conf xl params mac ans).registers = some ws) :
    Reaches (Writes (Listed ws) s) (execClearLockout p n seq conf xl params mac ans s) := by
  obtain ⟨ha, hW⟩ := covers_listed_at (M := 0x2000101D48000003A0C82000000000000F0102000000DCC3F5FE00000) hws rfl
  unfold execClearLockout
  exact .ofUnit (fun _ => .fwRequest hW.sub (fun _ => ha) (.refl h))

theorem execClutchReq_writes {p n seq conf xl params mac ans} (h : s.Inv) (hws : (Instr.clutchReq p n seq conf xl params mac ans).registers = some ws) :
    Reaches (Writes (Listed ws) s) (execClutchReq p n seq conf xl params mac ans s) := by
  obtain ⟨ha, hW⟩ := covers_listed_at (M := 0x2000101D48000003A0C82000000000000F0102000000DCC3F5FE00000) hws rfl
  unfold execClutchReq
  exact .ofUnit (fun _ => .fwRequest hW.sub (fun _ => ha) (.refl h))

theorem execCounterRead_writes {p n seq conf xl params mac ans} (h : s.Inv) (hws : (Instr.counterRead p n seq conf xl params mac ans).registers = some ws) :
    Reaches (Writes (Listed ws) s) (execCounterRead p n seq conf xl params mac ans s) := by
  obtain ⟨ha, hW⟩ := covers_listed_at (M := 0x2000101D48000003A0C82000000000000F0102000000DCC3F5FE00000) hws rfl
  unfold execCounterRead
  exact .ofUnit (fun _ => .fwRequest hW.sub (fun _ => ha) (.refl h))

theorem execFirmwareAnswer_writes {core v} (h : s.Inv) (hws : (Instr.firmwareAnswer core v).registers = some ws) :
    Reaches (Writes (Listed ws) s) (execFirmwareAnswer core v s) := by
  have hW := covers_listed (at_ := RegName.At) (M := 0x1D4000000000000000000000000000000000000002C02000000) hws rfl
  unfold execFirmwareAnswer
  refine .ofUnit (fun _ => .access (.refl h) ?_)
  intro _ h2
  dsimp only
  split
  · exact .fwAnswer hW.sub h2
  · exact .brdErr hW.sub h2

theorem execFirmwareAnswerTimeout_writes {idx} (h : s.Inv) (hws : (Instr.firmwareAnswerTimeout idx).registers = some ws) :
    Reaches (Writes (Listed ws) s) (execFirmwareAnswerTimeout idx s) := by
  have hW := covers_listed (at_ := RegName.At) (M := 0x1D4000000000000000000000000000000000000002C01000000) hws rfl
  unfold execFirmwareAnswerTimeout
  refine .ofUnit (fun _ => ?_)
  split
  · exact .ite (.refl h) (.fwTimeout hW.sub (.quiet (State.reach_keeps rfl) (.refl h)))
  · exact .refl h

theorem execFirmwarePendingWrite_writes {core v} (h : s.Inv) (hws : (Instr.firmwarePendingWrite core v).registers = some ws) :
    Reaches (Writes (Listed ws) s) (execFirmwarePendingWrite core v s) := by
  have hW := covers_listed (at_ := RegName.At) (M := 0x2000000000) hws rfl
  unfold execFirmwarePendingWrite
  refine .ofUnit (fun _ => .access (.refl h) ?_)
  intro _ h2
  dsimp only
  split
  · exact .ite (.quiet (State.modSlot_keeps rfl) h2) (.brdErr hW.sub h2)
  · exact .brdErr hW.sub h2

theorem execFirmwareWorkDone_writes {core v} (h : s.Inv) (hws : (Instr.firmwareWorkDone core v).registers = some ws) :
    Reaches (Writes (Listed ws) s) (execFirmwareWorkDone core v s) := by
  have hW := covers_listed (at_ := RegName.At) (M := 0x2000000000) hws rfl
  unfold execFirmwareWorkDone
  refine .ofUnit (fun _ => .access (.refl h) ?_)
  intro _ h2
  dsimp only
  split
  · exact .quiet (State.modSlot_keeps rfl) h2
  · exact .brdErr hW.sub h2

theorem execFwActivate_writes {p n seq conf xl params mac ans offs} (h : s.Inv) (hws : (Instr.fwActivate p n seq conf xl params mac ans offs).registers = some ws) :
    Reaches (Writes (Listed ws) s) (execFwActivate p n seq conf xl params mac ans offs s) := by
  obtain ⟨ha, hW⟩ := covers_listed_at (M := 0x2000101D48000003A0C82000000000000F0102000000DCC3F5FE00000) hws rfl
  unfold execFwActivate
  exact .ofUnit (fun _ => .fwRequest hW.sub (fun _ => ha) (.refl h))

theorem execFwBlock_writes {p n seq conf xl params mac ans} (h : s.Inv) (hws : (Instr.fwBlock p n seq conf xl params mac ans).registers = some ws) :
    Reaches (Writes (Listed ws) s) (execFwBlock p n seq conf xl params mac ans s) := by
  obtain ⟨ha, hW⟩ := covers_listed_at (M := 0x2000101D48000003A0C82000000000000F0102000000DCC3F5FE00000) hws rfl
  unfold execFwBlock
  exact .ofUnit (fun _ => .fwRequest hW.sub (fun _ => ha) (.refl h))

theorem execKeyWrite_writes {p n seq conf xl params mac ans} (h : s.Inv) (hws : (Instr.keyWrite p n seq conf xl params mac ans).registers = some ws) :
    Reaches (Writes (Listed ws) s) (execKeyWrite p n seq conf xl params mac ans s) := by
  obtain ⟨ha, hW⟩ := covers_listed_at (M := 0x2000101D48000003A0C82000000000000F0102000000DCC3F5FE00000) hws rfl
  unfold execKeyWrite
  exact .ofUnit (fun _ => .fwRequest hW.sub (fun _ => ha) (.refl h))

theorem execLvClear_writes {p n seq conf xl params mac} (h : s.Inv) (hws : (Instr.lvClear p n seq conf xl params mac).registers = some ws) :
    Reaches (Writes (Listed ws) s) (execLvClear p n seq conf xl params mac s) := by
  have hW := covers_listed (at_ := RegName.At) (M := 0x101D400000000000000000000000000000000000DCC3D5EE00000) hws rfl
  unfold execLvClear
  exact .ofUnit (fun _ => .request hW.sub (.refl h))

theorem execNvmRead_writes {p n seq conf xl params mac ans} (h : s.Inv) (hws : (Instr.nvmRead p n seq conf xl params mac ans).registers = some ws) :
    Reaches (Writes (Listed ws) s) (execNvmRead p n seq conf xl params mac ans s) := by
  obtain ⟨ha, hW⟩ := covers_listed_at (M := 0x2000101D48000003A0C82000000000000F0102000000DCC3F5FE00000) hws rfl
  unfold execNvmRead
  exact .ofUnit (fun _ => .fwRequest hW.sub (fun _ => ha) (.refl h))

theorem execNvmWrite_writes {p n seq conf xl params mac ans} (h : s.Inv) (hws : (Instr.nvmWrite p n seq conf xl params mac ans).registers = some ws) :
    Reaches (Writes (Listed ws) s) (execNvmWrite p n seq conf xl params mac ans s) := by
  obtain ⟨ha, hW⟩ := covers_listed_at (M := 0x2000101D48000003A0C82000000000000F0102000000DCC3F5FE00000) hws rfl
  unfold execNvmWrite
  exact .ofUnit (fun _ => .fwRequest hW.sub (fun _ => ha) (.refl h))

theorem execParkReq_writes {p n seq conf xl params mac ans} (h : s.Inv) (hws : (Instr.parkReq p n seq conf xl params mac ans).registers = some ws) :
    Reaches (Writes (Listed ws) s) (execParkReq p n seq conf xl params mac ans s) := by
  obtain ⟨ha, hW⟩ := covers_listed_at (M := 0x2000101D48000003A0C82000000000000F0102000000DCC3F5FE00000) hws rfl
  unfold execParkReq
  exact .ofUnit (fun _ => .fwRequest hW.sub (fun _ => ha) (.refl h))

theorem execPing_writes {p n seq conf xl params mac} (h : s.Inv) (hws : (Instr.ping p n seq conf xl params mac).registers = some ws) :
    Reaches (Writes (Listed ws) s) (execPing p n seq conf xl params mac s) := by
  have hW := covers_listed (at_ := RegName.At) (M := 0x101D400000000000000000000000000000000000DCC3D5EE00000) hws rfl
  unfold execPing
  exact .ofUnit (fun _ => .request hW.sub (.refl h))

theorem execProbeStart_writes {p n seq conf xl params mac ans} (h : s.Inv) (hws : (Instr.probeStart p n seq conf xl params mac ans).registers = some ws) :
    Reaches (Writes (Listed ws) s) (execProbeStart p n seq conf xl params mac ans s) := by
  obtain ⟨ha, hW⟩ := covers_listed_at (M := 0x2000101D48000003A0C82000000000000F0102000000DCC3F5FE00000) hws rfl
  unfold execProbeStart
  exact .ofUnit (fun _ => .fwRequest hW.sub (fun _ => ha) (.refl h))

theorem execPumpDemand_writes {p n seq conf xl params mac ans} (h : s.Inv) (hws : (Instr.pumpDemand p n seq conf xl params mac ans).registers = some ws) :
    Reaches (Writes (Listed ws) s) (execPumpDemand p n seq conf xl params mac ans s) := by
  obtain ⟨ha, hW⟩ := covers_listed_at (M := 0x2000101D48000003A0C82000000000000F0102000000DCC3F5FE00000) hws rfl
  unfold execPumpDemand
  exact .ofUnit (fun _ => .fwRequest hW.sub (fun _ => ha) (.refl h))

theorem execSafetyCfg_writes {p n seq conf xl params mac ans cfg} (h : s.Inv) (hws : (Instr.safetyCfg p n seq conf xl params mac ans cfg).registers = some ws) :
    Reaches (Writes (Listed ws) s) (execSafetyCfg p n seq conf xl params mac ans cfg s) := by
  obtain ⟨ha, hW⟩ := covers_listed_at (M := 0x2000101D48000003A0C82000000000000F0102000000DCC3F5FE00000) hws rfl
  unfold execSafetyCfg
  exact .ofUnit (fun _ => .fwRequest hW.sub (fun _ => ha) (.refl h))

theorem execSafetyClear_writes {p n seq conf xl params mac ans} (h : s.Inv) (hws : (Instr.safetyClear p n seq conf xl params mac ans).registers = some ws) :
    Reaches (Writes (Listed ws) s) (execSafetyClear p n seq conf xl params mac ans s) := by
  obtain ⟨ha, hW⟩ := covers_listed_at (M := 0x2000101D48000003A0C82000000000000F0102000000DCC3F5FE00000) hws rfl
  unfold execSafetyClear
  exact .ofUnit (fun _ => .fwRequest hW.sub (fun _ => ha) (.refl h))

theorem execSessionClose_writes {p n seq conf xl params mac} (h : s.Inv) (hws : (Instr.sessionClose p n seq conf xl params mac).registers = some ws) :
    Reaches (Writes (Listed ws) s) (execSessionClose p n seq conf xl params mac s) := by
  have hW := covers_listed (at_ := RegName.At) (M := 0x101D400000000000000000000000000000000000DCC3D5EE00000) hws rfl
  unfold execSessionClose
  exact .ofUnit (fun _ => .request hW.sub (.refl h))

theorem execSessionIdleTimeout_writes {n} (h : s.Inv) (hws : (Instr.sessionIdleTimeout n).registers = some ws) :
    Reaches (Writes (Listed ws) s) (execSessionIdleTimeout n s) := by
  have hW := covers_listed (at_ := RegName.At) (M := 0x1D4000000000000000000000000000000000000000C00000000) hws rfl
  unfold execSessionIdleTimeout
  exact .ofUnit (fun _ => .ite (.closeSession hW.sub (.quiet (State.reach_keeps rfl) (.refl h))) (.refl h))

theorem execSessionOpen_writes {p n seq conf xl params mac} (h : s.Inv) (hws : (Instr.sessionOpen p n seq conf xl params mac).registers = some ws) :
    Reaches (Writes (Listed ws) s) (execSessionOpen p n seq conf xl params mac s) := by
  have hW := covers_listed (at_ := RegName.At) (M := 0x101D400000000000000000000000000000000000DCC3D5EE00000) hws rfl
  unfold execSessionOpen
  exact .ofUnit (fun _ => .request hW.sub (.refl h))

theorem execSessionOpenTimeout_writes {n} (h : s.Inv) (hws : (Instr.sessionOpenTimeout n).registers = some ws) :
    Reaches (Writes (Listed ws) s) (execSessionOpenTimeout n s) := by
  have hW := covers_listed (at_ := RegName.At) (M := 0x1D4000000000000000000000000000000000000000C00000000) hws rfl
  unfold execSessionOpenTimeout
  exact .ofUnit (fun _ => .ite (.closeSession hW.sub (.quiet (State.reach_keeps rfl) (.refl h))) (.refl h))

theorem execSessionProof_writes {p n seq conf xl params mac} (h : s.Inv) (hws : (Instr.sessionProof p n seq conf xl params mac).registers = some ws) :
    Reaches (Writes (Listed ws) s) (execSessionProof p n seq conf xl params mac s) := by
  have hW := covers_listed (at_ := RegName.At) (M := 0x101D400000000000000000000000000000000000DCC3D5EE00000) hws rfl
  unfold execSessionProof
  exact .ofUnit (fun _ => .request hW.sub (.refl h))

theorem execSetChargeLimits_writes {p n seq conf xl params mac ans} (h : s.Inv) (hws : (Instr.setChargeLimits p n seq conf xl params mac ans).registers = some ws) :
    Reaches (Writes (Listed ws) s) (execSetChargeLimits p n seq conf xl params mac ans s) := by
  obtain ⟨ha, hW⟩ := covers_listed_at (M := 0x2000101D48000003A0C82000000000000F0102000000DCC3F5FE00000) hws rfl
  unfold execSetChargeLimits
  exact .ofUnit (fun _ => .fwRequest hW.sub (fun _ => ha) (.refl h))

theorem execSetCtrlMode_writes {p n seq conf xl params mac} (h : s.Inv) (hws : (Instr.setCtrlMode p n seq conf xl params mac).registers = some ws) :
    Reaches (Writes (Listed ws) s) (execSetCtrlMode p n seq conf xl params mac s) := by
  have hW := covers_listed (at_ := RegName.At) (M := 0x101D400000000000000000000000000000000000DCC3D5EE00000) hws rfl
  unfold execSetCtrlMode
  exact .ofUnit (fun _ => .request hW.sub (.refl h))

theorem execSetDirection_writes {p n seq conf xl params mac} (h : s.Inv) (hws : (Instr.setDirection p n seq conf xl params mac).registers = some ws) :
    Reaches (Writes (Listed ws) s) (execSetDirection p n seq conf xl params mac s) := by
  have hW := covers_listed (at_ := RegName.At) (M := 0x101D400000000000000000000000000000000000DCC3D5EE00000) hws rfl
  unfold execSetDirection
  exact .ofUnit (fun _ => .request hW.sub (.refl h))

theorem execSetInputLimit_writes {p n seq conf xl params mac ans} (h : s.Inv) (hws : (Instr.setInputLimit p n seq conf xl params mac ans).registers = some ws) :
    Reaches (Writes (Listed ws) s) (execSetInputLimit p n seq conf xl params mac ans s) := by
  obtain ⟨ha, hW⟩ := covers_listed_at (M := 0x2000101D48000003A0C82000000000000F0102000000DCC3F5FE00000) hws rfl
  unfold execSetInputLimit
  exact .ofUnit (fun _ => .fwRequest hW.sub (fun _ => ha) (.refl h))

theorem execSetLvRun_writes {p n seq conf xl params mac} (h : s.Inv) (hws : (Instr.setLvRun p n seq conf xl params mac).registers = some ws) :
    Reaches (Writes (Listed ws) s) (execSetLvRun p n seq conf xl params mac s) := by
  have hW := covers_listed (at_ := RegName.At) (M := 0x101D400000000000000000000000000000000000DCC3D5EE00000) hws rfl
  unfold execSetLvRun
  exact .ofUnit (fun _ => .request hW.sub (.refl h))

theorem execSetMode_writes {p n seq conf xl params mac} (h : s.Inv) (hws : (Instr.setMode p n seq conf xl params mac).registers = some ws) :
    Reaches (Writes (Listed ws) s) (execSetMode p n seq conf xl params mac s) := by
  have hW := covers_listed (at_ := RegName.At) (M := 0x101D400000000000000000000000000000000000DCC3D5EE00000) hws rfl
  unfold execSetMode
  exact .ofUnit (fun _ => .request hW.sub (.refl h))

theorem execSetNetVoltage_writes {p n seq conf xl params mac} (h : s.Inv) (hws : (Instr.setNetVoltage p n seq conf xl params mac).registers = some ws) :
    Reaches (Writes (Listed ws) s) (execSetNetVoltage p n seq conf xl params mac s) := by
  have hW := covers_listed (at_ := RegName.At) (M := 0x101D400000000000000000000000000000000000DCC3D5EE00000) hws rfl
  unfold execSetNetVoltage
  exact .ofUnit (fun _ => .request hW.sub (.refl h))

theorem execSetSpeed_writes {p n seq conf xl params mac} (h : s.Inv) (hws : (Instr.setSpeed p n seq conf xl params mac).registers = some ws) :
    Reaches (Writes (Listed ws) s) (execSetSpeed p n seq conf xl params mac s) := by
  have hW := covers_listed (at_ := RegName.At) (M := 0x101D400000000000000000000000000000000000DCC3D5EE00000) hws rfl
  unfold execSetSpeed
  exact .ofUnit (fun _ => .request hW.sub (.refl h))

theorem execSetSupply_writes {p n seq conf xl params mac ans} (h : s.Inv) (hws : (Instr.setSupply p n seq conf xl params mac ans).registers = some ws) :
    Reaches (Writes (Listed ws) s) (execSetSupply p n seq conf xl params mac ans s) := by
  obtain ⟨ha, hW⟩ := covers_listed_at (M := 0x2000101D48000003A0C82000000000000F0102000000DCC3F5FE00000) hws rfl
  unfold execSetSupply
  exact .ofUnit (fun _ => .fwRequest hW.sub (fun _ => ha) (.refl h))

theorem execSetTorque_writes {p n seq conf xl params mac} (h : s.Inv) (hws : (Instr.setTorque p n seq conf xl params mac).registers = some ws) :
    Reaches (Writes (Listed ws) s) (execSetTorque p n seq conf xl params mac s) := by
  have hW := covers_listed (at_ := RegName.At) (M := 0x101D400000000000000000000000000000000000DCC3D5EE00000) hws rfl
  unfold execSetTorque
  exact .ofUnit (fun _ => .request hW.sub (.refl h))

theorem execSetTorqueLimits_writes {p n seq conf xl params mac} (h : s.Inv) (hws : (Instr.setTorqueLimits p n seq conf xl params mac).registers = some ws) :
    Reaches (Writes (Listed ws) s) (execSetTorqueLimits p n seq conf xl params mac s) := by
  have hW := covers_listed (at_ := RegName.At) (M := 0x101D400000000000000000000000000000000000DCC3D5EE00000) hws rfl
  unfold execSetTorqueLimits
  exact .ofUnit (fun _ => .request hW.sub (.refl h))

theorem execShiftTo_writes {p n seq conf xl params mac ans} (h : s.Inv) (hws : (Instr.shiftTo p n seq conf xl params mac ans).registers = some ws) :
    Reaches (Writes (Listed ws) s) (execShiftTo p n seq conf xl params mac ans s) := by
  obtain ⟨ha, hW⟩ := covers_listed_at (M := 0x2000101D48000003A0C82000000000000F0102000000DCC3F5FE00000) hws rfl
  unfold execShiftTo
  exact .ofUnit (fun _ => .fwRequest hW.sub (fun _ => ha) (.refl h))

theorem execSigRead_writes {p n seq conf xl params mac} (h : s.Inv) (hws : (Instr.sigRead p n seq conf xl params mac).registers = some ws) :
    Reaches (Writes (Listed ws) s) (execSigRead p n seq conf xl params mac s) := by
  have hW := covers_listed (at_ := RegName.At) (M := 0x101D400000000000000000000000000000000000DCC3D5EE00000) hws rfl
  unfold execSigRead
  exact .ofUnit (fun _ => .request hW.sub (.refl h))

theorem execSigSubscribe_writes {p n seq conf xl params mac} (h : s.Inv) (hws : (Instr.sigSubscribe p n seq conf xl params mac).registers = some ws) :
    Reaches (Writes (Listed ws) s) (execSigSubscribe p n seq conf xl params mac s) := by
  have hW := covers_listed (at_ := RegName.At) (M := 0x101D400000000000000000000000000000000000DCC3D5EE00000) hws rfl
  unfold execSigSubscribe
  exact .ofUnit (fun _ => .request hW.sub (.refl h))

theorem execSigUnsubscribe_writes {p n seq conf xl params mac} (h : s.Inv) (hws : (Instr.sigUnsubscribe p n seq conf xl params mac).registers = some ws) :
    Reaches (Writes (Listed ws) s) (execSigUnsubscribe p n seq conf xl params mac s) := by
  have hW := covers_listed (at_ := RegName.At) (M := 0x101D400000000000000000000000000000000000DCC3D5EE00000) hws rfl
  unfold execSigUnsubscribe
  exact .ofUnit (fun _ => .request hW.sub (.refl h))

theorem execSigWrite_writes {p n seq conf xl params mac} (h : s.Inv) (hws : (Instr.sigWrite p n seq conf xl params mac).registers = some ws) :
    Reaches (Writes (Listed ws) s) (execSigWrite p n seq conf xl params mac s) := by
  have hW := covers_listed (at_ := RegName.At) (M := 0x101D400000000000000000000000000000000000DCC3D5EE00000) hws rfl
  unfold execSigWrite
  exact .ofUnit (fun _ => .request hW.sub (.refl h))

theorem execSwReset_writes {p n seq conf xl params mac ans} (h : s.Inv) (hws : (Instr.swReset p n seq conf xl params mac ans).registers = some ws) :
    Reaches (Writes (Listed ws) s) (execSwReset p n seq conf xl params mac ans s) := by
  obtain ⟨ha, hW⟩ := covers_listed_at (M := 0x2000101D48000003A0C82000000000000F0102000000DCC3F5FE00000) hws rfl
  unfold execSwReset
  exact .ofUnit (fun _ => .fwRequest hW.sub (fun _ => ha) (.refl h))

theorem execTraceCfg_writes {p n seq conf xl params mac ans} (h : s.Inv) (hws : (Instr.traceCfg p n seq conf xl params mac ans).registers = some ws) :
    Reaches (Writes (Listed ws) s) (execTraceCfg p n seq conf xl params mac ans s) := by
  obtain ⟨ha, hW⟩ := covers_listed_at (M := 0x2000101D48000003A0C82000000000000F0102000000DCC3F5FE00000) hws rfl
  unfold execTraceCfg
  exact .ofUnit (fun _ => .fwRequest hW.sub (fun _ => ha) (.refl h))

theorem execTraceRead_writes {p n seq conf xl params mac ans} (h : s.Inv) (hws : (Instr.traceRead p n seq conf xl params mac ans).registers = some ws) :
    Reaches (Writes (Listed ws) s) (execTraceRead p n seq conf xl params mac ans s) := by
  obtain ⟨ha, hW⟩ := covers_listed_at (M := 0x2000101D48000003A0C82000000000000F0102000000DCC3F5FE00000) hws rfl
  unfold execTraceRead
  exact .ofUnit (fun _ => .fwRequest hW.sub (fun _ => ha) (.refl h))

/-! ## Buses -/

theorem execBus0WakeFrame_writes {kind cycles ide id dlc data} (h : s.Inv) (hws : (Instr.bus0WakeFrame kind cycles ide id dlc data).registers = some ws) :
    Reaches (Writes (Listed ws) s) (execBus0WakeFrame kind cycles ide id dlc data s) := by
  have hW := covers_listed (at_ := RegName.At) (M := 0x1D4000000000000000000098000000000000000000000000000) hws rfl
  unfold execBus0WakeFrame
  refine .ofUnit (fun _ => .ite (.refl h) (.ite ?_ ?_))
  · exact .ite (.ite (.detectorWake hW.sub (.quiet (State.dominantWakes_keeps rfl) (.refl h))) (.quiet (State.dominantWakes_keeps rfl) (.refl h)))
        (.refl h)
  · exact .ite (.ite (.ite (.detectorWake hW.sub (.setf (hW.at0 .KPR_BWSTAT) (.refl h))) (.setf (hW.at0 .KPR_BWSTAT) (.refl h))) (.ite (.ite
        (.detectorWake hW.sub (.setf (hW.at0 .KPR_BWSTAT) (.refl h))) (.setf (hW.at0 .KPR_BWSTAT) (.refl h))) (.refl h))) (.refl h)

theorem execBusEnable_writes {core p v} (h : s.Inv) (hws : (Instr.busEnable core p v).registers = some ws) :
    Reaches (Writes (Listed ws) s) (execBusEnable core p v s) := by
  have hW := covers_listed (at_ := RegName.At) (M := 0xA000000000000) hws rfl
  unfold execBusEnable
  exact .ofUnit (fun _ => .portAccess (.refl h) (fun _ h2 => .ite h2 (.ite (.busSleepNow hW.sub (.busEnable hW.sub h2)) (.busEnable hW.sub h2))))

theorem execBusIntegrationDone_writes {p} (h : s.Inv) (hws : (Instr.busIntegrationDone p).registers = some ws) :
    Reaches (Writes (Listed ws) s) (execBusIntegrationDone p s) := by
  have hW := covers_listed (at_ := RegName.At) (M := 0x8000000000000) hws rfl
  unfold execBusIntegrationDone
  exact .ofUnit (fun _ => .ite (.setf (hW.at1 .BUS_STAT) (.refl h)) (.refl h))

theorem execBusOffRecovery_writes {p} (h : s.Inv) (hws : (Instr.busOffRecovery p).registers = some ws) :
    Reaches (Writes (Listed ws) s) (execBusOffRecovery p s) := by
  have hW := covers_listed (at_ := RegName.At) (M := 0xC000000000000) hws rfl
  unfold execBusOffRecovery
  exact .ofUnit (fun _ => .ite (.quiet (State.modBus_keeps rfl) (.setErrors hW.sub (.setf (hW.at1 .BUS_STAT) (.refl h)))) (.refl h))

theorem execBusSleep_writes {core p inProgress} (h : s.Inv) (hws : (Instr.busSleep core p inProgress).registers = some ws) :
    Reaches (Writes (Listed ws) s) (execBusSleep core p inProgress s) := by
  have hW := covers_listed (at_ := RegName.At) (M := 0xA000000000000) hws rfl
  unfold execBusSleep
  exact .ofUnit (fun _ => .portAccess (.refl h) (fun _ h2 => .ite (.setf (hW.at1 .BUS_CTRL) h2) (.ite (.quiet (State.modBus_keeps rfl)
      (.setf (hW.at1 .BUS_CTRL) h2)) (.busSleepNow hW.sub (.setf (hW.at1 .BUS_CTRL) h2)))))

theorem execBusWake_writes {core p cycles write} (h : s.Inv) (hws : (Instr.busWake core p cycles write).registers = some ws) :
    Reaches (Writes (Listed ws) s) (execBusWake core p cycles write s) := by
  have hW := covers_listed (at_ := RegName.At) (M := 0x1D400000000000000000000000000000000000A000000000000) hws rfl
  unfold execBusWake
  refine .ofUnit (fun _ => .ite ?_ ?_)
  · exact .portAccess (.refl h) (fun _ h2 => .busWake hW.sub (.setf (hW.at1 .BUS_CTRL) h2))
  · exact .ite (.ite (.ite (.busWake hW.sub (.quiet (State.dominantWakes_keeps rfl) (.refl h))) (.quiet (State.dominantWakes_keeps rfl) (.refl h)))
        (.refl h)) (.ite (.ite (.portWake hW.sub (.quiet (State.dominantWakes_keeps rfl) (.refl h))) (.quiet (State.dominantWakes_keeps rfl)
        (.refl h))) (.refl h))

theorem execFrameAbandon_writes {p obj running} (h : s.Inv) (hws : (Instr.frameAbandon p obj running).registers = some ws) :
    Reaches (Writes (Listed ws) s) (execFrameAbandon p obj running s) := by
  have hW := covers_listed (at_ := RegName.At) (M := 0x4000000000000000000000000000000000000000000000008000000000) hws rfl
  unfold execFrameAbandon
  refine .ofUnit (fun _ => .ite (.refl h) ?_)
  split
  · exact .txAbandon hW.sub (.quiet (State.reach_keeps rfl) (.refl h))
  · exact .refl h

theorem execFrameReceived_writes {p fmt ide id data sdt vcid af} (h : s.Inv) (hws : (Instr.frameReceived p fmt ide id data sdt vcid af).registers = some ws) :
    Reaches (Writes (Listed ws) s) (execFrameReceived p fmt ide id data sdt vcid af s) := by
  have hW := covers_listed (at_ := RegName.At) (M := 0x101D400000000000000000000000000000000000DEC3D5EE00000) hws rfl
  unfold execFrameReceived
  exact .ofUnit (fun _ => .ite (.ite (.receiveFrame hW.sub (.refl h)) (.protocolException hW.sub (.refl h))) (.refl h))

theorem execFrameTransmitted_writes {p obj start} (h : s.Inv) (hws : (Instr.frameTransmitted p obj start).registers = some ws) :
    Reaches (Writes (Listed ws) s) (execFrameTransmitted p obj start s) := by
  have hW := covers_listed (at_ := RegName.At) (M := 0x40000101D400000000000000000000000000000000000DCC3D5EE00000) hws rfl
  unfold execFrameTransmitted
  exact .ofUnit (fun _ => .ite (.refl h) (.ite (.receiveFrame hW.sub (.setErrors hW.sub (.txRemove hW.sub (.refl h)))) (.frameEnd hW.sub
      (.setErrors hW.sub (.txRemove hW.sub (.refl h))))))

theorem execFrameTxFailure_writes {p obj start err} (h : s.Inv) (hws : (Instr.frameTxFailure p obj start err).registers = some ws) :
    Reaches (Writes (Listed ws) s) (execFrameTxFailure p obj start err s) := by
  have hW := covers_listed (at_ := RegName.At) (M := 0x400000000000000000000000000000000000000000000C018000000000) hws rfl
  unfold execFrameTxFailure
  exact .ofUnit (fun _ => .ite (.refl h) (.frameEnd hW.sub (.ite (.txAbandon hW.sub (.ite (.txError hW.sub (.refl h)) (.refl h))) (.ite
      (.txError hW.sub (.refl h)) (.refl h)))))

theorem execProtocolException_writes {p kind} (h : s.Inv) (hws : (Instr.protocolException p kind).registers = some ws) :
    Reaches (Writes (Listed ws) s) (execProtocolException p kind s) := by
  have hW := covers_listed (at_ := RegName.At) (M := 0xC200000000000) hws rfl
  unfold execProtocolException
  exact .ofUnit (fun _ => .ite (.refl h) (.protocolException hW.sub (.refl h)))

theorem execReceiveError_writes {p big} (h : s.Inv) (hws : (Instr.receiveError p big).registers = some ws) :
    Reaches (Writes (Listed ws) s) (execReceiveError p big s) := by
  have hW := covers_listed (at_ := RegName.At) (M := 0xC000000000000) hws rfl
  unfold execReceiveError
  exact .ofUnit (fun _ => .ite (.frameEnd hW.sub (.rxError hW.sub (.refl h))) (.refl h))

theorem execRxObjectConsume_writes {core p k} (h : s.Inv) (hws : (Instr.rxObjectConsume core p k).registers = some ws) :
    Reaches (Writes (Listed ws) s) (execRxObjectConsume core p k s) := by
  have hW := covers_listed (at_ := RegName.At) (M := 0x10000000000000000000000000000000000000000000000000000) hws rfl
  unfold execRxObjectConsume
  exact .ofUnit (fun _ => .portAccess (.refl h) (fun _ h2 => .setf (hW.at2 .RXO_STAT) h2))

theorem execTransmitObjectDue_writes {p j} (h : s.Inv) (hws : (Instr.transmitObjectDue p j).registers = some ws) :
    Reaches (Writes (Listed ws) s) (execTransmitObjectDue p j s) := by
  have hW := covers_listed (at_ := RegName.At) (M := 0x4000000000000000000000000000000000000000000000120000000000) hws rfl
  unfold execTransmitObjectDue
  refine .ofUnit (fun _ => ?_)
  split
  · exact .ite (.quiet (State.txSchedule_keeps rfl) (.txPend hW.sub (.quiet (State.reach_keeps rfl) (.refl h)))) (.refl h)
  · exact .refl h

theorem execTransmitSend_writes {core p j} (h : s.Inv) (hws : (Instr.transmitSend core p j).registers = some ws) :
    Reaches (Writes (Listed ws) s) (execTransmitSend core p j s) := by
  have hW := covers_listed (at_ := RegName.At) (M := 0x4000000000000000000000000000000000000000000000120000000000) hws rfl
  unfold execTransmitSend
  exact .ofUnit (fun _ => .portAccess (.refl h) (fun _ h2 => .ite (.txPend hW.sub h2) h2))

end Sys2Proof.Machine
end

section
/-! PROOFS. The registers that the operations of the Canter and charger commands write. -/

namespace Sys2Proof.Machine

set_option Elab.async false

variable {W : Nat → Prop} {s0 s t : State} {ws : List (Nat → Prop)}

/-! ## Canter -/

theorem Writes.writesPair {e l d v x5 x6} (hW : Covers (RegName.AtLaw e l) 0x2000000000000000000000000000000000 W) (h : Writes W s0 s) :
    Writes W s0 (writesPair e l d v s x5 x6) := by
  unfold Machine.writesPair
  exact .dSet hW.sub (.dSet hW.sub h)

theorem Writes.writes {e l d v x5 x6} (hW : Covers (RegName.AtLaw e l) 0x2000000000000000000000000000000000 W) (h : Writes W s0 s) :
    Writes W s0 (writes e l d v s x5 x6) := by
  unfold Machine.writes
  exact .dSet hW.sub h

theorem execCanAbs_writes {e l d x} (h : s.Inv) (hws : (Instr.canAbs e l d x).registers = some ws) :
    Reaches (Writes (Listed ws) s) (execCanAbs e l d x s) := by
  have hW := covers_listed (at_ := RegName.AtLaw e l) (M := 0x2000000000000000000000000000000000) hws rfl
  unfold execCanAbs
  exact .ofUnit (fun _ => .canIssue (.refl h) (fun _ _ _ h2 => .writes hW.sub h2))

theorem execCanAdd_writes {e l d x y} (h : s.Inv) (hws : (Instr.canAdd e l d x y).registers = some ws) :
    Reaches (Writes (Listed ws) s) (execCanAdd e l d x y s) := by
  have hW := covers_listed (at_ := RegName.AtLaw e l) (M := 0x2000000000000000000000000000000000) hws rfl
  unfold execCanAdd
  exact .ofUnit (fun _ => .canIssue (.refl h) (fun _ _ _ h2 => .writes hW.sub h2))

theorem execCanAdda_writes {e l a b} (h : s.Inv) (hws : (Instr.canAdda e l a b).registers = some ws) :
    Reaches (Writes (Listed ws) s) (execCanAdda e l a b s) := by
  have hW := covers_listed (at_ := RegName.AtLaw e l) (M := 0x2000000000000000000000000000000000) hws rfl
  unfold execCanAdda
  exact .ofUnit (fun _ => .canIssue (.refl h) (fun _ _ _ h2 => .putAcc hW.sub h2))

theorem execCanAddw_writes {e l d x y} (h : s.Inv) (hws : (Instr.canAddw e l d x y).registers = some ws) :
    Reaches (Writes (Listed ws) s) (execCanAddw e l d x y s) := by
  have hW := covers_listed (at_ := RegName.AtLaw e l) (M := 0x2000000000000000000000000000000000) hws rfl
  unfold execCanAddw
  exact .ofUnit (fun _ => .canIssue (.refl h) (fun _ _ _ h2 => .writes hW.sub h2))

theorem execCanClarke_writes {e l d x y} (h : s.Inv) (hws : (Instr.canClarke e l d x y).registers = some ws) :
    Reaches (Writes (Listed ws) s) (execCanClarke e l d x y s) := by
  have hW := covers_listed (at_ := RegName.AtLaw e l) (M := 0x2000000000000000000000000000000000) hws rfl
  unfold execCanClarke
  exact .ofUnit (fun _ => .canIssue (.refl h) (fun _ _ _ h2 => .writesPair hW.sub h2))

theorem execCanCorr_writes {e l d x g k} (h : s.Inv) (hws : (Instr.canCorr e l d x g k).registers = some ws) :
    Reaches (Writes (Listed ws) s) (execCanCorr e l d x g k s) := by
  have hW := covers_listed (at_ := RegName.AtLaw e l) (M := 0x2000000000000000000000000000000000) hws rfl
  unfold execCanCorr
  exact .ofUnit (fun _ => .canIssue (.refl h) (fun _ _ _ h2 => .putSat hW.sub h2))

theorem execCanDiv_writes {e l d x y} (h : s.Inv) (hws : (Instr.canDiv e l d x y).registers = some ws) :
    Reaches (Writes (Listed ws) s) (execCanDiv e l d x y s) := by
  have hW := covers_listed (at_ := RegName.AtLaw e l) (M := 0x2000000000000000000000000000000000) hws rfl
  unfold execCanDiv
  exact .ofUnit (fun _ => .canIssue (.refl h) (fun _ _ _ h2 => .writes hW.sub h2))

theorem execCanDmac_writes {e l a x y} (h : s.Inv) (hws : (Instr.canDmac e l a x y).registers = some ws) :
    Reaches (Writes (Listed ws) s) (execCanDmac e l a x y s) := by
  have hW := covers_listed (at_ := RegName.AtLaw e l) (M := 0x2000000000000000000000000000000000) hws rfl
  unfold execCanDmac
  exact .ofUnit (fun _ => .canIssue (.refl h) (fun _ _ _ h2 => .putAcc hW.sub (.putAcc hW.sub h2)))

theorem execCanDot_writes {e l a x y} (h : s.Inv) (hws : (Instr.canDot e l a x y).registers = some ws) :
    Reaches (Writes (Listed ws) s) (execCanDot e l a x y s) := by
  have hW := covers_listed (at_ := RegName.AtLaw e l) (M := 0x2000000000000000000000000000000000) hws rfl
  unfold execCanDot
  exact .ofUnit (fun _ => .canIssue (.refl h) (fun _ _ _ h2 => .putAcc hW.sub h2))

theorem execCanEnd_writes {e l} (h : s.Inv) (hws : (Instr.canEnd e l).registers = some ws) : Reaches (Writes (Listed ws) s) (execCanEnd e l s) := by
  have hW := covers_listed (at_ := RegName.AtLaw e l) (M := 0x3030C00000000000000200000000000000) hws rfl
  unfold execCanEnd
  exact .ofUnit (fun _ => .canIssue (.refl h) (fun _ _ _ h2 => .endOf hW.sub h2))

theorem execCanInt_writes {e l n x g k} (h : s.Inv) (hws : (Instr.canInt e l n x g k).registers = some ws) :
    Reaches (Writes (Listed ws) s) (execCanInt e l n x g k s) := by
  have hW := covers_listed (at_ := RegName.AtLaw e l) (M := 0x2000000000000000000000000000000000) hws rfl
  unfold execCanInt
  exact .ofUnit (fun _ => .canIssue (.refl h) (fun _ _ _ h2 => .ite h2 (.dSet hW.sub (.dSet hW.sub h2))))

theorem execCanIpark_writes {e l d x y th} (h : s.Inv) (hws : (Instr.canIpark e l d x y th).registers = some ws) :
    Reaches (Writes (Listed ws) s) (execCanIpark e l d x y th s) := by
  have hW := covers_listed (at_ := RegName.AtLaw e l) (M := 0x2000000000000000000000000000000000) hws rfl
  unfold execCanIpark
  exact .ofUnit (fun _ => .canIssue (.refl h) (fun _ _ _ h2 => .writesPair hW.sub h2))

theorem execCanLda_writes {e l a x} (h : s.Inv) (hws : (Instr.canLda e l a x).registers = some ws) :
    Reaches (Writes (Listed ws) s) (execCanLda e l a x s) := by
  have hW := covers_listed (at_ := RegName.AtLaw e l) (M := 0x2000000000000000000000000000000000) hws rfl
  unfold execCanLda
  exact .ofUnit (fun _ => .canIssue (.refl h) (fun _ _ _ h2 => .putAcc hW.sub h2))

theorem execCanLdc_writes {e l d k} (h : s.Inv) (hws : (Instr.canLdc e l d k).registers = some ws) :
    Reaches (Writes (Listed ws) s) (execCanLdc e l d k s) := by
  have hW := covers_listed (at_ := RegName.AtLaw e l) (M := 0x2000000000000000000000000000000000) hws rfl
  unfold execCanLdc
  exact .ofUnit (fun _ => .canIssue (.refl h) (fun _ _ _ h2 => .writes hW.sub h2))

theorem execCanLdi_writes {e l d imm} (h : s.Inv) (hws : (Instr.canLdi e l d imm).registers = some ws) :
    Reaches (Writes (Listed ws) s) (execCanLdi e l d imm s) := by
  have hW := covers_listed (at_ := RegName.AtLaw e l) (M := 0x2000000000000000000000000000000000) hws rfl
  unfold execCanLdi
  exact .ofUnit (fun _ => .canIssue (.refl h) (fun _ _ _ h2 => .writes hW.sub h2))

theorem execCanLdk_writes {e l d k} (h : s.Inv) (hws : (Instr.canLdk e l d k).registers = some ws) :
    Reaches (Writes (Listed ws) s) (execCanLdk e l d k s) := by
  have hW := covers_listed (at_ := RegName.AtLaw e l) (M := 0x2000000000000000000000000000000000) hws rfl
  unfold execCanLdk
  exact .ofUnit (fun _ => .canIssue (.refl h) (fun _ _ _ h2 => .writes hW.sub h2))

theorem execCanLdu_writes {e l d k} (h : s.Inv) (hws : (Instr.canLdu e l d k).registers = some ws) :
    Reaches (Writes (Listed ws) s) (execCanLdu e l d k s) := by
  have hW := covers_listed (at_ := RegName.AtLaw e l) (M := 0x3024000000000000000200000000000000) hws rfl
  unfold execCanLdu
  exact .ofUnit (fun _ => .canIssue (.refl h) (fun _ _ _ h2 => .ite (.dSet hW.sub h2) (.miss hW.sub h2)))

theorem execCanLim_writes {e l d x lo hi} (h : s.Inv) (hws : (Instr.canLim e l d x lo hi).registers = some ws) :
    Reaches (Writes (Listed ws) s) (execCanLim e l d x lo hi s) := by
  have hW := covers_listed (at_ := RegName.AtLaw e l) (M := 0x2000000000000000000000000000000000) hws rfl
  unfold execCanLim
  exact .ofUnit (fun _ => .canIssue (.refl h) (fun _ _ _ h2 => .writes hW.sub h2))

theorem execCanMac_writes {e l a x y} (h : s.Inv) (hws : (Instr.canMac e l a x y).registers = some ws) :
    Reaches (Writes (Listed ws) s) (execCanMac e l a x y s) := by
  have hW := covers_listed (at_ := RegName.AtLaw e l) (M := 0x2000000000000000000000000000000000) hws rfl
  unfold execCanMac
  exact .ofUnit (fun _ => .canIssue (.refl h) (fun _ _ _ h2 => .putAcc hW.sub h2))

theorem execCanMacc_writes {e l a x k} (h : s.Inv) (hws : (Instr.canMacc e l a x k).registers = some ws) :
    Reaches (Writes (Listed ws) s) (execCanMacc e l a x k s) := by
  have hW := covers_listed (at_ := RegName.AtLaw e l) (M := 0x2000000000000000000000000000000000) hws rfl
  unfold execCanMacc
  exact .ofUnit (fun _ => .canIssue (.refl h) (fun _ _ _ h2 => .putAcc hW.sub h2))

theorem execCanMax_writes {e l d x y} (h : s.Inv) (hws : (Instr.canMax e l d x y).registers = some ws) :
    Reaches (Writes (Listed ws) s) (execCanMax e l d x y s) := by
  have hW := covers_listed (at_ := RegName.AtLaw e l) (M := 0x2000000000000000000000000000000000) hws rfl
  unfold execCanMax
  exact .ofUnit (fun _ => .canIssue (.refl h) (fun _ _ _ h2 => .writes hW.sub h2))

theorem execCanMin_writes {e l d x y} (h : s.Inv) (hws : (Instr.canMin e l d x y).registers = some ws) :
    Reaches (Writes (Listed ws) s) (execCanMin e l d x y s) := by
  have hW := covers_listed (at_ := RegName.AtLaw e l) (M := 0x2000000000000000000000000000000000) hws rfl
  unfold execCanMin
  exact .ofUnit (fun _ => .canIssue (.refl h) (fun _ _ _ h2 => .writes hW.sub h2))

theorem execCanMov_writes {e l d x} (h : s.Inv) (hws : (Instr.canMov e l d x).registers = some ws) :
    Reaches (Writes (Listed ws) s) (execCanMov e l d x s) := by
  have hW := covers_listed (at_ := RegName.AtLaw e l) (M := 0x2000000000000000000000000000000000) hws rfl
  unfold execCanMov
  exact .ofUnit (fun _ => .canIssue (.refl h) (fun _ _ _ h2 => .writes hW.sub h2))

theorem execCanMsu_writes {e l a x y} (h : s.Inv) (hws : (Instr.canMsu e l a x y).registers = some ws) :
    Reaches (Writes (Listed ws) s) (execCanMsu e l a x y s) := by
  have hW := covers_listed (at_ := RegName.AtLaw e l) (M := 0x2000000000000000000000000000000000) hws rfl
  unfold execCanMsu
  exact .ofUnit (fun _ => .canIssue (.refl h) (fun _ _ _ h2 => .putAcc hW.sub h2))

theorem execCanMul_writes {e l a x y} (h : s.Inv) (hws : (Instr.canMul e l a x y).registers = some ws) :
    Reaches (Writes (Listed ws) s) (execCanMul e l a x y s) := by
  have hW := covers_listed (at_ := RegName.AtLaw e l) (M := 0x2000000000000000000000000000000000) hws rfl
  unfold execCanMul
  exact .ofUnit (fun _ => .canIssue (.refl h) (fun _ _ _ h2 => .putAcc hW.sub h2))

theorem execCanMulc_writes {e l a x k} (h : s.Inv) (hws : (Instr.canMulc e l a x k).registers = some ws) :
    Reaches (Writes (Listed ws) s) (execCanMulc e l a x k s) := by
  have hW := covers_listed (at_ := RegName.AtLaw e l) (M := 0x2000000000000000000000000000000000) hws rfl
  unfold execCanMulc
  exact .ofUnit (fun _ => .canIssue (.refl h) (fun _ _ _ h2 => .putAcc hW.sub h2))

theorem execCanNeg_writes {e l d x} (h : s.Inv) (hws : (Instr.canNeg e l d x).registers = some ws) :
    Reaches (Writes (Listed ws) s) (execCanNeg e l d x s) := by
  have hW := covers_listed (at_ := RegName.AtLaw e l) (M := 0x2000000000000000000000000000000000) hws rfl
  unfold execCanNeg
  exact .ofUnit (fun _ => .canIssue (.refl h) (fun _ _ _ h2 => .writes hW.sub h2))

theorem execCanPark_writes {e l d x y th} (h : s.Inv) (hws : (Instr.canPark e l d x y th).registers = some ws) :
    Reaches (Writes (Listed ws) s) (execCanPark e l d x y th s) := by
  have hW := covers_listed (at_ := RegName.AtLaw e l) (M := 0x2000000000000000000000000000000000) hws rfl
  unfold execCanPark
  exact .ofUnit (fun _ => .canIssue (.refl h) (fun _ _ _ h2 => .writesPair hW.sub h2))

theorem execCanPrd_writes {e l d k} (h : s.Inv) (hws : (Instr.canPrd e l d k).registers = some ws) :
    Reaches (Writes (Listed ws) s) (execCanPrd e l d k s) := by
  have hW := covers_listed (at_ := RegName.AtLaw e l) (M := 0x2000000000000000000000000000000000) hws rfl
  unfold execCanPrd
  exact .ofUnit (fun _ => .canIssue (.refl h) (fun _ _ _ h2 => .writes hW.sub h2))

theorem execCanSel_writes {e l} (h : s.Inv) (hws : (Instr.canSel e l).registers = some ws) : Reaches (Writes (Listed ws) s) (execCanSel e l s) := by
  have hW := covers_listed (at_ := RegName.AtLaw e l) (M := 0x302E000000000000000200000000000000) hws rfl
  unfold execCanSel
  refine .ofUnit (fun _ => .canIssue (.refl h) ?_)
  intro _ _ _ h2
  split
  · exact .quiet (State.modSec_keeps rfl) h2
  · exact .quiet (State.modSec_keeps rfl) h2
  · exact .inc (hW.own .LAW_CNT_LSMP) (.miss hW.sub (.quiet (State.reach_keeps rfl) (.quiet (State.selTail_keeps rfl) h2)))
  · exact .inc (hW.own .LAW_CNT_NOFIT) (.miss hW.sub (.quiet (State.reach_keeps rfl) (.quiet (State.selTail_keeps rfl) h2)))

theorem execCanSha_writes {e l a k} (h : s.Inv) (hws : (Instr.canSha e l a k).registers = some ws) :
    Reaches (Writes (Listed ws) s) (execCanSha e l a k s) := by
  have hW := covers_listed (at_ := RegName.AtLaw e l) (M := 0x2000000000000000000000000000000000) hws rfl
  unfold execCanSha
  exact .ofUnit (fun _ => .canIssue (.refl h) (fun _ _ _ h2 => .ite (.putAcc hW.sub h2) (.ite (.putAcc hW.sub h2) (.putAcc hW.sub
      (.quiet (State.drawWord_keeps rfl) h2)))))

theorem execCanShf_writes {e l d x k} (h : s.Inv) (hws : (Instr.canShf e l d x k).registers = some ws) :
    Reaches (Writes (Listed ws) s) (execCanShf e l d x k s) := by
  have hW := covers_listed (at_ := RegName.AtLaw e l) (M := 0x2000000000000000000000000000000000) hws rfl
  unfold execCanShf
  exact .ofUnit (fun _ => .canIssue (.refl h) (fun _ _ _ h2 => .writes hW.sub h2))

theorem execCanSincos_writes {e l d x} (h : s.Inv) (hws : (Instr.canSincos e l d x).registers = some ws) :
    Reaches (Writes (Listed ws) s) (execCanSincos e l d x s) := by
  have hW := covers_listed (at_ := RegName.AtLaw e l) (M := 0x2000000000000000000000000000000000) hws rfl
  unfold execCanSincos
  exact .ofUnit (fun _ => .canIssue (.refl h) (fun _ _ _ h2 => .writesPair hW.sub h2))

theorem execCanSqrt_writes {e l d x} (h : s.Inv) (hws : (Instr.canSqrt e l d x).registers = some ws) :
    Reaches (Writes (Listed ws) s) (execCanSqrt e l d x s) := by
  have hW := covers_listed (at_ := RegName.AtLaw e l) (M := 0x2000000000000000000000000000000000) hws rfl
  unfold execCanSqrt
  exact .ofUnit (fun _ => .canIssue (.refl h) (fun _ _ _ h2 => .writes hW.sub h2))

theorem execCanSt_writes {e l d a} (h : s.Inv) (hws : (Instr.canSt e l d a).registers = some ws) :
    Reaches (Writes (Listed ws) s) (execCanSt e l d a s) := by
  have hW := covers_listed (at_ := RegName.AtLaw e l) (M := 0x2000000000000000000000000000000000) hws rfl
  unfold execCanSt
  exact .ofUnit (fun _ => .canIssue (.refl h) (fun _ _ _ h2 => .putSat hW.sub h2))

theorem execCanSub_writes {e l d x y} (h : s.Inv) (hws : (Instr.canSub e l d x y).registers = some ws) :
    Reaches (Writes (Listed ws) s) (execCanSub e l d x y s) := by
  have hW := covers_listed (at_ := RegName.AtLaw e l) (M := 0x2000000000000000000000000000000000) hws rfl
  unfold execCanSub
  exact .ofUnit (fun _ => .canIssue (.refl h) (fun _ _ _ h2 => .writes hW.sub h2))

theorem execCanSuba_writes {e l a b} (h : s.Inv) (hws : (Instr.canSuba e l a b).registers = some ws) :
    Reaches (Writes (Listed ws) s) (execCanSuba e l a b s) := by
  have hW := covers_listed (at_ := RegName.AtLaw e l) (M := 0x2000000000000000000000000000000000) hws rfl
  unfold execCanSuba
  exact .ofUnit (fun _ => .canIssue (.refl h) (fun _ _ _ h2 => .putAcc hW.sub h2))

theorem execCanSvm_writes {e l d x y} (h : s.Inv) (hws : (Instr.canSvm e l d x y).registers = some ws) :
    Reaches (Writes (Listed ws) s) (execCanSvm e l d x y s) := by
  have hW := covers_listed (at_ := RegName.AtLaw e l) (M := 0x2000000000000000000000000000000000) hws rfl
  unfold execCanSvm
  exact .ofUnit (fun _ => .canIssue (.refl h) (fun _ _ _ h2 => .dSet hW.sub (.dSet hW.sub (.dSet hW.sub h2))))

theorem execCanTlu_writes {e l d x t} (h : s.Inv) (hws : (Instr.canTlu e l d x t).registers = some ws) :
    Reaches (Writes (Listed ws) s) (execCanTlu e l d x t s) := by
  have hW := covers_listed (at_ := RegName.AtLaw e l) (M := 0x2000000000000000000000000000000000) hws rfl
  unfold execCanTlu
  exact .ofUnit (fun _ => .canIssue (.refl h) (fun _ _ _ h2 => .dSet hW.sub (.quiet (State.setSeg_keeps rfl) h2)))

/-! ## Charger -/

theorem execChargeCvReached_writes {m v} (h : s.Inv) (hws : (Instr.chargeCvReached m v).registers = some ws) :
    Reaches (Writes (Listed ws) s) (execChargeCvReached m v s) := by
  have hW := covers_listed (at_ := RegName.At) (M := 0x5000000000000000) hws rfl
  unfold execChargeCvReached
  exact .ofUnit (fun _ => .onTeam (.refl h) (.ite (.setCh hW.sub (.quiet (State.modCh_keeps rfl) (.refl h))) (.refl h)))

theorem execChargeFaultClear_writes {m} (h : s.Inv) (hws : (Instr.chargeFaultClear m).registers = some ws) :
    Reaches (Writes (Listed ws) s) (execChargeFaultClear m s) := by
  have hW := covers_listed (at_ := RegName.At) (M := 0x5000000000000000) hws rfl
  unfold execChargeFaultClear
  exact .ofUnit (fun _ => .onTeam (.refl h) (.ite (.ite (.quiet (State.putNat_keeps rfl) (.setCh hW.sub (.quiet (State.chZero_keeps rfl) (.refl h))))
      (.setCh hW.sub (.quiet (State.chZero_keeps rfl) (.refl h)))) (.refl h)))

theorem execChargeQualified_writes {m v} (h : s.Inv) (hws : (Instr.chargeQualified m v).registers = some ws) :
    Reaches (Writes (Listed ws) s) (execChargeQualified m v s) := by
  have hW := covers_listed (at_ := RegName.At) (M := 0x18000002008C0980000000007F30E00000000000005380000000000000) hws rfl
  unfold execChargeQualified
  exact .ofUnit (fun _ => .onTeam (.refl h) (.ite (.ite (.chToFault hW.sub (.refl h)) (.setCh hW.sub (.quiet (State.modCh_keeps rfl) (.ite
      (.isoOn hW.sub (.refl h)) (.refl h))))) (.refl h)))

theorem execChargeQualifyTimeout_writes {m v} (h : s.Inv) (hws : (Instr.chargeQualifyTimeout m v).registers = some ws) :
    Reaches (Writes (Listed ws) s) (execChargeQualifyTimeout m v s) := by
  have hW := covers_listed (at_ := RegName.At) (M := 0x200840800000000003130C00000000000005200000000000000) hws rfl
  unfold execChargeQualifyTimeout
  exact .ofUnit (fun _ => .onTeam (.refl h) (.ite (.ite (.chToFault hW.sub (.quiet (State.reach_keeps rfl) (.refl h))) (.ite (.chToFault hW.sub
      (.quiet (State.reach_keeps rfl) (.refl h))) (.refl h))) (.refl h)))

theorem execChargeRecharge_writes {m v ms} (h : s.Inv) (hws : (Instr.chargeRecharge m v ms).registers = some ws) :
    Reaches (Writes (Listed ws) s) (execChargeRecharge m v ms s) := by
  have hW := covers_listed (at_ := RegName.At) (M := 0x5000000000000000) hws rfl
  unfold execChargeRecharge
  exact .ofUnit (fun _ => .onTeam (.refl h) (.ite (.setCh hW.sub (.refl h)) (.refl h)))

theorem execChargeRequest_writes {m} (h : s.Inv) (hws : (Instr.chargeRequest m).registers = some ws) :
    Reaches (Writes (Listed ws) s) (execChargeRequest m s) := by
  have hW := covers_listed (at_ := RegName.At) (M := 0x5000000000000000) hws rfl
  unfold execChargeRequest
  exact .ofUnit (fun _ => .onTeam (.refl h) (.ite (.ite (.setCh hW.sub (.refl h)) (.refl h)) (.ite (.setCh hW.sub (.refl h)) (.refl h))))

theorem execChargeSourceHold_writes (h : s.Inv) (hws : Instr.chargeSourceHold.registers = some ws) :
    Reaches (Writes (Listed ws) s) (execChargeSourceHold s) := by
  have hW := covers_listed (at_ := RegName.At) (M := 0x200840800000000003130C00000000000005200000000000000) hws rfl
  unfold execChargeSourceHold
  exact .onCharger (.refl h) (.ite (.setCh hW.sub (.isoOff hW.sub (.clearTrips hW.sub (.isoOff hW.sub (.quiet (State.chZero_keeps rfl)
      (.quiet (Keeps.set_chs rfl) (.refl h))))))) (.refl h))

theorem execChargeSourceHoldEnd_writes (h : s.Inv) (hws : Instr.chargeSourceHoldEnd.registers = some ws) :
    Reaches (Writes (Listed ws) s) (execChargeSourceHoldEnd s) := by
  have hW := covers_listed (at_ := RegName.At) (M := 0x200840800000000003130C00000000000005200000000000000) hws rfl
  unfold execChargeSourceHoldEnd
  exact .onCharger (.refl h) (.ite (.setCh hW.sub (.isoOff hW.sub (.clearTrips hW.sub (.refl h)))) (.refl h))

theorem execChargeSourceLost_writes {m} (h : s.Inv) (hws : (Instr.chargeSourceLost m).registers = some ws) :
    Reaches (Writes (Listed ws) s) (execChargeSourceLost m s) := by
  have hW := covers_listed (at_ := RegName.At) (M := 0x5000000000000000) hws rfl
  unfold execChargeSourceLost
  exact .ofUnit (fun _ => .onTeam (.refl h) (.ite (.setCh hW.sub (.quiet (State.chZero_keeps rfl) (.refl h))) (.refl h)))

theorem execChargeStop_writes (h : s.Inv) (hws : Instr.chargeStop.registers = some ws) : Reaches (Writes (Listed ws) s) (execChargeStop s) := by
  have hW := covers_listed (at_ := RegName.At) (M := 0x5000000000000000) hws rfl
  unfold execChargeStop
  exact .onCharger (.refl h) (.ite (.setCh hW.sub (.quiet (State.chZero_keeps rfl) (.refl h))) (.refl h))

theorem execChargeTermination_writes {m} (h : s.Inv) (hws : (Instr.chargeTermination m).registers = some ws) :
    Reaches (Writes (Listed ws) s) (execChargeTermination m s) := by
  have hW := covers_listed (at_ := RegName.At) (M := 0x5000000000000000) hws rfl
  unfold execChargeTermination
  refine .ofUnit (fun _ => .onTeam (.refl h) ?_)
  split
  · exact .refl h
  · exact .quiet (State.modCh_keeps rfl) (.quiet (State.freeFloor_keeps rfl) (.setCh hW.sub (.quiet (State.reach_keeps rfl) (.refl h))))

theorem execChargeTopoffEnd_writes {m} (h : s.Inv) (hws : (Instr.chargeTopoffEnd m).registers = some ws) :
    Reaches (Writes (Listed ws) s) (execChargeTopoffEnd m s) := by
  have hW := covers_listed (at_ := RegName.At) (M := 0x5000000000000000) hws rfl
  unfold execChargeTopoffEnd
  exact .ofUnit (fun _ => .onTeam (.refl h) (.ite (.setCh hW.sub (.quiet (State.chZero_keeps rfl) (.quiet (State.reach_keeps rfl) (.refl h))))
      (.refl h)))

theorem execDclMeasSample_writes {dcl chl} (h : s.Inv) (hws : (Instr.dclMeasSample dcl chl).registers = some ws) :
    Reaches (Writes (Listed ws) s) (execDclMeasSample dcl chl s) := by
  have hW := covers_listed (at_ := RegName.At) (M := 0x7800003D4850E00300C00003000000000000005002E00002020000000) hws rfl
  unfold execDclMeasSample
  refine .next (.ite ?_ ?_)
  · exact .chsLink hW.sub (.ite (.setf (hW.at0 .DCL_MEAS) (.quiet (Keeps.set_chs rfl) (.quiet (State.reach_keeps rfl) (.refl h))))
        (.setf (hW.at0 .CHL_MEAS) (.setf (hW.at0 .DCL_MEAS) (.quiet (Keeps.set_chs rfl) (.quiet (State.reach_keeps rfl) (.refl h))))))
  · exact .quiet (Keeps.set_chs rfl) (.quiet (State.reach_keeps rfl) (.refl h))

theorem execHandoverTimeout_writes (h : s.Inv) (hws : Instr.handoverTimeout.registers = some ws) :
    Reaches (Writes (Listed ws) s) (execHandoverTimeout s) := by
  have hW := covers_listed (at_ := RegName.At) (M := 0x200840800000000003130C00000000000005200000000000000) hws rfl
  unfold execHandoverTimeout
  exact .onCharger (.refl h) (.ite (.quiet (State.handoverEnd_keeps rfl) (.chToFault hW.sub (.quiet (State.reach_keeps rfl) (.refl h)))) (.refl h))

theorem execInletCableRemoved_writes {ohm} (h : s.Inv) (hws : (Instr.inletCableRemoved ohm).registers = some ws) :
    Reaches (Writes (Listed ws) s) (execInletCableRemoved ohm s) := by
  have hW := covers_listed (at_ := RegName.At) (M := 0x200840800000000003130C03000000000000200000000000000) hws rfl
  unfold execInletCableRemoved
  exact .onCharger (.refl h) (.ite (.refl h) (.ite (.sourceLoss hW.sub (.quiet (State.putPp_keeps rfl) (.refl h))) (.ite
      (.quiet (State.setInlet_keeps rfl) (.s2Open hW.sub (.quiet (State.putPp_keeps rfl) (.refl h)))) (.quiet (State.putPp_keeps rfl) (.refl h)))))

theorem execInletEnergize_writes (h : s.Inv) (hws : Instr.inletEnergize.registers = some ws) :
    Reaches (Writes (Listed ws) s) (execInletEnergize s) := by
  have hW := covers_listed (at_ := RegName.At) (M := 0x3000000000000000000000000000) hws rfl
  unfold execInletEnergize
  exact .onCharger (.refl h) (.ite (.quiet (State.modInlet_keeps rfl) (.quiet (State.setInlet_keeps rfl) (.setf (hW.at0 .INL_STAT)
      (.setf (hW.at0 .INL_CTRL) (.refl h))))) (.refl h))

theorem execInletEnergizeTimeout_writes {invalid} (h : s.Inv) (hws : (Instr.inletEnergizeTimeout invalid).registers = some ws) :
    Reaches (Writes (Listed ws) s) (execInletEnergizeTimeout invalid s) := by
  have hW := covers_listed (at_ := RegName.At) (M := 0x3000000000000000000000000000) hws rfl
  unfold execInletEnergizeTimeout
  exact .onCharger (.refl h) (.ite (.quiet (State.setInlet_keeps rfl) (.s2Open hW.sub (.ite (.quiet (State.putNat_keeps rfl) (.refl h))
      (.quiet (State.reach_keeps rfl) (.refl h))))) (.refl h))

theorem execInletModeLeft_writes (h : s.Inv) (hws : Instr.inletModeLeft.registers = some ws) :
    Reaches (Writes (Listed ws) s) (execInletModeLeft s) := by
  have hW := covers_listed (at_ := RegName.At) (M := 0x200840800000000003130C03000000000000200000000000000) hws rfl
  unfold execInletModeLeft
  exact .onCharger (.refl h) (.ite (.refl h) (.ite (.quiet (State.setInlet_keeps rfl) (.isoOff hW.sub (.pfcOff hW.sub (.s2Open hW.sub (.refl h)))))
      (.ite (.s2Open hW.sub (.refl h)) (.refl h))))

theorem execInletPhasesValid_writes {v1 v2 v3 f a2 a3 ms} (h : s.Inv) (hws : (Instr.inletPhasesValid v1 v2 v3 f a2 a3 ms).registers = some ws) :
    Reaches (Writes (Listed ws) s) (execInletPhasesValid v1 v2 v3 f a2 a3 ms s) := by
  have hW := covers_listed (at_ := RegName.At) (M := 0x18000002008C0980000000007F30E00000000000005380000000000000) hws rfl
  unfold execInletPhasesValid
  exact .onCharger (.refl h) (.ite (.ite (.chToFault hW.sub (.quiet (State.putGrid_keeps rfl) (.quiet (State.putNat_keeps rfl) (.refl h))))
      (.quiet (State.setInlet_keeps rfl) (.pfcOn hW.sub (.quiet (State.refreshLimit_keeps rfl) (.quiet (State.putGrid_keeps rfl)
      (.quiet (State.putNat_keeps rfl) (.refl h))))))) (.refl h))

theorem execInletSourceLoss_writes {ms} (h : s.Inv) (hws : (Instr.inletSourceLoss ms).registers = some ws) :
    Reaches (Writes (Listed ws) s) (execInletSourceLoss ms s) := by
  have hW := covers_listed (at_ := RegName.At) (M := 0x200840800000000003130C03000000000000200000000000000) hws rfl
  unfold execInletSourceLoss
  exact .onCharger (.refl h) (.ite (.sourceLoss hW.sub (.ite (.quiet (State.putNat_keeps rfl) (.refl h)) (.refl h))) (.ite
      (.quiet (State.putNat_keeps rfl) (.refl h)) (.refl h)))

theorem execPilotPeriodCapture_writes {per high glitches} (h : s.Inv) (hws : (Instr.pilotPeriodCapture per high glitches).registers = some ws) :
    Reaches (Writes (Listed ws) s) (execPilotPeriodCapture per high glitches s) := by
  have hW := covers_listed (at_ := RegName.At) (M := 0x2E00000000000000000000000000) hws rfl
  unfold execPilotPeriodCapture
  exact .onPlane (.refl h) (.ite (.quiet (State.modInlet_keeps rfl) (.setf (hW.at0 .INL_STAT) (.incBy (hW.at0 .INL_CNT_GLITCH)
      (.setf (hW.at0 .INL_CPHIGH) (.setf (hW.at0 .INL_CPPER) (.refl h)))))) (.refl h))

theorem execPilotStateDecode_writes {pos neg held} (h : s.Inv) (hws : (Instr.pilotStateDecode pos neg held).registers = some ws) :
    Reaches (Writes (Listed ws) s) (execPilotStateDecode pos neg held s) := by
  have hW := covers_listed (at_ := RegName.At) (M := 0x2C00000000000000000000000000) hws rfl
  unfold execPilotStateDecode
  refine .onCharger (.refl h) (.ite (.refl h) ?_)
  dsimp only
  have hosc : Writes (Listed ws) s s.oscRefresh := .oscRefresh hW.sub (.refl h)
  generalize s.oscRefresh = s1 at hosc ⊢
  refine .ite hosc ?_
  have hallowed : Writes (Listed ws) s s1.allowance.2 := .quiet (State.allowance_keeps rfl) hosc
  generalize s1.allowance = p at hallowed ⊢
  obtain ⟨⟨a, bad⟩, s2⟩ := p
  dsimp only at hallowed ⊢
  refine .quiet (State.refreshLimit_keeps rfl) (.quiet (State.putInt_keeps rfl) (.quiet (State.putInt_keeps rfl) (.quiet (State.putNat_keeps rfl) ?_)))
  split
  · exact .quiet (State.freeFloor_keeps rfl) hallowed
  · exact hallowed

theorem execPresenceTestEnd_writes {idx collapse} (h : s.Inv) (hws : (Instr.presenceTestEnd idx collapse).registers = some ws) :
    Reaches (Writes (Listed ws) s) (execPresenceTestEnd idx collapse s) := by
  have hW := covers_listed (at_ := RegName.At) (M := 0x5000000000000000) hws rfl
  unfold execPresenceTestEnd
  refine .next (.onTeam (.refl h) ?_)
  dsimp only
  split
  · exact .ite (.quiet (State.modCh_keeps rfl) (.setCh hW.sub (.refl h))) (.refl h)
  · exact .ite (.ite (.setCh hW.sub (.quiet (State.modCh_keeps rfl) (.quiet (State.reach_keeps rfl) (.refl h)))) (.quiet (State.modCh_keeps rfl)
        (.quiet (State.reach_keeps rfl) (.refl h)))) (.quiet (State.modCh_keeps rfl) (.setCh hW.sub (.quiet (State.reach_keeps rfl) (.refl h))))

theorem execReverseTransferStart_writes {ms} (h : s.Inv) (hws : (Instr.reverseTransferStart ms).registers = some ws) :
    Reaches (Writes (Listed ws) s) (execReverseTransferStart ms s) := by
  have hW := covers_listed (at_ := RegName.At) (M := 0x1800000201BC0F80000000007F30E00000000000000380000000000000) hws rfl
  unfold execReverseTransferStart
  exact .onCharger (.refl h) (.ite (.quiet (State.modSolar_keeps rfl) (.dcxBackward hW.sub (.refl h))) (.refl h))

theorem execReverseTransferStop_writes {ms} (h : s.Inv) (hws : (Instr.reverseTransferStop ms).registers = some ws) :
    Reaches (Writes (Listed ws) s) (execReverseTransferStop ms s) := by
  have hW := covers_listed (at_ := RegName.At) (M := 0x200840800000000003130C00000000000000200000000000000) hws rfl
  unfold execReverseTransferStop
  exact .onCharger (.refl h) (.ite (.quiet (State.modSolar_keeps rfl) (.dcxOff hW.sub (.refl h))) (.refl h))

theorem execSolarOpenCircuitMeasure_writes (h : s.Inv) (hws : Instr.solarOpenCircuitMeasure.registers = some ws) :
    Reaches (Writes (Listed ws) s) (execSolarOpenCircuitMeasure s) := by
  have hW := covers_listed (at_ := RegName.At) (M := 0x18000002008C0980000000007F30E00000000000005380000000000000) hws rfl
  unfold execSolarOpenCircuitMeasure
  refine .onCharger (.refl h) ?_
  split
  · exact .refl h
  · refine .ite ?_ ?_
    · exact .chToFault hW.sub (.quiet (State.setSol_keeps rfl) (.quiet (State.modSolar_keeps rfl) (.quiet (State.reach_keeps rfl) (.refl h))))
    · refine .ite ?_ ?_
      · exact .quiet (State.solPublish_keeps rfl) (.boostOn hW.sub (.quiet (State.modSolar_keeps rfl) (.quiet (State.modSolar_keeps rfl)
            (.quiet (State.reach_keeps rfl) (.refl h)))))
      · exact .quiet (State.solPublish_keeps rfl) (.quiet (State.setSol_keeps rfl) (.boostOn hW.sub (.quiet (State.modSolar_keeps rfl)
            (.quiet (State.drawWord_keeps rfl) (.quiet (State.modSolar_keeps rfl) (.quiet (State.reach_keeps rfl) (.refl h)))))))

theorem execSolarScanStart_writes (h : s.Inv) (hws : Instr.solarScanStart.registers = some ws) :
    Reaches (Writes (Listed ws) s) (execSolarScanStart s) := by
  have hW := covers_listed (at_ := RegName.At) (M := 0x200840800000000003130C00000000000000200000000000000) hws rfl
  unfold execSolarScanStart
  exact .onCharger (.refl h) (.ite (.quiet (State.modSolar_keeps rfl) (.quiet (State.setSol_keeps rfl) (.boostOff hW.sub
      (.quiet (State.reach_keeps rfl) (.refl h))))) (.refl h))

theorem execSolarStop_writes {ms} (h : s.Inv) (hws : (Instr.solarStop ms).registers = some ws) :
    Reaches (Writes (Listed ws) s) (execSolarStop ms s) := by
  have hW := covers_listed (at_ := RegName.At) (M := 0x200840800000000003130C00000000000000200000000000000) hws rfl
  unfold execSolarStop
  exact .onCharger (.refl h) (.ite (.quiet (State.modSolar_keeps rfl) (.quiet (State.setSol_keeps rfl) (.boostOff hW.sub (.refl h)))) (.refl h))

theorem execSrcFaultRecover_writes (h : s.Inv) (hws : Instr.srcFaultRecover.registers = some ws) :
    Reaches (Writes (Listed ws) s) (execSrcFaultRecover s) := by
  have hW := covers_listed (at_ := RegName.At) (M := 0x3000000000000000000000000000) hws rfl
  unfold execSrcFaultRecover
  exact .onCharger (.refl h) (.ite (.ite (.quiet (State.setInlet_keeps rfl) (.s2Open hW.sub (.refl h))) (.ite (.quiet (State.setInlet_keeps rfl)
      (.refl h)) (.refl h))) (.refl h))

theorem execStationStateReaction_writes {pos neg periods ms} (h : s.Inv) (hws : (Instr.stationStateReaction pos neg periods ms).registers = some ws) :
    Reaches (Writes (Listed ws) s) (execStationStateReaction pos neg periods ms s) := by
  have hW := covers_listed (at_ := RegName.At) (M := 0x18000002009E0F80000000007F30E00000000000005380000000000000) hws rfl
  unfold execStationStateReaction
  refine .onCharger (.refl h) (.ite (.refl h) (.ite ?_ ?_))
  · exact .quiet (State.modSupply_keeps rfl) (.cmpWrite hW.sub (.ite (.supplyOff hW.sub (.quiet (State.putNat_keeps rfl) (.refl h)))
        (.quiet (State.putNat_keeps rfl) (.refl h))))
  · refine .ite ?_ ?_
    · exact .ite (.supplyOn hW.sub (.advertise hW.sub (.quiet (State.putNat_keeps rfl) (.refl h)))) (.advertise hW.sub
          (.quiet (State.putNat_keeps rfl) (.refl h)))
    · exact .ite (.advertise hW.sub (.ite (.supplyOff hW.sub (.quiet (State.putNat_keeps rfl) (.refl h))) (.quiet (State.putNat_keeps rfl)
          (.refl h)))) (.quiet (State.modSupply_keeps rfl) (.cmpWrite hW.sub (.supplyOff hW.sub (.quiet (State.putNat_keeps rfl) (.refl h)))))

theorem execSupplyCableRemoved_writes {ohm} (h : s.Inv) (hws : (Instr.supplyCableRemoved ohm).registers = some ws) :
    Reaches (Writes (Listed ws) s) (execSupplyCableRemoved ohm s) := by
  have hW := covers_listed (at_ := RegName.At) (M := 0x200840800000000003130C00000000000000200000000000000) hws rfl
  unfold execSupplyCableRemoved
  exact .onCharger (.refl h) (.ite (.refl h) (.ite (.supplyOff hW.sub (.quiet (State.putPp_keeps rfl) (.refl h))) (.quiet (State.putPp_keeps rfl)
      (.refl h))))

theorem execSupplyEnergize_writes (h : s.Inv) (hws : Instr.supplyEnergize.registers = some ws) :
    Reaches (Writes (Listed ws) s) (execSupplyEnergize s) := by
  have hW := covers_listed (at_ := RegName.At) (M := 0x18000002008C0980000000007F30E00000000000005380000000000000) hws rfl
  unfold execSupplyEnergize
  exact .onCharger (.refl h) (.ite (.supplyOn hW.sub (.quiet (State.reach_keeps rfl) (.refl h))) (.refl h))

theorem execSupplyFault_writes {ms} (h : s.Inv) (hws : (Instr.supplyFault ms).registers = some ws) :
    Reaches (Writes (Listed ws) s) (execSupplyFault ms s) := by
  have hW := covers_listed (at_ := RegName.At) (M := 0x200840800000000003130C00000000000000200000000000000) hws rfl
  unfold execSupplyFault
  exact .onCharger (.refl h) (.ite (.supplyOff hW.sub (.refl h)) (.refl h))

end Sys2Proof.Machine
end

section
/-! PROOFS. The registers that the operations of the other commands write. -/

namespace Sys2Proof.Machine

set_option Elab.async false

variable {W : Nat → Prop} {s0 s t : State} {ws : List (Nat → Prop)}

/-! ## Clocks -/

theorem execBoscTrimMeasure_writes {cnt} (h : s.Inv) (hws : (Instr.boscTrimMeasure cnt).registers = some ws) :
    Reaches (Writes (Listed ws) s) (execBoscTrimMeasure cnt s) := by
  have hW := covers_listed (at_ := RegName.At) (M := 0x400000000000180000) hws rfl
  unfold execBoscTrimMeasure
  refine .next (.ite (.refl h) (.ite ?_ ?_))
  · refine .quiet (State.report_keeps rfl) (.setf (hW.at0 .CLK_STAT) (.setf (hW.at0 .BOSC_TRIM) (.setf (hW.at0 .BOSC_MEAS)
        (.quiet (State.modClk_keeps rfl) ?_))))
    split
    · exact .quiet (State.reachRtc_keeps rfl) (.refl h)
    · exact .refl h
  · refine .setf (hW.at0 .BOSC_TRIM) (.setf (hW.at0 .BOSC_MEAS) (.quiet (State.modClk_keeps rfl) ?_))
    split
    · exact .quiet (State.reachRtc_keeps rfl) (.refl h)
    · exact .refl h

theorem execClockDividerWrite_writes {core second v} (h : s.Inv) (hws : (Instr.clockDividerWrite core second v).registers = some ws) :
    Reaches (Writes (Listed ws) s) (execClockDividerWrite core second v s) := by
  have hW := covers_listed (at_ := RegName.At) (M := 0x4C0000000000000000) hws rfl
  unfold execClockDividerWrite
  exact .ofUnit (fun _ => .byCore (.refl h) (fun _ h2 => .ite (.clkErr hW.sub h2) (.quiet (State.startRamps_keeps rfl)
      (.wrReg (written_ite (hW.at0 .CLK_DIV1) (hW.at0 .CLK_DIV0)) h2))))

theorem execClockGateWrite_writes {core k v} (h : s.Inv) (hws : (Instr.clockGateWrite core k v).registers = some ws) :
    Reaches (Writes (Listed ws) s) (execClockGateWrite core k v s) := by
  have hW := covers_listed (at_ := RegName.At) (M := 0x500000000000000000) hws rfl
  unfold execClockGateWrite
  exact .ofUnit (fun _ => .byCore (.refl h) (fun _ h2 => .ite (.clkErr hW.sub h2) (.wrReg (hW.at1 .CLK_GATE) h2)))

theorem execClockRampStep_writes (h : s.Inv) (hws : Instr.clockRampStep.registers = some ws) :
    Reaches (Writes (Listed ws) s) (execClockRampStep s) := by
  have hW := covers_listed (at_ := RegName.At) (M := 0x400008000000000000) hws rfl
  unfold execClockRampStep
  refine .next ?_
  split
  · exact .ite (.scaleStep hW.sub (.quiet (State.reach_keeps rfl) (.refl h))) (.refl h)
  · exact .refl h

theorem execPllLock_writes (h : s.Inv) (hws : Instr.pllLock.registers = some ws) : Reaches (Writes (Listed ws) s) (execPllLock s) := by
  have hW := covers_listed (at_ := RegName.At) (M := 0x410000000000000000) hws rfl
  unfold execPllLock
  exact .next (.ite (.quiet (State.modClk_keeps rfl) (.setClkSeq hW.sub (.inc (hW.at0 .CLK_CNT_RELOCK) (.setf (hW.at0 .CLK_STAT) (.refl h))))) (.ite
      (.setf (hW.at0 .CLK_STAT) (.refl h)) (.refl h)))

theorem execReferenceLoss_writes {unlocked} (h : s.Inv) (hws : (Instr.referenceLoss unlocked).registers = some ws) :
    Reaches (Writes (Listed ws) s) (execReferenceLoss unlocked s) := by
  have hW := covers_listed (at_ := RegName.At) (M := 0x608000000000000000) hws rfl
  unfold execReferenceLoss
  refine .next (.ite (.refl h) (.ite ?_ ?_))
  · exact .setf (hW.at0 .CLK_STAT) (.inc (hW.at0 .CLK_CNT_LOSS) (.ite (.refl h) (.setf (hW.at0 .CLK_STAT) (.refl h))))
  · exact .ite (.referenceLost hW.sub (.ite (.refl h) (.setf (hW.at0 .CLK_STAT) (.refl h)))) (.ite (.quiet (State.report_keeps rfl)
        (.setf (hW.at0 .CLK_STAT) (.ite (.refl h) (.setf (hW.at0 .CLK_STAT) (.refl h))))) (.ite (.refl h) (.setf (hW.at0 .CLK_STAT) (.refl h))))

theorem execReferenceOk_writes (h : s.Inv) (hws : Instr.referenceOk.registers = some ws) : Reaches (Writes (Listed ws) s) (execReferenceOk s) := by
  have hW := covers_listed (at_ := RegName.At) (M := 0x400000000000000000) hws rfl
  unfold execReferenceOk
  exact .next (.ite (.setf (hW.at0 .CLK_STAT) (.refl h)) (.refl h))

theorem execReferenceReturn_writes {core v} (h : s.Inv) (hws : (Instr.referenceReturn core v).registers = some ws) :
    Reaches (Writes (Listed ws) s) (execReferenceReturn core v s) := by
  have hW := covers_listed (at_ := RegName.At) (M := 0x420000000000000000) hws rfl
  unfold execReferenceReturn
  exact .ofUnit (fun _ => .byCore (.refl h) (fun _ h2 => .ite (.rampDown hW.sub (.setf (hW.at0 .CLK_CTRL) h2)) (.clkErr hW.sub h2)))

/-! ## Drives -/

theorem execBatterySideLost_writes (h : s.Inv) (hws : Instr.batterySideLost.registers = some ws) :
    Reaches (Writes (Listed ws) s) (execBatterySideLost s) := by
  have hW := covers_listed (at_ := RegName.At) (M := 0x7800003D4850E00300C00003130C00000000004000200002020000000) hws rfl
  unfold execBatterySideLost
  exact .next (.onTeam (.refl h) (.ite (.each (.refl h) (fun _ _ h2 => .ite (.drvSafeEntry hW.sub (.gtrip hW.sub h2)) h2)) (.refl h)))

theorem execDriveOverspeed_writes {d held} (h : s.Inv) (hws : (Instr.driveOverspeed d held).registers = some ws) :
    Reaches (Writes (Listed ws) s) (execDriveOverspeed d held s) := by
  have hW := covers_listed (at_ := RegName.At) (M := 0x800000000000003130C00000000000000200000000000000) hws rfl
  unfold execDriveOverspeed
  exact .ofUnit (fun _ => .onTeam (.refl h) (.ite (.drvFault hW.sub (.refl h)) (.refl h)))

theorem execDriveSafeEntry_writes {d} (h : s.Inv) (hws : (Instr.driveSafeEntry d).registers = some ws) :
    Reaches (Writes (Listed ws) s) (execDriveSafeEntry d s) := by
  have hW := covers_listed (at_ := RegName.At) (M := 0x800000000000003130C00000000000000200000000000000) hws rfl
  unfold execDriveSafeEntry
  exact .ofUnit (fun _ => .onTeam (.refl h) (.ite (.drvSafeEntry hW.sub (.refl h)) (.refl h)))

theorem execDriveStart_writes {d} (h : s.Inv) (hws : (Instr.driveStart d).registers = some ws) :
    Reaches (Writes (Listed ws) s) (execDriveStart d s) := by
  have hW := covers_listed (at_ := RegName.At) (M := 0x18000000008C0180000000007F30E00000000000000380000000046000) hws rfl
  unfold execDriveStart
  refine .ofUnit (fun _ => .onTeam (.refl h) (.ite (.ite (.quiet (State.putNat_keeps rfl) (.refl h)) ?_) (.refl h)))
  exact .ite (.quiet (State.setDrv_keeps rfl) (.quiet (State.setDrv_keeps rfl) (.quiet (State.modDrv_keeps rfl) (.groupStart hW.sub (.drvLoad hW.sub
      (.refl h)))))) (.quiet (State.setDrv_keeps rfl) (.quiet (State.modDrv_keeps rfl) (.groupStart hW.sub (.drvLoad hW.sub (.refl h)))))

theorem execDriveStartTimeout_writes {d} (h : s.Inv) (hws : (Instr.driveStartTimeout d).registers = some ws) :
    Reaches (Writes (Listed ws) s) (execDriveStartTimeout d s) := by
  have hW := covers_listed (at_ := RegName.At) (M := 0x200840800000000003130C00000000000000200000000000000) hws rfl
  unfold execDriveStartTimeout
  exact .ofUnit (fun _ => .onTeam (.refl h) (.ite (.ite (.drvToOff hW.sub (.refl h)) (.drvToOff hW.sub (.quiet (State.reach_keeps rfl) (.refl h))))
      (.refl h)))

theorem execDriveStopTimeout_writes {d} (h : s.Inv) (hws : (Instr.driveStopTimeout d).registers = some ws) :
    Reaches (Writes (Listed ws) s) (execDriveStopTimeout d s) := by
  have hW := covers_listed (at_ := RegName.At) (M := 0x7800003D4850E00300C00003130C00000000004000200002020000000) hws rfl
  unfold execDriveStopTimeout
  refine .ofUnit (fun _ => .onTeam (.refl h) ?_)
  split
  · exact .refl h
  · exact .ite (.drvSafeEntry hW.sub (.gtrip hW.sub (.quiet (State.reach_keeps rfl) (.refl h)))) (.refl h)

theorem execDriveStopped_writes {d} (h : s.Inv) (hws : (Instr.driveStopped d).registers = some ws) :
    Reaches (Writes (Listed ws) s) (execDriveStopped d s) := by
  have hW := covers_listed (at_ := RegName.At) (M := 0x200840800000000003130C00000000000000200000000000000) hws rfl
  unfold execDriveStopped
  exact .ofUnit (fun _ => .onTeam (.refl h) (.ite (.drvToOff hW.sub (.refl h)) (.refl h)))

theorem execEncoderEdge_writes {d a b} (h : s.Inv) (hws : (Instr.encoderEdge d a b).registers = some ws) :
    Reaches (Writes (Listed ws) s) (execEncoderEdge d a b s) := by
  have hW := covers_listed (at_ := RegName.At) (M := 0x18000000000000000000) hws rfl
  unfold execEncoderEdge
  exact .ofUnit (fun _ => .ite (.refl h) (.ite (.quiet (State.modDrv_keeps rfl) (.refl h)) (.ite (.setf (hW.at1 .ENC_STAT)
      (.quiet (State.modDrv_keeps rfl) (.refl h))) (.setf (hW.at1 .ENC_CNT) (.quiet (State.modDrv_keeps rfl) (.refl h))))))

theorem execEncoderIndex_writes {d} (h : s.Inv) (hws : (Instr.encoderIndex d).registers = some ws) :
    Reaches (Writes (Listed ws) s) (execEncoderIndex d s) := by
  have hW := covers_listed (at_ := RegName.At) (M := 0x18000000000000000000) hws rfl
  unfold execEncoderIndex
  exact .ofUnit (fun _ => .ite (.ite (.setf (hW.at1 .ENC_CNT) (.setf (hW.at1 .ENC_STAT) (.refl h))) (.setf (hW.at1 .ENC_STAT) (.refl h))) (.refl h))

theorem execResolverExcitationFault_writes {d ua} (h : s.Inv) (hws : (Instr.resolverExcitationFault d ua).registers = some ws) :
    Reaches (Writes (Listed ws) s) (execResolverExcitationFault d ua s) := by
  have hW := covers_listed (at_ := RegName.At) (M := 0x200000000000000000000000000000000000000000000000000) hws rfl
  unfold execResolverExcitationFault
  exact .ofUnit (fun _ => .ite (.refl h) (.ite (.setf (hW.at1 .RES_STAT) (.refl h)) (.setb (hW.at1 .RES_STAT) (.refl h))))

/-! ## Keeper -/

theorem execBtnPressWake_writes (h : s.Inv) (hws : Instr.btnPressWake.registers = some ws) : Reaches (Writes (Listed ws) s) (execBtnPressWake s) := by
  have hW := covers_listed (at_ := RegName.At) (M := 0x1D4000000000000000000088000000000000000000000000000) hws rfl
  unfold execBtnPressWake
  refine .next ?_
  split
  · exact .keeperWake hW.sub (.quiet (State.reachRtc_keeps rfl) (.refl h))
  · exact .refl h

theorem execLongPress_writes (h : s.Inv) (hws : Instr.longPress.registers = some ws) : Reaches (Writes (Listed ws) s) (execLongPress s) := by
  have hW := covers_listed (at_ := RegName.At) (M := 0x200840800000000000000040000000000000000000000000000) hws rfl
  unfold execLongPress
  refine .next ?_
  split
  · exact .ite (.refl h) (.ite (.quiet (State.modKeeper_keeps rfl) (.stopGens hW.sub (.quiet (State.report_keeps rfl)
        (.quiet (State.modKeeper_keeps rfl) (.quiet (State.reachRtc_keeps rfl) (.refl h)))))) (.inc (hW.at0 .KPR_CNT_LPIGN)
        (.quiet (State.modKeeper_keeps rfl) (.quiet (State.reachRtc_keeps rfl) (.refl h)))))
  · exact .refl h

theorem execLongPressBswClose_writes (h : s.Inv) (hws : Instr.longPressBswClose.registers = some ws) :
    Reaches (Writes (Listed ws) s) (execLongPressBswClose s) := by
  have hW := covers_listed (at_ := RegName.At) (M := 0x1800000000000000000000028000000000000000000000000001) hws rfl
  unfold execLongPressBswClose
  refine .next ?_
  split
  · exact .ite (.quiet (State.modBoot_keeps rfl) (.quiet (State.dtbZero_keeps rfl) (.quiet (State.modKeeper_keeps rfl) (.resetCause hW.sub
        (.inc (hW.at0 .KPR_CNT_LP) (.setf (hW.at0 .KPR_BSTAT) (.quiet (State.reachRtc_keeps rfl) (.refl h)))))))) (.refl h)
  · exact .refl h

theorem execShipModeArm_writes {core} (h : s.Inv) (hws : (Instr.shipModeArm core).registers = some ws) :
    Reaches (Writes (Listed ws) s) (execShipModeArm core s) := by
  have hW := covers_listed (at_ := RegName.At) (M := 0x80000000000000000000000000000) hws rfl
  unfold execShipModeArm
  exact .ofUnit (fun _ => .overBridge (.refl h) (fun _ h2 => .setb (hW.at0 .KPR_SHIP) h2))

theorem execShipModeBswOpen_writes (h : s.Inv) (hws : Instr.shipModeBswOpen.registers = some ws) :
    Reaches (Writes (Listed ws) s) (execShipModeBswOpen s) := by
  have hW := covers_listed (at_ := RegName.At) (M := 0x8000000000000000000000000000) hws rfl
  unfold execShipModeBswOpen
  refine .next ?_
  split
  · exact .setf (hW.at0 .KPR_BSTAT) (.setf (hW.at0 .KPR_BSTAT) (.quiet (State.modKeeper_keeps rfl) (.quiet (State.reachRtc_keeps rfl) (.refl h))))
  · exact .refl h

/-! ## Lv -/

theorem Writes.dcxRelease (hW : Covers RegName.At 0x2000000008000003A0C82000000000000001020000000000000000000 W) (h : Writes W s0 s) :
    Writes W s0 s.dcxRelease := by
  unfold State.dcxRelease
  exact .clearTrips hW.sub (.mgClear hW.sub h)

theorem Writes.buckStart {k} (hW : Covers RegName.At 0x20080D1F0000000001000000000001000000340000000000220 W) (h : Writes W s0 s) :
    Writes W s0 (s.buckStart k) := by
  unfold State.buckStart
  exact .ite h (.cotStart hW.sub h)

theorem execDcxIbGood_writes (h : s.Inv) (hws : Instr.dcxIbGood.registers = some ws) : Reaches (Writes (Listed ws) s) (execDcxIbGood s) := by
  have hW := covers_listed (at_ := RegName.At) (M := 0x840180000000000000000000000000000000000000000000) hws rfl
  unfold execDcxIbGood
  exact .next (.onTeam (.refl h) (.ite (.refl h) (.ite (.quiet (State.setLv_keeps rfl) (.rectifierOn hW.sub (.refl h))) (.ite (.rectifierOn hW.sub
      (.refl h)) (.refl h)))))

theorem execDcxOvercurrent_writes {ma held} (h : s.Inv) (hws : (Instr.dcxOvercurrent ma held).registers = some ws) :
    Reaches (Writes (Listed ws) s) (execDcxOvercurrent ma held s) := by
  have hW := covers_listed (at_ := RegName.At) (M := 0x7800003D4850E00300C00423130C00000000004000200002020000000) hws rfl
  unfold execDcxOvercurrent
  refine .next (.ite (.ite ?_ ?_) (.refl h))
  · exact .hiccup hW.sub (.quiet (State.report_keeps rfl) (.gtrip hW.sub (.inc (hW.at0 .LVC_CNT_HICCUP) (.setf (hW.at0 .LVC_STAT) (.refl h)))))
  · refine .ite ?_ ?_
    · exact .hiccup hW.sub (.buckOff hW.sub (.quiet (State.report_keeps rfl) (.gtrip hW.sub (.inc (hW.at0 .LVC_CNT_HICCUP) (.setf (hW.at0 .LVC_STAT)
          (.refl h))))))
    · exact .ite (.ovHiccup hW.sub (.quiet (State.report_keeps rfl) (.gtrip hW.sub (.inc (hW.at0 .LVC_CNT_HICCUP) (.setf (hW.at0 .LVC_STAT)
          (.refl h)))))) (.quiet (State.report_keeps rfl) (.gtrip hW.sub (.inc (hW.at0 .LVC_CNT_HICCUP) (.setf (hW.at0 .LVC_STAT) (.refl h)))))

theorem execDcxStartTimeout_writes (h : s.Inv) (hws : Instr.dcxStartTimeout.registers = some ws) :
    Reaches (Writes (Listed ws) s) (execDcxStartTimeout s) := by
  have hW := covers_listed (at_ := RegName.At) (M := 0x200840800000000403130C00000000000000200000000000000) hws rfl
  unfold execDcxStartTimeout
  exact .next (.onTeam (.refl h) (.ite (.hiccup hW.sub (.quiet (State.reach_keeps rfl) (.refl h))) (.ite (.ovHiccup hW.sub
      (.quiet (State.reach_keeps rfl) (.refl h))) (.refl h))))

theorem execDcxWaitEnd_writes (h : s.Inv) (hws : Instr.dcxWaitEnd.registers = some ws) : Reaches (Writes (Listed ws) s) (execDcxWaitEnd s) := by
  have hW := covers_listed (at_ := RegName.At) (M := 0x1A00000201BC0F803A0C82007F30E00000001020000380000000000000) hws rfl
  unfold execDcxWaitEnd
  refine .next (.onTeam (.refl h) (.ite ?_ ?_))
  · exact .quiet (State.setLv_keeps rfl) (.dcxForward hW.sub (.dcxRelease hW.sub (.quiet (State.reach_keeps rfl) (.refl h))))
  · refine .ite ?_ (.refl h)
    split
    · exact .refl h
    · exact .quiet (State.modLvSeq_keeps rfl) (.dcxForward hW.sub (.dcxRelease hW.sub (.quiet (State.reach_keeps rfl) (.refl h))))

theorem execLvCheckDone_writes {nodes} (h : s.Inv) (hws : (Instr.lvCheckDone nodes).registers = some ws) :
    Reaches (Writes (Listed ws) s) (execLvCheckDone nodes s) := by
  have hW := covers_listed (at_ := RegName.At) (M := 0x18000002008C0980000000407F30E00000000000000380000000000000) hws rfl
  unfold execLvCheckDone
  exact .next (.onTeam (.refl h) (.ite (.refl h) (.ite (.ite (.lvToFault hW.sub (.setf (hW.at0 .LVC_STAT) (.quiet (State.reach_keeps rfl) (.refl h))))
      (.softStart hW.sub (.quiet (State.reach_keeps rfl) (.refl h)))) (.softStart hW.sub (.refl h)))))

theorem execLvFeedLost_writes {held} (h : s.Inv) (hws : (Instr.lvFeedLost held).registers = some ws) :
    Reaches (Writes (Listed ws) s) (execLvFeedLost held s) := by
  have hW := covers_listed (at_ := RegName.At) (M := 0x200840800000000003130C00000000000000200000000000000) hws rfl
  unfold execLvFeedLost
  exact .next (.onTeam (.refl h) (.ite (.feedClear hW.sub (.quiet (State.modLvSeq_keeps rfl) (.lvToOff hW.sub (.refl h)))) (.refl h)))

theorem execLvOvervoltage_writes {mv held} (h : s.Inv) (hws : (Instr.lvOvervoltage mv held).registers = some ws) :
    Reaches (Writes (Listed ws) s) (execLvOvervoltage mv held s) := by
  have hW := covers_listed (at_ := RegName.At) (M := 0x7800001D4810600000000443000000000000004000200000000000000) hws rfl
  unfold execLvOvervoltage
  exact .next (.ite (.ite (.setf (hW.at0 .LVC_STAT) (.inc (hW.at0 .LVC_CNT_OV) (.lineActive hW.sub (.refl h)))) (.quiet (State.setLv_keeps rfl)
      (.setf (hW.at0 .LVC_STAT) (.inc (hW.at0 .LVC_CNT_OV) (.lineActive hW.sub (.refl h)))))) (.refl h))

theorem execLvPowerGood_writes (h : s.Inv) (hws : Instr.lvPowerGood.registers = some ws) : Reaches (Writes (Listed ws) s) (execLvPowerGood s) := by
  have hW := covers_listed (at_ := RegName.At) (M := 0x400000000000000000000000000000000000) hws rfl
  unfold execLvPowerGood
  exact .next (.onTeam (.refl h) (.ite (.quiet (fun k => Keeps.set_charge rfl k fun i => by simpa using i) (.refreshPg hW.sub
      (.quiet (State.modLvSeq_keeps rfl) (.quiet (State.setLv_keeps rfl) (.refl h))))) (.refl h)))

theorem execLvSequencerStart_writes (h : s.Inv) (hws : Instr.lvSequencerStart.registers = some ws) :
    Reaches (Writes (Listed ws) s) (execLvSequencerStart s) := by
  have hW := covers_listed (at_ := RegName.At) (M := 0x1800000201BC0F80000000007F30E00000000000000380000000000000) hws rfl
  unfold execLvSequencerStart
  exact .next (.onTeam (.refl h) (.ite (.ite (.ite (.quiet (State.setLv_keeps rfl) (.refl h)) (.refl h)) (.ite (.quiet (State.setLv_keeps rfl)
      (.dcxForward hW.sub (.refl h))) (.refl h))) (.refl h)))

theorem execLvSoftstartFail_writes (h : s.Inv) (hws : Instr.lvSoftstartFail.registers = some ws) :
    Reaches (Writes (Listed ws) s) (execLvSoftstartFail s) := by
  have hW := covers_listed (at_ := RegName.At) (M := 0x200840800000000083130C00000000000000200000000000000) hws rfl
  unfold execLvSoftstartFail
  refine .next (.onTeam (.refl h) (.ite (.ite ?_ ?_) (.refl h)))
  · exact .lvToFault hW.sub (.inc (hW.at0 .LVC_CNT_RETRY) (.quiet (State.modLvSeq_keeps rfl) (.buckOff hW.sub (.quiet (State.reach_keeps rfl)
        (.refl h)))))
  · exact .quiet (State.setLv_keeps rfl) (.inc (hW.at0 .LVC_CNT_RETRY) (.quiet (State.modLvSeq_keeps rfl) (.buckOff hW.sub
        (.quiet (State.reach_keeps rfl) (.refl h)))))

theorem execLvStop_writes (h : s.Inv) (hws : Instr.lvStop.registers = some ws) : Reaches (Writes (Listed ws) s) (execLvStop s) := by
  have hW := covers_listed (at_ := RegName.At) (M := 0x200840800000000003130C00000000000000200000000000000) hws rfl
  unfold execLvStop
  exact .next (.onTeam (.refl h) (.ite (.lvToOff hW.sub (.refl h)) (.refl h)))

theorem execLvSupervisorFire_writes (h : s.Inv) (hws : Instr.lvSupervisorFire.registers = some ws) :
    Reaches (Writes (Listed ws) s) (execLvSupervisorFire s) := by
  have hW := covers_listed (at_ := RegName.At) (M := 0x200840800000000003130C00000000000000200000000000000) hws rfl
  unfold execLvSupervisorFire
  refine .next (.onTeam (.refl h) ?_)
  split
  · exact .refl h
  · exact .ite (.quiet (State.modLvSeq_keeps rfl) (.lvToFault hW.sub (.quiet (State.report_keeps rfl) (.quiet (State.reach_keeps rfl) (.refl h)))))
        (.refl h)

theorem execOffTimeComparator_writes (h : s.Inv) (hws : Instr.offTimeComparator.registers = some ws) :
    Reaches (Writes (Listed ws) s) (execOffTimeComparator s) := by
  have hW := covers_listed (at_ := RegName.At) (M := 0x20080D1F0000000001000000000001000000340000000000220) hws rfl
  unfold execOffTimeComparator
  exact .next (.ite (.ite (.quiet (State.modLvSeq_keeps rfl) (.quiet (State.modLvSeq_keeps rfl) (.refl h))) (.buckStart hW.sub
      (.quiet (State.modLvSeq_keeps rfl) (.refl h)))) (.refl h))

theorem execSyncEdge_writes (h : s.Inv) (hws : Instr.syncEdge.registers = some ws) : Reaches (Writes (Listed ws) s) (execSyncEdge s) := by
  have hW := covers_listed (at_ := RegName.At) (M := 0xC00000000000000000000000000000000000) hws rfl
  unfold execSyncEdge
  refine .next ?_
  split
  · exact .quiet (State.modLvSeq_keeps rfl) (.refl h)
  · exact .ite (.setf (hW.at0 .LVC_STAT) (.setf (hW.at0 .LVC_SYNC) (.quiet (State.modLvSeq_keeps rfl) (.refl h)))) (.setf (hW.at0 .LVC_SYNC)
        (.quiet (State.modLvSeq_keeps rfl) (.refl h)))

theorem execSyncLost_writes (h : s.Inv) (hws : Instr.syncLost.registers = some ws) : Reaches (Writes (Listed ws) s) (execSyncLost s) := by
  have hW := covers_listed (at_ := RegName.At) (M := 0xD00000000000000000000000000000000000) hws rfl
  unfold execSyncLost
  refine .next ?_
  split
  · exact .refl h
  · exact .ite (.refl h) (.ite (.inc (hW.at0 .LVC_CNT_SYNCLOSS) (.setf (hW.at0 .LVC_STAT) (.setf (hW.at0 .LVC_SYNC) (.quiet (State.modLvSeq_keeps rfl)
        (.quiet (State.reach_keeps rfl) (.refl h)))))) (.setf (hW.at0 .LVC_SYNC) (.quiet (State.modLvSeq_keeps rfl) (.quiet (State.reach_keeps rfl)
        (.refl h)))))

theorem execValleyLimitRelease_writes {k} (h : s.Inv) (hws : (Instr.valleyLimitRelease k).registers = some ws) :
    Reaches (Writes (Listed ws) s) (execValleyLimitRelease k s) := by
  have hW := covers_listed (at_ := RegName.At) (M := 0x20080D1F0000000001000000000001000000340000000000220) hws rfl
  unfold execValleyLimitRelease
  exact .ofUnit (fun _ => .ite (.buckStart hW.sub (.quiet (State.modLvSeq_keeps rfl) (.refl h))) (.refl h))

/-! ## Martingale -/

theorem execClockSupervisorTrip_writes (h : s.Inv) (hws : Instr.clockSupervisorTrip.registers = some ws) :
    Reaches (Writes (Listed ws) s) (execClockSupervisorTrip s) := by
  have hW := covers_listed (at_ := RegName.At) (M := 0x1024000000000000000000) hws rfl
  unfold execClockSupervisorTrip
  exact .next (.dischargeStart hW.sub (.path2 hW.sub (.path2 hW.sub (.modMg (.refl h)))))

theorem execContactFilterExpiry_writes {idx isB} (h : s.Inv) (hws : (Instr.contactFilterExpiry idx isB).registers = some ws) :
    Reaches (Writes (Listed ws) s) (execContactFilterExpiry idx isB s) := by
  have hW := covers_listed (at_ := RegName.At) (M := 0x7800003D4850E0033809C003000000000001024000200000000000000) hws rfl
  unfold execContactFilterExpiry
  refine .ofUnit (fun _ => ?_)
  dsimp only
  split
  · exact .refl h
  · exact .contactMoves hW.sub (.quiet (State.modInput_keeps rfl) (.quiet (State.reach_keeps rfl) (.refl h)))

theorem execFaultReport_writes {cls scope rx} (h : s.Inv) (hws : (Instr.faultReport cls scope rx).registers = some ws) :
    Reaches (Writes (Listed ws) s) (execFaultReport cls scope rx s) := by
  have hW := covers_listed (at_ := RegName.At) (M := 0x7800003D4850E003A0399003130C00000001024000200002020000000) hws rfl
  unfold execFaultReport
  exact .ofUnit (fun _ => .ite (.ite (.receive hW.sub (.modMg (.refl h))) (.lvReaction hW.sub (.receive hW.sub (.modMg (.refl h))))) (.ite
      (.receive hW.sub (.refl h)) (.refl h)))

theorem execInputDiscrepancyTimeout_writes {idx} (h : s.Inv) (hws : (Instr.inputDiscrepancyTimeout idx).registers = some ws) :
    Reaches (Writes (Listed ws) s) (execInputDiscrepancyTimeout idx s) := by
  have hW := covers_listed (at_ := RegName.At) (M := 0x7800003D4850E0033809C003000000000001024000200000000000000) hws rfl
  unfold execInputDiscrepancyTimeout
  refine .ofUnit (fun _ => ?_)
  dsimp only
  split
  · exact .refl h
  · exact .ite (.inputFault hW.sub (.quiet (State.reach_keeps rfl) (.refl h))) (.quiet (State.modInput_keeps rfl) (.quiet (State.reach_keeps rfl)
        (.refl h)))

theorem execInputFaultRecovery_writes {idx} (h : s.Inv) (hws : (Instr.inputFaultRecovery idx).registers = some ws) :
    Reaches (Writes (Listed ws) s) (execInputFaultRecovery idx s) := by
  have hW := covers_listed (at_ := RegName.At) (M := 0x30000000000000000000000000000000000000000) hws rfl
  unfold execInputFaultRecovery
  refine .ofUnit (fun _ => ?_)
  split
  · exact .refl h
  · exact .ite (.outputs hW.sub (.quiet (State.modInput_keeps rfl) (.setSi hW.sub (.quiet (State.reach_keeps rfl) (.refl h))))) (.refl h)

theorem execMartingaleTick_writes (h : s.Inv) (hws : Instr.martingaleTick.registers = some ws) :
    Reaches (Writes (Listed ws) s) (execMartingaleTick s) := by
  have hW := covers_listed (at_ := RegName.At) (M := 0x7800003D4C50E00362098003000000000001024000200000000000000) hws rfl
  unfold execMartingaleTick
  dsimp only
  have htick : Writes (Listed ws) s ((s.reach (s.nextAt 40000 s.mg.tickAt)).modMg (fun m => { m with tickAt := some (s.reach (s.nextAt 40000 s.mg.tickAt)).dtb })) :=
    .modMg (.quiet (State.reach_keeps rfl) (.refl h))
  generalize (s.reach (s.nextAt 40000 s.mg.tickAt)).modMg (fun m => { m with tickAt := some (s.reach (s.nextAt 40000 s.mg.tickAt)).dtb }) = s1 at htick ⊢
  refine .ite (.next htick) ?_
  have hfirst : Writes (Listed ws) s (s1.stepOf (s1.sensorOf 0)).2.2.2 := .quiet (State.stepOf_keeps rfl) htick
  generalize s1.stepOf (s1.sensorOf 0) = p at hfirst ⊢
  obtain ⟨z0, t0, c0, s2⟩ := p
  dsimp only at hfirst ⊢
  have hsecond : Writes (Listed ws) s (if s1.sensorOf 1 = s1.sensorOf 0 then (z0, t0, c0, s2) else s2.stepOf (s1.sensorOf 1)).2.2.2 := by
    split
    · exact hfirst
    · exact .quiet (State.stepOf_keeps rfl) hfirst
  generalize (if s1.sensorOf 1 = s1.sensorOf 0 then (z0, t0, c0, s2) else s2.stepOf (s1.sensorOf 1)) = q at hsecond ⊢
  obtain ⟨z1, t1, c1, s3⟩ := q
  dsimp only at hsecond ⊢
  exact .next (.driveTick hW.sub (.driveTick hW.sub (.forN (.measure hW.sub (.measure hW.sub hsecond)) (fun _ _ hu => .quiet (State.modMgDrive_keeps rfl) hu))))

theorem execMgClr_writes {core v} (h : s.Inv) (hws : (Instr.mgClr core v).registers = some ws) :
    Reaches (Writes (Listed ws) s) (execMgClr core v s) := by
  have hW := covers_listed (at_ := RegName.At) (M := 0x2000000008000003A0C82000000000000001020000000000000000000) hws rfl
  unfold execMgClr
  exact .ofUnit (fun _ => .mgWrite (.refl h) (fun _ h2 => .ite (.mgClear hW.sub h2) h2))

theorem execMgGtrip_writes {core hi v} (h : s.Inv) (hws : (Instr.mgGtrip core hi v).registers = some ws) :
    Reaches (Writes (Listed ws) s) (execMgGtrip core hi v s) := by
  have hW := covers_listed (at_ := RegName.At) (M := 0x7800003D4850E00300C00003130C00000000004000200002020000000) hws rfl
  unfold execMgGtrip
  exact .ofUnit (fun _ => .mgWrite (.refl h) (fun _ h2 => .ite h2 (.lvReaction hW.sub (.safeGens hW.sub
      (.wrReg (written_ite (hW.at0 .MG_GTRIP_HI) (hW.at0 .MG_GTRIP)) (.each h2 (fun _ _ h4 => .preempt hW.sub h4)))))))

theorem execMgRepa_writes {core v} (h : s.Inv) (hws : (Instr.mgRepa core v).registers = some ws) :
    Reaches (Writes (Listed ws) s) (execMgRepa core v s) := by
  have hW := covers_listed (at_ := RegName.At) (M := 0x2000000000000000000000000000000000000) hws rfl
  unfold execMgRepa
  exact .ofUnit (fun _ => .mgWrite (.refl h) (fun _ h2 => .ite (.quiet (State.report_keeps rfl) h2) (.inc (hW.at0 .MG_CNT_REPREF) h2)))

theorem execMgReps_writes {core v} (h : s.Inv) (hws : (Instr.mgReps core v).registers = some ws) :
    Reaches (Writes (Listed ws) s) (execMgReps core v s) := by
  have hW := covers_listed (at_ := RegName.At) (M := 0x2000000000000000000000000000000000000) hws rfl
  unfold execMgReps
  exact .ofUnit (fun _ => .mgWrite (.refl h) (fun _ h2 => .ite h2 (.ite (.quiet (State.report_keeps rfl) h2) (.inc (hW.at0 .MG_CNT_REPREF) h2))))

theorem execMgSelWrite_writes {core v} (h : s.Inv) (hws : (Instr.mgSelWrite core v).registers = some ws) :
    Reaches (Writes (Listed ws) s) (execMgSelWrite core v s) := by
  have hW := covers_listed (at_ := RegName.At) (M := 0x86000000000000000000000000000000000000000) hws rfl
  unfold execMgSelWrite
  exact .ofUnit (fun _ => .mgWrite (.refl h) (fun _ h2 => .writeSel hW.sub h2))

theorem execModuleDischargeRequest_writes (h : s.Inv) (hws : Instr.moduleDischargeRequest.registers = some ws) :
    Reaches (Writes (Listed ws) s) (execModuleDischargeRequest s) := by
  have hW := covers_listed (at_ := RegName.At) (M := 0x1024000000000000000000) hws rfl
  unfold execModuleDischargeRequest
  exact .next (.ite (.modMg (.dischargeStart hW.sub (.refl h))) (.refl h))

theorem execSafetyInputSample_writes {a b} (h : s.Inv) (hws : (Instr.safetyInputSample a b).registers = some ws) :
    Reaches (Writes (Listed ws) s) (execSafetyInputSample a b s) := by
  have hW := covers_listed (at_ := RegName.At) (M := 0x7800003D4850E0033809C003000000000001024000200000000000000) hws rfl
  unfold execSafetyInputSample
  exact .next (.ite (.forN (.modMg (.quiet (State.reach_keeps rfl) (.refl h))) (fun _ _ h2 => .sampleContact hW.sub (.sampleContact hW.sub h2)))
      (.modMg (.quiet (State.reach_keeps rfl) (.refl h))))

theorem execSafetyLock_writes {core v} (h : s.Inv) (hws : (Instr.safetyLock core v).registers = some ws) :
    Reaches (Writes (Listed ws) s) (execSafetyLock core v s) := by
  have hW := covers_listed (at_ := RegName.At) (M := 0x80020000000000000000000000000000000000000) hws rfl
  unfold execSafetyLock
  exact .ofUnit (fun _ => .access (.refl h) (fun _ h2 => .ite (.modMg h2) (.ite (.ite (.setf (hW.at0 .MG_STAT) (.modMg h2)) (.wr (hW.at0 .MG_CRC)
      (.setf (hW.at0 .MG_STAT) (.quiet (State.drawWord_keeps rfl) (.setf (hW.at0 .MG_STAT) (.modMg h2)))))) (.modMg h2))))

theorem execSafetyOutputFaultClear_writes {core v} (h : s.Inv) (hws : (Instr.safetyOutputFaultClear core v).registers = some ws) :
    Reaches (Writes (Listed ws) s) (execSafetyOutputFaultClear core v s) := by
  have hW := covers_listed (at_ := RegName.At) (M := 0x20000000000000000000000000000000000000000) hws rfl
  unfold execSafetyOutputFaultClear
  exact .ofUnit (fun _ => .mgWrite (.refl h) (fun _ h2 => .outputs hW.sub (.forN h2 (fun _ _ h4 => .ite (.setf (hW.at0 .MG_SOSTAT) h4) h4))))

theorem execSafetyOutputTest_writes {n} (h : s.Inv) (hws : (Instr.safetyOutputTest n).registers = some ws) :
    Reaches (Writes (Listed ws) s) (execSafetyOutputTest n s) := by
  have hW := covers_listed (at_ := RegName.At) (M := 0x20000000000000000000000000000000000000000) hws rfl
  unfold execSafetyOutputTest
  exact .ofUnit (fun _ => .ite (.outputs hW.sub (.modMg (.quiet (State.reach_keeps rfl) (.refl h)))) (.quiet (State.reach_keeps rfl) (.refl h)))

theorem execSafetyOutputTestEnd_writes {n stayedHigh low} (h : s.Inv) (hws : (Instr.safetyOutputTestEnd n stayedHigh low).registers = some ws) :
    Reaches (Writes (Listed ws) s) (execSafetyOutputTestEnd n stayedHigh low s) := by
  have hW := covers_listed (at_ := RegName.At) (M := 0x20000000000000000000000000000000000000000) hws rfl
  unfold execSafetyOutputTestEnd
  refine .ofUnit (fun _ => ?_)
  split
  · exact .refl h
  · exact .ite (.outputs hW.sub (.quiet (State.report_keeps rfl) (.setf (hW.at0 .MG_SOSTAT) (.modMg (.quiet (State.reach_keeps rfl) (.refl h))))))
        (.outputs hW.sub (.modMg (.quiet (State.reach_keeps rfl) (.refl h))))

theorem execSelfTestDone_writes {passed} (h : s.Inv) (hws : (Instr.selfTestDone passed).registers = some ws) :
    Reaches (Writes (Listed ws) s) (execSelfTestDone passed s) := by
  have hW := covers_listed (at_ := RegName.At) (M := 0x80000000000000000000000000000000000000000) hws rfl
  unfold execSelfTestDone
  refine .next ?_
  split
  · exact .refl h
  · exact .ite (.setf (hW.at0 .MG_STAT) (.setf (hW.at0 .MG_STAT) (.modMg (.quiet (State.reach_keeps rfl) (.refl h)))))
        (.quiet (State.report_keeps rfl) (.setf (hW.at0 .MG_STAT) (.setf (hW.at0 .MG_STAT) (.modMg (.quiet (State.reach_keeps rfl) (.refl h))))))

theorem execSelfTestStart_writes {core v} (h : s.Inv) (hws : (Instr.selfTestStart core v).registers = some ws) :
    Reaches (Writes (Listed ws) s) (execSelfTestStart core v s) := by
  have hW := covers_listed (at_ := RegName.At) (M := 0x80040000000000000000000000000000000000200) hws rfl
  unfold execSelfTestStart
  exact .ofUnit (fun _ => .mgWrite (.refl h) (fun _ h2 => .ite (.quiet (State.askMidScale_keeps rfl) (.adcEvent hW.sub (.modMg
      (.setf (hW.at0 .MG_STAT) (.ite (.wrMasked (hW.at0 .MG_CTRL) h2) (.wrReg (hW.at0 .MG_CTRL) h2)))))) (.setf (hW.at0 .MG_STAT) h2)))

theorem execSlpReferenceSet_writes {core v} (h : s.Inv) (hws : (Instr.slpReferenceSet core v).registers = some ws) :
    Reaches (Writes (Listed ws) s) (execSlpReferenceSet core v s) := by
  have hW := covers_listed (at_ := RegName.At) (M := 0x86000000000000000000000000000000000000000) hws rfl
  unfold execSlpReferenceSet
  exact .ofUnit (fun _ => .mgWrite (.refl h) (fun _ h2 => .writeSel hW.sub h2))

theorem execSpeedInvalid_writes {d} (h : s.Inv) (hws : (Instr.speedInvalid d).registers = some ws) :
    Reaches (Writes (Listed ws) s) (execSpeedInvalid d s) := by
  have hW := covers_listed (at_ := RegName.At) (M := 0x1D4400000040088000000000000001020000000000000000000) hws rfl
  unfold execSpeedInvalid
  refine .ofUnit (fun _ => .ite (.ite ?_ ?_) (.refl h))
  · split
    · exact .enterSs1 hW.sub (.ite (.quiet (State.speedFault_keeps rfl) (.speedPattern hW.sub (.setf (hW.at1 .MG_SPD) (.refl h))))
          (.speedPattern hW.sub (.setf (hW.at1 .MG_SPD) (.refl h))))
    · exact .ite (.quiet (State.speedFault_keeps rfl) (.speedPattern hW.sub (.setf (hW.at1 .MG_SPD) (.refl h)))) (.speedPattern hW.sub
          (.setf (hW.at1 .MG_SPD) (.refl h)))
  · exact .ite (.quiet (State.speedFault_keeps rfl) (.speedPattern hW.sub (.setf (hW.at1 .MG_SPD) (.refl h)))) (.speedPattern hW.sub
        (.setf (hW.at1 .MG_SPD) (.refl h)))

theorem execSpeedValid_writes {d} (h : s.Inv) (hws : (Instr.speedValid d).registers = some ws) :
    Reaches (Writes (Listed ws) s) (execSpeedValid d s) := by
  have hW := covers_listed (at_ := RegName.At) (M := 0x400000040000000000000000001020000000000000000000) hws rfl
  unfold execSpeedValid
  exact .ofUnit (fun _ => .ite (.quiet (State.speedSource_keeps rfl) (.speedPattern hW.sub (.setf (hW.at1 .MG_SPD) (.refl h)))) (.refl h))

theorem execSs1RampEnd_writes {d} (h : s.Inv) (hws : (Instr.ss1RampEnd d).registers = some ws) :
    Reaches (Writes (Listed ws) s) (execSs1RampEnd d s) := by
  have hW := covers_listed (at_ := RegName.At) (M := 0x7800003D4850E00320090003000000000001024000200000000000000) hws rfl
  unfold execSs1RampEnd
  exact .ofUnit (fun _ => .ite (.enterSto hW.sub (.quiet (State.reach_keeps rfl) (.refl h))) (.refl h))

/-! ## Mode -/

theorem Writes.boundaryBlocks (hW : Covers RegName.At 0x70000000000000000000000000000000000000000000 W) (h : Writes W s0 s) :
    Writes W s0 s.boundaryBlocks := by
  unfold State.boundaryBlocks
  exact .ite (.quiet (State.yarrowStart_keeps rfl) (.ite (.recordAtMs hW.sub (.quiet (State.staleSweep_keeps rfl) h)) h)) (.ite (.recordAtMs hW.sub
      (.quiet (State.staleSweep_keeps rfl) h)) h)

theorem Writes.boundaryTeams (hW : Covers RegName.At 0x1F800007F49F0F80303C00607F30E02C00000004007B80002020066040 W) (h : Writes W s0 s) :
    Writes W s0 s.boundaryTeams := by
  unfold State.boundaryTeams
  refine .ite ?_ ?_
  · exact .actBoundary hW.sub (.chargeBoundary hW.sub (.ite (.refreshMmreq hW.sub (.quiet (State.publishConditions_keeps rfl) (.modeDeadline hW.sub
        (.refreshPhase hW.sub (.lvBoundary hW.sub (.drvMissCheck hW.sub (.drvMissCheck hW.sub h))))))) h))
  · exact .ite (.refreshMmreq hW.sub (.quiet (State.publishConditions_keeps rfl) (.modeDeadline hW.sub (.refreshPhase hW.sub (.lvBoundary hW.sub
        (.drvMissCheck hW.sub (.drvMissCheck hW.sub h))))))) h

theorem execModeEnteringDone_writes (h : s.Inv) (hws : Instr.modeEnteringDone.registers = some ws) :
    Reaches (Writes (Listed ws) s) (execModeEnteringDone s) := by
  have hW := covers_listed (at_ := RegName.At) (M := 0x7800003F49F0F80303C00003130C00000000004007A00002020000000) hws rfl
  unfold execModeEnteringDone
  exact .next (.ite (.refl h) (.ite (.modeArrived hW.sub (.refl h)) (.refl h)))

theorem execModeLeavingDone_writes (h : s.Inv) (hws : Instr.modeLeavingDone.registers = some ws) :
    Reaches (Writes (Listed ws) s) (execModeLeavingDone s) := by
  have hW := covers_listed (at_ := RegName.At) (M := 0x380840800000000000000000000000000000000000000000000) hws rfl
  unfold execModeLeavingDone
  exact .next (.ite (.refl h) (.ite (.refl h) (.modeLeft hW.sub (.refl h))))

theorem execSystemBoundary1ms_writes (h : s.Inv) (hws : Instr.systemBoundary1ms.registers = some ws) :
    Reaches (Writes (Listed ws) s) (execSystemBoundary1ms s) := by
  have hW := covers_listed (at_ := RegName.At) (M := 0x1F800007F49F0FF0303C00607F30E02C00000004007B80002020066040) hws rfl
  unfold execSystemBoundary1ms
  exact .next (.ite (.boundaryTeams hW.sub (.boundaryBlocks hW.sub (.quiet (State.reach_keeps rfl) (.refl h)))) (.refl h))

/-! ## Paddock -/

theorem Writes.paddockRefuse {core id} (hW : Covers RegName.At 0x7000000000000000000000000000000000000000000 W) (h : Writes W s0 s) :
    Writes W s0 (s.paddockRefuse core id) := by
  unfold State.paddockRefuse
  exact .quiet (State.accessFault_keeps rfl) (.wr (hW.at0 .PDK_REFUSE_SRC) (.wr (hW.at0 .PDK_REFUSE_ID) (.inc (hW.at0 .PDK_REFUSE_CNT) h)))

theorem Writes.pathWrite {id v ts quality ovr lost subst} (hW : Covers RegName.At 0x7800003D4850E00303C00003000000000000004002A00002020000000 W) (h : Writes W s0 s) :
    Writes W s0 (s.pathWrite id v ts quality ovr lost subst) := by
  unfold State.pathWrite
  exact .watchWrite hW.sub (.quiet (State.latchWrite_keeps rfl) (.quiet (State.putSig_keeps rfl) h))

theorem Writes.paddockDrop {id} (hW : Covers RegName.At 0xC00000000000000000000000000000000000000000 W) (h : Writes W s0 s) :
    Writes W s0 (s.paddockDrop id) := by
  unfold State.paddockDrop
  exact .wr (hW.at0 .PDK_DROP_ID) (.inc (hW.at0 .PDK_DROP_CNT) h)

theorem Writes.readInto {e l d sel start v} (hW : Covers RegName.At 0x2000000000000000000000000000000000 W) (h : Writes W s0 s) :
    Writes W s0 (s.readInto e l d sel start v) := by
  unfold State.readInto
  exact .ite (.dSet hW.law h) h

theorem Writes.lawReadDone {sig e l d sel start due} (hW : Covers RegName.At 0x2000000000000000000000000000000000 W) (h : Writes W s0 s) :
    Writes W s0 (s.lawReadDone sig e l d sel start due) := by
  unfold State.lawReadDone
  exact .quiet (State.regsReady_keeps rfl) (.quiet (State.placeFree_keeps rfl) (.readInto hW.sub h))

theorem Writes.tableResult {e l t} (hW : Covers RegName.At 0x2000000000000000000000000000000000 W) (h : Writes W s0 s) :
    Writes W s0 (s.tableResult e l t) := by
  unfold State.tableResult
  exact .quiet (State.regsReady_keeps rfl) (.readInto hW.sub (.readInto hW.sub h))

theorem Writes.lawTableDone {sig e l tab corner} (hW : Covers RegName.At 0x2000000000000000000000000000000000 W) (h : Writes W s0 s) :
    Writes W s0 (s.lawTableDone sig e l tab corner) := by
  unfold State.lawTableDone
  dsimp only
  split
  · exact .quiet (State.placeFree_keeps rfl) h
  · exact .ite (.quiet (State.modLaw_keeps rfl) (.quiet (State.placeFree_keeps rfl) h)) (.tableResult hW.sub (.quiet (State.modLaw_keeps rfl)
        (.quiet (State.placeFree_keeps rfl) h)))

theorem Writes.coreWriteDone {core a size v} (hW : Covers RegName.At 0x7800003D4850E07303C00003000000000000004002A00002020000000 W) (h : Writes W s0 s) :
    Writes W s0 (s.coreWriteDone core a size v) := by
  unfold State.coreWriteDone
  exact .ite (.paddockRefuse hW.sub h) (.ite (.pathWrite hW.sub h) (.pathWrite hW.sub h))

theorem Writes.bankPerform {a} (hW : Covers RegName.At 0x7800103D4850E67F03C000030E4000000000004002A00002020000200 W) (h : Writes W s0 s) :
    Writes W s0 (s.bankPerform a) := by
  unfold State.bankPerform
  have hwrite : ∀ (c : Bool) (v : Word) (ts q : Nat) (o l b : Bool), Writes W s0 (if c then s.pathWrite a.sig v ts q o l b else s.paddockDrop a.sig) :=
    fun _ _ _ _ _ _ _ => .ite (.pathWrite hW.sub h) (.paddockDrop hW.sub h)
  split
  case h_1 u k val quality ovr ts lastOf urgentOf _ =>
    dsimp only
    have hval := hwrite (s.pathOwns a.sig 2 (16 * u + k)) (Wi val) ts quality ovr false false
    generalize (if s.pathOwns a.sig 2 (16 * u + k) then s.pathWrite a.sig (Wi val) ts quality ovr false false else s.paddockDrop a.sig) = s1 at hval ⊢
    cases lastOf with
    | none =>
      cases urgentOf with
      | none => exact hval
      | some r => exact .quiet (State.urgentAnswer_keeps rfl) hval
    | some i =>
      cases urgentOf with
      | none => exact .sequenceComplete hW.sub hval
      | some r => exact .quiet (State.urgentAnswer_keeps rfl) (.sequenceComplete hW.sub hval)
  case h_2 => exact .lawReadDone hW.sub h
  case h_3 => exact .lawTableDone hW.sub h
  case h_4 => exact .quiet (State.placeFree_keeps rfl) (hwrite ..)
  case h_5 => exact .unpacked hW.sub (hwrite ..)
  case h_6 => exact .recordCopy hW.sub h
  case h_7 => exact .quiet (State.modCore_keeps rfl) h
  case h_8 => exact .coreWriteDone hW.sub h
  case h_9 => exact .quiet (State.descWriteDone_keeps rfl) h
  case h_10 => exact .quiet (State.sweepNext_keeps rfl) (.quiet (State.sweepSignal_keeps rfl) h)

theorem execPaddockBankAccess_writes {b} (h : s.Inv) (hws : (Instr.paddockBankAccess b).registers = some ws) :
    Reaches (Writes (Listed ws) s) (execPaddockBankAccess b s) := by
  have hW := covers_listed (at_ := RegName.At) (M := 0x7800103D4850E67F03C000030E4000000000004002A00002020000200) hws rfl
  unfold execPaddockBankAccess
  refine .ofUnit (fun _ => .ite (.refl h) ?_)
  split
  · exact .refl h
  · exact .bankPerform hW.sub (.quiet (State.modPaddock_keeps rfl) (.quiet (State.reach_keeps rfl) (.refl h)))

/-! ## Power -/

theorem execDomainTransitionDone_writes {d} (h : s.Inv) (hws : (Instr.domainTransitionDone d).registers = some ws) :
    Reaches (Writes (Listed ws) s) (execDomainTransitionDone d s) := by
  have hW := covers_listed (at_ := RegName.At) (M := 0x1800000580000000000000000000000000001020000000000000050800) hws rfl
  unfold execDomainTransitionDone
  refine .ofUnit (fun _ => ?_)
  split
  · exact .transitionDone hW.sub (.refl h)
  · exact .refl h

theorem execPlugDetection_writes (h : s.Inv) (hws : Instr.plugDetection.registers = some ws) :
    Reaches (Writes (Listed ws) s) (execPlugDetection s) := by
  have hW := covers_listed (at_ := RegName.At) (M := 0x1D4000000000000000000088000000000000000000000000000) hws rfl
  unfold execPlugDetection
  exact .next (.ite (.keeperWake hW.sub (.refl h)) (.refl h))

theorem execPowerRequest_writes {core v} (h : s.Inv) (hws : (Instr.powerRequest core v).registers = some ws) :
    Reaches (Writes (Listed ws) s) (execPowerRequest core v s) := by
  have hW := covers_listed (at_ := RegName.At) (M := 0x1FC000000000000000000100000000000000000000C00000000) hws rfl
  unfold execPowerRequest
  exact .ofUnit (fun _ => .byCore (.refl h) (fun _ h2 => .powerRequest hW.sub h2))

theorem execRtcAlarm_writes (h : s.Inv) (hws : Instr.rtcAlarm.registers = some ws) : Reaches (Writes (Listed ws) s) (execRtcAlarm s) := by
  have hW := covers_listed (at_ := RegName.At) (M := 0x1D4000000000000000000088000000000000000000000000000) hws rfl
  unfold execRtcAlarm
  exact .next (.ite (.refl h) (.keeperWake hW.sub (.refl h)))

theorem execWakePinRise_writes (h : s.Inv) (hws : Instr.wakePinRise.registers = some ws) : Reaches (Writes (Listed ws) s) (execWakePinRise s) := by
  have hW := covers_listed (at_ := RegName.At) (M := 0x1D4000000000000000000088000000000000000000000000000) hws rfl
  unfold execWakePinRise
  exact .next (.ite (.refl h) (.keeperWake hW.sub (.refl h)))

/-! ## ReadOps -/

theorem Writes.plainRead {core a} (ha : W a) (h : Writes W s0 s) : Writes W s0 (s.plainRead core a).2 := by
  unfold State.plainRead
  split
  · split
    · exact h
    · exact .wr ha h
  · exact h

theorem Writes.registerRead {core a} (hW : Covers RegName.At 0x2000000000 W) (ha : W a) (h : Writes W s0 s) :
    Writes W s0 (s.registerRead core a) := by
  unfold State.registerRead
  exact .ite (.quiet (State.dtbRead_keeps rfl) h) (.ite (.fwqRead hW.sub h) (.ite (.ite (.quiet (State.irqClaim_keeps rfl) h)
      (.quiet (State.returns_keeps rfl) h)) (.ite (.quiet (State.returns_keeps rfl) (.quiet (State.drawWord_keeps rfl) h))
      (.quiet (State.returns_keeps rfl) (.plainRead ha h)))))

theorem Writes.coreLoad {core a size} (hW : Covers RegName.At 0x2000000000 W) (ha : W a) (h : Writes W s0 s) :
    Writes W s0 (s.coreLoad core a size) := by
  unfold State.coreLoad
  exact .ite (.quiet (State.coreAccess_keeps rfl) h) (.ite (.access h (fun _ h2 => .ite (.registerRead hW.sub ha h2)
      (.quiet (State.narrowRead_keeps rfl) h2))) (.access h (fun _ h4 => .quiet (State.modCore_keeps rfl) h4)))

/-! ## Registers -/

theorem Writes.fwTaken {core i f} (hW : Covers RegName.At 0x2000000000 W) (h : Writes W s0 s) (hf : ∀ t, Writes W s0 t → Writes W s0 (f t)) :
    Writes W s0 (s.fwTaken core i f) := by
  unfold State.fwTaken
  split
  · exact hf s h
  · exact .brdErr hW.sub h

theorem Writes.brdWrite {core a v} (hW : Covers RegName.At 0x2000000000 W) (ha : W a) (h : Writes W s0 s) : Writes W s0 (s.brdWrite core a v) := by
  unfold State.brdWrite
  dsimp only
  refine .ite (.ite (.setf ha (.wrExcept ha h)) (.wrExcept ha h)) (.ite ?_ (.ite ?_ (.ite ?_ (.ite h (.wrReg ha h)))))
  · exact .fwTaken hW.sub h (fun _ hu => .modBridle hu)
  · exact .fwTaken hW.sub h (fun _ hu => .quiet (State.modSlot_keeps rfl) hu)
  · exact .fwTaken hW.sub h (fun _ hu => .wrReg ha hu)

theorem execRcCounterRead_writes {core a} (h : s.Inv) (hws : (Instr.rcCounterRead core a).registers = some ws) :
    Reaches (Writes (Listed ws) s) (execRcCounterRead core a s) := by
  obtain ⟨ha, hW⟩ := covers_listed_at (M := 0x2000000000) hws rfl
  unfold execRcCounterRead
  exact .ofUnit (fun _ => .coreLoad hW.sub ha (.refl h))

theorem execRegisterWrite_writes {core a v} (h : s.Inv) (hws : (Instr.registerWrite core a v).registers = some ws) :
    Reaches (Writes (Listed ws) s) (execRegisterWrite core a v s) := by
  obtain ⟨ha, hW⟩ := covers_listed_at (M := 0x1A0140083D6C500080A000000000000300080102400019A002C00010040) hws rfl
  unfold execRegisterWrite
  exact .ofUnit (fun _ => .ite (.byCore (.refl h) (fun _ h2 => .quiet (State.sramStore_keeps rfl) h2)) (.ite (.quiet (State.coreAccess_keeps rfl)
      (.refl h)) (.access (.refl h) (fun _ h4 => .ite (.brdWrite hW.sub ha h4) (.blockWrite hW.sub ha h4)))))

/-! ## Security -/

theorem Writes.debugOpen {level} (hW : Covers RegName.At 0x7800803D4850E003A0399003000000000001024000200002020000000 W) (h : Writes W s0 s) :
    Writes W s0 (s.debugOpen level) := by
  unfold State.debugOpen
  exact .quiet (State.modSecure_keeps rfl) (.setf (hW.at0 .SEC_DBGST) (.ite (.receive hW.sub h) h))

theorem Writes.secErr (hW : Covers RegName.At 0x400000000000000000000000000000000000000000000000000000 W) (h : Writes W s0 s) :
    Writes W s0 s.secErr := by
  unfold State.secErr
  exact .setf (hW.at0 .SEC_VST) h

theorem Writes.secAccess {core f} (h : Writes W s0 s) (hf : ∀ t, Writes W s0 t → Writes W s0 (f t)) : Writes W s0 (s.secAccess core f) :=
  .access h hf

theorem Writes.raiseCounters (hW : Covers RegName.At 0x200000000000000000000000000000000000000000000000000000 W) (h : Writes W s0 s) :
    Writes W s0 s.raiseCounters := by
  unfold State.raiseCounters
  exact .each h (fun _ _ h2 => .ite (.setf (hW.at0 .SEC_RBCNT) h2) h2)

theorem Writes.debugFailed (hW : Covers RegName.At 0x80000000000000000000000000000000000000000000000000000 W) (h : Writes W s0 s) :
    Writes W s0 s.debugFailed := by
  unfold State.debugFailed
  exact .setb (hW.at0 .SEC_DBGST) (.setf (hW.at0 .SEC_DBGST) h)

theorem execBootConfirm_writes {core} (h : s.Inv) (hws : (Instr.bootConfirm core).registers = some ws) :
    Reaches (Writes (Listed ws) s) (execBootConfirm core s) := by
  have hW := covers_listed (at_ := RegName.At) (M := 0x200000000000000000000000000000000000000000000000000000) hws rfl
  unfold execBootConfirm
  exact .ofUnit (fun _ => .secAccess (.refl h) (fun _ h2 => .ite (.raiseCounters hW.sub (.quiet (State.programRecord_keeps rfl) h2))
      (.quiet (State.accessFault_keeps rfl) h2)))

theorem execDebugChallengeRead_writes (h : s.Inv) (hws : Instr.debugChallengeRead.registers = some ws) :
    Reaches (Writes (Listed ws) s) (execDebugChallengeRead s) := by
  have hW := covers_listed (at_ := RegName.At) (M := 0x40000000000000000000000000000000000000000000000000000) hws rfl
  unfold execDebugChallengeRead
  exact .next (.ite (.refl h) (.quiet (State.modSecure_keeps rfl) (.forN (.quiet (State.drawBytes_keeps rfl) (.refl h))
      (fun _ _ h2 => .wr (hW.at1 .SEC_DBGCH) h2))))

theorem execDebugUnlock_writes (h : s.Inv) (hws : Instr.debugUnlock.registers = some ws) : Reaches (Writes (Listed ws) s) (execDebugUnlock s) := by
  have hW := covers_listed (at_ := RegName.At) (M := 0x80000000000000000000000000000000000000000000000000000) hws rfl
  unfold execDebugUnlock
  exact .next (.ite (.refl h) (.quiet (State.modSecure_keeps rfl) (.setf (hW.at0 .SEC_DBGST) (.refl h))))

theorem execDebugUnlockDone_writes (h : s.Inv) (hws : Instr.debugUnlockDone.registers = some ws) :
    Reaches (Writes (Listed ws) s) (execDebugUnlockDone s) := by
  have hW := covers_listed (at_ := RegName.At) (M := 0x7800803D4850E003A0399003000000000001024000200002020000000) hws rfl
  unfold execDebugUnlockDone
  exact .next (.ite (.refl h) (.irq hW.sub (.ite (.debugOpen hW.sub (.quiet (State.modSecure_keeps rfl) (.setf (hW.at0 .SEC_DBGST) (.refl h))))
      (.debugFailed hW.sub (.quiet (State.modSecure_keeps rfl) (.setf (hW.at0 .SEC_DBGST) (.refl h)))))))

theorem execImageVerify_writes {core v} (h : s.Inv) (hws : (Instr.imageVerify core v).registers = some ws) :
    Reaches (Writes (Listed ws) s) (execImageVerify core v s) := by
  have hW := covers_listed (at_ := RegName.At) (M := 0x400000000000000000000000000000000000000000000000000000) hws rfl
  unfold execImageVerify
  exact .ofUnit (fun _ => .secAccess (.refl h) (fun _ h2 => .ite (.secErr hW.sub h2) (.ite (.quiet (State.modSecure_keeps rfl)
      (.setf (hW.at0 .SEC_VST) h2)) h2)))

theorem execImageVerifyDone_writes (h : s.Inv) (hws : Instr.imageVerifyDone.registers = some ws) :
    Reaches (Writes (Listed ws) s) (execImageVerifyDone s) := by
  have hW := covers_listed (at_ := RegName.At) (M := 0x4001D4000000000000000000000000000000000000000000000000) hws rfl
  unfold execImageVerifyDone
  refine .next ?_
  split
  · exact .refl h
  · exact .irq hW.sub (.quiet (State.modSecure_keeps rfl) (.setf (hW.at0 .SEC_VST) (.setf (hW.at0 .SEC_VST) (.setf (hW.at0 .SEC_VST)
        (.setf (hW.at0 .SEC_VST) (.refl h))))))

theorem execMeasurementExtend_writes {core n} (h : s.Inv) (hws : (Instr.measurementExtend core n).registers = some ws) :
    Reaches (Writes (Listed ws) s) (execMeasurementExtend core n s) := by
  have hW := covers_listed (at_ := RegName.At) (M := 0x500000000000000000000000000000000000000000000000000000) hws rfl
  unfold execMeasurementExtend
  exact .ofUnit (fun _ => .secAccess (.refl h) (fun _ h2 => .ite (.extend hW.sub h2) (.secErr hW.sub h2)))

/-! ## Teams -/

theorem execDoubleBitL1Error_writes {core} (h : s.Inv) (hws : (Instr.doubleBitL1Error core).registers = some ws) :
    Reaches (Writes (Listed ws) s) (execDoubleBitL1Error core s) := by
  have hW := covers_listed (at_ := RegName.At) (M := 0x1000000000000000000000000) hws rfl
  unfold execDoubleBitL1Error
  exact .ofUnit (fun _ => .ite (.refl h) (.inc (hW.at1 .HARN_CNT_MIS) (.quiet (State.accessFault_keeps rfl) (.refl h))))

theorem execForcedBarrier_writes {t} (h : s.Inv) (hws : (Instr.forcedBarrier t).registers = some ws) :
    Reaches (Writes (Listed ws) s) (execForcedBarrier t s) := by
  have hW := covers_listed (at_ := RegName.At) (M := 0x100000000000000000000000000) hws rfl
  unfold execForcedBarrier
  refine .ofUnit (fun _ => ?_)
  split
  · exact .ite (.startBarrier hW.sub (.quiet (State.reach_keeps rfl) (.refl h))) (.refl h)
  · exact .refl h

theorem execMachineTimerInterrupt_writes {core} (h : s.Inv) (hws : (Instr.machineTimerInterrupt core).registers = some ws) :
    Reaches (Writes (Listed ws) s) (execMachineTimerInterrupt core s) := by
  have hW := covers_listed (at_ := RegName.At) (M := 0x1D4000000000000000000000000000000000000000000000000) hws rfl
  unfold execMachineTimerInterrupt
  exact .ofUnit (fun _ => .ite (.refl h) (.ite (.wakeTeam hW.sub (.quiet (State.reach_keeps rfl) (.refl h))) (.each (.quiet (State.reach_keeps rfl)
      (.refl h)) (fun _ _ h2 => .quiet (State.modTeamCore_keeps rfl) h2))))

theorem execNoMajorityMismatch_writes {t kind odd} (h : s.Inv) (hws : (Instr.noMajorityMismatch t kind odd).registers = some ws) :
    Reaches (Writes (Listed ws) s) (execNoMajorityMismatch t kind odd s) := by
  have hW := covers_listed (at_ := RegName.At) (M := 0x1D40000000000000000000001D1000000000000000000000000) hws rfl
  unfold execNoMajorityMismatch
  exact .ofUnit (fun _ => .ite (.refl h) (.noMajority hW.sub (.refl h)))

theorem execReharnessDone_writes {t stall} (h : s.Inv) (hws : (Instr.reharnessDone t stall).registers = some ws) :
    Reaches (Writes (Listed ws) s) (execReharnessDone t stall s) := by
  have hW := covers_listed (at_ := RegName.At) (M := 0x122000000000000000000000000) hws rfl
  unfold execReharnessDone
  refine .ofUnit (fun _ => ?_)
  split
  · exact .ite (.reharness hW.sub (.quiet (State.reach_keeps rfl) (.refl h))) (.refl h)
  · exact .refl h

theorem execReharnessFence_writes {core req} (h : s.Inv) (hws : (Instr.reharnessFence core req).registers = some ws) :
    Reaches (Writes (Listed ws) s) (execReharnessFence core req s) := by
  have hW := covers_listed (at_ := RegName.At) (M := 0x104000000000000000000000000) hws rfl
  unfold execReharnessFence
  exact .ofUnit (fun _ => .ite (.refl h) (.reharnessFence hW.sub (.refl h)))

theorem execRejoinDone_writes {t stall} (h : s.Inv) (hws : (Instr.rejoinDone t stall).registers = some ws) :
    Reaches (Writes (Listed ws) s) (execRejoinDone t stall s) := by
  have hW := covers_listed (at_ := RegName.At) (M := 0x1FC000000000000000000100128000000000000000C00000000) hws rfl
  unfold execRejoinDone
  refine .ofUnit (fun _ => ?_)
  split
  · exact .ite (.rejoin hW.sub (.quiet (State.reach_keeps rfl) (.refl h))) (.refl h)
  · exact .refl h

theorem execRejoinRequest_writes {core v} (h : s.Inv) (hws : (Instr.rejoinRequest core v).registers = some ws) :
    Reaches (Writes (Listed ws) s) (execRejoinRequest core v s) := by
  have hW := covers_listed (at_ := RegName.At) (M := 0x100000000000000000000000000) hws rfl
  unfold execRejoinRequest
  exact .ofUnit (fun _ => .access (.refl h) (fun _ h2 => .ite (.startBarrier hW.sub h2) h2))

theorem execSoftwareInterrupt_writes {core clear v} (h : s.Inv) (hws : (Instr.softwareInterrupt core clear v).registers = some ws) :
    Reaches (Writes (Listed ws) s) (execSoftwareInterrupt core clear v s) := by
  have hW := covers_listed (at_ := RegName.At) (M := 0x1D4000000000000000000004000000000000000000000000000) hws rfl
  unfold execSoftwareInterrupt
  exact .ofUnit (fun _ => .access (.refl h) (fun _ h2 => .ite (.each h2
      (fun _ _ h4 => .quiet (fun k => Keeps.set_irqPend rfl k fun i => by simpa using i) (.setf (hW.at1 .IRQ_SWI) h4))) (.each h2
      (fun _ _ h6 => .irqBy hW.sub (.setf (hW.at1 .IRQ_SWI) h6)))))

theorem execTeamARelease_writes {core v} (h : s.Inv) (hws : (Instr.teamARelease core v).registers = some ws) :
    Reaches (Writes (Listed ws) s) (execTeamARelease core v s) := by
  have hW := covers_listed (at_ := RegName.At) (M := 0x400000000000000000000000110000000000000000000000000) hws rfl
  unfold execTeamARelease
  exact .ofUnit (fun _ => .access (.refl h) (fun _ h2 => .ite (.releaseTeamA hW.sub h2) h2))

theorem execTroikaMismatch_writes {t odd kind} (h : s.Inv) (hws : (Instr.troikaMismatch t odd kind).registers = some ws) :
    Reaches (Writes (Listed ws) s) (execTroikaMismatch t odd kind s) := by
  have hW := covers_listed (at_ := RegName.At) (M := 0x1D40000000000000000000001D1000000000000000000000000) hws rfl
  unfold execTroikaMismatch
  exact .ofUnit (fun _ => .ite (.refl h) (.ite (.troikaMismatch hW.sub (.refl h)) (.noMajority hW.sub (.refl h))))

theorem execWatchdogWarning_writes {t n} (h : s.Inv) (hws : (Instr.watchdogWarning t n).registers = some ws) :
    Reaches (Writes (Listed ws) s) (execWatchdogWarning t n s) := by
  have hW := covers_listed (at_ := RegName.At) (M := 0x200000001D4000000000000000000000000000000000000000000000000) hws rfl
  unfold execWatchdogWarning
  exact .ofUnit (fun _ => .ite (.irq hW.sub (.setf (hW.at2 .WDG_STAT) (.quiet (State.reach_keeps rfl) (.refl h)))) (.refl h))

theorem execWfi_writes {core} (h : s.Inv) (hws : (Instr.wfi core).registers = some ws) : Reaches (Writes (Listed ws) s) (execWfi core s) := by
  have hW := covers_listed (at_ := RegName.At) (M := 0x1FC000000000000000000100100000000000000000C00000000) hws rfl
  unfold execWfi
  refine .ofUnit (fun _ => .ite (.refl h) (.ite (.refl h) (.ite ?_ ?_)))
  · exact .startBarrier hW.sub (.each (.refl h) (fun _ _ h2 => .ite h2 (.quiet (State.modTeamCore_keeps rfl) h2)))
  · exact .ite (.quiet (State.modHarn_keeps rfl) (.each (.refl h) (fun _ _ h4 => .ite h4 (.quiet (State.modTeamCore_keeps rfl) h4)))) (.ite
        (.powerEvaluate hW.sub (.each (.refl h) (fun _ _ h6 => .ite h6 (.quiet (State.modTeamCore_keeps rfl) h6)))) (.each (.refl h)
        (fun _ _ h8 => .ite h8 (.quiet (State.modTeamCore_keeps rfl) h8))))

/-! ## Thermal -/

theorem execEventRecordCopy_writes (h : s.Inv) (hws : Instr.eventRecordCopy.registers = some ws) :
    Reaches (Writes (Listed ws) s) (execEventRecordCopy s) := by
  have hW := covers_listed (at_ := RegName.At) (M := 0x18000000000000000000000000000000000000000000000000000000) hws rfl
  unfold execEventRecordCopy
  exact .next (.copyRecord hW.sub (.refl h))

theorem execZoneEvaluation_writes {z} (h : s.Inv) (hws : (Instr.zoneEvaluation z).registers = some ws) :
    Reaches (Writes (Listed ws) s) (execZoneEvaluation z s) := by
  have hW := covers_listed (at_ := RegName.At) (M := 0x738001D4000000000000000000000000000000000000000000000000) hws rfl
  unfold execZoneEvaluation
  refine .ofUnit (fun _ => ?_)
  split
  · exact .ite (.evaluateZone hW.sub (.quiet (State.reach_keeps rfl) (.refl h))) (.refl h)
  · exact .refl h

end Sys2Proof.Machine
end

section
/-! PROOFS. A command leaves every register but those that it lists (R17). -/

namespace Sys2Proof.Machine

set_option Elab.async false

variable {s : State}

/-- A command that may change registers writes those that it lists. -/
theorem writes_registers (h : s.Inv) {c : Instr} {ws : List (Nat → Prop)} (hws : c.registers = some ws) (hregs : decide (Part.regs ∈ c.parts) = true) :
    Reaches (Writes (Listed ws) s) (exec c s) := by
  cases c
  case registerWrite => exact execRegisterWrite_writes h hws
  case rcCounterRead => exact execRcCounterRead_writes h hws
  case systemBoundary1ms => exact execSystemBoundary1ms_writes h hws
  case modeLeavingDone => exact execModeLeavingDone_writes h hws
  case modeEnteringDone => exact execModeEnteringDone_writes h hws
  case paddockBankAccess => exact execPaddockBankAccess_writes h hws
  case generatorPeriodStart => exact execGeneratorPeriodStart_writes h hws
  case generatorCentre => exact execGeneratorCentre_writes h hws
  case compareAMatch => exact execCompareAMatch_writes h hws
  case referenceEdge => exact execReferenceEdge_writes h hws
  case stretchTurnOff => exact execStretchTurnOff_writes h hws
  case pwmEnable => exact execPwmEnable_writes h hws
  case pwmDisable => exact execPwmDisable_writes h hws
  case pwmGstart => exact execPwmGstart_writes h hws
  case pwmCmpWrite => exact execPwmCmpWrite_writes h hws
  case pwmPerWrite => exact execPwmPerWrite_writes h hws
  case pwmTripClear => exact execPwmTripClear_writes h hws
  case cotStartEvent => exact execCotStartEvent_writes h hws
  case cotMinOffEnd => exact execCotMinOffEnd_writes h hws
  case cotForcedStart => exact execCotForcedStart_writes h hws
  case yarrowMeasurementDone => exact execYarrowMeasurementDone_writes h hws
  case tripInFilterExpiry => exact execTripInFilterExpiry_writes h hws
  case lawLateMiss => exact execLawLateMiss_writes h hws
  case lawOutputWrite => exact execLawOutputWrite_writes h hws
  case lawFallbackWrite => exact execLawFallbackWrite_writes h hws
  case lawEnable => exact execLawEnable_writes h hws
  case staticCheckDone => exact execStaticCheckDone_writes h hws
  case lawDisable => exact execLawDisable_writes h hws
  case ceDisable => exact execCeDisable_writes h hws
  case ceEccDoubleError => exact execCeEccDoubleError_writes h hws
  case coefMemWritePerformed => exact execCoefMemWritePerformed_writes h hws
  case lookaheadStart => exact execLookaheadStart_writes h hws
  case canEnd => exact execCanEnd_writes h hws
  case canLdi => exact execCanLdi_writes h hws
  case canMov => exact execCanMov_writes h hws
  case canAdd => exact execCanAdd_writes h hws
  case canSub => exact execCanSub_writes h hws
  case canNeg => exact execCanNeg_writes h hws
  case canAbs => exact execCanAbs_writes h hws
  case canMin => exact execCanMin_writes h hws
  case canMax => exact execCanMax_writes h hws
  case canLim => exact execCanLim_writes h hws
  case canShf => exact execCanShf_writes h hws
  case canAddw => exact execCanAddw_writes h hws
  case canMul => exact execCanMul_writes h hws
  case canMac => exact execCanMac_writes h hws
  case canMsu => exact execCanMsu_writes h hws
  case canMulc => exact execCanMulc_writes h hws
  case canMacc => exact execCanMacc_writes h hws
  case canDmac => exact execCanDmac_writes h hws
  case canDot => exact execCanDot_writes h hws
  case canLda => exact execCanLda_writes h hws
  case canAdda => exact execCanAdda_writes h hws
  case canSuba => exact execCanSuba_writes h hws
  case canSha => exact execCanSha_writes h hws
  case canSt => exact execCanSt_writes h hws
  case canSincos => exact execCanSincos_writes h hws
  case canPark => exact execCanPark_writes h hws
  case canIpark => exact execCanIpark_writes h hws
  case canClarke => exact execCanClarke_writes h hws
  case canSvm => exact execCanSvm_writes h hws
  case canDiv => exact execCanDiv_writes h hws
  case canSqrt => exact execCanSqrt_writes h hws
  case canTlu => exact execCanTlu_writes h hws
  case canLdk => exact execCanLdk_writes h hws
  case canLdc => exact execCanLdc_writes h hws
  case canLdu => exact execCanLdu_writes h hws
  case canInt => exact execCanInt_writes h hws
  case canPrd => exact execCanPrd_writes h hws
  case canSel => exact execCanSel_writes h hws
  case canCorr => exact execCanCorr_writes h hws
  case adcTriggerDelayEnd => exact execAdcTriggerDelayEnd_writes h hws
  case adcSlotStart => exact execAdcSlotStart_writes h hws
  case adcConversionEnd => exact execAdcConversionEnd_writes h hws
  case urgentRequestEffect => exact execUrgentRequestEffect_writes h hws
  case adcSwtrgWrite => exact execAdcSwtrgWrite_writes h hws
  case adcCalStart => exact execAdcCalStart_writes h hws
  case adcCalDone => exact execAdcCalDone_writes h hws
  case adcDisable => exact execAdcDisable_writes h hws
  case triggerTimerFire => exact execTriggerTimerFire_writes h hws
  case gateCommandArrival => exact execGateCommandArrival_writes h hws
  case plateauExit => exact execPlateauExit_writes h hws
  case slopeTimeout => exact execSlopeTimeout_writes h hws
  case gateSenseMidpoint => exact execGateSenseMidpoint_writes h hws
  case qualificationTimeout => exact execQualificationTimeout_writes h hws
  case linkLoss => exact execLinkLoss_writes h hws
  case biasUndervoltage => exact execBiasUndervoltage_writes h hws
  case biasRecovery => exact execBiasRecovery_writes h hws
  case lvOvercurrent => exact execLvOvercurrent_writes h hws
  case lvBootstrapUv => exact execLvBootstrapUv_writes h hws
  case lvBootstrapRecovery => exact execLvBootstrapRecovery_writes h hws
  case senseCellDetection => exact execSenseCellDetection_writes h hws
  case softTurnOffEnd => exact execSoftTurnOffEnd_writes h hws
  case probeGateLoopDone => exact execProbeGateLoopDone_writes h hws
  case probeBridgeDone => exact execProbeBridgeDone_writes h hws
  case gdcProbeStart => exact execGdcProbeStart_writes h hws
  case drvEnFilteredLow => exact execDrvEnFilteredLow_writes h hws
  case drvEnFilteredRise => exact execDrvEnFilteredRise_writes h hws
  case startSequenceProbe => exact execStartSequenceProbe_writes h hws
  case dclMeasSample => exact execDclMeasSample_writes h hws
  case chopperOn => exact execChopperOn_writes h hws
  case chopperOff => exact execChopperOff_writes h hws
  case hardOvervoltage => exact execHardOvervoltage_writes h hws
  case hardOvervoltageRelease => exact execHardOvervoltageRelease_writes h hws
  case forcedDischargeRequest => exact execForcedDischargeRequest_writes h hws
  case forcedDischargeDone => exact execForcedDischargeDone_writes h hws
  case forcedDischargeTimeout => exact execForcedDischargeTimeout_writes h hws
  case path2TurnOn => exact execPath2TurnOn_writes h hws
  case driveStart => exact execDriveStart_writes h hws
  case driveStartTimeout => exact execDriveStartTimeout_writes h hws
  case driveStopped => exact execDriveStopped_writes h hws
  case driveStopTimeout => exact execDriveStopTimeout_writes h hws
  case driveSafeEntry => exact execDriveSafeEntry_writes h hws
  case driveOverspeed => exact execDriveOverspeed_writes h hws
  case batterySideLost => exact execBatterySideLost_writes h hws
  case encoderEdge => exact execEncoderEdge_writes h hws
  case encoderIndex => exact execEncoderIndex_writes h hws
  case resolverExcitationFault => exact execResolverExcitationFault_writes h hws
  case pilotPeriodCapture => exact execPilotPeriodCapture_writes h hws
  case pilotStateDecode => exact execPilotStateDecode_writes h hws
  case inletEnergize => exact execInletEnergize_writes h hws
  case inletPhasesValid => exact execInletPhasesValid_writes h hws
  case inletEnergizeTimeout => exact execInletEnergizeTimeout_writes h hws
  case inletSourceLoss => exact execInletSourceLoss_writes h hws
  case handoverTimeout => exact execHandoverTimeout_writes h hws
  case inletCableRemoved => exact execInletCableRemoved_writes h hws
  case inletModeLeft => exact execInletModeLeft_writes h hws
  case srcFaultRecover => exact execSrcFaultRecover_writes h hws
  case chargeRequest => exact execChargeRequest_writes h hws
  case chargeQualified => exact execChargeQualified_writes h hws
  case chargeQualifyTimeout => exact execChargeQualifyTimeout_writes h hws
  case chargeCvReached => exact execChargeCvReached_writes h hws
  case chargeTermination => exact execChargeTermination_writes h hws
  case chargeTopoffEnd => exact execChargeTopoffEnd_writes h hws
  case chargeRecharge => exact execChargeRecharge_writes h hws
  case chargeSourceLost => exact execChargeSourceLost_writes h hws
  case chargeSourceHold => exact execChargeSourceHold_writes h hws
  case chargeSourceHoldEnd => exact execChargeSourceHoldEnd_writes h hws
  case presenceTestEnd => exact execPresenceTestEnd_writes h hws
  case chargeStop => exact execChargeStop_writes h hws
  case chargeFaultClear => exact execChargeFaultClear_writes h hws
  case supplyEnergize => exact execSupplyEnergize_writes h hws
  case supplyFault => exact execSupplyFault_writes h hws
  case supplyCableRemoved => exact execSupplyCableRemoved_writes h hws
  case stationStateReaction => exact execStationStateReaction_writes h hws
  case solarStop => exact execSolarStop_writes h hws
  case solarOpenCircuitMeasure => exact execSolarOpenCircuitMeasure_writes h hws
  case solarScanStart => exact execSolarScanStart_writes h hws
  case reverseTransferStart => exact execReverseTransferStart_writes h hws
  case reverseTransferStop => exact execReverseTransferStop_writes h hws
  case lvSequencerStart => exact execLvSequencerStart_writes h hws
  case dcxIbGood => exact execDcxIbGood_writes h hws
  case dcxStartTimeout => exact execDcxStartTimeout_writes h hws
  case dcxOvercurrent => exact execDcxOvercurrent_writes h hws
  case dcxWaitEnd => exact execDcxWaitEnd_writes h hws
  case offTimeComparator => exact execOffTimeComparator_writes h hws
  case syncEdge => exact execSyncEdge_writes h hws
  case syncLost => exact execSyncLost_writes h hws
  case lvCheckDone => exact execLvCheckDone_writes h hws
  case lvPowerGood => exact execLvPowerGood_writes h hws
  case lvSoftstartFail => exact execLvSoftstartFail_writes h hws
  case lvFeedLost => exact execLvFeedLost_writes h hws
  case lvOvervoltage => exact execLvOvervoltage_writes h hws
  case lvSupervisorFire => exact execLvSupervisorFire_writes h hws
  case lvStop => exact execLvStop_writes h hws
  case shipModeArm => exact execShipModeArm_writes h hws
  case shipModeBswOpen => exact execShipModeBswOpen_writes h hws
  case longPress => exact execLongPress_writes h hws
  case longPressBswOpen => exact nomatch hws
  case longPressBswClose => exact execLongPressBswClose_writes h hws
  case shiftStart => exact execShiftStart_writes h hws
  case shiftTestPulseEnd => exact execShiftTestPulseEnd_writes h hws
  case shiftRestEnd => exact execShiftRestEnd_writes h hws
  case shiftDecayFail => exact execShiftDecayFail_writes h hws
  case shiftSectorDecision => exact execShiftSectorDecision_writes h hws
  case commutation => exact execCommutation_writes h hws
  case forcedCommutation => exact execForcedCommutation_writes h hws
  case shiftInBand => exact execShiftInBand_writes h hws
  case shiftStall => exact execShiftStall_writes h hws
  case shiftSensorFault => exact execShiftSensorFault_writes h hws
  case shiftRetryWaitEnd => exact execShiftRetryWaitEnd_writes h hws
  case parkDriveStart => exact execParkDriveStart_writes h hws
  case parkPositionReached => exact execParkPositionReached_writes h hws
  case parkTimeout => exact execParkTimeout_writes h hws
  case parkBrakeEnd => exact execParkBrakeEnd_writes h hws
  case parkDiscrepancy => exact execParkDiscrepancy_writes h hws
  case clutchOpenDetect => exact execClutchOpenDetect_writes h hws
  case pumpEvaluation => exact execPumpEvaluation_writes h hws
  case pumpAlignEnd => exact execPumpAlignEnd_writes h hws
  case pumpRampEnd => exact execPumpRampEnd_writes h hws
  case pumpRetryWaitEnd => exact execPumpRetryWaitEnd_writes h hws
  case pumpSpeedFault => exact execPumpSpeedFault_writes h hws
  case troikaMismatch => exact execTroikaMismatch_writes h hws
  case noMajorityMismatch => exact execNoMajorityMismatch_writes h hws
  case rejoinRequest => exact execRejoinRequest_writes h hws
  case forcedBarrier => exact execForcedBarrier_writes h hws
  case rejoinDone => exact execRejoinDone_writes h hws
  case reharnessFence => exact execReharnessFence_writes h hws
  case reharnessDone => exact execReharnessDone_writes h hws
  case wfi => exact execWfi_writes h hws
  case teamARelease => exact execTeamARelease_writes h hws
  case machineTimerInterrupt => exact execMachineTimerInterrupt_writes h hws
  case softwareInterrupt => exact execSoftwareInterrupt_writes h hws
  case watchdogService => exact nomatch hws
  case watchdogWarning => exact execWatchdogWarning_writes h hws
  case watchdogExpiry => exact nomatch hws
  case safetyLock => exact execSafetyLock_writes h hws
  case clockSupervisorTrip => exact execClockSupervisorTrip_writes h hws
  case martingaleTick => exact execMartingaleTick_writes h hws
  case speedInvalid => exact execSpeedInvalid_writes h hws
  case speedValid => exact execSpeedValid_writes h hws
  case ss1RampEnd => exact execSs1RampEnd_writes h hws
  case faultReport => exact execFaultReport_writes h hws
  case martingaleFatalReset => exact nomatch hws
  case mgReps => exact execMgReps_writes h hws
  case mgRepa => exact execMgRepa_writes h hws
  case mgGtrip => exact execMgGtrip_writes h hws
  case mgClr => exact execMgClr_writes h hws
  case mgSelWrite => exact execMgSelWrite_writes h hws
  case slpReferenceSet => exact execSlpReferenceSet_writes h hws
  case moduleDischargeRequest => exact execModuleDischargeRequest_writes h hws
  case safetyInputSample => exact execSafetyInputSample_writes h hws
  case contactFilterExpiry => exact execContactFilterExpiry_writes h hws
  case inputDiscrepancyTimeout => exact execInputDiscrepancyTimeout_writes h hws
  case inputFaultRecovery => exact execInputFaultRecovery_writes h hws
  case safetyOutputTest => exact execSafetyOutputTest_writes h hws
  case safetyOutputTestEnd => exact execSafetyOutputTestEnd_writes h hws
  case safetyOutputFaultClear => exact execSafetyOutputFaultClear_writes h hws
  case selfTestStart => exact execSelfTestStart_writes h hws
  case selfTestDone => exact execSelfTestDone_writes h hws
  case zoneEvaluation => exact execZoneEvaluation_writes h hws
  case eventRecordCopy => exact execEventRecordCopy_writes h hws
  case busEnable => exact execBusEnable_writes h hws
  case busIntegrationDone => exact execBusIntegrationDone_writes h hws
  case frameReceived => exact execFrameReceived_writes h hws
  case rxObjectConsume => exact execRxObjectConsume_writes h hws
  case transmitObjectDue => exact execTransmitObjectDue_writes h hws
  case transmitSend => exact execTransmitSend_writes h hws
  case frameTransmitted => exact execFrameTransmitted_writes h hws
  case frameTxFailure => exact execFrameTxFailure_writes h hws
  case frameAbandon => exact execFrameAbandon_writes h hws
  case busOffRecovery => exact execBusOffRecovery_writes h hws
  case busSleep => exact execBusSleep_writes h hws
  case busWake => exact execBusWake_writes h hws
  case bus0WakeFrame => exact execBus0WakeFrame_writes h hws
  case ping => exact execPing_writes h hws
  case setMode => exact execSetMode_writes h hws
  case capRead => exact execCapRead_writes h hws
  case swReset => exact execSwReset_writes h hws
  case sigRead => exact execSigRead_writes h hws
  case sigWrite => exact execSigWrite_writes h hws
  case sigSubscribe => exact execSigSubscribe_writes h hws
  case sigUnsubscribe => exact execSigUnsubscribe_writes h hws
  case setTorque => exact execSetTorque_writes h hws
  case setSpeed => exact execSetSpeed_writes h hws
  case setCtrlMode => exact execSetCtrlMode_writes h hws
  case setDirection => exact execSetDirection_writes h hws
  case setTorqueLimits => exact execSetTorqueLimits_writes h hws
  case setChargeLimits => exact execSetChargeLimits_writes h hws
  case setInputLimit => exact execSetInputLimit_writes h hws
  case setSupply => exact execSetSupply_writes h hws
  case clearLockout => exact execClearLockout_writes h hws
  case setNetVoltage => exact execSetNetVoltage_writes h hws
  case setLvRun => exact execSetLvRun_writes h hws
  case lvClear => exact execLvClear_writes h hws
  case shiftTo => exact execShiftTo_writes h hws
  case parkReq => exact execParkReq_writes h hws
  case clutchReq => exact execClutchReq_writes h hws
  case pumpDemand => exact execPumpDemand_writes h hws
  case safetyCfg => exact execSafetyCfg_writes h hws
  case safetyClear => exact execSafetyClear_writes h hws
  case nvmRead => exact execNvmRead_writes h hws
  case nvmWrite => exact execNvmWrite_writes h hws
  case fwBlock => exact execFwBlock_writes h hws
  case fwActivate => exact execFwActivate_writes h hws
  case sessionOpen => exact execSessionOpen_writes h hws
  case sessionProof => exact execSessionProof_writes h hws
  case sessionClose => exact execSessionClose_writes h hws
  case attest => exact execAttest_writes h hws
  case keyWrite => exact execKeyWrite_writes h hws
  case counterRead => exact execCounterRead_writes h hws
  case probeStart => exact execProbeStart_writes h hws
  case traceCfg => exact execTraceCfg_writes h hws
  case traceRead => exact execTraceRead_writes h hws
  case bridleCommit => exact nomatch hws
  case sessionIdleTimeout => exact execSessionIdleTimeout_writes h hws
  case sessionOpenTimeout => exact execSessionOpenTimeout_writes h hws
  case authLockEnd => exact execAuthLockEnd_writes h hws
  case brdFwqRead => exact execBrdFwqRead_writes h hws
  case firmwarePendingWrite => exact execFirmwarePendingWrite_writes h hws
  case firmwareAnswer => exact execFirmwareAnswer_writes h hws
  case firmwareAnswerTimeout => exact execFirmwareAnswerTimeout_writes h hws
  case firmwareWorkDone => exact execFirmwareWorkDone_writes h hws
  case bridleDisable => exact execBridleDisable_writes h hws
  case bootConfirm => exact execBootConfirm_writes h hws
  case imageVerify => exact execImageVerify_writes h hws
  case imageVerifyDone => exact execImageVerifyDone_writes h hws
  case measurementExtend => exact execMeasurementExtend_writes h hws
  case debugChallengeRead => exact execDebugChallengeRead_writes h hws
  case debugUnlock => exact execDebugUnlock_writes h hws
  case debugUnlockDone => exact execDebugUnlockDone_writes h hws
  case debugReset => exact nomatch hws
  case boscTrimMeasure => exact execBoscTrimMeasure_writes h hws
  case referenceLoss => exact execReferenceLoss_writes h hws
  case clockRampStep => exact execClockRampStep_writes h hws
  case pllLock => exact execPllLock_writes h hws
  case referenceOk => exact execReferenceOk_writes h hws
  case referenceReturn => exact execReferenceReturn_writes h hws
  case clockDividerWrite => exact execClockDividerWrite_writes h hws
  case clockGateWrite => exact execClockGateWrite_writes h hws
  case powerRequest => exact execPowerRequest_writes h hws
  case domainTransitionDone => exact execDomainTransitionDone_writes h hws
  case domainReinitDone => exact nomatch hws
  case wakePinRise => exact execWakePinRise_writes h hws
  case plugDetection => exact execPlugDetection_writes h hws
  case rtcAlarm => exact execRtcAlarm_writes h hws
  case vsupQualified => exact execVsupQualified_writes h hws
  case startupDomainsUp => exact nomatch hws
  case strapEnd => exact execStrapEnd_writes h hws
  case stage1Entry => exact execStage1Entry_writes h hws
  case bootFailure => exact nomatch hws
  case softwareReset => exact nomatch hws
  case warmReset => exact execWarmReset_writes h hws
  case powerFailWarning => exact execPowerFailWarning_writes h hws
  case brownOut => exact nomatch hws
  case vbatkApplied => exact nomatch hws
  case btnPressWake => exact execBtnPressWake_writes h hws
  case protocolException => exact execProtocolException_writes h hws
  case receiveError => exact execReceiveError_writes h hws
  case valleyLimitRelease => exact execValleyLimitRelease_writes h hws
  case nvmProgramDone => exact nomatch hws
  case doubleBitL1Error => exact execDoubleBitL1Error_writes h hws
  all_goals exact absurd hregs Bool.false_ne_true

/-- Settles O6: what a command does to the registers is a chain of writes to registers of its list. -/
theorem commandRegisters : Obligations.CommandRegisters := by
  unfold Obligations.CommandRegisters
  intro s t c ws h ht hws a ha
  by_cases hregs : Part.regs ∈ c.parts
  · refine (writes_registers h hws (decide_eq_true hregs) t ht).2 a (fun hlisted => ?_)
    obtain ⟨r, hr, hra⟩ := hlisted
    exact ha r hr hra
  · exact rd_congr ((commandParts s t c ht).2.2 .regs hregs) a

end Sys2Proof.Machine
end
